-- ==== Sys2Proof/Word.lean ====
section
/-! DEFINITION. The 32-bit register word, the byte, and their plainest arithmetic. -/
namespace Sys2Proof

/-- A register word (00_scope.md, Notation: registers are 32 bits wide). -/
abbrev Word := BitVec 32

/-- A byte of memory. -/
abbrev Byte := BitVec 8

/-- The field of `w` bits at bit `lo` of a word, as a number. -/
def Word.fld (x : Word) (lo w : Nat) : Nat := (x.toNat / 2 ^ lo) % 2 ^ w

/-- A word of ones in the `w` bits from bit `lo`. -/
def Word.mask (lo w : Nat) : Word := BitVec.ofNat 32 ((2 ^ w - 1) * 2 ^ lo)

/-- `x` with the field of `w` bits at bit `lo` replaced by `v` (its low `w` bits). -/
def Word.ins (x : Word) (lo w v : Nat) : Word :=
  (x &&& ~~~(Word.mask lo w)) ||| BitVec.ofNat 32 ((v % 2 ^ w) * 2 ^ lo)

/-- `new` where the mask has ones, `old` elsewhere. -/
def Word.merge (m old new : Word) : Word := (old &&& ~~~m) ||| (new &&& m)

end Sys2Proof
end

