-- ==== Sys2Proof/Syntax.lean ====
section
/-! DEFINITION. The commands of the block, one constructor for each row of opcode_table.json, with their operands.
Instances are bounded by their types; what is left to check of a command is in WellFormed.lean. -/
namespace Sys2Proof

/-- Who accesses a register (01_register_pages.md R15, R16; 02_islands_and_credits.md R50). -/
inductive Req where
  | apc0 | apc1 | sage | hrp
  deriving DecidableEq, Repr

/-- The width of an access: a byte, a halfword, a whole 32-bit word (01_register_pages.md R15). -/
inductive AccSize where
  | byte | half | word
  deriving DecidableEq, Repr

/-- Where an access goes (01_register_pages.md R15): its address and its width. -/
structure BusAddr where
  at_ : Nat
  sz : AccSize
  deriving DecidableEq, Repr

/-- What a register write brings (01_register_pages.md R27): the word written, and the W1C bits that hardware sets in the same cycle. -/
structure WrWord where
  d : BitVec 32
  hw : BitVec 32
  deriving DecidableEq, Repr

/-- The register blocks with a header page (01_register_pages.md R14). -/
inductive Block where
  | sys | hpm | fab | thy | ndl | eng | giu | adc (u : Fin 4) | fbi | amu | can (c : Fin 4) | msio | pair | recorder | bist
  | sage | apc | hrp
  deriving DecidableEq, Repr

/-- The islands by their index (02_islands_and_credits.md R43): 0 HPM to 15 BIST, and 16, the kernel store's warden. -/
abbrev Island := Fin 17

/-- What a fabric request asks for (02_islands_and_credits.md R54, R68): whether it reads ID or WARDEN, and its address. -/
structure FabAddr where
  idw : Bool
  a : Nat
  deriving DecidableEq, Repr

/-- Where an input item of a context comes from (03_basil_control_engine.md R77). -/
inductive InSrc where
  | ndl | adc | fbi | giu | pair
  deriving DecidableEq, Repr

/-- The compare registers of a leg (06_thyme_and_pwm.md R236). -/
inductive CmpReg where
  | on | off | lon | loff
  deriving DecidableEq, Repr

/-- What can assert as a trip source (07_trips_and_leg_protection.md R238): a routed source by its number, or a leg's own. -/
inductive TripSrc where
  | routed (s : Fin 96)
  | desatH (n : Fin 128) | desatL (n : Fin 128) | uvloH (n : Fin 128) | uvloL (n : Fin 128) | ot (n : Fin 128)
  deriving DecidableEq, Repr

/-- What an armed clear belongs to (07_trips_and_leg_protection.md R250). -/
inductive ClrTarget where
  | leg (n : Fin 128) | group (m : Fin 32)
  deriving DecidableEq, Repr

/-- A link port of a satellite (08_ndotar_drive_link.md R268, R310). -/
inductive SatPort where
  | a | b
  deriving DecidableEq, Repr

/-- An end of an NDL link: the hub's port, or a link port of the satellite on it. -/
inductive LinkEnd where
  | hub (p : Fin 32) | sat (p : Fin 32) (x : SatPort)
  deriving DecidableEq, Repr

/-- A character of a slot (08_ndotar_drive_link.md R269, R270): a data character, K28.5, or, at a receiver, anything else: a code or
disparity error or another control character. -/
inductive Chr where
  | data (b : BitVec 8) | k28_5 | bad
  deriving DecidableEq, Repr

/-- A slot that arrives at an end of a link (08_ndotar_drive_link.md R270): the characters received. -/
structure RxSlot where
  e : LinkEnd
  cs : List Chr
  deriving DecidableEq, Repr

/-- The link header a cell carries (08_ndotar_drive_link.md R272, R273): sequence number, acknowledgement, nak; tok and react, which
are reserved on the downlink. -/
structure CellHdr where
  seq : Fin 16
  ack : Fin 16
  nak : Bool
  tok : Bool
  react : Bool
  deriving DecidableEq, Repr

/-- The outcome a RESULT cell reports (08_ndotar_drive_link.md R274, R290, R291). -/
inductive EdgeOut where
  | retracted | tooLate | unknown | lateOn | lateOff | suppressed | notOwner
  deriving DecidableEq, Repr

/-- A lockstep pair (09_sage_and_safe_states.md R326). -/
inductive CorePair where
  | apc (i : Fin 2) | sage
  deriving DecidableEq, Repr

/-- A watchdog (09_sage_and_safe_states.md R352, R353). -/
inductive Dog where
  | sage | apc (i : Fin 2)
  deriving DecidableEq, Repr

/-- What a Sage event names (09_sage_and_safe_states.md R335; kinds as in record SAGE_EVT, R534). -/
inductive SageName where
  | none | leg (n : Fin 128) | gate (c : Fin 256) | port (p : Fin 32) | ctx (k : Fin 128) | unit (u : Fin 8)
  | other (i : Fin 65536)
  deriving DecidableEq, Repr

/-- The entry of a leg in a SET record (10_lovage_pairing.md R366): compare values, and the low-side ones of a leg in INDEP
mode. -/
structure LegSet where
  leg : Fin 128
  on : BitVec 32
  off : BitVec 32
  lon : BitVec 32
  loff : BitVec 32
  deriving DecidableEq, Repr

/-- What every record of the pair link carries in its header (10_lovage_pairing.md R365): the sequence number, and flags[0],
the sender is PRIME. -/
structure RecHdr where
  seq : Fin 65536
  prime : Bool
  deriving DecidableEq, Repr

/-- The ramp registers R458 guards (13_feedback_and_aux_axes.md). -/
inductive RampReg where
  | d1 | d2 | vBreak | vStop
  deriving DecidableEq, Repr

/-- A CAN frame as received (14_can.md R472, R479): identifier in the MB_ID format, DLC, FDF, BRS, ESI, data bytes. -/
structure CanFrame where
  id : BitVec 32
  dlc : Fin 16
  fdf : Bool
  brs : Bool
  esi : Bool
  data : List (BitVec 8)
  deriving DecidableEq, Repr

/-- The kind of a detected CAN error (14_can.md R492, ECNT). -/
inductive CanErr where
  | bit | stuffForm | crc | ack
  deriving DecidableEq, Repr

/-- The field of the frame an error lies in, and whether this controller transmits it (14_can.md R486). -/
inductive CanField where
  | txArbitration | txControl | txData | txOther | rx
  deriving DecidableEq, Repr

/-- The commands of the block: one constructor for each row of the table of operations and events. -/
inductive Instr where
  /-- REGISTER_WRITE (R26): A write to a register that has no row of its own is serialised and executed atomically,
  into its effective value or its shadow. -/
  | registerWrite (r : Req) (a : BusAddr) (d : WrWord)
  /-- READ_CLEAR (R27): A read of an RC field returns its value and clears it, and an event in the same cycle stays
  for the next read. -/
  | readClear (r : Req) (a : BusAddr) (ev : Option (BitVec 32))
  /-- THY_NOW_READ (R201): A read of THY_NOW_LO returns the low tick bits and latches the high and fine bits for the
  same requester. -/
  | thyNowRead (r : Req)
  /-- CTRL_SRST (R55): A write of CTRL.srst starts the warden sequence of the island, unless R62 refuses it. -/
  | ctrlSrst (r : Req) (b : Block)
  /-- TMR_CLR (R17): A write of CTRL.tmr_clr clears TMR_STAT of the block. -/
  | tmrClr (r : Req) (b : Block)
  /-- CRC_EN (R30): A write of CTRL.crc_en starts or stops the running configuration CRC of the block. -/
  | crcEn (r : Req) (b : Block) (on : Bool)
  /-- COMMIT (R21): A COMMIT with go = 1 makes the next generation pending, or is refused under R22. -/
  | commit (r : Req) (b : Block) (gen : Fin 256)
  /-- COMMIT_ABORT (R23): A COMMIT with abort = 1 discards the pending commit and returns the CMT shadows to their
  effective values. -/
  | commitAbort (r : Req) (b : Block)
  /-- BLOCK_BOUNDARY (R20): At a block's boundary its BND shadows take effect and a pending commit applies. -/
  | blockBoundary (b : Block)
  /-- TMR_SCRUB (R28): In each 1 ms housekeeping round every RWT field is voted, corrected and counted. -/
  | tmrScrub
  /-- CRC_PASS (R31): A completed CRC pass writes CRC_NOW and compares it with CRC_REF. -/
  | crcPass (b : Block)
  /-- HRP_READ (R37): An HRP read transaction checks the host CRC and reads up to 64 words. -/
  | hrpRead (a : BitVec 32) (len : Nat) (crc : BitVec 16)
  /-- HRP_WRITE (R37): An HRP write transaction checks the host CRC and writes up to 64 words, stopping at the first
  refused word. -/
  | hrpWrite (a : BitVec 32) (ws : List (BitVec 32)) (crc : BitVec 16)
  /-- HRP_CS_ABORT (R40): HRP_CS_N rising before the target CRC keeps executed writes and discards the remaining read
  data. -/
  | hrpCsAbort (sent : Nat)
  /-- REQUEST_ARRIVAL (R54): A fabric request arriving at a warden is accepted, or is answered ABSENT when the warden
  is not in RUN. -/
  | requestArrival (q : Island) (i : Island) (urg : Bool) (tag : Nat) (ep : Nat) (idw : FabAddr)
  /-- REPLY (R57): A reply at the requester's warden is delivered, or is discarded on an epoch mismatch. -/
  | reply (q : Island) (i : Island) (urg : Bool) (tag : Nat) (ep : Nat)
  /-- CLOCK_GATE (R53): An island that has been idle for 1 µs closes its clock gate. -/
  | clockGate (i : Island)
  /-- DRAIN_COMPLETE (R55): When every accepted request has been answered, the warden enters RETIRE and increments the
  epoch. -/
  | drainComplete (i : Island)
  /-- DRAIN_TIMEOUT (R55): When T_drain elapses in DRAIN, the warden enters RETIRE and sets FAB_ERR.drain_to. -/
  | drainTimeout (i : Island)
  /-- RETIRE_COMPLETE (R56): After RETIRED replies and credit returns, the warden enters ABSENT and holds, stops or
  powers down the island. -/
  | retireComplete (i : Island)
  /-- RETIRE_OVERTIME (R64): A warden that stays in RETIRE for more than 2 µs causes a fabric fault. -/
  | retireOvertime (i : Island)
  /-- RESET_RELEASE (R55): After the reset has been held for 64 island clock periods, the warden returns from ABSENT
  to RUN. -/
  | resetRelease (i : Island)
  /-- CREDIT_AUDIT (R63): Each link is audited once per audit period for the credit and reply-slot equalities. -/
  | creditAudit
  /-- ADMIT (R87): ADMIT computes the context's load and checks, and moves it from OFF to ADMITTED or refuses it. -/
  | admitCtx (r : Req)
  /-- START (R74): START moves a context from ADMITTED to RUN at its next sample instant. -/
  | startCtx (r : Req)
  /-- STOP (R74): STOP moves a context from RUN to ADMITTED once the step in flight is sealed or cancelled. -/
  | stopCtx (r : Req)
  /-- RELEASE (R73): RELEASE moves a context from ADMITTED or HALT to OFF. -/
  | releaseCtx (r : Req)
  /-- CLEAR (R73): CLEAR moves a context from HALT to ADMITTED when its machine group is in a safe state. -/
  | clearCtx (r : Req)
  /-- TRIG (R81): TRIG gives a SW-triggered context a sample instant, unless it comes sooner than the declared period.
  -/
  | trig (r : Req)
  /-- SAMPLE_INSTANT (R81): A context reaches a sample instant from its TBG, timer or software source. -/
  | sampleInstant (k : Fin 128)
  /-- BASIL_INPUT (R83): An input item from NDL, ADC, FBI, GIU or PAIR arrives at Basil and fills its binding slot. -/
  | basilInput (src : InSrc) (inst : Nat) (sel : Nat) (raw : BitVec 32) (pred : Bool)
  /-- STEP_RELEASE (R83): A step is released when every required input is fresh. -/
  | stepRelease (k : Fin 128)
  /-- LATEST_START (R83): A step reaching its latest start is released with stale inputs, or is not run and counts as
  an overrun or as stale. -/
  | latestStart (k : Fin 128)
  /-- STEP_START (R85): The scheduler starts the earliest-deadline released step on a free lane or on a reserved lane
  pair. -/
  | stepStart
  /-- STEP_COMPLETE (R96): A completed step emits its provisional outputs, after the comparison of a privileged step.
  -/
  | stepComplete (l : Fin 4) (mis : Bool)
  /-- STEP_DEADLINE (R84): A step not completed by its deadline is aborted and counts as an overrun. -/
  | stepDeadline (k : Fin 128)
  /-- STAGE_WORD (R115): A CTX_W_PDATA write stages one parameter word for the requester and advances its address. -/
  | stageWord (r : Req) (d : BitVec 32)
  /-- PARAM_COMMIT (R109): A CTX_W_PCMT with go = 1 commits the requester's staged words at the context's next sample
  instant. -/
  | paramCommit (r : Req) (gen : Fin 256)
  /-- PARAM_ABORT (R23): A CTX_W_PCMT with abort = 1 discards the requester's staged words. -/
  | paramAbort (r : Req)
  /-- INTEGRATOR_SET (R100): A CTX_W_ITEG write sets the selected integrator at the next sample instant, or at once
  when the context is not in RUN. -/
  | integratorSet (r : Req) (v : BitVec 32)
  /-- WSEL_WRITE (R115): A change of ENG_WSEL while staged words wait discards them and sets ENG_ERR.wsel. -/
  | wselWrite (r : Req) (k : Fin 128)
  /-- KS_RELOAD_REQ (R106): ENG_KS_CTRL.req starts a kernel-store reload through warden 16 while no context is in RUN.
  -/
  | ksReloadReq (r : Req)
  /-- KS_DONE (R106): ENG_KS_CTRL.done starts the verification of the copied kernel store. -/
  | ksDone (r : Req)
  /-- KS_VERIFY (R106): The kernel-store CRC completes, and the state becomes VALID or INVALID. -/
  | ksVerify
  /-- CTX_CRC_CHECK (R114): Every 1 ms Basil checks each context's CRC and halts a context on a mismatch. -/
  | ctxCrcCheck (k : Fin 128)
  /-- PLL_STEP (R158): A PLL unit runs one step of SOGI, angle, frequency and magnitudes, updating PLL state,
  sequencer and detectors. -/
  | pllStep (u : Fin 8) (a : Option (BitVec 32)) (b : Option (BitVec 32)) (c : Option (BitVec 32))
  /-- GIU_REFERENCE (R170): A grid context's sealed current references arrive at its grid unit and arm the detector
  set. -/
  | giuReference (u : Fin 8) (id : BitVec 32) (iq : BitVec 32)
  /-- RT_ACK (R173): GIU_RT_CMD.ack releases a latched TRIP or ISLAND to WAIT_CONNECT. -/
  | rtAck (r : Req) (u : Fin 8)
  /-- MPPT_STEP (R182): A tracker in TRACK takes one incremental-conductance step every t_trk. -/
  | mpptStep (t : Fin 16)
  /-- TRACKER_ITEM (R184): A K_DCDC context's sealed voltage and current arrive at its tracker, which may freeze it.
  -/
  | trackerItem (t : Fin 16) (v : BitVec 32) (i : BitVec 32) (olim : Bool) (safe : Bool) (run : Bool)
  /-- SCAN_START (R183): A global scan starts at its scan period. -/
  | scanStart (t : Fin 16)
  /-- TRK_SCAN (R183): GIU_TRK_CMD.scan requests a scan, deferred while a scan runs or the tracker is FROZEN. -/
  | trkScan (r : Req) (t : Fin 16)
  /-- SCAN_DWELL (R183): A scan point's dwell elapses and the scan moves on, or ends and jumps or restores v_ref. -/
  | scanDwell (t : Fin 16)
  /-- TBG_START (R203): TBG[g]_CMD.start starts a stopped group at its T0, unless refused. -/
  | tbgStart (r : Req) (g : Fin 32)
  /-- TBG_STOP (R204): TBG[g]_CMD.stop stops the group at its next boundary with off-edges, unless refused. -/
  | tbgStop (r : Req) (g : Fin 32)
  /-- TBG_BOUNDARY (R213): At a group boundary the set taken at hand-off is applied and a new period or half-period
  begins. -/
  | tbgBoundary (g : Fin 32)
  /-- HAND_OFF (R212): At H(B) the PTA takes the set for the window, processes it per R207 and emits its edges and
  sample instants. -/
  | handOff (g : Fin 32)
  /-- TBG_COMMIT (R221): TBG[g]_COMMIT with go = 1 makes a group commit pending, or applies or refuses it at once for
  a stopped group. -/
  | tbgCommit (r : Req) (g : Fin 32) (gen : Fin 256)
  /-- TBG_COMMIT_ABORT (R587): TBG[g]_COMMIT with abort = 1 withdraws a pending commit or period, or is refused once
  the set is in flight. -/
  | tbgCommitAbort (r : Req) (g : Fin 32)
  /-- COMPARE_WRITE (R220): A compare register write sets the leg's shadow DIRTY, or is refused for a kernel-driven
  group. -/
  | compareWrite (r : Req) (n : Fin 128) (w : CmpReg) (v : BitVec 32)
  /-- CMP_GEN_WRITE (R220): A LEG[n]_CMP_GEN write tags the leg's compare shadow with a generation. -/
  | cmpGenWrite (r : Req) (n : Fin 128) (gen : Fin 256)
  /-- COMPARE_SET (R217): A complete compare set from a context arrives at the PTA for its target period. -/
  | compareSet (g : Fin 32)
  /-- FINE_CALIBRATION (R200): The trip delay line is calibrated against the tick in each housekeeping round. -/
  | fineCalibration (taps : Fin 128) (ok : Bool)
  /-- TRIP_SOURCE_ASSERT (R241): A filtered trip pin, fast or window comparator or satellite report asserts and its
  source acts. -/
  | tripSourceAssert (x : TripSrc)
  /-- BLANKING_END (R243): A blanking window closes after t_blank and a source still asserted acts. -/
  | blankingEnd (n : Fin 128)
  /-- TRIP_CLEAR (R249): LEG[n]_TRIP_CLR.clr clears the leg's latched sources when none is asserted. -/
  | tripClear (r : Req) (n : Fin 128)
  /-- TRIP_CLEAR_ARM (R250): LEG[n]_TRIP_CLR.clr_arm arms a deferred clear of the leg. -/
  | tripClearArm (r : Req) (n : Fin 128)
  /-- MG_TRIP_CLEAR (R249): MG[m]_TRIP_CLR.clr clears the group-level latched sources when none is asserted. -/
  | mgTripClear (r : Req) (m : Fin 32)
  /-- MG_TRIP_CLEAR_ARM (R250): MG[m]_TRIP_CLR.clr_arm arms a deferred group clear. -/
  | mgTripClearArm (r : Req) (m : Fin 32)
  /-- DEFERRED_CLEAR (R250): An armed clear takes effect at the first boundary or frame at which no latched source is
  asserted. -/
  | deferredClear (t : ClrTarget)
  /-- PULSE_OFF (R257): MG[m]_SAFE_CMD PULSE-OFF enters PULSE-OFF by software. -/
  | pulseOff (r : Req) (m : Fin 32)
  /-- ASC (R257): MG[m]_SAFE_CMD ASC enters ASC on the side of R252, unless the group is GRID_PV. -/
  | asc (r : Req) (m : Fin 32)
  /-- DISCHARGE_WINDING (R346): MG[m]_SAFE_CMD DISCHARGE WINDING starts a winding discharge, unless refused. -/
  | dischargeWinding (r : Req) (m : Fin 32)
  /-- DISCHARGE_BLEED (R346): MG[m]_SAFE_CMD DISCHARGE BLEED starts a bleed discharge, unless refused. -/
  | dischargeBleed (r : Req) (m : Fin 32)
  /-- MG_RELEASE (R258): MG[m]_SAFE_CMD RELEASE releases the group leg by leg at its boundaries, unless refused. -/
  | mgRelease (r : Req) (m : Fin 32)
  /-- PORT_ENABLE (R277): A write of NDL[p]_CTRL.en = 1 takes the port from OFF to TRAIN. -/
  | portEnable (r : Req) (p : Fin 32)
  /-- PORT_DISABLE (R277): A write of NDL[p]_CTRL.en = 0 puts the port into OFF with its lanes idle. -/
  | portDisable (r : Req) (p : Fin 32)
  /-- TRAIN_COMPLETE (R277): Both ends aligned with valid uplink FILL take the port from TRAIN to CAPS. -/
  | trainComplete (p : Fin 32)
  /-- CAPS_COMPLETE (R277): Reading SAT_ID, SAT_CAPS, SAT_ASYM and SAT_BOOTS takes the port from CAPS to TSET. -/
  | capsComplete (p : Fin 32)
  /-- TRAIN_TIMEOUT (R277): A port that has not reached UP within 1 ms enters LOSS. -/
  | trainTimeout (p : Fin 32)
  /-- LOSS_RETRAIN (R277): A port in LOSS with auto = 1 returns to TRAIN after 10 µs. -/
  | lossRetrain (p : Fin 32)
  /-- LINK_LOSS (R305): No valid uplink cell for T_loss puts the port into LOSS and asserts LINK. -/
  | linkLoss (p : Fin 32)
  /-- RESEND_TIMEOUT (R273): An oldest unacknowledged sequenced cell that has waited 1 µs makes the sender resend its
  window. -/
  | resendTimeout (e : LinkEnd)
  /-- CELL_SEND (R276): At a slot boundary a sender starts its highest-priority ready cell that credits and the window
  allow. -/
  | cellSend (e : LinkEnd)
  /-- EDGE (R288): The satellite checks an EDGE cell and queues it, or answers LATE_ON, LATE_OFF or NOT_OWNER. -/
  | edge (p : Fin 32) (x : SatPort) (h : CellHdr) (t : Nat) (slot : Fin 4) (ls : Bool) (on : Bool) (prof : Fin 8)
  /-- RETRACT (R290): The satellite decides a RETRACT as RETRACTED, TOO_LATE or UNKNOWN and answers with a RESULT. -/
  | retract (p : Fin 32) (x : SatPort) (h : CellHdr) (t : Nat) (slot : Fin 4) (ls : Bool) (on : Bool)
  /-- FORCE (R295): The satellite starts a FORCE hold for each masked slot, switching the off side at once and the on
  side after dly. -/
  | force (p : Fin 32) (x : SatPort) (h : CellHdr) (id : Nat) (mask : Fin 16) (pat : Nat) (mode : Nat) (dly : Nat) (fin : Nat)
  /-- SAMPLE_REQ (R297): The satellite accepts a SAMPLE_REQ for the requested slots and instant. -/
  | sampleReq (p : Fin 32) (x : SatPort) (h : CellHdr) (t : Nat) (smask : Fin 16) (qmask : Fin 16) (chk : Bool)
  /-- PROBE (R281): The satellite answers a SYNC PROBE with a SYNC_RSP carrying a2 and turn. -/
  | probe (p : Fin 32) (x : SatPort) (id : Nat)
  /-- ADJUST (R283): The satellite applies the rate of an ADJUST at once and slews corr into its local time. -/
  | adjust (p : Fin 32) (x : SatPort) (corr : Int) (rate : Int)
  /-- SYNC_SET (R283): The satellite sets its local time from a SYNC SET, only in TSET with empty queues. -/
  | syncSet (p : Fin 32) (x : SatPort) (t : Nat)
  /-- HINT_REACT (R306): The satellite stores the per-slot loss reactions and hold enables of a HINT REACT. -/
  | hintReact (p : Fin 32) (x : SatPort) (h : CellHdr) (react : Nat) (hold : Fin 16)
  /-- HINT_PERIOD (R306): The satellite stores a slot's period from a HINT PERIOD. -/
  | hintPeriod (p : Fin 32) (x : SatPort) (h : CellHdr) (slot : Fin 4) (per : Nat)
  /-- CFG_WR (R313): The satellite writes one of its registers from a CFG_WR cell. -/
  | cfgWr (p : Fin 32) (x : SatPort) (h : CellHdr) (a : Nat) (d : BitVec 32)
  /-- CFG_RD (R313): The satellite answers a CFG_RD with a CFG_RSP. -/
  | cfgRd (p : Fin 32) (x : SatPort) (h : CellHdr) (a : Nat)
  /-- CLAIM (R310): The satellite grants a CLAIM when the holder port is in loss, transfers the token and starts
  pattern hold. -/
  | claim (p : Fin 32) (x : SatPort) (h : CellHdr)
  /-- GIVE (R310): The satellite grants a GIVE from the holder when the other port is alive, and transfers the token.
  -/
  | give (p : Fin 32) (x : SatPort) (h : CellHdr)
  /-- QUERY (R310): The satellite answers a token QUERY with STATE. -/
  | query (p : Fin 32) (x : SatPort) (h : CellHdr)
  /-- FILL (R273): A satellite port receiving FILL with seq 0xF resets its sequence numbers and discards
  unacknowledged cells and credits. -/
  | fillCell (p : Fin 32) (x : SatPort) (seq : Fin 16) (ack : Fin 16) (nak : Bool)
  /-- RESULT (R291): The hub accounts a RESULT cell as retracted, executed, TOO_LATE or protocol fault. -/
  | result (p : Fin 32) (h : CellHdr) (t : Nat) (slot : Fin 4) (ls : Bool) (on : Bool) (out : EdgeOut)
  /-- STATUS (R287): The hub takes credits from a STATUS cell and checks the credit equality. -/
  | status (p : Fin 32) (h : CellHdr) (cred : Nat) (fid : Nat) (fidV : Bool) (peer : Bool) (qent : Nat) (ilk : Bool) (dlErr : Nat)
  /-- TELEM (R303): The hub maps a TELEM report to trip sources and bootstrap state and stores it. -/
  | telem (p : Fin 32) (h : CellHdr) (slot : Fin 4) (flags : Nat) (vboot : Nat) (temp : Nat) (vdrv : Nat) (dsat : Nat)
  /-- SYNC_RSP (R282): The hub computes RTT and offset from a SYNC_RSP and sends ADJUST or advances TSET. -/
  | syncRsp (p : Fin 32) (h : CellHdr) (id : Nat) (a2 : Nat) (turn : Nat) (t4 : Nat)
  /-- CFG_RSP (R313): The hub receives the data of a CFG_RSP. -/
  | cfgRsp (p : Fin 32) (h : CellHdr) (a : Nat) (d : BitVec 32)
  /-- TOKEN_RSP (R310): The hub records the result and holder of a TOKEN_RSP. -/
  | tokenRsp (p : Fin 32) (h : CellHdr) (res : Fin 4) (holder : Bool)
  /-- SAMPLE (R298): The hub matches a SAMPLE cell to its request and forwards the contents to Basil. -/
  | sampleCell (p : Fin 32) (h : CellHdr) (slot : Fin 4) (i : Int) (v : Int) (vdc : Int)
  /-- CHECK (R298): The hub forwards a CHECK cell to Sage over the dedicated path. -/
  | checkCell (p : Fin 32) (h : CellHdr) (slot : Fin 4) (i : Int) (vdc : Int) (cnt : Nat)
  /-- PROBE_PERIOD (R282): Every NDL[p]_SYNC.per µs the hub sends a SYNC PROBE on the port. -/
  | probePeriod (p : Fin 32)
  /-- HINT_REFRESH (R306): The hub resends HINT REACT every 100 µs and within 1 µs of a change. -/
  | hintRefresh (p : Fin 32)
  /-- FORCE_RESEND (R296): An unconfirmed FORCE is resent as two copies every further 1 µs. -/
  | forceResend (p : Fin 32)
  /-- EDGE_EXECUTE (R288): At an entry's time the satellite executes the edge, subject to holds and its interlock, and
  returns the credit. -/
  | edgeExecute (p : Fin 32) (x : SatPort)
  /-- SAMPLE_TAKE (R298): At a sample instant the satellite samples and sends its SAMPLE and CHECK cells. -/
  | sampleTake (p : Fin 32) (x : SatPort) (i : List Int) (v : List Int) (vdc : List Int)
  /-- FORCE_HOLD_END (R295): A timed FORCE hold or a release ends at its end time. -/
  | forceHoldEnd (p : Fin 32) (slot : Fin 4)
  /-- SUPPRESSED (R295): An entry passed inside a hold and not retracted within 5 µs is discarded and reported
  SUPPRESSED. -/
  | suppressed (p : Fin 32) (x : SatPort)
  /-- STATUS_PERIODIC (R286): The satellite sends a STATUS cell at least every 10 µs. -/
  | statusPeriodic (p : Fin 32) (x : SatPort)
  /-- TELEM_PERIODIC (R303): The satellite sends a TELEM cell for each slot every SAT_TEL.per µs. -/
  | telemPeriodic (p : Fin 32) (x : SatPort) (slot : Fin 4)
  /-- DESATURATION (R303): The satellite detects desaturation, turns the switch off with profile 7, blocks it and
  reports it. -/
  | desaturation (p : Fin 32) (slot : Fin 4) (ls : Bool)
  /-- UNDERVOLTAGE (R303): The satellite detects driver undervoltage, turns the switch off, blocks it and reports it.
  -/
  | undervoltage (p : Fin 32) (slot : Fin 4) (ls : Bool)
  /-- SAT_PORT_LOSS (R305): A satellite port without a valid cell for T_loss is in loss, and loss of the holder starts
  pattern hold. -/
  | satPortLoss (p : Fin 32) (x : SatPort)
  /-- PATTERN_HOLD_EXPIRY (R307): When T_hold elapses without a new entry, the slot takes its loss reaction. -/
  | patternHoldExpiry (p : Fin 32) (slot : Fin 4)
  /-- SAT_POWER_UP (R308): A newly powered satellite starts with empty queues, all switches off, the token at port A
  and every slot in PULSE-OFF. -/
  | satPowerUp (p : Fin 32)
  /-- BANK_ACTIVATION (R301): At the activation time the satellite switches its gate-profile bank. -/
  | bankActivation (p : Fin 32) (x : SatPort)
  /-- NDL_TOKEN_CLAIM (R319): NDL[p]_TOKEN op CLAIM sends a TOKEN CLAIM cell, unless refused. -/
  | ndlTokenClaim (r : Req) (p : Fin 32)
  /-- NDL_TOKEN_GIVE (R319): NDL[p]_TOKEN op GIVE sends a TOKEN GIVE cell, unless refused. -/
  | ndlTokenGive (r : Req) (p : Fin 32)
  /-- NDL_TOKEN_QUERY (R319): NDL[p]_TOKEN op QUERY sends a TOKEN QUERY cell, unless refused. -/
  | ndlTokenQuery (r : Req) (p : Fin 32)
  /-- MAIN_CLOCK_CHECK (R322): Each 10 µs window Sage checks the main clock and raises MAIN_CHECK on a fault. -/
  | mainClockCheck (ticks : Nat)
  /-- SAGE_CLOCK_CHECK (R322): Each 10 µs window the HPM checks the Sage clock against XIN and engages the loss path
  on a fault. -/
  | sageClockCheck (cyc : Nat) (stopped : Bool)
  /-- SAGE_SUPPLY_CHECK (R323): A Sage comparator finds VDD_CORE or VDD_SAFE out of range for 2 µs. -/
  | sageSupplyCheck (core : Bool) (safe : Bool)
  /-- ALIVE_LOSS (R324): The HPM finds the Sage alive signal stopped or invalid and engages the Sage loss path. -/
  | aliveLoss
  /-- SAGE_RESET (R325): A Sage core's write of SAGE_CTRL.srst resets the Sage island, unless refused. -/
  | sageReset (r : Req)
  /-- ALIVE_RESUME_TIMEOUT (R325): An alive signal not resumed within 1 ms of a Sage reset engages the loss path. -/
  | aliveResumeTimeout
  /-- LOCKSTEP_MISMATCH (R329): A lockstep pair mismatch halts the pair and reaches Sage, or engages the loss path for
  Sage. -/
  | lockstepMismatch (x : CorePair) (cause : Fin 16)
  /-- LOCKSTEP_INJECT (R330): APC_LS_INJ inverts one compared bit of a pair as a detected test. -/
  | lockstepInject (r : Req) (i : Fin 2)
  /-- SAGE_LS_INJECT (R330): SAGE_LS_INJ inverts one compared bit of the Sage pair as a detected test. -/
  | sageLsInject (r : Req)
  /-- DEBUG_HALT (R331): A debug halt request is taken or ignored per pair, setting LS_BROKEN when taken. -/
  | debugHalt (x : CorePair)
  /-- SAGE_EVENT (R336): An event reaches Sage's safe-state manager and is commanded, recorded and counted per its
  map. -/
  | sageEvent (e : Fin 64) (named : SageName) (test : Bool)
  /-- TORQUE_EVALUATION (R341): When CHECK items are complete for an instant, the torque monitor computes T_mon and
  updates its timers. -/
  | torqueEvaluation (m : Fin 32)
  /-- LIVENESS (R344): A context whose sealed step count has not advanced within its limit raises LIVENESS. -/
  | liveness (k : Fin 128)
  /-- KB_SUPERVISION (R345): Every 1 ms Sage reads sealed KSTAT and raises KB_FAULT on a new kb_fault. -/
  | kbSupervision
  /-- SAGE_PULSE_OFF (R338): SAGE_MG_CMD 0x1 commands PULSE-OFF on the selected groups. -/
  | sagePulseOff (r : Req)
  /-- SAGE_ASC (R338): SAGE_MG_CMD 0x2 commands ASC on the selected groups. -/
  | sageAsc (r : Req)
  /-- SAGE_DEFAULT (R338): SAGE_MG_CMD 0x3 commands the default reaction on the selected groups. -/
  | sageDefault (r : Req)
  /-- SAGE_DISCHARGE_WINDING (R338): SAGE_MG_CMD 0x4 starts a winding discharge on the selected groups. -/
  | sageDischargeWinding (r : Req)
  /-- SAGE_DISCHARGE_BLEED (R338): SAGE_MG_CMD 0x5 starts a bleed discharge on the selected groups. -/
  | sageDischargeBleed (r : Req)
  /-- SAGE_RELEASE (R338): SAGE_MG_CMD 0x8 releases the Sage hold of the selected groups, unless a covering event is
  pending. -/
  | sageRelease (r : Req)
  /-- DISCHARGE_DONE (R348): The DC-link voltage at or below V_safe for 10 ms ends the discharge DONE. -/
  | dischargeDone (m : Fin 32)
  /-- DISCHARGE_TIMEOUT (R348): t_dis elapsed without DONE ends the discharge TIMEOUT. -/
  | dischargeTimeout (m : Fin 32)
  /-- DISCHARGE_STALL (R348): A checkpoint without enough voltage fall ends the discharge STALL. -/
  | dischargeStall (m : Fin 32)
  /-- DISCHARGE_NODATA (R348): No voltage value for 10 ms ends the discharge NODATA. -/
  | dischargeNodata (m : Fin 32)
  /-- NS_SET (R350): SAGE_NS_CMD.set sets NOT_SAFE. -/
  | nsSet (r : Req)
  /-- NS_CLEAR (R350): SAGE_NS_CMD.clr clears the event and firmware causes of NOT_SAFE when no ns event is pending.
  -/
  | nsClear (r : Req)
  /-- PIN_ASSERT (R351): SAGE_PIN_CMD.assert asserts SAFE_STATE pins. -/
  | pinAssert (r : Req) (pins : Fin 16)
  /-- PIN_RELEASE (R351): SAGE_PIN_CMD.release releases SAFE_STATE pins unless held. -/
  | pinRelease (r : Req) (pins : Fin 16)
  /-- WDG_SERVICE (R352): A key write to SAGE_WDG_SVC services the Sage watchdog, or counts as expiry when wrong or
  early. -/
  | wdgService (r : Req) (key : Fin 256)
  /-- WDG_EXPIRY (R352): wmax passing without a valid service expires the Sage watchdog and engages the loss path. -/
  | wdgExpiry
  /-- APC_WDG_SERVICE (R353): A key write to APC_WDG_SVC services an APC pair watchdog. -/
  | apcWdgService (r : Req) (i : Fin 2) (key : Fin 256)
  /-- APC_WDG_EXPIRY (R353): An APC watchdog expires and delivers APC_WDG to Sage. -/
  | apcWdgExpiry (i : Fin 2)
  /-- PAIR_JOIN (R377): PAIR_CMD JOIN starts the JOIN sequence, unless refused. -/
  | pairJoin (r : Req)
  /-- PAIR_LEAVE (R380): PAIR_CMD LEAVE makes the prime send QUIT and GIVE. -/
  | pairLeave (r : Req)
  /-- HANDOVER (R386): PAIR_CMD HANDOVER in PRIME with SYNCED sends QUIT and GIVE for a running takeover. -/
  | handover (r : Req)
  /-- YIELD (R386): PAIR_CMD YIELD sends GIVE on paired ports whose legs are all in a safe state. -/
  | yield (r : Req)
  /-- PAIR_CLAIM (R363): PAIR_CMD CLAIM makes the hub send CLAIM on every paired port. -/
  | pairClaim (r : Req)
  /-- HEART_SEND (R366): The prime sends a HEART record every 1 µs. -/
  | heartSend
  /-- HEART (R366): A received HEART record updates the last known group states. -/
  | heart (h : RecHdr) (groups : List Nat)
  /-- TIME_PROBE_SEND (R375): Every PAIR_TIMING.per µs the mirror sends a TIME PROBE. -/
  | timeProbeSend
  /-- TIME_PROBE (R375): The prime answers a TIME PROBE with a RESP within 400 ns. -/
  | timeProbe (h : RecHdr)
  /-- TIME_RESP (R375): The mirror computes e from a RESP and adjusts PAIR_DELTA or THY_SLEW. -/
  | timeResp (h : RecHdr) (a2 : Nat) (turn : Fin 65536) (t4 : Nat)
  /-- MIRROR (R372): A received MIRROR record is held as the context's tentative record. -/
  | mirror (h : RecHdr) (k : Fin 128) (step : BitVec 32) (run : Bool) (img : List (BitVec 32)) (outs : List (BitVec 32))
  /-- SEAL_RECORD (R372): A matching SEAL applies the held record to the context area. -/
  | sealRecord (h : RecHdr) (k : Fin 128) (step : BitVec 32) (run : Bool)
  /-- CANCEL_RECORD (R372): A CANCEL discards the held tentative record of its step. -/
  | cancelRecord (h : RecHdr) (k : Fin 128) (step : BitVec 32)
  /-- SET (R370): A SET record part arrives, and a complete set is applied on the mirror. -/
  | setRec (h : RecHdr) (g : Fin 32) (gen : Fin 256) (t : BitVec 32) (per : BitVec 32) (part : Nat) (parts : Nat) (legs : List LegSet)
  /-- CTRL_CHECK (R378): The prime compares a CTRL CHECK with its own values and answers CHECK_OK or CHECK_FAIL. -/
  | ctrlCheck (h : RecHdr) (v : List (BitVec 32))
  /-- CHECK_OK (R377): CTRL CHECK_OK completes the CHECK step of JOIN. -/
  | checkOk (h : RecHdr)
  /-- CHECK_FAIL (R377): CTRL CHECK_FAIL refuses JOIN and returns the link to TRAIN. -/
  | checkFail (h : RecHdr)
  /-- QUIT (R380): A received CTRL QUIT is detected as pair loss. -/
  | quit (h : RecHdr)
  /-- SYNCED (R377): A CTRL SYNCED completes JOIN and the link enters SYNCED. -/
  | synced (h : RecHdr)
  /-- BULK (R377): A BULK record copies a context's state to the mirror during JOIN. -/
  | bulk (h : RecHdr) (k : Fin 128) (step : BitVec 32) (run : Bool) (img : List (BitVec 32)) (outs : List (BitVec 32))
  /-- PAIR_LOSS (R380): No valid block for t_pl is detected as pair loss. -/
  | pairLoss
  /-- CLAIM_REPEAT (R381): During a takeover the hub repeats CLAIM every 2 µs on each denied port. -/
  | claimRepeat
  /-- TAKEOVER_WINDOW_END (R381): The 25 µs takeover window closes, latching LINK for partly granted groups and
  recording the takeover. -/
  | takeoverWindowEnd
  /-- PAIR_RETRAIN (R364): A link in LOST returns to TRAIN after 100 µs. -/
  | pairRetrain
  /-- JOIN_TIMEOUT (R364): JOIN not complete within 20 ms returns the link to TRAIN. -/
  | joinTimeout
  /-- SI_CHANGE (R393): A safety input's filtered value changes after its filter time, and the evaluators act on it.
  -/
  | siChange (i : Fin 24) (lvl : Bool)
  /-- OFF_PULSE (R402): A safety output that is high is driven low for t_pulse every t_int. -/
  | offPulse (j : Fin 16)
  /-- INPUT_TEST (R394): At the end of an off-pulse each fed input passes or fails its test. -/
  | inputTest (i : Fin 24) (pass : Bool)
  /-- SI_FAULT_CLEAR (R395): A write of 1 to MSIO_SI_FAULT clears an input fault only after a passed test. -/
  | siFaultClear (r : Req) (mask : BitVec 32)
  /-- DISCREPANCY (R397): Channels a and b differing longer than t_disc put the evaluator into FAULT. -/
  | discrepancy (k : Fin 8)
  /-- SYNC_FAIL (R399): A second hand not actuated within t_sync keeps a TWOHAND evaluator in DEMAND. -/
  | syncFail (k : Fin 8)
  /-- EV_RESET (R398): MSIO_EV_CMD.rst gives a software reset to an evaluator in WAIT_RESET. -/
  | evReset (r : Req) (mask : Fin 256)
  /-- EV_FAULT_CLEAR (R397): MSIO_EV_CMD.fclr takes an evaluator from FAULT to DEMAND when permitted. -/
  | evFaultClear (r : Req) (mask : Fin 256)
  /-- READBACK_FAULT (R403): A read-back mismatch latches STUCK_ON or STUCK_OFF and drives the output and its partner
  low. -/
  | readbackFault (j : Fin 16) (on : Bool)
  /-- SO_FAULT_CLEAR (R404): A write of 1 to an output fault bit clears it only with read-back 0 and output low. -/
  | soFaultClear (r : Req) (mask : BitVec 32)
  /-- SAFE_COPY (R409): A safe-message copy from CAN is checked and opens, completes or closes a pair window. -/
  | safeCopy (c : Fin 16) (netB : Bool) (bs : List (BitVec 8))
  /-- PAIR_WINDOW (R409): A pair window closes incomplete after t_pair and counts in miss_run. -/
  | pairWindow (c : Fin 16)
  /-- SM_TIMEOUT (R409): A receive channel in OK without an accepted pair for t_to faults TIMEOUT. -/
  | smTimeout (c : Fin 16)
  /-- SAFE_SEND (R410): A transmit channel sends a safe frame on both networks periodically or on a change. -/
  | safeSend (c : Fin 16)
  /-- REARM (R411): MSIO_SM_CMD.rearm takes a channel from FAULT to WAIT. -/
  | rearm (r : Req) (c : Fin 16)
  /-- ADC_REQUEST (R423): A GIU conversion request arrives at a unit and is queued or aborted QFULL. -/
  | adcRequest (u : Fin 4) (j : Fin 20)
  /-- SEQUENCE_TRIGGER (R429): A timer, period start, TRG0 or TRG1 trigger starts a run of a sequence. -/
  | sequenceTrigger (u : Fin 4) (s : Fin 8)
  /-- SWTRIG (R429): A bit written to ADC[u]_SWTRIG starts a run of that sequence. -/
  | swtrig (r : Req) (u : Fin 4) (mask : Fin 256)
  /-- SPREAD_RUN (R431): A SPREAD instant within the period starts one run of the sequence. -/
  | spreadRun (u : Fin 4) (s : Fin 8) (first : Bool)
  /-- CONVERSION_START (R423): A waiting request takes the lowest free slice, or an urgent one preempts a normal
  conversion. -/
  | conversionStart (u : Fin 4)
  /-- CONVERSION_COMPLETE (R418): A conversion result becomes available and updates results, averagers, comparators
  and consumers. -/
  | conversionComplete (u : Fin 4) (sl : Fin 4) (raw : Int)
  /-- LATE_ABORT (R425): An urgent or preempted request still waiting t_late after its request instant ends ABORTED
  LATE. -/
  | lateAbort (u : Fin 4)
  /-- STREAM_AVERAGE (R420): In INTERLEAVED mode the stream averager delivers the mean of 2^s_k samples. -/
  | streamAverage (u : Fin 4) (sum : Int)
  /-- ADC_RECORD_SEND (R433): A waiting result record is sent to Basil when the link has a credit. -/
  | adcRecordSend (u : Fin 4)
  /-- RESOLVER_SAMPLE (R439): At its excitation phase instants a resolver channel issues its urgent conversions. -/
  | resolverSample (u : Fin 4) (ch : Fin 2) (half : Bool)
  /-- ENCODER_EDGE (R446): A filtered encoder, pulse or Hall edge is counted or flagged as a counting error. -/
  | encoderEdge (c : Fin 16) (a : Bool) (b : Bool) (z : Bool) (t : Nat)
  /-- INDEX_EVENT (R448): An index edge latches the count and may load FB[c]_IDX_VAL. -/
  | indexEvent (c : Fin 16)
  /-- FB_ARM (R448): FB[c]_CMD.arm arms a ONCE index reset. -/
  | fbArm (r : Req) (c : Fin 16)
  /-- FB_CLR (R466): FB[c]_CMD.clr clears qerr, hall_err and idx_done. -/
  | fbClr (r : Req) (c : Fin 16)
  /-- FB_PRESET (R466): FB[c]_CMD.preset loads the counter with FB[c]_IDX_VAL. -/
  | fbPreset (r : Req) (c : Fin 16)
  /-- RESOLVER_ENVELOPE (R451): A resolver envelope arrives and the tracking loop updates angle and speed. -/
  | resolverEnvelope (n : Fin 8) (sn : Int) (cs : Int) (los : Bool) (t : Nat)
  /-- RESOLVER_STALE (R452): No envelope for 3 excitation periods makes a resolver channel invalid. -/
  | resolverStale (n : Fin 8)
  /-- EMULATION_EDGE (R453): An emulation output issues one quadrature edge per backlog count, spaced by gap. -/
  | emulationEdge (e : Fin 4)
  /-- MOVE (R457): AX[k]_CMD MOVE starts a ramped motion to the latched target, unless refused. -/
  | moveAxis (r : Req) (k : Fin 8)
  /-- RUN_FORWARD (R457): AX[k]_CMD RUN forward starts a motion at v_max forward. -/
  | runForward (r : Req) (k : Fin 8)
  /-- RUN_BACKWARD (R457): AX[k]_CMD RUN backward starts a motion at v_max backward. -/
  | runBackward (r : Req) (k : Fin 8)
  /-- AXIS_STOP (R457): AX[k]_CMD STOP decelerates the axis at once to v_stop. -/
  | axisStop (r : Req) (k : Fin 8)
  /-- AXIS_HALT (R457): AX[k]_CMD HALT issues no further step. -/
  | axisHalt (r : Req) (k : Fin 8)
  /-- HOME_FORWARD (R459): AX[k]_CMD HOME forward starts a homing motion at v_home forward. -/
  | homeForward (r : Req) (k : Fin 8)
  /-- HOME_BACKWARD (R459): AX[k]_CMD HOME backward starts a homing motion at v_home backward. -/
  | homeBackward (r : Req) (k : Fin 8)
  /-- CHOP_FAULT_CLEAR (R457): AX[k]_CMD 0x8 clears a chopper fault whose cause has gone. -/
  | chopFaultClear (r : Req) (k : Fin 8)
  /-- STEP_TIMER (R455): The step timer elapses, the axis issues a step and computes the next rate and segment. -/
  | stepTimer (k : Fin 8)
  /-- RAMP_WRITE (R458): A write to d1, d2, v_break or v_stop during motion is applied or refused. -/
  | rampWrite (r : Req) (k : Fin 8) (w : RampReg) (v : BitVec 32)
  /-- LIMIT (R459): A filtered limit input stops motion in its direction, hard or ramped. -/
  | limit (k : Fin 8) (pos : Bool) (lvl : Bool)
  /-- HOME_EDGE (R459): The home input's active edge latches the position and stops a homing motion. -/
  | homeEdge (k : Fin 8) (lvl : Bool)
  /-- CHOP_COMPARATOR (R460): A chopper comparator crossing after t_blank switches a phase between DRIVE and DECAY. -/
  | chopComparator (k : Fin 8) (phB : Bool) (above : Bool)
  /-- CHOP_FAULT (R460): A DRIVE longer than 200 µs halts the axis with a chopper fault. -/
  | chopFault (k : Fin 8)
  /-- HOLD_CURRENT (R460): An axis idle for t_hold_cur switches its chopper reference to i_hold. -/
  | holdCurrent (k : Fin 8)
  /-- FRAME_RECEIVED (R479): A frame received without error is placed in a buffer or the FIFO, or counted as filtered
  or dropped. -/
  | frameReceived (c : Fin 4) (f : CanFrame) (sof : Nat)
  /-- FRAME_TRANSMITTED (R482): A successful transmission clears pend, writes the timestamp and counts TX_OK. -/
  | frameTransmitted (c : Fin 4) (sof : Nat)
  /-- BUS_ERROR (R484): A detected CAN error updates the error counters and may count an IDCOLL or enter BUS_OFF. -/
  | busError (c : Fin 4) (kind : CanErr) (recessive : Bool) (field : CanField)
  /-- INTEGRATION (R473): After 11 consecutive recessive bits a controller leaving INIT takes part in bus traffic. -/
  | integration (c : Fin 4)
  /-- BUS_OFF_RECOVERY (R485): After 128 occurrences of 11 recessive bits the controller returns to ERROR_ACTIVE. -/
  | busOffRecovery (c : Fin 4)
  /-- TX_REQUEST (R482): CAN[c]_MB_CMD op 1 makes a transmit buffer pending, unless refused. -/
  | txRequest (r : Req) (c : Fin 4) (b : Fin 64)
  /-- TX_ABORT (R483): CAN[c]_MB_CMD op 2 aborts a pending transmission. -/
  | txAbort (r : Req) (c : Fin 4) (b : Fin 64)
  /-- RECOVER (R485): CAN[c]_CMD.recover starts bus-off recovery, or is refused outside BUS_OFF. -/
  | recover (r : Req) (c : Fin 4)
  /-- POP (R481): CAN[c]_CMD.pop removes the FIFO head. -/
  | pop (r : Req) (c : Fin 4)
  /-- EPISODE_START (R495): A rail below its warning level or PWRFAIL_N low for 1 µs starts a brown-out warning
  episode. -/
  | episodeStart (rail : Fin 7) (mv : Nat)
  /-- EPISODE_END (R497): After 100 µs of recovered rails the episode ends and gating and suspension are removed. -/
  | episodeEnd
  /-- SUPPLY_RESET (R494): A rail at or below its reset level for 1 µs causes a device reset with cause supply. -/
  | supplyReset
  /-- UNSTABLE_CLEAR (R498): A write of 1 to HPM_SUP_STAT.unstable clears it when fewer than eight episodes started in
  10 s. -/
  | unstableClear (r : Req)
  /-- OPSEC_PERSIST (R499): Every 60 s the HPM persists the operating-second count. -/
  | opsecPersist
  /-- POWER_DOWN (R501): A cleared bit of HPM_PD_CTRL powers a domain down through the warden sequence, unless
  refused. -/
  | powerDown (r : Req) (d : Fin 12)
  /-- POWER_UP (R501): A set bit of HPM_PD_CTRL powers a domain up and resets its islands. -/
  | powerUp (r : Req) (d : Fin 12)
  /-- LTR_WRITE (R503): A write of HPM_LTR reselects and moves to the deepest permitted power state. -/
  | ltrWrite (r : Req) (ltr : BitVec 32)
  /-- POWER_STATE_SELECT (R503): A change of entry conditions makes the HPM select and move to the deepest permitted
  power state. -/
  | powerStateSelect
  /-- WAKE (R504): An enabled wake event ends a state below RUN. -/
  | wake (src : Fin 8)
  /-- WAKE_TIMER (R504): HPM_WAKE_TMR elapses and wakes the device. -/
  | wakeTimer
  /-- XIN_LOSS (R506): No XIN edge for 400 ns moves the HPM to its RC oscillator and sets the clock error. -/
  | xinLoss
  /-- PLL_UNLOCK (R506): The main PLL loses lock and sets the clock error. -/
  | pllUnlock
  /-- CLOCK_RESET (R506): XIN or lock not back within 100 µs causes a device reset with cause clock. -/
  | clockReset
  /-- POWER_ON_RESET (R507): First power-up or VDDIO_33 below 2.0 V resets the device including sticky registers. -/
  | powerOnReset
  /-- PIN_RESET (R507): RESET_N low for 1 µs causes a device reset with cause pin. -/
  | pinReset
  /-- SOFTWARE_RESET (R509): SYS_RST_CMD.dev with the key causes a device reset, unless refused. -/
  | softwareReset (r : Req) (key : Nat)
  /-- APC_PAIR_RESET (R509): SYS_RST_CMD.apc0 or apc1 resets one APC pair's island and restarts it. -/
  | apcPairReset (r : Req) (i : Fin 2) (key : Nat)
  /-- DEBUG_RESET (R507): A debug module reset request in an unlocked session causes a device reset. -/
  | debugReset
  /-- BOOT (R512): After a device reset is released the boot ROM verifies images, loads sections and releases the
  cores, or enters RECOVERY. -/
  | boot (us : Nat)
  /-- THERMAL_HOLD (R522): After power-on reset the device stays in reset until every valid sensor reads below 155 °C.
  -/
  | thermalHold (ts : List Int)
  /-- PROGRAM_ROW (R516): SYS_MP_CMD op 1 with the key programs one eMRAM row, unless refused. -/
  | programRow (r : Req) (key : Nat)
  /-- RAISE_MIN_VER (R517): SYS_MP_CMD op 3 raises min_ver to the running image's version. -/
  | raiseMinVer (r : Req) (key : Nat)
  /-- ROW_COMPLETE (R516): An eMRAM row write completes on the shared write port. -/
  | rowComplete
  /-- IDCODE (R518): The JTAG IDCODE instruction shifts out 0xC256_0725. -/
  | idcode
  /-- BYPASS (R518): The JTAG BYPASS instruction selects the bypass register. -/
  | bypass
  /-- SAMPLE_PRELOAD (R518): The JTAG SAMPLE/PRELOAD instruction samples or preloads the boundary scan. -/
  | samplePreload
  /-- EXTEST (R518): The JTAG EXTEST instruction drives the boundary in an unlocked session, unless refused. -/
  | extest
  /-- DBG_CHAL (R519): DBG_CHAL shifts out a fresh 32-byte challenge. -/
  | dbgChal
  /-- DBG_RESP (R519): DBG_RESP takes a signed response and unlocks a debug session or counts a failure. -/
  | dbgResp (bs : List (BitVec 8))
  /-- THERMAL_READ (R521): Each housekeeping round the die sensors are read and the thermal level is updated. -/
  | thermalRead (ts : List Int)
  /-- I2C_TRANSFER (R527): HPM_I2C_CMD.go starts a single-register I²C transfer to the PMIC. -/
  | i2cTransfer (r : Req) (d : BitVec 32)
  /-- I2C_DONE (R527): An I²C transfer ends, with data or a NAK. -/
  | i2cDone (nak : Bool) (d : Fin 256)
  /-- RING_SEARCH (R531): After a device reset REC finds the highest valid seq in the ring and then writes a BOOT
  record. -/
  | ringSearch
  /-- REC_EVENT (R532): An event request is accepted into the Rosemary queue or counted as deferred. -/
  | recEvent (code : Fin 256) (block : Fin 256) (inst : Fin 256) (t : Nat) (pay : List (BitVec 8))
  /-- RECORD_WRITE (R533): REC writes the oldest queued record into the ring as two rows, and may freeze on its
  trigger. -/
  | recordWrite
  /-- SOFTWARE_RECORD (R535): A code written to REC_SW_CMD queues a software record, unless below 0xC0. -/
  | softwareRecord (r : Req) (code : Fin 256)
  /-- FREEZE (R539): REC_CMD.freeze freezes the ring once the record in progress is complete. -/
  | freeze (r : Req)
  /-- UNFREEZE (R539): REC_CMD.unfreeze ends a freeze and drains the queue. -/
  | unfreeze (r : Req)
  /-- CURSOR_SELECT (R540): A write of REC_CUR_IDX selects a record for copying into the cursor window. -/
  | cursorSelect (r : Req) (idx : BitVec 32)
  /-- CURSOR_NEWER (R540): REC_CUR_CMD.newer advances the cursor index by 1 and copies the record. -/
  | cursorNewer (r : Req)
  /-- CURSOR_OLDER (R540): REC_CUR_CMD.older moves the cursor index back by 1 and copies the record. -/
  | cursorOlder (r : Req)
  /-- CURSOR_COPY (R540): The cursor copy completes and crc_ok reports whether the record is valid. -/
  | cursorCopy (r : Req)
  /-- BIST_REQUEST (R544): BIST_CMD with release = 0 queues a test request, unless refused or the queue is full. -/
  | bistRequest (r : Req) (i : Fin 32) (kinds : Fin 8)
  /-- BIST_RELEASE (R550): BIST_CMD with release = 1 returns a failed island to RUN. -/
  | bistRelease (r : Req) (i : Fin 32)
  /-- BIST_START (R546): The oldest request that fits budget and stagger starts, or ends REFUSED. -/
  | bistStart
  /-- BIST_COMPLETE (R550): A test ends with a result, the island returns to RUN or stays ABSENT, and a BIST record is
  written. -/
  | bistComplete (i : Fin 32) (res : Nat) (sig : BitVec 32) (info : BitVec 32)
  /-- UPLINK_FILL (R273): The hub receives a valid uplink FILL cell, whose ack and nak advance or resend its window
  and whose arrival keeps the port out of loss. -/
  | uplinkFill (p : Fin 32) (ack : Fin 16) (nak : Bool) (tok : Bool) (react : Bool)
  /-- INVALID_SLOT (R270): A slot with a code, disparity, control-character or CRC error arrives and is discarded,
  counting in NDL[p]_CRC_ERR at the hub or in dl_err at the satellite. -/
  | invalidSlot (e : RxSlot)
  /-- SLOT_REALIGN (R270): K28.5 at one new position in two consecutive slots moves the receiver to that alignment and
  invalidates the slots in between. -/
  | slotRealign (e : LinkEnd)
  /-- PAIR_LANE_ALIGN (R362): Both pair-link lanes become aligned after 16 consecutive valid idle blocks, setting
  PAIR_STAT.link_up and letting a requested JOIN leave TRAIN. -/
  | pairLaneAlign
  /-- PAIR_RECORD_DISCARD (R367): A pair-link record with an invalid block or a wrong crc is discarded and counted in
  PAIR_REC_ERR.bad and PAIR_ERR.rec. -/
  | pairRecordDiscard
  /-- TELEM_FLAG_CHANGE (R303): A satellite's bootstrap, pump, over-temperature or undervoltage-recovery flag changes,
  and the satellite sends a priority-1 TELEM within 200 ns. -/
  | telemFlagChange (p : Fin 32) (slot : Fin 4) (flags : Nat)
  /-- TRIP_SOURCE_RELEASE (R250): A trip source stops being asserted, so clears are no longer refused for it, and the
  armed clear of a leg on a stopped group takes effect when its last latched source releases. -/
  | tripSourceRelease (x : TripSrc)
  /-- WDG_WINDOW_OPEN (R352): wmin elapses after a valid service, the watchdog window opens, and SAGE_IRQ_RAW.wdg_open
  or APC_WDG_STAT.open is set. -/
  | wdgWindowOpen (d : Dog)
  /-- LOAD_WINDOW (R112): At the end of each 1 ms window Basil updates ENG_LOAD and ENG_LOAD_PEAK and sets
  ENG_IRQ_RAW.load_warn when the load exceeds ENG_CFG.load_warn. -/
  | loadWindow
  /-- ARBITRATION_LOSS (R482): A transmitting CAN controller loses arbitration, resets the buffer's icr, restarts the
  choice of the next frame and ends a oneshot request. -/
  | arbitrationLoss (c : Fin 4)
  /-- CLOCK_RETURN (R506): XIN edges return or the main PLL relocks within 100 µs, setting xin_ok or pll_lock again
  and moving the HPM back to XIN. -/
  | clockReturn
  /-- DEBUG_RESUME (R331): The debug module resumes a halted core pair, and for Sage alive supervision resumes. -/
  | debugResume (x : CorePair)
  /-- PATTERN_HOLD_REPEAT (R307): In pattern hold, a slot reaches the time of a repeated edge, one T, 2T and so on
  after the original, and switches the gate channel. -/
  | patternHoldRepeat (p : Fin 32) (slot : Fin 4)
  /-- HRP_UNKNOWN_CMD (R39): An HRP transaction with a CMD other than 0x0B or 0x02 executes no word and is answered
  with code 0x02, updating HRP_LAST and HRP_XFER_CNT. -/
  | hrpUnknownCmd (cmd : Fin 256)
  deriving DecidableEq, Repr

end Sys2Proof
end

