-- ==== Sys2Proof/Config.lean ====
section
/-! DEFINITION. What an implementation fixes and the spec leaves open: opaque constants without a body, which no proof can
evaluate (notes/assumptions/2.md and 4.md). -/
namespace Sys2Proof.Config

/-- A free value of 32 bits, one for each value of State.free: DESIGN CHOICE, log entry 2. Safe: nothing constrains it. -/
opaque freeWord : Nat → BitVec 32

/-- A free natural number, one for each value of State.free: DESIGN CHOICE, log entry 2. Safe: nothing constrains it. -/
opaque freeNat : Nat → Nat

/-- The binary32 sine of a binary32 angle in radians: UNVERIFIED, log entry 4. Safe: nothing constrains it. -/
opaque sin32 : BitVec 32 → BitVec 32

/-- The binary32 cosine: UNVERIFIED, log entry 4. Safe: nothing constrains it. -/
opaque cos32 : BitVec 32 → BitVec 32

/-- The binary32 arc tangent of y over x: UNVERIFIED, log entry 4. Safe: nothing constrains it. -/
opaque atan232 : BitVec 32 → BitVec 32 → BitVec 32

/-- The binary32 arc cosine: UNVERIFIED, log entry 4. Safe: nothing constrains it. -/
opaque acos32 : BitVec 32 → BitVec 32

/-- The binary32 arc sine: UNVERIFIED, log entry 4. Safe: nothing constrains it. -/
opaque asin32 : BitVec 32 → BitVec 32

/-- The binary32 exponential: UNVERIFIED, log entry 4. Safe: nothing constrains it. -/
opaque exp32 : BitVec 32 → BitVec 32

/-- The binary32 cube root: UNVERIFIED, log entry 4. Safe: nothing constrains it. -/
opaque cbrt32 : BitVec 32 → BitVec 32

/-- The binary32 tangent: UNVERIFIED, log entry 4. Safe: nothing constrains it. -/
opaque tan32 : BitVec 32 → BitVec 32

/-- The SHA-256 of a list of bytes, as 32 bytes: UNVERIFIED, log entry 8. Safe: nothing constrains it. -/
opaque sha256 : List (BitVec 8) → List (BitVec 8)

/-- The ECDSA P-256 check of a signature (64 bytes) by a public key (64 bytes) over a digest (32 bytes): UNVERIFIED, log
entry 8. Safe: nothing constrains it. -/
opaque ecdsaOk : List (BitVec 8) → List (BitVec 8) → List (BitVec 8) → Bool

/-- The identity area's SHA-256 digest of the public key of an index (15_power_clocks_boot_thermal.md R511): the layout of the
area is not given, log entry 36. Safe: nothing constrains it. -/
opaque keyDigest : Nat → List (BitVec 8)

/-- The identity area's revocation bit of a key index (R511). Safe: nothing constrains it. -/
opaque keyRevoked : Nat → Bool

/-- The identity area's digest of the debug key (R519). Safe: nothing constrains it. -/
opaque debugDigest : List (BitVec 8)

/-- Is the part of grade 0x2, SV2560-IN, by the identity area (00_scope.md R3)? Log entry 45. Safe: nothing constrains it. -/
opaque partIn : Bool

/-- The minimum version the identity area holds when the device leaves the factory (15_power_clocks_boot_thermal.md R511, R512).
Log entry 45. Safe: nothing constrains it. -/
opaque minVer : BitVec 32

/-- The serial number (R519). Safe: nothing constrains it. -/
opaque serial : List (BitVec 8)

/-- The reference signature of an island's logic test (16_rosemary_and_selftest.md R547). Safe: nothing constrains it. -/
opaque bistRef : Nat → BitVec 32

/-- The power domains a configuration store of these bytes leaves unpowered, as a mask in the order of HPM_PD_CTRL (R512); the
store's format is not given, log entry 36. Safe: nothing constrains it. -/
opaque storeOff : List (BitVec 8) → Nat

/-- The words a configuration store of these bytes gives HRP_CFG, HRP_WR_EN_LO and HRP_WR_EN_HI (01_register_pages.md R42). Safe:
nothing constrains it. -/
opaque storeHrp : List (BitVec 8) → BitVec 32 × BitVec 32 × BitVec 32

/-- The version word of a kernel store of these bytes (03_basil_control_engine.md R112): its place in the store is not given.
Safe: nothing constrains it. -/
opaque ksVersion : List (BitVec 8) → Nat

end Sys2Proof.Config
end

