-- ==== Sys2Proof/Machine/RegMap.lean ====
section
/-! DEFINITION. The register map: every register of the chapters' register tables, with its address, its fields, their
access codes, when they take effect, their reset values, its triplicated group and whether the configuration CRC
covers it (01_register_pages.md R9, R10, R17 and each chapter's tables). -/
namespace Sys2Proof.Machine

/-- The access codes of R9. -/
inductive Access where
  | ro | rw | rwt | w1c | rc | wo | mw
  deriving DecidableEq, Repr

/-- When a written value takes effect (R10). -/
inductive Effect where
  | imm | bnd | cmt
  deriving DecidableEq, Repr

/-- A field of a register: bits hi to lo, access code, effect, reset value. -/
structure FieldSpec where
  hi : Nat
  lo : Nat
  acc : Access
  eff : Effect
  reset : Nat
  deriving DecidableEq, Repr

/-- A register, or an array of registers: its address is `base` plus an index times a stride for each dimension.
`hdr` and `hstep` give the header page of its block (and of each instance). -/
structure RegSpec where
  name : String
  hdr : Nat
  hstep : Nat
  base : Nat
  dims : List (Nat × Nat)
  fields : List FieldSpec
  grp : Option Nat
  crc : Bool
  deriving DecidableEq, Repr

/-- Registers of the SYS block, part 0. -/
def regsSys0 : List RegSpec := [
  { name := "SYS_ID", hdr := 0x40000000, hstep := 0x0, base := 0x40000000, dims := [],
    fields := [⟨31, 24, .ro, .imm, 1⟩, ⟨23, 16, .ro, .imm, 0⟩, ⟨15, 8, .ro, .imm, 3⟩, ⟨7, 0, .ro, .imm, 0⟩], grp := none, crc := false },
  { name := "SYS_CAPS", hdr := 0x40000000, hstep := 0x0, base := 0x40000004, dims := [],
    fields := [⟨31, 16, .ro, .imm, 0⟩, ⟨15, 8, .ro, .imm, 1⟩, ⟨7, 4, .ro, .imm, 0⟩, ⟨3, 3, .ro, .imm, 0⟩, ⟨2, 2, .ro, .imm, 0⟩, ⟨1, 0, .ro, .imm, 0⟩], grp := none, crc := false },
  { name := "SYS_CTRL", hdr := 0x40000000, hstep := 0x0, base := 0x40000008, dims := [],
    fields := [⟨15, 8, .mw, .imm, 0⟩, ⟨7, 4, .mw, .imm, 0⟩, ⟨3, 3, .mw, .imm, 0⟩, ⟨2, 2, .mw, .imm, 0⟩, ⟨1, 1, .mw, .imm, 0⟩, ⟨0, 0, .mw, .imm, 1⟩], grp := none, crc := false },
  { name := "SYS_STAT", hdr := 0x40000000, hstep := 0x0, base := 0x4000000C, dims := [],
    fields := [⟨31, 8, .ro, .imm, 0⟩, ⟨7, 4, .ro, .imm, 0⟩, ⟨3, 3, .ro, .imm, 0⟩, ⟨2, 2, .ro, .imm, 0⟩, ⟨1, 1, .ro, .imm, 0⟩, ⟨0, 0, .ro, .imm, 0⟩], grp := none, crc := false },
  { name := "SYS_IRQ_RAW", hdr := 0x40000000, hstep := 0x0, base := 0x40000010, dims := [],
    fields := [⟨15, 6, .w1c, .imm, 0⟩, ⟨5, 5, .w1c, .imm, 0⟩, ⟨4, 4, .w1c, .imm, 0⟩, ⟨3, 3, .w1c, .imm, 0⟩, ⟨2, 2, .w1c, .imm, 0⟩, ⟨1, 1, .w1c, .imm, 0⟩, ⟨0, 0, .w1c, .imm, 0⟩], grp := none, crc := false },
  { name := "SYS_IRQ_EN", hdr := 0x40000000, hstep := 0x0, base := 0x40000014, dims := [],
    fields := [⟨15, 0, .mw, .imm, 0⟩], grp := none, crc := false },
  { name := "SYS_IRQ_OUT", hdr := 0x40000000, hstep := 0x0, base := 0x40000018, dims := [],
    fields := [⟨31, 17, .ro, .imm, 0⟩, ⟨16, 16, .ro, .imm, 0⟩, ⟨15, 0, .ro, .imm, 0⟩], grp := none, crc := false },
  { name := "SYS_ERR", hdr := 0x40000000, hstep := 0x0, base := 0x4000001C, dims := [],
    fields := [⟨31, 19, .w1c, .imm, 0⟩, ⟨18, 18, .w1c, .imm, 0⟩, ⟨17, 17, .w1c, .imm, 0⟩, ⟨16, 16, .w1c, .imm, 0⟩, ⟨5, 5, .w1c, .imm, 0⟩, ⟨4, 4, .w1c, .imm, 0⟩, ⟨3, 3, .w1c, .imm, 0⟩, ⟨2, 2, .w1c, .imm, 0⟩, ⟨1, 1, .w1c, .imm, 0⟩, ⟨0, 0, .w1c, .imm, 0⟩], grp := none, crc := false },
  { name := "SYS_COMMIT", hdr := 0x40000000, hstep := 0x0, base := 0x40000020, dims := [],
    fields := [⟨31, 10, .wo, .imm, 0⟩, ⟨9, 9, .wo, .imm, 0⟩, ⟨8, 8, .wo, .imm, 0⟩, ⟨7, 0, .wo, .imm, 0⟩], grp := none, crc := false },
  { name := "SYS_GEN", hdr := 0x40000000, hstep := 0x0, base := 0x40000024, dims := [],
    fields := [⟨31, 16, .ro, .imm, 0⟩, ⟨15, 8, .ro, .imm, 0⟩, ⟨7, 0, .ro, .imm, 0⟩], grp := none, crc := false },
  { name := "SYS_CRC_REF", hdr := 0x40000000, hstep := 0x0, base := 0x40000028, dims := [],
    fields := [⟨31, 0, .rw, .imm, 0⟩], grp := none, crc := false },
  { name := "SYS_CRC_NOW", hdr := 0x40000000, hstep := 0x0, base := 0x4000002C, dims := [],
    fields := [⟨31, 0, .ro, .imm, 0⟩], grp := none, crc := false },
  { name := "SYS_TMR_STAT", hdr := 0x40000000, hstep := 0x0, base := 0x40000030, dims := [],
    fields := [⟨31, 24, .ro, .imm, 0⟩, ⟨23, 16, .ro, .imm, 0⟩, ⟨15, 8, .ro, .imm, 0⟩, ⟨7, 0, .ro, .imm, 0⟩], grp := none, crc := false },
  { name := "SYS_WARDEN", hdr := 0x40000000, hstep := 0x0, base := 0x40000034, dims := [],
    fields := [⟨31, 16, .ro, .imm, 0⟩, ⟨15, 2, .ro, .imm, 0⟩, ⟨1, 0, .ro, .imm, 0⟩], grp := none, crc := false },
  { name := "SYS_TEST0", hdr := 0x40000000, hstep := 0x0, base := 0x40000038, dims := [],
    fields := [⟨31, 0, .rw, .imm, 0⟩], grp := none, crc := false },
  { name := "SYS_TEST1", hdr := 0x40000000, hstep := 0x0, base := 0x4000003C, dims := [],
    fields := [⟨31, 0, .rw, .imm, 0⟩], grp := none, crc := false }]

/-- Registers of the SYS block, part 1. -/
def regsSys1 : List RegSpec := [
  { name := "SYS_ID", hdr := 0x40000000, hstep := 0x0, base := 0x40000040, dims := [],
    fields := [⟨31, 0, .ro, .imm, 627097616⟩], grp := none, crc := false },
  { name := "SYS_RST_CAUSE", hdr := 0x40000000, hstep := 0x0, base := 0x40000044, dims := [],
    fields := [⟨31, 9, .ro, .imm, 0⟩, ⟨8, 8, .w1c, .imm, 0⟩, ⟨7, 7, .w1c, .imm, 0⟩, ⟨6, 6, .w1c, .imm, 0⟩, ⟨5, 5, .w1c, .imm, 0⟩, ⟨4, 4, .w1c, .imm, 0⟩, ⟨3, 3, .w1c, .imm, 0⟩, ⟨2, 2, .w1c, .imm, 0⟩, ⟨1, 1, .ro, .imm, 0⟩, ⟨0, 0, .w1c, .imm, 1⟩], grp := none, crc := false },
  { name := "SYS_RST_CMD", hdr := 0x40000000, hstep := 0x0, base := 0x40000048, dims := [],
    fields := [⟨31, 16, .wo, .imm, 0⟩, ⟨15, 3, .wo, .imm, 0⟩, ⟨2, 2, .wo, .imm, 0⟩, ⟨1, 1, .wo, .imm, 0⟩, ⟨0, 0, .wo, .imm, 0⟩], grp := none, crc := false },
  { name := "SYS_BOOT_STAT", hdr := 0x40000000, hstep := 0x0, base := 0x4000004C, dims := [],
    fields := [⟨31, 21, .ro, .imm, 0⟩, ⟨20, 20, .ro, .imm, 0⟩, ⟨19, 19, .ro, .imm, 0⟩, ⟨18, 18, .ro, .imm, 0⟩, ⟨17, 17, .ro, .imm, 0⟩, ⟨16, 16, .ro, .imm, 0⟩, ⟨15, 3, .ro, .imm, 0⟩, ⟨2, 2, .ro, .imm, 0⟩, ⟨1, 0, .ro, .imm, 0⟩], grp := none, crc := false },
  { name := "SYS_BOOT_TIME", hdr := 0x40000000, hstep := 0x0, base := 0x40000050, dims := [],
    fields := [⟨31, 0, .ro, .imm, 0⟩], grp := none, crc := false },
  { name := "SYS_IMG_VER", hdr := 0x40000000, hstep := 0x0, base := 0x40000054, dims := [],
    fields := [⟨31, 0, .ro, .imm, 0⟩], grp := none, crc := false },
  { name := "SYS_MIN_VER", hdr := 0x40000000, hstep := 0x0, base := 0x40000058, dims := [],
    fields := [⟨31, 0, .ro, .imm, 0⟩], grp := none, crc := false },
  { name := "SYS_OPSEC", hdr := 0x40000000, hstep := 0x0, base := 0x4000005C, dims := [],
    fields := [⟨31, 0, .ro, .imm, 0⟩], grp := none, crc := false },
  { name := "SYS_PCYC", hdr := 0x40000000, hstep := 0x0, base := 0x40000060, dims := [],
    fields := [⟨31, 0, .ro, .imm, 0⟩], grp := none, crc := false },
  { name := "SYS_DBG_STAT", hdr := 0x40000000, hstep := 0x0, base := 0x40000064, dims := [],
    fields := [⟨31, 9, .ro, .imm, 0⟩, ⟨8, 8, .ro, .imm, 0⟩, ⟨7, 5, .ro, .imm, 0⟩, ⟨4, 4, .ro, .imm, 0⟩, ⟨3, 2, .ro, .imm, 0⟩, ⟨1, 0, .ro, .imm, 0⟩], grp := none, crc := false },
  { name := "SYS_MP_ADDR", hdr := 0x40000000, hstep := 0x0, base := 0x40000068, dims := [],
    fields := [⟨31, 23, .rw, .imm, 0⟩, ⟨22, 5, .rw, .imm, 0⟩, ⟨4, 0, .rw, .imm, 0⟩], grp := none, crc := false },
  { name := "SYS_MP_CMD", hdr := 0x40000000, hstep := 0x0, base := 0x4000006C, dims := [],
    fields := [⟨31, 16, .wo, .imm, 0⟩, ⟨15, 2, .wo, .imm, 0⟩, ⟨1, 0, .wo, .imm, 0⟩], grp := none, crc := false },
  { name := "SYS_MP_STAT", hdr := 0x40000000, hstep := 0x0, base := 0x40000070, dims := [],
    fields := [⟨31, 16, .ro, .imm, 0⟩, ⟨15, 4, .ro, .imm, 0⟩, ⟨3, 3, .ro, .imm, 0⟩, ⟨2, 2, .ro, .imm, 0⟩, ⟨1, 1, .ro, .imm, 0⟩, ⟨0, 0, .ro, .imm, 0⟩], grp := none, crc := false },
  { name := "SYS_MP_DATA(w)", hdr := 0x40000000, hstep := 0x0, base := 0x40000080, dims := [(8, 0x4)],
    fields := [⟨31, 0, .rw, .imm, 0⟩], grp := none, crc := false }]

/-- Registers of the SYS block. -/
def regsSys : List RegSpec := regsSys0 ++ regsSys1

/-- Registers of the HPM block, part 0. -/
def regsHpm0 : List RegSpec := [
  { name := "HPM_ID", hdr := 0x40001000, hstep := 0x0, base := 0x40001000, dims := [],
    fields := [⟨31, 24, .ro, .imm, 2⟩, ⟨23, 16, .ro, .imm, 0⟩, ⟨15, 8, .ro, .imm, 3⟩, ⟨7, 0, .ro, .imm, 0⟩], grp := none, crc := false },
  { name := "HPM_CAPS", hdr := 0x40001000, hstep := 0x0, base := 0x40001004, dims := [],
    fields := [⟨31, 16, .ro, .imm, 0⟩, ⟨15, 8, .ro, .imm, 1⟩, ⟨7, 4, .ro, .imm, 1⟩, ⟨3, 3, .ro, .imm, 1⟩, ⟨2, 2, .ro, .imm, 0⟩, ⟨1, 0, .ro, .imm, 0⟩], grp := none, crc := false },
  { name := "HPM_CTRL", hdr := 0x40001000, hstep := 0x0, base := 0x40001008, dims := [],
    fields := [⟨15, 8, .mw, .imm, 0⟩, ⟨7, 4, .mw, .imm, 0⟩, ⟨3, 3, .mw, .imm, 0⟩, ⟨2, 2, .mw, .imm, 0⟩, ⟨1, 1, .mw, .imm, 0⟩, ⟨0, 0, .mw, .imm, 1⟩], grp := none, crc := false },
  { name := "HPM_STAT", hdr := 0x40001000, hstep := 0x0, base := 0x4000100C, dims := [],
    fields := [⟨31, 8, .ro, .imm, 0⟩, ⟨7, 4, .ro, .imm, 0⟩, ⟨3, 3, .ro, .imm, 0⟩, ⟨2, 2, .ro, .imm, 0⟩, ⟨1, 1, .ro, .imm, 0⟩, ⟨0, 0, .ro, .imm, 0⟩], grp := none, crc := false },
  { name := "HPM_IRQ_RAW", hdr := 0x40001000, hstep := 0x0, base := 0x40001010, dims := [],
    fields := [⟨15, 11, .w1c, .imm, 0⟩, ⟨10, 10, .w1c, .imm, 0⟩, ⟨9, 9, .w1c, .imm, 0⟩, ⟨8, 8, .w1c, .imm, 0⟩, ⟨7, 7, .w1c, .imm, 0⟩, ⟨6, 6, .w1c, .imm, 0⟩, ⟨5, 5, .w1c, .imm, 0⟩, ⟨4, 4, .w1c, .imm, 0⟩, ⟨3, 3, .w1c, .imm, 0⟩, ⟨2, 2, .w1c, .imm, 0⟩, ⟨1, 1, .w1c, .imm, 0⟩, ⟨0, 0, .w1c, .imm, 0⟩], grp := none, crc := false },
  { name := "HPM_IRQ_EN", hdr := 0x40001000, hstep := 0x0, base := 0x40001014, dims := [],
    fields := [⟨15, 0, .mw, .imm, 0⟩], grp := none, crc := false },
  { name := "HPM_IRQ_OUT", hdr := 0x40001000, hstep := 0x0, base := 0x40001018, dims := [],
    fields := [⟨31, 17, .ro, .imm, 0⟩, ⟨16, 16, .ro, .imm, 0⟩, ⟨15, 0, .ro, .imm, 0⟩], grp := none, crc := false },
  { name := "HPM_ERR", hdr := 0x40001000, hstep := 0x0, base := 0x4000101C, dims := [],
    fields := [⟨31, 19, .w1c, .imm, 0⟩, ⟨18, 18, .w1c, .imm, 0⟩, ⟨17, 17, .w1c, .imm, 0⟩, ⟨16, 16, .w1c, .imm, 0⟩, ⟨5, 5, .w1c, .imm, 0⟩, ⟨4, 4, .w1c, .imm, 0⟩, ⟨3, 3, .w1c, .imm, 0⟩, ⟨2, 2, .w1c, .imm, 0⟩, ⟨1, 1, .w1c, .imm, 0⟩, ⟨0, 0, .w1c, .imm, 0⟩], grp := none, crc := false },
  { name := "HPM_COMMIT", hdr := 0x40001000, hstep := 0x0, base := 0x40001020, dims := [],
    fields := [⟨31, 10, .wo, .imm, 0⟩, ⟨9, 9, .wo, .imm, 0⟩, ⟨8, 8, .wo, .imm, 0⟩, ⟨7, 0, .wo, .imm, 0⟩], grp := none, crc := false },
  { name := "HPM_GEN", hdr := 0x40001000, hstep := 0x0, base := 0x40001024, dims := [],
    fields := [⟨31, 16, .ro, .imm, 0⟩, ⟨15, 8, .ro, .imm, 0⟩, ⟨7, 0, .ro, .imm, 0⟩], grp := none, crc := false },
  { name := "HPM_CRC_REF", hdr := 0x40001000, hstep := 0x0, base := 0x40001028, dims := [],
    fields := [⟨31, 0, .rw, .imm, 0⟩], grp := none, crc := false },
  { name := "HPM_CRC_NOW", hdr := 0x40001000, hstep := 0x0, base := 0x4000102C, dims := [],
    fields := [⟨31, 0, .ro, .imm, 0⟩], grp := none, crc := false },
  { name := "HPM_TMR_STAT", hdr := 0x40001000, hstep := 0x0, base := 0x40001030, dims := [],
    fields := [⟨31, 24, .ro, .imm, 0⟩, ⟨23, 16, .ro, .imm, 0⟩, ⟨15, 8, .ro, .imm, 0⟩, ⟨7, 0, .ro, .imm, 0⟩], grp := none, crc := false },
  { name := "HPM_WARDEN", hdr := 0x40001000, hstep := 0x0, base := 0x40001034, dims := [],
    fields := [⟨31, 16, .ro, .imm, 0⟩, ⟨15, 2, .ro, .imm, 0⟩, ⟨1, 0, .ro, .imm, 0⟩], grp := none, crc := false },
  { name := "HPM_TEST0", hdr := 0x40001000, hstep := 0x0, base := 0x40001038, dims := [],
    fields := [⟨31, 0, .rw, .imm, 0⟩], grp := none, crc := false },
  { name := "HPM_TEST1", hdr := 0x40001000, hstep := 0x0, base := 0x4000103C, dims := [],
    fields := [⟨31, 0, .rw, .imm, 0⟩], grp := none, crc := false }]

/-- Registers of the HPM block, part 1. -/
def regsHpm1 : List RegSpec := [
  { name := "HPM_LTR", hdr := 0x40001000, hstep := 0x0, base := 0x40001040, dims := [],
    fields := [⟨31, 24, .rw, .imm, 0⟩, ⟨23, 0, .rw, .imm, 0⟩], grp := none, crc := false },
  { name := "HPM_PSTATE", hdr := 0x40001000, hstep := 0x0, base := 0x40001044, dims := [],
    fields := [⟨31, 19, .ro, .imm, 0⟩, ⟨18, 16, .ro, .imm, 0⟩, ⟨15, 11, .ro, .imm, 0⟩, ⟨10, 8, .ro, .imm, 0⟩, ⟨7, 3, .ro, .imm, 0⟩, ⟨2, 0, .ro, .imm, 0⟩], grp := none, crc := false },
  { name := "HPM_WAKE_EN", hdr := 0x40001000, hstep := 0x0, base := 0x40001048, dims := [],
    fields := [⟨31, 8, .rw, .imm, 0⟩, ⟨7, 0, .rw, .imm, 255⟩], grp := none, crc := true },
  { name := "HPM_WAKE_TMR", hdr := 0x40001000, hstep := 0x0, base := 0x4000104C, dims := [],
    fields := [⟨31, 0, .rw, .imm, 0⟩], grp := none, crc := false },
  { name := "HPM_PD_CTRL", hdr := 0x40001000, hstep := 0x0, base := 0x40001050, dims := [],
    fields := [⟨15, 12, .mw, .imm, 0⟩, ⟨11, 0, .mw, .imm, 4095⟩], grp := none, crc := false },
  { name := "HPM_PD_STAT", hdr := 0x40001000, hstep := 0x0, base := 0x40001054, dims := [],
    fields := [⟨31, 28, .ro, .imm, 0⟩, ⟨27, 16, .ro, .imm, 0⟩, ⟨15, 12, .ro, .imm, 0⟩, ⟨11, 0, .ro, .imm, 4095⟩], grp := none, crc := false },
  { name := "HPM_PLL_CFG", hdr := 0x40001000, hstep := 0x0, base := 0x40001058, dims := [],
    fields := [⟨31, 8, .rwt, .imm, 0⟩, ⟨7, 0, .rwt, .imm, 160⟩], grp := some 0, crc := true },
  { name := "HPM_CLK_STAT", hdr := 0x40001000, hstep := 0x0, base := 0x4000105C, dims := [],
    fields := [⟨31, 16, .ro, .imm, 0⟩, ⟨15, 4, .ro, .imm, 0⟩, ⟨3, 3, .ro, .imm, 0⟩, ⟨2, 2, .ro, .imm, 0⟩, ⟨1, 1, .ro, .imm, 0⟩, ⟨0, 0, .ro, .imm, 0⟩], grp := none, crc := false },
  { name := "HPM_SUP_STAT", hdr := 0x40001000, hstep := 0x0, base := 0x40001060, dims := [],
    fields := [⟨31, 31, .ro, .imm, 0⟩, ⟨30, 30, .w1c, .imm, 0⟩, ⟨29, 14, .ro, .imm, 0⟩, ⟨13, 8, .ro, .imm, 0⟩, ⟨7, 7, .ro, .imm, 0⟩, ⟨6, 6, .ro, .imm, 0⟩, ⟨5, 0, .ro, .imm, 0⟩], grp := none, crc := false },
  { name := "HPM_SUP_EPI", hdr := 0x40001000, hstep := 0x0, base := 0x40001064, dims := [],
    fields := [⟨31, 16, .ro, .imm, 0⟩, ⟨15, 4, .ro, .imm, 0⟩, ⟨3, 0, .ro, .imm, 0⟩], grp := none, crc := false },
  { name := "HPM_SUP_LAST", hdr := 0x40001000, hstep := 0x0, base := 0x40001068, dims := [],
    fields := [⟨31, 16, .ro, .imm, 0⟩, ⟨15, 13, .ro, .imm, 0⟩, ⟨12, 0, .ro, .imm, 0⟩], grp := none, crc := false },
  { name := "HPM_RAIL_V(r)", hdr := 0x40001000, hstep := 0x0, base := 0x4000106C, dims := [(6, 0x4)],
    fields := [⟨31, 16, .ro, .imm, 0⟩, ⟨15, 0, .ro, .imm, 0⟩], grp := none, crc := false },
  { name := "HPM_TEMP(i)", hdr := 0x40001000, hstep := 0x0, base := 0x40001084, dims := [(8, 0x4)],
    fields := [⟨31, 31, .ro, .imm, 0⟩, ⟨30, 16, .ro, .imm, 0⟩, ⟨15, 0, .ro, .imm, 0⟩], grp := none, crc := false },
  { name := "HPM_THERM_STAT", hdr := 0x40001000, hstep := 0x0, base := 0x400010A4, dims := [],
    fields := [⟨31, 16, .ro, .imm, 0⟩, ⟨15, 8, .ro, .imm, 0⟩, ⟨7, 2, .ro, .imm, 0⟩, ⟨1, 0, .ro, .imm, 0⟩], grp := none, crc := false },
  { name := "HPM_I2C_CMD", hdr := 0x40001000, hstep := 0x0, base := 0x400010A8, dims := [],
    fields := [⟨31, 31, .wo, .imm, 0⟩, ⟨30, 30, .wo, .imm, 0⟩, ⟨29, 23, .wo, .imm, 0⟩, ⟨22, 16, .wo, .imm, 0⟩, ⟨15, 8, .wo, .imm, 0⟩, ⟨7, 0, .wo, .imm, 0⟩], grp := none, crc := false },
  { name := "HPM_I2C_STAT", hdr := 0x40001000, hstep := 0x0, base := 0x400010AC, dims := [],
    fields := [⟨31, 10, .ro, .imm, 0⟩, ⟨9, 9, .ro, .imm, 0⟩, ⟨8, 8, .ro, .imm, 0⟩, ⟨7, 0, .ro, .imm, 0⟩], grp := none, crc := false }]

/-- Registers of the HPM block, part 2. -/
def regsHpm2 : List RegSpec := [
  { name := "HPM_PMIC_EN", hdr := 0x40001000, hstep := 0x0, base := 0x400010B0, dims := [],
    fields := [⟨15, 4, .mw, .imm, 0⟩, ⟨3, 0, .mw, .imm, 0⟩], grp := none, crc := true }]

/-- Registers of the HPM block. -/
def regsHpm : List RegSpec := regsHpm0 ++ regsHpm1 ++ regsHpm2

/-- Registers of the FAB block, part 0. -/
def regsFab0 : List RegSpec := [
  { name := "FAB_ID", hdr := 0x40010000, hstep := 0x0, base := 0x40010000, dims := [],
    fields := [⟨31, 24, .ro, .imm, 3⟩, ⟨23, 16, .ro, .imm, 0⟩, ⟨15, 8, .ro, .imm, 3⟩, ⟨7, 0, .ro, .imm, 0⟩], grp := none, crc := false },
  { name := "FAB_CAPS", hdr := 0x40010000, hstep := 0x0, base := 0x40010004, dims := [],
    fields := [⟨31, 16, .ro, .imm, 0⟩, ⟨15, 8, .ro, .imm, 1⟩, ⟨7, 4, .ro, .imm, 2⟩, ⟨3, 3, .ro, .imm, 0⟩, ⟨2, 2, .ro, .imm, 0⟩, ⟨1, 0, .ro, .imm, 0⟩], grp := none, crc := false },
  { name := "FAB_CTRL", hdr := 0x40010000, hstep := 0x0, base := 0x40010008, dims := [],
    fields := [⟨15, 8, .mw, .imm, 0⟩, ⟨7, 4, .mw, .imm, 0⟩, ⟨3, 3, .mw, .imm, 0⟩, ⟨2, 2, .mw, .imm, 0⟩, ⟨1, 1, .mw, .imm, 0⟩, ⟨0, 0, .mw, .imm, 1⟩], grp := none, crc := false },
  { name := "FAB_STAT", hdr := 0x40010000, hstep := 0x0, base := 0x4001000C, dims := [],
    fields := [⟨31, 8, .ro, .imm, 0⟩, ⟨7, 4, .ro, .imm, 0⟩, ⟨3, 3, .ro, .imm, 0⟩, ⟨2, 2, .ro, .imm, 0⟩, ⟨1, 1, .ro, .imm, 0⟩, ⟨0, 0, .ro, .imm, 0⟩], grp := none, crc := false },
  { name := "FAB_IRQ_RAW", hdr := 0x40010000, hstep := 0x0, base := 0x40010010, dims := [],
    fields := [⟨15, 8, .w1c, .imm, 0⟩, ⟨7, 7, .w1c, .imm, 0⟩, ⟨6, 6, .w1c, .imm, 0⟩, ⟨5, 5, .w1c, .imm, 0⟩, ⟨4, 4, .w1c, .imm, 0⟩, ⟨3, 3, .w1c, .imm, 0⟩, ⟨2, 2, .w1c, .imm, 0⟩, ⟨1, 1, .w1c, .imm, 0⟩, ⟨0, 0, .w1c, .imm, 0⟩], grp := none, crc := false },
  { name := "FAB_IRQ_EN", hdr := 0x40010000, hstep := 0x0, base := 0x40010014, dims := [],
    fields := [⟨15, 0, .mw, .imm, 0⟩], grp := none, crc := false },
  { name := "FAB_IRQ_OUT", hdr := 0x40010000, hstep := 0x0, base := 0x40010018, dims := [],
    fields := [⟨31, 17, .ro, .imm, 0⟩, ⟨16, 16, .ro, .imm, 0⟩, ⟨15, 0, .ro, .imm, 0⟩], grp := none, crc := false },
  { name := "FAB_ERR", hdr := 0x40010000, hstep := 0x0, base := 0x4001001C, dims := [],
    fields := [⟨31, 19, .w1c, .imm, 0⟩, ⟨18, 18, .w1c, .imm, 0⟩, ⟨17, 17, .w1c, .imm, 0⟩, ⟨16, 16, .w1c, .imm, 0⟩, ⟨5, 5, .w1c, .imm, 0⟩, ⟨4, 4, .w1c, .imm, 0⟩, ⟨3, 3, .w1c, .imm, 0⟩, ⟨2, 2, .w1c, .imm, 0⟩, ⟨1, 1, .w1c, .imm, 0⟩, ⟨0, 0, .w1c, .imm, 0⟩], grp := none, crc := false },
  { name := "FAB_COMMIT", hdr := 0x40010000, hstep := 0x0, base := 0x40010020, dims := [],
    fields := [⟨31, 10, .wo, .imm, 0⟩, ⟨9, 9, .wo, .imm, 0⟩, ⟨8, 8, .wo, .imm, 0⟩, ⟨7, 0, .wo, .imm, 0⟩], grp := none, crc := false },
  { name := "FAB_GEN", hdr := 0x40010000, hstep := 0x0, base := 0x40010024, dims := [],
    fields := [⟨31, 16, .ro, .imm, 0⟩, ⟨15, 8, .ro, .imm, 0⟩, ⟨7, 0, .ro, .imm, 0⟩], grp := none, crc := false },
  { name := "FAB_CRC_REF", hdr := 0x40010000, hstep := 0x0, base := 0x40010028, dims := [],
    fields := [⟨31, 0, .rw, .imm, 0⟩], grp := none, crc := false },
  { name := "FAB_CRC_NOW", hdr := 0x40010000, hstep := 0x0, base := 0x4001002C, dims := [],
    fields := [⟨31, 0, .ro, .imm, 0⟩], grp := none, crc := false },
  { name := "FAB_TMR_STAT", hdr := 0x40010000, hstep := 0x0, base := 0x40010030, dims := [],
    fields := [⟨31, 24, .ro, .imm, 0⟩, ⟨23, 16, .ro, .imm, 0⟩, ⟨15, 8, .ro, .imm, 0⟩, ⟨7, 0, .ro, .imm, 0⟩], grp := none, crc := false },
  { name := "FAB_WARDEN", hdr := 0x40010000, hstep := 0x0, base := 0x40010034, dims := [],
    fields := [⟨31, 16, .ro, .imm, 0⟩, ⟨15, 2, .ro, .imm, 0⟩, ⟨1, 0, .ro, .imm, 0⟩], grp := none, crc := false },
  { name := "FAB_TEST0", hdr := 0x40010000, hstep := 0x0, base := 0x40010038, dims := [],
    fields := [⟨31, 0, .rw, .imm, 0⟩], grp := none, crc := false },
  { name := "FAB_TEST1", hdr := 0x40010000, hstep := 0x0, base := 0x4001003C, dims := [],
    fields := [⟨31, 0, .rw, .imm, 0⟩], grp := none, crc := false }]

/-- Registers of the FAB block, part 1. -/
def regsFab1 : List RegSpec := [
  { name := "FAB_WST(i)", hdr := 0x40010000, hstep := 0x0, base := 0x40010040, dims := [(17, 0x4)],
    fields := [⟨31, 16, .ro, .imm, 0⟩, ⟨15, 8, .ro, .imm, 0⟩, ⟨7, 4, .ro, .imm, 0⟩, ⟨3, 3, .ro, .imm, 0⟩, ⟨2, 2, .ro, .imm, 0⟩, ⟨1, 0, .ro, .imm, 0⟩], grp := none, crc := false },
  { name := "FAB_TDRAIN(i)", hdr := 0x40010000, hstep := 0x0, base := 0x40010090, dims := [(17, 0x4)],
    fields := [⟨31, 7, .rwt, .imm, 0⟩, ⟨6, 0, .rwt, .imm, 10⟩], grp := some 0, crc := false },
  { name := "FAB_ABSENT_CNT(i)", hdr := 0x40010000, hstep := 0x0, base := 0x400100E0, dims := [(17, 0x4)],
    fields := [⟨31, 0, .ro, .imm, 0⟩], grp := none, crc := false },
  { name := "FAB_RETIRED_CNT(i)", hdr := 0x40010000, hstep := 0x0, base := 0x40010130, dims := [(17, 0x4)],
    fields := [⟨31, 0, .ro, .imm, 0⟩], grp := none, crc := false },
  { name := "FAB_DISCARD_CNT(i)", hdr := 0x40010000, hstep := 0x0, base := 0x40010180, dims := [(17, 0x4)],
    fields := [⟨31, 0, .ro, .imm, 0⟩], grp := none, crc := false },
  { name := "FAB_AUDIT_CFG", hdr := 0x40010000, hstep := 0x0, base := 0x400101D0, dims := [],
    fields := [⟨31, 4, .rwt, .imm, 0⟩, ⟨3, 0, .rwt, .imm, 10⟩], grp := some 1, crc := false },
  { name := "FAB_AUDIT_FAIL", hdr := 0x40010000, hstep := 0x0, base := 0x400101D4, dims := [],
    fields := [⟨31, 31, .ro, .imm, 0⟩, ⟨30, 25, .ro, .imm, 0⟩, ⟨24, 24, .ro, .imm, 0⟩, ⟨23, 16, .ro, .imm, 0⟩, ⟨15, 8, .ro, .imm, 0⟩, ⟨7, 0, .ro, .imm, 0⟩], grp := none, crc := false },
  { name := "FAB_AUDIT_PASS", hdr := 0x40010000, hstep := 0x0, base := 0x400101D8, dims := [],
    fields := [⟨31, 0, .ro, .imm, 0⟩], grp := none, crc := false },
  { name := "FAB_LINK_SEL", hdr := 0x40010000, hstep := 0x0, base := 0x400101DC, dims := [],
    fields := [⟨31, 17, .rw, .imm, 0⟩, ⟨16, 16, .rw, .imm, 0⟩, ⟨15, 8, .rw, .imm, 0⟩, ⟨7, 0, .rw, .imm, 0⟩], grp := none, crc := false },
  { name := "FAB_LINK_DEPTH", hdr := 0x40010000, hstep := 0x0, base := 0x400101E0, dims := [],
    fields := [⟨31, 9, .ro, .imm, 0⟩, ⟨8, 8, .ro, .imm, 0⟩, ⟨7, 0, .ro, .imm, 0⟩], grp := none, crc := false },
  { name := "FAB_LINK_CRED", hdr := 0x40010000, hstep := 0x0, base := 0x400101E4, dims := [],
    fields := [⟨31, 24, .ro, .imm, 0⟩, ⟨23, 16, .ro, .imm, 0⟩, ⟨15, 8, .ro, .imm, 0⟩, ⟨7, 0, .ro, .imm, 0⟩], grp := none, crc := false },
  { name := "FAB_LINK_REQS", hdr := 0x40010000, hstep := 0x0, base := 0x400101E8, dims := [],
    fields := [⟨31, 0, .ro, .imm, 0⟩], grp := none, crc := false },
  { name := "FAB_SRST_REF", hdr := 0x40010000, hstep := 0x0, base := 0x400101EC, dims := [],
    fields := [⟨31, 0, .ro, .imm, 0⟩], grp := none, crc := false }]

/-- Registers of the FAB block. -/
def regsFab : List RegSpec := regsFab0 ++ regsFab1

/-- Registers of the THY block, part 0. -/
def regsThy0 : List RegSpec := [
  { name := "THY_ID", hdr := 0x40020000, hstep := 0x0, base := 0x40020000, dims := [],
    fields := [⟨31, 24, .ro, .imm, 4⟩, ⟨23, 16, .ro, .imm, 0⟩, ⟨15, 8, .ro, .imm, 3⟩, ⟨7, 0, .ro, .imm, 0⟩], grp := none, crc := false },
  { name := "THY_CAPS", hdr := 0x40020000, hstep := 0x0, base := 0x40020004, dims := [],
    fields := [⟨31, 16, .ro, .imm, 0⟩, ⟨15, 8, .ro, .imm, 32⟩, ⟨7, 4, .ro, .imm, 3⟩, ⟨3, 3, .ro, .imm, 1⟩, ⟨2, 2, .ro, .imm, 1⟩, ⟨1, 0, .ro, .imm, 0⟩], grp := none, crc := false },
  { name := "THY_CTRL", hdr := 0x40020000, hstep := 0x0, base := 0x40020008, dims := [],
    fields := [⟨15, 8, .mw, .imm, 0⟩, ⟨7, 4, .mw, .imm, 0⟩, ⟨3, 3, .mw, .imm, 0⟩, ⟨2, 2, .mw, .imm, 0⟩, ⟨1, 1, .mw, .imm, 0⟩, ⟨0, 0, .mw, .imm, 1⟩], grp := none, crc := false },
  { name := "THY_STAT", hdr := 0x40020000, hstep := 0x0, base := 0x4002000C, dims := [],
    fields := [⟨31, 10, .ro, .imm, 0⟩, ⟨9, 9, .ro, .imm, 0⟩, ⟨8, 8, .ro, .imm, 0⟩, ⟨7, 4, .ro, .imm, 0⟩, ⟨3, 3, .ro, .imm, 0⟩, ⟨2, 2, .ro, .imm, 0⟩, ⟨1, 1, .ro, .imm, 0⟩, ⟨0, 0, .ro, .imm, 0⟩], grp := none, crc := false },
  { name := "THY_IRQ_RAW", hdr := 0x40020000, hstep := 0x0, base := 0x40020010, dims := [],
    fields := [⟨15, 9, .w1c, .imm, 0⟩, ⟨8, 8, .w1c, .imm, 0⟩, ⟨7, 7, .w1c, .imm, 0⟩, ⟨6, 6, .w1c, .imm, 0⟩, ⟨5, 5, .w1c, .imm, 0⟩, ⟨4, 4, .w1c, .imm, 0⟩, ⟨3, 3, .w1c, .imm, 0⟩, ⟨2, 2, .w1c, .imm, 0⟩, ⟨1, 1, .w1c, .imm, 0⟩, ⟨0, 0, .w1c, .imm, 0⟩], grp := none, crc := false },
  { name := "THY_IRQ_EN", hdr := 0x40020000, hstep := 0x0, base := 0x40020014, dims := [],
    fields := [⟨15, 0, .mw, .imm, 0⟩], grp := none, crc := false },
  { name := "THY_IRQ_OUT", hdr := 0x40020000, hstep := 0x0, base := 0x40020018, dims := [],
    fields := [⟨31, 17, .ro, .imm, 0⟩, ⟨16, 16, .ro, .imm, 0⟩, ⟨15, 0, .ro, .imm, 0⟩], grp := none, crc := false },
  { name := "THY_ERR", hdr := 0x40020000, hstep := 0x0, base := 0x4002001C, dims := [],
    fields := [⟨31, 20, .w1c, .imm, 0⟩, ⟨19, 19, .w1c, .imm, 0⟩, ⟨18, 18, .w1c, .imm, 0⟩, ⟨17, 17, .w1c, .imm, 0⟩, ⟨16, 16, .w1c, .imm, 0⟩, ⟨5, 5, .w1c, .imm, 0⟩, ⟨4, 4, .w1c, .imm, 0⟩, ⟨3, 3, .w1c, .imm, 0⟩, ⟨2, 2, .w1c, .imm, 0⟩, ⟨1, 1, .w1c, .imm, 0⟩, ⟨0, 0, .w1c, .imm, 0⟩], grp := none, crc := false },
  { name := "THY_COMMIT", hdr := 0x40020000, hstep := 0x0, base := 0x40020020, dims := [],
    fields := [⟨31, 10, .wo, .imm, 0⟩, ⟨9, 9, .wo, .imm, 0⟩, ⟨8, 8, .wo, .imm, 0⟩, ⟨7, 0, .wo, .imm, 0⟩], grp := none, crc := false },
  { name := "THY_GEN", hdr := 0x40020000, hstep := 0x0, base := 0x40020024, dims := [],
    fields := [⟨31, 16, .ro, .imm, 0⟩, ⟨15, 8, .ro, .imm, 0⟩, ⟨7, 0, .ro, .imm, 0⟩], grp := none, crc := false },
  { name := "THY_CRC_REF", hdr := 0x40020000, hstep := 0x0, base := 0x40020028, dims := [],
    fields := [⟨31, 0, .rw, .cmt, 0⟩], grp := none, crc := false },
  { name := "THY_CRC_NOW", hdr := 0x40020000, hstep := 0x0, base := 0x4002002C, dims := [],
    fields := [⟨31, 0, .ro, .imm, 0⟩], grp := none, crc := false },
  { name := "THY_TMR_STAT", hdr := 0x40020000, hstep := 0x0, base := 0x40020030, dims := [],
    fields := [⟨31, 24, .ro, .imm, 0⟩, ⟨23, 16, .ro, .imm, 0⟩, ⟨15, 8, .ro, .imm, 0⟩, ⟨7, 0, .ro, .imm, 0⟩], grp := none, crc := false },
  { name := "THY_WARDEN", hdr := 0x40020000, hstep := 0x0, base := 0x40020034, dims := [],
    fields := [⟨31, 16, .ro, .imm, 0⟩, ⟨15, 2, .ro, .imm, 0⟩, ⟨1, 0, .ro, .imm, 0⟩], grp := none, crc := false },
  { name := "THY_TEST0", hdr := 0x40020000, hstep := 0x0, base := 0x40020038, dims := [],
    fields := [⟨31, 0, .rw, .imm, 0⟩], grp := none, crc := false },
  { name := "THY_TEST1", hdr := 0x40020000, hstep := 0x0, base := 0x4002003C, dims := [],
    fields := [⟨31, 0, .rw, .imm, 0⟩], grp := none, crc := false }]

/-- Registers of the THY block, part 1. -/
def regsThy1 : List RegSpec := [
  { name := "THY_NOW_LO", hdr := 0x40020000, hstep := 0x0, base := 0x40020040, dims := [],
    fields := [⟨31, 0, .ro, .imm, 0⟩], grp := none, crc := false },
  { name := "THY_NOW_HI", hdr := 0x40020000, hstep := 0x0, base := 0x40020044, dims := [],
    fields := [⟨31, 0, .ro, .imm, 0⟩], grp := none, crc := false },
  { name := "THY_NOW_FINE", hdr := 0x40020000, hstep := 0x0, base := 0x40020048, dims := [],
    fields := [⟨31, 5, .ro, .imm, 0⟩, ⟨4, 0, .ro, .imm, 0⟩], grp := none, crc := false },
  { name := "THY_SLEW", hdr := 0x40020000, hstep := 0x0, base := 0x4002004C, dims := [],
    fields := [⟨31, 16, .ro, .imm, 0⟩, ⟨15, 0, .ro, .imm, 0⟩], grp := none, crc := false },
  { name := "THY_FCAL", hdr := 0x40020000, hstep := 0x0, base := 0x40020050, dims := [],
    fields := [⟨31, 9, .ro, .imm, 0⟩, ⟨8, 8, .ro, .imm, 0⟩, ⟨6, 0, .ro, .imm, 0⟩], grp := none, crc := false },
  { name := "THY_LEG_EN(i)", hdr := 0x40020000, hstep := 0x0, base := 0x40020054, dims := [(4, 0x4)],
    fields := [⟨31, 0, .ro, .imm, 0⟩], grp := none, crc := false },
  { name := "THY_RUN", hdr := 0x40020000, hstep := 0x0, base := 0x40020064, dims := [],
    fields := [⟨31, 0, .ro, .imm, 0⟩], grp := none, crc := false },
  { name := "THY_KERN", hdr := 0x40020000, hstep := 0x0, base := 0x40020068, dims := [],
    fields := [⟨31, 0, .ro, .imm, 0⟩], grp := none, crc := false },
  { name := "THY_SHOOT_CNT", hdr := 0x40020000, hstep := 0x0, base := 0x4002006C, dims := [],
    fields := [⟨31, 0, .ro, .imm, 0⟩], grp := none, crc := false },
  { name := "THY_TORN_CNT", hdr := 0x40020000, hstep := 0x0, base := 0x40020070, dims := [],
    fields := [⟨31, 0, .ro, .imm, 0⟩], grp := none, crc := false },
  { name := "TBG(g)_CFG", hdr := 0x40020000, hstep := 0x0, base := 0x40021000, dims := [(32, 0x80)],
    fields := [⟨31, 10, .rwt, .imm, 0⟩, ⟨9, 4, .rwt, .imm, 0⟩, ⟨3, 3, .rwt, .cmt, 0⟩, ⟨2, 2, .rwt, .cmt, 0⟩, ⟨1, 0, .rwt, .cmt, 0⟩], grp := some 1, crc := true },
  { name := "TBG(g)_PERIOD", hdr := 0x40020000, hstep := 0x0, base := 0x40021004, dims := [(32, 0x80)],
    fields := [⟨31, 24, .rw, .imm, 0⟩, ⟨23, 0, .rw, .cmt, 4000⟩], grp := none, crc := true },
  { name := "TBG(g)_SMP", hdr := 0x40020000, hstep := 0x0, base := 0x40021008, dims := [(32, 0x80)],
    fields := [⟨31, 18, .rw, .imm, 0⟩, ⟨17, 16, .rw, .cmt, 1⟩, ⟨15, 0, .rw, .cmt, 0⟩], grp := none, crc := true },
  { name := "TBG(g)_T0_LO", hdr := 0x40020000, hstep := 0x0, base := 0x4002100C, dims := [(32, 0x80)],
    fields := [⟨31, 0, .rw, .imm, 0⟩], grp := none, crc := false },
  { name := "TBG(g)_T0_HI", hdr := 0x40020000, hstep := 0x0, base := 0x40021010, dims := [(32, 0x80)],
    fields := [⟨31, 0, .rw, .imm, 0⟩], grp := none, crc := false },
  { name := "TBG(g)_CMD", hdr := 0x40020000, hstep := 0x0, base := 0x40021014, dims := [(32, 0x80)],
    fields := [⟨31, 2, .wo, .imm, 0⟩, ⟨1, 1, .wo, .imm, 0⟩, ⟨0, 0, .wo, .imm, 0⟩], grp := none, crc := false }]

/-- Registers of the THY block, part 2. -/
def regsThy2 : List RegSpec := [
  { name := "TBG(g)_COMMIT", hdr := 0x40020000, hstep := 0x0, base := 0x40021018, dims := [(32, 0x80)],
    fields := [⟨31, 10, .wo, .imm, 0⟩, ⟨9, 0, .wo, .imm, 0⟩], grp := none, crc := false },
  { name := "TBG(g)_GEN", hdr := 0x40020000, hstep := 0x0, base := 0x4002101C, dims := [(32, 0x80)],
    fields := [⟨15, 8, .ro, .imm, 0⟩, ⟨7, 0, .ro, .imm, 0⟩], grp := none, crc := false },
  { name := "TBG(g)_STAT", hdr := 0x40020000, hstep := 0x0, base := 0x40021020, dims := [(32, 0x80)],
    fields := [⟨31, 8, .ro, .imm, 0⟩, ⟨7, 7, .ro, .imm, 0⟩, ⟨6, 6, .ro, .imm, 0⟩, ⟨5, 5, .ro, .imm, 0⟩, ⟨4, 4, .ro, .imm, 0⟩, ⟨3, 3, .ro, .imm, 0⟩, ⟨2, 2, .ro, .imm, 0⟩, ⟨1, 1, .ro, .imm, 0⟩, ⟨0, 0, .ro, .imm, 0⟩], grp := none, crc := false },
  { name := "TBG(g)_IRQ_RAW", hdr := 0x40020000, hstep := 0x0, base := 0x40021024, dims := [(32, 0x80)],
    fields := [⟨31, 8, .ro, .imm, 0⟩, ⟨7, 0, .w1c, .imm, 0⟩], grp := none, crc := false },
  { name := "TBG(g)_IRQ_EN", hdr := 0x40020000, hstep := 0x0, base := 0x40021028, dims := [(32, 0x80)],
    fields := [⟨7, 0, .mw, .imm, 0⟩], grp := none, crc := false },
  { name := "TBG(g)_NEXT_LO", hdr := 0x40020000, hstep := 0x0, base := 0x4002102C, dims := [(32, 0x80)],
    fields := [⟨31, 0, .ro, .imm, 0⟩], grp := none, crc := false },
  { name := "TBG(g)_NEXT_HI", hdr := 0x40020000, hstep := 0x0, base := 0x40021030, dims := [(32, 0x80)],
    fields := [⟨31, 0, .ro, .imm, 0⟩], grp := none, crc := false },
  { name := "TBG(g)_HOFS", hdr := 0x40020000, hstep := 0x0, base := 0x40021034, dims := [(32, 0x80)],
    fields := [⟨15, 0, .ro, .imm, 160⟩], grp := none, crc := false },
  { name := "TBG(g)_PCNT", hdr := 0x40020000, hstep := 0x0, base := 0x40021038, dims := [(32, 0x80)],
    fields := [⟨31, 0, .ro, .imm, 0⟩], grp := none, crc := false },
  { name := "TBG(g)_TORN_CNT", hdr := 0x40020000, hstep := 0x0, base := 0x4002103C, dims := [(32, 0x80)],
    fields := [⟨31, 0, .ro, .imm, 0⟩], grp := none, crc := false },
  { name := "TBG(g)_REPEAT_CNT", hdr := 0x40020000, hstep := 0x0, base := 0x40021040, dims := [(32, 0x80)],
    fields := [⟨31, 0, .ro, .imm, 0⟩], grp := none, crc := false },
  { name := "TBG(g)_SET_STEP", hdr := 0x40020000, hstep := 0x0, base := 0x40021044, dims := [(32, 0x80)],
    fields := [⟨31, 0, .ro, .imm, 0⟩], grp := none, crc := false },
  { name := "TBG(g)_TRG0", hdr := 0x40020000, hstep := 0x0, base := 0x40021048, dims := [(32, 0x80)],
    fields := [⟨31, 31, .rw, .cmt, 0⟩, ⟨30, 24, .rw, .imm, 0⟩, ⟨23, 0, .rw, .cmt, 0⟩], grp := none, crc := true },
  { name := "TBG(g)_TRG1", hdr := 0x40020000, hstep := 0x0, base := 0x4002104C, dims := [(32, 0x80)],
    fields := [⟨31, 31, .rw, .cmt, 0⟩, ⟨30, 24, .rw, .imm, 0⟩, ⟨23, 0, .rw, .cmt, 0⟩], grp := none, crc := true },
  { name := "TBG(g)_RSVD", hdr := 0x40020000, hstep := 0x0, base := 0x40021050, dims := [(32, 0x80)],
    fields := [⟨31, 0, .ro, .imm, 0⟩], grp := none, crc := false },
  { name := "LEG(n)_CFG", hdr := 0x40020000, hstep := 0x0, base := 0x40030000, dims := [(128, 0x40)],
    fields := [⟨31, 31, .rwt, .bnd, 0⟩, ⟨30, 28, .rwt, .bnd, 0⟩, ⟨27, 27, .rwt, .bnd, 0⟩, ⟨26, 22, .rwt, .bnd, 0⟩, ⟨21, 17, .rwt, .bnd, 0⟩, ⟨16, 16, .rwt, .imm, 0⟩, ⟨15, 0, .rwt, .bnd, 0⟩], grp := some 0, crc := true }]

/-- Registers of the THY block, part 3. -/
def regsThy3 : List RegSpec := [
  { name := "LEG(n)_CMP_ON", hdr := 0x40020000, hstep := 0x0, base := 0x40030004, dims := [(128, 0x40)],
    fields := [⟨31, 29, .rw, .cmt, 0⟩, ⟨28, 0, .rw, .cmt, 0⟩], grp := none, crc := false },
  { name := "LEG(n)_CMP_OFF", hdr := 0x40020000, hstep := 0x0, base := 0x40030008, dims := [(128, 0x40)],
    fields := [⟨28, 0, .rw, .cmt, 0⟩], grp := none, crc := false },
  { name := "LEG(n)_CMP_GEN", hdr := 0x40020000, hstep := 0x0, base := 0x4003000C, dims := [(128, 0x40)],
    fields := [⟨31, 10, .rw, .imm, 0⟩, ⟨9, 9, .ro, .imm, 0⟩, ⟨8, 8, .ro, .imm, 0⟩, ⟨7, 0, .rw, .imm, 0⟩], grp := none, crc := false },
  { name := "LEG(n)_LCMP_ON", hdr := 0x40020000, hstep := 0x0, base := 0x40030010, dims := [(128, 0x40)],
    fields := [⟨28, 0, .rw, .cmt, 0⟩], grp := none, crc := false },
  { name := "LEG(n)_LCMP_OFF", hdr := 0x40020000, hstep := 0x0, base := 0x40030014, dims := [(128, 0x40)],
    fields := [⟨28, 0, .rw, .cmt, 0⟩], grp := none, crc := false },
  { name := "LEG(n)_TIM", hdr := 0x40020000, hstep := 0x0, base := 0x40030018, dims := [(128, 0x40)],
    fields := [⟨31, 16, .rw, .bnd, 0⟩, ⟨15, 12, .rw, .imm, 0⟩, ⟨11, 9, .rw, .bnd, 0⟩, ⟨8, 6, .rw, .bnd, 0⟩, ⟨5, 3, .rw, .bnd, 0⟩, ⟨2, 0, .rw, .bnd, 0⟩], grp := none, crc := true },
  { name := "LEG(n)_STAT", hdr := 0x40020000, hstep := 0x0, base := 0x4003001C, dims := [(128, 0x40)],
    fields := [⟨31, 24, .ro, .imm, 0⟩, ⟨23, 16, .ro, .imm, 0⟩, ⟨15, 8, .ro, .imm, 0⟩, ⟨7, 7, .ro, .imm, 0⟩, ⟨6, 6, .ro, .imm, 0⟩, ⟨5, 5, .ro, .imm, 0⟩, ⟨4, 4, .w1c, .imm, 0⟩, ⟨3, 3, .w1c, .imm, 0⟩, ⟨2, 2, .w1c, .imm, 0⟩, ⟨1, 1, .w1c, .imm, 0⟩, ⟨0, 0, .ro, .imm, 0⟩], grp := none, crc := false },
  { name := "MG(m)_CFG", hdr := 0x40020000, hstep := 0x0, base := 0x40032000, dims := [(32, 0x40)],
    fields := [⟨31, 4, .rwt, .imm, 0⟩, ⟨3, 2, .rwt, .cmt, 0⟩, ⟨1, 0, .rwt, .cmt, 0⟩], grp := some 2, crc := true },
  { name := "MG(m)_STAT", hdr := 0x40020000, hstep := 0x0, base := 0x40032004, dims := [(32, 0x40)],
    fields := [⟨31, 18, .ro, .imm, 0⟩, ⟨17, 16, .ro, .imm, 0⟩, ⟨15, 8, .ro, .imm, 0⟩, ⟨7, 3, .ro, .imm, 0⟩, ⟨2, 0, .ro, .imm, 0⟩], grp := none, crc := false },
  { name := "MG(m)_MEMB(i)", hdr := 0x40020000, hstep := 0x0, base := 0x40032008, dims := [(32, 0x40), (4, 0x4)],
    fields := [⟨31, 0, .ro, .imm, 0⟩], grp := none, crc := false },
  { name := "MG(m)_IRQ_RAW", hdr := 0x40020000, hstep := 0x0, base := 0x40032018, dims := [(32, 0x40)],
    fields := [⟨31, 8, .ro, .imm, 0⟩, ⟨7, 7, .w1c, .imm, 0⟩, ⟨6, 6, .w1c, .imm, 0⟩, ⟨5, 5, .w1c, .imm, 0⟩, ⟨4, 4, .w1c, .imm, 0⟩, ⟨3, 3, .w1c, .imm, 0⟩, ⟨2, 2, .w1c, .imm, 0⟩, ⟨1, 1, .w1c, .imm, 0⟩, ⟨0, 0, .w1c, .imm, 0⟩], grp := none, crc := false },
  { name := "MG(m)_IRQ_EN", hdr := 0x40020000, hstep := 0x0, base := 0x4003201C, dims := [(32, 0x40)],
    fields := [⟨7, 0, .mw, .imm, 0⟩], grp := none, crc := false },
  { name := "THY_TRIP_SRC(s)", hdr := 0x40020000, hstep := 0x0, base := 0x40020100, dims := [(96, 0x4)],
    fields := [⟨31, 31, .rw, .cmt, 0⟩, ⟨30, 30, .rw, .cmt, 0⟩, ⟨29, 28, .rw, .cmt, 2⟩, ⟨27, 27, .rw, .cmt, 0⟩, ⟨26, 26, .rw, .cmt, 0⟩, ⟨25, 23, .rw, .imm, 0⟩, ⟨22, 16, .rw, .cmt, 0⟩, ⟨15, 8, .rw, .imm, 0⟩, ⟨7, 0, .rw, .cmt, 0⟩], grp := none, crc := false },
  { name := "THY_TRIP_LVL(i)", hdr := 0x40020000, hstep := 0x0, base := 0x40020280, dims := [(3, 0x4)],
    fields := [⟨31, 0, .ro, .imm, 0⟩], grp := none, crc := false },
  { name := "THY_TRIP_SUM", hdr := 0x40020000, hstep := 0x0, base := 0x4002028C, dims := [],
    fields := [⟨31, 0, .ro, .imm, 0⟩], grp := none, crc := false },
  { name := "THY_TRIP_CNT(s)", hdr := 0x40020000, hstep := 0x0, base := 0x40020290, dims := [(96, 0x4)],
    fields := [⟨31, 0, .ro, .imm, 0⟩], grp := none, crc := false }]

/-- Registers of the THY block, part 4. -/
def regsThy4 : List RegSpec := [
  { name := "LEG(n)_TRIP_CFG", hdr := 0x40020000, hstep := 0x0, base := 0x40030020, dims := [(128, 0x40)],
    fields := [⟨31, 24, .rw, .bnd, 8⟩, ⟨23, 16, .rw, .bnd, 16⟩, ⟨15, 14, .rw, .bnd, 2⟩, ⟨13, 12, .rw, .bnd, 2⟩, ⟨11, 10, .rw, .bnd, 2⟩, ⟨9, 8, .rw, .bnd, 2⟩, ⟨7, 0, .rw, .imm, 0⟩], grp := none, crc := false },
  { name := "LEG(n)_TRIP_TIM", hdr := 0x40020000, hstep := 0x0, base := 0x40030024, dims := [(128, 0x40)],
    fields := [⟨31, 27, .rw, .imm, 0⟩, ⟨26, 16, .rw, .bnd, 200⟩, ⟨15, 11, .rw, .imm, 0⟩, ⟨10, 0, .rw, .bnd, 160⟩], grp := none, crc := false },
  { name := "LEG(n)_TRIP_STAT", hdr := 0x40020000, hstep := 0x0, base := 0x40030028, dims := [(128, 0x40)],
    fields := [⟨31, 24, .ro, .imm, 0⟩, ⟨23, 16, .ro, .imm, 0⟩, ⟨15, 15, .ro, .imm, 0⟩, ⟨14, 14, .ro, .imm, 0⟩, ⟨13, 13, .ro, .imm, 0⟩, ⟨12, 10, .ro, .imm, 0⟩, ⟨9, 0, .ro, .imm, 0⟩], grp := none, crc := false },
  { name := "LEG(n)_TRIP_CLR", hdr := 0x40020000, hstep := 0x0, base := 0x4003002C, dims := [(128, 0x40)],
    fields := [⟨31, 2, .wo, .imm, 0⟩, ⟨1, 1, .wo, .imm, 0⟩, ⟨0, 0, .wo, .imm, 0⟩], grp := none, crc := false },
  { name := "LEG(n)_CBC_TOT", hdr := 0x40020000, hstep := 0x0, base := 0x40030030, dims := [(128, 0x40)],
    fields := [⟨31, 0, .ro, .imm, 0⟩], grp := none, crc := false },
  { name := "LEG(n)_TRIP_TIME", hdr := 0x40020000, hstep := 0x0, base := 0x40030034, dims := [(128, 0x40)],
    fields := [⟨31, 0, .ro, .imm, 0⟩], grp := none, crc := false },
  { name := "LEG(n)_BOOT", hdr := 0x40020000, hstep := 0x0, base := 0x40030038, dims := [(128, 0x40)],
    fields := [⟨31, 16, .ro, .imm, 0⟩, ⟨15, 4, .ro, .imm, 0⟩, ⟨3, 3, .ro, .imm, 0⟩, ⟨2, 2, .ro, .imm, 0⟩, ⟨1, 1, .ro, .imm, 0⟩, ⟨0, 0, .ro, .imm, 0⟩], grp := none, crc := false },
  { name := "LEG(n)_TRIP_EVT", hdr := 0x40020000, hstep := 0x0, base := 0x4003003C, dims := [(128, 0x40)],
    fields := [⟨31, 24, .ro, .imm, 0⟩, ⟨23, 16, .ro, .imm, 0⟩, ⟨15, 8, .ro, .imm, 0⟩, ⟨7, 0, .ro, .imm, 0⟩], grp := none, crc := false },
  { name := "MG(m)_SAFE_CFG", hdr := 0x40020000, hstep := 0x0, base := 0x40032020, dims := [(32, 0x40)],
    fields := [⟨31, 1, .rw, .imm, 0⟩, ⟨0, 0, .rw, .cmt, 0⟩], grp := none, crc := false },
  { name := "MG(m)_SAFE_CMD", hdr := 0x40020000, hstep := 0x0, base := 0x40032024, dims := [(32, 0x40)],
    fields := [⟨31, 4, .wo, .imm, 0⟩, ⟨3, 0, .wo, .imm, 0⟩], grp := none, crc := false },
  { name := "MG(m)_TRIP_STAT", hdr := 0x40020000, hstep := 0x0, base := 0x40032028, dims := [(32, 0x40)],
    fields := [⟨31, 24, .ro, .imm, 0⟩, ⟨23, 16, .ro, .imm, 0⟩, ⟨15, 8, .ro, .imm, 0⟩, ⟨7, 7, .ro, .imm, 0⟩, ⟨6, 6, .ro, .imm, 0⟩, ⟨5, 5, .ro, .imm, 0⟩, ⟨4, 4, .ro, .imm, 0⟩, ⟨3, 3, .ro, .imm, 0⟩, ⟨2, 2, .ro, .imm, 0⟩, ⟨1, 1, .ro, .imm, 0⟩, ⟨0, 0, .ro, .imm, 0⟩], grp := none, crc := false },
  { name := "MG(m)_TRIP_CLR", hdr := 0x40020000, hstep := 0x0, base := 0x4003202C, dims := [(32, 0x40)],
    fields := [⟨31, 2, .wo, .imm, 0⟩, ⟨1, 1, .wo, .imm, 0⟩, ⟨0, 0, .wo, .imm, 0⟩], grp := none, crc := false },
  { name := "MG(m)_SAFE_SEL", hdr := 0x40020000, hstep := 0x0, base := 0x40032030, dims := [(32, 0x40)],
    fields := [⟨31, 9, .ro, .imm, 0⟩, ⟨8, 6, .ro, .imm, 0⟩, ⟨5, 3, .ro, .imm, 0⟩, ⟨2, 0, .ro, .imm, 0⟩], grp := none, crc := false },
  { name := "MG(m)_SAFE_TIME", hdr := 0x40020000, hstep := 0x0, base := 0x40032034, dims := [(32, 0x40)],
    fields := [⟨31, 0, .ro, .imm, 0⟩], grp := none, crc := false },
  { name := "MG(m)_SAFE_CNT", hdr := 0x40020000, hstep := 0x0, base := 0x40032038, dims := [(32, 0x40)],
    fields := [⟨31, 16, .ro, .imm, 0⟩, ⟨15, 0, .ro, .imm, 0⟩], grp := none, crc := false },
  { name := "MG(m)_SIDE_STAT", hdr := 0x40020000, hstep := 0x0, base := 0x4003203C, dims := [(32, 0x40)],
    fields := [⟨31, 3, .ro, .imm, 0⟩, ⟨2, 2, .ro, .imm, 0⟩, ⟨1, 1, .ro, .imm, 0⟩, ⟨0, 0, .ro, .imm, 0⟩], grp := none, crc := false }]

/-- Registers of the THY block. -/
def regsThy : List RegSpec := regsThy0 ++ regsThy1 ++ regsThy2 ++ regsThy3 ++ regsThy4

/-- Registers of the NDL block, part 0. -/
def regsNdl0 : List RegSpec := [
  { name := "NDL_ID", hdr := 0x40040000, hstep := 0x0, base := 0x40040000, dims := [],
    fields := [⟨31, 24, .ro, .imm, 5⟩, ⟨23, 16, .ro, .imm, 0⟩, ⟨15, 8, .ro, .imm, 3⟩, ⟨7, 0, .ro, .imm, 0⟩], grp := none, crc := false },
  { name := "NDL_CAPS", hdr := 0x40040000, hstep := 0x0, base := 0x40040004, dims := [],
    fields := [⟨31, 16, .ro, .imm, 0⟩, ⟨15, 8, .ro, .imm, 16⟩, ⟨7, 4, .ro, .imm, 2⟩, ⟨3, 3, .ro, .imm, 1⟩, ⟨2, 2, .ro, .imm, 1⟩, ⟨1, 0, .ro, .imm, 0⟩], grp := none, crc := false },
  { name := "NDL_CTRL", hdr := 0x40040000, hstep := 0x0, base := 0x40040008, dims := [],
    fields := [⟨15, 8, .mw, .imm, 0⟩, ⟨7, 4, .mw, .imm, 0⟩, ⟨3, 3, .mw, .imm, 0⟩, ⟨2, 2, .mw, .imm, 0⟩, ⟨1, 1, .mw, .imm, 0⟩, ⟨0, 0, .mw, .imm, 1⟩], grp := none, crc := false },
  { name := "NDL_STAT", hdr := 0x40040000, hstep := 0x0, base := 0x4004000C, dims := [],
    fields := [⟨31, 9, .ro, .imm, 0⟩, ⟨8, 8, .ro, .imm, 0⟩, ⟨7, 4, .ro, .imm, 0⟩, ⟨3, 3, .ro, .imm, 0⟩, ⟨2, 2, .ro, .imm, 0⟩, ⟨1, 1, .ro, .imm, 0⟩, ⟨0, 0, .ro, .imm, 0⟩], grp := none, crc := false },
  { name := "NDL_IRQ_RAW", hdr := 0x40040000, hstep := 0x0, base := 0x40040010, dims := [],
    fields := [⟨15, 8, .w1c, .imm, 0⟩, ⟨7, 7, .w1c, .imm, 0⟩, ⟨6, 6, .w1c, .imm, 0⟩, ⟨5, 5, .w1c, .imm, 0⟩, ⟨4, 4, .w1c, .imm, 0⟩, ⟨3, 3, .w1c, .imm, 0⟩, ⟨2, 2, .w1c, .imm, 0⟩, ⟨1, 1, .w1c, .imm, 0⟩, ⟨0, 0, .w1c, .imm, 0⟩], grp := none, crc := false },
  { name := "NDL_IRQ_EN", hdr := 0x40040000, hstep := 0x0, base := 0x40040014, dims := [],
    fields := [⟨15, 0, .mw, .imm, 0⟩], grp := none, crc := false },
  { name := "NDL_IRQ_OUT", hdr := 0x40040000, hstep := 0x0, base := 0x40040018, dims := [],
    fields := [⟨31, 17, .ro, .imm, 0⟩, ⟨16, 16, .ro, .imm, 0⟩, ⟨15, 0, .ro, .imm, 0⟩], grp := none, crc := false },
  { name := "NDL_ERR", hdr := 0x40040000, hstep := 0x0, base := 0x4004001C, dims := [],
    fields := [⟨31, 20, .w1c, .imm, 0⟩, ⟨19, 19, .w1c, .imm, 0⟩, ⟨18, 18, .w1c, .imm, 0⟩, ⟨17, 17, .w1c, .imm, 0⟩, ⟨16, 16, .w1c, .imm, 0⟩, ⟨5, 5, .w1c, .imm, 0⟩, ⟨4, 4, .w1c, .imm, 0⟩, ⟨3, 3, .w1c, .imm, 0⟩, ⟨2, 2, .w1c, .imm, 0⟩, ⟨1, 1, .w1c, .imm, 0⟩, ⟨0, 0, .w1c, .imm, 0⟩], grp := none, crc := false },
  { name := "NDL_COMMIT", hdr := 0x40040000, hstep := 0x0, base := 0x40040020, dims := [],
    fields := [⟨31, 10, .wo, .imm, 0⟩, ⟨9, 9, .wo, .imm, 0⟩, ⟨8, 8, .wo, .imm, 0⟩, ⟨7, 0, .wo, .imm, 0⟩], grp := none, crc := false },
  { name := "NDL_GEN", hdr := 0x40040000, hstep := 0x0, base := 0x40040024, dims := [],
    fields := [⟨31, 16, .ro, .imm, 0⟩, ⟨15, 8, .ro, .imm, 0⟩, ⟨7, 0, .ro, .imm, 0⟩], grp := none, crc := false },
  { name := "NDL_CRC_REF", hdr := 0x40040000, hstep := 0x0, base := 0x40040028, dims := [],
    fields := [⟨31, 0, .rw, .cmt, 0⟩], grp := none, crc := false },
  { name := "NDL_CRC_NOW", hdr := 0x40040000, hstep := 0x0, base := 0x4004002C, dims := [],
    fields := [⟨31, 0, .ro, .imm, 0⟩], grp := none, crc := false },
  { name := "NDL_TMR_STAT", hdr := 0x40040000, hstep := 0x0, base := 0x40040030, dims := [],
    fields := [⟨31, 24, .ro, .imm, 0⟩, ⟨23, 16, .ro, .imm, 0⟩, ⟨15, 8, .ro, .imm, 0⟩, ⟨7, 0, .ro, .imm, 0⟩], grp := none, crc := false },
  { name := "NDL_WARDEN", hdr := 0x40040000, hstep := 0x0, base := 0x40040034, dims := [],
    fields := [⟨31, 16, .ro, .imm, 0⟩, ⟨15, 2, .ro, .imm, 0⟩, ⟨1, 0, .ro, .imm, 0⟩], grp := none, crc := false },
  { name := "NDL_TEST0", hdr := 0x40040000, hstep := 0x0, base := 0x40040038, dims := [],
    fields := [⟨31, 0, .rw, .imm, 0⟩], grp := none, crc := false },
  { name := "NDL_TEST1", hdr := 0x40040000, hstep := 0x0, base := 0x4004003C, dims := [],
    fields := [⟨31, 0, .rw, .imm, 0⟩], grp := none, crc := false }]

/-- Registers of the NDL block, part 1. -/
def regsNdl1 : List RegSpec := [
  { name := "NDL_UP", hdr := 0x40040000, hstep := 0x0, base := 0x40040040, dims := [],
    fields := [⟨31, 0, .ro, .imm, 0⟩], grp := none, crc := false },
  { name := "NDL_LOSS", hdr := 0x40040000, hstep := 0x0, base := 0x40040044, dims := [],
    fields := [⟨31, 0, .ro, .imm, 0⟩], grp := none, crc := false },
  { name := "NDL_TOK", hdr := 0x40040000, hstep := 0x0, base := 0x40040048, dims := [],
    fields := [⟨31, 0, .ro, .imm, 0⟩], grp := none, crc := false },
  { name := "NDL_LATE_SUM", hdr := 0x40040000, hstep := 0x0, base := 0x4004004C, dims := [],
    fields := [⟨31, 0, .ro, .imm, 0⟩], grp := none, crc := false },
  { name := "NDL_CONS_FAIL", hdr := 0x40040000, hstep := 0x0, base := 0x40040050, dims := [],
    fields := [⟨31, 31, .ro, .imm, 0⟩, ⟨30, 21, .ro, .imm, 0⟩, ⟨20, 16, .ro, .imm, 0⟩, ⟨15, 8, .ro, .imm, 0⟩, ⟨7, 0, .ro, .imm, 0⟩], grp := none, crc := false },
  { name := "NDL_FRAME_CNT", hdr := 0x40040000, hstep := 0x0, base := 0x40040054, dims := [],
    fields := [⟨31, 0, .ro, .imm, 0⟩], grp := none, crc := false },
  { name := "NDL(p)_CTRL", hdr := 0x40040000, hstep := 0x0, base := 0x40041000, dims := [(32, 0x100)],
    fields := [⟨31, 2, .rw, .imm, 0⟩, ⟨1, 1, .rw, .imm, 1⟩, ⟨0, 0, .rw, .imm, 0⟩], grp := none, crc := false },
  { name := "NDL(p)_STAT", hdr := 0x40040000, hstep := 0x0, base := 0x40041004, dims := [(32, 0x100)],
    fields := [⟨31, 30, .ro, .imm, 0⟩, ⟨29, 24, .ro, .imm, 0⟩, ⟨23, 16, .ro, .imm, 0⟩, ⟨15, 12, .ro, .imm, 0⟩, ⟨11, 11, .ro, .imm, 0⟩, ⟨10, 8, .ro, .imm, 0⟩, ⟨7, 7, .ro, .imm, 0⟩, ⟨6, 6, .ro, .imm, 0⟩, ⟨5, 5, .ro, .imm, 0⟩, ⟨4, 4, .ro, .imm, 0⟩, ⟨3, 3, .ro, .imm, 0⟩, ⟨2, 0, .ro, .imm, 0⟩], grp := none, crc := false },
  { name := "NDL(p)_LEAD", hdr := 0x40040000, hstep := 0x0, base := 0x40041008, dims := [(32, 0x100)],
    fields := [⟨31, 14, .rwt, .imm, 0⟩, ⟨13, 0, .rwt, .cmt, 600⟩], grp := some 0, crc := true },
  { name := "NDL(p)_TIMING", hdr := 0x40040000, hstep := 0x0, base := 0x4004100C, dims := [(32, 0x100)],
    fields := [⟨31, 22, .rwt, .imm, 0⟩, ⟨21, 16, .rwt, .cmt, 40⟩, ⟨15, 8, .rwt, .imm, 0⟩, ⟨7, 0, .rwt, .cmt, 20⟩], grp := some 1, crc := true },
  { name := "NDL(p)_SYNC", hdr := 0x40040000, hstep := 0x0, base := 0x40041010, dims := [(32, 0x100)],
    fields := [⟨31, 16, .rw, .cmt, 0⟩, ⟨15, 10, .rw, .imm, 0⟩, ⟨9, 0, .rw, .cmt, 20⟩], grp := none, crc := true },
  { name := "NDL(p)_OFS", hdr := 0x40040000, hstep := 0x0, base := 0x40041014, dims := [(32, 0x100)],
    fields := [⟨31, 16, .ro, .imm, 0⟩, ⟨15, 0, .ro, .imm, 0⟩], grp := none, crc := false },
  { name := "NDL(p)_HINT", hdr := 0x40040000, hstep := 0x0, base := 0x40041018, dims := [(32, 0x100)],
    fields := [⟨31, 16, .rw, .imm, 0⟩, ⟨15, 8, .ro, .imm, 0⟩, ⟨7, 4, .rw, .imm, 0⟩, ⟨3, 0, .rw, .cmt, 15⟩], grp := none, crc := true },
  { name := "NDL(p)_TEL_CFG", hdr := 0x40040000, hstep := 0x0, base := 0x4004101C, dims := [(32, 0x100)],
    fields := [⟨31, 24, .rw, .imm, 0⟩, ⟨23, 16, .rw, .cmt, 1⟩, ⟨15, 10, .rw, .imm, 0⟩, ⟨9, 0, .rw, .cmt, 100⟩], grp := none, crc := true },
  { name := "NDL(p)_GPROF(i)(d)", hdr := 0x40040000, hstep := 0x0, base := 0x40041020, dims := [(32, 0x100), (8, 0x8), (2, 0x4)],
    fields := [⟨31, 0, .rw, .cmt, 4169478908⟩], grp := none, crc := true },
  { name := "NDL(p)_TELEM(s)", hdr := 0x40040000, hstep := 0x0, base := 0x40041060, dims := [(32, 0x100), (4, 0x4)],
    fields := [⟨31, 20, .ro, .imm, 0⟩, ⟨19, 12, .ro, .imm, 0⟩, ⟨11, 2, .ro, .imm, 0⟩, ⟨1, 1, .ro, .imm, 0⟩, ⟨0, 0, .ro, .imm, 0⟩], grp := none, crc := false }]

/-- Registers of the NDL block, part 2. -/
def regsNdl2 : List RegSpec := [
  { name := "NDL(p)_EDGE_CNT", hdr := 0x40040000, hstep := 0x0, base := 0x40041070, dims := [(32, 0x100)],
    fields := [⟨31, 0, .ro, .imm, 0⟩], grp := none, crc := false },
  { name := "NDL(p)_LATE_RETRACT", hdr := 0x40040000, hstep := 0x0, base := 0x40041074, dims := [(32, 0x100)],
    fields := [⟨31, 0, .ro, .imm, 0⟩], grp := none, crc := false },
  { name := "NDL(p)_LATE_EDGE", hdr := 0x40040000, hstep := 0x0, base := 0x40041078, dims := [(32, 0x100)],
    fields := [⟨31, 16, .ro, .imm, 0⟩, ⟨15, 0, .ro, .imm, 0⟩], grp := none, crc := false },
  { name := "NDL(p)_LEAD_VIOL", hdr := 0x40040000, hstep := 0x0, base := 0x4004107C, dims := [(32, 0x100)],
    fields := [⟨31, 0, .ro, .imm, 0⟩], grp := none, crc := false },
  { name := "NDL(p)_RETRACT_CNT", hdr := 0x40040000, hstep := 0x0, base := 0x40041080, dims := [(32, 0x100)],
    fields := [⟨31, 0, .ro, .imm, 0⟩], grp := none, crc := false },
  { name := "NDL(p)_CRC_ERR", hdr := 0x40040000, hstep := 0x0, base := 0x40041084, dims := [(32, 0x100)],
    fields := [⟨31, 16, .ro, .imm, 0⟩, ⟨15, 0, .ro, .imm, 0⟩], grp := none, crc := false },
  { name := "NDL(p)_RESEND", hdr := 0x40040000, hstep := 0x0, base := 0x40041088, dims := [(32, 0x100)],
    fields := [⟨31, 0, .ro, .imm, 0⟩], grp := none, crc := false },
  { name := "NDL(p)_LOSS_CNT", hdr := 0x40040000, hstep := 0x0, base := 0x4004108C, dims := [(32, 0x100)],
    fields := [⟨31, 16, .ro, .imm, 0⟩, ⟨15, 0, .ro, .imm, 0⟩], grp := none, crc := false },
  { name := "NDL(p)_TOKEN", hdr := 0x40040000, hstep := 0x0, base := 0x40041090, dims := [(32, 0x100)],
    fields := [⟨31, 2, .wo, .imm, 0⟩, ⟨1, 0, .wo, .imm, 0⟩], grp := none, crc := false },
  { name := "NDL(p)_TOK_STAT", hdr := 0x40040000, hstep := 0x0, base := 0x40041094, dims := [(32, 0x100)],
    fields := [⟨31, 5, .ro, .imm, 0⟩, ⟨4, 4, .ro, .imm, 0⟩, ⟨3, 3, .ro, .imm, 0⟩, ⟨2, 2, .ro, .imm, 0⟩, ⟨1, 0, .ro, .imm, 0⟩], grp := none, crc := false },
  { name := "NDL(p)_IRQ_RAW", hdr := 0x40040000, hstep := 0x0, base := 0x40041098, dims := [(32, 0x100)],
    fields := [⟨31, 10, .ro, .imm, 0⟩, ⟨9, 0, .w1c, .imm, 0⟩], grp := none, crc := false },
  { name := "NDL(p)_IRQ_EN", hdr := 0x40040000, hstep := 0x0, base := 0x4004109C, dims := [(32, 0x100)],
    fields := [⟨9, 0, .mw, .imm, 0⟩], grp := none, crc := false },
  { name := "NDL(p)_SAT_ID", hdr := 0x40040000, hstep := 0x0, base := 0x400410A0, dims := [(32, 0x100)],
    fields := [⟨31, 0, .ro, .imm, 0⟩], grp := none, crc := false },
  { name := "NDL(p)_SAT_CAPS", hdr := 0x40040000, hstep := 0x0, base := 0x400410A4, dims := [(32, 0x100)],
    fields := [⟨31, 0, .ro, .imm, 0⟩], grp := none, crc := false },
  { name := "NDL(p)_NOT_OWNER", hdr := 0x40040000, hstep := 0x0, base := 0x400410A8, dims := [(32, 0x100)],
    fields := [⟨31, 0, .ro, .imm, 0⟩], grp := none, crc := false },
  { name := "NDL(p)_SAT_ILK", hdr := 0x40040000, hstep := 0x0, base := 0x400410AC, dims := [(32, 0x100)],
    fields := [⟨31, 0, .ro, .imm, 0⟩], grp := none, crc := false }]

/-- Registers of the NDL block. -/
def regsNdl : List RegSpec := regsNdl0 ++ regsNdl1 ++ regsNdl2

/-- Registers of the ENG block, part 0. -/
def regsEng0 : List RegSpec := [
  { name := "ENG_ID", hdr := 0x40050000, hstep := 0x0, base := 0x40050000, dims := [],
    fields := [⟨31, 24, .ro, .imm, 6⟩, ⟨23, 16, .ro, .imm, 0⟩, ⟨15, 8, .ro, .imm, 3⟩, ⟨7, 0, .ro, .imm, 0⟩], grp := none, crc := false },
  { name := "ENG_CAPS", hdr := 0x40050000, hstep := 0x0, base := 0x40050004, dims := [],
    fields := [⟨31, 16, .ro, .imm, 0⟩, ⟨15, 8, .ro, .imm, 2⟩, ⟨7, 4, .ro, .imm, 1⟩, ⟨3, 3, .ro, .imm, 1⟩, ⟨2, 2, .ro, .imm, 1⟩, ⟨1, 0, .ro, .imm, 0⟩], grp := none, crc := false },
  { name := "ENG_CTRL", hdr := 0x40050000, hstep := 0x0, base := 0x40050008, dims := [],
    fields := [⟨15, 8, .mw, .imm, 0⟩, ⟨7, 4, .mw, .imm, 0⟩, ⟨3, 3, .mw, .imm, 0⟩, ⟨2, 2, .mw, .imm, 0⟩, ⟨1, 1, .mw, .imm, 0⟩, ⟨0, 0, .mw, .imm, 1⟩], grp := none, crc := false },
  { name := "ENG_STAT", hdr := 0x40050000, hstep := 0x0, base := 0x4005000C, dims := [],
    fields := [⟨31, 10, .ro, .imm, 0⟩, ⟨9, 9, .ro, .imm, 0⟩, ⟨8, 8, .ro, .imm, 0⟩, ⟨7, 4, .ro, .imm, 0⟩, ⟨3, 3, .ro, .imm, 0⟩, ⟨2, 2, .ro, .imm, 0⟩, ⟨1, 1, .ro, .imm, 0⟩, ⟨0, 0, .ro, .imm, 0⟩], grp := none, crc := false },
  { name := "ENG_IRQ_RAW", hdr := 0x40050000, hstep := 0x0, base := 0x40050010, dims := [],
    fields := [⟨15, 9, .w1c, .imm, 0⟩, ⟨8, 8, .w1c, .imm, 0⟩, ⟨7, 7, .w1c, .imm, 0⟩, ⟨6, 6, .w1c, .imm, 0⟩, ⟨5, 5, .w1c, .imm, 0⟩, ⟨4, 4, .w1c, .imm, 0⟩, ⟨3, 3, .w1c, .imm, 0⟩, ⟨2, 2, .w1c, .imm, 0⟩, ⟨1, 1, .w1c, .imm, 0⟩, ⟨0, 0, .w1c, .imm, 0⟩], grp := none, crc := false },
  { name := "ENG_IRQ_EN", hdr := 0x40050000, hstep := 0x0, base := 0x40050014, dims := [],
    fields := [⟨15, 0, .mw, .imm, 0⟩], grp := none, crc := false },
  { name := "ENG_IRQ_OUT", hdr := 0x40050000, hstep := 0x0, base := 0x40050018, dims := [],
    fields := [⟨31, 17, .ro, .imm, 0⟩, ⟨16, 16, .ro, .imm, 0⟩, ⟨15, 0, .ro, .imm, 0⟩], grp := none, crc := false },
  { name := "ENG_ERR", hdr := 0x40050000, hstep := 0x0, base := 0x4005001C, dims := [],
    fields := [⟨31, 21, .w1c, .imm, 0⟩, ⟨20, 20, .w1c, .imm, 0⟩, ⟨19, 19, .w1c, .imm, 0⟩, ⟨18, 18, .w1c, .imm, 0⟩, ⟨17, 17, .w1c, .imm, 0⟩, ⟨16, 16, .w1c, .imm, 0⟩, ⟨5, 5, .w1c, .imm, 0⟩, ⟨4, 4, .w1c, .imm, 0⟩, ⟨3, 3, .w1c, .imm, 0⟩, ⟨2, 2, .w1c, .imm, 0⟩, ⟨1, 1, .w1c, .imm, 0⟩, ⟨0, 0, .w1c, .imm, 0⟩], grp := none, crc := false },
  { name := "ENG_COMMIT", hdr := 0x40050000, hstep := 0x0, base := 0x40050020, dims := [],
    fields := [⟨31, 10, .wo, .imm, 0⟩, ⟨9, 9, .wo, .imm, 0⟩, ⟨8, 8, .wo, .imm, 0⟩, ⟨7, 0, .wo, .imm, 0⟩], grp := none, crc := false },
  { name := "ENG_GEN", hdr := 0x40050000, hstep := 0x0, base := 0x40050024, dims := [],
    fields := [⟨31, 16, .ro, .imm, 0⟩, ⟨15, 8, .ro, .imm, 0⟩, ⟨7, 0, .ro, .imm, 0⟩], grp := none, crc := false },
  { name := "ENG_CRC_REF", hdr := 0x40050000, hstep := 0x0, base := 0x40050028, dims := [],
    fields := [⟨31, 0, .rw, .cmt, 0⟩], grp := none, crc := false },
  { name := "ENG_CRC_NOW", hdr := 0x40050000, hstep := 0x0, base := 0x4005002C, dims := [],
    fields := [⟨31, 0, .ro, .imm, 0⟩], grp := none, crc := false },
  { name := "ENG_TMR_STAT", hdr := 0x40050000, hstep := 0x0, base := 0x40050030, dims := [],
    fields := [⟨31, 24, .ro, .imm, 0⟩, ⟨23, 16, .ro, .imm, 0⟩, ⟨15, 8, .ro, .imm, 0⟩, ⟨7, 0, .ro, .imm, 0⟩], grp := none, crc := false },
  { name := "ENG_WARDEN", hdr := 0x40050000, hstep := 0x0, base := 0x40050034, dims := [],
    fields := [⟨31, 16, .ro, .imm, 0⟩, ⟨15, 2, .ro, .imm, 0⟩, ⟨1, 0, .ro, .imm, 0⟩], grp := none, crc := false },
  { name := "ENG_TEST0", hdr := 0x40050000, hstep := 0x0, base := 0x40050038, dims := [],
    fields := [⟨31, 0, .rw, .imm, 0⟩], grp := none, crc := false },
  { name := "ENG_TEST1", hdr := 0x40050000, hstep := 0x0, base := 0x4005003C, dims := [],
    fields := [⟨31, 0, .rw, .imm, 0⟩], grp := none, crc := false }]

/-- Registers of the ENG block, part 1. -/
def regsEng1 : List RegSpec := [
  { name := "ENG_CFG", hdr := 0x40050000, hstep := 0x0, base := 0x40050040, dims := [],
    fields := [⟨31, 16, .rwt, .imm, 0⟩, ⟨15, 8, .rwt, .bnd, 0⟩, ⟨7, 1, .rwt, .imm, 0⟩, ⟨0, 0, .rwt, .bnd, 0⟩], grp := some 0, crc := true },
  { name := "ENG_WSEL", hdr := 0x40050000, hstep := 0x0, base := 0x40050044, dims := [],
    fields := [⟨31, 7, .rw, .imm, 0⟩, ⟨6, 0, .rw, .imm, 0⟩], grp := none, crc := false },
  { name := "ENG_ADM_SUM", hdr := 0x40050000, hstep := 0x0, base := 0x40050048, dims := [],
    fields := [⟨31, 24, .ro, .imm, 0⟩, ⟨23, 0, .ro, .imm, 0⟩], grp := none, crc := false },
  { name := "ENG_ADM_LIMIT", hdr := 0x40050000, hstep := 0x0, base := 0x4005004C, dims := [],
    fields := [⟨23, 0, .ro, .imm, 136000⟩], grp := none, crc := false },
  { name := "ENG_LOAD", hdr := 0x40050000, hstep := 0x0, base := 0x40050050, dims := [],
    fields := [⟨23, 0, .ro, .imm, 0⟩], grp := none, crc := false },
  { name := "ENG_LOAD_PEAK", hdr := 0x40050000, hstep := 0x0, base := 0x40050054, dims := [],
    fields := [⟨23, 0, .rc, .imm, 0⟩], grp := none, crc := false },
  { name := "ENG_LANE_STAT", hdr := 0x40050000, hstep := 0x0, base := 0x40050058, dims := [],
    fields := [⟨31, 8, .ro, .imm, 0⟩, ⟨7, 4, .ro, .imm, 0⟩, ⟨3, 0, .ro, .imm, 0⟩], grp := none, crc := false },
  { name := "ENG_PRIV_MIS", hdr := 0x40050000, hstep := 0x0, base := 0x4005005C, dims := [],
    fields := [⟨31, 0, .ro, .imm, 0⟩], grp := none, crc := false },
  { name := "ENG_OVR_CNT", hdr := 0x40050000, hstep := 0x0, base := 0x40050060, dims := [],
    fields := [⟨31, 0, .ro, .imm, 0⟩], grp := none, crc := false },
  { name := "ENG_CANCEL_CNT", hdr := 0x40050000, hstep := 0x0, base := 0x40050064, dims := [],
    fields := [⟨31, 0, .ro, .imm, 0⟩], grp := none, crc := false },
  { name := "ENG_KS_CTRL", hdr := 0x40050000, hstep := 0x0, base := 0x40050068, dims := [],
    fields := [⟨31, 2, .wo, .imm, 0⟩, ⟨1, 1, .wo, .imm, 0⟩, ⟨0, 0, .wo, .imm, 0⟩], grp := none, crc := false },
  { name := "ENG_KS_STAT", hdr := 0x40050000, hstep := 0x0, base := 0x4005006C, dims := [],
    fields := [⟨31, 16, .ro, .imm, 0⟩, ⟨15, 2, .ro, .imm, 0⟩, ⟨1, 0, .ro, .imm, 2⟩], grp := none, crc := false },
  { name := "ENG_KS_CRC", hdr := 0x40050000, hstep := 0x0, base := 0x40050070, dims := [],
    fields := [⟨31, 0, .rw, .imm, 0⟩], grp := none, crc := false },
  { name := "ENG_TRACE_CFG", hdr := 0x40050000, hstep := 0x0, base := 0x40050074, dims := [],
    fields := [⟨31, 31, .rw, .bnd, 0⟩, ⟨30, 24, .rw, .bnd, 0⟩, ⟨23, 23, .rw, .bnd, 0⟩, ⟨22, 16, .rw, .bnd, 0⟩, ⟨15, 15, .rw, .bnd, 0⟩, ⟨14, 8, .rw, .bnd, 0⟩, ⟨7, 7, .rw, .bnd, 0⟩, ⟨6, 0, .rw, .bnd, 0⟩], grp := none, crc := true },
  { name := "ENG_TRACE_WP", hdr := 0x40050000, hstep := 0x0, base := 0x40050078, dims := [],
    fields := [⟨31, 11, .ro, .imm, 0⟩, ⟨10, 0, .ro, .imm, 0⟩], grp := none, crc := false },
  { name := "ENG_RUN(i)", hdr := 0x40050000, hstep := 0x0, base := 0x40050080, dims := [(4, 0x4)],
    fields := [⟨31, 0, .ro, .imm, 0⟩], grp := none, crc := false }]

/-- Registers of the ENG block, part 2. -/
def regsEng2 : List RegSpec := [
  { name := "ENG_HALT(i)", hdr := 0x40050000, hstep := 0x0, base := 0x40050090, dims := [(4, 0x4)],
    fields := [⟨31, 0, .ro, .imm, 0⟩], grp := none, crc := false },
  { name := "ENG_CIRQ(i)", hdr := 0x40050000, hstep := 0x0, base := 0x400500A0, dims := [(4, 0x4)],
    fields := [⟨31, 0, .ro, .imm, 0⟩], grp := none, crc := false },
  { name := "CTX_W_CMD", hdr := 0x40050000, hstep := 0x0, base := 0x40051000, dims := [],
    fields := [⟨31, 4, .wo, .imm, 0⟩, ⟨3, 0, .wo, .imm, 0⟩], grp := none, crc := false },
  { name := "CTX_W_STAT", hdr := 0x40050000, hstep := 0x0, base := 0x40051004, dims := [],
    fields := [⟨31, 23, .ro, .imm, 0⟩, ⟨22, 22, .ro, .imm, 0⟩, ⟨21, 21, .ro, .imm, 0⟩, ⟨20, 20, .ro, .imm, 0⟩, ⟨19, 19, .ro, .imm, 0⟩, ⟨18, 18, .ro, .imm, 0⟩, ⟨17, 17, .ro, .imm, 0⟩, ⟨16, 16, .ro, .imm, 0⟩, ⟨15, 12, .ro, .imm, 0⟩, ⟨11, 8, .ro, .imm, 0⟩, ⟨7, 4, .ro, .imm, 0⟩, ⟨3, 2, .ro, .imm, 0⟩, ⟨1, 0, .ro, .imm, 0⟩], grp := none, crc := false },
  { name := "CTX_W_CFG", hdr := 0x40050000, hstep := 0x0, base := 0x40051008, dims := [],
    fields := [⟨31, 24, .rw, .imm, 0⟩, ⟨23, 22, .rw, .imm, 0⟩, ⟨21, 21, .rw, .imm, 0⟩, ⟨20, 20, .rw, .imm, 0⟩, ⟨19, 15, .rw, .imm, 0⟩, ⟨14, 14, .rw, .imm, 0⟩, ⟨13, 9, .rw, .imm, 0⟩, ⟨8, 8, .rw, .imm, 0⟩, ⟨7, 0, .rw, .imm, 0⟩], grp := none, crc := false },
  { name := "CTX_W_LEGS", hdr := 0x40050000, hstep := 0x0, base := 0x4005100C, dims := [],
    fields := [⟨31, 12, .rw, .imm, 0⟩, ⟨11, 8, .rw, .imm, 0⟩, ⟨7, 7, .rw, .imm, 0⟩, ⟨6, 0, .rw, .imm, 0⟩], grp := none, crc := false },
  { name := "CTX_W_TRIG", hdr := 0x40050000, hstep := 0x0, base := 0x40051010, dims := [],
    fields := [⟨31, 24, .rw, .imm, 20⟩, ⟨23, 20, .rw, .imm, 3⟩, ⟨19, 12, .rw, .imm, 0⟩, ⟨11, 10, .rw, .imm, 1⟩, ⟨9, 5, .rw, .imm, 0⟩, ⟨4, 2, .rw, .imm, 0⟩, ⟨1, 0, .rw, .imm, 0⟩], grp := none, crc := false },
  { name := "CTX_W_TIMER", hdr := 0x40050000, hstep := 0x0, base := 0x40051014, dims := [],
    fields := [⟨31, 22, .rw, .imm, 0⟩, ⟨21, 0, .rw, .imm, 4000⟩], grp := none, crc := false },
  { name := "CTX_W_SRC", hdr := 0x40050000, hstep := 0x0, base := 0x40051018, dims := [],
    fields := [⟨31, 14, .rw, .imm, 0⟩, ⟨13, 12, .rw, .bnd, 0⟩, ⟨11, 10, .rw, .bnd, 0⟩, ⟨9, 7, .rw, .bnd, 0⟩, ⟨6, 0, .rw, .bnd, 0⟩], grp := none, crc := false },
  { name := "CTX_W_ADM", hdr := 0x40050000, hstep := 0x0, base := 0x4005101C, dims := [],
    fields := [⟨31, 16, .ro, .imm, 0⟩, ⟨15, 0, .ro, .imm, 0⟩], grp := none, crc := false },
  { name := "CTX_W_SETP", hdr := 0x40050000, hstep := 0x0, base := 0x40051020, dims := [],
    fields := [⟨31, 0, .rw, .bnd, 0⟩], grp := none, crc := false },
  { name := "CTX_W_ILIM", hdr := 0x40050000, hstep := 0x0, base := 0x40051024, dims := [],
    fields := [⟨31, 0, .rw, .bnd, 0⟩], grp := none, crc := false },
  { name := "CTX_W_ISEL", hdr := 0x40050000, hstep := 0x0, base := 0x40051028, dims := [],
    fields := [⟨31, 3, .rw, .imm, 0⟩, ⟨2, 0, .rw, .imm, 0⟩], grp := none, crc := false },
  { name := "CTX_W_ITEG", hdr := 0x40050000, hstep := 0x0, base := 0x4005102C, dims := [],
    fields := [⟨31, 0, .rw, .bnd, 0⟩], grp := none, crc := false },
  { name := "CTX_W_PADDR", hdr := 0x40050000, hstep := 0x0, base := 0x40051030, dims := [],
    fields := [⟨31, 10, .rw, .imm, 0⟩, ⟨9, 2, .rw, .imm, 64⟩, ⟨1, 0, .rw, .imm, 0⟩], grp := none, crc := false },
  { name := "CTX_W_PDATA", hdr := 0x40050000, hstep := 0x0, base := 0x40051034, dims := [],
    fields := [⟨31, 0, .wo, .imm, 0⟩], grp := none, crc := false }]

/-- Registers of the ENG block, part 3. -/
def regsEng3 : List RegSpec := [
  { name := "CTX_W_PCMT", hdr := 0x40050000, hstep := 0x0, base := 0x40051038, dims := [],
    fields := [⟨31, 10, .wo, .imm, 0⟩, ⟨9, 0, .wo, .imm, 0⟩], grp := none, crc := false },
  { name := "CTX_W_PGEN", hdr := 0x40050000, hstep := 0x0, base := 0x4005103C, dims := [],
    fields := [⟨15, 8, .ro, .imm, 0⟩, ⟨7, 0, .ro, .imm, 0⟩], grp := none, crc := false },
  { name := "CTX_W_PCRC", hdr := 0x40050000, hstep := 0x0, base := 0x40051040, dims := [],
    fields := [⟨31, 0, .rw, .cmt, 0⟩], grp := none, crc := false },
  { name := "CTX_W_SUP_STAT", hdr := 0x40050000, hstep := 0x0, base := 0x40051044, dims := [],
    fields := [⟨31, 16, .ro, .imm, 0⟩, ⟨15, 0, .ro, .imm, 0⟩], grp := none, crc := false },
  { name := "CTX_W_CNT_STEP", hdr := 0x40050000, hstep := 0x0, base := 0x40051048, dims := [],
    fields := [⟨31, 0, .ro, .imm, 0⟩], grp := none, crc := false },
  { name := "CTX_W_CNT_EVT", hdr := 0x40050000, hstep := 0x0, base := 0x4005104C, dims := [],
    fields := [⟨31, 24, .ro, .imm, 0⟩, ⟨23, 16, .ro, .imm, 0⟩, ⟨15, 8, .ro, .imm, 0⟩, ⟨7, 0, .ro, .imm, 0⟩], grp := none, crc := false },
  { name := "CTX_W_CYC", hdr := 0x40050000, hstep := 0x0, base := 0x40051050, dims := [],
    fields := [⟨31, 16, .rc, .imm, 0⟩, ⟨15, 0, .ro, .imm, 0⟩], grp := none, crc := false },
  { name := "CTX_W_IRQ_RAW", hdr := 0x40050000, hstep := 0x0, base := 0x40051054, dims := [],
    fields := [⟨31, 8, .ro, .imm, 0⟩, ⟨7, 0, .w1c, .imm, 0⟩], grp := none, crc := false },
  { name := "CTX_W_IRQ_EN", hdr := 0x40050000, hstep := 0x0, base := 0x40051058, dims := [],
    fields := [⟨7, 0, .mw, .imm, 0⟩], grp := none, crc := false },
  { name := "CTX_W_PG_STAT", hdr := 0x40050000, hstep := 0x0, base := 0x4005105C, dims := [],
    fields := [⟨31, 2, .ro, .imm, 0⟩, ⟨1, 1, .ro, .imm, 0⟩, ⟨0, 0, .ro, .imm, 0⟩], grp := none, crc := false },
  { name := "CTX_W_OUT(i)", hdr := 0x40050000, hstep := 0x0, base := 0x400510A0, dims := [(8, 0x4)],
    fields := [⟨31, 0, .ro, .imm, 0⟩], grp := none, crc := false }]

/-- Registers of the ENG block. -/
def regsEng : List RegSpec := regsEng0 ++ regsEng1 ++ regsEng2 ++ regsEng3

/-- Registers of the GIU block, part 0. -/
def regsGiu0 : List RegSpec := [
  { name := "GIU_ID", hdr := 0x40060000, hstep := 0x0, base := 0x40060000, dims := [],
    fields := [⟨31, 24, .ro, .imm, 7⟩, ⟨23, 16, .ro, .imm, 0⟩, ⟨15, 8, .ro, .imm, 3⟩, ⟨7, 0, .ro, .imm, 0⟩], grp := none, crc := false },
  { name := "GIU_CAPS", hdr := 0x40060000, hstep := 0x0, base := 0x40060004, dims := [],
    fields := [⟨31, 16, .ro, .imm, 0⟩, ⟨15, 8, .ro, .imm, 4⟩, ⟨7, 4, .ro, .imm, 2⟩, ⟨3, 3, .ro, .imm, 1⟩, ⟨2, 2, .ro, .imm, 1⟩, ⟨1, 0, .ro, .imm, 0⟩], grp := none, crc := false },
  { name := "GIU_CTRL", hdr := 0x40060000, hstep := 0x0, base := 0x40060008, dims := [],
    fields := [⟨15, 8, .mw, .imm, 0⟩, ⟨7, 4, .mw, .imm, 0⟩, ⟨3, 3, .mw, .imm, 0⟩, ⟨2, 2, .mw, .imm, 0⟩, ⟨1, 1, .mw, .imm, 0⟩, ⟨0, 0, .mw, .imm, 1⟩], grp := none, crc := false },
  { name := "GIU_STAT", hdr := 0x40060000, hstep := 0x0, base := 0x4006000C, dims := [],
    fields := [⟨31, 8, .ro, .imm, 0⟩, ⟨7, 4, .ro, .imm, 0⟩, ⟨3, 3, .ro, .imm, 0⟩, ⟨2, 2, .ro, .imm, 0⟩, ⟨1, 1, .ro, .imm, 0⟩, ⟨0, 0, .ro, .imm, 0⟩], grp := none, crc := false },
  { name := "GIU_IRQ_RAW", hdr := 0x40060000, hstep := 0x0, base := 0x40060010, dims := [],
    fields := [⟨15, 10, .w1c, .imm, 0⟩, ⟨9, 9, .w1c, .imm, 0⟩, ⟨8, 8, .w1c, .imm, 0⟩, ⟨7, 7, .w1c, .imm, 0⟩, ⟨6, 6, .w1c, .imm, 0⟩, ⟨5, 5, .w1c, .imm, 0⟩, ⟨4, 4, .w1c, .imm, 0⟩, ⟨3, 3, .w1c, .imm, 0⟩, ⟨2, 2, .w1c, .imm, 0⟩, ⟨1, 1, .w1c, .imm, 0⟩, ⟨0, 0, .w1c, .imm, 0⟩], grp := none, crc := false },
  { name := "GIU_IRQ_EN", hdr := 0x40060000, hstep := 0x0, base := 0x40060014, dims := [],
    fields := [⟨15, 0, .mw, .imm, 0⟩], grp := none, crc := false },
  { name := "GIU_IRQ_OUT", hdr := 0x40060000, hstep := 0x0, base := 0x40060018, dims := [],
    fields := [⟨31, 17, .ro, .imm, 0⟩, ⟨16, 16, .ro, .imm, 0⟩, ⟨15, 0, .ro, .imm, 0⟩], grp := none, crc := false },
  { name := "GIU_ERR", hdr := 0x40060000, hstep := 0x0, base := 0x4006001C, dims := [],
    fields := [⟨31, 20, .w1c, .imm, 0⟩, ⟨19, 19, .w1c, .imm, 0⟩, ⟨18, 18, .w1c, .imm, 0⟩, ⟨17, 17, .w1c, .imm, 0⟩, ⟨16, 16, .w1c, .imm, 0⟩, ⟨5, 5, .w1c, .imm, 0⟩, ⟨4, 4, .w1c, .imm, 0⟩, ⟨3, 3, .w1c, .imm, 0⟩, ⟨2, 2, .w1c, .imm, 0⟩, ⟨1, 1, .w1c, .imm, 0⟩, ⟨0, 0, .w1c, .imm, 0⟩], grp := none, crc := false },
  { name := "GIU_COMMIT", hdr := 0x40060000, hstep := 0x0, base := 0x40060020, dims := [],
    fields := [⟨31, 10, .wo, .imm, 0⟩, ⟨9, 9, .wo, .imm, 0⟩, ⟨8, 8, .wo, .imm, 0⟩, ⟨7, 0, .wo, .imm, 0⟩], grp := none, crc := false },
  { name := "GIU_GEN", hdr := 0x40060000, hstep := 0x0, base := 0x40060024, dims := [],
    fields := [⟨31, 16, .ro, .imm, 0⟩, ⟨15, 8, .ro, .imm, 0⟩, ⟨7, 0, .ro, .imm, 0⟩], grp := none, crc := false },
  { name := "GIU_CRC_REF", hdr := 0x40060000, hstep := 0x0, base := 0x40060028, dims := [],
    fields := [⟨31, 0, .rw, .cmt, 0⟩], grp := none, crc := false },
  { name := "GIU_CRC_NOW", hdr := 0x40060000, hstep := 0x0, base := 0x4006002C, dims := [],
    fields := [⟨31, 0, .ro, .imm, 0⟩], grp := none, crc := false },
  { name := "GIU_TMR_STAT", hdr := 0x40060000, hstep := 0x0, base := 0x40060030, dims := [],
    fields := [⟨31, 24, .ro, .imm, 0⟩, ⟨23, 16, .ro, .imm, 0⟩, ⟨15, 8, .ro, .imm, 0⟩, ⟨7, 0, .ro, .imm, 0⟩], grp := none, crc := false },
  { name := "GIU_WARDEN", hdr := 0x40060000, hstep := 0x0, base := 0x40060034, dims := [],
    fields := [⟨31, 16, .ro, .imm, 0⟩, ⟨15, 2, .ro, .imm, 0⟩, ⟨1, 0, .ro, .imm, 0⟩], grp := none, crc := false },
  { name := "GIU_TEST0", hdr := 0x40060000, hstep := 0x0, base := 0x40060038, dims := [],
    fields := [⟨31, 0, .rw, .imm, 0⟩], grp := none, crc := false },
  { name := "GIU_TEST1", hdr := 0x40060000, hstep := 0x0, base := 0x4006003C, dims := [],
    fields := [⟨31, 0, .rw, .imm, 0⟩], grp := none, crc := false }]

/-- Registers of the GIU block, part 1. -/
def regsGiu1 : List RegSpec := [
  { name := "GIU_LOG_CFG", hdr := 0x40060000, hstep := 0x0, base := 0x40060040, dims := [],
    fields := [⟨31, 5, .rw, .imm, 0⟩, ⟨4, 4, .rw, .imm, 0⟩, ⟨3, 3, .rw, .imm, 0⟩, ⟨2, 0, .rw, .imm, 0⟩], grp := none, crc := false },
  { name := "GIU_LOG_WP", hdr := 0x40060000, hstep := 0x0, base := 0x40060044, dims := [],
    fields := [⟨31, 9, .ro, .imm, 0⟩, ⟨8, 8, .ro, .imm, 0⟩, ⟨7, 0, .ro, .imm, 0⟩], grp := none, crc := false },
  { name := "GIU_SEQ_ALL", hdr := 0x40060000, hstep := 0x0, base := 0x40060048, dims := [],
    fields := [⟨31, 24, .ro, .imm, 0⟩, ⟨23, 0, .ro, .imm, 4793490⟩], grp := none, crc := false },
  { name := "GIU_PLL_ALL", hdr := 0x40060000, hstep := 0x0, base := 0x4006004C, dims := [],
    fields := [⟨31, 16, .ro, .imm, 0⟩, ⟨15, 0, .ro, .imm, 0⟩], grp := none, crc := false },
  { name := "GIU_TRK_ALL", hdr := 0x40060000, hstep := 0x0, base := 0x40060050, dims := [],
    fields := [⟨31, 0, .ro, .imm, 0⟩], grp := none, crc := false },
  { name := "GIU_FRAME_CNT", hdr := 0x40060000, hstep := 0x0, base := 0x40060054, dims := [],
    fields := [⟨31, 0, .ro, .imm, 0⟩], grp := none, crc := false },
  { name := "GIU_PLL_CFG(u)", hdr := 0x40060000, hstep := 0x0, base := 0x40061000, dims := [(8, 0x200)],
    fields := [⟨31, 16, .rw, .cmt, 0⟩, ⟨15, 5, .rw, .imm, 0⟩, ⟨4, 4, .rw, .cmt, 0⟩, ⟨3, 3, .rw, .cmt, 0⟩, ⟨2, 1, .rw, .cmt, 1⟩, ⟨0, 0, .rw, .cmt, 0⟩], grp := none, crc := true },
  { name := "GIU_PLL_AIN(u)", hdr := 0x40060000, hstep := 0x0, base := 0x40061004, dims := [(8, 0x200)],
    fields := [⟨31, 23, .rw, .imm, 0⟩, ⟨22, 16, .rw, .cmt, 0⟩, ⟨14, 8, .rw, .cmt, 0⟩, ⟨6, 0, .rw, .cmt, 0⟩], grp := none, crc := true },
  { name := "GIU_PLL_SCALE(u)", hdr := 0x40060000, hstep := 0x0, base := 0x40061008, dims := [(8, 0x200)],
    fields := [⟨31, 0, .rw, .cmt, 0⟩], grp := none, crc := true },
  { name := "GIU_PLL_VNOM(u)", hdr := 0x40060000, hstep := 0x0, base := 0x4006100C, dims := [(8, 0x200)],
    fields := [⟨31, 0, .rw, .cmt, 0⟩], grp := none, crc := true },
  { name := "GIU_PLL_K(u)", hdr := 0x40060000, hstep := 0x0, base := 0x40061010, dims := [(8, 0x200)],
    fields := [⟨31, 0, .rw, .cmt, 1068827777⟩], grp := none, crc := true },
  { name := "GIU_PLL_KP(u)", hdr := 0x40060000, hstep := 0x0, base := 0x40061014, dims := [(8, 0x200)],
    fields := [⟨31, 0, .rw, .cmt, 1132809421⟩], grp := none, crc := true },
  { name := "GIU_PLL_KI(u)", hdr := 0x40060000, hstep := 0x0, base := 0x40061018, dims := [(8, 0x200)],
    fields := [⟨31, 0, .rw, .cmt, 1191889664⟩], grp := none, crc := true },
  { name := "GIU_PLL_STAT(u)", hdr := 0x40060000, hstep := 0x0, base := 0x4006101C, dims := [(8, 0x200)],
    fields := [⟨31, 2, .ro, .imm, 0⟩, ⟨1, 0, .ro, .imm, 0⟩], grp := none, crc := false },
  { name := "GIU_PLL_FREQ(u)", hdr := 0x40060000, hstep := 0x0, base := 0x40061020, dims := [(8, 0x200)],
    fields := [⟨31, 0, .ro, .imm, 0⟩], grp := none, crc := false },
  { name := "GIU_PLL_VPOS(u)", hdr := 0x40060000, hstep := 0x0, base := 0x40061024, dims := [(8, 0x200)],
    fields := [⟨31, 0, .ro, .imm, 0⟩], grp := none, crc := false }]

/-- Registers of the GIU block, part 2. -/
def regsGiu2 : List RegSpec := [
  { name := "GIU_PLL_VNEG(u)", hdr := 0x40060000, hstep := 0x0, base := 0x40061028, dims := [(8, 0x200)],
    fields := [⟨31, 0, .ro, .imm, 0⟩], grp := none, crc := false },
  { name := "GIU_PLL_VPH(u)(x)", hdr := 0x40060000, hstep := 0x0, base := 0x4006102C, dims := [(8, 0x200), (3, 0x4)],
    fields := [⟨31, 0, .ro, .imm, 0⟩], grp := none, crc := false },
  { name := "GIU_PLL_MISS(u)", hdr := 0x40060000, hstep := 0x0, base := 0x40061038, dims := [(8, 0x200)],
    fields := [⟨31, 0, .ro, .imm, 0⟩], grp := none, crc := false },
  { name := "GIU_RT_CFG(u)", hdr := 0x40060000, hstep := 0x0, base := 0x40061040, dims := [(8, 0x200)],
    fields := [⟨31, 24, .rwt, .cmt, 0⟩, ⟨23, 16, .rwt, .cmt, 0⟩, ⟨15, 6, .rwt, .cmt, 0⟩, ⟨5, 3, .rwt, .imm, 0⟩, ⟨2, 2, .rwt, .cmt, 0⟩, ⟨1, 1, .rwt, .cmt, 0⟩, ⟨0, 0, .rwt, .cmt, 0⟩], grp := some 0, crc := true },
  { name := "GIU_RT_STAT(u)", hdr := 0x40060000, hstep := 0x0, base := 0x40061044, dims := [(8, 0x200)],
    fields := [⟨31, 16, .ro, .imm, 0⟩, ⟨15, 11, .ro, .imm, 0⟩, ⟨10, 3, .ro, .imm, 0⟩, ⟨2, 0, .ro, .imm, 2⟩], grp := none, crc := false },
  { name := "GIU_RT_RCV(u)", hdr := 0x40060000, hstep := 0x0, base := 0x40061048, dims := [(8, 0x200)],
    fields := [⟨31, 16, .rwt, .cmt, 0⟩, ⟨15, 0, .rwt, .cmt, 0⟩], grp := some 0, crc := true },
  { name := "GIU_RT_RCF(u)", hdr := 0x40060000, hstep := 0x0, base := 0x4006104C, dims := [(8, 0x200)],
    fields := [⟨31, 16, .rwt, .cmt, 0⟩, ⟨15, 0, .rwt, .cmt, 0⟩], grp := some 0, crc := true },
  { name := "GIU_RT_RCT(u)", hdr := 0x40060000, hstep := 0x0, base := 0x40061050, dims := [(8, 0x200)],
    fields := [⟨31, 14, .rwt, .imm, 0⟩, ⟨13, 0, .rwt, .cmt, 3000⟩], grp := some 0, crc := true },
  { name := "GIU_RT_CMD(u)", hdr := 0x40060000, hstep := 0x0, base := 0x40061054, dims := [(8, 0x200)],
    fields := [⟨31, 1, .wo, .imm, 0⟩, ⟨0, 0, .wo, .imm, 0⟩], grp := none, crc := false },
  { name := "GIU_RT_TRIPS(u)", hdr := 0x40060000, hstep := 0x0, base := 0x40061058, dims := [(8, 0x200)],
    fields := [⟨31, 0, .ro, .imm, 0⟩], grp := none, crc := false },
  { name := "GIU_RT_CESS(u)", hdr := 0x40060000, hstep := 0x0, base := 0x4006105C, dims := [(8, 0x200)],
    fields := [⟨31, 0, .ro, .imm, 0⟩], grp := none, crc := false },
  { name := "GIU_RT_LV(u)(i)", hdr := 0x40060000, hstep := 0x0, base := 0x40061060, dims := [(8, 0x200), (8, 0x4)],
    fields := [⟨31, 0, .rwt, .cmt, 0⟩], grp := some 0, crc := true },
  { name := "GIU_RT_HV(u)(i)", hdr := 0x40060000, hstep := 0x0, base := 0x40061080, dims := [(8, 0x200), (8, 0x4)],
    fields := [⟨31, 0, .rwt, .cmt, 0⟩], grp := some 0, crc := true },
  { name := "GIU_RT_LF(u)(i)", hdr := 0x40060000, hstep := 0x0, base := 0x400610A0, dims := [(8, 0x200), (8, 0x4)],
    fields := [⟨31, 0, .rwt, .cmt, 0⟩], grp := some 0, crc := true },
  { name := "GIU_RT_HF(u)(i)", hdr := 0x40060000, hstep := 0x0, base := 0x400610C0, dims := [(8, 0x200), (8, 0x4)],
    fields := [⟨31, 0, .rwt, .cmt, 0⟩], grp := some 0, crc := true },
  { name := "GIU_ISL_CFG(u)", hdr := 0x40060000, hstep := 0x0, base := 0x40061100, dims := [(8, 0x200)],
    fields := [⟨31, 4, .rwt, .imm, 0⟩, ⟨3, 3, .rwt, .cmt, 0⟩, ⟨2, 2, .rwt, .cmt, 0⟩, ⟨1, 1, .rwt, .cmt, 0⟩, ⟨0, 0, .rwt, .cmt, 0⟩], grp := some 1, crc := true }]

/-- Registers of the GIU block, part 3. -/
def regsGiu3 : List RegSpec := [
  { name := "GIU_ISL_ROCOF(u)", hdr := 0x40060000, hstep := 0x0, base := 0x40061104, dims := [(8, 0x200)],
    fields := [⟨31, 20, .rwt, .cmt, 0⟩, ⟨19, 10, .rwt, .cmt, 100⟩, ⟨9, 0, .rwt, .cmt, 100⟩], grp := some 1, crc := true },
  { name := "GIU_ISL_VS(u)", hdr := 0x40060000, hstep := 0x0, base := 0x40061108, dims := [(8, 0x200)],
    fields := [⟨31, 10, .rwt, .imm, 0⟩, ⟨9, 0, .rwt, .cmt, 175⟩], grp := some 1, crc := true },
  { name := "GIU_ISL_AFD(u)", hdr := 0x40060000, hstep := 0x0, base := 0x4006110C, dims := [(8, 0x200)],
    fields := [⟨31, 16, .rwt, .cmt, 21845⟩, ⟨15, 8, .rwt, .cmt, 0⟩, ⟨7, 0, .rwt, .imm, 0⟩], grp := some 1, crc := true },
  { name := "GIU_ISL_KPF(u)", hdr := 0x40060000, hstep := 0x0, base := 0x40061110, dims := [(8, 0x200)],
    fields := [⟨31, 0, .rwt, .cmt, 0⟩], grp := some 1, crc := true },
  { name := "GIU_ISL_DFC(u)", hdr := 0x40060000, hstep := 0x0, base := 0x40061114, dims := [(8, 0x200)],
    fields := [⟨31, 20, .rwt, .cmt, 0⟩, ⟨19, 16, .rwt, .imm, 0⟩, ⟨15, 0, .rwt, .cmt, 500⟩], grp := some 1, crc := true },
  { name := "GIU_ISL_ARM(u)", hdr := 0x40060000, hstep := 0x0, base := 0x40061118, dims := [(8, 0x200)],
    fields := [⟨31, 16, .rwt, .imm, 0⟩, ⟨15, 0, .rwt, .cmt, 205⟩], grp := some 1, crc := true },
  { name := "GIU_ISL_STAT(u)", hdr := 0x40060000, hstep := 0x0, base := 0x4006111C, dims := [(8, 0x200)],
    fields := [⟨31, 5, .ro, .imm, 0⟩, ⟨4, 4, .ro, .imm, 0⟩, ⟨3, 0, .ro, .imm, 0⟩], grp := none, crc := false },
  { name := "GIU_ISL_FIRST(u)", hdr := 0x40060000, hstep := 0x0, base := 0x40061120, dims := [(8, 0x200)],
    fields := [⟨31, 0, .ro, .imm, 0⟩], grp := none, crc := false },
  { name := "GIU_ISL_TRIPT(u)", hdr := 0x40060000, hstep := 0x0, base := 0x40061124, dims := [(8, 0x200)],
    fields := [⟨31, 0, .ro, .imm, 0⟩], grp := none, crc := false },
  { name := "GIU_ISL_CNT(u)", hdr := 0x40060000, hstep := 0x0, base := 0x40061128, dims := [(8, 0x200)],
    fields := [⟨31, 0, .ro, .imm, 0⟩], grp := none, crc := false },
  { name := "GIU_TRK_CFG(t)", hdr := 0x40060000, hstep := 0x0, base := 0x40062000, dims := [(16, 0x40)],
    fields := [⟨31, 16, .rw, .cmt, 20⟩, ⟨15, 10, .rw, .cmt, 32⟩, ⟨9, 2, .rw, .cmt, 20⟩, ⟨1, 1, .rw, .cmt, 0⟩, ⟨0, 0, .rw, .cmt, 0⟩], grp := none, crc := true },
  { name := "GIU_TRK_VMIN(t)", hdr := 0x40060000, hstep := 0x0, base := 0x40062004, dims := [(16, 0x40)],
    fields := [⟨31, 0, .rw, .cmt, 0⟩], grp := none, crc := true },
  { name := "GIU_TRK_VMAX(t)", hdr := 0x40060000, hstep := 0x0, base := 0x40062008, dims := [(16, 0x40)],
    fields := [⟨31, 0, .rw, .cmt, 0⟩], grp := none, crc := true },
  { name := "GIU_TRK_VSTART(t)", hdr := 0x40060000, hstep := 0x0, base := 0x4006200C, dims := [(16, 0x40)],
    fields := [⟨31, 0, .rw, .cmt, 0⟩], grp := none, crc := true },
  { name := "GIU_TRK_STEPMIN(t)", hdr := 0x40060000, hstep := 0x0, base := 0x40062010, dims := [(16, 0x40)],
    fields := [⟨31, 0, .rw, .cmt, 0⟩], grp := none, crc := true },
  { name := "GIU_TRK_STEPMAX(t)", hdr := 0x40060000, hstep := 0x0, base := 0x40062014, dims := [(16, 0x40)],
    fields := [⟨31, 0, .rw, .cmt, 0⟩], grp := none, crc := true }]

/-- Registers of the GIU block, part 4. -/
def regsGiu4 : List RegSpec := [
  { name := "GIU_TRK_KSTEP(t)", hdr := 0x40060000, hstep := 0x0, base := 0x40062018, dims := [(16, 0x40)],
    fields := [⟨31, 0, .rw, .cmt, 0⟩], grp := none, crc := true },
  { name := "GIU_TRK_GEPS(t)", hdr := 0x40060000, hstep := 0x0, base := 0x4006201C, dims := [(16, 0x40)],
    fields := [⟨31, 0, .rw, .cmt, 1008981770⟩], grp := none, crc := true },
  { name := "GIU_TRK_SCAN_CFG(t)", hdr := 0x40060000, hstep := 0x0, base := 0x40062020, dims := [(16, 0x40)],
    fields := [⟨31, 24, .rw, .imm, 0⟩, ⟨23, 12, .rw, .cmt, 900⟩, ⟨11, 0, .rw, .cmt, 31⟩], grp := none, crc := true },
  { name := "GIU_TRK_CMD(t)", hdr := 0x40060000, hstep := 0x0, base := 0x40062024, dims := [(16, 0x40)],
    fields := [⟨31, 1, .wo, .imm, 0⟩, ⟨0, 0, .wo, .imm, 0⟩], grp := none, crc := false },
  { name := "GIU_TRK_VREF(t)", hdr := 0x40060000, hstep := 0x0, base := 0x40062028, dims := [(16, 0x40)],
    fields := [⟨31, 0, .ro, .imm, 0⟩], grp := none, crc := false },
  { name := "GIU_TRK_PWR(t)", hdr := 0x40060000, hstep := 0x0, base := 0x4006202C, dims := [(16, 0x40)],
    fields := [⟨31, 0, .ro, .imm, 0⟩], grp := none, crc := false },
  { name := "GIU_TRK_STAT(t)", hdr := 0x40060000, hstep := 0x0, base := 0x40062030, dims := [(16, 0x40)],
    fields := [⟨31, 3, .ro, .imm, 0⟩, ⟨2, 2, .ro, .imm, 0⟩, ⟨1, 0, .ro, .imm, 0⟩], grp := none, crc := false },
  { name := "GIU_TRK_SCAN(t)", hdr := 0x40060000, hstep := 0x0, base := 0x40062034, dims := [(16, 0x40)],
    fields := [⟨31, 0, .ro, .imm, 0⟩], grp := none, crc := false },
  { name := "GIU_TRK_JUMP(t)", hdr := 0x40060000, hstep := 0x0, base := 0x40062038, dims := [(16, 0x40)],
    fields := [⟨31, 0, .ro, .imm, 0⟩], grp := none, crc := false },
  { name := "GIU_TRK_RSVD(t)", hdr := 0x40060000, hstep := 0x0, base := 0x4006203C, dims := [(16, 0x40)],
    fields := [⟨31, 0, .ro, .imm, 0⟩], grp := none, crc := false }]

/-- Registers of the GIU block. -/
def regsGiu : List RegSpec := regsGiu0 ++ regsGiu1 ++ regsGiu2 ++ regsGiu3 ++ regsGiu4

/-- Registers of the ADC block, part 0. -/
def regsAdc0 : List RegSpec := [
  { name := "ADC(u)_ID", hdr := 0x40070000, hstep := 0x1000, base := 0x40070000, dims := [(4, 0x1000)],
    fields := [⟨31, 24, .ro, .imm, 8⟩, ⟨23, 16, .ro, .imm, 0⟩, ⟨15, 8, .ro, .imm, 3⟩, ⟨7, 0, .ro, .imm, 0⟩], grp := none, crc := false },
  { name := "ADC(u)_CAPS", hdr := 0x40070000, hstep := 0x1000, base := 0x40070004, dims := [(4, 0x1000)],
    fields := [⟨31, 16, .ro, .imm, 0⟩, ⟨15, 8, .ro, .imm, 1⟩, ⟨7, 4, .ro, .imm, 2⟩, ⟨3, 3, .ro, .imm, 1⟩, ⟨2, 2, .ro, .imm, 1⟩, ⟨1, 0, .ro, .imm, 0⟩], grp := none, crc := false },
  { name := "ADC(u)_CTRL", hdr := 0x40070000, hstep := 0x1000, base := 0x40070008, dims := [(4, 0x1000)],
    fields := [⟨15, 8, .mw, .imm, 0⟩, ⟨7, 4, .mw, .imm, 0⟩, ⟨3, 3, .mw, .imm, 0⟩, ⟨2, 2, .mw, .imm, 0⟩, ⟨1, 1, .mw, .imm, 0⟩, ⟨0, 0, .mw, .imm, 1⟩], grp := none, crc := false },
  { name := "ADC(u)_STAT", hdr := 0x40070000, hstep := 0x1000, base := 0x4007000C, dims := [(4, 0x1000)],
    fields := [⟨31, 12, .ro, .imm, 0⟩, ⟨11, 8, .ro, .imm, 0⟩, ⟨7, 4, .ro, .imm, 0⟩, ⟨3, 3, .ro, .imm, 0⟩, ⟨2, 2, .ro, .imm, 0⟩, ⟨1, 1, .ro, .imm, 0⟩, ⟨0, 0, .ro, .imm, 0⟩], grp := none, crc := false },
  { name := "ADC(u)_IRQ_RAW", hdr := 0x40070000, hstep := 0x1000, base := 0x40070010, dims := [(4, 0x1000)],
    fields := [⟨15, 8, .w1c, .imm, 0⟩, ⟨7, 7, .w1c, .imm, 0⟩, ⟨6, 6, .w1c, .imm, 0⟩, ⟨5, 5, .w1c, .imm, 0⟩, ⟨4, 4, .w1c, .imm, 0⟩, ⟨3, 3, .w1c, .imm, 0⟩, ⟨2, 2, .w1c, .imm, 0⟩, ⟨1, 1, .w1c, .imm, 0⟩, ⟨0, 0, .w1c, .imm, 0⟩], grp := none, crc := false },
  { name := "ADC(u)_IRQ_EN", hdr := 0x40070000, hstep := 0x1000, base := 0x40070014, dims := [(4, 0x1000)],
    fields := [⟨15, 0, .mw, .imm, 0⟩], grp := none, crc := false },
  { name := "ADC(u)_IRQ_OUT", hdr := 0x40070000, hstep := 0x1000, base := 0x40070018, dims := [(4, 0x1000)],
    fields := [⟨31, 17, .ro, .imm, 0⟩, ⟨16, 16, .ro, .imm, 0⟩, ⟨15, 0, .ro, .imm, 0⟩], grp := none, crc := false },
  { name := "ADC(u)_ERR", hdr := 0x40070000, hstep := 0x1000, base := 0x4007001C, dims := [(4, 0x1000)],
    fields := [⟨31, 19, .w1c, .imm, 0⟩, ⟨18, 18, .w1c, .imm, 0⟩, ⟨17, 17, .w1c, .imm, 0⟩, ⟨16, 16, .w1c, .imm, 0⟩, ⟨5, 5, .w1c, .imm, 0⟩, ⟨4, 4, .w1c, .imm, 0⟩, ⟨3, 3, .w1c, .imm, 0⟩, ⟨2, 2, .w1c, .imm, 0⟩, ⟨1, 1, .w1c, .imm, 0⟩, ⟨0, 0, .w1c, .imm, 0⟩], grp := none, crc := false },
  { name := "ADC(u)_COMMIT", hdr := 0x40070000, hstep := 0x1000, base := 0x40070020, dims := [(4, 0x1000)],
    fields := [⟨31, 10, .wo, .imm, 0⟩, ⟨9, 9, .wo, .imm, 0⟩, ⟨8, 8, .wo, .imm, 0⟩, ⟨7, 0, .wo, .imm, 0⟩], grp := none, crc := false },
  { name := "ADC(u)_GEN", hdr := 0x40070000, hstep := 0x1000, base := 0x40070024, dims := [(4, 0x1000)],
    fields := [⟨31, 16, .ro, .imm, 0⟩, ⟨15, 8, .ro, .imm, 0⟩, ⟨7, 0, .ro, .imm, 0⟩], grp := none, crc := false },
  { name := "ADC(u)_CRC_REF", hdr := 0x40070000, hstep := 0x1000, base := 0x40070028, dims := [(4, 0x1000)],
    fields := [⟨31, 0, .rw, .cmt, 0⟩], grp := none, crc := false },
  { name := "ADC(u)_CRC_NOW", hdr := 0x40070000, hstep := 0x1000, base := 0x4007002C, dims := [(4, 0x1000)],
    fields := [⟨31, 0, .ro, .imm, 0⟩], grp := none, crc := false },
  { name := "ADC(u)_TMR_STAT", hdr := 0x40070000, hstep := 0x1000, base := 0x40070030, dims := [(4, 0x1000)],
    fields := [⟨31, 24, .ro, .imm, 0⟩, ⟨23, 16, .ro, .imm, 0⟩, ⟨15, 8, .ro, .imm, 0⟩, ⟨7, 0, .ro, .imm, 0⟩], grp := none, crc := false },
  { name := "ADC(u)_WARDEN", hdr := 0x40070000, hstep := 0x1000, base := 0x40070034, dims := [(4, 0x1000)],
    fields := [⟨31, 16, .ro, .imm, 0⟩, ⟨15, 2, .ro, .imm, 0⟩, ⟨1, 0, .ro, .imm, 0⟩], grp := none, crc := false },
  { name := "ADC(u)_TEST0", hdr := 0x40070000, hstep := 0x1000, base := 0x40070038, dims := [(4, 0x1000)],
    fields := [⟨31, 0, .rw, .imm, 0⟩], grp := none, crc := false },
  { name := "ADC(u)_TEST1", hdr := 0x40070000, hstep := 0x1000, base := 0x4007003C, dims := [(4, 0x1000)],
    fields := [⟨31, 0, .rw, .imm, 0⟩], grp := none, crc := false }]

/-- Registers of the ADC block, part 1. -/
def regsAdc1 : List RegSpec := [
  { name := "ADC(u)_CFG", hdr := 0x40070000, hstep := 0x1000, base := 0x40070040, dims := [(4, 0x1000)],
    fields := [⟨31, 24, .rwt, .imm, 0⟩, ⟨23, 16, .rwt, .cmt, 10⟩, ⟨15, 13, .rwt, .imm, 0⟩, ⟨12, 8, .rwt, .cmt, 0⟩, ⟨7, 6, .rwt, .imm, 0⟩, ⟨5, 2, .rwt, .cmt, 3⟩, ⟨1, 1, .rwt, .imm, 0⟩, ⟨0, 0, .rwt, .cmt, 0⟩], grp := some 0, crc := true },
  { name := "ADC(u)_CAL_STAT", hdr := 0x40070000, hstep := 0x1000, base := 0x40070044, dims := [(4, 0x1000)],
    fields := [⟨31, 4, .ro, .imm, 0⟩, ⟨3, 3, .ro, .imm, 0⟩, ⟨2, 2, .ro, .imm, 0⟩, ⟨1, 1, .ro, .imm, 0⟩, ⟨0, 0, .ro, .imm, 0⟩], grp := none, crc := false },
  { name := "ADC(u)_QSTAT", hdr := 0x40070000, hstep := 0x1000, base := 0x40070048, dims := [(4, 0x1000)],
    fields := [⟨31, 24, .ro, .imm, 0⟩, ⟨23, 16, .ro, .imm, 0⟩, ⟨15, 8, .ro, .imm, 0⟩, ⟨7, 0, .ro, .imm, 0⟩], grp := none, crc := false },
  { name := "ADC(u)_REQ_CNT", hdr := 0x40070000, hstep := 0x1000, base := 0x4007004C, dims := [(4, 0x1000)],
    fields := [⟨31, 0, .ro, .imm, 0⟩], grp := none, crc := false },
  { name := "ADC(u)_RES_CNT", hdr := 0x40070000, hstep := 0x1000, base := 0x40070050, dims := [(4, 0x1000)],
    fields := [⟨31, 0, .ro, .imm, 0⟩], grp := none, crc := false },
  { name := "ADC(u)_RST_CNT", hdr := 0x40070000, hstep := 0x1000, base := 0x40070054, dims := [(4, 0x1000)],
    fields := [⟨31, 0, .ro, .imm, 0⟩], grp := none, crc := false },
  { name := "ADC(u)_ABT_CNT", hdr := 0x40070000, hstep := 0x1000, base := 0x40070058, dims := [(4, 0x1000)],
    fields := [⟨31, 0, .ro, .imm, 0⟩], grp := none, crc := false },
  { name := "ADC(u)_ABT_CAUSE", hdr := 0x40070000, hstep := 0x1000, base := 0x4007005C, dims := [(4, 0x1000)],
    fields := [⟨31, 24, .ro, .imm, 0⟩, ⟨23, 16, .ro, .imm, 0⟩, ⟨15, 8, .ro, .imm, 0⟩, ⟨7, 0, .ro, .imm, 0⟩], grp := none, crc := false },
  { name := "ADC(u)_LOSS", hdr := 0x40070000, hstep := 0x1000, base := 0x40070060, dims := [(4, 0x1000)],
    fields := [⟨31, 0, .ro, .imm, 0⟩], grp := none, crc := false },
  { name := "ADC(u)_SWTRIG", hdr := 0x40070000, hstep := 0x1000, base := 0x40070064, dims := [(4, 0x1000)],
    fields := [⟨31, 8, .wo, .imm, 0⟩, ⟨7, 0, .wo, .imm, 0⟩], grp := none, crc := false },
  { name := "ADC(u)_AIN_CFG(j)", hdr := 0x40070000, hstep := 0x1000, base := 0x40070080, dims := [(4, 0x1000), (20, 0x4)],
    fields := [⟨31, 12, .rw, .imm, 0⟩, ⟨11, 11, .rw, .cmt, 0⟩, ⟨10, 10, .rw, .cmt, 0⟩, ⟨9, 8, .rw, .imm, 0⟩, ⟨7, 4, .rw, .cmt, 0⟩, ⟨3, 0, .rw, .cmt, 0⟩], grp := none, crc := true },
  { name := "ADC(u)_RES(j)", hdr := 0x40070000, hstep := 0x1000, base := 0x400700D0, dims := [(4, 0x1000), (20, 0x4)],
    fields := [⟨31, 30, .ro, .imm, 0⟩, ⟨29, 27, .ro, .imm, 0⟩, ⟨26, 16, .ro, .imm, 0⟩, ⟨15, 0, .ro, .imm, 0⟩], grp := none, crc := false },
  { name := "ADC(u)_AVG(j)", hdr := 0x40070000, hstep := 0x1000, base := 0x40070120, dims := [(4, 0x1000), (20, 0x4)],
    fields := [⟨31, 30, .ro, .imm, 0⟩, ⟨29, 24, .ro, .imm, 0⟩, ⟨23, 0, .ro, .imm, 0⟩], grp := none, crc := false },
  { name := "ADC(u)_TS(j)", hdr := 0x40070000, hstep := 0x1000, base := 0x40070170, dims := [(4, 0x1000), (20, 0x4)],
    fields := [⟨31, 0, .ro, .imm, 0⟩], grp := none, crc := false },
  { name := "ADC(u)_SEQ_CFG(s)", hdr := 0x40070000, hstep := 0x1000, base := 0x40070200, dims := [(4, 0x1000), (8, 0x10)],
    fields := [⟨31, 31, .rw, .cmt, 0⟩, ⟨30, 30, .rw, .cmt, 0⟩, ⟨29, 24, .rw, .imm, 0⟩, ⟨23, 16, .rw, .cmt, 0⟩, ⟨15, 12, .rw, .imm, 0⟩, ⟨11, 8, .rw, .cmt, 1⟩, ⟨7, 4, .rw, .imm, 0⟩, ⟨3, 0, .rw, .cmt, 0⟩], grp := none, crc := true },
  { name := "ADC(u)_SEQ_ENT(s)(0)", hdr := 0x40070000, hstep := 0x1000, base := 0x40070204, dims := [(4, 0x1000), (8, 0x10)],
    fields := [⟨31, 24, .rw, .cmt, 31⟩, ⟨23, 16, .rw, .cmt, 31⟩, ⟨15, 8, .rw, .cmt, 31⟩, ⟨7, 0, .rw, .cmt, 31⟩], grp := none, crc := true }]

/-- Registers of the ADC block, part 2. -/
def regsAdc2 : List RegSpec := [
  { name := "ADC(u)_SEQ_ENT(s)(1)", hdr := 0x40070000, hstep := 0x1000, base := 0x40070208, dims := [(4, 0x1000), (8, 0x10)],
    fields := [⟨31, 24, .rw, .cmt, 31⟩, ⟨23, 16, .rw, .cmt, 31⟩, ⟨15, 8, .rw, .cmt, 31⟩, ⟨7, 0, .rw, .cmt, 31⟩], grp := none, crc := true },
  { name := "ADC(u)_SEQ_TIM(s)", hdr := 0x40070000, hstep := 0x1000, base := 0x4007020C, dims := [(4, 0x1000), (8, 0x10)],
    fields := [⟨31, 24, .rw, .imm, 0⟩, ⟨23, 0, .rw, .cmt, 4000⟩], grp := none, crc := true },
  { name := "ADC(u)_SEQ_STAT(s)", hdr := 0x40070000, hstep := 0x1000, base := 0x40070280, dims := [(4, 0x1000), (8, 0x4)],
    fields := [⟨31, 16, .ro, .imm, 0⟩, ⟨15, 0, .ro, .imm, 0⟩], grp := none, crc := false },
  { name := "ADC(u)_WC_CFG(w)", hdr := 0x40070000, hstep := 0x1000, base := 0x40070300, dims := [(4, 0x1000), (16, 0x10)],
    fields := [⟨31, 31, .rwt, .cmt, 0⟩, ⟨30, 30, .rwt, .cmt, 0⟩, ⟨29, 29, .rwt, .imm, 0⟩, ⟨28, 24, .rwt, .cmt, 0⟩, ⟨23, 16, .rwt, .imm, 0⟩, ⟨15, 0, .rwt, .cmt, 0⟩], grp := some 1, crc := true },
  { name := "ADC(u)_WC_LIM(w)", hdr := 0x40070000, hstep := 0x1000, base := 0x40070304, dims := [(4, 0x1000), (16, 0x10)],
    fields := [⟨31, 16, .rwt, .cmt, 65535⟩, ⟨15, 0, .rwt, .cmt, 0⟩], grp := some 1, crc := true },
  { name := "ADC(u)_WC_STAT(w)", hdr := 0x40070000, hstep := 0x1000, base := 0x40070308, dims := [(4, 0x1000), (16, 0x10)],
    fields := [⟨31, 16, .ro, .imm, 0⟩, ⟨15, 1, .ro, .imm, 0⟩, ⟨0, 0, .ro, .imm, 0⟩], grp := none, crc := false },
  { name := "ADC(u)_WC_RSVD(w)", hdr := 0x40070000, hstep := 0x1000, base := 0x4007030C, dims := [(4, 0x1000), (16, 0x10)],
    fields := [⟨31, 0, .ro, .imm, 0⟩], grp := none, crc := false },
  { name := "ADC(u)_RES_CFG(r)", hdr := 0x40070000, hstep := 0x1000, base := 0x40070400, dims := [(4, 0x1000), (2, 0x20)],
    fields := [⟨31, 31, .rw, .cmt, 0⟩, ⟨30, 26, .rw, .imm, 0⟩, ⟨25, 21, .rw, .cmt, 0⟩, ⟨20, 16, .rw, .cmt, 0⟩, ⟨15, 9, .rw, .imm, 0⟩, ⟨8, 0, .rw, .cmt, 0⟩], grp := none, crc := true },
  { name := "ADC(u)_EXC_CFG(r)", hdr := 0x40070000, hstep := 0x1000, base := 0x40070404, dims := [(4, 0x1000), (2, 0x20)],
    fields := [⟨31, 24, .rw, .cmt, 0⟩, ⟨23, 11, .rw, .imm, 0⟩, ⟨10, 0, .rw, .cmt, 1000⟩], grp := none, crc := true },
  { name := "ADC(u)_RES_LIM(r)", hdr := 0x40070000, hstep := 0x1000, base := 0x40070408, dims := [(4, 0x1000), (2, 0x20)],
    fields := [⟨31, 16, .rw, .cmt, 0⟩, ⟨15, 0, .rw, .cmt, 0⟩], grp := none, crc := true },
  { name := "ADC(u)_RES_ENV(r)", hdr := 0x40070000, hstep := 0x1000, base := 0x4007040C, dims := [(4, 0x1000), (2, 0x20)],
    fields := [⟨31, 16, .ro, .imm, 0⟩, ⟨15, 0, .ro, .imm, 0⟩], grp := none, crc := false },
  { name := "ADC(u)_RES_STAT(r)", hdr := 0x40070000, hstep := 0x1000, base := 0x40070410, dims := [(4, 0x1000), (2, 0x20)],
    fields := [⟨31, 16, .ro, .imm, 0⟩, ⟨15, 2, .ro, .imm, 0⟩, ⟨1, 1, .ro, .imm, 0⟩, ⟨0, 0, .ro, .imm, 0⟩], grp := none, crc := false },
  { name := "ADC(u)_RES_TS(r)", hdr := 0x40070000, hstep := 0x1000, base := 0x40070414, dims := [(4, 0x1000), (2, 0x20)],
    fields := [⟨31, 0, .ro, .imm, 0⟩], grp := none, crc := false },
  { name := "ADC_FC_CFG(f)", hdr := 0x40070000, hstep := 0x1000, base := 0x40070480, dims := [(16, 0x4)],
    fields := [⟨31, 31, .rwt, .bnd, 0⟩, ⟨30, 30, .rwt, .bnd, 0⟩, ⟨29, 28, .rwt, .bnd, 0⟩, ⟨27, 10, .rwt, .imm, 0⟩, ⟨9, 0, .rwt, .bnd, 1023⟩], grp := some 2, crc := false },
  { name := "ADC_FC_OUT", hdr := 0x40070000, hstep := 0x1000, base := 0x400704C0, dims := [],
    fields := [⟨31, 16, .ro, .imm, 0⟩, ⟨15, 0, .ro, .imm, 0⟩], grp := none, crc := false }]

/-- Registers of the ADC block. -/
def regsAdc : List RegSpec := regsAdc0 ++ regsAdc1 ++ regsAdc2

/-- Registers of the FBI block, part 0. -/
def regsFbi0 : List RegSpec := [
  { name := "FB_ID", hdr := 0x40080000, hstep := 0x0, base := 0x40080000, dims := [],
    fields := [⟨31, 24, .ro, .imm, 9⟩, ⟨23, 16, .ro, .imm, 0⟩, ⟨15, 8, .ro, .imm, 3⟩, ⟨7, 0, .ro, .imm, 0⟩], grp := none, crc := false },
  { name := "FB_CAPS", hdr := 0x40080000, hstep := 0x0, base := 0x40080004, dims := [],
    fields := [⟨31, 16, .ro, .imm, 0⟩, ⟨15, 8, .ro, .imm, 2⟩, ⟨7, 4, .ro, .imm, 2⟩, ⟨3, 3, .ro, .imm, 1⟩, ⟨2, 2, .ro, .imm, 1⟩, ⟨1, 0, .ro, .imm, 0⟩], grp := none, crc := false },
  { name := "FB_CTRL", hdr := 0x40080000, hstep := 0x0, base := 0x40080008, dims := [],
    fields := [⟨15, 8, .mw, .imm, 0⟩, ⟨7, 4, .mw, .imm, 0⟩, ⟨3, 3, .mw, .imm, 0⟩, ⟨2, 2, .mw, .imm, 0⟩, ⟨1, 1, .mw, .imm, 0⟩, ⟨0, 0, .mw, .imm, 1⟩], grp := none, crc := false },
  { name := "FB_STAT", hdr := 0x40080000, hstep := 0x0, base := 0x4008000C, dims := [],
    fields := [⟨31, 8, .ro, .imm, 0⟩, ⟨7, 4, .ro, .imm, 0⟩, ⟨3, 3, .ro, .imm, 0⟩, ⟨2, 2, .ro, .imm, 0⟩, ⟨1, 1, .ro, .imm, 0⟩, ⟨0, 0, .ro, .imm, 0⟩], grp := none, crc := false },
  { name := "FB_IRQ_RAW", hdr := 0x40080000, hstep := 0x0, base := 0x40080010, dims := [],
    fields := [⟨15, 8, .w1c, .imm, 0⟩, ⟨7, 7, .w1c, .imm, 0⟩, ⟨6, 6, .w1c, .imm, 0⟩, ⟨5, 5, .w1c, .imm, 0⟩, ⟨4, 4, .w1c, .imm, 0⟩, ⟨3, 3, .w1c, .imm, 0⟩, ⟨2, 2, .w1c, .imm, 0⟩, ⟨1, 1, .w1c, .imm, 0⟩, ⟨0, 0, .w1c, .imm, 0⟩], grp := none, crc := false },
  { name := "FB_IRQ_EN", hdr := 0x40080000, hstep := 0x0, base := 0x40080014, dims := [],
    fields := [⟨15, 0, .mw, .imm, 0⟩], grp := none, crc := false },
  { name := "FB_IRQ_OUT", hdr := 0x40080000, hstep := 0x0, base := 0x40080018, dims := [],
    fields := [⟨31, 17, .ro, .imm, 0⟩, ⟨16, 16, .ro, .imm, 0⟩, ⟨15, 0, .ro, .imm, 0⟩], grp := none, crc := false },
  { name := "FB_ERR", hdr := 0x40080000, hstep := 0x0, base := 0x4008001C, dims := [],
    fields := [⟨31, 19, .w1c, .imm, 0⟩, ⟨18, 18, .w1c, .imm, 0⟩, ⟨17, 17, .w1c, .imm, 0⟩, ⟨16, 16, .w1c, .imm, 0⟩, ⟨5, 5, .w1c, .imm, 0⟩, ⟨4, 4, .w1c, .imm, 0⟩, ⟨3, 3, .w1c, .imm, 0⟩, ⟨2, 2, .w1c, .imm, 0⟩, ⟨1, 1, .w1c, .imm, 0⟩, ⟨0, 0, .w1c, .imm, 0⟩], grp := none, crc := false },
  { name := "FB_COMMIT", hdr := 0x40080000, hstep := 0x0, base := 0x40080020, dims := [],
    fields := [⟨31, 10, .wo, .imm, 0⟩, ⟨9, 9, .wo, .imm, 0⟩, ⟨8, 8, .wo, .imm, 0⟩, ⟨7, 0, .wo, .imm, 0⟩], grp := none, crc := false },
  { name := "FB_GEN", hdr := 0x40080000, hstep := 0x0, base := 0x40080024, dims := [],
    fields := [⟨31, 16, .ro, .imm, 0⟩, ⟨15, 8, .ro, .imm, 0⟩, ⟨7, 0, .ro, .imm, 0⟩], grp := none, crc := false },
  { name := "FB_CRC_REF", hdr := 0x40080000, hstep := 0x0, base := 0x40080028, dims := [],
    fields := [⟨31, 0, .rw, .cmt, 0⟩], grp := none, crc := false },
  { name := "FB_CRC_NOW", hdr := 0x40080000, hstep := 0x0, base := 0x4008002C, dims := [],
    fields := [⟨31, 0, .ro, .imm, 0⟩], grp := none, crc := false },
  { name := "FB_TMR_STAT", hdr := 0x40080000, hstep := 0x0, base := 0x40080030, dims := [],
    fields := [⟨31, 24, .ro, .imm, 0⟩, ⟨23, 16, .ro, .imm, 0⟩, ⟨15, 8, .ro, .imm, 0⟩, ⟨7, 0, .ro, .imm, 0⟩], grp := none, crc := false },
  { name := "FB_WARDEN", hdr := 0x40080000, hstep := 0x0, base := 0x40080034, dims := [],
    fields := [⟨31, 16, .ro, .imm, 0⟩, ⟨15, 2, .ro, .imm, 0⟩, ⟨1, 0, .ro, .imm, 0⟩], grp := none, crc := false },
  { name := "FB_TEST0", hdr := 0x40080000, hstep := 0x0, base := 0x40080038, dims := [],
    fields := [⟨31, 0, .rw, .imm, 0⟩], grp := none, crc := false },
  { name := "FB_TEST1", hdr := 0x40080000, hstep := 0x0, base := 0x4008003C, dims := [],
    fields := [⟨31, 0, .rw, .imm, 0⟩], grp := none, crc := false }]

/-- Registers of the FBI block, part 1. -/
def regsFbi1 : List RegSpec := [
  { name := "FB(c)_CFG", hdr := 0x40080000, hstep := 0x0, base := 0x40081000, dims := [(16, 0x40)],
    fields := [⟨31, 30, .rwt, .cmt, 0⟩, ⟨29, 29, .rwt, .cmt, 0⟩, ⟨28, 28, .rwt, .cmt, 0⟩, ⟨27, 26, .rwt, .cmt, 0⟩, ⟨25, 21, .rwt, .cmt, 0⟩, ⟨20, 20, .rwt, .cmt, 0⟩, ⟨19, 16, .rwt, .imm, 0⟩, ⟨15, 8, .rwt, .cmt, 1⟩, ⟨7, 0, .rwt, .imm, 0⟩], grp := some 0, crc := true },
  { name := "FB(c)_IDX_VAL", hdr := 0x40080000, hstep := 0x0, base := 0x40081004, dims := [(16, 0x40)],
    fields := [⟨31, 0, .rw, .cmt, 0⟩], grp := none, crc := true },
  { name := "FB(c)_SPD_CFG", hdr := 0x40080000, hstep := 0x0, base := 0x40081008, dims := [(16, 0x40)],
    fields := [⟨31, 16, .rw, .cmt, 1000⟩, ⟨15, 0, .rw, .imm, 0⟩], grp := none, crc := true },
  { name := "FB(c)_CMD", hdr := 0x40080000, hstep := 0x0, base := 0x4008100C, dims := [(16, 0x40)],
    fields := [⟨31, 3, .wo, .imm, 0⟩, ⟨2, 2, .wo, .imm, 0⟩, ⟨1, 1, .wo, .imm, 0⟩, ⟨0, 0, .wo, .imm, 0⟩], grp := none, crc := false },
  { name := "FB(c)_POS", hdr := 0x40080000, hstep := 0x0, base := 0x40081010, dims := [(16, 0x40)],
    fields := [⟨31, 0, .ro, .imm, 0⟩], grp := none, crc := false },
  { name := "FB(c)_STAT", hdr := 0x40080000, hstep := 0x0, base := 0x40081014, dims := [(16, 0x40)],
    fields := [⟨31, 24, .ro, .imm, 0⟩, ⟨23, 16, .ro, .imm, 0⟩, ⟨15, 8, .ro, .imm, 0⟩, ⟨7, 7, .ro, .imm, 0⟩, ⟨6, 6, .ro, .imm, 0⟩, ⟨5, 5, .ro, .imm, 0⟩, ⟨4, 4, .ro, .imm, 0⟩, ⟨3, 3, .ro, .imm, 0⟩, ⟨2, 0, .ro, .imm, 0⟩], grp := none, crc := false },
  { name := "FB(c)_IDX_LATCH", hdr := 0x40080000, hstep := 0x0, base := 0x40081018, dims := [(16, 0x40)],
    fields := [⟨31, 0, .ro, .imm, 0⟩], grp := none, crc := false },
  { name := "FB(c)_CAP_POS", hdr := 0x40080000, hstep := 0x0, base := 0x4008101C, dims := [(16, 0x40)],
    fields := [⟨31, 0, .ro, .imm, 0⟩], grp := none, crc := false },
  { name := "FB(c)_CAP_SPD", hdr := 0x40080000, hstep := 0x0, base := 0x40081020, dims := [(16, 0x40)],
    fields := [⟨31, 0, .ro, .imm, 0⟩], grp := none, crc := false },
  { name := "FB(c)_CAP_TIME", hdr := 0x40080000, hstep := 0x0, base := 0x40081024, dims := [(16, 0x40)],
    fields := [⟨31, 0, .ro, .imm, 0⟩], grp := none, crc := false },
  { name := "FB(c)_EDGE_TIME", hdr := 0x40080000, hstep := 0x0, base := 0x40081028, dims := [(16, 0x40)],
    fields := [⟨31, 0, .ro, .imm, 0⟩], grp := none, crc := false },
  { name := "FB_RES_CFG(n)", hdr := 0x40080000, hstep := 0x0, base := 0x40081400, dims := [(8, 0x40)],
    fields := [⟨31, 31, .rwt, .cmt, 0⟩, ⟨30, 30, .rwt, .cmt, 0⟩, ⟨29, 25, .rwt, .cmt, 0⟩, ⟨24, 24, .rwt, .cmt, 0⟩, ⟨23, 0, .rwt, .imm, 0⟩], grp := some 1, crc := true },
  { name := "FB_RES_KP(n)", hdr := 0x40080000, hstep := 0x0, base := 0x40081404, dims := [(8, 0x40)],
    fields := [⟨31, 0, .rw, .cmt, 0⟩], grp := none, crc := true },
  { name := "FB_RES_KI(n)", hdr := 0x40080000, hstep := 0x0, base := 0x40081408, dims := [(8, 0x40)],
    fields := [⟨31, 0, .rw, .cmt, 0⟩], grp := none, crc := true },
  { name := "FB_RES_POS(n)", hdr := 0x40080000, hstep := 0x0, base := 0x4008140C, dims := [(8, 0x40)],
    fields := [⟨31, 0, .ro, .imm, 0⟩], grp := none, crc := false },
  { name := "FB_RES_SPD(n)", hdr := 0x40080000, hstep := 0x0, base := 0x40081410, dims := [(8, 0x40)],
    fields := [⟨31, 0, .ro, .imm, 0⟩], grp := none, crc := false }]

/-- Registers of the FBI block, part 2. -/
def regsFbi2 : List RegSpec := [
  { name := "FB_RES_STAT(n)", hdr := 0x40080000, hstep := 0x0, base := 0x40081414, dims := [(8, 0x40)],
    fields := [⟨31, 16, .ro, .imm, 0⟩, ⟨15, 3, .ro, .imm, 0⟩, ⟨2, 2, .ro, .imm, 0⟩, ⟨1, 1, .ro, .imm, 0⟩, ⟨0, 0, .ro, .imm, 0⟩], grp := none, crc := false },
  { name := "FB_RES_CAP_POS(n)", hdr := 0x40080000, hstep := 0x0, base := 0x40081418, dims := [(8, 0x40)],
    fields := [⟨31, 0, .ro, .imm, 0⟩], grp := none, crc := false },
  { name := "FB_RES_CAP_SPD(n)", hdr := 0x40080000, hstep := 0x0, base := 0x4008141C, dims := [(8, 0x40)],
    fields := [⟨31, 0, .ro, .imm, 0⟩], grp := none, crc := false },
  { name := "FB_RES_CAP_TIME(n)", hdr := 0x40080000, hstep := 0x0, base := 0x40081420, dims := [(8, 0x40)],
    fields := [⟨31, 0, .ro, .imm, 0⟩], grp := none, crc := false },
  { name := "FB_EMU_CFG(e)", hdr := 0x40080000, hstep := 0x0, base := 0x40081600, dims := [(4, 0x20)],
    fields := [⟨31, 31, .rw, .cmt, 0⟩, ⟨30, 30, .rw, .cmt, 0⟩, ⟨29, 25, .rw, .cmt, 0⟩, ⟨24, 16, .rw, .imm, 0⟩, ⟨15, 8, .rw, .cmt, 4⟩, ⟨7, 0, .rw, .imm, 0⟩], grp := none, crc := true },
  { name := "FB_EMU_RATIO(e)", hdr := 0x40080000, hstep := 0x0, base := 0x40081604, dims := [(4, 0x20)],
    fields := [⟨31, 16, .rw, .cmt, 1⟩, ⟨15, 0, .rw, .cmt, 1⟩], grp := none, crc := true },
  { name := "FB_EMU_ZPER(e)", hdr := 0x40080000, hstep := 0x0, base := 0x40081608, dims := [(4, 0x20)],
    fields := [⟨31, 0, .rw, .cmt, 0⟩], grp := none, crc := true },
  { name := "FB_EMU_POS(e)", hdr := 0x40080000, hstep := 0x0, base := 0x4008160C, dims := [(4, 0x20)],
    fields := [⟨31, 0, .ro, .imm, 0⟩], grp := none, crc := false },
  { name := "FB_EMU_BACKLOG(e)", hdr := 0x40080000, hstep := 0x0, base := 0x40081610, dims := [(4, 0x20)],
    fields := [⟨31, 16, .ro, .imm, 0⟩, ⟨15, 0, .ro, .imm, 0⟩], grp := none, crc := false },
  { name := "FB_EMU_LOSS(e)", hdr := 0x40080000, hstep := 0x0, base := 0x40081614, dims := [(4, 0x20)],
    fields := [⟨31, 0, .ro, .imm, 0⟩], grp := none, crc := false }]

/-- Registers of the FBI block. -/
def regsFbi : List RegSpec := regsFbi0 ++ regsFbi1 ++ regsFbi2

/-- Registers of the AMU block, part 0. -/
def regsAmu0 : List RegSpec := [
  { name := "AMU_ID", hdr := 0x40090000, hstep := 0x0, base := 0x40090000, dims := [],
    fields := [⟨31, 24, .ro, .imm, 10⟩, ⟨23, 16, .ro, .imm, 0⟩, ⟨15, 8, .ro, .imm, 3⟩, ⟨7, 0, .ro, .imm, 0⟩], grp := none, crc := false },
  { name := "AMU_CAPS", hdr := 0x40090000, hstep := 0x0, base := 0x40090004, dims := [],
    fields := [⟨31, 16, .ro, .imm, 0⟩, ⟨15, 8, .ro, .imm, 2⟩, ⟨7, 4, .ro, .imm, 1⟩, ⟨3, 3, .ro, .imm, 1⟩, ⟨2, 2, .ro, .imm, 1⟩, ⟨1, 0, .ro, .imm, 0⟩], grp := none, crc := false },
  { name := "AMU_CTRL", hdr := 0x40090000, hstep := 0x0, base := 0x40090008, dims := [],
    fields := [⟨15, 8, .mw, .imm, 0⟩, ⟨7, 4, .mw, .imm, 0⟩, ⟨3, 3, .mw, .imm, 0⟩, ⟨2, 2, .mw, .imm, 0⟩, ⟨1, 1, .mw, .imm, 0⟩, ⟨0, 0, .mw, .imm, 1⟩], grp := none, crc := false },
  { name := "AMU_STAT", hdr := 0x40090000, hstep := 0x0, base := 0x4009000C, dims := [],
    fields := [⟨31, 16, .ro, .imm, 0⟩, ⟨15, 8, .ro, .imm, 0⟩, ⟨7, 4, .ro, .imm, 0⟩, ⟨3, 3, .ro, .imm, 0⟩, ⟨2, 2, .ro, .imm, 0⟩, ⟨1, 1, .ro, .imm, 0⟩, ⟨0, 0, .ro, .imm, 0⟩], grp := none, crc := false },
  { name := "AMU_IRQ_RAW", hdr := 0x40090000, hstep := 0x0, base := 0x40090010, dims := [],
    fields := [⟨15, 7, .w1c, .imm, 0⟩, ⟨6, 6, .w1c, .imm, 0⟩, ⟨5, 5, .w1c, .imm, 0⟩, ⟨4, 4, .w1c, .imm, 0⟩, ⟨3, 3, .w1c, .imm, 0⟩, ⟨2, 2, .w1c, .imm, 0⟩, ⟨1, 1, .w1c, .imm, 0⟩, ⟨0, 0, .w1c, .imm, 0⟩], grp := none, crc := false },
  { name := "AMU_IRQ_EN", hdr := 0x40090000, hstep := 0x0, base := 0x40090014, dims := [],
    fields := [⟨15, 0, .mw, .imm, 0⟩], grp := none, crc := false },
  { name := "AMU_IRQ_OUT", hdr := 0x40090000, hstep := 0x0, base := 0x40090018, dims := [],
    fields := [⟨31, 17, .ro, .imm, 0⟩, ⟨16, 16, .ro, .imm, 0⟩, ⟨15, 0, .ro, .imm, 0⟩], grp := none, crc := false },
  { name := "AMU_ERR", hdr := 0x40090000, hstep := 0x0, base := 0x4009001C, dims := [],
    fields := [⟨31, 16, .w1c, .imm, 0⟩, ⟨5, 5, .w1c, .imm, 0⟩, ⟨4, 4, .w1c, .imm, 0⟩, ⟨3, 3, .w1c, .imm, 0⟩, ⟨2, 2, .w1c, .imm, 0⟩, ⟨1, 1, .w1c, .imm, 0⟩, ⟨0, 0, .w1c, .imm, 0⟩], grp := none, crc := false },
  { name := "AMU_COMMIT", hdr := 0x40090000, hstep := 0x0, base := 0x40090020, dims := [],
    fields := [⟨31, 10, .wo, .imm, 0⟩, ⟨9, 9, .wo, .imm, 0⟩, ⟨8, 8, .wo, .imm, 0⟩, ⟨7, 0, .wo, .imm, 0⟩], grp := none, crc := false },
  { name := "AMU_GEN", hdr := 0x40090000, hstep := 0x0, base := 0x40090024, dims := [],
    fields := [⟨31, 16, .ro, .imm, 0⟩, ⟨15, 8, .ro, .imm, 0⟩, ⟨7, 0, .ro, .imm, 0⟩], grp := none, crc := false },
  { name := "AMU_CRC_REF", hdr := 0x40090000, hstep := 0x0, base := 0x40090028, dims := [],
    fields := [⟨31, 0, .rw, .cmt, 0⟩], grp := none, crc := false },
  { name := "AMU_CRC_NOW", hdr := 0x40090000, hstep := 0x0, base := 0x4009002C, dims := [],
    fields := [⟨31, 0, .ro, .imm, 0⟩], grp := none, crc := false },
  { name := "AMU_TMR_STAT", hdr := 0x40090000, hstep := 0x0, base := 0x40090030, dims := [],
    fields := [⟨31, 24, .ro, .imm, 0⟩, ⟨23, 16, .ro, .imm, 0⟩, ⟨15, 8, .ro, .imm, 0⟩, ⟨7, 0, .ro, .imm, 0⟩], grp := none, crc := false },
  { name := "AMU_WARDEN", hdr := 0x40090000, hstep := 0x0, base := 0x40090034, dims := [],
    fields := [⟨31, 16, .ro, .imm, 0⟩, ⟨15, 2, .ro, .imm, 0⟩, ⟨1, 0, .ro, .imm, 0⟩], grp := none, crc := false },
  { name := "AMU_TEST0", hdr := 0x40090000, hstep := 0x0, base := 0x40090038, dims := [],
    fields := [⟨31, 0, .rw, .imm, 0⟩], grp := none, crc := false },
  { name := "AMU_TEST1", hdr := 0x40090000, hstep := 0x0, base := 0x4009003C, dims := [],
    fields := [⟨31, 0, .rw, .imm, 0⟩], grp := none, crc := false }]

/-- Registers of the AMU block, part 1. -/
def regsAmu1 : List RegSpec := [
  { name := "AX(k)_CFG", hdr := 0x40090000, hstep := 0x0, base := 0x40091000, dims := [(8, 0x80)],
    fields := [⟨31, 30, .rwt, .cmt, 0⟩, ⟨29, 29, .rwt, .cmt, 0⟩, ⟨28, 28, .rwt, .cmt, 0⟩, ⟨27, 27, .rwt, .cmt, 0⟩, ⟨26, 26, .rwt, .cmt, 0⟩, ⟨25, 24, .rwt, .imm, 0⟩, ⟨23, 16, .rwt, .cmt, 10⟩, ⟨15, 8, .rwt, .cmt, 100⟩, ⟨7, 4, .rwt, .imm, 0⟩, ⟨3, 0, .rwt, .cmt, 4⟩], grp := some 0, crc := true },
  { name := "AX(k)_VSTART", hdr := 0x40090000, hstep := 0x0, base := 0x40091004, dims := [(8, 0x80)],
    fields := [⟨31, 0, .rw, .imm, 0⟩], grp := none, crc := false },
  { name := "AX(k)_VBREAK", hdr := 0x40090000, hstep := 0x0, base := 0x40091008, dims := [(8, 0x80)],
    fields := [⟨31, 0, .rw, .imm, 0⟩], grp := none, crc := false },
  { name := "AX(k)_VMAX", hdr := 0x40090000, hstep := 0x0, base := 0x4009100C, dims := [(8, 0x80)],
    fields := [⟨31, 0, .rw, .imm, 0⟩], grp := none, crc := false },
  { name := "AX(k)_VSTOP", hdr := 0x40090000, hstep := 0x0, base := 0x40091010, dims := [(8, 0x80)],
    fields := [⟨31, 0, .rw, .imm, 0⟩], grp := none, crc := false },
  { name := "AX(k)_A1", hdr := 0x40090000, hstep := 0x0, base := 0x40091014, dims := [(8, 0x80)],
    fields := [⟨31, 0, .rw, .imm, 0⟩], grp := none, crc := false },
  { name := "AX(k)_A2", hdr := 0x40090000, hstep := 0x0, base := 0x40091018, dims := [(8, 0x80)],
    fields := [⟨31, 0, .rw, .imm, 0⟩], grp := none, crc := false },
  { name := "AX(k)_D2", hdr := 0x40090000, hstep := 0x0, base := 0x4009101C, dims := [(8, 0x80)],
    fields := [⟨31, 0, .rw, .imm, 0⟩], grp := none, crc := false },
  { name := "AX(k)_D1", hdr := 0x40090000, hstep := 0x0, base := 0x40091020, dims := [(8, 0x80)],
    fields := [⟨31, 0, .rw, .imm, 0⟩], grp := none, crc := false },
  { name := "AX(k)_TARGET", hdr := 0x40090000, hstep := 0x0, base := 0x40091024, dims := [(8, 0x80)],
    fields := [⟨31, 0, .rw, .imm, 0⟩], grp := none, crc := false },
  { name := "AX(k)_CMD", hdr := 0x40090000, hstep := 0x0, base := 0x40091028, dims := [(8, 0x80)],
    fields := [⟨31, 4, .wo, .imm, 0⟩, ⟨3, 0, .wo, .imm, 0⟩], grp := none, crc := false },
  { name := "AX(k)_POS", hdr := 0x40090000, hstep := 0x0, base := 0x4009102C, dims := [(8, 0x80)],
    fields := [⟨31, 0, .rw, .imm, 0⟩], grp := none, crc := false },
  { name := "AX(k)_STAT", hdr := 0x40090000, hstep := 0x0, base := 0x40091030, dims := [(8, 0x80)],
    fields := [⟨31, 17, .ro, .imm, 0⟩, ⟨16, 16, .ro, .imm, 0⟩, ⟨15, 15, .ro, .imm, 0⟩, ⟨14, 14, .ro, .imm, 0⟩, ⟨13, 13, .ro, .imm, 0⟩, ⟨12, 12, .ro, .imm, 0⟩, ⟨11, 11, .ro, .imm, 0⟩, ⟨10, 10, .ro, .imm, 0⟩, ⟨9, 9, .ro, .imm, 0⟩, ⟨8, 8, .ro, .imm, 0⟩, ⟨7, 7, .ro, .imm, 0⟩, ⟨6, 5, .ro, .imm, 0⟩, ⟨4, 3, .ro, .imm, 0⟩, ⟨2, 0, .ro, .imm, 0⟩], grp := none, crc := false },
  { name := "AX(k)_SPEED", hdr := 0x40090000, hstep := 0x0, base := 0x40091034, dims := [(8, 0x80)],
    fields := [⟨31, 0, .ro, .imm, 0⟩], grp := none, crc := false },
  { name := "AX(k)_LEFT", hdr := 0x40090000, hstep := 0x0, base := 0x40091038, dims := [(8, 0x80)],
    fields := [⟨31, 0, .ro, .imm, 0⟩], grp := none, crc := false },
  { name := "AX(k)_HOME_POS", hdr := 0x40090000, hstep := 0x0, base := 0x4009103C, dims := [(8, 0x80)],
    fields := [⟨31, 0, .ro, .imm, 0⟩], grp := none, crc := false }]

/-- Registers of the AMU block, part 2. -/
def regsAmu2 : List RegSpec := [
  { name := "AX(k)_HOME_VAL", hdr := 0x40090000, hstep := 0x0, base := 0x40091040, dims := [(8, 0x80)],
    fields := [⟨31, 0, .rw, .imm, 0⟩], grp := none, crc := false },
  { name := "AX(k)_VHOME", hdr := 0x40090000, hstep := 0x0, base := 0x40091044, dims := [(8, 0x80)],
    fields := [⟨31, 0, .rw, .imm, 0⟩], grp := none, crc := false },
  { name := "AX(k)_CHOP_CFG", hdr := 0x40090000, hstep := 0x0, base := 0x40091048, dims := [(8, 0x80)],
    fields := [⟨31, 22, .rw, .cmt, 0⟩, ⟨21, 12, .rw, .cmt, 0⟩, ⟨11, 4, .rw, .cmt, 16⟩, ⟨3, 3, .rw, .cmt, 0⟩, ⟨2, 2, .rw, .cmt, 0⟩, ⟨1, 0, .rw, .imm, 0⟩], grp := none, crc := true },
  { name := "AX(k)_CHOP_TIM", hdr := 0x40090000, hstep := 0x0, base := 0x4009104C, dims := [(8, 0x80)],
    fields := [⟨31, 24, .rw, .cmt, 50⟩, ⟨23, 16, .rw, .cmt, 0⟩, ⟨15, 0, .rw, .cmt, 500⟩], grp := none, crc := true },
  { name := "AX(k)_CHOP_STAT", hdr := 0x40090000, hstep := 0x0, base := 0x40091050, dims := [(8, 0x80)],
    fields := [⟨31, 16, .ro, .imm, 0⟩, ⟨15, 0, .ro, .imm, 0⟩], grp := none, crc := false },
  { name := "AX(k)_CHOP_FCNT", hdr := 0x40090000, hstep := 0x0, base := 0x40091054, dims := [(8, 0x80)],
    fields := [⟨31, 0, .ro, .imm, 0⟩], grp := none, crc := false },
  { name := "AX(k)_IRQ_RAW", hdr := 0x40090000, hstep := 0x0, base := 0x40091058, dims := [(8, 0x80)],
    fields := [⟨31, 6, .ro, .imm, 0⟩, ⟨5, 0, .w1c, .imm, 0⟩], grp := none, crc := false },
  { name := "AX(k)_IRQ_EN", hdr := 0x40090000, hstep := 0x0, base := 0x4009105C, dims := [(8, 0x80)],
    fields := [⟨5, 0, .mw, .imm, 0⟩], grp := none, crc := false }]

/-- Registers of the AMU block. -/
def regsAmu : List RegSpec := regsAmu0 ++ regsAmu1 ++ regsAmu2

/-- Registers of the CAN block, part 0. -/
def regsCan0 : List RegSpec := [
  { name := "CAN(c)_ID", hdr := 0x400A0000, hstep := 0x1000, base := 0x400A0000, dims := [(4, 0x1000)],
    fields := [⟨31, 24, .ro, .imm, 11⟩, ⟨23, 16, .ro, .imm, 0⟩, ⟨15, 8, .ro, .imm, 3⟩, ⟨7, 0, .ro, .imm, 0⟩], grp := none, crc := false },
  { name := "CAN(c)_CAPS", hdr := 0x400A0000, hstep := 0x1000, base := 0x400A0004, dims := [(4, 0x1000)],
    fields := [⟨31, 16, .ro, .imm, 0⟩, ⟨15, 8, .ro, .imm, 1⟩, ⟨7, 4, .ro, .imm, 1⟩, ⟨3, 3, .ro, .imm, 1⟩, ⟨2, 2, .ro, .imm, 0⟩, ⟨1, 0, .ro, .imm, 0⟩], grp := none, crc := false },
  { name := "CAN(c)_CTRL", hdr := 0x400A0000, hstep := 0x1000, base := 0x400A0008, dims := [(4, 0x1000)],
    fields := [⟨15, 8, .mw, .imm, 0⟩, ⟨7, 4, .mw, .imm, 0⟩, ⟨3, 3, .mw, .imm, 0⟩, ⟨2, 2, .mw, .imm, 0⟩, ⟨1, 1, .mw, .imm, 0⟩, ⟨0, 0, .mw, .imm, 1⟩], grp := none, crc := false },
  { name := "CAN(c)_STAT", hdr := 0x400A0000, hstep := 0x1000, base := 0x400A000C, dims := [(4, 0x1000)],
    fields := [⟨31, 8, .ro, .imm, 0⟩, ⟨7, 4, .ro, .imm, 0⟩, ⟨3, 3, .ro, .imm, 0⟩, ⟨2, 2, .ro, .imm, 0⟩, ⟨1, 1, .ro, .imm, 0⟩, ⟨0, 0, .ro, .imm, 0⟩], grp := none, crc := false },
  { name := "CAN(c)_IRQ_RAW", hdr := 0x400A0000, hstep := 0x1000, base := 0x400A0010, dims := [(4, 0x1000)],
    fields := [⟨15, 12, .w1c, .imm, 0⟩, ⟨11, 11, .w1c, .imm, 0⟩, ⟨10, 10, .w1c, .imm, 0⟩, ⟨9, 9, .w1c, .imm, 0⟩, ⟨8, 8, .w1c, .imm, 0⟩, ⟨7, 7, .w1c, .imm, 0⟩, ⟨6, 6, .w1c, .imm, 0⟩, ⟨5, 5, .w1c, .imm, 0⟩, ⟨4, 4, .w1c, .imm, 0⟩, ⟨3, 3, .w1c, .imm, 0⟩, ⟨2, 2, .w1c, .imm, 0⟩, ⟨1, 1, .w1c, .imm, 0⟩, ⟨0, 0, .w1c, .imm, 0⟩], grp := none, crc := false },
  { name := "CAN(c)_IRQ_EN", hdr := 0x400A0000, hstep := 0x1000, base := 0x400A0014, dims := [(4, 0x1000)],
    fields := [⟨15, 0, .mw, .imm, 0⟩], grp := none, crc := false },
  { name := "CAN(c)_IRQ_OUT", hdr := 0x400A0000, hstep := 0x1000, base := 0x400A0018, dims := [(4, 0x1000)],
    fields := [⟨31, 17, .ro, .imm, 0⟩, ⟨16, 16, .ro, .imm, 0⟩, ⟨15, 0, .ro, .imm, 0⟩], grp := none, crc := false },
  { name := "CAN(c)_ERR", hdr := 0x400A0000, hstep := 0x1000, base := 0x400A001C, dims := [(4, 0x1000)],
    fields := [⟨31, 22, .w1c, .imm, 0⟩, ⟨21, 21, .w1c, .imm, 0⟩, ⟨20, 20, .w1c, .imm, 0⟩, ⟨19, 19, .w1c, .imm, 0⟩, ⟨18, 18, .w1c, .imm, 0⟩, ⟨17, 17, .w1c, .imm, 0⟩, ⟨16, 16, .w1c, .imm, 0⟩, ⟨5, 5, .w1c, .imm, 0⟩, ⟨4, 4, .w1c, .imm, 0⟩, ⟨3, 3, .w1c, .imm, 0⟩, ⟨2, 2, .w1c, .imm, 0⟩, ⟨1, 1, .w1c, .imm, 0⟩, ⟨0, 0, .w1c, .imm, 0⟩], grp := none, crc := false },
  { name := "CAN(c)_COMMIT", hdr := 0x400A0000, hstep := 0x1000, base := 0x400A0020, dims := [(4, 0x1000)],
    fields := [⟨31, 10, .wo, .imm, 0⟩, ⟨9, 9, .wo, .imm, 0⟩, ⟨8, 8, .wo, .imm, 0⟩, ⟨7, 0, .wo, .imm, 0⟩], grp := none, crc := false },
  { name := "CAN(c)_GEN", hdr := 0x400A0000, hstep := 0x1000, base := 0x400A0024, dims := [(4, 0x1000)],
    fields := [⟨31, 16, .ro, .imm, 0⟩, ⟨15, 8, .ro, .imm, 0⟩, ⟨7, 0, .ro, .imm, 0⟩], grp := none, crc := false },
  { name := "CAN(c)_CRC_REF", hdr := 0x400A0000, hstep := 0x1000, base := 0x400A0028, dims := [(4, 0x1000)],
    fields := [⟨31, 0, .rw, .imm, 0⟩], grp := none, crc := false },
  { name := "CAN(c)_CRC_NOW", hdr := 0x400A0000, hstep := 0x1000, base := 0x400A002C, dims := [(4, 0x1000)],
    fields := [⟨31, 0, .ro, .imm, 0⟩], grp := none, crc := false },
  { name := "CAN(c)_TMR_STAT", hdr := 0x400A0000, hstep := 0x1000, base := 0x400A0030, dims := [(4, 0x1000)],
    fields := [⟨31, 24, .ro, .imm, 0⟩, ⟨23, 16, .ro, .imm, 0⟩, ⟨15, 8, .ro, .imm, 0⟩, ⟨7, 0, .ro, .imm, 0⟩], grp := none, crc := false },
  { name := "CAN(c)_WARDEN", hdr := 0x400A0000, hstep := 0x1000, base := 0x400A0034, dims := [(4, 0x1000)],
    fields := [⟨31, 16, .ro, .imm, 0⟩, ⟨15, 2, .ro, .imm, 0⟩, ⟨1, 0, .ro, .imm, 0⟩], grp := none, crc := false },
  { name := "CAN(c)_TEST0", hdr := 0x400A0000, hstep := 0x1000, base := 0x400A0038, dims := [(4, 0x1000)],
    fields := [⟨31, 0, .rw, .imm, 0⟩], grp := none, crc := false },
  { name := "CAN(c)_TEST1", hdr := 0x400A0000, hstep := 0x1000, base := 0x400A003C, dims := [(4, 0x1000)],
    fields := [⟨31, 0, .rw, .imm, 0⟩], grp := none, crc := false }]

/-- Registers of the CAN block, part 1. -/
def regsCan1 : List RegSpec := [
  { name := "CAN(c)_NBT", hdr := 0x400A0000, hstep := 0x1000, base := 0x400A0040, dims := [(4, 0x1000)],
    fields := [⟨31, 23, .rwt, .imm, 1⟩, ⟨22, 16, .rwt, .imm, 15⟩, ⟨15, 8, .rwt, .imm, 62⟩, ⟨7, 7, .rwt, .imm, 0⟩, ⟨6, 0, .rwt, .imm, 15⟩], grp := some 0, crc := true },
  { name := "CAN(c)_DBT", hdr := 0x400A0000, hstep := 0x1000, base := 0x400A0044, dims := [(4, 0x1000)],
    fields := [⟨31, 21, .rwt, .imm, 0⟩, ⟨20, 16, .rwt, .imm, 0⟩, ⟨15, 13, .rwt, .imm, 0⟩, ⟨12, 8, .rwt, .imm, 10⟩, ⟨7, 4, .rwt, .imm, 3⟩, ⟨3, 0, .rwt, .imm, 3⟩], grp := some 0, crc := true },
  { name := "CAN(c)_TDC", hdr := 0x400A0000, hstep := 0x1000, base := 0x400A0048, dims := [(4, 0x1000)],
    fields := [⟨31, 31, .rwt, .imm, 0⟩, ⟨30, 23, .rwt, .imm, 0⟩, ⟨22, 16, .rwt, .imm, 0⟩, ⟨15, 7, .rwt, .imm, 0⟩, ⟨6, 0, .rwt, .imm, 0⟩], grp := some 0, crc := true },
  { name := "CAN(c)_MODE", hdr := 0x400A0000, hstep := 0x1000, base := 0x400A004C, dims := [(4, 0x1000)],
    fields := [⟨31, 22, .rw, .imm, 0⟩, ⟨21, 16, .rw, .bnd, 16⟩, ⟨15, 13, .rw, .imm, 0⟩, ⟨12, 12, .rw, .bnd, 0⟩, ⟨11, 11, .rw, .imm, 0⟩, ⟨10, 10, .rw, .imm, 0⟩, ⟨9, 9, .rw, .imm, 0⟩, ⟨8, 8, .rw, .imm, 0⟩, ⟨7, 3, .rw, .imm, 0⟩, ⟨2, 0, .rw, .bnd, 0⟩], grp := none, crc := true },
  { name := "CAN(c)_PSTAT", hdr := 0x400A0000, hstep := 0x1000, base := 0x400A0050, dims := [(4, 0x1000)],
    fields := [⟨31, 24, .ro, .imm, 0⟩, ⟨23, 16, .ro, .imm, 0⟩, ⟨15, 15, .ro, .imm, 0⟩, ⟨14, 12, .ro, .imm, 0⟩, ⟨11, 10, .ro, .imm, 3⟩, ⟨9, 9, .ro, .imm, 0⟩, ⟨8, 8, .ro, .imm, 0⟩, ⟨7, 7, .ro, .imm, 0⟩, ⟨6, 0, .ro, .imm, 0⟩], grp := none, crc := false },
  { name := "CAN(c)_CMD", hdr := 0x400A0000, hstep := 0x1000, base := 0x400A0054, dims := [(4, 0x1000)],
    fields := [⟨31, 9, .wo, .imm, 0⟩, ⟨8, 8, .wo, .imm, 0⟩, ⟨7, 1, .wo, .imm, 0⟩, ⟨0, 0, .wo, .imm, 0⟩], grp := none, crc := false },
  { name := "CAN(c)_MB_CMD", hdr := 0x400A0000, hstep := 0x1000, base := 0x400A0058, dims := [(4, 0x1000)],
    fields := [⟨31, 10, .wo, .imm, 0⟩, ⟨9, 8, .wo, .imm, 0⟩, ⟨7, 6, .wo, .imm, 0⟩, ⟨5, 0, .wo, .imm, 0⟩], grp := none, crc := false },
  { name := "CAN(c)_MB_SEL", hdr := 0x400A0000, hstep := 0x1000, base := 0x400A005C, dims := [(4, 0x1000)],
    fields := [⟨31, 6, .rw, .imm, 0⟩, ⟨5, 0, .rw, .imm, 0⟩], grp := none, crc := false },
  { name := "CAN(c)_TXPEND(i)", hdr := 0x400A0000, hstep := 0x1000, base := 0x400A0060, dims := [(4, 0x1000), (2, 0x4)],
    fields := [⟨31, 0, .ro, .imm, 0⟩], grp := none, crc := false },
  { name := "CAN(c)_NEW(i)", hdr := 0x400A0000, hstep := 0x1000, base := 0x400A0068, dims := [(4, 0x1000), (2, 0x4)],
    fields := [⟨31, 0, .w1c, .imm, 0⟩], grp := none, crc := false },
  { name := "CAN(c)_IDCOLL", hdr := 0x400A0000, hstep := 0x1000, base := 0x400A0070, dims := [(4, 0x1000)],
    fields := [⟨31, 0, .ro, .imm, 0⟩], grp := none, crc := false },
  { name := "CAN(c)_TX_REQ", hdr := 0x400A0000, hstep := 0x1000, base := 0x400A0074, dims := [(4, 0x1000)],
    fields := [⟨31, 0, .ro, .imm, 0⟩], grp := none, crc := false },
  { name := "CAN(c)_TX_OK", hdr := 0x400A0000, hstep := 0x1000, base := 0x400A0078, dims := [(4, 0x1000)],
    fields := [⟨31, 0, .ro, .imm, 0⟩], grp := none, crc := false },
  { name := "CAN(c)_TX_ABT", hdr := 0x400A0000, hstep := 0x1000, base := 0x400A007C, dims := [(4, 0x1000)],
    fields := [⟨31, 0, .ro, .imm, 0⟩], grp := none, crc := false },
  { name := "CAN(c)_RX_OK", hdr := 0x400A0000, hstep := 0x1000, base := 0x400A0080, dims := [(4, 0x1000)],
    fields := [⟨31, 0, .ro, .imm, 0⟩], grp := none, crc := false },
  { name := "CAN(c)_RX_STORE", hdr := 0x400A0000, hstep := 0x1000, base := 0x400A0084, dims := [(4, 0x1000)],
    fields := [⟨31, 0, .ro, .imm, 0⟩], grp := none, crc := false }]

/-- Registers of the CAN block, part 2. -/
def regsCan2 : List RegSpec := [
  { name := "CAN(c)_RX_FILT", hdr := 0x400A0000, hstep := 0x1000, base := 0x400A0088, dims := [(4, 0x1000)],
    fields := [⟨31, 0, .ro, .imm, 0⟩], grp := none, crc := false },
  { name := "CAN(c)_RX_DROP", hdr := 0x400A0000, hstep := 0x1000, base := 0x400A008C, dims := [(4, 0x1000)],
    fields := [⟨31, 0, .ro, .imm, 0⟩], grp := none, crc := false },
  { name := "CAN(c)_RX_OVW", hdr := 0x400A0000, hstep := 0x1000, base := 0x400A0090, dims := [(4, 0x1000)],
    fields := [⟨31, 0, .ro, .imm, 0⟩], grp := none, crc := false },
  { name := "CAN(c)_BUSOFF_CNT", hdr := 0x400A0000, hstep := 0x1000, base := 0x400A0094, dims := [(4, 0x1000)],
    fields := [⟨31, 0, .ro, .imm, 0⟩], grp := none, crc := false },
  { name := "CAN(c)_ECNT", hdr := 0x400A0000, hstep := 0x1000, base := 0x400A0098, dims := [(4, 0x1000)],
    fields := [⟨31, 24, .ro, .imm, 0⟩, ⟨23, 16, .ro, .imm, 0⟩, ⟨15, 8, .ro, .imm, 0⟩, ⟨7, 0, .ro, .imm, 0⟩], grp := none, crc := false },
  { name := "CAN(c)_FIFO_STAT", hdr := 0x400A0000, hstep := 0x1000, base := 0x400A009C, dims := [(4, 0x1000)],
    fields := [⟨31, 6, .ro, .imm, 0⟩, ⟨5, 0, .ro, .imm, 0⟩], grp := none, crc := false },
  { name := "CAN(c)_FIFO_FID", hdr := 0x400A0000, hstep := 0x1000, base := 0x400A00A0, dims := [(4, 0x1000)],
    fields := [⟨31, 0, .rw, .bnd, 0⟩], grp := none, crc := true },
  { name := "CAN(c)_FIFO_FMASK", hdr := 0x400A0000, hstep := 0x1000, base := 0x400A00A4, dims := [(4, 0x1000)],
    fields := [], grp := none, crc := true },
  { name := "CAN(c)_FIFO_HDR", hdr := 0x400A0000, hstep := 0x1000, base := 0x400A00C0, dims := [(4, 0x1000)],
    fields := [⟨31, 0, .ro, .imm, 0⟩], grp := none, crc := false },
  { name := "CAN(c)_FIFO_INFO", hdr := 0x400A0000, hstep := 0x1000, base := 0x400A00C4, dims := [(4, 0x1000)],
    fields := [⟨31, 20, .ro, .imm, 0⟩, ⟨19, 16, .ro, .imm, 0⟩, ⟨15, 15, .ro, .imm, 0⟩, ⟨14, 14, .ro, .imm, 0⟩, ⟨13, 13, .ro, .imm, 0⟩, ⟨12, 0, .ro, .imm, 0⟩], grp := none, crc := false },
  { name := "CAN(c)_FIFO_TS", hdr := 0x400A0000, hstep := 0x1000, base := 0x400A00C8, dims := [(4, 0x1000)],
    fields := [⟨31, 0, .ro, .imm, 0⟩], grp := none, crc := false },
  { name := "CAN(c)_FIFO_DATA(w)", hdr := 0x400A0000, hstep := 0x1000, base := 0x400A0100, dims := [(4, 0x1000), (16, 0x4)],
    fields := [⟨31, 0, .ro, .imm, 0⟩], grp := none, crc := false },
  { name := "CAN(c)_MB_DATA(w)", hdr := 0x400A0000, hstep := 0x1000, base := 0x400A0140, dims := [(4, 0x1000), (16, 0x4)],
    fields := [⟨31, 0, .rw, .imm, 0⟩], grp := none, crc := false },
  { name := "CAN(c)_MB_ID(b)", hdr := 0x400A0000, hstep := 0x1000, base := 0x400A0200, dims := [(4, 0x1000), (64, 0x10)],
    fields := [⟨31, 31, .rw, .bnd, 0⟩, ⟨30, 30, .rw, .bnd, 0⟩, ⟨29, 29, .rw, .imm, 0⟩, ⟨28, 0, .rw, .bnd, 0⟩], grp := none, crc := true },
  { name := "CAN(c)_MB_MASK(b)", hdr := 0x400A0000, hstep := 0x1000, base := 0x400A0204, dims := [(4, 0x1000), (64, 0x10)],
    fields := [], grp := none, crc := true },
  { name := "CAN(c)_MB_CFG(b)", hdr := 0x400A0000, hstep := 0x1000, base := 0x400A0208, dims := [(4, 0x1000), (64, 0x10)],
    fields := [⟨31, 31, .rw, .bnd, 0⟩, ⟨30, 30, .rw, .bnd, 0⟩, ⟨29, 29, .rw, .bnd, 0⟩, ⟨28, 28, .rw, .bnd, 0⟩, ⟨27, 27, .rw, .bnd, 0⟩, ⟨26, 26, .rw, .bnd, 0⟩, ⟨25, 20, .rw, .imm, 0⟩, ⟨19, 16, .rw, .bnd, 0⟩, ⟨15, 0, .rw, .imm, 0⟩], grp := none, crc := true }]

/-- Registers of the CAN block, part 3. -/
def regsCan3 : List RegSpec := [
  { name := "CAN(c)_MB_STAT(b)", hdr := 0x400A0000, hstep := 0x1000, base := 0x400A020C, dims := [(4, 0x1000), (64, 0x10)],
    fields := [⟨31, 28, .ro, .imm, 0⟩, ⟨27, 27, .ro, .imm, 0⟩, ⟨26, 26, .ro, .imm, 0⟩, ⟨25, 25, .ro, .imm, 0⟩, ⟨24, 24, .ro, .imm, 0⟩, ⟨23, 20, .ro, .imm, 0⟩, ⟨19, 16, .ro, .imm, 0⟩, ⟨15, 15, .ro, .imm, 0⟩, ⟨14, 14, .ro, .imm, 0⟩, ⟨13, 13, .ro, .imm, 0⟩, ⟨12, 0, .ro, .imm, 0⟩], grp := none, crc := false },
  { name := "CAN(c)_MB_TS(b)", hdr := 0x400A0000, hstep := 0x1000, base := 0x400A0600, dims := [(4, 0x1000), (64, 0x4)],
    fields := [⟨31, 0, .ro, .imm, 0⟩], grp := none, crc := false },
  { name := "CAN(c)_MB_RXID(b)", hdr := 0x400A0000, hstep := 0x1000, base := 0x400A0700, dims := [(4, 0x1000), (64, 0x4)],
    fields := [⟨31, 0, .ro, .imm, 0⟩], grp := none, crc := false }]

/-- Registers of the CAN block. -/
def regsCan : List RegSpec := regsCan0 ++ regsCan1 ++ regsCan2 ++ regsCan3

/-- Registers of the MSIO block, part 0. -/
def regsMsio0 : List RegSpec := [
  { name := "MSIO_ID", hdr := 0x400B0000, hstep := 0x0, base := 0x400B0000, dims := [],
    fields := [⟨31, 24, .ro, .imm, 12⟩, ⟨23, 16, .ro, .imm, 0⟩, ⟨15, 8, .ro, .imm, 3⟩, ⟨7, 0, .ro, .imm, 0⟩], grp := none, crc := false },
  { name := "MSIO_CAPS", hdr := 0x400B0000, hstep := 0x0, base := 0x400B0004, dims := [],
    fields := [⟨31, 16, .ro, .imm, 0⟩, ⟨15, 8, .ro, .imm, 1⟩, ⟨7, 4, .ro, .imm, 4⟩, ⟨3, 3, .ro, .imm, 1⟩, ⟨2, 2, .ro, .imm, 1⟩, ⟨1, 0, .ro, .imm, 0⟩], grp := none, crc := false },
  { name := "MSIO_CTRL", hdr := 0x400B0000, hstep := 0x0, base := 0x400B0008, dims := [],
    fields := [⟨15, 8, .mw, .imm, 0⟩, ⟨7, 4, .mw, .imm, 0⟩, ⟨3, 3, .mw, .imm, 0⟩, ⟨2, 2, .mw, .imm, 0⟩, ⟨1, 1, .mw, .imm, 0⟩, ⟨0, 0, .mw, .imm, 1⟩], grp := none, crc := false },
  { name := "MSIO_STAT", hdr := 0x400B0000, hstep := 0x0, base := 0x400B000C, dims := [],
    fields := [⟨31, 11, .ro, .imm, 0⟩, ⟨10, 10, .ro, .imm, 0⟩, ⟨9, 9, .ro, .imm, 0⟩, ⟨8, 8, .ro, .imm, 0⟩, ⟨7, 4, .ro, .imm, 0⟩, ⟨3, 3, .ro, .imm, 0⟩, ⟨2, 2, .ro, .imm, 0⟩, ⟨1, 1, .ro, .imm, 0⟩, ⟨0, 0, .ro, .imm, 0⟩], grp := none, crc := false },
  { name := "MSIO_IRQ_RAW", hdr := 0x400B0000, hstep := 0x0, base := 0x400B0010, dims := [],
    fields := [⟨15, 8, .w1c, .imm, 0⟩, ⟨7, 7, .w1c, .imm, 0⟩, ⟨6, 6, .w1c, .imm, 0⟩, ⟨5, 5, .w1c, .imm, 0⟩, ⟨4, 4, .w1c, .imm, 0⟩, ⟨3, 3, .w1c, .imm, 0⟩, ⟨2, 2, .w1c, .imm, 0⟩, ⟨1, 1, .w1c, .imm, 0⟩, ⟨0, 0, .w1c, .imm, 0⟩], grp := none, crc := false },
  { name := "MSIO_IRQ_EN", hdr := 0x400B0000, hstep := 0x0, base := 0x400B0014, dims := [],
    fields := [⟨15, 0, .mw, .imm, 0⟩], grp := none, crc := false },
  { name := "MSIO_IRQ_OUT", hdr := 0x400B0000, hstep := 0x0, base := 0x400B0018, dims := [],
    fields := [⟨31, 17, .ro, .imm, 0⟩, ⟨16, 16, .ro, .imm, 0⟩, ⟨15, 0, .ro, .imm, 0⟩], grp := none, crc := false },
  { name := "MSIO_ERR", hdr := 0x400B0000, hstep := 0x0, base := 0x400B001C, dims := [],
    fields := [⟨31, 19, .w1c, .imm, 0⟩, ⟨18, 18, .w1c, .imm, 0⟩, ⟨17, 17, .w1c, .imm, 0⟩, ⟨16, 16, .w1c, .imm, 0⟩, ⟨5, 5, .w1c, .imm, 0⟩, ⟨4, 4, .w1c, .imm, 0⟩, ⟨3, 3, .w1c, .imm, 0⟩, ⟨2, 2, .w1c, .imm, 0⟩, ⟨1, 1, .w1c, .imm, 0⟩, ⟨0, 0, .w1c, .imm, 0⟩], grp := none, crc := false },
  { name := "MSIO_COMMIT", hdr := 0x400B0000, hstep := 0x0, base := 0x400B0020, dims := [],
    fields := [⟨31, 10, .wo, .imm, 0⟩, ⟨9, 9, .wo, .imm, 0⟩, ⟨8, 8, .wo, .imm, 0⟩, ⟨7, 0, .wo, .imm, 0⟩], grp := none, crc := false },
  { name := "MSIO_GEN", hdr := 0x400B0000, hstep := 0x0, base := 0x400B0024, dims := [],
    fields := [⟨31, 16, .ro, .imm, 0⟩, ⟨15, 8, .ro, .imm, 0⟩, ⟨7, 0, .ro, .imm, 0⟩], grp := none, crc := false },
  { name := "MSIO_CRC_REF", hdr := 0x400B0000, hstep := 0x0, base := 0x400B0028, dims := [],
    fields := [⟨31, 0, .rw, .cmt, 0⟩], grp := none, crc := false },
  { name := "MSIO_CRC_NOW", hdr := 0x400B0000, hstep := 0x0, base := 0x400B002C, dims := [],
    fields := [⟨31, 0, .ro, .imm, 0⟩], grp := none, crc := false },
  { name := "MSIO_TMR_STAT", hdr := 0x400B0000, hstep := 0x0, base := 0x400B0030, dims := [],
    fields := [⟨31, 24, .ro, .imm, 0⟩, ⟨23, 16, .ro, .imm, 0⟩, ⟨15, 8, .ro, .imm, 0⟩, ⟨7, 0, .ro, .imm, 0⟩], grp := none, crc := false },
  { name := "MSIO_WARDEN", hdr := 0x400B0000, hstep := 0x0, base := 0x400B0034, dims := [],
    fields := [⟨31, 16, .ro, .imm, 0⟩, ⟨15, 2, .ro, .imm, 0⟩, ⟨1, 0, .ro, .imm, 0⟩], grp := none, crc := false },
  { name := "MSIO_TEST0", hdr := 0x400B0000, hstep := 0x0, base := 0x400B0038, dims := [],
    fields := [⟨31, 0, .rw, .imm, 0⟩], grp := none, crc := false },
  { name := "MSIO_TEST1", hdr := 0x400B0000, hstep := 0x0, base := 0x400B003C, dims := [],
    fields := [⟨31, 0, .rw, .imm, 0⟩], grp := none, crc := false }]

/-- Registers of the MSIO block, part 1. -/
def regsMsio1 : List RegSpec := [
  { name := "MSIO_SI_CFG(i)", hdr := 0x400B0000, hstep := 0x0, base := 0x400B0040, dims := [(24, 0x4)],
    fields := [⟨31, 31, .rwt, .cmt, 0⟩, ⟨30, 30, .rwt, .cmt, 0⟩, ⟨29, 29, .rwt, .imm, 0⟩, ⟨28, 24, .rwt, .cmt, 31⟩, ⟨23, 16, .rwt, .imm, 0⟩, ⟨15, 8, .rwt, .cmt, 0⟩, ⟨7, 0, .rwt, .imm, 0⟩], grp := some 0, crc := true },
  { name := "MSIO_SI_RAW", hdr := 0x400B0000, hstep := 0x0, base := 0x400B00A0, dims := [],
    fields := [⟨23, 0, .ro, .imm, 0⟩], grp := none, crc := false },
  { name := "MSIO_SI_FILT", hdr := 0x400B0000, hstep := 0x0, base := 0x400B00A4, dims := [],
    fields := [⟨23, 0, .ro, .imm, 0⟩], grp := none, crc := false },
  { name := "MSIO_SI_FAULT", hdr := 0x400B0000, hstep := 0x0, base := 0x400B00A8, dims := [],
    fields := [⟨23, 0, .w1c, .imm, 0⟩], grp := none, crc := false },
  { name := "MSIO_SI_FCNT", hdr := 0x400B0000, hstep := 0x0, base := 0x400B00AC, dims := [],
    fields := [⟨31, 0, .ro, .imm, 0⟩], grp := none, crc := false },
  { name := "MSIO_EV_CFG(k)", hdr := 0x400B0000, hstep := 0x0, base := 0x400B00C0, dims := [(8, 0x10)],
    fields := [⟨31, 29, .rwt, .cmt, 0⟩, ⟨28, 28, .rwt, .cmt, 0⟩, ⟨27, 27, .rwt, .cmt, 1⟩, ⟨26, 24, .rwt, .imm, 0⟩, ⟨23, 16, .rwt, .cmt, 255⟩, ⟨15, 0, .rwt, .cmt, 0⟩], grp := some 1, crc := true },
  { name := "MSIO_EV_SRC(k)", hdr := 0x400B0000, hstep := 0x0, base := 0x400B00C4, dims := [(8, 0x10)],
    fields := [⟨31, 24, .rwt, .cmt, 255⟩, ⟨23, 16, .rwt, .cmt, 255⟩, ⟨15, 8, .rwt, .cmt, 255⟩, ⟨7, 0, .rwt, .cmt, 255⟩], grp := some 1, crc := true },
  { name := "MSIO_EV_TIM(k)", hdr := 0x400B0000, hstep := 0x0, base := 0x400B00C8, dims := [(8, 0x10)],
    fields := [⟨31, 25, .rwt, .imm, 0⟩, ⟨24, 16, .rwt, .cmt, 500⟩, ⟨15, 10, .rwt, .imm, 0⟩, ⟨9, 0, .rwt, .cmt, 100⟩], grp := some 1, crc := true },
  { name := "MSIO_EV_STAT(k)", hdr := 0x400B0000, hstep := 0x0, base := 0x400B00CC, dims := [(8, 0x10)],
    fields := [⟨31, 24, .ro, .imm, 0⟩, ⟨23, 16, .ro, .imm, 0⟩, ⟨15, 8, .ro, .imm, 0⟩, ⟨7, 4, .ro, .imm, 0⟩, ⟨3, 3, .ro, .imm, 0⟩, ⟨2, 0, .ro, .imm, 0⟩], grp := none, crc := false },
  { name := "MSIO_EV_CMD", hdr := 0x400B0000, hstep := 0x0, base := 0x400B0140, dims := [],
    fields := [⟨31, 16, .wo, .imm, 0⟩, ⟨15, 8, .wo, .imm, 0⟩, ⟨7, 0, .wo, .imm, 0⟩], grp := none, crc := false },
  { name := "MSIO_EV_ALL", hdr := 0x400B0000, hstep := 0x0, base := 0x400B0144, dims := [],
    fields := [⟨31, 24, .ro, .imm, 0⟩, ⟨23, 0, .ro, .imm, 0⟩], grp := none, crc := false },
  { name := "MSIO_SO_CFG(j)", hdr := 0x400B0000, hstep := 0x0, base := 0x400B0180, dims := [(16, 0x4)],
    fields := [⟨31, 31, .rwt, .cmt, 0⟩, ⟨30, 30, .rwt, .cmt, 0⟩, ⟨29, 29, .rwt, .cmt, 0⟩, ⟨28, 28, .rwt, .cmt, 1⟩, ⟨27, 16, .rwt, .cmt, 50⟩, ⟨15, 10, .rwt, .imm, 0⟩, ⟨9, 0, .rwt, .cmt, 30⟩], grp := some 2, crc := true },
  { name := "MSIO_SO_CMD", hdr := 0x400B0000, hstep := 0x0, base := 0x400B01C0, dims := [],
    fields := [⟨15, 0, .mw, .imm, 0⟩], grp := none, crc := false },
  { name := "MSIO_SO_STAT", hdr := 0x400B0000, hstep := 0x0, base := 0x400B01C4, dims := [],
    fields := [⟨31, 16, .w1c, .imm, 0⟩, ⟨15, 0, .ro, .imm, 0⟩], grp := none, crc := false },
  { name := "MSIO_SO_RB", hdr := 0x400B0000, hstep := 0x0, base := 0x400B01C8, dims := [],
    fields := [⟨31, 16, .ro, .imm, 0⟩, ⟨15, 0, .ro, .imm, 0⟩], grp := none, crc := false },
  { name := "MSIO_SO_FCAUSE", hdr := 0x400B0000, hstep := 0x0, base := 0x400B01CC, dims := [],
    fields := [⟨31, 0, .ro, .imm, 0⟩], grp := none, crc := false }]

/-- Registers of the MSIO block, part 2. -/
def regsMsio2 : List RegSpec := [
  { name := "MSIO_SM_CFG(ch)", hdr := 0x400B0000, hstep := 0x0, base := 0x400B0200, dims := [(16, 0x20)],
    fields := [⟨31, 31, .rwt, .cmt, 0⟩, ⟨30, 30, .rwt, .cmt, 0⟩, ⟨29, 29, .rwt, .cmt, 0⟩, ⟨28, 28, .rwt, .cmt, 0⟩, ⟨27, 27, .rwt, .cmt, 0⟩, ⟨26, 24, .rwt, .cmt, 0⟩, ⟨23, 23, .rwt, .cmt, 0⟩, ⟨22, 20, .rwt, .cmt, 0⟩, ⟨19, 16, .rwt, .imm, 0⟩, ⟨15, 0, .rwt, .cmt, 65535⟩], grp := some 3, crc := true },
  { name := "MSIO_SM_IDA(ch)", hdr := 0x400B0000, hstep := 0x0, base := 0x400B0204, dims := [(16, 0x20)],
    fields := [⟨28, 0, .rwt, .cmt, 0⟩], grp := some 3, crc := true },
  { name := "MSIO_SM_IDB(ch)", hdr := 0x400B0000, hstep := 0x0, base := 0x400B0208, dims := [(16, 0x20)],
    fields := [⟨28, 0, .rwt, .cmt, 0⟩], grp := some 3, crc := true },
  { name := "MSIO_SM_TIM(ch)", hdr := 0x400B0000, hstep := 0x0, base := 0x400B020C, dims := [(16, 0x20)],
    fields := [⟨31, 16, .rwt, .cmt, 100⟩, ⟨15, 0, .rwt, .cmt, 10⟩], grp := some 3, crc := true },
  { name := "MSIO_SM_STAT(ch)", hdr := 0x400B0000, hstep := 0x0, base := 0x400B0210, dims := [(16, 0x20)],
    fields := [⟨31, 24, .ro, .imm, 0⟩, ⟨23, 16, .ro, .imm, 0⟩, ⟨15, 8, .ro, .imm, 0⟩, ⟨7, 4, .ro, .imm, 0⟩, ⟨3, 2, .ro, .imm, 0⟩, ⟨1, 0, .ro, .imm, 0⟩], grp := none, crc := false },
  { name := "MSIO_SM_CMD(ch)", hdr := 0x400B0000, hstep := 0x0, base := 0x400B0214, dims := [(16, 0x20)],
    fields := [⟨31, 1, .wo, .imm, 0⟩, ⟨0, 0, .wo, .imm, 0⟩], grp := none, crc := false },
  { name := "MSIO_SM_CNT(ch)", hdr := 0x400B0000, hstep := 0x0, base := 0x400B0218, dims := [(16, 0x20)],
    fields := [⟨31, 16, .ro, .imm, 0⟩, ⟨15, 0, .ro, .imm, 0⟩], grp := none, crc := false },
  { name := "MSIO_SM_BUF(ch)(w)", hdr := 0x400B0000, hstep := 0x0, base := 0x400B0400, dims := [(16, 0x40), (16, 0x4)],
    fields := [⟨31, 0, .rw, .bnd, 0⟩], grp := none, crc := false }]

/-- Registers of the MSIO block. -/
def regsMsio : List RegSpec := regsMsio0 ++ regsMsio1 ++ regsMsio2

/-- Registers of the PAIR block, part 0. -/
def regsPair0 : List RegSpec := [
  { name := "PAIR_ID", hdr := 0x400C0000, hstep := 0x0, base := 0x400C0000, dims := [],
    fields := [⟨31, 24, .ro, .imm, 13⟩, ⟨23, 16, .ro, .imm, 0⟩, ⟨15, 8, .ro, .imm, 3⟩, ⟨7, 0, .ro, .imm, 0⟩], grp := none, crc := false },
  { name := "PAIR_CAPS", hdr := 0x400C0000, hstep := 0x0, base := 0x400C0004, dims := [],
    fields := [⟨31, 16, .ro, .imm, 0⟩, ⟨15, 8, .ro, .imm, 1⟩, ⟨7, 4, .ro, .imm, 1⟩, ⟨3, 3, .ro, .imm, 1⟩, ⟨2, 2, .ro, .imm, 1⟩, ⟨1, 0, .ro, .imm, 0⟩], grp := none, crc := false },
  { name := "PAIR_CTRL", hdr := 0x400C0000, hstep := 0x0, base := 0x400C0008, dims := [],
    fields := [⟨15, 8, .mw, .imm, 0⟩, ⟨7, 4, .mw, .imm, 0⟩, ⟨3, 3, .mw, .imm, 0⟩, ⟨2, 2, .mw, .imm, 0⟩, ⟨1, 1, .mw, .imm, 0⟩, ⟨0, 0, .mw, .imm, 1⟩], grp := none, crc := false },
  { name := "PAIR_STAT", hdr := 0x400C0000, hstep := 0x0, base := 0x400C000C, dims := [],
    fields := [⟨31, 11, .ro, .imm, 0⟩, ⟨10, 10, .ro, .imm, 0⟩, ⟨9, 9, .ro, .imm, 0⟩, ⟨8, 8, .ro, .imm, 0⟩, ⟨7, 4, .ro, .imm, 0⟩, ⟨3, 3, .ro, .imm, 0⟩, ⟨2, 2, .ro, .imm, 0⟩, ⟨1, 1, .ro, .imm, 0⟩, ⟨0, 0, .ro, .imm, 0⟩], grp := none, crc := false },
  { name := "PAIR_IRQ_RAW", hdr := 0x400C0000, hstep := 0x0, base := 0x400C0010, dims := [],
    fields := [⟨15, 9, .w1c, .imm, 0⟩, ⟨8, 8, .w1c, .imm, 0⟩, ⟨7, 7, .w1c, .imm, 0⟩, ⟨6, 6, .w1c, .imm, 0⟩, ⟨5, 5, .w1c, .imm, 0⟩, ⟨4, 4, .w1c, .imm, 0⟩, ⟨3, 3, .w1c, .imm, 0⟩, ⟨2, 2, .w1c, .imm, 0⟩, ⟨1, 1, .w1c, .imm, 0⟩, ⟨0, 0, .w1c, .imm, 0⟩], grp := none, crc := false },
  { name := "PAIR_IRQ_EN", hdr := 0x400C0000, hstep := 0x0, base := 0x400C0014, dims := [],
    fields := [⟨15, 0, .mw, .imm, 0⟩], grp := none, crc := false },
  { name := "PAIR_IRQ_OUT", hdr := 0x400C0000, hstep := 0x0, base := 0x400C0018, dims := [],
    fields := [⟨31, 17, .ro, .imm, 0⟩, ⟨16, 16, .ro, .imm, 0⟩, ⟨15, 0, .ro, .imm, 0⟩], grp := none, crc := false },
  { name := "PAIR_ERR", hdr := 0x400C0000, hstep := 0x0, base := 0x400C001C, dims := [],
    fields := [⟨31, 21, .w1c, .imm, 0⟩, ⟨20, 20, .w1c, .imm, 0⟩, ⟨19, 19, .w1c, .imm, 0⟩, ⟨18, 18, .w1c, .imm, 0⟩, ⟨17, 17, .w1c, .imm, 0⟩, ⟨16, 16, .w1c, .imm, 0⟩, ⟨5, 5, .w1c, .imm, 0⟩, ⟨4, 4, .w1c, .imm, 0⟩, ⟨3, 3, .w1c, .imm, 0⟩, ⟨2, 2, .w1c, .imm, 0⟩, ⟨1, 1, .w1c, .imm, 0⟩, ⟨0, 0, .w1c, .imm, 0⟩], grp := none, crc := false },
  { name := "PAIR_COMMIT", hdr := 0x400C0000, hstep := 0x0, base := 0x400C0020, dims := [],
    fields := [⟨31, 10, .wo, .imm, 0⟩, ⟨9, 9, .wo, .imm, 0⟩, ⟨8, 8, .wo, .imm, 0⟩, ⟨7, 0, .wo, .imm, 0⟩], grp := none, crc := false },
  { name := "PAIR_GEN", hdr := 0x400C0000, hstep := 0x0, base := 0x400C0024, dims := [],
    fields := [⟨31, 16, .ro, .imm, 0⟩, ⟨15, 8, .ro, .imm, 0⟩, ⟨7, 0, .ro, .imm, 0⟩], grp := none, crc := false },
  { name := "PAIR_CRC_REF", hdr := 0x400C0000, hstep := 0x0, base := 0x400C0028, dims := [],
    fields := [⟨31, 0, .rw, .cmt, 0⟩], grp := none, crc := false },
  { name := "PAIR_CRC_NOW", hdr := 0x400C0000, hstep := 0x0, base := 0x400C002C, dims := [],
    fields := [⟨31, 0, .ro, .imm, 0⟩], grp := none, crc := false },
  { name := "PAIR_TMR_STAT", hdr := 0x400C0000, hstep := 0x0, base := 0x400C0030, dims := [],
    fields := [⟨31, 24, .ro, .imm, 0⟩, ⟨23, 16, .ro, .imm, 0⟩, ⟨15, 8, .ro, .imm, 0⟩, ⟨7, 0, .ro, .imm, 0⟩], grp := none, crc := false },
  { name := "PAIR_WARDEN", hdr := 0x400C0000, hstep := 0x0, base := 0x400C0034, dims := [],
    fields := [⟨31, 16, .ro, .imm, 0⟩, ⟨15, 2, .ro, .imm, 0⟩, ⟨1, 0, .ro, .imm, 0⟩], grp := none, crc := false },
  { name := "PAIR_TEST0", hdr := 0x400C0000, hstep := 0x0, base := 0x400C0038, dims := [],
    fields := [⟨31, 0, .rw, .imm, 0⟩], grp := none, crc := false },
  { name := "PAIR_TEST1", hdr := 0x400C0000, hstep := 0x0, base := 0x400C003C, dims := [],
    fields := [⟨31, 0, .rw, .imm, 0⟩], grp := none, crc := false }]

/-- Registers of the PAIR block, part 1. -/
def regsPair1 : List RegSpec := [
  { name := "PAIR_CFG", hdr := 0x400C0000, hstep := 0x0, base := 0x400C0040, dims := [],
    fields := [⟨31, 3, .rwt, .imm, 0⟩, ⟨2, 2, .rwt, .cmt, 0⟩, ⟨1, 1, .rwt, .cmt, 0⟩, ⟨0, 0, .rwt, .cmt, 0⟩], grp := some 0, crc := true },
  { name := "PAIR_TIMING", hdr := 0x400C0000, hstep := 0x0, base := 0x400C0044, dims := [],
    fields := [⟨31, 26, .rwt, .imm, 0⟩, ⟨25, 16, .rwt, .cmt, 10⟩, ⟨15, 7, .rwt, .imm, 0⟩, ⟨6, 0, .rwt, .cmt, 10⟩], grp := some 0, crc := true },
  { name := "PAIR_PORTS", hdr := 0x400C0000, hstep := 0x0, base := 0x400C0048, dims := [],
    fields := [⟨31, 0, .rw, .cmt, 0⟩], grp := none, crc := true },
  { name := "PAIR_CTX_EN(i)", hdr := 0x400C0000, hstep := 0x0, base := 0x400C004C, dims := [(4, 0x4)],
    fields := [⟨31, 0, .rw, .cmt, 0⟩], grp := none, crc := true },
  { name := "PAIR_TBG_EN", hdr := 0x400C0000, hstep := 0x0, base := 0x400C005C, dims := [],
    fields := [⟨31, 0, .rw, .cmt, 0⟩], grp := none, crc := true },
  { name := "PAIR_ASYM", hdr := 0x400C0000, hstep := 0x0, base := 0x400C0060, dims := [],
    fields := [⟨31, 16, .rw, .imm, 0⟩, ⟨15, 0, .rw, .cmt, 0⟩], grp := none, crc := true },
  { name := "PAIR_CMD", hdr := 0x400C0000, hstep := 0x0, base := 0x400C0064, dims := [],
    fields := [⟨31, 4, .wo, .imm, 0⟩, ⟨3, 0, .wo, .imm, 0⟩], grp := none, crc := false },
  { name := "PAIR_STATE", hdr := 0x400C0000, hstep := 0x0, base := 0x400C0068, dims := [],
    fields := [⟨31, 8, .ro, .imm, 0⟩, ⟨7, 7, .ro, .imm, 0⟩, ⟨6, 6, .ro, .imm, 0⟩, ⟨5, 4, .ro, .imm, 3⟩, ⟨3, 3, .ro, .imm, 0⟩, ⟨2, 0, .ro, .imm, 0⟩], grp := none, crc := false },
  { name := "PAIR_DELTA_LO", hdr := 0x400C0000, hstep := 0x0, base := 0x400C006C, dims := [],
    fields := [⟨31, 0, .ro, .imm, 0⟩], grp := none, crc := false },
  { name := "PAIR_DELTA_HI", hdr := 0x400C0000, hstep := 0x0, base := 0x400C0070, dims := [],
    fields := [⟨31, 0, .ro, .imm, 0⟩], grp := none, crc := false },
  { name := "PAIR_DELTA_FINE", hdr := 0x400C0000, hstep := 0x0, base := 0x400C0074, dims := [],
    fields := [⟨31, 5, .ro, .imm, 0⟩, ⟨4, 0, .ro, .imm, 0⟩], grp := none, crc := false },
  { name := "PAIR_OFS", hdr := 0x400C0000, hstep := 0x0, base := 0x400C0078, dims := [],
    fields := [⟨31, 16, .ro, .imm, 0⟩, ⟨15, 0, .ro, .imm, 0⟩], grp := none, crc := false },
  { name := "PAIR_LOAD", hdr := 0x400C0000, hstep := 0x0, base := 0x400C007C, dims := [],
    fields := [⟨31, 0, .ro, .imm, 0⟩], grp := none, crc := false },
  { name := "PAIR_TX_CNT", hdr := 0x400C0000, hstep := 0x0, base := 0x400C0080, dims := [],
    fields := [⟨31, 0, .ro, .imm, 0⟩], grp := none, crc := false },
  { name := "PAIR_RX_CNT", hdr := 0x400C0000, hstep := 0x0, base := 0x400C0084, dims := [],
    fields := [⟨31, 0, .ro, .imm, 0⟩], grp := none, crc := false },
  { name := "PAIR_REC_ERR", hdr := 0x400C0000, hstep := 0x0, base := 0x400C0088, dims := [],
    fields := [⟨31, 16, .ro, .imm, 0⟩, ⟨15, 0, .ro, .imm, 0⟩], grp := none, crc := false }]

/-- Registers of the PAIR block, part 2. -/
def regsPair2 : List RegSpec := [
  { name := "PAIR_DROP", hdr := 0x400C0000, hstep := 0x0, base := 0x400C008C, dims := [],
    fields := [⟨31, 0, .ro, .imm, 0⟩], grp := none, crc := false },
  { name := "PAIR_APPLIED", hdr := 0x400C0000, hstep := 0x0, base := 0x400C0090, dims := [],
    fields := [⟨31, 0, .ro, .imm, 0⟩], grp := none, crc := false },
  { name := "PAIR_DISCARD", hdr := 0x400C0000, hstep := 0x0, base := 0x400C0094, dims := [],
    fields := [⟨31, 0, .ro, .imm, 0⟩], grp := none, crc := false },
  { name := "PAIR_TKO_CNT", hdr := 0x400C0000, hstep := 0x0, base := 0x400C0098, dims := [],
    fields := [⟨31, 16, .ro, .imm, 0⟩, ⟨15, 0, .ro, .imm, 0⟩], grp := none, crc := false },
  { name := "PAIR_TKO_TIME", hdr := 0x400C0000, hstep := 0x0, base := 0x400C009C, dims := [],
    fields := [⟨31, 0, .ro, .imm, 0⟩], grp := none, crc := false },
  { name := "PAIR_TKO_GRANT", hdr := 0x400C0000, hstep := 0x0, base := 0x400C00A0, dims := [],
    fields := [⟨31, 0, .ro, .imm, 0⟩], grp := none, crc := false },
  { name := "PAIR_SPLIT", hdr := 0x400C0000, hstep := 0x0, base := 0x400C00A4, dims := [],
    fields := [⟨31, 0, .ro, .imm, 0⟩], grp := none, crc := false }]

/-- Registers of the PAIR block. -/
def regsPair : List RegSpec := regsPair0 ++ regsPair1 ++ regsPair2

/-- Registers of the REC block, part 0. -/
def regsRec0 : List RegSpec := [
  { name := "REC_ID", hdr := 0x400D0000, hstep := 0x0, base := 0x400D0000, dims := [],
    fields := [⟨31, 24, .ro, .imm, 14⟩, ⟨23, 16, .ro, .imm, 0⟩, ⟨15, 8, .ro, .imm, 3⟩, ⟨7, 0, .ro, .imm, 0⟩], grp := none, crc := false },
  { name := "REC_CAPS", hdr := 0x400D0000, hstep := 0x0, base := 0x400D0004, dims := [],
    fields := [⟨31, 16, .ro, .imm, 0⟩, ⟨15, 8, .ro, .imm, 1⟩, ⟨7, 4, .ro, .imm, 1⟩, ⟨3, 3, .ro, .imm, 1⟩, ⟨2, 2, .ro, .imm, 0⟩, ⟨1, 0, .ro, .imm, 0⟩], grp := none, crc := false },
  { name := "REC_CTRL", hdr := 0x400D0000, hstep := 0x0, base := 0x400D0008, dims := [],
    fields := [⟨15, 8, .mw, .imm, 0⟩, ⟨7, 4, .mw, .imm, 0⟩, ⟨3, 3, .mw, .imm, 0⟩, ⟨2, 2, .mw, .imm, 0⟩, ⟨1, 1, .mw, .imm, 0⟩, ⟨0, 0, .mw, .imm, 1⟩], grp := none, crc := false },
  { name := "REC_STAT", hdr := 0x400D0000, hstep := 0x0, base := 0x400D000C, dims := [],
    fields := [⟨31, 8, .ro, .imm, 0⟩, ⟨7, 4, .ro, .imm, 0⟩, ⟨3, 3, .ro, .imm, 0⟩, ⟨2, 2, .ro, .imm, 0⟩, ⟨1, 1, .ro, .imm, 0⟩, ⟨0, 0, .ro, .imm, 0⟩], grp := none, crc := false },
  { name := "REC_IRQ_RAW", hdr := 0x400D0000, hstep := 0x0, base := 0x400D0010, dims := [],
    fields := [⟨15, 6, .w1c, .imm, 0⟩, ⟨5, 5, .w1c, .imm, 0⟩, ⟨4, 4, .w1c, .imm, 0⟩, ⟨3, 3, .w1c, .imm, 0⟩, ⟨2, 2, .w1c, .imm, 0⟩, ⟨1, 1, .w1c, .imm, 0⟩, ⟨0, 0, .w1c, .imm, 0⟩], grp := none, crc := false },
  { name := "REC_IRQ_EN", hdr := 0x400D0000, hstep := 0x0, base := 0x400D0014, dims := [],
    fields := [⟨15, 0, .mw, .imm, 0⟩], grp := none, crc := false },
  { name := "REC_IRQ_OUT", hdr := 0x400D0000, hstep := 0x0, base := 0x400D0018, dims := [],
    fields := [⟨31, 17, .ro, .imm, 0⟩, ⟨16, 16, .ro, .imm, 0⟩, ⟨15, 0, .ro, .imm, 0⟩], grp := none, crc := false },
  { name := "REC_ERR", hdr := 0x400D0000, hstep := 0x0, base := 0x400D001C, dims := [],
    fields := [⟨31, 19, .w1c, .imm, 0⟩, ⟨18, 18, .w1c, .imm, 0⟩, ⟨17, 17, .w1c, .imm, 0⟩, ⟨16, 16, .w1c, .imm, 0⟩, ⟨5, 5, .w1c, .imm, 0⟩, ⟨4, 4, .w1c, .imm, 0⟩, ⟨3, 3, .w1c, .imm, 0⟩, ⟨2, 2, .w1c, .imm, 0⟩, ⟨1, 1, .w1c, .imm, 0⟩, ⟨0, 0, .w1c, .imm, 0⟩], grp := none, crc := false },
  { name := "REC_COMMIT", hdr := 0x400D0000, hstep := 0x0, base := 0x400D0020, dims := [],
    fields := [⟨31, 10, .wo, .imm, 0⟩, ⟨9, 9, .wo, .imm, 0⟩, ⟨8, 8, .wo, .imm, 0⟩, ⟨7, 0, .wo, .imm, 0⟩], grp := none, crc := false },
  { name := "REC_GEN", hdr := 0x400D0000, hstep := 0x0, base := 0x400D0024, dims := [],
    fields := [⟨31, 16, .ro, .imm, 0⟩, ⟨15, 8, .ro, .imm, 0⟩, ⟨7, 0, .ro, .imm, 0⟩], grp := none, crc := false },
  { name := "REC_CRC_REF", hdr := 0x400D0000, hstep := 0x0, base := 0x400D0028, dims := [],
    fields := [⟨31, 0, .rw, .imm, 0⟩], grp := none, crc := false },
  { name := "REC_CRC_NOW", hdr := 0x400D0000, hstep := 0x0, base := 0x400D002C, dims := [],
    fields := [⟨31, 0, .ro, .imm, 0⟩], grp := none, crc := false },
  { name := "REC_TMR_STAT", hdr := 0x400D0000, hstep := 0x0, base := 0x400D0030, dims := [],
    fields := [⟨31, 24, .ro, .imm, 0⟩, ⟨23, 16, .ro, .imm, 0⟩, ⟨15, 8, .ro, .imm, 0⟩, ⟨7, 0, .ro, .imm, 0⟩], grp := none, crc := false },
  { name := "REC_WARDEN", hdr := 0x400D0000, hstep := 0x0, base := 0x400D0034, dims := [],
    fields := [⟨31, 16, .ro, .imm, 0⟩, ⟨15, 2, .ro, .imm, 0⟩, ⟨1, 0, .ro, .imm, 0⟩], grp := none, crc := false },
  { name := "REC_TEST0", hdr := 0x400D0000, hstep := 0x0, base := 0x400D0038, dims := [],
    fields := [⟨31, 0, .rw, .imm, 0⟩], grp := none, crc := false },
  { name := "REC_TEST1", hdr := 0x400D0000, hstep := 0x0, base := 0x400D003C, dims := [],
    fields := [⟨31, 0, .rw, .imm, 0⟩], grp := none, crc := false }]

/-- Registers of the REC block, part 1. -/
def regsRec1 : List RegSpec := [
  { name := "REC_CFG", hdr := 0x400D0000, hstep := 0x0, base := 0x400D0040, dims := [],
    fields := [⟨31, 24, .rwt, .bnd, 0⟩, ⟨23, 16, .rwt, .imm, 0⟩, ⟨15, 8, .rwt, .bnd, 0⟩, ⟨7, 1, .rwt, .imm, 0⟩, ⟨0, 0, .rwt, .bnd, 0⟩], grp := some 0, crc := true },
  { name := "REC_CMD", hdr := 0x400D0000, hstep := 0x0, base := 0x400D0044, dims := [],
    fields := [⟨31, 2, .wo, .imm, 0⟩, ⟨1, 1, .wo, .imm, 0⟩, ⟨0, 0, .wo, .imm, 0⟩], grp := none, crc := false },
  { name := "REC_RSTAT", hdr := 0x400D0000, hstep := 0x0, base := 0x400D0048, dims := [],
    fields := [⟨31, 31, .ro, .imm, 0⟩, ⟨30, 30, .ro, .imm, 0⟩, ⟨29, 29, .ro, .imm, 1⟩, ⟨28, 9, .ro, .imm, 0⟩, ⟨8, 0, .ro, .imm, 0⟩], grp := none, crc := false },
  { name := "REC_SEQ", hdr := 0x400D0000, hstep := 0x0, base := 0x400D004C, dims := [],
    fields := [⟨31, 0, .ro, .imm, 0⟩], grp := none, crc := false },
  { name := "REC_EVT_IN", hdr := 0x400D0000, hstep := 0x0, base := 0x400D0050, dims := [],
    fields := [⟨31, 0, .ro, .imm, 0⟩], grp := none, crc := false },
  { name := "REC_WR_CNT", hdr := 0x400D0000, hstep := 0x0, base := 0x400D0054, dims := [],
    fields := [⟨31, 0, .ro, .imm, 0⟩], grp := none, crc := false },
  { name := "REC_DEF_FULL", hdr := 0x400D0000, hstep := 0x0, base := 0x400D0058, dims := [],
    fields := [⟨31, 0, .ro, .imm, 0⟩], grp := none, crc := false },
  { name := "REC_DEF_ABS", hdr := 0x400D0000, hstep := 0x0, base := 0x400D005C, dims := [],
    fields := [⟨31, 0, .ro, .imm, 0⟩], grp := none, crc := false },
  { name := "REC_SUM_CNT", hdr := 0x400D0000, hstep := 0x0, base := 0x400D0060, dims := [],
    fields := [⟨31, 0, .ro, .imm, 0⟩], grp := none, crc := false },
  { name := "REC_CUR_IDX", hdr := 0x400D0000, hstep := 0x0, base := 0x400D0064, dims := [],
    fields := [⟨31, 13, .rw, .imm, 0⟩, ⟨12, 0, .rw, .imm, 0⟩], grp := none, crc := false },
  { name := "REC_CUR_CMD", hdr := 0x400D0000, hstep := 0x0, base := 0x400D0068, dims := [],
    fields := [⟨31, 2, .wo, .imm, 0⟩, ⟨1, 1, .wo, .imm, 0⟩, ⟨0, 0, .wo, .imm, 0⟩], grp := none, crc := false },
  { name := "REC_CUR_STAT", hdr := 0x400D0000, hstep := 0x0, base := 0x400D006C, dims := [],
    fields := [⟨31, 2, .ro, .imm, 0⟩, ⟨1, 1, .ro, .imm, 0⟩, ⟨0, 0, .ro, .imm, 0⟩], grp := none, crc := false },
  { name := "REC_SW_CMD", hdr := 0x400D0000, hstep := 0x0, base := 0x400D0070, dims := [],
    fields := [⟨31, 8, .wo, .imm, 0⟩, ⟨7, 0, .wo, .imm, 0⟩], grp := none, crc := false },
  { name := "REC_SW_DATA(w)", hdr := 0x400D0000, hstep := 0x0, base := 0x400D0080, dims := [(10, 0x4)],
    fields := [⟨31, 0, .rw, .imm, 0⟩], grp := none, crc := false },
  { name := "REC_CUR_DATA(w)", hdr := 0x400D0000, hstep := 0x0, base := 0x400D00C0, dims := [(16, 0x4)],
    fields := [⟨31, 0, .ro, .imm, 0⟩], grp := none, crc := false }]

/-- Registers of the REC block. -/
def regsRec : List RegSpec := regsRec0 ++ regsRec1

/-- Registers of the BIST block, part 0. -/
def regsBist0 : List RegSpec := [
  { name := "BIST_ID", hdr := 0x400E0000, hstep := 0x0, base := 0x400E0000, dims := [],
    fields := [⟨31, 24, .ro, .imm, 15⟩, ⟨23, 16, .ro, .imm, 0⟩, ⟨15, 8, .ro, .imm, 3⟩, ⟨7, 0, .ro, .imm, 0⟩], grp := none, crc := false },
  { name := "BIST_CAPS", hdr := 0x400E0000, hstep := 0x0, base := 0x400E0004, dims := [],
    fields := [⟨31, 16, .ro, .imm, 0⟩, ⟨15, 8, .ro, .imm, 1⟩, ⟨7, 4, .ro, .imm, 0⟩, ⟨3, 3, .ro, .imm, 0⟩, ⟨2, 2, .ro, .imm, 0⟩, ⟨1, 0, .ro, .imm, 0⟩], grp := none, crc := false },
  { name := "BIST_CTRL", hdr := 0x400E0000, hstep := 0x0, base := 0x400E0008, dims := [],
    fields := [⟨15, 8, .mw, .imm, 0⟩, ⟨7, 4, .mw, .imm, 0⟩, ⟨3, 3, .mw, .imm, 0⟩, ⟨2, 2, .mw, .imm, 0⟩, ⟨1, 1, .mw, .imm, 0⟩, ⟨0, 0, .mw, .imm, 1⟩], grp := none, crc := false },
  { name := "BIST_STAT", hdr := 0x400E0000, hstep := 0x0, base := 0x400E000C, dims := [],
    fields := [⟨31, 8, .ro, .imm, 0⟩, ⟨7, 4, .ro, .imm, 0⟩, ⟨3, 3, .ro, .imm, 0⟩, ⟨2, 2, .ro, .imm, 0⟩, ⟨1, 1, .ro, .imm, 0⟩, ⟨0, 0, .ro, .imm, 0⟩], grp := none, crc := false },
  { name := "BIST_IRQ_RAW", hdr := 0x400E0000, hstep := 0x0, base := 0x400E0010, dims := [],
    fields := [⟨15, 7, .w1c, .imm, 0⟩, ⟨6, 6, .w1c, .imm, 0⟩, ⟨5, 5, .w1c, .imm, 0⟩, ⟨4, 4, .w1c, .imm, 0⟩, ⟨3, 3, .w1c, .imm, 0⟩, ⟨2, 2, .w1c, .imm, 0⟩, ⟨1, 1, .w1c, .imm, 0⟩, ⟨0, 0, .w1c, .imm, 0⟩], grp := none, crc := false },
  { name := "BIST_IRQ_EN", hdr := 0x400E0000, hstep := 0x0, base := 0x400E0014, dims := [],
    fields := [⟨15, 0, .mw, .imm, 0⟩], grp := none, crc := false },
  { name := "BIST_IRQ_OUT", hdr := 0x400E0000, hstep := 0x0, base := 0x400E0018, dims := [],
    fields := [⟨31, 17, .ro, .imm, 0⟩, ⟨16, 16, .ro, .imm, 0⟩, ⟨15, 0, .ro, .imm, 0⟩], grp := none, crc := false },
  { name := "BIST_ERR", hdr := 0x400E0000, hstep := 0x0, base := 0x400E001C, dims := [],
    fields := [⟨31, 18, .w1c, .imm, 0⟩, ⟨17, 17, .w1c, .imm, 0⟩, ⟨16, 16, .w1c, .imm, 0⟩, ⟨5, 5, .w1c, .imm, 0⟩, ⟨4, 4, .w1c, .imm, 0⟩, ⟨3, 3, .w1c, .imm, 0⟩, ⟨2, 2, .w1c, .imm, 0⟩, ⟨1, 1, .w1c, .imm, 0⟩, ⟨0, 0, .w1c, .imm, 0⟩], grp := none, crc := false },
  { name := "BIST_COMMIT", hdr := 0x400E0000, hstep := 0x0, base := 0x400E0020, dims := [],
    fields := [⟨31, 10, .wo, .imm, 0⟩, ⟨9, 9, .wo, .imm, 0⟩, ⟨8, 8, .wo, .imm, 0⟩, ⟨7, 0, .wo, .imm, 0⟩], grp := none, crc := false },
  { name := "BIST_GEN", hdr := 0x400E0000, hstep := 0x0, base := 0x400E0024, dims := [],
    fields := [⟨31, 16, .ro, .imm, 0⟩, ⟨15, 8, .ro, .imm, 0⟩, ⟨7, 0, .ro, .imm, 0⟩], grp := none, crc := false },
  { name := "BIST_CRC_REF", hdr := 0x400E0000, hstep := 0x0, base := 0x400E0028, dims := [],
    fields := [⟨31, 0, .rw, .imm, 0⟩], grp := none, crc := false },
  { name := "BIST_CRC_NOW", hdr := 0x400E0000, hstep := 0x0, base := 0x400E002C, dims := [],
    fields := [⟨31, 0, .ro, .imm, 0⟩], grp := none, crc := false },
  { name := "BIST_TMR_STAT", hdr := 0x400E0000, hstep := 0x0, base := 0x400E0030, dims := [],
    fields := [⟨31, 24, .ro, .imm, 0⟩, ⟨23, 16, .ro, .imm, 0⟩, ⟨15, 8, .ro, .imm, 0⟩, ⟨7, 0, .ro, .imm, 0⟩], grp := none, crc := false },
  { name := "BIST_WARDEN", hdr := 0x400E0000, hstep := 0x0, base := 0x400E0034, dims := [],
    fields := [⟨31, 16, .ro, .imm, 0⟩, ⟨15, 2, .ro, .imm, 0⟩, ⟨1, 0, .ro, .imm, 0⟩], grp := none, crc := false },
  { name := "BIST_TEST0", hdr := 0x400E0000, hstep := 0x0, base := 0x400E0038, dims := [],
    fields := [⟨31, 0, .rw, .imm, 0⟩], grp := none, crc := false },
  { name := "BIST_TEST1", hdr := 0x400E0000, hstep := 0x0, base := 0x400E003C, dims := [],
    fields := [⟨31, 0, .rw, .imm, 0⟩], grp := none, crc := false }]

/-- Registers of the BIST block, part 1. -/
def regsBist1 : List RegSpec := [
  { name := "BIST_CMD", hdr := 0x400E0000, hstep := 0x0, base := 0x400E0040, dims := [],
    fields := [⟨31, 16, .wo, .imm, 0⟩, ⟨15, 15, .wo, .imm, 0⟩, ⟨14, 11, .wo, .imm, 0⟩, ⟨10, 8, .wo, .imm, 0⟩, ⟨7, 5, .wo, .imm, 0⟩, ⟨4, 0, .wo, .imm, 0⟩], grp := none, crc := false },
  { name := "BIST_CFG", hdr := 0x400E0000, hstep := 0x0, base := 0x400E0044, dims := [],
    fields := [⟨31, 24, .rw, .imm, 0⟩, ⟨23, 16, .rw, .bnd, 10⟩, ⟨15, 0, .rw, .bnd, 1000⟩], grp := none, crc := false },
  { name := "BIST_QSTAT", hdr := 0x400E0000, hstep := 0x0, base := 0x400E0048, dims := [],
    fields := [⟨31, 16, .ro, .imm, 0⟩, ⟨15, 8, .ro, .imm, 0⟩, ⟨7, 4, .ro, .imm, 0⟩, ⟨3, 0, .ro, .imm, 0⟩], grp := none, crc := false },
  { name := "BIST_DONE_CNT", hdr := 0x400E0000, hstep := 0x0, base := 0x400E004C, dims := [],
    fields := [⟨31, 0, .ro, .imm, 0⟩], grp := none, crc := false },
  { name := "BIST_FAIL_CNT", hdr := 0x400E0000, hstep := 0x0, base := 0x400E0050, dims := [],
    fields := [⟨31, 0, .ro, .imm, 0⟩], grp := none, crc := false },
  { name := "BIST_HELD", hdr := 0x400E0000, hstep := 0x0, base := 0x400E0054, dims := [],
    fields := [⟨31, 0, .ro, .imm, 0⟩], grp := none, crc := false },
  { name := "BIST_RES(i)", hdr := 0x400E0000, hstep := 0x0, base := 0x400E0080, dims := [(17, 0x10)],
    fields := [⟨31, 28, .ro, .imm, 0⟩, ⟨27, 25, .ro, .imm, 0⟩, ⟨24, 24, .ro, .imm, 0⟩, ⟨23, 0, .ro, .imm, 0⟩], grp := none, crc := false },
  { name := "BIST_SIG(i)", hdr := 0x400E0000, hstep := 0x0, base := 0x400E0084, dims := [(17, 0x10)],
    fields := [⟨31, 0, .ro, .imm, 0⟩], grp := none, crc := false },
  { name := "BIST_REF(i)", hdr := 0x400E0000, hstep := 0x0, base := 0x400E0088, dims := [(17, 0x10)],
    fields := [⟨31, 0, .ro, .imm, 0⟩], grp := none, crc := false },
  { name := "BIST_FINFO(i)", hdr := 0x400E0000, hstep := 0x0, base := 0x400E008C, dims := [(17, 0x10)],
    fields := [⟨31, 0, .ro, .imm, 0⟩], grp := none, crc := false }]

/-- Registers of the BIST block. -/
def regsBist : List RegSpec := regsBist0 ++ regsBist1

/-- Registers of the SAGE block, part 0. -/
def regsSage0 : List RegSpec := [
  { name := "SAGE_ID", hdr := 0x400F0000, hstep := 0x0, base := 0x400F0000, dims := [],
    fields := [⟨31, 24, .ro, .imm, 16⟩, ⟨23, 16, .ro, .imm, 0⟩, ⟨15, 8, .ro, .imm, 3⟩, ⟨7, 0, .ro, .imm, 0⟩], grp := none, crc := false },
  { name := "SAGE_CAPS", hdr := 0x400F0000, hstep := 0x0, base := 0x400F0004, dims := [],
    fields := [⟨31, 16, .ro, .imm, 0⟩, ⟨15, 8, .ro, .imm, 4⟩, ⟨7, 4, .ro, .imm, 3⟩, ⟨3, 3, .ro, .imm, 1⟩, ⟨2, 2, .ro, .imm, 1⟩, ⟨1, 0, .ro, .imm, 0⟩], grp := none, crc := false },
  { name := "SAGE_CTRL", hdr := 0x400F0000, hstep := 0x0, base := 0x400F0008, dims := [],
    fields := [⟨15, 8, .mw, .imm, 0⟩, ⟨7, 4, .mw, .imm, 0⟩, ⟨3, 3, .mw, .imm, 0⟩, ⟨2, 2, .mw, .imm, 0⟩, ⟨1, 1, .mw, .imm, 0⟩, ⟨0, 0, .mw, .imm, 1⟩], grp := none, crc := false },
  { name := "SAGE_STAT", hdr := 0x400F0000, hstep := 0x0, base := 0x400F000C, dims := [],
    fields := [⟨31, 10, .ro, .imm, 0⟩, ⟨9, 9, .ro, .imm, 0⟩, ⟨8, 8, .ro, .imm, 0⟩, ⟨7, 4, .ro, .imm, 0⟩, ⟨3, 3, .ro, .imm, 0⟩, ⟨2, 2, .ro, .imm, 0⟩, ⟨1, 1, .ro, .imm, 0⟩, ⟨0, 0, .ro, .imm, 0⟩], grp := none, crc := false },
  { name := "SAGE_IRQ_RAW", hdr := 0x400F0000, hstep := 0x0, base := 0x400F0010, dims := [],
    fields := [⟨15, 8, .w1c, .imm, 0⟩, ⟨7, 7, .w1c, .imm, 0⟩, ⟨6, 6, .w1c, .imm, 0⟩, ⟨5, 5, .w1c, .imm, 0⟩, ⟨4, 4, .w1c, .imm, 0⟩, ⟨3, 3, .w1c, .imm, 0⟩, ⟨2, 2, .w1c, .imm, 0⟩, ⟨1, 1, .w1c, .imm, 0⟩, ⟨0, 0, .w1c, .imm, 0⟩], grp := none, crc := false },
  { name := "SAGE_IRQ_EN", hdr := 0x400F0000, hstep := 0x0, base := 0x400F0014, dims := [],
    fields := [⟨15, 0, .mw, .imm, 0⟩], grp := none, crc := false },
  { name := "SAGE_IRQ_OUT", hdr := 0x400F0000, hstep := 0x0, base := 0x400F0018, dims := [],
    fields := [⟨31, 17, .ro, .imm, 0⟩, ⟨16, 16, .ro, .imm, 0⟩, ⟨15, 0, .ro, .imm, 0⟩], grp := none, crc := false },
  { name := "SAGE_ERR", hdr := 0x400F0000, hstep := 0x0, base := 0x400F001C, dims := [],
    fields := [⟨31, 19, .w1c, .imm, 0⟩, ⟨18, 18, .w1c, .imm, 0⟩, ⟨17, 17, .w1c, .imm, 0⟩, ⟨16, 16, .w1c, .imm, 0⟩, ⟨5, 5, .w1c, .imm, 0⟩, ⟨4, 4, .w1c, .imm, 0⟩, ⟨3, 3, .w1c, .imm, 0⟩, ⟨2, 2, .w1c, .imm, 0⟩, ⟨1, 1, .w1c, .imm, 0⟩, ⟨0, 0, .w1c, .imm, 0⟩], grp := none, crc := false },
  { name := "SAGE_COMMIT", hdr := 0x400F0000, hstep := 0x0, base := 0x400F0020, dims := [],
    fields := [⟨31, 10, .wo, .imm, 0⟩, ⟨9, 9, .wo, .imm, 0⟩, ⟨8, 8, .wo, .imm, 0⟩, ⟨7, 0, .wo, .imm, 0⟩], grp := none, crc := false },
  { name := "SAGE_GEN", hdr := 0x400F0000, hstep := 0x0, base := 0x400F0024, dims := [],
    fields := [⟨31, 16, .ro, .imm, 0⟩, ⟨15, 8, .ro, .imm, 0⟩, ⟨7, 0, .ro, .imm, 0⟩], grp := none, crc := false },
  { name := "SAGE_CRC_REF", hdr := 0x400F0000, hstep := 0x0, base := 0x400F0028, dims := [],
    fields := [⟨31, 0, .rw, .cmt, 0⟩], grp := none, crc := false },
  { name := "SAGE_CRC_NOW", hdr := 0x400F0000, hstep := 0x0, base := 0x400F002C, dims := [],
    fields := [⟨31, 0, .ro, .imm, 0⟩], grp := none, crc := false },
  { name := "SAGE_TMR_STAT", hdr := 0x400F0000, hstep := 0x0, base := 0x400F0030, dims := [],
    fields := [⟨31, 24, .ro, .imm, 0⟩, ⟨23, 16, .ro, .imm, 0⟩, ⟨15, 8, .ro, .imm, 0⟩, ⟨7, 0, .ro, .imm, 0⟩], grp := none, crc := false },
  { name := "SAGE_WARDEN", hdr := 0x400F0000, hstep := 0x0, base := 0x400F0034, dims := [],
    fields := [⟨31, 16, .ro, .imm, 0⟩, ⟨15, 2, .ro, .imm, 0⟩, ⟨1, 0, .ro, .imm, 0⟩], grp := none, crc := false },
  { name := "SAGE_TEST0", hdr := 0x400F0000, hstep := 0x0, base := 0x400F0038, dims := [],
    fields := [⟨31, 0, .rw, .imm, 0⟩], grp := none, crc := false },
  { name := "SAGE_TEST1", hdr := 0x400F0000, hstep := 0x0, base := 0x400F003C, dims := [],
    fields := [⟨31, 0, .rw, .imm, 0⟩], grp := none, crc := false }]

/-- Registers of the SAGE block, part 1. -/
def regsSage1 : List RegSpec := [
  { name := "SAGE_HEALTH", hdr := 0x400F0000, hstep := 0x0, base := 0x400F0040, dims := [],
    fields := [⟨31, 16, .ro, .imm, 0⟩, ⟨15, 8, .ro, .imm, 0⟩, ⟨7, 7, .ro, .imm, 0⟩, ⟨6, 6, .ro, .imm, 0⟩, ⟨5, 5, .ro, .imm, 0⟩, ⟨4, 4, .ro, .imm, 1⟩, ⟨3, 3, .ro, .imm, 1⟩, ⟨2, 2, .ro, .imm, 0⟩, ⟨1, 1, .ro, .imm, 0⟩, ⟨0, 0, .ro, .imm, 0⟩], grp := none, crc := false },
  { name := "SAGE_NS_CMD", hdr := 0x400F0000, hstep := 0x0, base := 0x400F0044, dims := [],
    fields := [⟨31, 2, .wo, .imm, 0⟩, ⟨1, 1, .wo, .imm, 0⟩, ⟨0, 0, .wo, .imm, 0⟩], grp := none, crc := false },
  { name := "SAGE_MG_SEL", hdr := 0x400F0000, hstep := 0x0, base := 0x400F0048, dims := [],
    fields := [⟨31, 0, .rw, .imm, 0⟩], grp := none, crc := false },
  { name := "SAGE_MG_CMD", hdr := 0x400F0000, hstep := 0x0, base := 0x400F004C, dims := [],
    fields := [⟨31, 4, .wo, .imm, 0⟩, ⟨3, 0, .wo, .imm, 0⟩], grp := none, crc := false },
  { name := "SAGE_MG_HOLD", hdr := 0x400F0000, hstep := 0x0, base := 0x400F0050, dims := [],
    fields := [⟨31, 0, .ro, .imm, 0⟩], grp := none, crc := false },
  { name := "SAGE_PIN_CMD", hdr := 0x400F0000, hstep := 0x0, base := 0x400F0054, dims := [],
    fields := [⟨31, 8, .wo, .imm, 0⟩, ⟨7, 4, .wo, .imm, 0⟩, ⟨3, 0, .wo, .imm, 0⟩], grp := none, crc := false },
  { name := "SAGE_PIN_STAT", hdr := 0x400F0000, hstep := 0x0, base := 0x400F0058, dims := [],
    fields := [⟨31, 8, .ro, .imm, 0⟩, ⟨7, 4, .ro, .imm, 0⟩, ⟨3, 0, .ro, .imm, 15⟩], grp := none, crc := false },
  { name := "SAGE_WDG_CFG", hdr := 0x400F0000, hstep := 0x0, base := 0x400F005C, dims := [],
    fields := [⟨31, 16, .rwt, .imm, 1000⟩, ⟨15, 0, .rwt, .imm, 0⟩], grp := some 0, crc := true },
  { name := "SAGE_WDG_SVC", hdr := 0x400F0000, hstep := 0x0, base := 0x400F0060, dims := [],
    fields := [⟨31, 8, .wo, .imm, 0⟩, ⟨7, 0, .wo, .imm, 0⟩], grp := none, crc := false },
  { name := "SAGE_WDG_STAT", hdr := 0x400F0000, hstep := 0x0, base := 0x400F0064, dims := [],
    fields := [⟨31, 16, .ro, .imm, 0⟩, ⟨15, 2, .ro, .imm, 0⟩, ⟨1, 1, .ro, .imm, 0⟩, ⟨0, 0, .ro, .imm, 0⟩], grp := none, crc := false },
  { name := "SAGE_CLK_STAT", hdr := 0x400F0000, hstep := 0x0, base := 0x400F0068, dims := [],
    fields := [⟨31, 16, .ro, .imm, 0⟩, ⟨15, 0, .ro, .imm, 0⟩], grp := none, crc := false },
  { name := "SAGE_LS_CFG", hdr := 0x400F0000, hstep := 0x0, base := 0x400F006C, dims := [],
    fields := [⟨31, 1, .rwt, .imm, 0⟩, ⟨0, 0, .rwt, .imm, 0⟩], grp := none, crc := true },
  { name := "SAGE_LS_STAT", hdr := 0x400F0000, hstep := 0x0, base := 0x400F0070, dims := [],
    fields := [⟨31, 24, .ro, .imm, 0⟩, ⟨23, 1, .ro, .imm, 0⟩, ⟨0, 0, .ro, .imm, 0⟩], grp := none, crc := false },
  { name := "SAGE_LS_INJ", hdr := 0x400F0000, hstep := 0x0, base := 0x400F0074, dims := [],
    fields := [⟨31, 1, .wo, .imm, 0⟩, ⟨0, 0, .wo, .imm, 0⟩], grp := none, crc := false },
  { name := "SAGE_EVT_PEND(i)", hdr := 0x400F0000, hstep := 0x0, base := 0x400F0078, dims := [(2, 0x4)],
    fields := [⟨31, 0, .ro, .imm, 0⟩], grp := none, crc := false },
  { name := "SAGE_LAST_EVT", hdr := 0x400F0000, hstep := 0x0, base := 0x400F0080, dims := [],
    fields := [⟨31, 22, .ro, .imm, 0⟩, ⟨21, 16, .ro, .imm, 0⟩, ⟨15, 13, .ro, .imm, 0⟩, ⟨12, 8, .ro, .imm, 0⟩, ⟨7, 7, .ro, .imm, 0⟩, ⟨6, 6, .ro, .imm, 0⟩, ⟨5, 0, .ro, .imm, 0⟩], grp := none, crc := false }]

/-- Registers of the SAGE block, part 2. -/
def regsSage2 : List RegSpec := [
  { name := "SAGE_LAST_TIME", hdr := 0x400F0000, hstep := 0x0, base := 0x400F0084, dims := [],
    fields := [⟨31, 0, .ro, .imm, 0⟩], grp := none, crc := false },
  { name := "SAGE_LIV_VIOL(i)", hdr := 0x400F0000, hstep := 0x0, base := 0x400F0088, dims := [(4, 0x4)],
    fields := [⟨31, 0, .ro, .imm, 0⟩], grp := none, crc := false },
  { name := "SAGE_EVT_CFG(e)", hdr := 0x400F0000, hstep := 0x0, base := 0x400F1000, dims := [(64, 0x8)],
    fields := [⟨31, 16, .rwt, .imm, 0⟩, ⟨15, 14, .rwt, .cmt, 0⟩, ⟨13, 12, .rwt, .cmt, 0⟩, ⟨11, 8, .rwt, .cmt, 0⟩, ⟨7, 7, .rwt, .cmt, 0⟩, ⟨6, 6, .rwt, .cmt, 0⟩, ⟨5, 5, .rwt, .cmt, 0⟩, ⟨4, 4, .rwt, .cmt, 0⟩, ⟨3, 0, .rwt, .imm, 0⟩], grp := some 0, crc := true },
  { name := "SAGE_EVT_MGM(e)", hdr := 0x400F0000, hstep := 0x0, base := 0x400F1004, dims := [(64, 0x8)],
    fields := [⟨31, 0, .rwt, .cmt, 4294967295⟩], grp := some 0, crc := true },
  { name := "SAGE_EVT_CNT(e)", hdr := 0x400F0000, hstep := 0x0, base := 0x400F1200, dims := [(64, 0x4)],
    fields := [⟨31, 0, .ro, .imm, 0⟩], grp := none, crc := false },
  { name := "SAGE_LIV_T(j)", hdr := 0x400F0000, hstep := 0x0, base := 0x400F1400, dims := [(64, 0x4)],
    fields := [⟨31, 16, .rwt, .cmt, 0⟩, ⟨15, 0, .rwt, .cmt, 0⟩], grp := some 2, crc := true },
  { name := "SAGE_TM_CFG(m)", hdr := 0x400F0000, hstep := 0x0, base := 0x400F2000, dims := [(32, 0x80)],
    fields := [⟨31, 31, .rwt, .cmt, 0⟩, ⟨30, 29, .rwt, .cmt, 0⟩, ⟨28, 28, .rwt, .cmt, 0⟩, ⟨27, 23, .rwt, .cmt, 0⟩, ⟨22, 16, .rwt, .cmt, 0⟩, ⟨15, 14, .rwt, .cmt, 0⟩, ⟨13, 7, .rwt, .cmt, 0⟩, ⟨6, 6, .rwt, .imm, 0⟩, ⟨5, 0, .rwt, .cmt, 1⟩], grp := some 1, crc := true },
  { name := "SAGE_TM_PSI(m)", hdr := 0x400F0000, hstep := 0x0, base := 0x400F2004, dims := [(32, 0x80)],
    fields := [⟨31, 0, .rwt, .cmt, 0⟩], grp := some 1, crc := true },
  { name := "SAGE_TM_LD(m)", hdr := 0x400F0000, hstep := 0x0, base := 0x400F2008, dims := [(32, 0x80)],
    fields := [⟨31, 0, .rwt, .cmt, 0⟩], grp := some 1, crc := true },
  { name := "SAGE_TM_LQ(m)", hdr := 0x400F0000, hstep := 0x0, base := 0x400F200C, dims := [(32, 0x80)],
    fields := [⟨31, 0, .rwt, .cmt, 0⟩], grp := some 1, crc := true },
  { name := "SAGE_TM_ISCL(m)", hdr := 0x400F0000, hstep := 0x0, base := 0x400F2010, dims := [(32, 0x80)],
    fields := [⟨31, 0, .rwt, .cmt, 0⟩], grp := some 1, crc := true },
  { name := "SAGE_TM_PSCL(m)", hdr := 0x400F0000, hstep := 0x0, base := 0x400F2014, dims := [(32, 0x80)],
    fields := [⟨31, 0, .rwt, .cmt, 0⟩], grp := some 1, crc := true },
  { name := "SAGE_TM_AOFS(m)", hdr := 0x400F0000, hstep := 0x0, base := 0x400F2018, dims := [(32, 0x80)],
    fields := [⟨31, 0, .rwt, .cmt, 0⟩], grp := some 1, crc := true },
  { name := "SAGE_TM_PHI(m)(x+1)", hdr := 0x400F0000, hstep := 0x0, base := 0x400F201C, dims := [(32, 0x80), (3, 0x4)],
    fields := [⟨31, 0, .rwt, .cmt, 0⟩], grp := some 1, crc := true },
  { name := "SAGE_TM_TOLA(m)", hdr := 0x400F0000, hstep := 0x0, base := 0x400F2028, dims := [(32, 0x80)],
    fields := [⟨31, 0, .rwt, .cmt, 0⟩], grp := some 1, crc := true },
  { name := "SAGE_TM_TOLR(m)", hdr := 0x400F0000, hstep := 0x0, base := 0x400F202C, dims := [(32, 0x80)],
    fields := [⟨31, 0, .rwt, .cmt, 0⟩], grp := some 1, crc := true }]

/-- Registers of the SAGE block, part 3. -/
def regsSage3 : List RegSpec := [
  { name := "SAGE_TM_TABS(m)", hdr := 0x400F0000, hstep := 0x0, base := 0x400F2030, dims := [(32, 0x80)],
    fields := [⟨31, 0, .rwt, .cmt, 0⟩], grp := some 1, crc := true },
  { name := "SAGE_TM_SUMTOL(m)", hdr := 0x400F0000, hstep := 0x0, base := 0x400F2034, dims := [(32, 0x80)],
    fields := [⟨31, 0, .rwt, .cmt, 0⟩], grp := some 1, crc := true },
  { name := "SAGE_TM_TIM(m)", hdr := 0x400F0000, hstep := 0x0, base := 0x400F2038, dims := [(32, 0x80)],
    fields := [⟨31, 24, .rwt, .cmt, 0⟩, ⟨23, 16, .rwt, .cmt, 0⟩, ⟨15, 8, .rwt, .cmt, 0⟩, ⟨7, 0, .rwt, .cmt, 0⟩], grp := some 1, crc := true },
  { name := "SAGE_TM_STAT(m)", hdr := 0x400F0000, hstep := 0x0, base := 0x400F203C, dims := [(32, 0x80)],
    fields := [⟨31, 13, .ro, .imm, 0⟩, ⟨12, 8, .ro, .imm, 0⟩, ⟨7, 7, .ro, .imm, 0⟩, ⟨6, 6, .ro, .imm, 0⟩, ⟨5, 5, .ro, .imm, 0⟩, ⟨4, 4, .ro, .imm, 0⟩, ⟨3, 0, .ro, .imm, 0⟩], grp := none, crc := false },
  { name := "SAGE_TM_TMON(m)", hdr := 0x400F0000, hstep := 0x0, base := 0x400F2040, dims := [(32, 0x80)],
    fields := [⟨31, 0, .ro, .imm, 0⟩], grp := none, crc := false },
  { name := "SAGE_TM_EREQ(m)", hdr := 0x400F0000, hstep := 0x0, base := 0x400F2044, dims := [(32, 0x80)],
    fields := [⟨31, 0, .ro, .imm, 0⟩], grp := none, crc := false },
  { name := "SAGE_TM_TMR(m)", hdr := 0x400F0000, hstep := 0x0, base := 0x400F2048, dims := [(32, 0x80)],
    fields := [⟨31, 16, .ro, .imm, 0⟩, ⟨15, 0, .ro, .imm, 0⟩], grp := none, crc := false },
  { name := "SAGE_TM_EVAL(m)", hdr := 0x400F0000, hstep := 0x0, base := 0x400F204C, dims := [(32, 0x80)],
    fields := [⟨31, 0, .ro, .imm, 0⟩], grp := none, crc := false },
  { name := "SAGE_DIS_CFG(m)", hdr := 0x400F0000, hstep := 0x0, base := 0x400F3000, dims := [(32, 0x20)],
    fields := [⟨31, 31, .rwt, .cmt, 0⟩, ⟨30, 30, .rwt, .cmt, 0⟩, ⟨29, 29, .rwt, .cmt, 0⟩, ⟨28, 22, .rwt, .cmt, 0⟩, ⟨21, 16, .rwt, .imm, 0⟩, ⟨15, 8, .rwt, .cmt, 1⟩, ⟨7, 0, .rwt, .imm, 0⟩], grp := some 2, crc := true },
  { name := "SAGE_DIS_LIM(m)", hdr := 0x400F0000, hstep := 0x0, base := 0x400F3004, dims := [(32, 0x20)],
    fields := [⟨31, 16, .rwt, .cmt, 60⟩, ⟨15, 0, .rwt, .cmt, 200⟩], grp := some 2, crc := true },
  { name := "SAGE_DIS_SRC(m)", hdr := 0x400F0000, hstep := 0x0, base := 0x400F3008, dims := [(32, 0x20)],
    fields := [⟨31, 7, .rwt, .imm, 0⟩, ⟨6, 2, .rwt, .cmt, 0⟩, ⟨1, 0, .rwt, .cmt, 0⟩], grp := some 2, crc := true },
  { name := "SAGE_DIS_VSCL(m)", hdr := 0x400F0000, hstep := 0x0, base := 0x400F300C, dims := [(32, 0x20)],
    fields := [⟨31, 0, .rwt, .cmt, 0⟩], grp := some 2, crc := true },
  { name := "SAGE_DIS_STAT(m)", hdr := 0x400F0000, hstep := 0x0, base := 0x400F3010, dims := [(32, 0x20)],
    fields := [⟨31, 16, .ro, .imm, 0⟩, ⟨15, 3, .ro, .imm, 0⟩, ⟨2, 0, .ro, .imm, 0⟩], grp := none, crc := false },
  { name := "SAGE_DIS_TIME(m)", hdr := 0x400F0000, hstep := 0x0, base := 0x400F3014, dims := [(32, 0x20)],
    fields := [⟨31, 0, .ro, .imm, 0⟩], grp := none, crc := false },
  { name := "SAGE_DIS_CNT(m)", hdr := 0x400F0000, hstep := 0x0, base := 0x400F3018, dims := [(32, 0x20)],
    fields := [⟨31, 16, .ro, .imm, 0⟩, ⟨15, 0, .ro, .imm, 0⟩], grp := none, crc := false }]

/-- Registers of the SAGE block. -/
def regsSage : List RegSpec := regsSage0 ++ regsSage1 ++ regsSage2 ++ regsSage3

/-- Registers of the APC block, part 0. -/
def regsApc0 : List RegSpec := [
  { name := "APC_ID", hdr := 0x40100000, hstep := 0x0, base := 0x40100000, dims := [],
    fields := [⟨31, 24, .ro, .imm, 17⟩, ⟨23, 16, .ro, .imm, 0⟩, ⟨15, 8, .ro, .imm, 3⟩, ⟨7, 0, .ro, .imm, 0⟩], grp := none, crc := false },
  { name := "APC_CAPS", hdr := 0x40100000, hstep := 0x0, base := 0x40100004, dims := [],
    fields := [⟨31, 16, .ro, .imm, 0⟩, ⟨15, 8, .ro, .imm, 1⟩, ⟨7, 4, .ro, .imm, 1⟩, ⟨3, 3, .ro, .imm, 0⟩, ⟨2, 2, .ro, .imm, 0⟩, ⟨1, 0, .ro, .imm, 0⟩], grp := none, crc := false },
  { name := "APC_CTRL", hdr := 0x40100000, hstep := 0x0, base := 0x40100008, dims := [],
    fields := [⟨15, 8, .mw, .imm, 0⟩, ⟨7, 4, .mw, .imm, 0⟩, ⟨3, 3, .mw, .imm, 0⟩, ⟨2, 2, .mw, .imm, 0⟩, ⟨1, 1, .mw, .imm, 0⟩, ⟨0, 0, .mw, .imm, 1⟩], grp := none, crc := false },
  { name := "APC_STAT", hdr := 0x40100000, hstep := 0x0, base := 0x4010000C, dims := [],
    fields := [⟨7, 4, .ro, .imm, 0⟩, ⟨3, 3, .ro, .imm, 0⟩, ⟨2, 2, .ro, .imm, 0⟩, ⟨1, 1, .ro, .imm, 0⟩, ⟨0, 0, .ro, .imm, 0⟩], grp := none, crc := false },
  { name := "APC_IRQ_RAW", hdr := 0x40100000, hstep := 0x0, base := 0x40100010, dims := [],
    fields := [⟨3, 3, .w1c, .imm, 0⟩, ⟨2, 2, .w1c, .imm, 0⟩, ⟨1, 1, .w1c, .imm, 0⟩, ⟨0, 0, .w1c, .imm, 0⟩], grp := none, crc := false },
  { name := "APC_IRQ_EN", hdr := 0x40100000, hstep := 0x0, base := 0x40100014, dims := [],
    fields := [⟨15, 0, .mw, .imm, 0⟩], grp := none, crc := false },
  { name := "APC_IRQ_OUT", hdr := 0x40100000, hstep := 0x0, base := 0x40100018, dims := [],
    fields := [⟨31, 17, .ro, .imm, 0⟩, ⟨16, 16, .ro, .imm, 0⟩, ⟨15, 0, .ro, .imm, 0⟩], grp := none, crc := false },
  { name := "APC_ERR", hdr := 0x40100000, hstep := 0x0, base := 0x4010001C, dims := [],
    fields := [⟨5, 5, .w1c, .imm, 0⟩, ⟨4, 4, .w1c, .imm, 0⟩, ⟨3, 3, .w1c, .imm, 0⟩, ⟨2, 2, .w1c, .imm, 0⟩, ⟨1, 1, .w1c, .imm, 0⟩, ⟨0, 0, .w1c, .imm, 0⟩], grp := none, crc := false },
  { name := "APC_COMMIT", hdr := 0x40100000, hstep := 0x0, base := 0x40100020, dims := [],
    fields := [⟨31, 10, .wo, .imm, 0⟩, ⟨9, 9, .wo, .imm, 0⟩, ⟨8, 8, .wo, .imm, 0⟩, ⟨7, 0, .wo, .imm, 0⟩], grp := none, crc := false },
  { name := "APC_GEN", hdr := 0x40100000, hstep := 0x0, base := 0x40100024, dims := [],
    fields := [⟨31, 16, .ro, .imm, 0⟩, ⟨15, 8, .ro, .imm, 0⟩, ⟨7, 0, .ro, .imm, 0⟩], grp := none, crc := false },
  { name := "APC_CRC_REF", hdr := 0x40100000, hstep := 0x0, base := 0x40100028, dims := [],
    fields := [⟨31, 0, .rw, .imm, 0⟩], grp := none, crc := false },
  { name := "APC_CRC_NOW", hdr := 0x40100000, hstep := 0x0, base := 0x4010002C, dims := [],
    fields := [⟨31, 0, .ro, .imm, 0⟩], grp := none, crc := false },
  { name := "APC_TMR_STAT", hdr := 0x40100000, hstep := 0x0, base := 0x40100030, dims := [],
    fields := [⟨31, 24, .ro, .imm, 0⟩, ⟨23, 16, .ro, .imm, 0⟩, ⟨15, 8, .ro, .imm, 0⟩, ⟨7, 0, .ro, .imm, 0⟩], grp := none, crc := false },
  { name := "APC_WARDEN", hdr := 0x40100000, hstep := 0x0, base := 0x40100034, dims := [],
    fields := [⟨31, 16, .ro, .imm, 0⟩, ⟨15, 2, .ro, .imm, 0⟩, ⟨1, 0, .ro, .imm, 0⟩], grp := none, crc := false },
  { name := "APC_TEST0", hdr := 0x40100000, hstep := 0x0, base := 0x40100038, dims := [],
    fields := [⟨31, 0, .rw, .imm, 0⟩], grp := none, crc := false },
  { name := "APC_TEST1", hdr := 0x40100000, hstep := 0x0, base := 0x4010003C, dims := [],
    fields := [⟨31, 0, .rw, .imm, 0⟩], grp := none, crc := false }]

/-- Registers of the APC block, part 1. -/
def regsApc1 : List RegSpec := [
  { name := "APC_P0_IE(i)", hdr := 0x40100000, hstep := 0x0, base := 0x40100040, dims := [(8, 0x4)],
    fields := [⟨31, 0, .rw, .imm, 0⟩], grp := none, crc := false },
  { name := "APC_P1_IE(i)", hdr := 0x40100000, hstep := 0x0, base := 0x40100060, dims := [(8, 0x4)],
    fields := [⟨31, 0, .rw, .imm, 0⟩], grp := none, crc := false },
  { name := "APC_IP(i)", hdr := 0x40100000, hstep := 0x0, base := 0x40100080, dims := [(8, 0x4)],
    fields := [⟨31, 0, .ro, .imm, 0⟩], grp := none, crc := false },
  { name := "APC_P0_NEXT", hdr := 0x40100000, hstep := 0x0, base := 0x401000A0, dims := [],
    fields := [⟨31, 9, .ro, .imm, 0⟩, ⟨8, 0, .ro, .imm, 256⟩], grp := none, crc := false },
  { name := "APC_P1_NEXT", hdr := 0x40100000, hstep := 0x0, base := 0x401000A4, dims := [],
    fields := [⟨31, 9, .ro, .imm, 0⟩, ⟨8, 0, .ro, .imm, 256⟩], grp := none, crc := false },
  { name := "APC_SWI", hdr := 0x40100000, hstep := 0x0, base := 0x401000A8, dims := [],
    fields := [⟨15, 0, .mw, .imm, 0⟩], grp := none, crc := false },
  { name := "APC_LS_CFG", hdr := 0x40100000, hstep := 0x0, base := 0x40100100, dims := [],
    fields := [⟨15, 2, .mw, .imm, 0⟩, ⟨1, 1, .mw, .imm, 0⟩, ⟨0, 0, .mw, .imm, 0⟩], grp := none, crc := false },
  { name := "APC_LS_STAT(i)", hdr := 0x40100000, hstep := 0x0, base := 0x40100104, dims := [(2, 0x4)],
    fields := [⟨31, 24, .ro, .imm, 0⟩, ⟨23, 16, .ro, .imm, 0⟩, ⟨15, 8, .ro, .imm, 0⟩, ⟨7, 4, .ro, .imm, 0⟩, ⟨3, 3, .ro, .imm, 0⟩, ⟨2, 2, .ro, .imm, 0⟩, ⟨1, 1, .ro, .imm, 0⟩, ⟨0, 0, .ro, .imm, 0⟩], grp := none, crc := false },
  { name := "APC_LS_INJ", hdr := 0x40100000, hstep := 0x0, base := 0x4010010C, dims := [],
    fields := [⟨31, 2, .wo, .imm, 0⟩, ⟨1, 1, .wo, .imm, 0⟩, ⟨0, 0, .wo, .imm, 0⟩], grp := none, crc := false },
  { name := "APC_WDG_CFG(i)", hdr := 0x40100000, hstep := 0x0, base := 0x40100110, dims := [(2, 0x4)],
    fields := [⟨31, 16, .rwt, .imm, 0⟩, ⟨15, 0, .rwt, .imm, 0⟩], grp := some 0, crc := false },
  { name := "APC_WDG_SVC(i)", hdr := 0x40100000, hstep := 0x0, base := 0x40100118, dims := [(2, 0x4)],
    fields := [⟨7, 0, .wo, .imm, 0⟩], grp := none, crc := false },
  { name := "APC_WDG_STAT(i)", hdr := 0x40100000, hstep := 0x0, base := 0x40100120, dims := [(2, 0x4)],
    fields := [⟨31, 16, .ro, .imm, 0⟩, ⟨15, 3, .ro, .imm, 0⟩, ⟨2, 2, .ro, .imm, 0⟩, ⟨1, 1, .ro, .imm, 0⟩, ⟨0, 0, .ro, .imm, 0⟩], grp := none, crc := false },
  { name := "APC_SAGE_EVT", hdr := 0x40100000, hstep := 0x0, base := 0x40100128, dims := [],
    fields := [⟨31, 4, .ro, .imm, 0⟩, ⟨3, 3, .w1c, .imm, 0⟩, ⟨2, 2, .w1c, .imm, 0⟩, ⟨1, 1, .w1c, .imm, 0⟩, ⟨0, 0, .w1c, .imm, 0⟩], grp := none, crc := false },
  { name := "APC_SAGE_LOST", hdr := 0x40100000, hstep := 0x0, base := 0x4010012C, dims := [],
    fields := [⟨31, 4, .ro, .imm, 0⟩, ⟨3, 1, .ro, .imm, 0⟩, ⟨0, 0, .ro, .imm, 0⟩], grp := none, crc := false }]

/-- Registers of the APC block. -/
def regsApc : List RegSpec := regsApc0 ++ regsApc1

/-- Registers of the HRP block, part 0. -/
def regsHrp0 : List RegSpec := [
  { name := "HRP_ID", hdr := 0x40110000, hstep := 0x0, base := 0x40110000, dims := [],
    fields := [⟨31, 24, .ro, .imm, 18⟩, ⟨23, 16, .ro, .imm, 0⟩, ⟨15, 8, .ro, .imm, 3⟩, ⟨7, 0, .ro, .imm, 0⟩], grp := none, crc := false },
  { name := "HRP_CAPS", hdr := 0x40110000, hstep := 0x0, base := 0x40110004, dims := [],
    fields := [⟨31, 16, .ro, .imm, 0⟩, ⟨15, 8, .ro, .imm, 16⟩, ⟨7, 4, .ro, .imm, 0⟩, ⟨3, 3, .ro, .imm, 0⟩, ⟨2, 2, .ro, .imm, 0⟩, ⟨1, 0, .ro, .imm, 0⟩], grp := none, crc := false },
  { name := "HRP_CTRL", hdr := 0x40110000, hstep := 0x0, base := 0x40110008, dims := [],
    fields := [⟨15, 8, .mw, .imm, 0⟩, ⟨7, 4, .mw, .imm, 0⟩, ⟨3, 3, .mw, .imm, 0⟩, ⟨2, 2, .mw, .imm, 0⟩, ⟨1, 1, .mw, .imm, 0⟩, ⟨0, 0, .mw, .imm, 1⟩], grp := none, crc := false },
  { name := "HRP_STAT", hdr := 0x40110000, hstep := 0x0, base := 0x4011000C, dims := [],
    fields := [⟨7, 4, .ro, .imm, 0⟩, ⟨3, 3, .ro, .imm, 0⟩, ⟨2, 2, .ro, .imm, 0⟩, ⟨1, 1, .ro, .imm, 0⟩, ⟨0, 0, .ro, .imm, 0⟩], grp := none, crc := false },
  { name := "HRP_IRQ_RAW", hdr := 0x40110000, hstep := 0x0, base := 0x40110010, dims := [],
    fields := [⟨3, 3, .w1c, .imm, 0⟩, ⟨2, 2, .w1c, .imm, 0⟩, ⟨1, 1, .w1c, .imm, 0⟩, ⟨0, 0, .w1c, .imm, 0⟩], grp := none, crc := false },
  { name := "HRP_IRQ_EN", hdr := 0x40110000, hstep := 0x0, base := 0x40110014, dims := [],
    fields := [⟨15, 0, .mw, .imm, 0⟩], grp := none, crc := false },
  { name := "HRP_IRQ_OUT", hdr := 0x40110000, hstep := 0x0, base := 0x40110018, dims := [],
    fields := [⟨31, 17, .ro, .imm, 0⟩, ⟨16, 16, .ro, .imm, 0⟩, ⟨15, 0, .ro, .imm, 0⟩], grp := none, crc := false },
  { name := "HRP_ERR", hdr := 0x40110000, hstep := 0x0, base := 0x4011001C, dims := [],
    fields := [⟨5, 5, .w1c, .imm, 0⟩, ⟨4, 4, .w1c, .imm, 0⟩, ⟨3, 3, .w1c, .imm, 0⟩, ⟨2, 2, .w1c, .imm, 0⟩, ⟨1, 1, .w1c, .imm, 0⟩, ⟨0, 0, .w1c, .imm, 0⟩], grp := none, crc := false },
  { name := "HRP_COMMIT", hdr := 0x40110000, hstep := 0x0, base := 0x40110020, dims := [],
    fields := [⟨31, 10, .wo, .imm, 0⟩, ⟨9, 9, .wo, .imm, 0⟩, ⟨8, 8, .wo, .imm, 0⟩, ⟨7, 0, .wo, .imm, 0⟩], grp := none, crc := false },
  { name := "HRP_GEN", hdr := 0x40110000, hstep := 0x0, base := 0x40110024, dims := [],
    fields := [⟨31, 16, .ro, .imm, 0⟩, ⟨15, 8, .ro, .imm, 0⟩, ⟨7, 0, .ro, .imm, 0⟩], grp := none, crc := false },
  { name := "HRP_CRC_REF", hdr := 0x40110000, hstep := 0x0, base := 0x40110028, dims := [],
    fields := [⟨31, 0, .rw, .imm, 0⟩], grp := none, crc := false },
  { name := "HRP_CRC_NOW", hdr := 0x40110000, hstep := 0x0, base := 0x4011002C, dims := [],
    fields := [⟨31, 0, .ro, .imm, 0⟩], grp := none, crc := false },
  { name := "HRP_TMR_STAT", hdr := 0x40110000, hstep := 0x0, base := 0x40110030, dims := [],
    fields := [⟨31, 24, .ro, .imm, 0⟩, ⟨23, 16, .ro, .imm, 0⟩, ⟨15, 8, .ro, .imm, 0⟩, ⟨7, 0, .ro, .imm, 0⟩], grp := none, crc := false },
  { name := "HRP_WARDEN", hdr := 0x40110000, hstep := 0x0, base := 0x40110034, dims := [],
    fields := [⟨31, 16, .ro, .imm, 0⟩, ⟨15, 2, .ro, .imm, 0⟩, ⟨1, 0, .ro, .imm, 0⟩], grp := none, crc := false },
  { name := "HRP_TEST0", hdr := 0x40110000, hstep := 0x0, base := 0x40110038, dims := [],
    fields := [⟨31, 0, .rw, .imm, 0⟩], grp := none, crc := false },
  { name := "HRP_TEST1", hdr := 0x40110000, hstep := 0x0, base := 0x4011003C, dims := [],
    fields := [⟨31, 0, .rw, .imm, 0⟩], grp := none, crc := false }]

/-- Registers of the HRP block, part 1. -/
def regsHrp1 : List RegSpec := [
  { name := "HRP_CFG", hdr := 0x40110000, hstep := 0x0, base := 0x40110040, dims := [],
    fields := [⟨31, 1, .rw, .imm, 0⟩, ⟨0, 0, .rw, .imm, 0⟩], grp := none, crc := false },
  { name := "HRP_WR_EN_LO", hdr := 0x40110000, hstep := 0x0, base := 0x40110044, dims := [],
    fields := [⟨15, 0, .mw, .imm, 0⟩], grp := none, crc := false },
  { name := "HRP_WR_EN_HI", hdr := 0x40110000, hstep := 0x0, base := 0x40110048, dims := [],
    fields := [⟨15, 2, .mw, .imm, 0⟩, ⟨1, 0, .mw, .imm, 0⟩], grp := none, crc := false },
  { name := "HRP_LAST", hdr := 0x40110000, hstep := 0x0, base := 0x4011004C, dims := [],
    fields := [⟨31, 24, .ro, .imm, 0⟩, ⟨23, 16, .ro, .imm, 0⟩, ⟨15, 8, .ro, .imm, 0⟩, ⟨7, 0, .ro, .imm, 0⟩], grp := none, crc := false },
  { name := "HRP_LAST_ADDR", hdr := 0x40110000, hstep := 0x0, base := 0x40110050, dims := [],
    fields := [⟨31, 0, .ro, .imm, 0⟩], grp := none, crc := false },
  { name := "HRP_CRC_CNT", hdr := 0x40110000, hstep := 0x0, base := 0x40110054, dims := [],
    fields := [⟨31, 0, .ro, .imm, 0⟩], grp := none, crc := false },
  { name := "HRP_XFER_CNT", hdr := 0x40110000, hstep := 0x0, base := 0x40110058, dims := [],
    fields := [⟨31, 0, .ro, .imm, 0⟩], grp := none, crc := false }]

/-- Registers of the HRP block. -/
def regsHrp : List RegSpec := regsHrp0 ++ regsHrp1

end Sys2Proof.Machine
end

