-- ==== Sys2Proof/Machine/Fields.lean ====
section
/-! DEFINITION. The named fields of the registers: where each lies (address, lowest bit, width), from the chapters' tables.
An index wraps at the size of its array, so that an address lies in its array whatever the index. -/
namespace Sys2Proof.Machine

/-- A field of a register at an address. -/
structure Fld where
  addr : Nat
  lo : Nat
  w : Nat
  deriving DecidableEq, Repr

/-- Address of SYS_STAT. -/
def aSYS_STAT : Nat := 0x4000000C
/-- Address of SYS_IRQ_RAW. -/
def aSYS_IRQ_RAW : Nat := 0x40000010
abbrev fSYS_IRQ_RAW_mp_done : Fld := ⟨aSYS_IRQ_RAW, 5, 1⟩
abbrev fSYS_IRQ_RAW_dbg : Fld := ⟨aSYS_IRQ_RAW, 4, 1⟩
/-- Address of SYS_ERR. -/
def aSYS_ERR : Nat := 0x4000001C
abbrev fSYS_ERR_mp_ref : Fld := ⟨aSYS_ERR, 18, 1⟩
abbrev fSYS_ERR_rst_ref : Fld := ⟨aSYS_ERR, 17, 1⟩
abbrev fSYS_ERR_dbg_fail : Fld := ⟨aSYS_ERR, 16, 1⟩
/-- Address of HPM_STAT. -/
def aHPM_STAT : Nat := 0x4000100C
/-- Address of HPM_IRQ_RAW. -/
def aHPM_IRQ_RAW : Nat := 0x40001010
abbrev fHPM_IRQ_RAW_therm : Fld := ⟨aHPM_IRQ_RAW, 10, 1⟩
abbrev fHPM_IRQ_RAW_sup_end : Fld := ⟨aHPM_IRQ_RAW, 9, 1⟩
abbrev fHPM_IRQ_RAW_sup_start : Fld := ⟨aHPM_IRQ_RAW, 8, 1⟩
abbrev fHPM_IRQ_RAW_i2c_done : Fld := ⟨aHPM_IRQ_RAW, 7, 1⟩
abbrev fHPM_IRQ_RAW_wake : Fld := ⟨aHPM_IRQ_RAW, 6, 1⟩
abbrev fHPM_IRQ_RAW_clk : Fld := ⟨aHPM_IRQ_RAW, 5, 1⟩
abbrev fHPM_IRQ_RAW_pd_ref : Fld := ⟨aHPM_IRQ_RAW, 4, 1⟩
/-- Address of HPM_ERR. -/
def aHPM_ERR : Nat := 0x4000101C
abbrev fHPM_ERR_i2c_nak : Fld := ⟨aHPM_ERR, 18, 1⟩
abbrev fHPM_ERR_clk : Fld := ⟨aHPM_ERR, 17, 1⟩
abbrev fHPM_ERR_pd_ref : Fld := ⟨aHPM_ERR, 16, 1⟩
/-- Address of FAB_STAT. -/
def aFAB_STAT : Nat := 0x4001000C
/-- Address of FAB_IRQ_RAW. -/
def aFAB_IRQ_RAW : Nat := 0x40010010
abbrev fFAB_IRQ_RAW_isl_chg : Fld := ⟨aFAB_IRQ_RAW, 7, 1⟩
abbrev fFAB_IRQ_RAW_srst_ref : Fld := ⟨aFAB_IRQ_RAW, 6, 1⟩
abbrev fFAB_IRQ_RAW_drain_to : Fld := ⟨aFAB_IRQ_RAW, 5, 1⟩
abbrev fFAB_IRQ_RAW_audit : Fld := ⟨aFAB_IRQ_RAW, 4, 1⟩
/-- Address of FAB_ERR. -/
def aFAB_ERR : Nat := 0x4001001C
abbrev fFAB_ERR_srst_ref : Fld := ⟨aFAB_ERR, 18, 1⟩
abbrev fFAB_ERR_drain_to : Fld := ⟨aFAB_ERR, 17, 1⟩
abbrev fFAB_ERR_audit : Fld := ⟨aFAB_ERR, 16, 1⟩
/-- Address of THY_STAT. -/
def aTHY_STAT : Nat := 0x4002000C
abbrev fTHY_STAT_coarse : Fld := ⟨aTHY_STAT, 9, 1⟩
abbrev fTHY_STAT_fcal_ok : Fld := ⟨aTHY_STAT, 8, 1⟩
/-- Address of THY_IRQ_RAW. -/
def aTHY_IRQ_RAW : Nat := 0x40020010
abbrev fTHY_IRQ_RAW_adm_ref : Fld := ⟨aTHY_IRQ_RAW, 8, 1⟩
abbrev fTHY_IRQ_RAW_torn : Fld := ⟨aTHY_IRQ_RAW, 7, 1⟩
abbrev fTHY_IRQ_RAW_cfg_ref : Fld := ⟨aTHY_IRQ_RAW, 6, 1⟩
abbrev fTHY_IRQ_RAW_clamp : Fld := ⟨aTHY_IRQ_RAW, 5, 1⟩
abbrev fTHY_IRQ_RAW_shoot : Fld := ⟨aTHY_IRQ_RAW, 4, 1⟩
/-- Address of THY_ERR. -/
def aTHY_ERR : Nat := 0x4002001C
abbrev fTHY_ERR_cmd_ref : Fld := ⟨aTHY_ERR, 19, 1⟩
abbrev fTHY_ERR_fcal : Fld := ⟨aTHY_ERR, 18, 1⟩
abbrev fTHY_ERR_krn_wr : Fld := ⟨aTHY_ERR, 17, 1⟩
abbrev fTHY_ERR_cfg_ref : Fld := ⟨aTHY_ERR, 16, 1⟩
/-- Address of NDL_STAT. -/
def aNDLH_STAT : Nat := 0x4004000C
abbrev fNDLH_STAT_pd1 : Fld := ⟨aNDLH_STAT, 8, 1⟩
/-- Address of NDL_IRQ_RAW. -/
def aNDLH_IRQ_RAW : Nat := 0x40040010
abbrev fNDLH_IRQ_RAW_tok : Fld := ⟨aNDLH_IRQ_RAW, 7, 1⟩
abbrev fNDLH_IRQ_RAW_prot : Fld := ⟨aNDLH_IRQ_RAW, 6, 1⟩
abbrev fNDLH_IRQ_RAW_late : Fld := ⟨aNDLH_IRQ_RAW, 5, 1⟩
abbrev fNDLH_IRQ_RAW_loss : Fld := ⟨aNDLH_IRQ_RAW, 4, 1⟩
/-- Address of NDL_ERR. -/
def aNDLH_ERR : Nat := 0x4004001C
abbrev fNDLH_ERR_adm_ref : Fld := ⟨aNDLH_ERR, 19, 1⟩
abbrev fNDLH_ERR_pd1 : Fld := ⟨aNDLH_ERR, 18, 1⟩
abbrev fNDLH_ERR_prot : Fld := ⟨aNDLH_ERR, 17, 1⟩
abbrev fNDLH_ERR_cons : Fld := ⟨aNDLH_ERR, 16, 1⟩
/-- Address of ENG_STAT. -/
def aENG_STAT : Nat := 0x4005000C
abbrev fENG_STAT_adm_full : Fld := ⟨aENG_STAT, 9, 1⟩
abbrev fENG_STAT_ks_valid : Fld := ⟨aENG_STAT, 8, 1⟩
/-- Address of ENG_IRQ_RAW. -/
def aENG_IRQ_RAW : Nat := 0x40050010
abbrev fENG_IRQ_RAW_load_warn : Fld := ⟨aENG_IRQ_RAW, 8, 1⟩
abbrev fENG_IRQ_RAW_halt : Fld := ⟨aENG_IRQ_RAW, 7, 1⟩
abbrev fENG_IRQ_RAW_ks_done : Fld := ⟨aENG_IRQ_RAW, 6, 1⟩
abbrev fENG_IRQ_RAW_ovr : Fld := ⟨aENG_IRQ_RAW, 5, 1⟩
abbrev fENG_IRQ_RAW_priv_mis : Fld := ⟨aENG_IRQ_RAW, 4, 1⟩
/-- Address of ENG_ERR. -/
def aENG_ERR : Nat := 0x4005001C
abbrev fENG_ERR_wsel : Fld := ⟨aENG_ERR, 20, 1⟩
abbrev fENG_ERR_adm_tbg : Fld := ⟨aENG_ERR, 19, 1⟩
abbrev fENG_ERR_ks_crc : Fld := ⟨aENG_ERR, 18, 1⟩
abbrev fENG_ERR_ks_ref : Fld := ⟨aENG_ERR, 17, 1⟩
abbrev fENG_ERR_ctx_wr : Fld := ⟨aENG_ERR, 16, 1⟩
/-- Address of GIU_STAT. -/
def aGIU_STAT : Nat := 0x4006000C
/-- Address of GIU_IRQ_RAW. -/
def aGIU_IRQ_RAW : Nat := 0x40060010
abbrev fGIU_IRQ_RAW_trk : Fld := ⟨aGIU_IRQ_RAW, 9, 1⟩
abbrev fGIU_IRQ_RAW_log : Fld := ⟨aGIU_IRQ_RAW, 8, 1⟩
abbrev fGIU_IRQ_RAW_scan : Fld := ⟨aGIU_IRQ_RAW, 7, 1⟩
abbrev fGIU_IRQ_RAW_lock : Fld := ⟨aGIU_IRQ_RAW, 6, 1⟩
abbrev fGIU_IRQ_RAW_isl : Fld := ⟨aGIU_IRQ_RAW, 5, 1⟩
abbrev fGIU_IRQ_RAW_seq : Fld := ⟨aGIU_IRQ_RAW, 4, 1⟩
/-- Address of GIU_ERR. -/
def aGIU_ERR : Nat := 0x4006001C
abbrev fGIU_ERR_log_ovf : Fld := ⟨aGIU_ERR, 19, 1⟩
abbrev fGIU_ERR_trk_src : Fld := ⟨aGIU_ERR, 18, 1⟩
abbrev fGIU_ERR_ref_late : Fld := ⟨aGIU_ERR, 17, 1⟩
abbrev fGIU_ERR_adc_miss : Fld := ⟨aGIU_ERR, 16, 1⟩
/-- Address of ADC(u)_STAT. -/
def aADC_STAT (i : Nat) : Nat := 0x4007000C + i % 4 * 0x1000
abbrev fADC_STAT_busy (i : Nat) : Fld := ⟨aADC_STAT i, 8, 4⟩
/-- Address of ADC(u)_IRQ_RAW. -/
def aADC_IRQ_RAW (i : Nat) : Nat := 0x40070010 + i % 4 * 0x1000
abbrev fADC_IRQ_RAW_res (i : Nat) : Fld := ⟨aADC_IRQ_RAW i, 7, 1⟩
abbrev fADC_IRQ_RAW_wc (i : Nat) : Fld := ⟨aADC_IRQ_RAW i, 6, 1⟩
abbrev fADC_IRQ_RAW_abt (i : Nat) : Fld := ⟨aADC_IRQ_RAW i, 5, 1⟩
abbrev fADC_IRQ_RAW_rst (i : Nat) : Fld := ⟨aADC_IRQ_RAW i, 4, 1⟩
/-- Address of ADC(u)_ERR. -/
def aADC_ERR (i : Nat) : Nat := 0x4007001C + i % 4 * 0x1000
abbrev fADC_ERR_loss (i : Nat) : Fld := ⟨aADC_ERR i, 18, 1⟩
abbrev fADC_ERR_seq_ovr (i : Nat) : Fld := ⟨aADC_ERR i, 17, 1⟩
abbrev fADC_ERR_cons (i : Nat) : Fld := ⟨aADC_ERR i, 16, 1⟩
/-- Address of FB_STAT. -/
def aFBH_STAT : Nat := 0x4008000C
/-- Address of FB_IRQ_RAW. -/
def aFBH_IRQ_RAW : Nat := 0x40080010
abbrev fFBH_IRQ_RAW_emu : Fld := ⟨aFBH_IRQ_RAW, 7, 1⟩
abbrev fFBH_IRQ_RAW_los : Fld := ⟨aFBH_IRQ_RAW, 6, 1⟩
abbrev fFBH_IRQ_RAW_cnt_err : Fld := ⟨aFBH_IRQ_RAW, 5, 1⟩
abbrev fFBH_IRQ_RAW_idx : Fld := ⟨aFBH_IRQ_RAW, 4, 1⟩
/-- Address of FB_ERR. -/
def aFBH_ERR : Nat := 0x4008001C
abbrev fFBH_ERR_emu_loss : Fld := ⟨aFBH_ERR, 18, 1⟩
abbrev fFBH_ERR_los : Fld := ⟨aFBH_ERR, 17, 1⟩
abbrev fFBH_ERR_cnt_err : Fld := ⟨aFBH_ERR, 16, 1⟩
/-- Address of AMU_STAT. -/
def aAMU_STAT : Nat := 0x4009000C
abbrev fAMU_STAT_moving : Fld := ⟨aAMU_STAT, 8, 8⟩
/-- Address of AMU_IRQ_RAW. -/
def aAMU_IRQ_RAW : Nat := 0x40090010
abbrev fAMU_IRQ_RAW_chop : Fld := ⟨aAMU_IRQ_RAW, 6, 1⟩
abbrev fAMU_IRQ_RAW_lim : Fld := ⟨aAMU_IRQ_RAW, 5, 1⟩
abbrev fAMU_IRQ_RAW_done : Fld := ⟨aAMU_IRQ_RAW, 4, 1⟩
/-- Address of AMU_ERR. -/
def aAMU_ERR : Nat := 0x4009001C
/-- Address of CAN(c)_STAT. -/
def aCAN_STAT (i : Nat) : Nat := 0x400A000C + i % 4 * 0x1000
/-- Address of CAN(c)_IRQ_RAW. -/
def aCAN_IRQ_RAW (i : Nat) : Nat := 0x400A0010 + i % 4 * 0x1000
abbrev fCAN_IRQ_RAW_idcoll (i : Nat) : Fld := ⟨aCAN_IRQ_RAW i, 11, 1⟩
abbrev fCAN_IRQ_RAW_busoff (i : Nat) : Fld := ⟨aCAN_IRQ_RAW i, 10, 1⟩
abbrev fCAN_IRQ_RAW_epass (i : Nat) : Fld := ⟨aCAN_IRQ_RAW i, 9, 1⟩
abbrev fCAN_IRQ_RAW_tx_abt (i : Nat) : Fld := ⟨aCAN_IRQ_RAW i, 8, 1⟩
abbrev fCAN_IRQ_RAW_tx (i : Nat) : Fld := ⟨aCAN_IRQ_RAW i, 7, 1⟩
abbrev fCAN_IRQ_RAW_fifo_full (i : Nat) : Fld := ⟨aCAN_IRQ_RAW i, 6, 1⟩
abbrev fCAN_IRQ_RAW_fifo (i : Nat) : Fld := ⟨aCAN_IRQ_RAW i, 5, 1⟩
abbrev fCAN_IRQ_RAW_rx (i : Nat) : Fld := ⟨aCAN_IRQ_RAW i, 4, 1⟩
/-- Address of CAN(c)_ERR. -/
def aCAN_ERR (i : Nat) : Nat := 0x400A001C + i % 4 * 0x1000
abbrev fCAN_ERR_idcoll (i : Nat) : Fld := ⟨aCAN_ERR i, 21, 1⟩
abbrev fCAN_ERR_busoff (i : Nat) : Fld := ⟨aCAN_ERR i, 20, 1⟩
abbrev fCAN_ERR_cfg (i : Nat) : Fld := ⟨aCAN_ERR i, 19, 1⟩
abbrev fCAN_ERR_mb_own (i : Nat) : Fld := ⟨aCAN_ERR i, 18, 1⟩
abbrev fCAN_ERR_mb_busy (i : Nat) : Fld := ⟨aCAN_ERR i, 17, 1⟩
abbrev fCAN_ERR_cons (i : Nat) : Fld := ⟨aCAN_ERR i, 16, 1⟩
/-- Address of MSIO_STAT. -/
def aMSIO_STAT : Nat := 0x400B000C
abbrev fMSIO_STAT_sm_fault : Fld := ⟨aMSIO_STAT, 10, 1⟩
abbrev fMSIO_STAT_so_fault : Fld := ⟨aMSIO_STAT, 9, 1⟩
abbrev fMSIO_STAT_ev_nok : Fld := ⟨aMSIO_STAT, 8, 1⟩
/-- Address of MSIO_IRQ_RAW. -/
def aMSIO_IRQ_RAW : Nat := 0x400B0010
abbrev fMSIO_IRQ_RAW_sm : Fld := ⟨aMSIO_IRQ_RAW, 7, 1⟩
abbrev fMSIO_IRQ_RAW_so : Fld := ⟨aMSIO_IRQ_RAW, 6, 1⟩
abbrev fMSIO_IRQ_RAW_ev_fault : Fld := ⟨aMSIO_IRQ_RAW, 5, 1⟩
abbrev fMSIO_IRQ_RAW_ev_chg : Fld := ⟨aMSIO_IRQ_RAW, 4, 1⟩
/-- Address of MSIO_ERR. -/
def aMSIO_ERR : Nat := 0x400B001C
abbrev fMSIO_ERR_rst_bad : Fld := ⟨aMSIO_ERR, 18, 1⟩
abbrev fMSIO_ERR_sm_cfg : Fld := ⟨aMSIO_ERR, 17, 1⟩
abbrev fMSIO_ERR_clr_ref : Fld := ⟨aMSIO_ERR, 16, 1⟩
/-- Address of PAIR_STAT. -/
def aPAIR_STAT : Nat := 0x400C000C
abbrev fPAIR_STAT_over : Fld := ⟨aPAIR_STAT, 10, 1⟩
abbrev fPAIR_STAT_aligned : Fld := ⟨aPAIR_STAT, 9, 1⟩
abbrev fPAIR_STAT_link_up : Fld := ⟨aPAIR_STAT, 8, 1⟩
/-- Address of PAIR_IRQ_RAW. -/
def aPAIR_IRQ_RAW : Nat := 0x400C0010
abbrev fPAIR_IRQ_RAW_align_lost : Fld := ⟨aPAIR_IRQ_RAW, 8, 1⟩
abbrev fPAIR_IRQ_RAW_join : Fld := ⟨aPAIR_IRQ_RAW, 7, 1⟩
abbrev fPAIR_IRQ_RAW_split : Fld := ⟨aPAIR_IRQ_RAW, 6, 1⟩
abbrev fPAIR_IRQ_RAW_takeover : Fld := ⟨aPAIR_IRQ_RAW, 5, 1⟩
abbrev fPAIR_IRQ_RAW_loss : Fld := ⟨aPAIR_IRQ_RAW, 4, 1⟩
/-- Address of PAIR_ERR. -/
def aPAIR_ERR : Nat := 0x400C001C
abbrev fPAIR_ERR_join_to : Fld := ⟨aPAIR_ERR, 20, 1⟩
abbrev fPAIR_ERR_rec : Fld := ⟨aPAIR_ERR, 19, 1⟩
abbrev fPAIR_ERR_tko_fail : Fld := ⟨aPAIR_ERR, 18, 1⟩
abbrev fPAIR_ERR_load : Fld := ⟨aPAIR_ERR, 17, 1⟩
abbrev fPAIR_ERR_cfg : Fld := ⟨aPAIR_ERR, 16, 1⟩
/-- Address of REC_STAT. -/
def aREC_STAT : Nat := 0x400D000C
/-- Address of REC_IRQ_RAW. -/
def aREC_IRQ_RAW : Nat := 0x400D0010
abbrev fREC_IRQ_RAW_defer : Fld := ⟨aREC_IRQ_RAW, 5, 1⟩
abbrev fREC_IRQ_RAW_frozen : Fld := ⟨aREC_IRQ_RAW, 4, 1⟩
/-- Address of REC_ERR. -/
def aREC_ERR : Nat := 0x400D001C
abbrev fREC_ERR_defer : Fld := ⟨aREC_ERR, 18, 1⟩
abbrev fREC_ERR_sw : Fld := ⟨aREC_ERR, 17, 1⟩
abbrev fREC_ERR_cons : Fld := ⟨aREC_ERR, 16, 1⟩
/-- Address of BIST_STAT. -/
def aBIST_STAT : Nat := 0x400E000C
/-- Address of BIST_IRQ_RAW. -/
def aBIST_IRQ_RAW : Nat := 0x400E0010
abbrev fBIST_IRQ_RAW_abort : Fld := ⟨aBIST_IRQ_RAW, 6, 1⟩
abbrev fBIST_IRQ_RAW_fail : Fld := ⟨aBIST_IRQ_RAW, 5, 1⟩
abbrev fBIST_IRQ_RAW_done : Fld := ⟨aBIST_IRQ_RAW, 4, 1⟩
/-- Address of BIST_ERR. -/
def aBIST_ERR : Nat := 0x400E001C
abbrev fBIST_ERR_qfull : Fld := ⟨aBIST_ERR, 17, 1⟩
abbrev fBIST_ERR_ref : Fld := ⟨aBIST_ERR, 16, 1⟩
/-- Address of SAGE_STAT. -/
def aSAGE_STAT : Nat := 0x400F000C
abbrev fSAGE_STAT_not_safe : Fld := ⟨aSAGE_STAT, 9, 1⟩
abbrev fSAGE_STAT_hold_any : Fld := ⟨aSAGE_STAT, 8, 1⟩
/-- Address of SAGE_IRQ_RAW. -/
def aSAGE_IRQ_RAW : Nat := 0x400F0010
abbrev fSAGE_IRQ_RAW_wdg_open : Fld := ⟨aSAGE_IRQ_RAW, 7, 1⟩
abbrev fSAGE_IRQ_RAW_dis : Fld := ⟨aSAGE_IRQ_RAW, 6, 1⟩
abbrev fSAGE_IRQ_RAW_tm : Fld := ⟨aSAGE_IRQ_RAW, 5, 1⟩
abbrev fSAGE_IRQ_RAW_evt : Fld := ⟨aSAGE_IRQ_RAW, 4, 1⟩
/-- Address of SAGE_ERR. -/
def aSAGE_ERR : Nat := 0x400F001C
abbrev fSAGE_ERR_dis_ref : Fld := ⟨aSAGE_ERR, 18, 1⟩
abbrev fSAGE_ERR_rel_ref : Fld := ⟨aSAGE_ERR, 17, 1⟩
abbrev fSAGE_ERR_fixed : Fld := ⟨aSAGE_ERR, 16, 1⟩
/-- Address of APC_STAT. -/
def aAPC_STAT : Nat := 0x4010000C
/-- Address of APC_IRQ_RAW. -/
def aAPC_IRQ_RAW : Nat := 0x40100010
/-- Address of APC_ERR. -/
def aAPC_ERR : Nat := 0x4010001C
/-- Address of HRP_STAT. -/
def aHRP_STAT : Nat := 0x4011000C
/-- Address of HRP_IRQ_RAW. -/
def aHRP_IRQ_RAW : Nat := 0x40110010
/-- Address of HRP_ERR. -/
def aHRP_ERR : Nat := 0x4011001C
/-- Address of APC_P0_IE(i). -/
def aAPC_P0_IE (i : Nat) : Nat := 0x40100040 + i % 8 * 0x4
abbrev fAPC_P0_IE_en (i : Nat) : Fld := ⟨aAPC_P0_IE i, 0, 32⟩
/-- Address of APC_P1_IE(i). -/
def aAPC_P1_IE (i : Nat) : Nat := 0x40100060 + i % 8 * 0x4
abbrev fAPC_P1_IE_en (i : Nat) : Fld := ⟨aAPC_P1_IE i, 0, 32⟩
/-- Address of APC_IP(i). -/
def aAPC_IP (i : Nat) : Nat := 0x40100080 + i % 8 * 0x4
abbrev fAPC_IP_lvl (i : Nat) : Fld := ⟨aAPC_IP i, 0, 32⟩
/-- Address of APC_P0_NEXT. -/
def aAPC_P0_NEXT : Nat := 0x401000A0
abbrev fAPC_P0_NEXT_line : Fld := ⟨aAPC_P0_NEXT, 0, 9⟩
/-- Address of APC_P1_NEXT. -/
def aAPC_P1_NEXT : Nat := 0x401000A4
abbrev fAPC_P1_NEXT_line : Fld := ⟨aAPC_P1_NEXT, 0, 9⟩
/-- Address of APC_SWI. -/
def aAPC_SWI : Nat := 0x401000A8
abbrev fAPC_SWI_swi : Fld := ⟨aAPC_SWI, 0, 16⟩
/-- Address of HRP_CFG. -/
def aHRP_CFG : Nat := 0x40110040
abbrev fHRP_CFG_hrp_en : Fld := ⟨aHRP_CFG, 0, 1⟩
/-- Address of HRP_WR_EN_LO. -/
def aHRP_WR_EN_LO : Nat := 0x40110044
abbrev fHRP_WR_EN_LO_wen : Fld := ⟨aHRP_WR_EN_LO, 0, 16⟩
/-- Address of HRP_WR_EN_HI. -/
def aHRP_WR_EN_HI : Nat := 0x40110048
abbrev fHRP_WR_EN_HI_wen : Fld := ⟨aHRP_WR_EN_HI, 0, 2⟩
/-- Address of HRP_LAST. -/
def aHRP_LAST : Nat := 0x4011004C
abbrev fHRP_LAST_cmd : Fld := ⟨aHRP_LAST, 16, 8⟩
abbrev fHRP_LAST_index : Fld := ⟨aHRP_LAST, 8, 8⟩
abbrev fHRP_LAST_code : Fld := ⟨aHRP_LAST, 0, 8⟩
/-- Address of HRP_LAST_ADDR. -/
def aHRP_LAST_ADDR : Nat := 0x40110050
abbrev fHRP_LAST_ADDR_addr : Fld := ⟨aHRP_LAST_ADDR, 0, 32⟩
/-- Address of HRP_CRC_CNT. -/
def aHRP_CRC_CNT : Nat := 0x40110054
abbrev fHRP_CRC_CNT_cnt : Fld := ⟨aHRP_CRC_CNT, 0, 32⟩
/-- Address of HRP_XFER_CNT. -/
def aHRP_XFER_CNT : Nat := 0x40110058
abbrev fHRP_XFER_CNT_cnt : Fld := ⟨aHRP_XFER_CNT, 0, 32⟩
/-- Address of FAB_WST(i). -/
def aFAB_WST (i : Nat) : Nat := 0x40010040 + i % 17 * 0x4
abbrev fFAB_WST_epoch (i : Nat) : Fld := ⟨aFAB_WST i, 16, 16⟩
abbrev fFAB_WST_outst (i : Nat) : Fld := ⟨aFAB_WST i, 8, 8⟩
abbrev fFAB_WST_gated (i : Nat) : Fld := ⟨aFAB_WST i, 3, 1⟩
abbrev fFAB_WST_pdown (i : Nat) : Fld := ⟨aFAB_WST i, 2, 1⟩
abbrev fFAB_WST_state (i : Nat) : Fld := ⟨aFAB_WST i, 0, 2⟩
/-- Address of FAB_TDRAIN(i). -/
def aFAB_TDRAIN (i : Nat) : Nat := 0x40010090 + i % 17 * 0x4
abbrev fFAB_TDRAIN_tdrain (i : Nat) : Fld := ⟨aFAB_TDRAIN i, 0, 7⟩
/-- Address of FAB_ABSENT_CNT(i). -/
def aFAB_ABSENT_CNT (i : Nat) : Nat := 0x400100E0 + i % 17 * 0x4
abbrev fFAB_ABSENT_CNT_cnt (i : Nat) : Fld := ⟨aFAB_ABSENT_CNT i, 0, 32⟩
/-- Address of FAB_RETIRED_CNT(i). -/
def aFAB_RETIRED_CNT (i : Nat) : Nat := 0x40010130 + i % 17 * 0x4
abbrev fFAB_RETIRED_CNT_cnt (i : Nat) : Fld := ⟨aFAB_RETIRED_CNT i, 0, 32⟩
/-- Address of FAB_DISCARD_CNT(i). -/
def aFAB_DISCARD_CNT (i : Nat) : Nat := 0x40010180 + i % 17 * 0x4
abbrev fFAB_DISCARD_CNT_cnt (i : Nat) : Fld := ⟨aFAB_DISCARD_CNT i, 0, 32⟩
/-- Address of FAB_AUDIT_CFG. -/
def aFAB_AUDIT_CFG : Nat := 0x400101D0
abbrev fFAB_AUDIT_CFG_per : Fld := ⟨aFAB_AUDIT_CFG, 0, 4⟩
/-- Address of FAB_AUDIT_FAIL. -/
def aFAB_AUDIT_FAIL : Nat := 0x400101D4
abbrev fFAB_AUDIT_FAIL_valid : Fld := ⟨aFAB_AUDIT_FAIL, 31, 1⟩
abbrev fFAB_AUDIT_FAIL_cls : Fld := ⟨aFAB_AUDIT_FAIL, 24, 1⟩
abbrev fFAB_AUDIT_FAIL_cnt : Fld := ⟨aFAB_AUDIT_FAIL, 16, 8⟩
abbrev fFAB_AUDIT_FAIL_req : Fld := ⟨aFAB_AUDIT_FAIL, 8, 8⟩
abbrev fFAB_AUDIT_FAIL_tgt : Fld := ⟨aFAB_AUDIT_FAIL, 0, 8⟩
/-- Address of FAB_AUDIT_PASS. -/
def aFAB_AUDIT_PASS : Nat := 0x400101D8
abbrev fFAB_AUDIT_PASS_cnt : Fld := ⟨aFAB_AUDIT_PASS, 0, 32⟩
/-- Address of FAB_LINK_SEL. -/
def aFAB_LINK_SEL : Nat := 0x400101DC
abbrev fFAB_LINK_SEL_cls : Fld := ⟨aFAB_LINK_SEL, 16, 1⟩
abbrev fFAB_LINK_SEL_req : Fld := ⟨aFAB_LINK_SEL, 8, 8⟩
abbrev fFAB_LINK_SEL_tgt : Fld := ⟨aFAB_LINK_SEL, 0, 8⟩
/-- Address of FAB_LINK_DEPTH. -/
def aFAB_LINK_DEPTH : Nat := 0x400101E0
abbrev fFAB_LINK_DEPTH_exists : Fld := ⟨aFAB_LINK_DEPTH, 8, 1⟩
abbrev fFAB_LINK_DEPTH_depth : Fld := ⟨aFAB_LINK_DEPTH, 0, 8⟩
/-- Address of FAB_LINK_CRED. -/
def aFAB_LINK_CRED : Nat := 0x400101E4
abbrev fFAB_LINK_CRED_cred : Fld := ⟨aFAB_LINK_CRED, 24, 8⟩
abbrev fFAB_LINK_CRED_buf : Fld := ⟨aFAB_LINK_CRED, 16, 8⟩
abbrev fFAB_LINK_CRED_slots : Fld := ⟨aFAB_LINK_CRED, 8, 8⟩
abbrev fFAB_LINK_CRED_outst : Fld := ⟨aFAB_LINK_CRED, 0, 8⟩
/-- Address of FAB_LINK_REQS. -/
def aFAB_LINK_REQS : Nat := 0x400101E8
abbrev fFAB_LINK_REQS_cnt : Fld := ⟨aFAB_LINK_REQS, 0, 32⟩
/-- Address of FAB_SRST_REF. -/
def aFAB_SRST_REF : Nat := 0x400101EC
abbrev fFAB_SRST_REF_cnt : Fld := ⟨aFAB_SRST_REF, 0, 32⟩
/-- Address of ENG_CFG. -/
def aENG_CFG : Nat := 0x40050040
abbrev fENG_CFG_load_warn : Fld := ⟨aENG_CFG, 8, 8⟩
abbrev fENG_CFG_sched_en : Fld := ⟨aENG_CFG, 0, 1⟩
/-- Address of ENG_WSEL. -/
def aENG_WSEL : Nat := 0x40050044
abbrev fENG_WSEL_ctx : Fld := ⟨aENG_WSEL, 0, 7⟩
/-- Address of ENG_ADM_SUM. -/
def aENG_ADM_SUM : Nat := 0x40050048
abbrev fENG_ADM_SUM_sum : Fld := ⟨aENG_ADM_SUM, 0, 24⟩
/-- Address of ENG_ADM_LIMIT. -/
def aENG_ADM_LIMIT : Nat := 0x4005004C
abbrev fENG_ADM_LIMIT_lim : Fld := ⟨aENG_ADM_LIMIT, 0, 24⟩
/-- Address of ENG_LOAD. -/
def aENG_LOAD : Nat := 0x40050050
abbrev fENG_LOAD_load : Fld := ⟨aENG_LOAD, 0, 24⟩
/-- Address of ENG_LOAD_PEAK. -/
def aENG_LOAD_PEAK : Nat := 0x40050054
abbrev fENG_LOAD_PEAK_peak : Fld := ⟨aENG_LOAD_PEAK, 0, 24⟩
/-- Address of ENG_LANE_STAT. -/
def aENG_LANE_STAT : Nat := 0x40050058
abbrev fENG_LANE_STAT_paired : Fld := ⟨aENG_LANE_STAT, 4, 4⟩
abbrev fENG_LANE_STAT_busy : Fld := ⟨aENG_LANE_STAT, 0, 4⟩
/-- Address of ENG_PRIV_MIS. -/
def aENG_PRIV_MIS : Nat := 0x4005005C
abbrev fENG_PRIV_MIS_cnt : Fld := ⟨aENG_PRIV_MIS, 0, 32⟩
/-- Address of ENG_OVR_CNT. -/
def aENG_OVR_CNT : Nat := 0x40050060
abbrev fENG_OVR_CNT_cnt : Fld := ⟨aENG_OVR_CNT, 0, 32⟩
/-- Address of ENG_CANCEL_CNT. -/
def aENG_CANCEL_CNT : Nat := 0x40050064
abbrev fENG_CANCEL_CNT_cnt : Fld := ⟨aENG_CANCEL_CNT, 0, 32⟩
/-- Address of ENG_KS_CTRL. -/
def aENG_KS_CTRL : Nat := 0x40050068
abbrev fENG_KS_CTRL_done : Fld := ⟨aENG_KS_CTRL, 1, 1⟩
abbrev fENG_KS_CTRL_req : Fld := ⟨aENG_KS_CTRL, 0, 1⟩
/-- Address of ENG_KS_STAT. -/
def aENG_KS_STAT : Nat := 0x4005006C
abbrev fENG_KS_STAT_ver : Fld := ⟨aENG_KS_STAT, 16, 16⟩
abbrev fENG_KS_STAT_state : Fld := ⟨aENG_KS_STAT, 0, 2⟩
/-- Address of ENG_KS_CRC. -/
def aENG_KS_CRC : Nat := 0x40050070
abbrev fENG_KS_CRC_ref : Fld := ⟨aENG_KS_CRC, 0, 32⟩
/-- Address of ENG_TRACE_CFG. -/
def aENG_TRACE_CFG : Nat := 0x40050074
abbrev fENG_TRACE_CFG_en3 : Fld := ⟨aENG_TRACE_CFG, 31, 1⟩
abbrev fENG_TRACE_CFG_ctx3 : Fld := ⟨aENG_TRACE_CFG, 24, 7⟩
abbrev fENG_TRACE_CFG_en2 : Fld := ⟨aENG_TRACE_CFG, 23, 1⟩
abbrev fENG_TRACE_CFG_ctx2 : Fld := ⟨aENG_TRACE_CFG, 16, 7⟩
abbrev fENG_TRACE_CFG_en1 : Fld := ⟨aENG_TRACE_CFG, 15, 1⟩
abbrev fENG_TRACE_CFG_ctx1 : Fld := ⟨aENG_TRACE_CFG, 8, 7⟩
abbrev fENG_TRACE_CFG_en0 : Fld := ⟨aENG_TRACE_CFG, 7, 1⟩
abbrev fENG_TRACE_CFG_ctx0 : Fld := ⟨aENG_TRACE_CFG, 0, 7⟩
/-- Address of ENG_TRACE_WP. -/
def aENG_TRACE_WP : Nat := 0x40050078
abbrev fENG_TRACE_WP_wp : Fld := ⟨aENG_TRACE_WP, 0, 11⟩
/-- Address of ENG_RUN(i). -/
def aENG_RUN (i : Nat) : Nat := 0x40050080 + i % 4 * 0x4
abbrev fENG_RUN_run (i : Nat) : Fld := ⟨aENG_RUN i, 0, 32⟩
/-- Address of ENG_HALT(i). -/
def aENG_HALT (i : Nat) : Nat := 0x40050090 + i % 4 * 0x4
abbrev fENG_HALT_halt (i : Nat) : Fld := ⟨aENG_HALT i, 0, 32⟩
/-- Address of ENG_CIRQ(i). -/
def aENG_CIRQ (i : Nat) : Nat := 0x400500A0 + i % 4 * 0x4
abbrev fENG_CIRQ_act (i : Nat) : Fld := ⟨aENG_CIRQ i, 0, 32⟩
/-- Address of CTX_W_CMD. -/
def aCTX_W_CMD : Nat := 0x40051000
abbrev fCTX_W_CMD_cmd : Fld := ⟨aCTX_W_CMD, 0, 4⟩
/-- Address of CTX_W_STAT. -/
def aCTX_W_STAT : Nat := 0x40051004
abbrev fCTX_W_STAT_cmd_ref : Fld := ⟨aCTX_W_STAT, 22, 1⟩
abbrev fCTX_W_STAT_mg_safe : Fld := ⟨aCTX_W_STAT, 21, 1⟩
abbrev fCTX_W_STAT_pred : Fld := ⟨aCTX_W_STAT, 20, 1⟩
abbrev fCTX_W_STAT_stale : Fld := ⟨aCTX_W_STAT, 19, 1⟩
abbrev fCTX_W_STAT_dev_long : Fld := ⟨aCTX_W_STAT, 18, 1⟩
abbrev fCTX_W_STAT_sat_long : Fld := ⟨aCTX_W_STAT, 17, 1⟩
abbrev fCTX_W_STAT_sat : Fld := ⟨aCTX_W_STAT, 16, 1⟩
abbrev fCTX_W_STAT_aref : Fld := ⟨aCTX_W_STAT, 12, 4⟩
abbrev fCTX_W_STAT_hcause : Fld := ⟨aCTX_W_STAT, 8, 4⟩
abbrev fCTX_W_STAT_phase : Fld := ⟨aCTX_W_STAT, 4, 4⟩
abbrev fCTX_W_STAT_state : Fld := ⟨aCTX_W_STAT, 0, 2⟩
/-- Address of CTX_W_CFG. -/
def aCTX_W_CFG : Nat := 0x40051008
abbrev fCTX_W_CFG_kid : Fld := ⟨aCTX_W_CFG, 24, 8⟩
abbrev fCTX_W_CFG_sets : Fld := ⟨aCTX_W_CFG, 22, 2⟩
abbrev fCTX_W_CFG_priv : Fld := ⟨aCTX_W_CFG, 21, 1⟩
abbrev fCTX_W_CFG_pg_en : Fld := ⟨aCTX_W_CFG, 20, 1⟩
abbrev fCTX_W_CFG_mg : Fld := ⟨aCTX_W_CFG, 15, 5⟩
abbrev fCTX_W_CFG_mg_en : Fld := ⟨aCTX_W_CFG, 14, 1⟩
abbrev fCTX_W_CFG_tbg : Fld := ⟨aCTX_W_CFG, 9, 5⟩
abbrev fCTX_W_CFG_tbg_en : Fld := ⟨aCTX_W_CFG, 8, 1⟩
/-- Address of CTX_W_LEGS. -/
def aCTX_W_LEGS : Nat := 0x4005100C
abbrev fCTX_W_LEGS_cnt : Fld := ⟨aCTX_W_LEGS, 8, 4⟩
abbrev fCTX_W_LEGS_first : Fld := ⟨aCTX_W_LEGS, 0, 7⟩
/-- Address of CTX_W_TRIG. -/
def aCTX_W_TRIG : Nat := 0x40051010
abbrev fCTX_W_TRIG_t_in : Fld := ⟨aCTX_W_TRIG, 24, 8⟩
abbrev fCTX_W_TRIG_ovr_lim : Fld := ⟨aCTX_W_TRIG, 20, 4⟩
abbrev fCTX_W_TRIG_decim : Fld := ⟨aCTX_W_TRIG, 12, 8⟩
abbrev fCTX_W_TRIG_pts : Fld := ⟨aCTX_W_TRIG, 10, 2⟩
abbrev fCTX_W_TRIG_tbg : Fld := ⟨aCTX_W_TRIG, 5, 5⟩
abbrev fCTX_W_TRIG_src : Fld := ⟨aCTX_W_TRIG, 0, 2⟩
/-- Address of CTX_W_TIMER. -/
def aCTX_W_TIMER : Nat := 0x40051014
abbrev fCTX_W_TIMER_per : Fld := ⟨aCTX_W_TIMER, 0, 22⟩
/-- Address of CTX_W_SRC. -/
def aCTX_W_SRC : Nat := 0x40051018
abbrev fCTX_W_SRC_src : Fld := ⟨aCTX_W_SRC, 12, 2⟩
abbrev fCTX_W_SRC_loss : Fld := ⟨aCTX_W_SRC, 10, 2⟩
abbrev fCTX_W_SRC_out : Fld := ⟨aCTX_W_SRC, 7, 3⟩
abbrev fCTX_W_SRC_up : Fld := ⟨aCTX_W_SRC, 0, 7⟩
/-- Address of CTX_W_ADM. -/
def aCTX_W_ADM : Nat := 0x4005101C
abbrev fCTX_W_ADM_w : Fld := ⟨aCTX_W_ADM, 16, 16⟩
abbrev fCTX_W_ADM_load : Fld := ⟨aCTX_W_ADM, 0, 16⟩
/-- Address of CTX_W_SETP. -/
def aCTX_W_SETP : Nat := 0x40051020
abbrev fCTX_W_SETP_sp : Fld := ⟨aCTX_W_SETP, 0, 32⟩
/-- Address of CTX_W_ILIM. -/
def aCTX_W_ILIM : Nat := 0x40051024
abbrev fCTX_W_ILIM_ilim : Fld := ⟨aCTX_W_ILIM, 0, 32⟩
/-- Address of CTX_W_ISEL. -/
def aCTX_W_ISEL : Nat := 0x40051028
abbrev fCTX_W_ISEL_idx : Fld := ⟨aCTX_W_ISEL, 0, 3⟩
/-- Address of CTX_W_ITEG. -/
def aCTX_W_ITEG : Nat := 0x4005102C
abbrev fCTX_W_ITEG_val : Fld := ⟨aCTX_W_ITEG, 0, 32⟩
/-- Address of CTX_W_PADDR. -/
def aCTX_W_PADDR : Nat := 0x40051030
abbrev fCTX_W_PADDR_word : Fld := ⟨aCTX_W_PADDR, 2, 8⟩
/-- Address of CTX_W_PDATA. -/
def aCTX_W_PDATA : Nat := 0x40051034
abbrev fCTX_W_PDATA_data : Fld := ⟨aCTX_W_PDATA, 0, 32⟩
/-- Address of CTX_W_PCMT. -/
def aCTX_W_PCMT : Nat := 0x40051038
abbrev fCTX_W_PCMT_cmd : Fld := ⟨aCTX_W_PCMT, 0, 10⟩
/-- Address of CTX_W_PGEN. -/
def aCTX_W_PGEN : Nat := 0x4005103C
abbrev fCTX_W_PGEN_pending : Fld := ⟨aCTX_W_PGEN, 8, 8⟩
abbrev fCTX_W_PGEN_applied : Fld := ⟨aCTX_W_PGEN, 0, 8⟩
/-- Address of CTX_W_PCRC. -/
def aCTX_W_PCRC : Nat := 0x40051040
abbrev fCTX_W_PCRC_ref : Fld := ⟨aCTX_W_PCRC, 0, 32⟩
/-- Address of CTX_W_SUP_STAT. -/
def aCTX_W_SUP_STAT : Nat := 0x40051044
abbrev fCTX_W_SUP_STAT_t_cross : Fld := ⟨aCTX_W_SUP_STAT, 16, 16⟩
abbrev fCTX_W_SUP_STAT_t_sat : Fld := ⟨aCTX_W_SUP_STAT, 0, 16⟩
/-- Address of CTX_W_CNT_STEP. -/
def aCTX_W_CNT_STEP : Nat := 0x40051048
abbrev fCTX_W_CNT_STEP_steps : Fld := ⟨aCTX_W_CNT_STEP, 0, 32⟩
/-- Address of CTX_W_CNT_EVT. -/
def aCTX_W_CNT_EVT : Nat := 0x4005104C
abbrev fCTX_W_CNT_EVT_halt : Fld := ⟨aCTX_W_CNT_EVT, 24, 8⟩
abbrev fCTX_W_CNT_EVT_stale : Fld := ⟨aCTX_W_CNT_EVT, 16, 8⟩
abbrev fCTX_W_CNT_EVT_cancel : Fld := ⟨aCTX_W_CNT_EVT, 8, 8⟩
abbrev fCTX_W_CNT_EVT_ovr : Fld := ⟨aCTX_W_CNT_EVT, 0, 8⟩
/-- Address of CTX_W_CYC. -/
def aCTX_W_CYC : Nat := 0x40051050
abbrev fCTX_W_CYC_max : Fld := ⟨aCTX_W_CYC, 16, 16⟩
abbrev fCTX_W_CYC_last : Fld := ⟨aCTX_W_CYC, 0, 16⟩
/-- Address of CTX_W_IRQ_RAW. -/
def aCTX_W_IRQ_RAW : Nat := 0x40051054
abbrev fCTX_W_IRQ_RAW_src : Fld := ⟨aCTX_W_IRQ_RAW, 0, 8⟩
/-- Address of CTX_W_IRQ_EN. -/
def aCTX_W_IRQ_EN : Nat := 0x40051058
abbrev fCTX_W_IRQ_EN_en : Fld := ⟨aCTX_W_IRQ_EN, 0, 8⟩
/-- Address of CTX_W_PG_STAT. -/
def aCTX_W_PG_STAT : Nat := 0x4005105C
abbrev fCTX_W_PG_STAT_moving : Fld := ⟨aCTX_W_PG_STAT, 1, 1⟩
abbrev fCTX_W_PG_STAT_done : Fld := ⟨aCTX_W_PG_STAT, 0, 1⟩
/-- Address of CTX_W_OUT(i). -/
def aCTX_W_OUT (i : Nat) : Nat := 0x400510A0 + i % 8 * 0x4
abbrev fCTX_W_OUT_val (i : Nat) : Fld := ⟨aCTX_W_OUT i, 0, 32⟩
/-- Address of GIU_LOG_CFG. -/
def aGIU_LOG_CFG : Nat := 0x40060040
abbrev fGIU_LOG_CFG_stop_on_trip : Fld := ⟨aGIU_LOG_CFG, 4, 1⟩
abbrev fGIU_LOG_CFG_en : Fld := ⟨aGIU_LOG_CFG, 3, 1⟩
abbrev fGIU_LOG_CFG_unit : Fld := ⟨aGIU_LOG_CFG, 0, 3⟩
/-- Address of GIU_LOG_WP. -/
def aGIU_LOG_WP : Nat := 0x40060044
abbrev fGIU_LOG_WP_wrapped : Fld := ⟨aGIU_LOG_WP, 8, 1⟩
abbrev fGIU_LOG_WP_wp : Fld := ⟨aGIU_LOG_WP, 0, 8⟩
/-- Address of GIU_SEQ_ALL. -/
def aGIU_SEQ_ALL : Nat := 0x40060048
abbrev fGIU_SEQ_ALL_st : Fld := ⟨aGIU_SEQ_ALL, 0, 24⟩
/-- Address of GIU_PLL_ALL. -/
def aGIU_PLL_ALL : Nat := 0x4006004C
abbrev fGIU_PLL_ALL_st : Fld := ⟨aGIU_PLL_ALL, 0, 16⟩
/-- Address of GIU_TRK_ALL. -/
def aGIU_TRK_ALL : Nat := 0x40060050
abbrev fGIU_TRK_ALL_st : Fld := ⟨aGIU_TRK_ALL, 0, 32⟩
/-- Address of GIU_FRAME_CNT. -/
def aGIU_FRAME_CNT : Nat := 0x40060054
abbrev fGIU_FRAME_CNT_cnt : Fld := ⟨aGIU_FRAME_CNT, 0, 32⟩
/-- Address of GIU_PLL_CFG(u). -/
def aGIU_PLL_CFG (i : Nat) : Nat := 0x40061000 + i % 8 * 0x200
abbrev fGIU_PLL_CFG_ofs (i : Nat) : Fld := ⟨aGIU_PLL_CFG i, 16, 16⟩
abbrev fGIU_PLL_CFG_fnom (i : Nat) : Fld := ⟨aGIU_PLL_CFG i, 4, 1⟩
abbrev fGIU_PLL_CFG_ll (i : Nat) : Fld := ⟨aGIU_PLL_CFG i, 3, 1⟩
abbrev fGIU_PLL_CFG_rate (i : Nat) : Fld := ⟨aGIU_PLL_CFG i, 1, 2⟩
abbrev fGIU_PLL_CFG_en (i : Nat) : Fld := ⟨aGIU_PLL_CFG i, 0, 1⟩
/-- Address of GIU_PLL_AIN(u). -/
def aGIU_PLL_AIN (i : Nat) : Nat := 0x40061004 + i % 8 * 0x200
abbrev fGIU_PLL_AIN_ain_c (i : Nat) : Fld := ⟨aGIU_PLL_AIN i, 16, 7⟩
abbrev fGIU_PLL_AIN_ain_b (i : Nat) : Fld := ⟨aGIU_PLL_AIN i, 8, 7⟩
abbrev fGIU_PLL_AIN_ain_a (i : Nat) : Fld := ⟨aGIU_PLL_AIN i, 0, 7⟩
/-- Address of GIU_PLL_SCALE(u). -/
def aGIU_PLL_SCALE (i : Nat) : Nat := 0x40061008 + i % 8 * 0x200
abbrev fGIU_PLL_SCALE_scale (i : Nat) : Fld := ⟨aGIU_PLL_SCALE i, 0, 32⟩
/-- Address of GIU_PLL_VNOM(u). -/
def aGIU_PLL_VNOM (i : Nat) : Nat := 0x4006100C + i % 8 * 0x200
abbrev fGIU_PLL_VNOM_vnom (i : Nat) : Fld := ⟨aGIU_PLL_VNOM i, 0, 32⟩
/-- Address of GIU_PLL_K(u). -/
def aGIU_PLL_K (i : Nat) : Nat := 0x40061010 + i % 8 * 0x200
abbrev fGIU_PLL_K_k (i : Nat) : Fld := ⟨aGIU_PLL_K i, 0, 32⟩
/-- Address of GIU_PLL_KP(u). -/
def aGIU_PLL_KP (i : Nat) : Nat := 0x40061014 + i % 8 * 0x200
abbrev fGIU_PLL_KP_kp (i : Nat) : Fld := ⟨aGIU_PLL_KP i, 0, 32⟩
/-- Address of GIU_PLL_KI(u). -/
def aGIU_PLL_KI (i : Nat) : Nat := 0x40061018 + i % 8 * 0x200
abbrev fGIU_PLL_KI_ki (i : Nat) : Fld := ⟨aGIU_PLL_KI i, 0, 32⟩
/-- Address of GIU_PLL_STAT(u). -/
def aGIU_PLL_STAT (i : Nat) : Nat := 0x4006101C + i % 8 * 0x200
abbrev fGIU_PLL_STAT_state (i : Nat) : Fld := ⟨aGIU_PLL_STAT i, 0, 2⟩
/-- Address of GIU_PLL_FREQ(u). -/
def aGIU_PLL_FREQ (i : Nat) : Nat := 0x40061020 + i % 8 * 0x200
abbrev fGIU_PLL_FREQ_f (i : Nat) : Fld := ⟨aGIU_PLL_FREQ i, 0, 32⟩
/-- Address of GIU_PLL_VPOS(u). -/
def aGIU_PLL_VPOS (i : Nat) : Nat := 0x40061024 + i % 8 * 0x200
abbrev fGIU_PLL_VPOS_vpos (i : Nat) : Fld := ⟨aGIU_PLL_VPOS i, 0, 32⟩
/-- Address of GIU_PLL_VNEG(u). -/
def aGIU_PLL_VNEG (i : Nat) : Nat := 0x40061028 + i % 8 * 0x200
abbrev fGIU_PLL_VNEG_ratio (i : Nat) : Fld := ⟨aGIU_PLL_VNEG i, 0, 32⟩
/-- Address of GIU_PLL_VPH(u)(x). -/
def aGIU_PLL_VPH (i : Nat) (j : Nat) : Nat := 0x4006102C + i % 8 * 0x200 + j % 3 * 0x4
abbrev fGIU_PLL_VPH_mag (i : Nat) (j : Nat) : Fld := ⟨aGIU_PLL_VPH i j, 0, 32⟩
/-- Address of GIU_PLL_MISS(u). -/
def aGIU_PLL_MISS (i : Nat) : Nat := 0x40061038 + i % 8 * 0x200
abbrev fGIU_PLL_MISS_cnt (i : Nat) : Fld := ⟨aGIU_PLL_MISS i, 0, 32⟩
/-- Address of GIU_RT_CFG(u). -/
def aGIU_RT_CFG (i : Nat) : Nat := 0x40061040 + i % 8 * 0x200
abbrev fGIU_RT_CFG_fhyst (i : Nat) : Fld := ⟨aGIU_RT_CFG i, 24, 8⟩
abbrev fGIU_RT_CFG_vhyst (i : Nat) : Fld := ⟨aGIU_RT_CFG i, 16, 8⟩
abbrev fGIU_RT_CFG_t_rec (i : Nat) : Fld := ⟨aGIU_RT_CFG i, 6, 10⟩
abbrev fGIU_RT_CFG_trip_latch (i : Nat) : Fld := ⟨aGIU_RT_CFG i, 2, 1⟩
abbrev fGIU_RT_CFG_meas (i : Nat) : Fld := ⟨aGIU_RT_CFG i, 1, 1⟩
abbrev fGIU_RT_CFG_en (i : Nat) : Fld := ⟨aGIU_RT_CFG i, 0, 1⟩
/-- Address of GIU_RT_STAT(u). -/
def aGIU_RT_STAT (i : Nat) : Nat := 0x40061044 + i % 8 * 0x200
abbrev fGIU_RT_STAT_pt (i : Nat) : Fld := ⟨aGIU_RT_STAT i, 11, 5⟩
abbrev fGIU_RT_STAT_state (i : Nat) : Fld := ⟨aGIU_RT_STAT i, 0, 3⟩
/-- Address of GIU_RT_RCV(u). -/
def aGIU_RT_RCV (i : Nat) : Nat := 0x40061048 + i % 8 * 0x200
abbrev fGIU_RT_RCV_v_hi (i : Nat) : Fld := ⟨aGIU_RT_RCV i, 16, 16⟩
abbrev fGIU_RT_RCV_v_lo (i : Nat) : Fld := ⟨aGIU_RT_RCV i, 0, 16⟩
/-- Address of GIU_RT_RCF(u). -/
def aGIU_RT_RCF (i : Nat) : Nat := 0x4006104C + i % 8 * 0x200
abbrev fGIU_RT_RCF_f_hi (i : Nat) : Fld := ⟨aGIU_RT_RCF i, 16, 16⟩
abbrev fGIU_RT_RCF_f_lo (i : Nat) : Fld := ⟨aGIU_RT_RCF i, 0, 16⟩
/-- Address of GIU_RT_RCT(u). -/
def aGIU_RT_RCT (i : Nat) : Nat := 0x40061050 + i % 8 * 0x200
abbrev fGIU_RT_RCT_t_rc (i : Nat) : Fld := ⟨aGIU_RT_RCT i, 0, 14⟩
/-- Address of GIU_RT_CMD(u). -/
def aGIU_RT_CMD (i : Nat) : Nat := 0x40061054 + i % 8 * 0x200
abbrev fGIU_RT_CMD_ack (i : Nat) : Fld := ⟨aGIU_RT_CMD i, 0, 1⟩
/-- Address of GIU_RT_TRIPS(u). -/
def aGIU_RT_TRIPS (i : Nat) : Nat := 0x40061058 + i % 8 * 0x200
abbrev fGIU_RT_TRIPS_cnt (i : Nat) : Fld := ⟨aGIU_RT_TRIPS i, 0, 32⟩
/-- Address of GIU_RT_CESS(u). -/
def aGIU_RT_CESS (i : Nat) : Nat := 0x4006105C + i % 8 * 0x200
abbrev fGIU_RT_CESS_cnt (i : Nat) : Fld := ⟨aGIU_RT_CESS i, 0, 32⟩
/-- Address of GIU_RT_LV(u)(i). -/
def aGIU_RT_LV (i : Nat) (j : Nat) : Nat := 0x40061060 + i % 8 * 0x200 + j % 8 * 0x4
abbrev fGIU_RT_LV_point (i : Nat) (j : Nat) : Fld := ⟨aGIU_RT_LV i j, 0, 32⟩
/-- Address of GIU_RT_HV(u)(i). -/
def aGIU_RT_HV (i : Nat) (j : Nat) : Nat := 0x40061080 + i % 8 * 0x200 + j % 8 * 0x4
abbrev fGIU_RT_HV_point (i : Nat) (j : Nat) : Fld := ⟨aGIU_RT_HV i j, 0, 32⟩
/-- Address of GIU_RT_LF(u)(i). -/
def aGIU_RT_LF (i : Nat) (j : Nat) : Nat := 0x400610A0 + i % 8 * 0x200 + j % 8 * 0x4
abbrev fGIU_RT_LF_point (i : Nat) (j : Nat) : Fld := ⟨aGIU_RT_LF i j, 0, 32⟩
/-- Address of GIU_RT_HF(u)(i). -/
def aGIU_RT_HF (i : Nat) (j : Nat) : Nat := 0x400610C0 + i % 8 * 0x200 + j % 8 * 0x4
abbrev fGIU_RT_HF_point (i : Nat) (j : Nat) : Fld := ⟨aGIU_RT_HF i j, 0, 32⟩
/-- Address of GIU_ISL_CFG(u). -/
def aGIU_ISL_CFG (i : Nat) : Nat := 0x40061100 + i % 8 * 0x200
abbrev fGIU_ISL_CFG_dfc (i : Nat) : Fld := ⟨aGIU_ISL_CFG i, 3, 1⟩
abbrev fGIU_ISL_CFG_afd (i : Nat) : Fld := ⟨aGIU_ISL_CFG i, 2, 1⟩
abbrev fGIU_ISL_CFG_vs (i : Nat) : Fld := ⟨aGIU_ISL_CFG i, 1, 1⟩
abbrev fGIU_ISL_CFG_rocof (i : Nat) : Fld := ⟨aGIU_ISL_CFG i, 0, 1⟩
/-- Address of GIU_ISL_ROCOF(u). -/
def aGIU_ISL_ROCOF (i : Nat) : Nat := 0x40061104 + i % 8 * 0x200
abbrev fGIU_ISL_ROCOF_t_conf (i : Nat) : Fld := ⟨aGIU_ISL_ROCOF i, 20, 12⟩
abbrev fGIU_ISL_ROCOF_win (i : Nat) : Fld := ⟨aGIU_ISL_ROCOF i, 10, 10⟩
abbrev fGIU_ISL_ROCOF_lim (i : Nat) : Fld := ⟨aGIU_ISL_ROCOF i, 0, 10⟩
/-- Address of GIU_ISL_VS(u). -/
def aGIU_ISL_VS (i : Nat) : Nat := 0x40061108 + i % 8 * 0x200
abbrev fGIU_ISL_VS_lim (i : Nat) : Fld := ⟨aGIU_ISL_VS i, 0, 10⟩
/-- Address of GIU_ISL_AFD(u). -/
def aGIU_ISL_AFD (i : Nat) : Nat := 0x4006110C + i % 8 * 0x200
abbrev fGIU_ISL_AFD_pat (i : Nat) : Fld := ⟨aGIU_ISL_AFD i, 16, 16⟩
abbrev fGIU_ISL_AFD_th0 (i : Nat) : Fld := ⟨aGIU_ISL_AFD i, 8, 8⟩
/-- Address of GIU_ISL_KPF(u). -/
def aGIU_ISL_KPF (i : Nat) : Nat := 0x40061110 + i % 8 * 0x200
abbrev fGIU_ISL_KPF_kpf (i : Nat) : Fld := ⟨aGIU_ISL_KPF i, 0, 32⟩
/-- Address of GIU_ISL_DFC(u). -/
def aGIU_ISL_DFC (i : Nat) : Nat := 0x40061114 + i % 8 * 0x200
abbrev fGIU_ISL_DFC_t_conf (i : Nat) : Fld := ⟨aGIU_ISL_DFC i, 20, 12⟩
abbrev fGIU_ISL_DFC_df_lim (i : Nat) : Fld := ⟨aGIU_ISL_DFC i, 0, 16⟩
/-- Address of GIU_ISL_ARM(u). -/
def aGIU_ISL_ARM (i : Nat) : Nat := 0x40061118 + i % 8 * 0x200
abbrev fGIU_ISL_ARM_i_arm (i : Nat) : Fld := ⟨aGIU_ISL_ARM i, 0, 16⟩
/-- Address of GIU_ISL_STAT(u). -/
def aGIU_ISL_STAT (i : Nat) : Nat := 0x4006111C + i % 8 * 0x200
abbrev fGIU_ISL_STAT_armed (i : Nat) : Fld := ⟨aGIU_ISL_STAT i, 4, 1⟩
abbrev fGIU_ISL_STAT_crit (i : Nat) : Fld := ⟨aGIU_ISL_STAT i, 0, 4⟩
/-- Address of GIU_ISL_FIRST(u). -/
def aGIU_ISL_FIRST (i : Nat) : Nat := 0x40061120 + i % 8 * 0x200
abbrev fGIU_ISL_FIRST_t (i : Nat) : Fld := ⟨aGIU_ISL_FIRST i, 0, 32⟩
/-- Address of GIU_ISL_TRIPT(u). -/
def aGIU_ISL_TRIPT (i : Nat) : Nat := 0x40061124 + i % 8 * 0x200
abbrev fGIU_ISL_TRIPT_t (i : Nat) : Fld := ⟨aGIU_ISL_TRIPT i, 0, 32⟩
/-- Address of GIU_ISL_CNT(u). -/
def aGIU_ISL_CNT (i : Nat) : Nat := 0x40061128 + i % 8 * 0x200
abbrev fGIU_ISL_CNT_cnt (i : Nat) : Fld := ⟨aGIU_ISL_CNT i, 0, 32⟩
/-- Address of GIU_TRK_CFG(t). -/
def aGIU_TRK_CFG (i : Nat) : Nat := 0x40062000 + i % 16 * 0x40
abbrev fGIU_TRK_CFG_t_trk (i : Nat) : Fld := ⟨aGIU_TRK_CFG i, 16, 16⟩
abbrev fGIU_TRK_CFG_n_pts (i : Nat) : Fld := ⟨aGIU_TRK_CFG i, 10, 6⟩
abbrev fGIU_TRK_CFG_jump (i : Nat) : Fld := ⟨aGIU_TRK_CFG i, 2, 8⟩
abbrev fGIU_TRK_CFG_scan_en (i : Nat) : Fld := ⟨aGIU_TRK_CFG i, 1, 1⟩
abbrev fGIU_TRK_CFG_en (i : Nat) : Fld := ⟨aGIU_TRK_CFG i, 0, 1⟩
/-- Address of GIU_TRK_VMIN(t). -/
def aGIU_TRK_VMIN (i : Nat) : Nat := 0x40062004 + i % 16 * 0x40
abbrev fGIU_TRK_VMIN_v_min (i : Nat) : Fld := ⟨aGIU_TRK_VMIN i, 0, 32⟩
/-- Address of GIU_TRK_VMAX(t). -/
def aGIU_TRK_VMAX (i : Nat) : Nat := 0x40062008 + i % 16 * 0x40
abbrev fGIU_TRK_VMAX_v_max (i : Nat) : Fld := ⟨aGIU_TRK_VMAX i, 0, 32⟩
/-- Address of GIU_TRK_VSTART(t). -/
def aGIU_TRK_VSTART (i : Nat) : Nat := 0x4006200C + i % 16 * 0x40
abbrev fGIU_TRK_VSTART_v_start (i : Nat) : Fld := ⟨aGIU_TRK_VSTART i, 0, 32⟩
/-- Address of GIU_TRK_STEPMIN(t). -/
def aGIU_TRK_STEPMIN (i : Nat) : Nat := 0x40062010 + i % 16 * 0x40
abbrev fGIU_TRK_STEPMIN_step_min (i : Nat) : Fld := ⟨aGIU_TRK_STEPMIN i, 0, 32⟩
/-- Address of GIU_TRK_STEPMAX(t). -/
def aGIU_TRK_STEPMAX (i : Nat) : Nat := 0x40062014 + i % 16 * 0x40
abbrev fGIU_TRK_STEPMAX_step_max (i : Nat) : Fld := ⟨aGIU_TRK_STEPMAX i, 0, 32⟩
/-- Address of GIU_TRK_KSTEP(t). -/
def aGIU_TRK_KSTEP (i : Nat) : Nat := 0x40062018 + i % 16 * 0x40
abbrev fGIU_TRK_KSTEP_k_step (i : Nat) : Fld := ⟨aGIU_TRK_KSTEP i, 0, 32⟩
/-- Address of GIU_TRK_GEPS(t). -/
def aGIU_TRK_GEPS (i : Nat) : Nat := 0x4006201C + i % 16 * 0x40
abbrev fGIU_TRK_GEPS_g_eps (i : Nat) : Fld := ⟨aGIU_TRK_GEPS i, 0, 32⟩
/-- Address of GIU_TRK_SCAN_CFG(t). -/
def aGIU_TRK_SCAN_CFG (i : Nat) : Nat := 0x40062020 + i % 16 * 0x40
abbrev fGIU_TRK_SCAN_CFG_per (i : Nat) : Fld := ⟨aGIU_TRK_SCAN_CFG i, 12, 12⟩
abbrev fGIU_TRK_SCAN_CFG_dwell (i : Nat) : Fld := ⟨aGIU_TRK_SCAN_CFG i, 0, 12⟩
/-- Address of GIU_TRK_CMD(t). -/
def aGIU_TRK_CMD (i : Nat) : Nat := 0x40062024 + i % 16 * 0x40
abbrev fGIU_TRK_CMD_scan (i : Nat) : Fld := ⟨aGIU_TRK_CMD i, 0, 1⟩
/-- Address of GIU_TRK_VREF(t). -/
def aGIU_TRK_VREF (i : Nat) : Nat := 0x40062028 + i % 16 * 0x40
abbrev fGIU_TRK_VREF_v_ref (i : Nat) : Fld := ⟨aGIU_TRK_VREF i, 0, 32⟩
/-- Address of GIU_TRK_PWR(t). -/
def aGIU_TRK_PWR (i : Nat) : Nat := 0x4006202C + i % 16 * 0x40
abbrev fGIU_TRK_PWR_p (i : Nat) : Fld := ⟨aGIU_TRK_PWR i, 0, 32⟩
/-- Address of GIU_TRK_STAT(t). -/
def aGIU_TRK_STAT (i : Nat) : Nat := 0x40062030 + i % 16 * 0x40
abbrev fGIU_TRK_STAT_abort (i : Nat) : Fld := ⟨aGIU_TRK_STAT i, 2, 1⟩
abbrev fGIU_TRK_STAT_state (i : Nat) : Fld := ⟨aGIU_TRK_STAT i, 0, 2⟩
/-- Address of GIU_TRK_SCAN(t). -/
def aGIU_TRK_SCAN (i : Nat) : Nat := 0x40062034 + i % 16 * 0x40
abbrev fGIU_TRK_SCAN_cnt (i : Nat) : Fld := ⟨aGIU_TRK_SCAN i, 0, 32⟩
/-- Address of GIU_TRK_JUMP(t). -/
def aGIU_TRK_JUMP (i : Nat) : Nat := 0x40062038 + i % 16 * 0x40
abbrev fGIU_TRK_JUMP_cnt (i : Nat) : Fld := ⟨aGIU_TRK_JUMP i, 0, 32⟩
/-- Address of GIU_TRK_RSVD(t). -/
def aGIU_TRK_RSVD (i : Nat) : Nat := 0x4006203C + i % 16 * 0x40
/-- Address of THY_NOW_LO. -/
def aTHY_NOW_LO : Nat := 0x40020040
abbrev fTHY_NOW_LO_lo : Fld := ⟨aTHY_NOW_LO, 0, 32⟩
/-- Address of THY_NOW_HI. -/
def aTHY_NOW_HI : Nat := 0x40020044
abbrev fTHY_NOW_HI_hi : Fld := ⟨aTHY_NOW_HI, 0, 32⟩
/-- Address of THY_NOW_FINE. -/
def aTHY_NOW_FINE : Nat := 0x40020048
abbrev fTHY_NOW_FINE_fine : Fld := ⟨aTHY_NOW_FINE, 0, 5⟩
/-- Address of THY_SLEW. -/
def aTHY_SLEW : Nat := 0x4002004C
abbrev fTHY_SLEW_slew : Fld := ⟨aTHY_SLEW, 0, 16⟩
/-- Address of THY_FCAL. -/
def aTHY_FCAL : Nat := 0x40020050
abbrev fTHY_FCAL_ok : Fld := ⟨aTHY_FCAL, 8, 1⟩
abbrev fTHY_FCAL_taps : Fld := ⟨aTHY_FCAL, 0, 7⟩
/-- Address of THY_LEG_EN(i). -/
def aTHY_LEG_EN (i : Nat) : Nat := 0x40020054 + i % 4 * 0x4
abbrev fTHY_LEG_EN_en (i : Nat) : Fld := ⟨aTHY_LEG_EN i, 0, 32⟩
/-- Address of THY_RUN. -/
def aTHY_RUN : Nat := 0x40020064
abbrev fTHY_RUN_run : Fld := ⟨aTHY_RUN, 0, 32⟩
/-- Address of THY_KERN. -/
def aTHY_KERN : Nat := 0x40020068
abbrev fTHY_KERN_kern : Fld := ⟨aTHY_KERN, 0, 32⟩
/-- Address of THY_SHOOT_CNT. -/
def aTHY_SHOOT_CNT : Nat := 0x4002006C
abbrev fTHY_SHOOT_CNT_cnt : Fld := ⟨aTHY_SHOOT_CNT, 0, 32⟩
/-- Address of THY_TORN_CNT. -/
def aTHY_TORN_CNT : Nat := 0x40020070
abbrev fTHY_TORN_CNT_cnt : Fld := ⟨aTHY_TORN_CNT, 0, 32⟩
/-- Address of TBG(g)_CFG. -/
def aTBG_CFG (i : Nat) : Nat := 0x40021000 + i % 32 * 0x80
abbrev fTBG_CFG_direct (i : Nat) : Fld := ⟨aTBG_CFG i, 3, 1⟩
abbrev fTBG_CFG_upd (i : Nat) : Fld := ⟨aTBG_CFG i, 2, 1⟩
abbrev fTBG_CFG_mode (i : Nat) : Fld := ⟨aTBG_CFG i, 0, 2⟩
/-- Address of TBG(g)_PERIOD. -/
def aTBG_PERIOD (i : Nat) : Nat := 0x40021004 + i % 32 * 0x80
abbrev fTBG_PERIOD_t (i : Nat) : Fld := ⟨aTBG_PERIOD i, 0, 24⟩
/-- Address of TBG(g)_SMP. -/
def aTBG_SMP (i : Nat) : Nat := 0x40021008 + i % 32 * 0x80
abbrev fTBG_SMP_pts (i : Nat) : Fld := ⟨aTBG_SMP i, 16, 2⟩
abbrev fTBG_SMP_dly (i : Nat) : Fld := ⟨aTBG_SMP i, 0, 16⟩
/-- Address of TBG(g)_T0_LO. -/
def aTBG_T0_LO (i : Nat) : Nat := 0x4002100C + i % 32 * 0x80
abbrev fTBG_T0_LO_lo (i : Nat) : Fld := ⟨aTBG_T0_LO i, 0, 32⟩
/-- Address of TBG(g)_T0_HI. -/
def aTBG_T0_HI (i : Nat) : Nat := 0x40021010 + i % 32 * 0x80
abbrev fTBG_T0_HI_hi (i : Nat) : Fld := ⟨aTBG_T0_HI i, 0, 32⟩
/-- Address of TBG(g)_CMD. -/
def aTBG_CMD (i : Nat) : Nat := 0x40021014 + i % 32 * 0x80
abbrev fTBG_CMD_stop (i : Nat) : Fld := ⟨aTBG_CMD i, 1, 1⟩
abbrev fTBG_CMD_start (i : Nat) : Fld := ⟨aTBG_CMD i, 0, 1⟩
/-- Address of TBG(g)_COMMIT. -/
def aTBG_COMMIT (i : Nat) : Nat := 0x40021018 + i % 32 * 0x80
abbrev fTBG_COMMIT_cmd (i : Nat) : Fld := ⟨aTBG_COMMIT i, 0, 10⟩
/-- Address of TBG(g)_GEN. -/
def aTBG_GEN (i : Nat) : Nat := 0x4002101C + i % 32 * 0x80
abbrev fTBG_GEN_pending (i : Nat) : Fld := ⟨aTBG_GEN i, 8, 8⟩
abbrev fTBG_GEN_applied (i : Nat) : Fld := ⟨aTBG_GEN i, 0, 8⟩
/-- Address of TBG(g)_STAT. -/
def aTBG_STAT (i : Nat) : Nat := 0x40021020 + i % 32 * 0x80
abbrev fTBG_STAT_pper (i : Nat) : Fld := ⟨aTBG_STAT i, 7, 1⟩
abbrev fTBG_STAT_adm_ref (i : Nat) : Fld := ⟨aTBG_STAT i, 6, 1⟩
abbrev fTBG_STAT_torn (i : Nat) : Fld := ⟨aTBG_STAT i, 5, 1⟩
abbrev fTBG_STAT_hold (i : Nat) : Fld := ⟨aTBG_STAT i, 4, 1⟩
abbrev fTBG_STAT_cmt_pend (i : Nat) : Fld := ⟨aTBG_STAT i, 3, 1⟩
abbrev fTBG_STAT_kern (i : Nat) : Fld := ⟨aTBG_STAT i, 2, 1⟩
abbrev fTBG_STAT_start_pend (i : Nat) : Fld := ⟨aTBG_STAT i, 1, 1⟩
abbrev fTBG_STAT_run (i : Nat) : Fld := ⟨aTBG_STAT i, 0, 1⟩
/-- Address of TBG(g)_IRQ_RAW. -/
def aTBG_IRQ_RAW (i : Nat) : Nat := 0x40021024 + i % 32 * 0x80
abbrev fTBG_IRQ_RAW_src (i : Nat) : Fld := ⟨aTBG_IRQ_RAW i, 0, 8⟩
/-- Address of TBG(g)_IRQ_EN. -/
def aTBG_IRQ_EN (i : Nat) : Nat := 0x40021028 + i % 32 * 0x80
abbrev fTBG_IRQ_EN_en (i : Nat) : Fld := ⟨aTBG_IRQ_EN i, 0, 8⟩
/-- Address of TBG(g)_NEXT_LO. -/
def aTBG_NEXT_LO (i : Nat) : Nat := 0x4002102C + i % 32 * 0x80
abbrev fTBG_NEXT_LO_lo (i : Nat) : Fld := ⟨aTBG_NEXT_LO i, 0, 32⟩
/-- Address of TBG(g)_NEXT_HI. -/
def aTBG_NEXT_HI (i : Nat) : Nat := 0x40021030 + i % 32 * 0x80
abbrev fTBG_NEXT_HI_hi (i : Nat) : Fld := ⟨aTBG_NEXT_HI i, 0, 32⟩
/-- Address of TBG(g)_HOFS. -/
def aTBG_HOFS (i : Nat) : Nat := 0x40021034 + i % 32 * 0x80
abbrev fTBG_HOFS_hofs (i : Nat) : Fld := ⟨aTBG_HOFS i, 0, 16⟩
/-- Address of TBG(g)_PCNT. -/
def aTBG_PCNT (i : Nat) : Nat := 0x40021038 + i % 32 * 0x80
abbrev fTBG_PCNT_cnt (i : Nat) : Fld := ⟨aTBG_PCNT i, 0, 32⟩
/-- Address of TBG(g)_TORN_CNT. -/
def aTBG_TORN_CNT (i : Nat) : Nat := 0x4002103C + i % 32 * 0x80
abbrev fTBG_TORN_CNT_cnt (i : Nat) : Fld := ⟨aTBG_TORN_CNT i, 0, 32⟩
/-- Address of TBG(g)_REPEAT_CNT. -/
def aTBG_REPEAT_CNT (i : Nat) : Nat := 0x40021040 + i % 32 * 0x80
abbrev fTBG_REPEAT_CNT_cnt (i : Nat) : Fld := ⟨aTBG_REPEAT_CNT i, 0, 32⟩
/-- Address of TBG(g)_SET_STEP. -/
def aTBG_SET_STEP (i : Nat) : Nat := 0x40021044 + i % 32 * 0x80
abbrev fTBG_SET_STEP_step (i : Nat) : Fld := ⟨aTBG_SET_STEP i, 0, 32⟩
/-- Address of TBG(g)_TRG0. -/
def aTBG_TRG0 (i : Nat) : Nat := 0x40021048 + i % 32 * 0x80
abbrev fTBG_TRG0_en (i : Nat) : Fld := ⟨aTBG_TRG0 i, 31, 1⟩
abbrev fTBG_TRG0_t (i : Nat) : Fld := ⟨aTBG_TRG0 i, 0, 24⟩
/-- Address of TBG(g)_TRG1. -/
def aTBG_TRG1 (i : Nat) : Nat := 0x4002104C + i % 32 * 0x80
abbrev fTBG_TRG1_en (i : Nat) : Fld := ⟨aTBG_TRG1 i, 31, 1⟩
abbrev fTBG_TRG1_t (i : Nat) : Fld := ⟨aTBG_TRG1 i, 0, 24⟩
/-- Address of TBG(g)_RSVD. -/
def aTBG_RSVD (i : Nat) : Nat := 0x40021050 + i % 32 * 0x80
/-- Address of LEG(n)_CFG. -/
def aLEG_CFG (i : Nat) : Nat := 0x40030000 + i % 128 * 0x40
abbrev fLEG_CFG_en (i : Nat) : Fld := ⟨aLEG_CFG i, 31, 1⟩
abbrev fLEG_CFG_mode (i : Nat) : Fld := ⟨aLEG_CFG i, 28, 3⟩
abbrev fLEG_CFG_wrap (i : Nat) : Fld := ⟨aLEG_CFG i, 27, 1⟩
abbrev fLEG_CFG_mg (i : Nat) : Fld := ⟨aLEG_CFG i, 22, 5⟩
abbrev fLEG_CFG_tbg (i : Nat) : Fld := ⟨aLEG_CFG i, 17, 5⟩
abbrev fLEG_CFG_dt (i : Nat) : Fld := ⟨aLEG_CFG i, 0, 16⟩
/-- Address of LEG(n)_CMP_ON. -/
def aLEG_CMP_ON (i : Nat) : Nat := 0x40030004 + i % 128 * 0x40
abbrev fLEG_CMP_ON_on (i : Nat) : Fld := ⟨aLEG_CMP_ON i, 0, 29⟩
/-- Address of LEG(n)_CMP_OFF. -/
def aLEG_CMP_OFF (i : Nat) : Nat := 0x40030008 + i % 128 * 0x40
abbrev fLEG_CMP_OFF_off (i : Nat) : Fld := ⟨aLEG_CMP_OFF i, 0, 29⟩
/-- Address of LEG(n)_CMP_GEN. -/
def aLEG_CMP_GEN (i : Nat) : Nat := 0x4003000C + i % 128 * 0x40
abbrev fLEG_CMP_GEN_dirty (i : Nat) : Fld := ⟨aLEG_CMP_GEN i, 9, 1⟩
abbrev fLEG_CMP_GEN_tagged (i : Nat) : Fld := ⟨aLEG_CMP_GEN i, 8, 1⟩
abbrev fLEG_CMP_GEN_gen (i : Nat) : Fld := ⟨aLEG_CMP_GEN i, 0, 8⟩
/-- Address of LEG(n)_LCMP_ON. -/
def aLEG_LCMP_ON (i : Nat) : Nat := 0x40030010 + i % 128 * 0x40
abbrev fLEG_LCMP_ON_on (i : Nat) : Fld := ⟨aLEG_LCMP_ON i, 0, 29⟩
/-- Address of LEG(n)_LCMP_OFF. -/
def aLEG_LCMP_OFF (i : Nat) : Nat := 0x40030014 + i % 128 * 0x40
abbrev fLEG_LCMP_OFF_off (i : Nat) : Fld := ⟨aLEG_LCMP_OFF i, 0, 29⟩
/-- Address of LEG(n)_TIM. -/
def aLEG_TIM (i : Nat) : Nat := 0x40030018 + i % 128 * 0x40
abbrev fLEG_TIM_minpw (i : Nat) : Fld := ⟨aLEG_TIM i, 16, 16⟩
abbrev fLEG_TIM_p_loff (i : Nat) : Fld := ⟨aLEG_TIM i, 9, 3⟩
abbrev fLEG_TIM_p_lon (i : Nat) : Fld := ⟨aLEG_TIM i, 6, 3⟩
abbrev fLEG_TIM_p_hoff (i : Nat) : Fld := ⟨aLEG_TIM i, 3, 3⟩
abbrev fLEG_TIM_p_hon (i : Nat) : Fld := ⟨aLEG_TIM i, 0, 3⟩
/-- Address of LEG(n)_STAT. -/
def aLEG_STAT (i : Nat) : Nat := 0x4003001C + i % 128 * 0x40
abbrev fLEG_STAT_shoot_cnt (i : Nat) : Fld := ⟨aLEG_STAT i, 24, 8⟩
abbrev fLEG_STAT_clamp_cnt (i : Nat) : Fld := ⟨aLEG_STAT i, 16, 8⟩
abbrev fLEG_STAT_hs (i : Nat) : Fld := ⟨aLEG_STAT i, 7, 1⟩
abbrev fLEG_STAT_ls (i : Nat) : Fld := ⟨aLEG_STAT i, 6, 1⟩
abbrev fLEG_STAT_kern (i : Nat) : Fld := ⟨aLEG_STAT i, 5, 1⟩
abbrev fLEG_STAT_krn_wr (i : Nat) : Fld := ⟨aLEG_STAT i, 4, 1⟩
abbrev fLEG_STAT_en_ref (i : Nat) : Fld := ⟨aLEG_STAT i, 3, 1⟩
abbrev fLEG_STAT_clamp (i : Nat) : Fld := ⟨aLEG_STAT i, 2, 1⟩
abbrev fLEG_STAT_shoot_req (i : Nat) : Fld := ⟨aLEG_STAT i, 1, 1⟩
abbrev fLEG_STAT_en (i : Nat) : Fld := ⟨aLEG_STAT i, 0, 1⟩
/-- Address of MG(m)_CFG. -/
def aMG_CFG (i : Nat) : Nat := 0x40032000 + i % 32 * 0x40
abbrev fMG_CFG_react (i : Nat) : Fld := ⟨aMG_CFG i, 2, 2⟩
abbrev fMG_CFG_type (i : Nat) : Fld := ⟨aMG_CFG i, 0, 2⟩
/-- Address of MG(m)_STAT. -/
def aMG_STAT (i : Nat) : Nat := 0x40032004 + i % 32 * 0x40
abbrev fMG_STAT_type (i : Nat) : Fld := ⟨aMG_STAT i, 16, 2⟩
abbrev fMG_STAT_nlegs (i : Nat) : Fld := ⟨aMG_STAT i, 8, 8⟩
abbrev fMG_STAT_state (i : Nat) : Fld := ⟨aMG_STAT i, 0, 3⟩
/-- Address of MG(m)_MEMB(i). -/
def aMG_MEMB (i : Nat) (j : Nat) : Nat := 0x40032008 + i % 32 * 0x40 + j % 4 * 0x4
abbrev fMG_MEMB_legs (i : Nat) (j : Nat) : Fld := ⟨aMG_MEMB i j, 0, 32⟩
/-- Address of MG(m)_IRQ_RAW. -/
def aMG_IRQ_RAW (i : Nat) : Nat := 0x40032018 + i % 32 * 0x40
abbrev fMG_IRQ_RAW_cmd_ref (i : Nat) : Fld := ⟨aMG_IRQ_RAW i, 7, 1⟩
abbrev fMG_IRQ_RAW_fallback (i : Nat) : Fld := ⟨aMG_IRQ_RAW i, 6, 1⟩
abbrev fMG_IRQ_RAW_clr_ref (i : Nat) : Fld := ⟨aMG_IRQ_RAW i, 5, 1⟩
abbrev fMG_IRQ_RAW_notify (i : Nat) : Fld := ⟨aMG_IRQ_RAW i, 4, 1⟩
abbrev fMG_IRQ_RAW_cbc (i : Nat) : Fld := ⟨aMG_IRQ_RAW i, 3, 1⟩
abbrev fMG_IRQ_RAW_latch (i : Nat) : Fld := ⟨aMG_IRQ_RAW i, 2, 1⟩
abbrev fMG_IRQ_RAW_safe_out (i : Nat) : Fld := ⟨aMG_IRQ_RAW i, 1, 1⟩
abbrev fMG_IRQ_RAW_safe_in (i : Nat) : Fld := ⟨aMG_IRQ_RAW i, 0, 1⟩
/-- Address of MG(m)_IRQ_EN. -/
def aMG_IRQ_EN (i : Nat) : Nat := 0x4003201C + i % 32 * 0x40
abbrev fMG_IRQ_EN_en (i : Nat) : Fld := ⟨aMG_IRQ_EN i, 0, 8⟩
/-- Address of THY_TRIP_SRC(s). -/
def aTHY_TRIP_SRC (i : Nat) : Nat := 0x40020100 + i % 96 * 0x4
abbrev fTHY_TRIP_SRC_en (i : Nat) : Fld := ⟨aTHY_TRIP_SRC i, 31, 1⟩
abbrev fTHY_TRIP_SRC_scope (i : Nat) : Fld := ⟨aTHY_TRIP_SRC i, 30, 1⟩
abbrev fTHY_TRIP_SRC_act (i : Nat) : Fld := ⟨aTHY_TRIP_SRC i, 28, 2⟩
abbrev fTHY_TRIP_SRC_blank (i : Nat) : Fld := ⟨aTHY_TRIP_SRC i, 27, 1⟩
abbrev fTHY_TRIP_SRC_pol (i : Nat) : Fld := ⟨aTHY_TRIP_SRC i, 26, 1⟩
abbrev fTHY_TRIP_SRC_tgt (i : Nat) : Fld := ⟨aTHY_TRIP_SRC i, 16, 7⟩
abbrev fTHY_TRIP_SRC_filt (i : Nat) : Fld := ⟨aTHY_TRIP_SRC i, 0, 8⟩
/-- Address of THY_TRIP_LVL(i). -/
def aTHY_TRIP_LVL (i : Nat) : Nat := 0x40020280 + i % 3 * 0x4
abbrev fTHY_TRIP_LVL_lvl (i : Nat) : Fld := ⟨aTHY_TRIP_LVL i, 0, 32⟩
/-- Address of THY_TRIP_SUM. -/
def aTHY_TRIP_SUM : Nat := 0x4002028C
abbrev fTHY_TRIP_SUM_sum : Fld := ⟨aTHY_TRIP_SUM, 0, 32⟩
/-- Address of THY_TRIP_CNT(s). -/
def aTHY_TRIP_CNT (i : Nat) : Nat := 0x40020290 + i % 96 * 0x4
abbrev fTHY_TRIP_CNT_cnt (i : Nat) : Fld := ⟨aTHY_TRIP_CNT i, 0, 32⟩
/-- Address of LEG(n)_TRIP_CFG. -/
def aLEG_TRIP_CFG (i : Nat) : Nat := 0x40030020 + i % 128 * 0x40
abbrev fLEG_TRIP_CFG_cbc_n (i : Nat) : Fld := ⟨aLEG_TRIP_CFG i, 24, 8⟩
abbrev fLEG_TRIP_CFG_cbc_dec (i : Nat) : Fld := ⟨aLEG_TRIP_CFG i, 16, 8⟩
abbrev fLEG_TRIP_CFG_shoot_act (i : Nat) : Fld := ⟨aLEG_TRIP_CFG i, 14, 2⟩
abbrev fLEG_TRIP_CFG_desat_act (i : Nat) : Fld := ⟨aLEG_TRIP_CFG i, 12, 2⟩
abbrev fLEG_TRIP_CFG_uvlo_act (i : Nat) : Fld := ⟨aLEG_TRIP_CFG i, 10, 2⟩
abbrev fLEG_TRIP_CFG_ot_act (i : Nat) : Fld := ⟨aLEG_TRIP_CFG i, 8, 2⟩
/-- Address of LEG(n)_TRIP_TIM. -/
def aLEG_TRIP_TIM (i : Nat) : Nat := 0x40030024 + i % 128 * 0x40
abbrev fLEG_TRIP_TIM_t_ref (i : Nat) : Fld := ⟨aLEG_TRIP_TIM i, 16, 11⟩
abbrev fLEG_TRIP_TIM_blank (i : Nat) : Fld := ⟨aLEG_TRIP_TIM i, 0, 11⟩
/-- Address of LEG(n)_TRIP_STAT. -/
def aLEG_TRIP_STAT (i : Nat) : Nat := 0x40030028 + i % 128 * 0x40
abbrev fLEG_TRIP_STAT_clr_refused (i : Nat) : Fld := ⟨aLEG_TRIP_STAT i, 24, 8⟩
abbrev fLEG_TRIP_STAT_cbc_cnt (i : Nat) : Fld := ⟨aLEG_TRIP_STAT i, 16, 8⟩
abbrev fLEG_TRIP_STAT_latched (i : Nat) : Fld := ⟨aLEG_TRIP_STAT i, 15, 1⟩
abbrev fLEG_TRIP_STAT_armed (i : Nat) : Fld := ⟨aLEG_TRIP_STAT i, 14, 1⟩
abbrev fLEG_TRIP_STAT_cbc_active (i : Nat) : Fld := ⟨aLEG_TRIP_STAT i, 13, 1⟩
abbrev fLEG_TRIP_STAT_src (i : Nat) : Fld := ⟨aLEG_TRIP_STAT i, 0, 10⟩
/-- Address of LEG(n)_TRIP_CLR. -/
def aLEG_TRIP_CLR (i : Nat) : Nat := 0x4003002C + i % 128 * 0x40
abbrev fLEG_TRIP_CLR_clr_arm (i : Nat) : Fld := ⟨aLEG_TRIP_CLR i, 1, 1⟩
abbrev fLEG_TRIP_CLR_clr (i : Nat) : Fld := ⟨aLEG_TRIP_CLR i, 0, 1⟩
/-- Address of LEG(n)_CBC_TOT. -/
def aLEG_CBC_TOT (i : Nat) : Nat := 0x40030030 + i % 128 * 0x40
abbrev fLEG_CBC_TOT_cnt (i : Nat) : Fld := ⟨aLEG_CBC_TOT i, 0, 32⟩
/-- Address of LEG(n)_TRIP_TIME. -/
def aLEG_TRIP_TIME (i : Nat) : Nat := 0x40030034 + i % 128 * 0x40
abbrev fLEG_TRIP_TIME_t (i : Nat) : Fld := ⟨aLEG_TRIP_TIME i, 0, 32⟩
/-- Address of LEG(n)_BOOT. -/
def aLEG_BOOT (i : Nat) : Nat := 0x40030038 + i % 128 * 0x40
abbrev fLEG_BOOT_ins_cnt (i : Nat) : Fld := ⟨aLEG_BOOT i, 16, 16⟩
abbrev fLEG_BOOT_req (i : Nat) : Fld := ⟨aLEG_BOOT i, 3, 1⟩
abbrev fLEG_BOOT_ins (i : Nat) : Fld := ⟨aLEG_BOOT i, 2, 1⟩
abbrev fLEG_BOOT_boot_ok (i : Nat) : Fld := ⟨aLEG_BOOT i, 1, 1⟩
abbrev fLEG_BOOT_pump (i : Nat) : Fld := ⟨aLEG_BOOT i, 0, 1⟩
/-- Address of LEG(n)_TRIP_EVT. -/
def aLEG_TRIP_EVT (i : Nat) : Nat := 0x4003003C + i % 128 * 0x40
abbrev fLEG_TRIP_EVT_dt_cnt (i : Nat) : Fld := ⟨aLEG_TRIP_EVT i, 24, 8⟩
abbrev fLEG_TRIP_EVT_notify_cnt (i : Nat) : Fld := ⟨aLEG_TRIP_EVT i, 16, 8⟩
abbrev fLEG_TRIP_EVT_last (i : Nat) : Fld := ⟨aLEG_TRIP_EVT i, 0, 8⟩
/-- Address of MG(m)_SAFE_CFG. -/
def aMG_SAFE_CFG (i : Nat) : Nat := 0x40032020 + i % 32 * 0x40
abbrev fMG_SAFE_CFG_side (i : Nat) : Fld := ⟨aMG_SAFE_CFG i, 0, 1⟩
/-- Address of MG(m)_SAFE_CMD. -/
def aMG_SAFE_CMD (i : Nat) : Nat := 0x40032024 + i % 32 * 0x40
abbrev fMG_SAFE_CMD_cmd (i : Nat) : Fld := ⟨aMG_SAFE_CMD i, 0, 4⟩
/-- Address of MG(m)_TRIP_STAT. -/
def aMG_TRIP_STAT (i : Nat) : Nat := 0x40032028 + i % 32 * 0x40
abbrev fMG_TRIP_STAT_kreason (i : Nat) : Fld := ⟨aMG_TRIP_STAT i, 24, 8⟩
abbrev fMG_TRIP_STAT_last (i : Nat) : Fld := ⟨aMG_TRIP_STAT i, 16, 8⟩
abbrev fMG_TRIP_STAT_clr_refused (i : Nat) : Fld := ⟨aMG_TRIP_STAT i, 8, 8⟩
abbrev fMG_TRIP_STAT_armed (i : Nat) : Fld := ⟨aMG_TRIP_STAT i, 7, 1⟩
abbrev fMG_TRIP_STAT_cmd_ref (i : Nat) : Fld := ⟨aMG_TRIP_STAT i, 6, 1⟩
abbrev fMG_TRIP_STAT_sage_hold (i : Nat) : Fld := ⟨aMG_TRIP_STAT i, 4, 1⟩
abbrev fMG_TRIP_STAT_leg (i : Nat) : Fld := ⟨aMG_TRIP_STAT i, 3, 1⟩
abbrev fMG_TRIP_STAT_link (i : Nat) : Fld := ⟨aMG_TRIP_STAT i, 2, 1⟩
abbrev fMG_TRIP_STAT_kern (i : Nat) : Fld := ⟨aMG_TRIP_STAT i, 1, 1⟩
abbrev fMG_TRIP_STAT_routed (i : Nat) : Fld := ⟨aMG_TRIP_STAT i, 0, 1⟩
/-- Address of MG(m)_TRIP_CLR. -/
def aMG_TRIP_CLR (i : Nat) : Nat := 0x4003202C + i % 32 * 0x40
abbrev fMG_TRIP_CLR_clr_arm (i : Nat) : Fld := ⟨aMG_TRIP_CLR i, 1, 1⟩
abbrev fMG_TRIP_CLR_clr (i : Nat) : Fld := ⟨aMG_TRIP_CLR i, 0, 1⟩
/-- Address of MG(m)_SAFE_SEL. -/
def aMG_SAFE_SEL (i : Nat) : Nat := 0x40032030 + i % 32 * 0x40
abbrev fMG_SAFE_SEL_fb (i : Nat) : Fld := ⟨aMG_SAFE_SEL i, 6, 3⟩
abbrev fMG_SAFE_SEL_sel (i : Nat) : Fld := ⟨aMG_SAFE_SEL i, 3, 3⟩
abbrev fMG_SAFE_SEL_req (i : Nat) : Fld := ⟨aMG_SAFE_SEL i, 0, 3⟩
/-- Address of MG(m)_SAFE_TIME. -/
def aMG_SAFE_TIME (i : Nat) : Nat := 0x40032034 + i % 32 * 0x40
abbrev fMG_SAFE_TIME_t (i : Nat) : Fld := ⟨aMG_SAFE_TIME i, 0, 32⟩
/-- Address of MG(m)_SAFE_CNT. -/
def aMG_SAFE_CNT (i : Nat) : Nat := 0x40032038 + i % 32 * 0x40
abbrev fMG_SAFE_CNT_in_cnt (i : Nat) : Fld := ⟨aMG_SAFE_CNT i, 16, 16⟩
abbrev fMG_SAFE_CNT_fb_cnt (i : Nat) : Fld := ⟨aMG_SAFE_CNT i, 0, 16⟩
/-- Address of MG(m)_SIDE_STAT. -/
def aMG_SIDE_STAT (i : Nat) : Nat := 0x4003203C + i % 32 * 0x40
abbrev fMG_SIDE_STAT_boot_nok (i : Nat) : Fld := ⟨aMG_SIDE_STAT i, 2, 1⟩
abbrev fMG_SIDE_STAT_ls_block (i : Nat) : Fld := ⟨aMG_SIDE_STAT i, 1, 1⟩
abbrev fMG_SIDE_STAT_hs_block (i : Nat) : Fld := ⟨aMG_SIDE_STAT i, 0, 1⟩
/-- Address of NDL_UP. -/
def aNDL_UP : Nat := 0x40040040
abbrev fNDL_UP_up : Fld := ⟨aNDL_UP, 0, 32⟩
/-- Address of NDL_LOSS. -/
def aNDL_LOSS : Nat := 0x40040044
abbrev fNDL_LOSS_loss : Fld := ⟨aNDL_LOSS, 0, 32⟩
/-- Address of NDL_TOK. -/
def aNDL_TOK : Nat := 0x40040048
abbrev fNDL_TOK_tok : Fld := ⟨aNDL_TOK, 0, 32⟩
/-- Address of NDL_LATE_SUM. -/
def aNDL_LATE_SUM : Nat := 0x4004004C
abbrev fNDL_LATE_SUM_cnt : Fld := ⟨aNDL_LATE_SUM, 0, 32⟩
/-- Address of NDL_CONS_FAIL. -/
def aNDL_CONS_FAIL : Nat := 0x40040050
abbrev fNDL_CONS_FAIL_valid : Fld := ⟨aNDL_CONS_FAIL, 31, 1⟩
abbrev fNDL_CONS_FAIL_port : Fld := ⟨aNDL_CONS_FAIL, 16, 5⟩
abbrev fNDL_CONS_FAIL_cnt : Fld := ⟨aNDL_CONS_FAIL, 0, 8⟩
/-- Address of NDL_FRAME_CNT. -/
def aNDL_FRAME_CNT : Nat := 0x40040054
abbrev fNDL_FRAME_CNT_cnt : Fld := ⟨aNDL_FRAME_CNT, 0, 32⟩
/-- Address of NDL(p)_CTRL. -/
def aNDL_CTRL (i : Nat) : Nat := 0x40041000 + i % 32 * 0x100
abbrev fNDL_CTRL_auto (i : Nat) : Fld := ⟨aNDL_CTRL i, 1, 1⟩
abbrev fNDL_CTRL_en (i : Nat) : Fld := ⟨aNDL_CTRL i, 0, 1⟩
/-- Address of NDL(p)_STAT. -/
def aNDL_STAT (i : Nat) : Nat := 0x40041004 + i % 32 * 0x100
abbrev fNDL_STAT_cred (i : Nat) : Fld := ⟨aNDL_STAT i, 24, 6⟩
abbrev fNDL_STAT_qent (i : Nat) : Fld := ⟨aNDL_STAT i, 16, 8⟩
abbrev fNDL_STAT_pump (i : Nat) : Fld := ⟨aNDL_STAT i, 12, 4⟩
abbrev fNDL_STAT_prof_pend (i : Nat) : Fld := ⟨aNDL_STAT i, 11, 1⟩
abbrev fNDL_STAT_legs (i : Nat) : Fld := ⟨aNDL_STAT i, 8, 3⟩
abbrev fNDL_STAT_react (i : Nat) : Fld := ⟨aNDL_STAT i, 7, 1⟩
abbrev fNDL_STAT_sync_ok (i : Nat) : Fld := ⟨aNDL_STAT i, 6, 1⟩
abbrev fNDL_STAT_peer (i : Nat) : Fld := ⟨aNDL_STAT i, 5, 1⟩
abbrev fNDL_STAT_side (i : Nat) : Fld := ⟨aNDL_STAT i, 4, 1⟩
abbrev fNDL_STAT_tok (i : Nat) : Fld := ⟨aNDL_STAT i, 3, 1⟩
abbrev fNDL_STAT_state (i : Nat) : Fld := ⟨aNDL_STAT i, 0, 3⟩
/-- Address of NDL(p)_LEAD. -/
def aNDL_LEAD (i : Nat) : Nat := 0x40041008 + i % 32 * 0x100
abbrev fNDL_LEAD_lead (i : Nat) : Fld := ⟨aNDL_LEAD i, 0, 14⟩
/-- Address of NDL(p)_TIMING. -/
def aNDL_TIMING (i : Nat) : Nat := 0x4004100C + i % 32 * 0x100
abbrev fNDL_TIMING_t_hold (i : Nat) : Fld := ⟨aNDL_TIMING i, 16, 6⟩
abbrev fNDL_TIMING_t_loss (i : Nat) : Fld := ⟨aNDL_TIMING i, 0, 8⟩
/-- Address of NDL(p)_SYNC. -/
def aNDL_SYNC (i : Nat) : Nat := 0x40041010 + i % 32 * 0x100
abbrev fNDL_SYNC_asym (i : Nat) : Fld := ⟨aNDL_SYNC i, 16, 16⟩
abbrev fNDL_SYNC_per (i : Nat) : Fld := ⟨aNDL_SYNC i, 0, 10⟩
/-- Address of NDL(p)_OFS. -/
def aNDL_OFS (i : Nat) : Nat := 0x40041014 + i % 32 * 0x100
abbrev fNDL_OFS_rtt (i : Nat) : Fld := ⟨aNDL_OFS i, 16, 16⟩
abbrev fNDL_OFS_e (i : Nat) : Fld := ⟨aNDL_OFS i, 0, 16⟩
/-- Address of NDL(p)_HINT. -/
def aNDL_HINT (i : Nat) : Nat := 0x40041018 + i % 32 * 0x100
abbrev fNDL_HINT_react (i : Nat) : Fld := ⟨aNDL_HINT i, 8, 8⟩
abbrev fNDL_HINT_hold_en (i : Nat) : Fld := ⟨aNDL_HINT i, 0, 4⟩
/-- Address of NDL(p)_TEL_CFG. -/
def aNDL_TEL_CFG (i : Nat) : Nat := 0x4004101C + i % 32 * 0x100
abbrev fNDL_TEL_CFG_chk_div (i : Nat) : Fld := ⟨aNDL_TEL_CFG i, 16, 8⟩
abbrev fNDL_TEL_CFG_per (i : Nat) : Fld := ⟨aNDL_TEL_CFG i, 0, 10⟩
/-- Address of NDL(p)_GPROF(i)(d). -/
def aNDL_GPROF (i : Nat) (j : Nat) (k : Nat) : Nat := 0x40041020 + i % 32 * 0x100 + j % 8 * 0x8 + k % 2 * 0x4
abbrev fNDL_GPROF_prof (i : Nat) (j : Nat) (k : Nat) : Fld := ⟨aNDL_GPROF i j k, 0, 32⟩
/-- Address of NDL(p)_TELEM(s). -/
def aNDL_TELEM (i : Nat) (j : Nat) : Nat := 0x40041060 + i % 32 * 0x100 + j % 4 * 0x4
abbrev fNDL_TELEM_vboot (i : Nat) (j : Nat) : Fld := ⟨aNDL_TELEM i j, 20, 12⟩
abbrev fNDL_TELEM_temp (i : Nat) (j : Nat) : Fld := ⟨aNDL_TELEM i j, 12, 8⟩
abbrev fNDL_TELEM_flags (i : Nat) (j : Nat) : Fld := ⟨aNDL_TELEM i j, 2, 10⟩
abbrev fNDL_TELEM_valid (i : Nat) (j : Nat) : Fld := ⟨aNDL_TELEM i j, 1, 1⟩
/-- Address of NDL(p)_EDGE_CNT. -/
def aNDL_EDGE_CNT (i : Nat) : Nat := 0x40041070 + i % 32 * 0x100
abbrev fNDL_EDGE_CNT_cnt (i : Nat) : Fld := ⟨aNDL_EDGE_CNT i, 0, 32⟩
/-- Address of NDL(p)_LATE_RETRACT. -/
def aNDL_LATE_RETRACT (i : Nat) : Nat := 0x40041074 + i % 32 * 0x100
abbrev fNDL_LATE_RETRACT_cnt (i : Nat) : Fld := ⟨aNDL_LATE_RETRACT i, 0, 32⟩
/-- Address of NDL(p)_LATE_EDGE. -/
def aNDL_LATE_EDGE (i : Nat) : Nat := 0x40041078 + i % 32 * 0x100
abbrev fNDL_LATE_EDGE_on (i : Nat) : Fld := ⟨aNDL_LATE_EDGE i, 16, 16⟩
abbrev fNDL_LATE_EDGE_off (i : Nat) : Fld := ⟨aNDL_LATE_EDGE i, 0, 16⟩
/-- Address of NDL(p)_LEAD_VIOL. -/
def aNDL_LEAD_VIOL (i : Nat) : Nat := 0x4004107C + i % 32 * 0x100
abbrev fNDL_LEAD_VIOL_cnt (i : Nat) : Fld := ⟨aNDL_LEAD_VIOL i, 0, 32⟩
/-- Address of NDL(p)_RETRACT_CNT. -/
def aNDL_RETRACT_CNT (i : Nat) : Nat := 0x40041080 + i % 32 * 0x100
abbrev fNDL_RETRACT_CNT_cnt (i : Nat) : Fld := ⟨aNDL_RETRACT_CNT i, 0, 32⟩
/-- Address of NDL(p)_CRC_ERR. -/
def aNDL_CRC_ERR (i : Nat) : Nat := 0x40041084 + i % 32 * 0x100
abbrev fNDL_CRC_ERR_dl (i : Nat) : Fld := ⟨aNDL_CRC_ERR i, 16, 16⟩
abbrev fNDL_CRC_ERR_ul (i : Nat) : Fld := ⟨aNDL_CRC_ERR i, 0, 16⟩
/-- Address of NDL(p)_RESEND. -/
def aNDL_RESEND (i : Nat) : Nat := 0x40041088 + i % 32 * 0x100
abbrev fNDL_RESEND_cnt (i : Nat) : Fld := ⟨aNDL_RESEND i, 0, 32⟩
/-- Address of NDL(p)_LOSS_CNT. -/
def aNDL_LOSS_CNT (i : Nat) : Nat := 0x4004108C + i % 32 * 0x100
abbrev fNDL_LOSS_CNT_tok (i : Nat) : Fld := ⟨aNDL_LOSS_CNT i, 16, 16⟩
abbrev fNDL_LOSS_CNT_loss (i : Nat) : Fld := ⟨aNDL_LOSS_CNT i, 0, 16⟩
/-- Address of NDL(p)_TOKEN. -/
def aNDL_TOKEN (i : Nat) : Nat := 0x40041090 + i % 32 * 0x100
abbrev fNDL_TOKEN_op (i : Nat) : Fld := ⟨aNDL_TOKEN i, 0, 2⟩
/-- Address of NDL(p)_TOK_STAT. -/
def aNDL_TOK_STAT (i : Nat) : Nat := 0x40041094 + i % 32 * 0x100
abbrev fNDL_TOK_STAT_ref (i : Nat) : Fld := ⟨aNDL_TOK_STAT i, 4, 1⟩
abbrev fNDL_TOK_STAT_busy (i : Nat) : Fld := ⟨aNDL_TOK_STAT i, 3, 1⟩
abbrev fNDL_TOK_STAT_holder (i : Nat) : Fld := ⟨aNDL_TOK_STAT i, 2, 1⟩
abbrev fNDL_TOK_STAT_result (i : Nat) : Fld := ⟨aNDL_TOK_STAT i, 0, 2⟩
/-- Address of NDL(p)_IRQ_RAW. -/
def aNDL_IRQ_RAW (i : Nat) : Nat := 0x40041098 + i % 32 * 0x100
abbrev fNDL_IRQ_RAW_src (i : Nat) : Fld := ⟨aNDL_IRQ_RAW i, 0, 10⟩
/-- Address of NDL(p)_IRQ_EN. -/
def aNDL_IRQ_EN (i : Nat) : Nat := 0x4004109C + i % 32 * 0x100
abbrev fNDL_IRQ_EN_en (i : Nat) : Fld := ⟨aNDL_IRQ_EN i, 0, 10⟩
/-- Address of NDL(p)_SAT_ID. -/
def aNDL_SAT_ID (i : Nat) : Nat := 0x400410A0 + i % 32 * 0x100
abbrev fNDL_SAT_ID_id (i : Nat) : Fld := ⟨aNDL_SAT_ID i, 0, 32⟩
/-- Address of NDL(p)_SAT_CAPS. -/
def aNDL_SAT_CAPS (i : Nat) : Nat := 0x400410A4 + i % 32 * 0x100
abbrev fNDL_SAT_CAPS_caps (i : Nat) : Fld := ⟨aNDL_SAT_CAPS i, 0, 32⟩
/-- Address of NDL(p)_NOT_OWNER. -/
def aNDL_NOT_OWNER (i : Nat) : Nat := 0x400410A8 + i % 32 * 0x100
abbrev fNDL_NOT_OWNER_cnt (i : Nat) : Fld := ⟨aNDL_NOT_OWNER i, 0, 32⟩
/-- Address of NDL(p)_SAT_ILK. -/
def aNDL_SAT_ILK (i : Nat) : Nat := 0x400410AC + i % 32 * 0x100
abbrev fNDL_SAT_ILK_cnt (i : Nat) : Fld := ⟨aNDL_SAT_ILK i, 0, 32⟩
/-- Address of SAGE_HEALTH. -/
def aSAGE_HEALTH : Nat := 0x400F0040
abbrev fSAGE_HEALTH_ns_cause : Fld := ⟨aSAGE_HEALTH, 8, 8⟩
abbrev fSAGE_HEALTH_errn1 : Fld := ⟨aSAGE_HEALTH, 7, 1⟩
abbrev fSAGE_HEALTH_errn0 : Fld := ⟨aSAGE_HEALTH, 6, 1⟩
abbrev fSAGE_HEALTH_wdg_ok : Fld := ⟨aSAGE_HEALTH, 5, 1⟩
abbrev fSAGE_HEALTH_sup_ok : Fld := ⟨aSAGE_HEALTH, 4, 1⟩
abbrev fSAGE_HEALTH_clk_ok : Fld := ⟨aSAGE_HEALTH, 3, 1⟩
abbrev fSAGE_HEALTH_dbg : Fld := ⟨aSAGE_HEALTH, 2, 1⟩
abbrev fSAGE_HEALTH_not_safe : Fld := ⟨aSAGE_HEALTH, 1, 1⟩
abbrev fSAGE_HEALTH_ok : Fld := ⟨aSAGE_HEALTH, 0, 1⟩
/-- Address of SAGE_NS_CMD. -/
def aSAGE_NS_CMD : Nat := 0x400F0044
abbrev fSAGE_NS_CMD_set : Fld := ⟨aSAGE_NS_CMD, 1, 1⟩
abbrev fSAGE_NS_CMD_clr : Fld := ⟨aSAGE_NS_CMD, 0, 1⟩
/-- Address of SAGE_MG_SEL. -/
def aSAGE_MG_SEL : Nat := 0x400F0048
abbrev fSAGE_MG_SEL_mgs : Fld := ⟨aSAGE_MG_SEL, 0, 32⟩
/-- Address of SAGE_MG_CMD. -/
def aSAGE_MG_CMD : Nat := 0x400F004C
abbrev fSAGE_MG_CMD_cmd : Fld := ⟨aSAGE_MG_CMD, 0, 4⟩
/-- Address of SAGE_MG_HOLD. -/
def aSAGE_MG_HOLD : Nat := 0x400F0050
abbrev fSAGE_MG_HOLD_hold : Fld := ⟨aSAGE_MG_HOLD, 0, 32⟩
/-- Address of SAGE_PIN_CMD. -/
def aSAGE_PIN_CMD : Nat := 0x400F0054
abbrev fSAGE_PIN_CMD_release : Fld := ⟨aSAGE_PIN_CMD, 4, 4⟩
abbrev fSAGE_PIN_CMD_assert : Fld := ⟨aSAGE_PIN_CMD, 0, 4⟩
/-- Address of SAGE_PIN_STAT. -/
def aSAGE_PIN_STAT : Nat := 0x400F0058
abbrev fSAGE_PIN_STAT_held : Fld := ⟨aSAGE_PIN_STAT, 4, 4⟩
abbrev fSAGE_PIN_STAT_asserted : Fld := ⟨aSAGE_PIN_STAT, 0, 4⟩
/-- Address of SAGE_WDG_CFG. -/
def aSAGE_WDG_CFG : Nat := 0x400F005C
abbrev fSAGE_WDG_CFG_wmax : Fld := ⟨aSAGE_WDG_CFG, 16, 16⟩
abbrev fSAGE_WDG_CFG_wmin : Fld := ⟨aSAGE_WDG_CFG, 0, 16⟩
/-- Address of SAGE_WDG_SVC. -/
def aSAGE_WDG_SVC : Nat := 0x400F0060
abbrev fSAGE_WDG_SVC_key : Fld := ⟨aSAGE_WDG_SVC, 0, 8⟩
/-- Address of SAGE_WDG_STAT. -/
def aSAGE_WDG_STAT : Nat := 0x400F0064
abbrev fSAGE_WDG_STAT_since : Fld := ⟨aSAGE_WDG_STAT, 16, 16⟩
abbrev fSAGE_WDG_STAT_open : Fld := ⟨aSAGE_WDG_STAT, 1, 1⟩
abbrev fSAGE_WDG_STAT_served : Fld := ⟨aSAGE_WDG_STAT, 0, 1⟩
/-- Address of SAGE_CLK_STAT. -/
def aSAGE_CLK_STAT : Nat := 0x400F0068
abbrev fSAGE_CLK_STAT_main : Fld := ⟨aSAGE_CLK_STAT, 16, 16⟩
abbrev fSAGE_CLK_STAT_sage : Fld := ⟨aSAGE_CLK_STAT, 0, 16⟩
/-- Address of SAGE_LS_CFG. -/
def aSAGE_LS_CFG : Nat := 0x400F006C
abbrev fSAGE_LS_CFG_xmode : Fld := ⟨aSAGE_LS_CFG, 0, 1⟩
/-- Address of SAGE_LS_STAT. -/
def aSAGE_LS_STAT : Nat := 0x400F0070
abbrev fSAGE_LS_STAT_inj_cnt : Fld := ⟨aSAGE_LS_STAT, 24, 8⟩
abbrev fSAGE_LS_STAT_inj_ok : Fld := ⟨aSAGE_LS_STAT, 0, 1⟩
/-- Address of SAGE_LS_INJ. -/
def aSAGE_LS_INJ : Nat := 0x400F0074
abbrev fSAGE_LS_INJ_inj : Fld := ⟨aSAGE_LS_INJ, 0, 1⟩
/-- Address of SAGE_EVT_PEND(i). -/
def aSAGE_EVT_PEND (i : Nat) : Nat := 0x400F0078 + i % 2 * 0x4
abbrev fSAGE_EVT_PEND_pend (i : Nat) : Fld := ⟨aSAGE_EVT_PEND i, 0, 32⟩
/-- Address of SAGE_LAST_EVT. -/
def aSAGE_LAST_EVT : Nat := 0x400F0080
abbrev fSAGE_LAST_EVT_e : Fld := ⟨aSAGE_LAST_EVT, 16, 6⟩
abbrev fSAGE_LAST_EVT_mg : Fld := ⟨aSAGE_LAST_EVT, 8, 5⟩
abbrev fSAGE_LAST_EVT_mg_v : Fld := ⟨aSAGE_LAST_EVT, 7, 1⟩
abbrev fSAGE_LAST_EVT_test : Fld := ⟨aSAGE_LAST_EVT, 6, 1⟩
/-- Address of SAGE_LAST_TIME. -/
def aSAGE_LAST_TIME : Nat := 0x400F0084
abbrev fSAGE_LAST_TIME_t : Fld := ⟨aSAGE_LAST_TIME, 0, 32⟩
/-- Address of SAGE_LIV_VIOL(i). -/
def aSAGE_LIV_VIOL (i : Nat) : Nat := 0x400F0088 + i % 4 * 0x4
abbrev fSAGE_LIV_VIOL_viol (i : Nat) : Fld := ⟨aSAGE_LIV_VIOL i, 0, 32⟩
/-- Address of SAGE_EVT_CFG(e). -/
def aSAGE_EVT_CFG (i : Nat) : Nat := 0x400F1000 + i % 64 * 0x8
abbrev fSAGE_EVT_CFG_react (i : Nat) : Fld := ⟨aSAGE_EVT_CFG i, 14, 2⟩
abbrev fSAGE_EVT_CFG_scope (i : Nat) : Fld := ⟨aSAGE_EVT_CFG i, 12, 2⟩
abbrev fSAGE_EVT_CFG_pins (i : Nat) : Fld := ⟨aSAGE_EVT_CFG i, 8, 4⟩
abbrev fSAGE_EVT_CFG_ns (i : Nat) : Fld := ⟨aSAGE_EVT_CFG i, 7, 1⟩
abbrev fSAGE_EVT_CFG_irq (i : Nat) : Fld := ⟨aSAGE_EVT_CFG i, 6, 1⟩
abbrev fSAGE_EVT_CFG_apc (i : Nat) : Fld := ⟨aSAGE_EVT_CFG i, 5, 1⟩
abbrev fSAGE_EVT_CFG_rec (i : Nat) : Fld := ⟨aSAGE_EVT_CFG i, 4, 1⟩
/-- Address of SAGE_EVT_MGM(e). -/
def aSAGE_EVT_MGM (i : Nat) : Nat := 0x400F1004 + i % 64 * 0x8
abbrev fSAGE_EVT_MGM_mgm (i : Nat) : Fld := ⟨aSAGE_EVT_MGM i, 0, 32⟩
/-- Address of SAGE_EVT_CNT(e). -/
def aSAGE_EVT_CNT (i : Nat) : Nat := 0x400F1200 + i % 64 * 0x4
abbrev fSAGE_EVT_CNT_cnt (i : Nat) : Fld := ⟨aSAGE_EVT_CNT i, 0, 32⟩
/-- Address of SAGE_LIV_T(j). -/
def aSAGE_LIV_T (i : Nat) : Nat := 0x400F1400 + i % 64 * 0x4
abbrev fSAGE_LIV_T_lim_odd (i : Nat) : Fld := ⟨aSAGE_LIV_T i, 16, 16⟩
abbrev fSAGE_LIV_T_lim_even (i : Nat) : Fld := ⟨aSAGE_LIV_T i, 0, 16⟩
/-- Address of SAGE_TM_CFG(m). -/
def aSAGE_TM_CFG (i : Nat) : Nat := 0x400F2000 + i % 32 * 0x80
abbrev fSAGE_TM_CFG_en (i : Nat) : Fld := ⟨aSAGE_TM_CFG i, 31, 1⟩
abbrev fSAGE_TM_CFG_mode (i : Nat) : Fld := ⟨aSAGE_TM_CFG i, 29, 2⟩
abbrev fSAGE_TM_CFG_ang (i : Nat) : Fld := ⟨aSAGE_TM_CFG i, 28, 1⟩
abbrev fSAGE_TM_CFG_fb (i : Nat) : Fld := ⟨aSAGE_TM_CFG i, 23, 5⟩
abbrev fSAGE_TM_CFG_ctx (i : Nat) : Fld := ⟨aSAGE_TM_CFG i, 16, 7⟩
abbrev fSAGE_TM_CFG_sets (i : Nat) : Fld := ⟨aSAGE_TM_CFG i, 14, 2⟩
abbrev fSAGE_TM_CFG_first (i : Nat) : Fld := ⟨aSAGE_TM_CFG i, 7, 7⟩
abbrev fSAGE_TM_CFG_pp (i : Nat) : Fld := ⟨aSAGE_TM_CFG i, 0, 6⟩
/-- Address of SAGE_TM_PSI(m). -/
def aSAGE_TM_PSI (i : Nat) : Nat := 0x400F2004 + i % 32 * 0x80
abbrev fSAGE_TM_PSI_psi (i : Nat) : Fld := ⟨aSAGE_TM_PSI i, 0, 32⟩
/-- Address of SAGE_TM_LD(m). -/
def aSAGE_TM_LD (i : Nat) : Nat := 0x400F2008 + i % 32 * 0x80
abbrev fSAGE_TM_LD_ld (i : Nat) : Fld := ⟨aSAGE_TM_LD i, 0, 32⟩
/-- Address of SAGE_TM_LQ(m). -/
def aSAGE_TM_LQ (i : Nat) : Nat := 0x400F200C + i % 32 * 0x80
abbrev fSAGE_TM_LQ_lq (i : Nat) : Fld := ⟨aSAGE_TM_LQ i, 0, 32⟩
/-- Address of SAGE_TM_ISCL(m). -/
def aSAGE_TM_ISCL (i : Nat) : Nat := 0x400F2010 + i % 32 * 0x80
abbrev fSAGE_TM_ISCL_iscl (i : Nat) : Fld := ⟨aSAGE_TM_ISCL i, 0, 32⟩
/-- Address of SAGE_TM_PSCL(m). -/
def aSAGE_TM_PSCL (i : Nat) : Nat := 0x400F2014 + i % 32 * 0x80
abbrev fSAGE_TM_PSCL_pscl (i : Nat) : Fld := ⟨aSAGE_TM_PSCL i, 0, 32⟩
/-- Address of SAGE_TM_AOFS(m). -/
def aSAGE_TM_AOFS (i : Nat) : Nat := 0x400F2018 + i % 32 * 0x80
abbrev fSAGE_TM_AOFS_aofs (i : Nat) : Fld := ⟨aSAGE_TM_AOFS i, 0, 32⟩
/-- Address of SAGE_TM_PHI(m)(x+1). -/
def aSAGE_TM_PHI (i : Nat) (j : Nat) : Nat := 0x400F201C + i % 32 * 0x80 + j % 3 * 0x4
abbrev fSAGE_TM_PHI_phi (i : Nat) (j : Nat) : Fld := ⟨aSAGE_TM_PHI i j, 0, 32⟩
/-- Address of SAGE_TM_TOLA(m). -/
def aSAGE_TM_TOLA (i : Nat) : Nat := 0x400F2028 + i % 32 * 0x80
abbrev fSAGE_TM_TOLA_tola (i : Nat) : Fld := ⟨aSAGE_TM_TOLA i, 0, 32⟩
/-- Address of SAGE_TM_TOLR(m). -/
def aSAGE_TM_TOLR (i : Nat) : Nat := 0x400F202C + i % 32 * 0x80
abbrev fSAGE_TM_TOLR_tolr (i : Nat) : Fld := ⟨aSAGE_TM_TOLR i, 0, 32⟩
/-- Address of SAGE_TM_TABS(m). -/
def aSAGE_TM_TABS (i : Nat) : Nat := 0x400F2030 + i % 32 * 0x80
abbrev fSAGE_TM_TABS_tabs (i : Nat) : Fld := ⟨aSAGE_TM_TABS i, 0, 32⟩
/-- Address of SAGE_TM_SUMTOL(m). -/
def aSAGE_TM_SUMTOL (i : Nat) : Nat := 0x400F2034 + i % 32 * 0x80
abbrev fSAGE_TM_SUMTOL_sumtol (i : Nat) : Fld := ⟨aSAGE_TM_SUMTOL i, 0, 32⟩
/-- Address of SAGE_TM_TIM(m). -/
def aSAGE_TM_TIM (i : Nat) : Nat := 0x400F2038 + i % 32 * 0x80
abbrev fSAGE_TM_TIM_t_req (i : Nat) : Fld := ⟨aSAGE_TM_TIM i, 24, 8⟩
abbrev fSAGE_TM_TIM_t_rep (i : Nat) : Fld := ⟨aSAGE_TM_TIM i, 16, 8⟩
abbrev fSAGE_TM_TIM_t_abs (i : Nat) : Fld := ⟨aSAGE_TM_TIM i, 8, 8⟩
abbrev fSAGE_TM_TIM_t_sum (i : Nat) : Fld := ⟨aSAGE_TM_TIM i, 0, 8⟩
/-- Address of SAGE_TM_STAT(m). -/
def aSAGE_TM_STAT (i : Nat) : Nat := 0x400F203C + i % 32 * 0x80
abbrev fSAGE_TM_STAT_cause (i : Nat) : Fld := ⟨aSAGE_TM_STAT i, 8, 5⟩
abbrev fSAGE_TM_STAT_red (i : Nat) : Fld := ⟨aSAGE_TM_STAT i, 7, 1⟩
abbrev fSAGE_TM_STAT_susp (i : Nat) : Fld := ⟨aSAGE_TM_STAT i, 6, 1⟩
abbrev fSAGE_TM_STAT_ang_stale (i : Nat) : Fld := ⟨aSAGE_TM_STAT i, 5, 1⟩
abbrev fSAGE_TM_STAT_viol (i : Nat) : Fld := ⟨aSAGE_TM_STAT i, 0, 4⟩
/-- Address of SAGE_TM_TMON(m). -/
def aSAGE_TM_TMON (i : Nat) : Nat := 0x400F2040 + i % 32 * 0x80
abbrev fSAGE_TM_TMON_tmon (i : Nat) : Fld := ⟨aSAGE_TM_TMON i, 0, 32⟩
/-- Address of SAGE_TM_EREQ(m). -/
def aSAGE_TM_EREQ (i : Nat) : Nat := 0x400F2044 + i % 32 * 0x80
abbrev fSAGE_TM_EREQ_ereq (i : Nat) : Fld := ⟨aSAGE_TM_EREQ i, 0, 32⟩
/-- Address of SAGE_TM_TMR(m). -/
def aSAGE_TM_TMR (i : Nat) : Nat := 0x400F2048 + i % 32 * 0x80
abbrev fSAGE_TM_TMR_req (i : Nat) : Fld := ⟨aSAGE_TM_TMR i, 16, 16⟩
abbrev fSAGE_TM_TMR_rep (i : Nat) : Fld := ⟨aSAGE_TM_TMR i, 0, 16⟩
/-- Address of SAGE_TM_EVAL(m). -/
def aSAGE_TM_EVAL (i : Nat) : Nat := 0x400F204C + i % 32 * 0x80
abbrev fSAGE_TM_EVAL_cnt (i : Nat) : Fld := ⟨aSAGE_TM_EVAL i, 0, 32⟩
/-- Address of SAGE_DIS_CFG(m). -/
def aSAGE_DIS_CFG (i : Nat) : Nat := 0x400F3000 + i % 32 * 0x20
abbrev fSAGE_DIS_CFG_en (i : Nat) : Fld := ⟨aSAGE_DIS_CFG i, 31, 1⟩
abbrev fSAGE_DIS_CFG_w_ok (i : Nat) : Fld := ⟨aSAGE_DIS_CFG i, 30, 1⟩
abbrev fSAGE_DIS_CFG_b_ok (i : Nat) : Fld := ⟨aSAGE_DIS_CFG i, 29, 1⟩
abbrev fSAGE_DIS_CFG_bleed (i : Nat) : Fld := ⟨aSAGE_DIS_CFG i, 22, 7⟩
abbrev fSAGE_DIS_CFG_d_bl (i : Nat) : Fld := ⟨aSAGE_DIS_CFG i, 8, 8⟩
/-- Address of SAGE_DIS_LIM(m). -/
def aSAGE_DIS_LIM (i : Nat) : Nat := 0x400F3004 + i % 32 * 0x20
abbrev fSAGE_DIS_LIM_v_safe (i : Nat) : Fld := ⟨aSAGE_DIS_LIM i, 16, 16⟩
abbrev fSAGE_DIS_LIM_t_dis (i : Nat) : Fld := ⟨aSAGE_DIS_LIM i, 0, 16⟩
/-- Address of SAGE_DIS_SRC(m). -/
def aSAGE_DIS_SRC (i : Nat) : Nat := 0x400F3008 + i % 32 * 0x20
abbrev fSAGE_DIS_SRC_port (i : Nat) : Fld := ⟨aSAGE_DIS_SRC i, 2, 5⟩
abbrev fSAGE_DIS_SRC_slot (i : Nat) : Fld := ⟨aSAGE_DIS_SRC i, 0, 2⟩
/-- Address of SAGE_DIS_VSCL(m). -/
def aSAGE_DIS_VSCL (i : Nat) : Nat := 0x400F300C + i % 32 * 0x20
abbrev fSAGE_DIS_VSCL_vscl (i : Nat) : Fld := ⟨aSAGE_DIS_VSCL i, 0, 32⟩
/-- Address of SAGE_DIS_STAT(m). -/
def aSAGE_DIS_STAT (i : Nat) : Nat := 0x400F3010 + i % 32 * 0x20
abbrev fSAGE_DIS_STAT_v_last (i : Nat) : Fld := ⟨aSAGE_DIS_STAT i, 16, 16⟩
abbrev fSAGE_DIS_STAT_state (i : Nat) : Fld := ⟨aSAGE_DIS_STAT i, 0, 3⟩
/-- Address of SAGE_DIS_TIME(m). -/
def aSAGE_DIS_TIME (i : Nat) : Nat := 0x400F3014 + i % 32 * 0x20
abbrev fSAGE_DIS_TIME_t (i : Nat) : Fld := ⟨aSAGE_DIS_TIME i, 0, 32⟩
/-- Address of SAGE_DIS_CNT(m). -/
def aSAGE_DIS_CNT (i : Nat) : Nat := 0x400F3018 + i % 32 * 0x20
abbrev fSAGE_DIS_CNT_done (i : Nat) : Fld := ⟨aSAGE_DIS_CNT i, 16, 16⟩
abbrev fSAGE_DIS_CNT_fail (i : Nat) : Fld := ⟨aSAGE_DIS_CNT i, 0, 16⟩
/-- Address of APC_LS_CFG. -/
def aAPC_LS_CFG : Nat := 0x40100100
abbrev fAPC_LS_CFG_xmode1 : Fld := ⟨aAPC_LS_CFG, 1, 1⟩
abbrev fAPC_LS_CFG_xmode0 : Fld := ⟨aAPC_LS_CFG, 0, 1⟩
/-- Address of APC_LS_STAT(i). -/
def aAPC_LS_STAT (i : Nat) : Nat := 0x40100104 + i % 2 * 0x4
abbrev fAPC_LS_STAT_inj_cnt (i : Nat) : Fld := ⟨aAPC_LS_STAT i, 24, 8⟩
abbrev fAPC_LS_STAT_mis_cnt (i : Nat) : Fld := ⟨aAPC_LS_STAT i, 16, 8⟩
abbrev fAPC_LS_STAT_cause (i : Nat) : Fld := ⟨aAPC_LS_STAT i, 4, 4⟩
abbrev fAPC_LS_STAT_halted (i : Nat) : Fld := ⟨aAPC_LS_STAT i, 3, 1⟩
abbrev fAPC_LS_STAT_broken (i : Nat) : Fld := ⟨aAPC_LS_STAT i, 2, 1⟩
abbrev fAPC_LS_STAT_mis (i : Nat) : Fld := ⟨aAPC_LS_STAT i, 1, 1⟩
abbrev fAPC_LS_STAT_dbg_allow (i : Nat) : Fld := ⟨aAPC_LS_STAT i, 0, 1⟩
/-- Address of APC_LS_INJ. -/
def aAPC_LS_INJ : Nat := 0x4010010C
abbrev fAPC_LS_INJ_p1 : Fld := ⟨aAPC_LS_INJ, 1, 1⟩
abbrev fAPC_LS_INJ_p0 : Fld := ⟨aAPC_LS_INJ, 0, 1⟩
/-- Address of APC_WDG_CFG(i). -/
def aAPC_WDG_CFG (i : Nat) : Nat := 0x40100110 + i % 2 * 0x4
abbrev fAPC_WDG_CFG_wmax (i : Nat) : Fld := ⟨aAPC_WDG_CFG i, 16, 16⟩
abbrev fAPC_WDG_CFG_wmin (i : Nat) : Fld := ⟨aAPC_WDG_CFG i, 0, 16⟩
/-- Address of APC_WDG_SVC(i). -/
def aAPC_WDG_SVC (i : Nat) : Nat := 0x40100118 + i % 2 * 0x4
abbrev fAPC_WDG_SVC_key (i : Nat) : Fld := ⟨aAPC_WDG_SVC i, 0, 8⟩
/-- Address of APC_WDG_STAT(i). -/
def aAPC_WDG_STAT (i : Nat) : Nat := 0x40100120 + i % 2 * 0x4
abbrev fAPC_WDG_STAT_since (i : Nat) : Fld := ⟨aAPC_WDG_STAT i, 16, 16⟩
abbrev fAPC_WDG_STAT_expired (i : Nat) : Fld := ⟨aAPC_WDG_STAT i, 2, 1⟩
abbrev fAPC_WDG_STAT_open (i : Nat) : Fld := ⟨aAPC_WDG_STAT i, 1, 1⟩
abbrev fAPC_WDG_STAT_armed (i : Nat) : Fld := ⟨aAPC_WDG_STAT i, 0, 1⟩
/-- Address of APC_SAGE_EVT. -/
def aAPC_SAGE_EVT : Nat := 0x40100128
abbrev fAPC_SAGE_EVT_lost : Fld := ⟨aAPC_SAGE_EVT, 3, 1⟩
abbrev fAPC_SAGE_EVT_dis : Fld := ⟨aAPC_SAGE_EVT, 2, 1⟩
abbrev fAPC_SAGE_EVT_ns : Fld := ⟨aAPC_SAGE_EVT, 1, 1⟩
abbrev fAPC_SAGE_EVT_safe : Fld := ⟨aAPC_SAGE_EVT, 0, 1⟩
/-- Address of APC_SAGE_LOST. -/
def aAPC_SAGE_LOST : Nat := 0x4010012C
abbrev fAPC_SAGE_LOST_cause : Fld := ⟨aAPC_SAGE_LOST, 1, 3⟩
abbrev fAPC_SAGE_LOST_lost : Fld := ⟨aAPC_SAGE_LOST, 0, 1⟩
/-- Address of PAIR_CFG. -/
def aPAIR_CFG : Nat := 0x400C0040
abbrev fPAIR_CFG_auto_join : Fld := ⟨aPAIR_CFG, 2, 1⟩
abbrev fPAIR_CFG_tko_en : Fld := ⟨aPAIR_CFG, 1, 1⟩
abbrev fPAIR_CFG_en : Fld := ⟨aPAIR_CFG, 0, 1⟩
/-- Address of PAIR_TIMING. -/
def aPAIR_TIMING : Nat := 0x400C0044
abbrev fPAIR_TIMING_per : Fld := ⟨aPAIR_TIMING, 16, 10⟩
abbrev fPAIR_TIMING_t_pl : Fld := ⟨aPAIR_TIMING, 0, 7⟩
/-- Address of PAIR_PORTS. -/
def aPAIR_PORTS : Nat := 0x400C0048
abbrev fPAIR_PORTS_ports : Fld := ⟨aPAIR_PORTS, 0, 32⟩
/-- Address of PAIR_CTX_EN(i). -/
def aPAIR_CTX_EN (i : Nat) : Nat := 0x400C004C + i % 4 * 0x4
abbrev fPAIR_CTX_EN_en (i : Nat) : Fld := ⟨aPAIR_CTX_EN i, 0, 32⟩
/-- Address of PAIR_TBG_EN. -/
def aPAIR_TBG_EN : Nat := 0x400C005C
abbrev fPAIR_TBG_EN_en : Fld := ⟨aPAIR_TBG_EN, 0, 32⟩
/-- Address of PAIR_ASYM. -/
def aPAIR_ASYM : Nat := 0x400C0060
abbrev fPAIR_ASYM_asym : Fld := ⟨aPAIR_ASYM, 0, 16⟩
/-- Address of PAIR_CMD. -/
def aPAIR_CMD : Nat := 0x400C0064
abbrev fPAIR_CMD_cmd : Fld := ⟨aPAIR_CMD, 0, 4⟩
/-- Address of PAIR_STATE. -/
def aPAIR_STATE : Nat := 0x400C0068
abbrev fPAIR_STATE_cmd_ref : Fld := ⟨aPAIR_STATE, 7, 1⟩
abbrev fPAIR_STATE_tko : Fld := ⟨aPAIR_STATE, 6, 1⟩
abbrev fPAIR_STATE_role : Fld := ⟨aPAIR_STATE, 4, 2⟩
abbrev fPAIR_STATE_link : Fld := ⟨aPAIR_STATE, 0, 3⟩
/-- Address of PAIR_DELTA_LO. -/
def aPAIR_DELTA_LO : Nat := 0x400C006C
abbrev fPAIR_DELTA_LO_lo : Fld := ⟨aPAIR_DELTA_LO, 0, 32⟩
/-- Address of PAIR_DELTA_HI. -/
def aPAIR_DELTA_HI : Nat := 0x400C0070
abbrev fPAIR_DELTA_HI_hi : Fld := ⟨aPAIR_DELTA_HI, 0, 32⟩
/-- Address of PAIR_DELTA_FINE. -/
def aPAIR_DELTA_FINE : Nat := 0x400C0074
abbrev fPAIR_DELTA_FINE_fine : Fld := ⟨aPAIR_DELTA_FINE, 0, 5⟩
/-- Address of PAIR_OFS. -/
def aPAIR_OFS : Nat := 0x400C0078
abbrev fPAIR_OFS_rtt : Fld := ⟨aPAIR_OFS, 16, 16⟩
abbrev fPAIR_OFS_e : Fld := ⟨aPAIR_OFS, 0, 16⟩
/-- Address of PAIR_LOAD. -/
def aPAIR_LOAD : Nat := 0x400C007C
abbrev fPAIR_LOAD_load : Fld := ⟨aPAIR_LOAD, 0, 32⟩
/-- Address of PAIR_TX_CNT. -/
def aPAIR_TX_CNT : Nat := 0x400C0080
abbrev fPAIR_TX_CNT_cnt : Fld := ⟨aPAIR_TX_CNT, 0, 32⟩
/-- Address of PAIR_RX_CNT. -/
def aPAIR_RX_CNT : Nat := 0x400C0084
abbrev fPAIR_RX_CNT_cnt : Fld := ⟨aPAIR_RX_CNT, 0, 32⟩
/-- Address of PAIR_REC_ERR. -/
def aPAIR_REC_ERR : Nat := 0x400C0088
abbrev fPAIR_REC_ERR_bad : Fld := ⟨aPAIR_REC_ERR, 16, 16⟩
abbrev fPAIR_REC_ERR_lost : Fld := ⟨aPAIR_REC_ERR, 0, 16⟩
/-- Address of PAIR_DROP. -/
def aPAIR_DROP : Nat := 0x400C008C
abbrev fPAIR_DROP_cnt : Fld := ⟨aPAIR_DROP, 0, 32⟩
/-- Address of PAIR_APPLIED. -/
def aPAIR_APPLIED : Nat := 0x400C0090
abbrev fPAIR_APPLIED_cnt : Fld := ⟨aPAIR_APPLIED, 0, 32⟩
/-- Address of PAIR_DISCARD. -/
def aPAIR_DISCARD : Nat := 0x400C0094
abbrev fPAIR_DISCARD_cnt : Fld := ⟨aPAIR_DISCARD, 0, 32⟩
/-- Address of PAIR_TKO_CNT. -/
def aPAIR_TKO_CNT : Nat := 0x400C0098
abbrev fPAIR_TKO_CNT_ok : Fld := ⟨aPAIR_TKO_CNT, 16, 16⟩
abbrev fPAIR_TKO_CNT_fail : Fld := ⟨aPAIR_TKO_CNT, 0, 16⟩
/-- Address of PAIR_TKO_TIME. -/
def aPAIR_TKO_TIME : Nat := 0x400C009C
abbrev fPAIR_TKO_TIME_t : Fld := ⟨aPAIR_TKO_TIME, 0, 32⟩
/-- Address of PAIR_TKO_GRANT. -/
def aPAIR_TKO_GRANT : Nat := 0x400C00A0
abbrev fPAIR_TKO_GRANT_ports : Fld := ⟨aPAIR_TKO_GRANT, 0, 32⟩
/-- Address of PAIR_SPLIT. -/
def aPAIR_SPLIT : Nat := 0x400C00A4
abbrev fPAIR_SPLIT_mg : Fld := ⟨aPAIR_SPLIT, 0, 32⟩
/-- Address of MSIO_SI_CFG(i). -/
def aMSIO_SI_CFG (i : Nat) : Nat := 0x400B0040 + i % 24 * 0x4
abbrev fMSIO_SI_CFG_en (i : Nat) : Fld := ⟨aMSIO_SI_CFG i, 31, 1⟩
abbrev fMSIO_SI_CFG_pol (i : Nat) : Fld := ⟨aMSIO_SI_CFG i, 30, 1⟩
abbrev fMSIO_SI_CFG_src (i : Nat) : Fld := ⟨aMSIO_SI_CFG i, 24, 5⟩
abbrev fMSIO_SI_CFG_filt (i : Nat) : Fld := ⟨aMSIO_SI_CFG i, 8, 8⟩
/-- Address of MSIO_SI_RAW. -/
def aMSIO_SI_RAW : Nat := 0x400B00A0
abbrev fMSIO_SI_RAW_raw : Fld := ⟨aMSIO_SI_RAW, 0, 24⟩
/-- Address of MSIO_SI_FILT. -/
def aMSIO_SI_FILT : Nat := 0x400B00A4
abbrev fMSIO_SI_FILT_filt : Fld := ⟨aMSIO_SI_FILT, 0, 24⟩
/-- Address of MSIO_SI_FAULT. -/
def aMSIO_SI_FAULT : Nat := 0x400B00A8
abbrev fMSIO_SI_FAULT_fault : Fld := ⟨aMSIO_SI_FAULT, 0, 24⟩
/-- Address of MSIO_SI_FCNT. -/
def aMSIO_SI_FCNT : Nat := 0x400B00AC
abbrev fMSIO_SI_FCNT_cnt : Fld := ⟨aMSIO_SI_FCNT, 0, 32⟩
/-- Address of MSIO_EV_CFG(k). -/
def aMSIO_EV_CFG (i : Nat) : Nat := 0x400B00C0 + i % 8 * 0x10
abbrev fMSIO_EV_CFG_type (i : Nat) : Fld := ⟨aMSIO_EV_CFG i, 29, 3⟩
abbrev fMSIO_EV_CFG_anti (i : Nat) : Fld := ⟨aMSIO_EV_CFG i, 28, 1⟩
abbrev fMSIO_EV_CFG_man (i : Nat) : Fld := ⟨aMSIO_EV_CFG i, 27, 1⟩
abbrev fMSIO_EV_CFG_rst_src (i : Nat) : Fld := ⟨aMSIO_EV_CFG i, 16, 8⟩
abbrev fMSIO_EV_CFG_so_mask (i : Nat) : Fld := ⟨aMSIO_EV_CFG i, 0, 16⟩
/-- Address of MSIO_EV_SRC(k). -/
def aMSIO_EV_SRC (i : Nat) : Nat := 0x400B00C4 + i % 8 * 0x10
abbrev fMSIO_EV_SRC_src_d (i : Nat) : Fld := ⟨aMSIO_EV_SRC i, 24, 8⟩
abbrev fMSIO_EV_SRC_src_c (i : Nat) : Fld := ⟨aMSIO_EV_SRC i, 16, 8⟩
abbrev fMSIO_EV_SRC_src_b (i : Nat) : Fld := ⟨aMSIO_EV_SRC i, 8, 8⟩
abbrev fMSIO_EV_SRC_src_a (i : Nat) : Fld := ⟨aMSIO_EV_SRC i, 0, 8⟩
/-- Address of MSIO_EV_TIM(k). -/
def aMSIO_EV_TIM (i : Nat) : Nat := 0x400B00C8 + i % 8 * 0x10
abbrev fMSIO_EV_TIM_t_sync (i : Nat) : Fld := ⟨aMSIO_EV_TIM i, 16, 9⟩
abbrev fMSIO_EV_TIM_t_disc (i : Nat) : Fld := ⟨aMSIO_EV_TIM i, 0, 10⟩
/-- Address of MSIO_EV_STAT(k). -/
def aMSIO_EV_STAT (i : Nat) : Nat := 0x400B00CC + i % 8 * 0x10
abbrev fMSIO_EV_STAT_sync_fail (i : Nat) : Fld := ⟨aMSIO_EV_STAT i, 24, 8⟩
abbrev fMSIO_EV_STAT_dem_cnt (i : Nat) : Fld := ⟨aMSIO_EV_STAT i, 16, 8⟩
abbrev fMSIO_EV_STAT_cause (i : Nat) : Fld := ⟨aMSIO_EV_STAT i, 4, 4⟩
abbrev fMSIO_EV_STAT_state (i : Nat) : Fld := ⟨aMSIO_EV_STAT i, 0, 3⟩
/-- Address of MSIO_EV_CMD. -/
def aMSIO_EV_CMD : Nat := 0x400B0140
abbrev fMSIO_EV_CMD_fclr : Fld := ⟨aMSIO_EV_CMD, 8, 8⟩
abbrev fMSIO_EV_CMD_rst : Fld := ⟨aMSIO_EV_CMD, 0, 8⟩
/-- Address of MSIO_EV_ALL. -/
def aMSIO_EV_ALL : Nat := 0x400B0144
abbrev fMSIO_EV_ALL_st : Fld := ⟨aMSIO_EV_ALL, 0, 24⟩
/-- Address of MSIO_SO_CFG(j). -/
def aMSIO_SO_CFG (i : Nat) : Nat := 0x400B0180 + i % 16 * 0x4
abbrev fMSIO_SO_CFG_en (i : Nat) : Fld := ⟨aMSIO_SO_CFG i, 31, 1⟩
abbrev fMSIO_SO_CFG_mode (i : Nat) : Fld := ⟨aMSIO_SO_CFG i, 30, 1⟩
abbrev fMSIO_SO_CFG_pair (i : Nat) : Fld := ⟨aMSIO_SO_CFG i, 29, 1⟩
abbrev fMSIO_SO_CFG_tp_en (i : Nat) : Fld := ⟨aMSIO_SO_CFG i, 28, 1⟩
abbrev fMSIO_SO_CFG_t_int (i : Nat) : Fld := ⟨aMSIO_SO_CFG i, 16, 12⟩
abbrev fMSIO_SO_CFG_t_pulse (i : Nat) : Fld := ⟨aMSIO_SO_CFG i, 0, 10⟩
/-- Address of MSIO_SO_CMD. -/
def aMSIO_SO_CMD : Nat := 0x400B01C0
abbrev fMSIO_SO_CMD_on : Fld := ⟨aMSIO_SO_CMD, 0, 16⟩
/-- Address of MSIO_SO_STAT. -/
def aMSIO_SO_STAT : Nat := 0x400B01C4
abbrev fMSIO_SO_STAT_fault : Fld := ⟨aMSIO_SO_STAT, 16, 16⟩
abbrev fMSIO_SO_STAT_out : Fld := ⟨aMSIO_SO_STAT, 0, 16⟩
/-- Address of MSIO_SO_RB. -/
def aMSIO_SO_RB : Nat := 0x400B01C8
abbrev fMSIO_SO_RB_rb : Fld := ⟨aMSIO_SO_RB, 0, 16⟩
/-- Address of MSIO_SO_FCAUSE. -/
def aMSIO_SO_FCAUSE : Nat := 0x400B01CC
abbrev fMSIO_SO_FCAUSE_st : Fld := ⟨aMSIO_SO_FCAUSE, 0, 32⟩
/-- Address of MSIO_SM_CFG(ch). -/
def aMSIO_SM_CFG (i : Nat) : Nat := 0x400B0200 + i % 16 * 0x20
abbrev fMSIO_SM_CFG_en (i : Nat) : Fld := ⟨aMSIO_SM_CFG i, 31, 1⟩
abbrev fMSIO_SM_CFG_dir (i : Nat) : Fld := ⟨aMSIO_SM_CFG i, 30, 1⟩
abbrev fMSIO_SM_CFG_pair (i : Nat) : Fld := ⟨aMSIO_SM_CFG i, 29, 1⟩
abbrev fMSIO_SM_CFG_ide (i : Nat) : Fld := ⟨aMSIO_SM_CFG i, 28, 1⟩
abbrev fMSIO_SM_CFG_fd (i : Nat) : Fld := ⟨aMSIO_SM_CFG i, 27, 1⟩
abbrev fMSIO_SM_CFG_len (i : Nat) : Fld := ⟨aMSIO_SM_CFG i, 24, 3⟩
abbrev fMSIO_SM_CFG_auto (i : Nat) : Fld := ⟨aMSIO_SM_CFG i, 23, 1⟩
abbrev fMSIO_SM_CFG_n_miss (i : Nat) : Fld := ⟨aMSIO_SM_CFG i, 20, 3⟩
abbrev fMSIO_SM_CFG_seed (i : Nat) : Fld := ⟨aMSIO_SM_CFG i, 0, 16⟩
/-- Address of MSIO_SM_IDA(ch). -/
def aMSIO_SM_IDA (i : Nat) : Nat := 0x400B0204 + i % 16 * 0x20
abbrev fMSIO_SM_IDA_id (i : Nat) : Fld := ⟨aMSIO_SM_IDA i, 0, 29⟩
/-- Address of MSIO_SM_IDB(ch). -/
def aMSIO_SM_IDB (i : Nat) : Nat := 0x400B0208 + i % 16 * 0x20
abbrev fMSIO_SM_IDB_id (i : Nat) : Fld := ⟨aMSIO_SM_IDB i, 0, 29⟩
/-- Address of MSIO_SM_TIM(ch). -/
def aMSIO_SM_TIM (i : Nat) : Nat := 0x400B020C + i % 16 * 0x20
abbrev fMSIO_SM_TIM_t_to (i : Nat) : Fld := ⟨aMSIO_SM_TIM i, 16, 16⟩
abbrev fMSIO_SM_TIM_t_pair (i : Nat) : Fld := ⟨aMSIO_SM_TIM i, 0, 16⟩
/-- Address of MSIO_SM_STAT(ch). -/
def aMSIO_SM_STAT (i : Nat) : Nat := 0x400B0210 + i % 16 * 0x20
abbrev fMSIO_SM_STAT_miss_run (i : Nat) : Fld := ⟨aMSIO_SM_STAT i, 24, 8⟩
abbrev fMSIO_SM_STAT_seq (i : Nat) : Fld := ⟨aMSIO_SM_STAT i, 16, 8⟩
abbrev fMSIO_SM_STAT_fcnt (i : Nat) : Fld := ⟨aMSIO_SM_STAT i, 8, 8⟩
abbrev fMSIO_SM_STAT_cause (i : Nat) : Fld := ⟨aMSIO_SM_STAT i, 4, 4⟩
abbrev fMSIO_SM_STAT_state (i : Nat) : Fld := ⟨aMSIO_SM_STAT i, 0, 2⟩
/-- Address of MSIO_SM_CMD(ch). -/
def aMSIO_SM_CMD (i : Nat) : Nat := 0x400B0214 + i % 16 * 0x20
abbrev fMSIO_SM_CMD_rearm (i : Nat) : Fld := ⟨aMSIO_SM_CMD i, 0, 1⟩
/-- Address of MSIO_SM_CNT(ch). -/
def aMSIO_SM_CNT (i : Nat) : Nat := 0x400B0218 + i % 16 * 0x20
abbrev fMSIO_SM_CNT_bad (i : Nat) : Fld := ⟨aMSIO_SM_CNT i, 16, 16⟩
abbrev fMSIO_SM_CNT_dup (i : Nat) : Fld := ⟨aMSIO_SM_CNT i, 0, 16⟩
/-- Address of MSIO_SM_BUF(ch)(w). -/
def aMSIO_SM_BUF (i : Nat) (j : Nat) : Nat := 0x400B0400 + i % 16 * 0x40 + j % 16 * 0x4
abbrev fMSIO_SM_BUF_data (i : Nat) (j : Nat) : Fld := ⟨aMSIO_SM_BUF i j, 0, 32⟩
/-- Address of ADC(u)_CFG. -/
def aADC_CFG (i : Nat) : Nat := 0x40070040 + i % 4 * 0x1000
abbrev fADC_CFG_t_late (i : Nat) : Fld := ⟨aADC_CFG i, 16, 8⟩
abbrev fADC_CFG_s_in (i : Nat) : Fld := ⟨aADC_CFG i, 8, 5⟩
abbrev fADC_CFG_s_k (i : Nat) : Fld := ⟨aADC_CFG i, 2, 4⟩
abbrev fADC_CFG_il (i : Nat) : Fld := ⟨aADC_CFG i, 0, 1⟩
/-- Address of ADC(u)_CAL_STAT. -/
def aADC_CAL_STAT (i : Nat) : Nat := 0x40070044 + i % 4 * 0x1000
abbrev fADC_CAL_STAT_skew_hold (i : Nat) : Fld := ⟨aADC_CAL_STAT i, 3, 1⟩
abbrev fADC_CAL_STAT_skew_ok (i : Nat) : Fld := ⟨aADC_CAL_STAT i, 2, 1⟩
abbrev fADC_CAL_STAT_gain_ok (i : Nat) : Fld := ⟨aADC_CAL_STAT i, 1, 1⟩
abbrev fADC_CAL_STAT_ofs_ok (i : Nat) : Fld := ⟨aADC_CAL_STAT i, 0, 1⟩
/-- Address of ADC(u)_QSTAT. -/
def aADC_QSTAT (i : Nat) : Nat := 0x40070048 + i % 4 * 0x1000
abbrev fADC_QSTAT_inflight (i : Nat) : Fld := ⟨aADC_QSTAT i, 16, 8⟩
abbrev fADC_QSTAT_urg (i : Nat) : Fld := ⟨aADC_QSTAT i, 8, 8⟩
abbrev fADC_QSTAT_norm (i : Nat) : Fld := ⟨aADC_QSTAT i, 0, 8⟩
/-- Address of ADC(u)_REQ_CNT. -/
def aADC_REQ_CNT (i : Nat) : Nat := 0x4007004C + i % 4 * 0x1000
abbrev fADC_REQ_CNT_cnt (i : Nat) : Fld := ⟨aADC_REQ_CNT i, 0, 32⟩
/-- Address of ADC(u)_RES_CNT. -/
def aADC_RES_CNT (i : Nat) : Nat := 0x40070050 + i % 4 * 0x1000
abbrev fADC_RES_CNT_cnt (i : Nat) : Fld := ⟨aADC_RES_CNT i, 0, 32⟩
/-- Address of ADC(u)_RST_CNT. -/
def aADC_RST_CNT (i : Nat) : Nat := 0x40070054 + i % 4 * 0x1000
abbrev fADC_RST_CNT_cnt (i : Nat) : Fld := ⟨aADC_RST_CNT i, 0, 32⟩
/-- Address of ADC(u)_ABT_CNT. -/
def aADC_ABT_CNT (i : Nat) : Nat := 0x40070058 + i % 4 * 0x1000
abbrev fADC_ABT_CNT_cnt (i : Nat) : Fld := ⟨aADC_ABT_CNT i, 0, 32⟩
/-- Address of ADC(u)_ABT_CAUSE. -/
def aADC_ABT_CAUSE (i : Nat) : Nat := 0x4007005C + i % 4 * 0x1000
abbrev fADC_ABT_CAUSE_reset (i : Nat) : Fld := ⟨aADC_ABT_CAUSE i, 24, 8⟩
abbrev fADC_ABT_CAUSE_mode (i : Nat) : Fld := ⟨aADC_ABT_CAUSE i, 16, 8⟩
abbrev fADC_ABT_CAUSE_qfull (i : Nat) : Fld := ⟨aADC_ABT_CAUSE i, 8, 8⟩
abbrev fADC_ABT_CAUSE_late (i : Nat) : Fld := ⟨aADC_ABT_CAUSE i, 0, 8⟩
/-- Address of ADC(u)_LOSS. -/
def aADC_LOSS (i : Nat) : Nat := 0x40070060 + i % 4 * 0x1000
abbrev fADC_LOSS_cnt (i : Nat) : Fld := ⟨aADC_LOSS i, 0, 32⟩
/-- Address of ADC(u)_SWTRIG. -/
def aADC_SWTRIG (i : Nat) : Nat := 0x40070064 + i % 4 * 0x1000
abbrev fADC_SWTRIG_trig (i : Nat) : Fld := ⟨aADC_SWTRIG i, 0, 8⟩
/-- Address of ADC(u)_AIN_CFG(j). -/
def aADC_AIN_CFG (i : Nat) (j : Nat) : Nat := 0x40070080 + i % 4 * 0x1000 + j % 20 * 0x4
abbrev fADC_AIN_CFG_eng (i : Nat) (j : Nat) : Fld := ⟨aADC_AIN_CFG i j, 11, 1⟩
abbrev fADC_AIN_CFG_diff (i : Nat) (j : Nat) : Fld := ⟨aADC_AIN_CFG i j, 10, 1⟩
abbrev fADC_AIN_CFG_avg_sh (i : Nat) (j : Nat) : Fld := ⟨aADC_AIN_CFG i j, 4, 4⟩
abbrev fADC_AIN_CFG_avg_k (i : Nat) (j : Nat) : Fld := ⟨aADC_AIN_CFG i j, 0, 4⟩
/-- Address of ADC(u)_RES(j). -/
def aADC_RES (i : Nat) (j : Nat) : Nat := 0x400700D0 + i % 4 * 0x1000 + j % 20 * 0x4
abbrev fADC_RES_kind (i : Nat) (j : Nat) : Fld := ⟨aADC_RES i j, 30, 2⟩
abbrev fADC_RES_cause (i : Nat) (j : Nat) : Fld := ⟨aADC_RES i j, 27, 3⟩
abbrev fADC_RES_value (i : Nat) (j : Nat) : Fld := ⟨aADC_RES i j, 0, 16⟩
/-- Address of ADC(u)_AVG(j). -/
def aADC_AVG (i : Nat) (j : Nat) : Nat := 0x40070120 + i % 4 * 0x1000 + j % 20 * 0x4
abbrev fADC_AVG_kind (i : Nat) (j : Nat) : Fld := ⟨aADC_AVG i j, 30, 2⟩
abbrev fADC_AVG_value (i : Nat) (j : Nat) : Fld := ⟨aADC_AVG i j, 0, 24⟩
/-- Address of ADC(u)_TS(j). -/
def aADC_TS (i : Nat) (j : Nat) : Nat := 0x40070170 + i % 4 * 0x1000 + j % 20 * 0x4
abbrev fADC_TS_t (i : Nat) (j : Nat) : Fld := ⟨aADC_TS i j, 0, 32⟩
/-- Address of ADC(u)_SEQ_CFG(s). -/
def aADC_SEQ_CFG (i : Nat) (j : Nat) : Nat := 0x40070200 + i % 4 * 0x1000 + j % 8 * 0x10
abbrev fADC_SEQ_CFG_en (i : Nat) (j : Nat) : Fld := ⟨aADC_SEQ_CFG i j, 31, 1⟩
abbrev fADC_SEQ_CFG_urg (i : Nat) (j : Nat) : Fld := ⟨aADC_SEQ_CFG i j, 30, 1⟩
abbrev fADC_SEQ_CFG_trg (i : Nat) (j : Nat) : Fld := ⟨aADC_SEQ_CFG i j, 16, 8⟩
abbrev fADC_SEQ_CFG_n (i : Nat) (j : Nat) : Fld := ⟨aADC_SEQ_CFG i j, 8, 4⟩
abbrev fADC_SEQ_CFG_k_sp (i : Nat) (j : Nat) : Fld := ⟨aADC_SEQ_CFG i j, 0, 4⟩
/-- Address of ADC(u)_SEQ_ENT(s)(0). -/
def aADC_SEQ_ENT0 (i : Nat) (j : Nat) : Nat := 0x40070204 + i % 4 * 0x1000 + j % 8 * 0x10
abbrev fADC_SEQ_ENT0_ent3 (i : Nat) (j : Nat) : Fld := ⟨aADC_SEQ_ENT0 i j, 24, 8⟩
abbrev fADC_SEQ_ENT0_ent2 (i : Nat) (j : Nat) : Fld := ⟨aADC_SEQ_ENT0 i j, 16, 8⟩
abbrev fADC_SEQ_ENT0_ent1 (i : Nat) (j : Nat) : Fld := ⟨aADC_SEQ_ENT0 i j, 8, 8⟩
abbrev fADC_SEQ_ENT0_ent0 (i : Nat) (j : Nat) : Fld := ⟨aADC_SEQ_ENT0 i j, 0, 8⟩
/-- Address of ADC(u)_SEQ_ENT(s)(1). -/
def aADC_SEQ_ENT1 (i : Nat) (j : Nat) : Nat := 0x40070208 + i % 4 * 0x1000 + j % 8 * 0x10
abbrev fADC_SEQ_ENT1_ent3 (i : Nat) (j : Nat) : Fld := ⟨aADC_SEQ_ENT1 i j, 24, 8⟩
abbrev fADC_SEQ_ENT1_ent2 (i : Nat) (j : Nat) : Fld := ⟨aADC_SEQ_ENT1 i j, 16, 8⟩
abbrev fADC_SEQ_ENT1_ent1 (i : Nat) (j : Nat) : Fld := ⟨aADC_SEQ_ENT1 i j, 8, 8⟩
abbrev fADC_SEQ_ENT1_ent0 (i : Nat) (j : Nat) : Fld := ⟨aADC_SEQ_ENT1 i j, 0, 8⟩
/-- Address of ADC(u)_SEQ_TIM(s). -/
def aADC_SEQ_TIM (i : Nat) (j : Nat) : Nat := 0x4007020C + i % 4 * 0x1000 + j % 8 * 0x10
abbrev fADC_SEQ_TIM_per (i : Nat) (j : Nat) : Fld := ⟨aADC_SEQ_TIM i j, 0, 24⟩
/-- Address of ADC(u)_SEQ_STAT(s). -/
def aADC_SEQ_STAT (i : Nat) (j : Nat) : Nat := 0x40070280 + i % 4 * 0x1000 + j % 8 * 0x4
abbrev fADC_SEQ_STAT_ovr (i : Nat) (j : Nat) : Fld := ⟨aADC_SEQ_STAT i j, 16, 16⟩
abbrev fADC_SEQ_STAT_runs (i : Nat) (j : Nat) : Fld := ⟨aADC_SEQ_STAT i j, 0, 16⟩
/-- Address of ADC(u)_WC_CFG(w). -/
def aADC_WC_CFG (i : Nat) (j : Nat) : Nat := 0x40070300 + i % 4 * 0x1000 + j % 16 * 0x10
abbrev fADC_WC_CFG_en (i : Nat) (j : Nat) : Fld := ⟨aADC_WC_CFG i j, 31, 1⟩
abbrev fADC_WC_CFG_avg (i : Nat) (j : Nat) : Fld := ⟨aADC_WC_CFG i j, 30, 1⟩
abbrev fADC_WC_CFG_in (i : Nat) (j : Nat) : Fld := ⟨aADC_WC_CFG i j, 24, 5⟩
abbrev fADC_WC_CFG_hyst (i : Nat) (j : Nat) : Fld := ⟨aADC_WC_CFG i j, 0, 16⟩
/-- Address of ADC(u)_WC_LIM(w). -/
def aADC_WC_LIM (i : Nat) (j : Nat) : Nat := 0x40070304 + i % 4 * 0x1000 + j % 16 * 0x10
abbrev fADC_WC_LIM_hi (i : Nat) (j : Nat) : Fld := ⟨aADC_WC_LIM i j, 16, 16⟩
abbrev fADC_WC_LIM_lo (i : Nat) (j : Nat) : Fld := ⟨aADC_WC_LIM i j, 0, 16⟩
/-- Address of ADC(u)_WC_STAT(w). -/
def aADC_WC_STAT (i : Nat) (j : Nat) : Nat := 0x40070308 + i % 4 * 0x1000 + j % 16 * 0x10
abbrev fADC_WC_STAT_cnt (i : Nat) (j : Nat) : Fld := ⟨aADC_WC_STAT i j, 16, 16⟩
abbrev fADC_WC_STAT_asserted (i : Nat) (j : Nat) : Fld := ⟨aADC_WC_STAT i j, 0, 1⟩
/-- Address of ADC(u)_WC_RSVD(w). -/
def aADC_WC_RSVD (i : Nat) (j : Nat) : Nat := 0x4007030C + i % 4 * 0x1000 + j % 16 * 0x10
/-- Address of ADC(u)_RES_CFG(r). -/
def aADC_RES_CFG (i : Nat) (j : Nat) : Nat := 0x40070400 + i % 4 * 0x1000 + j % 2 * 0x20
abbrev fADC_RES_CFG_en (i : Nat) (j : Nat) : Fld := ⟨aADC_RES_CFG i j, 31, 1⟩
abbrev fADC_RES_CFG_j_c (i : Nat) (j : Nat) : Fld := ⟨aADC_RES_CFG i j, 21, 5⟩
abbrev fADC_RES_CFG_j_s (i : Nat) (j : Nat) : Fld := ⟨aADC_RES_CFG i j, 16, 5⟩
abbrev fADC_RES_CFG_phi (i : Nat) (j : Nat) : Fld := ⟨aADC_RES_CFG i j, 0, 9⟩
/-- Address of ADC(u)_EXC_CFG(r). -/
def aADC_EXC_CFG (i : Nat) (j : Nat) : Nat := 0x40070404 + i % 4 * 0x1000 + j % 2 * 0x20
abbrev fADC_EXC_CFG_amp (i : Nat) (j : Nat) : Fld := ⟨aADC_EXC_CFG i j, 24, 8⟩
abbrev fADC_EXC_CFG_freq (i : Nat) (j : Nat) : Fld := ⟨aADC_EXC_CFG i j, 0, 11⟩
/-- Address of ADC(u)_RES_LIM(r). -/
def aADC_RES_LIM (i : Nat) (j : Nat) : Nat := 0x40070408 + i % 4 * 0x1000 + j % 2 * 0x20
abbrev fADC_RES_LIM_amax (i : Nat) (j : Nat) : Fld := ⟨aADC_RES_LIM i j, 16, 16⟩
abbrev fADC_RES_LIM_amin (i : Nat) (j : Nat) : Fld := ⟨aADC_RES_LIM i j, 0, 16⟩
/-- Address of ADC(u)_RES_ENV(r). -/
def aADC_RES_ENV (i : Nat) (j : Nat) : Nat := 0x4007040C + i % 4 * 0x1000 + j % 2 * 0x20
abbrev fADC_RES_ENV_c (i : Nat) (j : Nat) : Fld := ⟨aADC_RES_ENV i j, 16, 16⟩
abbrev fADC_RES_ENV_s (i : Nat) (j : Nat) : Fld := ⟨aADC_RES_ENV i j, 0, 16⟩
/-- Address of ADC(u)_RES_STAT(r). -/
def aADC_RES_STAT (i : Nat) (j : Nat) : Nat := 0x40070410 + i % 4 * 0x1000 + j % 2 * 0x20
abbrev fADC_RES_STAT_miss (i : Nat) (j : Nat) : Fld := ⟨aADC_RES_STAT i j, 16, 16⟩
abbrev fADC_RES_STAT_los (i : Nat) (j : Nat) : Fld := ⟨aADC_RES_STAT i j, 1, 1⟩
abbrev fADC_RES_STAT_run (i : Nat) (j : Nat) : Fld := ⟨aADC_RES_STAT i j, 0, 1⟩
/-- Address of ADC(u)_RES_TS(r). -/
def aADC_RES_TS (i : Nat) (j : Nat) : Nat := 0x40070414 + i % 4 * 0x1000 + j % 2 * 0x20
abbrev fADC_RES_TS_t (i : Nat) (j : Nat) : Fld := ⟨aADC_RES_TS i j, 0, 32⟩
/-- Address of ADC_FC_CFG(f). -/
def aADC_FC_CFG (i : Nat) : Nat := 0x40070480 + i % 16 * 0x4
abbrev fADC_FC_CFG_en (i : Nat) : Fld := ⟨aADC_FC_CFG i, 31, 1⟩
abbrev fADC_FC_CFG_pol (i : Nat) : Fld := ⟨aADC_FC_CFG i, 30, 1⟩
abbrev fADC_FC_CFG_hyst (i : Nat) : Fld := ⟨aADC_FC_CFG i, 28, 2⟩
abbrev fADC_FC_CFG_th (i : Nat) : Fld := ⟨aADC_FC_CFG i, 0, 10⟩
/-- Address of ADC_FC_OUT. -/
def aADC_FC_OUT : Nat := 0x400704C0
abbrev fADC_FC_OUT_act : Fld := ⟨aADC_FC_OUT, 0, 16⟩
/-- Address of FB(c)_CFG. -/
def aFB_CFG (i : Nat) : Nat := 0x40081000 + i % 16 * 0x40
abbrev fFB_CFG_mode (i : Nat) : Fld := ⟨aFB_CFG i, 30, 2⟩
abbrev fFB_CFG_swap (i : Nat) : Fld := ⟨aFB_CFG i, 29, 1⟩
abbrev fFB_CFG_zpol (i : Nat) : Fld := ⟨aFB_CFG i, 28, 1⟩
abbrev fFB_CFG_idx_mode (i : Nat) : Fld := ⟨aFB_CFG i, 26, 2⟩
abbrev fFB_CFG_cap_tbg (i : Nat) : Fld := ⟨aFB_CFG i, 21, 5⟩
abbrev fFB_CFG_cap_en (i : Nat) : Fld := ⟨aFB_CFG i, 20, 1⟩
abbrev fFB_CFG_filt (i : Nat) : Fld := ⟨aFB_CFG i, 8, 8⟩
/-- Address of FB(c)_IDX_VAL. -/
def aFB_IDX_VAL (i : Nat) : Nat := 0x40081004 + i % 16 * 0x40
abbrev fFB_IDX_VAL_val (i : Nat) : Fld := ⟨aFB_IDX_VAL i, 0, 32⟩
/-- Address of FB(c)_SPD_CFG. -/
def aFB_SPD_CFG (i : Nat) : Nat := 0x40081008 + i % 16 * 0x40
abbrev fFB_SPD_CFG_t_zero (i : Nat) : Fld := ⟨aFB_SPD_CFG i, 16, 16⟩
/-- Address of FB(c)_CMD. -/
def aFB_CMD (i : Nat) : Nat := 0x4008100C + i % 16 * 0x40
abbrev fFB_CMD_arm (i : Nat) : Fld := ⟨aFB_CMD i, 2, 1⟩
abbrev fFB_CMD_clr (i : Nat) : Fld := ⟨aFB_CMD i, 1, 1⟩
abbrev fFB_CMD_preset (i : Nat) : Fld := ⟨aFB_CMD i, 0, 1⟩
/-- Address of FB(c)_POS. -/
def aFB_POS (i : Nat) : Nat := 0x40081010 + i % 16 * 0x40
abbrev fFB_POS_pos (i : Nat) : Fld := ⟨aFB_POS i, 0, 32⟩
/-- Address of FB(c)_STAT. -/
def aFB_STAT (i : Nat) : Nat := 0x40081014 + i % 16 * 0x40
abbrev fFB_STAT_qerr_cnt (i : Nat) : Fld := ⟨aFB_STAT i, 24, 8⟩
abbrev fFB_STAT_idx_cnt (i : Nat) : Fld := ⟨aFB_STAT i, 16, 8⟩
abbrev fFB_STAT_armed (i : Nat) : Fld := ⟨aFB_STAT i, 7, 1⟩
abbrev fFB_STAT_idx_done (i : Nat) : Fld := ⟨aFB_STAT i, 6, 1⟩
abbrev fFB_STAT_hall_err (i : Nat) : Fld := ⟨aFB_STAT i, 5, 1⟩
abbrev fFB_STAT_qerr (i : Nat) : Fld := ⟨aFB_STAT i, 4, 1⟩
abbrev fFB_STAT_dir (i : Nat) : Fld := ⟨aFB_STAT i, 3, 1⟩
abbrev fFB_STAT_hall (i : Nat) : Fld := ⟨aFB_STAT i, 0, 3⟩
/-- Address of FB(c)_IDX_LATCH. -/
def aFB_IDX_LATCH (i : Nat) : Nat := 0x40081018 + i % 16 * 0x40
abbrev fFB_IDX_LATCH_pos (i : Nat) : Fld := ⟨aFB_IDX_LATCH i, 0, 32⟩
/-- Address of FB(c)_CAP_POS. -/
def aFB_CAP_POS (i : Nat) : Nat := 0x4008101C + i % 16 * 0x40
abbrev fFB_CAP_POS_pos (i : Nat) : Fld := ⟨aFB_CAP_POS i, 0, 32⟩
/-- Address of FB(c)_CAP_SPD. -/
def aFB_CAP_SPD (i : Nat) : Nat := 0x40081020 + i % 16 * 0x40
abbrev fFB_CAP_SPD_spd (i : Nat) : Fld := ⟨aFB_CAP_SPD i, 0, 32⟩
/-- Address of FB(c)_CAP_TIME. -/
def aFB_CAP_TIME (i : Nat) : Nat := 0x40081024 + i % 16 * 0x40
abbrev fFB_CAP_TIME_t (i : Nat) : Fld := ⟨aFB_CAP_TIME i, 0, 32⟩
/-- Address of FB(c)_EDGE_TIME. -/
def aFB_EDGE_TIME (i : Nat) : Nat := 0x40081028 + i % 16 * 0x40
abbrev fFB_EDGE_TIME_t (i : Nat) : Fld := ⟨aFB_EDGE_TIME i, 0, 32⟩
/-- Address of FB_RES_CFG(n). -/
def aFB_RES_CFG (i : Nat) : Nat := 0x40081400 + i % 8 * 0x40
abbrev fFB_RES_CFG_en (i : Nat) : Fld := ⟨aFB_RES_CFG i, 31, 1⟩
abbrev fFB_RES_CFG_swap (i : Nat) : Fld := ⟨aFB_RES_CFG i, 30, 1⟩
abbrev fFB_RES_CFG_cap_tbg (i : Nat) : Fld := ⟨aFB_RES_CFG i, 25, 5⟩
abbrev fFB_RES_CFG_cap_en (i : Nat) : Fld := ⟨aFB_RES_CFG i, 24, 1⟩
/-- Address of FB_RES_KP(n). -/
def aFB_RES_KP (i : Nat) : Nat := 0x40081404 + i % 8 * 0x40
abbrev fFB_RES_KP_kp (i : Nat) : Fld := ⟨aFB_RES_KP i, 0, 32⟩
/-- Address of FB_RES_KI(n). -/
def aFB_RES_KI (i : Nat) : Nat := 0x40081408 + i % 8 * 0x40
abbrev fFB_RES_KI_ki (i : Nat) : Fld := ⟨aFB_RES_KI i, 0, 32⟩
/-- Address of FB_RES_POS(n). -/
def aFB_RES_POS (i : Nat) : Nat := 0x4008140C + i % 8 * 0x40
abbrev fFB_RES_POS_pos (i : Nat) : Fld := ⟨aFB_RES_POS i, 0, 32⟩
/-- Address of FB_RES_SPD(n). -/
def aFB_RES_SPD (i : Nat) : Nat := 0x40081410 + i % 8 * 0x40
abbrev fFB_RES_SPD_spd (i : Nat) : Fld := ⟨aFB_RES_SPD i, 0, 32⟩
/-- Address of FB_RES_STAT(n). -/
def aFB_RES_STAT (i : Nat) : Nat := 0x40081414 + i % 8 * 0x40
abbrev fFB_RES_STAT_los_cnt (i : Nat) : Fld := ⟨aFB_RES_STAT i, 16, 16⟩
abbrev fFB_RES_STAT_lock (i : Nat) : Fld := ⟨aFB_RES_STAT i, 2, 1⟩
abbrev fFB_RES_STAT_stale (i : Nat) : Fld := ⟨aFB_RES_STAT i, 1, 1⟩
abbrev fFB_RES_STAT_los (i : Nat) : Fld := ⟨aFB_RES_STAT i, 0, 1⟩
/-- Address of FB_RES_CAP_POS(n). -/
def aFB_RES_CAP_POS (i : Nat) : Nat := 0x40081418 + i % 8 * 0x40
abbrev fFB_RES_CAP_POS_pos (i : Nat) : Fld := ⟨aFB_RES_CAP_POS i, 0, 32⟩
/-- Address of FB_RES_CAP_SPD(n). -/
def aFB_RES_CAP_SPD (i : Nat) : Nat := 0x4008141C + i % 8 * 0x40
abbrev fFB_RES_CAP_SPD_spd (i : Nat) : Fld := ⟨aFB_RES_CAP_SPD i, 0, 32⟩
/-- Address of FB_RES_CAP_TIME(n). -/
def aFB_RES_CAP_TIME (i : Nat) : Nat := 0x40081420 + i % 8 * 0x40
abbrev fFB_RES_CAP_TIME_t (i : Nat) : Fld := ⟨aFB_RES_CAP_TIME i, 0, 32⟩
/-- Address of FB_EMU_CFG(e). -/
def aFB_EMU_CFG (i : Nat) : Nat := 0x40081600 + i % 4 * 0x20
abbrev fFB_EMU_CFG_en (i : Nat) : Fld := ⟨aFB_EMU_CFG i, 31, 1⟩
abbrev fFB_EMU_CFG_swap (i : Nat) : Fld := ⟨aFB_EMU_CFG i, 30, 1⟩
abbrev fFB_EMU_CFG_src (i : Nat) : Fld := ⟨aFB_EMU_CFG i, 25, 5⟩
abbrev fFB_EMU_CFG_gap (i : Nat) : Fld := ⟨aFB_EMU_CFG i, 8, 8⟩
/-- Address of FB_EMU_RATIO(e). -/
def aFB_EMU_RATIO (i : Nat) : Nat := 0x40081604 + i % 4 * 0x20
abbrev fFB_EMU_RATIO_num (i : Nat) : Fld := ⟨aFB_EMU_RATIO i, 16, 16⟩
abbrev fFB_EMU_RATIO_den (i : Nat) : Fld := ⟨aFB_EMU_RATIO i, 0, 16⟩
/-- Address of FB_EMU_ZPER(e). -/
def aFB_EMU_ZPER (i : Nat) : Nat := 0x40081608 + i % 4 * 0x20
abbrev fFB_EMU_ZPER_z_per (i : Nat) : Fld := ⟨aFB_EMU_ZPER i, 0, 32⟩
/-- Address of FB_EMU_POS(e). -/
def aFB_EMU_POS (i : Nat) : Nat := 0x4008160C + i % 4 * 0x20
abbrev fFB_EMU_POS_pos (i : Nat) : Fld := ⟨aFB_EMU_POS i, 0, 32⟩
/-- Address of FB_EMU_BACKLOG(e). -/
def aFB_EMU_BACKLOG (i : Nat) : Nat := 0x40081610 + i % 4 * 0x20
abbrev fFB_EMU_BACKLOG_bl (i : Nat) : Fld := ⟨aFB_EMU_BACKLOG i, 0, 16⟩
/-- Address of FB_EMU_LOSS(e). -/
def aFB_EMU_LOSS (i : Nat) : Nat := 0x40081614 + i % 4 * 0x20
abbrev fFB_EMU_LOSS_cnt (i : Nat) : Fld := ⟨aFB_EMU_LOSS i, 0, 32⟩
/-- Address of AX(k)_CFG. -/
def aAX_CFG (i : Nat) : Nat := 0x40091000 + i % 8 * 0x80
abbrev fAX_CFG_mode (i : Nat) : Fld := ⟨aAX_CFG i, 30, 2⟩
abbrev fAX_CFG_dir_inv (i : Nat) : Fld := ⟨aAX_CFG i, 29, 1⟩
abbrev fAX_CFG_lim_pol (i : Nat) : Fld := ⟨aAX_CFG i, 28, 1⟩
abbrev fAX_CFG_home_pol (i : Nat) : Fld := ⟨aAX_CFG i, 27, 1⟩
abbrev fAX_CFG_lim_mode (i : Nat) : Fld := ⟨aAX_CFG i, 26, 1⟩
abbrev fAX_CFG_lim_filt (i : Nat) : Fld := ⟨aAX_CFG i, 16, 8⟩
abbrev fAX_CFG_pw (i : Nat) : Fld := ⟨aAX_CFG i, 8, 8⟩
abbrev fAX_CFG_mstep (i : Nat) : Fld := ⟨aAX_CFG i, 0, 4⟩
/-- Address of AX(k)_VSTART. -/
def aAX_VSTART (i : Nat) : Nat := 0x40091004 + i % 8 * 0x80
abbrev fAX_VSTART_v (i : Nat) : Fld := ⟨aAX_VSTART i, 0, 32⟩
/-- Address of AX(k)_VBREAK. -/
def aAX_VBREAK (i : Nat) : Nat := 0x40091008 + i % 8 * 0x80
abbrev fAX_VBREAK_v (i : Nat) : Fld := ⟨aAX_VBREAK i, 0, 32⟩
/-- Address of AX(k)_VMAX. -/
def aAX_VMAX (i : Nat) : Nat := 0x4009100C + i % 8 * 0x80
abbrev fAX_VMAX_v (i : Nat) : Fld := ⟨aAX_VMAX i, 0, 32⟩
/-- Address of AX(k)_VSTOP. -/
def aAX_VSTOP (i : Nat) : Nat := 0x40091010 + i % 8 * 0x80
abbrev fAX_VSTOP_v (i : Nat) : Fld := ⟨aAX_VSTOP i, 0, 32⟩
/-- Address of AX(k)_A1. -/
def aAX_A1 (i : Nat) : Nat := 0x40091014 + i % 8 * 0x80
abbrev fAX_A1_a (i : Nat) : Fld := ⟨aAX_A1 i, 0, 32⟩
/-- Address of AX(k)_A2. -/
def aAX_A2 (i : Nat) : Nat := 0x40091018 + i % 8 * 0x80
abbrev fAX_A2_a (i : Nat) : Fld := ⟨aAX_A2 i, 0, 32⟩
/-- Address of AX(k)_D2. -/
def aAX_D2 (i : Nat) : Nat := 0x4009101C + i % 8 * 0x80
abbrev fAX_D2_d (i : Nat) : Fld := ⟨aAX_D2 i, 0, 32⟩
/-- Address of AX(k)_D1. -/
def aAX_D1 (i : Nat) : Nat := 0x40091020 + i % 8 * 0x80
abbrev fAX_D1_d (i : Nat) : Fld := ⟨aAX_D1 i, 0, 32⟩
/-- Address of AX(k)_TARGET. -/
def aAX_TARGET (i : Nat) : Nat := 0x40091024 + i % 8 * 0x80
abbrev fAX_TARGET_pos (i : Nat) : Fld := ⟨aAX_TARGET i, 0, 32⟩
/-- Address of AX(k)_CMD. -/
def aAX_CMD (i : Nat) : Nat := 0x40091028 + i % 8 * 0x80
abbrev fAX_CMD_cmd (i : Nat) : Fld := ⟨aAX_CMD i, 0, 4⟩
/-- Address of AX(k)_POS. -/
def aAX_POS (i : Nat) : Nat := 0x4009102C + i % 8 * 0x80
abbrev fAX_POS_pos (i : Nat) : Fld := ⟨aAX_POS i, 0, 32⟩
/-- Address of AX(k)_STAT. -/
def aAX_STAT (i : Nat) : Nat := 0x40091030 + i % 8 * 0x80
abbrev fAX_STAT_bo_stop (i : Nat) : Fld := ⟨aAX_STAT i, 16, 1⟩
abbrev fAX_STAT_dir (i : Nat) : Fld := ⟨aAX_STAT i, 15, 1⟩
abbrev fAX_STAT_chg_ref (i : Nat) : Fld := ⟨aAX_STAT i, 14, 1⟩
abbrev fAX_STAT_cmd_ref (i : Nat) : Fld := ⟨aAX_STAT i, 13, 1⟩
abbrev fAX_STAT_chop_fault (i : Nat) : Fld := ⟨aAX_STAT i, 12, 1⟩
abbrev fAX_STAT_lim_stop (i : Nat) : Fld := ⟨aAX_STAT i, 11, 1⟩
abbrev fAX_STAT_done (i : Nat) : Fld := ⟨aAX_STAT i, 10, 1⟩
abbrev fAX_STAT_home (i : Nat) : Fld := ⟨aAX_STAT i, 9, 1⟩
abbrev fAX_STAT_limn (i : Nat) : Fld := ⟨aAX_STAT i, 8, 1⟩
abbrev fAX_STAT_limp (i : Nat) : Fld := ⟨aAX_STAT i, 7, 1⟩
abbrev fAX_STAT_kind (i : Nat) : Fld := ⟨aAX_STAT i, 5, 2⟩
abbrev fAX_STAT_seg (i : Nat) : Fld := ⟨aAX_STAT i, 0, 3⟩
/-- Address of AX(k)_SPEED. -/
def aAX_SPEED (i : Nat) : Nat := 0x40091034 + i % 8 * 0x80
abbrev fAX_SPEED_v (i : Nat) : Fld := ⟨aAX_SPEED i, 0, 32⟩
/-- Address of AX(k)_LEFT. -/
def aAX_LEFT (i : Nat) : Nat := 0x40091038 + i % 8 * 0x80
abbrev fAX_LEFT_n (i : Nat) : Fld := ⟨aAX_LEFT i, 0, 32⟩
/-- Address of AX(k)_HOME_POS. -/
def aAX_HOME_POS (i : Nat) : Nat := 0x4009103C + i % 8 * 0x80
abbrev fAX_HOME_POS_pos (i : Nat) : Fld := ⟨aAX_HOME_POS i, 0, 32⟩
/-- Address of AX(k)_HOME_VAL. -/
def aAX_HOME_VAL (i : Nat) : Nat := 0x40091040 + i % 8 * 0x80
abbrev fAX_HOME_VAL_pos (i : Nat) : Fld := ⟨aAX_HOME_VAL i, 0, 32⟩
/-- Address of AX(k)_VHOME. -/
def aAX_VHOME (i : Nat) : Nat := 0x40091044 + i % 8 * 0x80
abbrev fAX_VHOME_v (i : Nat) : Fld := ⟨aAX_VHOME i, 0, 32⟩
/-- Address of AX(k)_CHOP_CFG. -/
def aAX_CHOP_CFG (i : Nat) : Nat := 0x40091048 + i % 8 * 0x80
abbrev fAX_CHOP_CFG_i_run (i : Nat) : Fld := ⟨aAX_CHOP_CFG i, 22, 10⟩
abbrev fAX_CHOP_CFG_i_hold (i : Nat) : Fld := ⟨aAX_CHOP_CFG i, 12, 10⟩
abbrev fAX_CHOP_CFG_hyst (i : Nat) : Fld := ⟨aAX_CHOP_CFG i, 4, 8⟩
abbrev fAX_CHOP_CFG_adapt (i : Nat) : Fld := ⟨aAX_CHOP_CFG i, 3, 1⟩
abbrev fAX_CHOP_CFG_decay (i : Nat) : Fld := ⟨aAX_CHOP_CFG i, 2, 1⟩
/-- Address of AX(k)_CHOP_TIM. -/
def aAX_CHOP_TIM (i : Nat) : Nat := 0x4009104C + i % 8 * 0x80
abbrev fAX_CHOP_TIM_t_blank (i : Nat) : Fld := ⟨aAX_CHOP_TIM i, 24, 8⟩
abbrev fAX_CHOP_TIM_t_cd (i : Nat) : Fld := ⟨aAX_CHOP_TIM i, 16, 8⟩
abbrev fAX_CHOP_TIM_t_hold_cur (i : Nat) : Fld := ⟨aAX_CHOP_TIM i, 0, 16⟩
/-- Address of AX(k)_CHOP_STAT. -/
def aAX_CHOP_STAT (i : Nat) : Nat := 0x40091050 + i % 8 * 0x80
abbrev fAX_CHOP_STAT_ofs_a (i : Nat) : Fld := ⟨aAX_CHOP_STAT i, 16, 16⟩
abbrev fAX_CHOP_STAT_ofs_b (i : Nat) : Fld := ⟨aAX_CHOP_STAT i, 0, 16⟩
/-- Address of AX(k)_CHOP_FCNT. -/
def aAX_CHOP_FCNT (i : Nat) : Nat := 0x40091054 + i % 8 * 0x80
abbrev fAX_CHOP_FCNT_cnt (i : Nat) : Fld := ⟨aAX_CHOP_FCNT i, 0, 32⟩
/-- Address of AX(k)_IRQ_RAW. -/
def aAX_IRQ_RAW (i : Nat) : Nat := 0x40091058 + i % 8 * 0x80
abbrev fAX_IRQ_RAW_src (i : Nat) : Fld := ⟨aAX_IRQ_RAW i, 0, 6⟩
/-- Address of AX(k)_IRQ_EN. -/
def aAX_IRQ_EN (i : Nat) : Nat := 0x4009105C + i % 8 * 0x80
abbrev fAX_IRQ_EN_en (i : Nat) : Fld := ⟨aAX_IRQ_EN i, 0, 6⟩
/-- Address of CAN(c)_NBT. -/
def aCAN_NBT (i : Nat) : Nat := 0x400A0040 + i % 4 * 0x1000
abbrev fCAN_NBT_brp (i : Nat) : Fld := ⟨aCAN_NBT i, 23, 9⟩
abbrev fCAN_NBT_sjw (i : Nat) : Fld := ⟨aCAN_NBT i, 16, 7⟩
abbrev fCAN_NBT_tseg1 (i : Nat) : Fld := ⟨aCAN_NBT i, 8, 8⟩
abbrev fCAN_NBT_tseg2 (i : Nat) : Fld := ⟨aCAN_NBT i, 0, 7⟩
/-- Address of CAN(c)_DBT. -/
def aCAN_DBT (i : Nat) : Nat := 0x400A0044 + i % 4 * 0x1000
abbrev fCAN_DBT_brp (i : Nat) : Fld := ⟨aCAN_DBT i, 16, 5⟩
abbrev fCAN_DBT_tseg1 (i : Nat) : Fld := ⟨aCAN_DBT i, 8, 5⟩
abbrev fCAN_DBT_tseg2 (i : Nat) : Fld := ⟨aCAN_DBT i, 4, 4⟩
abbrev fCAN_DBT_sjw (i : Nat) : Fld := ⟨aCAN_DBT i, 0, 4⟩
/-- Address of CAN(c)_TDC. -/
def aCAN_TDC (i : Nat) : Nat := 0x400A0048 + i % 4 * 0x1000
abbrev fCAN_TDC_en (i : Nat) : Fld := ⟨aCAN_TDC i, 31, 1⟩
abbrev fCAN_TDC_tdcf (i : Nat) : Fld := ⟨aCAN_TDC i, 16, 7⟩
abbrev fCAN_TDC_tdco (i : Nat) : Fld := ⟨aCAN_TDC i, 0, 7⟩
/-- Address of CAN(c)_MODE. -/
def aCAN_MODE (i : Nat) : Nat := 0x400A004C + i % 4 * 0x1000
abbrev fCAN_MODE_fifo_wm (i : Nat) : Fld := ⟨aCAN_MODE i, 16, 6⟩
abbrev fCAN_MODE_fifo_ovw (i : Nat) : Fld := ⟨aCAN_MODE i, 12, 1⟩
abbrev fCAN_MODE_pex (i : Nat) : Fld := ⟨aCAN_MODE i, 10, 1⟩
abbrev fCAN_MODE_brs_en (i : Nat) : Fld := ⟨aCAN_MODE i, 9, 1⟩
abbrev fCAN_MODE_fd_en (i : Nat) : Fld := ⟨aCAN_MODE i, 8, 1⟩
abbrev fCAN_MODE_mode (i : Nat) : Fld := ⟨aCAN_MODE i, 0, 3⟩
/-- Address of CAN(c)_PSTAT. -/
def aCAN_PSTAT (i : Nat) : Nat := 0x400A0050 + i % 4 * 0x1000
abbrev fCAN_PSTAT_tec (i : Nat) : Fld := ⟨aCAN_PSTAT i, 24, 8⟩
abbrev fCAN_PSTAT_rec (i : Nat) : Fld := ⟨aCAN_PSTAT i, 16, 8⟩
abbrev fCAN_PSTAT_mode (i : Nat) : Fld := ⟨aCAN_PSTAT i, 12, 3⟩
abbrev fCAN_PSTAT_estate (i : Nat) : Fld := ⟨aCAN_PSTAT i, 10, 2⟩
abbrev fCAN_PSTAT_busy (i : Nat) : Fld := ⟨aCAN_PSTAT i, 9, 1⟩
abbrev fCAN_PSTAT_txing (i : Nat) : Fld := ⟨aCAN_PSTAT i, 8, 1⟩
abbrev fCAN_PSTAT_tdcv (i : Nat) : Fld := ⟨aCAN_PSTAT i, 0, 7⟩
/-- Address of CAN(c)_CMD. -/
def aCAN_CMD (i : Nat) : Nat := 0x400A0054 + i % 4 * 0x1000
abbrev fCAN_CMD_recover (i : Nat) : Fld := ⟨aCAN_CMD i, 8, 1⟩
abbrev fCAN_CMD_pop (i : Nat) : Fld := ⟨aCAN_CMD i, 0, 1⟩
/-- Address of CAN(c)_MB_CMD. -/
def aCAN_MB_CMD (i : Nat) : Nat := 0x400A0058 + i % 4 * 0x1000
abbrev fCAN_MB_CMD_op (i : Nat) : Fld := ⟨aCAN_MB_CMD i, 8, 2⟩
abbrev fCAN_MB_CMD_mb (i : Nat) : Fld := ⟨aCAN_MB_CMD i, 0, 6⟩
/-- Address of CAN(c)_MB_SEL. -/
def aCAN_MB_SEL (i : Nat) : Nat := 0x400A005C + i % 4 * 0x1000
abbrev fCAN_MB_SEL_mb (i : Nat) : Fld := ⟨aCAN_MB_SEL i, 0, 6⟩
/-- Address of CAN(c)_TXPEND(i). -/
def aCAN_TXPEND (i : Nat) (j : Nat) : Nat := 0x400A0060 + i % 4 * 0x1000 + j % 2 * 0x4
abbrev fCAN_TXPEND_pend (i : Nat) (j : Nat) : Fld := ⟨aCAN_TXPEND i j, 0, 32⟩
/-- Address of CAN(c)_NEW(i). -/
def aCAN_NEW (i : Nat) (j : Nat) : Nat := 0x400A0068 + i % 4 * 0x1000 + j % 2 * 0x4
abbrev fCAN_NEW_new (i : Nat) (j : Nat) : Fld := ⟨aCAN_NEW i j, 0, 32⟩
/-- Address of CAN(c)_IDCOLL. -/
def aCAN_IDCOLL (i : Nat) : Nat := 0x400A0070 + i % 4 * 0x1000
abbrev fCAN_IDCOLL_cnt (i : Nat) : Fld := ⟨aCAN_IDCOLL i, 0, 32⟩
/-- Address of CAN(c)_TX_REQ. -/
def aCAN_TX_REQ (i : Nat) : Nat := 0x400A0074 + i % 4 * 0x1000
abbrev fCAN_TX_REQ_cnt (i : Nat) : Fld := ⟨aCAN_TX_REQ i, 0, 32⟩
/-- Address of CAN(c)_TX_OK. -/
def aCAN_TX_OK (i : Nat) : Nat := 0x400A0078 + i % 4 * 0x1000
abbrev fCAN_TX_OK_cnt (i : Nat) : Fld := ⟨aCAN_TX_OK i, 0, 32⟩
/-- Address of CAN(c)_TX_ABT. -/
def aCAN_TX_ABT (i : Nat) : Nat := 0x400A007C + i % 4 * 0x1000
abbrev fCAN_TX_ABT_cnt (i : Nat) : Fld := ⟨aCAN_TX_ABT i, 0, 32⟩
/-- Address of CAN(c)_RX_OK. -/
def aCAN_RX_OK (i : Nat) : Nat := 0x400A0080 + i % 4 * 0x1000
abbrev fCAN_RX_OK_cnt (i : Nat) : Fld := ⟨aCAN_RX_OK i, 0, 32⟩
/-- Address of CAN(c)_RX_STORE. -/
def aCAN_RX_STORE (i : Nat) : Nat := 0x400A0084 + i % 4 * 0x1000
abbrev fCAN_RX_STORE_cnt (i : Nat) : Fld := ⟨aCAN_RX_STORE i, 0, 32⟩
/-- Address of CAN(c)_RX_FILT. -/
def aCAN_RX_FILT (i : Nat) : Nat := 0x400A0088 + i % 4 * 0x1000
abbrev fCAN_RX_FILT_cnt (i : Nat) : Fld := ⟨aCAN_RX_FILT i, 0, 32⟩
/-- Address of CAN(c)_RX_DROP. -/
def aCAN_RX_DROP (i : Nat) : Nat := 0x400A008C + i % 4 * 0x1000
abbrev fCAN_RX_DROP_cnt (i : Nat) : Fld := ⟨aCAN_RX_DROP i, 0, 32⟩
/-- Address of CAN(c)_RX_OVW. -/
def aCAN_RX_OVW (i : Nat) : Nat := 0x400A0090 + i % 4 * 0x1000
abbrev fCAN_RX_OVW_cnt (i : Nat) : Fld := ⟨aCAN_RX_OVW i, 0, 32⟩
/-- Address of CAN(c)_BUSOFF_CNT. -/
def aCAN_BUSOFF_CNT (i : Nat) : Nat := 0x400A0094 + i % 4 * 0x1000
abbrev fCAN_BUSOFF_CNT_cnt (i : Nat) : Fld := ⟨aCAN_BUSOFF_CNT i, 0, 32⟩
/-- Address of CAN(c)_ECNT. -/
def aCAN_ECNT (i : Nat) : Nat := 0x400A0098 + i % 4 * 0x1000
abbrev fCAN_ECNT_bit (i : Nat) : Fld := ⟨aCAN_ECNT i, 24, 8⟩
abbrev fCAN_ECNT_stuff_form (i : Nat) : Fld := ⟨aCAN_ECNT i, 16, 8⟩
abbrev fCAN_ECNT_crc (i : Nat) : Fld := ⟨aCAN_ECNT i, 8, 8⟩
abbrev fCAN_ECNT_ack (i : Nat) : Fld := ⟨aCAN_ECNT i, 0, 8⟩
/-- Address of CAN(c)_FIFO_STAT. -/
def aCAN_FIFO_STAT (i : Nat) : Nat := 0x400A009C + i % 4 * 0x1000
abbrev fCAN_FIFO_STAT_fill (i : Nat) : Fld := ⟨aCAN_FIFO_STAT i, 0, 6⟩
/-- Address of CAN(c)_FIFO_FID. -/
def aCAN_FIFO_FID (i : Nat) : Nat := 0x400A00A0 + i % 4 * 0x1000
abbrev fCAN_FIFO_FID_id (i : Nat) : Fld := ⟨aCAN_FIFO_FID i, 0, 32⟩
/-- Address of CAN(c)_FIFO_FMASK. -/
def aCAN_FIFO_FMASK (i : Nat) : Nat := 0x400A00A4 + i % 4 * 0x1000
/-- Address of CAN(c)_FIFO_HDR. -/
def aCAN_FIFO_HDR (i : Nat) : Nat := 0x400A00C0 + i % 4 * 0x1000
abbrev fCAN_FIFO_HDR_id (i : Nat) : Fld := ⟨aCAN_FIFO_HDR i, 0, 32⟩
/-- Address of CAN(c)_FIFO_INFO. -/
def aCAN_FIFO_INFO (i : Nat) : Nat := 0x400A00C4 + i % 4 * 0x1000
abbrev fCAN_FIFO_INFO_dlc (i : Nat) : Fld := ⟨aCAN_FIFO_INFO i, 16, 4⟩
abbrev fCAN_FIFO_INFO_fdf (i : Nat) : Fld := ⟨aCAN_FIFO_INFO i, 15, 1⟩
abbrev fCAN_FIFO_INFO_brs (i : Nat) : Fld := ⟨aCAN_FIFO_INFO i, 14, 1⟩
abbrev fCAN_FIFO_INFO_esi (i : Nat) : Fld := ⟨aCAN_FIFO_INFO i, 13, 1⟩
/-- Address of CAN(c)_FIFO_TS. -/
def aCAN_FIFO_TS (i : Nat) : Nat := 0x400A00C8 + i % 4 * 0x1000
abbrev fCAN_FIFO_TS_ts (i : Nat) : Fld := ⟨aCAN_FIFO_TS i, 0, 32⟩
/-- Address of CAN(c)_FIFO_DATA(w). -/
def aCAN_FIFO_DATA (i : Nat) (j : Nat) : Nat := 0x400A0100 + i % 4 * 0x1000 + j % 16 * 0x4
abbrev fCAN_FIFO_DATA_data (i : Nat) (j : Nat) : Fld := ⟨aCAN_FIFO_DATA i j, 0, 32⟩
/-- Address of CAN(c)_MB_DATA(w). -/
def aCAN_MB_DATA (i : Nat) (j : Nat) : Nat := 0x400A0140 + i % 4 * 0x1000 + j % 16 * 0x4
abbrev fCAN_MB_DATA_data (i : Nat) (j : Nat) : Fld := ⟨aCAN_MB_DATA i j, 0, 32⟩
/-- Address of CAN(c)_MB_ID(b). -/
def aCAN_MB_ID (i : Nat) (j : Nat) : Nat := 0x400A0200 + i % 4 * 0x1000 + j % 64 * 0x10
abbrev fCAN_MB_ID_ide (i : Nat) (j : Nat) : Fld := ⟨aCAN_MB_ID i j, 31, 1⟩
abbrev fCAN_MB_ID_rtr (i : Nat) (j : Nat) : Fld := ⟨aCAN_MB_ID i j, 30, 1⟩
abbrev fCAN_MB_ID_id (i : Nat) (j : Nat) : Fld := ⟨aCAN_MB_ID i j, 0, 29⟩
/-- Address of CAN(c)_MB_MASK(b). -/
def aCAN_MB_MASK (i : Nat) (j : Nat) : Nat := 0x400A0204 + i % 4 * 0x1000 + j % 64 * 0x10
/-- Address of CAN(c)_MB_CFG(b). -/
def aCAN_MB_CFG (i : Nat) (j : Nat) : Nat := 0x400A0208 + i % 4 * 0x1000 + j % 64 * 0x10
abbrev fCAN_MB_CFG_en (i : Nat) (j : Nat) : Fld := ⟨aCAN_MB_CFG i j, 31, 1⟩
abbrev fCAN_MB_CFG_dir (i : Nat) (j : Nat) : Fld := ⟨aCAN_MB_CFG i j, 30, 1⟩
abbrev fCAN_MB_CFG_fdf (i : Nat) (j : Nat) : Fld := ⟨aCAN_MB_CFG i j, 29, 1⟩
abbrev fCAN_MB_CFG_brs (i : Nat) (j : Nat) : Fld := ⟨aCAN_MB_CFG i j, 28, 1⟩
abbrev fCAN_MB_CFG_ovw (i : Nat) (j : Nat) : Fld := ⟨aCAN_MB_CFG i j, 27, 1⟩
abbrev fCAN_MB_CFG_oneshot (i : Nat) (j : Nat) : Fld := ⟨aCAN_MB_CFG i j, 26, 1⟩
abbrev fCAN_MB_CFG_dlc (i : Nat) (j : Nat) : Fld := ⟨aCAN_MB_CFG i j, 16, 4⟩
/-- Address of CAN(c)_MB_STAT(b). -/
def aCAN_MB_STAT (i : Nat) (j : Nat) : Nat := 0x400A020C + i % 4 * 0x1000 + j % 64 * 0x10
abbrev fCAN_MB_STAT_upd (i : Nat) (j : Nat) : Fld := ⟨aCAN_MB_STAT i j, 28, 4⟩
abbrev fCAN_MB_STAT_new (i : Nat) (j : Nat) : Fld := ⟨aCAN_MB_STAT i j, 27, 1⟩
abbrev fCAN_MB_STAT_idcoll (i : Nat) (j : Nat) : Fld := ⟨aCAN_MB_STAT i j, 26, 1⟩
abbrev fCAN_MB_STAT_pend (i : Nat) (j : Nat) : Fld := ⟨aCAN_MB_STAT i j, 25, 1⟩
abbrev fCAN_MB_STAT_icr (i : Nat) (j : Nat) : Fld := ⟨aCAN_MB_STAT i j, 20, 4⟩
abbrev fCAN_MB_STAT_dlc (i : Nat) (j : Nat) : Fld := ⟨aCAN_MB_STAT i j, 16, 4⟩
abbrev fCAN_MB_STAT_fdf (i : Nat) (j : Nat) : Fld := ⟨aCAN_MB_STAT i j, 15, 1⟩
abbrev fCAN_MB_STAT_brs (i : Nat) (j : Nat) : Fld := ⟨aCAN_MB_STAT i j, 14, 1⟩
abbrev fCAN_MB_STAT_esi (i : Nat) (j : Nat) : Fld := ⟨aCAN_MB_STAT i j, 13, 1⟩
/-- Address of CAN(c)_MB_TS(b). -/
def aCAN_MB_TS (i : Nat) (j : Nat) : Nat := 0x400A0600 + i % 4 * 0x1000 + j % 64 * 0x4
abbrev fCAN_MB_TS_ts (i : Nat) (j : Nat) : Fld := ⟨aCAN_MB_TS i j, 0, 32⟩
/-- Address of CAN(c)_MB_RXID(b). -/
def aCAN_MB_RXID (i : Nat) (j : Nat) : Nat := 0x400A0700 + i % 4 * 0x1000 + j % 64 * 0x4
abbrev fCAN_MB_RXID_id (i : Nat) (j : Nat) : Fld := ⟨aCAN_MB_RXID i j, 0, 32⟩
/-- Address of SYS_ID. -/
def aSYS_ID : Nat := 0x40000040
abbrev fSYS_ID_id : Fld := ⟨aSYS_ID, 0, 32⟩
/-- Address of SYS_RST_CAUSE. -/
def aSYS_RST_CAUSE : Nat := 0x40000044
abbrev fSYS_RST_CAUSE_apc1 : Fld := ⟨aSYS_RST_CAUSE, 8, 1⟩
abbrev fSYS_RST_CAUSE_apc0 : Fld := ⟨aSYS_RST_CAUSE, 7, 1⟩
abbrev fSYS_RST_CAUSE_dbg : Fld := ⟨aSYS_RST_CAUSE, 6, 1⟩
abbrev fSYS_RST_CAUSE_sw : Fld := ⟨aSYS_RST_CAUSE, 5, 1⟩
abbrev fSYS_RST_CAUSE_clock : Fld := ⟨aSYS_RST_CAUSE, 4, 1⟩
abbrev fSYS_RST_CAUSE_pin : Fld := ⟨aSYS_RST_CAUSE, 3, 1⟩
abbrev fSYS_RST_CAUSE_supply : Fld := ⟨aSYS_RST_CAUSE, 2, 1⟩
abbrev fSYS_RST_CAUSE_por : Fld := ⟨aSYS_RST_CAUSE, 0, 1⟩
/-- Address of SYS_RST_CMD. -/
def aSYS_RST_CMD : Nat := 0x40000048
abbrev fSYS_RST_CMD_key : Fld := ⟨aSYS_RST_CMD, 16, 16⟩
abbrev fSYS_RST_CMD_apc1 : Fld := ⟨aSYS_RST_CMD, 2, 1⟩
abbrev fSYS_RST_CMD_apc0 : Fld := ⟨aSYS_RST_CMD, 1, 1⟩
abbrev fSYS_RST_CMD_dev : Fld := ⟨aSYS_RST_CMD, 0, 1⟩
/-- Address of SYS_BOOT_STAT. -/
def aSYS_BOOT_STAT : Nat := 0x4000004C
abbrev fSYS_BOOT_STAT_therm_prev : Fld := ⟨aSYS_BOOT_STAT, 20, 1⟩
abbrev fSYS_BOOT_STAT_warm : Fld := ⟨aSYS_BOOT_STAT, 19, 1⟩
abbrev fSYS_BOOT_STAT_cfg_bad : Fld := ⟨aSYS_BOOT_STAT, 18, 1⟩
abbrev fSYS_BOOT_STAT_b_fail : Fld := ⟨aSYS_BOOT_STAT, 17, 1⟩
abbrev fSYS_BOOT_STAT_a_fail : Fld := ⟨aSYS_BOOT_STAT, 16, 1⟩
abbrev fSYS_BOOT_STAT_slot : Fld := ⟨aSYS_BOOT_STAT, 2, 1⟩
abbrev fSYS_BOOT_STAT_state : Fld := ⟨aSYS_BOOT_STAT, 0, 2⟩
/-- Address of SYS_BOOT_TIME. -/
def aSYS_BOOT_TIME : Nat := 0x40000050
abbrev fSYS_BOOT_TIME_t : Fld := ⟨aSYS_BOOT_TIME, 0, 32⟩
/-- Address of SYS_IMG_VER. -/
def aSYS_IMG_VER : Nat := 0x40000054
abbrev fSYS_IMG_VER_ver : Fld := ⟨aSYS_IMG_VER, 0, 32⟩
/-- Address of SYS_MIN_VER. -/
def aSYS_MIN_VER : Nat := 0x40000058
abbrev fSYS_MIN_VER_ver : Fld := ⟨aSYS_MIN_VER, 0, 32⟩
/-- Address of SYS_OPSEC. -/
def aSYS_OPSEC : Nat := 0x4000005C
abbrev fSYS_OPSEC_s : Fld := ⟨aSYS_OPSEC, 0, 32⟩
/-- Address of SYS_PCYC. -/
def aSYS_PCYC : Nat := 0x40000060
abbrev fSYS_PCYC_n : Fld := ⟨aSYS_PCYC, 0, 32⟩
/-- Address of SYS_DBG_STAT. -/
def aSYS_DBG_STAT : Nat := 0x40000064
abbrev fSYS_DBG_STAT_allow : Fld := ⟨aSYS_DBG_STAT, 8, 1⟩
abbrev fSYS_DBG_STAT_unlocked : Fld := ⟨aSYS_DBG_STAT, 4, 1⟩
abbrev fSYS_DBG_STAT_fails : Fld := ⟨aSYS_DBG_STAT, 0, 2⟩
/-- Address of SYS_MP_ADDR. -/
def aSYS_MP_ADDR : Nat := 0x40000068
abbrev fSYS_MP_ADDR_row : Fld := ⟨aSYS_MP_ADDR, 5, 18⟩
/-- Address of SYS_MP_CMD. -/
def aSYS_MP_CMD : Nat := 0x4000006C
abbrev fSYS_MP_CMD_key : Fld := ⟨aSYS_MP_CMD, 16, 16⟩
abbrev fSYS_MP_CMD_op : Fld := ⟨aSYS_MP_CMD, 0, 2⟩
/-- Address of SYS_MP_STAT. -/
def aSYS_MP_STAT : Nat := 0x40000070
abbrev fSYS_MP_STAT_rows : Fld := ⟨aSYS_MP_STAT, 16, 16⟩
abbrev fSYS_MP_STAT_err : Fld := ⟨aSYS_MP_STAT, 3, 1⟩
abbrev fSYS_MP_STAT_susp : Fld := ⟨aSYS_MP_STAT, 2, 1⟩
abbrev fSYS_MP_STAT_busy : Fld := ⟨aSYS_MP_STAT, 0, 1⟩
/-- Address of SYS_MP_DATA(w). -/
def aSYS_MP_DATA (i : Nat) : Nat := 0x40000080 + i % 8 * 0x4
abbrev fSYS_MP_DATA_data (i : Nat) : Fld := ⟨aSYS_MP_DATA i, 0, 32⟩
/-- Address of HPM_LTR. -/
def aHPM_LTR : Nat := 0x40001040
abbrev fHPM_LTR_ltr : Fld := ⟨aHPM_LTR, 0, 24⟩
/-- Address of HPM_PSTATE. -/
def aHPM_PSTATE : Nat := 0x40001044
abbrev fHPM_PSTATE_wsrc : Fld := ⟨aHPM_PSTATE, 16, 3⟩
abbrev fHPM_PSTATE_reach : Fld := ⟨aHPM_PSTATE, 8, 3⟩
abbrev fHPM_PSTATE_state : Fld := ⟨aHPM_PSTATE, 0, 3⟩
/-- Address of HPM_WAKE_EN. -/
def aHPM_WAKE_EN : Nat := 0x40001048
abbrev fHPM_WAKE_EN_en : Fld := ⟨aHPM_WAKE_EN, 0, 8⟩
/-- Address of HPM_WAKE_TMR. -/
def aHPM_WAKE_TMR : Nat := 0x4000104C
abbrev fHPM_WAKE_TMR_t : Fld := ⟨aHPM_WAKE_TMR, 0, 32⟩
/-- Address of HPM_PD_CTRL. -/
def aHPM_PD_CTRL : Nat := 0x40001050
abbrev fHPM_PD_CTRL_on : Fld := ⟨aHPM_PD_CTRL, 0, 12⟩
/-- Address of HPM_PD_STAT. -/
def aHPM_PD_STAT : Nat := 0x40001054
abbrev fHPM_PD_STAT_ret : Fld := ⟨aHPM_PD_STAT, 16, 12⟩
abbrev fHPM_PD_STAT_on : Fld := ⟨aHPM_PD_STAT, 0, 12⟩
/-- Address of HPM_PLL_CFG. -/
def aHPM_PLL_CFG : Nat := 0x40001058
abbrev fHPM_PLL_CFG_ndiv : Fld := ⟨aHPM_PLL_CFG, 0, 8⟩
/-- Address of HPM_CLK_STAT. -/
def aHPM_CLK_STAT : Nat := 0x4000105C
abbrev fHPM_CLK_STAT_unlock_cnt : Fld := ⟨aHPM_CLK_STAT, 16, 16⟩
abbrev fHPM_CLK_STAT_rc : Fld := ⟨aHPM_CLK_STAT, 3, 1⟩
abbrev fHPM_CLK_STAT_xin_ok : Fld := ⟨aHPM_CLK_STAT, 2, 1⟩
abbrev fHPM_CLK_STAT_pll_lock : Fld := ⟨aHPM_CLK_STAT, 1, 1⟩
abbrev fHPM_CLK_STAT_lane_lock : Fld := ⟨aHPM_CLK_STAT, 0, 1⟩
/-- Address of HPM_SUP_STAT. -/
def aHPM_SUP_STAT : Nat := 0x40001060
abbrev fHPM_SUP_STAT_epi : Fld := ⟨aHPM_SUP_STAT, 31, 1⟩
abbrev fHPM_SUP_STAT_unstable : Fld := ⟨aHPM_SUP_STAT, 30, 1⟩
abbrev fHPM_SUP_STAT_warn : Fld := ⟨aHPM_SUP_STAT, 8, 6⟩
abbrev fHPM_SUP_STAT_pwrfail : Fld := ⟨aHPM_SUP_STAT, 6, 1⟩
/-- Address of HPM_SUP_EPI. -/
def aHPM_SUP_EPI : Nat := 0x40001064
abbrev fHPM_SUP_EPI_cnt : Fld := ⟨aHPM_SUP_EPI, 16, 16⟩
abbrev fHPM_SUP_EPI_recent : Fld := ⟨aHPM_SUP_EPI, 0, 4⟩
/-- Address of HPM_SUP_LAST. -/
def aHPM_SUP_LAST : Nat := 0x40001068
abbrev fHPM_SUP_LAST_dur : Fld := ⟨aHPM_SUP_LAST, 16, 16⟩
abbrev fHPM_SUP_LAST_rail : Fld := ⟨aHPM_SUP_LAST, 13, 3⟩
abbrev fHPM_SUP_LAST_vmin : Fld := ⟨aHPM_SUP_LAST, 0, 13⟩
/-- Address of HPM_RAIL_V(r). -/
def aHPM_RAIL_V (i : Nat) : Nat := 0x4000106C + i % 6 * 0x4
abbrev fHPM_RAIL_V_mv (i : Nat) : Fld := ⟨aHPM_RAIL_V i, 0, 16⟩
/-- Address of HPM_TEMP(i). -/
def aHPM_TEMP (i : Nat) : Nat := 0x40001084 + i % 8 * 0x4
abbrev fHPM_TEMP_valid (i : Nat) : Fld := ⟨aHPM_TEMP i, 31, 1⟩
abbrev fHPM_TEMP_t (i : Nat) : Fld := ⟨aHPM_TEMP i, 0, 16⟩
/-- Address of HPM_THERM_STAT. -/
def aHPM_THERM_STAT : Nat := 0x400010A4
abbrev fHPM_THERM_STAT_max : Fld := ⟨aHPM_THERM_STAT, 16, 16⟩
abbrev fHPM_THERM_STAT_valid : Fld := ⟨aHPM_THERM_STAT, 8, 8⟩
abbrev fHPM_THERM_STAT_state : Fld := ⟨aHPM_THERM_STAT, 0, 2⟩
/-- Address of HPM_I2C_CMD. -/
def aHPM_I2C_CMD : Nat := 0x400010A8
abbrev fHPM_I2C_CMD_go : Fld := ⟨aHPM_I2C_CMD, 31, 1⟩
abbrev fHPM_I2C_CMD_rd : Fld := ⟨aHPM_I2C_CMD, 30, 1⟩
abbrev fHPM_I2C_CMD_addr : Fld := ⟨aHPM_I2C_CMD, 16, 7⟩
abbrev fHPM_I2C_CMD_reg : Fld := ⟨aHPM_I2C_CMD, 8, 8⟩
abbrev fHPM_I2C_CMD_data : Fld := ⟨aHPM_I2C_CMD, 0, 8⟩
/-- Address of HPM_I2C_STAT. -/
def aHPM_I2C_STAT : Nat := 0x400010AC
abbrev fHPM_I2C_STAT_nak : Fld := ⟨aHPM_I2C_STAT, 9, 1⟩
abbrev fHPM_I2C_STAT_busy : Fld := ⟨aHPM_I2C_STAT, 8, 1⟩
abbrev fHPM_I2C_STAT_data : Fld := ⟨aHPM_I2C_STAT, 0, 8⟩
/-- Address of HPM_PMIC_EN. -/
def aHPM_PMIC_EN : Nat := 0x400010B0
abbrev fHPM_PMIC_EN_en : Fld := ⟨aHPM_PMIC_EN, 0, 4⟩
/-- Address of REC_CFG. -/
def aREC_CFG : Nat := 0x400D0040
abbrev fREC_CFG_trig_code : Fld := ⟨aREC_CFG, 24, 8⟩
abbrev fREC_CFG_post : Fld := ⟨aREC_CFG, 8, 8⟩
abbrev fREC_CFG_trig_en : Fld := ⟨aREC_CFG, 0, 1⟩
/-- Address of REC_CMD. -/
def aREC_CMD : Nat := 0x400D0044
abbrev fREC_CMD_unfreeze : Fld := ⟨aREC_CMD, 1, 1⟩
abbrev fREC_CMD_freeze : Fld := ⟨aREC_CMD, 0, 1⟩
/-- Address of REC_RSTAT. -/
def aREC_RSTAT : Nat := 0x400D0048
abbrev fREC_RSTAT_frozen : Fld := ⟨aREC_RSTAT, 31, 1⟩
abbrev fREC_RSTAT_susp : Fld := ⟨aREC_RSTAT, 30, 1⟩
abbrev fREC_RSTAT_scan : Fld := ⟨aREC_RSTAT, 29, 1⟩
abbrev fREC_RSTAT_fill : Fld := ⟨aREC_RSTAT, 0, 9⟩
/-- Address of REC_SEQ. -/
def aREC_SEQ : Nat := 0x400D004C
abbrev fREC_SEQ_seq : Fld := ⟨aREC_SEQ, 0, 32⟩
/-- Address of REC_EVT_IN. -/
def aREC_EVT_IN : Nat := 0x400D0050
abbrev fREC_EVT_IN_cnt : Fld := ⟨aREC_EVT_IN, 0, 32⟩
/-- Address of REC_WR_CNT. -/
def aREC_WR_CNT : Nat := 0x400D0054
abbrev fREC_WR_CNT_cnt : Fld := ⟨aREC_WR_CNT, 0, 32⟩
/-- Address of REC_DEF_FULL. -/
def aREC_DEF_FULL : Nat := 0x400D0058
abbrev fREC_DEF_FULL_cnt : Fld := ⟨aREC_DEF_FULL, 0, 32⟩
/-- Address of REC_DEF_ABS. -/
def aREC_DEF_ABS : Nat := 0x400D005C
abbrev fREC_DEF_ABS_cnt : Fld := ⟨aREC_DEF_ABS, 0, 32⟩
/-- Address of REC_SUM_CNT. -/
def aREC_SUM_CNT : Nat := 0x400D0060
abbrev fREC_SUM_CNT_cnt : Fld := ⟨aREC_SUM_CNT, 0, 32⟩
/-- Address of REC_CUR_IDX. -/
def aREC_CUR_IDX : Nat := 0x400D0064
abbrev fREC_CUR_IDX_idx : Fld := ⟨aREC_CUR_IDX, 0, 13⟩
/-- Address of REC_CUR_CMD. -/
def aREC_CUR_CMD : Nat := 0x400D0068
abbrev fREC_CUR_CMD_older : Fld := ⟨aREC_CUR_CMD, 1, 1⟩
abbrev fREC_CUR_CMD_newer : Fld := ⟨aREC_CUR_CMD, 0, 1⟩
/-- Address of REC_CUR_STAT. -/
def aREC_CUR_STAT : Nat := 0x400D006C
abbrev fREC_CUR_STAT_busy : Fld := ⟨aREC_CUR_STAT, 1, 1⟩
abbrev fREC_CUR_STAT_crc_ok : Fld := ⟨aREC_CUR_STAT, 0, 1⟩
/-- Address of REC_SW_CMD. -/
def aREC_SW_CMD : Nat := 0x400D0070
abbrev fREC_SW_CMD_code : Fld := ⟨aREC_SW_CMD, 0, 8⟩
/-- Address of REC_SW_DATA(w). -/
def aREC_SW_DATA (i : Nat) : Nat := 0x400D0080 + i % 10 * 0x4
abbrev fREC_SW_DATA_data (i : Nat) : Fld := ⟨aREC_SW_DATA i, 0, 32⟩
/-- Address of REC_CUR_DATA(w). -/
def aREC_CUR_DATA (i : Nat) : Nat := 0x400D00C0 + i % 16 * 0x4
abbrev fREC_CUR_DATA_data (i : Nat) : Fld := ⟨aREC_CUR_DATA i, 0, 32⟩
/-- Address of BIST_CMD. -/
def aBIST_CMD : Nat := 0x400E0040
abbrev fBIST_CMD_release : Fld := ⟨aBIST_CMD, 15, 1⟩
abbrev fBIST_CMD_kinds : Fld := ⟨aBIST_CMD, 8, 3⟩
abbrev fBIST_CMD_idx : Fld := ⟨aBIST_CMD, 0, 5⟩
/-- Address of BIST_CFG. -/
def aBIST_CFG : Nat := 0x400E0044
abbrev fBIST_CFG_stagger : Fld := ⟨aBIST_CFG, 16, 8⟩
abbrev fBIST_CFG_budget : Fld := ⟨aBIST_CFG, 0, 16⟩
/-- Address of BIST_QSTAT. -/
def aBIST_QSTAT : Nat := 0x400E0048
abbrev fBIST_QSTAT_power : Fld := ⟨aBIST_QSTAT, 16, 16⟩
abbrev fBIST_QSTAT_running : Fld := ⟨aBIST_QSTAT, 4, 4⟩
abbrev fBIST_QSTAT_queued : Fld := ⟨aBIST_QSTAT, 0, 4⟩
/-- Address of BIST_DONE_CNT. -/
def aBIST_DONE_CNT : Nat := 0x400E004C
abbrev fBIST_DONE_CNT_cnt : Fld := ⟨aBIST_DONE_CNT, 0, 32⟩
/-- Address of BIST_FAIL_CNT. -/
def aBIST_FAIL_CNT : Nat := 0x400E0050
abbrev fBIST_FAIL_CNT_cnt : Fld := ⟨aBIST_FAIL_CNT, 0, 32⟩
/-- Address of BIST_HELD. -/
def aBIST_HELD : Nat := 0x400E0054
abbrev fBIST_HELD_held : Fld := ⟨aBIST_HELD, 0, 32⟩
/-- Address of BIST_RES(i). -/
def aBIST_RES (i : Nat) : Nat := 0x400E0080 + i % 17 * 0x10
abbrev fBIST_RES_result (i : Nat) : Fld := ⟨aBIST_RES i, 28, 4⟩
abbrev fBIST_RES_kinds (i : Nat) : Fld := ⟨aBIST_RES i, 25, 3⟩
abbrev fBIST_RES_run (i : Nat) : Fld := ⟨aBIST_RES i, 24, 1⟩
abbrev fBIST_RES_dur (i : Nat) : Fld := ⟨aBIST_RES i, 0, 24⟩
/-- Address of BIST_SIG(i). -/
def aBIST_SIG (i : Nat) : Nat := 0x400E0084 + i % 17 * 0x10
abbrev fBIST_SIG_sig (i : Nat) : Fld := ⟨aBIST_SIG i, 0, 32⟩
/-- Address of BIST_REF(i). -/
def aBIST_REF (i : Nat) : Nat := 0x400E0088 + i % 17 * 0x10
abbrev fBIST_REF_ref (i : Nat) : Fld := ⟨aBIST_REF i, 0, 32⟩
/-- Address of BIST_FINFO(i). -/
def aBIST_FINFO (i : Nat) : Nat := 0x400E008C + i % 17 * 0x10
abbrev fBIST_FINFO_info (i : Nat) : Fld := ⟨aBIST_FINFO i, 0, 32⟩

end Sys2Proof.Machine
end

