-- ==== Sys2Proof/Machine/Resets.lean ====
section
/-! DEFINITION. The reset values of the registers that do not reset to 0, from the chapters' tables; SAGE_EVT_CFG(e) from
09_sage_and_safe_states.md R333, the gate profile at index 7, data word 1, from 08_ndotar_drive_link.md R319. -/
namespace Sys2Proof.Machine

/-- Base address, index counts with strides, value: part 0. -/
def resets0 : List (Nat × List (Nat × Nat) × Nat) := [
  (0x40070004, [], 0x0000013C),
  (0x40000000, [], 0x01000300),
  (0x40000004, [], 0x00000100),
  (0x40000008, [], 0x00000001),
  (0x40001000, [], 0x02000300),
  (0x40001004, [], 0x00000118),
  (0x40001008, [], 0x00000001),
  (0x40010000, [], 0x03000300),
  (0x40010004, [], 0x00000120),
  (0x40010008, [], 0x00000001),
  (0x40020000, [], 0x04000300),
  (0x40020004, [], 0x0000053C),
  (0x40020008, [], 0x00000001),
  (0x40040000, [], 0x05000300),
  (0x40040004, [], 0x0000032C),
  (0x40040008, [], 0x00000001),
  (0x40050000, [], 0x06000300),
  (0x40050004, [], 0x0000021C),
  (0x40050008, [], 0x00000001),
  (0x40060000, [], 0x07000300),
  (0x40060004, [], 0x0000032C),
  (0x40060008, [], 0x00000001),
  (0x40070000, [(4, 0x1000)], 0x08000300),
  (0x40070004, [(4, 0x1000)], 0x0000012C),
  (0x40070008, [(4, 0x1000)], 0x00000001),
  (0x40080000, [], 0x09000300),
  (0x40080004, [], 0x0000022C),
  (0x40080008, [], 0x00000001),
  (0x40090000, [], 0x0A000300),
  (0x40090004, [], 0x0000021C),
  (0x40090008, [], 0x00000001),
  (0x400A0000, [(4, 0x1000)], 0x0B000300),
  (0x400A0004, [(4, 0x1000)], 0x00000118),
  (0x400A0008, [(4, 0x1000)], 0x00000001),
  (0x400B0000, [], 0x0C000300),
  (0x400B0004, [], 0x0000014C),
  (0x400B0008, [], 0x00000001),
  (0x400C0000, [], 0x0D000300),
  (0x400C0004, [], 0x0000011C),
  (0x400C0008, [], 0x00000001)]

/-- Base address, index counts with strides, value: part 1. -/
def resets1 : List (Nat × List (Nat × Nat) × Nat) := [
  (0x400D0000, [], 0x0E000300),
  (0x400D0004, [], 0x00000118),
  (0x400D0008, [], 0x00000001),
  (0x400E0000, [], 0x0F000300),
  (0x400E0004, [], 0x00000100),
  (0x400E0008, [], 0x00000001),
  (0x400F0000, [], 0x10000300),
  (0x400F0004, [], 0x0000043C),
  (0x400F0008, [], 0x00000001),
  (0x40100000, [], 0x11000300),
  (0x40100004, [], 0x00000110),
  (0x40100008, [], 0x00000001),
  (0x40110000, [], 0x12000300),
  (0x40110004, [], 0x00000100),
  (0x40110008, [], 0x00000001),
  (0x401000A0, [], 0x00000100),
  (0x401000A4, [], 0x00000100),
  (0x40010090, [(17, 0x4)], 0x0000000A),
  (0x400101D0, [], 0x0000000A),
  (0x4005004C, [], 0x00021340),
  (0x4005006C, [], 0x00000002),
  (0x40051010, [], 0x14300400),
  (0x40051014, [], 0x00000FA0),
  (0x40051030, [], 0x00000100),
  (0x40060048, [], 0x00492492),
  (0x40061000, [(8, 0x200)], 0x00000002),
  (0x40061010, [(8, 0x200)], 0x3FB50481),
  (0x40061014, [(8, 0x200)], 0x43854CCD),
  (0x40061018, [(8, 0x200)], 0x470ACB00),
  (0x40061044, [(8, 0x200)], 0x00000002),
  (0x40061050, [(8, 0x200)], 0x00000BB8),
  (0x40061104, [(8, 0x200)], 0x00019064),
  (0x40061108, [(8, 0x200)], 0x000000AF),
  (0x4006110C, [(8, 0x200)], 0x55550000),
  (0x40061114, [(8, 0x200)], 0x000001F4),
  (0x40061118, [(8, 0x200)], 0x000000CD),
  (0x40062000, [(16, 0x40)], 0x00148050),
  (0x4006201C, [(16, 0x40)], 0x3C23D70A),
  (0x40062020, [(16, 0x40)], 0x0038401F),
  (0x40021004, [(32, 0x80)], 0x00000FA0)]

/-- Base address, index counts with strides, value: part 2. -/
def resets2 : List (Nat × List (Nat × Nat) × Nat) := [
  (0x40021008, [(32, 0x80)], 0x00010000),
  (0x40021034, [(32, 0x80)], 0x000000A0),
  (0x40020100, [(96, 0x4)], 0x20000000),
  (0x40030020, [(128, 0x40)], 0x0810AA00),
  (0x40030024, [(128, 0x40)], 0x00C800A0),
  (0x40041000, [(32, 0x100)], 0x00000002),
  (0x40041008, [(32, 0x100)], 0x00000258),
  (0x4004100C, [(32, 0x100)], 0x00280014),
  (0x40041010, [(32, 0x100)], 0x00000014),
  (0x40041018, [(32, 0x100)], 0x0000000F),
  (0x4004101C, [(32, 0x100)], 0x00010064),
  (0x40041020, [(32, 0x100), (8, 0x8), (2, 0x4)], 0xF88532FC),
  (0x400F0040, [], 0x00000018),
  (0x400F0058, [], 0x0000000F),
  (0x400F005C, [], 0x03E80000),
  (0x400F1004, [(64, 0x8)], 0xFFFFFFFF),
  (0x400F2000, [(32, 0x80)], 0x00000001),
  (0x400F3000, [(32, 0x20)], 0x00000100),
  (0x400F3004, [(32, 0x20)], 0x003C00C8),
  (0x400C0044, [], 0x000A000A),
  (0x400C0068, [], 0x00000030),
  (0x400B0040, [(24, 0x4)], 0x1F000000),
  (0x400B00C0, [(8, 0x10)], 0x08FF0000),
  (0x400B00C4, [(8, 0x10)], 0xFFFFFFFF),
  (0x400B00C8, [(8, 0x10)], 0x01F40064),
  (0x400B0180, [(16, 0x4)], 0x1032001E),
  (0x400B0200, [(16, 0x20)], 0x0000FFFF),
  (0x400B020C, [(16, 0x20)], 0x0064000A),
  (0x40070040, [(4, 0x1000)], 0x000A000C),
  (0x40070200, [(4, 0x1000), (8, 0x10)], 0x00000100),
  (0x40070204, [(4, 0x1000), (8, 0x10)], 0x1F1F1F1F),
  (0x40070208, [(4, 0x1000), (8, 0x10)], 0x1F1F1F1F),
  (0x4007020C, [(4, 0x1000), (8, 0x10)], 0x00000FA0),
  (0x40070304, [(4, 0x1000), (16, 0x10)], 0xFFFF0000),
  (0x40070404, [(4, 0x1000), (2, 0x20)], 0x000003E8),
  (0x40070480, [(16, 0x4)], 0x000003FF),
  (0x40081000, [(16, 0x40)], 0x00000100),
  (0x40081008, [(16, 0x40)], 0x03E80000),
  (0x40081600, [(4, 0x20)], 0x00000400),
  (0x40081604, [(4, 0x20)], 0x00010001)]

/-- Base address, index counts with strides, value: part 3. -/
def resets3 : List (Nat × List (Nat × Nat) × Nat) := [
  (0x40091000, [(8, 0x80)], 0x000A6404),
  (0x40091048, [(8, 0x80)], 0x00000100),
  (0x4009104C, [(8, 0x80)], 0x320001F4),
  (0x400A0040, [(4, 0x1000)], 0x008F3E0F),
  (0x400A0044, [(4, 0x1000)], 0x00000A33),
  (0x400A004C, [(4, 0x1000)], 0x00100000),
  (0x400A0050, [(4, 0x1000)], 0x00000C00),
  (0x400A0204, [(4, 0x1000), (64, 0x10)], 0xFFFFFFFF),
  (0x40000040, [], 0x2560C010),
  (0x40000044, [], 0x00000001),
  (0x40001048, [], 0x000000FF),
  (0x40001050, [], 0x00000FFF),
  (0x40001054, [], 0x00000FFF),
  (0x40001058, [], 0x000000A0),
  (0x400D0048, [], 0x20000000),
  (0x400E0044, [], 0x000A03E8),
  (0x4004000C, [], 0x00000100),
  (0x400F1000, [], 0x00006FB0),
  (0x400F1008, [], 0x00006FB0),
  (0x400F1010, [], 0x00006FB0),
  (0x400F1018, [], 0x000060B0),
  (0x400F1020, [], 0x00006030),
  (0x400F1028, [], 0x00006030),
  (0x400F1030, [], 0x00006030),
  (0x400F1038, [], 0x00006030),
  (0x400F1040, [], 0x00006030),
  (0x400F1048, [], 0x00006030),
  (0x400F1050, [], 0x00006030),
  (0x400F1058, [], 0x00006030),
  (0x400F1060, [], 0x00006030),
  (0x400F1068, [], 0x00000010),
  (0x400F1070, [], 0x00004030),
  (0x400F1078, [], 0x00004030),
  (0x400F1080, [], 0x00004030),
  (0x400F1088, [], 0x00004030),
  (0x400F1090, [], 0x00008030),
  (0x400F1098, [], 0x00000010),
  (0x400F10A0, [], 0x00000010),
  (0x400F10A8, [], 0x00000010),
  (0x400F10B0, [], 0x00000010)]

/-- Base address, index counts with strides, value: part 4. -/
def resets4 : List (Nat × List (Nat × Nat) × Nat) := [
  (0x400F10B8, [], 0x00000010),
  (0x400F10C0, [], 0x00000010),
  (0x400F10C8, [], 0x00000010),
  (0x400F10D0, [], 0x00000010),
  (0x400F10D8, [], 0x00000010),
  (0x400F10E8, [], 0x00000010),
  (0x400F10F0, [], 0x00000010),
  (0x400F1100, [], 0x00000010),
  (0x400F1108, [], 0x00000010),
  (0x400F1110, [], 0x00000010),
  (0x400F1118, [], 0x00000010),
  (0x400F1120, [], 0x00000010),
  (0x400F1128, [], 0x00000010),
  (0x400F1130, [], 0x00000030),
  (0x400F1140, [], 0x00000010),
  (0x400F1148, [], 0x00000010)]

/-- The offset `o` is an index times a stride for each of `dims`, each index below its count. -/
def offsetIn : List (Nat × Nat) → Nat → Bool
  | [], o => o == 0
  | (n, st) :: ds, o => o / st < n && offsetIn ds (o % st)

/-- The first entry that covers an address. -/
def resetIn (a : Nat) : List (Nat × List (Nat × Nat) × Nat) → Option Nat
  | [] => none
  | (b, ds, v) :: r => if b ≤ a && a - b < 0x10000 && offsetIn ds (a - b) then some v else resetIn a r

/-- The reset value of the register at an address (0 where nothing else is listed). -/
def resetOf (a : Nat) : BitVec 32 :=
  if 0x40041000 ≤ a && a < 0x40043000 && (a - 0x40041000) % 0x100 == 0x5C then 0x214164FC
  else
    let o := resetIn a resets0 <|> resetIn a resets1 <|> resetIn a resets2 <|> resetIn a resets3 <|> resetIn a resets4
    BitVec.ofNat 32 (o.getD 0)

end Sys2Proof.Machine
end

