-- ==== Sys2Proof/Machine/State.lean ====
section
/-! DEFINITION. The state of the block as plain data, and State.reset. INVENTORY.md lists every field with the rule that
names it. -/
namespace Sys2Proof.Machine

/-- Why the block stops. Safe: no sender can produce such a command, and the real block would go on. -/
inductive Fault where
  /-- Raised by exec on a command whose lists WellFormed refuses (a length the hardware cannot send). Safe. -/
  | malformed
  deriving DecidableEq, Repr

/-- Why a command has no effect in the model. -/
inductive Refusal where
  /-- Raised by an arm of exec for a command that has no meaning yet. Safe. -/
  | notModelled (mnemonic : String)
  deriving DecidableEq, Repr

/-- A table by number, sorted by key; what it does not list is the table's default. -/
abbrev Tab (α : Type) := List (Nat × α)

/-- The bits of a shadow that wait and their values (01_register_pages.md R20, R21). -/
structure Pend where
  m : Word := 0
  v : Word := 0
  deriving DecidableEq, Repr

/-- The kinds of reply (02_islands_and_credits.md R47). -/
inductive ReplyKind where
  | none | ok | refused | absent | retired
  deriving DecidableEq, Repr

/-- What the requesters last saw on the bus, and the HRP front end. -/
structure Bus where
  who : Req := .apc0
  kind : ReplyKind := .none
  data : Word := 0
  /-- the faulting address each APC pair last saw (01_register_pages.md "Access from the APC") -/
  trap0 : Nat := 0
  trap1 : Nat := 0
  /-- data of the HRP read being sent back (R37), as far as it was executed -/
  hrpData : List Word := []
  /-- the reply the HRP has sent (R37) -/
  hrpOut : List Byte := []
  /-- the HRP front end answers (R46) -/
  hrpOff : Bool := false
  deriving DecidableEq, Repr

/-- The states of a warden (02_islands_and_credits.md R54). -/
inductive WState where
  | run | drain | retire | absent
  deriving DecidableEq, Repr

/-- What a warden sequence is for (R55, R59). -/
inductive Purpose where
  | none | reset | reload | powerDown | powerUp | test
  deriving DecidableEq, Repr

/-- An accepted request without a reply (R47); `a` is the address of a register access. -/
structure FabReq where
  src : Nat
  urg : Bool
  tag : Nat
  ep : Nat
  a : Nat := 0
  deriving DecidableEq, Repr

/-- A warden (R54 to R57, R68). -/
structure Warden where
  st : WState := .run
  epoch : Nat := 0
  purpose : Purpose := .none
  since : Nat := 0
  limit : Nat := 0
  accepted : List FabReq := []
  gated : Bool := false
  idle : Nat := 0
  pdown : Bool := false
  deriving DecidableEq, Repr

/-- A link of R50: credits held, requests in flight, in the target buffer, credits returning, reply slots reserved,
outstanding requests (tag, epoch), requests accepted, the last request answered, the figures of the last audit. -/
structure Link where
  held : Nat := 0
  flight : Nat := 0
  buf : Nat := 0
  back : Nat := 0
  slots : Nat := 0
  outst : List (Nat × Nat) := []
  reqs : Nat := 0
  lastDone : Option (Nat × Nat) := none
  aCred : Nat := 0
  aBuf : Nat := 0
  aSlots : Nat := 0
  aOutst : Nat := 0
  deriving DecidableEq, Repr

/-- The state of a context (03_basil_control_engine.md R72). -/
inductive CState where
  | off | admitted | run | halt
  deriving DecidableEq, Repr

/-- Where a context's step stands (R83 to R93): none, waiting for inputs, released, on a lane, provisional. -/
inductive SPhase where
  | idle | waiting | released | running | prov
  deriving DecidableEq, Repr

/-- What a kernel keeps that its chapter gives no place in the context area (04_machine_control.md R124 to R152,
05_grid_and_pv.md R164 to R191): prediction count of each set; planned fall-back (0 none, 1 DC-link reconstruction, 2 window
limit); leg currents and their forms at the start of the present period; applied voltage vector; largest unlimited voltage,
its angle and q reference of the previous step; run of Kirchhoff violations; qualifying time of the ke estimate and whether its
commissioning check is done; sticky status bits; reason of the last kernel request; run of steps with lock; phase timer;
angle, speed and references that a phase keeps; whether COAST has set the observer; time since the wrong-motor finding;
DETECT's accumulated angle, last angle and peak; how BRAKE was entered; whether the group was in a safe state; overvoltage
run; kind of the RESTORE ramp; injected reference that falls; sequencer state a request was raised for; last sensor angle; phase of the next step;
the period starts for which the last steps emitted a set that switches; the sample instants the triggers placed stand for; the last angle
used; how long every line-to-line peak has been below the detection floor; the sample instant of `cur`. -/
structure KSt where
  cnt : List Nat := []
  fall : Nat := 0
  cur : List Word := []
  form : List Nat := []
  vA : Word := 0
  vB : Word := 0
  vMax : Word := 0
  gam : Word := 0
  iqPrev : Word := 0
  kbRun : Nat := 0
  keT : Nat := 0
  com : Bool := false
  flags : Nat := 0
  reason : Nat := 0
  lockN : Nat := 0
  pt : Nat := 0
  th : Word := 0
  om : Word := 0
  iq0 : Word := 0
  id0 : Word := 0
  reset : Bool := false
  wrong : Option Nat := none
  detA : Word := 0
  detL : Option Word := none
  detP : Word := 0
  brake : Nat := 0
  safe : Bool := false
  run : Nat := 0
  ramp : Nat := 0
  rci : Word := 0
  seq : Nat := 0
  thS : Option Word := none
  nxt : Nat := 0
  lit : List Nat := []
  dcAt : List Nat := []
  thL : Word := 0
  detZ : Nat := 0
  curT : Nat := 0
  deriving DecidableEq, Repr

/-- A value of a leg current that was not measured (04_machine_control.md R128 to R133, R153): leg, value, form, prediction
count of its set, window in units of 10 ns, sample instant it stands for. -/
structure PredV where
  leg : Nat
  val : Word
  form : Nat
  cnt : Nat
  win : Nat
  at_ : Nat
  deriving DecidableEq, Repr

/-- What a step changes besides the working-state region, as sealed or as working copy (03_basil_control_engine.md R91,
R101): kernel state, timers of the supervision rule, the prediction of the controlled quantity, phase, generator done, and whether
the step itself met the generator's condition (R103). -/
structure Work where
  k : KSt := {}
  tSat : Nat := 0
  tDev : Nat := 0
  tCross : Nat := 0
  satLong : Bool := false
  devLong : Bool := false
  yPred : List Word := []
  phase : Nat := 0
  pgDone : Bool := false
  pgMet : Bool := false
  deriving DecidableEq, Repr

/-- A completed step that has not sealed when the next one begins (R82, R90, R91): what sealing or cancelling it needs. -/
structure Older where
  step : Nat := 0
  tS : Nat := 0
  cost : Nat := 0
  outs : List Word := []
  stat : List Word := []
  pgw : List Word := []
  words : List Word := []
  preds : List PredV := []
  cons : List PredV := []
  stepIn : Tab Word := []
  sat : Bool := false
  stale : Bool := false
  pred : Bool := false
  mirrored : Bool := false
  wk : Work := {}
  deriving DecidableEq, Repr

/-- A context (03_basil_control_engine.md R72 to R115). `seen` counts the chosen points of ended periods since the last instant (R81);
`cmtBy` is who committed the words that wait (R23, R113); `old` marks the inputs the step takes without a value from its instant (R83);
`meas` holds the leg currents measured at the last released step, `measT` its instant, `measP` those of the release before
(04_machine_control.md R134). -/
structure Ctx where
  st : CState := .off
  startPend : Bool := false
  stopPend : Bool := false
  ph : SPhase := .idle
  tS : Nat := 0
  tPrev : Nat := 0
  deadline : Nat := 0
  latest : Nat := 0
  nextAt : Nat := 0
  lastTrig : Option Nat := none
  stepNo : Nat := 0
  target : Nat := 0
  marked : Bool := false
  fresh : Nat := 0
  predIn : Nat := 0
  inNext : Tab Word := []
  inVal : Tab Word := []
  stepIn : Tab Word := []
  used : Tab Word := []
  preds : List PredV := []
  cons : List PredV := []
  staleRun : Tab Nat := []
  ovrRun : Nat := 0
  retry : Option Nat := none
  outs : List Word := []
  stat : List Word := []
  sat : Bool := false
  stale : Bool := false
  pred : Bool := false
  cost : Nat := 0
  pgw : List Word := []
  noSet : Bool := true
  setp : Word := 0
  rampFrom : Word := 0
  rampAt : Option Nat := none
  itegPend : Option (Nat × Word) := none
  cmtWords : List (Nat × Word) := []
  cmtGen : Option Nat := none
  cmtBy : Req := .apc0
  seen : Nat := 0
  old : Nat := 0
  measT : Nat := 0
  meas : Tab Word := []
  measP : Nat × Tab Word := (0, [])
  mirrored : Bool := false
  sealT : Nat := 0
  sealNo : Nat := 0
  older : List Older := []
  w : Work := {}
  wk : Work := {}
  deriving DecidableEq, Repr

/-- Parameter words a requester has staged, and the context they are bound to (R115). -/
structure Stage where
  ctx : Nat := 0
  words : List (Nat × Word) := []
  deriving DecidableEq, Repr

/-- A lane: the context whose step runs on it, the end of the step, privileged (R69, R85); its step goes on for a context that has
since entered HALT and emits nothing; the start of the step, and up to when its lane-cycles are booked (R112). -/
structure Lane where
  ctx : Option Nat := none
  endAt : Nat := 0
  priv : Bool := false
  dead : Bool := false
  start : Nat := 0
  booked : Nat := 0
  deriving DecidableEq, Repr

/-- A record on a link to Basil (R77, R83): source (0 NDL, 1 ADC, 2 FBI, 3 GIU), instance, selection, value, whether it
counts as invalid, the context it is for where it is for one, the instant it is attributed by where it is not by its arrival
(06_thyme_and_pwm.md R225, 12_analog_acquisition.md R432). -/
structure EItem where
  src : Nat
  inst : Nat
  sel : Nat
  raw : Word
  bad : Bool := false
  ctx : Option Nat := none
  at_ : Option Nat := none
  deriving DecidableEq, Repr

/-- Basil besides its contexts: the reserved lane pair, lane-cycles used in the 1 ms window and when the last one ended,
the kernel-store verification, records on the links to it (R83, R85, R106, R112). -/
structure Basil where
  pair : Option Nat := none
  cycles : Nat := 0
  loadAt : Nat := 0
  ksRun : Bool := false
  rx : List EItem := []
  deriving DecidableEq, Repr


/-- A PLL unit (05_grid_and_pv.md R158, R159): SOGI states of v_α and v_β, angle, speed, integrator, voltages, error, reported
frequency, time of the last step, last inputs; runs of missing conversions and of steps below 0.10 pu, and the timers of
R159 in fine ticks; the inputs asked for the next step, by mask (R157). -/
structure Pll where
  va : Word := 0
  qva : Word := 0
  vb : Word := 0
  qvb : Word := 0
  th : Word := 0
  om : Word := 0
  x : Word := 0
  vd : Word := 0
  vq : Word := 0
  f : Word := 0
  at_ : Nat := 0
  last : List Word := []
  miss : Nat := 0
  low : Nat := 0
  tGood : Nat := 0
  tBad : Nat := 0
  tLim : Nat := 0
  asked : Nat := 0
  deriving DecidableEq, Repr

/-- A ride-through sequencer (R172, R173): timers of the 32 points and the time each has been inside, time within the
reconnection window, TRIP or ISLAND entered since the last record (R179). -/
structure Rt where
  acc : List Nat := []
  ins : List Nat := []
  tRc : Nat := 0
  told : Option Nat := none
  deriving DecidableEq, Repr

/-- An islanding detector set (R176 to R178): sealed reference magnitude, references in this grid cycle and the one before,
grid cycles, perturbation, history of time, frequency and angle of v⁺, criterion timers and onsets, the last wrap. -/
structure Isl where
  ref : Word := 0
  cur : Bool := false
  prev : Bool := false
  n : Nat := 0
  thAf : Word := 0
  hist : List (Nat × Word × Word) := []
  tRoc : Nat := 0
  tDfc : Nat := 0
  wrapAt : Nat := 0
  deriving DecidableEq, Repr

/-- A grid unit (R154). -/
structure GUnit where
  pll : Pll := {}
  rt : Rt := {}
  isl : Isl := {}
  deriving DecidableEq, Repr

/-- A tracker (R182 to R184): values of the last step, sums and number of items, time of the last step; the scan: point, start
of its dwell, reference before it, best power and voltage, sum and number of items; a deferred request, the next periodic
scan, whether the context was not in RUN. -/
structure Trk where
  vp : Word := 0
  ip : Word := 0
  sv : Word := 0
  si : Word := 0
  n : Nat := 0
  at_ : Nat := 0
  k : Nat := 0
  dwellAt : Nat := 0
  pre : Word := 0
  bestP : Option Word := none
  bestV : Word := 0
  sp : Word := 0
  np : Nat := 0
  req : Bool := false
  due : Nat := 0
  lost : Bool := false
  deriving DecidableEq, Repr

/-- A measurement item of a K_DCDC context to its tracker (R184): voltage, current, output limit, safe state, RUN. -/
structure TrkItem where
  v : Word := 0
  i : Word := 0
  olim : Bool := false
  safe : Bool := false
  run : Bool := false
  deriving DecidableEq, Repr

/-- The GIU (R154, R181): units, trackers, entries left to write after a trip, halves of the log ring not read, replies of the
ADC that wait for a PLL step by input (R159), references by unit and items by tracker on the ENG-to-GIU link (R170, R184). -/
structure Giu where
  units : Tab GUnit := []
  trks : Tab Trk := []
  stop : Option Nat := none
  unread : Nat := 0
  adc : Tab (Option Word) := []
  refs : Tab (Word × Word) := []
  items : Tab TrkItem := []
  deriving DecidableEq, Repr

/-- An edge the PTA emits (06_thyme_and_pwm.md R212, 08_ndotar_drive_link.md R284): time, side, level, gate profile. -/
structure Edge where
  t : Nat
  ls : Bool
  on : Bool
  prof : Nat := 0
  deriving DecidableEq, Repr

/-- The compare values of one leg of a kernel set (R217). -/
structure LegCmp where
  leg : Nat
  on : Nat
  off : Nat
  deriving DecidableEq, Repr

/-- A complete kernel set (R217, R218, R225): context, step, start of the target period, whether it is computed with the
pending period, compare values, leg sample instants and ADC trigger instants measured from the period start, and
whether the set holds every switch off (04_machine_control.md R140, 05_grid_and_pv.md R168). -/
structure KSet where
  ctx : Nat
  step : Nat
  target : Nat
  marked : Bool := false
  cmps : List LegCmp := []
  smp : List (Nat × Nat) := []
  trg0 : Option Nat := none
  trg1 : Option Nat := none
  dark : Bool := false
  deriving DecidableEq, Repr

/-- A window handed over and not begun (R212, R213, R218, R221): start of its period, its start and end, the period, whether
it starts at mid-period, kernel-driven, register values that apply at its start, the kernel set, the generation of a
commit, a period change, the legs that a safe state has since taken out, whether the group stops there. -/
structure Taken where
  b : Nat
  w : Nat
  e : Nat
  p : Nat
  mid : Bool := false
  kern : Bool := false
  vals : List (Nat × Word) := []
  kset : Option KSet := none
  gen : Option Nat := none
  newPer : Bool := false
  skip : List Nat := []
  stop : Bool := false
  deriving DecidableEq, Repr

/-- A timebase group (R202 to R221, R587): start of the present period, next boundary and whether it is a mid-period one;
the boundary whose hand-off comes next, whether it is a mid-period one, its hand-off point; windows handed over; hand-offs
since the COMMIT; TBG[g]_PERIOD written since the last applied commit; sets that arrived or are on the ENG-to-PTA link; the
last set taken; sample instants beyond the windows handed over. -/
structure Tbg where
  b : Nat := 0
  nextB : Nat := 0
  mid : Bool := false
  hB : Nat := 0
  hMid : Bool := false
  hBase : Nat := 0
  handAt : Option Nat := none
  stopPend : Bool := false
  taken : List Taken := []
  hand : Nat := 0
  perWr : Bool := false
  sets : List KSet := []
  wire : List KSet := []
  last : Option KSet := none
  smp : List Nat := []
  deriving DecidableEq, Repr

/-- A leg in the PTA (R209, R213, R215; 07_trips_and_leg_protection.md R238 to R259): emitted state and the times of the
last emitted edges, pending edges, high-side command at the end of the last window, asserted satellite sources (DESAT_H,
DESAT_L, UVLO_H, UVLO_L, OT in bits 0 to 4), a blanked source waits, high-side on-intervals emitted and the on-time of the last
period, the window of the last counted insertion, CBC hold, counting, latched routed sources, the safe state
that holds the leg, the boundary of its release, bootstrap reports, off compare of the period before (04_machine_control.md R127),
compare values written by Basil (R206), a refused pulse goes on at the end of the last window, high and low side (R215), the length of
the period of `duty`. -/
structure Leg where
  hsOn : Bool := false
  lsOn : Bool := false
  hsOff : Option Nat := none
  lsOff : Option Nat := none
  hsOnAt : Option Nat := none
  lsOnAt : Option Nat := none
  deadFrom : Option Nat := none
  pend : List Edge := []
  hEnd : Bool := false
  hFall : Option Nat := none
  satSrc : Nat := 0
  blankWait : Bool := false
  onIv : List (Nat × Nat) := []
  duty : Nat := 0
  insW : Option Nat := none
  cbcEnd : Option Nat := none
  cbcSeen : Bool := false
  clean : Nat := 0
  latchSrc : List Nat := []
  held : Nat := 0
  relAt : Option Nat := none
  bootRep : Bool := false
  bootLow : Bool := false
  bootOnce : Bool := false
  rewr : Bool := false
  offPrev : Nat := 0
  byKern : Bool := false
  skipH : Bool := false
  skipL : Bool := false
  per : Nat := 0
  deriving DecidableEq, Repr

/-- A machine group in the PTA (07_trips_and_leg_protection.md R248 to R258): latched routed sources, the discharge mode
(1 WINDING, 2 BLEED), a RELEASE in progress, the requests that have decided its state in the tick named (R253: one of Sage,
one for ASC, Sage's lowest event), the tick of the last trip request, when the group last entered and left its safe states. -/
structure Mg where
  latchSrc : List Nat := []
  dis : Nat := 0
  releasing : Bool := false
  reqTick : Option Nat := none
  reqSage : Bool := false
  reqAsc : Bool := false
  reqEvt : Nat := 255
  tripTick : Option Nat := none
  inAt : Nat := 0
  outAt : Nat := 0
  deriving DecidableEq, Repr

/-- An ADC trigger instant the PTA has placed (R225): group, TRG1, time, the sample instant it counts for. -/
structure TrgPt where
  g : Nat
  one : Bool
  t : Nat
  deriving DecidableEq, Repr


/-- A cell of the NDL link (08_ndotar_drive_link.md R274, R275), downlink then uplink. Times are Thyme times in fine ticks
where the cell carries fine bits. -/
inductive Cell where
  | edge (n : Nat) (e : Edge)
  | retract (n : Nat) (e : Edge)
  | force (id mask pat : Nat) (indef : Bool) (dly fin : Nat)
  | sampleReq (t smask : Nat) (chk : Bool)
  | probe (id : Nat)
  | adjust (corr rate : Int)
  | syncSet
  | hintReact (react hold : Nat)
  | hintPeriod (slot per : Nat)
  | cfgWr (a : Nat) (d : Word)
  | cfgRd (a : Nat)
  | token (op : Nat)
  | result (t slot : Nat) (ls on : Bool) (out : EdgeOut)
  | status
  | telem (slot flags : Nat) (urgent : Bool)
  | syncRsp (id a2 turn : Nat)
  | cfgRsp (a : Nat) (d : Word)
  | tokenRsp (res : Nat) (holder : Bool)
  | sample (slot : Nat) (i v vdc : Nat)
  | check (slot : Nat) (i vdc cnt : Nat)
  deriving DecidableEq, Repr

/-- A cell ready to be sent: when it was handed over and its latest send moment (R285). -/
structure RCell where
  cell : Cell
  due : Option Nat := none
  deriving DecidableEq, Repr

/-- A sequenced cell sent and not acknowledged (R273): number, payload as sent, times sent, last time. -/
structure SCell where
  seq : Nat
  cell : Cell
  pay : Nat := 0
  n : Nat := 1
  last : Nat := 0
  deriving DecidableEq, Repr

/-- The sending and receiving state of one end of a link (R270, R272, R273); `last` is the cell sent in the last slot (R269, R271), its
ten characters in order, none in electrical idle. -/
structure LinkSt where
  ready : List RCell := []
  unack : List SCell := []
  resend : List SCell := []
  txSeq : Nat := 0
  rxSeq : Nat := 0
  nak : Bool := false
  resendAt : Option Nat := none
  sinceFill : Nat := 0
  last : List Chr := []
  deriving DecidableEq, Repr

/-- A FORCE no STATUS has confirmed (R296). -/
structure FPend where
  id : Nat
  mask : Nat
  pat : Nat
  indef : Bool
  dly : Nat
  fin : Nat
  last : Nat
  deriving DecidableEq, Repr

/-- A port of the hub (R273 to R312). -/
structure Port where
  lk : LinkSt := {}
  forceId : Nat := 0
  aligned : Bool := false
  fills : Nat := 0
  fillAt : Option Nat := none
  capsGot : Nat := 0
  since : Nat := 0
  lastValid : Nat := 0
  credTaken : Bool := false
  edges : List (Nat × Edge) := []
  resulted : Nat := 0
  outst : Nat := 0
  boots : Word := 0
  lexec : Option Nat := none
  ldisc : Option Nat := none
  bootsNew : Option Word := none
  force : List FPend := []
  probe : Option (Nat × Nat) := none
  probeId : Nat := 0
  rtts : Nat := 0
  ddn : Int := 0
  good : Nat := 0
  bad : Nat := 0
  rate : Int := 0
  lastProbe : Option Nat := none
  smpReq : List (Nat × Nat × Bool) := []
  smpSeen : Nat := 0
  chkSeen : Nat := 0
  chkCnt : Nat := 0
  asym : Int := 0
  tokKnown : Bool := false
  hintAt : Nat := 0
  profAt : Option Nat := none
  acct : Bool := false
  q0 : Nat := 0
  dlLast : Nat := 0
  deriving DecidableEq, Repr

/-- An entry of a satellite's edge queue (R286, R288). -/
structure QEnt where
  slot : Nat
  e : Edge
  arr : Nat := 0
  passed : Bool := false
  kill : Bool := false
  old : Bool := false
  deriving DecidableEq, Repr

/-- A link port of a satellite (R286 to R313). -/
structure SLink where
  lk : LinkSt := {}
  queue : List QEnt := []
  due : Nat := 0
  fid : Option Nat := none
  lastForce : Option Cell := none
  dlErr : Nat := 0
  tLoss : Nat := 20
  tHold : Nat := 40
  tel : Nat := 100
  loss : Bool := true
  lastValid : Nat := 0
  lexec : Nat := 0
  ldisc : Nat := 0
  smp : List (Nat × Nat × Nat × Bool) := []
  done : List QEnt := []
  lateSeen : List (QEnt × EdgeOut) := []
  ilk : Bool := false
  statusAt : Nat := 0
  telAt : List Nat := [0, 0, 0, 0]
  profBank : List Word := []
  profOther : List Word := []
  bankAt : Option Nat := none
  bankW : Word := 0
  deriving DecidableEq, Repr

/-- A FORCE hold of a slot (R295): pattern, end of a timed hold or a release, the moment it began. -/
structure Hold where
  pat : Nat
  fin : Option Nat
  start : Nat := 0
  deriving DecidableEq, Repr

/-- What drives the gate of a switch (R299, R300): the half of the profile in force, its number, whether it is the off half, the local
time of its edge. -/
structure Drive where
  word : Word := 0
  prof : Nat := 0
  off : Bool := true
  at_ : Nat := 0
  deriving DecidableEq, Repr

/-- A leg slot of a satellite (R295, R300, R302 to R308). -/
structure Slot where
  hs : Bool := false
  ls : Bool := false
  hsOff : Option Nat := none
  lsOff : Option Nat := none
  hold : Option Hold := none
  react : Nat := 0
  holdEn : Bool := false
  period : Option Nat := none
  inReact : Bool := true
  phLim : Option Nat := none
  phBase : Option Nat := none
  phEnd : Option Nat := none
  done : List Edge := []
  reps : List Edge := []
  flags : Nat := 0
  repH : Nat := 0
  repL : Nat := 0
  chkCnt : Nat := 0
  dsat : Nat := 0
  onDue : Option (Bool × Nat × Nat) := none
  gateH : Drive := {}
  gateL : Drive := {}
  deriving DecidableEq, Repr

/-- A satellite (R281 to R314). -/
structure Sat where
  id : Word := 0
  caps : Word := 0x00000104
  asymW : Word := 0
  ser : Word := 0
  boots : Word := 0
  ofs : Int := 0
  rate : Int := 0
  corr : Int := 0
  slewAt : Nat := 0
  tokB : Bool := false
  a : SLink := {}
  b : SLink := {}
  slots : List Slot := [{}, {}, {}, {}]
  deriving DecidableEq, Repr


/-- An event on its way to the safe-state manager (09_sage_and_safe_states.md R333). -/
structure SEvt where
  e : Nat
  named : SageName
  test : Bool := false
  deriving DecidableEq, Repr

/-- Sage besides its registers (R322 to R351); `recent` are the momentary events that arrived in the tick `recentAt` (R337). -/
structure Sage where
  inbox : List SEvt := []
  recent : List SEvt := []
  recentAt : Nat := 0
  resetAt : Option Nat := none
  halted : Bool := false
  lost : Bool := false
  mainBad : Bool := false
  sclkBad : Bool := false
  running : Bool := false
  errOn : Bool := false
  aliveSusp : Bool := false
  dbgHalt : Bool := false
  deriving DecidableEq, Repr

/-- A watchdog (R352, R353): last valid service, first key seen, configuration in force. -/
structure Wdg where
  last : Nat := 0
  first : Bool := false
  wmin : Nat := 0
  wmax : Nat := 0
  served : Bool := false
  deriving DecidableEq, Repr

/-- A CHECK item at Sage (R332, R341): leg, instant, raw current, raw DC-link voltage, count. -/
structure ChkItem where
  leg : Nat
  t : Nat
  i : Int
  vdc : Nat
  cnt : Nat
  deriving DecidableEq, Repr

/-- A torque-monitor channel (R341 to R343). Timers are in fine ticks. -/
structure TMon where
  items : List ChkItem := []
  tReq : Nat := 0
  tRep : Nat := 0
  tAbs : Nat := 0
  tSum : Nat := 0
  psi : Word := 0
  ang : Word := 0
  lastAt : Option Nat := none
  staleRun : Nat := 0
  skipRun : Nat := 0
  cnts : Tab Nat := []
  deriving DecidableEq, Repr

/-- A discharge Sage supervises (R346 to R348). -/
structure Dis where
  mode : Nat := 0
  start : Nat := 0
  v0 : Option Nat := none
  chkN : Nat := 0
  below : Option Nat := none
  lastV : Nat := 0
  v : Nat := 0
  vw : Word := 0
  vcw : Option Word := none
  deriving DecidableEq, Repr

/-- Liveness supervision of a context (R344): last sealed step count, when it last advanced; kb_fault as last seen (R345). -/
structure Liv where
  cnt : Nat := 0
  at_ : Nat := 0
  kb : Bool := false
  deriving DecidableEq, Repr

/-- An APC pair (R328 to R331). -/
structure Apc where
  halted : Bool := false
  dbgHalt : Bool := false
  running : Bool := false
  deriving DecidableEq, Repr


/-- A record PAIR sends (10_lovage_pairing.md R366). -/
inductive PRec where
  | heart (t : Nat) (groups : List Nat)
  | probe
  | resp (a2 turn : Nat)
  | mirror (k : Nat) (step : Word) (img outs : List Word)
  | seal (k : Nat) (step : Word) (run : Bool)
  | cancel (k : Nat) (step : Word)
  | set (g gen t per part parts : Nat) (legs : List LegSet)
  | check (v : List Word)
  | ctrl (op : Nat)
  | bulk (k : Nat) (step : Word) (run : Bool) (img outs : List Word)
  deriving DecidableEq, Repr

/-- A tentative record held on a mirror (R372). -/
structure Tent where
  step : Word
  img : List Word
  outs : List Word
  deriving DecidableEq, Repr

/-- The parts of a SET collected for a group (R370). -/
structure SetParts where
  t : Nat := 0
  per : Nat := 0
  gen : Nat := 0
  parts : Nat := 0
  got : List Nat := []
  legs : List LegSet := []
  deriving DecidableEq, Repr

/-- The steps of JOIN (R377). -/
inductive JoinStep where
  | none | check | time | ports | align | copy
  deriving DecidableEq, Repr

/-- A takeover (R381): its detection, caused by QUIT, ports granted and denied, groups taken, the last CLAIM, the slew in
force before it in 0.01 ppm. -/
structure Tko where
  start : Nat
  quit : Bool
  granted : Nat := 0
  denied : Nat := 0
  taken : Nat := 0
  lastClaim : Nat := 0
  slew : Int := 0
  deriving DecidableEq, Repr

/-- Lovage (R361 to R390): held tentative records, the last HEART states, the step of JOIN, JOIN requested and since when,
entry of the link state, last valid block, the probe that awaits its answer and when the last one left, consecutive offsets
within 1 ns and beyond 4 ns, PAIR_DELTA stepped in this JOIN, records sent, the bytes of the last one, parts of SETs and the last whole ones, contexts
and groups copied in JOIN, the context whose BULK goes next, recorded RUN flags, steps applied, SYNCED at the loss, the
takeover, sequence numbers, when the last HEART left, PAIR_DELTA. -/
structure PairSt where
  tent : Tab Tent := []
  heart : List Nat := []
  join : JoinStep := .none
  joinReq : Bool := false
  joinAt : Nat := 0
  since : Nat := 0
  lastBlock : Nat := 0
  probe : Option Nat := none
  probeAt : Nat := 0
  good : Nat := 0
  bad : Nat := 0
  timeDone : Bool := false
  txq : List (Nat × PRec) := []
  last : List Byte := []
  sets : Tab SetParts := []
  lastSet : Tab SetParts := []
  copied : List Nat := []
  copiedG : List Nat := []
  bulkNext : Nat := 0
  runs : List Nat := []
  applied : Tab Word := []
  tko : Option Tko := none
  seqTx : Nat := 0
  seqRx : Option Nat := none
  heartAt : Nat := 0
  delta : Int := 0
  deriving DecidableEq, Repr

/-- A safety input besides its registers (11_machine_safety_io.md R393, R394): pin level, end of the hold of its filter, test
passed since the failure. -/
structure SiSt where
  lvl : Bool := false
  holdEnd : Nat := 0
  passed : Bool := false
  deriving DecidableEq, Repr

/-- An evaluator besides its registers (R397 to R399): start of a discrepancy (of TWOHAND: of its left hand), that of the right
hand, level and rise of its reset source, actuation of the first hand, both hands released since. -/
structure EvSt where
  discAt : Option Nat := none
  discAt2 : Option Nat := none
  rst : Bool := false
  rstAt : Nat := 0
  first : Option Nat := none
  bothRel : Bool := false
  deriving DecidableEq, Repr

/-- A safety output besides its registers (R402): its conditions hold, its next off-pulse, start and end of the last one. -/
structure SoSt where
  on : Bool := false
  nextPulse : Nat := 0
  pulseAt : Option Nat := none
  pulseEnd : Nat := 0
  deriving DecidableEq, Repr

/-- The copy that opened a pair window (R409): when, sequence number, data, network B. -/
structure SmWin where
  at_ : Nat
  seq : Nat
  data : List Byte
  netB : Bool
  deriving DecidableEq, Repr

/-- A safe-message channel besides its registers (R409, R410): the open window, a sequence number was accepted, time of the last
accepted pair, next periodic send, data of the last send, run of sends that found one pending, copies that wait on the
CAN-to-SAGE link (network B, bytes). -/
structure SmSt where
  win : Option SmWin := none
  hasAcc : Bool := false
  lastAcc : Nat := 0
  txNext : Nat := 0
  txLast : Option (List Byte) := none
  txBusy : Nat := 0
  rx : List (Bool × List Byte) := []
  deriving DecidableEq, Repr

/-- MSIO. -/
structure Msio where
  si : Tab SiSt := []
  ev : Tab EvSt := []
  so : Tab SoSt := []
  sm : Tab SmSt := []
  deriving DecidableEq, Repr

/-- A conversion request (12_analog_acquisition.md R422 to R426): input; source 0 sequence, 1 GIU, 2 resolver; its number; urgent;
for the averager alone; issued with the one before it; cos input and second phase of a resolver; request instant; preempted; the
GIU's epoch when it asked (02_islands_and_credits.md R57); the trigger instant of a TRG0 or TRG1 run, and the end of the period of a
SPREAD run (R432); its entry group (R430). -/
structure AdcReq where
  j : Nat
  src : Nat := 0
  n : Nat := 0
  urg : Bool := false
  avgOnly : Bool := false
  par : Bool := false
  cos : Bool := false
  half : Bool := false
  at_ : Nat := 0
  pre : Bool := false
  ep : Nat := 0
  due : Option Nat := none
  perEnd : Option Nat := none
  grp : Nat := 0
  deriving DecidableEq, Repr

/-- A conversion on a slice (R418): its request and its hold time. -/
structure AdcConv where
  req : AdcReq
  hold : Nat
  deriving DecidableEq, Repr

/-- A sequence (R429 to R431): entries of its run still to issue, urgent, whether its last group has held and when, the next
instant of its timer, the index of the last SPREAD run; what its results are attributed by (R432); the entry group issued last
(R430), the start of the last run (R441). -/
structure AdcRun where
  left : List Nat := []
  urg : Bool := false
  wait : Nat := 0
  heldAt : Option Nat := none
  nextTim : Nat := 0
  spI : Nat := 0
  due : Option Nat := none
  perEnd : Option Nat := none
  grp : Nat := 0
  startAt : Option Nat := none
  deriving DecidableEq, Repr

/-- An averager (R434): sum, members, a RESTARTED member. -/
structure AdcAvg where
  sum : Int := 0
  n : Nat := 0
  rst : Bool := false
  deriving DecidableEq, Repr

/-- A record for Basil (R433): input, averaged, value, no value, the instant it is attributed by where it is not by its arrival
(R432). -/
structure AdcRec where
  j : Nat
  avg : Bool
  v : Int
  bad : Bool
  due : Option Nat := none
  deriving DecidableEq, Repr

/-- A resolver channel of a unit (R439, R440): results of the period (cos, second phase, value, hold time), a failed one, periods in a
row outside and inside the limits. -/
structure AdcRsv where
  got : List (Bool × Bool × Int × Nat) := []
  bad : Bool := false
  n : Nat := 0
  outN : Nat := 0
  inN : Nat := 0
  deriving DecidableEq, Repr

/-- A converter unit (R420 to R434): queues, conversions of each slice (oldest first), sequences, averagers, records that wait,
resolver channels, since when the mode is INTERLEAVED. -/
structure AdcUnit where
  urgQ : List AdcReq := []
  normQ : List AdcReq := []
  slices : Tab (List AdcConv) := []
  runs : Tab AdcRun := []
  avgs : Tab AdcAvg := []
  recs : List AdcRec := []
  rsv : Tab AdcRsv := []
  ilAt : Nat := 0
  deriving DecidableEq, Repr

/-- What a feedback channel keeps besides its registers (13_feedback_and_aux_axes.md R446 to R450): filtered levels of A, B
and Z, running count of edges, times of the last counted and of the last edge, the previous capture (edge time, edge count,
speed), the sample in which arm was written. -/
structure FbSt where
  a : Bool := false
  b : Bool := false
  z : Bool := false
  edges : Int := 0
  lastEdge : Option Nat := none
  prevEdge : Option Nat := none
  hasCap : Bool := false
  capEdge : Option Nat := none
  capEdges : Int := 0
  lastSpd : Word := 0
  armAt : Option Nat := none
  deriving DecidableEq, Repr

/-- An envelope on the way from an ADC unit (12_analog_acquisition.md R439): s, c, los, mean hold time. -/
structure Envelope where
  s : Int
  c : Int
  los : Bool
  t : Nat
  deriving DecidableEq, Repr

/-- What a resolver channel keeps besides its registers (R451, R452): estimated angle in (-π, π], whole periods, speed in rad/s,
mean hold time and arrival of the last envelope, whether the loop has started since enabling, run of small errors, an envelope
that waits. -/
structure ResSt where
  phi : Word := 0
  turns : Int := 0
  omega : Word := 0
  envAt : Nat := 0
  arrAt : Option Nat := none
  started : Bool := false
  inRun : Nat := 0
  rx : Option Envelope := none
  deriving DecidableEq, Repr

/-- What an emulation output keeps besides its registers (R453): remainder of the accumulator, output levels, time of the
last edge, last position of the source. -/
structure EmuSt where
  rem : Int := 0
  a : Bool := false
  b : Bool := false
  z : Bool := false
  lastEdge : Option Nat := none
  srcPos : Nat := 0
  deriving DecidableEq, Repr

/-- A phase of a chopper drive (R460, R461): in DRIVE, since when, length of the last DRIVE in 10 ns units, sign of the
reference. -/
structure ChopPh where
  drive : Bool := false
  since : Nat := 0
  tOn : Nat := 0
  sgn : Int := 0
  deriving DecidableEq, Repr

/-- What an axis keeps besides its registers (R454 to R462): square of the present rate, time of the next step, target latched
at MOVE, rate ceiling of a HOME motion, deceleration to the end of the motion, whether that end is a MOVE's target, stopped by a limit, home position latched in
this motion and the moment and HOME_POS before it, idle since, holding current, microstep index, chopper phases, end of the
last step pulse. -/
structure AxisSt where
  v2 : Word := 0
  nextAt : Nat := 0
  target : Int := 0
  vHome : Word := 0
  stopping : Bool := false
  toTarget : Bool := false
  byLim : Bool := false
  homed : Bool := false
  homeAt : Nat := 0
  homeOld : Word := 0
  idleSince : Nat := 0
  hold : Bool := false
  mIdx : Nat := 0
  phA : ChopPh := {}
  phB : ChopPh := {}
  pulseEnd : Nat := 0
  deriving DecidableEq, Repr

/-- The auxiliary motion unit: whether a brown-out warning episode holds it (R462), and its axes. -/
structure Amu where
  brown : Bool := false
  axes : Tab AxisSt := []
  deriving DecidableEq, Repr

/-- A frame in the receive FIFO (14_can.md R481). -/
structure CanRx where
  id : Word := 0
  info : Word := 0
  ts : Word := 0
  data : List Word := []
  deriving DecidableEq, Repr

/-- A CAN controller besides its registers (14_can.md R473 to R486): data words of the message buffers (key 16 b + w), the
FIFO, the buffer on the bus, buffers whose abort waits, recovery from BUS_OFF in progress, a frame on the bus, TEC and REC. -/
structure CanSt where
  mb : Tab Word := []
  fifo : List CanRx := []
  cur : Option Nat := none
  abortReq : List Nat := []
  recov : Bool := false
  busy : Bool := false
  tec : Nat := 0
  rxe : Nat := 0
  deriving DecidableEq, Repr

/-- A command on the eMRAM write port (15_power_clocks_boot_thermal.md R516, R517): a row at its offset with its words, or the
new minimum version. -/
inductive MpOp where
  | row (ofs : Nat) (ws : List Word)
  | minVer (v : Word)
  deriving DecidableEq, Repr

/-- The JTAG instruction in force (R518). -/
inductive JtagIr where
  | idcode | bypass | sample | extest | chal | resp
  deriving DecidableEq, Repr

/-- The HPM besides its registers (R494 to R522): held in reset by a thermal hold, by a thermal shutdown; start times of the
episodes of the last 10 s; start, rail and minimum of the episode; operating seconds at a moment, when they were last
persisted; the flush slot of eMRAM (operating seconds, those before the last flush, power cycles, shutdown marker); no boot since power-on; digest of the
accepted slot; entry of the power state; when XIN or lock was lost; rounds of each sensor outside 15 K and inside 10 K, the
invalid ones; the eMRAM command; the debug challenge; the I²C transfer (read, address, register, data); JTAG instruction and
the value its data register shifts out; level of the DEBUG_ALLOW strap; when PD_PTA was powered down (06_thyme_and_pwm.md R198); the
banks of lanes whose SER_RCAL ball is open or shorted on this board (17_balls_and_electrical.md R575). -/
structure Hpm where
  held : Bool := false
  shut : Bool := false
  starts : List Int := []
  epiStart : Nat := 0
  epiRail : Nat := 0
  epiMin : Nat := 0
  ops : Nat := 0
  opsAt : Nat := 0
  persistAt : Nat := 0
  flushOps : Nat := 0
  flushPrev : Nat := 0
  flushPcyc : Nat := 0
  marker : Bool := false
  cold : Bool := true
  digest : List Byte := []
  entryAt : Nat := 0
  clkLost : Option Nat := none
  bad : List Nat := [0, 0, 0, 0, 0, 0, 0, 0]
  good : List Nat := [0, 0, 0, 0, 0, 0, 0, 0]
  invalid : Nat := 0
  mp : Option MpOp := none
  chal : Option (List Byte) := none
  i2c : Option (Bool × Nat × Nat × Nat) := none
  jtag : JtagIr := .idcode
  jtagOut : List Byte := []
  strap : Bool := false
  aonAt : Option Nat := none
  rcalBad : List Nat := []
  deriving DecidableEq, Repr

/-- A record waiting in the Rosemary queue (16_rosemary_and_selftest.md R529, R533); `own` marks REC's DEFERRED record, whose
payload is filled in when it is written. -/
structure RItem where
  own : Bool := false
  code : Nat := 0
  block : Nat := 0
  inst : Nat := 0
  time : Nat := 0
  opsec : Word := 0
  late : Bool := false
  pay : List Byte := []
  dFull : Nat := 0
  dAbs : Nat := 0
  dFirst : Nat := 0
  dLast : Nat := 0
  deriving DecidableEq, Repr

/-- REC: the queue, oldest first, the deferrals that wait for a DEFERRED record, and the trigger (R533 to R539). -/
structure RecSt where
  queue : List RItem := []
  dFull : Nat := 0
  dAbs : Nat := 0
  dFirst : Nat := 0
  dLast : Nat := 0
  postLeft : Option Nat := none
  deriving DecidableEq, Repr

/-- A BIST request: island, kinds, when it started (R544). -/
structure BReq where
  idx : Nat
  kinds : Nat
  at_ : Nat := 0
  deriving DecidableEq, Repr

/-- BIST: requests waiting, oldest first, tests running, time of the last start (R544 to R546). -/
structure BistSt where
  queue : List BReq := []
  run : List BReq := []
  lastStart : Option Nat := none
  deriving DecidableEq, Repr


/-- The state of the block. -/
structure State where
  now : Nat := 0
  free : Nat := 0
  regs : Tab Word := []
  bnd : Tab Pend := []
  cmt : Tab Pend := []
  tmr : Tab (Word × Word) := []
  crcRun : Tab Nat := []
  mem : List Host.Cell := []
  bus : Bus := {}
  wardens : Tab Warden := []
  links : Tab Link := []
  ctxs : Tab Ctx := []
  stages : Tab Stage := []
  lanes : Tab Lane := []
  basil : Basil := {}
  giu : Giu := {}
  slewAcc : Int := 0
  frames : Tab Nat := []
  tbgs : Tab Tbg := []
  legs : Tab Leg := []
  mgs : Tab Mg := []
  trgs : List TrgPt := []
  ports : Tab Port := []
  sats : Tab Sat := []
  sage : Sage := {}
  wdgs : Tab Wdg := []
  tms : Tab TMon := []
  diss : Tab Dis := []
  livs : Tab Liv := []
  apcs : Tab Apc := []
  pair : PairSt := {}
  msio : Msio := {}
  adcs : Tab AdcUnit := []
  fbs : Tab FbSt := []
  ress : Tab ResSt := []
  emus : Tab EmuSt := []
  amu : Amu := {}
  cans : Tab CanSt := []
  hpm : Hpm := {}
  rosem : RecSt := {}
  bist : BistSt := {}
  pending : List Instr := []
  deriving DecidableEq, Repr

/-- `s` with its `now` replaced. -/
def State.setNow (s : State) (v : Nat) : State := { s with now := v }

/-- `s` with its `free` replaced. -/
def State.setFree (s : State) (v : Nat) : State := { s with free := v }

/-- `s` with its `regs` replaced. -/
def State.setRegs (s : State) (v : Tab Word) : State := { s with regs := v }

/-- `s` with its `bnd` replaced. -/
def State.setBnd (s : State) (v : Tab Pend) : State := { s with bnd := v }

/-- `s` with its `cmt` replaced. -/
def State.setCmt (s : State) (v : Tab Pend) : State := { s with cmt := v }

/-- `s` with its `tmr` replaced. -/
def State.setTmr (s : State) (v : Tab (Word × Word)) : State := { s with tmr := v }

/-- `s` with its `crcRun` replaced. -/
def State.setCrcRun (s : State) (v : Tab Nat) : State := { s with crcRun := v }

/-- `s` with its `mem` replaced. -/
def State.setMem (s : State) (v : List Host.Cell) : State := { s with mem := v }

/-- `s` with its `bus` replaced. -/
def State.setBus (s : State) (v : Bus) : State := { s with bus := v }

/-- `s` with its `wardens` replaced. -/
def State.setWardens (s : State) (v : Tab Warden) : State := { s with wardens := v }

/-- `s` with its `links` replaced. -/
def State.setLinks (s : State) (v : Tab Link) : State := { s with links := v }

/-- `s` with its `ctxs` replaced. -/
def State.setCtxs (s : State) (v : Tab Ctx) : State := { s with ctxs := v }

/-- `s` with its `stages` replaced. -/
def State.setStages (s : State) (v : Tab Stage) : State := { s with stages := v }

/-- `s` with its `lanes` replaced. -/
def State.setLanes (s : State) (v : Tab Lane) : State := { s with lanes := v }

/-- `s` with its `basil` replaced. -/
def State.setBasil (s : State) (v : Basil) : State := { s with basil := v }

/-- `s` with its `giu` replaced. -/
def State.setGiu (s : State) (v : Giu) : State := { s with giu := v }

/-- `s` with its `slewAcc` replaced. -/
def State.setSlewAcc (s : State) (v : Int) : State := { s with slewAcc := v }

/-- `s` with its `frames` replaced. -/
def State.setFrames (s : State) (v : Tab Nat) : State := { s with frames := v }

/-- `s` with its `tbgs` replaced. -/
def State.setTbgs (s : State) (v : Tab Tbg) : State := { s with tbgs := v }

/-- `s` with its `legs` replaced. -/
def State.setLegs (s : State) (v : Tab Leg) : State := { s with legs := v }

/-- `s` with its `mgs` replaced. -/
def State.setMgs (s : State) (v : Tab Mg) : State := { s with mgs := v }

/-- `s` with its `trgs` replaced. -/
def State.setTrgs (s : State) (v : List TrgPt) : State := { s with trgs := v }

/-- `s` with its `ports` replaced. -/
def State.setPorts (s : State) (v : Tab Port) : State := { s with ports := v }

/-- `s` with its `sats` replaced. -/
def State.setSats (s : State) (v : Tab Sat) : State := { s with sats := v }

/-- `s` with its `sage` replaced. -/
def State.setSage (s : State) (v : Sage) : State := { s with sage := v }

/-- `s` with its `wdgs` replaced. -/
def State.setWdgs (s : State) (v : Tab Wdg) : State := { s with wdgs := v }

/-- `s` with its `tms` replaced. -/
def State.setTms (s : State) (v : Tab TMon) : State := { s with tms := v }

/-- `s` with its `diss` replaced. -/
def State.setDiss (s : State) (v : Tab Dis) : State := { s with diss := v }

/-- `s` with its `livs` replaced. -/
def State.setLivs (s : State) (v : Tab Liv) : State := { s with livs := v }

/-- `s` with its `apcs` replaced. -/
def State.setApcs (s : State) (v : Tab Apc) : State := { s with apcs := v }

/-- `s` with its `pair` replaced. -/
def State.setPair (s : State) (v : PairSt) : State := { s with pair := v }

/-- `s` with its `msio` replaced. -/
def State.setMsio (s : State) (v : Msio) : State := { s with msio := v }

/-- `s` with its `adcs` replaced. -/
def State.setAdcs (s : State) (v : Tab AdcUnit) : State := { s with adcs := v }

/-- `s` with its `fbs` replaced. -/
def State.setFbs (s : State) (v : Tab FbSt) : State := { s with fbs := v }

/-- `s` with its `ress` replaced. -/
def State.setRess (s : State) (v : Tab ResSt) : State := { s with ress := v }

/-- `s` with its `emus` replaced. -/
def State.setEmus (s : State) (v : Tab EmuSt) : State := { s with emus := v }

/-- `s` with its `amu` replaced. -/
def State.setAmu (s : State) (v : Amu) : State := { s with amu := v }

/-- `s` with its `cans` replaced. -/
def State.setCans (s : State) (v : Tab CanSt) : State := { s with cans := v }

/-- `s` with its `hpm` replaced. -/
def State.setHpm (s : State) (v : Hpm) : State := { s with hpm := v }

/-- `s` with its `rosem` replaced. -/
def State.setRosem (s : State) (v : RecSt) : State := { s with rosem := v }

/-- `s` with its `bist` replaced. -/
def State.setBist (s : State) (v : BistSt) : State := { s with bist := v }

/-- `s` with its `pending` replaced. -/
def State.setPending (s : State) (v : List Instr) : State := { s with pending := v }

/-- The state right after reset: every field at the value of INVENTORY.md. -/
def State.reset : State := {}

end Sys2Proof.Machine
end

