-- ==== Sys2Proof/Machine/Ops.lean ====
section
/-! DEFINITION. The named operations over tables, registers, memory and time. -/
namespace Sys2Proof.Machine

/-! Tables. -/

/-- The entry of a table at a key. -/
def Tab.find {α : Type} : Tab α → Nat → Option α
  | [], _ => none
  | (j, v) :: r, k => if j = k then some v else Tab.find r k

/-- The value of a table at a key, `d` where it lists none. -/
def Tab.get {α : Type} (d : α) (t : Tab α) (k : Nat) : α := (Tab.find t k).getD d

/-- A table without the entry at a key. -/
def Tab.del {α : Type} : Tab α → Nat → Tab α
  | [], _ => []
  | (j, v) :: r, k => if j = k then Tab.del r k else (j, v) :: Tab.del r k

/-- A table with an entry put at its place in the order of keys. -/
def Tab.ins {α : Type} : Tab α → Nat → α → Tab α
  | [], k, v => [(k, v)]
  | (j, w) :: r, k, v => if j < k then (j, w) :: Tab.ins r k v else if j = k then (k, v) :: r else (k, v) :: (j, w) :: r

/-- A table with a value at a key; the default value is not listed. -/
def Tab.set {α : Type} [DecidableEq α] (d : α) (t : Tab α) (k : Nat) (v : α) : Tab α :=
  if v = d then Tab.del t k else Tab.ins t k v

/-- The keys rise strictly from above `lo`, and no value is the default of its key. -/
def Tab.sorted {α : Type} [DecidableEq α] (d : Nat → α) : Nat → Tab α → Bool
  | _, [] => true
  | lo, (j, v) :: r => decide (lo ≤ j) && !decide (v = d j) && Tab.sorted d (j + 1) r

/-! Time (06_thyme_and_pwm.md R197): fine ticks, 32 to a tick of 2.5 ns. -/

/-- One tick. -/
def tick : Nat := 32
/-- One nanosecond is 12.8 fine ticks; ten are 128. -/
def ns10 : Nat := 128
/-- One microsecond. -/
def us : Nat := 12800
/-- One millisecond. -/
def ms : Nat := 12800000
/-- The low 32 tick bits of a Thyme time. -/
def lowTicks (t : Nat) : Nat := t / 32 % 2 ^ 32
/-- The present Thyme time in ticks. -/
def State.ticks (s : State) : Nat := s.now / 32

/-! Registers. -/

/-- Who a requester is among those with a copy of their own of a banked register (03_basil_control_engine.md R112). -/
def reqNo : Req → Nat
  | .apc0 => 0 | .apc1 => 1 | .sage => 2 | .hrp => 3

/-- The key under which the copy of requester `r` of the banked register at `a` is held. -/
def bank (r : Req) (a : Nat) : Nat := a + (reqNo r + 1) * 2 ^ 32

/-- The key of register `a` of the instance `k` shown through a window (03_basil_control_engine.md R113, 14_can.md R478). -/
def inst (k a : Nat) : Nat := a + (k + 8) * 2 ^ 32

/-- Copy A of the register held under a key. -/
def State.rd (s : State) (a : Nat) : Word := (Tab.find s.regs a).getD (resetOf (a % 2 ^ 32))

/-- The register under a key takes a value; a register at its reset value is not listed. -/
def State.wr (s : State) (a : Nat) (v : Word) : State :=
  s.setRegs (if v = resetOf (a % 2 ^ 32) then Tab.del s.regs a else Tab.ins s.regs a v)

/-- The index of an address in an array of registers. -/
def RegSpec.covers (g : RegSpec) (a : Nat) : Bool := decide (g.base ≤ a) && offsetIn g.dims (a - g.base)

/-- The register of a list at an address. -/
def specIn : List RegSpec → Nat → Option RegSpec
  | [], _ => none
  | g :: r, a => if g.covers a then some g else specIn r a

/-- The registers of the block whose span holds an address (01_register_pages.md R14). -/
def spanRegs (a : Nat) : List RegSpec :=
  if a < 0x40000000 then []
  else if a < 0x40001000 then regsSys
  else if a < 0x40010000 then regsHpm
  else if a < 0x40020000 then regsFab
  else if a < 0x40040000 then regsThy
  else if a < 0x40050000 then regsNdl
  else if a < 0x40060000 then regsEng
  else if a < 0x40070000 then regsGiu
  else if a < 0x40080000 then regsAdc
  else if a < 0x40090000 then regsFbi
  else if a < 0x400A0000 then regsAmu
  else if a < 0x400B0000 then regsCan
  else if a < 0x400C0000 then regsMsio
  else if a < 0x400D0000 then regsPair
  else if a < 0x400E0000 then regsRec
  else if a < 0x400F0000 then regsBist
  else if a < 0x40100000 then regsSage
  else if a < 0x40110000 then regsApc
  else if a < 0x40120000 then regsHrp
  else []

/-- The register the spec defines at an address; `none` where it defines none. -/
def specAt (a : Nat) : Option RegSpec := specIn (spanRegs a) a

/-- The majority of three copies, or the reset value (01_register_pages.md R28). -/
def vote3 (a b c r : Nat) : Nat := if a = b then a else if a = c then a else if b = c then b else r

/-- The vote over each field of a register (R28): what the device uses. -/
def voteFields (a b c r : Word) : List FieldSpec → Word
  | [] => a
  | f :: fs =>
    let w := f.hi - f.lo + 1
    Word.ins (voteFields a b c r fs) f.lo w (vote3 (a.fld f.lo w) (b.fld f.lo w) (c.fld f.lo w) (r.fld f.lo w))

/-- The value the device uses: copy A, or the vote where the copies differ (R28). -/
def State.use (s : State) (a : Nat) : Word :=
  match Tab.find s.tmr a with
  | none => s.rd a
  | some (db, dc) =>
    let v := s.rd a
    voteFields v (v ^^^ db) (v ^^^ dc) (resetOf a) ((specAt a).map (·.fields) |>.getD [])

/-- The effective value of a field. -/
def State.get (s : State) (f : Fld) : Nat := (s.use f.addr).fld f.lo f.w

/-- The effective value of a field of one bit. -/
def State.on (s : State) (f : Fld) : Bool := s.get f != 0

/-- The field takes a value. -/
def State.put (s : State) (f : Fld) (v : Nat) : State := s.wr f.addr ((s.rd f.addr).ins f.lo f.w v)

/-- The one-bit field becomes 1. -/
def State.raise (s : State) (f : Fld) : State := s.put f 1

/-- The one-bit field becomes 0. -/
def State.lower (s : State) (f : Fld) : State := s.put f 0

/-- The one-bit field takes a truth value. -/
def State.putB (s : State) (f : Fld) (b : Bool) : State := s.put f (if b then 1 else 0)

/-- A wrapping counter counts. -/
def State.incr (s : State) (f : Fld) : State := s.put f ((s.get f + 1) % 2 ^ f.w)

/-- A saturating counter counts. -/
def State.incrSat (s : State) (f : Fld) : State := s.put f (min (s.get f + 1) (2 ^ f.w - 1))

/-- A wrapping counter advances by `n`. -/
def State.addTo (s : State) (f : Fld) (n : Nat) : State := s.put f ((s.get f + n) % 2 ^ f.w)

/-- A saturating counter advances by `n`. -/
def State.addSat (s : State) (f : Fld) (n : Nat) : State := s.put f (min (s.get f + n) (2 ^ f.w - 1))

/-- Bit `i` of the words from `a` on, eight words at most. -/
def bitFld (a i : Nat) : Fld := ⟨a + i / 32 % 8 * 4, i % 32, 1⟩

/-- Bit `i` of the words from `a` on. -/
def State.bitAt (s : State) (a i : Nat) : Bool := (s.rd (bitFld a i).addr).fld (i % 32) 1 != 0

/-- Bit `i` of the words from `a` on takes a truth value. -/
def State.putBit (s : State) (a i : Nat) (b : Bool) : State := s.put (bitFld a i) (if b then 1 else 0)

/-- `f` where the condition holds, nothing otherwise. -/
def State.when (s : State) (c : Bool) (f : State → State) : State := if c then f s else s

/-- `f` for each number of a list, in its order. -/
def State.each {α : Type} (s : State) (l : List α) (f : α → State → State) : State := l.foldl (fun s i => f i s) s

/-- A free value of 32 bits, and the counter that makes the next one another (log entry 2). -/
def State.freeWord (s : State) : Word × State := (Config.freeWord s.free, s.setFree (s.free + 1))

/-! Memory (01_register_pages.md R13). -/

/-- What an unlisted byte reads as: the reset words of CTX_W_TRIG and CTX_W_TIMER in the context areas
(03_basil_control_engine.md R75, R113), 0 elsewhere (16_rosemary_and_selftest.md R528 for the ring; log entry 3). -/
def memDflt (a : Nat) : Byte :=
  if 0x30000000 ≤ a && a < 0x30040000 then
    match a % 0x800 with
    | 0x009 => 0x04 | 0x00A => 0x30 | 0x00B => 0x14
    | 0x00C => 0xA0 | 0x00D => 0x0F
    | _ => 0
  else 0

/-- The byte at an address. -/
def Memory.read (m : List Host.Cell) (a : Nat) : Byte := (Tab.find m a).getD (memDflt a)

/-- A byte is stored; a byte equal to what an unlisted address reads as is not listed. -/
def Memory.write (m : List Host.Cell) (a : Nat) (v : Byte) : List Host.Cell :=
  if v = memDflt a then Tab.del m a else Tab.ins m a v

/-- The canonical form of memory. -/
def Memory.wf (m : List Host.Cell) : Bool := Tab.sorted memDflt 0 m

/-- The canonical form of the register table: keys rising, no register listed at its reset value. -/
def Registers.wf (t : Tab Word) : Bool := Tab.sorted (fun a => resetOf (a % 2 ^ 32)) 0 t

/-- The little-endian word at an address (00_scope.md, Notation). -/
def State.mem32 (s : State) (a : Nat) : Word :=
  BitVec.ofNat 32 ((Memory.read s.mem a).toNat + (Memory.read s.mem (a + 1)).toNat * 2 ^ 8
    + (Memory.read s.mem (a + 2)).toNat * 2 ^ 16 + (Memory.read s.mem (a + 3)).toNat * 2 ^ 24)

/-- A word is stored, least significant byte first. -/
def State.memPut (s : State) (a : Nat) (v : Word) : State :=
  let b (i : Nat) : Byte := BitVec.ofNat 8 (v.toNat / 2 ^ (8 * i))
  s.setMem (Memory.write (Memory.write (Memory.write (Memory.write s.mem a (b 0)) (a + 1) (b 1)) (a + 2) (b 2)) (a + 3) (b 3))

/-- A list of bytes is stored from an address on. -/
def State.memBytes (s : State) (a : Nat) (bs : List Byte) : State :=
  s.setMem ((bs.zipIdx a).foldl (fun m (v, i) => Memory.write m i v) s.mem)

/-- `n` words from an address on. -/
def State.memWords (s : State) (a n : Nat) : List Word := (List.range n).map (fun i => s.mem32 (a + 4 * i))

/-- Words are stored from an address on. -/
def State.memPutWords (s : State) (a : Nat) (ws : List Word) : State :=
  s.each (ws.zipIdx) (fun (w, i) s => s.memPut (a + 4 * i) w)

/-- `n` bytes from an address on. -/
def State.memRead (s : State) (a n : Nat) : List Byte := (List.range n).map (fun i => Memory.read s.mem (a + i))

/-! Numbers. -/

/-- A number of `w` bits in two's complement. -/
def sext (w x : Nat) : Int := if x % 2 ^ w ≥ 2 ^ (w - 1) then (x % 2 ^ w : Nat) - (2 ^ w : Nat) else (x % 2 ^ w : Nat)

/-- The low `w` bits of an integer. -/
def lowBits (w : Nat) (x : Int) : Nat := (x % (2 ^ w : Nat)).toNat

/-- `x` held within lo to hi. -/
def clampI (lo hi x : Int) : Int := if x < lo then lo else if hi < x then hi else x

/-- A list with its element at `i` replaced. -/
def setAt {α : Type} : List α → Nat → α → List α
  | [], _, _ => []
  | _ :: r, 0, v => v :: r
  | a :: r, i + 1, v => a :: setAt r i v

/-- The bits of a mask that are ones, lowest first, below `n`. -/
def bitsOf (n m : Nat) : List Nat := (List.range n).filter (fun i => m / 2 ^ i % 2 == 1)

/-- A mask with a bit set or cleared. -/
def withBit (m i : Nat) (b : Bool) : Nat :=
  if m / 2 ^ i % 2 == 1 then (if b then m else m - 2 ^ i) else (if b then m + 2 ^ i else m)

/-- CRC-32C of a byte taken into a running value (01_register_pages.md R30, reflected polynomial 0x82F6_3B78). -/
def crc32cByte (c : Nat) (b : Byte) : Nat :=
  let x := c ^^^ b.toNat
  (List.range 8).foldl (fun x _ => if x % 2 == 1 then (x / 2) ^^^ 0x82F63B78 else x / 2) x

/-- CRC-32C of a list of bytes (R30). -/
def crc32c (bs : List Byte) : Word := BitVec.ofNat 32 ((bs.foldl crc32cByte 0xFFFFFFFF) ^^^ 0xFFFFFFFF)

/-- CRC-16 of a byte taken into a running value (01_register_pages.md R38). -/
def crc16Byte (c : Nat) (b : Byte) : Nat :=
  (List.range 8).foldl (fun x _ => if x / 2 ^ 15 % 2 = 1 then (x * 2 % 2 ^ 16) ^^^ 0x1021 else x * 2) (c ^^^ (b.toNat * 256))

/-- CRC-16 over bytes with an initial value (R38; 08_ndotar_drive_link.md R271; 11_msio_and_sensors.md R408). -/
def crc16 (init : Nat) (bs : List Byte) : Nat := bs.foldl crc16Byte init

/-- The bytes of a word, least significant first. -/
def wordBytes (w : Word) : List Byte := [w.toNat, w.toNat / 256, w.toNat / 65536, w.toNat / 16777216].map (BitVec.ofNat 8)

/-- The bytes of a number, `n` of them, least significant first. -/
def natBytes (n x : Nat) : List Byte := (List.range n).map (fun i => BitVec.ofNat 8 (x / 256 ^ i))

end Sys2Proof.Machine
end

