-- ==== Sys2Proof/Machine/Float.lean ====
section
/-! DEFINITION. IEEE 754 binary32 (03_basil_control_engine.md R71), round to nearest, ties to even, on words: exact
integer arithmetic and one rounding. A result that is no number is the quiet NaN 0x7FC0_0000 (DESIGN CHOICE, log entry 4). -/
namespace Sys2Proof.Machine.F32
open Sys2Proof

/-- The quiet NaN results take. -/
def nan : Word := 0x7FC00000
/-- Biased exponent. -/
def expo (x : Word) : Nat := x.fld 23 8
/-- Fraction. -/
def frac (x : Word) : Nat := x.fld 0 23
/-- Sign. -/
def neg (x : Word) : Bool := x.fld 31 1 == 1
def isNaN (x : Word) : Bool := expo x == 255 && frac x != 0
def isInf (x : Word) : Bool := expo x == 255 && frac x == 0
def isFinite (x : Word) : Bool := expo x != 255
def isZero (x : Word) : Bool := expo x == 0 && frac x == 0
/-- Plus or minus zero, infinity. -/
def zero (s : Bool) : Word := if s then 0x80000000 else 0
def inf (s : Bool) : Word := if s then 0xFF800000 else 0x7F800000
/-- A finite number is mant × 2^(pow - 149). -/
def mant (x : Word) : Nat := if expo x = 0 then frac x else frac x + 2 ^ 23
def pow (x : Word) : Nat := if expo x = 0 then 0 else expo x - 1
/-- The signed mantissa. -/
def smant (x : Word) : Int := if neg x then -(mant x : Int) else mant x

/-- `n / d` to the nearest, ties to even. -/
def divRNE (n d : Nat) : Nat :=
  let q := n / d
  let r := n % d
  if 2 * r < d then q else if d < 2 * r then q + 1 else if q % 2 = 0 then q else q + 1

/-- The binary32 nearest to (-1)^s × (n / d) × 2^(e - 149), for d > 0. -/
def round (s : Bool) (n d : Nat) (e : Int) : Word :=
  if n = 0 then zero s
  else
    -- scale so that the quotient has 24 bits: find k with 2^23 ≤ n/d × 2^(-k) < 2^24
    let k0 : Int := (Nat.log2 n : Int) - Nat.log2 d - 23
    let q (k : Int) : Nat := if k ≥ 0 then n / (d * 2 ^ k.toNat) else n * 2 ^ (-k).toNat / d
    let k1 := if q k0 < 2 ^ 23 then k0 - 1 else if 2 ^ 24 ≤ q k0 then k0 + 1 else k0
    -- no exponent below 2^-149
    let k := if k1 + e < 0 then -e else k1
    let m := if k ≥ 0 then divRNE n (d * 2 ^ k.toNat) else divRNE (n * 2 ^ (-k).toNat) d
    let (m, k) := if m = 2 ^ 24 then (2 ^ 23, k + 1) else (m, k)
    let p := (k + e).toNat
    let body := if m < 2 ^ 23 then m else (m - 2 ^ 23) + (p + 1) * 2 ^ 23
    if 0x7F800000 ≤ body then inf s else BitVec.ofNat 32 (body + (if s then 2 ^ 31 else 0))

/-- The binary32 nearest to an integer. -/
def ofInt (i : Int) : Word := round (decide (i < 0)) i.natAbs 1 149
/-- The binary32 nearest to a fraction of naturals. -/
def ofRat (n d : Nat) : Word := if d = 0 then nan else round false n d 149
/-- The sign is turned. -/
def negate (x : Word) : Word := x ^^^ 0x80000000
/-- The magnitude. -/
def abs (x : Word) : Word := x &&& 0x7FFFFFFF

/-- The sum. -/
def add (x y : Word) : Word :=
  if isNaN x || isNaN y then nan
  else if isInf x then (if isInf y && neg x != neg y then nan else x)
  else if isInf y then y
  else
    let p := min (pow x) (pow y)
    let t : Int := smant x * (2 ^ (pow x - p) : Nat) + smant y * (2 ^ (pow y - p) : Nat)
    if t = 0 then zero (neg x && neg y) else round (decide (t < 0)) t.natAbs 1 p

/-- The difference. -/
def sub (x y : Word) : Word := if isNaN y then nan else add x (negate y)

/-- The product. -/
def mul (x y : Word) : Word :=
  let s := neg x != neg y
  if isNaN x || isNaN y then nan
  else if isInf x || isInf y then (if isZero x || isZero y then nan else inf s)
  else round s (mant x * mant y) 1 ((pow x : Int) + pow y - 149)

/-- The quotient. -/
def div (x y : Word) : Word :=
  let s := neg x != neg y
  if isNaN x || isNaN y then nan
  else if isInf x then (if isInf y then nan else inf s)
  else if isInf y then zero s
  else if isZero y then (if isZero x then nan else inf s)
  else round s (mant x) (mant y) ((pow x : Int) - pow y + 149)

/-- The square root. -/
def sqrt (x : Word) : Word :=
  if isNaN x then nan
  else if isZero x then x
  else if neg x then nan
  else if isInf x then x
  else
    -- mant × 2^(pow-149) = n × 2^(2h), with n large enough that its root has more than 25 bits
    let e : Int := (pow x : Int) - 149
    let n0 := mant x * 2 ^ 60
    let e0 := e - 60
    let (n, e1) := if e0 % 2 = 0 then (n0, e0) else (n0 * 2, e0 - 1)
    let r := Nat.sqrt n
    -- one more bit marks a remainder, so that the rounding sees it
    round false (2 * r + (if r * r = n then 0 else 1)) 1 (e1 / 2 - 1 + 149)

/-- The numbers as an order: below zero by falling magnitude. Not used on NaN. -/
def key (x : Word) : Int := if neg x then -((x &&& 0x7FFFFFFF).toNat : Int) else (x &&& 0x7FFFFFFF).toNat
/-- Less than; false on NaN. -/
def lt (x y : Word) : Bool := !isNaN x && !isNaN y && decide (key x < key y)
/-- Less than or equal; false on NaN. -/
def le (x y : Word) : Bool := !isNaN x && !isNaN y && decide (key x ≤ key y)
/-- Equal; false on NaN. -/
def eq (x y : Word) : Bool := !isNaN x && !isNaN y && decide (key x = key y)
def min (x y : Word) : Word := if lt y x then y else x
def max (x y : Word) : Word := if lt x y then y else x
/-- Held within lo to hi. -/
def clamp (lo hi x : Word) : Word := if lt x lo then lo else if lt hi x then hi else x
/-- Held within plus or minus a limit. -/
def lim (l x : Word) : Word := clamp (negate l) l x

/-- A finite number as an integer, rounded to the nearest, ties to even; 0 for what is no finite number. -/
def toInt (x : Word) : Int :=
  if !isFinite x then 0
  else
    let m := if pow x ≥ 149 then mant x * 2 ^ (pow x - 149) else divRNE (mant x) (2 ^ (149 - pow x))
    if neg x then -(m : Int) else m

/-- A finite number as an integer, towards minus infinity. -/
def floor (x : Word) : Int :=
  if !isFinite x then 0
  else if pow x ≥ 149 then smant x * (2 ^ (pow x - 149) : Nat)
  else smant x / (2 ^ (149 - pow x) : Nat)

/-- A whole number that a parameter word holds, as a natural number. -/
def toNat (x : Word) : Nat := (toInt x).toNat

/-- Whether a word holds the whole number n. -/
def isNat (x : Word) (n : Nat) : Bool := x == ofInt n

/-- Constants. -/
def one : Word := 0x3F800000
def half : Word := 0x3F000000
def two : Word := 0x40000000
def three : Word := 0x40400000
def pi : Word := 0x40490FDB
def twoPi : Word := 0x40C90FDB
def sqrt3 : Word := 0x3FDDB3D7
/-- n / d in decimal notation of the spec. -/
def dec (n d : Nat) : Word := ofRat n d

/-- An angle in (-π, π]. -/
def wrap (x : Word) : Word :=
  if lt pi x then sub x twoPi else if le x (negate pi) then add x twoPi else x

/-- A time in fine ticks in seconds: 78.125 ps, 1 / 12.8e9 s. -/
def secs (t : Int) : Word := if t < 0 then negate (ofRat t.natAbs 12800000000) else ofRat t.natAbs 12800000000

/-- A sum of products. -/
def dot : List (Word × Word) → Word
  | [] => 0
  | (a, b) :: r => add (mul a b) (dot r)

end Sys2Proof.Machine.F32
end

