-- ==== Sys2Proof/Machine/Operands.lean ====
section
/-! DEFINITION. Operand forms: the blocks and islands of an address, who may access it, and how a written word is stored
(01_register_pages.md R13 to R16, R41, R42; the ranges of the chapters' register tables). -/
namespace Sys2Proof.Machine

/-- The header page of a block (R14). -/
def hdr : Block → Nat
  | .sys => 0x40000000 | .hpm => 0x40001000 | .fab => 0x40010000 | .thy => 0x40020000 | .ndl => 0x40040000
  | .eng => 0x40050000 | .giu => 0x40060000 | .adc u => 0x40070000 + u.val * 0x1000 | .fbi => 0x40080000
  | .amu => 0x40090000 | .can c => 0x400A0000 + c.val * 0x1000 | .msio => 0x400B0000 | .pair => 0x400C0000
  | .recorder => 0x400D0000 | .bist => 0x400E0000 | .sage => 0x400F0000 | .apc => 0x40100000 | .hrp => 0x40110000

/-- The block code (R14). -/
def blockCode : Block → Nat
  | .sys => 1 | .hpm => 2 | .fab => 3 | .thy => 4 | .ndl => 5 | .eng => 6 | .giu => 7 | .adc _ => 8 | .fbi => 9
  | .amu => 10 | .can _ => 11 | .msio => 12 | .pair => 13 | .recorder => 14 | .bist => 15 | .sage => 16 | .apc => 17
  | .hrp => 18

/-- The instance of a block, as ID.inst (R17). -/
def blockInst : Block → Nat
  | .adc u => u.val | .can c => c.val | _ => 0

/-- The island a block's pages belong to (02_islands_and_credits.md R43). -/
def blockIsland : Block → Nat
  | .sys | .hpm | .fab => 0 | .hrp => 1 | .apc => 2 | .sage | .msio => 4 | .eng => 5 | .thy => 6 | .ndl => 7 | .giu => 8
  | .adc _ => 9 | .fbi => 10 | .amu => 11 | .can _ => 12 | .pair => 13 | .recorder => 14 | .bist => 15

/-- Every header page. -/
def allBlocks : List Block :=
  [.sys, .hpm, .fab, .thy, .ndl, .eng, .giu, .adc 0, .adc 1, .adc 2, .adc 3, .fbi, .amu, .can 0, .can 1, .can 2, .can 3,
   .msio, .pair, .recorder, .bist, .sage, .apc, .hrp]

/-- CAPS.cmt of a block (each chapter's register section; R585). -/
def capCmt : Block → Bool
  | .fab | .sys | .hpm | .recorder | .bist | .can _ | .apc | .hrp => false
  | _ => true

/-- CAPS.crc of a block. -/
def capCrc : Block → Bool
  | .fab | .sys | .bist | .apc | .hrp => false
  | _ => true

/-- The block whose span holds an address, with the instance whose page holds it, or instance 0 beyond the last (R14, R15). -/
def blockAt (a : Nat) : Option Block :=
  if a < 0x40000000 then none
  else if a < 0x40001000 then some .sys
  else if a < 0x40010000 then some .hpm
  else if a < 0x40020000 then some .fab
  else if a < 0x40040000 then some .thy
  else if a < 0x40050000 then some .ndl
  else if a < 0x40060000 then some .eng
  else if a < 0x40070000 then some .giu
  else if a < 0x40080000 then
    let u := (a - 0x40070000) / 0x1000
    some (.adc (if h : u < 4 then ⟨u, h⟩ else 0))
  else if a < 0x40090000 then some .fbi
  else if a < 0x400A0000 then some .amu
  else if a < 0x400B0000 then
    let c := (a - 0x400A0000) / 0x1000
    some (.can (if h : c < 4 then ⟨c, h⟩ else 0))
  else if a < 0x400C0000 then some .msio
  else if a < 0x400D0000 then some .pair
  else if a < 0x400E0000 then some .recorder
  else if a < 0x400F0000 then some .bist
  else if a < 0x40100000 then some .sage
  else if a < 0x40110000 then some .apc
  else if a < 0x40120000 then some .hrp
  else none

/-- An address of the GIU log ring (05_grid_and_pv.md R196), which is words without a row of a table. -/
def inLogRing (a : Nat) : Bool := decide (0x40063000 ≤ a) && decide (a < 0x40064000)

/-- The registers CAN MB_DATA and FIFO_DATA, RC and windows are all in the map; the log ring is defined besides (R15). -/
def defined (a : Nat) : Bool := inLogRing a || (specAt a).isSome

/-- The island, or index 16, whose warden answers an access (R43, R13). -/
def islandAt (a : Nat) : Nat :=
  match blockAt a with
  | some b => blockIsland b
  | none =>
    if 0x30040000 ≤ a && a < 0x30060000 then 16
    else if 0x30000000 ≤ a && a < 0x30080000 then 5
    else 1

/-- The requester's island (02_islands_and_credits.md R50; the HRP is MEM). -/
def reqIsland : Req → Nat
  | .apc0 => 2 | .apc1 => 3 | .sage => 4 | .hrp => 1

/-- The regions of memory (R13). -/
inductive Region where
  | bootRom | image | ring | config | identity | sram | ctxArea | kernelStore | trace | none
  deriving DecidableEq, Repr

/-- The region of an address outside the peripheral pages (R13). -/
def regionAt (a : Nat) : Region :=
  if a < 0x10000 then .bootRom
  else if 0x10000000 ≤ a && a < 0x10700000 then .image
  else if 0x10700000 ≤ a && a < 0x10780000 then .ring
  else if 0x10780000 ≤ a && a < 0x107C0000 then .config
  else if 0x107C0000 ≤ a && a < 0x10800000 then .identity
  else if 0x20000000 ≤ a && a < 0x20400000 then .sram
  else if 0x30000000 ≤ a && a < 0x30040000 then .ctxArea
  else if 0x30040000 ≤ a && a < 0x30060000 then .kernelStore
  else if 0x30060000 ≤ a && a < 0x30080000 then .trace
  else .none

/-- May the requester read the region (R13, R36)? -/
def mayRead (r : Req) (g : Region) : Bool :=
  match r, g with
  | _, .none => false
  | .hrp, _ => false
  | .sage, .bootRom => false
  | .sage, .sram => false
  | _, _ => true

/-- The field stored for a written value: held within lo to hi (the nearer end). -/
def near (lo hi v : Nat) : Nat := if v < lo then lo else if hi < v then hi else v

/-- One field of the word is mapped by a function. -/
def mapFld (d : Word) (lo w : Nat) (f : Nat → Nat) : Word := d.ins lo w (f (d.fld lo w))

/-- The stored code of an evaluator channel (11_machine_safety_io.md R396): inputs 0x00 to 0x17, safe bits 0x40 to 0xBF. -/
def evSrcCode (c : Nat) : Nat :=
  if c < 24 then c else if 0x40 ≤ c && c < 0xC0 then c else 0xFF

/-- The stored code of a reset source (R396): a channel, or 0xFE for software. -/
def evRstCode (c : Nat) : Nat := if c = 0xFE then c else evSrcCode c

/-- A trigger code of an ADC sequence (12_analog_acquisition.md R429). -/
def trgCode (c : Nat) : Nat := if c ≤ 1 || (0x20 ≤ c && c < 0xA0) then c else 0

/-- The word stored for a written word: out-of-range fields as the chapters' tables say ("stored as"). -/
def storedWord (a : Nat) (d : Word) : Word :=
  let o (b st n : Nat) : Bool := decide (b ≤ a) && decide (a < b + st * n) && (a - b) % st == 0
  let pg (b st n ofs : Nat) : Bool := decide (b ≤ a) && decide (a < b + st * n) && (a - b) % st == ofs
  if o 0x40010090 4 17 then mapFld d 0 7 (near 1 100)
  else if a == 0x400101D0 then mapFld d 0 4 (near 1 10)
  else if a == 0x40110044 then d &&& 0xFFFF7FFF
  else if a == 0x40110048 then d &&& 0xFFFFFFFD
  else if a == 0x40051010 then mapFld d 20 4 (near 1 15)
  else if a == 0x40051018 then mapFld d 10 2 (fun v => if v = 3 then 0 else v)
  else if pg 0x40061000 0x200 8 0x000 then mapFld d 1 2 (near 0 2)
  else if pg 0x40061000 0x200 8 0x040 then mapFld d 6 10 (near 0 1000)
  else if pg 0x40061000 0x200 8 0x050 then mapFld d 0 14 (near 0 9000)
  else if pg 0x40061000 0x200 8 0x104 then mapFld d 20 12 (near 0 1900)
  else if pg 0x40061000 0x200 8 0x10C then mapFld d 8 8 (near 0 200)
  else if pg 0x40062000 0x40 16 0x00 then mapFld d 10 6 (near 8 63)
  else if pg 0x40021000 0x80 32 0x00 then mapFld d 0 2 (fun v => if v = 3 then 0 else v)
  else if pg 0x40021000 0x80 32 0x04 then mapFld d 0 24 (near 800 16777215)
  else if pg 0x40021000 0x80 32 0x08 then mapFld d 0 16 (near 0 4000)
  else if pg 0x40030000 0x40 128 0x00 then mapFld d 28 3 (fun v => if 4 < v then 0 else v)
  else if pg 0x40030000 0x40 128 0x18 then mapFld d 16 16 (near 0 25600)
  else if pg 0x40030000 0x40 128 0x20 then
    let f1 := mapFld (mapFld d 16 8 (near 1 255)) 8 2 (fun v => if v = 3 then 2 else v)
    let g (v : Nat) : Nat := if v = 3 || v = 0 then 2 else v
    mapFld (mapFld (mapFld f1 10 2 g) 12 2 g) 14 2 g
  else if pg 0x40030000 0x40 128 0x24 then mapFld (mapFld d 16 11 (near 80 2000)) 0 11 (near 0 2000)
  else if pg 0x40032000 0x40 32 0x00 then
    let t := if d.fld 0 2 = 3 then 0 else d.fld 0 2
    let r := if t = 2 then 1 else if 2 ≤ d.fld 2 2 then 0 else d.fld 2 2
    (d.ins 0 2 t).ins 2 2 r
  else if o 0x40020100 4 96 then
    let e := mapFld d 28 2 (fun v => if v = 3 then 2 else v)
    if e.fld 30 1 = 1 then e.ins 27 1 0 else e
  else if pg 0x40041000 0x100 32 0x08 then mapFld d 0 14 (near 240 8000)
  else if pg 0x40041000 0x100 32 0x0C then mapFld (mapFld d 16 6 (near 0 50)) 0 8 (near 5 160)
  else if pg 0x40041000 0x100 32 0x10 then mapFld d 0 10 (near 5 1000)
  else if pg 0x40041000 0x100 32 0x1C then mapFld d 0 10 (near 10 1000)
  else if a == 0x400F005C then
    let e := mapFld d 16 16 (near 10 10000)
    if e.fld 0 16 < e.fld 16 16 then e else e.ins 0 16 0
  else if o 0x40100110 4 2 then (if d.fld 0 16 < d.fld 16 16 then d else d.ins 0 16 0)
  else if o 0x400F1000 8 64 then mapFld d 12 2 (near 0 2)
  else if pg 0x400F2000 0x80 32 0x00 then (if d.fld 29 2 = 2 && d.fld 28 1 = 0 then d.ins 31 1 0 else d)
  else if pg 0x400F3000 0x20 32 0x00 then mapFld d 8 8 (near 1 255)
  else if pg 0x400F3000 0x20 32 0x04 then mapFld (mapFld d 16 16 (near 10 1000)) 0 16 (near 1 6000)
  else if a == 0x400C0044 then mapFld (mapFld d 16 10 (near 5 1000)) 0 7 (near 3 100)
  else if o 0x400B0040 4 24 then mapFld d 24 5 (fun v => if 15 < v then 31 else v)
  else if pg 0x400B00C0 0x10 8 0x0 then mapFld (mapFld d 29 3 (fun v => if 4 < v then 0 else v)) 16 8 evRstCode
  else if pg 0x400B00C0 0x10 8 0x4 then
    mapFld (mapFld (mapFld (mapFld d 0 8 evSrcCode) 8 8 evSrcCode) 16 8 evSrcCode) 24 8 evSrcCode
  else if pg 0x400B00C0 0x10 8 0x8 then mapFld (mapFld d 16 9 (near 50 500)) 0 10 (near 1 1000)
  else if o 0x400B0180 4 16 then mapFld (mapFld d 16 12 (near 10 1000)) 0 10 (near 10 100)
  else if pg 0x400B0200 0x20 16 0x00 then (if d.fld 27 1 = 0 then d.ins 24 3 0 else d)
  else if pg 0x400B0200 0x20 16 0x0C then mapFld (mapFld d 16 16 (near 1 65535)) 0 16 (near 1 1000)
  else if pg 0x40070000 0x1000 4 0x040 then mapFld (mapFld d 16 8 (near 1 100)) 2 4 (near 3 8)
  else if 0x40070000 ≤ a && a < 0x40074000 then
    let p := a % 0x1000
    if 0x080 ≤ p && p < 0x0D0 then
      let e := mapFld (mapFld d 4 4 (near 0 8)) 0 4 (near 0 8)
      if (p - 0x080) / 4 % 2 = 1 then e.ins 10 1 0 else e
    else if 0x200 ≤ p && p < 0x280 && p % 0x10 = 0 then
      mapFld (mapFld (mapFld d 16 8 trgCode) 8 4 (near 1 8)) 0 4 (near 0 8)
    else if 0x200 ≤ p && p < 0x280 && p % 0x10 = 0xC then mapFld d 0 24 (near 40 16777215)
    else if p = 0x400 || p = 0x420 then mapFld d 0 9 (near 0 359)
    else if p = 0x404 || p = 0x424 then mapFld d 0 11 (near 200 2000)
    else d
  else if pg 0x40081000 0x40 16 0x00 then mapFld (mapFld d 8 8 (near 1 255)) 26 2 (fun v => if v = 3 then 0 else v)
  else if pg 0x40081000 0x40 16 0x08 then mapFld d 16 16 (near 1 65535)
  else if pg 0x40081600 0x20 4 0x00 then mapFld (mapFld d 25 5 (fun v => if 23 < v then 0 else v)) 8 8 (near 1 255)
  else if pg 0x40081600 0x20 4 0x04 then mapFld d 0 16 (near 1 65535)
  else if pg 0x40091000 0x80 8 0x00 then
    mapFld (mapFld (mapFld d 8 8 (near 2 255)) 0 4 (near 0 8)) 30 2 (fun v => if v = 3 then 0 else v)
  else if pg 0x40091000 0x80 8 0x04 then
    (if F32.lt d (F32.ofRat 597 100) then F32.ofRat 597 100 else d)
  else if pg 0x400A0000 0x1000 4 0x04C then mapFld (mapFld d 16 6 (near 1 32)) 0 3 (fun v => if 4 < v then 0 else v)
  else if pg 0x400A0000 0x1000 4 0x040 then
    (if d.fld 0 7 < d.fld 16 7 then d.ins 16 7 (d.fld 0 7) else d)
  else if pg 0x400A0000 0x1000 4 0x044 then
    (if d.fld 4 4 < d.fld 0 4 then d.ins 0 4 (d.fld 4 4) else d)
  else if a == 0x400E0044 then mapFld (mapFld d 16 8 (near 1 255)) 0 16 (near 700 1000)
  else d

end Sys2Proof.Machine
end

