-- ==== Sys2Proof/Machine/Flags.lean ====
section
/-! DEFINITION. The flags of the common header (01_register_pages.md R17, R27): setting error bits and interrupt sources,
the interrupt lines (R33, R35), and the summary bits the header shows. -/
namespace Sys2Proof.Machine

/-- Header fields of the page at `h`. -/
abbrev hCtrl (h i : Nat) : Fld := ⟨h + 0x08, i, 1⟩
abbrev hStat (h i : Nat) : Fld := ⟨h + 0x0C, i, 1⟩
abbrev hRaw (h i : Nat) : Fld := ⟨h + 0x10, i, 1⟩
abbrev hErr (h i : Nat) : Fld := ⟨h + 0x1C, i, 1⟩
abbrev hGenPending (h : Nat) : Fld := ⟨h + 0x24, 8, 8⟩
abbrev hGenApplied (h : Nat) : Fld := ⟨h + 0x24, 0, 8⟩
abbrev hCmtPend (h : Nat) : Fld := hStat h 1

/-- Bit numbers of ERR (R17). -/
def errVote : Nat := 0
def errVoteFail : Nat := 1
def errCrcMis : Nat := 2
def errCmtGen : Nat := 3
def errAcc : Nat := 4
def errShdBusy : Nat := 5

/-- An interrupt source of a block is set. -/
def State.irq (s : State) (h i : Nat) : State := s.raise (hRaw h i)

/-- An error bit of a block is set; IRQ_RAW.err is set when it was 0 (R17). -/
def State.errSet (s : State) (h i : Nat) : State :=
  if s.on (hErr h i) then s else (s.raise (hErr h i)).irq h 0

/-- IRQ_OUT.act of a header page: IRQ_RAW AND IRQ_EN (R17). -/
def State.act (s : State) (h : Nat) : Nat := (s.rd (h + 0x10)).fld 0 16 &&& (s.rd (h + 0x14)).fld 0 16

/-- A level-sensitive summary: raw AND enable is not 0. -/
def State.summary (s : State) (raw en w : Nat) : Bool := ((s.rd raw).fld 0 w &&& (s.rd en).fld 0 w) != 0

/-- Level of an interrupt line (R33, and the line sentences of the chapters' register sections). -/
def State.line (s : State) (n : Nat) : Bool :=
  let out (h : Nat) : Bool := s.act h != 0
  let actIn (h lo w : Nat) : Bool := s.act h / 2 ^ lo % 2 ^ w != 0
  if n = 0 then out 0x40000000
  else if n = 1 then out 0x40001000
  else if n = 2 then actIn 0x40001000 8 2
  else if n = 3 then actIn 0x40001000 10 1
  else if n < 8 then false
  else if n = 8 then out 0x40010000
  else if n = 9 then s.on (hRaw 0x40010000 4)
  else if n = 10 then actIn 0x40010000 5 1
  else if n = 11 then actIn 0x40010000 6 1
  else if n = 12 then out 0x40020000
  else if n = 13 then actIn 0x40020000 4 3
  else if n = 14 then actIn 0x40020000 7 2
  else if n = 15 then s.rd aTHY_TRIP_SUM != 0
  else if n < 48 then s.summary (aTBG_IRQ_RAW (n - 16)) (aTBG_IRQ_EN (n - 16)) 8
  else if n < 80 then s.summary (aMG_IRQ_RAW (n - 48)) (aMG_IRQ_EN (n - 48)) 8
  else if n = 80 then out 0x40040000
  else if n = 81 then actIn 0x40040000 4 1
  else if n = 82 then actIn 0x40040000 5 1
  else if n = 83 then actIn 0x40040000 6 1
  else if n < 116 then s.summary (aNDL_IRQ_RAW (n - 84)) (aNDL_IRQ_EN (n - 84)) 10
  else if n = 116 then out 0x40050000
  else if n = 117 then actIn 0x40050000 4 1
  else if n = 118 then actIn 0x40050000 5 1
  else if n = 119 then actIn 0x40050000 6 1
  else if n < 136 then
    (List.range 8).any (fun i => s.summary (inst (8 * (n - 120) + i) aCTX_W_IRQ_RAW) (inst (8 * (n - 120) + i) aCTX_W_IRQ_EN) 8)
  else if n = 136 then out 0x40060000
  else if n < 142 then actIn 0x40060000 (4 + (n - 137)) 1
  else if n < 144 then false
  else if n < 160 then
    let h := 0x40070000 + (n - 144) / 4 * 0x1000
    match (n - 144) % 4 with
    | 0 => out h | 1 => actIn h 4 2 | 2 => actIn h 6 1 | _ => actIn h 7 1
  else if n = 160 then out 0x40080000
  else if n = 161 then actIn 0x40080000 4 1
  else if n = 162 then actIn 0x40080000 5 2
  else if n = 163 then actIn 0x40080000 7 1
  else if n = 164 then out 0x40090000
  else if n < 168 then actIn 0x40090000 (4 + (n - 165)) 1
  else if n < 184 then
    let h := 0x400A0000 + (n - 168) / 4 * 0x1000
    match (n - 168) % 4 with
    | 0 => out h | 1 => actIn h 4 3 | 2 => actIn h 7 2 | _ => actIn h 9 3
  else if n = 184 then out 0x400B0000
  else if n = 185 then actIn 0x400B0000 4 2
  else if n = 186 then actIn 0x400B0000 6 1
  else if n = 187 then actIn 0x400B0000 7 1
  else if n = 188 then out 0x400C0000
  else if n = 189 then actIn 0x400C0000 4 2
  else if n = 190 then actIn 0x400C0000 6 1
  else if n = 191 then actIn 0x400C0000 7 2
  else if n = 192 then out 0x400D0000
  else if n = 193 then actIn 0x400D0000 4 2
  else if n = 194 then out 0x400E0000
  else if n = 195 then actIn 0x400E0000 5 1
  else if n < 200 then
    (if n = 196 then out 0x400F0000
     else if n = 197 then s.on fAPC_SAGE_EVT_safe
     else if n = 198 then s.on fAPC_SAGE_EVT_ns || s.on fAPC_SAGE_EVT_lost
     else s.on fAPC_SAGE_EVT_dis)
  else if n = 200 then out 0x40100000
  else if n = 201 then
    (List.range 2).any (fun i => s.on (fAPC_LS_STAT_mis i) || s.on (fAPC_LS_STAT_broken i))
  else if n = 202 then (List.range 2).any (fun i => s.on (fAPC_WDG_STAT_expired i))
  else if n = 203 then false
  else if n = 204 then out 0x40110000
  else if n < 208 then false
  else if n < 224 then s.on ⟨aAPC_SWI, n - 208, 1⟩
  else false

/-- The 32 levels APC_IP(i) shows (R35). -/
def State.ipWord (s : State) (i : Nat) : Word :=
  BitVec.ofNat 32 ((List.range 32).foldl (fun x j => if s.line (32 * i + j) then x + 2 ^ j else x) 0)

/-- The lowest line that is high and enabled in the words at `ie`, or 0x100 (R35). -/
def State.nextLine (s : State) (ie : Nat) : Nat :=
  ((List.range 256).find? (fun n => s.bitAt ie n && s.line n)).getD 0x100

end Sys2Proof.Machine
end

