-- ==== Sys2Proof/Machine/Record.lean ====
section
/-! DEFINITION. Rosemary: accepting events into the queue and writing records to the ring
(16_rosemary_and_selftest.md R528 to R541). -/
namespace Sys2Proof.Machine

/-- The live operating-second count (15_power_clocks_boot_thermal.md R499, R525): SYS_OPSEC. -/
def State.opsec (s : State) : Word := BitVec.ofNat 32 (s.hpm.ops + (s.now - s.hpm.opsAt) / (1000 * ms))

/-- The time bus (06_thyme_and_pwm.md R198, R199): Thyme, or the AON count in steps of 40 ns while PD_PTA is powered down. -/
def State.busTime (s : State) : Nat :=
  match s.hpm.aonAt with
  | some t => t + (s.now - t) / 512 * 512
  | none => s.now

/-- A timestamp: the low 32 tick bits of the time bus (R199). -/
def State.stamp (s : State) : Nat := lowTicks s.busTime

/-- Thyme at a power-up of PD_PTA (R198): the AON count rounded up to whole ticks. -/
def State.resumed (s : State) : Nat :=
  match s.hpm.aonAt with
  | some t => max s.now ((t + (s.now - t + 511) / 512 * 512 + 31) / 32 * 32)
  | none => (s.now + 31) / 32 * 32

/-- The warden of an island. -/
def State.warden (s : State) (i : Nat) : Warden := Tab.get {} s.wardens i

/-- The warden of an island takes a value. -/
def State.putWarden (s : State) (i : Nat) (w : Warden) : State := s.setWardens (Tab.set {} s.wardens i w)

/-- Is the island's warden in RUN? -/
def State.isRun (s : State) (i : Nat) : Bool := decide ((s.warden i).st = .run)

/-! Links of the fabric (02_islands_and_credits.md R49, R50). -/

/-- The requesters with a register-access link to every island and index 16: APC0, APC1, SAGE, MEM, BIST. -/
def regRequesters : List Nat := [2, 3, 4, 1, 15]

/-- The further links of R50 towards targets other than REC: requester, target, depth. -/
def dataLinks : List (Nat × Nat × Nat) :=
  [(5, 6, 16), (6, 7, 32), (7, 5, 32), (9, 5, 16), (10, 5, 8), (8, 5, 8), (5, 8, 8), (8, 9, 8), (5, 13, 32), (13, 5, 32),
   (12, 4, 8)]

/-- Depth D of the link of a requester towards a target, of a class; 0 where R50 has none. -/
def linkDepth (q i cls : Nat) : Nat :=
  if cls = 0 then
    if regRequesters.contains q && i ≤ 16 then 4
    else match dataLinks.find? (fun l => l.1 == q && l.2.1 == i) with
      | some l => l.2.2
      | none => if i = 14 && 1 ≤ q && q ≤ 15 then 8 else 0
  else if cls = 1 && i = 14 && regRequesters.contains q then 8 else 0

/-- The number of a link. -/
def linkKey (q i cls : Nat) : Nat := cls * 1024 + q * 32 + i

/-- Every link of R50: requester, target, class. -/
def allLinks : List (Nat × Nat × Nat) :=
  (List.range 16).flatMap (fun q => (List.range 17).flatMap (fun i =>
    ([0, 1].filter (fun c => linkDepth q i c != 0)).map (fun c => (q, i, c))))

/-- A link; one nothing has used holds all its credits. -/
def State.link (s : State) (q i cls : Nat) : Link := Tab.get { held := linkDepth q i cls } s.links (linkKey q i cls)

/-- A link takes a value. -/
def State.putLink (s : State) (q i cls : Nat) (l : Link) : State :=
  s.setLinks (Tab.set { held := linkDepth q i cls } s.links (linkKey q i cls) l)

/-- A request that its target accepts and answers within the command: it counts on its link (R68), and the target's clock runs, idle
from now on (R53). -/
def fabUse (q i cls : Nat) (s : State) : State :=
  let l := s.link q i cls
  let s := if linkDepth q i cls = 0 then s else s.putLink q i cls { l with reqs := l.reqs + 1 }
  s.putWarden i { s.warden i with gated := false, idle := s.now }

/-- A warden that is not in RUN answers ABSENT (R54, R68). -/
def fabAbsent (i : Nat) (s : State) : State := s.incr (fFAB_ABSENT_CNT_cnt i)

/-- A block's own item goes to another island: delivered, which is `k`, or answered ABSENT and not delivered (R48, R54). -/
def fabSend (q i cls : Nat) (k : State → State) (s : State) : State :=
  if s.isRun i then k (fabUse q i cls s) else fabAbsent i s

/-- The requester and class of the event link to REC of a block by its code (R50); the islands of SYS, HPM and FAB have none. -/
def eventLink (code inst : Nat) : Option (Nat × Nat) :=
  match allBlocks.find? (fun b => blockCode b == code) with
  | some b =>
    let q := if b = .apc then 2 + inst % 2 else blockIsland b
    if q = 0 then none else some (q, if regRequesters.contains q then 1 else 0)
  | none => none

/-- The number of queue entries (R533, REC_RSTAT.fill). -/
def State.recFill (s : State) : State := s.put fREC_RSTAT_fill s.rosem.queue.length

/-- The entries of the queue that are events. -/
def RecSt.events (r : RecSt) : Nat := (r.queue.filter (fun i => !i.own)).length

/-- A deferral is noted (R536): in the DEFERRED record that waits, or for the next one; the flags rise at the first. -/
def recDefer (full : Bool) (t : Nat) (s : State) : State :=
  let r := s.rosem
  let f := if full then 1 else 0
  let g := if full then 0 else 1
  if r.queue.any (·.own) then
    s.setRosem { r with queue := r.queue.map (fun i =>
      if i.own then { i with dFull := i.dFull + f, dAbs := i.dAbs + g, dLast := t } else i) }
  else
    let first := r.dFull + r.dAbs = 0
    let s := s.setRosem { r with
      dFull := r.dFull + f, dAbs := r.dAbs + g, dFirst := if first then t else r.dFirst, dLast := t }
    if first then (s.irq 0x400D0000 5).errSet 0x400D0000 18 else s

/-- The queue is discarded (R542); deferrals of a DEFERRED record that had not been written wait for the next one (R536). -/
def RecSt.discard (r : RecSt) : RecSt :=
  match r.queue.find? (fun i => i.own && i.code == 2) with
  | some i => { r with queue := [], postLeft := none, dFull := i.dFull, dAbs := i.dAbs, dFirst := i.dFirst, dLast := i.dLast }
  | none => { r with queue := [], postLeft := none }

/-- The DEFERRED record that carries the deferrals noted (R536). -/
def deferredItem (s : State) : RItem :=
  let r := s.rosem
  { own := true, code := 2, time := s.stamp, opsec := s.opsec,
    late := s.on fREC_RSTAT_susp || s.on fREC_RSTAT_frozen,
    dFull := r.dFull, dAbs := r.dAbs, dFirst := r.dFirst, dLast := r.dLast }

/-- The DEFERRED record takes the reserved entry when deferrals wait and the entry is free (R533, R536). -/
def placeDeferred (s : State) : State :=
  let r := s.rosem
  if r.dFull + r.dAbs = 0 || r.queue.any (·.own) then s
  else s.setRosem { r with queue := r.queue ++ [deferredItem s], dFull := 0, dAbs := 0, dFirst := 0, dLast := 0 }

/-- An event request reaches REC (R532, R533, R536): accepted into the queue, or counted as deferred. -/
def recEvent (code block inst time : Nat) (pay : List Byte) (s : State) : State :=
  let t := time % 2 ^ 32
  if !s.isRun 14 then recDefer false t (fabAbsent 14 (s.incr fREC_DEF_ABS_cnt))
  else
    let s := match eventLink block inst with | some (q, c) => fabUse q 14 c s | none => s
    let s := s.incr fREC_EVT_IN_cnt
    if 255 ≤ s.rosem.events then recDefer true t (s.incr fREC_DEF_FULL_cnt)
    else
      let s := placeDeferred s
      let it : RItem := { code := code, block := block, inst := inst, time := t, opsec := s.opsec,
                          late := s.on fREC_RSTAT_susp || s.on fREC_RSTAT_frozen, pay := pay }
      (s.setRosem { s.rosem with queue := s.rosem.queue ++ [it] }).recFill

/-- An event of a block at the present time. -/
def State.record (s : State) (code : Nat) (b : Block) (pay : List Byte) : State :=
  recEvent code (blockCode b) (blockInst b) (s.stamp) pay s

/-- The payload of a record (R534): as it stands, or the counts and times of a DEFERRED record. -/
def RItem.payload (i : RItem) : List Byte :=
  if i.own && i.code == 2 then natBytes 4 i.dFull ++ natBytes 4 i.dAbs ++ natBytes 4 i.dFirst ++ natBytes 4 i.dLast else i.pay

/-- The 64 bytes of a record (R529). -/
def recordBytes (seq pcyc : Word) (i : RItem) : List Byte :=
  let p := (i.payload ++ List.replicate 40 0).take 40
  let b := wordBytes seq ++ wordBytes i.opsec ++ wordBytes pcyc ++ natBytes 4 i.time
    ++ [BitVec.ofNat 8 i.code, BitVec.ofNat 8 i.block, BitVec.ofNat 8 i.inst, if i.late then 1 else 0] ++ p
  b ++ wordBytes (crc32c b)

/-- The address of the slot of a sequence number (R528). -/
def ringSlot (n : Nat) : Nat := 0x10700000 + n % 8192 * 0x40

/-- The ring freezes (R539). -/
def ringFreeze (s : State) : State :=
  let s := (s.raise fREC_RSTAT_frozen).irq 0x400D0000 4
  s.setRosem { s.rosem with postLeft := none, queue := s.rosem.queue.map (fun i => { i with late := true }) }

/-- One record is written into the ring (R528): the bytes, the sequence number and the counts (R537). -/
def ringWrite (i : RItem) (isEvent : Bool) (s : State) : State :=
  let seq := s.rd aREC_SEQ
  let s := s.memBytes (ringSlot seq.toNat) (recordBytes seq (s.rd aSYS_PCYC) i)
  let s := s.incr fREC_SEQ_seq
  if isEvent then s.incr fREC_WR_CNT_cnt else s.incr fREC_SUM_CNT_cnt

/-- The trigger after a record was written (R539): the matching event starts the count, further records run it down. -/
def ringTrigger (i : RItem) (isEvent : Bool) (s : State) : State :=
  match s.rosem.postLeft with
  | some n => if n ≤ 1 then ringFreeze s else s.setRosem { s.rosem with postLeft := some (n - 1) }
  | none =>
    if isEvent && s.on fREC_CFG_trig_en && i.code == s.get fREC_CFG_trig_code then
      let p := s.get fREC_CFG_post
      if p = 0 then ringFreeze s else s.setRosem { s.rosem with postLeft := some p }
    else s

/-- May REC write to the ring now (R531, R538, R539)? -/
def State.recMayWrite (s : State) : Bool :=
  s.isRun 14 && !s.on fREC_RSTAT_scan && !s.on fREC_RSTAT_frozen && !s.on fREC_RSTAT_susp

/-- The oldest queued record goes to the ring (R533, R536, R539). -/
def recordWrite (s : State) : State :=
  if !s.recMayWrite then s
  else match s.rosem.queue with
    | [] => s
    | i :: q =>
      let s := ringWrite i (!i.own) (s.setRosem { s.rosem with queue := q })
      let s := if i.own then placeDeferred s else s
      (ringTrigger i (!i.own) s).recFill

/-- The sequence number of the valid record in a slot (R530). -/
def slotSeq (s : State) (a : Nat) : Option Nat :=
  let b := s.memRead a 60
  if crc32c b = s.mem32 (a + 60) then some (s.mem32 a).toNat else none

/-- The slots of the ring with a byte that is not 0x00; every other slot holds no record (R528). -/
def ringListed (s : State) : List Nat :=
  (s.mem.filter (fun c => 0x10700000 ≤ c.1 && c.1 < 0x10780000)).foldl
    (fun l c => if l.head? = some (c.1 - c.1 % 0x40) then l else (c.1 - c.1 % 0x40) :: l) []

/-- The valid record with the highest sequence number under the wrap rule (R531). -/
def ringHighest (s : State) : Option Nat :=
  (ringListed s).foldl (fun best a =>
    match slotSeq s a, best with
    | none, b => b
    | some x, none => some x
    | some x, some b =>
      let d := (x + 2 ^ 32 - b) % 2 ^ 32
      if 1 ≤ d && d < 2 ^ 31 then some x else some b) none

/-- The search after a device reset ends, and the BOOT record is written (R531, R534). -/
def ringSearch (s : State) : State :=
  if !s.isRun 14 || !s.on fREC_RSTAT_scan then s
  else
    let s := s.wr aREC_SEQ (match ringHighest s with | some h => BitVec.ofNat 32 (h + 1) | none => 0)
    let s := s.lower fREC_RSTAT_scan
    let boot : RItem := {
      own := true, code := 1, time := s.stamp, opsec := s.opsec,
      pay := wordBytes (s.rd aSYS_RST_CAUSE) ++ wordBytes (s.rd aSYS_BOOT_STAT) ++ wordBytes (s.rd aSYS_IMG_VER)
        ++ wordBytes (s.rd aSYS_BOOT_TIME) }
    ringTrigger boot false (ringWrite boot false s)

end Sys2Proof.Machine
end

