-- ==== Sys2Proof/Machine/SageEvent.lean ====
section
/-! DEFINITION. Accessors of the structured state, and delivery of an event to Sage's safe-state manager
(09_sage_and_safe_states.md R333): events wait in an inbox that the same command empties at its end (SafeMgr.lean). -/
namespace Sys2Proof.Machine

/-- A context. -/
def State.ctx (s : State) (k : Nat) : Ctx := Tab.get {} s.ctxs k
def State.putCtx (s : State) (k : Nat) (c : Ctx) : State := s.setCtxs (Tab.set {} s.ctxs k c)
/-- A timebase group. -/
def State.tbg (s : State) (g : Nat) : Tbg := Tab.get {} s.tbgs g
def State.putTbg (s : State) (g : Nat) (t : Tbg) : State := s.setTbgs (Tab.set {} s.tbgs g t)
/-- A leg. -/
def State.leg (s : State) (n : Nat) : Leg := Tab.get {} s.legs n
def State.putLeg (s : State) (n : Nat) (l : Leg) : State := s.setLegs (Tab.set {} s.legs n l)
/-- A machine group. -/
def State.mg (s : State) (m : Nat) : Mg := Tab.get {} s.mgs m
def State.putMg (s : State) (m : Nat) (g : Mg) : State := s.setMgs (Tab.set {} s.mgs m g)
/-- A port of the hub. -/
def State.port (s : State) (p : Nat) : Port := Tab.get {} s.ports p
def State.putPort (s : State) (p : Nat) (x : Port) : State := s.setPorts (Tab.set {} s.ports p x)
/-- A satellite. -/
def State.sat (s : State) (p : Nat) : Sat := Tab.get {} s.sats p
def State.putSat (s : State) (p : Nat) (x : Sat) : State := s.setSats (Tab.set {} s.sats p x)

/-- An event goes to the safe-state manager, marked as a test or not (R330). -/
def toSage (e : Nat) (named : SageName) (test : Bool) (s : State) : State :=
  s.setSage { s.sage with inbox := s.sage.inbox ++ [⟨e, named, test⟩] }

/-- An event of a block, no test (R34). -/
def State.sageEvt (s : State) (e : Nat) (named : SageName) : State := toSage e named false s

/-- The name of a leg, port, context, grid unit, gate channel or any other number. -/
def nLeg (n : Nat) : SageName := .leg ⟨n % 128, Nat.mod_lt _ (by decide)⟩
def nPort (n : Nat) : SageName := .port ⟨n % 32, Nat.mod_lt _ (by decide)⟩
def nCtx (n : Nat) : SageName := .ctx ⟨n % 128, Nat.mod_lt _ (by decide)⟩
def nUnit (n : Nat) : SageName := .unit ⟨n % 8, Nat.mod_lt _ (by decide)⟩
def nGate (n : Nat) : SageName := .gate ⟨n % 256, Nat.mod_lt _ (by decide)⟩
def nOther (n : Nat) : SageName := .other ⟨n % 65536, Nat.mod_lt _ (by decide)⟩

/-- The moment of an event that is due at `t`: Thyme advances to it where it lies ahead (log entry 7). -/
def State.reach (s : State) (t : Nat) : State := if s.now < t then s.setNow t else s

end Sys2Proof.Machine
end

