-- ==== Sys2Proof/Machine/Fabric.lean ====
section
/-! DEFINITION. The handshake fabric: links, credits, wardens, faults (02_islands_and_credits.md R47 to R64). -/
namespace Sys2Proof.Machine

/-! Wardens (R54 to R56). -/

/-- The pages of an island; index 16 is inside the ENG island (R43). -/
def pagesOf (i : Nat) : List Block := allBlocks.filter (fun b => blockIsland b == (if i = 16 then 5 else i))

/-- Every transition sets IRQ_RAW.warden of the island's pages and FAB_IRQ_RAW.isl_chg (R55). -/
def wardenFlags (i : Nat) (s : State) : State :=
  (s.each (pagesOf i) (fun b s => s.irq (hdr b) 3)).irq 0x40010000 7

/-- A reset, reload, power-down or test request reaches a warden (R55, R61): RUN goes to DRAIN and starts T_drain; in any
other state there is no second sequence, but a power-down overrides what is pending. -/
def wardenStart (i : Nat) (p : Purpose) (s : State) : State :=
  let w := s.warden i
  match w.st with
  | .run =>
    wardenFlags i (s.putWarden i { w with st := .drain, purpose := p, since := s.now, limit := s.get (fFAB_TDRAIN_tdrain i) })
  | _ => if p = .powerDown then s.putWarden i { w with purpose := .powerDown } else s

/-- DRAIN ends (R55, R56): RETIRE, and the epoch increments. -/
def enterRetire (i : Nat) (s : State) : State :=
  let w := s.warden i
  wardenFlags i (s.putWarden i { w with st := .retire, epoch := (w.epoch + 1) % 65536, since := s.now })

/-- A fabric fault on a link (R64): kind 1 audit mismatch, 2 reply without tag, 3 second reply, 4 RETIRE over 2 µs. -/
def fabricFault (kind q i cls : Nat) (s : State) : State :=
  let s := (s.errSet 0x40010000 16).irq 0x40010000 4
  let s := if s.on fFAB_AUDIT_FAIL_valid then s.incrSat fFAB_AUDIT_FAIL_cnt
    else ((((s.raise fFAB_AUDIT_FAIL_valid).put fFAB_AUDIT_FAIL_cls cls).put fFAB_AUDIT_FAIL_req q).put
      fFAB_AUDIT_FAIL_tgt i).put fFAB_AUDIT_FAIL_cnt 1
  let l := s.link q i cls
  let s := s.record 0x10 .fab ([q, i, kind, cls].map (BitVec.ofNat 8)
    ++ [BitVec.ofNat 8 l.aOutst, BitVec.ofNat 8 l.aSlots, BitVec.ofNat 8 l.aBuf, BitVec.ofNat 8 l.aCred])
  s.sageEvt 0 (nOther (q * 256 + i))

/-- A conservation violation of a block is handled as a fabric fault event (R67). -/
def conservationEvent (b : Block) (s : State) : State :=
  s.sageEvt 0 (nOther (blockCode b))

/-- The target warden of a request that is accepted or answered ABSENT (R47, R53, R54). -/
def fabArrival (q i : Nat) (cls tag ep : Nat) (idw : Bool) (a : Nat) (s : State) : State :=
  let d := linkDepth q i cls
  let l := s.link q i cls
  -- the requester sends only with a credit and a free reply slot (R49)
  if d = 0 || l.held = 0 || d ≤ l.slots then s
  else
    let w := s.warden i
    match w.st with
    | .run =>
      let s := s.putLink q i cls { l with
        held := l.held - 1, buf := l.buf + 1, slots := l.slots + 1, outst := l.outst ++ [(tag, ep)], reqs := l.reqs + 1 }
      s.putWarden i { w with accepted := w.accepted ++ [{ src := q, urg := cls == 1, tag := tag, ep := ep, a := a }], gated := false, idle := s.now }
    | _ =>
      if idw then s
      else
        let s := fabAbsent i s
        -- an event to REC that is answered ABSENT counts as deferred (R536)
        if i = 14 && d = 8 then recDefer false (s.stamp) (s.incr fREC_DEF_ABS_cnt) else s

/-- The accepted requests of a link, oldest first. -/
def State.accOn (s : State) (q i cls : Nat) : List FabReq := (s.warden i).accepted.filter (fun r => r.src == q && r.urg == (cls == 1))

/-- The target answers the oldest accepted request of a link: its buffer slot and credit come back (R49, R52). -/
def fabAnswer (q i cls tag ep : Nat) (s : State) : State :=
  let w := s.warden i
  match (s.accOn q i cls).head? with
  | some r =>
    if r.tag = tag && r.ep = ep then
      let l := s.link q i cls
      let s := s.putLink q i cls { l with held := l.held + 1, buf := l.buf - 1 }
      s.putWarden i { w with accepted := w.accepted.erase r, idle := s.now }
    else s
  | none => s

/-- A reply of target `i` reaches the warden of requester `q` (R57): delivered, discarded, or a fabric fault. -/
def fabDeliver (q i cls tag ep : Nat) (s : State) : State :=
  let s := fabAnswer q i cls tag ep s
  let l := s.link q i cls
  let w := s.warden q
  let free (s : State) : State :=
    s.putLink q i cls { l with slots := l.slots - 1, outst := l.outst.erase (tag, ep), lastDone := some (tag, ep) }
  if ep ≠ w.epoch || w.st = .retire || w.st = .absent then
    let s := s.incr (fFAB_DISCARD_CNT_cnt q)
    if l.outst.contains (tag, ep) then free s else s
  else if l.outst.contains (tag, ep) then free s
  else fabricFault (if l.lastDone = some (tag, ep) then 3 else 2) q i cls s

/-- REPLY: replies of a link arrive in the order of its requests (R52), so none arrives while an older request is unanswered. -/
def fabReply (q i cls tag ep : Nat) (s : State) : State :=
  let l := (s.accOn q i cls).map (fun r => (r.tag, r.ep))
  if l.head? ≠ some (tag, ep) && l.contains (tag, ep) then s else fabDeliver q i cls tag ep s

/-- What the requester of a register access sees of RETIRED (R47): an access fault, or code 0x06 on the HRP. -/
def retiredSeen (q a : Nat) (s : State) : State :=
  let b := { s.bus with kind := .retired, data := 0 }
  match q with
  | 1 => ((s.setBus { b with who := .hrp }).put fHRP_LAST_code 6).wr aHRP_LAST_ADDR (BitVec.ofNat 32 a)
  | 2 => s.setBus { b with who := .apc0, trap0 := a }
  | 3 => s.setBus { b with who := .apc1, trap1 := a }
  | 4 => s.setBus { b with who := .sage }
  | _ => s

/-- Does a reply of an epoch reach an island's own requests (R54, R57)? -/
def State.takesReply (s : State) (q ep : Nat) : Bool :=
  let w := s.warden q
  w.epoch == ep && w.st != .retire && w.st != .absent

/-- RETIRE's replies (R56): one RETIRED reply for every accepted request, one credit for every slot. -/
def retireReplies (i : Nat) (s : State) : State :=
  let w := s.warden i
  let s := s.each w.accepted (fun r s =>
    let cls := if r.urg then 1 else 0
    let l := s.link r.src i cls
    let s := s.putLink r.src i cls { l with
      held := l.held + 1, buf := l.buf - 1, slots := l.slots - 1, outst := l.outst.erase (r.tag, r.ep), lastDone := some (r.tag, r.ep) }
    let s := s.incr (fFAB_RETIRED_CNT_cnt i)
    -- the requester discards it when its own epoch has advanced (R57)
    let s := if !s.takesReply r.src r.ep then s.incr (fFAB_DISCARD_CNT_cnt r.src)
      else if r.urg then s else retiredSeen r.src r.a s
    if i = 14 && (r.urg || linkDepth r.src 14 0 == 8) then recDefer false (s.stamp) (s.incr fREC_DEF_ABS_cnt) else s)
  s.putWarden i { w with accepted := [] }

/-- The two equalities of R63 hold on a link. -/
def linkBalanced (d : Nat) (l : Link) : Bool := l.held + l.flight + l.buf + l.back == d && l.slots == l.outst.length

/-- Items that blocks have put on their links and that have not arrived (R49, R50): compare sets, records for Basil by their
source, conversions for the GIU, safe messages. What exceeds the credits waits at the requester. -/
def State.onLink (s : State) (q i : Nat) : Nat :=
  let rx (n : Nat) : Nat := (s.basil.rx.filter (fun x => x.src == n)).length
  match q, i with
  | 5, 6 => s.tbgs.foldl (fun n x => n + x.2.wire.length) 0
  | 7, 5 => rx 0
  | 9, 5 => rx 1
  | 10, 5 => rx 2
  | 8, 5 => rx 3
  | 8, 9 => s.adcs.foldl (fun n x => n + ((x.2.urgQ ++ x.2.normQ).filter (fun r => r.src == 1)).length
      + x.2.slices.foldl (fun n y => n + (y.2.filter (fun c => c.req.src == 1)).length) 0) 0
  | 12, 4 => s.msio.sm.foldl (fun n x => n + x.2.rx.length) 0
  | _, _ => 0

/-- One audit of every link (R63): the figures are taken, and a mismatch is a fabric fault. An item on a link holds a credit and a
reply slot. -/
def creditAudit (s : State) : State :=
  let s := s.each allLinks (fun (q, i, c) s =>
    let l := s.link q i c
    let n := if c = 0 then min l.held (s.onLink q i) else 0
    let s := s.putLink q i c { l with
      aCred := l.held - n, aBuf := l.buf, aSlots := l.slots + n, aOutst := l.outst.length + n }
    if linkBalanced (linkDepth q i c) l then s else fabricFault 1 q i c s)
  s.incr fFAB_AUDIT_PASS_cnt

/-- The island clock period in fine ticks (R43), rounded up. -/
def islandPeriod (i : Nat) : Nat :=
  match i with
  | 0 => 512 | 1 => 128 | 2 => 32 | 3 => 32 | 4 => 64 | 5 => 32 | 6 => 32 | 7 => 103 | 8 => 64 | 9 => 80 | 10 => 32
  | 11 => 128 | 12 => 160 | 13 => 82 | 14 => 128 | 15 => 128 | _ => 32

/-- The warden leaves ABSENT for RUN: island buffers empty, credits full (R55). -/
def wardenRun (i : Nat) (s : State) : State :=
  let w := s.warden i
  wardenFlags i (s.putWarden i { w with st := .run, purpose := .none, since := s.now, pdown := false, gated := false, idle := s.now })

end Sys2Proof.Machine
end

