-- ==== Sys2Proof/Machine/Hub.lean ====
section
/-! DEFINITION. The parts of the NDL hub that the rest of the device uses: edges handed over, retraction, FORCE cells
(08_ndotar_drive_link.md R276 to R296). -/
namespace Sys2Proof.Machine

/-- Port state codes (R277). -/
def pOff : Nat := 0
def pTrain : Nat := 1
def pCaps : Nat := 2
def pTset : Nat := 3
def pUp : Nat := 4
def pLoss : Nat := 5

/-- The state of a port. -/
def State.portState (s : State) (p : Nat) : Nat := s.get (fNDL_STAT_state p)
def State.portUp (s : State) (p : Nat) : Bool := s.portState p == pUp

/-- Port and slot of a leg (00_scope.md R4). -/
def legPort (n : Nat) : Nat := n / 4
def legSlot (n : Nat) : Nat := n % 4
/-- Gate channel of a side of a leg (R4). -/
def gateOf (n : Nat) (ls : Bool) : Nat := 2 * n + (if ls then 1 else 0)

/-- Every leg. -/
def allLegs : List Nat := List.range 128
/-- A leg's effective fields (06_thyme_and_pwm.md R236). -/
def State.legEn (s : State) (n : Nat) : Bool := s.on (fLEG_CFG_en n)
def State.legMg (s : State) (n : Nat) : Nat := s.get (fLEG_CFG_mg n)
def State.legTbg (s : State) (n : Nat) : Nat := s.get (fLEG_CFG_tbg n)
def State.legMode (s : State) (n : Nat) : Nat := s.get (fLEG_CFG_mode n)
def State.legDt (s : State) (n : Nat) : Nat := s.get (fLEG_CFG_dt n)
/-- The enabled member legs of a machine group (R5). -/
def State.members (s : State) (m : Nat) : List Nat := allLegs.filter (fun n => s.legEn n && s.legMg n == m)
/-- The enabled legs of a timebase group. -/
def State.groupLegs (s : State) (g : Nat) : List Nat := allLegs.filter (fun n => s.legEn n && s.legTbg n == g)
/-- State and type of a machine group (R226, R237). -/
def State.mgState (s : State) (m : Nat) : Nat := s.get (fMG_STAT_state m)
def State.mgType (s : State) (m : Nat) : Nat := s.get (fMG_CFG_type m)
/-- ASC-L, ASC-H or PULSE-OFF; DISCHARGE is none of them (R62, R325). -/
def inHold (x : Nat) : Bool := x == 1 || x == 2 || x == 3
/-- Every enabled machine group, that is one with enabled legs, is in ASC-L, ASC-H or PULSE-OFF (R62, R331). -/
def State.allHeld (s : State) : Bool := allLegs.all (fun n => !s.legEn n || inHold (s.mgState (s.legMg n)))

/-- The paired ports (10_lovage_pairing.md R361). -/
def State.pairedPorts (s : State) : List Nat := bitsOf 32 (s.use aPAIR_PORTS).toNat
/-- The port is UP and shows this chip's token. -/
def State.tokHere (s : State) (p : Nat) : Bool := s.portUp p && s.on (fNDL_STAT_tok p)
/-- The chip's role (10_lovage_pairing.md R363): 0 MIRROR, 1 PRIME, 2 PARTIAL, 3 NONE. -/
def State.role (s : State) : Nat :=
  if !s.on fPAIR_CFG_en then 3
  else if s.pairedPorts.all (fun p => !s.tokHere p) then 0
  else if s.pairedPorts.all s.tokHere then 1 else 2

/-- A port of a pair on the chip in role MIRROR (10_lovage_pairing.md R373): only maintenance cells are sent on it. A port
whose satellite shows this chip's token is none (DEDUCED, log entry 35: it could never reach UP, R363). -/
def State.mirrorPort (s : State) (p : Nat) : Bool :=
  s.role == 0 && s.bitAt aPAIR_PORTS p && !((s.port p).tokKnown && s.on (fNDL_STAT_tok p))

/-- A machine group with an enabled leg on a paired port (10_lovage_pairing.md R361). -/
def State.pairedGroup (s : State) (m : Nat) : Bool := (s.members m).any (fun n => s.bitAt aPAIR_PORTS (legPort n))

/-- A paired group on the chip in role MIRROR (10_lovage_pairing.md R373). -/
def State.mirrorGroup (s : State) (m : Nat) : Bool := s.role == 0 && s.pairedGroup m

/-- Pair time minus Thyme, in fine ticks (10_lovage_pairing.md R374): the hub's times are in pair time. -/
def State.delta (s : State) : Int := s.pair.delta
def State.toPair (s : State) (t : Nat) : Nat := ((t : Int) + s.delta).toNat
def State.ofPair (s : State) (t : Nat) : Nat := ((t : Int) - s.delta).toNat

/-- A port's link state takes a value. -/
def State.putLk (s : State) (p : Nat) (l : LinkSt) : State := s.putPort p { s.port p with lk := l }

/-- A cell the role and state of the port let the hub send (R277, R373). -/
def State.mayHand (s : State) (p : Nat) (c : Cell) : Bool :=
  let st := s.portState p
  let base := match c with
    | .edge _ _ | .retract _ _ | .sampleReq _ _ _ | .hintReact _ _ | .hintPeriod _ _ | .force _ _ _ _ _ _ => st == pUp
    | .probe _ | .adjust _ _ | .syncSet => st == pTset || st == pUp
    | _ => st == pCaps || st == pTset || st == pUp
  let mir := match c with
    | .probe _ | .cfgRd _ | .token _ => true
    | .cfgWr a _ => a == 0x10 || a == 0x24
    | _ => false
  base && (!s.mirrorPort p || mir)

/-- A cell becomes ready at the hub. -/
def hubReady (p : Nat) (c : Cell) (due : Option Nat) (s : State) : State :=
  if s.mayHand p c then
    let l := (s.port p).lk
    s.putLk p { l with ready := l.ready ++ [{ cell := c, due := due }] }
  else s

/-- The hub counts an edge as retracted (R291, R309). -/
def countRetracted (p : Nat) (s : State) : State := s.incr (fNDL_RETRACT_CNT_cnt p)

/-- An edge reaches the hub (R278, R285): counted as retracted on a port that is not UP. -/
def hubEdge (n : Nat) (e : Edge) (s : State) : State :=
  let p := legPort n
  if !s.isRun 7 then countRetracted p (fabAbsent 7 s)
  else
  let s := fabUse 6 7 0 s
  if !s.portUp p then countRetracted p s
  else if s.mirrorPort p then s
  else hubReady p (.edge n e) (some (e.t - 32 * s.get (fNDL_LEAD_lead p))) s

/-- A sample instant reaches the hub; instants of the same time on a port share a cell (R297). -/
def hubSample (p t mask : Nat) (s : State) : State :=
  if !s.isRun 7 then fabAbsent 7 s
  else
  let s := fabUse 6 7 0 s
  if !s.portUp p || s.mirrorPort p then s
  else
    let x := s.port p
    let d := s.get (fNDL_TEL_CFG_chk_div p)
    let same (r : RCell) : Bool := match r.cell with | .sampleReq t' _ _ => t' == t | _ => false
    if x.lk.ready.any same then
      s.putLk p { x.lk with ready := x.lk.ready.map (fun r =>
        match r.cell with
        | .sampleReq t' k c => if t' == t then { r with cell := .sampleReq t (k ||| mask) c } else r
        | _ => r) }
    else
      let c := x.chkCnt + 1
      let chk := d != 0 && c ≥ d
      hubReady p (.sampleReq t mask chk) (some (t - 32 * s.get (fNDL_LEAD_lead p)))
        (s.putPort p { x with chkCnt := if chk then 0 else c })

/-- Sequence numbers of unacknowledged cells after one was withdrawn (R293). -/
def renumber (b : Nat) : List SCell → List SCell
  | [] => []
  | c :: r => { c with seq := b % 16 } :: renumber (b + 1) r

/-- The hub retracts one edge of a leg (R289, R293). -/
def hubRetract (n : Nat) (e : Edge) (s : State) : State :=
  let p := legPort n
  let x := s.port p
  let isE (c : Cell) : Bool := c == .edge n e
  if x.lk.ready.any (fun r => isE r.cell) then
    countRetracted p (s.putLk p { x.lk with ready := x.lk.ready.eraseP (fun r => isE r.cell) })
  else if x.lk.resend.any (fun r => isE r.cell) then
    let u := x.lk.unack.eraseP (fun r => isE r.cell)
    let b := (x.lk.unack.head?.map (·.seq)).getD x.lk.txSeq
    let u' := renumber b u
    let s := s.putPort p { x with
      edges := x.edges.erase (n, e),
      lk := { x.lk with unack := u', txSeq := (b + u'.length) % 16,
                        resend := u'.filter (fun c => x.lk.resend.any (fun r => r.cell == c.cell)) } }
    countRetracted p (s.put (fNDL_STAT_cred p) (s.get (fNDL_STAT_cred p) + 1))
  else if x.edges.contains (n, e) && s.now < e.t then hubReady p (.retract n e) none s
  else s

/-- The pending edges of a leg that lie after the present moment. -/
def State.pendAfter (s : State) (n : Nat) : List Edge := (s.leg n).pend.filter (fun e => s.now < e.t)

/-- The commanded level of a side of a leg at the present moment: it follows from the next edge of that side. -/
def State.levelNow (s : State) (n : Nat) (ls : Bool) : Bool :=
  match (s.pendAfter n).find? (fun e => e.ls == ls) with
  | some e => !e.on
  | none => if ls then (s.leg n).lsOn else (s.leg n).hsOn

/-- When a side of a leg is turned off now: the moment from which it is off. -/
def State.offSince (s : State) (n : Nat) (ls : Bool) : Option Nat :=
  if s.levelNow n ls then some s.now
  else
    let l := s.leg n
    match (l.pend.filter (fun e => e.ls == ls && !e.on && e.t ≤ s.now)).getLast? with
    | some e => some e.t
    | none => ((if ls then l.lsOff else l.hsOff).filter (fun t => t ≤ s.now))

/-- Every pending edge of a leg before `lim` is retracted (R289). -/
def retractLeg (n : Nat) (lim : Option Nat) (s : State) : State :=
  let hit (e : Edge) : Bool := decide (s.now < e.t) && (match lim with | some b => decide (e.t < b) | none => true)
  let es := (s.leg n).pend.filter hit
  let s := s.putLeg n { s.leg n with pend := (s.leg n).pend.filter (fun e => !hit e) }
  s.each es (fun e s => hubRetract n e s)

/-- The slots of a mask that are not in another. -/
def maskMinus (a b : Nat) : Nat := (bitsOf 4 a).foldl (fun x i => if b / 2 ^ i % 2 == 1 then x else x + 2 ^ i) 0

/-- A FORCE for slots of a port is sent twice (R276, R294, R296); a newer FORCE ends the resending of an older one for
the same slots. Nothing is sent on a port that is not UP or that a mirror holds. -/
def hubForce (p mask pat : Nat) (indef : Bool) (dly fin : Nat) (s : State) : State :=
  if mask = 0 || !s.portUp p || s.mirrorPort p then s
  else
    let x := s.port p
    let id := x.forceId
    let old := (x.force.map (fun f => { f with mask := maskMinus f.mask mask })).filter (fun f => f.mask != 0)
    let c : Cell := .force id mask pat indef dly fin
    s.putPort p { x with
      forceId := (id + 1) % 16,
      force := old ++ [{ id := id, mask := mask, pat := pat, indef := indef, dly := dly, fin := fin, last := s.now }],
      lk := { x.lk with ready := x.lk.ready ++ [{ cell := c }, { cell := c }] } }

/-- The pattern code of a slot for a machine-group state (R294): ASC-L 0b01, ASC-H 0b10, both off otherwise. -/
def patOf (st : Nat) : Nat := if st = 1 then 1 else if st = 2 then 2 else 0

/-- The two bits of a slot in a pattern. -/
def patBits (slot v : Nat) : Nat := v * 4 ^ slot

/-- The ports that carry a leg of a list. -/
def portsOf (ls : List Nat) : List Nat := (List.range 32).filter (fun p => ls.any (fun n => legPort n == p))

/-- One FORCE for each port that carries legs of a list, the same pattern for each leg (R251, R296); `dly` in 10 ns units
is raised to the satellite's dt_sat. -/
def forceLegs (ls : List Nat) (v : Nat) (indef : Bool) (dly : Nat) (fin : Nat → Nat) (s : State) : State :=
  s.each (portsOf ls) (fun p s =>
    let here := ls.filter (fun n => legPort n == p)
    let mask := here.foldl (fun x n => x ||| 2 ^ legSlot n) 0
    let pat := here.foldl (fun x n => x ||| patBits (legSlot n) v) 0
    hubForce p mask pat indef (min 511 (max dly ((s.rd (aNDL_SAT_CAPS p)).fld 16 8))) (fin p) s)

/-- A time in fine ticks in units of 10 ns, rounded up. -/
def to10ns (t : Nat) : Nat := (t + 127) / 128

/-- A write of NDL[p]_TOKEN, by software or PAIR (R312, R319): op 1 CLAIM, 2 GIVE, 3 QUERY. -/
def tokenOp (p op : Nat) (s : State) : State :=
  let st := s.portState p
  if s.on (fNDL_TOK_STAT_busy p) || op = 0 || st = pOff || st = pTrain || st = pLoss then s.raise (fNDL_TOK_STAT_ref p)
  else hubReady p (.token op) none ((s.lower (fNDL_TOK_STAT_ref p)).raise (fNDL_TOK_STAT_busy p))

/-- A write of a satellite register goes to the hub's queue (R279, R301, R315). -/
def hubCfgWr (p a : Nat) (d : Word) (s : State) : State := hubReady p (.cfgWr a d) none s

end Sys2Proof.Machine
end

