-- ==== Sys2Proof/Machine/PairRec.lean ====
section
/-! DEFINITION. The bytes of a record on the pair link (10_lovage_pairing.md R365, R366). -/
namespace Sys2Proof.Machine

/-- What a record's type fixes of its bytes: its code, flags, index, info and payload (R365, R366). -/
structure PForm where
  code : Nat
  flags : Nat := 0
  index : Nat := 0
  info : Nat := 0
  pay : List Byte := []

/-- The entry of a leg in a SET record: 8 bytes, in INDEP mode 8 more for its low-side compares. -/
def setEntry8 (indep : Bool) (x : LegSet) : List Byte :=
  let four (w : Word) : List Byte := wordBytes (w &&& 0x1FFFFFFF)
  four x.on ++ four x.off ++ (if indep then four x.lon ++ four x.loff else [])

/-- The form of a record; `run` says whether a context is in RUN, `indep` whether a leg is in INDEP mode. -/
def PRec.form (run indep : Nat → Bool) : PRec → PForm
  | .heart t groups => { code := 1, info := t, pay := natBytes 16 (groups.foldr (fun x n => x % 8 + 8 * n) 0) }
  | .probe => { code := 2 }
  | .resp a2 turn => { code := 2, info := 1, pay := natBytes 8 (a2 / 32) ++ natBytes 1 (a2 % 32) ++ natBytes 2 turn }
  | .mirror k step img outs =>
    { code := 3, flags := if run k then 2 else 0, index := k, info := step.toNat, pay := (img ++ outs).flatMap wordBytes }
  | .seal k step r => { code := 4, flags := if r then 2 else 0, index := k, info := step.toNat }
  | .cancel k step => { code := 5, index := k, info := step.toNat }
  | .set g gen t per part parts legs =>
    { code := 6, flags := gen, index := g, info := t,
      pay := natBytes 4 per ++ [(legs.head?.map (·.leg.val)).getD 0, legs.length, part, parts].map (BitVec.ofNat 8)
        ++ legs.flatMap (fun x => setEntry8 (indep x.leg.val) x) }
  | .check v => { code := 7, info := 1, pay := v.flatMap wordBytes }
  | .ctrl op => { code := 7, info := op }
  | .bulk k step r img outs =>
    { code := 8, flags := if r then 2 else 0, index := k, info := step.toNat, pay := (img ++ outs).flatMap wordBytes }

/-- The bytes of a record with its sequence number, padded to whole blocks; flags[0] says that the sender is PRIME, but in SET the
flags are the generation. The CRC-32C is taken over the record with its own four bytes 0 (R365). -/
def PForm.bytes (f : PForm) (seq : Nat) (prime : Bool) : List Byte :=
  let n := (16 + f.pay.length + 15) / 16
  let flags := if f.code = 6 then f.flags else f.flags + (if prime then 1 else 0)
  let head := [f.code, flags].map (BitVec.ofNat 8) ++ natBytes 2 seq ++ natBytes 2 n ++ natBytes 2 f.index ++ natBytes 4 f.info
  let tail := f.pay ++ List.replicate (16 * n - 16 - f.pay.length) 0
  head ++ wordBytes (crc32c (head ++ [0, 0, 0, 0] ++ tail)) ++ tail

end Sys2Proof.Machine
end

