-- ==== Sys2Proof/Machine/CtxBase.lean ====
section
/-! DEFINITION. Contexts as the rest of the device sees them: the context area (03_basil_control_engine.md R75), sealing
counters, the trace ring (R108) and cancellation (R93). -/
namespace Sys2Proof.Machine

/-- Context area k (R75). -/
def cArea (k : Nat) : Nat := 0x30000000 + k * 0x800
/-- A word of a context area. -/
def State.cw (s : State) (k ofs : Nat) : Word := s.mem32 (cArea k + ofs)
def State.putCw (s : State) (k ofs : Nat) (v : Word) : State := s.memPut (cArea k + ofs) v
/-- A field of the context window of context k. -/
abbrev cf (k : Nat) (f : Fld) : Fld := ⟨inst k f.addr, f.lo, f.w⟩

/-- The fields of CTX_W_CFG and CTX_W_LEGS, homed in the descriptor (R75, R113). -/
def State.cKid (s : State) (k : Nat) : Nat := (s.cw k 0).fld 24 8
def State.cSets (s : State) (k : Nat) : Nat := (s.cw k 0).fld 22 2 + 1
def State.cPriv (s : State) (k : Nat) : Bool := (s.cw k 0).fld 21 1 == 1
def State.cPg (s : State) (k : Nat) : Bool := (s.cw k 0).fld 20 1 == 1
def State.cMg (s : State) (k : Nat) : Option Nat := if (s.cw k 0).fld 14 1 = 1 then some ((s.cw k 0).fld 15 5) else none
def State.cTbg (s : State) (k : Nat) : Option Nat := if (s.cw k 0).fld 8 1 = 1 then some ((s.cw k 0).fld 9 5) else none
def State.cLegs (s : State) (k : Nat) : List Nat :=
  let f := (s.cw k 4).fld 0 7
  (List.range ((s.cw k 4).fld 8 4)).map (fun i => (f + i) % 128)

/-- Every context. -/
def allCtx : List Nat := List.range 128
/-- The contexts that are not OFF. -/
def State.liveCtx (s : State) : List Nat := allCtx.filter (fun k => (s.ctx k).st != .off)
/-- The contexts of a machine group. -/
def State.ctxOfMg (s : State) (m : Nat) : List Nat := s.liveCtx.filter (fun k => s.cMg k == some m)
/-- The context that drives a timebase group (06_thyme_and_pwm.md R217). -/
def State.kernCtx (s : State) (g : Nat) : Option Nat := s.liveCtx.find? (fun k => s.cTbg k == some g)
/-- Is the group kernel-driven (R217)? -/
def State.kern (s : State) (g : Nat) : Bool := (s.kernCtx g).isSome

/-- The value the register at an address holds once the windows handed over have begun: the latest taken one, else the value
the device uses (06_thyme_and_pwm.md R211, R212). -/
def State.comes (s : State) (a : Nat) : Word :=
  match (s.tbgs.flatMap (fun x => x.2.taken.reverse.flatMap (·.vals))).find? (fun v => v.1 == a) with
  | some v => v.2
  | none => s.use a

/-- Is the context mirrored (10_lovage_pairing.md R368)? -/
def State.mirCtx (s : State) (k : Nat) : Bool := s.bitAt (aPAIR_CTX_EN 0) k

/-- A byte of CTX_W_CNT_EVT counts, saturating at 255 (R75, R113). -/
def cntEvt (k lo : Nat) (s : State) : State :=
  let w := s.cw k 0x7C4
  s.putCw k 0x7C4 (w.ins lo 8 (min (w.fld lo 8 + 1) 255))

/-- A source of CTX_W_IRQ_RAW is set. -/
def ctxIrq (k i : Nat) (s : State) : State := s.raise ⟨inst k aCTX_W_IRQ_RAW, i, 1⟩

/-- An entry of the trace ring (R108). -/
def traceEntry (k cause : Nat) (step : Word) (t cyc : Nat) (outs : List Word) (s : State) : State :=
  let w := s.use aENG_TRACE_CFG
  let on := [(31, 24), (23, 16), (15, 8), (7, 0)].any (fun (e, c) => w.fld e 1 == 1 && w.fld c 7 == k)
  if !on then s
  else
    let i := s.get fENG_TRACE_WP_wp
    let o := (outs ++ [0, 0, 0, 0]).take 4
    let s := s.memPutWords (0x30060000 + 32 * i)
      ([BitVec.ofNat 32 (k + cause * 256), step, BitVec.ofNat 32 (lowTicks t), BitVec.ofNat 32 cyc] ++ o)
    s.put fENG_TRACE_WP_wp ((i + 1) % 2048)

/-- The bytes of the next record that PAIR sends (10_lovage_pairing.md R365, R366). -/
def State.recBytes (s : State) (r : PRec) : List Byte :=
  (r.form (fun k => (s.ctx k).st == .run) (fun n => s.legMode n == 4)).bytes s.pair.seqTx (s.role == 1)

/-- A record is sent on the pair link (10_lovage_pairing.md R365, R390). -/
def pairTx (r : PRec) (s : State) : State :=
  let p := s.pair
  (s.setPair { p with
    txq := p.txq ++ [(p.seqTx, r)], last := s.recBytes r, seqTx := (p.seqTx + 1) % 65536 }).incr fPAIR_TX_CNT_cnt

/-- A record of Basil reaches PAIR over the fabric (02_islands_and_credits.md R50). -/
def engToPair (r : PRec) (s : State) : State := fabSend 5 13 0 (pairTx r) s

/-- Is the pair link mirroring from this chip (10_lovage_pairing.md R364)? -/
def State.mirroring (s : State) : Bool := s.get fPAIR_STATE_link == 3 && s.role == 1

/-- An entry of a leg's predicted-sample ring (04_machine_control.md R153). -/
def predEntry (step : Nat) (p : PredV) (s : State) : State :=
  s.memPutWords (0x30070000 + p.leg * 0x200 + step % 32 * 16)
    [BitVec.ofNat 32 step, BitVec.ofNat 32 (lowTicks p.at_), p.val,
     BitVec.ofNat 32 (p.form % 256 + p.cnt % 256 * 256 + min p.win 0xFFFF * 65536)]

/-- A mirrored context that leaves RUN sends a SEAL of its last sealed step with its RUN flag clear (10_lovage_pairing.md
R368). -/
def leaveRun (k : Nat) (s : State) : State :=
  if s.mirCtx k && s.mirroring && (s.ctx k).st = .run then engToPair (.seal k (BitVec.ofNat 32 (s.ctx k).sealNo) false) s else s

/-- Word 0 of a binding slot and its fields (R77). -/
def State.slotW (s : State) (k j : Nat) : Word := s.cw k (0x40 + 8 * j)
def State.slotType (s : State) (k j : Nat) : Nat := (s.slotW k j).fld 28 4
def State.slotInst (s : State) (k j : Nat) : Nat := (s.slotW k j).fld 16 8
def State.slotSel (s : State) (k j : Nat) : Nat := (s.slotW k j).fld 8 8
def State.slotBound (s : State) (k j : Nat) : Bool := s.slotType k j != 0

/-- The high-side on-time of a leg in an interval, as its edges were emitted (04_machine_control.md R134). -/
def Leg.onTime (l : Leg) (a b : Nat) : Nat :=
  (l.onIv.filter (fun (x, y) => x < b && a < y)).foldl (fun t (x, y) => t + (min y b - max x a)) 0

/-- The group of a context is in a safe state (R105). -/
def State.mgSafe (s : State) (k : Nat) : Bool := match s.cMg k with | some m => s.mgState m != 0 | none => false
/-- May a context emit compare sets (R105): its group is in no safe state, or in DISCHARGE in WINDING mode? -/
def State.setLive (s : State) (k : Nat) : Bool :=
  !s.mgSafe k || (match s.cMg k with | some m => s.mgState m == 4 && (s.mg m).dis == 1 | none => false)

/-! Sample points and instants (R81). -/

/-- Fields of CTX_W_TRIG and CTX_W_TIMER, homed in the descriptor (R75, R113). -/
def State.cDecim (s : State) (k : Nat) : Nat := (s.cw k 8).fld 12 8 + 1
def State.cPts (s : State) (k : Nat) : Nat := (s.cw k 8).fld 10 2
def State.cTrigTbg (s : State) (k : Nat) : Nat := (s.cw k 8).fld 5 5
def State.cSrc (s : State) (k : Nat) : Nat := (s.cw k 8).fld 0 2
def State.cTimer (s : State) (k : Nat) : Nat := (s.cw k 12).fld 0 22

/-- A group's period in fine ticks (R202). -/
def State.periodF (s : State) (g : Nat) : Nat := 32 * s.get (fTBG_PERIOD_t g)
/-- The sample points of the triggering group that a context takes in a period of that length, from its start (R81). -/
def State.cOffs (s : State) (k p : Nat) : List Nat :=
  let x := s.cPts k
  (if x % 2 = 1 then [0] else []) ++ (if 2 ≤ x && s.get (fTBG_CFG_mode (s.cTrigTbg k)) = 2 then [p / 2] else [])
/-- How many they are. -/
def State.cPoints (s : State) (k : Nat) : Nat := (s.cOffs k 0).length

/-- The next sample instant of a context of source TBG or TIMER (R81): of the points after the previous instant every decim-th, the
first one after a START. -/
def State.nextInstant (s : State) (k : Nat) : Option Nat :=
  let c := s.ctx k
  if s.cSrc k = 1 then some c.nextAt
  else if s.cSrc k ≠ 0 then none
  else
    let g := s.cTrigTbg k
    let p := s.periodF g
    let os := s.cOffs k p
    if !s.on (fTBG_STAT_run g) || os.isEmpty || p = 0 then none
    else
      let b := (s.tbg g).b
      let here := (os.map (b + ·)).filter (c.tPrev < ·)
      let n := if c.startPend then 0 else s.cDecim k - 1 - c.seen
      let j := n - here.length
      some (if n < here.length then here.getD n 0 else b + p + j / os.length * p + os.getD (j % os.length) 0)

/-- A period of the triggering group ends, from `a` to `b`: its points after the previous instant have been counted (R81). -/
def countPoints (k a b : Nat) (s : State) : State :=
  let c := s.ctx k
  if s.cSrc k ≠ 0 || c.st ≠ .run then s
  else s.putCtx k { c with seen := c.seen + ((s.cOffs k (b - a)).filter (fun o => c.tPrev < a + o)).length }

/-! Lanes (R69, R112). -/

/-- The lane-cycles of a lane up to a moment are booked (R112); both lanes of a privileged step count. -/
def bookLane (i t : Nat) (s : State) : State :=
  let x : Lane := Tab.get {} s.lanes i
  let e := max x.booked (min t x.endAt)
  if x.ctx.isNone then s
  else (s.setLanes (Tab.ins s.lanes i { x with booked := e })).setBasil { s.basil with cycles := s.basil.cycles + (e - x.booked) / 32 }

/-- Does a lane run the present step of a context? -/
def Lane.runs (x : Lane) (k : Nat) : Bool := x.ctx == some k && !x.dead

/-- The lane-cycles that the present step of a context has used on its lane (R108). -/
def State.laneUsed (s : State) (k : Nat) : Nat :=
  match [0, 1, 2, 3].find? (fun i => (Tab.get ({} : Lane) s.lanes i).runs k) with
  | some i => let x : Lane := Tab.get {} s.lanes i; (min (min s.now x.endAt) (s.ctx k).deadline - x.start) / 32
  | none => 0

/-- The lanes of a context's step come free at its end or its deadline (R69, R84). -/
def freeLanes (k : Nat) (s : State) : State :=
  s.each [0, 1, 2, 3] (fun i s =>
    if (Tab.get ({} : Lane) s.lanes i).runs k then
      let s := bookLane i (min s.now (s.ctx k).deadline) s
      s.setLanes (Tab.del s.lanes i)
    else s)

/-- The step of a context that enters HALT goes on to its completion or its deadline (R69), and emits nothing (R93). -/
def haltLanes (k : Nat) (s : State) : State :=
  s.each [0, 1, 2, 3] (fun i s =>
    let x : Lane := Tab.get {} s.lanes i
    if x.runs k then s.setLanes (Tab.ins s.lanes i { x with dead := true, endAt := min x.endAt (s.ctx k).deadline }) else s)

/-- A record on a link to Basil; a newer one of the same kind replaces one still waiting. -/
def sendEng (x : EItem) (s : State) : State :=
  s.setBasil { s.basil with rx := s.basil.rx.filter (fun y =>
    !(y.src == x.src && y.inst == x.inst && y.sel == x.sel && y.ctx == x.ctx)) ++ [x] }

end Sys2Proof.Machine
end

