-- ==== Sys2Proof/Machine/Track.lean ====
section
/-! DEFINITION. Trackers of the GIU as the rest of the device acts on them (05_grid_and_pv.md R182 to R184). -/
namespace Sys2Proof.Machine

/-- A source of GIU_IRQ_RAW. -/
def giuIrq (i : Nat) (s : State) : State := s.irq 0x40060000 i
def giuErr (i : Nat) (s : State) : State := s.errSet 0x40060000 i

/-- A tracker. -/
def State.trk (s : State) (t : Nat) : Trk := Tab.get {} s.giu.trks t
def State.putTrk (s : State) (t : Nat) (x : Trk) : State := s.setGiu { s.giu with trks := Tab.set {} s.giu.trks t x }

/-- A tracker enters a state: 0 OFF, 1 TRACK, 2 SCAN, 3 FROZEN. -/
def trkState (t st : Nat) (s : State) : State :=
  let s := if st = 3 && s.get (fGIU_TRK_STAT_state t) ≠ 3 then giuIrq 9 s else s
  s.put (fGIU_TRK_STAT_state t) st

/-- The present reference of a tracker. -/
def putVref (t : Nat) (v : Word) (s : State) : State := s.wr (aGIU_TRK_VREF t) v

/-- A tracker is frozen (R184): a scan is aborted. -/
def trkFreeze (t : Nat) (lost : Bool) (s : State) : State :=
  let st := s.get (fGIU_TRK_STAT_state t)
  let x := s.trk t
  let s := s.putTrk t { x with lost := x.lost || lost }
  let s := if lost && !x.lost then giuErr 18 s else s
  let s := if st = 2 then (putVref t x.pre s).raise (fGIU_TRK_STAT_abort t) else s
  if st = 0 then s else trkState t 3 s

/-- The tracker that a K_DCDC context drives: the one its slot 2 is bound to. -/
def State.cTrk (s : State) (k : Nat) : Option Nat :=
  let i := s.slotInst k 2
  if s.cKid k = 4 && s.slotType k 2 = 4 && s.slotSel k 2 % 16 = 5 && 8 ≤ i && i < 24 then some (i - 8) else none

/-- The group of a context enters a safe state, or the context is no longer in RUN: its tracker is frozen (R184). -/
def trkHold (k : Nat) (lost : Bool) (s : State) : State :=
  (s.cTrk k).elim s (fun t => if s.isRun 8 then trkFreeze t lost s else s)

end Sys2Proof.Machine
end

