-- ==== Sys2Proof/Machine/Seal.lean ====
section
/-! DEFINITION. Sealing a step (03_basil_control_engine.md R91, R92, R108; 04_machine_control.md R153). -/
namespace Sys2Proof.Machine

/-- Words are copied within a context area. -/
def copyWords (k src dst n : Nat) (s : State) : State :=
  s.memPutWords (cArea k + dst) (s.memWords (cArea k + src) n)

/-- The counter region after a sealed step (R75, R113): sealed steps, lane-cycles of the last step and the highest. The words of
CTX_W_CNT_STEP, CTX_W_CNT_EVT and CTX_W_CYC stand at 0x7C0, 0x7C4 and 0x7C8: R75 names no order (DESIGN CHOICE, log entry 46). -/
def sealCounts (k cost : Nat) (s : State) : State :=
  let s := s.putCw k 0x7C0 (s.cw k 0x7C0 + 1)
  let c := min cost 0xFFFF
  s.putCw k 0x7C8 (BitVec.ofNat 32 (c + max c ((s.cw k 0x7C8).fld 16 16) * 65536))

/-- The flags of CTX_W_STAT that report the last sealed step (R101, R103, R113). -/
def sealFlags (k : Nat) (o : Older) (w : Work) (s : State) : State :=
  let s := ((s.putB (cf k fCTX_W_STAT_sat) o.sat).putB (cf k fCTX_W_STAT_stale) o.stale).putB (cf k fCTX_W_STAT_pred) o.pred
  let s := (s.putB (cf k fCTX_W_STAT_sat_long) o.wk.satLong).putB (cf k fCTX_W_STAT_dev_long) o.wk.devLong
  let s := s.put (cf k fCTX_W_STAT_phase) o.wk.phase
  let s := s.when (o.wk.satLong && !w.satLong) (ctxIrq k 1)
  let s := s.when (o.wk.devLong && !w.devLong) (ctxIrq k 2)
  let s := s.putB (cf k fCTX_W_PG_STAT_done) o.wk.pgDone
  s.when (o.wk.pgMet || (o.wk.pgDone && !w.pgDone)) (ctxIrq k 5)

/-- The sealed step count advances: Sage's liveness supervision sees it (09_sage_and_safe_states.md R344). -/
def liveSeal (k : Nat) (s : State) : State :=
  let v := Tab.get ({} : Liv) s.livs k
  (s.setLivs (Tab.ins s.livs k { v with cnt := (s.cw k 0x7C0).toNat, at_ := s.now })).putBit (aSAGE_LIV_VIOL 0) k false

/-- A context enters RUN: its liveness supervision begins (09_sage_and_safe_states.md R344). -/
def enterRun (k : Nat) (s : State) : State :=
  let s := s.putCtx k { s.ctx k with st := .run, startPend := false }
  s.setLivs (Tab.set {} s.livs k { Tab.get ({} : Liv) s.livs k with at_ := s.now })

/-- What a seal sends to the GIU (05_grid_and_pv.md R170, R184): a K_GRID context its sealed references over ILIM to its unit, a
K_DCDC context its input voltage and current with what it reports to its tracker. -/
def sealGiu (k : Nat) (o : Older) (s : State) : State :=
  let g := s.giu
  if s.cKid k = 3 then s.setGiu { g with refs := Tab.ins g.refs (s.slotInst k 1 % 8) (o.wk.k.id0, o.wk.k.iq0) }
  else match s.cTrk k with
    | some t =>
      let it : TrkItem := { v := o.outs.getD 1 0, i := o.outs.getD 2 0, olim := (o.stat.getD 0 0).fld 0 1 == 1,
                            safe := s.mgSafe k, run := (s.ctx k).st == .run }
      s.setGiu { g with items := Tab.ins g.items t it }
    | none => s

/-- A completed step seals (R91): its working state and outputs are copied. -/
def sealOne (k : Nat) (o : Older) (s : State) : State :=
  let s := s.memPutWords (cArea k + 0x380) o.words
  let s := s.memPutWords (cArea k + 0x780) o.outs
  let s := s.memPutWords (cArea k + 0x7A0) o.stat
  let s := s.memPutWords (cArea k + 0x360) o.pgw
  let s := liveSeal k (sealFlags k o (s.ctx k).w (sealCounts k o.cost s))
  let s := s.each o.cons (predEntry o.step)
  let c := s.ctx k
  let s := s.putCtx k { c with w := o.wk, sealT := o.tS, sealNo := o.step, used := o.stepIn.foldl (fun t (i, v) => Tab.ins t i v) c.used }
  let s := if s.mirCtx k && o.mirrored && s.mirroring then engToPair (.seal k (BitVec.ofNat 32 o.step) (c.st == .run)) s else s
  let s := sealGiu k o s
  traceEntry k 0 (BitVec.ofNat 32 o.step) o.tS o.cost o.outs s

/-- A STOP that waited takes effect when no step is in flight (R74). -/
def stopDue (k : Nat) (s : State) : State :=
  let c := s.ctx k
  if c.stopPend && c.st = .run && c.ph = .idle && c.older.isEmpty then
    trkHold k true (leaveRun k (s.putCtx k { c with st := .admitted, stopPend := false }))
  else s

/-- A completed step as its record. -/
def Ctx.asOlder (c : Ctx) (words : List Word) : Older :=
  { step := c.stepNo, tS := c.tS, cost := c.cost, outs := c.outs, stat := c.stat, pgw := c.pgw, words := words,
    preds := c.preds, cons := c.cons, stepIn := c.stepIn, sat := c.sat, stale := c.stale, pred := c.pred,
    mirrored := c.mirrored, wk := c.wk }

/-- The provisional step of a context seals. -/
def sealStep (k : Nat) (s : State) : State :=
  let c := s.ctx k
  if c.ph ≠ .prov then s
  else
    let o := c.asOlder (s.memWords (cArea k + 0x580) 128)
    let s := s.putCtx k { c with ph := .idle, outs := [], stat := [], pgw := [], cons := [] }
    stopDue k (sealOne k o s)

/-- The step whose set a boundary applies seals (R91): the provisional one, or an older one. -/
def sealSet (k step : Nat) (s : State) : State :=
  let c := s.ctx k
  if c.ph = .prov && c.stepNo = step && !c.noSet then sealStep k s
  else match c.older.find? (fun o => o.step == step) with
    | some o => stopDue k (sealOne k o (s.putCtx k { c with older := c.older.filter (fun x => x.step ≠ step) }))
    | none => s

/-! Cancelling (R93, R94). -/

/-- One completed step is cancelled (R93): the CANCEL items withdraw its set from the PTA and its tentative record from
PAIR, and its predicted samples from the next step. -/
def cancelOne (k : Nat) (o : Older) (s : State) : State :=
  let s := match s.cTbg k with
    | some g =>
      let t := s.tbg g
      let mine (x : KSet) : Bool := x.ctx == k && x.step == o.step
      s.putTbg g { t with sets := t.sets.filter (fun x => !mine x), wire := t.wire.filter (fun x => !mine x) }
    | none => s
  let s := if s.mirCtx k && o.mirrored && s.mirroring then engToPair (.cancel k (BitVec.ofNat 32 o.step)) s else s
  let s := s.each (o.preds.filter (·.form == 2)) (fun p s => predEntry (o.step + 1) { p with form := 4 } s)
  let s := ctxIrq k 4 (cntEvt k 8 (s.incr fENG_CANCEL_CNT_cnt))
  traceEntry k 1 (BitVec.ofNat 32 o.step) o.tS o.cost o.outs s

/-- Does the seal point of a completed step lie in the present cycle and wait for its command (R94)? `set` says whether it is the
boundary that applies the set, else the next sample instant. -/
def State.sealsNow (s : State) (k step : Nat) (set : Bool) : Bool :=
  if set then
    match s.cTbg k with
    | some g => (s.tbg g).taken.any (fun w => decide (w.w / 32 ≤ s.now / 32) &&
        (match w.kset with | some x => x.ctx == k && x.step == step | none => false))
    | none => false
  else (s.nextInstant k).any (fun t => decide (t / 32 ≤ s.now / 32))

/-- The steps whose seal point lies in the present cycle seal before an event of this cycle cancels (R94). -/
def sealFirst (k : Nat) (s : State) : State :=
  let c := s.ctx k
  let s := s.each (c.older.filter (fun o => s.sealsNow k o.step true)) (fun o => sealSet k o.step)
  if c.ph = .prov && s.sealsNow k c.stepNo (!c.noSet) then sealStep k s else s

/-- What stays of the sealed kernel state when completed steps are cancelled: the prediction count does not change
(04_machine_control.md R132). -/
def Ctx.afterCancel (c : Ctx) : Work :=
  let last : Option Work := if c.ph = .prov then some c.wk else (c.older.getLast?).map (·.wk)
  match last with
  | some x => { c.w with k := { c.w.k with cnt := x.k.cnt } }
  | none => c.w

/-- The completed steps of a context that do not seal in this cycle are cancelled (R93, R94), their predicted samples with them; the
context keeps its last sealed state. -/
def cancelStep (k : Nat) (s : State) : State :=
  let s := sealFirst k s
  let c := s.ctx k
  let prov := if c.ph = .prov then [c.asOlder []] else []
  let w := c.afterCancel
  let gone := c.older ++ prov
  let s := s.putCtx k (if c.ph = .prov then
      { c with ph := .idle, outs := [], stat := [], pgw := [], preds := [], cons := [], w := w, wk := w, older := [] }
    else { c with w := w, wk := if c.ph = .idle then w else c.wk, older := [],
                  preds := c.preds.filter (fun p => !gone.any (fun o => o.preds.contains p)) })
  s.each gone (cancelOne k)

end Sys2Proof.Machine
end

