-- ==== Sys2Proof/Machine/Safe.lean ====
section
/-! DEFINITION. Safe states of a machine group: selection, entry, the requests that reach a group
(07_trips_and_leg_protection.md R251 to R255), the end of a discharge (09_sage_and_safe_states.md R348), and a context's
entry into HALT (03_basil_control_engine.md R105). -/
namespace Sys2Proof.Machine

/-- Latched leg sources by bit (R266). -/
def State.legLatched (s : State) (n i : Nat) : Bool := s.bitAt (aLEG_TRIP_STAT n) i

/-- A high side has bootstrap OK (R256). -/
def State.bootOk (s : State) (n : Nat) : Bool :=
  (s.leg n).bootRep && !(s.leg n).bootLow && !s.legLatched n 3

/-- The member legs on a port whose link is up, which judge the sides (R252). -/
def State.judges (s : State) (m : Nat) : List Nat := (s.members m).filter (fun n => s.portUp (legPort n))

/-- Is the side allowed (R252)? -/
def State.sideOk (s : State) (m : Nat) (high : Bool) : Bool :=
  if high then (s.judges m).all (fun n => !s.legLatched n 1 && !s.legLatched n 3 && s.bootOk n)
  else (s.judges m).all (fun n => !s.legLatched n 2 && !s.legLatched n 4)

/-- The default reaction of a group as a request code: 1 ASC, 3 PULSE-OFF (R226, R267). -/
def State.dfltReq (s : State) (m : Nat) : Nat := if s.mgType m = 2 || s.get (fMG_CFG_react m) ≠ 0 then 3 else 1

/-- The state selected for a request, and MG[m]_SAFE_SEL.fb (R252). -/
def State.select (s : State) (m req : Nat) : Nat × Nat :=
  if req ≠ 1 then (3, 0)
  else if s.mgType m = 2 then (3, 5)
  else
    let hi := s.on (fMG_SAFE_CFG_side m)
    if s.sideOk m hi then (if hi then 2 else 1, 0)
    else if s.sideOk m (!hi) then (if hi then 1 else 2, if hi then 1 else 2)
    else (3, 4)

/-- The largest dead time of the member legs, in units of 10 ns (R251, R296). -/
def State.dtSafe (s : State) (m : Nat) : Nat := to10ns ((s.members m).foldl (fun x n => max x (s.legDt n)) 0)

/-- Half of a group's period is a boundary too (06_thyme_and_pwm.md R202, R212, R217). -/
def State.halfMode (s : State) (g : Nat) : Bool := s.get (fTBG_CFG_mode g) == 2 && s.on (fTBG_CFG_upd g) && !s.kern g

/-- The distance of a group's boundaries. -/
def State.stride (s : State) (g : Nat) : Nat := if s.halfMode g then s.periodF g / 2 else s.periodF g
def State.tbgRun (s : State) (g : Nat) : Bool := s.on (fTBG_STAT_run g) || s.on (fTBG_STAT_start_pend g)

/-- The first boundary of a group whose hand-off point lies after the present moment (R211, R258). -/
def State.boundaryAfter (s : State) (g : Nat) : Option Nat := if s.tbgRun g then some (s.tbg g).hB else none

/-- The reaction a satellite is hinted for a slot (08_ndotar_drive_link.md R306). -/
def State.hintOf (s : State) (n : Nat) : Nat :=
  if !s.legEn n then 0
  else
    let m := s.legMg n
    let st := s.mgState m
    let code (x : Nat) : Nat := if x = 1 then 1 else if x = 2 then 2 else 0
    if st ≠ 0 then code st
    else if s.mgType m = 1 && s.get (fMG_CFG_react m) = 0 then code (s.select m 1).1 else 0

/-- The reactions of the four slots of a port. -/
def State.hintBits (s : State) (p : Nat) : Nat :=
  [0, 1, 2, 3].foldl (fun x i => x + s.hintOf (4 * p + i) * 4 ^ i) 0

/-- HINT REACT is sent on a port (R306). -/
def sendHint (p : Nat) (s : State) : State :=
  let r := s.hintBits p
  let s := hubReady p (.hintReact r (s.get (fNDL_HINT_hold_en p))) none s
  let s := s.putPort p { s.port p with hintAt := s.now }
  if s.mirrorPort p then s else s.put (fNDL_HINT_react p) r

/-- A change of a hinted reaction is sent on the ports of a list of legs (R306). -/
def hintChange (ls : List Nat) (s : State) : State :=
  s.each (portsOf ls) (fun p s =>
    if s.portUp p && s.get (fNDL_HINT_react p) ≠ s.hintBits p then sendHint p s else s)

/-- A discharge ends with a result (09_sage_and_safe_states.md R348): 3 DONE, 4 TIMEOUT, 5 STALL, 6 NODATA, 7 ABORTED. -/
def disEnd (m res : Nat) (s : State) : State :=
  let g := s.mg m
  let d := Tab.get ({} : Dis) s.diss m
  if g.dis = 0 then s
  else
    let msd := (s.now - d.start) / ms
    let s := (s.putMg m { g with dis := 0 }).setDiss (Tab.del s.diss m)
    let s := (s.put (fSAGE_DIS_STAT_state m) res).put (fSAGE_DIS_STAT_v_last m) (min d.v 65535)
    let s := s.put (fSAGE_DIS_TIME_t m) (min msd (2 ^ 32 - 1))
    let s := if res = 3 then s.incrSat (fSAGE_DIS_CNT_done m) else s.incrSat (fSAGE_DIS_CNT_fail m)
    let s := (s.raise fSAGE_IRQ_RAW_dis).raise fAPC_SAGE_EVT_dis
    let s := s.record 0x61 .sage ([m, g.dis, res, 0].map (BitVec.ofNat 8) ++ natBytes 2 (d.v0.getD 0) ++ natBytes 2 d.v
      ++ natBytes 4 msd)
    if res = 4 || res = 5 || res = 6 then s.sageEvt 38 (nOther m) else s

/-- On-intervals are cut off from a moment on. -/
def cutOn (t : Nat) (l : List (Nat × Nat)) : List (Nat × Nat) :=
  (l.filter (fun (a, _) => a < t)).map (fun (a, b) => (a, min b t))

/-- A leg's emitted state becomes that of the safe state (R215, R258); `h` and `lo` are the moments its sides are off from. -/
def legForced (st onAt now : Nat) (h lo : Option Nat) (l : Leg) : Leg :=
  { l with
    hsOff := if st ≠ 2 then h else l.hsOff, lsOff := if st ≠ 1 then lo else l.lsOff,
    hsOnAt := if st = 2 && !l.hsOn then some onAt else l.hsOnAt, lsOnAt := if st = 1 && !l.lsOn then some onAt else l.lsOnAt,
    hsOn := st == 2, lsOn := st == 1, hEnd := st == 2, hFall := none, onIv := cutOn now l.onIv,
    held := st, relAt := none, cbcEnd := none, blankWait := false, skipH := false, skipL := false }

/-- The set in flight is not applied for a leg whose group enters a safe state before its boundary (R213); a boundary in the present
cycle comes first (03_basil_control_engine.md R94). -/
def skipLeg (n : Nat) (s : State) : State :=
  let g := (s.comes (aLEG_CFG n)).fld 17 5
  let t := s.tbg g
  s.putTbg g { t with taken := t.taken.map (fun k => if k.w / 32 ≤ s.now / 32 then k else { k with skip := n :: k.skip }) }

/-- The legs that the windows handed over will enable as members of a machine group (R5, R213). -/
def State.incoming (s : State) (m : Nat) : List Nat :=
  allLegs.filter (fun n =>
    let w := s.comes (aLEG_CFG n)
    !s.legEn n && w.fld 31 1 == 1 && w.fld 22 5 == m)

/-- The member legs follow the safe state (R251): edges retracted, emitted state set, CBC holds replaced. -/
def holdLegs (m st : Nat) (ls : List Nat) (s : State) : State :=
  let onAt := s.now + 128 * s.dtSafe m
  s.each ls (fun n s =>
    let h := s.offSince n false
    let lo := s.offSince n true
    let s := skipLeg n (retractLeg n none s)
    let s := s.putLeg n (legForced st onAt s.now h lo (s.leg n))
    ((s.put (fLEG_STAT_hs n) (if st = 2 then 1 else 0)).put (fLEG_STAT_ls n) (if st = 1 then 1 else 0)).lower
      (fLEG_TRIP_STAT_cbc_active n))

/-- The registers, flag, record and event of an entry into a safe state (R251 step 3, R255). -/
def entryMarks (m st fb req code evt : Nat) (s : State) : State :=
  let s := s.put (fMG_STAT_state m) st
  let s := ((s.put (fMG_SAFE_SEL_fb m) fb).put (fMG_SAFE_SEL_sel m) st).put (fMG_SAFE_SEL_req m) req
  let s := (s.wr (aMG_SAFE_TIME m) (BitVec.ofNat 32 (s.stamp))).incrSat (fMG_SAFE_CNT_in_cnt m)
  let s := (s.raise (fMG_IRQ_RAW_safe_in m)).put (fMG_TRIP_STAT_last m) code
  let kr := if code = 0x88 then s.get (fMG_TRIP_STAT_kreason m) else 0
  let s := s.record 0x20 .thy ([m, code, req, st, fb, evt, kr, 0].map (BitVec.ofNat 8) ++ natBytes 4 (s.stamp))
  s.sageEvt 28 (nOther m)

/-- A context whose group enters a safe state: its completed steps are cancelled (03_basil_control_engine.md R93), the acceleration of
its profile generator is 0 (R104), its tracker is frozen (05_grid_and_pv.md R184). -/
def ctxEnters (k : Nat) (s : State) : State :=
  let s := cancelStep k s
  trkHold k false (s.when (s.cPg k) (fun s => s.putCw k 0x368 0))

/-- A machine group enters ASC-L, ASC-H or PULSE-OFF (R251): request code, source code, Sage event or 0xFF. -/
def enterState (m st fb req code evt : Nat) (s : State) : State :=
  let s := disEnd m 7 s
  let ls := s.members m
  let g := s.mg m
  let s := s.putMg m { g with releasing := false, inAt := if s.mgState m = 0 then s.now else g.inAt }
  let s := holdLegs m st ls s
  let s := s.each (s.incoming m) (fun n s => skipLeg n (retractLeg n none s))
  let s := forceLegs ls (patOf st) true (s.dtSafe m) (fun _ => 0) s
  let s := entryMarks m st fb req code evt s
  let s := if fb = 1 || fb = 2 || fb = 4 then
      ((s.incrSat (fMG_SAFE_CNT_fb_cnt m)).raise (fMG_IRQ_RAW_fallback m)).sageEvt 27 (nOther m) else s
  let s := s.each (s.ctxOfMg m) ctxEnters
  hintChange ls s

/-- A group takes the state a request selects (R252), unless it is already in it (R255); one that is leaving its state
enters again (R262). -/
def takeState (m req code evt : Nat) (s : State) : State :=
  let (st, fb) := s.select m req
  if s.mgState m = st && !(s.mg m).releasing then s else enterState m st fb req code evt s

/-- Has a request already decided the group's state in this tick (R253)? -/
def State.decided (s : State) (m : Nat) : Bool := (s.mg m).reqTick == some (s.now / 32)

/-- Does a request lose against those that reached its group earlier in the same tick (R253)? Of two Sage events the lower
number decides (09_sage_and_safe_states.md R333). -/
def State.loses (s : State) (m req code evt : Nat) : Bool :=
  let g := s.mg m
  s.decided m && (if code = 0x89 then g.reqSage && decide (g.reqEvt < evt) && decide (evt < 255)
    else g.reqSage || (g.reqAsc && decide (req ≠ 1)))

/-- The request is kept for the combination of R253. -/
def noteRequest (m req code evt : Nat) (s : State) : State :=
  let g := s.mg m
  let same := s.decided m
  s.putMg m { g with
    reqTick := some (s.now / 32), reqSage := code == 0x89 || (same && g.reqSage), reqAsc := req == 1 || (same && g.reqAsc),
    reqEvt := if code = 0x89 then evt else if same then g.reqEvt else 255 }

/-- A request on a group's state (R252, R253): one that loses is only recorded. -/
def applyRequest (m req code evt : Nat) (s : State) : State :=
  if s.loses m req code evt then s else takeState m req code evt (noteRequest m req code evt s)

/-- An ASC side that is not allowed is left (R252, R254). -/
def leaveSide (m code evt : Nat) (s : State) : State :=
  let st := s.mgState m
  if (st = 1 && !s.sideOk m false) || (st = 2 && !s.sideOk m true) then takeState m 1 code evt s else s

/-- A LATCH of a source reaches its group (R253, R254, R255). -/
def latchRequest (m req code evt : Nat) (s : State) : State :=
  let s := s.putMg m { s.mg m with tripTick := some (s.now / 32) }
  let st := s.mgState m
  -- a Sage command of the same tick decides (R253)
  if st = 4 then (if s.decided m && (s.mg m).reqSage then s else enterState m 3 0 req code evt s)
  else leaveSide m code evt (if st = 0 || (s.mg m).releasing || s.decided m then applyRequest m req code evt s else s)

/-- The summary of latched sources of a group (R264, R267). -/
def refreshSum (m : Nat) (s : State) : State :=
  let legs := (s.members m).any (fun n => (s.rd (aLEG_TRIP_STAT n)).fld 0 10 != 0)
  let s := s.putB (fMG_TRIP_STAT_leg m) legs
  let grp := (s.rd (aMG_TRIP_STAT m)).fld 0 3 != 0 || s.on (fMG_TRIP_STAT_sage_hold m)
  s.putBit aTHY_TRIP_SUM m (legs || grp)

/-- A group-level source is latched (R241, R248): record, flag and event unless it was latched. `fl` is its bit. -/
def latchGroup (m : Nat) (fl : Fld) (code : Nat) (was : Bool) (s : State) : State :=
  let s := refreshSum m (s.raise fl)
  if was then s
  else
    let s := (s.raise (fMG_IRQ_RAW_latch m)).record 0x21 .thy ([0xFF, m, code].map (BitVec.ofNat 8))
    s.sageEvt 25 (nOther m)

/-- A leg-level source is latched (R241, R248, R266): `i` is its bit of LEG[n]_TRIP_STAT.src. -/
def latchLeg (n i code : Nat) (was : Bool) (s : State) : State :=
  let m := s.legMg n
  let any := (s.rd (aLEG_TRIP_STAT n)).fld 0 10 != 0
  let s := (s.putBit (aLEG_TRIP_STAT n) i true).raise (fLEG_TRIP_STAT_latched n)
  let s := if any then s else s.wr (aLEG_TRIP_TIME n) (BitVec.ofNat 32 (s.stamp))
  let s := refreshSum m s
  if was then s
  else
    let s := (s.raise (fMG_IRQ_RAW_latch m)).record 0x21 .thy ([n, m, code].map (BitVec.ofNat 8))
    s.sageEvt 25 (nLeg n)

/-- A LATCH of a source reaches its group, or, where the source was latched before this tick's requests, only counts (R248). -/
def latchAgain (m req code : Nat) (was : Bool) (s : State) : State :=
  if was && !s.decided m then s else latchRequest m req code 0xFF s

/-- A kernel request on a machine group (R238, 03_basil_control_engine.md R105). -/
def kernRequest (m reason req : Nat) (s : State) : State :=
  let was := s.on (fMG_TRIP_STAT_kern m)
  latchAgain m req 0x88 was (latchGroup m (fMG_TRIP_STAT_kern m) 0x88 was (s.put (fMG_TRIP_STAT_kreason m) reason))

/-- Is the port not up for source LINK (08_ndotar_drive_link.md R278; 10_lovage_pairing.md R373, R384)? -/
def State.portDown (s : State) (p : Nat) : Bool :=
  !s.portUp p ||
    (s.bitAt aPAIR_PORTS p && (s.role == 1 || s.role == 2)
      && !s.on fPAIR_STATE_tko && (s.port p).tokKnown && !s.on (fNDL_STAT_tok p))

/-- Is source LINK asserted for a group (R278)? -/
def State.linkAsserted (s : State) (m : Nat) : Bool := (s.members m).any (fun n => s.portDown (legPort n))

/-- Source LINK acts on every group for which it is asserted and not yet latched (R238, R278), and PAIR_SPLIT shows the
groups of 10_lovage_pairing.md R384. -/
def linkScan (s : State) : State :=
  s.each (List.range 32) (fun m s =>
    let split := (s.members m).any (fun n => s.portUp (legPort n) && s.portDown (legPort n))
    let was := s.bitAt aPAIR_SPLIT m
    let s := if split && !was then (s.putBit aPAIR_SPLIT m true).raise fPAIR_IRQ_RAW_split
      else if was && !split then s.putBit aPAIR_SPLIT m false else s
    if s.linkAsserted m && !s.on (fMG_TRIP_STAT_link m) then
      latchRequest m (s.dfltReq m) 0x87 0xFF (latchGroup m (fMG_TRIP_STAT_link m) 0x87 false s)
    else s)

/-- The bootstrap or a latched fault of a group changed: an ASC side no longer allowed is left (R254, R262). -/
def recheckSide (m : Nat) (s : State) : State := leaveSide m (s.get (fMG_TRIP_STAT_last m)) 0xFF s

/-- A safe-state command of Sage on a group (R238, R253, R254; 09_sage_and_safe_states.md R336): source SAGE is latched, and
the group takes the commanded state. A group of type NONE or without enabled legs is not commanded (R335). -/
def sageCommand (m req evt : Nat) (s : State) : State :=
  if s.mgType m = 0 || (s.members m).isEmpty then s
  else
    let s := latchGroup m (fMG_TRIP_STAT_sage_hold m) 0x89 (s.on (fMG_TRIP_STAT_sage_hold m)) s
    let s := s.putBit aSAGE_MG_HOLD m true
    applyRequest m req 0x89 evt s

/-- A context enters HALT (03_basil_control_engine.md R93, R105): its cause, flags and events, its step ends, and its
machine group receives the kernel request HALT. -/
def haltCtx (k cause : Nat) (s : State) : State :=
  let c := s.ctx k
  if c.st = .halt || c.st = .off then s
  else
    let s := trkHold k true (haltLanes k (leaveRun k (cancelStep k s)))
    let s := s.putCtx k { s.ctx k with st := .halt, ph := .idle, startPend := false, stopPend := false }
    let s := ctxIrq k 0 (cntEvt k 24 (s.put (cf k fCTX_W_STAT_hcause) cause))
    let s := (s.raise fENG_IRQ_RAW_halt).sageEvt 30 (nCtx k)
    match s.cMg k with
    | some m => kernRequest m 7 (s.dfltReq m) s
    | none => s

/-- What an overrun counts (R84): counters, flags, event and the entry of the trace buffer (R108) with the lane-cycles used. -/
def countOverrun (k used : Nat) (s : State) : State :=
  let c := s.ctx k
  let s := ctxIrq k 3 (cntEvt k 0 s)
  let s := ((s.incrSat fENG_OVR_CNT_cnt).raise fENG_IRQ_RAW_ovr).sageEvt 31 (nCtx k)
  traceEntry k 2 (BitVec.ofNat 32 c.stepNo) c.tS used c.outs s

/-- An overrun (R84): the step ends without a result, is counted, and may put its context into HALT. -/
def overrun (k : Nat) (s : State) : State :=
  let used := s.laneUsed k
  let s := freeLanes k s
  let c := s.ctx k
  let s := s.putCtx k { c with
    ph := .idle, ovrRun := c.ovrRun + 1, preds := [], cons := [], wk := c.w, retry := none }
  let s := countOverrun k used s
  if max 1 ((s.cw k 8).fld 20 4) ≤ c.ovrRun + 1 then haltCtx k 1 s else stopDue k s

/-- A step that a privileged mismatch leaves no time to run again is an overrun and a HALT (R97). -/
def privLate (k : Nat) (s : State) : State :=
  let c := s.ctx k
  haltCtx k 3 (countOverrun k c.cost (s.putCtx k { c with ph := .idle, wk := c.w, retry := none }))

end Sys2Proof.Machine
end

