-- ==== Sys2Proof/Machine/SafeMgr.lean ====
section
/-! DEFINITION. Sage's safe-state manager (09_sage_and_safe_states.md R333 to R339, R349 to R351): pending events, the event
map, NOT_SAFE and the pins, the Sage loss path (R324), and the end of every command: the events it raised are handled. -/
namespace Sys2Proof.Machine

/-- The contexts of kernel K_GRID with a binding to grid unit u (03_basil_control_engine.md R77). -/
def State.gridCtx (s : State) (u : Nat) : Option Nat :=
  s.liveCtx.find? (fun k => s.cKid k == 3 && (List.range 16).any (fun i =>
    let w := s.cw k (0x40 + 8 * i)
    w.fld 28 4 == 4 && w.fld 16 8 == u))

/-- Does the event name a machine group by its number (R333)? -/
def namesGroup (e : Nat) : Bool := e == 14 || e == 25 || e == 27 || e == 28 || e == 38

/-- The machine groups an event names (R335). -/
def namedGroups (e : Nat) (x : SageName) (s : State) : List Nat :=
  match x with
  | .leg n => [s.legMg n.val]
  | .gate c => [s.legMg (c.val / 2)]
  | .port p => ((allLegs.filter (fun n => s.legEn n && legPort n == p.val)).map s.legMg).eraseDups
  | .ctx k => (s.cMg k.val).toList
  | .unit u => match s.gridCtx u.val with | some k => (s.cMg k).toList | none => []
  | .other i => if namesGroup e && i.val < 32 then [i.val] else []
  | .none => []

/-- The groups an event's configuration covers (R334). -/
def coveredGroups (e : Nat) (x : SageName) (s : State) : List Nat :=
  let sc := s.get (fSAGE_EVT_CFG_scope e)
  let mask := (List.range 32).filter (fun m => s.bitAt (aSAGE_EVT_MGM e) m)
  if sc = 2 then (List.range 32).filter (fun m => !(s.members m).isEmpty)
  else if sc = 1 || x == .none then mask
  else namedGroups e x s

/-- The headers whose block has an ERR bit set. -/
def State.errBlocks (s : State) (i : Nat) : List Block := allBlocks.filter (fun b => s.on (hErr (hdr b) i))

/-- Is the event momentary (R333, R337)? The others have a condition. -/
def momentary (e : Nat) : Bool :=
  e == 14 || e == 15 || e == 18 || e == 19 || (21 ≤ e && e ≤ 29) || e == 31 || e == 32 || e == 34 || e == 35 || e == 38 || e == 42

/-- The momentary events of the present tick. -/
def State.recentEvents (s : State) : List SEvt := if s.sage.recentAt = s.now / 32 then s.sage.recent else []

/-- A momentary event is pending in its tick (R337). -/
def noteRecent (x : SEvt) (s : State) : State :=
  s.when (momentary x.e && !x.test) (fun s => s.setSage { s.sage with recent := s.recentEvents ++ [x], recentAt := s.now / 32 })

/-- The events that are pending: those whose condition holds, and the momentary ones of the present tick (R337; DEDUCED where the event is an error bit or a state, log entry 9). -/
def State.pendingEvents (s : State) : List SEvt :=
  let ev (e : Nat) (c : Bool) (x : SageName) : List SEvt := if c then [⟨e, x, false⟩] else []
  let blk (e i : Nat) : List SEvt := (s.errBlocks i).map (fun b => ⟨e, nOther (blockCode b), false⟩)
  ev 0 (s.on fFAB_ERR_audit || s.on fNDLH_ERR_cons || s.on fNDLH_ERR_prot) .none
  ++ blk 1 1
  ++ ev 2 (!s.on fSAGE_HEALTH_clk_ok || !s.on fSAGE_HEALTH_sup_ok) .none
  ++ (List.range 2).flatMap (fun i => ev 3 (s.on (fAPC_LS_STAT_mis i)) (nOther i) ++ ev 4 (s.on (fAPC_WDG_STAT_expired i)) (nOther i))
  ++ (List.range 8).flatMap (fun k =>
      let st := s.get (fMSIO_EV_STAT_state k)
      ev (5 + k) (st == 1 || st == 2 || st == 4) (nOther k))
  ++ (List.range 16).flatMap (fun c => ev 13 (s.get (fMSIO_SM_STAT_state c) == 3) (nOther (s.get (fMSIO_SM_CFG_pair c))))
  ++ (List.range 128).flatMap (fun k => ev 16 (s.bitAt (aSAGE_LIV_VIOL 0) k) (nCtx k))
  ++ (List.range 128).flatMap (fun k => ev 17 ((Tab.get ({} : Liv) s.livs k).kb) (nCtx k))
  ++ (List.range 32).flatMap (fun p => ev 20 (s.portState p == pLoss) (nPort p))
  ++ ((allCtx.filter (fun k => (s.ctx k).st == .halt)).map (fun k => ⟨30, nCtx k, false⟩))
  ++ (List.range 8).flatMap (fun u =>
      let st := s.get (fGIU_RT_STAT_state u)
      ev 33 (st == 4 || st == 5 || st == 6) (nUnit u))
  ++ ev 36 (s.on fHPM_SUP_STAT_unstable) .none
  ++ ev 37 (s.get fHPM_THERM_STAT_state != 0) .none
  ++ blk 39 0 ++ blk 40 2 ++ ev 41 (s.on fTHY_ERR_fcal) .none ++ s.recentEvents

/-- SAGE_EVT_PEND (R337). -/
def State.pendBit (s : State) (e : Nat) : Bool := s.pendingEvents.any (fun x => x.e == e)

/-- NOT_SAFE gets a cause (R350): bit i of SAGE_HEALTH.ns_cause. -/
def setNotSafe (i : Nat) (s : State) : State :=
  let was := s.on fSAGE_HEALTH_not_safe
  let s := s.putBit aSAGE_HEALTH (8 + i) true
  if was then s else ((s.raise fSAGE_HEALTH_not_safe).raise fSAGE_STAT_not_safe).raise fAPC_SAGE_EVT_ns

/-- ERR_N0 and ERR_N1 toggle (R349). -/
def State.errn0 (s : State) : Bool := s.sage.errOn && !s.sage.lost && !s.sage.halted && !s.sage.dbgHalt
def State.errn1 (s : State) : Bool := s.errn0 && !s.on fSAGE_HEALTH_not_safe

/-- SAGE_HEALTH.ok (R356). -/
def State.sageOk (s : State) : Bool :=
  s.on fSAGE_HEALTH_wdg_ok && s.on fSAGE_HEALTH_sup_ok && s.on fSAGE_HEALTH_clk_ok && !s.on fSAGE_HEALTH_not_safe

/-- SAFE_STATE pins of a mask are asserted (R351). -/
def assertPins (m : Nat) (s : State) : State := s.put fSAGE_PIN_STAT_asserted (s.get fSAGE_PIN_STAT_asserted ||| m)

/-- What an event names, as record SAGE_EVT writes it (16_rosemary_and_selftest.md R534). -/
def nameCode : SageName → Nat × Nat
  | .none => (0, 0) | .leg n => (1, n.val) | .gate c => (2, c.val) | .port p => (3, p.val) | .ctx k => (4, k.val)
  | .unit u => (5, u.val) | .other i => (6, i.val)

/-- What an event sets in its tick: pins, NOT_SAFE, the cores' interrupt, APC_SAGE_EVT.safe (R336). -/
def eventEffects (e : Nat) (s : State) : State :=
  let s := assertPins (s.get (fSAGE_EVT_CFG_pins e)) s
  let s := s.when (s.on (fSAGE_EVT_CFG_ns e)) (setNotSafe 3)
  let s := s.when (s.on (fSAGE_EVT_CFG_irq e)) (fun s => s.raise fSAGE_IRQ_RAW_evt)
  s.when (s.on (fSAGE_EVT_CFG_apc e)) (fun s => s.raise fAPC_SAGE_EVT_safe)

/-- The record of an event: what it names and the groups it covers (R336). -/
def eventRecord (x : SEvt) (cov : List Nat) (s : State) : State :=
  s.record 0x60 .sage ([BitVec.ofNat 8 x.e, BitVec.ofNat 8 (nameCode x.named).1] ++ natBytes 2 (nameCode x.named).2
    ++ natBytes 4 (cov.foldl (fun b m => b + 2 ^ m) 0))

/-- SAGE_LAST_EVT and SAGE_LAST_TIME (R356). -/
def eventLast (x : SEvt) (go : List Nat) (s : State) : State :=
  let s := ((s.put fSAGE_LAST_EVT_e x.e).putB fSAGE_LAST_EVT_test x.test).putB fSAGE_LAST_EVT_mg_v (!go.isEmpty)
  (s.put fSAGE_LAST_EVT_mg (go.headD 0)).wr aSAGE_LAST_TIME (BitVec.ofNat 32 (s.stamp))

/-- The request an event makes of a group (R334 to R336). -/
def State.eventReq (s : State) (e m : Nat) : Nat :=
  let react := s.get (fSAGE_EVT_CFG_react e)
  if react = 1 then s.dfltReq m else if react = 2 then 3 else 1

/-- One event at the safe-state manager (R333 to R336, R339). `done_` are the groups an event of lower number has already
commanded in this tick. -/
def handleEvent (x : SEvt) (done_ : List Nat) (s : State) : State × List Nat :=
  let s := noteRecent x (s.when (decide (x.e < 43)) (fun s => s.incrSat (fSAGE_EVT_CNT_cnt x.e)))
  if 43 ≤ x.e || s.sage.lost then (s, done_)
  else
    let reacts := s.get (fSAGE_EVT_CFG_react x.e) ≠ 0
    let cov := if reacts && !x.test then
        (coveredGroups x.e x.named s).filter (fun m => s.mgType m ≠ 0 && !(s.members m).isEmpty) else []
    let go := cov.filter (fun m => !done_.contains m)
    let o := s
    let s := s.each go (fun m s => sageCommand m (o.eventReq x.e m) x.e s)
    let s := s.when (!x.test) (eventEffects x.e)
    let s := s.when (s.on (fSAGE_EVT_CFG_rec x.e)) (eventRecord x cov)
    (s.when reacts (eventLast x go), done_ ++ go)

/-- An event put at its rank among the others (R333). -/
def rankIn (x : SEvt) : List SEvt → List SEvt
  | [] => [x]
  | y :: r => if x.e < y.e then x :: y :: r else y :: rankIn x r

/-- The events of a list in the order of their numbers. -/
def byRank (l : List SEvt) : List SEvt := l.foldl (fun r x => rankIn x r) []

/-- The events in the inbox are handled, the lowest number first; those they cause follow (R336). What is left after the
rounds waits for the next command. -/
def drain : Nat → State → State
  | 0, s => s
  | n + 1, s =>
    if s.sage.inbox.isEmpty then s
    else
      let l := byRank s.sage.inbox
      let s := s.setSage { s.sage with inbox := [] }
      drain n (l.foldl (fun (p : State × List Nat) x => handleEvent x p.2 p.1) (s, [])).1

/-- The state once Sage has handled the events that wait for it (R336). -/
def settle (s : State) : State := drain 8 s

/-- The end of a command: Sage handles what the command caused. -/
def done (s : State) : Host.Outcome State Fault Refusal := .next (settle s)

/-- A prime leaves its pair (10_lovage_pairing.md R380): QUIT where the link runs, then GIVE on every paired port. -/
def pairQuit (s : State) : State :=
  let st := s.get fPAIR_STATE_link
  if s.role = 1 && (st = 2 || st = 3) then (pairTx (.ctrl 4) s).each s.pairedPorts (fun p s => tokenOp p 2 s) else s

/-- The Sage loss path (R324): every group with enabled legs is commanded to its default, the pins are asserted, the APC is
told, the Sage cores halt. The cause codes are those of APC_SAGE_LOST. -/
def lossPath (cause : Nat) (s : State) : State :=
  if s.sage.lost then s
  else
    let s := s.each (List.range 32) (fun m s => sageCommand m (s.dfltReq m) 0xFF s)
    let s := assertPins 15 s
    let s := ((s.put fAPC_SAGE_LOST_cause cause).raise fAPC_SAGE_LOST_lost).raise fAPC_SAGE_EVT_lost
    let s := s.setSage { s.sage with lost := true, halted := true }
    pairQuit s

end Sys2Proof.Machine
end

