-- ==== Sys2Proof/Machine/Access.lean ====
section
/-! DEFINITION. Register accesses: who may access an address (01_register_pages.md R13 to R18, R36, R41, R42), how a
written word enters effective values and shadows (R9, R10, R20 to R23, R27, R28), and the shadows' application. -/
namespace Sys2Proof.Machine

/-! The reply to the requester. -/

/-- The access was executed. -/
def busOk (r : Req) (d : Word) (s : State) : State := s.setBus { s.bus with who := r, kind := .ok, data := d }

/-- The access ended in an access fault or with ABSENT; an APC pair sees the address as its trap value. -/
def busFault (r : Req) (a : Nat) (kd : ReplyKind) (s : State) : State :=
  let b := { s.bus with who := r, kind := kd, data := 0 }
  s.setBus (match r with
    | .apc0 => { b with trap0 := a }
    | .apc1 => { b with trap1 := a }
    | _ => b)

/-- An error bit of ERR[15:0] is set, and the block delivers it to Sage (R29, R34, 09_sage_and_safe_states.md R333). -/
def errEvent (b : Block) (i : Nat) (s : State) : State :=
  let s := s.errSet (hdr b) i
  let e := if i = 0 then 39 else if i = 1 then 1 else if i = 2 then 40 else 42
  s.sageEvt e (nOther (blockCode b))

/-- May the HRP write this block (R41, R42)? -/
def State.hrpMayWrite (s : State) (b : Block) : Bool :=
  let c := blockCode b
  if c = 16 || c = 18 then false
  else if c = 17 then s.on ⟨aHRP_WR_EN_HI, 0, 1⟩
  else s.on ⟨aHRP_WR_EN_LO, c - 1, 1⟩

/-- How an access to a peripheral page ends: executed, refused by R15, R16, R41 or R42, or answered ABSENT. -/
inductive Verdict where
  | ok | undefined | denied | absent
  deriving DecidableEq, Repr

/-- The verdict on an access to a peripheral page (R15, R16, R18, R42; 11_machine_safety_io.md R392). An island that is not in RUN
answers ABSENT before any other check (DESIGN CHOICE, log entry 38). -/
def State.verdict (s : State) (r : Req) (b : Block) (a : Nat) (wr : Bool) : Verdict :=
  let own := a == hdr b || a == hdr b + 0x34
  if !s.isRun (blockIsland b) && !(own && !wr) then .absent
  else if a % 4 ≠ 0 || !defined a then .undefined
  else if wr && (blockCode b = 16 || blockCode b = 12) && r ≠ .sage then .denied
  else if wr && blockCode b = 18 && r ≠ .apc0 && r ≠ .apc1 then .denied
  else if wr && r = .hrp && !s.hrpMayWrite b then .denied
  else .ok

/-- The bytes an access is wide. -/
def accBytes : AccSize → Nat
  | .byte => 1 | .half => 2 | .word => 4

/-- An access to a peripheral page that is no whole word is refused as an undefined one is (R15). -/
def accessNarrow (r : Req) (b : Block) (a : Nat) (wr : Bool) (s : State) : State :=
  if s.verdict r b a wr = .absent then busFault r a .absent (fabAbsent (blockIsland b) s)
  else busFault r a .refused (errEvent b 4 (fabUse (reqIsland r) (blockIsland b) 0 s))

/-- The state on which an accepted access to a block runs: the reply is OK, and the request has used the requester's link to the block's
island (02_islands_and_credits.md R47, R68). -/
def State.granted (s : State) (r : Req) (b : Block) : State := busOk r 0 (fabUse (reqIsland r) (blockIsland b) 0 s)

/-- An access to a peripheral page is checked; what follows an accepted one is `k`. The request takes the requester's link to the
block's island (02_islands_and_credits.md R47, R50). -/
def access (r : Req) (a : Nat) (wr : Bool) (k : State → State) (s : State) : State :=
  match blockAt a with
  | none => busFault r a .refused s
  | some b =>
    match s.verdict r b a wr with
    | .ok => k (s.granted r b)
    | .absent => busFault r a .absent (fabAbsent (blockIsland b) s)
    | .undefined => busFault r a .refused (errEvent b 4 (fabUse (reqIsland r) (blockIsland b) 0 s))
    | .denied =>
      let s := fabUse (reqIsland r) (blockIsland b) 0 s
      busFault r a .refused (if blockCode b = 16 || (blockCode b = 12 && r ≠ .hrp) then errEvent b 4 s else s)

/-! Shadows. -/

/-- The context a requester's window shows (03_basil_control_engine.md R112). -/
def State.wsel (s : State) (r : Req) : Nat := (s.rd (bank r aENG_WSEL)).fld 0 7

/-- Is the register at an address inside the arrays TBG, LEG? -/
def tbgAt (a : Nat) : Option Nat := if 0x40021000 ≤ a && a < 0x40022000 then some ((a - 0x40021000) / 0x80) else none
def legAt (a : Nat) : Option Nat := if 0x40030000 ≤ a && a < 0x40032000 then some ((a - 0x40030000) / 0x40) else none

/-- The timebase group whose boundary serves a leg's fields (06_thyme_and_pwm.md R211, R231): the group its LEG[n]_CFG names
with the value last written. For an enabled leg that is its group (R227); for a disabled leg DEDUCED, log entry 41. -/
def State.legHome (s : State) (n : Nat) : Nat :=
  let p := Tab.get ({} : Pend) s.bnd (aLEG_CFG n)
  (Word.merge p.m (s.comes (aLEG_CFG n)) p.v).fld (fLEG_CFG_tbg n).lo (fLEG_CFG_tbg n).w

/-- Does a BND field at an address have a running boundary source (R20)? -/
def State.bndRuns (s : State) (a : Nat) : Bool :=
  match tbgAt a, legAt a with
  | some g, _ => s.tbgRun g
  | _, some n => s.tbgRun (s.legHome n)
  | _, _ =>
    match blockAt a with
    | some (.can c) => s.on (hCtrl (hdr (.can c)) 0) && (Tab.get ({} : CanSt) s.cans c.val).busy
    | some b => s.on (hCtrl (hdr b) 0)
    | none => false

/-- Is a commit pending for a CMT field at an address (R23; 06_thyme_and_pwm.md R222)? -/
def State.cmtWaits (s : State) (a : Nat) : Bool :=
  match tbgAt a, legAt a with
  | some g, _ => s.on (fTBG_STAT_cmt_pend g)
  | _, some _ => false
  | _, _ => match blockAt a with
    | some b => s.on (hCmtPend (hdr b))
    | none => false

/-- A BND or CMT value of the block took effect during a pass (R31): the pass is discarded. -/
def crcDrop (a : Nat) (s : State) : State :=
  match blockAt a with
  | some b => if s.on (hCtrl (hdr b) 2) then s.setCrcRun (Tab.ins s.crcRun (hdr b) 1) else s
  | none => s

/-- An IMM write of a configuration register, one the CRC covers, completed during a pass (R30, R31): the pass is discarded. -/
def crcTouch (a : Nat) (s : State) : State :=
  match specAt a with
  | some g => if g.crc then crcDrop a s else s
  | none => s

/-- The bits of a mask take their values in all copies of the register under a key (R28). -/
def poke (key : Nat) (m v : Word) (s : State) : State :=
  let s := s.wr key (Word.merge m (s.rd key) v)
  match Tab.find s.tmr key with
  | none => s
  | some (x, y) => s.setTmr (Tab.set (0, 0) s.tmr key (x &&& ~~~m, y &&& ~~~m))

/-- The compare registers of a leg. -/
def isCmp (a : Nat) : Bool :=
  match legAt a with
  | some _ => let o := a % 0x40; o == 0x04 || o == 0x08 || o == 0x10 || o == 0x14
  | none => false

/-- A compare register took a value of software, or of Basil (06_thyme_and_pwm.md R206). -/
def byKern (a : Nat) (b : Bool) (s : State) : State :=
  match legAt a with
  | some n => if isCmp a && (s.leg n).byKern != b then s.putLeg n { s.leg n with byKern := b } else s
  | none => s

/-- A shadow collects written bits. -/
def Pend.put (p : Pend) (m v : Word) : Pend := { m := p.m ||| m, v := Word.merge m p.v v }

/-- The mask of a register's fields that satisfy a condition. -/
def fieldMask (c : FieldSpec → Bool) (l : List FieldSpec) : Word :=
  l.foldl (fun m f => if c f then m ||| Word.mask f.lo (f.hi - f.lo + 1) else m) 0

/-- Is the access code one whose fields a write changes (R9)? -/
def Access.writable : Access → Bool
  | .rw | .rwt | .mw => true
  | _ => false

/-- The bits a write selects: all, or those of the mask in [31:16] of a masked write (R9). -/
def selMask (g : RegSpec) (d : Word) : Word :=
  if g.fields.any (fun f => decide (f.acc = .mw)) then BitVec.ofNat 32 (d.fld 16 16) else 0xFFFFFFFF

/-- The word that is stored for a written one. -/
def dataWord (g : RegSpec) (a : Nat) (d cur : Word) : Word :=
  if g.fields.any (fun f => decide (f.acc = .mw)) then storedWord a (Word.merge (selMask g d) cur d) else storedWord a d

/-- The value a register's shadow would give. -/
def Pend.on (p : Pend) (w : Word) : Word := Word.merge p.m w p.v

/-- The shadows of a kind whose address satisfies a condition move to the effective values. Answers the addresses. -/
def applyTab (t : Tab Pend) (c : Nat → Bool) (s : State) : State :=
  s.each (t.filter (fun x => c x.1)) (fun (k, p) s => byKern k false (crcDrop k (poke k p.m p.v s)))

/-- BND shadows apply at a boundary (R20). -/
def applyBnd (c : Nat → Bool) (s : State) : State :=
  let t := s.bnd
  applyTab t c (s.setBnd (t.filter (fun x => !c x.1)))

/-- A write enters the effective value (IMM), the shadow of the boundary (BND) or of the commit (CMT), under a key; bits of
W1C fields written 1 clear (R9, R10, R20, R21, R23). -/
def storeAt (key a : Nat) (d : Word) (s : State) : State :=
  match specAt a with
  | none => s
  | some g =>
    let sel := selMask g d
    let v := dataWord g a d (s.rd key)
    let w1c := fieldMask (fun f => decide (f.acc = .w1c)) g.fields
    let im := fieldMask (fun f => f.acc.writable && decide (f.eff = .imm)) g.fields &&& sel
    let bm := fieldMask (fun f => f.acc.writable && decide (f.eff = .bnd)) g.fields &&& sel
    let cm := fieldMask (fun f => f.acc.writable && decide (f.eff = .cmt)) g.fields &&& sel
    let s := if w1c = 0 then s else s.wr key (s.rd key &&& ~~~(d &&& w1c))
    let s := if im = 0 then s else crcTouch a (poke key im v s)
    let s := if bm = 0 then s else
      let s := s.setBnd (Tab.set {} s.bnd key ((Tab.get {} s.bnd key).put bm v))
      if s.bndRuns a then s else applyBnd (fun x => x == key || ((legAt a).isSome && legAt x == legAt a)) s
    if cm = 0 then s
    else if s.cmtWaits a then
      match blockAt a with | some b => errEvent b 5 s | none => s
    else s.setCmt (Tab.set {} s.cmt key ((Tab.get {} s.cmt key).put cm v))

/-- The value a register comes to with its commit shadow applied: the effective one, or that of a window handed over. -/
def State.cmtVal (s : State) (a : Nat) : Word := (Tab.get {} s.cmt a).on (s.comes a)

/-- CMT shadows apply together (R21). -/
def applyCmt (c : Nat → Bool) (s : State) : State :=
  let t := s.cmt
  applyTab t c (s.setCmt (t.filter (fun x => !c x.1)))

/-- CMT shadows return to their effective values (R23). -/
def dropCmt (c : Nat → Bool) (s : State) : State := s.setCmt (s.cmt.filter (fun x => !c x.1))

/-- The next frame of a period at or after the present moment that a block has not taken yet. -/
def nextFrame (per last now : Nat) : Nat := max ((now + per - 1) / per * per) (last + per)

/-- 10 µs, 4,000 ticks. -/
def frame10 : Nat := 128000

end Sys2Proof.Machine
end

