-- ==== Sys2Proof/Machine/Admit.lean ====
section
/-! DEFINITION. Load, window and density of contexts (03_basil_control_engine.md R78, R81, R82, R87, R89), and lead times
of timebase groups (06_thyme_and_pwm.md R211). -/
namespace Sys2Proof.Machine

/-- Cost of a kernel in lane-cycles per step (R78); 0 for an id that is not listed. -/
def kernelCost (kid sets : Nat) : Nat :=
  match kid with
  | 1 => 420 + 260 * (sets - 1) | 2 => 480 | 3 => 380 | 4 => 140 | 5 => 160 | 6 => 60 | 7 => 90 | 8 => 110 | 9 => 40
  | 10 => 200 | _ => 0

/-- The cost of a context's step with its profile generator (R78, R87). -/
def State.cCost (s : State) (k : Nat) : Nat := kernelCost (s.cKid k) (s.cSets k) + (if s.cPg k then 50 else 0)

/-- Periods and lead times in force, or with one of them changed (R89). -/
structure Plan where
  per : Nat → Nat
  lead : Nat → Nat

/-- The plan in force. -/
def State.plan (s : State) : Plan := ⟨fun g => s.get (fTBG_PERIOD_t g), fun p => s.get (fNDL_LEAD_lead p)⟩

/-- The ports that carry enabled legs of a group (R211). -/
def State.tbgPorts (s : State) (g : Nat) : List Nat := portsOf (s.groupLegs g)

/-- L_max of a group in ticks (R211). -/
def State.lMax (s : State) (pl : Plan) (g : Nat) : Nat := (s.tbgPorts g).foldl (fun x p => max x (pl.lead p)) 0

/-- L_max + 0.4 µs in ticks: TBG[g]_HOFS (R211). -/
def State.hofs (s : State) (g : Nat) : Nat := s.lMax s.plan g + 160

/-- Fields of CTX_W_TRIG and CTX_W_TIMER, homed in the descriptor (R75, R113). -/
def State.cTin (s : State) (k : Nat) : Nat := (s.cw k 8).fld 24 8
def State.cOvrLim (s : State) (k : Nat) : Nat := max 1 ((s.cw k 8).fld 20 4)
/-- The rate of a context as instants in ticks: `(n, d)` stands for 400 MHz × n / d (R81). -/
def State.cRate (s : State) (pl : Plan) (k : Nat) : Nat × Nat :=
  if s.cSrc k = 0 then (s.cPoints k, pl.per (s.cTrigTbg k) * s.cDecim k) else (1, s.cTimer k)

/-- The load of a context in units of 10,000 lane-cycles per second, rounded up (R87). -/
def State.cLoad (s : State) (pl : Plan) (k : Nat) : Nat :=
  let (n, d) := s.cRate pl k
  let x := s.cCost k * 40000 * n * (if s.cPriv k then 2 else 1)
  if d = 0 then 0 else (x + d - 1) / d

/-- The window of a context in fine ticks (R82). -/
def State.cWindow (s : State) (pl : Plan) (k : Nat) : Nat :=
  let tin := 1280 * s.cTin k
  match s.cTbg k with
  | some g => 32 * pl.per g - 32 * s.lMax pl g - 5120 - tin
  | none =>
    let (n, d) := s.cRate pl k
    if n = 0 then 0 else 32 * d / n - tin

/-- The step period ts of a context in fine ticks (R99). -/
def State.cPeriod (s : State) (k : Nat) : Nat :=
  let (n, d) := s.cRate s.plan k
  if n = 0 then 0 else 32 * d / n

/-- Density c / (400 MHz × w) at most 0.20 (R87). -/
def State.cDense (s : State) (pl : Plan) (k : Nat) : Bool := 160 * s.cCost k ≤ s.cWindow pl k

/-- Would a plan keep the admitted sum and densities (R89)? -/
def State.planOk (s : State) (pl : Plan) : Bool :=
  let l := s.liveCtx
  l.foldl (fun x k => x + s.cLoad pl k) 0 ≤ 136000 && l.all (fun k => s.cDense pl k || !s.cDense s.plan k)

/-- Loads and windows in the descriptors, and their sum, follow the plan in force (R87, R89). -/
def refreshLoads (s : State) : State :=
  let l := s.liveCtx
  let s := s.each l (fun k s =>
    (s.putCw k 0x10 (BitVec.ofNat 32 (s.cLoad s.plan k))).putCw k 0x14 (BitVec.ofNat 32 (s.cWindow s.plan k / 128)))
  let sum := l.foldl (fun x k => x + (s.cw k 0x10).toNat) 0
  (s.put fENG_ADM_SUM_sum (sum % 2 ^ 24)).putB ⟨aENG_STAT, 9, 1⟩ (decide (129200 ≤ sum))

end Sys2Proof.Machine
end

