-- ==== Sys2Proof/Machine/Kernel.lean ====
section
/-! DEFINITION. What a kernel's step works on and yields (03_basil_control_engine.md R70, R71, R98, R99, R101, R102 to R104)
and the generic kernels K_SPEED, K_POS, K_PI (R79) and K_MPPT (05_grid_and_pv.md R182, R185). Sums and products are rounded
one by one, in the order the rules write them: DEDUCED, log entry 4. -/
namespace Sys2Proof.Machine

/-- Does the kernel write compare sets (R78, R87)? -/
def writesSets (kid : Nat) : Bool := kid == 1 || kid == 2 || kid == 3 || kid == 4 || kid == 5 || kid == 10

/-- A word of the working-state region as the step finds it: offsets of the sealed-state region (R75, R91). -/
def State.wk (s : State) (k ofs : Nat) : Word := s.cw k (ofs + 0x200)

/-- A parameter that R121 holds within its range; +0 selects the default where there is one. -/
def parIn (lo hi : Word) (d : Option Word) (x : Word) : Word :=
  match d with
  | some v => if x = 0 then v else F32.clamp lo hi x
  | none => F32.clamp lo hi x

/-- The largest finite binary32. -/
def fMax : Word := 0x7F7FFFFF

/-- A flag or count parameter, rounded toward zero within 0 to n (R121). -/
def parNat (n : Nat) (x : Word) : Nat := if F32.le x 0 then 0 else min n (F32.floor x).toNat

/-- The step period of a context in ticks, as a fraction, with a pending period where the step computes with it
(R99, 06_thyme_and_pwm.md R218). -/
def State.stepFrac (s : State) (k : Nat) : Nat × Nat :=
  let g := s.cTrigTbg k
  let pl := s.plan
  let pl := if (s.ctx k).marked && s.cTbg k == some g then
      { pl with per := fun h => if h = g then (s.cmtVal (aTBG_PERIOD g)).fld 0 24 else s.get (fTBG_PERIOD_t h) } else pl
  let (n, d) := s.cRate pl k
  (d, n)

/-- ts in seconds (R99) and in fine ticks. -/
def State.stepTs (s : State) (k : Nat) : Word := let (d, n) := s.stepFrac k; F32.ofRat d (n * 400000000)
def State.stepFine (s : State) (k : Nat) : Nat := let (d, n) := s.stepFrac k; if n = 0 then 0 else 32 * d / n

/-- The period a set is computed with, in ticks (R82, 06_thyme_and_pwm.md R218). -/
def State.setPeriod (s : State) (k : Nat) : Nat :=
  match s.cTbg k with
  | some g => if (s.ctx k).marked then (s.cmtVal (aTBG_PERIOD g)).fld 0 24 else s.get (fTBG_PERIOD_t g)
  | none => 0

/-- The context runs K_DISCH in place of its kernel (R80). -/
def State.runsDisch (s : State) (k : Nat) : Bool :=
  (s.cKid k == 1 || s.cKid k == 2) && (match s.cMg k with | some m => s.mgState m == 4 && (s.mg m).dis == 1 | none => false)

/-- The set a kernel writes: compare values, instants, all switches off. -/
structure KOut where
  cmps : List LegCmp := []
  smp : List (Nat × Nat) := []
  trg0 : Option Nat := none
  trg1 : Option Nat := none
  dark : Bool := false
  deriving DecidableEq, Repr

/-- What a step yields: outputs, kernel status words, words of the state region, kernel state, saturation, the deviation
condition (none without a plant model), the prediction, the phase, the set, values used for legs not measured, predicted
samples for the next instant, kernel requests (reason, request code), records, generator words, further values that must be
finite. -/
structure KRes where
  outs : List Word := []
  stat : List Word := []
  ws : List (Nat × Word) := []
  k : KSt := {}
  sat : Bool := false
  dev : Option Bool := none
  yPred : List Word := []
  phase : Nat := 0
  set : Option KOut := none
  cons : List PredV := []
  preds : List PredV := []
  pred : Bool := false
  reqs : List (Nat × Nat) := []
  recs : List (Nat × List Byte) := []
  pgw : List Word := []
  pgDone : Bool := false
  chk : List Word := []
  deriving DecidableEq, Repr

/-- Every value of the step is finite (R95). -/
def KRes.finite (r : KRes) : Bool :=
  r.outs.all F32.isFinite && r.ws.all (fun x => F32.isFinite x.2) && r.chk.all F32.isFinite && (r.pgw.take 4).all F32.isFinite
    && (r.preds ++ r.cons).all (fun x => F32.isFinite x.val) && r.yPred.all F32.isFinite

/-- One PI controller with its anti-windup (R98, R99), and `ff` added before the limit: u, the integrator, saturation. -/
def piStep (priv hold : Bool) (kp ki ts lo hi ff e i : Word) : Word × Word × Bool :=
  let inc := F32.mul (F32.mul ki ts) e
  let i' :=
    if hold then i
    else if priv then
      let t := F32.add (F32.add (F32.add (F32.mul kp e) i) inc) ff
      if (F32.lt hi t && F32.lt 0 e) || (F32.lt t lo && F32.lt e 0) then i else F32.add i inc
    else F32.clamp lo hi (F32.add i inc)
  let raw := F32.add (F32.add (F32.mul kp e) i') ff
  let u := F32.clamp lo hi raw
  (u, i', !F32.eq u raw)

/-- The sign of a number as -1, 0 or 1. -/
def F32.sgn (x : Word) : Word := if F32.lt 0 x then F32.one else if F32.lt x 0 then F32.negate F32.one else 0
/-- The sign of a number as -1 or 1. -/
def F32.sgn1 (x : Word) : Word := if F32.lt x 0 then F32.negate F32.one else F32.one

/-! The profile generator (R102 to R104). -/

/-- The generator's limits (R75). -/
structure PgPar where
  vMax : Word
  aMax : Word
  dMax : Word
  jMax : Word
  pTol : Word
  vTol : Word
  deriving DecidableEq, Repr

/-- The jerk of the velocity rule. -/
def pgJerk (x : PgPar) (ts vt v a : Word) : Word :=
  let stop := F32.add v (F32.div (F32.mul a (F32.abs a)) (F32.mul F32.two x.jMax))
  let j := if F32.lt stop (F32.sub vt x.vTol) then x.jMax
    else if F32.lt (F32.add vt x.vTol) stop then F32.negate x.jMax
    else F32.lim x.jMax (F32.div (F32.negate a) ts)
  let lim := if F32.eq (F32.sgn (F32.add a (F32.mul j ts))) (F32.sgn v) then x.aMax else x.dMax
  F32.clamp (F32.div (F32.sub (F32.negate lim) a) ts) (F32.div (F32.sub lim a) ts) j

/-- The target speed of the position mode. -/
def pgBrake (x : PgPar) (d : Word) : Word :=
  let n := F32.abs d
  let d2 := F32.mul x.dMax x.dMax
  let j2 := F32.mul x.jMax x.jMax
  let v := if F32.le (F32.div (F32.mul d2 x.dMax) j2) n then
      F32.add (F32.negate (F32.div d2 (F32.mul F32.two x.jMax)))
        (F32.sqrt (F32.add (F32.div (F32.mul d2 d2) (F32.mul (F32.ofInt 4) j2)) (F32.mul (F32.mul F32.two x.dMax) n)))
    else Config.cbrt32 (F32.mul (F32.mul n n) x.jMax)
  F32.mul (F32.sgn d) (F32.min x.vMax v)

/-- One step of the generator (R102, R103): p, v, a and whether it has reached the target. -/
def pgStep (x : PgPar) (pos : Bool) (ts tgt p v a : Word) : Word × Word × Word × Bool :=
  let vt := if pos then pgBrake x (F32.sub tgt p) else F32.lim x.vMax tgt
  let j := pgJerk x ts vt v a
  let t2 := F32.mul ts ts
  let p' := F32.add (F32.add (F32.add p (F32.mul v ts)) (F32.div (F32.mul a t2) F32.two)) (F32.div (F32.mul (F32.mul j t2) ts) (F32.ofInt 6))
  let v' := F32.add (F32.add v (F32.mul a ts)) (F32.div (F32.mul j t2) F32.two)
  let a' := F32.add a (F32.mul j ts)
  if pos then
    if F32.le (F32.abs (F32.sub tgt p')) x.pTol && F32.le (F32.abs v') x.vTol then (tgt, v', 0, true) else (p', v', a', false)
  else
    if F32.le (F32.abs (F32.sub v' vt)) x.vTol && F32.isZero a' then (p', vt, 0, true) else (p', v', a', false)

/-- The limits of a context's generator. -/
def State.pgPar (s : State) (k : Nat) : PgPar :=
  ⟨s.cw k 0x344, s.cw k 0x348, s.cw k 0x34C, s.cw k 0x350, s.cw k 0x354, s.cw k 0x358⟩
/-- The mode word of a generator is position (R103). -/
def State.pgPos (s : State) (k : Nat) : Bool := F32.isNat (s.cw k 0x340) 2

/-- The generator of a context in a step: p, v, a, target, done. In a safe state it holds its state with a = 0 (R104). -/
def State.pgRun (s : State) (k : Nat) (ts : Word) : Word × Word × Word × Bool :=
  let p := s.cw k 0x360
  let v := s.cw k 0x364
  if s.mgSafe k then (p, v, 0, (s.ctx k).w.pgDone)
  else pgStep (s.pgPar k) (s.pgPos k) ts (s.cw k 0xC4) p v (s.cw k 0x368)

/-- The generator words of the context area (R75) after a step. -/
def pgWords (tgt : Word) (g : Word × Word × Word × Bool) : List Word :=
  let (p, v, a, d) := g
  [p, v, a, tgt, if d then 1 else 0]

/-- Set-point and feed-forward a kernel takes from the generator (R102, R104), or the set-point of the instant. Where the generator is
on and is not the source of the set-point, the feed-forward is 0: R79 and R104 leave that combination open (DESIGN CHOICE, log entry
46). -/
def State.kSet (s : State) (k kid : Nat) (g : Word × Word × Word × Bool) : Word × Word :=
  let (p, v, a, _) := g
  if s.cPg k && (s.cw k 0xC0).fld 12 2 = 2 then
    (if kid = 8 then (p, v) else if kid = 7 then (v, a) else (v, 0))
  else ((s.ctx k).setp, 0)

/-- The value of an input the step uses (R83); 0 where there is none. -/
def State.inp (s : State) (k j : Nat) : Word := Tab.get 0 (s.ctx k).stepIn j

/-- Eight outputs. -/
def pad8 (l : List Word) : List Word := (l ++ List.replicate 8 0).take 8

/-- K_SPEED and K_PI (R79). -/
def kPi (s : State) (k : Nat) (ts sp ff : Word) (speed : Bool) : KRes :=
  let e := F32.sub sp (s.inp k 0)
  let f := if speed then F32.mul (s.cw k 0x110) ff else 0
  let (u, i, sat) := piStep (s.cPriv k) (s.mgSafe k) (s.cw k 0x100) (s.cw k 0x104) ts (s.cw k 0x108) (s.cw k 0x10C) f e (s.wk k 0x380)
  { outs := [u, e], ws := [(0x380, i)], sat := sat, k := (s.ctx k).wk.k }

/-- K_POS (R79). -/
def kPos (s : State) (k : Nat) (sp ff : Word) : KRes :=
  let e := F32.sub sp (s.inp k 0)
  let raw := F32.add (F32.mul (s.cw k 0x100) e) (F32.mul (F32.clamp 0 F32.one (s.cw k 0x10C)) ff)
  let u := F32.clamp (s.cw k 0x104) (s.cw k 0x108) raw
  { outs := [u, e], sat := !F32.eq u raw, k := (s.ctx k).wk.k }

/-- Parameters of an incremental-conductance step (05_grid_and_pv.md R182). -/
structure MppPar where
  vMin : Word
  vMax : Word
  stepMin : Word
  stepMax : Word
  kStep : Word
  gEps : Word
  deriving DecidableEq, Repr

/-- The incremental-conductance step (R182). -/
def mppStep (x : MppPar) (v i vp ip vref : Word) : Word :=
  let dv := F32.sub v vp
  let di := F32.sub i ip
  let (move, step) :=
    if F32.le i 0 then (F32.one, x.stepMin)
    else if F32.lt (F32.abs dv) (F32.div x.stepMin F32.two) then
      (if F32.le (F32.abs di) (F32.mul x.gEps i) then 0 else F32.sgn di, x.stepMin)
    else
      let g := F32.add F32.one (F32.mul (F32.div v i) (F32.div di dv))
      let st := F32.clamp x.stepMin x.stepMax
        (F32.mul x.kStep (F32.abs (F32.div (F32.sub (F32.mul v i) (F32.mul vp ip)) dv)))
      (if F32.le (F32.abs g) x.gEps then 0 else F32.sgn g, st)
  F32.clamp x.vMin x.vMax (F32.add vref (F32.mul move step))

/-- K_MPPT (R185): its reference starts at v_start in the first step after START. -/
def kMppt (s : State) (k : Nat) : KRes :=
  let x : MppPar := ⟨s.cw k 0x100, s.cw k 0x104, s.cw k 0x10C, s.cw k 0x110, s.cw k 0x114, s.cw k 0x118⟩
  let st := (s.ctx k).wk.k
  let v := s.inp k 0
  let i := s.inp k 1
  let r := if st.nxt = 0 then F32.clamp x.vMin x.vMax (s.cw k 0x108)
    else mppStep x v i (s.wk k 0x384) (s.wk k 0x388) (s.wk k 0x380)
  { outs := [r], ws := [(0x380, r), (0x384, v), (0x388, i)], k := { st with nxt := 1 } }

/-- A bit of a mask. -/
def hasBit (m i : Nat) : Bool := m / 2 ^ i % 2 == 1

/-- Bits as a word. -/
def flagWord (l : List (Nat × Bool)) : Nat := l.foldl (fun x (i, b) => if b then x + 2 ^ i else x) 0

end Sys2Proof.Machine
end

