-- ==== Sys2Proof/Machine/Vectors.lean ====
section
/-! DEFINITION. What the machine and grid kernels share: transforms (04_machine_control.md R117), sample windows and the
forms of a leg current (R127 to R132), modulation (R126), the window limit (R130), the Kirchhoff balance (R134 to R136). -/
namespace Sys2Proof.Machine
open F32 (add sub mul div negate lt le)

/-- A vector of two components. -/
abbrev V2 := Word × Word

/-- αβ to dq at an angle. -/
def park (x : V2) (th : Word) : V2 :=
  let c := Config.cos32 th
  let n := Config.sin32 th
  (add (mul x.1 c) (mul x.2 n), sub (mul x.2 c) (mul x.1 n))

/-- dq to αβ at an angle. -/
def ipark (x : V2) (th : Word) : V2 :=
  let c := Config.cos32 th
  let n := Config.sin32 th
  (sub (mul x.1 c) (mul x.2 n), add (mul x.1 n) (mul x.2 c))

/-- Clarke transform (R117). -/
def clarke (a b c : Word) : V2 := (div (sub (sub (mul F32.two a) b) c) F32.three, div (sub b c) F32.sqrt3)

/-- αβ to three phases. -/
def iclarke (x : V2) : List Word :=
  let h := negate (div x.1 F32.two)
  let q := mul (div F32.sqrt3 F32.two) x.2
  [x.1, add h q, sub h q]

/-- The magnitude of a vector. -/
def mag2 (x : V2) : Word := F32.sqrt (add (mul x.1 x.1) (mul x.2 x.2))

/-- The sum of a list. -/
def sumW (l : List Word) : Word := l.foldl add 0
/-- The largest and smallest of a list. -/
def maxW (l : List Word) : Word := match l with | [] => 0 | a :: r => r.foldl F32.max a
def minW (l : List Word) : Word := match l with | [] => 0 | a :: r => r.foldl F32.min a
/-- Element of a list, 0 beyond. -/
def wAt (l : List Word) (i : Nat) : Word := l.getD i 0

/-- An angle in 0 to 2π (R122, 05_grid_and_pv.md R158). -/
def wrap0 (x : Word) : Word :=
  if lt x 0 then add x F32.twoPi else if le F32.twoPi x then sub x F32.twoPi else x

/-! Windows and forms (R127, R128). -/

/-- The effective window of a leg at a period start, in fine ticks (R127), with the lengths of the period that ends and of the one that
starts: off compare of the first, on and off compare of the second. An empty high-side pulse leaves the low side on. -/
def winAt (pe pn dt offPrev on off : Nat) : Nat :=
  let l := pe - (offPrev + dt)
  let r := if on = off then pn else on - dt
  2 * min l r

/-- The length of the period of a leg that has ended; the present one where none has (R127). -/
def State.ended (s : State) (n p : Nat) : Nat := if (s.leg n).per = 0 then p else (s.leg n).per

/-- A leg current at an instant: leg, the measured value where one arrived, its window, whether the leg is narrow, the
prediction planned for this instant. -/
structure LegIn where
  leg : Nat
  raw : Option Word
  win : Nat
  narrow : Bool
  plan : Option Word
  deriving DecidableEq, Repr

/-- The value a leg takes and its form (R128, R153): 0 measured, 1 complement, 2 predicted, 3 DC-reconstructed. -/
structure LegVal where
  val : Word
  form : Nat
  deriving DecidableEq, Repr

/-- The legs of one set in their forms (R128, R130, R131). `now` are predictions computed from the sealed state, for what
was not planned; `dc` are DC-reconstructed values where the instant takes them. -/
def setForms (iso : Bool) (dc : Option (List Word)) (now : List Word) (ls : List LegIn) : List LegVal :=
  let gone (x : LegIn) : Bool := x.narrow || x.raw.isNone
  let bad := (ls.filter gone).length
  let meas := sumW (ls.filterMap (fun x => if gone x then none else x.raw))
  if bad = 0 then ls.map (fun x => ⟨x.raw.getD 0, 0⟩)
  else if bad = 1 && iso then ls.map (fun x => if gone x then ⟨negate meas, 1⟩ else ⟨x.raw.getD 0, 0⟩)
  else match dc with
    | some v => ls.zipIdx.map (fun (x, i) => if gone x then ⟨wAt v i, 3⟩ else ⟨x.raw.getD 0, 0⟩)
    | none =>
      let p := ls.zipIdx.map (fun (x, i) => (x, x.plan.getD (wAt now i)))
      let d := if bad = 2 then
          div (negate (add meas (sumW (p.filterMap (fun (x, v) => if gone x then some v else none))))) F32.two
        else 0
      p.map (fun (x, v) => if gone x then ⟨add v d, 2⟩ else ⟨x.raw.getD 0, 0⟩)

/-! Leg currents of a context. -/

/-- The predicted value planned for a leg at the instant of the step (R128, R132). -/
def Ctx.planned (c : Ctx) (n : Nat) : Option Word :=
  (c.preds.find? (fun p => p.leg == n && p.form == 2 && p.at_ == c.tS)).map (·.val)

/-- The window of a leg at the present period start (R127). -/
def State.winNow (s : State) (n p : Nat) : Nat :=
  winAt (s.ended n p) p (s.legDt n) (s.leg n).offPrev (s.get (fLEG_CMP_ON_on n)) (s.get (fLEG_CMP_OFF_off n))

/-- A leg current as it stands at the release of a step: `j` is the leg's place in the context. -/
def State.legIn (s : State) (k j n p : Nat) (scale wmin : Word) : LegIn :=
  let c := s.ctx k
  { leg := n, raw := (Tab.find c.stepIn (16 + j)).map (fun x => mul (F32.ofInt x.toInt) scale), win := s.winNow n p,
    narrow := lt (F32.secs (s.winNow n p)) wmin, plan := c.planned n }

/-- δ_n from an on-time (R134): the dead time adds where the current is negative. -/
def deltaN (p dt on : Nat) (i : Word) : Word :=
  let d := F32.ofRat on p
  if lt i 0 then add d (F32.ofRat (2 * dt) p) else d

/-- High-side on-time of compare values in a period. -/
def cmpOn (p on off : Nat) : Nat := if on ≤ off then off - on else off + p - on

/-! Modulation (R126). -/

/-- Compare values of a centred pulse of duty d, in fine ticks, for a period of `t` ticks (R126). -/
def centred (t : Nat) (leg : Nat) (d : Word) : LegCmp :=
  let x := mul (F32.ofInt 16) (F32.ofInt t)
  { leg := leg, on := (F32.toInt (mul x (sub F32.one d))).toNat, off := (F32.toInt (mul x (add F32.one d))).toNat }

/-- Duties of phase voltages, with the zero-sequence voltage of R126 where `zs`. -/
def duties (zs : Bool) (vdc : Word) (v : List Word) : List Word :=
  let o := if zs then negate (div (add (maxW v) (minW v)) F32.two) else 0
  v.map (fun x => add F32.half (div (add x o) vdc))

/-- A duty with the dead-time compensation of R126, held within 0 to 1. -/
def compDuty (p dt : Nat) (i d : Word) : Word :=
  F32.clamp 0 F32.one (if lt i 0 then sub d (F32.ofRat (2 * dt) p) else d)

/-- d_lim of a leg (R130). -/
def State.dLim (s : State) (wm t : Word) (n : Nat) : Word :=
  sub F32.one (div (add wm (F32.secs (2 * s.legDt n : Nat))) t)

/-- The factor that brings every duty of a set (rank 0), or every one but the highest (rank 1), down to its leg's d_lim at constant angle
(R130): pairs of d_lim and duty. -/
def limFactor (rank : Nat) (x : List (Word × Word)) : Word :=
  let top := maxW (x.map (·.2))
  let l := if rank = 0 then x else x.eraseP (fun y => y.2 == top)
  l.foldl (fun f y => if lt y.1 y.2 then F32.min f (div (sub y.1 F32.half) (sub y.2 F32.half)) else f) F32.one

/-! Kirchhoff balance (R134 to R136). -/

/-- The result of an evaluated period: residual, violation. -/
def kirch (ilim kAbs kRel meas cal : Word) : Word × Bool :=
  let r := sub meas cal
  (r, lt (add (mul kAbs ilim) (mul kRel (F32.max (F32.abs meas) (F32.abs cal)))) (F32.abs r))

/-- I_calc of the period that has ended (R134): means of the values at its ends, weighted by the duties applied. -/
def State.iCalc (s : State) (p : Nat) (legs : List Nat) (before now : List Word) : Word :=
  sumW (legs.zipIdx.map (fun (n, i) =>
    let m := div (add (wAt before i) (wAt now i)) F32.two
    mul (deltaN p (s.legDt n) (s.leg n).duty m) m))

/-- A predicted value for the instant `at_` (R153). -/
def predOf (n cnt win at_ : Nat) (v : Word) : PredV := { leg := n, val := v, form := 2, cnt := cnt, win := win / 128, at_ := at_ }

end Sys2Proof.Machine
end

