-- ==== Sys2Proof/Machine/MachineKernel.lean ====
section
/-! DEFINITION. K_PMSM, K_IM and K_DISCH (04_machine_control.md R117 to R153). Readings the rules leave open stand in log
entries 20 to 24. -/
namespace Sys2Proof.Machine
open F32 (add sub mul div negate lt le)

/-- Range and default of a K_PMSM parameter (R120, R121), with ILIM for the bounds that name it. -/
def pmRange (il : Word) (ofs : Nat) : Word × Word × Option Word :=
  let d (a b : Nat) : Word := F32.dec a b
  let i (n : Nat) : Word := F32.ofInt n
  match ofs with
  | 0x110 => (F32.one, i 32, none)
  | 0x114 => (negate fMax, fMax, none)
  | 0x130 => (F32.half, F32.one, some (d 95 100))
  | 0x13C => (d 80 100, F32.one, some (d 95 100))
  | 0x144 => (negate il, 0, none)
  | 0x14C => (negate F32.pi, F32.pi, none) | 0x150 => (negate F32.pi, F32.pi, none) | 0x154 => (negate F32.pi, F32.pi, none)
  | 0x15C => (d 4 10000000, d 5 1000000, some (d 18 10000000))
  | 0x160 => (d 4 10000000, d 5 1000000, some (d 12 10000000))
  | 0x168 => (negate F32.pi, F32.pi, none)
  | 0x17C => (F32.one, i 500, none)
  | 0x180 => (d 1 100, F32.one, some (d 20 100))
  | 0x184 => (d 5 100, F32.one, some (d 35 100))
  | 0x188 => (d 50 1000000, d 10 1000, some (d 5 10000))
  | 0x18C => (d 5 100, d 90 100, some (d 30 100))
  | 0x190 => (d 10 100, d 95 100, some (d 60 100))
  | 0x194 => (F32.one, i 64, some (i 8))
  | 0x198 => (d 2 10000, d 20 1000, some (d 2 1000))
  | 0x19C => (0, il, none)
  | 0x1A4 => (d 1 10, i 10, some F32.two)
  | 0x1AC => (i 40, i 500, some (i 40))
  | 0x1B0 => (i 5, i 500, some (i 40))
  | 0x1B4 => (d 5 1000, d 1 10, some (d 2 100))
  | 0x1BC => (d 1 10, i 30, some (i 5))
  | 0x1C4 => (d 5 1000, d 20 100, some (d 3 100))
  | 0x1C8 => (d 1 100, d 30 100, some (d 5 100))
  | 0x1CC => (F32.one, i 32, some (i 4))
  | 0x1D4 => (F32.one, i 500, none)
  | 0x1D8 => (d 1 10, i 10, some F32.one)
  | 0x1DC => (negate (d 1 100), 0, none)
  | 0x1E0 => (negate (i 40), i 200, none)
  | 0x1E8 => (0, il, none)
  | _ => (0, fMax, none)

/-- ILIM of a context. -/
def State.cIlim (s : State) (k : Nat) : Word := s.cw k 0xC8

/-- A parameter of a machine context as it is used (R121). -/
def State.pm (s : State) (k ofs : Nat) : Word :=
  let (lo, hi, d) := pmRange (s.cIlim k) ofs
  parIn lo hi d (s.cw k ofs)

/-- A flag of a machine context. -/
def State.pmOn (s : State) (k ofs : Nat) : Bool := parNat 1 (s.cw k ofs) = 1

/-- Constants of the model a machine kernel predicts with (R129, R152). -/
structure Mach where
  rs : Word
  ld : Word
  lq : Word
  psi : Word
  deriving DecidableEq, Repr

/-- What every part of a machine step uses. -/
structure MEnv where
  k : Nat
  im : Bool
  disch : Bool
  priv : Bool
  hold : Bool
  n : Nat
  legs : List Nat
  t : Word
  tF : Nat
  p : Nat
  pT : Nat
  pe : Nat
  vdc : Word
  ilim : Word
  mc : Mach
  sp : Word
  deriving DecidableEq, Repr

/-- The legs of set j. -/
def MEnv.setLegs (e : MEnv) (j : Nat) : List Nat := (e.legs.drop (3 * j)).take 3

/-- The angle offset of set j (R117, R120). -/
def State.phi (s : State) (k j : Nat) : Word := if j = 0 then 0 else s.pm k (0x148 + 4 * j)

/-- Is the neutral of set j isolated (R120)? -/
def State.iso (s : State) (k j : Nat) : Bool := parNat 15 (s.cw k 0x158) / 2 ^ j % 2 == 1

/-- The currents of a set after a time t (R129). -/
def predDq (m : Mach) (om t : Word) (i v : V2) : V2 :=
  (add i.1 (mul (div t m.ld) (add (sub v.1 (mul m.rs i.1)) (mul (mul om m.lq) i.2))),
   add i.2 (mul (div t m.lq) (sub (sub (sub v.2 (mul m.rs i.2)) (mul (mul om m.ld) i.1)) (mul om m.psi))))

/-- The mean voltage vector that a set's on-times produce, at an angle (R129). -/
def meanV (s : State) (p : Nat) (vdc th : Word) (legs ons : List Nat) (is : List Word) : V2 :=
  let v := legs.zipIdx.map (fun (n, i) => mul vdc (deltaN p (s.legDt n) (ons.getD i 0) (wAt is i)))
  park (clarke (wAt v 0) (wAt v 1) (wAt v 2)) th

/-- Phase currents as dq at an angle. -/
def dqOf (is : List Word) (th : Word) : V2 := park (clarke (wAt is 0) (wAt is 1) (wAt is 2)) th

/-! The present instant: forms of the leg currents (R128 to R132). -/

/-- The DC-link values of R133 advanced to the present period start: the legs of the set in its order; `th` is the angle of the present
instant. The dead time is that of the leg whose edge begins the interval (DEDUCED, log entry 48). -/
def State.dcValues (s : State) (e : MEnv) (th om : Word) : List Word :=
  let ons := e.legs.map (fun n => (n, (s.leg n).duty))
  let by_ := ons.foldl (fun (l : List (Nat × Nat)) x => (l.filter (fun y => x.2 ≤ y.2)) ++ [x] ++ l.filter (fun y => y.2 < x.2)) []
  let nth (i : Nat) : Nat × Nat := by_.getD i (0, 0)
  let iMin := negate (s.inp e.k 3)
  let iMax := s.inp e.k 4
  let iMid := negate (add iMax iMin)
  let val (n : Nat) : Word := if n = (nth 0).1 then iMax else if n = (nth 2).1 then iMin else iMid
  let now := e.legs.map val
  let half := e.pe / 2
  -- the remaining interval of each conversion to the period end
  let off (i : Nat) : Nat := half + (nth i).2 / 2
  let rest (a b : Nat) : Word := F32.secs (e.pe - ((off a + off b) / 2 + s.legDt (nth a).1 / 2))
  let adv (t : Word) : List Word :=
    let i := dqOf now (sub th (mul om t))
    let v := meanV s e.pe e.vdc (sub th (mul om (div t F32.two))) e.legs (ons.map (·.2)) now
    iclarke (ipark (predDq e.mc om t i v) th)
  let aMin := adv (rest 2 1)
  let aMax := adv (rest 1 0)
  let place (n : Nat) (l : List Word) : Word := wAt l (e.legs.idxOf n)
  let lo := place (nth 2).1 aMin
  let hi := place (nth 0).1 aMax
  e.legs.map (fun n => if n = (nth 0).1 then hi else if n = (nth 2).1 then lo else negate (add hi lo))

/-- The leg currents of the step: values and forms, whether each set has a predicted leg. -/
structure Meas where
  legs : List (LegIn × LegVal)
  sets : List Bool
  deriving DecidableEq, Repr

/-- The currents of the legs of set j. -/
def Meas.cur (m : Meas) (j : Nat) : List Word := ((m.legs.drop (3 * j)).take 3).map (·.2.val)
/-- All leg currents. -/
def Meas.all (m : Meas) : List Word := m.legs.map (·.2.val)

/-- Do the values of slots 3 and 4 stand for the present instant (R130, R133): triggers were placed for it, and both conversions came? -/
def State.dcHere (s : State) (e : MEnv) (w : KSt) : Bool :=
  let c := s.ctx e.k
  e.n = 1 && w.dcAt.contains c.tS && !hasBit c.old 3 && !hasBit c.old 4

/-- The leg currents of the present instant (R128 to R132); `th` is the angle of that instant, for what is computed now from the
sealed currents. -/
def State.machMeas (s : State) (e : MEnv) (w : KSt) (th om : Word) : Meas :=
  let si := s.pm e.k 0x114
  let wm := s.pm e.k 0x15C
  let te := F32.secs e.pe
  let sets := (List.range e.n).map (fun j =>
    let ls := (e.setLegs j).zipIdx.map (fun (n, i) => s.legIn e.k (3 * j + i) n e.p si wm)
    let was := (w.cur.drop (3 * j)).take 3
    let t1 := add th (s.phi e.k j)
    let t0 := sub t1 (mul om te)
    let ons := (e.setLegs j).map (fun n => (s.leg n).duty)
    -- R129 from the sealed currents over the period that has ended
    let v := meanV s e.pe e.vdc (add t0 (mul om (div te F32.two))) (e.setLegs j) ons was
    let now := iclarke (ipark (predDq e.mc om te (dqOf was t0) v) t1)
    -- the fourth predicted instant, or one whose prediction was cancelled (R130, R132)
    let dc := if s.dcHere e w && (3 ≤ w.cnt.getD j 0 || ls.any (fun x => x.narrow && x.plan.isNone)) then some (s.dcValues e th om) else none
    (ls, setForms (s.iso e.k j) dc now ls))
  { legs := sets.flatMap (fun (a, b) => a.zip b), sets := sets.map (fun (_, b) => b.any (fun x => x.form == 2)) }

/-! Observer and confidence (R137, R138). -/

/-- The observer of K_PMSM. -/
structure Obs where
  th : Word
  om : Word
  ea : Word
  eb : Word
  ia : Word
  ib : Word
  c : Word
  lockN : Nat
  deriving DecidableEq, Repr

/-- One step of the observer with mean current and voltage vectors (R137), and of the confidence (R138). The sign of a speed of 0 is
taken as 1: R137 makes e_θ 0 only where the EMF is (DEDUCED, log entry 21). -/
def State.obsStep (s : State) (e : MEnv) (o : Obs) (i v : V2) : Obs :=
  let da := sub i.1 o.ia
  let db := sub i.2 o.ib
  let l1 := s.pm e.k 0x16C
  let l2 := s.pm e.k 0x170
  let up (io vv ee d : Word) : Word :=
    add io (mul e.t (add (div (sub (sub vv (mul e.mc.rs io)) ee) e.mc.ld) (mul l1 d)))
  let ia := up o.ia v.1 o.ea da
  let ib := up o.ib v.2 o.eb db
  let ea := sub o.ea (mul (mul e.t l2) da)
  let eb := sub o.eb (mul (mul e.t l2) db)
  let m := mag2 (ea, eb)
  let et := if F32.isZero m then 0
    else mul (F32.sgn1 o.om) (div (sub (mul (negate ea) (Config.cos32 o.th)) (mul eb (Config.sin32 o.th))) m)
  let om := add o.om (mul (mul e.t (s.pm e.k 0x178)) et)
  let th := F32.wrap (add o.th (mul e.t (add om (mul (s.pm e.k 0x174) et))))
  let eps := div (mag2 (da, db)) e.ilim
  let lam := F32.abs (Config.asin32 et)
  let raw := F32.clamp 0 F32.one (sub F32.one (F32.max (div eps (s.pm e.k 0x180)) (div lam (s.pm e.k 0x184))))
  let fo := mul F32.twoPi (s.pm e.k 0x17C)
  let c := if le fo (F32.abs om) then add o.c (mul (F32.min F32.one (div e.t (s.pm e.k 0x188))) (sub raw o.c)) else o.c
  let cMin := s.pm e.k 0x18C
  let cl := s.pm e.k 0x190
  let cl := if lt cMin cl then cl else add cMin (F32.dec 5 100)
  { th := th, om := om, ea := ea, eb := eb, ia := ia, ib := ib, c := c, lockN := if le cl c then min (o.lockN + 1) 64 else 0 }

/-- Has the observer lock (R138)? -/
def State.obsLock (s : State) (k : Nat) (o : Obs) : Bool := parNat 64 (s.pm k 0x194) ≤ o.lockN

/-- The sealed observer. -/
def State.obs0 (s : State) (k : Nat) (w : KSt) : Obs :=
  { th := s.wk k 0x3A4, om := s.wk k 0x3A8, ea := s.wk k 0x3AC, eb := s.wk k 0x3B0, ia := s.wk k 0x3B4, ib := s.wk k 0x3B8,
    c := s.wk k 0x3BC, lockN := w.lockN }

/-! Phases (R139 to R147). -/

/-- The observer state at START (R142). -/
def Obs.zero : Obs := { th := 0, om := 0, ea := 0, eb := 0, ia := 0, ib := 0, c := 0, lockN := 0 }

/-- The first phase of a context that starts or leaves a safe state (R142); `om0` is the last sealed speed. `skip` leaves out the first
row; `start` is a START, `short` a safe state under 1 ms. -/
def State.entryPhase (s : State) (k : Nat) (o : Obs) (om0 : Word) (skip start short branch : Bool) : Nat :=
  let slow (x : Word) : Bool := lt (F32.abs x) (mul F32.twoPi (s.pm k 0x17C))
  if s.cKid k = 2 then 2
  else if s.pmOn k 0x1A8 && !skip then 1
  else if s.pmOn k 0x164 then 2
  else if s.obsLock k o && !slow o.om then 2
  else if (start && slow om0) || (short && slow om0) || branch then 6
  else 1

/-- Was the group of a context in its last safe state for less than 1 ms (R142)? -/
def State.shortSafe (s : State) (k : Nat) : Bool :=
  match s.cMg k with | some m => (s.mg m).outAt < (s.mg m).inAt + ms | none => false

/-- Does the step of a context begin anew: the first one after START, or after its group has left a safe state (R142)? -/
def State.enters (s : State) (k : Nat) (w : KSt) : Bool := w.nxt = 9 || (w.safe && s.setLive k)

/-- The phase the next step of a machine context begins in, as its sealed state tells (R119, R142). -/
def State.nextPhase (s : State) (k : Nat) : Nat :=
  let w := (s.ctx k).w.k
  let om := s.cw k 0x3A8
  if s.enters k w then s.entryPhase k { Obs.zero with om := om, lockN := w.lockN } om false (w.nxt = 9) (s.shortSafe k && w.nxt ≠ 9) false
  else w.nxt

/-- What the phase of a step decides: phase, its timer, angle and speed of the transforms, references d and q of every set,
torque reference, whether the currents are controlled, the next step's phase, kernel requests, and the kernel state. -/
structure Ph where
  phase : Nat
  th : Word
  om : Word
  iq : Option Word := none
  id : Option Word := none
  tRef : Word := 0
  ctl : Bool := true
  brake : Bool := false
  nxt : Nat
  reqs : List (Nat × Nat) := []
  o : Obs
  w : KSt
  preset : Bool := false
  pgw : List Word := []
  deriving DecidableEq, Repr

/-! Voltage limit and current references (R124, R125). -/

/-- The voltage limit (R125): the circle, or the hexagon at the angle of the unlimited vector. -/
def State.vLim (s : State) (e : MEnv) (gamma : Word) : Word :=
  if s.pmOn e.k 0x134 then
    let six := div F32.pi F32.three
    let g := sub gamma (mul six (F32.ofInt (F32.floor (div gamma six))))
    div (div e.vdc F32.sqrt3) (Config.cos32 (sub g (div F32.pi (F32.ofInt 6))))
  else div (mul (s.pm e.k 0x130) e.vdc) F32.sqrt3

/-- The current references of a step (R124): d, q, the field-weakening integrator, and whether it acts. With sp_mode = 1 the d-axis
reference of K_PMSM is 0, as steps 2 and 3 do not apply (DEDUCED, log entry 48); ILIM holds the vector (R117). -/
def State.currentRefs (s : State) (e : MEnv) (ph : Ph) (vl : Word) : Word × Word × Word × Bool :=
  let m := e.mc
  let fw0 := s.wk e.k 0x3A0
  let idMin := if e.im then F32.clamp 0 e.ilim (s.cw e.k 0x144) else s.pm e.k 0x144
  let run := ph.ctl && !e.hold && !e.disch
  let ev := sub (mul (s.pm e.k 0x13C) vl) ph.w.vMax
  let lo := if e.im then negate e.ilim else idMin
  let (_, fw, _) := piStep e.priv (!run) 0 (s.pm e.k 0x140) e.t lo 0 0 ev fw0
  let dl := sub m.lq m.ld
  let mtpa := if s.pmOn e.k 0x138 && !e.im && lt m.ld m.lq then
      div (sub m.psi (F32.sqrt (add (mul m.psi m.psi) (mul (mul (mul (F32.ofInt 8) dl) dl) (mul ph.w.iqPrev ph.w.iqPrev)))))
        (mul (F32.ofInt 4) dl)
    else 0
  let idr := match ph.id with
    | some d => d
    | none =>
      if e.im then F32.max idMin (add (div (s.pm e.k 0x10C) (s.pm e.k 0x108)) fw)
      else if s.pmOn e.k 0x11C then 0
      else F32.max idMin (add mtpa fw)
  let idr := F32.lim e.ilim idr
  let lim := F32.sqrt (F32.max 0 (sub (mul e.ilim e.ilim) (mul idr idr)))
  let iqr := match ph.iq with
    | some q => q
    | none =>
      if s.pmOn e.k 0x11C then ph.tRef
      else
        let pp := F32.ofInt (parNat 32 (s.pm e.k 0x110))
        let n := F32.ofInt e.n
        let kt := if e.im then
            let lm := s.pm e.k 0x108
            mul (div lm (add lm (s.pm e.k 0x104))) (s.wk e.k 0x3C8)
          else add m.psi (mul (sub m.ld m.lq) idr)
        div ph.tRef (mul (mul (mul (F32.dec 15 10) pp) n) kt)
  (idr, F32.lim lim iqr, fw, lt fw 0)

/-- The ramp of RESTORE (R142): the torque reference, whether it has reached the set-point, and the generator words where this step
runs the generator itself. Without the generator the reference approaches the set-point at t_ramp. Where the generator is the source
of the set-point, its speed is the reference, reached at the target speed; in position mode at once. With another source the
generator runs in velocity mode toward the set-point (DESIGN CHOICE, log entry 48). -/
def State.restoreRamp (s : State) (e : MEnv) (t0 : Word) : Word × Bool × List Word :=
  let x := s.pgPar e.k
  if !s.cPg e.k then
    let d := mul (s.pm e.k 0x148) e.t
    let t := if lt (add t0 d) e.sp then add t0 d else if lt e.sp (sub t0 d) then sub t0 d else e.sp
    (t, F32.eq t e.sp, [])
  else if (s.cw e.k 0xC0).fld 12 2 = 2 then (e.sp, s.pgPos e.k || F32.eq e.sp (F32.lim x.vMax (s.cw e.k 0xC4)), [])
  else
    let g := pgStep x false e.t e.sp (s.cw e.k 0x360) (s.cw e.k 0x364) (s.cw e.k 0x368)
    (g.2.1, F32.eq g.2.1 (F32.lim x.vMax e.sp), pgWords e.sp g)

/-- The torque reference that a q-axis and a d-axis reference stand for, as R124 step 4 relates them (R123). -/
def State.torqueOf (s : State) (e : MEnv) (id iq : Word) : Word :=
  if s.pmOn e.k 0x11C then iq
  else
    let pp := F32.ofInt (parNat 32 (s.pm e.k 0x110))
    mul (mul (mul (mul (F32.dec 15 10) pp) (F32.ofInt e.n)) (add e.mc.psi (mul (sub e.mc.ld e.mc.lq) id))) iq

/-- The references of COAST at a time after its start (R143 step 2). -/
def State.coastRefs (s : State) (e : MEnv) (w : KSt) (tf : Nat) : Word × Word :=
  let x := F32.ofRat tf 2560000
  let vl := div (mul (s.pm e.k 0x130) e.vdc) F32.sqrt3
  let h := F32.min 0 (div (sub (div vl (F32.abs w.om)) e.mc.psi) e.mc.ld)
  let h := F32.max h (s.pm e.k 0x144)
  (mul w.iq0 (F32.max 0 (sub F32.one x)), add w.id0 (mul (sub h w.id0) (F32.min F32.one x)))

/-- COAST in a step (R143, R144); `th0` is the observer's angle for this instant. The observer that is set stands at the angle of the next
instant. -/
def State.coast (s : State) (e : MEnv) (o : Obs) (th0 : Word) (w : KSt) : Ph :=
  let (iq, id) := s.coastRefs e w w.pt
  let th := F32.wrap (add w.th (mul w.om (F32.secs w.pt)))
  let zero := F32.isZero iq
  let o1 : Obs := if zero && !w.reset then
      let em := mul w.om e.mc.psi
      { o with th := F32.wrap (add th (mul w.om e.t)), om := w.om, ea := negate (mul em (Config.sin32 th)),
               eb := mul em (Config.cos32 th), lockN := 0 }
    else o
  let w := { w with reset := w.reset || zero }
  if w.reset && s.obsLock e.k o1 && lt (F32.secs (w.pt - e.tF : Nat)) (s.pm e.k 0x198) then
    { phase := 5, th := th0, om := o1.om, tRef := 0, nxt := 5, o := o1, w := { w with pt := 0 } }
  else
    let late := le (s.pm e.k 0x198) (F32.secs w.pt)
    let fw := le (div (mul (F32.dec 9 10) e.vdc) F32.sqrt3) (mul e.mc.psi (F32.abs w.om))
    { phase := 4, th := th, om := w.om, iq := some iq, id := some id, tRef := s.torqueOf e id iq, nxt := 4, o := o1, w := w,
      reqs := if late && lt (F32.secs (w.pt - e.tF : Nat)) (s.pm e.k 0x198) then [(1, if fw then 1 else 3)] else [] }

/-- Angle and frequency of OPENLOOP in a step (R139): as given in the first one. -/
def State.olNow (s : State) (e : MEnv) (first : Bool) (w : KSt) : V2 :=
  if first then (w.th, w.om)
  else
    let f := if F32.isZero e.sp then 0 else add w.om (mul (mul (F32.sgn e.sp) (mul F32.twoPi (s.pm e.k 0x1A0))) e.t)
    (F32.wrap (add w.th (mul f e.t)), f)

/-- OPENLOOP in a step (R139). -/
def State.openLoop (s : State) (e : MEnv) (first : Bool) (o : Obs) (w : KSt) : Ph :=
  let (th, f) := s.olNow e first w
  let pt := if F32.isZero e.sp then w.pt - e.tF else w.pt
  let up := le (mul F32.twoPi (s.pm e.k 0x17C)) (F32.abs f) && s.obsLock e.k o
  let late := le (s.pm e.k 0x1A4) (F32.secs pt)
  { phase := 6, th := th, om := f, iq := some 0, id := some (s.pm e.k 0x19C), nxt := if up then 2 else 6, o := o,
    w := { w with th := th, om := f, pt := pt }, reqs := if late && !up && lt (F32.secs (pt - e.tF : Nat)) (s.pm e.k 0x1A4) then [(6, 3)] else [] }

/-- The line-to-line voltages of set j from its phase voltages: ab, bc, ca (R145). -/
def State.lineV (s : State) (k j : Nat) : Word × Word × Word :=
  let v (i : Nat) : Word := mul (F32.ofInt (s.inp k (32 + 3 * j + i)).toNat) (s.pm k 0x118)
  (sub (v 0) (v 1), sub (v 1) (v 2), sub (v 2) (v 0))

/-- The EMF vector of set 0 and the largest line-to-line voltage of all sets (R145). -/
def State.emf (s : State) (k n : Nat) : V2 × Word :=
  let l (j : Nat) : Word × Word × Word := s.lineV k j
  ((div (sub (l 0).1 (l 0).2.2) F32.three, div (l 0).2.1 F32.sqrt3),
    maxW ((List.range n).flatMap (fun j => [F32.abs (l j).1, F32.abs (l j).2.1, F32.abs (l j).2.2])))

/-- DETECT in a step (R145). -/
def State.detect (s : State) (e : MEnv) (o : Obs) (w : KSt) : Ph :=
  let (v, pk) := s.emf e.k e.n
  let ang := Config.atan232 v.2 v.1
  let acc := match w.detL with | some a => add w.detA (F32.wrap (sub ang a)) | none => 0
  let peak := F32.max w.detP pk
  let el := F32.secs w.pt
  let z := if lt pk (mul (s.pm e.k 0x1B4) e.vdc) then (if w.pt = 0 then 0 else w.detZ + e.tF) else 0
  let two := le (mul (F32.ofInt 4) F32.pi) (F32.abs acc)
  let om := if F32.isZero el then 0 else div acc el
  let f := div om F32.twoPi
  let fwd := if F32.isZero e.sp then lt 0 acc else F32.eq (F32.sgn acc) (F32.sgn e.sp)
  let th := F32.wrap (if lt om 0 then add ang (div F32.pi F32.two) else sub ang (div F32.pi F32.two))
  let fRev := s.pm e.k 0x1B0
  let br : Nat :=
    if le (mul (F32.dec 9 10) e.vdc) peak then 1
    else if two && lt (F32.abs f) (s.pm e.k 0x1AC) then 2
    else if two && fwd then 3
    else if two && lt (F32.abs f) fRev then 4
    else if two then 5
    else if 640000000 ≤ w.pt || 640000000 ≤ z then 6
    else 0
  let w1 := { w with detA := acc, detL := some ang, detP := peak, detZ := z }
  if br = 0 then { phase := 1, th := th, om := om, ctl := false, nxt := 1, o := o, w := w1 }
  else
    let fl := (w.flags &&& 0xFFFF07FF) ||| ((if br = 6 then 0 else if fwd then 0 else 1) * 2 ^ 11 + br * 2 ^ 12)
    let meas := if br = 6 then 0 else om
    let ahead := F32.wrap (add th (mul om e.t))
    let o1 : Obs := if br = 3 || br = 4 then { o with th := ahead, om := om } else o
    let nx : Nat := if br = 1 || br = 5 then 3 else if br = 3 || br = 4 then 2 else s.entryPhase e.k o om true false false true
    { phase := 1, th := th, om := meas, ctl := false, nxt := nx, o := o1,
      w := { w1 with flags := fl, brake := br, th := if br = 6 then 0 else ahead, om := meas, detA := 0, detL := none, detP := 0 } }

/-- BRAKE in a step (R146): the speed from the rotation of the current vector, known from its second step on. -/
def State.brakeStep (s : State) (e : MEnv) (o : Obs) (w : KSt) (i : V2) : Ph :=
  let ang := Config.atan232 i.2 i.1
  let om := match w.detL with | some a => div (F32.wrap (sub ang a)) e.t | none => w.om
  let f := F32.abs (div om F32.twoPi)
  let fin := w.detL.isSome && (if w.brake = 1 then lt (mul e.mc.psi (F32.abs om)) (div (mul (F32.dec 8 10) e.vdc) F32.sqrt3)
    else lt f (s.pm e.k 0x1B0))
  let late := le (s.pm e.k 0x1BC) (F32.secs w.pt)
  let nx : Nat := if fin then (if w.brake = 7 then 5 else 1) else 3
  { phase := 3, th := o.th, om := om, ctl := false, brake := true, nxt := nx, o := o,
    w := { w with detL := some ang, om := om }, reqs := if late && lt (F32.secs (w.pt - e.tF : Nat)) (s.pm e.k 0x1BC) then [(5, 1)] else [] }

/-- The torque reference of NORMAL, with the ramp after a wrong-motor finding (R124 step 1, R149). -/
def wrongRamp (w : KSt) (x : Word) : Word :=
  match w.wrong with
  | some t => mul w.iq0 (F32.max 0 (sub F32.one (F32.ofRat t 2560000)))
  | none => x

/-- NORMAL and RESTORE in a step (R142, R147), before the checks for COAST. -/
def State.drive (s : State) (e : MEnv) (ph : Nat) (th om : Word) (o : Obs) (w : KSt) : Ph :=
  let t0 := s.wk e.k 0x3CC
  let slow := lt (F32.abs o.om) (mul (F32.dec 8 10) (mul F32.twoPi (s.pm e.k 0x17C)))
  if ph = 0 && !e.im && !s.pmOn e.k 0x164 && slow then
    s.openLoop e true o { w with th := th, om := om, pt := 0 }
  else if ph = 0 && !e.im && s.pmOn e.k 0x1B8 && F32.eq (F32.sgn e.sp) (negate (F32.sgn om)) && !F32.isZero e.sp
      && le (s.pm e.k 0x1B0) (F32.abs (div om F32.twoPi)) then
    { phase := 3, th := th, om := om, ctl := false, brake := true, nxt := 3, o := o,
      w := { w with brake := 7, pt := 0, detL := none, om := om } }
  else if ph = 5 then
    let (t, fin, g) := s.restoreRamp e t0
    let p := if fin then 0 else 5
    { phase := p, th := th, om := om, tRef := wrongRamp w t, nxt := p, o := o, w := w, pgw := g }
  else { phase := 0, th := th, om := om, tRef := wrongRamp w e.sp, nxt := 0, o := o, w := w }

/-- Does K_DISCH hold the angle where it last stood (R150): without a sensor, below the speed at which the observer's angle is used? -/
def State.dischStill (s : State) (e : MEnv) (om : Word) : Bool :=
  e.disch && !e.im && !s.pmOn e.k 0x164 && lt (F32.abs om) (mul F32.twoPi (s.pm e.k 0x17C))

/-- The angle of the present instant and the speed, as the phase of the step takes them (R138, R139, R143, R144, R150). -/
def State.angleNow (s : State) (e : MEnv) (o0 : Obs) (w : KSt) (thS omS : Word) : V2 :=
  if s.pmOn e.k 0x164 || e.im then (thS, omS)
  else if s.dischStill e o0.om then (w.thL, 0)
  else if e.disch || e.hold || s.enters e.k w then (o0.th, o0.om)
  else if w.nxt = 4 then (F32.wrap (add w.th (mul w.om (F32.secs (w.pt + e.tF : Nat)))), w.om)
  else if w.nxt = 6 then s.olNow e ((s.ctx e.k).w.phase ≠ 6) w
  else (o0.th, o0.om)

/-- The phase of a step (R140 to R147). `i` is the mean current vector; `o0` is the sealed observer, which stands at the sample
instant (log entry 21). -/
def State.machPhase (s : State) (e : MEnv) (o o0 : Obs) (w : KSt) (i : V2) (thS omS : Word) : Ph :=
  let sens := s.pmOn e.k 0x164 && !e.im
  let th0 := o0.th
  let th := if sens || e.im then thS else th0
  let om := if sens || e.im then omS else o.om
  let entry := s.enters e.k w
  let ph := if e.disch then 7 else if entry then s.entryPhase e.k o o0.om false (w.nxt = 9) (s.shortSafe e.k && w.nxt ≠ 9) false else w.nxt
  let was := (s.ctx e.k).w.phase
  let w1 : KSt := { w with pt := if ph = was && !entry then w.pt + e.tF else 0 }
  let w1 := if ph = 1 && w1.pt = 0 then { w1 with detA := 0, detL := none, detP := 0, detZ := 0 }
    else if ph = 3 && was ≠ 3 then { w1 with detL := none } else w1
  if e.disch then
    let still := s.dischStill e o0.om
    { phase := 7, th := if still then w.thL else th, om := if still then 0 else om, iq := some 0, id := some (negate (s.pm e.k 0x1E8)),
      nxt := 7, o := o, w := w1 }
  -- a safe state ends COAST (R144)
  else if e.hold then { phase := if was = 4 then 0 else was, th := th, om := om, ctl := false, nxt := w.nxt, o := o, w := w1 }
  else match ph with
    | 1 => s.detect e o w1
    | 2 =>
      if e.im then
        let up := le (mul (F32.dec 9 10) (s.pm e.k 0x10C)) (s.wk e.k 0x3C8)
        { phase := 2, th := th, om := om, iq := some 0, nxt := if up then 5 else 2, o := o, w := w1, preset := false }
      else { phase := 2, th := th, om := om, tRef := 0, nxt := 5, o := o, w := w1, preset := true }
    | 3 => s.brakeStep e o w1 i
    | 4 => s.coast e o th0 w1
    | 6 => s.openLoop e (entry || was ≠ 6) o (if entry then { w1 with th := th0, om := 0 } else w1)
    | p =>
      -- R143: the observer has lost the rotor
      if !e.im && !sens && (p = 0 || p = 5) && lt o.c (s.pm e.k 0x18C) then
        let (idr, iqr, _) := s.currentRefs e (s.drive e p th om o w1) (s.vLim e w.gam)
        s.coast e o th0 { w1 with th := th, om := om, iq0 := iqr, id0 := idr, pt := 0, reset := false }
      else s.drive e p th om o w1

/-! Current control (R125). -/

/-- One set's current controllers and voltage limit (R125): voltages, integrators, unlimited magnitude, saturation,
overmodulation. -/
structure SetOut where
  v : V2
  i : V2
  un : Word
  gam : Word
  sat : Bool
  ovm : Bool
  deriving DecidableEq, Repr

/-- The current control of set j. -/
def State.setControl (s : State) (e : MEnv) (ph : Ph) (j : Nat) (idq ref : V2) : SetOut :=
  let i0 : V2 := if ph.preset then (0, mul ph.om e.mc.psi) else (s.wk e.k (0x380 + 8 * j), s.wk e.k (0x384 + 8 * j))
  let hold := e.hold && !e.disch
  let ed := sub ref.1 idq.1
  let eq := sub ref.2 idq.2
  let kpd := s.pm e.k 0x120
  let kid := s.pm e.k 0x124
  let kpq := s.pm e.k 0x128
  let kiq := s.pm e.k 0x12C
  let ud := add (add (mul kpd ed) i0.1) (mul (mul kid e.t) ed)
  let uq := add (add (mul kpq eq) i0.2) (mul (mul kiq e.t) eq)
  let ab := ipark (ud, uq) (add (add ph.th (s.phi e.k j)) (mul ph.om (div e.t F32.two)))
  let vl := s.vLim e (Config.atan232 ab.2 ab.1)
  let (vd, id, sd) := piStep e.priv hold kpd kid e.t (negate vl) vl 0 ed i0.1
  let ql := F32.sqrt (F32.max 0 (sub (mul vl vl) (mul vd vd)))
  let (vq, iq, sq) := piStep e.priv hold kpq kiq e.t (negate ql) ql 0 eq i0.2
  { v := (vd, vq), i := (id, iq), un := mag2 (ud, uq), gam := Config.atan232 ab.2 ab.1, sat := sd || sq,
    ovm := lt (div e.vdc F32.sqrt3) (mag2 (vd, vq)) }

/-- Phase voltages of a set's vector (R126). -/
def State.phaseV (s : State) (e : MEnv) (ph : Ph) (j : Nat) (v : V2) : List Word :=
  iclarke (ipark v (add (add ph.th (s.phi e.k j)) (mul ph.om (div e.t F32.two))))

/-! The next instant (R127 to R130). -/

/-- The window of a leg at the start of the next period, for the compare values of that period. -/
def State.nextWin (s : State) (e : MEnv) (cs : List LegCmp) (n : Nat) : Nat :=
  let off := if s.get (fLEG_CMP_ON_on n) = s.get (fLEG_CMP_OFF_off n) then 0 else s.get (fLEG_CMP_OFF_off n)
  match cs.find? (fun c => c.leg == n) with
  | some c => winAt e.p (32 * e.pT) (s.legDt n) off c.on c.off
  | none => e.p

/-- The windows of set j, and of all legs of a context, at the start of the next period. -/
def State.nextWins (s : State) (e : MEnv) (j : Nat) (cs : List LegCmp) : List Nat := (e.setLegs j).map (s.nextWin e cs)
def State.nextWinsOf (s : State) (e : MEnv) (cs : List LegCmp) : List Nat := e.legs.map (s.nextWin e cs)

/-- How many legs of a set are narrow at the next instant, and whether that makes predictions (R128). -/
def narrows (wm : Word) (ws : List Nat) : List Bool := ws.map (fun (w : Nat) => lt (F32.secs w) wm)
def predicts (iso : Bool) (ns : List Bool) : Bool :=
  let n := (ns.filter (· == true)).length
  n ≠ 0 && !(n == 1 && iso)

/-- The DC-link trigger instants of R133 for a set's duties in the next period, where both active vectors last long
enough (R130). -/
def State.dcTriggers (s : State) (e : MEnv) (cs : List LegCmp) : Option (Nat × Nat) :=
  let offs := cs.foldl (fun (l : List LegCmp) x => (l.filter (·.off ≤ x.off)) ++ [x] ++ l.filter (x.off < ·.off)) []
  match offs with
  | [a, b, c] =>
    let min_ := (F32.toInt (mul (s.pm e.k 0x160) (F32.ofInt 1000000000))).toNat * 128 / 10
    let da := s.legDt a.leg
    let db := s.legDt b.leg
    if min_ + da ≤ b.off - a.off && min_ + db ≤ c.off - b.off then
      some ((a.off + b.off) / 2 + da / 2, (b.off + c.off) / 2 + db / 2) else none
  | _ => none

/-! ke estimation (R148, R149). -/

/-- The ke estimate after a step: flux estimate, deviation, kernel state, requests, records. -/
def State.keStep (s : State) (e : MEnv) (ph : Ph) (sat : Bool) (om : Word) (v i : V2) (w : KSt) :
    Word × Word × KSt × List (Nat × Nat) × List (Nat × List Byte) :=
  let pf := s.wk e.k 0x3C8
  let d0 := s.wk e.k 0x404
  let go := s.pmOn e.k 0x1D0 && ph.phase = 0 && !e.hold && le (mul F32.twoPi (s.pm e.k 0x1D4)) (F32.abs om) && !sat
    && (s.obsLock e.k ph.o || s.pmOn e.k 0x164)
  if !go then (pf, d0, w, [], [])
  else
    let tau := s.pm e.k 0x1D8
    let raw := div (sub (sub v.2 (mul e.mc.rs i.2)) (mul (mul om e.mc.ld) i.1)) om
    let pf := add pf (mul (div e.t tau) (sub raw pf))
    let al := s.pm e.k 0x1DC
    let p20 := if !F32.isZero al && s.slotBound e.k 5 then
        div pf (add F32.one (mul al (sub (s.inp e.k 5) (s.pm e.k 0x1E0)))) else pf
    let d := sub (div p20 e.mc.psi) F32.one
    let w := { w with keT := w.keT + e.tF }
    let valid := le (mul F32.three tau) (F32.secs w.keT)
    if !valid then (pf, d, w, [], [])
    else
      let has (b : Nat) : Bool := w.flags / 2 ^ b % 2 == 1
      let first := !has 10
      let warn := le d (negate (F32.dec 8 100)) && !has 3
      let flt := le d (negate (F32.dec 20 100)) && !has 4
      let wm := s.pmOn e.k 0x1E4 && first && !w.com && lt (F32.dec 25 100) (F32.abs d)
      let fl := w.flags ||| flagWord [(10, true), (3, warn), (4, flt), (5, wm)]
      let rc (kd : Nat) : Nat × List Byte := (0x41, [BitVec.ofNat 8 e.k, BitVec.ofNat 8 kd, 0, 0] ++ wordBytes d)
      let w := { w with flags := fl, com := w.com || (s.pmOn e.k 0x1E4 && first && !wm),
                        wrong := if wm then some 0 else w.wrong, iq0 := if wm then ph.tRef else w.iq0 }
      (pf, d, w, (if flt then [(3, 0)] else []) ++ (if wm then [(4, 0)] else []),
        (if warn then [rc 1] else []) ++ (if flt then [rc 2] else []) ++ (if wm then [rc 3] else []))

/-! The Kirchhoff balance (R134 to R136). -/

/-- The leg currents of one set at the start of the period that has ended, from its measured ones: the complement stands in for one
(R128). -/
def setBefore (iso : Bool) (vs : List (Option Word)) : Option (List Word) :=
  let n := (vs.filter (·.isNone)).length
  let sum := sumW (vs.filterMap id)
  if n = 0 || (n = 1 && iso) then some (vs.map (fun v => v.getD (negate sum))) else none

/-- The leg currents at the start of the period that has ended (R134), and whether one of them is DC-reconstructed: those of the
last sealed step where its instant was that start, else the currents measured there; none where one is not known. `len` legs form a
set. -/
def State.before (s : State) (e : MEnv) (w : KSt) (len : Nat) (iso : Nat → Bool) (scale : Word) : Option (List Word × Bool) :=
  let c := s.ctx e.k
  if w.cur.length = e.legs.length && w.curT + e.pe = c.tS then some (w.cur, w.form.any (· == 3))
  else if c.measP.1 + e.pe = c.tS then
    let vs := (List.range e.legs.length).map (fun j => (Tab.find c.measP.2 j).map (fun x => mul (F32.ofInt x.toInt) scale))
    let sets := (List.range e.n).map (fun j => setBefore (iso j) ((vs.drop (len * j)).take len))
    if sets.all (·.isSome) then some (sets.flatMap (·.getD []), false) else none
  else none

/-- The balance of the period that has ended (R134 to R136): residual, violation, evaluated. -/
def State.kbStep (s : State) (e : MEnv) (w : KSt) (m : Meas) (was : Option (List Word × Bool)) (slot : Nat) (kAbs kRel : Word)
    (on : Bool) : Word × Bool × Bool × Word × Word :=
  let c := s.ctx e.k
  let fresh := !hasBit c.old slot && (Tab.find c.stepIn slot).isSome
  let dc := was.any (·.2) || m.legs.any (fun x => x.2.form == 3)
  let go := on && fresh && !dc && w.lit.contains (c.tS - e.pe) && was.isSome
  let cal := s.iCalc e.pe e.legs ((was.map (·.1)).getD []) m.all
  let meas := s.inp e.k slot
  let (r, bad) := kirch e.ilim kAbs kRel meas cal
  (r, bad && go, go, meas, cal)

/-! The step. -/

/-- The environment of a machine step. -/
def State.mEnv (s : State) (k : Nat) (disch : Bool) (sp : Word) : MEnv :=
  let im := s.cKid k == 2
  let ps := s.pm k 0x10C
  let mc : Mach := if im then
      let lm := s.pm k 0x108
      let ls := s.pm k 0x104
      -- ω·L_m·ψ_r / L_r in place of ω·ψ (R152)
      ⟨s.pm k 0x100, ls, ls, mul (div lm (add lm ls)) (s.wk k 0x3C8)⟩
    else ⟨s.pm k 0x100, s.pm k 0x104, F32.max (s.pm k 0x104) (s.cw k 0x108), ps⟩
  let pT := s.setPeriod k
  let p := 32 * s.get (fTBG_PERIOD_t ((s.cTbg k).getD 0))
  { k := k, im := im, disch := disch, priv := s.cPriv k, hold := !s.setLive k, n := if im then 1 else s.cSets k,
    legs := s.cLegs k, t := s.stepTs k, tF := s.stepFine k, p := p, pT := pT, pe := s.ended ((s.cLegs k).headD 0) p,
    vdc := s.inp k 0, ilim := s.cIlim k, mc := mc, sp := sp }

/-- The mean of the set currents in αβ, each set turned back by its offset (R137). -/
def State.meanAb (s : State) (e : MEnv) (m : Meas) : V2 :=
  let v := (List.range e.n).map (fun j =>
    let c := m.cur j
    park (clarke (wAt c 0) (wAt c 1) (wAt c 2)) (s.phi e.k j))
  (div (sumW (v.map (·.1))) (F32.ofInt e.n), div (sumW (v.map (·.2))) (F32.ofInt e.n))

/-- A status word with an integer in two halves. -/
def halves (lo hi : Nat) : Word := BitVec.ofNat 32 (lo % 65536 + hi % 65536 * 65536)

/-- One step of a machine context (R117 to R153). -/
def machStep (s : State) (k : Nat) (disch : Bool) (sp : Word) : KRes :=
  let e := s.mEnv k disch sp
  let w := (s.ctx k).wk.k
  let o0 := s.obs0 k w
  -- sensor angle and speed (R120, R138, R152)
  let pp := F32.ofInt (parNat 32 (s.pm k 0x110))
  let thS := if e.im then
      let om := mul pp (s.inp k 1)
      F32.wrap (add (s.wk k 0x3A4) (mul (add om (s.wk k 0x3A8)) e.t))
    else F32.wrap (add (mul pp (s.inp k 1)) (s.pm k 0x168))
  let omS := if e.im then add (mul pp (s.inp k 1)) (s.wk k 0x3A8)
    else match w.thS with | some a => div (F32.wrap (sub thS a)) e.t | none => 0
  let now := s.angleNow e o0 w thS omS
  let m := s.machMeas e w now.1 now.2
  let iab := s.meanAb e m
  let brk := (s.ctx k).w.phase = 3
  let o := if e.im then o0 else s.obsStep e o0 iab (if brk || e.hold then (0, 0) else (w.vA, w.vB))
  -- window limit: it ends at the first instant without a predicted leg (R130)
  let cnt := (List.range e.n).map (fun j => if m.sets.getD j false then w.cnt.getD j 0 + 1 else 0)
  let wl0 := w.fall == 2 && m.sets.any (· == true)
  let ph := s.machPhase e o o0 { w with cnt := cnt, fall := if wl0 then 2 else 0, thS := some thS, lockN := o.lockN } iab thS omS
  let dq := (List.range e.n).map (fun j => dqOf (m.cur j) (add ph.th (s.phi k j)))
  let (idr, iqr, fw, fwOn) := s.currentRefs e ph (s.vLim e w.gam)
  let outs := (List.range e.n).map (fun j => s.setControl e ph j (dq.getD j (0, 0)) (idr, iqr))
  -- R129 over the present period, with the on-times the PTA applies in it
  let tS := (s.ctx k).tS
  let tp := F32.secs e.p
  let pred1 := (List.range e.n).map (fun j =>
    let ons := (e.setLegs j).map (fun n => (s.leg n).onTime tS (tS + e.p))
    let v := meanV s e.p e.vdc (add (add ph.th (s.phi k j)) (mul ph.om (div tp F32.two))) (e.setLegs j) ons (m.cur j)
    predDq e.mc ph.om tp (dq.getD j (0, 0)) v)
  -- the set of a vector scaled by a factor
  let vAt (j : Nat) (f : Word) : List Word :=
    let v := (outs.getD j { v := (0, 0), i := (0, 0), un := 0, gam := 0, sat := false, ovm := false }).v
    s.phaseV e ph j (mul v.1 f, mul v.2 f)
  let raw (j : Nat) (f : Word) : List Word := duties true e.vdc (vAt j f)
  let cmps (j : Nat) (f : Word) : List LegCmp :=
    let im := iclarke (ipark (pred1.getD j (0, 0)) (add (add ph.th (s.phi k j)) (mul ph.om (div e.t F32.two))))
    (e.setLegs j).zipIdx.map (fun (n, i) => centred e.pT n (compDuty (32 * e.pT) (s.legDt n) (wAt im i) (wAt (raw j f) i)))
  let wm := s.pm k 0x15C
  let next (cs : Nat → List LegCmp) : List (List Bool) := (List.range e.n).map (fun j => narrows wm (s.nextWins e j (cs j)))
  let wouldP (nb : List (List Bool)) : Bool := (List.range e.n).any (fun j =>
    predicts (s.iso k j) (nb.getD j []) && 3 ≤ cnt.getD j 0 + 1)
  let full (j : Nat) : List LegCmp := if ph.brake then (e.setLegs j).map (fun n => ⟨n, 0, 0⟩) else cmps j F32.one
  -- triggers stand already for the instant that starts the next period
  let placed := w.dcAt.contains (tS + e.p) && 3 ≤ cnt.getD 0 0
  let third := ph.ctl && !placed && wouldP (next full)
  let trg := if third && e.n = 1 && s.slotBound k 3 && s.slotBound k 4 then s.dcTriggers e (full 0) else none
  let limit := ph.ctl && (ph.w.fall = 2 || (third && trg.isNone))
  let fac (j : Nat) : Word := limFactor (if s.iso k j then 1 else 0) (((e.setLegs j).map (s.dLim wm e.t)).zip (raw j F32.one))
  let cs (j : Nat) : List LegCmp := if ph.brake then full j else if limit then cmps j (fac j) else full j
  let nb := next cs
  let wins := (List.range e.n).flatMap (fun j => s.nextWins e j (cs j))
  let preds := if !ph.ctl || placed then [] else (List.range e.n).flatMap (fun j =>
    let ns := nb.getD j []
    if predicts (s.iso k j) ns then
      let is := iclarke (ipark (pred1.getD j (0, 0)) (add (add ph.th (s.phi k j)) (mul ph.om tp)))
      (e.setLegs j).zipIdx.filterMap (fun (n, i) =>
        if ns.getD i false then some (predOf n (cnt.getD j 0 + 1) (wins.getD (3 * j + i) 0) (tS + e.p) (wAt is i)) else none)
    else [])
  -- ke and Kirchhoff
  let o1 : SetOut := outs.getD 0 { v := (0, 0), i := (0, 0), un := 0, gam := 0, sat := false, ovm := false }
  let satV := ph.ctl && outs.any (·.sat)
  let sat := satV || limit
  let (pf, del, w2, kreq, krec) := if e.im then (s.wk k 0x3C8, 0, ph.w, [], []) else s.keStep e ph sat ph.om o1.v (dq.getD 0 (0, 0)) ph.w
  let (r, bad, ev, meas, cal) := s.kbStep e w m (s.before e w 3 (s.iso k) (s.pm k 0x114)) 2 (s.pm k 0x1C4) (s.pm k 0x1C8) (s.pmOn k 0x1C0)
  let kbRun := if ev then (if bad then w.kbRun + 1 else 0) else w.kbRun
  let kbF := kbRun = parNat 32 (s.pm k 0x1CC) && bad
  let lastWarn := (s.cw k 0x7A0).fld 1 1 == 1
  let kreqs := ph.reqs ++ kreq ++ (if kbF then [(2, 0)] else [])
  let reason := (kreqs.getLast?.map (·.1)).getD w2.reason
  -- torque (R117) and the flux of K_IM (R152)
  let i0 := dq.getD 0 (0, 0)
  let psr0 := s.wk k 0x3C8
  let tauR := s.pm k 0x138
  let psr := add psr0 (mul (div e.t tauR) (sub (mul (s.pm k 0x108) i0.1) psr0))
  let slip := if F32.isZero psr then 0 else div (mul (s.pm k 0x108) i0.2) (mul tauR psr)
  let tq := if e.im then mul (mul (mul (F32.dec 15 10) pp) (div (s.pm k 0x108) (add (s.pm k 0x108) (s.pm k 0x104)))) (mul psr i0.2)
    else mul (mul (F32.dec 15 10) pp) (sumW (dq.map (fun x =>
      add (mul e.mc.psi x.2) (mul (mul (sub e.mc.ld e.mc.lq) x.1) x.2))))
  let dm := ph.ctl && !e.hold
  let vs := (List.range e.n).map (fun j =>
    let v := (outs.getD j o1).v
    let f := if limit then fac j else F32.one
    if dm then (mul v.1 f, mul v.2 f) else (0, 0))
  let vmn : V2 := (div (sumW (vs.map (·.1))) (F32.ofInt e.n), div (sumW (vs.map (·.2))) (F32.ofInt e.n))
  let vab := ipark vmn (add ph.th (mul ph.om (div e.t F32.two)))

  let ob := ph.o
  let lock := ph.phase = 5 && (s.ctx k).w.phase = 4 && !e.hold
  let nowF := F32.secs ((wins.foldl Nat.min (e.p * 2) : Nat))
  let detF := if ph.phase = 1 && ph.nxt ≠ 1 && !e.hold then div ph.om F32.twoPi else s.cw k 0x7B8
  -- RESTORE begins: the generator's speed and acceleration are 0 (R142)
  let pgReset := s.cPg k && ph.nxt = 5 && (ph.phase ≠ 5 || lock) && !e.hold
  let coastIn := ph.phase = 4 && (s.ctx k).w.phase ≠ 4
  let npred := (m.legs.filter (fun x => x.2.form == 2)).length
  let ndc := if m.legs.any (fun x => x.2.form == 3) then 1 else 0
  let cmax := cnt.foldl max 0
  let kst := (w2.flags &&& 0xFFFC) ||| flagWord [(0, ph.phase == 4), (1, if ev then bad else lastWarn && s.pmOn k 0x1C0), (2, kbF), (6, fwOn),
    (7, ph.ctl && outs.any (·.ovm)), (8, trg.isSome), (9, limit)]
  { outs := if e.im then [tq, s.inp k 1, wrap0 ph.th, psr, slip, i0.1, i0.2, e.vdc]
      else [tq, div ph.om pp, wrap0 ph.th, ob.c, del, i0.1, i0.2, e.vdc],
    stat := [BitVec.ofNat 32 (kst + min cmax 3 * 65536 + reason * 2 ^ 24), if ev then r else s.cw k 0x7A4,
      s.cw k 0x7A8 + (if bad then 1 else 0), s.cw k 0x7AC + BitVec.ofNat 32 npred,
      halves ((s.cw k 0x7B0).fld 0 16 + ndc) ((s.cw k 0x7B0).fld 16 16 + (if limit then 1 else 0)),
      halves ((s.cw k 0x7B4).fld 0 16 + (if coastIn then 1 else 0)) ((s.cw k 0x7B4).fld 16 16 + (if lock then 1 else 0)),
      detF, nowF],
    ws := ((List.range e.n).flatMap (fun j =>
        let x := outs.getD j o1
        let keep := e.hold || !ph.ctl
        [(0x380 + 8 * j, if keep then s.wk k (0x380 + 8 * j) else x.i.1), (0x384 + 8 * j, if keep then s.wk k (0x384 + 8 * j) else x.i.2)]))
      ++ [(0x3A0, fw), (0x3A4, if e.im then thS else ob.th), (0x3A8, if e.im then slip else ob.om), (0x3AC, ob.ea), (0x3B0, ob.eb),
          (0x3B4, ob.ia), (0x3B8, ob.ib), (0x3BC, ob.c),
          (0x3C0, BitVec.ofNat 32 (ph.phase + min cmax 3 * 16 + min ob.lockN 63 * 256)), (0x3C4, F32.secs w2.pt),
          (0x3C8, if e.im then psr else pf), (0x3CC, ph.tRef), (0x404, del)]
      ++ (List.range e.n).flatMap (fun j => let v := vs.getD j (0, 0); [(0x3D0 + 8 * j, v.1), (0x3D4 + 8 * j, v.2)]),
    k := { w2 with
      cnt := cnt, fall := if trg.isSome then 1 else if limit then 2 else 0, cur := m.all, form := m.legs.map (·.2.form),
      vA := vab.1, vB := vab.2, vMax := if ph.ctl then maxW (outs.map (·.un)) else 0, gam := o1.gam, iqPrev := iqr, kbRun := kbRun,
      flags := (kst &&& 0xFC3C), reason := reason, lockN := ob.lockN, safe := s.mgSafe k, nxt := ph.nxt,
      wrong := w2.wrong.map (· + e.tF), curT := tS, thL := ph.th,
      lit := (if ph.phase ≠ 1 && !e.hold then [(s.ctx k).target] else []) ++ w.lit.take 3,
      dcAt := (if trg.isSome then [tS + e.p + 32 * e.pT] else []) ++ w.dcAt.filter (tS < ·) },
    sat := sat,
    dev := some (lt (let d := s.cw k 0x308; if d = 0 then F32.dec 25 100 else d)
      (maxW ((List.range e.n).map (fun j =>
        let y := dq.getD j (0, 0)
        let a := (s.ctx k).wk.yPred
        if a.isEmpty then 0 else div (mag2 (sub y.1 (wAt a (2 * j)), sub y.2 (wAt a (2 * j + 1)))) e.ilim)))),
    yPred := pred1.flatMap (fun x => [x.1, x.2]),
    phase := ph.phase,
    set := if e.hold then none else some {
      cmps := (List.range e.n).flatMap (fun j => if ph.phase = 1 then (e.setLegs j).map (fun n => ⟨n, 0, 0⟩) else cs j),
      trg0 := trg.map (·.1), trg1 := trg.map (·.2), dark := ph.phase == 1 },
    cons := m.legs.zipIdx.filterMap (fun ((l, v), i) => if v.form = 0 then none else
      some { leg := l.leg, val := v.val, form := v.form, cnt := cnt.getD (i / 3) 0, win := l.win / 128, at_ := tS }),
    preds := preds, pred := m.sets.any (· == true), reqs := kreqs,
    recs := krec ++ (if kbF then [(0x40, [BitVec.ofNat 8 k, 0, 0, 0] ++ wordBytes r ++ wordBytes meas ++ wordBytes cal)] else []),
    pgw := if pgReset then [s.cw k 0x360, 0, 0, s.cw k 0xC4, 0] else ph.pgw,
    chk := vs.flatMap (fun x => [x.1, x.2]) ++ [r, detF, nowF] }

end Sys2Proof.Machine
end

