-- ==== Sys2Proof/Machine/GridKernel.lean ====
section
/-! DEFINITION. K_GRID, K_DCDC and K_DAB (05_grid_and_pv.md R162 to R170, R175, R186 to R191). Readings the rules leave open
stand in log entry 25. -/
namespace Sys2Proof.Machine
open F32 (add sub mul div negate lt le)

/-- Range and default of a K_GRID parameter (R163). -/
def gridRange (ofs : Nat) : Word × Word × Option Word :=
  let d (a b : Nat) : Word := F32.dec a b
  let i (n : Nat) : Word := F32.ofInt n
  match ofs with
  | 0x108 => (negate fMax, fMax, none)
  | 0x120 => (F32.half, F32.one, some (d 95 100))
  | 0x128 => (negate fMax, fMax, none)
  | 0x12C => (F32.half, d 15 10, none) | 0x130 => (F32.half, d 15 10, none)
  | 0x134 => (F32.half, d 15 10, none) | 0x138 => (F32.half, d 15 10, none)
  | 0x13C => (0, F32.one, none)
  | 0x140 => (d 1 100, i 60, some F32.one)
  | 0x148 => (i 45, i 66, none) | 0x14C => (i 45, i 66, none)
  | 0x150 => (d 2 100, d 12 100, some (d 5 100))
  | 0x158 => (i 50, i 60, none)
  | 0x15C => (0, i 10, some F32.two)
  | 0x160 => (0, d 20 100, some (d 10 100))
  | 0x164 => (d 1 1000, i 10, some (d 1 10))
  | 0x168 => (d 5 10000, F32.one, some (d 1 100))
  | 0x16C => (d 4 10000000, d 5 1000000, some (d 18 10000000))
  | 0x17C => (d 5 1000, d 20 100, some (d 3 100))
  | 0x180 => (d 1 100, d 30 100, some (d 5 100))
  | 0x184 => (F32.one, i 32, some (i 4))
  | _ => (0, fMax, none)

/-- A parameter of a K_GRID context as it is used (R121); f_nom is 50 or 60, the nearer one. -/
def State.gp (s : State) (k ofs : Nat) : Word :=
  let (lo, hi, d) := gridRange ofs
  let x := parIn lo hi d (s.cw k ofs)
  if ofs = 0x158 then (if lt x (F32.ofInt 55) then F32.ofInt 50 else F32.ofInt 60) else x

/-- Range and default of a K_DCDC or K_DAB parameter (R187, R190). -/
def dcRange (dab : Bool) (ofs : Nat) : Word × Word × Option Word :=
  match dab, ofs with
  | false, 0x10C => (negate fMax, fMax, none)
  | false, 0x12C => (F32.dec 4 10000000, F32.dec 5 1000000, some (F32.dec 18 10000000))
  | true, 0x11C => (F32.dec 1 10, div F32.pi F32.two, some (F32.dec 14 10))
  | _, _ => (0, fMax, none)

/-- A parameter of a K_DCDC or K_DAB context as it is used. -/
def State.dp (s : State) (dab : Bool) (k ofs : Nat) : Word :=
  let (lo, hi, d) := dcRange dab ofs
  parIn lo hi d (s.cw k ofs)

/-! K_GRID. -/

/-- What every part of a grid step uses: the record's angle, frequency, voltages and sequencer state, the ratings, the
filter. -/
structure GEnv where
  m : MEnv
  four : Bool
  th : Word
  f : Word
  om : Word
  vg : V2
  seq : Nat
  vb : Word
  sb : Word
  l : Word
  r : Word
  deriving DecidableEq, Repr

/-- The environment of a grid step. A stale angle is replaced by the last sealed one, advanced (R167). -/
def State.gEnv (s : State) (k : Nat) (sp : Word) : GEnv :=
  let t := s.stepTs k
  let th := if hasBit (s.ctx k).old 1 then
      wrap0 (add (s.cw k 0x788) (mul (mul F32.twoPi (s.cw k 0x78C)) t))
    else s.inp k 1
  let f := s.inp k 2
  let legs := s.cLegs k
  let p := 32 * s.get (fTBG_PERIOD_t ((s.cTbg k).getD 0))
  { m := { k := k, im := false, disch := false, priv := s.cPriv k, hold := s.mgSafe k, n := 1, legs := legs, t := t,
           tF := s.stepFine k, p := p, pT := s.setPeriod k, pe := s.ended (legs.headD 0) p, vdc := s.inp k 0,
           ilim := s.cIlim k, mc := ⟨0, 0, 0, 0⟩, sp := sp },
    four := legs.length == 4, th := th, f := f, om := mul F32.twoPi f, vg := (s.inp k 3, s.inp k 4),
    seq := (F32.toInt (s.inp k 5)).toNat, vb := s.cw k 0x188, sb := s.cw k 0x18C, l := s.gp k 0x100, r := s.gp k 0x104 }

/-- The grid model over a time (R166). -/
def gridPred (e : GEnv) (t : Word) (i v : V2) : V2 :=
  let a := div t e.l
  (add i.1 (mul a (add (sub (sub v.1 e.vg.1) (mul e.r i.1)) (mul (mul e.om e.l) i.2))),
   add i.2 (mul a (sub (sub (sub v.2 e.vg.2) (mul e.r i.2)) (mul (mul e.om e.l) i.1))))

/-- Leg currents of a dq vector at an angle; the model has no zero sequence, so the neutral leg carries what balances the
phases (R166; log entry 25). -/
def gridLegs (e : GEnv) (i : V2) (th : Word) : List Word :=
  let p := iclarke (ipark i th)
  if e.four then p ++ [negate (sumW p)] else p

/-- The leg currents of the present instant (R166). -/
def State.gridMeas (s : State) (e : GEnv) (w : KSt) : Meas :=
  let k := e.m.k
  let ls := e.m.legs.zipIdx.map (fun (n, j) => s.legIn k j n e.m.p (s.gp k 0x108) (s.gp k 0x16C))
  let th0 := s.cw k 0x788
  let om0 := mul F32.twoPi (s.cw k 0x78C)
  let ons := e.m.legs.map (fun n => (s.leg n).duty)
  let te := F32.secs e.m.pe
  let v := meanV s e.m.pe e.m.vdc (add th0 (mul om0 (div te F32.two))) e.m.legs ons w.cur
  let i := gridPred { e with om := om0 } te (dqOf w.cur th0) v
  let vs := setForms (!e.four) none (gridLegs e i (add th0 (mul om0 te))) ls
  { legs := ls.zip vs, sets := [vs.any (fun x => x.form == 2)] }

/-- Is the PLL that slot 1 names LOCKED (R159, R168)? -/
def State.pllLocked (s : State) (k : Nat) : Bool := s.get (fGIU_PLL_STAT_state (s.slotInst k 1 % 8)) == 2

/-- The phase of a step and the kind of ramp (1 after WAIT, 0 after CEASE) (R168). -/
def State.gridPhase (s : State) (e : GEnv) (w : KSt) : Nat × Nat :=
  let was := (s.ctx e.m.k).w.phase
  if w.nxt = 9 || (w.safe && !e.m.hold) || e.seq = 5 || e.seq = 6 then (1, w.ramp)
  else
    let run := e.seq = 2 || e.seq = 3
    match was with
    | 1 => if run && s.pllLocked e.m.k then (2, 1) else (1, w.ramp)
    | 2 => (5, w.ramp)
    | 3 => (if e.seq = 2 then 0 else if e.seq = 4 then 4 else 3, w.ramp)
    | 4 => if run then (2, 0) else (4, w.ramp)
    | 5 => (if le e.m.ilim (s.wk e.m.k 0x394) then 0 else 5, w.ramp)
    | _ => (if e.seq = 2 then 0 else if e.seq = 3 then 3 else if e.seq = 4 then 4 else 1, w.ramp)

/-- Q(U) before its filter (R164). -/
def State.qOfU (s : State) (e : GEnv) (v : Word) : Word :=
  let k := e.m.k
  let q := mul (s.gp k 0x13C) e.sb
  let v1 := s.gp k 0x12C
  let v2 := s.gp k 0x130
  let v3 := s.gp k 0x134
  let v4 := s.gp k 0x138
  if le v v1 then q
  else if lt v v2 then mul q (div (sub v2 v) (sub v2 v1))
  else if le v v3 then 0
  else if lt v v4 then negate (mul q (div (sub v v3) (sub v4 v3)))
  else negate q

/-- The references of R164 steps 1 to 4: i_d, i_q, the DC-voltage integrator, the filter state, whether the DC-voltage
controller and P(f) act. -/
structure GRef where
  id : Word
  iq : Word
  iv : Word
  qf : Word
  sat : Bool
  pf : Bool
  deriving DecidableEq, Repr

/-- R164 steps 1 to 4. -/
def State.gridRef (s : State) (e : GEnv) (hold : Bool) (v : Word) : GRef :=
  let k := e.m.k
  let md := parNat 1 (s.cw k 0x10C)
  let iv0 := s.wk k 0x388
  let (pv, iv, sv) := piStep e.m.priv hold (s.gp k 0x118) (s.gp k 0x11C) e.m.t (negate e.sb) e.sb 0 (sub e.m.vdc e.m.sp) iv0
  let p0 := if md = 0 then e.m.sp else pv
  let en := parNat 3 (s.cw k 0x144)
  let fd := mul (s.gp k 0x158) (s.gp k 0x150)
  let high := en % 2 = 1 && lt (s.gp k 0x148) e.f
  let low := 2 ≤ en && lt e.f (s.gp k 0x14C)
  let p1 := if high then F32.max 0 (sub p0 (div (mul e.sb (sub e.f (s.gp k 0x148))) fd)) else p0
  let p2 := if low then F32.min (s.gp k 0x154) (add p1 (div (mul e.sb (sub (s.gp k 0x14C) e.f)) fd)) else p1
  let qs := s.cw k 0x128
  let qm := parNat 2 (s.cw k 0x124)
  let qf0 := s.wk k 0x390
  let qf := if qm = 2 && !hold then add qf0 (mul (div e.m.t (s.gp k 0x140)) (sub (s.qOfU e v) qf0)) else qf0
  let q := match qm with
    | 0 => qs
    | 1 => mul (mul p2 (Config.tan32 (Config.acos32 (F32.abs qs)))) (F32.sgn qs)
    | _ => qf
  let vd := F32.max e.vg.1 (mul (F32.dec 1 10) e.vb)
  let c := div F32.two F32.three
  { id := div (mul c p2) vd, iq := negate (div (mul c q) vd), iv := if md = 0 then iv0 else iv, qf := qf,
    sat := md = 1 && sv && !hold, pf := high || low }

/-- Reference limits of R164 steps 5 and 6. -/
def gridLimit (il : Word) (ride : Bool) (ramp : Option Word) (d q : Word) : V2 :=
  let rest (x : Word) : Word := F32.sqrt (F32.max 0 (sub (mul il il) (mul x x)))
  let (d, q) := if ride then (let q := F32.lim il q; (F32.lim (rest q) d, q)) else (let d := F32.lim il d; (d, F32.lim (rest d) q))
  match ramp with
  | some r =>
    let m := mag2 (d, q)
    if lt r m then (mul d (div r m), mul q (div r m)) else (d, q)
  | none => (d, q)


/-- One step of K_GRID (R164 to R170, R175). -/
def gridStep (s : State) (k : Nat) (sp : Word) : KRes :=
  let e := s.gEnv k sp
  let w := (s.ctx k).wk.k
  let was := (s.ctx k).w.phase
  let m := s.gridMeas e w
  let (ph0, kind) := s.gridPhase e w
  let dead := ph0 = 1 || ph0 = 4
  let ctl := !dead && !e.m.hold
  let v := div (mag2 e.vg) e.vb
  let il := e.m.ilim
  let rf := s.gridRef e (!ctl) v
  -- the ramp limit of RESTORE (R168)
  let rate := if kind = 1 then mul (s.gp k 0x168) il else div il (s.gp k 0x164)
  let ramp := if ph0 = 5 then F32.min il (add (s.wk k 0x394) (mul rate e.m.t)) else if ph0 = 0 || ph0 = 3 then s.wk k 0x394 else 0
  let ph := if ph0 = 5 && le il ramp then 0 else ph0
  -- reactive-current injection (R175)
  let db := s.gp k 0x160
  let lo := sub F32.one db
  let hi := add F32.one db
  let dv := if lt v lo then sub v lo else if lt hi v then sub v hi else 0
  let ride := ph = 3
  let pre := if ride && was ≠ 3 then w.iqPrev else s.wk k 0x398
  let inj := if ride then mul (mul (s.gp k 0x15C) dv) il else w.rci
  let out := was = 3 && !ride
  let pt := if ride || out then 0 else w.pt + e.m.tF
  let fall := if ride || dead then 0 else mul inj (F32.max 0 (sub F32.one (div (F32.secs pt) (s.gp k 0x164))))
  let iqr := if ride then add pre inj else add rf.iq fall
  let (idr, iqr) := gridLimit il (e.seq = 3) (if ph0 = 5 || ph0 = 2 then some ramp else none) rf.id iqr
  -- current control (R165)
  let idq := dqOf m.all e.th
  let ed := sub idr idq.1
  let eq := sub iqr idq.2
  let wl := mul e.om e.l
  let ffd := sub e.vg.1 (mul wl idq.2)
  let ffq := add e.vg.2 (mul wl idq.1)
  let kp := s.gp k 0x110
  let ki := s.gp k 0x114
  let preset := ph = 2
  let id0 := if preset then sub (sub e.vg.1 ffd) (mul kp ed) else s.wk k 0x380
  let iq0 := if preset then sub (sub e.vg.2 ffq) (mul kp eq) else s.wk k 0x384
  let vl := if e.four then div (mul (s.gp k 0x120) e.m.vdc) F32.two else div (mul (s.gp k 0x120) e.m.vdc) F32.sqrt3
  let (vd, id1, sd) := piStep e.m.priv (!ctl || preset) kp ki e.m.t (negate vl) vl ffd ed id0
  let ql := F32.sqrt (F32.max 0 (sub (mul vl vl) (mul vd vd)))
  let (vq, iq1, sq) := piStep e.m.priv (!ctl || preset) kp ki e.m.t (negate ql) ql ffq eq iq0
  let i3 := div (sumW (m.all.take 3)) F32.three
  let nl := mul (F32.dec 1 10) e.m.vdc
  let (vn, in1, sn) := if e.four then
      piStep e.m.priv (!ctl) (s.gp k 0x170) (s.gp k 0x174) e.m.t (negate nl) nl 0 i3 (s.wk k 0x38C)
    else (0, s.wk k 0x38C, false)
  -- modulation (R126, R165)
  let x := div vn e.m.vdc
  let mid := add e.th (mul e.om (div e.m.t F32.two))
  let raw (f : Word) : List Word :=
    let p := iclarke (ipark (mul vd f, mul vq f) mid)
    if e.four then p.map (fun y => add F32.half (div (sub y vn) e.m.vdc)) ++ [add F32.half x] else duties true e.m.vdc p
  let tS := (s.ctx k).tS
  let tp := F32.secs e.m.p
  let ons := e.m.legs.map (fun n => (s.leg n).onTime tS (tS + e.m.p))
  let pred1 := gridPred e tp idq (meanV s e.m.p e.m.vdc (add e.th (mul e.om (div tp F32.two))) e.m.legs ons m.all)
  let ih := gridLegs e pred1 mid
  let cmps (f : Word) : List LegCmp :=
    e.m.legs.zipIdx.map (fun (n, i) => centred e.m.pT n (compDuty (32 * e.m.pT) (s.legDt n) (wAt ih i) (wAt (raw f) i)))
  let wm := s.gp k 0x16C
  let dls := e.m.legs.map (s.dLim wm e.m.t)
  -- d_lim of each leg, by its own dead time
  let dl (i : Nat) : Word := wAt dls i
  -- the next instant (R130)
  let cnt := if m.sets.any (· == true) then w.cnt.getD 0 0 + 1 else 0
  let wl0 := w.fall == 2 && m.sets.any (· == true)
  let full := cmps F32.one
  let third := ctl && predicts (!e.four) (narrows wm (s.nextWinsOf e.m full)) && 3 ≤ cnt + 1
  let limit := ctl && (wl0 || third)
  let fac := if !limit then F32.one
    else if e.four then
      ((raw F32.one).take 3).zipIdx.foldl (fun f (d, i) =>
        if lt (dl i) d then F32.min f (div (add (sub (dl i) F32.half) x) (add (sub d F32.half) x)) else f) F32.one
    else limFactor 1 (dls.zip (raw F32.one))
  let cs := cmps fac
  let wins := s.nextWinsOf e.m cs
  let ns := narrows wm wins
  let nxtI := gridLegs e pred1 (add e.th (mul e.om tp))
  let preds := if ctl && predicts (!e.four) ns then
      e.m.legs.zipIdx.filterMap (fun (n, i) =>
        if ns.getD i false then some (predOf n (cnt + 1) (wins.getD i 0) (tS + e.m.p) (wAt nxtI i)) else none)
    else []
  -- Kirchhoff balance (R166)
  let was1 := s.before e.m w e.m.legs.length (fun _ => !e.four) (s.gp k 0x108)
  let (r, bad, ev, meas, cal) := s.kbStep e.m w m was1 6 (s.gp k 0x17C) (s.gp k 0x180) (parNat 1 (s.cw k 0x178) = 1)
  let kbRun := if ev then (if bad then w.kbRun + 1 else 0) else w.kbRun
  let kbF := kbRun = parNat 32 (s.gp k 0x184) && bad
  let trip := e.seq = 5 || e.seq = 6
  let reqs := (if trip && w.seq ≠ e.seq then [(if e.seq = 5 then 0x10 else 0x11, 3)] else []) ++ (if kbF then [(2, 3)] else [])
  let reason := (reqs.getLast?.map (·.1)).getD w.reason
  let kst := (w.flags &&& 4) ||| flagWord [(0, ride), (1, if ev then bad else (s.cw k 0x7A0).fld 1 1 == 1), (2, kbF), (3, ph == 4), (4, ph == 1),
    (5, (ride && !F32.isZero dv) || (!ride && !F32.isZero fall)), (6, rf.pf && ctl), (7, ctl && (sd || sq)), (9, limit)]
  let va := if ctl then (mul vd fac, mul vq fac) else (0, 0)
  let p := mul (F32.dec 15 10) (add (mul e.vg.1 idq.1) (mul e.vg.2 idq.2))
  let q := mul (F32.dec 15 10) (sub (mul e.vg.2 idq.1) (mul e.vg.1 idq.2))
  let y := (s.ctx k).wk.yPred
  { outs := [p, q, e.th, e.f, idq.1, idq.2, e.m.vdc, F32.ofInt e.seq],
    stat := [BitVec.ofNat 32 (kst + min cnt 3 * 65536 + reason * 2 ^ 24), if ev then r else s.cw k 0x7A4,
      s.cw k 0x7A8 + (if bad then 1 else 0), 0, 0, 0, 0, 0],
    ws := [(0x380, if ctl then id1 else s.wk k 0x380), (0x384, if ctl then iq1 else s.wk k 0x384), (0x388, rf.iv),
      (0x38C, if ctl then in1 else s.wk k 0x38C), (0x390, rf.qf), (0x394, ramp), (0x398, pre),
      (0x39C, BitVec.ofNat 32 (ph + min cnt 3 * 16)), (0x3A0, va.1), (0x3A4, va.2), (0x3A8, if ctl then vn else 0), (0x3AC, e.th)],
    k := { w with
      cnt := [cnt], fall := if limit then 2 else 0, cur := m.all, form := m.legs.map (·.2.form), iqPrev := iqr, kbRun := kbRun,
      flags := kst &&& 4, reason := reason, safe := s.mgSafe k, nxt := 0, pt := pt, rci := if dead then 0 else inj, ramp := kind,
      id0 := div idr il, iq0 := div iqr il, seq := if trip then e.seq else 0, curT := tS,
      lit := (if ctl then [(s.ctx k).target] else []) ++ w.lit.take 3 },
    sat := ctl && (sd || sq || sn || rf.sat || limit),
    dev := some (lt (let d := s.cw k 0x308; if d = 0 then F32.dec 25 100 else d)
      (if y.isEmpty then 0 else div (mag2 (sub idq.1 (wAt y 0), sub idq.2 (wAt y 1))) il)),
    yPred := [pred1.1, pred1.2], phase := ph,
    set := if e.m.hold then none else some { cmps := if dead then e.m.legs.map (fun n => ⟨n, 0, 0⟩) else cs, dark := dead },
    cons := m.legs.filterMap (fun (l, v) => if v.form = 0 then none else
      some { leg := l.leg, val := v.val, form := v.form, cnt := cnt, win := l.win / 128, at_ := tS }),
    preds := preds, pred := m.sets.any (· == true), reqs := reqs,
    recs := if kbF then [(0x40, [BitVec.ofNat 8 k, 0, 0, 0] ++ wordBytes r ++ wordBytes meas ++ wordBytes cal)] else [],
    chk := (if ctl then [vd, vq] else []) ++ [r] }

/-! K_DCDC. -/

/-- The instant a leg of a K_DCDC context is sampled at, from the period start in fine ticks (R188 step 6). -/
def dcInstant (p n j : Nat) : Nat := (j * p / n + p / 2) % p

/-- The effective window of a leg at a moment in fine ticks (R127, R189): from the high-side pulse before it and the one after it; `p`
where there is neither. -/
def State.dcWin (s : State) (p leg t : Nat) : Nat :=
  let iv := (s.leg leg).onIv
  let dt := s.legDt leg
  let l := (iv.filter (fun x => x.2 ≤ t)).map (fun x => t - (x.2 + dt))
  let r := (iv.filter (fun x => t < x.1)).map (fun x => (x.1 - dt) - t)
  if iv.any (fun x => x.1 ≤ t && t < x.2) then 0
  else match l ++ r with
    | [] => p
    | a :: ds => 2 * ds.foldl Nat.min a

/-- VOUT_HIGH is raised at the third step of a run (R188, R191). -/
def vHigh (w : KSt) (high : Bool) : Nat × Bool := if high then (w.run + 1, w.run = 2) else (0, false)

/-- One step of K_DCDC (R188, R189). -/
def dcdcStep (s : State) (k : Nat) (sp : Word) : KRes :=
  let g := s.dp false k
  let w := (s.ctx k).wk.k
  let legs := s.cLegs k
  let n := legs.length
  let t := s.stepTs k
  let p := 32 * s.get (fTBG_PERIOD_t ((s.cTbg k).getD 0))
  let pT := 32 * s.setPeriod k
  let priv := s.cPriv k
  let hold := s.mgSafe k
  let vin := s.inp k 0
  let vo := s.inp k 1
  let il := s.cIlim k
  let buck := parNat 1 (s.cw k 0x100) = 1
  let md := parNat 2 (s.cw k 0x104)
  let wm := g 0x12C
  let tS := (s.ctx k).tS
  let pe := s.ended (legs.headD 0) p
  let swing (d : Word) : Word := if buck then sub (mul d vin) vo else sub vin (mul d vo)
  let adv (i d : Word) : Word := add i (mul (div t (g 0x108)) (swing d))
  -- leg currents in their forms (R189)
  let ls := legs.zipIdx.map (fun (l, j) =>
    let x := s.legIn k j l p (g 0x10C) wm
    let o := dcInstant pe n j
    let win := s.dcWin p l (if o = 0 then tS else tS - pe + o)
    let x := { x with win := win, narrow := lt (F32.secs win) wm }
    let d := deltaN pe (s.legDt l) (s.leg l).duty (wAt w.cur j)
    let v : LegVal := if x.narrow || x.raw.isNone then ⟨x.plan.getD (adv (wAt w.cur j) d), 2⟩ else ⟨x.raw.getD 0, 0⟩
    (x, v))
  let is := ls.map (·.2.val)
  let cnt := ls.zipIdx.map (fun (x, j) => if x.2.form = 2 then w.cnt.getD j 0 + 1 else 0)
  let anyP := ls.any (fun x => x.2.form == 2)
  -- the window limit of a leg goes on while its instants are predicted; `fall` holds its legs by mask
  let hadP (j : Nat) : Bool := hasBit w.fall j && (ls.getD j (⟨0, none, 0, false, none⟩, ⟨0, 0⟩)).2.form = 2
  -- references (R188 steps 1 and 2)
  let ref2 := if s.slotBound k 2 then s.inp k 2 else sp
  let ev := if md = 0 then sub vin ref2 else sub sp vo
  let (iv, intV, sv) := piStep priv (hold || md = 2) (g 0x110) (g 0x114) t 0 il 0 ev (s.wk k 0x380)
  let i2 := F32.lim il sp
  let i1 := if md = 2 then i2 else iv
  let floor0 := if md = 2 then negate il else 0
  let (io, intO, _) := piStep priv (hold || md = 1) (g 0x124) (g 0x128) t floor0 il 0 (sub (g 0x120) vo) (s.wk k 0x384)
  let olim := md ≠ 1 && lt io i1
  let iref := if olim then io else i1
  -- leg controllers (R188 steps 3 and 4)
  let share := div iref (F32.ofInt n)
  let span := if buck then vin else vo
  let ctl := is.zipIdx.map (fun (i, j) =>
    let e := sub share i
    let lo := if buck then negate vo else sub vin vo
    let hi := if buck then sub vin vo else vin
    let (u, x, sat) := piStep priv hold (g 0x118) (g 0x11C) t lo hi 0 e (s.wk k (0x388 + 4 * j))
    let sw := if buck then add vo u else sub vin u
    (F32.clamp 0 F32.one (div sw span), x, sat))
  let d0 := ctl.map (·.1)
  let cmpOf (j l : Nat) (d : Word) : LegCmp :=
    let c := j * pT / n
    let h := (F32.toInt (mul (mul F32.half d) (F32.ofInt pT))).toNat
    if h = 0 then ⟨l, 0, 0⟩ else if pT ≤ 2 * h then ⟨l, 0, pT⟩ else ⟨l, (c + pT - h) % pT, (c + h) % pT⟩
  -- the window at the next instant: the conduction after the pulse of this duty
  let winOf (d : Word) (l : Nat) : Word := sub (mul (sub F32.one d) t) (F32.secs (2 * s.legDt l : Nat))
  let limJ := (d0.zip legs).zipIdx.map (fun (x, j) => !hold && (hadP j || (lt (winOf x.1 x.2) wm && 3 ≤ cnt.getD j 0 + 1)))
  let limit := limJ.any (· == true)
  let ds := (d0.zip legs).zipIdx.map (fun (x, j) => if limJ.getD j false then F32.min x.1 (s.dLim wm t x.2) else x.1)
  let ons := legs.map (fun l => (s.leg l).onTime tS (tS + p))
  let pred1 := is.zipIdx.map (fun (i, j) => adv i (deltaN p (s.legDt (legs.getD j 0)) (ons.getD j 0) i))
  let preds := if hold then [] else (ds.zip legs).zipIdx.filterMap (fun (x, j) =>
    let win := winOf x.1 x.2
    if lt win wm then
      some (predOf x.2 (cnt.getD j 0 + 1) (F32.toInt (mul (F32.max 0 win) (F32.ofInt 12800000000))).toNat (tS + p) (wAt pred1 j))
    else none)
  let (run, high) := vHigh w (lt (mul (F32.dec 11 10) (g 0x120)) vo)
  let reason := if high then 0x12 else w.reason
  let iin := sumW is
  let cmax := cnt.foldl max 0
  let y := (s.ctx k).wk.yPred
  let keep (ofs : Nat) (x : Word) : Nat × Word := (ofs, if hold then s.wk k ofs else x)
  { outs := [mul vin iin, vin, iin, vo, iref, wAt ds 0, 0, 0],
    stat := [BitVec.ofNat 32 (flagWord [(0, olim), (9, limit)] + min cmax 3 * 65536 + reason * 2 ^ 24), 0, 0, 0, 0, 0, 0, 0],
    ws := [keep 0x380 intV, keep 0x384 intO] ++ ctl.zipIdx.map (fun (x, j) => keep (0x388 + 4 * j) x.2.1),
    k := { w with cnt := cnt, fall := flagWord (limJ.zipIdx.map (fun (b, j) => (j, b))), cur := is, form := ls.map (·.2.form), run := run,
                  reason := reason, safe := hold, nxt := 0, curT := tS },
    sat := !hold && ((md ≠ 2 && sv) || (md = 2 && !F32.eq i2 sp) || ctl.any (fun x => x.2.2) || limit),
    dev := some (lt (let d := s.cw k 0x308; if d = 0 then F32.dec 25 100 else d)
      (if y.isEmpty then 0 else maxW (is.zipIdx.map (fun (i, j) => div (F32.abs (sub i (wAt y j))) il)))),
    yPred := pred1,
    set := if hold then none else some {
      cmps := (ds.zip legs).zipIdx.map (fun (x, j) => cmpOf j x.2 x.1),
      smp := legs.zipIdx.map (fun (l, j) => (l, dcInstant pT n j)) },
    cons := ls.zipIdx.filterMap (fun ((x, v), j) => if v.form = 0 then none else
      some { leg := x.leg, val := v.val, form := v.form, cnt := cnt.getD j 0, win := x.win / 128, at_ := tS }),
    preds := preds, pred := anyP, reqs := if high then [(0x12, 3)] else [], chk := ds }

/-! K_DAB. -/

/-- One step of K_DAB (R191). -/
def dabStep (s : State) (k : Nat) (sp : Word) : KRes :=
  let g := s.dp true k
  let w := (s.ctx k).wk.k
  let t := s.stepTs k
  let hold := s.mgSafe k
  let priv := s.cPriv k
  let v1 := s.inp k 0
  let v2 := s.inp k 1
  let i2 := s.inp k 2
  let il := s.cIlim k
  let md := parNat 2 (s.cw k 0x108)
  let (iv, intV, sv) := piStep priv (hold || md ≠ 2) (g 0x114) (g 0x118) t (negate il) il 0 (sub sp v2) (s.wk k 0x384)
  let iref := if md = 2 then iv else sp
  let pref := if md = 0 then sp else mul iref v2
  let fsw := div F32.one (F32.ofRat (s.setPeriod k) 400000000)
  let ln := mul (mul fsw (g 0x104)) (g 0x100)
  let rad := F32.max 0 (sub F32.one (div (mul (mul (F32.ofInt 8) ln) (F32.abs pref)) (mul v1 v2)))
  let ff := mul (mul (F32.sgn pref) (div F32.pi F32.two)) (sub F32.one (F32.sqrt rad))
  let pm := g 0x11C
  let (phi, intP, sp1) := if md = 0 then (F32.lim pm ff, s.wk k 0x380, !F32.eq (F32.lim pm ff) ff)
    else piStep priv hold (g 0x10C) (g 0x110) t (negate pm) pm ff (sub iref i2) (s.wk k 0x380)
  let p := 32 * s.setPeriod k
  let half := p / 2
  let sh := F32.toInt (div (mul phi (F32.ofInt p)) F32.twoPi)
  let at_ (x : Nat) : Nat := ((sh + x) % (p : Int)).toNat
  let (run, high) := vHigh w (lt (g 0x120) v2)
  let reason := if high then 0x12 else w.reason
  let l (j : Nat) : Nat := (s.cLegs k).getD j 0
  let pw := div (mul (mul (mul v1 v2) phi) (sub F32.pi (F32.abs phi))) (mul (mul F32.two (mul F32.pi F32.pi)) ln)
  { outs := pad8 [pw, phi, i2, v2],
    stat := [BitVec.ofNat 32 (reason * 2 ^ 24), 0, 0, 0, 0, 0, 0, 0],
    ws := [(0x380, F32.lim pm intP), (0x384, intV)],
    k := { w with run := run, reason := reason, safe := hold, nxt := 0 },
    sat := !hold && ((md = 2 && sv) || sp1),
    set := if hold then none else some
      { cmps := [⟨l 0, 0, half⟩, ⟨l 1, half, 0⟩, ⟨l 2, at_ 0, at_ half⟩, ⟨l 3, at_ half, at_ 0⟩] },
    reqs := if high then [(0x12, 3)] else [], chk := [phi] }

end Sys2Proof.Machine
end

