-- ==== Sys2Proof/Machine/PairLoad.lean ====
section
/-! DEFINITION. The load of the pair link (10_lovage_pairing.md R366 to R371): rates, record sizes, omitted records. -/
namespace Sys2Proof.Machine

/-- The mirror decimation of a context, ceil(f / 20 kHz) (R368). -/
def State.mirDecim (s : State) (k : Nat) : Nat :=
  let (n, d) := s.cRate s.plan k
  if d = 0 then 1 else max 1 ((n * 20000 + d - 1) / d)

/-- Bytes per second of the MIRROR and SEAL records of a context: 192 B × f_m, rounded up (R371). -/
def State.mirBytes (s : State) (k : Nat) : Nat :=
  let (n, d) := s.cRate s.plan k
  let d := d * s.mirDecim k
  if d = 0 then 0 else (192 * 400000000 * n + d - 1) / d

/-- The entry of a leg in a SET record in bytes (R366). -/
def State.setEntry (s : State) (n : Nat) : Nat := if s.legMode n = 4 then 16 else 8

/-- The legs of a group cut into parts of at most 16 blocks (R370): 24 bytes precede the entries. -/
def State.setParts (s : State) : List Nat → List Nat → Nat → List (List Nat)
  | [], cur, _ => if cur.isEmpty then [] else [cur]
  | n :: r, cur, b =>
    let e := s.setEntry n
    if b + e ≤ 256 then s.setParts r (cur ++ [n]) (b + e) else cur :: s.setParts r [n] (24 + e)

/-- The parts of a boundary of a group. -/
def State.partsOf (s : State) (g : Nat) : List (List Nat) := s.setParts (s.groupLegs g) [] 24

/-- The size of the SET records of a boundary, padded to whole blocks (R366, R371). -/
def State.setBytes (s : State) (g : Nat) : Nat :=
  (s.partsOf g).foldl (fun x l => x + (24 + l.foldl (fun y n => y + s.setEntry n) 0 + 15) / 16 * 16) 0

/-- The group's SET records go out at every k-th boundary, k = ceil(1 / (100 kHz × T)) (R369). -/
def State.setEvery (s : State) (g : Nat) : Nat :=
  let p := s.get (fTBG_PERIOD_t g)
  if p = 0 then 1 else max 1 ((4000 + p - 1) / p)

/-- The mirrored groups (R369). -/
def State.mirGroups (s : State) : List Nat := (List.range 32).filter (s.bitAt aPAIR_TBG_EN)
/-- The mirrored contexts that are admitted (R368). -/
def State.mirContexts (s : State) : List Nat := s.liveCtx.filter s.mirCtx

/-- Bytes per second of the heartbeat and the SET records (R371). -/
def State.fixedBytes (s : State) : Nat :=
  s.mirGroups.foldl (fun x g =>
    let d := s.get (fTBG_PERIOD_t g) * s.setEvery g
    if d = 0 then x else x + (s.setBytes g * 400000000 + d - 1) / d) 32000000

/-- The mirror load L in bytes per second (R371). -/
def State.pairLoad (s : State) : Nat := s.mirContexts.foldl (fun x k => x + s.mirBytes k) s.fixedBytes

/-- The MIRROR records of a context fit into 625 MB/s, those of the lower-numbered contexts counted first (R371). -/
def State.mirFits (s : State) (k : Nat) : Bool :=
  (s.mirContexts.filter (· ≤ k)).foldl (fun x j => x + s.mirBytes j) s.fixedBytes ≤ 625000000

end Sys2Proof.Machine
end

