-- ==== Sys2Proof/Machine/Basil.lean ====
section
/-! DEFINITION. A context's steps (03_basil_control_engine.md R73, R74, R81 to R86, R90 to R103): sample instants, inputs,
release, lanes, completion. The moments of time-driven commands are those of log entry 7. -/
namespace Sys2Proof.Machine

/-! Inputs (R77, R83). Keys: slots 0 to 15; 16 + j and 32 + j are the leg current and the phase voltage of the context's leg j
(04_machine_control.md R119). -/

/-- The cost of the step a context runs now (R78, R80). -/
def State.stepCost (s : State) (k : Nat) : Nat := if s.runsDisch k then kernelCost 10 1 + (if s.cPg k then 50 else 0) else s.cCost k

/-- The kernel reads leg currents of its own legs (04_machine_control.md R119; 05_grid_and_pv.md R162, R186). -/
def readsLegs (kid : Nat) : Bool := kid == 1 || kid == 2 || kid == 3 || kid == 4 || kid == 10

/-- The slots the kernel's chapter requires, in the configuration given (04_machine_control.md R118, R119; 05_grid_and_pv.md
R162, R185, R186, R190; R79). -/
def State.needSlots (s : State) (k : Nat) : List Nat :=
  match s.cKid k with
  | 1 | 10 => [0] ++ (if parNat 1 (s.cw k 0x164) = 1 then [1] else []) ++ (if parNat 1 (s.cw k 0x1C0) = 1 then [2] else [])
  | 2 => [0, 1] ++ (if parNat 1 (s.cw k 0x1C0) = 1 then [2] else [])
  | 3 => [0, 1, 5]
  | 4 | 6 => [0, 1]
  | 5 => [0, 1] ++ (if 1 ≤ parNat 2 (s.cw k 0x108) then [2] else [])
  | 7 | 8 | 9 => [0]
  | _ => []

/-- The inputs a step waits for (R83): slots with req = 1, slots its kernel requires, leg currents and, in phase DETECT, phase
voltages of the context's own legs. -/
def State.reqKeys (s : State) (k : Nat) : List Nat :=
  let need := if s.cKid k ≤ 6 || s.cKid k = 10 then s.needSlots k else []
  let bound := if s.cKid k = 1 || s.cKid k = 10 then (if s.slotBound k 1 then [1] else []) else []
  let slots := (List.range 16).filter (fun j => s.slotBound k j && ((s.slotW k j).fld 27 1 == 1 || need.contains j || bound.contains j))
  let n := (s.cLegs k).length
  let legs := if readsLegs (s.cKid k) then (List.range n).map (· + 16) else []
  let volt := if (s.cKid k = 1 || s.cKid k = 10) && s.nextPhase k = 1 then (List.range n).map (· + 32) else []
  slots ++ legs ++ volt


/-- Does the step hold a value of an input from its sample instant (R83)? -/
def State.present (s : State) (k j : Nat) : Bool :=
  let c := s.ctx k
  if j < 16 && s.slotType k j = 5 then (s.ctx (s.slotInst k j % 128)).st == .run
  else hasBit c.fresh j || (16 ≤ j && j < 32 && (c.planned ((s.cLegs k).getD (j - 16) 128)).isSome)

/-- The required inputs that are missing. -/
def State.missing (s : State) (k : Nat) : List Nat := (s.reqKeys k).filter (fun j => !s.present k j)

/-- A source by its number in a binding slot. -/
def srcNo : InSrc → Nat
  | .ndl => 1 | .adc => 2 | .fbi => 3 | .giu => 4 | .pair => 0

/-- The island a source sends from (02_islands_and_credits.md R50). -/
def srcIsland : InSrc → Nat
  | .ndl => 7 | .adc => 9 | .fbi => 10 | .giu => 8 | .pair => 13

/-- The bits of a selection that a source uses (R77). -/
def selOf (ty sel : Nat) : Nat := if ty = 2 || ty = 3 then sel % 2 else sel % 16

/-- The value a slot gives a raw word (R71, R77): integers are converted, binary32 sources taken as they are; then scaled. -/
def slotVal (ty sel : Nat) (raw scale : Word) : Word :=
  let v : Word :=
    if ty = 1 then F32.ofInt (if sel / 4 % 4 = 0 then sext 16 raw.toNat else (raw.toNat % 65536 : Nat))
    else if ty = 2 || (ty = 3 && sel % 2 = 0) then F32.ofInt raw.toInt
    else if ty = 4 && sel % 16 = 4 then F32.ofInt raw.toNat
    else raw
  F32.mul v scale

/-- Does a value without a record on the link, carried by the command, stand for the next sample instant (06_thyme_and_pwm.md R225;
12_analog_acquisition.md R432)? That of a K_DCDC leg with its own instant after the period start, and DC-link results of the second
half of a period: DESIGN CHOICE, log entry 26. -/
def State.forNext (s : State) (k j : Nat) : Bool :=
  let c := s.ctx k
  let half := s.cPeriod k / 2
  let kid := s.cKid k
  if kid = 4 && 16 ≤ j && j < 32 then
    let o := dcInstant (s.cPeriod k) (max 1 (s.cLegs k).length) (j - 16)
    o ≠ 0 && c.tS + o ≤ s.now
  else if ((kid = 1 || kid = 2 || kid = 10) && 2 ≤ j && j ≤ 4) || (kid = 3 && j = 6) then c.tS + half ≤ s.now
  else false

/-- How an item is attributed to a sample instant (06_thyme_and_pwm.md R225; 12_analog_acquisition.md R432): by the instant it stands
for, or by its arrival; an operand of the command as `forNext` says. -/
inductive Attr where
  | operand
  | arrival
  | at_ (t : Nat)
  deriving DecidableEq, Repr

/-- The attribution of a record on a link to Basil. -/
def EItem.attr (x : EItem) : Attr := match x.at_ with | some t => .at_ t | none => .arrival

/-- Is an item for an input that arrives now one of the context's next sample instant: the first one at or after its own instant? -/
def State.forLater (s : State) (k j : Nat) (w : Attr) : Bool :=
  match w with
  | .operand => s.forNext k j
  | .arrival => false
  | .at_ t => decide ((s.ctx k).tS < t)

/-- A value enters an input of a context. -/
def putInput (k j : Nat) (v : Word) (pred : Bool) (w : Attr) (s : State) : State :=
  let c := s.ctx k
  if s.forLater k j w then s.putCtx k { c with inNext := Tab.ins c.inNext j v }
  else s.putCtx k { c with inVal := Tab.ins c.inVal j v, fresh := c.fresh ||| 2 ^ j,
                           predIn := if pred then c.predIn ||| 2 ^ j else c.predIn }

/-- An item reaches the contexts in RUN that bind its source (R77, R83), and those that read it for a leg of their own. -/
def arrive (ty inst sel : Nat) (raw : Word) (pred : Bool) (only : Option Nat) (w : Attr) (s : State) : State :=
  let sel := selOf ty sel
  let ks := (allCtx.filter (fun k => (s.ctx k).st == .run)).filter (fun k => only.isNone || only == some k)
  s.each ks (fun k s =>
    let s := s.each ((List.range 16).filter (fun j => s.slotType k j == ty && s.slotInst k j == inst && selOf ty (s.slotSel k j) == sel))
      (fun j s => putInput k j (slotVal ty sel raw (s.cw k (0x44 + 8 * j))) pred w s)
    if ty = 1 && readsLegs (s.cKid k) then
      s.each ((s.cLegs k).zipIdx.filter (fun (n, _) => n == 4 * inst + sel % 4)) (fun (_, j) s =>
        if sel / 4 = 0 then putInput k (16 + j) (BitVec.ofInt 32 (sext 16 raw.toNat)) pred w s
        else if sel / 4 = 1 then putInput k (32 + j) (BitVec.ofNat 32 (raw.toNat % 65536)) pred w s
        else s)
    else s)

/-- BASIL_INPUT (R83): the record that waits on the link from that source arrives; one that no modelled sender has put there
carries the operand (log entry 26). Items of PAIR fill no slot. -/
def basilInput (src : InSrc) (inst sel : Nat) (raw : Word) (pred : Bool) (s : State) : State :=
  let ty := srcNo src
  if ty = 0 then s
  else
    let is (x : EItem) : Bool := x.src + 1 == ty && x.inst == inst && selOf ty x.sel == selOf ty sel
    let s' := match s.basil.rx.find? is with
      | some x => s.setBasil { s.basil with rx := s.basil.rx.erase x }
      | none => s
    -- Basil's warden takes it in RUN; otherwise it is answered ABSENT and not delivered (02_islands_and_credits.md R48, R54)
    fabSend (srcIsland src) 5 0 (fun t =>
      match s.basil.rx.find? is with
      | some x => if x.bad then t else arrive ty inst sel x.raw pred x.ctx x.attr t
      | none => arrive ty inst sel raw pred none .operand t) s'

/-- BASIL_INPUT. -/
def execBasilInput (src : InSrc) (inst sel : Nat) (raw : BitVec 32) (pred : Bool) (s : State) : Host.Outcome State Fault Refusal :=
  done (basilInput src inst sel raw pred s)

/-! Release (R83). -/

/-- The value a slot gives the step: from this instant, or the one a sealed step used last (R83). A slot that the step does not require
and that has neither gives the newest value that arrived: R83 does not say what such a slot gives (DESIGN CHOICE, log entry 46). -/
def State.slotNow (s : State) (k j : Nat) : Option Word :=
  let c := s.ctx k
  let ty := s.slotType k j
  if ty = 5 then
    let up := s.slotInst k j % 128
    if (s.ctx up).st = .run then
      some (F32.mul (s.cw up (0x780 + 4 * (s.slotSel k j % 8))) (s.cw k (0x44 + 8 * j)))
    else Tab.find c.used j
  else if hasBit c.fresh j then Tab.find c.inVal j
  else match Tab.find c.used j with
    | some v => some v
    | none => if (s.reqKeys k).contains j then none else Tab.find c.inVal j

/-- The inputs of the step as they stand. -/
def State.inputsNow (s : State) (k : Nat) : Tab Word :=
  let c := s.ctx k
  let slots := (List.range 16).filterMap (fun j => if s.slotBound k j then (s.slotNow k j).map (fun v => (j, v)) else none)
  let legs := (List.range (s.cLegs k).length).filterMap (fun j =>
    if hasBit c.fresh (16 + j) then (Tab.find c.inVal (16 + j)).map (fun v => (16 + j, v)) else none)
  let volts := (List.range (s.cLegs k).length).filterMap (fun j =>
    ((if hasBit c.fresh (32 + j) then Tab.find c.inVal (32 + j) else Tab.find c.used (32 + j))).map (fun v => (32 + j, v)))
  slots ++ legs ++ volts

/-- The inputs of a step without a value from its sample instant (R83), by mask: slots and leg currents. -/
def State.oldMask (s : State) (k : Nat) : Nat :=
  let slots := (List.range 16).filter (fun j => s.slotBound k j)
  let legs := (List.range (s.cLegs k).length).map (· + 16)
  (slots ++ legs).foldl (fun m j => if s.present k j then m else m + 2 ^ j) 0

/-- Is a leg's window at the present period start no narrower than its kernel's w_min (04_machine_control.md R127,
05_grid_and_pv.md R166)? -/
def State.legWide (s : State) (k n : Nat) : Bool :=
  let wm := if s.cKid k = 3 then s.gp k 0x16C else s.pm k 0x15C
  !F32.lt (F32.secs (s.winNow n (32 * s.get (fTBG_PERIOD_t ((s.cTbg k).getD 0))))) wm

/-- The leg currents a context has measured, in wide windows, at the instants of its last two released steps
(04_machine_control.md R134). -/
def noteMeas (k : Nat) (s : State) : State :=
  let c := s.ctx k
  let now := (s.cLegs k).zipIdx.filterMap (fun (n, j) =>
    if hasBit c.fresh (16 + j) && s.legWide k n then (Tab.find c.inVal (16 + j)).map (fun v => (j, v)) else none)
  s.putCtx k { c with measT := c.tS, meas := now, measP := (c.measT, c.meas) }

/-- The step is released (R83) with some inputs missing. The step refused at the fourth miss in a row counts as stale too: R83 does
not say (DESIGN CHOICE, log entry 46). -/
def releaseStep (k : Nat) (miss : List Nat) (s : State) : State :=
  let c := s.ctx k
  let c := { c with staleRun := miss.map (fun j => (j, Tab.get 0 c.staleRun j + 1)) }
  let s := s.putCtx k c
  let s := if miss.isEmpty then s else ctxIrq k 7 (cntEvt k 16 s)
  if c.staleRun.any (fun x => 4 ≤ x.2) then haltCtx k 2 (s.putCtx k { c with ph := .idle })
  else if miss.any (fun j => (Tab.find c.used j).isNone) then
    -- no value since the START: not run
    stopDue k (s.putCtx k { c with ph := .idle, wk := c.w })
  else
    let marked := match s.cTbg k with | some g => writesSets (s.cKid k) && s.on (fTBG_STAT_pper g) | none => false
    noteMeas k (s.putCtx k { c with
      ph := .released, stale := !miss.isEmpty, stepIn := s.inputsNow k, old := s.oldMask k, marked := marked })

/-- Does the scheduler release steps (R112)? -/
def State.schedOn (s : State) : Bool := s.on fENG_CFG_sched_en

/-- STEP_RELEASE (R83). -/
def execStepRelease (k : Fin 128) (s : State) : Host.Outcome State Fault Refusal :=
  let k := k.val
  done (if (s.ctx k).ph = .waiting && (s.missing k).isEmpty && s.now ≤ (s.ctx k).latest && s.schedOn then releaseStep k [] s else s)

/-- LATEST_START (R83, R84, R97): a step the scheduler does not release is an overrun (R112). -/
def latestStart (k : Nat) (s : State) : State :=
  let c := s.ctx k
  match c.ph with
  | .waiting => let s := s.reach c.latest; if s.schedOn then releaseStep k (s.missing k) s else overrun k s
  | .released => if c.retry.isSome then privLate k (s.reach c.latest) else overrun k (s.reach c.latest)
  | _ => s

/-- LATEST_START. -/
def execLatestStart (k : Fin 128) (s : State) : Host.Outcome State Fault Refusal := done (latestStart k.val s)

/-! Lanes (R69, R85, R96). -/

/-- A lane, its end and whether it is free. -/
def State.lane (s : State) (i : Nat) : Lane := Tab.get {} s.lanes i
def State.laneFree (s : State) (i : Nat) : Bool := (s.lane i).ctx.isNone
/-- The moment both lanes of a pair have ended. -/
def State.pairEnd (s : State) (p : Nat) : Nat :=
  max (if s.laneFree (2 * p) then 0 else (s.lane (2 * p)).endAt) (if s.laneFree (2 * p + 1) then 0 else (s.lane (2 * p + 1)).endAt)

/-- Released steps that may still start, earliest deadline first, then the lower context number (R85). -/
def State.released (s : State) : List Nat :=
  let l := allCtx.filter (fun k => (s.ctx k).ph == .released && s.now ≤ (s.ctx k).latest)
  l.foldl (fun r k =>
    let d := (s.ctx k).deadline
    r.filter (fun j => (s.ctx j).deadline ≤ d) ++ [k] ++ r.filter (fun j => d < (s.ctx j).deadline)) []

/-- The step that starts now and its lanes, and the pair reserved for an earlier privileged step (R85, R97). `held` is the
pair reserved so far. -/
def State.pick (s : State) : Option Nat → List Nat → Option (Nat × List Nat) × Option Nat
  | held, [] => (none, held)
  | held, k :: r =>
    let free (i : Nat) : Bool := s.laneFree i && held ≠ some (i / 2)
    if s.cPriv k then
      let ok := [0, 1].filter (fun p => free (2 * p) && free (2 * p + 1) && ((s.ctx k).retry.isNone || (s.ctx k).retry == some p))
      match ok with
      | p :: _ => (some (k, [2 * p, 2 * p + 1]), held)
      | [] => match held with
        | some h => s.pick (some h) r
        | none => s.pick (some (match (s.ctx k).retry with | some p => p | none => if s.pairEnd 1 < s.pairEnd 0 then 1 else 0)) r
    else match [0, 1, 2, 3].filter free with
      | i :: _ => (some (k, [i]), held)
      | [] => (none, held)

/-- A step starts on its lanes with a copy of the sealed state (R96). -/
def startStep (k : Nat) (ls : List Nat) (s : State) : State :=
  let cost := s.stepCost k
  let e := s.now + 32 * cost
  let s := copyWords k 0x380 0x580 128 s
  let c := s.ctx k
  let s := s.putCtx k { c with ph := .running, cost := cost, wk := c.w }
  s.each ls (fun i s => s.setLanes (Tab.ins s.lanes i
    { ctx := some k, endAt := e, priv := ls.length == 2, start := s.now, booked := s.now }))

/-- STEP_START (R85). -/
def execStepStart (s : State) : Host.Outcome State Fault Refusal :=
  let (x, held) := s.pick none s.released
  let s := s.setBasil { s.basil with pair := held }
  done (match x with
    | some (k, ls) => startStep k ls s
    | none => s)

/-! Completion (R95, R96, R97, R101). -/

/-- The kernel of a step runs (R78 to R80). -/
def State.kernel (s : State) (k : Nat) : KRes :=
  let kid := s.cKid k
  let ts := s.stepTs k
  let pg := s.cPg k
  let g := if pg then s.pgRun k ts else (0, 0, 0, false)
  let (sp, ff) := s.kSet k kid g
  let r := if s.runsDisch k then machStep s k true sp
    else match kid with
      | 1 | 2 => machStep s k false sp
      | 3 => gridStep s k sp
      | 4 => dcdcStep s k sp
      | 5 => dabStep s k sp
      | 6 => kMppt s k
      | 7 => kPi s k ts sp ff true
      | 8 => kPos s k sp ff
      | 10 => machStep s k true sp
      | _ => kPi s k ts sp ff false
  if r.pgw ≠ [] then { r with pgDone := false } else { r with pgw := if pg then pgWords (s.cw k 0xC4) g else [], pgDone := pg && g.2.2.2 }

/-- A limit of R101 in fine ticks: 0 selects the default, others are held within the range; in units of 0.1 ms. -/
def State.supLim (s : State) (k ofs hi dflt : Nat) : Nat :=
  let x := parIn (F32.dec 1 10000) (F32.dec hi 10000) (some (F32.dec dflt 10000)) (s.cw k ofs)
  (F32.toInt (F32.mul x (F32.ofInt 12800000000))).toNat

/-- One leaky timer (R101). -/
def leaky (on : Bool) (ts lim t : Nat) : Nat := if on then min (t + ts) lim else t - ts

/-- The supervision of a step (R101): its working copy, and whether the cross rule halts the context. -/
def State.supervise (s : State) (k : Nat) (r : KRes) : Work × Bool :=
  let w := (s.ctx k).w
  let ts := s.stepFine k
  let ls := s.supLim k 0x300 10000 200
  let ld := s.supLim k 0x304 10000 100
  let lc := s.supLim k 0x30C 1000 20
  let dev := r.dev.getD false
  let plant := r.dev.isSome
  let go := r.phase = 0
  let tS := if go then leaky r.sat ts ls w.tSat else w.tSat
  let tD := if go && plant then leaky dev ts ld w.tDev else w.tDev
  let tC := if go && plant then leaky (r.sat && dev) ts lc w.tCross else w.tCross
  ({ k := r.k, tSat := tS, tDev := tD, tCross := tC,
     satLong := if tS = 0 then false else w.satLong || decide (ls ≤ tS),
     devLong := if tD = 0 then false else w.devLong || decide (ld ≤ tD),
     yPred := r.yPred, phase := r.phase, pgDone := r.pgDone, pgMet := r.pgDone && !s.mgSafe k }, decide (lc ≤ tC) && tC ≠ 0)

/-- The set of a completed step goes to the PTA (R90, R92; 06_thyme_and_pwm.md R217). -/
def emitSet (k : Nat) (o : Option KOut) (s : State) : State :=
  let c := s.ctx k
  match o, s.cTbg k with
  | some x, some g =>
    if s.setLive k && s.tbgRun g then
      let set : KSet := { ctx := k, step := c.stepNo, target := c.target, marked := c.marked, cmps := x.cmps, smp := x.smp,
                          trg0 := x.trg0, trg1 := x.trg1, dark := x.dark }
      (s.putTbg g { s.tbg g with wire := (s.tbg g).wire ++ [set] }).putCtx k { c with noSet := false }
    else s
  | _, _ => s

/-- A completed step of a mirrored context hands PAIR its tentative record, which PAIR omits where the capacity ends (R92;
10_lovage_pairing.md R368, R371). -/
def emitMirror (k : Nat) (s : State) : State :=
  let c := s.ctx k
  if s.mirCtx k && s.mirroring && c.stepNo % s.mirDecim k = 0 then
    if s.mirFits k then
      engToPair (.mirror k (BitVec.ofNat 32 c.stepNo) (s.memWords (cArea k + 0x580) 32) c.outs) (s.putCtx k { c with mirrored := true })
    else s.incrSat fPAIR_DROP_cnt
  else s

/-- A step without error emits its provisional results (R91, R92). -/
def emitStep (k : Nat) (r : KRes) (w : Work) (s : State) : State :=
  let s := s.each r.ws (fun (o, v) s => s.putCw k (o + 0x200) v)
  let c := s.ctx k
  let s := s.putCtx k { c with
    ph := .prov, ovrRun := 0, outs := pad8 r.outs, stat := pad8 r.stat, pgw := r.pgw, sat := r.sat,
    pred := r.pred || c.predIn ≠ 0, preds := r.preds, cons := r.cons, noSet := true, mirrored := false, wk := w, retry := none }
  let s := emitMirror k (emitSet k r.set s)
  let s := s.each r.recs (fun (code, pay) s => s.record code .eng pay)
  let s := match s.cMg k with
    | some m => s.each r.reqs (fun (reason, q) s => kernRequest m reason (if q = 0 then s.dfltReq m else q) s)
    | none => s
  if (s.ctx k).stopPend && (s.ctx k).noSet then sealStep k s else s

/-- The step of a context has run to its end (R95, R101). -/
def finishStep (k : Nat) (s : State) : State :=
  let r := s.kernel k
  let idle (s : State) : State := let c := s.ctx k; s.putCtx k { c with ph := .idle, wk := c.w, retry := none }
  if !r.finite then haltCtx k 5 (idle s)
  else
    let (w, cross) := s.supervise k r
    if cross then haltCtx k 4 (idle s) else emitStep k r w s

/-- A privileged mismatch (R97): one more run on the other pair where it can finish by the deadline, otherwise HALT. -/
def privMismatch (k p : Nat) (s : State) : State :=
  let s := ((s.incrSat fENG_PRIV_MIS_cnt).raise fENG_IRQ_RAW_priv_mis).sageEvt 29 (nCtx k)
  let c := s.ctx k
  let q := 1 - p
  let start := max s.now (s.pairEnd q)
  let s := s.putCtx k { c with ph := .idle, wk := c.w, retry := none }
  if c.retry.isSome then haltCtx k 3 s
  else if start + 32 * c.cost ≤ c.deadline then
    s.putCtx k { c with ph := .released, wk := c.w, retry := some q, latest := c.deadline - 32 * c.cost }
  else privLate k s

/-- The lanes of a step whose context has entered HALT come free at its end (R69): its results are dropped. -/
def endDead (i : Nat) (s : State) : State :=
  let x := s.lane i
  let s := s.reach x.endAt
  s.each (if x.priv then [i / 2 * 2, i / 2 * 2 + 1] else [i]) (fun j s =>
    if (s.lane j).dead then (bookLane j (s.lane j).endAt s).setLanes (Tab.del (bookLane j (s.lane j).endAt s).lanes j) else s)

/-- STEP_COMPLETE (R69, R70, R84, R96). -/
def execStepComplete (l : Fin 4) (mis : Bool) (s : State) : Host.Outcome State Fault Refusal :=
  let x := s.lane l.val
  done (match x.ctx with
    | none => s
    | some k =>
      if x.dead then endDead l.val s
      else if (s.ctx k).deadline < x.endAt then overrun k (s.reach (s.ctx k).deadline)
      else
        let s := freeLanes k (s.reach x.endAt)
        if mis && x.priv then privMismatch k (l.val / 2) s else finishStep k s)

/-- STEP_DEADLINE (R84, R97). -/
def stepDeadline (k : Nat) (s : State) : State :=
  let c := s.ctx k
  if c.ph = .released && c.retry.isSome then privLate k (s.reach c.deadline)
  else if c.ph = .waiting || c.ph = .released || c.ph = .running then overrun k (s.reach c.deadline)
  else s

/-- STEP_DEADLINE. -/
def execStepDeadline (k : Fin 128) (s : State) : Host.Outcome State Fault Refusal := done (stepDeadline k.val s)

/-! Sample instants (R81, R82, R102, R109). -/

/-- A context error (R110). -/
def ctxWrErr (s : State) : State := s.errSet 0x40050000 16

/-- A supervision word as it is stored (R101): +0, or held within its range. -/
def supWord (ofs : Nat) (v : Word) : Word :=
  let hold (lo hi : Word) : Word := if v = 0 then v else F32.clamp lo hi v
  if ofs = 0x300 || ofs = 0x304 then hold (F32.dec 1 10000) F32.one
  else if ofs = 0x308 then hold (F32.dec 1 100) F32.one
  else if ofs = 0x30C then hold (F32.dec 1 10000) (F32.dec 1 10)
  else v

/-- The words of K_GRID that ADMIT writes and nothing else does (05_grid_and_pv.md R163). -/
def State.fixedWord (s : State) (k ofs : Nat) : Bool := s.cKid k == 3 && (ofs == 0x188 || ofs == 0x18C)

/-- A parameter word as a commit stores it (R101, R103, R107): supervision words within their range; a mode word that is neither
1 nor 2 does not change that of a context that is not OFF; a word that is not finite is refused as such a mode word is (DESIGN CHOICE,
log entry 47: R107 has Basil check it and names no answer). -/
def putParam (k ofs : Nat) (v : Word) (s : State) : State :=
  if ofs ≠ 0x310 && !F32.isFinite v then ctxWrErr s
  else if ofs = 0x340 && (s.ctx k).st ≠ .off && !(F32.isNat v 1 || F32.isNat v 2) then ctxWrErr s
  else if s.fixedWord k ofs then s
  else s.putCw k ofs (supWord ofs v)

/-- The word of K_PMSM and K_DISCH at 0x190, c_lock, is held above c_min (04_machine_control.md R120). -/
def lockWord (k : Nat) (s : State) : State :=
  if (s.cKid k = 1 || s.cKid k = 10) && (s.ctx k).st ≠ .off then
    let lo := s.pm k 0x18C
    if F32.le (s.pm k 0x190) lo then s.putCw k 0x190 (F32.add lo (F32.dec 5 100)) else s
  else s

/-- A pending commit of a context applies (R109). -/
def applyParams (k : Nat) (s : State) : State :=
  let c := s.ctx k
  match c.cmtGen with
  | none => s
  | some g =>
    let s := s.putCtx k { c with cmtGen := none, cmtWords := [] }
    let s := lockWord k (s.each c.cmtWords (fun (o, v) s => putParam k o v s))
    ((s.put (cf k fCTX_W_PGEN_applied) g).irq 0x40050000 1)

/-- The window registers with effect at the sample instant and their words of the area (R75, R113). -/
def ctxHomes : List (Nat × Nat) := [(aCTX_W_SRC, 0xC0), (aCTX_W_SETP, 0xC4), (aCTX_W_ILIM, 0xC8)]

/-- The shadows of CTX_W_SRC, CTX_W_SETP and CTX_W_ILIM take effect (R109). -/
def applyCtxBnd (k : Nat) (s : State) : State :=
  s.each ctxHomes (fun (a, o) s =>
    match Tab.find s.bnd (inst k a) with
    | some p => (s.putCw k o (p.on (s.cw k o))).setBnd (Tab.del s.bnd (inst k a))
    | none => s)

/-- The output range that holds an integrator of an ordinary context (R98, R100). -/
def State.integRange (s : State) (k i : Nat) : Word × Word :=
  let il := s.cIlim k
  let vdc := Tab.get 0 (s.ctx k).used 0
  let sym (x : Word) : Word × Word := (F32.negate x, x)
  match s.cKid k with
  | 1 | 2 | 10 => sym (F32.div (F32.mul (s.pm k 0x130) vdc) F32.sqrt3)
  | 3 =>
    if i = 2 then sym (s.cw k 0x18C)
    else if i = 3 then sym (F32.mul (F32.dec 1 10) vdc)
    else sym (F32.div (F32.mul (s.gp k 0x120) vdc) (if (s.cLegs k).length = 4 then F32.two else F32.sqrt3))
  | 4 =>
    let vo := Tab.get 0 (s.ctx k).used 1
    if i = 0 then (0, il)
    else if i = 1 then (if parNat 2 (s.cw k 0x104) = 2 then F32.negate il else 0, il)
    else if parNat 1 (s.cw k 0x100) = 1 then (F32.negate vo, F32.sub vdc vo) else (F32.sub vdc vo, vdc)
  | 5 => sym (if i = 0 then s.dp true k 0x11C else il)
  | 7 | 9 => (s.cw k 0x108, s.cw k 0x10C)
  | _ => (F32.negate fMax, fMax)

/-- A context with an integrator of its unsealed steps replaced. -/
def Ctx.withInteg (c : Ctx) (i : Nat) (v : Word) : Ctx :=
  { c with older := c.older.map (fun o => { o with words := setAt o.words i v }) }

/-- The value an integrator takes (R100): clamped but for a privileged context. -/
def State.integValue (s : State) (k i : Nat) (v : Word) : Word :=
  if s.cPriv k then v else F32.clamp (s.integRange k i).1 (s.integRange k i).2 v

/-- An integrator takes a value (R100). A completed step that has not sealed keeps it when it seals. -/
def setInteg (k i : Nat) (v : Word) (s : State) : State :=
  let v := s.integValue k i v
  let s := s.putCw k (0x380 + 4 * i) v
  let s := s.when ((s.ctx k).ph == .prov) (fun s => s.putCw k (0x580 + 4 * i) v)
  s.putCtx k ((s.ctx k).withInteg i v)

/-- What a sample instant makes effective in the context (R100, R103, R109). -/
def applyInstant (k : Nat) (s : State) : State :=
  let s := applyParams k (applyCtxBnd k s)
  let c := s.ctx k
  match c.itegPend with
  | some (i, v) => setInteg k i v (s.putCtx k { c with itegPend := none })
  | none => s

/-- Is an upstream context in RUN at an instant: also one that begins RUN with an instant of the same time (R74, R102). -/
def State.upRuns (s : State) (k t : Nat) : Bool :=
  (s.ctx k).st == .run || ((s.ctx k).startPend && (s.nextInstant k).any (fun x => decide (x ≤ t)))

/-- The set-point of an instant (R102): its value and the context, or none where the loss action is HALT. -/
def State.setpoint (s : State) (k t : Nat) : Option (Word × Ctx) :=
  let c := s.ctx k
  let src := s.cw k 0xC0
  if src.fld 12 2 ≠ 1 then some (s.cw k 0xC4, { c with rampAt := none })
  else
    let up := src.fld 0 7
    let v := s.cw up (0x780 + 4 * src.fld 7 3)
    if s.upRuns up t then some (v, { c with rampAt := none })
    else match src.fld 10 2 with
      | 1 => some (v, c)
      | 2 => none
      | _ =>
        let c := match c.rampAt with | some _ => c | none => { c with rampAt := some t, rampFrom := c.setp }
        let d := t - c.rampAt.getD t
        some (if 2 * ms ≤ d then 0 else F32.mul c.rampFrom (F32.ofRat (2 * ms - d) (2 * ms)), c)

/-- The boundary a set computed from instant `t` targets, and its hand-off point (R82). -/
def State.targetOf (s : State) (g t : Nat) : Nat × Nat :=
  let x := s.tbg g
  let p := s.periodF g
  let want := t + p
  let b := if p = 0 || want ≤ x.nextB then x.nextB else x.nextB + (want - x.nextB + p - 1) / p * p
  (b, b - 32 * s.hofs g)

/-- The target boundary of a step and its deadline (R82). For a step triggered by software, whose next sample instant is not known,
the deadline is its instant plus CTX_W_TIMER, and for a set-writing context whose group is stopped its instant plus its own period
(DESIGN CHOICE, log entry 46). -/
def State.stepEnd (s : State) (k t : Nat) : Nat × Nat :=
  match writesSets (s.cKid k), s.cTbg k with
  | true, some g => if s.tbgRun g then s.targetOf g t else (0, t + s.cPeriod k)
  | _, _ => (0, t + s.cPeriod k)

/-- The context at the begin of the step of an instant (R81, R82, R83). -/
def State.begun (s : State) (k t : Nat) (sp : Word) : Ctx :=
  let c := s.ctx k
  let e := s.stepEnd k t
  { c with
    ph := .waiting, tS := t, tPrev := t, stepNo := (c.stepNo + 1) % 2 ^ 32, target := e.1, deadline := e.2,
    latest := e.2 - 32 * s.stepCost k, marked := false, setp := sp, retry := none,
    inVal := c.inNext.foldl (fun l (i, v) => Tab.ins l i v) c.inVal, fresh := c.inNext.foldl (fun m (i, _) => m ||| 2 ^ i) 0,
    predIn := 0, inNext := [], nextAt := t + 32 * s.cTimer k, seen := 0 }

/-- The step of an instant begins (R81, R82, R83). -/
def beginStep (k t : Nat) (sp : Word) (s : State) : State := s.putCtx k (s.begun k t sp)

/-- The previous step of a context at its next sample instant: one that emitted no set seals (R91), one that waits for its
boundary is kept, one that has not completed is an overrun (R82, R84). -/
def settleStep (k : Nat) (s : State) : State :=
  let c := s.ctx k
  match c.ph with
  | .prov =>
    if c.noSet then sealStep k s
    else
      let o := c.asOlder (s.memWords (cArea k + 0x580) 128)
      let l := c.older ++ [o]
      let s := s.putCtx k { c with ph := .idle, outs := [], stat := [], pgw := [], cons := [], older := l.drop (l.length - 4) }
      s.each (l.take (l.length - 4)) (cancelOne k)
  | .idle => s
  | _ => overrun k s

/-- A sample instant of a context (R74, R81, R91, R102, R109). -/
def instantAt (k t : Nat) (s : State) : State :=
  let s := stopDue k (settleStep k s)
  let c := s.ctx k
  let s := if c.startPend then enterRun k s else s
  let s := applyInstant k s
  let c := s.ctx k
  if c.st ≠ .run || c.stopPend then s
  else match s.setpoint k t with
    | none => haltCtx k 8 s
    | some (sp, c) => beginStep k t sp (s.putCtx k c)

/-! START and STOP (R73, R74, R83). -/

/-- START is accepted: inputs are forgotten; a machine context's observer state and phase are those of its start
(04_machine_control.md R142), a grid context enters WAIT (05_grid_and_pv.md R168); the validity of a ke estimate begins anew (R148).
A context triggered by software enters RUN at START, since TRIG is accepted only in RUN: R74 leaves that case open (DESIGN CHOICE, log
entry 46). -/
def startCtxAt (k : Nat) (s : State) : State :=
  let kid := s.cKid k
  let mach := kid = 1 || kid = 2 || kid = 10
  let s := if mach then s.each (List.range 29) (fun i s => s.putCw k (0x3A0 + 4 * i) 0) else s
  let c := s.ctx k
  let k0 : KSt := { flags := c.w.k.flags &&& 0xFBFF, com := c.w.k.com, wrong := c.w.k.wrong, iq0 := c.w.k.iq0,
                    nxt := if kid = 6 then 0 else 9 }
  let w : Work := { c.w with k := k0, yPred := [], phase := if kid = 3 then 1 else 0 }
  let s := s.putCtx k { c with
    startPend := true, stopPend := false, ph := .idle, tPrev := s.now, nextAt := s.now + 32 * s.cTimer k, lastTrig := none,
    inVal := [], inNext := [], used := [], staleRun := [], ovrRun := 0, preds := [], cons := [], rampAt := none, w := w, wk := w,
    seen := 0, old := 0, measT := 0, meas := [], measP := (0, []) }
  let s := if mach then
      let ph := s.entryPhase k Obs.zero 0 false true false false
      let c := s.ctx k
      s.putCtx k { c with w := { c.w with phase := ph }, wk := { c.wk with phase := ph } }
    else s
  let s := s.put (cf k fCTX_W_STAT_phase) (s.ctx k).w.phase
  if s.cSrc k = 2 then enterRun k s else s

/-- STOP is accepted (R74, R91): no further step is released; the step in flight ends first. A step that has begun and is not released
yet is dropped without a seal, a cancel or an overrun: R74 does not name it (DESIGN CHOICE, log entry 46). -/
def stopCtxAt (k : Nat) (s : State) : State :=
  let c := s.ctx k
  let s := s.putCtx k { c with stopPend := true, ph := if c.ph = .waiting then .idle else c.ph }
  let s := if c.ph = .prov && c.noSet then sealStep k s else s
  let s := stopDue k s
  if (s.ctx k).st = .run then s else applyInstant k s

end Sys2Proof.Machine
end

