-- ==== Sys2Proof/Machine/Wave.lean ====
section
/-! DEFINITION. From compare values to edges (06_thyme_and_pwm.md R205 to R210, R215; 07_trips_and_leg_protection.md R260):
pure functions over the intervals of one period, in fine ticks. -/
namespace Sys2Proof.Machine

/-- On-intervals [start, end), in order, inside one period. -/
abbrev Ivs := List (Nat × Nat)

/-- Step 1 (R206): the value used for a compare value, and whether it was clamped. -/
def clampCmp (p : Nat) (wrap : Bool) (v : Nat) : Nat × Bool :=
  if v ≤ p then (v, false) else if wrap && v < 2 * p then (v - p, false) else (p, true)

/-- Step 2 (R205): h(t) of a period. -/
def formH (p on off : Nat) : Ivs :=
  if on = off then []
  else if on < off then [(on, off)]
  else (if off = 0 then [] else [(0, off)]) ++ (if on = p then [] else [(on, p)])

/-- The cyclic length of the on-time of a set, which has one cyclic on-interval. -/
def onTime (l : Ivs) : Nat := l.foldl (fun x (a, b) => x + (b - a)) 0

/-- Step 3 (R208): an on-interval shorter than t_min is removed, then an off-interval shorter than t_min is closed. -/
def minPulse (p tmin : Nat) (l : Ivs) : Ivs :=
  let n := onTime l
  if n < tmin then [] else if n < p && p - n < tmin then [(0, p)] else l

/-- The off-intervals of a period, cyclically measured: the longest. -/
def longestOff (p : Nat) (l : Ivs) : Nat :=
  match l with
  | [] => p
  | (a0, _) :: _ =>
    let rec go : Ivs → Nat → Nat
      | [], best => best
      | [(_, b)], best => max best (p - b + a0)
      | (_, b) :: (a, c) :: r, best => go ((a, c) :: r) (max best (a - b))
    go l 0

/-- Intervals without what lies before `r`. -/
def cutBefore (r : Nat) (l : Ivs) : Ivs :=
  (l.filter (fun (_, b) => r < b)).map (fun (a, b) => (max a r, b))

/-- Step 4 (R260): an off-time of length r is made where none is long enough; answers whether it changed h(t). -/
def refresh (p r : Nat) (l : Ivs) : Ivs × Bool :=
  if r ≤ longestOff p l then (l, false)
  else if p ≤ r then ([], true)
  else match l with
    | [] => ([], false)
    | (a, _) :: _ =>
      if a = 0 then (cutBefore r l, true)
      else
        -- low at the period start: the off-interval begins at the last falling end, cyclically
        let fall := (l.getLast?.map (·.2)).getD 0
        (cutBefore (fall + r - p) l, true)

/-- The part of the intervals inside a window [w, e). -/
def within (w e : Nat) (l : Ivs) : Ivs :=
  (l.filter (fun (a, b) => a < e && w < b)).map (fun (a, b) => (max a w, min b e))

/-- Step 5 (R209): rising edges move to w + dt; a pulse that falls before that is dropped. `high` is h at the end of the
previous window. -/
def windowStart (w dt : Nat) (high : Bool) (l : Ivs) : Ivs :=
  (l.map (fun (a, b) => if a = w && high then (a, b) else (max a (w + dt), b))).filter (fun (a, b) => a < b)

/-- The low gaps of h in a window [w, e): start (or none where the gap began before) and end (or none where it goes on). -/
def gaps (w e : Nat) (l : Ivs) : List (Option Nat × Option Nat) :=
  let rec go : Ivs → Option Nat → List (Option Nat × Option Nat)
    | [], f => [(f, none)]
    | (a, b) :: r, f => (f, some a) :: go r (some b)
  match l with
  | [] => [(none, none)]
  | (a, b) :: r =>
    let tail := go r (some b)
    let tail := if ((b :: r.map (·.2)).getLast?.getD 0) = e then tail.dropLast else tail
    if a = w then tail else (none, some a) :: tail

/-- A request of a switch in a window: time (absolute), low side, on. -/
structure Rq where
  t : Nat
  ls : Bool
  on : Bool
  deriving DecidableEq, Repr

/-- Requests in order of time; at one time off-edges before on-edges, the high side first. -/
def Rq.before (x y : Rq) : Bool :=
  decide (x.t < y.t) || (x.t == y.t && ((!x.on && y.on) || (x.on == y.on && !x.ls && y.ls)))
def insRq (x : Rq) : List Rq → List Rq
  | [] => [x]
  | y :: r => if x.before y then x :: y :: r else y :: insRq x r
def sortRq (l : List Rq) : List Rq := l.foldl (fun r x => insRq x r) []

/-- The requests that bring a switch from its emitted level through the on-intervals of a window, relative to `b`. -/
def reqsOf (b w e : Nat) (ls now : Bool) (l : Ivs) : List Rq :=
  let first := match l with | (a, _) :: _ => a == w | [] => false
  let off0 := if now && !first then [⟨b + w, ls, false⟩] else []
  off0 ++ l.flatMap (fun (x, y) =>
    (if x = w && now then [] else [⟨b + x, ls, true⟩]) ++ (if y = e then [] else [⟨b + y, ls, false⟩]))

/-- The state of the two switches as the interlock sees it (R215): a refused pulse drops its off-edge, in this window or (skip) in a
later one. -/
structure Sw where
  hs : Bool
  lo : Bool
  hsOff : Option Nat
  lsOff : Option Nat
  dead : Option Nat
  dropH : Bool := false
  dropL : Bool := false
  skipH : Bool := false
  skipL : Bool := false
  deriving DecidableEq, Repr

/-- The earliest time an on-edge may take (R215). -/
def earliest (dt t : Nat) (off dead : Option Nat) : Nat :=
  let x := match off with | some o => max t (o + dt) | none => t
  match dead with | some d => max x (d + dt) | none => x

/-- The interlock over the requests in order (R215): emitted edges, shoot requests, final state. -/
def interlock (dt : Nat) : Nat → Sw → List Rq → List Rq × Nat × Sw
  | 0, w, _ => ([], 0, w)
  | _ + 1, w, [] => ([], 0, w)
  | n + 1, w, q :: r =>
    if !q.on then
      if (if q.ls then w.dropL else w.dropH) then
        interlock dt n (if q.ls then { w with dropL := false } else { w with dropH := false }) r
      else
        let w := if q.ls then { w with lo := false, lsOff := some q.t } else { w with hs := false, hsOff := some q.t }
        let (es, k, w) := interlock dt n w r
        (q :: es, k, w)
    else
      let other := if q.ls then w.hs else w.lo
      let twin := r.find? (fun y => y.on && y.t == q.t && y.ls != q.ls)
      let hasOff (ls : Bool) : Bool := r.any (fun y => !y.on && y.ls == ls)
      if other then
        let w := if q.ls then { w with dropL := hasOff true, skipL := !hasOff true }
          else { w with dropH := hasOff false, skipH := !hasOff false }
        let (es, k, w) := interlock dt n w r
        (es, k + 1, w)
      else match twin with
        | some y =>
          let w := { w with
            dead := some q.t, dropH := hasOff false, dropL := hasOff true, skipH := !hasOff false, skipL := !hasOff true }
          let (es, k, w) := interlock dt n w (r.erase y)
          (es, k + 2, w)
        | none =>
          let t := earliest dt q.t (if q.ls then w.hsOff else w.lsOff) w.dead
          let offT := (r.find? (fun y => !y.on && y.ls == q.ls)).map (·.t)
          match offT with
          | some o =>
            if o ≤ t then
              -- the moved on-edge would not lie before its off-edge: the pulse is dropped
              interlock dt n (if q.ls then { w with dropL := true } else { w with dropH := true }) r
            else if t ≠ q.t then interlock dt n w (insRq { q with t := t } r)
            else
              let (es, k, w) := interlock dt n (if q.ls then { w with lo := true } else { w with hs := true }) r
              (q :: es, k, w)
          | none =>
            if t ≠ q.t then interlock dt n w (insRq { q with t := t } r)
            else
              let (es, k, w) := interlock dt n (if q.ls then { w with lo := true } else { w with hs := true }) r
              (q :: es, k, w)

end Sys2Proof.Machine
end

