-- ==== Sys2Proof/Machine/Emit.lean ====
section
/-! DEFINITION. One leg in one emission window (06_thyme_and_pwm.md R205 to R215; 07_trips_and_leg_protection.md R258 to
R260; 09_sage_and_safe_states.md R347): the edges the PTA emits, in the order of R207. -/
namespace Sys2Proof.Machine

/-- Register values taken at a hand-off point: what they list replaces the effective values. -/
abbrev Vals := List (Nat × Word)

/-- A field with the taken values in force. -/
def State.tk (s : State) (vals : Vals) (f : Fld) : Nat :=
  match vals.find? (fun x => x.1 == f.addr) with
  | some (_, w) => w.fld f.lo f.w
  | none => s.get f

/-- A window (R212): start of its period, its start and end (fine ticks of Thyme), the period; emitted anew after a CBC action
that came behind its hand-off point (07_trips_and_leg_protection.md R242). -/
structure Win where
  b : Nat
  w : Nat
  e : Nat
  p : Nat
  re : Bool := false
  deriving DecidableEq, Repr

/-- What a leg does in a window. -/
structure LegOut where
  reqs : List Rq := []
  clamps : Nat := 0
  ins : Bool := false
  hEnd : Bool := false
  hFall : Option Nat := none
  skipH : Bool := false
  skipL : Bool := false
  deriving DecidableEq, Repr

/-- Is refresh required for the leg's high side (R259)? -/
def State.refreshReq (s : State) (n : Nat) : Bool := !s.on (fLEG_BOOT_pump n) || (s.leg n).bootLow || (s.leg n).bootOnce

/-- How long after a moment `x0` of the period the set's own low side, off at `x0`, may be on: the set counts as repeating in
every period (R208), so the off-interval of h(t) around `x0` may begin before the period. A pulse at `x0` that R209 drops
leaves the low side on from the window start, but not where the window was handed over with it (`re`). -/
def ownLow (p x0 dt : Nat) (re : Bool) (h : Ivs) : Nat :=
  match h.find? (fun (a, z) => decide (a ≤ x0) && decide (x0 < z)) with
  | some (_, z) => if re then z - x0 + dt else 0
  | none =>
    match ((h.filter (fun (_, z) => z ≤ x0)).map (·.2)).max? with
    | some z => dt - (x0 - z)
    | none => match h.getLast? with
      | some (_, z) => dt - (x0 + p - z)
      | none => 0

/-- The cyclic length of the off-interval of h(t) around a moment of the period; `none` where h is on there. -/
def offAround (p x : Nat) (h : Ivs) : Option Nat :=
  if h.any (fun (a, z) => a ≤ x && x < z) then none
  else match h.head?, h.getLast? with
    | some (a0, _), some (_, z1) =>
      let back := match ((h.filter (fun (_, z) => z ≤ x)).getLast?).map (·.2) with | some z => x - z | none => x + p - z1
      let fwd := match ((h.filter (fun (a, _) => x < a)).head?).map (·.1) with | some a => a - x | none => p - x + a0
      some (back + fwd)
    | _, _ => some p

/-- The low-side on-intervals of COMP and LS_ONLY in a window (R208, R209, R210): the gaps of h(t) shortened by dt at both
ends, without those whose cyclic length is under t_min; in half of a period the length counts as if the set repeated in every
period. `on` and `fall` are the emitted level and the last fall before; `hp` is the h(t) of the period. -/
def lowSide (x : Win) (dt tmin : Nat) (on : Bool) (fall : Option Nat) (hp h : Ivs) : Ivs :=
  let whole := x.w == x.b && x.e == x.b + x.p
  let first := match h with | (a, _) :: _ => a | [] => x.e
  let last := (h.getLast?.map (·.2)).getD x.w
  let own := x.w + ownLow x.p (x.w - x.b) dt x.re hp
  (gaps x.w x.e h).filterMap (fun (f, r) =>
    -- the length of the interval the gap belongs to, with what lies beyond the period end when the set repeats
    let len0 : Nat := match f, r with
      | some f, some r => r - f - 2 * dt
      | none, some r => if whole && !h.isEmpty then r + x.p - last - 2 * dt else r - x.w
      | some f, none => if whole then x.e - f + (first - x.b) - 2 * dt else x.e - f
      | none, none => x.e - x.w
    let len := if whole then len0
      else match offAround x.p ((f.getD x.w + r.getD x.e) / 2 - x.b) hp with
        | some n => if hp.isEmpty then n else n - 2 * dt
        | none => len0
    let a := match f with
      | some f => f + dt
      | none => if on then x.w else match fall with
        | some t => if x.w < t + dt then t + dt else own
        | none => own
    let z := match r with | some r => r - dt | none => x.e
    if ((f.isNone && on) || tmin ≤ len) && a < z then some (a, z) else none)

/-- h(t) of a leg in COMP or HS_ONLY after steps 1 to 4 (R205 to R208, R260), and what the steps report. -/
def highSide (x : Win) (mode dt tmin r on off : Nat) (wrap req : Bool) : Ivs × Nat × Bool :=
  let (a, ca) := clampCmp x.p wrap on
  let (b, cb) := clampCmp x.p wrap off
  let h := minPulse x.p tmin (formH x.p a b)
  let clamps := (if ca then 1 else 0) + (if cb then 1 else 0)
  if (mode == 1 || mode == 2) && req && x.w == x.b then
    let (h, i) := refresh x.p (if mode = 1 then r + 2 * dt else r) h
    (h, clamps, i)
  else (h, clamps, false)

/-- Intervals of a period on the scale of Thyme. -/
def Ivs.at (b : Nat) (l : Ivs) : Ivs := l.map (fun (a, z) => (b + a, b + z))

/-- The on-intervals of a side without one that goes on from a window whose on-request was refused (R215), and whether that one
goes on beyond this window. -/
def skipFirst (w e : Nat) (skip : Bool) : Ivs → Ivs × Bool
  | (a, z) :: r => if skip && a = w then (r, decide (z = e)) else ((a, z) :: r, false)
  | [] => ([], false)

/-- The requests of a leg for a window by its mode (R210), before the interlock. `h` and `low` are intervals of the period. -/
def legReqs (x : Win) (mode dt tmin : Nat) (h low : Ivs) (l : Leg) : LegOut :=
  let h0 := within x.w x.e (Ivs.at x.b h)
  let h1 := if mode = 1 || mode = 3 then windowStart x.w dt l.hEnd h0 else h0
  let hs := if mode = 1 || mode = 2 || mode = 4 then h1 else []
  let ls := if mode = 1 || mode = 3 then
      lowSide x dt tmin l.lsOn (if l.hEnd then some x.w else l.hFall) h h1
    else if mode = 4 && tmin ≤ onTime low then within x.w x.e (Ivs.at x.b low)
    else []
  let (hs, goesH) := skipFirst x.w x.e (l.skipH && !l.hsOn) hs
  let (ls, goesL) := skipFirst x.w x.e (l.skipL && !l.lsOn) ls
  let top := match h1.getLast? with | some (_, z) => z == x.e | none => false
  { reqs := sortRq (reqsOf 0 x.w x.e false l.hsOn hs ++ reqsOf 0 x.w x.e true l.lsOn ls),
    hEnd := top, skipH := goesH, skipL := goesL,
    hFall := if top then none else match h1.getLast? with
      | some (_, z) => some z
      | none => if l.hEnd then some x.w else l.hFall }

/-- The set of a leg for a window: compare values of the kernel set or of the registers (R212, R217, R225). -/
def State.legSet (s : State) (vals : Vals) (ks : Option KSet) (n : Nat) : Nat × Nat :=
  match ks.bind (fun k => k.cmps.find? (fun c => c.leg == n)) with
  | some c => (c.on, c.off)
  | none => (s.tk vals (fLEG_CMP_ON_on n), s.tk vals (fLEG_CMP_OFF_off n))

/-- The bleed pulse of a leg (09_sage_and_safe_states.md R347): centred on mid-period with duty d_bl / 256. -/
def bleedPulse (p d : Nat) : Ivs :=
  let n := p * d / 256
  if n = 0 then [] else [((p - n) / 2, (p - n) / 2 + n)]

/-- A leg's requests in a window: disabled or held legs go or stay off; the others follow their set, the discharge, or OFF. -/
def State.legPlan (s : State) (x : Win) (vals : Vals) (ks : Option KSet) (n : Nat) : LegOut :=
  let l := s.leg n
  let m := s.tk vals (fLEG_CFG_mg n)
  let dark := match ks with | some x => x.dark && x.cmps.any (fun c => c.leg == n) | none => false
  let mode := if s.tk vals (fLEG_CFG_en n) = 0 || dark then 0 else s.tk vals (fLEG_CFG_mode n)
  let dt := s.tk vals (fLEG_CFG_dt n)
  let tmin := s.tk vals (fLEG_TIM_minpw n)
  let r := 32 * s.tk vals (fLEG_TRIP_TIM_t_ref n)
  let req := s.refreshReq n
  if s.mgState m = 4 && (s.mg m).dis = 2 then
    -- BLEED: one high-side pulse per period, steps 3 and 4 apply
    let h := minPulse x.p tmin (bleedPulse x.p (s.get (fSAGE_DIS_CFG_d_bl m)))
    let (h, i) := if req && x.w == x.b then refresh x.p r h else (h, false)
    let o := legReqs x (if mode = 0 then 0 else 2) dt tmin h [] l
    { o with ins := i }
  else
    let (on, off) := s.legSet vals ks n
    -- a set of Basil is treated with wrap = 1, and its values stay Basil's until software's replace them (R206)
    let mine := (ks.any (fun k => k.cmps.any (fun c => c.leg == n))) ||
      (l.byKern && !vals.any (fun x => isCmp x.1 && legAt x.1 == some n))
    let wrap := mine || s.tk vals (fLEG_CFG_wrap n) = 1
    let (h, c, i) := highSide x mode dt tmin r on off wrap req
    let (la, ca) := clampCmp x.p wrap (s.tk vals (fLEG_LCMP_ON_on n))
    let (lb, cb) := clampCmp x.p wrap (s.tk vals (fLEG_LCMP_OFF_off n))
    let lc := if mode = 4 then (if ca then 1 else 0) + (if cb then 1 else 0) else 0
    let o := legReqs x mode dt tmin h (if mode = 4 then formH x.p la lb else []) l
    { o with clamps := c + lc, ins := i }

/-- The gate profile of an edge (R236). -/
def profOf (tim : Word) (ls on : Bool) : Nat :=
  tim.fld (match ls, on with | true, false => 9 | true, true => 6 | false, false => 3 | false, true => 0) 3

/-- The interlock over a leg's requests (R215), with the leg's emitted state: edges, shoot requests, the leg after it. -/
def legInterlock (dt : Nat) (tim : Word) (o : LegOut) (l : Leg) : List Edge × Nat × Leg :=
  let w0 : Sw := { hs := l.hsOn, lo := l.lsOn, hsOff := l.hsOff, lsOff := l.lsOff, dead := l.deadFrom }
  let (rs, k, w) := interlock dt 64 w0 o.reqs
  let es : List Edge := rs.map (fun q => { t := q.t, ls := q.ls, on := q.on, prof := profOf tim q.ls q.on })
  let lastOn (ls : Bool) : Option Nat := ((es.filter (fun e => e.ls == ls && e.on)).getLast?).map (·.t)
  (es, k, { l with
    hsOn := w.hs, lsOn := w.lo, hsOff := w.hsOff, lsOff := w.lsOff, deadFrom := w.dead,
    hsOnAt := (lastOn false).or l.hsOnAt, lsOnAt := (lastOn true).or l.lsOnAt, hEnd := o.hEnd, hFall := o.hFall,
    skipH := o.skipH || w.skipH, skipL := o.skipL || w.skipL })

/-- The on-intervals of a side over a window, from its level at the start and its edges. -/
def onIntervals (w e : Nat) (on : Bool) : List Edge → Ivs
  | [] => if on then [(w, e)] else []
  | x :: r => (if on && !x.on && w < x.t then [(w, x.t)] else []) ++ onIntervals x.t e x.on r

end Sys2Proof.Machine
end

