-- ==== Sys2Proof/Machine/Trips.lean ====
section
/-! DEFINITION. Trip sources and their actions (07_trips_and_leg_protection.md R238 to R250, R262). -/
namespace Sys2Proof.Machine

/-- The code of a routed source (R238). -/
def routedCode (x : Nat) : Nat := if x < 16 then 0x10 + x else if x < 32 then 0x20 + (x - 16) else 0x40 + (x - 32)

/-- Is a routed source asserted (R238)? -/
def State.routedOn (s : State) (x : Nat) : Bool := s.bitAt (aTHY_TRIP_LVL 0) x

/-- Is a latched source of the leg asserted (R249)? -/
def State.legAsserted (s : State) (n : Nat) : Bool :=
  let l := s.leg n
  l.latchSrc.any s.routedOn || [1, 2, 3, 4, 5].any (fun i => s.legLatched n i && l.satSrc / 2 ^ (i - 1) % 2 == 1)

/-- Is a latched group-level source other than SAGE asserted (R249)? -/
def State.mgAsserted (s : State) (m : Nat) : Bool :=
  (s.mg m).latchSrc.any s.routedOn || (s.on (fMG_TRIP_STAT_link m) && s.linkAsserted m)

/-! The window a group has handed over (06_thyme_and_pwm.md R212). -/

/-- Is half the period a boundary under the taken values (R202, R217)? -/
def State.halfWith (s : State) (g : Nat) (vals : Vals) : Bool :=
  s.tk vals (fTBG_CFG_mode g) == 2 && s.tk vals (fTBG_CFG_upd g) == 1 && !s.kern g

/-- The window of a taken set. -/
def Taken.win (k : Taken) : Win := { b := k.b, w := k.w, e := k.e, p := k.p }

/-- The values in force for the windows handed over, the latest first. -/
def takenVals (l : List Taken) : Vals := l.reverse.flatMap (·.vals)

/-- A leg's edges in order of time. -/
def insEdge (e : Edge) : List Edge → List Edge
  | [] => [e]
  | f :: r => if e.t < f.t then e :: f :: r else f :: insEdge e r

/-- The edges of a leg in a window handed over, those of a leg that is off (R242 step 5): what differs from the edges
pending there is handed over or retracted. -/
def reEmitWin (n : Nat) (k : Taken) (vals : Vals) (s : State) : State :=
  let x : Win := { k.win with re := true }
  let dt := s.tk vals (fLEG_CFG_dt n)
  let tim := BitVec.ofNat 32 (s.tk vals ⟨aLEG_TIM n, 0, 32⟩)
  let on := (s.leg n).hsOn
  let (es, _, l) := legInterlock dt tim (s.legPlan x vals k.kset n) (s.leg n)
  let old := l.pend.filter (fun e => x.w ≤ e.t && e.t < x.e)
  let add := if k.stop then [] else es.filter (fun e => !old.contains e)
  let gone := old.filter (fun e => !es.contains e)
  let pend := add.foldl (fun p e => insEdge e p) (l.pend.filter (fun e => !gone.contains e))
  let s := s.putLeg n { l with pend := pend, onIv := cutOn x.w l.onIv ++ onIntervals x.w x.e on (es.filter (!·.ls)) }
  (s.each gone (fun e s => hubRetract n e s)).each add (fun e s => hubEdge n e s)

/-- The windows handed over are emitted anew for a leg that a CBC action turned off (R242 step 5). -/
def reEmit (n : Nat) (s : State) : State :=
  let l := (s.tbg (s.legTbg n)).taken
  s.each (l.zipIdx) (fun (k, i) s => reEmitWin n k (takenVals (l.take (i + 1))) s)

/-! Actions (R241). -/

/-- A NOTIFY action on a leg (R241, R242). -/
def notifyLeg (n : Nat) (s : State) : State :=
  (s.incrSat (fLEG_TRIP_EVT_notify_cnt n)).raise (fMG_IRQ_RAW_notify (s.legMg n))

/-- CBC_LIMIT is raised (R244): record, event, LATCH. -/
def cbcLimit (n code : Nat) (s : State) : State :=
  let s := s.record 0x22 .thy [BitVec.ofNat 8 n, BitVec.ofNat 8 code]
  let s := (s.sageEvt 26 (nLeg n)).put (fLEG_TRIP_EVT_last n) 0x86
  let s := latchLeg n 7 0x86 (s.legLatched n 7) s
  latchRequest (s.legMg n) (s.dfltReq (s.legMg n)) 0x86 0xFF s

/-- A CBC action counts (R244). -/
def countCbc (n code : Nat) (s : State) : State :=
  let l := s.leg n
  let s := (s.incrSat (fLEG_CBC_TOT_cnt n)).raise (fMG_IRQ_RAW_cbc (s.legMg n))
  if l.cbcSeen then s.putLeg n { l with clean := 0 }
  else
    let s := s.putLeg n { l with cbcSeen := true, clean := 0 }
    let c := s.get (fLEG_TRIP_STAT_cbc_cnt n) + 1
    let lim := s.get (fLEG_TRIP_CFG_cbc_n n)
    if lim ≠ 0 && lim ≤ c then cbcLimit n code (s.put (fLEG_TRIP_STAT_cbc_cnt n) 0)
    else s.put (fLEG_TRIP_STAT_cbc_cnt n) (min c 255)

/-- Both switches of the leg are off with an on-edge pending (R245). -/
def State.inDead (s : State) (n : Nat) : Bool :=
  !s.levelNow n false && !s.levelNow n true && (s.pendAfter n).any (·.on)

/-- An insertion does not count when the hold lasts to the end of its period (R262). -/
def uncountIns (n b2 : Nat) (s : State) : State :=
  let t := s.tbg (s.legTbg n)
  match (s.leg n).insW with
  | some w =>
    if w = t.b && w < b2 && b2 = w + s.periodF (s.legTbg n) then
      (s.put (fLEG_BOOT_ins_cnt n) (s.get (fLEG_BOOT_ins_cnt n) - 1)).putLeg n { s.leg n with insW := none }
    else s
  | none => s

/-- The hold of a CBC action to the next boundary (R242 steps 1 to 4). -/
def cbcHold (n b2 : Nat) (s : State) : State :=
  let h := s.offSince n false
  let lo := s.offSince n true
  let s := retractLeg n (some b2) (uncountIns n b2 s)
  let s := forceLegs [n] 0 false (s.dtSafe (s.legMg n)) (fun _ => b2) s
  let l := s.leg n
  let s := s.putLeg n { l with
    hsOn := false, lsOn := false, hsOff := h, lsOff := lo, hFall := h, hEnd := false,
    cbcEnd := some b2, blankWait := false, onIv := cutOn s.now (l.onIv.filter (fun (a, _) => a < b2)) }
  reEmit n (s.raise (fLEG_TRIP_STAT_cbc_active n))

/-- Did a LATCH of the leg put its group into a safe state in this tick (R262)? -/
def State.latchedNow (s : State) (n : Nat) : Bool :=
  let g := s.mg (s.legMg n)
  s.on (fLEG_TRIP_STAT_latched n) && g.tripTick == some (s.now / 32) && g.inAt / 32 == s.now / 32

/-- A CBC action on a leg (R242, R245, R254): NOTIFY on a leg that a safe state holds or whose group is stopped; it counts where a
LATCH of the leg decided in the same tick (R262). -/
def cbcLeg (n code : Nat) (s : State) : State :=
  let g := s.legTbg n
  if !s.tbgRun g then notifyLeg n s
  else if (s.leg n).held ≠ 0 then (if s.latchedNow n then countCbc n code s else notifyLeg n s)
  else
    let s := s.when (s.inDead n) (·.incrSat (fLEG_TRIP_EVT_dt_cnt n))
    -- the count may latch CBC_LIMIT, whose safe state replaces the hold
    countCbc n code (cbcHold n (s.tbg g).nextB s)

/-- A LATCH action of a leg source (R241, R245): bit `i` of LEG[n]_TRIP_STAT.src, code, routed source or none. -/
def latchAct (n i code : Nat) (x : Option Nat) (s : State) : State :=
  let l := s.leg n
  let m := s.legMg n
  let dead := l.held = 0 && s.tbgRun (s.legTbg n) && s.inDead n
  let s := s.when dead (fun s => countCbc n code (s.incrSat (fLEG_TRIP_EVT_dt_cnt n)))
  let was := match x with | some r => l.latchSrc.contains r | none => s.legLatched n i
  let s := latchLeg n i code was s
  let s := match x with
    | some r => if was then s else s.putLeg n { s.leg n with latchSrc := r :: (s.leg n).latchSrc }
    | none => s
  latchAgain m (s.dfltReq m) code was s

/-- A source acts on an enabled leg (R241). -/
def actLeg (n i code act : Nat) (x : Option Nat) (s : State) : State :=
  if !s.legEn n then s
  else
    let s := s.put (fLEG_TRIP_EVT_last n) code
    if act = 0 then notifyLeg n s else if act = 1 then cbcLeg n code s else latchAct n i code x s

/-- Does a blanking window of the leg stand open (R243)? -/
def State.blankUntil (s : State) (n : Nat) : Option Nat :=
  let es := (s.leg n).pend
  let t := 32 * s.get (fLEG_TRIP_TIM_blank n)
  let opens := es.filter (fun e => e.on && e.t / 32 ≤ s.now / 32 && (decide (s.now < e.t) || s.levelNow n e.ls))
  let closes := opens.map (fun e =>
    match es.find? (fun f => f.ls == e.ls && !f.on && e.t < f.t) with
    | some f => min f.t (e.t + t)
    | none => e.t + t)
  (closes.filter (fun c => s.now < c)).max?

/-- A routed source acts (R239, R241, R243). -/
def actRouted (x : Nat) (s : State) : State :=
  let code := routedCode x
  let act := s.get (fTHY_TRIP_SRC_act x)
  if !s.on (fTHY_TRIP_SRC_en x) then s
  else if !s.on (fTHY_TRIP_SRC_scope x) then
    let n := s.get (fTHY_TRIP_SRC_tgt x)
    if !s.legEn n then s.incrSat (fTHY_TRIP_CNT_cnt x)
    else if s.on (fTHY_TRIP_SRC_blank x) && (s.blankUntil n).isSome then s.putLeg n { s.leg n with blankWait := true }
    else actLeg n 0 code act (some x) (s.incrSat (fTHY_TRIP_CNT_cnt x))
  else
    let m := s.get (fTHY_TRIP_SRC_tgt x) % 32
    let s := s.incrSat (fTHY_TRIP_CNT_cnt x)
    let ls := s.members m
    if ls.isEmpty then s
    else
      let s := s.each ls (fun n s => s.put (fLEG_TRIP_EVT_last n) code)
      if act = 0 then s.raise (fMG_IRQ_RAW_notify m)
      else if act = 1 then s.each ls (fun n s => actLeg n 0 code 1 (some x) s)
      else
        let was := (s.mg m).latchSrc.contains x
        let s := s.each ls (fun n s =>
          s.when ((s.leg n).held == 0 && s.tbgRun (s.legTbg n) && s.inDead n)
            (fun s => countCbc n code (s.incrSat (fLEG_TRIP_EVT_dt_cnt n))))
        let s := latchGroup m (fMG_TRIP_STAT_routed m) code was s
        let s := if was then s else s.putMg m { s.mg m with latchSrc := x :: (s.mg m).latchSrc }
        latchAgain m (s.dfltReq m) code was s

/-- Action and bits of a leg's own source by its number 0 to 4: DESAT_H, DESAT_L, UVLO_H, UVLO_L, OT (R238, R266). -/
def State.satAct (s : State) (n i : Nat) : Nat :=
  if i < 2 then s.get (fLEG_TRIP_CFG_desat_act n) else if i < 4 then s.get (fLEG_TRIP_CFG_uvlo_act n)
  else s.get (fLEG_TRIP_CFG_ot_act n)

/-- A leg's own source acts. -/
def actSat (n i : Nat) (s : State) : State := actLeg n (i + 1) (0x80 + i) (s.satAct n i) none s

/-- Every asserted source of a leg acts again: at the end of a CBC hold or of a blanking window (R241, R243, R262). -/
def reAct (n : Nat) (blankedOnly : Bool) (s : State) : State :=
  let mine (x : Nat) : Bool :=
    s.routedOn x && s.on (fTHY_TRIP_SRC_en x) &&
      (if s.on (fTHY_TRIP_SRC_scope x) then
        !blankedOnly && s.get (fTHY_TRIP_SRC_tgt x) % 32 == s.legMg n && s.get (fTHY_TRIP_SRC_act x) == 1
       else s.get (fTHY_TRIP_SRC_tgt x) == n && (!blankedOnly || s.on (fTHY_TRIP_SRC_blank x)))
  let s := s.each ((List.range 96).filter mine) (fun x s =>
    if s.on (fTHY_TRIP_SRC_scope x) then actLeg n 0 (routedCode x) 1 (some x) (s.incrSat (fTHY_TRIP_CNT_cnt x))
    else actRouted x s)
  if blankedOnly then s
  else s.each (bitsOf 5 (s.leg n).satSrc) (fun i s => actSat n i s)

/-- A leg's own source becomes asserted or released; it acts when it becomes asserted (R241, R246). -/
def setSatSrc (n i : Nat) (on act : Bool) (s : State) : State :=
  let l := s.leg n
  let was := l.satSrc / 2 ^ i % 2 == 1
  let s := s.putLeg n { l with satSrc := withBit l.satSrc i on }
  if on && (act || !was) then actSat n i s else s

/-! Clearing (R248 to R250). -/

/-- The latched sources of a leg are cleared. -/
def clearLeg (n : Nat) (s : State) : State :=
  let m := s.legMg n
  let s := (s.put (fLEG_TRIP_STAT_src n) 0).lower (fLEG_TRIP_STAT_latched n)
  let s := refreshSum m (s.putLeg n { s.leg n with latchSrc := [] })
  hintChange (s.members m) s

/-- The latched group-level sources of a group but SAGE are cleared. -/
def clearMg (m : Nat) (s : State) : State :=
  let s := ((s.lower (fMG_TRIP_STAT_link m)).lower (fMG_TRIP_STAT_kern m)).lower (fMG_TRIP_STAT_routed m)
  refreshSum m (s.putMg m { s.mg m with latchSrc := [] })

/-- A clear of a leg (R249). -/
def clrLeg (n : Nat) (s : State) : State :=
  if s.legAsserted n then (s.incrSat (fLEG_TRIP_STAT_clr_refused n)).raise (fMG_IRQ_RAW_clr_ref (s.legMg n)) else clearLeg n s

/-- A clear of a group's own sources (R249). -/
def clrMg (m : Nat) (s : State) : State :=
  if s.mgAsserted m then (s.incrSat (fMG_TRIP_STAT_clr_refused m)).raise (fMG_IRQ_RAW_clr_ref m) else clearMg m s

/-- An armed clear of a leg takes effect when no latched source is asserted (R250). -/
def armedLeg (n : Nat) (s : State) : State :=
  if s.on (fLEG_TRIP_STAT_armed n) && !s.legAsserted n then clearLeg n (s.lower (fLEG_TRIP_STAT_armed n)) else s

/-- Armed clears of legs of stopped groups take effect when the last latched source has released (R250). -/
def armedStopped (s : State) : State :=
  s.each (allLegs.filter (fun n => s.on (fLEG_TRIP_STAT_armed n) && !s.tbgRun (s.legTbg n))) armedLeg

/-- An armed clear of a group's own sources takes effect when none is asserted (R250). -/
def armedMg (m : Nat) (s : State) : State :=
  if s.on (fMG_TRIP_STAT_armed m) && !s.mgAsserted m then clearMg m (s.lower (fMG_TRIP_STAT_armed m)) else s

end Sys2Proof.Machine
end

