-- ==== Sys2Proof/Machine/Pta.lean ====
section
/-! DEFINITION. Timebase groups: commits of a group, hand-off and boundary (06_thyme_and_pwm.md R202 to R225, R586 to R588). -/
namespace Sys2Proof.Machine

/-- A source of TBG[g]_IRQ_RAW is set (R235). -/
def tbgIrq (g i : Nat) (s : State) : State := s.raise ⟨aTBG_IRQ_RAW g, i, 1⟩

/-- TBG[g]_NEXT_LO and NEXT_HI show the next boundary (R235). -/
def showNext (g : Nat) (s : State) : State :=
  let t := (s.tbg g).nextB / 32
  (s.wr (aTBG_NEXT_LO g) (BitVec.ofNat 32 t)).wr (aTBG_NEXT_HI g) (BitVec.ofNat 32 (t / 2 ^ 32))

/-! Commits (R217 to R223). -/

/-- Is the group software-driven in COHERENT mode (R219, R220)? -/
def State.coherent (s : State) (g : Nat) : Bool := !s.kern g && !s.on (fTBG_CFG_direct g)

/-- The shadows a commit of the group applies: its page, and in COHERENT mode the compare shadows of its legs. -/
def State.ofGroup (s : State) (g a : Nat) : Bool :=
  tbgAt a == some g || (isCmp a && ((legAt a).map s.legHome == some g))

/-- The legs that are not CLEAN become CLEAN, but for those written since the hand-off point (R220). -/
def cleanLegs (g : Nat) (s : State) : State :=
  s.each (allLegs.filter (fun n => s.legHome n == g)) (fun n s =>
    let l := s.leg n
    if l.rewr then s.putLeg n { l with rewr := false }
    else (s.lower (fLEG_CMP_GEN_dirty n)).lower (fLEG_CMP_GEN_tagged n))

/-- The legs that keep a commit of generation `gen` from being complete (R221), with the values of the window. -/
def State.incomplete (s : State) (g gen : Nat) (vals : Vals) : List Nat :=
  let per := (s.tbg g).perWr
  (allLegs.filter (fun n => s.tk vals (fLEG_CFG_tbg n) == g && s.tk vals (fLEG_CFG_en n) == 1)).filter (fun n =>
    let tag := s.on (fLEG_CMP_GEN_tagged n)
    let mine := tag && s.get (fLEG_CMP_GEN_gen n) == gen
    s.on (fLEG_CMP_GEN_dirty n) || (tag && !mine) || (per && !mine))

/-- Does the pending commit change the period (R588)? -/
def State.newPeriod (s : State) (g : Nat) : Bool := (s.cmtVal (aTBG_PERIOD g)).fld 0 24 != s.get (fTBG_PERIOD_t g)

/-- The shadows of the group return to their effective values and nothing waits (R23, R217, R218, R221). The compare shadows
are then CLEAN: DEDUCED, log entry 10. -/
def dropTbgCommit (g : Nat) (s : State) : State :=
  let s := dropCmt (s.ofGroup g) s
  let s := ((s.lower (fTBG_STAT_cmt_pend g)).lower (fTBG_STAT_hold g)).lower (fTBG_STAT_pper g)
  let s := s.each (allLegs.filter (fun n => s.legHome n == g)) (fun n s =>
    (s.lower (fLEG_CMP_GEN_dirty n)).lower (fLEG_CMP_GEN_tagged n))
  s.putTbg g { s.tbg g with hand := 0 }

/-- What applying a commit leaves besides the values (R221). -/
def commitDone (g gen : Nat) (s : State) : State :=
  let s := s.put (fTBG_GEN_applied g) gen
  let s := ((s.lower (fTBG_STAT_cmt_pend g)).lower (fTBG_STAT_hold g)).lower (fTBG_STAT_torn g)
  let s := tbgIrq g 1 (s.lower (fTBG_STAT_pper g))
  s.putTbg g { s.tbg g with hand := 0, perWr := false }

/-- A torn set (R221). -/
def tornSet (g gen : Nat) (legs : List Nat) (s : State) : State :=
  let s := dropTbgCommit g s
  let s := tbgIrq g 3 (s.raise (fTBG_STAT_torn g))
  let s := ((s.incrSat (fTBG_TORN_CNT_cnt g)).incrSat fTHY_TORN_CNT_cnt).raise fTHY_IRQ_RAW_torn
  let map := legs.foldl (fun x n => x + 2 ^ n) 0
  let s := s.record 0x23 .thy ([BitVec.ofNat 8 g, BitVec.ofNat 8 gen, 0, 0] ++ natBytes 16 map)
  s.sageEvt 24 (nOther g)

/-- HINT PERIOD for the legs of a group whose period changed (08_ndotar_drive_link.md R306). -/
def hintPeriods (g : Nat) (s : State) : State :=
  s.each (s.groupLegs g) (fun n s => hubReady (legPort n) (.hintPeriod (legSlot n) (s.get (fTBG_PERIOD_t g))) none s)

/-- The page and compare shadows of a stopped group apply when the commit is accepted (R21, R586). -/
def applyStopped (g gen : Nat) (s : State) : State :=
  let chg := s.newPeriod g
  let s := applyCmt (s.ofGroup g) s
  let s := cleanLegs g (commitDone g gen s)
  if chg then hintPeriods g (refreshLoads s) else s

/-- TBG[g]_COMMIT with go = 1 and abort = 0 (R21, R22, R89, R218, R221, R223, R586). -/
def tbgCommitGo (g gen : Nat) (s : State) : State :=
  let refuse (s : State) : State := tbgIrq g 2 (errEvent .thy 3 s)
  if s.on (fTBG_STAT_cmt_pend g) || gen ≠ (s.get (fTBG_GEN_applied g) + 1) % 256 then refuse s
  else
    let per := (s.cmtVal (aTBG_PERIOD g)).fld 0 24
    let chg := s.newPeriod g
    if chg && !s.planOk { s.plan with per := fun h => if h = g then per else s.plan.per h } then
      let s := tbgIrq g 2 (tbgIrq g 5 (s.raise (fTBG_STAT_adm_ref g)))
      (s.raise fTHY_IRQ_RAW_adm_ref).errSet 0x40050000 19
    else
      let s' := s.lower (fTBG_STAT_adm_ref g)
      if !s.tbgRun g then
        if s.coherent g && !(s.incomplete g gen []).isEmpty then refuse s
        else applyStopped g gen (s'.put (fTBG_GEN_pending g) gen)
      else
        let s := (s'.put (fTBG_GEN_pending g) gen).raise (fTBG_STAT_cmt_pend g)
        let s := s.putTbg g { s.tbg g with hand := 0 }
        if chg && s.kern g then s.raise (fTBG_STAT_pper g) else s

/-- Is the group's commit in flight (R587)? -/
def State.inFlight (s : State) (g : Nat) : Bool := (s.tbg g).taken.any (fun k => k.gen.isSome)

/-- TBG[g]_COMMIT with abort = 1 and go = 0 (R23, R218, R587). -/
def tbgCommitAbort (g : Nat) (s : State) : State :=
  if s.inFlight g then tbgIrq g 2 (errEvent .thy 3 s)
  else dropTbgCommit g s

/-! Start and stop (R203, R204). -/

/-- A refused start or stop. -/
def tbgRefuse (g : Nat) (s : State) : State := tbgIrq g 7 (s.errSet 0x40020000 19)

/-- TBG[g]_CMD.start (R203). -/
def startGroup (g : Nat) (s : State) : State :=
  let t0 := 32 * (s.get (fTBG_T0_LO_lo g) + 2 ^ 32 * s.get (fTBG_T0_HI_hi g))
  if s.tbgRun g || s.get (fTBG_CFG_mode g) = 0 || t0 < s.now + 32 * (s.hofs g + 400) then tbgRefuse g s
  else
    let t := s.tbg g
    let s := s.putTbg g { t with
      b := t0, nextB := t0, mid := false, hB := t0, hMid := false, hBase := t0, handAt := some (t0 - 32 * s.hofs g),
      stopPend := false, taken := [], smp := [] }
    showNext g (s.raise (fTBG_STAT_start_pend g))

/-- TBG[g]_CMD.stop (R204). -/
def stopGroup (g : Nat) (s : State) : State :=
  if (s.groupLegs g).any (fun n => s.mgState (s.legMg n) == 0) then tbgRefuse g s
  else if s.tbgRun g then s.putTbg g { s.tbg g with stopPend := true } else s

/-! Hand-off (R211 to R215). -/

/-- One leg's emission in the window of a taken set (R207 steps 1 to 9). Answers the shoot requests. -/
def emitLeg (k : Taken) (vals : Vals) (n : Nat) (s : State) : State × Nat :=
  let x := k.win
  let o := if k.stop then legReqs x 0 0 0 [] [] (s.leg n) else s.legPlan x vals k.kset n
  let dt := s.tk vals (fLEG_CFG_dt n)
  let tim := BitVec.ofNat 32 (s.tk vals ⟨aLEG_TIM n, 0, 32⟩)
  let l0 := s.leg n
  let (es, sh, l) := legInterlock dt tim o l0
  let recent := l.pend.filter (fun e => s.now < e.t + 64000)
  let l := { l with
    pend := recent ++ es, onIv := l.onIv ++ onIntervals x.w x.e l0.hsOn (es.filter (!·.ls)),
    insW := if o.ins then some x.w else if k.mid then l.insW else none, bootOnce := l.bootOnce && k.mid }
  let req := s.refreshReq n
  let s := s.putLeg n l
  let s := (s.putB (fLEG_STAT_hs n) l.hsOn).putB (fLEG_STAT_ls n) l.lsOn
  let s := if k.mid then s.lower (fLEG_BOOT_ins n)
    else
      let s := (s.putB (fLEG_BOOT_req n) req).putB (fLEG_BOOT_ins n) o.ins
      if o.ins then s.incrSat (fLEG_BOOT_ins_cnt n) else s
  let s := if o.clamps = 0 then s
    else ((s.raise (fLEG_STAT_clamp n)).addSat (fLEG_STAT_clamp_cnt n) o.clamps).raise fTHY_IRQ_RAW_clamp
  let s := if sh = 0 then s
    else (((s.raise (fLEG_STAT_shoot_req n)).addSat (fLEG_STAT_shoot_cnt n) sh).addSat fTHY_SHOOT_CNT_cnt sh).raise
      fTHY_IRQ_RAW_shoot
  (s.each es (fun e s => hubEdge n e s), sh)

/-- Does the PTA emit edges for the leg, of machine group `m`, in a window (R213, R255, R258)? A leg that joins a group in a safe
state emits none. -/
def State.emits (s : State) (n m w : Nat) : Bool :=
  let l := s.leg n
  (l.held == 0 && (!inHold (s.mgState m) || (s.mg m).releasing)) || (match l.relAt with | some b => b ≤ w | none => false)

/-- Shoot requests act as trips of source SHOOT and reach Sage (R215). -/
def shootTrips (n : Nat) : Nat → State → State
  | 0, s => s
  | c + 1, s => shootTrips n c (actLeg n 6 0x85 (s.get (fLEG_TRIP_CFG_shoot_act n)) none (s.sageEvt 23 (nLeg n)))

/-- The sample instants of the group that lie in a window, and those beyond it (R224). -/
def State.groupSamples (s : State) (g : Nat) (k : Taken) (vals : Vals) : List Nat × List Nat :=
  let pts := s.tk vals (fTBG_SMP_pts g)
  let dly := 32 * s.tk vals (fTBG_SMP_dly g)
  let mode := s.tk vals (fTBG_CFG_mode g)
  let start := if pts % 2 = 1 && !k.mid && mode ≠ 0 then [k.b + dly] else []
  let m := k.b + k.p / 2
  let mids := if 2 ≤ pts && mode = 2 && k.w ≤ m && m < k.e then [m + dly] else []
  let all := (s.tbg g).smp ++ start ++ mids
  (all.filter (· < k.e), all.filter (k.e ≤ ·))

/-- Sample instants of a window go to the hub (R224, R225): the group's, or those the set carries for a leg. -/
def emitSamples (g : Nat) (k : Taken) (vals : Vals) (s : State) : State :=
  let (here, later) := s.groupSamples g k vals
  let s := s.putTbg g { s.tbg g with smp := later }
  let legs := allLegs.filter (fun n => s.tk vals (fLEG_CFG_tbg n) == g && s.tk vals (fLEG_CFG_en n) == 1)
  let own : List (Nat × Nat) := match k.kset with | some x => x.smp | none => []
  let inWin (o : Nat) : Bool := k.w ≤ k.b + o && k.b + o < k.e
  let plain := legs.filter (fun n => !own.any (fun x => x.1 == n && inWin x.2))
  let s := s.each here (fun t s => s.each (portsOf plain) (fun p s =>
    hubSample p t ((plain.filter (fun n => legPort n == p)).foldl (fun m n => m ||| 2 ^ legSlot n) 0) s))
  s.each (own.filter (fun x => legs.contains x.1 && inWin x.2)) (fun (n, o) s =>
    hubSample (legPort n) (k.b + o) (2 ^ legSlot n) s)

/-- The ADC trigger instants of a window (R225). -/
def emitTriggers (g : Nat) (k : Taken) (vals : Vals) (s : State) : State :=
  let soft (en t : Fld) : Option Nat :=
    if s.tk vals en = 1 && 32 * s.tk vals t ≤ k.p then some (32 * s.tk vals t) else none
  let (a, b) : Option Nat × Option Nat := match k.kern, k.kset with
    | true, some x => (x.trg0, x.trg1)
    | true, none => (none, none)
    | false, _ => (soft (fTBG_TRG0_en g) (fTBG_TRG0_t g), soft (fTBG_TRG1_en g) (fTBG_TRG1_t g))
  let put (one : Bool) (o : Option Nat) : List TrgPt :=
    match o with
    | some o => if k.w ≤ k.b + o && (k.b + o < k.e || (o = k.p && k.e = k.b + k.p)) then [{ g := g, one := one, t := k.b + o }] else []
    | none => []
  s.setTrgs (s.trgs.filter (fun x => x.g ≠ g || (s.tbg g).b ≤ x.t) ++ put false a ++ put true b)

/-- Is a window's kernel set applied for any leg (R213)? -/
def Taken.applied (k : Taken) : Bool :=
  match k.kset with
  | some x => x.cmps.any (fun c => !k.skip.contains c.leg)
  | none => false

/-- The last set that is applied, or will be at the boundaries of the windows handed over (R84, R217). -/
def Tbg.lastSet (t : Tbg) : Option KSet :=
  match (t.taken.filter (·.applied)).getLast? with
  | some k => k.kset
  | none => t.last

/-- The kernel set for a window (R217): the newest that arrived for it; otherwise the last applied one is repeated and counted. -/
def pickSet (g : Nat) (s : State) : Option KSet × State :=
  let t := s.tbg g
  if !s.kern g then (none, s)
  else match (t.sets.filter (fun x => x.target == t.hB)).getLast? with
    | some x => (some x, s.putTbg g { t with sets := t.sets.filter (fun y => t.hB < y.target) })
    | none =>
      let s := tbgIrq g 6 (s.incrSat (fTBG_REPEAT_CNT_cnt g))
      (t.lastSet.map (fun x => { x with marked := false }), s.putTbg g { t with sets := t.sets.filter (fun y => t.hB < y.target) })

/-- Does the pending commit apply at the boundary being handed off (R218 to R221, R588)? -/
def judgeCommit (g : Nat) (ks : Option KSet) (vals : Vals) (s : State) : Bool × State :=
  let t := s.tbg g
  let gen := s.get (fTBG_GEN_pending g)
  if !s.on (fTBG_STAT_cmt_pend g) || s.inFlight g then (false, s)
  else if t.hMid && s.newPeriod g then (false, s)
  else if s.on (fTBG_STAT_pper g) then
    let runs := match s.kernCtx g with | some k => (s.ctx k).st == .run | none => false
    ((match ks with | some x => x.marked | none => false) || !runs, s)
  else if !s.coherent g then (true, s)
  else
    let bad := s.incomplete g gen vals
    if bad.isEmpty then (true, s)
    else if t.hand = 0 then
      (false, tbgIrq g 4 ((s.putTbg g { t with hand := 1 }).raise (fTBG_STAT_hold g)))
    else (false, tornSet g gen bad s)

/-- BND shadows of the legs of a group, taken at the hand-off point (R211): register and value. -/
def State.bndVals (s : State) (g : Nat) (base : Vals) : Vals :=
  (s.bnd.filter (fun x => (legAt x.1).map s.legHome == some g)).map (fun (a, p) =>
    (a, p.on (BitVec.ofNat 32 (s.tk base ⟨a, 0, 32⟩))))

/-- The steps of a driving context that are not completed at the hand-off point are overruns (03_basil_control_engine.md
R84, R90). -/
def handOverruns (g : Nat) (s : State) : State :=
  match s.kernCtx g with
  | some k =>
    let c := s.ctx k
    if c.st = .run && c.target = (s.tbg g).hB && (c.ph = .waiting || c.ph = .released || c.ph = .running) then overrun k s
    else s
  | none => s

/-- The hand-off of the next boundary (R211 to R214). -/
def handOff (g : Nat) (s : State) : State :=
  let s := handOverruns g s
  let t := s.tbg g
  let base := takenVals t.taken
  let bv := s.bndVals g base
  let (ks, s) := pickSet g s
  let (go, s) := judgeCommit g ks (bv ++ base) s
  let cv : Vals := if go then (s.cmt.filter (fun x => s.ofGroup g x.1)).map (fun (a, p) =>
      (a, p.on (BitVec.ofNat 32 (s.tk base ⟨a, 0, 32⟩)))) else []
  let newPer := go && s.newPeriod g
  let s := if go then dropCmt (s.ofGroup g) s else s
  let s := s.setBnd (s.bnd.filter (fun x => (legAt x.1).map s.legHome ≠ some g))
  let vals := cv ++ bv ++ base
  let t := s.tbg g
  let p := 32 * s.tk vals (fTBG_PERIOD_t g)
  let pOld := 32 * s.tk base (fTBG_PERIOD_t g)
  let half := s.tk vals (fTBG_CFG_mode g) == 2 && s.tk vals (fTBG_CFG_upd g) == 1 && !s.kern g
  let stop := t.stopPend || (go && s.tk vals (fTBG_CFG_mode g) = 0)
  let k : Taken := {
    b := if t.hMid then t.hBase else t.hB, w := t.hB,
    e := if t.hMid then t.hBase + pOld else if half then t.hB + p / 2 else t.hB + p,
    p := if t.hMid then pOld else p, mid := t.hMid, kern := s.kern g, vals := cv ++ bv, kset := ks,
    gen := if go then some (s.get (fTBG_GEN_pending g)) else none, newPer := newPer, stop := stop }
  let s := s.putTbg g { t with
    taken := t.taken ++ [k], hB := k.e, hMid := half && !t.hMid, hBase := k.b,
    handAt := if stop then none else some (max s.now (k.e - 32 * s.hofs g)) }
  -- at a stop, and for a leg that is disabled, every side that is on goes off, held by a safe state or not (R204, R228)
  let legs := allLegs.filter (fun n =>
    ((s.emits n (s.tk vals (fLEG_CFG_mg n)) k.w || ((stop || s.tk vals (fLEG_CFG_en n) = 0) && ((s.leg n).hsOn || (s.leg n).lsOn))) &&
    ((s.legTbg n == g && (s.legEn n || (s.leg n).hsOn || (s.leg n).lsOn)) ||
      (s.tk vals (fLEG_CFG_en n) == 1 && s.tk vals (fLEG_CFG_tbg n) == g))))
  let (s, shoots) := legs.foldl (fun (s, l) n =>
    let (s, c) := emitLeg k vals n s
    (s, if c = 0 then l else l ++ [(n, c)])) (s, ([] : List (Nat × Nat)))
  let s := if stop then s else emitTriggers g k vals (emitSamples g k vals s)
  s.each shoots (fun (n, c) s => shootTrips n c s)

/-! The boundary (R213). -/

/-- The values of a taken set become effective (R213): for a leg whose group has entered a safe state, the compare registers
keep theirs. -/
def applyTaken (k : Taken) (s : State) : State :=
  let keep (a : Nat) : Bool := isCmp a && (match legAt a with | some n => k.skip.contains n | none => false)
  let s := s.each (k.vals.reverse.filter (fun x => !keep x.1)) (fun (a, v) s => byKern a false (crcDrop a (poke a 0xFFFFFFFF v s)))
  match k.kset with
  | some x => s.each (x.cmps.filter (fun c => !k.skip.contains c.leg)) (fun c s =>
      let s := s.putLeg c.leg { s.leg c.leg with offPrev := s.get (fLEG_CMP_OFF_off c.leg), byKern := true }
      (s.put (fLEG_CMP_ON_on c.leg) c.on).put (fLEG_CMP_OFF_off c.leg) c.off)
  | none => s

/-- The end of a period for a leg: its length and applied duty, and its cycle-by-cycle count (R134, R244). -/
def legPeriod (a b : Nat) (n : Nat) (s : State) : State :=
  let l := s.leg n
  let l := { l with duty := l.onTime a b, per := b - a, onIv := l.onIv.filter (fun (_, y) => a < y + (b - a)), cbcSeen := false }
  if (s.leg n).cbcSeen then s.putLeg n { l with clean := 0 }
  else
    let c := l.clean + 1
    if c < s.get (fLEG_TRIP_CFG_cbc_dec n) then s.putLeg n { l with clean := c }
    else (s.put (fLEG_TRIP_STAT_cbc_cnt n) (s.get (fLEG_TRIP_STAT_cbc_cnt n) - 1)).putLeg n { l with clean := 0 }

/-- A CBC hold ends; a source still asserted acts again (R242 step 5, R262). -/
def endCbc (b n : Nat) (s : State) : State :=
  let l := s.leg n
  match l.cbcEnd with
  | some e => if e ≤ b then reAct n false ((s.putLeg n { l with cbcEnd := none }).lower (fLEG_TRIP_STAT_cbc_active n)) else s
  | none => s

/-- A group has left its safe state when no enabled member leg is held (R258): state, flag, event, hints. -/
def leaveSafe (m : Nat) (s : State) : State :=
  if (s.mg m).releasing && (s.members m).all (fun n => (s.leg n).held == 0) then
    let s := (s.putMg m { s.mg m with releasing := false, outAt := s.now }).put (fMG_STAT_state m) 0
    hintChange (s.members m) ((s.raise (fMG_IRQ_RAW_safe_out m)).sageEvt 28 (nOther m))
  else s

/-- A leg leaves the safe state at its boundary (R258), or begins to carry discharge edges (R255). -/
def releaseLeg (b n : Nat) (s : State) : State :=
  let l := s.leg n
  match l.relAt with
  | some e => if e ≤ b then leaveSafe (s.legMg n) (s.putLeg n { l with held := 0, relAt := none }) else s
  | none => s

/-- Does a source of the leg that is asserted act again at a boundary at `w` (R241): the leg leaves its safe state there, or its group
begins? -/
def State.actsAgain (s : State) (first : Bool) (w n : Nat) : Bool :=
  let l := s.leg n
  s.legEn n && (match l.relAt with | some e => decide (e ≤ w) | none => first && l.held == 0)

/-- A change of the legs a group or machine group has: source LINK, the trip summary and the hints follow. -/
def membersChanged (s : State) : State :=
  let s := s.each (List.range 32) refreshSum
  hintChange (allLegs.filter s.legEn) (linkScan s)

/-- A leg that becomes enabled in a machine group that is in ASC-L, ASC-H or PULSE-OFF follows it (R213). -/
def joinSafe (n : Nat) (s : State) : State :=
  let m := s.legMg n
  let st := s.mgState m
  if inHold st && !(s.mg m).releasing && (s.leg n).held = 0 then
    forceLegs [n] (patOf st) true (s.dtSafe m) (fun _ => 0) (holdLegs m st [n] s)
  else s

/-- Legs have become enabled since `o`: a source that is asserted already acts from this moment
(07_trips_and_leg_protection.md R241). -/
def newlyEnabled (o s : State) : State :=
  let ns := allLegs.filter (fun n => s.legEn n && !o.legEn n)
  if ns.isEmpty then s
  else
    let joins (x : Nat) : Bool :=
      let m := s.get (fTHY_TRIP_SRC_tgt x) % 32
      s.routedOn x && s.on (fTHY_TRIP_SRC_en x) && s.on (fTHY_TRIP_SRC_scope x) && s.get (fTHY_TRIP_SRC_act x) == 2
        && (o.members m).isEmpty && !(s.members m).isEmpty
    (s.each ns (fun n s => reAct n false (joinSafe n s))).each ((List.range 96).filter joins) actRouted

/-- A leg's own sources whose action has changed since `o` and that are asserted act from this moment (R241). -/
def newlyActing (n : Nat) (o s : State) : State :=
  if !o.legEn n then s
  else s.each ((bitsOf 5 (s.leg n).satSrc).filter (fun i => o.satAct n i != s.satAct n i)) (fun i s => actSat n i s)

/-- Routed sources whose routing has changed since `o` and that are asserted act from this moment
(07_trips_and_leg_protection.md R241). -/
def newlyRouted (o s : State) : State :=
  s.each ((List.range 96).filter (fun x => s.routedOn x && o.use (aTHY_TRIP_SRC x) != s.use (aTHY_TRIP_SRC x))) actRouted

/-- The group stops (R204): its timebase ends, and the step of its driving context is cancelled (R93). -/
def groupStops (g : Nat) (s : State) : State :=
  let t := s.tbg g
  let s := s.putTbg g { t with stopPend := false, taken := [], handAt := none, smp := [] }
  let s := (s.lower (fTBG_STAT_run g)).lower (fTBG_STAT_start_pend g)
  let s := s.each (allLegs.filter (fun n => s.legTbg n == g)) (fun n s => armedLeg n s)
  match s.kernCtx g with | some k => cancelStep k s | none => s

/-- A group boundary (R213, R220, R221, R588): the set taken for it applies and the period or half-period begins. -/
def boundary (g : Nat) (s : State) : State :=
  match (s.tbg g).taken with
  | [] => s
  | k :: r =>
    let t := s.tbg g
    let first := s.on (fTBG_STAT_start_pend g)
    let s := s.putTbg g { t with
      taken := r, b := k.b, nextB := k.e, mid := k.e < k.b + k.p, last := if k.applied then k.kset else t.last }
    let mine := allLegs.filter (fun n => s.legHome n == g)
    let s := if !k.mid && !first then
        (s.each (s.groupLegs g) (legPeriod t.b k.w)).each (allCtx.filter (fun j => s.cTrigTbg j == g)) (fun j => countPoints j t.b k.w)
      else s
    let o := s
    let s := applyTaken k s
    let s := match k.gen with
      | some gen => (commitDone g gen s).when (!k.kern) (cleanLegs g)
      | none => s
    let s := if k.newPer then hintPeriods g (refreshLoads s) else s
    let s := if k.vals.any (fun x => match legAt x.1 with | some _ => x.1 % 0x40 == 0 | none => false) then newlyEnabled o (membersChanged s) else s
    let s := s.each mine (fun n s => newlyActing n o s)
    let s := match k.kset with
      | some x =>
        let s := s.wr (aTBG_SET_STEP g) (BitVec.ofNat 32 x.step)
        sealSet x.ctx x.step s
      | none => s
    let s := (s.raise (fTBG_STAT_run g)).lower (fTBG_STAT_start_pend g)
    let s := tbgIrq g 0 (if k.mid || k.stop then s else s.incr (fTBG_PCNT_cnt g))
    let s := showNext g s
    let again := mine.filter (fun n => s.actsAgain first k.w n)
    let s := s.each mine (releaseLeg k.w)
    let s := if k.stop then groupStops g s else s
    (s.each again (reAct · false)).each mine (endCbc k.w)

end Sys2Proof.Machine
end

