-- ==== Sys2Proof/Machine/ContextCommands.lean ====
section
/-! DEFINITION. Commands on contexts and on Basil's page (03_basil_control_engine.md R73, R87, R88, R100, R106, R109 to R115). -/
namespace Sys2Proof.Machine

/-! Admission (R87). -/

/-- Does the source of a binding exist (R77, R87; 12_analog_acquisition.md R433; 05_grid_and_pv.md R154)? -/
def State.srcExists (s : State) (k j : Nat) : Bool :=
  let i := s.slotInst k j
  let sel := s.slotSel k j % 16
  match s.slotType k j with
  | 0 => true
  | 1 => i < 32 && sel / 4 ≤ 2
  | 2 => i < 80 && s.on (fADC_AIN_CFG_eng (i / 20) (i % 20))
  | 3 => i < 24
  | 4 => (i < 8 && sel ≤ 4) || (8 ≤ i && i < 24 && sel = 5)
  | 5 => i < 128
  | _ => false

/-- Slot j is bound to quantity q of GIU instance i. -/
def State.giuSlot (s : State) (k j q : Nat) : Bool := s.slotType k j == 4 && s.slotSel k j % 16 == q

/-- What the kernel's chapter asks of a context (04_machine_control.md R118, R151; 05_grid_and_pv.md R156, R162, R186, R190). -/
def State.kernelBinds (s : State) (k : Nat) : Bool :=
  let kid := s.cKid k
  let n := (s.cLegs k).length
  let mg := (s.cMg k).getD 0
  let centre := match s.cTbg k with | some g => s.get (fTBG_CFG_mode g) == 2 | none => false
  let trig := s.cSrc k = 0 && s.cPts k = 1 && s.cDecim k = 1
  let dc := (s.slotType k 0 = 1 && s.slotSel k 0 / 4 % 4 = 2) || s.slotType k 0 = 2
  let grid := s.mgType mg = 2
  match kid with
  | 1 | 10 => centre && trig && n = 3 * s.cSets k
  | 2 => centre && trig && s.cSets k = 1 && n = 3
  | 3 =>
    let u := s.slotInst k 1
    centre && trig && grid && (n = 3 || n = 4) && s.cSets k = 1 && dc && u < 8 &&
      (List.range 5).all (fun q => s.giuSlot k (q + 1) q && s.slotInst k (q + 1) == u)
  | 4 => centre && trig && grid && 1 ≤ n && n ≤ 4
  | 5 => trig && grid && n = 4
  | _ => true

/-- No other context holds the grid unit or the tracker (05_grid_and_pv.md R155, R184). -/
def State.giuAlone (s : State) (k : Nat) : Bool :=
  let units (j : Nat) : List Nat := ((List.range 16).filter (fun i => s.giuSlot j i 4)).map (s.slotInst j)
  let trk (j : Nat) : List Nat := if s.cKid j = 4 && s.giuSlot j 2 5 then [s.slotInst j 2] else []
  (s.liveCtx.filter (· ≠ k)).all (fun j => (units k).all (fun u => !(units j).contains u) && (trk k).all (fun t => !(trk j).contains t))

/-- Check 4 of R87. -/
def State.bindsOk (s : State) (k : Nat) : Bool :=
  let kid := s.cKid k
  let w := s.cw k 4
  let legs := w.fld 0 7 + w.fld 8 4 ≤ 128
  s.cSrc k ≠ 3 && (List.range 16).all (s.srcExists k) && (s.needSlots k).all (s.slotBound k) && legs &&
  (if writesSets kid then
    (match s.cTbg k, s.cMg k with
      | some g, some m => (s.cLegs k).all (fun n => s.legEn n && s.legTbg n == g && s.legMg n == m)
      | _, _ => false)
   else (s.cTbg k).isNone) &&
  (!s.cPg k || F32.isNat (s.cw k 0x340) 1 || F32.isNat (s.cw k 0x340) 2) && s.kernelBinds k && s.giuAlone k

/-- Rate within 100 Hz to 100 kHz (R81). -/
def State.rateOk (s : State) (k : Nat) : Bool :=
  let (n, d) := s.cRate s.plan k
  100 * d ≤ n * 400000000 && n * 400000000 ≤ 100000 * d

/-- The refusal code of ADMIT, 0 where every check passes (R87). -/
def State.admitCode (s : State) (k : Nat) : Nat :=
  let kid := s.cKid k
  if kernelCost kid 1 = 0 || s.get fENG_KS_STAT_state ≠ 0 then 4
  else if s.cPriv k && 15 < k then 3
  else if s.cSrc k ≠ 3 && !s.rateOk k then 6
  else if !s.bindsOk k then 5
  else if (s.liveCtx.filter (· ≠ k)).any (fun j => (s.cLegs k).any (fun n => (s.cLegs j).contains n)) then 7
  else if !s.cDense s.plan k then 2
  else if 136000 < s.get fENG_ADM_SUM_sum + s.cLoad s.plan k then 1
  else 0

/-- The copies that ADMIT writes for K_GRID (05_grid_and_pv.md R163). -/
def gridCopies (k : Nat) (s : State) : State :=
  if s.cKid k ≠ 3 then s
  else
    let vb := F32.mul (F32.sqrt F32.two) (s.rd (aGIU_PLL_VNOM (s.slotInst k 1)))
    (s.putCw k 0x188 vb).putCw k 0x18C (F32.mul (F32.mul (F32.dec 15 10) vb) (s.cIlim k))

/-- ADMIT in state OFF (R87, R88). -/
def admitCtx (k : Nat) (s : State) : State :=
  let s := lockWord k (gridCopies k (s.putCtx k { st := .admitted, stepNo := (s.ctx k).stepNo }))
  let s := match s.cTbg k with
    | some g => (if s.on (fTBG_STAT_cmt_pend g) then tbgCommitAbort g s else s).putTbg g
        { (if s.on (fTBG_STAT_cmt_pend g) then tbgCommitAbort g s else s).tbg g with last := none }
    | none => s
  refreshLoads s

/-! Commands (R73). -/

/-- The machine group of a context is in none of the safe states. -/
def State.mgUnsafe (s : State) (k : Nat) : Bool := match s.cMg k with | some m => s.mgState m == 0 | none => false

/-- The context writes compare sets. -/
def State.cWrites (s : State) (k : Nat) : Bool := writesSets (s.cKid k) && (s.cTbg k).isSome

/-- A command is accepted, with its effect, or refused (R73, R113). -/
def judged (k : Nat) (ok : Bool) (f : State → State) (s : State) : State :=
  if ok then (f s).lower (cf k fCTX_W_STAT_cmd_ref) else ctxIrq k 6 (s.raise (cf k fCTX_W_STAT_cmd_ref))

/-- May a context start (R73)? On a chip in role MIRROR a mirrored context stays ADMITTED (10_lovage_pairing.md R373). -/
def State.mayStart (s : State) (k : Nat) : Bool :=
  s.get fENG_KS_STAT_state == 0 && s.on fENG_CFG_sched_en && !(s.role == 0 && s.mirCtx k)

/-- May a context be triggered by software (R73, R81)? -/
def State.mayTrig (s : State) (k : Nat) : Bool :=
  let c := s.ctx k
  let soon := match c.lastTrig with | some t => decide (s.now < t + 32 * s.cTimer k) | none => false
  s.cSrc k == 2 && !soon

/-- What RELEASE leaves (R73): the context is OFF; bits 2 to 5 of a machine context's KSTAT end (04_machine_control.md R122). -/
def ctxRelease (k : Nat) (s : State) : State :=
  let kid := s.cKid k
  let s := if kid = 1 || kid = 2 || kid = 10 then s.putCw k 0x7A0 ((s.cw k 0x7A0).ins 2 4 0) else s
  refreshLoads (s.putCtx k { stepNo := (s.ctx k).stepNo })

/-- A command on a context by its code in CTX_W_CMD (R73). Codes that R73 does not list are refused as a command from another state is
(DESIGN CHOICE, log entry 46). -/
def ctxCmd (k code : Nat) (s : State) : State :=
  let c := s.ctx k
  match code, c.st with
  | 1, .off =>
    let a := s.admitCode k
    judged k (a == 0) (admitCtx k) (s.put (cf k fCTX_W_STAT_aref) a)
  | 2, .admitted => judged k (s.mayStart k) (fun s => startCtxAt k (applyInstant k s)) s
  | 3, .run => judged k (!(s.cWrites k && s.mgUnsafe k)) (stopCtxAt k) s
  | 4, .admitted | 4, .halt => judged k true (ctxRelease k) s
  | 5, .halt => judged k (!s.mgUnsafe k) (fun s => s.putCtx k { c with st := .admitted }) s
  | 6, .run => judged k (s.mayTrig k) (fun s => instantAt k s.now (s.putCtx k { c with lastTrig := some s.now })) s
  | _, _ => judged k false id s

/-- A write of CTX_W_CMD to the context a requester has selected. -/
def ctxCmdAt (r : Req) (code : Nat) (s : State) : State := access r aCTX_W_CMD true (fun s => ctxCmd (s.wsel r) code s) s

/-- ADMIT (R87). -/
def execAdmitCtx (r : Req) (s : State) : Host.Outcome State Fault Refusal := done (ctxCmdAt r 1 s)
/-- START (R73, R74). -/
def execStartCtx (r : Req) (s : State) : Host.Outcome State Fault Refusal := done (ctxCmdAt r 2 s)
/-- STOP (R73, R74). -/
def execStopCtx (r : Req) (s : State) : Host.Outcome State Fault Refusal := done (ctxCmdAt r 3 s)
/-- RELEASE (R73). -/
def execReleaseCtx (r : Req) (s : State) : Host.Outcome State Fault Refusal := done (ctxCmdAt r 4 s)
/-- CLEAR (R73). -/
def execClearCtx (r : Req) (s : State) : Host.Outcome State Fault Refusal := done (ctxCmdAt r 5 s)

/-! Staging (R109, R115). -/

/-- The words a requester has staged. -/
def State.stage (s : State) (r : Req) : Stage := Tab.get {} s.stages (reqNo r)
def State.putStage (s : State) (r : Req) (x : Stage) : State := s.setStages (Tab.set {} s.stages (reqNo r) x)

/-- One word is staged at an offset of the area (R115). -/
def stageAt (r : Req) (ofs : Nat) (d : Word) (s : State) : State :=
  let x := s.stage r
  let k := if x.words.isEmpty then s.wsel r else x.ctx
  if (s.ctx k).cmtGen.isSome then errEvent .eng errShdBusy s
  else if ofs < 0x100 || 0x360 ≤ ofs || (64 ≤ x.words.length && !x.words.any (fun w => w.1 == ofs)) then ctxWrErr s
  else s.putStage r { ctx := k, words := x.words.filter (fun w => w.1 ≠ ofs) ++ [(ofs, d)] }

/-- Is a word staged at an offset (R115)? -/
def State.stageOk (s : State) (r : Req) (ofs : Nat) : Bool :=
  let x := s.stage r
  let k := if x.words.isEmpty then s.wsel r else x.ctx
  (s.ctx k).cmtGen.isNone && decide (0x100 ≤ ofs) && decide (ofs < 0x360) && (decide (x.words.length < 64) || x.words.any (fun w => w.1 == ofs))

/-- A write of CTX_W_PDATA: the word at the requester's address, which then advances (R113); a refused write has no other effect
(R115). -/
def stageWord (r : Req) (d : Word) (s : State) : State :=
  let f : Fld := ⟨bank r aCTX_W_PADDR, 2, 8⟩
  let w := s.get f
  let s' := stageAt r (4 * w) d s
  if s.stageOk r (4 * w) then s'.put f ((w + 1) % 256) else s'

/-- STAGE_WORD (R115). -/
def execStageWord (r : Req) (d : BitVec 32) (s : State) : Host.Outcome State Fault Refusal :=
  done (access r aCTX_W_PDATA true (stageWord r d) s)

/-- A refused commit (R22). -/
def cmtRefused (b : Block) (s : State) : State := (errEvent b errCmtGen s).irq (hdr b) 2

/-- A write of CTX_W_PCMT with go = 1 (R21, R22, R109). -/
def paramCommit (r : Req) (gen : Nat) (s : State) : State :=
  let x := s.stage r
  let k := if x.words.isEmpty then s.wsel r else x.ctx
  let s := if (s.ctx k).st = .run then s else applyParams k s
  let c := s.ctx k
  if c.cmtGen.isSome || gen ≠ (s.get (cf k fCTX_W_PGEN_applied) + 1) % 256 then cmtRefused .eng s
  else
    let s := (s.putStage r {}).put (cf k fCTX_W_PGEN_pending) gen
    let s := s.putCtx k { c with cmtGen := some gen, cmtWords := x.words, cmtBy := r }
    if c.st = .run then s else applyParams k s

/-- PARAM_COMMIT (R109). -/
def execParamCommit (r : Req) (gen : Fin 256) (s : State) : Host.Outcome State Fault Refusal :=
  done (access r aCTX_W_PCMT true (paramCommit r gen.val) s)

/-- A write of CTX_W_PCMT with abort = 1 (R23, R113): the requester's staged words, and a commit of its own that waits, are discarded. -/
def paramAbort (r : Req) (s : State) : State :=
  let k := s.wsel r
  let c := s.ctx k
  if c.cmtBy = r then (s.putStage r {}).putCtx k { c with cmtGen := none, cmtWords := [] } else s.putStage r {}

/-- PARAM_ABORT (R23). -/
def execParamAbort (r : Req) (s : State) : Host.Outcome State Fault Refusal :=
  done (access r aCTX_W_PCMT true (paramAbort r) s)

/-- A write of CTX_W_ITEG (R100, R109). -/
def integWrite (k : Nat) (v : Word) (s : State) : State :=
  let i := s.get (cf k fCTX_W_ISEL_idx)
  let c := s.ctx k
  if c.st = .run then s.putCtx k { c with itegPend := some (i, v) }
  else setInteg k i v (s.putCtx k { c with itegPend := none })

/-- INTEGRATOR_SET (R100). -/
def execIntegratorSet (r : Req) (v : BitVec 32) (s : State) : Host.Outcome State Fault Refusal :=
  done (access r aCTX_W_ITEG true (fun s => integWrite (s.wsel r) v s) s)

/-- A write of ENG_WSEL (R112, R115). -/
def wselWrite (r : Req) (k : Nat) (s : State) : State :=
  let x := s.stage r
  let s := if !x.words.isEmpty && x.ctx ≠ k then (s.putStage r {}).errSet 0x40050000 20 else s
  s.put ⟨bank r aENG_WSEL, 0, 7⟩ k

/-- WSEL_WRITE (R115). -/
def execWselWrite (r : Req) (k : Fin 128) (s : State) : Host.Outcome State Fault Refusal :=
  done (access r aENG_WSEL true (wselWrite r k.val) s)

/-- A write to CTX_W_SRC, CTX_W_SETP or CTX_W_ILIM (R20, R109): `o` is its word of the area. -/
def ctxBndWrite (k a o : Nat) (d : Word) (s : State) : State :=
  let v := storedWord a d
  if (s.ctx k).st = .run then s.setBnd (Tab.set {} s.bnd (inst k a) ((Tab.get {} s.bnd (inst k a)).put 0xFFFFFFFF v))
  else (s.putCw k o v).setBnd (Tab.del s.bnd (inst k a))

/-! The kernel store (R106). -/

/-- ENG_KS_CTRL.req (R106 steps 1 to 3): from INVALID with the warden still in ABSENT a new reload begins at once. -/
def ksReq (s : State) : State :=
  if s.liveCtx.any (fun k => (s.ctx k).st == .run) then s.errSet 0x40050000 17
  else
    let w := s.warden 16
    if w.st = .absent then
      (s.setBasil { s.basil with ksRun := false }).put fENG_KS_STAT_state 1
    else wardenStart 16 .reload s

/-- KS_RELOAD_REQ (R106). -/
def execKsReloadReq (r : Req) (s : State) : Host.Outcome State Fault Refusal := done (access r aENG_KS_CTRL true ksReq s)

/-- ENG_KS_CTRL.done (R106 step 5): the verification begins. -/
def ksDone (s : State) : State := if s.get fENG_KS_STAT_state = 1 then s.setBasil { s.basil with ksRun := true } else s

/-- KS_DONE (R106). -/
def execKsDone (r : Req) (s : State) : Host.Outcome State Fault Refusal := done (access r aENG_KS_CTRL true ksDone s)

/-- The CRC of the kernel store completes (R106 steps 6 and 7). -/
def ksVerify (s : State) : State :=
  if !s.basil.ksRun then s
  else
    let store := s.memRead 0x30040000 0x20000
    let ok := crc32c store = s.rd aENG_KS_CRC
    let s := (s.setBasil { s.basil with ksRun := false }).irq 0x40050000 6
    if ok then
      let s := s.put fENG_KS_STAT_ver (Config.ksVersion store % 65536)
      (wardenRun 16 (s.put fENG_KS_STAT_state 0)).putB ⟨aENG_STAT, 8, 1⟩ true
    else ((s.put fENG_KS_STAT_state 2).errSet 0x40050000 18).sageEvt 32 .none

/-- KS_VERIFY (R106). -/
def execKsVerify (s : State) : Host.Outcome State Fault Refusal := done (ksVerify s)

/-! Periodic checks (R112, R114). -/

/-- The CRC of the words of a context that CTX_W_PCRC names (R113, R114). -/
def State.ctxCrc (s : State) (k : Nat) : Word :=
  let w (a n : Nat) : List Byte := s.memRead (cArea k + a) n
  crc32c (w 0 16 ++ w 0x18 0xA8 ++ w 0x100 0x260)

/-- CTX_CRC_CHECK (R114). -/
def execCtxCrcCheck (k : Fin 128) (s : State) : Host.Outcome State Fault Refusal :=
  let k := k.val
  let ref := s.cw k 0x310
  done (if (s.ctx k).st ≠ .off && ref ≠ 0 && s.ctxCrc k ≠ ref then haltCtx k 6 s else s)

/-- LOAD_WINDOW (R112): the 1 ms window that ends; ENG_LOAD is in units of 10,000 lane-cycles per second. -/
def loadWindow (s : State) : State :=
  let t := nextFrame ms s.basil.loadAt s.now
  let s := s.each [0, 1, 2, 3] (fun i => bookLane i t)
  let s := s.reach t
  let l := min (s.basil.cycles / 10) (2 ^ 24 - 1)
  let s := s.setBasil { s.basil with cycles := 0, loadAt := t }
  let s := s.put fENG_LOAD_load l
  let s := s.put fENG_LOAD_PEAK_peak (max l (s.get fENG_LOAD_PEAK_peak))
  let warn := s.get fENG_CFG_load_warn
  if warn ≠ 0 && 1600 * warn < l then s.irq 0x40050000 8 else s

/-- LOAD_WINDOW. -/
def execLoadWindow (s : State) : Host.Outcome State Fault Refusal := done (loadWindow s)

/-! Reset of the island (R93, R116). -/

/-- A reset, reload or power-down of the ENG island begins: provisional results are cancelled (R93). -/
def engBegins (s : State) : State := s.each allCtx cancelStep

/-- The ENG island is reset (R72, R116): every context OFF; the counter and working-state regions read 0. -/
def engReset (s : State) : State :=
  let s := s.each allCtx (fun k s => if (s.ctx k).st = .run then trkHold k true (leaveRun k s) else s)
  let s := (s.setCtxs []).setStages []
  let s := (s.setLanes []).setBasil { s.basil with pair := none, cycles := 0, ksRun := false, rx := [] }
  s.setMem (s.mem.filter (fun x => !(0x30000000 ≤ x.1 && x.1 < 0x30040000 &&
    (0x580 ≤ x.1 % 0x800 && x.1 % 0x800 < 0x780 || 0x7C0 ≤ x.1 % 0x800))))

end Sys2Proof.Machine
end

