-- ==== Sys2Proof/Machine/Giu.lean ====
section
/-! DEFINITION. The grid interface unit (05_grid_and_pv.md R154, R157 to R161, R170 to R184, R192). Readings the rules leave
open stand in log entries 27 and 28. -/
namespace Sys2Proof.Machine
open F32 (add sub mul div negate lt le)

/-- A grid unit. -/
def State.gu (s : State) (u : Nat) : GUnit := Tab.get {} s.giu.units u
def State.putGu (s : State) (u : Nat) (x : GUnit) : State := s.setGiu { s.giu with units := Tab.set {} s.giu.units u x }

/-! The PLL (R157 to R159). -/

/-- The step period h of a unit in fine ticks (R157). -/
def State.pllH (s : State) (u : Nat) : Nat :=
  match s.get (fGIU_PLL_CFG_rate u) with | 0 => 1280000 | 1 => 640000 | _ => 320000

/-- V_base of a unit (R157). -/
def State.vBase (s : State) (u : Nat) : Word := mul (F32.sqrt F32.two) (s.rd (aGIU_PLL_VNOM u))

/-- A conversion as a voltage (R157). -/
def State.pllIn (s : State) (u ain : Nat) (raw : Word) : Word :=
  let o := s.get (fGIU_PLL_CFG_ofs u)
  let ofs : Int := if s.on (fADC_AIN_CFG_diff (ain / 20) (ain % 20)) then sext 16 o else o
  mul (F32.ofInt (raw.toInt - ofs)) (s.rd (aGIU_PLL_SCALE u))

/-- The phases of an αβ vector. -/
def phases (a b : Word) : List Word :=
  let h := negate (div a F32.two)
  let q := mul (div F32.sqrt3 F32.two) b
  [a, add h q, sub h q]

/-- The in-phase and quadrature signals of the three inputs of a unit. -/
def Pll.signals (p : Pll) (ll : Bool) : List (Word × Word) :=
  let v := phases p.va p.vb
  let q := phases p.qva p.qvb
  let d (l : List Word) (i j : Nat) : Word := sub (wAt l i) (wAt l j)
  if ll then [(d v 0 1, d q 0 1), (d v 1 2, d q 1 2), (d v 2 0, d q 2 0)]
  else [(wAt v 0, wAt q 0), (wAt v 1, wAt q 1), (wAt v 2, wAt q 2)]

/-- A missing conversion: the last value, rotated by ω·h (R159). -/
def advance (last q om h : Word) : Word :=
  let a := mul om h
  sub (mul last (Config.cos32 a)) (mul q (Config.sin32 a))

/-- One step of a SOGI over h (R158 step 1), by the trapezoidal rule between its input before and now, which keeps the phase R160
asks for (DESIGN CHOICE, log entry 27). -/
def sogi (k om h v0 v vp qv : Word) : Word × Word :=
  let b := div (mul om h) F32.two
  let a := mul k b
  let r := sub (add (mul vp (sub F32.one a)) (mul a (add v0 v))) (mul b (add (mul F32.two qv) (mul b vp)))
  let v1 := div r (add (add F32.one a) (mul b b))
  (v1, add qv (mul b (add v1 vp)))

/-- The αβ vector of three inputs (R157). -/
def abOf (ll : Bool) (l : List Word) : Word × Word :=
  let x0 := wAt l 0
  let x1 := wAt l 1
  let x2 := wAt l 2
  if ll then (div (sub x0 x2) F32.three, div x1 F32.sqrt3)
  else (div (sub (sub (mul F32.two x0) x1) x2) F32.three, div (sub x1 x2) F32.sqrt3)

/-- What a step of a PLL unit computes besides its state: |v⁺| in pu, ratio, magnitudes per phase and line to line, ω at a
limit, error, wrap. -/
structure PllOut where
  pos : Word
  ratio : Word
  ph : List Word
  ln : List Word
  atLim : Bool
  err : Word
  wrap : Bool
  deriving DecidableEq, Repr

/-- One step of a PLL unit (R158); `hold` in NOSIG. -/
def State.pllStep (s : State) (u : Nat) (hold : Bool) (ins : List Word) (p : Pll) : Pll × PllOut :=
  let hT := s.pllH u
  let h := F32.secs hT
  let vb := s.vBase u
  let k := s.rd (aGIU_PLL_K u)
  let ll := s.on (fGIU_PLL_CFG_ll u)
  let (al, be) := abOf ll ins
  let (al0, be0) := abOf ll (if p.last.isEmpty then ins else p.last)
  let (va, qva) := sogi k p.om h al0 al p.va p.qva
  let (vbt, qvb) := sogi k p.om h be0 be p.vb p.qvb
  let pa := div (sub va qvb) F32.two
  let pb := div (add qva vbt) F32.two
  let na := div (add va qvb) F32.two
  let nb := div (sub vbt qva) F32.two
  let c := Config.cos32 p.th
  let n := Config.sin32 p.th
  let vd := add (mul pa c) (mul pb n)
  let vq := sub (mul pb c) (mul pa n)
  let mag := mag2 (pa, pb)
  let e := div vq (F32.max mag (mul (F32.dec 1 10) vb))
  let fn := F32.ofInt (if s.on (fGIU_PLL_CFG_fnom u) then 60 else 50)
  let lo := mul F32.twoPi (F32.ofInt 45)
  let hi := mul F32.twoPi (F32.ofInt 66)
  let x1 := add p.x (mul (mul h (s.rd (aGIU_PLL_KI u))) e)
  let raw (x : Word) : Word := add (add (mul F32.twoPi fn) (mul (s.rd (aGIU_PLL_KP u)) e)) x
  let lim (w : Word) : Bool := le w lo || le hi w
  let atL := !hold && lim (raw x1)
  let x := if hold || atL then p.x else x1
  let om := if hold then p.om else F32.clamp lo hi (raw x1)
  let t := add p.th (mul h om)
  let wrap := le F32.twoPi t
  let f := add p.f (mul (div h (F32.dec 1 100)) (sub (div om F32.twoPi) p.f))
  let v := phases va vbt
  let q := phases qva qvb
  let pu (i : Nat) : Word := div (mag2 (wAt v i, wAt q i)) vb
  let lpu (i j : Nat) : Word := div (mag2 (sub (wAt v i) (wAt v j), sub (wAt q i) (wAt q j))) (mul F32.sqrt3 vb)
  ({ p with va := va, qva := qva, vb := vbt, qvb := qvb, th := wrap0 t, om := om, x := x, vd := vd, vq := vq, f := f, last := ins },
   { pos := div mag vb, ratio := div (mag2 (na, nb)) mag, ph := [pu 0, pu 1, pu 2], ln := [lpu 0 1, lpu 1 2, lpu 2 0],
     atLim := atL, err := e, wrap := wrap })

/-- 20 ms and 5 ms (R159). -/
def ms20 : Nat := 20 * ms
def ms5 : Nat := 5 * ms

/-- The state of a PLL unit after a step (R159): 0 OFF, 1 ACQ, 2 LOCKED, 3 NOSIG. -/
def pllNext (st h : Nat) (o : PllOut) (gone : Bool) (p : Pll) : Nat × Pll :=
  let low := if lt o.pos (F32.dec 1 10) then p.low + 1 else 0
  let miss := if gone then p.miss + 1 else 0
  let p := { p with low := low, miss := miss }
  if (st = 1 || st = 2) && (3 ≤ low || 3 < miss) then (3, { p with tGood := 0, tBad := 0, tLim := 0 })
  else match st with
    | 1 =>
      let t := if lt (F32.abs o.err) (F32.dec 5 100) && !o.atLim then p.tGood + h else 0
      if ms20 ≤ t then (2, { p with tGood := 0, tBad := 0, tLim := 0 }) else (1, { p with tGood := t })
    | 2 =>
      let b := if lt (F32.dec 15 100) (F32.abs o.err) then p.tBad + h else 0
      let l := if o.atLim then p.tLim + h else 0
      if ms5 ≤ b || ms5 ≤ l then (1, { p with tGood := 0, tBad := 0, tLim := 0 }) else (2, { p with tBad := b, tLim := l })
    | 3 =>
      let t := if le (F32.dec 15 100) o.pos && !gone then p.tGood + h else 0
      if ms20 ≤ t then (1, { p with tGood := 0 }) else (3, { p with tGood := t })
    | _ => (st, p)

/-- A PLL unit enters a state (R159, R193, R194). -/
def pllState (u st : Nat) (s : State) : State :=
  if s.get (fGIU_PLL_STAT_state u) = st then s
  else
    let s := giuIrq 6 (s.put (fGIU_PLL_STAT_state u) st)
    if st = 3 then s.sageEvt 34 (nUnit u) else s

/-! The ride-through sequencer (R171 to R174). -/

/-- The sequencer changes its state (R174); `pt` is the deciding point, 32 for none. -/
def seqState (u st pt : Nat) (s : State) : State :=
  let was := s.get (fGIU_RT_STAT_state u)
  if was = st then s
  else
    let s := s.put (fGIU_RT_STAT_state u) st
    let s := s.put (fGIU_RT_STAT_pt u) (if pt < 32 then pt else 0)
    let x := s.gu u
    let rt := if st = 1 then { x.rt with acc := [], ins := [], tRc := 0 } else x.rt
    let rt := if st = 5 || st = 6 then { rt with told := some st } else rt
    let s := giuIrq 4 (s.putGu u { x with rt := rt })
    let s := s.record 0x50 .giu ([u, was, st, if pt < 32 then pt else 0xFF].map (BitVec.ofNat 8))
    let s := if st = 5 then s.incrSat (fGIU_RT_TRIPS_cnt u)
      else if st = 6 then giuIrq 5 (s.incrSat (fGIU_ISL_CNT_cnt u))
      else if st = 4 then s.incrSat (fGIU_RT_CESS_cnt u) else s
    if 4 ≤ st then s.sageEvt 33 (nUnit u) else s

/-- A point of a curve: action, time in fine ticks, level as binary32 (R171). -/
def State.rtPoint (s : State) (u i : Nat) : Nat × Nat × Word :=
  let w := s.use (aGIU_RT_LV u 0 + 4 * i)
  let unit := match w.fld 14 2 with | 0 => ms | 1 => 10 * ms | 2 => 100 * ms | _ => 1000 * ms
  (w.fld 0 2, w.fld 2 12 * unit, F32.ofRat (w.fld 16 16) (if i < 16 then 4096 else 100))

/-- One step of the timer of a point (R172): time accumulated and time inside. -/
def State.rtTimer (s : State) (u i h : Nat) (nosig : Bool) (lo hi f : Word) (acc ins : Nat) : Nat × Nat :=
  let (act, _, lv) := s.rtPoint u i
  let hys := if i < 16 then F32.ofRat (s.get (fGIU_RT_CFG_vhyst u)) 4096 else F32.ofRat (s.get (fGIU_RT_CFG_fhyst u)) 100
  let c := i / 8
  let q := match c with | 0 => lo | 1 => hi | _ => f
  let low := c = 0 || c = 2
  if act = 0 then (0, 0)
  else if nosig && 16 ≤ i then (acc, ins)
  else if (if low then lt q lv else lt lv q) then (acc + h, 0)
  else if (if low then le (add lv hys) q else le q (sub lv hys)) then
    (if s.get (fGIU_RT_CFG_t_rec u) * ms ≤ ins + h then (0, ins + h) else (acc, ins + h))
  else (acc, 0)

/-- The first expired point with an action (R172, R173). -/
def State.rtExpired (s : State) (u act : Nat) (acc : List Nat) : Option Nat :=
  (List.range 32).find? (fun i =>
    let (a, t, _) := s.rtPoint u i
    a = act && 0 < acc.getD i 0 && t ≤ acc.getD i 0)

/-- The magnitudes the sequencer uses (R172). -/
def State.rtMags (s : State) (u : Nat) (o : PllOut) : List Word := if s.on (fGIU_RT_CFG_meas u) then o.ln else o.ph

/-- The reconnection window holds (R173). -/
def State.rtWindow (s : State) (u : Nat) (mags : List Word) (f : Word) : Bool :=
  let v := s.use (aGIU_RT_RCV u)
  let g := s.use (aGIU_RT_RCF u)
  let q (w : Word) (lo n : Nat) : Word := F32.ofRat (w.fld lo 16) n
  v.fld 16 16 ≠ 0 && g.fld 16 16 ≠ 0 && s.get (fGIU_PLL_STAT_state u) = 2 &&
    mags.all (fun m => le (q v 0 4096) m && le m (q v 16 4096)) && le (q g 0 100) f && le f (q g 16 100)

/-- One step of the sequencer (R172, R173); `isl` is an islanding trip. -/
def seqStep (u h : Nat) (o : PllOut) (isl : Bool) (s : State) : State :=
  if !s.on (fGIU_RT_CFG_en u) then s
  else
    let x := s.gu u
    let mags := s.rtMags u o
    let nosig := s.get (fGIU_PLL_STAT_state u) = 3
    let ts := (List.range 32).map (fun i => s.rtTimer u i h nosig (minW mags) (maxW mags) x.pll.f (x.rt.acc.getD i 0) (x.rt.ins.getD i 0))
    let acc := ts.map (·.1)
    let st := s.get (fGIU_RT_STAT_state u)
    let s := s.putGu u { x with rt := { x.rt with acc := acc, ins := ts.map (·.2) } }
    let pt (o : Option Nat) : Nat := o.getD 32
    match st with
    | 1 =>
      let x := s.gu u
      let t := if s.rtWindow u mags x.pll.f then x.rt.tRc + h else 0
      let s := s.putGu u { x with rt := { x.rt with tRc := t } }
      if t ≠ 0 && s.get (fGIU_RT_RCT_t_rc u) * 100 * ms ≤ t then seqState u 2 32 s else s
    | 5 | 6 => if s.on (fGIU_RT_CFG_trip_latch u) then s else seqState u 1 32 s
    | _ =>
      let trip := s.rtExpired u 3 acc
      let cease := s.rtExpired u 2 acc
      let ride := s.rtExpired u 1 acc
      if trip.isSome then
        let s := if isl then s.incrSat (fGIU_ISL_CNT_cnt u) else s
        seqState u 5 (pt trip) s
      else if isl then seqState u 6 32 s
      else if cease.isSome || nosig then seqState u 4 (pt cease) s
      else if ride.isSome then seqState u 3 (pt ride) s
      else seqState u 2 32 s

/-- RT_ACK (R173): a latched TRIP or ISLAND is released. -/
def rtAck (u : Nat) (s : State) : State :=
  let st := s.get (fGIU_RT_STAT_state u)
  if s.on (fGIU_RT_CFG_en u) && s.on (fGIU_RT_CFG_trip_latch u) && (st = 5 || st = 6) then seqState u 1 32 s else s

/-- RT_ACK. -/
def execRtAck (r : Req) (u : Fin 8) (s : State) : Host.Outcome State Fault Refusal :=
  done (access r (aGIU_RT_CMD u.val) true (rtAck u.val) s)

/-! Islanding detection (R176 to R179). -/

/-- The grid context of a unit: the context that binds quantity 4 of it (R155). -/
def State.gridOwner (s : State) (u : Nat) : Option Nat :=
  s.liveCtx.find? (fun k => (List.range 16).any (fun j => s.giuSlot k j 4 && s.slotInst k j == u))

/-- The grid context is in RUN. -/
def State.gridRuns (s : State) (u : Nat) : Bool := match s.gridOwner u with | some k => (s.ctx k).st == .run | none => false

/-- Has a reference arrived in the grid cycle (R178)? In the first two steps of the grid context after a wrap, when none can have
arrived yet, that of the cycle before counts (DEDUCED, log entry 28). -/
def State.islRef (s : State) (u : Nat) : Bool :=
  let x := (s.gu u).isl
  let per := match s.gridOwner u with | some k => s.cPeriod k | none => 0
  x.cur || (x.prev && decide (s.now ≤ x.wrapAt + 2 * per))

/-- Is the detector set armed (R178)? -/
def State.islArmed (s : State) (u : Nat) : Bool :=
  let ph := match s.gridOwner u with | some k => (s.ctx k).w.phase | none => 1
  s.gridRuns u && (ph = 0 || ph = 3) && le (F32.ofRat (s.get (fGIU_ISL_ARM_i_arm u)) 4096) (s.gu u).isl.ref && s.islRef u

/-- A grid cycle ends: the perturbation changes, and a cycle without a reference disarms the set (R177, R178). -/
def islCycle (u : Nat) (f : Word) (s : State) : State :=
  let g := s.gu u
  let x := g.isl
  let n := x.n + 1
  let fn := F32.ofInt (if s.on (fGIU_PLL_CFG_fnom u) then 60 else 50)
  let th0 := F32.ofRat (s.get (fGIU_ISL_AFD_th0 u)) 1000
  let sgn := if hasBit (s.get (fGIU_ISL_AFD_pat u)) (n % 16) then th0 else negate th0
  let af := if s.on (fGIU_ISL_CFG_afd u) then
      F32.lim (F32.dec 2 10) (add sgn (mul (s.rd (aGIU_ISL_KPF u)) (sub f fn))) else 0
  let late := s.gridRuns u && !x.cur
  let s := s.putGu u { g with isl := { x with n := n, thAf := af, prev := x.cur, cur := false, wrapAt := s.now } }
  if late then (giuErr 17 s).sageEvt 35 .none else s

/-- What an islanding step finds: the armed state, the criteria that hold, those confirmed, the times they have held, and the
history that is kept. -/
structure IslFound where
  armed : Bool
  roc : Bool
  vs : Bool
  dfc : Bool
  okR : Bool
  okD : Bool
  tR : Nat
  tD : Nat
  hist : List (Nat × Word × Word)

/-- The islanding criteria of unit u over a step of length h (R172 to R176). -/
def State.islFind (s : State) (u h : Nat) : IslFound :=
  let g := s.gu u
  let x := g.isl
  let f := g.pll.f
  let rel := Config.atan232 g.pll.vq g.pll.vd
  let win := min 500 (max 20 (s.get (fGIU_ISL_ROCOF_win u))) * ms
  let cyc := if F32.le (F32.ofInt 40) f then (F32.toInt (div (F32.ofInt 12800000000) f)).toNat else 25 * ms
  let keep := max win cyc + h
  let hist := (s.now, f, rel) :: x.hist.filter (fun e => s.now ≤ e.1 + keep)
  let armed := s.islArmed u
  let old := x.hist.find? (fun e => e.1 + win ≤ s.now)
  let lim := F32.ofRat (min 1000 (max 10 (s.get (fGIU_ISL_ROCOF_lim u)))) 100
  let roc := s.on (fGIU_ISL_CFG_rocof u) && (match old with
    | some (_, f0, _) => lt lim (div (F32.abs (sub f f0)) (F32.secs win))
    | none => false)
  let vlim := F32.ofRat (min 349 (max 35 (s.get (fGIU_ISL_VS_lim u)))) 1000
  let vs := s.on (fGIU_ISL_CFG_vs u) && x.hist.any (fun (t, _, a) => s.now ≤ t + cyc && lt vlim (F32.abs (F32.wrap (sub rel a))))
  let fn := F32.ofInt (if s.on (fGIU_PLL_CFG_fnom u) then 60 else 50)
  let dfc := s.on (fGIU_ISL_CFG_dfc u) && lt (F32.ofRat (s.get (fGIU_ISL_DFC_df_lim u)) 1000) (F32.abs (sub f fn))
  let tR := if armed && roc then x.tRoc + h else 0
  let tD := if armed && dfc then x.tDfc + h else 0
  { armed := armed, roc := roc, vs := vs, dfc := dfc, tR := tR, tD := tD, hist := hist
    okR := tR ≠ 0 && s.get (fGIU_ISL_ROCOF_t_conf u) * ms ≤ tR - h
    okD := tD ≠ 0 && min 1900 (s.get (fGIU_ISL_DFC_t_conf u)) * ms ≤ tD - h }

/-- One step of the detector set: its state, and whether a criterion completes (R176, R178, R179). -/
def islStep (u h : Nat) (s : State) : State × Bool :=
  let v := s.islFind u h
  let okV := v.armed && v.vs
  let g := s.gu u
  let s := s.putGu u { g with isl := { g.isl with hist := v.hist, tRoc := v.tR, tDfc := v.tD } }
  let s := (s.putB (fGIU_ISL_STAT_armed u) v.armed).put (fGIU_ISL_STAT_crit u)
    (flagWord [(0, v.roc), (1, v.vs), (2, v.dfc)] + (s.get (fGIU_ISL_STAT_crit u)) / 8 * 8)
  let st := s.get (fGIU_RT_STAT_state u)
  if (v.okR || okV || v.okD) && s.on (fGIU_RT_CFG_en u) && 2 ≤ st && st ≤ 4 then
    let t0 := if v.okR then s.now - (v.tR - h) else if v.okD && !okV then s.now - (v.tD - h) else s.now
    let s := s.wr (aGIU_ISL_FIRST u) (BitVec.ofNat 32 (lowTicks t0))
    let s := s.wr (aGIU_ISL_TRIPT u) (BitVec.ofNat 32 (s.stamp))
    (s.put (fGIU_ISL_STAT_crit u) (s.get (fGIU_ISL_STAT_crit u) % 8 + 8), true)
  else (s, false)

/-- The sealed references of a grid context reach its unit (R170, R178), as fractions of ILIM. -/
def giuReference (u : Nat) (id iq : Word) (s : State) : State :=
  let g := s.gu u
  s.putGu u { g with isl := { g.isl with ref := mag2 (id, iq), cur := true } }

/-- GIU_REFERENCE (R170, R178): the record of a seal that waits on the ENG-to-GIU link, otherwise the operands (log entry 26). -/
def execGiuReference (u : Fin 8) (id iq : BitVec 32) (s : State) : Host.Outcome State Fault Refusal :=
  let u := u.val
  let x := (Tab.find s.giu.refs u).getD (id, iq)
  done (fabSend 5 8 0 (giuReference u x.1 x.2) (s.setGiu { s.giu with refs := Tab.del s.giu.refs u }))

/-! The log ring (R181). -/

/-- The address of word `i` of an entry of the log ring (R196). -/
def logAt (wp i : Nat) : Nat := 0x40063000 + wp % 256 * 16 + i % 4 * 4

/-- One entry of the log, at a wrap of the logged unit. -/
def giuLog (u : Nat) (pos : Word) (s : State) : State :=
  if !(s.on fGIU_LOG_CFG_en && s.get fGIU_LOG_CFG_unit = u) || s.giu.stop = some 0 then s
  else
    let x := s.gu u
    let wp := s.get fGIU_LOG_WP_wp
    let half := wp / 128
    let ovf := wp % 128 = 0 && hasBit s.giu.unread half
    let s := if ovf then giuErr 19 s else s
    let cr := s.get (fGIU_ISL_STAT_crit u) % 8 + (if s.on (fGIU_ISL_STAT_armed u) then 8 else 0)
    let af := lowBits 16 (F32.toInt (mul x.isl.thAf (F32.ofInt 100000)))
    let q (v : Word) : Nat := (F32.toInt (mul v (F32.ofInt 4096))).toNat % 65536
    let s := (s.wr (logAt wp 0) (BitVec.ofNat 32 (s.stamp))).wr (logAt wp 1) x.pll.f
    let s := s.wr (logAt wp 2) (BitVec.ofNat 32 (af + q pos * 65536))
    let s := s.wr (logAt wp 3) (BitVec.ofNat 32 (q x.isl.ref + s.get (fGIU_RT_STAT_state u) * 65536 + cr * 2 ^ 24))
    let s := s.put fGIU_LOG_WP_wp ((wp + 1) % 256)
    let s := if wp = 255 then s.raise fGIU_LOG_WP_wrapped else s
    let s := s.setGiu { s.giu with unread := if wp % 128 = 127 then s.giu.unread ||| 2 ^ half else s.giu.unread }
    match s.giu.stop with
    | some n => (s.setGiu { s.giu with stop := some (n - 1) }).when (n = 1) (giuIrq 8)
    | none => s

/-- The logged unit entered ISLAND or TRIP (R181). -/
def giuLogTrip (u was : Nat) (s : State) : State :=
  let st := s.get (fGIU_RT_STAT_state u)
  if was ≠ st && (st = 5 || st = 6) && s.on fGIU_LOG_CFG_stop_on_trip && s.get fGIU_LOG_CFG_unit = u && s.giu.stop.isNone then
    s.setGiu { s.giu with stop := some 64 } else s

/-! PLL_STEP. -/

/-- The next step instant of a unit on its grid (R157). -/
def State.pllNextAt (s : State) (u : Nat) : Nat := let h := s.pllH u; ((s.gu u).pll.at_ / h + 1) * h

/-- The unit and its input that a conversion request of the GIU is for (R157): of the running units that take the input and have not asked
for it since their last step, the one with the earliest step instant. -/
def State.pllAsker (s : State) (ain : Nat) : Option (Nat × Nat) :=
  let want (u : Nat) : Option Nat := [0, 1, 2].find? (fun i => s.get ⟨aGIU_PLL_AIN u, 8 * i, 7⟩ == ain && !hasBit (s.gu u).pll.asked i)
  let us := (List.range 8).filterMap (fun u =>
    if s.on (fGIU_PLL_CFG_en u) && s.get (fGIU_PLL_STAT_state u) ≠ 0 then (want u).map (fun i => (u, i)) else none)
  us.foldl (fun o x => match o with
    | some y => if s.pllNextAt x.1 < s.pllNextAt y.1 then some x else some y
    | none => some x) none

/-- A PLL unit sends one of the requests of its next step, at that instant (R157). -/
def pllAsks (ain : Nat) (s : State) : State :=
  match s.pllAsker ain with
  | some (u, i) =>
    let s := s.reach (s.pllNextAt u)
    let g := s.gu u
    s.putGu u { g with pll := { g.pll with asked := g.pll.asked + 2 ^ i } }
  | none => s

/-- One step of unit u at its next grid instant (R157 to R159, R172 to R181). -/
def pllRun (u : Nat) (raw : List (Option Word)) (s : State) : State :=
  let st := s.get (fGIU_PLL_STAT_state u)
  if !s.on (fGIU_PLL_CFG_en u) || st = 0 then s
  else
    let h := s.pllH u
    let g := s.gu u
    let t := s.pllNextAt u
    let s := s.reach t
    let s := s.putGu u { g with pll := { g.pll with at_ := t, asked := 0 } }
    let g := s.gu u
    let ll := s.on (fGIU_PLL_CFG_ll u)
    let ains := [s.get (fGIU_PLL_AIN_ain_a u), s.get (fGIU_PLL_AIN_ain_b u), s.get (fGIU_PLL_AIN_ain_c u)]
    let sig := g.pll.signals ll
    let ins := raw.zipIdx.map (fun (o, i) => match o with
      | some w => s.pllIn u (ains.getD i 0) w
      | none => advance (wAt g.pll.last i) (sig.getD i (0, 0)).2 g.pll.om (F32.secs h))
    let gone := raw.any (·.isNone)
    let (p, o) := s.pllStep u (st = 3) ins g.pll
    let (st', p) := pllNext st h o gone p
    let s := s.putGu u { g with pll := p }
    let s := if gone then giuErr 16 (s.incrSat (fGIU_PLL_MISS_cnt u)) else s
    let s := ((s.wr (aGIU_PLL_FREQ u) p.f).wr (aGIU_PLL_VPOS u) o.pos).wr (aGIU_PLL_VNEG u) o.ratio
    let s := s.each (s.rtMags u o).zipIdx (fun (v, i) s => s.wr (aGIU_PLL_VPH u i) v)
    let s := pllState u st' s
    let s := if o.wrap then islCycle u p.f s else s
    let (s, isl) := islStep u h s
    let was := s.get (fGIU_RT_STAT_state u)
    let s := giuLogTrip u was (seqStep u h o isl s)
    if o.wrap then giuLog u o.pos s else s

/-- The conversions of a PLL step: the reply of the ADC that waits for the input, otherwise the operand (log entry 26). -/
def State.pllReplies (s : State) (u : Nat) (l : List (Option Word)) : List (Option Word) :=
  l.zipIdx.map (fun (o, i) => (Tab.find s.giu.adc (s.get ⟨aGIU_PLL_AIN u, 8 * i, 7⟩)).getD o)

/-- PLL_STEP (R158). -/
def execPllStep (u : Fin 8) (a b c : Option (BitVec 32)) (s : State) : Host.Outcome State Fault Refusal :=
  let u := u.val
  let ains := [s.get (fGIU_PLL_AIN_ain_a u), s.get (fGIU_PLL_AIN_ain_b u), s.get (fGIU_PLL_AIN_ain_c u)]
  let l := s.pllReplies u [a, b, c]
  done (pllRun u l (s.setGiu { s.giu with adc := s.giu.adc.filter (fun x => !ains.contains x.1) }))

/-! Trackers (R182 to R184). -/

/-- Scan points and dwell in ms (R183). -/
def State.trkPts (s : State) (t : Nat) : Nat := max 8 (s.get (fGIU_TRK_CFG_n_pts t))
def State.trkDwell (s : State) (t : Nat) : Nat := min (s.get (fGIU_TRK_SCAN_CFG_dwell t)) (1000 / s.trkPts t)

/-- The voltage of scan point k (R183). -/
def State.scanV (s : State) (t k : Nat) : Word :=
  let lo := s.rd (aGIU_TRK_VMIN t)
  let hi := s.rd (aGIU_TRK_VMAX t)
  sub hi (div (mul (F32.ofInt k) (sub hi lo)) (F32.ofInt (s.trkPts t - 1 : Nat)))

/-- A scan begins (R183). -/
def scanBegin (t : Nat) (s : State) : State :=
  let x := s.trk t
  let s := s.putTrk t { x with k := 0, dwellAt := s.now, pre := s.rd (aGIU_TRK_VREF t), bestP := none, sp := 0, np := 0, req := false }
  trkState t 2 (putVref t (s.scanV t 0) s)

/-- A tracker enters TRACK; a deferred scan begins (R182, R183). -/
def trackEnter (t : Nat) (s : State) : State :=
  let x := s.trk t
  let s := trkState t 1 (s.putTrk t { x with sv := 0, si := 0, n := 0, at_ := s.now, lost := false })
  if x.req then scanBegin t s else s

/-- A scan is requested (R183). -/
def scanRequest (t : Nat) (s : State) : State :=
  match s.get (fGIU_TRK_STAT_state t) with
  | 0 => s
  | 1 => scanBegin t s
  | _ => s.putTrk t { s.trk t with req := true }

/-- MPPT_STEP (R182). -/
def mpptStep (t : Nat) (s : State) : State :=
  if s.get (fGIU_TRK_STAT_state t) ≠ 1 then s
  else
    let x := s.trk t
    let s := s.reach (x.at_ + min 1000 (max 1 (s.get (fGIU_TRK_CFG_t_trk t))) * ms)
    if x.n = 0 then s.putTrk t { x with at_ := s.now }
    else
      let v := div x.sv (F32.ofInt x.n)
      let i := div x.si (F32.ofInt x.n)
      let p : MppPar := ⟨s.rd (aGIU_TRK_VMIN t), s.rd (aGIU_TRK_VMAX t), s.rd (aGIU_TRK_STEPMIN t), s.rd (aGIU_TRK_STEPMAX t),
        s.rd (aGIU_TRK_KSTEP t), s.rd (aGIU_TRK_GEPS t)⟩
      let r := mppStep p v i x.vp x.ip (s.rd (aGIU_TRK_VREF t))
      let s := s.putTrk t { x with vp := v, ip := i, sv := 0, si := 0, n := 0, at_ := s.now }
      (putVref t r s).wr (aGIU_TRK_PWR t) (mul v i)

/-- MPPT_STEP. -/
def execMpptStep (t : Fin 16) (s : State) : Host.Outcome State Fault Refusal := done (mpptStep t.val s)

/-- TRACKER_ITEM (R182 to R184). -/
def trackerItem (t : Nat) (v i : Word) (olim safe run : Bool) (s : State) : State :=
  let st := s.get (fGIU_TRK_STAT_state t)
  if st = 0 then s
  else if olim || safe || !run then trkFreeze t (!run) s
  else
    let x := s.trk t
    let s := if st = 3 then trackEnter t (if x.lost then putVref t (s.rd (aGIU_TRK_VSTART t)) s else s) else s
    let x := s.trk t
    if s.get (fGIU_TRK_STAT_state t) = 2 then
      if x.dwellAt + s.trkDwell t * ms / 2 ≤ s.now then s.putTrk t { x with sp := add x.sp (mul v i), np := x.np + 1 } else s
    else s.putTrk t { x with sv := add x.sv v, si := add x.si i, n := x.n + 1 }

/-- TRACKER_ITEM: the item of a seal that waits on the ENG-to-GIU link, otherwise the operands (log entry 26). -/
def execTrackerItem (t : Fin 16) (v i : BitVec 32) (olim safe run : Bool) (s : State) : Host.Outcome State Fault Refusal :=
  let t := t.val
  let x := (Tab.find s.giu.items t).getD { v := v, i := i, olim := olim, safe := safe, run := run }
  done (fabSend 5 8 0 (trackerItem t x.v x.i x.olim x.safe x.run) (s.setGiu { s.giu with items := Tab.del s.giu.items t }))

/-- SCAN_START (R183): the periodic scan. -/
def scanPeriod (t : Nat) (s : State) : State :=
  if !s.on (fGIU_TRK_CFG_scan_en t) || s.get (fGIU_TRK_STAT_state t) = 0 then s
  else
    let s := s.reach (s.trk t).due
    let per := min 3600 (max 60 (s.get (fGIU_TRK_SCAN_CFG_per t)))
    scanRequest t (s.putTrk t { s.trk t with due := s.now + per * 1000 * ms })

/-- SCAN_START. -/
def execScanStart (t : Fin 16) (s : State) : Host.Outcome State Fault Refusal := done (scanPeriod t.val s)

/-- TRK_SCAN (R183). -/
def execTrkScan (r : Req) (t : Fin 16) (s : State) : Host.Outcome State Fault Refusal :=
  done (access r (aGIU_TRK_CMD t.val) true (scanRequest t.val) s)

/-- SCAN_DWELL (R183): the next point, or the end of the scan. -/
def scanDwell (t : Nat) (s : State) : State :=
  if s.get (fGIU_TRK_STAT_state t) ≠ 2 then s
  else
    let x := s.trk t
    let s := s.reach (x.dwellAt + s.trkDwell t * ms)
    let p := if x.np = 0 then 0 else div x.sp (F32.ofInt x.np)
    let better := match x.bestP with | some b => lt b p | none => true
    let x := { x with bestP := if better then some p else x.bestP, bestV := if better then s.scanV t x.k else x.bestV,
                      sp := 0, np := 0, k := x.k + 1, dwellAt := s.now }
    let s := s.putTrk t x
    if x.k < s.trkPts t then putVref t (s.scanV t x.k) s
    else
      let last := s.rd (aGIU_TRK_PWR t)
      let lim := mul last (add F32.one (F32.ofRat (s.get (fGIU_TRK_CFG_jump t)) 1000))
      let s := if lt lim (x.bestP.getD 0) then (putVref t x.bestV s).incr (fGIU_TRK_JUMP_cnt t) else putVref t x.pre s
      trackEnter t (giuIrq 7 ((s.incr (fGIU_TRK_SCAN_cnt t)).lower (fGIU_TRK_STAT_abort t)))

/-- SCAN_DWELL. -/
def execScanDwell (t : Fin 16) (s : State) : Host.Outcome State Fault Refusal := done (scanDwell t.val s)

/-! Configuration at the GIU frame (R157, R159, R173, R177, R182, R183, R192). -/

/-- A unit follows its configuration. `afd` says whether the perturbation was on before. -/
def giuUnit (u : Nat) (seqWas afdWas : Bool) (s : State) : State :=
  let en := s.on (fGIU_PLL_CFG_en u)
  let st := s.get (fGIU_PLL_STAT_state u)
  let x := s.gu u
  let s := if en && st = 0 then
      let fn := F32.ofInt (if s.on (fGIU_PLL_CFG_fnom u) then 60 else 50)
      let om := if F32.isZero x.pll.om then mul F32.twoPi fn else x.pll.om
      pllState u 1 (s.putGu u { x with pll := { x.pll with at_ := s.now, om := om, tGood := 0, low := 0, miss := 0 } })
    else if !en then pllState u 0 s else s
  let seq := s.on (fGIU_RT_CFG_en u)
  let s := if seq && !seqWas then seqState u 1 32 s else if !seq && seqWas then seqState u 2 32 s else s
  let afd := s.on (fGIU_ISL_CFG_afd u)
  let x := s.gu u
  if afd && !afdWas then s.putGu u { x with isl := { x.isl with n := 0, thAf := 0 } }
  else if !afd then s.putGu u { x with isl := { x.isl with thAf := 0 } } else s

/-- A tracker follows its configuration. -/
def giuTracker (t : Nat) (scanWas : Bool) (s : State) : State :=
  let s := s.put (fGIU_TRK_SCAN_CFG_dwell t) (s.trkDwell t)
  let en := s.on (fGIU_TRK_CFG_en t)
  let st := s.get (fGIU_TRK_STAT_state t)
  let s := if en && st = 0 then trackEnter t (putVref t (s.rd (aGIU_TRK_VSTART t)) s)
    else if !en && st ≠ 0 then trkState t 0 s else s
  if s.on (fGIU_TRK_CFG_scan_en t) && !scanWas then
    s.putTrk t { s.trk t with due := s.now + min 3600 (max 60 (s.get (fGIU_TRK_SCAN_CFG_per t))) * 1000 * ms }
  else s

/-- What a commit of the GIU brings with it: `o` is the state before the values applied. -/
def giuConfig (o s : State) : State :=
  let s := s.each (List.range 8) (fun u => giuUnit u (o.on (fGIU_RT_CFG_en u)) (o.on (fGIU_ISL_CFG_afd u)))
  s.each (List.range 16) (fun t => giuTracker t (o.on (fGIU_TRK_CFG_scan_en t)))

/-- A GIU frame (R192, R193). -/
def giuFrame (s : State) : State := s.incr fGIU_FRAME_CNT_cnt

/-! Records to contexts (R161). -/

/-- The value of quantity q of unit u for context k at an instant (R161). -/
def State.giuValue (s : State) (u q k t : Nat) : Word :=
  let x := s.gu u
  let p := x.pll
  match q with
  | 0 =>
    let af := if s.gridOwner u == some k then x.isl.thAf else 0
    -- `th` stands at the end of the last step, one period after its instant (log entry 27)
    wrap0 (add (add p.th (mul p.om (sub (F32.secs (t - p.at_ : Nat)) (F32.secs (s.pllH u))))) af)
  | 1 => p.f
  | 2 => p.vd
  | 3 => p.vq
  | _ => BitVec.ofNat 32 (x.rt.told.getD (s.get (fGIU_RT_STAT_state u)))

/-- The GIU's records for a sample instant of a context (R161). Units that are OFF send none. -/
def giuRecords (k t : Nat) (s : State) : State :=
  if !s.isRun 8 then s
  else
    let js := (List.range 16).filter (fun j => s.slotType k j == 4)
    let s := s.each js (fun j s =>
      let i := s.slotInst k j
      let q := s.slotSel k j % 16
      if i < 8 then
        if s.get (fGIU_PLL_STAT_state i) = 0 then s
        else sendEng { src := 3, inst := i, sel := q, raw := s.giuValue i q k t, ctx := some k } s
      else sendEng { src := 3, inst := i, sel := q, raw := s.rd (aGIU_TRK_VREF (i - 8)), ctx := some k } s)
    s.each (((js.filter (fun j => s.giuSlot k j 4)).map (s.slotInst k)).filter (· < 8)) (fun u s =>
      let x := s.gu u
      s.putGu u { x with rt := { x.rt with told := none } })

end Sys2Proof.Machine
end

