-- ==== Sys2Proof/Machine/Feedback.lean ====
section
/-! DEFINITION. The feedback interfaces (13_feedback_and_aux_axes.md R445 to R453, R463, R464). Readings the rules leave open
stand in log entry 30. -/
namespace Sys2Proof.Machine
open F32 (add sub mul div)

/-- A feedback channel, a resolver channel, an emulation output. -/
def State.fb (s : State) (c : Nat) : FbSt := Tab.get {} s.fbs c
def State.putFb (s : State) (c : Nat) (x : FbSt) : State := s.setFbs (Tab.set {} s.fbs c x)
def State.res (s : State) (n : Nat) : ResSt := Tab.get {} s.ress n
def State.putRes (s : State) (n : Nat) (x : ResSt) : State := s.setRess (Tab.set {} s.ress n x)
def State.emu (s : State) (e : Nat) : EmuSt := Tab.get {} s.emus e
def State.putEmu (s : State) (e : Nat) (x : EmuSt) : State := s.setEmus (Tab.set {} s.emus e x)

/-- An error bit and an interrupt source of the FBI. -/
def fbErr (i : Nat) (s : State) : State := s.errSet 0x40080000 i
def fbIrq (i : Nat) (s : State) : State := s.irq 0x40080000 i

/-! Encoder emulation (R453). -/

/-- The position of an emulation source: 0 to 15 channels, 16 to 23 resolvers. -/
def State.emuSrcPos (s : State) (src : Nat) : Nat :=
  if src < 16 then s.get (fFB_POS_pos src) else s.get (fFB_RES_POS_pos (src - 16))

/-- Counts enter the backlog; those beyond its range are dropped (R453). -/
def emuBacklog (e : Nat) (n : Int) (s : State) : State :=
  let b := sext 16 (s.get (fFB_EMU_BACKLOG_bl e)) + n
  let c := clampI (-32768) 32767 b
  let s := s.put (fFB_EMU_BACKLOG_bl e) (lowBits 16 c)
  if b = c then s else fbIrq 7 (fbErr 18 (s.addSat (fFB_EMU_LOSS_cnt e) (b - c).natAbs))

/-- A source's position has changed: each output that follows it takes the change (R453). -/
def emuFeed (src : Nat) (s : State) : State :=
  s.each [0, 1, 2, 3] (fun e s =>
    if s.get (fFB_EMU_CFG_src e) ≠ src then s
    else
      let x := s.emu e
      let p := s.emuSrcPos src
      let d := sext 32 (lowBits 32 ((p : Int) - x.srcPos))
      if !s.on (fFB_EMU_CFG_en e) then s.putEmu e { x with srcPos := p }
      else
        let acc := x.rem + d * s.get (fFB_EMU_RATIO_num e)
        let den := max 1 (s.get (fFB_EMU_RATIO_den e))
        emuBacklog e (acc.tdiv den) (s.putEmu e { x with srcPos := p, rem := acc.tmod den }))

/-- One quadrature edge of an output (R453), at the earliest `gap` after the edge before it. -/
def emuEdge (e : Nat) (s : State) : State :=
  let b := sext 16 (s.get (fFB_EMU_BACKLOG_bl e))
  if !s.on (fFB_EMU_CFG_en e) || b = 0 then s
  else
    let x := s.emu e
    let s := match x.lastEdge with | some t => s.reach (t + max 1 (s.get (fFB_EMU_CFG_gap e)) * ns10) | none => s
    let d : Int := if 0 < b then 1 else -1
    let fwd := (0 < b) != s.on (fFB_EMU_CFG_swap e)
    let (qa, qb) := if fwd then (!x.b, x.a) else (x.b, !x.a)
    let p := lowBits 32 (sext 32 (s.get (fFB_EMU_POS_pos e)) + d)
    let zp := s.get (fFB_EMU_ZPER_z_per e)
    let z := zp ≠ 0 && (sext 32 p) % (max 1 zp : Nat) = 0
    let s := (s.put (fFB_EMU_POS_pos e) p).put (fFB_EMU_BACKLOG_bl e) (lowBits 16 (b - d))
    s.putEmu e { x with a := qa, b := qb, z := z, lastEdge := some s.now }

/-- EMULATION_EDGE (R453). -/
def execEmulationEdge (e : Fin 4) (s : State) : Host.Outcome State Fault Refusal := done (emuEdge e.val s)

/-- The level of an emulation output: low while it is disabled or the island is not in RUN (R453, R462, R468). -/
def State.emuPins (s : State) (e : Nat) : Bool × Bool × Bool :=
  let x := s.emu e
  if s.on (fFB_EMU_CFG_en e) && s.isRun 10 then (x.a, x.b, x.z) else (false, false, false)

/-! Encoder and Hall channels (R445 to R448). -/

/-- The counter of a channel takes a position. -/
def putPos (c p : Nat) (s : State) : State := emuFeed c (s.put (fFB_POS_pos c) p)

/-- A count of a channel, forward or backward, at time t (R445). -/
def fbCount (c t : Nat) (fwd : Bool) (s : State) : State :=
  let f := fwd != s.on (fFB_CFG_swap c)
  let d : Int := if f then 1 else -1
  let x := s.fb c
  let s := s.putFb c { x with edges := x.edges + d, lastEdge := some t }
  let s := (s.putB (fFB_STAT_dir c) (!f)).wr (aFB_EDGE_TIME c) (BitVec.ofNat 32 (lowTicks t))
  putPos c (lowBits 32 (sext 32 (s.get (fFB_POS_pos c)) + d)) s

/-- A counting error (R446, R447). -/
def fbBad (c : Nat) (f : Fld) (s : State) : State :=
  fbIrq 5 (fbErr 16 ((s.raise f).incrSat (fFB_STAT_qerr_cnt c)))

/-- The place of a Hall code in the forward sequence 1, 3, 2, 6, 4, 5 (R447). -/
def hallPlace (h : Nat) : Option Nat :=
  match h with | 1 => some 0 | 3 => some 1 | 2 => some 2 | 6 => some 3 | 4 => some 4 | 5 => some 5 | _ => none

/-- A Hall code. -/
def hallCode (u v w : Bool) : Nat := u.toNat + 2 * v.toNat + 4 * w.toNat

/-- An index event (R448, R463): the count is latched, then the counter may be loaded; an arm in the same sample is not yet
in force. -/
def indexEvent (c t : Nat) (s : State) : State :=
  let s := (s.wr (aFB_IDX_LATCH c) (s.rd (aFB_POS c))).incr (fFB_STAT_idx_cnt c)
  let s := fbIrq 4 s
  let load (s : State) : State := putPos c (s.get (fFB_IDX_VAL_val c)) s
  let fresh := match (s.fb c).armAt with | some a => a / ns10 == t / ns10 | none => false
  match s.get (fFB_CFG_idx_mode c) with
  | 1 => load s
  | 2 => if s.on (fFB_STAT_armed c) && !fresh then (load s).lower (fFB_STAT_armed c) |>.raise (fFB_STAT_idx_done c) else s
  | _ => s

/-- The level of Z after an active edge: high counting forward with zpol = 0 (R448). -/
def State.idxLevel (s : State) (c : Nat) : Bool := (!s.on (fFB_STAT_dir c)) != s.on (fFB_CFG_zpol c)

/-- New filtered levels of a channel's inputs at time t (R446 to R448): the edge counts first, then the index acts (R463). -/
def encoderEdge (c : Nat) (a b z : Bool) (t : Nat) (s : State) : State :=
  let x := s.fb c
  let mode := s.get (fFB_CFG_mode c)
  let ok := match x.prevEdge with | some p => p + (s.get (fFB_CFG_filt c) + 1) * ns10 ≤ t | none => true
  let ca := a != x.a
  let cb := b != x.b
  let s := s.putFb c { x with a := a, b := b, z := z, prevEdge := if ca || cb || (mode = 3 && z != x.z) then some t else x.prevEdge }
  let s := match mode with
    | 1 =>
      if ca && cb then fbBad c (fFB_STAT_qerr c) s
      else if (ca || cb) && ok then fbCount c t (if ca then a != b else a == b) s
      else s
    | 2 => if ca && a && ok then fbCount c t b s else s
    | 3 =>
      let h0 := hallCode x.a x.b x.z
      let h1 := hallCode a b z
      let s := s.put (fFB_STAT_hall c) h1
      if h0 = h1 then s
      else match hallPlace h0, hallPlace h1 with
        | _, none => fbBad c (fFB_STAT_hall_err c) s
        | none, some _ => s
        | some p, some q =>
          if q = (p + 1) % 6 then (if ok then fbCount c t true s else s)
          else if p = (q + 1) % 6 then (if ok then fbCount c t false s else s)
          else fbBad c (fFB_STAT_hall_err c) s
    | _ => s
  if (mode = 1 || mode = 2) && z != x.z && z = s.idxLevel c then indexEvent c t s else s

/-- ENCODER_EDGE (R446, R447). -/
def execEncoderEdge (c : Fin 16) (a b z : Bool) (t : Nat) (s : State) : Host.Outcome State Fault Refusal :=
  done (let s := s.reach t
        if s.isRun 10 then encoderEdge c.val a b z t s else s)

/-- INDEX_EVENT (R448): Z makes its active edge now. -/
def execIndexEvent (c : Fin 16) (s : State) : Host.Outcome State Fault Refusal :=
  let c := c.val
  let m := s.get (fFB_CFG_mode c)
  done (if s.isRun 10 && (m = 1 || m = 2) then indexEvent c s.now (s.putFb c { s.fb c with z := s.idxLevel c }) else s)

/-- FB[c]_CMD.arm (R448, R463). -/
def fbArm (c : Nat) (s : State) : State := (s.putFb c { s.fb c with armAt := some s.now }).raise (fFB_STAT_armed c)
/-- FB[c]_CMD.clr (R466). -/
def fbClr (c : Nat) (s : State) : State :=
  ((s.lower (fFB_STAT_qerr c)).lower (fFB_STAT_hall_err c)).lower (fFB_STAT_idx_done c)
/-- FB[c]_CMD.preset (R466). -/
def fbPreset (c : Nat) (s : State) : State := putPos c (s.get (fFB_IDX_VAL_val c)) s

/-- A write of FB[c]_CMD (R466). -/
def fbCmd (c : Nat) (d : Word) (s : State) : State :=
  ((s.when (d.fld 1 1 == 1) (fbClr c)).when (d.fld 0 1 == 1) (fbPreset c)).when (d.fld 2 1 == 1) (fbArm c)

/-- FB_ARM (R448). -/
def execFbArm (r : Req) (c : Fin 16) (s : State) : Host.Outcome State Fault Refusal :=
  done (access r (aFB_CMD c.val) true (fbCmd c.val 4) s)
/-- FB_CLR (R466). -/
def execFbClr (r : Req) (c : Fin 16) (s : State) : Host.Outcome State Fault Refusal :=
  done (access r (aFB_CMD c.val) true (fbCmd c.val 2) s)
/-- FB_PRESET (R466). -/
def execFbPreset (r : Req) (c : Fin 16) (s : State) : Host.Outcome State Fault Refusal :=
  done (access r (aFB_CMD c.val) true (fbCmd c.val 1) s)

/-! Resolver channels (R451, R452). -/

/-- The excitation frequency of a resolver in Hz (12_analog_acquisition.md R438). -/
def State.excHz (s : State) (n : Nat) : Nat := 10 * near 200 2000 (s.get (fADC_EXC_CFG_freq (n / 2) (n % 2)))
/-- Three excitation periods in fine ticks. -/
def State.exc3 (s : State) (n : Nat) : Nat := 3 * 12800000000 / s.excHz n

/-- Counts per radian: 65,536 per signal period (R451). -/
def countScale : Word := div (F32.ofInt 65536) F32.twoPi

/-- Is a resolver channel valid (R452)? -/
def State.resValid (s : State) (n : Nat) : Bool :=
  let x := s.res n
  s.on (fFB_RES_CFG_en n) && !s.on (fFB_RES_STAT_los n) && !s.on (fFB_RES_STAT_stale n) &&
    (match x.arrAt with | some t => decide (s.now ≤ t + s.exc3 n) | none => false)

/-- The position and the speed of a resolver are shown (R451). -/
def resShow (n : Nat) (s : State) : State :=
  let x := s.res n
  let p := x.turns * 65536 + F32.toInt (mul x.phi countScale)
  let s := s.wr (aFB_RES_SPD n) (mul x.omega countScale)
  emuFeed (16 + n) (s.put (fFB_RES_POS_pos n) (lowBits 32 p))

/-- One step of the tracking loop (R451): its state and e. -/
def State.resLoop (s : State) (n : Nat) (sn cs : Word) (x : ResSt) : ResSt × Word :=
  let tx := F32.ofRat 1 (s.excHz n)
  let e := div (sub (mul sn (Config.cos32 x.phi)) (mul cs (Config.sin32 x.phi))) (F32.sqrt (add (mul sn sn) (mul cs cs)))
  let om := add x.omega (mul (mul tx (s.rd (aFB_RES_KI n))) e)
  let ph := add x.phi (mul tx (add om (mul (s.rd (aFB_RES_KP n)) e)))
  let w := F32.wrap ph
  let k : Int := if F32.lt F32.pi ph then 1 else if F32.le ph (F32.negate F32.pi) then -1 else 0
  ({ x with omega := om, phi := w, turns := x.turns + k }, e)

/-- An envelope arrives (R451, R452). -/
def envelope (n : Nat) (v : Envelope) (s : State) : State :=
  if !s.on (fFB_RES_CFG_en n) then s
  else
    let x := { s.res n with envAt := v.t, arrAt := some s.now }
    let s := (s.putRes n x).lower (fFB_RES_STAT_stale n)
    if v.los then
      if s.on (fFB_RES_STAT_los n) then s
      else fbIrq 6 (fbErr 17 ((s.raise (fFB_RES_STAT_los n)).incrSat (fFB_RES_STAT_los_cnt n)))
    else
      let s := s.lower (fFB_RES_STAT_los n)
      let (a, b) := if s.on (fFB_RES_CFG_swap n) then (v.c, v.s) else (v.s, v.c)
      let sn := F32.ofInt a
      let cs := F32.ofInt b
      if !x.started then
        resShow n (s.putRes n { x with started := true, phi := Config.atan232 sn cs, omega := 0, turns := 0, inRun := 0 })
      else
        let (x, e) := s.resLoop n sn cs x
        let small := F32.lt (F32.abs e) (F32.dec 2 100)
        let k := if small then min 64 (x.inRun + 1) else 0
        let s := s.putRes n { x with inRun := k }
        let s := if F32.lt (F32.dec 1 10) (F32.abs e) then s.lower (fFB_RES_STAT_lock n)
          else if 64 ≤ k then s.raise (fFB_RES_STAT_lock n) else s
        resShow n s

/-- RESOLVER_ENVELOPE (R451): the envelope that waits on the path from the ADC, otherwise the operand (log entry 26). -/
def execResolverEnvelope (n : Fin 8) (sn cs : Int) (los : Bool) (t : Nat) (s : State) : Host.Outcome State Fault Refusal :=
  let n := n.val
  done (if !s.isRun 10 then s
    else match (s.res n).rx with
      | some v => envelope n v (s.putRes n { s.res n with rx := none })
      | none => envelope n { s := sn, c := cs, los := los, t := t } (s.reach t))

/-- RESOLVER_STALE (R452): three excitation periods have passed without an envelope. -/
def execResolverStale (n : Fin 8) (s : State) : Host.Outcome State Fault Refusal :=
  let n := n.val
  done (if !s.isRun 10 || !s.on (fFB_RES_CFG_en n) then s
    else match (s.res n).arrAt with
      | some t => (s.reach (t + s.exc3 n + 1)).raise (fFB_RES_STAT_stale n)
      | none => s.raise (fFB_RES_STAT_stale n))

/-! Captures (R449, R450). -/

/-- The speed of a capture at t (R450). The speed is open where the channel had no edge at its previous capture. -/
def State.capSpeed (s : State) (c t : Nat) : Word × State :=
  let x := s.fb c
  match x.hasCap, x.lastEdge with
  | false, _ => (0, s)
  | true, none => (0, s)
  | true, some te =>
    if max 1 (s.get (fFB_SPD_CFG_t_zero c)) * 10 * us < t - te then (0, s)
    else if x.edges ≠ x.capEdges then
      match x.capEdge with
      | some t0 => if t0 = te then s.freeWord else (div (F32.ofInt (x.edges - x.capEdges)) (F32.secs ((te : Int) - t0)), s)
      | none => s.freeWord
    else if t = te then (x.lastSpd, s)
    else (F32.lim (div F32.one (F32.secs ((t : Int) - te))) x.lastSpd, s)

/-- A capture of a feedback channel at t (R449). -/
def fbCapture (c t : Nat) (s : State) : State :=
  let (v, s) := s.capSpeed c t
  let x := s.fb c
  let s := s.putFb c { x with hasCap := true, capEdge := x.lastEdge, capEdges := x.edges, lastSpd := v }
  ((s.wr (aFB_CAP_POS c) (s.rd (aFB_POS c))).wr (aFB_CAP_SPD c) v).wr (aFB_CAP_TIME c) (BitVec.ofNat 32 (lowTicks t))

/-- A capture of a resolver channel at t (R451). -/
def resCapture (n t : Nat) (s : State) : State :=
  let x := s.res n
  let spd := mul x.omega countScale
  let adv := F32.toInt (mul spd (F32.secs ((t : Int) - x.envAt)))
  let s := s.wr (aFB_RES_CAP_POS n) (BitVec.ofNat 32 (lowBits 32 (sext 32 (s.get (fFB_RES_POS_pos n)) + adv)))
  (s.wr (aFB_RES_CAP_SPD n) spd).wr (aFB_RES_CAP_TIME n) (BitVec.ofNat 32 (lowTicks t))

/-- A capture of channel i: 0 to 15 feedback, 16 to 23 resolver. -/
def capture (i t : Nat) (s : State) : State := if i < 16 then fbCapture i t s else resCapture (i - 16) t s

/-- The FBI's captures and records for a sample instant of a context (R449). -/
def fbiRecords (k t : Nat) (s : State) : State :=
  if !s.isRun 10 then s
  else
    let js := (List.range 16).filter (fun j => s.slotType k j == 3 && decide (s.slotInst k j < 24))
    let s := s.each ((js.map (s.slotInst k)).eraseDups) (fun i => capture i t)
    s.each js (fun j s =>
      let i := s.slotInst k j
      let q := s.slotSel k j % 2
      let bad := if i < 16 then s.get (fFB_CFG_mode i) = 0 else !s.resValid (i - 16)
      let v := if i < 16 then s.rd (if q = 0 then aFB_CAP_POS i else aFB_CAP_SPD i)
        else s.rd (if q = 0 then aFB_RES_CAP_POS (i - 16) else aFB_RES_CAP_SPD (i - 16))
      sendEng { src := 2, inst := i, sel := q, raw := v, bad := bad, ctx := some k } s)

/-- Captures at a period start of a timebase group (R449). -/
def fbiPeriod (g t : Nat) (s : State) : State :=
  if !s.isRun 10 then s
  else
    let s := s.each (List.range 16) (fun c s =>
      if s.on (fFB_CFG_cap_en c) && s.get (fFB_CFG_cap_tbg c) = g then fbCapture c t s else s)
    s.each (List.range 8) (fun n s =>
      if s.on (fFB_RES_CFG_cap_en n) && s.get (fFB_RES_CFG_cap_tbg n) = g then resCapture n t s else s)

/-! Configuration (R452, R453, R464). -/

/-- What a commit of the FBI brings with it: `o` is the state before the values applied. -/
def fbiConfig (o s : State) : State :=
  let s := s.each (List.range 16) (fun c s =>
    if s.get (fFB_CFG_mode c) = o.get (fFB_CFG_mode c) then s
    else
      let x := s.fb c
      putPos c 0 (s.putFb c { x with edges := 0, lastEdge := none, hasCap := false, capEdge := none, capEdges := 0, lastSpd := 0 }))
  let s := s.each (List.range 8) (fun n s =>
    if s.on (fFB_RES_CFG_en n) && !o.on (fFB_RES_CFG_en n) then
      s.putRes n { s.res n with started := false, omega := 0, arrAt := none, inRun := 0 }
    else s)
  s.each [0, 1, 2, 3] (fun e s =>
    let src := s.get (fFB_EMU_CFG_src e)
    let x := s.emu e
    let x := if src ≠ o.get (fFB_EMU_CFG_src e) then { x with srcPos := s.emuSrcPos src } else x
    let x := if src ≠ o.get (fFB_EMU_CFG_src e) || s.rd (aFB_EMU_RATIO e) ≠ o.rd (aFB_EMU_RATIO e) then { x with rem := 0 } else x
    s.putEmu e x)

/-- The FBI island is reset (R462). -/
def fbiReset (s : State) : State := ((s.setFbs []).setRess []).setEmus []

end Sys2Proof.Machine
end

