-- ==== Sys2Proof/Machine/PtaCommands.lean ====
section
/-! DEFINITION. Commands of Thyme and the PTA (06_thyme_and_pwm.md). TBG_BOUNDARY stands in BoundaryCommands.lean. -/
namespace Sys2Proof.Machine

/-- A register access whose effect is one operation; Sage handles what it caused. -/
def cmdAt (r : Req) (a : Nat) (k : State → State) (s : State) : Host.Outcome State Fault Refusal := done (access r a true k s)

/-- The Thyme time banks of a requester (R201). -/
def latchNow (r : Req) (s : State) : State :=
  let t := s.now / 32
  let s := (s.wr (bank r aTHY_NOW_HI) (BitVec.ofNat 32 (t / 2 ^ 32))).wr (bank r aTHY_NOW_FINE) (BitVec.ofNat 32 (s.now % 32))
  busOk r (BitVec.ofNat 32 t) s

/-- THY_NOW_READ (R201). -/
def execThyNowRead (r : Req) (s : State) : Host.Outcome State Fault Refusal :=
  done (access r aTHY_NOW_LO false (latchNow r) s)

/-- TBG_START (R203). -/
def execTbgStart (r : Req) (g : Fin 32) (s : State) : Host.Outcome State Fault Refusal :=
  cmdAt r (aTBG_CMD g.val) (startGroup g.val) s

/-- TBG_STOP (R204). -/
def execTbgStop (r : Req) (g : Fin 32) (s : State) : Host.Outcome State Fault Refusal :=
  cmdAt r (aTBG_CMD g.val) (stopGroup g.val) s

/-- The hand-off of a group at its moment (R211, R214); nothing without one. -/
def handOffAt (g : Nat) (s : State) : State :=
  if s.tbgRun g then match (s.tbg g).handAt with | some h => handOff g (s.reach h) | none => s else s

/-- HAND_OFF (R212). -/
def execHandOff (g : Fin 32) (s : State) : Host.Outcome State Fault Refusal := done (handOffAt g.val s)

/-- The boundary of a running group at its moment (R213), after its hand-off. -/
def boundaryAt (g : Nat) (s : State) : State :=
  if s.tbgRun g then
    let s := s.reach (s.tbg g).nextB
    boundary g (if (s.tbg g).taken.isEmpty then handOff g s else s)
  else s

/-- Has a group's hand-off point come without its hand-off (R211)? -/
def State.handDue (s : State) (g : Nat) : Bool :=
  s.tbgRun g && (match (s.tbg g).handAt with | some h => decide (h ≤ s.now) | none => false)

/-- What a write of a TBG or LEG field, or a COMMIT, in the cycle of H(B) meets: the hand-off comes first, and the write counts for
the following boundary (R211, R229). -/
def handFirst (a : Nat) (s : State) : State :=
  match tbgAt a, legAt a with
  | some g, _ => s.when (s.handDue g) (handOff g)
  | _, some n => s.when (s.handDue (s.legHome n)) (handOff (s.legHome n))
  | _, _ => s

/-- TBG_COMMIT (R221, R223, R586). -/
def execTbgCommit (r : Req) (g : Fin 32) (gen : Fin 256) (s : State) : Host.Outcome State Fault Refusal :=
  cmdAt r (aTBG_COMMIT g.val) (fun s => tbgCommitGo g.val gen.val (handFirst (aTBG_COMMIT g.val) s)) s

/-- TBG_COMMIT_ABORT (R218, R587). -/
def execTbgCommitAbort (r : Req) (g : Fin 32) (s : State) : Host.Outcome State Fault Refusal :=
  cmdAt r (aTBG_COMMIT g.val) (fun s => tbgCommitAbort g.val (handFirst (aTBG_COMMIT g.val) s)) s

/-- A write of a leg's compare values to a kernel-driven group (R217). -/
def krnWrite (n : Nat) (s : State) : State := (s.raise (fLEG_STAT_krn_wr n)).errSet 0x40020000 17

/-- The leg was written behind a hand-off point that took a commit of its group (R211, R220). -/
def markRewritten (n : Nat) (s : State) : State :=
  if s.inFlight (s.legHome n) then s.putLeg n { s.leg n with rewr := true } else s

/-- A write of a compare register (R217, R219, R220, R222): the shadow of DIRECT or COHERENT mode. -/
def cmpWrite (n a : Nat) (v : Word) (s : State) : State :=
  let g := s.legHome n
  let m : Word := 0x1FFFFFFF
  if s.kern g then krnWrite n s
  else
    let s := poke a (~~~m) v s
    if s.coherent g then
      let s := s.setCmt (Tab.set {} s.cmt a ((Tab.get {} s.cmt a).put m v))
      markRewritten n ((s.raise (fLEG_CMP_GEN_dirty n)).lower (fLEG_CMP_GEN_tagged n))
    else if s.tbgRun g then s.setBnd (Tab.set {} s.bnd a ((Tab.get {} s.bnd a).put m v))
    else byKern a false (poke a m v s)

/-- The address of a compare register. -/
def cmpAddr (n : Nat) : CmpReg → Nat
  | .on => aLEG_CMP_ON n | .off => aLEG_CMP_OFF n | .lon => aLEG_LCMP_ON n | .loff => aLEG_LCMP_OFF n

/-- COMPARE_WRITE (R220). -/
def execCompareWrite (r : Req) (n : Fin 128) (w : CmpReg) (v : BitVec 32) (s : State) : Host.Outcome State Fault Refusal :=
  cmdAt r (cmpAddr n.val w) (fun s => cmpWrite n.val (cmpAddr n.val w) v (handFirst (cmpAddr n.val w) s)) s

/-- A write of LEG[n]_CMP_GEN (R217, R219, R220). -/
def cmpGen (n gen : Nat) (s : State) : State :=
  let g := s.legHome n
  if s.kern g then krnWrite n s
  else if s.coherent g then
    markRewritten n (((s.put (fLEG_CMP_GEN_gen n) gen).raise (fLEG_CMP_GEN_tagged n)).lower (fLEG_CMP_GEN_dirty n))
  else s

/-- CMP_GEN_WRITE (R220). -/
def execCmpGenWrite (r : Req) (n : Fin 128) (gen : Fin 256) (s : State) : Host.Outcome State Fault Refusal :=
  cmdAt r (aLEG_CMP_GEN n.val) (fun s => cmpGen n.val gen.val (handFirst (aLEG_CMP_GEN n.val) s)) s

/-- COMPARE_SET (R217): the oldest set on the ENG-to-PTA link for the group arrives; a PTA not in RUN answers ABSENT and the set is not
delivered (02_islands_and_credits.md R48, R54). -/
def execCompareSet (g : Fin 32) (s : State) : Host.Outcome State Fault Refusal :=
  let t := s.tbg g.val
  done (match t.wire with
    | [] => s
    | x :: r =>
      fabSend 5 6 0 (fun s => s.putTbg g.val { s.tbg g.val with sets := t.sets ++ [x] }) (s.putTbg g.val { t with wire := r }))

/-- FINE_CALIBRATION (R198, R200, R234). -/
def execFineCalibration (taps : Fin 128) (ok : Bool) (s : State) : Host.Outcome State Fault Refusal :=
  let s := (s.put fTHY_FCAL_taps taps.val).putB fTHY_FCAL_ok ok
  let s := (s.putB (hStat 0x40020000 8) ok).lower (hStat 0x40020000 9)
  done (if ok then s else (s.errSet 0x40020000 18).sageEvt 41 .none)

end Sys2Proof.Machine
end

