-- ==== Sys2Proof/Machine/TripCommands.lean ====
section
/-! DEFINITION. Commands of trips and safe states (07_trips_and_leg_protection.md; active discharge,
09_sage_and_safe_states.md R346). -/
namespace Sys2Proof.Machine

/-- A leg's own source as leg and number (R238). -/
def satSrcOf : TripSrc → Option (Nat × Nat)
  | .routed _ => none
  | .desatH n => some (n.val, 0) | .desatL n => some (n.val, 1) | .uvloH n => some (n.val, 2)
  | .uvloL n => some (n.val, 3) | .ot n => some (n.val, 4)

/-- A fast comparator asserts only while it is enabled and PD_ADC is powered (12_analog_acquisition.md R436, R437), and not
during a test of its island (16_rosemary_and_selftest.md R549). -/
def State.srcPresent (s : State) (i : Nat) : Bool :=
  let w := s.warden 9
  if 16 ≤ i && i < 32 then s.on (fADC_FC_CFG_en (i - 16)) && !w.pdown && !(w.st == .absent && w.purpose == .test) else true

/-- A source becomes asserted and acts (R241); one that is asserted already does not become so again. -/
def sourceOn (x : TripSrc) (s : State) : State :=
  match x, satSrcOf x with
  | .routed i, _ => if s.routedOn i.val || !s.srcPresent i.val then s else actRouted i.val (s.putBit (aTHY_TRIP_LVL 0) i.val true)
  | _, some (n, i) => setSatSrc n i true false s
  | _, none => s

/-- TRIP_SOURCE_ASSERT (R241). -/
def execTripSourceAssert (x : TripSrc) (s : State) : Host.Outcome State Fault Refusal := done (sourceOn x s)

/-- TRIP_SOURCE_RELEASE (R250). -/
def execTripSourceRelease (x : TripSrc) (s : State) : Host.Outcome State Fault Refusal :=
  let s := match x, satSrcOf x with
    | .routed i, _ => s.putBit (aTHY_TRIP_LVL 0) i.val false
    | _, some (n, i) => setSatSrc n i false false s
    | _, none => s
  done (armedStopped s)

/-- BLANKING_END (R243): the leg's window closes, and a source that waited and is still asserted acts. -/
def execBlankingEnd (n : Fin 128) (s : State) : Host.Outcome State Fault Refusal :=
  let s := match s.blankUntil n.val with | some t => s.reach t | none => s
  done (if (s.leg n.val).blankWait then reAct n.val true (s.putLeg n.val { s.leg n.val with blankWait := false }) else s)

/-- TRIP_CLEAR (R249). -/
def execTripClear (r : Req) (n : Fin 128) (s : State) : Host.Outcome State Fault Refusal :=
  cmdAt r (aLEG_TRIP_CLR n.val) (clrLeg n.val) s

/-- A deferred clear of a leg is armed (R250). -/
def armLeg (n : Nat) (s : State) : State :=
  let s := s.raise (fLEG_TRIP_STAT_armed n)
  if s.tbgRun (s.legTbg n) then s else armedLeg n s

/-- TRIP_CLEAR_ARM (R250). -/
def execTripClearArm (r : Req) (n : Fin 128) (s : State) : Host.Outcome State Fault Refusal :=
  cmdAt r (aLEG_TRIP_CLR n.val) (armLeg n.val) s

/-- MG_TRIP_CLEAR (R249). -/
def execMgTripClear (r : Req) (m : Fin 32) (s : State) : Host.Outcome State Fault Refusal :=
  cmdAt r (aMG_TRIP_CLR m.val) (clrMg m.val) s

/-- A deferred clear of a group is armed (R250). -/
def armMg (m : Nat) (s : State) : State := s.raise (fMG_TRIP_STAT_armed m)

/-- MG_TRIP_CLEAR_ARM (R250). -/
def execMgTripClearArm (r : Req) (m : Fin 32) (s : State) : Host.Outcome State Fault Refusal :=
  cmdAt r (aMG_TRIP_CLR m.val) (armMg m.val) s

/-- DEFERRED_CLEAR (R250): at the boundary of the leg's group, or the THY frame for a group. -/
def execDeferredClear (t : ClrTarget) (s : State) : Host.Outcome State Fault Refusal :=
  done (match t with
    | .leg n =>
      let g := s.legTbg n.val
      if !s.on (fLEG_TRIP_STAT_armed n.val) then s
      else armedLeg n.val (if s.on (fTBG_STAT_run g) && s.now / 32 ≠ (s.tbg g).b / 32 then s.reach (s.tbg g).nextB else s)
    | .group m =>
      if !s.on (fMG_TRIP_STAT_armed m.val) then s
      else armedMg m.val (s.reach ((s.now + frame10 - 1) / frame10 * frame10)))

/-! Commands of MG[m]_SAFE_CMD (R257). -/

/-- A refused command. -/
def safeRefuse (m : Nat) (s : State) : State := (s.raise (fMG_TRIP_STAT_cmd_ref m)).raise (fMG_IRQ_RAW_cmd_ref m)

/-- An accepted command. -/
def safeAccept (m : Nat) (s : State) : State := s.lower (fMG_TRIP_STAT_cmd_ref m)

/-- PULSE-OFF by software. -/
def softPulseOff (m : Nat) (s : State) : State := applyRequest m 3 0 0xFF (safeAccept m s)

/-- ASC by software. -/
def softAsc (m : Nat) (s : State) : State :=
  if s.mgType m = 2 then safeRefuse m s else applyRequest m 1 0 0xFF (safeAccept m s)

/-- PULSE_OFF (R257). -/
def execPulseOff (r : Req) (m : Fin 32) (s : State) : Host.Outcome State Fault Refusal :=
  cmdAt r (aMG_SAFE_CMD m.val) (softPulseOff m.val) s

/-- ASC (R257). -/
def execAsc (r : Req) (m : Fin 32) (s : State) : Host.Outcome State Fault Refusal :=
  cmdAt r (aMG_SAFE_CMD m.val) (softAsc m.val) s

/-- The electrical frequency of a machine context exceeds 5 Hz: sealed speed times pole pairs over 2π
(04_machine_control.md R117, R120, R122). -/
def State.turning (s : State) (k : Nat) : Bool :=
  let pp := min 32 (max 1 (F32.floor (s.cw k 0x110)).toNat)
  let f := F32.div (F32.mul (F32.abs (s.cw k 0x784)) (F32.ofInt pp)) F32.twoPi
  !F32.le f (F32.ofInt 5)

/-- Does R346 refuse a discharge of a mode (1 WINDING, 2 BLEED)? -/
def State.disRefused (s : State) (m mode : Nat) : Bool :=
  let allow := if mode = 1 then s.on (fSAGE_DIS_CFG_w_ok m) else s.on (fSAGE_DIS_CFG_b_ok m)
  let both := !s.on (fSAGE_DIS_CFG_en m) || !allow || !s.portUp (s.get (fSAGE_DIS_SRC_port m))
  if mode = 1 then
    both || s.mgType m ≠ 1 ||
      -- exactly one K_PMSM context in RUN drives the group
      (match (s.ctxOfMg m).filter (fun k => s.cKid k == 1 && (s.ctx k).st == .run) with
       | [k] => s.turning k
       | _ => true)
  else
    let n := s.get (fSAGE_DIS_CFG_bleed m)
    both || !(s.legEn n && s.legMg n == m && (s.legMode n == 1 || s.legMode n == 2)) || !s.bootOk n

/-- Legs take their hold off at a boundary: FORCE with pattern 0b11 and that end, one for each port and boundary (R296). -/
def releaseAt (ls : List (Nat × Nat)) (dly : Nat) (s : State) : State :=
  s.each ((ls.map (·.2)).eraseDups) (fun b s =>
    let here := (ls.filter (fun x => x.2 == b)).map (·.1)
    let s := s.each here (fun n s => s.putLeg n { s.leg n with relAt := some b })
    forceLegs here 3 false dly (fun _ => b) s)

/-- DISCHARGE begins (R255; 09_sage_and_safe_states.md R347, R348) on a command of a source. -/
def startDischarge (m mode code : Nat) (s : State) : State :=
  let ls := s.members m
  let carry := if mode = 1 then ls else ls.filter (fun n => n == s.get (fSAGE_DIS_CFG_bleed m))
  let rest := ls.filter (fun n => !carry.contains n)
  let s := s.putMg m { s.mg m with dis := mode, releasing := false }
  -- the others keep their hold, with both switches off
  let s := forceLegs (rest.filter (fun n => (s.leg n).held ≠ 3)) 0 true (s.dtSafe m) (fun _ => 0) s
  let s := holdLegs m 3 rest s
  let at_ := carry.filterMap (fun n => (s.boundaryAfter (s.legTbg n)).map (fun b => (n, b)))
  let s := releaseAt at_ (s.dtSafe m) s
  let s := entryMarks m 4 0 4 code 0xFF s
  let s := s.each (s.ctxOfMg m) cancelStep
  let s := (s.setDiss (Tab.ins s.diss m { mode := mode, start := s.now, lastV := s.now })).put (fSAGE_DIS_STAT_state m) mode
  hintChange ls s

/-- DISCHARGE by software: it loses to a Sage command and to a trip request of the same tick (R253). -/
def softDischarge (m mode : Nat) (s : State) : State :=
  let lost := (s.mg m).tripTick == some (s.now / 32) || (s.decided m && (s.mg m).reqSage)
  if !inHold (s.mgState m) || lost || s.disRefused m mode then safeRefuse m s else startDischarge m mode 0 (safeAccept m s)

/-- DISCHARGE_WINDING (R257, R346). -/
def execDischargeWinding (r : Req) (m : Fin 32) (s : State) : Host.Outcome State Fault Refusal :=
  cmdAt r (aMG_SAFE_CMD m.val) (softDischarge m.val 1) s

/-- DISCHARGE_BLEED (R257, R346). -/
def execDischargeBleed (r : Req) (m : Fin 32) (s : State) : Host.Outcome State Fault Refusal :=
  cmdAt r (aMG_SAFE_CMD m.val) (softDischarge m.val 2) s

/-- Is a source of the group or of a member leg latched (R257)? -/
def State.anyLatched (s : State) (m : Nat) : Bool :=
  s.on (fMG_TRIP_STAT_routed m) || s.on (fMG_TRIP_STAT_kern m) || s.on (fMG_TRIP_STAT_link m) ||
    (s.members m).any (fun n => s.get (fLEG_TRIP_STAT_src n) != 0)

/-- A leg of a stopped group leaves the safe state and stays off (R258, R296). -/
def releaseStopped (n : Nat) (s : State) : State :=
  let h := s.offSince n false
  let lo := s.offSince n true
  let l := s.leg n
  let s := s.putLeg n { l with hsOn := false, lsOn := false, hsOff := h, lsOff := lo, hEnd := false, held := 0, relAt := none }
  let s := (s.lower (fLEG_STAT_hs n)).lower (fLEG_STAT_ls n)
  let t := s.now
  forceLegs [n] 0 false (s.dtSafe (s.legMg n)) (fun p => t + 32 * s.get (fNDL_LEAD_lead p)) s

/-- RELEASE by software (R257, R258). A refused RELEASE reaches Sage (R265). -/
def softRelease (m : Nat) (s : State) : State :=
  if !inHold (s.mgState m) || s.on (fMG_TRIP_STAT_sage_hold m) || s.anyLatched m then
    (safeRefuse m s).sageEvt 28 (nOther m)
  else
    let s := safeAccept m s
    let s := s.putMg m { s.mg m with releasing := true }
    let ls := s.members m
    let at_ := ls.filterMap (fun n => (s.boundaryAfter (s.legTbg n)).map (fun b => (n, b)))
    let s := releaseAt at_ (s.dtSafe m) s
    let s := s.each (ls.filter (fun n => !s.tbgRun (s.legTbg n))) releaseStopped
    leaveSafe m s

/-- MG_RELEASE (R258). -/
def execMgRelease (r : Req) (m : Fin 32) (s : State) : Host.Outcome State Fault Refusal :=
  cmdAt r (aMG_SAFE_CMD m.val) (softRelease m.val) s

/-- A write of MG[m]_SAFE_CMD (R257): a code that is not listed is refused. -/
def safeCmd (m c : Nat) (s : State) : State :=
  if c = 1 then softPulseOff m s else if c = 2 then softAsc m s else if c = 3 then softDischarge m 1 s
  else if c = 4 then softDischarge m 2 s else if c = 8 then softRelease m s else safeRefuse m s

/-- A write of LEG[n]_TRIP_CLR or MG[m]_TRIP_CLR: bit 0 clears, bit 1 arms. -/
def tripClrWrite (clr arm : State → State) (d : Word) (s : State) : State :=
  (s.when (d.fld 0 1 == 1) clr).when (d.fld 1 1 == 1) arm

end Sys2Proof.Machine
end

