-- ==== Sys2Proof/Machine/Adc.lean ====
section
/-! DEFINITION. Analog acquisition (12_analog_acquisition.md R416 to R442). Readings the rules leave open stand in log
entry 34. -/
namespace Sys2Proof.Machine

/-- A converter unit. -/
def State.adc (s : State) (u : Nat) : AdcUnit := Tab.get {} s.adcs u
def State.putAdc (s : State) (u : Nat) (x : AdcUnit) : State := s.setAdcs (Tab.set {} s.adcs u x)
/-- A sequence, an averager, a resolver channel, the conversions of a slice. -/
def State.run (s : State) (u q : Nat) : AdcRun := Tab.get {} (s.adc u).runs q
def State.putRun (s : State) (u q : Nat) (x : AdcRun) : State := s.putAdc u { s.adc u with runs := Tab.set {} (s.adc u).runs q x }
def State.avg (s : State) (u j : Nat) : AdcAvg := Tab.get {} (s.adc u).avgs j
def State.putAvg (s : State) (u j : Nat) (x : AdcAvg) : State := s.putAdc u { s.adc u with avgs := Tab.set {} (s.adc u).avgs j x }
def State.rsv (s : State) (u r : Nat) : AdcRsv := Tab.get {} (s.adc u).rsv r
def State.putRsv (s : State) (u r : Nat) (x : AdcRsv) : State := s.putAdc u { s.adc u with rsv := Tab.set {} (s.adc u).rsv r x }
def State.slice (s : State) (u i : Nat) : List AdcConv := Tab.get [] (s.adc u).slices i
def State.putSlice (s : State) (u i : Nat) (x : List AdcConv) : State :=
  s.putAdc u { s.adc u with slices := Tab.set [] (s.adc u).slices i x }

/-- The header page of a unit, its block, sources and error bits. -/
def adcHdr (u : Nat) : Nat := 0x40070000 + u % 4 * 0x1000
def adcBlock (u : Nat) : Block := .adc ⟨u % 4, Nat.mod_lt _ (by decide)⟩
def adcIrq (u i : Nat) (s : State) : State := s.irq (adcHdr u) i
def adcErr (u i : Nat) (s : State) : State := s.errSet (adcHdr u) i

/-- A clock of the island (R418: 160 MHz) in fine ticks. -/
def adcClk : Nat := 80
/-- The phases of a conversion in fine ticks (R418): 31.25 ns, 68.75 ns, 81.25 ns. -/
def trackT : Nat := 400
def convT : Nat := 880
def readyT : Nat := 1040

/-- Is an input differential (R417)? -/
def State.ainDiff (s : State) (u j : Nat) : Bool := s.on (fADC_AIN_CFG_diff u j)
/-- INTERLEAVED mode (R420). -/
def State.interleaved (s : State) (u : Nat) : Bool := s.on (fADC_CFG_il u)
/-- t_late in fine ticks (R425). -/
def State.tLate (s : State) (u : Nat) : Nat := near 1 100 (s.get (fADC_CFG_t_late u)) * 1280

/-- A code of an input's format (R416). -/
def State.adcCode (s : State) (u j : Nat) (v : Int) : Int := if s.ainDiff u j then clampI (-32768) 32767 v else clampI 0 65535 v

/-- The queue registers (R423, R427). -/
def qShow (u : Nat) (s : State) : State :=
  let x := s.adc u
  (s.put (fADC_QSTAT_urg u) x.urgQ.length).put (fADC_QSTAT_norm u) x.normQ.length

/-! Window comparators (R435). -/

/-- A window comparator judges a value. -/
def wcJudge (u w : Nat) (v : Int) (s : State) : State :=
  let sg (x : Nat) : Int := if s.ainDiff u (s.get (fADC_WC_CFG_in u w)) then sext 16 x else x
  let lo := sg (s.get (fADC_WC_LIM_lo u w))
  let hi := sg (s.get (fADC_WC_LIM_hi u w))
  let hy : Int := s.get (fADC_WC_CFG_hyst u w)
  let f := fADC_WC_STAT_asserted u w
  if v < lo || hi < v then
    if s.on f then s
    else sourceOn (.routed ⟨(32 + 16 * u + w) % 96, Nat.mod_lt _ (by decide)⟩) (adcIrq u 6 ((s.raise f).incrSat (fADC_WC_STAT_cnt u w)))
  else if lo + hy ≤ v && v ≤ hi - hy && s.on f then
    armedStopped ((s.lower f).putBit (aTHY_TRIP_LVL 0) (32 + 16 * u + w) false)
  else s

/-- The comparators of an input, those that take the averaged value or those that take each result. -/
def wcInput (u j : Nat) (avg : Bool) (v : Int) (s : State) : State :=
  s.each ((List.range 16).filter (fun w => s.on (fADC_WC_CFG_en u w) && s.get (fADC_WC_CFG_in u w) == j &&
    s.on (fADC_WC_CFG_avg u w) == avg)) (fun w => wcJudge u w v)

/-! Delivery (R433, R434). -/

/-- A record for Basil; a full buffer loses its oldest one (R433). -/
def toBasil (u : Nat) (r : AdcRec) (s : State) : State :=
  if !s.on (fADC_AIN_CFG_eng u r.j) then s
  else
    let x := s.adc u
    let full := 32 ≤ x.recs.length
    let s := if full then adcErr u 18 (s.incrSat (fADC_LOSS_cnt u)) else s
    s.putAdc u { s.adc u with recs := (if full then x.recs.drop 1 else x.recs) ++ [r] }

/-- An averaged record (R434): kind 1 OK, 2 RESTARTED, 3 ABORTED; `due` is the instant it is attributed by (R432). -/
def avgDeliver (u j kind : Nat) (v : Int) (due : Option Nat) (s : State) : State :=
  let s := (s.put (fADC_AVG_kind u j) kind).put (fADC_AVG_value u j) (lowBits 24 v)
  let s := toBasil u { j := j, avg := true, v := v, bad := kind == 3, due := due } s
  if kind = 3 then s else wcInput u j true (s.adcCode u j v) s

/-- 24 bits signed. -/
def sat24 (v : Int) : Int := clampI (-8388608) 8388607 v

/-- A result enters the averager of its input (R434); `none` for an ABORTED one. -/
def avgTake (u j : Nat) (v : Option Int) (rst : Bool) (due : Option Nat) (s : State) : State :=
  let k := s.get (fADC_AIN_CFG_avg_k u j)
  if k = 0 then s
  else match v with
    | none => avgDeliver u j 3 0 due (s.putAvg u j {})
    | some v =>
      let a := s.avg u j
      let a : AdcAvg := { sum := a.sum + v, n := a.n + 1, rst := a.rst || rst }
      if 2 ^ k ≤ a.n then
        avgDeliver u j (if a.rst then 2 else 1) (sat24 (a.sum / (2 ^ s.get (fADC_AIN_CFG_avg_sh u j) : Nat))) due (s.putAvg u j {})
      else s.putAvg u j a

/-- The limits of a resolver amplitude (R440). -/
def resLos (u r : Nat) (sn cs : Int) (s : State) : State :=
  let x := s.rsv u r
  let q := sn * sn + cs * cs
  let lo : Int := s.get (fADC_RES_LIM_amin u r)
  let hi : Int := s.get (fADC_RES_LIM_amax u r)
  let out := q < lo * lo || hi * hi < q
  let x := if out then { x with outN := min 3 (x.outN + 1), inN := 0 } else { x with inN := min 3 (x.inN + 1), outN := 0 }
  let s := s.putRsv u r x
  let f := fADC_RES_STAT_los u r
  if 3 ≤ x.outN && !s.on f then adcIrq u 7 (s.raise f)
  else if 3 ≤ x.inN then s.lower f else s

/-- The four conversions of an excitation period are there: the envelope goes to the FBI (R439, R440). -/
def resEnvelope (u r : Nat) (s : State) : State :=
  let x := s.rsv u r
  let s := s.putRsv u r { x with got := [], bad := false, n := 0 }
  if x.bad then s.incrSat (fADC_RES_STAT_miss u r)
  else
    let v (c h : Bool) : Int := ((x.got.find? (fun g => g.1 == c && g.2.1 == h)).map (fun g => g.2.2.1)).getD 0
    let t (h : Bool) : Nat := ((x.got.find? (fun g => g.2.1 == h)).map (fun g => g.2.2.2)).getD s.now
    let sn := (v false false - v false true) / 2
    let cs := (v true false - v true true) / 2
    let m := (t false + t true) / 2
    let s := resLos u r sn cs s
    let s := (s.put (fADC_RES_ENV_s u r) (lowBits 16 sn)).put (fADC_RES_ENV_c u r) (lowBits 16 cs)
    let s := s.wr (aADC_RES_TS u r) (BitVec.ofNat 32 (lowTicks m))
    let n := 2 * u + r
    if !s.isRun 10 then s
    else s.putRes n { s.res n with rx := some { s := sn, c := cs, los := s.on (fADC_RES_STAT_los u r), t := m } }

/-- A conversion of a resolver channel ends, with a value or without (R439). -/
def resTake (u : Nat) (q : AdcReq) (v : Option (Int × Nat)) (s : State) : State :=
  let x := s.rsv u q.n
  let x := match v with
    | some (v, h) => { x with got := x.got ++ [(q.cos, q.half, v, h)], n := x.n + 1 }
    | none => { x with bad := true, n := x.n + 1 }
  let s := s.putRsv u q.n x
  if 4 ≤ x.n then resEnvelope u q.n s else s

/-! Records (R426, R427). -/

/-- The unit's share of a request without a record shrinks. -/
def flightLess (u : Nat) (s : State) : State := s.put (fADC_QSTAT_inflight u) (s.get (fADC_QSTAT_inflight u) - 1)

/-- The group a run waits for has held, or will never: at the time given (R430). -/
def runHeld (u : Nat) (q : AdcReq) (t : Nat) (s : State) : State :=
  let x := s.run u q.n
  if q.src ≠ 0 || q.grp ≠ x.grp then s
  else
    s.putRun u q.n { x with wait := x.wait - 1, heldAt := some (max t (x.heldAt.getD 0)) }

/-- A reply to the GIU (R441; 02_islands_and_credits.md R57): delivered, or discarded when the GIU's epoch has advanced. -/
def adcToGiu (u : Nat) (q : AdcReq) (v : Option Word) (s : State) : State :=
  if s.takesReply 8 q.ep then s.setGiu { s.giu with adc := Tab.ins s.giu.adc (20 * u + q.j) v }
  else s.incr (fFAB_DISCARD_CNT_cnt 8)

/-- The instant an averaged result that a request completes is attributed by (R432): the trigger instant of its run, or the period
start that ends its SPREAD period. -/
def AdcReq.avgDue (q : AdcReq) : Option Nat := q.due.orElse (fun _ => q.perEnd)

/-- A request ends ABORTED (R426): cause 1 LATE, 2 QFULL, 3 MODE, 4 RESET. -/
def adcAbort (u : Nat) (q : AdcReq) (cause : Nat) (s : State) : State :=
  let s := flightLess u (s.incr (fADC_ABT_CNT_cnt u))
  let s := adcIrq u 5 (s.incrSat (match cause with
    | 1 => fADC_ABT_CAUSE_late u | 2 => fADC_ABT_CAUSE_qfull u | 3 => fADC_ABT_CAUSE_mode u | _ => fADC_ABT_CAUSE_reset u))
  let s := runHeld u q s.now s
  let s := if q.avgOnly then s
    else
      let s := s.wr (aADC_RES u q.j) (BitVec.ofNat 32 (3 * 2 ^ 30 + cause * 2 ^ 27))
      toBasil u { j := q.j, avg := false, v := 0, bad := true, due := q.due } s
  let s := avgTake u q.j none false q.avgDue s
  if q.src = 1 then adcToGiu u q none s
  else if q.src = 2 then resTake u q none s
  else s

/-- A conversion's result becomes available (R426, R433 to R435). -/
def adcResult (u : Nat) (c : AdcConv) (raw : Int) (s : State) : State :=
  let q := c.req
  let v := s.adcCode u q.j raw
  let s := flightLess u (s.incr (fADC_RES_CNT_cnt u))
  let s := if q.pre then adcIrq u 4 (s.incr (fADC_RST_CNT_cnt u)) else s
  let kind := if q.pre then 2 else 1
  let s := if q.avgOnly then s
    else
      let s := s.wr (aADC_RES u q.j) (BitVec.ofNat 32 (kind * 2 ^ 30 + lowBits 16 v))
      toBasil u { j := q.j, avg := false, v := v, bad := false, due := q.due } (s.wr (aADC_TS u q.j) (BitVec.ofNat 32 (lowTicks c.hold)))
  let s := wcInput u q.j false v (avgTake u q.j (some v) q.pre q.avgDue s)
  if q.src = 1 then adcToGiu u q (if q.pre then none else some (BitVec.ofInt 32 v)) s
  else if q.src = 2 then resTake u q (some (v, c.hold)) s
  else s

/-! Requests and slices (R419 to R425). -/

/-- A request enters its unit (R417, R420, R423). -/
def adcEnter (u : Nat) (q : AdcReq) (s : State) : State :=
  let s := (s.incr (fADC_REQ_CNT_cnt u)).put (fADC_QSTAT_inflight u) (s.get (fADC_QSTAT_inflight u) + 1)
  let x := s.adc u
  if s.interleaved u || (q.j % 2 = 1 && s.ainDiff u (q.j - 1)) then adcAbort u q 3 s
  else if q.urg then
    (if 8 ≤ x.urgQ.length then adcAbort u q 2 s else qShow u (s.putAdc u { x with urgQ := x.urgQ ++ [q] }))
  else (if 16 ≤ x.normQ.length then adcAbort u q 2 s else qShow u (s.putAdc u { x with normQ := x.normQ ++ [q] }))

/-- The entries issued together at the head of a run (R430): the first and those with par = 1 behind it. -/
def groupOf : List Nat → List Nat × List Nat
  | [] => ([], [])
  | e :: r => (e :: r.takeWhile (fun x => x / 128 % 2 == 1), r.dropWhile (fun x => x / 128 % 2 == 1))

/-- The next group of a run is issued at a request instant; empty entries issue nothing (R430). -/
def issueGroup (u q t : Nat) : Nat → State → State
  | 0, s => s
  | n + 1, s =>
    let x := s.run u q
    if x.left.isEmpty then s
    else
      let (g, r) := groupOf x.left
      let es := g.filter (fun e => e % 32 < 20)
      let s := s.putRun u q { x with left := r, wait := es.length, heldAt := none, grp := x.grp + 1 }
      if es.isEmpty then issueGroup u q t n s
      else s.each es.zipIdx (fun (e, i) => adcEnter u
        { j := e % 32, n := q, urg := x.urg, avgOnly := e / 64 % 2 == 1, par := decide (0 < i), at_ := t, due := x.due, perEnd := x.perEnd,
          grp := x.grp + 1 })

/-- Runs whose last group has held issue the next one (R430). -/
def runsOn (u : Nat) (s : State) : State :=
  s.each (List.range 8) (fun q s =>
    let x := s.run u q
    match x.heldAt with
    | some t => if x.wait = 0 && !x.left.isEmpty && t ≤ s.now then issueGroup u q t 8 s else s
    | none => s)

/-- The moment a slice is free (R418). -/
def State.sliceFree (s : State) (u i : Nat) : Nat := (s.slice u i).foldl (fun t c => max t (c.hold + convT)) 0

/-- Is another slice tracking the input (R419)? -/
def State.tracked (s : State) (u j : Nat) : Bool :=
  (List.range 4).any (fun i => (s.slice u i).any (fun c => c.req.j == j && decide (s.now < c.hold)))

/-- The lowest slice free now. -/
def State.freeSlice (s : State) (u : Nat) : Option Nat := (List.range 4).find? (fun i => s.sliceFree u i ≤ s.now)

/-- The normal conversion an urgent request preempts (R424): the latest hold, then the higher slice. -/
def State.victim (s : State) (u : Nat) : Option Nat :=
  ((List.range 4).filter (fun i => (s.slice u i).any (fun c => !c.req.urg && decide (s.now < c.hold + convT)))).foldl
    (fun o i => match o with
      | none => some i
      | some b => if s.sliceFree u b ≤ s.sliceFree u i then some i else some b) none

/-- A slice takes a request (R418). -/
def sliceTake (u i : Nat) (q : AdcReq) (s : State) : State :=
  let h := s.now + trackT
  runHeld u q h (s.putSlice u i (s.slice u i ++ [{ req := q, hold := h }]))

/-- A normal conversion is discarded, and its request returns to the head of its queue (R424). -/
def preempt (u i : Nat) (s : State) : State :=
  match (s.slice u i).reverse with
  | c :: r =>
    let s := s.putSlice u i r.reverse
    let s := s.putAdc u { s.adc u with normQ := { c.req with pre := true } :: (s.adc u).normQ }
    let x := s.run u c.req.n
    if c.req.src = 0 && c.req.grp == x.grp then s.putRun u c.req.n { x with wait := x.wait + 1 } else s
  | [] => s

/-- Would the hold lie more than t_late after the request instant (R425)? -/
def State.tooLate (s : State) (u : Nat) (q : AdcReq) : Bool :=
  (q.urg || q.pre) && decide (q.at_ + s.tLate u < s.now + trackT)

/-- The request that starts next: the first of the urgent queue that may, then of the normal queue (R419, R423). -/
def State.nextReq (s : State) (u : Nat) : Option AdcReq :=
  let x := s.adc u
  match x.urgQ.find? (fun q => !s.tracked u q.j) with
  | some q => some q
  | none => x.normQ.find? (fun q => !s.tracked u q.j)

/-- A request leaves its queue. -/
def dequeue (u : Nat) (q : AdcReq) (s : State) : State :=
  let x := s.adc u
  qShow u (s.putAdc u (if q.urg then { x with urgQ := x.urgQ.erase q } else { x with normQ := x.normQ.erase q }))

/-- A request starts now, by preemption where it may, or ends LATE (R423 to R425). -/
def startReq (u : Nat) (q : AdcReq) (s : State) : State :=
  if s.tooLate u q then adcAbort u q 1 (dequeue u q s)
  else match s.freeSlice u with
    | some i => sliceTake u i q (dequeue u q s)
    | none =>
      if !q.urg then s
      else match s.victim u with
        | some i => sliceTake u i q (preempt u i (dequeue u q s)) |> qShow u
        | none => s

/-- The moment at which the next waiting request can start: a free slice, or at once for an urgent one that preempts. -/
def State.startTime (s : State) (u : Nat) (q : AdcReq) : Nat :=
  if (s.freeSlice u).isSome || (q.urg && (s.victim u).isSome) then s.now
  else (List.range 4).foldl (fun t i => min t (s.sliceFree u i)) (s.now + 2 * readyT)

/-- One start, and with it the requests issued with the same group while slices are free (R423, R430). -/
def startMore (u : Nat) : Nat → State → State
  | 0, s => s
  | n + 1, s =>
    match s.nextReq u with
    | some q => if q.par && (s.freeSlice u).isSome then startMore u n (startReq u q s) else s
    | none => s

/-- The next moment at which a run issues its next group or an input is no longer tracked. -/
def State.nextHold (s : State) (u : Nat) : Option Nat :=
  (((List.range 4).flatMap (s.slice u)).filter (fun c => decide (s.now < c.hold))).map (·.hold) |>.min?

/-- CONVERSION_START (R423, R424). -/
def conversionStart (u : Nat) (s : State) : State :=
  let s := runsOn u s
  let s := match s.nextReq u, s.nextHold u with
    | none, some t => runsOn u (s.reach t)
    | _, _ => s
  match s.nextReq u with
  | some q =>
    let s := runsOn u (s.reach (s.startTime u q))
    match s.nextReq u with
    | some q => startMore u 8 (startReq u q s)
    | none => s
  | none => s

/-- The ADC island works: in RUN, or completing conversions in DRAIN (R428). -/
def State.adcWorks (s : State) : Bool := s.isRun 9 || (s.warden 9).st == .drain

/-- CONVERSION_START. -/
def execConversionStart (u : Fin 4) (s : State) : Host.Outcome State Fault Refusal :=
  done (if s.adcWorks then conversionStart u.val s else s)

/-- The oldest conversion of a slice is ready (R418). -/
def conversionComplete (u i : Nat) (raw : Int) (s : State) : State :=
  match s.slice u i with
  | c :: r =>
    let s := runsOn u (s.reach (c.hold + readyT))
    adcResult u c raw (s.putSlice u i r)
  | [] => s

/-- CONVERSION_COMPLETE (R418). -/
def execConversionComplete (u sl : Fin 4) (raw : Int) (s : State) : Host.Outcome State Fault Refusal :=
  done (if s.adcWorks then conversionComplete u.val sl.val raw s else s)

/-- A request that waits t_late ends (R425). -/
def lateAbort (u : Nat) (s : State) : State :=
  let x := s.adc u
  match (x.urgQ ++ x.normQ.filter (·.pre)) with
  | [] => s
  | q :: r =>
    let q := r.foldl (fun a b => if b.at_ < a.at_ then b else a) q
    runsOn u (adcAbort u q 1 (dequeue u q (s.reach (q.at_ + s.tLate u))))

/-- LATE_ABORT (R425). -/
def execLateAbort (u : Fin 4) (s : State) : Host.Outcome State Fault Refusal :=
  done (if s.adcWorks then lateAbort u.val s else s)

/-- The GIU asks for a conversion (R422, R423, R441) while it may send and holds a credit (02_islands_and_credits.md R49, R54); an ADC not
in RUN answers ABSENT, and the conversion is missing. -/
def giuAsks (u j : Nat) (s : State) : State :=
  let w := s.warden 8
  let q : AdcReq := { j := j, src := 1, at_ := s.now, ep := w.epoch }
  if w.st = .retire || w.st = .absent || linkDepth 8 9 0 ≤ s.onLink 8 9 then s
  else if s.isRun 9 then adcEnter u q (runsOn u (fabUse 8 9 0 s))
  else adcToGiu u q none (fabAbsent 9 s)

/-- ADC_REQUEST (R422, R423, R441): a conversion the GIU asks for, one of those a PLL unit sends at its step instant where one needs the
input (05_grid_and_pv.md R157). -/
def execAdcRequest (u : Fin 4) (j : Fin 20) (s : State) : Host.Outcome State Fault Refusal :=
  done (giuAsks u.val j.val (pllAsks (20 * u.val + j.val) s))

/-! Sequences (R429 to R431). -/

/-- The entries of a sequence (R444). -/
def State.seqEntries (s : State) (u q : Nat) : List Nat :=
  let n := near 1 8 (s.get (fADC_SEQ_CFG_n u q))
  (List.range n).map (fun e =>
    (s.rd (if e < 4 then aADC_SEQ_ENT0 u q else aADC_SEQ_ENT1 u q)).fld (8 * (e % 4)) 8)

/-- A trigger of a sequence (R429, R430); `due` and `perEnd` are what its results are attributed by (R432). A second trigger in one
ADC clock counts as ovr (R441). -/
def seqTriggerFor (due perEnd : Option Nat) (u q : Nat) (s : State) : State :=
  if !s.on (fADC_SEQ_CFG_en u q) || !s.isRun 9 then s
  else
    let s := runsOn u s
    let x := s.run u q
    if !x.left.isEmpty || x.startAt.any (fun t => t / adcClk == s.now / adcClk) then adcErr u 17 (s.incrSat (fADC_SEQ_STAT_ovr u q))
    else
      let s := s.incr (fADC_SEQ_STAT_runs u q)
      let s := s.putRun u q { x with left := s.seqEntries u q, urg := s.on (fADC_SEQ_CFG_urg u q), due := due, perEnd := perEnd,
                                     startAt := some s.now }
      issueGroup u q s.now 8 s

/-- A trigger whose results are attributed by their arrival. -/
def seqTrigger (u q : Nat) (s : State) : State := seqTriggerFor none none u q s

/-- SEQUENCE_TRIGGER (R429): the timer, a period start, or a trigger instant the PTA placed. -/
def sequenceTrigger (u q : Nat) (s : State) : State :=
  let trg := s.get (fADC_SEQ_CFG_trg u q)
  if trg = 1 then
    let x := s.run u q
    let s := s.reach x.nextTim
    seqTrigger u q (s.putRun u q { x with nextTim := max s.now x.nextTim + 32 * near 40 16777215 (s.get (fADC_SEQ_TIM_per u q)) })
  else if 0x20 ≤ trg && trg < 0x40 then seqTrigger u q s
  else if 0x40 ≤ trg && trg < 0x80 then
    match (s.trgs.filter (fun p => p.g == trg % 32 && p.one == decide (0x60 ≤ trg) && decide (s.now ≤ p.t))).map (·.t) |>.min? with
    | some t => seqTriggerFor (some t) none u q (s.reach t)
    | none => seqTriggerFor (some s.now) none u q s
  else s

/-- SEQUENCE_TRIGGER. -/
def execSequenceTrigger (u : Fin 4) (q : Fin 8) (s : State) : Host.Outcome State Fault Refusal :=
  done (sequenceTrigger u.val q.val s)

/-- A write of ADC[u]_SWTRIG (R429). -/
def swTrig (u m : Nat) (s : State) : State := s.each (bitsOf 8 m) (seqTrigger u)

/-- SWTRIG. -/
def execSwtrig (r : Req) (u : Fin 4) (mask : Fin 256) (s : State) : Host.Outcome State Fault Refusal :=
  done (access r (aADC_SWTRIG u.val) true (swTrig u.val mask.val) s)

/-- The moment of run i of a SPREAD sequence (R431): that far into the period of its group. -/
def State.spreadTime (s : State) (u q i : Nat) : Nat :=
  let k := min 8 (s.get (fADC_SEQ_CFG_k_sp u q))
  let g := s.get (fADC_SEQ_CFG_trg u q) % 32
  (s.tbg g).b + 32 * ((2 * i * s.get (fTBG_PERIOD_t g) + 2 ^ k) / (2 * 2 ^ k))

/-- A SPREAD instant (R431): the run at i = 0 restarts the averagers of the sequence's inputs. -/
def spreadRun (u q : Nat) (first : Bool) (s : State) : State :=
  let trg := s.get (fADC_SEQ_CFG_trg u q)
  let k := min 8 (s.get (fADC_SEQ_CFG_k_sp u q))
  let x := s.run u q
  let i := if first then 0 else x.spI + 1
  if trg < 0x80 || 0xA0 ≤ trg || 2 ^ k ≤ i || !s.on (fADC_SEQ_CFG_en u q) then s
  else
    let g := trg % 32
    let p := s.get (fTBG_PERIOD_t g)
    let s := if first then s else s.reach (s.spreadTime u q i)
    let s := s.putRun u q { x with spI := i }
    let s := if first then s.each ((s.seqEntries u q).filter (fun e => e % 32 < 20)) (fun e s => s.putAvg u (e % 32) {}) else s
    seqTriggerFor none (some ((s.tbg g).b + 32 * p)) u q s

/-- SPREAD_RUN (R431). -/
def execSpreadRun (u : Fin 4) (q : Fin 8) (first : Bool) (s : State) : Host.Outcome State Fault Refusal :=
  done (spreadRun u.val q.val first s)

/-! The stream and Basil (R420, R421, R433). -/

/-- The convergence bits (R421): offset and gain after 10 ms; skew after 50 ms, or held where the input has no such component. -/
def calShow (u : Nat) (s : State) : State :=
  let t := s.now - (s.adc u).ilAt
  let s := if 10 * ms ≤ t then (s.raise (fADC_CAL_STAT_ofs_ok u)).raise (fADC_CAL_STAT_gain_ok u) else s
  if 50 * ms ≤ t then
    let (w, s) := s.freeWord
    if w.fld 0 1 = 1 then (s.raise (fADC_CAL_STAT_skew_ok u)).lower (fADC_CAL_STAT_skew_hold u)
    else s.raise (fADC_CAL_STAT_skew_hold u)
  else s

/-- STREAM_AVERAGE (R420): the mean of 2^s_k samples of the stream. -/
def streamAverage (u : Nat) (sum : Int) (s : State) : State :=
  if !s.interleaved u then s
  else
    let j := s.get (fADC_CFG_s_in u)
    let k := near 3 8 (s.get (fADC_CFG_s_k u))
    let s := calShow u s
    if 20 ≤ j then s else avgDeliver u j 1 (sat24 (sum / (2 ^ k : Nat))) none s

/-- STREAM_AVERAGE. -/
def execStreamAverage (u : Fin 4) (sum : Int) (s : State) : Host.Outcome State Fault Refusal :=
  done (if s.isRun 9 then streamAverage u.val sum s else s)

/-- ADC_RECORD_SEND (R433): the oldest record that waits goes to Basil. -/
def adcSend (u : Nat) (s : State) : State :=
  let x := s.adc u
  match x.recs with
  | [] => s
  | r :: q =>
    if linkDepth 9 5 0 ≤ s.onLink 9 5 then s
    else sendEng { src := 1, inst := 20 * u + r.j, sel := if r.avg then 1 else 0, raw := BitVec.ofInt 32 r.v, bad := r.bad, at_ := r.due }
      (s.putAdc u { x with recs := q })

/-- ADC_RECORD_SEND. -/
def execAdcRecordSend (u : Fin 4) (s : State) : Host.Outcome State Fault Refusal :=
  done (if s.adcWorks then adcSend u.val s else s)

/-- RESOLVER_SAMPLE (R439): a par group of two urgent requests at a phase instant; the first phase begins a period. -/
def resolverSample (u r : Nat) (half : Bool) (s : State) : State :=
  if !s.isRun 9 || !s.on (fADC_RES_CFG_en u r) then s
  else
    let s := if half then s else s.putRsv u r { s.rsv u r with got := [], bad := false, n := 0 }
    let js := s.get (fADC_RES_CFG_j_s u r)
    let jc := s.get (fADC_RES_CFG_j_c u r)
    if 20 ≤ js || 20 ≤ jc then s
    else
      let q : AdcReq := { j := js, src := 2, n := r, urg := true, half := half, at_ := s.now }
      adcEnter u { q with j := jc, cos := true, par := true } (adcEnter u q (runsOn u s))

/-- RESOLVER_SAMPLE. -/
def execResolverSample (u : Fin 4) (ch : Fin 2) (half : Bool) (s : State) : Host.Outcome State Fault Refusal :=
  done (resolverSample u.val ch.val half s)

/-! Frames, commits and reset (R427, R428, R442). -/

/-- What a commit of a unit brings with it: `o` is the state before the values applied. -/
def adcConfig (u : Nat) (o s : State) : State :=
  let s :=
    if s.interleaved u == o.interleaved u then s
    else
      let x := s.adc u
      let s := s.putAdc u { x with ilAt := s.now, urgQ := [], normQ := [] }
      let s := s.each (x.urgQ ++ x.normQ) (fun q => adcAbort u q 3)
      qShow u (s.wr (aADC_CAL_STAT u) 0)
  let s := s.each (List.range 20) (fun j s =>
    if s.get (fADC_AIN_CFG_avg_k u j) = o.get (fADC_AIN_CFG_avg_k u j) then s else s.putAvg u j {})
  let s := s.each (List.range 8) (fun q s =>
    if (Tab.find o.cmt (aADC_SEQ_CFG u q)).isSome || (Tab.find o.cmt (aADC_SEQ_TIM u q)).isSome then
      s.putRun u q { s.run u q with nextTim := s.now + 32 * near 40 16777215 (s.get (fADC_SEQ_TIM_per u q)) }
    else s)
  let s := s.each (List.range 16) (fun w s =>
    if !s.on (fADC_WC_CFG_en u w) && s.on (fADC_WC_STAT_asserted u w) then
      armedStopped ((s.lower (fADC_WC_STAT_asserted u w)).putBit (aTHY_TRIP_LVL 0) (32 + 16 * u + w) false)
    else s)
  s.each [0, 1] (fun r s =>
    let en := s.on (fADC_RES_CFG_en u r)
    let s := s.putB (fADC_RES_STAT_run u r) en
    if en then s else s.putRsv u r {})

/-- The check of an ADC frame (R427). -/
def adcFrame (u : Nat) (s : State) : State :=
  let n (f : Nat → Fld) : Nat := s.get (f u)
  if n fADC_REQ_CNT_cnt = (n fADC_RES_CNT_cnt + n fADC_ABT_CNT_cnt + n fADC_QSTAT_inflight) % 2 ^ 32 then s
  else conservationEvent (adcBlock u) (adcErr u 16 s)

/-- RETIRE of the island (R428): open requests of the GIU are answered RETIRED, every other one ends with cause RESET. -/
def adcRetire (s : State) : State :=
  s.each [0, 1, 2, 3] (fun u s =>
    let x := s.adc u
    let held := (List.range 4).flatMap (fun i => (s.slice u i).map (·.req))
    let s := qShow u (s.putAdc u { x with urgQ := [], normQ := [], slices := [] })
    s.each (x.urgQ ++ x.normQ ++ held) (fun q s =>
      if q.src = 1 then adcToGiu u q none (flightLess u (s.incr (fFAB_RETIRED_CNT_cnt 9))) else adcAbort u q 4 s))

/-- The ADC island is reset; the fast comparators are not part of it (R428, R437). -/
def adcReset (s : State) : State := s.setAdcs []

/-- ADC_FC_OUT and ADC[u]_STAT.busy as they read (R436, R443). -/
def State.fcOut (s : State) : Nat := (List.range 16).foldl (fun x f => if s.routedOn (16 + f) then x + 2 ^ f else x) 0
def State.adcBusy (s : State) (u : Nat) : Nat :=
  (List.range 4).foldl (fun x i => if (s.slice u i).any (fun c => decide (s.now < c.hold + convT)) then x + 2 ^ i else x) 0

end Sys2Proof.Machine
end

