-- ==== Sys2Proof/Machine/Axes.lean ====
section
/-! DEFINITION. The auxiliary motion unit (13_feedback_and_aux_axes.md R454 to R463, R469). Readings the rules leave open stand
in log entry 31. -/
namespace Sys2Proof.Machine
open F32 (add sub mul div)

/-- An axis. -/
def State.ax (s : State) (k : Nat) : AxisSt := Tab.get {} s.amu.axes k
def State.putAx (s : State) (k : Nat) (x : AxisSt) : State := s.setAmu { s.amu with axes := Tab.set {} s.amu.axes k x }

/-- The axis moves: its segment is not idle. -/
def State.axMoves (s : State) (k : Nat) : Bool := s.get (fAX_STAT_seg k) != 0

/-- An axis source, and the header summary where it is enabled (R470, R471): done, lim, home latched, cmd_ref, chop_fault,
chg_ref. -/
def axIrq (k i : Nat) (s : State) : State :=
  let s := s.raise ⟨aAX_IRQ_RAW k, i, 1⟩
  if !s.on ⟨aAX_IRQ_EN k, i, 1⟩ then s
  else match i with | 0 => s.irq 0x40090000 4 | 1 => s.irq 0x40090000 5 | 4 => s.irq 0x40090000 6 | _ => s

/-- AX[k]_POS as a signed count. -/
def State.axPos (s : State) (k : Nat) : Int := sext 32 (s.get (fAX_POS_pos k))

/-! The chopper (R460, R461). -/

/-- Microsteps per electrical period. -/
def State.microsteps (s : State) (k : Nat) : Nat := 4 * 2 ^ min 8 (s.get (fAX_CFG_mstep k))

/-- The cosine of an index in quarters of a period: exact at the quarters, free of the quadrant elsewhere. -/
def cosIndex (n i : Nat) : Word :=
  if 4 * i % n = 0 then (match 4 * i / n % 4 with | 0 => F32.one | 2 => F32.negate F32.one | _ => 0)
  else Config.cos32 (mul F32.twoPi (F32.ofRat i n))

/-- The phase references in DAC codes (R460): phase A the cosine, phase B the sine. -/
def State.axRef (s : State) (k : Nat) (phB : Bool) : Int :=
  let x := s.ax k
  let n := s.microsteps k
  let i := if x.hold then s.get (fAX_CHOP_CFG_i_hold k) else s.get (fAX_CHOP_CFG_i_run k)
  F32.toInt (mul (F32.ofInt i) (cosIndex n ((x.mIdx + (if phB then 3 * n / 4 else 0)) % n)))

def State.axPh (s : State) (k : Nat) (phB : Bool) : ChopPh := if phB then (s.ax k).phB else (s.ax k).phA
def State.putPh (s : State) (k : Nat) (phB : Bool) (p : ChopPh) : State :=
  s.putAx k (if phB then { s.ax k with phB := p } else { s.ax k with phA := p })
/-- The offset of a phase, signed, in sixteenths of a code. -/
def fOfs (k : Nat) (phB : Bool) : Fld := if phB then fAX_CHOP_STAT_ofs_b k else fAX_CHOP_STAT_ofs_a k

/-- Do the bridges of an axis act: CHOP mode, no chopper fault, no brown-out warning episode, island in RUN (R460, R462)? -/
def State.chopOn (s : State) (k : Nat) : Bool :=
  s.get (fAX_CFG_mode k) == 2 && !s.on (fAX_STAT_chop_fault k) && !s.amu.brown && s.isRun 11

/-- The comparator threshold of a phase in sixteenths of a code (R460). -/
def State.chopThreshold (s : State) (k : Nat) (phB : Bool) : Int :=
  let h : Int := 8 * s.get (fAX_CHOP_CFG_hyst k)
  let m : Int := 16 * (s.axRef k phB).natAbs
  let o := sext 16 (s.get (fOfs k phB))
  clampI 0 (16 * 1023) (if (s.axPh k phB).drive then m + h + o else m - h + o)

/-- The two bridge inputs of a phase (R460). -/
def State.chopPins (s : State) (k : Nat) (phB : Bool) : Bool × Bool :=
  let p := s.axPh k phB
  if p.sgn = 0 then (false, false)
  else if p.drive then (0 < p.sgn, p.sgn < 0)
  else if s.on (fAX_CHOP_CFG_decay k) then (p.sgn < 0, 0 < p.sgn)
  else (false, false)

/-- The outputs AXk_OUT0 to AXk_OUT3 (R454, R460, R462). -/
def State.axOuts (s : State) (k : Nat) : List Bool :=
  match s.get (fAX_CFG_mode k) with
  | 1 =>
    if !s.isRun 11 then [false, false, false, false]
    else [decide (s.now < (s.ax k).pulseEnd), (!s.on (fAX_STAT_dir k)) != s.on (fAX_CFG_dir_inv k), true, false]
  | 2 =>
    if !s.chopOn k then [false, false, false, false]
    else [(s.chopPins k false).1, (s.chopPins k false).2, (s.chopPins k true).1, (s.chopPins k true).2]
  | _ => [false, false, false, false]

/-- The references may have changed: a change of sign starts a phase anew and clears its offset (R460, R461). -/
def chopRef (k : Nat) (s : State) : State :=
  if !s.chopOn k then s
  else s.each [false, true] (fun b s =>
    let p := s.axPh k b
    let r := (s.axRef k b).sign
    if r = p.sgn then s
    else (s.putPh k b { sgn := r, drive := decide (r ≠ 0), since := s.now }).put (fOfs k b) 0)

/-- The bridges of an axis go low. -/
def chopOff (k : Nat) (s : State) : State := s.putAx k { s.ax k with phA := {}, phB := {} }

/-- The offset after a complete cycle with on and off times in 10 ns units (R461), rounded to the nearest sixteenth. -/
def ofsNext (tcd hyst ton toff : Nat) (o : Int) : Int :=
  let num : Int := -8 * (tcd * hyst : Nat) * ((toff : Int) - ton) - o * (ton * toff : Nat)
  let d : Int := 8 * (ton * toff : Nat)
  clampI (-8 * hyst) (8 * hyst) (if ton = 0 || toff = 0 then o else o + (2 * num + d) / (2 * d))

/-- A comparator shows above or below its threshold (R460, R461). -/
def chopComparator (k : Nat) (phB above : Bool) (s : State) : State :=
  let p := s.axPh k phB
  let t := s.now - p.since
  if !s.chopOn k || p.sgn = 0 || t < s.get (fAX_CHOP_TIM_t_blank k) * ns10 then s
  else if p.drive && above then s.putPh k phB { p with drive := false, since := s.now, tOn := t / ns10 }
  else if !p.drive && !above then
    let s := s.putPh k phB { p with drive := true, since := s.now }
    if !s.on (fAX_CHOP_CFG_adapt k) then s.put (fOfs k phB) 0
    else s.put (fOfs k phB) (lowBits 16 (ofsNext (s.get (fAX_CHOP_TIM_t_cd k)) (s.get (fAX_CHOP_CFG_hyst k)) p.tOn (t / ns10)
      (sext 16 (s.get (fOfs k phB)))))
  else s

/-- CHOP_COMPARATOR (R460). -/
def execChopComparator (k : Fin 8) (phB above : Bool) (s : State) : Host.Outcome State Fault Refusal :=
  done (chopComparator k.val phB above s)

/-! Motions (R455 to R459). -/

/-- The motion of an axis ends (R455 to R457); a homed axis takes its position from the latched point (R459). -/
def axEnd (k : Nat) (s : State) : State :=
  let x := s.ax k
  let s := ((s.put (fAX_STAT_seg k) 0).put (fAX_STAT_kind k) 0).raise (fAX_STAT_done k)
  let s := (s.wr (aAX_SPEED k) 0).wr (aAX_LEFT k) 0
  let s := if x.homed then
      s.wr (aAX_POS k) (BitVec.ofNat 32 (lowBits 32 (s.axPos k - (s.rd (aAX_HOME_POS k)).toInt + (s.rd (aAX_HOME_VAL k)).toInt)))
    else s
  axIrq k 0 (s.putAx k { x with v2 := 0, stopping := false, toTarget := false, byLim := false, homed := false, idleSince := s.now })

/-- An axis halts: no step leaves any more (R457). -/
def axHalt (k : Nat) (s : State) : State := if s.axMoves k then axEnd k s else s

/-- A command is refused (R457). -/
def axRefuse (k : Nat) (s : State) : State := axIrq k 3 (s.raise (fAX_STAT_cmd_ref k))

def sq (x : Word) : Word := mul x x

/-- The braking distance at v² with the values of the ramp registers given (R456). -/
def brakeSteps (v2 vb vs d1 d2 : Word) : Nat :=
  let vb2 := sq vb
  let vs2 := sq vs
  let n := if F32.lt vb2 v2 then add (div (sub v2 vb2) (mul F32.two d2)) (div (sub vb2 vs2) (mul F32.two d1))
    else div (sub v2 vs2) (mul F32.two d1)
  if !F32.isFinite n then 2 ^ 32 else (-(F32.floor (F32.negate n))).toNat

/-- n_b of an axis at its present rate. -/
def State.nB (s : State) (k : Nat) : Nat :=
  brakeSteps (s.ax k).v2 (s.rd (aAX_VBREAK k)) (s.rd (aAX_VSTOP k)) (s.rd (aAX_D1 k)) (s.rd (aAX_D2 k))

/-- The rate ceiling of a motion: v_home in HOME, v_max otherwise (R459). -/
def State.vTop (s : State) (k : Nat) : Word := if s.get (fAX_STAT_kind k) = 3 then (s.ax k).vHome else s.rd (aAX_VMAX k)

/-- The segment that follows at v² (R455, R458): ACC1, ACC2, CRUISE, DEC2, DEC1; `dec` where the motion brakes to its end. -/
def State.axSeg (s : State) (k : Nat) (v2 : Word) (dec : Bool) : Nat :=
  let vb2 := sq (s.rd (aAX_VBREAK k))
  let t2 := sq (s.vTop k)
  let down := if F32.lt vb2 v2 then 4 else 5
  if dec || F32.lt t2 v2 then down
  else if F32.lt v2 (F32.min vb2 t2) then 1
  else if F32.lt v2 t2 then 2 else 3

/-- v² after a step in a segment (R455, R458), held at the segment's end. -/
def State.axNext (s : State) (k seg : Nat) (v2 : Word) (dec : Bool) : Word :=
  let vb2 := sq (s.rd (aAX_VBREAK k))
  let t2 := sq (s.vTop k)
  let twice (a : Nat) : Word := mul F32.two (s.rd a)
  let low := if dec then sq (s.rd (aAX_VSTOP k)) else t2
  match seg with
  | 1 => F32.min (F32.min vb2 t2) (add v2 (twice (aAX_A1 k)))
  | 2 => F32.min t2 (add v2 (twice (aAX_A2 k)))
  | 4 => F32.max (F32.max vb2 low) (sub v2 (twice (aAX_D2 k)))
  | 5 => F32.max low (sub v2 (twice (aAX_D1 k)))
  | _ => v2

/-- The interval after a step at rate v in fine ticks (R455). -/
def State.axInterval (s : State) (k : Nat) (v : Word) : Nat :=
  let lo := max 50 (2 * s.get (fAX_CFG_pw k))
  let n := if F32.lt 0 v then F32.toInt (div (F32.ofInt 100000000) v) else 2 ^ 24 - 1
  (clampI lo (2 ^ 24 - 1) (if F32.isFinite v then n else lo)).toNat * ns10

/-- The axis shows its rate and its segment. -/
def axShow (k : Nat) (v2 : Word) (seg : Nat) (s : State) : State :=
  ((s.putAx k { s.ax k with v2 := v2 }).wr (aAX_SPEED k) (F32.sqrt v2)).put (fAX_STAT_seg k) seg

/-- The axis brakes to v_stop and ends there (R457, R459). -/
def axBrake (k : Nat) (s : State) : State :=
  if !s.axMoves k then s
  else if F32.le (s.ax k).v2 (sq (s.rd (aAX_VSTOP k))) then axEnd k s
  else
    let s := s.putAx k { s.ax k with stopping := true, toTarget := false }
    s.put (fAX_STAT_seg k) (s.axSeg k (s.ax k).v2 true)

/-- The step timer elapses: a step leaves, and the next rate and segment follow (R455, R456). -/
def stepTimer (k : Nat) (s : State) : State :=
  if !s.axMoves k then s
  else
    let s := s.reach (s.ax k).nextAt
    let x := s.ax k
    let mode := s.get (fAX_CFG_mode k)
    let d : Int := if s.on (fAX_STAT_dir k) then -1 else 1
    let n : Int := s.microsteps k
    let s := s.wr (aAX_POS k) (BitVec.ofNat 32 (lowBits 32 (s.axPos k + d)))
    let x := if mode = 2 then { x with mIdx := ((x.mIdx + d) % n).toNat }
      else { x with pulseEnd := s.now + s.get (fAX_CFG_pw k) * ns10 }
    let s := chopRef k (s.putAx k x)
    let move := s.get (fAX_STAT_kind k) = 1
    let left := s.get (fAX_LEFT_n k) - 1
    let s := if move then s.wr (aAX_LEFT k) (BitVec.ofNat 32 left) else s
    if move && left = 0 then axEnd k s
    else
      let seg := s.axSeg k x.v2 x.stopping
      let late := move && left ≤ s.nB k
      let v2 := s.axNext k seg x.v2 x.stopping
      let s := s.putAx k { s.ax k with nextAt := s.now + s.axInterval k (F32.sqrt x.v2) }
      if x.stopping && !x.toTarget && F32.le v2 (sq (s.rd (aAX_VSTOP k))) then axEnd k s
      else
        let stop := x.stopping || late
        let s := s.putAx k { s.ax k with stopping := stop, toTarget := x.toTarget || (late && !x.stopping) }
        axShow k v2 (s.axSeg k v2 stop) s

/-- STEP_TIMER (R455). -/
def execStepTimer (k : Fin 8) (s : State) : Host.Outcome State Fault Refusal := done (stepTimer k.val s)

/-- May a motion start (R457)? -/
def State.axReady (s : State) (k : Nat) : Bool :=
  let v (a : Nat) : Word := s.rd a
  !s.axMoves k && s.get (fAX_CFG_mode k) ≠ 0 && !s.amu.brown &&
    F32.le (v (aAX_VSTART k)) (v (aAX_VBREAK k)) && F32.le (v (aAX_VBREAK k)) (v (aAX_VMAX k)) &&
    F32.le (v (aAX_VSTOP k)) (v (aAX_VBREAK k)) &&
    [aAX_A1 k, aAX_A2 k, aAX_D1 k, aAX_D2 k].all (fun a => F32.lt 0 (v a))

/-- A motion starts (R455, R457): the first step leaves 1 µs after the command. -/
def axStart (k kind : Nat) (back : Bool) (left : Nat) (target : Int) (s : State) : State :=
  let s := (((s.lower (fAX_STAT_cmd_ref k)).lower (fAX_STAT_done k)).lower (fAX_STAT_bo_stop k)).put (fAX_STAT_kind k) kind
  let s := (s.putB (fAX_STAT_dir k) back).wr (aAX_LEFT k) (BitVec.ofNat 32 left)
  let v0 := s.rd (aAX_VSTART k)
  let s := s.putAx k { s.ax k with nextAt := s.now + us, target := target, vHome := s.rd (aAX_VHOME k), stopping := false,
                                   toTarget := false, byLim := false, homed := false, hold := false }
  let v2 := sq (F32.min v0 (s.vTop k))
  chopRef k (axShow k v2 (s.axSeg k v2 false) s)

/-- Is the limit of a direction active? -/
def State.axLimit (s : State) (k : Nat) (back : Bool) : Bool := s.on (if back then fAX_STAT_limn k else fAX_STAT_limp k)

/-- A move that reaches its target in the present cycle ends before what else the cycle brings (R463). -/
def axSettle (k : Nat) (s : State) : State :=
  if s.axMoves k && s.get (fAX_STAT_kind k) = 1 && s.get (fAX_LEFT_n k) = 1 && (s.ax k).nextAt ≤ s.now then stepTimer k s else s

/-- A command of AX[k]_CMD (R457); other codes have no effect. Whether the cause of a chopper fault persists is open. -/
def axCmd (k code : Nat) (s : State) : State :=
  match code with
  | 1 =>
    let t := (s.rd (aAX_TARGET k)).toInt
    let d := t - s.axPos k
    let n := (if 0 ≤ d then d else -d).toNat
    if !s.axReady k || (d ≠ 0 && s.axLimit k (decide (d < 0))) then axRefuse k s
    else
      let s := axStart k 1 (decide (d < 0)) n t s
      if n = 0 then axEnd k s else s
  | 2 => if !s.axReady k || s.axLimit k false then axRefuse k s else axStart k 2 false 0 0 s
  | 3 => if !s.axReady k || s.axLimit k true then axRefuse k s else axStart k 2 true 0 0 s
  | 4 =>
    let s := axSettle k s
    if s.axMoves k then axBrake k (s.lower (fAX_STAT_cmd_ref k)) else axRefuse k s
  | 5 => axHalt k (s.lower (fAX_STAT_cmd_ref k))
  | 6 => if !s.axReady k || s.axLimit k false then axRefuse k s else axStart k 3 false 0 0 s
  | 7 => if !s.axReady k || s.axLimit k true then axRefuse k s else axStart k 3 true 0 0 s
  | 8 =>
    let (w, s) := s.freeWord
    if w.fld 0 1 = 1 then axRefuse k s
    else chopRef k ((s.lower (fAX_STAT_cmd_ref k)).lower (fAX_STAT_chop_fault k))
  | _ => s

/-- A write of AX[k]_CMD. -/
def axCmdAt (r : Req) (k code : Nat) (s : State) : State := access r (aAX_CMD k) true (axCmd k code) s

/-- MOVE (R457). -/
def execMoveAxis (r : Req) (k : Fin 8) (s : State) : Host.Outcome State Fault Refusal := done (axCmdAt r k.val 1 s)
/-- RUN_FORWARD (R457). -/
def execRunForward (r : Req) (k : Fin 8) (s : State) : Host.Outcome State Fault Refusal := done (axCmdAt r k.val 2 s)
/-- RUN_BACKWARD (R457). -/
def execRunBackward (r : Req) (k : Fin 8) (s : State) : Host.Outcome State Fault Refusal := done (axCmdAt r k.val 3 s)
/-- AXIS_STOP (R457). -/
def execAxisStop (r : Req) (k : Fin 8) (s : State) : Host.Outcome State Fault Refusal := done (axCmdAt r k.val 4 s)
/-- AXIS_HALT (R457). -/
def execAxisHalt (r : Req) (k : Fin 8) (s : State) : Host.Outcome State Fault Refusal := done (axCmdAt r k.val 5 s)
/-- HOME_FORWARD (R459). -/
def execHomeForward (r : Req) (k : Fin 8) (s : State) : Host.Outcome State Fault Refusal := done (axCmdAt r k.val 6 s)
/-- HOME_BACKWARD (R459). -/
def execHomeBackward (r : Req) (k : Fin 8) (s : State) : Host.Outcome State Fault Refusal := done (axCmdAt r k.val 7 s)
/-- CHOP_FAULT_CLEAR (R457). -/
def execChopFaultClear (r : Req) (k : Fin 8) (s : State) : Host.Outcome State Fault Refusal := done (axCmdAt r k.val 8 s)

/-! Writes while the axis moves (R457, R458). -/

/-- A write to d1, d2, v_break or v_stop (R458). -/
def rampWrite (k a : Nat) (v : Word) (s : State) : State :=
  let at_ (b : Nat) : Word := if b = a then v else s.rd b
  let kind := s.get (fAX_STAT_kind k)
  let dec := (s.ax k).stopping
  let far := kind = 1 && s.get (fAX_LEFT_n k) <
    brakeSteps (s.ax k).v2 (at_ (aAX_VBREAK k)) (at_ (aAX_VSTOP k)) (at_ (aAX_D1 k)) (at_ (aAX_D2 k))
  if s.axMoves k && (dec || far) then axIrq k 5 (s.raise (fAX_STAT_chg_ref k)) else storeAt a a v s

/-- The register a ramp write names. -/
def rampReg (k : Nat) : RampReg → Nat
  | .d1 => aAX_D1 k | .d2 => aAX_D2 k | .vBreak => aAX_VBREAK k | .vStop => aAX_VSTOP k

/-- RAMP_WRITE (R458). -/
def execRampWrite (r : Req) (k : Fin 8) (w : RampReg) (v : BitVec 32) (s : State) : Host.Outcome State Fault Refusal :=
  done (access r (rampReg k.val w) true (rampWrite k.val (rampReg k.val w) v) s)

/-- A write of AX[k]_POS (R457). -/
def axPosWrite (k : Nat) (v : Word) (s : State) : State := if s.axMoves k then axRefuse k s else storeAt (aAX_POS k) (aAX_POS k) v s

/-! Limits and home (R459, R463). -/

/-- A filtered limit input takes a level. -/
def limitInput (k : Nat) (pos lvl : Bool) (s : State) : State :=
  let s := axSettle k s
  let f := if pos then fAX_STAT_limp k else fAX_STAT_limn k
  let act := lvl == s.on (fAX_CFG_lim_pol k)
  let s := s.putB f act
  if !act || !s.axMoves k || s.on (fAX_STAT_dir k) == pos then s
  else
    let x := s.ax k
    let s := if x.homed && x.homeAt / ns10 = s.now / ns10 then
        (s.wr (aAX_HOME_POS k) x.homeOld).putAx k { x with homed := false } else s
    let s := axIrq k 1 (s.raise (fAX_STAT_lim_stop k))
    if s.on (fAX_CFG_lim_mode k) then axBrake k (s.putAx k { s.ax k with byLim := true }) else axEnd k s

/-- LIMIT (R459). -/
def execLimit (k : Fin 8) (pos lvl : Bool) (s : State) : Host.Outcome State Fault Refusal :=
  done (if s.isRun 11 then limitInput k.val pos lvl s else s)

/-- The filtered home input takes a level. -/
def homeInput (k : Nat) (lvl : Bool) (s : State) : State :=
  let act := lvl != s.on (fAX_CFG_home_pol k)
  let rise := act && !s.on (fAX_STAT_home k)
  let s := s.putB (fAX_STAT_home k) act
  let x := s.ax k
  if !rise || !s.axMoves k || s.get (fAX_STAT_kind k) ≠ 3 || x.homed || x.byLim then s
  else
    let s := s.putAx k { x with homed := true, homeAt := s.now, homeOld := s.rd (aAX_HOME_POS k) }
    axBrake k (axIrq k 2 (s.wr (aAX_HOME_POS k) (s.rd (aAX_POS k))))

/-- HOME_EDGE (R459). -/
def execHomeEdge (k : Fin 8) (lvl : Bool) (s : State) : Host.Outcome State Fault Refusal :=
  done (if s.isRun 11 then homeInput k.val lvl s else s)

/-! Chopper fault and holding current (R460). -/

/-- 200 µs. -/
def driveMax : Nat := 200 * us

/-- The phase whose DRIVE has lasted longest. -/
def State.longDrive (s : State) (k : Nat) : Option Nat :=
  (([s.axPh k false, s.axPh k true].filter (fun p => p.drive && decide (p.sgn ≠ 0))).map (fun p => p.since)).min?

/-- A DRIVE lasts longer than 200 µs (R460, R463). -/
def chopFault (k : Nat) (s : State) : State :=
  if !s.chopOn k then s
  else match s.longDrive k with
    | none => s
    | some t =>
      let s := axHalt k (s.reach (t + driveMax + 1))
      axIrq k 4 ((chopOff k (s.raise (fAX_STAT_chop_fault k))).incrSat (fAX_CHOP_FCNT_cnt k))

/-- CHOP_FAULT (R460). -/
def execChopFault (k : Fin 8) (s : State) : Host.Outcome State Fault Refusal := done (chopFault k.val s)

/-- An idle axis takes its holding current (R460). -/
def holdCurrent (k : Nat) (s : State) : State :=
  let t := s.get (fAX_CHOP_TIM_t_hold_cur k)
  if s.get (fAX_CFG_mode k) ≠ 2 || s.axMoves k || t = 0 || (s.ax k).hold then s
  else
    let s := s.reach ((s.ax k).idleSince + t * ms)
    chopRef k (s.putAx k { s.ax k with hold := true })

/-- HOLD_CURRENT (R460). -/
def execHoldCurrent (k : Fin 8) (s : State) : Host.Outcome State Fault Refusal := done (holdCurrent k.val s)

/-! Commits, episodes, reset (R461, R462, R469). -/

/-- Moving axes whose AX[k]_CFG a commit writes halt before it applies (R469). -/
def amuBefore (s : State) : State :=
  s.each (List.range 8) (fun k s => if (Tab.find s.cmt (aAX_CFG k)).isSome then axHalt k s else s)

/-- What a commit of the AMU brings with it. -/
def amuConfig (o s : State) : State :=
  s.each (List.range 8) (fun k s =>
    let s := if s.get (fAX_CFG_mode k) ≠ o.get (fAX_CFG_mode k) then
        chopOff k (s.putAx k { s.ax k with idleSince := s.now, hold := false }) else s
    let s := if s.on (fAX_CHOP_CFG_adapt k) then s else s.wr (aAX_CHOP_STAT k) 0
    let n := s.microsteps k
    chopRef k (s.putAx k { s.ax k with mIdx := (s.ax k).mIdx % n }))

/-- A brown-out warning episode starts (R462). -/
def amuBrown (s : State) : State :=
  let s := s.each (List.range 8) (fun k s => if s.axMoves k then axHalt k (s.raise (fAX_STAT_bo_stop k)) else s)
  let s := s.each (List.range 8) chopOff
  s.setAmu { s.amu with brown := true }

/-- The episode ends. -/
def amuBrownEnd (s : State) : State :=
  let s := s.setAmu { s.amu with brown := false }
  s.each (List.range 8) chopRef

/-- A reset or power-down of the island begins: every motion ends and every output is low (R462). -/
def amuBegins (s : State) : State := s.each (List.range 8) (fun k s => chopOff k (axHalt k s))

/-- The AMU island is reset (R462). -/
def amuReset (s : State) : State := s.setAmu { s.amu with axes := [] }

/-- AMU_STAT.moving as it reads (R470). -/
def State.amuMoving (s : State) : Nat := (List.range 8).foldl (fun x k => if s.axMoves k then x + 2 ^ k else x) 0

end Sys2Proof.Machine
end

