-- ==== Sys2Proof/Machine/Can.lean ====
section
/-! DEFINITION. The CAN controllers (14_can.md R472 to R490). The error counters follow ISO 11898-1:2015, which is outside the
spec (PRESUMED, log entry 32); other readings stand in the same entry. -/
namespace Sys2Proof.Machine

/-- A controller. -/
def State.can (s : State) (c : Nat) : CanSt := Tab.get {} s.cans c
def State.putCan (s : State) (c : Nat) (x : CanSt) : State := s.setCans (Tab.set {} s.cans c x)

/-- The header page of a controller, its interrupt sources and error bits. -/
def canHdr (c : Nat) : Nat := 0x400A0000 + c % 4 * 0x1000
def canIrq (c i : Nat) (s : State) : State := s.irq (canHdr c) i
def canErr (c i : Nat) (s : State) : State := s.errSet (canHdr c) i

/-- The block of a controller. -/
def canBlock (c : Nat) : Block := .can ⟨c % 4, Nat.mod_lt _ (by decide)⟩

/-- Is buffer b pending, and does it hold an unread frame (R492)? -/
def State.mbPend (s : State) (c b : Nat) : Bool := s.bitAt (aCAN_TXPEND c 0) b
def State.mbNew (s : State) (c b : Nat) : Bool := s.bitAt (aCAN_NEW c 0) b
/-- The pending buffers. -/
def State.mbPending (s : State) (c : Nat) : List Nat := (List.range 64).filter (s.mbPend c)

/-- The applied mode and the error state (R473, R484). -/
def State.canMode (s : State) (c : Nat) : Nat := s.get (fCAN_PSTAT_mode c)
def State.canE (s : State) (c : Nat) : Nat := s.get (fCAN_PSTAT_estate c)

/-- Does buffer b of controller c belong to an enabled safe-message channel (R478; 11_machine_safety_io.md R407)? -/
def State.mbOwned (s : State) (c b : Nat) : Bool :=
  48 ≤ b && s.on (fMSIO_SM_CFG_en (b - 48)) && s.get (fMSIO_SM_CFG_pair (b - 48)) == c / 2

/-- Data words of a buffer. -/
def State.mbWord (s : State) (c b w : Nat) : Word := Tab.get 0 (s.can c).mb (16 * b + w)
def putMbWord (c b w : Nat) (v : Word) (s : State) : State :=
  let x := s.can c
  s.putCan c { x with mb := Tab.set 0 x.mb (16 * b + w) v }

/-- Bytes of a data length code (R472). -/
def dlcBytes (fdf : Bool) (dlc : Nat) : Nat :=
  if dlc ≤ 8 then dlc
  else if !fdf then 8
  else match dlc with | 9 => 12 | 10 => 16 | 11 => 20 | 12 => 24 | 13 => 32 | 14 => 48 | _ => 64

/-- The words of a list of bytes, the last filled with zeros. -/
def bytesWords (bs : List Byte) : List Word :=
  (List.range ((bs.length + 3) / 4)).map (fun i =>
    BitVec.ofNat 32 ((List.range 4).foldl (fun x j => x + (bs.getD (4 * i + j) 0).toNat * 256 ^ j) 0))

/-- The bytes of a buffer. -/
def State.mbBytes (s : State) (c b n : Nat) : List Byte :=
  ((List.range 16).flatMap (fun w => wordBytes (s.mbWord c b w))).take n

/-- The bytes of a received frame enter a buffer; bytes beyond them keep their values. -/
def putMbBytes (c b : Nat) (bs : List Byte) (s : State) : State :=
  let all := bs ++ (s.mbBytes c b 64).drop bs.length
  s.each (bytesWords (all.take 64)).zipIdx (fun (v, w) s => putMbWord c b w v s)

/-- A timestamp in 100 ns (R477). -/
def canTs (sof : Nat) : Word := BitVec.ofNat 32 (sof / 32 / 40)

/-! Error confinement (R484, R485). -/

/-- PSTAT shows the counters, saturating. -/
def canShow (c : Nat) (s : State) : State :=
  let x := s.can c
  (s.put (fCAN_PSTAT_tec c) (min 255 x.tec)).put (fCAN_PSTAT_rec c) (min 255 x.rxe)

/-- The error state that follows from the counters, for a controller that takes part in bus traffic (R484, R485). -/
def canConfine (c : Nat) (snd : Option Nat) (s : State) : State :=
  let s := canShow c s
  let x := s.can c
  let e := s.canE c
  if 2 ≤ e then s
  else if 256 ≤ x.tec then
    let s := s.put (fCAN_PSTAT_estate c) 2
    let s := (canErr c 20 (canIrq c 10 s)).incrSat (fCAN_BUSOFF_CNT_cnt c)
    s.record 0x78 (canBlock c) [BitVec.ofNat 8 (min 255 x.tec), BitVec.ofNat 8 (min 255 x.rxe),
      BitVec.ofNat 8 (match snd with | some b => b | none => 0xFF)]
  else if 128 ≤ x.tec || 128 ≤ x.rxe then
    (if e = 1 then s else canIrq c 9 (s.put (fCAN_PSTAT_estate c) 1))
  else s.put (fCAN_PSTAT_estate c) 0

/-! Transmission (R482, R483). -/

/-- The arbitration field of a pending buffer as a number: the lowest wins. -/
def State.arbKey (s : State) (c b : Nat) : Nat :=
  let w := s.rd (aCAN_MB_ID c b)
  let rtr := if s.on (fCAN_MB_CFG_fdf c b) then 0 else w.fld 30 1
  if w.fld 31 1 = 1 then w.fld 18 11 * 2 ^ 21 + 2 ^ 20 + 2 ^ 19 + w.fld 0 18 * 2 + rtr
  else w.fld 18 11 * 2 ^ 21 + rtr * 2 ^ 20

/-- The pending buffer whose frame would win arbitration; equal frames go to the lower one (R482). -/
def State.bestPending (s : State) (c : Nat) : Option Nat :=
  (s.mbPending c).foldl (fun o b => match o with
    | none => some b
    | some x => if s.arbKey c b < s.arbKey c x then some b else o) none

/-- May the controller send (R473, R482, R488)? -/
def State.canSends (s : State) (c : Nat) : Bool :=
  (s.canMode c == 1 || s.canMode c == 4) && decide (s.canE c ≤ 1) && s.isRun 12

/-- A start of frame of this controller: on an idle bus the chosen pending buffer goes out (R482). -/
def canArb (c : Nat) (s : State) : State :=
  let x := s.can c
  if x.busy || x.cur.isSome || !s.canSends c then s
  else match s.bestPending c with
    | some b => ((s.putCan c { x with cur := some b, busy := true }).raise (fCAN_PSTAT_txing c)).raise (fCAN_PSTAT_busy c)
    | none => s

/-- The buffer on the bus; where none is known, the pending buffer the controller would have chosen. -/
def State.onBus (s : State) (c : Nat) : Option Nat :=
  match (s.can c).cur with
  | some b => some b
  | none => if s.canSends c then s.bestPending c else none

/-- A frame is on the bus until the boundary. -/
def canBusy (c : Nat) (s : State) : State := (s.putCan c { s.can c with busy := true }).raise (fCAN_PSTAT_busy c)

/-- The attempt in progress is over. -/
def canIdle (c : Nat) (s : State) : State := (s.putCan c { s.can c with cur := none }).lower (fCAN_PSTAT_txing c)

/-- A request ends without success (R483). -/
def txAbort (c b : Nat) (s : State) : State :=
  if !s.mbPend c b then s
  else
    let s := (s.putBit (aCAN_TXPEND c 0) b false).incr (fCAN_TX_ABT_cnt c)
    let x := s.can c
    canIrq c 8 (s.putCan c { x with abortReq := x.abortReq.filter (· ≠ b) })

/-- An attempt of a buffer fails (R483): a waiting abort and a oneshot request end. -/
def attemptFails (c b : Nat) (s : State) : State :=
  let s := canIdle c s
  if (s.can c).abortReq.contains b || s.on (fCAN_MB_CFG_oneshot c b) then txAbort c b s else s

/-- Op 1: a transmit buffer in use becomes pending (R482). -/
def txRequest (c b : Nat) (s : State) : State :=
  if s.mbPend c b || !s.on (fCAN_MB_CFG_en c b) || !s.on (fCAN_MB_CFG_dir c b) then canErr c 19 s
  else
    let s := (s.putBit (aCAN_TXPEND c 0) b true).incr (fCAN_TX_REQ_cnt c)
    canArb c (s.lower (fCAN_MB_STAT_idcoll c b))

/-- Op 2: a pending request is aborted, at once or with the attempt in progress (R483). -/
def txCancel (c b : Nat) (s : State) : State :=
  let x := s.can c
  if !s.mbPend c b then s
  else if x.cur = some b then s.putCan c { x with abortReq := x.abortReq.filter (· ≠ b) ++ [b] }
  else txAbort c b s

/-- A write of CAN[c]_MB_CMD by a requester (R478, R482, R483). -/
def mbCmd (c : Nat) (d : Word) (s : State) : State :=
  let b := d.fld 0 6
  let op := d.fld 8 2
  if s.mbOwned c b then canErr c 18 s
  else if op = 1 then txRequest c b s
  else if op = 2 then txCancel c b s
  else s

/-- TX_REQUEST (R482). -/
def execTxRequest (r : Req) (c : Fin 4) (b : Fin 64) (s : State) : Host.Outcome State Fault Refusal :=
  done (access r (aCAN_MB_CMD c.val) true (mbCmd c.val (BitVec.ofNat 32 (0x100 + b.val))) s)

/-- TX_ABORT (R483). -/
def execTxAbort (r : Req) (c : Fin 4) (b : Fin 64) (s : State) : Host.Outcome State Fault Refusal :=
  done (access r (aCAN_MB_CMD c.val) true (mbCmd c.val (BitVec.ofNat 32 (0x200 + b.val))) s)

/-! Reception (R479 to R481). -/

/-- Bits [31:30] and [28:0] agree under a mask (R479, R481). -/
def idMatch (id want mask : Word) : Bool := (id ^^^ want) &&& mask &&& 0xDFFFFFFF == 0

/-- The receive buffers in use that match, in ascending order (R479). -/
def State.mbMatches (s : State) (c : Nat) (id : Word) : List Nat :=
  (List.range 64).filter (fun b => s.on (fCAN_MB_CFG_en c b) && !s.on (fCAN_MB_CFG_dir c b) &&
    idMatch id (s.rd (aCAN_MB_ID c b)) (s.rd (aCAN_MB_MASK c b)))

/-- A buffer takes a frame (R479, R480). -/
def mbStore (c b : Nat) (id info : Word) (ts : Word) (bs : List Byte) (s : State) : State :=
  let s := if s.mbNew c b then s.incr (fCAN_RX_OVW_cnt c) else s
  let s := (s.incr (fCAN_RX_STORE_cnt c)).putBit (aCAN_NEW c 0) b true
  let s := (s.put ⟨aCAN_MB_STAT c b, 13, 7⟩ (info.fld 13 7)).incr (fCAN_MB_STAT_upd c b)
  let s := ((s.wr (aCAN_MB_RXID c b) id).wr (aCAN_MB_TS c b) ts)
  let s := canIrq c 4 (putMbBytes c b bs s)
  if !s.mbOwned c b then s
  else
    let x := Tab.get ({} : SmSt) s.msio.sm (b - 48)
    s.setMsio { s.msio with sm := Tab.set {} s.msio.sm (b - 48) { x with rx := x.rx ++ [(c % 2 == 1, bs)] } }

/-- A frame goes to the FIFO (R481). -/
def fifoStore (c : Nat) (f : CanRx) (s : State) : State :=
  let x := s.can c
  let full := 32 ≤ x.fifo.length
  if full && !s.on (fCAN_MODE_fifo_ovw c) then canIrq c 6 (s.incr (fCAN_RX_DROP_cnt c))
  else
    let s := if full then canIrq c 6 (s.incr (fCAN_RX_OVW_cnt c)) else s
    let q := (if full then x.fifo.drop 1 else x.fifo) ++ [f]
    let s := (s.putCan c { s.can c with fifo := q }).incr (fCAN_RX_STORE_cnt c)
    let s := s.put (fCAN_FIFO_STAT_fill c) q.length
    if q.length = s.get (fCAN_MODE_fifo_wm c) && !full then canIrq c 5 s else s

/-- A frame received without error is placed (R479). -/
def canPlace (c : Nat) (id info ts : Word) (bs : List Byte) (s : State) : State :=
  let s := s.incr (fCAN_RX_OK_cnt c)
  let ms := s.mbMatches c id
  match ms.find? (fun b => !s.mbNew c b || s.on (fCAN_MB_CFG_ovw c b) || s.mbOwned c b) with
  | some b => mbStore c b id info ts bs s
  | none =>
    if idMatch id (s.rd (aCAN_FIFO_FID c)) (s.rd (aCAN_FIFO_FMASK c)) then
      fifoStore c { id := id, info := info, ts := ts, data := bytesWords bs } s
    else if ms.isEmpty then s.incr (fCAN_RX_FILT_cnt c)
    else s.incr (fCAN_RX_DROP_cnt c)

/-- The DLC and the flags of a frame in the places of MB_STAT and FIFO_INFO. -/
def frameInfo (dlc : Nat) (fdf brs esi : Bool) : Word :=
  BitVec.ofNat 32 (dlc * 2 ^ 16 + fdf.toNat * 2 ^ 15 + brs.toNat * 2 ^ 14 + esi.toNat * 2 ^ 13)

/-- The receive error counter after a frame received without error: above 127 it returns to a value from 119 to 127. -/
def rxSuccess (c : Nat) (s : State) : State :=
  let x := s.can c
  if x.rxe = 0 then s
  else if x.rxe < 128 then s.putCan c { x with rxe := x.rxe - 1 }
  else
    let (w, s) := s.freeWord
    s.putCan c { x with rxe := 119 + w.toNat % 9 }

/-- A counter of detected errors by kind (R492). -/
def errKind (c : Nat) : CanErr → Fld
  | .bit => fCAN_ECNT_bit c | .stuffForm => fCAN_ECNT_stuff_form c | .crc => fCAN_ECNT_crc c | .ack => fCAN_ECNT_ack c

/-- An error detected as a receiver (R484). -/
def rxError (c : Nat) (kind : CanErr) (s : State) : State :=
  let s := s.incrSat (errKind c kind)
  let x := s.can c
  -- RESTRICTED and MONITOR do not take part in fault confinement
  let s := if s.canMode c = 1 then s.putCan c { x with rxe := min 255 (x.rxe + 1) } else s
  canBusy c (canConfine c none s)

/-- Does the controller receive (R473, R484, R488)? A frame in progress completes in DRAIN. -/
def State.canHears (s : State) (c : Nat) : Bool :=
  let m := s.canMode c
  (m == 1 || m == 2 || m == 3) && decide (s.canE c ≤ 1) && ((s.warden 12).st == .run || (s.warden 12).st == .drain)

/-- A frame on the bus that this controller did not send. -/
def frameIn (c : Nat) (f : CanFrame) (sof : Nat) (s : State) : State :=
  if !s.canHears c then s
  else
    let s := s.reach sof
    if f.fdf && !s.on (fCAN_MODE_fd_en c) then rxError c .stuffForm s
    else
      let dlc := f.dlc.val
      let bs := if Word.fld f.id 30 1 = 1 && !f.fdf then [] else f.data.take (dlcBytes f.fdf dlc)
      let s := canBusy c s
      let s := if s.canMode c = 1 then canConfine c none (rxSuccess c s) else s
      canPlace c f.id (frameInfo dlc f.fdf f.brs f.esi) (canTs sof) bs s

/-- FRAME_RECEIVED (R479). A frame with more than 64 bytes cannot exist. -/
def execFrameReceived (c : Fin 4) (f : CanFrame) (sof : Nat) (s : State) : Host.Outcome State Fault Refusal :=
  if 64 < f.data.length then .fault .malformed else done (frameIn c.val f sof s)

/-- CAN[c]_CMD.pop (R481). -/
def fifoPop (c : Nat) (s : State) : State :=
  let x := s.can c
  let q := x.fifo.drop 1
  (s.putCan c { x with fifo := q }).put (fCAN_FIFO_STAT_fill c) q.length

/-- A frame of this controller succeeds (R477, R482). -/
def frameOut (c sof : Nat) (s : State) : State :=
  match s.onBus c with
  | none => s
  | some b =>
    let s := s.reach sof
    let cfg := s.rd (aCAN_MB_CFG c b)
    let fdf := cfg.fld 29 1 == 1
    let brs := fdf && cfg.fld 28 1 == 1 && s.on (fCAN_MODE_brs_en c)
    let dlc := cfg.fld 16 4
    let id := s.rd (aCAN_MB_ID c b)
    let bs := if id.fld 30 1 = 1 && !fdf then [] else s.mbBytes c b (dlcBytes fdf dlc)
    let s := canBusy c (canIdle c s)
    let s := (s.putBit (aCAN_TXPEND c 0) b false).incr (fCAN_TX_OK_cnt c)
    let s := canIrq c 7 ((s.wr (aCAN_MB_TS c b) (canTs sof)).put (fCAN_MB_STAT_icr c b) 0)
    let x := s.can c
    let s := s.putCan c { x with tec := x.tec - 1, abortReq := x.abortReq.filter (· ≠ b) }
    let s := canConfine c none s
    let s := if brs && s.on (fCAN_TDC_en c) then
        let (w, s) := s.freeWord
        s.put (fCAN_PSTAT_tdcv c) (w.toNat % 127)
      else s
    if s.canMode c = 4 then canPlace c id (frameInfo dlc fdf brs false) (canTs sof) bs s else s

/-- FRAME_TRANSMITTED (R482). -/
def execFrameTransmitted (c : Fin 4) (sof : Nat) (s : State) : Host.Outcome State Fault Refusal := done (frameOut c.val sof s)

/-! Errors on the bus (R483 to R486). -/

/-- Is the field one of a frame this controller transmits? -/
def isTx : CanField → Bool
  | .rx => false
  | _ => true

/-- TEC after an error of a transmitter (ISO 11898-1): 8 more, but for a missing acknowledgement while error passive and for
a stuff error during arbitration on a recessive bit. -/
def txErrTec (passive : Bool) (kind : CanErr) (recessive : Bool) (f : CanField) (t : Nat) : Nat :=
  if kind = .ack && passive then t
  else if kind = .stuffForm && f = .txArbitration && recessive then t
  else t + 8

/-- An error while this controller transmits (R483, R484, R486). -/
def txError (c b : Nat) (kind : CanErr) (recessive : Bool) (f : CanField) (s : State) : State :=
  let s := s.incrSat (errKind c kind)
  let x := s.can c
  let s := s.putCan c { x with tec := txErrTec (s.canE c == 1) kind recessive f x.tec }
  let coll := kind = .bit && recessive && (f = .txControl || f = .txData)
  let s := canBusy c s
  let s :=
    if coll then
      let s := (s.incrSat (fCAN_IDCOLL_cnt c)).put (fCAN_MB_STAT_icr c b) ((s.get (fCAN_MB_STAT_icr c b) + 1) % 16)
      if s.get (fCAN_MB_STAT_icr c b) = 8 then
        let s := txAbort c b (canIdle c s)
        let s := canErr c 21 (canIrq c 11 ((s.raise (fCAN_MB_STAT_idcoll c b)).put (fCAN_MB_STAT_icr c b) 0))
        s.record 0x79 (canBlock c) ([BitVec.ofNat 8 b, 0, 0, 0] ++ wordBytes (s.rd (aCAN_MB_ID c b)) ++
          [BitVec.ofNat 8 (min 255 (s.can c).tec)])
      else attemptFails c b s
    else attemptFails c b (s.put (fCAN_MB_STAT_icr c b) 0)
  canConfine c (some b) s

/-- A detected error (R484). -/
def busError (c : Nat) (kind : CanErr) (recessive : Bool) (f : CanField) (s : State) : State :=
  if isTx f then
    match s.onBus c with
    | some b => txError c b kind recessive f s
    | none => s
  else if s.canHears c then rxError c kind s else s

/-- BUS_ERROR (R484). -/
def execBusError (c : Fin 4) (kind : CanErr) (recessive : Bool) (f : CanField) (s : State) :
    Host.Outcome State Fault Refusal := done (busError c.val kind recessive f s)

/-- ARBITRATION_LOSS (R482, R483, R486). -/
def execArbitrationLoss (c : Fin 4) (s : State) : Host.Outcome State Fault Refusal :=
  let c := c.val
  done (match s.onBus c with
    | some b => attemptFails c b (canBusy c (s.put (fCAN_MB_STAT_icr c b) 0))
    | none => s)

/-! Modes and recovery (R473, R485). -/

/-- A mode that has become effective is applied (R473, R483, R485). -/
def canModeSync (c : Nat) (s : State) : State :=
  let m := s.get (fCAN_MODE_mode c)
  let was := s.canMode c
  if m = was then s
  else
    let s := s.put (fCAN_PSTAT_mode c) m
    if m = 0 then
      let s := s.each (s.mbPending c) (txAbort c)
      let s := canIdle c s
      if s.canE c = 2 then s else s.put (fCAN_PSTAT_estate c) 3
    else if was = 0 && s.canE c ≠ 2 then s.put (fCAN_PSTAT_estate c) 3
    else canArb c s

/-- 11 recessive bits in a row: the controller takes part in bus traffic (R473). -/
def integrate (c : Nat) (s : State) : State :=
  if s.canMode c = 0 || s.canE c ≠ 3 || (s.can c).recov then s
  else canArb c (canConfine c none (s.put (fCAN_PSTAT_estate c) 0))

/-- INTEGRATION (R473). -/
def execIntegration (c : Fin 4) (s : State) : Host.Outcome State Fault Refusal := done (integrate c.val s)

/-- CAN[c]_CMD.recover (R485, R489). -/
def canRecover (c : Nat) (s : State) : State :=
  let next := ((Tab.get {} s.bnd (aCAN_MODE c)).on (s.rd (aCAN_MODE c))).fld 0 3
  if s.canE c ≠ 2 || next = 0 then canErr c 19 s
  else (s.putCan c { s.can c with recov := true }).put (fCAN_PSTAT_estate c) 3

/-- A write of CAN[c]_CMD. -/
def canCmd (c : Nat) (d : Word) (s : State) : State :=
  (s.when (d.fld 0 1 == 1) (fifoPop c)).when (d.fld 8 1 == 1) (canRecover c)

/-- RECOVER (R485). -/
def execRecover (r : Req) (c : Fin 4) (s : State) : Host.Outcome State Fault Refusal :=
  done (access r (aCAN_CMD c.val) true (canCmd c.val 0x100) s)

/-- POP (R481). -/
def execPop (r : Req) (c : Fin 4) (s : State) : Host.Outcome State Fault Refusal :=
  done (access r (aCAN_CMD c.val) true (canCmd c.val 1) s)

/-- BUS_OFF_RECOVERY (R485): 128 occurrences of 11 recessive bits have passed. -/
def busOffRecovery (c : Nat) (s : State) : State :=
  let x := s.can c
  if !x.recov then s
  else canArb c (canShow c ((s.putCan c { x with recov := false, tec := 0, rxe := 0 }).put (fCAN_PSTAT_estate c) 0))

/-- BUS_OFF_RECOVERY. -/
def execBusOffRecovery (c : Fin 4) (s : State) : Host.Outcome State Fault Refusal := done (busOffRecovery c.val s)

/-! Boundary, writes and reset (R474, R478, R482, R487, R488, R490). -/

/-- The frame counts balance (R487). -/
def State.canBalanced (s : State) (c : Nat) : Bool :=
  let n (f : Nat → Fld) : Nat := s.get (f c)
  n fCAN_TX_REQ_cnt == (n fCAN_TX_OK_cnt + n fCAN_TX_ABT_cnt + (s.mbPending c).length) % 2 ^ 32 &&
  n fCAN_RX_OK_cnt == (n fCAN_RX_STORE_cnt + n fCAN_RX_FILT_cnt + n fCAN_RX_DROP_cnt) % 2 ^ 32

/-- A frame ends on the bus (R490): the bus is idle, and what waits for the boundary applies. -/
def canBoundary (c : Nat) (s : State) : State :=
  let s := (canIdle c (s.putCan c { s.can c with busy := false })).lower (fCAN_PSTAT_busy c)
  let s := applyBnd (fun a => canHdr c ≤ a && a < canHdr c + 0x1000) s
  let s := canModeSync c s
  let s := if s.canBalanced c then s else conservationEvent (canBlock c) (canErr c 16 s)
  canArb c s

/-- May NBT, DBT take a value: the bit time has at least 80 or 10 CAN clocks (R474)? -/
def nbtOk (d : Word) : Bool := 80 ≤ (d.fld 8 8 + d.fld 0 7 + 3) * (d.fld 23 9 + 1)
def dbtOk (d : Word) : Bool := 10 ≤ (d.fld 8 5 + d.fld 4 4 + 3) * (d.fld 16 5 + 1)

/-- A write into a controller's page at offset o, but for the commands and the windows (R473, R474, R478, R482). -/
def canWrite (c o a : Nat) (d : Word) (s : State) : State :=
  let init := s.canMode c = 0
  if o = 0x40 then (if init && nbtOk d then storeAt a a d s else canErr c 19 s)
  else if o = 0x44 then (if init && dbtOk d then storeAt a a d s else canErr c 19 s)
  else if o = 0x48 then (if init then storeAt a a d s else canErr c 19 s)
  else if o = 0x4C then
    let v := if init then d else d.ins 8 3 ((s.rd a).fld 8 3)
    canModeSync c (storeAt a a v s)
  else if 0x200 ≤ o && o < 0x600 then
    let b := (o - 0x200) / 0x10
    if s.mbOwned c b then canErr c 18 s
    else if s.mbPend c b && o % 0x10 ≠ 4 then canErr c 17 s
    else storeAt a a d s
  else storeAt a a d s

/-- A write of the data window (R478, R482). -/
def mbDataWrite (r : Req) (c w : Nat) (d : Word) (s : State) : State :=
  let b := (s.rd (bank r (aCAN_MB_SEL c))).fld 0 6
  if s.mbOwned c b then canErr c 18 s
  else if s.mbPend c b then canErr c 17 s
  else putMbWord c b w d s

/-- RETIRE of the island (R488): a frame on the bus is cut, pending requests count, and the counters are recorded. -/
def canRetire (s : State) : State :=
  s.each [0, 1, 2, 3] (fun c s =>
    let s := canIdle c (s.each (s.mbPending c) (txAbort c))
    let n (f : Nat → Nat) : List Byte := wordBytes (s.rd (f c))
    s.record 0x7A (canBlock c) ([0, 0, 0, 0] ++ n aCAN_TX_REQ ++ n aCAN_TX_OK ++ n aCAN_TX_ABT ++ n aCAN_RX_OK ++ n aCAN_RX_STORE
      ++ n aCAN_RX_FILT ++ n aCAN_RX_DROP))

/-- The CAN island is reset (R488). -/
def canReset (s : State) : State := s.setCans []

/-- MB_STAT with its copies of pend and new (R492). -/
def State.mbStat (s : State) (c b : Nat) : Word :=
  ((s.rd (aCAN_MB_STAT c b)).ins 25 1 (s.mbPend c b).toNat).ins 27 1 (s.mbNew c b).toNat

end Sys2Proof.Machine
end

