-- ==== Sys2Proof/Machine/InstantCommands.lean ====
section
/-! DEFINITION. Sample instants of contexts with the records that GIU and FBI send for them (03_basil_control_engine.md R81,
R83; 05_grid_and_pv.md R161; 13_feedback_and_aux_axes.md R449), and TRIG. -/
namespace Sys2Proof.Machine

/-- After an instant at `t` began a step, GIU and FBI send the records its context reads. -/
def instantRecords (k t : Nat) (s : State) : State :=
  let c := s.ctx k
  if c.st = .run && c.ph = .waiting && c.tS = t then fbiRecords k t (giuRecords k t s) else s

/-- SAMPLE_INSTANT (R81): the next one of a context in RUN or one whose START waits; nothing otherwise. -/
def execSampleInstant (k : Fin 128) (s : State) : Host.Outcome State Fault Refusal :=
  let k := k.val
  let c := s.ctx k
  done (if c.st = .run || c.startPend then
    match s.nextInstant k with
    | some t =>
      let s := s.reach t
      instantRecords k s.now (instantAt k s.now s)
    | none => s
  else s)

/-- TRIG (R73, R81): a write of CTX_W_CMD with the records of the instant. -/
def trigCtx (k : Nat) (s : State) : State :=
  let t := s.now
  let had := (s.ctx k).tS == t && (s.ctx k).ph == .waiting
  let s := ctxCmd k 6 s
  if had then s else instantRecords k t s

/-- TRIG. -/
def execTrig (r : Req) (s : State) : Host.Outcome State Fault Refusal := done (access r aCTX_W_CMD true (fun s => trigCtx (s.wsel r) s) s)

end Sys2Proof.Machine
end

