-- ==== Sys2Proof/Machine/Msio.lean ====
section
/-! DEFINITION. Machine safety inputs and outputs (11_machine_safety_io.md R392 to R413). Readings the rules leave open stand in
log entry 33. -/
namespace Sys2Proof.Machine

def State.si (s : State) (i : Nat) : SiSt := Tab.get {} s.msio.si i
def State.putSi (s : State) (i : Nat) (x : SiSt) : State := s.setMsio { s.msio with si := Tab.set {} s.msio.si i x }
def State.ev (s : State) (k : Nat) : EvSt := Tab.get {} s.msio.ev k
def State.putEv (s : State) (k : Nat) (x : EvSt) : State := s.setMsio { s.msio with ev := Tab.set {} s.msio.ev k x }
def State.so (s : State) (j : Nat) : SoSt := Tab.get {} s.msio.so j
def State.putSo (s : State) (j : Nat) (x : SoSt) : State := s.setMsio { s.msio with so := Tab.set {} s.msio.so j x }
def State.sm (s : State) (c : Nat) : SmSt := Tab.get {} s.msio.sm c
def State.putSm (s : State) (c : Nat) (x : SmSt) : State := s.setMsio { s.msio with sm := Tab.set {} s.msio.sm c x }

def msioIrq (i : Nat) (s : State) : State := s.irq 0x400B0000 i
def msioErr (i : Nat) (s : State) : State := s.errSet 0x400B0000 i

/-! Safety outputs (R401 to R404). -/

/-- The output whose configuration governs output j: the even one of a pair (R402). -/
def State.soCfg (s : State) (j : Nat) : Nat := if j % 2 = 1 && s.on (fMSIO_SO_CFG_pair (j - 1)) then j - 1 else j
/-- Is the output one of a pair, and which is its partner (R402)? -/
def State.soPaired (s : State) (j : Nat) : Bool := s.on (fMSIO_SO_CFG_pair (j / 2 * 2))
def soPartner (j : Nat) : Nat := if j % 2 = 0 then j + 1 else j - 1
/-- A fault of the output is latched (R404). -/
def State.soFault (s : State) (j : Nat) : Bool := s.bitAt aMSIO_SO_STAT (16 + j)

/-- State and type of an evaluator. -/
def State.evState (s : State) (k : Nat) : Nat := s.get (fMSIO_EV_STAT_state k)
def State.evType (s : State) (k : Nat) : Nat := s.get (fMSIO_EV_CFG_type k)
/-- Does an evaluator's so_mask include the output (R402: of a pair, that of the even one)? -/
def State.evMaps (s : State) (k j : Nat) : Bool := (s.get (fMSIO_EV_CFG_so_mask k)) / 2 ^ s.soCfg j % 2 == 1

/-- The conditions under which an output is driven high outside its off-pulses (R401, R405). An evaluator with type OFF takes no
part (Caution after R400). -/
def State.soWanted (s : State) (j : Nat) : Bool :=
  let g := s.soCfg j
  let clear := !s.soFault j && !(s.soPaired j && s.soFault (soPartner j)) && !s.sage.lost && s.isRun 4
  s.on (fMSIO_SO_CFG_en j) && clear &&
    (s.on (fMSIO_SO_CFG_mode g) ||
      (s.bitAt aMSIO_SO_CMD g && (List.range 8).all (fun k => s.evType k == 0 || !s.evMaps k j || s.evState k == 3)))

/-- Interval and length of the off-pulses of an output (R402). -/
def State.soInt (s : State) (j : Nat) : Nat := near 10 1000 (s.get (fMSIO_SO_CFG_t_int (s.soCfg j))) * ms
def State.soPulse (s : State) (j : Nat) : Nat := near 10 100 (s.get (fMSIO_SO_CFG_t_pulse (s.soCfg j))) * 10 * us

/-- The outputs follow their conditions; a rise starts the interval of the off-pulses, which of the odd output of a pair fall half
an interval after those of the even one (R401, R402, R412). -/
def soUpdate (s : State) : State :=
  s.each (List.range 16) (fun j s =>
    let x := s.so j
    let w := s.soWanted j
    if w = x.on then s
    else if w then
      let n := if j % 2 = 1 && s.soPaired j then
          (if (s.so (j - 1)).on then (s.so (j - 1)).nextPulse else s.now + s.soInt j) + s.soInt j / 2
        else s.now + s.soInt j
      s.putSo j { on := true, nextPulse := n }
    else s.putSo j { x with on := false, pulseEnd := min x.pulseEnd s.now })

/-- The level driven on an output. -/
def State.soOut (s : State) (j : Nat) : Bool := s.soWanted j && decide ((s.so j).pulseEnd ≤ s.now)
/-- MSIO_SO_STAT.out. -/
def State.soOuts (s : State) : Nat := (List.range 16).foldl (fun x j => if s.soOut j then x + 2 ^ j else x) 0

/-- The read-back of an output: the load side follows the output; of an output found stuck on it is open (log entry 33). -/
def readBack (j : Nat) (s : State) : Bool × State :=
  if (s.rd aMSIO_SO_FCAUSE).fld (2 * j) 1 = 1 && s.soFault j then
    let (w, s) := s.freeWord
    (w.fld 0 1 == 1, s)
  else (s.soOut j, s)

/-! Evaluators (R396 to R400). -/

/-- A channel by its source code (R396). -/
def State.evChan (s : State) (code : Nat) : Bool :=
  if code < 24 then s.bitAt aMSIO_SI_FILT code
  else if 0x40 ≤ code && code < 0xC0 then
    let ch := (code - 0x40) / 8
    s.get (fMSIO_SM_STAT_state ch) == 2 && !s.on (fMSIO_SM_CFG_dir ch) && s.bitAt (aMSIO_SM_BUF ch 0) (code % 8)
  else false

/-- The source codes of the channels an evaluator's type uses. -/
def State.evCodes (s : State) (k : Nat) : List Nat :=
  let w := s.use (aMSIO_EV_SRC k)
  match s.evType k with
  | 0 => []
  | 3 => [w.fld 0 8, w.fld 8 8, w.fld 16 8, w.fld 24 8]
  | _ => [w.fld 0 8, w.fld 8 8]

/-- The channels of an evaluator, channel b inverted with anti (R396). -/
def State.evChans (s : State) (k : Nat) : List Bool :=
  (s.evCodes k).zipIdx.map (fun (c, i) => s.evChan c != (i == 1 && s.on (fMSIO_EV_CFG_anti k)))

/-- Is the event of an evaluator pending (R400)? -/
def evPending (st : Nat) : Bool := st == 1 || st == 2 || st == 4

/-- An evaluator changes its state (R397, R400). -/
def evEnter (k st : Nat) (s : State) : State :=
  let was := s.evState k
  if st = was then s
  else
    let s := msioIrq 4 (s.put (fMSIO_EV_STAT_state k) st)
    let s := if st = 1 || st = 4 then s.incrSat (fMSIO_EV_STAT_dem_cnt k) else s
    let s := if st = 4 then msioIrq 5 s else s
    let s := if evPending st && !evPending was then s.sageEvt (5 + k) (nOther k) else s
    soUpdate s

/-- An evaluator enters FAULT with a cause: 1 DISC, 2 INPUT, 3 OUTPUT (R394, R397, R404); INPUT is kept over DISC (R412). -/
def evFault (k cause : Nat) (s : State) : State :=
  if s.evType k = 0 || s.evState k = 0 then s
  else
    let s := if s.evState k = 4 && cause ≠ 2 then s else s.put (fMSIO_EV_STAT_cause k) cause
    evEnter k 4 s

/-- The discrepancy timers of an evaluator (R397, R399): each hand of TWOHAND has its own. -/
def evDisc (k : Nat) (diff diff2 : Bool) (s : State) : State :=
  let x := s.ev k
  let since (d : Bool) (t : Option Nat) : Option Nat := if d then t.or (some s.now) else none
  s.putEv k { x with discAt := since diff x.discAt, discAt2 := since diff2 x.discAt2 }

/-- The start of the evaluator's oldest discrepancy. -/
def EvSt.disc (x : EvSt) : Option Nat :=
  match x.discAt, x.discAt2 with
  | some t, some u => some (min t u)
  | some t, none => some t
  | none, u => u

/-- The reset source of an evaluator (R398): level of the source; a fall after 50 ms to 3 s is a valid reset. -/
def evReset (k : Nat) (s : State) : State :=
  let x := s.ev k
  let lvl := s.evChan (s.get (fMSIO_EV_CFG_rst_src k))
  if lvl = x.rst then s
  else if lvl then s.putEv k { x with rst := true, rstAt := s.now }
  else
    let s := s.putEv k { x with rst := false }
    let d := s.now - x.rstAt
    if d < 50 * ms || 3000 * ms < d then msioErr 18 s
    else if s.evState k = 2 then evEnter k 3 s else s

/-- A TWOHAND evaluator (R399). -/
def twoHand (k : Nat) (s : State) : State :=
  let ch := s.evChans k
  let at_ (i : Nat) : Bool := ch.getD i false
  let actL := at_ 0 && !at_ 1
  let relL := !at_ 0 && at_ 1
  let actR := at_ 2 && !at_ 3
  let relR := !at_ 2 && at_ 3
  let s := evDisc k (!(actL || relL)) (!(actR || relR)) s
  let x := s.ev k
  match s.evState k with
  | 3 =>
    if actL && actR then s
    else evEnter k 1 (s.putEv k { x with first := none, bothRel := relL && relR })
  | 1 =>
    if relL && relR then s.putEv k { x with first := none, bothRel := true }
    else if !x.bothRel then s
    else if actL && actR then
      let ok := match x.first with | some t => decide (s.now ≤ t + near 50 500 (s.get (fMSIO_EV_TIM_t_sync k)) * ms) | none => true
      let s := s.putEv k { x with first := none, bothRel := false }
      if ok then evEnter k 3 s else s.incrSat (fMSIO_EV_STAT_sync_fail k)
    else if actL || actR then s.putEv k { x with first := some (x.first.getD s.now) }
    else s
  | _ => s

/-- An ESTOP, GUARD or LCURT evaluator (R397): the channels are processed before the reset (R412). -/
def twoChannel (k : Nat) (s : State) : State :=
  let ch := s.evChans k
  let a := ch.getD 0 false
  let b := ch.getD 1 false
  let s := evDisc k (a != b) false s
  let s := match s.evState k with
    | 1 => if a && b then evEnter k (if s.on (fMSIO_EV_CFG_man k) then 2 else 3) s else s
    | 2 | 3 => if a && b then s else evEnter k 1 s
    | _ => s
  evReset k s

/-- The evaluators at a sample (R397 to R399). -/
def evSample (s : State) : State :=
  s.each (List.range 8) (fun k s =>
    match s.evType k with
    | 0 => s
    | 3 => twoHand k s
    | _ => twoChannel k s)

/-- Evaluators and outputs. -/
def msioSample (s : State) : State := if s.isRun 4 then soUpdate (evSample s) else s

/-! Safety inputs (R393 to R395). -/

/-- The value an input takes with a pin level (R393): 0 where it is disabled or its fault is latched. -/
def State.siValue (s : State) (i : Nat) : Bool :=
  s.on (fMSIO_SI_CFG_en i) && !s.bitAt aMSIO_SI_FAULT i && ((s.si i).lvl != s.on (fMSIO_SI_CFG_pol i))

/-- MSIO_SI_RAW (R415): pins after pol. -/
def State.siRaw (s : State) : Nat :=
  (List.range 24).foldl (fun x i => if (s.si i).lvl != s.on (fMSIO_SI_CFG_pol i) then x + 2 ^ i else x) 0

/-- The filtered value of an input follows. -/
def siFollow (i : Nat) (s : State) : State := s.putBit aMSIO_SI_FILT i (s.siValue i)

/-- A pin has held its new level for the filter time (R393); during the hold of an off-pulse the filter waits (R394). -/
def siChange (i : Nat) (lvl : Bool) (s : State) : State :=
  if !s.isRun 4 then s.putSi i { s.si i with lvl := lvl }
  else
    let s := if s.on (fMSIO_SI_CFG_en i) then s.reach (s.si i).holdEnd else s
    msioSample (siFollow i (s.putSi i { s.si i with lvl := lvl }))

/-- SI_CHANGE (R393). -/
def execSiChange (i : Fin 24) (lvl : Bool) (s : State) : Host.Outcome State Fault Refusal := done (siChange i.val lvl s)

/-- Does an input name the output as its test source (R394)? -/
def State.siFed (s : State) (i j : Nat) : Bool := s.on (fMSIO_SI_CFG_en i) && s.get (fMSIO_SI_CFG_src i) == j

/-- An off-pulse of an output (R402): low for t_pulse; the inputs it feeds hold their values (R394). An output that is low has
none (R412). -/
def offPulse (j : Nat) (s : State) : State :=
  let x := s.so j
  let g := s.soCfg j
  if !x.on || !s.soWanted j || !(s.on (fMSIO_SO_CFG_tp_en g) || s.on (fMSIO_SO_CFG_mode g)) then s
  else
    let s := s.reach x.nextPulse
    let p := s.soPulse j
    let s := s.putSo j { x with nextPulse := s.now + s.soInt j, pulseAt := some s.now, pulseEnd := s.now + p }
    s.each ((List.range 24).filter (fun i => s.siFed i j)) (fun i s => s.putSi i { s.si i with holdEnd := s.now + 2 * p })

/-- OFF_PULSE (R402). -/
def execOffPulse (j : Fin 16) (s : State) : Host.Outcome State Fault Refusal := done (offPulse j.val s)

/-- The evaluators that use an input (R394). -/
def State.evUses (s : State) (k i : Nat) : Bool := (s.evCodes k).contains i

/-- A test of an input ends (R394). -/
def inputTest (i : Nat) (pass : Bool) (s : State) : State :=
  let j := s.get (fMSIO_SI_CFG_src i)
  match (s.so j).pulseAt with
  | some t =>
    if !s.isRun 4 || !s.siFed i j then s
    else
      let s := s.reach (t + s.soPulse j)
      let s := s.putSo j { s.so j with pulseAt := if (List.range 24).any (fun n => decide (i < n) && s.siFed n j) then some t else none }
      if pass then s.putSi i { s.si i with passed := true }
      else
        let s := (s.putBit aMSIO_SI_FAULT i true).incrSat fMSIO_SI_FCNT_cnt
        let s := siFollow i (s.putSi i { s.si i with passed := false })
        let s := s.each ((List.range 8).filter (fun k => s.evUses k i)) (fun k => evFault k 2)
        msioSample s
  | none => s

/-- INPUT_TEST (R394). -/
def execInputTest (i : Fin 24) (pass : Bool) (s : State) : Host.Outcome State Fault Refusal := done (inputTest i.val pass s)

/-- A write of MSIO_SI_FAULT (R395). -/
def siFaultClear (m : Word) (s : State) : State :=
  msioSample (s.each ((bitsOf 24 m.toNat).filter (s.bitAt aMSIO_SI_FAULT)) (fun i s =>
    if (s.si i).passed then siFollow i (s.putBit aMSIO_SI_FAULT i false) else msioErr 16 s))

/-- SI_FAULT_CLEAR (R395). -/
def execSiFaultClear (r : Req) (mask : BitVec 32) (s : State) : Host.Outcome State Fault Refusal :=
  done (access r aMSIO_SI_FAULT true (siFaultClear mask) s)

/-- DISCREPANCY (R397, R399): the channels have differed, or a hand was in neither combination, for longer than t_disc. -/
def discrepancy (k : Nat) (s : State) : State :=
  match (s.ev k).disc with
  | some t =>
    if !s.isRun 4 || s.evType k = 0 || s.evState k = 4 then s
    else evFault k 1 (s.reach (t + near 1 1000 (s.get (fMSIO_EV_TIM_t_disc k)) * ms + 1))
  | none => s

/-- DISCREPANCY. -/
def execDiscrepancy (k : Fin 8) (s : State) : Host.Outcome State Fault Refusal := done (discrepancy k.val s)

/-- SYNC_FAIL (R399): the second hand was not actuated within t_sync of the first. -/
def syncFail (k : Nat) (s : State) : State :=
  let x := s.ev k
  match x.first with
  | some t =>
    if !s.isRun 4 || s.evType k ≠ 3 || s.evState k ≠ 1 || !x.bothRel then s
    else
      let s := s.reach (t + near 50 500 (s.get (fMSIO_EV_TIM_t_sync k)) * ms + 1)
      (s.putEv k { x with first := none, bothRel := false }).incrSat (fMSIO_EV_STAT_sync_fail k)
  | none => s

/-- SYNC_FAIL. -/
def execSyncFail (k : Fin 8) (s : State) : Host.Outcome State Fault Refusal := done (syncFail k.val s)

/-- MSIO_EV_CMD.rst (R398): software reset, in WAIT_RESET alone. -/
def softReset (m : Nat) (s : State) : State :=
  s.each (bitsOf 8 m) (fun k s => if s.get (fMSIO_EV_CFG_rst_src k) = 0xFE && s.evState k = 2 then evEnter k 3 s else s)

/-- No latched input or output fault of the evaluator remains (R397). -/
def State.evClean (s : State) (k : Nat) : Bool :=
  (s.evCodes k).all (fun c => !(decide (c < 24) && s.bitAt aMSIO_SI_FAULT c)) &&
  (List.range 16).all (fun j => !(s.evMaps k j && (s.soFault j || (s.soPaired j && s.soFault (soPartner j)))))

/-- MSIO_EV_CMD.fclr (R397). -/
def faultClear (m : Nat) (s : State) : State :=
  s.each (bitsOf 8 m) (fun k s =>
    if s.evState k = 4 && (s.evChans k).all (fun b => !b) && s.evClean k then evEnter k 1 s else msioErr 16 s)

/-- A write of MSIO_EV_CMD: the faults of the sample are processed first (R412). -/
def evCmd (d : Word) (s : State) : State := faultClear (d.fld 8 8) (softReset (d.fld 0 8) (msioSample s))

/-- EV_RESET (R398). -/
def execEvReset (r : Req) (mask : Fin 256) (s : State) : Host.Outcome State Fault Refusal :=
  done (access r aMSIO_EV_CMD true (evCmd (BitVec.ofNat 32 mask.val)) s)

/-- EV_FAULT_CLEAR (R397). -/
def execEvFaultClear (r : Req) (mask : Fin 256) (s : State) : Host.Outcome State Fault Refusal :=
  done (access r aMSIO_EV_CMD true (evCmd (BitVec.ofNat 32 (256 * mask.val))) s)

/-- Can the read-back check find the fault now (R403)? Stuck on shows in an off-pulse or while the output is low, stuck off while
it is high. -/
def State.faultShows (s : State) (j : Nat) (on : Bool) : Bool :=
  if on then !s.soWanted j || decide (s.now ≤ (s.so j).pulseEnd) else s.soOut j

/-- A fault of an output (R403, R404): stuck on, or stuck off. -/
def readbackFault (j : Nat) (on : Bool) (s : State) : State :=
  if !s.isRun 4 || !s.faultShows j on then s
  else
    let s := (s.putBit aMSIO_SO_STAT (16 + j) true).put ⟨aMSIO_SO_FCAUSE, 2 * j + (if on then 0 else 1), 1⟩ 1
    let s := soUpdate (msioIrq 6 s)
    s.each ((List.range 8).filter (fun k => s.evMaps k j || (s.soPaired j && s.evMaps k (soPartner j)))) (fun k => evFault k 3)

/-- READBACK_FAULT (R403). -/
def execReadbackFault (j : Fin 16) (on : Bool) (s : State) : Host.Outcome State Fault Refusal := done (readbackFault j.val on s)

/-- A write of 1 to bits of MSIO_SO_STAT.fault (R404). -/
def soFaultClear (m : Nat) (s : State) : State :=
  soUpdate (s.each ((bitsOf 16 m).filter s.soFault) (fun j s =>
    let low := !s.soOut j
    let (rb, s) := readBack j s
    if low && !rb then (s.putBit aMSIO_SO_STAT (16 + j) false).put ⟨aMSIO_SO_FCAUSE, 2 * j, 2⟩ 0 else msioErr 16 s))

/-- SO_FAULT_CLEAR (R404): the mask stands in the bits of MSIO_SO_STAT.fault. -/
def execSoFaultClear (r : Req) (mask : BitVec 32) (s : State) : Host.Outcome State Fault Refusal :=
  done (access r aMSIO_SO_STAT true (soFaultClear (Word.fld mask 16 16)) s)

/-! Safe messages (R407 to R411). -/


/-- The length L of a channel's frames and its DLC (R408). -/
def State.smLen (s : State) (c : Nat) : Nat :=
  if !s.on (fMSIO_SM_CFG_fd c) then 8 else [8, 12, 16, 20, 24, 32, 48, 64].getD (s.get (fMSIO_SM_CFG_len c)) 8
def State.smDlc (s : State) (c : Nat) : Nat := if !s.on (fMSIO_SM_CFG_fd c) then 8 else 8 + s.get (fMSIO_SM_CFG_len c)

/-- The CRC of a frame on a network (R408). -/
def State.smCrc (s : State) (c : Nat) (netB : Bool) (bs : List Byte) : Nat :=
  let seed := s.get (fMSIO_SM_CFG_seed c)
  crc16 (if netB then seed ^^^ 0xFFFF else seed) bs

def State.smState (s : State) (c : Nat) : Nat := s.get (fMSIO_SM_STAT_state c)

/-- A channel enters FAULT (R411): 1 TIMEOUT, 2 MISMATCH, 3 SEQ, 4 PAIR, 5 TXFAIL. -/
def smFault (c cause : Nat) (s : State) : State :=
  let s := ((s.put (fMSIO_SM_STAT_state c) 3).put (fMSIO_SM_STAT_cause c) cause).incrSat (fMSIO_SM_STAT_fcnt c)
  let s := s.putSm c { s.sm c with win := none }
  msioSample ((msioIrq 7 s).sageEvt 13 (nOther (s.get (fMSIO_SM_CFG_pair c))))

/-- A window closes incomplete (R409). -/
def smMiss (c : Nat) (s : State) : State :=
  let s := (s.putSm c { s.sm c with win := none }).incrSat (fMSIO_SM_STAT_miss_run c)
  if s.get (fMSIO_SM_CFG_n_miss c) < s.get (fMSIO_SM_STAT_miss_run c) then smFault c 4 s else s

/-- A complete pair is judged (R409). -/
def smJudge (c : Nat) (w : SmWin) (data : List Byte) (s : State) : State :=
  let s := s.putSm c { s.sm c with win := none }
  if data ≠ w.data then smFault c 2 s
  else if s.smState c = 1 || w.seq = (s.get (fMSIO_SM_STAT_seq c) + 1) % 256 then
    let ws := bytesWords (data ++ List.replicate (64 - data.length) 0)
    let s := s.each ws.zipIdx (fun (v, i) s => s.wr (aMSIO_SM_BUF c i) v)
    let s := ((s.put (fMSIO_SM_STAT_seq c) w.seq).put (fMSIO_SM_STAT_state c) 2).put (fMSIO_SM_STAT_miss_run c) 0
    msioSample (s.putSm c { s.sm c with hasAcc := true, lastAcc := s.now })
  else smFault c 3 s

/-- A copy opens a window (R409). -/
def smOpen (c seq : Nat) (netB : Bool) (data : List Byte) (s : State) : State :=
  s.putSm c { s.sm c with win := some { at_ := s.now, seq := seq, data := data, netB := netB } }

/-- A copy arrives on a receive channel (R409). -/
def safeCopy (c : Nat) (netB : Bool) (bs : List Byte) (s : State) : State :=
  let l := s.smLen c
  let body := bs.take (l - 2)
  let crc := (bs.getD (l - 2) 0).toNat * 256 + (bs.getD (l - 1) 0).toNat
  let seq := (bs.getD (l - 3) 0).toNat
  let data := bs.take (l - 3)
  if !s.on (fMSIO_SM_CFG_en c) || s.on (fMSIO_SM_CFG_dir c) || s.smState c = 0 || s.smState c = 3 then s
  else if bs.length ≠ l || s.smCrc c netB body ≠ crc then s.incrSat (fMSIO_SM_CNT_bad c)
  else if (s.sm c).hasAcc && seq = s.get (fMSIO_SM_STAT_seq c) then s.incrSat (fMSIO_SM_CNT_dup c)
  else match (s.sm c).win with
    | none => smOpen c seq netB data s
    | some w =>
      let inTime := s.now ≤ w.at_ + near 1 1000 (s.get (fMSIO_SM_TIM_t_pair c)) * 100 * us
      if w.netB ≠ netB && w.seq = seq && inTime then smJudge c w data s
      else
        let s := smMiss c s
        if s.smState c = 3 then s else smOpen c seq netB data s

/-- SAFE_COPY (R409): the copy that waits on the link from the CAN controllers, otherwise the operand (log entry 26). A copy of
more than 64 bytes cannot exist. -/
def execSafeCopy (c : Fin 16) (netB : Bool) (bs : List (BitVec 8)) (s : State) : Host.Outcome State Fault Refusal :=
  let c := c.val
  if 64 < bs.length then .fault .malformed
  else
    let t := s.putSm c { s.sm c with rx := (s.sm c).rx.drop 1 }
    done (fabSend 12 4 0 (fun t => match (s.sm c).rx with
      | (n, b) :: _ => safeCopy c n b t
      | [] => safeCopy c netB bs t) t)

/-- PAIR_WINDOW (R409): t_pair has passed since the window opened. -/
def pairWindow (c : Nat) (s : State) : State :=
  match (s.sm c).win with
  | some w => if !s.isRun 4 then s else smMiss c (s.reach (w.at_ + near 1 1000 (s.get (fMSIO_SM_TIM_t_pair c)) * 100 * us + 1))
  | none => s

/-- PAIR_WINDOW. -/
def execPairWindow (c : Fin 16) (s : State) : Host.Outcome State Fault Refusal := done (pairWindow c.val s)

/-- t_to of a channel. -/
def State.smTo (s : State) (c : Nat) : Nat := max 1 (s.get (fMSIO_SM_TIM_t_to c)) * ms

/-- SM_TIMEOUT (R409). -/
def smTimeout (c : Nat) (s : State) : State :=
  if !s.isRun 4 || s.smState c ≠ 2 || s.on (fMSIO_SM_CFG_dir c) then s
  else smFault c 1 (s.reach ((s.sm c).lastAcc + s.smTo c + 1))

/-- SM_TIMEOUT. -/
def execSmTimeout (c : Fin 16) (s : State) : Host.Outcome State Fault Refusal := done (smTimeout c.val s)

/-- The data a transmit channel would send (R410). -/
def State.smData (s : State) (c : Nat) : List Byte :=
  let bs := ((List.range 16).flatMap (fun w => wordBytes (s.rd (aMSIO_SM_BUF c w)))).take (s.smLen c - 3)
  if s.on (fMSIO_SM_CFG_auto c) then
    let e := (List.range 8).foldl (fun x k => if s.evState k = 3 then x + 2 ^ k else x) 0
    BitVec.ofNat 8 e :: bs.drop 1
  else bs

/-- A frame is placed in a buffer of a controller and requested (R410). -/
def smPlace (can b : Nat) (bs : List Byte) (s : State) : State :=
  let s := s.each (bytesWords bs).zipIdx (fun (v, w) s => putMbWord can b w v s)
  txRequest can b s

/-- A send of a transmit channel (R410): at once where its data changed, otherwise when the period ends. -/
def safeSend (c : Nat) (s : State) : State :=
  let x := s.sm c
  if !s.isRun 4 || s.sage.lost || !s.on (fMSIO_SM_CFG_en c) || !s.on (fMSIO_SM_CFG_dir c) || s.smState c = 0 || s.smState c = 3 then s
  else
    let data := s.smData c
    let changed := x.txLast ≠ none && x.txLast ≠ some data
    let s := if changed then s else s.reach x.txNext
    let p := s.get (fMSIO_SM_CFG_pair c)
    let b := 48 + c
    let busy := s.mbPend (2 * p) b || s.mbPend (2 * p + 1) b
    let s := s.each [2 * p, 2 * p + 1] (fun n s => txAbort n b (if (s.can n).cur = some b then canIdle n s else s))
    let k := if busy then x.txBusy + 1 else 0
    let s := s.putSm c { s.sm c with txNext := s.now + s.smTo c, txLast := some data, txBusy := k }
    if 3 ≤ k then smFault c 5 s
    else
      let seq := (s.get (fMSIO_SM_STAT_seq c) + 1) % 256
      let s := s.put (fMSIO_SM_STAT_seq c) seq
      let body := data ++ [BitVec.ofNat 8 seq]
      s.each [false, true] (fun nb s =>
        let crc := s.smCrc c nb body
        smPlace (2 * p + nb.toNat) b (body ++ [BitVec.ofNat 8 (crc / 256), BitVec.ofNat 8 crc]) s)

/-- SAFE_SEND (R410). -/
def execSafeSend (c : Fin 16) (s : State) : Host.Outcome State Fault Refusal := done (safeSend c.val s)

/-- MSIO_SM_CMD.rearm (R411). -/
def smRearm (c : Nat) (s : State) : State :=
  if s.smState c = 3 then
    let s := (s.put (fMSIO_SM_STAT_state c) 1).put (fMSIO_SM_STAT_miss_run c) 0
    s.putSm c { s.sm c with win := none, txBusy := 0, txNext := s.now }
  else s

/-- REARM (R411). -/
def execRearm (r : Req) (c : Fin 16) (s : State) : Host.Outcome State Fault Refusal :=
  done (access r (aMSIO_SM_CMD c.val) true (smRearm c.val) s)

/-! Configuration (R397, R407, R411, R413). -/

/-- A commit would give two enabled channels of one pair the same identifier on one network (R407). -/
def State.smClash (s : State) : Bool :=
  let v (a : Nat) : Word := s.cmtVal a
  (List.range 16).any (fun c => (List.range 16).any (fun d => decide (c < d) &&
    (v (aMSIO_SM_CFG c)).fld 31 1 == 1 && (v (aMSIO_SM_CFG d)).fld 31 1 == 1 &&
    (v (aMSIO_SM_CFG c)).fld 29 1 == (v (aMSIO_SM_CFG d)).fld 29 1 &&
    (v (aMSIO_SM_CFG c)).fld 28 1 == (v (aMSIO_SM_CFG d)).fld 28 1 &&
    ((v (aMSIO_SM_IDA c)).fld 0 29 == (v (aMSIO_SM_IDA d)).fld 0 29 ||
     (v (aMSIO_SM_IDB c)).fld 0 29 == (v (aMSIO_SM_IDB d)).fld 0 29)))

/-- MSIO takes the buffers of a channel (R407, R478; 14_can.md R492). -/
def smOwn (c : Nat) (s : State) : State :=
  let p := s.get (fMSIO_SM_CFG_pair c)
  let b := 48 + c
  let tx := s.on (fMSIO_SM_CFG_dir c)
  let fd := s.on (fMSIO_SM_CFG_fd c)
  s.each [false, true] (fun nb s =>
    let n := 2 * p + nb.toNat
    let id := (s.rd (if nb then aMSIO_SM_IDB c else aMSIO_SM_IDA c)).fld 0 29
    let ide := (s.get (fMSIO_SM_CFG_ide c))
    let s := storeAt (aCAN_MB_ID n b) (aCAN_MB_ID n b) (BitVec.ofNat 32 (id + ide * 2 ^ 31)) s
    let s := storeAt (aCAN_MB_MASK n b) (aCAN_MB_MASK n b) 0xFFFFFFFF s
    storeAt (aCAN_MB_CFG n b) (aCAN_MB_CFG n b)
      (BitVec.ofNat 32 (2 ^ 31 + tx.toNat * 2 ^ 30 + fd.toNat * 2 ^ 29 + 2 ^ 27 + s.smDlc c * 2 ^ 16)) s)

/-- MSIO gives the buffers of a channel back, empty (14_can.md R489). -/
def smFree (c p : Nat) (s : State) : State :=
  s.each [2 * p, 2 * p + 1] (fun n s => s.putBit (aCAN_NEW n 0) (48 + c) false)

/-- A register of a group of words is in a commit's shadow. -/
def inCmt (o : State) (l : List Nat) : Bool := l.any (fun a => (Tab.find o.cmt a).isSome)

/-- What a commit of MSIO brings with it: `o` is the state before the values applied. -/
def msioConfig (o s : State) : State :=
  let s := s.each (List.range 24) (fun i s =>
    if !s.on (fMSIO_SI_CFG_en i) then siFollow i s else s)
  let s := s.each (List.range 8) (fun k s =>
    if !inCmt o [aMSIO_EV_CFG k, aMSIO_EV_SRC k, aMSIO_EV_TIM k] then s
    else
      let s := s.putEv k {}
      if s.evType k = 0 then evEnter k 0 s else evEnter k 1 s)
  let s := s.each (List.range 16) (fun c s =>
    if !inCmt o [aMSIO_SM_CFG c, aMSIO_SM_IDA c, aMSIO_SM_IDB c, aMSIO_SM_TIM c] then s
    else
      let was := o.on (fMSIO_SM_CFG_en c)
      let p := o.get (fMSIO_SM_CFG_pair c)
      let en := s.on (fMSIO_SM_CFG_en c)
      let s := if was && (!en || p ≠ s.get (fMSIO_SM_CFG_pair c)) then smFree c p s else s
      let s := s.putSm c { txNext := s.now + s.smTo c }
      let s := s.put (fMSIO_SM_STAT_miss_run c) 0
      if en then smOwn c (s.put (fMSIO_SM_STAT_state c) 1) else s.put (fMSIO_SM_STAT_state c) 0)
  soUpdate s

/-- MSIO_STAT and MSIO_EV_ALL as they read (R414, R415). -/
def State.msioStat (s : State) : Nat :=
  (if (List.range 8).any (fun k => s.evType k ≠ 0 && s.evState k ≠ 3) then 1 else 0)
  + (if (s.rd aMSIO_SO_STAT).fld 16 16 ≠ 0 then 2 else 0)
  + (if (List.range 16).any (fun c => s.smState c == 3) then 4 else 0)
def State.evAll (s : State) : Nat := (List.range 8).foldl (fun x k => x + s.evState k * 8 ^ k) 0

/-- The Sage island is reset: MSIO is part of it (R413). -/
def msioReset (s : State) : State := s.setMsio { si := s.msio.si.map (fun (i, x) => (i, { lvl := x.lvl })), ev := [], so := [], sm := [] }

end Sys2Proof.Machine
end

