-- ==== Sys2Proof/Machine/Link.lean ====
section
/-! DEFINITION. One end of an NDL link (08_ndotar_drive_link.md R269 to R276): what is sent next, numbering,
acknowledgement and resending. -/
namespace Sys2Proof.Machine

/-- Do two edges have the fields an EDGE and its RETRACT share (R284, R289): the low 37 bits of the time, side and level? -/
def Edge.sameCell (x y : Edge) : Bool := x.t % 2 ^ 37 == y.t % 2 ^ 37 && x.ls == y.ls && x.on == y.on

/-- A cell is sequenced (R274, R275). -/
def Cell.sequenced : Cell → Bool
  | .force .. | .probe _ | .adjust .. | .syncSet | .syncRsp .. => false
  | _ => true

/-- RETRACT and TOKEN cells may fill the last two places of the window (R273). -/
def Cell.free : Cell → Bool
  | .retract .. | .token _ => true
  | _ => false

/-- The priority of a cell (R274, R275). -/
def Cell.prio : Cell → Nat
  | .force .. => 1 | .retract .. => 2 | .token _ => 3 | .probe _ | .adjust .. | .syncSet => 4 | .edge .. => 5
  | .sampleReq .. => 6 | .hintReact .. | .hintPeriod .. => 7 | .cfgWr .. | .cfgRd _ => 8
  | .telem _ _ u => if u then 1 else 9
  | .result .. => 2 | .syncRsp .. => 3 | .sample .. | .check .. => 4 | .tokenRsp .. => 6 | .status => 7 | .cfgRsp .. => 8

/-- The order among cells of one priority (R276, R289): time, slot, the high side first. -/
def Cell.order : Cell → Nat × Nat
  | .edge n e | .retract n e => (e.t, 2 * (n % 4) + (if e.ls then 1 else 0))
  | .sampleReq t _ _ => (t, 0)
  | _ => (0, 0)

/-- Does a cell go before another that became ready before it (R276)? -/
def Cell.before (a b : Cell) : Bool :=
  let x := a.order
  let y := b.order
  decide (a.prio < b.prio) || (a.prio == b.prio && (decide (x.1 < y.1) || (x.1 == y.1 && decide (x.2 < y.2))))

/-- The window admits a cell (R273): 8 unacknowledged, 6 of them other than RETRACT and TOKEN. -/
def LinkSt.admits (l : LinkSt) (c : Cell) : Bool :=
  !c.sequenced || (decide (l.unack.length < 8) && (c.free || decide ((l.unack.filter (fun u => !u.cell.free)).length < 6)))

/-- The ready cell of highest priority among those a condition admits (R276). -/
def pickReady (ok : Cell → Bool) (l : List RCell) : Option RCell :=
  l.foldl (fun best r => if !ok r.cell then best else match best with
    | none => some r
    | some b => if r.cell.before b.cell then some r else best) none

/-- What a sender starts at a slot boundary: FILL, a cell of the resend run, or a ready cell. -/
inductive SendChoice where
  | fill
  | again (c : SCell)
  | ready (r : RCell)
  deriving DecidableEq, Repr

/-- The choice of R276 under the window and FILL rules of R269 and R273; in a resend run only unsequenced cells of higher
priority go between. `ok` says which cells the sender's credits and state allow. -/
def LinkSt.choose (l : LinkSt) (ok : Cell → Bool) : SendChoice :=
  if 31 ≤ l.sinceFill then .fill
  else match l.resend with
    | c :: _ =>
      match pickReady (fun x => !x.sequenced && ok x && decide (x.prio < c.cell.prio)) l.ready with
      | some r => .ready r
      | none => .again c
    | [] =>
      match pickReady (fun x => ok x && l.admits x) l.ready with
      | some r =>
        -- both copies of a FORCE fit before the next FILL
        if l.sinceFill = 30 && (l.ready.filter (fun y => y.cell == r.cell)).length = 2 then .fill else .ready r
      | none => .fill

/-! The bits of a cell (R271, R272, R274, R275). Bits of a payload keep their place in the cell, 63 down to 16. -/

/-- A field of `w` bits with its lowest bit at `lo`. -/
def fieldAt (lo w v : Nat) : Nat := v % 2 ^ w * 2 ^ lo

/-- The type code of a cell (R274, R275). -/
def Cell.code : Cell → Nat
  | .edge .. => 1 | .retract .. => 2 | .force .. => 3 | .sampleReq .. => 4 | .probe _ | .adjust .. | .syncSet => 5
  | .hintReact .. | .hintPeriod .. => 6 | .cfgWr .. => 7 | .cfgRd _ => 8 | .token _ => 9
  | .result .. => 1 | .status => 2 | .telem .. => 3 | .syncRsp .. => 4 | .cfgRsp .. => 5 | .tokenRsp .. => 6
  | .sample j .. => 8 + j % 4 | .check j .. => 12 + j % 4

/-- The code of an outcome (R291). -/
def outCode : EdgeOut → Nat
  | .retracted => 0 | .tooLate => 1 | .lateOn => 2 | .lateOff => 3 | .notOwner => 4 | .unknown => 5 | .suppressed => 6

/-- Time, slot, side and level of an edge, and three bits after them (R284, R289, R291). -/
def edgeBits (t n : Nat) (ls on : Bool) (x : Nat) : Nat :=
  fieldAt 32 32 (t / 32) + fieldAt 27 5 t + fieldAt 25 2 n + fieldAt 24 1 ls.toNat + fieldAt 23 1 on.toNat + fieldAt 20 3 x

/-- The payload of a cell (R274, R275). `tm` turns a time into the time of the link; `own` is what the sender settles as the cell
leaves: all of SET and STATUS, the analog values of TELEM, the turn of SYNC_RSP, the answering port of TOKEN_RSP. -/
def Cell.payload (c : Cell) (tm : Nat → Nat) (own : Nat) : Nat :=
  match c with
  | .edge n e => edgeBits (tm e.t) n e.ls e.on e.prof
  | .retract n e => edgeBits (tm e.t) n e.ls e.on 0
  | .force _ mask pat indef dly fin =>
    fieldAt 60 4 mask + fieldAt 52 8 pat + fieldAt 51 1 indef.toNat + fieldAt 42 9 dly + fieldAt 16 26 (tm fin / 32)
  | .sampleReq t m chk => fieldAt 32 32 (tm t / 32) + fieldAt 28 4 m + fieldAt 25 3 7 + fieldAt 24 1 chk.toNat
  | .probe _ => 0
  | .adjust corr rate => fieldAt 62 2 1 + fieldAt 38 24 (lowBits 24 corr) + fieldAt 22 16 (lowBits 16 rate)
  | .syncSet | .status => own
  | .hintReact react hold => fieldAt 55 8 react + fieldAt 51 4 hold
  | .hintPeriod slot per => fieldAt 63 1 1 + fieldAt 61 2 slot + fieldAt 37 24 per
  | .cfgWr a d | .cfgRsp a d => fieldAt 48 16 a + fieldAt 16 32 d.toNat
  | .cfgRd a => fieldAt 48 16 a
  | .token op => fieldAt 62 2 op
  | .result t slot ls on out => edgeBits t slot ls on (outCode out)
  | .telem slot flags _ => fieldAt 62 2 slot + fieldAt 52 10 flags + own
  | .syncRsp _ a2 _ => fieldAt 32 32 a2 + own
  | .tokenRsp res holder => fieldAt 62 2 res + fieldAt 61 1 holder.toNat + own
  | .sample _ i v vdc => fieldAt 48 16 i + fieldAt 32 16 v + fieldAt 16 16 vdc
  | .check _ i vdc cnt => fieldAt 48 16 i + fieldAt 32 16 vdc + fieldAt 24 8 cnt

/-- The identifier of an unsequenced cell; ADJUST and SET have none (DESIGN CHOICE, log entry 49). -/
def Cell.ident : Cell → Nat
  | .force id .. | .probe id | .syncRsp id .. => id
  | _ => 0

/-- The ten characters of a cell whose bits [79:16] are `w` (R269, R271): character 0 of FILL is K28.5 and enters the CRC as 0x00. -/
def cellChars (fill : Bool) (w : Nat) : List Chr :=
  let bs := (List.range 8).map (fun i => BitVec.ofNat 8 (w / 256 ^ (7 - i)))
  let crc := crc16 0xFFFF (if fill then 0 :: bs.drop 1 else bs)
  (if fill then .k28_5 :: (bs.drop 1).map .data else bs.map .data) ++ [.data (BitVec.ofNat 8 (crc / 256)), .data (BitVec.ofNat 8 crc)]

/-- Is a slot valid (R270, R271): ten characters, K28.5 at character 0 alone, the CRC as sent? -/
def slotValid (cs : List Chr) : Bool :=
  let byte (c : Chr) : Option Byte := match c with | .data b => some b | _ => none
  let bs := (cs.drop 1).filterMap byte
  match cs with
  | c :: _ =>
    let first := if c == .k28_5 then some 0 else byte c
    match first with
    | some b => bs.length == 9 && cs.length == 10 && crc16 0xFFFF (b :: bs.take 7) == (bs.getD 7 0).toNat * 256 + (bs.getD 8 0).toNat
    | none => false
  | [] => false

/-- The header of a cell, its type, number and uns bit given (R272), over bits [79:64]; `tok` and `react` are the satellite's. -/
def LinkSt.header (l : LinkSt) (tok react : Bool) (code seq : Nat) (uns : Bool) : Nat :=
  fieldAt 12 4 code + fieldAt 8 4 seq + fieldAt 4 4 l.rxSeq + fieldAt 3 1 l.nak.toNat + fieldAt 2 1 uns.toNat
    + fieldAt 1 1 tok.toNat + fieldAt 0 1 react.toNat

/-- The characters of what is sent in a slot (R269 to R275), from the link as it stood before: `pay` gives the payload of a ready
cell, `fillSeq` the number of a FILL cell (R273). -/
def LinkSt.chars (l : LinkSt) (tok react : Bool) (fillSeq : Nat) (pay : Cell → Nat) : SendChoice → List Chr
  | .fill => cellChars true (l.header tok react 0 fillSeq false * 2 ^ 48)
  | .again c => cellChars false (l.header tok react c.cell.code c.seq false * 2 ^ 48 + c.pay / 2 ^ 16)
  | .ready r =>
    let x := r.cell
    let n := if x.sequenced then l.txSeq else x.ident
    cellChars false (l.header tok react x.code n (!x.sequenced) * 2 ^ 48 + pay x / 2 ^ 16)

/-- The link after the choice has been sent at a moment (R273); `pay` gives the payload of a ready cell. -/
def LinkSt.sent (l : LinkSt) (now : Nat) (pay : Cell → Nat) : SendChoice → LinkSt
  | .fill => { l with sinceFill := 0 }
  | .again c =>
    { l with
      resend := l.resend.drop 1, sinceFill := l.sinceFill + 1,
      unack := l.unack.map (fun u => if u.seq = c.seq then { u with n := u.n + 1, last := now } else u) }
  | .ready r =>
    let l := { l with ready := l.ready.erase r, sinceFill := l.sinceFill + 1 }
    if r.cell.sequenced then
      { l with unack := l.unack ++ [{ seq := l.txSeq, cell := r.cell, pay := pay r.cell, last := now }], txSeq := (l.txSeq + 1) % 16 }
    else l

/-- The number of unacknowledged cells an acknowledgement covers (R272, R273). -/
def ackCount (l : LinkSt) (ack : Nat) : Nat :=
  match l.unack with
  | [] => 0
  | u :: _ =>
    let d := (ack + 16 - u.seq) % 16
    if d ≤ l.unack.length then d else 0

/-- An acknowledgement is taken (R273). -/
def LinkSt.acked (l : LinkSt) (ack : Nat) : LinkSt :=
  let k := ackCount l ack
  let gone := (l.unack.take k).map (·.seq)
  { l with unack := l.unack.drop k, resend := l.resend.filter (fun c => !gone.contains c.seq) }

/-- A resend run is due: its cells, or loss after five sendings (R273). -/
def LinkSt.rerun (l : LinkSt) (now : Nat) : Option LinkSt :=
  match l.unack with
  | [] => some l
  | u :: _ => if 5 ≤ u.n then none else some { l with resend := l.unack, resendAt := some now }

/-- A resend run that nak = 1 asks for, at most once per 400 ns. -/
def LinkSt.onNak (l : LinkSt) (now : Nat) (nak : Bool) : Option LinkSt :=
  if !nak || (match l.resendAt with | some t => decide (now < t + 40 * ns10) | none => false) then some l else l.rerun now

/-- A sequenced cell is accepted, or is a duplicate, or is discarded with nak (R273). -/
def LinkSt.receive (l : LinkSt) (seq : Nat) : LinkSt × Bool :=
  if seq = l.rxSeq then ({ l with rxSeq := (l.rxSeq + 1) % 16, nak := false }, true)
  else if (l.rxSeq + 16 - seq) % 16 ≤ 8 then (l, false)
  else ({ l with nak := true }, false)

/-- Numbering starts again on a retraining (R273). -/
def LinkSt.restart (l : LinkSt) : LinkSt :=
  { l with unack := [], resend := [], txSeq := 0, rxSeq := 0, nak := false, resendAt := none }

/-- A cell is ready. -/
def LinkSt.add (l : LinkSt) (c : Cell) : LinkSt := { l with ready := l.ready ++ [{ cell := c }] }

end Sys2Proof.Machine
end

