-- ==== Sys2Proof/Machine/Ndl.lean ====
section
/-! DEFINITION. The hub's ports (08_ndotar_drive_link.md R277 to R317): states, loss, time transfer, accounts, frames. -/
namespace Sys2Proof.Machine

/-- A source of NDL[p]_IRQ_RAW is set (R319). -/
def portIrq (p i : Nat) (s : State) : State := s.raise ⟨aNDL_IRQ_RAW p, i, 1⟩

/-- The port's state (R277) and NDL_UP, NDL_LOSS. -/
def setPortState (p st : Nat) (s : State) : State :=
  ((s.put (fNDL_STAT_state p) st).putBit aNDL_UP p (st == pUp)).putBit aNDL_LOSS p (st == pLoss)

/-- The chip's role follows its tokens (10_lovage_pairing.md R363); on entry to MIRROR every mirrored context in RUN moves to
ADMITTED as under STOP (R373), and a chip that is no mirror is not slewed (06_thyme_and_pwm.md R197). -/
def roleScan (s : State) : State :=
  let r := s.role
  if s.get fPAIR_STATE_role = r then s
  else
    let s := s.put fPAIR_STATE_role r
    if r ≠ 0 then s.put fTHY_SLEW_slew 0
    else s.each (s.liveCtx.filter (fun k => s.mirCtx k && (s.ctx k).st == .run)) (fun k s => stopCtxAt k s)

/-- What the hub holds for a port when it leaves UP, or leaves CAPS or TSET: edges not sent count as retracted (R278), the
sent ones wait for the account of R309; repetition of FORCE cells ends (R296). -/
def quitPort (p : Nat) (s : State) : State :=
  let x := s.port p
  let n := (x.lk.ready.filter (fun r => match r.cell with | .edge .. => true | _ => false)).length
  let s := s.addTo (fNDL_RETRACT_CNT_cnt p) n
  let open_ := s.portUp p || x.credTaken
  let s := s.putPort p { x with
    lk := { x.lk with ready := [] }, force := [], probe := none, rtts := 0, good := 0, bad := 0, lastProbe := none,
    smpReq := [], smpSeen := 0, chkSeen := 0, credTaken := false, resulted := 0, lexec := none, ldisc := none, bootsNew := none,
    outst := if open_ then x.edges.length else x.outst, acct := x.acct || open_ }
  (s.lower (fNDL_STAT_sync_ok p)).lower (fNDL_TOK_STAT_busy p)

/-- The port enters TRAIN (R273, R277). -/
def enterTrain (p : Nat) (s : State) : State :=
  let x := s.port p
  setPortState p pTrain (s.putPort p { x with
    lk := x.lk.restart, aligned := false, fills := 0, fillAt := none, since := s.now, lastValid := s.now })

/-- The port enters LOSS (R277, R305, R317). -/
def enterLoss (p : Nat) (s : State) : State :=
  let s := setPortState p pLoss (quitPort p s)
  let s := s.putPort p { s.port p with since := s.now }
  let s := portIrq p 1 (s.incrSat (fNDL_LOSS_CNT_loss p))
  roleScan (linkScan ((s.irq 0x40040000 4).sageEvt 20 (nPort p)))

/-- The port enters OFF (R277). -/
def enterOff (p : Nat) (s : State) : State :=
  let s := setPortState p pOff (quitPort p s)
  let x := s.port p
  roleScan (linkScan (s.putPort p { x with lk := { x.lk.restart with last := [] }, fillAt := none, aligned := false, fills := 0 }))

/-- A conservation violation on a port (R287, R67). -/
def consFail (p : Nat) (s : State) : State :=
  let s := (s.errSet 0x40040000 16).irq 0x40040000 6
  let s := if s.on fNDL_CONS_FAIL_valid then s.incrSat fNDL_CONS_FAIL_cnt
    else ((s.raise fNDL_CONS_FAIL_valid).put fNDL_CONS_FAIL_port p).put fNDL_CONS_FAIL_cnt 1
  conservationEvent .ndl s

/-- A protocol fault on a port (R291, R309). -/
def protFault (p : Nat) (s : State) : State :=
  conservationEvent .ndl (portIrq p 9 ((s.errSet 0x40040000 17).irq 0x40040000 6))

/-- Token lost (R312). -/
def tokenLost (p : Nat) (s : State) : State := (portIrq p 8 s).sageEvt 19 (nPort p)

/-! Entering UP (R279). -/

/-- The first NDL frame at or after a moment (R315). -/
def frameAt (t : Nat) : Nat := (t + frame10 - 1) / frame10 * frame10

/-- SAT_LOSS and SAT_TEL are written (R279 item 1). -/
def sendTiming (p : Nat) (s : State) : State :=
  hubCfgWr p 0x10 (BitVec.ofNat 32 (s.get (fNDL_TIMING_t_loss p) + s.get (fNDL_TIMING_t_hold p) * 2 ^ 16)) s
def sendTel (p : Nat) (s : State) : State := hubCfgWr p 0x24 (BitVec.ofNat 32 (s.get (fNDL_TEL_CFG_per p))) s

/-- The profiles are written with a bank switch, whose moment is the first NDL frame at least L + 10 µs ahead (R301). -/
def sendProfiles (p : Nat) (s : State) : State :=
  let s := s.each (List.range 16) (fun i s => hubCfgWr p (0x100 + 4 * i) (s.use (aNDL_GPROF p (i / 2) (i % 2))) s)
  let at_ := frameAt (s.now + 32 * s.get (fNDL_LEAD_lead p) + frame10)
  let s := hubCfgWr p 0x140 (BitVec.ofNat 32 (lowTicks (s.toPair at_))) s
  (s.putPort p { s.port p with profAt := some at_ }).raise (fNDL_STAT_prof_pend p)

/-- HINT REACT and one HINT PERIOD for each slot (R279 item 3). -/
def sendHints (p : Nat) (s : State) : State :=
  (sendHint p s).each [0, 1, 2, 3] (fun i s =>
    hubReady p (.hintPeriod i (s.get (fTBG_PERIOD_t (s.legTbg (4 * p + i))))) none s)

/-- One FORCE that states each enabled leg's safe state, or PULSE-OFF where its group is in none (R279 item 4). -/
def sendHolds (p : Nat) (s : State) : State :=
  let here := [0, 1, 2, 3].filter (fun i => s.legEn (4 * p + i))
  let mask := here.foldl (fun x i => x + 2 ^ i) 0
  let pat := here.foldl (fun x i => x + patBits i (patOf (s.mgState (s.legMg (4 * p + i))))) 0
  let dly := here.foldl (fun x i => max x (s.dtSafe (s.legMg (4 * p + i)))) ((s.rd (aNDL_SAT_CAPS p)).fld 16 8)
  hubForce p mask pat true (min 511 dly) 0 s

/-- The hub asks for what completes the account of the edges outstanding at a loss (R309). -/
def askAccount (p : Nat) (s : State) : State :=
  if (s.port p).acct then s.each [0x18, 0x1C, 0x20] (fun a s => hubReady p (.cfgRd a) none s) else s

/-- The port enters UP (R277, R279). -/
def enterUp (p : Nat) (s : State) : State :=
  let s := portIrq p 0 (setPortState p pUp s)
  let s := (s.raise (fNDL_STAT_sync_ok p)).each [0, 1, 2, 3] (fun i s =>
    let n := 4 * p + i
    (s.lower (fNDL_TELEM_valid p i)).putLeg n { s.leg n with bootRep := false })
  let s := s.putPort p { s.port p with bad := 0, lastProbe := some s.now }
  let s := sendTel p (sendTiming p s)
  let s := if s.mirrorPort p then s else sendHolds p (sendHints p (sendProfiles p s))
  roleScan (linkScan (askAccount p s))

/-! Accounts (R287, R291, R309). -/

/-- Edges whose credit returned without a RESULT count as executed, the oldest first (R291). -/
def takeCredits (p cred : Nat) (s : State) : State :=
  let x := s.port p
  let byRes := min cred x.resulted
  s.putPort p { x with resulted := x.resulted - byRes, edges := x.edges.drop (cred - byRes) }

/-- The account of the edges outstanding when LOSS began is completed (R309). -/
def closeAccount (p : Nat) (s : State) : State :=
  let x := s.port p
  match x.acct && x.credTaken, x.lexec, x.ldisc, x.bootsNew with
  | true, some le, some ld, some b =>
    let old := x.edges.take x.outst
    let s := if b ≠ x.boots then
        (s.addTo (fNDL_RETRACT_CNT_cnt p) old.length).putPort p { x with
          edges := x.edges.drop x.outst, acct := false, outst := 0, boots := b }
      else
        let s := s.when (x.outst < le + ld + x.q0) (protFault p)
        let s := s.addTo (fNDL_RETRACT_CNT_cnt p) (x.outst - le - x.q0)
        s.putPort p { s.port p with edges := old.drop (x.outst - x.q0) ++ x.edges.drop x.outst, acct := false, outst := 0 }
    s
  | _, _, _, _ => s

/-- The equality of R287. -/
def State.creditsHold (s : State) (p qent : Nat) : Bool :=
  let sent := ((s.port p).lk.unack.filter (fun u => match u.cell with | .edge .. => true | _ => false)).length
  s.get (fNDL_STAT_cred p) + qent + sent == 32

/-- A RESULT accounts for an edge (R291 to R293, R312). -/
def takeResult (p n : Nat) (e : Edge) (out : EdgeOut) (s : State) : State :=
  let x := s.port p
  let same (y : Nat × Edge) : Bool := y.1 == n && e.sameCell y.2
  let first := x.edges.any same
  let s := if first && out ≠ .unknown then
      s.putPort p { x with edges := x.edges.eraseP same, resulted := x.resulted + 1 } else s
  let retr (s : State) : State := if first then countRetracted p s else s
  match out with
  | .retracted => retr s
  | .tooLate =>
    let s := (s.incrSat (fNDL_LATE_RETRACT_cnt p)).incrSat fNDL_LATE_SUM_cnt
    let s := (portIrq p 2 s).irq 0x40040000 5
    let s := s.record 0x30 .ndl ([BitVec.ofNat 8 p, BitVec.ofNat 8 (gateOf n e.ls), 0, 0] ++ natBytes 4 (lowTicks e.t)
      ++ natBytes 4 (s.stamp))
    s.sageEvt 21 (nGate (gateOf n e.ls))
  | .lateOn => if first then portIrq p 3 (retr (s.incrSat (fNDL_LATE_EDGE_on p))) else s
  | .lateOff => if first then portIrq p 3 (s.incrSat (fNDL_LATE_EDGE_off p)) else s
  | .notOwner => tokenLost p (retr (s.incrSat (fNDL_NOT_OWNER_cnt p)))
  | .unknown => protFault p s
  | .suppressed => protFault p (retr s)

/-! Received cells (R273, R305). -/

/-- A valid cell arrives: it keeps the port out of loss, and its acknowledgement is taken; nak asks for a resend. -/
def hubHears (p ack : Nat) (nak : Bool) (s : State) : State :=
  let x := s.port p
  let st := s.portState p
  if st = pOff || st = pLoss then s
  else
    let x := { x with lastValid := s.now, lk := x.lk.acked ack }
    match x.lk.onNak s.now nak with
    | some l => s.putPort p { x with lk := l }
    | none => enterLoss p (s.putPort p x)

/-- A sequenced uplink cell: accepted in order, its effect `k` follows in CAPS, TSET and UP. -/
def hubSequenced (p : Nat) (h : CellHdr) (k : State → State) (s : State) : State :=
  let s := hubHears p h.ack.val h.nak s
  let st := s.portState p
  if st = pOff || st = pLoss then s
  else
    let x := s.port p
    let (l, go) := x.lk.receive h.seq.val
    -- in TRAIN it ends the run of FILL cells (R277)
    let s := s.putPort p { x with lk := l, fills := if st = pTrain then 0 else x.fills }
    if go && st ≠ pTrain then k s else s

/-- The tok bit of an uplink cell (R312). -/
def takeTok (p : Nat) (tok : Bool) (s : State) : State :=
  let x := s.port p
  let was := s.on (fNDL_STAT_tok p)
  let s := (s.putB (fNDL_STAT_tok p) tok).putBit aNDL_TOK p tok
  if !x.tokKnown then roleScan (linkScan (s.putPort p { x with tokKnown := true }))
  else if was = tok then s
  else
    let s := (portIrq p 5 s).irq 0x40040000 7
    let s := s.incrSat (fNDL_LOSS_CNT_tok p)
    let s := if !tok && s.portUp p && !x.edges.isEmpty then tokenLost p s else s
    -- a token that arrives in TSET lets the hub send SYNC SET: its probes start anew (log entry 35)
    let s := if tok && s.portState p = pTset then s.putPort p { s.port p with rtts := 0, good := 0 } else s
    roleScan (linkScan s)

/-! Time transfer (R281 to R283). -/

/-- 1 ns and 4 ns in fine ticks, rounded down. -/
def ns1 : Nat := 12
def ns4 : Nat := 51

/-- A probe is sent next. -/
def sendProbe (p : Nat) (s : State) : State :=
  let x := s.port p
  hubReady p (.probe x.probeId) none (s.putPort p { x with probeId := (x.probeId + 1) % 16 })

/-- A number held in a signed field of `w` bits. -/
def satI (w : Nat) (x : Int) : Nat := lowBits w (clampI (-(2 ^ (w - 1) : Nat)) ((2 ^ (w - 1) : Nat) - 1) x)

/-- ADJUST: corr = −e, and the accumulated rate (R282). -/
def sendAdjust (p : Nat) (e : Int) (s : State) : State :=
  let x := s.port p
  let dt := match x.lastProbe with | some t => s.now - t | none => 0
  let r := if dt = 0 then x.rate else clampI (-32767) 32767 (x.rate - e * 100000000 / dt)
  hubReady p (.adjust (-e) r) none (s.putPort p { x with rate := r })

/-- A SYNC_RSP (R282, R283). -/
def takeSync (p a2 turn t1 t4 : Nat) (s : State) : State :=
  let x := s.port p
  let rtt : Int := (t4 : Int) - t1 - turn
  let asym : Int := sext 16 (s.get (fNDL_SYNC_asym p)) + x.asym
  let d := (rtt + asym) / 2
  let e := sext 32 (lowBits 32 ((a2 : Int) - (s.toPair t1 + d)))
  let s := (s.put (fNDL_OFS_rtt p) (clampI 0 65535 rtt).toNat).put (fNDL_OFS_e p) (satI 16 e)
  let s := s.putPort p { x with probe := none }
  if s.portState p = pTset then
    -- the mirror sends no SET on a paired port (10_lovage_pairing.md R376)
    if x.rtts < 4 && !s.mirrorPort p then
      let s := s.putPort p { s.port p with rtts := x.rtts + 1, ddn := d }
      if x.rtts + 1 = 4 then sendProbe p (hubReady p .syncSet none s) else sendProbe p s
    else
      let s := sendAdjust p e s
      let g := if e.natAbs ≤ ns1 then x.good + 1 else 0
      let s := s.putPort p { s.port p with good := g, lastProbe := some s.now }
      if 4 ≤ g then enterUp p s else sendProbe p s
  else
    let s := sendAdjust p e s
    let s := if ns1 < e.natAbs then portIrq p 7 ((s.lower (fNDL_STAT_sync_ok p)).sageEvt 22 (nPort p))
      else s.raise (fNDL_STAT_sync_ok p)
    let b := if ns4 < e.natAbs then x.bad + 1 else 0
    let s := s.putPort p { s.port p with bad := b, lastProbe := some s.now }
    if 3 ≤ b then enterLoss p s else s

/-! Sample answers (R298). -/

/-- An answer of a slot is matched to the oldest request (R298): the instant it stands for. -/
def sampleMatch (p slot : Nat) (chk : Bool) (s : State) : Option Nat × State :=
  let x := s.port p
  match x.smpReq with
  | [] => (none, s)
  | (t, mask, c) :: r =>
    let a := if chk then x.smpSeen else x.smpSeen ||| 2 ^ slot
    let b := if chk then x.chkSeen ||| 2 ^ slot else x.chkSeen
    let full (m : Nat) : Bool := m &&& mask == mask
    let s := if full a && (!c || full b) then s.putPort p { x with smpReq := r, smpSeen := 0, chkSeen := 0 }
      else s.putPort p { x with smpSeen := a, chkSeen := b }
    (some t, s)

/-! Telemetry (R302, R303). -/

/-- A TELEM report of a slot (R256, R259, R303). -/
def takeTelem (p slot flags vboot temp : Nat) (s : State) : State :=
  let n := 4 * p + slot
  let was := s.get (fNDL_TELEM_flags p slot)
  let valid := s.on (fNDL_TELEM_valid p slot)
  let s := ((s.put (fNDL_TELEM_vboot p slot) vboot).put (fNDL_TELEM_temp p slot) temp).put (fNDL_TELEM_flags p slot) flags
  let s := s.raise (fNDL_TELEM_valid p slot)
  let s := if valid && was ≠ flags % 1024 then portIrq p 6 s else s
  let b (i : Nat) : Bool := flags / 2 ^ i % 2 == 1
  let s := s.putB (fLEG_BOOT_pump n) (b 9)
  let l := s.leg n
  let s := s.putLeg n { l with bootRep := true, bootLow := b 8, bootOnce := l.bootOnce || (b 8 && !l.bootLow) }
  let s := s.each [(0, 5), (1, 4), (2, 7), (3, 6), (4, 3)] (fun (i, j) s => setSatSrc n i (b j) false s)
  let s := if s.legEn n then hintChange [n] (recheckSide (s.legMg n) s) else s
  -- the clear that is armed for a leg of a stopped group waits for its last source (R250)
  if s.tbgRun (s.legTbg n) then s else armedLeg n s

/-! The NDL frame (R301, R315). -/

/-- What an applied commit of a port's registers sends; `w` are the addresses that changed. -/
def portFrame (p : Nat) (w : List Nat) (s : State) : State :=
  let s := s.when (w.contains (aNDL_TIMING p)) (sendTiming p)
  let s := s.when (w.contains (aNDL_TEL_CFG p)) (sendTel p)
  let s := s.when (w.any (fun a => aNDL_GPROF p 0 0 ≤ a && a ≤ aNDL_GPROF p 7 1)) (sendProfiles p)
  s.when (w.contains (aNDL_HINT p) && s.portUp p) (sendHint p)

/-- NDL[p]_STAT.prof_pend falls at the activation time (R301). -/
def profDone (s : State) : State :=
  s.each (List.range 32) (fun p s =>
    match (s.port p).profAt with
    | some t => if t ≤ s.now then (s.putPort p { s.port p with profAt := none }).lower (fNDL_STAT_prof_pend p) else s
    | none => s)

/-! Sending (R276, R285, R286). -/

/-- A port is enabled (R277, R280). -/
def portEn (p : Nat) (s : State) : State :=
  if 16 ≤ p && !s.on fNDLH_STAT_pd1 then s.errSet 0x40040000 18
  else
    let s := s.raise (fNDL_CTRL_en p)
    let st := s.portState p
    if st = pOff || st = pLoss then enterTrain p s else s

/-- A port is disabled (R277). -/
def portDis (p : Nat) (s : State) : State :=
  let s := s.lower (fNDL_CTRL_en p)
  if s.portState p = pOff then s else enterOff p s

/-- The hub may send the cell now: an EDGE needs a credit taken after CAPS (R286, R287). -/
def State.hubOk (s : State) (p : Nat) (c : Cell) : Bool :=
  s.mayHand p c && (match c with | .edge .. => (s.port p).credTaken && s.get (fNDL_STAT_cred p) != 0 | _ => true)

/-- What the hub does when it starts a cell. -/
def hubSent (p : Nat) (r : RCell) (s : State) : State :=
  let late (s : State) : State :=
    match r.due with
    | some d => if d < s.now then portIrq p 4 (s.incrSat (fNDL_LEAD_VIOL_cnt p)) else s
    | none => s
  let x := s.port p
  match r.cell with
  | .edge n e =>
    let s := late (s.putPort p { x with edges := x.edges ++ [(n, e)] })
    let s := (s.put (fNDL_STAT_cred p) (s.get (fNDL_STAT_cred p) - 1)).incr (fNDL_EDGE_CNT_cnt p)
    if x.tokKnown && !s.on (fNDL_STAT_tok p) then tokenLost p s else s
  | .sampleReq t m c => late (s.putPort p { x with smpReq := x.smpReq ++ [(t, m, c)] })
  | .probe id => s.putPort p { x with probe := some (id, s.now) }
  | .force id _ _ _ _ _ => s.putPort p { x with force := x.force.map (fun f => if f.id = id then { f with last := s.now } else f) }
  | _ => s

/-- The payload of a cell as the hub sends it (R274): SET carries the time at which its first bit arrives at the satellite (R281, R282). -/
def State.hubPay (s : State) (p : Nat) (c : Cell) : Nat :=
  c.payload s.toPair (fieldAt 62 2 2 + fieldAt 25 37 ((s.toPair s.now : Int) + (s.port p).ddn).toNat)

/-- The hub's slot (R276, R277): FILL in TRAIN, with seq = 0xF (R273), and in a LOSS that leads to TRAIN (DEDUCED, log entry 49). -/
def hubSlot (p : Nat) (s : State) : State :=
  let st := s.portState p
  let x := s.port p
  let fill (n : Nat) : State := s.putPort p { x with lk := { x.lk with last := x.lk.chars false false n (fun _ => 0) .fill } }
  if st = pOff then s
  else if st = pTrain then
    let s := fill 15
    s.putPort p { s.port p with fillAt := (s.port p).fillAt.or (some s.now) }
  else if st = pLoss then (if s.on (fNDL_CTRL_auto p) then fill 0 else s)
  else
    let ch := x.lk.choose (s.hubOk p)
    let pay := s.hubPay p
    let s := s.putPort p { x with lk := { x.lk.sent s.now pay ch with last := x.lk.chars false false 0 pay ch } }
    match ch with
    | .fill => s
    | .again _ => s.incr (fNDL_RESEND_cnt p)
    | .ready r => hubSent p r s

end Sys2Proof.Machine
end

