-- ==== Sys2Proof/Machine/PairTake.lean ====
section
/-! DEFINITION. What the tok bit of an uplink cell means to the hub and to a takeover (08_ndotar_drive_link.md R272, R310, R312;
10_lovage_pairing.md R381): ports granted, groups taken. -/
namespace Sys2Proof.Machine

/-- The ports granted to this chip, all of a group's among them (R381). -/
def State.fullyGranted (s : State) (x : Tko) (m : Nat) : Bool :=
  s.pairedGroup m && (s.members m).all (fun n =>
    x.granted / 2 ^ legPort n % 2 == 1 || s.tokHere (legPort n))

/-- The PTA emits what lies ahead of a group taken over (R381 step 5): edges and sample instants at least the lead time
ahead. -/
def takeEdges (g : Nat) (s : State) : State :=
  let t := s.tbg g
  let lead (p : Nat) : Nat := 32 * s.get (fNDL_LEAD_lead p)
  let s := s.each (s.groupLegs g) (fun n s =>
    s.each ((s.leg n).pend.filter (fun e => decide (s.now + 32 * s.get (fNDL_LEAD_lead (legPort n)) ≤ e.t)))
      (fun e s => hubEdge n e s))
  let k : Taken := { b := t.b, w := t.b, e := t.hB, p := s.periodF g }
  let pts := (s.groupSamples g k []).1
  s.each pts (fun at_ s =>
    s.each (s.tbgPorts g) (fun p s =>
      if at_ < s.now + lead p then s
      else hubSample p at_ (((s.groupLegs g).filter (fun n => legPort n == p)).foldl (fun x n => x ||| 2 ^ legSlot n) 0) s))

/-- A working state with a phase and a lock count. -/
def Work.withPhase (w : Work) (ph lock : Nat) : Work := { w with phase := ph, k := { w.k with lockN := lock } }

/-- The phase of an image becomes the context's (log entry 35). -/
def takePhase (k ph : Nat) (s : State) : State :=
  let lock := if s.cKid k = 3 then 0 else (s.cw k 0x3C0).fld 8 6
  let c := s.ctx k
  (s.putCtx k { c with w := c.w.withPhase ph lock, wk := c.wk.withPhase ph lock }).put (cf k fCTX_W_STAT_phase) ph

/-- A mirrored context starts on the new prime (R381 step 5): it continues from the mirrored state, so the image stays and
its phase is that of the image (DEDUCED, log entry 35; the worked example of 10_lovage_pairing.md). -/
def takeStart (k : Nat) (s : State) : State :=
  if s.get fENG_KS_STAT_state ≠ 0 || !s.on fENG_CFG_sched_en || (s.ctx k).st ≠ .admitted then s
  else
    let img := s.memWords (cArea k + 0x380) 32
    let s := (startCtxAt k (applyInstant k s)).memPutWords (cArea k + 0x380) img
    let kid := s.cKid k
    if kid = 1 || kid = 2 then takePhase k ((s.cw k 0x3C0).fld 0 4) s
    else if kid = 3 then takePhase k ((s.cw k 0x39C).fld 0 4) s
    else s

/-- A fully granted group is taken (R381 steps 4 and 5). -/
def takeGroup (m : Nat) (s : State) : State :=
  let st := s.mgState m
  let heart := s.pair.heart.getD m 0
  if st ≠ 0 then
    -- the group keeps its state; the hub restates the hold
    forceLegs (s.members m) (patOf st) true (s.dtSafe m) (fun _ => 0) s
  else if heart = 1 || heart = 2 then softAsc m s
  else if heart ≠ 0 then softPulseOff m s
  else
    let s := s.each (((s.members m).map s.legTbg).eraseDups) (fun g s => if s.tbgRun g then takeEdges g s else s)
    s.each ((s.ctxOfMg m).filter (fun k => s.mirCtx k && s.pair.runs.contains k)) (fun k s => takeStart k s)

/-- Every group that is now fully granted and not yet taken is taken. -/
def takeGroups (s : State) : State :=
  s.each (List.range 32) (fun m s =>
    match s.pair.tko with
    | some x =>
      if x.taken / 2 ^ m % 2 = 0 && s.fullyGranted x m then
        takeGroup m (s.setPair { s.pair with tko := some { x with taken := x.taken + 2 ^ m } })
      else s
    | none => s)

/-- A port is granted in or after a takeover (R381 steps 3 to 5, R387): the slew in force before the loss is removed from the
satellite's rate, then items 1 to 3 of R279 follow. -/
def pairGrant (p : Nat) (s : State) : State :=
  match s.pair.tko with
  | none => s
  | some x =>
    if !s.bitAt aPAIR_PORTS p || x.granted / 2 ^ p % 2 = 1 || !s.portUp p then s
    else
      let s := s.setPair { s.pair with tko := some { x with granted := x.granted + 2 ^ p, denied := withBit x.denied p false } }
      let r := clampI (-32767) 32767 ((s.port p).rate - x.slew)
      let s := hubReady p (.adjust 0 r) none (s.putPort p { s.port p with rate := r })
      takeGroups (sendHints p (sendProfiles p (sendTel p (sendTiming p s))))

/-- The tok bit of an uplink cell and what it means to a takeover (R312, R381 step 2). -/
def pairTok (p : Nat) (tok : Bool) (s : State) : State :=
  let s := takeTok p tok s
  if tok && (s.port p).tokKnown then pairGrant p s else s

/-- The tok and react bits of a valid uplink cell are taken (R272, R312); a port in OFF or LOSS takes none. -/
def hubBits (p : Nat) (tok react : Bool) (s : State) : State :=
  let st := s.portState p
  if st = pOff || st = pLoss then s
  else
    let s := s.when (s.on (fNDL_STAT_react p) != react) (fun s => s.putB (fNDL_STAT_react p) react)
    if (s.port p).tokKnown && s.on (fNDL_STAT_tok p) == tok && s.pair.tko.isNone then s else pairTok p tok s

/-- A sequenced uplink cell: its header bits, then its acceptance in order (R272, R273). -/
def hubCell (p : Nat) (h : CellHdr) (k : State → State) (s : State) : State := hubSequenced p h k (hubBits p h.tok h.react s)

end Sys2Proof.Machine
end

