-- ==== Sys2Proof/Machine/Satellite.lean ====
section
/-! DEFINITION. The satellite's end of a port (08_ndotar_drive_link.md R281 to R314): local time, switches, edge queues,
FORCE holds, pattern hold, loss reaction, tokens and registers. Times of its state are local times in fine ticks. -/
namespace Sys2Proof.Machine

/-! Local time (R281 to R283). -/

/-- Local time minus Thyme at a moment: the offset, the rate since it was set, and the part of corr slewed in so far. -/
def Sat.offset (x : Sat) (now : Nat) : Int :=
  let d : Int := now - x.slewAt
  let slew := clampI (-(d / 256)) (d / 256) x.corr
  x.ofs + d * x.rate / 100000000 + slew

/-- Local time at a moment of Thyme. -/
def Sat.local (x : Sat) (now : Nat) : Nat := ((now : Int) + x.offset now).toNat

/-- The moment of Thyme at which local time reaches `t`, by the present offset. -/
def Sat.moment (x : Sat) (now t : Nat) : Nat := ((t : Int) - x.offset now).toNat

/-- The offset, rate and slew start anew at a moment. -/
def Sat.settleTime (x : Sat) (now : Nat) : Sat :=
  let d : Int := now - x.slewAt
  { x with ofs := x.offset now, corr := x.corr - clampI (-(d / 256)) (d / 256) x.corr, slewAt := now }

/-! Slots. -/

/-- A slot of a satellite. -/
def Sat.slot (x : Sat) (i : Nat) : Slot := x.slots.getD i {}
def Sat.putSlot (x : Sat) (i : Nat) (v : Slot) : Sat := { x with slots := setAt x.slots i v }
/-- A link port of a satellite: false is A, true is B. -/
def Sat.link (x : Sat) (b : Bool) : SLink := if b then x.b else x.a
def Sat.putLink (x : Sat) (b : Bool) (l : SLink) : Sat := if b then { x with b := l } else { x with a := l }
/-- The port that holds the token (R310). -/
def Sat.holder (x : Sat) : SLink := x.link x.tokB
/-- dt_sat in fine ticks (R313). -/
def Sat.dtSat (x : Sat) : Nat := x.caps.fld 16 8 * 128
/-- The populated slots (R313). -/
def Sat.nSlots (x : Sat) : Nat := min 4 (x.caps.fld 0 3)

/-- A bit of the report flags, bits [61:52] of TELEM (R302): 9 pump, 8 boot_low, 7 and 6 uvlo, 5 and 4 desat, 3 ot_trip,
2 ot_warn, 1 and 0 blocked. -/
def Slot.flag (v : Slot) (i : Nat) : Bool := v.flags / 2 ^ i % 2 == 1

/-- A cell is ready on a link port. -/
def Sat.send (x : Sat) (b : Bool) (c : Cell) : Sat := x.putLink b { x.link b with lk := (x.link b).lk.add c }

/-- A STATUS cell is ready on a link port, once (R286). -/
def Sat.status (x : Sat) (b : Bool) : Sat := if (x.link b).lk.ready.any (·.cell == .status) then x else x.send b .status

/-- Credits fall due on a link port (R286). -/
def Sat.credit (x : Sat) (b : Bool) (n : Nat) : Sat :=
  if n = 0 then x else (x.putLink b { x.link b with due := (x.link b).due + n }).status b

/-- A RESULT goes to a link port (R291). -/
def Sat.result (x : Sat) (b : Bool) (slot : Nat) (e : Edge) (o : EdgeOut) : Sat := x.send b (.result e.t slot e.ls e.on o)

/-- A TELEM of a slot at priority 1, on both link ports (R303). -/
def Sat.telemNow (x : Sat) (i : Nat) : Sat :=
  let c (b : Bool) (x : Sat) : Sat := x.send b (.telem i (x.slot i).flags true)
  c true (c false x)

/-- The flags of a slot take a value; a change is reported (R303). -/
def Sat.setFlags (x : Sat) (i f : Nat) : Sat :=
  let v := x.slot i
  if v.flags = f then x else (x.putSlot i { v with flags := f }).telemNow i

/-! Switches (R303, R304). -/

/-- What drives a gate after an edge (R299 to R301): the half of a profile, from the bank in force at the edge's time on the port that
holds the token. -/
def Sat.drive (x : Sat) (prof : Nat) (off : Bool) (t : Nat) : Drive :=
  let l := x.holder
  let bank := match l.bankAt with
    | some a => if a ≤ t then l.profOther else l.profBank
    | none => l.profBank
  { word := bank.getD (2 * (prof % 8) + off.toNat) 0, prof := prof % 8, off := off, at_ := t }

/-- The phase of a drive at a local time and the current it applies, in steps of I_step (R299, R300); `plateau` is the time at which the
satellite detects the end of the gate plateau. -/
def Drive.phase (d : Drive) (plateau : Option Nat) (t : Nat) : Nat × Nat :=
  let t1 := d.at_ + 64 * d.word.fld 20 7
  let t2 := t1 + 128 * d.word.fld 8 7
  let ended := match plateau with | some u => d.word.fld 2 1 == 1 && decide (t1 ≤ u) && decide (u ≤ t) | none => false
  if t < t1 then (1, d.word.fld 27 5) else if t < t2 && !ended then (2, d.word.fld 15 5) else (3, d.word.fld 3 5)

/-- A switch is turned off; one that was on is driven by `d` (R300). -/
def Slot.turnOff (v : Slot) (ls : Bool) (t : Nat) (d : Drive) : Slot :=
  if ls then { v with ls := false, lsOff := if v.ls then some t else v.lsOff, gateL := if v.ls then d else v.gateL }
  else { v with hs := false, hsOff := if v.hs then some t else v.hsOff, gateH := if v.hs then d else v.gateH }

/-- Is a block of a switch cleared by an on-command that arrived at `arr`: after the report of a desaturation, and with
the driver supply recovered (R303)? -/
def Slot.clears (v : Slot) (ls : Bool) (arr : Nat) : Bool :=
  !v.flag (if ls then 6 else 7) && !v.flag (if ls then 4 else 5) && decide ((if ls then v.repL else v.repH) ≤ arr)

/-- An on-command for a switch (R303, R304): a blocked one has no effect; the interlock refuses one while the other switch
is on or was turned off less than dt_sat ago. `prof` is the profile of the edge (R300). -/
def Sat.turnOn (x : Sat) (i : Nat) (ls : Bool) (t arr prof : Nat) : Sat :=
  let v := x.slot i
  if (if ls then v.ls else v.hs) then x
  else
    let bit := if ls then 0 else 1
    let x := if v.flag bit && v.clears ls arr then x.setFlags i (withBit v.flags bit false) else x
    let v := x.slot i
    if v.flag bit then x
    else
      let other := if ls then v.hs else v.ls
      let off := if ls then v.hsOff else v.lsOff
      let recent := match off with | some o => decide (t < o + x.dtSat) | none => false
      if other || recent then { x with a := { x.a with ilk := true }, b := { x.b with ilk := true } }
      else
        let d := x.drive prof false t
        x.putSlot i (if ls then { v with ls := true, gateL := d } else { v with hs := true, gateH := d })

/-- The on side still due of a FORCE or a loss reaction is turned on when its moment has come (R295, R308). -/
def Sat.settleSlot (x : Sat) (now i : Nat) : Sat :=
  match (x.slot i).onDue with
  | some (ls, t, arr) =>
    if t ≤ x.local now then (x.putSlot i { x.slot i with onDue := none }).turnOn i ls t arr 0 else x
  | none => x

/-- Every on side whose moment has come. -/
def Sat.settle (x : Sat) (now : Nat) : Sat := [0, 1, 2, 3].foldl (fun x i => x.settleSlot now i) x

/-! FORCE holds (R295). -/

/-- Does a hold cover a time of its slot? -/
def Slot.inHold (v : Slot) (t : Nat) : Bool :=
  match v.hold with
  | some h => decide (h.start ≤ t) && (match h.fin with | some e => decide (t < e) | none => true)
  | none => false

/-- Is the slot under an indefinite FORCE hold? -/
def Slot.indefinite (v : Slot) : Bool := match v.hold with | some h => h.fin.isNone | none => false

/-- The first local time after `t` with these low 26 tick bits (R294). -/
def firstAfter26 (t fin : Nat) : Nat :=
  let d := (fin % 2 ^ 26 + 2 ^ 26 - t / 32 % 2 ^ 26) % 2 ^ 26
  (t / 32 + if d = 0 then 2 ^ 26 else d) * 32

/-- A FORCE for one slot (R295): off side at once, on side after dly, the loss reaction and the pattern hold end as R307 and
R308 say. -/
def Sat.forceSlot (x : Sat) (now i pat mode dly fin : Nat) : Sat :=
  let t := x.local now
  let v := { x.slot i with inReact := false }
  let fin := firstAfter26 t fin
  if pat = 3 then
    let start := match v.hold with | some h => h.start | none => t
    x.putSlot i { v with hold := some { pat := 3, fin := some fin, start := start } }
  else
    let d := x.drive 0 true t
    let v := if pat ≠ 2 then v.turnOff false t d else v
    let v := if pat ≠ 1 then v.turnOff true t d else v
    let indef := mode % 2 = 1
    let v := { v with
      hold := some { pat := pat, fin := if indef then none else some fin, start := t },
      onDue := if pat = 1 && !v.ls then some (true, t + 128 * dly, t) else if pat = 2 && !v.hs then some (false, t + 128 * dly, t)
        else none,
      phLim := if indef then none else v.phLim, phEnd := if indef then none else v.phEnd, reps := if indef then [] else v.reps,
      phBase := if indef then none else v.phBase }
    x.putSlot i v

/-! Pattern hold and loss reaction (R307, R308). -/

/-- The loss reaction of a slot (R308): the hinted one with the local fall-back. -/
def Sat.reactSlot (x : Sat) (now i : Nat) : Sat :=
  let t := x.local now
  let v := x.slot i
  let a := if v.react = 2 && (v.flag 8 || v.flag 1) then 1 else v.react
  let a := if a = 1 && v.flag 0 then 0 else a
  let d := x.drive 0 true t
  let v := if a ≠ 2 then v.turnOff false t d else v
  let v := if a ≠ 1 then v.turnOff true t d else v
  x.putSlot i { v with
    inReact := true, phLim := none, phBase := none, phEnd := none, reps := [],
    onDue := if a = 1 && !v.ls then some (true, t + x.dtSat, t) else if a = 2 && !v.hs then some (false, t + x.dtSat, t) else none }

/-- Entries of the slot still to be executed, on the port that holds the token. -/
def Sat.waits (x : Sat) (i : Nat) : Bool := x.holder.queue.any (fun q => q.slot == i && !q.passed)

/-- The repeats of a slot begin once none of its entries is left (R307 step 2). -/
def Sat.repeatFrom (x : Sat) (now i : Nat) : Sat :=
  let v := x.slot i
  if v.phLim.isNone || v.phBase.isSome || x.waits i then x
  else
    let m := x.local now
    let reps := match v.period with
      | some p => ((v.done.filter (fun e => decide (m < e.t + 32 * p) && decide (e.t ≤ m))).map (fun e => { e with t := e.t + 32 * p }))
      | none => []
    x.putSlot i { v with phBase := some m, reps := reps }

/-- A slot enters pattern hold, or its loss reaction at once (R307). -/
def Sat.patternSlot (x : Sat) (now i : Nat) : Sat :=
  let v := x.slot i
  if v.inReact || v.indefinite then x
  else
    let th := x.holder.tHold
    if !v.holdEn || th = 0 then x.reactSlot now i
    else (x.putSlot i { v with phLim := some (x.local now + us * th), phBase := none, phEnd := none, reps := [] }).repeatFrom now i

/-- Every slot enters pattern hold (R305, R311). -/
def Sat.pattern (x : Sat) (now : Nat) : Sat := [0, 1, 2, 3].foldl (fun x i => x.patternSlot now i) x

/-- The holder queues an entry for a slot: the pattern hold ends, repeats before the entry's time remain (R307 step 3). -/
def Slot.entryEnds (v : Slot) (t : Nat) : Slot :=
  if v.phLim.isSome then { v with phLim := none, phEnd := some t, reps := v.reps.filter (fun e => e.t < t) } else v

/-! The edge queue (R286 to R290). -/

/-- 20 ns, 5 µs and 1 ms of history. -/
def ns20 : Nat := 256
def us5 : Nat := 5 * us

/-- An entry leaves the queue of a port: its credit falls due, and pattern hold looks for the end of the queue. -/
def Sat.leave (x : Sat) (b : Bool) (q : QEnt) (now : Nat) : Sat :=
  let l := x.link b
  ((x.putLink b { l with queue := l.queue.erase q }).credit b 1).repeatFrom now q.slot

/-- An edge acts on its switch. -/
def Sat.act (x : Sat) (i : Nat) (e : Edge) (t arr : Nat) : Sat :=
  if e.on then x.turnOn i e.ls t arr e.prof else x.putSlot i ((x.slot i).turnOff e.ls t (x.drive e.prof true t))

/-- An entry is executed at its time (R288, R290 row 3). -/
def Sat.execEntry (x : Sat) (b : Bool) (q : QEnt) (now : Nat) : Sat :=
  let x := x.act q.slot q.e q.e.t q.arr
  let x := if q.kill && q.e.on && !(x.slot q.slot).inHold q.e.t then
      x.putSlot q.slot ((x.slot q.slot).turnOff q.e.ls q.e.t (x.drive 0 true q.e.t)) else x
  let v := x.slot q.slot
  let x := x.putSlot q.slot { v with done := v.done.filter (fun e => q.e.t < e.t + 2 ^ 29) ++ [q.e] }
  let l := x.link b
  let x := x.putLink b { l with
    lexec := if q.old then (l.lexec + 1) % 2 ^ 32 else l.lexec,
    done := l.done.filter (fun d => q.e.t < d.e.t + ms) ++ [q] }
  x.leave b q now

/-- The next entry of a port to reach its time. -/
def Sat.nextEntry (x : Sat) (b : Bool) : Option QEnt :=
  ((x.link b).queue.filter (fun q => !q.passed)).foldl (fun m q => match m with
    | none => some q
    | some r => if Cell.before (.edge q.slot q.e) (.edge r.slot r.e) then some q else some r) none

/-- The entry whose time has come (R288): executed; kept inside a hold (R295); not executed in loss reaction, where it leaves
the queue and counts as discarded (R308, R309; log entry 29). -/
def Sat.due1 (x : Sat) (b : Bool) (q : QEnt) (now : Nat) : Sat :=
  let v := x.slot q.slot
  let l := x.link b
  if v.inReact then
    (x.putLink b { l with ldisc := if q.old then (l.ldisc + 1) % 2 ^ 32 else l.ldisc }).leave b q now
  else if v.inHold q.e.t then
    (x.putLink b { l with queue := l.queue.map (fun r => if r == q then { r with passed := true } else r) }).repeatFrom now q.slot
  else x.execEntry b q now

/-- The moment nearest to local time with these low 32 tick bits (R301). -/
def nearest32 (t lo : Nat) : Nat :=
  let c := t / 32
  ((c : Int) + sext 32 (lowBits 32 ((lo : Int) - c))).toNat * 32

/-- The moment nearest to local time with these low 37 bits, 32 tick bits and 5 fine bits (R284). -/
def nearest37 (now t : Nat) : Nat := ((now : Int) + sext 37 (lowBits 37 ((t : Int) - now))).toNat

/-- A checked EDGE cell (R284, R286, R288, R311). -/
def Sat.takeEdge (x : Sat) (b : Bool) (now slot : Nat) (e : Edge) : Sat :=
  let t := x.local now
  let v := x.slot slot
  if b ≠ x.tokB then (x.result b slot e .notOwner).credit b 1
  else
  let e := { e with t := nearest37 t e.t }
  if t + ns20 < e.t then
    let l := x.link b
    let x := x.putLink b { l with queue := l.queue ++ [{ slot := slot, e := e, arr := t }] }
    x.putSlot slot (v.entryEnds e.t)
  else
    let o : EdgeOut := if e.on then .lateOn else .lateOff
    let x := if !e.on && !v.inHold t && !v.inReact then x.putSlot slot (v.turnOff e.ls t (x.drive e.prof true t)) else x
    let l := x.link b
    let x := x.putLink b { l with lateSeen := (({ slot := slot, e := e }, o) :: l.lateSeen).take 64 }
    (x.result b slot e o).credit b 1

/-- A checked RETRACT cell (R290, R293, R311). -/
def Sat.takeRetract (x : Sat) (b : Bool) (now slot : Nat) (e : Edge) : Sat :=
  let t := x.local now
  let v := x.slot slot
  let same := e.sameCell
  let l := x.link b
  if b ≠ x.tokB then x.result b slot e .notOwner
  else match l.queue.find? (fun q => q.slot == slot && same q.e) with
    | some q =>
      if q.passed || v.inHold q.e.t || t + ns20 < q.e.t then (x.result b slot e .retracted).leave b q now
      else
        let x := if q.e.on && !v.inHold t then x.putLink b { l with queue := l.queue.map (fun r => if r == q then { r with kill := true } else r) }
          else x
        x.result b slot e .tooLate
    | none =>
      if l.done.any (fun q => q.slot == slot && same q.e) then
        let x := if e.on && !v.inHold t then x.putSlot slot (v.turnOff e.ls t (x.drive 0 true t)) else x
        x.result b slot e .tooLate
      else match l.lateSeen.find? (fun q => q.1.slot == slot && same q.1.e) with
        | some (_, o) => x.result b slot e o
        | none => x.result b slot e .unknown

/-- An entry that passed inside a hold and was not retracted for 5 µs is discarded (R295). -/
def Sat.suppress (x : Sat) (b : Bool) (q : QEnt) (now : Nat) : Sat :=
  let l := x.link b
  let x := x.putLink b { l with ldisc := if q.old then (l.ldisc + 1) % 2 ^ 32 else l.ldisc }
  (x.result b q.slot q.e .suppressed).leave b q now

/-! Loss and tokens (R305 to R311). -/

/-- A link port is lost (R305, R309). -/
def Sat.portLost (x : Sat) (b : Bool) (now : Nat) : Sat :=
  let l := x.link b
  if l.loss then x
  else
    let x := x.putLink b { l with loss := true, lexec := 0, ldisc := 0, queue := l.queue.map (fun q => { q with old := true }) }
    if x.tokB = b then x.pattern now else x

/-- The token goes to the other port (R311). -/
def Sat.transfer (x : Sat) (now : Nat) : Sat :=
  let o := x.tokB
  let q := (x.link o).queue
  let x := q.foldl (fun x e => x.result o e.slot e.e .notOwner) x
  let x := (x.putLink o { x.link o with queue := [] }).credit o q.length
  { x with tokB := !o }.pattern now

/-- A TOKEN cell (R310): 1 CLAIM, 2 GIVE, else QUERY. -/
def Sat.token (x : Sat) (b : Bool) (op now : Nat) : Sat :=
  let mine := x.tokB == b
  let go := if op = 1 then !mine && x.holder.loss else if op = 2 then mine && !(x.link (!b)).loss else false
  let x := if go then x.transfer now else x
  let res := if op = 1 || op = 2 then (if go then 1 else 2) else 3
  x.send b (.tokenRsp res x.tokB)

/-! Registers (R313). -/

/-- A write of a satellite register. -/
def Sat.cfgWrite (x : Sat) (b : Bool) (a : Nat) (d : Word) (now : Nat) : Sat :=
  let l := x.link b
  if a = 0x10 then x.putLink b { l with tLoss := near 5 160 (d.fld 0 8), tHold := near 0 50 (d.fld 16 6) }
  else if a = 0x24 then x.putLink b { l with tel := near 10 1000 (d.fld 0 10) }
  else if x.tokB ≠ b then x
  else if 0x100 ≤ a && a < 0x140 && a % 4 = 0 then
    x.putLink b { l with profOther := setAt (l.profOther ++ List.replicate (16 - l.profOther.length) 0) ((a - 0x100) / 4) d }
  else if a = 0x140 then x.putLink b { l with bankAt := some (nearest32 (x.local now) d.toNat), bankW := d }
  else x

/-- A read of a satellite register. -/
def Sat.cfgRead (x : Sat) (b : Bool) (a : Nat) : Word :=
  let l := x.link b
  let n (v : Nat) : Word := BitVec.ofNat 32 v
  if a = 0 then x.id else if a = 4 then x.caps else if a = 8 then x.asymW else if a = 0xC then x.ser
  else if a = 0x10 then n (l.tLoss + l.tHold * 65536)
  else if a = 0x14 then n ((if b then 1 else 0) + (if x.tokB = b then 2 else 0))
  else if a = 0x18 then n l.lexec else if a = 0x1C then n l.ldisc else if a = 0x20 then x.boots else if a = 0x24 then n l.tel
  else if 0x100 ≤ a && a < 0x140 && a % 4 = 0 then l.profOther.getD ((a - 0x100) / 4) 0
  else if a = 0x140 then l.bankW else 0

/-! Cells received and sent. -/

/-- A valid downlink cell arrives (R272, R273, R305). -/
def Sat.hears (x : Sat) (b : Bool) (ack : Nat) (nak : Bool) (now : Nat) : Sat :=
  let l := x.link b
  let l := { l with lastValid := now, loss := false, lk := l.lk.acked ack }
  match l.lk.onNak now nak with
  | some k => x.putLink b { l with lk := k }
  | none => (x.putLink b l).portLost b now

/-- A command of a satellite: on sides that are due are switched first, the offset starts anew. -/
def satDo (p : Nat) (k : Sat → Sat) (s : State) : State := s.putSat p (k ((s.sat p).settle s.now))

/-- A sequenced downlink cell: accepted in order, its effect follows. -/
def Sat.sequenced (x : Sat) (b : Bool) (h : CellHdr) (now : Nat) (k : Sat → Sat) : Sat :=
  let x := x.hears b h.ack.val h.nak now
  let l := x.link b
  let (lk, go) := l.lk.receive h.seq.val
  let x := x.putLink b { l with lk := lk }
  if go then k x else x

/-- A FILL cell at a satellite port; with seq = 0xF numbering starts again (R273). -/
def Sat.fill (x : Sat) (b : Bool) (seq ack : Nat) (nak : Bool) (now : Nat) : Sat :=
  if seq = 15 then
    let l := x.link b
    x.putLink b { l with lastValid := now, loss := false, lk := l.lk.restart, due := 0, lastForce := none }
  else x.hears b ack nak now

/-- A FORCE cell (R295, R311): the first valid copy acts; STATUS carries its identifier. -/
def Sat.takeForce (x : Sat) (b : Bool) (now id mask pat mode dly fin : Nat) : Sat :=
  if b ≠ x.tokB then x
  else
    let c : Cell := .force (id % 16) mask pat (mode % 2 == 1) dly (fin % 2 ^ 26)
    let l := x.link b
    if l.lastForce = some c then x.status b
    else
      let x := (bitsOf 4 mask).foldl (fun x i => x.forceSlot now i (pat / 4 ^ i % 4) mode dly fin) x
      (x.putLink b { x.link b with fid := some (id % 16), lastForce := some c }).status b

/-- Does a slot repeat or react (R272, the react bit)? -/
def Sat.reactBit (x : Sat) : Bool := x.slots.any (fun v => v.inReact || v.phLim.isSome)

/-- After a TELEM that carries it was sent, the desaturation flag follows the comparator, which reads inactive for a
switch that is off (R302); the change is reported. -/
def Sat.telemSent (x : Sat) (i f now : Nat) : Sat :=
  let v := x.slot i
  let t := x.local now
  let v := { v with repH := if f / 32 % 2 = 1 then t else v.repH, repL := if f / 16 % 2 = 1 then t else v.repL }
  let g := withBit (withBit v.flags 5 (v.flag 5 && v.hs)) 4 (v.flag 4 && v.ls)
  (x.putSlot i v).setFlags i g

/-- The payload of a cell as a link port sends it (R275, R281, R286, R302, R310): the bootstrap voltage, the temperature and the driver
supply of TELEM are the satellite's own values `v` (log entry 2). -/
def Sat.pay (x : Sat) (b : Bool) (now : Nat) (v : Nat → Nat) (c : Cell) : Nat :=
  let l := x.link b
  c.payload (fun t => t) (match c with
    | .status =>
      fieldAt 58 6 (min 32 l.due) + fieldAt 54 4 (l.fid.getD 0) + fieldAt 53 1 l.fid.isSome.toNat
        + fieldAt 52 1 (!(x.link (!b)).loss).toNat + fieldAt 46 6 l.queue.length + fieldAt 45 1 l.ilk.toNat + fieldAt 37 8 l.dlErr
    | .telem i _ _ => fieldAt 40 12 (v 0) + fieldAt 32 8 (v 1) + fieldAt 24 8 (v 2) + fieldAt 16 8 (x.slot i).dsat
    | .syncRsp _ a2 _ => fieldAt 20 12 (lowBits 32 ((x.local now : Int) - a2))
    | .tokenRsp _ _ => fieldAt 60 1 b.toNat
    | _ => 0)

/-- A satellite port's slot (R276, R281, R286). -/
def Sat.slotSend (x : Sat) (b : Bool) (now : Nat) (v : Nat → Nat) : Sat :=
  let l := x.link b
  let ch := l.lk.choose (fun _ => true)
  let pay := x.pay b now v
  let cs := l.lk.chars (x.tokB == b) x.reactBit 0 pay ch
  let x := x.putLink b { l with lk := { l.lk.sent now pay ch with last := cs } }
  match ch with
  | .ready r =>
    match r.cell with
    | .status => x.putLink b { x.link b with due := 0, ilk := false, statusAt := now }
    | .telem i f _ => (x.putLink b { x.link b with telAt := setAt (x.link b).telAt i now }).telemSent i f now
    | _ => x
  | _ => x

/-- The samples of a request (R298): SAMPLE before CHECK, in slot order; the check channel's values are free (log entry 2). -/
def Sat.answer (x : Sat) (b : Bool) (smask qmask : Nat) (chk : Bool) (i v vdc : List Int) (chkV : Nat → Nat) : Sat :=
  (bitsOf (min 4 x.nSlots) smask).foldl (fun x j =>
    let q (k : Nat) (l : List Int) : Nat := if qmask / 2 ^ k % 2 = 1 then lowBits 16 (l.getD j 0) else 0
    let x := x.send b (.sample j (q 0 i) (q 1 v) (q 2 vdc))
    if chk then
      let u := x.slot j
      let n := (u.chkCnt + 1) % 256
      (x.putSlot j { u with chkCnt := n }).send b (.check j (chkV (2 * j) % 65536) (chkV (2 * j + 1) % 65536) n)
    else x) x

/-- A desaturation or undervoltage of a switch (R303): off with the off half of a profile, blocked and reported. -/
def Sat.driverFault (x : Sat) (i : Nat) (ls : Bool) (uv : Bool) (prof now : Nat) : Sat :=
  let t := x.local now
  let v := (x.slot i).turnOff ls t (x.drive prof true t)
  let bit := if uv then (if ls then 6 else 7) else (if ls then 4 else 5)
  let v := { v with dsat := if uv then v.dsat else (v.dsat + 1) % 256 }
  let f := withBit (withBit v.flags bit true) (if ls then 0 else 1) true
  -- a further desaturation is reported even where the flag still stands
  let x := x.putSlot i v
  if v.flags = f then x.telemNow i else x.setFlags i f

end Sys2Proof.Machine
end

