-- ==== Sys2Proof/Machine/NdlCommands.lean ====
section
/-! DEFINITION. The commands of 08_ndotar_drive_link.md, but TOKEN_RSP (PairCommands.lean) and CHECK (SageCommands.lean). -/
namespace Sys2Proof.Machine

/-- The link port a command names. -/
def satB : SatPort → Bool
  | .a => false | .b => true

/-- PORT_ENABLE (R277, R280). -/
def execPortEnable (r : Req) (p : Fin 32) (s : State) : Host.Outcome State Fault Refusal :=
  cmdAt r (aNDL_CTRL p.val) (portEn p.val) s

/-- PORT_DISABLE (R277). -/
def execPortDisable (r : Req) (p : Fin 32) (s : State) : Host.Outcome State Fault Refusal :=
  cmdAt r (aNDL_CTRL p.val) (portDis p.val) s

/-- TRAIN_COMPLETE (R277, R287), 16 FILL cells having come: the hub holds no credit in CAPS, and reads the satellite's registers. The lanes of a bank whose
SER_RCAL is open or shorted never leave TRAIN (17_balls_and_electrical.md R575). -/
def execTrainComplete (p : Fin 32) (s : State) : Host.Outcome State Fault Refusal :=
  done (if s.portState p.val ≠ pTrain || (s.port p.val).fills < 16 || s.hpm.rcalBad.contains (p.val / 16) then s
  else
    let p := p.val
    let s := setPortState p pCaps (s.put (fNDL_STAT_cred p) 0)
    let s := s.putPort p { s.port p with credTaken := false, aligned := true, capsGot := 0, lastValid := s.now }
    s.each [0x00, 0x04, 0x08, 0x20, 0x14] (fun a s => hubReady p (.cfgRd a) none s))

/-- CAPS_COMPLETE (R277, R282), the four registers having been read: the first probe of TSET. -/
def execCapsComplete (p : Fin 32) (s : State) : Host.Outcome State Fault Refusal :=
  done (if s.portState p.val ≠ pCaps || (s.port p.val).capsGot ≠ 15 then s
  else
    let s := setPortState p.val pTset s
    sendProbe p.val (s.putPort p.val { s.port p.val with rtts := 0, good := 0 }))

/-- TRAIN_TIMEOUT (R277). -/
def execTrainTimeout (p : Fin 32) (s : State) : Host.Outcome State Fault Refusal :=
  let st := s.portState p.val
  done (if st = pTrain || st = pCaps || st = pTset then enterLoss p.val (s.reach ((s.port p.val).since + ms)) else s)

/-- LOSS_RETRAIN (R277). -/
def execLossRetrain (p : Fin 32) (s : State) : Host.Outcome State Fault Refusal :=
  done (if s.portState p.val = pLoss && s.on (fNDL_CTRL_auto p.val) then
    enterTrain p.val (s.reach ((s.port p.val).since + 10 * us)) else s)

/-- LINK_LOSS (R305): no valid cell for T_loss in CAPS, TSET or UP. -/
def execLinkLoss (p : Fin 32) (s : State) : Host.Outcome State Fault Refusal :=
  let st := s.portState p.val
  done (if st = pCaps || st = pTset || st = pUp then
    enterLoss p.val (s.reach ((s.port p.val).lastValid + 1280 * s.get (fNDL_TIMING_t_loss p.val))) else s)

/-- RESEND_TIMEOUT (R273): the oldest unacknowledged cell has waited 1 µs. -/
def execResendTimeout (e : LinkEnd) (s : State) : Host.Outcome State Fault Refusal :=
  done (match e with
    | .hub p =>
      let x := s.port p.val
      match x.lk.unack with
      | [] => s
      | u :: _ =>
        let s := s.reach (u.last + us)
        (match x.lk.rerun s.now with
         | some l => s.putPort p.val { x with lk := l }
         | none => enterLoss p.val s)
    | .sat p y =>
      let l := (s.sat p.val).link (satB y)
      match l.lk.unack with
      | [] => s
      | u :: _ =>
        let s := s.reach (u.last + us)
        satDo p.val (fun x =>
          match l.lk.rerun s.now with
          | some k => x.putLink (satB y) { x.link (satB y) with lk := k }
          | none => x.portLost (satB y) s.now) s)

/-- Is the cell a slot starts a TELEM? -/
def SendChoice.telem : SendChoice → Bool
  | .ready r => match r.cell with | .telem .. => true | _ => false
  | _ => false

/-- CELL_SEND (R276); the analog values of a TELEM cell are free (log entry 2). -/
def execCellSend (e : LinkEnd) (s : State) : Host.Outcome State Fault Refusal :=
  done (match e with
    | .hub p => hubSlot p.val s
    | .sat p y =>
      let f := s.free
      let t := ((((s.sat p.val).settle s.now).link (satB y)).lk.choose (fun _ => true)).telem
      let s := satDo p.val (fun x => x.slotSend (satB y) s.now (fun k => Config.freeNat (f + k))) s
      if t then s.setFree (f + 3) else s)

/-- EDGE (R286, R288, R311). -/
def execEdge (p : Fin 32) (x : SatPort) (h : CellHdr) (t : Nat) (slot : Fin 4) (ls on : Bool) (prof : Fin 8) (s : State) :
    Host.Outcome State Fault Refusal :=
  done (satDo p.val (fun u => u.sequenced (satB x) h s.now (fun u =>
    u.takeEdge (satB x) s.now slot.val { t := t, ls := ls, on := on, prof := prof.val })) s)

/-- RETRACT (R290, R311). -/
def execRetract (p : Fin 32) (x : SatPort) (h : CellHdr) (t : Nat) (slot : Fin 4) (ls on : Bool) (s : State) :
    Host.Outcome State Fault Refusal :=
  done (satDo p.val (fun u => u.sequenced (satB x) h s.now (fun u =>
    u.takeRetract (satB x) s.now slot.val { t := t, ls := ls, on := on })) s)

/-- FORCE (R294, R295). -/
def execForce (p : Fin 32) (x : SatPort) (h : CellHdr) (id : Nat) (mask : Fin 16) (pat mode dly fin : Nat) (s : State) :
    Host.Outcome State Fault Refusal :=
  done (satDo p.val (fun u =>
    (u.hears (satB x) h.ack.val h.nak s.now).takeForce (satB x) s.now id mask.val (pat % 256) mode (dly % 512) fin) s)

/-- SAMPLE_REQ (R297): a request checked 20 ns or less before its instant is due at once. -/
def execSampleReq (p : Fin 32) (x : SatPort) (h : CellHdr) (t : Nat) (smask qmask : Fin 16) (chk : Bool) (s : State) :
    Host.Outcome State Fault Refusal :=
  done (satDo p.val (fun u => u.sequenced (satB x) h s.now (fun u =>
    let l := u.link (satB x)
    let now := u.local s.now
    let at_ := nearest32 now (t / 32)
    u.putLink (satB x) { l with smp := l.smp ++ [(if at_ ≤ now + ns20 then now else at_, smask.val, qmask.val, chk)] })) s)

/-- PROBE (R281): the answer carries the local time of arrival; the turn ends when it is sent. -/
def execProbe (p : Fin 32) (x : SatPort) (id : Nat) (s : State) : Host.Outcome State Fault Refusal :=
  done (satDo p.val (fun u =>
    let l := u.link (satB x)
    (u.putLink (satB x) { l with lastValid := s.now, loss := false }).send (satB x)
      (.syncRsp (id % 16) (u.local s.now % 2 ^ 32) 0)) s)

/-- ADJUST (R283): the rate at once, corr slewed in. -/
def execAdjust (p : Fin 32) (x : SatPort) (corr rate : Int) (s : State) : Host.Outcome State Fault Refusal :=
  done (satDo p.val (fun u =>
    let u := u.settleTime s.now
    let l := u.link (satB x)
    let u := u.putLink (satB x) { l with lastValid := s.now, loss := false }
    { u with corr := sext 24 (lowBits 24 corr), rate := sext 16 (lowBits 16 rate) }) s)

/-- SYNC_SET (R283): only in TSET, with both edge queues empty. -/
def execSyncSet (p : Fin 32) (x : SatPort) (t : Nat) (s : State) : Host.Outcome State Fault Refusal :=
  done (satDo p.val (fun u =>
    let l := u.link (satB x)
    let u := u.putLink (satB x) { l with lastValid := s.now, loss := false }
    if s.portState p.val = pTset && u.a.queue.isEmpty && u.b.queue.isEmpty then
      { u with ofs := (t : Int) - s.now, corr := 0, slewAt := s.now } else u) s)

/-- HINT_REACT (R306, R311). -/
def execHintReact (p : Fin 32) (x : SatPort) (h : CellHdr) (react : Nat) (hold : Fin 16) (s : State) :
    Host.Outcome State Fault Refusal :=
  done (satDo p.val (fun u => u.sequenced (satB x) h s.now (fun u =>
    if satB x ≠ u.tokB then u
    else [0, 1, 2, 3].foldl (fun u i =>
      let a := react / 4 ^ i % 4
      u.putSlot i { u.slot i with react := if a = 3 then 0 else a, holdEn := hold.val / 2 ^ i % 2 == 1 }) u)) s)

/-- HINT_PERIOD (R306, R311). -/
def execHintPeriod (p : Fin 32) (x : SatPort) (h : CellHdr) (slot : Fin 4) (per : Nat) (s : State) :
    Host.Outcome State Fault Refusal :=
  done (satDo p.val (fun u => u.sequenced (satB x) h s.now (fun u =>
    if satB x ≠ u.tokB then u else u.putSlot slot.val { u.slot slot.val with period := some (per % 2 ^ 24) })) s)

/-- CFG_WR (R301, R311, R313). -/
def execCfgWr (p : Fin 32) (x : SatPort) (h : CellHdr) (a : Nat) (d : BitVec 32) (s : State) :
    Host.Outcome State Fault Refusal :=
  done (satDo p.val (fun u => u.sequenced (satB x) h s.now (fun u => u.cfgWrite (satB x) (a % 65536) d s.now)) s)

/-- CFG_RD (R313). -/
def execCfgRd (p : Fin 32) (x : SatPort) (h : CellHdr) (a : Nat) (s : State) : Host.Outcome State Fault Refusal :=
  done (satDo p.val (fun u => u.sequenced (satB x) h s.now (fun u =>
    u.send (satB x) (.cfgRsp (a % 65536) (u.cfgRead (satB x) (a % 65536))))) s)

/-- CLAIM (R310, R311). -/
def execClaim (p : Fin 32) (x : SatPort) (h : CellHdr) (s : State) : Host.Outcome State Fault Refusal :=
  done (satDo p.val (fun u => u.sequenced (satB x) h s.now (fun u => u.token (satB x) 1 s.now)) s)

/-- GIVE (R310, R311). -/
def execGive (p : Fin 32) (x : SatPort) (h : CellHdr) (s : State) : Host.Outcome State Fault Refusal :=
  done (satDo p.val (fun u => u.sequenced (satB x) h s.now (fun u => u.token (satB x) 2 s.now)) s)

/-- QUERY (R310). -/
def execQuery (p : Fin 32) (x : SatPort) (h : CellHdr) (s : State) : Host.Outcome State Fault Refusal :=
  done (satDo p.val (fun u => u.sequenced (satB x) h s.now (fun u => u.token (satB x) 3 s.now)) s)

/-- FILL (R273). -/
def execFillCell (p : Fin 32) (x : SatPort) (seq ack : Fin 16) (nak : Bool) (s : State) : Host.Outcome State Fault Refusal :=
  done (satDo p.val (fun u => u.fill (satB x) seq.val ack.val nak s.now) s)

/-- RESULT (R291 to R293). The cell's time, of which 37 bits count, is pair time on a paired chip. -/
def execResult (p : Fin 32) (h : CellHdr) (t : Nat) (slot : Fin 4) (ls on : Bool) (out : EdgeOut) (s : State) :
    Host.Outcome State Fault Refusal :=
  done (hubCell p.val h (takeResult p.val (4 * p.val + slot.val) { t := lowBits 37 ((t : Int) - s.delta), ls := ls, on := on } out) s)

/-- STATUS (R286, R287, R296, R304). -/
def takeStatus (p cred fid : Nat) (fidV peer : Bool) (qent : Nat) (ilk : Bool) (dlErr : Nat) (s : State) : State :=
  let x := s.port p
  let first := !x.credTaken
  let s := (s.put (fNDL_STAT_qent p) qent).putB (fNDL_STAT_peer p) peer
  let s := if first then
      (s.putPort p { x with credTaken := true, q0 := qent }).put (fNDL_STAT_cred p) (32 - qent)
    else takeCredits p cred (s.put (fNDL_STAT_cred p) (s.get (fNDL_STAT_cred p) + cred))
  let s := if !first && !s.creditsHold p qent then consFail p s else s
  let x := s.port p
  let s := if fidV then s.putPort p { x with force := x.force.filter (fun f => f.id ≠ fid) } else s
  let d := (dlErr + 256 - (s.port p).dlLast) % 256
  let s := (s.addSat (fNDL_CRC_ERR_dl p) d).putPort p { s.port p with dlLast := dlErr % 256 }
  let s := if ilk then (s.incrSat (fNDL_SAT_ILK_cnt p)).sageEvt 18 (nPort p) else s
  closeAccount p s

/-- STATUS. -/
def execStatus (p : Fin 32) (h : CellHdr) (cred fid : Nat) (fidV peer : Bool) (qent : Nat) (ilk : Bool) (dlErr : Nat)
    (s : State) : Host.Outcome State Fault Refusal :=
  done (hubCell p.val h (takeStatus p.val (cred % 64) (fid % 16) fidV peer (qent % 64) ilk dlErr) s)

/-- TELEM (R302, R303). -/
def execTelem (p : Fin 32) (h : CellHdr) (slot : Fin 4) (flags vboot temp vdrv dsat : Nat) (s : State) :
    Host.Outcome State Fault Refusal :=
  -- the hub keeps neither the driver supply nor the desaturation count (R319)
  let _ := (vdrv, dsat)
  done (hubCell p.val h (takeTelem p.val slot.val (flags % 1024) vboot temp) s)

/-- The hub takes the data of a CFG_RSP (R277, R309). -/
def takeCfg (p a : Nat) (d : Word) (s : State) : State :=
  let s := match [0x00, 0x04, 0x08, 0x20].idxOf? a with
    | some i => s.putPort p { s.port p with capsGot := withBit (s.port p).capsGot i true }
    | none => s
  let x := s.port p
  if a = 0 then s.wr (aNDL_SAT_ID p) d
  else if a = 4 then
    ((s.wr (aNDL_SAT_CAPS p) d).put (fNDL_STAT_legs p) (d.fld 0 3)).put (fNDL_STAT_pump p) (d.fld 4 4)
  else if a = 8 then s.putPort p { x with asym := sext 16 (d.fld 0 16) }
  else if a = 0x14 then s.put (fNDL_STAT_side p) (d.fld 0 1)
  else if a = 0x18 then closeAccount p (s.putPort p { x with lexec := some d.toNat })
  else if a = 0x1C then closeAccount p (s.putPort p { x with ldisc := some d.toNat })
  else if a = 0x20 then
    if x.acct then (if s.portUp p then closeAccount p (s.putPort p { x with bootsNew := some d }) else s)
    else s.putPort p { x with boots := d }
  else s

/-- CFG_RSP. -/
def execCfgRsp (p : Fin 32) (h : CellHdr) (a : Nat) (d : BitVec 32) (s : State) : Host.Outcome State Fault Refusal :=
  done (hubCell p.val h (takeCfg p.val (a % 65536) d) s)

/-- SAMPLE (R298): the contents go to Basil, which takes them with BASIL_INPUT. -/
def execSampleCell (p : Fin 32) (h : CellHdr) (slot : Fin 4) (i v vdc : Int) (s : State) : Host.Outcome State Fault Refusal :=
  done (hubCell p.val h (fun s =>
    let (t, s) := sampleMatch p.val slot.val false s
    -- an instant that a set carries is attributed by itself (06_thyme_and_pwm.md R225)
    let own := s.liveCtx.any (fun k => s.cKid k == 4 && (s.cLegs k).contains (4 * p.val + slot.val))
    s.each [(0, i), (1, v), (2, vdc)] (fun (q, x) s =>
      sendEng { src := 0, inst := p.val, sel := slot.val + 4 * q, raw := BitVec.ofInt 32 x, at_ := if own then t else none } s)) s)

/-- PROBE_PERIOD (R282). -/
def execProbePeriod (p : Fin 32) (s : State) : Host.Outcome State Fault Refusal :=
  done (if !s.portUp p.val then s
  else
    let s := match (s.port p.val).lastProbe with
      | some t => s.reach (t + us * s.get (fNDL_SYNC_per p.val))
      | none => s
    sendProbe p.val s)

/-- HINT_REFRESH (R306): at once after a change, otherwise 100 µs after the last one. -/
def execHintRefresh (p : Fin 32) (s : State) : Host.Outcome State Fault Refusal :=
  done (if !s.portUp p.val then s
  else
    let s := if s.get (fNDL_HINT_react p.val) ≠ s.hintBits p.val then s else s.reach ((s.port p.val).hintAt + 100 * us)
    sendHint p.val s)

/-- FORCE_RESEND (R296): the oldest unconfirmed FORCE, as two copies. -/
def execForceResend (p : Fin 32) (s : State) : Host.Outcome State Fault Refusal :=
  done (match (s.port p.val).force with
    | [] => s
    | f :: r =>
      let f := r.foldl (fun m g => if g.last < m.last then g else m) f
      let s := s.reach (f.last + us)
      let x := s.port p.val
      let c : Cell := .force f.id f.mask f.pat f.indef f.dly f.fin
      let s := s.putPort p.val { x with
        force := x.force.map (fun g => if g.id = f.id then { g with last := s.now } else g), lk := (x.lk.add c).add c }
      s.addTo (fNDL_RESEND_cnt p.val) 2)

/-- EDGE_EXECUTE (R288). -/
def execEdgeExecute (p : Fin 32) (x : SatPort) (s : State) : Host.Outcome State Fault Refusal :=
  done (match (s.sat p.val).nextEntry (satB x) with
    | none => s
    | some q =>
      let s := s.reach ((s.sat p.val).moment s.now q.e.t)
      satDo p.val (fun u => u.due1 (satB x) q s.now) s)

/-- SAMPLE_TAKE (R298): the oldest request of the port. -/
def execSampleTake (p : Fin 32) (x : SatPort) (i v vdc : List Int) (s : State) : Host.Outcome State Fault Refusal :=
  if i.length = 4 && v.length = 4 && vdc.length = 4 then
    done (match ((s.sat p.val).link (satB x)).smp with
      | [] => s
      | (t, m, q, c) :: r =>
        let s := s.reach ((s.sat p.val).moment s.now t)
        let f := s.free
        let s := satDo p.val (fun u =>
          (u.putLink (satB x) { u.link (satB x) with smp := r }).answer (satB x) m q c i v vdc (fun k => Config.freeNat (f + k))) s
        if c then s.setFree (f + 8) else s)
  else .fault .malformed

/-- FORCE_HOLD_END (R295): a timed hold or a release ends at its end. -/
def execForceHoldEnd (p : Fin 32) (slot : Fin 4) (s : State) : Host.Outcome State Fault Refusal :=
  done (match ((s.sat p.val).slot slot.val).hold with
    | some ⟨_, some e, _⟩ =>
      let s := s.reach ((s.sat p.val).moment s.now e)
      satDo p.val (fun u => u.putSlot slot.val { u.slot slot.val with hold := none }) s
    | _ => s)

/-- SUPPRESSED (R295): the oldest entry that passed inside a hold. -/
def execSuppressed (p : Fin 32) (x : SatPort) (s : State) : Host.Outcome State Fault Refusal :=
  done (match ((s.sat p.val).link (satB x)).queue.find? (·.passed) with
    | none => s
    | some q =>
      let s := s.reach ((s.sat p.val).moment s.now (q.e.t + us5))
      satDo p.val (fun u => u.suppress (satB x) q s.now) s)

/-- STATUS_PERIODIC (R286). -/
def execStatusPeriodic (p : Fin 32) (x : SatPort) (s : State) : Host.Outcome State Fault Refusal :=
  let s := s.reach (((s.sat p.val).link (satB x)).statusAt + 10 * us)
  done (satDo p.val (fun u => u.status (satB x)) s)

/-- TELEM_PERIODIC (R303). -/
def execTelemPeriodic (p : Fin 32) (x : SatPort) (slot : Fin 4) (s : State) : Host.Outcome State Fault Refusal :=
  let l := (s.sat p.val).link (satB x)
  let s := s.reach (l.telAt.getD slot.val 0 + us * l.tel)
  done (satDo p.val (fun u => u.send (satB x) (.telem slot.val (u.slot slot.val).flags false)) s)

/-- DESATURATION (R303). -/
def execDesaturation (p : Fin 32) (slot : Fin 4) (ls : Bool) (s : State) : Host.Outcome State Fault Refusal :=
  done (satDo p.val (fun u => u.driverFault slot.val ls false 7 s.now) s)

/-- UNDERVOLTAGE (R303): R300 does not state the profile of this turn-off, which is free (log entry 2). -/
def execUndervoltage (p : Fin 32) (slot : Fin 4) (ls : Bool) (s : State) : Host.Outcome State Fault Refusal :=
  let f := Config.freeNat s.free
  done ((satDo p.val (fun u => u.driverFault slot.val ls true f s.now) s).setFree (s.free + 1))

/-- SAT_PORT_LOSS (R305). -/
def execSatPortLoss (p : Fin 32) (x : SatPort) (s : State) : Host.Outcome State Fault Refusal :=
  let l := (s.sat p.val).link (satB x)
  let s := if l.loss then s else s.reach (l.lastValid + 1280 * l.tLoss)
  done (satDo p.val (fun u => u.portLost (satB x) s.now) s)

/-- PATTERN_HOLD_EXPIRY (R307, R308). -/
def execPatternHoldExpiry (p : Fin 32) (slot : Fin 4) (s : State) : Host.Outcome State Fault Refusal :=
  done (match ((s.sat p.val).slot slot.val).phLim with
    | some t =>
      let s := s.reach ((s.sat p.val).moment s.now t)
      satDo p.val (fun u => u.reactSlot s.now slot.val) s
    | none => s)

/-- SAT_POWER_UP (R273, R308, R313): local time after power-up is free (log entry 2). -/
def execSatPowerUp (p : Fin 32) (s : State) : Host.Outcome State Fault Refusal :=
  let x := s.sat p.val
  let s := s.putSat p.val {
    id := x.id, caps := x.caps, asymW := x.asymW, ser := x.ser, boots := x.boots + 1,
    ofs := (Config.freeNat s.free : Int) - s.now, slewAt := s.now,
    slots := [0, 1, 2, 3].map (fun i => { flags := if x.caps.fld (4 + i) 1 = 1 then 512 else 0 }) }
  done (s.setFree (s.free + 1))

/-- BANK_ACTIVATION (R301). -/
def execBankActivation (p : Fin 32) (x : SatPort) (s : State) : Host.Outcome State Fault Refusal :=
  done (match ((s.sat p.val).link (satB x)).bankAt with
    | some t =>
      let s := s.reach ((s.sat p.val).moment s.now t)
      satDo p.val (fun u =>
        let l := u.link (satB x)
        u.putLink (satB x) { l with profBank := l.profOther, profOther := l.profBank, bankAt := none }) s
    | none => s)

/-- NDL_TOKEN_CLAIM (R319). -/
def execNdlTokenClaim (r : Req) (p : Fin 32) (s : State) : Host.Outcome State Fault Refusal :=
  cmdAt r (aNDL_TOKEN p.val) (tokenOp p.val 1) s

/-- NDL_TOKEN_GIVE (R319). -/
def execNdlTokenGive (r : Req) (p : Fin 32) (s : State) : Host.Outcome State Fault Refusal :=
  cmdAt r (aNDL_TOKEN p.val) (tokenOp p.val 2) s

/-- NDL_TOKEN_QUERY (R319). -/
def execNdlTokenQuery (r : Req) (p : Fin 32) (s : State) : Host.Outcome State Fault Refusal :=
  cmdAt r (aNDL_TOKEN p.val) (tokenOp p.val 3) s

/-- INVALID_SLOT (R270). -/
def invalidAt (e : LinkEnd) (s : State) : State :=
  match e with
  | .hub p =>
    if s.portState p.val = pOff then s
    else (s.incrSat (fNDL_CRC_ERR_ul p.val)).putPort p.val { s.port p.val with fills := 0 }
  | .sat p y => satDo p.val (fun u =>
      let l := u.link (satB y)
      u.putLink (satB y) { l with dlErr := (l.dlErr + 1) % 256 }) s

/-- INVALID_SLOT (R270, R271): the characters received do not make a valid slot; those of a valid one are no such event. -/
def execInvalidSlot (e : RxSlot) (s : State) : Host.Outcome State Fault Refusal :=
  done (if slotValid e.cs then s else invalidAt e.e s)

/-- SLOT_REALIGN (R270): the slot in between is invalid, and alignment starts anew. -/
def execSlotRealign (e : LinkEnd) (s : State) : Host.Outcome State Fault Refusal :=
  let s := invalidAt e s
  done (match e with
    | .hub p => s.putPort p.val { s.port p.val with aligned := false }
    | .sat _ _ => s)

/-- TELEM_FLAG_CHANGE (R303): the bits the satellite's sensors give; an undervoltage flag can only end here. -/
def execTelemFlagChange (p : Fin 32) (slot : Fin 4) (flags : Nat) (s : State) : Host.Outcome State Fault Refusal :=
  done (satDo p.val (fun u =>
    let f := (u.slot slot.val).flags
    let b (i : Nat) : Bool := flags / 2 ^ i % 2 == 1
    let g := [9, 8, 3, 2].foldl (fun f i => withBit f i (b i)) f
    let g := [7, 6].foldl (fun g i => if b i then g else withBit g i false) g
    u.setFlags slot.val g) s)

/-- PATTERN_HOLD_REPEAT (R307 step 2): the earliest repeat, and its next one a period later. -/
def execPatternHoldRepeat (p : Fin 32) (slot : Fin 4) (s : State) : Host.Outcome State Fault Refusal :=
  done (match ((s.sat p.val).slot slot.val).reps with
    | [] => s
    | e :: r =>
      let e := r.foldl (fun m f => if f.t < m.t then f else m) e
      let s := s.reach ((s.sat p.val).moment s.now e.t)
      satDo p.val (fun u =>
        let v := u.slot slot.val
        let nx := e.t + 32 * v.period.getD 0
        let more := match v.phEnd with | some z => decide (nx < z) | none => v.period.isSome
        let hold := v.inHold e.t
        let u := u.putSlot slot.val { v with
          reps := v.reps.erase e ++ (if more then [{ e with t := nx }] else []),
          done := if hold then v.done else v.done.filter (fun d => e.t < d.t + 2 ^ 29) ++ [e] }
        if hold then u else u.act slot.val e e.t 0) s)

end Sys2Proof.Machine
end

