-- ==== Sys2Proof/Machine/Pair.lean ====
section
/-! DEFINITION. Lovage, the pair link (10_lovage_pairing.md R361 to R391): link states, JOIN, records, takeover, tokens. -/
namespace Sys2Proof.Machine

/-- PAIR's header page. -/
def hPair : Nat := 0x400C0000
/-- The link state (R364): 0 OFF, 1 TRAIN, 2 JOIN, 3 SYNCED, 4 LOST. -/
def State.pairLink (s : State) : Nat := s.get fPAIR_STATE_link

/-! Configuration checks. -/

/-- T_loss, T_hold and t_pl keep the rule of R382 on every paired port. -/
def State.tkoTiming (s : State) : Bool :=
  let t := s.get fPAIR_TIMING_t_pl
  s.pairedPorts.all (fun p =>
    let l := s.get (fNDL_TIMING_t_loss p)
    let h := s.get (fNDL_TIMING_t_hold p)
    decide (l + 20 ≤ 10 * t) && decide (10 * (t + 25) ≤ l + 10 * h))

/-- No enabled leg of a paired machine group is on an unpaired port (R361). -/
def State.portsOk (s : State) : Bool :=
  allLegs.all (fun n => !s.legEn n || s.bitAt aPAIR_PORTS (legPort n) || !s.pairedGroup (s.legMg n))

/-- Why a commit of PAIR that leaves the state `t` is refused: the bit of PAIR_ERR (R361, R371, R382). -/
def pairRefusal (s t : State) : Option Nat :=
  let chg (a : Nat) : Bool := s.use a != t.use a
  if chg aPAIR_PORTS && !t.portsOk then some 16
  else if (chg aPAIR_CFG || chg aPAIR_TBG_EN || [0, 1, 2, 3].any (fun i => chg (aPAIR_CTX_EN i))) && 500000000 < t.pairLoad
    then some 17
  else if chg aPAIR_TIMING && s.pairLink = 3 && !t.tkoTiming then some 3
  else none

/-! Link states (R364). -/

/-- The link enters TRAIN; with auto_join a mirror requests JOIN. -/
def pairTrain (s : State) : State :=
  let p := s.pair
  let s := s.setPair { p with
    join := .none, since := s.now, probe := none, good := 0, bad := 0, timeDone := false, seqRx := none,
    joinReq := s.on fPAIR_CFG_auto_join && s.role == 0 }
  ((s.put fPAIR_STATE_link 1).lower fPAIR_STAT_link_up).lower fPAIR_STAT_aligned

/-- Held tentative records are discarded (R372). -/
def dropTents (s : State) : State :=
  (s.addTo fPAIR_DISCARD_cnt s.pair.tent.length).setPair { s.pair with tent := [] }

/-- The link goes OFF: en = 0 or a reset (R364, R391). -/
def pairOff (s : State) : State :=
  let s := dropTents s
  let s := s.setPair { delta := s.pair.delta, seqTx := s.pair.seqTx, txq := s.pair.txq }
  let s := ((s.put fPAIR_STATE_link 0).lower fPAIR_STAT_link_up).lower fPAIR_STAT_aligned
  (s.lower fPAIR_STATE_tko).put fTHY_SLEW_slew 0

/-- What a commit of PAIR's configuration leaves to do; `o` is the state before (R361 to R364). -/
def pairConfig (o s : State) : State :=
  let en := s.on fPAIR_CFG_en
  let s := if en && s.pairLink = 0 then pairTrain s else if !en && s.pairLink ≠ 0 then pairOff s else s
  if o.role ≠ s.role || o.use aPAIR_PORTS ≠ s.use aPAIR_PORTS then roleScan (linkScan s) else s

/-- A reset of the PAIR island (R391): every register but PAIR_DELTA returns to its reset value (the caller clears the
registers); the tokens stay. -/
def pairReset (s : State) : State := (pairOff s).setPair { delta := s.pair.delta }

/-- The link enters SYNCED (R364, R389). -/
def pairSynced (s : State) : State :=
  let s := s.setPair { s.pair with join := .none, joinReq := false, tko := none, since := s.now }
  (s.put fPAIR_STATE_link 3).irq hPair 7

/-! JOIN (R377, R378). -/

/-- JOIN may start on this chip (R377, R382): the partner's conditions show in the steps. -/
def State.joinOk (s : State) : Bool :=
  s.tkoTiming && (s.role == 1 || (s.role == 0 &&
    allCtx.all (fun k => !s.mirCtx k || (s.ctx k).st == .admitted) &&
    s.mirGroups.all (fun g => s.get (fTBG_CFG_mode g) != 0 && !s.tbgRun g)))

/-- The values CHECK carries, in the order of R378, and whether each of them is fit (R378): crc_valid is 1, no PCRC is 0. -/
def State.checkVals (s : State) : List Word × Bool :=
  let hs := [0x40050000, 0x40020000, 0x40040000, 0x40060000, 0x400F0000]
  let ks := allCtx.filter s.mirCtx
  (hs.map (fun h => s.rd (h + 0x2C)) ++ [BitVec.ofNat 32 (s.get fENG_KS_STAT_ver), s.use aPAIR_PORTS]
    ++ [0, 1, 2, 3].map (fun i => s.use (aPAIR_CTX_EN i)) ++ [s.use aPAIR_TBG_EN, s.use aPAIR_TIMING]
    ++ ks.map (fun k => s.cw k 0x310),
   hs.all (fun h => s.on (hStat h 3)) && ks.all (fun k => s.cw k 0x310 != 0))

/-- JOIN begins (R364, R377): a mirror sends CHECK. -/
def joinStart (s : State) : State :=
  let s := s.setPair { s.pair with
    join := .check, joinReq := false, joinAt := s.now, timeDone := false, good := 0, bad := 0, copied := [], copiedG := [],
    bulkNext := 0, tko := none, sets := [], lastSet := [] }
  let s := (s.put fPAIR_STATE_link 2).lower fPAIR_STAT_aligned
  if s.role = 0 then pairTx (.check s.checkVals.1) s else s

/-- JOIN advances on the mirror as its steps complete (R377): TIME, PORTS, ALIGN, COPY. -/
def joinAdvance : Nat → State → State
  | 0, s => s
  | n + 1, s =>
    let p := s.pair
    if s.pairLink ≠ 2 || s.role ≠ 0 then s
    else match p.join with
      | .time => if p.timeDone && s.on fPAIR_STAT_aligned then joinAdvance n (s.setPair { p with join := .ports }) else s
      | .ports => if s.pairedPorts.all s.portUp then joinAdvance n (s.setPair { p with join := .align }) else s
      | .align =>
        let level (g : Nat) : Bool := s.on (fTBG_STAT_run g) && (match Tab.find p.lastSet g with
          | some x => x.per != 0 && (((s.tbg g).nextB : Int) + s.delta - x.t) % (32 * x.per : Nat) == 0
          | none => false)
        if s.mirGroups.all level then joinAdvance n (s.setPair { p with join := .copy, copied := [], copiedG := [] }) else s
      | .copy =>
        if (allCtx.filter s.mirCtx).all (fun k => p.copied.contains k) && s.mirGroups.all (fun g => p.copiedG.contains g) then
          pairSynced (pairTx (.ctrl 5) s)
        else s
      | _ => s

/-- A command of PAIR_CMD is accepted, with its effect, or refused (R390). -/
def pairJudged (ok : Bool) (f : State → State) (s : State) : State :=
  if ok then (f s).lower fPAIR_STATE_cmd_ref else s.raise fPAIR_STATE_cmd_ref

/-- GIVE or CLAIM on ports (R363, R380, R386). -/
def tokenAll (op : Nat) (ps : List Nat) (s : State) : State := s.each ps (fun p s => tokenOp p op s)

/-- The ports whose enabled legs are all in a safe state on this chip (R386). -/
def State.yieldPorts (s : State) : List Nat :=
  s.pairedPorts.filter (fun p => [0, 1, 2, 3].all (fun i => !s.legEn (4 * p + i) || s.mgState (s.legMg (4 * p + i)) != 0))

/-- A write of PAIR_CMD (R363, R377, R380, R386, R390). A code the table does not list is refused. -/
def pairCmd (code : Nat) (s : State) : State :=
  let st := s.pairLink
  let prime := s.role = 1
  match code with
  | 1 =>
    let now := st = 1 && s.on fPAIR_STAT_link_up
    pairJudged (s.joinOk && st ≠ 0 && st ≠ 2 && st ≠ 3) (fun s => if now then joinStart s else s.setPair { s.pair with joinReq := true }) s
  | 2 => pairJudged (prime && (st = 2 || st = 3)) pairQuit s
  | 3 => pairJudged (prime && st = 3) pairQuit s
  | 4 => pairJudged (s.role ≠ 3) (fun s => tokenAll 2 s.yieldPorts s) s
  | 5 => pairJudged (s.role ≠ 3) (fun s => tokenAll 1 s.pairedPorts s) s
  | _ => pairJudged false id s

/-- PAIR_JOIN (R377). -/
def execPairJoin (r : Req) (s : State) : Host.Outcome State Fault Refusal := cmdAt r aPAIR_CMD (pairCmd 1) s
/-- PAIR_LEAVE (R380). -/
def execPairLeave (r : Req) (s : State) : Host.Outcome State Fault Refusal := cmdAt r aPAIR_CMD (pairCmd 2) s
/-- HANDOVER (R386). -/
def execHandover (r : Req) (s : State) : Host.Outcome State Fault Refusal := cmdAt r aPAIR_CMD (pairCmd 3) s
/-- YIELD (R386). -/
def execYield (r : Req) (s : State) : Host.Outcome State Fault Refusal := cmdAt r aPAIR_CMD (pairCmd 4) s
/-- PAIR_CLAIM (R363). -/
def execPairClaim (r : Req) (s : State) : Host.Outcome State Fault Refusal := cmdAt r aPAIR_CMD (pairCmd 5) s

/-- PAIR_LANE_ALIGN (R362, R364), unless the pair link's SER_RCAL is open or shorted (17_balls_and_electrical.md R575). -/
def execPairLaneAlign (s : State) : Host.Outcome State Fault Refusal :=
  done (if s.pairLink ≠ 1 || s.hpm.rcalBad.contains 2 then s
  else
    let s := (s.raise fPAIR_STAT_link_up).setPair { s.pair with lastBlock := s.now, seqRx := none }
    if s.pair.joinReq && s.joinOk then joinStart s else s)

/-! Records (R365 to R367). -/

/-- A valid record arrives (R367, R390): counted, and the records its number skips; then its effect. -/
def pairRx (h : RecHdr) (k : State → State) (s : State) : State :=
  if !s.on fPAIR_STAT_link_up then s
  else
    let s := s.incr fPAIR_RX_CNT_cnt
    let skip := match s.pair.seqRx with | some n => (h.seq.val + 65536 - n) % 65536 | none => 0
    let s := if skip = 0 then s else (s.addSat fPAIR_REC_ERR_lost skip).errSet hPair 19
    k (s.setPair { s.pair with seqRx := some ((h.seq.val + 1) % 65536), lastBlock := s.now })

/-- PAIR_RECORD_DISCARD (R367). -/
def execPairRecordDiscard (s : State) : Host.Outcome State Fault Refusal :=
  done (if s.on fPAIR_STAT_link_up then (s.incrSat fPAIR_REC_ERR_bad).errSet hPair 19 else s)

/-- HEART_SEND (R366): the states of the 32 groups, every 1 µs. -/
def execHeartSend (s : State) : Host.Outcome State Fault Refusal :=
  done (if s.role ≠ 1 || !s.on fPAIR_STAT_link_up then s
  else
    let s := s.reach (s.pair.heartAt + us)
    pairTx (.heart (lowTicks (s.toPair s.now)) ((List.range 32).map s.mgState)) (s.setPair { s.pair with heartAt := s.now }))

/-- HEART (R366, R387): the last valid one decides a takeover. -/
def execHeart (h : RecHdr) (groups : List Nat) (s : State) : Host.Outcome State Fault Refusal :=
  if groups.length = 32 then
    done (pairRx h (fun s => if h.prime then s.setPair { s.pair with heart := groups.map (· % 8) } else s) s)
  else .fault .malformed

/-! Time (R374, R375). -/

/-- TIME_PROBE_SEND (R375): the mirror, in JOIN from step TIME on and in SYNCED. -/
def execTimeProbeSend (s : State) : Host.Outcome State Fault Refusal :=
  let p := s.pair
  done (if s.role = 0 && (s.pairLink = 3 || (s.pairLink = 2 && p.join ≠ .check)) then
    let s := if p.probeAt = 0 then s else s.reach (p.probeAt + us * s.get fPAIR_TIMING_per)
    pairTx .probe (s.setPair { s.pair with probe := some (s.toPair s.now), probeAt := s.now })
  else s)

/-- The prime copies the next mirrored context in JOIN (R377): one BULK with each answered probe (log entry 35). -/
def sendBulk (s : State) : State :=
  let ks := s.mirContexts
  match (ks.filter (s.pair.bulkNext ≤ ·) ++ ks).head? with
  | none => s
  | some k =>
    pairTx (.bulk k (BitVec.ofNat 32 (s.ctx k).sealNo) ((s.ctx k).st == .run) (s.memWords (cArea k + 0x380) 32)
      (s.memWords (cArea k + 0x780) 8)) (s.setPair { s.pair with bulkNext := k + 1 })

/-- TIME_PROBE (R375): the answer leaves within 400 ns; its turn is a free value (log entry 2). -/
def execTimeProbe (h : RecHdr) (s : State) : Host.Outcome State Fault Refusal :=
  done (pairRx h (fun s =>
    if s.role ≠ 1 then s
    else
      let s := pairTx (.resp (s.toPair s.now) (Config.freeNat s.free % 5121)) (s.setFree (s.free + 1))
      if s.pairLink = 2 && s.pair.join ≠ .check then sendBulk s else s) s)

/-- THY_SLEW after a probe (R375): it drives e to 0, within ±100 ppm; its size is a free value (log entry 2). -/
def pairSlew (e : Int) (s : State) : State :=
  let m : Int := if e = 0 then 0 else (Config.freeNat s.free % 10000 : Nat) + 1
  (s.setFree (s.free + 1)).put fTHY_SLEW_slew (lowBits 16 (if 0 < e then -m else m))

/-- The offset of a probe: alignment (R375). -/
def pairOffset (e : Int) (s : State) : State :=
  let p := s.pair
  let g := if e.natAbs ≤ ns1 then p.good + 1 else 0
  let b := if ns4 < e.natAbs then p.bad + 1 else 0
  let s := s.setPair { p with good := g, bad := b }
  let s := if 4 ≤ g then s.raise fPAIR_STAT_aligned else s
  if b < 3 || !s.on fPAIR_STAT_aligned then s
  else
    let s := s.lower fPAIR_STAT_aligned
    if s.pairLink = 3 then pairTrain (dropTents (s.irq hPair 8)) else s

/-- TIME_RESP (R375): the operands are the prime's and the mirror's pair time in full. -/
def takeResp (a2 turn t4 : Nat) (s : State) : State :=
  match s.pair.probe with
  | none => s
  | some t1 =>
    let rtt : Int := (t4 : Int) - t1 - turn
    let d := (rtt + sext 16 (s.get fPAIR_ASYM_asym)) / 2
    let e := (t1 : Int) + d - a2
    let s := (s.put fPAIR_OFS_rtt (clampI 0 65535 rtt).toNat).put fPAIR_OFS_e (satI 16 e)
    let s := s.setPair { s.pair with probe := none }
    if s.pairLink = 2 && !s.pair.timeDone then
      -- step TIME: PAIR_DELTA is corrected once
      s.setPair { s.pair with delta := s.pair.delta - e, timeDone := true }
    else joinAdvance 5 (pairSlew e (pairOffset e s))

/-- TIME_RESP. -/
def execTimeResp (h : RecHdr) (a2 : Nat) (turn : Fin 65536) (t4 : Nat) (s : State) : Host.Outcome State Fault Refusal :=
  done (pairRx h (fun s => if s.role = 0 then takeResp a2 turn.val t4 s else s) (s.reach (s.ofPair t4)))

/-! Mirroring (R368 to R373). -/

/-- A mirror takes records of contexts while SYNCED (R364). -/
def State.takesMirror (s : State) : Bool := s.role == 0 && s.pairLink == 3

/-- The held record of a context is discarded (R372). -/
def discardTent (k : Nat) (s : State) : State :=
  match Tab.find s.pair.tent k with
  | some _ => (s.incr fPAIR_DISCARD_cnt).setPair { s.pair with tent := Tab.del s.pair.tent k }
  | none => s

/-- MIRROR (R372): a newer record replaces the one held. -/
def execMirror (h : RecHdr) (k : Fin 128) (step : BitVec 32) (run : Bool) (img outs : List (BitVec 32)) (s : State) :
    Host.Outcome State Fault Refusal :=
  -- the RUN flag counts when the record seals (R372)
  let _ := run
  if img.length = 32 && outs.length = 8 then
    done (pairRx h (fun s =>
      if s.takesMirror && s.mirCtx k.val then
        let s := discardTent k.val s
        s.setPair { s.pair with tent := Tab.ins s.pair.tent k.val { step := step, img := img, outs := outs } }
      else s) s)
  else .fault .malformed

/-- A record's RUN flag is kept (R372). -/
def noteRun (k : Nat) (run : Bool) (s : State) : State :=
  s.setPair { s.pair with runs := s.pair.runs.filter (· ≠ k) ++ (if run then [k] else []) }

/-- A sealed record is applied to the context area (R372): the image, the outputs, the step, the RUN flag. -/
def applyRecord (k : Nat) (step : Word) (run : Bool) (img outs : List Word) (s : State) : State :=
  fabSend 13 5 0 (fun s =>
    let s := (s.memPutWords (cArea k + 0x380) img).memPutWords (cArea k + 0x780) outs
    let s := s.setPair { s.pair with applied := Tab.ins s.pair.applied k step }
    (noteRun k run s).incr fPAIR_APPLIED_cnt) s

/-- SEAL_RECORD (R368, R372): a matching one applies the held record; one of the step applied last states its RUN flag
(DEDUCED, log entry 35). -/
def execSealRecord (h : RecHdr) (k : Fin 128) (step : BitVec 32) (run : Bool) (s : State) :
    Host.Outcome State Fault Refusal :=
  done (pairRx h (fun s =>
    if !s.takesMirror then s
    else match Tab.find s.pair.tent k.val with
      | some x =>
        if x.step = step then
          applyRecord k.val step run x.img x.outs (s.setPair { s.pair with tent := Tab.del s.pair.tent k.val })
        else
          let s := discardTent k.val s
          if Tab.find s.pair.applied k.val = some step then noteRun k.val run s else s
      | none => if Tab.find s.pair.applied k.val = some step then noteRun k.val run s else s) s)

/-- CANCEL_RECORD (R372, R387). -/
def execCancelRecord (h : RecHdr) (k : Fin 128) (step : BitVec 32) (s : State) : Host.Outcome State Fault Refusal :=
  done (pairRx h (fun s =>
    if !s.takesMirror then s
    else match Tab.find s.pair.tent k.val with
      | some x => if x.step = step then discardTent k.val s else s
      | none => s) s)

/-- BULK (R377): applied once in step COPY. -/
def execBulk (h : RecHdr) (k : Fin 128) (step : BitVec 32) (run : Bool) (img outs : List (BitVec 32)) (s : State) :
    Host.Outcome State Fault Refusal :=
  if img.length = 32 && outs.length = 8 then
    done (pairRx h (fun s =>
      if s.role = 0 && s.pairLink = 2 && s.pair.join = .copy && s.mirCtx k.val && !s.pair.copied.contains k.val then
        let s := applyRecord k.val step run img outs s
        joinAdvance 5 (s.setPair { s.pair with copied := k.val :: s.pair.copied })
      else s) s)
  else .fault .malformed

/-! SET records (R366, R369, R370, R379). -/

/-- The prime sends the set a period-start boundary applied (R369, R370). The generation is that of the group. -/
def sendSet (g : Nat) (s : State) : State :=
  let st := s.pairLink
  if s.role ≠ 1 || !s.bitAt aPAIR_TBG_EN g || !(st = 3 || (st = 2 && s.pair.join ≠ .check))
    || s.get (fTBG_PCNT_cnt g) % s.setEvery g ≠ 0 then s
  else
    let ps := s.partsOf g
    let leg (n : Nat) : LegSet :=
      let ind := s.legMode n = 4
      { leg := Fin.ofNat 128 n, on := s.use (aLEG_CMP_ON n), off := s.use (aLEG_CMP_OFF n),
        lon := if ind then s.use (aLEG_LCMP_ON n) else 0, loff := if ind then s.use (aLEG_LCMP_OFF n) else 0 }
    s.each (ps.zipIdx) (fun (l, i) s =>
      pairTx (.set g (s.get (fTBG_GEN_applied g)) (lowTicks (s.toPair (s.tbg g).b)) (s.get (fTBG_PERIOD_t g)) i ps.length
        (l.map leg)) s)

/-- The group's timebase on the mirror is at a boundary of the prime with a period (R377 ALIGN, R379): its windows follow
from there. -/
def rebase (g b per : Nat) (run : Bool) (s : State) : State :=
  let s := (poke (aTBG_PERIOD g) 0xFFFFFF (BitVec.ofNat 32 per) s)
  let t := s.tbg g
  let p := 32 * per
  -- the first boundary whose hand-off point is still ahead
  let ahead := b + (s.now + 32 * s.hofs g - b) / p * p + p
  let nb := if run then ahead else b
  let s := s.putTbg g { t with
    b := if run then nb - p else nb, nextB := nb, mid := false, hB := nb, hMid := false, hBase := nb,
    handAt := some (nb - 32 * s.hofs g), taken := [], smp := [], stopPend := false }
  refreshLoads (showNext g (if run then s else s.raise (fTBG_STAT_start_pend g)))

/-- A whole set is taken (R370, R379): compare values, the period, the set that repeats. -/
def takeSet (g : Nat) (x : SetParts) (s : State) : State :=
  let per := x.per
  let s := s.setPair { s.pair with lastSet := Tab.ins s.pair.lastSet g x, sets := Tab.del s.pair.sets g }
  let s := s.each x.legs (fun e s =>
    let n := e.leg.val
    let s := poke (aLEG_CMP_OFF n) 0x1FFFFFFF e.off (poke (aLEG_CMP_ON n) 0x1FFFFFFF e.on s)
    if s.legMode n = 4 then poke (aLEG_LCMP_OFF n) 0x1FFFFFFF e.loff (poke (aLEG_LCMP_ON n) 0x1FFFFFFF e.lon s) else s)
  let s : State := match s.kernCtx g with
    | some k =>
      let t := s.tbg g
      let cmps : List LegCmp := x.legs.map (fun e => { leg := e.leg.val, on := Word.fld e.on 0 29, off := Word.fld e.off 0 29 })
      s.putTbg g { t with last := some { ctx := k, step := (s.rd (aTBG_SET_STEP g)).toNat, target := t.hB, cmps := cmps } }
    | none => s
  if s.pairLink = 2 then
    if s.pair.join = .align && !s.tbgRun g && per ≠ 0 then
      -- a boundary of the prime's group at least 100 µs ahead
      let p := 32 * per
      let lim := s.toPair s.now + 100 * us
      let n := if lim ≤ x.t then 0 else (lim - x.t + p - 1) / p
      rebase g (s.ofPair (x.t + n * p)) per false s
    else if s.pair.join = .copy then s.setPair { s.pair with copiedG := g :: s.pair.copiedG }
    else s
  else if per ≠ s.get (fTBG_PERIOD_t g) && per ≠ 0 && s.tbgRun g then rebase g (s.ofPair x.t) per true s
  else s

/-- A part of a SET (R370): parts of one boundary carry the same time and generation. -/
def takePart (g gen : Nat) (t : Word) (per part parts : Nat) (legs : List LegSet) (s : State) : State :=
  let now := s.toPair s.now
  let full := ((now / 32 : Nat) + sext 32 (lowBits 32 ((t.toNat : Int) - (now / 32 : Nat)))) * 32
  let x := match Tab.find s.pair.sets g with
    | some x => if x.t = full.toNat && x.gen = gen && x.parts = parts then x
      else { t := full.toNat, per := per, gen := gen, parts := parts }
    | none => { t := full.toNat, per := per, gen := gen, parts := parts }
  let x := if x.got.contains part then x else { x with got := part :: x.got, legs := x.legs ++ legs }
  if x.got.length = parts then takeSet g x s else s.setPair { s.pair with sets := Tab.ins s.pair.sets g x }

/-- SET (R370, R379). -/
def execSetRec (h : RecHdr) (g : Fin 32) (gen : Fin 256) (t per : BitVec 32) (part parts : Nat) (legs : List LegSet)
    (s : State) : Host.Outcome State Fault Refusal :=
  if part < parts && parts ≤ 16 && legs.length ≤ 29 then
    done (pairRx h (fun s =>
      if s.role = 0 && s.bitAt aPAIR_TBG_EN g.val && (s.pairLink = 3 || s.pairLink = 2) then
        joinAdvance 5 (takePart g.val gen.val t (Word.fld per 0 24) part parts legs s)
      else s) s)
  else .fault .malformed

/-! CTRL records (R377, R378). -/

/-- The link returns to TRAIN from JOIN after a refusal (R377). -/
def joinRefused (s : State) : State := pairTrain (s.errSet hPair 16)

/-- CTRL_CHECK (R378). -/
def execCtrlCheck (h : RecHdr) (v : List (BitVec 32)) (s : State) : Host.Outcome State Fault Refusal :=
  done (pairRx h (fun s =>
    if s.role ≠ 1 || !(s.pairLink = 1 || s.pairLink = 2) then s
    else
      let (w, fit) := s.checkVals
      if fit && v = w && s.joinOk then
        let s := joinStart s
        pairTx (.ctrl 2) (s.setPair { s.pair with join := .time })
      else joinRefused (pairTx (.ctrl 3) s)) s)

/-- CHECK_OK (R377). -/
def execCheckOk (h : RecHdr) (s : State) : Host.Outcome State Fault Refusal :=
  done (pairRx h (fun s =>
    if s.role = 0 && s.pairLink = 2 && s.pair.join = .check then s.setPair { s.pair with join := .time } else s) s)

/-- CHECK_FAIL (R377). -/
def execCheckFail (h : RecHdr) (s : State) : Host.Outcome State Fault Refusal :=
  done (pairRx h (fun s => if s.pairLink = 2 then joinRefused s else s) s)

/-- SYNCED (R377): the partner has completed JOIN. -/
def execSynced (h : RecHdr) (s : State) : Host.Outcome State Fault Refusal :=
  done (pairRx h (fun s => if s.pairLink = 2 && s.pair.join ≠ .check then pairSynced s else s) s)

/-! Loss and takeover (R380, R381). -/

/-- The link enters LOST (R364). -/
def pairLost (s : State) : State :=
  let s := s.setPair { s.pair with join := .none, probe := none, since := s.now, seqRx := none }
  ((s.put fPAIR_STATE_link 4).lower fPAIR_STAT_link_up).lower fPAIR_STAT_aligned

/-- Pair loss is detected (R380, R381 steps 1 and 2). -/
def pairLoss (quit : Bool) (s : State) : State :=
  let sync := s.pairLink = 3
  let mir := s.role = 0
  let slew := sext 16 (s.get fTHY_SLEW_slew)
  let s := dropTents (s.irq hPair 4)
  let s := if mir then s.put fTHY_SLEW_slew 0 else s
  let s := pairLost s
  if !mir then s
  else if !sync then s.errSet hPair 18
  else if !s.on fPAIR_CFG_tko_en then s
  else
    -- the window opens; the link shows LOST when it closes
    let s := (s.raise fPAIR_STATE_tko).put fPAIR_STATE_link 3
    let s := s.setPair { s.pair with tko := some { start := s.now, quit := quit, lastClaim := s.now, slew := slew } }
    if quit then s else tokenAll 1 s.pairedPorts s

/-- TOKEN_RSP (R310, R381 step 2): result and holder; a port that answers DENIED is asked again. -/
def takeTokenRsp (p res : Nat) (holder : Bool) (s : State) : State :=
  let s := ((s.put (fNDL_TOK_STAT_result p) res).putB (fNDL_TOK_STAT_holder p) holder).lower (fNDL_TOK_STAT_busy p)
  let mine := s.on (fNDL_STAT_side p) == holder
  match s.pair.tko with
  | some x => if res = 2 && !mine then s.setPair { s.pair with tko := some { x with denied := withBit x.denied p true } } else s
  | none => s

/-- TOKEN_RSP. -/
def execTokenRsp (p : Fin 32) (h : CellHdr) (res : Fin 4) (holder : Bool) (s : State) : Host.Outcome State Fault Refusal :=
  done (hubCell p.val h (takeTokenRsp p.val res.val holder) s)

/-- UPLINK_FILL (08_ndotar_drive_link.md R272, R273, R277, R312): in TRAIN the consecutive ones with ack = 0 and nak = 0 count that come
at least 1 µs after the hub's first FILL. -/
def execUplinkFill (p : Fin 32) (ack : Fin 16) (nak tok react : Bool) (s : State) : Host.Outcome State Fault Refusal :=
  let p := p.val
  let st := s.portState p
  if st = pOff || st = pLoss then done s
  else
    let s := hubHears p ack.val nak (hubBits p tok react s)
    let x := s.port p
    let good := ack.val = 0 && !nak && (match x.fillAt with | some t => decide (t + us ≤ s.now) | none => false)
    done (s.when (st = pTrain) (fun s => s.putPort p { x with fills := if good then min 16 (x.fills + 1) else 0 }))

/-- PAIR_LOSS (R380): no valid block for t_pl. -/
def execPairLoss (s : State) : Host.Outcome State Fault Refusal :=
  done (if !s.on fPAIR_STAT_link_up then s
  else
    let s := s.reach (s.pair.lastBlock + us * s.get fPAIR_TIMING_t_pl)
    if s.pairLink = 2 || s.pairLink = 3 then pairLoss false s else s.lower fPAIR_STAT_link_up)

/-- QUIT (R380, R387). -/
def execQuit (h : RecHdr) (s : State) : Host.Outcome State Fault Refusal :=
  done (pairRx h (fun s => if s.pairLink = 2 || s.pairLink = 3 then pairLoss true s else s) s)

/-- CLAIM_REPEAT (R381 step 2): after a loss on each port that answered DENIED, after a QUIT on each port without tok = 1. -/
def execClaimRepeat (s : State) : Host.Outcome State Fault Refusal :=
  done (match s.pair.tko with
    | none => s
    | some x =>
      if !s.on fPAIR_STATE_tko then s
      else
        let s := s.reach (x.lastClaim + 2 * us)
        let ps := s.pairedPorts.filter (fun p => !s.tokHere p && (x.quit || x.denied / 2 ^ p % 2 == 1))
        tokenAll 1 ps (s.setPair { s.pair with tko := some { x with lastClaim := s.now, denied := 0 } }))

/-- TAKEOVER_WINDOW_END (R381 steps 6 and 7, R384). -/
def execTakeoverWindowEnd (s : State) : Host.Outcome State Fault Refusal :=
  done (match s.pair.tko with
    | none => s
    | some x =>
      if !s.on fPAIR_STATE_tko then s
      else
        let s := s.reach (x.start + 25 * us)
        let s := pairLost (linkScan (s.lower fPAIR_STATE_tko))
        let s := if x.granted = 0 then (s.incrSat fPAIR_TKO_CNT_fail).errSet hPair 18 else s.incrSat fPAIR_TKO_CNT_ok
        let s := (s.wr aPAIR_TKO_TIME (BitVec.ofNat 32 (lowTicks x.start))).wr aPAIR_TKO_GRANT (BitVec.ofNat 32 x.granted)
        (s.irq hPair 5).record 0x70 .pair (natBytes 4 x.granted ++ natBytes 4 x.taken))

/-- PAIR_RETRAIN (R364): 100 µs after LOST. -/
def execPairRetrain (s : State) : Host.Outcome State Fault Refusal :=
  done (if s.pairLink = 4 then pairTrain (s.reach (s.pair.since + 100 * us)) else s)

/-- JOIN_TIMEOUT (R364): 20 ms. -/
def execJoinTimeout (s : State) : Host.Outcome State Fault Refusal :=
  done (if s.pairLink = 2 then pairTrain ((s.reach (s.pair.joinAt + 20 * ms)).errSet hPair 20) else s)

/-- SYNC_RSP (08_ndotar_drive_link.md R282; R376, R377): an answer to the probe that waits; a port that reaches UP may complete step PORTS. -/
def execSyncRsp (p : Fin 32) (h : CellHdr) (id a2 turn t4 : Nat) (s : State) : Host.Outcome State Fault Refusal :=
  let s := hubHears p.val h.ack.val h.nak (hubBits p.val h.tok h.react (s.reach (s.ofPair t4)))
  done (match (s.port p.val).probe with
    | some (i, t1) =>
      if i = id % 16 && (s.portState p.val = pTset || s.portUp p.val) then
        joinAdvance 5 (takeSync p.val a2 (turn % 4096) t1 (s.ofPair t4) s)
      else s
    | none => s)

end Sys2Proof.Machine
end

