-- ==== Sys2Proof/Machine/Monitor.lean ====
section
/-! DEFINITION. What Sage computes (09_sage_and_safe_states.md R340 to R348): the torque monitor and the discharge
supervisor, in binary32. -/
namespace Sys2Proof.Machine

/-- A torque-monitor channel and a supervised discharge. -/
def State.tm (s : State) (m : Nat) : TMon := Tab.get {} s.tms m
def State.putTm (s : State) (m : Nat) (x : TMon) : State := s.setTms (Tab.set {} s.tms m x)
def State.dis (s : State) (m : Nat) : Dis := Tab.get {} s.diss m

/-- A TORQUE or CHECK_SEQ event (R333, R355). -/
def tmEvent (e : Nat) (x : SageName) (s : State) : State := (s.raise fSAGE_IRQ_RAW_tm).sageEvt e x

/-- A value of a channel's configuration. -/
def State.tmw (s : State) (a : Nat) : Word := s.use a

/-- The member legs the channel evaluates (R341). -/
def State.tmLegs (s : State) (m : Nat) : List Nat :=
  let f := s.get (fSAGE_TM_CFG_first m)
  ((List.range (3 * (s.get (fSAGE_TM_CFG_sets m) + 1))).map (fun i => (f + i) % 128)).filter (fun n =>
    s.legEn n && s.legMg n == m)

/-- A commit of a channel's configuration (R340, R343); `was` says that it was enabled before: every timer is 0, in IM mode the flux
too, and a channel that is enabled anew knows no item. -/
def tmRestart (m : Nat) (was : Bool) (s : State) : State :=
  let x := s.tm m
  let s := if was then
      s.putTm m { x with tReq := 0, tRep := 0, tAbs := 0, tSum := 0, psi := if s.get (fSAGE_TM_CFG_mode m) = 2 then 0 else x.psi }
    else s.putTm m {}
  let s := (s.put (fSAGE_TM_TMR_req m) 0).put (fSAGE_TM_TMR_rep m) 0
  s.putB (fSAGE_TM_STAT_red m) (s.on (fSAGE_TM_CFG_en m) && !s.on (fSAGE_TM_CFG_ang m))

/-- A CHECK item reaches the torque monitor of its leg's group; its count is checked (R343). A mirror's paired groups get none
(10_lovage_pairing.md R373). -/
def tmItem (n t : Nat) (i : Int) (vdc cnt : Nat) (s : State) : State :=
  let m := s.legMg n
  if s.mirrorGroup m || !s.legEn n || !s.on (fSAGE_TM_CFG_en m) || !(s.tmLegs m).contains n then s
  else
    let x := s.tm m
    let bad := match Tab.find x.cnts n with | some c => decide ((c + 1) % 256 ≠ cnt % 256) | none => false
    let s := s.putTm m { x with
      items := x.items ++ [{ leg := n, t := t, i := i, vdc := vdc, cnt := cnt }], cnts := Tab.ins x.cnts n (cnt % 256) }
    if bad then tmEvent 15 (nLeg n) s else s

/-- Position and speed of an FBI channel and the instant of its capture; none where the FBI answers ABSENT (R341, R343). -/
def State.fbiRead (s : State) (c : Nat) : Option (Int × Word × Nat) :=
  if !s.isRun 10 then none
  else
    let r (a b d : Nat) : Option (Int × Word × Nat) := some (sext 32 (s.rd a).toNat, s.rd b, (s.rd d).toNat)
    if c < 16 then r (aFB_CAP_POS c) (aFB_CAP_SPD c) (aFB_CAP_TIME c)
    else if c < 24 then r (aFB_RES_CAP_POS (c - 16)) (aFB_RES_CAP_SPD (c - 16)) (aFB_RES_CAP_TIME (c - 16))
    else none

/-- Fine ticks from a capture's low tick bits to an instant. -/
def sinceTicks (t lo : Nat) : Int := sext 32 (lowBits 32 ((t / 32 : Nat) - (lo : Int))) * 32

/-- The electrical angle, the mechanical speed, whether the angle is stale (R340, R341, R343). -/
def State.tmAngle (s : State) (m t : Nat) : Word × Word × Bool :=
  let pp := F32.ofInt (s.get (fSAGE_TM_CFG_pp m))
  if s.on (fSAGE_TM_CFG_ang m) then
    match s.fbiRead (s.get (fSAGE_TM_CFG_fb m)) with
    | none => (0, 0, true)
    | some (pos, spd, at_) =>
      let dt := sinceTicks t at_
      let per := s.periodF (s.legTbg (s.get (fSAGE_TM_CFG_first m)))
      let p := F32.add (F32.ofInt pos) (F32.mul spd (F32.secs dt))
      let sc := s.tmw (aSAGE_TM_PSCL m)
      (F32.add (F32.mul (F32.mul pp sc) p) (s.tmw (aSAGE_TM_AOFS m)), F32.mul spd sc, decide ((per : Int) < dt))
  else
    let k := s.get (fSAGE_TM_CFG_ctx m)
    let w := s.cw k 0x784
    let dt : Int := (t : Int) - (s.ctx k).sealT
    (F32.add (s.cw k 0x788) (F32.mul (F32.mul pp w) (F32.secs dt)), w, false)

/-- The d and q currents of a set at an angle (R117, R341 step 3). -/
def parkAt (ia ib ic th : Word) : Word × Word :=
  let al := F32.div (F32.sub (F32.sub (F32.mul F32.two ia) ib) ic) F32.three
  let be := F32.div (F32.sub ib ic) F32.sqrt3
  let c := Config.cos32 th
  let sn := Config.sin32 th
  (F32.add (F32.mul al c) (F32.mul be sn), F32.sub (F32.mul be c) (F32.mul al sn))

/-- A leaky timer (R342): its new value, and whether it reached its limit (0.1 ms units). -/
def leak (on viol : Bool) (lim dt t : Nat) : Nat × Bool :=
  if lim = 0 || !on then (t, false)
  else
    let u := if viol then t + dt else t - dt
    if viol && lim * (ms / 10) ≤ u then (0, true) else (u, false)

/-- What an evaluation computes: T_mon or the largest current, whether a set's sum violates, the IM rotor flux and angle. -/
structure TmVal where
  tmon : Word
  sum : Bool
  psi : Word
  ang : Word

/-- The evaluation of the currents of an instant (R341 steps 1 to 5). -/
def State.tmCompute (s : State) (m : Nat) (cur : Nat → Word) (th wm : Word) (dt : Nat) : TmVal :=
  let x := s.tm m
  let mode := s.get (fSAGE_TM_CFG_mode m)
  let f := s.get (fSAGE_TM_CFG_first m)
  let sets := List.range (s.get (fSAGE_TM_CFG_sets m) + 1)
  let i (j k : Nat) : Word := cur ((f + 3 * j + k) % 128)
  let pp := F32.ofInt (s.get (fSAGE_TM_CFG_pp m))
  let k15 := F32.mul (F32.dec 3 2) pp
  let phi (j : Nat) : Word := if j = 0 then 0 else s.tmw (aSAGE_TM_PHI m (j - 1))
  let psi := s.tmw (aSAGE_TM_PSI m)
  let ld := s.tmw (aSAGE_TM_LD m)
  let lq := s.tmw (aSAGE_TM_LQ m)
  let bad := sets.any (fun j => F32.lt (s.tmw (aSAGE_TM_SUMTOL m)) (F32.abs (F32.add (F32.add (i j 0) (i j 1)) (i j 2))))
  if mode = 1 then
    let t := sets.foldl (fun a j =>
      let (d, q) := parkAt (i j 0) (i j 1) (i j 2) (F32.add th (phi j))
      F32.add a (F32.add (F32.mul psi q) (F32.mul (F32.mul (F32.sub ld lq) d) q))) 0
    ⟨F32.mul k15 t, bad, x.psi, x.ang⟩
  else if mode = 2 then
    let (d, q) := parkAt (i 0 0) (i 0 1) (i 0 2) x.ang
    let h := F32.secs dt
    let fl := F32.add x.psi (F32.mul (F32.div h lq) (F32.sub (F32.mul psi d) x.psi))
    let slip := if F32.lt fl (F32.mul (F32.dec 1 100) psi) then 0 else F32.div (F32.mul psi q) (F32.mul lq fl)
    let a := F32.add x.ang (F32.mul (F32.add (F32.mul pp wm) slip) h)
    ⟨F32.mul (F32.mul (F32.mul k15 (F32.div psi ld)) fl) q, bad, fl, a⟩
  else
    ⟨(s.tmLegs m).foldl (fun a n => F32.max a (F32.abs (cur n))) 0, false, x.psi, x.ang⟩

/-- One evaluation for an instant whose items are complete (R341 to R343). -/
def tmEvaluate (m t : Nat) (its : List ChkItem) (s : State) : State :=
  let x := s.tm m
  let k := s.get (fSAGE_TM_CFG_ctx m)
  let mode := s.get (fSAGE_TM_CFG_mode m)
  let dt := match x.lastAt with | some a => t - a | none => 0
  let s := ((s.incr (fSAGE_TM_EVAL_cnt m)).putB (fSAGE_TM_STAT_red m) (!s.on (fSAGE_TM_CFG_ang m)))
  let (th, wm, stale) := if mode = 3 then (0, 0, false) else s.tmAngle m t
  let s := s.putB (fSAGE_TM_STAT_ang_stale m) stale
  if stale then
    let s := s.putTm m { x with lastAt := some t, staleRun := if 3 ≤ x.staleRun then 0 else x.staleRun + 1 }
    if 3 ≤ x.staleRun then tmEvent 14 (nOther m) (s.put (fSAGE_TM_STAT_cause m) 16) else s
  else
    let cur (n : Nat) : Word :=
      match its.find? (fun y => y.leg == n) with
      | some y => F32.mul (F32.ofInt y.i) (s.tmw (aSAGE_TM_ISCL m))
      | none => 0
    let v := s.tmCompute m cur th wm dt
    let treq := s.cw k 0x3CC
    let trep := s.cw k 0x780
    let ph := s.get (cf k fCTX_W_STAT_phase)
    let rr := (s.ctx k).st == .run && (ph == 0 || ph == 4 || ph == 5) && s.mgState m == 0 && mode ≠ 3
    let tol := F32.add (s.tmw (aSAGE_TM_TOLA m)) (F32.mul (s.tmw (aSAGE_TM_TOLR m)) (F32.abs treq))
    let ereq := F32.sub v.tmon treq
    let vq := rr && F32.lt tol (F32.abs ereq)
    let vp := rr && F32.lt tol (F32.abs (F32.sub v.tmon trep))
    let va := F32.lt (s.tmw (aSAGE_TM_TABS m)) (F32.abs v.tmon)
    let vs := v.sum && mode ≠ 3
    let (tq, eq) := leak rr vq (s.get (fSAGE_TM_TIM_t_req m)) dt x.tReq
    let (tp, ep) := leak rr vp (s.get (fSAGE_TM_TIM_t_rep m)) dt x.tRep
    let (ta, ea) := leak true va (s.get (fSAGE_TM_TIM_t_abs m)) dt x.tAbs
    let (ts, es) := leak (mode ≠ 3) vs (s.get (fSAGE_TM_TIM_t_sum m)) dt x.tSum
    let s := s.putTm m { x with
      lastAt := some t, staleRun := 0, tReq := tq, tRep := tp, tAbs := ta, tSum := ts, psi := v.psi, ang := v.ang }
    let b (c : Bool) (i : Nat) : Nat := if c then 2 ^ i else 0
    let s := (s.putB (fSAGE_TM_STAT_susp m) (!rr)).put (fSAGE_TM_STAT_viol m) (b vq 0 + b vp 1 + b va 2 + b vs 3)
    let s := (s.wr (aSAGE_TM_TMON m) v.tmon).wr (aSAGE_TM_EREQ m) ereq
    let s := (s.put (fSAGE_TM_TMR_req m) (min 65535 (tq / (10 * us)))).put (fSAGE_TM_TMR_rep m) (min 65535 (tp / (10 * us)))
    if eq || ep || ea || es then
      tmEvent 14 (nOther m) (s.put (fSAGE_TM_STAT_cause m) (b eq 0 + b ep 1 + b ea 2 + b es 3))
    else s

/-- Skipped instants are counted; more than 3 in a row raise CHECK_SEQ naming the first missing leg (R343). -/
def tmSkip (m cnt : Nat) (missing : Nat) (s : State) : State :=
  let x := s.tm m
  let r := x.skipRun + cnt
  let s := s.putTm m { x with skipRun := if 3 < r then 0 else r }
  if 3 < r then tmEvent 15 (nLeg missing) s else s

/-- TORQUE_EVALUATION of a channel: the oldest instant whose items are complete; older ones are skipped, and without a
complete one every instant but the newest is (R341, R343). -/
def torqueEval (m : Nat) (s : State) : State :=
  let x := s.tm m
  let legs := s.tmLegs m
  if !s.on (fSAGE_TM_CFG_en m) || s.get (fSAGE_TM_CFG_mode m) = 0 || legs.isEmpty then s
  else
    let ts := (x.items.map (·.t)).eraseDups
    let has (t n : Nat) : Bool := x.items.any (fun y => y.t == t && y.leg == n)
    let full (t : Nat) : Bool := legs.all (has t)
    let miss (t : Nat) : Nat := (legs.find? (fun n => !has t n)).getD 0
    match ts.find? full with
    | some t =>
      let old := ts.takeWhile (· ≠ t)
      let its := x.items.filter (·.t == t)
      let s := s.putTm m { x with items := x.items.filter (fun y => y.t ≠ t && !old.contains y.t) }
      let s := match old.head? with | some u => tmSkip m old.length (miss u) s | none => s
      let s := s.putTm m { s.tm m with skipRun := 0 }
      tmEvaluate m t its s
    | none =>
      let old := ts.dropLast
      let s := s.putTm m { x with items := x.items.filter (fun y => !old.contains y.t) }
      match old.head? with
      | some u => tmSkip m old.length (miss u) s
      | none => s

/-! The discharge supervisor (R346 to R348). -/

/-- A CHECK item gives a supervised discharge its voltage (R348). -/
def disValue (p slot vdc : Nat) (s : State) : State :=
  s.each (s.diss.map (·.1)) (fun m s =>
    if s.get (fSAGE_DIS_SRC_port m) ≠ p || s.get (fSAGE_DIS_SRC_slot m) ≠ slot then s
    else
      let d := s.dis m
      let w := F32.mul (F32.ofInt vdc) (s.use (aSAGE_DIS_VSCL m))
      let v := F32.toNat w
      let ok := F32.le w (F32.ofInt (s.get (fSAGE_DIS_LIM_v_safe m)))
      s.setDiss (Tab.ins s.diss m { d with
        v := v, vw := w, v0 := d.v0.or (some v), vcw := d.vcw.or (some w), lastV := s.now,
        below := if ok then d.below.or (some s.now) else none }))

/-- A discharge ends on its own (R348): the group enters PULSE-OFF with source code 0x00. -/
def disOver (m res : Nat) (s : State) : State := enterState m 3 0 3 0 0xFF (disEnd m res s)

/-- t_dis in fine ticks. -/
def State.tDis (s : State) (m : Nat) : Nat := 10 * ms * s.get (fSAGE_DIS_LIM_t_dis m)

/-- A checkpoint every t_dis / 8 (R348). -/
def disCheckpoint (m : Nat) (s : State) : State :=
  let d := s.dis m
  let s := s.reach (d.start + (d.chkN + 1) * s.tDis m / 8)
  let high := F32.lt (F32.ofInt (s.get (fSAGE_DIS_LIM_v_safe m))) d.vw
  let flat := match d.vcw with | some c => F32.lt (F32.mul (F32.dec 97 100) c) d.vw | none => false
  if high && flat then disOver m 5 s
  else s.setDiss (Tab.ins s.diss m { d with chkN := d.chkN + 1, vcw := some d.vw })

end Sys2Proof.Machine
end

