-- ==== Sys2Proof/Machine/SageCommands.lean ====
section
/-! DEFINITION. The commands of 09_sage_and_safe_states.md and CHECK. -/
namespace Sys2Proof.Machine

/-- A watchdog: 0 Sage, 1 and 2 the APC pairs. -/
def State.wdg (s : State) (i : Nat) : Wdg := Tab.get {} s.wdgs i
def State.putWdg (s : State) (i : Nat) (w : Wdg) : State := s.setWdgs (Tab.set {} s.wdgs i w)
/-- An APC pair. -/
def State.apcPair (s : State) (i : Nat) : Apc := Tab.get {} s.apcs i
def State.putApc (s : State) (i : Nat) (x : Apc) : State := s.setApcs (Tab.set {} s.apcs i x)

/-- CHECK (R298, R332): over the dedicated path to the torque monitor and the discharge supervisor. -/
def execCheckCell (p : Fin 32) (h : CellHdr) (slot : Fin 4) (i vdc : Int) (cnt : Nat) (s : State) :
    Host.Outcome State Fault Refusal :=
  done (hubCell p.val h (fun s =>
    let (t, s) := sampleMatch p.val slot.val true s
    let v := lowBits 16 vdc
    let s := disValue p.val slot.val v s
    match t with
    | some t => tmItem (4 * p.val + slot.val) t (sext 16 (lowBits 16 i)) v cnt s
    | none => s) s)

/-! Clocks, supplies, alive signal (R322 to R325). -/

/-- A deviation from the expected count in units of 0.01 %. -/
def devOf (n want : Nat) : Int := ((n : Int) - want) * 10000 / want

/-- MAIN_CLOCK_CHECK (R322): one window of Sage's check of the main clock. -/
def execMainClockCheck (ticks : Nat) (s : State) : Host.Outcome State Fault Refusal :=
  let d := devOf ticks 4000
  let bad := 400 < d.natAbs
  let s := s.put fSAGE_CLK_STAT_main (satI 16 d)
  let fault := ticks < 100 || (bad && s.sage.mainBad)
  let was := s.on fSAGE_HEALTH_clk_ok
  let s := s.setSage { s.sage with mainBad := bad }
  done (if fault then (if was then (s.lower fSAGE_HEALTH_clk_ok).sageEvt 2 .none else s)
    else if bad then s else s.raise fSAGE_HEALTH_clk_ok)

/-- SAGE_CLOCK_CHECK (R322, R324): one window of the HPM's check of the Sage clock. -/
def execSageClockCheck (cyc : Nat) (stopped : Bool) (s : State) : Host.Outcome State Fault Refusal :=
  let d := devOf cyc 2000
  let bad := 400 < d.natAbs
  let was := s.sage.sclkBad
  let s := (s.put fSAGE_CLK_STAT_sage (satI 16 d)).setSage { s.sage with sclkBad := bad }
  done (if stopped || (bad && was) then lossPath 2 s else s)

/-- SAGE_SUPPLY_CHECK (R323): `core` and `safe` say which supply is out of its range. -/
def execSageSupplyCheck (core safe : Bool) (s : State) : Host.Outcome State Fault Refusal :=
  let was := s.on fSAGE_HEALTH_sup_ok
  let s := s.putB fSAGE_HEALTH_sup_ok (!(core || safe))
  let s := if core && was then s.sageEvt 2 .none else s
  done (if safe then lossPath 3 s else s)

/-- ALIVE_LOSS (R324). -/
def execAliveLoss (s : State) : Host.Outcome State Fault Refusal :=
  done (if s.sage.running && !s.sage.aliveSusp then lossPath 5 s else s)

/-- Sage's own reset (R325). -/
def sageSrst (s : State) : State :=
  if !s.allHeld then
    (((s.errSet 0x400F0000 17).errSet 0x40010000 18).irq 0x40010000 6).incrSat fFAB_SRST_REF_cnt
  else
    let s := s.setSage { s.sage with aliveSusp := true, resetAt := some s.now }
    wardenStart 4 .reset s

/-- SAGE_RESET (R325). -/
def execSageReset (r : Req) (s : State) : Host.Outcome State Fault Refusal := cmdAt r 0x400F0008 sageSrst s

/-- ALIVE_RESUME_TIMEOUT (R325). -/
def execAliveResumeTimeout (s : State) : Host.Outcome State Fault Refusal :=
  done (match s.sage.resetAt with
    | some t => lossPath 5 ((s.reach (t + ms)).setSage { s.sage with resetAt := none })
    | none => s)

/-! Lockstep (R329 to R331). -/

/-- LOCKSTEP_MISMATCH (R329). -/
def execLockstepMismatch (x : CorePair) (cause : Fin 16) (s : State) : Host.Outcome State Fault Refusal :=
  done (match x with
    | .apc i =>
      if s.on (fAPC_LS_STAT_broken i.val) || (s.apcPair i.val).halted then s
      else
        let s := s.putApc i.val { s.apcPair i.val with halted := true }
        let s := (s.raise (fAPC_LS_STAT_mis i.val)).raise (fAPC_LS_STAT_halted i.val)
        let s := (s.put (fAPC_LS_STAT_cause i.val) cause.val).incrSat (fAPC_LS_STAT_mis_cnt i.val)
        pairQuit (s.sageEvt 3 (nOther i.val))
    | .sage => lossPath 1 s)

/-- An injected error of an APC pair (R330). -/
def lsInject (i : Nat) (s : State) : State :=
  if s.on (fAPC_LS_STAT_broken i) then s
  else toSage 3 (nOther i) true ((s.put (fAPC_LS_STAT_cause i) 8).incrSat (fAPC_LS_STAT_inj_cnt i))

/-- LOCKSTEP_INJECT (R330). -/
def execLockstepInject (r : Req) (i : Fin 2) (s : State) : Host.Outcome State Fault Refusal :=
  cmdAt r aAPC_LS_INJ (lsInject i.val) s

/-- An injected error of the Sage pair (R330). -/
def sageInject (s : State) : State := (s.raise fSAGE_LS_STAT_inj_ok).incrSat fSAGE_LS_STAT_inj_cnt

/-- SAGE_LS_INJECT (R330). -/
def execSageLsInject (r : Req) (s : State) : Host.Outcome State Fault Refusal := cmdAt r aSAGE_LS_INJ sageInject s

/-- sage_hold is set on every machine group (R331). -/
def holdAll (s : State) : State :=
  s.each (List.range 32) (fun m s =>
    refreshSum m ((s.raise (fMG_TRIP_STAT_sage_hold m)).putBit aSAGE_MG_HOLD m true))

/-- DEBUG_HALT (R331): permitted as APC_LS_STAT[0].dbg_allow shows. -/
def execDebugHalt (x : CorePair) (s : State) : Host.Outcome State Fault Refusal :=
  let ok := s.on (fAPC_LS_STAT_dbg_allow 0)
  done (match x with
    | .apc i =>
      if !ok then s
      else
        let s := s.putApc i.val { s.apcPair i.val with dbgHalt := true }
        setNotSafe i.val (s.raise (fAPC_LS_STAT_broken i.val))
    | .sage =>
      if !ok || !s.allHeld then s
      else
        let s := holdAll (s.setSage { s.sage with dbgHalt := true, aliveSusp := true })
        setNotSafe 2 (s.raise fSAGE_HEALTH_dbg))

/-- DEBUG_RESUME (R331). -/
def execDebugResume (x : CorePair) (s : State) : Host.Outcome State Fault Refusal :=
  done (match x with
    | .apc i => s.putApc i.val { s.apcPair i.val with dbgHalt := false }
    | .sage =>
      if s.sage.dbgHalt then
        (s.setSage { s.sage with dbgHalt := false, aliveSusp := s.sage.resetAt.isSome }).lower fSAGE_HEALTH_dbg
      else s)

/-! Events and commands (R333 to R339). -/

/-- SAGE_EVENT (R336): an event arrives at the safe-state manager. -/
def execSageEvent (e : Fin 64) (named : SageName) (test : Bool) (s : State) : Host.Outcome State Fault Refusal :=
  let s := if e.val = 14 || e.val = 15 then s.raise fSAGE_IRQ_RAW_tm else s
  done (toSage e.val named test s)

/-- TORQUE_EVALUATION (R341). -/
def execTorqueEvaluation (m : Fin 32) (s : State) : Host.Outcome State Fault Refusal := done (torqueEval m.val s)

/-- The liveness limit of a context in fine ticks; 0 is off (R344, R357). -/
def State.livLimit (s : State) (k : Nat) : Nat :=
  10 * us * (if k % 2 = 1 then s.get (fSAGE_LIV_T_lim_odd (k / 2)) else s.get (fSAGE_LIV_T_lim_even (k / 2)))

/-- LIVENESS (R344): the limit has passed since the sealed step count last advanced. -/
def execLiveness (k : Fin 128) (s : State) : Host.Outcome State Fault Refusal :=
  let l := s.livLimit k.val
  done (if l = 0 || (s.ctx k.val).st ≠ .run || s.bitAt (aSAGE_LIV_VIOL 0) k.val then s
  else
    let s := s.reach ((Tab.get ({} : Liv) s.livs k.val).at_ + l)
    (s.putBit (aSAGE_LIV_VIOL 0) k.val true).sageEvt 16 (nCtx k.val))

/-- KB_SUPERVISION (R345). -/
def execKbSupervision (s : State) : Host.Outcome State Fault Refusal :=
  done (s.each allCtx (fun k s =>
    let kid := s.cKid k
    if s.livLimit k = 0 || (s.ctx k).st = .off || !(1 ≤ kid && kid ≤ 3) then s
    else
      let v := Tab.get ({} : Liv) s.livs k
      let b := (s.cw k 0x7A0).fld 2 1 == 1
      let s := s.setLivs (Tab.set {} s.livs k { v with kb := b })
      if b && !v.kb then s.sageEvt 17 (nCtx k) else s))

/-- A command of SAGE_MG_CMD on each selected group. -/
def eachSelected (f : Nat → State → State) (s : State) : State :=
  s.each (bitsOf 32 (s.rd aSAGE_MG_SEL).toNat) f

/-- A discharge command of Sage (R338, R346). -/
def sageDischarge (mode m : Nat) (s : State) : State :=
  if !inHold (s.mgState m) || s.disRefused m mode then s.errSet 0x400F0000 18
  else
    let s := latchGroup m (fMG_TRIP_STAT_sage_hold m) 0x89 (s.on (fMG_TRIP_STAT_sage_hold m)) s
    let s := s.putBit aSAGE_MG_HOLD m true
    startDischarge m mode 0x89 (noteRequest m 4 0x89 0xFF s)

/-- A hold release of Sage (R324, R338): an event that commanded the group in the same tick is pending (R337). -/
def sageUnhold (m : Nat) (s : State) : State :=
  let g := s.mg m
  let held := (s.decided m && g.reqSage && decide (g.reqEvt < 255)) || s.pendingEvents.any (fun x =>
    s.get (fSAGE_EVT_CFG_react x.e) != 0 && (coveredGroups x.e x.named s).contains m)
  if s.sage.lost || held then s.errSet 0x400F0000 17
  else
    let s := s.putBit aSAGE_MG_HOLD m false
    refreshSum m (s.lower (fMG_TRIP_STAT_sage_hold m))

/-- A write of SAGE_MG_CMD (R338); a code it does not list has no effect. -/
def sageMgCmd (c : Nat) (s : State) : State :=
  if c = 1 then eachSelected (fun m s => sageCommand m 3 0xFF s) s
  else if c = 2 then eachSelected (fun m s => sageCommand m 1 0xFF s) s
  else if c = 3 then eachSelected (fun m s => sageCommand m (s.dfltReq m) 0xFF s) s
  else if c = 4 then eachSelected (sageDischarge 1) s
  else if c = 5 then eachSelected (sageDischarge 2) s
  else if c = 8 then eachSelected sageUnhold s
  else s

/-- SAGE_PULSE_OFF (R338). -/
def execSagePulseOff (r : Req) (s : State) : Host.Outcome State Fault Refusal := cmdAt r aSAGE_MG_CMD (sageMgCmd 1) s
/-- SAGE_ASC (R338). -/
def execSageAsc (r : Req) (s : State) : Host.Outcome State Fault Refusal := cmdAt r aSAGE_MG_CMD (sageMgCmd 2) s
/-- SAGE_DEFAULT (R338). -/
def execSageDefault (r : Req) (s : State) : Host.Outcome State Fault Refusal := cmdAt r aSAGE_MG_CMD (sageMgCmd 3) s
/-- SAGE_DISCHARGE_WINDING (R338, R346). -/
def execSageDischargeWinding (r : Req) (s : State) : Host.Outcome State Fault Refusal := cmdAt r aSAGE_MG_CMD (sageMgCmd 4) s
/-- SAGE_DISCHARGE_BLEED (R338, R346). -/
def execSageDischargeBleed (r : Req) (s : State) : Host.Outcome State Fault Refusal := cmdAt r aSAGE_MG_CMD (sageMgCmd 5) s
/-- SAGE_RELEASE (R338). -/
def execSageRelease (r : Req) (s : State) : Host.Outcome State Fault Refusal := cmdAt r aSAGE_MG_CMD (sageMgCmd 8) s

/-! Discharge (R348). -/

/-- DISCHARGE_DONE: every value at or below V_safe for 10 ms. -/
def execDischargeDone (m : Fin 32) (s : State) : Host.Outcome State Fault Refusal :=
  done (match (s.mg m.val).dis, (s.dis m.val).below with
    | _ + 1, some t => disOver m.val 3 (s.reach (t + 10 * ms))
    | _, _ => s)

/-- DISCHARGE_TIMEOUT. -/
def execDischargeTimeout (m : Fin 32) (s : State) : Host.Outcome State Fault Refusal :=
  done (if (s.mg m.val).dis = 0 then s else disOver m.val 4 (s.reach ((s.dis m.val).start + s.tDis m.val)))

/-- DISCHARGE_STALL: the next checkpoint. -/
def execDischargeStall (m : Fin 32) (s : State) : Host.Outcome State Fault Refusal :=
  done (if (s.mg m.val).dis = 0 then s else disCheckpoint m.val s)

/-- DISCHARGE_NODATA. -/
def execDischargeNodata (m : Fin 32) (s : State) : Host.Outcome State Fault Refusal :=
  done (if (s.mg m.val).dis = 0 then s else disOver m.val 6 (s.reach ((s.dis m.val).lastV + 10 * ms)))

/-! NOT_SAFE and the pins (R350, R351). -/

/-- SAGE_NS_CMD.clr (R350). -/
def nsClr (s : State) : State :=
  if s.pendingEvents.any (fun x => s.on (fSAGE_EVT_CFG_ns x.e)) then s
  else
    let was := s.on fSAGE_HEALTH_not_safe
    let c := s.get fSAGE_HEALTH_ns_cause % 8
    let s := s.put fSAGE_HEALTH_ns_cause c
    if was && c = 0 then ((s.lower fSAGE_HEALTH_not_safe).lower fSAGE_STAT_not_safe).raise fAPC_SAGE_EVT_ns else s

/-- NS_SET (R350). -/
def execNsSet (r : Req) (s : State) : Host.Outcome State Fault Refusal := cmdAt r aSAGE_NS_CMD (setNotSafe 4) s
/-- NS_CLEAR (R350). -/
def execNsClear (r : Req) (s : State) : Host.Outcome State Fault Refusal := cmdAt r aSAGE_NS_CMD nsClr s

/-- The pins a pending event holds (R351). -/
def State.pinsHeld (s : State) : Nat := s.pendingEvents.foldl (fun m x => m ||| s.get (fSAGE_EVT_CFG_pins x.e)) 0

/-- SAGE_PIN_CMD.release (R351). -/
def pinRel (pins : Nat) (s : State) : State :=
  if s.sage.lost then s
  else
    let held := s.pinsHeld
    s.put fSAGE_PIN_STAT_asserted ((List.range 4).foldl (fun x i =>
      if pins / 2 ^ i % 2 = 1 && held / 2 ^ i % 2 = 0 then withBit x i false else x) (s.get fSAGE_PIN_STAT_asserted))

/-- PIN_ASSERT (R351). -/
def execPinAssert (r : Req) (pins : Fin 16) (s : State) : Host.Outcome State Fault Refusal :=
  cmdAt r aSAGE_PIN_CMD (assertPins pins.val) s
/-- PIN_RELEASE (R351). -/
def execPinRelease (r : Req) (pins : Fin 16) (s : State) : Host.Outcome State Fault Refusal :=
  cmdAt r aSAGE_PIN_CMD (pinRel pins.val) s

/-! Watchdogs (R352, R353). -/

/-- What a write of a key does: wait for the second key, a valid service, or expiry. -/
inductive Service where
  | wait | valid | expire
  deriving DecidableEq, Repr

/-- The service rules of R352; times in units of 10 µs. The first service has no lower limit. -/
def Wdg.service (w : Wdg) (now key : Nat) : Service :=
  if key = 0x5A && !w.first then .wait
  else if key = 0xA5 && w.first then
    let d := now - w.last
    if (w.served && d < 10 * us * w.wmin) || 10 * us * w.wmax < d then .expire else .valid
  else .expire

/-- Expiry of the Sage watchdog (R324, R352). -/
def sageExpire (s : State) : State := lossPath 4 (s.lower fSAGE_HEALTH_wdg_ok)

/-- A key written to SAGE_WDG_SVC (R349, R352). -/
def sageKey (key : Nat) (s : State) : State :=
  if !s.sage.running || s.sage.lost then s
  else
    let w := s.wdg 0
    match w.service s.now key with
    | .wait => s.putWdg 0 { w with first := true }
    | .expire => sageExpire (s.putWdg 0 { w with first := false })
    | .valid =>
      let s := s.putWdg 0 {
        last := s.now, served := true, wmin := s.get fSAGE_WDG_CFG_wmin, wmax := s.get fSAGE_WDG_CFG_wmax }
      let s := ((s.raise fSAGE_WDG_STAT_served).lower fSAGE_WDG_STAT_open).raise fSAGE_HEALTH_wdg_ok
      s.setSage { s.sage with errOn := true }

/-- WDG_SERVICE (R352). -/
def execWdgService (r : Req) (key : Fin 256) (s : State) : Host.Outcome State Fault Refusal :=
  cmdAt r aSAGE_WDG_SVC (sageKey key.val) s

/-- WDG_EXPIRY (R352). -/
def execWdgExpiry (s : State) : Host.Outcome State Fault Refusal :=
  done (if s.sage.running && !s.sage.lost then sageExpire (s.reach ((s.wdg 0).last + 10 * us * (s.wdg 0).wmax)) else s)

/-- Expiry of an APC watchdog (R353). -/
def apcExpire (i : Nat) (s : State) : State := (s.raise (fAPC_WDG_STAT_expired i)).sageEvt 4 (nOther i)

/-- A key written to APC_WDG_SVC[i] (R353). -/
def apcKey (i key : Nat) (s : State) : State :=
  let w := s.wdg (i + 1)
  if w.wmax = 0 || s.on (fAPC_WDG_STAT_expired i) then s
  else match w.service s.now key with
    | .wait => s.putWdg (i + 1) { w with first := true }
    | .expire => apcExpire i (s.putWdg (i + 1) { w with first := false })
    | .valid =>
      let s := s.putWdg (i + 1) {
        last := s.now, served := true, wmin := s.get (fAPC_WDG_CFG_wmin i), wmax := s.get (fAPC_WDG_CFG_wmax i) }
      s.lower (fAPC_WDG_STAT_open i)

/-- APC_WDG_SERVICE (R353). -/
def execApcWdgService (r : Req) (i : Fin 2) (key : Fin 256) (s : State) : Host.Outcome State Fault Refusal :=
  cmdAt r (aAPC_WDG_SVC i.val) (apcKey i.val key.val) s

/-- APC_WDG_EXPIRY (R353). -/
def execApcWdgExpiry (i : Fin 2) (s : State) : Host.Outcome State Fault Refusal :=
  let w := s.wdg (i.val + 1)
  done (if w.wmax = 0 || s.on (fAPC_WDG_STAT_expired i.val) then s
    else apcExpire i.val (s.reach (w.last + 10 * us * w.wmax)))

/-- WDG_WINDOW_OPEN (R352, R353, R355). -/
def execWdgWindowOpen (d : Dog) (s : State) : Host.Outcome State Fault Refusal :=
  done (match d with
    | .sage =>
      let w := s.wdg 0
      if !s.sage.running || !w.served then s
      else ((s.reach (w.last + 10 * us * w.wmin)).raise fSAGE_WDG_STAT_open).raise fSAGE_IRQ_RAW_wdg_open
    | .apc i =>
      let w := s.wdg (i.val + 1)
      if w.wmax = 0 || !w.served then s else (s.reach (w.last + 10 * us * w.wmin)).raise (fAPC_WDG_STAT_open i.val))

end Sys2Proof.Machine
end

