-- ==== Sys2Proof/Machine/Reset.lean ====
section
/-! DEFINITION. Resets of islands (02_islands_and_credits.md R43 to R62; each chapter's rule on its island's reset) and the
commands of the wardens, links and CTRL.srst. -/
namespace Sys2Proof.Machine

/-! What a reset leaves (log entry 36). -/

/-- The index of island whose reset returns the register at an address to its reset value (R43): the APC page is split
between the pairs, and some registers no island reset clears (01_register_pages.md "Reserved bits and test controls"; R116,
R391, R437, R542, R324, R331). -/
def resetBy (a : Nat) : Option Nat :=
  match blockAt a with
  | none => none
  | some b =>
    let o := a - hdr b
    if o = 0x38 || o = 0x3C then none
    else match b with
      | .sys | .hpm | .fab => none
      | .apc =>
        if a = aAPC_SAGE_LOST then none
        else if (0x60 ≤ o && o < 0x80) || o = 0xA4 || o = 0x108 || o = 0x114 || o = 0x11C || o = 0x124 then some 3
        else some 2
      | .eng => if a = aENG_KS_STAT then none else some 5
      | .adc u => if u = 0 && aADC_FC_CFG 0 ≤ a && a ≤ aADC_FC_CFG 15 then none else some 9
      | .recorder =>
        if a = aREC_SEQ || a = aREC_EVT_IN || a = aREC_WR_CNT || a = aREC_DEF_FULL || a = aREC_DEF_ABS || a = aREC_SUM_CNT
        then none else some 14
      | b => some (blockIsland b)

/-- The bits of a register that no island reset clears: IRQ_RAW.warden (R55); levels of pins; what lasts until a device
reset (09_sage_and_safe_states.md R331); the holds Sage shows. -/
def keepMask (a : Nat) : Word :=
  match blockAt a with
  | none => 0
  | some b =>
    if a = hdr b + 0x10 then 8
    else if b = .apc && (a = aAPC_LS_STAT 0 || a = aAPC_LS_STAT 1) then 5
    else if b = .thy && a = aTHY_TRIP_LVL 0 then 0xFFFFFFFF
    else if b = .ndl && a = aNDLH_STAT then 0x100
    else if a = aREC_RSTAT then 0x60000000
    else if b = .amu && (List.range 8).any (fun k => a == aAX_STAT k) then 0x380
    else if b = .sage && a = aSAGE_MG_HOLD then 0xFFFFFFFF
    else 0

/-- The registers of an island return to their reset values. -/
def clearRegs (i : Nat) (s : State) : State :=
  let own (k : Nat) : Bool := resetBy (k % 2 ^ 32) == some i
  s.setRegs (s.regs.filterMap (fun (k, v) =>
    if !own k then some (k, v)
    else
      let a := k % 2 ^ 32
      let m := keepMask a
      let w := Word.merge m (resetOf a) v
      if m = 0 || w = resetOf a then none else some (k, w)))

/-- Pending commits and shadows of an island's pages are discarded (01_register_pages.md R25). -/
def dropShadows (i : Nat) (s : State) : State :=
  let own (k : Nat) : Bool := islandAt (k % 2 ^ 32) == i
  let s := if i = 6 then s.each (List.range 32) dropTbgCommit else s
  let s := (s.setBnd (s.bnd.filter (fun x => !own x.1))).setCmt (s.cmt.filter (fun x => !own x.1))
  s.each ((pagesOf i).filter (fun b => s.on (hCmtPend (hdr b)))) (fun b s => s.lower (hCmtPend (hdr b)))

/-- Copies of triplicated fields and CRC passes of an island's pages end. -/
def dropCopies (i : Nat) (s : State) : State :=
  let own (k : Nat) : Bool := resetBy (k % 2 ^ 32) == some i
  (s.setTmr (s.tmr.filter (fun x => !own x.1))).setCrcRun (s.crcRun.filter (fun x => !own x.1))

/-- Routed sources of an ADC that is reset release: the window comparators, and, while PD_ADC is down or the island is
tested, the fast comparators (12_analog_acquisition.md R437, 16_rosemary_and_selftest.md R549). -/
def adcSourcesOff (fast : Bool) (s : State) : State :=
  let l := (List.range 96).filter (fun x => (32 ≤ x || (fast && 16 ≤ x)) && s.routedOn x)
  armedStopped (s.each l (fun x s => s.putBit (aTHY_TRIP_LVL 0) x false))

/-- A powered-down domain loses what its islands hold besides registers (03_basil_control_engine.md R116,
12_analog_acquisition.md R437). -/
def powerLost (i : Nat) (s : State) : State :=
  if i = 5 then
    let s := s.setMem (s.mem.filter (fun x => !(0x30000000 ≤ x.1 && x.1 < 0x30080000)))
    ((s.wr aENG_KS_STAT 0).put fENG_KS_STAT_state 2).lower ⟨aENG_STAT, 8, 1⟩
  else if i = 6 then s.setHpm { s.hpm with aonAt := some (s.hpm.aonAt.getD s.now) }
  else if i = 9 then s.each (List.range 16) (fun f s => s.wr (aADC_FC_CFG f) (resetOf (aADC_FC_CFG f)))
  else s

/-- Sage's island is reset (09_sage_and_safe_states.md R325): what lasts until a device reset lasts. -/
def sageReset (o s : State) : State :=
  let s := ((((msioReset s).setTms []).setDiss []).setLivs []).setWdgs (Tab.del s.wdgs 0)
  let c := o.get fSAGE_HEALTH_ns_cause % 8
  let s := s.put fSAGE_HEALTH_ns_cause c
  let s := s.putB fSAGE_HEALTH_dbg (o.on fSAGE_HEALTH_dbg)
  let s := if c = 0 then s else (s.raise fSAGE_HEALTH_not_safe).raise fSAGE_STAT_not_safe
  s.setSage { s.sage with running := false, errOn := false, mainBad := false, inbox := [] }

/-- An island is reset: each chapter's rule (R55). -/
def islandReset (i : Nat) (s : State) : State :=
  let o := s
  let test := (s.warden i).purpose == .test
  let down := (s.warden i).purpose == .powerDown
  let s := if i = 7 then s.each (List.range 32) enterOff else s
  let s := if i = 13 then pairReset s else s
  let s := if i = 5 then engReset s else s
  -- the sets of groups that stop with the PTA are cancelled (03_basil_control_engine.md R93)
  let s := if i = 6 then s.each ((List.range 32).filter s.tbgRun) (fun g s =>
      match s.kernCtx g with | some k => cancelStep k s | none => s) else s
  let valid := s.on ⟨aENG_STAT, 8, 1⟩
  let s := clearRegs i (dropCopies i (dropShadows i s))
  match i with
  | 2 => (s.putApc 0 {}).putWdg 1 {}
  | 3 => (s.putApc 1 {}).putWdg 2 {}
  | 4 => sageReset o s
  | 5 => s.putB ⟨aENG_STAT, 8, 1⟩ valid
  | 6 =>
    let s := (((s.setTbgs []).setLegs []).setMgs []).setTrgs []
    membersChanged (s.wr aSAGE_MG_HOLD 0)
  | 7 => s.each (List.range 32) (fun p s => s.putPort p { s.port p with tokKnown := false })
  | 8 => s.setGiu {}
  | 9 => adcSourcesOff (test || down) (adcReset s)
  | 10 => fbiReset s
  | 11 => amuReset s
  | 12 => canReset s
  | 14 => s.setRosem { s.rosem with queue := [], postLeft := none }
  | 15 => s.setBist {}
  | _ => s

/-! The warden sequence (R55, R56, R61). -/

/-- A request reaches the warden of an island: what stops at its begin stops (03_basil_control_engine.md R93,
13_feedback_and_aux_axes.md R462), and the sequence starts. -/
def islandStart (i : Nat) (p : Purpose) (s : State) : State :=
  let s := if !s.isRun i then s
    else
      let s := dropShadows i s
      if i = 5 then engBegins s else if i = 11 then amuBegins s else s
  wardenStart i p s

/-- RETIRE begins (R55): what the chapters end there (12_analog_acquisition.md R428, 14_can.md R488,
16_rosemary_and_selftest.md R542). -/
def retireBegins (i : Nat) (s : State) : State :=
  let s := enterRetire i s
  if i = 9 then adcRetire s
  else if i = 12 then canRetire s
  else if i = 14 then
    let q := s.rosem.queue.filter (fun x => !x.own)
    s.setRosem s.rosem.discard |>.each q (fun x s => recDefer false x.time (s.incr fREC_DEF_ABS_cnt))
  else s

/-- The power bits of the domains (15_power_clocks_boot_thermal.md R500): the islands of a domain; NDL1 has none. -/
def domainIslands (d : Nat) : List Nat :=
  match d with
  | 0 => [2] | 1 => [3] | 2 => [4] | 3 => [5] | 4 => [6] | 5 => [7] | 7 => [9] | 8 => [12] | 9 => [13] | 10 => [8, 10, 11]
  | 11 => [1, 14, 15] | _ => []

/-- HPM_PD_STAT.on (R501): a domain is powered until its islands are unpowered; NDL1 as NDL_STAT.pd1 shows. -/
def refreshPower (s : State) : State :=
  s.each (List.range 12) (fun d s =>
    let up := if d = 6 then s.on fNDLH_STAT_pd1 else (domainIslands d).any (fun i => !(s.warden i).pdown)
    s.put ⟨aHPM_PD_STAT, d, 1⟩ (if up && !s.on ⟨aHPM_PD_STAT, 16 + d, 1⟩ then 1 else 0))

/-- RETIRE ends in ABSENT (R55): the island is held in reset, its loading stops, or it is powered down. -/
def retireEnds (i : Nat) (s : State) : State :=
  let s := retireReplies i s
  let p := (s.warden i).purpose
  let s := if i = 16 then
      (if p = .reload then ((dropShadows 5 s).wr (hdr .eng + 0x24) 0 |>.put fENG_KS_STAT_state 1).lower ⟨aENG_STAT, 8, 1⟩ else s)
    else islandReset i s
  let s := if p = .powerDown then powerLost i s else s
  let s := wardenFlags i (s.putWarden i { s.warden i with st := .absent, since := s.now, pdown := p == .powerDown })
  -- PD_NDL1 goes down with PD_NDL0 (R45)
  let s := if i = 7 && p = .powerDown then s.lower fNDLH_STAT_pd1 else s
  if p = .powerDown then refreshPower s else s

/-- The island comes back from ABSENT (R55): its cores run on at the APC entry address (R509), Sage's alive signal resumes
(R325), Thyme resumes in whole ticks (06_thyme_and_pwm.md R198). -/
def islandRelease (i : Nat) (s : State) : State :=
  let up := (s.warden i).purpose == .powerUp
  let s : State := wardenRun i s
  let booted := s.get fSYS_BOOT_STAT_state == 1
  match i with
  | 2 => s.putApc 0 { s.apcPair 0 with running := booted }
  | 3 => s.putApc 1 { s.apcPair 1 with running := booted }
  | 4 =>
    let s := s.putWdg 0 { last := s.now, wmin := 0, wmax := s.get fSAGE_WDG_CFG_wmax }
    s.setSage { s.sage with running := booted, resetAt := none, aliveSusp := false }
  | 6 => if up then ((s.setNow s.resumed).setHpm { s.hpm with aonAt := none }).raise fTHY_STAT_coarse else s
  | _ => s

/-! Commands. -/

/-- REQUEST_ARRIVAL (R47, R49, R53, R54). -/
def execRequestArrival (q i : Fin 17) (urg : Bool) (tag ep : Nat) (idw : FabAddr) (s : State) : Host.Outcome State Fault Refusal :=
  done (fabArrival q.val i.val (if urg then 1 else 0) tag ep idw.idw idw.a s)

/-- REPLY (R52, R57). -/
def execReply (q i : Fin 17) (urg : Bool) (tag ep : Nat) (s : State) : Host.Outcome State Fault Refusal :=
  done (fabReply q.val i.val (if urg then 1 else 0) tag ep s)

/-- CLOCK_GATE (R53): an island idle for 1 µs; the HPM and Sage are never gated (09_sage_and_safe_states.md R321). -/
def execClockGate (i : Fin 17) (s : State) : Host.Outcome State Fault Refusal :=
  let w := s.warden i.val
  done (if w.st = .run && w.accepted.isEmpty && i.val ≠ 0 && i.val ≠ 4 && i.val ≠ 16 then
    let s := s.reach (w.idle + us)
    s.putWarden i.val { s.warden i.val with gated := true }
  else s)

/-- DRAIN_COMPLETE (R55): every accepted request has its reply. -/
def execDrainComplete (i : Fin 17) (s : State) : Host.Outcome State Fault Refusal :=
  let w := s.warden i.val
  done (if w.st = .drain && w.accepted.isEmpty then retireBegins i.val s else s)

/-- DRAIN_TIMEOUT (R55). -/
def execDrainTimeout (i : Fin 17) (s : State) : Host.Outcome State Fault Refusal :=
  let w := s.warden i.val
  done (if w.st = .drain then
    let s := s.reach (w.since + w.limit * us)
    retireBegins i.val ((s.errSet 0x40010000 17).irq 0x40010000 5)
  else s)

/-- RETIRE_OVERTIME (R64): FAB_AUDIT_FAIL and the record name the warden's own index as requester and target, class 0 (DESIGN CHOICE, log
entry 39). -/
def execRetireOvertime (i : Fin 17) (s : State) : Host.Outcome State Fault Refusal :=
  let w := s.warden i.val
  done (if w.st = .retire then fabricFault 4 i.val i.val 0 (s.reach (w.since + 2 * us + 1)) else s)

/-- RESET_RELEASE (R55): 64 island clock periods in reset. -/
def execResetRelease (i : Fin 17) (s : State) : Host.Outcome State Fault Refusal :=
  let w := s.warden i.val
  done (if w.st = .absent && (w.purpose = .reset || w.purpose = .powerUp) then
    refreshPower (islandRelease i.val (s.reach (w.since + 64 * islandPeriod i.val)))
  else s)

/-- CREDIT_AUDIT (R63): at the next end of an audit period of FAB_AUDIT_CFG (R68). -/
def execCreditAudit (s : State) : Host.Outcome State Fault Refusal :=
  let h := hdr .fab
  let t := nextFrame (near 1 10 (s.get fFAB_AUDIT_CFG_per) * frame10) (Tab.get 0 s.frames h) s.now
  done (creditAudit ((s.reach t).setFrames (Tab.set 0 s.frames h t)))

/-- A write of CTRL.srst (R43, R62): the blocks of islands 0 and 2 start no reset; the Sage island is reset by Sage cores
only (09_sage_and_safe_states.md R325). -/
def ctrlSrst (r : Req) (b : Block) (s : State) : State :=
  match b with
  | .sys | .hpm | .fab | .apc => s
  | .sage | .msio => if r = .sage then sageSrst s else s
  | b =>
    let i := blockIsland b
    if (i = 5 || i = 6 || i = 7) && !s.allHeld then
      ((s.errSet 0x40010000 18).irq 0x40010000 6).incrSat fFAB_SRST_REF_cnt
    else islandStart i .reset s

/-- CTRL_SRST (R55, R62). -/
def execCtrlSrst (r : Req) (b : Block) (s : State) : Host.Outcome State Fault Refusal :=
  cmdAt r (hdr b + 8) (ctrlSrst r b) s

end Sys2Proof.Machine
end

