-- ==== Sys2Proof/Machine/RecCommands.lean ====
section
/-! DEFINITION. The commands of Rosemary (16_rosemary_and_selftest.md R528 to R542). -/
namespace Sys2Proof.Machine

/-- RING_SEARCH (R531). -/
def execRingSearch (s : State) : Host.Outcome State Fault Refusal := done (ringSearch s)

/-- REC_EVENT (R532, R536). -/
def execRecEvent (code block inst : Fin 256) (t : Nat) (pay : List (BitVec 8)) (s : State) : Host.Outcome State Fault Refusal :=
  if 40 < pay.length then .fault .malformed else done (recEvent code.val block.val inst.val t pay s)

/-- RECORD_WRITE (R528, R533, R539). -/
def execRecordWrite (s : State) : Host.Outcome State Fault Refusal := done (recordWrite s)

/-- A write of REC_SW_CMD (R535). -/
def softRecord (r : Req) (code : Nat) (s : State) : State :=
  if code < 0xC0 then s.errSet 0x400D0000 17
  else recEvent code 0 0 (s.stamp) ((List.range 10).flatMap (fun w => wordBytes (s.rd (bank r (aREC_SW_DATA w))))) s

/-- SOFTWARE_RECORD (R535). -/
def execSoftwareRecord (r : Req) (code : Fin 256) (s : State) : Host.Outcome State Fault Refusal :=
  cmdAt r aREC_SW_CMD (softRecord r code.val) s

/-- A write of REC_CMD (R539, R541): unfreeze wins; a freeze acts before the trigger. -/
def recCmd (d : Word) (s : State) : State :=
  if d.fld 1 1 = 1 then s.lower fREC_RSTAT_frozen
  else if d.fld 0 1 = 1 && !s.on fREC_RSTAT_frozen then ringFreeze s
  else s

/-- FREEZE (R539). -/
def execFreeze (r : Req) (s : State) : Host.Outcome State Fault Refusal := cmdAt r aREC_CMD (recCmd 1) s
/-- UNFREEZE (R539). -/
def execUnfreeze (r : Req) (s : State) : Host.Outcome State Fault Refusal := cmdAt r aREC_CMD (recCmd 2) s

/-- The record a requester's cursor selects is copied into its window (R540). -/
def curCopy (r : Req) (s : State) : State :=
  let a := 0x10700000 + (s.rd (bank r aREC_CUR_IDX)).fld 0 13 * 0x40
  let ok := (slotSeq s a).isSome
  let s := s.each (List.range 16) (fun w s => s.wr (bank r (aREC_CUR_DATA w)) (s.mem32 (a + 4 * w)))
  s.wr (bank r aREC_CUR_STAT) (if ok then 1 else 0)

/-- A write of REC_CUR_IDX (R540). -/
def curSelect (r : Req) (d : Word) (s : State) : State := curCopy r (s.wr (bank r aREC_CUR_IDX) d)

/-- A write of REC_CUR_CMD (R540): newer and older together leave the index. -/
def curMove (r : Req) (d : Word) (s : State) : State :=
  let w := s.rd (bank r aREC_CUR_IDX)
  let i := w.fld 0 13
  let j := if d.fld 0 2 = 1 then (i + 1) % 8192 else if d.fld 0 2 = 2 then (i + 8191) % 8192 else i
  if d.fld 0 2 = 0 then s else curCopy r (s.wr (bank r aREC_CUR_IDX) (w.ins 0 13 j))

/-- CURSOR_SELECT (R540). -/
def execCursorSelect (r : Req) (idx : BitVec 32) (s : State) : Host.Outcome State Fault Refusal :=
  cmdAt r aREC_CUR_IDX (curSelect r idx) s
/-- CURSOR_NEWER (R540). -/
def execCursorNewer (r : Req) (s : State) : Host.Outcome State Fault Refusal := cmdAt r aREC_CUR_CMD (curMove r 1) s
/-- CURSOR_OLDER (R540). -/
def execCursorOlder (r : Req) (s : State) : Host.Outcome State Fault Refusal := cmdAt r aREC_CUR_CMD (curMove r 2) s
/-- CURSOR_COPY (R540): newer and older in one write. -/
def execCursorCopy (r : Req) (s : State) : Host.Outcome State Fault Refusal := cmdAt r aREC_CUR_CMD (curMove r 3) s

/-- The check of a REC frame (R537). -/
def recFrame (s : State) : State :=
  let sum := (s.get fREC_WR_CNT_cnt + s.get fREC_DEF_FULL_cnt + s.rosem.events) % 2 ^ 32
  if s.get fREC_EVT_IN_cnt = sum then s
  else if s.on fREC_ERR_cons then s
  else conservationEvent .recorder (s.errSet 0x400D0000 16)

end Sys2Proof.Machine
end

