-- ==== Sys2Proof/Machine/Bist.lean ====
section
/-! DEFINITION. The built-in self-test (16_rosemary_and_selftest.md R543 to R552). -/
namespace Sys2Proof.Machine

/-- Power weights of the kinds L, M, A of an island, in mW; 0 where the island lacks the kind (R543). -/
def bistMw (i : Nat) : List Nat :=
  match i with
  | 3 => [600, 300, 0] | 5 => [700, 400, 0] | 16 => [0, 300, 0] | 6 => [500, 150, 0] | 7 => [400, 100, 350]
  | 8 => [250, 100, 0] | 9 => [250, 100, 200] | 10 => [300, 50, 0] | 11 => [150, 50, 0] | 12 => [200, 100, 0]
  | 13 => [150, 50, 300] | 14 => [150, 100, 0] | _ => [0, 0, 0]

/-- Does the island have every kind of a mask (R544)? -/
def bistHas (i kinds : Nat) : Bool := (bitsOf 3 kinds).all (fun k => (bistMw i).getD k 0 != 0)

/-- The weight of a request: its heaviest kind (R544). -/
def BReq.mw (q : BReq) : Nat := (bitsOf 3 q.kinds).foldl (fun m k => max m ((bistMw q.idx).getD k 0)) 0

/-- Every core of an APC pair is halted or in WFI. Whether a running pair is in WFI no command says: a free value (log entry
36). -/
def pairIdle (i : Nat) (s : State) : Bool × State :=
  let x := s.apcPair i
  if !x.running || x.halted || x.dbgHalt then (true, s)
  else
    let (w, s) := s.freeWord
    (w.fld 0 1 == 1, s)

/-- Every enabled machine group is in a safe state, DISCHARGE among them. -/
def State.allSafe (s : State) : Bool := allLegs.all (fun n => !s.legEn n || s.mgState (s.legMg n) != 0)

/-- Every CAN controller is in INIT and no safe-message channel is enabled. -/
def State.canQuiet (s : State) : Bool :=
  (List.range 4).all (fun c => s.canMode c == 0) && (List.range 16).all (fun c => !s.on (fMSIO_SM_CFG_en c))

/-- The refusal conditions at the start of a request (R545, R546). -/
def bistRefused (i : Nat) (s : State) : Bool × State :=
  let run (k : Nat) : Bool := (s.ctx k).st == .run
  match i with
  | 3 =>
    let (ok, s) := pairIdle 1 s
    (!ok, s)
  | 5 | 6 | 7 => (!s.allHeld, s)
  | 16 => (s.liveCtx.any run, s)
  | 8 => (s.liveCtx.any (fun k => run k && (List.range 16).any (fun j => (s.cw k (0x40 + 8 * j)).fld 28 4 == 4)), s)
  | 9 | 10 => (!s.allSafe, s)
  | 11 => (s.amuMoving != 0, s)
  | 12 => (!s.canQuiet, s)
  | 13 => (s.pairLink != 0, s)
  | _ => (false, s)

/-- A request ends with a result (R550): its registers, counts, flags and record. -/
def bistResult (q : BReq) (res : Nat) (s : State) : State :=
  let i := q.idx
  let dur := if res = 6 then 0 else (s.now - q.at_) / us
  let s := ((s.put (fBIST_RES_result i) res).put (fBIST_RES_kinds i) q.kinds).lower (fBIST_RES_run i)
  let s := s.put (fBIST_RES_dur i) (min dur (2 ^ 24 - 1))
  let s := (s.incr fBIST_DONE_CNT_cnt).irq 0x400E0000 4
  let fail := 2 ≤ res && res ≤ 4
  let s := if fail then (s.incrSat fBIST_FAIL_CNT_cnt).irq 0x400E0000 5 else s
  let s := if res = 5 then s.irq 0x400E0000 6 else s
  s.record 0x90 .bist ([BitVec.ofNat 8 i, BitVec.ofNat 8 q.kinds, BitVec.ofNat 8 res, 0] ++ wordBytes (s.rd (aBIST_SIG i))
    ++ wordBytes (Config.bistRef i) ++ wordBytes (s.rd (aBIST_FINFO i)) ++ natBytes 4 dur)

/-- A test of an island is no longer running. -/
def bistDrop (i : Nat) (s : State) : State := s.setBist { s.bist with run := s.bist.run.filter (fun q => q.idx != i) }

/-- The test of an island ends ABORTED; the island returns to RUN at once, or stays down (R551, R552). -/
def bistAbortOne (back : Bool) (q : BReq) (s : State) : State :=
  let s := bistDrop q.idx s
  let s := if !back then s
    else
      let s := if (s.warden q.idx).st = .drain then retireBegins q.idx s else s
      let s := if (s.warden q.idx).st = .retire then retireEnds q.idx s else s
      if (s.warden q.idx).st = .absent then islandRelease q.idx s else s
  bistResult q 5 s

/-- Every running test ends ABORTED (R551). -/
def bistAbort (s : State) : State := s.each s.bist.run (bistAbortOne true)

/-- A power-down reaches an island under test (R552). -/
def bistDown (i : Nat) (s : State) : State := s.each (s.bist.run.filter (fun q => q.idx == i)) (bistAbortOne false)

/-- A write of BIST_CMD with release = 0 (R544). -/
def bistRequest (i kinds : Nat) (s : State) : State :=
  let known := s.bist.queue ++ s.bist.run
  if kinds = 0 || !bistHas i kinds || known.any (fun q => q.idx == i) then s.errSet 0x400E0000 16
  else if 8 ≤ s.bist.queue.length then s.errSet 0x400E0000 17
  else s.setBist { s.bist with queue := s.bist.queue ++ [{ idx := i, kinds := kinds }] }

/-- A write of BIST_CMD with release = 1 (R550, R552): a failed island returns to RUN. -/
def bistRelease (i : Nat) (s : State) : State :=
  if i < 17 && s.bitAt aBIST_HELD i then
    let s := s.putBit aBIST_HELD i false
    s.putWarden i { s.warden i with purpose := .reset, since := s.now }
  else s.errSet 0x400E0000 16

/-- A write of BIST_CMD. -/
def bistCmd (d : Word) (s : State) : State :=
  if d.fld 15 1 = 1 then bistRelease (d.fld 0 5) s else bistRequest (d.fld 0 5) (d.fld 8 3) s

/-- BIST_REQUEST (R544). -/
def execBistRequest (r : Req) (i : Fin 32) (kinds : Fin 8) (s : State) : Host.Outcome State Fault Refusal :=
  cmdAt r aBIST_CMD (bistRequest i.val kinds.val) s
/-- BIST_RELEASE (R550). -/
def execBistRelease (r : Req) (i : Fin 32) (s : State) : Host.Outcome State Fault Refusal :=
  cmdAt r aBIST_CMD (bistRelease i.val) s

/-- The weights of the running tests (R544). -/
def State.bistPower (s : State) : Nat := s.bist.run.foldl (fun m q => m + q.mw) 0

/-- Is BIST gated by an episode or THROTTLE (R551)? -/
def State.bistGated (s : State) : Bool := s.on fHPM_SUP_STAT_epi || s.get fHPM_THERM_STAT_state == 2

/-- The next request that may start starts (R544 to R546); an island whose warden is not in RUN waits (DESIGN CHOICE, log
entry 37). -/
def bistStart (s : State) : State :=
  if s.bistGated || !s.isRun 15 then s
  else
    let room := s.get fBIST_CFG_budget - s.bistPower
    match s.bist.queue.find? (fun q => q.mw ≤ room && s.isRun q.idx) with
    | none => s
    | some q =>
      let s := match s.bist.lastStart with | some t => s.reach (t + s.get fBIST_CFG_stagger * us) | none => s
      let s := s.setBist { s.bist with queue := s.bist.queue.erase q }
      let (ref, s) := bistRefused q.idx s
      if ref then bistResult q 6 s
      else
        let q := { q with at_ := s.now }
        let s := s.setBist { s.bist with run := s.bist.run ++ [q], lastStart := some s.now }
        islandStart q.idx .test (s.raise (fBIST_RES_run q.idx))

/-- BIST_START. -/
def execBistStart (s : State) : Host.Outcome State Fault Refusal := done (bistStart s)

/-- A test ends (R545, R547 to R550): the signature decides the logic test, the operand the memory and analog tests. -/
def bistComplete (i res : Nat) (sig info : Word) (s : State) : State :=
  match s.bist.run.find? (fun q => q.idx == i) with
  | none => s
  | some q =>
    let w := s.warden i
    if w.st ≠ .absent || w.purpose ≠ .test then s
    else
      let has (k : Nat) : Bool := q.kinds / 2 ^ k % 2 == 1
      let r := if has 0 && sig ≠ Config.bistRef i then 2
        else if has 1 && res = 3 then 3
        else if has 2 && res = 4 then 4 else 1
      let s := bistDrop i s
      let s := if has 0 then s.wr (aBIST_SIG i) sig else s
      let s := if r = 3 || r = 4 then s.wr (aBIST_FINFO i) info else s
      let s := if r = 1 then islandRelease i s else s.putBit aBIST_HELD i true
      let s := if i = 16 && r ≠ 1 then
          ((s.put fENG_KS_STAT_state 2).lower ⟨aENG_STAT, 8, 1⟩ |>.errSet 0x40050000 18).sageEvt 32 .none
        else s
      bistResult q r s

/-- BIST_COMPLETE. -/
def execBistComplete (i : Fin 32) (res : Nat) (sig info : BitVec 32) (s : State) : Host.Outcome State Fault Refusal :=
  done (bistComplete i.val res sig info s)

/-- BIST_QSTAT (R558). -/
def State.bistQstat (s : State) : Nat := s.bistPower * 65536 + s.bist.run.length % 16 * 16 + s.bist.queue.length % 16

end Sys2Proof.Machine
end

