-- ==== Sys2Proof/Machine/Hpm.lean ====
section
/-! DEFINITION. The housekeeping and power manager: device resets, supplies, domains, power states, clocks, thermal levels
(15_power_clocks_boot_thermal.md R493 to R510, R520 to R523). -/
namespace Sys2Proof.Machine

def hSys : Nat := 0x40000000
def hHpm : Nat := 0x40001000

/-! Device resets (R507, R508). -/

/-- A satellite keeps its own time while the chip's Thyme starts at 0: its offset takes up the difference. -/
def Sat.rebase (x : Sat) (now : Nat) : Sat :=
  let x := x.settleTime now
  let l (k : SLink) : SLink := { k with lastValid := 0, statusAt := 0, telAt := [0, 0, 0, 0] }
  { x with ofs := x.ofs + now, slewAt := 0, a := l x.a, b := l x.b }

/-- The memory a device reset leaves: eMRAM, and APC SRAM unless power was lost (log entry 36). -/
def resetMem (por : Bool) (m : List Host.Cell) : List Host.Cell :=
  m.filter (fun c => (0x10000000 ≤ c.1 && c.1 < 0x10800000) || (!por && 0x20000000 ≤ c.1 && c.1 < 0x20400000))

/-- Every warden of the device is held (R508, R521, R522): the islands are in reset. -/
def holdIslands (s : State) : State :=
  s.each (List.range 17) (fun i s => s.putWarden i { s.warden i with st := .absent, since := s.now })

/-- What the HPM holds over a device reset besides its registers. -/
def State.resetHpm (s : State) (por : Bool) : Hpm :=
  let h := s.hpm
  { held := por || h.held, shut := h.shut && !por, starts := if por then [] else h.starts.map (· - (s.now : Int)),
    ops := if por then h.flushOps else s.opsec.toNat, flushOps := h.flushOps, flushPrev := h.flushPrev,
    flushPcyc := h.flushPcyc, marker := h.marker, cold := h.cold || por, digest := if por then [] else h.digest, strap := h.strap,
    rcalBad := h.rcalBad }

/-- The reset state with the memory, the free values and the queue of `s`. -/
def resetBase (por : Bool) (s : State) : State :=
  ((State.reset.setFree s.free).setPending s.pending).setMem (resetMem por s.mem)

/-- Levels of pins and straps, and what eMRAM gives, taken from the state `s` before the reset. -/
def resetPins (s t : State) : State :=
  let t := t.put ⟨aTHY_TRIP_LVL 0, 0, 16⟩ ((s.rd (aTHY_TRIP_LVL 0)).fld 0 16)
  let t := t.each (List.range 8) (fun k t => t.put ⟨aAX_STAT k, 7, 3⟩ ((s.rd (aAX_STAT k)).fld 7 3))
  let t := (t.wr aSYS_MIN_VER (s.rd aSYS_MIN_VER)).wr aSYS_PCYC (BitVec.ofNat 32 s.hpm.flushPcyc)
  t.putB fSYS_DBG_STAT_allow s.hpm.strap

/-- The sticky registers of the state `s` before the reset (R508). -/
def resetSticky (por : Bool) (s t : State) : State :=
  if por then t.wr aSYS_RST_CAUSE 1
  else ((t.wr aSYS_RST_CAUSE (s.rd aSYS_RST_CAUSE)).wr aHPM_PMIC_EN (s.rd aHPM_PMIC_EN)).wr aHPM_SUP_EPI (s.rd aHPM_SUP_EPI)

/-- The state after a device reset but for registers: satellites, the HPM's own state, levels of MSIO inputs. -/
def resetKept (por : Bool) (s : State) : State :=
  let t := ((resetBase por s).setSats (s.sats.map (fun (p, x) => (p, x.rebase s.now)))).setHpm (s.resetHpm por)
  t.setMsio { t.msio with si := s.msio.si.map (fun (i, x) => (i, { lvl := x.lvl })) }

/-- A cause bit of SYS_RST_CAUSE (R508). -/
def resetCause (cause : Option Nat) (t : State) : State :=
  match cause with | some i => t.raise ⟨aSYS_RST_CAUSE, i, 1⟩ | none => t

/-- A device reset with a cause bit of SYS_RST_CAUSE; `por` clears the sticky registers as well (R507, R508). -/
def deviceReset (cause : Option Nat) (por : Bool) (s : State) : State :=
  let t := resetCause cause (resetSticky por s (resetPins s (resetKept por s)))
  if t.hpm.held || t.hpm.shut then holdIslands t else t

/-- SUPPLY_RESET (R494, R499): a flush of the episode in progress may have been cut. -/
def execSupplyReset (s : State) : Host.Outcome State Fault Refusal :=
  let cut := s.on fHPM_SUP_STAT_epi && decide (s.now < s.hpm.epiStart + 40 * us)
  let (w, s) := s.freeWord
  let s := if cut && w.fld 0 1 = 1 then s.setHpm { s.hpm with flushOps := s.hpm.flushPrev } else s
  done (deviceReset (some 2) false s)

/-- POWER_ON_RESET (R507, R522): the device stays held until the sensors read cold enough. -/
def execPowerOnReset (s : State) : Host.Outcome State Fault Refusal := done (deviceReset none true s)

/-- PIN_RESET (R507). -/
def execPinReset (s : State) : Host.Outcome State Fault Refusal := done (deviceReset (some 3) false s)

/-- A write of SYS_RST_CMD.dev (R509). -/
def softReset1 (r : Req) (key : Nat) (s : State) : State :=
  if key ≠ 0xC3A5 || (r ≠ .sage && !s.allSafe) then s.errSet hSys 17 else deviceReset (some 5) false s

/-- SOFTWARE_RESET (R509). -/
def execSoftwareReset (r : Req) (key : Nat) (s : State) : Host.Outcome State Fault Refusal :=
  cmdAt r aSYS_RST_CMD (softReset1 r key) s

/-- A write of SYS_RST_CMD.apc0 or apc1 (R509). -/
def pairReset1 (i key : Nat) (s : State) : State :=
  if key ≠ 0xC3A5 then s.errSet hSys 17
  else if s.isRun (2 + i) then islandStart (2 + i) .reset (s.raise ⟨aSYS_RST_CAUSE, 7 + i, 1⟩) else s

/-- APC_PAIR_RESET (R509). -/
def execApcPairReset (r : Req) (i : Fin 2) (key : Nat) (s : State) : Host.Outcome State Fault Refusal :=
  cmdAt r aSYS_RST_CMD (pairReset1 i.val key) s

/-- DEBUG_RESET (R507). -/
def execDebugReset (s : State) : Host.Outcome State Fault Refusal :=
  done (if s.on fSYS_DBG_STAT_unlocked then deviceReset (some 6) false s else s)

/-- THERMAL_HOLD (R522): every valid sensor reads below 155 °C, or the hold goes on. -/
def execThermalHold (ts : List Int) (s : State) : Host.Outcome State Fault Refusal :=
  if ts.length ≠ 8 then .fault .malformed
  else done (
    let hot := (List.range 8).any (fun i => s.hpm.invalid / 2 ^ i % 2 == 0 && decide (1550 ≤ ts.getD i 0))
    if s.hpm.held && !s.hpm.shut && !hot then (s.setHpm { s.hpm with held := false }).setWardens [] else s)

/-! Power domains (R500, R501). -/

/-- The domains a power state leaves powered, and those it retains (R502). -/
def stateOn (n : Nat) : Nat := if n < 2 then 0xFFF else if n = 2 then 0x91F else if n = 3 then 0x80F else 0x804
def stateRet (n : Nat) : Nat := if n = 2 || n = 3 then 0xB else 0

/-- A domain is to be powered. -/
def State.wants (s : State) (d : Nat) : Bool :=
  s.on ⟨aHPM_PD_CTRL, d, 1⟩ && stateOn (s.get fHPM_PSTATE_state) / 2 ^ d % 2 == 1

/-- An island is powered down (R501, R46, 16_rosemary_and_selftest.md R552). -/
def islandDown (i : Nat) (s : State) : State :=
  let s := bistDown i s
  if (s.warden i).st = .absent then
    let s := s.putWarden i { s.warden i with purpose := .powerDown, pdown := true }
    powerLost i (if i = 7 then s.lower fNDLH_STAT_pd1 else s)
  else islandStart i .powerDown s

/-- An island is powered up: it is held in reset before it runs (R501). -/
def islandUp (i : Nat) (s : State) : State :=
  let w := s.warden i
  if w.pdown then s.putWarden i { w with purpose := .powerUp, since := s.now, pdown := false } else s

/-- Each domain goes the way that is wanted; during an episode none does (R523). -/
def powerSteps (s : State) : State :=
  if s.on fHPM_SUP_STAT_epi then s
  else
    let s := s.each (List.range 12) (fun d s =>
      if d = 6 then
        -- a sequence that powers PD_NDL0 down takes PD_NDL1 with it at its end (02_islands_and_credits.md R45)
        let w := s.warden 7
        let up := if w.pdown then false else if w.purpose = .powerDown then s.on fNDLH_STAT_pd1 else s.wants 6 && s.wants 5
        s.putB fNDLH_STAT_pd1 up
      else
        s.each (domainIslands d) (fun i s =>
          let w := s.warden i
          if s.wants d then islandUp i s
          else if w.pdown || w.purpose = .powerDown then s else islandDown i s))
    let s := s.put fHPM_PD_STAT_ret (stateRet (s.get fHPM_PSTATE_state) &&& s.get fHPM_PD_CTRL_on)
    let s := s.setBus { s.bus with hrpOff := !s.wants 8 }
    refreshPower s

/-- RETIRE_COMPLETE (R56): a domain that is wanted again by then is powered up. -/
def execRetireComplete (i : Fin 17) (s : State) : Host.Outcome State Fault Refusal :=
  done (if (s.warden i.val).st = .retire then
    let s := retireEnds i.val s
    if (s.warden i.val).pdown then powerSteps s else s
  else s)

/-- A power-down request is refused (R500). -/
def downRefused (d : Nat) (s : State) : Bool × State :=
  let anyLeg := allLegs.any s.legEn
  let anyCtx := !s.liveCtx.isEmpty
  match d with
  | 0 | 2 | 11 => (true, s)
  | 1 =>
    let (ok, s) := pairIdle 1 s
    (!ok, s)
  | 3 => (anyCtx, s)
  | 4 | 5 => (anyLeg, s)
  | 6 => ((List.range 16).any (fun p => s.on (fNDL_CTRL_en (16 + p))), s)
  | 7 => (anyLeg || anyCtx, s)
  | 8 => (!s.canQuiet, s)
  | 9 => (s.pairLink != 0, s)
  | _ => (anyCtx || s.amuMoving != 0, s)

/-- A request is refused (R500). -/
def powerRefused (s : State) : State := (s.errSet hHpm 16).irq hHpm 4

/-- A bit of HPM_PD_CTRL is written (R500). -/
def powerRequest (d : Nat) (on : Bool) (s : State) : State :=
  let f : Fld := ⟨aHPM_PD_CTRL, d, 1⟩
  if s.on f = on then s
  else if on then
    if d = 6 && !s.on ⟨aHPM_PD_STAT, 5, 1⟩ then powerRefused s else powerSteps (s.raise f)
  else
    let (ref, s) := downRefused d s
    if ref then powerRefused s else powerSteps (s.lower f)

/-- POWER_DOWN (R500, R501). -/
def execPowerDown (r : Req) (d : Fin 12) (s : State) : Host.Outcome State Fault Refusal :=
  cmdAt r aHPM_PD_CTRL (powerRequest d.val false) s
/-- POWER_UP (R500, R501). -/
def execPowerUp (r : Req) (d : Fin 12) (s : State) : Host.Outcome State Fault Refusal :=
  cmdAt r aHPM_PD_CTRL (powerRequest d.val true) s

/-- A write of HPM_PD_CTRL: each selected bit is a request; downs are judged before ups. -/
def powerWrite (d : Word) (s : State) : State :=
  let sel := bitsOf 12 (d.fld 16 12)
  let s := s.each (sel.filter (fun i => d.fld i 1 = 0)) (fun i s => powerRequest i false s)
  s.each (sel.filter (fun i => d.fld i 1 = 1)) (fun i s => powerRequest i true s)

end Sys2Proof.Machine
end

