-- ==== Sys2Proof/Machine/Boot.lean ====
section
/-! DEFINITION. Boot, eMRAM programming, JTAG and debug unlock, the PMIC channel
(15_power_clocks_boot_thermal.md R511 to R519, R527). -/
namespace Sys2Proof.Machine

/-! Images (R511). -/

/-- A signed region of eMRAM: its start and size. -/
def slotBase (b : Bool) : Nat := if b then 0x10380000 else 0x10000000
def slotSize : Nat := 3670016
def storeBase : Nat := 0x10780000
def storeSize : Nat := 262144

/-- Header words and byte fields. -/
def State.hw (s : State) (base o : Nat) : Nat := (s.mem32 (base + o)).toNat
def State.hKey (s : State) (base : Nat) : List Byte := s.memRead (base + 0x140) 64
def State.hLen (s : State) (base : Nat) : Nat := s.hw base 0xC

/-- A header is valid and its key is known and not revoked (R512 step 2). -/
def State.candidate (s : State) (base size : Nat) : Bool :=
  s.hw base 0 == 0x314E524D && s.hw base 4 == 1 && decide (512 ≤ s.hLen base) && decide (s.hLen base ≤ size)
    && decide (s.hw base 0x14 ≤ 3) && !Config.keyRevoked (s.hw base 0x14)
    && Config.sha256 (s.hKey base) == Config.keyDigest (s.hw base 0x14)
    && decide ((s.rd aSYS_MIN_VER).toNat ≤ s.hw base 8)

/-- The digest of an image: its signature bytes count as 0 (R511). -/
def State.digest (s : State) (base : Nat) : List Byte :=
  Config.sha256 (s.memRead base 0x100 ++ List.replicate 64 0 ++ s.memRead (base + 0x140) (s.hLen base - 0x140))

/-- The signature verifies (R512 step 3). -/
def State.verifies (s : State) (base : Nat) : Bool :=
  Config.ecdsaOk (s.memRead (base + 0x100) 64) (s.hKey base) (s.digest base)

/-- A section is copied to its destination where that lies in the region (R512 step 6). -/
def copySection (base lo hi : Nat) (o : Nat) (s : State) : State :=
  let src := base + s.hw base (o + 4)
  let n := s.hw base (o + 8)
  let dst := s.hw base (o + 12)
  if lo ≤ dst && dst + n ≤ hi then s.memBytes dst (s.memRead src n) else s

/-- The sections of an accepted image: data to APC SRAM, the kernel store to Basil RAM; Sage's SRAM has no address here. -/
def copySections (base : Nat) (s : State) : State :=
  s.each (List.range 8) (fun i s =>
    let o := 0x20 + 16 * i
    let ty := s.hw base o
    if ty = 2 then copySection base 0x20000000 0x20400000 o s
    else if ty = 4 then copySection base 0x30040000 0x30060000 o s
    else s)

/-- The kernel store is loaded (R512 step 6). -/
def ksLoaded (s : State) : State :=
  let s := s.put fENG_KS_STAT_ver (Config.ksVersion (s.memRead 0x30040000 0x20000) % 65536)
  (s.put fENG_KS_STAT_state 0).raise ⟨aENG_STAT, 8, 1⟩

/-- The islands the configuration store leaves unpowered have gone through the power-down sequence (R60). -/
def storePower (off : Nat) (s : State) : State :=
  s.each (bitsOf 12 (off &&& 0x7FA)) (fun d s =>
    let s := s.lower ⟨aHPM_PD_CTRL, d, 1⟩
    -- no HRP transaction runs yet, so the front end goes with PD_COMM (02_islands_and_credits.md R46)
    let s := s.when (d == 8) (fun s => s.setBus { s.bus with hrpOff := true })
    if d = 6 then refreshPower (s.lower fNDLH_STAT_pd1)
    else s.each (domainIslands d) (fun i s =>
      if s.isRun i then retireEnds i (retireBegins i (wardenStart i .powerDown s)) else s))

/-- The Sage cores are released (R512 step 7). -/
def sageStarts (s : State) : State :=
  (s.setSage { s.sage with running := true }).putWdg 0 { last := s.now, wmin := 0, wmax := s.get fSAGE_WDG_CFG_wmax }

/-- Steps 5 to 9 of R512 for an accepted slot; `warm` leaves Sage running (R515). -/
def bootRun (b warm : Bool) (t : Nat) (s : State) : State :=
  let base := slotBase b
  let good := s.candidate storeBase storeSize && s.verifies storeBase
  let store := s.memRead storeBase (s.hLen storeBase)
  let s := s.putB fSYS_BOOT_STAT_cfg_bad (!good)
  let s := ksLoaded (copySections base s)
  let s := if warm then s else sageStarts s
  let s := if good then storePower (Config.storeOff store) s else s
  let h : Word × Word × Word := Config.storeHrp store
  let s := if good then
      ((s.put fHRP_CFG_hrp_en (h.1.fld 0 1)).wr aHRP_WR_EN_LO (h.2.1 &&& 0x7FFF)).wr aHRP_WR_EN_HI (h.2.2 &&& 1)
    else s.lower fHRP_CFG_hrp_en
  let s := (s.wr aSYS_IMG_VER (BitVec.ofNat 32 (s.hw base 8))).put fSYS_BOOT_STAT_slot (if b then 1 else 0)
  let s := (s.put fSYS_BOOT_STAT_state 1).wr aSYS_BOOT_TIME (BitVec.ofNat 32 t)
  s.each [0, 1] (fun i s => if s.isRun (2 + i) then s.putApc i { s.apcPair i with running := true } else s)

/-- The clocks run when the boot ROM starts (R513). -/
def clocksRun (s : State) : State :=
  (((s.raise fHPM_CLK_STAT_xin_ok).raise fHPM_CLK_STAT_pll_lock).raise fHPM_CLK_STAT_lane_lock).lower fHPM_CLK_STAT_rc

/-- No candidate verifies (R514). -/
def recovery (s : State) : State :=
  ((s.put fSYS_BOOT_STAT_state 2).raise fHRP_CFG_hrp_en).wr aHRP_WR_EN_LO 1

/-- A slot is tried (R512 steps 3 and 4). -/
def trySlot (b : Bool) (s : State) : Bool × State :=
  if s.verifies (slotBase b) then (true, s)
  else (false, if b then s.raise fSYS_BOOT_STAT_b_fail else s.raise fSYS_BOOT_STAT_a_fail)

/-- The slots to try, the first first (R512 steps 2 and 3). -/
def State.bootOrder (s : State) : List Bool :=
  let c := [false, true].filter (fun b => s.candidate (slotBase b) slotSize)
  if s.hw (slotBase false) 8 < s.hw (slotBase true) 8 then c.reverse else c

/-- The first slot of a list that verifies runs, else RECOVERY. -/
def bootSlots (t : Nat) : List Bool → State → State
  | [], s => recovery s
  | b :: l, s =>
    let (ok, s) := trySlot b s
    if ok then bootRun b false t (s.setHpm { s.hpm with digest := s.digest (slotBase b) }) else bootSlots t l s

/-- A first boot after power-on counts the power cycle (R499), and reports and clears a shutdown marker (R522). -/
def bootCounts (s : State) : State :=
  let h := s.hpm
  let s := if h.cold then
      (s.setHpm { h with cold := false, flushPcyc := (h.flushPcyc + 1) % 2 ^ 32 }).wr aSYS_PCYC (BitVec.ofNat 32 (h.flushPcyc + 1))
    else s
  if h.marker then
    ((s.setHpm { s.hpm with marker := false }).raise fSYS_BOOT_STAT_therm_prev).record 0x0A .hpm []
  else s

/-- Step 1 of R512: what the identity area gives (log entry 45). The grade of SYS_ID reads 0x1 until then (DESIGN CHOICE, log entry
45); min_ver is the factory's or what R517 has raised it to. -/
def loadIdentity (s : State) : State :=
  (s.put ⟨aSYS_ID, 4, 4⟩ (if Config.partIn then 2 else 1)).when (decide ((s.rd aSYS_MIN_VER).toNat < Config.minVer.toNat))
    (fun s => s.wr aSYS_MIN_VER Config.minVer)

/-- BOOT (R512 to R514). -/
def execBoot (t : Nat) (s : State) : Host.Outcome State Fault Refusal :=
  done (if s.get fSYS_BOOT_STAT_state ≠ 0 || s.hpm.held || s.hpm.shut then s
    else
      let s := loadIdentity (bootCounts (clocksRun s))
      bootSlots t s.bootOrder s)

/-- The warm boot out of DEEP (R515). -/
def warmBoot (s : State) : State :=
  let b := s.on fSYS_BOOT_STAT_slot
  if s.candidate (slotBase b) slotSize && s.digest (slotBase b) == s.hpm.digest then
    (bootRun b true (s.rd aSYS_BOOT_TIME).toNat s).raise fSYS_BOOT_STAT_warm
  else deviceReset (some 5) false s

/-! eMRAM programming (R516, R517). -/

/-- May a row be programmed at an offset in eMRAM? -/
def State.rowOk (s : State) (o : Nat) : Bool :=
  let st := s.get fSYS_BOOT_STAT_state
  if o < 0x380000 then st != 1 || s.on fSYS_BOOT_STAT_slot
  else if o < 0x700000 then st != 1 || !s.on fSYS_BOOT_STAT_slot
  else decide (0x780000 ≤ o) && decide (o < 0x7C0000)

/-- A command of SYS_MP_CMD is refused (R516). -/
def mpRefuse (s : State) : State := (s.raise fSYS_MP_STAT_err).errSet hSys 18

/-- A command of SYS_MP_CMD is accepted; an episode holds it (R495, R516). -/
def mpAccept (o : MpOp) (s : State) : State :=
  let s := (s.lower fSYS_MP_STAT_err).raise fSYS_MP_STAT_busy
  (s.putB fSYS_MP_STAT_susp (s.on fHPM_SUP_STAT_epi)).setHpm { s.hpm with mp := some o }

/-- A write of SYS_MP_CMD (R516, R517). -/
def mpCmd (key op : Nat) (s : State) : State :=
  let o := s.get fSYS_MP_ADDR_row * 32
  if key ≠ 0x3C96 || s.hpm.mp.isSome then mpRefuse s
  else if op = 1 then
    if s.rowOk o then mpAccept (.row o ((List.range 8).map (fun w => s.rd (aSYS_MP_DATA w)))) s else mpRefuse s
  else if op = 3 then mpAccept (.minVer (s.rd aSYS_IMG_VER)) s
  else mpRefuse s

/-- PROGRAM_ROW (R516). -/
def execProgramRow (r : Req) (key : Nat) (s : State) : Host.Outcome State Fault Refusal := cmdAt r aSYS_MP_CMD (mpCmd key 1) s
/-- RAISE_MIN_VER (R517). -/
def execRaiseMinVer (r : Req) (key : Nat) (s : State) : Host.Outcome State Fault Refusal := cmdAt r aSYS_MP_CMD (mpCmd key 3) s

/-- The command on the write port completes (R516). -/
def rowComplete (s : State) : State :=
  if s.on fSYS_MP_STAT_susp then s
  else match s.hpm.mp with
    | none => s
    | some o =>
      let s := match o with
        | .row a ws => (s.memPutWords (0x10000000 + a) ws).incr fSYS_MP_STAT_rows
        | .minVer v => if (s.rd aSYS_MIN_VER).toNat < v.toNat then s.wr aSYS_MIN_VER v else s
      ((s.setHpm { s.hpm with mp := none }).lower fSYS_MP_STAT_busy).irq hSys 5

/-- ROW_COMPLETE (R516). -/
def execRowComplete (s : State) : Host.Outcome State Fault Refusal := done (rowComplete s)

/-! JTAG and debug unlock (R518, R519). -/

/-- A JTAG instruction is in force, and its data register shifts out bytes. -/
def jtag (i : JtagIr) (out : List Byte) (s : State) : State := s.setHpm { s.hpm with jtag := i, jtagOut := out }

/-- IDCODE (R518). -/
def execIdcode (s : State) : Host.Outcome State Fault Refusal := done (jtag .idcode (wordBytes 0xC2560725) s)
/-- BYPASS (R518). -/
def execBypass (s : State) : Host.Outcome State Fault Refusal := done (jtag .bypass [0] s)
/-- SAMPLE_PRELOAD (R518): the boundary's content is a free value (log entry 36). -/
def execSamplePreload (s : State) : Host.Outcome State Fault Refusal :=
  let (w, s) := s.freeWord
  done (jtag .sample (wordBytes w) s)
/-- EXTEST (R518): refused without an unlocked session, or outside the safe states. -/
def execExtest (s : State) : Host.Outcome State Fault Refusal :=
  done (if s.on fSYS_DBG_STAT_unlocked && s.allSafe then jtag .extest [] s else s)

/-- DBG_CHAL (R519): a challenge drawn anew is a free value. -/
def execDbgChal (s : State) : Host.Outcome State Fault Refusal :=
  let c := (List.range 8).flatMap (fun i => wordBytes (Config.freeWord (s.free + i)))
  let s := s.setFree (s.free + 8)
  done (jtag .chal c (s.setHpm { s.hpm with chal := some c }))

/-- The response opens a session (R519): the strap, the key digest and the signature. -/
def State.unlocks (s : State) (bs : List Byte) : Bool :=
  let key := bs.drop 64
  match s.hpm.chal with
  | none => false
  | some c =>
    s.on fSYS_DBG_STAT_allow && Config.sha256 key == Config.debugDigest
      && Config.ecdsaOk (bs.take 64) key (Config.sha256 (c ++ wordBytes (s.rd aSYS_ID) ++ Config.serial))

/-- DBG_RESP (R519): after three failures every attempt is refused. -/
def execDbgResp (bs : List (BitVec 8)) (s : State) : Host.Outcome State Fault Refusal :=
  if bs.length ≠ 128 then .fault .malformed
  else done (
    let ok := s.unlocks bs
    let s := jtag .resp [] s
    if s.get fSYS_DBG_STAT_fails = 3 then s
    else
      let s := (s.setHpm { s.hpm with chal := none }).irq hSys 4
      if ok then
        let s := s.raise fSYS_DBG_STAT_unlocked
        let s := s.each [0, 1] (fun i s => s.raise (fAPC_LS_STAT_dbg_allow i))
        s.record 0x0B .sys (wordBytes (s.rd aSYS_DBG_STAT))
      else (s.incrSat fSYS_DBG_STAT_fails).errSet hSys 16)

/-! The PMIC channel (R527). -/

/-- A write of HPM_I2C_CMD (R527): a go while busy is ignored. -/
def i2cCmd (d : Word) (s : State) : State :=
  if d.fld 31 1 = 0 || s.hpm.i2c.isSome then s
  else (s.setHpm { s.hpm with i2c := some (d.fld 30 1 == 1, d.fld 16 7, d.fld 8 8, d.fld 0 8) }).raise fHPM_I2C_STAT_busy

/-- I2C_TRANSFER (R527). -/
def execI2cTransfer (r : Req) (d : BitVec 32) (s : State) : Host.Outcome State Fault Refusal := cmdAt r aHPM_I2C_CMD (i2cCmd d) s

/-- I2C_DONE (R527). -/
def execI2cDone (nak : Bool) (d : Fin 256) (s : State) : Host.Outcome State Fault Refusal :=
  done (match s.hpm.i2c with
    | none => s
    | some (rd, _, _, _) =>
      let s := ((s.setHpm { s.hpm with i2c := none }).lower fHPM_I2C_STAT_busy).putB fHPM_I2C_STAT_nak nak
      let s := if rd && !nak then s.put fHPM_I2C_STAT_data d.val else s
      let s := if nak then s.errSet hHpm 18 else s
      s.irq hHpm 7)

end Sys2Proof.Machine
end

