-- ==== Sys2Proof/Machine/Power.lean ====
section
/-! DEFINITION. Brown-out episodes, thermal levels, power states, wake events and clocks
(15_power_clocks_boot_thermal.md R493 to R506, R520 to R523). -/
namespace Sys2Proof.Machine

/-! Power states (R502 to R504). -/

/-- Exit latencies in µs. -/
def exitUs : List Nat := [0, 1, 40, 900, 15000]

/-- The deepest state whose entry conditions hold, with those of all shallower ones. `awake` names a pair that just executed an
instruction (R502). -/
def State.reachable (s : State) (idle : Bool) : Nat :=
  let c2 := !allLegs.any s.legEn && (List.range 32).all (fun g => !s.tbgRun g)
    && s.liveCtx.all (fun k => (s.ctx k).st != .run) && s.pairLink == 0 && s.amuMoving == 0
  if !idle then 0 else if !c2 then 1 else if !s.canQuiet then 2 else if !s.liveCtx.isEmpty then 3 else 4

/-- Both pairs are halted or in WFI; a pair that just executed is not. -/
def pairsIdle (awake : Option Req) (s : State) : Bool × State :=
  let (a, s) := if awake = some .apc0 then (false, s) else pairIdle 0 s
  let (b, s) := if awake = some .apc1 then (false, s) else pairIdle 1 s
  (a && b, s)

/-- APC core clocks stop below RUN (R502); an episode or THROTTLE keeps APC1 gated (R523). -/
def apcClocks (stop : Bool) (s : State) : State :=
  (s.putWarden 2 { s.warden 2 with gated := stop }).putWarden 3 { s.warden 3 with gated := stop || s.bistGated }

/-- The HPM moves into a state (R503). Leaving a state sets the wake source of HPM_IRQ_RAW; leaving DEEP runs the warm boot. -/
def moveTo (n : Nat) (s : State) : State :=
  let o := s.get fHPM_PSTATE_state
  if o = n then s
  else
    let s := s.put fHPM_PSTATE_state n
    let s := if n < o then s.irq hHpm 6 else s
    let s := if o = 0 then s.setHpm { s.hpm with entryAt := s.now } else s
    let s := if n = 0 || o = 0 then apcClocks (n != 0) s else s
    -- the main PLL and the lane PLLs stop in NAP and below
    let s := if 3 ≤ n then (s.lower fHPM_CLK_STAT_pll_lock).lower fHPM_CLK_STAT_lane_lock
      else if 3 ≤ o then (s.raise fHPM_CLK_STAT_pll_lock).raise fHPM_CLK_STAT_lane_lock else s
    let s := powerSteps s
    if o = 4 then powerSteps (warmBoot s) else s

/-- The deepest state whose latency is tolerated and whose conditions hold (R503); during an episode no step is taken (R523). -/
def powerSelect (awake : Option Req) (s : State) : State :=
  if s.on fHPM_SUP_STAT_epi then s
  else
    let (idle, s) := pairsIdle awake s
    let r := s.reachable idle
    let ltr := s.get fHPM_LTR_ltr
    let n := ((List.range 5).filter (fun i => i ≤ r && exitUs.getD i 0 ≤ ltr)).foldl max 0
    moveTo n (s.put fHPM_PSTATE_reach r)

/-- A write of HPM_LTR (R503). -/
def ltrWrite (r : Req) (d : Word) (s : State) : State := powerSelect (some r) (storeAt aHPM_LTR aHPM_LTR d s)

/-- LTR_WRITE (R503). -/
def execLtrWrite (r : Req) (ltr : BitVec 32) (s : State) : Host.Outcome State Fault Refusal := cmdAt r aHPM_LTR (ltrWrite r ltr) s

/-- POWER_STATE_SELECT (R503). -/
def execPowerStateSelect (s : State) : Host.Outcome State Fault Refusal := done (powerSelect none s)

/-- A wake event ends a state below RUN (R504). -/
def wake (src : Nat) (s : State) : State :=
  let o := s.get fHPM_PSTATE_state
  let on := s.get fHPM_WAKE_EN_en / 2 ^ src % 2 == 1
  let held := match src with
    | 6 => (List.range 4).any (fun i => s.line (196 + i))
    | 7 => (o == 1 || o == 2) && (List.range 256).any (fun n => s.bitAt (aAPC_P0_IE 0) n && s.line n)
    | _ => true
  if o = 0 || !on || !held then s else moveTo 0 (s.put fHPM_PSTATE_wsrc src)

/-- WAKE (R504). -/
def execWake (src : Fin 8) (s : State) : Host.Outcome State Fault Refusal := done (wake src.val s)

/-- WAKE_TIMER (R504): HPM_WAKE_TMR has elapsed since the state was entered. -/
def execWakeTimer (s : State) : Host.Outcome State Fault Refusal :=
  let t := s.get fHPM_WAKE_TMR_t
  done (if t = 0 || s.get fHPM_PSTATE_state = 0 then s else wake 5 (s.reach (s.hpm.entryAt + t * us)))

/-! Episodes (R494 to R499). -/

/-- The islands an episode and THROTTLE gate (R495, R521). -/
def epiGated : List Nat := [3, 11, 15]
def throttleGated : List Nat := [3, 15]

/-- Clock gates close or open; below RUN that of APC1 stays closed (R502). -/
def gate (c : Bool) (l : List Nat) (s : State) : State :=
  s.each l (fun i s => s.putWarden i { s.warden i with gated := c || (i == 3 && s.get fHPM_PSTATE_state != 0) })

/-- The operating seconds and the power-cycle count go to the flush slot (R495). -/
def flush (s : State) : State := s.setHpm { s.hpm with flushOps := s.opsec.toNat, flushPrev := s.hpm.flushOps, persistAt := s.now }

/-- The episodes started in the last 10 s (R498). -/
def State.recent (s : State) : List Int := s.hpm.starts.filter (fun t => decide ((s.now : Int) - t ≤ 10000 * ms))

/-- A rail, or PWRFAIL_N (rail 6), shows its warning (R494). -/
def railWarn (rail mv : Nat) (s : State) : State :=
  if rail = 6 then s.raise fHPM_SUP_STAT_pwrfail
  else (s.raise ⟨aHPM_SUP_STAT, 8 + rail, 1⟩).put (fHPM_RAIL_V_mv rail) (min mv 65535)

/-- An episode starts (R495, R498), or goes on (R523). -/
def episodeStart (rail mv : Nat) (s : State) : State :=
  let s := railWarn rail mv s
  if s.on fHPM_SUP_STAT_epi then
    if rail = s.hpm.epiRail then s.setHpm { s.hpm with epiMin := min s.hpm.epiMin mv } else s
  else
    let s := (s.raise fHPM_SUP_STAT_epi).irq hHpm 8
    let s := s.setHpm { s.hpm with epiStart := s.now, epiRail := rail, epiMin := if rail = 6 then 0 else mv }
    let s := gate true epiGated (bistAbort (amuBrown s))
    let s := (flush s).raise fREC_RSTAT_susp
    let s := s.setHpm { s.hpm with starts := s.recent ++ [(s.now : Int)] }
    let s := s.incr fHPM_SUP_EPI_cnt
    if 8 ≤ s.recent.length && !s.on fHPM_SUP_STAT_unstable then (s.raise fHPM_SUP_STAT_unstable).sageEvt 36 .none else s

/-- EPISODE_START. -/
def execEpisodeStart (rail : Fin 7) (mv : Nat) (s : State) : Host.Outcome State Fault Refusal := done (episodeStart rail.val mv s)

/-- An episode ends after 100 µs of recovered rails (R497). -/
def episodeEnd (s : State) : State :=
  if !s.on fHPM_SUP_STAT_epi then s
  else
    let s := s.reach (s.hpm.epiStart + 100 * us)
    let h := s.hpm
    let dur := (s.now - 100 * us - h.epiStart) / us
    let s := (((s.lower fHPM_SUP_STAT_epi).put fHPM_SUP_STAT_warn 0).lower fHPM_SUP_STAT_pwrfail).irq hHpm 9
    let s := ((s.put fHPM_SUP_LAST_dur (min dur 65535)).put fHPM_SUP_LAST_rail h.epiRail).put fHPM_SUP_LAST_vmin (min h.epiMin 8191)
    let thr := s.get fHPM_THERM_STAT_state == 2
    let s := gate false (if thr then [11] else epiGated) (amuBrownEnd s)
    -- records that waited through the suspension are late (16_rosemary_and_selftest.md R538)
    let s := s.setRosem { s.rosem with queue := s.rosem.queue.map (fun i => { i with late := true }) }
    let s := (s.lower fREC_RSTAT_susp).lower fSYS_MP_STAT_susp
    let s := s.record 0x08 .hpm ([BitVec.ofNat 8 h.epiRail, 0] ++ natBytes 2 h.epiMin ++ natBytes 4 dur)
    powerSelect none (powerSteps s)

/-- EPISODE_END. -/
def execEpisodeEnd (s : State) : Host.Outcome State Fault Refusal := done (episodeEnd s)

/-- A write of 1 to HPM_SUP_STAT.unstable (R498). -/
def unstableClear (s : State) : State :=
  if 8 ≤ s.recent.length then s else s.lower fHPM_SUP_STAT_unstable

/-- UNSTABLE_CLEAR (R498). -/
def execUnstableClear (r : Req) (s : State) : Host.Outcome State Fault Refusal := cmdAt r aHPM_SUP_STAT unstableClear s

/-- OPSEC_PERSIST (R499): every 60 s; an episode suspends the write. -/
def execOpsecPersist (s : State) : Host.Outcome State Fault Refusal :=
  let s := s.reach (s.hpm.persistAt + 60000 * ms)
  done (if s.on fHPM_SUP_STAT_epi then s else flush s)

/-! Clocks (R506). -/

/-- A clock is lost. -/
def clockLost (s : State) : State :=
  let s := ((s.errSet hHpm 17).irq hHpm 5).incrSat fHPM_CLK_STAT_unlock_cnt
  if s.hpm.clkLost.isSome then s else s.setHpm { s.hpm with clkLost := some s.now }

/-- XIN_LOSS (R506). -/
def execXinLoss (s : State) : Host.Outcome State Fault Refusal :=
  done (if s.on fHPM_CLK_STAT_rc then s else clockLost ((s.lower fHPM_CLK_STAT_xin_ok).raise fHPM_CLK_STAT_rc))

/-- PLL_UNLOCK (R506). -/
def execPllUnlock (s : State) : Host.Outcome State Fault Refusal :=
  done (if s.on fHPM_CLK_STAT_pll_lock then clockLost (s.lower fHPM_CLK_STAT_pll_lock) else s)

/-- CLOCK_RETURN (R506): XIN, or, with XIN running, the lock of the main PLL. -/
def execClockReturn (s : State) : Host.Outcome State Fault Refusal :=
  done (if s.hpm.clkLost.isNone then s
    else
      let s := if !s.on fHPM_CLK_STAT_xin_ok then (s.raise fHPM_CLK_STAT_xin_ok).lower fHPM_CLK_STAT_rc
        else s.raise fHPM_CLK_STAT_pll_lock
      if s.on fHPM_CLK_STAT_xin_ok && s.on fHPM_CLK_STAT_pll_lock then s.setHpm { s.hpm with clkLost := none } else s)

/-- CLOCK_RESET (R506). -/
def execClockReset (s : State) : Host.Outcome State Fault Refusal :=
  done (match s.hpm.clkLost with
    | some t => deviceReset (some 4) false (s.reach (t + 100 * us))
    | none => s)

/-! Thermal levels (R520, R521). -/

/-- A list of integers in rising order. -/
def insInt (x : Int) : List Int → List Int
  | [] => [x]
  | y :: l => if x ≤ y then x :: y :: l else y :: insInt x l

/-- Twice the median of eight readings: the sum of the middle two (log entry 36). -/
def median2 (ts : List Int) : Int :=
  let l := ts.foldl (fun l x => insInt x l) []
  l.getD 3 0 + l.getD 4 0

/-- One round of the validity rules of a sensor (R520). -/
def sensor (m2 : Int) (i : Nat) (t : Int) (h : Hpm) : Hpm :=
  let d := (2 * t - m2).natAbs
  let b := if 300 < d then min 3 (h.bad.getD i 0 + 1) else 0
  let g := if d ≤ 200 then min 3 (h.good.getD i 0 + 1) else 0
  let inv := h.invalid / 2 ^ i % 2 == 1
  { h with bad := setAt h.bad i b, good := setAt h.good i g,
           invalid := withBit h.invalid i (if inv then decide (g < 3) else decide (3 ≤ b)) }

/-- The thermal level that follows from the highest valid reading (R520, R521). -/
def thermNext (st : Nat) (tmax : Int) (few : Bool) : Nat :=
  if few || 1500 ≤ tmax then 2
  else if st = 2 then (if tmax ≤ 1440 then 1 else 2)
  else if 1400 ≤ tmax then 1
  else if st = 1 && 1340 < tmax then 1 else 0

/-- A level is entered (R521). -/
def thermEnter (n : Nat) (tmax : Int) (i : Nat) (s : State) : State :=
  let s := (s.irq hHpm 10).sageEvt 37 .none
  let s := s.record 0x09 .hpm ([BitVec.ofNat 8 n, 0] ++ natBytes 2 (lowBits 16 tmax) ++ [BitVec.ofNat 8 i])
  if n = 2 then gate true throttleGated (bistAbort s) else s

/-- A thermal shutdown (R521, R523): the flush with its marker, and a reset held until the next power-on. -/
def thermShut (s : State) : State :=
  let s := if s.on fHPM_SUP_STAT_epi then s else flush s
  deviceReset none false (s.setHpm { s.hpm with marker := true, shut := true })

/-- The hottest of the sensors listed. -/
def hottest (ts : List Int) (ok : List Nat) : Option Nat :=
  ok.foldl (fun (b : Option Nat) i => match b with
    | none => some i
    | some j => if ts.getD j 0 < ts.getD i 0 then some i else some j) none

/-- The sensors' registers after a reading (R520). -/
def sensorRegs (ts : List Int) (ok : List Nat) (tmax : Int) (s : State) : State :=
  let s := s.each (List.range 8) (fun i s =>
    (s.put (fHPM_TEMP_t i) (lowBits 16 (ts.getD i 0))).putB (fHPM_TEMP_valid i) (ok.contains i))
  (s.put fHPM_THERM_STAT_max (lowBits 16 tmax)).put fHPM_THERM_STAT_valid (255 - s.hpm.invalid)

/-- The thermal state after a reading (R521). -/
def thermalStep (tmax : Int) (hot : Nat) (few : Bool) (s : State) : State :=
  let st := s.get fHPM_THERM_STAT_state
  let n := thermNext st tmax few
  let s := s.put fHPM_THERM_STAT_state n
  if st < n then thermEnter n tmax hot s
  else if st = 2 && n < 2 && !s.on fHPM_SUP_STAT_epi then gate false throttleGated s else s

/-- The sensors are read (R520, R521). -/
def thermalRead (ts : List Int) (s : State) : State :=
  let h := (List.range 8).foldl (fun h i => sensor (median2 ts) i (ts.getD i 0) h) s.hpm
  let ok := (List.range 8).filter (fun i => h.invalid / 2 ^ i % 2 == 0)
  let hot := hottest ts ok
  let tmax := match hot with | some i => ts.getD i 0 | none => 0
  let s := sensorRegs ts ok tmax (s.setHpm h)
  if hot.isSome && 1650 ≤ tmax then thermShut s
  else thermalStep tmax (hot.getD 0) (decide (ok.length < 4)) s

/-- THERMAL_READ (R520, R521). -/
def execThermalRead (ts : List Int) (s : State) : Host.Outcome State Fault Refusal :=
  if ts.length ≠ 8 then .fault .malformed
  else done (if s.hpm.held || s.hpm.shut then s else thermalRead ts s)

end Sys2Proof.Machine
end

