-- ==== Sys2Proof/Machine/Boundary.lean ====
section
/-! DEFINITION. Commits and boundaries of blocks, and of timebase groups (01_register_pages.md R20 to R25, R585; the boundary rules of
the chapters: R109, R192, R231, R315, R354, R388, R413, R442, R464, R469, R490, R553, R556). -/
namespace Sys2Proof.Machine

/-- The registers a block's own boundary and COMMIT move: LEG and TBG pages and context windows have their own (R109, R231). -/
def ownReg (b : Block) (k : Nat) : Bool :=
  blockAt k == some b && k < 2 ^ 32 && (tbgAt k).isNone && (legAt k).isNone && !(0x40051000 ≤ k && k < 0x40052000)

/-- What the commit of a block's shadows brings with it; `o` is the state before they applied. -/
def commitHook (b : Block) (o s : State) : State :=
  let put := (o.cmt.filter (fun x => ownReg b x.1)).map (·.1)
  match b with
  | .thy => newlyRouted o (membersChanged s)
  | .ndl =>
    let s := if put.any (fun a => (List.range 32).any (fun p => a == aNDL_LEAD p)) then refreshLoads s else s
    s.each (List.range 32) (fun p s => portFrame p put s)
  | .giu => giuConfig o s
  | .adc u => adcConfig u.val o s
  | .fbi => fbiConfig o s
  | .amu => amuConfig o s
  | .msio => msioConfig o s
  | .pair => pairConfig o s
  | .sage =>
    -- torque-monitor channels with new settings start anew (R343); liveness counts from a new limit (R344)
    let s := s.each (List.range 32) (fun m s => if put.any (fun a => 0x400F2000 + 0x80 * m ≤ a && a < 0x400F2080 + 0x80 * m) then tmRestart m (o.on (fSAGE_TM_CFG_en m)) s else s)
    s.each allCtx (fun k s =>
      if o.livLimit k = s.livLimit k then s
      else s.setLivs (Tab.ins s.livs k { Tab.get ({} : Liv) s.livs k with at_ := s.now }))
  | _ => s

/-- Every CMT shadow of a block applies with a generation (R21). -/
def commitApply (b : Block) (gen : Nat) (s : State) : State :=
  let h := hdr b
  let o := s
  let s := if b = .amu then amuBefore s else s
  let s := applyCmt (ownReg b) s
  let s := ((s.put (hGenApplied h) gen).lower (hCmtPend h)).irq h 1
  commitHook b o s

/-- Why a commit is refused besides R22 (R89, R361, R371, R382, R407): the error bit it sets. -/
def commitRefusal (b : Block) (s : State) : Option Nat :=
  match b with
  | .ndl =>
    let lead (p : Nat) : Nat := (s.cmtVal (aNDL_LEAD p)).fld 0 14
    if (List.range 32).any (fun p => lead p != s.get (fNDL_LEAD_lead p)) && !s.planOk { s.plan with lead := lead } then some 19
    else
      let t := applyCmt (ownReg b) s
      if s.pairLink = 3 && s.pairedPorts.any (fun p => (Tab.find s.cmt (aNDL_TIMING p)).isSome) && !t.tkoTiming then some 3
      else none
  | .pair => pairRefusal s (applyCmt (ownReg b) s)
  | .msio => if s.smClash then some 17 else none
  | _ => none

/-- A commit is refused with an error bit: bit 3 reaches Sage as cmt_gen; a refused lead time sets ENG_ERR.adm_ref too. -/
def commitRefused (b : Block) (i : Nat) (s : State) : State :=
  if i = 3 then cmtRefused b s
  else
    let s := (s.errSet (hdr b) i).irq (hdr b) 2
    if b = .ndl then s.errSet 0x40050000 19 else s

/-- A COMMIT with go = 1 (R21, R22, R585): pending for the next boundary, or applied at once without a boundary source. -/
def commitGo (b : Block) (gen : Nat) (s : State) : State :=
  let h := hdr b
  if !capCmt b then s
  else if s.on (hCmtPend h) || gen ≠ (s.get (hGenApplied h) + 1) % 256 then cmtRefused b s
  else match commitRefusal b s with
    | some i => commitRefused b i s
    | none =>
      let s := s.put (hGenPending h) gen
      if s.on (hCtrl h 0) then s.raise (hCmtPend h) else commitApply b gen s

/-- A COMMIT with abort = 1 (R23). -/
def commitAbort (b : Block) (s : State) : State :=
  if !capCmt b then s else dropCmt (ownReg b) (s.lower (hCmtPend (hdr b)))

/-- A word written to COMMIT (R21 to R23). -/
def commitWrite (b : Block) (d : Word) (s : State) : State :=
  let go := d.fld 8 1 = 1
  let ab := d.fld 9 1 = 1
  if !capCmt b then s
  else if go && ab then cmtRefused b s
  else if go then commitGo b (d.fld 0 8) s
  else if ab then commitAbort b s else s

/-- The period of a block's boundary in fine ticks: the frames, the GIU frame, the housekeeping round; 0 where the spec gives the
block no boundary. -/
def framePeriod : Block → Nat
  | .sys | .hpm => ms
  | .giu => 1280000
  | .fab | .apc | .hrp | .can _ => 0
  | _ => frame10

/-- What a frame of a block checks and counts (R193, R301, R427, R537). -/
def frameHook (b : Block) (s : State) : State :=
  match b with
  | .ndl => profDone (s.incr fNDL_FRAME_CNT_cnt)
  | .giu => giuFrame s
  | .adc u => adcFrame u.val s
  | .recorder => recFrame s
  | _ => s

/-- Has the block frames now? -/
def State.framed (s : State) (b : Block) : Bool := framePeriod b != 0 && s.on (hCtrl (hdr b) 0) && s.isRun (blockIsland b)

/-- The frame of a block at a time (R20, R21). -/
def frameHit (b : Block) (t : Nat) (s : State) : State :=
  let h := hdr b
  let s := (s.reach t).setFrames (Tab.set 0 s.frames h t)
  let s := applyBnd (ownReg b) s
  let s := if s.on (hCmtPend h) then commitApply b (s.get (hGenPending h)) s else s
  frameHook b s

/-- A boundary of a block (R20, R21). -/
def blockBoundary (b : Block) (s : State) : State :=
  match b with
  | .can c => canBoundary c.val s
  | b => if s.framed b then frameHit b (nextFrame (framePeriod b) (Tab.get 0 s.frames (hdr b)) s.now) s else s

/-- The frame of a block that lies in the present tick and has not been processed (R24). -/
def State.frameDue (s : State) (b : Block) : Option Nat :=
  let t := nextFrame (framePeriod b) (Tab.get 0 s.frames (hdr b)) (s.now / 32 * 32)
  if s.framed b && t ≤ s.now then some t else none

/-- What a write or a COMMIT in the tick of a boundary meets: the boundary comes first (R24). -/
def frameFirst (b : Block) (s : State) : State := match s.frameDue b with | some t => frameHit b t s | none => s

/-- COMMIT (R21, R22). -/
def execCommit (r : Req) (b : Block) (gen : Fin 256) (s : State) : Host.Outcome State Fault Refusal :=
  cmdAt r (hdr b + 0x20) (fun s => commitGo b gen.val (frameFirst b s)) s
/-- COMMIT_ABORT (R23). -/
def execCommitAbort (r : Req) (b : Block) (s : State) : Host.Outcome State Fault Refusal :=
  cmdAt r (hdr b + 0x20) (fun s => commitAbort b (frameFirst b s)) s

/-- BLOCK_BOUNDARY. -/
def execBlockBoundary (b : Block) (s : State) : Host.Outcome State Fault Refusal := done (blockBoundary b s)

/-- The boundary of a group, and what hangs on a period start: captures of the FBI (R449) and the SET record of a prime (R369). -/
def groupBoundary (g : Nat) (s : State) : State :=
  let t := (s.tbg g).nextB
  let run := s.tbgRun g
  let s := boundaryAt g s
  if run && s.on (fTBG_STAT_run g) && (s.tbg g).b = t then sendSet g (fbiPeriod g t s) else s

/-- TBG_BOUNDARY (R213). -/
def execTbgBoundary (g : Fin 32) (s : State) : Host.Outcome State Fault Refusal := done (groupBoundary g.val s)

end Sys2Proof.Machine
end

