-- ==== Sys2Proof/Machine/Views.lean ====
section
/-! DEFINITION. What registers and memory read as (00_scope.md R9; 01_register_pages.md R17, R18, R20): the stored value, or, where the
chapters give a register as a summary of other state, that summary. Reading also acts: R9 (RC), R27, R28, R201, R196. -/
namespace Sys2Proof.Machine

/-- The index of an address in an array of registers of one stride. -/
def idxAt (base st n a : Nat) : Option Nat :=
  if base ≤ a && a < base + st * n && (a - base) % st == 0 then some ((a - base) / st) else none

/-- A word with a bit for each number below 32 that satisfies a condition. -/
def bits32 (c : Nat → Bool) : Word :=
  BitVec.ofNat 32 ((List.range 32).foldl (fun x j => if c j then x + 2 ^ j else x) 0)

/-- A word with a field of `w` bits for each number below `n`. -/
def packed (n w : Nat) (f : Nat → Nat) : Word :=
  BitVec.ofNat 32 ((List.range n).foldl (fun x j => x + f j % 2 ^ w * 2 ^ (w * j)) 0)

/-- The code of a warden state (R17, R54). -/
def WState.code : WState → Nat
  | .run => 0 | .drain => 1 | .absent => 2 | .retire => 3

/-- STAT of a header page (R17; the blocks' own status bits). -/
def State.statWord (s : State) (b : Block) (w : Word) : Word :=
  let w := w.ins 0 1 (s.on (hCtrl (hdr b) 0) && s.isRun (blockIsland b)).toNat
  match b with
  | .sage => w.ins 8 1 (decide (s.rd aSAGE_MG_HOLD ≠ 0)).toNat
  | .adc u => w.ins 8 4 (s.adcBusy u.val)
  | .amu => w.ins 8 8 s.amuMoving
  | .pair => w.ins 10 1 (s.on fPAIR_CFG_en && decide (500000000 < s.pairLoad)).toNat
  | .msio =>
    let nok := (List.range 8).any (fun k => s.evState k != 0 && s.evState k != 3)
    let so := (s.rd aMSIO_SO_STAT).fld 16 16 != 0
    let sm := (List.range 16).any (fun c => s.get (fMSIO_SM_STAT_state c) == 3)
    ((w.ins 8 1 nok.toNat).ins 9 1 so.toNat).ins 10 1 sm.toNat
  | _ => w

/-- The registers of the header page (R17, R18). -/
def State.viewHdr (s : State) (b : Block) (o : Nat) (w : Word) : Option Word :=
  if o = 0x00 then some (w.ins 16 8 (blockInst b))
  else if o = 0x0C then some (s.statWord b w)
  else if o = 0x18 then
    let x := s.act (hdr b)
    some (BitVec.ofNat 32 (x + if x = 0 then 0 else 0x10000))
  else if o = 0x34 then
    let d := s.warden (blockIsland b)
    some (BitVec.ofNat 32 (d.epoch * 0x10000 + d.st.code))
  else none

/-- FAB (02_islands_and_credits.md R68). -/
def State.viewFab (s : State) (a : Nat) : Option Word :=
  let sel := s.rd aFAB_LINK_SEL
  let q := sel.fld 8 8
  let i := sel.fld 0 8
  let c := sel.fld 16 1
  let d := linkDepth q i c
  let l := s.link q i c
  match idxAt (aFAB_WST 0) 4 17 a with
  | some i =>
    let x := s.warden i
    some (BitVec.ofNat 32 (x.epoch * 0x10000 + min 255 x.accepted.length * 0x100 + x.gated.toNat * 8 + x.pdown.toNat * 4 + x.st.code))
  | none =>
    if a = aFAB_LINK_DEPTH then some (BitVec.ofNat 32 (if d = 0 then 0 else 0x100 + d))
    else if d = 0 then (if a = aFAB_LINK_CRED || a = aFAB_LINK_REQS then some 0 else none)
    else if a = aFAB_LINK_CRED then
      some (BitVec.ofNat 32 (l.aCred % 256 * 2 ^ 24 + l.aBuf % 256 * 2 ^ 16 + l.aSlots % 256 * 2 ^ 8 + l.aOutst % 256))
    else if a = aFAB_LINK_REQS then some (BitVec.ofNat 32 l.reqs)
    else none

/-- THY, TBG, LEG and MG (06_thyme_and_pwm.md R234 to R237; 07_trips_and_leg_protection.md R266, R267). -/
def State.viewThy (s : State) (r : Req) (a : Nat) : Option Word :=
  match tbgAt a, legAt a with
  | some g, _ =>
    if a = aTBG_STAT g then some ((s.rd a).ins 2 1 (s.kern g).toNat)
    else if a = aTBG_HOFS g then some (BitVec.ofNat 32 (s.hofs g)) else none
  | _, some n =>
    if a = aLEG_STAT n then some (((s.rd a).ins 5 1 (s.kern (s.legTbg n)).toNat).ins 0 1 (s.legEn n).toNat)
    else if a = aLEG_BOOT n then some ((s.rd a).ins 1 1 (s.bootOk n).toNat) else none
  | none, none =>
    match idxAt 0x40032000 4 512 a with
    | some i =>
      let m := i / 16
      if a = aMG_STAT m then some (((s.rd a).ins 16 2 (s.mgType m)).ins 8 8 (s.members m).length)
      else if 2 ≤ i % 16 && i % 16 < 6 then
        let l := s.members m
        some (bits32 (fun j => l.contains (32 * (i % 16 - 2) + j)))
      else if a = aMG_SIDE_STAT m then
        let nok := (s.members m).any (fun n => !s.bootOk n)
        some (packed 3 1 (fun j => if j = 0 then (!s.sideOk m true).toNat else if j = 1 then (!s.sideOk m false).toNat else nok.toNat))
      else none
    | none =>
      match idxAt (aTHY_LEG_EN 0) 4 4 a with
      | some i => some (bits32 (fun j => s.legEn (32 * i + j)))
      | none =>
        if a = aTHY_RUN then some (bits32 (fun g => s.on (fTBG_STAT_run g)))
        else if a = aTHY_KERN then some (bits32 s.kern)
        else if a = aTHY_NOW_LO then some (BitVec.ofNat 32 (s.now / 32))
        else if a = aTHY_NOW_HI || a = aTHY_NOW_FINE then some (s.rd (bank r a))
        else none

/-- The context window for a requester (03_basil_control_engine.md R113); its registers show words of the context area. -/
def State.viewCtx (s : State) (r : Req) (a : Nat) : Word :=
  let k := s.wsel r
  let c := s.ctx k
  let own := s.rd (inst k a)
  let w10 (t : Nat) : Nat := min 65535 (t / frame10)
  if a = aCTX_W_STAT then
    let st := match c.st with | .off => 0 | .admitted => 1 | .run => 2 | .halt => 3
    -- a context in OFF reports no group: DEDUCED, log entry 40
    let safe := c.st != .off && (match s.cMg k with | some m => s.mgState m != 0 | none => false)
    (own.ins 0 2 st).ins 21 1 safe.toNat
  else if a = aCTX_W_CFG then s.cw k 0x00
  else if a = aCTX_W_LEGS then s.cw k 0x04
  else if a = aCTX_W_TRIG then s.cw k 0x08
  else if a = aCTX_W_TIMER then s.cw k 0x0C
  else if a = aCTX_W_SRC then s.cw k 0xC0
  else if a = aCTX_W_SETP then s.cw k 0xC4
  else if a = aCTX_W_ILIM then s.cw k 0xC8
  else if a = aCTX_W_ADM then
    -- window words are in units of 10 ns, the field in units of 0.25 µs
    BitVec.ofNat 32 ((s.cw k 0x10).toNat % 65536 + min 65535 ((s.cw k 0x14).toNat / 25) * 65536)
  else if a = aCTX_W_ITEG then s.cw k (0x380 + 4 * (s.rd (inst k aCTX_W_ISEL)).fld 0 3)
  else if a = aCTX_W_PADDR then s.rd (bank r a)
  else if a = aCTX_W_PCRC then s.cw k 0x310
  else if a = aCTX_W_SUP_STAT then BitVec.ofNat 32 (w10 c.w.tSat + w10 c.w.tCross * 65536)
  else if a = aCTX_W_CNT_STEP then s.cw k 0x7C0
  else if a = aCTX_W_CNT_EVT then s.cw k 0x7C4
  else if a = aCTX_W_CYC then s.cw k 0x7C8
  else if a = aCTX_W_PG_STAT then
    let at_ := if F32.isNat (s.cw k 0x340) 1 then s.cw k 0x364 else s.cw k 0x360
    own.ins 1 1 (s.cPg k && decide (at_ ≠ s.cw k 0x36C)).toNat
  else match idxAt (aCTX_W_OUT 0) 4 8 a with
    | some i => s.cw k (0x780 + 4 * i)
    | none => own

/-- ENG (03_basil_control_engine.md R112). -/
def State.viewEng (s : State) (r : Req) (a : Nat) : Option Word :=
  if 0x40051000 ≤ a && a < 0x40052000 then some (s.viewCtx r a)
  else if a = aENG_WSEL then some (s.rd (bank r a))
  else if a = aENG_LANE_STAT then
    some (packed 8 1 (fun i => if i < 4 then (!s.laneFree i).toNat else (!s.laneFree (i - 4) && (s.lane (i - 4)).priv).toNat))
  else match idxAt (aENG_RUN 0) 4 12 a with
    | some i =>
      let k (j : Nat) : Nat := 32 * (i % 4) + j
      some (bits32 (fun j =>
        if i < 4 then decide ((s.ctx (k j)).st = .run)
        else if i < 8 then decide ((s.ctx (k j)).st = .halt)
        else s.summary (inst (k j) aCTX_W_IRQ_RAW) (inst (k j) aCTX_W_IRQ_EN) 8))
    | none => none

/-- GIU (05_grid_and_pv.md R193). -/
def State.viewGiu (s : State) (a : Nat) : Option Word :=
  if a = aGIU_SEQ_ALL then some (packed 8 3 (fun u => s.get (fGIU_RT_STAT_state u)))
  else if a = aGIU_PLL_ALL then some (packed 8 2 (fun u => s.get (fGIU_PLL_STAT_state u)))
  else if a = aGIU_TRK_ALL then some (packed 16 2 (fun t => s.get (fGIU_TRK_STAT_state t)))
  else none

/-- SAGE (09_sage_and_safe_states.md R356). -/
def State.viewSage (s : State) (a : Nat) : Option Word :=
  if a = aSAGE_HEALTH then
    some ((((s.rd a).ins 0 1 s.sageOk.toNat).ins 6 1 s.errn0.toNat).ins 7 1 s.errn1.toNat)
  else if a = aSAGE_PIN_STAT then some ((s.rd a).ins 4 4 s.pinsHeld)
  else if a = aSAGE_WDG_STAT then
    some ((s.rd a).ins 16 16 (if s.sage.running then min 65535 ((s.now - (s.wdg 0).last) / frame10) else 0))
  else match idxAt (aSAGE_EVT_PEND 0) 4 2 a with
    | some i =>
      let l := s.pendingEvents
      some (bits32 (fun j => l.any (fun x => x.e == 32 * i + j)))
    | none => none

/-- APC control (01_register_pages.md R35; 09_sage_and_safe_states.md R360). -/
def State.viewApc (s : State) (a : Nat) : Option Word :=
  match idxAt (aAPC_IP 0) 4 8 a, idxAt (aAPC_WDG_STAT 0) 4 2 a with
  | some i, _ => some (s.ipWord i)
  | _, some i =>
    let w := s.wdg (i + 1)
    let on := w.wmax != 0
    some (((s.rd a).ins 16 16 (if on then min 65535 ((s.now - w.last) / frame10) else 0)).ins 0 1 on.toNat)
  | none, none =>
    if a = aAPC_P0_NEXT then some (BitVec.ofNat 32 (s.nextLine (aAPC_P0_IE 0)))
    else if a = aAPC_P1_NEXT then some (BitVec.ofNat 32 (s.nextLine (aAPC_P1_IE 0)))
    else none

/-- PAIR (10_lovage_pairing.md R390). -/
def State.viewPair (s : State) (a : Nat) : Option Word :=
  if a = aPAIR_STATE then some ((s.rd a).ins 4 2 s.role)
  else if a = aPAIR_DELTA_LO then some (BitVec.ofInt 32 (s.pair.delta / 32))
  else if a = aPAIR_DELTA_HI then some (BitVec.ofInt 32 (s.pair.delta / 32 / 2 ^ 32))
  else if a = aPAIR_DELTA_FINE then some (BitVec.ofInt 32 (s.pair.delta % 32))
  else if a = aPAIR_LOAD then some (if s.on fPAIR_CFG_en then BitVec.ofNat 32 (s.pairLoad / 1000) else 0)
  else none

/-- MSIO (11_machine_safety_io.md R415). -/
def State.viewMsio (s : State) (a : Nat) : Option Word :=
  if a = aMSIO_SI_RAW then some (BitVec.ofNat 32 s.siRaw)
  else if a = aMSIO_EV_ALL then some (packed 8 3 s.evState)
  else if a = aMSIO_SO_STAT then some ((s.rd a).ins 0 16 s.soOuts)
  else none

/-- CAN (14_can.md R492); the data window is banked (R478). -/
def State.viewCan (s : State) (r : Req) (c a : Nat) : Option Word :=
  let head : CanRx := (s.can c).fifo.headD {}
  if a = aCAN_FIFO_HDR c then some head.id
  else if a = aCAN_FIFO_INFO c then some head.info
  else if a = aCAN_FIFO_TS c then some head.ts
  else if a = aCAN_MB_SEL c then some (s.rd (bank r a))
  else match idxAt (aCAN_FIFO_DATA c 0) 4 16 a, idxAt (aCAN_MB_DATA c 0) 4 16 a, idxAt (aCAN_MB_STAT c 0) 16 64 a with
    | some w, _, _ => some (head.data.getD w 0)
    | _, some w, _ => some (s.mbWord c ((s.rd (bank r (aCAN_MB_SEL c))).fld 0 6) w)
    | _, _, some b => some (s.mbStat c b)
    | none, none, none => none

/-- REC: the cursor window and the data of a software record are banked (16_rosemary_and_selftest.md R535, R540). -/
def State.viewRec (s : State) (r : Req) (a : Nat) : Option Word :=
  if a = aREC_CUR_IDX || a = aREC_CUR_STAT || (aREC_SW_DATA 0 ≤ a && a ≤ aREC_SW_DATA 9) || (aREC_CUR_DATA 0 ≤ a && a ≤ aREC_CUR_DATA 15)
  then some (s.rd (bank r a)) else none

/-- BIST (16_rosemary_and_selftest.md R558): the reference signatures stand in the identity area. -/
def State.viewBist (s : State) (a : Nat) : Option Word :=
  if a = aBIST_QSTAT then some (BitVec.ofNat 32 s.bistQstat)
  else match idxAt (aBIST_REF 0) 16 17 a with
    | some i => some (if bistHas i 1 then Config.bistRef i else 0)
    | none => none

/-- The registers of a block that show other state. -/
def State.viewBlock (s : State) (r : Req) (b : Block) (a : Nat) : Option Word :=
  match b with
  | .fab => s.viewFab a
  | .thy => s.viewThy r a
  | .eng => s.viewEng r a
  | .giu => s.viewGiu a
  | .adc _ => if a = aADC_FC_OUT then some (BitVec.ofNat 32 s.fcOut) else none
  | .can c => s.viewCan r c.val a
  | .msio => s.viewMsio a
  | .pair => s.viewPair a
  | .recorder => s.viewRec r a
  | .bist => s.viewBist a
  | .sage => s.viewSage a
  | .apc => s.viewApc a
  | .sys => if a = aSYS_OPSEC then some s.opsec else none
  | .hpm => if a = aHPM_SUP_EPI then some ((s.rd a).ins 0 4 (min 15 s.recent.length)) else none
  | _ => none

/-- What a register reads as for a requester. -/
def State.view (s : State) (r : Req) (b : Block) (a : Nat) : Word :=
  let w := s.use a
  match s.viewHdr b (a - hdr b) w with
  | some v => v
  | none => (s.viewBlock r b a).getD w

/-! The vote (R28). -/

/-- The disagreements of a register's fields: those with two equal copies, and those with none (R28). -/
def disagree (x db dc : Word) (l : List FieldSpec) : List FieldSpec × List FieldSpec :=
  let v (c : Word) (f : FieldSpec) : Nat := c.fld f.lo (f.hi - f.lo + 1)
  (l.filter (fun f => f.acc == .rwt && !(v x f == v (x ^^^ db) f && v x f == v (x ^^^ dc) f))).partition (fun f =>
    v x f == v (x ^^^ db) f || v x f == v (x ^^^ dc) f || v (x ^^^ db) f == v (x ^^^ dc) f)

/-- The vote over the copies of a register, field by field (R28): corrected, or returned to the reset value. Each field counts
in its group; the register's disagreements set ERR and reach Sage together, once (R29; DEDUCED, log entry 40). -/
def voteReg (a : Nat) (s : State) : State :=
  match Tab.find s.tmr a, specAt a, blockAt a with
  | some (db, dc), some g, some b =>
    let x := s.rd a
    let was := s.use a
    let (ok, bad) := disagree x db dc g.fields
    let s := (s.setTmr (Tab.del s.tmr a)).wr a was
    let s := match g.grp with
      | some i => s.each (ok ++ bad) (fun _ s => s.incrSat ⟨hdr b + 0x30, 8 * i, 8⟩)
      | none => s
    let s := s.when (!ok.isEmpty) (errEvent b errVote)
    let s := s.when (!bad.isEmpty) (errEvent b errVoteFail)
    if (legAt a).isSome && was ≠ x then membersChanged s else s
  | _, _, _ => s

/-! Reading. -/

/-- A word of the log ring was read: its half is read (R181, log entry 25). -/
def logRead (a : Nat) (s : State) : State :=
  s.setGiu { s.giu with unread := withBit s.giu.unread ((a - 0x40063000) / 0x800) false }

/-- An accepted read of a register: the value, then what reading does (R9, R27, R28, R201); `ev` is the value an event
of the same cycle brings to an RC field. -/
def readReg (r : Req) (b : Block) (a : Nat) (ev : Option Word) (s : State) : State :=
  let s := voteReg a s
  if a = aTHY_NOW_LO then latchNow r s
  else if inLogRing a then logRead a (busOk r (s.rd a) s)
  else if a = aMSIO_SO_RB then
    let (v, s) := (List.range 16).foldl (fun (x, s) j =>
      let (l, s) := readBack j s
      (if l then x + 2 ^ j else x, s)) ((0, s) : Nat × State)
    busOk r (BitVec.ofNat 32 v) s
  else
    let s := busOk r (s.view r b a) s
    if a = aENG_LOAD_PEAK then s.put fENG_LOAD_PEAK_peak (match ev with | some v => v.fld 0 24 | none => 0)
    else if a = aCTX_W_CYC then
      let k := s.wsel r
      s.putCw k 0x7C8 ((s.cw k 0x7C8).ins 16 16 (match ev with | some v => v.fld 0 16 | none => 0))
    else s

/-- A read of memory outside the peripheral pages (R13, R18). -/
def readMem (r : Req) (a : Nat) (sz : AccSize) (s : State) : State :=
  let g := regionAt a
  if !mayRead r g || regionAt (a + accBytes sz - 1) ≠ g then busFault r a .refused s
  else if !s.isRun (islandAt a) then busFault r a .absent (fabAbsent (islandAt a) s)
  else busOk r (BitVec.ofNat 32 ((s.mem32 a).toNat % 2 ^ (8 * accBytes sz))) (fabUse (reqIsland r) (islandAt a) 0 s)

/-- A read by a requester (R13, R15, R18, R36); in the peripheral pages only of a whole word (R15). -/
def readAt (r : Req) (a : Nat) (sz : AccSize) (ev : Option Word) (s : State) : State :=
  match blockAt a with
  | none => readMem r a sz s
  | some b => if sz = .word then access r a false (readReg r b a ev) s else accessNarrow r b a false s

/-- READ_CLEAR (R27): a read; RC fields clear, and an event of the same cycle remains. -/
def execReadClear (r : Req) (a : BusAddr) (ev : Option (BitVec 32)) (s : State) : Host.Outcome State Fault Refusal :=
  done (readAt r a.at_ a.sz ev s)

end Sys2Proof.Machine
end

