-- ==== Sys2Proof/Machine/Regs.lean ====
section
/-! DEFINITION. A word written to an address (01_register_pages.md R9, R13 to R23, R26, R585; each chapter's register section), the
header's CTRL bits, and the running configuration CRC (R28 to R31). Where a row of the table names the write, its
meaning is the operation called here. -/
namespace Sys2Proof.Machine

/-! CTRL (R17, R30). -/

/-- CTRL.tmr_clr (R17). -/
def tmrClr (b : Block) (s : State) : State := s.wr (hdr b + 0x30) 0

/-- CTRL.crc_en (R17, R30): a new run begins without a completed pass. -/
def crcEn (b : Block) (on : Bool) (s : State) : State :=
  let h := hdr b
  if !capCrc b || s.on (hCtrl h 2) = on then s
  else
    let s := (s.putB (hCtrl h 2) on).setCrcRun (Tab.del s.crcRun h)
    if on then s.lower (hStat h 3) else s

/-- A word written to CTRL (R17): fields whose mask bit is 1. FAB_CTRL.en always reads 1 (02_islands_and_credits.md R44). -/
def ctrlWrite (r : Req) (b : Block) (d : Word) (s : State) : State :=
  let h := hdr b
  let sel (i : Nat) : Bool := d.fld (16 + i) 1 == 1
  let one (i : Nat) : Bool := sel i && d.fld i 1 == 1
  let m := (BitVec.ofNat 32 (d.fld 16 16)) &&& (if b = .fab then 0xFFF0 else 0xFFF1)
  let s := s.wr (h + 8) (Word.merge m (s.rd (h + 8)) d)
  let s := s.when (one 3) (tmrClr b)
  let s := if sel 2 then crcEn b (one 2) s else s
  s.when (one 1) (ctrlSrst r b)

/-! The running CRC (R30, R31). -/

/-- Every address of a register, or of an array of registers. -/
def dimOffsets : List (Nat × Nat) → List Nat
  | [] => [0]
  | (n, st) :: ds => (List.range n).flatMap (fun i => (dimOffsets ds).map (fun o => i * st + o))

/-- The registers the CRC of a block covers, in address order, each with the mask of the fields that contribute. -/
def crcList (b : Block) : Tab Word :=
  (spanRegs (hdr b)).foldl (fun t g =>
    if !g.crc then t
    else
      let mw := g.fields.any (fun f => decide (f.acc = .mw))
      let m := fieldMask (fun f => f.acc.writable) g.fields &&& (if mw then 0xFFFF else 0xFFFFFFFF)
      (dimOffsets g.dims).foldl (fun t o => if blockAt (g.base + o) = some b then Tab.ins t (g.base + o) m else t) t) []

/-- CRC-32C over the effective values (R30). -/
def State.crcOf (s : State) (b : Block) : Word := crc32c ((crcList b).flatMap (fun (a, m) => wordBytes (s.use a &&& m)))

/-- A pass ends (R31): discarded where a value changed, else compared. -/
def crcPass (b : Block) (s : State) : State :=
  let h := hdr b
  if !s.on (hCtrl h 2) || !s.isRun (blockIsland b) then s
  else if Tab.get 0 s.crcRun h = 1 then s.setCrcRun (Tab.del s.crcRun h)
  else
    let v := s.crcOf b
    let s := (s.wr (h + 0x2C) v).raise (hStat h 3)
    if v = s.rd (h + 0x28) then s.lower (hStat h 2) else errEvent b errCrcMis (s.raise (hStat h 2))

/-- The 1 ms round votes every triplicated register of the device (R28). -/
def tmrScrub (s : State) : State :=
  let t := nextFrame ms (Tab.get 0 s.frames 0) s.now
  let s := (s.reach t).setFrames (Tab.set 0 s.frames 0 t)
  s.each (s.tmr.map (·.1)) voteReg

/-! Timebase groups, legs and machine groups (06_thyme_and_pwm.md R222, R227). -/

/-- A refusal of R227. -/
def cfgRefuse (s : State) : State := (s.errSet 0x40020000 16).irq 0x40020000 6

/-- A leg's configuration with its shadow applied. -/
def State.legShadow (s : State) (n : Nat) : Word := (Tab.get {} s.bnd (aLEG_CFG n)).on (s.comes (aLEG_CFG n))

/-- The configurations of a leg that count in R227: the effective one, the one taken at a hand-off point, the shadow. -/
def State.legCfgs (s : State) (n : Nat) : List Word := [s.use (aLEG_CFG n), s.comes (aLEG_CFG n), s.legShadow n]

/-- Does any leg name a group with en = 1, in its effective value or its shadow? `lo` is the place of the group's number. -/
def State.named (s : State) (lo g : Nat) : Bool :=
  allLegs.any (fun n => (s.legCfgs n).any (fun w => w.fld 31 1 == 1 && w.fld lo 5 == g))

/-- A write of LEG[n]_CFG (R20, R227). -/
def legCfgWrite (n : Nat) (d : Word) (s : State) : State :=
  let a := aLEG_CFG n
  let v := storedWord a d
  let g := v.fld 17 5
  let m := v.fld 22 5
  let off := [s.use (aTBG_CFG g), s.comes (aTBG_CFG g), s.cmtVal (aTBG_CFG g)].any (fun w => w.fld 0 2 == 0)
  let none_ := (s.use (aMG_CFG m)).fld 0 2 = 0 || (s.cmtVal (aMG_CFG m)).fld 0 2 = 0
  let moves := (s.legCfgs n).any (fun w => w.fld 31 1 == 1 && w.fld 17 10 != v.fld 17 10)
  if (v.fld 31 1 = 1 && (off || none_)) || moves then cfgRefuse (s.raise (fLEG_STAT_en_ref n))
  else
    let run := s.bndRuns a
    let t := storeAt a a d s
    if run then t else newlyEnabled s (membersChanged t)

/-- A write of TBG[g]_CFG (R227). -/
def tbgCfgWrite (g : Nat) (d : Word) (s : State) : State :=
  let a := aTBG_CFG g
  let v := (storedWord a d).fld 0 2
  let was := (s.use a).fld 0 2
  if (v = 0 || (s.kern g && v ≠ was)) && s.named 17 g then cfgRefuse s else storeAt a a d s

/-- A write of MG[m]_CFG (R227). -/
def mgCfgWrite (m : Nat) (d : Word) (s : State) : State :=
  let a := aMG_CFG m
  let v := (storedWord a d).fld 0 2
  if (v ≠ (s.use a).fld 0 2 || v ≠ (s.cmtVal a).fld 0 2) && s.named 22 m then cfgRefuse s else storeAt a a d s

/-- A write in the page of TBG[g] (R235). -/
def tbgWrite (g a : Nat) (d : Word) (s : State) : State :=
  if a = aTBG_CFG g then tbgCfgWrite g d s
  else if a = aTBG_PERIOD g then
    let t := storeAt a a d s
    if s.on (fTBG_STAT_cmt_pend g) then t else t.putTbg g { t.tbg g with perWr := true }
  else if a = aTBG_CMD g then (s.when (d.fld 0 1 == 1) (startGroup g)).when (d.fld 1 1 == 1) (stopGroup g)
  else if a = aTBG_COMMIT g then
    if d.fld 8 2 = 3 then tbgIrq g 2 (errEvent .thy errCmtGen s)
    else if d.fld 8 1 = 1 then tbgCommitGo g (d.fld 0 8) s
    else if d.fld 9 1 = 1 then tbgCommitAbort g s else s
  else storeAt a a d s

/-- A write in the page of LEG[n] (R236; 07_trips_and_leg_protection.md R266). -/
def legWrite (n a : Nat) (d : Word) (s : State) : State :=
  if a = aLEG_CFG n then legCfgWrite n d s
  else if isCmp a then cmpWrite n a d s
  else if a = aLEG_CMP_GEN n then
    cmpGen n (d.fld 0 8) (if s.kern (s.legHome n) then s else s.put ⟨aLEG_CMP_GEN n, 10, 22⟩ (d.fld 10 22))
  else if a = aLEG_TRIP_CLR n then tripClrWrite (clrLeg n) (armLeg n) d s
  else if a = aLEG_TRIP_CFG n then newlyActing n s (storeAt a a d s)
  else storeAt a a d s

/-- A write in the THY span. -/
def thyWrite (a : Nat) (d : Word) (s : State) : State :=
  match tbgAt a, legAt a, idxAt 0x40032000 0x40 32 (a / 0x40 * 0x40) with
  | some g, _, _ => tbgWrite g a d s
  | _, some n, _ => legWrite n a d s
  | _, _, some m =>
    if a = aMG_CFG m then mgCfgWrite m d s
    else if a = aMG_SAFE_CMD m then safeCmd m (d.fld 0 4) s
    else if a = aMG_TRIP_CLR m then tripClrWrite (clrMg m) (armMg m) d s
    else storeAt a a d s
  | none, none, none => storeAt a a d s

/-! The other blocks. -/

/-- SYS (15_power_clocks_boot_thermal.md R525). -/
def sysWrite (r : Req) (a : Nat) (d : Word) (s : State) : State :=
  if a = aSYS_RST_CMD then
    let key := d.fld 16 16
    if key ≠ 0xC3A5 then softReset1 r key s
    else
      let s := (s.when (d.fld 1 1 == 1) (pairReset1 0 key)).when (d.fld 2 1 == 1) (pairReset1 1 key)
      s.when (d.fld 0 1 == 1) (softReset1 r key)
  else if a = aSYS_MP_CMD then mpCmd (d.fld 16 16) (d.fld 0 2) s
  else storeAt a a d s

/-- HPM (R527). -/
def hpmWrite (r : Req) (a : Nat) (d : Word) (s : State) : State :=
  if a = aHPM_LTR then ltrWrite r d s
  else if a = aHPM_PD_CTRL then powerWrite d s
  else if a = aHPM_SUP_STAT then s.when (d.fld 30 1 == 1) unstableClear
  else if a = aHPM_I2C_CMD then i2cCmd d s
  else storeAt a a d s

/-- FAB (02_islands_and_credits.md R67, R68). -/
def fabWrite (a : Nat) (d : Word) (s : State) : State :=
  let t := storeAt a a d s
  if a = hdr .fab + 0x1C && d.fld 16 1 = 1 then t.lower fFAB_AUDIT_FAIL_valid else t

/-- A write of NDL[p]_CTRL (08_ndotar_drive_link.md R277, R280, R319). -/
def ndlCtrlWrite (p : Nat) (d : Word) (s : State) : State :=
  let a := aNDL_CTRL p
  let s := storeAt a a (d.ins 0 1 (s.get (fNDL_CTRL_en p))) s
  if d.fld 0 1 = 1 then portEn p s else portDis p s

/-- NDL (R318, R319). -/
def ndlWrite (a : Nat) (d : Word) (s : State) : State :=
  match idxAt 0x40041000 0x100 32 (a / 0x100 * 0x100) with
  | some p =>
    if a = aNDL_CTRL p then ndlCtrlWrite p d s
    else if a = aNDL_TOKEN p then tokenOp p (d.fld 0 2) s
    else storeAt a a d s
  | none =>
    let t := storeAt a a d s
    if a = hdr .ndl + 0x1C && d.fld 16 1 = 1 then t.lower fNDL_CONS_FAIL_valid else t

/-- The words of a context's area that the window writes in state OFF (03_basil_control_engine.md R75, R113). -/
def offHomes : List (Nat × Nat) := [(aCTX_W_CFG, 0x00), (aCTX_W_LEGS, 0x04), (aCTX_W_TRIG, 0x08), (aCTX_W_TIMER, 0x0C)]

/-- A write of CTX_W_PCMT (R21 to R23, R113). -/
def pcmtWrite (r : Req) (d : Word) (s : State) : State :=
  if d.fld 8 2 = 3 then cmtRefused .eng s
  else if d.fld 8 1 = 1 then paramCommit r (d.fld 0 8) s
  else if d.fld 9 1 = 1 then paramAbort r s else s

/-- A write to the context window (R113). -/
def ctxWrite (r : Req) (a : Nat) (d : Word) (s : State) : State :=
  let k := s.wsel r
  if a = aCTX_W_CMD then (if d.fld 0 4 = 6 then trigCtx k s else ctxCmd k (d.fld 0 4) s)
  else if a = aCTX_W_ITEG then integWrite k d s
  else if a = aCTX_W_PADDR then s.wr (bank r a) d
  else if a = aCTX_W_PDATA then stageWord r d s
  else if a = aCTX_W_PCMT then pcmtWrite r d s
  else if a = aCTX_W_PCRC then stageAt r 0x310 d s
  else match offHomes.find? (fun x => x.1 == a), ctxHomes.find? (fun x => x.1 == a) with
    | some (_, o), _ => if (s.ctx k).st = .off then s.putCw k o (storedWord a d) else ctxWrErr s
    | _, some (_, o) => ctxBndWrite k a o d s
    | none, none => storeAt (inst k a) a d s

/-- ENG (R112). -/
def engWrite (r : Req) (a : Nat) (d : Word) (s : State) : State :=
  if 0x40051000 ≤ a && a < 0x40052000 then ctxWrite r a d s
  else if a = aENG_WSEL then (wselWrite r (d.fld 0 7) s).put ⟨bank r aENG_WSEL, 7, 25⟩ (d.fld 7 25)
  else if a = aENG_KS_CTRL then (s.when (d.fld 0 1 == 1) ksReq).when (d.fld 1 1 == 1) ksDone
  else if a = aENG_CFG && d.fld 0 1 = 0 && allCtx.any (fun k => (s.ctx k).st == .run) then ctxWrErr s
  else storeAt a a d s

/-- GIU (05_grid_and_pv.md R193 to R196). -/
def giuWrite (a : Nat) (d : Word) (s : State) : State :=
  if inLogRing a then s
  else if a = aGIU_LOG_CFG then
    let t := storeAt a a d s
    if d.fld 3 1 = 1 && !s.on fGIU_LOG_CFG_en then (t.lower fGIU_LOG_WP_wrapped).setGiu { t.giu with stop := none } else t
  else match idxAt (aGIU_RT_CMD 0) 0x200 8 a, idxAt (aGIU_TRK_CMD 0) 0x40 16 a with
    | some u, _ => s.when (d.fld 0 1 == 1) (rtAck u)
    | _, some t => s.when (d.fld 0 1 == 1) (scanRequest t)
    | none, none => storeAt a a d s

/-- AMU (13_feedback_and_aux_axes.md R457, R458, R471). -/
def amuWrite (a : Nat) (d : Word) (s : State) : State :=
  match idxAt 0x40091000 0x80 8 (a / 0x80 * 0x80) with
  | some k =>
    if a = aAX_CMD k then axCmd k (d.fld 0 4) s
    else if a = aAX_POS k then axPosWrite k d s
    else if a = aAX_D1 k || a = aAX_D2 k || a = aAX_VBREAK k || a = aAX_VSTOP k then rampWrite k a d s
    else storeAt a a d s
  | none => storeAt a a d s

/-- CAN (14_can.md R492). -/
def canPageWrite (r : Req) (c a : Nat) (d : Word) (s : State) : State :=
  if a = aCAN_CMD c then canCmd c d s
  else if a = aCAN_MB_CMD c then mbCmd c d s
  else if a = aCAN_MB_SEL c then s.wr (bank r a) d
  else match idxAt (aCAN_MB_DATA c 0) 4 16 a with
    | some w => mbDataWrite r c w d s
    | none => canWrite c (a - canHdr c) a d s

/-- MSIO (11_machine_safety_io.md R415). -/
def msioWrite (a : Nat) (d : Word) (s : State) : State :=
  if a = aMSIO_SI_FAULT then siFaultClear d s
  else if a = aMSIO_EV_CMD then evCmd d s
  else if a = aMSIO_SO_CMD then soUpdate (storeAt a a d s)
  else if a = aMSIO_SO_STAT then soFaultClear (d.fld 16 16) s
  else match idxAt (aMSIO_SM_CMD 0) 0x20 16 a with
    | some c => s.when (d.fld 0 1 == 1) (smRearm c)
    | none => storeAt a a d s

/-- REC (16_rosemary_and_selftest.md R555). -/
def recWrite (r : Req) (a : Nat) (d : Word) (s : State) : State :=
  if a = aREC_CMD then recCmd d s
  else if a = aREC_CUR_IDX then curSelect r d s
  else if a = aREC_CUR_CMD then curMove r d s
  else if a = aREC_SW_CMD then softRecord r (d.fld 0 8) s
  else if aREC_SW_DATA 0 ≤ a && a ≤ aREC_SW_DATA 9 then s.wr (bank r a) d
  else storeAt a a d s

/-- SAGE (09_sage_and_safe_states.md R333, R356, R357): clr acts before set, release before assert (log entry 40). -/
def sageWrite (a : Nat) (d : Word) (s : State) : State :=
  if a = aSAGE_NS_CMD then (s.when (d.fld 0 1 == 1) nsClr).when (d.fld 1 1 == 1) (setNotSafe 4)
  else if a = aSAGE_MG_CMD then sageMgCmd (d.fld 0 4) s
  else if a = aSAGE_PIN_CMD then assertPins (d.fld 0 4) (pinRel (d.fld 4 4) s)
  else if a = aSAGE_WDG_SVC then sageKey (d.fld 0 8) s
  else if a = aSAGE_LS_INJ then s.when (d.fld 0 1 == 1) sageInject
  else if aSAGE_EVT_CFG 0 ≤ a && a < aSAGE_EVT_CFG 3 then s.errSet 0x400F0000 16
  else storeAt a a d s

/-- A write of APC_WDG_CFG[i] (R353): it turns the watchdog on, and never off. -/
def apcWdgWrite (i : Nat) (d : Word) (s : State) : State :=
  let w := s.wdg (i + 1)
  if w.wmax ≠ 0 && d.fld 16 16 = 0 then s
  else
    let s := storeAt (aAPC_WDG_CFG i) (aAPC_WDG_CFG i) d s
    if w.wmax ≠ 0 || d.fld 16 16 = 0 then s
    else s.putWdg (i + 1) { last := s.now, wmin := s.get (fAPC_WDG_CFG_wmin i), wmax := s.get (fAPC_WDG_CFG_wmax i) }

/-- APC control (01_register_pages.md R35; R360). -/
def apcWrite (a : Nat) (d : Word) (s : State) : State :=
  if a = aAPC_LS_INJ then (s.when (d.fld 0 1 == 1) (lsInject 0)).when (d.fld 1 1 == 1) (lsInject 1)
  else match idxAt (aAPC_WDG_CFG 0) 4 2 a, idxAt (aAPC_WDG_SVC 0) 4 2 a with
    | some i, _ => apcWdgWrite i d s
    | _, some i => apcKey i (d.fld 0 8) s
    | none, none => storeAt a a d s

/-- An accepted write to a register of a block. -/
def regWrite (r : Req) (b : Block) (a : Nat) (d : Word) (s : State) : State :=
  let s := voteReg a s
  if a = hdr b + 0x08 then ctrlWrite r b d s
  else if a = hdr b + 0x20 then commitWrite b d s
  else match b with
    | .sys => sysWrite r a d s
    | .hpm => hpmWrite r a d s
    | .fab => fabWrite a d s
    | .thy => thyWrite a d s
    | .ndl => ndlWrite a d s
    | .eng => engWrite r a d s
    | .giu => giuWrite a d s
    | .adc u => if a = aADC_SWTRIG u.val then swTrig u.val (d.fld 0 8) s else storeAt a a d s
    | .fbi =>
      match idxAt (aFB_CMD 0) 0x40 16 a with
      | some c => fbCmd c d s
      | none => storeAt a a d s
    | .amu => amuWrite a d s
    | .can c => canPageWrite r c.val a d s
    | .msio => msioWrite a d s
    | .pair => if a = aPAIR_CMD then pairCmd (d.fld 0 4) s else storeAt a a d s
    | .recorder => recWrite r a d s
    | .bist => if a = aBIST_CMD then bistCmd d s else storeAt a a d s
    | .sage => sageWrite a d s
    | .apc => apcWrite a d s
    | .hrp => storeAt a a d s

/-- The key of the register a requester reaches at an address: a register of the context it has selected, or the one there. -/
def State.keyAt (s : State) (r : Req) (a : Nat) : Nat :=
  if 0x40051000 ≤ a && a < 0x40052000 then inst (s.wsel r) a else a

/-- W1C bits that hardware sets in the cycle of a write stay set (R27). -/
def keepSet (r : Req) (a : Nat) (hw : Word) (s : State) : State :=
  match specAt a with
  | some g =>
    let m := hw &&& fieldMask (fun f => decide (f.acc = .w1c)) g.fields
    if m = 0 then s else s.wr (s.keyAt r a) (s.rd (s.keyAt r a) ||| m)
  | none => s

/-- A write reaches its block: after a boundary of the same cycle (R24; 06_thyme_and_pwm.md R211), and beside what hardware sets in it
(R27). -/
def regArrive (r : Req) (b : Block) (a : Nat) (d hw : Word) (s : State) : State :=
  keepSet r a hw (regWrite r b a d (handFirst a (frameFirst b s)))

/-! Memory (R13; 03_basil_control_engine.md R72, R106). -/

/-- May the requester write `n` bytes there, apart from what a refusal flags? -/
def State.memOk (s : State) (r : Req) (a n : Nat) : Bool :=
  (r = .apc0 || r = .apc1) && regionAt (a + n - 1) == regionAt a &&
  (match regionAt a with
    | .sram => true
    | .ctxArea => a % n = 0 && decide ((s.ctx ((a - 0x30000000) / 0x800)).st = .off)
    | .kernelStore => a % n = 0 && s.get fENG_KS_STAT_state = 1
    | _ => false)

/-- The low bytes of a word are stored, as many as the access is wide. A supervision word of a context area keeps its range
(03_basil_control_engine.md R101). -/
def memStore (sz : AccSize) (a : Nat) (d : Word) (s : State) : State :=
  let s := if sz = .word then s.memPut a d else s.memBytes a ((wordBytes d).take (accBytes sz))
  let b := a / 4 * 4
  if regionAt a = .ctxArea && 0x300 ≤ b % 0x800 && b % 0x800 < 0x310 then s.memPut b (supWord (b % 0x800) (s.mem32 b)) else s

/-- A write to memory outside the peripheral pages. -/
def writeMem (r : Req) (a : Nat) (sz : AccSize) (d : Word) (s : State) : State :=
  let i := islandAt a
  let load := decide (regionAt a = .kernelStore) && s.get fENG_KS_STAT_state = 1
  if regionAt a = .none || r = .hrp then busFault r a .refused s
  else if !s.isRun i && !load then busFault r a .absent (fabAbsent i s)
  else
    let s := fabUse (reqIsland r) i 0 s
    if s.memOk r a (accBytes sz) then busOk r 0 (memStore sz a d s)
    else busFault r a .refused (if regionAt a = .ctxArea then ctxWrErr s else s)

/-- A value written by a requester to an address (R13 to R18, R26); in the peripheral pages only a whole word (R15). -/
def writeAt (r : Req) (a : Nat) (sz : AccSize) (d hw : Word) (s : State) : State :=
  match blockAt a with
  | none => writeMem r a sz d s
  | some b => if sz = .word then access r a true (regArrive r b a d hw) s else accessNarrow r b a true s

/-- REGISTER_WRITE (R26). -/
def execRegisterWrite (r : Req) (a : BusAddr) (d : WrWord) (s : State) : Host.Outcome State Fault Refusal :=
  done (writeAt r a.at_ a.sz d.d d.hw s)

/-- TMR_CLR (R17). -/
def execTmrClr (r : Req) (b : Block) (s : State) : Host.Outcome State Fault Refusal := cmdAt r (hdr b + 8) (tmrClr b) s
/-- CRC_EN (R30). -/
def execCrcEn (r : Req) (b : Block) (on : Bool) (s : State) : Host.Outcome State Fault Refusal :=
  cmdAt r (hdr b + 8) (crcEn b on) s
/-- TMR_SCRUB (R28). -/
def execTmrScrub (s : State) : Host.Outcome State Fault Refusal := done (tmrScrub s)
/-- CRC_PASS (R31). -/
def execCrcPass (b : Block) (s : State) : Host.Outcome State Fault Refusal := done (crcPass b s)

end Sys2Proof.Machine
end

