-- ==== Sys2Proof/Machine/Hrp.lean ====
section
/-! DEFINITION. The host register port (01_register_pages.md R36 to R42): transactions as the bytes of R37, most significant first. -/
namespace Sys2Proof.Machine

/-- The bytes of a word, most significant first (R36). -/
def wordBytesBe (w : Word) : List Byte := (wordBytes w).reverse

/-- CRC-16 of the HRP (R38). -/
def hrpCrc (bs : List Byte) : Nat := crc16 0xFFFF bs

/-- The bytes a host CRC covers: CMD, LEN, ADDR and, of a write, DATA (R37). -/
def hrpFrame (cmd len : Nat) (a : Word) (ws : List Word) : List Byte :=
  [BitVec.ofNat 8 cmd, BitVec.ofNat 8 (len - 1)] ++ wordBytesBe a ++ ws.flatMap wordBytesBe

/-- The reply: start byte, CODE, INDEX, DATA of a read, and the CRC-16 over CODE to the end of DATA (R37). -/
def hrpReply (code index : Nat) (ws : List Word) : List Byte :=
  let b := [BitVec.ofNat 8 code, BitVec.ofNat 8 index] ++ ws.flatMap wordBytesBe
  [0x5A] ++ b ++ (natBytes 2 (hrpCrc b)).reverse

/-- Does the HRP answer transactions (R41; 02_islands_and_credits.md R46)? -/
def State.hrpOn (s : State) : Bool := s.on fHRP_CFG_hrp_en && !s.bus.hrpOff

/-- The target sends the reply to the transaction recorded in HRP_LAST. -/
def hrpSend (s : State) : State :=
  if s.hrpOn then
    s.setBus { s.bus with hrpOut := hrpReply (s.get fHRP_LAST_code) (s.get fHRP_LAST_index) s.bus.hrpData }
  else s

/-- The status code an access by the HRP would get (R39, R41, R42). Where an island not in RUN meets a write the port may not make,
ABSENT comes first (DESIGN CHOICE, log entry 38). -/
def State.hrpCode (s : State) (a : Nat) (wr : Bool) : Nat :=
  match blockAt a with
  | none => 4
  | some b =>
    match s.verdict .hrp b a wr with
    | .ok => 0
    | .undefined => 4
    | .denied => 5
    | .absent => 6

/-- The outcome of a transaction is recorded (R39, R41): CMD, CODE, INDEX. -/
def hrpEnd (cmd code index : Nat) (s : State) : State :=
  let s := s.wr aHRP_LAST (BitVec.ofNat 32 (cmd % 256 * 0x10000 + index % 256 * 0x100 + code))
  let s := if code = 1 then s.incrSat fHRP_CRC_CNT_cnt else s
  s.incr fHRP_XFER_CNT_cnt

/-- One word after the other, from address `a`, up to the first refused one (R39). `go` makes the access. Answers the code and the number
of words executed. -/
def hrpWords {α : Type} (wr : Bool) (go : Nat → α → State → State) : List α → Nat → Nat → State → Nat × Nat × State
  | [], _, n, s => (0, n, s)
  | x :: r, a, n, s =>
    let code := s.hrpCode a wr
    let s := go a x (s.wr aHRP_LAST_ADDR (BitVec.ofNat 32 a))
    if code = 0 then hrpWords wr go r (a + 4) (n + 1) s else (code, n, s)

/-- A read word joins the data that is sent back. -/
def hrpTake (a : Nat) (s : State) : State :=
  let was := s.bus.hrpData
  let s := readAt .hrp a .word none s
  s.setBus { s.bus with hrpData := was ++ [if s.bus.kind = .ok then s.bus.data else 0] }

/-- A transaction with a known CMD (R37 to R39): the host CRC is checked before any word (R38). A wrong CRC is answered before an
unaligned ADDR (DESIGN CHOICE, log entry 38). -/
def hrpXfer {α : Type} (cmd : Nat) (wr : Bool) (go : Nat → α → State → State) (l : List α) (a : Nat) (crcOk : Bool) (s : State) : State :=
  if !s.hrpOn then s
  else
    let s := s.setBus { s.bus with hrpData := [] }
    if !crcOk then hrpEnd cmd 1 0 s
    else if a % 4 ≠ 0 then hrpEnd cmd 3 0 s
    else
      let (code, n, s) := hrpWords wr go l a 0 s
      hrpEnd cmd code n s

/-- The words from INDEX on are sent as 0 (R39). -/
def hrpFill (n : Nat) (s : State) : State :=
  let d := s.bus.hrpData
  if s.hrpOn then s.setBus { s.bus with hrpData := d.take n ++ List.replicate (n - d.length) 0 } else s

/-- HRP_READ (R37). -/
def execHrpRead (a : BitVec 32) (len : Nat) (crc : BitVec 16) (s : State) : Host.Outcome State Fault Refusal :=
  if len = 0 || 64 < len then .fault .malformed
  else
    let ok := crc.toNat == hrpCrc (hrpFrame 0x0B len a [])
    done (hrpSend (hrpFill len (hrpXfer 0x0B false (fun a (_ : Nat) s => hrpTake a s) (List.range len) a.toNat ok s)))

/-- HRP_WRITE (R37). -/
def execHrpWrite (a : BitVec 32) (ws : List (BitVec 32)) (crc : BitVec 16) (s : State) : Host.Outcome State Fault Refusal :=
  if ws.isEmpty || 64 < ws.length then .fault .malformed
  else
    let ok := crc.toNat == hrpCrc (hrpFrame 0x02 ws.length a ws)
    done (hrpSend (hrpXfer 0x02 true (fun a d s => writeAt .hrp a .word d 0 s) ws a.toNat ok s))

/-- HRP_CS_ABORT (R40): after `sent` words of read data; the rest of the reply is not sent. -/
def execHrpCsAbort (sent : Nat) (s : State) : Host.Outcome State Fault Refusal :=
  let b := s.bus
  let d := b.hrpData.take sent
  done (s.setBus { b with hrpData := d, hrpOut := b.hrpOut.take (3 + 4 * d.length) })

/-- HRP_UNKNOWN_CMD (R39): no word is executed. Code 2 whatever the CRC: the length of such a transaction is not defined (DESIGN
CHOICE, log entry 38). -/
def execHrpUnknownCmd (cmd : Fin 256) (s : State) : Host.Outcome State Fault Refusal :=
  done (if !s.hrpOn || cmd.val = 0x0B || cmd.val = 0x02 then s
    else hrpSend (hrpEnd cmd.val 2 0 (s.setBus { s.bus with hrpData := [] })))

end Sys2Proof.Machine
end

