-- ==== Sys2Proof/Machine/Dispatch.lean ====
section
/-! DEFINITION. exec: one arm for each command, each a direct call of the command's meaning. -/
namespace Sys2Proof.Machine

/-- The effect of a command on everything but the queue. -/
def exec (i : Instr) (s : State) : Host.Outcome State Fault Refusal :=
  match i with
  | .registerWrite r a d => Sys2Proof.Machine.execRegisterWrite r a d s
  | .readClear r a ev => Sys2Proof.Machine.execReadClear r a ev s
  | .thyNowRead r => Sys2Proof.Machine.execThyNowRead r s
  | .ctrlSrst r b => Sys2Proof.Machine.execCtrlSrst r b s
  | .tmrClr r b => Sys2Proof.Machine.execTmrClr r b s
  | .crcEn r b on => Sys2Proof.Machine.execCrcEn r b on s
  | .commit r b gen => Sys2Proof.Machine.execCommit r b gen s
  | .commitAbort r b => Sys2Proof.Machine.execCommitAbort r b s
  | .blockBoundary b => Sys2Proof.Machine.execBlockBoundary b s
  | .tmrScrub => Sys2Proof.Machine.execTmrScrub s
  | .crcPass b => Sys2Proof.Machine.execCrcPass b s
  | .hrpRead a len crc => Sys2Proof.Machine.execHrpRead a len crc s
  | .hrpWrite a ws crc => Sys2Proof.Machine.execHrpWrite a ws crc s
  | .hrpCsAbort sent => Sys2Proof.Machine.execHrpCsAbort sent s
  | .requestArrival q ix urg tag ep idw => Sys2Proof.Machine.execRequestArrival q ix urg tag ep idw s
  | .reply q ix urg tag ep => Sys2Proof.Machine.execReply q ix urg tag ep s
  | .clockGate ix => Sys2Proof.Machine.execClockGate ix s
  | .drainComplete ix => Sys2Proof.Machine.execDrainComplete ix s
  | .drainTimeout ix => Sys2Proof.Machine.execDrainTimeout ix s
  | .retireComplete ix => Sys2Proof.Machine.execRetireComplete ix s
  | .retireOvertime ix => Sys2Proof.Machine.execRetireOvertime ix s
  | .resetRelease ix => Sys2Proof.Machine.execResetRelease ix s
  | .creditAudit => Sys2Proof.Machine.execCreditAudit s
  | .admitCtx r => Sys2Proof.Machine.execAdmitCtx r s
  | .startCtx r => Sys2Proof.Machine.execStartCtx r s
  | .stopCtx r => Sys2Proof.Machine.execStopCtx r s
  | .releaseCtx r => Sys2Proof.Machine.execReleaseCtx r s
  | .clearCtx r => Sys2Proof.Machine.execClearCtx r s
  | .trig r => Sys2Proof.Machine.execTrig r s
  | .sampleInstant k => Sys2Proof.Machine.execSampleInstant k s
  | .basilInput src inst sel raw pred => Sys2Proof.Machine.execBasilInput src inst sel raw pred s
  | .stepRelease k => Sys2Proof.Machine.execStepRelease k s
  | .latestStart k => Sys2Proof.Machine.execLatestStart k s
  | .stepStart => Sys2Proof.Machine.execStepStart s
  | .stepComplete l mis => Sys2Proof.Machine.execStepComplete l mis s
  | .stepDeadline k => Sys2Proof.Machine.execStepDeadline k s
  | .stageWord r d => Sys2Proof.Machine.execStageWord r d s
  | .paramCommit r gen => Sys2Proof.Machine.execParamCommit r gen s
  | .paramAbort r => Sys2Proof.Machine.execParamAbort r s
  | .integratorSet r v => Sys2Proof.Machine.execIntegratorSet r v s
  | .wselWrite r k => Sys2Proof.Machine.execWselWrite r k s
  | .ksReloadReq r => Sys2Proof.Machine.execKsReloadReq r s
  | .ksDone r => Sys2Proof.Machine.execKsDone r s
  | .ksVerify => Sys2Proof.Machine.execKsVerify s
  | .ctxCrcCheck k => Sys2Proof.Machine.execCtxCrcCheck k s
  | .pllStep u a b c => Sys2Proof.Machine.execPllStep u a b c s
  | .giuReference u id iq => Sys2Proof.Machine.execGiuReference u id iq s
  | .rtAck r u => Sys2Proof.Machine.execRtAck r u s
  | .mpptStep t => Sys2Proof.Machine.execMpptStep t s
  | .trackerItem t v ix olim safe run => Sys2Proof.Machine.execTrackerItem t v ix olim safe run s
  | .scanStart t => Sys2Proof.Machine.execScanStart t s
  | .trkScan r t => Sys2Proof.Machine.execTrkScan r t s
  | .scanDwell t => Sys2Proof.Machine.execScanDwell t s
  | .tbgStart r g => Sys2Proof.Machine.execTbgStart r g s
  | .tbgStop r g => Sys2Proof.Machine.execTbgStop r g s
  | .tbgBoundary g => Sys2Proof.Machine.execTbgBoundary g s
  | .handOff g => Sys2Proof.Machine.execHandOff g s
  | .tbgCommit r g gen => Sys2Proof.Machine.execTbgCommit r g gen s
  | .tbgCommitAbort r g => Sys2Proof.Machine.execTbgCommitAbort r g s
  | .compareWrite r n w v => Sys2Proof.Machine.execCompareWrite r n w v s
  | .cmpGenWrite r n gen => Sys2Proof.Machine.execCmpGenWrite r n gen s
  | .compareSet g => Sys2Proof.Machine.execCompareSet g s
  | .fineCalibration taps ok => Sys2Proof.Machine.execFineCalibration taps ok s
  | .tripSourceAssert x => Sys2Proof.Machine.execTripSourceAssert x s
  | .blankingEnd n => Sys2Proof.Machine.execBlankingEnd n s
  | .tripClear r n => Sys2Proof.Machine.execTripClear r n s
  | .tripClearArm r n => Sys2Proof.Machine.execTripClearArm r n s
  | .mgTripClear r m => Sys2Proof.Machine.execMgTripClear r m s
  | .mgTripClearArm r m => Sys2Proof.Machine.execMgTripClearArm r m s
  | .deferredClear t => Sys2Proof.Machine.execDeferredClear t s
  | .pulseOff r m => Sys2Proof.Machine.execPulseOff r m s
  | .asc r m => Sys2Proof.Machine.execAsc r m s
  | .dischargeWinding r m => Sys2Proof.Machine.execDischargeWinding r m s
  | .dischargeBleed r m => Sys2Proof.Machine.execDischargeBleed r m s
  | .mgRelease r m => Sys2Proof.Machine.execMgRelease r m s
  | .portEnable r p => Sys2Proof.Machine.execPortEnable r p s
  | .portDisable r p => Sys2Proof.Machine.execPortDisable r p s
  | .trainComplete p => Sys2Proof.Machine.execTrainComplete p s
  | .capsComplete p => Sys2Proof.Machine.execCapsComplete p s
  | .trainTimeout p => Sys2Proof.Machine.execTrainTimeout p s
  | .lossRetrain p => Sys2Proof.Machine.execLossRetrain p s
  | .linkLoss p => Sys2Proof.Machine.execLinkLoss p s
  | .resendTimeout e => Sys2Proof.Machine.execResendTimeout e s
  | .cellSend e => Sys2Proof.Machine.execCellSend e s
  | .edge p x h t slot ls on prof => Sys2Proof.Machine.execEdge p x h t slot ls on prof s
  | .retract p x h t slot ls on => Sys2Proof.Machine.execRetract p x h t slot ls on s
  | .force p x h id mask pat mode dly fin => Sys2Proof.Machine.execForce p x h id mask pat mode dly fin s
  | .sampleReq p x h t smask qmask chk => Sys2Proof.Machine.execSampleReq p x h t smask qmask chk s
  | .probe p x id => Sys2Proof.Machine.execProbe p x id s
  | .adjust p x corr rate => Sys2Proof.Machine.execAdjust p x corr rate s
  | .syncSet p x t => Sys2Proof.Machine.execSyncSet p x t s
  | .hintReact p x h react hold => Sys2Proof.Machine.execHintReact p x h react hold s
  | .hintPeriod p x h slot per => Sys2Proof.Machine.execHintPeriod p x h slot per s
  | .cfgWr p x h a d => Sys2Proof.Machine.execCfgWr p x h a d s
  | .cfgRd p x h a => Sys2Proof.Machine.execCfgRd p x h a s
  | .claim p x h => Sys2Proof.Machine.execClaim p x h s
  | .give p x h => Sys2Proof.Machine.execGive p x h s
  | .query p x h => Sys2Proof.Machine.execQuery p x h s
  | .fillCell p x seq ack nak => Sys2Proof.Machine.execFillCell p x seq ack nak s
  | .result p h t slot ls on out => Sys2Proof.Machine.execResult p h t slot ls on out s
  | .status p h cred fid fidV peer qent ilk dlErr => Sys2Proof.Machine.execStatus p h cred fid fidV peer qent ilk dlErr s
  | .telem p h slot flags vboot temp vdrv dsat => Sys2Proof.Machine.execTelem p h slot flags vboot temp vdrv dsat s
  | .syncRsp p h id a2 turn t4 => Sys2Proof.Machine.execSyncRsp p h id a2 turn t4 s
  | .cfgRsp p h a d => Sys2Proof.Machine.execCfgRsp p h a d s
  | .tokenRsp p h res holder => Sys2Proof.Machine.execTokenRsp p h res holder s
  | .sampleCell p h slot ix v vdc => Sys2Proof.Machine.execSampleCell p h slot ix v vdc s
  | .checkCell p h slot ix vdc cnt => Sys2Proof.Machine.execCheckCell p h slot ix vdc cnt s
  | .probePeriod p => Sys2Proof.Machine.execProbePeriod p s
  | .hintRefresh p => Sys2Proof.Machine.execHintRefresh p s
  | .forceResend p => Sys2Proof.Machine.execForceResend p s
  | .edgeExecute p x => Sys2Proof.Machine.execEdgeExecute p x s
  | .sampleTake p x ix v vdc => Sys2Proof.Machine.execSampleTake p x ix v vdc s
  | .forceHoldEnd p slot => Sys2Proof.Machine.execForceHoldEnd p slot s
  | .suppressed p x => Sys2Proof.Machine.execSuppressed p x s
  | .statusPeriodic p x => Sys2Proof.Machine.execStatusPeriodic p x s
  | .telemPeriodic p x slot => Sys2Proof.Machine.execTelemPeriodic p x slot s
  | .desaturation p slot ls => Sys2Proof.Machine.execDesaturation p slot ls s
  | .undervoltage p slot ls => Sys2Proof.Machine.execUndervoltage p slot ls s
  | .satPortLoss p x => Sys2Proof.Machine.execSatPortLoss p x s
  | .patternHoldExpiry p slot => Sys2Proof.Machine.execPatternHoldExpiry p slot s
  | .satPowerUp p => Sys2Proof.Machine.execSatPowerUp p s
  | .bankActivation p x => Sys2Proof.Machine.execBankActivation p x s
  | .ndlTokenClaim r p => Sys2Proof.Machine.execNdlTokenClaim r p s
  | .ndlTokenGive r p => Sys2Proof.Machine.execNdlTokenGive r p s
  | .ndlTokenQuery r p => Sys2Proof.Machine.execNdlTokenQuery r p s
  | .mainClockCheck ticks => Sys2Proof.Machine.execMainClockCheck ticks s
  | .sageClockCheck cyc stopped => Sys2Proof.Machine.execSageClockCheck cyc stopped s
  | .sageSupplyCheck core safe => Sys2Proof.Machine.execSageSupplyCheck core safe s
  | .aliveLoss => Sys2Proof.Machine.execAliveLoss s
  | .sageReset r => Sys2Proof.Machine.execSageReset r s
  | .aliveResumeTimeout => Sys2Proof.Machine.execAliveResumeTimeout s
  | .lockstepMismatch x cause => Sys2Proof.Machine.execLockstepMismatch x cause s
  | .lockstepInject r ix => Sys2Proof.Machine.execLockstepInject r ix s
  | .sageLsInject r => Sys2Proof.Machine.execSageLsInject r s
  | .debugHalt x => Sys2Proof.Machine.execDebugHalt x s
  | .sageEvent e named test => Sys2Proof.Machine.execSageEvent e named test s
  | .torqueEvaluation m => Sys2Proof.Machine.execTorqueEvaluation m s
  | .liveness k => Sys2Proof.Machine.execLiveness k s
  | .kbSupervision => Sys2Proof.Machine.execKbSupervision s
  | .sagePulseOff r => Sys2Proof.Machine.execSagePulseOff r s
  | .sageAsc r => Sys2Proof.Machine.execSageAsc r s
  | .sageDefault r => Sys2Proof.Machine.execSageDefault r s
  | .sageDischargeWinding r => Sys2Proof.Machine.execSageDischargeWinding r s
  | .sageDischargeBleed r => Sys2Proof.Machine.execSageDischargeBleed r s
  | .sageRelease r => Sys2Proof.Machine.execSageRelease r s
  | .dischargeDone m => Sys2Proof.Machine.execDischargeDone m s
  | .dischargeTimeout m => Sys2Proof.Machine.execDischargeTimeout m s
  | .dischargeStall m => Sys2Proof.Machine.execDischargeStall m s
  | .dischargeNodata m => Sys2Proof.Machine.execDischargeNodata m s
  | .nsSet r => Sys2Proof.Machine.execNsSet r s
  | .nsClear r => Sys2Proof.Machine.execNsClear r s
  | .pinAssert r pins => Sys2Proof.Machine.execPinAssert r pins s
  | .pinRelease r pins => Sys2Proof.Machine.execPinRelease r pins s
  | .wdgService r key => Sys2Proof.Machine.execWdgService r key s
  | .wdgExpiry => Sys2Proof.Machine.execWdgExpiry s
  | .apcWdgService r ix key => Sys2Proof.Machine.execApcWdgService r ix key s
  | .apcWdgExpiry ix => Sys2Proof.Machine.execApcWdgExpiry ix s
  | .pairJoin r => Sys2Proof.Machine.execPairJoin r s
  | .pairLeave r => Sys2Proof.Machine.execPairLeave r s
  | .handover r => Sys2Proof.Machine.execHandover r s
  | .yield r => Sys2Proof.Machine.execYield r s
  | .pairClaim r => Sys2Proof.Machine.execPairClaim r s
  | .heartSend => Sys2Proof.Machine.execHeartSend s
  | .heart h groups => Sys2Proof.Machine.execHeart h groups s
  | .timeProbeSend => Sys2Proof.Machine.execTimeProbeSend s
  | .timeProbe h => Sys2Proof.Machine.execTimeProbe h s
  | .timeResp h a2 turn t4 => Sys2Proof.Machine.execTimeResp h a2 turn t4 s
  | .mirror h k step run img outs => Sys2Proof.Machine.execMirror h k step run img outs s
  | .sealRecord h k step run => Sys2Proof.Machine.execSealRecord h k step run s
  | .cancelRecord h k step => Sys2Proof.Machine.execCancelRecord h k step s
  | .setRec h g gen t per part parts legs => Sys2Proof.Machine.execSetRec h g gen t per part parts legs s
  | .ctrlCheck h v => Sys2Proof.Machine.execCtrlCheck h v s
  | .checkOk h => Sys2Proof.Machine.execCheckOk h s
  | .checkFail h => Sys2Proof.Machine.execCheckFail h s
  | .quit h => Sys2Proof.Machine.execQuit h s
  | .synced h => Sys2Proof.Machine.execSynced h s
  | .bulk h k step run img outs => Sys2Proof.Machine.execBulk h k step run img outs s
  | .pairLoss => Sys2Proof.Machine.execPairLoss s
  | .claimRepeat => Sys2Proof.Machine.execClaimRepeat s
  | .takeoverWindowEnd => Sys2Proof.Machine.execTakeoverWindowEnd s
  | .pairRetrain => Sys2Proof.Machine.execPairRetrain s
  | .joinTimeout => Sys2Proof.Machine.execJoinTimeout s
  | .siChange ix lvl => Sys2Proof.Machine.execSiChange ix lvl s
  | .offPulse j => Sys2Proof.Machine.execOffPulse j s
  | .inputTest ix pass => Sys2Proof.Machine.execInputTest ix pass s
  | .siFaultClear r mask => Sys2Proof.Machine.execSiFaultClear r mask s
  | .discrepancy k => Sys2Proof.Machine.execDiscrepancy k s
  | .syncFail k => Sys2Proof.Machine.execSyncFail k s
  | .evReset r mask => Sys2Proof.Machine.execEvReset r mask s
  | .evFaultClear r mask => Sys2Proof.Machine.execEvFaultClear r mask s
  | .readbackFault j on => Sys2Proof.Machine.execReadbackFault j on s
  | .soFaultClear r mask => Sys2Proof.Machine.execSoFaultClear r mask s
  | .safeCopy c netB bs => Sys2Proof.Machine.execSafeCopy c netB bs s
  | .pairWindow c => Sys2Proof.Machine.execPairWindow c s
  | .smTimeout c => Sys2Proof.Machine.execSmTimeout c s
  | .safeSend c => Sys2Proof.Machine.execSafeSend c s
  | .rearm r c => Sys2Proof.Machine.execRearm r c s
  | .adcRequest u j => Sys2Proof.Machine.execAdcRequest u j s
  | .sequenceTrigger u n => Sys2Proof.Machine.execSequenceTrigger u n s
  | .swtrig r u mask => Sys2Proof.Machine.execSwtrig r u mask s
  | .spreadRun u n first => Sys2Proof.Machine.execSpreadRun u n first s
  | .conversionStart u => Sys2Proof.Machine.execConversionStart u s
  | .conversionComplete u sl raw => Sys2Proof.Machine.execConversionComplete u sl raw s
  | .lateAbort u => Sys2Proof.Machine.execLateAbort u s
  | .streamAverage u sum => Sys2Proof.Machine.execStreamAverage u sum s
  | .adcRecordSend u => Sys2Proof.Machine.execAdcRecordSend u s
  | .resolverSample u ch half => Sys2Proof.Machine.execResolverSample u ch half s
  | .encoderEdge c a b z t => Sys2Proof.Machine.execEncoderEdge c a b z t s
  | .indexEvent c => Sys2Proof.Machine.execIndexEvent c s
  | .fbArm r c => Sys2Proof.Machine.execFbArm r c s
  | .fbClr r c => Sys2Proof.Machine.execFbClr r c s
  | .fbPreset r c => Sys2Proof.Machine.execFbPreset r c s
  | .resolverEnvelope n sn cs los t => Sys2Proof.Machine.execResolverEnvelope n sn cs los t s
  | .resolverStale n => Sys2Proof.Machine.execResolverStale n s
  | .emulationEdge e => Sys2Proof.Machine.execEmulationEdge e s
  | .moveAxis r k => Sys2Proof.Machine.execMoveAxis r k s
  | .runForward r k => Sys2Proof.Machine.execRunForward r k s
  | .runBackward r k => Sys2Proof.Machine.execRunBackward r k s
  | .axisStop r k => Sys2Proof.Machine.execAxisStop r k s
  | .axisHalt r k => Sys2Proof.Machine.execAxisHalt r k s
  | .homeForward r k => Sys2Proof.Machine.execHomeForward r k s
  | .homeBackward r k => Sys2Proof.Machine.execHomeBackward r k s
  | .chopFaultClear r k => Sys2Proof.Machine.execChopFaultClear r k s
  | .stepTimer k => Sys2Proof.Machine.execStepTimer k s
  | .rampWrite r k w v => Sys2Proof.Machine.execRampWrite r k w v s
  | .limit k pos lvl => Sys2Proof.Machine.execLimit k pos lvl s
  | .homeEdge k lvl => Sys2Proof.Machine.execHomeEdge k lvl s
  | .chopComparator k phB above => Sys2Proof.Machine.execChopComparator k phB above s
  | .chopFault k => Sys2Proof.Machine.execChopFault k s
  | .holdCurrent k => Sys2Proof.Machine.execHoldCurrent k s
  | .frameReceived c f sof => Sys2Proof.Machine.execFrameReceived c f sof s
  | .frameTransmitted c sof => Sys2Proof.Machine.execFrameTransmitted c sof s
  | .busError c kind recessive field => Sys2Proof.Machine.execBusError c kind recessive field s
  | .integration c => Sys2Proof.Machine.execIntegration c s
  | .busOffRecovery c => Sys2Proof.Machine.execBusOffRecovery c s
  | .txRequest r c b => Sys2Proof.Machine.execTxRequest r c b s
  | .txAbort r c b => Sys2Proof.Machine.execTxAbort r c b s
  | .recover r c => Sys2Proof.Machine.execRecover r c s
  | .pop r c => Sys2Proof.Machine.execPop r c s
  | .episodeStart rail mv => Sys2Proof.Machine.execEpisodeStart rail mv s
  | .episodeEnd => Sys2Proof.Machine.execEpisodeEnd s
  | .supplyReset => Sys2Proof.Machine.execSupplyReset s
  | .unstableClear r => Sys2Proof.Machine.execUnstableClear r s
  | .opsecPersist => Sys2Proof.Machine.execOpsecPersist s
  | .powerDown r d => Sys2Proof.Machine.execPowerDown r d s
  | .powerUp r d => Sys2Proof.Machine.execPowerUp r d s
  | .ltrWrite r ltr => Sys2Proof.Machine.execLtrWrite r ltr s
  | .powerStateSelect => Sys2Proof.Machine.execPowerStateSelect s
  | .wake src => Sys2Proof.Machine.execWake src s
  | .wakeTimer => Sys2Proof.Machine.execWakeTimer s
  | .xinLoss => Sys2Proof.Machine.execXinLoss s
  | .pllUnlock => Sys2Proof.Machine.execPllUnlock s
  | .clockReset => Sys2Proof.Machine.execClockReset s
  | .powerOnReset => Sys2Proof.Machine.execPowerOnReset s
  | .pinReset => Sys2Proof.Machine.execPinReset s
  | .softwareReset r key => Sys2Proof.Machine.execSoftwareReset r key s
  | .apcPairReset r ix key => Sys2Proof.Machine.execApcPairReset r ix key s
  | .debugReset => Sys2Proof.Machine.execDebugReset s
  | .boot us => Sys2Proof.Machine.execBoot us s
  | .thermalHold ts => Sys2Proof.Machine.execThermalHold ts s
  | .programRow r key => Sys2Proof.Machine.execProgramRow r key s
  | .raiseMinVer r key => Sys2Proof.Machine.execRaiseMinVer r key s
  | .rowComplete => Sys2Proof.Machine.execRowComplete s
  | .idcode => Sys2Proof.Machine.execIdcode s
  | .bypass => Sys2Proof.Machine.execBypass s
  | .samplePreload => Sys2Proof.Machine.execSamplePreload s
  | .extest => Sys2Proof.Machine.execExtest s
  | .dbgChal => Sys2Proof.Machine.execDbgChal s
  | .dbgResp bs => Sys2Proof.Machine.execDbgResp bs s
  | .thermalRead ts => Sys2Proof.Machine.execThermalRead ts s
  | .i2cTransfer r d => Sys2Proof.Machine.execI2cTransfer r d s
  | .i2cDone nak d => Sys2Proof.Machine.execI2cDone nak d s
  | .ringSearch => Sys2Proof.Machine.execRingSearch s
  | .recEvent code block inst t pay => Sys2Proof.Machine.execRecEvent code block inst t pay s
  | .recordWrite => Sys2Proof.Machine.execRecordWrite s
  | .softwareRecord r code => Sys2Proof.Machine.execSoftwareRecord r code s
  | .freeze r => Sys2Proof.Machine.execFreeze r s
  | .unfreeze r => Sys2Proof.Machine.execUnfreeze r s
  | .cursorSelect r idx => Sys2Proof.Machine.execCursorSelect r idx s
  | .cursorNewer r => Sys2Proof.Machine.execCursorNewer r s
  | .cursorOlder r => Sys2Proof.Machine.execCursorOlder r s
  | .cursorCopy r => Sys2Proof.Machine.execCursorCopy r s
  | .bistRequest r ix kinds => Sys2Proof.Machine.execBistRequest r ix kinds s
  | .bistRelease r ix => Sys2Proof.Machine.execBistRelease r ix s
  | .bistStart => Sys2Proof.Machine.execBistStart s
  | .bistComplete ix res sig info => Sys2Proof.Machine.execBistComplete ix res sig info s
  | .uplinkFill p ack nak tok react => Sys2Proof.Machine.execUplinkFill p ack nak tok react s
  | .invalidSlot e => Sys2Proof.Machine.execInvalidSlot e s
  | .slotRealign e => Sys2Proof.Machine.execSlotRealign e s
  | .pairLaneAlign => Sys2Proof.Machine.execPairLaneAlign s
  | .pairRecordDiscard => Sys2Proof.Machine.execPairRecordDiscard s
  | .telemFlagChange p slot flags => Sys2Proof.Machine.execTelemFlagChange p slot flags s
  | .tripSourceRelease x => Sys2Proof.Machine.execTripSourceRelease x s
  | .wdgWindowOpen d => Sys2Proof.Machine.execWdgWindowOpen d s
  | .loadWindow => Sys2Proof.Machine.execLoadWindow s
  | .arbitrationLoss c => Sys2Proof.Machine.execArbitrationLoss c s
  | .clockReturn => Sys2Proof.Machine.execClockReturn s
  | .debugResume x => Sys2Proof.Machine.execDebugResume x s
  | .patternHoldRepeat p slot => Sys2Proof.Machine.execPatternHoldRepeat p slot s
  | .hrpUnknownCmd cmd => Sys2Proof.Machine.execHrpUnknownCmd cmd s

end Sys2Proof.Machine
end

