-- ==== Sys2Proof/Machine/Idle.lean ====
section
/-! DEFINITION. One tick of Thyme (06_thyme_and_pwm.md R197), which passes on an empty queue (log entry 5). -/
namespace Sys2Proof.Machine

/-- The fine ticks of the next tick (R197): 32, and one fine tick added or withheld when THY_SLEW has summed up to one. -/
def State.slewStep (s : State) : Nat × Int :=
  let x := s.slewAcc + 32 * sext 16 (s.get fTHY_SLEW_slew)
  if 100000000 ≤ x then (33, x - 100000000) else if x ≤ -100000000 then (31, x + 100000000) else (32, x)

/-- One tick passes; MSIO samples once per microsecond (11_monitored_safe_io.md R393). -/
def idle (s : State) : State :=
  let (n, x) := s.slewStep
  let t := (s.setSlewAcc x).setNow (s.now + n)
  if t.now / us = s.now / us then t else msioSample t

end Sys2Proof.Machine
end

