-- ==== Sys2Proof/Safety.lean ====
section
/-! DEFINITION. What counts as a safe step, and the parts of the state a frame speaks of. -/
namespace Sys2Proof.Machine

/-- The step answers a next state. -/
def StepsOn (s : State) : Prop := ∃ t, step s = .next t

/-- The value a field of a register holds: that of copy A, which is the value the device uses where the copies agree
(01_register_pages.md R28). -/
def State.shows (s : State) (f : Fld) : Nat := (s.rd f.addr).fld f.lo f.w

/-- The command answers a next state: the state for which `P` holds, once Sage has handled the events the command raised
(09_sage_and_safe_states.md R336). -/
def Runs (c : Instr) (s : State) (P : State → Prop) : Prop := ∃ u, exec c s = .next (settle u) ∧ P u

/-- An access to a peripheral page is executed (01_register_pages.md R15 to R18, R42). -/
def State.grants (s : State) (r : Req) (a : Nat) (wr : Bool) : Bool :=
  match blockAt a with
  | some b => s.verdict r b a wr == .ok
  | none => false

/-- A satellite at the present moment: the on sides whose moment has come are on (08_ndotar_drive_link.md R295, R308). -/
def State.satNow (s : State) (p : Nat) : Sat := (s.sat p).settle s.now

/-- A received cell is the next in order at an end of a link, and asks for no resending (08_ndotar_drive_link.md R273). -/
def inOrder (h : CellHdr) (l : LinkSt) : Bool := h.seq.val == l.rxSeq && !h.nak

/-- The tok and react bits of an uplink cell are those the hub has taken, and no takeover runs (08_ndotar_drive_link.md R272, R312;
10_lovage_pairing.md R381). -/
def State.sameBits (s : State) (p : Nat) (h : CellHdr) : Bool :=
  (s.port p).tokKnown && s.on (fNDL_STAT_tok p) == h.tok && s.on (fNDL_STAT_react p) == h.react && s.pair.tko.isNone

/-- Every register but those of a list holds what it held. -/
def OnlyRegs (l : List Nat) (s u : State) : Prop := ∀ a, a ∉ l → u.rd a = s.rd a

/-- Every byte of memory but the `n` bytes from `a` on reads as before. -/
def OnlyMem (a n : Nat) (s u : State) : Prop := ∀ x, x < a ∨ a + n ≤ x → Memory.read u.mem x = Memory.read s.mem x

/-- The page of the register map the register under a key lies in, counted from the page of SYS and HPM: FAB 1, THY 2, its
legs and groups 3, NDL 4, ENG 5, GIU 6, ADC 7, FBI 8, AMU 9, CAN 10, MSIO 11, PAIR 12, REC 13, BIST 14, SAGE 15, APC 16, HRP 17
(01_register_pages.md R14). -/
def pageOf (a : Nat) : Nat := a % 2 ^ 32 / 2 ^ 16 - 0x4000

/-- A part of the state: the registers of one page, memory, or one of the other fields of State (the queue apart). -/
inductive Part where
  | regs (page : Fin 18)
  | mem
  | now
  | free
  | bnd
  | cmt
  | tmr
  | crcRun
  | bus
  | wardens
  | links
  | ctxs
  | stages
  | lanes
  | basil
  | giu
  | slewAcc
  | frames
  | tbgs
  | legs
  | mgs
  | trgs
  | ports
  | sats
  | sage
  | wdgs
  | tms
  | diss
  | livs
  | apcs
  | pair
  | msio
  | adcs
  | fbs
  | ress
  | emus
  | amu
  | cans
  | hpm
  | rosem
  | bist
  deriving DecidableEq, Repr

/-- Two states hold the same in a part. -/
def Part.same (s t : State) : Part → Prop
  | .regs k => ∀ a, pageOf a = k.val → t.rd a = s.rd a
  | .mem => t.mem = s.mem
  | .now => t.now = s.now
  | .free => t.free = s.free
  | .bnd => t.bnd = s.bnd
  | .cmt => t.cmt = s.cmt
  | .tmr => t.tmr = s.tmr
  | .crcRun => t.crcRun = s.crcRun
  | .bus => t.bus = s.bus
  | .wardens => t.wardens = s.wardens
  | .links => t.links = s.links
  | .ctxs => t.ctxs = s.ctxs
  | .stages => t.stages = s.stages
  | .lanes => t.lanes = s.lanes
  | .basil => t.basil = s.basil
  | .giu => t.giu = s.giu
  | .slewAcc => t.slewAcc = s.slewAcc
  | .frames => t.frames = s.frames
  | .tbgs => t.tbgs = s.tbgs
  | .legs => t.legs = s.legs
  | .mgs => t.mgs = s.mgs
  | .trgs => t.trgs = s.trgs
  | .ports => t.ports = s.ports
  | .sats => t.sats = s.sats
  | .sage => t.sage = s.sage
  | .wdgs => t.wdgs = s.wdgs
  | .tms => t.tms = s.tms
  | .diss => t.diss = s.diss
  | .livs => t.livs = s.livs
  | .apcs => t.apcs = s.apcs
  | .pair => t.pair = s.pair
  | .msio => t.msio = s.msio
  | .adcs => t.adcs = s.adcs
  | .fbs => t.fbs = s.fbs
  | .ress => t.ress = s.ress
  | .emus => t.emus = s.emus
  | .amu => t.amu = s.amu
  | .cans => t.cans = s.cans
  | .hpm => t.hpm = s.hpm
  | .rosem => t.rosem = s.rosem
  | .bist => t.bist = s.bist

/-- Outside the parts of a list, two states hold the same, and the same commands wait in both. -/
def Agree (ps : List Part) (s t : State) : Prop := t.pending = s.pending ∧ ∀ p, p ∉ ps → Part.same s t p

/-- The parts the handling of an event and the entry into a safe state may change (07_trips_and_leg_protection.md R251,
09_sage_and_safe_states.md R336). -/
def safeParts : List Part :=
  [.regs 1, .regs 2, .regs 3, .regs 4, .regs 5, .regs 6, .regs 12, .regs 13, .regs 15,
   .regs 16, .mem, .wardens, .links, .ctxs, .giu, .tbgs, .legs, .mgs, .ports, .sage, .diss, .livs, .pair, .rosem]

/-- The parts a command may change before Sage handles what it caused; commands with the same parts stand together. -/
def touches : Instr → List Part
  | .registerWrite .. | .hrpWrite .. | .episodeEnd .. | .supplyReset .. | .ltrWrite .. | .powerStateSelect .. | .wake
    .. | .wakeTimer .. | .clockReset .. | .powerOnReset .. | .pinReset .. | .softwareReset .. | .debugReset .. |
    .thermalRead .. => safeParts ++ [.regs 0, .regs 7, .regs 8, .regs 9, .regs 10, .regs 11, .regs 14, .regs 17, .now,
    .free, .bnd, .cmt, .tmr, .crcRun, .bus, .stages, .lanes, .basil, .slewAcc, .frames, .trgs, .sats, .wdgs, .tms, .apcs,
    .msio, .adcs, .fbs, .ress, .emus, .amu, .cans, .hpm, .bist]
  | .readClear .. | .hrpRead .. => safeParts ++ [.regs 0, .regs 7, .regs 8, .regs 9, .regs 10, .regs 11, .regs 14,
    .regs 17, .free, .tmr, .bus]
  | .thyNowRead .. => [.regs 1, .regs 2, .bus, .wardens, .links, .sage]
  | .ctrlSrst .. | .apcPairReset .. => [.regs 0, .regs 1, .regs 2, .regs 3, .regs 4, .regs 5, .regs 6, .regs 7, .regs
    8, .regs 9, .regs 10, .regs 11, .regs 12, .regs 13, .regs 14, .regs 15, .regs 16, .regs 17, .mem, .bnd, .cmt, .bus,
    .wardens, .links, .ctxs, .giu, .tbgs, .sage, .livs, .pair, .amu]
  | .tmrClr .. | .sageReset .. => [.regs 0, .regs 1, .regs 2, .regs 3, .regs 4, .regs 5, .regs 6, .regs 7, .regs 8,
    .regs 9, .regs 10, .regs 11, .regs 12, .regs 13, .regs 14, .regs 15, .regs 16, .regs 17, .bus, .wardens, .links,
    .sage]
  | .crcEn .. => [.regs 0, .regs 1, .regs 2, .regs 3, .regs 4, .regs 5, .regs 6, .regs 7, .regs 8, .regs 9, .regs 10,
    .regs 11, .regs 12, .regs 13, .regs 14, .regs 15, .regs 16, .regs 17, .crcRun, .bus, .wardens, .links, .sage]
  | .commit .. | .commitAbort .. => safeParts ++ [.regs 0, .regs 7, .regs 8, .regs 9, .regs 10, .regs 11, .regs 14,
    .regs 17, .now, .bnd, .cmt, .tmr, .crcRun, .bus, .frames, .tms, .msio, .adcs, .fbs, .ress, .emus, .amu]
  | .blockBoundary .. => safeParts ++ [.regs 0, .regs 7, .regs 8, .regs 9, .regs 10, .regs 11, .regs 14, .regs 17,
    .now, .bnd, .cmt, .tmr, .crcRun, .frames, .tms, .msio, .adcs, .fbs, .ress, .emus, .amu, .cans]
  | .tmrScrub .. => safeParts ++ [.regs 0, .regs 7, .regs 8, .regs 9, .regs 10, .regs 11, .regs 14, .regs 17, .now,
    .tmr, .frames]
  | .crcPass .. => [.regs 0, .regs 1, .regs 2, .regs 3, .regs 4, .regs 5, .regs 6, .regs 7, .regs 8, .regs 9, .regs 10,
    .regs 11, .regs 12, .regs 13, .regs 14, .regs 15, .regs 16, .regs 17, .crcRun, .sage]
  | .hrpCsAbort .. => [.bus]
  | .requestArrival .. | .recEvent .. => [.regs 1, .regs 13, .wardens, .links, .rosem]
  | .reply .. => [.regs 1, .regs 13, .wardens, .links, .sage, .rosem]
  | .clockGate .. => [.now, .wardens]
  | .drainComplete .. => safeParts ++ [.regs 0, .regs 7, .regs 8, .regs 9, .regs 10, .regs 11, .regs 14, .regs 17,
    .adcs, .ress, .cans]
  | .drainTimeout .. => safeParts ++ [.regs 0, .regs 7, .regs 8, .regs 9, .regs 10, .regs 11, .regs 14, .regs 17, .now,
    .adcs, .ress, .cans]
  | .retireComplete .. | .episodeStart .. => safeParts ++ [.regs 0, .regs 7, .regs 8, .regs 9, .regs 10, .regs 11,
    .regs 14, .regs 17, .now, .bnd, .cmt, .tmr, .crcRun, .bus, .stages, .lanes, .basil, .trgs, .wdgs, .tms, .apcs, .msio,
    .adcs, .fbs, .ress, .emus, .amu, .cans, .hpm, .bist]
  | .retireOvertime .. => [.regs 1, .regs 13, .now, .wardens, .links, .sage, .rosem]
  | .resetRelease .. => [.regs 0, .regs 1, .regs 2, .regs 3, .regs 4, .regs 5, .regs 6, .regs 7, .regs 8, .regs 9,
    .regs 10, .regs 11, .regs 12, .regs 13, .regs 14, .regs 15, .regs 16, .regs 17, .now, .wardens, .sage, .wdgs, .apcs,
    .hpm]
  | .creditAudit .. => [.regs 1, .regs 13, .now, .wardens, .links, .frames, .sage, .rosem]
  | .admitCtx .. | .startCtx .. | .stopCtx .. | .releaseCtx .. | .clearCtx .. => safeParts ++ [.bnd, .cmt, .bus,
    .lanes, .basil]
  | .trig .. => safeParts ++ [.regs 8, .free, .bnd, .cmt, .bus, .lanes, .basil, .fbs]
  | .sampleInstant .. => safeParts ++ [.regs 8, .now, .free, .bnd, .lanes, .basil, .fbs]
  | .basilInput .. => [.regs 1, .wardens, .links, .ctxs, .basil]
  | .stepRelease .. | .ctxCrcCheck .. => safeParts ++ [.lanes]
  | .latestStart .. | .stepComplete .. | .stepDeadline .. => safeParts ++ [.now, .lanes, .basil]
  | .stepStart .. => [.mem, .ctxs, .lanes, .basil]
  | .stageWord .. | .wselWrite .. => [.regs 1, .regs 5, .bus, .wardens, .links, .stages, .sage]
  | .paramCommit .. => [.regs 1, .regs 5, .mem, .bus, .wardens, .links, .ctxs, .stages, .sage]
  | .paramAbort .. => [.regs 1, .regs 5, .bus, .wardens, .links, .ctxs, .stages, .sage]
  | .integratorSet .. => [.regs 1, .regs 5, .mem, .bus, .wardens, .links, .ctxs, .sage]
  | .ksReloadReq .. => [.regs 0, .regs 1, .regs 2, .regs 3, .regs 4, .regs 5, .regs 6, .regs 7, .regs 8, .regs 9, .regs
    10, .regs 11, .regs 12, .regs 13, .regs 14, .regs 15, .regs 16, .regs 17, .bus, .wardens, .links, .basil, .sage]
  | .ksDone .. => [.regs 1, .regs 5, .bus, .wardens, .links, .basil, .sage]
  | .ksVerify .. => [.regs 0, .regs 1, .regs 2, .regs 3, .regs 4, .regs 5, .regs 6, .regs 7, .regs 8, .regs 9, .regs
    10, .regs 11, .regs 12, .regs 13, .regs 14, .regs 15, .regs 16, .regs 17, .wardens, .basil, .sage]
  | .pllStep .. => [.regs 1, .regs 6, .regs 13, .now, .wardens, .links, .giu, .sage, .rosem]
  | .giuReference .. => [.regs 1, .wardens, .links, .giu]
  | .rtAck .. => [.regs 1, .regs 6, .regs 13, .bus, .wardens, .links, .giu, .sage, .rosem]
  | .mpptStep .. | .scanStart .. | .scanDwell .. => [.regs 6, .now, .giu]
  | .trackerItem .. => [.regs 1, .regs 6, .wardens, .links, .giu]
  | .trkScan .. => [.regs 1, .regs 6, .bus, .wardens, .links, .giu, .sage]
  | .tbgStart .. | .tbgStop .. => [.regs 1, .regs 2, .bus, .wardens, .links, .tbgs, .sage]
  | .tbgBoundary .. => safeParts ++ [.regs 0, .regs 7, .regs 8, .regs 9, .regs 10, .regs 11, .regs 14, .regs 17, .now,
    .free, .bnd, .cmt, .tmr, .crcRun, .lanes, .basil, .trgs, .fbs]
  | .handOff .. => safeParts ++ [.now, .bnd, .cmt, .lanes, .basil, .trgs]
  | .tbgCommit .. => safeParts ++ [.regs 0, .regs 7, .regs 8, .regs 9, .regs 10, .regs 11, .regs 14, .regs 17, .bnd,
    .cmt, .tmr, .crcRun, .bus, .lanes, .basil, .trgs]
  | .tbgCommitAbort .. | .cmpGenWrite .. => safeParts ++ [.bnd, .cmt, .bus, .lanes, .basil, .trgs]
  | .compareWrite .. => safeParts ++ [.regs 0, .regs 7, .regs 8, .regs 9, .regs 10, .regs 11, .regs 14, .regs 17, .bnd,
    .cmt, .tmr, .bus, .lanes, .basil, .trgs]
  | .compareSet .. => [.regs 1, .wardens, .links, .tbgs]
  | .fineCalibration .. => [.regs 2, .sage]
  | .tripSourceAssert .. | .sageClockCheck .. | .sageSupplyCheck .. | .aliveLoss .. | .tripSourceRelease .. =>
    safeParts
  | .blankingEnd .. | .aliveResumeTimeout .. | .wdgExpiry .. | .takeoverWindowEnd .. => safeParts ++ [.now]
  | .tripClear .. | .tripClearArm .. => [.regs 1, .regs 2, .regs 3, .regs 4, .bus, .wardens, .links, .legs, .ports,
    .sage]
  | .mgTripClear .. => [.regs 1, .regs 2, .regs 3, .bus, .wardens, .links, .mgs, .sage]
  | .mgTripClearArm .. => [.regs 1, .regs 2, .regs 3, .bus, .wardens, .links, .sage]
  | .deferredClear .. => [.regs 2, .regs 3, .regs 4, .now, .legs, .mgs, .ports]
  | .pulseOff .. | .asc .. | .sagePulseOff .. | .sageAsc .. | .sageDefault .. | .sageDischargeWinding .. |
    .sageDischargeBleed .. | .sageRelease .. => safeParts ++ [.bus]
  | .dischargeWinding .. | .dischargeBleed .. => [.regs 1, .regs 2, .regs 3, .regs 4, .regs 5, .regs 6, .regs 12, .regs
    13, .regs 15, .mem, .bus, .wardens, .links, .ctxs, .giu, .tbgs, .legs, .mgs, .ports, .sage, .diss, .livs, .pair,
    .rosem]
  | .mgRelease .. => [.regs 1, .regs 2, .regs 3, .regs 4, .bus, .wardens, .links, .legs, .mgs, .ports, .sage]
  | .portEnable .. | .ndlTokenClaim .. | .ndlTokenGive .. | .ndlTokenQuery .. => [.regs 1, .regs 4, .bus, .wardens,
    .links, .ports, .sage]
  | .portDisable .. => safeParts ++ [.bnd, .bus]
  | .trainComplete .. | .capsComplete .. => [.regs 4, .ports]
  | .trainTimeout .. | .linkLoss .. | .syncRsp .. => safeParts ++ [.now, .bnd]
  | .lossRetrain .. | .hintRefresh .. | .forceResend .. => [.regs 4, .now, .ports]
  | .resendTimeout .. => safeParts ++ [.now, .bnd, .sats]
  | .cellSend .. => [.regs 4, .free, .ports, .sats, .sage]
  | .edge .. | .retract .. | .force .. | .sampleReq .. | .probe .. | .adjust .. | .syncSet .. | .hintReact .. |
    .hintPeriod .. | .cfgWr .. | .cfgRd .. | .claim .. | .give .. | .query .. | .fillCell .. | .desaturation .. |
    .telemFlagChange .. => [.sats]
  | .result .. | .status .. | .telem .. | .cfgRsp .. | .tokenRsp .. | .uplinkFill .. => safeParts ++ [.bnd]
  | .sampleCell .. => safeParts ++ [.bnd, .basil]
  | .checkCell .. => safeParts ++ [.bnd, .tms]
  | .probePeriod .. => [.now, .ports]
  | .edgeExecute .. | .forceHoldEnd .. | .suppressed .. | .statusPeriodic .. | .telemPeriodic .. | .satPortLoss .. |
    .patternHoldExpiry .. | .bankActivation .. | .patternHoldRepeat .. => [.now, .sats]
  | .sampleTake .. => [.now, .free, .sats]
  | .undervoltage .. | .satPowerUp .. => [.free, .sats]
  | .mainClockCheck .. | .sageEvent .. => [.regs 15, .sage]
  | .lockstepMismatch .. => safeParts ++ [.apcs]
  | .lockstepInject .. => [.regs 1, .regs 16, .bus, .wardens, .links, .sage]
  | .sageLsInject .. | .pinAssert .. | .pinRelease .. => [.regs 1, .regs 15, .bus, .wardens, .links, .sage]
  | .debugHalt .. => [.regs 2, .regs 3, .regs 15, .regs 16, .sage, .apcs]
  | .torqueEvaluation .. => [.regs 15, .sage, .tms]
  | .liveness .. => [.regs 15, .now, .sage]
  | .kbSupervision .. => [.sage, .livs]
  | .dischargeDone .. | .dischargeTimeout .. | .dischargeStall .. | .dischargeNodata .. => [.regs 1, .regs 3, .regs 4,
    .regs 5, .regs 6, .regs 12, .regs 13, .regs 15, .regs 16, .mem, .now, .wardens, .links, .ctxs, .giu, .tbgs, .legs,
    .mgs, .ports, .sage, .diss, .livs, .pair, .rosem]
  | .nsSet .. | .nsClear .. => [.regs 1, .regs 15, .regs 16, .bus, .wardens, .links, .sage]
  | .wdgService .. => safeParts ++ [.bus, .wdgs]
  | .apcWdgService .. => [.regs 1, .regs 16, .bus, .wardens, .links, .sage, .wdgs]
  | .apcWdgExpiry .. => [.regs 16, .now, .sage]
  | .pairJoin .. | .pairLeave .. | .handover .. | .yield .. | .pairClaim .. => [.regs 1, .regs 4, .regs 12, .bus,
    .wardens, .links, .ports, .sage, .pair]
  | .heartSend .. | .timeProbeSend .. | .pairRetrain .. | .joinTimeout .. => [.regs 12, .now, .pair]
  | .heart .. | .mirror .. | .cancelRecord .. | .ctrlCheck .. | .checkOk .. | .checkFail .. | .synced .. |
    .pairLaneAlign .. => [.regs 12, .pair]
  | .timeProbe .. => [.regs 12, .free, .pair]
  | .timeResp .. => [.regs 2, .regs 12, .now, .free, .pair]
  | .sealRecord .. | .bulk .. => [.regs 1, .regs 12, .mem, .wardens, .links, .pair]
  | .setRec .. => [.regs 0, .regs 1, .regs 2, .regs 3, .regs 4, .regs 5, .regs 6, .regs 7, .regs 8, .regs 9, .regs 10,
    .regs 11, .regs 12, .regs 13, .regs 14, .regs 15, .regs 16, .regs 17, .mem, .tmr, .tbgs, .pair]
  | .quit .. => [.regs 2, .regs 4, .regs 12, .ports, .pair]
  | .pairLoss .. => [.regs 2, .regs 4, .regs 12, .now, .ports, .pair]
  | .claimRepeat .. => [.regs 4, .now, .ports, .pair]
  | .siChange .. | .inputTest .. | .discrepancy .. | .pairWindow .. | .smTimeout .. => [.regs 11, .now, .sage, .msio]
  | .offPulse .. => [.now, .msio]
  | .siFaultClear .. | .evReset .. | .evFaultClear .. | .rearm .. => [.regs 1, .regs 11, .bus, .wardens, .links, .sage,
    .msio]
  | .syncFail .. => [.regs 11, .now, .msio]
  | .readbackFault .. => [.regs 11, .sage, .msio]
  | .soFaultClear .. => [.regs 1, .regs 11, .free, .bus, .wardens, .links, .sage, .msio]
  | .safeCopy .. => [.regs 1, .regs 11, .wardens, .links, .sage, .msio]
  | .safeSend .. => [.regs 10, .regs 11, .now, .sage, .msio, .cans]
  | .adcRequest .. | .sequenceTrigger .. | .spreadRun .. | .conversionStart .. | .conversionComplete .. | .lateAbort ..
    => safeParts ++ [.regs 7, .now, .adcs, .ress]
  | .swtrig .. => safeParts ++ [.regs 7, .bus, .adcs, .ress]
  | .streamAverage .. => safeParts ++ [.regs 7, .free, .adcs]
  | .adcRecordSend .. => [.basil, .adcs]
  | .resolverSample .. => safeParts ++ [.regs 7, .adcs, .ress]
  | .encoderEdge .. => [.regs 8, .now, .fbs, .emus]
  | .indexEvent .. => [.regs 8, .fbs, .emus]
  | .fbArm .. | .fbClr .. | .fbPreset .. => [.regs 1, .regs 8, .bus, .wardens, .links, .sage, .fbs, .emus]
  | .resolverEnvelope .. => [.regs 8, .now, .ress, .emus]
  | .resolverStale .. => [.regs 8, .now]
  | .emulationEdge .. => [.regs 8, .now, .emus]
  | .moveAxis .. | .runForward .. | .runBackward .. | .axisStop .. | .axisHalt .. | .homeForward .. | .homeBackward ..
    | .chopFaultClear .. => [.regs 1, .regs 9, .now, .free, .bus, .wardens, .links, .sage, .amu]
  | .stepTimer .. | .limit .. | .chopFault .. | .holdCurrent .. => [.regs 9, .now, .amu]
  | .rampWrite .. => [.regs 0, .regs 1, .regs 2, .regs 3, .regs 4, .regs 5, .regs 6, .regs 7, .regs 8, .regs 9, .regs
    10, .regs 11, .regs 12, .regs 13, .regs 14, .regs 15, .regs 16, .regs 17, .bnd, .cmt, .tmr, .crcRun, .bus, .wardens,
    .links, .legs, .sage]
  | .homeEdge .. | .chopComparator .. => [.regs 9, .amu]
  | .frameReceived .. | .frameTransmitted .. => [.regs 1, .regs 10, .regs 13, .now, .free, .wardens, .links, .msio,
    .cans, .rosem]
  | .busError .. | .integration .. => [.regs 1, .regs 10, .regs 13, .wardens, .links, .cans, .rosem]
  | .busOffRecovery .. | .arbitrationLoss .. => [.regs 10, .cans]
  | .txRequest .. | .txAbort .. | .recover .. | .pop .. => [.regs 1, .regs 10, .bus, .wardens, .links, .sage, .cans]
  | .unstableClear .. => [.regs 0, .regs 1, .bus, .wardens, .links, .sage]
  | .opsecPersist .. => [.now, .hpm]
  | .powerDown .. | .powerUp .. => safeParts ++ [.regs 0, .regs 7, .regs 8, .regs 9, .regs 10, .regs 11, .regs 14,
    .regs 17, .now, .free, .bnd, .cmt, .tmr, .crcRun, .bus, .stages, .lanes, .basil, .trgs, .wdgs, .tms, .apcs, .msio,
    .adcs, .fbs, .ress, .emus, .amu, .cans, .hpm, .bist]
  | .xinLoss .. | .pllUnlock .. | .i2cDone .. | .clockReturn .. => [.regs 0, .hpm]
  | .boot .. => safeParts ++ [.regs 0, .regs 7, .regs 8, .regs 9, .regs 10, .regs 11, .regs 14, .regs 17, .bnd, .cmt,
    .tmr, .crcRun, .bus, .stages, .lanes, .basil, .trgs, .wdgs, .tms, .apcs, .msio, .adcs, .fbs, .ress, .emus, .amu,
    .cans, .hpm, .bist]
  | .thermalHold .. => [.wardens, .hpm]
  | .programRow .. | .raiseMinVer .. | .i2cTransfer .. => [.regs 0, .regs 1, .bus, .wardens, .links, .sage, .hpm]
  | .rowComplete .. => [.regs 0, .mem, .hpm]
  | .idcode .. | .bypass .. | .extest .. => [.hpm]
  | .samplePreload .. | .dbgChal .. => [.free, .hpm]
  | .dbgResp .. => [.regs 0, .regs 1, .regs 13, .regs 16, .wardens, .links, .hpm, .rosem]
  | .ringSearch .. | .recordWrite .. => [.regs 13, .mem, .rosem]
  | .softwareRecord .. | .freeze .. | .unfreeze .. => [.regs 1, .regs 13, .bus, .wardens, .links, .sage, .rosem]
  | .cursorSelect .. | .cursorNewer .. | .cursorOlder .. | .cursorCopy .. => [.regs 1, .regs 13, .bus, .wardens,
    .links, .sage]
  | .bistRequest .. => [.regs 1, .regs 14, .bus, .wardens, .links, .sage, .bist]
  | .bistRelease .. => [.regs 1, .regs 14, .bus, .wardens, .links, .sage]
  | .bistStart .. => [.regs 0, .regs 1, .regs 2, .regs 3, .regs 4, .regs 5, .regs 6, .regs 7, .regs 8, .regs 9, .regs
    10, .regs 11, .regs 12, .regs 13, .regs 14, .regs 15, .regs 16, .regs 17, .mem, .now, .free, .bnd, .cmt, .wardens,
    .links, .ctxs, .giu, .tbgs, .livs, .pair, .amu, .rosem, .bist]
  | .bistComplete .. => [.regs 0, .regs 1, .regs 2, .regs 3, .regs 4, .regs 5, .regs 6, .regs 7, .regs 8, .regs 9,
    .regs 10, .regs 11, .regs 12, .regs 13, .regs 14, .regs 15, .regs 16, .regs 17, .now, .wardens, .links, .sage, .wdgs,
    .apcs, .hpm, .rosem, .bist]
  | .invalidSlot .. | .slotRealign .. => [.regs 4, .ports, .sats]
  | .pairRecordDiscard .. => [.regs 12]
  | .wdgWindowOpen .. => [.regs 15, .regs 16, .now]
  | .loadWindow .. => [.regs 5, .now, .lanes, .basil]
  | .debugResume .. => [.regs 15, .sage, .apcs]
  | .hrpUnknownCmd .. => [.regs 17, .bus]

end Sys2Proof.Machine
end

