-- ==== Sys2Proof/WellFormed.lean ====
section
/-! DEFINITION. What a sender can send: the lengths of the lists a command carries. Instances are bounded by their types. -/
namespace Sys2Proof

/-- The lists of a command have lengths the hardware can send: 1 to 64 words of an HRP write
(01_register_pages.md R37), at most 64 data bytes of a CAN frame (14_can.md R472) and of a safe-message copy
(11_machine_safety_io.md R408), at most 40 payload bytes of a Rosemary event (16_rosemary_and_selftest.md R529), 32 words
of a mirror image with 8 outputs, 32 group states, at most 16 parts of a set with at most 29 legs each
(10_lovage_pairing.md R366, R370), eight sensors and the 128 bytes
of a debug response (15_power_clocks_boot_thermal.md R519, R520),
and one value for each of four slots (08_ndotar_drive_link.md R298). -/
def Instr.wf : Instr → Bool
  | .hrpWrite _ ws _ => decide (1 ≤ ws.length) && decide (ws.length ≤ 64)
  | .hrpRead _ n _ => decide (1 ≤ n) && decide (n ≤ 64)
  | .frameReceived _ f _ => decide (f.data.length ≤ 64)
  | .safeCopy _ _ bs => decide (bs.length ≤ 64)
  | .recEvent _ _ _ _ pay => decide (pay.length ≤ 40)
  | .mirror _ _ _ _ img outs => decide (img.length = 32) && decide (outs.length = 8)
  | .bulk _ _ _ _ img outs => decide (img.length = 32) && decide (outs.length = 8)
  | .heart _ groups => decide (groups.length = 32)
  | .setRec _ _ _ _ _ part parts legs =>
    decide (part < parts) && decide (parts ≤ 16) && decide (legs.length ≤ 29)
  | .dbgResp bs => decide (bs.length = 128)
  | .thermalRead ts => decide (ts.length = 8)
  | .thermalHold ts => decide (ts.length = 8)
  | .sampleTake _ _ i v vdc => decide (i.length = 4) && decide (v.length = 4) && decide (vdc.length = 4)
  | _ => true

end Sys2Proof
end

