-- ==== Sys2Proof/Certificates/Slice0/Obligations.lean ====
section
/-! DEFINITION. The statements about the model, for the provers. -/
open Sys2Proof Sys2Proof.Machine

/-- A step takes the command at the front of the queue and is its effect on the state with the queue's rest; on an empty queue the block idles: a tick
passes. The queue is the model's form (log entry 5). -/
def Obligations.StepRunsFront : Prop :=
  (∀ (c : Instr) (rest : List Instr) (s : State), s.pending = c :: rest → step s = exec c (s.setPending rest)) ∧
  (∀ (s : State), s.pending = [] → step s = .next (idle s))

/-- On an empty queue Thyme advances by one tick, give or take the fine tick of the slew; with no slew, and inside a microsecond, nothing else changes. That
a tick passes there is the model's choice (log entry 5). -/
def Obligations.IdleTick : Prop :=
  (∀ (s t : State), s.pending = [] → step s = .next t → s.now + 31 ≤ t.now ∧ t.now ≤ s.now + 33) ∧
  (∀ (s : State), s.pending = [] → s.get fTHY_SLEW_slew = 0 → s.slewAcc = 0 → (s.now + 32) / us = s.now / us →
    step s = .next (s.setNow (s.now + 32)))

/-- At reset memory lists nothing and every register holds its reset value, no command waits, and no event waits at Sage. The form of the tables is the
model's. -/
def Obligations.ResetForms : Prop :=
  Memory.wf State.reset.mem = true ∧ Registers.wf State.reset.regs = true ∧ State.reset.pending = [] ∧ State.reset.sage.inbox = [] ∧
  ∀ a, State.reset.rd a = resetOf (a % 2 ^ 32)

/-- For every state whose memory and register table are in canonical form (addresses rising, no entry equal to what an unlisted one reads as), whatever
command a step runs, the next state's are too: equal contents are equal data. -/
def Obligations.StepKeepsForms : Prop :=
  ∀ (s t : State), Memory.wf s.mem = true → Registers.wf s.regs = true → step s = .next t →
    Memory.wf t.mem = true ∧ Registers.wf t.regs = true

/-- A command with a list of a length no sender can produce is malformed; every other command, in every state, answers a next state: no command is refused
and none is unmodelled. -/
def Obligations.OnlyMalformedStops : Prop :=
  (∀ (c : Instr) (s : State), c.wf = false → exec c s = .fault .malformed) ∧
  (∀ (c : Instr) (s : State), c.wf = true → ∃ t, exec c s = .next t)

/-- With a well-formed command at the front, a step answers a next state in which exactly that command has left the queue. -/
def Obligations.QueueProgress : Prop :=
  ∀ (c : Instr) (rest : List Instr) (s : State), s.pending = c :: rest → c.wf = true → ∃ t, step s = .next t ∧ t.pending = rest

/-- For every command, the next state is one in which Sage has handled what the command caused, and before that nothing but the parts that `touches` lists
for the command has changed: every register of every other page, every other byte of memory and every other field of the state holds what it held. The
handling of events changes nothing but the parts of the safe path, and nothing at all where no event waits. -/
def Obligations.CommandFrame : Prop :=
  (∀ (c : Instr) (s t : State), exec c s = .next t → ∃ u, t = settle u ∧ Agree (touches c) s u) ∧
  (∀ (u : State), Agree safeParts u (settle u)) ∧
  (∀ (u : State), u.sage.inbox = [] → settle u = u)

/-- An event that waits alone is the first one handled. Every event is counted. A test event reaches no group and sets no pin. An event that names a
group (27) and asks for PULSE-OFF brings that group, if it has enabled legs and is in no safe state, into PULSE-OFF with the hold of Sage. -/
def Obligations.EventHandled : Prop :=
  (∀ (x : SEvt) (s : State), s.sage.inbox = [x] → settle s = drain 7 (handleEvent x [] (s.setSage { s.sage with inbox := [] })).1) ∧
  (∀ (x : SEvt) (s : State), x.e < 43 → s.sage.lost = false → x.test = true →
    (handleEvent x [] s).2 = [] ∧ (handleEvent x [] s).1.mgs = s.mgs ∧ (handleEvent x [] s).1.legs = s.legs ∧
    (handleEvent x [] s).1.shows (fSAGE_EVT_CNT_cnt x.e) = min (s.get (fSAGE_EVT_CNT_cnt x.e) + 1) (2 ^ (fSAGE_EVT_CNT_cnt x.e).w - 1) ∧
    (handleEvent x [] s).1.shows fSAGE_PIN_STAT_asserted = s.shows fSAGE_PIN_STAT_asserted) ∧
  (∀ (m : Fin 32) (s : State), s.sage.lost = false → s.get (fSAGE_EVT_CFG_react 27) = 2 → s.get (fSAGE_EVT_CFG_scope 27) = 0 →
    s.mgType m.val ≠ 0 → s.members m.val ≠ [] → s.mgState m.val = 0 → s.decided m.val = false → s.tmr = [] →
    (handleEvent ⟨27, nOther m.val, false⟩ [] s).1.shows (fMG_STAT_state m.val) = 3 ∧
    (handleEvent ⟨27, nOther m.val, false⟩ [] s).1.shows (fMG_TRIP_STAT_sage_hold m.val) = 1 ∧
    (handleEvent ⟨27, nOther m.val, false⟩ [] s).2 = [m.val])

/-- A word stored at an address reads back from it, least significant byte at the lowest address, and every byte outside its four reads as before. -/
def Obligations.MemoryWords : Prop :=
  ∀ (a : Nat) (v : Word) (s : State), (s.memPut a v).mem32 a = v ∧ OnlyMem a 4 s (s.memPut a v) ∧
    (∀ i, i < 4 → Memory.read (s.memPut a v).mem (a + i) = BitVec.ofNat 8 (v.toNat / 2 ^ (8 * i)))


/-- TMR_CLR clears TMR_STAT of the block. CRC_EN starts a run without a completed pass, or stops it. CRC_PASS: a completed pass writes
the CRC over the effective values to CRC_NOW, sets crc_valid and compares it with CRC_REF, a mismatch setting ERR.crc_mis and
reaching Sage; a pass in which a covered value changed is discarded. No other register changes. -/
def Obligations.HeaderControl : Prop :=
  (∀ (r : Req) (b : Block) (s : State), s.grants r (hdr b + 8) true = true →
    Runs (.tmrClr r b) s (fun u => u.rd (hdr b + 0x30) = 0 ∧ OnlyRegs [hdr b + 0x30] s u)) ∧
  (∀ (r : Req) (b : Block) (s : State), s.grants r (hdr b + 8) true = true → capCrc b = true → s.on (hCtrl (hdr b) 2) = false →
    Runs (.crcEn r b true) s (fun u => u.shows (hCtrl (hdr b) 2) = 1 ∧ u.shows (hStat (hdr b) 3) = 0 ∧
      Tab.find u.crcRun (hdr b) = none ∧ OnlyRegs [hdr b + 8, hdr b + 0x0C] s u)) ∧
  (∀ (r : Req) (b : Block) (s : State), s.grants r (hdr b + 8) true = true → capCrc b = true → s.on (hCtrl (hdr b) 2) = true →
    Runs (.crcEn r b false) s (fun u => u.shows (hCtrl (hdr b) 2) = 0 ∧ OnlyRegs [hdr b + 8] s u)) ∧
  (∀ (b : Block) (s : State), s.on (hCtrl (hdr b) 2) = true → s.isRun (blockIsland b) = true → Tab.get 0 s.crcRun (hdr b) ≠ 1 →
    Runs (.crcPass b) s (fun u => u.rd (hdr b + 0x2C) = s.crcOf b ∧ u.shows (hStat (hdr b) 3) = 1 ∧
      (s.crcOf b = s.rd (hdr b + 0x28) → u.shows (hStat (hdr b) 2) = 0 ∧ OnlyRegs [hdr b + 0x2C, hdr b + 0x0C] s u) ∧
      (s.crcOf b ≠ s.rd (hdr b + 0x28) → u.shows (hStat (hdr b) 2) = 1 ∧
        u.sage.inbox = s.sage.inbox ++ [⟨40, nOther (blockCode b), false⟩] ∧
        (s.on (hErr (hdr b) 2) = false → u.shows (hErr (hdr b) 2) = 1) ∧
        OnlyRegs [hdr b + 0x2C, hdr b + 0x0C, hdr b + 0x1C, hdr b + 0x10] s u))) ∧
  (∀ (b : Block) (s : State), s.on (hCtrl (hdr b) 2) = true → s.isRun (blockIsland b) = true → Tab.get 0 s.crcRun (hdr b) = 1 →
    Runs (.crcPass b) s (fun u => Tab.find u.crcRun (hdr b) = none ∧ OnlyRegs [] s u))


/-- COMMIT with the next generation, in a block with a boundary source, becomes pending and applies nothing yet; COMMIT_ABORT drops the commit
shadows of its block and no others, and no boundary shadow. -/
def Obligations.CommitAndAbort : Prop :=
  (∀ (r : Req) (b : Block) (gen : Fin 256) (s : State), s.grants r (hdr b + 0x20) true = true → capCmt b = true →
    s.on (hCmtPend (hdr b)) = false → gen.val = (s.get (hGenApplied (hdr b)) + 1) % 256 → s.frameDue b = none → commitRefusal b (s.granted r b) = none →
    s.on (hCtrl (hdr b) 0) = true →
    Runs (.commit r b gen) s (fun u => u.shows (hGenPending (hdr b)) = gen.val ∧ u.shows (hCmtPend (hdr b)) = 1 ∧ u.cmt = s.cmt ∧
      u.bnd = s.bnd ∧ OnlyRegs [hdr b + 0x24, hdr b + 0x0C] s u)) ∧
  (∀ (r : Req) (b : Block) (s : State), s.grants r (hdr b + 0x20) true = true → capCmt b = true → s.frameDue b = none →
    Runs (.commitAbort r b) s (fun u => u.shows (hCmtPend (hdr b)) = 0 ∧ OnlyRegs [hdr b + 0x0C] s u ∧ u.bnd = s.bnd ∧
      u.cmt = s.cmt.filter (fun x => !ownReg b x.1)))

/-- A COMMIT with go = 1 while one is pending or with a generation other than the next, and a COMMIT with go = abort = 1, change neither
shadows nor memory nor any register but ERR and IRQ_RAW of the block, which show cmt_gen and cmt_ref. -/
def Obligations.RefusedCommit : Prop :=
  (∀ (r : Req) (b : Block) (gen : Fin 256) (s : State), s.grants r (hdr b + 0x20) true = true → capCmt b = true → s.tmr = [] → s.frameDue b = none →
    (s.on (hCmtPend (hdr b)) = true ∨ gen.val ≠ (s.get (hGenApplied (hdr b)) + 1) % 256) →
    Runs (.commit r b gen) s (fun u => u.cmt = s.cmt ∧ u.bnd = s.bnd ∧ u.mem = s.mem ∧ u.shows (hErr (hdr b) 3) = 1 ∧
      u.shows (hRaw (hdr b) 2) = 1 ∧ u.sage.inbox = s.sage.inbox ++ [⟨42, nOther (blockCode b), false⟩] ∧
      OnlyRegs [hdr b + 0x1C, hdr b + 0x10] s u)) ∧
  (∀ (r : Req) (b : Block) (d hw : Word) (s : State), s.grants r (hdr b + 0x20) true = true → capCmt b = true → s.tmr = [] →
    s.frameDue b = none → d.fld 8 2 = 3 →
    Runs (.registerWrite r ⟨hdr b + 0x20, .word⟩ ⟨d, hw⟩) s (fun u => u.cmt = s.cmt ∧ u.bnd = s.bnd ∧ u.mem = s.mem ∧
      u.shows (hErr (hdr b) 3) = 1 ∧ u.shows (hRaw (hdr b) 2) = 1 ∧ OnlyRegs [hdr b + 0x1C, hdr b + 0x10] s u))


/-- REGISTER_WRITE: what an APC pair writes to SRAM, a byte, a halfword or a word, is stored, and no other byte and no register changes; a write to IRQ_EN
of any block sets the bits its mask selects and changes no other register; a write to a register of the ADC takes
effect at once in its immediate fields and waits in the shadow in the fields that commit; a refused or undefined write changes nothing but the error flags of the block
and answers a fault, and so does a write that is no whole word; a write to an island that is not running answers ABSENT; a write to
IRQ_RAW clears the bits it names but for those hardware sets in the same cycle. -/
def Obligations.RegisterWrite : Prop :=
  (∀ (r : Req) (a : Nat) (sz : AccSize) (d hw : Word) (s : State), (r = .apc0 ∨ r = .apc1) → 0x20000000 ≤ a → a + 3 < 0x20400000 →
    s.isRun 1 = true → Runs (.registerWrite r ⟨a, sz⟩ ⟨d, hw⟩) s (fun u => (∀ i : Fin 4, i.val < accBytes sz →
        Memory.read u.mem (a + i.val) = (wordBytes d).getD i.val 0) ∧ OnlyMem a (accBytes sz) s u ∧
      u.bus.kind = .ok ∧ OnlyRegs [] s u)) ∧
  (∀ (r : Req) (b : Block) (d hw : Word) (s : State), s.grants r (hdr b + 0x14) true = true → s.tmr = [] → s.frameDue b = none →
    Runs (.registerWrite r ⟨hdr b + 0x14, .word⟩ ⟨d, hw⟩) s (fun u => (∀ i : Fin 16, u.shows ⟨hdr b + 0x14, i.val, 1⟩ =
        if d.fld (16 + i.val) 1 = 1 then d.fld i.val 1 else s.shows ⟨hdr b + 0x14, i.val, 1⟩) ∧
      OnlyRegs [hdr b + 0x14] s u ∧ u.mem = s.mem)) ∧
  (∀ (r : Req) (n : Fin 4) (a : Nat) (g : RegSpec) (d hw : Word) (s : State), s.grants r a true = true → s.tmr = [] → s.frameDue (.adc n) = none →
    blockAt a = some (.adc n) → a % 0x1000 ≠ 0x08 →
    a % 0x1000 ≠ 0x20 → a ≠ aADC_SWTRIG n.val → specAt a = some g → (∀ f ∈ g.fields, (f.acc = .rw ∨ f.acc = .rwt) ∧ (f.eff = .cmt ∨ f.eff = .imm)) →
    s.on (hCmtPend (hdr (.adc n))) = false →
    Runs (.registerWrite r ⟨a, .word⟩ ⟨d, hw⟩) s (fun u => OnlyRegs [a] s u ∧ u.bnd = s.bnd ∧
      ∀ f ∈ g.fields, if f.eff = .cmt
        then (u.cmtVal a).fld f.lo (f.hi - f.lo + 1) = (storedWord a d).fld f.lo (f.hi - f.lo + 1) ∧
          u.shows ⟨a, f.lo, f.hi - f.lo + 1⟩ = s.shows ⟨a, f.lo, f.hi - f.lo + 1⟩
        else u.shows ⟨a, f.lo, f.hi - f.lo + 1⟩ = (storedWord a d).fld f.lo (f.hi - f.lo + 1))) ∧
  (∀ (r : Req) (b : Block) (a : Nat) (d hw : Word) (s : State), blockAt a = some b → (s.verdict r b a true = .denied ∨ s.verdict r b a true = .undefined) →
    Runs (.registerWrite r ⟨a, .word⟩ ⟨d, hw⟩) s (fun u => u.bus.kind = .refused ∧ u.mem = s.mem ∧ u.cmt = s.cmt ∧ u.bnd = s.bnd ∧
      OnlyRegs [hdr b + 0x1C, hdr b + 0x10] s u)) ∧
  (∀ (r : Req) (b : Block) (a : Nat) (sz : AccSize) (d hw : Word) (s : State), blockAt a = some b → s.verdict r b a true = .absent →
    Runs (.registerWrite r ⟨a, sz⟩ ⟨d, hw⟩) s (fun u => u.bus.kind = .absent ∧ u.mem = s.mem ∧ u.cmt = s.cmt ∧ u.bnd = s.bnd ∧
      OnlyRegs [aFAB_ABSENT_CNT (blockIsland b)] s u)) ∧
  (∀ (r : Req) (b : Block) (a : Nat) (sz : AccSize) (d hw : Word) (s : State), blockAt a = some b → sz ≠ .word → s.isRun (blockIsland b) = true →
    Runs (.registerWrite r ⟨a, sz⟩ ⟨d, hw⟩) s (fun u => u.bus.kind = .refused ∧ u.mem = s.mem ∧ u.cmt = s.cmt ∧ u.bnd = s.bnd ∧
      OnlyRegs [hdr b + 0x1C, hdr b + 0x10] s u)) ∧
  (∀ (r : Req) (b : Block) (g : RegSpec) (d hw : Word) (s : State), s.grants r (hdr b + 0x10) true = true → s.tmr = [] → s.frameDue b = none →
    specAt (hdr b + 0x10) = some g →
    Runs (.registerWrite r ⟨hdr b + 0x10, .word⟩ ⟨d, hw⟩) s (fun u => OnlyRegs [hdr b + 0x10] s u ∧ ∀ f ∈ g.fields, f.acc = .w1c →
      ∀ i : Fin 32, f.lo ≤ i.val → i.val ≤ f.hi → u.shows ⟨hdr b + 0x10, i.val, 1⟩ =
        if hw.fld i.val 1 = 1 then 1 else if d.fld i.val 1 = 1 then 0 else s.shows ⟨hdr b + 0x10, i.val, 1⟩))

/-- READ_CLEAR: reading ENG_LOAD_PEAK answers its value and leaves 0, or the value of an event of the same cycle; a read of SRAM answers the
stored bytes, as many as the access is wide, and changes nothing. THY_NOW_READ: reading the low word of Thyme latches the high word and the fine ticks for this
requester. -/
def Obligations.RegisterRead : Prop :=
  (∀ (r : Req) (ev : Option Word) (s : State), s.grants r aENG_LOAD_PEAK false = true → s.tmr = [] →
    Runs (.readClear r ⟨aENG_LOAD_PEAK, .word⟩ ev) s (fun u => u.bus.who = r ∧ u.bus.kind = .ok ∧ u.bus.data = s.rd aENG_LOAD_PEAK ∧
      u.shows fENG_LOAD_PEAK_peak = (match ev with | some v => v.fld 0 24 | none => 0) ∧ OnlyRegs [aENG_LOAD_PEAK] s u)) ∧
  (∀ (r : Req) (a : Nat) (sz : AccSize) (ev : Option Word) (s : State), (r = .apc0 ∨ r = .apc1) → 0x20000000 ≤ a → a + 3 < 0x20400000 → s.isRun 1 = true →
    Runs (.readClear r ⟨a, sz⟩ ev) s (fun u => u.bus.kind = .ok ∧ u.bus.data = BitVec.ofNat 32 ((s.mem32 a).toNat % 2 ^ (8 * accBytes sz)) ∧ u.mem = s.mem ∧ OnlyRegs [] s u)) ∧
  (∀ (r : Req) (s : State), s.grants r aTHY_NOW_LO false = true →
    Runs (.thyNowRead r) s (fun u => u.bus.data = BitVec.ofNat 32 (s.now / 32) ∧
      u.rd (bank r aTHY_NOW_HI) = BitVec.ofNat 32 (s.now / 32 / 2 ^ 32) ∧ u.rd (bank r aTHY_NOW_FINE) = BitVec.ofNat 32 (s.now % 32) ∧
      OnlyRegs [bank r aTHY_NOW_HI, bank r aTHY_NOW_FINE] s u))

/-- HRP transactions: a bad CRC gives code 1 and an unaligned address code 3, no word executed and only zeros read; a read of one
register answers its value with code 0 and INDEX 1; a write of one word to IRQ_EN takes effect; a write to a block the HRP may not write
gives its code and INDEX 0 and changes neither memory nor shadows; an unknown CMD gives code 2; chip-select abort keeps the words sent. -/
def Obligations.HostPort : Prop :=
  (∀ (a : Word) (len : Nat) (crc : BitVec 16) (s : State), 0 < len → len ≤ 64 → s.hrpOn = true → crc.toNat ≠ hrpCrc (hrpFrame 0x0B len a []) →
    Runs (.hrpRead a len crc) s (fun u => u.rd aHRP_LAST = 0x0B0001 ∧ u.bus.hrpOut = hrpReply 1 0 (List.replicate len 0) ∧
      OnlyRegs [aHRP_LAST, aHRP_CRC_CNT, aHRP_XFER_CNT] s u)) ∧
  (∀ (a : Word) (len : Nat) (s : State), 0 < len → len ≤ 64 → s.hrpOn = true → a.toNat % 4 ≠ 0 →
    Runs (.hrpRead a len (BitVec.ofNat 16 (hrpCrc (hrpFrame 0x0B len a [])))) s (fun u => u.rd aHRP_LAST = 0x0B0003 ∧
      u.bus.hrpOut = hrpReply 3 0 (List.replicate len 0) ∧
      OnlyRegs [aHRP_LAST, aHRP_XFER_CNT] s u)) ∧
  (∀ (b : Block) (s : State), b ≠ .hrp → s.hrpOn = true → s.grants .hrp (hdr b + 0x14) false = true → s.tmr = [] →
    Runs (.hrpRead (BitVec.ofNat 32 (hdr b + 0x14)) 1 (BitVec.ofNat 16 (hrpCrc (hrpFrame 0x0B 1 (BitVec.ofNat 32 (hdr b + 0x14)) [])))) s (fun u =>
      u.rd aHRP_LAST = 0x0B0100 ∧ u.bus.hrpOut = hrpReply 0 1 [s.rd (hdr b + 0x14)] ∧ OnlyRegs [aHRP_LAST, aHRP_LAST_ADDR, aHRP_XFER_CNT] s u)) ∧
  (∀ (b : Block) (d : Word) (s : State), b ≠ .hrp → s.hrpOn = true → s.grants .hrp (hdr b + 0x14) true = true → s.tmr = [] →
    s.frameDue b = none →
    Runs (.hrpWrite (BitVec.ofNat 32 (hdr b + 0x14)) [d] (BitVec.ofNat 16 (hrpCrc (hrpFrame 0x02 1 (BitVec.ofNat 32 (hdr b + 0x14)) [d])))) s (fun u =>
      u.rd aHRP_LAST = 0x020100 ∧ u.bus.hrpOut = hrpReply 0 1 [] ∧
      (∀ i : Fin 16, u.shows ⟨hdr b + 0x14, i.val, 1⟩ =
        if d.fld (16 + i.val) 1 = 1 then d.fld i.val 1 else s.shows ⟨hdr b + 0x14, i.val, 1⟩) ∧ OnlyRegs [hdr b + 0x14, aHRP_LAST, aHRP_LAST_ADDR, aHRP_XFER_CNT] s u)) ∧
  (∀ (a : Word) (b : Block) (d : Word) (s : State), s.hrpOn = true → a.toNat % 4 = 0 → blockAt a.toNat = some b →
    s.verdict .hrp b a.toNat true = .denied →
    Runs (.hrpWrite a [d] (BitVec.ofNat 16 (hrpCrc (hrpFrame 0x02 1 a [d])))) s (fun u => u.rd aHRP_LAST = 0x020005 ∧ u.mem = s.mem ∧ u.cmt = s.cmt ∧ u.bnd = s.bnd)) ∧
  (∀ (sent : Nat) (s : State), Runs (.hrpCsAbort sent) s (fun u => u.bus.hrpData = s.bus.hrpData.take sent ∧ OnlyRegs [] s u)) ∧
  (∀ (cmd : Fin 256) (s : State), s.hrpOn = true → cmd.val ≠ 0x0B → cmd.val ≠ 0x02 →
    Runs (.hrpUnknownCmd cmd) s (fun u => u.rd aHRP_LAST = BitVec.ofNat 32 (cmd.val * 0x10000 + 2) ∧ u.bus.hrpOut = hrpReply 2 0 [] ∧
      OnlyRegs [aHRP_LAST, aHRP_XFER_CNT] s u))

/-- TMR_SCRUB: afterwards no register of the register map has copies that differ, and a register with differing copies holds the vote
over them. BLOCK_BOUNDARY: the block's boundary shadows apply and are gone, a pending commit applies with its generation; without
shadows and commits no register of a block that counts no frames changes. -/
def Obligations.ScrubAndBoundary : Prop :=
  (∀ (s : State), (∀ x ∈ s.tmr, (specAt x.1).isSome = true ∧ (blockAt x.1).isSome = true) → Runs .tmrScrub s (fun u => u.tmr = [])) ∧
  (∀ (a : Nat) (p : Word × Word) (g : RegSpec) (b : Block) (s : State), s.tmr = [(a, p)] → specAt a = some g → blockAt a = some b → legAt a = none →
    a ∉ [hdr b + 0x30, hdr b + 0x1C, hdr b + 0x10] → Runs .tmrScrub s (fun u => u.rd a = s.use a ∧ u.tmr = [])) ∧
  (∀ (b : Block) (s : State), (∀ c, b ≠ .can c) → framePeriod b ≠ 0 → s.on (hCtrl (hdr b) 0) = true → s.isRun (blockIsland b) = true →
    Runs (.blockBoundary b) s (fun u => u.bnd = s.bnd.filter (fun x => !ownReg b x.1))) ∧
  (∀ (b : Block) (s : State), (∀ c, b ≠ .can c) → framePeriod b ≠ 0 → s.on (hCtrl (hdr b) 0) = true → s.isRun (blockIsland b) = true →
    s.on (hCmtPend (hdr b)) = true → s.tmr = [] →
    Runs (.blockBoundary b) s (fun u => u.cmt = s.cmt.filter (fun x => !ownReg b x.1) ∧
      u.shows (hGenApplied (hdr b)) = s.get (hGenPending (hdr b)) ∧ u.shows (hCmtPend (hdr b)) = 0)) ∧
  (∀ (b : Block) (s : State), b ∈ [Block.fbi, .amu, .msio, .pair, .bist, .sage, .eng] → s.on (hCtrl (hdr b) 0) = true → s.isRun (blockIsland b) = true →
    s.on (hCmtPend (hdr b)) = false → s.bnd = [] → Runs (.blockBoundary b) s (fun u => OnlyRegs [] s u ∧ s.now ≤ u.now))


/-- REQUEST_ARRIVAL at a running island: the link's requester loses a credit and a reply slot, and the request is accepted; at an
island that is not running it is answered ABSENT and counted, and the link keeps its credits. REPLY: the oldest accepted request of the link
is answered, its credit and its reply slot come back; a reply of an earlier epoch is counted as discarded; a reply without its tag is a fabric
fault. -/
def Obligations.FabricLinks : Prop :=
  (∀ (q i : Fin 17) (urg : Bool) (tag ep : Nat) (idw : Bool) (a : Nat) (s : State),
    (s.link q.val i.val urg.toNat).slots < linkDepth q.val i.val urg.toNat → (s.link q.val i.val urg.toNat).held ≠ 0 →
    s.isRun i.val = true →
    Runs (.requestArrival q i urg tag ep ⟨idw, a⟩) s (fun u =>
      (u.link q.val i.val urg.toNat).held = (s.link q.val i.val urg.toNat).held - 1 ∧
      (u.link q.val i.val urg.toNat).slots = (s.link q.val i.val urg.toNat).slots + 1 ∧
      (u.link q.val i.val urg.toNat).buf = (s.link q.val i.val urg.toNat).buf + 1 ∧
      (u.link q.val i.val urg.toNat).outst = (s.link q.val i.val urg.toNat).outst ++ [(tag, ep)] ∧
      (u.warden i.val).accepted = (s.warden i.val).accepted ++ [{ src := q.val, urg := urg, tag := tag, ep := ep, a := a }] ∧
      (u.warden i.val).gated = false ∧ OnlyRegs [] s u)) ∧
  (∀ (q i : Fin 17) (urg : Bool) (tag ep a : Nat) (s : State),
    (s.link q.val i.val urg.toNat).slots < linkDepth q.val i.val urg.toNat → (s.link q.val i.val urg.toNat).held ≠ 0 →
    s.isRun i.val = false → i.val ≠ 14 →
    Runs (.requestArrival q i urg tag ep ⟨false, a⟩) s (fun u => u.links = s.links ∧ u.wardens = s.wardens ∧
      u.shows (fFAB_ABSENT_CNT_cnt i.val) = (s.get (fFAB_ABSENT_CNT_cnt i.val) + 1) % 2 ^ 32 ∧
      OnlyRegs [aFAB_ABSENT_CNT i.val] s u)) ∧
  (∀ (q i : Fin 17) (urg : Bool) (tag ep a : Nat) (s : State),
    (s.link q.val i.val urg.toNat).outst.contains (tag, ep) = true → ep = (s.warden q.val).epoch →
    (s.warden q.val).st = .run → q ≠ i →
    (s.warden i.val).accepted.find? (fun r => r.src == q.val && r.urg == urg) = some { src := q.val, urg := urg, tag := tag, ep := ep, a := a } →
    Runs (.reply q i urg tag ep) s (fun u =>
      (u.link q.val i.val urg.toNat).held = (s.link q.val i.val urg.toNat).held + 1 ∧
      (u.link q.val i.val urg.toNat).slots = (s.link q.val i.val urg.toNat).slots - 1 ∧
      (u.link q.val i.val urg.toNat).outst = (s.link q.val i.val urg.toNat).outst.erase (tag, ep) ∧
      (u.warden i.val).accepted = (s.warden i.val).accepted.erase { src := q.val, urg := urg, tag := tag, ep := ep, a := a } ∧ OnlyRegs [] s u)) ∧
  (∀ (q i : Fin 17) (urg : Bool) (tag ep : Nat) (s : State),
    ep ≠ (s.warden q.val).epoch → (s.warden i.val).accepted.find? (fun r => r.src == q.val && r.urg == urg) = none →
    Runs (.reply q i urg tag ep) s (fun u =>
      u.shows (fFAB_DISCARD_CNT_cnt q.val) = (s.get (fFAB_DISCARD_CNT_cnt q.val) + 1) % 2 ^ 32 ∧ u.wardens = s.wardens ∧
      OnlyRegs [aFAB_DISCARD_CNT q.val] s u)) ∧
  (∀ (q i : Fin 17) (urg : Bool) (tag ep : Nat) (s : State),
    (s.link q.val i.val urg.toNat).outst.contains (tag, ep) = false → ep = (s.warden q.val).epoch →
    (s.warden q.val).st = .run → (s.warden i.val).accepted.find? (fun r => r.src == q.val && r.urg == urg) = none → s.tmr = [] →
    Runs (.reply q i urg tag ep) s (fun u => u.shows fFAB_AUDIT_FAIL_valid = 1 ∧ u.shows ⟨0x40010010, 4, 1⟩ = 1 ∧
      u.links = s.links ∧ u.sage.inbox = s.sage.inbox ++ [⟨0, nOther (q.val * 256 + i.val), false⟩]))

/-- CTRL_SRST of a block starts the sequence of its island, whose shadows are gone; for ENG, THY and NDL it is refused and counted while
not every group with legs is held. CLOCK_GATE gates the clock of an idle island. DRAIN_COMPLETE and DRAIN_TIMEOUT lead from DRAIN to RETIRE with the next
epoch; RETIRE_COMPLETE answers every accepted request RETIRED and leads to ABSENT; RETIRE_OVERTIME is a fabric fault; RESET_RELEASE
leads back to RUN. -/
def Obligations.WardenSequence : Prop :=
  (∀ (r : Req) (b : Block) (s : State), s.grants r (hdr b + 8) true = true → b ∉ [Block.sys, .hpm, .fab, .apc, .sage, .msio, .hrp] →
    (blockIsland b ∈ [5, 6, 7] → s.allHeld = true) →
    Runs (.ctrlSrst r b) s (fun u => (u.warden (blockIsland b)).st = .drain ∧ (u.warden (blockIsland b)).purpose = .reset ∧
      (u.warden (blockIsland b)).epoch = (s.warden (blockIsland b)).epoch ∧
      u.bnd = s.bnd.filter (fun x => !(islandAt (x.1 % 2 ^ 32) == blockIsland b)) ∧
      u.cmt = s.cmt.filter (fun x => !(islandAt (x.1 % 2 ^ 32) == blockIsland b)))) ∧
  (∀ (r : Req) (b : Block) (s : State), s.grants r (hdr b + 8) true = true → blockIsland b ∈ [5, 6, 7] → s.allHeld = false →
    Runs (.ctrlSrst r b) s (fun u => (∀ j : Fin 17, (u.warden j.val).st = (s.warden j.val).st) ∧ u.shows fFAB_SRST_REF_cnt = min (s.get fFAB_SRST_REF_cnt + 1) (2 ^ 32 - 1) ∧
      OnlyRegs [0x4001001C, 0x40010010, aFAB_SRST_REF] s u)) ∧
  (∀ (i : Fin 17) (s : State), (s.warden i.val).st = .run → (s.warden i.val).accepted = [] → i.val ∉ [0, 4, 16] →
    Runs (.clockGate i) s (fun u => u.warden i.val = { s.warden i.val with gated := true } ∧
      u.now = max s.now ((s.warden i.val).idle + us) ∧ OnlyRegs [] s u)) ∧
  (∀ (i : Fin 17) (s : State), (s.warden i.val).st = .drain → (s.warden i.val).accepted = [] →
    Runs (.drainComplete i) s (fun u => (u.warden i.val).st = .retire ∧
      (u.warden i.val).epoch = ((s.warden i.val).epoch + 1) % 65536 ∧ (u.warden i.val).purpose = (s.warden i.val).purpose)) ∧
  (∀ (i : Fin 17) (s : State), (s.warden i.val).st = .drain →
    Runs (.drainTimeout i) s (fun u => (u.warden i.val).st = .retire ∧
      (u.warden i.val).epoch = ((s.warden i.val).epoch + 1) % 65536 ∧ u.shows ⟨0x40010010, 5, 1⟩ = 1 ∧
      u.now = max s.now ((s.warden i.val).since + (s.warden i.val).limit * us))) ∧
  (∀ (i : Fin 17) (s : State), (s.warden i.val).st = .retire → (s.warden i.val).purpose ≠ .powerDown → s.tmr = [] →
    Runs (.retireComplete i) s (fun u => (u.warden i.val).st = .absent ∧ (u.warden i.val).accepted = [] ∧
      (u.warden i.val).epoch = (s.warden i.val).epoch ∧ u.shows (fFAB_RETIRED_CNT_cnt i.val) =
        (s.shows (fFAB_RETIRED_CNT_cnt i.val) + (s.warden i.val).accepted.length) % 2 ^ 32)) ∧
  (∀ (i : Fin 17) (s : State), (s.warden i.val).st = .retire → s.tmr = [] →
    Runs (.retireOvertime i) s (fun u => u.shows fFAB_AUDIT_FAIL_valid = 1 ∧ u.wardens = s.wardens ∧
      u.sage.inbox = s.sage.inbox ++ [⟨0, nOther (i.val * 256 + i.val), false⟩])) ∧
  (∀ (i : Fin 17) (s : State), (s.warden i.val).st = .absent → (s.warden i.val).purpose = .reset →
    Runs (.resetRelease i) s (fun u => (u.warden i.val).st = .run ∧ (u.warden i.val).epoch = (s.warden i.val).epoch ∧
      u.now = max s.now ((s.warden i.val).since + 64 * islandPeriod i.val)))

/-- CREDIT_AUDIT: where the credits and reply slots of every link balance, the pass is counted, every link's figures are those of this moment, and
no register but the counter changes; a link that does not balance is a fabric fault. -/
def Obligations.CreditAudit : Prop :=
  (∀ (s : State), (∀ x ∈ allLinks, linkBalanced (linkDepth x.1 x.2.1 x.2.2) (s.link x.1 x.2.1 x.2.2) = true) →
    Runs .creditAudit s (fun u => u.shows fFAB_AUDIT_PASS_cnt = (s.get fFAB_AUDIT_PASS_cnt + 1) % 2 ^ 32 ∧
      OnlyRegs [aFAB_AUDIT_PASS] s u ∧ u.sage.inbox = s.sage.inbox ∧
      ∀ x ∈ allLinks, (u.link x.1 x.2.1 x.2.2).aCred = (s.link x.1 x.2.1 x.2.2).held -
          (if x.2.2 = 0 then min (s.link x.1 x.2.1 x.2.2).held (s.onLink x.1 x.2.1) else 0) ∧
        (u.link x.1 x.2.1 x.2.2).held = (s.link x.1 x.2.1 x.2.2).held)) ∧
  (∀ (q i c : Nat) (s : State), (q, i, c) ∈ allLinks → linkBalanced (linkDepth q i c) (s.link q i c) = false → s.tmr = [] →
    Runs .creditAudit s (fun u => u.shows fFAB_AUDIT_FAIL_valid = 1 ∧
      ⟨0, nOther (q * 256 + i), false⟩ ∈ u.sage.inbox))


/-- ADMIT of an OFF context whose checks pass makes it ADMITTED and writes its load; with a failing check, or in another state, nothing
changes but the refusal's flags. START of an ADMITTED context forgets its inputs and waits for a sample instant, a context of software
triggers runs at once; it is refused while the scheduler is off. STOP of a context without a step on a lane ends RUN at once; a
running step ends first. RELEASE makes an ADMITTED or HALTED context OFF; CLEAR makes a HALTED one ADMITTED unless its group is
switching. -/
def Obligations.ContextCommands : Prop :=
  (∀ (r : Req) (k : Nat) (s : State), s.grants r aCTX_W_CMD true = true → s.wsel r = k → (s.ctx k).st = .off → s.admitCode k = 0 →
    Runs (.admitCtx r) s (fun u => (u.ctx k).st = .admitted ∧ (u.ctx k).stepNo = (s.ctx k).stepNo ∧
      u.cw k 0x10 = BitVec.ofNat 32 (s.cLoad s.plan k) ∧ u.shows (cf k fCTX_W_STAT_aref) = 0 ∧ u.shows (cf k fCTX_W_STAT_cmd_ref) = 0 ∧
      (s.cTbg k = none → OnlyRegs [inst k aCTX_W_STAT, aENG_ADM_SUM, 0x4005000C] s u))) ∧
  (∀ (r : Req) (k : Nat) (s : State), s.grants r aCTX_W_CMD true = true → s.wsel r = k → (s.ctx k).st = .off → s.admitCode k ≠ 0 →
    Runs (.admitCtx r) s (fun u => u.ctxs = s.ctxs ∧ u.mem = s.mem ∧ u.shows (cf k fCTX_W_STAT_aref) = s.admitCode k ∧
      u.shows (cf k fCTX_W_STAT_cmd_ref) = 1 ∧ OnlyRegs [inst k aCTX_W_STAT, inst k aCTX_W_IRQ_RAW] s u)) ∧
  (∀ (r : Req) (k : Nat) (s : State), s.grants r aCTX_W_CMD true = true → s.wsel r = k → (s.ctx k).st ≠ .off →
    Runs (.admitCtx r) s (fun u => u.ctxs = s.ctxs ∧ u.mem = s.mem ∧ u.shows (cf k fCTX_W_STAT_cmd_ref) = 1 ∧
      u.shows ⟨inst k aCTX_W_IRQ_RAW, 6, 1⟩ = 1 ∧ OnlyRegs [inst k aCTX_W_STAT, inst k aCTX_W_IRQ_RAW] s u)) ∧
  (∀ (r : Req) (k : Nat) (s : State), s.grants r aCTX_W_CMD true = true → s.wsel r = k → (s.ctx k).st = .admitted → s.mayStart k = true →
    (s.ctx k).cmtGen = none → Tab.find s.bnd (inst k aCTX_W_SRC) = none → Tab.find s.bnd (inst k aCTX_W_SETP) = none →
    Tab.find s.bnd (inst k aCTX_W_ILIM) = none →
    Runs (.startCtx r) s (fun u => (u.ctx k).inVal = [] ∧ (u.ctx k).used = [] ∧ (u.ctx k).stepNo = (s.ctx k).stepNo ∧
      (s.cSrc k = 2 → (u.ctx k).st = .run) ∧ (s.cSrc k ≠ 2 → (u.ctx k).st = .admitted ∧ (u.ctx k).startPend = true) ∧
      u.shows (cf k fCTX_W_STAT_cmd_ref) = 0 ∧ OnlyRegs [inst k aCTX_W_STAT] s u)) ∧
  (∀ (r : Req) (k : Nat) (s : State), s.grants r aCTX_W_CMD true = true → s.wsel r = k → (s.ctx k).st = .admitted → s.mayStart k = false →
    Runs (.startCtx r) s (fun u => u.ctxs = s.ctxs ∧ u.shows (cf k fCTX_W_STAT_cmd_ref) = 1 ∧
      OnlyRegs [inst k aCTX_W_STAT, inst k aCTX_W_IRQ_RAW] s u)) ∧
  (∀ (r : Req) (k : Nat) (s : State), s.grants r aCTX_W_CMD true = true → s.wsel r = k → (s.ctx k).st = .run → s.cTbg k = none →
    ((s.ctx k).ph = .idle ∨ (s.ctx k).ph = .waiting) → (s.ctx k).older = [] →
    Runs (.stopCtx r) s (fun u => (u.ctx k).st = .admitted ∧ (u.ctx k).ph = .idle ∧ (u.ctx k).stopPend = false ∧
      u.shows (cf k fCTX_W_STAT_cmd_ref) = 0)) ∧
  (∀ (r : Req) (k : Nat) (s : State), s.grants r aCTX_W_CMD true = true → s.wsel r = k → (s.ctx k).st = .run → s.cTbg k = none →
    (s.ctx k).ph = .running →
    Runs (.stopCtx r) s (fun u => u.ctx k = { s.ctx k with stopPend := true } ∧ OnlyRegs [inst k aCTX_W_STAT] s u)) ∧
  (∀ (r : Req) (k : Nat) (s : State), s.grants r aCTX_W_CMD true = true → s.wsel r = k →
    ((s.ctx k).st = .admitted ∨ (s.ctx k).st = .halt) →
    Runs (.releaseCtx r) s (fun u => u.ctx k = { stepNo := (s.ctx k).stepNo } ∧ u.shows (cf k fCTX_W_STAT_cmd_ref) = 0 ∧
      OnlyRegs [inst k aCTX_W_STAT, aENG_ADM_SUM, 0x4005000C] s u)) ∧
  (∀ (r : Req) (k : Nat) (s : State), s.grants r aCTX_W_CMD true = true → s.wsel r = k → (s.ctx k).st = .halt → s.mgUnsafe k = false →
    Runs (.clearCtx r) s (fun u => u.ctx k = { s.ctx k with st := .admitted } ∧ u.mem = s.mem ∧
      u.shows (cf k fCTX_W_STAT_cmd_ref) = 0 ∧ OnlyRegs [inst k aCTX_W_STAT] s u)) ∧
  (∀ (r : Req) (k : Nat) (s : State), s.grants r aCTX_W_CMD true = true → s.wsel r = k → (s.ctx k).st ≠ .halt →
    Runs (.clearCtx r) s (fun u => u.ctxs = s.ctxs ∧ u.mem = s.mem ∧ u.shows (cf k fCTX_W_STAT_cmd_ref) = 1 ∧
      OnlyRegs [inst k aCTX_W_STAT, inst k aCTX_W_IRQ_RAW] s u))

/-- STAGE_WORD puts a word at the requester's parameter address, which then advances. PARAM_COMMIT with the next generation waits for the
sample instant of a running context, and applies at once to another one; with another generation it is refused and changes no
context. PARAM_ABORT discards the staged words and a commit that waits of the same requester. INTEGRATOR_SET waits for the sample instant of a running context.
WSEL_WRITE selects a context and discards words staged for another. -/
def Obligations.ContextParameters : Prop :=
  (∀ (r : Req) (k : Nat) (s : State) (d : Word), s.grants r aCTX_W_PDATA true = true → s.wsel r = k → s.stage r = {} →
    (s.ctx k).cmtGen = none → 0x40 ≤ s.get ⟨bank r aCTX_W_PADDR, 2, 8⟩ → s.get ⟨bank r aCTX_W_PADDR, 2, 8⟩ < 0xD8 →
    Runs (.stageWord r d) s (fun u => u.stage r = { ctx := k, words := [(4 * s.get ⟨bank r aCTX_W_PADDR, 2, 8⟩, d)] } ∧
      u.shows ⟨bank r aCTX_W_PADDR, 2, 8⟩ = s.get ⟨bank r aCTX_W_PADDR, 2, 8⟩ + 1 ∧ u.mem = s.mem ∧
      OnlyRegs [bank r aCTX_W_PADDR] s u)) ∧
  (∀ (r : Req) (k : Nat) (gen : Fin 256) (s : State), s.grants r aCTX_W_PCMT true = true → (s.stage r).ctx = k →
    (s.stage r).words ≠ [] → (s.ctx k).st = .run → (s.ctx k).cmtGen = none → gen.val = (s.get (cf k fCTX_W_PGEN_applied) + 1) % 256 →
    Runs (.paramCommit r gen) s (fun u => u.ctx k = { s.ctx k with cmtGen := some gen.val, cmtWords := (s.stage r).words, cmtBy := r } ∧
      u.stage r = {} ∧ u.mem = s.mem ∧ u.shows (cf k fCTX_W_PGEN_pending) = gen.val ∧ OnlyRegs [inst k aCTX_W_PGEN] s u)) ∧
  (∀ (r : Req) (k : Nat) (gen : Fin 256) (ofs : Nat) (d : Word) (s : State), s.grants r aCTX_W_PCMT true = true → k < 128 →
    s.stage r = { ctx := k, words := [(ofs, d)] } → (s.ctx k).st ≠ .run → (s.ctx k).cmtGen = none →
    gen.val = (s.get (cf k fCTX_W_PGEN_applied) + 1) % 256 → 0x100 ≤ ofs → ofs < 0x300 →
    Runs (.paramCommit r gen) s (fun u => u.cw k ofs = d ∧ OnlyMem (cArea k + ofs) 4 s u ∧ (u.ctx k).cmtGen = none ∧
      u.shows (cf k fCTX_W_PGEN_applied) = gen.val ∧ OnlyRegs [inst k aCTX_W_PGEN, 0x40050010] s u)) ∧
  (∀ (r : Req) (k : Nat) (gen : Fin 256) (s : State), s.grants r aCTX_W_PCMT true = true → (s.stage r).ctx = k →
    (s.stage r).words ≠ [] → (s.ctx k).st = .run → gen.val ≠ (s.get (cf k fCTX_W_PGEN_applied) + 1) % 256 →
    Runs (.paramCommit r gen) s (fun u => u.ctxs = s.ctxs ∧ u.stages = s.stages ∧ u.mem = s.mem ∧
      u.sage.inbox = s.sage.inbox ++ [⟨42, nOther 6, false⟩] ∧ OnlyRegs [0x4005001C, 0x40050010] s u)) ∧
  (∀ (r : Req) (k : Nat) (s : State), s.grants r aCTX_W_PCMT true = true → s.wsel r = k →
    Runs (.paramAbort r) s (fun u => u.stage r = {} ∧
      u.ctx k = (if (s.ctx k).cmtBy = r then { s.ctx k with cmtGen := none, cmtWords := [] } else s.ctx k) ∧ u.mem = s.mem ∧
      OnlyRegs [] s u)) ∧
  (∀ (r : Req) (k : Nat) (v : Word) (s : State), s.grants r aCTX_W_ITEG true = true → s.wsel r = k → (s.ctx k).st = .run →
    Runs (.integratorSet r v) s (fun u =>
      u.ctx k = { s.ctx k with itegPend := some (s.get (cf k fCTX_W_ISEL_idx), v) } ∧ u.mem = s.mem ∧ OnlyRegs [] s u)) ∧
  (∀ (r : Req) (k : Fin 128) (s : State), s.grants r aENG_WSEL true = true → (s.stage r).words ≠ [] → (s.stage r).ctx ≠ k.val →
    Runs (.wselWrite r k) s (fun u => u.wsel r = k.val ∧ u.stage r = {} ∧ u.ctxs = s.ctxs ∧
      OnlyRegs [bank r aENG_WSEL, 0x4005001C, 0x40050010] s u))


/-- KS_RELOAD_REQ drains the kernel store's warden; with a context in RUN it sets an error bit instead. KS_DONE while loading begins the
verification. KS_VERIFY: a store whose CRC agrees becomes VALID and its warden runs; otherwise it is INVALID and Sage is told.
CTX_CRC_CHECK halts a context whose configuration words do not agree with their reference, with cause 6, and does nothing to an OFF
context. LOAD_WINDOW shows the lane-cycles of the window that ends, in units of 10, and keeps their peak. -/
def Obligations.KernelStore : Prop :=
  (∀ (r : Req) (s : State), s.grants r aENG_KS_CTRL true = true → (∀ k : Fin 128, (s.ctx k.val).st ≠ .run) → s.isRun 16 = true →
    Runs (.ksReloadReq r) s (fun u => (u.warden 16).st = .drain ∧ (u.warden 16).purpose = .reload ∧ u.mem = s.mem)) ∧
  (∀ (r : Req) (s : State), s.grants r aENG_KS_CTRL true = true → (∃ k : Fin 128, (s.ctx k.val).st = .run) → s.tmr = [] →
    Runs (.ksReloadReq r) s (fun u => (∀ i : Fin 17, (u.warden i.val).st = (s.warden i.val).st) ∧ u.shows ⟨0x4005001C, 17, 1⟩ = 1 ∧
      OnlyRegs [0x4005001C, 0x40050010] s u)) ∧
  (∀ (r : Req) (s : State), s.grants r aENG_KS_CTRL true = true → s.get fENG_KS_STAT_state = 1 →
    Runs (.ksDone r) s (fun u => u.basil.ksRun = true ∧ OnlyRegs [] s u)) ∧
  (∀ (s : State), s.basil.ksRun = true → crc32c (s.memRead 0x30040000 0x20000) = s.rd aENG_KS_CRC →
    Runs .ksVerify s (fun u => u.shows fENG_KS_STAT_state = 0 ∧ (u.warden 16).st = .run ∧ u.basil.ksRun = false ∧
      u.sage.inbox = s.sage.inbox ∧ u.mem = s.mem)) ∧
  (∀ (s : State), s.basil.ksRun = true → crc32c (s.memRead 0x30040000 0x20000) ≠ s.rd aENG_KS_CRC →
    Runs .ksVerify s (fun u => u.shows fENG_KS_STAT_state = 2 ∧ u.wardens = s.wardens ∧ u.basil.ksRun = false ∧
      u.sage.inbox = s.sage.inbox ++ [⟨32, .none, false⟩] ∧ u.mem = s.mem)) ∧
  (∀ (k : Fin 128) (s : State), ((s.ctx k.val).st = .admitted ∨ (s.ctx k.val).st = .run) → s.cw k.val 0x310 ≠ 0 →
    s.ctxCrc k.val ≠ s.cw k.val 0x310 →
    Runs (.ctxCrcCheck k) s (fun u => (u.ctx k.val).st = .halt ∧ u.shows (cf k.val fCTX_W_STAT_hcause) = 6 ∧
      (⟨30, nCtx k.val, false⟩ : SEvt) ∈ u.sage.inbox)) ∧
  (∀ (k : Fin 128) (s : State), ((s.ctx k.val).st = .off ∨ s.cw k.val 0x310 = 0) → Runs (.ctxCrcCheck k) s (fun u => u = s)) ∧
  (∀ (s : State), Runs .loadWindow s (fun u => u.shows fENG_LOAD_load = min (s.basil.cycles / 10) (2 ^ 24 - 1) ∧
    u.shows fENG_LOAD_PEAK_peak = max (u.shows fENG_LOAD_load) (s.get fENG_LOAD_PEAK_peak) ∧ u.basil.cycles = 0 ∧
    u.now = max s.now (nextFrame ms s.basil.loadAt s.now) ∧ OnlyRegs [aENG_LOAD, aENG_LOAD_PEAK, 0x40050010] s u))


/-- TRIG and SAMPLE_INSTANT begin the next step of a running context, with its step number and set-point; a step that has not completed
by then is an overrun. BASIL_INPUT puts the value into the bound slot, and an item of PAIR fills none. STEP_RELEASE releases a step whose
required inputs are present. LATEST_START releases a step with a missing input as a stale one, and is an overrun of a released
step. -/
def Obligations.StepsBegin : Prop :=
  (∀ (r : Req) (k : Nat) (s : State), s.grants r aCTX_W_CMD true = true → s.wsel r = k → (s.ctx k).st = .run → s.mayTrig k = true →
    (s.ctx k).ph = .idle → (s.ctx k).startPend = false → (s.ctx k).stopPend = false → (s.ctx k).itegPend = none → (s.ctx k).cmtGen = none → s.bnd = [] →
    (s.cw k 0xC0).fld 12 2 ≠ 1 →
    Runs (.trig r) s (fun u => (u.ctx k).ph = .waiting ∧ (u.ctx k).tS = s.now ∧
      (u.ctx k).stepNo = ((s.ctx k).stepNo + 1) % 2 ^ 32 ∧ (u.ctx k).setp = s.cw k 0xC4 ∧ (u.ctx k).lastTrig = some s.now ∧
      u.mem = s.mem)) ∧
  (∀ (r : Req) (k : Nat) (s : State), s.grants r aCTX_W_CMD true = true → s.wsel r = k →
    ((s.ctx k).st ≠ .run ∨ s.mayTrig k = false) →
    Runs (.trig r) s (fun u => u.ctxs = s.ctxs ∧ u.shows (cf k fCTX_W_STAT_cmd_ref) = 1 ∧
      OnlyRegs [inst k aCTX_W_STAT, inst k aCTX_W_IRQ_RAW] s u)) ∧
  (∀ (k : Fin 128) (s : State), (s.ctx k.val).st = .run → s.cSrc k.val = 1 → (s.ctx k.val).ph = .idle →
    (s.ctx k.val).startPend = false → (s.ctx k.val).stopPend = false → (s.ctx k.val).itegPend = none → (s.ctx k.val).cmtGen = none →
    s.bnd = [] → (s.cw k.val 0xC0).fld 12 2 ≠ 1 →
    Runs (.sampleInstant k) s (fun u => u.now = max s.now (s.ctx k.val).nextAt ∧ (u.ctx k.val).ph = .waiting ∧ (u.ctx k.val).tS = u.now ∧
      (u.ctx k.val).stepNo = ((s.ctx k.val).stepNo + 1) % 2 ^ 32 ∧ (u.ctx k.val).setp = s.cw k.val 0xC4 ∧
      (u.ctx k.val).nextAt = u.now + 32 * s.cTimer k.val ∧ u.mem = s.mem)) ∧
  (∀ (k : Fin 128) (s : State), (s.ctx k.val).st = .run → s.cSrc k.val = 1 →
    ((s.ctx k.val).ph = .waiting ∨ (s.ctx k.val).ph = .released ∨ (s.ctx k.val).ph = .running) → (s.ctx k.val).stopPend = false →
    (s.ctx k.val).ovrRun + 1 < s.cOvrLim k.val →
    Runs (.sampleInstant k) s (fun u => u.shows fENG_OVR_CNT_cnt = min (s.get fENG_OVR_CNT_cnt + 1) (2 ^ 32 - 1) ∧
      u.shows fENG_IRQ_RAW_ovr = 1 ∧ (⟨31, nCtx k.val, false⟩ : SEvt) ∈ u.sage.inbox)) ∧
  (∀ (src : InSrc) (inst sel : Nat) (raw : Word) (pred : Bool) (k : Fin 128) (j : Fin 16) (s : State), src ≠ .pair → s.basil.rx = [] → s.isRun 5 = true →
    (s.ctx k.val).st = .run → s.slotType k.val j.val = srcNo src → s.slotInst k.val j.val = inst →
    selOf (srcNo src) (s.slotSel k.val j.val) = selOf (srcNo src) sel → s.forNext k.val j.val = false →
    Runs (.basilInput src inst sel raw pred) s (fun u =>
      Tab.find (u.ctx k.val).inVal j.val = some (slotVal (srcNo src) (selOf (srcNo src) sel) raw (s.cw k.val (0x44 + 8 * j.val))) ∧
      hasBit (u.ctx k.val).fresh j.val = true ∧ OnlyRegs [] s u ∧ u.mem = s.mem)) ∧
  (∀ (inst sel : Nat) (raw : Word) (pred : Bool) (s : State), Runs (.basilInput .pair inst sel raw pred) s (fun u => u = s)) ∧
  (∀ (k : Fin 128) (s : State), (s.ctx k.val).ph = .waiting → s.missing k.val = [] → s.now ≤ (s.ctx k.val).latest → s.schedOn = true →
    Runs (.stepRelease k) s (fun u => (u.ctx k.val).ph = .released ∧ (u.ctx k.val).stepIn = s.inputsNow k.val ∧
      (u.ctx k.val).stale = false ∧ u.mem = s.mem ∧ OnlyRegs [] s u)) ∧
  (∀ (k : Fin 128) (s : State), ((s.ctx k.val).ph ≠ .waiting ∨ s.missing k.val ≠ [] ∨ s.schedOn = false) → Runs (.stepRelease k) s (fun u => u = s)) ∧
  (∀ (k : Fin 128) (j : Nat) (s : State), (s.ctx k.val).ph = .waiting → s.missing k.val = [j] → Tab.get 0 (s.ctx k.val).staleRun j < 3 →
    (Tab.find (s.ctx k.val).used j).isSome = true → s.schedOn = true →
    Runs (.latestStart k) s (fun u => (u.ctx k.val).ph = .released ∧ (u.ctx k.val).stale = true ∧
      Tab.get 0 (u.ctx k.val).staleRun j = Tab.get 0 (s.ctx k.val).staleRun j + 1 ∧
      u.shows ⟨inst k.val aCTX_W_IRQ_RAW, 7, 1⟩ = 1 ∧ u.now = max s.now (s.ctx k.val).latest ∧
      OnlyRegs [inst k.val aCTX_W_IRQ_RAW] s u)) ∧
  (∀ (k : Fin 128) (s : State), (s.ctx k.val).ph = .released → (s.ctx k.val).stopPend = false → (s.ctx k.val).retry = none →
    (s.ctx k.val).ovrRun + 1 < s.cOvrLim k.val →
    Runs (.latestStart k) s (fun u => (u.ctx k.val).ph = .idle ∧ (u.ctx k.val).ovrRun = (s.ctx k.val).ovrRun + 1 ∧
      u.shows fENG_OVR_CNT_cnt = min (s.get fENG_OVR_CNT_cnt + 1) (2 ^ 32 - 1) ∧
      u.sage.inbox = s.sage.inbox ++ [⟨31, nCtx k.val, false⟩]))

/-- STEP_START puts the step that R85 selects on its lanes for its cost. STEP_COMPLETE of an ordinary step with finite results frees its
lanes and keeps its outputs as provisional; a result that is not finite halts the context with cause 5; a privileged mismatch is counted, reaches
Sage, and the step runs once more on the other pair where it can finish in time; an end past the deadline is an overrun. STEP_DEADLINE is an
overrun of a step that has not completed. -/
def Obligations.StepsRun : Prop :=
  (∀ (k : Nat) (ls : List Nat) (held : Option Nat) (s : State), s.pick none s.released = (some (k, ls), held) →
    Runs .stepStart s (fun u => (u.ctx k).ph = .running ∧ (u.ctx k).cost = s.stepCost k ∧ u.basil.pair = held ∧
      (∀ i ∈ ls, (u.lane i).ctx = some k ∧ (u.lane i).endAt = s.now + 32 * s.stepCost k) ∧ OnlyRegs [] s u)) ∧
  (∀ (held : Option Nat) (s : State), s.pick none s.released = (none, held) →
    Runs .stepStart s (fun u => u.ctxs = s.ctxs ∧ u.lanes = s.lanes ∧ u.basil.pair = held ∧ u.mem = s.mem ∧ OnlyRegs [] s u)) ∧
  (∀ (l : Fin 4) (k : Nat) (x : Lane) (s : State), s.lane l.val = x → x.ctx = some k → x.dead = false → x.endAt ≤ (s.ctx k).deadline →
    ((freeLanes k (s.reach x.endAt)).kernel k).finite = true →
    ((freeLanes k (s.reach x.endAt)).supervise k
      ((freeLanes k (s.reach x.endAt)).kernel k)).2 = false →
    s.cMg k = none → (s.ctx k).stopPend = false →
    Runs (.stepComplete l false) s (fun u => (u.ctx k).ph = .prov ∧ (u.ctx k).ovrRun = 0 ∧
      (u.ctx k).outs = pad8 ((freeLanes k (s.reach x.endAt)).kernel k).outs ∧
      (u.lane l.val).ctx = none ∧ u.now = max s.now x.endAt ∧
      u.basil.cycles = (List.range 4).foldl (fun n i => if (s.lane i).runs k then n + (max (s.lane i).booked
        (min (min u.now (s.ctx k).deadline) (s.lane i).endAt) - (s.lane i).booked) / 32 else n) s.basil.cycles)) ∧
  (∀ (l : Fin 4) (k : Nat) (x : Lane) (s : State), s.lane l.val = x → x.ctx = some k → x.dead = false → x.endAt ≤ (s.ctx k).deadline →
    ((freeLanes k (s.reach x.endAt)).kernel k).finite = false → (s.ctx k).st = .run →
    Runs (.stepComplete l false) s (fun u => (u.ctx k).st = .halt ∧ u.shows (cf k fCTX_W_STAT_hcause) = 5 ∧
      (⟨30, nCtx k, false⟩ : SEvt) ∈ u.sage.inbox)) ∧
  (∀ (l : Fin 4) (k : Nat) (x : Lane) (s : State), s.lane l.val = x → x.ctx = some k → x.dead = false → x.endAt ≤ (s.ctx k).deadline →
    x.priv = true → (s.ctx k).retry = none → (∀ i : Fin 4, i.val ≠ l.val → (s.lane i.val).ctx = none) →
    max s.now x.endAt + 32 * (s.ctx k).cost ≤ (s.ctx k).deadline →
    Runs (.stepComplete l true) s (fun u => (u.ctx k).ph = .released ∧ (u.ctx k).retry = some (1 - l.val / 2) ∧
      (u.ctx k).latest = (s.ctx k).deadline - 32 * (s.ctx k).cost ∧
      u.shows fENG_PRIV_MIS_cnt = min (s.get fENG_PRIV_MIS_cnt + 1) (2 ^ fENG_PRIV_MIS_cnt.w - 1) ∧
      u.shows fENG_IRQ_RAW_priv_mis = 1 ∧ u.sage.inbox = s.sage.inbox ++ [⟨29, nCtx k, false⟩])) ∧
  (∀ (l : Fin 4) (mis : Bool) (k : Nat) (x : Lane) (s : State), s.lane l.val = x → x.ctx = some k → x.dead = false → (s.ctx k).deadline < x.endAt →
    (s.ctx k).stopPend = false → (s.ctx k).ovrRun + 1 < s.cOvrLim k →
    Runs (.stepComplete l mis) s (fun u => (u.ctx k).ph = .idle ∧ (u.ctx k).ovrRun = (s.ctx k).ovrRun + 1 ∧
      (u.lane l.val).ctx = none ∧ u.now = max s.now (s.ctx k).deadline ∧ u.sage.inbox = s.sage.inbox ++ [⟨31, nCtx k, false⟩])) ∧
  (∀ (l : Fin 4) (mis : Bool) (s : State), (s.lane l.val).ctx = none → Runs (.stepComplete l mis) s (fun u => u = s)) ∧
  (∀ (k : Fin 128) (s : State), ((s.ctx k.val).ph = .waiting ∨ (s.ctx k.val).ph = .released ∨ (s.ctx k.val).ph = .running) →
    (s.ctx k.val).stopPend = false → (s.ctx k.val).ovrRun + 1 < s.cOvrLim k.val →
    Runs (.stepDeadline k) s (fun u => (u.ctx k.val).ph = .idle ∧ (u.ctx k.val).ovrRun = (s.ctx k.val).ovrRun + 1 ∧
      u.now = max s.now (s.ctx k.val).deadline ∧ u.shows fENG_IRQ_RAW_ovr = 1 ∧
      u.sage.inbox = s.sage.inbox ++ [⟨31, nCtx k.val, false⟩])) ∧
  (∀ (k : Fin 128) (s : State), ((s.ctx k.val).ph = .idle ∨ (s.ctx k.val).ph = .prov) → Runs (.stepDeadline k) s (fun u => u = s))


/-- PLL_STEP of an enabled unit takes place at the next grid instant and shows the filtered frequency; each step with a missing conversion is
counted, and the fourth in a row ends ACQ or LOCKED in NOSIG and reaches Sage; a unit that is OFF takes no step. GIU_REFERENCE keeps the
magnitude of the sealed references for the islanding detector. RT_ACK releases a latched TRIP or ISLAND into WAIT, and does nothing
without the latch. -/
def Obligations.GridUnits : Prop :=
  (∀ (n : Fin 8) (a b c : Word) (s : State), s.on (fGIU_PLL_CFG_en n.val) = true → s.get (fGIU_PLL_STAT_state n.val) ≠ 0 → s.giu.adc = [] →
    Runs (.pllStep n (some a) (some b) (some c)) s (fun u =>
      u.now = max s.now (((s.gu n.val).pll.at_ / s.pllH n.val + 1) * s.pllH n.val) ∧ (u.gu n.val).pll.at_ = ((s.gu n.val).pll.at_ / s.pllH n.val + 1) * s.pllH n.val ∧
      u.rd (aGIU_PLL_FREQ n.val) = (u.gu n.val).pll.f ∧ u.rd (aGIU_PLL_MISS n.val) = s.rd (aGIU_PLL_MISS n.val) ∧
      (u.gu n.val).pll.miss = 0)) ∧
  (∀ (n : Fin 8) (a b c : Option Word) (s : State), s.on (fGIU_PLL_CFG_en n.val) = true → s.giu.adc = [] →
    (s.get (fGIU_PLL_STAT_state n.val) = 1 ∨ s.get (fGIU_PLL_STAT_state n.val) = 2) → (s.gu n.val).pll.miss = 3 →
    (a = none ∨ b = none ∨ c = none) →
    Runs (.pllStep n a b c) s (fun u => u.shows (fGIU_PLL_STAT_state n.val) = 3 ∧
      u.shows (fGIU_PLL_MISS_cnt n.val) = min (s.get (fGIU_PLL_MISS_cnt n.val) + 1) (2 ^ 32 - 1) ∧
      (⟨34, nUnit n.val, false⟩ : SEvt) ∈ u.sage.inbox)) ∧
  (∀ (n : Fin 8) (a b c : Option Word) (s : State), s.get (fGIU_PLL_STAT_state n.val) = 0 → s.giu.adc = [] →
    Runs (.pllStep n a b c) s (fun u => u = s)) ∧
  (∀ (n : Fin 8) (id iq : Word) (s : State), s.isRun 8 = true →
    Runs (.giuReference n id iq) s (fun u => (u.gu n.val).isl.ref = mag2 ((Tab.find s.giu.refs n.val).getD (id, iq)) ∧ (u.gu n.val).isl.cur = true ∧
      (u.gu n.val).pll = (s.gu n.val).pll ∧ OnlyRegs [] s u)) ∧
  (∀ (r : Req) (n : Fin 8) (s : State), s.grants r (aGIU_RT_CMD n.val) true = true → s.on (fGIU_RT_CFG_en n.val) = true →
    s.on (fGIU_RT_CFG_trip_latch n.val) = true → (s.get (fGIU_RT_STAT_state n.val) = 5 ∨ s.get (fGIU_RT_STAT_state n.val) = 6) →
    Runs (.rtAck r n) s (fun u => u.shows (fGIU_RT_STAT_state n.val) = 1 ∧ (u.gu n.val).rt.acc = [] ∧ u.shows ⟨0x40060010, 4, 1⟩ = 1 ∧
      u.sage.inbox = s.sage.inbox)) ∧
  (∀ (r : Req) (n : Fin 8) (s : State), s.grants r (aGIU_RT_CMD n.val) true = true → s.on (fGIU_RT_CFG_trip_latch n.val) = false →
    Runs (.rtAck r n) s (fun u => u.giu = s.giu ∧ OnlyRegs [] s u))

/-- MPPT_STEP of a tracker in TRACK takes the mean of the items since the last step, shows their power and sets the next reference;
otherwise it does nothing. TRACKER_ITEM adds to the sums of a tracker in TRACK, and freezes the tracker while the limit acts, the group is safe or the
context does not run. SCAN_START and TRK_SCAN begin a scan of a tracker in TRACK at the first point; a request in another state is kept.
SCAN_DWELL leads to the next point and, after the last one, counts the scan and returns to TRACK. -/
def Obligations.Trackers : Prop :=
  (∀ (t : Fin 16) (s : State), s.get (fGIU_TRK_STAT_state t.val) = 1 → (s.trk t.val).n ≠ 0 →
    Runs (.mpptStep t) s (fun u => (u.trk t.val).vp = F32.div (s.trk t.val).sv (F32.ofInt (s.trk t.val).n) ∧
      (u.trk t.val).ip = F32.div (s.trk t.val).si (F32.ofInt (s.trk t.val).n) ∧ (u.trk t.val).n = 0 ∧ (u.trk t.val).at_ = u.now ∧
      u.rd (aGIU_TRK_PWR t.val) = F32.mul (u.trk t.val).vp (u.trk t.val).ip ∧
      OnlyRegs [aGIU_TRK_VREF t.val, aGIU_TRK_PWR t.val] s u)) ∧
  (∀ (t : Fin 16) (s : State), s.get (fGIU_TRK_STAT_state t.val) ≠ 1 → Runs (.mpptStep t) s (fun u => u = s)) ∧
  (∀ (t : Fin 16) (v i : Word) (s : State), s.get (fGIU_TRK_STAT_state t.val) = 1 → s.isRun 8 = true → Tab.find s.giu.items t.val = none →
    Runs (.trackerItem t v i false false true) s (fun u => (u.trk t.val).sv = F32.add (s.trk t.val).sv v ∧
      (u.trk t.val).si = F32.add (s.trk t.val).si i ∧ (u.trk t.val).n = (s.trk t.val).n + 1 ∧ OnlyRegs [] s u)) ∧
  (∀ (t : Fin 16) (v i : Word) (olim safe run : Bool) (s : State), s.get (fGIU_TRK_STAT_state t.val) = 1 → s.isRun 8 = true →
    Tab.find s.giu.items t.val = none →
    (olim = true ∨ safe = true ∨ run = false) →
    Runs (.trackerItem t v i olim safe run) s (fun u => u.shows (fGIU_TRK_STAT_state t.val) = 3 ∧
      u.rd (aGIU_TRK_VREF t.val) = s.rd (aGIU_TRK_VREF t.val) ∧ OnlyRegs [aGIU_TRK_STAT t.val, 0x4006001C, 0x40060010] s u)) ∧
  (∀ (t : Fin 16) (s : State), s.on (fGIU_TRK_CFG_scan_en t.val) = true → s.get (fGIU_TRK_STAT_state t.val) = 1 →
    Runs (.scanStart t) s (fun u => u.shows (fGIU_TRK_STAT_state t.val) = 2 ∧ u.rd (aGIU_TRK_VREF t.val) = s.scanV t.val 0 ∧
      (u.trk t.val).pre = s.rd (aGIU_TRK_VREF t.val) ∧ (u.trk t.val).k = 0 ∧ u.now = max s.now (s.trk t.val).due ∧
      OnlyRegs [aGIU_TRK_VREF t.val, aGIU_TRK_STAT t.val] s u)) ∧
  (∀ (r : Req) (t : Fin 16) (s : State), s.grants r (aGIU_TRK_CMD t.val) true = true → s.get (fGIU_TRK_STAT_state t.val) = 1 →
    Runs (.trkScan r t) s (fun u => u.shows (fGIU_TRK_STAT_state t.val) = 2 ∧ u.rd (aGIU_TRK_VREF t.val) = s.scanV t.val 0 ∧
      (u.trk t.val).pre = s.rd (aGIU_TRK_VREF t.val) ∧ OnlyRegs [aGIU_TRK_VREF t.val, aGIU_TRK_STAT t.val] s u)) ∧
  (∀ (r : Req) (t : Fin 16) (s : State), s.grants r (aGIU_TRK_CMD t.val) true = true → 2 ≤ s.get (fGIU_TRK_STAT_state t.val) →
    Runs (.trkScan r t) s (fun u => u.trk t.val = { s.trk t.val with req := true } ∧ OnlyRegs [] s u)) ∧
  (∀ (t : Fin 16) (s : State), s.get (fGIU_TRK_STAT_state t.val) = 2 → (s.trk t.val).k + 1 < s.trkPts t.val →
    Runs (.scanDwell t) s (fun u => (u.trk t.val).k = (s.trk t.val).k + 1 ∧
      u.rd (aGIU_TRK_VREF t.val) = s.scanV t.val ((s.trk t.val).k + 1) ∧
      u.now = max s.now ((s.trk t.val).dwellAt + s.trkDwell t.val * ms) ∧ OnlyRegs [aGIU_TRK_VREF t.val] s u)) ∧
  (∀ (t : Fin 16) (s : State), s.get (fGIU_TRK_STAT_state t.val) = 2 → s.trkPts t.val ≤ (s.trk t.val).k + 1 → (s.trk t.val).req = false →
    Runs (.scanDwell t) s (fun u => u.shows (fGIU_TRK_STAT_state t.val) = 1 ∧
      u.shows (fGIU_TRK_SCAN_cnt t.val) = (s.get (fGIU_TRK_SCAN_cnt t.val) + 1) % 2 ^ (fGIU_TRK_SCAN_cnt t.val).w ∧
      u.shows (fGIU_TRK_STAT_abort t.val) = 0 ∧ u.shows ⟨0x40060010, 7, 1⟩ = 1))


/-- TBG_START of a stopped group whose start lies far enough ahead makes it pending and shows the start as its next boundary; otherwise it
is refused and changes no group. TBG_STOP waits for the boundary where every leg's group is in a safe state, otherwise it is refused.
HAND_OFF takes the window of the next boundary, of one period for a group without shadows. TBG_BOUNDARY begins the window handed over: the period
count, the next boundary and the running flag. COMPARE_SET moves the oldest set from the link to the group. FINE_CALIBRATION shows its taps, and a
failure sets its error and reaches Sage. -/
def Obligations.TimebaseGroups : Prop :=
  (∀ (r : Req) (g : Fin 32) (s : State), s.grants r (aTBG_CMD g.val) true = true → s.tbgRun g.val = false →
    s.get (fTBG_CFG_mode g.val) ≠ 0 →
    s.now + 32 * (s.hofs g.val + 400) ≤ 32 * (s.get (fTBG_T0_LO_lo g.val) + 2 ^ 32 * s.get (fTBG_T0_HI_hi g.val)) →
    Runs (.tbgStart r g) s (fun u => u.shows (fTBG_STAT_start_pend g.val) = 1 ∧
      (u.tbg g.val).nextB = 32 * (s.get (fTBG_T0_LO_lo g.val) + 2 ^ 32 * s.get (fTBG_T0_HI_hi g.val)) ∧
      (u.tbg g.val).handAt = some ((u.tbg g.val).nextB - 32 * s.hofs g.val) ∧ (u.tbg g.val).taken = [] ∧
      u.rd (aTBG_NEXT_LO g.val) = BitVec.ofNat 32 ((u.tbg g.val).nextB / 32) ∧
      OnlyRegs [aTBG_STAT g.val, aTBG_NEXT_LO g.val, aTBG_NEXT_HI g.val] s u)) ∧
  (∀ (r : Req) (g : Fin 32) (s : State), s.grants r (aTBG_CMD g.val) true = true →
    (s.tbgRun g.val = true ∨ s.get (fTBG_CFG_mode g.val) = 0 ∨
      32 * (s.get (fTBG_T0_LO_lo g.val) + 2 ^ 32 * s.get (fTBG_T0_HI_hi g.val)) < s.now + 32 * (s.hofs g.val + 400)) →
    Runs (.tbgStart r g) s (fun u => u.tbgs = s.tbgs ∧ u.shows ⟨aTBG_IRQ_RAW g.val, 7, 1⟩ = 1 ∧
      OnlyRegs [aTBG_IRQ_RAW g.val, 0x4002001C, 0x40020010] s u)) ∧
  (∀ (r : Req) (g : Fin 32) (s : State), s.grants r (aTBG_CMD g.val) true = true → s.tbgRun g.val = true →
    (∀ n ∈ s.groupLegs g.val, s.mgState (s.legMg n) ≠ 0) →
    Runs (.tbgStop r g) s (fun u => u.tbg g.val = { s.tbg g.val with stopPend := true } ∧ OnlyRegs [] s u)) ∧
  (∀ (r : Req) (g : Fin 32) (n : Nat) (s : State), s.grants r (aTBG_CMD g.val) true = true → n ∈ s.groupLegs g.val →
    s.mgState (s.legMg n) = 0 →
    Runs (.tbgStop r g) s (fun u => u.tbgs = s.tbgs ∧ u.shows ⟨aTBG_IRQ_RAW g.val, 7, 1⟩ = 1 ∧
      OnlyRegs [aTBG_IRQ_RAW g.val, 0x4002001C, 0x40020010] s u)) ∧
  (∀ (g : Fin 32) (h : Nat) (s : State), s.tbgRun g.val = true → (s.tbg g.val).handAt = some h → (s.tbg g.val).taken = [] →
    (s.tbg g.val).hMid = false → (s.tbg g.val).stopPend = false → s.halfMode g.val = false → s.kern g.val = false → s.bnd = [] →
    s.on (fTBG_STAT_cmt_pend g.val) = false →
    Runs (.handOff g) s (fun u => u.now = max s.now h ∧
      (u.tbg g.val).taken.map (fun k => (k.w, k.e)) = [((s.tbg g.val).hB, (s.tbg g.val).hB + s.periodF g.val)] ∧
      (u.tbg g.val).hB = (s.tbg g.val).hB + s.periodF g.val ∧
      (u.tbg g.val).handAt = some (max u.now ((u.tbg g.val).hB - 32 * s.hofs g.val)))) ∧
  (∀ (g : Fin 32) (k : Taken) (s : State), s.tbgRun g.val = true → (s.tbg g.val).taken = [k] → k.vals = [] → k.kset = none →
    k.gen = none → k.newPer = false → k.stop = false → k.mid = false →
    Runs (.tbgBoundary g) s (fun u => u.now = max s.now (s.tbg g.val).nextB ∧ u.shows (fTBG_STAT_run g.val) = 1 ∧
      u.shows (fTBG_STAT_start_pend g.val) = 0 ∧ u.shows (fTBG_PCNT_cnt g.val) = (s.get (fTBG_PCNT_cnt g.val) + 1) % 2 ^ 32 ∧
      (u.tbg g.val).b = k.b ∧ (u.tbg g.val).nextB = k.e ∧ u.rd (aTBG_NEXT_LO g.val) = BitVec.ofNat 32 (k.e / 32) ∧
      u.shows ⟨aTBG_IRQ_RAW g.val, 0, 1⟩ = 1)) ∧
  (∀ (g : Fin 32) (x : KSet) (l : List KSet) (s : State), (s.tbg g.val).wire = x :: l → s.isRun 6 = true →
    Runs (.compareSet g) s (fun u => (u.tbg g.val).wire = l ∧ (u.tbg g.val).sets = (s.tbg g.val).sets ++ [x] ∧ OnlyRegs [] s u)) ∧
  (∀ (taps : Fin 128) (s : State), Runs (.fineCalibration taps true) s (fun u => u.shows fTHY_FCAL_taps = taps.val ∧
      u.shows fTHY_FCAL_ok = 1 ∧ u.sage.inbox = s.sage.inbox ∧ OnlyRegs [aTHY_FCAL, 0x4002000C] s u)) ∧
  (∀ (taps : Fin 128) (s : State), s.tmr = [] → Runs (.fineCalibration taps false) s (fun u => u.shows fTHY_FCAL_taps = taps.val ∧
      u.shows fTHY_FCAL_ok = 0 ∧ u.shows ⟨0x4002001C, 18, 1⟩ = 1 ∧ u.sage.inbox = s.sage.inbox ++ [⟨41, .none, false⟩] ∧
      OnlyRegs [aTHY_FCAL, 0x4002000C, 0x4002001C, 0x40020010] s u))

/-- TBG_COMMIT with the next generation waits in a running group; with another generation it is refused; in a stopped group without
incomplete legs it applies at once. TBG_COMMIT_ABORT drops the shadows of the group and no others, and is refused while the commit is in flight.
COMPARE_WRITE goes to the shadow of the commit in COHERENT mode, making the leg dirty; in DIRECT mode it acts at once in a stopped group and waits for
the boundary in a running one; in a kernel-driven group it is refused. CMP_GEN_WRITE tags the leg's values with a generation. -/
def Obligations.GroupCommits : Prop :=
  (∀ (r : Req) (g : Fin 32) (gen : Fin 256) (s : State), s.grants r (aTBG_COMMIT g.val) true = true → s.handDue g.val = false → s.tbgRun g.val = true →
    s.on (fTBG_STAT_cmt_pend g.val) = false → gen.val = (s.get (fTBG_GEN_applied g.val) + 1) % 256 → s.newPeriod g.val = false →
    Runs (.tbgCommit r g gen) s (fun u => u.shows (fTBG_STAT_cmt_pend g.val) = 1 ∧ u.shows (fTBG_GEN_pending g.val) = gen.val ∧
      u.cmt = s.cmt ∧ OnlyRegs [aTBG_STAT g.val, aTBG_GEN g.val] s u)) ∧
  (∀ (r : Req) (g : Fin 32) (gen : Fin 256) (s : State), s.grants r (aTBG_COMMIT g.val) true = true → s.handDue g.val = false →
    (s.on (fTBG_STAT_cmt_pend g.val) = true ∨ gen.val ≠ (s.get (fTBG_GEN_applied g.val) + 1) % 256) →
    Runs (.tbgCommit r g gen) s (fun u => u.cmt = s.cmt ∧ u.tbgs = s.tbgs ∧ u.shows ⟨aTBG_IRQ_RAW g.val, 2, 1⟩ = 1 ∧
      u.sage.inbox = s.sage.inbox ++ [⟨42, nOther 4, false⟩] ∧ OnlyRegs [aTBG_IRQ_RAW g.val, 0x4002001C, 0x40020010] s u)) ∧
  (∀ (r : Req) (g : Fin 32) (gen : Fin 256) (p : Pend) (s : State), s.grants r (aTBG_COMMIT g.val) true = true → s.handDue g.val = false →
    s.tbgRun g.val = false → s.on (fTBG_STAT_cmt_pend g.val) = false → gen.val = (s.get (fTBG_GEN_applied g.val) + 1) % 256 →
    s.newPeriod g.val = false → (s.coherent g.val && !(s.incomplete g.val gen.val []).isEmpty) = false →
    s.cmt.filter (fun x => s.ofGroup g.val x.1) = [(aTBG_SMP g.val, p)] →
    Runs (.tbgCommit r g gen) s (fun u => u.rd (aTBG_SMP g.val) = p.on (s.rd (aTBG_SMP g.val)) ∧
      u.cmt = s.cmt.filter (fun x => !s.ofGroup g.val x.1) ∧ u.shows (fTBG_GEN_applied g.val) = gen.val ∧
      u.shows (fTBG_STAT_cmt_pend g.val) = 0 ∧ u.shows ⟨aTBG_IRQ_RAW g.val, 1, 1⟩ = 1)) ∧
  (∀ (r : Req) (g : Fin 32) (s : State), s.grants r (aTBG_COMMIT g.val) true = true → s.handDue g.val = false → s.inFlight g.val = false →
    Runs (.tbgCommitAbort r g) s (fun u => u.cmt = s.cmt.filter (fun x => !s.ofGroup g.val x.1) ∧ u.bnd = s.bnd ∧
      u.shows (fTBG_STAT_cmt_pend g.val) = 0 ∧ u.rd (aTBG_GEN g.val) = s.rd (aTBG_GEN g.val))) ∧
  (∀ (r : Req) (g : Fin 32) (s : State), s.grants r (aTBG_COMMIT g.val) true = true → s.handDue g.val = false → s.inFlight g.val = true →
    Runs (.tbgCommitAbort r g) s (fun u => u.cmt = s.cmt ∧ u.tbgs = s.tbgs ∧ u.shows ⟨aTBG_IRQ_RAW g.val, 2, 1⟩ = 1 ∧
      OnlyRegs [aTBG_IRQ_RAW g.val, 0x4002001C, 0x40020010] s u)) ∧
  (∀ (r : Req) (n : Fin 128) (w : CmpReg) (v : Word) (s : State), s.grants r (cmpAddr n.val w) true = true → s.handDue (s.legHome n.val) = false →
    s.coherent (s.legHome n.val) = true →
    Runs (.compareWrite r n w v) s (fun u => (u.cmtVal (cmpAddr n.val w)).fld 0 29 = v.fld 0 29 ∧
      u.shows ⟨cmpAddr n.val w, 0, 29⟩ = s.shows ⟨cmpAddr n.val w, 0, 29⟩ ∧ u.shows (fLEG_CMP_GEN_dirty n.val) = 1 ∧
      OnlyRegs [cmpAddr n.val w, aLEG_CMP_GEN n.val] s u)) ∧
  (∀ (r : Req) (n : Fin 128) (w : CmpReg) (v : Word) (s : State), s.grants r (cmpAddr n.val w) true = true → s.handDue (s.legHome n.val) = false →
    s.kern (s.legHome n.val) = false → s.coherent (s.legHome n.val) = false → s.tbgRun (s.legHome n.val) = false →
    Runs (.compareWrite r n w v) s (fun u => u.rd (cmpAddr n.val w) = v ∧ u.cmt = s.cmt ∧ u.bnd = s.bnd ∧
      OnlyRegs [cmpAddr n.val w] s u)) ∧
  (∀ (r : Req) (n : Fin 128) (w : CmpReg) (v : Word) (s : State), s.grants r (cmpAddr n.val w) true = true → s.handDue (s.legHome n.val) = false →
    s.kern (s.legHome n.val) = false → s.coherent (s.legHome n.val) = false → s.tbgRun (s.legHome n.val) = true →
    Runs (.compareWrite r n w v) s (fun u => ((Tab.get {} u.bnd (cmpAddr n.val w)).on (u.rd (cmpAddr n.val w))).fld 0 29 = v.fld 0 29 ∧
      u.shows ⟨cmpAddr n.val w, 0, 29⟩ = s.shows ⟨cmpAddr n.val w, 0, 29⟩ ∧ u.cmt = s.cmt ∧ OnlyRegs [cmpAddr n.val w] s u)) ∧
  (∀ (r : Req) (n : Fin 128) (w : CmpReg) (v : Word) (s : State), s.grants r (cmpAddr n.val w) true = true → s.handDue (s.legHome n.val) = false →
    s.kern (s.legHome n.val) = true →
    Runs (.compareWrite r n w v) s (fun u => u.cmt = s.cmt ∧ u.bnd = s.bnd ∧ u.shows (fLEG_STAT_krn_wr n.val) = 1 ∧
      OnlyRegs [aLEG_STAT n.val, 0x4002001C, 0x40020010] s u)) ∧
  (∀ (r : Req) (n : Fin 128) (gen : Fin 256) (s : State), s.grants r (aLEG_CMP_GEN n.val) true = true → s.handDue (s.legHome n.val) = false →
    s.coherent (s.legHome n.val) = true →
    Runs (.cmpGenWrite r n gen) s (fun u => u.shows (fLEG_CMP_GEN_gen n.val) = gen.val ∧ u.shows (fLEG_CMP_GEN_tagged n.val) = 1 ∧
      u.shows (fLEG_CMP_GEN_dirty n.val) = 0 ∧ OnlyRegs [aLEG_CMP_GEN n.val] s u))


/-- TRIP_SOURCE_ASSERT shows the level of a routed source and counts it. A LATCH on an enabled leg latches the leg, reaches Sage, and brings its machine
group into the state the selection of the default reaction gives; a source whose target leg is not enabled only counts; a NOTIFY counts on the leg;
a source that is asserted already does nothing; the OT source of a leg latches its own bit; CBC on a leg of a running group holds it to the next boundary. -/
def Obligations.TripSources : Prop :=
  (∀ (i : Fin 96) (n : Fin 128) (s : State), s.routedOn i.val = false → s.srcPresent i.val = true → s.on (fTHY_TRIP_SRC_en i.val) = true →
    s.get (fTHY_TRIP_SRC_act i.val) = 2 → s.on (fTHY_TRIP_SRC_scope i.val) = false → s.get (fTHY_TRIP_SRC_tgt i.val) = n.val →
    s.on (fTHY_TRIP_SRC_blank i.val) = false → s.legEn n.val = true → s.tbgRun (s.legTbg n.val) = false →
    s.mgState (s.legMg n.val) = 0 → s.decided (s.legMg n.val) = false → (s.leg n.val).latchSrc = [] → s.tmr = [] →
    Runs (.tripSourceAssert (.routed i)) s (fun u => u.routedOn i.val = true ∧
      u.shows (fTHY_TRIP_CNT_cnt i.val) = min (s.get (fTHY_TRIP_CNT_cnt i.val) + 1) (2 ^ 32 - 1) ∧
      u.shows (fLEG_TRIP_STAT_latched n.val) = 1 ∧ u.bitAt (aLEG_TRIP_STAT n.val) 0 = true ∧
      u.shows (fLEG_TRIP_EVT_last n.val) = routedCode i.val ∧ i.val ∈ (u.leg n.val).latchSrc ∧
      u.shows (fMG_STAT_state (s.legMg n.val)) = (s.select (s.legMg n.val) (s.dfltReq (s.legMg n.val))).1 ∧
      (⟨25, nLeg n.val, false⟩ : SEvt) ∈ u.sage.inbox ∧ (⟨28, nOther (s.legMg n.val), false⟩ : SEvt) ∈ u.sage.inbox)) ∧
  (∀ (i : Fin 96) (s : State), s.routedOn i.val = false → s.srcPresent i.val = true → s.on (fTHY_TRIP_SRC_en i.val) = true →
    s.on (fTHY_TRIP_SRC_scope i.val) = false → s.legEn (s.get (fTHY_TRIP_SRC_tgt i.val)) = false →
    Runs (.tripSourceAssert (.routed i)) s (fun u => u.routedOn i.val = true ∧
      u.shows (fTHY_TRIP_CNT_cnt i.val) = min (s.get (fTHY_TRIP_CNT_cnt i.val) + 1) (2 ^ 32 - 1) ∧
      OnlyRegs [(bitFld (aTHY_TRIP_LVL 0) i.val).addr, aTHY_TRIP_CNT i.val] s u)) ∧
  (∀ (i : Fin 96) (n : Fin 128) (s : State), s.routedOn i.val = false → s.srcPresent i.val = true → s.on (fTHY_TRIP_SRC_en i.val) = true →
    s.get (fTHY_TRIP_SRC_act i.val) = 0 → s.on (fTHY_TRIP_SRC_scope i.val) = false → s.get (fTHY_TRIP_SRC_tgt i.val) = n.val →
    s.on (fTHY_TRIP_SRC_blank i.val) = false → s.legEn n.val = true →
    Runs (.tripSourceAssert (.routed i)) s (fun u => u.legs = s.legs ∧ u.mgs = s.mgs ∧
      u.shows (fLEG_TRIP_EVT_notify_cnt n.val) = min (s.get (fLEG_TRIP_EVT_notify_cnt n.val) + 1) 255 ∧
      u.shows (fMG_IRQ_RAW_notify (s.legMg n.val)) = 1 ∧
      OnlyRegs [(bitFld (aTHY_TRIP_LVL 0) i.val).addr, aTHY_TRIP_CNT i.val, aLEG_TRIP_EVT n.val, aMG_IRQ_RAW (s.legMg n.val)] s u)) ∧
  (∀ (i : Fin 96) (s : State), s.routedOn i.val = true → Runs (.tripSourceAssert (.routed i)) s (fun u => u = s)) ∧
  (∀ (n : Fin 128) (s : State), s.legEn n.val = true → (s.leg n.val).satSrc = 0 → s.get (fLEG_TRIP_CFG_ot_act n.val) = 2 →
    s.tbgRun (s.legTbg n.val) = false →
    Runs (.tripSourceAssert (.ot n)) s (fun u => u.bitAt (aLEG_TRIP_STAT n.val) 5 = true ∧ u.shows (fLEG_TRIP_STAT_latched n.val) = 1 ∧
      u.shows (fLEG_TRIP_EVT_last n.val) = 0x84 ∧ (u.leg n.val).satSrc = 16)) ∧
  (∀ (i : Fin 96) (n : Fin 128) (s : State), s.routedOn i.val = false → s.srcPresent i.val = true → s.on (fTHY_TRIP_SRC_en i.val) = true →
    s.get (fTHY_TRIP_SRC_act i.val) = 1 → s.on (fTHY_TRIP_SRC_scope i.val) = false → s.get (fTHY_TRIP_SRC_tgt i.val) = n.val →
    s.on (fTHY_TRIP_SRC_blank i.val) = false → s.legEn n.val = true → s.tbgRun (s.legTbg n.val) = true → (s.leg n.val).held = 0 →
    s.get (fLEG_TRIP_CFG_cbc_n n.val) = 0 → s.tmr = [] →
    Runs (.tripSourceAssert (.routed i)) s (fun u => (u.leg n.val).cbcEnd = some (s.tbg (s.legTbg n.val)).nextB ∧
      (u.leg n.val).hsOn = false ∧ (u.leg n.val).lsOn = false ∧ u.shows (fLEG_TRIP_STAT_cbc_active n.val) = 1 ∧
      u.shows (fLEG_CBC_TOT_cnt n.val) = min (s.get (fLEG_CBC_TOT_cnt n.val) + 1) (2 ^ 32 - 1) ∧
      u.shows (fMG_STAT_state (s.legMg n.val)) = s.shows (fMG_STAT_state (s.legMg n.val))))

/-- TRIP_SOURCE_RELEASE lowers the level of a routed source, or of a leg's own source. BLANKING_END lets a waiting source that is still asserted act,
and otherwise does nothing. The ARM forms arm a clear, which takes effect at DEFERRED_CLEAR, or at once on a leg of a stopped group. -/
def Obligations.TripReleases : Prop :=
  (∀ (i : Fin 96) (s : State), (∀ j ∈ allLegs, s.on (fLEG_TRIP_STAT_armed j) = false) →
    Runs (.tripSourceRelease (.routed i)) s (fun u => u.routedOn i.val = false ∧ u.legs = s.legs ∧ u.mgs = s.mgs ∧
      OnlyRegs [(bitFld (aTHY_TRIP_LVL 0) i.val).addr] s u)) ∧
  (∀ (n : Fin 128) (s : State), (∀ j ∈ allLegs, s.on (fLEG_TRIP_STAT_armed j) = false) →
    Runs (.tripSourceRelease (.desatL n)) s (fun u => u.leg n.val = { s.leg n.val with satSrc := withBit (s.leg n.val).satSrc 1 false } ∧
      OnlyRegs [] s u)) ∧
  (∀ (n : Fin 128) (s : State), s.blankUntil n.val = none → (s.leg n.val).blankWait = false → Runs (.blankingEnd n) s (fun u => u = s)) ∧
  (∀ (n : Fin 128) (i : Fin 96) (s : State), (s.leg n.val).blankWait = true → (s.leg n.val).pend = [] → s.legEn n.val = true →
    (∀ j ∈ List.range 96, s.routedOn j = true → j = i.val) → s.routedOn i.val = true →
    s.on (fTHY_TRIP_SRC_en i.val) = true → s.on (fTHY_TRIP_SRC_scope i.val) = false → s.get (fTHY_TRIP_SRC_tgt i.val) = n.val →
    s.on (fTHY_TRIP_SRC_blank i.val) = true → s.get (fTHY_TRIP_SRC_act i.val) = 0 →
    Runs (.blankingEnd n) s (fun u => (u.leg n.val).blankWait = false ∧
      u.shows (fLEG_TRIP_EVT_notify_cnt n.val) = min (s.get (fLEG_TRIP_EVT_notify_cnt n.val) + 1) 255 ∧
      u.shows (fTHY_TRIP_CNT_cnt i.val) = min (s.get (fTHY_TRIP_CNT_cnt i.val) + 1) (2 ^ 32 - 1))) ∧
  (∀ (r : Req) (n : Fin 128) (s : State), s.grants r (aLEG_TRIP_CLR n.val) true = true → s.tbgRun (s.legTbg n.val) = true →
    Runs (.tripClearArm r n) s (fun u => u.shows (fLEG_TRIP_STAT_armed n.val) = 1 ∧ u.legs = s.legs ∧
      OnlyRegs [aLEG_TRIP_STAT n.val] s u)) ∧
  (∀ (r : Req) (n : Fin 128) (s : State), s.grants r (aLEG_TRIP_CLR n.val) true = true → s.tbgRun (s.legTbg n.val) = false →
    s.legAsserted n.val = false → s.tmr = [] →
    Runs (.tripClearArm r n) s (fun u => u.shows (fLEG_TRIP_STAT_armed n.val) = 0 ∧ u.shows (fLEG_TRIP_STAT_src n.val) = 0 ∧
      u.shows (fLEG_TRIP_STAT_latched n.val) = 0)) ∧
  (∀ (r : Req) (m : Fin 32) (s : State), s.grants r (aMG_TRIP_CLR m.val) true = true →
    Runs (.mgTripClearArm r m) s (fun u => u.shows (fMG_TRIP_STAT_armed m.val) = 1 ∧ u.mgs = s.mgs ∧
      OnlyRegs [aMG_TRIP_STAT m.val] s u)) ∧
  (∀ (n : Fin 128) (s : State), s.on (fLEG_TRIP_STAT_armed n.val) = true → s.legAsserted n.val = false → s.tmr = [] →
    Runs (.deferredClear (.leg n)) s (fun u => u.shows (fLEG_TRIP_STAT_armed n.val) = 0 ∧ u.shows (fLEG_TRIP_STAT_src n.val) = 0 ∧
      u.shows (fLEG_TRIP_STAT_latched n.val) = 0)) ∧
  (∀ (n : Fin 128) (s : State), s.on (fLEG_TRIP_STAT_armed n.val) = false → Runs (.deferredClear (.leg n)) s (fun u => u = s)) ∧
  (∀ (m : Fin 32) (s : State), s.on (fMG_TRIP_STAT_armed m.val) = true → s.mgAsserted m.val = false → s.tmr = [] →
    Runs (.deferredClear (.group m)) s (fun u => u.shows (fMG_TRIP_STAT_armed m.val) = 0 ∧ u.shows (fMG_TRIP_STAT_routed m.val) = 0 ∧
      u.shows (fMG_TRIP_STAT_kern m.val) = 0 ∧ u.now = max s.now ((s.now + frame10 - 1) / frame10 * frame10)))

/-- TRIP_CLEAR clears every latched source of the leg when none is asserted, and MG_TRIP_CLEAR the group's own (source SAGE stays). Otherwise the clear
is refused as a whole: every latched bit stays, the refusal is counted and flagged. The group keeps its state. -/
def Obligations.ClearRule : Prop :=
  (∀ (r : Req) (n : Fin 128) (s : State), s.grants r (aLEG_TRIP_CLR n.val) true = true → s.legAsserted n.val = false →
    Runs (.tripClear r n) s (fun u => u.shows (fLEG_TRIP_STAT_src n.val) = 0 ∧ u.shows (fLEG_TRIP_STAT_latched n.val) = 0 ∧
      (u.leg n.val).latchSrc = [] ∧ u.mgState (s.legMg n.val) = s.mgState (s.legMg n.val))) ∧
  (∀ (r : Req) (n : Fin 128) (s : State), s.grants r (aLEG_TRIP_CLR n.val) true = true → s.legAsserted n.val = true →
    Runs (.tripClear r n) s (fun u => u.shows (fLEG_TRIP_STAT_src n.val) = s.shows (fLEG_TRIP_STAT_src n.val) ∧ u.legs = s.legs ∧
      u.shows (fLEG_TRIP_STAT_clr_refused n.val) = min (s.get (fLEG_TRIP_STAT_clr_refused n.val) + 1) 255 ∧
      u.shows (fMG_IRQ_RAW_clr_ref (s.legMg n.val)) = 1 ∧ OnlyRegs [aLEG_TRIP_STAT n.val, aMG_IRQ_RAW (s.legMg n.val)] s u)) ∧
  (∀ (r : Req) (m : Fin 32) (s : State), s.grants r (aMG_TRIP_CLR m.val) true = true → s.mgAsserted m.val = false →
    Runs (.mgTripClear r m) s (fun u => u.shows (fMG_TRIP_STAT_routed m.val) = 0 ∧ u.shows (fMG_TRIP_STAT_kern m.val) = 0 ∧
      u.shows (fMG_TRIP_STAT_link m.val) = 0 ∧ u.shows (fMG_TRIP_STAT_sage_hold m.val) = s.shows (fMG_TRIP_STAT_sage_hold m.val) ∧
      (u.mg m.val).latchSrc = [] ∧ u.mgState m.val = s.mgState m.val)) ∧
  (∀ (r : Req) (m : Fin 32) (s : State), s.grants r (aMG_TRIP_CLR m.val) true = true → s.mgAsserted m.val = true →
    Runs (.mgTripClear r m) s (fun u => u.mgs = s.mgs ∧ u.shows (fMG_TRIP_STAT_routed m.val) = s.shows (fMG_TRIP_STAT_routed m.val) ∧
      u.shows (fMG_TRIP_STAT_clr_refused m.val) = min (s.get (fMG_TRIP_STAT_clr_refused m.val) + 1) 255 ∧
      u.shows (fMG_IRQ_RAW_clr_ref m.val) = 1 ∧ OnlyRegs [aMG_TRIP_STAT m.val, aMG_IRQ_RAW m.val] s u))

/-- PULSE_OFF and ASC bring a group into the state their request selects, and the entry is counted and reaches Sage; a group in that state stays
as it is; ASC of a grid group is refused. The two DISCHARGE commands are accepted in a hold where nothing refuses them, and then the group is in
DISCHARGE with its deadlines set at this moment. MG_RELEASE ends the hold of a group whose legs' timebases are stopped at once; with a latched source
or the hold of Sage it is refused, and Sage hears of it. -/
def Obligations.SafeCommands : Prop :=
  (∀ (r : Req) (m : Fin 32) (s : State), s.grants r (aMG_SAFE_CMD m.val) true = true → s.mgState m.val = 0 → s.decided m.val = false →
    s.tmr = [] →
    Runs (.pulseOff r m) s (fun u => u.shows (fMG_STAT_state m.val) = 3 ∧ u.shows (fMG_SAFE_SEL_sel m.val) = 3 ∧
      u.shows (fMG_SAFE_SEL_fb m.val) = 0 ∧ u.shows (fMG_SAFE_CNT_in_cnt m.val) = min (s.get (fMG_SAFE_CNT_in_cnt m.val) + 1) 65535 ∧
      u.rd (aMG_SAFE_TIME m.val) = BitVec.ofNat 32 s.stamp ∧ u.shows (fMG_IRQ_RAW_safe_in m.val) = 1 ∧
      u.shows (fMG_TRIP_STAT_cmd_ref m.val) = 0 ∧ (∀ n ∈ s.members m.val, (u.leg n).held = 3) ∧
      (⟨28, nOther m.val, false⟩ : SEvt) ∈ u.sage.inbox)) ∧
  (∀ (r : Req) (m : Fin 32) (s : State), s.grants r (aMG_SAFE_CMD m.val) true = true → s.mgState m.val = 3 → (s.mg m.val).releasing = false →
    Runs (.pulseOff r m) s (fun u => u.shows (fMG_TRIP_STAT_cmd_ref m.val) = 0 ∧ u.legs = s.legs ∧ OnlyRegs [aMG_TRIP_STAT m.val] s u)) ∧
  (∀ (r : Req) (m : Fin 32) (s : State), s.grants r (aMG_SAFE_CMD m.val) true = true → s.mgType m.val ≠ 2 → s.mgState m.val = 0 →
    s.decided m.val = false → s.tmr = [] →
    Runs (.asc r m) s (fun u => u.shows (fMG_STAT_state m.val) = (s.select m.val 1).1 ∧ u.shows (fMG_SAFE_SEL_fb m.val) = (s.select m.val 1).2 ∧
      u.shows (fMG_SAFE_SEL_req m.val) = 1 ∧ u.shows (fMG_SAFE_CNT_in_cnt m.val) = min (s.get (fMG_SAFE_CNT_in_cnt m.val) + 1) 65535 ∧
      u.shows (fMG_SAFE_CNT_fb_cnt m.val) =
        (if (s.select m.val 1).2 = 0 then s.get (fMG_SAFE_CNT_fb_cnt m.val) else min (s.get (fMG_SAFE_CNT_fb_cnt m.val) + 1) 65535))) ∧
  (∀ (r : Req) (m : Fin 32) (s : State), s.grants r (aMG_SAFE_CMD m.val) true = true → s.mgType m.val = 2 →
    Runs (.asc r m) s (fun u => u.shows (fMG_TRIP_STAT_cmd_ref m.val) = 1 ∧ u.shows (fMG_IRQ_RAW_cmd_ref m.val) = 1 ∧ u.mgs = s.mgs ∧
      OnlyRegs [aMG_TRIP_STAT m.val, aMG_IRQ_RAW m.val] s u)) ∧
  (∀ (r : Req) (m : Fin 32) (s : State), s.grants r (aMG_SAFE_CMD m.val) true = true → inHold (s.mgState m.val) = true →
    (s.mg m.val).tripTick = none → s.decided m.val = false → s.disRefused m.val 2 = false → s.tmr = [] →
    Runs (.dischargeBleed r m) s (fun u => u.shows (fMG_STAT_state m.val) = 4 ∧ (u.mg m.val).dis = 2 ∧
      (Tab.get ({} : Dis) u.diss m.val).start = s.now ∧ u.shows (fSAGE_DIS_STAT_state m.val) = 2 ∧
      u.shows (fMG_TRIP_STAT_cmd_ref m.val) = 0 ∧ u.sage.inbox = s.sage.inbox ++ [⟨28, nOther m.val, false⟩])) ∧
  (∀ (r : Req) (m : Fin 32) (s : State), s.grants r (aMG_SAFE_CMD m.val) true = true →
    (inHold (s.mgState m.val) = false ∨ s.disRefused m.val 2 = true) →
    Runs (.dischargeBleed r m) s (fun u => u.shows (fMG_TRIP_STAT_cmd_ref m.val) = 1 ∧ u.mgs = s.mgs ∧ u.diss = s.diss ∧
      OnlyRegs [aMG_TRIP_STAT m.val, aMG_IRQ_RAW m.val] s u)) ∧
  (∀ (r : Req) (m : Fin 32) (s : State), s.grants r (aMG_SAFE_CMD m.val) true = true → inHold (s.mgState m.val) = true →
    (s.mg m.val).tripTick = none → s.decided m.val = false → s.disRefused m.val 1 = false → s.tmr = [] →
    Runs (.dischargeWinding r m) s (fun u => u.shows (fMG_STAT_state m.val) = 4 ∧ (u.mg m.val).dis = 1 ∧
      (Tab.get ({} : Dis) u.diss m.val).start = s.now ∧ u.shows (fSAGE_DIS_STAT_state m.val) = 1 ∧
      u.shows (fMG_TRIP_STAT_cmd_ref m.val) = 0 ∧ u.sage.inbox = s.sage.inbox ++ [⟨28, nOther m.val, false⟩])) ∧
  (∀ (r : Req) (m : Fin 32) (s : State), s.grants r (aMG_SAFE_CMD m.val) true = true →
    (inHold (s.mgState m.val) = false ∨ s.disRefused m.val 1 = true) →
    Runs (.dischargeWinding r m) s (fun u => u.shows (fMG_TRIP_STAT_cmd_ref m.val) = 1 ∧ u.mgs = s.mgs ∧ u.diss = s.diss ∧
      OnlyRegs [aMG_TRIP_STAT m.val, aMG_IRQ_RAW m.val] s u)) ∧
  (∀ (r : Req) (m : Fin 32) (s : State), s.grants r (aMG_SAFE_CMD m.val) true = true → inHold (s.mgState m.val) = true →
    s.on (fMG_TRIP_STAT_sage_hold m.val) = false → s.anyLatched m.val = false →
    (∀ n ∈ s.members m.val, s.tbgRun (s.legTbg n) = false) → s.tmr = [] →
    Runs (.mgRelease r m) s (fun u => u.shows (fMG_STAT_state m.val) = 0 ∧ u.shows (fMG_IRQ_RAW_safe_out m.val) = 1 ∧
      u.shows (fMG_TRIP_STAT_cmd_ref m.val) = 0 ∧ (∀ n ∈ s.members m.val, (u.leg n).held = 0) ∧
      u.sage.inbox = s.sage.inbox ++ [⟨28, nOther m.val, false⟩])) ∧
  (∀ (r : Req) (m : Fin 32) (s : State), s.grants r (aMG_SAFE_CMD m.val) true = true →
    (inHold (s.mgState m.val) = false ∨ s.on (fMG_TRIP_STAT_sage_hold m.val) = true ∨ s.anyLatched m.val = true) →
    Runs (.mgRelease r m) s (fun u => u.mgs = s.mgs ∧ u.legs = s.legs ∧ u.shows (fMG_TRIP_STAT_cmd_ref m.val) = 1 ∧
      u.shows (fMG_IRQ_RAW_cmd_ref m.val) = 1 ∧ u.sage.inbox = s.sage.inbox ++ [⟨28, nOther m.val, false⟩] ∧
      OnlyRegs [aMG_TRIP_STAT m.val, aMG_IRQ_RAW m.val] s u))


/-- PORT_ENABLE of a port that is OFF or in LOSS puts it in TRAIN with a fresh numbering; on a port of the second half whose domain is off it only sets
an error. PORT_DISABLE puts it in OFF. TRAIN_COMPLETE leads from TRAIN, once 16 FILL cells have come in a row, to CAPS without credits, with the
reads of the satellite's registers waiting to be sent, and CAPS_COMPLETE, once the registers have been read, to TSET with a probe; before that, and on
lanes whose SER_RCAL is open or shorted, neither does anything. TRAIN_TIMEOUT and LINK_LOSS lead to LOSS, which is counted and reaches Sage;
LOSS_RETRAIN leads back to TRAIN where auto is set. -/
def Obligations.HubPorts : Prop :=
  (∀ (r : Req) (p : Fin 32) (s : State), s.grants r (aNDL_CTRL p.val) true = true → (p.val < 16 ∨ s.on fNDLH_STAT_pd1 = true) →
    (s.portState p.val = pOff ∨ s.portState p.val = pLoss) →
    Runs (.portEnable r p) s (fun u => u.shows (fNDL_STAT_state p.val) = 1 ∧ u.shows (fNDL_CTRL_en p.val) = 1 ∧
      u.bitAt aNDL_UP p.val = false ∧ u.bitAt aNDL_LOSS p.val = false ∧ (u.port p.val).lk.unack = [] ∧ (u.port p.val).lk.txSeq = 0 ∧
      (u.port p.val).since = s.now ∧ OnlyRegs [aNDL_CTRL p.val, aNDL_STAT p.val, aNDL_UP, aNDL_LOSS] s u)) ∧
  (∀ (r : Req) (p : Fin 32) (s : State), s.grants r (aNDL_CTRL p.val) true = true → 16 ≤ p.val → s.on fNDLH_STAT_pd1 = false →
    Runs (.portEnable r p) s (fun u => u.ports = s.ports ∧ u.shows ⟨0x4004001C, 18, 1⟩ = 1 ∧ OnlyRegs [0x4004001C, 0x40040010] s u)) ∧
  (∀ (r : Req) (p : Fin 32) (s : State), s.grants r (aNDL_CTRL p.val) true = true → s.portState p.val ≠ pOff → s.tmr = [] →
    Runs (.portDisable r p) s (fun u => u.shows (fNDL_STAT_state p.val) = 0 ∧ u.shows (fNDL_CTRL_en p.val) = 0 ∧
      u.shows (fNDL_STAT_sync_ok p.val) = 0)) ∧
  (∀ (p : Fin 32) (s : State), s.portState p.val = pTrain → 16 ≤ (s.port p.val).fills → s.hpm.rcalBad.contains (p.val / 16) = false → s.tmr = [] →
    Runs (.trainComplete p) s (fun u => u.shows (fNDL_STAT_state p.val) = 2 ∧ u.shows (fNDL_STAT_cred p.val) = 0 ∧
      (u.port p.val).lk.ready.map (·.cell) = (s.port p.val).lk.ready.map (·.cell) ++
        [.cfgRd 0x00, .cfgRd 0x04, .cfgRd 0x08, .cfgRd 0x20, .cfgRd 0x14] ∧
      OnlyRegs [aNDL_STAT p.val, aNDL_UP, aNDL_LOSS] s u)) ∧
  (∀ (p : Fin 32) (s : State), s.portState p.val = pCaps → (s.port p.val).capsGot = 15 → s.tmr = [] →
    Runs (.capsComplete p) s (fun u => u.shows (fNDL_STAT_state p.val) = 3 ∧
      (u.port p.val).lk.ready.map (·.cell) = (s.port p.val).lk.ready.map (·.cell) ++ [.probe (s.port p.val).probeId] ∧
      (u.port p.val).probeId = ((s.port p.val).probeId + 1) % 16 ∧ OnlyRegs [aNDL_STAT p.val, aNDL_UP, aNDL_LOSS] s u)) ∧
  (∀ (p : Fin 32) (s : State), (s.portState p.val = pTrain ∨ s.portState p.val = pCaps ∨ s.portState p.val = pTset) → s.tmr = [] →
    Runs (.trainTimeout p) s (fun u => u.shows (fNDL_STAT_state p.val) = 5 ∧ u.now = max s.now ((s.port p.val).since + ms) ∧
      u.shows (fNDL_LOSS_CNT_loss p.val) = min (s.get (fNDL_LOSS_CNT_loss p.val) + 1) 65535 ∧
      (⟨20, nPort p.val, false⟩ : SEvt) ∈ u.sage.inbox)) ∧
  (∀ (p : Fin 32) (s : State), s.portState p.val = pLoss → s.on (fNDL_CTRL_auto p.val) = true →
    Runs (.lossRetrain p) s (fun u => u.shows (fNDL_STAT_state p.val) = 1 ∧ u.now = max s.now ((s.port p.val).since + 10 * us) ∧
      (u.port p.val).lk.unack = [] ∧ OnlyRegs [aNDL_STAT p.val, aNDL_UP, aNDL_LOSS] s u)) ∧
  (∀ (p : Fin 32) (s : State), (s.portState p.val ≠ pLoss ∨ s.on (fNDL_CTRL_auto p.val) = false) → Runs (.lossRetrain p) s (fun u => u = s)) ∧
  (∀ (p : Fin 32) (s : State), (s.portState p.val = pCaps ∨ s.portState p.val = pTset ∨ s.portState p.val = pUp) → s.tmr = [] →
    Runs (.linkLoss p) s (fun u => u.shows (fNDL_STAT_state p.val) = 5 ∧ u.bitAt aNDL_LOSS p.val = true ∧ u.bitAt aNDL_UP p.val = false ∧
      u.now = max s.now ((s.port p.val).lastValid + 1280 * s.get (fNDL_TIMING_t_loss p.val)) ∧
      u.shows (fNDL_LOSS_CNT_loss p.val) = min (s.get (fNDL_LOSS_CNT_loss p.val) + 1) 65535 ∧
      (⟨20, nPort p.val, false⟩ : SEvt) ∈ u.sage.inbox)) ∧
  (∀ (p : Fin 32) (s : State), (s.portState p.val = pOff ∨ s.portState p.val = pLoss) → Runs (.linkLoss p) s (fun u => u = s)) ∧
  (∀ (p : Fin 32) (s : State), ((s.port p.val).fills < 16 ∨ s.hpm.rcalBad.contains (p.val / 16) = true) →
    Runs (.trainComplete p) s (fun u => u = s)) ∧
  (∀ (p : Fin 32) (s : State), (s.port p.val).capsGot ≠ 15 → Runs (.capsComplete p) s (fun u => u = s))

/-- CELL_SEND sends a FILL where nothing is ready; the hub takes a credit for an EDGE it starts, counts it and holds it until it is acknowledged.
RESEND_TIMEOUT starts a resend run from the oldest unacknowledged cell, and after five sendings the hub's port is lost. INVALID_SLOT counts the slot;
SLOT_REALIGN also ends the alignment. FILL with sequence number 15 starts a satellite port's numbering anew, with another one it keeps the port out
of loss; UPLINK_FILL keeps the hub's port out of loss and shows its bits, and in TRAIN it counts from 1 us after the hub's first FILL. -/
def Obligations.LinkCells : Prop :=
  (∀ (p : Fin 32) (s : State), (s.portState p.val = pCaps ∨ s.portState p.val = pTset ∨ s.portState p.val = pUp) →
    (s.port p.val).lk.ready = [] → (s.port p.val).lk.resend = [] →
    Runs (.cellSend (.hub p)) s (fun u => u = s.putPort p.val { s.port p.val with lk := { (s.port p.val).lk with
      sinceFill := 0, last := (s.port p.val).lk.chars false false 0 (s.hubPay p.val) .fill } })) ∧
  (∀ (p : Fin 32) (n : Fin 128) (e : Edge) (s : State), s.portState p.val = pUp → s.mirrorPort p.val = false → (s.port p.val).lk.ready = [{ cell := .edge n.val e }] →
    (s.port p.val).lk.resend = [] → (s.port p.val).lk.unack = [] → (s.port p.val).lk.sinceFill < 30 → (s.port p.val).credTaken = true →
    s.get (fNDL_STAT_cred p.val) ≠ 0 → (s.port p.val).tokKnown = false → s.tmr = [] →
    Runs (.cellSend (.hub p)) s (fun u => (u.port p.val).lk.ready = [] ∧ (u.port p.val).edges = (s.port p.val).edges ++ [(n.val, e)] ∧
      (u.port p.val).lk.unack = [{ seq := (s.port p.val).lk.txSeq, cell := .edge n.val e, pay := s.hubPay p.val (.edge n.val e), last := s.now }] ∧
      (u.port p.val).lk.txSeq = ((s.port p.val).lk.txSeq + 1) % 16 ∧ u.shows (fNDL_STAT_cred p.val) = s.get (fNDL_STAT_cred p.val) - 1 ∧
      u.shows (fNDL_EDGE_CNT_cnt p.val) = (s.get (fNDL_EDGE_CNT_cnt p.val) + 1) % 2 ^ 32 ∧
      OnlyRegs [aNDL_STAT p.val, aNDL_EDGE_CNT p.val] s u)) ∧
  (∀ (p : Fin 32) (y : SatPort) (s : State), ((s.satNow p.val).link (satB y)).lk.ready = [{ cell := .status }] → ((s.satNow p.val).link (satB y)).lk.resend = [] →
    ((s.satNow p.val).link (satB y)).lk.unack = [] → ((s.satNow p.val).link (satB y)).lk.sinceFill < 30 →
    Runs (.cellSend (.sat p y)) s (fun u => u = s.putSat p.val (u.sat p.val) ∧ ((u.sat p.val).link (satB y)).lk.ready = [] ∧
      ((u.sat p.val).link (satB y)).lk.unack = [{ seq := ((s.satNow p.val).link (satB y)).lk.txSeq, cell := .status, pay := (s.satNow p.val).pay (satB y) s.now (fun k => Config.freeNat (s.free + k)) .status, last := s.now }] ∧
      ((u.sat p.val).link (satB y)).due = 0 ∧ ((u.sat p.val).link (satB y)).statusAt = s.now)) ∧
  (∀ (p : Fin 32) (c : SCell) (l : List SCell) (s : State), (s.port p.val).lk.unack = c :: l → c.n < 5 →
    Runs (.resendTimeout (.hub p)) s (fun u => u.now = max s.now (c.last + us) ∧ (u.port p.val).lk.resend = c :: l ∧
      (u.port p.val).lk.unack = c :: l ∧ (u.port p.val).lk.resendAt = some u.now ∧ OnlyRegs [] s u)) ∧
  (∀ (p : Fin 32) (c : SCell) (l : List SCell) (s : State), (s.port p.val).lk.unack = c :: l → 5 ≤ c.n → s.tmr = [] →
    Runs (.resendTimeout (.hub p)) s (fun u => u.shows (fNDL_STAT_state p.val) = 5 ∧ (⟨20, nPort p.val, false⟩ : SEvt) ∈ u.sage.inbox)) ∧
  (∀ (p : Fin 32) (y : SatPort) (c : SCell) (l : List SCell) (s : State), ((s.sat p.val).link (satB y)).lk.unack = c :: l → c.n < 5 →
    Runs (.resendTimeout (.sat p y)) s (fun u => u.now = max s.now (c.last + us) ∧ ((u.sat p.val).link (satB y)).lk.resend = c :: l ∧
      OnlyRegs [] s u)) ∧
  (∀ (p : Fin 32) (cs : List Chr) (s : State), s.portState p.val ≠ pOff → slotValid cs = false →
    Runs (.invalidSlot ⟨.hub p, cs⟩) s (fun u => u.shows (fNDL_CRC_ERR_ul p.val) = min (s.get (fNDL_CRC_ERR_ul p.val) + 1) 65535 ∧
      u.port p.val = { s.port p.val with fills := 0 } ∧ OnlyRegs [aNDL_CRC_ERR p.val] s u)) ∧
  (∀ (p : Fin 32) (y : SatPort) (cs : List Chr) (s : State), slotValid cs = false → Runs (.invalidSlot ⟨.sat p y, cs⟩) s (fun u => u = s.putSat p.val (u.sat p.val) ∧
      ((u.sat p.val).link (satB y)).dlErr = (((s.satNow p.val).link (satB y)).dlErr + 1) % 256)) ∧
  (∀ (p : Fin 32) (s : State), s.portState p.val ≠ pOff →
    Runs (.slotRealign (.hub p)) s (fun u => u.port p.val = { s.port p.val with fills := 0, aligned := false } ∧
      u.shows (fNDL_CRC_ERR_ul p.val) = min (s.get (fNDL_CRC_ERR_ul p.val) + 1) 65535 ∧ OnlyRegs [aNDL_CRC_ERR p.val] s u)) ∧
  (∀ (p : Fin 32) (y : SatPort) (ack : Fin 16) (nak : Bool) (s : State),
    Runs (.fillCell p y 15 ack nak) s (fun u => u = s.putSat p.val (u.sat p.val) ∧ ((u.sat p.val).link (satB y)).lk.rxSeq = 0 ∧
      ((u.sat p.val).link (satB y)).lk.unack = [] ∧ ((u.sat p.val).link (satB y)).lastValid = s.now ∧
      ((u.sat p.val).link (satB y)).loss = false)) ∧
  (∀ (p : Fin 32) (y : SatPort) (seq ack : Fin 16) (nak : Bool) (s : State), seq.val ≠ 15 → nak = false →
    Runs (.fillCell p y seq ack nak) s (fun u => u = s.putSat p.val (u.sat p.val) ∧
      ((u.sat p.val).link (satB y)).lk = ((s.satNow p.val).link (satB y)).lk.acked ack.val ∧
      ((u.sat p.val).link (satB y)).lastValid = s.now ∧ ((u.sat p.val).link (satB y)).loss = false)) ∧
  (∀ (p : Fin 32) (ack : Fin 16) (nak tok react : Bool) (s : State), s.portState p.val = pTrain → nak = false → s.on fPAIR_CFG_en = false →
    s.get fPAIR_STATE_role = 3 → (s.port p.val).tokKnown = true → s.on (fNDL_STAT_tok p.val) = tok → s.tmr = [] →
    Runs (.uplinkFill p ack nak tok react) s (fun u => u.shows (fNDL_STAT_react p.val) = (if react then 1 else 0) ∧
      (u.port p.val).lastValid = s.now ∧ (u.port p.val).lk = (s.port p.val).lk.acked ack.val ∧
      u.shows (fNDL_STAT_state p.val) = 1)) ∧
  (∀ (p : Fin 32) (tok react : Bool) (t : Nat) (s : State), s.portState p.val = pTrain → s.on fPAIR_CFG_en = false →
    s.get fPAIR_STATE_role = 3 → (s.port p.val).tokKnown = true → s.on (fNDL_STAT_tok p.val) = tok → s.tmr = [] →
    (s.port p.val).fillAt = some t → t + us ≤ s.now →
    Runs (.uplinkFill p 0 false tok react) s (fun u => (u.port p.val).fills = min 16 ((s.port p.val).fills + 1)))

/-- CELL_SEND of a port that is not OFF nor in LOSS puts ten characters on the lane that make a valid slot, whichever cell the hub starts. In
TRAIN they are those of FILL with number 15, K28.5 the first. Characters that make a valid slot are no INVALID_SLOT: nothing changes. -/
def Obligations.SlotCoding : Prop :=
  (∀ (p : Fin 32) (s : State), s.portState p.val ≠ pOff → s.portState p.val ≠ pLoss →
    Runs (.cellSend (.hub p)) s (fun u => slotValid (u.port p.val).lk.last = true)) ∧
  (∀ (p : Fin 32) (s : State), s.portState p.val = pTrain →
    Runs (.cellSend (.hub p)) s (fun u => (u.port p.val).lk.last.head? = some .k28_5 ∧
      u.port p.val = { s.port p.val with lk := { (s.port p.val).lk with last := (u.port p.val).lk.last },
                                         fillAt := (s.port p.val).fillAt.or (some s.now) } ∧ OnlyRegs [] s u)) ∧
  (∀ (e : LinkEnd) (cs : List Chr) (s : State), slotValid cs = true → Runs (.invalidSlot ⟨e, cs⟩) s (fun u => u = s))


/-- The time of an EDGE or SAMPLE_REQ is the moment nearest to local time with the bits the cell carries. An EDGE that is the next in order, for a time more than 20 ns ahead, is queued by the port that holds the token, and the port's number advances; on the
other port it is answered NOT_OWNER and its credit falls due; one that comes later than that is answered LATE_ON or LATE_OFF and not queued. A RETRACT
of a queued edge that lies ahead takes it out and is answered RETRACTED; of an edge the port knows nothing of, UNKNOWN. A FORCE without end turns every
switch of its slots off where its pattern says so and holds them; on the port without the token it does nothing. A SAMPLE_REQ waits for its instant. -/
def Obligations.SatelliteEdges : Prop :=
  (∀ (p : Fin 32) (y : SatPort) (h : CellHdr) (t : Nat) (i : Fin 4) (ls on : Bool) (prof : Fin 8) (s : State),
    inOrder h ((s.satNow p.val).link (satB y)).lk = true → (s.satNow p.val).tokB = satB y → (s.satNow p.val).local s.now + ns20 < nearest37 ((s.satNow p.val).local s.now) t →
    Runs (.edge p y h t i ls on prof) s (fun u => u = s.putSat p.val (u.sat p.val) ∧
      ((u.sat p.val).link (satB y)).queue = ((s.satNow p.val).link (satB y)).queue ++
        [{ slot := i.val, e := { t := nearest37 ((s.satNow p.val).local s.now) t, ls := ls, on := on, prof := prof.val }, arr := (s.satNow p.val).local s.now }] ∧
      ((u.sat p.val).link (satB y)).lk.rxSeq = (((s.satNow p.val).link (satB y)).lk.rxSeq + 1) % 16)) ∧
  (∀ (p : Fin 32) (y : SatPort) (h : CellHdr) (t : Nat) (i : Fin 4) (ls on : Bool) (prof : Fin 8) (s : State),
    inOrder h ((s.satNow p.val).link (satB y)).lk = true → (s.satNow p.val).tokB ≠ satB y →
    Runs (.edge p y h t i ls on prof) s (fun u => u = s.putSat p.val (u.sat p.val) ∧
      ((u.sat p.val).link (satB y)).queue = ((s.satNow p.val).link (satB y)).queue ∧
      ({ cell := .result t i.val ls on .notOwner } : RCell) ∈ ((u.sat p.val).link (satB y)).lk.ready ∧
      ((u.sat p.val).link (satB y)).due = ((s.satNow p.val).link (satB y)).due + 1)) ∧
  (∀ (p : Fin 32) (y : SatPort) (h : CellHdr) (t : Nat) (i : Fin 4) (ls on : Bool) (prof : Fin 8) (s : State),
    inOrder h ((s.satNow p.val).link (satB y)).lk = true → (s.satNow p.val).tokB = satB y →
    nearest37 ((s.satNow p.val).local s.now) t ≤ (s.satNow p.val).local s.now + ns20 →
    Runs (.edge p y h t i ls on prof) s (fun u => u = s.putSat p.val (u.sat p.val) ∧
      ((u.sat p.val).link (satB y)).queue = ((s.satNow p.val).link (satB y)).queue ∧
      ({ cell := .result (nearest37 ((s.satNow p.val).local s.now) t) i.val ls on (if on then .lateOn else .lateOff) } : RCell) ∈ ((u.sat p.val).link (satB y)).lk.ready)) ∧
  (∀ (p : Fin 32) (y : SatPort) (h : CellHdr) (i : Fin 4) (ls on : Bool) (q : QEnt) (s : State),
    inOrder h ((s.satNow p.val).link (satB y)).lk = true → (s.satNow p.val).tokB = satB y →
    ((s.satNow p.val).link (satB y)).queue = [q] → q.slot = i.val → q.e.ls = ls → q.e.on = on → (s.satNow p.val).local s.now + ns20 < q.e.t →
    Runs (.retract p y h q.e.t i ls on) s (fun u => u = s.putSat p.val (u.sat p.val) ∧ ((u.sat p.val).link (satB y)).queue = [] ∧
      ({ cell := .result q.e.t i.val ls on .retracted } : RCell) ∈ ((u.sat p.val).link (satB y)).lk.ready ∧
      ((u.sat p.val).link (satB y)).due = ((s.satNow p.val).link (satB y)).due + 1)) ∧
  (∀ (p : Fin 32) (y : SatPort) (h : CellHdr) (t : Nat) (i : Fin 4) (ls on : Bool) (s : State),
    inOrder h ((s.satNow p.val).link (satB y)).lk = true → (s.satNow p.val).tokB = satB y → ((s.satNow p.val).link (satB y)).queue = [] →
    ((s.satNow p.val).link (satB y)).done = [] → ((s.satNow p.val).link (satB y)).lateSeen = [] →
    Runs (.retract p y h t i ls on) s (fun u => u = s.putSat p.val (u.sat p.val) ∧
      ((u.sat p.val).link (satB y)).lk.ready = ((s.satNow p.val).link (satB y)).lk.ready ++ [{ cell := .result t i.val ls on .unknown }])) ∧
  (∀ (p : Fin 32) (y : SatPort) (h : CellHdr) (id : Nat) (mask : Fin 16) (i : Fin 4) (dly fin : Nat) (s : State), h.nak = false →
    (s.satNow p.val).tokB = satB y → mask.val / 2 ^ i.val % 2 = 1 → ((s.satNow p.val).link (satB y)).lastForce = none →
    (s.satNow p.val).slots.length = 4 →
    Runs (.force p y h id mask 0 1 dly fin) s (fun u => u = s.putSat p.val (u.sat p.val) ∧ ((u.sat p.val).slot i.val).hs = false ∧
      ((u.sat p.val).slot i.val).ls = false ∧
      ((u.sat p.val).slot i.val).hold = some { pat := 0, fin := none, start := (s.satNow p.val).local s.now } ∧
      ((u.sat p.val).link (satB y)).fid = some (id % 16) ∧ ((u.sat p.val).link (satB y)).queue = ((s.satNow p.val).link (satB y)).queue)) ∧
  (∀ (p : Fin 32) (y : SatPort) (h : CellHdr) (id : Nat) (mask : Fin 16) (pat mode dly fin : Nat) (s : State), h.nak = false →
    (s.satNow p.val).tokB ≠ satB y →
    Runs (.force p y h id mask pat mode dly fin) s (fun u => u = s.putSat p.val (u.sat p.val) ∧
      (u.sat p.val).slots = (s.satNow p.val).slots)) ∧
  (∀ (p : Fin 32) (y : SatPort) (h : CellHdr) (t : Nat) (sm qm : Fin 16) (chk : Bool) (s : State),
    inOrder h ((s.satNow p.val).link (satB y)).lk = true →
    (s.satNow p.val).local s.now + ns20 < nearest32 ((s.satNow p.val).local s.now) (t / 32) →
    Runs (.sampleReq p y h t sm qm chk) s (fun u => u = s.putSat p.val (u.sat p.val) ∧
      ((u.sat p.val).link (satB y)).smp = ((s.satNow p.val).link (satB y)).smp ++
        [(nearest32 ((s.satNow p.val).local s.now) (t / 32), sm.val, qm.val, chk)]))

/-- PROBE is answered with the local time of its arrival; ADJUST sets the rate and the correction to slew in; SYNC_SET sets local time while the port
is in TSET and both edge queues are empty, and nothing otherwise. HINT_REACT and HINT_PERIOD on the port with the token set each slot's reaction,
hold and period. CFG_WR of SAT_LOSS keeps its fields within their ranges; CFG_RD is answered with the register. CLAIM moves the token to a port
when the holder has lost its link, and is denied otherwise; GIVE moves it to a live other port; QUERY only answers. -/
def Obligations.SatelliteControl : Prop :=
  (∀ (p : Fin 32) (y : SatPort) (id : Nat) (s : State),
    Runs (.probe p y id) s (fun u => u = s.putSat p.val (u.sat p.val) ∧ ((u.sat p.val).link (satB y)).loss = false ∧
      ((u.sat p.val).link (satB y)).lk.ready = ((s.satNow p.val).link (satB y)).lk.ready ++
        [{ cell := .syncRsp (id % 16) ((s.satNow p.val).local s.now % 2 ^ 32) 0 }])) ∧
  (∀ (p : Fin 32) (y : SatPort) (corr rate : Int) (s : State),
    Runs (.adjust p y corr rate) s (fun u => u = s.putSat p.val (u.sat p.val) ∧ (u.sat p.val).corr = sext 24 (lowBits 24 corr) ∧
      (u.sat p.val).rate = sext 16 (lowBits 16 rate) ∧ (u.sat p.val).slewAt = s.now ∧
      (u.sat p.val).ofs = (s.satNow p.val).offset s.now ∧ (u.sat p.val).slots = (s.satNow p.val).slots)) ∧
  (∀ (p : Fin 32) (y : SatPort) (t : Nat) (s : State), s.portState p.val = pTset → (s.satNow p.val).a.queue = [] → (s.satNow p.val).b.queue = [] →
    Runs (.syncSet p y t) s (fun u => u = s.putSat p.val (u.sat p.val) ∧ (u.sat p.val).local s.now = t)) ∧
  (∀ (p : Fin 32) (y : SatPort) (t : Nat) (s : State), s.portState p.val ≠ pTset →
    Runs (.syncSet p y t) s (fun u => u = s.putSat p.val (u.sat p.val) ∧ (u.sat p.val).ofs = (s.satNow p.val).ofs ∧
      (u.sat p.val).corr = (s.satNow p.val).corr ∧ (u.sat p.val).slots = (s.satNow p.val).slots)) ∧
  (∀ (p : Fin 32) (y : SatPort) (h : CellHdr) (react : Nat) (hold : Fin 16) (i : Fin 4) (s : State),
    inOrder h ((s.satNow p.val).link (satB y)).lk = true → (s.satNow p.val).tokB = satB y → (s.satNow p.val).slots.length = 4 →
    Runs (.hintReact p y h react hold) s (fun u => u = s.putSat p.val (u.sat p.val) ∧
      ((u.sat p.val).slot i.val).react = (if react / 4 ^ i.val % 4 = 3 then 0 else react / 4 ^ i.val % 4) ∧
      ((u.sat p.val).slot i.val).holdEn = (hold.val / 2 ^ i.val % 2 == 1) ∧
      ((u.sat p.val).slot i.val).hs = ((s.satNow p.val).slot i.val).hs ∧ ((u.sat p.val).slot i.val).ls = ((s.satNow p.val).slot i.val).ls)) ∧
  (∀ (p : Fin 32) (y : SatPort) (h : CellHdr) (i : Fin 4) (per : Nat) (s : State),
    inOrder h ((s.satNow p.val).link (satB y)).lk = true → (s.satNow p.val).tokB = satB y → (s.satNow p.val).slots.length = 4 →
    Runs (.hintPeriod p y h i per) s (fun u => u = s.putSat p.val (u.sat p.val) ∧
      (u.sat p.val).slot i.val = { (s.satNow p.val).slot i.val with period := some (per % 2 ^ 24) })) ∧
  (∀ (p : Fin 32) (y : SatPort) (h : CellHdr) (d : Word) (s : State), inOrder h ((s.satNow p.val).link (satB y)).lk = true →
    Runs (.cfgWr p y h 0x10 d) s (fun u => u = s.putSat p.val (u.sat p.val) ∧ ((u.sat p.val).link (satB y)).tLoss = near 5 160 (d.fld 0 8) ∧
      ((u.sat p.val).link (satB y)).tHold = near 0 50 (d.fld 16 6) ∧ (u.sat p.val).slots = (s.satNow p.val).slots)) ∧
  (∀ (p : Fin 32) (y : SatPort) (h : CellHdr) (a : Fin 65536) (s : State), inOrder h ((s.satNow p.val).link (satB y)).lk = true →
    Runs (.cfgRd p y h a.val) s (fun u => u = s.putSat p.val (u.sat p.val) ∧
      ((u.sat p.val).link (satB y)).lk.ready = ((s.satNow p.val).link (satB y)).lk.ready ++
        [{ cell := .cfgRsp a.val ((s.satNow p.val).cfgRead (satB y) a.val) }])) ∧
  (∀ (p : Fin 32) (y : SatPort) (h : CellHdr) (s : State), inOrder h ((s.satNow p.val).link (satB y)).lk = true →
    (s.satNow p.val).tokB ≠ satB y → ((s.satNow p.val).link (!satB y)).loss = true →
    Runs (.claim p y h) s (fun u => u = s.putSat p.val (u.sat p.val) ∧ (u.sat p.val).tokB = satB y ∧
      ((u.sat p.val).link (!satB y)).queue = [] ∧
      ({ cell := .tokenRsp 1 (satB y) } : RCell) ∈ ((u.sat p.val).link (satB y)).lk.ready)) ∧
  (∀ (p : Fin 32) (y : SatPort) (h : CellHdr) (s : State), inOrder h ((s.satNow p.val).link (satB y)).lk = true →
    (s.satNow p.val).tokB ≠ satB y → ((s.satNow p.val).link (!satB y)).loss = false →
    Runs (.claim p y h) s (fun u => u = s.putSat p.val (u.sat p.val) ∧ (u.sat p.val).tokB = (s.satNow p.val).tokB ∧
      ((u.sat p.val).link (satB y)).lk.ready = ((s.satNow p.val).link (satB y)).lk.ready ++ [{ cell := .tokenRsp 2 (!satB y) }])) ∧
  (∀ (p : Fin 32) (y : SatPort) (h : CellHdr) (s : State), inOrder h ((s.satNow p.val).link (satB y)).lk = true →
    (s.satNow p.val).tokB = satB y → ((s.satNow p.val).link (!satB y)).loss = false →
    Runs (.give p y h) s (fun u => u = s.putSat p.val (u.sat p.val) ∧ (u.sat p.val).tokB = (!satB y) ∧
      ((u.sat p.val).link (satB y)).queue = [] ∧
      ({ cell := .tokenRsp 1 (!satB y) } : RCell) ∈ ((u.sat p.val).link (satB y)).lk.ready)) ∧
  (∀ (p : Fin 32) (y : SatPort) (h : CellHdr) (s : State), inOrder h ((s.satNow p.val).link (satB y)).lk = true →
    Runs (.query p y h) s (fun u => u = s.putSat p.val (u.sat p.val) ∧ (u.sat p.val).tokB = (s.satNow p.val).tokB ∧
      ((u.sat p.val).link (satB y)).lk.ready = ((s.satNow p.val).link (satB y)).lk.ready ++
        [{ cell := .tokenRsp 3 (s.satNow p.val).tokB }]))


/-- A cell whose tok and react bits are those the hub shows changes nothing by them. RESULT RETRACTED of an outstanding edge takes it out of the account and counts it; UNKNOWN is a protocol fault. The first STATUS after CAPS
gives the credits the satellite's queue leaves, a later one returns credits, and the oldest edges count as executed; a wrong sum is a
conservation violation. TELEM of a leg that is not enabled shows its fields. SYNC_RSP to the waiting probe, with no error, shows the round trip and sends an
ADJUST. CFG_RSP shows identity and capabilities. TOKEN_RSP shows result and holder. SAMPLE goes to Basil, three items; CHECK goes to the torque
monitor of the leg's group. -/
def Obligations.HubAnswers : Prop :=
  (∀ (p : Fin 32) (h : CellHdr) (i : Fin 4) (e : Edge) (s : State), inOrder h (s.port p.val).lk = true → s.sameBits p.val h = true → s.portState p.val = pUp → s.delta = 0 →
    (s.port p.val).edges = [(4 * p.val + i.val, e)] →
    Runs (.result p h e.t i e.ls e.on .retracted) s (fun u => (u.port p.val).edges = [] ∧
      (u.port p.val).resulted = (s.port p.val).resulted + 1 ∧
      u.shows (fNDL_RETRACT_CNT_cnt p.val) = (s.get (fNDL_RETRACT_CNT_cnt p.val) + 1) % 2 ^ 32 ∧
      (u.port p.val).lk.rxSeq = ((s.port p.val).lk.rxSeq + 1) % 16 ∧ (u.port p.val).lastValid = s.now ∧
      OnlyRegs [aNDL_RETRACT_CNT p.val] s u)) ∧
  (∀ (p : Fin 32) (h : CellHdr) (i : Fin 4) (t : Nat) (ls on : Bool) (s : State), inOrder h (s.port p.val).lk = true → s.sameBits p.val h = true →
    s.portState p.val = pUp → s.tmr = [] →
    Runs (.result p h t i ls on .unknown) s (fun u => u.shows ⟨0x4004001C, 17, 1⟩ = 1 ∧ (u.port p.val).edges = (s.port p.val).edges ∧
      s.sage.inbox.length < u.sage.inbox.length)) ∧
  (∀ (p : Fin 32) (h : CellHdr) (cred fid : Nat) (peer : Bool) (qent : Fin 33) (s : State), inOrder h (s.port p.val).lk = true → s.sameBits p.val h = true →
    s.portState p.val = pUp → (s.port p.val).credTaken = false → (s.port p.val).acct = false → (s.port p.val).force = [] → s.tmr = [] →
    Runs (.status p h cred fid true peer qent.val false (s.port p.val).dlLast) s (fun u => (u.port p.val).credTaken = true ∧
      u.shows (fNDL_STAT_cred p.val) = 32 - qent.val ∧ u.shows (fNDL_STAT_qent p.val) = qent.val ∧
      u.shows (fNDL_STAT_peer p.val) = (if peer then 1 else 0) ∧ (u.port p.val).edges = (s.port p.val).edges)) ∧
  (∀ (p : Fin 32) (h : CellHdr) (cred : Fin 33) (fid : Nat) (peer : Bool) (qent : Fin 33) (s : State), inOrder h (s.port p.val).lk = true → s.sameBits p.val h = true →
    s.portState p.val = pUp → (s.port p.val).credTaken = true → (s.port p.val).acct = false → (s.port p.val).resulted = 0 →
    (s.port p.val).lk.unack = [] → s.get (fNDL_STAT_cred p.val) + cred.val + qent.val = 32 → s.tmr = [] →
    Runs (.status p h cred.val fid false peer qent.val false (s.port p.val).dlLast) s (fun u =>
      u.shows (fNDL_STAT_cred p.val) = s.get (fNDL_STAT_cred p.val) + cred.val ∧
      (u.port p.val).edges = (s.port p.val).edges.drop cred.val ∧ u.sage.inbox = s.sage.inbox)) ∧
  (∀ (p : Fin 32) (h : CellHdr) (i : Fin 4) (flags : Fin 1024) (vboot : Fin 4096) (temp : Fin 256) (vdrv dsat : Nat) (s : State),
    inOrder h (s.port p.val).lk = true → s.sameBits p.val h = true → s.portState p.val = pUp → s.legEn (4 * p.val + i.val) = false →
    s.on (fNDL_TELEM_valid p.val i.val) = false → s.on (fLEG_TRIP_STAT_armed (4 * p.val + i.val)) = false →
    Runs (.telem p h i flags.val vboot.val temp.val vdrv dsat) s (fun u => u.shows (fNDL_TELEM_flags p.val i.val) = flags.val ∧
      u.shows (fNDL_TELEM_vboot p.val i.val) = vboot.val ∧ u.shows (fNDL_TELEM_temp p.val i.val) = temp.val ∧
      u.shows (fNDL_TELEM_valid p.val i.val) = 1 ∧ (u.leg (4 * p.val + i.val)).bootRep = true ∧
      OnlyRegs [aNDL_TELEM p.val i.val, aLEG_BOOT (4 * p.val + i.val)] s u)) ∧
  (∀ (p : Fin 32) (h : CellHdr) (id a2 turn t4 : Nat) (s : State), h.nak = false → s.sameBits p.val h = true → s.portState p.val = pUp → s.delta = 0 →
    t4 ≤ s.now → (s.port p.val).probe = some (id % 16, 0) → s.get (fNDL_SYNC_asym p.val) = 0 → (s.port p.val).asym = 0 → turn < 4096 →
    turn ≤ t4 → t4 - turn < 65536 → (t4 - turn) / 2 = a2 → s.pairLink = 0 → s.tmr = [] →
    Runs (.syncRsp p h id a2 turn t4) s (fun u => (u.port p.val).probe = none ∧ u.shows (fNDL_OFS_rtt p.val) = t4 - turn ∧
      u.shows (fNDL_OFS_e p.val) = 0 ∧ u.shows (fNDL_STAT_sync_ok p.val) = 1 ∧ u.shows (fNDL_STAT_state p.val) = 4 ∧
      (u.port p.val).bad = 0 ∧ (u.port p.val).lastProbe = some s.now)) ∧
  (∀ (p : Fin 32) (h : CellHdr) (d : Word) (s : State), inOrder h (s.port p.val).lk = true → s.sameBits p.val h = true → s.portState p.val = pCaps →
    Runs (.cfgRsp p h 0 d) s (fun u => u.rd (aNDL_SAT_ID p.val) = d ∧ OnlyRegs [aNDL_SAT_ID p.val] s u)) ∧
  (∀ (p : Fin 32) (h : CellHdr) (d : Word) (s : State), inOrder h (s.port p.val).lk = true → s.sameBits p.val h = true → s.portState p.val = pCaps →
    Runs (.cfgRsp p h 4 d) s (fun u => u.rd (aNDL_SAT_CAPS p.val) = d ∧ u.shows (fNDL_STAT_legs p.val) = d.fld 0 3 ∧
      u.shows (fNDL_STAT_pump p.val) = d.fld 4 4 ∧ OnlyRegs [aNDL_SAT_CAPS p.val, aNDL_STAT p.val] s u)) ∧
  (∀ (p : Fin 32) (h : CellHdr) (res : Fin 4) (holder : Bool) (s : State), inOrder h (s.port p.val).lk = true → s.sameBits p.val h = true → s.portState p.val = pUp →
    Runs (.tokenRsp p h res holder) s (fun u => u.shows (fNDL_TOK_STAT_result p.val) = res.val ∧
      u.shows (fNDL_TOK_STAT_holder p.val) = (if holder then 1 else 0) ∧ u.shows (fNDL_TOK_STAT_busy p.val) = 0)) ∧
  (∀ (p : Fin 32) (h : CellHdr) (i : Fin 4) (a b c : Int) (s : State), inOrder h (s.port p.val).lk = true → s.sameBits p.val h = true → s.portState p.val = pUp →
    s.basil.rx = [] →
    Runs (.sampleCell p h i a b c) s (fun u => u.basil.rx.map (fun x => (x.src, x.inst, x.sel, x.raw)) =
        [(0, p.val, i.val, BitVec.ofInt 32 a), (0, p.val, i.val + 4, BitVec.ofInt 32 b), (0, p.val, i.val + 8, BitVec.ofInt 32 c)] ∧
      OnlyRegs [] s u)) ∧
  (∀ (p : Fin 32) (h : CellHdr) (i : Fin 4) (a v : Int) (cnt t : Nat) (s : State), inOrder h (s.port p.val).lk = true → s.sameBits p.val h = true →
    s.portState p.val = pUp → (s.port p.val).smpReq = [(t, 2 ^ i.val, true)] → s.diss = [] → s.legEn (4 * p.val + i.val) = true →
    s.mirrorGroup (s.legMg (4 * p.val + i.val)) = false → s.on (fSAGE_TM_CFG_en (s.legMg (4 * p.val + i.val))) = true →
    4 * p.val + i.val ∈ s.tmLegs (s.legMg (4 * p.val + i.val)) → (s.tm (s.legMg (4 * p.val + i.val))).cnts = [] →
    Runs (.checkCell p h i a v cnt) s (fun u => (u.tm (s.legMg (4 * p.val + i.val))).items = (s.tm (s.legMg (4 * p.val + i.val))).items ++
        [{ leg := 4 * p.val + i.val, t := t, i := sext 16 (lowBits 16 a), vdc := lowBits 16 v, cnt := cnt }] ∧
      OnlyRegs [] s u))

/-- PROBE_PERIOD of a port that is UP makes the next probe ready a period after the last one. HINT_REFRESH sends the reactions of the four slots and
keeps them. FORCE_RESEND makes two more copies of an unconfirmed FORCE ready 1 us after the last ones and counts them. The three token commands make
a TOKEN cell ready and show the port busy; on a busy or untrained port they are refused. -/
def Obligations.HubTimers : Prop :=
  (∀ (p : Fin 32) (s : State), s.portState p.val = pUp → (s.port p.val).lastProbe.isSome = true →
    Runs (.probePeriod p) s (fun u => u.now = max s.now ((s.port p.val).lastProbe.getD 0 + us * s.get (fNDL_SYNC_per p.val)) ∧
      (u.port p.val).lk.ready = (s.port p.val).lk.ready ++ [{ cell := .probe (s.port p.val).probeId }] ∧
      (u.port p.val).probeId = ((s.port p.val).probeId + 1) % 16 ∧ OnlyRegs [] s u)) ∧
  (∀ (p : Fin 32) (s : State), s.portState p.val ≠ pUp → Runs (.probePeriod p) s (fun u => u = s)) ∧
  (∀ (p : Fin 32) (s : State), s.portState p.val = pUp → s.mirrorPort p.val = false →
    Runs (.hintRefresh p) s (fun u => u.shows (fNDL_HINT_react p.val) = s.hintBits p.val ∧
      (u.port p.val).lk.ready = (s.port p.val).lk.ready ++
        [{ cell := .hintReact (s.hintBits p.val) (s.get (fNDL_HINT_hold_en p.val)) }] ∧
      (u.port p.val).hintAt = u.now ∧ OnlyRegs [aNDL_HINT p.val] s u)) ∧
  (∀ (p : Fin 32) (s : State), s.portState p.val ≠ pUp → Runs (.hintRefresh p) s (fun u => u = s)) ∧
  (∀ (p : Fin 32) (f : FPend) (s : State), (s.port p.val).force = [f] →
    Runs (.forceResend p) s (fun u => u.now = max s.now (f.last + us) ∧
      (u.port p.val).lk.ready = (s.port p.val).lk.ready ++ [{ cell := .force f.id f.mask f.pat f.indef f.dly f.fin },
        { cell := .force f.id f.mask f.pat f.indef f.dly f.fin }] ∧
      (u.port p.val).force = [{ f with last := u.now }] ∧
      u.shows (fNDL_RESEND_cnt p.val) = (s.get (fNDL_RESEND_cnt p.val) + 2) % 2 ^ 32 ∧ OnlyRegs [aNDL_RESEND p.val] s u)) ∧
  (∀ (p : Fin 32) (s : State), (s.port p.val).force = [] → Runs (.forceResend p) s (fun u => u = s)) ∧
  (∀ (r : Req) (p : Fin 32) (s : State), s.grants r (aNDL_TOKEN p.val) true = true → s.on (fNDL_TOK_STAT_busy p.val) = false →
    (s.portState p.val = pCaps ∨ s.portState p.val = pTset ∨ s.portState p.val = pUp) →
    Runs (.ndlTokenClaim r p) s (fun u => u.shows (fNDL_TOK_STAT_busy p.val) = 1 ∧ u.shows (fNDL_TOK_STAT_ref p.val) = 0 ∧
      (u.port p.val).lk.ready = (s.port p.val).lk.ready ++ [{ cell := .token 1 }] ∧ OnlyRegs [aNDL_TOK_STAT p.val] s u)) ∧
  (∀ (r : Req) (p : Fin 32) (s : State), s.grants r (aNDL_TOKEN p.val) true = true → s.on (fNDL_TOK_STAT_busy p.val) = false →
    (s.portState p.val = pCaps ∨ s.portState p.val = pTset ∨ s.portState p.val = pUp) →
    Runs (.ndlTokenGive r p) s (fun u => u.shows (fNDL_TOK_STAT_busy p.val) = 1 ∧ u.shows (fNDL_TOK_STAT_ref p.val) = 0 ∧
      (u.port p.val).lk.ready = (s.port p.val).lk.ready ++ [{ cell := .token 2 }] ∧ OnlyRegs [aNDL_TOK_STAT p.val] s u)) ∧
  (∀ (r : Req) (p : Fin 32) (s : State), s.grants r (aNDL_TOKEN p.val) true = true → s.on (fNDL_TOK_STAT_busy p.val) = false →
    (s.portState p.val = pCaps ∨ s.portState p.val = pTset ∨ s.portState p.val = pUp) →
    Runs (.ndlTokenQuery r p) s (fun u => u.shows (fNDL_TOK_STAT_busy p.val) = 1 ∧ u.shows (fNDL_TOK_STAT_ref p.val) = 0 ∧
      (u.port p.val).lk.ready = (s.port p.val).lk.ready ++ [{ cell := .token 3 }] ∧ OnlyRegs [aNDL_TOK_STAT p.val] s u)) ∧
  (∀ (r : Req) (p : Fin 32) (s : State), s.grants r (aNDL_TOKEN p.val) true = true →
    (s.on (fNDL_TOK_STAT_busy p.val) = true ∨ s.portState p.val = pOff) →
    Runs (.ndlTokenClaim r p) s (fun u => u.ports = s.ports ∧ u.shows (fNDL_TOK_STAT_ref p.val) = 1 ∧ OnlyRegs [aNDL_TOK_STAT p.val] s u))


/-- EDGE_EXECUTE of a turn-off whose time has come, outside a hold and the loss reaction, turns the switch off (its gate driven by the half of the profile the edge names), frees the entry and makes its credit due;
without an entry nothing happens. SAMPLE_TAKE answers the oldest request with one SAMPLE for each slot it asks. FORCE_HOLD_END ends a timed hold at its
end. SUPPRESSED answers an entry that passed inside a hold and takes it out. STATUS_PERIODIC and TELEM_PERIODIC make their cells ready.
BANK_ACTIVATION exchanges the two profile banks at its moment. -/
def Obligations.SatelliteTimers : Prop :=
  (∀ (p : Fin 32) (y : SatPort) (q : QEnt) (s : State), ((s.sat p.val).link (satB y)).queue = [q] → q.passed = false → q.slot < 4 →
    q.e.on = false → q.kill = false → (s.sat p.val).slots.length = 4 → (∀ v ∈ (s.sat p.val).slots, v.onDue = none) →
    ((s.sat p.val).slot q.slot).inReact = false → ((s.sat p.val).slot q.slot).hold = none →
    Runs (.edgeExecute p y) s (fun u => u.now = max s.now ((s.sat p.val).moment s.now q.e.t) ∧
      (if q.e.ls then ((u.sat p.val).slot q.slot).ls = false else ((u.sat p.val).slot q.slot).hs = false) ∧
      (if q.e.ls then (((s.sat p.val).slot q.slot).ls = true → ((u.sat p.val).slot q.slot).gateL = (s.sat p.val).drive q.e.prof true q.e.t)
        else (((s.sat p.val).slot q.slot).hs = true → ((u.sat p.val).slot q.slot).gateH = (s.sat p.val).drive q.e.prof true q.e.t)) ∧
      ((u.sat p.val).link (satB y)).queue = [] ∧ ((u.sat p.val).link (satB y)).due = ((s.sat p.val).link (satB y)).due + 1 ∧
      q ∈ ((u.sat p.val).link (satB y)).done ∧ OnlyRegs [] s u)) ∧
  (∀ (p : Fin 32) (y : SatPort) (s : State), ((s.sat p.val).link (satB y)).queue = [] → Runs (.edgeExecute p y) s (fun u => u = s)) ∧
  (∀ (p : Fin 32) (y : SatPort) (a b c : List Int) (t : Nat) (s : State), a.length = 4 → b.length = 4 → c.length = 4 →
    ((s.sat p.val).link (satB y)).smp = [(t, 1, 5, false)] → 1 ≤ (s.sat p.val).nSlots → (∀ v ∈ (s.sat p.val).slots, v.onDue = none) →
    Runs (.sampleTake p y a b c) s (fun u => u.now = max s.now ((s.sat p.val).moment s.now t) ∧ ((u.sat p.val).link (satB y)).smp = [] ∧
      ((u.sat p.val).link (satB y)).lk.ready = ((s.sat p.val).link (satB y)).lk.ready ++
        [{ cell := .sample 0 (lowBits 16 (a.getD 0 0)) 0 (lowBits 16 (c.getD 0 0)) }] ∧ u.free = s.free ∧ OnlyRegs [] s u)) ∧
  (∀ (p : Fin 32) (i : Fin 4) (e : Nat) (s : State), ((s.sat p.val).slot i.val).hold.bind (·.fin) = some e → (s.sat p.val).slots.length = 4 →
    (∀ v ∈ (s.sat p.val).slots, v.onDue = none) →
    Runs (.forceHoldEnd p i) s (fun u => u.now = max s.now ((s.sat p.val).moment s.now e) ∧
      (u.sat p.val).slot i.val = { (s.sat p.val).slot i.val with hold := none } ∧ OnlyRegs [] s u)) ∧
  (∀ (p : Fin 32) (i : Fin 4) (s : State), ((s.sat p.val).slot i.val).hold = none → Runs (.forceHoldEnd p i) s (fun u => u = s)) ∧
  (∀ (p : Fin 32) (y : SatPort) (q : QEnt) (s : State), ((s.sat p.val).link (satB y)).queue = [q] → q.passed = true → q.old = false →
    (∀ v ∈ (s.sat p.val).slots, v.onDue = none) →
    Runs (.suppressed p y) s (fun u => u.now = max s.now ((s.sat p.val).moment s.now (q.e.t + us5)) ∧
      ((u.sat p.val).link (satB y)).queue = [] ∧
      ({ cell := .result q.e.t q.slot q.e.ls q.e.on .suppressed } : RCell) ∈ ((u.sat p.val).link (satB y)).lk.ready ∧ OnlyRegs [] s u)) ∧
  (∀ (p : Fin 32) (y : SatPort) (s : State), (∀ v ∈ (s.sat p.val).slots, v.onDue = none) → ((s.sat p.val).link (satB y)).lk.ready = [] →
    Runs (.statusPeriodic p y) s (fun u => u.now = max s.now (((s.sat p.val).link (satB y)).statusAt + 10 * us) ∧
      ((u.sat p.val).link (satB y)).lk.ready = [{ cell := .status }] ∧ OnlyRegs [] s u)) ∧
  (∀ (p : Fin 32) (y : SatPort) (i : Fin 4) (s : State), (∀ v ∈ (s.sat p.val).slots, v.onDue = none) →
    Runs (.telemPeriodic p y i) s (fun u =>
      u.now = max s.now (((s.sat p.val).link (satB y)).telAt.getD i.val 0 + us * ((s.sat p.val).link (satB y)).tel) ∧
      ((u.sat p.val).link (satB y)).lk.ready = ((s.sat p.val).link (satB y)).lk.ready ++
        [{ cell := .telem i.val ((s.sat p.val).slot i.val).flags false }] ∧ OnlyRegs [] s u)) ∧
  (∀ (p : Fin 32) (y : SatPort) (t : Nat) (s : State), ((s.sat p.val).link (satB y)).bankAt = some t →
    (∀ v ∈ (s.sat p.val).slots, v.onDue = none) →
    Runs (.bankActivation p y) s (fun u => u.now = max s.now ((s.sat p.val).moment s.now t) ∧
      ((u.sat p.val).link (satB y)).profBank = ((s.sat p.val).link (satB y)).profOther ∧
      ((u.sat p.val).link (satB y)).profOther = ((s.sat p.val).link (satB y)).profBank ∧
      ((u.sat p.val).link (satB y)).bankAt = none ∧ OnlyRegs [] s u))

/-- DESATURATION and UNDERVOLTAGE turn their switch off, block it and set its flag, and a report goes out. SAT_PORT_LOSS shows the loss on a port without
the token and keeps the slots; a port that is lost already changes nothing. PATTERN_HOLD_EXPIRY brings the slot into its loss reaction. PATTERN_HOLD_REPEAT
repeats an edge and takes it from the list when no period is known. SAT_POWER_UP keeps identity and capabilities and counts the power-up; every switch is off. TELEM_FLAG_CHANGE takes
the sensors' flags. -/
def Obligations.SatelliteFaults : Prop :=
  (∀ (p : Fin 32) (i : Fin 4) (ls : Bool) (s : State), (s.satNow p.val).slots.length = 4 →
    Runs (.desaturation p i ls) s (fun u => u = s.putSat p.val (u.sat p.val) ∧
      (if ls then ((u.sat p.val).slot i.val).ls = false else ((u.sat p.val).slot i.val).hs = false) ∧
      ((u.sat p.val).slot i.val).flag (if ls then 4 else 5) = true ∧ ((u.sat p.val).slot i.val).flag (if ls then 0 else 1) = true ∧
      ((u.sat p.val).slot i.val).dsat = (((s.satNow p.val).slot i.val).dsat + 1) % 256 ∧
      ({ cell := .telem i.val ((u.sat p.val).slot i.val).flags true } : RCell) ∈ (u.sat p.val).a.lk.ready)) ∧
  (∀ (p : Fin 32) (i : Fin 4) (ls : Bool) (s : State), (s.satNow p.val).slots.length = 4 →
    Runs (.undervoltage p i ls) s (fun u => u = (s.putSat p.val (u.sat p.val)).setFree (s.free + 1) ∧
      (if ls then ((u.sat p.val).slot i.val).ls = false else ((u.sat p.val).slot i.val).hs = false) ∧
      ((u.sat p.val).slot i.val).flag (if ls then 6 else 7) = true ∧ ((u.sat p.val).slot i.val).flag (if ls then 0 else 1) = true ∧
      ({ cell := .telem i.val ((u.sat p.val).slot i.val).flags true } : RCell) ∈ (u.sat p.val).b.lk.ready)) ∧
  (∀ (p : Fin 32) (y : SatPort) (s : State), ((s.sat p.val).link (satB y)).loss = false → (s.sat p.val).tokB ≠ satB y →
    (∀ v ∈ (s.sat p.val).slots, v.onDue = none) →
    Runs (.satPortLoss p y) s (fun u =>
      u.now = max s.now (((s.sat p.val).link (satB y)).lastValid + 1280 * ((s.sat p.val).link (satB y)).tLoss) ∧
      ((u.sat p.val).link (satB y)).loss = true ∧ ((u.sat p.val).link (satB y)).lexec = 0 ∧ ((u.sat p.val).link (satB y)).ldisc = 0 ∧
      (u.sat p.val).slots = (s.sat p.val).slots ∧ OnlyRegs [] s u)) ∧
  (∀ (p : Fin 32) (y : SatPort) (s : State), ((s.sat p.val).link (satB y)).loss = true → (∀ v ∈ (s.sat p.val).slots, v.onDue = none) →
    Runs (.satPortLoss p y) s (fun u => u.sat p.val = s.sat p.val ∧ OnlyRegs [] s u)) ∧
  (∀ (p : Fin 32) (i : Fin 4) (t : Nat) (s : State), ((s.sat p.val).slot i.val).phLim = some t → (s.sat p.val).slots.length = 4 →
    ((s.sat p.val).slot i.val).react = 0 → (∀ v ∈ (s.sat p.val).slots, v.onDue = none) →
    Runs (.patternHoldExpiry p i) s (fun u => u.now = max s.now ((s.sat p.val).moment s.now t) ∧
      ((u.sat p.val).slot i.val).inReact = true ∧ ((u.sat p.val).slot i.val).hs = false ∧ ((u.sat p.val).slot i.val).ls = false ∧
      ((u.sat p.val).slot i.val).phLim = none ∧ OnlyRegs [] s u)) ∧
  (∀ (p : Fin 32) (i : Fin 4) (s : State), ((s.sat p.val).slot i.val).phLim = none → Runs (.patternHoldExpiry p i) s (fun u => u = s)) ∧
  (∀ (p : Fin 32) (i : Fin 4) (e : Edge) (s : State), ((s.sat p.val).slot i.val).reps = [e] → e.on = false → (s.sat p.val).slots.length = 4 →
    ((s.sat p.val).slot i.val).hold = none → ((s.sat p.val).slot i.val).period = none → ((s.sat p.val).slot i.val).phEnd = none →
    (∀ v ∈ (s.sat p.val).slots, v.onDue = none) →
    Runs (.patternHoldRepeat p i) s (fun u => u.now = max s.now ((s.sat p.val).moment s.now e.t) ∧
      (if e.ls then ((u.sat p.val).slot i.val).ls = false else ((u.sat p.val).slot i.val).hs = false) ∧
      ((u.sat p.val).slot i.val).reps = [] ∧ OnlyRegs [] s u)) ∧
  (∀ (p : Fin 32) (s : State),
    Runs (.satPowerUp p) s (fun u => (u.sat p.val).id = (s.sat p.val).id ∧ (u.sat p.val).caps = (s.sat p.val).caps ∧
      (u.sat p.val).boots = (s.sat p.val).boots + 1 ∧ (∀ v ∈ (u.sat p.val).slots, v.hs = false ∧ v.ls = false ∧ v.inReact = true) ∧
      (u.sat p.val).a.queue = [] ∧ (u.sat p.val).b.queue = [] ∧ (u.sat p.val).tokB = false ∧ OnlyRegs [] s u)) ∧
  (∀ (p : Fin 32) (i : Fin 4) (flags : Nat) (s : State), (s.satNow p.val).slots.length = 4 → ((s.satNow p.val).slot i.val).flags = 0 →
    Runs (.telemFlagChange p i flags) s (fun u => u = s.putSat p.val (u.sat p.val) ∧
      ((u.sat p.val).slot i.val).flag 9 = (flags / 2 ^ 9 % 2 == 1) ∧ ((u.sat p.val).slot i.val).flag 8 = (flags / 2 ^ 8 % 2 == 1) ∧
      ((u.sat p.val).slot i.val).flag 3 = (flags / 2 ^ 3 % 2 == 1) ∧ ((u.sat p.val).slot i.val).flag 2 = (flags / 2 ^ 2 % 2 == 1) ∧
      ((u.sat p.val).slot i.val).hs = ((s.satNow p.val).slot i.val).hs))


/-- MAIN_CLOCK_CHECK shows a good clock, and a stopped one reaches Sage. SAGE_CLOCK_CHECK with a good clock only shows the deviation; with a stopped one,
like a failed safe supply, a lost alive signal, an alive signal that does not resume and a mismatch of the Sage pair, it takes the loss path:
Sage is lost and halted, every pin is asserted and the cause is shown. SAGE_RESET starts the warden's sequence when every group is held, and is
counted as refused otherwise. A mismatch of an APC pair halts that pair and reaches Sage; injected errors are counted; a permitted debug
halt sets NOT_SAFE, and the resume ends it. -/
def Obligations.SageHealth : Prop :=
  (∀ (n : Nat) (s : State), 3840 ≤ n → n ≤ 4160 →
    Runs (.mainClockCheck n) s (fun u => u.shows fSAGE_HEALTH_clk_ok = 1 ∧ u.sage.mainBad = false ∧ u.sage.inbox = s.sage.inbox ∧
      OnlyRegs [aSAGE_CLK_STAT, aSAGE_HEALTH] s u)) ∧
  (∀ (n : Nat) (s : State), n < 100 → s.on fSAGE_HEALTH_clk_ok = true →
    Runs (.mainClockCheck n) s (fun u => u.shows fSAGE_HEALTH_clk_ok = 0 ∧ u.sage.mainBad = true ∧
      u.sage.inbox = s.sage.inbox ++ [⟨2, .none, false⟩] ∧ OnlyRegs [aSAGE_CLK_STAT, aSAGE_HEALTH] s u)) ∧
  (∀ (n : Nat) (b : Bool) (s : State), 1920 ≤ n → n ≤ 2080 → b = false →
    Runs (.sageClockCheck n b) s (fun u => u.sage = { s.sage with sclkBad := false } ∧ OnlyRegs [aSAGE_CLK_STAT] s u)) ∧
  (∀ (n : Nat) (b : Bool) (s : State), b = true → s.sage.lost = false →
    Runs (.sageClockCheck n b) s (fun u => u.sage.lost = true ∧ u.sage.halted = true ∧ u.shows fSAGE_PIN_STAT_asserted = 15 ∧
      u.shows fAPC_SAGE_LOST_cause = 2 ∧ u.shows fAPC_SAGE_LOST_lost = 1)) ∧
  (∀ (core : Bool) (s : State), s.on fSAGE_HEALTH_sup_ok = true → core = true →
    Runs (.sageSupplyCheck core false) s (fun u => u.shows fSAGE_HEALTH_sup_ok = 0 ∧ u.sage.inbox = s.sage.inbox ++ [⟨2, .none, false⟩] ∧
      OnlyRegs [aSAGE_HEALTH] s u)) ∧
  (∀ (s : State), s.sage.lost = false →
    Runs (.sageSupplyCheck false true) s (fun u => u.sage.lost = true ∧ u.shows fAPC_SAGE_LOST_cause = 3 ∧
      u.shows fSAGE_PIN_STAT_asserted = 15)) ∧
  (∀ (s : State), s.sage.running = true → s.sage.aliveSusp = false → s.sage.lost = false →
    Runs .aliveLoss s (fun u => u.sage.lost = true ∧ u.sage.halted = true ∧ u.shows fAPC_SAGE_LOST_cause = 5 ∧
      u.shows fAPC_SAGE_EVT_lost = 1 ∧ u.shows fSAGE_PIN_STAT_asserted = 15)) ∧
  (∀ (s : State), s.sage.running = false → Runs .aliveLoss s (fun u => u = s)) ∧
  (∀ (r : Req) (s : State), s.grants r 0x400F0008 true = true → s.allHeld = true → s.isRun 4 = true →
    Runs (.sageReset r) s (fun u => u.sage.aliveSusp = true ∧ u.sage.resetAt = some s.now ∧ (u.warden 4).st = .drain ∧
      (u.warden 4).purpose = .reset)) ∧
  (∀ (r : Req) (n : Fin 128) (s : State), s.grants r 0x400F0008 true = true → s.legEn n.val = true →
    inHold (s.mgState (s.legMg n.val)) = false → s.tmr = [] →
    Runs (.sageReset r) s (fun u => u.sage = s.sage ∧ (∀ j : Fin 17, (u.warden j.val).st = (s.warden j.val).st) ∧ u.shows ⟨0x400F001C, 17, 1⟩ = 1 ∧
      u.shows fFAB_SRST_REF_cnt = min (s.get fFAB_SRST_REF_cnt + 1) (2 ^ fFAB_SRST_REF_cnt.w - 1))) ∧
  (∀ (t : Nat) (s : State), s.sage.resetAt = some t → s.sage.lost = false →
    Runs .aliveResumeTimeout s (fun u => u.now = max s.now (t + ms) ∧ u.sage.lost = true ∧ u.shows fAPC_SAGE_LOST_cause = 5)) ∧
  (∀ (i : Fin 2) (c : Fin 16) (s : State), s.on (fAPC_LS_STAT_broken i.val) = false → (s.apcPair i.val).halted = false → s.tmr = [] →
    Runs (.lockstepMismatch (.apc i) c) s (fun u => (u.apcPair i.val).halted = true ∧ u.shows (fAPC_LS_STAT_mis i.val) = 1 ∧
      u.shows (fAPC_LS_STAT_halted i.val) = 1 ∧ u.shows (fAPC_LS_STAT_cause i.val) = c.val ∧
      u.sage.inbox = s.sage.inbox ++ [⟨3, nOther i.val, false⟩])) ∧
  (∀ (c : Fin 16) (s : State), s.sage.lost = false →
    Runs (.lockstepMismatch .sage c) s (fun u => u.sage.lost = true ∧ u.shows fAPC_SAGE_LOST_cause = 1)) ∧
  (∀ (r : Req) (i : Fin 2) (s : State), s.grants r aAPC_LS_INJ true = true → s.on (fAPC_LS_STAT_broken i.val) = false →
    Runs (.lockstepInject r i) s (fun u => u.shows (fAPC_LS_STAT_cause i.val) = 8 ∧ u.apcs = s.apcs ∧
      u.shows (fAPC_LS_STAT_inj_cnt i.val) = min (s.get (fAPC_LS_STAT_inj_cnt i.val) + 1) (2 ^ (fAPC_LS_STAT_inj_cnt i.val).w - 1) ∧
      u.sage.inbox = s.sage.inbox ++ [⟨3, nOther i.val, true⟩] ∧ OnlyRegs [aAPC_LS_STAT i.val] s u)) ∧
  (∀ (r : Req) (s : State), s.grants r aSAGE_LS_INJ true = true →
    Runs (.sageLsInject r) s (fun u => u.shows fSAGE_LS_STAT_inj_ok = 1 ∧ u.sage = s.sage ∧
      u.shows fSAGE_LS_STAT_inj_cnt = min (s.get fSAGE_LS_STAT_inj_cnt + 1) (2 ^ fSAGE_LS_STAT_inj_cnt.w - 1) ∧
      OnlyRegs [aSAGE_LS_STAT] s u)) ∧
  (∀ (i : Fin 2) (s : State), s.on (fAPC_LS_STAT_dbg_allow 0) = true →
    Runs (.debugHalt (.apc i)) s (fun u => (u.apcPair i.val).dbgHalt = true ∧ u.shows (fAPC_LS_STAT_broken i.val) = 1 ∧
      u.bitAt aSAGE_HEALTH (8 + i.val) = true ∧ u.apcs = (s.putApc i.val { s.apcPair i.val with dbgHalt := true }).apcs)) ∧
  (∀ (x : CorePair) (s : State), s.on (fAPC_LS_STAT_dbg_allow 0) = false → Runs (.debugHalt x) s (fun u => u = s)) ∧
  (∀ (s : State), s.sage.dbgHalt = true →
    Runs (.debugResume .sage) s (fun u => u.sage.dbgHalt = false ∧ u.sage.aliveSusp = s.sage.resetAt.isSome ∧
      u.shows fSAGE_HEALTH_dbg = 0 ∧ OnlyRegs [aSAGE_HEALTH] s u))

/-- SAGE_EVENT puts the event before the safe-state manager. The commands of SAGE_MG_CMD act on the one selected group here: PULSE_OFF, ASC and DEFAULT
bring a group with enabled legs into the state selected and set the hold of Sage; the discharge commands begin the discharge or set an error; SAGE_RELEASE clears the
hold where no event of the group is pending. NS_SET and NS_CLEAR set and clear NOT_SAFE; PIN_ASSERT asserts the named pins, PIN_RELEASE releases
those no pending event holds. -/
def Obligations.SageCommands : Prop :=
  (∀ (e : Fin 64) (x : SageName) (test : Bool) (s : State), e.val ≠ 14 → e.val ≠ 15 →
    Runs (.sageEvent e x test) s (fun u => u = s.setSage { s.sage with inbox := s.sage.inbox ++ [⟨e.val, x, test⟩] })) ∧
  (∀ (r : Req) (m : Fin 32) (s : State), s.grants r aSAGE_MG_CMD true = true → s.rd aSAGE_MG_SEL = BitVec.ofNat 32 (2 ^ m.val) →
    s.mgType m.val ≠ 0 → s.members m.val ≠ [] → s.mgState m.val = 0 → s.decided m.val = false → s.tmr = [] →
    Runs (.sagePulseOff r) s (fun u => u.shows (fMG_STAT_state m.val) = 3 ∧ u.shows (fMG_TRIP_STAT_sage_hold m.val) = 1 ∧
      u.bitAt aSAGE_MG_HOLD m.val = true ∧ (∀ n ∈ s.members m.val, (u.leg n).held = 3))) ∧
  (∀ (r : Req) (m : Fin 32) (s : State), s.grants r aSAGE_MG_CMD true = true → s.rd aSAGE_MG_SEL = BitVec.ofNat 32 (2 ^ m.val) →
    s.mgType m.val ≠ 0 → s.members m.val ≠ [] → s.mgState m.val = 0 → s.decided m.val = false → s.tmr = [] →
    Runs (.sageAsc r) s (fun u => u.shows (fMG_STAT_state m.val) = (s.select m.val 1).1 ∧ u.shows (fMG_TRIP_STAT_sage_hold m.val) = 1)) ∧
  (∀ (r : Req) (m : Fin 32) (s : State), s.grants r aSAGE_MG_CMD true = true → s.rd aSAGE_MG_SEL = BitVec.ofNat 32 (2 ^ m.val) →
    s.mgType m.val ≠ 0 → s.members m.val ≠ [] → s.mgState m.val = 0 → s.decided m.val = false → s.tmr = [] →
    Runs (.sageDefault r) s (fun u => u.shows (fMG_STAT_state m.val) = (s.select m.val (s.dfltReq m.val)).1 ∧
      u.shows (fMG_TRIP_STAT_sage_hold m.val) = 1)) ∧
  (∀ (r : Req) (m : Fin 32) (s : State), s.grants r aSAGE_MG_CMD true = true → s.rd aSAGE_MG_SEL = BitVec.ofNat 32 (2 ^ m.val) →
    inHold (s.mgState m.val) = true → s.disRefused m.val 1 = false → s.tmr = [] →
    Runs (.sageDischargeWinding r) s (fun u => u.shows (fMG_STAT_state m.val) = 4 ∧ (u.mg m.val).dis = 1 ∧
      u.shows (fSAGE_DIS_STAT_state m.val) = 1 ∧ u.shows (fMG_TRIP_STAT_sage_hold m.val) = 1)) ∧
  (∀ (r : Req) (m : Fin 32) (s : State), s.grants r aSAGE_MG_CMD true = true → s.rd aSAGE_MG_SEL = BitVec.ofNat 32 (2 ^ m.val) →
    inHold (s.mgState m.val) = true → s.disRefused m.val 2 = false → s.tmr = [] →
    Runs (.sageDischargeBleed r) s (fun u => u.shows (fMG_STAT_state m.val) = 4 ∧ (u.mg m.val).dis = 2 ∧
      u.shows (fSAGE_DIS_STAT_state m.val) = 2 ∧ u.shows (fMG_TRIP_STAT_sage_hold m.val) = 1)) ∧
  (∀ (r : Req) (m : Fin 32) (s : State), s.grants r aSAGE_MG_CMD true = true → s.rd aSAGE_MG_SEL = BitVec.ofNat 32 (2 ^ m.val) →
    inHold (s.mgState m.val) = false → s.tmr = [] →
    Runs (.sageDischargeBleed r) s (fun u => u.mgs = s.mgs ∧ u.shows ⟨0x400F001C, 18, 1⟩ = 1 ∧ OnlyRegs [0x400F001C, 0x400F0010] s u)) ∧
  (∀ (r : Req) (m : Fin 32) (s : State), s.grants r aSAGE_MG_CMD true = true → s.rd aSAGE_MG_SEL = BitVec.ofNat 32 (2 ^ m.val) →
    s.decided m.val = false → s.pendingEvents = [] → s.sage.lost = false → s.tmr = [] →
    Runs (.sageRelease r) s (fun u => u.shows (fMG_TRIP_STAT_sage_hold m.val) = 0 ∧ u.bitAt aSAGE_MG_HOLD m.val = false ∧
      u.mgState m.val = s.mgState m.val ∧ u.mgs = s.mgs ∧ OnlyRegs [aMG_TRIP_STAT m.val, aSAGE_MG_HOLD, aTHY_TRIP_SUM] s u)) ∧
  (∀ (r : Req) (s : State), s.grants r aSAGE_NS_CMD true = true →
    Runs (.nsSet r) s (fun u => u.bitAt aSAGE_HEALTH 12 = true ∧ u.sage = s.sage ∧ OnlyRegs [aSAGE_HEALTH, aSAGE_STAT, aAPC_SAGE_EVT] s u)) ∧
  (∀ (r : Req) (s : State), s.grants r aSAGE_NS_CMD true = true → s.pendingEvents = [] → s.get fSAGE_HEALTH_ns_cause % 8 = 0 →
    s.on fSAGE_HEALTH_not_safe = true →
    Runs (.nsClear r) s (fun u => u.shows fSAGE_HEALTH_ns_cause = 0 ∧ u.shows fSAGE_HEALTH_not_safe = 0 ∧ u.shows fSAGE_STAT_not_safe = 0 ∧
      u.shows fAPC_SAGE_EVT_ns = 1 ∧ OnlyRegs [aSAGE_HEALTH, aSAGE_STAT, aAPC_SAGE_EVT] s u)) ∧
  (∀ (r : Req) (pins : Fin 16) (s : State), s.grants r aSAGE_PIN_CMD true = true →
    Runs (.pinAssert r pins) s (fun u => u.shows fSAGE_PIN_STAT_asserted = (s.get fSAGE_PIN_STAT_asserted ||| pins.val) ∧
      OnlyRegs [aSAGE_PIN_STAT] s u)) ∧
  (∀ (r : Req) (pins : Fin 16) (s : State), s.grants r aSAGE_PIN_CMD true = true → s.pendingEvents = [] → s.sage.lost = false →
    Runs (.pinRelease r pins) s (fun u => u.shows fSAGE_PIN_STAT_asserted = s.get fSAGE_PIN_STAT_asserted &&& (15 - pins.val) ∧
      OnlyRegs [aSAGE_PIN_STAT] s u))


/-- TORQUE_EVALUATION of a channel in the current mode, with one leg and one complete instant, counts and shows the largest current; a channel that is off does
nothing. LIVENESS of a running context marks the violation once its limit has passed and reaches Sage. KB_SUPERVISION tells Sage of a
Kirchhoff fault once. DISCHARGE_DONE, TIMEOUT, STALL and NODATA end a discharge in PULSE-OFF with their result; a checkpoint at which the voltage
falls goes on; without a discharge nothing happens. -/
def Obligations.Supervision : Prop :=
  (∀ (m : Fin 32) (n : Nat) (y : ChkItem) (s : State), s.on (fSAGE_TM_CFG_en m.val) = true → s.get (fSAGE_TM_CFG_mode m.val) = 3 →
    s.tmLegs m.val = [n] → (s.tm m.val).items = [y] → y.leg = n →
    Runs (.torqueEvaluation m) s (fun u => (u.tm m.val).items = [] ∧ (u.tm m.val).lastAt = some y.t ∧
      u.shows (fSAGE_TM_EVAL_cnt m.val) = (s.get (fSAGE_TM_EVAL_cnt m.val) + 1) % 2 ^ (fSAGE_TM_EVAL_cnt m.val).w ∧
      u.rd (aSAGE_TM_TMON m.val) = F32.max 0 (F32.abs (F32.mul (F32.ofInt y.i) (s.tmw (aSAGE_TM_ISCL m.val)))) ∧
      u.shows (fSAGE_TM_STAT_susp m.val) = 1)) ∧
  (∀ (m : Fin 32) (s : State), s.on (fSAGE_TM_CFG_en m.val) = false → Runs (.torqueEvaluation m) s (fun u => u = s)) ∧
  (∀ (k : Fin 128) (s : State), s.livLimit k.val ≠ 0 → (s.ctx k.val).st = .run → s.bitAt (aSAGE_LIV_VIOL 0) k.val = false →
    Runs (.liveness k) s (fun u => u.now = max s.now ((Tab.get ({} : Liv) s.livs k.val).at_ + s.livLimit k.val) ∧
      u.bitAt (aSAGE_LIV_VIOL 0) k.val = true ∧ u.sage.inbox = s.sage.inbox ++ [⟨16, nCtx k.val, false⟩] ∧
      OnlyRegs [(bitFld (aSAGE_LIV_VIOL 0) k.val).addr] s u)) ∧
  (∀ (k : Fin 128) (s : State), (s.livLimit k.val = 0 ∨ (s.ctx k.val).st ≠ .run) → Runs (.liveness k) s (fun u => u = s)) ∧
  (∀ (k : Fin 128) (s : State), s.livLimit k.val ≠ 0 → (s.ctx k.val).st ≠ .off → 1 ≤ s.cKid k.val → s.cKid k.val ≤ 3 →
    (s.cw k.val 0x7A0).fld 2 1 = 1 → (Tab.get ({} : Liv) s.livs k.val).kb = false →
    Runs .kbSupervision s (fun u => (Tab.get ({} : Liv) u.livs k.val).kb = true ∧ (⟨17, nCtx k.val, false⟩ : SEvt) ∈ u.sage.inbox ∧
      OnlyRegs [] s u)) ∧
  (∀ (s : State), (∀ k ∈ allCtx, s.livLimit k = 0) → Runs .kbSupervision s (fun u => u = s)) ∧
  (∀ (m : Fin 32) (t : Nat) (s : State), (s.mg m.val).dis ≠ 0 → (s.dis m.val).below = some t → s.tmr = [] →
    Runs (.dischargeDone m) s (fun u => u.now = max s.now (t + 10 * ms) ∧ u.shows (fMG_STAT_state m.val) = 3 ∧ (u.mg m.val).dis = 0 ∧
      u.shows (fSAGE_DIS_STAT_state m.val) = 3 ∧
      u.shows (fSAGE_DIS_CNT_done m.val) = min (s.get (fSAGE_DIS_CNT_done m.val) + 1) (2 ^ (fSAGE_DIS_CNT_done m.val).w - 1))) ∧
  (∀ (m : Fin 32) (s : State), (s.mg m.val).dis ≠ 0 → s.tmr = [] →
    Runs (.dischargeTimeout m) s (fun u => u.now = max s.now ((s.dis m.val).start + s.tDis m.val) ∧ u.shows (fMG_STAT_state m.val) = 3 ∧
      (u.mg m.val).dis = 0 ∧ u.shows (fSAGE_DIS_STAT_state m.val) = 4 ∧ (⟨38, nOther m.val, false⟩ : SEvt) ∈ u.sage.inbox ∧
      u.shows (fSAGE_DIS_CNT_fail m.val) = min (s.get (fSAGE_DIS_CNT_fail m.val) + 1) (2 ^ (fSAGE_DIS_CNT_fail m.val).w - 1))) ∧
  (∀ (m : Fin 32) (s : State), (s.mg m.val).dis ≠ 0 → (s.dis m.val).vcw = none →
    Runs (.dischargeStall m) s (fun u => u.now = max s.now ((s.dis m.val).start + ((s.dis m.val).chkN + 1) * s.tDis m.val / 8) ∧
      u.dis m.val = { s.dis m.val with chkN := (s.dis m.val).chkN + 1, vcw := some (s.dis m.val).vw } ∧ u.mgs = s.mgs ∧ OnlyRegs [] s u)) ∧
  (∀ (m : Fin 32) (c : Word) (s : State), (s.mg m.val).dis ≠ 0 → (s.dis m.val).vcw = some c →
    F32.lt (F32.ofInt (s.get (fSAGE_DIS_LIM_v_safe m.val))) (s.dis m.val).vw = true →
    F32.lt (F32.mul (F32.dec 97 100) c) (s.dis m.val).vw = true → s.tmr = [] →
    Runs (.dischargeStall m) s (fun u => u.shows (fMG_STAT_state m.val) = 3 ∧ (u.mg m.val).dis = 0 ∧
      u.shows (fSAGE_DIS_STAT_state m.val) = 5 ∧ (⟨38, nOther m.val, false⟩ : SEvt) ∈ u.sage.inbox)) ∧
  (∀ (m : Fin 32) (s : State), (s.mg m.val).dis ≠ 0 → s.tmr = [] →
    Runs (.dischargeNodata m) s (fun u => u.now = max s.now ((s.dis m.val).lastV + 10 * ms) ∧ u.shows (fMG_STAT_state m.val) = 3 ∧
      (u.mg m.val).dis = 0 ∧ u.shows (fSAGE_DIS_STAT_state m.val) = 6 ∧ (⟨38, nOther m.val, false⟩ : SEvt) ∈ u.sage.inbox)) ∧
  (∀ (m : Fin 32) (s : State), (s.mg m.val).dis = 0 → Runs (.dischargeNodata m) s (fun u => u = s))

/-- WDG_SERVICE: the first key waits for the second, the second within the limits is a valid service, with which the limits of the configuration
come into force, and any other key expires the watchdog and takes the loss path with cause 4, as WDG_EXPIRY does at the upper limit. An APC
watchdog follows the same rules; its expiry is shown and reaches Sage. WDG_WINDOW_OPEN shows the open window at the lower limit. -/
def Obligations.Watchdogs : Prop :=
  (∀ (r : Req) (s : State), s.grants r aSAGE_WDG_SVC true = true → s.sage.running = true → s.sage.lost = false → (s.wdg 0).first = false →
    Runs (.wdgService r 0x5A) s (fun u => u.wdg 0 = { s.wdg 0 with first := true } ∧ u.sage = s.sage ∧ OnlyRegs [] s u)) ∧
  (∀ (r : Req) (s : State), s.grants r aSAGE_WDG_SVC true = true → s.sage.running = true → s.sage.lost = false → (s.wdg 0).first = true →
    ((s.wdg 0).served = true → 10 * us * (s.wdg 0).wmin ≤ s.now - (s.wdg 0).last) → s.now - (s.wdg 0).last ≤ 10 * us * (s.wdg 0).wmax →
    Runs (.wdgService r 0xA5) s (fun u => (u.wdg 0).last = s.now ∧ (u.wdg 0).first = false ∧ (u.wdg 0).served = true ∧
      (u.wdg 0).wmin = s.get fSAGE_WDG_CFG_wmin ∧ (u.wdg 0).wmax = s.get fSAGE_WDG_CFG_wmax ∧ u.sage.errOn = true ∧
      u.shows fSAGE_WDG_STAT_served = 1 ∧ u.shows fSAGE_HEALTH_wdg_ok = 1 ∧ OnlyRegs [aSAGE_WDG_STAT, aSAGE_HEALTH] s u)) ∧
  (∀ (r : Req) (key : Fin 256) (s : State), s.grants r aSAGE_WDG_SVC true = true → s.sage.running = true → s.sage.lost = false →
    key.val ≠ 0x5A → key.val ≠ 0xA5 →
    Runs (.wdgService r key) s (fun u => u.sage.lost = true ∧ u.shows fAPC_SAGE_LOST_cause = 4 ∧ u.shows fSAGE_HEALTH_wdg_ok = 0 ∧
      u.shows fSAGE_PIN_STAT_asserted = 15)) ∧
  (∀ (s : State), s.sage.running = true → s.sage.lost = false →
    Runs .wdgExpiry s (fun u => u.now = max s.now ((s.wdg 0).last + 10 * us * (s.wdg 0).wmax) ∧ u.sage.lost = true ∧
      u.shows fAPC_SAGE_LOST_cause = 4 ∧ u.shows fSAGE_HEALTH_wdg_ok = 0)) ∧
  (∀ (r : Req) (i : Fin 2) (s : State), s.grants r (aAPC_WDG_SVC i.val) true = true → (s.wdg (i.val + 1)).wmax ≠ 0 →
    s.on (fAPC_WDG_STAT_expired i.val) = false → (s.wdg (i.val + 1)).first = true → (s.wdg (i.val + 1)).served = false →
    s.now - (s.wdg (i.val + 1)).last ≤ 10 * us * (s.wdg (i.val + 1)).wmax →
    Runs (.apcWdgService r i 0xA5) s (fun u => (u.wdg (i.val + 1)).last = s.now ∧ (u.wdg (i.val + 1)).served = true ∧
      (u.wdg (i.val + 1)).wmax = s.get (fAPC_WDG_CFG_wmax i.val) ∧ u.shows (fAPC_WDG_STAT_open i.val) = 0 ∧
      u.sage = s.sage ∧ OnlyRegs [aAPC_WDG_STAT i.val] s u)) ∧
  (∀ (r : Req) (i : Fin 2) (key : Fin 256) (s : State), s.grants r (aAPC_WDG_SVC i.val) true = true → (s.wdg (i.val + 1)).wmax ≠ 0 →
    s.on (fAPC_WDG_STAT_expired i.val) = false → key.val ≠ 0x5A → key.val ≠ 0xA5 →
    Runs (.apcWdgService r i key) s (fun u => u.shows (fAPC_WDG_STAT_expired i.val) = 1 ∧
      u.sage.inbox = s.sage.inbox ++ [⟨4, nOther i.val, false⟩] ∧ OnlyRegs [aAPC_WDG_STAT i.val] s u)) ∧
  (∀ (i : Fin 2) (s : State), (s.wdg (i.val + 1)).wmax ≠ 0 → s.on (fAPC_WDG_STAT_expired i.val) = false →
    Runs (.apcWdgExpiry i) s (fun u => u.now = max s.now ((s.wdg (i.val + 1)).last + 10 * us * (s.wdg (i.val + 1)).wmax) ∧
      u.shows (fAPC_WDG_STAT_expired i.val) = 1 ∧ u.sage.inbox = s.sage.inbox ++ [⟨4, nOther i.val, false⟩] ∧
      OnlyRegs [aAPC_WDG_STAT i.val] s u)) ∧
  (∀ (i : Fin 2) (s : State), (s.wdg (i.val + 1)).wmax = 0 → Runs (.apcWdgExpiry i) s (fun u => u = s)) ∧
  (∀ (s : State), s.sage.running = true → (s.wdg 0).served = true →
    Runs (.wdgWindowOpen .sage) s (fun u => u.now = max s.now ((s.wdg 0).last + 10 * us * (s.wdg 0).wmin) ∧
      u.shows fSAGE_WDG_STAT_open = 1 ∧ u.shows fSAGE_IRQ_RAW_wdg_open = 1 ∧ OnlyRegs [aSAGE_WDG_STAT, aSAGE_IRQ_RAW] s u)) ∧
  (∀ (i : Fin 2) (s : State), (s.wdg (i.val + 1)).wmax ≠ 0 → (s.wdg (i.val + 1)).served = true →
    Runs (.wdgWindowOpen (.apc i)) s (fun u => u.now = max s.now ((s.wdg (i.val + 1)).last + 10 * us * (s.wdg (i.val + 1)).wmin) ∧
      u.shows (fAPC_WDG_STAT_open i.val) = 1 ∧ OnlyRegs [aAPC_WDG_STAT i.val] s u))


/-- PAIR_JOIN in LOST keeps the request; in SYNCED it is refused. PAIR_LEAVE and HANDOVER of a prime in SYNCED send QUIT and GIVE; YIELD gives the
ports whose legs are all in a safe state, PAIR_CLAIM claims the paired ports. HEART_SEND of a prime sends the states of the 32 groups,
TIME_PROBE_SEND of a mirror in SYNCED a TIME PROBE with the pair time noted. PAIR_LANE_ALIGN in TRAIN brings the link up, unless its SER_RCAL is open or shorted. A discarded record is
counted. PAIR_LOSS of a mirror in JOIN makes no takeover: the link is LOST; in SYNCED with takeover permitted the window opens and the link shows SYNCED.
CLAIM_REPEAT claims the port not yet held; TAKEOVER_WINDOW_END counts the takeover, shows its time and ports and leaves the link LOST (of a chip
without enabled legs). PAIR_RETRAIN and JOIN_TIMEOUT return to TRAIN. -/
def Obligations.PairCommands : Prop :=
  (∀ (r : Req) (s : State), s.grants r aPAIR_CMD true = true → s.joinOk = true → s.pairLink = 4 →
    Runs (.pairJoin r) s (fun u => u.pair = { s.pair with joinReq := true } ∧ u.shows fPAIR_STATE_cmd_ref = 0 ∧ OnlyRegs [aPAIR_STATE] s u)) ∧
  (∀ (r : Req) (s : State), s.grants r aPAIR_CMD true = true → s.pairLink = 3 →
    Runs (.pairJoin r) s (fun u => u.pair = s.pair ∧ u.shows fPAIR_STATE_cmd_ref = 1 ∧ OnlyRegs [aPAIR_STATE] s u)) ∧
  (∀ (r : Req) (p : Fin 32) (s : State), s.grants r aPAIR_CMD true = true → s.role = 1 → s.pairLink = 3 → s.pairedPorts = [p.val] →
    s.on (fNDL_TOK_STAT_busy p.val) = false →
    Runs (.pairLeave r) s (fun u => u.pair.txq = s.pair.txq ++ [(s.pair.seqTx, .ctrl 4)] ∧
      (u.port p.val).lk.ready = (s.port p.val).lk.ready ++ [{ cell := .token 2 }] ∧ u.shows (fNDL_TOK_STAT_busy p.val) = 1 ∧
      u.shows fPAIR_STATE_cmd_ref = 0 ∧ OnlyRegs [aPAIR_STATE, aPAIR_TX_CNT, aNDL_TOK_STAT p.val] s u)) ∧
  (∀ (r : Req) (p : Fin 32) (s : State), s.grants r aPAIR_CMD true = true → s.role = 1 → s.pairLink = 3 → s.pairedPorts = [p.val] →
    s.on (fNDL_TOK_STAT_busy p.val) = false →
    Runs (.handover r) s (fun u => u.pair.txq = s.pair.txq ++ [(s.pair.seqTx, .ctrl 4)] ∧
      (u.port p.val).lk.ready = (s.port p.val).lk.ready ++ [{ cell := .token 2 }] ∧ u.shows (fNDL_TOK_STAT_busy p.val) = 1 ∧
      u.shows fPAIR_STATE_cmd_ref = 0 ∧ OnlyRegs [aPAIR_STATE, aPAIR_TX_CNT, aNDL_TOK_STAT p.val] s u)) ∧
  (∀ (r : Req) (p : Fin 32) (s : State), s.grants r aPAIR_CMD true = true → s.on fPAIR_CFG_en = true → s.yieldPorts = [p.val] →
    s.on (fNDL_TOK_STAT_busy p.val) = false → (s.portState p.val = pCaps ∨ s.portState p.val = pTset ∨ s.portState p.val = pUp) →
    Runs (.yield r) s (fun u => u.pair = s.pair ∧ (u.port p.val).lk.ready = (s.port p.val).lk.ready ++ [{ cell := .token 2 }] ∧
      u.shows (fNDL_TOK_STAT_busy p.val) = 1 ∧ u.shows fPAIR_STATE_cmd_ref = 0 ∧ OnlyRegs [aPAIR_STATE, aNDL_TOK_STAT p.val] s u)) ∧
  (∀ (r : Req) (p : Fin 32) (s : State), s.grants r aPAIR_CMD true = true → s.on fPAIR_CFG_en = true → s.pairedPorts = [p.val] →
    s.on (fNDL_TOK_STAT_busy p.val) = false → (s.portState p.val = pCaps ∨ s.portState p.val = pTset ∨ s.portState p.val = pUp) →
    Runs (.pairClaim r) s (fun u => u.pair = s.pair ∧ (u.port p.val).lk.ready = (s.port p.val).lk.ready ++ [{ cell := .token 1 }] ∧
      u.shows (fNDL_TOK_STAT_busy p.val) = 1 ∧ u.shows fPAIR_STATE_cmd_ref = 0 ∧ OnlyRegs [aPAIR_STATE, aNDL_TOK_STAT p.val] s u)) ∧
  (∀ (s : State), s.role = 1 → s.on fPAIR_STAT_link_up = true →
    Runs .heartSend s (fun u => u.now = max s.now (s.pair.heartAt + us) ∧ u.pair.heartAt = u.now ∧
      u.pair.txq = s.pair.txq ++ [(s.pair.seqTx, .heart (lowTicks (s.toPair u.now)) ((List.range 32).map s.mgState))] ∧
      u.shows fPAIR_TX_CNT_cnt = (s.get fPAIR_TX_CNT_cnt + 1) % 2 ^ 32 ∧ OnlyRegs [aPAIR_TX_CNT] s u)) ∧
  (∀ (s : State), s.role = 0 → s.pairLink = 3 →
    Runs .timeProbeSend s (fun u =>
      u.now = (if s.pair.probeAt = 0 then s.now else max s.now (s.pair.probeAt + us * s.get fPAIR_TIMING_per)) ∧
      u.pair.probe = some (s.toPair u.now) ∧ u.pair.probeAt = u.now ∧ u.pair.txq = s.pair.txq ++ [(s.pair.seqTx, .probe)] ∧
      OnlyRegs [aPAIR_TX_CNT] s u)) ∧
  (∀ (s : State), s.pairLink = 1 → s.pair.joinReq = false → s.hpm.rcalBad.contains 2 = false →
    Runs .pairLaneAlign s (fun u => u.shows fPAIR_STAT_link_up = 1 ∧ u.pair.lastBlock = s.now ∧ u.pair.seqRx = none ∧
      OnlyRegs [aPAIR_STAT] s u)) ∧
  (∀ (s : State), s.on fPAIR_STAT_link_up = true → s.tmr = [] →
    Runs .pairRecordDiscard s (fun u => u.shows fPAIR_REC_ERR_bad = min (s.get fPAIR_REC_ERR_bad + 1) (2 ^ 16 - 1) ∧
      u.shows fPAIR_ERR_rec = 1 ∧ u.pair = s.pair ∧ OnlyRegs [aPAIR_REC_ERR, aPAIR_ERR, aPAIR_IRQ_RAW] s u)) ∧
  (∀ (s : State), s.on fPAIR_STAT_link_up = true → s.pairLink = 2 → s.role = 0 → s.tmr = [] →
    Runs .pairLoss s (fun u => u.now = max s.now (s.pair.lastBlock + us * s.get fPAIR_TIMING_t_pl) ∧ u.shows fPAIR_STATE_link = 4 ∧
      u.shows fPAIR_STATE_tko = s.shows fPAIR_STATE_tko ∧ u.shows fPAIR_STAT_link_up = 0 ∧ u.shows fPAIR_IRQ_RAW_loss = 1 ∧
      u.shows fPAIR_ERR_tko_fail = 1 ∧ u.pair.tent = [] ∧ u.pair.join = .none ∧ u.ports = s.ports)) ∧
  (∀ (s : State), s.on fPAIR_STAT_link_up = true → s.pairLink = 3 → s.role = 0 → s.on fPAIR_CFG_tko_en = true → s.tmr = [] →
    Runs .pairLoss s (fun u => u.now = max s.now (s.pair.lastBlock + us * s.get fPAIR_TIMING_t_pl) ∧ u.shows fPAIR_STATE_link = 3 ∧
      u.shows fPAIR_STATE_tko = 1 ∧ u.shows fPAIR_IRQ_RAW_loss = 1 ∧ u.shows fTHY_SLEW_slew = 0 ∧ u.pair.tent = [] ∧
      u.pair.tko = some { start := u.now, quit := false, lastClaim := u.now, slew := sext 16 (s.get fTHY_SLEW_slew) })) ∧
  (∀ (p : Fin 32) (x : Tko) (s : State), s.pair.tko = some x → s.on fPAIR_STATE_tko = true → s.pairedPorts = [p.val] →
    s.tokHere p.val = false → (x.quit = true ∨ x.denied / 2 ^ p.val % 2 = 1) → s.on (fNDL_TOK_STAT_busy p.val) = false →
    (s.portState p.val = pCaps ∨ s.portState p.val = pTset ∨ s.portState p.val = pUp) →
    Runs .claimRepeat s (fun u => u.now = max s.now (x.lastClaim + 2 * us) ∧ u.pair.tko = some { x with lastClaim := u.now, denied := 0 } ∧
      (u.port p.val).lk.ready = (s.port p.val).lk.ready ++ [{ cell := .token 1 }] ∧ OnlyRegs [aNDL_TOK_STAT p.val] s u)) ∧
  (∀ (x : Tko) (s : State), s.pair.tko = some x → s.on fPAIR_STATE_tko = true → (∀ m : Fin 32, s.members m.val = []) → s.tmr = [] →
    Runs .takeoverWindowEnd s (fun u => u.now = max s.now (x.start + 25 * us) ∧ u.shows fPAIR_STATE_link = 4 ∧ u.shows fPAIR_STATE_tko = 0 ∧
      u.shows fPAIR_TKO_CNT_ok = (if x.granted = 0 then s.get fPAIR_TKO_CNT_ok else min (s.get fPAIR_TKO_CNT_ok + 1) (2 ^ 16 - 1)) ∧
      u.shows fPAIR_TKO_CNT_fail = (if x.granted = 0 then min (s.get fPAIR_TKO_CNT_fail + 1) (2 ^ 16 - 1) else s.get fPAIR_TKO_CNT_fail) ∧
      u.rd aPAIR_TKO_TIME = BitVec.ofNat 32 (lowTicks x.start) ∧ u.rd aPAIR_TKO_GRANT = BitVec.ofNat 32 x.granted ∧
      u.shows fPAIR_IRQ_RAW_takeover = 1)) ∧
  (∀ (s : State), s.pairLink = 4 →
    Runs .pairRetrain s (fun u => u.now = max s.now (s.pair.since + 100 * us) ∧ u.shows fPAIR_STATE_link = 1 ∧ u.shows fPAIR_STAT_link_up = 0 ∧
      u.shows fPAIR_STAT_aligned = 0 ∧ u.pair.since = u.now ∧ u.pair.joinReq = (s.on fPAIR_CFG_auto_join && s.role == 0) ∧
      OnlyRegs [aPAIR_STATE, aPAIR_STAT] s u)) ∧
  (∀ (s : State), s.pairLink = 2 → s.tmr = [] →
    Runs .joinTimeout s (fun u => u.now = max s.now (s.pair.joinAt + 20 * ms) ∧ u.shows fPAIR_STATE_link = 1 ∧ u.shows fPAIR_ERR_join_to = 1 ∧
      u.pair.join = .none ∧ OnlyRegs [aPAIR_STATE, aPAIR_STAT, aPAIR_ERR, aPAIR_IRQ_RAW] s u))

/-- Each record arrives as the next in its sequence and is counted. HEART keeps the states of the prime's groups; with the link down nothing arrives.
TIME_PROBE: the prime answers with its pair time and a turn of at most 400 ns. TIME_RESP: in step TIME of JOIN it corrects PAIR_DELTA; afterwards the
fourth offset within 1 ns raises aligned, shown with offset and round trip. MIRROR is held and not applied; SEAL applies it: image, outputs, step,
RUN flag; CANCEL discards it. A part of a SET is held; a whole SET sets the compare values. CHECK with the prime's own values starts JOIN and is
answered CHECK_OK, another CHECK_FAIL; CHECK_OK, CHECK_FAIL and SYNCED move the mirror's link on; QUIT without takeover loses it; BULK in step COPY copies a
context's state. -/
def Obligations.PairRecords : Prop :=
  (∀ (h : RecHdr) (groups : List Nat) (s : State), s.on fPAIR_STAT_link_up = true → s.pair.seqRx = none → h.prime = true → groups.length = 32 →
    Runs (.heart h groups) s (fun u =>
      u.pair = { s.pair with heart := groups.map (· % 8), seqRx := some ((h.seq.val + 1) % 65536), lastBlock := s.now } ∧
      u.shows fPAIR_RX_CNT_cnt = (s.get fPAIR_RX_CNT_cnt + 1) % 2 ^ 32 ∧ OnlyRegs [aPAIR_RX_CNT] s u)) ∧
  (∀ (h : RecHdr) (groups : List Nat) (s : State), s.on fPAIR_STAT_link_up = false → groups.length = 32 →
    Runs (.heart h groups) s (fun u => u = s)) ∧
  (∀ (h : RecHdr) (s : State), s.on fPAIR_STAT_link_up = true → s.pair.seqRx = none → s.role = 1 → s.pairLink = 3 →
    Runs (.timeProbe h) s (fun u => (∃ d : Fin 5121, u.pair.txq = s.pair.txq ++ [(s.pair.seqTx, .resp (s.toPair s.now) d.val)]) ∧ u.now = s.now ∧
      OnlyRegs [aPAIR_RX_CNT, aPAIR_TX_CNT] s u)) ∧
  (∀ (h : RecHdr) (a2 : Nat) (turn : Fin 65536) (t4 t1 : Nat) (s : State), s.on fPAIR_STAT_link_up = true → s.pair.seqRx = none → s.role = 0 →
    s.pairLink = 2 → s.pair.timeDone = false → s.pair.probe = some t1 →
    Runs (.timeResp h a2 turn t4) s (fun u => u.pair.timeDone = true ∧ u.pair.probe = none ∧
      u.pair.delta = s.pair.delta - ((t1 : Int) + ((t4 : Int) - t1 - turn.val + sext 16 (s.get fPAIR_ASYM_asym)) / 2 - a2) ∧
      OnlyRegs [aPAIR_RX_CNT, aPAIR_OFS] s u)) ∧
  (∀ (h : RecHdr) (a2 : Nat) (turn : Fin 65536) (t4 t1 : Nat) (s : State), s.on fPAIR_STAT_link_up = true → s.pair.seqRx = none → s.role = 0 →
    s.pairLink = 3 → s.pair.probe = some t1 → 3 ≤ s.pair.good → s.get fPAIR_ASYM_asym = 0 → t1 + turn.val ≤ t4 → t4 < 65536 →
    t1 + (t4 - t1 - turn.val) / 2 = a2 →
    Runs (.timeResp h a2 turn t4) s (fun u => u.shows fPAIR_STAT_aligned = 1 ∧ u.shows fPAIR_OFS_e = 0 ∧
      u.shows fPAIR_OFS_rtt = t4 - t1 - turn.val ∧ u.shows fTHY_SLEW_slew = 0 ∧ u.pair.delta = s.pair.delta ∧
      u.pair.good = s.pair.good + 1 ∧ u.pair.bad = 0 ∧ u.pair.probe = none ∧
      OnlyRegs [aPAIR_RX_CNT, aPAIR_OFS, aPAIR_STAT, aTHY_SLEW] s u)) ∧
  (∀ (h : RecHdr) (k : Fin 128) (step : Word) (run : Bool) (img outs : List Word) (s : State), s.on fPAIR_STAT_link_up = true →
    s.pair.seqRx = none → s.role = 0 → s.pairLink = 3 → s.mirCtx k.val = true → Tab.find s.pair.tent k.val = none → img.length = 32 →
    outs.length = 8 →
    Runs (.mirror h k step run img outs) s (fun u => Tab.find u.pair.tent k.val = some { step := step, img := img, outs := outs } ∧
      u.mem = s.mem ∧ OnlyRegs [aPAIR_RX_CNT] s u)) ∧
  (∀ (h : RecHdr) (k : Fin 128) (run : Bool) (x : Tent) (s : State), s.on fPAIR_STAT_link_up = true → s.pair.seqRx = none → s.role = 0 →
    s.pairLink = 3 → Tab.find s.pair.tent k.val = some x → x.img.length = 32 → x.outs.length = 8 → s.isRun 5 = true →
    Runs (.sealRecord h k x.step run) s (fun u => u.memWords (cArea k.val + 0x380) 32 = x.img ∧ u.memWords (cArea k.val + 0x780) 8 = x.outs ∧
      Tab.find u.pair.applied k.val = some x.step ∧ Tab.find u.pair.tent k.val = none ∧ u.pair.runs.contains k.val = run ∧
      u.shows fPAIR_APPLIED_cnt = (s.get fPAIR_APPLIED_cnt + 1) % 2 ^ 32 ∧ OnlyRegs [aPAIR_RX_CNT, aPAIR_APPLIED] s u)) ∧
  (∀ (h : RecHdr) (k : Fin 128) (x : Tent) (s : State), s.on fPAIR_STAT_link_up = true → s.pair.seqRx = none → s.role = 0 →
    s.pairLink = 3 → Tab.find s.pair.tent k.val = some x →
    Runs (.cancelRecord h k x.step) s (fun u => Tab.find u.pair.tent k.val = none ∧ u.mem = s.mem ∧
      u.shows fPAIR_DISCARD_cnt = (s.get fPAIR_DISCARD_cnt + 1) % 2 ^ 32 ∧ OnlyRegs [aPAIR_RX_CNT, aPAIR_DISCARD] s u)) ∧
  (∀ (h : RecHdr) (g : Fin 32) (gen : Fin 256) (t per : Word) (part parts : Nat) (legs : List LegSet) (s : State), s.on fPAIR_STAT_link_up = true →
    s.pair.seqRx = none → s.role = 0 → s.pairLink = 3 → s.bitAt aPAIR_TBG_EN g.val = true → Tab.find s.pair.sets g.val = none →
    part < parts → 2 ≤ parts → parts ≤ 16 → legs.length ≤ 29 →
    Runs (.setRec h g gen t per part parts legs) s (fun u =>
      (Tab.find u.pair.sets g.val).map (·.gen) = some gen.val ∧ (Tab.find u.pair.sets g.val).map (·.per) = some (per.fld 0 24) ∧
      (Tab.find u.pair.sets g.val).map (·.parts) = some parts ∧ (Tab.find u.pair.sets g.val).map (·.got) = some [part] ∧
      (Tab.find u.pair.sets g.val).map (·.legs) = some legs ∧
      OnlyRegs [aPAIR_RX_CNT] s u)) ∧
  (∀ (h : RecHdr) (g : Fin 32) (gen : Fin 256) (t per : Word) (e : LegSet) (s : State), s.on fPAIR_STAT_link_up = true →
    s.pair.seqRx = none → s.role = 0 → s.pairLink = 3 → s.bitAt aPAIR_TBG_EN g.val = true → Tab.find s.pair.sets g.val = none →
    per.fld 0 24 = s.get (fTBG_PERIOD_t g.val) → s.legMode e.leg.val ≠ 4 →
    Runs (.setRec h g gen t per 0 1 [e]) s (fun u => u.shows (fLEG_CMP_ON_on e.leg.val) = Word.fld e.on 0 29 ∧
      u.shows (fLEG_CMP_OFF_off e.leg.val) = Word.fld e.off 0 29 ∧ Tab.find u.pair.sets g.val = none ∧ (Tab.find u.pair.lastSet g.val).isSome = true ∧
      OnlyRegs [aPAIR_RX_CNT, aLEG_CMP_ON e.leg.val, aLEG_CMP_OFF e.leg.val] s u)) ∧
  (∀ (h : RecHdr) (s : State), s.on fPAIR_STAT_link_up = true → s.pair.seqRx = none → s.role = 1 → s.pairLink = 1 → s.joinOk = true →
    s.checkVals.2 = true →
    Runs (.ctrlCheck h s.checkVals.1) s (fun u => u.shows fPAIR_STATE_link = 2 ∧ u.pair.join = .time ∧ u.pair.joinAt = s.now ∧
      u.pair.txq = s.pair.txq ++ [(s.pair.seqTx, .ctrl 2)] ∧ OnlyRegs [aPAIR_RX_CNT, aPAIR_STATE, aPAIR_STAT, aPAIR_TX_CNT] s u)) ∧
  (∀ (h : RecHdr) (v : List Word) (s : State), s.on fPAIR_STAT_link_up = true → s.pair.seqRx = none → s.role = 1 → s.pairLink = 1 →
    v ≠ s.checkVals.1 → s.tmr = [] →
    Runs (.ctrlCheck h v) s (fun u => u.shows fPAIR_STATE_link = 1 ∧ u.pair.join = .none ∧ u.shows fPAIR_ERR_cfg = 1 ∧
      u.pair.txq = s.pair.txq ++ [(s.pair.seqTx, .ctrl 3)])) ∧
  (∀ (h : RecHdr) (s : State), s.on fPAIR_STAT_link_up = true → s.pair.seqRx = none → s.role = 0 → s.pairLink = 2 → s.pair.join = .check →
    Runs (.checkOk h) s (fun u => u.pair = { s.pair with join := .time, seqRx := some ((h.seq.val + 1) % 65536), lastBlock := s.now } ∧
      OnlyRegs [aPAIR_RX_CNT] s u)) ∧
  (∀ (h : RecHdr) (s : State), s.on fPAIR_STAT_link_up = true → s.pair.seqRx = none → s.pairLink = 2 → s.tmr = [] →
    Runs (.checkFail h) s (fun u => u.shows fPAIR_STATE_link = 1 ∧ u.pair.join = .none ∧ u.shows fPAIR_ERR_cfg = 1 ∧
      u.shows fPAIR_STAT_link_up = 0 ∧ OnlyRegs [aPAIR_RX_CNT, aPAIR_STATE, aPAIR_STAT, aPAIR_ERR, aPAIR_IRQ_RAW] s u)) ∧
  (∀ (h : RecHdr) (s : State), s.on fPAIR_STAT_link_up = true → s.pair.seqRx = none → s.pairLink = 2 → s.pair.join ≠ .check →
    Runs (.synced h) s (fun u => u.shows fPAIR_STATE_link = 3 ∧ u.pair.join = .none ∧ u.pair.joinReq = false ∧ u.pair.since = s.now ∧
      u.shows fPAIR_IRQ_RAW_join = 1 ∧ OnlyRegs [aPAIR_RX_CNT, aPAIR_STATE, aPAIR_IRQ_RAW] s u)) ∧
  (∀ (h : RecHdr) (s : State), s.on fPAIR_STAT_link_up = true → s.pair.seqRx = none → s.role = 0 → s.pairLink = 3 →
    s.on fPAIR_CFG_tko_en = false →
    Runs (.quit h) s (fun u => u.shows fPAIR_STATE_link = 4 ∧ u.shows fPAIR_STAT_link_up = 0 ∧ u.shows fPAIR_IRQ_RAW_loss = 1 ∧
      u.pair.tent = [] ∧ u.pair.tko = s.pair.tko ∧ u.ports = s.ports)) ∧
  (∀ (h : RecHdr) (k : Fin 128) (step : Word) (run : Bool) (img outs : List Word) (s : State), s.on fPAIR_STAT_link_up = true →
    s.pair.seqRx = none → s.role = 0 → s.pairLink = 2 → s.pair.join = .copy → s.mirCtx k.val = true → s.pair.copied.contains k.val = false →
    img.length = 32 → outs.length = 8 → s.isRun 5 = true →
    Runs (.bulk h k step run img outs) s (fun u => u.memWords (cArea k.val + 0x380) 32 = img ∧ u.memWords (cArea k.val + 0x780) 8 = outs ∧
      Tab.find u.pair.applied k.val = some step ∧ u.pair.copied.contains k.val = true ∧ u.pair.runs.contains k.val = run ∧
      u.shows fPAIR_APPLIED_cnt = (s.get fPAIR_APPLIED_cnt + 1) % 2 ^ 32))


/-- SI_CHANGE: an enabled input without a fault shows its level after pol, at the end of a hold; a channel of an ESTOP evaluator in RUN that drops makes a
demand, counted and told to Sage. OFF_PULSE of a driven output starts a pulse and holds the inputs it feeds; an output that is low has
none. INPUT_TEST: a pass is noted, a failure latches the fault, counts and takes the value to 0. SI_FAULT_CLEAR clears a fault after a passed test,
refuses without one. READBACK_FAULT that the output's level lets the check find latches fault and cause and switches the output off; SO_FAULT_CLEAR clears a fault of an output whose read-back is low.
(No evaluator is in use but the one named.) -/
def Obligations.SafetyPins : Prop :=
  (∀ (i : Fin 24) (lvl : Bool) (s : State), s.isRun 4 = true → (∀ k : Fin 8, s.evType k.val = 0) →
    Runs (.siChange i lvl) s (fun u => u.now = (if s.on (fMSIO_SI_CFG_en i.val) then max s.now (s.si i.val).holdEnd else s.now) ∧
      (u.si i.val).lvl = lvl ∧
      u.bitAt aMSIO_SI_FILT i.val = (s.on (fMSIO_SI_CFG_en i.val) && !s.bitAt aMSIO_SI_FAULT i.val && (lvl != s.on (fMSIO_SI_CFG_pol i.val))) ∧
      OnlyRegs [aMSIO_SI_FILT] s u)) ∧
  (∀ (i : Fin 24) (lvl : Bool) (k : Fin 8) (s : State), s.isRun 4 = true → (∀ j : Fin 8, j ≠ k → s.evType j.val = 0) → s.evType k.val = 1 →
    s.evState k.val = 3 → (s.use (aMSIO_EV_SRC k.val)).fld 0 8 = i.val → lvl = s.on (fMSIO_SI_CFG_pol i.val) → s.tmr = [] →
    Runs (.siChange i lvl) s (fun u => u.shows (fMSIO_EV_STAT_state k.val) = 1 ∧
      u.shows (fMSIO_EV_STAT_dem_cnt k.val) =
        min (s.get (fMSIO_EV_STAT_dem_cnt k.val) + 1) (2 ^ (fMSIO_EV_STAT_dem_cnt k.val).w - 1) ∧
      u.sage.inbox = s.sage.inbox ++ [⟨5 + k.val, nOther k.val, false⟩] ∧ u.bitAt aMSIO_SI_FILT i.val = false)) ∧
  (∀ (j : Fin 16) (s : State), (s.so j.val).on = true → s.soWanted j.val = true →
    (s.on (fMSIO_SO_CFG_tp_en (s.soCfg j.val)) = true ∨ s.on (fMSIO_SO_CFG_mode (s.soCfg j.val)) = true) →
    Runs (.offPulse j) s (fun u => u.now = max s.now (s.so j.val).nextPulse ∧
      u.so j.val = { s.so j.val with nextPulse := u.now + s.soInt j.val, pulseAt := some u.now, pulseEnd := u.now + s.soPulse j.val } ∧
      (∀ i : Fin 24, s.siFed i.val j.val = true → (u.si i.val).holdEnd = u.now + 2 * s.soPulse j.val) ∧ OnlyRegs [] s u)) ∧
  (∀ (j : Fin 16) (s : State), (s.so j.val).on = false → Runs (.offPulse j) s (fun u => u = s)) ∧
  (∀ (i : Fin 24) (j : Fin 16) (t : Nat) (s : State), s.isRun 4 = true → s.siFed i.val j.val = true → (s.so j.val).pulseAt = some t →
    Runs (.inputTest i true) s (fun u => u.now = max s.now (t + s.soPulse j.val) ∧ u.si i.val = { s.si i.val with passed := true } ∧
      OnlyRegs [] s u)) ∧
  (∀ (i : Fin 24) (j : Fin 16) (t : Nat) (s : State), s.isRun 4 = true → s.siFed i.val j.val = true → (s.so j.val).pulseAt = some t →
    (∀ k : Fin 8, s.evType k.val = 0) →
    Runs (.inputTest i false) s (fun u => u.now = max s.now (t + s.soPulse j.val) ∧ u.si i.val = { s.si i.val with passed := false } ∧
      u.bitAt aMSIO_SI_FAULT i.val = true ∧ u.bitAt aMSIO_SI_FILT i.val = false ∧
      u.shows fMSIO_SI_FCNT_cnt = min (s.get fMSIO_SI_FCNT_cnt + 1) (2 ^ fMSIO_SI_FCNT_cnt.w - 1) ∧
      OnlyRegs [aMSIO_SI_FAULT, aMSIO_SI_FILT, aMSIO_SI_FCNT] s u)) ∧
  (∀ (r : Req) (i : Fin 24) (s : State), s.grants r aMSIO_SI_FAULT true = true → s.bitAt aMSIO_SI_FAULT i.val = true →
    (s.si i.val).passed = true → (∀ k : Fin 8, s.evType k.val = 0) →
    Runs (.siFaultClear r (BitVec.ofNat 32 (2 ^ i.val))) s (fun u => u.bitAt aMSIO_SI_FAULT i.val = false ∧
      u.bitAt aMSIO_SI_FILT i.val = (s.on (fMSIO_SI_CFG_en i.val) && ((s.si i.val).lvl != s.on (fMSIO_SI_CFG_pol i.val))) ∧
      OnlyRegs [aMSIO_SI_FAULT, aMSIO_SI_FILT] s u)) ∧
  (∀ (r : Req) (i : Fin 24) (s : State), s.grants r aMSIO_SI_FAULT true = true → s.bitAt aMSIO_SI_FAULT i.val = true →
    (s.si i.val).passed = false → (∀ k : Fin 8, s.evType k.val = 0) → s.tmr = [] →
    Runs (.siFaultClear r (BitVec.ofNat 32 (2 ^ i.val))) s (fun u => u.bitAt aMSIO_SI_FAULT i.val = true ∧
      u.shows ⟨0x400B001C, 16, 1⟩ = 1 ∧ OnlyRegs [0x400B001C, 0x400B0010] s u)) ∧
  (∀ (j : Fin 16) (on : Bool) (s : State), s.isRun 4 = true → (∀ k : Fin 8, s.evType k.val = 0) → s.faultShows j.val on = true →
    Runs (.readbackFault j on) s (fun u => u.bitAt aMSIO_SO_STAT (16 + j.val) = true ∧
      u.shows ⟨aMSIO_SO_FCAUSE, 2 * j.val + (if on then 0 else 1), 1⟩ = 1 ∧ u.shows ⟨0x400B0010, 6, 1⟩ = 1 ∧ (u.so j.val).on = false ∧
      OnlyRegs [aMSIO_SO_STAT, aMSIO_SO_FCAUSE, 0x400B0010] s u)) ∧
  (∀ (r : Req) (j : Fin 16) (mask : Word) (s : State), s.grants r aMSIO_SO_STAT true = true → mask.fld 16 16 = 2 ^ j.val →
    s.soFault j.val = true → (s.rd aMSIO_SO_FCAUSE).fld (2 * j.val) 1 = 0 →
    Runs (.soFaultClear r mask) s (fun u => u.bitAt aMSIO_SO_STAT (16 + j.val) = false ∧ u.shows ⟨aMSIO_SO_FCAUSE, 2 * j.val, 2⟩ = 0 ∧
      OnlyRegs [aMSIO_SO_STAT, aMSIO_SO_FCAUSE] s u))

/-- DISCREPANCY of an evaluator in RUN enters FAULT with cause DISC and tells Sage. SYNC_FAIL of a two-hand evaluator counts. EV_RESET takes an evaluator in
WAIT_RESET with a software reset to RUN; EV_FAULT_CLEAR takes one in FAULT with its channels low and no fault left to DEMAND, and is refused in another state. SAFE_COPY:
the first copy of a pair opens the window, the second with the same data accepts it, a wrong CRC is counted. PAIR_WINDOW counts a
miss; SM_TIMEOUT enters FAULT with cause TIMEOUT and tells Sage. SAFE_SEND places the next sequence number and the data in both controllers of the pair. REARM
leaves FAULT; in another state it does nothing. -/
def Obligations.SafetyLogic : Prop :=
  (∀ (k : Fin 8) (t : Nat) (s : State), s.isRun 4 = true → s.evType k.val ≠ 0 → s.evState k.val = 3 → (s.ev k.val).disc = some t →
    Runs (.discrepancy k) s (fun u => u.now = max s.now (t + near 1 1000 (s.get (fMSIO_EV_TIM_t_disc k.val)) * ms + 1) ∧
      u.shows (fMSIO_EV_STAT_state k.val) = 4 ∧ u.shows (fMSIO_EV_STAT_cause k.val) = 1 ∧
      u.sage.inbox = s.sage.inbox ++ [⟨5 + k.val, nOther k.val, false⟩] ∧ OnlyRegs [aMSIO_EV_STAT k.val, 0x400B0010] s u)) ∧
  (∀ (k : Fin 8) (t : Nat) (s : State), s.isRun 4 = true → s.evType k.val = 3 → s.evState k.val = 1 → (s.ev k.val).bothRel = true →
    (s.ev k.val).first = some t →
    Runs (.syncFail k) s (fun u => u.now = max s.now (t + near 50 500 (s.get (fMSIO_EV_TIM_t_sync k.val)) * ms + 1) ∧
      u.ev k.val = { s.ev k.val with first := none, bothRel := false } ∧
      u.shows (fMSIO_EV_STAT_sync_fail k.val) =
        min (s.get (fMSIO_EV_STAT_sync_fail k.val) + 1) (2 ^ (fMSIO_EV_STAT_sync_fail k.val).w - 1) ∧
      OnlyRegs [aMSIO_EV_STAT k.val] s u)) ∧
  (∀ (r : Req) (k : Fin 8) (mask : Fin 256) (s : State), s.grants r aMSIO_EV_CMD true = true → mask.val = 2 ^ k.val →
    (∀ j : Fin 8, j ≠ k → s.evType j.val = 0) → s.evType k.val = 1 → s.evState k.val = 2 → s.evChans k.val = [true, true] →
    s.get (fMSIO_EV_CFG_rst_src k.val) = 0xFE → (s.ev k.val).rst = false →
    Runs (.evReset r mask) s (fun u => u.shows (fMSIO_EV_STAT_state k.val) = 3 ∧ u.sage.inbox = s.sage.inbox ∧
      OnlyRegs [aMSIO_EV_STAT k.val, 0x400B0010] s u)) ∧
  (∀ (r : Req) (k : Fin 8) (mask : Fin 256) (s : State), s.grants r aMSIO_EV_CMD true = true → mask.val = 2 ^ k.val →
    (∀ j : Fin 8, j ≠ k → s.evType j.val = 0) → s.evType k.val = 1 → s.evState k.val = 4 → s.evChans k.val = [false, false] →
    s.evClean k.val = true → s.get (fMSIO_EV_CFG_rst_src k.val) = 0xFE → (s.ev k.val).rst = false →
    Runs (.evFaultClear r mask) s (fun u => u.shows (fMSIO_EV_STAT_state k.val) = 1 ∧ u.sage.inbox = s.sage.inbox ∧
      OnlyRegs [aMSIO_EV_STAT k.val, 0x400B0010] s u)) ∧
  (∀ (r : Req) (k : Fin 8) (mask : Fin 256) (s : State), s.grants r aMSIO_EV_CMD true = true → mask.val = 2 ^ k.val →
    (∀ j : Fin 8, j ≠ k → s.evType j.val = 0) → s.evType k.val = 1 → s.evState k.val = 1 → s.evChans k.val = [false, false] →
    s.get (fMSIO_EV_CFG_rst_src k.val) = 0xFE → (s.ev k.val).rst = false → s.tmr = [] →
    Runs (.evFaultClear r mask) s (fun u => u.shows (fMSIO_EV_STAT_state k.val) = 1 ∧ u.shows ⟨0x400B001C, 16, 1⟩ = 1 ∧
      OnlyRegs [0x400B001C, 0x400B0010] s u)) ∧
  (∀ (c : Fin 16) (netB : Bool) (bs : List Byte) (s : State), s.isRun 4 = true → (s.sm c.val).rx = [] → s.on (fMSIO_SM_CFG_en c.val) = true →
    s.on (fMSIO_SM_CFG_dir c.val) = false → s.smState c.val = 1 → bs.length = s.smLen c.val →
    s.smCrc c.val netB (bs.take (s.smLen c.val - 2)) =
      (bs.getD (s.smLen c.val - 2) 0).toNat * 256 + (bs.getD (s.smLen c.val - 1) 0).toNat →
    (s.sm c.val).hasAcc = false → (s.sm c.val).win = none →
    Runs (.safeCopy c netB bs) s (fun u =>
      u.sm c.val = { s.sm c.val with win := some ⟨s.now, (bs.getD (s.smLen c.val - 3) 0).toNat, bs.take (s.smLen c.val - 3), netB⟩ } ∧
      OnlyRegs [] s u)) ∧
  (∀ (c : Fin 16) (netB : Bool) (bs : List Byte) (w : SmWin) (s : State), s.isRun 4 = true → (s.sm c.val).rx = [] →
    s.on (fMSIO_SM_CFG_en c.val) = true → s.on (fMSIO_SM_CFG_dir c.val) = false → s.smState c.val = 1 → bs.length = s.smLen c.val →
    s.smCrc c.val netB (bs.take (s.smLen c.val - 2)) =
      (bs.getD (s.smLen c.val - 2) 0).toNat * 256 + (bs.getD (s.smLen c.val - 1) 0).toNat →
    (s.sm c.val).hasAcc = false → (s.sm c.val).win = some w → w.netB = !netB → w.seq = (bs.getD (s.smLen c.val - 3) 0).toNat →
    w.data = bs.take (s.smLen c.val - 3) → s.now ≤ w.at_ → (∀ k : Fin 8, s.evType k.val = 0) →
    Runs (.safeCopy c netB bs) s (fun u => u.shows (fMSIO_SM_STAT_state c.val) = 2 ∧ u.shows (fMSIO_SM_STAT_seq c.val) = w.seq ∧
      u.shows (fMSIO_SM_STAT_miss_run c.val) = 0 ∧ (u.sm c.val).win = none ∧ (u.sm c.val).hasAcc = true ∧ (u.sm c.val).lastAcc = s.now ∧
      u.rd (aMSIO_SM_BUF c.val 0) = BitVec.ofNat 32 ((bs.getD 0 0).toNat + (bs.getD 1 0).toNat * 256 + (bs.getD 2 0).toNat * 65536 +
        (bs.getD 3 0).toNat * 16777216))) ∧
  (∀ (c : Fin 16) (netB : Bool) (bs : List Byte) (s : State), s.isRun 4 = true → (s.sm c.val).rx = [] → s.on (fMSIO_SM_CFG_en c.val) = true →
    s.on (fMSIO_SM_CFG_dir c.val) = false → (s.smState c.val = 1 ∨ s.smState c.val = 2) → bs.length = s.smLen c.val →
    s.smCrc c.val netB (bs.take (s.smLen c.val - 2)) ≠
      (bs.getD (s.smLen c.val - 2) 0).toNat * 256 + (bs.getD (s.smLen c.val - 1) 0).toNat →
    Runs (.safeCopy c netB bs) s (fun u => u.msio = s.msio ∧
      u.shows (fMSIO_SM_CNT_bad c.val) = min (s.get (fMSIO_SM_CNT_bad c.val) + 1) (2 ^ (fMSIO_SM_CNT_bad c.val).w - 1) ∧
      OnlyRegs [aMSIO_SM_CNT c.val] s u)) ∧
  (∀ (c : Fin 16) (w : SmWin) (s : State), s.isRun 4 = true → (s.sm c.val).win = some w → s.tmr = [] →
    s.get (fMSIO_SM_STAT_miss_run c.val) < s.get (fMSIO_SM_CFG_n_miss c.val) →
    Runs (.pairWindow c) s (fun u => u.now = max s.now (w.at_ + near 1 1000 (s.get (fMSIO_SM_TIM_t_pair c.val)) * 100 * us + 1) ∧
      u.sm c.val = { s.sm c.val with win := none } ∧
      u.shows (fMSIO_SM_STAT_miss_run c.val) = min (s.get (fMSIO_SM_STAT_miss_run c.val) + 1) (2 ^ (fMSIO_SM_STAT_miss_run c.val).w - 1) ∧
      OnlyRegs [aMSIO_SM_STAT c.val] s u)) ∧
  (∀ (c : Fin 16) (s : State), s.isRun 4 = true → s.smState c.val = 2 → s.on (fMSIO_SM_CFG_dir c.val) = false → s.tmr = [] →
    (∀ k : Fin 8, s.evType k.val = 0) →
    Runs (.smTimeout c) s (fun u => u.now = max s.now ((s.sm c.val).lastAcc + s.smTo c.val + 1) ∧ u.shows (fMSIO_SM_STAT_state c.val) = 3 ∧
      u.shows (fMSIO_SM_STAT_cause c.val) = 1 ∧
      u.shows (fMSIO_SM_STAT_fcnt c.val) = min (s.get (fMSIO_SM_STAT_fcnt c.val) + 1) (2 ^ (fMSIO_SM_STAT_fcnt c.val).w - 1) ∧
      u.sage.inbox = s.sage.inbox ++ [⟨13, nOther (s.get (fMSIO_SM_CFG_pair c.val)), false⟩] ∧
      OnlyRegs [aMSIO_SM_STAT c.val, 0x400B0010] s u)) ∧
  (∀ (c : Fin 16) (p : Nat) (s : State), s.isRun 4 = true → s.sage.lost = false → s.on (fMSIO_SM_CFG_en c.val) = true →
    s.on (fMSIO_SM_CFG_dir c.val) = true → (s.smState c.val = 1 ∨ s.smState c.val = 2) → (s.sm c.val).txLast = none →
    s.on (fMSIO_SM_CFG_auto c.val) = false →
    s.get (fMSIO_SM_CFG_pair c.val) = p →
    s.mbPend (2 * p) (48 + c.val) = false → s.on (fCAN_MB_CFG_en (2 * p) (48 + c.val)) = true →
    s.on (fCAN_MB_CFG_dir (2 * p) (48 + c.val)) = true → (s.can (2 * p)).cur = none →
    s.mbPend (2 * p + 1) (48 + c.val) = false → s.on (fCAN_MB_CFG_en (2 * p + 1) (48 + c.val)) = true →
    s.on (fCAN_MB_CFG_dir (2 * p + 1) (48 + c.val)) = true → (s.can (2 * p + 1)).cur = none →
    Runs (.safeSend c) s (fun u => u.now = max s.now (s.sm c.val).txNext ∧
      u.shows (fMSIO_SM_STAT_seq c.val) = (s.get (fMSIO_SM_STAT_seq c.val) + 1) % 256 ∧
      (u.sm c.val).txNext = u.now + s.smTo c.val ∧ (u.sm c.val).txLast = some (s.smData c.val) ∧ (u.sm c.val).txBusy = 0 ∧
      u.mbPend (2 * p) (48 + c.val) = true ∧ u.mbPend (2 * p + 1) (48 + c.val) = true ∧
      u.mbWord (2 * p) (48 + c.val) 0 = s.rd (aMSIO_SM_BUF c.val 0) ∧ u.mbWord (2 * p + 1) (48 + c.val) 0 = s.rd (aMSIO_SM_BUF c.val 0))) ∧
  (∀ (r : Req) (c : Fin 16) (s : State), s.grants r (aMSIO_SM_CMD c.val) true = true → s.smState c.val = 3 →
    Runs (.rearm r c) s (fun u => u.shows (fMSIO_SM_STAT_state c.val) = 1 ∧ u.shows (fMSIO_SM_STAT_miss_run c.val) = 0 ∧
      u.sm c.val = { s.sm c.val with win := none, txBusy := 0, txNext := s.now } ∧ OnlyRegs [aMSIO_SM_STAT c.val] s u)) ∧
  (∀ (r : Req) (c : Fin 16) (s : State), s.grants r (aMSIO_SM_CMD c.val) true = true → s.smState c.val ≠ 3 →
    Runs (.rearm r c) s (fun u => u.msio = s.msio ∧ OnlyRegs [] s u))


/-- ADC_REQUEST enters the unit's normal queue, is counted and in flight; a full queue ends it with cause QFULL; outside RUN the
unit answers ABSENT and the value is missing, and without a credit the GIU sends nothing.
SEQUENCE_TRIGGER of the timer, SWTRIG and a SPREAD instant start a run that issues its one entry; a trigger while entries are left is counted as an overrun (a second one in one ADC clock too).
CONVERSION_START takes the oldest request to the free slice 0 with its hold 31.25 ns ahead; CONVERSION_COMPLETE shows result, kind OK and time.
LATE_ABORT ends the waiting urgent request. STREAM_AVERAGE shows the mean of the stream. ADC_RECORD_SEND sends the oldest record to
Basil. RESOLVER_SAMPLE enters two urgent requests of one group. -/
def Obligations.Acquisition : Prop :=
  (∀ (n : Fin 4) (j : Fin 20) (s : State), s.isRun 9 = true → s.interleaved n.val = false → (j.val % 2 = 1 → s.ainDiff n.val (j.val - 1) = false) →
    (∀ i : Fin 8, (s.run n.val i.val).heldAt = none) → (s.adc n.val).normQ.length < 16 → (s.warden 8).st = .run → s.onLink 8 9 < linkDepth 8 9 0 →
    Runs (.adcRequest n j) s (fun u => (u.adc n.val).normQ = (s.adc n.val).normQ ++ [{ j := j.val, src := 1, at_ := u.now, ep := (s.warden 8).epoch }] ∧
      u.shows (fADC_REQ_CNT_cnt n.val) = (s.get (fADC_REQ_CNT_cnt n.val) + 1) % 2 ^ 32 ∧
      u.shows (fADC_QSTAT_inflight n.val) = (s.get (fADC_QSTAT_inflight n.val) + 1) % 2 ^ 8 ∧
      u.shows (fADC_QSTAT_norm n.val) = (s.adc n.val).normQ.length + 1 ∧ OnlyRegs [aADC_REQ_CNT n.val, aADC_QSTAT n.val] s u)) ∧
  (∀ (n : Fin 4) (j : Fin 20) (s : State), s.isRun 9 = true → s.interleaved n.val = false → (j.val % 2 = 1 → s.ainDiff n.val (j.val - 1) = false) →
    (∀ i : Fin 8, (s.run n.val i.val).heldAt = none) → 16 ≤ (s.adc n.val).normQ.length → s.get (fADC_AIN_CFG_avg_k n.val j.val) = 0 →
    s.on (fADC_AIN_CFG_eng n.val j.val) = false → (s.warden 8).st = .run → s.onLink 8 9 < linkDepth 8 9 0 →
    Runs (.adcRequest n j) s (fun u => u.adcs = s.adcs ∧ u.rd (aADC_RES n.val j.val) = 0xD0000000 ∧
      u.shows (fADC_REQ_CNT_cnt n.val) = (s.get (fADC_REQ_CNT_cnt n.val) + 1) % 2 ^ 32 ∧
      u.shows (fADC_ABT_CNT_cnt n.val) = (s.get (fADC_ABT_CNT_cnt n.val) + 1) % 2 ^ 32 ∧
      u.shows (fADC_ABT_CAUSE_qfull n.val) = min (s.get (fADC_ABT_CAUSE_qfull n.val) + 1) (2 ^ 8 - 1) ∧
      u.giu.adc = Tab.ins s.giu.adc (20 * n.val + j.val) none)) ∧
  (∀ (n : Fin 4) (j : Fin 20) (s : State), s.isRun 9 = false → (s.warden 8).st = .run → s.onLink 8 9 < linkDepth 8 9 0 →
    Runs (.adcRequest n j) s (fun u => u.adcs = s.adcs ∧ u.shows (fFAB_ABSENT_CNT_cnt 9) = (s.get (fFAB_ABSENT_CNT_cnt 9) + 1) % 2 ^ 32 ∧
      u.giu.adc = Tab.ins s.giu.adc (20 * n.val + j.val) none ∧ OnlyRegs [aFAB_ABSENT_CNT 9] s u)) ∧
  (∀ (n : Fin 4) (j : Fin 20) (s : State), linkDepth 8 9 0 ≤ s.onLink 8 9 →
    Runs (.adcRequest n j) s (fun u => u.adcs = s.adcs ∧ u.giu.adc = s.giu.adc ∧ OnlyRegs [] s u)) ∧
  (∀ (n : Fin 4) (q : Fin 8) (e t : Nat) (s : State), s.isRun 9 = true → s.interleaved n.val = false → s.on (fADC_SEQ_CFG_en n.val q.val) = true →
    s.get (fADC_SEQ_CFG_trg n.val q.val) = 1 → s.on (fADC_SEQ_CFG_urg n.val q.val) = false → s.seqEntries n.val q.val = [e] → e < 20 →
    s.ainDiff n.val (e - 1) = false → (∀ i : Fin 8, (s.run n.val i.val).heldAt = none) → (s.run n.val q.val).left = [] →
    (s.run n.val q.val).nextTim = t → (s.run n.val q.val).startAt.any (fun a => a / adcClk == max s.now t / adcClk) = false →
    (s.adc n.val).normQ.length < 16 →
    Runs (.sequenceTrigger n q) s (fun u => u.now = max s.now t ∧
      (u.run n.val q.val).nextTim = max u.now t + 32 * near 40 16777215 (s.get (fADC_SEQ_TIM_per n.val q.val)) ∧
      u.shows (fADC_SEQ_STAT_runs n.val q.val) = (s.get (fADC_SEQ_STAT_runs n.val q.val) + 1) % 2 ^ 16 ∧
      (u.adc n.val).normQ = (s.adc n.val).normQ ++ [{ j := e, n := q.val, at_ := u.now, grp := (s.run n.val q.val).grp + 1 }] ∧ (u.run n.val q.val).wait = 1 ∧
      OnlyRegs [aADC_SEQ_STAT n.val q.val, aADC_REQ_CNT n.val, aADC_QSTAT n.val] s u)) ∧
  (∀ (r : Req) (n : Fin 4) (q : Fin 8) (mask : Fin 256) (e : Nat) (s : State), s.grants r (aADC_SWTRIG n.val) true = true → mask.val = 2 ^ q.val →
    s.isRun 9 = true → s.interleaved n.val = false → s.on (fADC_SEQ_CFG_en n.val q.val) = true →
    s.on (fADC_SEQ_CFG_urg n.val q.val) = false → s.seqEntries n.val q.val = [e] → e < 20 → s.ainDiff n.val (e - 1) = false →
    (∀ i : Fin 8, (s.run n.val i.val).heldAt = none) → (s.run n.val q.val).left = [] → (s.adc n.val).normQ.length < 16 →
    (s.run n.val q.val).startAt.any (fun a => a / adcClk == s.now / adcClk) = false →
    Runs (.swtrig r n mask) s (fun u => u.shows (fADC_SEQ_STAT_runs n.val q.val) = (s.get (fADC_SEQ_STAT_runs n.val q.val) + 1) % 2 ^ 16 ∧
      (u.adc n.val).normQ = (s.adc n.val).normQ ++ [{ j := e, n := q.val, at_ := s.now, grp := (s.run n.val q.val).grp + 1 }] ∧ (u.run n.val q.val).wait = 1 ∧
      OnlyRegs [aADC_SEQ_STAT n.val q.val, aADC_REQ_CNT n.val, aADC_QSTAT n.val] s u)) ∧
  (∀ (r : Req) (n : Fin 4) (q : Fin 8) (mask : Fin 256) (s : State), s.grants r (aADC_SWTRIG n.val) true = true → mask.val = 2 ^ q.val →
    s.isRun 9 = true → s.on (fADC_SEQ_CFG_en n.val q.val) = true → (∀ i : Fin 8, (s.run n.val i.val).heldAt = none) →
    (s.run n.val q.val).left ≠ [] → s.tmr = [] →
    Runs (.swtrig r n mask) s (fun u => u.adcs = s.adcs ∧ u.shows ⟨adcHdr n.val + 0x1C, 17, 1⟩ = 1 ∧
      u.shows (fADC_SEQ_STAT_ovr n.val q.val) = min (s.get (fADC_SEQ_STAT_ovr n.val q.val) + 1) (2 ^ 16 - 1) ∧
      OnlyRegs [aADC_SEQ_STAT n.val q.val, adcHdr n.val + 0x1C, adcHdr n.val + 0x10] s u)) ∧
  (∀ (n : Fin 4) (q : Fin 8) (e : Nat) (s : State), s.isRun 9 = true → s.interleaved n.val = false → s.on (fADC_SEQ_CFG_en n.val q.val) = true →
    0x80 ≤ s.get (fADC_SEQ_CFG_trg n.val q.val) → s.get (fADC_SEQ_CFG_trg n.val q.val) < 0xA0 →
    (s.run n.val q.val).spI + 1 < 2 ^ min 8 (s.get (fADC_SEQ_CFG_k_sp n.val q.val)) →
    s.on (fADC_SEQ_CFG_urg n.val q.val) = false → s.seqEntries n.val q.val = [e] → e < 20 → s.ainDiff n.val (e - 1) = false →
    (∀ i : Fin 8, (s.run n.val i.val).heldAt = none) → (s.run n.val q.val).left = [] → (s.adc n.val).normQ.length < 16 →
    (s.run n.val q.val).startAt.any (fun a => a / adcClk == max s.now (s.spreadTime n.val q.val ((s.run n.val q.val).spI + 1)) / adcClk) = false →
    Runs (.spreadRun n q false) s (fun u =>
      u.now = max s.now (s.spreadTime n.val q.val ((s.run n.val q.val).spI + 1)) ∧
      (u.run n.val q.val).spI = (s.run n.val q.val).spI + 1 ∧
      (u.adc n.val).normQ = (s.adc n.val).normQ ++
        [{ j := e, n := q.val, at_ := u.now, grp := (s.run n.val q.val).grp + 1,
           perEnd := some ((s.tbg (s.get (fADC_SEQ_CFG_trg n.val q.val) % 32)).b + 32 * s.get (fTBG_PERIOD_t (s.get (fADC_SEQ_CFG_trg n.val q.val) % 32))) }] ∧
      u.shows (fADC_SEQ_STAT_runs n.val q.val) = (s.get (fADC_SEQ_STAT_runs n.val q.val) + 1) % 2 ^ 16 ∧
      OnlyRegs [aADC_SEQ_STAT n.val q.val, aADC_REQ_CNT n.val, aADC_QSTAT n.val] s u)) ∧
  (∀ (n : Fin 4) (q : AdcReq) (s : State), s.isRun 9 = true → (∀ i : Fin 8, (s.run n.val i.val).heldAt = none) → (s.adc n.val).urgQ = [] →
    (s.adc n.val).normQ = [q] → (s.adc n.val).slices = [] → q.src = 1 → q.urg = false → q.pre = false →
    Runs (.conversionStart n) s (fun u => u.now = s.now ∧ u.slice n.val 0 = [{ req := q, hold := s.now + 400 }] ∧ (u.adc n.val).normQ = [] ∧
      u.shows (fADC_QSTAT_norm n.val) = 0 ∧ OnlyRegs [aADC_QSTAT n.val] s u)) ∧
  (∀ (n : Fin 4) (s : State), (∀ i : Fin 8, (s.run n.val i.val).heldAt = none) → (s.adc n.val).urgQ = [] → (s.adc n.val).normQ = [] →
    (s.adc n.val).slices = [] → Runs (.conversionStart n) s (fun u => u = s)) ∧
  (∀ (n sl : Fin 4) (raw : Int) (c : AdcConv) (s : State), s.isRun 9 = true → (∀ i : Fin 8, (s.run n.val i.val).heldAt = none) →
    s.slice n.val sl.val = [c] → c.req.src = 1 → c.req.j < 20 → c.req.avgOnly = false → c.req.pre = false →
    s.on (fADC_AIN_CFG_eng n.val c.req.j) = false → s.get (fADC_AIN_CFG_avg_k n.val c.req.j) = 0 →
    (∀ w : Fin 16, s.on (fADC_WC_CFG_en n.val w.val) = false) → s.takesReply 8 c.req.ep = true →
    Runs (.conversionComplete n sl raw) s (fun u => u.now = max s.now (c.hold + 1040) ∧ u.slice n.val sl.val = [] ∧
      u.shows (fADC_RES_kind n.val c.req.j) = 1 ∧ u.shows (fADC_RES_value n.val c.req.j) = lowBits 16 (s.adcCode n.val c.req.j raw) ∧
      u.rd (aADC_TS n.val c.req.j) = BitVec.ofNat 32 (lowTicks c.hold) ∧
      u.shows (fADC_RES_CNT_cnt n.val) = (s.get (fADC_RES_CNT_cnt n.val) + 1) % 2 ^ 32 ∧
      u.shows (fADC_QSTAT_inflight n.val) = s.get (fADC_QSTAT_inflight n.val) - 1 ∧
      u.giu.adc = Tab.ins s.giu.adc (20 * n.val + c.req.j) (some (BitVec.ofInt 32 (s.adcCode n.val c.req.j raw))) ∧
      OnlyRegs [aADC_RES n.val c.req.j, aADC_TS n.val c.req.j, aADC_RES_CNT n.val, aADC_QSTAT n.val] s u)) ∧
  (∀ (n : Fin 4) (q : AdcReq) (s : State), s.isRun 9 = true → (∀ i : Fin 8, (s.run n.val i.val).heldAt = none) → (s.adc n.val).urgQ = [q] →
    (s.adc n.val).normQ = [] → q.urg = true → q.src = 1 → q.j < 20 → q.avgOnly = false → s.on (fADC_AIN_CFG_eng n.val q.j) = false →
    s.get (fADC_AIN_CFG_avg_k n.val q.j) = 0 → s.takesReply 8 q.ep = true →
    Runs (.lateAbort n) s (fun u => u.now = max s.now (q.at_ + s.tLate n.val) ∧ (u.adc n.val).urgQ = [] ∧
      u.rd (aADC_RES n.val q.j) = 0xC8000000 ∧ u.shows (fADC_ABT_CNT_cnt n.val) = (s.get (fADC_ABT_CNT_cnt n.val) + 1) % 2 ^ 32 ∧
      u.shows (fADC_ABT_CAUSE_late n.val) = min (s.get (fADC_ABT_CAUSE_late n.val) + 1) (2 ^ 8 - 1) ∧
      u.giu.adc = Tab.ins s.giu.adc (20 * n.val + q.j) none)) ∧
  (∀ (n : Fin 4) (s : State), (s.adc n.val).urgQ = [] → (s.adc n.val).normQ = [] → Runs (.lateAbort n) s (fun u => u = s)) ∧
  (∀ (n : Fin 4) (sum : Int) (s : State), s.isRun 9 = true → s.interleaved n.val = true → s.get (fADC_CFG_s_in n.val) < 20 →
    s.now < (s.adc n.val).ilAt + 10 * ms → s.on (fADC_AIN_CFG_eng n.val (s.get (fADC_CFG_s_in n.val))) = false →
    (∀ w : Fin 16, s.on (fADC_WC_CFG_en n.val w.val) = false) →
    Runs (.streamAverage n sum) s (fun u => u.shows (fADC_AVG_kind n.val (s.get (fADC_CFG_s_in n.val))) = 1 ∧
      u.shows (fADC_AVG_value n.val (s.get (fADC_CFG_s_in n.val))) =
        lowBits 24 (clampI (-8388608) 8388607 (sum / (2 ^ near 3 8 (s.get (fADC_CFG_s_k n.val)) : Nat))) ∧
      OnlyRegs [aADC_AVG n.val (s.get (fADC_CFG_s_in n.val))] s u)) ∧
  (∀ (n : Fin 4) (sum : Int) (s : State), s.interleaved n.val = false → Runs (.streamAverage n sum) s (fun u => u = s)) ∧
  (∀ (n : Fin 4) (x : AdcRec) (s : State), s.isRun 9 = true → (s.adc n.val).recs = [x] → s.basil.rx = [] →
    Runs (.adcRecordSend n) s (fun u => (u.adc n.val).recs = [] ∧ OnlyRegs [] s u ∧
      u.basil.rx = [⟨1, 20 * n.val + x.j, if x.avg then 1 else 0, BitVec.ofInt 32 x.v, x.bad, none, x.due⟩])) ∧
  (∀ (n : Fin 4) (ch : Fin 2) (s : State), s.isRun 9 = true → s.on (fADC_RES_CFG_en n.val ch.val) = true → s.interleaved n.val = false →
    s.get (fADC_RES_CFG_j_s n.val ch.val) < 20 → s.get (fADC_RES_CFG_j_c n.val ch.val) < 20 →
    s.ainDiff n.val (s.get (fADC_RES_CFG_j_s n.val ch.val) - 1) = false → s.ainDiff n.val (s.get (fADC_RES_CFG_j_c n.val ch.val) - 1) = false →
    (∀ i : Fin 8, (s.run n.val i.val).heldAt = none) → (s.adc n.val).urgQ = [] →
    Runs (.resolverSample n ch false) s (fun u =>
      (u.adc n.val).urgQ = [{ j := s.get (fADC_RES_CFG_j_s n.val ch.val), src := 2, n := ch.val, urg := true, at_ := s.now },
        { j := s.get (fADC_RES_CFG_j_c n.val ch.val), src := 2, n := ch.val, urg := true, cos := true, par := true, at_ := s.now }] ∧
      (u.rsv n.val ch.val).got = [] ∧ (u.rsv n.val ch.val).n = 0 ∧ u.shows (fADC_QSTAT_urg n.val) = 2 ∧
      OnlyRegs [aADC_REQ_CNT n.val, aADC_QSTAT n.val] s u))


/-- ENCODER_EDGE of a quadrature channel counts one changed input, one up or down, with direction and time; both inputs changed is an error that does not count.
A Hall code that follows in the sequence counts one. INDEX_EVENT latches the counter, counts and, in EVERY mode, loads it; on a channel that is off nothing
happens. FB_ARM arms, FB_CLR clears the flags, FB_PRESET loads the counter. RESOLVER_ENVELOPE with loss of signal raises los and counts it; the
first good one starts the loop at its angle. RESOLVER_STALE marks the channel after three excitation periods. EMULATION_EDGE makes one count of the
backlog an edge. (No emulation output follows the channel where the counter changes.) -/
def Obligations.Feedback : Prop :=
  (∀ (c : Fin 16) (a b z : Bool) (t : Nat) (s : State), s.isRun 10 = true → s.get (fFB_CFG_mode c.val) = 1 → (s.fb c.val).prevEdge = none →
    a ≠ (s.fb c.val).a → b = (s.fb c.val).b → z = (s.fb c.val).z → (∀ e : Fin 4, s.get (fFB_EMU_CFG_src e.val) ≠ c.val) →
    Runs (.encoderEdge c a b z t) s (fun u => u.now = max s.now t ∧ (u.fb c.val).a = a ∧
      u.shows (fFB_POS_pos c.val) = lowBits 32 (sext 32 (s.get (fFB_POS_pos c.val)) +
        (if ((a != b) != s.on (fFB_CFG_swap c.val)) then 1 else -1)) ∧
      u.shows (fFB_STAT_dir c.val) = (if ((a != b) != s.on (fFB_CFG_swap c.val)) then 0 else 1) ∧
      u.rd (aFB_EDGE_TIME c.val) = BitVec.ofNat 32 (lowTicks t) ∧ OnlyRegs [aFB_POS c.val, aFB_STAT c.val, aFB_EDGE_TIME c.val] s u)) ∧
  (∀ (c : Fin 16) (a b z : Bool) (t : Nat) (s : State), s.isRun 10 = true → s.get (fFB_CFG_mode c.val) = 1 → a ≠ (s.fb c.val).a →
    b ≠ (s.fb c.val).b → z = (s.fb c.val).z → s.tmr = [] →
    Runs (.encoderEdge c a b z t) s (fun u => u.shows (fFB_STAT_qerr c.val) = 1 ∧ u.shows ⟨0x4008001C, 16, 1⟩ = 1 ∧
      u.shows ⟨0x40080010, 5, 1⟩ = 1 ∧
      u.shows (fFB_STAT_qerr_cnt c.val) = min (s.get (fFB_STAT_qerr_cnt c.val) + 1) (2 ^ 8 - 1) ∧ u.rd (aFB_POS c.val) = s.rd (aFB_POS c.val))) ∧
  (∀ (c : Fin 16) (a b z : Bool) (t p : Nat) (s : State), s.isRun 10 = true → s.get (fFB_CFG_mode c.val) = 3 → (s.fb c.val).prevEdge = none →
    hallPlace (hallCode (s.fb c.val).a (s.fb c.val).b (s.fb c.val).z) = some p → hallPlace (hallCode a b z) = some ((p + 1) % 6) →
    (∀ e : Fin 4, s.get (fFB_EMU_CFG_src e.val) ≠ c.val) →
    Runs (.encoderEdge c a b z t) s (fun u => u.now = max s.now t ∧ u.shows (fFB_STAT_hall c.val) = hallCode a b z ∧
      u.shows (fFB_POS_pos c.val) = lowBits 32 (sext 32 (s.get (fFB_POS_pos c.val)) + (if s.on (fFB_CFG_swap c.val) then -1 else 1)) ∧
      OnlyRegs [aFB_POS c.val, aFB_STAT c.val, aFB_EDGE_TIME c.val] s u)) ∧
  (∀ (c : Fin 16) (s : State), s.isRun 10 = true → s.get (fFB_CFG_mode c.val) = 1 → s.get (fFB_CFG_idx_mode c.val) = 1 →
    (∀ e : Fin 4, s.get (fFB_EMU_CFG_src e.val) ≠ c.val) →
    Runs (.indexEvent c) s (fun u => u.rd (aFB_IDX_LATCH c.val) = s.rd (aFB_POS c.val) ∧
      u.shows (fFB_STAT_idx_cnt c.val) = (s.get (fFB_STAT_idx_cnt c.val) + 1) % 2 ^ 8 ∧
      u.shows (fFB_POS_pos c.val) = s.get (fFB_IDX_VAL_val c.val) ∧ u.shows ⟨0x40080010, 4, 1⟩ = 1 ∧
      OnlyRegs [aFB_POS c.val, aFB_STAT c.val, aFB_IDX_LATCH c.val, 0x40080010] s u)) ∧
  (∀ (c : Fin 16) (s : State), s.get (fFB_CFG_mode c.val) = 0 → Runs (.indexEvent c) s (fun u => u = s)) ∧
  (∀ (r : Req) (c : Fin 16) (s : State), s.grants r (aFB_CMD c.val) true = true →
    Runs (.fbArm r c) s (fun u => u.shows (fFB_STAT_armed c.val) = 1 ∧ u.fb c.val = { s.fb c.val with armAt := some s.now } ∧
      OnlyRegs [aFB_STAT c.val] s u)) ∧
  (∀ (r : Req) (c : Fin 16) (s : State), s.grants r (aFB_CMD c.val) true = true →
    Runs (.fbClr r c) s (fun u => u.shows (fFB_STAT_qerr c.val) = 0 ∧ u.shows (fFB_STAT_hall_err c.val) = 0 ∧
      u.shows (fFB_STAT_idx_done c.val) = 0 ∧ u.shows (fFB_STAT_armed c.val) = s.shows (fFB_STAT_armed c.val) ∧ u.fbs = s.fbs ∧
      OnlyRegs [aFB_STAT c.val] s u)) ∧
  (∀ (r : Req) (c : Fin 16) (s : State), s.grants r (aFB_CMD c.val) true = true → (∀ e : Fin 4, s.get (fFB_EMU_CFG_src e.val) ≠ c.val) →
    Runs (.fbPreset r c) s (fun u => u.shows (fFB_POS_pos c.val) = s.get (fFB_IDX_VAL_val c.val) ∧ u.fbs = s.fbs ∧
      OnlyRegs [aFB_POS c.val] s u)) ∧
  (∀ (n : Fin 8) (sn cs : Int) (t : Nat) (s : State), s.isRun 10 = true → (s.res n.val).rx = none → s.on (fFB_RES_CFG_en n.val) = true →
    s.on (fFB_RES_STAT_los n.val) = false → s.tmr = [] →
    Runs (.resolverEnvelope n sn cs true t) s (fun u => u.now = max s.now t ∧ u.shows (fFB_RES_STAT_los n.val) = 1 ∧
      u.shows (fFB_RES_STAT_los_cnt n.val) = min (s.get (fFB_RES_STAT_los_cnt n.val) + 1) (2 ^ 16 - 1) ∧
      u.shows (fFB_RES_STAT_stale n.val) = 0 ∧ u.shows ⟨0x4008001C, 17, 1⟩ = 1 ∧ (u.res n.val).arrAt = some u.now ∧
      (u.res n.val).envAt = t ∧ OnlyRegs [aFB_RES_STAT n.val, 0x4008001C, 0x40080010] s u)) ∧
  (∀ (n : Fin 8) (sn cs : Int) (t : Nat) (s : State), s.isRun 10 = true → (s.res n.val).rx = none → s.on (fFB_RES_CFG_en n.val) = true →
    (s.res n.val).started = false → s.on (fFB_RES_CFG_swap n.val) = false → (∀ e : Fin 4, s.get (fFB_EMU_CFG_src e.val) ≠ 16 + n.val) →
    Runs (.resolverEnvelope n sn cs false t) s (fun u => (u.res n.val).started = true ∧
      (u.res n.val).phi = Config.atan232 (F32.ofInt sn) (F32.ofInt cs) ∧ (u.res n.val).omega = 0 ∧ (u.res n.val).turns = 0 ∧
      u.shows (fFB_RES_POS_pos n.val) = lowBits 32 (F32.toInt (F32.mul (u.res n.val).phi countScale)) ∧
      u.rd (aFB_RES_SPD n.val) = F32.mul 0 countScale ∧ u.shows (fFB_RES_STAT_los n.val) = 0 ∧ u.shows (fFB_RES_STAT_stale n.val) = 0 ∧
      OnlyRegs [aFB_RES_STAT n.val, aFB_RES_POS n.val, aFB_RES_SPD n.val] s u)) ∧
  (∀ (n : Fin 8) (t : Nat) (s : State), s.isRun 10 = true → s.on (fFB_RES_CFG_en n.val) = true → (s.res n.val).arrAt = some t →
    Runs (.resolverStale n) s (fun u => u.now = max s.now (t + s.exc3 n.val + 1) ∧ u.shows (fFB_RES_STAT_stale n.val) = 1 ∧
      OnlyRegs [aFB_RES_STAT n.val] s u)) ∧
  (∀ (n : Fin 8) (s : State), s.on (fFB_RES_CFG_en n.val) = false → Runs (.resolverStale n) s (fun u => u = s)) ∧
  (∀ (e : Fin 4) (s : State), s.on (fFB_EMU_CFG_en e.val) = true → 0 < sext 16 (s.get (fFB_EMU_BACKLOG_bl e.val)) →
    (s.emu e.val).lastEdge = none → s.on (fFB_EMU_CFG_swap e.val) = false →
    Runs (.emulationEdge e) s (fun u =>
      u.shows (fFB_EMU_POS_pos e.val) = lowBits 32 (sext 32 (s.get (fFB_EMU_POS_pos e.val)) + 1) ∧
      u.shows (fFB_EMU_BACKLOG_bl e.val) = s.get (fFB_EMU_BACKLOG_bl e.val) - 1 ∧ (u.emu e.val).a = (!(s.emu e.val).b) ∧
      (u.emu e.val).b = (s.emu e.val).a ∧ (u.emu e.val).lastEdge = some s.now ∧ OnlyRegs [aFB_EMU_POS e.val, aFB_EMU_BACKLOG e.val] s u)) ∧
  (∀ (e : Fin 4) (s : State), s.get (fFB_EMU_BACKLOG_bl e.val) = 0 → Runs (.emulationEdge e) s (fun u => u = s))


/-- MOVE of an axis that is not ready is refused; a ready one starts a motion of the steps left to its target, its first step 1 us ahead; at the target it ends
at once. RUN and HOME, forward and backward, start their motion towards an inactive limit; an active one refuses. AXIS_STOP ends a motion not above
v_stop, brakes a faster one and is refused on an idle axis; AXIS_HALT ends the motion at once. CHOP_FAULT_CLEAR clears the fault or is refused, as the cause
has it. RAMP_WRITE on an idle axis is stored, on a braking one refused. (STEP mode: the chopper does not act.) -/
def Obligations.AxisCommands : Prop :=
  (∀ (r : Req) (k : Fin 8) (s : State), s.grants r (aAX_CMD k.val) true = true → s.axReady k.val = false →
    Runs (.moveAxis r k) s (fun u => u.shows (fAX_STAT_cmd_ref k.val) = 1 ∧ u.shows ⟨aAX_IRQ_RAW k.val, 3, 1⟩ = 1 ∧ u.amu = s.amu ∧
      OnlyRegs [aAX_STAT k.val, aAX_IRQ_RAW k.val] s u)) ∧
  (∀ (r : Req) (k : Fin 8) (n : Nat) (s : State), s.grants r (aAX_CMD k.val) true = true → s.axReady k.val = true →
    s.get (fAX_CFG_mode k.val) = 1 → s.on (fAX_STAT_limp k.val) = false → (s.rd (aAX_TARGET k.val)).toInt = s.axPos k.val + n → 0 < n →
    s.tmr = [] →
    Runs (.moveAxis r k) s (fun u => u.shows (fAX_STAT_kind k.val) = 1 ∧ u.shows (fAX_STAT_dir k.val) = 0 ∧ u.shows (fAX_STAT_done k.val) = 0 ∧
      u.shows (fAX_STAT_cmd_ref k.val) = 0 ∧ 1 ≤ u.shows (fAX_STAT_seg k.val) ∧ u.rd (aAX_LEFT k.val) = BitVec.ofNat 32 n ∧
      (u.ax k.val).target = s.axPos k.val + n ∧ (u.ax k.val).nextAt = s.now + us ∧
      (u.ax k.val).v2 = Machine.sq (F32.min (s.rd (aAX_VSTART k.val)) (s.rd (aAX_VMAX k.val))) ∧
      u.rd (aAX_SPEED k.val) = F32.sqrt (u.ax k.val).v2 ∧ OnlyRegs [aAX_STAT k.val, aAX_LEFT k.val, aAX_SPEED k.val] s u)) ∧
  (∀ (r : Req) (k : Fin 8) (s : State), s.grants r (aAX_CMD k.val) true = true → s.axReady k.val = true →
    s.get (fAX_CFG_mode k.val) = 1 → (s.rd (aAX_TARGET k.val)).toInt = s.axPos k.val → s.tmr = [] →
    Runs (.moveAxis r k) s (fun u => u.shows (fAX_STAT_done k.val) = 1 ∧ u.shows (fAX_STAT_seg k.val) = 0 ∧ u.shows (fAX_STAT_kind k.val) = 0 ∧
      u.rd (aAX_LEFT k.val) = 0 ∧ u.rd (aAX_SPEED k.val) = 0 ∧ u.rd (aAX_POS k.val) = s.rd (aAX_POS k.val) ∧
      u.shows ⟨aAX_IRQ_RAW k.val, 0, 1⟩ = 1)) ∧
  (∀ (r : Req) (k : Fin 8) (s : State), s.grants r (aAX_CMD k.val) true = true → s.axReady k.val = true →
    s.get (fAX_CFG_mode k.val) = 1 → s.on (fAX_STAT_limp k.val) = false → s.tmr = [] →
    Runs (.runForward r k) s (fun u => u.shows (fAX_STAT_kind k.val) = 2 ∧ u.shows (fAX_STAT_dir k.val) = 0 ∧ 1 ≤ u.shows (fAX_STAT_seg k.val) ∧
      u.rd (aAX_LEFT k.val) = 0 ∧ (u.ax k.val).nextAt = s.now + us ∧ OnlyRegs [aAX_STAT k.val, aAX_LEFT k.val, aAX_SPEED k.val] s u)) ∧
  (∀ (r : Req) (k : Fin 8) (s : State), s.grants r (aAX_CMD k.val) true = true → s.axReady k.val = true →
    s.get (fAX_CFG_mode k.val) = 1 → s.on (fAX_STAT_limn k.val) = false → s.tmr = [] →
    Runs (.runBackward r k) s (fun u => u.shows (fAX_STAT_kind k.val) = 2 ∧ u.shows (fAX_STAT_dir k.val) = 1 ∧ 1 ≤ u.shows (fAX_STAT_seg k.val) ∧
      u.rd (aAX_LEFT k.val) = 0 ∧ (u.ax k.val).nextAt = s.now + us ∧ OnlyRegs [aAX_STAT k.val, aAX_LEFT k.val, aAX_SPEED k.val] s u)) ∧
  (∀ (r : Req) (k : Fin 8) (s : State), s.grants r (aAX_CMD k.val) true = true → s.on (fAX_STAT_limp k.val) = true →
    Runs (.runForward r k) s (fun u => u.shows (fAX_STAT_cmd_ref k.val) = 1 ∧ u.amu = s.amu ∧
      OnlyRegs [aAX_STAT k.val, aAX_IRQ_RAW k.val] s u)) ∧
  (∀ (r : Req) (k : Fin 8) (s : State), s.grants r (aAX_CMD k.val) true = true → s.axReady k.val = true →
    s.get (fAX_CFG_mode k.val) = 1 → s.on (fAX_STAT_limp k.val) = false → s.tmr = [] →
    Runs (.homeForward r k) s (fun u => u.shows (fAX_STAT_kind k.val) = 3 ∧ u.shows (fAX_STAT_dir k.val) = 0 ∧ 1 ≤ u.shows (fAX_STAT_seg k.val) ∧
      (u.ax k.val).vHome = s.rd (aAX_VHOME k.val) ∧ (u.ax k.val).homed = false ∧
      (u.ax k.val).v2 = Machine.sq (F32.min (s.rd (aAX_VSTART k.val)) (s.rd (aAX_VHOME k.val))) ∧ (u.ax k.val).nextAt = s.now + us ∧
      OnlyRegs [aAX_STAT k.val, aAX_LEFT k.val, aAX_SPEED k.val] s u)) ∧
  (∀ (r : Req) (k : Fin 8) (s : State), s.grants r (aAX_CMD k.val) true = true → s.axReady k.val = true →
    s.get (fAX_CFG_mode k.val) = 1 → s.on (fAX_STAT_limn k.val) = false → s.tmr = [] →
    Runs (.homeBackward r k) s (fun u => u.shows (fAX_STAT_kind k.val) = 3 ∧ u.shows (fAX_STAT_dir k.val) = 1 ∧ 1 ≤ u.shows (fAX_STAT_seg k.val) ∧
      (u.ax k.val).vHome = s.rd (aAX_VHOME k.val) ∧ (u.ax k.val).homed = false ∧
      (u.ax k.val).v2 = Machine.sq (F32.min (s.rd (aAX_VSTART k.val)) (s.rd (aAX_VHOME k.val))) ∧ (u.ax k.val).nextAt = s.now + us ∧
      OnlyRegs [aAX_STAT k.val, aAX_LEFT k.val, aAX_SPEED k.val] s u)) ∧
  (∀ (r : Req) (k : Fin 8) (s : State), s.grants r (aAX_CMD k.val) true = true → s.axMoves k.val = true → s.get (fAX_STAT_kind k.val) = 2 →
    F32.le (s.ax k.val).v2 (Machine.sq (s.rd (aAX_VSTOP k.val))) = true → (s.ax k.val).homed = false → s.tmr = [] →
    Runs (.axisStop r k) s (fun u => u.shows (fAX_STAT_seg k.val) = 0 ∧ u.shows (fAX_STAT_done k.val) = 1 ∧
      u.rd (aAX_SPEED k.val) = 0 ∧ u.rd (aAX_POS k.val) = s.rd (aAX_POS k.val) ∧ (u.ax k.val).idleSince = s.now)) ∧
  (∀ (r : Req) (k : Fin 8) (s : State), s.grants r (aAX_CMD k.val) true = true → s.axMoves k.val = true → s.get (fAX_STAT_kind k.val) = 2 →
    F32.le (s.ax k.val).v2 (Machine.sq (s.rd (aAX_VSTOP k.val))) = false → s.tmr = [] →
    Runs (.axisStop r k) s (fun u => u.ax k.val = { s.ax k.val with stopping := true, toTarget := false } ∧
      u.shows (fAX_STAT_seg k.val) = (if F32.lt (Machine.sq (s.rd (aAX_VBREAK k.val))) (s.ax k.val).v2 then 4 else 5) ∧
      u.shows (fAX_STAT_cmd_ref k.val) = 0 ∧ OnlyRegs [aAX_STAT k.val] s u)) ∧
  (∀ (r : Req) (k : Fin 8) (s : State), s.grants r (aAX_CMD k.val) true = true → s.axMoves k.val = false →
    Runs (.axisStop r k) s (fun u => u.shows (fAX_STAT_cmd_ref k.val) = 1 ∧ u.amu = s.amu ∧
      OnlyRegs [aAX_STAT k.val, aAX_IRQ_RAW k.val] s u)) ∧
  (∀ (r : Req) (k : Fin 8) (s : State), s.grants r (aAX_CMD k.val) true = true → s.axMoves k.val = true → (s.ax k.val).homed = false →
    s.tmr = [] →
    Runs (.axisHalt r k) s (fun u => u.shows (fAX_STAT_seg k.val) = 0 ∧ u.shows (fAX_STAT_kind k.val) = 0 ∧ u.shows (fAX_STAT_done k.val) = 1 ∧
      u.shows (fAX_STAT_cmd_ref k.val) = 0 ∧ u.rd (aAX_SPEED k.val) = 0 ∧ u.rd (aAX_LEFT k.val) = 0 ∧
      u.rd (aAX_POS k.val) = s.rd (aAX_POS k.val) ∧ (u.ax k.val).v2 = 0 ∧ (u.ax k.val).idleSince = s.now)) ∧
  (∀ (r : Req) (k : Fin 8) (s : State), s.grants r (aAX_CMD k.val) true = true → s.get (fAX_CFG_mode k.val) = 1 →
    Runs (.chopFaultClear r k) s (fun u => u.amu = s.amu ∧ u.free = s.free + 1 ∧
      ((u.shows (fAX_STAT_chop_fault k.val) = 0 ∧ u.shows (fAX_STAT_cmd_ref k.val) = 0) ∨
        (u.shows (fAX_STAT_chop_fault k.val) = s.shows (fAX_STAT_chop_fault k.val) ∧ u.shows (fAX_STAT_cmd_ref k.val) = 1)) ∧
      OnlyRegs [aAX_STAT k.val, aAX_IRQ_RAW k.val] s u)) ∧
  (∀ (r : Req) (k : Fin 8) (w : RampReg) (v : Word) (s : State), s.grants r (rampReg k.val w) true = true → s.axMoves k.val = false →
    Runs (.rampWrite r k w v) s (fun u => u.rd (rampReg k.val w) = v ∧ u.amu = s.amu)) ∧
  (∀ (r : Req) (k : Fin 8) (w : RampReg) (v : Word) (s : State), s.grants r (rampReg k.val w) true = true → s.axMoves k.val = true →
    (s.ax k.val).stopping = true →
    Runs (.rampWrite r k w v) s (fun u => u.shows (fAX_STAT_chg_ref k.val) = 1 ∧ u.shows ⟨aAX_IRQ_RAW k.val, 5, 1⟩ = 1 ∧ u.amu = s.amu ∧
      OnlyRegs [aAX_STAT k.val, aAX_IRQ_RAW k.val] s u))

/-- STEP_TIMER of a moving axis steps its position by one in its direction, starts a pulse and sets the next interval; the last step of a MOVE ends it; an idle axis does nothing. LIMIT
in the direction of motion stops the axis; an inactive level is shown. HOME_EDGE of a homing axis latches the position and brakes; a level without motion is
shown. CHOP_COMPARATOR above its threshold ends DRIVE, below it starts one. CHOP_FAULT after 200 us halts the axis with its bridges low, shown and counted.
HOLD_CURRENT of an idle axis takes the holding current after its time. -/
def Obligations.AxisEvents : Prop :=
  (∀ (k : Fin 8) (s : State), s.axMoves k.val = true → s.get (fAX_CFG_mode k.val) = 1 → s.get (fAX_STAT_kind k.val) = 2 →
    (s.ax k.val).stopping = false →
    Runs (.stepTimer k) s (fun u => u.now = max s.now (s.ax k.val).nextAt ∧
      u.shows (fAX_POS_pos k.val) = lowBits 32 (s.axPos k.val + (if s.on (fAX_STAT_dir k.val) then -1 else 1)) ∧
      (u.ax k.val).pulseEnd = u.now + s.get (fAX_CFG_pw k.val) * ns10 ∧
      (u.ax k.val).nextAt = u.now + s.axInterval k.val (F32.sqrt (s.ax k.val).v2) ∧
      (u.ax k.val).v2 = s.axNext k.val (s.axSeg k.val (s.ax k.val).v2 false) (s.ax k.val).v2 false ∧
      u.rd (aAX_SPEED k.val) = F32.sqrt (u.ax k.val).v2 ∧ OnlyRegs [aAX_POS k.val, aAX_SPEED k.val, aAX_STAT k.val] s u)) ∧
  (∀ (k : Fin 8) (s : State), s.axMoves k.val = true → s.get (fAX_CFG_mode k.val) = 1 → s.get (fAX_STAT_kind k.val) = 1 →
    s.get (fAX_LEFT_n k.val) = 1 → (s.ax k.val).homed = false → s.tmr = [] →
    Runs (.stepTimer k) s (fun u => u.now = max s.now (s.ax k.val).nextAt ∧
      u.shows (fAX_POS_pos k.val) = lowBits 32 (s.axPos k.val + (if s.on (fAX_STAT_dir k.val) then -1 else 1)) ∧
      u.shows (fAX_STAT_seg k.val) = 0 ∧ u.shows (fAX_STAT_done k.val) = 1 ∧ u.rd (aAX_LEFT k.val) = 0 ∧ u.rd (aAX_SPEED k.val) = 0 ∧
      u.shows ⟨aAX_IRQ_RAW k.val, 0, 1⟩ = 1)) ∧
  (∀ (k : Fin 8) (s : State), s.axMoves k.val = false → Runs (.stepTimer k) s (fun u => u = s)) ∧
  (∀ (k : Fin 8) (s : State), s.isRun 11 = true → s.axMoves k.val = true → s.get (fAX_STAT_kind k.val) = 2 →
    s.on (fAX_STAT_dir k.val) = false → (s.ax k.val).homed = false → s.on (fAX_CFG_lim_mode k.val) = false → s.tmr = [] →
    Runs (.limit k true (s.on (fAX_CFG_lim_pol k.val))) s (fun u => u.shows (fAX_STAT_limp k.val) = 1 ∧ u.shows (fAX_STAT_lim_stop k.val) = 1 ∧
      u.shows (fAX_STAT_seg k.val) = 0 ∧ u.shows (fAX_STAT_done k.val) = 1 ∧ u.shows ⟨aAX_IRQ_RAW k.val, 1, 1⟩ = 1 ∧
      u.rd (aAX_POS k.val) = s.rd (aAX_POS k.val))) ∧
  (∀ (k : Fin 8) (pos lvl : Bool) (s : State), s.isRun 11 = true → s.axMoves k.val = false → lvl ≠ s.on (fAX_CFG_lim_pol k.val) →
    Runs (.limit k pos lvl) s (fun u => u.shows (if pos then fAX_STAT_limp k.val else fAX_STAT_limn k.val) = 0 ∧ u.amu = s.amu ∧
      OnlyRegs [aAX_STAT k.val] s u)) ∧
  (∀ (k : Fin 8) (lvl : Bool) (s : State), s.isRun 11 = true → s.axMoves k.val = true → s.get (fAX_STAT_kind k.val) = 3 →
    lvl ≠ s.on (fAX_CFG_home_pol k.val) → s.on (fAX_STAT_home k.val) = false → (s.ax k.val).homed = false → (s.ax k.val).byLim = false →
    F32.le (s.ax k.val).v2 (Machine.sq (s.rd (aAX_VSTOP k.val))) = false → s.tmr = [] →
    Runs (.homeEdge k lvl) s (fun u => u.shows (fAX_STAT_home k.val) = 1 ∧ u.rd (aAX_HOME_POS k.val) = s.rd (aAX_POS k.val) ∧
      (u.ax k.val).homed = true ∧ (u.ax k.val).homeAt = s.now ∧ (u.ax k.val).stopping = true ∧
      u.shows (fAX_STAT_seg k.val) = (if F32.lt (Machine.sq (s.rd (aAX_VBREAK k.val))) (s.ax k.val).v2 then 4 else 5) ∧
      u.shows ⟨aAX_IRQ_RAW k.val, 2, 1⟩ = 1 ∧ OnlyRegs [aAX_STAT k.val, aAX_HOME_POS k.val, aAX_IRQ_RAW k.val] s u)) ∧
  (∀ (k : Fin 8) (lvl : Bool) (s : State), s.isRun 11 = true → s.axMoves k.val = false →
    Runs (.homeEdge k lvl) s (fun u => u.shows (fAX_STAT_home k.val) = (if lvl = s.on (fAX_CFG_home_pol k.val) then 0 else 1) ∧ u.amu = s.amu ∧
      OnlyRegs [aAX_STAT k.val] s u)) ∧
  (∀ (k : Fin 8) (b : Bool) (s : State), s.chopOn k.val = true → (s.axPh k.val b).sgn ≠ 0 → (s.axPh k.val b).drive = true →
    s.get (fAX_CHOP_TIM_t_blank k.val) * ns10 ≤ s.now - (s.axPh k.val b).since →
    Runs (.chopComparator k b true) s (fun u => u.axPh k.val b = ⟨false, s.now, (s.now - (s.axPh k.val b).since) / ns10, (s.axPh k.val b).sgn⟩ ∧
      OnlyRegs [] s u)) ∧
  (∀ (k : Fin 8) (b : Bool) (s : State), s.chopOn k.val = true → (s.axPh k.val b).sgn ≠ 0 → (s.axPh k.val b).drive = false →
    s.on (fAX_CHOP_CFG_adapt k.val) = false → s.get (fAX_CHOP_TIM_t_blank k.val) * ns10 ≤ s.now - (s.axPh k.val b).since →
    Runs (.chopComparator k b false) s (fun u => u.axPh k.val b = { s.axPh k.val b with drive := true, since := s.now } ∧
      u.shows (fOfs k.val b) = 0 ∧ OnlyRegs [aAX_CHOP_STAT k.val] s u)) ∧
  (∀ (k : Fin 8) (b above : Bool) (s : State), s.chopOn k.val = false → Runs (.chopComparator k b above) s (fun u => u = s)) ∧
  (∀ (k : Fin 8) (t : Nat) (s : State), s.chopOn k.val = true → s.longDrive k.val = some t → s.tmr = [] →
    Runs (.chopFault k) s (fun u => u.now = max s.now (t + 200 * us + 1) ∧ u.shows (fAX_STAT_chop_fault k.val) = 1 ∧
      u.shows (fAX_CHOP_FCNT_cnt k.val) = min (s.get (fAX_CHOP_FCNT_cnt k.val) + 1) (2 ^ 32 - 1) ∧ u.shows (fAX_STAT_seg k.val) = 0 ∧
      (u.ax k.val).phA = {} ∧ (u.ax k.val).phB = {} ∧ u.shows ⟨aAX_IRQ_RAW k.val, 4, 1⟩ = 1)) ∧
  (∀ (k : Fin 8) (s : State), s.chopOn k.val = false → Runs (.chopFault k) s (fun u => u = s)) ∧
  (∀ (k : Fin 8) (s : State), s.get (fAX_CFG_mode k.val) = 2 → s.axMoves k.val = false → s.get (fAX_CHOP_TIM_t_hold_cur k.val) ≠ 0 →
    (s.ax k.val).hold = false →
    Runs (.holdCurrent k) s (fun u => u.now = max s.now ((s.ax k.val).idleSince + s.get (fAX_CHOP_TIM_t_hold_cur k.val) * ms) ∧
      (u.ax k.val).hold = true ∧ OnlyRegs [aAX_CHOP_STAT k.val] s u)) ∧
  (∀ (k : Fin 8) (s : State), s.get (fAX_CFG_mode k.val) ≠ 2 → Runs (.holdCurrent k) s (fun u => u = s))


/-- FRAME_RECEIVED of a classic data frame goes to the one receive buffer that matches, with identifier, data, time and counts, or to the FIFO; outside bus
traffic nothing is received. FRAME_TRANSMITTED ends the request on the bus. BUS_ERROR as receiver raises the receive error counter, an acknowledge error as
transmitter the transmit error counter by 8 (the counters' rules: log entry 32), and the request stays pending. INTEGRATION and BUS_OFF_RECOVERY reach error active. TX_REQUEST makes the
buffer pending, on an idle bus it goes out; a pending one is refused. TX_ABORT ends a waiting request at once and marks one on the bus. RECOVER is
accepted in bus-off alone. POP drops the oldest FIFO entry. ARBITRATION_LOSS ends the attempt and keeps the request. -/
def Obligations.CanController : Prop :=
  (∀ (c : Fin 4) (f : CanFrame) (sof : Nat) (b : Fin 64) (s : State), s.canHears c.val = true → s.canMode c.val = 1 → s.canE c.val = 0 →
    (s.can c.val).tec = 0 → (s.can c.val).rxe = 0 → f.fdf = false → Word.fld f.id 30 1 = 0 → f.dlc.val ≤ 8 → f.data.length = f.dlc.val →
    s.mbMatches c.val f.id = [b.val] → s.mbNew c.val b.val = false → s.mbOwned c.val b.val = false →
    Runs (.frameReceived c f sof) s (fun u => u.now = max s.now sof ∧ u.mbNew c.val b.val = true ∧ u.rd (aCAN_MB_RXID c.val b.val) = f.id ∧
      u.rd (aCAN_MB_TS c.val b.val) = canTs sof ∧ u.mbBytes c.val b.val f.dlc.val = f.data ∧
      u.shows (fCAN_RX_OK_cnt c.val) = (s.get (fCAN_RX_OK_cnt c.val) + 1) % 2 ^ 32 ∧
      u.shows (fCAN_RX_STORE_cnt c.val) = (s.get (fCAN_RX_STORE_cnt c.val) + 1) % 2 ^ 32 ∧ u.shows ⟨canHdr c.val + 0x10, 4, 1⟩ = 1 ∧
      OnlyRegs [aCAN_PSTAT c.val, aCAN_RX_OK c.val, aCAN_RX_STORE c.val, aCAN_NEW c.val (b.val / 32), aCAN_MB_STAT c.val b.val,
        aCAN_MB_RXID c.val b.val, aCAN_MB_TS c.val b.val, canHdr c.val + 0x10] s u)) ∧
  (∀ (c : Fin 4) (f : CanFrame) (sof : Nat) (s : State), s.canHears c.val = true → s.canMode c.val = 1 → s.canE c.val = 0 →
    (s.can c.val).tec = 0 → (s.can c.val).rxe = 0 → f.fdf = false → Word.fld f.id 30 1 = 0 → f.dlc.val ≤ 8 → f.data.length = f.dlc.val →
    s.mbMatches c.val f.id = [] → idMatch f.id (s.rd (aCAN_FIFO_FID c.val)) (s.rd (aCAN_FIFO_FMASK c.val)) = true →
    (s.can c.val).fifo.length < 32 →
    Runs (.frameReceived c f sof) s (fun u => (u.can c.val).fifo = (s.can c.val).fifo ++
        [⟨f.id, frameInfo f.dlc.val false f.brs f.esi, canTs sof, bytesWords f.data⟩] ∧
      u.shows (fCAN_FIFO_STAT_fill c.val) = (s.can c.val).fifo.length + 1 ∧
      u.shows (fCAN_RX_STORE_cnt c.val) = (s.get (fCAN_RX_STORE_cnt c.val) + 1) % 2 ^ 32)) ∧
  (∀ (c : Fin 4) (f : CanFrame) (sof : Nat) (s : State), s.canHears c.val = false → f.data.length ≤ 64 →
    Runs (.frameReceived c f sof) s (fun u => u = s)) ∧
  (∀ (c : Fin 4) (b : Fin 64) (sof : Nat) (s : State), (s.can c.val).cur = some b.val → s.canMode c.val = 1 → s.canE c.val = 0 →
    (s.can c.val).tec ≤ 1 → (s.can c.val).rxe = 0 → s.on (fCAN_TDC_en c.val) = false → s.tmr = [] →
    Runs (.frameTransmitted c sof) s (fun u => u.now = max s.now sof ∧ u.mbPend c.val b.val = false ∧ (u.can c.val).cur = none ∧
      (u.can c.val).busy = true ∧ (u.can c.val).tec = 0 ∧ u.rd (aCAN_MB_TS c.val b.val) = canTs sof ∧
      u.shows (fCAN_TX_OK_cnt c.val) = (s.get (fCAN_TX_OK_cnt c.val) + 1) % 2 ^ 32 ∧ u.shows ⟨canHdr c.val + 0x10, 7, 1⟩ = 1)) ∧
  (∀ (c : Fin 4) (sof : Nat) (s : State), s.onBus c.val = none → Runs (.frameTransmitted c sof) s (fun u => u = s)) ∧
  (∀ (c : Fin 4) (kind : CanErr) (recessive : Bool) (s : State), s.canHears c.val = true → s.canMode c.val = 1 → s.canE c.val = 0 →
    (s.can c.val).tec < 128 → (s.can c.val).rxe < 127 →
    Runs (.busError c kind recessive .rx) s (fun u => (u.can c.val).rxe = (s.can c.val).rxe + 1 ∧
      u.shows (fCAN_PSTAT_rec c.val) = (s.can c.val).rxe + 1 ∧ u.shows (fCAN_PSTAT_tec c.val) = (s.can c.val).tec ∧
      u.shows (errKind c.val kind) = min (s.get (errKind c.val kind) + 1) (2 ^ (errKind c.val kind).w - 1) ∧
      OnlyRegs [(errKind c.val kind).addr, aCAN_PSTAT c.val] s u)) ∧
  (∀ (c : Fin 4) (b : Fin 64) (recessive : Bool) (s : State), (s.can c.val).cur = some b.val → s.canE c.val = 0 → (s.can c.val).tec < 120 →
    (s.can c.val).rxe < 128 → (s.can c.val).abortReq = [] → s.on (fCAN_MB_CFG_oneshot c.val b.val) = false → s.tmr = [] →
    Runs (.busError c .ack recessive .txData) s (fun u => (u.can c.val).tec = (s.can c.val).tec + 8 ∧ (u.can c.val).cur = none ∧
      u.shows (fCAN_PSTAT_tec c.val) = (s.can c.val).tec + 8 ∧ u.mbPend c.val b.val = s.mbPend c.val b.val ∧
      u.shows (fCAN_ECNT_ack c.val) = min (s.get (fCAN_ECNT_ack c.val) + 1) (2 ^ (fCAN_ECNT_ack c.val).w - 1))) ∧
  (∀ (c : Fin 4) (s : State), s.canMode c.val ≠ 0 → s.canE c.val = 3 → (s.can c.val).recov = false → (s.can c.val).tec = 0 →
    (s.can c.val).rxe = 0 → s.mbPending c.val = [] → s.tmr = [] →
    Runs (.integration c) s (fun u => u.shows (fCAN_PSTAT_estate c.val) = 0 ∧ u.cans = s.cans ∧ OnlyRegs [aCAN_PSTAT c.val] s u)) ∧
  (∀ (c : Fin 4) (s : State), s.canE c.val ≠ 3 → Runs (.integration c) s (fun u => u = s)) ∧
  (∀ (c : Fin 4) (s : State), (s.can c.val).recov = true → s.mbPending c.val = [] →
    Runs (.busOffRecovery c) s (fun u => u.can c.val = { s.can c.val with recov := false, tec := 0, rxe := 0 } ∧
      u.shows (fCAN_PSTAT_estate c.val) = 0 ∧ u.shows (fCAN_PSTAT_tec c.val) = 0 ∧ u.shows (fCAN_PSTAT_rec c.val) = 0 ∧
      OnlyRegs [aCAN_PSTAT c.val] s u)) ∧
  (∀ (c : Fin 4) (s : State), (s.can c.val).recov = false → Runs (.busOffRecovery c) s (fun u => u = s)) ∧
  (∀ (r : Req) (c : Fin 4) (b : Fin 64) (s : State), s.grants r (aCAN_MB_CMD c.val) true = true → s.mbOwned c.val b.val = false →
    s.mbPend c.val b.val = false → s.on (fCAN_MB_CFG_en c.val b.val) = true → s.on (fCAN_MB_CFG_dir c.val b.val) = true →
    (s.can c.val).busy = true →
    Runs (.txRequest r c b) s (fun u => u.mbPend c.val b.val = true ∧ u.cans = s.cans ∧
      u.shows (fCAN_TX_REQ_cnt c.val) = (s.get (fCAN_TX_REQ_cnt c.val) + 1) % 2 ^ 32 ∧
      OnlyRegs [aCAN_TXPEND c.val (b.val / 32), aCAN_TX_REQ c.val, aCAN_MB_STAT c.val b.val] s u)) ∧
  (∀ (r : Req) (c : Fin 4) (b : Fin 64) (s : State), s.grants r (aCAN_MB_CMD c.val) true = true → s.mbOwned c.val b.val = false →
    s.mbPending c.val = [] → s.on (fCAN_MB_CFG_en c.val b.val) = true → s.on (fCAN_MB_CFG_dir c.val b.val) = true →
    (s.can c.val).busy = false → (s.can c.val).cur = none → s.canSends c.val = true →
    Runs (.txRequest r c b) s (fun u => u.mbPend c.val b.val = true ∧ (u.can c.val).cur = some b.val ∧ (u.can c.val).busy = true ∧
      u.shows (fCAN_PSTAT_txing c.val) = 1)) ∧
  (∀ (r : Req) (c : Fin 4) (b : Fin 64) (s : State), s.grants r (aCAN_MB_CMD c.val) true = true → s.mbOwned c.val b.val = false →
    s.mbPend c.val b.val = true → s.tmr = [] →
    Runs (.txRequest r c b) s (fun u => u.cans = s.cans ∧ u.shows ⟨canHdr c.val + 0x1C, 19, 1⟩ = 1 ∧
      OnlyRegs [canHdr c.val + 0x1C, canHdr c.val + 0x10] s u)) ∧
  (∀ (r : Req) (c : Fin 4) (b : Fin 64) (s : State), s.grants r (aCAN_MB_CMD c.val) true = true → s.mbOwned c.val b.val = false →
    s.mbPend c.val b.val = true → (s.can c.val).cur ≠ some b.val →
    Runs (.txAbort r c b) s (fun u => u.mbPend c.val b.val = false ∧
      u.shows (fCAN_TX_ABT_cnt c.val) = (s.get (fCAN_TX_ABT_cnt c.val) + 1) % 2 ^ 32 ∧ u.shows ⟨canHdr c.val + 0x10, 8, 1⟩ = 1 ∧
      OnlyRegs [aCAN_TXPEND c.val (b.val / 32), aCAN_TX_ABT c.val, canHdr c.val + 0x10] s u)) ∧
  (∀ (r : Req) (c : Fin 4) (b : Fin 64) (s : State), s.grants r (aCAN_MB_CMD c.val) true = true → s.mbOwned c.val b.val = false →
    s.mbPend c.val b.val = true → (s.can c.val).cur = some b.val →
    Runs (.txAbort r c b) s (fun u => (u.can c.val).abortReq.contains b.val = true ∧ (u.can c.val).cur = some b.val ∧ OnlyRegs [] s u)) ∧
  (∀ (r : Req) (c : Fin 4) (s : State), s.grants r (aCAN_CMD c.val) true = true → s.canE c.val = 2 → Tab.find s.bnd (aCAN_MODE c.val) = none →
    (s.rd (aCAN_MODE c.val)).fld 0 3 ≠ 0 →
    Runs (.recover r c) s (fun u => u.can c.val = { s.can c.val with recov := true } ∧ u.shows (fCAN_PSTAT_estate c.val) = 3 ∧
      OnlyRegs [aCAN_PSTAT c.val] s u)) ∧
  (∀ (r : Req) (c : Fin 4) (s : State), s.grants r (aCAN_CMD c.val) true = true → s.canE c.val ≠ 2 → s.tmr = [] →
    Runs (.recover r c) s (fun u => u.cans = s.cans ∧ u.shows ⟨canHdr c.val + 0x1C, 19, 1⟩ = 1 ∧
      OnlyRegs [canHdr c.val + 0x1C, canHdr c.val + 0x10] s u)) ∧
  (∀ (r : Req) (c : Fin 4) (s : State), s.grants r (aCAN_CMD c.val) true = true → (s.can c.val).fifo.length ≤ 32 →
    Runs (.pop r c) s (fun u => u.can c.val = { s.can c.val with fifo := (s.can c.val).fifo.drop 1 } ∧
      u.shows (fCAN_FIFO_STAT_fill c.val) = (s.can c.val).fifo.length - 1 ∧ OnlyRegs [aCAN_FIFO_STAT c.val] s u)) ∧
  (∀ (c : Fin 4) (b : Fin 64) (s : State), (s.can c.val).cur = some b.val → (s.can c.val).abortReq = [] →
    s.on (fCAN_MB_CFG_oneshot c.val b.val) = false →
    Runs (.arbitrationLoss c) s (fun u => u.can c.val = { s.can c.val with cur := none, busy := true } ∧
      u.shows (fCAN_MB_STAT_icr c.val b.val) = 0 ∧ u.shows (fCAN_PSTAT_txing c.val) = 0 ∧ u.mbPend c.val b.val = s.mbPend c.val b.val ∧
      OnlyRegs [aCAN_PSTAT c.val, aCAN_MB_STAT c.val b.val] s u))


/-- Each device reset leaves its cause in SYS_RST_CAUSE beside the earlier ones, the boot state RESET, Thyme at 0, no leg, context, grid unit or engine state, eMRAM
as it was, and PMIC_EN: SUPPLY_RESET, PIN_RESET, SOFTWARE_RESET in the safe states with its key, DEBUG_RESET of an unlocked session, CLOCK_RESET of a
lost clock. POWER_ON_RESET leaves the power-on cause alone and holds every island. A wrong key is refused. APC_PAIR_RESET starts the reset of the pair's island. Which
memory a reset keeps is the reading of log entry 36. -/
def Obligations.DeviceResets : Prop :=
  (∀ (s : State), Runs .supplyReset s (fun u => u.shows fSYS_RST_CAUSE_supply = 1 ∧ u.shows fSYS_RST_CAUSE_pin = s.shows fSYS_RST_CAUSE_pin ∧
      u.shows fSYS_BOOT_STAT_state = 0 ∧ u.now = 0 ∧ u.ctxs = [] ∧ u.legs = [] ∧ u.tbgs = [] ∧ u.cmt = [] ∧ u.mem = resetMem false s.mem ∧
      u.rd aHPM_PMIC_EN = s.rd aHPM_PMIC_EN ∧ u.pending = s.pending)) ∧
  (∀ (s : State), Runs .powerOnReset s (fun u => u.rd aSYS_RST_CAUSE = 1 ∧ u.hpm.held = true ∧ u.hpm.shut = false ∧ u.hpm.cold = true ∧
      (u.warden 5).st = .absent ∧ u.shows fSYS_BOOT_STAT_state = 0 ∧ u.now = 0 ∧ u.ctxs = [] ∧ u.legs = [] ∧ u.mem = resetMem true s.mem)) ∧
  (∀ (s : State), Runs .pinReset s (fun u => u.shows fSYS_RST_CAUSE_pin = 1 ∧ u.shows fSYS_RST_CAUSE_supply = s.shows fSYS_RST_CAUSE_supply ∧
      u.shows fSYS_BOOT_STAT_state = 0 ∧ u.now = 0 ∧ u.ctxs = [] ∧ u.legs = [] ∧ u.tbgs = [] ∧ u.cmt = [] ∧ u.mem = resetMem false s.mem ∧
      u.rd aHPM_PMIC_EN = s.rd aHPM_PMIC_EN)) ∧
  (∀ (r : Req) (s : State), s.grants r aSYS_RST_CMD true = true → (r = .sage ∨ s.allSafe = true) →
    Runs (.softwareReset r 0xC3A5) s (fun u => u.shows fSYS_RST_CAUSE_sw = 1 ∧ u.shows fSYS_BOOT_STAT_state = 0 ∧ u.now = 0 ∧ u.ctxs = [] ∧
      u.legs = [] ∧ u.mem = resetMem false s.mem ∧ u.rd aHPM_PMIC_EN = s.rd aHPM_PMIC_EN)) ∧
  (∀ (r : Req) (key : Nat) (s : State), s.grants r aSYS_RST_CMD true = true → key ≠ 0xC3A5 → s.tmr = [] →
    Runs (.softwareReset r key) s (fun u => u.shows fSYS_ERR_rst_ref = 1 ∧ u.now = s.now ∧ u.ctxs = s.ctxs ∧ u.legs = s.legs ∧ u.mem = s.mem ∧
      OnlyRegs [aSYS_ERR, aSYS_IRQ_RAW] s u)) ∧
  (∀ (r : Req) (i : Fin 2) (s : State), s.grants r aSYS_RST_CMD true = true → s.isRun (2 + i.val) = true →
    Runs (.apcPairReset r i 0xC3A5) s (fun u => u.shows ⟨aSYS_RST_CAUSE, 7 + i.val, 1⟩ = 1 ∧ (u.warden (2 + i.val)).st = .drain ∧
      (u.warden (2 + i.val)).purpose = .reset ∧ (u.warden (2 + i.val)).since = s.now ∧ u.legs = s.legs ∧ u.mem = s.mem)) ∧
  (∀ (r : Req) (i : Fin 2) (key : Nat) (s : State), s.grants r aSYS_RST_CMD true = true → key ≠ 0xC3A5 → s.tmr = [] →
    Runs (.apcPairReset r i key) s (fun u => u.shows fSYS_ERR_rst_ref = 1 ∧ (∀ j : Fin 17, (u.warden j.val).st = (s.warden j.val).st) ∧ OnlyRegs [aSYS_ERR, aSYS_IRQ_RAW] s u)) ∧
  (∀ (s : State), s.on fSYS_DBG_STAT_unlocked = true →
    Runs .debugReset s (fun u => u.shows fSYS_RST_CAUSE_dbg = 1 ∧ u.shows fSYS_BOOT_STAT_state = 0 ∧ u.now = 0 ∧ u.ctxs = [] ∧ u.legs = [] ∧
      u.mem = resetMem false s.mem)) ∧
  (∀ (s : State), s.on fSYS_DBG_STAT_unlocked = false → Runs .debugReset s (fun u => u = s)) ∧
  (∀ (t : Nat) (s : State), s.hpm.clkLost = some t →
    Runs .clockReset s (fun u => u.shows fSYS_RST_CAUSE_clock = 1 ∧ u.shows fSYS_BOOT_STAT_state = 0 ∧ u.now = 0 ∧ u.ctxs = [] ∧ u.legs = [] ∧
      u.mem = resetMem false s.mem ∧ u.hpm.clkLost = none)) ∧
  (∀ (s : State), s.hpm.clkLost = none → Runs .clockReset s (fun u => u = s))

/-- EPISODE_START opens an episode: the warning with its voltage, the flush, Rosemary suspended, three islands gated; during one, the same rail lowers the
minimum. EPISODE_END shows the episode's length, rail and minimum and releases what it held. UNSTABLE_CLEAR clears unless eight episodes are recent; OPSEC_PERSIST
writes the operating seconds. XIN_LOSS and PLL_UNLOCK show and count the loss, CLOCK_RETURN ends it. POWER_DOWN of the CAN domain starts its sequence, of a
domain that is always on is refused; POWER_UP of a domain that is down lets it come back. LTR_WRITE is stored and, with a tolerance of 0, leaves the chip in RUN; POWER_STATE_SELECT
with both pairs halted goes to IDLE and in an episode does nothing. WAKE and WAKE_TIMER return to RUN from IDLE. -/
def Obligations.PowerControl : Prop :=
  (∀ (rail : Fin 7) (mv : Nat) (s : State), rail.val < 6 → mv < 65536 → s.on fHPM_SUP_STAT_epi = false → s.hpm.starts = [] → s.bist.run = [] →
    s.tmr = [] →
    Runs (.episodeStart rail mv) s (fun u => u.shows fHPM_SUP_STAT_epi = 1 ∧ u.shows ⟨aHPM_SUP_STAT, 8 + rail.val, 1⟩ = 1 ∧
      u.shows (fHPM_RAIL_V_mv rail.val) = mv ∧ u.shows fHPM_IRQ_RAW_sup_start = 1 ∧ u.shows fREC_RSTAT_susp = 1 ∧
      u.shows fHPM_SUP_EPI_cnt = (s.get fHPM_SUP_EPI_cnt + 1) % 2 ^ 16 ∧ u.hpm.epiStart = s.now ∧ u.hpm.epiRail = rail.val ∧
      u.hpm.epiMin = mv ∧ u.hpm.flushOps = s.opsec.toNat ∧ u.hpm.starts = [(s.now : Int)] ∧ u.amu.brown = true ∧
      (u.warden 3).gated = true ∧ (u.warden 11).gated = true ∧ (u.warden 15).gated = true)) ∧
  (∀ (rail : Fin 7) (mv : Nat) (s : State), rail.val < 6 → mv < 65536 → s.on fHPM_SUP_STAT_epi = true → s.hpm.epiRail = rail.val → s.tmr = [] →
    Runs (.episodeStart rail mv) s (fun u => u.hpm = { s.hpm with epiMin := min s.hpm.epiMin mv } ∧ u.shows (fHPM_RAIL_V_mv rail.val) = mv ∧
      OnlyRegs [aHPM_SUP_STAT, aHPM_RAIL_V rail.val] s u)) ∧
  (∀ (s : State), s.on fHPM_SUP_STAT_epi = true → s.get fHPM_PSTATE_state = 0 → s.get fHPM_LTR_ltr = 0 → s.hpm.epiRail < 7 →
    s.hpm.epiMin < 8192 → s.tmr = [] →
    Runs .episodeEnd s (fun u => u.now = max s.now (s.hpm.epiStart + 100 * us) ∧ u.shows fHPM_SUP_STAT_epi = 0 ∧ u.shows fHPM_SUP_STAT_warn = 0 ∧
      u.shows fHPM_IRQ_RAW_sup_end = 1 ∧ u.shows fHPM_SUP_LAST_rail = s.hpm.epiRail ∧ u.shows fHPM_SUP_LAST_vmin = s.hpm.epiMin ∧
      u.shows fHPM_SUP_LAST_dur = min ((u.now - 100 * us - s.hpm.epiStart) / us) 65535 ∧ u.shows fREC_RSTAT_susp = 0 ∧
      u.amu.brown = false ∧ u.shows fHPM_PSTATE_state = 0)) ∧
  (∀ (s : State), s.on fHPM_SUP_STAT_epi = false → Runs .episodeEnd s (fun u => u = s)) ∧
  (∀ (r : Req) (s : State), s.grants r aHPM_SUP_STAT true = true → s.recent.length < 8 →
    Runs (.unstableClear r) s (fun u => u.shows fHPM_SUP_STAT_unstable = 0 ∧ OnlyRegs [aHPM_SUP_STAT] s u)) ∧
  (∀ (r : Req) (s : State), s.grants r aHPM_SUP_STAT true = true → 8 ≤ s.recent.length →
    Runs (.unstableClear r) s (fun u => OnlyRegs [] s u)) ∧
  (∀ (s : State), s.on fHPM_SUP_STAT_epi = false →
    Runs .opsecPersist s (fun u => u.now = max s.now (s.hpm.persistAt + 60000 * ms) ∧ u.hpm.flushOps = u.opsec.toNat ∧
      u.hpm.flushPrev = s.hpm.flushOps ∧ u.hpm.persistAt = u.now ∧ OnlyRegs [] s u)) ∧
  (∀ (s : State), s.on fHPM_CLK_STAT_rc = false → s.tmr = [] →
    Runs .xinLoss s (fun u => u.shows fHPM_CLK_STAT_xin_ok = 0 ∧ u.shows fHPM_CLK_STAT_rc = 1 ∧ u.shows fHPM_ERR_clk = 1 ∧
      u.shows fHPM_IRQ_RAW_clk = 1 ∧ u.shows fHPM_CLK_STAT_unlock_cnt = min (s.get fHPM_CLK_STAT_unlock_cnt + 1) (2 ^ 16 - 1) ∧
      u.hpm.clkLost = some (s.hpm.clkLost.getD s.now) ∧ OnlyRegs [aHPM_CLK_STAT, aHPM_ERR, aHPM_IRQ_RAW] s u)) ∧
  (∀ (s : State), s.on fHPM_CLK_STAT_pll_lock = true → s.tmr = [] →
    Runs .pllUnlock s (fun u => u.shows fHPM_CLK_STAT_pll_lock = 0 ∧ u.shows fHPM_ERR_clk = 1 ∧ u.shows fHPM_IRQ_RAW_clk = 1 ∧
      u.shows fHPM_CLK_STAT_unlock_cnt = min (s.get fHPM_CLK_STAT_unlock_cnt + 1) (2 ^ 16 - 1) ∧
      u.hpm.clkLost = some (s.hpm.clkLost.getD s.now) ∧ OnlyRegs [aHPM_CLK_STAT, aHPM_ERR, aHPM_IRQ_RAW] s u)) ∧
  (∀ (s : State), s.hpm.clkLost.isSome = true → s.on fHPM_CLK_STAT_xin_ok = false → s.on fHPM_CLK_STAT_pll_lock = true → s.tmr = [] →
    Runs .clockReturn s (fun u => u.shows fHPM_CLK_STAT_xin_ok = 1 ∧ u.shows fHPM_CLK_STAT_rc = 0 ∧ u.hpm.clkLost = none ∧
      OnlyRegs [aHPM_CLK_STAT] s u)) ∧
  (∀ (s : State), s.hpm.clkLost = none → Runs .clockReturn s (fun u => u = s)) ∧
  (∀ (r : Req) (s : State), s.grants r aHPM_PD_CTRL true = true → s.on ⟨aHPM_PD_CTRL, 8, 1⟩ = true → s.canQuiet = true →
    s.on fHPM_SUP_STAT_epi = false → s.isRun 12 = true → (s.warden 12).purpose = .none → (s.warden 12).pdown = false → s.bist.run = [] →
    s.tmr = [] →
    Runs (.powerDown r 8) s (fun u => u.shows ⟨aHPM_PD_CTRL, 8, 1⟩ = 0 ∧ (u.warden 12).st = .drain ∧ (u.warden 12).purpose = .powerDown ∧
      (u.warden 12).since = s.now)) ∧
  (∀ (r : Req) (d : Fin 12) (s : State), s.grants r aHPM_PD_CTRL true = true → (d.val = 0 ∨ d.val = 2 ∨ d.val = 11) →
    s.on ⟨aHPM_PD_CTRL, d.val, 1⟩ = true → s.tmr = [] →
    Runs (.powerDown r d) s (fun u => u.shows ⟨aHPM_PD_CTRL, d.val, 1⟩ = 1 ∧ u.shows fHPM_ERR_pd_ref = 1 ∧ u.shows fHPM_IRQ_RAW_pd_ref = 1 ∧
      (∀ j : Fin 17, (u.warden j.val).st = (s.warden j.val).st) ∧ OnlyRegs [aHPM_ERR, aHPM_IRQ_RAW] s u)) ∧
  (∀ (r : Req) (s : State), s.grants r aHPM_PD_CTRL true = true → s.on ⟨aHPM_PD_CTRL, 8, 1⟩ = false →
    s.on fHPM_SUP_STAT_epi = false → s.get fHPM_PSTATE_state = 0 → (s.warden 12).pdown = true → s.tmr = [] →
    Runs (.powerUp r 8) s (fun u => u.shows ⟨aHPM_PD_CTRL, 8, 1⟩ = 1 ∧ (u.warden 12).purpose = .powerUp ∧ (u.warden 12).pdown = false ∧
      (u.warden 12).since = s.now)) ∧
  (∀ (r : Req) (ltr : Word) (s : State), s.grants r aHPM_LTR true = true → r ≠ .sage → ltr = 0 → s.on fHPM_SUP_STAT_epi = false →
    s.get fHPM_PSTATE_state = 0 → s.tmr = [] →
    Runs (.ltrWrite r ltr) s (fun u => u.shows fHPM_LTR_ltr = 0 ∧ u.shows fHPM_PSTATE_state = 0 ∧ (∀ j : Fin 17, (u.warden j.val).st = (s.warden j.val).st))) ∧
  (∀ (s : State), s.on fHPM_SUP_STAT_epi = false → s.get fHPM_PSTATE_state = 0 → s.get fHPM_LTR_ltr = 1 → (s.apcPair 0).running = false →
    (s.apcPair 1).running = false → (s.warden 3).st = .run → s.tmr = [] →
    Runs .powerStateSelect s (fun u => u.shows fHPM_PSTATE_state = 1 ∧ u.hpm.entryAt = s.now ∧ (u.warden 3).gated = true)) ∧
  (∀ (s : State), s.on fHPM_SUP_STAT_epi = true → Runs .powerStateSelect s (fun u => u = s)) ∧
  (∀ (src : Fin 8) (s : State), src.val < 6 → s.get fHPM_PSTATE_state = 1 → s.get fHPM_WAKE_EN_en / 2 ^ src.val % 2 = 1 → s.tmr = [] →
    Runs (.wake src) s (fun u => u.shows fHPM_PSTATE_state = 0 ∧ u.shows fHPM_PSTATE_wsrc = src.val ∧ u.shows fHPM_IRQ_RAW_wake = 1)) ∧
  (∀ (src : Fin 8) (s : State), (s.get fHPM_PSTATE_state = 0 ∨ s.get fHPM_WAKE_EN_en / 2 ^ src.val % 2 = 0) →
    Runs (.wake src) s (fun u => u = s)) ∧
  (∀ (s : State), s.get fHPM_WAKE_TMR_t ≠ 0 → s.get fHPM_PSTATE_state = 1 → s.get fHPM_WAKE_EN_en / 32 % 2 = 1 → s.tmr = [] →
    Runs .wakeTimer s (fun u => u.now = max s.now (s.hpm.entryAt + s.get fHPM_WAKE_TMR_t * us) ∧ u.shows fHPM_PSTATE_state = 0 ∧
      u.shows fHPM_PSTATE_wsrc = 5 ∧ u.shows fHPM_IRQ_RAW_wake = 1))


/-- BOOT with no candidate image reaches RECOVERY with the HRP enabled and its first write area open; past RESET, or held, it does nothing. PROGRAM_ROW and RAISE_MIN_VER
with the key are accepted and ROW_COMPLETE carries them out; a wrong key is refused; a suspended command waits. IDCODE, BYPASS and SAMPLE_PRELOAD choose
what the data register shifts out, EXTEST only in an unlocked session. DBG_CHAL draws 32 bytes; DBG_RESP without one counts a failure, after three nothing.
THERMAL_READ with eight equal readings shows them, enters level 1 from 140 to 150 °C and shuts the device down from 165 °C; THERMAL_HOLD ends below 155 °C.
I2C_TRANSFER starts a transfer, not while one runs, and I2C_DONE ends it. -/
def Obligations.BootAndHousekeeping : Prop :=
  (∀ (t : Nat) (s : State), s.get fSYS_BOOT_STAT_state = 0 → s.hpm.held = false → s.hpm.shut = false →
    s.hw (slotBase false) 0 ≠ 0x314E524D → s.hw (slotBase true) 0 ≠ 0x314E524D → s.tmr = [] →
    Runs (.boot t) s (fun u => u.shows fSYS_BOOT_STAT_state = 2 ∧ u.shows fHRP_CFG_hrp_en = 1 ∧ u.rd aHRP_WR_EN_LO = 1 ∧
      u.shows fHPM_CLK_STAT_pll_lock = 1 ∧ u.shows fHPM_CLK_STAT_xin_ok = 1 ∧ u.shows fHPM_CLK_STAT_rc = 0 ∧ u.hpm.marker = false ∧
      u.hpm.cold = false)) ∧
  (∀ (t : Nat) (s : State), (s.get fSYS_BOOT_STAT_state ≠ 0 ∨ s.hpm.held = true ∨ s.hpm.shut = true) →
    Runs (.boot t) s (fun u => u = s)) ∧
  (∀ (r : Req) (s : State), s.grants r aSYS_MP_CMD true = true → s.hpm.mp = none →
    0x780000 ≤ s.get fSYS_MP_ADDR_row * 32 → s.get fSYS_MP_ADDR_row * 32 < 0x7C0000 → s.tmr = [] →
    Runs (.programRow r 0x3C96) s (fun u => u.shows fSYS_MP_STAT_busy = 1 ∧ u.shows fSYS_MP_STAT_err = 0 ∧
      u.hpm.mp = some (.row (s.get fSYS_MP_ADDR_row * 32) ((List.range 8).map (fun w => s.rd (aSYS_MP_DATA w)))) ∧
      u.mem = s.mem ∧ OnlyRegs [aSYS_MP_STAT] s u)) ∧
  (∀ (r : Req) (key : Nat) (s : State), s.grants r aSYS_MP_CMD true = true → key ≠ 0x3C96 → s.tmr = [] →
    Runs (.programRow r key) s (fun u => u.shows fSYS_MP_STAT_err = 1 ∧ u.shows fSYS_ERR_mp_ref = 1 ∧ u.hpm = s.hpm ∧ u.mem = s.mem ∧
      OnlyRegs [aSYS_MP_STAT, aSYS_ERR, aSYS_IRQ_RAW] s u)) ∧
  (∀ (r : Req) (s : State), s.grants r aSYS_MP_CMD true = true → s.hpm.mp = none → s.tmr = [] →
    Runs (.raiseMinVer r 0x3C96) s (fun u => u.shows fSYS_MP_STAT_busy = 1 ∧ u.hpm.mp = some (.minVer (s.rd aSYS_IMG_VER)) ∧
      OnlyRegs [aSYS_MP_STAT] s u)) ∧
  (∀ (a : Nat) (ws : List Word) (s : State), s.on fSYS_MP_STAT_susp = false → s.hpm.mp = some (.row a ws) → ws.length = 8 → s.tmr = [] →
    Runs .rowComplete s (fun u => (List.range 8).map (fun i => u.mem32 (0x10000000 + a + 4 * i)) = ws ∧ OnlyMem (0x10000000 + a) 32 s u ∧
      u.shows fSYS_MP_STAT_busy = 0 ∧ u.shows fSYS_IRQ_RAW_mp_done = 1 ∧ u.hpm.mp = none ∧ OnlyRegs [aSYS_MP_STAT, aSYS_IRQ_RAW] s u)) ∧
  (∀ (v : Word) (s : State), s.on fSYS_MP_STAT_susp = false → s.hpm.mp = some (.minVer v) → s.tmr = [] →
    Runs .rowComplete s (fun u => (u.rd aSYS_MIN_VER).toNat = max (s.rd aSYS_MIN_VER).toNat v.toNat ∧ u.mem = s.mem ∧
      u.shows fSYS_MP_STAT_busy = 0 ∧ u.shows fSYS_IRQ_RAW_mp_done = 1 ∧ u.hpm.mp = none ∧
      OnlyRegs [aSYS_MIN_VER, aSYS_MP_STAT, aSYS_IRQ_RAW] s u)) ∧
  (∀ (s : State), s.hpm.mp = none → Runs .rowComplete s (fun u => u = s)) ∧
  (∀ (s : State), s.on fSYS_MP_STAT_susp = true → Runs .rowComplete s (fun u => u = s)) ∧
  (∀ (s : State), Runs .idcode s (fun u => u = s.setHpm { s.hpm with jtag := .idcode, jtagOut := [0x25, 0x07, 0x56, 0xC2] })) ∧
  (∀ (s : State), Runs .bypass s (fun u => u = s.setHpm { s.hpm with jtag := .bypass, jtagOut := [0] })) ∧
  (∀ (s : State), Runs .samplePreload s (fun u => u.hpm.jtag = .sample ∧ u.hpm.jtagOut.length = 4 ∧ u.regs = s.regs ∧ u.mem = s.mem)) ∧
  (∀ (s : State), s.on fSYS_DBG_STAT_unlocked = true → s.allSafe = true →
    Runs .extest s (fun u => u = s.setHpm { s.hpm with jtag := .extest, jtagOut := [] })) ∧
  (∀ (s : State), s.on fSYS_DBG_STAT_unlocked = false → Runs .extest s (fun u => u = s)) ∧
  (∀ (s : State), Runs .dbgChal s (fun u => u.hpm.jtag = .chal ∧ u.hpm.jtagOut.length = 32 ∧ u.hpm.chal = some u.hpm.jtagOut ∧ u.regs = s.regs ∧
      u.mem = s.mem)) ∧
  (∀ (bs : List (BitVec 8)) (s : State), bs.length = 128 → s.hpm.chal = none → s.get fSYS_DBG_STAT_fails < 3 → s.tmr = [] →
    Runs (.dbgResp bs) s (fun u => u.shows fSYS_DBG_STAT_fails = s.get fSYS_DBG_STAT_fails + 1 ∧ u.shows fSYS_ERR_dbg_fail = 1 ∧
      u.shows fSYS_IRQ_RAW_dbg = 1 ∧ u.shows fSYS_DBG_STAT_unlocked = s.shows fSYS_DBG_STAT_unlocked ∧ u.hpm.jtag = .resp ∧
      OnlyRegs [aSYS_DBG_STAT, aSYS_ERR, aSYS_IRQ_RAW] s u)) ∧
  (∀ (bs : List (BitVec 8)) (s : State), bs.length = 128 → s.get fSYS_DBG_STAT_fails = 3 →
    Runs (.dbgResp bs) s (fun u => u.hpm.jtag = .resp ∧ u.hpm.chal = s.hpm.chal ∧ OnlyRegs [] s u)) ∧
  (∀ (t : Int) (s : State), 1400 ≤ t → t < 1500 → s.hpm.held = false → s.hpm.shut = false → s.hpm.invalid = 0 →
    s.get fHPM_THERM_STAT_state = 0 → s.tmr = [] →
    Runs (.thermalRead (List.replicate 8 t)) s (fun u => u.shows fHPM_THERM_STAT_state = 1 ∧ u.shows fHPM_THERM_STAT_max = lowBits 16 t ∧
      u.shows fHPM_THERM_STAT_valid = 255 ∧ u.shows (fHPM_TEMP_t 0) = lowBits 16 t ∧ u.shows (fHPM_TEMP_t 7) = lowBits 16 t ∧
      u.shows (fHPM_TEMP_valid 7) = 1 ∧ u.shows fHPM_IRQ_RAW_therm = 1 ∧ u.hpm.invalid = 0 ∧
      u.sage.inbox = s.sage.inbox ++ [⟨37, .none, false⟩])) ∧
  (∀ (t : Int) (s : State), 1650 ≤ t → s.hpm.held = false → s.hpm.shut = false → s.hpm.invalid = 0 →
    Runs (.thermalRead (List.replicate 8 t)) s (fun u => u.hpm.shut = true ∧ u.hpm.marker = true ∧ u.now = 0 ∧ u.ctxs = [] ∧ u.legs = [])) ∧
  (∀ (ts : List Int) (s : State), ts.length = 8 → (s.hpm.held = true ∨ s.hpm.shut = true) → Runs (.thermalRead ts) s (fun u => u = s)) ∧
  (∀ (ts : List Int) (s : State), ts.length = 8 → s.hpm.held = true → s.hpm.shut = false → s.hpm.invalid = 0 → (∀ x ∈ ts, x < 1550) →
    Runs (.thermalHold ts) s (fun u => u.hpm = { s.hpm with held := false } ∧ u.wardens = [] ∧ OnlyRegs [] s u)) ∧
  (∀ (ts : List Int) (s : State), ts.length = 8 → s.hpm.invalid = 0 → (∃ x ∈ ts, 1550 ≤ x) → Runs (.thermalHold ts) s (fun u => u = s)) ∧
  (∀ (r : Req) (d : Word) (s : State), s.grants r aHPM_I2C_CMD true = true → d.fld 31 1 = 1 → s.hpm.i2c = none → s.tmr = [] →
    Runs (.i2cTransfer r d) s (fun u => u.hpm.i2c = some (d.fld 30 1 == 1, d.fld 16 7, d.fld 8 8, d.fld 0 8) ∧ u.shows fHPM_I2C_STAT_busy = 1 ∧
      OnlyRegs [aHPM_I2C_STAT] s u)) ∧
  (∀ (r : Req) (d : Word) (s : State), s.grants r aHPM_I2C_CMD true = true → s.hpm.i2c.isSome = true →
    Runs (.i2cTransfer r d) s (fun u => u.hpm.i2c = s.hpm.i2c ∧ OnlyRegs [] s u)) ∧
  (∀ (d : Fin 256) (x y z : Nat) (s : State), s.hpm.i2c = some (true, x, y, z) → s.tmr = [] →
    Runs (.i2cDone false d) s (fun u => u.hpm.i2c = none ∧ u.shows fHPM_I2C_STAT_busy = 0 ∧ u.shows fHPM_I2C_STAT_nak = 0 ∧
      u.shows fHPM_I2C_STAT_data = d.val ∧ u.shows fHPM_IRQ_RAW_i2c_done = 1 ∧ OnlyRegs [aHPM_I2C_STAT, aHPM_IRQ_RAW] s u)) ∧
  (∀ (d : Fin 256) (rd : Bool) (x y z : Nat) (s : State), s.hpm.i2c = some (rd, x, y, z) → s.tmr = [] →
    Runs (.i2cDone true d) s (fun u => u.hpm.i2c = none ∧ u.shows fHPM_I2C_STAT_nak = 1 ∧ u.shows fHPM_ERR_i2c_nak = 1 ∧
      u.shows fHPM_I2C_STAT_data = s.shows fHPM_I2C_STAT_data ∧ u.shows fHPM_IRQ_RAW_i2c_done = 1 ∧
      OnlyRegs [aHPM_I2C_STAT, aHPM_ERR, aHPM_IRQ_RAW] s u)) ∧
  (∀ (nak : Bool) (d : Fin 256) (s : State), s.hpm.i2c = none → Runs (.i2cDone nak d) s (fun u => u = s))


/-- RING_SEARCH of a ring with no record starts at 0 and writes the BOOT record. REC_EVENT to an island that runs with a free entry queues the record and counts it; with the
queue full or the island absent it is deferred and counted. RECORD_WRITE writes the oldest record's 64 bytes into the slot of the sequence number,
and the trigger with no records after it freezes the ring; a frozen ring is not written. SOFTWARE_RECORD from 0xC0 on is an event, below it an error. FREEZE
freezes, UNFREEZE ends it. CURSOR_SELECT stores the index and shows the record, CURSOR_NEWER and CURSOR_OLDER move by one modulo 8192,
CURSOR_COPY stays. -/
def Obligations.Rosemary : Prop :=
  (∀ (s : State), s.isRun 14 = true → s.on fREC_RSTAT_scan = true → s.mem = [] → s.rosem.postLeft = none → s.tmr = [] →
    Runs .ringSearch s (fun u => u.shows fREC_SEQ_seq = 1 ∧ u.shows fREC_RSTAT_scan = 0 ∧ OnlyMem (ringSlot 0) 64 s u ∧
      u.mem32 (ringSlot 0) = 0 ∧ Memory.read u.mem (ringSlot 0 + 16) = 1 ∧ u.mem32 (ringSlot 0 + 20) = s.rd aSYS_RST_CAUSE ∧
      u.shows fREC_SUM_CNT_cnt = (s.get fREC_SUM_CNT_cnt + 1) % 2 ^ 32 ∧ OnlyRegs [aREC_SEQ, aREC_RSTAT, aREC_SUM_CNT] s u)) ∧
  (∀ (s : State), s.on fREC_RSTAT_scan = false → Runs .ringSearch s (fun u => u = s)) ∧
  (∀ (code block inst : Fin 256) (t : Nat) (pay : List (BitVec 8)) (s : State), pay.length ≤ 40 → s.isRun 14 = true →
    s.rosem.queue.length < 255 → s.rosem.dFull + s.rosem.dAbs = 0 → s.tmr = [] →
    Runs (.recEvent code block inst t pay) s (fun u => u.shows fREC_EVT_IN_cnt = (s.get fREC_EVT_IN_cnt + 1) % 2 ^ 32 ∧
      u.rosem.queue = s.rosem.queue ++ [{ code := code.val, block := block.val, inst := inst.val, time := t % 2 ^ 32, opsec := s.opsec, late := s.on fREC_RSTAT_susp || s.on fREC_RSTAT_frozen, pay := pay }] ∧
      u.shows fREC_RSTAT_fill = s.rosem.queue.length + 1 ∧ OnlyRegs [aREC_EVT_IN, aREC_RSTAT] s u)) ∧
  (∀ (code block inst : Fin 256) (t : Nat) (pay : List (BitVec 8)) (s : State), pay.length ≤ 40 → s.isRun 14 = true →
    255 ≤ s.rosem.events → s.rosem.queue.any (fun i => i.own) = false → s.rosem.dFull + s.rosem.dAbs = 0 → s.tmr = [] →
    Runs (.recEvent code block inst t pay) s (fun u => u.rosem.queue = s.rosem.queue ∧ u.rosem.dFull = 1 ∧ u.rosem.dFirst = t % 2 ^ 32 ∧
      u.shows fREC_EVT_IN_cnt = (s.get fREC_EVT_IN_cnt + 1) % 2 ^ 32 ∧ u.shows fREC_DEF_FULL_cnt = (s.get fREC_DEF_FULL_cnt + 1) % 2 ^ 32 ∧
      u.shows ⟨0x400D001C, 18, 1⟩ = 1)) ∧
  (∀ (code block inst : Fin 256) (t : Nat) (pay : List (BitVec 8)) (s : State), pay.length ≤ 40 → s.isRun 14 = false → s.tmr = [] →
    Runs (.recEvent code block inst t pay) s (fun u => u.shows fREC_DEF_ABS_cnt = (s.get fREC_DEF_ABS_cnt + 1) % 2 ^ 32 ∧
      u.rosem.queue.length = s.rosem.queue.length ∧ u.rd aREC_EVT_IN = s.rd aREC_EVT_IN)) ∧
  (∀ (i : RItem) (q : List RItem) (s : State), s.recMayWrite = true → s.rosem.queue = i :: q → i.own = false → s.rosem.postLeft = none →
    s.on fREC_CFG_trig_en = false → q.length < 512 → s.tmr = [] →
    Runs .recordWrite s (fun u => u.memRead (ringSlot (s.rd aREC_SEQ).toNat) 64 = recordBytes (s.rd aREC_SEQ) (s.rd aSYS_PCYC) i ∧
      OnlyMem (ringSlot (s.rd aREC_SEQ).toNat) 64 s u ∧ u.rd aREC_SEQ = s.rd aREC_SEQ + 1 ∧
      u.shows fREC_WR_CNT_cnt = (s.get fREC_WR_CNT_cnt + 1) % 2 ^ 32 ∧ u.shows fREC_RSTAT_fill = q.length ∧ u.rosem.queue = q ∧
      OnlyRegs [aREC_SEQ, aREC_WR_CNT, aREC_RSTAT] s u)) ∧
  (∀ (i : RItem) (q : List RItem) (s : State), s.recMayWrite = true → s.rosem.queue = i :: q → i.own = false → s.rosem.postLeft = none →
    s.on fREC_CFG_trig_en = true → i.code = s.get fREC_CFG_trig_code → s.get fREC_CFG_post = 0 → s.tmr = [] →
    Runs .recordWrite s (fun u => u.shows fREC_RSTAT_frozen = 1 ∧ u.shows ⟨0x400D0010, 4, 1⟩ = 1 ∧ u.rosem.postLeft = none ∧
      u.memRead (ringSlot (s.rd aREC_SEQ).toNat) 64 = recordBytes (s.rd aREC_SEQ) (s.rd aSYS_PCYC) i)) ∧
  (∀ (s : State), s.recMayWrite = false → Runs .recordWrite s (fun u => u = s)) ∧
  (∀ (r : Req) (code : Fin 256) (s : State), s.grants r aREC_SW_CMD true = true → 0xC0 ≤ code.val → s.isRun 14 = true →
    s.rosem.queue.length < 255 → s.rosem.dFull + s.rosem.dAbs = 0 → s.tmr = [] →
    Runs (.softwareRecord r code) s (fun u => u.rosem.queue.length = s.rosem.queue.length + 1 ∧
      (u.rosem.queue.getLast?.map (fun i => i.code)) = some code.val ∧
      (u.rosem.queue.getLast?.map (fun i => i.pay)) = some ((List.range 10).flatMap (fun w => wordBytes (s.rd (bank r (aREC_SW_DATA w))))) ∧
      OnlyRegs [aREC_EVT_IN, aREC_RSTAT] s u)) ∧
  (∀ (r : Req) (code : Fin 256) (s : State), s.grants r aREC_SW_CMD true = true → code.val < 0xC0 → s.tmr = [] →
    Runs (.softwareRecord r code) s (fun u => u.shows ⟨0x400D001C, 17, 1⟩ = 1 ∧ u.rosem = s.rosem ∧ OnlyRegs [0x400D001C, 0x400D0010] s u)) ∧
  (∀ (r : Req) (s : State), s.grants r aREC_CMD true = true → s.on fREC_RSTAT_frozen = false → s.tmr = [] →
    Runs (.freeze r) s (fun u => u.shows fREC_RSTAT_frozen = 1 ∧ u.shows ⟨0x400D0010, 4, 1⟩ = 1 ∧ u.rosem.postLeft = none ∧
      (∀ i ∈ u.rosem.queue, i.late = true) ∧ OnlyRegs [aREC_RSTAT, 0x400D0010] s u)) ∧
  (∀ (r : Req) (s : State), s.grants r aREC_CMD true = true → s.on fREC_RSTAT_frozen = true →
    Runs (.freeze r) s (fun u => u.rosem = s.rosem ∧ OnlyRegs [] s u)) ∧
  (∀ (r : Req) (s : State), s.grants r aREC_CMD true = true → s.tmr = [] →
    Runs (.unfreeze r) s (fun u => u.shows fREC_RSTAT_frozen = 0 ∧ u.rosem = s.rosem ∧ OnlyRegs [aREC_RSTAT] s u)) ∧
  (∀ (r : Req) (idx : Word) (s : State), s.grants r aREC_CUR_IDX true = true →
    Runs (.cursorSelect r idx) s (fun u => u.rd (bank r aREC_CUR_IDX) = idx ∧
      (∀ w : Fin 16, u.rd (bank r (aREC_CUR_DATA w.val)) = s.mem32 (0x10700000 + idx.fld 0 13 * 0x40 + 4 * w.val)) ∧
      u.rd (bank r aREC_CUR_STAT) = (if (slotSeq s (0x10700000 + idx.fld 0 13 * 0x40)).isSome then 1 else 0) ∧
      OnlyRegs (bank r aREC_CUR_IDX :: bank r aREC_CUR_STAT :: (List.range 16).map (fun w => bank r (aREC_CUR_DATA w))) s u)) ∧
  (∀ (r : Req) (s : State), s.grants r aREC_CUR_CMD true = true →
    Runs (.cursorNewer r) s (fun u => (u.rd (bank r aREC_CUR_IDX)).fld 0 13 = ((s.rd (bank r aREC_CUR_IDX)).fld 0 13 + 1) % 8192 ∧
      u.rd (bank r (aREC_CUR_DATA 3)) = s.mem32 (0x10700000 + (((s.rd (bank r aREC_CUR_IDX)).fld 0 13 + 1) % 8192) * 0x40 + 12))) ∧
  (∀ (r : Req) (s : State), s.grants r aREC_CUR_CMD true = true →
    Runs (.cursorOlder r) s (fun u => (u.rd (bank r aREC_CUR_IDX)).fld 0 13 = ((s.rd (bank r aREC_CUR_IDX)).fld 0 13 + 8191) % 8192 ∧
      u.rd (bank r (aREC_CUR_DATA 3)) = s.mem32 (0x10700000 + (((s.rd (bank r aREC_CUR_IDX)).fld 0 13 + 8191) % 8192) * 0x40 + 12))) ∧
  (∀ (r : Req) (s : State), s.grants r aREC_CUR_CMD true = true →
    Runs (.cursorCopy r) s (fun u => (u.rd (bank r aREC_CUR_IDX)).fld 0 13 = (s.rd (bank r aREC_CUR_IDX)).fld 0 13 ∧
      u.rd (bank r (aREC_CUR_DATA 3)) = s.mem32 (0x10700000 + (s.rd (bank r aREC_CUR_IDX)).fld 0 13 * 0x40 + 12)))

/-- BIST_REQUEST queues an island's test: an island without the kinds, or already known, is an error, and so is a full queue. BIST_RELEASE lets a held island come back. BIST_START
starts the test that waits in front where the power budget allows: the island's sequence begins, with the purpose TEST; an island whose condition fails ends REFUSED; in an episode
nothing starts. BIST_COMPLETE ends it: passed, the island runs again; a failed memory test shows where and holds the island; a logic test passes with
the reference signature, whose value the spec leaves open (Config.bistRef). -/
def Obligations.SelfTest : Prop :=
  (∀ (r : Req) (i : Fin 32) (k : Fin 8) (s : State), s.grants r aBIST_CMD true = true → k.val ≠ 0 → bistHas i.val k.val = true →
    (∀ q ∈ s.bist.queue ++ s.bist.run, q.idx ≠ i.val) → s.bist.queue.length < 8 →
    Runs (.bistRequest r i k) s (fun u => u.bist = { s.bist with queue := s.bist.queue ++ [{ idx := i.val, kinds := k.val }] } ∧
      (∀ j : Fin 17, (u.warden j.val).st = (s.warden j.val).st) ∧ OnlyRegs [] s u)) ∧
  (∀ (r : Req) (i : Fin 32) (k : Fin 8) (s : State), s.grants r aBIST_CMD true = true →
    (k.val = 0 ∨ bistHas i.val k.val = false ∨ ∃ q ∈ s.bist.queue ++ s.bist.run, q.idx = i.val) → s.tmr = [] →
    Runs (.bistRequest r i k) s (fun u => u.bist = s.bist ∧ u.shows ⟨0x400E001C, 16, 1⟩ = 1 ∧ OnlyRegs [0x400E001C, 0x400E0010] s u)) ∧
  (∀ (r : Req) (i : Fin 32) (k : Fin 8) (s : State), s.grants r aBIST_CMD true = true → k.val ≠ 0 → bistHas i.val k.val = true →
    (∀ q ∈ s.bist.queue ++ s.bist.run, q.idx ≠ i.val) → 8 ≤ s.bist.queue.length → s.tmr = [] →
    Runs (.bistRequest r i k) s (fun u => u.bist = s.bist ∧ u.shows ⟨0x400E001C, 17, 1⟩ = 1 ∧ OnlyRegs [0x400E001C, 0x400E0010] s u)) ∧
  (∀ (r : Req) (i : Fin 32) (s : State), s.grants r aBIST_CMD true = true → i.val < 17 → s.bitAt aBIST_HELD i.val = true → s.tmr = [] →
    Runs (.bistRelease r i) s (fun u => u.bitAt aBIST_HELD i.val = false ∧ (u.warden i.val).purpose = .reset ∧
      (u.warden i.val).st = (s.warden i.val).st ∧ (u.warden i.val).since = s.now ∧ OnlyRegs [aBIST_HELD] s u)) ∧
  (∀ (r : Req) (i : Fin 32) (s : State), s.grants r aBIST_CMD true = true → (17 ≤ i.val ∨ s.bitAt aBIST_HELD i.val = false) → s.tmr = [] →
    Runs (.bistRelease r i) s (fun u => u.shows ⟨0x400E001C, 16, 1⟩ = 1 ∧ (∀ j : Fin 17, (u.warden j.val).st = (s.warden j.val).st) ∧ OnlyRegs [0x400E001C, 0x400E0010] s u)) ∧
  (∀ (q : BReq) (s : State), s.bistGated = false → s.isRun 15 = true → s.bist.queue = [q] → s.bist.run = [] → s.bist.lastStart = none →
    q.idx = 14 → s.isRun 14 = true → q.mw ≤ s.get fBIST_CFG_budget → s.tmr = [] →
    Runs .bistStart s (fun u => u.bist.queue = [] ∧ u.bist.run = [{ q with at_ := s.now }] ∧ u.bist.lastStart = some s.now ∧
      u.shows (fBIST_RES_run 14) = 1 ∧ (u.warden 14).st = .drain ∧ (u.warden 14).purpose = .test ∧ (u.warden 14).since = s.now)) ∧
  (∀ (q : BReq) (s : State), s.bistGated = false → s.isRun 15 = true → s.bist.queue = [q] → s.bist.run = [] → s.bist.lastStart = none →
    (q.idx = 9 ∨ q.idx = 10) → s.isRun q.idx = true → s.allSafe = false → q.mw ≤ s.get fBIST_CFG_budget → s.tmr = [] →
    Runs .bistStart s (fun u => u.bist.queue = [] ∧ u.bist.run = [] ∧ u.shows (fBIST_RES_result q.idx) = 6 ∧
      u.shows ⟨0x400E0010, 4, 1⟩ = 1 ∧ (∀ j : Fin 17, (u.warden j.val).st = (s.warden j.val).st))) ∧
  (∀ (s : State), s.bistGated = true → Runs .bistStart s (fun u => u = s)) ∧
  (∀ (i : Fin 17) (res : Nat) (sig info : Word) (s : State), s.bist.run = [{ idx := i.val, kinds := 2 }] → (s.warden i.val).st = .absent →
    (s.warden i.val).purpose = .test → res ≠ 3 → s.tmr = [] →
    Runs (.bistComplete (i.castLE (by decide)) res sig info) s (fun u => u.bist.run = [] ∧ u.shows (fBIST_RES_result i.val) = 1 ∧
      u.shows (fBIST_RES_run i.val) = 0 ∧ u.shows (fBIST_RES_kinds i.val) = 2 ∧ (u.warden i.val).st = .run ∧
      u.shows fBIST_DONE_CNT_cnt = (s.get fBIST_DONE_CNT_cnt + 1) % 2 ^ fBIST_DONE_CNT_cnt.w ∧ u.shows ⟨0x400E0010, 4, 1⟩ = 1)) ∧
  (∀ (i : Fin 16) (sig info : Word) (s : State), s.bist.run = [{ idx := i.val, kinds := 2 }] → (s.warden i.val).st = .absent →
    (s.warden i.val).purpose = .test → s.tmr = [] →
    Runs (.bistComplete (i.castLE (by decide)) 3 sig info) s (fun u => u.bist.run = [] ∧ u.shows (fBIST_RES_result i.val) = 3 ∧
      u.rd (aBIST_FINFO i.val) = info ∧ u.bitAt aBIST_HELD i.val = true ∧ (u.warden i.val).st = .absent ∧ u.shows ⟨0x400E0010, 5, 1⟩ = 1)) ∧
  (∀ (i : Fin 17) (res : Nat) (info : Word) (s : State), s.bist.run = [{ idx := i.val, kinds := 1 }] → (s.warden i.val).st = .absent →
    (s.warden i.val).purpose = .test → s.tmr = [] →
    Runs (.bistComplete (i.castLE (by decide)) res (Config.bistRef i.val) info) s (fun u => u.bist.run = [] ∧
      u.shows (fBIST_RES_result i.val) = 1 ∧ u.rd (aBIST_SIG i.val) = Config.bistRef i.val ∧ (u.warden i.val).st = .run)) ∧
  (∀ (i : Fin 32) (res : Nat) (sig info : Word) (s : State), (∀ q ∈ s.bist.run, q.idx ≠ i.val) →
    Runs (.bistComplete i res sig info) s (fun u => u = s))
end

