-- ==== Sys2Proof/Laws/Tables.lean ====
section
/-! SUPPORT. Tables: their canonical form, and what they hold after an update. -/
namespace Sys2Proof.Laws
open Sys2Proof.Machine

/-! Tables in canonical form. -/

theorem sorted_mono {α : Type} [DecidableEq α] {d : Nat → α} {t : Tab α} {lo hi : Nat} (h : lo ≤ hi)
    (ht : Tab.sorted d hi t = true) : Tab.sorted d lo t = true := by
  cases t with
  | nil => rfl
  | cons x r =>
    obtain ⟨j, v⟩ := x
    simp only [Tab.sorted, Bool.and_eq_true, decide_eq_true_eq] at ht ⊢
    exact ⟨⟨Nat.le_trans h ht.1.1, ht.1.2⟩, ht.2⟩

theorem sorted_del {α : Type} [DecidableEq α] {d : Nat → α} (k : Nat) {t : Tab α} {lo : Nat}
    (ht : Tab.sorted d lo t = true) : Tab.sorted d lo (Tab.del t k) = true := by
  induction t generalizing lo with
  | nil => rfl
  | cons x r ih =>
    obtain ⟨j, v⟩ := x
    simp only [Tab.sorted, Bool.and_eq_true, decide_eq_true_eq] at ht
    unfold Tab.del
    split
    · exact ih (sorted_mono (by omega) ht.2)
    · simp only [Tab.sorted, Bool.and_eq_true, decide_eq_true_eq]
      exact ⟨ht.1, ih ht.2⟩

theorem sorted_ins {α : Type} [DecidableEq α] {d : Nat → α} {k : Nat} {v : α} (hv : v ≠ d k) {t : Tab α} {lo : Nat}
    (hlo : lo ≤ k) (ht : Tab.sorted d lo t = true) : Tab.sorted d lo (Tab.ins t k v) = true := by
  induction t generalizing lo with
  | nil => simp [Tab.ins, Tab.sorted, hlo, hv]
  | cons x r ih =>
    obtain ⟨j, w⟩ := x
    simp only [Tab.sorted, Bool.and_eq_true, decide_eq_true_eq] at ht
    unfold Tab.ins
    split
    · simp only [Tab.sorted, Bool.and_eq_true, decide_eq_true_eq]
      exact ⟨ht.1, ih (by omega) ht.2⟩
    · split
      · rename_i h; subst h
        simp [Tab.sorted, hlo, hv, ht.2]
      · simp only [Tab.sorted, Bool.and_eq_true, decide_eq_true_eq]
        exact ⟨⟨hlo, by simpa using hv⟩, ⟨by omega, ht.1.2⟩, ht.2⟩

theorem sorted_filter {α : Type} [DecidableEq α] {d : Nat → α} (p : Nat × α → Bool) {t : Tab α} {lo : Nat}
    (ht : Tab.sorted d lo t = true) : Tab.sorted d lo (t.filter p) = true := by
  induction t generalizing lo with
  | nil => rfl
  | cons x r ih =>
    obtain ⟨j, v⟩ := x
    simp only [Tab.sorted, Bool.and_eq_true, decide_eq_true_eq] at ht
    rw [List.filter_cons]
    split
    · simp only [Tab.sorted, Bool.and_eq_true, decide_eq_true_eq]
      exact ⟨ht.1, ih ht.2⟩
    · exact ih (sorted_mono (by omega) ht.2)

theorem sorted_filterMap {α : Type} [DecidableEq α] {d : Nat → α} {f : Nat × α → Option (Nat × α)}
    (hf : ∀ j v k w, f (j, v) = some (k, w) → k = j ∧ (v ≠ d j → w ≠ d j)) {t : Tab α} {lo : Nat}
    (ht : Tab.sorted d lo t = true) : Tab.sorted d lo (t.filterMap f) = true := by
  induction t generalizing lo with
  | nil => rfl
  | cons x r ih =>
    obtain ⟨j, v⟩ := x
    simp only [Tab.sorted, Bool.and_eq_true, decide_eq_true_eq] at ht
    rw [List.filterMap_cons]
    cases h : f (j, v) with
    | none => exact ih (sorted_mono (by omega) ht.2)
    | some y =>
      obtain ⟨k, w⟩ := y
      obtain ⟨rfl, hw⟩ := hf j v k w h
      simp only [Tab.sorted, Bool.and_eq_true, decide_eq_true_eq]
      exact ⟨⟨ht.1.1, by simpa using hw (by simpa using ht.1.2)⟩, ih ht.2⟩

theorem find_ins_same {α : Type} (t : Tab α) (k : Nat) (v : α) : Tab.find (Tab.ins t k v) k = some v := by
  induction t with
  | nil => simp [Tab.ins, Tab.find]
  | cons x r ih =>
    obtain ⟨j, w⟩ := x
    unfold Tab.ins
    split
    · rw [Tab.find, if_neg (by omega), ih]
    · split <;> simp [Tab.find]

theorem find_ins_ne {α : Type} (t : Tab α) {k j : Nat} (v : α) (h : k ≠ j) : Tab.find (Tab.ins t k v) j = Tab.find t j := by
  induction t with
  | nil => simp [Tab.ins, Tab.find, h]
  | cons x r ih =>
    obtain ⟨i, w⟩ := x
    unfold Tab.ins
    split
    · simp only [Tab.find, ih]
    · split
      · rename_i h'; subst h'; simp [Tab.find, h]
      · simp [Tab.find, h]

theorem find_del_same {α : Type} (t : Tab α) (k : Nat) : Tab.find (Tab.del t k) k = none := by
  induction t with
  | nil => rfl
  | cons x r ih =>
    obtain ⟨j, w⟩ := x
    unfold Tab.del
    split
    · exact ih
    · rename_i h; simp [Tab.find, h, ih]

theorem find_del_ne {α : Type} (t : Tab α) {k j : Nat} (h : k ≠ j) : Tab.find (Tab.del t k) j = Tab.find t j := by
  induction t with
  | nil => rfl
  | cons x r ih =>
    obtain ⟨i, w⟩ := x
    unfold Tab.del
    split
    · rename_i h'; subst h'; rw [ih, Tab.find, if_neg h]
    · simp [Tab.find, ih]

end Sys2Proof.Laws
end

