-- ==== Sys2Proof/Laws/Touch.lean ====
section
/-! SUPPORT. What an operation of a command may change: the parts of the state a mask names; the canonical form of memory
and registers, and the queue, it keeps. -/
namespace Sys2Proof.Laws
open Sys2Proof.Machine

/-- Bit `k` of a mask of parts. -/
def has (m k : Nat) : Bool := m / 2 ^ k % 2 == 1

/-- The number of a part in a mask. -/
def partNo : Part → Nat
  | .regs k => k.val
  | .mem => 18
  | .now => 19
  | .free => 20
  | .bnd => 21
  | .cmt => 22
  | .tmr => 23
  | .crcRun => 24
  | .bus => 25
  | .wardens => 26
  | .links => 27
  | .ctxs => 28
  | .stages => 29
  | .lanes => 30
  | .basil => 31
  | .giu => 32
  | .slewAcc => 33
  | .frames => 34
  | .tbgs => 35
  | .legs => 36
  | .mgs => 37
  | .trgs => 38
  | .ports => 39
  | .sats => 40
  | .sage => 41
  | .wdgs => 42
  | .tms => 43
  | .diss => 44
  | .livs => 45
  | .apcs => 46
  | .pair => 47
  | .msio => 48
  | .adcs => 49
  | .fbs => 50
  | .ress => 51
  | .emus => 52
  | .amu => 53
  | .cans => 54
  | .hpm => 55
  | .rosem => 56
  | .bist => 57

/-- Every part of the first mask is one of the second. -/
def Sub (m n : Nat) : Prop := ∀ k, has m k = true → has n k = true

theorem has_eq_testBit (m k : Nat) : has m k = m.testBit k := by
  rw [has, Nat.testBit_eq_decide_div_mod_eq]; rfl

theorem Sub.refl (m : Nat) : Sub m m := fun _ => id
theorem Sub.trans {a b c : Nat} (h : Sub a b) (k : Sub b c) : Sub a c := fun i hi => k i (h i hi)

/-- A mask the bits of which are among those of another one. -/
theorem Sub.up {a b c : Nat} (h : Sub b c) (e : Nat.lor a b = b) : Sub a c := by
  intro k hk
  refine h k ?_
  rw [has_eq_testBit] at hk ⊢
  rw [← e]
  show (a ||| b).testBit k = true
  rw [Nat.testBit_or, hk]; rfl

/-- The page of a register is one of a mask's parts. -/
def PageIn (m a : Nat) : Prop := has m (pageOf a) = true ∨ 18 ≤ pageOf a

theorem Sub.pg {m n a k : Nat} (h : Sub m n) (e : pageOf a = k) (b : has m k = true) : PageIn n a := .inl (h _ (e ▸ b))

theorem Sub.pgAny {m n : Nat} (h : Sub m n) (e : Nat.lor 0x3FFFF m = m) (a : Nat) : PageIn n a := by
  by_cases hp : pageOf a < 18
  · refine .inl (h _ ((Sub.refl m).up e _ ?_))
    have key : ∀ k : Fin 18, has 0x3FFFF k.val = true := by decide
    exact key ⟨_, hp⟩
  · exact .inr (by omega)

theorem page_raw {h i k : Nat} (e : pageOf (h + 0x10) = k) : pageOf (hRaw h i).addr = k := e
theorem page_err {h i k : Nat} (e : pageOf (h + 0x1C) = k) : pageOf (hErr h i).addr = k := e

/-- The page of the header that reports an access at an address of a page: the legs and groups belong to THY. -/
def homePage (k : Nat) : Nat := if k = 3 then 2 else k

/-- The header that reports an access at an address is one of a mask's parts. -/
def HomeIn (m a : Nat) : Prop := has m (homePage (pageOf a)) = true ∨ 18 ≤ homePage (pageOf a)

theorem Sub.home {m n a k : Nat} (h : Sub m n) (e : pageOf a = k) (b : has m (homePage k) = true) : HomeIn n a := .inl (h _ (e ▸ b))

theorem Sub.homeAny {m n : Nat} (h : Sub m n) (e : Nat.lor 0x3FFFF m = m) (a : Nat) : HomeIn n a := by
  unfold HomeIn
  generalize homePage (pageOf a) = q
  by_cases hp : q < 18
  · refine .inl (h _ ((Sub.refl m).up e _ ?_))
    have key : ∀ k : Fin 18, has 0x3FFFF k.val = true := by decide
    exact key ⟨_, hp⟩
  · exact .inr (by omega)

theorem page_hdr {m : Nat} {b : Block} {k : Nat} (h : PageIn m (hdr b)) (hk : k < 0x100) : PageIn m (hdr b + k) := by
  have e : pageOf (hdr b + k) = pageOf (hdr b) := by cases b <;> dsimp only [pageOf, hdr] <;> omega
  unfold PageIn
  rw [e]
  exact h

theorem peel {α : Type} {c : Prop} [Decidable c] {p q : Option α} {b : α} (h : (if c then p else q) = some b) :
    c ∧ p = some b ∨ ¬c ∧ q = some b := by
  split at h
  · exact .inl ⟨‹_›, h⟩
  · exact .inr ⟨‹_›, h⟩

theorem home_of {a : Nat} {b : Block} (h : blockAt a = some b) : pageOf (hdr b) = homePage (pageOf a) := by
  unfold blockAt at h
  obtain ⟨_, h⟩ | ⟨_, h⟩ := peel h
  · cases h
  obtain ⟨_, h⟩ | ⟨_, h⟩ := peel h
  · cases h
    have e : pageOf a = 0 := by unfold pageOf; omega
    rw [e]; rfl
  obtain ⟨_, h⟩ | ⟨_, h⟩ := peel h
  · cases h
    have e : pageOf a = 0 := by unfold pageOf; omega
    rw [e]; rfl
  obtain ⟨_, h⟩ | ⟨_, h⟩ := peel h
  · cases h
    have e : pageOf a = 1 := by unfold pageOf; omega
    rw [e]; rfl
  obtain ⟨_, h⟩ | ⟨_, h⟩ := peel h
  · cases h
    have e : pageOf a = 2 ∨ pageOf a = 3 := by unfold pageOf; omega
    obtain e | e := e <;> rw [e] <;> rfl
  obtain ⟨_, h⟩ | ⟨_, h⟩ := peel h
  · cases h
    have e : pageOf a = 4 := by unfold pageOf; omega
    rw [e]; rfl
  obtain ⟨_, h⟩ | ⟨_, h⟩ := peel h
  · cases h
    have e : pageOf a = 5 := by unfold pageOf; omega
    rw [e]; rfl
  obtain ⟨_, h⟩ | ⟨_, h⟩ := peel h
  · cases h
    have e : pageOf a = 6 := by unfold pageOf; omega
    rw [e]; rfl
  obtain ⟨_, h⟩ | ⟨_, h⟩ := peel h
  · have e : pageOf a = 7 := by unfold pageOf; omega
    simp only [Option.some.injEq] at h
    subst h
    rw [e]
    split
    · show pageOf _ = 7
      dsimp only [hdr, pageOf]; omega
    · rfl
  obtain ⟨_, h⟩ | ⟨_, h⟩ := peel h
  · cases h
    have e : pageOf a = 8 := by unfold pageOf; omega
    rw [e]; rfl
  obtain ⟨_, h⟩ | ⟨_, h⟩ := peel h
  · cases h
    have e : pageOf a = 9 := by unfold pageOf; omega
    rw [e]; rfl
  obtain ⟨_, h⟩ | ⟨_, h⟩ := peel h
  · have e : pageOf a = 10 := by unfold pageOf; omega
    simp only [Option.some.injEq] at h
    subst h
    rw [e]
    split
    · show pageOf _ = 10
      dsimp only [hdr, pageOf]; omega
    · rfl
  obtain ⟨_, h⟩ | ⟨_, h⟩ := peel h
  · cases h
    have e : pageOf a = 11 := by unfold pageOf; omega
    rw [e]; rfl
  obtain ⟨_, h⟩ | ⟨_, h⟩ := peel h
  · cases h
    have e : pageOf a = 12 := by unfold pageOf; omega
    rw [e]; rfl
  obtain ⟨_, h⟩ | ⟨_, h⟩ := peel h
  · cases h
    have e : pageOf a = 13 := by unfold pageOf; omega
    rw [e]; rfl
  obtain ⟨_, h⟩ | ⟨_, h⟩ := peel h
  · cases h
    have e : pageOf a = 14 := by unfold pageOf; omega
    rw [e]; rfl
  obtain ⟨_, h⟩ | ⟨_, h⟩ := peel h
  · cases h
    have e : pageOf a = 15 := by unfold pageOf; omega
    rw [e]; rfl
  obtain ⟨_, h⟩ | ⟨_, h⟩ := peel h
  · cases h
    have e : pageOf a = 16 := by unfold pageOf; omega
    rw [e]; rfl
  obtain ⟨_, h⟩ | ⟨_, h⟩ := peel h
  · cases h
    have e : pageOf a = 17 := by unfold pageOf; omega
    rw [e]; rfl
  cases h

/-- What an operation of a command does: at most the parts of a mask change, the queue stays, and memory and registers keep
their canonical form. -/
def Touch (m : Nat) (s t : State) : Prop :=
  t.pending = s.pending ∧ (Memory.wf s.mem = true → Memory.wf t.mem = true)
    ∧ (Registers.wf s.regs = true → Registers.wf t.regs = true) ∧ ∀ p, has m (partNo p) = false → Part.same s t p

theorem same_trans {s t u : State} {p : Part} (h : Part.same s t p) (k : Part.same t u p) : Part.same s u p := by
  cases p with
  | regs => exact fun a ha => (k a ha).trans (h a ha)
  | _ => exact Eq.trans k h

theorem same_refl (s : State) (p : Part) : Part.same s s p := by
  cases p with
  | regs => exact fun _ _ => rfl
  | _ => rfl

variable {m : Nat} {x s t u : State}

theorem Touch.rfl' (m : Nat) (s : State) : Touch m s s := ⟨rfl, id, id, fun _ _ => same_refl _ _⟩

theorem Touch.trans (h : Touch m s t) (k : Touch m t u) : Touch m s u :=
  ⟨k.1.trans h.1, fun w => k.2.1 (h.2.1 w), fun w => k.2.2.1 (h.2.2.1 w), fun p hp => same_trans (h.2.2.2 p hp) (k.2.2.2 p hp)⟩

theorem Touch.mono {n : Nat} (hm : Sub m n) (h : Touch m s t) : Touch n s t :=
  ⟨h.1, h.2.1, h.2.2.1, fun p hp => h.2.2.2 p (by
    cases e : has m (partNo p) with
    | false => rfl
    | true => rw [hm _ e] at hp; cases hp)⟩

theorem Touch.ite_ {c : Prop} [Decidable c] (h : Touch m x s) (k : Touch m x t) : Touch m x (if c then s else t) := by
  split <;> assumption

theorem Touch.when_ {c : Bool} {f : State → State} (h : Touch m x s) (k : ∀ y, Touch m x y → Touch m x (f y)) :
    Touch m x (s.when c f) := by
  unfold State.when
  split
  · exact k _ h
  · exact h

theorem Touch.each_ {α : Type} {l : List α} {f : α → State → State} (h : Touch m x s)
    (k : ∀ a y, Touch m x y → Touch m x (f a y)) : Touch m x (s.each l f) := by
  unfold State.each
  induction l generalizing s with
  | nil => exact h
  | cons a r ih => exact ih (k a s h)

theorem Touch.foldl_ {α : Type} {l : List α} {f : State → α → State} (h : Touch m x s)
    (k : ∀ a y, Touch m x y → Touch m x (f y a)) : Touch m x (l.foldl f s) := by
  induction l generalizing s with
  | nil => exact h
  | cons a r ih => exact ih (k a s h)

theorem Touch.foldl_fst {α β : Type} {p : State × β} {l : List α} {f : State × β → α → State × β} (h : Touch m x p.1)
    (k : ∀ a p, Touch m x p.1 → Touch m x (f p a).1) : Touch m x (l.foldl f p).1 := by
  induction l generalizing p with
  | nil => exact h
  | cons a r ih => exact ih (k a p h)

theorem Touch.foldl_snd {α β : Type} {p : β × State} {l : List α} {f : β × State → α → β × State} (h : Touch m x p.2)
    (k : ∀ a p, Touch m x p.2 → Touch m x (f p a).2) : Touch m x (l.foldl f p).2 := by
  induction l generalizing p with
  | nil => exact h
  | cons a r ih => exact ih (k a p h)

/-! The fields of State. -/

theorem touch_setNow (hm : Sub 0x80000 m) (s : State) (v) (hs : Touch m x s) : Touch m x (s.setNow v) := by
  refine hs.trans ⟨rfl, id, id, fun p hp => ?_⟩
  cases p with
  | now => exact nomatch (hm 19 rfl).symm.trans hp
  | regs => exact fun _ _ => rfl
  | _ => rfl

theorem touch_setFree (hm : Sub 0x100000 m) (s : State) (v) (hs : Touch m x s) : Touch m x (s.setFree v) := by
  refine hs.trans ⟨rfl, id, id, fun p hp => ?_⟩
  cases p with
  | free => exact nomatch (hm 20 rfl).symm.trans hp
  | regs => exact fun _ _ => rfl
  | _ => rfl

theorem touch_setBnd (hm : Sub 0x200000 m) (s : State) (v) (hs : Touch m x s) : Touch m x (s.setBnd v) := by
  refine hs.trans ⟨rfl, id, id, fun p hp => ?_⟩
  cases p with
  | bnd => exact nomatch (hm 21 rfl).symm.trans hp
  | regs => exact fun _ _ => rfl
  | _ => rfl

theorem touch_setCmt (hm : Sub 0x400000 m) (s : State) (v) (hs : Touch m x s) : Touch m x (s.setCmt v) := by
  refine hs.trans ⟨rfl, id, id, fun p hp => ?_⟩
  cases p with
  | cmt => exact nomatch (hm 22 rfl).symm.trans hp
  | regs => exact fun _ _ => rfl
  | _ => rfl

theorem touch_setTmr (hm : Sub 0x800000 m) (s : State) (v) (hs : Touch m x s) : Touch m x (s.setTmr v) := by
  refine hs.trans ⟨rfl, id, id, fun p hp => ?_⟩
  cases p with
  | tmr => exact nomatch (hm 23 rfl).symm.trans hp
  | regs => exact fun _ _ => rfl
  | _ => rfl

theorem touch_setCrcRun (hm : Sub 0x1000000 m) (s : State) (v) (hs : Touch m x s) : Touch m x (s.setCrcRun v) := by
  refine hs.trans ⟨rfl, id, id, fun p hp => ?_⟩
  cases p with
  | crcRun => exact nomatch (hm 24 rfl).symm.trans hp
  | regs => exact fun _ _ => rfl
  | _ => rfl

theorem touch_setBus (hm : Sub 0x2000000 m) (s : State) (v) (hs : Touch m x s) : Touch m x (s.setBus v) := by
  refine hs.trans ⟨rfl, id, id, fun p hp => ?_⟩
  cases p with
  | bus => exact nomatch (hm 25 rfl).symm.trans hp
  | regs => exact fun _ _ => rfl
  | _ => rfl

theorem touch_setWardens (hm : Sub 0x4000000 m) (s : State) (v) (hs : Touch m x s) : Touch m x (s.setWardens v) := by
  refine hs.trans ⟨rfl, id, id, fun p hp => ?_⟩
  cases p with
  | wardens => exact nomatch (hm 26 rfl).symm.trans hp
  | regs => exact fun _ _ => rfl
  | _ => rfl

theorem touch_setLinks (hm : Sub 0x8000000 m) (s : State) (v) (hs : Touch m x s) : Touch m x (s.setLinks v) := by
  refine hs.trans ⟨rfl, id, id, fun p hp => ?_⟩
  cases p with
  | links => exact nomatch (hm 27 rfl).symm.trans hp
  | regs => exact fun _ _ => rfl
  | _ => rfl

theorem touch_setCtxs (hm : Sub 0x10000000 m) (s : State) (v) (hs : Touch m x s) : Touch m x (s.setCtxs v) := by
  refine hs.trans ⟨rfl, id, id, fun p hp => ?_⟩
  cases p with
  | ctxs => exact nomatch (hm 28 rfl).symm.trans hp
  | regs => exact fun _ _ => rfl
  | _ => rfl

theorem touch_setStages (hm : Sub 0x20000000 m) (s : State) (v) (hs : Touch m x s) : Touch m x (s.setStages v) := by
  refine hs.trans ⟨rfl, id, id, fun p hp => ?_⟩
  cases p with
  | stages => exact nomatch (hm 29 rfl).symm.trans hp
  | regs => exact fun _ _ => rfl
  | _ => rfl

theorem touch_setLanes (hm : Sub 0x40000000 m) (s : State) (v) (hs : Touch m x s) : Touch m x (s.setLanes v) := by
  refine hs.trans ⟨rfl, id, id, fun p hp => ?_⟩
  cases p with
  | lanes => exact nomatch (hm 30 rfl).symm.trans hp
  | regs => exact fun _ _ => rfl
  | _ => rfl

theorem touch_setBasil (hm : Sub 0x80000000 m) (s : State) (v) (hs : Touch m x s) : Touch m x (s.setBasil v) := by
  refine hs.trans ⟨rfl, id, id, fun p hp => ?_⟩
  cases p with
  | basil => exact nomatch (hm 31 rfl).symm.trans hp
  | regs => exact fun _ _ => rfl
  | _ => rfl

theorem touch_setGiu (hm : Sub 0x100000000 m) (s : State) (v) (hs : Touch m x s) : Touch m x (s.setGiu v) := by
  refine hs.trans ⟨rfl, id, id, fun p hp => ?_⟩
  cases p with
  | giu => exact nomatch (hm 32 rfl).symm.trans hp
  | regs => exact fun _ _ => rfl
  | _ => rfl

theorem touch_setSlewAcc (hm : Sub 0x200000000 m) (s : State) (v) (hs : Touch m x s) : Touch m x (s.setSlewAcc v) := by
  refine hs.trans ⟨rfl, id, id, fun p hp => ?_⟩
  cases p with
  | slewAcc => exact nomatch (hm 33 rfl).symm.trans hp
  | regs => exact fun _ _ => rfl
  | _ => rfl

theorem touch_setFrames (hm : Sub 0x400000000 m) (s : State) (v) (hs : Touch m x s) : Touch m x (s.setFrames v) := by
  refine hs.trans ⟨rfl, id, id, fun p hp => ?_⟩
  cases p with
  | frames => exact nomatch (hm 34 rfl).symm.trans hp
  | regs => exact fun _ _ => rfl
  | _ => rfl

theorem touch_setTbgs (hm : Sub 0x800000000 m) (s : State) (v) (hs : Touch m x s) : Touch m x (s.setTbgs v) := by
  refine hs.trans ⟨rfl, id, id, fun p hp => ?_⟩
  cases p with
  | tbgs => exact nomatch (hm 35 rfl).symm.trans hp
  | regs => exact fun _ _ => rfl
  | _ => rfl

theorem touch_setLegs (hm : Sub 0x1000000000 m) (s : State) (v) (hs : Touch m x s) : Touch m x (s.setLegs v) := by
  refine hs.trans ⟨rfl, id, id, fun p hp => ?_⟩
  cases p with
  | legs => exact nomatch (hm 36 rfl).symm.trans hp
  | regs => exact fun _ _ => rfl
  | _ => rfl

theorem touch_setMgs (hm : Sub 0x2000000000 m) (s : State) (v) (hs : Touch m x s) : Touch m x (s.setMgs v) := by
  refine hs.trans ⟨rfl, id, id, fun p hp => ?_⟩
  cases p with
  | mgs => exact nomatch (hm 37 rfl).symm.trans hp
  | regs => exact fun _ _ => rfl
  | _ => rfl

theorem touch_setTrgs (hm : Sub 0x4000000000 m) (s : State) (v) (hs : Touch m x s) : Touch m x (s.setTrgs v) := by
  refine hs.trans ⟨rfl, id, id, fun p hp => ?_⟩
  cases p with
  | trgs => exact nomatch (hm 38 rfl).symm.trans hp
  | regs => exact fun _ _ => rfl
  | _ => rfl

theorem touch_setPorts (hm : Sub 0x8000000000 m) (s : State) (v) (hs : Touch m x s) : Touch m x (s.setPorts v) := by
  refine hs.trans ⟨rfl, id, id, fun p hp => ?_⟩
  cases p with
  | ports => exact nomatch (hm 39 rfl).symm.trans hp
  | regs => exact fun _ _ => rfl
  | _ => rfl

theorem touch_setSats (hm : Sub 0x10000000000 m) (s : State) (v) (hs : Touch m x s) : Touch m x (s.setSats v) := by
  refine hs.trans ⟨rfl, id, id, fun p hp => ?_⟩
  cases p with
  | sats => exact nomatch (hm 40 rfl).symm.trans hp
  | regs => exact fun _ _ => rfl
  | _ => rfl

theorem touch_setSage (hm : Sub 0x20000000000 m) (s : State) (v) (hs : Touch m x s) : Touch m x (s.setSage v) := by
  refine hs.trans ⟨rfl, id, id, fun p hp => ?_⟩
  cases p with
  | sage => exact nomatch (hm 41 rfl).symm.trans hp
  | regs => exact fun _ _ => rfl
  | _ => rfl

theorem touch_setWdgs (hm : Sub 0x40000000000 m) (s : State) (v) (hs : Touch m x s) : Touch m x (s.setWdgs v) := by
  refine hs.trans ⟨rfl, id, id, fun p hp => ?_⟩
  cases p with
  | wdgs => exact nomatch (hm 42 rfl).symm.trans hp
  | regs => exact fun _ _ => rfl
  | _ => rfl

theorem touch_setTms (hm : Sub 0x80000000000 m) (s : State) (v) (hs : Touch m x s) : Touch m x (s.setTms v) := by
  refine hs.trans ⟨rfl, id, id, fun p hp => ?_⟩
  cases p with
  | tms => exact nomatch (hm 43 rfl).symm.trans hp
  | regs => exact fun _ _ => rfl
  | _ => rfl

theorem touch_setDiss (hm : Sub 0x100000000000 m) (s : State) (v) (hs : Touch m x s) : Touch m x (s.setDiss v) := by
  refine hs.trans ⟨rfl, id, id, fun p hp => ?_⟩
  cases p with
  | diss => exact nomatch (hm 44 rfl).symm.trans hp
  | regs => exact fun _ _ => rfl
  | _ => rfl

theorem touch_setLivs (hm : Sub 0x200000000000 m) (s : State) (v) (hs : Touch m x s) : Touch m x (s.setLivs v) := by
  refine hs.trans ⟨rfl, id, id, fun p hp => ?_⟩
  cases p with
  | livs => exact nomatch (hm 45 rfl).symm.trans hp
  | regs => exact fun _ _ => rfl
  | _ => rfl

theorem touch_setApcs (hm : Sub 0x400000000000 m) (s : State) (v) (hs : Touch m x s) : Touch m x (s.setApcs v) := by
  refine hs.trans ⟨rfl, id, id, fun p hp => ?_⟩
  cases p with
  | apcs => exact nomatch (hm 46 rfl).symm.trans hp
  | regs => exact fun _ _ => rfl
  | _ => rfl

theorem touch_setPair (hm : Sub 0x800000000000 m) (s : State) (v) (hs : Touch m x s) : Touch m x (s.setPair v) := by
  refine hs.trans ⟨rfl, id, id, fun p hp => ?_⟩
  cases p with
  | pair => exact nomatch (hm 47 rfl).symm.trans hp
  | regs => exact fun _ _ => rfl
  | _ => rfl

theorem touch_setMsio (hm : Sub 0x1000000000000 m) (s : State) (v) (hs : Touch m x s) : Touch m x (s.setMsio v) := by
  refine hs.trans ⟨rfl, id, id, fun p hp => ?_⟩
  cases p with
  | msio => exact nomatch (hm 48 rfl).symm.trans hp
  | regs => exact fun _ _ => rfl
  | _ => rfl

theorem touch_setAdcs (hm : Sub 0x2000000000000 m) (s : State) (v) (hs : Touch m x s) : Touch m x (s.setAdcs v) := by
  refine hs.trans ⟨rfl, id, id, fun p hp => ?_⟩
  cases p with
  | adcs => exact nomatch (hm 49 rfl).symm.trans hp
  | regs => exact fun _ _ => rfl
  | _ => rfl

theorem touch_setFbs (hm : Sub 0x4000000000000 m) (s : State) (v) (hs : Touch m x s) : Touch m x (s.setFbs v) := by
  refine hs.trans ⟨rfl, id, id, fun p hp => ?_⟩
  cases p with
  | fbs => exact nomatch (hm 50 rfl).symm.trans hp
  | regs => exact fun _ _ => rfl
  | _ => rfl

theorem touch_setRess (hm : Sub 0x8000000000000 m) (s : State) (v) (hs : Touch m x s) : Touch m x (s.setRess v) := by
  refine hs.trans ⟨rfl, id, id, fun p hp => ?_⟩
  cases p with
  | ress => exact nomatch (hm 51 rfl).symm.trans hp
  | regs => exact fun _ _ => rfl
  | _ => rfl

theorem touch_setEmus (hm : Sub 0x10000000000000 m) (s : State) (v) (hs : Touch m x s) : Touch m x (s.setEmus v) := by
  refine hs.trans ⟨rfl, id, id, fun p hp => ?_⟩
  cases p with
  | emus => exact nomatch (hm 52 rfl).symm.trans hp
  | regs => exact fun _ _ => rfl
  | _ => rfl

theorem touch_setAmu (hm : Sub 0x20000000000000 m) (s : State) (v) (hs : Touch m x s) : Touch m x (s.setAmu v) := by
  refine hs.trans ⟨rfl, id, id, fun p hp => ?_⟩
  cases p with
  | amu => exact nomatch (hm 53 rfl).symm.trans hp
  | regs => exact fun _ _ => rfl
  | _ => rfl

theorem touch_setCans (hm : Sub 0x40000000000000 m) (s : State) (v) (hs : Touch m x s) : Touch m x (s.setCans v) := by
  refine hs.trans ⟨rfl, id, id, fun p hp => ?_⟩
  cases p with
  | cans => exact nomatch (hm 54 rfl).symm.trans hp
  | regs => exact fun _ _ => rfl
  | _ => rfl

theorem touch_setHpm (hm : Sub 0x80000000000000 m) (s : State) (v) (hs : Touch m x s) : Touch m x (s.setHpm v) := by
  refine hs.trans ⟨rfl, id, id, fun p hp => ?_⟩
  cases p with
  | hpm => exact nomatch (hm 55 rfl).symm.trans hp
  | regs => exact fun _ _ => rfl
  | _ => rfl

theorem touch_setRosem (hm : Sub 0x100000000000000 m) (s : State) (v) (hs : Touch m x s) : Touch m x (s.setRosem v) := by
  refine hs.trans ⟨rfl, id, id, fun p hp => ?_⟩
  cases p with
  | rosem => exact nomatch (hm 56 rfl).symm.trans hp
  | regs => exact fun _ _ => rfl
  | _ => rfl

theorem touch_setBist (hm : Sub 0x200000000000000 m) (s : State) (v) (hs : Touch m x s) : Touch m x (s.setBist v) := by
  refine hs.trans ⟨rfl, id, id, fun p hp => ?_⟩
  cases p with
  | bist => exact nomatch (hm 57 rfl).symm.trans hp
  | regs => exact fun _ _ => rfl
  | _ => rfl

/-- Memory replaced by one of canonical form. -/
theorem touch_mem (hm : Sub 0x40000 m) {v : List Host.Cell} (hv : Memory.wf s.mem = true → Memory.wf v = true) (hs : Touch m x s) :
    Touch m x (s.setMem v) := by
  refine hs.trans ⟨rfl, hv, id, fun p hp => ?_⟩
  cases p with
  | mem => exact nomatch (hm 18 rfl).symm.trans hp
  | regs => exact fun _ _ => rfl
  | _ => rfl

/-- Registers replaced by ones of canonical form, on any page. -/
theorem touch_regs (hm : Sub 0x3FFFF m) {v : Tab Word} (hv : Registers.wf s.regs = true → Registers.wf v = true) (hs : Touch m x s) :
    Touch m x (s.setRegs v) := by
  refine hs.trans ⟨rfl, id, hv, fun p hp => ?_⟩
  cases p with
  | regs k =>
    have key : ∀ k : Fin 18, has 0x3FFFF k.val = true := by decide
    exact nomatch (hm _ (key k)).symm.trans hp
  | _ => rfl

/-! Registers. -/

theorem rd_wr_ne (s : State) {a b : Nat} (v : Word) (h : a ≠ b) : (s.wr a v).rd b = s.rd b := by
  show (Tab.find (if v = resetOf (a % 2 ^ 32) then Tab.del s.regs a else Tab.ins s.regs a v) b).getD _ = _
  split
  · rw [find_del_ne _ h]; rfl
  · rw [find_ins_ne _ _ h]; rfl

theorem rd_wr_same (s : State) (a : Nat) (v : Word) : (s.wr a v).rd a = v := by
  show (Tab.find (if v = resetOf (a % 2 ^ 32) then Tab.del s.regs a else Tab.ins s.regs a v) a).getD _ = _
  split
  · rename_i h; rw [find_del_same]; exact h.symm
  · rw [find_ins_same]; rfl

theorem regs_wr_wf (s : State) (a : Nat) (v : Word) (h : Registers.wf s.regs = true) : Registers.wf (s.wr a v).regs = true := by
  show Registers.wf (if v = resetOf (a % 2 ^ 32) then Tab.del s.regs a else Tab.ins s.regs a v) = true
  split
  · exact sorted_del _ h
  · rename_i hv; exact sorted_ins (d := fun a => resetOf (a % 2 ^ 32)) hv (Nat.zero_le _) h

theorem touch_wr {a : Nat} (ha : PageIn m a) (s : State) (v : Word) (hs : Touch m x s) : Touch m x (s.wr a v) := by
  refine hs.trans ⟨rfl, id, regs_wr_wf s a v, fun p hp => ?_⟩
  cases p with
  | regs k =>
    intro b hb
    refine rd_wr_ne s v ?_
    rintro rfl
    obtain h | h := ha
    · rw [hb] at h; exact nomatch h.symm.trans hp
    · omega
  | _ => rfl

theorem touch_put {f : Fld} (ha : PageIn m f.addr) (s : State) (v) (hs : Touch m x s) : Touch m x (s.put f v) := touch_wr ha _ _ hs
theorem touch_raise {f : Fld} (ha : PageIn m f.addr) (s : State) (hs : Touch m x s) : Touch m x (s.raise f) := touch_wr ha _ _ hs
theorem touch_lower {f : Fld} (ha : PageIn m f.addr) (s : State) (hs : Touch m x s) : Touch m x (s.lower f) := touch_wr ha _ _ hs
theorem touch_putB {f : Fld} (ha : PageIn m f.addr) (s : State) (b) (hs : Touch m x s) : Touch m x (s.putB f b) := touch_wr ha _ _ hs
theorem touch_incr {f : Fld} (ha : PageIn m f.addr) (s : State) (hs : Touch m x s) : Touch m x (s.incr f) := touch_wr ha _ _ hs
theorem touch_incrSat {f : Fld} (ha : PageIn m f.addr) (s : State) (hs : Touch m x s) : Touch m x (s.incrSat f) := touch_wr ha _ _ hs
theorem touch_addTo {f : Fld} (ha : PageIn m f.addr) (s : State) (n) (hs : Touch m x s) : Touch m x (s.addTo f n) := touch_wr ha _ _ hs
theorem touch_addSat {f : Fld} (ha : PageIn m f.addr) (s : State) (n) (hs : Touch m x s) : Touch m x (s.addSat f n) := touch_wr ha _ _ hs
theorem touch_putBit {a i : Nat} (ha : PageIn m (bitFld a i).addr) (s : State) (b) (hs : Touch m x s) : Touch m x (s.putBit a i b) :=
  touch_wr ha _ _ hs
theorem touch_irq {h i : Nat} (ha : PageIn m (hRaw h i).addr) (s : State) (hs : Touch m x s) : Touch m x (s.irq h i) := touch_wr ha _ _ hs
theorem touch_errSet {h i : Nat} (ha : PageIn m (hErr h i).addr) (hb : PageIn m (hRaw h 0).addr) (s : State) (hs : Touch m x s) :
    Touch m x (s.errSet h i) := Touch.ite_ hs (touch_irq hb _ (touch_raise ha _ hs))

/-! Memory. -/

theorem write_wf (l : List Host.Cell) (a : Nat) (v : Byte) (h : Memory.wf l = true) : Memory.wf (Memory.write l a v) = true := by
  unfold Memory.write
  split
  · exact sorted_del _ h
  · rename_i hv; exact sorted_ins hv (Nat.zero_le _) h

theorem foldl_write_wf (l : List (Byte × Nat)) (c : List Host.Cell) (h : Memory.wf c = true) :
    Memory.wf (l.foldl (fun c (v, i) => Memory.write c i v) c) = true := by
  induction l generalizing c with
  | nil => exact h
  | cons y r ih => exact ih _ (write_wf _ _ _ h)

theorem touch_memPut (hm : Sub 0x40000 m) (s : State) (a) (v) (hs : Touch m x s) : Touch m x (s.memPut a v) :=
  touch_mem hm (fun h => write_wf _ _ _ (write_wf _ _ _ (write_wf _ _ _ (write_wf _ _ _ h)))) hs

theorem touch_memBytes (hm : Sub 0x40000 m) (s : State) (a) (bs) (hs : Touch m x s) : Touch m x (s.memBytes a bs) :=
  touch_mem hm (fun h => foldl_write_wf _ _ h) hs

end Sys2Proof.Laws
end

