-- ==== Sys2Proof/Laws/Registers.lean ====
section
/-! SUPPORT. What a register field reads after a field was written. -/
namespace Sys2Proof.Laws
open Sys2Proof.Machine

theorem fld_testBit (x : Word) (lo w i : Nat) : (x.fld lo w).testBit i = (decide (i < w) && x.getLsbD (lo + i)) := by
  unfold Word.fld BitVec.getLsbD
  rw [Nat.testBit_mod_two_pow, Nat.testBit_div_two_pow, Nat.add_comm]

theorem getLsbD_ins (x : Word) (lo w v i : Nat) : (x.ins lo w v).getLsbD i =
    if lo ≤ i ∧ i < lo + w ∧ i < 32 then v.testBit (i - lo) else x.getLsbD i := by
  unfold Word.ins Word.mask
  simp only [BitVec.getLsbD_or, BitVec.getLsbD_and, BitVec.getLsbD_not, BitVec.getLsbD_ofNat, Nat.testBit_mul_two_pow,
    Nat.testBit_two_pow_sub_one, Nat.testBit_mod_two_pow]
  by_cases h32 : i < 32
  · by_cases hl : lo ≤ i
    · by_cases hw : i - lo < w
      · rw [if_pos ⟨hl, by omega, h32⟩]; simp [hl, hw, h32]
      · rw [if_neg (by omega)]; simp [hl, hw, h32]
    · rw [if_neg (by omega)]; simp [hl, h32]
  · rw [if_neg (by omega), BitVec.getLsbD_of_ge x i (by omega)]; simp [h32]

/-- A field just written holds the value's low bits. -/
theorem fld_ins_same (x : Word) {lo w : Nat} (v : Nat) (h : lo + w ≤ 32) : (x.ins lo w v).fld lo w = v % 2 ^ w := by
  refine Nat.eq_of_testBit_eq fun i => ?_
  rw [fld_testBit, getLsbD_ins, Nat.testBit_mod_two_pow]
  by_cases hi : i < w
  · rw [if_pos ⟨by omega, by omega, by omega⟩]; simp
  · simp [hi]

/-- A field that shares no bit with the one written keeps its value. -/
theorem fld_ins_disj (x : Word) {lo w lo' w' : Nat} (v : Nat) (h : lo' + w' ≤ lo ∨ lo + w ≤ lo') :
    (x.ins lo w v).fld lo' w' = x.fld lo' w' := by
  refine Nat.eq_of_testBit_eq fun i => ?_
  rw [fld_testBit, fld_testBit, getLsbD_ins]
  by_cases hi : i < w'
  · rw [if_neg (by omega)]
  · simp [hi]

theorem shows_put (s : State) (f : Fld) (v : Nat) (h : f.lo + f.w ≤ 32) : (s.put f v).shows f = v % 2 ^ f.w := by
  unfold State.shows State.put
  rw [rd_wr_same, fld_ins_same _ _ h]

theorem shows_put_ne (s : State) {f g : Fld} (v : Nat) (h : f.addr ≠ g.addr) : (s.put f v).shows g = s.shows g := by
  unfold State.shows State.put
  rw [rd_wr_ne _ _ h]

theorem shows_put_disj (s : State) {f g : Fld} (v : Nat) (h : g.lo + g.w ≤ f.lo ∨ f.lo + f.w ≤ g.lo) :
    (s.put f v).shows g = s.shows g := by
  by_cases e : f.addr = g.addr
  · unfold State.shows State.put
    rw [← e, rd_wr_same, fld_ins_disj _ _ h]
  · exact shows_put_ne s v e

theorem shows_wr (s : State) (f : Fld) (v : Word) : (s.wr f.addr v).shows f = v.fld f.lo f.w := by
  unfold State.shows
  rw [rd_wr_same]

theorem shows_wr_ne (s : State) {a : Nat} {g : Fld} (v : Word) (h : a ≠ g.addr) : (s.wr a v).shows g = s.shows g := by
  unfold State.shows
  rw [rd_wr_ne _ _ h]

/-- Where the copies of a register agree, the device uses what the register holds. -/
theorem get_eq_shows (s : State) (f : Fld) (h : Tab.find s.tmr f.addr = none) : s.get f = s.shows f := by
  unfold State.get State.shows State.use
  rw [h]

/-- Copies that agree everywhere. -/
theorem get_eq_shows' (s : State) (f : Fld) (h : s.tmr = []) : s.get f = s.shows f := get_eq_shows s f (by rw [h]; rfl)

theorem settle_of_nil (s : State) (h : s.sage.inbox = []) : settle s = s := by
  unfold settle drain
  rw [h]; rfl

theorem onlyRegs_wr {s u : State} {l : List Nat} {a : Nat} (v : Word) (ha : a ∈ l) (h : OnlyRegs l s u) : OnlyRegs l s (u.wr a v) := by
  intro b hb
  have e : a ≠ b := fun e => hb (e ▸ ha)
  rw [rd_wr_ne _ _ e, h b hb]

theorem onlyRegs_put {s u : State} {l : List Nat} {f : Fld} (v : Nat) (ha : f.addr ∈ l) (h : OnlyRegs l s u) :
    OnlyRegs l s (u.put f v) := onlyRegs_wr _ ha h

theorem OnlyRegs.refl (l : List Nat) (s : State) : OnlyRegs l s s := fun _ _ => rfl

theorem access_of_grants {s : State} {r : Req} {a : Nat} {wr : Bool} (h : s.grants r a wr = true) (k : State → State) :
    ∃ b, blockAt a = some b ∧ access r a wr k s = k (s.granted r b) := by
  unfold State.grants at h
  unfold access
  split at h
  · rename_i b e
    simp only [beq_iff_eq] at h
    rw [e]
    dsimp only
    rw [h]
    exact ⟨b, rfl, rfl⟩
  · cases h

theorem cmdAt_of_grants {s : State} {r : Req} {a : Nat} (h : s.grants r a true = true) (k : State → State) :
    ∃ b, blockAt a = some b ∧ cmdAt r a k s = .next (settle (k (s.granted r b))) := by
  obtain ⟨b, e, h⟩ := access_of_grants h k
  refine ⟨b, e, ?_⟩
  unfold cmdAt done
  rw [h]

end Sys2Proof.Laws
end

