-- ==== Sys2Proof/Laws/Reads.lean ====
section
/-! SUPPORT. What each update leaves in each part of the state: registers under the updates of other fields, other fields under
register writes, and both under an accepted access. -/
namespace Sys2Proof.Laws
open Sys2Proof.Machine

@[simp] theorem rd_setMem (s : State) (v) (a : Nat) : (s.setMem v).rd a = s.rd a := rfl
@[simp] theorem shows_setMem (s : State) (v) (f : Fld) : (s.setMem v).shows f = s.shows f := rfl
@[simp] theorem get_setMem (s : State) (v) (f : Fld) : (s.setMem v).get f = s.get f := rfl
@[simp] theorem on_setMem (s : State) (v) (f : Fld) : (s.setMem v).on f = s.on f := rfl
@[simp] theorem wr_mem (s : State) (a : Nat) (v : Word) : (s.wr a v).mem = s.mem := rfl
@[simp] theorem busOk_mem (r : Req) (d : Word) (s : State) : (busOk r d s).mem = s.mem := rfl
@[simp] theorem rd_setPending (s : State) (v) (a : Nat) : (s.setPending v).rd a = s.rd a := rfl
@[simp] theorem shows_setPending (s : State) (v) (f : Fld) : (s.setPending v).shows f = s.shows f := rfl
@[simp] theorem get_setPending (s : State) (v) (f : Fld) : (s.setPending v).get f = s.get f := rfl
@[simp] theorem on_setPending (s : State) (v) (f : Fld) : (s.setPending v).on f = s.on f := rfl
@[simp] theorem wr_pending (s : State) (a : Nat) (v : Word) : (s.wr a v).pending = s.pending := rfl
@[simp] theorem busOk_pending (r : Req) (d : Word) (s : State) : (busOk r d s).pending = s.pending := rfl
@[simp] theorem rd_setNow (s : State) (v) (a : Nat) : (s.setNow v).rd a = s.rd a := rfl
@[simp] theorem shows_setNow (s : State) (v) (f : Fld) : (s.setNow v).shows f = s.shows f := rfl
@[simp] theorem get_setNow (s : State) (v) (f : Fld) : (s.setNow v).get f = s.get f := rfl
@[simp] theorem on_setNow (s : State) (v) (f : Fld) : (s.setNow v).on f = s.on f := rfl
@[simp] theorem wr_now (s : State) (a : Nat) (v : Word) : (s.wr a v).now = s.now := rfl
@[simp] theorem busOk_now (r : Req) (d : Word) (s : State) : (busOk r d s).now = s.now := rfl
@[simp] theorem rd_setFree (s : State) (v) (a : Nat) : (s.setFree v).rd a = s.rd a := rfl
@[simp] theorem shows_setFree (s : State) (v) (f : Fld) : (s.setFree v).shows f = s.shows f := rfl
@[simp] theorem get_setFree (s : State) (v) (f : Fld) : (s.setFree v).get f = s.get f := rfl
@[simp] theorem on_setFree (s : State) (v) (f : Fld) : (s.setFree v).on f = s.on f := rfl
@[simp] theorem wr_free (s : State) (a : Nat) (v : Word) : (s.wr a v).free = s.free := rfl
@[simp] theorem busOk_free (r : Req) (d : Word) (s : State) : (busOk r d s).free = s.free := rfl
@[simp] theorem rd_setBnd (s : State) (v) (a : Nat) : (s.setBnd v).rd a = s.rd a := rfl
@[simp] theorem shows_setBnd (s : State) (v) (f : Fld) : (s.setBnd v).shows f = s.shows f := rfl
@[simp] theorem get_setBnd (s : State) (v) (f : Fld) : (s.setBnd v).get f = s.get f := rfl
@[simp] theorem on_setBnd (s : State) (v) (f : Fld) : (s.setBnd v).on f = s.on f := rfl
@[simp] theorem wr_bnd (s : State) (a : Nat) (v : Word) : (s.wr a v).bnd = s.bnd := rfl
@[simp] theorem busOk_bnd (r : Req) (d : Word) (s : State) : (busOk r d s).bnd = s.bnd := rfl
@[simp] theorem rd_setCmt (s : State) (v) (a : Nat) : (s.setCmt v).rd a = s.rd a := rfl
@[simp] theorem shows_setCmt (s : State) (v) (f : Fld) : (s.setCmt v).shows f = s.shows f := rfl
@[simp] theorem get_setCmt (s : State) (v) (f : Fld) : (s.setCmt v).get f = s.get f := rfl
@[simp] theorem on_setCmt (s : State) (v) (f : Fld) : (s.setCmt v).on f = s.on f := rfl
@[simp] theorem wr_cmt (s : State) (a : Nat) (v : Word) : (s.wr a v).cmt = s.cmt := rfl
@[simp] theorem busOk_cmt (r : Req) (d : Word) (s : State) : (busOk r d s).cmt = s.cmt := rfl
@[simp] theorem rd_setTmr (s : State) (v) (a : Nat) : (s.setTmr v).rd a = s.rd a := rfl
@[simp] theorem shows_setTmr (s : State) (v) (f : Fld) : (s.setTmr v).shows f = s.shows f := rfl
@[simp] theorem wr_tmr (s : State) (a : Nat) (v : Word) : (s.wr a v).tmr = s.tmr := rfl
@[simp] theorem busOk_tmr (r : Req) (d : Word) (s : State) : (busOk r d s).tmr = s.tmr := rfl
@[simp] theorem rd_setCrcRun (s : State) (v) (a : Nat) : (s.setCrcRun v).rd a = s.rd a := rfl
@[simp] theorem shows_setCrcRun (s : State) (v) (f : Fld) : (s.setCrcRun v).shows f = s.shows f := rfl
@[simp] theorem get_setCrcRun (s : State) (v) (f : Fld) : (s.setCrcRun v).get f = s.get f := rfl
@[simp] theorem on_setCrcRun (s : State) (v) (f : Fld) : (s.setCrcRun v).on f = s.on f := rfl
@[simp] theorem wr_crcRun (s : State) (a : Nat) (v : Word) : (s.wr a v).crcRun = s.crcRun := rfl
@[simp] theorem busOk_crcRun (r : Req) (d : Word) (s : State) : (busOk r d s).crcRun = s.crcRun := rfl
@[simp] theorem rd_setBus (s : State) (v) (a : Nat) : (s.setBus v).rd a = s.rd a := rfl
@[simp] theorem shows_setBus (s : State) (v) (f : Fld) : (s.setBus v).shows f = s.shows f := rfl
@[simp] theorem get_setBus (s : State) (v) (f : Fld) : (s.setBus v).get f = s.get f := rfl
@[simp] theorem on_setBus (s : State) (v) (f : Fld) : (s.setBus v).on f = s.on f := rfl
@[simp] theorem wr_bus (s : State) (a : Nat) (v : Word) : (s.wr a v).bus = s.bus := rfl
@[simp] theorem rd_setWardens (s : State) (v) (a : Nat) : (s.setWardens v).rd a = s.rd a := rfl
@[simp] theorem shows_setWardens (s : State) (v) (f : Fld) : (s.setWardens v).shows f = s.shows f := rfl
@[simp] theorem get_setWardens (s : State) (v) (f : Fld) : (s.setWardens v).get f = s.get f := rfl
@[simp] theorem on_setWardens (s : State) (v) (f : Fld) : (s.setWardens v).on f = s.on f := rfl
@[simp] theorem wr_wardens (s : State) (a : Nat) (v : Word) : (s.wr a v).wardens = s.wardens := rfl
@[simp] theorem busOk_wardens (r : Req) (d : Word) (s : State) : (busOk r d s).wardens = s.wardens := rfl
@[simp] theorem rd_setLinks (s : State) (v) (a : Nat) : (s.setLinks v).rd a = s.rd a := rfl
@[simp] theorem shows_setLinks (s : State) (v) (f : Fld) : (s.setLinks v).shows f = s.shows f := rfl
@[simp] theorem get_setLinks (s : State) (v) (f : Fld) : (s.setLinks v).get f = s.get f := rfl
@[simp] theorem on_setLinks (s : State) (v) (f : Fld) : (s.setLinks v).on f = s.on f := rfl
@[simp] theorem wr_links (s : State) (a : Nat) (v : Word) : (s.wr a v).links = s.links := rfl
@[simp] theorem busOk_links (r : Req) (d : Word) (s : State) : (busOk r d s).links = s.links := rfl
@[simp] theorem rd_setCtxs (s : State) (v) (a : Nat) : (s.setCtxs v).rd a = s.rd a := rfl
@[simp] theorem shows_setCtxs (s : State) (v) (f : Fld) : (s.setCtxs v).shows f = s.shows f := rfl
@[simp] theorem get_setCtxs (s : State) (v) (f : Fld) : (s.setCtxs v).get f = s.get f := rfl
@[simp] theorem on_setCtxs (s : State) (v) (f : Fld) : (s.setCtxs v).on f = s.on f := rfl
@[simp] theorem wr_ctxs (s : State) (a : Nat) (v : Word) : (s.wr a v).ctxs = s.ctxs := rfl
@[simp] theorem busOk_ctxs (r : Req) (d : Word) (s : State) : (busOk r d s).ctxs = s.ctxs := rfl
@[simp] theorem rd_setStages (s : State) (v) (a : Nat) : (s.setStages v).rd a = s.rd a := rfl
@[simp] theorem shows_setStages (s : State) (v) (f : Fld) : (s.setStages v).shows f = s.shows f := rfl
@[simp] theorem get_setStages (s : State) (v) (f : Fld) : (s.setStages v).get f = s.get f := rfl
@[simp] theorem on_setStages (s : State) (v) (f : Fld) : (s.setStages v).on f = s.on f := rfl
@[simp] theorem wr_stages (s : State) (a : Nat) (v : Word) : (s.wr a v).stages = s.stages := rfl
@[simp] theorem busOk_stages (r : Req) (d : Word) (s : State) : (busOk r d s).stages = s.stages := rfl
@[simp] theorem rd_setLanes (s : State) (v) (a : Nat) : (s.setLanes v).rd a = s.rd a := rfl
@[simp] theorem shows_setLanes (s : State) (v) (f : Fld) : (s.setLanes v).shows f = s.shows f := rfl
@[simp] theorem get_setLanes (s : State) (v) (f : Fld) : (s.setLanes v).get f = s.get f := rfl
@[simp] theorem on_setLanes (s : State) (v) (f : Fld) : (s.setLanes v).on f = s.on f := rfl
@[simp] theorem wr_lanes (s : State) (a : Nat) (v : Word) : (s.wr a v).lanes = s.lanes := rfl
@[simp] theorem busOk_lanes (r : Req) (d : Word) (s : State) : (busOk r d s).lanes = s.lanes := rfl
@[simp] theorem rd_setBasil (s : State) (v) (a : Nat) : (s.setBasil v).rd a = s.rd a := rfl
@[simp] theorem shows_setBasil (s : State) (v) (f : Fld) : (s.setBasil v).shows f = s.shows f := rfl
@[simp] theorem get_setBasil (s : State) (v) (f : Fld) : (s.setBasil v).get f = s.get f := rfl
@[simp] theorem on_setBasil (s : State) (v) (f : Fld) : (s.setBasil v).on f = s.on f := rfl
@[simp] theorem wr_basil (s : State) (a : Nat) (v : Word) : (s.wr a v).basil = s.basil := rfl
@[simp] theorem busOk_basil (r : Req) (d : Word) (s : State) : (busOk r d s).basil = s.basil := rfl
@[simp] theorem rd_setGiu (s : State) (v) (a : Nat) : (s.setGiu v).rd a = s.rd a := rfl
@[simp] theorem shows_setGiu (s : State) (v) (f : Fld) : (s.setGiu v).shows f = s.shows f := rfl
@[simp] theorem get_setGiu (s : State) (v) (f : Fld) : (s.setGiu v).get f = s.get f := rfl
@[simp] theorem on_setGiu (s : State) (v) (f : Fld) : (s.setGiu v).on f = s.on f := rfl
@[simp] theorem wr_giu (s : State) (a : Nat) (v : Word) : (s.wr a v).giu = s.giu := rfl
@[simp] theorem busOk_giu (r : Req) (d : Word) (s : State) : (busOk r d s).giu = s.giu := rfl
@[simp] theorem rd_setSlewAcc (s : State) (v) (a : Nat) : (s.setSlewAcc v).rd a = s.rd a := rfl
@[simp] theorem shows_setSlewAcc (s : State) (v) (f : Fld) : (s.setSlewAcc v).shows f = s.shows f := rfl
@[simp] theorem get_setSlewAcc (s : State) (v) (f : Fld) : (s.setSlewAcc v).get f = s.get f := rfl
@[simp] theorem on_setSlewAcc (s : State) (v) (f : Fld) : (s.setSlewAcc v).on f = s.on f := rfl
@[simp] theorem wr_slewAcc (s : State) (a : Nat) (v : Word) : (s.wr a v).slewAcc = s.slewAcc := rfl
@[simp] theorem busOk_slewAcc (r : Req) (d : Word) (s : State) : (busOk r d s).slewAcc = s.slewAcc := rfl
@[simp] theorem rd_setFrames (s : State) (v) (a : Nat) : (s.setFrames v).rd a = s.rd a := rfl
@[simp] theorem shows_setFrames (s : State) (v) (f : Fld) : (s.setFrames v).shows f = s.shows f := rfl
@[simp] theorem get_setFrames (s : State) (v) (f : Fld) : (s.setFrames v).get f = s.get f := rfl
@[simp] theorem on_setFrames (s : State) (v) (f : Fld) : (s.setFrames v).on f = s.on f := rfl
@[simp] theorem wr_frames (s : State) (a : Nat) (v : Word) : (s.wr a v).frames = s.frames := rfl
@[simp] theorem busOk_frames (r : Req) (d : Word) (s : State) : (busOk r d s).frames = s.frames := rfl
@[simp] theorem rd_setTbgs (s : State) (v) (a : Nat) : (s.setTbgs v).rd a = s.rd a := rfl
@[simp] theorem shows_setTbgs (s : State) (v) (f : Fld) : (s.setTbgs v).shows f = s.shows f := rfl
@[simp] theorem get_setTbgs (s : State) (v) (f : Fld) : (s.setTbgs v).get f = s.get f := rfl
@[simp] theorem on_setTbgs (s : State) (v) (f : Fld) : (s.setTbgs v).on f = s.on f := rfl
@[simp] theorem wr_tbgs (s : State) (a : Nat) (v : Word) : (s.wr a v).tbgs = s.tbgs := rfl
@[simp] theorem busOk_tbgs (r : Req) (d : Word) (s : State) : (busOk r d s).tbgs = s.tbgs := rfl
@[simp] theorem rd_setLegs (s : State) (v) (a : Nat) : (s.setLegs v).rd a = s.rd a := rfl
@[simp] theorem shows_setLegs (s : State) (v) (f : Fld) : (s.setLegs v).shows f = s.shows f := rfl
@[simp] theorem get_setLegs (s : State) (v) (f : Fld) : (s.setLegs v).get f = s.get f := rfl
@[simp] theorem on_setLegs (s : State) (v) (f : Fld) : (s.setLegs v).on f = s.on f := rfl
@[simp] theorem wr_legs (s : State) (a : Nat) (v : Word) : (s.wr a v).legs = s.legs := rfl
@[simp] theorem busOk_legs (r : Req) (d : Word) (s : State) : (busOk r d s).legs = s.legs := rfl
@[simp] theorem rd_setMgs (s : State) (v) (a : Nat) : (s.setMgs v).rd a = s.rd a := rfl
@[simp] theorem shows_setMgs (s : State) (v) (f : Fld) : (s.setMgs v).shows f = s.shows f := rfl
@[simp] theorem get_setMgs (s : State) (v) (f : Fld) : (s.setMgs v).get f = s.get f := rfl
@[simp] theorem on_setMgs (s : State) (v) (f : Fld) : (s.setMgs v).on f = s.on f := rfl
@[simp] theorem wr_mgs (s : State) (a : Nat) (v : Word) : (s.wr a v).mgs = s.mgs := rfl
@[simp] theorem busOk_mgs (r : Req) (d : Word) (s : State) : (busOk r d s).mgs = s.mgs := rfl
@[simp] theorem rd_setTrgs (s : State) (v) (a : Nat) : (s.setTrgs v).rd a = s.rd a := rfl
@[simp] theorem shows_setTrgs (s : State) (v) (f : Fld) : (s.setTrgs v).shows f = s.shows f := rfl
@[simp] theorem get_setTrgs (s : State) (v) (f : Fld) : (s.setTrgs v).get f = s.get f := rfl
@[simp] theorem on_setTrgs (s : State) (v) (f : Fld) : (s.setTrgs v).on f = s.on f := rfl
@[simp] theorem wr_trgs (s : State) (a : Nat) (v : Word) : (s.wr a v).trgs = s.trgs := rfl
@[simp] theorem busOk_trgs (r : Req) (d : Word) (s : State) : (busOk r d s).trgs = s.trgs := rfl
@[simp] theorem rd_setPorts (s : State) (v) (a : Nat) : (s.setPorts v).rd a = s.rd a := rfl
@[simp] theorem shows_setPorts (s : State) (v) (f : Fld) : (s.setPorts v).shows f = s.shows f := rfl
@[simp] theorem get_setPorts (s : State) (v) (f : Fld) : (s.setPorts v).get f = s.get f := rfl
@[simp] theorem on_setPorts (s : State) (v) (f : Fld) : (s.setPorts v).on f = s.on f := rfl
@[simp] theorem wr_ports (s : State) (a : Nat) (v : Word) : (s.wr a v).ports = s.ports := rfl
@[simp] theorem busOk_ports (r : Req) (d : Word) (s : State) : (busOk r d s).ports = s.ports := rfl
@[simp] theorem rd_setSats (s : State) (v) (a : Nat) : (s.setSats v).rd a = s.rd a := rfl
@[simp] theorem shows_setSats (s : State) (v) (f : Fld) : (s.setSats v).shows f = s.shows f := rfl
@[simp] theorem get_setSats (s : State) (v) (f : Fld) : (s.setSats v).get f = s.get f := rfl
@[simp] theorem on_setSats (s : State) (v) (f : Fld) : (s.setSats v).on f = s.on f := rfl
@[simp] theorem wr_sats (s : State) (a : Nat) (v : Word) : (s.wr a v).sats = s.sats := rfl
@[simp] theorem busOk_sats (r : Req) (d : Word) (s : State) : (busOk r d s).sats = s.sats := rfl
@[simp] theorem rd_setSage (s : State) (v) (a : Nat) : (s.setSage v).rd a = s.rd a := rfl
@[simp] theorem shows_setSage (s : State) (v) (f : Fld) : (s.setSage v).shows f = s.shows f := rfl
@[simp] theorem get_setSage (s : State) (v) (f : Fld) : (s.setSage v).get f = s.get f := rfl
@[simp] theorem on_setSage (s : State) (v) (f : Fld) : (s.setSage v).on f = s.on f := rfl
@[simp] theorem wr_sage (s : State) (a : Nat) (v : Word) : (s.wr a v).sage = s.sage := rfl
@[simp] theorem busOk_sage (r : Req) (d : Word) (s : State) : (busOk r d s).sage = s.sage := rfl
@[simp] theorem rd_setWdgs (s : State) (v) (a : Nat) : (s.setWdgs v).rd a = s.rd a := rfl
@[simp] theorem shows_setWdgs (s : State) (v) (f : Fld) : (s.setWdgs v).shows f = s.shows f := rfl
@[simp] theorem get_setWdgs (s : State) (v) (f : Fld) : (s.setWdgs v).get f = s.get f := rfl
@[simp] theorem on_setWdgs (s : State) (v) (f : Fld) : (s.setWdgs v).on f = s.on f := rfl
@[simp] theorem wr_wdgs (s : State) (a : Nat) (v : Word) : (s.wr a v).wdgs = s.wdgs := rfl
@[simp] theorem busOk_wdgs (r : Req) (d : Word) (s : State) : (busOk r d s).wdgs = s.wdgs := rfl
@[simp] theorem rd_setTms (s : State) (v) (a : Nat) : (s.setTms v).rd a = s.rd a := rfl
@[simp] theorem shows_setTms (s : State) (v) (f : Fld) : (s.setTms v).shows f = s.shows f := rfl
@[simp] theorem get_setTms (s : State) (v) (f : Fld) : (s.setTms v).get f = s.get f := rfl
@[simp] theorem on_setTms (s : State) (v) (f : Fld) : (s.setTms v).on f = s.on f := rfl
@[simp] theorem wr_tms (s : State) (a : Nat) (v : Word) : (s.wr a v).tms = s.tms := rfl
@[simp] theorem busOk_tms (r : Req) (d : Word) (s : State) : (busOk r d s).tms = s.tms := rfl
@[simp] theorem rd_setDiss (s : State) (v) (a : Nat) : (s.setDiss v).rd a = s.rd a := rfl
@[simp] theorem shows_setDiss (s : State) (v) (f : Fld) : (s.setDiss v).shows f = s.shows f := rfl
@[simp] theorem get_setDiss (s : State) (v) (f : Fld) : (s.setDiss v).get f = s.get f := rfl
@[simp] theorem on_setDiss (s : State) (v) (f : Fld) : (s.setDiss v).on f = s.on f := rfl
@[simp] theorem wr_diss (s : State) (a : Nat) (v : Word) : (s.wr a v).diss = s.diss := rfl
@[simp] theorem busOk_diss (r : Req) (d : Word) (s : State) : (busOk r d s).diss = s.diss := rfl
@[simp] theorem rd_setLivs (s : State) (v) (a : Nat) : (s.setLivs v).rd a = s.rd a := rfl
@[simp] theorem shows_setLivs (s : State) (v) (f : Fld) : (s.setLivs v).shows f = s.shows f := rfl
@[simp] theorem get_setLivs (s : State) (v) (f : Fld) : (s.setLivs v).get f = s.get f := rfl
@[simp] theorem on_setLivs (s : State) (v) (f : Fld) : (s.setLivs v).on f = s.on f := rfl
@[simp] theorem wr_livs (s : State) (a : Nat) (v : Word) : (s.wr a v).livs = s.livs := rfl
@[simp] theorem busOk_livs (r : Req) (d : Word) (s : State) : (busOk r d s).livs = s.livs := rfl
@[simp] theorem rd_setApcs (s : State) (v) (a : Nat) : (s.setApcs v).rd a = s.rd a := rfl
@[simp] theorem shows_setApcs (s : State) (v) (f : Fld) : (s.setApcs v).shows f = s.shows f := rfl
@[simp] theorem get_setApcs (s : State) (v) (f : Fld) : (s.setApcs v).get f = s.get f := rfl
@[simp] theorem on_setApcs (s : State) (v) (f : Fld) : (s.setApcs v).on f = s.on f := rfl
@[simp] theorem wr_apcs (s : State) (a : Nat) (v : Word) : (s.wr a v).apcs = s.apcs := rfl
@[simp] theorem busOk_apcs (r : Req) (d : Word) (s : State) : (busOk r d s).apcs = s.apcs := rfl
@[simp] theorem rd_setPair (s : State) (v) (a : Nat) : (s.setPair v).rd a = s.rd a := rfl
@[simp] theorem shows_setPair (s : State) (v) (f : Fld) : (s.setPair v).shows f = s.shows f := rfl
@[simp] theorem get_setPair (s : State) (v) (f : Fld) : (s.setPair v).get f = s.get f := rfl
@[simp] theorem on_setPair (s : State) (v) (f : Fld) : (s.setPair v).on f = s.on f := rfl
@[simp] theorem wr_pair (s : State) (a : Nat) (v : Word) : (s.wr a v).pair = s.pair := rfl
@[simp] theorem busOk_pair (r : Req) (d : Word) (s : State) : (busOk r d s).pair = s.pair := rfl
@[simp] theorem rd_setMsio (s : State) (v) (a : Nat) : (s.setMsio v).rd a = s.rd a := rfl
@[simp] theorem shows_setMsio (s : State) (v) (f : Fld) : (s.setMsio v).shows f = s.shows f := rfl
@[simp] theorem get_setMsio (s : State) (v) (f : Fld) : (s.setMsio v).get f = s.get f := rfl
@[simp] theorem on_setMsio (s : State) (v) (f : Fld) : (s.setMsio v).on f = s.on f := rfl
@[simp] theorem wr_msio (s : State) (a : Nat) (v : Word) : (s.wr a v).msio = s.msio := rfl
@[simp] theorem busOk_msio (r : Req) (d : Word) (s : State) : (busOk r d s).msio = s.msio := rfl
@[simp] theorem rd_setAdcs (s : State) (v) (a : Nat) : (s.setAdcs v).rd a = s.rd a := rfl
@[simp] theorem shows_setAdcs (s : State) (v) (f : Fld) : (s.setAdcs v).shows f = s.shows f := rfl
@[simp] theorem get_setAdcs (s : State) (v) (f : Fld) : (s.setAdcs v).get f = s.get f := rfl
@[simp] theorem on_setAdcs (s : State) (v) (f : Fld) : (s.setAdcs v).on f = s.on f := rfl
@[simp] theorem wr_adcs (s : State) (a : Nat) (v : Word) : (s.wr a v).adcs = s.adcs := rfl
@[simp] theorem busOk_adcs (r : Req) (d : Word) (s : State) : (busOk r d s).adcs = s.adcs := rfl
@[simp] theorem rd_setFbs (s : State) (v) (a : Nat) : (s.setFbs v).rd a = s.rd a := rfl
@[simp] theorem shows_setFbs (s : State) (v) (f : Fld) : (s.setFbs v).shows f = s.shows f := rfl
@[simp] theorem get_setFbs (s : State) (v) (f : Fld) : (s.setFbs v).get f = s.get f := rfl
@[simp] theorem on_setFbs (s : State) (v) (f : Fld) : (s.setFbs v).on f = s.on f := rfl
@[simp] theorem wr_fbs (s : State) (a : Nat) (v : Word) : (s.wr a v).fbs = s.fbs := rfl
@[simp] theorem busOk_fbs (r : Req) (d : Word) (s : State) : (busOk r d s).fbs = s.fbs := rfl
@[simp] theorem rd_setRess (s : State) (v) (a : Nat) : (s.setRess v).rd a = s.rd a := rfl
@[simp] theorem shows_setRess (s : State) (v) (f : Fld) : (s.setRess v).shows f = s.shows f := rfl
@[simp] theorem get_setRess (s : State) (v) (f : Fld) : (s.setRess v).get f = s.get f := rfl
@[simp] theorem on_setRess (s : State) (v) (f : Fld) : (s.setRess v).on f = s.on f := rfl
@[simp] theorem wr_ress (s : State) (a : Nat) (v : Word) : (s.wr a v).ress = s.ress := rfl
@[simp] theorem busOk_ress (r : Req) (d : Word) (s : State) : (busOk r d s).ress = s.ress := rfl
@[simp] theorem rd_setEmus (s : State) (v) (a : Nat) : (s.setEmus v).rd a = s.rd a := rfl
@[simp] theorem shows_setEmus (s : State) (v) (f : Fld) : (s.setEmus v).shows f = s.shows f := rfl
@[simp] theorem get_setEmus (s : State) (v) (f : Fld) : (s.setEmus v).get f = s.get f := rfl
@[simp] theorem on_setEmus (s : State) (v) (f : Fld) : (s.setEmus v).on f = s.on f := rfl
@[simp] theorem wr_emus (s : State) (a : Nat) (v : Word) : (s.wr a v).emus = s.emus := rfl
@[simp] theorem busOk_emus (r : Req) (d : Word) (s : State) : (busOk r d s).emus = s.emus := rfl
@[simp] theorem rd_setAmu (s : State) (v) (a : Nat) : (s.setAmu v).rd a = s.rd a := rfl
@[simp] theorem shows_setAmu (s : State) (v) (f : Fld) : (s.setAmu v).shows f = s.shows f := rfl
@[simp] theorem get_setAmu (s : State) (v) (f : Fld) : (s.setAmu v).get f = s.get f := rfl
@[simp] theorem on_setAmu (s : State) (v) (f : Fld) : (s.setAmu v).on f = s.on f := rfl
@[simp] theorem wr_amu (s : State) (a : Nat) (v : Word) : (s.wr a v).amu = s.amu := rfl
@[simp] theorem busOk_amu (r : Req) (d : Word) (s : State) : (busOk r d s).amu = s.amu := rfl
@[simp] theorem rd_setCans (s : State) (v) (a : Nat) : (s.setCans v).rd a = s.rd a := rfl
@[simp] theorem shows_setCans (s : State) (v) (f : Fld) : (s.setCans v).shows f = s.shows f := rfl
@[simp] theorem get_setCans (s : State) (v) (f : Fld) : (s.setCans v).get f = s.get f := rfl
@[simp] theorem on_setCans (s : State) (v) (f : Fld) : (s.setCans v).on f = s.on f := rfl
@[simp] theorem wr_cans (s : State) (a : Nat) (v : Word) : (s.wr a v).cans = s.cans := rfl
@[simp] theorem busOk_cans (r : Req) (d : Word) (s : State) : (busOk r d s).cans = s.cans := rfl
@[simp] theorem rd_setHpm (s : State) (v) (a : Nat) : (s.setHpm v).rd a = s.rd a := rfl
@[simp] theorem shows_setHpm (s : State) (v) (f : Fld) : (s.setHpm v).shows f = s.shows f := rfl
@[simp] theorem get_setHpm (s : State) (v) (f : Fld) : (s.setHpm v).get f = s.get f := rfl
@[simp] theorem on_setHpm (s : State) (v) (f : Fld) : (s.setHpm v).on f = s.on f := rfl
@[simp] theorem wr_hpm (s : State) (a : Nat) (v : Word) : (s.wr a v).hpm = s.hpm := rfl
@[simp] theorem busOk_hpm (r : Req) (d : Word) (s : State) : (busOk r d s).hpm = s.hpm := rfl
@[simp] theorem rd_setRosem (s : State) (v) (a : Nat) : (s.setRosem v).rd a = s.rd a := rfl
@[simp] theorem shows_setRosem (s : State) (v) (f : Fld) : (s.setRosem v).shows f = s.shows f := rfl
@[simp] theorem get_setRosem (s : State) (v) (f : Fld) : (s.setRosem v).get f = s.get f := rfl
@[simp] theorem on_setRosem (s : State) (v) (f : Fld) : (s.setRosem v).on f = s.on f := rfl
@[simp] theorem wr_rosem (s : State) (a : Nat) (v : Word) : (s.wr a v).rosem = s.rosem := rfl
@[simp] theorem busOk_rosem (r : Req) (d : Word) (s : State) : (busOk r d s).rosem = s.rosem := rfl
@[simp] theorem rd_setBist (s : State) (v) (a : Nat) : (s.setBist v).rd a = s.rd a := rfl
@[simp] theorem shows_setBist (s : State) (v) (f : Fld) : (s.setBist v).shows f = s.shows f := rfl
@[simp] theorem get_setBist (s : State) (v) (f : Fld) : (s.setBist v).get f = s.get f := rfl
@[simp] theorem on_setBist (s : State) (v) (f : Fld) : (s.setBist v).on f = s.on f := rfl
@[simp] theorem wr_bist (s : State) (a : Nat) (v : Word) : (s.wr a v).bist = s.bist := rfl
@[simp] theorem busOk_bist (r : Req) (d : Word) (s : State) : (busOk r d s).bist = s.bist := rfl
@[simp] theorem busOk_rd (r : Req) (d : Word) (s : State) (a : Nat) : (busOk r d s).rd a = s.rd a := rfl
@[simp] theorem busOk_shows (r : Req) (d : Word) (s : State) (f : Fld) : (busOk r d s).shows f = s.shows f := rfl
@[simp] theorem busOk_get (r : Req) (d : Word) (s : State) (f : Fld) : (busOk r d s).get f = s.get f := rfl
@[simp] theorem busOk_on (r : Req) (d : Word) (s : State) (f : Fld) : (busOk r d s).on f = s.on f := rfl

end Sys2Proof.Laws
end

