-- ==== Sys2Proof/Laws/Accessors.lean ====
section
/-! SUPPORT. What a table answers after an entry was put, what a register, and the value the device uses, reads after a write, and the accessors
of the structured state after their updates. -/
namespace Sys2Proof.Laws
open Sys2Proof Sys2Proof.Machine

@[simp] theorem get_ins_same {α : Type} (d : α) (t : Tab α) (k : Nat) (v : α) : Tab.get d (Tab.ins t k v) k = v := by
  unfold Tab.get; rw [find_ins_same]; rfl

theorem get_ins_ne {α : Type} (d : α) (t : Tab α) {k j : Nat} (v : α) (h : k ≠ j) : Tab.get d (Tab.ins t k v) j = Tab.get d t j := by
  unfold Tab.get; rw [find_ins_ne _ _ h]

@[simp] theorem get_del_same {α : Type} (d : α) (t : Tab α) (k : Nat) : Tab.get d (Tab.del t k) k = d := by
  unfold Tab.get; rw [find_del_same]; rfl

theorem get_del_ne {α : Type} (d : α) (t : Tab α) {k j : Nat} (h : k ≠ j) : Tab.get d (Tab.del t k) j = Tab.get d t j := by
  unfold Tab.get; rw [find_del_ne _ h]

@[simp] theorem get_set_same {α : Type} [DecidableEq α] (d : α) (t : Tab α) (k : Nat) (v : α) : Tab.get d (Tab.set d t k v) k = v := by
  unfold Tab.set
  split
  · rename_i h; rw [get_del_same, h]
  · exact get_ins_same d t k v

theorem get_set_ne {α : Type} [DecidableEq α] (d : α) (t : Tab α) {k j : Nat} (v : α) (h : k ≠ j) :
    Tab.get d (Tab.set d t k v) j = Tab.get d t j := by
  unfold Tab.set
  split
  · exact get_del_ne d t h
  · exact get_ins_ne d t v h

/-- The entry just put, or what the table answered before. -/
theorem get_set {α : Type} [DecidableEq α] (d : α) (t : Tab α) (k j : Nat) (v : α) :
    Tab.get d (Tab.set d t k v) j = if k = j then v else Tab.get d t j := by
  split
  · rename_i h; rw [h, get_set_same]
  · exact get_set_ne d t v ‹_›

/-- The word just written, or what the register held. -/
theorem rd_wr (s : State) (a b : Nat) (v : Word) : (s.wr a v).rd b = if a = b then v else s.rd b := by
  split
  · rename_i h; subst h; exact rd_wr_same _ _ _
  · exact rd_wr_ne _ _ ‹_›

theorem use_wr_ne (s : State) {a b : Nat} (v : Word) (h : a ≠ b) : (s.wr a v).use b = s.use b := by
  unfold State.use; rw [rd_wr_ne _ _ h]; rfl

theorem get_wr_ne (s : State) {a : Nat} (v : Word) {f : Fld} (h : a ≠ f.addr) : (s.wr a v).get f = s.get f := by
  unfold State.get; rw [use_wr_ne _ _ h]

theorem on_wr_ne (s : State) {a : Nat} (v : Word) {f : Fld} (h : a ≠ f.addr) : (s.wr a v).on f = s.on f := by
  unfold State.on; rw [get_wr_ne _ _ h]

theorem get_put_ne (s : State) {f g : Fld} (v : Nat) (h : f.addr ≠ g.addr) : (s.put f v).get g = s.get g := get_wr_ne s _ h

theorem on_put_ne (s : State) {f g : Fld} (v : Nat) (h : f.addr ≠ g.addr) : (s.put f v).on g = s.on g := on_wr_ne s _ h

@[simp] theorem ctx_putCtx (s : State) (k : Nat) (v) : (s.putCtx k v).ctx k = v := get_set_same _ _ _ _
@[simp] theorem tbg_putTbg (s : State) (k : Nat) (v) : (s.putTbg k v).tbg k = v := get_set_same _ _ _ _
@[simp] theorem leg_putLeg (s : State) (k : Nat) (v) : (s.putLeg k v).leg k = v := get_set_same _ _ _ _
@[simp] theorem mg_putMg (s : State) (k : Nat) (v) : (s.putMg k v).mg k = v := get_set_same _ _ _ _
@[simp] theorem port_putPort (s : State) (k : Nat) (v) : (s.putPort k v).port k = v := get_set_same _ _ _ _
@[simp] theorem sat_putSat (s : State) (k : Nat) (v) : (s.putSat k v).sat k = v := get_set_same _ _ _ _
@[simp] theorem warden_putWarden (s : State) (k : Nat) (v) : (s.putWarden k v).warden k = v := get_set_same _ _ _ _

end Sys2Proof.Laws
end

