-- ==== Sys2Proof/Laws/Pages.lean ====
section
/-! SUPPORT. The page of the register map each array of registers lies in, whatever the index. -/
namespace Sys2Proof.Laws
open Sys2Proof.Machine

theorem page_bank (r : Req) (a : Nat) : pageOf (bank r a) = pageOf a := by unfold pageOf bank; omega
theorem page_inst (k a : Nat) : pageOf (inst k a) = pageOf a := by unfold pageOf inst; omega
theorem page_canHdr_raw (c i : Nat) : pageOf (hRaw (canHdr c) i).addr = 10 := by dsimp only [pageOf, hRaw, canHdr]; omega
theorem page_canHdr_err (c i : Nat) : pageOf (hErr (canHdr c) i).addr = 10 := by dsimp only [pageOf, hErr, canHdr]; omega
theorem page_logAt (w i : Nat) : pageOf (logAt w i) = 6 := by unfold pageOf logAt; omega
theorem page_adcHdr_raw (c i : Nat) : pageOf (hRaw (adcHdr c) i).addr = 7 := by dsimp only [pageOf, hRaw, adcHdr]; omega
theorem page_adcHdr_err (c i : Nat) : pageOf (hErr (adcHdr c) i).addr = 7 := by dsimp only [pageOf, hErr, adcHdr]; omega
theorem page_aADC_ABT_CAUSE (i : Nat) : pageOf (aADC_ABT_CAUSE i) = 7 := by unfold pageOf aADC_ABT_CAUSE; omega
theorem page_aADC_ABT_CNT (i : Nat) : pageOf (aADC_ABT_CNT i) = 7 := by unfold pageOf aADC_ABT_CNT; omega
theorem page_aADC_AIN_CFG (i j : Nat) : pageOf (aADC_AIN_CFG i j) = 7 := by unfold pageOf aADC_AIN_CFG; omega
theorem page_aADC_AVG (i j : Nat) : pageOf (aADC_AVG i j) = 7 := by unfold pageOf aADC_AVG; omega
theorem page_aADC_CAL_STAT (i : Nat) : pageOf (aADC_CAL_STAT i) = 7 := by unfold pageOf aADC_CAL_STAT; omega
theorem page_aADC_CFG (i : Nat) : pageOf (aADC_CFG i) = 7 := by unfold pageOf aADC_CFG; omega
theorem page_aADC_ERR (i : Nat) : pageOf (aADC_ERR i) = 7 := by unfold pageOf aADC_ERR; omega
theorem page_aADC_EXC_CFG (i j : Nat) : pageOf (aADC_EXC_CFG i j) = 7 := by unfold pageOf aADC_EXC_CFG; omega
theorem page_aADC_FC_CFG (i : Nat) : pageOf (aADC_FC_CFG i) = 7 := by unfold pageOf aADC_FC_CFG; omega
theorem page_aADC_IRQ_RAW (i : Nat) : pageOf (aADC_IRQ_RAW i) = 7 := by unfold pageOf aADC_IRQ_RAW; omega
theorem page_aADC_LOSS (i : Nat) : pageOf (aADC_LOSS i) = 7 := by unfold pageOf aADC_LOSS; omega
theorem page_aADC_QSTAT (i : Nat) : pageOf (aADC_QSTAT i) = 7 := by unfold pageOf aADC_QSTAT; omega
theorem page_aADC_REQ_CNT (i : Nat) : pageOf (aADC_REQ_CNT i) = 7 := by unfold pageOf aADC_REQ_CNT; omega
theorem page_aADC_RES (i j : Nat) : pageOf (aADC_RES i j) = 7 := by unfold pageOf aADC_RES; omega
theorem page_aADC_RES_CFG (i j : Nat) : pageOf (aADC_RES_CFG i j) = 7 := by unfold pageOf aADC_RES_CFG; omega
theorem page_aADC_RES_CNT (i : Nat) : pageOf (aADC_RES_CNT i) = 7 := by unfold pageOf aADC_RES_CNT; omega
theorem page_aADC_RES_ENV (i j : Nat) : pageOf (aADC_RES_ENV i j) = 7 := by unfold pageOf aADC_RES_ENV; omega
theorem page_aADC_RES_LIM (i j : Nat) : pageOf (aADC_RES_LIM i j) = 7 := by unfold pageOf aADC_RES_LIM; omega
theorem page_aADC_RES_STAT (i j : Nat) : pageOf (aADC_RES_STAT i j) = 7 := by unfold pageOf aADC_RES_STAT; omega
theorem page_aADC_RES_TS (i j : Nat) : pageOf (aADC_RES_TS i j) = 7 := by unfold pageOf aADC_RES_TS; omega
theorem page_aADC_RST_CNT (i : Nat) : pageOf (aADC_RST_CNT i) = 7 := by unfold pageOf aADC_RST_CNT; omega
theorem page_aADC_SEQ_CFG (i j : Nat) : pageOf (aADC_SEQ_CFG i j) = 7 := by unfold pageOf aADC_SEQ_CFG; omega
theorem page_aADC_SEQ_ENT0 (i j : Nat) : pageOf (aADC_SEQ_ENT0 i j) = 7 := by unfold pageOf aADC_SEQ_ENT0; omega
theorem page_aADC_SEQ_ENT1 (i j : Nat) : pageOf (aADC_SEQ_ENT1 i j) = 7 := by unfold pageOf aADC_SEQ_ENT1; omega
theorem page_aADC_SEQ_STAT (i j : Nat) : pageOf (aADC_SEQ_STAT i j) = 7 := by unfold pageOf aADC_SEQ_STAT; omega
theorem page_aADC_SEQ_TIM (i j : Nat) : pageOf (aADC_SEQ_TIM i j) = 7 := by unfold pageOf aADC_SEQ_TIM; omega
theorem page_aADC_STAT (i : Nat) : pageOf (aADC_STAT i) = 7 := by unfold pageOf aADC_STAT; omega
theorem page_aADC_SWTRIG (i : Nat) : pageOf (aADC_SWTRIG i) = 7 := by unfold pageOf aADC_SWTRIG; omega
theorem page_aADC_TS (i j : Nat) : pageOf (aADC_TS i j) = 7 := by unfold pageOf aADC_TS; omega
theorem page_aADC_WC_CFG (i j : Nat) : pageOf (aADC_WC_CFG i j) = 7 := by unfold pageOf aADC_WC_CFG; omega
theorem page_aADC_WC_LIM (i j : Nat) : pageOf (aADC_WC_LIM i j) = 7 := by unfold pageOf aADC_WC_LIM; omega
theorem page_aADC_WC_RSVD (i j : Nat) : pageOf (aADC_WC_RSVD i j) = 7 := by unfold pageOf aADC_WC_RSVD; omega
theorem page_aADC_WC_STAT (i j : Nat) : pageOf (aADC_WC_STAT i j) = 7 := by unfold pageOf aADC_WC_STAT; omega
theorem page_aAPC_IP (i : Nat) : pageOf (aAPC_IP i) = 16 := by unfold pageOf aAPC_IP; omega
theorem page_aAPC_LS_STAT (i : Nat) : pageOf (aAPC_LS_STAT i) = 16 := by unfold pageOf aAPC_LS_STAT; omega
theorem page_aAPC_P0_IE (i : Nat) : pageOf (aAPC_P0_IE i) = 16 := by unfold pageOf aAPC_P0_IE; omega
theorem page_aAPC_P1_IE (i : Nat) : pageOf (aAPC_P1_IE i) = 16 := by unfold pageOf aAPC_P1_IE; omega
theorem page_aAPC_WDG_CFG (i : Nat) : pageOf (aAPC_WDG_CFG i) = 16 := by unfold pageOf aAPC_WDG_CFG; omega
theorem page_aAPC_WDG_STAT (i : Nat) : pageOf (aAPC_WDG_STAT i) = 16 := by unfold pageOf aAPC_WDG_STAT; omega
theorem page_aAPC_WDG_SVC (i : Nat) : pageOf (aAPC_WDG_SVC i) = 16 := by unfold pageOf aAPC_WDG_SVC; omega
theorem page_aAX_A1 (i : Nat) : pageOf (aAX_A1 i) = 9 := by unfold pageOf aAX_A1; omega
theorem page_aAX_A2 (i : Nat) : pageOf (aAX_A2 i) = 9 := by unfold pageOf aAX_A2; omega
theorem page_aAX_CFG (i : Nat) : pageOf (aAX_CFG i) = 9 := by unfold pageOf aAX_CFG; omega
theorem page_aAX_CHOP_CFG (i : Nat) : pageOf (aAX_CHOP_CFG i) = 9 := by unfold pageOf aAX_CHOP_CFG; omega
theorem page_aAX_CHOP_FCNT (i : Nat) : pageOf (aAX_CHOP_FCNT i) = 9 := by unfold pageOf aAX_CHOP_FCNT; omega
theorem page_aAX_CHOP_STAT (i : Nat) : pageOf (aAX_CHOP_STAT i) = 9 := by unfold pageOf aAX_CHOP_STAT; omega
theorem page_aAX_CHOP_TIM (i : Nat) : pageOf (aAX_CHOP_TIM i) = 9 := by unfold pageOf aAX_CHOP_TIM; omega
theorem page_aAX_CMD (i : Nat) : pageOf (aAX_CMD i) = 9 := by unfold pageOf aAX_CMD; omega
theorem page_aAX_D1 (i : Nat) : pageOf (aAX_D1 i) = 9 := by unfold pageOf aAX_D1; omega
theorem page_aAX_D2 (i : Nat) : pageOf (aAX_D2 i) = 9 := by unfold pageOf aAX_D2; omega
theorem page_aAX_HOME_POS (i : Nat) : pageOf (aAX_HOME_POS i) = 9 := by unfold pageOf aAX_HOME_POS; omega
theorem page_aAX_HOME_VAL (i : Nat) : pageOf (aAX_HOME_VAL i) = 9 := by unfold pageOf aAX_HOME_VAL; omega
theorem page_aAX_IRQ_EN (i : Nat) : pageOf (aAX_IRQ_EN i) = 9 := by unfold pageOf aAX_IRQ_EN; omega
theorem page_aAX_IRQ_RAW (i : Nat) : pageOf (aAX_IRQ_RAW i) = 9 := by unfold pageOf aAX_IRQ_RAW; omega
theorem page_aAX_LEFT (i : Nat) : pageOf (aAX_LEFT i) = 9 := by unfold pageOf aAX_LEFT; omega
theorem page_aAX_POS (i : Nat) : pageOf (aAX_POS i) = 9 := by unfold pageOf aAX_POS; omega
theorem page_aAX_SPEED (i : Nat) : pageOf (aAX_SPEED i) = 9 := by unfold pageOf aAX_SPEED; omega
theorem page_aAX_STAT (i : Nat) : pageOf (aAX_STAT i) = 9 := by unfold pageOf aAX_STAT; omega
theorem page_aAX_TARGET (i : Nat) : pageOf (aAX_TARGET i) = 9 := by unfold pageOf aAX_TARGET; omega
theorem page_aAX_VBREAK (i : Nat) : pageOf (aAX_VBREAK i) = 9 := by unfold pageOf aAX_VBREAK; omega
theorem page_aAX_VHOME (i : Nat) : pageOf (aAX_VHOME i) = 9 := by unfold pageOf aAX_VHOME; omega
theorem page_aAX_VMAX (i : Nat) : pageOf (aAX_VMAX i) = 9 := by unfold pageOf aAX_VMAX; omega
theorem page_aAX_VSTART (i : Nat) : pageOf (aAX_VSTART i) = 9 := by unfold pageOf aAX_VSTART; omega
theorem page_aAX_VSTOP (i : Nat) : pageOf (aAX_VSTOP i) = 9 := by unfold pageOf aAX_VSTOP; omega
theorem page_aBIST_FINFO (i : Nat) : pageOf (aBIST_FINFO i) = 14 := by unfold pageOf aBIST_FINFO; omega
theorem page_aBIST_REF (i : Nat) : pageOf (aBIST_REF i) = 14 := by unfold pageOf aBIST_REF; omega
theorem page_aBIST_RES (i : Nat) : pageOf (aBIST_RES i) = 14 := by unfold pageOf aBIST_RES; omega
theorem page_aBIST_SIG (i : Nat) : pageOf (aBIST_SIG i) = 14 := by unfold pageOf aBIST_SIG; omega
theorem page_aCAN_BUSOFF_CNT (i : Nat) : pageOf (aCAN_BUSOFF_CNT i) = 10 := by unfold pageOf aCAN_BUSOFF_CNT; omega
theorem page_aCAN_CMD (i : Nat) : pageOf (aCAN_CMD i) = 10 := by unfold pageOf aCAN_CMD; omega
theorem page_aCAN_DBT (i : Nat) : pageOf (aCAN_DBT i) = 10 := by unfold pageOf aCAN_DBT; omega
theorem page_aCAN_ECNT (i : Nat) : pageOf (aCAN_ECNT i) = 10 := by unfold pageOf aCAN_ECNT; omega
theorem page_aCAN_ERR (i : Nat) : pageOf (aCAN_ERR i) = 10 := by unfold pageOf aCAN_ERR; omega
theorem page_aCAN_FIFO_DATA (i j : Nat) : pageOf (aCAN_FIFO_DATA i j) = 10 := by unfold pageOf aCAN_FIFO_DATA; omega
theorem page_aCAN_FIFO_FID (i : Nat) : pageOf (aCAN_FIFO_FID i) = 10 := by unfold pageOf aCAN_FIFO_FID; omega
theorem page_aCAN_FIFO_FMASK (i : Nat) : pageOf (aCAN_FIFO_FMASK i) = 10 := by unfold pageOf aCAN_FIFO_FMASK; omega
theorem page_aCAN_FIFO_HDR (i : Nat) : pageOf (aCAN_FIFO_HDR i) = 10 := by unfold pageOf aCAN_FIFO_HDR; omega
theorem page_aCAN_FIFO_INFO (i : Nat) : pageOf (aCAN_FIFO_INFO i) = 10 := by unfold pageOf aCAN_FIFO_INFO; omega
theorem page_aCAN_FIFO_STAT (i : Nat) : pageOf (aCAN_FIFO_STAT i) = 10 := by unfold pageOf aCAN_FIFO_STAT; omega
theorem page_aCAN_FIFO_TS (i : Nat) : pageOf (aCAN_FIFO_TS i) = 10 := by unfold pageOf aCAN_FIFO_TS; omega
theorem page_aCAN_IDCOLL (i : Nat) : pageOf (aCAN_IDCOLL i) = 10 := by unfold pageOf aCAN_IDCOLL; omega
theorem page_aCAN_IRQ_RAW (i : Nat) : pageOf (aCAN_IRQ_RAW i) = 10 := by unfold pageOf aCAN_IRQ_RAW; omega
theorem page_aCAN_MB_CFG (i j : Nat) : pageOf (aCAN_MB_CFG i j) = 10 := by unfold pageOf aCAN_MB_CFG; omega
theorem page_aCAN_MB_CMD (i : Nat) : pageOf (aCAN_MB_CMD i) = 10 := by unfold pageOf aCAN_MB_CMD; omega
theorem page_aCAN_MB_DATA (i j : Nat) : pageOf (aCAN_MB_DATA i j) = 10 := by unfold pageOf aCAN_MB_DATA; omega
theorem page_aCAN_MB_ID (i j : Nat) : pageOf (aCAN_MB_ID i j) = 10 := by unfold pageOf aCAN_MB_ID; omega
theorem page_aCAN_MB_MASK (i j : Nat) : pageOf (aCAN_MB_MASK i j) = 10 := by unfold pageOf aCAN_MB_MASK; omega
theorem page_aCAN_MB_RXID (i j : Nat) : pageOf (aCAN_MB_RXID i j) = 10 := by unfold pageOf aCAN_MB_RXID; omega
theorem page_aCAN_MB_SEL (i : Nat) : pageOf (aCAN_MB_SEL i) = 10 := by unfold pageOf aCAN_MB_SEL; omega
theorem page_aCAN_MB_STAT (i j : Nat) : pageOf (aCAN_MB_STAT i j) = 10 := by unfold pageOf aCAN_MB_STAT; omega
theorem page_aCAN_MB_TS (i j : Nat) : pageOf (aCAN_MB_TS i j) = 10 := by unfold pageOf aCAN_MB_TS; omega
theorem page_aCAN_MODE (i : Nat) : pageOf (aCAN_MODE i) = 10 := by unfold pageOf aCAN_MODE; omega
theorem page_aCAN_NBT (i : Nat) : pageOf (aCAN_NBT i) = 10 := by unfold pageOf aCAN_NBT; omega
theorem page_aCAN_NEW (i j : Nat) : pageOf (aCAN_NEW i j) = 10 := by unfold pageOf aCAN_NEW; omega
theorem page_aCAN_PSTAT (i : Nat) : pageOf (aCAN_PSTAT i) = 10 := by unfold pageOf aCAN_PSTAT; omega
theorem page_aCAN_RX_DROP (i : Nat) : pageOf (aCAN_RX_DROP i) = 10 := by unfold pageOf aCAN_RX_DROP; omega
theorem page_aCAN_RX_FILT (i : Nat) : pageOf (aCAN_RX_FILT i) = 10 := by unfold pageOf aCAN_RX_FILT; omega
theorem page_aCAN_RX_OK (i : Nat) : pageOf (aCAN_RX_OK i) = 10 := by unfold pageOf aCAN_RX_OK; omega
theorem page_aCAN_RX_OVW (i : Nat) : pageOf (aCAN_RX_OVW i) = 10 := by unfold pageOf aCAN_RX_OVW; omega
theorem page_aCAN_RX_STORE (i : Nat) : pageOf (aCAN_RX_STORE i) = 10 := by unfold pageOf aCAN_RX_STORE; omega
theorem page_aCAN_STAT (i : Nat) : pageOf (aCAN_STAT i) = 10 := by unfold pageOf aCAN_STAT; omega
theorem page_aCAN_TDC (i : Nat) : pageOf (aCAN_TDC i) = 10 := by unfold pageOf aCAN_TDC; omega
theorem page_aCAN_TXPEND (i j : Nat) : pageOf (aCAN_TXPEND i j) = 10 := by unfold pageOf aCAN_TXPEND; omega
theorem page_aCAN_TX_ABT (i : Nat) : pageOf (aCAN_TX_ABT i) = 10 := by unfold pageOf aCAN_TX_ABT; omega
theorem page_aCAN_TX_OK (i : Nat) : pageOf (aCAN_TX_OK i) = 10 := by unfold pageOf aCAN_TX_OK; omega
theorem page_aCAN_TX_REQ (i : Nat) : pageOf (aCAN_TX_REQ i) = 10 := by unfold pageOf aCAN_TX_REQ; omega
theorem page_aCTX_W_OUT (i : Nat) : pageOf (aCTX_W_OUT i) = 5 := by unfold pageOf aCTX_W_OUT; omega
theorem page_aENG_CIRQ (i : Nat) : pageOf (aENG_CIRQ i) = 5 := by unfold pageOf aENG_CIRQ; omega
theorem page_aENG_HALT (i : Nat) : pageOf (aENG_HALT i) = 5 := by unfold pageOf aENG_HALT; omega
theorem page_aENG_RUN (i : Nat) : pageOf (aENG_RUN i) = 5 := by unfold pageOf aENG_RUN; omega
theorem page_aFAB_ABSENT_CNT (i : Nat) : pageOf (aFAB_ABSENT_CNT i) = 1 := by unfold pageOf aFAB_ABSENT_CNT; omega
theorem page_aFAB_DISCARD_CNT (i : Nat) : pageOf (aFAB_DISCARD_CNT i) = 1 := by unfold pageOf aFAB_DISCARD_CNT; omega
theorem page_aFAB_RETIRED_CNT (i : Nat) : pageOf (aFAB_RETIRED_CNT i) = 1 := by unfold pageOf aFAB_RETIRED_CNT; omega
theorem page_aFAB_TDRAIN (i : Nat) : pageOf (aFAB_TDRAIN i) = 1 := by unfold pageOf aFAB_TDRAIN; omega
theorem page_aFAB_WST (i : Nat) : pageOf (aFAB_WST i) = 1 := by unfold pageOf aFAB_WST; omega
theorem page_aFB_CAP_POS (i : Nat) : pageOf (aFB_CAP_POS i) = 8 := by unfold pageOf aFB_CAP_POS; omega
theorem page_aFB_CAP_SPD (i : Nat) : pageOf (aFB_CAP_SPD i) = 8 := by unfold pageOf aFB_CAP_SPD; omega
theorem page_aFB_CAP_TIME (i : Nat) : pageOf (aFB_CAP_TIME i) = 8 := by unfold pageOf aFB_CAP_TIME; omega
theorem page_aFB_CFG (i : Nat) : pageOf (aFB_CFG i) = 8 := by unfold pageOf aFB_CFG; omega
theorem page_aFB_CMD (i : Nat) : pageOf (aFB_CMD i) = 8 := by unfold pageOf aFB_CMD; omega
theorem page_aFB_EDGE_TIME (i : Nat) : pageOf (aFB_EDGE_TIME i) = 8 := by unfold pageOf aFB_EDGE_TIME; omega
theorem page_aFB_EMU_BACKLOG (i : Nat) : pageOf (aFB_EMU_BACKLOG i) = 8 := by unfold pageOf aFB_EMU_BACKLOG; omega
theorem page_aFB_EMU_CFG (i : Nat) : pageOf (aFB_EMU_CFG i) = 8 := by unfold pageOf aFB_EMU_CFG; omega
theorem page_aFB_EMU_LOSS (i : Nat) : pageOf (aFB_EMU_LOSS i) = 8 := by unfold pageOf aFB_EMU_LOSS; omega
theorem page_aFB_EMU_POS (i : Nat) : pageOf (aFB_EMU_POS i) = 8 := by unfold pageOf aFB_EMU_POS; omega
theorem page_aFB_EMU_RATIO (i : Nat) : pageOf (aFB_EMU_RATIO i) = 8 := by unfold pageOf aFB_EMU_RATIO; omega
theorem page_aFB_EMU_ZPER (i : Nat) : pageOf (aFB_EMU_ZPER i) = 8 := by unfold pageOf aFB_EMU_ZPER; omega
theorem page_aFB_IDX_LATCH (i : Nat) : pageOf (aFB_IDX_LATCH i) = 8 := by unfold pageOf aFB_IDX_LATCH; omega
theorem page_aFB_IDX_VAL (i : Nat) : pageOf (aFB_IDX_VAL i) = 8 := by unfold pageOf aFB_IDX_VAL; omega
theorem page_aFB_POS (i : Nat) : pageOf (aFB_POS i) = 8 := by unfold pageOf aFB_POS; omega
theorem page_aFB_RES_CAP_POS (i : Nat) : pageOf (aFB_RES_CAP_POS i) = 8 := by unfold pageOf aFB_RES_CAP_POS; omega
theorem page_aFB_RES_CAP_SPD (i : Nat) : pageOf (aFB_RES_CAP_SPD i) = 8 := by unfold pageOf aFB_RES_CAP_SPD; omega
theorem page_aFB_RES_CAP_TIME (i : Nat) : pageOf (aFB_RES_CAP_TIME i) = 8 := by unfold pageOf aFB_RES_CAP_TIME; omega
theorem page_aFB_RES_CFG (i : Nat) : pageOf (aFB_RES_CFG i) = 8 := by unfold pageOf aFB_RES_CFG; omega
theorem page_aFB_RES_KI (i : Nat) : pageOf (aFB_RES_KI i) = 8 := by unfold pageOf aFB_RES_KI; omega
theorem page_aFB_RES_KP (i : Nat) : pageOf (aFB_RES_KP i) = 8 := by unfold pageOf aFB_RES_KP; omega
theorem page_aFB_RES_POS (i : Nat) : pageOf (aFB_RES_POS i) = 8 := by unfold pageOf aFB_RES_POS; omega
theorem page_aFB_RES_SPD (i : Nat) : pageOf (aFB_RES_SPD i) = 8 := by unfold pageOf aFB_RES_SPD; omega
theorem page_aFB_RES_STAT (i : Nat) : pageOf (aFB_RES_STAT i) = 8 := by unfold pageOf aFB_RES_STAT; omega
theorem page_aFB_SPD_CFG (i : Nat) : pageOf (aFB_SPD_CFG i) = 8 := by unfold pageOf aFB_SPD_CFG; omega
theorem page_aFB_STAT (i : Nat) : pageOf (aFB_STAT i) = 8 := by unfold pageOf aFB_STAT; omega
theorem page_aGIU_ISL_AFD (i : Nat) : pageOf (aGIU_ISL_AFD i) = 6 := by unfold pageOf aGIU_ISL_AFD; omega
theorem page_aGIU_ISL_ARM (i : Nat) : pageOf (aGIU_ISL_ARM i) = 6 := by unfold pageOf aGIU_ISL_ARM; omega
theorem page_aGIU_ISL_CFG (i : Nat) : pageOf (aGIU_ISL_CFG i) = 6 := by unfold pageOf aGIU_ISL_CFG; omega
theorem page_aGIU_ISL_CNT (i : Nat) : pageOf (aGIU_ISL_CNT i) = 6 := by unfold pageOf aGIU_ISL_CNT; omega
theorem page_aGIU_ISL_DFC (i : Nat) : pageOf (aGIU_ISL_DFC i) = 6 := by unfold pageOf aGIU_ISL_DFC; omega
theorem page_aGIU_ISL_FIRST (i : Nat) : pageOf (aGIU_ISL_FIRST i) = 6 := by unfold pageOf aGIU_ISL_FIRST; omega
theorem page_aGIU_ISL_KPF (i : Nat) : pageOf (aGIU_ISL_KPF i) = 6 := by unfold pageOf aGIU_ISL_KPF; omega
theorem page_aGIU_ISL_ROCOF (i : Nat) : pageOf (aGIU_ISL_ROCOF i) = 6 := by unfold pageOf aGIU_ISL_ROCOF; omega
theorem page_aGIU_ISL_STAT (i : Nat) : pageOf (aGIU_ISL_STAT i) = 6 := by unfold pageOf aGIU_ISL_STAT; omega
theorem page_aGIU_ISL_TRIPT (i : Nat) : pageOf (aGIU_ISL_TRIPT i) = 6 := by unfold pageOf aGIU_ISL_TRIPT; omega
theorem page_aGIU_ISL_VS (i : Nat) : pageOf (aGIU_ISL_VS i) = 6 := by unfold pageOf aGIU_ISL_VS; omega
theorem page_aGIU_PLL_AIN (i : Nat) : pageOf (aGIU_PLL_AIN i) = 6 := by unfold pageOf aGIU_PLL_AIN; omega
theorem page_aGIU_PLL_CFG (i : Nat) : pageOf (aGIU_PLL_CFG i) = 6 := by unfold pageOf aGIU_PLL_CFG; omega
theorem page_aGIU_PLL_FREQ (i : Nat) : pageOf (aGIU_PLL_FREQ i) = 6 := by unfold pageOf aGIU_PLL_FREQ; omega
theorem page_aGIU_PLL_K (i : Nat) : pageOf (aGIU_PLL_K i) = 6 := by unfold pageOf aGIU_PLL_K; omega
theorem page_aGIU_PLL_KI (i : Nat) : pageOf (aGIU_PLL_KI i) = 6 := by unfold pageOf aGIU_PLL_KI; omega
theorem page_aGIU_PLL_KP (i : Nat) : pageOf (aGIU_PLL_KP i) = 6 := by unfold pageOf aGIU_PLL_KP; omega
theorem page_aGIU_PLL_MISS (i : Nat) : pageOf (aGIU_PLL_MISS i) = 6 := by unfold pageOf aGIU_PLL_MISS; omega
theorem page_aGIU_PLL_SCALE (i : Nat) : pageOf (aGIU_PLL_SCALE i) = 6 := by unfold pageOf aGIU_PLL_SCALE; omega
theorem page_aGIU_PLL_STAT (i : Nat) : pageOf (aGIU_PLL_STAT i) = 6 := by unfold pageOf aGIU_PLL_STAT; omega
theorem page_aGIU_PLL_VNEG (i : Nat) : pageOf (aGIU_PLL_VNEG i) = 6 := by unfold pageOf aGIU_PLL_VNEG; omega
theorem page_aGIU_PLL_VNOM (i : Nat) : pageOf (aGIU_PLL_VNOM i) = 6 := by unfold pageOf aGIU_PLL_VNOM; omega
theorem page_aGIU_PLL_VPH (i j : Nat) : pageOf (aGIU_PLL_VPH i j) = 6 := by unfold pageOf aGIU_PLL_VPH; omega
theorem page_aGIU_PLL_VPOS (i : Nat) : pageOf (aGIU_PLL_VPOS i) = 6 := by unfold pageOf aGIU_PLL_VPOS; omega
theorem page_aGIU_RT_CESS (i : Nat) : pageOf (aGIU_RT_CESS i) = 6 := by unfold pageOf aGIU_RT_CESS; omega
theorem page_aGIU_RT_CFG (i : Nat) : pageOf (aGIU_RT_CFG i) = 6 := by unfold pageOf aGIU_RT_CFG; omega
theorem page_aGIU_RT_CMD (i : Nat) : pageOf (aGIU_RT_CMD i) = 6 := by unfold pageOf aGIU_RT_CMD; omega
theorem page_aGIU_RT_HF (i j : Nat) : pageOf (aGIU_RT_HF i j) = 6 := by unfold pageOf aGIU_RT_HF; omega
theorem page_aGIU_RT_HV (i j : Nat) : pageOf (aGIU_RT_HV i j) = 6 := by unfold pageOf aGIU_RT_HV; omega
theorem page_aGIU_RT_LF (i j : Nat) : pageOf (aGIU_RT_LF i j) = 6 := by unfold pageOf aGIU_RT_LF; omega
theorem page_aGIU_RT_LV (i j : Nat) : pageOf (aGIU_RT_LV i j) = 6 := by unfold pageOf aGIU_RT_LV; omega
theorem page_aGIU_RT_RCF (i : Nat) : pageOf (aGIU_RT_RCF i) = 6 := by unfold pageOf aGIU_RT_RCF; omega
theorem page_aGIU_RT_RCT (i : Nat) : pageOf (aGIU_RT_RCT i) = 6 := by unfold pageOf aGIU_RT_RCT; omega
theorem page_aGIU_RT_RCV (i : Nat) : pageOf (aGIU_RT_RCV i) = 6 := by unfold pageOf aGIU_RT_RCV; omega
theorem page_aGIU_RT_STAT (i : Nat) : pageOf (aGIU_RT_STAT i) = 6 := by unfold pageOf aGIU_RT_STAT; omega
theorem page_aGIU_RT_TRIPS (i : Nat) : pageOf (aGIU_RT_TRIPS i) = 6 := by unfold pageOf aGIU_RT_TRIPS; omega
theorem page_aGIU_TRK_CFG (i : Nat) : pageOf (aGIU_TRK_CFG i) = 6 := by unfold pageOf aGIU_TRK_CFG; omega
theorem page_aGIU_TRK_CMD (i : Nat) : pageOf (aGIU_TRK_CMD i) = 6 := by unfold pageOf aGIU_TRK_CMD; omega
theorem page_aGIU_TRK_GEPS (i : Nat) : pageOf (aGIU_TRK_GEPS i) = 6 := by unfold pageOf aGIU_TRK_GEPS; omega
theorem page_aGIU_TRK_JUMP (i : Nat) : pageOf (aGIU_TRK_JUMP i) = 6 := by unfold pageOf aGIU_TRK_JUMP; omega
theorem page_aGIU_TRK_KSTEP (i : Nat) : pageOf (aGIU_TRK_KSTEP i) = 6 := by unfold pageOf aGIU_TRK_KSTEP; omega
theorem page_aGIU_TRK_PWR (i : Nat) : pageOf (aGIU_TRK_PWR i) = 6 := by unfold pageOf aGIU_TRK_PWR; omega
theorem page_aGIU_TRK_RSVD (i : Nat) : pageOf (aGIU_TRK_RSVD i) = 6 := by unfold pageOf aGIU_TRK_RSVD; omega
theorem page_aGIU_TRK_SCAN (i : Nat) : pageOf (aGIU_TRK_SCAN i) = 6 := by unfold pageOf aGIU_TRK_SCAN; omega
theorem page_aGIU_TRK_SCAN_CFG (i : Nat) : pageOf (aGIU_TRK_SCAN_CFG i) = 6 := by unfold pageOf aGIU_TRK_SCAN_CFG; omega
theorem page_aGIU_TRK_STAT (i : Nat) : pageOf (aGIU_TRK_STAT i) = 6 := by unfold pageOf aGIU_TRK_STAT; omega
theorem page_aGIU_TRK_STEPMAX (i : Nat) : pageOf (aGIU_TRK_STEPMAX i) = 6 := by unfold pageOf aGIU_TRK_STEPMAX; omega
theorem page_aGIU_TRK_STEPMIN (i : Nat) : pageOf (aGIU_TRK_STEPMIN i) = 6 := by unfold pageOf aGIU_TRK_STEPMIN; omega
theorem page_aGIU_TRK_VMAX (i : Nat) : pageOf (aGIU_TRK_VMAX i) = 6 := by unfold pageOf aGIU_TRK_VMAX; omega
theorem page_aGIU_TRK_VMIN (i : Nat) : pageOf (aGIU_TRK_VMIN i) = 6 := by unfold pageOf aGIU_TRK_VMIN; omega
theorem page_aGIU_TRK_VREF (i : Nat) : pageOf (aGIU_TRK_VREF i) = 6 := by unfold pageOf aGIU_TRK_VREF; omega
theorem page_aGIU_TRK_VSTART (i : Nat) : pageOf (aGIU_TRK_VSTART i) = 6 := by unfold pageOf aGIU_TRK_VSTART; omega
theorem page_aHPM_RAIL_V (i : Nat) : pageOf (aHPM_RAIL_V i) = 0 := by unfold pageOf aHPM_RAIL_V; omega
theorem page_aHPM_TEMP (i : Nat) : pageOf (aHPM_TEMP i) = 0 := by unfold pageOf aHPM_TEMP; omega
theorem page_aLEG_BOOT (i : Nat) : pageOf (aLEG_BOOT i) = 3 := by unfold pageOf aLEG_BOOT; omega
theorem page_aLEG_CBC_TOT (i : Nat) : pageOf (aLEG_CBC_TOT i) = 3 := by unfold pageOf aLEG_CBC_TOT; omega
theorem page_aLEG_CFG (i : Nat) : pageOf (aLEG_CFG i) = 3 := by unfold pageOf aLEG_CFG; omega
theorem page_aLEG_CMP_GEN (i : Nat) : pageOf (aLEG_CMP_GEN i) = 3 := by unfold pageOf aLEG_CMP_GEN; omega
theorem page_aLEG_CMP_OFF (i : Nat) : pageOf (aLEG_CMP_OFF i) = 3 := by unfold pageOf aLEG_CMP_OFF; omega
theorem page_aLEG_CMP_ON (i : Nat) : pageOf (aLEG_CMP_ON i) = 3 := by unfold pageOf aLEG_CMP_ON; omega
theorem page_aLEG_LCMP_OFF (i : Nat) : pageOf (aLEG_LCMP_OFF i) = 3 := by unfold pageOf aLEG_LCMP_OFF; omega
theorem page_aLEG_LCMP_ON (i : Nat) : pageOf (aLEG_LCMP_ON i) = 3 := by unfold pageOf aLEG_LCMP_ON; omega
theorem page_aLEG_STAT (i : Nat) : pageOf (aLEG_STAT i) = 3 := by unfold pageOf aLEG_STAT; omega
theorem page_aLEG_TIM (i : Nat) : pageOf (aLEG_TIM i) = 3 := by unfold pageOf aLEG_TIM; omega
theorem page_aLEG_TRIP_CFG (i : Nat) : pageOf (aLEG_TRIP_CFG i) = 3 := by unfold pageOf aLEG_TRIP_CFG; omega
theorem page_aLEG_TRIP_CLR (i : Nat) : pageOf (aLEG_TRIP_CLR i) = 3 := by unfold pageOf aLEG_TRIP_CLR; omega
theorem page_aLEG_TRIP_EVT (i : Nat) : pageOf (aLEG_TRIP_EVT i) = 3 := by unfold pageOf aLEG_TRIP_EVT; omega
theorem page_aLEG_TRIP_STAT (i : Nat) : pageOf (aLEG_TRIP_STAT i) = 3 := by unfold pageOf aLEG_TRIP_STAT; omega
theorem page_aLEG_TRIP_TIM (i : Nat) : pageOf (aLEG_TRIP_TIM i) = 3 := by unfold pageOf aLEG_TRIP_TIM; omega
theorem page_aLEG_TRIP_TIME (i : Nat) : pageOf (aLEG_TRIP_TIME i) = 3 := by unfold pageOf aLEG_TRIP_TIME; omega
theorem page_aMG_CFG (i : Nat) : pageOf (aMG_CFG i) = 3 := by unfold pageOf aMG_CFG; omega
theorem page_aMG_IRQ_EN (i : Nat) : pageOf (aMG_IRQ_EN i) = 3 := by unfold pageOf aMG_IRQ_EN; omega
theorem page_aMG_IRQ_RAW (i : Nat) : pageOf (aMG_IRQ_RAW i) = 3 := by unfold pageOf aMG_IRQ_RAW; omega
theorem page_aMG_MEMB (i j : Nat) : pageOf (aMG_MEMB i j) = 3 := by unfold pageOf aMG_MEMB; omega
theorem page_aMG_SAFE_CFG (i : Nat) : pageOf (aMG_SAFE_CFG i) = 3 := by unfold pageOf aMG_SAFE_CFG; omega
theorem page_aMG_SAFE_CMD (i : Nat) : pageOf (aMG_SAFE_CMD i) = 3 := by unfold pageOf aMG_SAFE_CMD; omega
theorem page_aMG_SAFE_CNT (i : Nat) : pageOf (aMG_SAFE_CNT i) = 3 := by unfold pageOf aMG_SAFE_CNT; omega
theorem page_aMG_SAFE_SEL (i : Nat) : pageOf (aMG_SAFE_SEL i) = 3 := by unfold pageOf aMG_SAFE_SEL; omega
theorem page_aMG_SAFE_TIME (i : Nat) : pageOf (aMG_SAFE_TIME i) = 3 := by unfold pageOf aMG_SAFE_TIME; omega
theorem page_aMG_SIDE_STAT (i : Nat) : pageOf (aMG_SIDE_STAT i) = 3 := by unfold pageOf aMG_SIDE_STAT; omega
theorem page_aMG_STAT (i : Nat) : pageOf (aMG_STAT i) = 3 := by unfold pageOf aMG_STAT; omega
theorem page_aMG_TRIP_CLR (i : Nat) : pageOf (aMG_TRIP_CLR i) = 3 := by unfold pageOf aMG_TRIP_CLR; omega
theorem page_aMG_TRIP_STAT (i : Nat) : pageOf (aMG_TRIP_STAT i) = 3 := by unfold pageOf aMG_TRIP_STAT; omega
theorem page_aMSIO_EV_CFG (i : Nat) : pageOf (aMSIO_EV_CFG i) = 11 := by unfold pageOf aMSIO_EV_CFG; omega
theorem page_aMSIO_EV_SRC (i : Nat) : pageOf (aMSIO_EV_SRC i) = 11 := by unfold pageOf aMSIO_EV_SRC; omega
theorem page_aMSIO_EV_STAT (i : Nat) : pageOf (aMSIO_EV_STAT i) = 11 := by unfold pageOf aMSIO_EV_STAT; omega
theorem page_aMSIO_EV_TIM (i : Nat) : pageOf (aMSIO_EV_TIM i) = 11 := by unfold pageOf aMSIO_EV_TIM; omega
theorem page_aMSIO_SI_CFG (i : Nat) : pageOf (aMSIO_SI_CFG i) = 11 := by unfold pageOf aMSIO_SI_CFG; omega
theorem page_aMSIO_SM_BUF (i j : Nat) : pageOf (aMSIO_SM_BUF i j) = 11 := by unfold pageOf aMSIO_SM_BUF; omega
theorem page_aMSIO_SM_CFG (i : Nat) : pageOf (aMSIO_SM_CFG i) = 11 := by unfold pageOf aMSIO_SM_CFG; omega
theorem page_aMSIO_SM_CMD (i : Nat) : pageOf (aMSIO_SM_CMD i) = 11 := by unfold pageOf aMSIO_SM_CMD; omega
theorem page_aMSIO_SM_CNT (i : Nat) : pageOf (aMSIO_SM_CNT i) = 11 := by unfold pageOf aMSIO_SM_CNT; omega
theorem page_aMSIO_SM_IDA (i : Nat) : pageOf (aMSIO_SM_IDA i) = 11 := by unfold pageOf aMSIO_SM_IDA; omega
theorem page_aMSIO_SM_IDB (i : Nat) : pageOf (aMSIO_SM_IDB i) = 11 := by unfold pageOf aMSIO_SM_IDB; omega
theorem page_aMSIO_SM_STAT (i : Nat) : pageOf (aMSIO_SM_STAT i) = 11 := by unfold pageOf aMSIO_SM_STAT; omega
theorem page_aMSIO_SM_TIM (i : Nat) : pageOf (aMSIO_SM_TIM i) = 11 := by unfold pageOf aMSIO_SM_TIM; omega
theorem page_aMSIO_SO_CFG (i : Nat) : pageOf (aMSIO_SO_CFG i) = 11 := by unfold pageOf aMSIO_SO_CFG; omega
theorem page_aNDL_CRC_ERR (i : Nat) : pageOf (aNDL_CRC_ERR i) = 4 := by unfold pageOf aNDL_CRC_ERR; omega
theorem page_aNDL_CTRL (i : Nat) : pageOf (aNDL_CTRL i) = 4 := by unfold pageOf aNDL_CTRL; omega
theorem page_aNDL_EDGE_CNT (i : Nat) : pageOf (aNDL_EDGE_CNT i) = 4 := by unfold pageOf aNDL_EDGE_CNT; omega
theorem page_aNDL_GPROF (i j k : Nat) : pageOf (aNDL_GPROF i j k) = 4 := by unfold pageOf aNDL_GPROF; omega
theorem page_aNDL_HINT (i : Nat) : pageOf (aNDL_HINT i) = 4 := by unfold pageOf aNDL_HINT; omega
theorem page_aNDL_IRQ_EN (i : Nat) : pageOf (aNDL_IRQ_EN i) = 4 := by unfold pageOf aNDL_IRQ_EN; omega
theorem page_aNDL_IRQ_RAW (i : Nat) : pageOf (aNDL_IRQ_RAW i) = 4 := by unfold pageOf aNDL_IRQ_RAW; omega
theorem page_aNDL_LATE_EDGE (i : Nat) : pageOf (aNDL_LATE_EDGE i) = 4 := by unfold pageOf aNDL_LATE_EDGE; omega
theorem page_aNDL_LATE_RETRACT (i : Nat) : pageOf (aNDL_LATE_RETRACT i) = 4 := by unfold pageOf aNDL_LATE_RETRACT; omega
theorem page_aNDL_LEAD (i : Nat) : pageOf (aNDL_LEAD i) = 4 := by unfold pageOf aNDL_LEAD; omega
theorem page_aNDL_LEAD_VIOL (i : Nat) : pageOf (aNDL_LEAD_VIOL i) = 4 := by unfold pageOf aNDL_LEAD_VIOL; omega
theorem page_aNDL_LOSS_CNT (i : Nat) : pageOf (aNDL_LOSS_CNT i) = 4 := by unfold pageOf aNDL_LOSS_CNT; omega
theorem page_aNDL_NOT_OWNER (i : Nat) : pageOf (aNDL_NOT_OWNER i) = 4 := by unfold pageOf aNDL_NOT_OWNER; omega
theorem page_aNDL_OFS (i : Nat) : pageOf (aNDL_OFS i) = 4 := by unfold pageOf aNDL_OFS; omega
theorem page_aNDL_RESEND (i : Nat) : pageOf (aNDL_RESEND i) = 4 := by unfold pageOf aNDL_RESEND; omega
theorem page_aNDL_RETRACT_CNT (i : Nat) : pageOf (aNDL_RETRACT_CNT i) = 4 := by unfold pageOf aNDL_RETRACT_CNT; omega
theorem page_aNDL_SAT_CAPS (i : Nat) : pageOf (aNDL_SAT_CAPS i) = 4 := by unfold pageOf aNDL_SAT_CAPS; omega
theorem page_aNDL_SAT_ID (i : Nat) : pageOf (aNDL_SAT_ID i) = 4 := by unfold pageOf aNDL_SAT_ID; omega
theorem page_aNDL_SAT_ILK (i : Nat) : pageOf (aNDL_SAT_ILK i) = 4 := by unfold pageOf aNDL_SAT_ILK; omega
theorem page_aNDL_STAT (i : Nat) : pageOf (aNDL_STAT i) = 4 := by unfold pageOf aNDL_STAT; omega
theorem page_aNDL_SYNC (i : Nat) : pageOf (aNDL_SYNC i) = 4 := by unfold pageOf aNDL_SYNC; omega
theorem page_aNDL_TELEM (i j : Nat) : pageOf (aNDL_TELEM i j) = 4 := by unfold pageOf aNDL_TELEM; omega
theorem page_aNDL_TEL_CFG (i : Nat) : pageOf (aNDL_TEL_CFG i) = 4 := by unfold pageOf aNDL_TEL_CFG; omega
theorem page_aNDL_TIMING (i : Nat) : pageOf (aNDL_TIMING i) = 4 := by unfold pageOf aNDL_TIMING; omega
theorem page_aNDL_TOKEN (i : Nat) : pageOf (aNDL_TOKEN i) = 4 := by unfold pageOf aNDL_TOKEN; omega
theorem page_aNDL_TOK_STAT (i : Nat) : pageOf (aNDL_TOK_STAT i) = 4 := by unfold pageOf aNDL_TOK_STAT; omega
theorem page_aPAIR_CTX_EN (i : Nat) : pageOf (aPAIR_CTX_EN i) = 12 := by unfold pageOf aPAIR_CTX_EN; omega
theorem page_aREC_CUR_DATA (i : Nat) : pageOf (aREC_CUR_DATA i) = 13 := by unfold pageOf aREC_CUR_DATA; omega
theorem page_aREC_SW_DATA (i : Nat) : pageOf (aREC_SW_DATA i) = 13 := by unfold pageOf aREC_SW_DATA; omega
theorem page_aSAGE_DIS_CFG (i : Nat) : pageOf (aSAGE_DIS_CFG i) = 15 := by unfold pageOf aSAGE_DIS_CFG; omega
theorem page_aSAGE_DIS_CNT (i : Nat) : pageOf (aSAGE_DIS_CNT i) = 15 := by unfold pageOf aSAGE_DIS_CNT; omega
theorem page_aSAGE_DIS_LIM (i : Nat) : pageOf (aSAGE_DIS_LIM i) = 15 := by unfold pageOf aSAGE_DIS_LIM; omega
theorem page_aSAGE_DIS_SRC (i : Nat) : pageOf (aSAGE_DIS_SRC i) = 15 := by unfold pageOf aSAGE_DIS_SRC; omega
theorem page_aSAGE_DIS_STAT (i : Nat) : pageOf (aSAGE_DIS_STAT i) = 15 := by unfold pageOf aSAGE_DIS_STAT; omega
theorem page_aSAGE_DIS_TIME (i : Nat) : pageOf (aSAGE_DIS_TIME i) = 15 := by unfold pageOf aSAGE_DIS_TIME; omega
theorem page_aSAGE_DIS_VSCL (i : Nat) : pageOf (aSAGE_DIS_VSCL i) = 15 := by unfold pageOf aSAGE_DIS_VSCL; omega
theorem page_aSAGE_EVT_CFG (i : Nat) : pageOf (aSAGE_EVT_CFG i) = 15 := by unfold pageOf aSAGE_EVT_CFG; omega
theorem page_aSAGE_EVT_CNT (i : Nat) : pageOf (aSAGE_EVT_CNT i) = 15 := by unfold pageOf aSAGE_EVT_CNT; omega
theorem page_aSAGE_EVT_MGM (i : Nat) : pageOf (aSAGE_EVT_MGM i) = 15 := by unfold pageOf aSAGE_EVT_MGM; omega
theorem page_aSAGE_EVT_PEND (i : Nat) : pageOf (aSAGE_EVT_PEND i) = 15 := by unfold pageOf aSAGE_EVT_PEND; omega
theorem page_aSAGE_LIV_T (i : Nat) : pageOf (aSAGE_LIV_T i) = 15 := by unfold pageOf aSAGE_LIV_T; omega
theorem page_aSAGE_LIV_VIOL (i : Nat) : pageOf (aSAGE_LIV_VIOL i) = 15 := by unfold pageOf aSAGE_LIV_VIOL; omega
theorem page_aSAGE_TM_AOFS (i : Nat) : pageOf (aSAGE_TM_AOFS i) = 15 := by unfold pageOf aSAGE_TM_AOFS; omega
theorem page_aSAGE_TM_CFG (i : Nat) : pageOf (aSAGE_TM_CFG i) = 15 := by unfold pageOf aSAGE_TM_CFG; omega
theorem page_aSAGE_TM_EREQ (i : Nat) : pageOf (aSAGE_TM_EREQ i) = 15 := by unfold pageOf aSAGE_TM_EREQ; omega
theorem page_aSAGE_TM_EVAL (i : Nat) : pageOf (aSAGE_TM_EVAL i) = 15 := by unfold pageOf aSAGE_TM_EVAL; omega
theorem page_aSAGE_TM_ISCL (i : Nat) : pageOf (aSAGE_TM_ISCL i) = 15 := by unfold pageOf aSAGE_TM_ISCL; omega
theorem page_aSAGE_TM_LD (i : Nat) : pageOf (aSAGE_TM_LD i) = 15 := by unfold pageOf aSAGE_TM_LD; omega
theorem page_aSAGE_TM_LQ (i : Nat) : pageOf (aSAGE_TM_LQ i) = 15 := by unfold pageOf aSAGE_TM_LQ; omega
theorem page_aSAGE_TM_PHI (i j : Nat) : pageOf (aSAGE_TM_PHI i j) = 15 := by unfold pageOf aSAGE_TM_PHI; omega
theorem page_aSAGE_TM_PSCL (i : Nat) : pageOf (aSAGE_TM_PSCL i) = 15 := by unfold pageOf aSAGE_TM_PSCL; omega
theorem page_aSAGE_TM_PSI (i : Nat) : pageOf (aSAGE_TM_PSI i) = 15 := by unfold pageOf aSAGE_TM_PSI; omega
theorem page_aSAGE_TM_STAT (i : Nat) : pageOf (aSAGE_TM_STAT i) = 15 := by unfold pageOf aSAGE_TM_STAT; omega
theorem page_aSAGE_TM_SUMTOL (i : Nat) : pageOf (aSAGE_TM_SUMTOL i) = 15 := by unfold pageOf aSAGE_TM_SUMTOL; omega
theorem page_aSAGE_TM_TABS (i : Nat) : pageOf (aSAGE_TM_TABS i) = 15 := by unfold pageOf aSAGE_TM_TABS; omega
theorem page_aSAGE_TM_TIM (i : Nat) : pageOf (aSAGE_TM_TIM i) = 15 := by unfold pageOf aSAGE_TM_TIM; omega
theorem page_aSAGE_TM_TMON (i : Nat) : pageOf (aSAGE_TM_TMON i) = 15 := by unfold pageOf aSAGE_TM_TMON; omega
theorem page_aSAGE_TM_TMR (i : Nat) : pageOf (aSAGE_TM_TMR i) = 15 := by unfold pageOf aSAGE_TM_TMR; omega
theorem page_aSAGE_TM_TOLA (i : Nat) : pageOf (aSAGE_TM_TOLA i) = 15 := by unfold pageOf aSAGE_TM_TOLA; omega
theorem page_aSAGE_TM_TOLR (i : Nat) : pageOf (aSAGE_TM_TOLR i) = 15 := by unfold pageOf aSAGE_TM_TOLR; omega
theorem page_aSYS_MP_DATA (i : Nat) : pageOf (aSYS_MP_DATA i) = 0 := by unfold pageOf aSYS_MP_DATA; omega
theorem page_aTBG_CFG (i : Nat) : pageOf (aTBG_CFG i) = 2 := by unfold pageOf aTBG_CFG; omega
theorem page_aTBG_CMD (i : Nat) : pageOf (aTBG_CMD i) = 2 := by unfold pageOf aTBG_CMD; omega
theorem page_aTBG_COMMIT (i : Nat) : pageOf (aTBG_COMMIT i) = 2 := by unfold pageOf aTBG_COMMIT; omega
theorem page_aTBG_GEN (i : Nat) : pageOf (aTBG_GEN i) = 2 := by unfold pageOf aTBG_GEN; omega
theorem page_aTBG_HOFS (i : Nat) : pageOf (aTBG_HOFS i) = 2 := by unfold pageOf aTBG_HOFS; omega
theorem page_aTBG_IRQ_EN (i : Nat) : pageOf (aTBG_IRQ_EN i) = 2 := by unfold pageOf aTBG_IRQ_EN; omega
theorem page_aTBG_IRQ_RAW (i : Nat) : pageOf (aTBG_IRQ_RAW i) = 2 := by unfold pageOf aTBG_IRQ_RAW; omega
theorem page_aTBG_NEXT_HI (i : Nat) : pageOf (aTBG_NEXT_HI i) = 2 := by unfold pageOf aTBG_NEXT_HI; omega
theorem page_aTBG_NEXT_LO (i : Nat) : pageOf (aTBG_NEXT_LO i) = 2 := by unfold pageOf aTBG_NEXT_LO; omega
theorem page_aTBG_PCNT (i : Nat) : pageOf (aTBG_PCNT i) = 2 := by unfold pageOf aTBG_PCNT; omega
theorem page_aTBG_PERIOD (i : Nat) : pageOf (aTBG_PERIOD i) = 2 := by unfold pageOf aTBG_PERIOD; omega
theorem page_aTBG_REPEAT_CNT (i : Nat) : pageOf (aTBG_REPEAT_CNT i) = 2 := by unfold pageOf aTBG_REPEAT_CNT; omega
theorem page_aTBG_RSVD (i : Nat) : pageOf (aTBG_RSVD i) = 2 := by unfold pageOf aTBG_RSVD; omega
theorem page_aTBG_SET_STEP (i : Nat) : pageOf (aTBG_SET_STEP i) = 2 := by unfold pageOf aTBG_SET_STEP; omega
theorem page_aTBG_SMP (i : Nat) : pageOf (aTBG_SMP i) = 2 := by unfold pageOf aTBG_SMP; omega
theorem page_aTBG_STAT (i : Nat) : pageOf (aTBG_STAT i) = 2 := by unfold pageOf aTBG_STAT; omega
theorem page_aTBG_T0_HI (i : Nat) : pageOf (aTBG_T0_HI i) = 2 := by unfold pageOf aTBG_T0_HI; omega
theorem page_aTBG_T0_LO (i : Nat) : pageOf (aTBG_T0_LO i) = 2 := by unfold pageOf aTBG_T0_LO; omega
theorem page_aTBG_TORN_CNT (i : Nat) : pageOf (aTBG_TORN_CNT i) = 2 := by unfold pageOf aTBG_TORN_CNT; omega
theorem page_aTBG_TRG0 (i : Nat) : pageOf (aTBG_TRG0 i) = 2 := by unfold pageOf aTBG_TRG0; omega
theorem page_aTBG_TRG1 (i : Nat) : pageOf (aTBG_TRG1 i) = 2 := by unfold pageOf aTBG_TRG1; omega
theorem page_aTHY_LEG_EN (i : Nat) : pageOf (aTHY_LEG_EN i) = 2 := by unfold pageOf aTHY_LEG_EN; omega
theorem page_aTHY_TRIP_CNT (i : Nat) : pageOf (aTHY_TRIP_CNT i) = 2 := by unfold pageOf aTHY_TRIP_CNT; omega
theorem page_aTHY_TRIP_LVL (i : Nat) : pageOf (aTHY_TRIP_LVL i) = 2 := by unfold pageOf aTHY_TRIP_LVL; omega
theorem page_aTHY_TRIP_SRC (i : Nat) : pageOf (aTHY_TRIP_SRC i) = 2 := by unfold pageOf aTHY_TRIP_SRC; omega
theorem page_bit_aBIST_HELD ( b : Nat) : pageOf (bitFld (aBIST_HELD) b).addr = 14 := by dsimp only [pageOf, bitFld, aBIST_HELD]; omega
theorem page_bit_aCAN_NEW (i j b : Nat) : pageOf (bitFld (aCAN_NEW i j) b).addr = 10 := by dsimp only [pageOf, bitFld, aCAN_NEW]; omega
theorem page_bit_aCAN_TXPEND (i j b : Nat) : pageOf (bitFld (aCAN_TXPEND i j) b).addr = 10 := by dsimp only [pageOf, bitFld, aCAN_TXPEND]; omega
theorem page_bit_aLEG_TRIP_STAT (i b : Nat) : pageOf (bitFld (aLEG_TRIP_STAT i) b).addr = 3 := by dsimp only [pageOf, bitFld, aLEG_TRIP_STAT]; omega
theorem page_bit_aMSIO_SI_FAULT ( b : Nat) : pageOf (bitFld (aMSIO_SI_FAULT) b).addr = 11 := by dsimp only [pageOf, bitFld, aMSIO_SI_FAULT]; omega
theorem page_bit_aMSIO_SI_FILT ( b : Nat) : pageOf (bitFld (aMSIO_SI_FILT) b).addr = 11 := by dsimp only [pageOf, bitFld, aMSIO_SI_FILT]; omega
theorem page_bit_aMSIO_SO_STAT ( b : Nat) : pageOf (bitFld (aMSIO_SO_STAT) b).addr = 11 := by dsimp only [pageOf, bitFld, aMSIO_SO_STAT]; omega
theorem page_bit_aNDL_LOSS ( b : Nat) : pageOf (bitFld (aNDL_LOSS) b).addr = 4 := by dsimp only [pageOf, bitFld, aNDL_LOSS]; omega
theorem page_bit_aNDL_TOK ( b : Nat) : pageOf (bitFld (aNDL_TOK) b).addr = 4 := by dsimp only [pageOf, bitFld, aNDL_TOK]; omega
theorem page_bit_aNDL_UP ( b : Nat) : pageOf (bitFld (aNDL_UP) b).addr = 4 := by dsimp only [pageOf, bitFld, aNDL_UP]; omega
theorem page_bit_aPAIR_SPLIT ( b : Nat) : pageOf (bitFld (aPAIR_SPLIT) b).addr = 12 := by dsimp only [pageOf, bitFld, aPAIR_SPLIT]; omega
theorem page_bit_aSAGE_HEALTH ( b : Nat) : pageOf (bitFld (aSAGE_HEALTH) b).addr = 15 := by dsimp only [pageOf, bitFld, aSAGE_HEALTH]; omega
theorem page_bit_aSAGE_LIV_VIOL (i b : Nat) : pageOf (bitFld (aSAGE_LIV_VIOL i) b).addr = 15 := by dsimp only [pageOf, bitFld, aSAGE_LIV_VIOL]; omega
theorem page_bit_aSAGE_MG_HOLD ( b : Nat) : pageOf (bitFld (aSAGE_MG_HOLD) b).addr = 15 := by dsimp only [pageOf, bitFld, aSAGE_MG_HOLD]; omega
theorem page_bit_aTHY_TRIP_LVL (i b : Nat) : pageOf (bitFld (aTHY_TRIP_LVL i) b).addr = 2 := by dsimp only [pageOf, bitFld, aTHY_TRIP_LVL]; omega
theorem page_bit_aTHY_TRIP_SUM ( b : Nat) : pageOf (bitFld (aTHY_TRIP_SUM) b).addr = 2 := by dsimp only [pageOf, bitFld, aTHY_TRIP_SUM]; omega
theorem page_errKind (c : Nat) (k : CanErr) : pageOf (errKind c k).addr = 10 := by cases k <;> exact page_aCAN_ECNT c
theorem page_cmpAddr (n : Nat) (w : CmpReg) : pageOf (cmpAddr n w) = 3 := by cases w <;> dsimp only [pageOf, cmpAddr, aLEG_CMP_ON, aLEG_CMP_OFF, aLEG_LCMP_ON, aLEG_LCMP_OFF] <;> omega
theorem page_rampReg (k : Nat) (w : RampReg) : pageOf (rampReg k w) = 9 := by cases w <;> dsimp only [pageOf, rampReg, aAX_D1, aAX_D2, aAX_VBREAK, aAX_VSTOP] <;> omega
theorem page_fOfs (k : Nat) (b : Bool) : pageOf (fOfs k b).addr = 9 := by cases b <;> exact page_aAX_CHOP_STAT k

end Sys2Proof.Laws
end

