-- ==== Sys2Proof/Laws/TouchShared.lean ====
section
/-! SUPPORT. Registers, records, Sage events, the fabric, the hub, contexts, safe states, register access: what they may change. -/
namespace Sys2Proof.Laws
open Sys2Proof.Machine

variable {m : Nat} {x : State}

theorem touch_freeWord (hm : Sub 0x100000 m) (s : State) (hs : Touch m x s) : Touch m x (State.freeWord s).2 := by
  unfold State.freeWord
  with_reducible repeat' first | apply Touch.ite_ | assumption | apply touch_setFree

theorem touch_memPutWords (hm : Sub 0x40000 m) (s : State) (a ws) (hs : Touch m x s) : Touch m x (State.memPutWords s a ws) := by
  unfold State.memPutWords
  with_reducible repeat' first | apply Touch.ite_ | assumption | apply Touch.each_ | apply touch_memPut | apply Touch.foldl_ | apply Touch.foldl_fst | apply Touch.foldl_snd | intro _ _ _

theorem touch_putLink (hm : Sub 0x8000000 m) (s : State) (q i cls l) (hs : Touch m x s) : Touch m x (State.putLink s q i cls l) := by
  unfold State.putLink
  with_reducible repeat' first | apply Touch.ite_ | assumption | apply touch_setLinks

theorem touch_putWarden (hm : Sub 0x4000000 m) (s : State) (i w) (hs : Touch m x s) : Touch m x (State.putWarden s i w) := by
  unfold State.putWarden
  with_reducible repeat' first | apply Touch.ite_ | assumption | apply touch_setWardens

theorem touch_recFill (hm : Sub 0x2000 m) (s : State) (hs : Touch m x s) : Touch m x (State.recFill s) := by
  unfold State.recFill
  with_reducible repeat' first | apply Touch.ite_ | assumption | apply touch_put | apply Touch.foldl_ | apply Touch.foldl_fst | apply Touch.foldl_snd | intro _ _ _ | intro _ _ | split | dsimp only
  all_goals first | exact hm.up rfl | exact hm.pg (k := 13) rfl rfl

theorem touch_recDefer (hm : Sub 0x100000000002000 m) (full t) (s : State) (hs : Touch m x s) : Touch m x (recDefer full t s) := by
  unfold recDefer
  with_reducible repeat' first | apply Touch.ite_ | assumption | apply touch_setRosem | apply touch_errSet | apply touch_irq | apply Touch.foldl_ | apply Touch.foldl_fst | apply Touch.foldl_snd | intro _ _ _ | intro _ _ | split | dsimp only
  all_goals first | exact hm.up rfl | with_reducible refine hm.pg (k := 13) (page_raw ?_) ?_ | with_reducible refine hm.pg (k := 13) (page_err ?_) ?_ | exact hm.pg (k := 13) rfl rfl

theorem touch_fabAbsent (hm : Sub 0x2 m) (i) (s : State) (hs : Touch m x s) : Touch m x (fabAbsent i s) := by
  unfold fabAbsent
  with_reducible repeat' first | apply Touch.ite_ | assumption | apply touch_incr | apply Touch.foldl_ | apply Touch.foldl_fst | apply Touch.foldl_snd | intro _ _ _ | intro _ _ | split | dsimp only
  all_goals first | exact hm.up rfl | with_reducible refine hm.pg (page_aFAB_ABSENT_CNT _) ?_
  all_goals rfl

theorem touch_fabUse (hm : Sub 0xC000000 m) (q i cls) (s : State) (hs : Touch m x s) : Touch m x (fabUse q i cls s) := by
  unfold fabUse
  with_reducible repeat' first | apply Touch.ite_ | assumption | apply touch_putLink | apply touch_putWarden | apply Touch.foldl_ | apply Touch.foldl_fst | apply Touch.foldl_snd | intro _ _ _ | intro _ _ | split | dsimp only
  all_goals first | exact hm.up rfl

theorem touch_placeDeferred (hm : Sub 0x100000000000000 m) (s : State) (hs : Touch m x s) : Touch m x (placeDeferred s) := by
  unfold placeDeferred
  with_reducible repeat' first | apply Touch.ite_ | assumption | apply touch_setRosem

theorem touch_recEvent (hm : Sub 0x10000000C002002 m) (code block inst time pay) (s : State) (hs : Touch m x s) : Touch m x (recEvent code block inst time pay s) := by
  unfold recEvent
  with_reducible repeat' first | apply Touch.ite_ | assumption | apply touch_recDefer | apply touch_fabAbsent | apply touch_incr | apply touch_fabUse | apply touch_placeDeferred | apply touch_recFill | apply touch_setRosem | apply Touch.foldl_ | apply Touch.foldl_fst | apply Touch.foldl_snd | intro _ _ _ | intro _ _ | split | dsimp only
  all_goals first | exact hm.up rfl | exact hm.pg (k := 13) rfl rfl

theorem touch_record (hm : Sub 0x10000000C002002 m) (s : State) (code b pay) (hs : Touch m x s) : Touch m x (State.record s code b pay) := by
  unfold State.record
  with_reducible repeat' first | apply Touch.ite_ | assumption | apply touch_recEvent

theorem touch_fabSend (hm : Sub 0xC000002 m) (q i cls) (k : State → State) (s : State) (hk : ∀ y, Touch m x y → Touch m x (k y))
    (hs : Touch m x s) : Touch m x (fabSend q i cls k s) :=
  Touch.ite_ (hk _ (touch_fabUse (hm.up rfl) q i cls s hs)) (touch_fabAbsent (hm.up rfl) i s hs)

theorem touch_ringWrite (hm : Sub 0x42000 m) (i isEvent) (s : State) (hs : Touch m x s) : Touch m x (ringWrite i isEvent s) := by
  unfold ringWrite
  with_reducible repeat' first | apply Touch.ite_ | assumption | apply touch_memBytes | apply touch_incr | apply Touch.foldl_ | apply Touch.foldl_fst | apply Touch.foldl_snd | intro _ _ _ | intro _ _ | split | dsimp only
  all_goals first | exact hm.up rfl | exact hm.pg (k := 13) rfl rfl

theorem touch_ringFreeze (hm : Sub 0x100000000002000 m) (s : State) (hs : Touch m x s) : Touch m x (ringFreeze s) := by
  unfold ringFreeze
  with_reducible repeat' first | apply Touch.ite_ | assumption | apply touch_irq | apply touch_raise | apply touch_setRosem | apply Touch.foldl_ | apply Touch.foldl_fst | apply Touch.foldl_snd | intro _ _ _ | intro _ _ | split | dsimp only
  all_goals first | exact hm.up rfl | with_reducible refine hm.pg (k := 13) (page_raw ?_) ?_ | with_reducible refine hm.pg (k := 13) (page_err ?_) ?_ | exact hm.pg (k := 13) rfl rfl

theorem touch_ringTrigger (hm : Sub 0x100000000002000 m) (i isEvent) (s : State) (hs : Touch m x s) : Touch m x (ringTrigger i isEvent s) := by
  unfold ringTrigger
  with_reducible repeat' first | apply Touch.ite_ | assumption | apply touch_ringFreeze | apply touch_setRosem | apply Touch.foldl_ | apply Touch.foldl_fst | apply Touch.foldl_snd | intro _ _ _ | intro _ _ | split | dsimp only
  all_goals first | exact hm.up rfl

theorem touch_recordWrite (hm : Sub 0x100000000042000 m) (s : State) (hs : Touch m x s) : Touch m x (recordWrite s) := by
  unfold recordWrite
  with_reducible repeat' first | apply Touch.ite_ | assumption | apply touch_ringWrite | apply touch_setRosem | apply touch_placeDeferred | apply touch_recFill | apply touch_ringTrigger | apply Touch.foldl_ | apply Touch.foldl_fst | apply Touch.foldl_snd | intro _ _ _ | intro _ _ | split | dsimp only
  all_goals first | exact hm.up rfl

theorem touch_ringSearch (hm : Sub 0x100000000042000 m) (s : State) (hs : Touch m x s) : Touch m x (ringSearch s) := by
  unfold ringSearch
  with_reducible repeat' first | apply Touch.ite_ | assumption | apply touch_wr | apply touch_lower | apply touch_ringTrigger | apply touch_ringWrite | apply Touch.foldl_ | apply Touch.foldl_fst | apply Touch.foldl_snd | intro _ _ _ | intro _ _ | split | dsimp only
  all_goals first | exact hm.up rfl | exact hm.pg (k := 13) rfl rfl

theorem touch_putCtx (hm : Sub 0x10000000 m) (s : State) (k c) (hs : Touch m x s) : Touch m x (State.putCtx s k c) := by
  unfold State.putCtx
  with_reducible repeat' first | apply Touch.ite_ | assumption | apply touch_setCtxs

theorem touch_putLeg (hm : Sub 0x1000000000 m) (s : State) (n l) (hs : Touch m x s) : Touch m x (State.putLeg s n l) := by
  unfold State.putLeg
  with_reducible repeat' first | apply Touch.ite_ | assumption | apply touch_setLegs

theorem touch_putMg (hm : Sub 0x2000000000 m) (s : State) (m2 g) (hs : Touch m x s) : Touch m x (State.putMg s m2 g) := by
  unfold State.putMg
  with_reducible repeat' first | apply Touch.ite_ | assumption | apply touch_setMgs

theorem touch_putPort (hm : Sub 0x8000000000 m) (s : State) (p x2) (hs : Touch m x s) : Touch m x (State.putPort s p x2) := by
  unfold State.putPort
  with_reducible repeat' first | apply Touch.ite_ | assumption | apply touch_setPorts

theorem touch_putSat (hm : Sub 0x10000000000 m) (s : State) (p x2) (hs : Touch m x s) : Touch m x (State.putSat s p x2) := by
  unfold State.putSat
  with_reducible repeat' first | apply Touch.ite_ | assumption | apply touch_setSats

theorem touch_putTbg (hm : Sub 0x800000000 m) (s : State) (g t) (hs : Touch m x s) : Touch m x (State.putTbg s g t) := by
  unfold State.putTbg
  with_reducible repeat' first | apply Touch.ite_ | assumption | apply touch_setTbgs

theorem touch_reach (hm : Sub 0x80000 m) (s : State) (t) (hs : Touch m x s) : Touch m x (State.reach s t) := by
  unfold State.reach
  with_reducible repeat' first | apply Touch.ite_ | assumption | apply touch_setNow

theorem touch_toSage (hm : Sub 0x20000000000 m) (e named test) (s : State) (hs : Touch m x s) : Touch m x (toSage e named test s) := by
  unfold toSage
  with_reducible repeat' first | apply Touch.ite_ | assumption | apply touch_setSage

theorem touch_sageEvt (hm : Sub 0x20000000000 m) (s : State) (e named) (hs : Touch m x s) : Touch m x (State.sageEvt s e named) := by
  unfold State.sageEvt
  with_reducible repeat' first | apply Touch.ite_ | assumption | apply touch_toSage

theorem touch_conservationEvent (hm : Sub 0x20000000000 m) (b) (s : State) (hs : Touch m x s) : Touch m x (conservationEvent b s) := by
  unfold conservationEvent
  with_reducible repeat' first | apply Touch.ite_ | assumption | apply touch_sageEvt

theorem touch_fabricFault (hm : Sub 0x10002000C002002 m) (kind q i cls) (s : State) (hs : Touch m x s) : Touch m x (fabricFault kind q i cls s) := by
  unfold fabricFault
  with_reducible repeat' first | apply Touch.ite_ | assumption | apply touch_irq | apply touch_errSet | apply touch_incrSat | apply touch_put | apply touch_raise | apply touch_record | apply touch_sageEvt | apply Touch.foldl_ | apply Touch.foldl_fst | apply Touch.foldl_snd | intro _ _ _ | intro _ _ | split | dsimp only
  all_goals first | exact hm.up rfl | with_reducible refine hm.pg (k := 1) (page_raw ?_) ?_ | with_reducible refine hm.pg (k := 1) (page_err ?_) ?_ | exact hm.pg (k := 1) rfl rfl

theorem touch_creditAudit (hm : Sub 0x10002000C002002 m) (s : State) (hs : Touch m x s) : Touch m x (creditAudit s) := by
  unfold creditAudit
  with_reducible repeat' first | apply Touch.ite_ | assumption | apply Touch.each_ | apply touch_putLink | apply touch_fabricFault | apply touch_incr | apply Touch.foldl_ | apply Touch.foldl_fst | apply Touch.foldl_snd | intro _ _ _ | intro _ _ | split | dsimp only
  all_goals first | exact hm.up rfl | exact hm.pg (k := 1) rfl rfl

theorem touch_wardenFlags (hm : Sub 0x3FFFF m) (i) (s : State) (hs : Touch m x s) : Touch m x (wardenFlags i s) := by
  unfold wardenFlags
  with_reducible repeat' first | apply Touch.ite_ | assumption | apply touch_irq | apply Touch.each_ | apply Touch.foldl_ | apply Touch.foldl_fst | apply Touch.foldl_snd | intro _ _ _ | intro _ _ | split | dsimp only
  all_goals first | exact hm.up rfl | exact hm.pgAny rfl _

theorem touch_enterRetire (hm : Sub 0x403FFFF m) (i) (s : State) (hs : Touch m x s) : Touch m x (enterRetire i s) := by
  unfold enterRetire
  with_reducible repeat' first | apply Touch.ite_ | assumption | apply touch_wardenFlags | apply touch_putWarden | apply Touch.foldl_ | apply Touch.foldl_fst | apply Touch.foldl_snd | intro _ _ _ | intro _ _ | split | dsimp only
  all_goals first | exact hm.up rfl

theorem touch_fabAnswer (hm : Sub 0xC000000 m) (q i cls tag ep) (s : State) (hs : Touch m x s) : Touch m x (fabAnswer q i cls tag ep s) := by
  unfold fabAnswer
  with_reducible repeat' first | apply Touch.ite_ | assumption | apply touch_putLink | apply touch_putWarden | apply Touch.foldl_ | apply Touch.foldl_fst | apply Touch.foldl_snd | intro _ _ _ | intro _ _ | split | dsimp only
  all_goals first | exact hm.up rfl

theorem touch_fabArrival (hm : Sub 0x10000000C002002 m) (q i cls tag ep idw a) (s : State) (hs : Touch m x s) : Touch m x (fabArrival q i cls tag ep idw a s) := by
  unfold fabArrival
  with_reducible repeat' first | apply Touch.ite_ | assumption | apply touch_putLink | apply touch_putWarden | apply touch_fabAbsent | apply touch_recDefer | apply touch_incr | apply Touch.foldl_ | apply Touch.foldl_fst | apply Touch.foldl_snd | intro _ _ _ | intro _ _ | split | dsimp only
  all_goals first | exact hm.up rfl | exact hm.pg (k := 13) rfl rfl

theorem touch_fabDeliver (hm : Sub 0x10002000C002002 m) (q i cls tag ep) (s : State) (hs : Touch m x s) : Touch m x (fabDeliver q i cls tag ep s) := by
  unfold fabDeliver
  with_reducible repeat' first | apply Touch.ite_ | assumption | apply touch_fabAnswer | apply touch_putLink | apply touch_incr | apply touch_fabricFault | apply Touch.foldl_ | apply Touch.foldl_fst | apply Touch.foldl_snd | intro _ _ _ | intro _ _ | split | dsimp only
  all_goals first | exact hm.up rfl | with_reducible refine hm.pg (page_aFAB_DISCARD_CNT _) ?_
  all_goals rfl

theorem touch_fabReply (hm : Sub 0x10002000C002002 m) (q i cls tag ep) (s : State) (hs : Touch m x s) : Touch m x (fabReply q i cls tag ep s) := by
  unfold fabReply
  with_reducible repeat' first | apply Touch.ite_ | assumption | apply touch_fabDeliver

theorem touch_retiredSeen (hm : Sub 0x2020000 m) (q a) (s : State) (hs : Touch m x s) : Touch m x (retiredSeen q a s) := by
  unfold retiredSeen
  with_reducible repeat' first | apply Touch.ite_ | assumption | apply touch_wr | apply touch_put | apply touch_setBus | apply Touch.foldl_ | apply Touch.foldl_fst | apply Touch.foldl_snd | intro _ _ _ | intro _ _ | split | dsimp only
  all_goals first | exact hm.up rfl | exact hm.pg (k := 17) rfl rfl

theorem touch_retireReplies (hm : Sub 0x10000000E022002 m) (i) (s : State) (hs : Touch m x s) : Touch m x (retireReplies i s) := by
  unfold retireReplies
  with_reducible repeat' first | apply Touch.ite_ | assumption | apply Touch.each_ | apply touch_putLink | apply touch_incr | apply touch_retiredSeen | apply touch_recDefer | apply touch_putWarden | apply Touch.foldl_ | apply Touch.foldl_fst | apply Touch.foldl_snd | intro _ _ _ | intro _ _ | split | dsimp only
  all_goals first | exact hm.up rfl | with_reducible refine hm.pg (page_aFAB_RETIRED_CNT _) ?_ | with_reducible refine hm.pg (page_aFAB_DISCARD_CNT _) ?_ | exact hm.pg (k := 1) rfl rfl | exact hm.pg (k := 13) rfl rfl
  all_goals rfl

theorem touch_wardenRun (hm : Sub 0x403FFFF m) (i) (s : State) (hs : Touch m x s) : Touch m x (wardenRun i s) := by
  unfold wardenRun
  with_reducible repeat' first | apply Touch.ite_ | assumption | apply touch_wardenFlags | apply touch_putWarden | apply Touch.foldl_ | apply Touch.foldl_fst | apply Touch.foldl_snd | intro _ _ _ | intro _ _ | split | dsimp only
  all_goals first | exact hm.up rfl

theorem touch_wardenStart (hm : Sub 0x403FFFF m) (i p) (s : State) (hs : Touch m x s) : Touch m x (wardenStart i p s) := by
  unfold wardenStart
  with_reducible repeat' first | apply Touch.ite_ | assumption | apply touch_wardenFlags | apply touch_putWarden | apply Touch.foldl_ | apply Touch.foldl_fst | apply Touch.foldl_snd | intro _ _ _ | intro _ _ | split | dsimp only
  all_goals first | exact hm.up rfl

theorem touch_putLk (hm : Sub 0x8000000000 m) (s : State) (p l) (hs : Touch m x s) : Touch m x (State.putLk s p l) := by
  unfold State.putLk
  with_reducible repeat' first | apply Touch.ite_ | assumption | apply touch_putPort

theorem touch_countRetracted (hm : Sub 0x10 m) (p) (s : State) (hs : Touch m x s) : Touch m x (countRetracted p s) := by
  unfold countRetracted
  with_reducible repeat' first | apply Touch.ite_ | assumption | apply touch_incr | apply Touch.foldl_ | apply Touch.foldl_fst | apply Touch.foldl_snd | intro _ _ _ | intro _ _ | split | dsimp only
  all_goals first | exact hm.up rfl | with_reducible refine hm.pg (page_aNDL_RETRACT_CNT _) ?_
  all_goals rfl

theorem touch_hubForce (hm : Sub 0x8000000000 m) (p mask pat indef dly fin) (s : State) (hs : Touch m x s) : Touch m x (hubForce p mask pat indef dly fin s) := by
  unfold hubForce
  with_reducible repeat' first | apply Touch.ite_ | assumption | apply touch_putPort

theorem touch_forceLegs (hm : Sub 0x8000000000 m) (ls v indef dly fin) (s : State) (hs : Touch m x s) : Touch m x (forceLegs ls v indef dly fin s) := by
  unfold forceLegs
  with_reducible repeat' first | apply Touch.ite_ | assumption | apply Touch.each_ | apply touch_hubForce | apply Touch.foldl_ | apply Touch.foldl_fst | apply Touch.foldl_snd | intro _ _ _

theorem touch_hubReady (hm : Sub 0x8000000000 m) (p c due) (s : State) (hs : Touch m x s) : Touch m x (hubReady p c due s) := by
  unfold hubReady
  with_reducible repeat' first | apply Touch.ite_ | assumption | apply touch_putLk

theorem touch_hubCfgWr (hm : Sub 0x8000000000 m) (p a d) (s : State) (hs : Touch m x s) : Touch m x (hubCfgWr p a d s) := by
  unfold hubCfgWr
  with_reducible repeat' first | apply Touch.ite_ | assumption | apply touch_hubReady

theorem touch_hubEdge (hm : Sub 0x800C000012 m) (n e) (s : State) (hs : Touch m x s) : Touch m x (hubEdge n e s) := by
  unfold hubEdge
  with_reducible repeat' first | apply Touch.ite_ | assumption | apply touch_countRetracted | apply touch_fabAbsent | apply touch_fabUse | apply touch_hubReady | apply Touch.foldl_ | apply Touch.foldl_fst | apply Touch.foldl_snd | intro _ _ _ | intro _ _ | split | dsimp only
  all_goals first | exact hm.up rfl

theorem touch_hubRetract (hm : Sub 0x8000000010 m) (n e) (s : State) (hs : Touch m x s) : Touch m x (hubRetract n e s) := by
  unfold hubRetract
  with_reducible repeat' first | apply Touch.ite_ | assumption | apply touch_countRetracted | apply touch_putLk | apply touch_putPort | apply touch_put | apply touch_hubReady | apply Touch.foldl_ | apply Touch.foldl_fst | apply Touch.foldl_snd | intro _ _ _ | intro _ _ | split | dsimp only
  all_goals first | exact hm.up rfl | with_reducible refine hm.pg (page_aNDL_STAT _) ?_
  all_goals rfl

theorem touch_hubSample (hm : Sub 0x800C000002 m) (p t mask) (s : State) (hs : Touch m x s) : Touch m x (hubSample p t mask s) := by
  unfold hubSample
  with_reducible repeat' first | apply Touch.ite_ | assumption | apply touch_fabAbsent | apply touch_fabUse | apply touch_putLk | apply touch_hubReady | apply touch_putPort | apply Touch.foldl_ | apply Touch.foldl_fst | apply Touch.foldl_snd | intro _ _ _ | intro _ _ | split | dsimp only
  all_goals first | exact hm.up rfl

theorem touch_retractLeg (hm : Sub 0x9000000010 m) (n lim) (s : State) (hs : Touch m x s) : Touch m x (retractLeg n lim s) := by
  unfold retractLeg
  with_reducible repeat' first | apply Touch.ite_ | assumption | apply touch_putLeg | apply Touch.each_ | apply touch_hubRetract | apply Touch.foldl_ | apply Touch.foldl_fst | apply Touch.foldl_snd | intro _ _ _ | intro _ _ | split | dsimp only
  all_goals first | exact hm.up rfl

theorem touch_tokenOp (hm : Sub 0x8000000010 m) (p op) (s : State) (hs : Touch m x s) : Touch m x (tokenOp p op s) := by
  unfold tokenOp
  with_reducible repeat' first | apply Touch.ite_ | assumption | apply touch_raise | apply touch_hubReady | apply touch_lower | apply Touch.foldl_ | apply Touch.foldl_fst | apply Touch.foldl_snd | intro _ _ _ | intro _ _ | split | dsimp only
  all_goals first | exact hm.up rfl | with_reducible refine hm.pg (page_aNDL_TOK_STAT _) ?_
  all_goals rfl

theorem touch_putCw (hm : Sub 0x40000 m) (s : State) (k ofs v) (hs : Touch m x s) : Touch m x (State.putCw s k ofs v) := by
  unfold State.putCw
  with_reducible repeat' first | apply Touch.ite_ | assumption | apply touch_memPut

theorem touch_bookLane (hm : Sub 0xC0000000 m) (i t) (s : State) (hs : Touch m x s) : Touch m x (bookLane i t s) := by
  unfold bookLane
  with_reducible repeat' first | apply Touch.ite_ | assumption | apply touch_setBasil | apply touch_setLanes | apply Touch.foldl_ | apply Touch.foldl_fst | apply Touch.foldl_snd | intro _ _ _ | intro _ _ | split | dsimp only
  all_goals first | exact hm.up rfl

theorem touch_cntEvt (hm : Sub 0x40000 m) (k lo) (s : State) (hs : Touch m x s) : Touch m x (cntEvt k lo s) := by
  unfold cntEvt
  with_reducible repeat' first | apply Touch.ite_ | assumption | apply touch_putCw

theorem touch_countPoints (hm : Sub 0x10000000 m) (k a b) (s : State) (hs : Touch m x s) : Touch m x (countPoints k a b s) := by
  unfold countPoints
  with_reducible repeat' first | apply Touch.ite_ | assumption | apply touch_putCtx

theorem touch_ctxIrq (hm : Sub 0x20 m) (k i) (s : State) (hs : Touch m x s) : Touch m x (ctxIrq k i s) := by
  unfold ctxIrq
  with_reducible repeat' first | apply Touch.ite_ | assumption | apply touch_raise | apply Touch.foldl_ | apply Touch.foldl_fst | apply Touch.foldl_snd | intro _ _ _ | intro _ _ | split | dsimp only
  all_goals first | exact hm.up rfl | with_reducible refine hm.pg (k := 5) ((page_inst _ _).trans ?_) ?_
  all_goals rfl

theorem touch_pairTx (hm : Sub 0x800000001000 m) (r) (s : State) (hs : Touch m x s) : Touch m x (pairTx r s) := by
  unfold pairTx
  with_reducible repeat' first | apply Touch.ite_ | assumption | apply touch_incr | apply touch_setPair | apply Touch.foldl_ | apply Touch.foldl_fst | apply Touch.foldl_snd | intro _ _ _ | intro _ _ | split | dsimp only
  all_goals first | exact hm.up rfl | exact hm.pg (k := 12) rfl rfl

theorem touch_engToPair (hm : Sub 0x80000C001002 m) (r) (s : State) (hs : Touch m x s) : Touch m x (engToPair r s) := by
  unfold engToPair
  with_reducible repeat' first | apply Touch.ite_ | assumption | apply touch_fabSend | apply touch_pairTx | apply Touch.foldl_ | apply Touch.foldl_fst | apply Touch.foldl_snd | intro _ _ _ | intro _ _ | split | dsimp only
  all_goals first | exact hm.up rfl

theorem touch_freeLanes (hm : Sub 0xC0000000 m) (k) (s : State) (hs : Touch m x s) : Touch m x (freeLanes k s) := by
  unfold freeLanes
  with_reducible repeat' first | apply Touch.ite_ | assumption | apply Touch.each_ | apply touch_bookLane | apply touch_setLanes | apply Touch.foldl_ | apply Touch.foldl_fst | apply Touch.foldl_snd | intro _ _ _ | intro _ _ | split | dsimp only
  all_goals first | exact hm.up rfl

theorem touch_haltLanes (hm : Sub 0x40000000 m) (k) (s : State) (hs : Touch m x s) : Touch m x (haltLanes k s) := by
  unfold haltLanes
  with_reducible repeat' first | apply Touch.ite_ | assumption | apply Touch.each_ | apply touch_setLanes | apply Touch.foldl_ | apply Touch.foldl_fst | apply Touch.foldl_snd | intro _ _ _

theorem touch_leaveRun (hm : Sub 0x80000C001002 m) (k) (s : State) (hs : Touch m x s) : Touch m x (leaveRun k s) := by
  unfold leaveRun
  with_reducible repeat' first | apply Touch.ite_ | assumption | apply touch_engToPair

theorem touch_predEntry (hm : Sub 0x40000 m) (step p) (s : State) (hs : Touch m x s) : Touch m x (predEntry step p s) := by
  unfold predEntry
  with_reducible repeat' first | apply Touch.ite_ | assumption | apply touch_memPutWords

theorem touch_sendEng (hm : Sub 0x80000000 m) (x2) (s : State) (hs : Touch m x s) : Touch m x (sendEng x2 s) := by
  unfold sendEng
  with_reducible repeat' first | apply Touch.ite_ | assumption | apply touch_setBasil

theorem touch_traceEntry (hm : Sub 0x40020 m) (k cause step t cyc outs) (s : State) (hs : Touch m x s) : Touch m x (traceEntry k cause step t cyc outs s) := by
  unfold traceEntry
  with_reducible repeat' first | apply Touch.ite_ | assumption | apply touch_memPutWords | apply touch_put | apply Touch.foldl_ | apply Touch.foldl_fst | apply Touch.foldl_snd | intro _ _ _ | intro _ _ | split | dsimp only
  all_goals first | exact hm.up rfl | exact hm.pg (k := 5) rfl rfl

theorem touch_putTrk (hm : Sub 0x100000000 m) (s : State) (t x2) (hs : Touch m x s) : Touch m x (State.putTrk s t x2) := by
  unfold State.putTrk
  with_reducible repeat' first | apply Touch.ite_ | assumption | apply touch_setGiu

theorem touch_giuErr (hm : Sub 0x40 m) (i) (s : State) (hs : Touch m x s) : Touch m x (giuErr i s) := by
  unfold giuErr
  with_reducible repeat' first | apply Touch.ite_ | assumption | apply touch_errSet | apply Touch.foldl_ | apply Touch.foldl_fst | apply Touch.foldl_snd | intro _ _ _ | intro _ _ | split | dsimp only
  all_goals first | exact hm.up rfl | with_reducible refine hm.pg (k := 6) (page_raw ?_) ?_ | with_reducible refine hm.pg (k := 6) (page_err ?_) ?_ | exact hm.pg (k := 6) rfl rfl

theorem touch_giuIrq (hm : Sub 0x40 m) (i) (s : State) (hs : Touch m x s) : Touch m x (giuIrq i s) := by
  unfold giuIrq
  with_reducible repeat' first | apply Touch.ite_ | assumption | apply touch_irq | apply Touch.foldl_ | apply Touch.foldl_fst | apply Touch.foldl_snd | intro _ _ _ | intro _ _ | split | dsimp only
  all_goals first | exact hm.up rfl | with_reducible refine hm.pg (k := 6) (page_raw ?_) ?_ | with_reducible refine hm.pg (k := 6) (page_err ?_) ?_ | exact hm.pg (k := 6) rfl rfl

theorem touch_putVref (hm : Sub 0x40 m) (t v) (s : State) (hs : Touch m x s) : Touch m x (putVref t v s) := by
  unfold putVref
  with_reducible repeat' first | apply Touch.ite_ | assumption | apply touch_wr | apply Touch.foldl_ | apply Touch.foldl_fst | apply Touch.foldl_snd | intro _ _ _ | intro _ _ | split | dsimp only
  all_goals first | exact hm.up rfl | with_reducible refine hm.pg (page_aGIU_TRK_VREF _) ?_
  all_goals rfl

theorem touch_trkState (hm : Sub 0x40 m) (t st) (s : State) (hs : Touch m x s) : Touch m x (trkState t st s) := by
  unfold trkState
  with_reducible repeat' first | apply Touch.ite_ | assumption | apply touch_giuIrq | apply touch_put | apply Touch.foldl_ | apply Touch.foldl_fst | apply Touch.foldl_snd | intro _ _ _ | intro _ _ | split | dsimp only
  all_goals first | exact hm.up rfl | with_reducible refine hm.pg (page_aGIU_TRK_STAT _) ?_
  all_goals rfl

theorem touch_trkFreeze (hm : Sub 0x100000040 m) (t lost) (s : State) (hs : Touch m x s) : Touch m x (trkFreeze t lost s) := by
  unfold trkFreeze
  with_reducible repeat' first | apply Touch.ite_ | assumption | apply touch_putTrk | apply touch_giuErr | apply touch_raise | apply touch_putVref | apply touch_trkState | apply Touch.foldl_ | apply Touch.foldl_fst | apply Touch.foldl_snd | intro _ _ _ | intro _ _ | split | dsimp only
  all_goals first | exact hm.up rfl | with_reducible refine hm.pg (page_aGIU_TRK_STAT _) ?_
  all_goals rfl

theorem touch_trkHold (hm : Sub 0x100000040 m) (k lost) (s : State) (hs : Touch m x s) : Touch m x (trkHold k lost s) := by
  unfold trkHold
  generalize s.cTrk k = o
  cases o with
  | none => exact hs
  | some t => exact Touch.ite_ (touch_trkFreeze (hm.up rfl) t lost s hs) hs

theorem touch_cancelOne (hm : Sub 0x80080C041022 m) (k o) (s : State) (hs : Touch m x s) : Touch m x (cancelOne k o s) := by
  unfold cancelOne
  with_reducible repeat' first | apply Touch.ite_ | assumption | apply touch_putTbg | apply touch_engToPair | apply Touch.each_ | apply touch_predEntry | apply touch_ctxIrq | apply touch_cntEvt | apply touch_incr | apply touch_traceEntry | apply Touch.foldl_ | apply Touch.foldl_fst | apply Touch.foldl_snd | intro _ _ _ | intro _ _ | split | dsimp only
  all_goals first | exact hm.up rfl | exact hm.pg (k := 5) rfl rfl

theorem touch_stopDue (hm : Sub 0x80011C001042 m) (k) (s : State) (hs : Touch m x s) : Touch m x (stopDue k s) := by
  unfold stopDue
  with_reducible repeat' first | apply Touch.ite_ | assumption | apply touch_trkHold | apply touch_leaveRun | apply touch_putCtx | apply Touch.foldl_ | apply Touch.foldl_fst | apply Touch.foldl_snd | intro _ _ _ | intro _ _ | split | dsimp only
  all_goals first | exact hm.up rfl

theorem touch_liveSeal (hm : Sub 0x200000008000 m) (k) (s : State) (hs : Touch m x s) : Touch m x (liveSeal k s) := by
  unfold liveSeal
  with_reducible repeat' first | apply Touch.ite_ | assumption | apply touch_putBit | apply touch_setLivs | apply Touch.foldl_ | apply Touch.foldl_fst | apply Touch.foldl_snd | intro _ _ _ | intro _ _ | split | dsimp only
  all_goals first | exact hm.up rfl | with_reducible refine hm.pg (page_aSAGE_LIV_VIOL _) ?_ | with_reducible refine hm.pg ((page_inst _ _).trans (page_aSAGE_LIV_VIOL _)) ?_ | with_reducible refine hm.pg (page_bit_aSAGE_LIV_VIOL _ _) ?_
  all_goals rfl

theorem touch_sealFlags (hm : Sub 0x20 m) (k o w) (s : State) (hs : Touch m x s) : Touch m x (sealFlags k o w s) := by
  unfold sealFlags
  with_reducible repeat' first | apply Touch.ite_ | assumption | apply touch_putB | apply touch_put | apply Touch.when_ | apply touch_ctxIrq | apply Touch.foldl_ | apply Touch.foldl_fst | apply Touch.foldl_snd | intro _ _ _ | intro _ _ | split | dsimp only
  all_goals first | exact hm.up rfl | with_reducible refine hm.pg (k := 5) ((page_inst _ _).trans ?_) ?_
  all_goals rfl

theorem touch_sealCounts (hm : Sub 0x40000 m) (k cost) (s : State) (hs : Touch m x s) : Touch m x (sealCounts k cost s) := by
  unfold sealCounts
  with_reducible repeat' first | apply Touch.ite_ | assumption | apply touch_putCw

theorem touch_sealGiu (hm : Sub 0x100000000 m) (k o) (s : State) (hs : Touch m x s) : Touch m x (sealGiu k o s) := by
  unfold sealGiu
  with_reducible repeat' first | apply Touch.ite_ | assumption | apply touch_setGiu | apply Touch.foldl_ | apply Touch.foldl_fst | apply Touch.foldl_snd | intro _ _ _ | intro _ _ | split

theorem touch_sealOne (hm : Sub 0xA0011C049022 m) (k o) (s : State) (hs : Touch m x s) : Touch m x (sealOne k o s) := by
  unfold sealOne
  with_reducible repeat' first | apply Touch.ite_ | assumption | apply touch_memPutWords | apply touch_liveSeal | apply touch_sealFlags | apply touch_sealCounts | apply Touch.each_ | apply touch_predEntry | apply touch_putCtx | apply touch_engToPair | apply touch_sealGiu | apply touch_traceEntry | apply Touch.foldl_ | apply Touch.foldl_fst | apply Touch.foldl_snd | intro _ _ _ | intro _ _ | split | dsimp only
  all_goals first | exact hm.up rfl

theorem touch_sealStep (hm : Sub 0xA0011C049062 m) (k) (s : State) (hs : Touch m x s) : Touch m x (sealStep k s) := by
  unfold sealStep
  with_reducible repeat' first | apply Touch.ite_ | assumption | apply touch_putCtx | apply touch_stopDue | apply touch_sealOne | apply Touch.foldl_ | apply Touch.foldl_fst | apply Touch.foldl_snd | intro _ _ _ | intro _ _ | split | dsimp only
  all_goals first | exact hm.up rfl

theorem touch_sealSet (hm : Sub 0xA0011C049062 m) (k step) (s : State) (hs : Touch m x s) : Touch m x (sealSet k step s) := by
  unfold sealSet
  with_reducible repeat' first | apply Touch.ite_ | assumption | apply touch_sealStep | apply touch_stopDue | apply touch_sealOne | apply touch_putCtx | apply Touch.foldl_ | apply Touch.foldl_fst | apply Touch.foldl_snd | intro _ _ _ | intro _ _ | split | dsimp only
  all_goals first | exact hm.up rfl

theorem touch_sealFirst (hm : Sub 0xA0011C049062 m) (k) (s : State) (hs : Touch m x s) : Touch m x (sealFirst k s) := by
  unfold sealFirst
  with_reducible repeat' first | apply Touch.ite_ | assumption | apply Touch.each_ | apply touch_sealSet | apply touch_sealStep | apply Touch.foldl_ | apply Touch.foldl_fst | apply Touch.foldl_snd | intro _ _ _

theorem touch_cancelStep (hm : Sub 0xA0091C049062 m) (k) (s : State) (hs : Touch m x s) : Touch m x (cancelStep k s) := by
  unfold cancelStep
  with_reducible repeat' first | apply Touch.ite_ | assumption | apply touch_sealFirst | apply touch_putCtx | apply Touch.each_ | apply touch_cancelOne | apply Touch.foldl_ | apply Touch.foldl_fst | apply Touch.foldl_snd | intro _ _ _ | intro _ _ | split | dsimp only
  all_goals first | exact hm.up rfl

theorem touch_copyWords (hm : Sub 0x40000 m) (k src dst n) (s : State) (hs : Touch m x s) : Touch m x (copyWords k src dst n s) := by
  unfold copyWords
  with_reducible repeat' first | apply Touch.ite_ | assumption | apply touch_memPutWords

theorem touch_enterRun (hm : Sub 0x200010000000 m) (k) (s : State) (hs : Touch m x s) : Touch m x (enterRun k s) := by
  unfold enterRun
  with_reducible repeat' first | apply Touch.ite_ | assumption | apply touch_putCtx | apply touch_setLivs | apply Touch.foldl_ | apply Touch.foldl_fst | apply Touch.foldl_snd | intro _ _ _ | intro _ _ | split | dsimp only
  all_goals first | exact hm.up rfl

theorem touch_disEnd (hm : Sub 0x10012200C01A002 m) (m2 res) (s : State) (hs : Touch m x s) : Touch m x (disEnd m2 res s) := by
  unfold disEnd
  with_reducible repeat' first | apply Touch.ite_ | assumption | apply touch_setDiss | apply touch_putMg | apply touch_put | apply touch_incrSat | apply touch_raise | apply touch_record | apply touch_sageEvt | apply Touch.foldl_ | apply Touch.foldl_fst | apply Touch.foldl_snd | intro _ _ _ | intro _ _ | split | dsimp only
  all_goals first | exact hm.up rfl | with_reducible refine hm.pg (page_aSAGE_DIS_STAT _) ?_ | with_reducible refine hm.pg (page_aSAGE_DIS_TIME _) ?_ | with_reducible refine hm.pg (page_aSAGE_DIS_CNT _) ?_ | exact hm.pg (k := 15) rfl rfl | exact hm.pg (k := 16) rfl rfl
  all_goals rfl

theorem touch_skipLeg (hm : Sub 0x800000000 m) (n) (s : State) (hs : Touch m x s) : Touch m x (skipLeg n s) := by
  unfold skipLeg
  with_reducible repeat' first | apply Touch.ite_ | assumption | apply touch_putTbg

theorem touch_holdLegs (hm : Sub 0x9800000018 m) (m2 st ls) (s : State) (hs : Touch m x s) : Touch m x (holdLegs m2 st ls s) := by
  unfold holdLegs
  with_reducible repeat' first | apply Touch.ite_ | assumption | apply Touch.each_ | apply touch_skipLeg | apply touch_retractLeg | apply touch_putLeg | apply touch_lower | apply touch_put | apply Touch.foldl_ | apply Touch.foldl_fst | apply Touch.foldl_snd | intro _ _ _ | intro _ _ | split | dsimp only
  all_goals first | exact hm.up rfl | with_reducible refine hm.pg (page_aLEG_STAT _) ?_ | with_reducible refine hm.pg (page_aLEG_TRIP_STAT _) ?_
  all_goals rfl

theorem touch_entryMarks (hm : Sub 0x10002000C00200A m) (m2 st fb req code evt) (s : State) (hs : Touch m x s) : Touch m x (entryMarks m2 st fb req code evt s) := by
  unfold entryMarks
  with_reducible repeat' first | apply Touch.ite_ | assumption | apply touch_put | apply touch_incrSat | apply touch_wr | apply touch_raise | apply touch_record | apply touch_sageEvt | apply Touch.foldl_ | apply Touch.foldl_fst | apply Touch.foldl_snd | intro _ _ _ | intro _ _ | split | dsimp only
  all_goals first | exact hm.up rfl | with_reducible refine hm.pg (page_aMG_STAT _) ?_ | with_reducible refine hm.pg (page_aMG_SAFE_SEL _) ?_ | with_reducible refine hm.pg (page_aMG_SAFE_TIME _) ?_ | with_reducible refine hm.pg (page_aMG_SAFE_CNT _) ?_ | with_reducible refine hm.pg (page_aMG_IRQ_RAW _) ?_ | with_reducible refine hm.pg (page_aMG_TRIP_STAT _) ?_
  all_goals rfl

theorem touch_ctxEnters (hm : Sub 0xA0091C049062 m) (k) (s : State) (hs : Touch m x s) : Touch m x (ctxEnters k s) := by
  unfold ctxEnters
  with_reducible repeat' first | apply Touch.ite_ | assumption | apply touch_cancelStep | apply touch_trkHold | apply Touch.when_ | apply touch_putCw | apply Touch.foldl_ | apply Touch.foldl_fst | apply Touch.foldl_snd | intro _ _ _ | intro _ _ | split | dsimp only
  all_goals first | exact hm.up rfl

theorem touch_sendHint (hm : Sub 0x8000000010 m) (p) (s : State) (hs : Touch m x s) : Touch m x (sendHint p s) := by
  unfold sendHint
  with_reducible repeat' first | apply Touch.ite_ | assumption | apply touch_hubReady | apply touch_putPort | apply touch_put | apply Touch.foldl_ | apply Touch.foldl_fst | apply Touch.foldl_snd | intro _ _ _ | intro _ _ | split | dsimp only
  all_goals first | exact hm.up rfl | with_reducible refine hm.pg (page_aNDL_HINT _) ?_
  all_goals rfl

theorem touch_hintChange (hm : Sub 0x8000000010 m) (ls) (s : State) (hs : Touch m x s) : Touch m x (hintChange ls s) := by
  unfold hintChange
  with_reducible repeat' first | apply Touch.ite_ | assumption | apply Touch.each_ | apply touch_sendHint | apply Touch.foldl_ | apply Touch.foldl_fst | apply Touch.foldl_snd | intro _ _ _

theorem touch_enterState (hm : Sub 0x100B2B91C05B07A m) (m2 st fb req code evt) (s : State) (hs : Touch m x s) : Touch m x (enterState m2 st fb req code evt s) := by
  unfold enterState
  with_reducible repeat' first | apply Touch.ite_ | assumption | apply touch_disEnd | apply touch_putMg | apply touch_holdLegs | apply Touch.each_ | apply touch_skipLeg | apply touch_retractLeg | apply touch_forceLegs | apply touch_entryMarks | apply touch_sageEvt | apply touch_raise | apply touch_incrSat | apply touch_ctxEnters | apply touch_hintChange | apply Touch.foldl_ | apply Touch.foldl_fst | apply Touch.foldl_snd | intro _ _ _ | intro _ _ | split | dsimp only
  all_goals first | exact hm.up rfl | with_reducible refine hm.pg (page_aMG_SAFE_CNT _) ?_ | with_reducible refine hm.pg (page_aMG_IRQ_RAW _) ?_
  all_goals rfl

theorem touch_takeState (hm : Sub 0x100B2B91C05B07A m) (m2 req code evt) (s : State) (hs : Touch m x s) : Touch m x (takeState m2 req code evt s) := by
  unfold takeState
  with_reducible repeat' first | apply Touch.ite_ | assumption | apply touch_enterState

theorem touch_noteRequest (hm : Sub 0x2000000000 m) (m2 req code evt) (s : State) (hs : Touch m x s) : Touch m x (noteRequest m2 req code evt s) := by
  unfold noteRequest
  with_reducible repeat' first | apply Touch.ite_ | assumption | apply touch_putMg

theorem touch_applyRequest (hm : Sub 0x100B2B91C05B07A m) (m2 req code evt) (s : State) (hs : Touch m x s) : Touch m x (applyRequest m2 req code evt s) := by
  unfold applyRequest
  with_reducible repeat' first | apply Touch.ite_ | assumption | apply touch_takeState | apply touch_noteRequest | apply Touch.foldl_ | apply Touch.foldl_fst | apply Touch.foldl_snd | intro _ _ _ | intro _ _ | split | dsimp only
  all_goals first | exact hm.up rfl

theorem touch_countOverrun (hm : Sub 0x20000040020 m) (k used) (s : State) (hs : Touch m x s) : Touch m x (countOverrun k used s) := by
  unfold countOverrun
  with_reducible repeat' first | apply Touch.ite_ | assumption | apply touch_ctxIrq | apply touch_cntEvt | apply touch_sageEvt | apply touch_raise | apply touch_incrSat | apply touch_traceEntry | apply Touch.foldl_ | apply Touch.foldl_fst | apply Touch.foldl_snd | intro _ _ _ | intro _ _ | split | dsimp only
  all_goals first | exact hm.up rfl | exact hm.pg (k := 5) rfl rfl

theorem touch_leaveSide (hm : Sub 0x100B2B91C05B07A m) (m2 code evt) (s : State) (hs : Touch m x s) : Touch m x (leaveSide m2 code evt s) := by
  unfold leaveSide
  with_reducible repeat' first | apply Touch.ite_ | assumption | apply touch_takeState

theorem touch_latchRequest (hm : Sub 0x100B2B91C05B07A m) (m2 req code evt) (s : State) (hs : Touch m x s) : Touch m x (latchRequest m2 req code evt s) := by
  unfold latchRequest
  with_reducible repeat' first | apply Touch.ite_ | assumption | apply touch_putMg | apply touch_enterState | apply touch_leaveSide | apply touch_applyRequest | apply Touch.foldl_ | apply Touch.foldl_fst | apply Touch.foldl_snd | intro _ _ _ | intro _ _ | split | dsimp only
  all_goals first | exact hm.up rfl

theorem touch_latchAgain (hm : Sub 0x100B2B91C05B07A m) (m2 req code was) (s : State) (hs : Touch m x s) : Touch m x (latchAgain m2 req code was s) := by
  unfold latchAgain
  with_reducible repeat' first | apply Touch.ite_ | assumption | apply touch_latchRequest

theorem touch_refreshSum (hm : Sub 0xC m) (m2) (s : State) (hs : Touch m x s) : Touch m x (refreshSum m2 s) := by
  unfold refreshSum
  with_reducible repeat' first | apply Touch.ite_ | assumption | apply touch_putB | apply touch_putBit | apply Touch.foldl_ | apply Touch.foldl_fst | apply Touch.foldl_snd | intro _ _ _ | intro _ _ | split | dsimp only
  all_goals first | exact hm.up rfl | with_reducible refine hm.pg (page_aLEG_TRIP_STAT _) ?_ | with_reducible refine hm.pg (page_bit_aLEG_TRIP_STAT _ _) ?_ | with_reducible refine hm.pg (page_aMG_TRIP_STAT _) ?_ | with_reducible refine hm.pg (page_bit_aTHY_TRIP_SUM _) ?_
  all_goals rfl

theorem touch_latchGroup (hm : Sub 0x10002000C00200E m) {fl : Fld} (hf : PageIn m fl.addr) (k) (code was) (s : State) (hs : Touch m x s) :
    Touch m x (latchGroup k fl code was s) := by
  have h := touch_refreshSum (hm.up rfl) k _ (touch_raise hf s hs)
  unfold latchGroup
  exact Touch.ite_ h (touch_sageEvt (hm.up rfl) _ _ _ (touch_record (hm.up rfl) _ _ _ _ (touch_raise (by exact hm.pg (page_aMG_IRQ_RAW _) rfl) _ h)))

theorem touch_kernRequest (hm : Sub 0x100B2B91C05B07E m) (m2 reason req) (s : State) (hs : Touch m x s) : Touch m x (kernRequest m2 reason req s) := by
  unfold kernRequest
  with_reducible repeat' first | apply Touch.ite_ | assumption | apply touch_latchAgain | apply touch_latchGroup | apply touch_put | apply Touch.foldl_ | apply Touch.foldl_fst | apply Touch.foldl_snd | intro _ _ _ | intro _ _ | split | dsimp only
  all_goals first | exact hm.up rfl | with_reducible refine hm.pg (page_aMG_TRIP_STAT _) ?_
  all_goals rfl

theorem touch_haltCtx (hm : Sub 0x100B2B95C05B07E m) (k cause) (s : State) (h : Touch m x s) : Touch m x (haltCtx k cause s) := by
  have key : ∀ w, Touch m x w → Touch m x (match w.cMg k with | some m => kernRequest m 7 (w.dfltReq m) w | none => w) := by
    intro w hw
    split
    · exact touch_kernRequest (hm.up rfl) _ _ _ _ hw
    · exact hw
  have h1 := touch_trkHold (hm.up rfl) k true _ (touch_haltLanes (hm.up rfl) k _ (touch_leaveRun (hm.up rfl) k _ (touch_cancelStep (hm.up rfl) k s h)))
  unfold haltCtx
  refine Touch.ite_ h ?_
  exact key _ (touch_sageEvt (hm.up rfl) _ 30 (nCtx k) (touch_raise (by exact hm.pg (k := 5) rfl rfl) _ (touch_ctxIrq (hm.up rfl) k 0 _ (touch_cntEvt (hm.up rfl) k 24 _
    (touch_put (by exact hm.pg (k := 5) ((page_inst _ _).trans rfl) rfl) _ cause (touch_putCtx (hm.up rfl) _ k _ h1))))))

theorem touch_latchLeg (hm : Sub 0x10002000C00200E m) (n i code was) (s : State) (hs : Touch m x s) : Touch m x (latchLeg n i code was s) := by
  unfold latchLeg
  with_reducible repeat' first | apply Touch.ite_ | assumption | apply touch_raise | apply touch_putBit | apply touch_wr | apply touch_refreshSum | apply touch_record | apply touch_sageEvt | apply Touch.foldl_ | apply Touch.foldl_fst | apply Touch.foldl_snd | intro _ _ _ | intro _ _ | split | dsimp only
  all_goals first | exact hm.up rfl | with_reducible refine hm.pg (page_aLEG_TRIP_STAT _) ?_ | with_reducible refine hm.pg (page_bit_aLEG_TRIP_STAT _ _) ?_ | with_reducible refine hm.pg (page_aLEG_TRIP_TIME _) ?_ | with_reducible refine hm.pg (page_aMG_IRQ_RAW _) ?_
  all_goals rfl

theorem touch_linkScan (hm : Sub 0x100B2B91C05B07E m) (s : State) (hs : Touch m x s) : Touch m x (linkScan s) := by
  unfold linkScan
  with_reducible repeat' first | apply Touch.ite_ | assumption | apply Touch.each_ | apply touch_raise | apply touch_putBit | apply touch_latchRequest | apply touch_latchGroup | apply Touch.foldl_ | apply Touch.foldl_fst | apply Touch.foldl_snd | intro _ _ _ | intro _ _ | split | dsimp only
  all_goals first | exact hm.up rfl | with_reducible refine hm.pg (page_bit_aPAIR_SPLIT _) ?_ | with_reducible refine hm.pg (page_aMG_TRIP_STAT _) ?_ | exact hm.pg (k := 12) rfl rfl
  all_goals rfl

theorem touch_overrun (hm : Sub 0x100B2B9DC05B07E m) (k) (s : State) (hs : Touch m x s) : Touch m x (overrun k s) := by
  unfold overrun
  with_reducible repeat' first | apply Touch.ite_ | assumption | apply touch_freeLanes | apply touch_putCtx | apply touch_countOverrun | apply touch_haltCtx | apply touch_stopDue | apply Touch.foldl_ | apply Touch.foldl_fst | apply Touch.foldl_snd | intro _ _ _ | intro _ _ | split | dsimp only
  all_goals first | exact hm.up rfl

theorem touch_privLate (hm : Sub 0x100B2B95C05B07E m) (k) (s : State) (hs : Touch m x s) : Touch m x (privLate k s) := by
  unfold privLate
  with_reducible repeat' first | apply Touch.ite_ | assumption | apply touch_haltCtx | apply touch_countOverrun | apply touch_putCtx | apply Touch.foldl_ | apply Touch.foldl_fst | apply Touch.foldl_snd | intro _ _ _ | intro _ _ | split | dsimp only
  all_goals first | exact hm.up rfl

theorem touch_recheckSide (hm : Sub 0x100B2B91C05B07A m) (m2) (s : State) (hs : Touch m x s) : Touch m x (recheckSide m2 s) := by
  unfold recheckSide
  with_reducible repeat' first | apply Touch.ite_ | assumption | apply touch_leaveSide

theorem touch_sageCommand (hm : Sub 0x100B2B91C05B07E m) (m2 req evt) (s : State) (hs : Touch m x s) : Touch m x (sageCommand m2 req evt s) := by
  unfold sageCommand
  with_reducible repeat' first | apply Touch.ite_ | assumption | apply touch_latchGroup | apply touch_putBit | apply touch_applyRequest | apply Touch.foldl_ | apply Touch.foldl_fst | apply Touch.foldl_snd | intro _ _ _ | intro _ _ | split | dsimp only
  all_goals first | exact hm.up rfl | with_reducible refine hm.pg (page_aMG_TRIP_STAT _) ?_ | with_reducible refine hm.pg (page_bit_aSAGE_MG_HOLD _) ?_
  all_goals rfl

theorem touch_assertPins (hm : Sub 0x8000 m) (m2) (s : State) (hs : Touch m x s) : Touch m x (assertPins m2 s) := by
  unfold assertPins
  with_reducible repeat' first | apply Touch.ite_ | assumption | apply touch_put | apply Touch.foldl_ | apply Touch.foldl_fst | apply Touch.foldl_snd | intro _ _ _ | intro _ _ | split | dsimp only
  all_goals first | exact hm.up rfl | exact hm.pg (k := 15) rfl rfl

theorem touch_noteRecent (hm : Sub 0x20000000000 m) (x2) (s : State) (hs : Touch m x s) : Touch m x (noteRecent x2 s) := by
  unfold noteRecent
  with_reducible repeat' first | apply Touch.ite_ | assumption | apply Touch.when_ | apply touch_setSage | apply Touch.foldl_ | apply Touch.foldl_fst | apply Touch.foldl_snd | intro _ _ _ | intro _ _

theorem touch_setNotSafe (hm : Sub 0x18000 m) (i) (s : State) (hs : Touch m x s) : Touch m x (setNotSafe i s) := by
  unfold setNotSafe
  with_reducible repeat' first | apply Touch.ite_ | assumption | apply touch_putBit | apply touch_raise | apply Touch.foldl_ | apply Touch.foldl_fst | apply Touch.foldl_snd | intro _ _ _ | intro _ _ | split | dsimp only
  all_goals first | exact hm.up rfl | with_reducible refine hm.pg (page_bit_aSAGE_HEALTH _) ?_ | exact hm.pg (k := 15) rfl rfl | exact hm.pg (k := 16) rfl rfl
  all_goals rfl

theorem touch_eventEffects (hm : Sub 0x18000 m) (e) (s : State) (hs : Touch m x s) : Touch m x (eventEffects e s) := by
  unfold eventEffects
  with_reducible repeat' first | apply Touch.ite_ | assumption | apply touch_assertPins | apply Touch.when_ | apply touch_setNotSafe | apply touch_raise | apply Touch.foldl_ | apply Touch.foldl_fst | apply Touch.foldl_snd | intro _ _ _ | intro _ _ | split | dsimp only
  all_goals first | exact hm.up rfl | with_reducible refine hm.pg (page_aSAGE_EVT_CFG _) ?_ | exact hm.pg (k := 15) rfl rfl | exact hm.pg (k := 16) rfl rfl

theorem touch_eventRecord (hm : Sub 0x10000000C002002 m) (x2 cov) (s : State) (hs : Touch m x s) : Touch m x (eventRecord x2 cov s) := by
  unfold eventRecord
  with_reducible repeat' first | apply Touch.ite_ | assumption | apply touch_record

theorem touch_eventLast (hm : Sub 0x8000 m) (x2 go) (s : State) (hs : Touch m x s) : Touch m x (eventLast x2 go s) := by
  unfold eventLast
  with_reducible repeat' first | apply Touch.ite_ | assumption | apply touch_putB | apply touch_put | apply touch_wr | apply Touch.foldl_ | apply Touch.foldl_fst | apply Touch.foldl_snd | intro _ _ _ | intro _ _ | split | dsimp only
  all_goals first | exact hm.up rfl | exact hm.pg (k := 15) rfl rfl

theorem touch_handleEvent (hm : Sub 0x100B2B91C05B07E m) (ev) (dn) (s : State) (h : Touch m x s) : Touch m x (handleEvent ev dn s).1 := by
  have h1 : Touch m x (noteRecent ev (s.when (decide (ev.e < 43)) (fun s => s.incrSat (fSAGE_EVT_CNT_cnt ev.e)))) :=
    touch_noteRecent (hm.up rfl) _ _ (Touch.when_ h (fun y hy => touch_incrSat (by exact hm.pg (page_aSAGE_EVT_CNT _) rfl) _ hy))
  unfold handleEvent
  dsimp only
  split
  · exact h1
  · exact Touch.when_ (Touch.when_ (Touch.when_ (Touch.each_ h1 (fun a y hy => touch_sageCommand (hm.up rfl) _ _ _ _ hy))
      (fun y hy => touch_eventEffects (hm.up rfl) _ _ hy)) (fun y hy => touch_eventRecord (hm.up rfl) _ _ _ hy)) (fun y hy => touch_eventLast (hm.up rfl) _ _ _ hy)

theorem touch_drain (hm : Sub 0x100B2B91C05B07E m) (n) (s : State) (h : Touch m x s) : Touch m x (drain n s) := by
  induction n generalizing s with
  | zero => exact h
  | succ n ih =>
    unfold drain
    split
    · exact h
    · exact ih _ (Touch.foldl_fst (touch_setSage (hm.up rfl) _ _ h) (fun a p hp => touch_handleEvent (hm.up rfl) _ _ _ hp))

theorem touch_pairQuit (hm : Sub 0x808000001010 m) (s : State) (hs : Touch m x s) : Touch m x (pairQuit s) := by
  unfold pairQuit
  with_reducible repeat' first | apply Touch.ite_ | assumption | apply Touch.each_ | apply touch_pairTx | apply touch_tokenOp | apply Touch.foldl_ | apply Touch.foldl_fst | apply Touch.foldl_snd | intro _ _ _ | intro _ _ | split | dsimp only
  all_goals first | exact hm.up rfl

theorem touch_lossPath (hm : Sub 0x100B2B91C05B07E m) (cause) (s : State) (hs : Touch m x s) : Touch m x (lossPath cause s) := by
  unfold lossPath
  with_reducible repeat' first | apply Touch.ite_ | assumption | apply Touch.each_ | apply touch_sageCommand | apply touch_assertPins | apply touch_raise | apply touch_put | apply touch_setSage | apply touch_pairQuit | apply Touch.foldl_ | apply Touch.foldl_fst | apply Touch.foldl_snd | intro _ _ _ | intro _ _ | split | dsimp only
  all_goals first | exact hm.up rfl | exact hm.pg (k := 16) rfl rfl

theorem touch_settle (hm : Sub 0x100B2B91C05B07E m) (s : State) (hs : Touch m x s) : Touch m x (settle s) := touch_drain (hm.up rfl) 8 _ hs

theorem touch_busOk (hm : Sub 0x2000000 m) (r d) (s : State) (hs : Touch m x s) : Touch m x (busOk r d s) := by
  unfold busOk
  with_reducible repeat' first | apply Touch.ite_ | assumption | apply touch_setBus

theorem touch_granted (hm : Sub 0xE000000 m) (s : State) (r b) (hs : Touch m x s) : Touch m x (State.granted s r b) := by
  unfold State.granted
  with_reducible repeat' first | apply Touch.ite_ | assumption | apply touch_busOk | apply touch_fabUse | apply Touch.foldl_ | apply Touch.foldl_fst | apply Touch.foldl_snd | intro _ _ _ | intro _ _ | split | dsimp only
  all_goals first | exact hm.up rfl

theorem touch_busFault (hm : Sub 0x2000000 m) (r a kd) (s : State) (hs : Touch m x s) : Touch m x (busFault r a kd s) := by
  unfold busFault
  with_reducible repeat' first | apply Touch.ite_ | assumption | apply touch_setBus

theorem touch_errEvent (hm : Sub 0x20000000000 m) {b : Block} (hb : PageIn m (hdr b)) (i) (s : State) (hs : Touch m x s) : Touch m x (errEvent b i s) := by
  exact touch_sageEvt (hm.up rfl) _ _ _ (touch_errSet (page_hdr hb (by decide)) (page_hdr hb (by decide)) _ hs)

theorem touch_access (hm : Sub 0x2000E000002 m) {a : Nat} (ha : HomeIn m a) (r) (wr) (k : State → State) (s : State)
    (hk : ∀ y, Touch m x y → Touch m x (k y)) (hs : Touch m x s) : Touch m x (access r a wr k s) := by
  unfold access
  split
  · exact touch_busFault (hm.up rfl) _ _ _ _ hs
  · rename_i b e
    have hb : PageIn m (hdr b) := by
      unfold PageIn
      rw [home_of e]
      exact ha
    have hu := touch_fabUse (hm.up rfl) (reqIsland r) (blockIsland b) 0 s hs
    split
    · exact hk _ (touch_granted (hm.up rfl) _ _ _ hs)
    · exact touch_busFault (hm.up rfl) _ _ _ _ (touch_fabAbsent (hm.up rfl) _ _ hs)
    · exact touch_busFault (hm.up rfl) _ _ _ _ (touch_errEvent (hm.up rfl) hb _ _ hu)
    · exact touch_busFault (hm.up rfl) _ _ _ _ (Touch.ite_ (touch_errEvent (hm.up rfl) hb _ _ hu) hu)

theorem touch_accessNarrow (hm : Sub 0x2000E03FFFF m) (r b a wr) (s : State) (hs : Touch m x s) : Touch m x (accessNarrow r b a wr s) := by
  unfold accessNarrow
  with_reducible repeat' first | apply Touch.ite_ | assumption | apply touch_busFault | apply touch_fabAbsent | apply touch_errEvent | apply touch_fabUse | apply Touch.foldl_ | apply Touch.foldl_fst | apply Touch.foldl_snd | intro _ _ _ | intro _ _ | split | dsimp only
  all_goals first | exact hm.up rfl | exact hm.pgAny rfl _

theorem touch_byKern (hm : Sub 0x1000000000 m) (a b) (s : State) (hs : Touch m x s) : Touch m x (byKern a b s) := by
  unfold byKern
  with_reducible repeat' first | apply Touch.ite_ | assumption | apply touch_putLeg | apply Touch.foldl_ | apply Touch.foldl_fst | apply Touch.foldl_snd | intro _ _ _ | intro _ _ | split

theorem touch_crcDrop (hm : Sub 0x1000000 m) (a) (s : State) (hs : Touch m x s) : Touch m x (crcDrop a s) := by
  unfold crcDrop
  with_reducible repeat' first | apply Touch.ite_ | assumption | apply touch_setCrcRun | apply Touch.foldl_ | apply Touch.foldl_fst | apply Touch.foldl_snd | intro _ _ _ | intro _ _ | split

theorem touch_poke (hm : Sub 0x83FFFF m) (key m2 v) (s : State) (hs : Touch m x s) : Touch m x (poke key m2 v s) := by
  unfold poke
  with_reducible repeat' first | apply Touch.ite_ | assumption | apply touch_wr | apply touch_setTmr | apply Touch.foldl_ | apply Touch.foldl_fst | apply Touch.foldl_snd | intro _ _ _ | intro _ _ | split | dsimp only
  all_goals first | exact hm.up rfl | exact hm.pgAny rfl _

theorem touch_applyTab (hm : Sub 0x100183FFFF m) (t c) (s : State) (hs : Touch m x s) : Touch m x (applyTab t c s) := by
  unfold applyTab
  with_reducible repeat' first | apply Touch.ite_ | assumption | apply Touch.each_ | apply touch_byKern | apply touch_crcDrop | apply touch_poke | apply Touch.foldl_ | apply Touch.foldl_fst | apply Touch.foldl_snd | intro _ _ _ | intro _ _ | split | dsimp only
  all_goals first | exact hm.up rfl

theorem touch_applyBnd (hm : Sub 0x1001A3FFFF m) (c) (s : State) (hs : Touch m x s) : Touch m x (applyBnd c s) := by
  unfold applyBnd
  with_reducible repeat' first | apply Touch.ite_ | assumption | apply touch_applyTab | apply touch_setBnd | apply Touch.foldl_ | apply Touch.foldl_fst | apply Touch.foldl_snd | intro _ _ _ | intro _ _ | split | dsimp only
  all_goals first | exact hm.up rfl

theorem touch_applyCmt (hm : Sub 0x1001C3FFFF m) (c) (s : State) (hs : Touch m x s) : Touch m x (applyCmt c s) := by
  unfold applyCmt
  with_reducible repeat' first | apply Touch.ite_ | assumption | apply touch_applyTab | apply touch_setCmt | apply Touch.foldl_ | apply Touch.foldl_fst | apply Touch.foldl_snd | intro _ _ _ | intro _ _ | split | dsimp only
  all_goals first | exact hm.up rfl

theorem touch_crcTouch (hm : Sub 0x1000000 m) (a) (s : State) (hs : Touch m x s) : Touch m x (crcTouch a s) := by
  unfold crcTouch
  with_reducible repeat' first | apply Touch.ite_ | assumption | apply touch_crcDrop | apply Touch.foldl_ | apply Touch.foldl_fst | apply Touch.foldl_snd | intro _ _ _ | intro _ _ | split

theorem touch_dropCmt (hm : Sub 0x400000 m) (c) (s : State) (hs : Touch m x s) : Touch m x (dropCmt c s) := by
  unfold dropCmt
  with_reducible repeat' first | apply Touch.ite_ | assumption | apply touch_setCmt

theorem touch_storeAt (hm : Sub 0x21001E3FFFF m) (key a d) (s : State) (hs : Touch m x s) : Touch m x (storeAt key a d s) := by
  unfold storeAt
  with_reducible repeat' first | apply Touch.ite_ | assumption | apply touch_wr | apply touch_crcTouch | apply touch_poke | apply touch_setBnd | apply touch_applyBnd | apply touch_errEvent | apply touch_setCmt | apply Touch.foldl_ | apply Touch.foldl_fst | apply Touch.foldl_snd | intro _ _ _ | intro _ _ | split | dsimp only
  all_goals first | exact hm.up rfl | exact hm.pgAny rfl _

end Sys2Proof.Laws
end

