-- ==== Sys2Proof/Laws/TouchEngine.lean ====
section
/-! SUPPORT. CAN, MSIO, sealing, Basil, trips and the pulse-timing array: what they may change. -/
namespace Sys2Proof.Laws
open Sys2Proof.Machine

variable {m : Nat} {x : State}

theorem touch_putCan (hm : Sub 0x40000000000000 m) (s : State) (c x2) (hs : Touch m x s) : Touch m x (State.putCan s c x2) := by
  unfold State.putCan
  with_reducible repeat' first | apply Touch.ite_ | assumption | apply touch_setCans

theorem touch_canIdle (hm : Sub 0x40000000000400 m) (c) (s : State) (hs : Touch m x s) : Touch m x (canIdle c s) := by
  unfold canIdle
  with_reducible repeat' first | apply Touch.ite_ | assumption | apply touch_lower | apply touch_putCan | apply Touch.foldl_ | apply Touch.foldl_fst | apply Touch.foldl_snd | intro _ _ _ | intro _ _ | split | dsimp only
  all_goals first | exact hm.up rfl | with_reducible refine hm.pg (page_aCAN_PSTAT _) ?_
  all_goals rfl

theorem touch_canIrq (hm : Sub 0x400 m) (c i) (s : State) (hs : Touch m x s) : Touch m x (canIrq c i s) :=
  touch_irq (hm.pg (page_canHdr_raw c i) rfl) _ hs

theorem touch_txAbort (hm : Sub 0x40000000000400 m) (c b) (s : State) (hs : Touch m x s) : Touch m x (txAbort c b s) := by
  unfold txAbort
  with_reducible repeat' first | apply Touch.ite_ | assumption | apply touch_incr | apply touch_putBit | apply touch_canIrq | apply touch_putCan | apply Touch.foldl_ | apply Touch.foldl_fst | apply Touch.foldl_snd | intro _ _ _ | intro _ _ | split | dsimp only
  all_goals first | exact hm.up rfl | with_reducible refine hm.pg (page_aCAN_TXPEND _ _) ?_ | with_reducible refine hm.pg (page_bit_aCAN_TXPEND _ _ _) ?_ | with_reducible refine hm.pg (page_aCAN_TX_ABT _) ?_
  all_goals rfl

theorem touch_attemptFails (hm : Sub 0x40000000000400 m) (c b) (s : State) (hs : Touch m x s) : Touch m x (attemptFails c b s) := by
  unfold attemptFails
  with_reducible repeat' first | apply Touch.ite_ | assumption | apply touch_canIdle | apply touch_txAbort

theorem touch_canBusy (hm : Sub 0x40000000000400 m) (c) (s : State) (hs : Touch m x s) : Touch m x (canBusy c s) := by
  unfold canBusy
  with_reducible repeat' first | apply Touch.ite_ | assumption | apply touch_raise | apply touch_putCan | apply Touch.foldl_ | apply Touch.foldl_fst | apply Touch.foldl_snd | intro _ _ _ | intro _ _ | split | dsimp only
  all_goals first | exact hm.up rfl | with_reducible refine hm.pg (page_aCAN_PSTAT _) ?_
  all_goals rfl

theorem touch_canErr (hm : Sub 0x400 m) (c i) (s : State) (hs : Touch m x s) : Touch m x (canErr c i s) :=
  touch_errSet (hm.pg (page_canHdr_err c i) rfl) (hm.pg (page_canHdr_raw c 0) rfl) _ hs

theorem touch_canShow (hm : Sub 0x400 m) (c) (s : State) (hs : Touch m x s) : Touch m x (canShow c s) := by
  unfold canShow
  with_reducible repeat' first | apply Touch.ite_ | assumption | apply touch_put | apply Touch.foldl_ | apply Touch.foldl_fst | apply Touch.foldl_snd | intro _ _ _ | intro _ _ | split | dsimp only
  all_goals first | exact hm.up rfl | with_reducible refine hm.pg (page_aCAN_PSTAT _) ?_
  all_goals rfl

theorem touch_canConfine (hm : Sub 0x10000000C002402 m) (c snd) (s : State) (hs : Touch m x s) : Touch m x (canConfine c snd s) := by
  unfold canConfine
  with_reducible repeat' first | apply Touch.ite_ | assumption | apply touch_canShow | apply touch_put | apply touch_incrSat | apply touch_canErr | apply touch_canIrq | apply touch_record | apply Touch.foldl_ | apply Touch.foldl_fst | apply Touch.foldl_snd | intro _ _ _ | intro _ _ | split | dsimp only
  all_goals first | exact hm.up rfl | with_reducible refine hm.pg (page_aCAN_PSTAT _) ?_ | with_reducible refine hm.pg (page_aCAN_BUSOFF_CNT _) ?_
  all_goals rfl

theorem touch_txError (hm : Sub 0x14000000C002402 m) (c b kind recessive f) (s : State) (hs : Touch m x s) : Touch m x (txError c b kind recessive f s) := by
  unfold txError
  with_reducible repeat' first | apply Touch.ite_ | assumption | apply touch_incrSat | apply touch_putCan | apply touch_canBusy | apply touch_put | apply touch_txAbort | apply touch_canIdle | apply touch_canErr | apply touch_canIrq | apply touch_raise | apply touch_record | apply touch_attemptFails | apply touch_canConfine | apply Touch.foldl_ | apply Touch.foldl_fst | apply Touch.foldl_snd | intro _ _ _ | intro _ _ | split | dsimp only
  all_goals first | exact hm.up rfl | with_reducible refine hm.pg (page_aCAN_IDCOLL _) ?_ | with_reducible refine hm.pg (page_aCAN_MB_STAT _ _) ?_ | with_reducible refine hm.pg (page_aCAN_MB_ID _ _) ?_ | with_reducible refine hm.pg (page_errKind _ _) ?_
  all_goals rfl

theorem touch_rxError (hm : Sub 0x14000000C002402 m) (c kind) (s : State) (hs : Touch m x s) : Touch m x (rxError c kind s) := by
  unfold rxError
  with_reducible repeat' first | apply Touch.ite_ | assumption | apply touch_incrSat | apply touch_putCan | apply touch_canBusy | apply touch_canConfine | apply Touch.foldl_ | apply Touch.foldl_fst | apply Touch.foldl_snd | intro _ _ _ | intro _ _ | split | dsimp only
  all_goals first | exact hm.up rfl | with_reducible refine hm.pg (page_errKind _ _) ?_
  all_goals rfl

theorem touch_busError (hm : Sub 0x14000000C002402 m) (c kind recessive f) (s : State) (hs : Touch m x s) : Touch m x (busError c kind recessive f s) := by
  unfold busError
  with_reducible repeat' first | apply Touch.ite_ | assumption | apply touch_txError | apply touch_rxError | apply Touch.foldl_ | apply Touch.foldl_fst | apply Touch.foldl_snd | intro _ _ _ | intro _ _ | split

theorem touch_canArb (hm : Sub 0x40000000000400 m) (c) (s : State) (hs : Touch m x s) : Touch m x (canArb c s) := by
  unfold canArb
  with_reducible repeat' first | apply Touch.ite_ | assumption | apply touch_raise | apply touch_putCan | apply Touch.foldl_ | apply Touch.foldl_fst | apply Touch.foldl_snd | intro _ _ _ | intro _ _ | split | dsimp only
  all_goals first | exact hm.up rfl | with_reducible refine hm.pg (page_aCAN_PSTAT _) ?_
  all_goals rfl

theorem touch_busOffRecovery (hm : Sub 0x40000000000400 m) (c) (s : State) (hs : Touch m x s) : Touch m x (busOffRecovery c s) := by
  unfold busOffRecovery
  with_reducible repeat' first | apply Touch.ite_ | assumption | apply touch_canArb | apply touch_canShow | apply touch_put | apply touch_putCan | apply Touch.foldl_ | apply Touch.foldl_fst | apply Touch.foldl_snd | intro _ _ _ | intro _ _ | split | dsimp only
  all_goals first | exact hm.up rfl | with_reducible refine hm.pg (page_aCAN_PSTAT _) ?_
  all_goals rfl

theorem touch_canModeSync (hm : Sub 0x40000000000400 m) (c) (s : State) (hs : Touch m x s) : Touch m x (canModeSync c s) := by
  unfold canModeSync
  with_reducible repeat' first | apply Touch.ite_ | assumption | apply touch_put | apply Touch.each_ | apply touch_txAbort | apply touch_canIdle | apply touch_canArb | apply Touch.foldl_ | apply Touch.foldl_fst | apply Touch.foldl_snd | intro _ _ _ | intro _ _ | split | dsimp only
  all_goals first | exact hm.up rfl | with_reducible refine hm.pg (page_aCAN_MODE _) ?_ | with_reducible refine hm.pg (page_aCAN_PSTAT _) ?_
  all_goals rfl

theorem touch_canBoundary (hm : Sub 0x40021001A3FFFF m) (c) (s : State) (hs : Touch m x s) : Touch m x (canBoundary c s) := by
  unfold canBoundary
  with_reducible repeat' first | apply Touch.ite_ | assumption | apply touch_lower | apply touch_canIdle | apply touch_putCan | apply touch_applyBnd | apply touch_canModeSync | apply touch_conservationEvent | apply touch_canErr | apply touch_canArb | apply Touch.foldl_ | apply Touch.foldl_fst | apply Touch.foldl_snd | intro _ _ _ | intro _ _ | split | dsimp only
  all_goals first | exact hm.up rfl | with_reducible refine hm.pg (page_aCAN_PSTAT _) ?_
  all_goals rfl

theorem touch_fifoPop (hm : Sub 0x40000000000400 m) (c) (s : State) (hs : Touch m x s) : Touch m x (fifoPop c s) := by
  unfold fifoPop
  with_reducible repeat' first | apply Touch.ite_ | assumption | apply touch_put | apply touch_putCan | apply Touch.foldl_ | apply Touch.foldl_fst | apply Touch.foldl_snd | intro _ _ _ | intro _ _ | split | dsimp only
  all_goals first | exact hm.up rfl | with_reducible refine hm.pg (page_aCAN_FIFO_STAT _) ?_
  all_goals rfl

theorem touch_canRecover (hm : Sub 0x40000000000400 m) (c) (s : State) (hs : Touch m x s) : Touch m x (canRecover c s) := by
  unfold canRecover
  with_reducible repeat' first | apply Touch.ite_ | assumption | apply touch_canErr | apply touch_put | apply touch_putCan | apply Touch.foldl_ | apply Touch.foldl_fst | apply Touch.foldl_snd | intro _ _ _ | intro _ _ | split | dsimp only
  all_goals first | exact hm.up rfl | with_reducible refine hm.pg (page_aCAN_MODE _) ?_ | with_reducible refine hm.pg (page_aCAN_PSTAT _) ?_
  all_goals rfl

theorem touch_canCmd (hm : Sub 0x40000000000400 m) (c d) (s : State) (hs : Touch m x s) : Touch m x (canCmd c d s) := by
  unfold canCmd
  with_reducible repeat' first | apply Touch.ite_ | assumption | apply Touch.when_ | apply touch_fifoPop | apply touch_canRecover

theorem touch_putMbWord (hm : Sub 0x40000000000000 m) (c b w v) (s : State) (hs : Touch m x s) : Touch m x (putMbWord c b w v s) := by
  unfold putMbWord
  with_reducible repeat' first | apply Touch.ite_ | assumption | apply touch_putCan

theorem touch_putMbBytes (hm : Sub 0x40000000000000 m) (c b bs) (s : State) (hs : Touch m x s) : Touch m x (putMbBytes c b bs s) := by
  unfold putMbBytes
  with_reducible repeat' first | apply Touch.ite_ | assumption | apply Touch.each_ | apply touch_putMbWord | apply Touch.foldl_ | apply Touch.foldl_fst | apply Touch.foldl_snd | intro _ _ _

theorem touch_mbStore (hm : Sub 0x41000000000400 m) (c b id info ts bs) (s : State) (hs : Touch m x s) : Touch m x (mbStore c b id info ts bs s) := by
  unfold mbStore
  with_reducible repeat' first | apply Touch.ite_ | assumption | apply touch_incr | apply touch_putBit | apply touch_put | apply touch_wr | apply touch_canIrq | apply touch_putMbBytes | apply touch_setMsio | apply Touch.foldl_ | apply Touch.foldl_fst | apply Touch.foldl_snd | intro _ _ _ | intro _ _ | split | dsimp only
  all_goals first | exact hm.up rfl | with_reducible refine hm.pg (page_aCAN_RX_OVW _) ?_ | with_reducible refine hm.pg (page_aCAN_RX_STORE _) ?_ | with_reducible refine hm.pg (page_aCAN_NEW _ _) ?_ | with_reducible refine hm.pg (page_bit_aCAN_NEW _ _ _) ?_ | with_reducible refine hm.pg (page_aCAN_MB_STAT _ _) ?_ | with_reducible refine hm.pg (page_aCAN_MB_RXID _ _) ?_ | with_reducible refine hm.pg (page_aCAN_MB_TS _ _) ?_
  all_goals rfl

theorem touch_fifoStore (hm : Sub 0x40000000000400 m) (c f) (s : State) (hs : Touch m x s) : Touch m x (fifoStore c f s) := by
  unfold fifoStore
  with_reducible repeat' first | apply Touch.ite_ | assumption | apply touch_canIrq | apply touch_incr | apply touch_putCan | apply touch_put | apply Touch.foldl_ | apply Touch.foldl_fst | apply Touch.foldl_snd | intro _ _ _ | intro _ _ | split | dsimp only
  all_goals first | exact hm.up rfl | with_reducible refine hm.pg (page_aCAN_MODE _) ?_ | with_reducible refine hm.pg (page_aCAN_RX_DROP _) ?_ | with_reducible refine hm.pg (page_aCAN_RX_OVW _) ?_ | with_reducible refine hm.pg (page_aCAN_RX_STORE _) ?_ | with_reducible refine hm.pg (page_aCAN_FIFO_STAT _) ?_
  all_goals rfl

theorem touch_canPlace (hm : Sub 0x41000000000400 m) (c id info ts bs) (s : State) (hs : Touch m x s) : Touch m x (canPlace c id info ts bs s) := by
  unfold canPlace
  with_reducible repeat' first | apply Touch.ite_ | assumption | apply touch_incr | apply touch_mbStore | apply touch_fifoStore | apply Touch.foldl_ | apply Touch.foldl_fst | apply Touch.foldl_snd | intro _ _ _ | intro _ _ | split | dsimp only
  all_goals first | exact hm.up rfl | with_reducible refine hm.pg (page_aCAN_RX_OK _) ?_ | with_reducible refine hm.pg (page_aCAN_MB_CFG _ _) ?_ | with_reducible refine hm.pg (page_aCAN_FIFO_FID _) ?_ | with_reducible refine hm.pg (page_aCAN_FIFO_FMASK _) ?_ | with_reducible refine hm.pg (page_aCAN_RX_FILT _) ?_ | with_reducible refine hm.pg (page_aCAN_RX_DROP _) ?_
  all_goals rfl

theorem touch_canReset (hm : Sub 0x40000000000000 m) (s : State) (hs : Touch m x s) : Touch m x (canReset s) := by
  unfold canReset
  with_reducible repeat' first | apply Touch.ite_ | assumption | apply touch_setCans

theorem touch_canRetire (hm : Sub 0x14000000C002402 m) (s : State) (hs : Touch m x s) : Touch m x (canRetire s) := by
  unfold canRetire
  with_reducible repeat' first | apply Touch.ite_ | assumption | apply Touch.each_ | apply touch_canIdle | apply touch_txAbort | apply touch_record | apply Touch.foldl_ | apply Touch.foldl_fst | apply Touch.foldl_snd | intro _ _ _ | intro _ _ | split | dsimp only
  all_goals first | exact hm.up rfl

theorem touch_canWrite (hm : Sub 0x40021001E3FFFF m) (c o a d) (s : State) (hs : Touch m x s) : Touch m x (canWrite c o a d s) := by
  unfold canWrite
  with_reducible repeat' first | apply Touch.ite_ | assumption | apply touch_storeAt | apply touch_canErr | apply touch_canModeSync | apply Touch.foldl_ | apply Touch.foldl_fst | apply Touch.foldl_snd | intro _ _ _ | intro _ _ | split | dsimp only
  all_goals first | exact hm.up rfl

theorem touch_rxSuccess (hm : Sub 0x40000000100000 m) (c) (s : State) (hs : Touch m x s) : Touch m x (rxSuccess c s) := by
  unfold rxSuccess
  with_reducible repeat' first | apply Touch.ite_ | assumption | apply touch_putCan | apply touch_freeWord | apply Touch.foldl_ | apply Touch.foldl_fst | apply Touch.foldl_snd | intro _ _ _ | intro _ _ | split | dsimp only
  all_goals first | exact hm.up rfl

theorem touch_frameIn (hm : Sub 0x14100000C182402 m) (c f sof) (s : State) (hs : Touch m x s) : Touch m x (frameIn c f sof s) := by
  unfold frameIn
  with_reducible repeat' first | apply Touch.ite_ | assumption | apply touch_reach | apply touch_rxError | apply touch_canBusy | apply touch_canConfine | apply touch_rxSuccess | apply touch_canPlace | apply Touch.foldl_ | apply Touch.foldl_fst | apply Touch.foldl_snd | intro _ _ _ | intro _ _ | split | dsimp only
  all_goals first | exact hm.up rfl

theorem touch_frameOut (hm : Sub 0x14100000C182402 m) (c sof) (s : State) (hs : Touch m x s) : Touch m x (frameOut c sof s) := by
  unfold frameOut
  with_reducible repeat' first | apply Touch.ite_ | assumption | apply touch_reach | apply touch_canBusy | apply touch_canIdle | apply touch_incr | apply touch_putBit | apply touch_canIrq | apply touch_put | apply touch_wr | apply touch_putCan | apply touch_canConfine | apply touch_freeWord | apply touch_canPlace | apply Touch.foldl_ | apply Touch.foldl_fst | apply Touch.foldl_snd | intro _ _ _ | intro _ _ | split | dsimp only
  all_goals first | exact hm.up rfl | with_reducible refine hm.pg (page_aCAN_MB_CFG _ _) ?_ | with_reducible refine hm.pg (page_aCAN_MODE _) ?_ | with_reducible refine hm.pg (page_aCAN_MB_ID _ _) ?_ | with_reducible refine hm.pg (page_aCAN_TXPEND _ _) ?_ | with_reducible refine hm.pg (page_bit_aCAN_TXPEND _ _ _) ?_ | with_reducible refine hm.pg (page_aCAN_TX_OK _) ?_ | with_reducible refine hm.pg (page_aCAN_MB_TS _ _) ?_ | with_reducible refine hm.pg (page_aCAN_MB_STAT _ _) ?_ | with_reducible refine hm.pg (page_aCAN_TDC _) ?_ | with_reducible refine hm.pg (page_aCAN_PSTAT _) ?_
  all_goals rfl

theorem touch_integrate (hm : Sub 0x14000000C002402 m) (c) (s : State) (hs : Touch m x s) : Touch m x (integrate c s) := by
  unfold integrate
  with_reducible repeat' first | apply Touch.ite_ | assumption | apply touch_canArb | apply touch_canConfine | apply touch_put | apply Touch.foldl_ | apply Touch.foldl_fst | apply Touch.foldl_snd | intro _ _ _ | intro _ _ | split | dsimp only
  all_goals first | exact hm.up rfl | with_reducible refine hm.pg (page_aCAN_PSTAT _) ?_
  all_goals rfl

theorem touch_txRequest (hm : Sub 0x40000000000400 m) (c b) (s : State) (hs : Touch m x s) : Touch m x (txRequest c b s) := by
  unfold txRequest
  with_reducible repeat' first | apply Touch.ite_ | assumption | apply touch_canErr | apply touch_incr | apply touch_putBit | apply touch_canArb | apply touch_lower | apply Touch.foldl_ | apply Touch.foldl_fst | apply Touch.foldl_snd | intro _ _ _ | intro _ _ | split | dsimp only
  all_goals first | exact hm.up rfl | with_reducible refine hm.pg (page_aCAN_MB_CFG _ _) ?_ | with_reducible refine hm.pg (page_aCAN_TXPEND _ _) ?_ | with_reducible refine hm.pg (page_bit_aCAN_TXPEND _ _ _) ?_ | with_reducible refine hm.pg (page_aCAN_TX_REQ _) ?_ | with_reducible refine hm.pg (page_aCAN_MB_STAT _ _) ?_
  all_goals rfl

theorem touch_txCancel (hm : Sub 0x40000000000400 m) (c b) (s : State) (hs : Touch m x s) : Touch m x (txCancel c b s) := by
  unfold txCancel
  with_reducible repeat' first | apply Touch.ite_ | assumption | apply touch_putCan | apply touch_txAbort | apply Touch.foldl_ | apply Touch.foldl_fst | apply Touch.foldl_snd | intro _ _ _ | intro _ _ | split | dsimp only
  all_goals first | exact hm.up rfl

theorem touch_mbCmd (hm : Sub 0x40000000000400 m) (c d) (s : State) (hs : Touch m x s) : Touch m x (mbCmd c d s) := by
  unfold mbCmd
  with_reducible repeat' first | apply Touch.ite_ | assumption | apply touch_canErr | apply touch_txRequest | apply touch_txCancel | apply Touch.foldl_ | apply Touch.foldl_fst | apply Touch.foldl_snd | intro _ _ _ | intro _ _ | split | dsimp only
  all_goals first | exact hm.up rfl

theorem touch_mbDataWrite (hm : Sub 0x40000000000400 m) (r c w d) (s : State) (hs : Touch m x s) : Touch m x (mbDataWrite r c w d s) := by
  unfold mbDataWrite
  with_reducible repeat' first | apply Touch.ite_ | assumption | apply touch_canErr | apply touch_putMbWord | apply Touch.foldl_ | apply Touch.foldl_fst | apply Touch.foldl_snd | intro _ _ _ | intro _ _ | split | dsimp only
  all_goals first | exact hm.up rfl

theorem touch_putEv (hm : Sub 0x1000000000000 m) (s : State) (k x2) (hs : Touch m x s) : Touch m x (State.putEv s k x2) := by
  unfold State.putEv
  with_reducible repeat' first | apply Touch.ite_ | assumption | apply touch_setMsio

theorem touch_putSi (hm : Sub 0x1000000000000 m) (s : State) (i x2) (hs : Touch m x s) : Touch m x (State.putSi s i x2) := by
  unfold State.putSi
  with_reducible repeat' first | apply Touch.ite_ | assumption | apply touch_setMsio

theorem touch_putSm (hm : Sub 0x1000000000000 m) (s : State) (c x2) (hs : Touch m x s) : Touch m x (State.putSm s c x2) := by
  unfold State.putSm
  with_reducible repeat' first | apply Touch.ite_ | assumption | apply touch_setMsio

theorem touch_putSo (hm : Sub 0x1000000000000 m) (s : State) (j x2) (hs : Touch m x s) : Touch m x (State.putSo s j x2) := by
  unfold State.putSo
  with_reducible repeat' first | apply Touch.ite_ | assumption | apply touch_setMsio

theorem touch_msioIrq (hm : Sub 0x800 m) (i) (s : State) (hs : Touch m x s) : Touch m x (msioIrq i s) := by
  unfold msioIrq
  with_reducible repeat' first | apply Touch.ite_ | assumption | apply touch_irq | apply Touch.foldl_ | apply Touch.foldl_fst | apply Touch.foldl_snd | intro _ _ _ | intro _ _ | split | dsimp only
  all_goals first | exact hm.up rfl | with_reducible refine hm.pg (k := 11) (page_raw ?_) ?_ | with_reducible refine hm.pg (k := 11) (page_err ?_) ?_ | exact hm.pg (k := 11) rfl rfl

theorem touch_soUpdate (hm : Sub 0x1000000000000 m) (s : State) (hs : Touch m x s) : Touch m x (soUpdate s) := by
  unfold soUpdate
  with_reducible repeat' first | apply Touch.ite_ | assumption | apply Touch.each_ | apply touch_putSo | apply Touch.foldl_ | apply Touch.foldl_fst | apply Touch.foldl_snd | intro _ _ _

theorem touch_evEnter (hm : Sub 0x1020000000800 m) (k st) (s : State) (hs : Touch m x s) : Touch m x (evEnter k st s) := by
  unfold evEnter
  with_reducible repeat' first | apply Touch.ite_ | assumption | apply touch_msioIrq | apply touch_put | apply touch_incrSat | apply touch_sageEvt | apply touch_soUpdate | apply Touch.foldl_ | apply Touch.foldl_fst | apply Touch.foldl_snd | intro _ _ _ | intro _ _ | split | dsimp only
  all_goals first | exact hm.up rfl | with_reducible refine hm.pg (page_aMSIO_EV_STAT _) ?_
  all_goals rfl

theorem touch_evFault (hm : Sub 0x1020000000800 m) (k cause) (s : State) (hs : Touch m x s) : Touch m x (evFault k cause s) := by
  unfold evFault
  with_reducible repeat' first | apply Touch.ite_ | assumption | apply touch_put | apply touch_evEnter | apply Touch.foldl_ | apply Touch.foldl_fst | apply Touch.foldl_snd | intro _ _ _ | intro _ _ | split | dsimp only
  all_goals first | exact hm.up rfl | with_reducible refine hm.pg (page_aMSIO_EV_STAT _) ?_
  all_goals rfl

theorem touch_discrepancy (hm : Sub 0x1020000080800 m) (k) (s : State) (hs : Touch m x s) : Touch m x (discrepancy k s) := by
  unfold discrepancy
  with_reducible repeat' first | apply Touch.ite_ | assumption | apply touch_evFault | apply touch_reach | apply Touch.foldl_ | apply Touch.foldl_fst | apply Touch.foldl_snd | intro _ _ _ | intro _ _ | split | dsimp only
  all_goals first | exact hm.up rfl

theorem touch_msioErr (hm : Sub 0x800 m) (i) (s : State) (hs : Touch m x s) : Touch m x (msioErr i s) := by
  unfold msioErr
  with_reducible repeat' first | apply Touch.ite_ | assumption | apply touch_errSet | apply Touch.foldl_ | apply Touch.foldl_fst | apply Touch.foldl_snd | intro _ _ _ | intro _ _ | split | dsimp only
  all_goals first | exact hm.up rfl | with_reducible refine hm.pg (k := 11) (page_raw ?_) ?_ | with_reducible refine hm.pg (k := 11) (page_err ?_) ?_ | exact hm.pg (k := 11) rfl rfl

theorem touch_faultClear (hm : Sub 0x1020000000800 m) (m2) (s : State) (hs : Touch m x s) : Touch m x (faultClear m2 s) := by
  unfold faultClear
  with_reducible repeat' first | apply Touch.ite_ | assumption | apply Touch.each_ | apply touch_evEnter | apply touch_msioErr | apply Touch.foldl_ | apply Touch.foldl_fst | apply Touch.foldl_snd | intro _ _ _ | intro _ _ | split | dsimp only
  all_goals first | exact hm.up rfl

theorem touch_softReset (hm : Sub 0x1020000000800 m) (m2) (s : State) (hs : Touch m x s) : Touch m x (softReset m2 s) := by
  unfold softReset
  with_reducible repeat' first | apply Touch.ite_ | assumption | apply Touch.each_ | apply touch_evEnter | apply Touch.foldl_ | apply Touch.foldl_fst | apply Touch.foldl_snd | intro _ _ _

theorem touch_evDisc (hm : Sub 0x1000000000000 m) (k diff diff2) (s : State) (hs : Touch m x s) : Touch m x (evDisc k diff diff2 s) := by
  unfold evDisc
  with_reducible repeat' first | apply Touch.ite_ | assumption | apply touch_putEv

theorem touch_twoHand (hm : Sub 0x1020000000800 m) (k) (s : State) (hs : Touch m x s) : Touch m x (twoHand k s) := by
  unfold twoHand
  with_reducible repeat' first | apply Touch.ite_ | assumption | apply touch_evDisc | apply touch_evEnter | apply touch_putEv | apply touch_incrSat | apply Touch.foldl_ | apply Touch.foldl_fst | apply Touch.foldl_snd | intro _ _ _ | intro _ _ | split | dsimp only
  all_goals first | exact hm.up rfl | with_reducible refine hm.pg (page_aMSIO_EV_TIM _) ?_ | with_reducible refine hm.pg (page_aMSIO_EV_STAT _) ?_
  all_goals rfl

theorem touch_evReset (hm : Sub 0x1020000000800 m) (k) (s : State) (hs : Touch m x s) : Touch m x (evReset k s) := by
  unfold evReset
  with_reducible repeat' first | apply Touch.ite_ | assumption | apply touch_putEv | apply touch_msioErr | apply touch_evEnter | apply Touch.foldl_ | apply Touch.foldl_fst | apply Touch.foldl_snd | intro _ _ _ | intro _ _ | split | dsimp only
  all_goals first | exact hm.up rfl

theorem touch_twoChannel (hm : Sub 0x1020000000800 m) (k) (s : State) (hs : Touch m x s) : Touch m x (twoChannel k s) := by
  unfold twoChannel
  with_reducible repeat' first | apply Touch.ite_ | assumption | apply touch_evDisc | apply touch_evEnter | apply touch_evReset | apply Touch.foldl_ | apply Touch.foldl_fst | apply Touch.foldl_snd | intro _ _ _ | intro _ _ | split | dsimp only
  all_goals first | exact hm.up rfl

theorem touch_evSample (hm : Sub 0x1020000000800 m) (s : State) (hs : Touch m x s) : Touch m x (evSample s) := by
  unfold evSample
  with_reducible repeat' first | apply Touch.ite_ | assumption | apply Touch.each_ | apply touch_twoHand | apply touch_twoChannel | apply Touch.foldl_ | apply Touch.foldl_fst | apply Touch.foldl_snd | intro _ _ _ | intro _ _ | split

theorem touch_msioSample (hm : Sub 0x1020000000800 m) (s : State) (hs : Touch m x s) : Touch m x (msioSample s) := by
  unfold msioSample
  with_reducible repeat' first | apply Touch.ite_ | assumption | apply touch_soUpdate | apply touch_evSample | apply Touch.foldl_ | apply Touch.foldl_fst | apply Touch.foldl_snd | intro _ _ _ | intro _ _ | split | dsimp only
  all_goals first | exact hm.up rfl

theorem touch_evCmd (hm : Sub 0x1020000000800 m) (d) (s : State) (hs : Touch m x s) : Touch m x (evCmd d s) := by
  unfold evCmd
  with_reducible repeat' first | apply Touch.ite_ | assumption | apply touch_faultClear | apply touch_softReset | apply touch_msioSample

theorem touch_siFollow (hm : Sub 0x800 m) (i) (s : State) (hs : Touch m x s) : Touch m x (siFollow i s) := by
  unfold siFollow
  with_reducible repeat' first | apply Touch.ite_ | assumption | apply touch_putBit | apply Touch.foldl_ | apply Touch.foldl_fst | apply Touch.foldl_snd | intro _ _ _ | intro _ _ | split | dsimp only
  all_goals first | exact hm.up rfl | with_reducible refine hm.pg (page_bit_aMSIO_SI_FILT _) ?_
  all_goals rfl

theorem touch_inputTest (hm : Sub 0x1020000080800 m) (i pass) (s : State) (hs : Touch m x s) : Touch m x (inputTest i pass s) := by
  unfold inputTest
  with_reducible repeat' first | apply Touch.ite_ | assumption | apply touch_reach | apply touch_putSo | apply touch_putSi | apply touch_incrSat | apply touch_putBit | apply touch_siFollow | apply Touch.each_ | apply touch_evFault | apply touch_msioSample | apply Touch.foldl_ | apply Touch.foldl_fst | apply Touch.foldl_snd | intro _ _ _ | intro _ _ | split | dsimp only
  all_goals first | exact hm.up rfl | with_reducible refine hm.pg (page_aMSIO_SI_CFG _) ?_ | with_reducible refine hm.pg (page_bit_aMSIO_SI_FAULT _) ?_ | exact hm.pg (k := 11) rfl rfl
  all_goals rfl

theorem touch_smFree (hm : Sub 0x400 m) (c p) (s : State) (hs : Touch m x s) : Touch m x (smFree c p s) := by
  unfold smFree
  with_reducible repeat' first | apply Touch.ite_ | assumption | apply Touch.each_ | apply touch_putBit | apply Touch.foldl_ | apply Touch.foldl_fst | apply Touch.foldl_snd | intro _ _ _ | intro _ _ | split | dsimp only
  all_goals first | exact hm.up rfl | with_reducible refine hm.pg (page_aCAN_NEW _ _) ?_ | with_reducible refine hm.pg (page_bit_aCAN_NEW _ _ _) ?_
  all_goals rfl

theorem touch_smOwn (hm : Sub 0x21001E3FFFF m) (c) (s : State) (hs : Touch m x s) : Touch m x (smOwn c s) := by
  unfold smOwn
  with_reducible repeat' first | apply Touch.ite_ | assumption | apply Touch.each_ | apply touch_storeAt | apply Touch.foldl_ | apply Touch.foldl_fst | apply Touch.foldl_snd | intro _ _ _

theorem touch_msioConfig (hm : Sub 0x1021001E3FFFF m) (o s : State) (hs : Touch m x s) : Touch m x (msioConfig o s) := by
  unfold msioConfig
  with_reducible repeat' first | apply Touch.ite_ | assumption | apply Touch.each_ | apply touch_siFollow | apply touch_putEv | apply touch_evEnter | apply touch_smFree | apply touch_putSm | apply touch_put | apply touch_smOwn | apply touch_soUpdate | apply Touch.foldl_ | apply Touch.foldl_fst | apply Touch.foldl_snd | intro _ _ _ | intro _ _ | split | dsimp only
  all_goals first | exact hm.up rfl | with_reducible refine hm.pg (page_aMSIO_SI_CFG _) ?_ | with_reducible refine hm.pg (page_aMSIO_EV_CFG _) ?_ | with_reducible refine hm.pg (page_aMSIO_EV_SRC _) ?_ | with_reducible refine hm.pg (page_aMSIO_EV_TIM _) ?_ | with_reducible refine hm.pg (page_aMSIO_SM_CFG _) ?_ | with_reducible refine hm.pg (page_aMSIO_SM_IDA _) ?_ | with_reducible refine hm.pg (page_aMSIO_SM_IDB _) ?_ | with_reducible refine hm.pg (page_aMSIO_SM_TIM _) ?_ | with_reducible refine hm.pg (page_aMSIO_SM_STAT _) ?_
  all_goals rfl

theorem touch_msioReset (hm : Sub 0x1000000000000 m) (s : State) (hs : Touch m x s) : Touch m x (msioReset s) := by
  unfold msioReset
  with_reducible repeat' first | apply Touch.ite_ | assumption | apply touch_setMsio

theorem touch_offPulse (hm : Sub 0x1000000080000 m) (j) (s : State) (hs : Touch m x s) : Touch m x (offPulse j s) := by
  unfold offPulse
  with_reducible repeat' first | apply Touch.ite_ | assumption | apply touch_reach | apply touch_putSo | apply Touch.each_ | apply touch_putSi | apply Touch.foldl_ | apply Touch.foldl_fst | apply Touch.foldl_snd | intro _ _ _ | intro _ _ | split | dsimp only
  all_goals first | exact hm.up rfl

theorem touch_smFault (hm : Sub 0x1020000000800 m) (c cause) (s : State) (hs : Touch m x s) : Touch m x (smFault c cause s) := by
  unfold smFault
  with_reducible repeat' first | apply Touch.ite_ | assumption | apply touch_incrSat | apply touch_put | apply touch_putSm | apply touch_msioSample | apply touch_sageEvt | apply touch_msioIrq | apply Touch.foldl_ | apply Touch.foldl_fst | apply Touch.foldl_snd | intro _ _ _ | intro _ _ | split | dsimp only
  all_goals first | exact hm.up rfl | with_reducible refine hm.pg (page_aMSIO_SM_STAT _) ?_
  all_goals rfl

theorem touch_smMiss (hm : Sub 0x1020000000800 m) (c) (s : State) (hs : Touch m x s) : Touch m x (smMiss c s) := by
  unfold smMiss
  with_reducible repeat' first | apply Touch.ite_ | assumption | apply touch_incrSat | apply touch_putSm | apply touch_smFault | apply Touch.foldl_ | apply Touch.foldl_fst | apply Touch.foldl_snd | intro _ _ _ | intro _ _ | split | dsimp only
  all_goals first | exact hm.up rfl | with_reducible refine hm.pg (page_aMSIO_SM_STAT _) ?_
  all_goals rfl

theorem touch_pairWindow (hm : Sub 0x1020000080800 m) (c) (s : State) (hs : Touch m x s) : Touch m x (pairWindow c s) := by
  unfold pairWindow
  with_reducible repeat' first | apply Touch.ite_ | assumption | apply touch_smMiss | apply touch_reach | apply Touch.foldl_ | apply Touch.foldl_fst | apply Touch.foldl_snd | intro _ _ _ | intro _ _ | split | dsimp only
  all_goals first | exact hm.up rfl

theorem touch_readBack (hm : Sub 0x100000 m) (j) (s : State) (hs : Touch m x s) : Touch m x (readBack j s).2 := by
  unfold readBack
  with_reducible repeat' first | apply Touch.ite_ | assumption | apply touch_freeWord | apply Touch.foldl_ | apply Touch.foldl_fst | apply Touch.foldl_snd | intro _ _ _ | intro _ _ | split

theorem touch_readbackFault (hm : Sub 0x1020000000800 m) (j on) (s : State) (hs : Touch m x s) : Touch m x (readbackFault j on s) := by
  unfold readbackFault
  with_reducible repeat' first | apply Touch.ite_ | assumption | apply touch_put | apply touch_putBit | apply touch_soUpdate | apply touch_msioIrq | apply Touch.each_ | apply touch_evFault | apply Touch.foldl_ | apply Touch.foldl_fst | apply Touch.foldl_snd | intro _ _ _ | intro _ _ | split | dsimp only
  all_goals first | exact hm.up rfl | with_reducible refine hm.pg (page_bit_aMSIO_SO_STAT _) ?_ | exact hm.pg (k := 11) rfl rfl
  all_goals rfl

theorem touch_smOpen (hm : Sub 0x1000000000000 m) (c seq netB data) (s : State) (hs : Touch m x s) : Touch m x (smOpen c seq netB data s) := by
  unfold smOpen
  with_reducible repeat' first | apply Touch.ite_ | assumption | apply touch_putSm

theorem touch_smJudge (hm : Sub 0x1020000000800 m) (c w data) (s : State) (hs : Touch m x s) : Touch m x (smJudge c w data s) := by
  unfold smJudge
  with_reducible repeat' first | apply Touch.ite_ | assumption | apply touch_putSm | apply touch_smFault | apply Touch.each_ | apply touch_wr | apply touch_put | apply touch_msioSample | apply Touch.foldl_ | apply Touch.foldl_fst | apply Touch.foldl_snd | intro _ _ _ | intro _ _ | split | dsimp only
  all_goals first | exact hm.up rfl | with_reducible refine hm.pg (page_aMSIO_SM_STAT _) ?_ | with_reducible refine hm.pg (page_aMSIO_SM_BUF _ _) ?_
  all_goals rfl

theorem touch_safeCopy (hm : Sub 0x1020000000800 m) (c netB bs) (s : State) (hs : Touch m x s) : Touch m x (safeCopy c netB bs s) := by
  unfold safeCopy
  with_reducible repeat' first | apply Touch.ite_ | assumption | apply touch_incrSat | apply touch_smOpen | apply touch_smJudge | apply touch_smMiss | apply Touch.foldl_ | apply Touch.foldl_fst | apply Touch.foldl_snd | intro _ _ _ | intro _ _ | split | dsimp only
  all_goals first | exact hm.up rfl | with_reducible refine hm.pg (page_aMSIO_SM_CFG _) ?_ | with_reducible refine hm.pg (page_aMSIO_SM_CNT _) ?_
  all_goals rfl

theorem touch_smPlace (hm : Sub 0x40000000000400 m) (can b bs) (s : State) (hs : Touch m x s) : Touch m x (smPlace can b bs s) := by
  unfold smPlace
  with_reducible repeat' first | apply Touch.ite_ | assumption | apply Touch.each_ | apply touch_putMbWord | apply touch_txRequest | apply Touch.foldl_ | apply Touch.foldl_fst | apply Touch.foldl_snd | intro _ _ _ | intro _ _ | split | dsimp only
  all_goals first | exact hm.up rfl

theorem touch_safeSend (hm : Sub 0x41020000080C00 m) (c) (s : State) (hs : Touch m x s) : Touch m x (safeSend c s) := by
  unfold safeSend
  with_reducible repeat' first | apply Touch.ite_ | assumption | apply touch_reach | apply Touch.each_ | apply touch_txAbort | apply touch_canIdle | apply touch_putSm | apply touch_smFault | apply touch_put | apply touch_smPlace | apply Touch.foldl_ | apply Touch.foldl_fst | apply Touch.foldl_snd | intro _ _ _ | intro _ _ | split | dsimp only
  all_goals first | exact hm.up rfl | with_reducible refine hm.pg (page_aMSIO_SM_CFG _) ?_ | with_reducible refine hm.pg (page_aMSIO_SM_STAT _) ?_
  all_goals rfl

theorem touch_siChange (hm : Sub 0x1020000080800 m) (i lvl) (s : State) (hs : Touch m x s) : Touch m x (siChange i lvl s) := by
  unfold siChange
  with_reducible repeat' first | apply Touch.ite_ | assumption | apply touch_putSi | apply touch_reach | apply touch_msioSample | apply touch_siFollow | apply Touch.foldl_ | apply Touch.foldl_fst | apply Touch.foldl_snd | intro _ _ _ | intro _ _ | split | dsimp only
  all_goals first | exact hm.up rfl

theorem touch_siFaultClear (hm : Sub 0x1020000000800 m) (m2) (s : State) (hs : Touch m x s) : Touch m x (siFaultClear m2 s) := by
  unfold siFaultClear
  with_reducible repeat' first | apply Touch.ite_ | assumption | apply touch_msioSample | apply Touch.each_ | apply touch_siFollow | apply touch_putBit | apply touch_msioErr | apply Touch.foldl_ | apply Touch.foldl_fst | apply Touch.foldl_snd | intro _ _ _ | intro _ _ | split | dsimp only
  all_goals first | exact hm.up rfl | with_reducible refine hm.pg (page_bit_aMSIO_SI_FAULT _) ?_
  all_goals rfl

theorem touch_smRearm (hm : Sub 0x1000000000800 m) (c) (s : State) (hs : Touch m x s) : Touch m x (smRearm c s) := by
  unfold smRearm
  with_reducible repeat' first | apply Touch.ite_ | assumption | apply touch_put | apply touch_putSm | apply Touch.foldl_ | apply Touch.foldl_fst | apply Touch.foldl_snd | intro _ _ _ | intro _ _ | split | dsimp only
  all_goals first | exact hm.up rfl | with_reducible refine hm.pg (page_aMSIO_SM_STAT _) ?_
  all_goals rfl

theorem touch_smTimeout (hm : Sub 0x1020000080800 m) (c) (s : State) (hs : Touch m x s) : Touch m x (smTimeout c s) := by
  unfold smTimeout
  with_reducible repeat' first | apply Touch.ite_ | assumption | apply touch_smFault | apply touch_reach | apply Touch.foldl_ | apply Touch.foldl_fst | apply Touch.foldl_snd | intro _ _ _ | intro _ _ | split | dsimp only
  all_goals first | exact hm.up rfl

theorem touch_soFaultClear (hm : Sub 0x1000000100800 m) (m2) (s : State) (hs : Touch m x s) : Touch m x (soFaultClear m2 s) := by
  unfold soFaultClear
  with_reducible repeat' first | apply Touch.ite_ | assumption | apply touch_soUpdate | apply Touch.each_ | apply touch_readBack | apply touch_put | apply touch_putBit | apply touch_msioErr | apply Touch.foldl_ | apply Touch.foldl_fst | apply Touch.foldl_snd | intro _ _ _ | intro _ _ | split | dsimp only
  all_goals first | exact hm.up rfl | with_reducible refine hm.pg (page_bit_aMSIO_SO_STAT _) ?_ | exact hm.pg (k := 11) rfl rfl
  all_goals rfl

theorem touch_syncFail (hm : Sub 0x1000000080800 m) (k) (s : State) (hs : Touch m x s) : Touch m x (syncFail k s) := by
  unfold syncFail
  with_reducible repeat' first | apply Touch.ite_ | assumption | apply touch_reach | apply touch_incrSat | apply touch_putEv | apply Touch.foldl_ | apply Touch.foldl_fst | apply Touch.foldl_snd | intro _ _ _ | intro _ _ | split | dsimp only
  all_goals first | exact hm.up rfl | with_reducible refine hm.pg (page_aMSIO_EV_TIM _) ?_ | with_reducible refine hm.pg (page_aMSIO_EV_STAT _) ?_
  all_goals rfl

theorem touch_refreshLoads (hm : Sub 0x40020 m) (s : State) (hs : Touch m x s) : Touch m x (refreshLoads s) := by
  unfold refreshLoads
  with_reducible repeat' first | apply Touch.ite_ | assumption | apply Touch.each_ | apply touch_putCw | apply touch_putB | apply touch_put | apply Touch.foldl_ | apply Touch.foldl_fst | apply Touch.foldl_snd | intro _ _ _ | intro _ _ | split | dsimp only
  all_goals first | exact hm.up rfl | with_reducible refine hm.pg (k := 5) ((page_inst _ _).trans ?_) ?_ | exact hm.pg (k := 5) rfl rfl

theorem touch_applyCtxBnd (hm : Sub 0x240000 m) (k) (s : State) (hs : Touch m x s) : Touch m x (applyCtxBnd k s) := by
  unfold applyCtxBnd
  with_reducible repeat' first | apply Touch.ite_ | assumption | apply Touch.each_ | apply touch_setBnd | apply touch_putCw | apply Touch.foldl_ | apply Touch.foldl_fst | apply Touch.foldl_snd | intro _ _ _ | intro _ _ | split | dsimp only
  all_goals first | exact hm.up rfl

theorem touch_lockWord (hm : Sub 0x40000 m) (k) (s : State) (hs : Touch m x s) : Touch m x (lockWord k s) := by
  unfold lockWord
  with_reducible repeat' first | apply Touch.ite_ | assumption | apply touch_putCw

theorem touch_ctxWrErr (hm : Sub 0x20 m) (s : State) (hs : Touch m x s) : Touch m x (ctxWrErr s) := by
  unfold ctxWrErr
  with_reducible repeat' first | apply Touch.ite_ | assumption | apply touch_errSet | apply Touch.foldl_ | apply Touch.foldl_fst | apply Touch.foldl_snd | intro _ _ _ | intro _ _ | split | dsimp only
  all_goals first | exact hm.up rfl | with_reducible refine hm.pg (k := 5) (page_raw ?_) ?_ | with_reducible refine hm.pg (k := 5) (page_err ?_) ?_ | exact hm.pg (k := 5) rfl rfl

theorem touch_putParam (hm : Sub 0x40020 m) (k ofs v) (s : State) (hs : Touch m x s) : Touch m x (putParam k ofs v s) := by
  unfold putParam
  with_reducible repeat' first | apply Touch.ite_ | assumption | apply touch_ctxWrErr | apply touch_putCw | apply Touch.foldl_ | apply Touch.foldl_fst | apply Touch.foldl_snd | intro _ _ _ | intro _ _ | split | dsimp only
  all_goals first | exact hm.up rfl

theorem touch_applyParams (hm : Sub 0x10040020 m) (k) (s : State) (hs : Touch m x s) : Touch m x (applyParams k s) := by
  unfold applyParams
  with_reducible repeat' first | apply Touch.ite_ | assumption | apply touch_putCtx | apply touch_lockWord | apply Touch.each_ | apply touch_putParam | apply touch_irq | apply touch_put | apply Touch.foldl_ | apply Touch.foldl_fst | apply Touch.foldl_snd | intro _ _ _ | intro _ _ | split | dsimp only
  all_goals first | exact hm.up rfl | with_reducible refine hm.pg (k := 5) ((page_inst _ _).trans ?_) ?_ | with_reducible refine hm.pg (k := 5) (page_raw ?_) ?_ | with_reducible refine hm.pg (k := 5) (page_err ?_) ?_ | exact hm.pg (k := 5) rfl rfl
  all_goals rfl

theorem touch_setInteg (hm : Sub 0x10040000 m) (k i v) (s : State) (hs : Touch m x s) : Touch m x (setInteg k i v s) := by
  unfold setInteg
  with_reducible repeat' first | apply Touch.ite_ | assumption | apply touch_putCw | apply Touch.when_ | apply touch_putCtx | apply Touch.foldl_ | apply Touch.foldl_fst | apply Touch.foldl_snd | intro _ _ _ | intro _ _ | split | dsimp only
  all_goals first | exact hm.up rfl

theorem touch_applyInstant (hm : Sub 0x10240020 m) (k) (s : State) (hs : Touch m x s) : Touch m x (applyInstant k s) := by
  unfold applyInstant
  with_reducible repeat' first | apply Touch.ite_ | assumption | apply touch_applyParams | apply touch_applyCtxBnd | apply touch_setInteg | apply touch_putCtx | apply Touch.foldl_ | apply Touch.foldl_fst | apply Touch.foldl_snd | intro _ _ _ | intro _ _ | split | dsimp only
  all_goals first | exact hm.up rfl

theorem touch_putInput (hm : Sub 0x10000000 m) (k j v pred w) (s : State) (hs : Touch m x s) : Touch m x (putInput k j v pred w s) := by
  unfold putInput
  with_reducible repeat' first | apply Touch.ite_ | assumption | apply touch_putCtx

theorem touch_arrive (hm : Sub 0x10000000 m) (ty inst sel raw pred only w) (s : State) (hs : Touch m x s) : Touch m x (arrive ty inst sel raw pred only w s) := by
  unfold arrive
  with_reducible repeat' first | apply Touch.ite_ | assumption | apply Touch.each_ | apply touch_putInput | apply Touch.foldl_ | apply Touch.foldl_fst | apply Touch.foldl_snd | intro _ _ _

theorem touch_basilInput (hm : Sub 0x9C000002 m) (src inst sel raw pred) (s : State) (hs : Touch m x s) : Touch m x (basilInput src inst sel raw pred s) := by
  unfold basilInput
  with_reducible repeat' first | apply Touch.ite_ | assumption | apply touch_setBasil | apply touch_fabSend | apply touch_arrive | apply Touch.foldl_ | apply Touch.foldl_fst | apply Touch.foldl_snd | intro _ _ _ | intro _ _ | split | dsimp only
  all_goals first | exact hm.up rfl

theorem touch_beginStep (hm : Sub 0x10000000 m) (k t sp) (s : State) (hs : Touch m x s) : Touch m x (beginStep k t sp s) := by
  unfold beginStep
  with_reducible repeat' first | apply Touch.ite_ | assumption | apply touch_putCtx

theorem touch_emitMirror (hm : Sub 0x80001C001002 m) (k) (s : State) (hs : Touch m x s) : Touch m x (emitMirror k s) := by
  unfold emitMirror
  with_reducible repeat' first | apply Touch.ite_ | assumption | apply touch_engToPair | apply touch_putCtx | apply touch_incrSat | apply Touch.foldl_ | apply Touch.foldl_fst | apply Touch.foldl_snd | intro _ _ _ | intro _ _ | split | dsimp only
  all_goals first | exact hm.up rfl | exact hm.pg (k := 12) rfl rfl

theorem touch_emitSet (hm : Sub 0x810000000 m) (k o) (s : State) (hs : Touch m x s) : Touch m x (emitSet k o s) := by
  unfold emitSet
  with_reducible repeat' first | apply Touch.ite_ | assumption | apply touch_putCtx | apply touch_putTbg | apply Touch.foldl_ | apply Touch.foldl_fst | apply Touch.foldl_snd | intro _ _ _ | intro _ _ | split | dsimp only
  all_goals first | exact hm.up rfl

theorem touch_emitStep (hm : Sub 0x100B2B91C05B07E m) (k r w) (s : State) (hs : Touch m x s) : Touch m x (emitStep k r w s) := by
  unfold emitStep
  with_reducible repeat' first | apply Touch.ite_ | assumption | apply Touch.each_ | apply touch_putCw | apply touch_putCtx | apply touch_emitMirror | apply touch_emitSet | apply touch_record | apply touch_kernRequest | apply touch_sealStep | apply Touch.foldl_ | apply Touch.foldl_fst | apply Touch.foldl_snd | intro _ _ _ | intro _ _ | split | dsimp only
  all_goals first | exact hm.up rfl

theorem touch_endDead (hm : Sub 0xC0080000 m) (i) (s : State) (hs : Touch m x s) : Touch m x (endDead i s) := by
  unfold endDead
  with_reducible repeat' first | apply Touch.ite_ | assumption | apply touch_reach | apply Touch.each_ | apply touch_setLanes | apply touch_bookLane | apply Touch.foldl_ | apply Touch.foldl_fst | apply Touch.foldl_snd | intro _ _ _ | intro _ _ | split | dsimp only
  all_goals first | exact hm.up rfl

theorem touch_finishStep (hm : Sub 0x100B2B95C05B07E m) (k) (s : State) (hs : Touch m x s) : Touch m x (finishStep k s) := by
  unfold finishStep
  with_reducible repeat' first | apply Touch.ite_ | assumption | apply touch_putCtx | apply touch_haltCtx | apply touch_emitStep | apply Touch.foldl_ | apply Touch.foldl_fst | apply Touch.foldl_snd | intro _ _ _ | intro _ _ | split | dsimp only
  all_goals first | exact hm.up rfl

theorem touch_settleStep (hm : Sub 0x100B2B9DC05B07E m) (k) (s : State) (hs : Touch m x s) : Touch m x (settleStep k s) := by
  unfold settleStep
  with_reducible repeat' first | apply Touch.ite_ | assumption | apply touch_sealStep | apply touch_putCtx | apply Touch.each_ | apply touch_cancelOne | apply touch_overrun | apply Touch.foldl_ | apply Touch.foldl_fst | apply Touch.foldl_snd | intro _ _ _ | intro _ _ | split | dsimp only
  all_goals first | exact hm.up rfl

theorem touch_instantAt (hm : Sub 0x100B2B9DC25B07E m) (k t) (s : State) (hs : Touch m x s) : Touch m x (instantAt k t s) := by
  unfold instantAt
  with_reducible repeat' first | apply Touch.ite_ | assumption | apply touch_stopDue | apply touch_settleStep | apply touch_enterRun | apply touch_applyInstant | apply touch_haltCtx | apply touch_beginStep | apply touch_putCtx | apply Touch.foldl_ | apply Touch.foldl_fst | apply Touch.foldl_snd | intro _ _ _ | intro _ _ | split | dsimp only
  all_goals first | exact hm.up rfl

theorem touch_noteMeas (hm : Sub 0x10000000 m) (k) (s : State) (hs : Touch m x s) : Touch m x (noteMeas k s) := by
  unfold noteMeas
  with_reducible repeat' first | apply Touch.ite_ | assumption | apply touch_putCtx

theorem touch_releaseStep (hm : Sub 0x100B2B95C05B07E m) (k miss) (s : State) (hs : Touch m x s) : Touch m x (releaseStep k miss s) := by
  unfold releaseStep
  with_reducible repeat' first | apply Touch.ite_ | assumption | apply touch_putCtx | apply touch_ctxIrq | apply touch_cntEvt | apply touch_haltCtx | apply touch_stopDue | apply touch_noteMeas | apply Touch.foldl_ | apply Touch.foldl_fst | apply Touch.foldl_snd | intro _ _ _ | intro _ _ | split | dsimp only
  all_goals first | exact hm.up rfl

theorem touch_latestStart (hm : Sub 0x100B2B9DC0DB07E m) (k) (s : State) (hs : Touch m x s) : Touch m x (latestStart k s) := by
  unfold latestStart
  with_reducible repeat' first | apply Touch.ite_ | assumption | apply touch_reach | apply touch_releaseStep | apply touch_overrun | apply touch_privLate | apply Touch.foldl_ | apply Touch.foldl_fst | apply Touch.foldl_snd | intro _ _ _ | intro _ _ | split | dsimp only
  all_goals first | exact hm.up rfl

theorem touch_privMismatch (hm : Sub 0x100B2B95C05B07E m) (k p) (s : State) (hs : Touch m x s) : Touch m x (privMismatch k p s) := by
  unfold privMismatch
  with_reducible repeat' first | apply Touch.ite_ | assumption | apply touch_sageEvt | apply touch_raise | apply touch_incrSat | apply touch_putCtx | apply touch_haltCtx | apply touch_privLate | apply Touch.foldl_ | apply Touch.foldl_fst | apply Touch.foldl_snd | intro _ _ _ | intro _ _ | split | dsimp only
  all_goals first | exact hm.up rfl | exact hm.pg (k := 5) rfl rfl

theorem touch_startCtxAt (hm : Sub 0x200010040020 m) (k) (s : State) (hs : Touch m x s) : Touch m x (startCtxAt k s) := by
  unfold startCtxAt
  with_reducible repeat' first | apply Touch.ite_ | assumption | apply Touch.each_ | apply touch_putCw | apply touch_putCtx | apply touch_put | apply touch_enterRun | apply Touch.foldl_ | apply Touch.foldl_fst | apply Touch.foldl_snd | intro _ _ _ | intro _ _ | split | dsimp only
  all_goals first | exact hm.up rfl | with_reducible refine hm.pg (k := 5) ((page_inst _ _).trans ?_) ?_
  all_goals rfl

theorem touch_startStep (hm : Sub 0x50040000 m) (k ls) (s : State) (hs : Touch m x s) : Touch m x (startStep k ls s) := by
  unfold startStep
  with_reducible repeat' first | apply Touch.ite_ | assumption | apply touch_copyWords | apply touch_putCtx | apply Touch.each_ | apply touch_setLanes | apply Touch.foldl_ | apply Touch.foldl_fst | apply Touch.foldl_snd | intro _ _ _ | intro _ _ | split | dsimp only
  all_goals first | exact hm.up rfl

theorem touch_stepDeadline (hm : Sub 0x100B2B9DC0DB07E m) (k) (s : State) (hs : Touch m x s) : Touch m x (stepDeadline k s) := by
  unfold stepDeadline
  with_reducible repeat' first | apply Touch.ite_ | assumption | apply touch_privLate | apply touch_reach | apply touch_overrun | apply Touch.foldl_ | apply Touch.foldl_fst | apply Touch.foldl_snd | intro _ _ _ | intro _ _ | split | dsimp only
  all_goals first | exact hm.up rfl

theorem touch_stopCtxAt (hm : Sub 0xA0011C249062 m) (k) (s : State) (hs : Touch m x s) : Touch m x (stopCtxAt k s) := by
  unfold stopCtxAt
  with_reducible repeat' first | apply Touch.ite_ | assumption | apply touch_putCtx | apply touch_sealStep | apply touch_stopDue | apply touch_applyInstant | apply Touch.foldl_ | apply Touch.foldl_fst | apply Touch.foldl_snd | intro _ _ _ | intro _ _ | split | dsimp only
  all_goals first | exact hm.up rfl

theorem touch_notifyLeg (hm : Sub 0x8 m) (n) (s : State) (hs : Touch m x s) : Touch m x (notifyLeg n s) := by
  unfold notifyLeg
  with_reducible repeat' first | apply Touch.ite_ | assumption | apply touch_raise | apply touch_incrSat | apply Touch.foldl_ | apply Touch.foldl_fst | apply Touch.foldl_snd | intro _ _ _ | intro _ _ | split | dsimp only
  all_goals first | exact hm.up rfl | with_reducible refine hm.pg (page_aLEG_TRIP_EVT _) ?_ | with_reducible refine hm.pg (page_aMG_IRQ_RAW _) ?_
  all_goals rfl

theorem touch_cbcLimit (hm : Sub 0x100B2B91C05B07E m) (n code) (s : State) (hs : Touch m x s) : Touch m x (cbcLimit n code s) := by
  unfold cbcLimit
  with_reducible repeat' first | apply Touch.ite_ | assumption | apply touch_record | apply touch_put | apply touch_sageEvt | apply touch_latchLeg | apply touch_latchRequest | apply Touch.foldl_ | apply Touch.foldl_fst | apply Touch.foldl_snd | intro _ _ _ | intro _ _ | split | dsimp only
  all_goals first | exact hm.up rfl | with_reducible refine hm.pg (page_aLEG_TRIP_EVT _) ?_
  all_goals rfl

theorem touch_countCbc (hm : Sub 0x100B2B91C05B07E m) (n code) (s : State) (hs : Touch m x s) : Touch m x (countCbc n code s) := by
  unfold countCbc
  with_reducible repeat' first | apply Touch.ite_ | assumption | apply touch_raise | apply touch_incrSat | apply touch_putLeg | apply touch_cbcLimit | apply touch_put | apply Touch.foldl_ | apply Touch.foldl_fst | apply Touch.foldl_snd | intro _ _ _ | intro _ _ | split | dsimp only
  all_goals first | exact hm.up rfl | with_reducible refine hm.pg (page_aLEG_CBC_TOT _) ?_ | with_reducible refine hm.pg (page_aMG_IRQ_RAW _) ?_ | with_reducible refine hm.pg (page_aLEG_TRIP_STAT _) ?_
  all_goals rfl

theorem touch_uncountIns (hm : Sub 0x1000000008 m) (n b2) (s : State) (hs : Touch m x s) : Touch m x (uncountIns n b2 s) := by
  unfold uncountIns
  with_reducible repeat' first | apply Touch.ite_ | assumption | apply touch_putLeg | apply touch_put | apply Touch.foldl_ | apply Touch.foldl_fst | apply Touch.foldl_snd | intro _ _ _ | intro _ _ | split | dsimp only
  all_goals first | exact hm.up rfl | with_reducible refine hm.pg (page_aLEG_BOOT _) ?_
  all_goals rfl

theorem touch_reEmitWin (hm : Sub 0x900C000012 m) (n k vals) (s : State) (hs : Touch m x s) : Touch m x (reEmitWin n k vals s) := by
  unfold reEmitWin
  with_reducible repeat' first | apply Touch.ite_ | assumption | apply touch_putLeg | apply Touch.each_ | apply touch_hubRetract | apply touch_hubEdge | apply Touch.foldl_ | apply Touch.foldl_fst | apply Touch.foldl_snd | intro _ _ _ | intro _ _ | split | dsimp only
  all_goals first | exact hm.up rfl

theorem touch_reEmit (hm : Sub 0x900C000012 m) (n) (s : State) (hs : Touch m x s) : Touch m x (reEmit n s) := by
  unfold reEmit
  with_reducible repeat' first | apply Touch.ite_ | assumption | apply Touch.each_ | apply touch_reEmitWin | apply Touch.foldl_ | apply Touch.foldl_fst | apply Touch.foldl_snd | intro _ _ _

theorem touch_cbcHold (hm : Sub 0x900C00001A m) (n b2) (s : State) (hs : Touch m x s) : Touch m x (cbcHold n b2 s) := by
  unfold cbcHold
  with_reducible repeat' first | apply Touch.ite_ | assumption | apply touch_retractLeg | apply touch_uncountIns | apply touch_forceLegs | apply touch_putLeg | apply touch_reEmit | apply touch_raise | apply Touch.foldl_ | apply Touch.foldl_fst | apply Touch.foldl_snd | intro _ _ _ | intro _ _ | split | dsimp only
  all_goals first | exact hm.up rfl | with_reducible refine hm.pg (page_aLEG_TRIP_STAT _) ?_
  all_goals rfl

theorem touch_cbcLeg (hm : Sub 0x100B2B91C05B07E m) (n code) (s : State) (hs : Touch m x s) : Touch m x (cbcLeg n code s) := by
  unfold cbcLeg
  with_reducible repeat' first | apply Touch.ite_ | assumption | apply touch_notifyLeg | apply touch_countCbc | apply Touch.when_ | apply touch_incrSat | apply touch_cbcHold | apply Touch.foldl_ | apply Touch.foldl_fst | apply Touch.foldl_snd | intro _ _ _ | intro _ _ | split | dsimp only
  all_goals first | exact hm.up rfl | with_reducible refine hm.pg (page_aLEG_TRIP_EVT _) ?_
  all_goals rfl

theorem touch_latchAct (hm : Sub 0x100B2B91C05B07E m) (n i code x2) (s : State) (hs : Touch m x s) : Touch m x (latchAct n i code x2 s) := by
  unfold latchAct
  with_reducible repeat' first | apply Touch.ite_ | assumption | apply Touch.when_ | apply touch_countCbc | apply touch_incrSat | apply touch_latchLeg | apply touch_putLeg | apply touch_latchAgain | apply Touch.foldl_ | apply Touch.foldl_fst | apply Touch.foldl_snd | intro _ _ _ | intro _ _ | split | dsimp only
  all_goals first | exact hm.up rfl | with_reducible refine hm.pg (page_aLEG_TRIP_EVT _) ?_
  all_goals rfl

theorem touch_actLeg (hm : Sub 0x100B2B91C05B07E m) (n i code act x2) (s : State) (hs : Touch m x s) : Touch m x (actLeg n i code act x2 s) := by
  unfold actLeg
  with_reducible repeat' first | apply Touch.ite_ | assumption | apply touch_put | apply touch_notifyLeg | apply touch_cbcLeg | apply touch_latchAct | apply Touch.foldl_ | apply Touch.foldl_fst | apply Touch.foldl_snd | intro _ _ _ | intro _ _ | split | dsimp only
  all_goals first | exact hm.up rfl | with_reducible refine hm.pg (page_aLEG_TRIP_EVT _) ?_
  all_goals rfl

theorem touch_actRouted (hm : Sub 0x100B2B91C05B07E m) (x2) (s : State) (hs : Touch m x s) : Touch m x (actRouted x2 s) := by
  unfold actRouted
  with_reducible repeat' first | apply Touch.ite_ | assumption | apply touch_incrSat | apply touch_putLeg | apply touch_actLeg | apply Touch.each_ | apply touch_put | apply touch_raise | apply Touch.when_ | apply touch_countCbc | apply touch_latchGroup | apply touch_putMg | apply touch_latchAgain | apply Touch.foldl_ | apply Touch.foldl_fst | apply Touch.foldl_snd | intro _ _ _ | intro _ _ | split | dsimp only
  all_goals first | exact hm.up rfl | with_reducible refine hm.pg (page_aTHY_TRIP_SRC _) ?_ | with_reducible refine hm.pg (page_aTHY_TRIP_CNT _) ?_ | with_reducible refine hm.pg (page_aLEG_TRIP_EVT _) ?_ | with_reducible refine hm.pg (page_aMG_IRQ_RAW _) ?_ | with_reducible refine hm.pg (page_aMG_TRIP_STAT _) ?_
  all_goals rfl

theorem touch_actSat (hm : Sub 0x100B2B91C05B07E m) (n i) (s : State) (hs : Touch m x s) : Touch m x (actSat n i s) := by
  unfold actSat
  with_reducible repeat' first | apply Touch.ite_ | assumption | apply touch_actLeg

theorem touch_clearLeg (hm : Sub 0x900000001C m) (n) (s : State) (hs : Touch m x s) : Touch m x (clearLeg n s) := by
  unfold clearLeg
  with_reducible repeat' first | apply Touch.ite_ | assumption | apply touch_lower | apply touch_put | apply touch_refreshSum | apply touch_putLeg | apply touch_hintChange | apply Touch.foldl_ | apply Touch.foldl_fst | apply Touch.foldl_snd | intro _ _ _ | intro _ _ | split | dsimp only
  all_goals first | exact hm.up rfl | with_reducible refine hm.pg (page_aLEG_TRIP_STAT _) ?_
  all_goals rfl

theorem touch_armedLeg (hm : Sub 0x900000001C m) (n) (s : State) (hs : Touch m x s) : Touch m x (armedLeg n s) := by
  unfold armedLeg
  with_reducible repeat' first | apply Touch.ite_ | assumption | apply touch_clearLeg | apply touch_lower | apply Touch.foldl_ | apply Touch.foldl_fst | apply Touch.foldl_snd | intro _ _ _ | intro _ _ | split | dsimp only
  all_goals first | exact hm.up rfl | with_reducible refine hm.pg (page_aLEG_TRIP_STAT _) ?_
  all_goals rfl

theorem touch_clearMg (hm : Sub 0x200000000C m) (m2) (s : State) (hs : Touch m x s) : Touch m x (clearMg m2 s) := by
  unfold clearMg
  with_reducible repeat' first | apply Touch.ite_ | assumption | apply touch_lower | apply touch_refreshSum | apply touch_putMg | apply Touch.foldl_ | apply Touch.foldl_fst | apply Touch.foldl_snd | intro _ _ _ | intro _ _ | split | dsimp only
  all_goals first | exact hm.up rfl | with_reducible refine hm.pg (page_aMG_TRIP_STAT _) ?_
  all_goals rfl

theorem touch_armedMg (hm : Sub 0x200000000C m) (m2) (s : State) (hs : Touch m x s) : Touch m x (armedMg m2 s) := by
  unfold armedMg
  with_reducible repeat' first | apply Touch.ite_ | assumption | apply touch_clearMg | apply touch_lower | apply Touch.foldl_ | apply Touch.foldl_fst | apply Touch.foldl_snd | intro _ _ _ | intro _ _ | split | dsimp only
  all_goals first | exact hm.up rfl | with_reducible refine hm.pg (page_aMG_TRIP_STAT _) ?_
  all_goals rfl

theorem touch_armedStopped (hm : Sub 0x900000001C m) (s : State) (hs : Touch m x s) : Touch m x (armedStopped s) := by
  unfold armedStopped
  with_reducible repeat' first | apply Touch.ite_ | assumption | apply Touch.each_ | apply touch_armedLeg

theorem touch_clrLeg (hm : Sub 0x900000001C m) (n) (s : State) (hs : Touch m x s) : Touch m x (clrLeg n s) := by
  unfold clrLeg
  with_reducible repeat' first | apply Touch.ite_ | assumption | apply touch_raise | apply touch_incrSat | apply touch_clearLeg | apply Touch.foldl_ | apply Touch.foldl_fst | apply Touch.foldl_snd | intro _ _ _ | intro _ _ | split | dsimp only
  all_goals first | exact hm.up rfl | with_reducible refine hm.pg (page_aLEG_TRIP_STAT _) ?_ | with_reducible refine hm.pg (page_aMG_IRQ_RAW _) ?_
  all_goals rfl

theorem touch_clrMg (hm : Sub 0x200000000C m) (m2) (s : State) (hs : Touch m x s) : Touch m x (clrMg m2 s) := by
  unfold clrMg
  with_reducible repeat' first | apply Touch.ite_ | assumption | apply touch_raise | apply touch_incrSat | apply touch_clearMg | apply Touch.foldl_ | apply Touch.foldl_fst | apply Touch.foldl_snd | intro _ _ _ | intro _ _ | split | dsimp only
  all_goals first | exact hm.up rfl | with_reducible refine hm.pg (page_aMG_TRIP_STAT _) ?_ | with_reducible refine hm.pg (page_aMG_IRQ_RAW _) ?_
  all_goals rfl

theorem touch_reAct (hm : Sub 0x100B2B91C05B07E m) (n blankedOnly) (s : State) (hs : Touch m x s) : Touch m x (reAct n blankedOnly s) := by
  unfold reAct
  with_reducible repeat' first | apply Touch.ite_ | assumption | apply Touch.each_ | apply touch_actLeg | apply touch_incrSat | apply touch_actRouted | apply touch_actSat | apply Touch.foldl_ | apply Touch.foldl_fst | apply Touch.foldl_snd | intro _ _ _ | intro _ _ | split | dsimp only
  all_goals first | exact hm.up rfl | with_reducible refine hm.pg (page_aTHY_TRIP_SRC _) ?_ | with_reducible refine hm.pg (page_aTHY_TRIP_CNT _) ?_
  all_goals rfl

theorem touch_setSatSrc (hm : Sub 0x100B2B91C05B07E m) (n i on act) (s : State) (hs : Touch m x s) : Touch m x (setSatSrc n i on act s) := by
  unfold setSatSrc
  with_reducible repeat' first | apply Touch.ite_ | assumption | apply touch_putLeg | apply touch_actSat | apply Touch.foldl_ | apply Touch.foldl_fst | apply Touch.foldl_snd | intro _ _ _ | intro _ _ | split | dsimp only
  all_goals first | exact hm.up rfl

theorem touch_cleanLegs (hm : Sub 0x1000000008 m) (g) (s : State) (hs : Touch m x s) : Touch m x (cleanLegs g s) := by
  unfold cleanLegs
  with_reducible repeat' first | apply Touch.ite_ | assumption | apply Touch.each_ | apply touch_putLeg | apply touch_lower | apply Touch.foldl_ | apply Touch.foldl_fst | apply Touch.foldl_snd | intro _ _ _ | intro _ _ | split | dsimp only
  all_goals first | exact hm.up rfl | with_reducible refine hm.pg (page_aLEG_CMP_GEN _) ?_
  all_goals rfl

theorem touch_tbgIrq (hm : Sub 0x4 m) (g i) (s : State) (hs : Touch m x s) : Touch m x (tbgIrq g i s) := by
  unfold tbgIrq
  with_reducible repeat' first | apply Touch.ite_ | assumption | apply touch_raise | apply Touch.foldl_ | apply Touch.foldl_fst | apply Touch.foldl_snd | intro _ _ _ | intro _ _ | split | dsimp only
  all_goals first | exact hm.up rfl | with_reducible refine hm.pg (page_aTBG_IRQ_RAW _) ?_
  all_goals rfl

theorem touch_commitDone (hm : Sub 0x800000004 m) (g gen) (s : State) (hs : Touch m x s) : Touch m x (commitDone g gen s) := by
  unfold commitDone
  with_reducible repeat' first | apply Touch.ite_ | assumption | apply touch_put | apply touch_lower | apply touch_tbgIrq | apply touch_putTbg | apply Touch.foldl_ | apply Touch.foldl_fst | apply Touch.foldl_snd | intro _ _ _ | intro _ _ | split | dsimp only
  all_goals first | exact hm.up rfl | with_reducible refine hm.pg (page_aTBG_GEN _) ?_ | with_reducible refine hm.pg (page_aTBG_STAT _) ?_
  all_goals rfl

theorem touch_hintPeriods (hm : Sub 0x8000000000 m) (g) (s : State) (hs : Touch m x s) : Touch m x (hintPeriods g s) := by
  unfold hintPeriods
  with_reducible repeat' first | apply Touch.ite_ | assumption | apply Touch.each_ | apply touch_hubReady | apply Touch.foldl_ | apply Touch.foldl_fst | apply Touch.foldl_snd | intro _ _ _

theorem touch_applyStopped (hm : Sub 0x9801C7FFFF m) (g gen) (s : State) (hs : Touch m x s) : Touch m x (applyStopped g gen s) := by
  unfold applyStopped
  with_reducible repeat' first | apply Touch.ite_ | assumption | apply touch_applyCmt | apply touch_cleanLegs | apply touch_commitDone | apply touch_hintPeriods | apply touch_refreshLoads | apply Touch.foldl_ | apply Touch.foldl_fst | apply Touch.foldl_snd | intro _ _ _ | intro _ _ | split | dsimp only
  all_goals first | exact hm.up rfl

theorem touch_applyTaken (hm : Sub 0x100183FFFF m) (k) (s : State) (hs : Touch m x s) : Touch m x (applyTaken k s) := by
  unfold applyTaken
  with_reducible repeat' first | apply Touch.ite_ | assumption | apply Touch.each_ | apply touch_byKern | apply touch_crcDrop | apply touch_poke | apply touch_putLeg | apply touch_put | apply Touch.foldl_ | apply Touch.foldl_fst | apply Touch.foldl_snd | intro _ _ _ | intro _ _ | split | dsimp only
  all_goals first | exact hm.up rfl | with_reducible refine hm.pg (page_aLEG_CMP_OFF _) ?_ | with_reducible refine hm.pg (page_aLEG_CMP_ON _) ?_
  all_goals rfl

theorem touch_legPeriod (hm : Sub 0x1000000008 m) (a b n) (s : State) (hs : Touch m x s) : Touch m x (legPeriod a b n s) := by
  unfold legPeriod
  with_reducible repeat' first | apply Touch.ite_ | assumption | apply touch_putLeg | apply touch_put | apply Touch.foldl_ | apply Touch.foldl_fst | apply Touch.foldl_snd | intro _ _ _ | intro _ _ | split | dsimp only
  all_goals first | exact hm.up rfl | with_reducible refine hm.pg (page_aLEG_TRIP_CFG _) ?_ | with_reducible refine hm.pg (page_aLEG_TRIP_STAT _) ?_
  all_goals rfl

theorem touch_joinSafe (hm : Sub 0x9800000018 m) (n) (s : State) (hs : Touch m x s) : Touch m x (joinSafe n s) := by
  unfold joinSafe
  with_reducible repeat' first | apply Touch.ite_ | assumption | apply touch_forceLegs | apply touch_holdLegs | apply Touch.foldl_ | apply Touch.foldl_fst | apply Touch.foldl_snd | intro _ _ _ | intro _ _ | split | dsimp only
  all_goals first | exact hm.up rfl

theorem touch_newlyEnabled (hm : Sub 0x100B2B91C05B07E m) (o s : State) (hs : Touch m x s) : Touch m x (newlyEnabled o s) := by
  unfold newlyEnabled
  with_reducible repeat' first | apply Touch.ite_ | assumption | apply Touch.each_ | apply touch_reAct | apply touch_joinSafe | apply touch_actRouted | apply Touch.foldl_ | apply Touch.foldl_fst | apply Touch.foldl_snd | intro _ _ _ | intro _ _ | split | dsimp only
  all_goals first | exact hm.up rfl

theorem touch_membersChanged (hm : Sub 0x100B2B91C05B07E m) (s : State) (hs : Touch m x s) : Touch m x (membersChanged s) := by
  unfold membersChanged
  with_reducible repeat' first | apply Touch.ite_ | assumption | apply Touch.each_ | apply touch_refreshSum | apply touch_hintChange | apply touch_linkScan | apply Touch.foldl_ | apply Touch.foldl_fst | apply Touch.foldl_snd | intro _ _ _ | intro _ _ | split | dsimp only
  all_goals first | exact hm.up rfl

theorem touch_newlyActing (hm : Sub 0x100B2B91C05B07E m) (n) (o s : State) (hs : Touch m x s) : Touch m x (newlyActing n o s) := by
  unfold newlyActing
  with_reducible repeat' first | apply Touch.ite_ | assumption | apply Touch.each_ | apply touch_actSat

theorem touch_showNext (hm : Sub 0x4 m) (g) (s : State) (hs : Touch m x s) : Touch m x (showNext g s) := by
  unfold showNext
  with_reducible repeat' first | apply Touch.ite_ | assumption | apply touch_wr | apply Touch.foldl_ | apply Touch.foldl_fst | apply Touch.foldl_snd | intro _ _ _ | intro _ _ | split | dsimp only
  all_goals first | exact hm.up rfl | with_reducible refine hm.pg (page_aTBG_NEXT_LO _) ?_ | with_reducible refine hm.pg (page_aTBG_NEXT_HI _) ?_
  all_goals rfl

theorem touch_leaveSafe (hm : Sub 0x2A000000018 m) (m2) (s : State) (hs : Touch m x s) : Touch m x (leaveSafe m2 s) := by
  unfold leaveSafe
  with_reducible repeat' first | apply Touch.ite_ | assumption | apply touch_put | apply touch_putMg | apply touch_hintChange | apply touch_sageEvt | apply touch_raise | apply Touch.foldl_ | apply Touch.foldl_fst | apply Touch.foldl_snd | intro _ _ _ | intro _ _ | split | dsimp only
  all_goals first | exact hm.up rfl | with_reducible refine hm.pg (page_aMG_STAT _) ?_ | with_reducible refine hm.pg (page_aMG_IRQ_RAW _) ?_
  all_goals rfl

theorem touch_releaseLeg (hm : Sub 0x2B000000018 m) (b n) (s : State) (hs : Touch m x s) : Touch m x (releaseLeg b n s) := by
  unfold releaseLeg
  with_reducible repeat' first | apply Touch.ite_ | assumption | apply touch_leaveSafe | apply touch_putLeg | apply Touch.foldl_ | apply Touch.foldl_fst | apply Touch.foldl_snd | intro _ _ _ | intro _ _ | split | dsimp only
  all_goals first | exact hm.up rfl

theorem touch_groupStops (hm : Sub 0xA0991C04907E m) (g) (s : State) (hs : Touch m x s) : Touch m x (groupStops g s) := by
  unfold groupStops
  with_reducible repeat' first | apply Touch.ite_ | assumption | apply touch_putTbg | apply touch_lower | apply Touch.each_ | apply touch_armedLeg | apply touch_cancelStep | apply Touch.foldl_ | apply Touch.foldl_fst | apply Touch.foldl_snd | intro _ _ _ | intro _ _ | split | dsimp only
  all_goals first | exact hm.up rfl | with_reducible refine hm.pg (page_aTBG_STAT _) ?_
  all_goals rfl

theorem touch_endCbc (hm : Sub 0x100B2B91C05B07E m) (b n) (s : State) (hs : Touch m x s) : Touch m x (endCbc b n s) := by
  unfold endCbc
  with_reducible repeat' first | apply Touch.ite_ | assumption | apply touch_reAct | apply touch_lower | apply touch_putLeg | apply Touch.foldl_ | apply Touch.foldl_fst | apply Touch.foldl_snd | intro _ _ _ | intro _ _ | split | dsimp only
  all_goals first | exact hm.up rfl | with_reducible refine hm.pg (page_aLEG_TRIP_STAT _) ?_
  all_goals rfl

theorem touch_boundary (hm : Sub 0x100B2B91D87FFFF m) (g) (s : State) (hs : Touch m x s) : Touch m x (boundary g s) := by
  unfold boundary
  with_reducible repeat' first | apply Touch.ite_ | assumption | apply touch_putTbg | apply Touch.each_ | apply touch_legPeriod | apply touch_countPoints | apply touch_applyTaken | apply Touch.when_ | apply touch_commitDone | apply touch_cleanLegs | apply touch_hintPeriods | apply touch_refreshLoads | apply touch_newlyEnabled | apply touch_membersChanged | apply touch_newlyActing | apply touch_wr | apply touch_sealSet | apply touch_lower | apply touch_raise | apply touch_tbgIrq | apply touch_incr | apply touch_showNext | apply touch_releaseLeg | apply touch_groupStops | apply touch_reAct | apply touch_endCbc | apply Touch.foldl_ | apply Touch.foldl_fst | apply Touch.foldl_snd | intro _ _ _ | intro _ _ | split | dsimp only
  all_goals first | exact hm.up rfl | with_reducible refine hm.pg (page_aTBG_STAT _) ?_ | with_reducible refine hm.pg (page_aTBG_SET_STEP _) ?_ | with_reducible refine hm.pg (page_aTBG_PCNT _) ?_
  all_goals rfl

theorem touch_dropTbgCommit (hm : Sub 0x80040000C m) (g) (s : State) (hs : Touch m x s) : Touch m x (dropTbgCommit g s) := by
  unfold dropTbgCommit
  with_reducible repeat' first | apply Touch.ite_ | assumption | apply touch_dropCmt | apply touch_lower | apply Touch.each_ | apply touch_putTbg | apply Touch.foldl_ | apply Touch.foldl_fst | apply Touch.foldl_snd | intro _ _ _ | intro _ _ | split | dsimp only
  all_goals first | exact hm.up rfl | with_reducible refine hm.pg (page_aTBG_STAT _) ?_ | with_reducible refine hm.pg (page_aLEG_CMP_GEN _) ?_
  all_goals rfl

theorem touch_emitLeg (hm : Sub 0x900C00001E m) (k vals n) (s : State) (hs : Touch m x s) : Touch m x (emitLeg k vals n s).1 := by
  unfold emitLeg
  with_reducible repeat' first | apply Touch.ite_ | assumption | apply touch_putLeg | apply touch_putB | apply touch_lower | apply touch_incrSat | apply touch_raise | apply touch_addSat | apply Touch.each_ | apply touch_hubEdge | apply Touch.foldl_ | apply Touch.foldl_fst | apply Touch.foldl_snd | intro _ _ _ | intro _ _ | split | dsimp only
  all_goals first | exact hm.up rfl | with_reducible refine hm.pg (page_aLEG_CFG _) ?_ | with_reducible refine hm.pg (page_aLEG_TIM _) ?_ | with_reducible refine hm.pg (page_aLEG_STAT _) ?_ | with_reducible refine hm.pg (page_aLEG_BOOT _) ?_ | exact hm.pg (k := 2) rfl rfl
  all_goals rfl

theorem touch_emitSamples (hm : Sub 0x880C000002 m) (g k vals) (s : State) (hs : Touch m x s) : Touch m x (emitSamples g k vals s) := by
  unfold emitSamples
  with_reducible repeat' first | apply Touch.ite_ | assumption | apply touch_putTbg | apply Touch.each_ | apply touch_hubSample | apply Touch.foldl_ | apply Touch.foldl_fst | apply Touch.foldl_snd | intro _ _ _ | intro _ _ | split | dsimp only
  all_goals first | exact hm.up rfl

theorem touch_emitTriggers (hm : Sub 0x4000000000 m) (g k vals) (s : State) (hs : Touch m x s) : Touch m x (emitTriggers g k vals s) := by
  unfold emitTriggers
  with_reducible repeat' first | apply Touch.ite_ | assumption | apply touch_setTrgs

theorem touch_handOverruns (hm : Sub 0x100B2B9DC05B07E m) (g) (s : State) (hs : Touch m x s) : Touch m x (handOverruns g s) := by
  unfold handOverruns
  with_reducible repeat' first | apply Touch.ite_ | assumption | apply touch_overrun | apply Touch.foldl_ | apply Touch.foldl_fst | apply Touch.foldl_snd | intro _ _ _ | intro _ _ | split

theorem touch_pickSet (hm : Sub 0x800000004 m) (g) (s : State) (hs : Touch m x s) : Touch m x (pickSet g s).2 := by
  unfold pickSet
  with_reducible repeat' first | apply Touch.ite_ | assumption | apply touch_putTbg | apply touch_tbgIrq | apply touch_incrSat | apply Touch.foldl_ | apply Touch.foldl_fst | apply Touch.foldl_snd | intro _ _ _ | intro _ _ | split | dsimp only
  all_goals first | exact hm.up rfl | with_reducible refine hm.pg (page_aTBG_REPEAT_CNT _) ?_
  all_goals rfl

theorem touch_tornSet (hm : Sub 0x10002080C40200E m) (g gen legs) (s : State) (hs : Touch m x s) : Touch m x (tornSet g gen legs s) := by
  unfold tornSet
  with_reducible repeat' first | apply Touch.ite_ | assumption | apply touch_dropTbgCommit | apply touch_tbgIrq | apply touch_raise | apply touch_incrSat | apply touch_record | apply touch_sageEvt | apply Touch.foldl_ | apply Touch.foldl_fst | apply Touch.foldl_snd | intro _ _ _ | intro _ _ | split | dsimp only
  all_goals first | exact hm.up rfl | with_reducible refine hm.pg (page_aTBG_STAT _) ?_ | with_reducible refine hm.pg (page_aTBG_TORN_CNT _) ?_ | exact hm.pg (k := 2) rfl rfl
  all_goals rfl

theorem touch_judgeCommit (hm : Sub 0x10002080C40200E m) (g ks vals) (s : State) (hs : Touch m x s) : Touch m x (judgeCommit g ks vals s).2 := by
  unfold judgeCommit
  with_reducible repeat' first | apply Touch.ite_ | assumption | apply touch_tbgIrq | apply touch_raise | apply touch_putTbg | apply touch_tornSet | apply Touch.foldl_ | apply Touch.foldl_fst | apply Touch.foldl_snd | intro _ _ _ | intro _ _ | split | dsimp only
  all_goals first | exact hm.up rfl | with_reducible refine hm.pg (page_aTBG_GEN _) ?_ | with_reducible refine hm.pg (page_aTBG_STAT _) ?_
  all_goals rfl

theorem touch_shootTrips (hm : Sub 0x100B2B91C05B07E m) (n) (c) (s : State) (h : Touch m x s) : Touch m x (shootTrips n c s) := by
  induction c generalizing s with
  | zero => exact h
  | succ c ih => exact ih _ (touch_actLeg (hm.up rfl) _ _ _ _ _ _ (touch_sageEvt (hm.up rfl) _ _ _ h))

theorem touch_handOff (hm : Sub 0x100B2F9DC65B07E m) (g) (s : State) (hs : Touch m x s) : Touch m x (handOff g s) := by
  unfold handOff
  with_reducible repeat' first | apply Touch.ite_ | assumption | apply touch_handOverruns | apply touch_pickSet | apply touch_judgeCommit | apply touch_dropCmt | apply touch_setBnd | apply touch_putTbg | apply touch_emitLeg | apply touch_emitTriggers | apply touch_emitSamples | apply Touch.each_ | apply touch_shootTrips | apply Touch.foldl_ | apply Touch.foldl_fst | apply Touch.foldl_snd | intro _ _ _ | intro _ _ | split | dsimp only
  all_goals first | exact hm.up rfl

theorem touch_newlyRouted (hm : Sub 0x100B2B91C05B07E m) (o s : State) (hs : Touch m x s) : Touch m x (newlyRouted o s) := by
  unfold newlyRouted
  with_reducible repeat' first | apply Touch.ite_ | assumption | apply Touch.each_ | apply touch_actRouted

theorem touch_tbgRefuse (hm : Sub 0x4 m) (g) (s : State) (hs : Touch m x s) : Touch m x (tbgRefuse g s) := by
  unfold tbgRefuse
  with_reducible repeat' first | apply Touch.ite_ | assumption | apply touch_tbgIrq | apply touch_errSet | apply Touch.foldl_ | apply Touch.foldl_fst | apply Touch.foldl_snd | intro _ _ _ | intro _ _ | split | dsimp only
  all_goals first | exact hm.up rfl | with_reducible refine hm.pg (k := 2) (page_raw ?_) ?_ | with_reducible refine hm.pg (k := 2) (page_err ?_) ?_ | exact hm.pg (k := 2) rfl rfl

theorem touch_startGroup (hm : Sub 0x800000004 m) (g) (s : State) (hs : Touch m x s) : Touch m x (startGroup g s) := by
  unfold startGroup
  with_reducible repeat' first | apply Touch.ite_ | assumption | apply touch_tbgRefuse | apply touch_putTbg | apply touch_showNext | apply touch_raise | apply Touch.foldl_ | apply Touch.foldl_fst | apply Touch.foldl_snd | intro _ _ _ | intro _ _ | split | dsimp only
  all_goals first | exact hm.up rfl | with_reducible refine hm.pg (page_aTBG_T0_LO _) ?_ | with_reducible refine hm.pg (page_aTBG_T0_HI _) ?_ | with_reducible refine hm.pg (page_aTBG_CFG _) ?_ | with_reducible refine hm.pg (page_aTBG_STAT _) ?_
  all_goals rfl

theorem touch_stopGroup (hm : Sub 0x800000004 m) (g) (s : State) (hs : Touch m x s) : Touch m x (stopGroup g s) := by
  unfold stopGroup
  with_reducible repeat' first | apply Touch.ite_ | assumption | apply touch_tbgRefuse | apply touch_putTbg | apply Touch.foldl_ | apply Touch.foldl_fst | apply Touch.foldl_snd | intro _ _ _ | intro _ _ | split | dsimp only
  all_goals first | exact hm.up rfl

theorem touch_tbgCommitAbort (hm : Sub 0x2080040000C m) (g) (s : State) (hs : Touch m x s) : Touch m x (tbgCommitAbort g s) := by
  unfold tbgCommitAbort
  with_reducible repeat' first | apply Touch.ite_ | assumption | apply touch_tbgIrq | apply touch_errEvent | apply touch_dropTbgCommit | apply Touch.foldl_ | apply Touch.foldl_fst | apply Touch.foldl_snd | intro _ _ _ | intro _ _ | split | dsimp only
  all_goals first | exact hm.up rfl | exact hm.pg (k := 2) rfl rfl

theorem touch_tbgCommitGo (hm : Sub 0x29801C7FFFF m) (g gen) (s : State) (hs : Touch m x s) : Touch m x (tbgCommitGo g gen s) := by
  unfold tbgCommitGo
  with_reducible repeat' first | apply Touch.ite_ | assumption | apply touch_tbgIrq | apply touch_errEvent | apply touch_raise | apply touch_errSet | apply touch_lower | apply touch_applyStopped | apply touch_put | apply touch_putTbg | apply Touch.foldl_ | apply Touch.foldl_fst | apply Touch.foldl_snd | intro _ _ _ | intro _ _ | split | dsimp only
  all_goals first | exact hm.up rfl | with_reducible refine hm.pg (page_aTBG_STAT _) ?_ | with_reducible refine hm.pg (page_aTBG_GEN _) ?_ | with_reducible refine hm.pg (page_aTBG_PERIOD _) ?_ | with_reducible refine hm.pg (k := 2) (page_raw ?_) ?_ | with_reducible refine hm.pg (k := 5) (page_raw ?_) ?_ | with_reducible refine hm.pg (k := 2) (page_err ?_) ?_ | with_reducible refine hm.pg (k := 5) (page_err ?_) ?_ | exact hm.pg (k := 2) rfl rfl | exact hm.pg (k := 5) rfl rfl
  all_goals rfl

theorem touch_putStage (hm : Sub 0x20000000 m) (s : State) (r x2) (hs : Touch m x s) : Touch m x (State.putStage s r x2) := by
  unfold State.putStage
  with_reducible repeat' first | apply Touch.ite_ | assumption | apply touch_setStages

theorem touch_gridCopies (hm : Sub 0x40000 m) (k) (s : State) (hs : Touch m x s) : Touch m x (gridCopies k s) := by
  unfold gridCopies
  with_reducible repeat' first | apply Touch.ite_ | assumption | apply touch_putCw

theorem touch_admitCtx (hm : Sub 0x2081044002C m) (k) (s : State) (hs : Touch m x s) : Touch m x (admitCtx k s) := by
  unfold admitCtx
  with_reducible repeat' first | apply Touch.ite_ | assumption | apply touch_lockWord | apply touch_gridCopies | apply touch_putCtx | apply touch_putTbg | apply touch_tbgCommitAbort | apply touch_refreshLoads | apply Touch.foldl_ | apply Touch.foldl_fst | apply Touch.foldl_snd | intro _ _ _ | intro _ _ | split | dsimp only
  all_goals first | exact hm.up rfl

theorem touch_cmtRefused (hm : Sub 0x20000000000 m) {b : Block} (hb : PageIn m (hdr b)) (s : State) (hs : Touch m x s) : Touch m x (cmtRefused b s) :=
  touch_irq (page_hdr hb (by decide)) _ (touch_errEvent (hm.up rfl) hb _ _ hs)

theorem touch_ctxBndWrite (hm : Sub 0x240000 m) (k a o d) (s : State) (hs : Touch m x s) : Touch m x (ctxBndWrite k a o d s) := by
  unfold ctxBndWrite
  with_reducible repeat' first | apply Touch.ite_ | assumption | apply touch_setBnd | apply touch_putCw | apply Touch.foldl_ | apply Touch.foldl_fst | apply Touch.foldl_snd | intro _ _ _ | intro _ _ | split | dsimp only
  all_goals first | exact hm.up rfl

theorem touch_judged (hm : Sub 0x20 m) (k ok) (f : State → State) (s : State) (hf : ∀ y, Touch m x y → Touch m x (f y)) (h : Touch m x s) :
    Touch m x (judged k ok f s) := Touch.ite_ (touch_lower (by exact hm.pg (k := 5) ((page_inst _ _).trans rfl) rfl) _ (hf _ h)) (touch_ctxIrq (hm.up rfl) _ _ _ (touch_raise (by exact hm.pg (k := 5) ((page_inst _ _).trans rfl) rfl) _ h))

theorem touch_ctxRelease (hm : Sub 0x10040020 m) (k) (s : State) (hs : Touch m x s) : Touch m x (ctxRelease k s) := by
  unfold ctxRelease
  with_reducible repeat' first | apply Touch.ite_ | assumption | apply touch_putCw | apply touch_refreshLoads | apply touch_putCtx | apply Touch.foldl_ | apply Touch.foldl_fst | apply Touch.foldl_snd | intro _ _ _ | intro _ _ | split | dsimp only
  all_goals first | exact hm.up rfl

theorem touch_ctxCmd (hm : Sub 0x100B2B9DC65B07E m) (k c) (s : State) (h : Touch m x s) : Touch m x (ctxCmd k c s) := by
  unfold ctxCmd
  dsimp only
  split
  · exact touch_judged (hm.up rfl) _ _ _ _ (fun y hy => touch_admitCtx (hm.up rfl) _ _ hy) (touch_put (by exact hm.pg (k := 5) ((page_inst _ _).trans rfl) rfl) _ _ h)
  · exact touch_judged (hm.up rfl) _ _ _ _ (fun y hy => touch_startCtxAt (hm.up rfl) _ _ (touch_applyInstant (hm.up rfl) _ _ hy)) h
  · exact touch_judged (hm.up rfl) _ _ _ _ (fun y hy => touch_stopCtxAt (hm.up rfl) _ _ hy) h
  · exact touch_judged (hm.up rfl) _ _ _ _ (fun y hy => touch_ctxRelease (hm.up rfl) _ _ hy) h
  · exact touch_judged (hm.up rfl) _ _ _ _ (fun y hy => touch_ctxRelease (hm.up rfl) _ _ hy) h
  · exact touch_judged (hm.up rfl) _ _ _ _ (fun y hy => touch_putCtx (hm.up rfl) _ _ _ hy) h
  · exact touch_judged (hm.up rfl) _ _ _ _ (fun y hy => touch_instantAt (hm.up rfl) _ _ _ (touch_putCtx (hm.up rfl) _ _ _ hy)) h
  · exact touch_judged (hm.up rfl) _ _ _ _ (fun y hy => hy) h

theorem touch_ctxCmdAt (hm : Sub 0x100B2B9DE65B07E m) (r code) (s : State) (hs : Touch m x s) : Touch m x (ctxCmdAt r code s) := by
  unfold ctxCmdAt
  with_reducible repeat' first | apply Touch.ite_ | assumption | apply touch_access | apply touch_ctxCmd | apply Touch.foldl_ | apply Touch.foldl_fst | apply Touch.foldl_snd | intro _ _ _ | intro _ _ | split | dsimp only
  all_goals first | exact hm.up rfl | exact hm.pg (k := 5) rfl rfl

theorem touch_engBegins (hm : Sub 0xA0091C049062 m) (s : State) (hs : Touch m x s) : Touch m x (engBegins s) := by
  unfold engBegins
  with_reducible repeat' first | apply Touch.ite_ | assumption | apply Touch.each_ | apply touch_cancelStep

theorem touch_engReset (hm : Sub 0x8001FC041042 m) (s : State) (h : Touch m x s) : Touch m x (engReset s) := by
  have h1 := Touch.each_ (l := allCtx) (f := fun k s => if (s.ctx k).st = .run then trkHold k true (leaveRun k s) else s) h
    (fun a y hy => Touch.ite_ (touch_trkHold (hm.up rfl) _ _ _ (touch_leaveRun (hm.up rfl) _ _ hy)) hy)
  have h2 := touch_setStages (hm.up rfl) _ [] (touch_setCtxs (hm.up rfl) _ [] h1)
  have h3 := touch_setBasil (hm.up rfl) _ { s.basil with pair := none, cycles := 0, ksRun := false, rx := [] } (touch_setLanes (hm.up rfl) _ [] h2)
  unfold engReset
  exact touch_mem (hm.up rfl) (fun h => sorted_filter _ h) (touch_setBasil (hm.up rfl) _ _ (touch_setLanes (hm.up rfl) _ [] h2))

theorem touch_integWrite (hm : Sub 0x10040000 m) (k v) (s : State) (hs : Touch m x s) : Touch m x (integWrite k v s) := by
  unfold integWrite
  with_reducible repeat' first | apply Touch.ite_ | assumption | apply touch_putCtx | apply touch_setInteg | apply Touch.foldl_ | apply Touch.foldl_fst | apply Touch.foldl_snd | intro _ _ _ | intro _ _ | split | dsimp only
  all_goals first | exact hm.up rfl

theorem touch_ksDone (hm : Sub 0x80000000 m) (s : State) (hs : Touch m x s) : Touch m x (ksDone s) := by
  unfold ksDone
  with_reducible repeat' first | apply Touch.ite_ | assumption | apply touch_setBasil

theorem touch_ksReq (hm : Sub 0x8403FFFF m) (s : State) (hs : Touch m x s) : Touch m x (ksReq s) := by
  unfold ksReq
  with_reducible repeat' first | apply Touch.ite_ | assumption | apply touch_errSet | apply touch_put | apply touch_setBasil | apply touch_wardenStart | apply Touch.foldl_ | apply Touch.foldl_fst | apply Touch.foldl_snd | intro _ _ _ | intro _ _ | split | dsimp only
  all_goals first | exact hm.up rfl | with_reducible refine hm.pg (k := 5) (page_raw ?_) ?_ | with_reducible refine hm.pg (k := 5) (page_err ?_) ?_ | exact hm.pg (k := 5) rfl rfl

theorem touch_ksVerify (hm : Sub 0x2008403FFFF m) (s : State) (hs : Touch m x s) : Touch m x (ksVerify s) := by
  unfold ksVerify
  with_reducible repeat' first | apply Touch.ite_ | assumption | apply touch_irq | apply touch_setBasil | apply touch_put | apply touch_putB | apply touch_wardenRun | apply touch_sageEvt | apply touch_errSet | apply Touch.foldl_ | apply Touch.foldl_fst | apply Touch.foldl_snd | intro _ _ _ | intro _ _ | split | dsimp only
  all_goals first | exact hm.up rfl | with_reducible refine hm.pg (k := 5) (page_raw ?_) ?_ | with_reducible refine hm.pg (k := 5) (page_err ?_) ?_ | exact hm.pg (k := 5) rfl rfl

theorem touch_loadWindow (hm : Sub 0xC0080020 m) (s : State) (hs : Touch m x s) : Touch m x (loadWindow s) := by
  unfold loadWindow
  with_reducible repeat' first | apply Touch.ite_ | assumption | apply Touch.each_ | apply touch_bookLane | apply touch_reach | apply touch_setBasil | apply touch_put | apply touch_irq | apply Touch.foldl_ | apply Touch.foldl_fst | apply Touch.foldl_snd | intro _ _ _ | intro _ _ | split | dsimp only
  all_goals first | exact hm.up rfl | with_reducible refine hm.pg (k := 5) (page_raw ?_) ?_ | with_reducible refine hm.pg (k := 5) (page_err ?_) ?_ | exact hm.pg (k := 5) rfl rfl

theorem touch_paramAbort (hm : Sub 0x30000000 m) (r) (s : State) (hs : Touch m x s) : Touch m x (paramAbort r s) := by
  unfold paramAbort
  with_reducible repeat' first | apply Touch.ite_ | assumption | apply touch_putCtx | apply touch_putStage | apply Touch.foldl_ | apply Touch.foldl_fst | apply Touch.foldl_snd | intro _ _ _ | intro _ _ | split | dsimp only
  all_goals first | exact hm.up rfl

theorem touch_paramCommit (hm : Sub 0x20030040020 m) (r gen) (s : State) (hs : Touch m x s) : Touch m x (paramCommit r gen s) := by
  unfold paramCommit
  with_reducible repeat' first | apply Touch.ite_ | assumption | apply touch_applyParams | apply touch_cmtRefused | apply touch_put | apply touch_putStage | apply touch_putCtx | apply Touch.foldl_ | apply Touch.foldl_fst | apply Touch.foldl_snd | intro _ _ _ | intro _ _ | split | dsimp only
  all_goals first | exact hm.up rfl | with_reducible refine hm.pg (k := 5) ((page_inst _ _).trans ?_) ?_ | exact hm.pg (k := 5) rfl rfl
  all_goals rfl

theorem touch_stageAt (hm : Sub 0x20020000020 m) (r ofs d) (s : State) (hs : Touch m x s) : Touch m x (stageAt r ofs d s) := by
  unfold stageAt
  with_reducible repeat' first | apply Touch.ite_ | assumption | apply touch_errEvent | apply touch_ctxWrErr | apply touch_putStage | apply Touch.foldl_ | apply Touch.foldl_fst | apply Touch.foldl_snd | intro _ _ _ | intro _ _ | split | dsimp only
  all_goals first | exact hm.up rfl | exact hm.pg (k := 5) rfl rfl

theorem touch_stageWord (hm : Sub 0x20020000020 m) (r d) (s : State) (hs : Touch m x s) : Touch m x (stageWord r d s) := by
  unfold stageWord
  with_reducible repeat' first | apply Touch.ite_ | assumption | apply touch_stageAt | apply touch_put | apply Touch.foldl_ | apply Touch.foldl_fst | apply Touch.foldl_snd | intro _ _ _ | intro _ _ | split | dsimp only
  all_goals first | exact hm.up rfl | with_reducible refine hm.pg (k := 5) ((page_bank _ _).trans ?_) ?_
  all_goals rfl

theorem touch_wselWrite (hm : Sub 0x20000020 m) (r k) (s : State) (hs : Touch m x s) : Touch m x (wselWrite r k s) := by
  unfold wselWrite
  with_reducible repeat' first | apply Touch.ite_ | assumption | apply touch_errSet | apply touch_putStage | apply touch_put | apply Touch.foldl_ | apply Touch.foldl_fst | apply Touch.foldl_snd | intro _ _ _ | intro _ _ | split | dsimp only
  all_goals first | exact hm.up rfl | with_reducible refine hm.pg (k := 5) ((page_bank _ _).trans ?_) ?_ | with_reducible refine hm.pg (k := 5) (page_raw ?_) ?_ | with_reducible refine hm.pg (k := 5) (page_err ?_) ?_ | exact hm.pg (k := 5) rfl rfl
  all_goals rfl

end Sys2Proof.Laws
end

