-- ==== Sys2Proof/Laws/TouchUnits.lean ====
section
/-! SUPPORT. GIU, feedback, ADC, axes, NDL and satellites: what they may change. -/
namespace Sys2Proof.Laws
open Sys2Proof.Machine

variable {m : Nat} {x : State}

theorem touch_putGu (hm : Sub 0x100000000 m) (s : State) (u x2) (hs : Touch m x s) : Touch m x (State.putGu s u x2) := by
  unfold State.putGu
  with_reducible repeat' first | apply Touch.ite_ | assumption | apply touch_setGiu

theorem touch_pllState (hm : Sub 0x20000000040 m) (u st) (s : State) (hs : Touch m x s) : Touch m x (pllState u st s) := by
  unfold pllState
  with_reducible repeat' first | apply Touch.ite_ | assumption | apply touch_giuIrq | apply touch_put | apply touch_sageEvt | apply Touch.foldl_ | apply Touch.foldl_fst | apply Touch.foldl_snd | intro _ _ _ | intro _ _ | split | dsimp only
  all_goals first | exact hm.up rfl | with_reducible refine hm.pg (page_aGIU_PLL_STAT _) ?_
  all_goals rfl

theorem touch_seqState (hm : Sub 0x10002010C002042 m) (u st pt) (s : State) (hs : Touch m x s) : Touch m x (seqState u st pt s) := by
  unfold seqState
  with_reducible repeat' first | apply Touch.ite_ | assumption | apply touch_put | apply touch_giuIrq | apply touch_putGu | apply touch_record | apply touch_incrSat | apply touch_sageEvt | apply Touch.foldl_ | apply Touch.foldl_fst | apply Touch.foldl_snd | intro _ _ _ | intro _ _ | split | dsimp only
  all_goals first | exact hm.up rfl | with_reducible refine hm.pg (page_aGIU_RT_STAT _) ?_ | with_reducible refine hm.pg (page_aGIU_RT_TRIPS _) ?_ | with_reducible refine hm.pg (page_aGIU_ISL_CNT _) ?_ | with_reducible refine hm.pg (page_aGIU_RT_CESS _) ?_
  all_goals rfl

theorem touch_giuUnit (hm : Sub 0x10002010C002042 m) (u seqWas afdWas) (s : State) (hs : Touch m x s) : Touch m x (giuUnit u seqWas afdWas s) := by
  unfold giuUnit
  with_reducible repeat' first | apply Touch.ite_ | assumption | apply touch_pllState | apply touch_putGu | apply touch_seqState | apply Touch.foldl_ | apply Touch.foldl_fst | apply Touch.foldl_snd | intro _ _ _ | intro _ _ | split | dsimp only
  all_goals first | exact hm.up rfl

theorem touch_scanBegin (hm : Sub 0x100000040 m) (t) (s : State) (hs : Touch m x s) : Touch m x (scanBegin t s) := by
  unfold scanBegin
  with_reducible repeat' first | apply Touch.ite_ | assumption | apply touch_putTrk | apply touch_trkState | apply touch_putVref | apply Touch.foldl_ | apply Touch.foldl_fst | apply Touch.foldl_snd | intro _ _ _ | intro _ _ | split | dsimp only
  all_goals first | exact hm.up rfl

theorem touch_trackEnter (hm : Sub 0x100000040 m) (t) (s : State) (hs : Touch m x s) : Touch m x (trackEnter t s) := by
  unfold trackEnter
  with_reducible repeat' first | apply Touch.ite_ | assumption | apply touch_trkState | apply touch_putTrk | apply touch_scanBegin | apply Touch.foldl_ | apply Touch.foldl_fst | apply Touch.foldl_snd | intro _ _ _ | intro _ _ | split | dsimp only
  all_goals first | exact hm.up rfl

theorem touch_giuTracker (hm : Sub 0x100000040 m) (t scanWas) (s : State) (hs : Touch m x s) : Touch m x (giuTracker t scanWas s) := by
  unfold giuTracker
  with_reducible repeat' first | apply Touch.ite_ | assumption | apply touch_put | apply touch_trackEnter | apply touch_putVref | apply touch_trkState | apply touch_putTrk | apply Touch.foldl_ | apply Touch.foldl_fst | apply Touch.foldl_snd | intro _ _ _ | intro _ _ | split | dsimp only
  all_goals first | exact hm.up rfl | with_reducible refine hm.pg (page_aGIU_TRK_SCAN_CFG _) ?_
  all_goals rfl

theorem touch_giuConfig (hm : Sub 0x10002010C002042 m) (o s : State) (hs : Touch m x s) : Touch m x (giuConfig o s) := by
  unfold giuConfig
  with_reducible repeat' first | apply Touch.ite_ | assumption | apply Touch.each_ | apply touch_giuUnit | apply touch_giuTracker | apply Touch.foldl_ | apply Touch.foldl_fst | apply Touch.foldl_snd | intro _ _ _ | intro _ _ | split | dsimp only
  all_goals first | exact hm.up rfl

theorem touch_giuFrame (hm : Sub 0x40 m) (s : State) (hs : Touch m x s) : Touch m x (giuFrame s) := by
  unfold giuFrame
  with_reducible repeat' first | apply Touch.ite_ | assumption | apply touch_incr | apply Touch.foldl_ | apply Touch.foldl_fst | apply Touch.foldl_snd | intro _ _ _ | intro _ _ | split | dsimp only
  all_goals first | exact hm.up rfl | exact hm.pg (k := 6) rfl rfl

theorem touch_giuLog (hm : Sub 0x100000040 m) (u pos) (s : State) (hs : Touch m x s) : Touch m x (giuLog u pos s) := by
  unfold giuLog
  with_reducible repeat' first | apply Touch.ite_ | assumption | apply touch_giuErr | apply touch_wr | apply touch_put | apply touch_raise | apply touch_setGiu | apply Touch.when_ | apply touch_giuIrq | apply Touch.foldl_ | apply Touch.foldl_fst | apply Touch.foldl_snd | intro _ _ _ | intro _ _ | split | dsimp only
  all_goals first | exact hm.up rfl | with_reducible refine hm.pg (page_logAt _ _) ?_ | with_reducible refine hm.pg (page_aGIU_ISL_STAT _) ?_ | with_reducible refine hm.pg (page_aGIU_RT_STAT _) ?_ | exact hm.pg (k := 6) rfl rfl
  all_goals rfl

theorem touch_giuLogTrip (hm : Sub 0x100000000 m) (u was) (s : State) (hs : Touch m x s) : Touch m x (giuLogTrip u was s) := by
  unfold giuLogTrip
  with_reducible repeat' first | apply Touch.ite_ | assumption | apply touch_setGiu

theorem touch_giuRecords (hm : Sub 0x180000000 m) (k t) (s : State) (hs : Touch m x s) : Touch m x (giuRecords k t s) := by
  unfold giuRecords
  with_reducible repeat' first | apply Touch.ite_ | assumption | apply Touch.each_ | apply touch_sendEng | apply touch_putGu | apply Touch.foldl_ | apply Touch.foldl_fst | apply Touch.foldl_snd | intro _ _ _ | intro _ _ | split | dsimp only
  all_goals first | exact hm.up rfl

theorem touch_giuReference (hm : Sub 0x100000000 m) (u id iq) (s : State) (hs : Touch m x s) : Touch m x (giuReference u id iq s) := by
  unfold giuReference
  with_reducible repeat' first | apply Touch.ite_ | assumption | apply touch_putGu

theorem touch_islCycle (hm : Sub 0x20100000040 m) (u f) (s : State) (hs : Touch m x s) : Touch m x (islCycle u f s) := by
  unfold islCycle
  with_reducible repeat' first | apply Touch.ite_ | assumption | apply touch_putGu | apply touch_sageEvt | apply touch_giuErr | apply Touch.foldl_ | apply Touch.foldl_fst | apply Touch.foldl_snd | intro _ _ _ | intro _ _ | split | dsimp only
  all_goals first | exact hm.up rfl

theorem touch_islStep (hm : Sub 0x100000040 m) (u h) (s : State) (hs : Touch m x s) : Touch m x (islStep u h s).1 := by
  unfold islStep
  with_reducible repeat' first | apply Touch.ite_ | assumption | apply touch_putGu | apply touch_put | apply touch_putB | apply touch_wr | apply Touch.foldl_ | apply Touch.foldl_fst | apply Touch.foldl_snd | intro _ _ _ | intro _ _ | split | dsimp only
  all_goals first | exact hm.up rfl | with_reducible refine hm.pg (page_aGIU_ISL_STAT _) ?_ | with_reducible refine hm.pg (page_aGIU_RT_STAT _) ?_ | with_reducible refine hm.pg (page_aGIU_RT_CFG _) ?_ | with_reducible refine hm.pg (page_aGIU_ISL_FIRST _) ?_ | with_reducible refine hm.pg (page_aGIU_ISL_TRIPT _) ?_
  all_goals rfl

theorem touch_mpptStep (hm : Sub 0x100080040 m) (t) (s : State) (hs : Touch m x s) : Touch m x (mpptStep t s) := by
  unfold mpptStep
  with_reducible repeat' first | apply Touch.ite_ | assumption | apply touch_reach | apply touch_putTrk | apply touch_wr | apply touch_putVref | apply Touch.foldl_ | apply Touch.foldl_fst | apply Touch.foldl_snd | intro _ _ _ | intro _ _ | split | dsimp only
  all_goals first | exact hm.up rfl | with_reducible refine hm.pg (page_aGIU_TRK_STAT _) ?_ | with_reducible refine hm.pg (page_aGIU_TRK_CFG _) ?_ | with_reducible refine hm.pg (page_aGIU_TRK_VMIN _) ?_ | with_reducible refine hm.pg (page_aGIU_TRK_VMAX _) ?_ | with_reducible refine hm.pg (page_aGIU_TRK_STEPMIN _) ?_ | with_reducible refine hm.pg (page_aGIU_TRK_STEPMAX _) ?_ | with_reducible refine hm.pg (page_aGIU_TRK_KSTEP _) ?_ | with_reducible refine hm.pg (page_aGIU_TRK_GEPS _) ?_ | with_reducible refine hm.pg (page_aGIU_TRK_VREF _) ?_ | with_reducible refine hm.pg (page_aGIU_TRK_PWR _) ?_
  all_goals rfl

theorem touch_pllAsks (hm : Sub 0x100080000 m) (ain) (s : State) (hs : Touch m x s) : Touch m x (pllAsks ain s) := by
  unfold pllAsks
  with_reducible repeat' first | apply Touch.ite_ | assumption | apply touch_reach | apply touch_putGu | apply Touch.foldl_ | apply Touch.foldl_fst | apply Touch.foldl_snd | intro _ _ _ | intro _ _ | split | dsimp only
  all_goals first | exact hm.up rfl

theorem touch_seqStep (hm : Sub 0x10002010C002042 m) (u h o isl) (s : State) (hs : Touch m x s) : Touch m x (seqStep u h o isl s) := by
  unfold seqStep
  with_reducible repeat' first | apply Touch.ite_ | assumption | apply touch_putGu | apply touch_seqState | apply touch_incrSat | apply Touch.foldl_ | apply Touch.foldl_fst | apply Touch.foldl_snd | intro _ _ _ | intro _ _ | split | dsimp only
  all_goals first | exact hm.up rfl | with_reducible refine hm.pg (page_aGIU_RT_CFG _) ?_ | with_reducible refine hm.pg (page_aGIU_PLL_STAT _) ?_ | with_reducible refine hm.pg (page_aGIU_RT_STAT _) ?_ | with_reducible refine hm.pg (page_aGIU_RT_RCT _) ?_ | with_reducible refine hm.pg (page_aGIU_ISL_CNT _) ?_
  all_goals rfl

theorem touch_pllRun (hm : Sub 0x10002010C082042 m) (u raw) (s : State) (hs : Touch m x s) : Touch m x (pllRun u raw s) := by
  unfold pllRun
  with_reducible repeat' first | apply Touch.ite_ | assumption | apply touch_reach | apply touch_putGu | apply touch_giuErr | apply touch_incrSat | apply touch_wr | apply Touch.each_ | apply touch_pllState | apply touch_islCycle | apply touch_islStep | apply touch_giuLogTrip | apply touch_seqStep | apply touch_giuLog | apply Touch.foldl_ | apply Touch.foldl_fst | apply Touch.foldl_snd | intro _ _ _ | intro _ _ | split | dsimp only
  all_goals first | exact hm.up rfl | with_reducible refine hm.pg (page_aGIU_PLL_STAT _) ?_ | with_reducible refine hm.pg (page_aGIU_PLL_CFG _) ?_ | with_reducible refine hm.pg (page_aGIU_PLL_AIN _) ?_ | with_reducible refine hm.pg (page_aGIU_PLL_MISS _) ?_ | with_reducible refine hm.pg (page_aGIU_PLL_FREQ _) ?_ | with_reducible refine hm.pg (page_aGIU_PLL_VPOS _) ?_ | with_reducible refine hm.pg (page_aGIU_PLL_VNEG _) ?_ | with_reducible refine hm.pg (page_aGIU_PLL_VPH _ _) ?_
  all_goals rfl

theorem touch_rtAck (hm : Sub 0x10002010C002042 m) (u) (s : State) (hs : Touch m x s) : Touch m x (rtAck u s) := by
  unfold rtAck
  with_reducible repeat' first | apply Touch.ite_ | assumption | apply touch_seqState

theorem touch_scanDwell (hm : Sub 0x100080040 m) (t) (s : State) (hs : Touch m x s) : Touch m x (scanDwell t s) := by
  unfold scanDwell
  with_reducible repeat' first | apply Touch.ite_ | assumption | apply touch_reach | apply touch_putTrk | apply touch_putVref | apply touch_incr | apply touch_trackEnter | apply touch_giuIrq | apply touch_lower | apply Touch.foldl_ | apply Touch.foldl_fst | apply Touch.foldl_snd | intro _ _ _ | intro _ _ | split | dsimp only
  all_goals first | exact hm.up rfl | with_reducible refine hm.pg (page_aGIU_TRK_STAT _) ?_ | with_reducible refine hm.pg (page_aGIU_TRK_PWR _) ?_ | with_reducible refine hm.pg (page_aGIU_TRK_CFG _) ?_ | with_reducible refine hm.pg (page_aGIU_TRK_JUMP _) ?_ | with_reducible refine hm.pg (page_aGIU_TRK_SCAN _) ?_
  all_goals rfl

theorem touch_scanRequest (hm : Sub 0x100000040 m) (t) (s : State) (hs : Touch m x s) : Touch m x (scanRequest t s) := by
  unfold scanRequest
  with_reducible repeat' first | apply Touch.ite_ | assumption | apply touch_scanBegin | apply touch_putTrk | apply Touch.foldl_ | apply Touch.foldl_fst | apply Touch.foldl_snd | intro _ _ _ | intro _ _ | split | dsimp only
  all_goals first | exact hm.up rfl

theorem touch_scanPeriod (hm : Sub 0x100080040 m) (t) (s : State) (hs : Touch m x s) : Touch m x (scanPeriod t s) := by
  unfold scanPeriod
  with_reducible repeat' first | apply Touch.ite_ | assumption | apply touch_reach | apply touch_scanRequest | apply touch_putTrk | apply Touch.foldl_ | apply Touch.foldl_fst | apply Touch.foldl_snd | intro _ _ _ | intro _ _ | split | dsimp only
  all_goals first | exact hm.up rfl

theorem touch_trackerItem (hm : Sub 0x100000040 m) (t v i olim safe run) (s : State) (hs : Touch m x s) : Touch m x (trackerItem t v i olim safe run s) := by
  unfold trackerItem
  with_reducible repeat' first | apply Touch.ite_ | assumption | apply touch_trkFreeze | apply touch_trackEnter | apply touch_putVref | apply touch_putTrk | apply Touch.foldl_ | apply Touch.foldl_fst | apply Touch.foldl_snd | intro _ _ _ | intro _ _ | split | dsimp only
  all_goals first | exact hm.up rfl

theorem touch_capSpeed (hm : Sub 0x100000 m) (s : State) (c t) (hs : Touch m x s) : Touch m x (State.capSpeed s c t).2 := by
  unfold State.capSpeed
  with_reducible repeat' first | apply Touch.ite_ | assumption | apply touch_freeWord | apply Touch.foldl_ | apply Touch.foldl_fst | apply Touch.foldl_snd | intro _ _ _ | intro _ _ | split | dsimp only

theorem touch_putEmu (hm : Sub 0x10000000000000 m) (s : State) (e x2) (hs : Touch m x s) : Touch m x (State.putEmu s e x2) := by
  unfold State.putEmu
  with_reducible repeat' first | apply Touch.ite_ | assumption | apply touch_setEmus

theorem touch_putFb (hm : Sub 0x4000000000000 m) (s : State) (c x2) (hs : Touch m x s) : Touch m x (State.putFb s c x2) := by
  unfold State.putFb
  with_reducible repeat' first | apply Touch.ite_ | assumption | apply touch_setFbs

theorem touch_putRes (hm : Sub 0x8000000000000 m) (s : State) (n x2) (hs : Touch m x s) : Touch m x (State.putRes s n x2) := by
  unfold State.putRes
  with_reducible repeat' first | apply Touch.ite_ | assumption | apply touch_setRess

theorem touch_fbCapture (hm : Sub 0x4000000100100 m) (c t) (s : State) (hs : Touch m x s) : Touch m x (fbCapture c t s) := by
  unfold fbCapture
  with_reducible repeat' first | apply Touch.ite_ | assumption | apply touch_capSpeed | apply touch_putFb | apply touch_wr | apply Touch.foldl_ | apply Touch.foldl_fst | apply Touch.foldl_snd | intro _ _ _ | intro _ _ | split | dsimp only
  all_goals first | exact hm.up rfl | with_reducible refine hm.pg (page_aFB_CAP_POS _) ?_ | with_reducible refine hm.pg (page_aFB_POS _) ?_ | with_reducible refine hm.pg (page_aFB_CAP_SPD _) ?_ | with_reducible refine hm.pg (page_aFB_CAP_TIME _) ?_
  all_goals rfl

theorem touch_resCapture (hm : Sub 0x100 m) (n t) (s : State) (hs : Touch m x s) : Touch m x (resCapture n t s) := by
  unfold resCapture
  with_reducible repeat' first | apply Touch.ite_ | assumption | apply touch_wr | apply Touch.foldl_ | apply Touch.foldl_fst | apply Touch.foldl_snd | intro _ _ _ | intro _ _ | split | dsimp only
  all_goals first | exact hm.up rfl | with_reducible refine hm.pg (page_aFB_RES_CAP_POS _) ?_ | with_reducible refine hm.pg (page_aFB_RES_POS _) ?_ | with_reducible refine hm.pg (page_aFB_RES_CAP_SPD _) ?_ | with_reducible refine hm.pg (page_aFB_RES_CAP_TIME _) ?_
  all_goals rfl

theorem touch_capture (hm : Sub 0x4000000100100 m) (i t) (s : State) (hs : Touch m x s) : Touch m x (capture i t s) := by
  unfold capture
  with_reducible repeat' first | apply Touch.ite_ | assumption | apply touch_fbCapture | apply touch_resCapture | apply Touch.foldl_ | apply Touch.foldl_fst | apply Touch.foldl_snd | intro _ _ _ | intro _ _ | split | dsimp only
  all_goals first | exact hm.up rfl

theorem touch_fbIrq (hm : Sub 0x100 m) (i) (s : State) (hs : Touch m x s) : Touch m x (fbIrq i s) := by
  unfold fbIrq
  with_reducible repeat' first | apply Touch.ite_ | assumption | apply touch_irq | apply Touch.foldl_ | apply Touch.foldl_fst | apply Touch.foldl_snd | intro _ _ _ | intro _ _ | split | dsimp only
  all_goals first | exact hm.up rfl | with_reducible refine hm.pg (k := 8) (page_raw ?_) ?_ | with_reducible refine hm.pg (k := 8) (page_err ?_) ?_ | exact hm.pg (k := 8) rfl rfl

theorem touch_fbErr (hm : Sub 0x100 m) (i) (s : State) (hs : Touch m x s) : Touch m x (fbErr i s) := by
  unfold fbErr
  with_reducible repeat' first | apply Touch.ite_ | assumption | apply touch_errSet | apply Touch.foldl_ | apply Touch.foldl_fst | apply Touch.foldl_snd | intro _ _ _ | intro _ _ | split | dsimp only
  all_goals first | exact hm.up rfl | with_reducible refine hm.pg (k := 8) (page_raw ?_) ?_ | with_reducible refine hm.pg (k := 8) (page_err ?_) ?_ | exact hm.pg (k := 8) rfl rfl

theorem touch_emuBacklog (hm : Sub 0x100 m) (e n) (s : State) (hs : Touch m x s) : Touch m x (emuBacklog e n s) := by
  unfold emuBacklog
  with_reducible repeat' first | apply Touch.ite_ | assumption | apply touch_put | apply touch_fbIrq | apply touch_fbErr | apply touch_addSat | apply Touch.foldl_ | apply Touch.foldl_fst | apply Touch.foldl_snd | intro _ _ _ | intro _ _ | split | dsimp only
  all_goals first | exact hm.up rfl | with_reducible refine hm.pg (page_aFB_EMU_BACKLOG _) ?_ | with_reducible refine hm.pg (page_aFB_EMU_LOSS _) ?_
  all_goals rfl

theorem touch_emuEdge (hm : Sub 0x10000000080100 m) (e) (s : State) (hs : Touch m x s) : Touch m x (emuEdge e s) := by
  unfold emuEdge
  with_reducible repeat' first | apply Touch.ite_ | assumption | apply touch_reach | apply touch_put | apply touch_putEmu | apply Touch.foldl_ | apply Touch.foldl_fst | apply Touch.foldl_snd | intro _ _ _ | intro _ _ | split | dsimp only
  all_goals first | exact hm.up rfl | with_reducible refine hm.pg (page_aFB_EMU_BACKLOG _) ?_ | with_reducible refine hm.pg (page_aFB_EMU_CFG _) ?_ | with_reducible refine hm.pg (page_aFB_EMU_POS _) ?_
  all_goals rfl

theorem touch_emuFeed (hm : Sub 0x10000000000100 m) (src) (s : State) (hs : Touch m x s) : Touch m x (emuFeed src s) := by
  unfold emuFeed
  with_reducible repeat' first | apply Touch.ite_ | assumption | apply Touch.each_ | apply touch_putEmu | apply touch_emuBacklog | apply Touch.foldl_ | apply Touch.foldl_fst | apply Touch.foldl_snd | intro _ _ _ | intro _ _ | split | dsimp only
  all_goals first | exact hm.up rfl

theorem touch_fbBad (hm : Sub 0x100 m) {f : Fld} (hf : PageIn m f.addr) (c) (s : State) (hs : Touch m x s) : Touch m x (fbBad c f s) :=
  touch_fbIrq (hm.up rfl) _ _ (touch_fbErr (hm.up rfl) _ _ (touch_incrSat (by exact hm.pg (page_aFB_STAT _) rfl) _ (touch_raise hf _ hs)))

theorem touch_putPos (hm : Sub 0x10000000000100 m) (c p) (s : State) (hs : Touch m x s) : Touch m x (putPos c p s) := by
  unfold putPos
  with_reducible repeat' first | apply Touch.ite_ | assumption | apply touch_emuFeed | apply touch_put | apply Touch.foldl_ | apply Touch.foldl_fst | apply Touch.foldl_snd | intro _ _ _ | intro _ _ | split | dsimp only
  all_goals first | exact hm.up rfl | with_reducible refine hm.pg (page_aFB_POS _) ?_
  all_goals rfl

theorem touch_fbCount (hm : Sub 0x14000000000100 m) (c t fwd) (s : State) (hs : Touch m x s) : Touch m x (fbCount c t fwd s) := by
  unfold fbCount
  with_reducible repeat' first | apply Touch.ite_ | assumption | apply touch_putFb | apply touch_wr | apply touch_putB | apply touch_putPos | apply Touch.foldl_ | apply Touch.foldl_fst | apply Touch.foldl_snd | intro _ _ _ | intro _ _ | split | dsimp only
  all_goals first | exact hm.up rfl | with_reducible refine hm.pg (page_aFB_CFG _) ?_ | with_reducible refine hm.pg (page_aFB_STAT _) ?_ | with_reducible refine hm.pg (page_aFB_EDGE_TIME _) ?_
  all_goals rfl

theorem touch_indexEvent (hm : Sub 0x10000000000100 m) (c t) (s : State) (hs : Touch m x s) : Touch m x (indexEvent c t s) := by
  unfold indexEvent
  with_reducible repeat' first | apply Touch.ite_ | assumption | apply touch_incr | apply touch_wr | apply touch_fbIrq | apply touch_putPos | apply touch_raise | apply touch_lower | apply Touch.foldl_ | apply Touch.foldl_fst | apply Touch.foldl_snd | intro _ _ _ | intro _ _ | split | dsimp only
  all_goals first | exact hm.up rfl | with_reducible refine hm.pg (page_aFB_IDX_LATCH _) ?_ | with_reducible refine hm.pg (page_aFB_POS _) ?_ | with_reducible refine hm.pg (page_aFB_STAT _) ?_
  all_goals rfl

theorem touch_encoderEdge (hm : Sub 0x14000000000100 m) (c a b z t) (s : State) (hs : Touch m x s) : Touch m x (encoderEdge c a b z t s) := by
  unfold encoderEdge
  with_reducible repeat' first | apply Touch.ite_ | assumption | apply touch_putFb | apply touch_fbBad | apply touch_fbCount | apply touch_put | apply touch_indexEvent | apply Touch.foldl_ | apply Touch.foldl_fst | apply Touch.foldl_snd | intro _ _ _ | intro _ _ | split | dsimp only
  all_goals first | exact hm.up rfl | with_reducible refine hm.pg (page_aFB_CFG _) ?_ | with_reducible refine hm.pg (page_aFB_STAT _) ?_
  all_goals rfl

theorem touch_resShow (hm : Sub 0x10000000000100 m) (n) (s : State) (hs : Touch m x s) : Touch m x (resShow n s) := by
  unfold resShow
  with_reducible repeat' first | apply Touch.ite_ | assumption | apply touch_wr | apply touch_emuFeed | apply touch_put | apply Touch.foldl_ | apply Touch.foldl_fst | apply Touch.foldl_snd | intro _ _ _ | intro _ _ | split | dsimp only
  all_goals first | exact hm.up rfl | with_reducible refine hm.pg (page_aFB_RES_SPD _) ?_ | with_reducible refine hm.pg (page_aFB_RES_POS _) ?_
  all_goals rfl

theorem touch_envelope (hm : Sub 0x18000000000100 m) (n v) (s : State) (hs : Touch m x s) : Touch m x (envelope n v s) := by
  unfold envelope
  with_reducible repeat' first | apply Touch.ite_ | assumption | apply touch_lower | apply touch_putRes | apply touch_fbIrq | apply touch_fbErr | apply touch_incrSat | apply touch_raise | apply touch_resShow | apply Touch.foldl_ | apply Touch.foldl_fst | apply Touch.foldl_snd | intro _ _ _ | intro _ _ | split | dsimp only
  all_goals first | exact hm.up rfl | with_reducible refine hm.pg (page_aFB_RES_CFG _) ?_ | with_reducible refine hm.pg (page_aFB_RES_STAT _) ?_
  all_goals rfl

theorem touch_fbArm (hm : Sub 0x4000000000100 m) (c) (s : State) (hs : Touch m x s) : Touch m x (fbArm c s) := by
  unfold fbArm
  with_reducible repeat' first | apply Touch.ite_ | assumption | apply touch_raise | apply touch_putFb | apply Touch.foldl_ | apply Touch.foldl_fst | apply Touch.foldl_snd | intro _ _ _ | intro _ _ | split | dsimp only
  all_goals first | exact hm.up rfl | with_reducible refine hm.pg (page_aFB_STAT _) ?_
  all_goals rfl

theorem touch_fbClr (hm : Sub 0x100 m) (c) (s : State) (hs : Touch m x s) : Touch m x (fbClr c s) := by
  unfold fbClr
  with_reducible repeat' first | apply Touch.ite_ | assumption | apply touch_lower | apply Touch.foldl_ | apply Touch.foldl_fst | apply Touch.foldl_snd | intro _ _ _ | intro _ _ | split | dsimp only
  all_goals first | exact hm.up rfl | with_reducible refine hm.pg (page_aFB_STAT _) ?_
  all_goals rfl

theorem touch_fbPreset (hm : Sub 0x10000000000100 m) (c) (s : State) (hs : Touch m x s) : Touch m x (fbPreset c s) := by
  unfold fbPreset
  with_reducible repeat' first | apply Touch.ite_ | assumption | apply touch_putPos

theorem touch_fbCmd (hm : Sub 0x14000000000100 m) (c d) (s : State) (hs : Touch m x s) : Touch m x (fbCmd c d s) := by
  unfold fbCmd
  with_reducible repeat' first | apply Touch.ite_ | assumption | apply Touch.when_ | apply touch_fbClr | apply touch_fbPreset | apply touch_fbArm | apply Touch.foldl_ | apply Touch.foldl_fst | apply Touch.foldl_snd | intro _ _ _ | intro _ _ | split | dsimp only
  all_goals first | exact hm.up rfl

theorem touch_fbiConfig (hm : Sub 0x1C000000000100 m) (o s : State) (hs : Touch m x s) : Touch m x (fbiConfig o s) := by
  unfold fbiConfig
  with_reducible repeat' first | apply Touch.ite_ | assumption | apply Touch.each_ | apply touch_putPos | apply touch_putFb | apply touch_putRes | apply touch_putEmu | apply Touch.foldl_ | apply Touch.foldl_fst | apply Touch.foldl_snd | intro _ _ _ | intro _ _ | split | dsimp only
  all_goals first | exact hm.up rfl

theorem touch_fbiPeriod (hm : Sub 0x4000000100100 m) (g t) (s : State) (hs : Touch m x s) : Touch m x (fbiPeriod g t s) := by
  unfold fbiPeriod
  with_reducible repeat' first | apply Touch.ite_ | assumption | apply Touch.each_ | apply touch_fbCapture | apply touch_resCapture | apply Touch.foldl_ | apply Touch.foldl_fst | apply Touch.foldl_snd | intro _ _ _ | intro _ _ | split | dsimp only
  all_goals first | exact hm.up rfl

theorem touch_fbiRecords (hm : Sub 0x4000080100100 m) (k t) (s : State) (hs : Touch m x s) : Touch m x (fbiRecords k t s) := by
  unfold fbiRecords
  with_reducible repeat' first | apply Touch.ite_ | assumption | apply Touch.each_ | apply touch_capture | apply touch_sendEng | apply Touch.foldl_ | apply Touch.foldl_fst | apply Touch.foldl_snd | intro _ _ _ | intro _ _ | split | dsimp only
  all_goals first | exact hm.up rfl

theorem touch_fbiReset (hm : Sub 0x1C000000000000 m) (s : State) (hs : Touch m x s) : Touch m x (fbiReset s) := by
  unfold fbiReset
  with_reducible repeat' first | apply Touch.ite_ | assumption | apply touch_setEmus | apply touch_setRess | apply touch_setFbs | apply Touch.foldl_ | apply Touch.foldl_fst | apply Touch.foldl_snd | intro _ _ _ | intro _ _ | split | dsimp only
  all_goals first | exact hm.up rfl

theorem touch_boundaryAt (hm : Sub 0x100B2F9DDEFFFFF m) (g) (s : State) (hs : Touch m x s) : Touch m x (boundaryAt g s) := by
  unfold boundaryAt
  with_reducible repeat' first | apply Touch.ite_ | assumption | apply touch_reach | apply touch_boundary | apply touch_handOff | apply Touch.foldl_ | apply Touch.foldl_fst | apply Touch.foldl_snd | intro _ _ _ | intro _ _ | split | dsimp only
  all_goals first | exact hm.up rfl

theorem touch_krnWrite (hm : Sub 0xC m) (n) (s : State) (hs : Touch m x s) : Touch m x (krnWrite n s) := by
  unfold krnWrite
  with_reducible repeat' first | apply Touch.ite_ | assumption | apply touch_errSet | apply touch_raise | apply Touch.foldl_ | apply Touch.foldl_fst | apply Touch.foldl_snd | intro _ _ _ | intro _ _ | split | dsimp only
  all_goals first | exact hm.up rfl | with_reducible refine hm.pg (page_aLEG_STAT _) ?_ | with_reducible refine hm.pg (k := 2) (page_raw ?_) ?_ | with_reducible refine hm.pg (k := 3) (page_raw ?_) ?_ | with_reducible refine hm.pg (k := 2) (page_err ?_) ?_ | with_reducible refine hm.pg (k := 3) (page_err ?_) ?_ | exact hm.pg (k := 2) rfl rfl
  all_goals rfl

theorem touch_markRewritten (hm : Sub 0x1000000000 m) (n) (s : State) (hs : Touch m x s) : Touch m x (markRewritten n s) := by
  unfold markRewritten
  with_reducible repeat' first | apply Touch.ite_ | assumption | apply touch_putLeg

theorem touch_cmpGen (hm : Sub 0x100000000C m) (n gen) (s : State) (hs : Touch m x s) : Touch m x (cmpGen n gen s) := by
  unfold cmpGen
  with_reducible repeat' first | apply Touch.ite_ | assumption | apply touch_krnWrite | apply touch_markRewritten | apply touch_lower | apply touch_raise | apply touch_put | apply Touch.foldl_ | apply Touch.foldl_fst | apply Touch.foldl_snd | intro _ _ _ | intro _ _ | split | dsimp only
  all_goals first | exact hm.up rfl | with_reducible refine hm.pg (page_aLEG_CMP_GEN _) ?_
  all_goals rfl

theorem touch_cmpWrite (hm : Sub 0x1000E3FFFF m) (n a v) (s : State) (hs : Touch m x s) : Touch m x (cmpWrite n a v s) := by
  unfold cmpWrite
  with_reducible repeat' first | apply Touch.ite_ | assumption | apply touch_krnWrite | apply touch_poke | apply touch_setCmt | apply touch_markRewritten | apply touch_lower | apply touch_raise | apply touch_setBnd | apply touch_byKern | apply Touch.foldl_ | apply Touch.foldl_fst | apply Touch.foldl_snd | intro _ _ _ | intro _ _ | split | dsimp only
  all_goals first | exact hm.up rfl | with_reducible refine hm.pg (page_aLEG_CMP_GEN _) ?_
  all_goals rfl

theorem touch_handFirst (hm : Sub 0x100B2F9DC65B07E m) (a) (s : State) (hs : Touch m x s) : Touch m x (handFirst a s) := by
  unfold handFirst
  with_reducible repeat' first | apply Touch.ite_ | assumption | apply Touch.when_ | apply touch_handOff | apply Touch.foldl_ | apply Touch.foldl_fst | apply Touch.foldl_snd | intro _ _ _ | intro _ _ | split

theorem touch_handOffAt (hm : Sub 0x100B2F9DC6DB07E m) (g) (s : State) (hs : Touch m x s) : Touch m x (handOffAt g s) := by
  unfold handOffAt
  with_reducible repeat' first | apply Touch.ite_ | assumption | apply touch_handOff | apply touch_reach | apply Touch.foldl_ | apply Touch.foldl_fst | apply Touch.foldl_snd | intro _ _ _ | intro _ _ | split | dsimp only
  all_goals first | exact hm.up rfl

theorem touch_latchNow (hm : Sub 0x2000004 m) (r) (s : State) (hs : Touch m x s) : Touch m x (latchNow r s) := by
  unfold latchNow
  with_reducible repeat' first | apply Touch.ite_ | assumption | apply touch_wr | apply touch_busOk | apply Touch.foldl_ | apply Touch.foldl_fst | apply Touch.foldl_snd | intro _ _ _ | intro _ _ | split | dsimp only
  all_goals first | exact hm.up rfl | with_reducible refine hm.pg (k := 2) ((page_bank _ _).trans ?_) ?_
  all_goals rfl

theorem touch_armLeg (hm : Sub 0x900000001C m) (n) (s : State) (hs : Touch m x s) : Touch m x (armLeg n s) := by
  unfold armLeg
  with_reducible repeat' first | apply Touch.ite_ | assumption | apply touch_raise | apply touch_armedLeg | apply Touch.foldl_ | apply Touch.foldl_fst | apply Touch.foldl_snd | intro _ _ _ | intro _ _ | split | dsimp only
  all_goals first | exact hm.up rfl | with_reducible refine hm.pg (page_aLEG_TRIP_STAT _) ?_
  all_goals rfl

theorem touch_armMg (hm : Sub 0x8 m) (m2) (s : State) (hs : Touch m x s) : Touch m x (armMg m2 s) := by
  unfold armMg
  with_reducible repeat' first | apply Touch.ite_ | assumption | apply touch_raise | apply Touch.foldl_ | apply Touch.foldl_fst | apply Touch.foldl_snd | intro _ _ _ | intro _ _ | split | dsimp only
  all_goals first | exact hm.up rfl | with_reducible refine hm.pg (page_aMG_TRIP_STAT _) ?_
  all_goals rfl

theorem touch_releaseAt (hm : Sub 0x9000000000 m) (ls dly) (s : State) (hs : Touch m x s) : Touch m x (releaseAt ls dly s) := by
  unfold releaseAt
  with_reducible repeat' first | apply Touch.ite_ | assumption | apply Touch.each_ | apply touch_putLeg | apply touch_forceLegs | apply Touch.foldl_ | apply Touch.foldl_fst | apply Touch.foldl_snd | intro _ _ _ | intro _ _ | split | dsimp only
  all_goals first | exact hm.up rfl

theorem touch_releaseStopped (hm : Sub 0x9000000008 m) (n) (s : State) (hs : Touch m x s) : Touch m x (releaseStopped n s) := by
  unfold releaseStopped
  with_reducible repeat' first | apply Touch.ite_ | assumption | apply touch_putLeg | apply touch_lower | apply touch_forceLegs | apply Touch.foldl_ | apply Touch.foldl_fst | apply Touch.foldl_snd | intro _ _ _ | intro _ _ | split | dsimp only
  all_goals first | exact hm.up rfl | with_reducible refine hm.pg (page_aLEG_STAT _) ?_
  all_goals rfl

theorem touch_safeAccept (hm : Sub 0x8 m) (m2) (s : State) (hs : Touch m x s) : Touch m x (safeAccept m2 s) := by
  unfold safeAccept
  with_reducible repeat' first | apply Touch.ite_ | assumption | apply touch_lower | apply Touch.foldl_ | apply Touch.foldl_fst | apply Touch.foldl_snd | intro _ _ _ | intro _ _ | split | dsimp only
  all_goals first | exact hm.up rfl | with_reducible refine hm.pg (page_aMG_TRIP_STAT _) ?_
  all_goals rfl

theorem touch_softPulseOff (hm : Sub 0x100B2B91C05B07A m) (m2) (s : State) (hs : Touch m x s) : Touch m x (softPulseOff m2 s) := by
  unfold softPulseOff
  with_reducible repeat' first | apply Touch.ite_ | assumption | apply touch_applyRequest | apply touch_safeAccept | apply Touch.foldl_ | apply Touch.foldl_fst | apply Touch.foldl_snd | intro _ _ _ | intro _ _ | split | dsimp only
  all_goals first | exact hm.up rfl

theorem touch_safeRefuse (hm : Sub 0x8 m) (m2) (s : State) (hs : Touch m x s) : Touch m x (safeRefuse m2 s) := by
  unfold safeRefuse
  with_reducible repeat' first | apply Touch.ite_ | assumption | apply touch_raise | apply Touch.foldl_ | apply Touch.foldl_fst | apply Touch.foldl_snd | intro _ _ _ | intro _ _ | split | dsimp only
  all_goals first | exact hm.up rfl | with_reducible refine hm.pg (page_aMG_TRIP_STAT _) ?_ | with_reducible refine hm.pg (page_aMG_IRQ_RAW _) ?_
  all_goals rfl

theorem touch_softAsc (hm : Sub 0x100B2B91C05B07A m) (m2) (s : State) (hs : Touch m x s) : Touch m x (softAsc m2 s) := by
  unfold softAsc
  with_reducible repeat' first | apply Touch.ite_ | assumption | apply touch_safeRefuse | apply touch_applyRequest | apply touch_safeAccept | apply Touch.foldl_ | apply Touch.foldl_fst | apply Touch.foldl_snd | intro _ _ _ | intro _ _ | split | dsimp only
  all_goals first | exact hm.up rfl

theorem touch_startDischarge (hm : Sub 0x100B2B91C04B07A m) (m2 mode code) (s : State) (hs : Touch m x s) : Touch m x (startDischarge m2 mode code s) := by
  unfold startDischarge
  with_reducible repeat' first | apply Touch.ite_ | assumption | apply touch_putMg | apply touch_forceLegs | apply touch_holdLegs | apply touch_releaseAt | apply touch_entryMarks | apply Touch.each_ | apply touch_cancelStep | apply touch_put | apply touch_setDiss | apply touch_hintChange | apply Touch.foldl_ | apply Touch.foldl_fst | apply Touch.foldl_snd | intro _ _ _ | intro _ _ | split | dsimp only
  all_goals first | exact hm.up rfl | with_reducible refine hm.pg (page_aSAGE_DIS_CFG _) ?_ | with_reducible refine hm.pg (page_aSAGE_DIS_STAT _) ?_
  all_goals rfl

theorem touch_softDischarge (hm : Sub 0x100B2B91C04B07A m) (m2 mode) (s : State) (hs : Touch m x s) : Touch m x (softDischarge m2 mode s) := by
  unfold softDischarge
  with_reducible repeat' first | apply Touch.ite_ | assumption | apply touch_safeRefuse | apply touch_startDischarge | apply touch_safeAccept | apply Touch.foldl_ | apply Touch.foldl_fst | apply Touch.foldl_snd | intro _ _ _ | intro _ _ | split | dsimp only
  all_goals first | exact hm.up rfl

theorem touch_softRelease (hm : Sub 0x2B000000018 m) (m2) (s : State) (hs : Touch m x s) : Touch m x (softRelease m2 s) := by
  unfold softRelease
  with_reducible repeat' first | apply Touch.ite_ | assumption | apply touch_sageEvt | apply touch_safeRefuse | apply touch_safeAccept | apply touch_putMg | apply touch_releaseAt | apply Touch.each_ | apply touch_releaseStopped | apply touch_leaveSafe | apply Touch.foldl_ | apply Touch.foldl_fst | apply Touch.foldl_snd | intro _ _ _ | intro _ _ | split | dsimp only
  all_goals first | exact hm.up rfl

theorem touch_safeCmd (hm : Sub 0x100B2B91C05B07A m) (m2 c) (s : State) (hs : Touch m x s) : Touch m x (safeCmd m2 c s) := by
  unfold safeCmd
  with_reducible repeat' first | apply Touch.ite_ | assumption | apply touch_softPulseOff | apply touch_softAsc | apply touch_softDischarge | apply touch_softRelease | apply touch_safeRefuse | apply Touch.foldl_ | apply Touch.foldl_fst | apply Touch.foldl_snd | intro _ _ _ | intro _ _ | split | dsimp only
  all_goals first | exact hm.up rfl

theorem touch_sourceOn (hm : Sub 0x100B2B91C05B07E m) (x2) (s : State) (hs : Touch m x s) : Touch m x (sourceOn x2 s) := by
  unfold sourceOn
  with_reducible repeat' first | apply Touch.ite_ | assumption | apply touch_actRouted | apply touch_putBit | apply touch_setSatSrc | apply Touch.foldl_ | apply Touch.foldl_fst | apply Touch.foldl_snd | intro _ _ _ | intro _ _ | split | dsimp only
  all_goals first | exact hm.up rfl | with_reducible refine hm.pg (page_aTHY_TRIP_LVL _) ?_ | with_reducible refine hm.pg (page_bit_aTHY_TRIP_LVL _ _) ?_
  all_goals rfl

theorem touch_tripClrWrite (hm : Sub 0x0 m) (clr arm : State → State) (d) (s : State) (hc : ∀ y, Touch m x y → Touch m x (clr y))
    (ha : ∀ y, Touch m x y → Touch m x (arm y)) (h : Touch m x s) : Touch m x (tripClrWrite clr arm d s) :=
  Touch.when_ (Touch.when_ h hc) ha

theorem touch_putAdc (hm : Sub 0x2000000000000 m) (s : State) (u x2) (hs : Touch m x s) : Touch m x (State.putAdc s u x2) := by
  unfold State.putAdc
  with_reducible repeat' first | apply Touch.ite_ | assumption | apply touch_setAdcs

theorem touch_putAvg (hm : Sub 0x2000000000000 m) (s : State) (u j x2) (hs : Touch m x s) : Touch m x (State.putAvg s u j x2) := by
  unfold State.putAvg
  with_reducible repeat' first | apply Touch.ite_ | assumption | apply touch_putAdc

theorem touch_putRsv (hm : Sub 0x2000000000000 m) (s : State) (u r x2) (hs : Touch m x s) : Touch m x (State.putRsv s u r x2) := by
  unfold State.putRsv
  with_reducible repeat' first | apply Touch.ite_ | assumption | apply touch_putAdc

theorem touch_putRun (hm : Sub 0x2000000000000 m) (s : State) (u q x2) (hs : Touch m x s) : Touch m x (State.putRun s u q x2) := by
  unfold State.putRun
  with_reducible repeat' first | apply Touch.ite_ | assumption | apply touch_putAdc

theorem touch_putSlice (hm : Sub 0x2000000000000 m) (s : State) (u i x2) (hs : Touch m x s) : Touch m x (State.putSlice s u i x2) := by
  unfold State.putSlice
  with_reducible repeat' first | apply Touch.ite_ | assumption | apply touch_putAdc

theorem touch_flightLess (hm : Sub 0x80 m) (u) (s : State) (hs : Touch m x s) : Touch m x (flightLess u s) := by
  unfold flightLess
  with_reducible repeat' first | apply Touch.ite_ | assumption | apply touch_put | apply Touch.foldl_ | apply Touch.foldl_fst | apply Touch.foldl_snd | intro _ _ _ | intro _ _ | split | dsimp only
  all_goals first | exact hm.up rfl | with_reducible refine hm.pg (page_aADC_QSTAT _) ?_
  all_goals rfl

theorem touch_adcIrq (hm : Sub 0x80 m) (u i) (s : State) (hs : Touch m x s) : Touch m x (adcIrq u i s) :=
  touch_irq (hm.pg (page_adcHdr_raw u i) rfl) _ hs

theorem touch_runHeld (hm : Sub 0x2000000000000 m) (u q t) (s : State) (hs : Touch m x s) : Touch m x (runHeld u q t s) := by
  unfold runHeld
  with_reducible repeat' first | apply Touch.ite_ | assumption | apply touch_putRun

theorem touch_adcErr (hm : Sub 0x80 m) (u i) (s : State) (hs : Touch m x s) : Touch m x (adcErr u i s) :=
  touch_errSet (hm.pg (page_adcHdr_err u i) rfl) (hm.pg (page_adcHdr_raw u 0) rfl) _ hs

theorem touch_toBasil (hm : Sub 0x2000000000080 m) (u r) (s : State) (hs : Touch m x s) : Touch m x (toBasil u r s) := by
  unfold toBasil
  with_reducible repeat' first | apply Touch.ite_ | assumption | apply touch_adcErr | apply touch_incrSat | apply touch_putAdc | apply Touch.foldl_ | apply Touch.foldl_fst | apply Touch.foldl_snd | intro _ _ _ | intro _ _ | split | dsimp only
  all_goals first | exact hm.up rfl | with_reducible refine hm.pg (page_aADC_AIN_CFG _ _) ?_ | with_reducible refine hm.pg (page_aADC_LOSS _) ?_
  all_goals rfl

theorem touch_wcJudge (hm : Sub 0x100B2B91C05B0FE m) (u w v) (s : State) (hs : Touch m x s) : Touch m x (wcJudge u w v s) := by
  unfold wcJudge
  with_reducible repeat' first | apply Touch.ite_ | assumption | apply touch_sourceOn | apply touch_adcIrq | apply touch_incrSat | apply touch_raise | apply touch_armedStopped | apply touch_putBit | apply touch_lower | apply Touch.foldl_ | apply Touch.foldl_fst | apply Touch.foldl_snd | intro _ _ _ | intro _ _ | split | dsimp only
  all_goals first | exact hm.up rfl | with_reducible refine hm.pg (page_aADC_WC_CFG _ _) ?_ | with_reducible refine hm.pg (page_aADC_WC_LIM _ _) ?_ | with_reducible refine hm.pg (page_aADC_WC_STAT _ _) ?_ | with_reducible refine hm.pg (page_aTHY_TRIP_LVL _) ?_ | with_reducible refine hm.pg (page_bit_aTHY_TRIP_LVL _ _) ?_
  all_goals rfl

theorem touch_wcInput (hm : Sub 0x100B2B91C05B0FE m) (u j avg v) (s : State) (hs : Touch m x s) : Touch m x (wcInput u j avg v s) := by
  unfold wcInput
  with_reducible repeat' first | apply Touch.ite_ | assumption | apply Touch.each_ | apply touch_wcJudge | apply Touch.foldl_ | apply Touch.foldl_fst | apply Touch.foldl_snd | intro _ _ _

theorem touch_avgDeliver (hm : Sub 0x102B2B91C05B0FE m) (u j kind v due) (s : State) (hs : Touch m x s) : Touch m x (avgDeliver u j kind v due s) := by
  unfold avgDeliver
  with_reducible repeat' first | apply Touch.ite_ | assumption | apply touch_put | apply touch_toBasil | apply touch_wcInput | apply Touch.foldl_ | apply Touch.foldl_fst | apply Touch.foldl_snd | intro _ _ _ | intro _ _ | split | dsimp only
  all_goals first | exact hm.up rfl | with_reducible refine hm.pg (page_aADC_AVG _ _) ?_
  all_goals rfl

theorem touch_avgTake (hm : Sub 0x102B2B91C05B0FE m) (u j v rst due) (s : State) (hs : Touch m x s) : Touch m x (avgTake u j v rst due s) := by
  unfold avgTake
  with_reducible repeat' first | apply Touch.ite_ | assumption | apply touch_avgDeliver | apply touch_putAvg | apply Touch.foldl_ | apply Touch.foldl_fst | apply Touch.foldl_snd | intro _ _ _ | intro _ _ | split | dsimp only
  all_goals first | exact hm.up rfl

theorem touch_adcToGiu (hm : Sub 0x100000002 m) (u q v) (s : State) (hs : Touch m x s) : Touch m x (adcToGiu u q v s) := by
  unfold adcToGiu
  with_reducible repeat' first | apply Touch.ite_ | assumption | apply touch_setGiu | apply touch_incr | apply Touch.foldl_ | apply Touch.foldl_fst | apply Touch.foldl_snd | intro _ _ _ | intro _ _ | split | dsimp only
  all_goals first | exact hm.up rfl | with_reducible refine hm.pg (page_aFAB_DISCARD_CNT _) ?_
  all_goals rfl

theorem touch_resLos (hm : Sub 0x2000000000080 m) (u r sn cs) (s : State) (hs : Touch m x s) : Touch m x (resLos u r sn cs s) := by
  unfold resLos
  with_reducible repeat' first | apply Touch.ite_ | assumption | apply touch_putRsv | apply touch_adcIrq | apply touch_raise | apply touch_lower | apply Touch.foldl_ | apply Touch.foldl_fst | apply Touch.foldl_snd | intro _ _ _ | intro _ _ | split | dsimp only
  all_goals first | exact hm.up rfl | with_reducible refine hm.pg (page_aADC_RES_LIM _ _) ?_ | with_reducible refine hm.pg (page_aADC_RES_STAT _ _) ?_
  all_goals rfl

theorem touch_resEnvelope (hm : Sub 0xA000000000080 m) (u r) (s : State) (hs : Touch m x s) : Touch m x (resEnvelope u r s) := by
  unfold resEnvelope
  with_reducible repeat' first | apply Touch.ite_ | assumption | apply touch_putRsv | apply touch_incrSat | apply touch_resLos | apply touch_put | apply touch_wr | apply touch_putRes | apply Touch.foldl_ | apply Touch.foldl_fst | apply Touch.foldl_snd | intro _ _ _ | intro _ _ | split | dsimp only
  all_goals first | exact hm.up rfl | with_reducible refine hm.pg (page_aADC_RES_STAT _ _) ?_ | with_reducible refine hm.pg (page_aADC_RES_ENV _ _) ?_ | with_reducible refine hm.pg (page_aADC_RES_TS _ _) ?_
  all_goals rfl

theorem touch_resTake (hm : Sub 0xA000000000080 m) (u q v) (s : State) (hs : Touch m x s) : Touch m x (resTake u q v s) := by
  unfold resTake
  with_reducible repeat' first | apply Touch.ite_ | assumption | apply touch_putRsv | apply touch_resEnvelope | apply Touch.foldl_ | apply Touch.foldl_fst | apply Touch.foldl_snd | intro _ _ _ | intro _ _ | split | dsimp only
  all_goals first | exact hm.up rfl

theorem touch_adcAbort (hm : Sub 0x10AB2B91C05B0FE m) (u q cause) (s : State) (hs : Touch m x s) : Touch m x (adcAbort u q cause s) := by
  unfold adcAbort
  with_reducible repeat' first | apply Touch.ite_ | assumption | apply touch_flightLess | apply touch_incr | apply touch_adcIrq | apply touch_incrSat | apply touch_runHeld | apply touch_wr | apply touch_toBasil | apply touch_avgTake | apply touch_adcToGiu | apply touch_resTake | apply Touch.foldl_ | apply Touch.foldl_fst | apply Touch.foldl_snd | intro _ _ _ | intro _ _ | split | dsimp only
  all_goals first | exact hm.up rfl | with_reducible refine hm.pg (page_aADC_ABT_CNT _) ?_ | with_reducible refine hm.pg (page_aADC_ABT_CAUSE _) ?_ | with_reducible refine hm.pg (page_aADC_RES _ _) ?_
  all_goals rfl

theorem touch_qShow (hm : Sub 0x80 m) (u) (s : State) (hs : Touch m x s) : Touch m x (qShow u s) := by
  unfold qShow
  with_reducible repeat' first | apply Touch.ite_ | assumption | apply touch_put | apply Touch.foldl_ | apply Touch.foldl_fst | apply Touch.foldl_snd | intro _ _ _ | intro _ _ | split | dsimp only
  all_goals first | exact hm.up rfl | with_reducible refine hm.pg (page_aADC_QSTAT _) ?_
  all_goals rfl

theorem touch_adcConfig (hm : Sub 0x10AB2B91C05B0FE m) (u) (o s : State) (hs : Touch m x s) : Touch m x (adcConfig u o s) := by
  unfold adcConfig
  with_reducible repeat' first | apply Touch.ite_ | assumption | apply touch_putAdc | apply Touch.each_ | apply touch_adcAbort | apply touch_qShow | apply touch_wr | apply touch_putAvg | apply touch_putRun | apply touch_armedStopped | apply touch_putBit | apply touch_lower | apply touch_putB | apply touch_putRsv | apply Touch.foldl_ | apply Touch.foldl_fst | apply Touch.foldl_snd | intro _ _ _ | intro _ _ | split | dsimp only
  all_goals first | exact hm.up rfl | with_reducible refine hm.pg (page_aADC_CAL_STAT _) ?_ | with_reducible refine hm.pg (page_aADC_AIN_CFG _ _) ?_ | with_reducible refine hm.pg (page_aADC_SEQ_CFG _ _) ?_ | with_reducible refine hm.pg (page_aADC_SEQ_TIM _ _) ?_ | with_reducible refine hm.pg (page_aADC_WC_CFG _ _) ?_ | with_reducible refine hm.pg (page_aADC_WC_STAT _ _) ?_ | with_reducible refine hm.pg (page_aTHY_TRIP_LVL _) ?_ | with_reducible refine hm.pg (page_bit_aTHY_TRIP_LVL _ _) ?_ | with_reducible refine hm.pg (page_aADC_RES_CFG _ _) ?_ | with_reducible refine hm.pg (page_aADC_RES_STAT _ _) ?_
  all_goals rfl

theorem touch_adcEnter (hm : Sub 0x10AB2B91C05B0FE m) (u q) (s : State) (hs : Touch m x s) : Touch m x (adcEnter u q s) := by
  unfold adcEnter
  with_reducible repeat' first | apply Touch.ite_ | assumption | apply touch_put | apply touch_incr | apply touch_adcAbort | apply touch_qShow | apply touch_putAdc | apply Touch.foldl_ | apply Touch.foldl_fst | apply Touch.foldl_snd | intro _ _ _ | intro _ _ | split | dsimp only
  all_goals first | exact hm.up rfl | with_reducible refine hm.pg (page_aADC_REQ_CNT _) ?_ | with_reducible refine hm.pg (page_aADC_QSTAT _) ?_
  all_goals rfl

theorem touch_adcFrame (hm : Sub 0x20000000080 m) (u) (s : State) (hs : Touch m x s) : Touch m x (adcFrame u s) := by
  unfold adcFrame
  with_reducible repeat' first | apply Touch.ite_ | assumption | apply touch_conservationEvent | apply touch_adcErr | apply Touch.foldl_ | apply Touch.foldl_fst | apply Touch.foldl_snd | intro _ _ _ | intro _ _ | split | dsimp only
  all_goals first | exact hm.up rfl

theorem touch_adcReset (hm : Sub 0x2000000000000 m) (s : State) (hs : Touch m x s) : Touch m x (adcReset s) := by
  unfold adcReset
  with_reducible repeat' first | apply Touch.ite_ | assumption | apply touch_setAdcs

theorem touch_adcResult (hm : Sub 0x10AB2B91C05B0FE m) (u c raw) (s : State) (hs : Touch m x s) : Touch m x (adcResult u c raw s) := by
  unfold adcResult
  with_reducible repeat' first | apply Touch.ite_ | assumption | apply touch_flightLess | apply touch_incr | apply touch_adcIrq | apply touch_wr | apply touch_toBasil | apply touch_wcInput | apply touch_avgTake | apply touch_adcToGiu | apply touch_resTake | apply Touch.foldl_ | apply Touch.foldl_fst | apply Touch.foldl_snd | intro _ _ _ | intro _ _ | split | dsimp only
  all_goals first | exact hm.up rfl | with_reducible refine hm.pg (page_aADC_RES_CNT _) ?_ | with_reducible refine hm.pg (page_aADC_RST_CNT _) ?_ | with_reducible refine hm.pg (page_aADC_RES _ _) ?_ | with_reducible refine hm.pg (page_aADC_TS _ _) ?_
  all_goals rfl

theorem touch_adcRetire (hm : Sub 0x10AB2B91C05B0FE m) (s : State) (hs : Touch m x s) : Touch m x (adcRetire s) := by
  unfold adcRetire
  with_reducible repeat' first | apply Touch.ite_ | assumption | apply Touch.each_ | apply touch_qShow | apply touch_putAdc | apply touch_adcToGiu | apply touch_flightLess | apply touch_incr | apply touch_adcAbort | apply Touch.foldl_ | apply Touch.foldl_fst | apply Touch.foldl_snd | intro _ _ _ | intro _ _ | split | dsimp only
  all_goals first | exact hm.up rfl | with_reducible refine hm.pg (page_aFAB_RETIRED_CNT _) ?_
  all_goals rfl

theorem touch_adcSend (hm : Sub 0x2000080000000 m) (u) (s : State) (hs : Touch m x s) : Touch m x (adcSend u s) := by
  unfold adcSend
  with_reducible repeat' first | apply Touch.ite_ | assumption | apply touch_sendEng | apply touch_putAdc | apply Touch.foldl_ | apply Touch.foldl_fst | apply Touch.foldl_snd | intro _ _ _ | intro _ _ | split | dsimp only
  all_goals first | exact hm.up rfl

theorem touch_calShow (hm : Sub 0x100080 m) (u) (s : State) (hs : Touch m x s) : Touch m x (calShow u s) := by
  unfold calShow
  with_reducible repeat' first | apply Touch.ite_ | assumption | apply touch_raise | apply touch_freeWord | apply touch_lower | apply Touch.foldl_ | apply Touch.foldl_fst | apply Touch.foldl_snd | intro _ _ _ | intro _ _ | split | dsimp only
  all_goals first | exact hm.up rfl | with_reducible refine hm.pg (page_aADC_CAL_STAT _) ?_
  all_goals rfl

theorem touch_issueGroup (hm : Sub 0x10AB2B91C05B0FE m) (u q t n) (s : State) (h : Touch m x s) : Touch m x (issueGroup u q t n s) := by
  induction n generalizing s with
  | zero => exact h
  | succ n ih =>
    unfold issueGroup
    exact Touch.ite_ h (Touch.ite_ (ih _ (touch_putRun (hm.up rfl) _ _ _ _ h)) (Touch.each_ (touch_putRun (hm.up rfl) _ _ _ _ h) (fun a y hy => touch_adcEnter (hm.up rfl) _ _ _ hy)))

theorem touch_runsOn (hm : Sub 0x10AB2B91C05B0FE m) (u) (s : State) (hs : Touch m x s) : Touch m x (runsOn u s) := by
  unfold runsOn
  with_reducible repeat' first | apply Touch.ite_ | assumption | apply Touch.each_ | apply touch_issueGroup | apply Touch.foldl_ | apply Touch.foldl_fst | apply Touch.foldl_snd | intro _ _ _ | intro _ _ | split | dsimp only

theorem touch_conversionComplete (hm : Sub 0x10AB2B91C0DB0FE m) (u i raw) (s : State) (hs : Touch m x s) : Touch m x (conversionComplete u i raw s) := by
  unfold conversionComplete
  with_reducible repeat' first | apply Touch.ite_ | assumption | apply touch_runsOn | apply touch_reach | apply touch_adcResult | apply touch_putSlice | apply Touch.foldl_ | apply Touch.foldl_fst | apply Touch.foldl_snd | intro _ _ _ | intro _ _ | split | dsimp only
  all_goals first | exact hm.up rfl

theorem touch_dequeue (hm : Sub 0x2000000000080 m) (u q) (s : State) (hs : Touch m x s) : Touch m x (dequeue u q s) := by
  unfold dequeue
  with_reducible repeat' first | apply Touch.ite_ | assumption | apply touch_qShow | apply touch_putAdc | apply Touch.foldl_ | apply Touch.foldl_fst | apply Touch.foldl_snd | intro _ _ _ | intro _ _ | split | dsimp only
  all_goals first | exact hm.up rfl

theorem touch_sliceTake (hm : Sub 0x2000000000000 m) (u i q) (s : State) (hs : Touch m x s) : Touch m x (sliceTake u i q s) := by
  unfold sliceTake
  with_reducible repeat' first | apply Touch.ite_ | assumption | apply touch_runHeld | apply touch_putSlice

theorem touch_preempt (hm : Sub 0x2000000000000 m) (u i) (s : State) (hs : Touch m x s) : Touch m x (preempt u i s) := by
  unfold preempt
  with_reducible repeat' first | apply Touch.ite_ | assumption | apply touch_putSlice | apply touch_putAdc | apply touch_putRun | apply Touch.foldl_ | apply Touch.foldl_fst | apply Touch.foldl_snd | intro _ _ _ | intro _ _ | split

theorem touch_startReq (hm : Sub 0x10AB2B91C05B0FE m) (u q) (s : State) (hs : Touch m x s) : Touch m x (startReq u q s) := by
  unfold startReq
  with_reducible repeat' first | apply Touch.ite_ | assumption | apply touch_adcAbort | apply touch_dequeue | apply touch_sliceTake | apply touch_qShow | apply touch_preempt | apply Touch.foldl_ | apply Touch.foldl_fst | apply Touch.foldl_snd | intro _ _ _ | intro _ _ | split | dsimp only
  all_goals first | exact hm.up rfl

theorem touch_startMore (hm : Sub 0x10AB2B91C05B0FE m) (u n) (s : State) (h : Touch m x s) : Touch m x (startMore u n s) := by
  induction n generalizing s with
  | zero => exact h
  | succ n ih =>
    unfold startMore
    split
    · exact Touch.ite_ (ih _ (touch_startReq (hm.up rfl) _ _ _ h)) h
    · exact h

theorem touch_conversionStart (hm : Sub 0x10AB2B91C0DB0FE m) (u) (s : State) (hs : Touch m x s) : Touch m x (conversionStart u s) := by
  unfold conversionStart
  with_reducible repeat' first | apply Touch.ite_ | assumption | apply touch_runsOn | apply touch_reach | apply touch_startMore | apply touch_startReq | apply Touch.foldl_ | apply Touch.foldl_fst | apply Touch.foldl_snd | intro _ _ _ | intro _ _ | split | dsimp only
  all_goals first | exact hm.up rfl

theorem touch_giuAsks (hm : Sub 0x10AB2B91C05B0FE m) (u j) (s : State) (hs : Touch m x s) : Touch m x (giuAsks u j s) := by
  unfold giuAsks
  with_reducible repeat' first | apply Touch.ite_ | assumption | apply touch_adcEnter | apply touch_runsOn | apply touch_fabUse | apply touch_adcToGiu | apply touch_fabAbsent | apply Touch.foldl_ | apply Touch.foldl_fst | apply Touch.foldl_snd | intro _ _ _ | intro _ _ | split | dsimp only
  all_goals first | exact hm.up rfl

theorem touch_lateAbort (hm : Sub 0x10AB2B91C0DB0FE m) (u) (s : State) (hs : Touch m x s) : Touch m x (lateAbort u s) := by
  unfold lateAbort
  with_reducible repeat' first | apply Touch.ite_ | assumption | apply touch_runsOn | apply touch_adcAbort | apply touch_dequeue | apply touch_reach | apply Touch.foldl_ | apply Touch.foldl_fst | apply Touch.foldl_snd | intro _ _ _ | intro _ _ | split | dsimp only
  all_goals first | exact hm.up rfl

theorem touch_resolverSample (hm : Sub 0x10AB2B91C05B0FE m) (u r half) (s : State) (hs : Touch m x s) : Touch m x (resolverSample u r half s) := by
  unfold resolverSample
  with_reducible repeat' first | apply Touch.ite_ | assumption | apply touch_putRsv | apply touch_adcEnter | apply touch_runsOn | apply Touch.foldl_ | apply Touch.foldl_fst | apply Touch.foldl_snd | intro _ _ _ | intro _ _ | split | dsimp only
  all_goals first | exact hm.up rfl

theorem touch_seqTriggerFor (hm : Sub 0x10AB2B91C05B0FE m) (due perEnd u q) (s : State) (hs : Touch m x s) : Touch m x (seqTriggerFor due perEnd u q s) := by
  unfold seqTriggerFor
  with_reducible repeat' first | apply Touch.ite_ | assumption | apply touch_runsOn | apply touch_adcErr | apply touch_incrSat | apply touch_incr | apply touch_putRun | apply touch_issueGroup | apply Touch.foldl_ | apply Touch.foldl_fst | apply Touch.foldl_snd | intro _ _ _ | intro _ _ | split | dsimp only
  all_goals first | exact hm.up rfl | with_reducible refine hm.pg (page_aADC_SEQ_CFG _ _) ?_ | with_reducible refine hm.pg (page_aADC_SEQ_STAT _ _) ?_
  all_goals rfl

theorem touch_seqTrigger (hm : Sub 0x10AB2B91C05B0FE m) (u q) (s : State) (hs : Touch m x s) : Touch m x (seqTrigger u q s) := by
  unfold seqTrigger
  with_reducible repeat' first | apply Touch.ite_ | assumption | apply touch_seqTriggerFor

theorem touch_sequenceTrigger (hm : Sub 0x10AB2B91C0DB0FE m) (u q) (s : State) (hs : Touch m x s) : Touch m x (sequenceTrigger u q s) := by
  unfold sequenceTrigger
  with_reducible repeat' first | apply Touch.ite_ | assumption | apply touch_reach | apply touch_seqTrigger | apply touch_putRun | apply touch_seqTriggerFor | apply Touch.foldl_ | apply Touch.foldl_fst | apply Touch.foldl_snd | intro _ _ _ | intro _ _ | split | dsimp only
  all_goals first | exact hm.up rfl

theorem touch_spreadRun (hm : Sub 0x10AB2B91C0DB0FE m) (u q first) (s : State) (hs : Touch m x s) : Touch m x (spreadRun u q first s) := by
  unfold spreadRun
  with_reducible repeat' first | apply Touch.ite_ | assumption | apply touch_reach | apply touch_putRun | apply Touch.each_ | apply touch_putAvg | apply touch_seqTriggerFor | apply Touch.foldl_ | apply Touch.foldl_fst | apply Touch.foldl_snd | intro _ _ _ | intro _ _ | split | dsimp only
  all_goals first | exact hm.up rfl

theorem touch_streamAverage (hm : Sub 0x102B2B91C15B0FE m) (u sum) (s : State) (hs : Touch m x s) : Touch m x (streamAverage u sum s) := by
  unfold streamAverage
  with_reducible repeat' first | apply Touch.ite_ | assumption | apply touch_calShow | apply touch_avgDeliver | apply Touch.foldl_ | apply Touch.foldl_fst | apply Touch.foldl_snd | intro _ _ _ | intro _ _ | split | dsimp only
  all_goals first | exact hm.up rfl

theorem touch_swTrig (hm : Sub 0x10AB2B91C05B0FE m) (u m2) (s : State) (hs : Touch m x s) : Touch m x (swTrig u m2 s) := by
  unfold swTrig
  with_reducible repeat' first | apply Touch.ite_ | assumption | apply Touch.each_ | apply touch_seqTrigger

theorem touch_putAx (hm : Sub 0x20000000000000 m) (s : State) (k x2) (hs : Touch m x s) : Touch m x (State.putAx s k x2) := by
  unfold State.putAx
  with_reducible repeat' first | apply Touch.ite_ | assumption | apply touch_setAmu

theorem touch_putPh (hm : Sub 0x20000000000000 m) (s : State) (k phB p) (hs : Touch m x s) : Touch m x (State.putPh s k phB p) := by
  unfold State.putPh
  with_reducible repeat' first | apply Touch.ite_ | assumption | apply touch_putAx

theorem touch_axIrq (hm : Sub 0x200 m) (k i) (s : State) (hs : Touch m x s) : Touch m x (axIrq k i s) := by
  unfold axIrq
  with_reducible repeat' first | apply Touch.ite_ | assumption | apply touch_raise | apply touch_irq | apply Touch.foldl_ | apply Touch.foldl_fst | apply Touch.foldl_snd | intro _ _ _ | intro _ _ | split | dsimp only
  all_goals first | exact hm.up rfl | with_reducible refine hm.pg (page_aAX_IRQ_RAW _) ?_ | with_reducible refine hm.pg (page_aAX_IRQ_EN _) ?_ | with_reducible refine hm.pg (k := 9) (page_raw ?_) ?_ | with_reducible refine hm.pg (k := 9) (page_err ?_) ?_ | exact hm.pg (k := 9) rfl rfl
  all_goals rfl

theorem touch_axEnd (hm : Sub 0x20000000000200 m) (k) (s : State) (hs : Touch m x s) : Touch m x (axEnd k s) := by
  unfold axEnd
  with_reducible repeat' first | apply Touch.ite_ | assumption | apply touch_raise | apply touch_put | apply touch_wr | apply touch_axIrq | apply touch_putAx | apply Touch.foldl_ | apply Touch.foldl_fst | apply Touch.foldl_snd | intro _ _ _ | intro _ _ | split | dsimp only
  all_goals first | exact hm.up rfl | with_reducible refine hm.pg (page_aAX_STAT _) ?_ | with_reducible refine hm.pg (page_aAX_SPEED _) ?_ | with_reducible refine hm.pg (page_aAX_LEFT _) ?_ | with_reducible refine hm.pg (page_aAX_POS _) ?_
  all_goals rfl

theorem touch_axHalt (hm : Sub 0x20000000000200 m) (k) (s : State) (hs : Touch m x s) : Touch m x (axHalt k s) := by
  unfold axHalt
  with_reducible repeat' first | apply Touch.ite_ | assumption | apply touch_axEnd

theorem touch_amuBefore (hm : Sub 0x20000000000200 m) (s : State) (hs : Touch m x s) : Touch m x (amuBefore s) := by
  unfold amuBefore
  with_reducible repeat' first | apply Touch.ite_ | assumption | apply Touch.each_ | apply touch_axHalt | apply Touch.foldl_ | apply Touch.foldl_fst | apply Touch.foldl_snd | intro _ _ _

theorem touch_chopOff (hm : Sub 0x20000000000000 m) (k) (s : State) (hs : Touch m x s) : Touch m x (chopOff k s) := by
  unfold chopOff
  with_reducible repeat' first | apply Touch.ite_ | assumption | apply touch_putAx

theorem touch_amuBegins (hm : Sub 0x20000000000200 m) (s : State) (hs : Touch m x s) : Touch m x (amuBegins s) := by
  unfold amuBegins
  with_reducible repeat' first | apply Touch.ite_ | assumption | apply Touch.each_ | apply touch_chopOff | apply touch_axHalt | apply Touch.foldl_ | apply Touch.foldl_fst | apply Touch.foldl_snd | intro _ _ _ | intro _ _ | split | dsimp only
  all_goals first | exact hm.up rfl

theorem touch_amuBrown (hm : Sub 0x20000000000200 m) (s : State) (hs : Touch m x s) : Touch m x (amuBrown s) := by
  unfold amuBrown
  with_reducible repeat' first | apply Touch.ite_ | assumption | apply Touch.each_ | apply touch_axHalt | apply touch_raise | apply touch_chopOff | apply touch_setAmu | apply Touch.foldl_ | apply Touch.foldl_fst | apply Touch.foldl_snd | intro _ _ _ | intro _ _ | split | dsimp only
  all_goals first | exact hm.up rfl | with_reducible refine hm.pg (page_aAX_STAT _) ?_
  all_goals rfl

theorem touch_chopRef (hm : Sub 0x20000000000200 m) (k) (s : State) (hs : Touch m x s) : Touch m x (chopRef k s) := by
  unfold chopRef
  with_reducible repeat' first | apply Touch.ite_ | assumption | apply Touch.each_ | apply touch_put | apply touch_putPh | apply Touch.foldl_ | apply Touch.foldl_fst | apply Touch.foldl_snd | intro _ _ _ | intro _ _ | split | dsimp only
  all_goals first | exact hm.up rfl | with_reducible refine hm.pg (page_fOfs _ _) ?_
  all_goals rfl

theorem touch_amuBrownEnd (hm : Sub 0x20000000000200 m) (s : State) (hs : Touch m x s) : Touch m x (amuBrownEnd s) := by
  unfold amuBrownEnd
  with_reducible repeat' first | apply Touch.ite_ | assumption | apply touch_setAmu | apply Touch.each_ | apply touch_chopRef | apply Touch.foldl_ | apply Touch.foldl_fst | apply Touch.foldl_snd | intro _ _ _ | intro _ _ | split | dsimp only
  all_goals first | exact hm.up rfl

theorem touch_amuConfig (hm : Sub 0x20000000000200 m) (o s : State) (hs : Touch m x s) : Touch m x (amuConfig o s) := by
  unfold amuConfig
  with_reducible repeat' first | apply Touch.ite_ | assumption | apply Touch.each_ | apply touch_chopOff | apply touch_putAx | apply touch_wr | apply touch_chopRef | apply Touch.foldl_ | apply Touch.foldl_fst | apply Touch.foldl_snd | intro _ _ _ | intro _ _ | split | dsimp only
  all_goals first | exact hm.up rfl | with_reducible refine hm.pg (page_aAX_CFG _) ?_ | with_reducible refine hm.pg (page_aAX_CHOP_CFG _) ?_ | with_reducible refine hm.pg (page_aAX_CHOP_STAT _) ?_
  all_goals rfl

theorem touch_amuReset (hm : Sub 0x20000000000000 m) (s : State) (hs : Touch m x s) : Touch m x (amuReset s) := by
  unfold amuReset
  with_reducible repeat' first | apply Touch.ite_ | assumption | apply touch_setAmu

theorem touch_axBrake (hm : Sub 0x20000000000200 m) (k) (s : State) (hs : Touch m x s) : Touch m x (axBrake k s) := by
  unfold axBrake
  with_reducible repeat' first | apply Touch.ite_ | assumption | apply touch_axEnd | apply touch_putAx | apply touch_put | apply Touch.foldl_ | apply Touch.foldl_fst | apply Touch.foldl_snd | intro _ _ _ | intro _ _ | split | dsimp only
  all_goals first | exact hm.up rfl | with_reducible refine hm.pg (page_aAX_VSTOP _) ?_ | with_reducible refine hm.pg (page_aAX_STAT _) ?_
  all_goals rfl

theorem touch_axRefuse (hm : Sub 0x200 m) (k) (s : State) (hs : Touch m x s) : Touch m x (axRefuse k s) := by
  unfold axRefuse
  with_reducible repeat' first | apply Touch.ite_ | assumption | apply touch_axIrq | apply touch_raise | apply Touch.foldl_ | apply Touch.foldl_fst | apply Touch.foldl_snd | intro _ _ _ | intro _ _ | split | dsimp only
  all_goals first | exact hm.up rfl | with_reducible refine hm.pg (page_aAX_STAT _) ?_
  all_goals rfl

theorem touch_axShow (hm : Sub 0x20000000000200 m) (k v2 seg) (s : State) (hs : Touch m x s) : Touch m x (axShow k v2 seg s) := by
  unfold axShow
  with_reducible repeat' first | apply Touch.ite_ | assumption | apply touch_put | apply touch_wr | apply touch_putAx | apply Touch.foldl_ | apply Touch.foldl_fst | apply Touch.foldl_snd | intro _ _ _ | intro _ _ | split | dsimp only
  all_goals first | exact hm.up rfl | with_reducible refine hm.pg (page_aAX_SPEED _) ?_ | with_reducible refine hm.pg (page_aAX_STAT _) ?_
  all_goals rfl

theorem touch_axStart (hm : Sub 0x20000000000200 m) (k kind back left target) (s : State) (hs : Touch m x s) : Touch m x (axStart k kind back left target s) := by
  unfold axStart
  with_reducible repeat' first | apply Touch.ite_ | assumption | apply touch_put | apply touch_lower | apply touch_wr | apply touch_putB | apply touch_putAx | apply touch_chopRef | apply touch_axShow | apply Touch.foldl_ | apply Touch.foldl_fst | apply Touch.foldl_snd | intro _ _ _ | intro _ _ | split | dsimp only
  all_goals first | exact hm.up rfl | with_reducible refine hm.pg (page_aAX_STAT _) ?_ | with_reducible refine hm.pg (page_aAX_LEFT _) ?_
  all_goals rfl

theorem touch_stepTimer (hm : Sub 0x20000000080200 m) (k) (s : State) (hs : Touch m x s) : Touch m x (stepTimer k s) := by
  unfold stepTimer
  with_reducible repeat' first | apply Touch.ite_ | assumption | apply touch_reach | apply touch_wr | apply touch_chopRef | apply touch_putAx | apply touch_axEnd | apply touch_axShow | apply Touch.foldl_ | apply Touch.foldl_fst | apply Touch.foldl_snd | intro _ _ _ | intro _ _ | split | dsimp only
  all_goals first | exact hm.up rfl | with_reducible refine hm.pg (page_aAX_CFG _) ?_ | with_reducible refine hm.pg (page_aAX_STAT _) ?_ | with_reducible refine hm.pg (page_aAX_POS _) ?_ | with_reducible refine hm.pg (page_aAX_LEFT _) ?_
  all_goals rfl

theorem touch_axSettle (hm : Sub 0x20000000080200 m) (k) (s : State) (hs : Touch m x s) : Touch m x (axSettle k s) := by
  unfold axSettle
  with_reducible repeat' first | apply Touch.ite_ | assumption | apply touch_stepTimer

theorem touch_axCmd (hm : Sub 0x20000000180200 m) (k code) (s : State) (hs : Touch m x s) : Touch m x (axCmd k code s) := by
  unfold axCmd
  with_reducible repeat' first | apply Touch.ite_ | assumption | apply touch_axRefuse | apply touch_axStart | apply touch_axEnd | apply touch_axSettle | apply touch_axBrake | apply touch_lower | apply touch_axHalt | apply touch_freeWord | apply touch_chopRef | apply Touch.foldl_ | apply Touch.foldl_fst | apply Touch.foldl_snd | intro _ _ _ | intro _ _ | split | dsimp only
  all_goals first | exact hm.up rfl | with_reducible refine hm.pg (page_aAX_TARGET _) ?_ | with_reducible refine hm.pg (page_aAX_STAT _) ?_
  all_goals rfl

theorem touch_axCmdAt (hm : Sub 0x2002000E180202 m) (r k code) (s : State) (hs : Touch m x s) : Touch m x (axCmdAt r k code s) := by
  unfold axCmdAt
  with_reducible repeat' first | apply Touch.ite_ | assumption | apply touch_access | apply touch_axCmd | apply Touch.foldl_ | apply Touch.foldl_fst | apply Touch.foldl_snd | intro _ _ _ | intro _ _ | split | dsimp only
  all_goals first | exact hm.up rfl | with_reducible refine hm.pg (page_aAX_CMD _) ?_ | with_reducible refine hm.home (page_aAX_CMD _) ?_
  all_goals rfl

theorem touch_axPosWrite (hm : Sub 0x21001E3FFFF m) (k v) (s : State) (hs : Touch m x s) : Touch m x (axPosWrite k v s) := by
  unfold axPosWrite
  with_reducible repeat' first | apply Touch.ite_ | assumption | apply touch_axRefuse | apply touch_storeAt | apply Touch.foldl_ | apply Touch.foldl_fst | apply Touch.foldl_snd | intro _ _ _ | intro _ _ | split | dsimp only
  all_goals first | exact hm.up rfl

theorem touch_chopComparator (hm : Sub 0x20000000000200 m) (k phB above) (s : State) (hs : Touch m x s) : Touch m x (chopComparator k phB above s) := by
  unfold chopComparator
  with_reducible repeat' first | apply Touch.ite_ | assumption | apply touch_putPh | apply touch_put | apply Touch.foldl_ | apply Touch.foldl_fst | apply Touch.foldl_snd | intro _ _ _ | intro _ _ | split | dsimp only
  all_goals first | exact hm.up rfl | with_reducible refine hm.pg (page_aAX_CHOP_TIM _) ?_ | with_reducible refine hm.pg (page_aAX_CHOP_CFG _) ?_ | with_reducible refine hm.pg (page_fOfs _ _) ?_
  all_goals rfl

theorem touch_chopFault (hm : Sub 0x20000000080200 m) (k) (s : State) (hs : Touch m x s) : Touch m x (chopFault k s) := by
  unfold chopFault
  with_reducible repeat' first | apply Touch.ite_ | assumption | apply touch_axHalt | apply touch_reach | apply touch_axIrq | apply touch_incrSat | apply touch_chopOff | apply touch_raise | apply Touch.foldl_ | apply Touch.foldl_fst | apply Touch.foldl_snd | intro _ _ _ | intro _ _ | split | dsimp only
  all_goals first | exact hm.up rfl | with_reducible refine hm.pg (page_aAX_STAT _) ?_ | with_reducible refine hm.pg (page_aAX_CHOP_FCNT _) ?_
  all_goals rfl

theorem touch_holdCurrent (hm : Sub 0x20000000080200 m) (k) (s : State) (hs : Touch m x s) : Touch m x (holdCurrent k s) := by
  unfold holdCurrent
  with_reducible repeat' first | apply Touch.ite_ | assumption | apply touch_reach | apply touch_chopRef | apply touch_putAx | apply Touch.foldl_ | apply Touch.foldl_fst | apply Touch.foldl_snd | intro _ _ _ | intro _ _ | split | dsimp only
  all_goals first | exact hm.up rfl

theorem touch_homeInput (hm : Sub 0x20000000000200 m) (k lvl) (s : State) (hs : Touch m x s) : Touch m x (homeInput k lvl s) := by
  unfold homeInput
  with_reducible repeat' first | apply Touch.ite_ | assumption | apply touch_putB | apply touch_putAx | apply touch_axBrake | apply touch_axIrq | apply touch_wr | apply Touch.foldl_ | apply Touch.foldl_fst | apply Touch.foldl_snd | intro _ _ _ | intro _ _ | split | dsimp only
  all_goals first | exact hm.up rfl | with_reducible refine hm.pg (page_aAX_CFG _) ?_ | with_reducible refine hm.pg (page_aAX_STAT _) ?_ | with_reducible refine hm.pg (page_aAX_HOME_POS _) ?_
  all_goals rfl

theorem touch_limitInput (hm : Sub 0x20000000080200 m) (k pos lvl) (s : State) (hs : Touch m x s) : Touch m x (limitInput k pos lvl s) := by
  unfold limitInput
  with_reducible repeat' first | apply Touch.ite_ | assumption | apply touch_axSettle | apply touch_putB | apply touch_putAx | apply touch_wr | apply touch_axIrq | apply touch_raise | apply touch_axBrake | apply touch_axEnd | apply Touch.foldl_ | apply Touch.foldl_fst | apply Touch.foldl_snd | intro _ _ _ | intro _ _ | split | dsimp only
  all_goals first | exact hm.up rfl | with_reducible refine hm.pg (page_aAX_STAT _) ?_ | with_reducible refine hm.pg (page_aAX_CFG _) ?_ | with_reducible refine hm.pg (page_aAX_HOME_POS _) ?_
  all_goals rfl

theorem touch_rampWrite (hm : Sub 0x21001E3FFFF m) (k a v) (s : State) (hs : Touch m x s) : Touch m x (rampWrite k a v s) := by
  unfold rampWrite
  with_reducible repeat' first | apply Touch.ite_ | assumption | apply touch_axIrq | apply touch_raise | apply touch_storeAt | apply Touch.foldl_ | apply Touch.foldl_fst | apply Touch.foldl_snd | intro _ _ _ | intro _ _ | split | dsimp only
  all_goals first | exact hm.up rfl | with_reducible refine hm.pg (page_aAX_STAT _) ?_
  all_goals rfl

theorem touch_askAccount (hm : Sub 0x8000000000 m) (p) (s : State) (hs : Touch m x s) : Touch m x (askAccount p s) := by
  unfold askAccount
  with_reducible repeat' first | apply Touch.ite_ | assumption | apply Touch.each_ | apply touch_hubReady | apply Touch.foldl_ | apply Touch.foldl_fst | apply Touch.foldl_snd | intro _ _ _

theorem touch_portIrq (hm : Sub 0x10 m) (p i) (s : State) (hs : Touch m x s) : Touch m x (portIrq p i s) := by
  unfold portIrq
  with_reducible repeat' first | apply Touch.ite_ | assumption | apply touch_raise | apply Touch.foldl_ | apply Touch.foldl_fst | apply Touch.foldl_snd | intro _ _ _ | intro _ _ | split | dsimp only
  all_goals first | exact hm.up rfl | with_reducible refine hm.pg (page_aNDL_IRQ_RAW _) ?_
  all_goals rfl

theorem touch_protFault (hm : Sub 0x20000000010 m) (p) (s : State) (hs : Touch m x s) : Touch m x (protFault p s) := by
  unfold protFault
  with_reducible repeat' first | apply Touch.ite_ | assumption | apply touch_conservationEvent | apply touch_portIrq | apply touch_irq | apply touch_errSet | apply Touch.foldl_ | apply Touch.foldl_fst | apply Touch.foldl_snd | intro _ _ _ | intro _ _ | split | dsimp only
  all_goals first | exact hm.up rfl | with_reducible refine hm.pg (k := 4) (page_raw ?_) ?_ | with_reducible refine hm.pg (k := 4) (page_err ?_) ?_ | exact hm.pg (k := 4) rfl rfl

theorem touch_closeAccount (hm : Sub 0x28000000010 m) (p) (s : State) (hs : Touch m x s) : Touch m x (closeAccount p s) := by
  unfold closeAccount
  with_reducible repeat' first | apply Touch.ite_ | assumption | apply touch_putPort | apply touch_addTo | apply Touch.when_ | apply touch_protFault | apply Touch.foldl_ | apply Touch.foldl_fst | apply Touch.foldl_snd | intro _ _ _ | intro _ _ | split | dsimp only
  all_goals first | exact hm.up rfl | with_reducible refine hm.pg (page_aNDL_RETRACT_CNT _) ?_
  all_goals rfl

theorem touch_consFail (hm : Sub 0x20000000010 m) (p) (s : State) (hs : Touch m x s) : Touch m x (consFail p s) := by
  unfold consFail
  with_reducible repeat' first | apply Touch.ite_ | assumption | apply touch_irq | apply touch_errSet | apply touch_incrSat | apply touch_put | apply touch_raise | apply touch_conservationEvent | apply Touch.foldl_ | apply Touch.foldl_fst | apply Touch.foldl_snd | intro _ _ _ | intro _ _ | split | dsimp only
  all_goals first | exact hm.up rfl | with_reducible refine hm.pg (k := 4) (page_raw ?_) ?_ | with_reducible refine hm.pg (k := 4) (page_err ?_) ?_ | exact hm.pg (k := 4) rfl rfl

theorem touch_setPortState (hm : Sub 0x10 m) (p st) (s : State) (hs : Touch m x s) : Touch m x (setPortState p st s) := by
  unfold setPortState
  with_reducible repeat' first | apply Touch.ite_ | assumption | apply touch_putBit | apply touch_put | apply Touch.foldl_ | apply Touch.foldl_fst | apply Touch.foldl_snd | intro _ _ _ | intro _ _ | split | dsimp only
  all_goals first | exact hm.up rfl | with_reducible refine hm.pg (page_aNDL_STAT _) ?_ | with_reducible refine hm.pg (page_bit_aNDL_UP _) ?_ | with_reducible refine hm.pg (page_bit_aNDL_LOSS _) ?_
  all_goals rfl

theorem touch_quitPort (hm : Sub 0x8000000010 m) (p) (s : State) (hs : Touch m x s) : Touch m x (quitPort p s) := by
  unfold quitPort
  with_reducible repeat' first | apply Touch.ite_ | assumption | apply touch_addTo | apply touch_putPort | apply touch_lower | apply Touch.foldl_ | apply Touch.foldl_fst | apply Touch.foldl_snd | intro _ _ _ | intro _ _ | split | dsimp only
  all_goals first | exact hm.up rfl | with_reducible refine hm.pg (page_aNDL_RETRACT_CNT _) ?_ | with_reducible refine hm.pg (page_aNDL_STAT _) ?_ | with_reducible refine hm.pg (page_aNDL_TOK_STAT _) ?_
  all_goals rfl

theorem touch_roleScan (hm : Sub 0xA0011C249066 m) (s : State) (hs : Touch m x s) : Touch m x (roleScan s) := by
  unfold roleScan
  with_reducible repeat' first | apply Touch.ite_ | assumption | apply touch_put | apply Touch.each_ | apply touch_stopCtxAt | apply Touch.foldl_ | apply Touch.foldl_fst | apply Touch.foldl_snd | intro _ _ _ | intro _ _ | split | dsimp only
  all_goals first | exact hm.up rfl | exact hm.pg (k := 2) rfl rfl | exact hm.pg (k := 12) rfl rfl

theorem touch_enterLoss (hm : Sub 0x100B2B91C25B07E m) (p) (s : State) (hs : Touch m x s) : Touch m x (enterLoss p s) := by
  unfold enterLoss
  with_reducible repeat' first | apply Touch.ite_ | assumption | apply touch_setPortState | apply touch_quitPort | apply touch_putPort | apply touch_portIrq | apply touch_incrSat | apply touch_roleScan | apply touch_linkScan | apply touch_sageEvt | apply touch_irq | apply Touch.foldl_ | apply Touch.foldl_fst | apply Touch.foldl_snd | intro _ _ _ | intro _ _ | split | dsimp only
  all_goals first | exact hm.up rfl | with_reducible refine hm.pg (page_aNDL_LOSS_CNT _) ?_ | with_reducible refine hm.pg (k := 4) (page_raw ?_) ?_ | with_reducible refine hm.pg (k := 4) (page_err ?_) ?_ | exact hm.pg (k := 4) rfl rfl
  all_goals rfl

theorem touch_enterOff (hm : Sub 0x100B2B91C25B07E m) (p) (s : State) (hs : Touch m x s) : Touch m x (enterOff p s) := by
  unfold enterOff
  with_reducible repeat' first | apply Touch.ite_ | assumption | apply touch_setPortState | apply touch_quitPort | apply touch_roleScan | apply touch_linkScan | apply touch_putPort | apply Touch.foldl_ | apply Touch.foldl_fst | apply Touch.foldl_snd | intro _ _ _ | intro _ _ | split | dsimp only
  all_goals first | exact hm.up rfl

theorem touch_enterTrain (hm : Sub 0x8000000010 m) (p) (s : State) (hs : Touch m x s) : Touch m x (enterTrain p s) := by
  unfold enterTrain
  with_reducible repeat' first | apply Touch.ite_ | assumption | apply touch_setPortState | apply touch_putPort | apply Touch.foldl_ | apply Touch.foldl_fst | apply Touch.foldl_snd | intro _ _ _ | intro _ _ | split | dsimp only
  all_goals first | exact hm.up rfl

theorem touch_sendTel (hm : Sub 0x8000000000 m) (p) (s : State) (hs : Touch m x s) : Touch m x (sendTel p s) := by
  unfold sendTel
  with_reducible repeat' first | apply Touch.ite_ | assumption | apply touch_hubCfgWr

theorem touch_sendTiming (hm : Sub 0x8000000000 m) (p) (s : State) (hs : Touch m x s) : Touch m x (sendTiming p s) := by
  unfold sendTiming
  with_reducible repeat' first | apply Touch.ite_ | assumption | apply touch_hubCfgWr

theorem touch_sendHolds (hm : Sub 0x8000000000 m) (p) (s : State) (hs : Touch m x s) : Touch m x (sendHolds p s) := by
  unfold sendHolds
  with_reducible repeat' first | apply Touch.ite_ | assumption | apply touch_hubForce

theorem touch_sendHints (hm : Sub 0x8000000010 m) (p) (s : State) (hs : Touch m x s) : Touch m x (sendHints p s) := by
  unfold sendHints
  with_reducible repeat' first | apply Touch.ite_ | assumption | apply Touch.each_ | apply touch_sendHint | apply touch_hubReady | apply Touch.foldl_ | apply Touch.foldl_fst | apply Touch.foldl_snd | intro _ _ _ | intro _ _ | split | dsimp only
  all_goals first | exact hm.up rfl

theorem touch_sendProfiles (hm : Sub 0x8000000010 m) (p) (s : State) (hs : Touch m x s) : Touch m x (sendProfiles p s) := by
  unfold sendProfiles
  with_reducible repeat' first | apply Touch.ite_ | assumption | apply Touch.each_ | apply touch_hubCfgWr | apply touch_raise | apply touch_putPort | apply Touch.foldl_ | apply Touch.foldl_fst | apply Touch.foldl_snd | intro _ _ _ | intro _ _ | split | dsimp only
  all_goals first | exact hm.up rfl | with_reducible refine hm.pg (page_aNDL_GPROF _ _ _) ?_ | with_reducible refine hm.pg (page_aNDL_LEAD _) ?_ | with_reducible refine hm.pg (page_aNDL_STAT _) ?_
  all_goals rfl

theorem touch_enterUp (hm : Sub 0x100B2B91C25B07E m) (p) (s : State) (hs : Touch m x s) : Touch m x (enterUp p s) := by
  unfold enterUp
  with_reducible repeat' first | apply Touch.ite_ | assumption | apply touch_portIrq | apply touch_setPortState | apply Touch.each_ | apply touch_raise | apply touch_putLeg | apply touch_lower | apply touch_putPort | apply touch_sendTel | apply touch_sendTiming | apply touch_sendHolds | apply touch_sendHints | apply touch_sendProfiles | apply touch_roleScan | apply touch_linkScan | apply touch_askAccount | apply Touch.foldl_ | apply Touch.foldl_fst | apply Touch.foldl_snd | intro _ _ _ | intro _ _ | split | dsimp only
  all_goals first | exact hm.up rfl | with_reducible refine hm.pg (page_aNDL_STAT _) ?_ | with_reducible refine hm.pg (page_aNDL_TELEM _ _) ?_
  all_goals rfl

theorem touch_hubHears (hm : Sub 0x100B2B91C25B07E m) (p ack nak) (s : State) (hs : Touch m x s) : Touch m x (hubHears p ack nak s) := by
  unfold hubHears
  with_reducible repeat' first | apply Touch.ite_ | assumption | apply touch_putPort | apply touch_enterLoss | apply Touch.foldl_ | apply Touch.foldl_fst | apply Touch.foldl_snd | intro _ _ _ | intro _ _ | split | dsimp only
  all_goals first | exact hm.up rfl

theorem touch_tokenLost (hm : Sub 0x20000000010 m) (p) (s : State) (hs : Touch m x s) : Touch m x (tokenLost p s) := by
  unfold tokenLost
  with_reducible repeat' first | apply Touch.ite_ | assumption | apply touch_sageEvt | apply touch_portIrq | apply Touch.foldl_ | apply Touch.foldl_fst | apply Touch.foldl_snd | intro _ _ _ | intro _ _ | split | dsimp only
  all_goals first | exact hm.up rfl

theorem touch_hubSent (hm : Sub 0x28000000010 m) (p r) (s : State) (hs : Touch m x s) : Touch m x (hubSent p r s) := by
  unfold hubSent
  with_reducible repeat' first | apply Touch.ite_ | assumption | apply touch_portIrq | apply touch_incrSat | apply touch_putPort | apply touch_incr | apply touch_put | apply touch_tokenLost | apply Touch.foldl_ | apply Touch.foldl_fst | apply Touch.foldl_snd | intro _ _ _ | intro _ _ | split | dsimp only
  all_goals first | exact hm.up rfl | with_reducible refine hm.pg (page_aNDL_LEAD_VIOL _) ?_ | with_reducible refine hm.pg (page_aNDL_STAT _) ?_ | with_reducible refine hm.pg (page_aNDL_EDGE_CNT _) ?_
  all_goals rfl

theorem touch_hubSequenced (hm : Sub 0x100B2B91C25B07E m) (p) (hd) (k : State → State) (s : State) (hk : ∀ y, Touch m x y → Touch m x (k y)) (h : Touch m x s) :
    Touch m x (hubSequenced p hd k s) := by
  have h' := touch_hubHears (hm.up rfl) p hd.ack.val hd.nak s h
  unfold hubSequenced
  exact Touch.ite_ h' (Touch.ite_ (hk _ (touch_putPort (hm.up rfl) _ _ _ h')) (touch_putPort (hm.up rfl) _ _ _ h'))

theorem touch_hubSlot (hm : Sub 0x28000000010 m) (p) (s : State) (hs : Touch m x s) : Touch m x (hubSlot p s) := by
  unfold hubSlot
  with_reducible repeat' first | apply Touch.ite_ | assumption | apply touch_putPort | apply touch_incr | apply touch_hubSent | apply Touch.foldl_ | apply Touch.foldl_fst | apply Touch.foldl_snd | intro _ _ _ | intro _ _ | split | dsimp only
  all_goals first | exact hm.up rfl | with_reducible refine hm.pg (page_aNDL_CTRL _) ?_ | with_reducible refine hm.pg (page_aNDL_RESEND _) ?_
  all_goals rfl

theorem touch_portDis (hm : Sub 0x100B2B91C25B07E m) (p) (s : State) (hs : Touch m x s) : Touch m x (portDis p s) := by
  unfold portDis
  with_reducible repeat' first | apply Touch.ite_ | assumption | apply touch_lower | apply touch_enterOff | apply Touch.foldl_ | apply Touch.foldl_fst | apply Touch.foldl_snd | intro _ _ _ | intro _ _ | split | dsimp only
  all_goals first | exact hm.up rfl | with_reducible refine hm.pg (page_aNDL_CTRL _) ?_
  all_goals rfl

theorem touch_portEn (hm : Sub 0x8000000010 m) (p) (s : State) (hs : Touch m x s) : Touch m x (portEn p s) := by
  unfold portEn
  with_reducible repeat' first | apply Touch.ite_ | assumption | apply touch_errSet | apply touch_raise | apply touch_enterTrain | apply Touch.foldl_ | apply Touch.foldl_fst | apply Touch.foldl_snd | intro _ _ _ | intro _ _ | split | dsimp only
  all_goals first | exact hm.up rfl | with_reducible refine hm.pg (page_aNDL_CTRL _) ?_ | with_reducible refine hm.pg (k := 4) (page_raw ?_) ?_ | with_reducible refine hm.pg (k := 4) (page_err ?_) ?_ | exact hm.pg (k := 4) rfl rfl
  all_goals rfl

theorem touch_portFrame (hm : Sub 0x8000000010 m) (p w) (s : State) (hs : Touch m x s) : Touch m x (portFrame p w s) := by
  unfold portFrame
  with_reducible repeat' first | apply Touch.ite_ | assumption | apply Touch.when_ | apply touch_sendTiming | apply touch_sendTel | apply touch_sendProfiles | apply touch_sendHint | apply Touch.foldl_ | apply Touch.foldl_fst | apply Touch.foldl_snd | intro _ _ _ | intro _ _ | split | dsimp only
  all_goals first | exact hm.up rfl

theorem touch_profDone (hm : Sub 0x8000000010 m) (s : State) (hs : Touch m x s) : Touch m x (profDone s) := by
  unfold profDone
  with_reducible repeat' first | apply Touch.ite_ | assumption | apply Touch.each_ | apply touch_lower | apply touch_putPort | apply Touch.foldl_ | apply Touch.foldl_fst | apply Touch.foldl_snd | intro _ _ _ | intro _ _ | split | dsimp only
  all_goals first | exact hm.up rfl | with_reducible refine hm.pg (page_aNDL_STAT _) ?_
  all_goals rfl

theorem touch_sampleMatch (hm : Sub 0x8000000000 m) (p slot chk) (s : State) (hs : Touch m x s) : Touch m x (sampleMatch p slot chk s).2 := by
  unfold sampleMatch
  with_reducible repeat' first | apply Touch.ite_ | assumption | apply touch_putPort | apply Touch.foldl_ | apply Touch.foldl_fst | apply Touch.foldl_snd | intro _ _ _ | intro _ _ | split | dsimp only

theorem touch_sendAdjust (hm : Sub 0x8000000000 m) (p e) (s : State) (hs : Touch m x s) : Touch m x (sendAdjust p e s) := by
  unfold sendAdjust
  with_reducible repeat' first | apply Touch.ite_ | assumption | apply touch_hubReady | apply touch_putPort

theorem touch_sendProbe (hm : Sub 0x8000000000 m) (p) (s : State) (hs : Touch m x s) : Touch m x (sendProbe p s) := by
  unfold sendProbe
  with_reducible repeat' first | apply Touch.ite_ | assumption | apply touch_hubReady | apply touch_putPort

theorem touch_takeCredits (hm : Sub 0x8000000000 m) (p cred) (s : State) (hs : Touch m x s) : Touch m x (takeCredits p cred s) := by
  unfold takeCredits
  with_reducible repeat' first | apply Touch.ite_ | assumption | apply touch_putPort

theorem touch_takeResult (hm : Sub 0x10002800C002012 m) (p n e out) (s : State) (hs : Touch m x s) : Touch m x (takeResult p n e out s) := by
  unfold takeResult
  with_reducible repeat' first | apply Touch.ite_ | assumption | apply touch_putPort | apply touch_countRetracted | apply touch_incrSat | apply touch_irq | apply touch_portIrq | apply touch_record | apply touch_sageEvt | apply touch_tokenLost | apply touch_protFault | apply Touch.foldl_ | apply Touch.foldl_fst | apply Touch.foldl_snd | intro _ _ _ | intro _ _ | split | dsimp only
  all_goals first | exact hm.up rfl | with_reducible refine hm.pg (page_aNDL_LATE_RETRACT _) ?_ | with_reducible refine hm.pg (page_aNDL_LATE_EDGE _) ?_ | with_reducible refine hm.pg (page_aNDL_NOT_OWNER _) ?_ | with_reducible refine hm.pg (k := 4) (page_raw ?_) ?_ | with_reducible refine hm.pg (k := 4) (page_err ?_) ?_ | exact hm.pg (k := 4) rfl rfl
  all_goals rfl

theorem touch_takeSync (hm : Sub 0x100B2B91C25B07E m) (p a2 turn t1 t4) (s : State) (hs : Touch m x s) : Touch m x (takeSync p a2 turn t1 t4 s) := by
  unfold takeSync
  with_reducible repeat' first | apply Touch.ite_ | assumption | apply touch_put | apply touch_putPort | apply touch_sendProbe | apply touch_hubReady | apply touch_sendAdjust | apply touch_enterUp | apply touch_portIrq | apply touch_sageEvt | apply touch_lower | apply touch_raise | apply touch_enterLoss | apply Touch.foldl_ | apply Touch.foldl_fst | apply Touch.foldl_snd | intro _ _ _ | intro _ _ | split | dsimp only
  all_goals first | exact hm.up rfl | with_reducible refine hm.pg (page_aNDL_SYNC _) ?_ | with_reducible refine hm.pg (page_aNDL_OFS _) ?_ | with_reducible refine hm.pg (page_aNDL_STAT _) ?_
  all_goals rfl

theorem touch_takeTelem (hm : Sub 0x100B2B91C05B07E m) (p slot flags vboot temp) (s : State) (hs : Touch m x s) : Touch m x (takeTelem p slot flags vboot temp s) := by
  unfold takeTelem
  with_reducible repeat' first | apply Touch.ite_ | assumption | apply touch_put | apply touch_raise | apply touch_portIrq | apply touch_putB | apply touch_putLeg | apply Touch.each_ | apply touch_setSatSrc | apply touch_hintChange | apply touch_recheckSide | apply touch_armedLeg | apply Touch.foldl_ | apply Touch.foldl_fst | apply Touch.foldl_snd | intro _ _ _ | intro _ _ | split | dsimp only
  all_goals first | exact hm.up rfl | with_reducible refine hm.pg (page_aNDL_TELEM _ _) ?_ | with_reducible refine hm.pg (page_aLEG_BOOT _) ?_
  all_goals rfl

theorem touch_takeTok (hm : Sub 0x100B2B91C25B07E m) (p tok) (s : State) (hs : Touch m x s) : Touch m x (takeTok p tok s) := by
  unfold takeTok
  with_reducible repeat' first | apply Touch.ite_ | assumption | apply touch_putBit | apply touch_putB | apply touch_roleScan | apply touch_linkScan | apply touch_putPort | apply touch_irq | apply touch_portIrq | apply touch_incrSat | apply touch_tokenLost | apply Touch.foldl_ | apply Touch.foldl_fst | apply Touch.foldl_snd | intro _ _ _ | intro _ _ | split | dsimp only
  all_goals first | exact hm.up rfl | with_reducible refine hm.pg (page_aNDL_STAT _) ?_ | with_reducible refine hm.pg (page_bit_aNDL_TOK _) ?_ | with_reducible refine hm.pg (page_aNDL_LOSS_CNT _) ?_ | with_reducible refine hm.pg (k := 4) (page_raw ?_) ?_ | with_reducible refine hm.pg (k := 4) (page_err ?_) ?_ | exact hm.pg (k := 4) rfl rfl
  all_goals rfl

theorem touch_satDo (hm : Sub 0x10000000000 m) (p k) (s : State) (hs : Touch m x s) : Touch m x (satDo p k s) := by
  unfold satDo
  with_reducible repeat' first | apply Touch.ite_ | assumption | apply touch_putSat

theorem touch_takeEdges (hm : Sub 0x800C000012 m) (g) (s : State) (hs : Touch m x s) : Touch m x (takeEdges g s) := by
  unfold takeEdges
  with_reducible repeat' first | apply Touch.ite_ | assumption | apply Touch.each_ | apply touch_hubEdge | apply touch_hubSample | apply Touch.foldl_ | apply Touch.foldl_fst | apply Touch.foldl_snd | intro _ _ _ | intro _ _ | split | dsimp only
  all_goals first | exact hm.up rfl

theorem touch_takePhase (hm : Sub 0x10000020 m) (k ph) (s : State) (hs : Touch m x s) : Touch m x (takePhase k ph s) := by
  unfold takePhase
  with_reducible repeat' first | apply Touch.ite_ | assumption | apply touch_put | apply touch_putCtx | apply Touch.foldl_ | apply Touch.foldl_fst | apply Touch.foldl_snd | intro _ _ _ | intro _ _ | split | dsimp only
  all_goals first | exact hm.up rfl | with_reducible refine hm.pg (k := 5) ((page_inst _ _).trans ?_) ?_
  all_goals rfl

theorem touch_takeStart (hm : Sub 0x200010240020 m) (k) (s : State) (hs : Touch m x s) : Touch m x (takeStart k s) := by
  unfold takeStart
  with_reducible repeat' first | apply Touch.ite_ | assumption | apply touch_memPutWords | apply touch_startCtxAt | apply touch_applyInstant | apply touch_takePhase | apply Touch.foldl_ | apply Touch.foldl_fst | apply Touch.foldl_snd | intro _ _ _ | intro _ _ | split | dsimp only
  all_goals first | exact hm.up rfl

theorem touch_takeGroup (hm : Sub 0x100B2B91C25B07A m) (m2) (s : State) (hs : Touch m x s) : Touch m x (takeGroup m2 s) := by
  unfold takeGroup
  with_reducible repeat' first | apply Touch.ite_ | assumption | apply touch_forceLegs | apply touch_softAsc | apply touch_softPulseOff | apply Touch.each_ | apply touch_takeEdges | apply touch_takeStart | apply Touch.foldl_ | apply Touch.foldl_fst | apply Touch.foldl_snd | intro _ _ _ | intro _ _ | split | dsimp only
  all_goals first | exact hm.up rfl

theorem touch_takeGroups (hm : Sub 0x100B2B91C25B07A m) (s : State) (hs : Touch m x s) : Touch m x (takeGroups s) := by
  unfold takeGroups
  with_reducible repeat' first | apply Touch.ite_ | assumption | apply Touch.each_ | apply touch_takeGroup | apply touch_setPair | apply Touch.foldl_ | apply Touch.foldl_fst | apply Touch.foldl_snd | intro _ _ _ | intro _ _ | split | dsimp only
  all_goals first | exact hm.up rfl

theorem touch_pairGrant (hm : Sub 0x100B2B91C25B07A m) (p) (s : State) (hs : Touch m x s) : Touch m x (pairGrant p s) := by
  unfold pairGrant
  with_reducible repeat' first | apply Touch.ite_ | assumption | apply touch_setPair | apply touch_hubReady | apply touch_putPort | apply touch_takeGroups | apply touch_sendHints | apply touch_sendProfiles | apply touch_sendTel | apply touch_sendTiming | apply Touch.foldl_ | apply Touch.foldl_fst | apply Touch.foldl_snd | intro _ _ _ | intro _ _ | split | dsimp only
  all_goals first | exact hm.up rfl

theorem touch_pairTok (hm : Sub 0x100B2B91C25B07E m) (p tok) (s : State) (hs : Touch m x s) : Touch m x (pairTok p tok s) := by
  unfold pairTok
  with_reducible repeat' first | apply Touch.ite_ | assumption | apply touch_takeTok | apply touch_pairGrant | apply Touch.foldl_ | apply Touch.foldl_fst | apply Touch.foldl_snd | intro _ _ _ | intro _ _ | split | dsimp only
  all_goals first | exact hm.up rfl

theorem touch_hubBits (hm : Sub 0x100B2B91C25B07E m) (p tok react) (s : State) (hs : Touch m x s) : Touch m x (hubBits p tok react s) := by
  unfold hubBits
  with_reducible repeat' first | apply Touch.ite_ | assumption | apply Touch.when_ | apply touch_putB | apply touch_pairTok | apply Touch.foldl_ | apply Touch.foldl_fst | apply Touch.foldl_snd | intro _ _ _ | intro _ _ | split | dsimp only
  all_goals first | exact hm.up rfl | with_reducible refine hm.pg (page_aNDL_STAT _) ?_
  all_goals rfl

theorem touch_hubCell (hm : Sub 0x100B2B91C25B07E m) (p) (hd) (k : State → State) (s : State) (hk : ∀ y, Touch m x y → Touch m x (k y)) (h : Touch m x s) :
    Touch m x (hubCell p hd k s) :=
  touch_hubSequenced (hm.up rfl) _ _ _ _ hk (touch_hubBits (hm.up rfl) _ _ _ _ h)

theorem touch_invalidAt (hm : Sub 0x18000000010 m) (e) (s : State) (hs : Touch m x s) : Touch m x (invalidAt e s) := by
  unfold invalidAt
  with_reducible repeat' first | apply Touch.ite_ | assumption | apply touch_putPort | apply touch_incrSat | apply touch_satDo | apply Touch.foldl_ | apply Touch.foldl_fst | apply Touch.foldl_snd | intro _ _ _ | intro _ _ | split | dsimp only
  all_goals first | exact hm.up rfl | with_reducible refine hm.pg (page_aNDL_CRC_ERR _) ?_
  all_goals rfl

theorem touch_takeCfg (hm : Sub 0x28000000010 m) (p a d) (s : State) (hs : Touch m x s) : Touch m x (takeCfg p a d s) := by
  unfold takeCfg
  with_reducible repeat' first | apply Touch.ite_ | assumption | apply touch_putPort | apply touch_wr | apply touch_put | apply touch_closeAccount | apply Touch.foldl_ | apply Touch.foldl_fst | apply Touch.foldl_snd | intro _ _ _ | intro _ _ | split | dsimp only
  all_goals first | exact hm.up rfl | with_reducible refine hm.pg (page_aNDL_SAT_ID _) ?_ | with_reducible refine hm.pg (page_aNDL_SAT_CAPS _) ?_ | with_reducible refine hm.pg (page_aNDL_STAT _) ?_
  all_goals rfl

theorem touch_takeStatus (hm : Sub 0x28000000010 m) (p cred fid fidV peer qent ilk dlErr) (s : State) (hs : Touch m x s) : Touch m x (takeStatus p cred fid fidV peer qent ilk dlErr s) := by
  unfold takeStatus
  with_reducible repeat' first | apply Touch.ite_ | assumption | apply touch_putB | apply touch_put | apply touch_putPort | apply touch_takeCredits | apply touch_consFail | apply touch_addSat | apply touch_sageEvt | apply touch_incrSat | apply touch_closeAccount | apply Touch.foldl_ | apply Touch.foldl_fst | apply Touch.foldl_snd | intro _ _ _ | intro _ _ | split | dsimp only
  all_goals first | exact hm.up rfl | with_reducible refine hm.pg (page_aNDL_STAT _) ?_ | with_reducible refine hm.pg (page_aNDL_CRC_ERR _) ?_ | with_reducible refine hm.pg (page_aNDL_SAT_ILK _) ?_
  all_goals rfl

end Sys2Proof.Laws
end

