-- ==== Sys2Proof/Laws/TouchMonitor.lean ====
section
/-! SUPPORT. The pair of devices, Sage, resets, the recorder and self-test: what they may change. -/
namespace Sys2Proof.Laws
open Sys2Proof.Machine

variable {m : Nat} {x : State}

theorem touch_noteRun (hm : Sub 0x800000000000 m) (k run) (s : State) (hs : Touch m x s) : Touch m x (noteRun k run s) := by
  unfold noteRun
  with_reducible repeat' first | apply Touch.ite_ | assumption | apply touch_setPair

theorem touch_applyRecord (hm : Sub 0x80000C041002 m) (k step run img outs) (s : State) (hs : Touch m x s) : Touch m x (applyRecord k step run img outs s) := by
  unfold applyRecord
  with_reducible repeat' first | apply Touch.ite_ | assumption | apply touch_fabSend | apply touch_memPutWords | apply touch_setPair | apply touch_incr | apply touch_noteRun | apply Touch.foldl_ | apply Touch.foldl_fst | apply Touch.foldl_snd | intro _ _ _ | intro _ _ | split | dsimp only
  all_goals first | exact hm.up rfl | exact hm.pg (k := 12) rfl rfl

theorem touch_discardTent (hm : Sub 0x800000001000 m) (k) (s : State) (hs : Touch m x s) : Touch m x (discardTent k s) := by
  unfold discardTent
  with_reducible repeat' first | apply Touch.ite_ | assumption | apply touch_setPair | apply touch_incr | apply Touch.foldl_ | apply Touch.foldl_fst | apply Touch.foldl_snd | intro _ _ _ | intro _ _ | split | dsimp only
  all_goals first | exact hm.up rfl | exact hm.pg (k := 12) rfl rfl

theorem touch_dropTents (hm : Sub 0x800000001000 m) (s : State) (hs : Touch m x s) : Touch m x (dropTents s) := by
  unfold dropTents
  with_reducible repeat' first | apply Touch.ite_ | assumption | apply touch_setPair | apply touch_addTo | apply Touch.foldl_ | apply Touch.foldl_fst | apply Touch.foldl_snd | intro _ _ _ | intro _ _ | split | dsimp only
  all_goals first | exact hm.up rfl | exact hm.pg (k := 12) rfl rfl

theorem touch_pairSynced (hm : Sub 0x800000001000 m) (s : State) (hs : Touch m x s) : Touch m x (pairSynced s) := by
  unfold pairSynced
  with_reducible repeat' first | apply Touch.ite_ | assumption | apply touch_setPair | apply touch_irq | apply touch_put | apply Touch.foldl_ | apply Touch.foldl_fst | apply Touch.foldl_snd | intro _ _ _ | intro _ _ | split | dsimp only
  all_goals first | exact hm.up rfl | with_reducible refine hm.pg (k := 12) (page_raw ?_) ?_ | with_reducible refine hm.pg (k := 12) (page_err ?_) ?_ | exact hm.pg (k := 12) rfl rfl

theorem touch_joinAdvance (hm : Sub 0x800000001000 m) (n) (s : State) (h : Touch m x s) : Touch m x (joinAdvance n s) := by
  induction n generalizing s with
  | zero => exact h
  | succ n ih =>
    unfold joinAdvance
    refine Touch.ite_ h ?_
    split
    · exact Touch.ite_ (ih _ (touch_setPair (hm.up rfl) _ _ h)) h
    · exact Touch.ite_ (ih _ (touch_setPair (hm.up rfl) _ _ h)) h
    · exact Touch.ite_ (ih _ (touch_setPair (hm.up rfl) _ _ h)) h
    · exact Touch.ite_ (touch_pairSynced (hm.up rfl) _ (touch_pairTx (hm.up rfl) _ _ h)) h
    · exact h

theorem touch_pairTrain (hm : Sub 0x800000001000 m) (s : State) (hs : Touch m x s) : Touch m x (pairTrain s) := by
  unfold pairTrain
  with_reducible repeat' first | apply Touch.ite_ | assumption | apply touch_setPair | apply touch_lower | apply touch_put | apply Touch.foldl_ | apply Touch.foldl_fst | apply Touch.foldl_snd | intro _ _ _ | intro _ _ | split | dsimp only
  all_goals first | exact hm.up rfl | exact hm.pg (k := 12) rfl rfl

theorem touch_joinRefused (hm : Sub 0x800000001000 m) (s : State) (hs : Touch m x s) : Touch m x (joinRefused s) := by
  unfold joinRefused
  with_reducible repeat' first | apply Touch.ite_ | assumption | apply touch_pairTrain | apply touch_errSet | apply Touch.foldl_ | apply Touch.foldl_fst | apply Touch.foldl_snd | intro _ _ _ | intro _ _ | split | dsimp only
  all_goals first | exact hm.up rfl | with_reducible refine hm.pg (k := 12) (page_raw ?_) ?_ | with_reducible refine hm.pg (k := 12) (page_err ?_) ?_ | exact hm.pg (k := 12) rfl rfl

theorem touch_joinStart (hm : Sub 0x800000001000 m) (s : State) (hs : Touch m x s) : Touch m x (joinStart s) := by
  unfold joinStart
  with_reducible repeat' first | apply Touch.ite_ | assumption | apply touch_setPair | apply touch_lower | apply touch_put | apply touch_pairTx | apply Touch.foldl_ | apply Touch.foldl_fst | apply Touch.foldl_snd | intro _ _ _ | intro _ _ | split | dsimp only
  all_goals first | exact hm.up rfl | exact hm.pg (k := 12) rfl rfl

theorem touch_pairJudged (hm : Sub 0x1000 m) (ok) (f : State → State) (s : State) (hf : ∀ y, Touch m x y → Touch m x (f y)) (h : Touch m x s) :
    Touch m x (pairJudged ok f s) := Touch.ite_ (touch_lower (by exact hm.pg (k := 12) rfl rfl) _ (hf _ h)) (touch_raise (by exact hm.pg (k := 12) rfl rfl) _ h)

theorem touch_tokenAll (hm : Sub 0x8000000010 m) (op ps) (s : State) (hs : Touch m x s) : Touch m x (tokenAll op ps s) := by
  unfold tokenAll
  with_reducible repeat' first | apply Touch.ite_ | assumption | apply Touch.each_ | apply touch_tokenOp | apply Touch.foldl_ | apply Touch.foldl_fst | apply Touch.foldl_snd | intro _ _ _

theorem touch_pairCmd (hm : Sub 0x808000001010 m) (c) (s : State) (h : Touch m x s) : Touch m x (pairCmd c s) := by
  unfold pairCmd
  dsimp only
  split
  · exact touch_pairJudged (hm.up rfl) _ _ _ (fun y hy => Touch.ite_ (touch_joinStart (hm.up rfl) _ hy) (touch_setPair (hm.up rfl) _ _ hy)) h
  · exact touch_pairJudged (hm.up rfl) _ _ _ (fun y hy => touch_pairQuit (hm.up rfl) _ hy) h
  · exact touch_pairJudged (hm.up rfl) _ _ _ (fun y hy => touch_pairQuit (hm.up rfl) _ hy) h
  · exact touch_pairJudged (hm.up rfl) _ _ _ (fun y hy => touch_tokenAll (hm.up rfl) _ _ _ hy) h
  · exact touch_pairJudged (hm.up rfl) _ _ _ (fun y hy => touch_tokenAll (hm.up rfl) _ _ _ hy) h
  · exact touch_pairJudged (hm.up rfl) _ _ _ (fun y hy => hy) h

theorem touch_pairOff (hm : Sub 0x800000001004 m) (s : State) (hs : Touch m x s) : Touch m x (pairOff s) := by
  unfold pairOff
  with_reducible repeat' first | apply Touch.ite_ | assumption | apply touch_dropTents | apply touch_setPair | apply touch_lower | apply touch_put | apply Touch.foldl_ | apply Touch.foldl_fst | apply Touch.foldl_snd | intro _ _ _ | intro _ _ | split | dsimp only
  all_goals first | exact hm.up rfl | exact hm.pg (k := 2) rfl rfl | exact hm.pg (k := 12) rfl rfl

theorem touch_pairConfig (hm : Sub 0x100B2B91C25B07E m) (o s : State) (hs : Touch m x s) : Touch m x (pairConfig o s) := by
  unfold pairConfig
  with_reducible repeat' first | apply Touch.ite_ | assumption | apply touch_pairTrain | apply touch_pairOff | apply touch_roleScan | apply touch_linkScan | apply Touch.foldl_ | apply Touch.foldl_fst | apply Touch.foldl_snd | intro _ _ _ | intro _ _ | split | dsimp only
  all_goals first | exact hm.up rfl

theorem touch_pairLost (hm : Sub 0x800000001000 m) (s : State) (hs : Touch m x s) : Touch m x (pairLost s) := by
  unfold pairLost
  with_reducible repeat' first | apply Touch.ite_ | assumption | apply touch_setPair | apply touch_lower | apply touch_put | apply Touch.foldl_ | apply Touch.foldl_fst | apply Touch.foldl_snd | intro _ _ _ | intro _ _ | split | dsimp only
  all_goals first | exact hm.up rfl | exact hm.pg (k := 12) rfl rfl

theorem touch_pairLoss (hm : Sub 0x808000001014 m) (quit) (s : State) (hs : Touch m x s) : Touch m x (pairLoss quit s) := by
  unfold pairLoss
  with_reducible repeat' first | apply Touch.ite_ | assumption | apply touch_dropTents | apply touch_irq | apply touch_put | apply touch_pairLost | apply touch_errSet | apply touch_raise | apply touch_setPair | apply touch_tokenAll | apply Touch.foldl_ | apply Touch.foldl_fst | apply Touch.foldl_snd | intro _ _ _ | intro _ _ | split | dsimp only
  all_goals first | exact hm.up rfl | with_reducible refine hm.pg (k := 2) (page_raw ?_) ?_ | with_reducible refine hm.pg (k := 12) (page_raw ?_) ?_ | with_reducible refine hm.pg (k := 2) (page_err ?_) ?_ | with_reducible refine hm.pg (k := 12) (page_err ?_) ?_ | exact hm.pg (k := 2) rfl rfl | exact hm.pg (k := 12) rfl rfl

theorem touch_pairOffset (hm : Sub 0x800000001000 m) (e) (s : State) (hs : Touch m x s) : Touch m x (pairOffset e s) := by
  unfold pairOffset
  with_reducible repeat' first | apply Touch.ite_ | assumption | apply touch_setPair | apply touch_raise | apply touch_lower | apply touch_pairTrain | apply touch_dropTents | apply touch_irq | apply Touch.foldl_ | apply Touch.foldl_fst | apply Touch.foldl_snd | intro _ _ _ | intro _ _ | split | dsimp only
  all_goals first | exact hm.up rfl | with_reducible refine hm.pg (k := 12) (page_raw ?_) ?_ | with_reducible refine hm.pg (k := 12) (page_err ?_) ?_ | exact hm.pg (k := 12) rfl rfl

theorem touch_pairReset (hm : Sub 0x800000001004 m) (s : State) (hs : Touch m x s) : Touch m x (pairReset s) := by
  unfold pairReset
  with_reducible repeat' first | apply Touch.ite_ | assumption | apply touch_setPair | apply touch_pairOff | apply Touch.foldl_ | apply Touch.foldl_fst | apply Touch.foldl_snd | intro _ _ _ | intro _ _ | split | dsimp only
  all_goals first | exact hm.up rfl

theorem touch_pairRx (hm : Sub 0x800000001000 m) (hd) (k : State → State) (s : State) (hk : ∀ y, Touch m x y → Touch m x (k y)) (h : Touch m x s) :
    Touch m x (pairRx hd k s) := by
  have h' := touch_incr (f := fPAIR_RX_CNT_cnt) (by exact hm.pg (k := 12) rfl rfl) s h
  unfold pairRx
  exact Touch.ite_ h (hk _ (touch_setPair (hm.up rfl) _ _ (Touch.ite_ h' (touch_errSet (by exact hm.pg (k := 12) rfl rfl) (by exact hm.pg (k := 12) rfl rfl) _ (touch_addSat (by exact hm.pg (k := 12) rfl rfl) _ _ h')))))

theorem touch_pairSlew (hm : Sub 0x100004 m) (e) (s : State) (hs : Touch m x s) : Touch m x (pairSlew e s) := by
  unfold pairSlew
  with_reducible repeat' first | apply Touch.ite_ | assumption | apply touch_put | apply touch_setFree | apply Touch.foldl_ | apply Touch.foldl_fst | apply Touch.foldl_snd | intro _ _ _ | intro _ _ | split | dsimp only
  all_goals first | exact hm.up rfl | exact hm.pg (k := 2) rfl rfl

theorem touch_rebase (hm : Sub 0x80087FFFF m) (g b per run) (s : State) (hs : Touch m x s) : Touch m x (rebase g b per run s) := by
  unfold rebase
  with_reducible repeat' first | apply Touch.ite_ | assumption | apply touch_poke | apply touch_putTbg | apply touch_refreshLoads | apply touch_showNext | apply touch_raise | apply Touch.foldl_ | apply Touch.foldl_fst | apply Touch.foldl_snd | intro _ _ _ | intro _ _ | split | dsimp only
  all_goals first | exact hm.up rfl | with_reducible refine hm.pg (page_aTBG_PERIOD _) ?_ | with_reducible refine hm.pg (page_aTBG_STAT _) ?_
  all_goals rfl

theorem touch_sendBulk (hm : Sub 0x800000001000 m) (s : State) (hs : Touch m x s) : Touch m x (sendBulk s) := by
  unfold sendBulk
  with_reducible repeat' first | apply Touch.ite_ | assumption | apply touch_pairTx | apply touch_setPair | apply Touch.foldl_ | apply Touch.foldl_fst | apply Touch.foldl_snd | intro _ _ _ | intro _ _ | split | dsimp only
  all_goals first | exact hm.up rfl

theorem touch_sendSet (hm : Sub 0x800000001000 m) (g) (s : State) (hs : Touch m x s) : Touch m x (sendSet g s) := by
  unfold sendSet
  with_reducible repeat' first | apply Touch.ite_ | assumption | apply Touch.each_ | apply touch_pairTx | apply Touch.foldl_ | apply Touch.foldl_fst | apply Touch.foldl_snd | intro _ _ _

theorem touch_takeSet (hm : Sub 0x80080087FFFF m) (g x2) (s : State) (hs : Touch m x s) : Touch m x (takeSet g x2 s) := by
  unfold takeSet
  with_reducible repeat' first | apply Touch.ite_ | assumption | apply touch_setPair | apply Touch.each_ | apply touch_poke | apply touch_putTbg | apply touch_rebase | apply Touch.foldl_ | apply Touch.foldl_fst | apply Touch.foldl_snd | intro _ _ _ | intro _ _ | split | dsimp only
  all_goals first | exact hm.up rfl

theorem touch_takePart (hm : Sub 0x80080087FFFF m) (g gen t per part parts legs) (s : State) (hs : Touch m x s) : Touch m x (takePart g gen t per part parts legs s) := by
  unfold takePart
  with_reducible repeat' first | apply Touch.ite_ | assumption | apply touch_takeSet | apply touch_setPair | apply Touch.foldl_ | apply Touch.foldl_fst | apply Touch.foldl_snd | intro _ _ _ | intro _ _ | split | dsimp only
  all_goals first | exact hm.up rfl

theorem touch_takeResp (hm : Sub 0x800000101004 m) (a2 turn t4) (s : State) (hs : Touch m x s) : Touch m x (takeResp a2 turn t4 s) := by
  unfold takeResp
  with_reducible repeat' first | apply Touch.ite_ | assumption | apply touch_put | apply touch_setPair | apply touch_joinAdvance | apply touch_pairSlew | apply touch_pairOffset | apply Touch.foldl_ | apply Touch.foldl_fst | apply Touch.foldl_snd | intro _ _ _ | intro _ _ | split | dsimp only
  all_goals first | exact hm.up rfl | exact hm.pg (k := 12) rfl rfl

theorem touch_takeTokenRsp (hm : Sub 0x800000000010 m) (p res holder) (s : State) (hs : Touch m x s) : Touch m x (takeTokenRsp p res holder s) := by
  unfold takeTokenRsp
  with_reducible repeat' first | apply Touch.ite_ | assumption | apply touch_lower | apply touch_putB | apply touch_put | apply touch_setPair | apply Touch.foldl_ | apply Touch.foldl_fst | apply Touch.foldl_snd | intro _ _ _ | intro _ _ | split | dsimp only
  all_goals first | exact hm.up rfl | with_reducible refine hm.pg (page_aNDL_TOK_STAT _) ?_
  all_goals rfl

theorem touch_instantRecords (hm : Sub 0x4000180100100 m) (k t) (s : State) (hs : Touch m x s) : Touch m x (instantRecords k t s) := by
  unfold instantRecords
  with_reducible repeat' first | apply Touch.ite_ | assumption | apply touch_fbiRecords | apply touch_giuRecords | apply Touch.foldl_ | apply Touch.foldl_fst | apply Touch.foldl_snd | intro _ _ _ | intro _ _ | split | dsimp only
  all_goals first | exact hm.up rfl

theorem touch_trigCtx (hm : Sub 0x104B2B9DC75B17E m) (k) (s : State) (hs : Touch m x s) : Touch m x (trigCtx k s) := by
  unfold trigCtx
  with_reducible repeat' first | apply Touch.ite_ | assumption | apply touch_ctxCmd | apply touch_instantRecords | apply Touch.foldl_ | apply Touch.foldl_fst | apply Touch.foldl_snd | intro _ _ _ | intro _ _ | split | dsimp only
  all_goals first | exact hm.up rfl

theorem touch_putTm (hm : Sub 0x80000000000 m) (s : State) (m2 x2) (hs : Touch m x s) : Touch m x (State.putTm s m2 x2) := by
  unfold State.putTm
  with_reducible repeat' first | apply Touch.ite_ | assumption | apply touch_setTms

theorem touch_disOver (hm : Sub 0x100B2B91C05B07A m) (m2 res) (s : State) (hs : Touch m x s) : Touch m x (disOver m2 res s) := by
  unfold disOver
  with_reducible repeat' first | apply Touch.ite_ | assumption | apply touch_enterState | apply touch_disEnd | apply Touch.foldl_ | apply Touch.foldl_fst | apply Touch.foldl_snd | intro _ _ _ | intro _ _ | split | dsimp only
  all_goals first | exact hm.up rfl

theorem touch_disCheckpoint (hm : Sub 0x100B2B91C0DB07A m) (m2) (s : State) (hs : Touch m x s) : Touch m x (disCheckpoint m2 s) := by
  unfold disCheckpoint
  with_reducible repeat' first | apply Touch.ite_ | assumption | apply touch_reach | apply touch_disOver | apply touch_setDiss | apply Touch.foldl_ | apply Touch.foldl_fst | apply Touch.foldl_snd | intro _ _ _ | intro _ _ | split | dsimp only
  all_goals first | exact hm.up rfl

theorem touch_disValue (hm : Sub 0x100000000000 m) (p slot vdc) (s : State) (hs : Touch m x s) : Touch m x (disValue p slot vdc s) := by
  unfold disValue
  with_reducible repeat' first | apply Touch.ite_ | assumption | apply Touch.each_ | apply touch_setDiss | apply Touch.foldl_ | apply Touch.foldl_fst | apply Touch.foldl_snd | intro _ _ _

theorem touch_tmEvent (hm : Sub 0x20000008000 m) (e x2) (s : State) (hs : Touch m x s) : Touch m x (tmEvent e x2 s) := by
  unfold tmEvent
  with_reducible repeat' first | apply Touch.ite_ | assumption | apply touch_sageEvt | apply touch_raise | apply Touch.foldl_ | apply Touch.foldl_fst | apply Touch.foldl_snd | intro _ _ _ | intro _ _ | split | dsimp only
  all_goals first | exact hm.up rfl | exact hm.pg (k := 15) rfl rfl

theorem touch_tmEvaluate (hm : Sub 0xA0000008000 m) (m2 t its) (s : State) (hs : Touch m x s) : Touch m x (tmEvaluate m2 t its s) := by
  unfold tmEvaluate
  with_reducible repeat' first | apply Touch.ite_ | assumption | apply touch_putB | apply touch_incr | apply touch_putTm | apply touch_tmEvent | apply touch_put | apply touch_wr | apply Touch.foldl_ | apply Touch.foldl_fst | apply Touch.foldl_snd | intro _ _ _ | intro _ _ | split | dsimp only
  all_goals first | exact hm.up rfl | with_reducible refine hm.pg (page_aSAGE_TM_CFG _) ?_ | with_reducible refine hm.pg ((page_inst _ _).trans (page_aSAGE_TM_CFG _)) ?_ | with_reducible refine hm.pg (page_aSAGE_TM_EVAL _) ?_ | with_reducible refine hm.pg ((page_inst _ _).trans (page_aSAGE_TM_EVAL _)) ?_ | with_reducible refine hm.pg (page_aSAGE_TM_STAT _) ?_ | with_reducible refine hm.pg ((page_inst _ _).trans (page_aSAGE_TM_STAT _)) ?_ | with_reducible refine hm.pg (page_aSAGE_TM_ISCL _) ?_ | with_reducible refine hm.pg ((page_inst _ _).trans (page_aSAGE_TM_ISCL _)) ?_ | with_reducible refine hm.pg (page_aSAGE_TM_TOLA _) ?_ | with_reducible refine hm.pg ((page_inst _ _).trans (page_aSAGE_TM_TOLA _)) ?_ | with_reducible refine hm.pg (page_aSAGE_TM_TOLR _) ?_ | with_reducible refine hm.pg ((page_inst _ _).trans (page_aSAGE_TM_TOLR _)) ?_ | with_reducible refine hm.pg (page_aSAGE_TM_TABS _) ?_ | with_reducible refine hm.pg ((page_inst _ _).trans (page_aSAGE_TM_TABS _)) ?_ | with_reducible refine hm.pg (page_aSAGE_TM_TIM _) ?_ | with_reducible refine hm.pg ((page_inst _ _).trans (page_aSAGE_TM_TIM _)) ?_ | with_reducible refine hm.pg (page_aSAGE_TM_TMON _) ?_ | with_reducible refine hm.pg ((page_inst _ _).trans (page_aSAGE_TM_TMON _)) ?_ | with_reducible refine hm.pg (page_aSAGE_TM_EREQ _) ?_ | with_reducible refine hm.pg ((page_inst _ _).trans (page_aSAGE_TM_EREQ _)) ?_ | with_reducible refine hm.pg (page_aSAGE_TM_TMR _) ?_
  all_goals rfl

theorem touch_tmItem (hm : Sub 0xA0000008000 m) (n t i vdc cnt) (s : State) (hs : Touch m x s) : Touch m x (tmItem n t i vdc cnt s) := by
  unfold tmItem
  with_reducible repeat' first | apply Touch.ite_ | assumption | apply touch_putTm | apply touch_tmEvent | apply Touch.foldl_ | apply Touch.foldl_fst | apply Touch.foldl_snd | intro _ _ _ | intro _ _ | split | dsimp only
  all_goals first | exact hm.up rfl

theorem touch_tmRestart (hm : Sub 0x80000008000 m) (m2 was) (s : State) (hs : Touch m x s) : Touch m x (tmRestart m2 was s) := by
  unfold tmRestart
  with_reducible repeat' first | apply Touch.ite_ | assumption | apply touch_putTm | apply touch_put | apply touch_putB | apply Touch.foldl_ | apply Touch.foldl_fst | apply Touch.foldl_snd | intro _ _ _ | intro _ _ | split | dsimp only
  all_goals first | exact hm.up rfl | with_reducible refine hm.pg (page_aSAGE_TM_CFG _) ?_ | with_reducible refine hm.pg (page_aSAGE_TM_TMR _) ?_ | with_reducible refine hm.pg (page_aSAGE_TM_STAT _) ?_
  all_goals rfl

theorem touch_tmSkip (hm : Sub 0xA0000008000 m) (m2 cnt missing) (s : State) (hs : Touch m x s) : Touch m x (tmSkip m2 cnt missing s) := by
  unfold tmSkip
  with_reducible repeat' first | apply Touch.ite_ | assumption | apply touch_putTm | apply touch_tmEvent | apply Touch.foldl_ | apply Touch.foldl_fst | apply Touch.foldl_snd | intro _ _ _ | intro _ _ | split | dsimp only
  all_goals first | exact hm.up rfl

theorem touch_torqueEval (hm : Sub 0xA0000008000 m) (m2) (s : State) (hs : Touch m x s) : Touch m x (torqueEval m2 s) := by
  unfold torqueEval
  with_reducible repeat' first | apply Touch.ite_ | assumption | apply touch_putTm | apply touch_tmSkip | apply touch_tmEvaluate | apply Touch.foldl_ | apply Touch.foldl_fst | apply Touch.foldl_snd | intro _ _ _ | intro _ _ | split | dsimp only
  all_goals first | exact hm.up rfl

theorem touch_putApc (hm : Sub 0x400000000000 m) (s : State) (i x2) (hs : Touch m x s) : Touch m x (State.putApc s i x2) := by
  unfold State.putApc
  with_reducible repeat' first | apply Touch.ite_ | assumption | apply touch_setApcs

theorem touch_putWdg (hm : Sub 0x40000000000 m) (s : State) (i w) (hs : Touch m x s) : Touch m x (State.putWdg s i w) := by
  unfold State.putWdg
  with_reducible repeat' first | apply Touch.ite_ | assumption | apply touch_setWdgs

theorem touch_apcExpire (hm : Sub 0x20000010000 m) (i) (s : State) (hs : Touch m x s) : Touch m x (apcExpire i s) := by
  unfold apcExpire
  with_reducible repeat' first | apply Touch.ite_ | assumption | apply touch_sageEvt | apply touch_raise | apply Touch.foldl_ | apply Touch.foldl_fst | apply Touch.foldl_snd | intro _ _ _ | intro _ _ | split | dsimp only
  all_goals first | exact hm.up rfl | with_reducible refine hm.pg (page_aAPC_WDG_STAT _) ?_
  all_goals rfl

theorem touch_apcKey (hm : Sub 0x60000010000 m) (i key) (s : State) (hs : Touch m x s) : Touch m x (apcKey i key s) := by
  unfold apcKey
  with_reducible repeat' first | apply Touch.ite_ | assumption | apply touch_putWdg | apply touch_apcExpire | apply touch_lower | apply Touch.foldl_ | apply Touch.foldl_fst | apply Touch.foldl_snd | intro _ _ _ | intro _ _ | split | dsimp only
  all_goals first | exact hm.up rfl | with_reducible refine hm.pg (page_aAPC_WDG_STAT _) ?_
  all_goals rfl

theorem touch_eachSelected (hm : Sub 0x0 m) (f : Nat → State → State) (s : State) (hf : ∀ a y, Touch m x y → Touch m x (f a y)) (h : Touch m x s) :
    Touch m x (eachSelected f s) := Touch.each_ h hf

theorem touch_holdAll (hm : Sub 0x800C m) (s : State) (hs : Touch m x s) : Touch m x (holdAll s) := by
  unfold holdAll
  with_reducible repeat' first | apply Touch.ite_ | assumption | apply Touch.each_ | apply touch_refreshSum | apply touch_putBit | apply touch_raise | apply Touch.foldl_ | apply Touch.foldl_fst | apply Touch.foldl_snd | intro _ _ _ | intro _ _ | split | dsimp only
  all_goals first | exact hm.up rfl | with_reducible refine hm.pg (page_aMG_TRIP_STAT _) ?_ | with_reducible refine hm.pg (page_bit_aSAGE_MG_HOLD _) ?_
  all_goals rfl

theorem touch_lsInject (hm : Sub 0x20000010000 m) (i) (s : State) (hs : Touch m x s) : Touch m x (lsInject i s) := by
  unfold lsInject
  with_reducible repeat' first | apply Touch.ite_ | assumption | apply touch_toSage | apply touch_incrSat | apply touch_put | apply Touch.foldl_ | apply Touch.foldl_fst | apply Touch.foldl_snd | intro _ _ _ | intro _ _ | split | dsimp only
  all_goals first | exact hm.up rfl | with_reducible refine hm.pg (page_aAPC_LS_STAT _) ?_
  all_goals rfl

theorem touch_nsClr (hm : Sub 0x18000 m) (s : State) (hs : Touch m x s) : Touch m x (nsClr s) := by
  unfold nsClr
  with_reducible repeat' first | apply Touch.ite_ | assumption | apply touch_put | apply touch_raise | apply touch_lower | apply Touch.foldl_ | apply Touch.foldl_fst | apply Touch.foldl_snd | intro _ _ _ | intro _ _ | split | dsimp only
  all_goals first | exact hm.up rfl | with_reducible refine hm.pg (page_aSAGE_EVT_CFG _) ?_ | exact hm.pg (k := 15) rfl rfl | exact hm.pg (k := 16) rfl rfl

theorem touch_pinRel (hm : Sub 0x8000 m) (pins) (s : State) (hs : Touch m x s) : Touch m x (pinRel pins s) := by
  unfold pinRel
  with_reducible repeat' first | apply Touch.ite_ | assumption | apply touch_put | apply Touch.foldl_ | apply Touch.foldl_fst | apply Touch.foldl_snd | intro _ _ _ | intro _ _ | split | dsimp only
  all_goals first | exact hm.up rfl | exact hm.pg (k := 15) rfl rfl

theorem touch_sageDischarge (hm : Sub 0x100B2B91C04B07E m) (mode m2) (s : State) (hs : Touch m x s) : Touch m x (sageDischarge mode m2 s) := by
  unfold sageDischarge
  with_reducible repeat' first | apply Touch.ite_ | assumption | apply touch_errSet | apply touch_latchGroup | apply touch_putBit | apply touch_startDischarge | apply touch_noteRequest | apply Touch.foldl_ | apply Touch.foldl_fst | apply Touch.foldl_snd | intro _ _ _ | intro _ _ | split | dsimp only
  all_goals first | exact hm.up rfl | with_reducible refine hm.pg (page_aMG_TRIP_STAT _) ?_ | with_reducible refine hm.pg (page_bit_aSAGE_MG_HOLD _) ?_ | with_reducible refine hm.pg (k := 15) (page_raw ?_) ?_ | with_reducible refine hm.pg (k := 15) (page_err ?_) ?_ | exact hm.pg (k := 15) rfl rfl
  all_goals rfl

theorem touch_sageExpire (hm : Sub 0x100B2B91C05B07E m) (s : State) (hs : Touch m x s) : Touch m x (sageExpire s) := by
  unfold sageExpire
  with_reducible repeat' first | apply Touch.ite_ | assumption | apply touch_lossPath | apply touch_lower | apply Touch.foldl_ | apply Touch.foldl_fst | apply Touch.foldl_snd | intro _ _ _ | intro _ _ | split | dsimp only
  all_goals first | exact hm.up rfl | exact hm.pg (k := 15) rfl rfl

theorem touch_sageInject (hm : Sub 0x8000 m) (s : State) (hs : Touch m x s) : Touch m x (sageInject s) := by
  unfold sageInject
  with_reducible repeat' first | apply Touch.ite_ | assumption | apply touch_incrSat | apply touch_raise | apply Touch.foldl_ | apply Touch.foldl_fst | apply Touch.foldl_snd | intro _ _ _ | intro _ _ | split | dsimp only
  all_goals first | exact hm.up rfl | exact hm.pg (k := 15) rfl rfl

theorem touch_sageKey (hm : Sub 0x100B6B91C05B07E m) (key) (s : State) (hs : Touch m x s) : Touch m x (sageKey key s) := by
  unfold sageKey
  with_reducible repeat' first | apply Touch.ite_ | assumption | apply touch_putWdg | apply touch_sageExpire | apply touch_raise | apply touch_lower | apply touch_setSage | apply Touch.foldl_ | apply Touch.foldl_fst | apply Touch.foldl_snd | intro _ _ _ | intro _ _ | split | dsimp only
  all_goals first | exact hm.up rfl | exact hm.pg (k := 15) rfl rfl

theorem touch_sageUnhold (hm : Sub 0x800C m) (m2) (s : State) (hs : Touch m x s) : Touch m x (sageUnhold m2 s) := by
  unfold sageUnhold
  with_reducible repeat' first | apply Touch.ite_ | assumption | apply touch_errSet | apply touch_putBit | apply touch_refreshSum | apply touch_lower | apply Touch.foldl_ | apply Touch.foldl_fst | apply Touch.foldl_snd | intro _ _ _ | intro _ _ | split | dsimp only
  all_goals first | exact hm.up rfl | with_reducible refine hm.pg (page_aSAGE_EVT_CFG _) ?_ | with_reducible refine hm.pg (page_bit_aSAGE_MG_HOLD _) ?_ | with_reducible refine hm.pg (page_aMG_TRIP_STAT _) ?_ | with_reducible refine hm.pg (k := 3) (page_raw ?_) ?_ | with_reducible refine hm.pg (k := 15) (page_raw ?_) ?_ | with_reducible refine hm.pg (k := 3) (page_err ?_) ?_ | with_reducible refine hm.pg (k := 15) (page_err ?_) ?_ | exact hm.pg (k := 3) rfl rfl | exact hm.pg (k := 15) rfl rfl
  all_goals rfl

theorem touch_sageMgCmd (hm : Sub 0x100B2B91C05B07E m) (c) (s : State) (hs : Touch m x s) : Touch m x (sageMgCmd c s) := by
  unfold sageMgCmd
  with_reducible repeat' first | apply Touch.ite_ | assumption | apply touch_eachSelected | apply touch_sageCommand | apply touch_sageDischarge | apply touch_sageUnhold | apply Touch.foldl_ | apply Touch.foldl_fst | apply Touch.foldl_snd | intro _ _ _ | intro _ _ | split | dsimp only
  all_goals first | exact hm.up rfl

theorem touch_sageSrst (hm : Sub 0x2000403FFFF m) (s : State) (hs : Touch m x s) : Touch m x (sageSrst s) := by
  unfold sageSrst
  with_reducible repeat' first | apply Touch.ite_ | assumption | apply touch_incrSat | apply touch_irq | apply touch_errSet | apply touch_setSage | apply touch_wardenStart | apply Touch.foldl_ | apply Touch.foldl_fst | apply Touch.foldl_snd | intro _ _ _ | intro _ _ | split | dsimp only
  all_goals first | exact hm.up rfl | with_reducible refine hm.pg (k := 1) (page_raw ?_) ?_ | with_reducible refine hm.pg (k := 15) (page_raw ?_) ?_ | with_reducible refine hm.pg (k := 1) (page_err ?_) ?_ | with_reducible refine hm.pg (k := 15) (page_err ?_) ?_ | exact hm.pg (k := 1) rfl rfl | exact hm.pg (k := 15) rfl rfl

theorem touch_adcSourcesOff (hm : Sub 0x900000001C m) (fast) (s : State) (hs : Touch m x s) : Touch m x (adcSourcesOff fast s) := by
  unfold adcSourcesOff
  with_reducible repeat' first | apply Touch.ite_ | assumption | apply touch_armedStopped | apply Touch.each_ | apply touch_putBit | apply Touch.foldl_ | apply Touch.foldl_fst | apply Touch.foldl_snd | intro _ _ _ | intro _ _ | split | dsimp only
  all_goals first | exact hm.up rfl | with_reducible refine hm.pg (page_aTHY_TRIP_LVL _) ?_ | with_reducible refine hm.pg (page_bit_aTHY_TRIP_LVL _ _) ?_
  all_goals rfl

theorem touch_clearRegs (hm : Sub 0x3FFFF m) (i) (s : State) (h : Touch m x s) : Touch m x (clearRegs i s) := by
  unfold clearRegs
  refine touch_regs (hm.up rfl) (fun h => ?_) h
  refine sorted_filterMap (fun j v k w hf => ?_) h
  dsimp only at hf
  split at hf
  · simp only [Option.some.injEq, Prod.mk.injEq] at hf
    exact ⟨hf.1.symm, fun hv => hf.2 ▸ hv⟩
  · split at hf
    · simp at hf
    · rename_i hn
      simp only [Option.some.injEq, Prod.mk.injEq] at hf
      refine ⟨hf.1.symm, fun _ => ?_⟩
      simp only [Bool.or_eq_true, decide_eq_true_eq, not_or] at hn
      rw [← hf.2]; exact hn.2

theorem touch_dropShadows (hm : Sub 0x80063FFFF m) (i) (s : State) (hs : Touch m x s) : Touch m x (dropShadows i s) := by
  unfold dropShadows
  with_reducible repeat' first | apply Touch.ite_ | assumption | apply Touch.each_ | apply touch_dropTbgCommit | apply touch_setCmt | apply touch_setBnd | apply touch_lower | apply Touch.foldl_ | apply Touch.foldl_fst | apply Touch.foldl_snd | intro _ _ _ | intro _ _ | split | dsimp only
  all_goals first | exact hm.up rfl | exact hm.pgAny rfl _

theorem touch_islandStart (hm : Sub 0x20A0091C67FFFF m) (i p) (s : State) (hs : Touch m x s) : Touch m x (islandStart i p s) := by
  unfold islandStart
  with_reducible repeat' first | apply Touch.ite_ | assumption | apply touch_dropShadows | apply touch_engBegins | apply touch_amuBegins | apply touch_wardenStart | apply Touch.foldl_ | apply Touch.foldl_fst | apply Touch.foldl_snd | intro _ _ _ | intro _ _ | split | dsimp only
  all_goals first | exact hm.up rfl

theorem touch_ctrlSrst (hm : Sub 0x20A2091C67FFFF m) (r b) (s : State) (hs : Touch m x s) : Touch m x (ctrlSrst r b s) := by
  unfold ctrlSrst
  with_reducible repeat' first | apply Touch.ite_ | assumption | apply touch_sageSrst | apply touch_incrSat | apply touch_irq | apply touch_errSet | apply touch_islandStart | apply Touch.foldl_ | apply Touch.foldl_fst | apply Touch.foldl_snd | intro _ _ _ | intro _ _ | split | dsimp only
  all_goals first | exact hm.up rfl | with_reducible refine hm.pg (k := 1) (page_raw ?_) ?_ | with_reducible refine hm.pg (k := 1) (page_err ?_) ?_ | exact hm.pg (k := 1) rfl rfl

theorem touch_dropCopies (hm : Sub 0x1800000 m) (i) (s : State) (hs : Touch m x s) : Touch m x (dropCopies i s) := by
  unfold dropCopies
  with_reducible repeat' first | apply Touch.ite_ | assumption | apply touch_setCrcRun | apply touch_setTmr | apply Touch.foldl_ | apply Touch.foldl_fst | apply Touch.foldl_snd | intro _ _ _ | intro _ _ | split | dsimp only
  all_goals first | exact hm.up rfl

theorem touch_islandRelease (hm : Sub 0x804600040BFFFF m) (i) (s : State) (hs : Touch m x s) : Touch m x (islandRelease i s) := by
  unfold islandRelease
  with_reducible repeat' first | apply Touch.ite_ | assumption | apply touch_wardenRun | apply touch_putApc | apply touch_putWdg | apply touch_setSage | apply touch_raise | apply touch_setHpm | apply touch_setNow | apply Touch.foldl_ | apply Touch.foldl_fst | apply Touch.foldl_snd | intro _ _ _ | intro _ _ | split | dsimp only
  all_goals first | exact hm.up rfl | exact hm.pg (k := 2) rfl rfl

theorem touch_sageReset (hm : Sub 0x13E0000008000 m) (o s : State) (hs : Touch m x s) : Touch m x (sageReset o s) := by
  unfold sageReset
  with_reducible repeat' first | apply Touch.ite_ | assumption | apply touch_setWdgs | apply touch_setLivs | apply touch_setDiss | apply touch_setTms | apply touch_msioReset | apply touch_put | apply touch_putB | apply touch_raise | apply touch_setSage | apply Touch.foldl_ | apply Touch.foldl_fst | apply Touch.foldl_snd | intro _ _ _ | intro _ _ | split | dsimp only
  all_goals first | exact hm.up rfl | exact hm.pg (k := 15) rfl rfl

theorem touch_islandReset (hm : Sub 0x37FFEF9FDE7FFFF m) (i) (s : State) (hs : Touch m x s) : Touch m x (islandReset i s) := by
  unfold islandReset
  with_reducible repeat' first | apply Touch.ite_ | assumption | apply Touch.each_ | apply touch_enterOff | apply touch_pairReset | apply touch_engReset | apply touch_cancelStep | apply touch_clearRegs | apply touch_dropCopies | apply touch_dropShadows | apply touch_putWdg | apply touch_putApc | apply touch_sageReset | apply touch_putB | apply touch_setTrgs | apply touch_setMgs | apply touch_setLegs | apply touch_setTbgs | apply touch_membersChanged | apply touch_wr | apply touch_putPort | apply touch_setGiu | apply touch_adcSourcesOff | apply touch_adcReset | apply touch_fbiReset | apply touch_amuReset | apply touch_canReset | apply touch_setRosem | apply touch_setBist | apply Touch.foldl_ | apply Touch.foldl_fst | apply Touch.foldl_snd | intro _ _ _ | intro _ _ | split | dsimp only
  all_goals first | exact hm.up rfl | exact hm.pg (k := 5) rfl rfl | exact hm.pg (k := 15) rfl rfl

theorem touch_powerLost (hm : Sub 0x800000000400A0 m) (i) (s : State) (h : Touch m x s) : Touch m x (powerLost i s) := by
  have hmem : Touch m x (s.setMem (s.mem.filter (fun x => !(0x30000000 ≤ x.1 && x.1 < 0x30080000)))) :=
    touch_mem (hm.up rfl) (fun h => sorted_filter _ h) h
  unfold powerLost
  refine Touch.ite_ (touch_lower (by exact hm.pg (k := 5) rfl rfl) _ (touch_put (by exact hm.pg (k := 5) rfl rfl) _ _ (touch_wr (by exact hm.pg (k := 5) rfl rfl) _ _ hmem)))
    (Touch.ite_ (touch_setHpm (hm.up rfl) _ _ h) (Touch.ite_ (Touch.each_ h (fun a y hy => touch_wr (by exact hm.pg (page_aADC_FC_CFG _) rfl) _ _ hy)) h))

theorem touch_refreshPower (hm : Sub 0x1 m) (s : State) (hs : Touch m x s) : Touch m x (refreshPower s) := by
  unfold refreshPower
  with_reducible repeat' first | apply Touch.ite_ | assumption | apply Touch.each_ | apply touch_put | apply Touch.foldl_ | apply Touch.foldl_fst | apply Touch.foldl_snd | intro _ _ _ | intro _ _ | split | dsimp only
  all_goals first | exact hm.up rfl | exact hm.pg (k := 0) rfl rfl

theorem touch_retireBegins (hm : Sub 0x14AB2B91C07FFFF m) (i) (s : State) (hs : Touch m x s) : Touch m x (retireBegins i s) := by
  unfold retireBegins
  with_reducible repeat' first | apply Touch.ite_ | assumption | apply touch_enterRetire | apply touch_adcRetire | apply touch_canRetire | apply Touch.each_ | apply touch_setRosem | apply touch_recDefer | apply touch_incr | apply Touch.foldl_ | apply Touch.foldl_fst | apply Touch.foldl_snd | intro _ _ _ | intro _ _ | split | dsimp only
  all_goals first | exact hm.up rfl | exact hm.pg (k := 13) rfl rfl

theorem touch_retireEnds (hm : Sub 0x3FFFEF9FFE7FFFF m) (i) (s : State) (hs : Touch m x s) : Touch m x (retireEnds i s) := by
  unfold retireEnds
  with_reducible repeat' first | apply Touch.ite_ | assumption | apply touch_retireReplies | apply touch_lower | apply touch_put | apply touch_wr | apply touch_dropShadows | apply touch_islandReset | apply touch_powerLost | apply touch_wardenFlags | apply touch_putWarden | apply touch_refreshPower | apply Touch.foldl_ | apply Touch.foldl_fst | apply Touch.foldl_snd | intro _ _ _ | intro _ _ | split | dsimp only
  all_goals first | exact hm.up rfl | exact hm.pg (k := 4) rfl rfl | exact hm.pg (k := 5) rfl rfl

theorem touch_curCopy (hm : Sub 0x2000 m) (r) (s : State) (hs : Touch m x s) : Touch m x (curCopy r s) := by
  unfold curCopy
  with_reducible repeat' first | apply Touch.ite_ | assumption | apply Touch.each_ | apply touch_wr | apply Touch.foldl_ | apply Touch.foldl_fst | apply Touch.foldl_snd | intro _ _ _ | intro _ _ | split | dsimp only
  all_goals first | exact hm.up rfl | with_reducible refine hm.pg (page_aREC_CUR_DATA _) ?_ | with_reducible refine hm.pg ((page_bank _ _).trans (page_aREC_CUR_DATA _)) ?_ | with_reducible refine hm.pg (k := 13) ((page_bank _ _).trans ?_) ?_
  all_goals rfl

theorem touch_curMove (hm : Sub 0x2000 m) (r d) (s : State) (hs : Touch m x s) : Touch m x (curMove r d s) := by
  unfold curMove
  with_reducible repeat' first | apply Touch.ite_ | assumption | apply touch_curCopy | apply touch_wr | apply Touch.foldl_ | apply Touch.foldl_fst | apply Touch.foldl_snd | intro _ _ _ | intro _ _ | split | dsimp only
  all_goals first | exact hm.up rfl | with_reducible refine hm.pg (k := 13) ((page_bank _ _).trans ?_) ?_
  all_goals rfl

theorem touch_curSelect (hm : Sub 0x2000 m) (r d) (s : State) (hs : Touch m x s) : Touch m x (curSelect r d s) := by
  unfold curSelect
  with_reducible repeat' first | apply Touch.ite_ | assumption | apply touch_curCopy | apply touch_wr | apply Touch.foldl_ | apply Touch.foldl_fst | apply Touch.foldl_snd | intro _ _ _ | intro _ _ | split | dsimp only
  all_goals first | exact hm.up rfl | with_reducible refine hm.pg (k := 13) ((page_bank _ _).trans ?_) ?_
  all_goals rfl

theorem touch_recCmd (hm : Sub 0x100000000002000 m) (d) (s : State) (hs : Touch m x s) : Touch m x (recCmd d s) := by
  unfold recCmd
  with_reducible repeat' first | apply Touch.ite_ | assumption | apply touch_lower | apply touch_ringFreeze | apply Touch.foldl_ | apply Touch.foldl_fst | apply Touch.foldl_snd | intro _ _ _ | intro _ _ | split | dsimp only
  all_goals first | exact hm.up rfl | exact hm.pg (k := 13) rfl rfl

theorem touch_recFrame (hm : Sub 0x20000002000 m) (s : State) (hs : Touch m x s) : Touch m x (recFrame s) := by
  unfold recFrame
  with_reducible repeat' first | apply Touch.ite_ | assumption | apply touch_conservationEvent | apply touch_errSet | apply Touch.foldl_ | apply Touch.foldl_fst | apply Touch.foldl_snd | intro _ _ _ | intro _ _ | split | dsimp only
  all_goals first | exact hm.up rfl | with_reducible refine hm.pg (k := 13) (page_raw ?_) ?_ | with_reducible refine hm.pg (k := 13) (page_err ?_) ?_ | exact hm.pg (k := 13) rfl rfl

theorem touch_softRecord (hm : Sub 0x10000000C002002 m) (r code) (s : State) (hs : Touch m x s) : Touch m x (softRecord r code s) := by
  unfold softRecord
  with_reducible repeat' first | apply Touch.ite_ | assumption | apply touch_errSet | apply touch_recEvent | apply Touch.foldl_ | apply Touch.foldl_fst | apply Touch.foldl_snd | intro _ _ _ | intro _ _ | split | dsimp only
  all_goals first | exact hm.up rfl | with_reducible refine hm.pg (page_aREC_SW_DATA _) ?_ | with_reducible refine hm.pg ((page_bank _ _).trans (page_aREC_SW_DATA _)) ?_ | with_reducible refine hm.pg (k := 13) ((page_bank _ _).trans ?_) ?_ | with_reducible refine hm.pg (k := 13) (page_raw ?_) ?_ | with_reducible refine hm.pg (k := 13) (page_err ?_) ?_ | exact hm.pg (k := 13) rfl rfl

theorem touch_bistDrop (hm : Sub 0x200000000000000 m) (i) (s : State) (hs : Touch m x s) : Touch m x (bistDrop i s) := by
  unfold bistDrop
  with_reducible repeat' first | apply Touch.ite_ | assumption | apply touch_setBist

theorem touch_bistResult (hm : Sub 0x10000000C006002 m) (q res) (s : State) (hs : Touch m x s) : Touch m x (bistResult q res s) := by
  unfold bistResult
  with_reducible repeat' first | apply Touch.ite_ | assumption | apply touch_lower | apply touch_put | apply touch_irq | apply touch_incr | apply touch_incrSat | apply touch_record | apply Touch.foldl_ | apply Touch.foldl_fst | apply Touch.foldl_snd | intro _ _ _ | intro _ _ | split | dsimp only
  all_goals first | exact hm.up rfl | with_reducible refine hm.pg (page_aBIST_RES _) ?_ | with_reducible refine hm.pg (page_aBIST_SIG _) ?_ | with_reducible refine hm.pg (page_aBIST_FINFO _) ?_ | with_reducible refine hm.pg (k := 14) (page_raw ?_) ?_ | with_reducible refine hm.pg (k := 14) (page_err ?_) ?_ | exact hm.pg (k := 14) rfl rfl
  all_goals rfl

theorem touch_bistAbortOne (hm : Sub 0x3FFFEF9FFEFFFFF m) (back q) (s : State) (hs : Touch m x s) : Touch m x (bistAbortOne back q s) := by
  unfold bistAbortOne
  with_reducible repeat' first | apply Touch.ite_ | assumption | apply touch_bistDrop | apply touch_retireBegins | apply touch_retireEnds | apply touch_islandRelease | apply touch_bistResult | apply Touch.foldl_ | apply Touch.foldl_fst | apply Touch.foldl_snd | intro _ _ _ | intro _ _ | split | dsimp only
  all_goals first | exact hm.up rfl

theorem touch_bistAbort (hm : Sub 0x3FFFEF9FFEFFFFF m) (s : State) (hs : Touch m x s) : Touch m x (bistAbort s) := by
  unfold bistAbort
  with_reducible repeat' first | apply Touch.ite_ | assumption | apply Touch.each_ | apply touch_bistAbortOne

theorem touch_bistRelease (hm : Sub 0x4004000 m) (i) (s : State) (hs : Touch m x s) : Touch m x (bistRelease i s) := by
  unfold bistRelease
  with_reducible repeat' first | apply Touch.ite_ | assumption | apply touch_putBit | apply touch_putWarden | apply touch_errSet | apply Touch.foldl_ | apply Touch.foldl_fst | apply Touch.foldl_snd | intro _ _ _ | intro _ _ | split | dsimp only
  all_goals first | exact hm.up rfl | with_reducible refine hm.pg (page_bit_aBIST_HELD _) ?_ | with_reducible refine hm.pg (k := 14) (page_raw ?_) ?_ | with_reducible refine hm.pg (k := 14) (page_err ?_) ?_ | exact hm.pg (k := 14) rfl rfl
  all_goals rfl

theorem touch_bistRequest (hm : Sub 0x200000000004000 m) (i kinds) (s : State) (hs : Touch m x s) : Touch m x (bistRequest i kinds s) := by
  unfold bistRequest
  with_reducible repeat' first | apply Touch.ite_ | assumption | apply touch_errSet | apply touch_setBist | apply Touch.foldl_ | apply Touch.foldl_fst | apply Touch.foldl_snd | intro _ _ _ | intro _ _ | split | dsimp only
  all_goals first | exact hm.up rfl | with_reducible refine hm.pg (k := 14) (page_raw ?_) ?_ | with_reducible refine hm.pg (k := 14) (page_err ?_) ?_ | exact hm.pg (k := 14) rfl rfl

theorem touch_bistCmd (hm : Sub 0x200000004004000 m) (d) (s : State) (hs : Touch m x s) : Touch m x (bistCmd d s) := by
  unfold bistCmd
  with_reducible repeat' first | apply Touch.ite_ | assumption | apply touch_bistRelease | apply touch_bistRequest | apply Touch.foldl_ | apply Touch.foldl_fst | apply Touch.foldl_snd | intro _ _ _ | intro _ _ | split | dsimp only
  all_goals first | exact hm.up rfl

theorem touch_bistComplete (hm : Sub 0x38046000C0BFFFF m) (i res sig info) (s : State) (hs : Touch m x s) : Touch m x (bistComplete i res sig info s) := by
  unfold bistComplete
  with_reducible repeat' first | apply Touch.ite_ | assumption | apply touch_bistDrop | apply touch_wr | apply touch_islandRelease | apply touch_putBit | apply touch_sageEvt | apply touch_errSet | apply touch_lower | apply touch_put | apply touch_bistResult | apply Touch.foldl_ | apply Touch.foldl_fst | apply Touch.foldl_snd | intro _ _ _ | intro _ _ | split | dsimp only
  all_goals first | exact hm.up rfl | with_reducible refine hm.pg (page_aBIST_SIG _) ?_ | with_reducible refine hm.pg (page_aBIST_FINFO _) ?_ | with_reducible refine hm.pg (page_bit_aBIST_HELD _) ?_ | with_reducible refine hm.pg (k := 5) (page_raw ?_) ?_ | with_reducible refine hm.pg (k := 14) (page_raw ?_) ?_ | with_reducible refine hm.pg (k := 5) (page_err ?_) ?_ | with_reducible refine hm.pg (k := 14) (page_err ?_) ?_ | exact hm.pg (k := 5) rfl rfl
  all_goals rfl

theorem touch_bistDown (hm : Sub 0x3FFFEF9FFEFFFFF m) (i) (s : State) (hs : Touch m x s) : Touch m x (bistDown i s) := by
  unfold bistDown
  with_reducible repeat' first | apply Touch.ite_ | assumption | apply Touch.each_ | apply touch_bistAbortOne

theorem touch_pairIdle (hm : Sub 0x100000 m) (i) (s : State) (h : Touch m x s) : Touch m x (pairIdle i s).2 := by
  unfold pairIdle
  dsimp only
  split
  · exact h
  · exact touch_freeWord (hm.up rfl) _ h

theorem touch_bistRefused (hm : Sub 0x100000 m) (i) (s : State) (hs : Touch m x s) : Touch m x (bistRefused i s).2 := by
  unfold bistRefused
  with_reducible repeat' first | apply Touch.ite_ | assumption | apply touch_pairIdle | apply Touch.foldl_ | apply Touch.foldl_fst | apply Touch.foldl_snd | intro _ _ _ | intro _ _ | split

theorem touch_bistStart (hm : Sub 0x320A0091C7FFFFF m) (s : State) (hs : Touch m x s) : Touch m x (bistStart s) := by
  unfold bistStart
  with_reducible repeat' first | apply Touch.ite_ | assumption | apply touch_reach | apply touch_setBist | apply touch_bistRefused | apply touch_bistResult | apply touch_islandStart | apply touch_raise | apply Touch.foldl_ | apply Touch.foldl_fst | apply Touch.foldl_snd | intro _ _ _ | intro _ _ | split | dsimp only
  all_goals first | exact hm.up rfl | with_reducible refine hm.pg (page_aBIST_RES _) ?_
  all_goals rfl

end Sys2Proof.Laws
end

