-- ==== Sys2Proof/Laws/TouchDevice.lean ====
section
/-! SUPPORT. HPM, boot, power, block boundaries and register access: what they may change. -/
namespace Sys2Proof.Laws
open Sys2Proof.Machine

variable {m : Nat} {x : State}

theorem touch_resetCause (hm : Sub 0x1 m) (cause) (t : State) (hs : Touch m x t) : Touch m x (resetCause cause t) := by
  unfold resetCause
  with_reducible repeat' first | apply Touch.ite_ | assumption | apply touch_raise | apply Touch.foldl_ | apply Touch.foldl_fst | apply Touch.foldl_snd | intro _ _ _ | intro _ _ | split | dsimp only
  all_goals first | exact hm.up rfl | exact hm.pg (k := 0) rfl rfl

theorem touch_resetSticky (hm : Sub 0x1 m) (por) (s t : State) (hs : Touch m x t) : Touch m x (resetSticky por s t) := by
  unfold resetSticky
  with_reducible repeat' first | apply Touch.ite_ | assumption | apply touch_wr | apply Touch.foldl_ | apply Touch.foldl_fst | apply Touch.foldl_snd | intro _ _ _ | intro _ _ | split | dsimp only
  all_goals first | exact hm.up rfl | exact hm.pg (k := 0) rfl rfl

theorem touch_resetPins (hm : Sub 0x205 m) (s t : State) (hs : Touch m x t) : Touch m x (resetPins s t) := by
  unfold resetPins
  with_reducible repeat' first | apply Touch.ite_ | assumption | apply touch_put | apply Touch.each_ | apply touch_wr | apply touch_putB | apply Touch.foldl_ | apply Touch.foldl_fst | apply Touch.foldl_snd | intro _ _ _ | intro _ _ | split | dsimp only
  all_goals first | exact hm.up rfl | with_reducible refine hm.pg (page_aTHY_TRIP_LVL _) ?_ | with_reducible refine hm.pg (page_aAX_STAT _) ?_ | exact hm.pg (k := 0) rfl rfl
  all_goals rfl

theorem touch_resetBase (hm : Sub 0x3FFFFFFFFFFFFFF m) (p) (s : State) (h : Touch m x s) : Touch m x (resetBase p s) := by
  refine h.trans ⟨rfl, fun h => sorted_filter _ h, fun _ => rfl, fun q hq => ?_⟩
  have key : ∀ k : Fin 18, has 0x3FFFFFFFFFFFFFF k.val = true := by decide
  cases q with
  | regs k => exact nomatch (hm _ (key k)).symm.trans hq
  | _ => exact nomatch (hm _ rfl).symm.trans hq

theorem touch_resetKept (hm : Sub 0x3FFFFFFFFFFFFFF m) (por) (s : State) (hs : Touch m x s) : Touch m x (resetKept por s) := by
  unfold resetKept
  with_reducible repeat' first | apply Touch.ite_ | assumption | apply touch_setHpm | apply touch_setSats | apply touch_resetBase | apply touch_setMsio | apply Touch.foldl_ | apply Touch.foldl_fst | apply Touch.foldl_snd | intro _ _ _ | intro _ _ | split | dsimp only
  all_goals first | exact hm.up rfl

theorem touch_holdIslands (hm : Sub 0x4000000 m) (s : State) (hs : Touch m x s) : Touch m x (holdIslands s) := by
  unfold holdIslands
  with_reducible repeat' first | apply Touch.ite_ | assumption | apply Touch.each_ | apply touch_putWarden | apply Touch.foldl_ | apply Touch.foldl_fst | apply Touch.foldl_snd | intro _ _ _

theorem touch_deviceReset (hm : Sub 0x3FFFFFFFFFFFFFF m) (cause por) (s : State) (hs : Touch m x s) : Touch m x (deviceReset cause por s) := by
  unfold deviceReset
  with_reducible repeat' first | apply Touch.ite_ | assumption | apply touch_resetCause | apply touch_resetSticky | apply touch_resetPins | apply touch_resetKept | apply touch_holdIslands | apply Touch.foldl_ | apply Touch.foldl_fst | apply Touch.foldl_snd | intro _ _ _ | intro _ _ | split | dsimp only
  all_goals first | exact hm.up rfl

theorem touch_downRefused (hm : Sub 0x100000 m) (d) (s : State) (hs : Touch m x s) : Touch m x (downRefused d s).2 := by
  unfold downRefused
  with_reducible repeat' first | apply Touch.ite_ | assumption | apply touch_pairIdle | apply Touch.foldl_ | apply Touch.foldl_fst | apply Touch.foldl_snd | intro _ _ _ | intro _ _ | split

theorem touch_islandDown (hm : Sub 0x3FFFEF9FFEFFFFF m) (i) (s : State) (hs : Touch m x s) : Touch m x (islandDown i s) := by
  unfold islandDown
  with_reducible repeat' first | apply Touch.ite_ | assumption | apply touch_bistDown | apply touch_putWarden | apply touch_powerLost | apply touch_lower | apply touch_islandStart | apply Touch.foldl_ | apply Touch.foldl_fst | apply Touch.foldl_snd | intro _ _ _ | intro _ _ | split | dsimp only
  all_goals first | exact hm.up rfl | exact hm.pg (k := 4) rfl rfl

theorem touch_islandUp (hm : Sub 0x4000000 m) (i) (s : State) (hs : Touch m x s) : Touch m x (islandUp i s) := by
  unfold islandUp
  with_reducible repeat' first | apply Touch.ite_ | assumption | apply touch_putWarden

theorem touch_pairReset1 (hm : Sub 0x20A0091C67FFFF m) (i key) (s : State) (hs : Touch m x s) : Touch m x (pairReset1 i key s) := by
  unfold pairReset1
  with_reducible repeat' first | apply Touch.ite_ | assumption | apply touch_errSet | apply touch_islandStart | apply touch_raise | apply Touch.foldl_ | apply Touch.foldl_fst | apply Touch.foldl_snd | intro _ _ _ | intro _ _ | split | dsimp only
  all_goals first | exact hm.up rfl | with_reducible refine hm.pg (k := 0) (page_raw ?_) ?_ | with_reducible refine hm.pg (k := 0) (page_err ?_) ?_ | exact hm.pg (k := 0) rfl rfl

theorem touch_powerRefused (hm : Sub 0x1 m) (s : State) (hs : Touch m x s) : Touch m x (powerRefused s) := by
  unfold powerRefused
  with_reducible repeat' first | apply Touch.ite_ | assumption | apply touch_irq | apply touch_errSet | apply Touch.foldl_ | apply Touch.foldl_fst | apply Touch.foldl_snd | intro _ _ _ | intro _ _ | split | dsimp only
  all_goals first | exact hm.up rfl | with_reducible refine hm.pg (k := 0) (page_raw ?_) ?_ | with_reducible refine hm.pg (k := 0) (page_err ?_) ?_ | exact hm.pg (k := 0) rfl rfl

theorem touch_powerSteps (hm : Sub 0x3FFFEF9FFEFFFFF m) (s : State) (hs : Touch m x s) : Touch m x (powerSteps s) := by
  unfold powerSteps
  with_reducible repeat' first | apply Touch.ite_ | assumption | apply Touch.each_ | apply touch_putB | apply touch_islandUp | apply touch_islandDown | apply touch_put | apply touch_setBus | apply touch_refreshPower | apply Touch.foldl_ | apply Touch.foldl_fst | apply Touch.foldl_snd | intro _ _ _ | intro _ _ | split | dsimp only
  all_goals first | exact hm.up rfl | exact hm.pg (k := 0) rfl rfl | exact hm.pg (k := 4) rfl rfl

theorem touch_powerRequest (hm : Sub 0x3FFFEF9FFFFFFFF m) (d on) (s : State) (hs : Touch m x s) : Touch m x (powerRequest d on s) := by
  unfold powerRequest
  with_reducible repeat' first | apply Touch.ite_ | assumption | apply touch_powerRefused | apply touch_powerSteps | apply touch_raise | apply touch_downRefused | apply touch_lower | apply Touch.foldl_ | apply Touch.foldl_fst | apply Touch.foldl_snd | intro _ _ _ | intro _ _ | split | dsimp only
  all_goals first | exact hm.up rfl | exact hm.pg (k := 0) rfl rfl

theorem touch_powerWrite (hm : Sub 0x3FFFEF9FFFFFFFF m) (d) (s : State) (hs : Touch m x s) : Touch m x (powerWrite d s) := by
  unfold powerWrite
  with_reducible repeat' first | apply Touch.ite_ | assumption | apply Touch.each_ | apply touch_powerRequest | apply Touch.foldl_ | apply Touch.foldl_fst | apply Touch.foldl_snd | intro _ _ _

theorem touch_softReset1 (hm : Sub 0x3FFFFFFFFFFFFFF m) (r k) (s : State) (h : Touch m x s) : Touch m x (softReset1 r k s) :=
  Touch.ite_ (touch_errSet (by exact hm.pg (k := 0) rfl rfl) (by exact hm.pg (k := 0) rfl rfl) _ h) (touch_deviceReset (hm.up rfl) _ _ _ h)

theorem touch_bootCounts (hm : Sub 0x18000000C002003 m) (s : State) (hs : Touch m x s) : Touch m x (bootCounts s) := by
  unfold bootCounts
  with_reducible repeat' first | apply Touch.ite_ | assumption | apply touch_wr | apply touch_setHpm | apply touch_record | apply touch_raise | apply Touch.foldl_ | apply Touch.foldl_fst | apply Touch.foldl_snd | intro _ _ _ | intro _ _ | split | dsimp only
  all_goals first | exact hm.up rfl | exact hm.pg (k := 0) rfl rfl

theorem touch_ksLoaded (hm : Sub 0x20 m) (s : State) (hs : Touch m x s) : Touch m x (ksLoaded s) := by
  unfold ksLoaded
  with_reducible repeat' first | apply Touch.ite_ | assumption | apply touch_put | apply touch_raise | apply Touch.foldl_ | apply Touch.foldl_fst | apply Touch.foldl_snd | intro _ _ _ | intro _ _ | split | dsimp only
  all_goals first | exact hm.up rfl | exact hm.pg (k := 5) rfl rfl

theorem touch_copySection (hm : Sub 0x40000 m) (base lo hi o) (s : State) (hs : Touch m x s) : Touch m x (copySection base lo hi o s) := by
  unfold copySection
  with_reducible repeat' first | apply Touch.ite_ | assumption | apply touch_memBytes

theorem touch_copySections (hm : Sub 0x40000 m) (base) (s : State) (hs : Touch m x s) : Touch m x (copySections base s) := by
  unfold copySections
  with_reducible repeat' first | apply Touch.ite_ | assumption | apply Touch.each_ | apply touch_copySection | apply Touch.foldl_ | apply Touch.foldl_fst | apply Touch.foldl_snd | intro _ _ _

theorem touch_sageStarts (hm : Sub 0x60000000000 m) (s : State) (hs : Touch m x s) : Touch m x (sageStarts s) := by
  unfold sageStarts
  with_reducible repeat' first | apply Touch.ite_ | assumption | apply touch_putWdg | apply touch_setSage | apply Touch.foldl_ | apply Touch.foldl_fst | apply Touch.foldl_snd | intro _ _ _ | intro _ _ | split | dsimp only
  all_goals first | exact hm.up rfl

theorem touch_storePower (hm : Sub 0x3FFFEF9FFE7FFFF m) (off) (s : State) (hs : Touch m x s) : Touch m x (storePower off s) := by
  unfold storePower
  with_reducible repeat' first | apply Touch.ite_ | assumption | apply Touch.each_ | apply touch_lower | apply Touch.when_ | apply touch_setBus | apply touch_refreshPower | apply touch_retireEnds | apply touch_retireBegins | apply touch_wardenStart | apply Touch.foldl_ | apply Touch.foldl_fst | apply Touch.foldl_snd | intro _ _ _ | intro _ _ | split | dsimp only
  all_goals first | exact hm.up rfl | exact hm.pg (k := 0) rfl rfl | exact hm.pg (k := 4) rfl rfl

theorem touch_bootRun (hm : Sub 0x3FFFEF9FFE7FFFF m) (b warm t) (s : State) (hs : Touch m x s) : Touch m x (bootRun b warm t s) := by
  unfold bootRun
  with_reducible repeat' first | apply Touch.ite_ | assumption | apply touch_putB | apply touch_ksLoaded | apply touch_copySections | apply touch_sageStarts | apply touch_storePower | apply touch_wr | apply touch_put | apply touch_lower | apply Touch.each_ | apply touch_putApc | apply Touch.foldl_ | apply Touch.foldl_fst | apply Touch.foldl_snd | intro _ _ _ | intro _ _ | split | dsimp only
  all_goals first | exact hm.up rfl | exact hm.pg (k := 0) rfl rfl | exact hm.pg (k := 17) rfl rfl

theorem touch_recovery (hm : Sub 0x20001 m) (s : State) (hs : Touch m x s) : Touch m x (recovery s) := by
  unfold recovery
  with_reducible repeat' first | apply Touch.ite_ | assumption | apply touch_wr | apply touch_raise | apply touch_put | apply Touch.foldl_ | apply Touch.foldl_fst | apply Touch.foldl_snd | intro _ _ _ | intro _ _ | split | dsimp only
  all_goals first | exact hm.up rfl | exact hm.pg (k := 0) rfl rfl | exact hm.pg (k := 17) rfl rfl

theorem touch_trySlot (hm : Sub 0x1 m) (b) (s : State) (hs : Touch m x s) : Touch m x (trySlot b s).2 := by
  unfold trySlot
  with_reducible repeat' first | apply Touch.ite_ | assumption | apply touch_raise | apply Touch.foldl_ | apply Touch.foldl_fst | apply Touch.foldl_snd | intro _ _ _ | intro _ _ | split | dsimp only
  all_goals first | exact hm.up rfl | exact hm.pg (k := 0) rfl rfl

theorem touch_bootSlots (hm : Sub 0x3FFFEF9FFE7FFFF m) (t l) (s : State) (h : Touch m x s) : Touch m x (bootSlots t l s) := by
  induction l generalizing s with
  | nil => exact touch_recovery (hm.up rfl) _ h
  | cons b l ih =>
    have h' := touch_trySlot (hm.up rfl) b s h
    exact Touch.ite_ (touch_bootRun (hm.up rfl) _ _ _ _ (touch_setHpm (hm.up rfl) _ _ h')) (ih _ h')

theorem touch_clocksRun (hm : Sub 0x1 m) (s : State) (hs : Touch m x s) : Touch m x (clocksRun s) := by
  unfold clocksRun
  with_reducible repeat' first | apply Touch.ite_ | assumption | apply touch_lower | apply touch_raise | apply Touch.foldl_ | apply Touch.foldl_fst | apply Touch.foldl_snd | intro _ _ _ | intro _ _ | split | dsimp only
  all_goals first | exact hm.up rfl | exact hm.pg (k := 0) rfl rfl

theorem touch_i2cCmd (hm : Sub 0x80000000000001 m) (d) (s : State) (hs : Touch m x s) : Touch m x (i2cCmd d s) := by
  unfold i2cCmd
  with_reducible repeat' first | apply Touch.ite_ | assumption | apply touch_raise | apply touch_setHpm | apply Touch.foldl_ | apply Touch.foldl_fst | apply Touch.foldl_snd | intro _ _ _ | intro _ _ | split | dsimp only
  all_goals first | exact hm.up rfl | exact hm.pg (k := 0) rfl rfl

theorem touch_jtag (hm : Sub 0x80000000000000 m) (i out) (s : State) (hs : Touch m x s) : Touch m x (jtag i out s) := by
  unfold jtag
  with_reducible repeat' first | apply Touch.ite_ | assumption | apply touch_setHpm

theorem touch_loadIdentity (hm : Sub 0x1 m) (s : State) (hs : Touch m x s) : Touch m x (loadIdentity s) := by
  unfold loadIdentity
  with_reducible repeat' first | apply Touch.ite_ | assumption | apply Touch.when_ | apply touch_put | apply touch_wr | apply Touch.foldl_ | apply Touch.foldl_fst | apply Touch.foldl_snd | intro _ _ _ | intro _ _ | split | dsimp only
  all_goals first | exact hm.up rfl | exact hm.pg (k := 0) rfl rfl

theorem touch_mpAccept (hm : Sub 0x80000000000001 m) (o) (s : State) (hs : Touch m x s) : Touch m x (mpAccept o s) := by
  unfold mpAccept
  with_reducible repeat' first | apply Touch.ite_ | assumption | apply touch_raise | apply touch_lower | apply touch_setHpm | apply touch_putB | apply Touch.foldl_ | apply Touch.foldl_fst | apply Touch.foldl_snd | intro _ _ _ | intro _ _ | split | dsimp only
  all_goals first | exact hm.up rfl | exact hm.pg (k := 0) rfl rfl

theorem touch_mpRefuse (hm : Sub 0x1 m) (s : State) (hs : Touch m x s) : Touch m x (mpRefuse s) := by
  unfold mpRefuse
  with_reducible repeat' first | apply Touch.ite_ | assumption | apply touch_errSet | apply touch_raise | apply Touch.foldl_ | apply Touch.foldl_fst | apply Touch.foldl_snd | intro _ _ _ | intro _ _ | split | dsimp only
  all_goals first | exact hm.up rfl | with_reducible refine hm.pg (k := 0) (page_raw ?_) ?_ | with_reducible refine hm.pg (k := 0) (page_err ?_) ?_ | exact hm.pg (k := 0) rfl rfl

theorem touch_mpCmd (hm : Sub 0x80000000000001 m) (key op) (s : State) (hs : Touch m x s) : Touch m x (mpCmd key op s) := by
  unfold mpCmd
  with_reducible repeat' first | apply Touch.ite_ | assumption | apply touch_mpRefuse | apply touch_mpAccept | apply Touch.foldl_ | apply Touch.foldl_fst | apply Touch.foldl_snd | intro _ _ _ | intro _ _ | split | dsimp only
  all_goals first | exact hm.up rfl

theorem touch_rowComplete (hm : Sub 0x80000000040001 m) (s : State) (hs : Touch m x s) : Touch m x (rowComplete s) := by
  unfold rowComplete
  with_reducible repeat' first | apply Touch.ite_ | assumption | apply touch_incr | apply touch_memPutWords | apply touch_wr | apply touch_irq | apply touch_lower | apply touch_setHpm | apply Touch.foldl_ | apply Touch.foldl_fst | apply Touch.foldl_snd | intro _ _ _ | intro _ _ | split | dsimp only
  all_goals first | exact hm.up rfl | with_reducible refine hm.pg (k := 0) (page_raw ?_) ?_ | with_reducible refine hm.pg (k := 0) (page_err ?_) ?_ | exact hm.pg (k := 0) rfl rfl

theorem touch_warmBoot (hm : Sub 0x3FFFFFFFFFFFFFF m) (s : State) (h : Touch m x s) : Touch m x (warmBoot s) :=
  Touch.ite_ (touch_raise (by exact hm.pg (k := 0) rfl rfl) _ (touch_bootRun (hm.up rfl) _ _ _ _ h)) (touch_deviceReset (hm.up rfl) _ _ _ h)

theorem touch_apcClocks (hm : Sub 0x4000000 m) (stop) (s : State) (hs : Touch m x s) : Touch m x (apcClocks stop s) := by
  unfold apcClocks
  with_reducible repeat' first | apply Touch.ite_ | assumption | apply touch_putWarden

theorem touch_clockLost (hm : Sub 0x80000000000001 m) (s : State) (hs : Touch m x s) : Touch m x (clockLost s) := by
  unfold clockLost
  with_reducible repeat' first | apply Touch.ite_ | assumption | apply touch_incrSat | apply touch_irq | apply touch_errSet | apply touch_setHpm | apply Touch.foldl_ | apply Touch.foldl_fst | apply Touch.foldl_snd | intro _ _ _ | intro _ _ | split | dsimp only
  all_goals first | exact hm.up rfl | with_reducible refine hm.pg (k := 0) (page_raw ?_) ?_ | with_reducible refine hm.pg (k := 0) (page_err ?_) ?_ | exact hm.pg (k := 0) rfl rfl

theorem touch_gate (hm : Sub 0x4000000 m) (c l) (s : State) (hs : Touch m x s) : Touch m x (gate c l s) := by
  unfold gate
  with_reducible repeat' first | apply Touch.ite_ | assumption | apply Touch.each_ | apply touch_putWarden | apply Touch.foldl_ | apply Touch.foldl_fst | apply Touch.foldl_snd | intro _ _ _

theorem touch_pairsIdle (hm : Sub 0x100000 m) (r) (s : State) (h : Touch m x s) : Touch m x (pairsIdle r s).2 := by
  unfold pairsIdle
  dsimp only
  split <;> split <;> first | exact h | exact touch_pairIdle (hm.up rfl) _ _ h | exact touch_pairIdle (hm.up rfl) _ _ (touch_pairIdle (hm.up rfl) _ _ h)

theorem touch_moveTo (hm : Sub 0x3FFFFFFFFFFFFFF m) (n) (s : State) (hs : Touch m x s) : Touch m x (moveTo n s) := by
  unfold moveTo
  with_reducible repeat' first | apply Touch.ite_ | assumption | apply touch_put | apply touch_irq | apply touch_setHpm | apply touch_apcClocks | apply touch_lower | apply touch_raise | apply touch_powerSteps | apply touch_warmBoot | apply Touch.foldl_ | apply Touch.foldl_fst | apply Touch.foldl_snd | intro _ _ _ | intro _ _ | split | dsimp only
  all_goals first | exact hm.up rfl | with_reducible refine hm.pg (k := 0) (page_raw ?_) ?_ | with_reducible refine hm.pg (k := 0) (page_err ?_) ?_ | exact hm.pg (k := 0) rfl rfl

theorem touch_powerSelect (hm : Sub 0x3FFFFFFFFFFFFFF m) (awake) (s : State) (hs : Touch m x s) : Touch m x (powerSelect awake s) := by
  unfold powerSelect
  with_reducible repeat' first | apply Touch.ite_ | assumption | apply touch_pairsIdle | apply touch_moveTo | apply touch_put | apply Touch.foldl_ | apply Touch.foldl_fst | apply Touch.foldl_snd | intro _ _ _ | intro _ _ | split | dsimp only
  all_goals first | exact hm.up rfl | exact hm.pg (k := 0) rfl rfl

theorem touch_episodeEnd (hm : Sub 0x3FFFFFFFFFFFFFF m) (s : State) (hs : Touch m x s) : Touch m x (episodeEnd s) := by
  unfold episodeEnd
  with_reducible repeat' first | apply Touch.ite_ | assumption | apply touch_reach | apply touch_irq | apply touch_lower | apply touch_put | apply touch_gate | apply touch_amuBrownEnd | apply touch_setRosem | apply touch_record | apply touch_powerSelect | apply touch_powerSteps | apply Touch.foldl_ | apply Touch.foldl_fst | apply Touch.foldl_snd | intro _ _ _ | intro _ _ | split | dsimp only
  all_goals first | exact hm.up rfl | with_reducible refine hm.pg (k := 0) (page_raw ?_) ?_ | with_reducible refine hm.pg (k := 13) (page_raw ?_) ?_ | with_reducible refine hm.pg (k := 0) (page_err ?_) ?_ | with_reducible refine hm.pg (k := 13) (page_err ?_) ?_ | exact hm.pg (k := 0) rfl rfl | exact hm.pg (k := 13) rfl rfl

theorem touch_railWarn (hm : Sub 0x1 m) (rail mv) (s : State) (hs : Touch m x s) : Touch m x (railWarn rail mv s) := by
  unfold railWarn
  with_reducible repeat' first | apply Touch.ite_ | assumption | apply touch_raise | apply touch_put | apply Touch.foldl_ | apply Touch.foldl_fst | apply Touch.foldl_snd | intro _ _ _ | intro _ _ | split | dsimp only
  all_goals first | exact hm.up rfl | with_reducible refine hm.pg (page_aHPM_RAIL_V _) ?_ | exact hm.pg (k := 0) rfl rfl
  all_goals rfl

theorem touch_flush (hm : Sub 0x80000000000000 m) (s : State) (hs : Touch m x s) : Touch m x (flush s) := by
  unfold flush
  with_reducible repeat' first | apply Touch.ite_ | assumption | apply touch_setHpm

theorem touch_episodeStart (hm : Sub 0x3FFFEF9FFEFFFFF m) (rail mv) (s : State) (hs : Touch m x s) : Touch m x (episodeStart rail mv s) := by
  unfold episodeStart
  with_reducible repeat' first | apply Touch.ite_ | assumption | apply touch_railWarn | apply touch_setHpm | apply touch_irq | apply touch_raise | apply touch_gate | apply touch_bistAbort | apply touch_amuBrown | apply touch_flush | apply touch_incr | apply touch_sageEvt | apply Touch.foldl_ | apply Touch.foldl_fst | apply Touch.foldl_snd | intro _ _ _ | intro _ _ | split | dsimp only
  all_goals first | exact hm.up rfl | with_reducible refine hm.pg (k := 0) (page_raw ?_) ?_ | with_reducible refine hm.pg (k := 13) (page_raw ?_) ?_ | with_reducible refine hm.pg (k := 0) (page_err ?_) ?_ | with_reducible refine hm.pg (k := 13) (page_err ?_) ?_ | exact hm.pg (k := 0) rfl rfl | exact hm.pg (k := 13) rfl rfl

theorem touch_ltrWrite (hm : Sub 0x3FFFFFFFFFFFFFF m) (r d) (s : State) (hs : Touch m x s) : Touch m x (ltrWrite r d s) := by
  unfold ltrWrite
  with_reducible repeat' first | apply Touch.ite_ | assumption | apply touch_powerSelect | apply touch_storeAt | apply Touch.foldl_ | apply Touch.foldl_fst | apply Touch.foldl_snd | intro _ _ _ | intro _ _ | split | dsimp only
  all_goals first | exact hm.up rfl

theorem touch_sensorRegs (hm : Sub 0x1 m) (ts ok tmax) (s : State) (hs : Touch m x s) : Touch m x (sensorRegs ts ok tmax s) := by
  unfold sensorRegs
  with_reducible repeat' first | apply Touch.ite_ | assumption | apply Touch.each_ | apply touch_putB | apply touch_put | apply Touch.foldl_ | apply Touch.foldl_fst | apply Touch.foldl_snd | intro _ _ _ | intro _ _ | split | dsimp only
  all_goals first | exact hm.up rfl | with_reducible refine hm.pg (page_aHPM_TEMP _) ?_ | exact hm.pg (k := 0) rfl rfl
  all_goals rfl

theorem touch_thermEnter (hm : Sub 0x3FFFEF9FFEFFFFF m) (n tmax i) (s : State) (hs : Touch m x s) : Touch m x (thermEnter n tmax i s) := by
  unfold thermEnter
  with_reducible repeat' first | apply Touch.ite_ | assumption | apply touch_sageEvt | apply touch_irq | apply touch_record | apply touch_gate | apply touch_bistAbort | apply Touch.foldl_ | apply Touch.foldl_fst | apply Touch.foldl_snd | intro _ _ _ | intro _ _ | split | dsimp only
  all_goals first | exact hm.up rfl | with_reducible refine hm.pg (k := 0) (page_raw ?_) ?_ | with_reducible refine hm.pg (k := 0) (page_err ?_) ?_ | exact hm.pg (k := 0) rfl rfl

theorem touch_thermShut (hm : Sub 0x3FFFFFFFFFFFFFF m) (s : State) (h : Touch m x s) : Touch m x (thermShut s) :=
  touch_deviceReset (hm.up rfl) _ _ _ (touch_setHpm (hm.up rfl) _ _ (Touch.ite_ h (touch_flush (hm.up rfl) _ h)))

theorem touch_thermalStep (hm : Sub 0x3FFFEF9FFEFFFFF m) (tmax hot few) (s : State) (hs : Touch m x s) : Touch m x (thermalStep tmax hot few s) := by
  unfold thermalStep
  with_reducible repeat' first | apply Touch.ite_ | assumption | apply touch_put | apply touch_thermEnter | apply touch_gate | apply Touch.foldl_ | apply Touch.foldl_fst | apply Touch.foldl_snd | intro _ _ _ | intro _ _ | split | dsimp only
  all_goals first | exact hm.up rfl | exact hm.pg (k := 0) rfl rfl

theorem touch_thermalRead (hm : Sub 0x3FFFFFFFFFFFFFF m) (ts) (s : State) (hs : Touch m x s) : Touch m x (thermalRead ts s) := by
  unfold thermalRead
  with_reducible repeat' first | apply Touch.ite_ | assumption | apply touch_sensorRegs | apply touch_setHpm | apply touch_thermShut | apply touch_thermalStep | apply Touch.foldl_ | apply Touch.foldl_fst | apply Touch.foldl_snd | intro _ _ _ | intro _ _ | split | dsimp only
  all_goals first | exact hm.up rfl

theorem touch_unstableClear (hm : Sub 0x1 m) (s : State) (hs : Touch m x s) : Touch m x (unstableClear s) := by
  unfold unstableClear
  with_reducible repeat' first | apply Touch.ite_ | assumption | apply touch_lower | apply Touch.foldl_ | apply Touch.foldl_fst | apply Touch.foldl_snd | intro _ _ _ | intro _ _ | split | dsimp only
  all_goals first | exact hm.up rfl | exact hm.pg (k := 0) rfl rfl

theorem touch_wake (hm : Sub 0x3FFFFFFFFFFFFFF m) (src) (s : State) (hs : Touch m x s) : Touch m x (wake src s) := by
  unfold wake
  with_reducible repeat' first | apply Touch.ite_ | assumption | apply touch_moveTo | apply touch_put | apply Touch.foldl_ | apply Touch.foldl_fst | apply Touch.foldl_snd | intro _ _ _ | intro _ _ | split | dsimp only
  all_goals first | exact hm.up rfl | with_reducible refine hm.pg (page_aAPC_P0_IE _) ?_ | exact hm.pg (k := 0) rfl rfl

theorem touch_commitHook (hm : Sub 0x13FBAB91DE7FFFF m) (b) (o s : State) (hs : Touch m x s) : Touch m x (commitHook b o s) := by
  unfold commitHook
  with_reducible repeat' first | apply Touch.ite_ | assumption | apply touch_newlyRouted | apply touch_membersChanged | apply touch_refreshLoads | apply Touch.each_ | apply touch_portFrame | apply touch_giuConfig | apply touch_adcConfig | apply touch_fbiConfig | apply touch_amuConfig | apply touch_msioConfig | apply touch_pairConfig | apply touch_tmRestart | apply touch_setLivs | apply Touch.foldl_ | apply Touch.foldl_fst | apply Touch.foldl_snd | intro _ _ _ | intro _ _ | split | dsimp only
  all_goals first | exact hm.up rfl

theorem touch_commitApply (hm : Sub 0x13FBAB91DE7FFFF m) (b gen) (s : State) (hs : Touch m x s) : Touch m x (commitApply b gen s) := by
  unfold commitApply
  with_reducible repeat' first | apply Touch.ite_ | assumption | apply touch_amuBefore | apply touch_applyCmt | apply touch_irq | apply touch_lower | apply touch_put | apply touch_commitHook | apply Touch.foldl_ | apply Touch.foldl_fst | apply Touch.foldl_snd | intro _ _ _ | intro _ _ | split | dsimp only
  all_goals first | exact hm.up rfl | exact hm.pgAny rfl _

theorem touch_frameHook (hm : Sub 0x280000020D0 m) (b) (s : State) (hs : Touch m x s) : Touch m x (frameHook b s) := by
  unfold frameHook
  with_reducible repeat' first | apply Touch.ite_ | assumption | apply touch_profDone | apply touch_incr | apply touch_giuFrame | apply touch_adcFrame | apply touch_recFrame | apply Touch.foldl_ | apply Touch.foldl_fst | apply Touch.foldl_snd | intro _ _ _ | intro _ _ | split | dsimp only
  all_goals first | exact hm.up rfl | exact hm.pg (k := 4) rfl rfl

theorem touch_frameHit (hm : Sub 0x13FBABD1DEFFFFF m) (b t) (s : State) (hs : Touch m x s) : Touch m x (frameHit b t s) := by
  unfold frameHit
  with_reducible repeat' first | apply Touch.ite_ | assumption | apply touch_setFrames | apply touch_reach | apply touch_applyBnd | apply touch_commitApply | apply touch_frameHook | apply Touch.foldl_ | apply Touch.foldl_fst | apply Touch.foldl_snd | intro _ _ _ | intro _ _ | split | dsimp only
  all_goals first | exact hm.up rfl

theorem touch_blockBoundary (hm : Sub 0x17FBABD1DEFFFFF m) (b) (s : State) (hs : Touch m x s) : Touch m x (blockBoundary b s) := by
  unfold blockBoundary
  with_reducible repeat' first | apply Touch.ite_ | assumption | apply touch_canBoundary | apply touch_frameHit | apply Touch.foldl_ | apply Touch.foldl_fst | apply Touch.foldl_snd | intro _ _ _ | intro _ _ | split | dsimp only
  all_goals first | exact hm.up rfl

theorem touch_commitAbort (hm : Sub 0x43FFFF m) (b) (s : State) (hs : Touch m x s) : Touch m x (commitAbort b s) := by
  unfold commitAbort
  with_reducible repeat' first | apply Touch.ite_ | assumption | apply touch_dropCmt | apply touch_lower | apply Touch.foldl_ | apply Touch.foldl_fst | apply Touch.foldl_snd | intro _ _ _ | intro _ _ | split | dsimp only
  all_goals first | exact hm.up rfl | exact hm.pgAny rfl _

theorem touch_commitRefused (hm : Sub 0x2000003FFFF m) (b i) (s : State) (hs : Touch m x s) : Touch m x (commitRefused b i s) := by
  unfold commitRefused
  with_reducible repeat' first | apply Touch.ite_ | assumption | apply touch_cmtRefused | apply touch_irq | apply touch_errSet | apply Touch.foldl_ | apply Touch.foldl_fst | apply Touch.foldl_snd | intro _ _ _ | intro _ _ | split | dsimp only
  all_goals first | exact hm.up rfl | exact hm.pgAny rfl _

theorem touch_commitGo (hm : Sub 0x13FBAB91DE7FFFF m) (b gen) (s : State) (hs : Touch m x s) : Touch m x (commitGo b gen s) := by
  unfold commitGo
  with_reducible repeat' first | apply Touch.ite_ | assumption | apply touch_cmtRefused | apply touch_commitRefused | apply touch_put | apply touch_raise | apply touch_commitApply | apply Touch.foldl_ | apply Touch.foldl_fst | apply Touch.foldl_snd | intro _ _ _ | intro _ _ | split | dsimp only
  all_goals first | exact hm.up rfl | exact hm.pgAny rfl _

theorem touch_commitWrite (hm : Sub 0x13FBAB91DE7FFFF m) (b d) (s : State) (hs : Touch m x s) : Touch m x (commitWrite b d s) := by
  unfold commitWrite
  with_reducible repeat' first | apply Touch.ite_ | assumption | apply touch_cmtRefused | apply touch_commitGo | apply touch_commitAbort | apply Touch.foldl_ | apply Touch.foldl_fst | apply Touch.foldl_snd | intro _ _ _ | intro _ _ | split | dsimp only
  all_goals first | exact hm.up rfl | exact hm.pgAny rfl _

theorem touch_frameFirst (hm : Sub 0x13FBABD1DEFFFFF m) (b) (s : State) (hs : Touch m x s) : Touch m x (frameFirst b s) := by
  unfold frameFirst
  with_reducible repeat' first | apply Touch.ite_ | assumption | apply touch_frameHit | apply Touch.foldl_ | apply Touch.foldl_fst | apply Touch.foldl_snd | intro _ _ _ | intro _ _ | split

theorem touch_groupBoundary (hm : Sub 0x104B2F9DDFFFFFF m) (g) (s : State) (hs : Touch m x s) : Touch m x (groupBoundary g s) := by
  unfold groupBoundary
  with_reducible repeat' first | apply Touch.ite_ | assumption | apply touch_boundaryAt | apply touch_sendSet | apply touch_fbiPeriod | apply Touch.foldl_ | apply Touch.foldl_fst | apply Touch.foldl_snd | intro _ _ _ | intro _ _ | split | dsimp only
  all_goals first | exact hm.up rfl

theorem touch_logRead (hm : Sub 0x100000000 m) (a) (s : State) (hs : Touch m x s) : Touch m x (logRead a s) := by
  unfold logRead
  with_reducible repeat' first | apply Touch.ite_ | assumption | apply touch_setGiu

theorem touch_readMem (hm : Sub 0xE000002 m) (r a sz) (s : State) (hs : Touch m x s) : Touch m x (readMem r a sz s) := by
  unfold readMem
  with_reducible repeat' first | apply Touch.ite_ | assumption | apply touch_busFault | apply touch_fabAbsent | apply touch_busOk | apply touch_fabUse | apply Touch.foldl_ | apply Touch.foldl_fst | apply Touch.foldl_snd | intro _ _ _ | intro _ _ | split | dsimp only
  all_goals first | exact hm.up rfl

theorem touch_voteReg (hm : Sub 0x100B2B91C87FFFF m) (a) (s : State) (hs : Touch m x s) : Touch m x (voteReg a s) := by
  unfold voteReg
  with_reducible repeat' first | apply Touch.ite_ | assumption | apply touch_wr | apply touch_setTmr | apply Touch.each_ | apply touch_incrSat | apply Touch.when_ | apply touch_errEvent | apply touch_membersChanged | apply Touch.foldl_ | apply Touch.foldl_fst | apply Touch.foldl_snd | intro _ _ _ | intro _ _ | split | dsimp only
  all_goals first | exact hm.up rfl | exact hm.pgAny rfl _

theorem touch_readReg (hm : Sub 0x100B2B91E97FFFF m) (r b a ev) (s : State) (hs : Touch m x s) : Touch m x (readReg r b a ev s) := by
  unfold readReg
  with_reducible repeat' first | apply Touch.ite_ | assumption | apply touch_voteReg | apply touch_latchNow | apply touch_logRead | apply touch_busOk | apply touch_readBack | apply touch_put | apply touch_putCw | apply Touch.foldl_ | apply Touch.foldl_fst | apply Touch.foldl_snd | intro _ _ _ | intro _ _ | split | dsimp only
  all_goals first | exact hm.up rfl | with_reducible refine hm.pg (k := 5) ((page_inst _ _).trans ?_) ?_ | exact hm.pg (k := 5) rfl rfl

theorem touch_readAt (hm : Sub 0x100B2B91E97FFFF m) (r a sz ev) (s : State) (hs : Touch m x s) : Touch m x (readAt r a sz ev s) := by
  unfold readAt
  with_reducible repeat' first | apply Touch.ite_ | assumption | apply touch_readMem | apply touch_access | apply touch_readReg | apply touch_accessNarrow | apply Touch.foldl_ | apply Touch.foldl_fst | apply Touch.foldl_snd | intro _ _ _ | intro _ _ | split | dsimp only
  all_goals first | exact hm.up rfl | exact hm.homeAny rfl _

theorem touch_amuWrite (hm : Sub 0x20021001FBFFFF m) (a d) (s : State) (hs : Touch m x s) : Touch m x (amuWrite a d s) := by
  unfold amuWrite
  with_reducible repeat' first | apply Touch.ite_ | assumption | apply touch_axCmd | apply touch_axPosWrite | apply touch_rampWrite | apply touch_storeAt | apply Touch.foldl_ | apply Touch.foldl_fst | apply Touch.foldl_snd | intro _ _ _ | intro _ _ | split | dsimp only
  all_goals first | exact hm.up rfl

theorem touch_apcWdgWrite (hm : Sub 0x61001E3FFFF m) (i d) (s : State) (hs : Touch m x s) : Touch m x (apcWdgWrite i d s) := by
  unfold apcWdgWrite
  with_reducible repeat' first | apply Touch.ite_ | assumption | apply touch_storeAt | apply touch_putWdg | apply Touch.foldl_ | apply Touch.foldl_fst | apply Touch.foldl_snd | intro _ _ _ | intro _ _ | split | dsimp only
  all_goals first | exact hm.up rfl

theorem touch_apcWrite (hm : Sub 0x61001E3FFFF m) (a d) (s : State) (hs : Touch m x s) : Touch m x (apcWrite a d s) := by
  unfold apcWrite
  with_reducible repeat' first | apply Touch.ite_ | assumption | apply Touch.when_ | apply touch_lsInject | apply touch_apcWdgWrite | apply touch_apcKey | apply touch_storeAt | apply Touch.foldl_ | apply Touch.foldl_fst | apply Touch.foldl_snd | intro _ _ _ | intro _ _ | split | dsimp only
  all_goals first | exact hm.up rfl

theorem touch_canPageWrite (hm : Sub 0x40021001E3FFFF m) (r c a d) (s : State) (hs : Touch m x s) : Touch m x (canPageWrite r c a d s) := by
  unfold canPageWrite
  with_reducible repeat' first | apply Touch.ite_ | assumption | apply touch_canCmd | apply touch_mbCmd | apply touch_wr | apply touch_mbDataWrite | apply touch_canWrite | apply Touch.foldl_ | apply Touch.foldl_fst | apply Touch.foldl_snd | intro _ _ _ | intro _ _ | split | dsimp only
  all_goals first | exact hm.up rfl | with_reducible refine hm.pg (page_aCAN_CMD _) ?_ | with_reducible refine hm.pg ((page_bank _ _).trans (page_aCAN_CMD _)) ?_ | with_reducible refine hm.pg (page_aCAN_MB_CMD _) ?_ | with_reducible refine hm.pg ((page_bank _ _).trans (page_aCAN_MB_CMD _)) ?_ | with_reducible refine hm.pg (page_aCAN_MB_SEL _) ?_ | with_reducible refine hm.pg ((page_bank _ _).trans (page_aCAN_MB_SEL _)) ?_ | with_reducible refine hm.pg (page_aCAN_MB_DATA _ _) ?_ | with_reducible refine hm.pg ((page_bank _ _).trans (page_aCAN_MB_DATA _ _)) ?_ | exact hm.pgAny rfl _

theorem touch_cfgRefuse (hm : Sub 0x4 m) (s : State) (hs : Touch m x s) : Touch m x (cfgRefuse s) := by
  unfold cfgRefuse
  with_reducible repeat' first | apply Touch.ite_ | assumption | apply touch_irq | apply touch_errSet | apply Touch.foldl_ | apply Touch.foldl_fst | apply Touch.foldl_snd | intro _ _ _ | intro _ _ | split | dsimp only
  all_goals first | exact hm.up rfl | with_reducible refine hm.pg (k := 2) (page_raw ?_) ?_ | with_reducible refine hm.pg (k := 2) (page_err ?_) ?_ | exact hm.pg (k := 2) rfl rfl

theorem touch_crcEn (hm : Sub 0x103FFFF m) (b on) (s : State) (hs : Touch m x s) : Touch m x (crcEn b on s) := by
  unfold crcEn
  with_reducible repeat' first | apply Touch.ite_ | assumption | apply touch_setCrcRun | apply touch_putB | apply touch_lower | apply Touch.foldl_ | apply Touch.foldl_fst | apply Touch.foldl_snd | intro _ _ _ | intro _ _ | split | dsimp only
  all_goals first | exact hm.up rfl | exact hm.pgAny rfl _

theorem touch_crcPass (hm : Sub 0x2000103FFFF m) (b) (s : State) (hs : Touch m x s) : Touch m x (crcPass b s) := by
  unfold crcPass
  with_reducible repeat' first | apply Touch.ite_ | assumption | apply touch_setCrcRun | apply touch_raise | apply touch_wr | apply touch_lower | apply touch_errEvent | apply Touch.foldl_ | apply Touch.foldl_fst | apply Touch.foldl_snd | intro _ _ _ | intro _ _ | split | dsimp only
  all_goals first | exact hm.up rfl | exact hm.pgAny rfl _

theorem touch_tmrClr (hm : Sub 0x3FFFF m) (b) (s : State) (hs : Touch m x s) : Touch m x (tmrClr b s) := by
  unfold tmrClr
  with_reducible repeat' first | apply Touch.ite_ | assumption | apply touch_wr | apply Touch.foldl_ | apply Touch.foldl_fst | apply Touch.foldl_snd | intro _ _ _ | intro _ _ | split | dsimp only
  all_goals first | exact hm.up rfl | exact hm.pgAny rfl _

theorem touch_ctrlWrite (hm : Sub 0x20A2091D67FFFF m) (r b d) (s : State) (hs : Touch m x s) : Touch m x (ctrlWrite r b d s) := by
  unfold ctrlWrite
  with_reducible repeat' first | apply Touch.ite_ | assumption | apply touch_wr | apply Touch.when_ | apply touch_tmrClr | apply touch_crcEn | apply touch_ctrlSrst | apply Touch.foldl_ | apply Touch.foldl_fst | apply Touch.foldl_snd | intro _ _ _ | intro _ _ | split | dsimp only
  all_goals first | exact hm.up rfl | exact hm.pgAny rfl _

theorem touch_pcmtWrite (hm : Sub 0x20030040020 m) (r d) (s : State) (hs : Touch m x s) : Touch m x (pcmtWrite r d s) := by
  unfold pcmtWrite
  with_reducible repeat' first | apply Touch.ite_ | assumption | apply touch_cmtRefused | apply touch_paramCommit | apply touch_paramAbort | apply Touch.foldl_ | apply Touch.foldl_fst | apply Touch.foldl_snd | intro _ _ _ | intro _ _ | split | dsimp only
  all_goals first | exact hm.up rfl | exact hm.pg (k := 5) rfl rfl

theorem touch_ctxWrite (hm : Sub 0x104B2B9FDF7FFFF m) (r a d) (s : State) (hs : Touch m x s) : Touch m x (ctxWrite r a d s) := by
  unfold ctxWrite
  with_reducible repeat' first | apply Touch.ite_ | assumption | apply touch_trigCtx | apply touch_ctxCmd | apply touch_integWrite | apply touch_wr | apply touch_stageWord | apply touch_pcmtWrite | apply touch_stageAt | apply touch_putCw | apply touch_ctxWrErr | apply touch_ctxBndWrite | apply touch_storeAt | apply Touch.foldl_ | apply Touch.foldl_fst | apply Touch.foldl_snd | intro _ _ _ | intro _ _ | split | dsimp only
  all_goals first | exact hm.up rfl | exact hm.pgAny rfl _

theorem touch_engWrite (hm : Sub 0x104B2B9FDF7FFFF m) (r a d) (s : State) (hs : Touch m x s) : Touch m x (engWrite r a d s) := by
  unfold engWrite
  with_reducible repeat' first | apply Touch.ite_ | assumption | apply touch_ctxWrite | apply touch_put | apply touch_wselWrite | apply Touch.when_ | apply touch_ksReq | apply touch_ksDone | apply touch_ctxWrErr | apply touch_storeAt | apply Touch.foldl_ | apply Touch.foldl_fst | apply Touch.foldl_snd | intro _ _ _ | intro _ _ | split | dsimp only
  all_goals first | exact hm.up rfl | with_reducible refine hm.pg (k := 5) ((page_bank _ _).trans ?_) ?_
  all_goals rfl

theorem touch_fabWrite (hm : Sub 0x21001E3FFFF m) (a d) (s : State) (hs : Touch m x s) : Touch m x (fabWrite a d s) := by
  unfold fabWrite
  with_reducible repeat' first | apply Touch.ite_ | assumption | apply touch_storeAt | apply touch_lower | apply Touch.foldl_ | apply Touch.foldl_fst | apply Touch.foldl_snd | intro _ _ _ | intro _ _ | split | dsimp only
  all_goals first | exact hm.up rfl | exact hm.pg (k := 1) rfl rfl

theorem touch_giuWrite (hm : Sub 0x10002110DE3FFFF m) (a d) (s : State) (hs : Touch m x s) : Touch m x (giuWrite a d s) := by
  unfold giuWrite
  with_reducible repeat' first | apply Touch.ite_ | assumption | apply touch_storeAt | apply touch_setGiu | apply touch_lower | apply Touch.when_ | apply touch_rtAck | apply touch_scanRequest | apply Touch.foldl_ | apply Touch.foldl_fst | apply Touch.foldl_snd | intro _ _ _ | intro _ _ | split | dsimp only
  all_goals first | exact hm.up rfl | with_reducible refine hm.pg (page_aGIU_RT_CMD _) ?_ | with_reducible refine hm.pg (page_aGIU_TRK_CMD _) ?_ | exact hm.pg (k := 6) rfl rfl

theorem touch_hpmWrite (hm : Sub 0x3FFFFFFFFFFFFFF m) (r a d) (s : State) (hs : Touch m x s) : Touch m x (hpmWrite r a d s) := by
  unfold hpmWrite
  with_reducible repeat' first | apply Touch.ite_ | assumption | apply touch_ltrWrite | apply touch_powerWrite | apply Touch.when_ | apply touch_unstableClear | apply touch_i2cCmd | apply touch_storeAt | apply Touch.foldl_ | apply Touch.foldl_fst | apply Touch.foldl_snd | intro _ _ _ | intro _ _ | split | dsimp only
  all_goals first | exact hm.up rfl

theorem touch_keepSet (hm : Sub 0x3FFFF m) (r a hw) (s : State) (hs : Touch m x s) : Touch m x (keepSet r a hw s) := by
  unfold keepSet
  with_reducible repeat' first | apply Touch.ite_ | assumption | apply touch_wr | apply Touch.foldl_ | apply Touch.foldl_fst | apply Touch.foldl_snd | intro _ _ _ | intro _ _ | split | dsimp only
  all_goals first | exact hm.up rfl | exact hm.pgAny rfl _

theorem touch_legCfgWrite (hm : Sub 0x100B2B91DE7FFFF m) (n d) (s : State) (hs : Touch m x s) : Touch m x (legCfgWrite n d s) := by
  unfold legCfgWrite
  with_reducible repeat' first | apply Touch.ite_ | assumption | apply touch_cfgRefuse | apply touch_raise | apply touch_storeAt | apply touch_newlyEnabled | apply touch_membersChanged | apply Touch.foldl_ | apply Touch.foldl_fst | apply Touch.foldl_snd | intro _ _ _ | intro _ _ | split | dsimp only
  all_goals first | exact hm.up rfl | with_reducible refine hm.pg (page_aLEG_CFG _) ?_ | with_reducible refine hm.pg (page_aTBG_CFG _) ?_ | with_reducible refine hm.pg (page_aMG_CFG _) ?_ | with_reducible refine hm.pg (page_aLEG_STAT _) ?_
  all_goals rfl

theorem touch_legWrite (hm : Sub 0x100B2B91DE7FFFF m) (n a d) (s : State) (hs : Touch m x s) : Touch m x (legWrite n a d s) := by
  unfold legWrite
  with_reducible repeat' first | apply Touch.ite_ | assumption | apply touch_legCfgWrite | apply touch_cmpWrite | apply touch_cmpGen | apply touch_put | apply touch_tripClrWrite | apply touch_clrLeg | apply touch_armLeg | apply touch_newlyActing | apply touch_storeAt | apply Touch.foldl_ | apply Touch.foldl_fst | apply Touch.foldl_snd | intro _ _ _ | intro _ _ | split | dsimp only
  all_goals first | exact hm.up rfl | with_reducible refine hm.pg (page_aLEG_CFG _) ?_ | with_reducible refine hm.pg (page_aLEG_CMP_GEN _) ?_
  all_goals rfl

theorem touch_memStore (hm : Sub 0x40000 m) (sz a d) (s : State) (hs : Touch m x s) : Touch m x (memStore sz a d s) := by
  unfold memStore
  with_reducible repeat' first | apply Touch.ite_ | assumption | apply touch_memPut | apply touch_memBytes

theorem touch_mgCfgWrite (hm : Sub 0x21001E3FFFF m) (m2 d) (s : State) (hs : Touch m x s) : Touch m x (mgCfgWrite m2 d s) := by
  unfold mgCfgWrite
  with_reducible repeat' first | apply Touch.ite_ | assumption | apply touch_cfgRefuse | apply touch_storeAt | apply Touch.foldl_ | apply Touch.foldl_fst | apply Touch.foldl_snd | intro _ _ _ | intro _ _ | split | dsimp only
  all_goals first | exact hm.up rfl

theorem touch_msioWrite (hm : Sub 0x1021001F3FFFF m) (a d) (s : State) (hs : Touch m x s) : Touch m x (msioWrite a d s) := by
  unfold msioWrite
  with_reducible repeat' first | apply Touch.ite_ | assumption | apply touch_siFaultClear | apply touch_evCmd | apply touch_soUpdate | apply touch_storeAt | apply touch_soFaultClear | apply Touch.when_ | apply touch_smRearm | apply Touch.foldl_ | apply Touch.foldl_fst | apply Touch.foldl_snd | intro _ _ _ | intro _ _ | split | dsimp only
  all_goals first | exact hm.up rfl

theorem touch_ndlCtrlWrite (hm : Sub 0x100B2B91DE7FFFF m) (p d) (s : State) (hs : Touch m x s) : Touch m x (ndlCtrlWrite p d s) := by
  unfold ndlCtrlWrite
  with_reducible repeat' first | apply Touch.ite_ | assumption | apply touch_storeAt | apply touch_portEn | apply touch_portDis | apply Touch.foldl_ | apply Touch.foldl_fst | apply Touch.foldl_snd | intro _ _ _ | intro _ _ | split | dsimp only
  all_goals first | exact hm.up rfl

theorem touch_ndlWrite (hm : Sub 0x100B2B91DE7FFFF m) (a d) (s : State) (hs : Touch m x s) : Touch m x (ndlWrite a d s) := by
  unfold ndlWrite
  with_reducible repeat' first | apply Touch.ite_ | assumption | apply touch_ndlCtrlWrite | apply touch_tokenOp | apply touch_storeAt | apply touch_lower | apply Touch.foldl_ | apply Touch.foldl_fst | apply Touch.foldl_snd | intro _ _ _ | intro _ _ | split | dsimp only
  all_goals first | exact hm.up rfl | with_reducible refine hm.pg (page_aNDL_CTRL _) ?_ | with_reducible refine hm.pg (page_aNDL_TOKEN _) ?_ | exact hm.pg (k := 4) rfl rfl

theorem touch_recWrite (hm : Sub 0x10002100DE3FFFF m) (r a d) (s : State) (hs : Touch m x s) : Touch m x (recWrite r a d s) := by
  unfold recWrite
  with_reducible repeat' first | apply Touch.ite_ | assumption | apply touch_recCmd | apply touch_curSelect | apply touch_curMove | apply touch_softRecord | apply touch_wr | apply touch_storeAt | apply Touch.foldl_ | apply Touch.foldl_fst | apply Touch.foldl_snd | intro _ _ _ | intro _ _ | split | dsimp only
  all_goals first | exact hm.up rfl | with_reducible refine hm.pg (page_aREC_SW_DATA _) ?_ | with_reducible refine hm.pg ((page_bank _ _).trans (page_aREC_SW_DATA _)) ?_ | exact hm.pgAny rfl _

theorem touch_sysWrite (hm : Sub 0x3FFFFFFFFFFFFFF m) (r a d) (s : State) (hs : Touch m x s) : Touch m x (sysWrite r a d s) := by
  unfold sysWrite
  with_reducible repeat' first | apply Touch.ite_ | assumption | apply touch_softReset1 | apply Touch.when_ | apply touch_pairReset1 | apply touch_mpCmd | apply touch_storeAt | apply Touch.foldl_ | apply Touch.foldl_fst | apply Touch.foldl_snd | intro _ _ _ | intro _ _ | split | dsimp only
  all_goals first | exact hm.up rfl

theorem touch_tbgCfgWrite (hm : Sub 0x21001E3FFFF m) (g d) (s : State) (hs : Touch m x s) : Touch m x (tbgCfgWrite g d s) := by
  unfold tbgCfgWrite
  with_reducible repeat' first | apply Touch.ite_ | assumption | apply touch_cfgRefuse | apply touch_storeAt | apply Touch.foldl_ | apply Touch.foldl_fst | apply Touch.foldl_snd | intro _ _ _ | intro _ _ | split | dsimp only
  all_goals first | exact hm.up rfl

theorem touch_tbgWrite (hm : Sub 0x29801E7FFFF m) (g a d) (s : State) (hs : Touch m x s) : Touch m x (tbgWrite g a d s) := by
  unfold tbgWrite
  with_reducible repeat' first | apply Touch.ite_ | assumption | apply touch_tbgCfgWrite | apply touch_storeAt | apply touch_putTbg | apply Touch.when_ | apply touch_startGroup | apply touch_stopGroup | apply touch_tbgIrq | apply touch_errEvent | apply touch_tbgCommitGo | apply touch_tbgCommitAbort | apply Touch.foldl_ | apply Touch.foldl_fst | apply Touch.foldl_snd | intro _ _ _ | intro _ _ | split | dsimp only
  all_goals first | exact hm.up rfl | with_reducible refine hm.pg (page_aTBG_CFG _) ?_ | with_reducible refine hm.pg (page_aTBG_PERIOD _) ?_ | with_reducible refine hm.pg (page_aTBG_STAT _) ?_ | with_reducible refine hm.pg (page_aTBG_CMD _) ?_ | with_reducible refine hm.pg (page_aTBG_COMMIT _) ?_ | exact hm.pg (k := 2) rfl rfl

theorem touch_thyWrite (hm : Sub 0x100B2B91DE7FFFF m) (a d) (s : State) (hs : Touch m x s) : Touch m x (thyWrite a d s) := by
  unfold thyWrite
  with_reducible repeat' first | apply Touch.ite_ | assumption | apply touch_tbgWrite | apply touch_legWrite | apply touch_mgCfgWrite | apply touch_safeCmd | apply touch_tripClrWrite | apply touch_clrMg | apply touch_armMg | apply touch_storeAt | apply Touch.foldl_ | apply Touch.foldl_fst | apply Touch.foldl_snd | intro _ _ _ | intro _ _ | split | dsimp only
  all_goals first | exact hm.up rfl

theorem touch_sageWrite (hm : Sub 0x100B6B91DE7FFFF m) (a d) (s : State) (hs : Touch m x s) : Touch m x (sageWrite a d s) := by
  unfold sageWrite
  with_reducible repeat' first | apply Touch.ite_ | assumption | apply Touch.when_ | apply touch_nsClr | apply touch_setNotSafe | apply touch_sageMgCmd | apply touch_assertPins | apply touch_pinRel | apply touch_sageKey | apply touch_sageInject | apply touch_errSet | apply touch_storeAt | apply Touch.foldl_ | apply Touch.foldl_fst | apply Touch.foldl_snd | intro _ _ _ | intro _ _ | split | dsimp only
  all_goals first | exact hm.up rfl | with_reducible refine hm.pg (page_aSAGE_EVT_CFG _) ?_ | with_reducible refine hm.pg (k := 15) (page_raw ?_) ?_ | with_reducible refine hm.pg (k := 15) (page_err ?_) ?_ | exact hm.pg (k := 15) rfl rfl

theorem touch_regWrite (hm : Sub 0x3FFFFFFFFFFFFFF m) (r b a d) (s : State) (hs : Touch m x s) : Touch m x (regWrite r b a d s) := by
  unfold regWrite
  with_reducible repeat' first | apply Touch.ite_ | assumption | apply touch_voteReg | apply touch_ctrlWrite | apply touch_commitWrite | apply touch_sysWrite | apply touch_hpmWrite | apply touch_fabWrite | apply touch_thyWrite | apply touch_ndlWrite | apply touch_engWrite | apply touch_giuWrite | apply touch_swTrig | apply touch_storeAt | apply touch_fbCmd | apply touch_amuWrite | apply touch_canPageWrite | apply touch_msioWrite | apply touch_pairCmd | apply touch_recWrite | apply touch_bistCmd | apply touch_sageWrite | apply touch_apcWrite | apply Touch.foldl_ | apply Touch.foldl_fst | apply Touch.foldl_snd | intro _ _ _ | intro _ _ | split | dsimp only
  all_goals first | exact hm.up rfl

theorem touch_regArrive (hm : Sub 0x3FFFFFFFFFFFFFF m) (r b a d hw) (s : State) (hs : Touch m x s) : Touch m x (regArrive r b a d hw s) := by
  unfold regArrive
  with_reducible repeat' first | apply Touch.ite_ | assumption | apply touch_keepSet | apply touch_regWrite | apply touch_handFirst | apply touch_frameFirst | apply Touch.foldl_ | apply Touch.foldl_fst | apply Touch.foldl_snd | intro _ _ _ | intro _ _ | split | dsimp only
  all_goals first | exact hm.up rfl

theorem touch_tmrScrub (hm : Sub 0x100B2BD1C8FFFFF m) (s : State) (hs : Touch m x s) : Touch m x (tmrScrub s) := by
  unfold tmrScrub
  with_reducible repeat' first | apply Touch.ite_ | assumption | apply touch_setFrames | apply touch_reach | apply Touch.each_ | apply touch_voteReg | apply Touch.foldl_ | apply Touch.foldl_fst | apply Touch.foldl_snd | intro _ _ _ | intro _ _ | split | dsimp only
  all_goals first | exact hm.up rfl

theorem touch_writeMem (hm : Sub 0xE040022 m) (r a sz d) (s : State) (hs : Touch m x s) : Touch m x (writeMem r a sz d s) := by
  unfold writeMem
  with_reducible repeat' first | apply Touch.ite_ | assumption | apply touch_busFault | apply touch_fabAbsent | apply touch_fabUse | apply touch_busOk | apply touch_memStore | apply touch_ctxWrErr | apply Touch.foldl_ | apply Touch.foldl_fst | apply Touch.foldl_snd | intro _ _ _ | intro _ _ | split | dsimp only
  all_goals first | exact hm.up rfl

theorem touch_writeAt (hm : Sub 0x3FFFFFFFFFFFFFF m) (r a sz d hw) (s : State) (hs : Touch m x s) : Touch m x (writeAt r a sz d hw s) := by
  unfold writeAt
  with_reducible repeat' first | apply Touch.ite_ | assumption | apply touch_writeMem | apply touch_access | apply touch_regArrive | apply touch_accessNarrow | apply Touch.foldl_ | apply Touch.foldl_fst | apply Touch.foldl_snd | intro _ _ _ | intro _ _ | split | dsimp only
  all_goals first | exact hm.up rfl | exact hm.homeAny rfl _

theorem touch_hrpEnd (hm : Sub 0x20000 m) (cmd code index) (s : State) (hs : Touch m x s) : Touch m x (hrpEnd cmd code index s) := by
  unfold hrpEnd
  with_reducible repeat' first | apply Touch.ite_ | assumption | apply touch_wr | apply touch_incrSat | apply touch_incr | apply Touch.foldl_ | apply Touch.foldl_fst | apply Touch.foldl_snd | intro _ _ _ | intro _ _ | split | dsimp only
  all_goals first | exact hm.up rfl | exact hm.pg (k := 17) rfl rfl

theorem touch_hrpFill (hm : Sub 0x2000000 m) (n) (s : State) (hs : Touch m x s) : Touch m x (hrpFill n s) := by
  unfold hrpFill
  with_reducible repeat' first | apply Touch.ite_ | assumption | apply touch_setBus

theorem touch_hrpSend (hm : Sub 0x2000000 m) (s : State) (hs : Touch m x s) : Touch m x (hrpSend s) := by
  unfold hrpSend
  with_reducible repeat' first | apply Touch.ite_ | assumption | apply touch_setBus

theorem touch_hrpTake (hm : Sub 0x100B2B91E97FFFF m) (a) (s : State) (hs : Touch m x s) : Touch m x (hrpTake a s) := by
  unfold hrpTake
  with_reducible repeat' first | apply Touch.ite_ | assumption | apply touch_readAt | apply touch_setBus | apply Touch.foldl_ | apply Touch.foldl_fst | apply Touch.foldl_snd | intro _ _ _ | intro _ _ | split | dsimp only
  all_goals first | exact hm.up rfl

theorem touch_hrpWords (hm : Sub 0x20000 m) {α : Type} (wr) (go : Nat → α → State → State) (l a n) (s : State)
    (hg : ∀ a v y, Touch m x y → Touch m x (go a v y)) (h : Touch m x s) : Touch m x (hrpWords wr go l a n s).2.2 := by
  induction l generalizing a n s with
  | nil => exact h
  | cons v r ih =>
    have h' := hg a v _ (touch_wr (a := aHRP_LAST_ADDR) (by exact hm.pg (k := 17) rfl rfl) _ (BitVec.ofNat 32 a) h)
    unfold hrpWords
    dsimp only
    split
    · exact ih _ _ _ h'
    · exact h'

theorem touch_hrpXfer (hm : Sub 0x2020000 m) {α : Type} (cmd wr) (go : Nat → α → State → State) (l a c) (s : State)
    (hg : ∀ a v y, Touch m x y → Touch m x (go a v y)) (h : Touch m x s) : Touch m x (hrpXfer cmd wr go l a c s) := by
  have hb := touch_setBus (hm.up rfl) s { s.bus with hrpData := [] } h
  unfold hrpXfer
  exact Touch.ite_ h (Touch.ite_ (touch_hrpEnd (hm.up rfl) _ _ _ _ hb) (Touch.ite_ (touch_hrpEnd (hm.up rfl) _ _ _ _ hb)
    (touch_hrpEnd (hm.up rfl) _ _ _ _ (touch_hrpWords (hm.up rfl) _ _ _ _ _ _ hg hb))))

end Sys2Proof.Laws
end

