-- ==== Sys2Proof/Laws/Out.lean ====
section
/-! SUPPORT. What a command's outcome says: a next state is one in which Sage has handled what the command caused. -/
namespace Sys2Proof.Laws
open Sys2Proof.Machine

/-- An outcome that is a next state is the settled one of a state that differs from `s` in at most the parts of a mask. -/
def Out (m : Nat) (s : State) (o : Host.Outcome State Fault Refusal) : Prop := ∀ t, o = .next t → ∃ u, t = settle u ∧ Touch m s u

theorem out_done {m : Nat} {s u : State} (h : Touch m s u) : Out m s (done u) := by
  intro t ht
  unfold done at ht
  cases ht
  exact ⟨u, rfl, h⟩

theorem out_fault {m : Nat} {s : State} (f : Fault) : Out m s (.fault f) := by
  intro t ht; cases ht

theorem out_cmdAt {m : Nat} {s u : State} (hm : Sub 0x2000E000002 m) {a : Nat} (ha : HomeIn m a) (r : Req) (k : State → State)
    (hk : ∀ y, Touch m s y → Touch m s (k y)) (h : Touch m s u) : Out m s (cmdAt r a k u) :=
  out_done (touch_access hm ha _ _ _ _ hk h)

theorem out_ite {m : Nat} {s : State} {c : Prop} [Decidable c] {p q : Host.Outcome State Fault Refusal} (h : Out m s p) (k : Out m s q) :
    Out m s (if c then p else q) := by split <;> assumption

end Sys2Proof.Laws
end

