-- ==== Sys2Proof/Laws/CommandsA.lean ====
section
/-! SUPPORT. The commands, in the order of their files, the first hundred: what they may change before Sage handles what they caused. -/
namespace Sys2Proof.Laws
open Sys2Proof.Machine

variable {m : Nat} {x : State}

theorem out_execArbitrationLoss (c) (s : State) :
    Out 0x40000000000400 s (execArbitrationLoss c s) := by
  have hm := Sub.refl 0x40000000000400
  have hs := Touch.rfl' 0x40000000000400 s
  unfold execArbitrationLoss
  with_reducible repeat' first | apply out_ite | apply Touch.ite_ | assumption | apply out_cmdAt | apply out_done | apply out_fault | apply touch_attemptFails | apply touch_canBusy | apply touch_put | apply Touch.foldl_ | apply Touch.foldl_fst | apply Touch.foldl_snd | intro _ _ _ | intro _ _ | split | dsimp only
  all_goals first | exact hm.up rfl | with_reducible refine hm.pg (page_aCAN_MB_STAT _ _) ?_
  all_goals rfl

theorem out_execBusError (c kind recessive f) (s : State) :
    Out 0x14000000C002402 s (execBusError c kind recessive f s) := by
  have hm := Sub.refl 0x14000000C002402
  have hs := Touch.rfl' 0x14000000C002402 s
  unfold execBusError
  with_reducible repeat' first | apply out_ite | apply Touch.ite_ | assumption | apply out_cmdAt | apply out_done | apply out_fault | apply touch_busError

theorem out_execBusOffRecovery (c) (s : State) :
    Out 0x40000000000400 s (execBusOffRecovery c s) := by
  have hm := Sub.refl 0x40000000000400
  have hs := Touch.rfl' 0x40000000000400 s
  unfold execBusOffRecovery
  with_reducible repeat' first | apply out_ite | apply Touch.ite_ | assumption | apply out_cmdAt | apply out_done | apply out_fault | apply touch_busOffRecovery

theorem out_execFrameReceived (c f sof) (s : State) :
    Out 0x14100000C182402 s (execFrameReceived c f sof s) := by
  have hm := Sub.refl 0x14100000C182402
  have hs := Touch.rfl' 0x14100000C182402 s
  unfold execFrameReceived
  with_reducible repeat' first | apply out_ite | apply Touch.ite_ | assumption | apply out_cmdAt | apply out_done | apply out_fault | apply touch_frameIn

theorem out_execFrameTransmitted (c sof) (s : State) :
    Out 0x14100000C182402 s (execFrameTransmitted c sof s) := by
  have hm := Sub.refl 0x14100000C182402
  have hs := Touch.rfl' 0x14100000C182402 s
  unfold execFrameTransmitted
  with_reducible repeat' first | apply out_ite | apply Touch.ite_ | assumption | apply out_cmdAt | apply out_done | apply out_fault | apply touch_frameOut

theorem out_execIntegration (c) (s : State) :
    Out 0x14000000C002402 s (execIntegration c s) := by
  have hm := Sub.refl 0x14000000C002402
  have hs := Touch.rfl' 0x14000000C002402 s
  unfold execIntegration
  with_reducible repeat' first | apply out_ite | apply Touch.ite_ | assumption | apply out_cmdAt | apply out_done | apply out_fault | apply touch_integrate

theorem out_execPop (r c) (s : State) :
    Out 0x4002000E000402 s (execPop r c s) := by
  have hm := Sub.refl 0x4002000E000402
  have hs := Touch.rfl' 0x4002000E000402 s
  unfold execPop
  with_reducible repeat' first | apply out_ite | apply Touch.ite_ | assumption | apply out_cmdAt | apply out_done | apply out_fault | apply touch_access | apply touch_canCmd | apply Touch.foldl_ | apply Touch.foldl_fst | apply Touch.foldl_snd | intro _ _ _ | intro _ _ | split | dsimp only
  all_goals first | exact hm.up rfl | with_reducible refine hm.pg (page_aCAN_CMD _) ?_ | with_reducible refine hm.home (page_aCAN_CMD _) ?_
  all_goals rfl

theorem out_execRecover (r c) (s : State) :
    Out 0x4002000E000402 s (execRecover r c s) := by
  have hm := Sub.refl 0x4002000E000402
  have hs := Touch.rfl' 0x4002000E000402 s
  unfold execRecover
  with_reducible repeat' first | apply out_ite | apply Touch.ite_ | assumption | apply out_cmdAt | apply out_done | apply out_fault | apply touch_access | apply touch_canCmd | apply Touch.foldl_ | apply Touch.foldl_fst | apply Touch.foldl_snd | intro _ _ _ | intro _ _ | split | dsimp only
  all_goals first | exact hm.up rfl | with_reducible refine hm.pg (page_aCAN_CMD _) ?_ | with_reducible refine hm.home (page_aCAN_CMD _) ?_
  all_goals rfl

theorem out_execTxAbort (r c b) (s : State) :
    Out 0x4002000E000402 s (execTxAbort r c b s) := by
  have hm := Sub.refl 0x4002000E000402
  have hs := Touch.rfl' 0x4002000E000402 s
  unfold execTxAbort
  with_reducible repeat' first | apply out_ite | apply Touch.ite_ | assumption | apply out_cmdAt | apply out_done | apply out_fault | apply touch_access | apply touch_mbCmd | apply Touch.foldl_ | apply Touch.foldl_fst | apply Touch.foldl_snd | intro _ _ _ | intro _ _ | split | dsimp only
  all_goals first | exact hm.up rfl | with_reducible refine hm.pg (page_aCAN_MB_CMD _) ?_ | with_reducible refine hm.home (page_aCAN_MB_CMD _) ?_
  all_goals rfl

theorem out_execTxRequest (r c b) (s : State) :
    Out 0x4002000E000402 s (execTxRequest r c b s) := by
  have hm := Sub.refl 0x4002000E000402
  have hs := Touch.rfl' 0x4002000E000402 s
  unfold execTxRequest
  with_reducible repeat' first | apply out_ite | apply Touch.ite_ | assumption | apply out_cmdAt | apply out_done | apply out_fault | apply touch_access | apply touch_mbCmd | apply Touch.foldl_ | apply Touch.foldl_fst | apply Touch.foldl_snd | intro _ _ _ | intro _ _ | split | dsimp only
  all_goals first | exact hm.up rfl | with_reducible refine hm.pg (page_aCAN_MB_CMD _) ?_ | with_reducible refine hm.home (page_aCAN_MB_CMD _) ?_
  all_goals rfl

theorem out_execDiscrepancy (k) (s : State) :
    Out 0x1020000080800 s (execDiscrepancy k s) := by
  have hm := Sub.refl 0x1020000080800
  have hs := Touch.rfl' 0x1020000080800 s
  unfold execDiscrepancy
  with_reducible repeat' first | apply out_ite | apply Touch.ite_ | assumption | apply out_cmdAt | apply out_done | apply out_fault | apply touch_discrepancy

theorem out_execEvFaultClear (r mask) (s : State) :
    Out 0x102000E000802 s (execEvFaultClear r mask s) := by
  have hm := Sub.refl 0x102000E000802
  have hs := Touch.rfl' 0x102000E000802 s
  unfold execEvFaultClear
  with_reducible repeat' first | apply out_ite | apply Touch.ite_ | assumption | apply out_cmdAt | apply out_done | apply out_fault | apply touch_access | apply touch_evCmd | apply Touch.foldl_ | apply Touch.foldl_fst | apply Touch.foldl_snd | intro _ _ _ | intro _ _ | split | dsimp only
  all_goals first | exact hm.up rfl | exact hm.pg (k := 11) rfl rfl

theorem out_execEvReset (r mask) (s : State) :
    Out 0x102000E000802 s (execEvReset r mask s) := by
  have hm := Sub.refl 0x102000E000802
  have hs := Touch.rfl' 0x102000E000802 s
  unfold execEvReset
  with_reducible repeat' first | apply out_ite | apply Touch.ite_ | assumption | apply out_cmdAt | apply out_done | apply out_fault | apply touch_access | apply touch_evCmd | apply Touch.foldl_ | apply Touch.foldl_fst | apply Touch.foldl_snd | intro _ _ _ | intro _ _ | split | dsimp only
  all_goals first | exact hm.up rfl | exact hm.pg (k := 11) rfl rfl

theorem out_execInputTest (i pass) (s : State) :
    Out 0x1020000080800 s (execInputTest i pass s) := by
  have hm := Sub.refl 0x1020000080800
  have hs := Touch.rfl' 0x1020000080800 s
  unfold execInputTest
  with_reducible repeat' first | apply out_ite | apply Touch.ite_ | assumption | apply out_cmdAt | apply out_done | apply out_fault | apply touch_inputTest

theorem out_execOffPulse (j) (s : State) :
    Out 0x1000000080000 s (execOffPulse j s) := by
  have hm := Sub.refl 0x1000000080000
  have hs := Touch.rfl' 0x1000000080000 s
  unfold execOffPulse
  with_reducible repeat' first | apply out_ite | apply Touch.ite_ | assumption | apply out_cmdAt | apply out_done | apply out_fault | apply touch_offPulse

theorem out_execPairWindow (c) (s : State) :
    Out 0x1020000080800 s (execPairWindow c s) := by
  have hm := Sub.refl 0x1020000080800
  have hs := Touch.rfl' 0x1020000080800 s
  unfold execPairWindow
  with_reducible repeat' first | apply out_ite | apply Touch.ite_ | assumption | apply out_cmdAt | apply out_done | apply out_fault | apply touch_pairWindow

theorem out_execReadbackFault (j on) (s : State) :
    Out 0x1020000000800 s (execReadbackFault j on s) := by
  have hm := Sub.refl 0x1020000000800
  have hs := Touch.rfl' 0x1020000000800 s
  unfold execReadbackFault
  with_reducible repeat' first | apply out_ite | apply Touch.ite_ | assumption | apply out_cmdAt | apply out_done | apply out_fault | apply touch_readbackFault

theorem out_execRearm (r c) (s : State) :
    Out 0x102000E000802 s (execRearm r c s) := by
  have hm := Sub.refl 0x102000E000802
  have hs := Touch.rfl' 0x102000E000802 s
  unfold execRearm
  with_reducible repeat' first | apply out_ite | apply Touch.ite_ | assumption | apply out_cmdAt | apply out_done | apply out_fault | apply touch_access | apply touch_smRearm | apply Touch.foldl_ | apply Touch.foldl_fst | apply Touch.foldl_snd | intro _ _ _ | intro _ _ | split | dsimp only
  all_goals first | exact hm.up rfl | with_reducible refine hm.pg (page_aMSIO_SM_CMD _) ?_ | with_reducible refine hm.home (page_aMSIO_SM_CMD _) ?_
  all_goals rfl

theorem out_execSafeCopy (c netB bs) (s : State) :
    Out 0x102000C000802 s (execSafeCopy c netB bs s) := by
  have hm := Sub.refl 0x102000C000802
  have hs := Touch.rfl' 0x102000C000802 s
  unfold execSafeCopy
  with_reducible repeat' first | apply out_ite | apply Touch.ite_ | assumption | apply out_cmdAt | apply out_done | apply out_fault | apply touch_putSm | apply touch_fabSend | apply touch_safeCopy | apply Touch.foldl_ | apply Touch.foldl_fst | apply Touch.foldl_snd | intro _ _ _ | intro _ _ | split | dsimp only
  all_goals first | exact hm.up rfl

theorem out_execSafeSend (c) (s : State) :
    Out 0x41020000080C00 s (execSafeSend c s) := by
  have hm := Sub.refl 0x41020000080C00
  have hs := Touch.rfl' 0x41020000080C00 s
  unfold execSafeSend
  with_reducible repeat' first | apply out_ite | apply Touch.ite_ | assumption | apply out_cmdAt | apply out_done | apply out_fault | apply touch_safeSend

theorem out_execSiChange (i lvl) (s : State) :
    Out 0x1020000080800 s (execSiChange i lvl s) := by
  have hm := Sub.refl 0x1020000080800
  have hs := Touch.rfl' 0x1020000080800 s
  unfold execSiChange
  with_reducible repeat' first | apply out_ite | apply Touch.ite_ | assumption | apply out_cmdAt | apply out_done | apply out_fault | apply touch_siChange

theorem out_execSiFaultClear (r mask) (s : State) :
    Out 0x102000E000802 s (execSiFaultClear r mask s) := by
  have hm := Sub.refl 0x102000E000802
  have hs := Touch.rfl' 0x102000E000802 s
  unfold execSiFaultClear
  with_reducible repeat' first | apply out_ite | apply Touch.ite_ | assumption | apply out_cmdAt | apply out_done | apply out_fault | apply touch_access | apply touch_siFaultClear | apply Touch.foldl_ | apply Touch.foldl_fst | apply Touch.foldl_snd | intro _ _ _ | intro _ _ | split | dsimp only
  all_goals first | exact hm.up rfl | exact hm.pg (k := 11) rfl rfl

theorem out_execSmTimeout (c) (s : State) :
    Out 0x1020000080800 s (execSmTimeout c s) := by
  have hm := Sub.refl 0x1020000080800
  have hs := Touch.rfl' 0x1020000080800 s
  unfold execSmTimeout
  with_reducible repeat' first | apply out_ite | apply Touch.ite_ | assumption | apply out_cmdAt | apply out_done | apply out_fault | apply touch_smTimeout

theorem out_execSoFaultClear (r mask) (s : State) :
    Out 0x102000E100802 s (execSoFaultClear r mask s) := by
  have hm := Sub.refl 0x102000E100802
  have hs := Touch.rfl' 0x102000E100802 s
  unfold execSoFaultClear
  with_reducible repeat' first | apply out_ite | apply Touch.ite_ | assumption | apply out_cmdAt | apply out_done | apply out_fault | apply touch_access | apply touch_soFaultClear | apply Touch.foldl_ | apply Touch.foldl_fst | apply Touch.foldl_snd | intro _ _ _ | intro _ _ | split | dsimp only
  all_goals first | exact hm.up rfl | exact hm.pg (k := 11) rfl rfl

theorem out_execSyncFail (k) (s : State) :
    Out 0x1000000080800 s (execSyncFail k s) := by
  have hm := Sub.refl 0x1000000080800
  have hs := Touch.rfl' 0x1000000080800 s
  unfold execSyncFail
  with_reducible repeat' first | apply out_ite | apply Touch.ite_ | assumption | apply out_cmdAt | apply out_done | apply out_fault | apply touch_syncFail

theorem out_execBasilInput (src inst sel raw pred) (s : State) :
    Out 0x9C000002 s (execBasilInput src inst sel raw pred s) := by
  have hm := Sub.refl 0x9C000002
  have hs := Touch.rfl' 0x9C000002 s
  unfold execBasilInput
  with_reducible repeat' first | apply out_ite | apply Touch.ite_ | assumption | apply out_cmdAt | apply out_done | apply out_fault | apply touch_basilInput

theorem out_execLatestStart (k) (s : State) :
    Out 0x100B2B9DC0DB07E s (execLatestStart k s) := by
  have hm := Sub.refl 0x100B2B9DC0DB07E
  have hs := Touch.rfl' 0x100B2B9DC0DB07E s
  unfold execLatestStart
  with_reducible repeat' first | apply out_ite | apply Touch.ite_ | assumption | apply out_cmdAt | apply out_done | apply out_fault | apply touch_latestStart

theorem out_execStepComplete (l mis) (s : State) :
    Out 0x100B2B9DC0DB07E s (execStepComplete l mis s) := by
  have hm := Sub.refl 0x100B2B9DC0DB07E
  have hs := Touch.rfl' 0x100B2B9DC0DB07E s
  unfold execStepComplete
  with_reducible repeat' first | apply out_ite | apply Touch.ite_ | assumption | apply out_cmdAt | apply out_done | apply out_fault | apply touch_endDead | apply touch_overrun | apply touch_reach | apply touch_freeLanes | apply touch_privMismatch | apply touch_finishStep | apply Touch.foldl_ | apply Touch.foldl_fst | apply Touch.foldl_snd | intro _ _ _ | intro _ _ | split | dsimp only
  all_goals first | exact hm.up rfl

theorem out_execStepDeadline (k) (s : State) :
    Out 0x100B2B9DC0DB07E s (execStepDeadline k s) := by
  have hm := Sub.refl 0x100B2B9DC0DB07E
  have hs := Touch.rfl' 0x100B2B9DC0DB07E s
  unfold execStepDeadline
  with_reducible repeat' first | apply out_ite | apply Touch.ite_ | assumption | apply out_cmdAt | apply out_done | apply out_fault | apply touch_stepDeadline

theorem out_execStepRelease (k) (s : State) :
    Out 0x100B2B95C05B07E s (execStepRelease k s) := by
  have hm := Sub.refl 0x100B2B95C05B07E
  have hs := Touch.rfl' 0x100B2B95C05B07E s
  unfold execStepRelease
  with_reducible repeat' first | apply out_ite | apply Touch.ite_ | assumption | apply out_cmdAt | apply out_done | apply out_fault | apply touch_releaseStep

theorem out_execStepStart (s : State) :
    Out 0xD0040000 s (execStepStart s) := by
  have hm := Sub.refl 0xD0040000
  have hs := Touch.rfl' 0xD0040000 s
  unfold execStepStart
  with_reducible repeat' first | apply out_ite | apply Touch.ite_ | assumption | apply out_cmdAt | apply out_done | apply out_fault | apply touch_setBasil | apply touch_startStep | apply Touch.foldl_ | apply Touch.foldl_fst | apply Touch.foldl_snd | intro _ _ _ | intro _ _ | split | dsimp only
  all_goals first | exact hm.up rfl

theorem out_execAdmitCtx (r) (s : State) :
    Out 0x100B2B9DE65B07E s (execAdmitCtx r s) := by
  have hm := Sub.refl 0x100B2B9DE65B07E
  have hs := Touch.rfl' 0x100B2B9DE65B07E s
  unfold execAdmitCtx
  with_reducible repeat' first | apply out_ite | apply Touch.ite_ | assumption | apply out_cmdAt | apply out_done | apply out_fault | apply touch_ctxCmdAt

theorem out_execClearCtx (r) (s : State) :
    Out 0x100B2B9DE65B07E s (execClearCtx r s) := by
  have hm := Sub.refl 0x100B2B9DE65B07E
  have hs := Touch.rfl' 0x100B2B9DE65B07E s
  unfold execClearCtx
  with_reducible repeat' first | apply out_ite | apply Touch.ite_ | assumption | apply out_cmdAt | apply out_done | apply out_fault | apply touch_ctxCmdAt

theorem out_execCtxCrcCheck (k) (s : State) :
    Out 0x100B2B95C05B07E s (execCtxCrcCheck k s) := by
  have hm := Sub.refl 0x100B2B95C05B07E
  have hs := Touch.rfl' 0x100B2B95C05B07E s
  unfold execCtxCrcCheck
  with_reducible repeat' first | apply out_ite | apply Touch.ite_ | assumption | apply out_cmdAt | apply out_done | apply out_fault | apply touch_haltCtx

theorem out_execIntegratorSet (r v) (s : State) :
    Out 0x2001E040022 s (execIntegratorSet r v s) := by
  have hm := Sub.refl 0x2001E040022
  have hs := Touch.rfl' 0x2001E040022 s
  unfold execIntegratorSet
  with_reducible repeat' first | apply out_ite | apply Touch.ite_ | assumption | apply out_cmdAt | apply out_done | apply out_fault | apply touch_access | apply touch_integWrite | apply Touch.foldl_ | apply Touch.foldl_fst | apply Touch.foldl_snd | intro _ _ _ | intro _ _ | split | dsimp only
  all_goals first | exact hm.up rfl | exact hm.pg (k := 5) rfl rfl

theorem out_execKsDone (r) (s : State) :
    Out 0x2008E000022 s (execKsDone r s) := by
  have hm := Sub.refl 0x2008E000022
  have hs := Touch.rfl' 0x2008E000022 s
  unfold execKsDone
  with_reducible repeat' first | apply out_ite | apply Touch.ite_ | assumption | apply out_cmdAt | apply out_done | apply out_fault | apply touch_access | apply touch_ksDone | apply Touch.foldl_ | apply Touch.foldl_fst | apply Touch.foldl_snd | intro _ _ _ | intro _ _ | split | dsimp only
  all_goals first | exact hm.up rfl | exact hm.pg (k := 5) rfl rfl

theorem out_execKsReloadReq (r) (s : State) :
    Out 0x2008E03FFFF s (execKsReloadReq r s) := by
  have hm := Sub.refl 0x2008E03FFFF
  have hs := Touch.rfl' 0x2008E03FFFF s
  unfold execKsReloadReq
  with_reducible repeat' first | apply out_ite | apply Touch.ite_ | assumption | apply out_cmdAt | apply out_done | apply out_fault | apply touch_access | apply touch_ksReq | apply Touch.foldl_ | apply Touch.foldl_fst | apply Touch.foldl_snd | intro _ _ _ | intro _ _ | split | dsimp only
  all_goals first | exact hm.up rfl | exact hm.pg (k := 5) rfl rfl

theorem out_execKsVerify (s : State) :
    Out 0x2008403FFFF s (execKsVerify s) := by
  have hm := Sub.refl 0x2008403FFFF
  have hs := Touch.rfl' 0x2008403FFFF s
  unfold execKsVerify
  with_reducible repeat' first | apply out_ite | apply Touch.ite_ | assumption | apply out_cmdAt | apply out_done | apply out_fault | apply touch_ksVerify

theorem out_execLoadWindow (s : State) :
    Out 0xC0080020 s (execLoadWindow s) := by
  have hm := Sub.refl 0xC0080020
  have hs := Touch.rfl' 0xC0080020 s
  unfold execLoadWindow
  with_reducible repeat' first | apply out_ite | apply Touch.ite_ | assumption | apply out_cmdAt | apply out_done | apply out_fault | apply touch_loadWindow

theorem out_execParamAbort (r) (s : State) :
    Out 0x2003E000022 s (execParamAbort r s) := by
  have hm := Sub.refl 0x2003E000022
  have hs := Touch.rfl' 0x2003E000022 s
  unfold execParamAbort
  with_reducible repeat' first | apply out_ite | apply Touch.ite_ | assumption | apply out_cmdAt | apply out_done | apply out_fault | apply touch_access | apply touch_paramAbort | apply Touch.foldl_ | apply Touch.foldl_fst | apply Touch.foldl_snd | intro _ _ _ | intro _ _ | split | dsimp only
  all_goals first | exact hm.up rfl | exact hm.pg (k := 5) rfl rfl

theorem out_execParamCommit (r gen) (s : State) :
    Out 0x2003E040022 s (execParamCommit r gen s) := by
  have hm := Sub.refl 0x2003E040022
  have hs := Touch.rfl' 0x2003E040022 s
  unfold execParamCommit
  with_reducible repeat' first | apply out_ite | apply Touch.ite_ | assumption | apply out_cmdAt | apply out_done | apply out_fault | apply touch_access | apply touch_paramCommit | apply Touch.foldl_ | apply Touch.foldl_fst | apply Touch.foldl_snd | intro _ _ _ | intro _ _ | split | dsimp only
  all_goals first | exact hm.up rfl | exact hm.pg (k := 5) rfl rfl

theorem out_execReleaseCtx (r) (s : State) :
    Out 0x100B2B9DE65B07E s (execReleaseCtx r s) := by
  have hm := Sub.refl 0x100B2B9DE65B07E
  have hs := Touch.rfl' 0x100B2B9DE65B07E s
  unfold execReleaseCtx
  with_reducible repeat' first | apply out_ite | apply Touch.ite_ | assumption | apply out_cmdAt | apply out_done | apply out_fault | apply touch_ctxCmdAt

theorem out_execStageWord (r d) (s : State) :
    Out 0x2002E000022 s (execStageWord r d s) := by
  have hm := Sub.refl 0x2002E000022
  have hs := Touch.rfl' 0x2002E000022 s
  unfold execStageWord
  with_reducible repeat' first | apply out_ite | apply Touch.ite_ | assumption | apply out_cmdAt | apply out_done | apply out_fault | apply touch_access | apply touch_stageWord | apply Touch.foldl_ | apply Touch.foldl_fst | apply Touch.foldl_snd | intro _ _ _ | intro _ _ | split | dsimp only
  all_goals first | exact hm.up rfl | exact hm.pg (k := 5) rfl rfl

theorem out_execStartCtx (r) (s : State) :
    Out 0x100B2B9DE65B07E s (execStartCtx r s) := by
  have hm := Sub.refl 0x100B2B9DE65B07E
  have hs := Touch.rfl' 0x100B2B9DE65B07E s
  unfold execStartCtx
  with_reducible repeat' first | apply out_ite | apply Touch.ite_ | assumption | apply out_cmdAt | apply out_done | apply out_fault | apply touch_ctxCmdAt

theorem out_execStopCtx (r) (s : State) :
    Out 0x100B2B9DE65B07E s (execStopCtx r s) := by
  have hm := Sub.refl 0x100B2B9DE65B07E
  have hs := Touch.rfl' 0x100B2B9DE65B07E s
  unfold execStopCtx
  with_reducible repeat' first | apply out_ite | apply Touch.ite_ | assumption | apply out_cmdAt | apply out_done | apply out_fault | apply touch_ctxCmdAt

theorem out_execWselWrite (r k) (s : State) :
    Out 0x2002E000022 s (execWselWrite r k s) := by
  have hm := Sub.refl 0x2002E000022
  have hs := Touch.rfl' 0x2002E000022 s
  unfold execWselWrite
  with_reducible repeat' first | apply out_ite | apply Touch.ite_ | assumption | apply out_cmdAt | apply out_done | apply out_fault | apply touch_access | apply touch_wselWrite | apply Touch.foldl_ | apply Touch.foldl_fst | apply Touch.foldl_snd | intro _ _ _ | intro _ _ | split | dsimp only
  all_goals first | exact hm.up rfl | exact hm.pg (k := 5) rfl rfl

theorem out_execGiuReference (u id iq) (s : State) :
    Out 0x10C000002 s (execGiuReference u id iq s) := by
  have hm := Sub.refl 0x10C000002
  have hs := Touch.rfl' 0x10C000002 s
  unfold execGiuReference
  with_reducible repeat' first | apply out_ite | apply Touch.ite_ | assumption | apply out_cmdAt | apply out_done | apply out_fault | apply touch_fabSend | apply touch_giuReference | apply touch_setGiu | apply Touch.foldl_ | apply Touch.foldl_fst | apply Touch.foldl_snd | intro _ _ _ | intro _ _ | split | dsimp only
  all_goals first | exact hm.up rfl

theorem out_execMpptStep (t) (s : State) :
    Out 0x100080040 s (execMpptStep t s) := by
  have hm := Sub.refl 0x100080040
  have hs := Touch.rfl' 0x100080040 s
  unfold execMpptStep
  with_reducible repeat' first | apply out_ite | apply Touch.ite_ | assumption | apply out_cmdAt | apply out_done | apply out_fault | apply touch_mpptStep

theorem out_execPllStep (u a b c) (s : State) :
    Out 0x10002010C082042 s (execPllStep u a b c s) := by
  have hm := Sub.refl 0x10002010C082042
  have hs := Touch.rfl' 0x10002010C082042 s
  unfold execPllStep
  with_reducible repeat' first | apply out_ite | apply Touch.ite_ | assumption | apply out_cmdAt | apply out_done | apply out_fault | apply touch_pllRun | apply touch_setGiu | apply Touch.foldl_ | apply Touch.foldl_fst | apply Touch.foldl_snd | intro _ _ _ | intro _ _ | split | dsimp only
  all_goals first | exact hm.up rfl

theorem out_execRtAck (r u) (s : State) :
    Out 0x10002010E002042 s (execRtAck r u s) := by
  have hm := Sub.refl 0x10002010E002042
  have hs := Touch.rfl' 0x10002010E002042 s
  unfold execRtAck
  with_reducible repeat' first | apply out_ite | apply Touch.ite_ | assumption | apply out_cmdAt | apply out_done | apply out_fault | apply touch_access | apply touch_rtAck | apply Touch.foldl_ | apply Touch.foldl_fst | apply Touch.foldl_snd | intro _ _ _ | intro _ _ | split | dsimp only
  all_goals first | exact hm.up rfl | with_reducible refine hm.pg (page_aGIU_RT_CMD _) ?_ | with_reducible refine hm.home (page_aGIU_RT_CMD _) ?_
  all_goals rfl

theorem out_execScanDwell (t) (s : State) :
    Out 0x100080040 s (execScanDwell t s) := by
  have hm := Sub.refl 0x100080040
  have hs := Touch.rfl' 0x100080040 s
  unfold execScanDwell
  with_reducible repeat' first | apply out_ite | apply Touch.ite_ | assumption | apply out_cmdAt | apply out_done | apply out_fault | apply touch_scanDwell

theorem out_execScanStart (t) (s : State) :
    Out 0x100080040 s (execScanStart t s) := by
  have hm := Sub.refl 0x100080040
  have hs := Touch.rfl' 0x100080040 s
  unfold execScanStart
  with_reducible repeat' first | apply out_ite | apply Touch.ite_ | assumption | apply out_cmdAt | apply out_done | apply out_fault | apply touch_scanPeriod

theorem out_execTrackerItem (t v i olim safe run) (s : State) :
    Out 0x10C000042 s (execTrackerItem t v i olim safe run s) := by
  have hm := Sub.refl 0x10C000042
  have hs := Touch.rfl' 0x10C000042 s
  unfold execTrackerItem
  with_reducible repeat' first | apply out_ite | apply Touch.ite_ | assumption | apply out_cmdAt | apply out_done | apply out_fault | apply touch_fabSend | apply touch_trackerItem | apply touch_setGiu | apply Touch.foldl_ | apply Touch.foldl_fst | apply Touch.foldl_snd | intro _ _ _ | intro _ _ | split | dsimp only
  all_goals first | exact hm.up rfl

theorem out_execTrkScan (r t) (s : State) :
    Out 0x2010E000042 s (execTrkScan r t s) := by
  have hm := Sub.refl 0x2010E000042
  have hs := Touch.rfl' 0x2010E000042 s
  unfold execTrkScan
  with_reducible repeat' first | apply out_ite | apply Touch.ite_ | assumption | apply out_cmdAt | apply out_done | apply out_fault | apply touch_access | apply touch_scanRequest | apply Touch.foldl_ | apply Touch.foldl_fst | apply Touch.foldl_snd | intro _ _ _ | intro _ _ | split | dsimp only
  all_goals first | exact hm.up rfl | with_reducible refine hm.pg (page_aGIU_TRK_CMD _) ?_ | with_reducible refine hm.home (page_aGIU_TRK_CMD _) ?_
  all_goals rfl

theorem out_execEmulationEdge (e) (s : State) :
    Out 0x10000000080100 s (execEmulationEdge e s) := by
  have hm := Sub.refl 0x10000000080100
  have hs := Touch.rfl' 0x10000000080100 s
  unfold execEmulationEdge
  with_reducible repeat' first | apply out_ite | apply Touch.ite_ | assumption | apply out_cmdAt | apply out_done | apply out_fault | apply touch_emuEdge

theorem out_execEncoderEdge (c a b z t) (s : State) :
    Out 0x14000000080100 s (execEncoderEdge c a b z t s) := by
  have hm := Sub.refl 0x14000000080100
  have hs := Touch.rfl' 0x14000000080100 s
  unfold execEncoderEdge
  with_reducible repeat' first | apply out_ite | apply Touch.ite_ | assumption | apply out_cmdAt | apply out_done | apply out_fault | apply touch_reach | apply touch_encoderEdge | apply Touch.foldl_ | apply Touch.foldl_fst | apply Touch.foldl_snd | intro _ _ _ | intro _ _ | split | dsimp only
  all_goals first | exact hm.up rfl

theorem out_execFbArm (r c) (s : State) :
    Out 0x1402000E000102 s (execFbArm r c s) := by
  have hm := Sub.refl 0x1402000E000102
  have hs := Touch.rfl' 0x1402000E000102 s
  unfold execFbArm
  with_reducible repeat' first | apply out_ite | apply Touch.ite_ | assumption | apply out_cmdAt | apply out_done | apply out_fault | apply touch_access | apply touch_fbCmd | apply Touch.foldl_ | apply Touch.foldl_fst | apply Touch.foldl_snd | intro _ _ _ | intro _ _ | split | dsimp only
  all_goals first | exact hm.up rfl | with_reducible refine hm.pg (page_aFB_CMD _) ?_ | with_reducible refine hm.home (page_aFB_CMD _) ?_
  all_goals rfl

theorem out_execFbClr (r c) (s : State) :
    Out 0x1402000E000102 s (execFbClr r c s) := by
  have hm := Sub.refl 0x1402000E000102
  have hs := Touch.rfl' 0x1402000E000102 s
  unfold execFbClr
  with_reducible repeat' first | apply out_ite | apply Touch.ite_ | assumption | apply out_cmdAt | apply out_done | apply out_fault | apply touch_access | apply touch_fbCmd | apply Touch.foldl_ | apply Touch.foldl_fst | apply Touch.foldl_snd | intro _ _ _ | intro _ _ | split | dsimp only
  all_goals first | exact hm.up rfl | with_reducible refine hm.pg (page_aFB_CMD _) ?_ | with_reducible refine hm.home (page_aFB_CMD _) ?_
  all_goals rfl

theorem out_execFbPreset (r c) (s : State) :
    Out 0x1402000E000102 s (execFbPreset r c s) := by
  have hm := Sub.refl 0x1402000E000102
  have hs := Touch.rfl' 0x1402000E000102 s
  unfold execFbPreset
  with_reducible repeat' first | apply out_ite | apply Touch.ite_ | assumption | apply out_cmdAt | apply out_done | apply out_fault | apply touch_access | apply touch_fbCmd | apply Touch.foldl_ | apply Touch.foldl_fst | apply Touch.foldl_snd | intro _ _ _ | intro _ _ | split | dsimp only
  all_goals first | exact hm.up rfl | with_reducible refine hm.pg (page_aFB_CMD _) ?_ | with_reducible refine hm.home (page_aFB_CMD _) ?_
  all_goals rfl

theorem out_execIndexEvent (c) (s : State) :
    Out 0x14000000000100 s (execIndexEvent c s) := by
  have hm := Sub.refl 0x14000000000100
  have hs := Touch.rfl' 0x14000000000100 s
  unfold execIndexEvent
  with_reducible repeat' first | apply out_ite | apply Touch.ite_ | assumption | apply out_cmdAt | apply out_done | apply out_fault | apply touch_indexEvent | apply touch_putFb | apply Touch.foldl_ | apply Touch.foldl_fst | apply Touch.foldl_snd | intro _ _ _ | intro _ _ | split | dsimp only
  all_goals first | exact hm.up rfl

theorem out_execResolverEnvelope (n sn cs los t) (s : State) :
    Out 0x18000000080100 s (execResolverEnvelope n sn cs los t s) := by
  have hm := Sub.refl 0x18000000080100
  have hs := Touch.rfl' 0x18000000080100 s
  unfold execResolverEnvelope
  with_reducible repeat' first | apply out_ite | apply Touch.ite_ | assumption | apply out_cmdAt | apply out_done | apply out_fault | apply touch_envelope | apply touch_putRes | apply touch_reach | apply Touch.foldl_ | apply Touch.foldl_fst | apply Touch.foldl_snd | intro _ _ _ | intro _ _ | split | dsimp only
  all_goals first | exact hm.up rfl

theorem out_execResolverStale (n) (s : State) :
    Out 0x80100 s (execResolverStale n s) := by
  have hm := Sub.refl 0x80100
  have hs := Touch.rfl' 0x80100 s
  unfold execResolverStale
  with_reducible repeat' first | apply out_ite | apply Touch.ite_ | assumption | apply out_cmdAt | apply out_done | apply out_fault | apply touch_raise | apply touch_reach | apply Touch.foldl_ | apply Touch.foldl_fst | apply Touch.foldl_snd | intro _ _ _ | intro _ _ | split | dsimp only
  all_goals first | exact hm.up rfl | with_reducible refine hm.pg (page_aFB_RES_CFG _) ?_ | with_reducible refine hm.pg (page_aFB_RES_STAT _) ?_
  all_goals rfl

theorem out_execCmpGenWrite (r n gen) (s : State) :
    Out 0x100B2F9DE65B07E s (execCmpGenWrite r n gen s) := by
  have hm := Sub.refl 0x100B2F9DE65B07E
  have hs := Touch.rfl' 0x100B2F9DE65B07E s
  unfold execCmpGenWrite
  with_reducible repeat' first | apply out_ite | apply Touch.ite_ | assumption | apply out_cmdAt | apply out_done | apply out_fault | apply touch_cmpGen | apply touch_handFirst | apply Touch.foldl_ | apply Touch.foldl_fst | apply Touch.foldl_snd | intro _ _ _ | intro _ _ | split | dsimp only
  all_goals first | exact hm.up rfl | with_reducible refine hm.pg (page_aLEG_CMP_GEN _) ?_ | with_reducible refine hm.home (page_aLEG_CMP_GEN _) ?_
  all_goals rfl

theorem out_execCompareSet (g) (s : State) :
    Out 0x80C000002 s (execCompareSet g s) := by
  have hm := Sub.refl 0x80C000002
  have hs := Touch.rfl' 0x80C000002 s
  unfold execCompareSet
  with_reducible repeat' first | apply out_ite | apply Touch.ite_ | assumption | apply out_cmdAt | apply out_done | apply out_fault | apply touch_fabSend | apply touch_putTbg | apply Touch.foldl_ | apply Touch.foldl_fst | apply Touch.foldl_snd | intro _ _ _ | intro _ _ | split | dsimp only
  all_goals first | exact hm.up rfl

theorem out_execCompareWrite (r n w v) (s : State) :
    Out 0x100B2F9DEE7FFFF s (execCompareWrite r n w v s) := by
  have hm := Sub.refl 0x100B2F9DEE7FFFF
  have hs := Touch.rfl' 0x100B2F9DEE7FFFF s
  unfold execCompareWrite
  with_reducible repeat' first | apply out_ite | apply Touch.ite_ | assumption | apply out_cmdAt | apply out_done | apply out_fault | apply touch_cmpWrite | apply touch_handFirst | apply Touch.foldl_ | apply Touch.foldl_fst | apply Touch.foldl_snd | intro _ _ _ | intro _ _ | split | dsimp only
  all_goals first | exact hm.up rfl | with_reducible refine hm.pg (page_cmpAddr _ _) ?_ | with_reducible refine hm.home (page_cmpAddr _ _) ?_
  all_goals rfl

theorem out_execFineCalibration (taps ok) (s : State) :
    Out 0x20000000004 s (execFineCalibration taps ok s) := by
  have hm := Sub.refl 0x20000000004
  have hs := Touch.rfl' 0x20000000004 s
  unfold execFineCalibration
  with_reducible repeat' first | apply out_ite | apply Touch.ite_ | assumption | apply out_cmdAt | apply out_done | apply out_fault | apply touch_putB | apply touch_put | apply touch_lower | apply touch_sageEvt | apply touch_errSet | apply Touch.foldl_ | apply Touch.foldl_fst | apply Touch.foldl_snd | intro _ _ _ | intro _ _ | split | dsimp only
  all_goals first | exact hm.up rfl | with_reducible refine hm.pg (k := 2) (page_raw ?_) ?_ | with_reducible refine hm.pg (k := 2) (page_err ?_) ?_ | exact hm.pg (k := 2) rfl rfl

theorem out_execHandOff (g) (s : State) :
    Out 0x100B2F9DC6DB07E s (execHandOff g s) := by
  have hm := Sub.refl 0x100B2F9DC6DB07E
  have hs := Touch.rfl' 0x100B2F9DC6DB07E s
  unfold execHandOff
  with_reducible repeat' first | apply out_ite | apply Touch.ite_ | assumption | apply out_cmdAt | apply out_done | apply out_fault | apply touch_handOffAt

theorem out_execTbgCommit (r g gen) (s : State) :
    Out 0x100B2F9DFE7FFFF s (execTbgCommit r g gen s) := by
  have hm := Sub.refl 0x100B2F9DFE7FFFF
  have hs := Touch.rfl' 0x100B2F9DFE7FFFF s
  unfold execTbgCommit
  with_reducible repeat' first | apply out_ite | apply Touch.ite_ | assumption | apply out_cmdAt | apply out_done | apply out_fault | apply touch_tbgCommitGo | apply touch_handFirst | apply Touch.foldl_ | apply Touch.foldl_fst | apply Touch.foldl_snd | intro _ _ _ | intro _ _ | split | dsimp only
  all_goals first | exact hm.up rfl | with_reducible refine hm.pg (page_aTBG_COMMIT _) ?_ | with_reducible refine hm.home (page_aTBG_COMMIT _) ?_
  all_goals rfl

theorem out_execTbgCommitAbort (r g) (s : State) :
    Out 0x100B2F9DE65B07E s (execTbgCommitAbort r g s) := by
  have hm := Sub.refl 0x100B2F9DE65B07E
  have hs := Touch.rfl' 0x100B2F9DE65B07E s
  unfold execTbgCommitAbort
  with_reducible repeat' first | apply out_ite | apply Touch.ite_ | assumption | apply out_cmdAt | apply out_done | apply out_fault | apply touch_tbgCommitAbort | apply touch_handFirst | apply Touch.foldl_ | apply Touch.foldl_fst | apply Touch.foldl_snd | intro _ _ _ | intro _ _ | split | dsimp only
  all_goals first | exact hm.up rfl | with_reducible refine hm.pg (page_aTBG_COMMIT _) ?_ | with_reducible refine hm.home (page_aTBG_COMMIT _) ?_
  all_goals rfl

theorem out_execTbgStart (r g) (s : State) :
    Out 0x2080E000006 s (execTbgStart r g s) := by
  have hm := Sub.refl 0x2080E000006
  have hs := Touch.rfl' 0x2080E000006 s
  unfold execTbgStart
  with_reducible repeat' first | apply out_ite | apply Touch.ite_ | assumption | apply out_cmdAt | apply out_done | apply out_fault | apply touch_startGroup | apply Touch.foldl_ | apply Touch.foldl_fst | apply Touch.foldl_snd | intro _ _ _ | intro _ _ | split | dsimp only
  all_goals first | exact hm.up rfl | with_reducible refine hm.pg (page_aTBG_CMD _) ?_ | with_reducible refine hm.home (page_aTBG_CMD _) ?_
  all_goals rfl

theorem out_execTbgStop (r g) (s : State) :
    Out 0x2080E000006 s (execTbgStop r g s) := by
  have hm := Sub.refl 0x2080E000006
  have hs := Touch.rfl' 0x2080E000006 s
  unfold execTbgStop
  with_reducible repeat' first | apply out_ite | apply Touch.ite_ | assumption | apply out_cmdAt | apply out_done | apply out_fault | apply touch_stopGroup | apply Touch.foldl_ | apply Touch.foldl_fst | apply Touch.foldl_snd | intro _ _ _ | intro _ _ | split | dsimp only
  all_goals first | exact hm.up rfl | with_reducible refine hm.pg (page_aTBG_CMD _) ?_ | with_reducible refine hm.home (page_aTBG_CMD _) ?_
  all_goals rfl

theorem out_execThyNowRead (r) (s : State) :
    Out 0x2000E000006 s (execThyNowRead r s) := by
  have hm := Sub.refl 0x2000E000006
  have hs := Touch.rfl' 0x2000E000006 s
  unfold execThyNowRead
  with_reducible repeat' first | apply out_ite | apply Touch.ite_ | assumption | apply out_cmdAt | apply out_done | apply out_fault | apply touch_access | apply touch_latchNow | apply Touch.foldl_ | apply Touch.foldl_fst | apply Touch.foldl_snd | intro _ _ _ | intro _ _ | split | dsimp only
  all_goals first | exact hm.up rfl | exact hm.pg (k := 2) rfl rfl

theorem out_execAsc (r m2) (s : State) :
    Out 0x100B2B91E05B07E s (execAsc r m2 s) := by
  have hm := Sub.refl 0x100B2B91E05B07E
  have hs := Touch.rfl' 0x100B2B91E05B07E s
  unfold execAsc
  with_reducible repeat' first | apply out_ite | apply Touch.ite_ | assumption | apply out_cmdAt | apply out_done | apply out_fault | apply touch_softAsc | apply Touch.foldl_ | apply Touch.foldl_fst | apply Touch.foldl_snd | intro _ _ _ | intro _ _ | split | dsimp only
  all_goals first | exact hm.up rfl | with_reducible refine hm.pg (page_aMG_SAFE_CMD _) ?_ | with_reducible refine hm.home (page_aMG_SAFE_CMD _) ?_
  all_goals rfl

theorem out_execBlankingEnd (n) (s : State) :
    Out 0x100B2B91C0DB07E s (execBlankingEnd n s) := by
  have hm := Sub.refl 0x100B2B91C0DB07E
  have hs := Touch.rfl' 0x100B2B91C0DB07E s
  unfold execBlankingEnd
  with_reducible repeat' first | apply out_ite | apply Touch.ite_ | assumption | apply out_cmdAt | apply out_done | apply out_fault | apply touch_reach | apply touch_reAct | apply touch_putLeg | apply Touch.foldl_ | apply Touch.foldl_fst | apply Touch.foldl_snd | intro _ _ _ | intro _ _ | split | dsimp only
  all_goals first | exact hm.up rfl

theorem out_execDeferredClear (t) (s : State) :
    Out 0xB00008001C s (execDeferredClear t s) := by
  have hm := Sub.refl 0xB00008001C
  have hs := Touch.rfl' 0xB00008001C s
  unfold execDeferredClear
  with_reducible repeat' first | apply out_ite | apply Touch.ite_ | assumption | apply out_cmdAt | apply out_done | apply out_fault | apply touch_armedLeg | apply touch_reach | apply touch_armedMg | apply Touch.foldl_ | apply Touch.foldl_fst | apply Touch.foldl_snd | intro _ _ _ | intro _ _ | split | dsimp only
  all_goals first | exact hm.up rfl

theorem out_execDischargeBleed (r m2) (s : State) :
    Out 0x100B2B91E04B07E s (execDischargeBleed r m2 s) := by
  have hm := Sub.refl 0x100B2B91E04B07E
  have hs := Touch.rfl' 0x100B2B91E04B07E s
  unfold execDischargeBleed
  with_reducible repeat' first | apply out_ite | apply Touch.ite_ | assumption | apply out_cmdAt | apply out_done | apply out_fault | apply touch_softDischarge | apply Touch.foldl_ | apply Touch.foldl_fst | apply Touch.foldl_snd | intro _ _ _ | intro _ _ | split | dsimp only
  all_goals first | exact hm.up rfl | with_reducible refine hm.pg (page_aMG_SAFE_CMD _) ?_ | with_reducible refine hm.home (page_aMG_SAFE_CMD _) ?_
  all_goals rfl

theorem out_execDischargeWinding (r m2) (s : State) :
    Out 0x100B2B91E04B07E s (execDischargeWinding r m2 s) := by
  have hm := Sub.refl 0x100B2B91E04B07E
  have hs := Touch.rfl' 0x100B2B91E04B07E s
  unfold execDischargeWinding
  with_reducible repeat' first | apply out_ite | apply Touch.ite_ | assumption | apply out_cmdAt | apply out_done | apply out_fault | apply touch_softDischarge | apply Touch.foldl_ | apply Touch.foldl_fst | apply Touch.foldl_snd | intro _ _ _ | intro _ _ | split | dsimp only
  all_goals first | exact hm.up rfl | with_reducible refine hm.pg (page_aMG_SAFE_CMD _) ?_ | with_reducible refine hm.home (page_aMG_SAFE_CMD _) ?_
  all_goals rfl

theorem out_execMgRelease (r m2) (s : State) :
    Out 0x2B00E00001E s (execMgRelease r m2 s) := by
  have hm := Sub.refl 0x2B00E00001E
  have hs := Touch.rfl' 0x2B00E00001E s
  unfold execMgRelease
  with_reducible repeat' first | apply out_ite | apply Touch.ite_ | assumption | apply out_cmdAt | apply out_done | apply out_fault | apply touch_softRelease | apply Touch.foldl_ | apply Touch.foldl_fst | apply Touch.foldl_snd | intro _ _ _ | intro _ _ | split | dsimp only
  all_goals first | exact hm.up rfl | with_reducible refine hm.pg (page_aMG_SAFE_CMD _) ?_ | with_reducible refine hm.home (page_aMG_SAFE_CMD _) ?_
  all_goals rfl

theorem out_execMgTripClear (r m2) (s : State) :
    Out 0x2200E00000E s (execMgTripClear r m2 s) := by
  have hm := Sub.refl 0x2200E00000E
  have hs := Touch.rfl' 0x2200E00000E s
  unfold execMgTripClear
  with_reducible repeat' first | apply out_ite | apply Touch.ite_ | assumption | apply out_cmdAt | apply out_done | apply out_fault | apply touch_clrMg | apply Touch.foldl_ | apply Touch.foldl_fst | apply Touch.foldl_snd | intro _ _ _ | intro _ _ | split | dsimp only
  all_goals first | exact hm.up rfl | with_reducible refine hm.pg (page_aMG_TRIP_CLR _) ?_ | with_reducible refine hm.home (page_aMG_TRIP_CLR _) ?_
  all_goals rfl

theorem out_execMgTripClearArm (r m2) (s : State) :
    Out 0x2000E00000E s (execMgTripClearArm r m2 s) := by
  have hm := Sub.refl 0x2000E00000E
  have hs := Touch.rfl' 0x2000E00000E s
  unfold execMgTripClearArm
  with_reducible repeat' first | apply out_ite | apply Touch.ite_ | assumption | apply out_cmdAt | apply out_done | apply out_fault | apply touch_armMg | apply Touch.foldl_ | apply Touch.foldl_fst | apply Touch.foldl_snd | intro _ _ _ | intro _ _ | split | dsimp only
  all_goals first | exact hm.up rfl | with_reducible refine hm.pg (page_aMG_TRIP_CLR _) ?_ | with_reducible refine hm.home (page_aMG_TRIP_CLR _) ?_
  all_goals rfl

theorem out_execPulseOff (r m2) (s : State) :
    Out 0x100B2B91E05B07E s (execPulseOff r m2 s) := by
  have hm := Sub.refl 0x100B2B91E05B07E
  have hs := Touch.rfl' 0x100B2B91E05B07E s
  unfold execPulseOff
  with_reducible repeat' first | apply out_ite | apply Touch.ite_ | assumption | apply out_cmdAt | apply out_done | apply out_fault | apply touch_softPulseOff | apply Touch.foldl_ | apply Touch.foldl_fst | apply Touch.foldl_snd | intro _ _ _ | intro _ _ | split | dsimp only
  all_goals first | exact hm.up rfl | with_reducible refine hm.pg (page_aMG_SAFE_CMD _) ?_ | with_reducible refine hm.home (page_aMG_SAFE_CMD _) ?_
  all_goals rfl

theorem out_execTripClear (r n) (s : State) :
    Out 0x2900E00001E s (execTripClear r n s) := by
  have hm := Sub.refl 0x2900E00001E
  have hs := Touch.rfl' 0x2900E00001E s
  unfold execTripClear
  with_reducible repeat' first | apply out_ite | apply Touch.ite_ | assumption | apply out_cmdAt | apply out_done | apply out_fault | apply touch_clrLeg | apply Touch.foldl_ | apply Touch.foldl_fst | apply Touch.foldl_snd | intro _ _ _ | intro _ _ | split | dsimp only
  all_goals first | exact hm.up rfl | with_reducible refine hm.pg (page_aLEG_TRIP_CLR _) ?_ | with_reducible refine hm.home (page_aLEG_TRIP_CLR _) ?_
  all_goals rfl

theorem out_execTripClearArm (r n) (s : State) :
    Out 0x2900E00001E s (execTripClearArm r n s) := by
  have hm := Sub.refl 0x2900E00001E
  have hs := Touch.rfl' 0x2900E00001E s
  unfold execTripClearArm
  with_reducible repeat' first | apply out_ite | apply Touch.ite_ | assumption | apply out_cmdAt | apply out_done | apply out_fault | apply touch_armLeg | apply Touch.foldl_ | apply Touch.foldl_fst | apply Touch.foldl_snd | intro _ _ _ | intro _ _ | split | dsimp only
  all_goals first | exact hm.up rfl | with_reducible refine hm.pg (page_aLEG_TRIP_CLR _) ?_ | with_reducible refine hm.home (page_aLEG_TRIP_CLR _) ?_
  all_goals rfl

theorem out_execTripSourceAssert (x2) (s : State) :
    Out 0x100B2B91C05B07E s (execTripSourceAssert x2 s) := by
  have hm := Sub.refl 0x100B2B91C05B07E
  have hs := Touch.rfl' 0x100B2B91C05B07E s
  unfold execTripSourceAssert
  with_reducible repeat' first | apply out_ite | apply Touch.ite_ | assumption | apply out_cmdAt | apply out_done | apply out_fault | apply touch_sourceOn

theorem out_execTripSourceRelease (x2) (s : State) :
    Out 0x100B2B91C05B07E s (execTripSourceRelease x2 s) := by
  have hm := Sub.refl 0x100B2B91C05B07E
  have hs := Touch.rfl' 0x100B2B91C05B07E s
  unfold execTripSourceRelease
  with_reducible repeat' first | apply out_ite | apply Touch.ite_ | assumption | apply out_cmdAt | apply out_done | apply out_fault | apply touch_putBit | apply touch_setSatSrc | apply touch_armedStopped | apply Touch.foldl_ | apply Touch.foldl_fst | apply Touch.foldl_snd | intro _ _ _ | intro _ _ | split | dsimp only
  all_goals first | exact hm.up rfl | with_reducible refine hm.pg (page_aTHY_TRIP_LVL _) ?_ | with_reducible refine hm.pg (page_bit_aTHY_TRIP_LVL _ _) ?_
  all_goals rfl

theorem out_execAdcRecordSend (u) (s : State) :
    Out 0x2000080000000 s (execAdcRecordSend u s) := by
  have hm := Sub.refl 0x2000080000000
  have hs := Touch.rfl' 0x2000080000000 s
  unfold execAdcRecordSend
  with_reducible repeat' first | apply out_ite | apply Touch.ite_ | assumption | apply out_cmdAt | apply out_done | apply out_fault | apply touch_adcSend

theorem out_execAdcRequest (u j) (s : State) :
    Out 0x10AB2B91C0DB0FE s (execAdcRequest u j s) := by
  have hm := Sub.refl 0x10AB2B91C0DB0FE
  have hs := Touch.rfl' 0x10AB2B91C0DB0FE s
  unfold execAdcRequest
  with_reducible repeat' first | apply out_ite | apply Touch.ite_ | assumption | apply out_cmdAt | apply out_done | apply out_fault | apply touch_giuAsks | apply touch_pllAsks | apply Touch.foldl_ | apply Touch.foldl_fst | apply Touch.foldl_snd | intro _ _ _ | intro _ _ | split | dsimp only
  all_goals first | exact hm.up rfl

theorem out_execConversionComplete (u sl raw) (s : State) :
    Out 0x10AB2B91C0DB0FE s (execConversionComplete u sl raw s) := by
  have hm := Sub.refl 0x10AB2B91C0DB0FE
  have hs := Touch.rfl' 0x10AB2B91C0DB0FE s
  unfold execConversionComplete
  with_reducible repeat' first | apply out_ite | apply Touch.ite_ | assumption | apply out_cmdAt | apply out_done | apply out_fault | apply touch_conversionComplete

theorem out_execConversionStart (u) (s : State) :
    Out 0x10AB2B91C0DB0FE s (execConversionStart u s) := by
  have hm := Sub.refl 0x10AB2B91C0DB0FE
  have hs := Touch.rfl' 0x10AB2B91C0DB0FE s
  unfold execConversionStart
  with_reducible repeat' first | apply out_ite | apply Touch.ite_ | assumption | apply out_cmdAt | apply out_done | apply out_fault | apply touch_conversionStart

theorem out_execLateAbort (u) (s : State) :
    Out 0x10AB2B91C0DB0FE s (execLateAbort u s) := by
  have hm := Sub.refl 0x10AB2B91C0DB0FE
  have hs := Touch.rfl' 0x10AB2B91C0DB0FE s
  unfold execLateAbort
  with_reducible repeat' first | apply out_ite | apply Touch.ite_ | assumption | apply out_cmdAt | apply out_done | apply out_fault | apply touch_lateAbort

theorem out_execResolverSample (u ch half) (s : State) :
    Out 0x10AB2B91C05B0FE s (execResolverSample u ch half s) := by
  have hm := Sub.refl 0x10AB2B91C05B0FE
  have hs := Touch.rfl' 0x10AB2B91C05B0FE s
  unfold execResolverSample
  with_reducible repeat' first | apply out_ite | apply Touch.ite_ | assumption | apply out_cmdAt | apply out_done | apply out_fault | apply touch_resolverSample

theorem out_execSequenceTrigger (u q) (s : State) :
    Out 0x10AB2B91C0DB0FE s (execSequenceTrigger u q s) := by
  have hm := Sub.refl 0x10AB2B91C0DB0FE
  have hs := Touch.rfl' 0x10AB2B91C0DB0FE s
  unfold execSequenceTrigger
  with_reducible repeat' first | apply out_ite | apply Touch.ite_ | assumption | apply out_cmdAt | apply out_done | apply out_fault | apply touch_sequenceTrigger

theorem out_execSpreadRun (u q first) (s : State) :
    Out 0x10AB2B91C0DB0FE s (execSpreadRun u q first s) := by
  have hm := Sub.refl 0x10AB2B91C0DB0FE
  have hs := Touch.rfl' 0x10AB2B91C0DB0FE s
  unfold execSpreadRun
  with_reducible repeat' first | apply out_ite | apply Touch.ite_ | assumption | apply out_cmdAt | apply out_done | apply out_fault | apply touch_spreadRun

theorem out_execStreamAverage (u sum) (s : State) :
    Out 0x102B2B91C15B0FE s (execStreamAverage u sum s) := by
  have hm := Sub.refl 0x102B2B91C15B0FE
  have hs := Touch.rfl' 0x102B2B91C15B0FE s
  unfold execStreamAverage
  with_reducible repeat' first | apply out_ite | apply Touch.ite_ | assumption | apply out_cmdAt | apply out_done | apply out_fault | apply touch_streamAverage

theorem out_execSwtrig (r u mask) (s : State) :
    Out 0x10AB2B91E05B0FE s (execSwtrig r u mask s) := by
  have hm := Sub.refl 0x10AB2B91E05B0FE
  have hs := Touch.rfl' 0x10AB2B91E05B0FE s
  unfold execSwtrig
  with_reducible repeat' first | apply out_ite | apply Touch.ite_ | assumption | apply out_cmdAt | apply out_done | apply out_fault | apply touch_access | apply touch_swTrig | apply Touch.foldl_ | apply Touch.foldl_fst | apply Touch.foldl_snd | intro _ _ _ | intro _ _ | split | dsimp only
  all_goals first | exact hm.up rfl | with_reducible refine hm.pg (page_aADC_SWTRIG _) ?_ | with_reducible refine hm.home (page_aADC_SWTRIG _) ?_
  all_goals rfl

theorem out_execAxisHalt (r k) (s : State) :
    Out 0x2002000E180202 s (execAxisHalt r k s) := by
  have hm := Sub.refl 0x2002000E180202
  have hs := Touch.rfl' 0x2002000E180202 s
  unfold execAxisHalt
  with_reducible repeat' first | apply out_ite | apply Touch.ite_ | assumption | apply out_cmdAt | apply out_done | apply out_fault | apply touch_axCmdAt

theorem out_execAxisStop (r k) (s : State) :
    Out 0x2002000E180202 s (execAxisStop r k s) := by
  have hm := Sub.refl 0x2002000E180202
  have hs := Touch.rfl' 0x2002000E180202 s
  unfold execAxisStop
  with_reducible repeat' first | apply out_ite | apply Touch.ite_ | assumption | apply out_cmdAt | apply out_done | apply out_fault | apply touch_axCmdAt

theorem out_execChopComparator (k phB above) (s : State) :
    Out 0x20000000000200 s (execChopComparator k phB above s) := by
  have hm := Sub.refl 0x20000000000200
  have hs := Touch.rfl' 0x20000000000200 s
  unfold execChopComparator
  with_reducible repeat' first | apply out_ite | apply Touch.ite_ | assumption | apply out_cmdAt | apply out_done | apply out_fault | apply touch_chopComparator

theorem out_execChopFault (k) (s : State) :
    Out 0x20000000080200 s (execChopFault k s) := by
  have hm := Sub.refl 0x20000000080200
  have hs := Touch.rfl' 0x20000000080200 s
  unfold execChopFault
  with_reducible repeat' first | apply out_ite | apply Touch.ite_ | assumption | apply out_cmdAt | apply out_done | apply out_fault | apply touch_chopFault

theorem out_execChopFaultClear (r k) (s : State) :
    Out 0x2002000E180202 s (execChopFaultClear r k s) := by
  have hm := Sub.refl 0x2002000E180202
  have hs := Touch.rfl' 0x2002000E180202 s
  unfold execChopFaultClear
  with_reducible repeat' first | apply out_ite | apply Touch.ite_ | assumption | apply out_cmdAt | apply out_done | apply out_fault | apply touch_axCmdAt

end Sys2Proof.Laws
end

