-- ==== Sys2Proof/Laws/CommandsB.lean ====
section
/-! SUPPORT. The commands, in the order of their files, the second hundred: what they may change before Sage handles what they caused. -/
namespace Sys2Proof.Laws
open Sys2Proof.Machine

variable {m : Nat} {x : State}

theorem out_execHoldCurrent (k) (s : State) :
    Out 0x20000000080200 s (execHoldCurrent k s) := by
  have hm := Sub.refl 0x20000000080200
  have hs := Touch.rfl' 0x20000000080200 s
  unfold execHoldCurrent
  with_reducible repeat' first | apply out_ite | apply Touch.ite_ | assumption | apply out_cmdAt | apply out_done | apply out_fault | apply touch_holdCurrent

theorem out_execHomeBackward (r k) (s : State) :
    Out 0x2002000E180202 s (execHomeBackward r k s) := by
  have hm := Sub.refl 0x2002000E180202
  have hs := Touch.rfl' 0x2002000E180202 s
  unfold execHomeBackward
  with_reducible repeat' first | apply out_ite | apply Touch.ite_ | assumption | apply out_cmdAt | apply out_done | apply out_fault | apply touch_axCmdAt

theorem out_execHomeEdge (k lvl) (s : State) :
    Out 0x20000000000200 s (execHomeEdge k lvl s) := by
  have hm := Sub.refl 0x20000000000200
  have hs := Touch.rfl' 0x20000000000200 s
  unfold execHomeEdge
  with_reducible repeat' first | apply out_ite | apply Touch.ite_ | assumption | apply out_cmdAt | apply out_done | apply out_fault | apply touch_homeInput

theorem out_execHomeForward (r k) (s : State) :
    Out 0x2002000E180202 s (execHomeForward r k s) := by
  have hm := Sub.refl 0x2002000E180202
  have hs := Touch.rfl' 0x2002000E180202 s
  unfold execHomeForward
  with_reducible repeat' first | apply out_ite | apply Touch.ite_ | assumption | apply out_cmdAt | apply out_done | apply out_fault | apply touch_axCmdAt

theorem out_execLimit (k pos lvl) (s : State) :
    Out 0x20000000080200 s (execLimit k pos lvl s) := by
  have hm := Sub.refl 0x20000000080200
  have hs := Touch.rfl' 0x20000000080200 s
  unfold execLimit
  with_reducible repeat' first | apply out_ite | apply Touch.ite_ | assumption | apply out_cmdAt | apply out_done | apply out_fault | apply touch_limitInput

theorem out_execMoveAxis (r k) (s : State) :
    Out 0x2002000E180202 s (execMoveAxis r k s) := by
  have hm := Sub.refl 0x2002000E180202
  have hs := Touch.rfl' 0x2002000E180202 s
  unfold execMoveAxis
  with_reducible repeat' first | apply out_ite | apply Touch.ite_ | assumption | apply out_cmdAt | apply out_done | apply out_fault | apply touch_axCmdAt

theorem out_execRampWrite (r k w v) (s : State) :
    Out 0x2100FE3FFFF s (execRampWrite r k w v s) := by
  have hm := Sub.refl 0x2100FE3FFFF
  have hs := Touch.rfl' 0x2100FE3FFFF s
  unfold execRampWrite
  with_reducible repeat' first | apply out_ite | apply Touch.ite_ | assumption | apply out_cmdAt | apply out_done | apply out_fault | apply touch_access | apply touch_rampWrite | apply Touch.foldl_ | apply Touch.foldl_fst | apply Touch.foldl_snd | intro _ _ _ | intro _ _ | split | dsimp only
  all_goals first | exact hm.up rfl | with_reducible refine hm.pg (page_rampReg _ _) ?_ | with_reducible refine hm.home (page_rampReg _ _) ?_
  all_goals rfl

theorem out_execRunBackward (r k) (s : State) :
    Out 0x2002000E180202 s (execRunBackward r k s) := by
  have hm := Sub.refl 0x2002000E180202
  have hs := Touch.rfl' 0x2002000E180202 s
  unfold execRunBackward
  with_reducible repeat' first | apply out_ite | apply Touch.ite_ | assumption | apply out_cmdAt | apply out_done | apply out_fault | apply touch_axCmdAt

theorem out_execRunForward (r k) (s : State) :
    Out 0x2002000E180202 s (execRunForward r k s) := by
  have hm := Sub.refl 0x2002000E180202
  have hs := Touch.rfl' 0x2002000E180202 s
  unfold execRunForward
  with_reducible repeat' first | apply out_ite | apply Touch.ite_ | assumption | apply out_cmdAt | apply out_done | apply out_fault | apply touch_axCmdAt

theorem out_execStepTimer (k) (s : State) :
    Out 0x20000000080200 s (execStepTimer k s) := by
  have hm := Sub.refl 0x20000000080200
  have hs := Touch.rfl' 0x20000000080200 s
  unfold execStepTimer
  with_reducible repeat' first | apply out_ite | apply Touch.ite_ | assumption | apply out_cmdAt | apply out_done | apply out_fault | apply touch_stepTimer

theorem out_execAdjust (p x2 corr rate) (s : State) :
    Out 0x10000000000 s (execAdjust p x2 corr rate s) := by
  have hm := Sub.refl 0x10000000000
  have hs := Touch.rfl' 0x10000000000 s
  unfold execAdjust
  with_reducible repeat' first | apply out_ite | apply Touch.ite_ | assumption | apply out_cmdAt | apply out_done | apply out_fault | apply touch_satDo

theorem out_execBankActivation (p x2) (s : State) :
    Out 0x10000080000 s (execBankActivation p x2 s) := by
  have hm := Sub.refl 0x10000080000
  have hs := Touch.rfl' 0x10000080000 s
  unfold execBankActivation
  with_reducible repeat' first | apply out_ite | apply Touch.ite_ | assumption | apply out_cmdAt | apply out_done | apply out_fault | apply touch_reach | apply touch_satDo | apply Touch.foldl_ | apply Touch.foldl_fst | apply Touch.foldl_snd | intro _ _ _ | intro _ _ | split | dsimp only
  all_goals first | exact hm.up rfl

theorem out_execCapsComplete (p) (s : State) :
    Out 0x8000000010 s (execCapsComplete p s) := by
  have hm := Sub.refl 0x8000000010
  have hs := Touch.rfl' 0x8000000010 s
  unfold execCapsComplete
  with_reducible repeat' first | apply out_ite | apply Touch.ite_ | assumption | apply out_cmdAt | apply out_done | apply out_fault | apply touch_setPortState | apply touch_sendProbe | apply touch_putPort | apply Touch.foldl_ | apply Touch.foldl_fst | apply Touch.foldl_snd | intro _ _ _ | intro _ _ | split | dsimp only
  all_goals first | exact hm.up rfl

theorem out_execCellSend (e) (s : State) :
    Out 0x38000100010 s (execCellSend e s) := by
  have hm := Sub.refl 0x38000100010
  have hs := Touch.rfl' 0x38000100010 s
  unfold execCellSend
  with_reducible repeat' first | apply out_ite | apply Touch.ite_ | assumption | apply out_cmdAt | apply out_done | apply out_fault | apply touch_hubSlot | apply touch_satDo | apply touch_setFree | apply Touch.foldl_ | apply Touch.foldl_fst | apply Touch.foldl_snd | intro _ _ _ | intro _ _ | split | dsimp only
  all_goals first | exact hm.up rfl

theorem out_execCfgRd (p x2 h a) (s : State) :
    Out 0x10000000000 s (execCfgRd p x2 h a s) := by
  have hm := Sub.refl 0x10000000000
  have hs := Touch.rfl' 0x10000000000 s
  unfold execCfgRd
  with_reducible repeat' first | apply out_ite | apply Touch.ite_ | assumption | apply out_cmdAt | apply out_done | apply out_fault | apply touch_satDo

theorem out_execCfgRsp (p h a d) (s : State) :
    Out 0x100B2B91C25B07E s (execCfgRsp p h a d s) := by
  have hm := Sub.refl 0x100B2B91C25B07E
  have hs := Touch.rfl' 0x100B2B91C25B07E s
  unfold execCfgRsp
  with_reducible repeat' first | apply out_ite | apply Touch.ite_ | assumption | apply out_cmdAt | apply out_done | apply out_fault | apply touch_hubCell | apply touch_takeCfg | apply Touch.foldl_ | apply Touch.foldl_fst | apply Touch.foldl_snd | intro _ _ _ | intro _ _ | split | dsimp only
  all_goals first | exact hm.up rfl

theorem out_execCfgWr (p x2 h a d) (s : State) :
    Out 0x10000000000 s (execCfgWr p x2 h a d s) := by
  have hm := Sub.refl 0x10000000000
  have hs := Touch.rfl' 0x10000000000 s
  unfold execCfgWr
  with_reducible repeat' first | apply out_ite | apply Touch.ite_ | assumption | apply out_cmdAt | apply out_done | apply out_fault | apply touch_satDo

theorem out_execClaim (p x2 h) (s : State) :
    Out 0x10000000000 s (execClaim p x2 h s) := by
  have hm := Sub.refl 0x10000000000
  have hs := Touch.rfl' 0x10000000000 s
  unfold execClaim
  with_reducible repeat' first | apply out_ite | apply Touch.ite_ | assumption | apply out_cmdAt | apply out_done | apply out_fault | apply touch_satDo

theorem out_execDesaturation (p slot ls) (s : State) :
    Out 0x10000000000 s (execDesaturation p slot ls s) := by
  have hm := Sub.refl 0x10000000000
  have hs := Touch.rfl' 0x10000000000 s
  unfold execDesaturation
  with_reducible repeat' first | apply out_ite | apply Touch.ite_ | assumption | apply out_cmdAt | apply out_done | apply out_fault | apply touch_satDo

theorem out_execEdge (p x2 h t slot ls on prof) (s : State) :
    Out 0x10000000000 s (execEdge p x2 h t slot ls on prof s) := by
  have hm := Sub.refl 0x10000000000
  have hs := Touch.rfl' 0x10000000000 s
  unfold execEdge
  with_reducible repeat' first | apply out_ite | apply Touch.ite_ | assumption | apply out_cmdAt | apply out_done | apply out_fault | apply touch_satDo

theorem out_execEdgeExecute (p x2) (s : State) :
    Out 0x10000080000 s (execEdgeExecute p x2 s) := by
  have hm := Sub.refl 0x10000080000
  have hs := Touch.rfl' 0x10000080000 s
  unfold execEdgeExecute
  with_reducible repeat' first | apply out_ite | apply Touch.ite_ | assumption | apply out_cmdAt | apply out_done | apply out_fault | apply touch_reach | apply touch_satDo | apply Touch.foldl_ | apply Touch.foldl_fst | apply Touch.foldl_snd | intro _ _ _ | intro _ _ | split | dsimp only
  all_goals first | exact hm.up rfl

theorem out_execFillCell (p x2 seq ack nak) (s : State) :
    Out 0x10000000000 s (execFillCell p x2 seq ack nak s) := by
  have hm := Sub.refl 0x10000000000
  have hs := Touch.rfl' 0x10000000000 s
  unfold execFillCell
  with_reducible repeat' first | apply out_ite | apply Touch.ite_ | assumption | apply out_cmdAt | apply out_done | apply out_fault | apply touch_satDo

theorem out_execForce (p x2 h id mask pat mode dly fin) (s : State) :
    Out 0x10000000000 s (execForce p x2 h id mask pat mode dly fin s) := by
  have hm := Sub.refl 0x10000000000
  have hs := Touch.rfl' 0x10000000000 s
  unfold execForce
  with_reducible repeat' first | apply out_ite | apply Touch.ite_ | assumption | apply out_cmdAt | apply out_done | apply out_fault | apply touch_satDo

theorem out_execForceHoldEnd (p slot) (s : State) :
    Out 0x10000080000 s (execForceHoldEnd p slot s) := by
  have hm := Sub.refl 0x10000080000
  have hs := Touch.rfl' 0x10000080000 s
  unfold execForceHoldEnd
  with_reducible repeat' first | apply out_ite | apply Touch.ite_ | assumption | apply out_cmdAt | apply out_done | apply out_fault | apply touch_reach | apply touch_satDo | apply Touch.foldl_ | apply Touch.foldl_fst | apply Touch.foldl_snd | intro _ _ _ | intro _ _ | split | dsimp only
  all_goals first | exact hm.up rfl

theorem out_execForceResend (p) (s : State) :
    Out 0x8000080010 s (execForceResend p s) := by
  have hm := Sub.refl 0x8000080010
  have hs := Touch.rfl' 0x8000080010 s
  unfold execForceResend
  with_reducible repeat' first | apply out_ite | apply Touch.ite_ | assumption | apply out_cmdAt | apply out_done | apply out_fault | apply touch_reach | apply touch_putPort | apply touch_addTo | apply Touch.foldl_ | apply Touch.foldl_fst | apply Touch.foldl_snd | intro _ _ _ | intro _ _ | split | dsimp only
  all_goals first | exact hm.up rfl | with_reducible refine hm.pg (page_aNDL_RESEND _) ?_
  all_goals rfl

theorem out_execGive (p x2 h) (s : State) :
    Out 0x10000000000 s (execGive p x2 h s) := by
  have hm := Sub.refl 0x10000000000
  have hs := Touch.rfl' 0x10000000000 s
  unfold execGive
  with_reducible repeat' first | apply out_ite | apply Touch.ite_ | assumption | apply out_cmdAt | apply out_done | apply out_fault | apply touch_satDo

theorem out_execHintPeriod (p x2 h slot per) (s : State) :
    Out 0x10000000000 s (execHintPeriod p x2 h slot per s) := by
  have hm := Sub.refl 0x10000000000
  have hs := Touch.rfl' 0x10000000000 s
  unfold execHintPeriod
  with_reducible repeat' first | apply out_ite | apply Touch.ite_ | assumption | apply out_cmdAt | apply out_done | apply out_fault | apply touch_satDo

theorem out_execHintReact (p x2 h react hold) (s : State) :
    Out 0x10000000000 s (execHintReact p x2 h react hold s) := by
  have hm := Sub.refl 0x10000000000
  have hs := Touch.rfl' 0x10000000000 s
  unfold execHintReact
  with_reducible repeat' first | apply out_ite | apply Touch.ite_ | assumption | apply out_cmdAt | apply out_done | apply out_fault | apply touch_satDo

theorem out_execHintRefresh (p) (s : State) :
    Out 0x8000080010 s (execHintRefresh p s) := by
  have hm := Sub.refl 0x8000080010
  have hs := Touch.rfl' 0x8000080010 s
  unfold execHintRefresh
  with_reducible repeat' first | apply out_ite | apply Touch.ite_ | assumption | apply out_cmdAt | apply out_done | apply out_fault | apply touch_reach | apply touch_sendHint | apply Touch.foldl_ | apply Touch.foldl_fst | apply Touch.foldl_snd | intro _ _ _ | intro _ _ | split | dsimp only
  all_goals first | exact hm.up rfl

theorem out_execInvalidSlot (e) (s : State) :
    Out 0x18000000010 s (execInvalidSlot e s) := by
  have hm := Sub.refl 0x18000000010
  have hs := Touch.rfl' 0x18000000010 s
  unfold execInvalidSlot
  with_reducible repeat' first | apply out_ite | apply Touch.ite_ | assumption | apply out_cmdAt | apply out_done | apply out_fault | apply touch_invalidAt

theorem out_execLinkLoss (p) (s : State) :
    Out 0x100B2B91C2DB07E s (execLinkLoss p s) := by
  have hm := Sub.refl 0x100B2B91C2DB07E
  have hs := Touch.rfl' 0x100B2B91C2DB07E s
  unfold execLinkLoss
  with_reducible repeat' first | apply out_ite | apply Touch.ite_ | assumption | apply out_cmdAt | apply out_done | apply out_fault | apply touch_enterLoss | apply touch_reach | apply Touch.foldl_ | apply Touch.foldl_fst | apply Touch.foldl_snd | intro _ _ _ | intro _ _ | split | dsimp only
  all_goals first | exact hm.up rfl

theorem out_execLossRetrain (p) (s : State) :
    Out 0x8000080010 s (execLossRetrain p s) := by
  have hm := Sub.refl 0x8000080010
  have hs := Touch.rfl' 0x8000080010 s
  unfold execLossRetrain
  with_reducible repeat' first | apply out_ite | apply Touch.ite_ | assumption | apply out_cmdAt | apply out_done | apply out_fault | apply touch_enterTrain | apply touch_reach | apply Touch.foldl_ | apply Touch.foldl_fst | apply Touch.foldl_snd | intro _ _ _ | intro _ _ | split | dsimp only
  all_goals first | exact hm.up rfl

theorem out_execNdlTokenClaim (r p) (s : State) :
    Out 0x2800E000012 s (execNdlTokenClaim r p s) := by
  have hm := Sub.refl 0x2800E000012
  have hs := Touch.rfl' 0x2800E000012 s
  unfold execNdlTokenClaim
  with_reducible repeat' first | apply out_ite | apply Touch.ite_ | assumption | apply out_cmdAt | apply out_done | apply out_fault | apply touch_tokenOp | apply Touch.foldl_ | apply Touch.foldl_fst | apply Touch.foldl_snd | intro _ _ _ | intro _ _ | split | dsimp only
  all_goals first | exact hm.up rfl | with_reducible refine hm.pg (page_aNDL_TOKEN _) ?_ | with_reducible refine hm.home (page_aNDL_TOKEN _) ?_
  all_goals rfl

theorem out_execNdlTokenGive (r p) (s : State) :
    Out 0x2800E000012 s (execNdlTokenGive r p s) := by
  have hm := Sub.refl 0x2800E000012
  have hs := Touch.rfl' 0x2800E000012 s
  unfold execNdlTokenGive
  with_reducible repeat' first | apply out_ite | apply Touch.ite_ | assumption | apply out_cmdAt | apply out_done | apply out_fault | apply touch_tokenOp | apply Touch.foldl_ | apply Touch.foldl_fst | apply Touch.foldl_snd | intro _ _ _ | intro _ _ | split | dsimp only
  all_goals first | exact hm.up rfl | with_reducible refine hm.pg (page_aNDL_TOKEN _) ?_ | with_reducible refine hm.home (page_aNDL_TOKEN _) ?_
  all_goals rfl

theorem out_execNdlTokenQuery (r p) (s : State) :
    Out 0x2800E000012 s (execNdlTokenQuery r p s) := by
  have hm := Sub.refl 0x2800E000012
  have hs := Touch.rfl' 0x2800E000012 s
  unfold execNdlTokenQuery
  with_reducible repeat' first | apply out_ite | apply Touch.ite_ | assumption | apply out_cmdAt | apply out_done | apply out_fault | apply touch_tokenOp | apply Touch.foldl_ | apply Touch.foldl_fst | apply Touch.foldl_snd | intro _ _ _ | intro _ _ | split | dsimp only
  all_goals first | exact hm.up rfl | with_reducible refine hm.pg (page_aNDL_TOKEN _) ?_ | with_reducible refine hm.home (page_aNDL_TOKEN _) ?_
  all_goals rfl

theorem out_execPatternHoldExpiry (p slot) (s : State) :
    Out 0x10000080000 s (execPatternHoldExpiry p slot s) := by
  have hm := Sub.refl 0x10000080000
  have hs := Touch.rfl' 0x10000080000 s
  unfold execPatternHoldExpiry
  with_reducible repeat' first | apply out_ite | apply Touch.ite_ | assumption | apply out_cmdAt | apply out_done | apply out_fault | apply touch_reach | apply touch_satDo | apply Touch.foldl_ | apply Touch.foldl_fst | apply Touch.foldl_snd | intro _ _ _ | intro _ _ | split | dsimp only
  all_goals first | exact hm.up rfl

theorem out_execPatternHoldRepeat (p slot) (s : State) :
    Out 0x10000080000 s (execPatternHoldRepeat p slot s) := by
  have hm := Sub.refl 0x10000080000
  have hs := Touch.rfl' 0x10000080000 s
  unfold execPatternHoldRepeat
  with_reducible repeat' first | apply out_ite | apply Touch.ite_ | assumption | apply out_cmdAt | apply out_done | apply out_fault | apply touch_reach | apply touch_satDo | apply Touch.foldl_ | apply Touch.foldl_fst | apply Touch.foldl_snd | intro _ _ _ | intro _ _ | split | dsimp only
  all_goals first | exact hm.up rfl

theorem out_execPortDisable (r p) (s : State) :
    Out 0x100B2B91E25B07E s (execPortDisable r p s) := by
  have hm := Sub.refl 0x100B2B91E25B07E
  have hs := Touch.rfl' 0x100B2B91E25B07E s
  unfold execPortDisable
  with_reducible repeat' first | apply out_ite | apply Touch.ite_ | assumption | apply out_cmdAt | apply out_done | apply out_fault | apply touch_portDis | apply Touch.foldl_ | apply Touch.foldl_fst | apply Touch.foldl_snd | intro _ _ _ | intro _ _ | split | dsimp only
  all_goals first | exact hm.up rfl | with_reducible refine hm.pg (page_aNDL_CTRL _) ?_ | with_reducible refine hm.home (page_aNDL_CTRL _) ?_
  all_goals rfl

theorem out_execPortEnable (r p) (s : State) :
    Out 0x2800E000012 s (execPortEnable r p s) := by
  have hm := Sub.refl 0x2800E000012
  have hs := Touch.rfl' 0x2800E000012 s
  unfold execPortEnable
  with_reducible repeat' first | apply out_ite | apply Touch.ite_ | assumption | apply out_cmdAt | apply out_done | apply out_fault | apply touch_portEn | apply Touch.foldl_ | apply Touch.foldl_fst | apply Touch.foldl_snd | intro _ _ _ | intro _ _ | split | dsimp only
  all_goals first | exact hm.up rfl | with_reducible refine hm.pg (page_aNDL_CTRL _) ?_ | with_reducible refine hm.home (page_aNDL_CTRL _) ?_
  all_goals rfl

theorem out_execProbe (p x2 id) (s : State) :
    Out 0x10000000000 s (execProbe p x2 id s) := by
  have hm := Sub.refl 0x10000000000
  have hs := Touch.rfl' 0x10000000000 s
  unfold execProbe
  with_reducible repeat' first | apply out_ite | apply Touch.ite_ | assumption | apply out_cmdAt | apply out_done | apply out_fault | apply touch_satDo

theorem out_execProbePeriod (p) (s : State) :
    Out 0x8000080000 s (execProbePeriod p s) := by
  have hm := Sub.refl 0x8000080000
  have hs := Touch.rfl' 0x8000080000 s
  unfold execProbePeriod
  with_reducible repeat' first | apply out_ite | apply Touch.ite_ | assumption | apply out_cmdAt | apply out_done | apply out_fault | apply touch_reach | apply touch_sendProbe | apply Touch.foldl_ | apply Touch.foldl_fst | apply Touch.foldl_snd | intro _ _ _ | intro _ _ | split | dsimp only
  all_goals first | exact hm.up rfl

theorem out_execQuery (p x2 h) (s : State) :
    Out 0x10000000000 s (execQuery p x2 h s) := by
  have hm := Sub.refl 0x10000000000
  have hs := Touch.rfl' 0x10000000000 s
  unfold execQuery
  with_reducible repeat' first | apply out_ite | apply Touch.ite_ | assumption | apply out_cmdAt | apply out_done | apply out_fault | apply touch_satDo

theorem out_execResendTimeout (e) (s : State) :
    Out 0x100B3B91C2DB07E s (execResendTimeout e s) := by
  have hm := Sub.refl 0x100B3B91C2DB07E
  have hs := Touch.rfl' 0x100B3B91C2DB07E s
  unfold execResendTimeout
  with_reducible repeat' first | apply out_ite | apply Touch.ite_ | assumption | apply out_cmdAt | apply out_done | apply out_fault | apply touch_reach | apply touch_putPort | apply touch_enterLoss | apply touch_satDo | apply Touch.foldl_ | apply Touch.foldl_fst | apply Touch.foldl_snd | intro _ _ _ | intro _ _ | split | dsimp only
  all_goals first | exact hm.up rfl

theorem out_execResult (p h t slot ls on out) (s : State) :
    Out 0x100B2B91C25B07E s (execResult p h t slot ls on out s) := by
  have hm := Sub.refl 0x100B2B91C25B07E
  have hs := Touch.rfl' 0x100B2B91C25B07E s
  unfold execResult
  with_reducible repeat' first | apply out_ite | apply Touch.ite_ | assumption | apply out_cmdAt | apply out_done | apply out_fault | apply touch_hubCell | apply touch_takeResult | apply Touch.foldl_ | apply Touch.foldl_fst | apply Touch.foldl_snd | intro _ _ _ | intro _ _ | split | dsimp only
  all_goals first | exact hm.up rfl

theorem out_execRetract (p x2 h t slot ls on) (s : State) :
    Out 0x10000000000 s (execRetract p x2 h t slot ls on s) := by
  have hm := Sub.refl 0x10000000000
  have hs := Touch.rfl' 0x10000000000 s
  unfold execRetract
  with_reducible repeat' first | apply out_ite | apply Touch.ite_ | assumption | apply out_cmdAt | apply out_done | apply out_fault | apply touch_satDo

theorem out_execSampleCell (p h slot i v vdc) (s : State) :
    Out 0x100B2B99C25B07E s (execSampleCell p h slot i v vdc s) := by
  have hm := Sub.refl 0x100B2B99C25B07E
  have hs := Touch.rfl' 0x100B2B99C25B07E s
  unfold execSampleCell
  with_reducible repeat' first | apply out_ite | apply Touch.ite_ | assumption | apply out_cmdAt | apply out_done | apply out_fault | apply touch_hubCell | apply touch_sampleMatch | apply Touch.each_ | apply touch_sendEng | apply Touch.foldl_ | apply Touch.foldl_fst | apply Touch.foldl_snd | intro _ _ _ | intro _ _ | split | dsimp only
  all_goals first | exact hm.up rfl

theorem out_execSampleReq (p x2 h t smask qmask chk) (s : State) :
    Out 0x10000000000 s (execSampleReq p x2 h t smask qmask chk s) := by
  have hm := Sub.refl 0x10000000000
  have hs := Touch.rfl' 0x10000000000 s
  unfold execSampleReq
  with_reducible repeat' first | apply out_ite | apply Touch.ite_ | assumption | apply out_cmdAt | apply out_done | apply out_fault | apply touch_satDo

theorem out_execSampleTake (p x2 i v vdc) (s : State) :
    Out 0x10000180000 s (execSampleTake p x2 i v vdc s) := by
  have hm := Sub.refl 0x10000180000
  have hs := Touch.rfl' 0x10000180000 s
  unfold execSampleTake
  with_reducible repeat' first | apply out_ite | apply Touch.ite_ | assumption | apply out_cmdAt | apply out_done | apply out_fault | apply touch_reach | apply touch_satDo | apply touch_setFree | apply Touch.foldl_ | apply Touch.foldl_fst | apply Touch.foldl_snd | intro _ _ _ | intro _ _ | split | dsimp only
  all_goals first | exact hm.up rfl

theorem out_execSatPortLoss (p x2) (s : State) :
    Out 0x10000080000 s (execSatPortLoss p x2 s) := by
  have hm := Sub.refl 0x10000080000
  have hs := Touch.rfl' 0x10000080000 s
  unfold execSatPortLoss
  with_reducible repeat' first | apply out_ite | apply Touch.ite_ | assumption | apply out_cmdAt | apply out_done | apply out_fault | apply touch_reach | apply touch_satDo | apply Touch.foldl_ | apply Touch.foldl_fst | apply Touch.foldl_snd | intro _ _ _ | intro _ _ | split | dsimp only
  all_goals first | exact hm.up rfl

theorem out_execSatPowerUp (p) (s : State) :
    Out 0x10000100000 s (execSatPowerUp p s) := by
  have hm := Sub.refl 0x10000100000
  have hs := Touch.rfl' 0x10000100000 s
  unfold execSatPowerUp
  with_reducible repeat' first | apply out_ite | apply Touch.ite_ | assumption | apply out_cmdAt | apply out_done | apply out_fault | apply touch_putSat | apply touch_setFree | apply Touch.foldl_ | apply Touch.foldl_fst | apply Touch.foldl_snd | intro _ _ _ | intro _ _ | split | dsimp only
  all_goals first | exact hm.up rfl

theorem out_execSlotRealign (e) (s : State) :
    Out 0x18000000010 s (execSlotRealign e s) := by
  have hm := Sub.refl 0x18000000010
  have hs := Touch.rfl' 0x18000000010 s
  unfold execSlotRealign
  with_reducible repeat' first | apply out_ite | apply Touch.ite_ | assumption | apply out_cmdAt | apply out_done | apply out_fault | apply touch_invalidAt | apply touch_putPort | apply Touch.foldl_ | apply Touch.foldl_fst | apply Touch.foldl_snd | intro _ _ _ | intro _ _ | split | dsimp only
  all_goals first | exact hm.up rfl

theorem out_execStatus (p h cred fid fidV peer qent ilk dlErr) (s : State) :
    Out 0x100B2B91C25B07E s (execStatus p h cred fid fidV peer qent ilk dlErr s) := by
  have hm := Sub.refl 0x100B2B91C25B07E
  have hs := Touch.rfl' 0x100B2B91C25B07E s
  unfold execStatus
  with_reducible repeat' first | apply out_ite | apply Touch.ite_ | assumption | apply out_cmdAt | apply out_done | apply out_fault | apply touch_hubCell | apply touch_takeStatus | apply Touch.foldl_ | apply Touch.foldl_fst | apply Touch.foldl_snd | intro _ _ _ | intro _ _ | split | dsimp only
  all_goals first | exact hm.up rfl

theorem out_execStatusPeriodic (p x2) (s : State) :
    Out 0x10000080000 s (execStatusPeriodic p x2 s) := by
  have hm := Sub.refl 0x10000080000
  have hs := Touch.rfl' 0x10000080000 s
  unfold execStatusPeriodic
  with_reducible repeat' first | apply out_ite | apply Touch.ite_ | assumption | apply out_cmdAt | apply out_done | apply out_fault | apply touch_reach | apply touch_satDo | apply Touch.foldl_ | apply Touch.foldl_fst | apply Touch.foldl_snd | intro _ _ _ | intro _ _ | split | dsimp only
  all_goals first | exact hm.up rfl

theorem out_execSuppressed (p x2) (s : State) :
    Out 0x10000080000 s (execSuppressed p x2 s) := by
  have hm := Sub.refl 0x10000080000
  have hs := Touch.rfl' 0x10000080000 s
  unfold execSuppressed
  with_reducible repeat' first | apply out_ite | apply Touch.ite_ | assumption | apply out_cmdAt | apply out_done | apply out_fault | apply touch_reach | apply touch_satDo | apply Touch.foldl_ | apply Touch.foldl_fst | apply Touch.foldl_snd | intro _ _ _ | intro _ _ | split | dsimp only
  all_goals first | exact hm.up rfl

theorem out_execSyncSet (p x2 t) (s : State) :
    Out 0x10000000000 s (execSyncSet p x2 t s) := by
  have hm := Sub.refl 0x10000000000
  have hs := Touch.rfl' 0x10000000000 s
  unfold execSyncSet
  with_reducible repeat' first | apply out_ite | apply Touch.ite_ | assumption | apply out_cmdAt | apply out_done | apply out_fault | apply touch_satDo

theorem out_execTelem (p h slot flags vboot temp vdrv dsat) (s : State) :
    Out 0x100B2B91C25B07E s (execTelem p h slot flags vboot temp vdrv dsat s) := by
  have hm := Sub.refl 0x100B2B91C25B07E
  have hs := Touch.rfl' 0x100B2B91C25B07E s
  unfold execTelem
  with_reducible repeat' first | apply out_ite | apply Touch.ite_ | assumption | apply out_cmdAt | apply out_done | apply out_fault | apply touch_hubCell | apply touch_takeTelem | apply Touch.foldl_ | apply Touch.foldl_fst | apply Touch.foldl_snd | intro _ _ _ | intro _ _ | split | dsimp only
  all_goals first | exact hm.up rfl

theorem out_execTelemFlagChange (p slot flags) (s : State) :
    Out 0x10000000000 s (execTelemFlagChange p slot flags s) := by
  have hm := Sub.refl 0x10000000000
  have hs := Touch.rfl' 0x10000000000 s
  unfold execTelemFlagChange
  with_reducible repeat' first | apply out_ite | apply Touch.ite_ | assumption | apply out_cmdAt | apply out_done | apply out_fault | apply touch_satDo

theorem out_execTelemPeriodic (p x2 slot) (s : State) :
    Out 0x10000080000 s (execTelemPeriodic p x2 slot s) := by
  have hm := Sub.refl 0x10000080000
  have hs := Touch.rfl' 0x10000080000 s
  unfold execTelemPeriodic
  with_reducible repeat' first | apply out_ite | apply Touch.ite_ | assumption | apply out_cmdAt | apply out_done | apply out_fault | apply touch_reach | apply touch_satDo | apply Touch.foldl_ | apply Touch.foldl_fst | apply Touch.foldl_snd | intro _ _ _ | intro _ _ | split | dsimp only
  all_goals first | exact hm.up rfl

theorem out_execTrainComplete (p) (s : State) :
    Out 0x8000000010 s (execTrainComplete p s) := by
  have hm := Sub.refl 0x8000000010
  have hs := Touch.rfl' 0x8000000010 s
  unfold execTrainComplete
  with_reducible repeat' first | apply out_ite | apply Touch.ite_ | assumption | apply out_cmdAt | apply out_done | apply out_fault | apply touch_setPortState | apply touch_put | apply touch_putPort | apply Touch.each_ | apply touch_hubReady | apply Touch.foldl_ | apply Touch.foldl_fst | apply Touch.foldl_snd | intro _ _ _ | intro _ _ | split | dsimp only
  all_goals first | exact hm.up rfl | with_reducible refine hm.pg (page_aNDL_STAT _) ?_
  all_goals rfl

theorem out_execTrainTimeout (p) (s : State) :
    Out 0x100B2B91C2DB07E s (execTrainTimeout p s) := by
  have hm := Sub.refl 0x100B2B91C2DB07E
  have hs := Touch.rfl' 0x100B2B91C2DB07E s
  unfold execTrainTimeout
  with_reducible repeat' first | apply out_ite | apply Touch.ite_ | assumption | apply out_cmdAt | apply out_done | apply out_fault | apply touch_enterLoss | apply touch_reach | apply Touch.foldl_ | apply Touch.foldl_fst | apply Touch.foldl_snd | intro _ _ _ | intro _ _ | split | dsimp only
  all_goals first | exact hm.up rfl

theorem out_execUndervoltage (p slot ls) (s : State) :
    Out 0x10000100000 s (execUndervoltage p slot ls s) := by
  have hm := Sub.refl 0x10000100000
  have hs := Touch.rfl' 0x10000100000 s
  unfold execUndervoltage
  with_reducible repeat' first | apply out_ite | apply Touch.ite_ | assumption | apply out_cmdAt | apply out_done | apply out_fault | apply touch_setFree | apply touch_satDo | apply Touch.foldl_ | apply Touch.foldl_fst | apply Touch.foldl_snd | intro _ _ _ | intro _ _ | split | dsimp only
  all_goals first | exact hm.up rfl

theorem out_execBulk (h k step run img outs) (s : State) :
    Out 0x80000C041002 s (execBulk h k step run img outs s) := by
  have hm := Sub.refl 0x80000C041002
  have hs := Touch.rfl' 0x80000C041002 s
  unfold execBulk
  with_reducible repeat' first | apply out_ite | apply Touch.ite_ | assumption | apply out_cmdAt | apply out_done | apply out_fault | apply touch_pairRx | apply touch_applyRecord | apply touch_joinAdvance | apply touch_setPair | apply Touch.foldl_ | apply Touch.foldl_fst | apply Touch.foldl_snd | intro _ _ _ | intro _ _ | split | dsimp only
  all_goals first | exact hm.up rfl

theorem out_execCancelRecord (h k step) (s : State) :
    Out 0x800000001000 s (execCancelRecord h k step s) := by
  have hm := Sub.refl 0x800000001000
  have hs := Touch.rfl' 0x800000001000 s
  unfold execCancelRecord
  with_reducible repeat' first | apply out_ite | apply Touch.ite_ | assumption | apply out_cmdAt | apply out_done | apply out_fault | apply touch_pairRx | apply touch_discardTent | apply Touch.foldl_ | apply Touch.foldl_fst | apply Touch.foldl_snd | intro _ _ _ | intro _ _ | split

theorem out_execCheckFail (h) (s : State) :
    Out 0x800000001000 s (execCheckFail h s) := by
  have hm := Sub.refl 0x800000001000
  have hs := Touch.rfl' 0x800000001000 s
  unfold execCheckFail
  with_reducible repeat' first | apply out_ite | apply Touch.ite_ | assumption | apply out_cmdAt | apply out_done | apply out_fault | apply touch_pairRx | apply touch_joinRefused | apply Touch.foldl_ | apply Touch.foldl_fst | apply Touch.foldl_snd | intro _ _ _ | intro _ _

theorem out_execCheckOk (h) (s : State) :
    Out 0x800000001000 s (execCheckOk h s) := by
  have hm := Sub.refl 0x800000001000
  have hs := Touch.rfl' 0x800000001000 s
  unfold execCheckOk
  with_reducible repeat' first | apply out_ite | apply Touch.ite_ | assumption | apply out_cmdAt | apply out_done | apply out_fault | apply touch_pairRx | apply touch_setPair | apply Touch.foldl_ | apply Touch.foldl_fst | apply Touch.foldl_snd | intro _ _ _ | intro _ _ | split | dsimp only
  all_goals first | exact hm.up rfl

theorem out_execClaimRepeat (s : State) :
    Out 0x808000080010 s (execClaimRepeat s) := by
  have hm := Sub.refl 0x808000080010
  have hs := Touch.rfl' 0x808000080010 s
  unfold execClaimRepeat
  with_reducible repeat' first | apply out_ite | apply Touch.ite_ | assumption | apply out_cmdAt | apply out_done | apply out_fault | apply touch_reach | apply touch_tokenAll | apply touch_setPair | apply Touch.foldl_ | apply Touch.foldl_fst | apply Touch.foldl_snd | intro _ _ _ | intro _ _ | split | dsimp only
  all_goals first | exact hm.up rfl

theorem out_execCtrlCheck (h v) (s : State) :
    Out 0x800000001000 s (execCtrlCheck h v s) := by
  have hm := Sub.refl 0x800000001000
  have hs := Touch.rfl' 0x800000001000 s
  unfold execCtrlCheck
  with_reducible repeat' first | apply out_ite | apply Touch.ite_ | assumption | apply out_cmdAt | apply out_done | apply out_fault | apply touch_pairRx | apply touch_joinStart | apply touch_pairTx | apply touch_setPair | apply touch_joinRefused | apply Touch.foldl_ | apply Touch.foldl_fst | apply Touch.foldl_snd | intro _ _ _ | intro _ _ | split | dsimp only
  all_goals first | exact hm.up rfl

theorem out_execHandover (r) (s : State) :
    Out 0x82800E001012 s (execHandover r s) := by
  have hm := Sub.refl 0x82800E001012
  have hs := Touch.rfl' 0x82800E001012 s
  unfold execHandover
  with_reducible repeat' first | apply out_ite | apply Touch.ite_ | assumption | apply out_cmdAt | apply out_done | apply out_fault | apply touch_pairCmd | apply Touch.foldl_ | apply Touch.foldl_fst | apply Touch.foldl_snd | intro _ _ _ | intro _ _ | split | dsimp only
  all_goals first | exact hm.up rfl | exact hm.pg (k := 12) rfl rfl

theorem out_execHeart (h groups) (s : State) :
    Out 0x800000001000 s (execHeart h groups s) := by
  have hm := Sub.refl 0x800000001000
  have hs := Touch.rfl' 0x800000001000 s
  unfold execHeart
  with_reducible repeat' first | apply out_ite | apply Touch.ite_ | assumption | apply out_cmdAt | apply out_done | apply out_fault | apply touch_pairRx | apply touch_setPair | apply Touch.foldl_ | apply Touch.foldl_fst | apply Touch.foldl_snd | intro _ _ _ | intro _ _ | split | dsimp only
  all_goals first | exact hm.up rfl

theorem out_execHeartSend (s : State) :
    Out 0x800000081000 s (execHeartSend s) := by
  have hm := Sub.refl 0x800000081000
  have hs := Touch.rfl' 0x800000081000 s
  unfold execHeartSend
  with_reducible repeat' first | apply out_ite | apply Touch.ite_ | assumption | apply out_cmdAt | apply out_done | apply out_fault | apply touch_reach | apply touch_pairTx | apply touch_setPair | apply Touch.foldl_ | apply Touch.foldl_fst | apply Touch.foldl_snd | intro _ _ _ | intro _ _ | split | dsimp only
  all_goals first | exact hm.up rfl

theorem out_execJoinTimeout (s : State) :
    Out 0x800000081000 s (execJoinTimeout s) := by
  have hm := Sub.refl 0x800000081000
  have hs := Touch.rfl' 0x800000081000 s
  unfold execJoinTimeout
  with_reducible repeat' first | apply out_ite | apply Touch.ite_ | assumption | apply out_cmdAt | apply out_done | apply out_fault | apply touch_pairTrain | apply touch_errSet | apply touch_reach | apply Touch.foldl_ | apply Touch.foldl_fst | apply Touch.foldl_snd | intro _ _ _ | intro _ _ | split | dsimp only
  all_goals first | exact hm.up rfl | with_reducible refine hm.pg (k := 12) (page_raw ?_) ?_ | with_reducible refine hm.pg (k := 12) (page_err ?_) ?_ | exact hm.pg (k := 12) rfl rfl

theorem out_execMirror (h k step run img outs) (s : State) :
    Out 0x800000001000 s (execMirror h k step run img outs s) := by
  have hm := Sub.refl 0x800000001000
  have hs := Touch.rfl' 0x800000001000 s
  unfold execMirror
  with_reducible repeat' first | apply out_ite | apply Touch.ite_ | assumption | apply out_cmdAt | apply out_done | apply out_fault | apply touch_pairRx | apply touch_discardTent | apply touch_setPair | apply Touch.foldl_ | apply Touch.foldl_fst | apply Touch.foldl_snd | intro _ _ _ | intro _ _ | split | dsimp only
  all_goals first | exact hm.up rfl

theorem out_execPairClaim (r) (s : State) :
    Out 0x82800E001012 s (execPairClaim r s) := by
  have hm := Sub.refl 0x82800E001012
  have hs := Touch.rfl' 0x82800E001012 s
  unfold execPairClaim
  with_reducible repeat' first | apply out_ite | apply Touch.ite_ | assumption | apply out_cmdAt | apply out_done | apply out_fault | apply touch_pairCmd | apply Touch.foldl_ | apply Touch.foldl_fst | apply Touch.foldl_snd | intro _ _ _ | intro _ _ | split | dsimp only
  all_goals first | exact hm.up rfl | exact hm.pg (k := 12) rfl rfl

theorem out_execPairJoin (r) (s : State) :
    Out 0x82800E001012 s (execPairJoin r s) := by
  have hm := Sub.refl 0x82800E001012
  have hs := Touch.rfl' 0x82800E001012 s
  unfold execPairJoin
  with_reducible repeat' first | apply out_ite | apply Touch.ite_ | assumption | apply out_cmdAt | apply out_done | apply out_fault | apply touch_pairCmd | apply Touch.foldl_ | apply Touch.foldl_fst | apply Touch.foldl_snd | intro _ _ _ | intro _ _ | split | dsimp only
  all_goals first | exact hm.up rfl | exact hm.pg (k := 12) rfl rfl

theorem out_execPairLaneAlign (s : State) :
    Out 0x800000001000 s (execPairLaneAlign s) := by
  have hm := Sub.refl 0x800000001000
  have hs := Touch.rfl' 0x800000001000 s
  unfold execPairLaneAlign
  with_reducible repeat' first | apply out_ite | apply Touch.ite_ | assumption | apply out_cmdAt | apply out_done | apply out_fault | apply touch_setPair | apply touch_raise | apply touch_joinStart | apply Touch.foldl_ | apply Touch.foldl_fst | apply Touch.foldl_snd | intro _ _ _ | intro _ _ | split | dsimp only
  all_goals first | exact hm.up rfl | exact hm.pg (k := 12) rfl rfl

theorem out_execPairLeave (r) (s : State) :
    Out 0x82800E001012 s (execPairLeave r s) := by
  have hm := Sub.refl 0x82800E001012
  have hs := Touch.rfl' 0x82800E001012 s
  unfold execPairLeave
  with_reducible repeat' first | apply out_ite | apply Touch.ite_ | assumption | apply out_cmdAt | apply out_done | apply out_fault | apply touch_pairCmd | apply Touch.foldl_ | apply Touch.foldl_fst | apply Touch.foldl_snd | intro _ _ _ | intro _ _ | split | dsimp only
  all_goals first | exact hm.up rfl | exact hm.pg (k := 12) rfl rfl

theorem out_execPairLoss (s : State) :
    Out 0x808000081014 s (execPairLoss s) := by
  have hm := Sub.refl 0x808000081014
  have hs := Touch.rfl' 0x808000081014 s
  unfold execPairLoss
  with_reducible repeat' first | apply out_ite | apply Touch.ite_ | assumption | apply out_cmdAt | apply out_done | apply out_fault | apply touch_reach | apply touch_pairLoss | apply touch_lower | apply Touch.foldl_ | apply Touch.foldl_fst | apply Touch.foldl_snd | intro _ _ _ | intro _ _ | split | dsimp only
  all_goals first | exact hm.up rfl | exact hm.pg (k := 12) rfl rfl

theorem out_execPairRecordDiscard (s : State) :
    Out 0x1000 s (execPairRecordDiscard s) := by
  have hm := Sub.refl 0x1000
  have hs := Touch.rfl' 0x1000 s
  unfold execPairRecordDiscard
  with_reducible repeat' first | apply out_ite | apply Touch.ite_ | assumption | apply out_cmdAt | apply out_done | apply out_fault | apply touch_errSet | apply touch_incrSat | apply Touch.foldl_ | apply Touch.foldl_fst | apply Touch.foldl_snd | intro _ _ _ | intro _ _ | split | dsimp only
  all_goals first | exact hm.up rfl | with_reducible refine hm.pg (k := 12) (page_raw ?_) ?_ | with_reducible refine hm.pg (k := 12) (page_err ?_) ?_ | exact hm.pg (k := 12) rfl rfl

theorem out_execPairRetrain (s : State) :
    Out 0x800000081000 s (execPairRetrain s) := by
  have hm := Sub.refl 0x800000081000
  have hs := Touch.rfl' 0x800000081000 s
  unfold execPairRetrain
  with_reducible repeat' first | apply out_ite | apply Touch.ite_ | assumption | apply out_cmdAt | apply out_done | apply out_fault | apply touch_pairTrain | apply touch_reach | apply Touch.foldl_ | apply Touch.foldl_fst | apply Touch.foldl_snd | intro _ _ _ | intro _ _ | split | dsimp only
  all_goals first | exact hm.up rfl

theorem out_execQuit (h) (s : State) :
    Out 0x808000001014 s (execQuit h s) := by
  have hm := Sub.refl 0x808000001014
  have hs := Touch.rfl' 0x808000001014 s
  unfold execQuit
  with_reducible repeat' first | apply out_ite | apply Touch.ite_ | assumption | apply out_cmdAt | apply out_done | apply out_fault | apply touch_pairRx | apply touch_pairLoss | apply Touch.foldl_ | apply Touch.foldl_fst | apply Touch.foldl_snd | intro _ _ _ | intro _ _ | split | dsimp only
  all_goals first | exact hm.up rfl

theorem out_execSealRecord (h k step run) (s : State) :
    Out 0x80000C041002 s (execSealRecord h k step run s) := by
  have hm := Sub.refl 0x80000C041002
  have hs := Touch.rfl' 0x80000C041002 s
  unfold execSealRecord
  with_reducible repeat' first | apply out_ite | apply Touch.ite_ | assumption | apply out_cmdAt | apply out_done | apply out_fault | apply touch_pairRx | apply touch_applyRecord | apply touch_setPair | apply touch_discardTent | apply touch_noteRun | apply Touch.foldl_ | apply Touch.foldl_fst | apply Touch.foldl_snd | intro _ _ _ | intro _ _ | split | dsimp only
  all_goals first | exact hm.up rfl

theorem out_execSetRec (h g gen t per part parts legs) (s : State) :
    Out 0x80080087FFFF s (execSetRec h g gen t per part parts legs s) := by
  have hm := Sub.refl 0x80080087FFFF
  have hs := Touch.rfl' 0x80080087FFFF s
  unfold execSetRec
  with_reducible repeat' first | apply out_ite | apply Touch.ite_ | assumption | apply out_cmdAt | apply out_done | apply out_fault | apply touch_pairRx | apply touch_joinAdvance | apply touch_takePart | apply Touch.foldl_ | apply Touch.foldl_fst | apply Touch.foldl_snd | intro _ _ _ | intro _ _ | split | dsimp only
  all_goals first | exact hm.up rfl

theorem out_execSyncRsp (p h id a2 turn t4) (s : State) :
    Out 0x100B2B91C2DB07E s (execSyncRsp p h id a2 turn t4 s) := by
  have hm := Sub.refl 0x100B2B91C2DB07E
  have hs := Touch.rfl' 0x100B2B91C2DB07E s
  unfold execSyncRsp
  with_reducible repeat' first | apply out_ite | apply Touch.ite_ | assumption | apply out_cmdAt | apply out_done | apply out_fault | apply touch_hubHears | apply touch_hubBits | apply touch_reach | apply touch_joinAdvance | apply touch_takeSync | apply Touch.foldl_ | apply Touch.foldl_fst | apply Touch.foldl_snd | intro _ _ _ | intro _ _ | split | dsimp only
  all_goals first | exact hm.up rfl

theorem out_execSynced (h) (s : State) :
    Out 0x800000001000 s (execSynced h s) := by
  have hm := Sub.refl 0x800000001000
  have hs := Touch.rfl' 0x800000001000 s
  unfold execSynced
  with_reducible repeat' first | apply out_ite | apply Touch.ite_ | assumption | apply out_cmdAt | apply out_done | apply out_fault | apply touch_pairRx | apply touch_pairSynced | apply Touch.foldl_ | apply Touch.foldl_fst | apply Touch.foldl_snd | intro _ _ _ | intro _ _

theorem out_execTakeoverWindowEnd (s : State) :
    Out 0x100B2B91C0DB07E s (execTakeoverWindowEnd s) := by
  have hm := Sub.refl 0x100B2B91C0DB07E
  have hs := Touch.rfl' 0x100B2B91C0DB07E s
  unfold execTakeoverWindowEnd
  with_reducible repeat' first | apply out_ite | apply Touch.ite_ | assumption | apply out_cmdAt | apply out_done | apply out_fault | apply touch_reach | apply touch_pairLost | apply touch_linkScan | apply touch_lower | apply touch_errSet | apply touch_incrSat | apply touch_wr | apply touch_record | apply touch_irq | apply Touch.foldl_ | apply Touch.foldl_fst | apply Touch.foldl_snd | intro _ _ _ | intro _ _ | split | dsimp only
  all_goals first | exact hm.up rfl | with_reducible refine hm.pg (k := 12) (page_raw ?_) ?_ | with_reducible refine hm.pg (k := 12) (page_err ?_) ?_ | exact hm.pg (k := 12) rfl rfl

theorem out_execTimeProbe (h) (s : State) :
    Out 0x800000101000 s (execTimeProbe h s) := by
  have hm := Sub.refl 0x800000101000
  have hs := Touch.rfl' 0x800000101000 s
  unfold execTimeProbe
  with_reducible repeat' first | apply out_ite | apply Touch.ite_ | assumption | apply out_cmdAt | apply out_done | apply out_fault | apply touch_pairRx | apply touch_pairTx | apply touch_setFree | apply touch_sendBulk | apply Touch.foldl_ | apply Touch.foldl_fst | apply Touch.foldl_snd | intro _ _ _ | intro _ _ | split | dsimp only
  all_goals first | exact hm.up rfl

theorem out_execTimeProbeSend (s : State) :
    Out 0x800000081000 s (execTimeProbeSend s) := by
  have hm := Sub.refl 0x800000081000
  have hs := Touch.rfl' 0x800000081000 s
  unfold execTimeProbeSend
  with_reducible repeat' first | apply out_ite | apply Touch.ite_ | assumption | apply out_cmdAt | apply out_done | apply out_fault | apply touch_reach | apply touch_pairTx | apply touch_setPair | apply Touch.foldl_ | apply Touch.foldl_fst | apply Touch.foldl_snd | intro _ _ _ | intro _ _ | split | dsimp only
  all_goals first | exact hm.up rfl

theorem out_execTimeResp (h a2 turn t4) (s : State) :
    Out 0x800000181004 s (execTimeResp h a2 turn t4 s) := by
  have hm := Sub.refl 0x800000181004
  have hs := Touch.rfl' 0x800000181004 s
  unfold execTimeResp
  with_reducible repeat' first | apply out_ite | apply Touch.ite_ | assumption | apply out_cmdAt | apply out_done | apply out_fault | apply touch_pairRx | apply touch_takeResp | apply touch_reach | apply Touch.foldl_ | apply Touch.foldl_fst | apply Touch.foldl_snd | intro _ _ _ | intro _ _ | split | dsimp only
  all_goals first | exact hm.up rfl

theorem out_execTokenRsp (p h res holder) (s : State) :
    Out 0x100B2B91C25B07E s (execTokenRsp p h res holder s) := by
  have hm := Sub.refl 0x100B2B91C25B07E
  have hs := Touch.rfl' 0x100B2B91C25B07E s
  unfold execTokenRsp
  with_reducible repeat' first | apply out_ite | apply Touch.ite_ | assumption | apply out_cmdAt | apply out_done | apply out_fault | apply touch_hubCell | apply touch_takeTokenRsp | apply Touch.foldl_ | apply Touch.foldl_fst | apply Touch.foldl_snd | intro _ _ _ | intro _ _ | split | dsimp only
  all_goals first | exact hm.up rfl

theorem out_execUplinkFill (p ack nak tok react) (s : State) :
    Out 0x100B2B91C25B07E s (execUplinkFill p ack nak tok react s) := by
  have hm := Sub.refl 0x100B2B91C25B07E
  have hs := Touch.rfl' 0x100B2B91C25B07E s
  unfold execUplinkFill
  with_reducible repeat' first | apply out_ite | apply Touch.ite_ | assumption | apply out_cmdAt | apply out_done | apply out_fault | apply touch_hubHears | apply touch_hubBits | apply Touch.when_ | apply touch_putPort | apply Touch.foldl_ | apply Touch.foldl_fst | apply Touch.foldl_snd | intro _ _ _ | intro _ _ | split | dsimp only
  all_goals first | exact hm.up rfl

theorem out_execYield (r) (s : State) :
    Out 0x82800E001012 s (execYield r s) := by
  have hm := Sub.refl 0x82800E001012
  have hs := Touch.rfl' 0x82800E001012 s
  unfold execYield
  with_reducible repeat' first | apply out_ite | apply Touch.ite_ | assumption | apply out_cmdAt | apply out_done | apply out_fault | apply touch_pairCmd | apply Touch.foldl_ | apply Touch.foldl_fst | apply Touch.foldl_snd | intro _ _ _ | intro _ _ | split | dsimp only
  all_goals first | exact hm.up rfl | exact hm.pg (k := 12) rfl rfl

theorem out_execSampleInstant (k) (s : State) :
    Out 0x104B2B9DC3DB17E s (execSampleInstant k s) := by
  have hm := Sub.refl 0x104B2B9DC3DB17E
  have hs := Touch.rfl' 0x104B2B9DC3DB17E s
  unfold execSampleInstant
  with_reducible repeat' first | apply out_ite | apply Touch.ite_ | assumption | apply out_cmdAt | apply out_done | apply out_fault | apply touch_reach | apply touch_instantRecords | apply touch_instantAt | apply Touch.foldl_ | apply Touch.foldl_fst | apply Touch.foldl_snd | intro _ _ _ | intro _ _ | split | dsimp only
  all_goals first | exact hm.up rfl

theorem out_execTrig (r) (s : State) :
    Out 0x104B2B9DE75B17E s (execTrig r s) := by
  have hm := Sub.refl 0x104B2B9DE75B17E
  have hs := Touch.rfl' 0x104B2B9DE75B17E s
  unfold execTrig
  with_reducible repeat' first | apply out_ite | apply Touch.ite_ | assumption | apply out_cmdAt | apply out_done | apply out_fault | apply touch_access | apply touch_trigCtx | apply Touch.foldl_ | apply Touch.foldl_fst | apply Touch.foldl_snd | intro _ _ _ | intro _ _ | split | dsimp only
  all_goals first | exact hm.up rfl | exact hm.pg (k := 5) rfl rfl

theorem out_execAliveLoss (s : State) :
    Out 0x100B2B91C05B07E s (execAliveLoss s) := by
  have hm := Sub.refl 0x100B2B91C05B07E
  have hs := Touch.rfl' 0x100B2B91C05B07E s
  unfold execAliveLoss
  with_reducible repeat' first | apply out_ite | apply Touch.ite_ | assumption | apply out_cmdAt | apply out_done | apply out_fault | apply touch_lossPath

theorem out_execAliveResumeTimeout (s : State) :
    Out 0x100B2B91C0DB07E s (execAliveResumeTimeout s) := by
  have hm := Sub.refl 0x100B2B91C0DB07E
  have hs := Touch.rfl' 0x100B2B91C0DB07E s
  unfold execAliveResumeTimeout
  with_reducible repeat' first | apply out_ite | apply Touch.ite_ | assumption | apply out_cmdAt | apply out_done | apply out_fault | apply touch_lossPath | apply touch_setSage | apply touch_reach | apply Touch.foldl_ | apply Touch.foldl_fst | apply Touch.foldl_snd | intro _ _ _ | intro _ _ | split | dsimp only
  all_goals first | exact hm.up rfl

theorem out_execApcWdgExpiry (i) (s : State) :
    Out 0x20000090000 s (execApcWdgExpiry i s) := by
  have hm := Sub.refl 0x20000090000
  have hs := Touch.rfl' 0x20000090000 s
  unfold execApcWdgExpiry
  with_reducible repeat' first | apply out_ite | apply Touch.ite_ | assumption | apply out_cmdAt | apply out_done | apply out_fault | apply touch_apcExpire | apply touch_reach | apply Touch.foldl_ | apply Touch.foldl_fst | apply Touch.foldl_snd | intro _ _ _ | intro _ _ | split | dsimp only
  all_goals first | exact hm.up rfl

theorem out_execApcWdgService (r i key) (s : State) :
    Out 0x6000E010002 s (execApcWdgService r i key s) := by
  have hm := Sub.refl 0x6000E010002
  have hs := Touch.rfl' 0x6000E010002 s
  unfold execApcWdgService
  with_reducible repeat' first | apply out_ite | apply Touch.ite_ | assumption | apply out_cmdAt | apply out_done | apply out_fault | apply touch_apcKey | apply Touch.foldl_ | apply Touch.foldl_fst | apply Touch.foldl_snd | intro _ _ _ | intro _ _ | split | dsimp only
  all_goals first | exact hm.up rfl | with_reducible refine hm.pg (page_aAPC_WDG_SVC _) ?_ | with_reducible refine hm.home (page_aAPC_WDG_SVC _) ?_
  all_goals rfl

theorem out_execCheckCell (p hd slot i vdc cnt) (s : State) : Out 0x100BAB91C25B07E s (execCheckCell p hd slot i vdc cnt s) := by
  have hm := Sub.refl 0x100BAB91C25B07E
  unfold execCheckCell
  refine out_done (touch_hubCell (hm.up rfl) _ _ _ _ (fun y hy => ?_) (Touch.rfl' _ s))
  have h := touch_disValue (hm.up rfl) p.val slot.val (lowBits 16 vdc) _ (touch_sampleMatch (hm.up rfl) p.val slot.val true y hy)
  dsimp only
  split
  · exact touch_tmItem (hm.up rfl) _ _ _ _ _ _ h
  · exact h

theorem out_execDebugHalt (x2) (s : State) :
    Out 0x42000001800C s (execDebugHalt x2 s) := by
  have hm := Sub.refl 0x42000001800C
  have hs := Touch.rfl' 0x42000001800C s
  unfold execDebugHalt
  with_reducible repeat' first | apply out_ite | apply Touch.ite_ | assumption | apply out_cmdAt | apply out_done | apply out_fault | apply touch_putApc | apply touch_setNotSafe | apply touch_raise | apply touch_holdAll | apply touch_setSage | apply Touch.foldl_ | apply Touch.foldl_fst | apply Touch.foldl_snd | intro _ _ _ | intro _ _ | split | dsimp only
  all_goals first | exact hm.up rfl | with_reducible refine hm.pg (page_aAPC_LS_STAT _) ?_ | exact hm.pg (k := 15) rfl rfl
  all_goals rfl

theorem out_execDebugResume (x2) (s : State) :
    Out 0x420000008000 s (execDebugResume x2 s) := by
  have hm := Sub.refl 0x420000008000
  have hs := Touch.rfl' 0x420000008000 s
  unfold execDebugResume
  with_reducible repeat' first | apply out_ite | apply Touch.ite_ | assumption | apply out_cmdAt | apply out_done | apply out_fault | apply touch_putApc | apply touch_lower | apply touch_setSage | apply Touch.foldl_ | apply Touch.foldl_fst | apply Touch.foldl_snd | intro _ _ _ | intro _ _ | split | dsimp only
  all_goals first | exact hm.up rfl | exact hm.pg (k := 15) rfl rfl

end Sys2Proof.Laws
end

