-- ==== Sys2Proof/Laws/CommandsC.lean ====
section
/-! SUPPORT. The commands, in the order of their files, the third hundred: what they may change before Sage handles what they caused. -/
namespace Sys2Proof.Laws
open Sys2Proof.Machine

variable {m : Nat} {x : State}

theorem out_execDischargeDone (m2) (s : State) :
    Out 0x100B2B91C0DB07A s (execDischargeDone m2 s) := by
  have hm := Sub.refl 0x100B2B91C0DB07A
  have hs := Touch.rfl' 0x100B2B91C0DB07A s
  unfold execDischargeDone
  with_reducible repeat' first | apply out_ite | apply Touch.ite_ | assumption | apply out_cmdAt | apply out_done | apply out_fault | apply touch_disOver | apply touch_reach | apply Touch.foldl_ | apply Touch.foldl_fst | apply Touch.foldl_snd | intro _ _ _ | intro _ _ | split | dsimp only
  all_goals first | exact hm.up rfl

theorem out_execDischargeNodata (m2) (s : State) :
    Out 0x100B2B91C0DB07A s (execDischargeNodata m2 s) := by
  have hm := Sub.refl 0x100B2B91C0DB07A
  have hs := Touch.rfl' 0x100B2B91C0DB07A s
  unfold execDischargeNodata
  with_reducible repeat' first | apply out_ite | apply Touch.ite_ | assumption | apply out_cmdAt | apply out_done | apply out_fault | apply touch_disOver | apply touch_reach | apply Touch.foldl_ | apply Touch.foldl_fst | apply Touch.foldl_snd | intro _ _ _ | intro _ _ | split | dsimp only
  all_goals first | exact hm.up rfl

theorem out_execDischargeStall (m2) (s : State) :
    Out 0x100B2B91C0DB07A s (execDischargeStall m2 s) := by
  have hm := Sub.refl 0x100B2B91C0DB07A
  have hs := Touch.rfl' 0x100B2B91C0DB07A s
  unfold execDischargeStall
  with_reducible repeat' first | apply out_ite | apply Touch.ite_ | assumption | apply out_cmdAt | apply out_done | apply out_fault | apply touch_disCheckpoint

theorem out_execDischargeTimeout (m2) (s : State) :
    Out 0x100B2B91C0DB07A s (execDischargeTimeout m2 s) := by
  have hm := Sub.refl 0x100B2B91C0DB07A
  have hs := Touch.rfl' 0x100B2B91C0DB07A s
  unfold execDischargeTimeout
  with_reducible repeat' first | apply out_ite | apply Touch.ite_ | assumption | apply out_cmdAt | apply out_done | apply out_fault | apply touch_disOver | apply touch_reach | apply Touch.foldl_ | apply Touch.foldl_fst | apply Touch.foldl_snd | intro _ _ _ | intro _ _ | split | dsimp only
  all_goals first | exact hm.up rfl

theorem out_execKbSupervision (s : State) :
    Out 0x220000000000 s (execKbSupervision s) := by
  have hm := Sub.refl 0x220000000000
  have hs := Touch.rfl' 0x220000000000 s
  unfold execKbSupervision
  with_reducible repeat' first | apply out_ite | apply Touch.ite_ | assumption | apply out_cmdAt | apply out_done | apply out_fault | apply Touch.each_ | apply touch_setLivs | apply touch_sageEvt | apply Touch.foldl_ | apply Touch.foldl_fst | apply Touch.foldl_snd | intro _ _ _ | intro _ _ | split | dsimp only
  all_goals first | exact hm.up rfl

theorem out_execLiveness (k) (s : State) :
    Out 0x20000088000 s (execLiveness k s) := by
  have hm := Sub.refl 0x20000088000
  have hs := Touch.rfl' 0x20000088000 s
  unfold execLiveness
  with_reducible repeat' first | apply out_ite | apply Touch.ite_ | assumption | apply out_cmdAt | apply out_done | apply out_fault | apply touch_reach | apply touch_sageEvt | apply touch_putBit | apply Touch.foldl_ | apply Touch.foldl_fst | apply Touch.foldl_snd | intro _ _ _ | intro _ _ | split | dsimp only
  all_goals first | exact hm.up rfl | with_reducible refine hm.pg (page_aSAGE_LIV_VIOL _) ?_ | with_reducible refine hm.pg (page_bit_aSAGE_LIV_VIOL _ _) ?_
  all_goals rfl

theorem out_execLockstepInject (r i) (s : State) :
    Out 0x2000E010002 s (execLockstepInject r i s) := by
  have hm := Sub.refl 0x2000E010002
  have hs := Touch.rfl' 0x2000E010002 s
  unfold execLockstepInject
  with_reducible repeat' first | apply out_ite | apply Touch.ite_ | assumption | apply out_cmdAt | apply out_done | apply out_fault | apply touch_lsInject | apply Touch.foldl_ | apply Touch.foldl_fst | apply Touch.foldl_snd | intro _ _ _ | intro _ _ | split | dsimp only
  all_goals first | exact hm.up rfl | exact hm.pg (k := 16) rfl rfl

theorem out_execLockstepMismatch (x2 cause) (s : State) :
    Out 0x100F2B91C05B07E s (execLockstepMismatch x2 cause s) := by
  have hm := Sub.refl 0x100F2B91C05B07E
  have hs := Touch.rfl' 0x100F2B91C05B07E s
  unfold execLockstepMismatch
  with_reducible repeat' first | apply out_ite | apply Touch.ite_ | assumption | apply out_cmdAt | apply out_done | apply out_fault | apply touch_putApc | apply touch_raise | apply touch_incrSat | apply touch_put | apply touch_pairQuit | apply touch_sageEvt | apply touch_lossPath | apply Touch.foldl_ | apply Touch.foldl_fst | apply Touch.foldl_snd | intro _ _ _ | intro _ _ | split | dsimp only
  all_goals first | exact hm.up rfl | with_reducible refine hm.pg (page_aAPC_LS_STAT _) ?_
  all_goals rfl

theorem out_execMainClockCheck (ticks) (s : State) :
    Out 0x20000008000 s (execMainClockCheck ticks s) := by
  have hm := Sub.refl 0x20000008000
  have hs := Touch.rfl' 0x20000008000 s
  unfold execMainClockCheck
  with_reducible repeat' first | apply out_ite | apply Touch.ite_ | assumption | apply out_cmdAt | apply out_done | apply out_fault | apply touch_put | apply touch_setSage | apply touch_sageEvt | apply touch_lower | apply touch_raise | apply Touch.foldl_ | apply Touch.foldl_fst | apply Touch.foldl_snd | intro _ _ _ | intro _ _ | split | dsimp only
  all_goals first | exact hm.up rfl | exact hm.pg (k := 15) rfl rfl

theorem out_execNsClear (r) (s : State) :
    Out 0x2000E018002 s (execNsClear r s) := by
  have hm := Sub.refl 0x2000E018002
  have hs := Touch.rfl' 0x2000E018002 s
  unfold execNsClear
  with_reducible repeat' first | apply out_ite | apply Touch.ite_ | assumption | apply out_cmdAt | apply out_done | apply out_fault | apply touch_nsClr | apply Touch.foldl_ | apply Touch.foldl_fst | apply Touch.foldl_snd | intro _ _ _ | intro _ _ | split | dsimp only
  all_goals first | exact hm.up rfl | exact hm.pg (k := 15) rfl rfl

theorem out_execNsSet (r) (s : State) :
    Out 0x2000E018002 s (execNsSet r s) := by
  have hm := Sub.refl 0x2000E018002
  have hs := Touch.rfl' 0x2000E018002 s
  unfold execNsSet
  with_reducible repeat' first | apply out_ite | apply Touch.ite_ | assumption | apply out_cmdAt | apply out_done | apply out_fault | apply touch_setNotSafe | apply Touch.foldl_ | apply Touch.foldl_fst | apply Touch.foldl_snd | intro _ _ _ | intro _ _ | split | dsimp only
  all_goals first | exact hm.up rfl | exact hm.pg (k := 15) rfl rfl

theorem out_execPinAssert (r pins) (s : State) :
    Out 0x2000E008002 s (execPinAssert r pins s) := by
  have hm := Sub.refl 0x2000E008002
  have hs := Touch.rfl' 0x2000E008002 s
  unfold execPinAssert
  with_reducible repeat' first | apply out_ite | apply Touch.ite_ | assumption | apply out_cmdAt | apply out_done | apply out_fault | apply touch_assertPins | apply Touch.foldl_ | apply Touch.foldl_fst | apply Touch.foldl_snd | intro _ _ _ | intro _ _ | split | dsimp only
  all_goals first | exact hm.up rfl | exact hm.pg (k := 15) rfl rfl

theorem out_execPinRelease (r pins) (s : State) :
    Out 0x2000E008002 s (execPinRelease r pins s) := by
  have hm := Sub.refl 0x2000E008002
  have hs := Touch.rfl' 0x2000E008002 s
  unfold execPinRelease
  with_reducible repeat' first | apply out_ite | apply Touch.ite_ | assumption | apply out_cmdAt | apply out_done | apply out_fault | apply touch_pinRel | apply Touch.foldl_ | apply Touch.foldl_fst | apply Touch.foldl_snd | intro _ _ _ | intro _ _ | split | dsimp only
  all_goals first | exact hm.up rfl | exact hm.pg (k := 15) rfl rfl

theorem out_execSageAsc (r) (s : State) :
    Out 0x100B2B91E05B07E s (execSageAsc r s) := by
  have hm := Sub.refl 0x100B2B91E05B07E
  have hs := Touch.rfl' 0x100B2B91E05B07E s
  unfold execSageAsc
  with_reducible repeat' first | apply out_ite | apply Touch.ite_ | assumption | apply out_cmdAt | apply out_done | apply out_fault | apply touch_sageMgCmd | apply Touch.foldl_ | apply Touch.foldl_fst | apply Touch.foldl_snd | intro _ _ _ | intro _ _ | split | dsimp only
  all_goals first | exact hm.up rfl | exact hm.pg (k := 15) rfl rfl

theorem out_execSageClockCheck (cyc stopped) (s : State) :
    Out 0x100B2B91C05B07E s (execSageClockCheck cyc stopped s) := by
  have hm := Sub.refl 0x100B2B91C05B07E
  have hs := Touch.rfl' 0x100B2B91C05B07E s
  unfold execSageClockCheck
  with_reducible repeat' first | apply out_ite | apply Touch.ite_ | assumption | apply out_cmdAt | apply out_done | apply out_fault | apply touch_setSage | apply touch_put | apply touch_lossPath | apply Touch.foldl_ | apply Touch.foldl_fst | apply Touch.foldl_snd | intro _ _ _ | intro _ _ | split | dsimp only
  all_goals first | exact hm.up rfl | exact hm.pg (k := 15) rfl rfl

theorem out_execSageDefault (r) (s : State) :
    Out 0x100B2B91E05B07E s (execSageDefault r s) := by
  have hm := Sub.refl 0x100B2B91E05B07E
  have hs := Touch.rfl' 0x100B2B91E05B07E s
  unfold execSageDefault
  with_reducible repeat' first | apply out_ite | apply Touch.ite_ | assumption | apply out_cmdAt | apply out_done | apply out_fault | apply touch_sageMgCmd | apply Touch.foldl_ | apply Touch.foldl_fst | apply Touch.foldl_snd | intro _ _ _ | intro _ _ | split | dsimp only
  all_goals first | exact hm.up rfl | exact hm.pg (k := 15) rfl rfl

theorem out_execSageDischargeBleed (r) (s : State) :
    Out 0x100B2B91E05B07E s (execSageDischargeBleed r s) := by
  have hm := Sub.refl 0x100B2B91E05B07E
  have hs := Touch.rfl' 0x100B2B91E05B07E s
  unfold execSageDischargeBleed
  with_reducible repeat' first | apply out_ite | apply Touch.ite_ | assumption | apply out_cmdAt | apply out_done | apply out_fault | apply touch_sageMgCmd | apply Touch.foldl_ | apply Touch.foldl_fst | apply Touch.foldl_snd | intro _ _ _ | intro _ _ | split | dsimp only
  all_goals first | exact hm.up rfl | exact hm.pg (k := 15) rfl rfl

theorem out_execSageDischargeWinding (r) (s : State) :
    Out 0x100B2B91E05B07E s (execSageDischargeWinding r s) := by
  have hm := Sub.refl 0x100B2B91E05B07E
  have hs := Touch.rfl' 0x100B2B91E05B07E s
  unfold execSageDischargeWinding
  with_reducible repeat' first | apply out_ite | apply Touch.ite_ | assumption | apply out_cmdAt | apply out_done | apply out_fault | apply touch_sageMgCmd | apply Touch.foldl_ | apply Touch.foldl_fst | apply Touch.foldl_snd | intro _ _ _ | intro _ _ | split | dsimp only
  all_goals first | exact hm.up rfl | exact hm.pg (k := 15) rfl rfl

theorem out_execSageEvent (e named test) (s : State) :
    Out 0x20000008000 s (execSageEvent e named test s) := by
  have hm := Sub.refl 0x20000008000
  have hs := Touch.rfl' 0x20000008000 s
  unfold execSageEvent
  with_reducible repeat' first | apply out_ite | apply Touch.ite_ | assumption | apply out_cmdAt | apply out_done | apply out_fault | apply touch_raise | apply touch_toSage | apply Touch.foldl_ | apply Touch.foldl_fst | apply Touch.foldl_snd | intro _ _ _ | intro _ _ | split | dsimp only
  all_goals first | exact hm.up rfl | exact hm.pg (k := 15) rfl rfl

theorem out_execSageLsInject (r) (s : State) :
    Out 0x2000E008002 s (execSageLsInject r s) := by
  have hm := Sub.refl 0x2000E008002
  have hs := Touch.rfl' 0x2000E008002 s
  unfold execSageLsInject
  with_reducible repeat' first | apply out_ite | apply Touch.ite_ | assumption | apply out_cmdAt | apply out_done | apply out_fault | apply touch_sageInject | apply Touch.foldl_ | apply Touch.foldl_fst | apply Touch.foldl_snd | intro _ _ _ | intro _ _ | split | dsimp only
  all_goals first | exact hm.up rfl | exact hm.pg (k := 15) rfl rfl

theorem out_execSagePulseOff (r) (s : State) :
    Out 0x100B2B91E05B07E s (execSagePulseOff r s) := by
  have hm := Sub.refl 0x100B2B91E05B07E
  have hs := Touch.rfl' 0x100B2B91E05B07E s
  unfold execSagePulseOff
  with_reducible repeat' first | apply out_ite | apply Touch.ite_ | assumption | apply out_cmdAt | apply out_done | apply out_fault | apply touch_sageMgCmd | apply Touch.foldl_ | apply Touch.foldl_fst | apply Touch.foldl_snd | intro _ _ _ | intro _ _ | split | dsimp only
  all_goals first | exact hm.up rfl | exact hm.pg (k := 15) rfl rfl

theorem out_execSageRelease (r) (s : State) :
    Out 0x100B2B91E05B07E s (execSageRelease r s) := by
  have hm := Sub.refl 0x100B2B91E05B07E
  have hs := Touch.rfl' 0x100B2B91E05B07E s
  unfold execSageRelease
  with_reducible repeat' first | apply out_ite | apply Touch.ite_ | assumption | apply out_cmdAt | apply out_done | apply out_fault | apply touch_sageMgCmd | apply Touch.foldl_ | apply Touch.foldl_fst | apply Touch.foldl_snd | intro _ _ _ | intro _ _ | split | dsimp only
  all_goals first | exact hm.up rfl | exact hm.pg (k := 15) rfl rfl

theorem out_execSageReset (r) (s : State) :
    Out 0x2000E03FFFF s (execSageReset r s) := by
  have hm := Sub.refl 0x2000E03FFFF
  have hs := Touch.rfl' 0x2000E03FFFF s
  unfold execSageReset
  with_reducible repeat' first | apply out_ite | apply Touch.ite_ | assumption | apply out_cmdAt | apply out_done | apply out_fault | apply touch_sageSrst | apply Touch.foldl_ | apply Touch.foldl_fst | apply Touch.foldl_snd | intro _ _ _ | intro _ _ | split | dsimp only
  all_goals first | exact hm.up rfl | exact hm.pg (k := 15) rfl rfl

theorem out_execSageSupplyCheck (core safe) (s : State) :
    Out 0x100B2B91C05B07E s (execSageSupplyCheck core safe s) := by
  have hm := Sub.refl 0x100B2B91C05B07E
  have hs := Touch.rfl' 0x100B2B91C05B07E s
  unfold execSageSupplyCheck
  with_reducible repeat' first | apply out_ite | apply Touch.ite_ | assumption | apply out_cmdAt | apply out_done | apply out_fault | apply touch_putB | apply touch_sageEvt | apply touch_lossPath | apply Touch.foldl_ | apply Touch.foldl_fst | apply Touch.foldl_snd | intro _ _ _ | intro _ _ | split | dsimp only
  all_goals first | exact hm.up rfl | exact hm.pg (k := 15) rfl rfl

theorem out_execTorqueEvaluation (m2) (s : State) :
    Out 0xA0000008000 s (execTorqueEvaluation m2 s) := by
  have hm := Sub.refl 0xA0000008000
  have hs := Touch.rfl' 0xA0000008000 s
  unfold execTorqueEvaluation
  with_reducible repeat' first | apply out_ite | apply Touch.ite_ | assumption | apply out_cmdAt | apply out_done | apply out_fault | apply touch_torqueEval

theorem out_execWdgExpiry (s : State) :
    Out 0x100B2B91C0DB07E s (execWdgExpiry s) := by
  have hm := Sub.refl 0x100B2B91C0DB07E
  have hs := Touch.rfl' 0x100B2B91C0DB07E s
  unfold execWdgExpiry
  with_reducible repeat' first | apply out_ite | apply Touch.ite_ | assumption | apply out_cmdAt | apply out_done | apply out_fault | apply touch_sageExpire | apply touch_reach | apply Touch.foldl_ | apply Touch.foldl_fst | apply Touch.foldl_snd | intro _ _ _ | intro _ _ | split | dsimp only
  all_goals first | exact hm.up rfl

theorem out_execWdgService (r key) (s : State) :
    Out 0x100B6B91E05B07E s (execWdgService r key s) := by
  have hm := Sub.refl 0x100B6B91E05B07E
  have hs := Touch.rfl' 0x100B6B91E05B07E s
  unfold execWdgService
  with_reducible repeat' first | apply out_ite | apply Touch.ite_ | assumption | apply out_cmdAt | apply out_done | apply out_fault | apply touch_sageKey | apply Touch.foldl_ | apply Touch.foldl_fst | apply Touch.foldl_snd | intro _ _ _ | intro _ _ | split | dsimp only
  all_goals first | exact hm.up rfl | exact hm.pg (k := 15) rfl rfl

theorem out_execWdgWindowOpen (d) (s : State) :
    Out 0x98000 s (execWdgWindowOpen d s) := by
  have hm := Sub.refl 0x98000
  have hs := Touch.rfl' 0x98000 s
  unfold execWdgWindowOpen
  with_reducible repeat' first | apply out_ite | apply Touch.ite_ | assumption | apply out_cmdAt | apply out_done | apply out_fault | apply touch_raise | apply touch_reach | apply Touch.foldl_ | apply Touch.foldl_fst | apply Touch.foldl_snd | intro _ _ _ | intro _ _ | split | dsimp only
  all_goals first | exact hm.up rfl | with_reducible refine hm.pg (page_aAPC_WDG_STAT _) ?_ | exact hm.pg (k := 15) rfl rfl
  all_goals rfl

theorem out_execClockGate (i) (s : State) :
    Out 0x4080000 s (execClockGate i s) := by
  have hm := Sub.refl 0x4080000
  have hs := Touch.rfl' 0x4080000 s
  unfold execClockGate
  with_reducible repeat' first | apply out_ite | apply Touch.ite_ | assumption | apply out_cmdAt | apply out_done | apply out_fault | apply touch_reach | apply touch_putWarden | apply Touch.foldl_ | apply Touch.foldl_fst | apply Touch.foldl_snd | intro _ _ _ | intro _ _ | split | dsimp only
  all_goals first | exact hm.up rfl

theorem out_execCreditAudit (s : State) :
    Out 0x10002040C082002 s (execCreditAudit s) := by
  have hm := Sub.refl 0x10002040C082002
  have hs := Touch.rfl' 0x10002040C082002 s
  unfold execCreditAudit
  with_reducible repeat' first | apply out_ite | apply Touch.ite_ | assumption | apply out_cmdAt | apply out_done | apply out_fault | apply touch_creditAudit | apply touch_setFrames | apply touch_reach | apply Touch.foldl_ | apply Touch.foldl_fst | apply Touch.foldl_snd | intro _ _ _ | intro _ _ | split | dsimp only
  all_goals first | exact hm.up rfl

theorem out_execCtrlSrst (r b) (s : State) :
    Out 0x20A2091E67FFFF s (execCtrlSrst r b s) := by
  have hm := Sub.refl 0x20A2091E67FFFF
  have hs := Touch.rfl' 0x20A2091E67FFFF s
  unfold execCtrlSrst
  with_reducible repeat' first | apply out_ite | apply Touch.ite_ | assumption | apply out_cmdAt | apply out_done | apply out_fault | apply touch_ctrlSrst | apply Touch.foldl_ | apply Touch.foldl_fst | apply Touch.foldl_snd | intro _ _ _ | intro _ _ | split | dsimp only
  all_goals first | exact hm.up rfl | exact hm.homeAny rfl _

theorem out_execDrainComplete (i) (s : State) :
    Out 0x14AB2B91C07FFFF s (execDrainComplete i s) := by
  have hm := Sub.refl 0x14AB2B91C07FFFF
  have hs := Touch.rfl' 0x14AB2B91C07FFFF s
  unfold execDrainComplete
  with_reducible repeat' first | apply out_ite | apply Touch.ite_ | assumption | apply out_cmdAt | apply out_done | apply out_fault | apply touch_retireBegins

theorem out_execDrainTimeout (i) (s : State) :
    Out 0x14AB2B91C0FFFFF s (execDrainTimeout i s) := by
  have hm := Sub.refl 0x14AB2B91C0FFFFF
  have hs := Touch.rfl' 0x14AB2B91C0FFFFF s
  unfold execDrainTimeout
  with_reducible repeat' first | apply out_ite | apply Touch.ite_ | assumption | apply out_cmdAt | apply out_done | apply out_fault | apply touch_reach | apply touch_retireBegins | apply touch_irq | apply touch_errSet | apply Touch.foldl_ | apply Touch.foldl_fst | apply Touch.foldl_snd | intro _ _ _ | intro _ _ | split | dsimp only
  all_goals first | exact hm.up rfl | with_reducible refine hm.pg (k := 1) (page_raw ?_) ?_ | with_reducible refine hm.pg (k := 1) (page_err ?_) ?_ | exact hm.pg (k := 1) rfl rfl

theorem out_execReply (q i urg tag ep) (s : State) :
    Out 0x10002000C002002 s (execReply q i urg tag ep s) := by
  have hm := Sub.refl 0x10002000C002002
  have hs := Touch.rfl' 0x10002000C002002 s
  unfold execReply
  with_reducible repeat' first | apply out_ite | apply Touch.ite_ | assumption | apply out_cmdAt | apply out_done | apply out_fault | apply touch_fabReply

theorem out_execRequestArrival (q i urg tag ep idw) (s : State) :
    Out 0x10000000C002002 s (execRequestArrival q i urg tag ep idw s) := by
  have hm := Sub.refl 0x10000000C002002
  have hs := Touch.rfl' 0x10000000C002002 s
  unfold execRequestArrival
  with_reducible repeat' first | apply out_ite | apply Touch.ite_ | assumption | apply out_cmdAt | apply out_done | apply out_fault | apply touch_fabArrival

theorem out_execResetRelease (i) (s : State) :
    Out 0x804600040BFFFF s (execResetRelease i s) := by
  have hm := Sub.refl 0x804600040BFFFF
  have hs := Touch.rfl' 0x804600040BFFFF s
  unfold execResetRelease
  with_reducible repeat' first | apply out_ite | apply Touch.ite_ | assumption | apply out_cmdAt | apply out_done | apply out_fault | apply touch_refreshPower | apply touch_islandRelease | apply touch_reach | apply Touch.foldl_ | apply Touch.foldl_fst | apply Touch.foldl_snd | intro _ _ _ | intro _ _ | split | dsimp only
  all_goals first | exact hm.up rfl

theorem out_execRetireOvertime (i) (s : State) :
    Out 0x10002000C082002 s (execRetireOvertime i s) := by
  have hm := Sub.refl 0x10002000C082002
  have hs := Touch.rfl' 0x10002000C082002 s
  unfold execRetireOvertime
  with_reducible repeat' first | apply out_ite | apply Touch.ite_ | assumption | apply out_cmdAt | apply out_done | apply out_fault | apply touch_fabricFault | apply touch_reach | apply Touch.foldl_ | apply Touch.foldl_fst | apply Touch.foldl_snd | intro _ _ _ | intro _ _ | split | dsimp only
  all_goals first | exact hm.up rfl

theorem out_execCursorCopy (r) (s : State) :
    Out 0x2000E002002 s (execCursorCopy r s) := by
  have hm := Sub.refl 0x2000E002002
  have hs := Touch.rfl' 0x2000E002002 s
  unfold execCursorCopy
  with_reducible repeat' first | apply out_ite | apply Touch.ite_ | assumption | apply out_cmdAt | apply out_done | apply out_fault | apply touch_curMove | apply Touch.foldl_ | apply Touch.foldl_fst | apply Touch.foldl_snd | intro _ _ _ | intro _ _ | split | dsimp only
  all_goals first | exact hm.up rfl | exact hm.pg (k := 13) rfl rfl

theorem out_execCursorNewer (r) (s : State) :
    Out 0x2000E002002 s (execCursorNewer r s) := by
  have hm := Sub.refl 0x2000E002002
  have hs := Touch.rfl' 0x2000E002002 s
  unfold execCursorNewer
  with_reducible repeat' first | apply out_ite | apply Touch.ite_ | assumption | apply out_cmdAt | apply out_done | apply out_fault | apply touch_curMove | apply Touch.foldl_ | apply Touch.foldl_fst | apply Touch.foldl_snd | intro _ _ _ | intro _ _ | split | dsimp only
  all_goals first | exact hm.up rfl | exact hm.pg (k := 13) rfl rfl

theorem out_execCursorOlder (r) (s : State) :
    Out 0x2000E002002 s (execCursorOlder r s) := by
  have hm := Sub.refl 0x2000E002002
  have hs := Touch.rfl' 0x2000E002002 s
  unfold execCursorOlder
  with_reducible repeat' first | apply out_ite | apply Touch.ite_ | assumption | apply out_cmdAt | apply out_done | apply out_fault | apply touch_curMove | apply Touch.foldl_ | apply Touch.foldl_fst | apply Touch.foldl_snd | intro _ _ _ | intro _ _ | split | dsimp only
  all_goals first | exact hm.up rfl | exact hm.pg (k := 13) rfl rfl

theorem out_execCursorSelect (r idx) (s : State) :
    Out 0x2000E002002 s (execCursorSelect r idx s) := by
  have hm := Sub.refl 0x2000E002002
  have hs := Touch.rfl' 0x2000E002002 s
  unfold execCursorSelect
  with_reducible repeat' first | apply out_ite | apply Touch.ite_ | assumption | apply out_cmdAt | apply out_done | apply out_fault | apply touch_curSelect | apply Touch.foldl_ | apply Touch.foldl_fst | apply Touch.foldl_snd | intro _ _ _ | intro _ _ | split | dsimp only
  all_goals first | exact hm.up rfl | exact hm.pg (k := 13) rfl rfl

theorem out_execFreeze (r) (s : State) :
    Out 0x10002000E002002 s (execFreeze r s) := by
  have hm := Sub.refl 0x10002000E002002
  have hs := Touch.rfl' 0x10002000E002002 s
  unfold execFreeze
  with_reducible repeat' first | apply out_ite | apply Touch.ite_ | assumption | apply out_cmdAt | apply out_done | apply out_fault | apply touch_recCmd | apply Touch.foldl_ | apply Touch.foldl_fst | apply Touch.foldl_snd | intro _ _ _ | intro _ _ | split | dsimp only
  all_goals first | exact hm.up rfl | exact hm.pg (k := 13) rfl rfl

theorem out_execRecEvent (code block inst t pay) (s : State) :
    Out 0x10000000C002002 s (execRecEvent code block inst t pay s) := by
  have hm := Sub.refl 0x10000000C002002
  have hs := Touch.rfl' 0x10000000C002002 s
  unfold execRecEvent
  with_reducible repeat' first | apply out_ite | apply Touch.ite_ | assumption | apply out_cmdAt | apply out_done | apply out_fault | apply touch_recEvent

theorem out_execRecordWrite (s : State) :
    Out 0x100000000042000 s (execRecordWrite s) := by
  have hm := Sub.refl 0x100000000042000
  have hs := Touch.rfl' 0x100000000042000 s
  unfold execRecordWrite
  with_reducible repeat' first | apply out_ite | apply Touch.ite_ | assumption | apply out_cmdAt | apply out_done | apply out_fault | apply touch_recordWrite

theorem out_execRingSearch (s : State) :
    Out 0x100000000042000 s (execRingSearch s) := by
  have hm := Sub.refl 0x100000000042000
  have hs := Touch.rfl' 0x100000000042000 s
  unfold execRingSearch
  with_reducible repeat' first | apply out_ite | apply Touch.ite_ | assumption | apply out_cmdAt | apply out_done | apply out_fault | apply touch_ringSearch

theorem out_execSoftwareRecord (r code) (s : State) :
    Out 0x10002000E002002 s (execSoftwareRecord r code s) := by
  have hm := Sub.refl 0x10002000E002002
  have hs := Touch.rfl' 0x10002000E002002 s
  unfold execSoftwareRecord
  with_reducible repeat' first | apply out_ite | apply Touch.ite_ | assumption | apply out_cmdAt | apply out_done | apply out_fault | apply touch_softRecord | apply Touch.foldl_ | apply Touch.foldl_fst | apply Touch.foldl_snd | intro _ _ _ | intro _ _ | split | dsimp only
  all_goals first | exact hm.up rfl | exact hm.pg (k := 13) rfl rfl

theorem out_execUnfreeze (r) (s : State) :
    Out 0x10002000E002002 s (execUnfreeze r s) := by
  have hm := Sub.refl 0x10002000E002002
  have hs := Touch.rfl' 0x10002000E002002 s
  unfold execUnfreeze
  with_reducible repeat' first | apply out_ite | apply Touch.ite_ | assumption | apply out_cmdAt | apply out_done | apply out_fault | apply touch_recCmd | apply Touch.foldl_ | apply Touch.foldl_fst | apply Touch.foldl_snd | intro _ _ _ | intro _ _ | split | dsimp only
  all_goals first | exact hm.up rfl | exact hm.pg (k := 13) rfl rfl

theorem out_execBistComplete (i res sig info) (s : State) :
    Out 0x38046000C0BFFFF s (execBistComplete i res sig info s) := by
  have hm := Sub.refl 0x38046000C0BFFFF
  have hs := Touch.rfl' 0x38046000C0BFFFF s
  unfold execBistComplete
  with_reducible repeat' first | apply out_ite | apply Touch.ite_ | assumption | apply out_cmdAt | apply out_done | apply out_fault | apply touch_bistComplete

theorem out_execBistRelease (r i) (s : State) :
    Out 0x2000E004002 s (execBistRelease r i s) := by
  have hm := Sub.refl 0x2000E004002
  have hs := Touch.rfl' 0x2000E004002 s
  unfold execBistRelease
  with_reducible repeat' first | apply out_ite | apply Touch.ite_ | assumption | apply out_cmdAt | apply out_done | apply out_fault | apply touch_bistRelease | apply Touch.foldl_ | apply Touch.foldl_fst | apply Touch.foldl_snd | intro _ _ _ | intro _ _ | split | dsimp only
  all_goals first | exact hm.up rfl | exact hm.pg (k := 14) rfl rfl

theorem out_execBistRequest (r i kinds) (s : State) :
    Out 0x20002000E004002 s (execBistRequest r i kinds s) := by
  have hm := Sub.refl 0x20002000E004002
  have hs := Touch.rfl' 0x20002000E004002 s
  unfold execBistRequest
  with_reducible repeat' first | apply out_ite | apply Touch.ite_ | assumption | apply out_cmdAt | apply out_done | apply out_fault | apply touch_bistRequest | apply Touch.foldl_ | apply Touch.foldl_fst | apply Touch.foldl_snd | intro _ _ _ | intro _ _ | split | dsimp only
  all_goals first | exact hm.up rfl | exact hm.pg (k := 14) rfl rfl

theorem out_execBistStart (s : State) :
    Out 0x320A0091C7FFFFF s (execBistStart s) := by
  have hm := Sub.refl 0x320A0091C7FFFFF
  have hs := Touch.rfl' 0x320A0091C7FFFFF s
  unfold execBistStart
  with_reducible repeat' first | apply out_ite | apply Touch.ite_ | assumption | apply out_cmdAt | apply out_done | apply out_fault | apply touch_bistStart

theorem out_execApcPairReset (r i key) (s : State) :
    Out 0x20A2091E67FFFF s (execApcPairReset r i key s) := by
  have hm := Sub.refl 0x20A2091E67FFFF
  have hs := Touch.rfl' 0x20A2091E67FFFF s
  unfold execApcPairReset
  with_reducible repeat' first | apply out_ite | apply Touch.ite_ | assumption | apply out_cmdAt | apply out_done | apply out_fault | apply touch_pairReset1 | apply Touch.foldl_ | apply Touch.foldl_fst | apply Touch.foldl_snd | intro _ _ _ | intro _ _ | split | dsimp only
  all_goals first | exact hm.up rfl | exact hm.pg (k := 0) rfl rfl

theorem out_execDebugReset (s : State) :
    Out 0x3FFFFFFFFFFFFFF s (execDebugReset s) := by
  have hm := Sub.refl 0x3FFFFFFFFFFFFFF
  have hs := Touch.rfl' 0x3FFFFFFFFFFFFFF s
  unfold execDebugReset
  with_reducible repeat' first | apply out_ite | apply Touch.ite_ | assumption | apply out_cmdAt | apply out_done | apply out_fault | apply touch_deviceReset

theorem out_execPinReset (s : State) :
    Out 0x3FFFFFFFFFFFFFF s (execPinReset s) := by
  have hm := Sub.refl 0x3FFFFFFFFFFFFFF
  have hs := Touch.rfl' 0x3FFFFFFFFFFFFFF s
  unfold execPinReset
  with_reducible repeat' first | apply out_ite | apply Touch.ite_ | assumption | apply out_cmdAt | apply out_done | apply out_fault | apply touch_deviceReset

theorem out_execPowerDown (r d) (s : State) :
    Out 0x3FFFEF9FFFFFFFF s (execPowerDown r d s) := by
  have hm := Sub.refl 0x3FFFEF9FFFFFFFF
  have hs := Touch.rfl' 0x3FFFEF9FFFFFFFF s
  unfold execPowerDown
  with_reducible repeat' first | apply out_ite | apply Touch.ite_ | assumption | apply out_cmdAt | apply out_done | apply out_fault | apply touch_powerRequest | apply Touch.foldl_ | apply Touch.foldl_fst | apply Touch.foldl_snd | intro _ _ _ | intro _ _ | split | dsimp only
  all_goals first | exact hm.up rfl | exact hm.pg (k := 0) rfl rfl

theorem out_execPowerOnReset (s : State) :
    Out 0x3FFFFFFFFFFFFFF s (execPowerOnReset s) := by
  have hm := Sub.refl 0x3FFFFFFFFFFFFFF
  have hs := Touch.rfl' 0x3FFFFFFFFFFFFFF s
  unfold execPowerOnReset
  with_reducible repeat' first | apply out_ite | apply Touch.ite_ | assumption | apply out_cmdAt | apply out_done | apply out_fault | apply touch_deviceReset

theorem out_execPowerUp (r d) (s : State) :
    Out 0x3FFFEF9FFFFFFFF s (execPowerUp r d s) := by
  have hm := Sub.refl 0x3FFFEF9FFFFFFFF
  have hs := Touch.rfl' 0x3FFFEF9FFFFFFFF s
  unfold execPowerUp
  with_reducible repeat' first | apply out_ite | apply Touch.ite_ | assumption | apply out_cmdAt | apply out_done | apply out_fault | apply touch_powerRequest | apply Touch.foldl_ | apply Touch.foldl_fst | apply Touch.foldl_snd | intro _ _ _ | intro _ _ | split | dsimp only
  all_goals first | exact hm.up rfl | exact hm.pg (k := 0) rfl rfl

theorem out_execRetireComplete (i) (s : State) :
    Out 0x3FFFEF9FFEFFFFF s (execRetireComplete i s) := by
  have hm := Sub.refl 0x3FFFEF9FFEFFFFF
  have hs := Touch.rfl' 0x3FFFEF9FFEFFFFF s
  unfold execRetireComplete
  with_reducible repeat' first | apply out_ite | apply Touch.ite_ | assumption | apply out_cmdAt | apply out_done | apply out_fault | apply touch_retireEnds | apply touch_powerSteps | apply Touch.foldl_ | apply Touch.foldl_fst | apply Touch.foldl_snd | intro _ _ _ | intro _ _ | split | dsimp only
  all_goals first | exact hm.up rfl

theorem out_execSoftwareReset (r key) (s : State) :
    Out 0x3FFFFFFFFFFFFFF s (execSoftwareReset r key s) := by
  have hm := Sub.refl 0x3FFFFFFFFFFFFFF
  have hs := Touch.rfl' 0x3FFFFFFFFFFFFFF s
  unfold execSoftwareReset
  with_reducible repeat' first | apply out_ite | apply Touch.ite_ | assumption | apply out_cmdAt | apply out_done | apply out_fault | apply touch_softReset1 | apply Touch.foldl_ | apply Touch.foldl_fst | apply Touch.foldl_snd | intro _ _ _ | intro _ _ | split | dsimp only
  all_goals first | exact hm.up rfl | exact hm.pg (k := 0) rfl rfl

theorem out_execSupplyReset (s : State) :
    Out 0x3FFFFFFFFFFFFFF s (execSupplyReset s) := by
  have hm := Sub.refl 0x3FFFFFFFFFFFFFF
  have hs := Touch.rfl' 0x3FFFFFFFFFFFFFF s
  unfold execSupplyReset
  with_reducible repeat' first | apply out_ite | apply Touch.ite_ | assumption | apply out_cmdAt | apply out_done | apply out_fault | apply touch_freeWord | apply touch_setHpm | apply touch_deviceReset | apply Touch.foldl_ | apply Touch.foldl_fst | apply Touch.foldl_snd | intro _ _ _ | intro _ _ | split | dsimp only
  all_goals first | exact hm.up rfl

theorem out_execThermalHold (ts) (s : State) :
    Out 0x80000004000000 s (execThermalHold ts s) := by
  have hm := Sub.refl 0x80000004000000
  have hs := Touch.rfl' 0x80000004000000 s
  unfold execThermalHold
  with_reducible repeat' first | apply out_ite | apply Touch.ite_ | assumption | apply out_cmdAt | apply out_done | apply out_fault | apply touch_setWardens | apply touch_setHpm | apply Touch.foldl_ | apply Touch.foldl_fst | apply Touch.foldl_snd | intro _ _ _ | intro _ _ | split | dsimp only
  all_goals first | exact hm.up rfl

theorem out_execBoot (t) (s : State) :
    Out 0x3FFFEF9FFE7FFFF s (execBoot t s) := by
  have hm := Sub.refl 0x3FFFEF9FFE7FFFF
  have hs := Touch.rfl' 0x3FFFEF9FFE7FFFF s
  unfold execBoot
  with_reducible repeat' first | apply out_ite | apply Touch.ite_ | assumption | apply out_cmdAt | apply out_done | apply out_fault | apply touch_loadIdentity | apply touch_bootCounts | apply touch_clocksRun | apply touch_bootSlots | apply Touch.foldl_ | apply Touch.foldl_fst | apply Touch.foldl_snd | intro _ _ _ | intro _ _ | split | dsimp only
  all_goals first | exact hm.up rfl

theorem out_execBypass (s : State) :
    Out 0x80000000000000 s (execBypass s) := by
  have hm := Sub.refl 0x80000000000000
  have hs := Touch.rfl' 0x80000000000000 s
  unfold execBypass
  with_reducible repeat' first | apply out_ite | apply Touch.ite_ | assumption | apply out_cmdAt | apply out_done | apply out_fault | apply touch_jtag

theorem out_execDbgChal (s : State) :
    Out 0x80000000100000 s (execDbgChal s) := by
  have hm := Sub.refl 0x80000000100000
  have hs := Touch.rfl' 0x80000000100000 s
  unfold execDbgChal
  with_reducible repeat' first | apply out_ite | apply Touch.ite_ | assumption | apply out_cmdAt | apply out_done | apply out_fault | apply touch_setFree | apply touch_jtag | apply touch_setHpm | apply Touch.foldl_ | apply Touch.foldl_fst | apply Touch.foldl_snd | intro _ _ _ | intro _ _ | split | dsimp only
  all_goals first | exact hm.up rfl

theorem out_execDbgResp (bs) (s : State) :
    Out 0x18000000C012003 s (execDbgResp bs s) := by
  have hm := Sub.refl 0x18000000C012003
  have hs := Touch.rfl' 0x18000000C012003 s
  unfold execDbgResp
  with_reducible repeat' first | apply out_ite | apply Touch.ite_ | assumption | apply out_cmdAt | apply out_done | apply out_fault | apply touch_jtag | apply touch_irq | apply touch_setHpm | apply touch_raise | apply Touch.each_ | apply touch_record | apply touch_errSet | apply touch_incrSat | apply Touch.foldl_ | apply Touch.foldl_fst | apply Touch.foldl_snd | intro _ _ _ | intro _ _ | split | dsimp only
  all_goals first | exact hm.up rfl | with_reducible refine hm.pg (page_aAPC_LS_STAT _) ?_ | with_reducible refine hm.pg (k := 0) (page_raw ?_) ?_ | with_reducible refine hm.pg (k := 16) (page_raw ?_) ?_ | with_reducible refine hm.pg (k := 0) (page_err ?_) ?_ | with_reducible refine hm.pg (k := 16) (page_err ?_) ?_ | exact hm.pg (k := 0) rfl rfl
  all_goals rfl

theorem out_execExtest (s : State) :
    Out 0x80000000000000 s (execExtest s) := by
  have hm := Sub.refl 0x80000000000000
  have hs := Touch.rfl' 0x80000000000000 s
  unfold execExtest
  with_reducible repeat' first | apply out_ite | apply Touch.ite_ | assumption | apply out_cmdAt | apply out_done | apply out_fault | apply touch_jtag

theorem out_execI2cDone (nak d) (s : State) :
    Out 0x80000000000001 s (execI2cDone nak d s) := by
  have hm := Sub.refl 0x80000000000001
  have hs := Touch.rfl' 0x80000000000001 s
  unfold execI2cDone
  with_reducible repeat' first | apply out_ite | apply Touch.ite_ | assumption | apply out_cmdAt | apply out_done | apply out_fault | apply touch_putB | apply touch_lower | apply touch_setHpm | apply touch_put | apply touch_errSet | apply touch_irq | apply Touch.foldl_ | apply Touch.foldl_fst | apply Touch.foldl_snd | intro _ _ _ | intro _ _ | split | dsimp only
  all_goals first | exact hm.up rfl | with_reducible refine hm.pg (k := 0) (page_raw ?_) ?_ | with_reducible refine hm.pg (k := 0) (page_err ?_) ?_ | exact hm.pg (k := 0) rfl rfl

theorem out_execI2cTransfer (r d) (s : State) :
    Out 0x8002000E000003 s (execI2cTransfer r d s) := by
  have hm := Sub.refl 0x8002000E000003
  have hs := Touch.rfl' 0x8002000E000003 s
  unfold execI2cTransfer
  with_reducible repeat' first | apply out_ite | apply Touch.ite_ | assumption | apply out_cmdAt | apply out_done | apply out_fault | apply touch_i2cCmd | apply Touch.foldl_ | apply Touch.foldl_fst | apply Touch.foldl_snd | intro _ _ _ | intro _ _ | split | dsimp only
  all_goals first | exact hm.up rfl | exact hm.pg (k := 0) rfl rfl

theorem out_execIdcode (s : State) :
    Out 0x80000000000000 s (execIdcode s) := by
  have hm := Sub.refl 0x80000000000000
  have hs := Touch.rfl' 0x80000000000000 s
  unfold execIdcode
  with_reducible repeat' first | apply out_ite | apply Touch.ite_ | assumption | apply out_cmdAt | apply out_done | apply out_fault | apply touch_jtag

theorem out_execProgramRow (r key) (s : State) :
    Out 0x8002000E000003 s (execProgramRow r key s) := by
  have hm := Sub.refl 0x8002000E000003
  have hs := Touch.rfl' 0x8002000E000003 s
  unfold execProgramRow
  with_reducible repeat' first | apply out_ite | apply Touch.ite_ | assumption | apply out_cmdAt | apply out_done | apply out_fault | apply touch_mpCmd | apply Touch.foldl_ | apply Touch.foldl_fst | apply Touch.foldl_snd | intro _ _ _ | intro _ _ | split | dsimp only
  all_goals first | exact hm.up rfl | exact hm.pg (k := 0) rfl rfl

theorem out_execRaiseMinVer (r key) (s : State) :
    Out 0x8002000E000003 s (execRaiseMinVer r key s) := by
  have hm := Sub.refl 0x8002000E000003
  have hs := Touch.rfl' 0x8002000E000003 s
  unfold execRaiseMinVer
  with_reducible repeat' first | apply out_ite | apply Touch.ite_ | assumption | apply out_cmdAt | apply out_done | apply out_fault | apply touch_mpCmd | apply Touch.foldl_ | apply Touch.foldl_fst | apply Touch.foldl_snd | intro _ _ _ | intro _ _ | split | dsimp only
  all_goals first | exact hm.up rfl | exact hm.pg (k := 0) rfl rfl

theorem out_execRowComplete (s : State) :
    Out 0x80000000040001 s (execRowComplete s) := by
  have hm := Sub.refl 0x80000000040001
  have hs := Touch.rfl' 0x80000000040001 s
  unfold execRowComplete
  with_reducible repeat' first | apply out_ite | apply Touch.ite_ | assumption | apply out_cmdAt | apply out_done | apply out_fault | apply touch_rowComplete

theorem out_execSamplePreload (s : State) :
    Out 0x80000000100000 s (execSamplePreload s) := by
  have hm := Sub.refl 0x80000000100000
  have hs := Touch.rfl' 0x80000000100000 s
  unfold execSamplePreload
  with_reducible repeat' first | apply out_ite | apply Touch.ite_ | assumption | apply out_cmdAt | apply out_done | apply out_fault | apply touch_freeWord | apply touch_jtag | apply Touch.foldl_ | apply Touch.foldl_fst | apply Touch.foldl_snd | intro _ _ _ | intro _ _ | split | dsimp only
  all_goals first | exact hm.up rfl

theorem out_execClockReset (s : State) :
    Out 0x3FFFFFFFFFFFFFF s (execClockReset s) := by
  have hm := Sub.refl 0x3FFFFFFFFFFFFFF
  have hs := Touch.rfl' 0x3FFFFFFFFFFFFFF s
  unfold execClockReset
  with_reducible repeat' first | apply out_ite | apply Touch.ite_ | assumption | apply out_cmdAt | apply out_done | apply out_fault | apply touch_deviceReset | apply touch_reach | apply Touch.foldl_ | apply Touch.foldl_fst | apply Touch.foldl_snd | intro _ _ _ | intro _ _ | split | dsimp only
  all_goals first | exact hm.up rfl

theorem out_execClockReturn (s : State) :
    Out 0x80000000000001 s (execClockReturn s) := by
  have hm := Sub.refl 0x80000000000001
  have hs := Touch.rfl' 0x80000000000001 s
  unfold execClockReturn
  with_reducible repeat' first | apply out_ite | apply Touch.ite_ | assumption | apply out_cmdAt | apply out_done | apply out_fault | apply touch_lower | apply touch_raise | apply touch_setHpm | apply Touch.foldl_ | apply Touch.foldl_fst | apply Touch.foldl_snd | intro _ _ _ | intro _ _ | split | dsimp only
  all_goals first | exact hm.up rfl | exact hm.pg (k := 0) rfl rfl

theorem out_execEpisodeEnd (s : State) :
    Out 0x3FFFFFFFFFFFFFF s (execEpisodeEnd s) := by
  have hm := Sub.refl 0x3FFFFFFFFFFFFFF
  have hs := Touch.rfl' 0x3FFFFFFFFFFFFFF s
  unfold execEpisodeEnd
  with_reducible repeat' first | apply out_ite | apply Touch.ite_ | assumption | apply out_cmdAt | apply out_done | apply out_fault | apply touch_episodeEnd

theorem out_execEpisodeStart (rail mv) (s : State) :
    Out 0x3FFFEF9FFEFFFFF s (execEpisodeStart rail mv s) := by
  have hm := Sub.refl 0x3FFFEF9FFEFFFFF
  have hs := Touch.rfl' 0x3FFFEF9FFEFFFFF s
  unfold execEpisodeStart
  with_reducible repeat' first | apply out_ite | apply Touch.ite_ | assumption | apply out_cmdAt | apply out_done | apply out_fault | apply touch_episodeStart

theorem out_execLtrWrite (r ltr) (s : State) :
    Out 0x3FFFFFFFFFFFFFF s (execLtrWrite r ltr s) := by
  have hm := Sub.refl 0x3FFFFFFFFFFFFFF
  have hs := Touch.rfl' 0x3FFFFFFFFFFFFFF s
  unfold execLtrWrite
  with_reducible repeat' first | apply out_ite | apply Touch.ite_ | assumption | apply out_cmdAt | apply out_done | apply out_fault | apply touch_ltrWrite | apply Touch.foldl_ | apply Touch.foldl_fst | apply Touch.foldl_snd | intro _ _ _ | intro _ _ | split | dsimp only
  all_goals first | exact hm.up rfl | exact hm.pg (k := 0) rfl rfl

theorem out_execOpsecPersist (s : State) :
    Out 0x80000000080000 s (execOpsecPersist s) := by
  have hm := Sub.refl 0x80000000080000
  have hs := Touch.rfl' 0x80000000080000 s
  unfold execOpsecPersist
  with_reducible repeat' first | apply out_ite | apply Touch.ite_ | assumption | apply out_cmdAt | apply out_done | apply out_fault | apply touch_reach | apply touch_flush | apply Touch.foldl_ | apply Touch.foldl_fst | apply Touch.foldl_snd | intro _ _ _ | intro _ _ | split | dsimp only
  all_goals first | exact hm.up rfl

theorem out_execPllUnlock (s : State) :
    Out 0x80000000000001 s (execPllUnlock s) := by
  have hm := Sub.refl 0x80000000000001
  have hs := Touch.rfl' 0x80000000000001 s
  unfold execPllUnlock
  with_reducible repeat' first | apply out_ite | apply Touch.ite_ | assumption | apply out_cmdAt | apply out_done | apply out_fault | apply touch_clockLost | apply touch_lower | apply Touch.foldl_ | apply Touch.foldl_fst | apply Touch.foldl_snd | intro _ _ _ | intro _ _ | split | dsimp only
  all_goals first | exact hm.up rfl | exact hm.pg (k := 0) rfl rfl

theorem out_execPowerStateSelect (s : State) :
    Out 0x3FFFFFFFFFFFFFF s (execPowerStateSelect s) := by
  have hm := Sub.refl 0x3FFFFFFFFFFFFFF
  have hs := Touch.rfl' 0x3FFFFFFFFFFFFFF s
  unfold execPowerStateSelect
  with_reducible repeat' first | apply out_ite | apply Touch.ite_ | assumption | apply out_cmdAt | apply out_done | apply out_fault | apply touch_powerSelect

theorem out_execThermalRead (ts) (s : State) :
    Out 0x3FFFFFFFFFFFFFF s (execThermalRead ts s) := by
  have hm := Sub.refl 0x3FFFFFFFFFFFFFF
  have hs := Touch.rfl' 0x3FFFFFFFFFFFFFF s
  unfold execThermalRead
  with_reducible repeat' first | apply out_ite | apply Touch.ite_ | assumption | apply out_cmdAt | apply out_done | apply out_fault | apply touch_thermalRead

theorem out_execUnstableClear (r) (s : State) :
    Out 0x2000E000003 s (execUnstableClear r s) := by
  have hm := Sub.refl 0x2000E000003
  have hs := Touch.rfl' 0x2000E000003 s
  unfold execUnstableClear
  with_reducible repeat' first | apply out_ite | apply Touch.ite_ | assumption | apply out_cmdAt | apply out_done | apply out_fault | apply touch_unstableClear | apply Touch.foldl_ | apply Touch.foldl_fst | apply Touch.foldl_snd | intro _ _ _ | intro _ _ | split | dsimp only
  all_goals first | exact hm.up rfl | exact hm.pg (k := 0) rfl rfl

theorem out_execWake (src) (s : State) :
    Out 0x3FFFFFFFFFFFFFF s (execWake src s) := by
  have hm := Sub.refl 0x3FFFFFFFFFFFFFF
  have hs := Touch.rfl' 0x3FFFFFFFFFFFFFF s
  unfold execWake
  with_reducible repeat' first | apply out_ite | apply Touch.ite_ | assumption | apply out_cmdAt | apply out_done | apply out_fault | apply touch_wake

theorem out_execWakeTimer (s : State) :
    Out 0x3FFFFFFFFFFFFFF s (execWakeTimer s) := by
  have hm := Sub.refl 0x3FFFFFFFFFFFFFF
  have hs := Touch.rfl' 0x3FFFFFFFFFFFFFF s
  unfold execWakeTimer
  with_reducible repeat' first | apply out_ite | apply Touch.ite_ | assumption | apply out_cmdAt | apply out_done | apply out_fault | apply touch_wake | apply touch_reach | apply Touch.foldl_ | apply Touch.foldl_fst | apply Touch.foldl_snd | intro _ _ _ | intro _ _ | split | dsimp only
  all_goals first | exact hm.up rfl

theorem out_execXinLoss (s : State) :
    Out 0x80000000000001 s (execXinLoss s) := by
  have hm := Sub.refl 0x80000000000001
  have hs := Touch.rfl' 0x80000000000001 s
  unfold execXinLoss
  with_reducible repeat' first | apply out_ite | apply Touch.ite_ | assumption | apply out_cmdAt | apply out_done | apply out_fault | apply touch_clockLost | apply touch_raise | apply touch_lower | apply Touch.foldl_ | apply Touch.foldl_fst | apply Touch.foldl_snd | intro _ _ _ | intro _ _ | split | dsimp only
  all_goals first | exact hm.up rfl | exact hm.pg (k := 0) rfl rfl

theorem out_execBlockBoundary (b) (s : State) :
    Out 0x17FBABD1DEFFFFF s (execBlockBoundary b s) := by
  have hm := Sub.refl 0x17FBABD1DEFFFFF
  have hs := Touch.rfl' 0x17FBABD1DEFFFFF s
  unfold execBlockBoundary
  with_reducible repeat' first | apply out_ite | apply Touch.ite_ | assumption | apply out_cmdAt | apply out_done | apply out_fault | apply touch_blockBoundary

theorem out_execCommit (r b gen) (s : State) :
    Out 0x13FBABD1FEFFFFF s (execCommit r b gen s) := by
  have hm := Sub.refl 0x13FBABD1FEFFFFF
  have hs := Touch.rfl' 0x13FBABD1FEFFFFF s
  unfold execCommit
  with_reducible repeat' first | apply out_ite | apply Touch.ite_ | assumption | apply out_cmdAt | apply out_done | apply out_fault | apply touch_commitGo | apply touch_frameFirst | apply Touch.foldl_ | apply Touch.foldl_fst | apply Touch.foldl_snd | intro _ _ _ | intro _ _ | split | dsimp only
  all_goals first | exact hm.up rfl | exact hm.homeAny rfl _

theorem out_execCommitAbort (r b) (s : State) :
    Out 0x13FBABD1FEFFFFF s (execCommitAbort r b s) := by
  have hm := Sub.refl 0x13FBABD1FEFFFFF
  have hs := Touch.rfl' 0x13FBABD1FEFFFFF s
  unfold execCommitAbort
  with_reducible repeat' first | apply out_ite | apply Touch.ite_ | assumption | apply out_cmdAt | apply out_done | apply out_fault | apply touch_commitAbort | apply touch_frameFirst | apply Touch.foldl_ | apply Touch.foldl_fst | apply Touch.foldl_snd | intro _ _ _ | intro _ _ | split | dsimp only
  all_goals first | exact hm.up rfl | exact hm.homeAny rfl _

theorem out_execTbgBoundary (g) (s : State) :
    Out 0x104B2F9DDFFFFFF s (execTbgBoundary g s) := by
  have hm := Sub.refl 0x104B2F9DDFFFFFF
  have hs := Touch.rfl' 0x104B2F9DDFFFFFF s
  unfold execTbgBoundary
  with_reducible repeat' first | apply out_ite | apply Touch.ite_ | assumption | apply out_cmdAt | apply out_done | apply out_fault | apply touch_groupBoundary

theorem out_execReadClear (r a ev) (s : State) :
    Out 0x100B2B91E97FFFF s (execReadClear r a ev s) := by
  have hm := Sub.refl 0x100B2B91E97FFFF
  have hs := Touch.rfl' 0x100B2B91E97FFFF s
  unfold execReadClear
  with_reducible repeat' first | apply out_ite | apply Touch.ite_ | assumption | apply out_cmdAt | apply out_done | apply out_fault | apply touch_readAt

theorem out_execCrcEn (r b on) (s : State) :
    Out 0x2000F03FFFF s (execCrcEn r b on s) := by
  have hm := Sub.refl 0x2000F03FFFF
  have hs := Touch.rfl' 0x2000F03FFFF s
  unfold execCrcEn
  with_reducible repeat' first | apply out_ite | apply Touch.ite_ | assumption | apply out_cmdAt | apply out_done | apply out_fault | apply touch_crcEn | apply Touch.foldl_ | apply Touch.foldl_fst | apply Touch.foldl_snd | intro _ _ _ | intro _ _ | split | dsimp only
  all_goals first | exact hm.up rfl | exact hm.homeAny rfl _

theorem out_execCrcPass (b) (s : State) :
    Out 0x2000103FFFF s (execCrcPass b s) := by
  have hm := Sub.refl 0x2000103FFFF
  have hs := Touch.rfl' 0x2000103FFFF s
  unfold execCrcPass
  with_reducible repeat' first | apply out_ite | apply Touch.ite_ | assumption | apply out_cmdAt | apply out_done | apply out_fault | apply touch_crcPass

theorem out_execRegisterWrite (r a d) (s : State) :
    Out 0x3FFFFFFFFFFFFFF s (execRegisterWrite r a d s) := by
  have hm := Sub.refl 0x3FFFFFFFFFFFFFF
  have hs := Touch.rfl' 0x3FFFFFFFFFFFFFF s
  unfold execRegisterWrite
  with_reducible repeat' first | apply out_ite | apply Touch.ite_ | assumption | apply out_cmdAt | apply out_done | apply out_fault | apply touch_writeAt

theorem out_execTmrClr (r b) (s : State) :
    Out 0x2000E03FFFF s (execTmrClr r b s) := by
  have hm := Sub.refl 0x2000E03FFFF
  have hs := Touch.rfl' 0x2000E03FFFF s
  unfold execTmrClr
  with_reducible repeat' first | apply out_ite | apply Touch.ite_ | assumption | apply out_cmdAt | apply out_done | apply out_fault | apply touch_tmrClr | apply Touch.foldl_ | apply Touch.foldl_fst | apply Touch.foldl_snd | intro _ _ _ | intro _ _ | split | dsimp only
  all_goals first | exact hm.up rfl | exact hm.homeAny rfl _

theorem out_execTmrScrub (s : State) :
    Out 0x100B2BD1C8FFFFF s (execTmrScrub s) := by
  have hm := Sub.refl 0x100B2BD1C8FFFFF
  have hs := Touch.rfl' 0x100B2BD1C8FFFFF s
  unfold execTmrScrub
  with_reducible repeat' first | apply out_ite | apply Touch.ite_ | assumption | apply out_cmdAt | apply out_done | apply out_fault | apply touch_tmrScrub

theorem out_execHrpCsAbort (sent) (s : State) :
    Out 0x2000000 s (execHrpCsAbort sent s) := by
  have hm := Sub.refl 0x2000000
  have hs := Touch.rfl' 0x2000000 s
  unfold execHrpCsAbort
  with_reducible repeat' first | apply out_ite | apply Touch.ite_ | assumption | apply out_cmdAt | apply out_done | apply out_fault | apply touch_setBus

theorem out_execHrpRead (a len crc) (s : State) :
    Out 0x100B2B91E97FFFF s (execHrpRead a len crc s) := by
  have hm := Sub.refl 0x100B2B91E97FFFF
  have hs := Touch.rfl' 0x100B2B91E97FFFF s
  unfold execHrpRead
  with_reducible repeat' first | apply out_ite | apply Touch.ite_ | assumption | apply out_cmdAt | apply out_done | apply out_fault | apply touch_hrpSend | apply touch_hrpFill | apply touch_hrpXfer | apply touch_hrpTake | apply Touch.foldl_ | apply Touch.foldl_fst | apply Touch.foldl_snd | intro _ _ _ | intro _ _ | split | dsimp only
  all_goals first | exact hm.up rfl

theorem out_execHrpUnknownCmd (cmd) (s : State) :
    Out 0x2020000 s (execHrpUnknownCmd cmd s) := by
  have hm := Sub.refl 0x2020000
  have hs := Touch.rfl' 0x2020000 s
  unfold execHrpUnknownCmd
  with_reducible repeat' first | apply out_ite | apply Touch.ite_ | assumption | apply out_cmdAt | apply out_done | apply out_fault | apply touch_hrpSend | apply touch_hrpEnd | apply touch_setBus | apply Touch.foldl_ | apply Touch.foldl_fst | apply Touch.foldl_snd | intro _ _ _ | intro _ _ | split | dsimp only
  all_goals first | exact hm.up rfl

theorem out_execHrpWrite (a ws crc) (s : State) :
    Out 0x3FFFFFFFFFFFFFF s (execHrpWrite a ws crc s) := by
  have hm := Sub.refl 0x3FFFFFFFFFFFFFF
  have hs := Touch.rfl' 0x3FFFFFFFFFFFFFF s
  unfold execHrpWrite
  with_reducible repeat' first | apply out_ite | apply Touch.ite_ | assumption | apply out_cmdAt | apply out_done | apply out_fault | apply touch_hrpSend | apply touch_hrpXfer | apply touch_writeAt | apply Touch.foldl_ | apply Touch.foldl_fst | apply Touch.foldl_snd | intro _ _ _ | intro _ _ | split | dsimp only
  all_goals first | exact hm.up rfl

end Sys2Proof.Laws
end

