-- ==== Sys2Proof/Laws/State.lean ====
section
/-! SUPPORT. What each update of one field of State leaves in each field. -/
namespace Sys2Proof.Laws
open Sys2Proof.Machine

@[simp] theorem setNow_now (s : State) (v : Nat) : (s.setNow v).now = v := rfl
@[simp] theorem setNow_free (s : State) (v : Nat) : (s.setNow v).free = s.free := rfl
@[simp] theorem setNow_regs (s : State) (v : Nat) : (s.setNow v).regs = s.regs := rfl
@[simp] theorem setNow_bnd (s : State) (v : Nat) : (s.setNow v).bnd = s.bnd := rfl
@[simp] theorem setNow_cmt (s : State) (v : Nat) : (s.setNow v).cmt = s.cmt := rfl
@[simp] theorem setNow_tmr (s : State) (v : Nat) : (s.setNow v).tmr = s.tmr := rfl
@[simp] theorem setNow_crcRun (s : State) (v : Nat) : (s.setNow v).crcRun = s.crcRun := rfl
@[simp] theorem setNow_mem (s : State) (v : Nat) : (s.setNow v).mem = s.mem := rfl
@[simp] theorem setNow_bus (s : State) (v : Nat) : (s.setNow v).bus = s.bus := rfl
@[simp] theorem setNow_wardens (s : State) (v : Nat) : (s.setNow v).wardens = s.wardens := rfl
@[simp] theorem setNow_links (s : State) (v : Nat) : (s.setNow v).links = s.links := rfl
@[simp] theorem setNow_ctxs (s : State) (v : Nat) : (s.setNow v).ctxs = s.ctxs := rfl
@[simp] theorem setNow_stages (s : State) (v : Nat) : (s.setNow v).stages = s.stages := rfl
@[simp] theorem setNow_lanes (s : State) (v : Nat) : (s.setNow v).lanes = s.lanes := rfl
@[simp] theorem setNow_basil (s : State) (v : Nat) : (s.setNow v).basil = s.basil := rfl
@[simp] theorem setNow_giu (s : State) (v : Nat) : (s.setNow v).giu = s.giu := rfl
@[simp] theorem setNow_slewAcc (s : State) (v : Nat) : (s.setNow v).slewAcc = s.slewAcc := rfl
@[simp] theorem setNow_frames (s : State) (v : Nat) : (s.setNow v).frames = s.frames := rfl
@[simp] theorem setNow_tbgs (s : State) (v : Nat) : (s.setNow v).tbgs = s.tbgs := rfl
@[simp] theorem setNow_legs (s : State) (v : Nat) : (s.setNow v).legs = s.legs := rfl
@[simp] theorem setNow_mgs (s : State) (v : Nat) : (s.setNow v).mgs = s.mgs := rfl
@[simp] theorem setNow_trgs (s : State) (v : Nat) : (s.setNow v).trgs = s.trgs := rfl
@[simp] theorem setNow_ports (s : State) (v : Nat) : (s.setNow v).ports = s.ports := rfl
@[simp] theorem setNow_sats (s : State) (v : Nat) : (s.setNow v).sats = s.sats := rfl
@[simp] theorem setNow_sage (s : State) (v : Nat) : (s.setNow v).sage = s.sage := rfl
@[simp] theorem setNow_wdgs (s : State) (v : Nat) : (s.setNow v).wdgs = s.wdgs := rfl
@[simp] theorem setNow_tms (s : State) (v : Nat) : (s.setNow v).tms = s.tms := rfl
@[simp] theorem setNow_diss (s : State) (v : Nat) : (s.setNow v).diss = s.diss := rfl
@[simp] theorem setNow_livs (s : State) (v : Nat) : (s.setNow v).livs = s.livs := rfl
@[simp] theorem setNow_apcs (s : State) (v : Nat) : (s.setNow v).apcs = s.apcs := rfl
@[simp] theorem setNow_pair (s : State) (v : Nat) : (s.setNow v).pair = s.pair := rfl
@[simp] theorem setNow_msio (s : State) (v : Nat) : (s.setNow v).msio = s.msio := rfl
@[simp] theorem setNow_adcs (s : State) (v : Nat) : (s.setNow v).adcs = s.adcs := rfl
@[simp] theorem setNow_fbs (s : State) (v : Nat) : (s.setNow v).fbs = s.fbs := rfl
@[simp] theorem setNow_ress (s : State) (v : Nat) : (s.setNow v).ress = s.ress := rfl
@[simp] theorem setNow_emus (s : State) (v : Nat) : (s.setNow v).emus = s.emus := rfl
@[simp] theorem setNow_amu (s : State) (v : Nat) : (s.setNow v).amu = s.amu := rfl
@[simp] theorem setNow_cans (s : State) (v : Nat) : (s.setNow v).cans = s.cans := rfl
@[simp] theorem setNow_hpm (s : State) (v : Nat) : (s.setNow v).hpm = s.hpm := rfl
@[simp] theorem setNow_rosem (s : State) (v : Nat) : (s.setNow v).rosem = s.rosem := rfl
@[simp] theorem setNow_bist (s : State) (v : Nat) : (s.setNow v).bist = s.bist := rfl
@[simp] theorem setNow_pending (s : State) (v : Nat) : (s.setNow v).pending = s.pending := rfl

@[simp] theorem setFree_now (s : State) (v : Nat) : (s.setFree v).now = s.now := rfl
@[simp] theorem setFree_free (s : State) (v : Nat) : (s.setFree v).free = v := rfl
@[simp] theorem setFree_regs (s : State) (v : Nat) : (s.setFree v).regs = s.regs := rfl
@[simp] theorem setFree_bnd (s : State) (v : Nat) : (s.setFree v).bnd = s.bnd := rfl
@[simp] theorem setFree_cmt (s : State) (v : Nat) : (s.setFree v).cmt = s.cmt := rfl
@[simp] theorem setFree_tmr (s : State) (v : Nat) : (s.setFree v).tmr = s.tmr := rfl
@[simp] theorem setFree_crcRun (s : State) (v : Nat) : (s.setFree v).crcRun = s.crcRun := rfl
@[simp] theorem setFree_mem (s : State) (v : Nat) : (s.setFree v).mem = s.mem := rfl
@[simp] theorem setFree_bus (s : State) (v : Nat) : (s.setFree v).bus = s.bus := rfl
@[simp] theorem setFree_wardens (s : State) (v : Nat) : (s.setFree v).wardens = s.wardens := rfl
@[simp] theorem setFree_links (s : State) (v : Nat) : (s.setFree v).links = s.links := rfl
@[simp] theorem setFree_ctxs (s : State) (v : Nat) : (s.setFree v).ctxs = s.ctxs := rfl
@[simp] theorem setFree_stages (s : State) (v : Nat) : (s.setFree v).stages = s.stages := rfl
@[simp] theorem setFree_lanes (s : State) (v : Nat) : (s.setFree v).lanes = s.lanes := rfl
@[simp] theorem setFree_basil (s : State) (v : Nat) : (s.setFree v).basil = s.basil := rfl
@[simp] theorem setFree_giu (s : State) (v : Nat) : (s.setFree v).giu = s.giu := rfl
@[simp] theorem setFree_slewAcc (s : State) (v : Nat) : (s.setFree v).slewAcc = s.slewAcc := rfl
@[simp] theorem setFree_frames (s : State) (v : Nat) : (s.setFree v).frames = s.frames := rfl
@[simp] theorem setFree_tbgs (s : State) (v : Nat) : (s.setFree v).tbgs = s.tbgs := rfl
@[simp] theorem setFree_legs (s : State) (v : Nat) : (s.setFree v).legs = s.legs := rfl
@[simp] theorem setFree_mgs (s : State) (v : Nat) : (s.setFree v).mgs = s.mgs := rfl
@[simp] theorem setFree_trgs (s : State) (v : Nat) : (s.setFree v).trgs = s.trgs := rfl
@[simp] theorem setFree_ports (s : State) (v : Nat) : (s.setFree v).ports = s.ports := rfl
@[simp] theorem setFree_sats (s : State) (v : Nat) : (s.setFree v).sats = s.sats := rfl
@[simp] theorem setFree_sage (s : State) (v : Nat) : (s.setFree v).sage = s.sage := rfl
@[simp] theorem setFree_wdgs (s : State) (v : Nat) : (s.setFree v).wdgs = s.wdgs := rfl
@[simp] theorem setFree_tms (s : State) (v : Nat) : (s.setFree v).tms = s.tms := rfl
@[simp] theorem setFree_diss (s : State) (v : Nat) : (s.setFree v).diss = s.diss := rfl
@[simp] theorem setFree_livs (s : State) (v : Nat) : (s.setFree v).livs = s.livs := rfl
@[simp] theorem setFree_apcs (s : State) (v : Nat) : (s.setFree v).apcs = s.apcs := rfl
@[simp] theorem setFree_pair (s : State) (v : Nat) : (s.setFree v).pair = s.pair := rfl
@[simp] theorem setFree_msio (s : State) (v : Nat) : (s.setFree v).msio = s.msio := rfl
@[simp] theorem setFree_adcs (s : State) (v : Nat) : (s.setFree v).adcs = s.adcs := rfl
@[simp] theorem setFree_fbs (s : State) (v : Nat) : (s.setFree v).fbs = s.fbs := rfl
@[simp] theorem setFree_ress (s : State) (v : Nat) : (s.setFree v).ress = s.ress := rfl
@[simp] theorem setFree_emus (s : State) (v : Nat) : (s.setFree v).emus = s.emus := rfl
@[simp] theorem setFree_amu (s : State) (v : Nat) : (s.setFree v).amu = s.amu := rfl
@[simp] theorem setFree_cans (s : State) (v : Nat) : (s.setFree v).cans = s.cans := rfl
@[simp] theorem setFree_hpm (s : State) (v : Nat) : (s.setFree v).hpm = s.hpm := rfl
@[simp] theorem setFree_rosem (s : State) (v : Nat) : (s.setFree v).rosem = s.rosem := rfl
@[simp] theorem setFree_bist (s : State) (v : Nat) : (s.setFree v).bist = s.bist := rfl
@[simp] theorem setFree_pending (s : State) (v : Nat) : (s.setFree v).pending = s.pending := rfl

@[simp] theorem setRegs_now (s : State) (v : Tab Word) : (s.setRegs v).now = s.now := rfl
@[simp] theorem setRegs_free (s : State) (v : Tab Word) : (s.setRegs v).free = s.free := rfl
@[simp] theorem setRegs_regs (s : State) (v : Tab Word) : (s.setRegs v).regs = v := rfl
@[simp] theorem setRegs_bnd (s : State) (v : Tab Word) : (s.setRegs v).bnd = s.bnd := rfl
@[simp] theorem setRegs_cmt (s : State) (v : Tab Word) : (s.setRegs v).cmt = s.cmt := rfl
@[simp] theorem setRegs_tmr (s : State) (v : Tab Word) : (s.setRegs v).tmr = s.tmr := rfl
@[simp] theorem setRegs_crcRun (s : State) (v : Tab Word) : (s.setRegs v).crcRun = s.crcRun := rfl
@[simp] theorem setRegs_mem (s : State) (v : Tab Word) : (s.setRegs v).mem = s.mem := rfl
@[simp] theorem setRegs_bus (s : State) (v : Tab Word) : (s.setRegs v).bus = s.bus := rfl
@[simp] theorem setRegs_wardens (s : State) (v : Tab Word) : (s.setRegs v).wardens = s.wardens := rfl
@[simp] theorem setRegs_links (s : State) (v : Tab Word) : (s.setRegs v).links = s.links := rfl
@[simp] theorem setRegs_ctxs (s : State) (v : Tab Word) : (s.setRegs v).ctxs = s.ctxs := rfl
@[simp] theorem setRegs_stages (s : State) (v : Tab Word) : (s.setRegs v).stages = s.stages := rfl
@[simp] theorem setRegs_lanes (s : State) (v : Tab Word) : (s.setRegs v).lanes = s.lanes := rfl
@[simp] theorem setRegs_basil (s : State) (v : Tab Word) : (s.setRegs v).basil = s.basil := rfl
@[simp] theorem setRegs_giu (s : State) (v : Tab Word) : (s.setRegs v).giu = s.giu := rfl
@[simp] theorem setRegs_slewAcc (s : State) (v : Tab Word) : (s.setRegs v).slewAcc = s.slewAcc := rfl
@[simp] theorem setRegs_frames (s : State) (v : Tab Word) : (s.setRegs v).frames = s.frames := rfl
@[simp] theorem setRegs_tbgs (s : State) (v : Tab Word) : (s.setRegs v).tbgs = s.tbgs := rfl
@[simp] theorem setRegs_legs (s : State) (v : Tab Word) : (s.setRegs v).legs = s.legs := rfl
@[simp] theorem setRegs_mgs (s : State) (v : Tab Word) : (s.setRegs v).mgs = s.mgs := rfl
@[simp] theorem setRegs_trgs (s : State) (v : Tab Word) : (s.setRegs v).trgs = s.trgs := rfl
@[simp] theorem setRegs_ports (s : State) (v : Tab Word) : (s.setRegs v).ports = s.ports := rfl
@[simp] theorem setRegs_sats (s : State) (v : Tab Word) : (s.setRegs v).sats = s.sats := rfl
@[simp] theorem setRegs_sage (s : State) (v : Tab Word) : (s.setRegs v).sage = s.sage := rfl
@[simp] theorem setRegs_wdgs (s : State) (v : Tab Word) : (s.setRegs v).wdgs = s.wdgs := rfl
@[simp] theorem setRegs_tms (s : State) (v : Tab Word) : (s.setRegs v).tms = s.tms := rfl
@[simp] theorem setRegs_diss (s : State) (v : Tab Word) : (s.setRegs v).diss = s.diss := rfl
@[simp] theorem setRegs_livs (s : State) (v : Tab Word) : (s.setRegs v).livs = s.livs := rfl
@[simp] theorem setRegs_apcs (s : State) (v : Tab Word) : (s.setRegs v).apcs = s.apcs := rfl
@[simp] theorem setRegs_pair (s : State) (v : Tab Word) : (s.setRegs v).pair = s.pair := rfl
@[simp] theorem setRegs_msio (s : State) (v : Tab Word) : (s.setRegs v).msio = s.msio := rfl
@[simp] theorem setRegs_adcs (s : State) (v : Tab Word) : (s.setRegs v).adcs = s.adcs := rfl
@[simp] theorem setRegs_fbs (s : State) (v : Tab Word) : (s.setRegs v).fbs = s.fbs := rfl
@[simp] theorem setRegs_ress (s : State) (v : Tab Word) : (s.setRegs v).ress = s.ress := rfl
@[simp] theorem setRegs_emus (s : State) (v : Tab Word) : (s.setRegs v).emus = s.emus := rfl
@[simp] theorem setRegs_amu (s : State) (v : Tab Word) : (s.setRegs v).amu = s.amu := rfl
@[simp] theorem setRegs_cans (s : State) (v : Tab Word) : (s.setRegs v).cans = s.cans := rfl
@[simp] theorem setRegs_hpm (s : State) (v : Tab Word) : (s.setRegs v).hpm = s.hpm := rfl
@[simp] theorem setRegs_rosem (s : State) (v : Tab Word) : (s.setRegs v).rosem = s.rosem := rfl
@[simp] theorem setRegs_bist (s : State) (v : Tab Word) : (s.setRegs v).bist = s.bist := rfl
@[simp] theorem setRegs_pending (s : State) (v : Tab Word) : (s.setRegs v).pending = s.pending := rfl

@[simp] theorem setBnd_now (s : State) (v : Tab Pend) : (s.setBnd v).now = s.now := rfl
@[simp] theorem setBnd_free (s : State) (v : Tab Pend) : (s.setBnd v).free = s.free := rfl
@[simp] theorem setBnd_regs (s : State) (v : Tab Pend) : (s.setBnd v).regs = s.regs := rfl
@[simp] theorem setBnd_bnd (s : State) (v : Tab Pend) : (s.setBnd v).bnd = v := rfl
@[simp] theorem setBnd_cmt (s : State) (v : Tab Pend) : (s.setBnd v).cmt = s.cmt := rfl
@[simp] theorem setBnd_tmr (s : State) (v : Tab Pend) : (s.setBnd v).tmr = s.tmr := rfl
@[simp] theorem setBnd_crcRun (s : State) (v : Tab Pend) : (s.setBnd v).crcRun = s.crcRun := rfl
@[simp] theorem setBnd_mem (s : State) (v : Tab Pend) : (s.setBnd v).mem = s.mem := rfl
@[simp] theorem setBnd_bus (s : State) (v : Tab Pend) : (s.setBnd v).bus = s.bus := rfl
@[simp] theorem setBnd_wardens (s : State) (v : Tab Pend) : (s.setBnd v).wardens = s.wardens := rfl
@[simp] theorem setBnd_links (s : State) (v : Tab Pend) : (s.setBnd v).links = s.links := rfl
@[simp] theorem setBnd_ctxs (s : State) (v : Tab Pend) : (s.setBnd v).ctxs = s.ctxs := rfl
@[simp] theorem setBnd_stages (s : State) (v : Tab Pend) : (s.setBnd v).stages = s.stages := rfl
@[simp] theorem setBnd_lanes (s : State) (v : Tab Pend) : (s.setBnd v).lanes = s.lanes := rfl
@[simp] theorem setBnd_basil (s : State) (v : Tab Pend) : (s.setBnd v).basil = s.basil := rfl
@[simp] theorem setBnd_giu (s : State) (v : Tab Pend) : (s.setBnd v).giu = s.giu := rfl
@[simp] theorem setBnd_slewAcc (s : State) (v : Tab Pend) : (s.setBnd v).slewAcc = s.slewAcc := rfl
@[simp] theorem setBnd_frames (s : State) (v : Tab Pend) : (s.setBnd v).frames = s.frames := rfl
@[simp] theorem setBnd_tbgs (s : State) (v : Tab Pend) : (s.setBnd v).tbgs = s.tbgs := rfl
@[simp] theorem setBnd_legs (s : State) (v : Tab Pend) : (s.setBnd v).legs = s.legs := rfl
@[simp] theorem setBnd_mgs (s : State) (v : Tab Pend) : (s.setBnd v).mgs = s.mgs := rfl
@[simp] theorem setBnd_trgs (s : State) (v : Tab Pend) : (s.setBnd v).trgs = s.trgs := rfl
@[simp] theorem setBnd_ports (s : State) (v : Tab Pend) : (s.setBnd v).ports = s.ports := rfl
@[simp] theorem setBnd_sats (s : State) (v : Tab Pend) : (s.setBnd v).sats = s.sats := rfl
@[simp] theorem setBnd_sage (s : State) (v : Tab Pend) : (s.setBnd v).sage = s.sage := rfl
@[simp] theorem setBnd_wdgs (s : State) (v : Tab Pend) : (s.setBnd v).wdgs = s.wdgs := rfl
@[simp] theorem setBnd_tms (s : State) (v : Tab Pend) : (s.setBnd v).tms = s.tms := rfl
@[simp] theorem setBnd_diss (s : State) (v : Tab Pend) : (s.setBnd v).diss = s.diss := rfl
@[simp] theorem setBnd_livs (s : State) (v : Tab Pend) : (s.setBnd v).livs = s.livs := rfl
@[simp] theorem setBnd_apcs (s : State) (v : Tab Pend) : (s.setBnd v).apcs = s.apcs := rfl
@[simp] theorem setBnd_pair (s : State) (v : Tab Pend) : (s.setBnd v).pair = s.pair := rfl
@[simp] theorem setBnd_msio (s : State) (v : Tab Pend) : (s.setBnd v).msio = s.msio := rfl
@[simp] theorem setBnd_adcs (s : State) (v : Tab Pend) : (s.setBnd v).adcs = s.adcs := rfl
@[simp] theorem setBnd_fbs (s : State) (v : Tab Pend) : (s.setBnd v).fbs = s.fbs := rfl
@[simp] theorem setBnd_ress (s : State) (v : Tab Pend) : (s.setBnd v).ress = s.ress := rfl
@[simp] theorem setBnd_emus (s : State) (v : Tab Pend) : (s.setBnd v).emus = s.emus := rfl
@[simp] theorem setBnd_amu (s : State) (v : Tab Pend) : (s.setBnd v).amu = s.amu := rfl
@[simp] theorem setBnd_cans (s : State) (v : Tab Pend) : (s.setBnd v).cans = s.cans := rfl
@[simp] theorem setBnd_hpm (s : State) (v : Tab Pend) : (s.setBnd v).hpm = s.hpm := rfl
@[simp] theorem setBnd_rosem (s : State) (v : Tab Pend) : (s.setBnd v).rosem = s.rosem := rfl
@[simp] theorem setBnd_bist (s : State) (v : Tab Pend) : (s.setBnd v).bist = s.bist := rfl
@[simp] theorem setBnd_pending (s : State) (v : Tab Pend) : (s.setBnd v).pending = s.pending := rfl

@[simp] theorem setCmt_now (s : State) (v : Tab Pend) : (s.setCmt v).now = s.now := rfl
@[simp] theorem setCmt_free (s : State) (v : Tab Pend) : (s.setCmt v).free = s.free := rfl
@[simp] theorem setCmt_regs (s : State) (v : Tab Pend) : (s.setCmt v).regs = s.regs := rfl
@[simp] theorem setCmt_bnd (s : State) (v : Tab Pend) : (s.setCmt v).bnd = s.bnd := rfl
@[simp] theorem setCmt_cmt (s : State) (v : Tab Pend) : (s.setCmt v).cmt = v := rfl
@[simp] theorem setCmt_tmr (s : State) (v : Tab Pend) : (s.setCmt v).tmr = s.tmr := rfl
@[simp] theorem setCmt_crcRun (s : State) (v : Tab Pend) : (s.setCmt v).crcRun = s.crcRun := rfl
@[simp] theorem setCmt_mem (s : State) (v : Tab Pend) : (s.setCmt v).mem = s.mem := rfl
@[simp] theorem setCmt_bus (s : State) (v : Tab Pend) : (s.setCmt v).bus = s.bus := rfl
@[simp] theorem setCmt_wardens (s : State) (v : Tab Pend) : (s.setCmt v).wardens = s.wardens := rfl
@[simp] theorem setCmt_links (s : State) (v : Tab Pend) : (s.setCmt v).links = s.links := rfl
@[simp] theorem setCmt_ctxs (s : State) (v : Tab Pend) : (s.setCmt v).ctxs = s.ctxs := rfl
@[simp] theorem setCmt_stages (s : State) (v : Tab Pend) : (s.setCmt v).stages = s.stages := rfl
@[simp] theorem setCmt_lanes (s : State) (v : Tab Pend) : (s.setCmt v).lanes = s.lanes := rfl
@[simp] theorem setCmt_basil (s : State) (v : Tab Pend) : (s.setCmt v).basil = s.basil := rfl
@[simp] theorem setCmt_giu (s : State) (v : Tab Pend) : (s.setCmt v).giu = s.giu := rfl
@[simp] theorem setCmt_slewAcc (s : State) (v : Tab Pend) : (s.setCmt v).slewAcc = s.slewAcc := rfl
@[simp] theorem setCmt_frames (s : State) (v : Tab Pend) : (s.setCmt v).frames = s.frames := rfl
@[simp] theorem setCmt_tbgs (s : State) (v : Tab Pend) : (s.setCmt v).tbgs = s.tbgs := rfl
@[simp] theorem setCmt_legs (s : State) (v : Tab Pend) : (s.setCmt v).legs = s.legs := rfl
@[simp] theorem setCmt_mgs (s : State) (v : Tab Pend) : (s.setCmt v).mgs = s.mgs := rfl
@[simp] theorem setCmt_trgs (s : State) (v : Tab Pend) : (s.setCmt v).trgs = s.trgs := rfl
@[simp] theorem setCmt_ports (s : State) (v : Tab Pend) : (s.setCmt v).ports = s.ports := rfl
@[simp] theorem setCmt_sats (s : State) (v : Tab Pend) : (s.setCmt v).sats = s.sats := rfl
@[simp] theorem setCmt_sage (s : State) (v : Tab Pend) : (s.setCmt v).sage = s.sage := rfl
@[simp] theorem setCmt_wdgs (s : State) (v : Tab Pend) : (s.setCmt v).wdgs = s.wdgs := rfl
@[simp] theorem setCmt_tms (s : State) (v : Tab Pend) : (s.setCmt v).tms = s.tms := rfl
@[simp] theorem setCmt_diss (s : State) (v : Tab Pend) : (s.setCmt v).diss = s.diss := rfl
@[simp] theorem setCmt_livs (s : State) (v : Tab Pend) : (s.setCmt v).livs = s.livs := rfl
@[simp] theorem setCmt_apcs (s : State) (v : Tab Pend) : (s.setCmt v).apcs = s.apcs := rfl
@[simp] theorem setCmt_pair (s : State) (v : Tab Pend) : (s.setCmt v).pair = s.pair := rfl
@[simp] theorem setCmt_msio (s : State) (v : Tab Pend) : (s.setCmt v).msio = s.msio := rfl
@[simp] theorem setCmt_adcs (s : State) (v : Tab Pend) : (s.setCmt v).adcs = s.adcs := rfl
@[simp] theorem setCmt_fbs (s : State) (v : Tab Pend) : (s.setCmt v).fbs = s.fbs := rfl
@[simp] theorem setCmt_ress (s : State) (v : Tab Pend) : (s.setCmt v).ress = s.ress := rfl
@[simp] theorem setCmt_emus (s : State) (v : Tab Pend) : (s.setCmt v).emus = s.emus := rfl
@[simp] theorem setCmt_amu (s : State) (v : Tab Pend) : (s.setCmt v).amu = s.amu := rfl
@[simp] theorem setCmt_cans (s : State) (v : Tab Pend) : (s.setCmt v).cans = s.cans := rfl
@[simp] theorem setCmt_hpm (s : State) (v : Tab Pend) : (s.setCmt v).hpm = s.hpm := rfl
@[simp] theorem setCmt_rosem (s : State) (v : Tab Pend) : (s.setCmt v).rosem = s.rosem := rfl
@[simp] theorem setCmt_bist (s : State) (v : Tab Pend) : (s.setCmt v).bist = s.bist := rfl
@[simp] theorem setCmt_pending (s : State) (v : Tab Pend) : (s.setCmt v).pending = s.pending := rfl

@[simp] theorem setTmr_now (s : State) (v : Tab (Word × Word)) : (s.setTmr v).now = s.now := rfl
@[simp] theorem setTmr_free (s : State) (v : Tab (Word × Word)) : (s.setTmr v).free = s.free := rfl
@[simp] theorem setTmr_regs (s : State) (v : Tab (Word × Word)) : (s.setTmr v).regs = s.regs := rfl
@[simp] theorem setTmr_bnd (s : State) (v : Tab (Word × Word)) : (s.setTmr v).bnd = s.bnd := rfl
@[simp] theorem setTmr_cmt (s : State) (v : Tab (Word × Word)) : (s.setTmr v).cmt = s.cmt := rfl
@[simp] theorem setTmr_tmr (s : State) (v : Tab (Word × Word)) : (s.setTmr v).tmr = v := rfl
@[simp] theorem setTmr_crcRun (s : State) (v : Tab (Word × Word)) : (s.setTmr v).crcRun = s.crcRun := rfl
@[simp] theorem setTmr_mem (s : State) (v : Tab (Word × Word)) : (s.setTmr v).mem = s.mem := rfl
@[simp] theorem setTmr_bus (s : State) (v : Tab (Word × Word)) : (s.setTmr v).bus = s.bus := rfl
@[simp] theorem setTmr_wardens (s : State) (v : Tab (Word × Word)) : (s.setTmr v).wardens = s.wardens := rfl
@[simp] theorem setTmr_links (s : State) (v : Tab (Word × Word)) : (s.setTmr v).links = s.links := rfl
@[simp] theorem setTmr_ctxs (s : State) (v : Tab (Word × Word)) : (s.setTmr v).ctxs = s.ctxs := rfl
@[simp] theorem setTmr_stages (s : State) (v : Tab (Word × Word)) : (s.setTmr v).stages = s.stages := rfl
@[simp] theorem setTmr_lanes (s : State) (v : Tab (Word × Word)) : (s.setTmr v).lanes = s.lanes := rfl
@[simp] theorem setTmr_basil (s : State) (v : Tab (Word × Word)) : (s.setTmr v).basil = s.basil := rfl
@[simp] theorem setTmr_giu (s : State) (v : Tab (Word × Word)) : (s.setTmr v).giu = s.giu := rfl
@[simp] theorem setTmr_slewAcc (s : State) (v : Tab (Word × Word)) : (s.setTmr v).slewAcc = s.slewAcc := rfl
@[simp] theorem setTmr_frames (s : State) (v : Tab (Word × Word)) : (s.setTmr v).frames = s.frames := rfl
@[simp] theorem setTmr_tbgs (s : State) (v : Tab (Word × Word)) : (s.setTmr v).tbgs = s.tbgs := rfl
@[simp] theorem setTmr_legs (s : State) (v : Tab (Word × Word)) : (s.setTmr v).legs = s.legs := rfl
@[simp] theorem setTmr_mgs (s : State) (v : Tab (Word × Word)) : (s.setTmr v).mgs = s.mgs := rfl
@[simp] theorem setTmr_trgs (s : State) (v : Tab (Word × Word)) : (s.setTmr v).trgs = s.trgs := rfl
@[simp] theorem setTmr_ports (s : State) (v : Tab (Word × Word)) : (s.setTmr v).ports = s.ports := rfl
@[simp] theorem setTmr_sats (s : State) (v : Tab (Word × Word)) : (s.setTmr v).sats = s.sats := rfl
@[simp] theorem setTmr_sage (s : State) (v : Tab (Word × Word)) : (s.setTmr v).sage = s.sage := rfl
@[simp] theorem setTmr_wdgs (s : State) (v : Tab (Word × Word)) : (s.setTmr v).wdgs = s.wdgs := rfl
@[simp] theorem setTmr_tms (s : State) (v : Tab (Word × Word)) : (s.setTmr v).tms = s.tms := rfl
@[simp] theorem setTmr_diss (s : State) (v : Tab (Word × Word)) : (s.setTmr v).diss = s.diss := rfl
@[simp] theorem setTmr_livs (s : State) (v : Tab (Word × Word)) : (s.setTmr v).livs = s.livs := rfl
@[simp] theorem setTmr_apcs (s : State) (v : Tab (Word × Word)) : (s.setTmr v).apcs = s.apcs := rfl
@[simp] theorem setTmr_pair (s : State) (v : Tab (Word × Word)) : (s.setTmr v).pair = s.pair := rfl
@[simp] theorem setTmr_msio (s : State) (v : Tab (Word × Word)) : (s.setTmr v).msio = s.msio := rfl
@[simp] theorem setTmr_adcs (s : State) (v : Tab (Word × Word)) : (s.setTmr v).adcs = s.adcs := rfl
@[simp] theorem setTmr_fbs (s : State) (v : Tab (Word × Word)) : (s.setTmr v).fbs = s.fbs := rfl
@[simp] theorem setTmr_ress (s : State) (v : Tab (Word × Word)) : (s.setTmr v).ress = s.ress := rfl
@[simp] theorem setTmr_emus (s : State) (v : Tab (Word × Word)) : (s.setTmr v).emus = s.emus := rfl
@[simp] theorem setTmr_amu (s : State) (v : Tab (Word × Word)) : (s.setTmr v).amu = s.amu := rfl
@[simp] theorem setTmr_cans (s : State) (v : Tab (Word × Word)) : (s.setTmr v).cans = s.cans := rfl
@[simp] theorem setTmr_hpm (s : State) (v : Tab (Word × Word)) : (s.setTmr v).hpm = s.hpm := rfl
@[simp] theorem setTmr_rosem (s : State) (v : Tab (Word × Word)) : (s.setTmr v).rosem = s.rosem := rfl
@[simp] theorem setTmr_bist (s : State) (v : Tab (Word × Word)) : (s.setTmr v).bist = s.bist := rfl
@[simp] theorem setTmr_pending (s : State) (v : Tab (Word × Word)) : (s.setTmr v).pending = s.pending := rfl

@[simp] theorem setCrcRun_now (s : State) (v : Tab Nat) : (s.setCrcRun v).now = s.now := rfl
@[simp] theorem setCrcRun_free (s : State) (v : Tab Nat) : (s.setCrcRun v).free = s.free := rfl
@[simp] theorem setCrcRun_regs (s : State) (v : Tab Nat) : (s.setCrcRun v).regs = s.regs := rfl
@[simp] theorem setCrcRun_bnd (s : State) (v : Tab Nat) : (s.setCrcRun v).bnd = s.bnd := rfl
@[simp] theorem setCrcRun_cmt (s : State) (v : Tab Nat) : (s.setCrcRun v).cmt = s.cmt := rfl
@[simp] theorem setCrcRun_tmr (s : State) (v : Tab Nat) : (s.setCrcRun v).tmr = s.tmr := rfl
@[simp] theorem setCrcRun_crcRun (s : State) (v : Tab Nat) : (s.setCrcRun v).crcRun = v := rfl
@[simp] theorem setCrcRun_mem (s : State) (v : Tab Nat) : (s.setCrcRun v).mem = s.mem := rfl
@[simp] theorem setCrcRun_bus (s : State) (v : Tab Nat) : (s.setCrcRun v).bus = s.bus := rfl
@[simp] theorem setCrcRun_wardens (s : State) (v : Tab Nat) : (s.setCrcRun v).wardens = s.wardens := rfl
@[simp] theorem setCrcRun_links (s : State) (v : Tab Nat) : (s.setCrcRun v).links = s.links := rfl
@[simp] theorem setCrcRun_ctxs (s : State) (v : Tab Nat) : (s.setCrcRun v).ctxs = s.ctxs := rfl
@[simp] theorem setCrcRun_stages (s : State) (v : Tab Nat) : (s.setCrcRun v).stages = s.stages := rfl
@[simp] theorem setCrcRun_lanes (s : State) (v : Tab Nat) : (s.setCrcRun v).lanes = s.lanes := rfl
@[simp] theorem setCrcRun_basil (s : State) (v : Tab Nat) : (s.setCrcRun v).basil = s.basil := rfl
@[simp] theorem setCrcRun_giu (s : State) (v : Tab Nat) : (s.setCrcRun v).giu = s.giu := rfl
@[simp] theorem setCrcRun_slewAcc (s : State) (v : Tab Nat) : (s.setCrcRun v).slewAcc = s.slewAcc := rfl
@[simp] theorem setCrcRun_frames (s : State) (v : Tab Nat) : (s.setCrcRun v).frames = s.frames := rfl
@[simp] theorem setCrcRun_tbgs (s : State) (v : Tab Nat) : (s.setCrcRun v).tbgs = s.tbgs := rfl
@[simp] theorem setCrcRun_legs (s : State) (v : Tab Nat) : (s.setCrcRun v).legs = s.legs := rfl
@[simp] theorem setCrcRun_mgs (s : State) (v : Tab Nat) : (s.setCrcRun v).mgs = s.mgs := rfl
@[simp] theorem setCrcRun_trgs (s : State) (v : Tab Nat) : (s.setCrcRun v).trgs = s.trgs := rfl
@[simp] theorem setCrcRun_ports (s : State) (v : Tab Nat) : (s.setCrcRun v).ports = s.ports := rfl
@[simp] theorem setCrcRun_sats (s : State) (v : Tab Nat) : (s.setCrcRun v).sats = s.sats := rfl
@[simp] theorem setCrcRun_sage (s : State) (v : Tab Nat) : (s.setCrcRun v).sage = s.sage := rfl
@[simp] theorem setCrcRun_wdgs (s : State) (v : Tab Nat) : (s.setCrcRun v).wdgs = s.wdgs := rfl
@[simp] theorem setCrcRun_tms (s : State) (v : Tab Nat) : (s.setCrcRun v).tms = s.tms := rfl
@[simp] theorem setCrcRun_diss (s : State) (v : Tab Nat) : (s.setCrcRun v).diss = s.diss := rfl
@[simp] theorem setCrcRun_livs (s : State) (v : Tab Nat) : (s.setCrcRun v).livs = s.livs := rfl
@[simp] theorem setCrcRun_apcs (s : State) (v : Tab Nat) : (s.setCrcRun v).apcs = s.apcs := rfl
@[simp] theorem setCrcRun_pair (s : State) (v : Tab Nat) : (s.setCrcRun v).pair = s.pair := rfl
@[simp] theorem setCrcRun_msio (s : State) (v : Tab Nat) : (s.setCrcRun v).msio = s.msio := rfl
@[simp] theorem setCrcRun_adcs (s : State) (v : Tab Nat) : (s.setCrcRun v).adcs = s.adcs := rfl
@[simp] theorem setCrcRun_fbs (s : State) (v : Tab Nat) : (s.setCrcRun v).fbs = s.fbs := rfl
@[simp] theorem setCrcRun_ress (s : State) (v : Tab Nat) : (s.setCrcRun v).ress = s.ress := rfl
@[simp] theorem setCrcRun_emus (s : State) (v : Tab Nat) : (s.setCrcRun v).emus = s.emus := rfl
@[simp] theorem setCrcRun_amu (s : State) (v : Tab Nat) : (s.setCrcRun v).amu = s.amu := rfl
@[simp] theorem setCrcRun_cans (s : State) (v : Tab Nat) : (s.setCrcRun v).cans = s.cans := rfl
@[simp] theorem setCrcRun_hpm (s : State) (v : Tab Nat) : (s.setCrcRun v).hpm = s.hpm := rfl
@[simp] theorem setCrcRun_rosem (s : State) (v : Tab Nat) : (s.setCrcRun v).rosem = s.rosem := rfl
@[simp] theorem setCrcRun_bist (s : State) (v : Tab Nat) : (s.setCrcRun v).bist = s.bist := rfl
@[simp] theorem setCrcRun_pending (s : State) (v : Tab Nat) : (s.setCrcRun v).pending = s.pending := rfl

@[simp] theorem setMem_now (s : State) (v : List Host.Cell) : (s.setMem v).now = s.now := rfl
@[simp] theorem setMem_free (s : State) (v : List Host.Cell) : (s.setMem v).free = s.free := rfl
@[simp] theorem setMem_regs (s : State) (v : List Host.Cell) : (s.setMem v).regs = s.regs := rfl
@[simp] theorem setMem_bnd (s : State) (v : List Host.Cell) : (s.setMem v).bnd = s.bnd := rfl
@[simp] theorem setMem_cmt (s : State) (v : List Host.Cell) : (s.setMem v).cmt = s.cmt := rfl
@[simp] theorem setMem_tmr (s : State) (v : List Host.Cell) : (s.setMem v).tmr = s.tmr := rfl
@[simp] theorem setMem_crcRun (s : State) (v : List Host.Cell) : (s.setMem v).crcRun = s.crcRun := rfl
@[simp] theorem setMem_mem (s : State) (v : List Host.Cell) : (s.setMem v).mem = v := rfl
@[simp] theorem setMem_bus (s : State) (v : List Host.Cell) : (s.setMem v).bus = s.bus := rfl
@[simp] theorem setMem_wardens (s : State) (v : List Host.Cell) : (s.setMem v).wardens = s.wardens := rfl
@[simp] theorem setMem_links (s : State) (v : List Host.Cell) : (s.setMem v).links = s.links := rfl
@[simp] theorem setMem_ctxs (s : State) (v : List Host.Cell) : (s.setMem v).ctxs = s.ctxs := rfl
@[simp] theorem setMem_stages (s : State) (v : List Host.Cell) : (s.setMem v).stages = s.stages := rfl
@[simp] theorem setMem_lanes (s : State) (v : List Host.Cell) : (s.setMem v).lanes = s.lanes := rfl
@[simp] theorem setMem_basil (s : State) (v : List Host.Cell) : (s.setMem v).basil = s.basil := rfl
@[simp] theorem setMem_giu (s : State) (v : List Host.Cell) : (s.setMem v).giu = s.giu := rfl
@[simp] theorem setMem_slewAcc (s : State) (v : List Host.Cell) : (s.setMem v).slewAcc = s.slewAcc := rfl
@[simp] theorem setMem_frames (s : State) (v : List Host.Cell) : (s.setMem v).frames = s.frames := rfl
@[simp] theorem setMem_tbgs (s : State) (v : List Host.Cell) : (s.setMem v).tbgs = s.tbgs := rfl
@[simp] theorem setMem_legs (s : State) (v : List Host.Cell) : (s.setMem v).legs = s.legs := rfl
@[simp] theorem setMem_mgs (s : State) (v : List Host.Cell) : (s.setMem v).mgs = s.mgs := rfl
@[simp] theorem setMem_trgs (s : State) (v : List Host.Cell) : (s.setMem v).trgs = s.trgs := rfl
@[simp] theorem setMem_ports (s : State) (v : List Host.Cell) : (s.setMem v).ports = s.ports := rfl
@[simp] theorem setMem_sats (s : State) (v : List Host.Cell) : (s.setMem v).sats = s.sats := rfl
@[simp] theorem setMem_sage (s : State) (v : List Host.Cell) : (s.setMem v).sage = s.sage := rfl
@[simp] theorem setMem_wdgs (s : State) (v : List Host.Cell) : (s.setMem v).wdgs = s.wdgs := rfl
@[simp] theorem setMem_tms (s : State) (v : List Host.Cell) : (s.setMem v).tms = s.tms := rfl
@[simp] theorem setMem_diss (s : State) (v : List Host.Cell) : (s.setMem v).diss = s.diss := rfl
@[simp] theorem setMem_livs (s : State) (v : List Host.Cell) : (s.setMem v).livs = s.livs := rfl
@[simp] theorem setMem_apcs (s : State) (v : List Host.Cell) : (s.setMem v).apcs = s.apcs := rfl
@[simp] theorem setMem_pair (s : State) (v : List Host.Cell) : (s.setMem v).pair = s.pair := rfl
@[simp] theorem setMem_msio (s : State) (v : List Host.Cell) : (s.setMem v).msio = s.msio := rfl
@[simp] theorem setMem_adcs (s : State) (v : List Host.Cell) : (s.setMem v).adcs = s.adcs := rfl
@[simp] theorem setMem_fbs (s : State) (v : List Host.Cell) : (s.setMem v).fbs = s.fbs := rfl
@[simp] theorem setMem_ress (s : State) (v : List Host.Cell) : (s.setMem v).ress = s.ress := rfl
@[simp] theorem setMem_emus (s : State) (v : List Host.Cell) : (s.setMem v).emus = s.emus := rfl
@[simp] theorem setMem_amu (s : State) (v : List Host.Cell) : (s.setMem v).amu = s.amu := rfl
@[simp] theorem setMem_cans (s : State) (v : List Host.Cell) : (s.setMem v).cans = s.cans := rfl
@[simp] theorem setMem_hpm (s : State) (v : List Host.Cell) : (s.setMem v).hpm = s.hpm := rfl
@[simp] theorem setMem_rosem (s : State) (v : List Host.Cell) : (s.setMem v).rosem = s.rosem := rfl
@[simp] theorem setMem_bist (s : State) (v : List Host.Cell) : (s.setMem v).bist = s.bist := rfl
@[simp] theorem setMem_pending (s : State) (v : List Host.Cell) : (s.setMem v).pending = s.pending := rfl

@[simp] theorem setBus_now (s : State) (v : Bus) : (s.setBus v).now = s.now := rfl
@[simp] theorem setBus_free (s : State) (v : Bus) : (s.setBus v).free = s.free := rfl
@[simp] theorem setBus_regs (s : State) (v : Bus) : (s.setBus v).regs = s.regs := rfl
@[simp] theorem setBus_bnd (s : State) (v : Bus) : (s.setBus v).bnd = s.bnd := rfl
@[simp] theorem setBus_cmt (s : State) (v : Bus) : (s.setBus v).cmt = s.cmt := rfl
@[simp] theorem setBus_tmr (s : State) (v : Bus) : (s.setBus v).tmr = s.tmr := rfl
@[simp] theorem setBus_crcRun (s : State) (v : Bus) : (s.setBus v).crcRun = s.crcRun := rfl
@[simp] theorem setBus_mem (s : State) (v : Bus) : (s.setBus v).mem = s.mem := rfl
@[simp] theorem setBus_bus (s : State) (v : Bus) : (s.setBus v).bus = v := rfl
@[simp] theorem setBus_wardens (s : State) (v : Bus) : (s.setBus v).wardens = s.wardens := rfl
@[simp] theorem setBus_links (s : State) (v : Bus) : (s.setBus v).links = s.links := rfl
@[simp] theorem setBus_ctxs (s : State) (v : Bus) : (s.setBus v).ctxs = s.ctxs := rfl
@[simp] theorem setBus_stages (s : State) (v : Bus) : (s.setBus v).stages = s.stages := rfl
@[simp] theorem setBus_lanes (s : State) (v : Bus) : (s.setBus v).lanes = s.lanes := rfl
@[simp] theorem setBus_basil (s : State) (v : Bus) : (s.setBus v).basil = s.basil := rfl
@[simp] theorem setBus_giu (s : State) (v : Bus) : (s.setBus v).giu = s.giu := rfl
@[simp] theorem setBus_slewAcc (s : State) (v : Bus) : (s.setBus v).slewAcc = s.slewAcc := rfl
@[simp] theorem setBus_frames (s : State) (v : Bus) : (s.setBus v).frames = s.frames := rfl
@[simp] theorem setBus_tbgs (s : State) (v : Bus) : (s.setBus v).tbgs = s.tbgs := rfl
@[simp] theorem setBus_legs (s : State) (v : Bus) : (s.setBus v).legs = s.legs := rfl
@[simp] theorem setBus_mgs (s : State) (v : Bus) : (s.setBus v).mgs = s.mgs := rfl
@[simp] theorem setBus_trgs (s : State) (v : Bus) : (s.setBus v).trgs = s.trgs := rfl
@[simp] theorem setBus_ports (s : State) (v : Bus) : (s.setBus v).ports = s.ports := rfl
@[simp] theorem setBus_sats (s : State) (v : Bus) : (s.setBus v).sats = s.sats := rfl
@[simp] theorem setBus_sage (s : State) (v : Bus) : (s.setBus v).sage = s.sage := rfl
@[simp] theorem setBus_wdgs (s : State) (v : Bus) : (s.setBus v).wdgs = s.wdgs := rfl
@[simp] theorem setBus_tms (s : State) (v : Bus) : (s.setBus v).tms = s.tms := rfl
@[simp] theorem setBus_diss (s : State) (v : Bus) : (s.setBus v).diss = s.diss := rfl
@[simp] theorem setBus_livs (s : State) (v : Bus) : (s.setBus v).livs = s.livs := rfl
@[simp] theorem setBus_apcs (s : State) (v : Bus) : (s.setBus v).apcs = s.apcs := rfl
@[simp] theorem setBus_pair (s : State) (v : Bus) : (s.setBus v).pair = s.pair := rfl
@[simp] theorem setBus_msio (s : State) (v : Bus) : (s.setBus v).msio = s.msio := rfl
@[simp] theorem setBus_adcs (s : State) (v : Bus) : (s.setBus v).adcs = s.adcs := rfl
@[simp] theorem setBus_fbs (s : State) (v : Bus) : (s.setBus v).fbs = s.fbs := rfl
@[simp] theorem setBus_ress (s : State) (v : Bus) : (s.setBus v).ress = s.ress := rfl
@[simp] theorem setBus_emus (s : State) (v : Bus) : (s.setBus v).emus = s.emus := rfl
@[simp] theorem setBus_amu (s : State) (v : Bus) : (s.setBus v).amu = s.amu := rfl
@[simp] theorem setBus_cans (s : State) (v : Bus) : (s.setBus v).cans = s.cans := rfl
@[simp] theorem setBus_hpm (s : State) (v : Bus) : (s.setBus v).hpm = s.hpm := rfl
@[simp] theorem setBus_rosem (s : State) (v : Bus) : (s.setBus v).rosem = s.rosem := rfl
@[simp] theorem setBus_bist (s : State) (v : Bus) : (s.setBus v).bist = s.bist := rfl
@[simp] theorem setBus_pending (s : State) (v : Bus) : (s.setBus v).pending = s.pending := rfl

@[simp] theorem setWardens_now (s : State) (v : Tab Warden) : (s.setWardens v).now = s.now := rfl
@[simp] theorem setWardens_free (s : State) (v : Tab Warden) : (s.setWardens v).free = s.free := rfl
@[simp] theorem setWardens_regs (s : State) (v : Tab Warden) : (s.setWardens v).regs = s.regs := rfl
@[simp] theorem setWardens_bnd (s : State) (v : Tab Warden) : (s.setWardens v).bnd = s.bnd := rfl
@[simp] theorem setWardens_cmt (s : State) (v : Tab Warden) : (s.setWardens v).cmt = s.cmt := rfl
@[simp] theorem setWardens_tmr (s : State) (v : Tab Warden) : (s.setWardens v).tmr = s.tmr := rfl
@[simp] theorem setWardens_crcRun (s : State) (v : Tab Warden) : (s.setWardens v).crcRun = s.crcRun := rfl
@[simp] theorem setWardens_mem (s : State) (v : Tab Warden) : (s.setWardens v).mem = s.mem := rfl
@[simp] theorem setWardens_bus (s : State) (v : Tab Warden) : (s.setWardens v).bus = s.bus := rfl
@[simp] theorem setWardens_wardens (s : State) (v : Tab Warden) : (s.setWardens v).wardens = v := rfl
@[simp] theorem setWardens_links (s : State) (v : Tab Warden) : (s.setWardens v).links = s.links := rfl
@[simp] theorem setWardens_ctxs (s : State) (v : Tab Warden) : (s.setWardens v).ctxs = s.ctxs := rfl
@[simp] theorem setWardens_stages (s : State) (v : Tab Warden) : (s.setWardens v).stages = s.stages := rfl
@[simp] theorem setWardens_lanes (s : State) (v : Tab Warden) : (s.setWardens v).lanes = s.lanes := rfl
@[simp] theorem setWardens_basil (s : State) (v : Tab Warden) : (s.setWardens v).basil = s.basil := rfl
@[simp] theorem setWardens_giu (s : State) (v : Tab Warden) : (s.setWardens v).giu = s.giu := rfl
@[simp] theorem setWardens_slewAcc (s : State) (v : Tab Warden) : (s.setWardens v).slewAcc = s.slewAcc := rfl
@[simp] theorem setWardens_frames (s : State) (v : Tab Warden) : (s.setWardens v).frames = s.frames := rfl
@[simp] theorem setWardens_tbgs (s : State) (v : Tab Warden) : (s.setWardens v).tbgs = s.tbgs := rfl
@[simp] theorem setWardens_legs (s : State) (v : Tab Warden) : (s.setWardens v).legs = s.legs := rfl
@[simp] theorem setWardens_mgs (s : State) (v : Tab Warden) : (s.setWardens v).mgs = s.mgs := rfl
@[simp] theorem setWardens_trgs (s : State) (v : Tab Warden) : (s.setWardens v).trgs = s.trgs := rfl
@[simp] theorem setWardens_ports (s : State) (v : Tab Warden) : (s.setWardens v).ports = s.ports := rfl
@[simp] theorem setWardens_sats (s : State) (v : Tab Warden) : (s.setWardens v).sats = s.sats := rfl
@[simp] theorem setWardens_sage (s : State) (v : Tab Warden) : (s.setWardens v).sage = s.sage := rfl
@[simp] theorem setWardens_wdgs (s : State) (v : Tab Warden) : (s.setWardens v).wdgs = s.wdgs := rfl
@[simp] theorem setWardens_tms (s : State) (v : Tab Warden) : (s.setWardens v).tms = s.tms := rfl
@[simp] theorem setWardens_diss (s : State) (v : Tab Warden) : (s.setWardens v).diss = s.diss := rfl
@[simp] theorem setWardens_livs (s : State) (v : Tab Warden) : (s.setWardens v).livs = s.livs := rfl
@[simp] theorem setWardens_apcs (s : State) (v : Tab Warden) : (s.setWardens v).apcs = s.apcs := rfl
@[simp] theorem setWardens_pair (s : State) (v : Tab Warden) : (s.setWardens v).pair = s.pair := rfl
@[simp] theorem setWardens_msio (s : State) (v : Tab Warden) : (s.setWardens v).msio = s.msio := rfl
@[simp] theorem setWardens_adcs (s : State) (v : Tab Warden) : (s.setWardens v).adcs = s.adcs := rfl
@[simp] theorem setWardens_fbs (s : State) (v : Tab Warden) : (s.setWardens v).fbs = s.fbs := rfl
@[simp] theorem setWardens_ress (s : State) (v : Tab Warden) : (s.setWardens v).ress = s.ress := rfl
@[simp] theorem setWardens_emus (s : State) (v : Tab Warden) : (s.setWardens v).emus = s.emus := rfl
@[simp] theorem setWardens_amu (s : State) (v : Tab Warden) : (s.setWardens v).amu = s.amu := rfl
@[simp] theorem setWardens_cans (s : State) (v : Tab Warden) : (s.setWardens v).cans = s.cans := rfl
@[simp] theorem setWardens_hpm (s : State) (v : Tab Warden) : (s.setWardens v).hpm = s.hpm := rfl
@[simp] theorem setWardens_rosem (s : State) (v : Tab Warden) : (s.setWardens v).rosem = s.rosem := rfl
@[simp] theorem setWardens_bist (s : State) (v : Tab Warden) : (s.setWardens v).bist = s.bist := rfl
@[simp] theorem setWardens_pending (s : State) (v : Tab Warden) : (s.setWardens v).pending = s.pending := rfl

@[simp] theorem setLinks_now (s : State) (v : Tab Link) : (s.setLinks v).now = s.now := rfl
@[simp] theorem setLinks_free (s : State) (v : Tab Link) : (s.setLinks v).free = s.free := rfl
@[simp] theorem setLinks_regs (s : State) (v : Tab Link) : (s.setLinks v).regs = s.regs := rfl
@[simp] theorem setLinks_bnd (s : State) (v : Tab Link) : (s.setLinks v).bnd = s.bnd := rfl
@[simp] theorem setLinks_cmt (s : State) (v : Tab Link) : (s.setLinks v).cmt = s.cmt := rfl
@[simp] theorem setLinks_tmr (s : State) (v : Tab Link) : (s.setLinks v).tmr = s.tmr := rfl
@[simp] theorem setLinks_crcRun (s : State) (v : Tab Link) : (s.setLinks v).crcRun = s.crcRun := rfl
@[simp] theorem setLinks_mem (s : State) (v : Tab Link) : (s.setLinks v).mem = s.mem := rfl
@[simp] theorem setLinks_bus (s : State) (v : Tab Link) : (s.setLinks v).bus = s.bus := rfl
@[simp] theorem setLinks_wardens (s : State) (v : Tab Link) : (s.setLinks v).wardens = s.wardens := rfl
@[simp] theorem setLinks_links (s : State) (v : Tab Link) : (s.setLinks v).links = v := rfl
@[simp] theorem setLinks_ctxs (s : State) (v : Tab Link) : (s.setLinks v).ctxs = s.ctxs := rfl
@[simp] theorem setLinks_stages (s : State) (v : Tab Link) : (s.setLinks v).stages = s.stages := rfl
@[simp] theorem setLinks_lanes (s : State) (v : Tab Link) : (s.setLinks v).lanes = s.lanes := rfl
@[simp] theorem setLinks_basil (s : State) (v : Tab Link) : (s.setLinks v).basil = s.basil := rfl
@[simp] theorem setLinks_giu (s : State) (v : Tab Link) : (s.setLinks v).giu = s.giu := rfl
@[simp] theorem setLinks_slewAcc (s : State) (v : Tab Link) : (s.setLinks v).slewAcc = s.slewAcc := rfl
@[simp] theorem setLinks_frames (s : State) (v : Tab Link) : (s.setLinks v).frames = s.frames := rfl
@[simp] theorem setLinks_tbgs (s : State) (v : Tab Link) : (s.setLinks v).tbgs = s.tbgs := rfl
@[simp] theorem setLinks_legs (s : State) (v : Tab Link) : (s.setLinks v).legs = s.legs := rfl
@[simp] theorem setLinks_mgs (s : State) (v : Tab Link) : (s.setLinks v).mgs = s.mgs := rfl
@[simp] theorem setLinks_trgs (s : State) (v : Tab Link) : (s.setLinks v).trgs = s.trgs := rfl
@[simp] theorem setLinks_ports (s : State) (v : Tab Link) : (s.setLinks v).ports = s.ports := rfl
@[simp] theorem setLinks_sats (s : State) (v : Tab Link) : (s.setLinks v).sats = s.sats := rfl
@[simp] theorem setLinks_sage (s : State) (v : Tab Link) : (s.setLinks v).sage = s.sage := rfl
@[simp] theorem setLinks_wdgs (s : State) (v : Tab Link) : (s.setLinks v).wdgs = s.wdgs := rfl
@[simp] theorem setLinks_tms (s : State) (v : Tab Link) : (s.setLinks v).tms = s.tms := rfl
@[simp] theorem setLinks_diss (s : State) (v : Tab Link) : (s.setLinks v).diss = s.diss := rfl
@[simp] theorem setLinks_livs (s : State) (v : Tab Link) : (s.setLinks v).livs = s.livs := rfl
@[simp] theorem setLinks_apcs (s : State) (v : Tab Link) : (s.setLinks v).apcs = s.apcs := rfl
@[simp] theorem setLinks_pair (s : State) (v : Tab Link) : (s.setLinks v).pair = s.pair := rfl
@[simp] theorem setLinks_msio (s : State) (v : Tab Link) : (s.setLinks v).msio = s.msio := rfl
@[simp] theorem setLinks_adcs (s : State) (v : Tab Link) : (s.setLinks v).adcs = s.adcs := rfl
@[simp] theorem setLinks_fbs (s : State) (v : Tab Link) : (s.setLinks v).fbs = s.fbs := rfl
@[simp] theorem setLinks_ress (s : State) (v : Tab Link) : (s.setLinks v).ress = s.ress := rfl
@[simp] theorem setLinks_emus (s : State) (v : Tab Link) : (s.setLinks v).emus = s.emus := rfl
@[simp] theorem setLinks_amu (s : State) (v : Tab Link) : (s.setLinks v).amu = s.amu := rfl
@[simp] theorem setLinks_cans (s : State) (v : Tab Link) : (s.setLinks v).cans = s.cans := rfl
@[simp] theorem setLinks_hpm (s : State) (v : Tab Link) : (s.setLinks v).hpm = s.hpm := rfl
@[simp] theorem setLinks_rosem (s : State) (v : Tab Link) : (s.setLinks v).rosem = s.rosem := rfl
@[simp] theorem setLinks_bist (s : State) (v : Tab Link) : (s.setLinks v).bist = s.bist := rfl
@[simp] theorem setLinks_pending (s : State) (v : Tab Link) : (s.setLinks v).pending = s.pending := rfl

@[simp] theorem setCtxs_now (s : State) (v : Tab Ctx) : (s.setCtxs v).now = s.now := rfl
@[simp] theorem setCtxs_free (s : State) (v : Tab Ctx) : (s.setCtxs v).free = s.free := rfl
@[simp] theorem setCtxs_regs (s : State) (v : Tab Ctx) : (s.setCtxs v).regs = s.regs := rfl
@[simp] theorem setCtxs_bnd (s : State) (v : Tab Ctx) : (s.setCtxs v).bnd = s.bnd := rfl
@[simp] theorem setCtxs_cmt (s : State) (v : Tab Ctx) : (s.setCtxs v).cmt = s.cmt := rfl
@[simp] theorem setCtxs_tmr (s : State) (v : Tab Ctx) : (s.setCtxs v).tmr = s.tmr := rfl
@[simp] theorem setCtxs_crcRun (s : State) (v : Tab Ctx) : (s.setCtxs v).crcRun = s.crcRun := rfl
@[simp] theorem setCtxs_mem (s : State) (v : Tab Ctx) : (s.setCtxs v).mem = s.mem := rfl
@[simp] theorem setCtxs_bus (s : State) (v : Tab Ctx) : (s.setCtxs v).bus = s.bus := rfl
@[simp] theorem setCtxs_wardens (s : State) (v : Tab Ctx) : (s.setCtxs v).wardens = s.wardens := rfl
@[simp] theorem setCtxs_links (s : State) (v : Tab Ctx) : (s.setCtxs v).links = s.links := rfl
@[simp] theorem setCtxs_ctxs (s : State) (v : Tab Ctx) : (s.setCtxs v).ctxs = v := rfl
@[simp] theorem setCtxs_stages (s : State) (v : Tab Ctx) : (s.setCtxs v).stages = s.stages := rfl
@[simp] theorem setCtxs_lanes (s : State) (v : Tab Ctx) : (s.setCtxs v).lanes = s.lanes := rfl
@[simp] theorem setCtxs_basil (s : State) (v : Tab Ctx) : (s.setCtxs v).basil = s.basil := rfl
@[simp] theorem setCtxs_giu (s : State) (v : Tab Ctx) : (s.setCtxs v).giu = s.giu := rfl
@[simp] theorem setCtxs_slewAcc (s : State) (v : Tab Ctx) : (s.setCtxs v).slewAcc = s.slewAcc := rfl
@[simp] theorem setCtxs_frames (s : State) (v : Tab Ctx) : (s.setCtxs v).frames = s.frames := rfl
@[simp] theorem setCtxs_tbgs (s : State) (v : Tab Ctx) : (s.setCtxs v).tbgs = s.tbgs := rfl
@[simp] theorem setCtxs_legs (s : State) (v : Tab Ctx) : (s.setCtxs v).legs = s.legs := rfl
@[simp] theorem setCtxs_mgs (s : State) (v : Tab Ctx) : (s.setCtxs v).mgs = s.mgs := rfl
@[simp] theorem setCtxs_trgs (s : State) (v : Tab Ctx) : (s.setCtxs v).trgs = s.trgs := rfl
@[simp] theorem setCtxs_ports (s : State) (v : Tab Ctx) : (s.setCtxs v).ports = s.ports := rfl
@[simp] theorem setCtxs_sats (s : State) (v : Tab Ctx) : (s.setCtxs v).sats = s.sats := rfl
@[simp] theorem setCtxs_sage (s : State) (v : Tab Ctx) : (s.setCtxs v).sage = s.sage := rfl
@[simp] theorem setCtxs_wdgs (s : State) (v : Tab Ctx) : (s.setCtxs v).wdgs = s.wdgs := rfl
@[simp] theorem setCtxs_tms (s : State) (v : Tab Ctx) : (s.setCtxs v).tms = s.tms := rfl
@[simp] theorem setCtxs_diss (s : State) (v : Tab Ctx) : (s.setCtxs v).diss = s.diss := rfl
@[simp] theorem setCtxs_livs (s : State) (v : Tab Ctx) : (s.setCtxs v).livs = s.livs := rfl
@[simp] theorem setCtxs_apcs (s : State) (v : Tab Ctx) : (s.setCtxs v).apcs = s.apcs := rfl
@[simp] theorem setCtxs_pair (s : State) (v : Tab Ctx) : (s.setCtxs v).pair = s.pair := rfl
@[simp] theorem setCtxs_msio (s : State) (v : Tab Ctx) : (s.setCtxs v).msio = s.msio := rfl
@[simp] theorem setCtxs_adcs (s : State) (v : Tab Ctx) : (s.setCtxs v).adcs = s.adcs := rfl
@[simp] theorem setCtxs_fbs (s : State) (v : Tab Ctx) : (s.setCtxs v).fbs = s.fbs := rfl
@[simp] theorem setCtxs_ress (s : State) (v : Tab Ctx) : (s.setCtxs v).ress = s.ress := rfl
@[simp] theorem setCtxs_emus (s : State) (v : Tab Ctx) : (s.setCtxs v).emus = s.emus := rfl
@[simp] theorem setCtxs_amu (s : State) (v : Tab Ctx) : (s.setCtxs v).amu = s.amu := rfl
@[simp] theorem setCtxs_cans (s : State) (v : Tab Ctx) : (s.setCtxs v).cans = s.cans := rfl
@[simp] theorem setCtxs_hpm (s : State) (v : Tab Ctx) : (s.setCtxs v).hpm = s.hpm := rfl
@[simp] theorem setCtxs_rosem (s : State) (v : Tab Ctx) : (s.setCtxs v).rosem = s.rosem := rfl
@[simp] theorem setCtxs_bist (s : State) (v : Tab Ctx) : (s.setCtxs v).bist = s.bist := rfl
@[simp] theorem setCtxs_pending (s : State) (v : Tab Ctx) : (s.setCtxs v).pending = s.pending := rfl

@[simp] theorem setStages_now (s : State) (v : Tab Stage) : (s.setStages v).now = s.now := rfl
@[simp] theorem setStages_free (s : State) (v : Tab Stage) : (s.setStages v).free = s.free := rfl
@[simp] theorem setStages_regs (s : State) (v : Tab Stage) : (s.setStages v).regs = s.regs := rfl
@[simp] theorem setStages_bnd (s : State) (v : Tab Stage) : (s.setStages v).bnd = s.bnd := rfl
@[simp] theorem setStages_cmt (s : State) (v : Tab Stage) : (s.setStages v).cmt = s.cmt := rfl
@[simp] theorem setStages_tmr (s : State) (v : Tab Stage) : (s.setStages v).tmr = s.tmr := rfl
@[simp] theorem setStages_crcRun (s : State) (v : Tab Stage) : (s.setStages v).crcRun = s.crcRun := rfl
@[simp] theorem setStages_mem (s : State) (v : Tab Stage) : (s.setStages v).mem = s.mem := rfl
@[simp] theorem setStages_bus (s : State) (v : Tab Stage) : (s.setStages v).bus = s.bus := rfl
@[simp] theorem setStages_wardens (s : State) (v : Tab Stage) : (s.setStages v).wardens = s.wardens := rfl
@[simp] theorem setStages_links (s : State) (v : Tab Stage) : (s.setStages v).links = s.links := rfl
@[simp] theorem setStages_ctxs (s : State) (v : Tab Stage) : (s.setStages v).ctxs = s.ctxs := rfl
@[simp] theorem setStages_stages (s : State) (v : Tab Stage) : (s.setStages v).stages = v := rfl
@[simp] theorem setStages_lanes (s : State) (v : Tab Stage) : (s.setStages v).lanes = s.lanes := rfl
@[simp] theorem setStages_basil (s : State) (v : Tab Stage) : (s.setStages v).basil = s.basil := rfl
@[simp] theorem setStages_giu (s : State) (v : Tab Stage) : (s.setStages v).giu = s.giu := rfl
@[simp] theorem setStages_slewAcc (s : State) (v : Tab Stage) : (s.setStages v).slewAcc = s.slewAcc := rfl
@[simp] theorem setStages_frames (s : State) (v : Tab Stage) : (s.setStages v).frames = s.frames := rfl
@[simp] theorem setStages_tbgs (s : State) (v : Tab Stage) : (s.setStages v).tbgs = s.tbgs := rfl
@[simp] theorem setStages_legs (s : State) (v : Tab Stage) : (s.setStages v).legs = s.legs := rfl
@[simp] theorem setStages_mgs (s : State) (v : Tab Stage) : (s.setStages v).mgs = s.mgs := rfl
@[simp] theorem setStages_trgs (s : State) (v : Tab Stage) : (s.setStages v).trgs = s.trgs := rfl
@[simp] theorem setStages_ports (s : State) (v : Tab Stage) : (s.setStages v).ports = s.ports := rfl
@[simp] theorem setStages_sats (s : State) (v : Tab Stage) : (s.setStages v).sats = s.sats := rfl
@[simp] theorem setStages_sage (s : State) (v : Tab Stage) : (s.setStages v).sage = s.sage := rfl
@[simp] theorem setStages_wdgs (s : State) (v : Tab Stage) : (s.setStages v).wdgs = s.wdgs := rfl
@[simp] theorem setStages_tms (s : State) (v : Tab Stage) : (s.setStages v).tms = s.tms := rfl
@[simp] theorem setStages_diss (s : State) (v : Tab Stage) : (s.setStages v).diss = s.diss := rfl
@[simp] theorem setStages_livs (s : State) (v : Tab Stage) : (s.setStages v).livs = s.livs := rfl
@[simp] theorem setStages_apcs (s : State) (v : Tab Stage) : (s.setStages v).apcs = s.apcs := rfl
@[simp] theorem setStages_pair (s : State) (v : Tab Stage) : (s.setStages v).pair = s.pair := rfl
@[simp] theorem setStages_msio (s : State) (v : Tab Stage) : (s.setStages v).msio = s.msio := rfl
@[simp] theorem setStages_adcs (s : State) (v : Tab Stage) : (s.setStages v).adcs = s.adcs := rfl
@[simp] theorem setStages_fbs (s : State) (v : Tab Stage) : (s.setStages v).fbs = s.fbs := rfl
@[simp] theorem setStages_ress (s : State) (v : Tab Stage) : (s.setStages v).ress = s.ress := rfl
@[simp] theorem setStages_emus (s : State) (v : Tab Stage) : (s.setStages v).emus = s.emus := rfl
@[simp] theorem setStages_amu (s : State) (v : Tab Stage) : (s.setStages v).amu = s.amu := rfl
@[simp] theorem setStages_cans (s : State) (v : Tab Stage) : (s.setStages v).cans = s.cans := rfl
@[simp] theorem setStages_hpm (s : State) (v : Tab Stage) : (s.setStages v).hpm = s.hpm := rfl
@[simp] theorem setStages_rosem (s : State) (v : Tab Stage) : (s.setStages v).rosem = s.rosem := rfl
@[simp] theorem setStages_bist (s : State) (v : Tab Stage) : (s.setStages v).bist = s.bist := rfl
@[simp] theorem setStages_pending (s : State) (v : Tab Stage) : (s.setStages v).pending = s.pending := rfl

@[simp] theorem setLanes_now (s : State) (v : Tab Lane) : (s.setLanes v).now = s.now := rfl
@[simp] theorem setLanes_free (s : State) (v : Tab Lane) : (s.setLanes v).free = s.free := rfl
@[simp] theorem setLanes_regs (s : State) (v : Tab Lane) : (s.setLanes v).regs = s.regs := rfl
@[simp] theorem setLanes_bnd (s : State) (v : Tab Lane) : (s.setLanes v).bnd = s.bnd := rfl
@[simp] theorem setLanes_cmt (s : State) (v : Tab Lane) : (s.setLanes v).cmt = s.cmt := rfl
@[simp] theorem setLanes_tmr (s : State) (v : Tab Lane) : (s.setLanes v).tmr = s.tmr := rfl
@[simp] theorem setLanes_crcRun (s : State) (v : Tab Lane) : (s.setLanes v).crcRun = s.crcRun := rfl
@[simp] theorem setLanes_mem (s : State) (v : Tab Lane) : (s.setLanes v).mem = s.mem := rfl
@[simp] theorem setLanes_bus (s : State) (v : Tab Lane) : (s.setLanes v).bus = s.bus := rfl
@[simp] theorem setLanes_wardens (s : State) (v : Tab Lane) : (s.setLanes v).wardens = s.wardens := rfl
@[simp] theorem setLanes_links (s : State) (v : Tab Lane) : (s.setLanes v).links = s.links := rfl
@[simp] theorem setLanes_ctxs (s : State) (v : Tab Lane) : (s.setLanes v).ctxs = s.ctxs := rfl
@[simp] theorem setLanes_stages (s : State) (v : Tab Lane) : (s.setLanes v).stages = s.stages := rfl
@[simp] theorem setLanes_lanes (s : State) (v : Tab Lane) : (s.setLanes v).lanes = v := rfl
@[simp] theorem setLanes_basil (s : State) (v : Tab Lane) : (s.setLanes v).basil = s.basil := rfl
@[simp] theorem setLanes_giu (s : State) (v : Tab Lane) : (s.setLanes v).giu = s.giu := rfl
@[simp] theorem setLanes_slewAcc (s : State) (v : Tab Lane) : (s.setLanes v).slewAcc = s.slewAcc := rfl
@[simp] theorem setLanes_frames (s : State) (v : Tab Lane) : (s.setLanes v).frames = s.frames := rfl
@[simp] theorem setLanes_tbgs (s : State) (v : Tab Lane) : (s.setLanes v).tbgs = s.tbgs := rfl
@[simp] theorem setLanes_legs (s : State) (v : Tab Lane) : (s.setLanes v).legs = s.legs := rfl
@[simp] theorem setLanes_mgs (s : State) (v : Tab Lane) : (s.setLanes v).mgs = s.mgs := rfl
@[simp] theorem setLanes_trgs (s : State) (v : Tab Lane) : (s.setLanes v).trgs = s.trgs := rfl
@[simp] theorem setLanes_ports (s : State) (v : Tab Lane) : (s.setLanes v).ports = s.ports := rfl
@[simp] theorem setLanes_sats (s : State) (v : Tab Lane) : (s.setLanes v).sats = s.sats := rfl
@[simp] theorem setLanes_sage (s : State) (v : Tab Lane) : (s.setLanes v).sage = s.sage := rfl
@[simp] theorem setLanes_wdgs (s : State) (v : Tab Lane) : (s.setLanes v).wdgs = s.wdgs := rfl
@[simp] theorem setLanes_tms (s : State) (v : Tab Lane) : (s.setLanes v).tms = s.tms := rfl
@[simp] theorem setLanes_diss (s : State) (v : Tab Lane) : (s.setLanes v).diss = s.diss := rfl
@[simp] theorem setLanes_livs (s : State) (v : Tab Lane) : (s.setLanes v).livs = s.livs := rfl
@[simp] theorem setLanes_apcs (s : State) (v : Tab Lane) : (s.setLanes v).apcs = s.apcs := rfl
@[simp] theorem setLanes_pair (s : State) (v : Tab Lane) : (s.setLanes v).pair = s.pair := rfl
@[simp] theorem setLanes_msio (s : State) (v : Tab Lane) : (s.setLanes v).msio = s.msio := rfl
@[simp] theorem setLanes_adcs (s : State) (v : Tab Lane) : (s.setLanes v).adcs = s.adcs := rfl
@[simp] theorem setLanes_fbs (s : State) (v : Tab Lane) : (s.setLanes v).fbs = s.fbs := rfl
@[simp] theorem setLanes_ress (s : State) (v : Tab Lane) : (s.setLanes v).ress = s.ress := rfl
@[simp] theorem setLanes_emus (s : State) (v : Tab Lane) : (s.setLanes v).emus = s.emus := rfl
@[simp] theorem setLanes_amu (s : State) (v : Tab Lane) : (s.setLanes v).amu = s.amu := rfl
@[simp] theorem setLanes_cans (s : State) (v : Tab Lane) : (s.setLanes v).cans = s.cans := rfl
@[simp] theorem setLanes_hpm (s : State) (v : Tab Lane) : (s.setLanes v).hpm = s.hpm := rfl
@[simp] theorem setLanes_rosem (s : State) (v : Tab Lane) : (s.setLanes v).rosem = s.rosem := rfl
@[simp] theorem setLanes_bist (s : State) (v : Tab Lane) : (s.setLanes v).bist = s.bist := rfl
@[simp] theorem setLanes_pending (s : State) (v : Tab Lane) : (s.setLanes v).pending = s.pending := rfl

@[simp] theorem setBasil_now (s : State) (v : Basil) : (s.setBasil v).now = s.now := rfl
@[simp] theorem setBasil_free (s : State) (v : Basil) : (s.setBasil v).free = s.free := rfl
@[simp] theorem setBasil_regs (s : State) (v : Basil) : (s.setBasil v).regs = s.regs := rfl
@[simp] theorem setBasil_bnd (s : State) (v : Basil) : (s.setBasil v).bnd = s.bnd := rfl
@[simp] theorem setBasil_cmt (s : State) (v : Basil) : (s.setBasil v).cmt = s.cmt := rfl
@[simp] theorem setBasil_tmr (s : State) (v : Basil) : (s.setBasil v).tmr = s.tmr := rfl
@[simp] theorem setBasil_crcRun (s : State) (v : Basil) : (s.setBasil v).crcRun = s.crcRun := rfl
@[simp] theorem setBasil_mem (s : State) (v : Basil) : (s.setBasil v).mem = s.mem := rfl
@[simp] theorem setBasil_bus (s : State) (v : Basil) : (s.setBasil v).bus = s.bus := rfl
@[simp] theorem setBasil_wardens (s : State) (v : Basil) : (s.setBasil v).wardens = s.wardens := rfl
@[simp] theorem setBasil_links (s : State) (v : Basil) : (s.setBasil v).links = s.links := rfl
@[simp] theorem setBasil_ctxs (s : State) (v : Basil) : (s.setBasil v).ctxs = s.ctxs := rfl
@[simp] theorem setBasil_stages (s : State) (v : Basil) : (s.setBasil v).stages = s.stages := rfl
@[simp] theorem setBasil_lanes (s : State) (v : Basil) : (s.setBasil v).lanes = s.lanes := rfl
@[simp] theorem setBasil_basil (s : State) (v : Basil) : (s.setBasil v).basil = v := rfl
@[simp] theorem setBasil_giu (s : State) (v : Basil) : (s.setBasil v).giu = s.giu := rfl
@[simp] theorem setBasil_slewAcc (s : State) (v : Basil) : (s.setBasil v).slewAcc = s.slewAcc := rfl
@[simp] theorem setBasil_frames (s : State) (v : Basil) : (s.setBasil v).frames = s.frames := rfl
@[simp] theorem setBasil_tbgs (s : State) (v : Basil) : (s.setBasil v).tbgs = s.tbgs := rfl
@[simp] theorem setBasil_legs (s : State) (v : Basil) : (s.setBasil v).legs = s.legs := rfl
@[simp] theorem setBasil_mgs (s : State) (v : Basil) : (s.setBasil v).mgs = s.mgs := rfl
@[simp] theorem setBasil_trgs (s : State) (v : Basil) : (s.setBasil v).trgs = s.trgs := rfl
@[simp] theorem setBasil_ports (s : State) (v : Basil) : (s.setBasil v).ports = s.ports := rfl
@[simp] theorem setBasil_sats (s : State) (v : Basil) : (s.setBasil v).sats = s.sats := rfl
@[simp] theorem setBasil_sage (s : State) (v : Basil) : (s.setBasil v).sage = s.sage := rfl
@[simp] theorem setBasil_wdgs (s : State) (v : Basil) : (s.setBasil v).wdgs = s.wdgs := rfl
@[simp] theorem setBasil_tms (s : State) (v : Basil) : (s.setBasil v).tms = s.tms := rfl
@[simp] theorem setBasil_diss (s : State) (v : Basil) : (s.setBasil v).diss = s.diss := rfl
@[simp] theorem setBasil_livs (s : State) (v : Basil) : (s.setBasil v).livs = s.livs := rfl
@[simp] theorem setBasil_apcs (s : State) (v : Basil) : (s.setBasil v).apcs = s.apcs := rfl
@[simp] theorem setBasil_pair (s : State) (v : Basil) : (s.setBasil v).pair = s.pair := rfl
@[simp] theorem setBasil_msio (s : State) (v : Basil) : (s.setBasil v).msio = s.msio := rfl
@[simp] theorem setBasil_adcs (s : State) (v : Basil) : (s.setBasil v).adcs = s.adcs := rfl
@[simp] theorem setBasil_fbs (s : State) (v : Basil) : (s.setBasil v).fbs = s.fbs := rfl
@[simp] theorem setBasil_ress (s : State) (v : Basil) : (s.setBasil v).ress = s.ress := rfl
@[simp] theorem setBasil_emus (s : State) (v : Basil) : (s.setBasil v).emus = s.emus := rfl
@[simp] theorem setBasil_amu (s : State) (v : Basil) : (s.setBasil v).amu = s.amu := rfl
@[simp] theorem setBasil_cans (s : State) (v : Basil) : (s.setBasil v).cans = s.cans := rfl
@[simp] theorem setBasil_hpm (s : State) (v : Basil) : (s.setBasil v).hpm = s.hpm := rfl
@[simp] theorem setBasil_rosem (s : State) (v : Basil) : (s.setBasil v).rosem = s.rosem := rfl
@[simp] theorem setBasil_bist (s : State) (v : Basil) : (s.setBasil v).bist = s.bist := rfl
@[simp] theorem setBasil_pending (s : State) (v : Basil) : (s.setBasil v).pending = s.pending := rfl

@[simp] theorem setGiu_now (s : State) (v : Giu) : (s.setGiu v).now = s.now := rfl
@[simp] theorem setGiu_free (s : State) (v : Giu) : (s.setGiu v).free = s.free := rfl
@[simp] theorem setGiu_regs (s : State) (v : Giu) : (s.setGiu v).regs = s.regs := rfl
@[simp] theorem setGiu_bnd (s : State) (v : Giu) : (s.setGiu v).bnd = s.bnd := rfl
@[simp] theorem setGiu_cmt (s : State) (v : Giu) : (s.setGiu v).cmt = s.cmt := rfl
@[simp] theorem setGiu_tmr (s : State) (v : Giu) : (s.setGiu v).tmr = s.tmr := rfl
@[simp] theorem setGiu_crcRun (s : State) (v : Giu) : (s.setGiu v).crcRun = s.crcRun := rfl
@[simp] theorem setGiu_mem (s : State) (v : Giu) : (s.setGiu v).mem = s.mem := rfl
@[simp] theorem setGiu_bus (s : State) (v : Giu) : (s.setGiu v).bus = s.bus := rfl
@[simp] theorem setGiu_wardens (s : State) (v : Giu) : (s.setGiu v).wardens = s.wardens := rfl
@[simp] theorem setGiu_links (s : State) (v : Giu) : (s.setGiu v).links = s.links := rfl
@[simp] theorem setGiu_ctxs (s : State) (v : Giu) : (s.setGiu v).ctxs = s.ctxs := rfl
@[simp] theorem setGiu_stages (s : State) (v : Giu) : (s.setGiu v).stages = s.stages := rfl
@[simp] theorem setGiu_lanes (s : State) (v : Giu) : (s.setGiu v).lanes = s.lanes := rfl
@[simp] theorem setGiu_basil (s : State) (v : Giu) : (s.setGiu v).basil = s.basil := rfl
@[simp] theorem setGiu_giu (s : State) (v : Giu) : (s.setGiu v).giu = v := rfl
@[simp] theorem setGiu_slewAcc (s : State) (v : Giu) : (s.setGiu v).slewAcc = s.slewAcc := rfl
@[simp] theorem setGiu_frames (s : State) (v : Giu) : (s.setGiu v).frames = s.frames := rfl
@[simp] theorem setGiu_tbgs (s : State) (v : Giu) : (s.setGiu v).tbgs = s.tbgs := rfl
@[simp] theorem setGiu_legs (s : State) (v : Giu) : (s.setGiu v).legs = s.legs := rfl
@[simp] theorem setGiu_mgs (s : State) (v : Giu) : (s.setGiu v).mgs = s.mgs := rfl
@[simp] theorem setGiu_trgs (s : State) (v : Giu) : (s.setGiu v).trgs = s.trgs := rfl
@[simp] theorem setGiu_ports (s : State) (v : Giu) : (s.setGiu v).ports = s.ports := rfl
@[simp] theorem setGiu_sats (s : State) (v : Giu) : (s.setGiu v).sats = s.sats := rfl
@[simp] theorem setGiu_sage (s : State) (v : Giu) : (s.setGiu v).sage = s.sage := rfl
@[simp] theorem setGiu_wdgs (s : State) (v : Giu) : (s.setGiu v).wdgs = s.wdgs := rfl
@[simp] theorem setGiu_tms (s : State) (v : Giu) : (s.setGiu v).tms = s.tms := rfl
@[simp] theorem setGiu_diss (s : State) (v : Giu) : (s.setGiu v).diss = s.diss := rfl
@[simp] theorem setGiu_livs (s : State) (v : Giu) : (s.setGiu v).livs = s.livs := rfl
@[simp] theorem setGiu_apcs (s : State) (v : Giu) : (s.setGiu v).apcs = s.apcs := rfl
@[simp] theorem setGiu_pair (s : State) (v : Giu) : (s.setGiu v).pair = s.pair := rfl
@[simp] theorem setGiu_msio (s : State) (v : Giu) : (s.setGiu v).msio = s.msio := rfl
@[simp] theorem setGiu_adcs (s : State) (v : Giu) : (s.setGiu v).adcs = s.adcs := rfl
@[simp] theorem setGiu_fbs (s : State) (v : Giu) : (s.setGiu v).fbs = s.fbs := rfl
@[simp] theorem setGiu_ress (s : State) (v : Giu) : (s.setGiu v).ress = s.ress := rfl
@[simp] theorem setGiu_emus (s : State) (v : Giu) : (s.setGiu v).emus = s.emus := rfl
@[simp] theorem setGiu_amu (s : State) (v : Giu) : (s.setGiu v).amu = s.amu := rfl
@[simp] theorem setGiu_cans (s : State) (v : Giu) : (s.setGiu v).cans = s.cans := rfl
@[simp] theorem setGiu_hpm (s : State) (v : Giu) : (s.setGiu v).hpm = s.hpm := rfl
@[simp] theorem setGiu_rosem (s : State) (v : Giu) : (s.setGiu v).rosem = s.rosem := rfl
@[simp] theorem setGiu_bist (s : State) (v : Giu) : (s.setGiu v).bist = s.bist := rfl
@[simp] theorem setGiu_pending (s : State) (v : Giu) : (s.setGiu v).pending = s.pending := rfl

@[simp] theorem setSlewAcc_now (s : State) (v : Int) : (s.setSlewAcc v).now = s.now := rfl
@[simp] theorem setSlewAcc_free (s : State) (v : Int) : (s.setSlewAcc v).free = s.free := rfl
@[simp] theorem setSlewAcc_regs (s : State) (v : Int) : (s.setSlewAcc v).regs = s.regs := rfl
@[simp] theorem setSlewAcc_bnd (s : State) (v : Int) : (s.setSlewAcc v).bnd = s.bnd := rfl
@[simp] theorem setSlewAcc_cmt (s : State) (v : Int) : (s.setSlewAcc v).cmt = s.cmt := rfl
@[simp] theorem setSlewAcc_tmr (s : State) (v : Int) : (s.setSlewAcc v).tmr = s.tmr := rfl
@[simp] theorem setSlewAcc_crcRun (s : State) (v : Int) : (s.setSlewAcc v).crcRun = s.crcRun := rfl
@[simp] theorem setSlewAcc_mem (s : State) (v : Int) : (s.setSlewAcc v).mem = s.mem := rfl
@[simp] theorem setSlewAcc_bus (s : State) (v : Int) : (s.setSlewAcc v).bus = s.bus := rfl
@[simp] theorem setSlewAcc_wardens (s : State) (v : Int) : (s.setSlewAcc v).wardens = s.wardens := rfl
@[simp] theorem setSlewAcc_links (s : State) (v : Int) : (s.setSlewAcc v).links = s.links := rfl
@[simp] theorem setSlewAcc_ctxs (s : State) (v : Int) : (s.setSlewAcc v).ctxs = s.ctxs := rfl
@[simp] theorem setSlewAcc_stages (s : State) (v : Int) : (s.setSlewAcc v).stages = s.stages := rfl
@[simp] theorem setSlewAcc_lanes (s : State) (v : Int) : (s.setSlewAcc v).lanes = s.lanes := rfl
@[simp] theorem setSlewAcc_basil (s : State) (v : Int) : (s.setSlewAcc v).basil = s.basil := rfl
@[simp] theorem setSlewAcc_giu (s : State) (v : Int) : (s.setSlewAcc v).giu = s.giu := rfl
@[simp] theorem setSlewAcc_slewAcc (s : State) (v : Int) : (s.setSlewAcc v).slewAcc = v := rfl
@[simp] theorem setSlewAcc_frames (s : State) (v : Int) : (s.setSlewAcc v).frames = s.frames := rfl
@[simp] theorem setSlewAcc_tbgs (s : State) (v : Int) : (s.setSlewAcc v).tbgs = s.tbgs := rfl
@[simp] theorem setSlewAcc_legs (s : State) (v : Int) : (s.setSlewAcc v).legs = s.legs := rfl
@[simp] theorem setSlewAcc_mgs (s : State) (v : Int) : (s.setSlewAcc v).mgs = s.mgs := rfl
@[simp] theorem setSlewAcc_trgs (s : State) (v : Int) : (s.setSlewAcc v).trgs = s.trgs := rfl
@[simp] theorem setSlewAcc_ports (s : State) (v : Int) : (s.setSlewAcc v).ports = s.ports := rfl
@[simp] theorem setSlewAcc_sats (s : State) (v : Int) : (s.setSlewAcc v).sats = s.sats := rfl
@[simp] theorem setSlewAcc_sage (s : State) (v : Int) : (s.setSlewAcc v).sage = s.sage := rfl
@[simp] theorem setSlewAcc_wdgs (s : State) (v : Int) : (s.setSlewAcc v).wdgs = s.wdgs := rfl
@[simp] theorem setSlewAcc_tms (s : State) (v : Int) : (s.setSlewAcc v).tms = s.tms := rfl
@[simp] theorem setSlewAcc_diss (s : State) (v : Int) : (s.setSlewAcc v).diss = s.diss := rfl
@[simp] theorem setSlewAcc_livs (s : State) (v : Int) : (s.setSlewAcc v).livs = s.livs := rfl
@[simp] theorem setSlewAcc_apcs (s : State) (v : Int) : (s.setSlewAcc v).apcs = s.apcs := rfl
@[simp] theorem setSlewAcc_pair (s : State) (v : Int) : (s.setSlewAcc v).pair = s.pair := rfl
@[simp] theorem setSlewAcc_msio (s : State) (v : Int) : (s.setSlewAcc v).msio = s.msio := rfl
@[simp] theorem setSlewAcc_adcs (s : State) (v : Int) : (s.setSlewAcc v).adcs = s.adcs := rfl
@[simp] theorem setSlewAcc_fbs (s : State) (v : Int) : (s.setSlewAcc v).fbs = s.fbs := rfl
@[simp] theorem setSlewAcc_ress (s : State) (v : Int) : (s.setSlewAcc v).ress = s.ress := rfl
@[simp] theorem setSlewAcc_emus (s : State) (v : Int) : (s.setSlewAcc v).emus = s.emus := rfl
@[simp] theorem setSlewAcc_amu (s : State) (v : Int) : (s.setSlewAcc v).amu = s.amu := rfl
@[simp] theorem setSlewAcc_cans (s : State) (v : Int) : (s.setSlewAcc v).cans = s.cans := rfl
@[simp] theorem setSlewAcc_hpm (s : State) (v : Int) : (s.setSlewAcc v).hpm = s.hpm := rfl
@[simp] theorem setSlewAcc_rosem (s : State) (v : Int) : (s.setSlewAcc v).rosem = s.rosem := rfl
@[simp] theorem setSlewAcc_bist (s : State) (v : Int) : (s.setSlewAcc v).bist = s.bist := rfl
@[simp] theorem setSlewAcc_pending (s : State) (v : Int) : (s.setSlewAcc v).pending = s.pending := rfl

@[simp] theorem setFrames_now (s : State) (v : Tab Nat) : (s.setFrames v).now = s.now := rfl
@[simp] theorem setFrames_free (s : State) (v : Tab Nat) : (s.setFrames v).free = s.free := rfl
@[simp] theorem setFrames_regs (s : State) (v : Tab Nat) : (s.setFrames v).regs = s.regs := rfl
@[simp] theorem setFrames_bnd (s : State) (v : Tab Nat) : (s.setFrames v).bnd = s.bnd := rfl
@[simp] theorem setFrames_cmt (s : State) (v : Tab Nat) : (s.setFrames v).cmt = s.cmt := rfl
@[simp] theorem setFrames_tmr (s : State) (v : Tab Nat) : (s.setFrames v).tmr = s.tmr := rfl
@[simp] theorem setFrames_crcRun (s : State) (v : Tab Nat) : (s.setFrames v).crcRun = s.crcRun := rfl
@[simp] theorem setFrames_mem (s : State) (v : Tab Nat) : (s.setFrames v).mem = s.mem := rfl
@[simp] theorem setFrames_bus (s : State) (v : Tab Nat) : (s.setFrames v).bus = s.bus := rfl
@[simp] theorem setFrames_wardens (s : State) (v : Tab Nat) : (s.setFrames v).wardens = s.wardens := rfl
@[simp] theorem setFrames_links (s : State) (v : Tab Nat) : (s.setFrames v).links = s.links := rfl
@[simp] theorem setFrames_ctxs (s : State) (v : Tab Nat) : (s.setFrames v).ctxs = s.ctxs := rfl
@[simp] theorem setFrames_stages (s : State) (v : Tab Nat) : (s.setFrames v).stages = s.stages := rfl
@[simp] theorem setFrames_lanes (s : State) (v : Tab Nat) : (s.setFrames v).lanes = s.lanes := rfl
@[simp] theorem setFrames_basil (s : State) (v : Tab Nat) : (s.setFrames v).basil = s.basil := rfl
@[simp] theorem setFrames_giu (s : State) (v : Tab Nat) : (s.setFrames v).giu = s.giu := rfl
@[simp] theorem setFrames_slewAcc (s : State) (v : Tab Nat) : (s.setFrames v).slewAcc = s.slewAcc := rfl
@[simp] theorem setFrames_frames (s : State) (v : Tab Nat) : (s.setFrames v).frames = v := rfl
@[simp] theorem setFrames_tbgs (s : State) (v : Tab Nat) : (s.setFrames v).tbgs = s.tbgs := rfl
@[simp] theorem setFrames_legs (s : State) (v : Tab Nat) : (s.setFrames v).legs = s.legs := rfl
@[simp] theorem setFrames_mgs (s : State) (v : Tab Nat) : (s.setFrames v).mgs = s.mgs := rfl
@[simp] theorem setFrames_trgs (s : State) (v : Tab Nat) : (s.setFrames v).trgs = s.trgs := rfl
@[simp] theorem setFrames_ports (s : State) (v : Tab Nat) : (s.setFrames v).ports = s.ports := rfl
@[simp] theorem setFrames_sats (s : State) (v : Tab Nat) : (s.setFrames v).sats = s.sats := rfl
@[simp] theorem setFrames_sage (s : State) (v : Tab Nat) : (s.setFrames v).sage = s.sage := rfl
@[simp] theorem setFrames_wdgs (s : State) (v : Tab Nat) : (s.setFrames v).wdgs = s.wdgs := rfl
@[simp] theorem setFrames_tms (s : State) (v : Tab Nat) : (s.setFrames v).tms = s.tms := rfl
@[simp] theorem setFrames_diss (s : State) (v : Tab Nat) : (s.setFrames v).diss = s.diss := rfl
@[simp] theorem setFrames_livs (s : State) (v : Tab Nat) : (s.setFrames v).livs = s.livs := rfl
@[simp] theorem setFrames_apcs (s : State) (v : Tab Nat) : (s.setFrames v).apcs = s.apcs := rfl
@[simp] theorem setFrames_pair (s : State) (v : Tab Nat) : (s.setFrames v).pair = s.pair := rfl
@[simp] theorem setFrames_msio (s : State) (v : Tab Nat) : (s.setFrames v).msio = s.msio := rfl
@[simp] theorem setFrames_adcs (s : State) (v : Tab Nat) : (s.setFrames v).adcs = s.adcs := rfl
@[simp] theorem setFrames_fbs (s : State) (v : Tab Nat) : (s.setFrames v).fbs = s.fbs := rfl
@[simp] theorem setFrames_ress (s : State) (v : Tab Nat) : (s.setFrames v).ress = s.ress := rfl
@[simp] theorem setFrames_emus (s : State) (v : Tab Nat) : (s.setFrames v).emus = s.emus := rfl
@[simp] theorem setFrames_amu (s : State) (v : Tab Nat) : (s.setFrames v).amu = s.amu := rfl
@[simp] theorem setFrames_cans (s : State) (v : Tab Nat) : (s.setFrames v).cans = s.cans := rfl
@[simp] theorem setFrames_hpm (s : State) (v : Tab Nat) : (s.setFrames v).hpm = s.hpm := rfl
@[simp] theorem setFrames_rosem (s : State) (v : Tab Nat) : (s.setFrames v).rosem = s.rosem := rfl
@[simp] theorem setFrames_bist (s : State) (v : Tab Nat) : (s.setFrames v).bist = s.bist := rfl
@[simp] theorem setFrames_pending (s : State) (v : Tab Nat) : (s.setFrames v).pending = s.pending := rfl

@[simp] theorem setTbgs_now (s : State) (v : Tab Tbg) : (s.setTbgs v).now = s.now := rfl
@[simp] theorem setTbgs_free (s : State) (v : Tab Tbg) : (s.setTbgs v).free = s.free := rfl
@[simp] theorem setTbgs_regs (s : State) (v : Tab Tbg) : (s.setTbgs v).regs = s.regs := rfl
@[simp] theorem setTbgs_bnd (s : State) (v : Tab Tbg) : (s.setTbgs v).bnd = s.bnd := rfl
@[simp] theorem setTbgs_cmt (s : State) (v : Tab Tbg) : (s.setTbgs v).cmt = s.cmt := rfl
@[simp] theorem setTbgs_tmr (s : State) (v : Tab Tbg) : (s.setTbgs v).tmr = s.tmr := rfl
@[simp] theorem setTbgs_crcRun (s : State) (v : Tab Tbg) : (s.setTbgs v).crcRun = s.crcRun := rfl
@[simp] theorem setTbgs_mem (s : State) (v : Tab Tbg) : (s.setTbgs v).mem = s.mem := rfl
@[simp] theorem setTbgs_bus (s : State) (v : Tab Tbg) : (s.setTbgs v).bus = s.bus := rfl
@[simp] theorem setTbgs_wardens (s : State) (v : Tab Tbg) : (s.setTbgs v).wardens = s.wardens := rfl
@[simp] theorem setTbgs_links (s : State) (v : Tab Tbg) : (s.setTbgs v).links = s.links := rfl
@[simp] theorem setTbgs_ctxs (s : State) (v : Tab Tbg) : (s.setTbgs v).ctxs = s.ctxs := rfl
@[simp] theorem setTbgs_stages (s : State) (v : Tab Tbg) : (s.setTbgs v).stages = s.stages := rfl
@[simp] theorem setTbgs_lanes (s : State) (v : Tab Tbg) : (s.setTbgs v).lanes = s.lanes := rfl
@[simp] theorem setTbgs_basil (s : State) (v : Tab Tbg) : (s.setTbgs v).basil = s.basil := rfl
@[simp] theorem setTbgs_giu (s : State) (v : Tab Tbg) : (s.setTbgs v).giu = s.giu := rfl
@[simp] theorem setTbgs_slewAcc (s : State) (v : Tab Tbg) : (s.setTbgs v).slewAcc = s.slewAcc := rfl
@[simp] theorem setTbgs_frames (s : State) (v : Tab Tbg) : (s.setTbgs v).frames = s.frames := rfl
@[simp] theorem setTbgs_tbgs (s : State) (v : Tab Tbg) : (s.setTbgs v).tbgs = v := rfl
@[simp] theorem setTbgs_legs (s : State) (v : Tab Tbg) : (s.setTbgs v).legs = s.legs := rfl
@[simp] theorem setTbgs_mgs (s : State) (v : Tab Tbg) : (s.setTbgs v).mgs = s.mgs := rfl
@[simp] theorem setTbgs_trgs (s : State) (v : Tab Tbg) : (s.setTbgs v).trgs = s.trgs := rfl
@[simp] theorem setTbgs_ports (s : State) (v : Tab Tbg) : (s.setTbgs v).ports = s.ports := rfl
@[simp] theorem setTbgs_sats (s : State) (v : Tab Tbg) : (s.setTbgs v).sats = s.sats := rfl
@[simp] theorem setTbgs_sage (s : State) (v : Tab Tbg) : (s.setTbgs v).sage = s.sage := rfl
@[simp] theorem setTbgs_wdgs (s : State) (v : Tab Tbg) : (s.setTbgs v).wdgs = s.wdgs := rfl
@[simp] theorem setTbgs_tms (s : State) (v : Tab Tbg) : (s.setTbgs v).tms = s.tms := rfl
@[simp] theorem setTbgs_diss (s : State) (v : Tab Tbg) : (s.setTbgs v).diss = s.diss := rfl
@[simp] theorem setTbgs_livs (s : State) (v : Tab Tbg) : (s.setTbgs v).livs = s.livs := rfl
@[simp] theorem setTbgs_apcs (s : State) (v : Tab Tbg) : (s.setTbgs v).apcs = s.apcs := rfl
@[simp] theorem setTbgs_pair (s : State) (v : Tab Tbg) : (s.setTbgs v).pair = s.pair := rfl
@[simp] theorem setTbgs_msio (s : State) (v : Tab Tbg) : (s.setTbgs v).msio = s.msio := rfl
@[simp] theorem setTbgs_adcs (s : State) (v : Tab Tbg) : (s.setTbgs v).adcs = s.adcs := rfl
@[simp] theorem setTbgs_fbs (s : State) (v : Tab Tbg) : (s.setTbgs v).fbs = s.fbs := rfl
@[simp] theorem setTbgs_ress (s : State) (v : Tab Tbg) : (s.setTbgs v).ress = s.ress := rfl
@[simp] theorem setTbgs_emus (s : State) (v : Tab Tbg) : (s.setTbgs v).emus = s.emus := rfl
@[simp] theorem setTbgs_amu (s : State) (v : Tab Tbg) : (s.setTbgs v).amu = s.amu := rfl
@[simp] theorem setTbgs_cans (s : State) (v : Tab Tbg) : (s.setTbgs v).cans = s.cans := rfl
@[simp] theorem setTbgs_hpm (s : State) (v : Tab Tbg) : (s.setTbgs v).hpm = s.hpm := rfl
@[simp] theorem setTbgs_rosem (s : State) (v : Tab Tbg) : (s.setTbgs v).rosem = s.rosem := rfl
@[simp] theorem setTbgs_bist (s : State) (v : Tab Tbg) : (s.setTbgs v).bist = s.bist := rfl
@[simp] theorem setTbgs_pending (s : State) (v : Tab Tbg) : (s.setTbgs v).pending = s.pending := rfl

@[simp] theorem setLegs_now (s : State) (v : Tab Leg) : (s.setLegs v).now = s.now := rfl
@[simp] theorem setLegs_free (s : State) (v : Tab Leg) : (s.setLegs v).free = s.free := rfl
@[simp] theorem setLegs_regs (s : State) (v : Tab Leg) : (s.setLegs v).regs = s.regs := rfl
@[simp] theorem setLegs_bnd (s : State) (v : Tab Leg) : (s.setLegs v).bnd = s.bnd := rfl
@[simp] theorem setLegs_cmt (s : State) (v : Tab Leg) : (s.setLegs v).cmt = s.cmt := rfl
@[simp] theorem setLegs_tmr (s : State) (v : Tab Leg) : (s.setLegs v).tmr = s.tmr := rfl
@[simp] theorem setLegs_crcRun (s : State) (v : Tab Leg) : (s.setLegs v).crcRun = s.crcRun := rfl
@[simp] theorem setLegs_mem (s : State) (v : Tab Leg) : (s.setLegs v).mem = s.mem := rfl
@[simp] theorem setLegs_bus (s : State) (v : Tab Leg) : (s.setLegs v).bus = s.bus := rfl
@[simp] theorem setLegs_wardens (s : State) (v : Tab Leg) : (s.setLegs v).wardens = s.wardens := rfl
@[simp] theorem setLegs_links (s : State) (v : Tab Leg) : (s.setLegs v).links = s.links := rfl
@[simp] theorem setLegs_ctxs (s : State) (v : Tab Leg) : (s.setLegs v).ctxs = s.ctxs := rfl
@[simp] theorem setLegs_stages (s : State) (v : Tab Leg) : (s.setLegs v).stages = s.stages := rfl
@[simp] theorem setLegs_lanes (s : State) (v : Tab Leg) : (s.setLegs v).lanes = s.lanes := rfl
@[simp] theorem setLegs_basil (s : State) (v : Tab Leg) : (s.setLegs v).basil = s.basil := rfl
@[simp] theorem setLegs_giu (s : State) (v : Tab Leg) : (s.setLegs v).giu = s.giu := rfl
@[simp] theorem setLegs_slewAcc (s : State) (v : Tab Leg) : (s.setLegs v).slewAcc = s.slewAcc := rfl
@[simp] theorem setLegs_frames (s : State) (v : Tab Leg) : (s.setLegs v).frames = s.frames := rfl
@[simp] theorem setLegs_tbgs (s : State) (v : Tab Leg) : (s.setLegs v).tbgs = s.tbgs := rfl
@[simp] theorem setLegs_legs (s : State) (v : Tab Leg) : (s.setLegs v).legs = v := rfl
@[simp] theorem setLegs_mgs (s : State) (v : Tab Leg) : (s.setLegs v).mgs = s.mgs := rfl
@[simp] theorem setLegs_trgs (s : State) (v : Tab Leg) : (s.setLegs v).trgs = s.trgs := rfl
@[simp] theorem setLegs_ports (s : State) (v : Tab Leg) : (s.setLegs v).ports = s.ports := rfl
@[simp] theorem setLegs_sats (s : State) (v : Tab Leg) : (s.setLegs v).sats = s.sats := rfl
@[simp] theorem setLegs_sage (s : State) (v : Tab Leg) : (s.setLegs v).sage = s.sage := rfl
@[simp] theorem setLegs_wdgs (s : State) (v : Tab Leg) : (s.setLegs v).wdgs = s.wdgs := rfl
@[simp] theorem setLegs_tms (s : State) (v : Tab Leg) : (s.setLegs v).tms = s.tms := rfl
@[simp] theorem setLegs_diss (s : State) (v : Tab Leg) : (s.setLegs v).diss = s.diss := rfl
@[simp] theorem setLegs_livs (s : State) (v : Tab Leg) : (s.setLegs v).livs = s.livs := rfl
@[simp] theorem setLegs_apcs (s : State) (v : Tab Leg) : (s.setLegs v).apcs = s.apcs := rfl
@[simp] theorem setLegs_pair (s : State) (v : Tab Leg) : (s.setLegs v).pair = s.pair := rfl
@[simp] theorem setLegs_msio (s : State) (v : Tab Leg) : (s.setLegs v).msio = s.msio := rfl
@[simp] theorem setLegs_adcs (s : State) (v : Tab Leg) : (s.setLegs v).adcs = s.adcs := rfl
@[simp] theorem setLegs_fbs (s : State) (v : Tab Leg) : (s.setLegs v).fbs = s.fbs := rfl
@[simp] theorem setLegs_ress (s : State) (v : Tab Leg) : (s.setLegs v).ress = s.ress := rfl
@[simp] theorem setLegs_emus (s : State) (v : Tab Leg) : (s.setLegs v).emus = s.emus := rfl
@[simp] theorem setLegs_amu (s : State) (v : Tab Leg) : (s.setLegs v).amu = s.amu := rfl
@[simp] theorem setLegs_cans (s : State) (v : Tab Leg) : (s.setLegs v).cans = s.cans := rfl
@[simp] theorem setLegs_hpm (s : State) (v : Tab Leg) : (s.setLegs v).hpm = s.hpm := rfl
@[simp] theorem setLegs_rosem (s : State) (v : Tab Leg) : (s.setLegs v).rosem = s.rosem := rfl
@[simp] theorem setLegs_bist (s : State) (v : Tab Leg) : (s.setLegs v).bist = s.bist := rfl
@[simp] theorem setLegs_pending (s : State) (v : Tab Leg) : (s.setLegs v).pending = s.pending := rfl

@[simp] theorem setMgs_now (s : State) (v : Tab Mg) : (s.setMgs v).now = s.now := rfl
@[simp] theorem setMgs_free (s : State) (v : Tab Mg) : (s.setMgs v).free = s.free := rfl
@[simp] theorem setMgs_regs (s : State) (v : Tab Mg) : (s.setMgs v).regs = s.regs := rfl
@[simp] theorem setMgs_bnd (s : State) (v : Tab Mg) : (s.setMgs v).bnd = s.bnd := rfl
@[simp] theorem setMgs_cmt (s : State) (v : Tab Mg) : (s.setMgs v).cmt = s.cmt := rfl
@[simp] theorem setMgs_tmr (s : State) (v : Tab Mg) : (s.setMgs v).tmr = s.tmr := rfl
@[simp] theorem setMgs_crcRun (s : State) (v : Tab Mg) : (s.setMgs v).crcRun = s.crcRun := rfl
@[simp] theorem setMgs_mem (s : State) (v : Tab Mg) : (s.setMgs v).mem = s.mem := rfl
@[simp] theorem setMgs_bus (s : State) (v : Tab Mg) : (s.setMgs v).bus = s.bus := rfl
@[simp] theorem setMgs_wardens (s : State) (v : Tab Mg) : (s.setMgs v).wardens = s.wardens := rfl
@[simp] theorem setMgs_links (s : State) (v : Tab Mg) : (s.setMgs v).links = s.links := rfl
@[simp] theorem setMgs_ctxs (s : State) (v : Tab Mg) : (s.setMgs v).ctxs = s.ctxs := rfl
@[simp] theorem setMgs_stages (s : State) (v : Tab Mg) : (s.setMgs v).stages = s.stages := rfl
@[simp] theorem setMgs_lanes (s : State) (v : Tab Mg) : (s.setMgs v).lanes = s.lanes := rfl
@[simp] theorem setMgs_basil (s : State) (v : Tab Mg) : (s.setMgs v).basil = s.basil := rfl
@[simp] theorem setMgs_giu (s : State) (v : Tab Mg) : (s.setMgs v).giu = s.giu := rfl
@[simp] theorem setMgs_slewAcc (s : State) (v : Tab Mg) : (s.setMgs v).slewAcc = s.slewAcc := rfl
@[simp] theorem setMgs_frames (s : State) (v : Tab Mg) : (s.setMgs v).frames = s.frames := rfl
@[simp] theorem setMgs_tbgs (s : State) (v : Tab Mg) : (s.setMgs v).tbgs = s.tbgs := rfl
@[simp] theorem setMgs_legs (s : State) (v : Tab Mg) : (s.setMgs v).legs = s.legs := rfl
@[simp] theorem setMgs_mgs (s : State) (v : Tab Mg) : (s.setMgs v).mgs = v := rfl
@[simp] theorem setMgs_trgs (s : State) (v : Tab Mg) : (s.setMgs v).trgs = s.trgs := rfl
@[simp] theorem setMgs_ports (s : State) (v : Tab Mg) : (s.setMgs v).ports = s.ports := rfl
@[simp] theorem setMgs_sats (s : State) (v : Tab Mg) : (s.setMgs v).sats = s.sats := rfl
@[simp] theorem setMgs_sage (s : State) (v : Tab Mg) : (s.setMgs v).sage = s.sage := rfl
@[simp] theorem setMgs_wdgs (s : State) (v : Tab Mg) : (s.setMgs v).wdgs = s.wdgs := rfl
@[simp] theorem setMgs_tms (s : State) (v : Tab Mg) : (s.setMgs v).tms = s.tms := rfl
@[simp] theorem setMgs_diss (s : State) (v : Tab Mg) : (s.setMgs v).diss = s.diss := rfl
@[simp] theorem setMgs_livs (s : State) (v : Tab Mg) : (s.setMgs v).livs = s.livs := rfl
@[simp] theorem setMgs_apcs (s : State) (v : Tab Mg) : (s.setMgs v).apcs = s.apcs := rfl
@[simp] theorem setMgs_pair (s : State) (v : Tab Mg) : (s.setMgs v).pair = s.pair := rfl
@[simp] theorem setMgs_msio (s : State) (v : Tab Mg) : (s.setMgs v).msio = s.msio := rfl
@[simp] theorem setMgs_adcs (s : State) (v : Tab Mg) : (s.setMgs v).adcs = s.adcs := rfl
@[simp] theorem setMgs_fbs (s : State) (v : Tab Mg) : (s.setMgs v).fbs = s.fbs := rfl
@[simp] theorem setMgs_ress (s : State) (v : Tab Mg) : (s.setMgs v).ress = s.ress := rfl
@[simp] theorem setMgs_emus (s : State) (v : Tab Mg) : (s.setMgs v).emus = s.emus := rfl
@[simp] theorem setMgs_amu (s : State) (v : Tab Mg) : (s.setMgs v).amu = s.amu := rfl
@[simp] theorem setMgs_cans (s : State) (v : Tab Mg) : (s.setMgs v).cans = s.cans := rfl
@[simp] theorem setMgs_hpm (s : State) (v : Tab Mg) : (s.setMgs v).hpm = s.hpm := rfl
@[simp] theorem setMgs_rosem (s : State) (v : Tab Mg) : (s.setMgs v).rosem = s.rosem := rfl
@[simp] theorem setMgs_bist (s : State) (v : Tab Mg) : (s.setMgs v).bist = s.bist := rfl
@[simp] theorem setMgs_pending (s : State) (v : Tab Mg) : (s.setMgs v).pending = s.pending := rfl

@[simp] theorem setTrgs_now (s : State) (v : List TrgPt) : (s.setTrgs v).now = s.now := rfl
@[simp] theorem setTrgs_free (s : State) (v : List TrgPt) : (s.setTrgs v).free = s.free := rfl
@[simp] theorem setTrgs_regs (s : State) (v : List TrgPt) : (s.setTrgs v).regs = s.regs := rfl
@[simp] theorem setTrgs_bnd (s : State) (v : List TrgPt) : (s.setTrgs v).bnd = s.bnd := rfl
@[simp] theorem setTrgs_cmt (s : State) (v : List TrgPt) : (s.setTrgs v).cmt = s.cmt := rfl
@[simp] theorem setTrgs_tmr (s : State) (v : List TrgPt) : (s.setTrgs v).tmr = s.tmr := rfl
@[simp] theorem setTrgs_crcRun (s : State) (v : List TrgPt) : (s.setTrgs v).crcRun = s.crcRun := rfl
@[simp] theorem setTrgs_mem (s : State) (v : List TrgPt) : (s.setTrgs v).mem = s.mem := rfl
@[simp] theorem setTrgs_bus (s : State) (v : List TrgPt) : (s.setTrgs v).bus = s.bus := rfl
@[simp] theorem setTrgs_wardens (s : State) (v : List TrgPt) : (s.setTrgs v).wardens = s.wardens := rfl
@[simp] theorem setTrgs_links (s : State) (v : List TrgPt) : (s.setTrgs v).links = s.links := rfl
@[simp] theorem setTrgs_ctxs (s : State) (v : List TrgPt) : (s.setTrgs v).ctxs = s.ctxs := rfl
@[simp] theorem setTrgs_stages (s : State) (v : List TrgPt) : (s.setTrgs v).stages = s.stages := rfl
@[simp] theorem setTrgs_lanes (s : State) (v : List TrgPt) : (s.setTrgs v).lanes = s.lanes := rfl
@[simp] theorem setTrgs_basil (s : State) (v : List TrgPt) : (s.setTrgs v).basil = s.basil := rfl
@[simp] theorem setTrgs_giu (s : State) (v : List TrgPt) : (s.setTrgs v).giu = s.giu := rfl
@[simp] theorem setTrgs_slewAcc (s : State) (v : List TrgPt) : (s.setTrgs v).slewAcc = s.slewAcc := rfl
@[simp] theorem setTrgs_frames (s : State) (v : List TrgPt) : (s.setTrgs v).frames = s.frames := rfl
@[simp] theorem setTrgs_tbgs (s : State) (v : List TrgPt) : (s.setTrgs v).tbgs = s.tbgs := rfl
@[simp] theorem setTrgs_legs (s : State) (v : List TrgPt) : (s.setTrgs v).legs = s.legs := rfl
@[simp] theorem setTrgs_mgs (s : State) (v : List TrgPt) : (s.setTrgs v).mgs = s.mgs := rfl
@[simp] theorem setTrgs_trgs (s : State) (v : List TrgPt) : (s.setTrgs v).trgs = v := rfl
@[simp] theorem setTrgs_ports (s : State) (v : List TrgPt) : (s.setTrgs v).ports = s.ports := rfl
@[simp] theorem setTrgs_sats (s : State) (v : List TrgPt) : (s.setTrgs v).sats = s.sats := rfl
@[simp] theorem setTrgs_sage (s : State) (v : List TrgPt) : (s.setTrgs v).sage = s.sage := rfl
@[simp] theorem setTrgs_wdgs (s : State) (v : List TrgPt) : (s.setTrgs v).wdgs = s.wdgs := rfl
@[simp] theorem setTrgs_tms (s : State) (v : List TrgPt) : (s.setTrgs v).tms = s.tms := rfl
@[simp] theorem setTrgs_diss (s : State) (v : List TrgPt) : (s.setTrgs v).diss = s.diss := rfl
@[simp] theorem setTrgs_livs (s : State) (v : List TrgPt) : (s.setTrgs v).livs = s.livs := rfl
@[simp] theorem setTrgs_apcs (s : State) (v : List TrgPt) : (s.setTrgs v).apcs = s.apcs := rfl
@[simp] theorem setTrgs_pair (s : State) (v : List TrgPt) : (s.setTrgs v).pair = s.pair := rfl
@[simp] theorem setTrgs_msio (s : State) (v : List TrgPt) : (s.setTrgs v).msio = s.msio := rfl
@[simp] theorem setTrgs_adcs (s : State) (v : List TrgPt) : (s.setTrgs v).adcs = s.adcs := rfl
@[simp] theorem setTrgs_fbs (s : State) (v : List TrgPt) : (s.setTrgs v).fbs = s.fbs := rfl
@[simp] theorem setTrgs_ress (s : State) (v : List TrgPt) : (s.setTrgs v).ress = s.ress := rfl
@[simp] theorem setTrgs_emus (s : State) (v : List TrgPt) : (s.setTrgs v).emus = s.emus := rfl
@[simp] theorem setTrgs_amu (s : State) (v : List TrgPt) : (s.setTrgs v).amu = s.amu := rfl
@[simp] theorem setTrgs_cans (s : State) (v : List TrgPt) : (s.setTrgs v).cans = s.cans := rfl
@[simp] theorem setTrgs_hpm (s : State) (v : List TrgPt) : (s.setTrgs v).hpm = s.hpm := rfl
@[simp] theorem setTrgs_rosem (s : State) (v : List TrgPt) : (s.setTrgs v).rosem = s.rosem := rfl
@[simp] theorem setTrgs_bist (s : State) (v : List TrgPt) : (s.setTrgs v).bist = s.bist := rfl
@[simp] theorem setTrgs_pending (s : State) (v : List TrgPt) : (s.setTrgs v).pending = s.pending := rfl

@[simp] theorem setPorts_now (s : State) (v : Tab Port) : (s.setPorts v).now = s.now := rfl
@[simp] theorem setPorts_free (s : State) (v : Tab Port) : (s.setPorts v).free = s.free := rfl
@[simp] theorem setPorts_regs (s : State) (v : Tab Port) : (s.setPorts v).regs = s.regs := rfl
@[simp] theorem setPorts_bnd (s : State) (v : Tab Port) : (s.setPorts v).bnd = s.bnd := rfl
@[simp] theorem setPorts_cmt (s : State) (v : Tab Port) : (s.setPorts v).cmt = s.cmt := rfl
@[simp] theorem setPorts_tmr (s : State) (v : Tab Port) : (s.setPorts v).tmr = s.tmr := rfl
@[simp] theorem setPorts_crcRun (s : State) (v : Tab Port) : (s.setPorts v).crcRun = s.crcRun := rfl
@[simp] theorem setPorts_mem (s : State) (v : Tab Port) : (s.setPorts v).mem = s.mem := rfl
@[simp] theorem setPorts_bus (s : State) (v : Tab Port) : (s.setPorts v).bus = s.bus := rfl
@[simp] theorem setPorts_wardens (s : State) (v : Tab Port) : (s.setPorts v).wardens = s.wardens := rfl
@[simp] theorem setPorts_links (s : State) (v : Tab Port) : (s.setPorts v).links = s.links := rfl
@[simp] theorem setPorts_ctxs (s : State) (v : Tab Port) : (s.setPorts v).ctxs = s.ctxs := rfl
@[simp] theorem setPorts_stages (s : State) (v : Tab Port) : (s.setPorts v).stages = s.stages := rfl
@[simp] theorem setPorts_lanes (s : State) (v : Tab Port) : (s.setPorts v).lanes = s.lanes := rfl
@[simp] theorem setPorts_basil (s : State) (v : Tab Port) : (s.setPorts v).basil = s.basil := rfl
@[simp] theorem setPorts_giu (s : State) (v : Tab Port) : (s.setPorts v).giu = s.giu := rfl
@[simp] theorem setPorts_slewAcc (s : State) (v : Tab Port) : (s.setPorts v).slewAcc = s.slewAcc := rfl
@[simp] theorem setPorts_frames (s : State) (v : Tab Port) : (s.setPorts v).frames = s.frames := rfl
@[simp] theorem setPorts_tbgs (s : State) (v : Tab Port) : (s.setPorts v).tbgs = s.tbgs := rfl
@[simp] theorem setPorts_legs (s : State) (v : Tab Port) : (s.setPorts v).legs = s.legs := rfl
@[simp] theorem setPorts_mgs (s : State) (v : Tab Port) : (s.setPorts v).mgs = s.mgs := rfl
@[simp] theorem setPorts_trgs (s : State) (v : Tab Port) : (s.setPorts v).trgs = s.trgs := rfl
@[simp] theorem setPorts_ports (s : State) (v : Tab Port) : (s.setPorts v).ports = v := rfl
@[simp] theorem setPorts_sats (s : State) (v : Tab Port) : (s.setPorts v).sats = s.sats := rfl
@[simp] theorem setPorts_sage (s : State) (v : Tab Port) : (s.setPorts v).sage = s.sage := rfl
@[simp] theorem setPorts_wdgs (s : State) (v : Tab Port) : (s.setPorts v).wdgs = s.wdgs := rfl
@[simp] theorem setPorts_tms (s : State) (v : Tab Port) : (s.setPorts v).tms = s.tms := rfl
@[simp] theorem setPorts_diss (s : State) (v : Tab Port) : (s.setPorts v).diss = s.diss := rfl
@[simp] theorem setPorts_livs (s : State) (v : Tab Port) : (s.setPorts v).livs = s.livs := rfl
@[simp] theorem setPorts_apcs (s : State) (v : Tab Port) : (s.setPorts v).apcs = s.apcs := rfl
@[simp] theorem setPorts_pair (s : State) (v : Tab Port) : (s.setPorts v).pair = s.pair := rfl
@[simp] theorem setPorts_msio (s : State) (v : Tab Port) : (s.setPorts v).msio = s.msio := rfl
@[simp] theorem setPorts_adcs (s : State) (v : Tab Port) : (s.setPorts v).adcs = s.adcs := rfl
@[simp] theorem setPorts_fbs (s : State) (v : Tab Port) : (s.setPorts v).fbs = s.fbs := rfl
@[simp] theorem setPorts_ress (s : State) (v : Tab Port) : (s.setPorts v).ress = s.ress := rfl
@[simp] theorem setPorts_emus (s : State) (v : Tab Port) : (s.setPorts v).emus = s.emus := rfl
@[simp] theorem setPorts_amu (s : State) (v : Tab Port) : (s.setPorts v).amu = s.amu := rfl
@[simp] theorem setPorts_cans (s : State) (v : Tab Port) : (s.setPorts v).cans = s.cans := rfl
@[simp] theorem setPorts_hpm (s : State) (v : Tab Port) : (s.setPorts v).hpm = s.hpm := rfl
@[simp] theorem setPorts_rosem (s : State) (v : Tab Port) : (s.setPorts v).rosem = s.rosem := rfl
@[simp] theorem setPorts_bist (s : State) (v : Tab Port) : (s.setPorts v).bist = s.bist := rfl
@[simp] theorem setPorts_pending (s : State) (v : Tab Port) : (s.setPorts v).pending = s.pending := rfl

@[simp] theorem setSats_now (s : State) (v : Tab Sat) : (s.setSats v).now = s.now := rfl
@[simp] theorem setSats_free (s : State) (v : Tab Sat) : (s.setSats v).free = s.free := rfl
@[simp] theorem setSats_regs (s : State) (v : Tab Sat) : (s.setSats v).regs = s.regs := rfl
@[simp] theorem setSats_bnd (s : State) (v : Tab Sat) : (s.setSats v).bnd = s.bnd := rfl
@[simp] theorem setSats_cmt (s : State) (v : Tab Sat) : (s.setSats v).cmt = s.cmt := rfl
@[simp] theorem setSats_tmr (s : State) (v : Tab Sat) : (s.setSats v).tmr = s.tmr := rfl
@[simp] theorem setSats_crcRun (s : State) (v : Tab Sat) : (s.setSats v).crcRun = s.crcRun := rfl
@[simp] theorem setSats_mem (s : State) (v : Tab Sat) : (s.setSats v).mem = s.mem := rfl
@[simp] theorem setSats_bus (s : State) (v : Tab Sat) : (s.setSats v).bus = s.bus := rfl
@[simp] theorem setSats_wardens (s : State) (v : Tab Sat) : (s.setSats v).wardens = s.wardens := rfl
@[simp] theorem setSats_links (s : State) (v : Tab Sat) : (s.setSats v).links = s.links := rfl
@[simp] theorem setSats_ctxs (s : State) (v : Tab Sat) : (s.setSats v).ctxs = s.ctxs := rfl
@[simp] theorem setSats_stages (s : State) (v : Tab Sat) : (s.setSats v).stages = s.stages := rfl
@[simp] theorem setSats_lanes (s : State) (v : Tab Sat) : (s.setSats v).lanes = s.lanes := rfl
@[simp] theorem setSats_basil (s : State) (v : Tab Sat) : (s.setSats v).basil = s.basil := rfl
@[simp] theorem setSats_giu (s : State) (v : Tab Sat) : (s.setSats v).giu = s.giu := rfl
@[simp] theorem setSats_slewAcc (s : State) (v : Tab Sat) : (s.setSats v).slewAcc = s.slewAcc := rfl
@[simp] theorem setSats_frames (s : State) (v : Tab Sat) : (s.setSats v).frames = s.frames := rfl
@[simp] theorem setSats_tbgs (s : State) (v : Tab Sat) : (s.setSats v).tbgs = s.tbgs := rfl
@[simp] theorem setSats_legs (s : State) (v : Tab Sat) : (s.setSats v).legs = s.legs := rfl
@[simp] theorem setSats_mgs (s : State) (v : Tab Sat) : (s.setSats v).mgs = s.mgs := rfl
@[simp] theorem setSats_trgs (s : State) (v : Tab Sat) : (s.setSats v).trgs = s.trgs := rfl
@[simp] theorem setSats_ports (s : State) (v : Tab Sat) : (s.setSats v).ports = s.ports := rfl
@[simp] theorem setSats_sats (s : State) (v : Tab Sat) : (s.setSats v).sats = v := rfl
@[simp] theorem setSats_sage (s : State) (v : Tab Sat) : (s.setSats v).sage = s.sage := rfl
@[simp] theorem setSats_wdgs (s : State) (v : Tab Sat) : (s.setSats v).wdgs = s.wdgs := rfl
@[simp] theorem setSats_tms (s : State) (v : Tab Sat) : (s.setSats v).tms = s.tms := rfl
@[simp] theorem setSats_diss (s : State) (v : Tab Sat) : (s.setSats v).diss = s.diss := rfl
@[simp] theorem setSats_livs (s : State) (v : Tab Sat) : (s.setSats v).livs = s.livs := rfl
@[simp] theorem setSats_apcs (s : State) (v : Tab Sat) : (s.setSats v).apcs = s.apcs := rfl
@[simp] theorem setSats_pair (s : State) (v : Tab Sat) : (s.setSats v).pair = s.pair := rfl
@[simp] theorem setSats_msio (s : State) (v : Tab Sat) : (s.setSats v).msio = s.msio := rfl
@[simp] theorem setSats_adcs (s : State) (v : Tab Sat) : (s.setSats v).adcs = s.adcs := rfl
@[simp] theorem setSats_fbs (s : State) (v : Tab Sat) : (s.setSats v).fbs = s.fbs := rfl
@[simp] theorem setSats_ress (s : State) (v : Tab Sat) : (s.setSats v).ress = s.ress := rfl
@[simp] theorem setSats_emus (s : State) (v : Tab Sat) : (s.setSats v).emus = s.emus := rfl
@[simp] theorem setSats_amu (s : State) (v : Tab Sat) : (s.setSats v).amu = s.amu := rfl
@[simp] theorem setSats_cans (s : State) (v : Tab Sat) : (s.setSats v).cans = s.cans := rfl
@[simp] theorem setSats_hpm (s : State) (v : Tab Sat) : (s.setSats v).hpm = s.hpm := rfl
@[simp] theorem setSats_rosem (s : State) (v : Tab Sat) : (s.setSats v).rosem = s.rosem := rfl
@[simp] theorem setSats_bist (s : State) (v : Tab Sat) : (s.setSats v).bist = s.bist := rfl
@[simp] theorem setSats_pending (s : State) (v : Tab Sat) : (s.setSats v).pending = s.pending := rfl

@[simp] theorem setSage_now (s : State) (v : Sage) : (s.setSage v).now = s.now := rfl
@[simp] theorem setSage_free (s : State) (v : Sage) : (s.setSage v).free = s.free := rfl
@[simp] theorem setSage_regs (s : State) (v : Sage) : (s.setSage v).regs = s.regs := rfl
@[simp] theorem setSage_bnd (s : State) (v : Sage) : (s.setSage v).bnd = s.bnd := rfl
@[simp] theorem setSage_cmt (s : State) (v : Sage) : (s.setSage v).cmt = s.cmt := rfl
@[simp] theorem setSage_tmr (s : State) (v : Sage) : (s.setSage v).tmr = s.tmr := rfl
@[simp] theorem setSage_crcRun (s : State) (v : Sage) : (s.setSage v).crcRun = s.crcRun := rfl
@[simp] theorem setSage_mem (s : State) (v : Sage) : (s.setSage v).mem = s.mem := rfl
@[simp] theorem setSage_bus (s : State) (v : Sage) : (s.setSage v).bus = s.bus := rfl
@[simp] theorem setSage_wardens (s : State) (v : Sage) : (s.setSage v).wardens = s.wardens := rfl
@[simp] theorem setSage_links (s : State) (v : Sage) : (s.setSage v).links = s.links := rfl
@[simp] theorem setSage_ctxs (s : State) (v : Sage) : (s.setSage v).ctxs = s.ctxs := rfl
@[simp] theorem setSage_stages (s : State) (v : Sage) : (s.setSage v).stages = s.stages := rfl
@[simp] theorem setSage_lanes (s : State) (v : Sage) : (s.setSage v).lanes = s.lanes := rfl
@[simp] theorem setSage_basil (s : State) (v : Sage) : (s.setSage v).basil = s.basil := rfl
@[simp] theorem setSage_giu (s : State) (v : Sage) : (s.setSage v).giu = s.giu := rfl
@[simp] theorem setSage_slewAcc (s : State) (v : Sage) : (s.setSage v).slewAcc = s.slewAcc := rfl
@[simp] theorem setSage_frames (s : State) (v : Sage) : (s.setSage v).frames = s.frames := rfl
@[simp] theorem setSage_tbgs (s : State) (v : Sage) : (s.setSage v).tbgs = s.tbgs := rfl
@[simp] theorem setSage_legs (s : State) (v : Sage) : (s.setSage v).legs = s.legs := rfl
@[simp] theorem setSage_mgs (s : State) (v : Sage) : (s.setSage v).mgs = s.mgs := rfl
@[simp] theorem setSage_trgs (s : State) (v : Sage) : (s.setSage v).trgs = s.trgs := rfl
@[simp] theorem setSage_ports (s : State) (v : Sage) : (s.setSage v).ports = s.ports := rfl
@[simp] theorem setSage_sats (s : State) (v : Sage) : (s.setSage v).sats = s.sats := rfl
@[simp] theorem setSage_sage (s : State) (v : Sage) : (s.setSage v).sage = v := rfl
@[simp] theorem setSage_wdgs (s : State) (v : Sage) : (s.setSage v).wdgs = s.wdgs := rfl
@[simp] theorem setSage_tms (s : State) (v : Sage) : (s.setSage v).tms = s.tms := rfl
@[simp] theorem setSage_diss (s : State) (v : Sage) : (s.setSage v).diss = s.diss := rfl
@[simp] theorem setSage_livs (s : State) (v : Sage) : (s.setSage v).livs = s.livs := rfl
@[simp] theorem setSage_apcs (s : State) (v : Sage) : (s.setSage v).apcs = s.apcs := rfl
@[simp] theorem setSage_pair (s : State) (v : Sage) : (s.setSage v).pair = s.pair := rfl
@[simp] theorem setSage_msio (s : State) (v : Sage) : (s.setSage v).msio = s.msio := rfl
@[simp] theorem setSage_adcs (s : State) (v : Sage) : (s.setSage v).adcs = s.adcs := rfl
@[simp] theorem setSage_fbs (s : State) (v : Sage) : (s.setSage v).fbs = s.fbs := rfl
@[simp] theorem setSage_ress (s : State) (v : Sage) : (s.setSage v).ress = s.ress := rfl
@[simp] theorem setSage_emus (s : State) (v : Sage) : (s.setSage v).emus = s.emus := rfl
@[simp] theorem setSage_amu (s : State) (v : Sage) : (s.setSage v).amu = s.amu := rfl
@[simp] theorem setSage_cans (s : State) (v : Sage) : (s.setSage v).cans = s.cans := rfl
@[simp] theorem setSage_hpm (s : State) (v : Sage) : (s.setSage v).hpm = s.hpm := rfl
@[simp] theorem setSage_rosem (s : State) (v : Sage) : (s.setSage v).rosem = s.rosem := rfl
@[simp] theorem setSage_bist (s : State) (v : Sage) : (s.setSage v).bist = s.bist := rfl
@[simp] theorem setSage_pending (s : State) (v : Sage) : (s.setSage v).pending = s.pending := rfl

@[simp] theorem setWdgs_now (s : State) (v : Tab Wdg) : (s.setWdgs v).now = s.now := rfl
@[simp] theorem setWdgs_free (s : State) (v : Tab Wdg) : (s.setWdgs v).free = s.free := rfl
@[simp] theorem setWdgs_regs (s : State) (v : Tab Wdg) : (s.setWdgs v).regs = s.regs := rfl
@[simp] theorem setWdgs_bnd (s : State) (v : Tab Wdg) : (s.setWdgs v).bnd = s.bnd := rfl
@[simp] theorem setWdgs_cmt (s : State) (v : Tab Wdg) : (s.setWdgs v).cmt = s.cmt := rfl
@[simp] theorem setWdgs_tmr (s : State) (v : Tab Wdg) : (s.setWdgs v).tmr = s.tmr := rfl
@[simp] theorem setWdgs_crcRun (s : State) (v : Tab Wdg) : (s.setWdgs v).crcRun = s.crcRun := rfl
@[simp] theorem setWdgs_mem (s : State) (v : Tab Wdg) : (s.setWdgs v).mem = s.mem := rfl
@[simp] theorem setWdgs_bus (s : State) (v : Tab Wdg) : (s.setWdgs v).bus = s.bus := rfl
@[simp] theorem setWdgs_wardens (s : State) (v : Tab Wdg) : (s.setWdgs v).wardens = s.wardens := rfl
@[simp] theorem setWdgs_links (s : State) (v : Tab Wdg) : (s.setWdgs v).links = s.links := rfl
@[simp] theorem setWdgs_ctxs (s : State) (v : Tab Wdg) : (s.setWdgs v).ctxs = s.ctxs := rfl
@[simp] theorem setWdgs_stages (s : State) (v : Tab Wdg) : (s.setWdgs v).stages = s.stages := rfl
@[simp] theorem setWdgs_lanes (s : State) (v : Tab Wdg) : (s.setWdgs v).lanes = s.lanes := rfl
@[simp] theorem setWdgs_basil (s : State) (v : Tab Wdg) : (s.setWdgs v).basil = s.basil := rfl
@[simp] theorem setWdgs_giu (s : State) (v : Tab Wdg) : (s.setWdgs v).giu = s.giu := rfl
@[simp] theorem setWdgs_slewAcc (s : State) (v : Tab Wdg) : (s.setWdgs v).slewAcc = s.slewAcc := rfl
@[simp] theorem setWdgs_frames (s : State) (v : Tab Wdg) : (s.setWdgs v).frames = s.frames := rfl
@[simp] theorem setWdgs_tbgs (s : State) (v : Tab Wdg) : (s.setWdgs v).tbgs = s.tbgs := rfl
@[simp] theorem setWdgs_legs (s : State) (v : Tab Wdg) : (s.setWdgs v).legs = s.legs := rfl
@[simp] theorem setWdgs_mgs (s : State) (v : Tab Wdg) : (s.setWdgs v).mgs = s.mgs := rfl
@[simp] theorem setWdgs_trgs (s : State) (v : Tab Wdg) : (s.setWdgs v).trgs = s.trgs := rfl
@[simp] theorem setWdgs_ports (s : State) (v : Tab Wdg) : (s.setWdgs v).ports = s.ports := rfl
@[simp] theorem setWdgs_sats (s : State) (v : Tab Wdg) : (s.setWdgs v).sats = s.sats := rfl
@[simp] theorem setWdgs_sage (s : State) (v : Tab Wdg) : (s.setWdgs v).sage = s.sage := rfl
@[simp] theorem setWdgs_wdgs (s : State) (v : Tab Wdg) : (s.setWdgs v).wdgs = v := rfl
@[simp] theorem setWdgs_tms (s : State) (v : Tab Wdg) : (s.setWdgs v).tms = s.tms := rfl
@[simp] theorem setWdgs_diss (s : State) (v : Tab Wdg) : (s.setWdgs v).diss = s.diss := rfl
@[simp] theorem setWdgs_livs (s : State) (v : Tab Wdg) : (s.setWdgs v).livs = s.livs := rfl
@[simp] theorem setWdgs_apcs (s : State) (v : Tab Wdg) : (s.setWdgs v).apcs = s.apcs := rfl
@[simp] theorem setWdgs_pair (s : State) (v : Tab Wdg) : (s.setWdgs v).pair = s.pair := rfl
@[simp] theorem setWdgs_msio (s : State) (v : Tab Wdg) : (s.setWdgs v).msio = s.msio := rfl
@[simp] theorem setWdgs_adcs (s : State) (v : Tab Wdg) : (s.setWdgs v).adcs = s.adcs := rfl
@[simp] theorem setWdgs_fbs (s : State) (v : Tab Wdg) : (s.setWdgs v).fbs = s.fbs := rfl
@[simp] theorem setWdgs_ress (s : State) (v : Tab Wdg) : (s.setWdgs v).ress = s.ress := rfl
@[simp] theorem setWdgs_emus (s : State) (v : Tab Wdg) : (s.setWdgs v).emus = s.emus := rfl
@[simp] theorem setWdgs_amu (s : State) (v : Tab Wdg) : (s.setWdgs v).amu = s.amu := rfl
@[simp] theorem setWdgs_cans (s : State) (v : Tab Wdg) : (s.setWdgs v).cans = s.cans := rfl
@[simp] theorem setWdgs_hpm (s : State) (v : Tab Wdg) : (s.setWdgs v).hpm = s.hpm := rfl
@[simp] theorem setWdgs_rosem (s : State) (v : Tab Wdg) : (s.setWdgs v).rosem = s.rosem := rfl
@[simp] theorem setWdgs_bist (s : State) (v : Tab Wdg) : (s.setWdgs v).bist = s.bist := rfl
@[simp] theorem setWdgs_pending (s : State) (v : Tab Wdg) : (s.setWdgs v).pending = s.pending := rfl

@[simp] theorem setTms_now (s : State) (v : Tab TMon) : (s.setTms v).now = s.now := rfl
@[simp] theorem setTms_free (s : State) (v : Tab TMon) : (s.setTms v).free = s.free := rfl
@[simp] theorem setTms_regs (s : State) (v : Tab TMon) : (s.setTms v).regs = s.regs := rfl
@[simp] theorem setTms_bnd (s : State) (v : Tab TMon) : (s.setTms v).bnd = s.bnd := rfl
@[simp] theorem setTms_cmt (s : State) (v : Tab TMon) : (s.setTms v).cmt = s.cmt := rfl
@[simp] theorem setTms_tmr (s : State) (v : Tab TMon) : (s.setTms v).tmr = s.tmr := rfl
@[simp] theorem setTms_crcRun (s : State) (v : Tab TMon) : (s.setTms v).crcRun = s.crcRun := rfl
@[simp] theorem setTms_mem (s : State) (v : Tab TMon) : (s.setTms v).mem = s.mem := rfl
@[simp] theorem setTms_bus (s : State) (v : Tab TMon) : (s.setTms v).bus = s.bus := rfl
@[simp] theorem setTms_wardens (s : State) (v : Tab TMon) : (s.setTms v).wardens = s.wardens := rfl
@[simp] theorem setTms_links (s : State) (v : Tab TMon) : (s.setTms v).links = s.links := rfl
@[simp] theorem setTms_ctxs (s : State) (v : Tab TMon) : (s.setTms v).ctxs = s.ctxs := rfl
@[simp] theorem setTms_stages (s : State) (v : Tab TMon) : (s.setTms v).stages = s.stages := rfl
@[simp] theorem setTms_lanes (s : State) (v : Tab TMon) : (s.setTms v).lanes = s.lanes := rfl
@[simp] theorem setTms_basil (s : State) (v : Tab TMon) : (s.setTms v).basil = s.basil := rfl
@[simp] theorem setTms_giu (s : State) (v : Tab TMon) : (s.setTms v).giu = s.giu := rfl
@[simp] theorem setTms_slewAcc (s : State) (v : Tab TMon) : (s.setTms v).slewAcc = s.slewAcc := rfl
@[simp] theorem setTms_frames (s : State) (v : Tab TMon) : (s.setTms v).frames = s.frames := rfl
@[simp] theorem setTms_tbgs (s : State) (v : Tab TMon) : (s.setTms v).tbgs = s.tbgs := rfl
@[simp] theorem setTms_legs (s : State) (v : Tab TMon) : (s.setTms v).legs = s.legs := rfl
@[simp] theorem setTms_mgs (s : State) (v : Tab TMon) : (s.setTms v).mgs = s.mgs := rfl
@[simp] theorem setTms_trgs (s : State) (v : Tab TMon) : (s.setTms v).trgs = s.trgs := rfl
@[simp] theorem setTms_ports (s : State) (v : Tab TMon) : (s.setTms v).ports = s.ports := rfl
@[simp] theorem setTms_sats (s : State) (v : Tab TMon) : (s.setTms v).sats = s.sats := rfl
@[simp] theorem setTms_sage (s : State) (v : Tab TMon) : (s.setTms v).sage = s.sage := rfl
@[simp] theorem setTms_wdgs (s : State) (v : Tab TMon) : (s.setTms v).wdgs = s.wdgs := rfl
@[simp] theorem setTms_tms (s : State) (v : Tab TMon) : (s.setTms v).tms = v := rfl
@[simp] theorem setTms_diss (s : State) (v : Tab TMon) : (s.setTms v).diss = s.diss := rfl
@[simp] theorem setTms_livs (s : State) (v : Tab TMon) : (s.setTms v).livs = s.livs := rfl
@[simp] theorem setTms_apcs (s : State) (v : Tab TMon) : (s.setTms v).apcs = s.apcs := rfl
@[simp] theorem setTms_pair (s : State) (v : Tab TMon) : (s.setTms v).pair = s.pair := rfl
@[simp] theorem setTms_msio (s : State) (v : Tab TMon) : (s.setTms v).msio = s.msio := rfl
@[simp] theorem setTms_adcs (s : State) (v : Tab TMon) : (s.setTms v).adcs = s.adcs := rfl
@[simp] theorem setTms_fbs (s : State) (v : Tab TMon) : (s.setTms v).fbs = s.fbs := rfl
@[simp] theorem setTms_ress (s : State) (v : Tab TMon) : (s.setTms v).ress = s.ress := rfl
@[simp] theorem setTms_emus (s : State) (v : Tab TMon) : (s.setTms v).emus = s.emus := rfl
@[simp] theorem setTms_amu (s : State) (v : Tab TMon) : (s.setTms v).amu = s.amu := rfl
@[simp] theorem setTms_cans (s : State) (v : Tab TMon) : (s.setTms v).cans = s.cans := rfl
@[simp] theorem setTms_hpm (s : State) (v : Tab TMon) : (s.setTms v).hpm = s.hpm := rfl
@[simp] theorem setTms_rosem (s : State) (v : Tab TMon) : (s.setTms v).rosem = s.rosem := rfl
@[simp] theorem setTms_bist (s : State) (v : Tab TMon) : (s.setTms v).bist = s.bist := rfl
@[simp] theorem setTms_pending (s : State) (v : Tab TMon) : (s.setTms v).pending = s.pending := rfl

@[simp] theorem setDiss_now (s : State) (v : Tab Dis) : (s.setDiss v).now = s.now := rfl
@[simp] theorem setDiss_free (s : State) (v : Tab Dis) : (s.setDiss v).free = s.free := rfl
@[simp] theorem setDiss_regs (s : State) (v : Tab Dis) : (s.setDiss v).regs = s.regs := rfl
@[simp] theorem setDiss_bnd (s : State) (v : Tab Dis) : (s.setDiss v).bnd = s.bnd := rfl
@[simp] theorem setDiss_cmt (s : State) (v : Tab Dis) : (s.setDiss v).cmt = s.cmt := rfl
@[simp] theorem setDiss_tmr (s : State) (v : Tab Dis) : (s.setDiss v).tmr = s.tmr := rfl
@[simp] theorem setDiss_crcRun (s : State) (v : Tab Dis) : (s.setDiss v).crcRun = s.crcRun := rfl
@[simp] theorem setDiss_mem (s : State) (v : Tab Dis) : (s.setDiss v).mem = s.mem := rfl
@[simp] theorem setDiss_bus (s : State) (v : Tab Dis) : (s.setDiss v).bus = s.bus := rfl
@[simp] theorem setDiss_wardens (s : State) (v : Tab Dis) : (s.setDiss v).wardens = s.wardens := rfl
@[simp] theorem setDiss_links (s : State) (v : Tab Dis) : (s.setDiss v).links = s.links := rfl
@[simp] theorem setDiss_ctxs (s : State) (v : Tab Dis) : (s.setDiss v).ctxs = s.ctxs := rfl
@[simp] theorem setDiss_stages (s : State) (v : Tab Dis) : (s.setDiss v).stages = s.stages := rfl
@[simp] theorem setDiss_lanes (s : State) (v : Tab Dis) : (s.setDiss v).lanes = s.lanes := rfl
@[simp] theorem setDiss_basil (s : State) (v : Tab Dis) : (s.setDiss v).basil = s.basil := rfl
@[simp] theorem setDiss_giu (s : State) (v : Tab Dis) : (s.setDiss v).giu = s.giu := rfl
@[simp] theorem setDiss_slewAcc (s : State) (v : Tab Dis) : (s.setDiss v).slewAcc = s.slewAcc := rfl
@[simp] theorem setDiss_frames (s : State) (v : Tab Dis) : (s.setDiss v).frames = s.frames := rfl
@[simp] theorem setDiss_tbgs (s : State) (v : Tab Dis) : (s.setDiss v).tbgs = s.tbgs := rfl
@[simp] theorem setDiss_legs (s : State) (v : Tab Dis) : (s.setDiss v).legs = s.legs := rfl
@[simp] theorem setDiss_mgs (s : State) (v : Tab Dis) : (s.setDiss v).mgs = s.mgs := rfl
@[simp] theorem setDiss_trgs (s : State) (v : Tab Dis) : (s.setDiss v).trgs = s.trgs := rfl
@[simp] theorem setDiss_ports (s : State) (v : Tab Dis) : (s.setDiss v).ports = s.ports := rfl
@[simp] theorem setDiss_sats (s : State) (v : Tab Dis) : (s.setDiss v).sats = s.sats := rfl
@[simp] theorem setDiss_sage (s : State) (v : Tab Dis) : (s.setDiss v).sage = s.sage := rfl
@[simp] theorem setDiss_wdgs (s : State) (v : Tab Dis) : (s.setDiss v).wdgs = s.wdgs := rfl
@[simp] theorem setDiss_tms (s : State) (v : Tab Dis) : (s.setDiss v).tms = s.tms := rfl
@[simp] theorem setDiss_diss (s : State) (v : Tab Dis) : (s.setDiss v).diss = v := rfl
@[simp] theorem setDiss_livs (s : State) (v : Tab Dis) : (s.setDiss v).livs = s.livs := rfl
@[simp] theorem setDiss_apcs (s : State) (v : Tab Dis) : (s.setDiss v).apcs = s.apcs := rfl
@[simp] theorem setDiss_pair (s : State) (v : Tab Dis) : (s.setDiss v).pair = s.pair := rfl
@[simp] theorem setDiss_msio (s : State) (v : Tab Dis) : (s.setDiss v).msio = s.msio := rfl
@[simp] theorem setDiss_adcs (s : State) (v : Tab Dis) : (s.setDiss v).adcs = s.adcs := rfl
@[simp] theorem setDiss_fbs (s : State) (v : Tab Dis) : (s.setDiss v).fbs = s.fbs := rfl
@[simp] theorem setDiss_ress (s : State) (v : Tab Dis) : (s.setDiss v).ress = s.ress := rfl
@[simp] theorem setDiss_emus (s : State) (v : Tab Dis) : (s.setDiss v).emus = s.emus := rfl
@[simp] theorem setDiss_amu (s : State) (v : Tab Dis) : (s.setDiss v).amu = s.amu := rfl
@[simp] theorem setDiss_cans (s : State) (v : Tab Dis) : (s.setDiss v).cans = s.cans := rfl
@[simp] theorem setDiss_hpm (s : State) (v : Tab Dis) : (s.setDiss v).hpm = s.hpm := rfl
@[simp] theorem setDiss_rosem (s : State) (v : Tab Dis) : (s.setDiss v).rosem = s.rosem := rfl
@[simp] theorem setDiss_bist (s : State) (v : Tab Dis) : (s.setDiss v).bist = s.bist := rfl
@[simp] theorem setDiss_pending (s : State) (v : Tab Dis) : (s.setDiss v).pending = s.pending := rfl

@[simp] theorem setLivs_now (s : State) (v : Tab Liv) : (s.setLivs v).now = s.now := rfl
@[simp] theorem setLivs_free (s : State) (v : Tab Liv) : (s.setLivs v).free = s.free := rfl
@[simp] theorem setLivs_regs (s : State) (v : Tab Liv) : (s.setLivs v).regs = s.regs := rfl
@[simp] theorem setLivs_bnd (s : State) (v : Tab Liv) : (s.setLivs v).bnd = s.bnd := rfl
@[simp] theorem setLivs_cmt (s : State) (v : Tab Liv) : (s.setLivs v).cmt = s.cmt := rfl
@[simp] theorem setLivs_tmr (s : State) (v : Tab Liv) : (s.setLivs v).tmr = s.tmr := rfl
@[simp] theorem setLivs_crcRun (s : State) (v : Tab Liv) : (s.setLivs v).crcRun = s.crcRun := rfl
@[simp] theorem setLivs_mem (s : State) (v : Tab Liv) : (s.setLivs v).mem = s.mem := rfl
@[simp] theorem setLivs_bus (s : State) (v : Tab Liv) : (s.setLivs v).bus = s.bus := rfl
@[simp] theorem setLivs_wardens (s : State) (v : Tab Liv) : (s.setLivs v).wardens = s.wardens := rfl
@[simp] theorem setLivs_links (s : State) (v : Tab Liv) : (s.setLivs v).links = s.links := rfl
@[simp] theorem setLivs_ctxs (s : State) (v : Tab Liv) : (s.setLivs v).ctxs = s.ctxs := rfl
@[simp] theorem setLivs_stages (s : State) (v : Tab Liv) : (s.setLivs v).stages = s.stages := rfl
@[simp] theorem setLivs_lanes (s : State) (v : Tab Liv) : (s.setLivs v).lanes = s.lanes := rfl
@[simp] theorem setLivs_basil (s : State) (v : Tab Liv) : (s.setLivs v).basil = s.basil := rfl
@[simp] theorem setLivs_giu (s : State) (v : Tab Liv) : (s.setLivs v).giu = s.giu := rfl
@[simp] theorem setLivs_slewAcc (s : State) (v : Tab Liv) : (s.setLivs v).slewAcc = s.slewAcc := rfl
@[simp] theorem setLivs_frames (s : State) (v : Tab Liv) : (s.setLivs v).frames = s.frames := rfl
@[simp] theorem setLivs_tbgs (s : State) (v : Tab Liv) : (s.setLivs v).tbgs = s.tbgs := rfl
@[simp] theorem setLivs_legs (s : State) (v : Tab Liv) : (s.setLivs v).legs = s.legs := rfl
@[simp] theorem setLivs_mgs (s : State) (v : Tab Liv) : (s.setLivs v).mgs = s.mgs := rfl
@[simp] theorem setLivs_trgs (s : State) (v : Tab Liv) : (s.setLivs v).trgs = s.trgs := rfl
@[simp] theorem setLivs_ports (s : State) (v : Tab Liv) : (s.setLivs v).ports = s.ports := rfl
@[simp] theorem setLivs_sats (s : State) (v : Tab Liv) : (s.setLivs v).sats = s.sats := rfl
@[simp] theorem setLivs_sage (s : State) (v : Tab Liv) : (s.setLivs v).sage = s.sage := rfl
@[simp] theorem setLivs_wdgs (s : State) (v : Tab Liv) : (s.setLivs v).wdgs = s.wdgs := rfl
@[simp] theorem setLivs_tms (s : State) (v : Tab Liv) : (s.setLivs v).tms = s.tms := rfl
@[simp] theorem setLivs_diss (s : State) (v : Tab Liv) : (s.setLivs v).diss = s.diss := rfl
@[simp] theorem setLivs_livs (s : State) (v : Tab Liv) : (s.setLivs v).livs = v := rfl
@[simp] theorem setLivs_apcs (s : State) (v : Tab Liv) : (s.setLivs v).apcs = s.apcs := rfl
@[simp] theorem setLivs_pair (s : State) (v : Tab Liv) : (s.setLivs v).pair = s.pair := rfl
@[simp] theorem setLivs_msio (s : State) (v : Tab Liv) : (s.setLivs v).msio = s.msio := rfl
@[simp] theorem setLivs_adcs (s : State) (v : Tab Liv) : (s.setLivs v).adcs = s.adcs := rfl
@[simp] theorem setLivs_fbs (s : State) (v : Tab Liv) : (s.setLivs v).fbs = s.fbs := rfl
@[simp] theorem setLivs_ress (s : State) (v : Tab Liv) : (s.setLivs v).ress = s.ress := rfl
@[simp] theorem setLivs_emus (s : State) (v : Tab Liv) : (s.setLivs v).emus = s.emus := rfl
@[simp] theorem setLivs_amu (s : State) (v : Tab Liv) : (s.setLivs v).amu = s.amu := rfl
@[simp] theorem setLivs_cans (s : State) (v : Tab Liv) : (s.setLivs v).cans = s.cans := rfl
@[simp] theorem setLivs_hpm (s : State) (v : Tab Liv) : (s.setLivs v).hpm = s.hpm := rfl
@[simp] theorem setLivs_rosem (s : State) (v : Tab Liv) : (s.setLivs v).rosem = s.rosem := rfl
@[simp] theorem setLivs_bist (s : State) (v : Tab Liv) : (s.setLivs v).bist = s.bist := rfl
@[simp] theorem setLivs_pending (s : State) (v : Tab Liv) : (s.setLivs v).pending = s.pending := rfl

@[simp] theorem setApcs_now (s : State) (v : Tab Apc) : (s.setApcs v).now = s.now := rfl
@[simp] theorem setApcs_free (s : State) (v : Tab Apc) : (s.setApcs v).free = s.free := rfl
@[simp] theorem setApcs_regs (s : State) (v : Tab Apc) : (s.setApcs v).regs = s.regs := rfl
@[simp] theorem setApcs_bnd (s : State) (v : Tab Apc) : (s.setApcs v).bnd = s.bnd := rfl
@[simp] theorem setApcs_cmt (s : State) (v : Tab Apc) : (s.setApcs v).cmt = s.cmt := rfl
@[simp] theorem setApcs_tmr (s : State) (v : Tab Apc) : (s.setApcs v).tmr = s.tmr := rfl
@[simp] theorem setApcs_crcRun (s : State) (v : Tab Apc) : (s.setApcs v).crcRun = s.crcRun := rfl
@[simp] theorem setApcs_mem (s : State) (v : Tab Apc) : (s.setApcs v).mem = s.mem := rfl
@[simp] theorem setApcs_bus (s : State) (v : Tab Apc) : (s.setApcs v).bus = s.bus := rfl
@[simp] theorem setApcs_wardens (s : State) (v : Tab Apc) : (s.setApcs v).wardens = s.wardens := rfl
@[simp] theorem setApcs_links (s : State) (v : Tab Apc) : (s.setApcs v).links = s.links := rfl
@[simp] theorem setApcs_ctxs (s : State) (v : Tab Apc) : (s.setApcs v).ctxs = s.ctxs := rfl
@[simp] theorem setApcs_stages (s : State) (v : Tab Apc) : (s.setApcs v).stages = s.stages := rfl
@[simp] theorem setApcs_lanes (s : State) (v : Tab Apc) : (s.setApcs v).lanes = s.lanes := rfl
@[simp] theorem setApcs_basil (s : State) (v : Tab Apc) : (s.setApcs v).basil = s.basil := rfl
@[simp] theorem setApcs_giu (s : State) (v : Tab Apc) : (s.setApcs v).giu = s.giu := rfl
@[simp] theorem setApcs_slewAcc (s : State) (v : Tab Apc) : (s.setApcs v).slewAcc = s.slewAcc := rfl
@[simp] theorem setApcs_frames (s : State) (v : Tab Apc) : (s.setApcs v).frames = s.frames := rfl
@[simp] theorem setApcs_tbgs (s : State) (v : Tab Apc) : (s.setApcs v).tbgs = s.tbgs := rfl
@[simp] theorem setApcs_legs (s : State) (v : Tab Apc) : (s.setApcs v).legs = s.legs := rfl
@[simp] theorem setApcs_mgs (s : State) (v : Tab Apc) : (s.setApcs v).mgs = s.mgs := rfl
@[simp] theorem setApcs_trgs (s : State) (v : Tab Apc) : (s.setApcs v).trgs = s.trgs := rfl
@[simp] theorem setApcs_ports (s : State) (v : Tab Apc) : (s.setApcs v).ports = s.ports := rfl
@[simp] theorem setApcs_sats (s : State) (v : Tab Apc) : (s.setApcs v).sats = s.sats := rfl
@[simp] theorem setApcs_sage (s : State) (v : Tab Apc) : (s.setApcs v).sage = s.sage := rfl
@[simp] theorem setApcs_wdgs (s : State) (v : Tab Apc) : (s.setApcs v).wdgs = s.wdgs := rfl
@[simp] theorem setApcs_tms (s : State) (v : Tab Apc) : (s.setApcs v).tms = s.tms := rfl
@[simp] theorem setApcs_diss (s : State) (v : Tab Apc) : (s.setApcs v).diss = s.diss := rfl
@[simp] theorem setApcs_livs (s : State) (v : Tab Apc) : (s.setApcs v).livs = s.livs := rfl
@[simp] theorem setApcs_apcs (s : State) (v : Tab Apc) : (s.setApcs v).apcs = v := rfl
@[simp] theorem setApcs_pair (s : State) (v : Tab Apc) : (s.setApcs v).pair = s.pair := rfl
@[simp] theorem setApcs_msio (s : State) (v : Tab Apc) : (s.setApcs v).msio = s.msio := rfl
@[simp] theorem setApcs_adcs (s : State) (v : Tab Apc) : (s.setApcs v).adcs = s.adcs := rfl
@[simp] theorem setApcs_fbs (s : State) (v : Tab Apc) : (s.setApcs v).fbs = s.fbs := rfl
@[simp] theorem setApcs_ress (s : State) (v : Tab Apc) : (s.setApcs v).ress = s.ress := rfl
@[simp] theorem setApcs_emus (s : State) (v : Tab Apc) : (s.setApcs v).emus = s.emus := rfl
@[simp] theorem setApcs_amu (s : State) (v : Tab Apc) : (s.setApcs v).amu = s.amu := rfl
@[simp] theorem setApcs_cans (s : State) (v : Tab Apc) : (s.setApcs v).cans = s.cans := rfl
@[simp] theorem setApcs_hpm (s : State) (v : Tab Apc) : (s.setApcs v).hpm = s.hpm := rfl
@[simp] theorem setApcs_rosem (s : State) (v : Tab Apc) : (s.setApcs v).rosem = s.rosem := rfl
@[simp] theorem setApcs_bist (s : State) (v : Tab Apc) : (s.setApcs v).bist = s.bist := rfl
@[simp] theorem setApcs_pending (s : State) (v : Tab Apc) : (s.setApcs v).pending = s.pending := rfl

@[simp] theorem setPair_now (s : State) (v : PairSt) : (s.setPair v).now = s.now := rfl
@[simp] theorem setPair_free (s : State) (v : PairSt) : (s.setPair v).free = s.free := rfl
@[simp] theorem setPair_regs (s : State) (v : PairSt) : (s.setPair v).regs = s.regs := rfl
@[simp] theorem setPair_bnd (s : State) (v : PairSt) : (s.setPair v).bnd = s.bnd := rfl
@[simp] theorem setPair_cmt (s : State) (v : PairSt) : (s.setPair v).cmt = s.cmt := rfl
@[simp] theorem setPair_tmr (s : State) (v : PairSt) : (s.setPair v).tmr = s.tmr := rfl
@[simp] theorem setPair_crcRun (s : State) (v : PairSt) : (s.setPair v).crcRun = s.crcRun := rfl
@[simp] theorem setPair_mem (s : State) (v : PairSt) : (s.setPair v).mem = s.mem := rfl
@[simp] theorem setPair_bus (s : State) (v : PairSt) : (s.setPair v).bus = s.bus := rfl
@[simp] theorem setPair_wardens (s : State) (v : PairSt) : (s.setPair v).wardens = s.wardens := rfl
@[simp] theorem setPair_links (s : State) (v : PairSt) : (s.setPair v).links = s.links := rfl
@[simp] theorem setPair_ctxs (s : State) (v : PairSt) : (s.setPair v).ctxs = s.ctxs := rfl
@[simp] theorem setPair_stages (s : State) (v : PairSt) : (s.setPair v).stages = s.stages := rfl
@[simp] theorem setPair_lanes (s : State) (v : PairSt) : (s.setPair v).lanes = s.lanes := rfl
@[simp] theorem setPair_basil (s : State) (v : PairSt) : (s.setPair v).basil = s.basil := rfl
@[simp] theorem setPair_giu (s : State) (v : PairSt) : (s.setPair v).giu = s.giu := rfl
@[simp] theorem setPair_slewAcc (s : State) (v : PairSt) : (s.setPair v).slewAcc = s.slewAcc := rfl
@[simp] theorem setPair_frames (s : State) (v : PairSt) : (s.setPair v).frames = s.frames := rfl
@[simp] theorem setPair_tbgs (s : State) (v : PairSt) : (s.setPair v).tbgs = s.tbgs := rfl
@[simp] theorem setPair_legs (s : State) (v : PairSt) : (s.setPair v).legs = s.legs := rfl
@[simp] theorem setPair_mgs (s : State) (v : PairSt) : (s.setPair v).mgs = s.mgs := rfl
@[simp] theorem setPair_trgs (s : State) (v : PairSt) : (s.setPair v).trgs = s.trgs := rfl
@[simp] theorem setPair_ports (s : State) (v : PairSt) : (s.setPair v).ports = s.ports := rfl
@[simp] theorem setPair_sats (s : State) (v : PairSt) : (s.setPair v).sats = s.sats := rfl
@[simp] theorem setPair_sage (s : State) (v : PairSt) : (s.setPair v).sage = s.sage := rfl
@[simp] theorem setPair_wdgs (s : State) (v : PairSt) : (s.setPair v).wdgs = s.wdgs := rfl
@[simp] theorem setPair_tms (s : State) (v : PairSt) : (s.setPair v).tms = s.tms := rfl
@[simp] theorem setPair_diss (s : State) (v : PairSt) : (s.setPair v).diss = s.diss := rfl
@[simp] theorem setPair_livs (s : State) (v : PairSt) : (s.setPair v).livs = s.livs := rfl
@[simp] theorem setPair_apcs (s : State) (v : PairSt) : (s.setPair v).apcs = s.apcs := rfl
@[simp] theorem setPair_pair (s : State) (v : PairSt) : (s.setPair v).pair = v := rfl
@[simp] theorem setPair_msio (s : State) (v : PairSt) : (s.setPair v).msio = s.msio := rfl
@[simp] theorem setPair_adcs (s : State) (v : PairSt) : (s.setPair v).adcs = s.adcs := rfl
@[simp] theorem setPair_fbs (s : State) (v : PairSt) : (s.setPair v).fbs = s.fbs := rfl
@[simp] theorem setPair_ress (s : State) (v : PairSt) : (s.setPair v).ress = s.ress := rfl
@[simp] theorem setPair_emus (s : State) (v : PairSt) : (s.setPair v).emus = s.emus := rfl
@[simp] theorem setPair_amu (s : State) (v : PairSt) : (s.setPair v).amu = s.amu := rfl
@[simp] theorem setPair_cans (s : State) (v : PairSt) : (s.setPair v).cans = s.cans := rfl
@[simp] theorem setPair_hpm (s : State) (v : PairSt) : (s.setPair v).hpm = s.hpm := rfl
@[simp] theorem setPair_rosem (s : State) (v : PairSt) : (s.setPair v).rosem = s.rosem := rfl
@[simp] theorem setPair_bist (s : State) (v : PairSt) : (s.setPair v).bist = s.bist := rfl
@[simp] theorem setPair_pending (s : State) (v : PairSt) : (s.setPair v).pending = s.pending := rfl

@[simp] theorem setMsio_now (s : State) (v : Msio) : (s.setMsio v).now = s.now := rfl
@[simp] theorem setMsio_free (s : State) (v : Msio) : (s.setMsio v).free = s.free := rfl
@[simp] theorem setMsio_regs (s : State) (v : Msio) : (s.setMsio v).regs = s.regs := rfl
@[simp] theorem setMsio_bnd (s : State) (v : Msio) : (s.setMsio v).bnd = s.bnd := rfl
@[simp] theorem setMsio_cmt (s : State) (v : Msio) : (s.setMsio v).cmt = s.cmt := rfl
@[simp] theorem setMsio_tmr (s : State) (v : Msio) : (s.setMsio v).tmr = s.tmr := rfl
@[simp] theorem setMsio_crcRun (s : State) (v : Msio) : (s.setMsio v).crcRun = s.crcRun := rfl
@[simp] theorem setMsio_mem (s : State) (v : Msio) : (s.setMsio v).mem = s.mem := rfl
@[simp] theorem setMsio_bus (s : State) (v : Msio) : (s.setMsio v).bus = s.bus := rfl
@[simp] theorem setMsio_wardens (s : State) (v : Msio) : (s.setMsio v).wardens = s.wardens := rfl
@[simp] theorem setMsio_links (s : State) (v : Msio) : (s.setMsio v).links = s.links := rfl
@[simp] theorem setMsio_ctxs (s : State) (v : Msio) : (s.setMsio v).ctxs = s.ctxs := rfl
@[simp] theorem setMsio_stages (s : State) (v : Msio) : (s.setMsio v).stages = s.stages := rfl
@[simp] theorem setMsio_lanes (s : State) (v : Msio) : (s.setMsio v).lanes = s.lanes := rfl
@[simp] theorem setMsio_basil (s : State) (v : Msio) : (s.setMsio v).basil = s.basil := rfl
@[simp] theorem setMsio_giu (s : State) (v : Msio) : (s.setMsio v).giu = s.giu := rfl
@[simp] theorem setMsio_slewAcc (s : State) (v : Msio) : (s.setMsio v).slewAcc = s.slewAcc := rfl
@[simp] theorem setMsio_frames (s : State) (v : Msio) : (s.setMsio v).frames = s.frames := rfl
@[simp] theorem setMsio_tbgs (s : State) (v : Msio) : (s.setMsio v).tbgs = s.tbgs := rfl
@[simp] theorem setMsio_legs (s : State) (v : Msio) : (s.setMsio v).legs = s.legs := rfl
@[simp] theorem setMsio_mgs (s : State) (v : Msio) : (s.setMsio v).mgs = s.mgs := rfl
@[simp] theorem setMsio_trgs (s : State) (v : Msio) : (s.setMsio v).trgs = s.trgs := rfl
@[simp] theorem setMsio_ports (s : State) (v : Msio) : (s.setMsio v).ports = s.ports := rfl
@[simp] theorem setMsio_sats (s : State) (v : Msio) : (s.setMsio v).sats = s.sats := rfl
@[simp] theorem setMsio_sage (s : State) (v : Msio) : (s.setMsio v).sage = s.sage := rfl
@[simp] theorem setMsio_wdgs (s : State) (v : Msio) : (s.setMsio v).wdgs = s.wdgs := rfl
@[simp] theorem setMsio_tms (s : State) (v : Msio) : (s.setMsio v).tms = s.tms := rfl
@[simp] theorem setMsio_diss (s : State) (v : Msio) : (s.setMsio v).diss = s.diss := rfl
@[simp] theorem setMsio_livs (s : State) (v : Msio) : (s.setMsio v).livs = s.livs := rfl
@[simp] theorem setMsio_apcs (s : State) (v : Msio) : (s.setMsio v).apcs = s.apcs := rfl
@[simp] theorem setMsio_pair (s : State) (v : Msio) : (s.setMsio v).pair = s.pair := rfl
@[simp] theorem setMsio_msio (s : State) (v : Msio) : (s.setMsio v).msio = v := rfl
@[simp] theorem setMsio_adcs (s : State) (v : Msio) : (s.setMsio v).adcs = s.adcs := rfl
@[simp] theorem setMsio_fbs (s : State) (v : Msio) : (s.setMsio v).fbs = s.fbs := rfl
@[simp] theorem setMsio_ress (s : State) (v : Msio) : (s.setMsio v).ress = s.ress := rfl
@[simp] theorem setMsio_emus (s : State) (v : Msio) : (s.setMsio v).emus = s.emus := rfl
@[simp] theorem setMsio_amu (s : State) (v : Msio) : (s.setMsio v).amu = s.amu := rfl
@[simp] theorem setMsio_cans (s : State) (v : Msio) : (s.setMsio v).cans = s.cans := rfl
@[simp] theorem setMsio_hpm (s : State) (v : Msio) : (s.setMsio v).hpm = s.hpm := rfl
@[simp] theorem setMsio_rosem (s : State) (v : Msio) : (s.setMsio v).rosem = s.rosem := rfl
@[simp] theorem setMsio_bist (s : State) (v : Msio) : (s.setMsio v).bist = s.bist := rfl
@[simp] theorem setMsio_pending (s : State) (v : Msio) : (s.setMsio v).pending = s.pending := rfl

@[simp] theorem setAdcs_now (s : State) (v : Tab AdcUnit) : (s.setAdcs v).now = s.now := rfl
@[simp] theorem setAdcs_free (s : State) (v : Tab AdcUnit) : (s.setAdcs v).free = s.free := rfl
@[simp] theorem setAdcs_regs (s : State) (v : Tab AdcUnit) : (s.setAdcs v).regs = s.regs := rfl
@[simp] theorem setAdcs_bnd (s : State) (v : Tab AdcUnit) : (s.setAdcs v).bnd = s.bnd := rfl
@[simp] theorem setAdcs_cmt (s : State) (v : Tab AdcUnit) : (s.setAdcs v).cmt = s.cmt := rfl
@[simp] theorem setAdcs_tmr (s : State) (v : Tab AdcUnit) : (s.setAdcs v).tmr = s.tmr := rfl
@[simp] theorem setAdcs_crcRun (s : State) (v : Tab AdcUnit) : (s.setAdcs v).crcRun = s.crcRun := rfl
@[simp] theorem setAdcs_mem (s : State) (v : Tab AdcUnit) : (s.setAdcs v).mem = s.mem := rfl
@[simp] theorem setAdcs_bus (s : State) (v : Tab AdcUnit) : (s.setAdcs v).bus = s.bus := rfl
@[simp] theorem setAdcs_wardens (s : State) (v : Tab AdcUnit) : (s.setAdcs v).wardens = s.wardens := rfl
@[simp] theorem setAdcs_links (s : State) (v : Tab AdcUnit) : (s.setAdcs v).links = s.links := rfl
@[simp] theorem setAdcs_ctxs (s : State) (v : Tab AdcUnit) : (s.setAdcs v).ctxs = s.ctxs := rfl
@[simp] theorem setAdcs_stages (s : State) (v : Tab AdcUnit) : (s.setAdcs v).stages = s.stages := rfl
@[simp] theorem setAdcs_lanes (s : State) (v : Tab AdcUnit) : (s.setAdcs v).lanes = s.lanes := rfl
@[simp] theorem setAdcs_basil (s : State) (v : Tab AdcUnit) : (s.setAdcs v).basil = s.basil := rfl
@[simp] theorem setAdcs_giu (s : State) (v : Tab AdcUnit) : (s.setAdcs v).giu = s.giu := rfl
@[simp] theorem setAdcs_slewAcc (s : State) (v : Tab AdcUnit) : (s.setAdcs v).slewAcc = s.slewAcc := rfl
@[simp] theorem setAdcs_frames (s : State) (v : Tab AdcUnit) : (s.setAdcs v).frames = s.frames := rfl
@[simp] theorem setAdcs_tbgs (s : State) (v : Tab AdcUnit) : (s.setAdcs v).tbgs = s.tbgs := rfl
@[simp] theorem setAdcs_legs (s : State) (v : Tab AdcUnit) : (s.setAdcs v).legs = s.legs := rfl
@[simp] theorem setAdcs_mgs (s : State) (v : Tab AdcUnit) : (s.setAdcs v).mgs = s.mgs := rfl
@[simp] theorem setAdcs_trgs (s : State) (v : Tab AdcUnit) : (s.setAdcs v).trgs = s.trgs := rfl
@[simp] theorem setAdcs_ports (s : State) (v : Tab AdcUnit) : (s.setAdcs v).ports = s.ports := rfl
@[simp] theorem setAdcs_sats (s : State) (v : Tab AdcUnit) : (s.setAdcs v).sats = s.sats := rfl
@[simp] theorem setAdcs_sage (s : State) (v : Tab AdcUnit) : (s.setAdcs v).sage = s.sage := rfl
@[simp] theorem setAdcs_wdgs (s : State) (v : Tab AdcUnit) : (s.setAdcs v).wdgs = s.wdgs := rfl
@[simp] theorem setAdcs_tms (s : State) (v : Tab AdcUnit) : (s.setAdcs v).tms = s.tms := rfl
@[simp] theorem setAdcs_diss (s : State) (v : Tab AdcUnit) : (s.setAdcs v).diss = s.diss := rfl
@[simp] theorem setAdcs_livs (s : State) (v : Tab AdcUnit) : (s.setAdcs v).livs = s.livs := rfl
@[simp] theorem setAdcs_apcs (s : State) (v : Tab AdcUnit) : (s.setAdcs v).apcs = s.apcs := rfl
@[simp] theorem setAdcs_pair (s : State) (v : Tab AdcUnit) : (s.setAdcs v).pair = s.pair := rfl
@[simp] theorem setAdcs_msio (s : State) (v : Tab AdcUnit) : (s.setAdcs v).msio = s.msio := rfl
@[simp] theorem setAdcs_adcs (s : State) (v : Tab AdcUnit) : (s.setAdcs v).adcs = v := rfl
@[simp] theorem setAdcs_fbs (s : State) (v : Tab AdcUnit) : (s.setAdcs v).fbs = s.fbs := rfl
@[simp] theorem setAdcs_ress (s : State) (v : Tab AdcUnit) : (s.setAdcs v).ress = s.ress := rfl
@[simp] theorem setAdcs_emus (s : State) (v : Tab AdcUnit) : (s.setAdcs v).emus = s.emus := rfl
@[simp] theorem setAdcs_amu (s : State) (v : Tab AdcUnit) : (s.setAdcs v).amu = s.amu := rfl
@[simp] theorem setAdcs_cans (s : State) (v : Tab AdcUnit) : (s.setAdcs v).cans = s.cans := rfl
@[simp] theorem setAdcs_hpm (s : State) (v : Tab AdcUnit) : (s.setAdcs v).hpm = s.hpm := rfl
@[simp] theorem setAdcs_rosem (s : State) (v : Tab AdcUnit) : (s.setAdcs v).rosem = s.rosem := rfl
@[simp] theorem setAdcs_bist (s : State) (v : Tab AdcUnit) : (s.setAdcs v).bist = s.bist := rfl
@[simp] theorem setAdcs_pending (s : State) (v : Tab AdcUnit) : (s.setAdcs v).pending = s.pending := rfl

@[simp] theorem setFbs_now (s : State) (v : Tab FbSt) : (s.setFbs v).now = s.now := rfl
@[simp] theorem setFbs_free (s : State) (v : Tab FbSt) : (s.setFbs v).free = s.free := rfl
@[simp] theorem setFbs_regs (s : State) (v : Tab FbSt) : (s.setFbs v).regs = s.regs := rfl
@[simp] theorem setFbs_bnd (s : State) (v : Tab FbSt) : (s.setFbs v).bnd = s.bnd := rfl
@[simp] theorem setFbs_cmt (s : State) (v : Tab FbSt) : (s.setFbs v).cmt = s.cmt := rfl
@[simp] theorem setFbs_tmr (s : State) (v : Tab FbSt) : (s.setFbs v).tmr = s.tmr := rfl
@[simp] theorem setFbs_crcRun (s : State) (v : Tab FbSt) : (s.setFbs v).crcRun = s.crcRun := rfl
@[simp] theorem setFbs_mem (s : State) (v : Tab FbSt) : (s.setFbs v).mem = s.mem := rfl
@[simp] theorem setFbs_bus (s : State) (v : Tab FbSt) : (s.setFbs v).bus = s.bus := rfl
@[simp] theorem setFbs_wardens (s : State) (v : Tab FbSt) : (s.setFbs v).wardens = s.wardens := rfl
@[simp] theorem setFbs_links (s : State) (v : Tab FbSt) : (s.setFbs v).links = s.links := rfl
@[simp] theorem setFbs_ctxs (s : State) (v : Tab FbSt) : (s.setFbs v).ctxs = s.ctxs := rfl
@[simp] theorem setFbs_stages (s : State) (v : Tab FbSt) : (s.setFbs v).stages = s.stages := rfl
@[simp] theorem setFbs_lanes (s : State) (v : Tab FbSt) : (s.setFbs v).lanes = s.lanes := rfl
@[simp] theorem setFbs_basil (s : State) (v : Tab FbSt) : (s.setFbs v).basil = s.basil := rfl
@[simp] theorem setFbs_giu (s : State) (v : Tab FbSt) : (s.setFbs v).giu = s.giu := rfl
@[simp] theorem setFbs_slewAcc (s : State) (v : Tab FbSt) : (s.setFbs v).slewAcc = s.slewAcc := rfl
@[simp] theorem setFbs_frames (s : State) (v : Tab FbSt) : (s.setFbs v).frames = s.frames := rfl
@[simp] theorem setFbs_tbgs (s : State) (v : Tab FbSt) : (s.setFbs v).tbgs = s.tbgs := rfl
@[simp] theorem setFbs_legs (s : State) (v : Tab FbSt) : (s.setFbs v).legs = s.legs := rfl
@[simp] theorem setFbs_mgs (s : State) (v : Tab FbSt) : (s.setFbs v).mgs = s.mgs := rfl
@[simp] theorem setFbs_trgs (s : State) (v : Tab FbSt) : (s.setFbs v).trgs = s.trgs := rfl
@[simp] theorem setFbs_ports (s : State) (v : Tab FbSt) : (s.setFbs v).ports = s.ports := rfl
@[simp] theorem setFbs_sats (s : State) (v : Tab FbSt) : (s.setFbs v).sats = s.sats := rfl
@[simp] theorem setFbs_sage (s : State) (v : Tab FbSt) : (s.setFbs v).sage = s.sage := rfl
@[simp] theorem setFbs_wdgs (s : State) (v : Tab FbSt) : (s.setFbs v).wdgs = s.wdgs := rfl
@[simp] theorem setFbs_tms (s : State) (v : Tab FbSt) : (s.setFbs v).tms = s.tms := rfl
@[simp] theorem setFbs_diss (s : State) (v : Tab FbSt) : (s.setFbs v).diss = s.diss := rfl
@[simp] theorem setFbs_livs (s : State) (v : Tab FbSt) : (s.setFbs v).livs = s.livs := rfl
@[simp] theorem setFbs_apcs (s : State) (v : Tab FbSt) : (s.setFbs v).apcs = s.apcs := rfl
@[simp] theorem setFbs_pair (s : State) (v : Tab FbSt) : (s.setFbs v).pair = s.pair := rfl
@[simp] theorem setFbs_msio (s : State) (v : Tab FbSt) : (s.setFbs v).msio = s.msio := rfl
@[simp] theorem setFbs_adcs (s : State) (v : Tab FbSt) : (s.setFbs v).adcs = s.adcs := rfl
@[simp] theorem setFbs_fbs (s : State) (v : Tab FbSt) : (s.setFbs v).fbs = v := rfl
@[simp] theorem setFbs_ress (s : State) (v : Tab FbSt) : (s.setFbs v).ress = s.ress := rfl
@[simp] theorem setFbs_emus (s : State) (v : Tab FbSt) : (s.setFbs v).emus = s.emus := rfl
@[simp] theorem setFbs_amu (s : State) (v : Tab FbSt) : (s.setFbs v).amu = s.amu := rfl
@[simp] theorem setFbs_cans (s : State) (v : Tab FbSt) : (s.setFbs v).cans = s.cans := rfl
@[simp] theorem setFbs_hpm (s : State) (v : Tab FbSt) : (s.setFbs v).hpm = s.hpm := rfl
@[simp] theorem setFbs_rosem (s : State) (v : Tab FbSt) : (s.setFbs v).rosem = s.rosem := rfl
@[simp] theorem setFbs_bist (s : State) (v : Tab FbSt) : (s.setFbs v).bist = s.bist := rfl
@[simp] theorem setFbs_pending (s : State) (v : Tab FbSt) : (s.setFbs v).pending = s.pending := rfl

@[simp] theorem setRess_now (s : State) (v : Tab ResSt) : (s.setRess v).now = s.now := rfl
@[simp] theorem setRess_free (s : State) (v : Tab ResSt) : (s.setRess v).free = s.free := rfl
@[simp] theorem setRess_regs (s : State) (v : Tab ResSt) : (s.setRess v).regs = s.regs := rfl
@[simp] theorem setRess_bnd (s : State) (v : Tab ResSt) : (s.setRess v).bnd = s.bnd := rfl
@[simp] theorem setRess_cmt (s : State) (v : Tab ResSt) : (s.setRess v).cmt = s.cmt := rfl
@[simp] theorem setRess_tmr (s : State) (v : Tab ResSt) : (s.setRess v).tmr = s.tmr := rfl
@[simp] theorem setRess_crcRun (s : State) (v : Tab ResSt) : (s.setRess v).crcRun = s.crcRun := rfl
@[simp] theorem setRess_mem (s : State) (v : Tab ResSt) : (s.setRess v).mem = s.mem := rfl
@[simp] theorem setRess_bus (s : State) (v : Tab ResSt) : (s.setRess v).bus = s.bus := rfl
@[simp] theorem setRess_wardens (s : State) (v : Tab ResSt) : (s.setRess v).wardens = s.wardens := rfl
@[simp] theorem setRess_links (s : State) (v : Tab ResSt) : (s.setRess v).links = s.links := rfl
@[simp] theorem setRess_ctxs (s : State) (v : Tab ResSt) : (s.setRess v).ctxs = s.ctxs := rfl
@[simp] theorem setRess_stages (s : State) (v : Tab ResSt) : (s.setRess v).stages = s.stages := rfl
@[simp] theorem setRess_lanes (s : State) (v : Tab ResSt) : (s.setRess v).lanes = s.lanes := rfl
@[simp] theorem setRess_basil (s : State) (v : Tab ResSt) : (s.setRess v).basil = s.basil := rfl
@[simp] theorem setRess_giu (s : State) (v : Tab ResSt) : (s.setRess v).giu = s.giu := rfl
@[simp] theorem setRess_slewAcc (s : State) (v : Tab ResSt) : (s.setRess v).slewAcc = s.slewAcc := rfl
@[simp] theorem setRess_frames (s : State) (v : Tab ResSt) : (s.setRess v).frames = s.frames := rfl
@[simp] theorem setRess_tbgs (s : State) (v : Tab ResSt) : (s.setRess v).tbgs = s.tbgs := rfl
@[simp] theorem setRess_legs (s : State) (v : Tab ResSt) : (s.setRess v).legs = s.legs := rfl
@[simp] theorem setRess_mgs (s : State) (v : Tab ResSt) : (s.setRess v).mgs = s.mgs := rfl
@[simp] theorem setRess_trgs (s : State) (v : Tab ResSt) : (s.setRess v).trgs = s.trgs := rfl
@[simp] theorem setRess_ports (s : State) (v : Tab ResSt) : (s.setRess v).ports = s.ports := rfl
@[simp] theorem setRess_sats (s : State) (v : Tab ResSt) : (s.setRess v).sats = s.sats := rfl
@[simp] theorem setRess_sage (s : State) (v : Tab ResSt) : (s.setRess v).sage = s.sage := rfl
@[simp] theorem setRess_wdgs (s : State) (v : Tab ResSt) : (s.setRess v).wdgs = s.wdgs := rfl
@[simp] theorem setRess_tms (s : State) (v : Tab ResSt) : (s.setRess v).tms = s.tms := rfl
@[simp] theorem setRess_diss (s : State) (v : Tab ResSt) : (s.setRess v).diss = s.diss := rfl
@[simp] theorem setRess_livs (s : State) (v : Tab ResSt) : (s.setRess v).livs = s.livs := rfl
@[simp] theorem setRess_apcs (s : State) (v : Tab ResSt) : (s.setRess v).apcs = s.apcs := rfl
@[simp] theorem setRess_pair (s : State) (v : Tab ResSt) : (s.setRess v).pair = s.pair := rfl
@[simp] theorem setRess_msio (s : State) (v : Tab ResSt) : (s.setRess v).msio = s.msio := rfl
@[simp] theorem setRess_adcs (s : State) (v : Tab ResSt) : (s.setRess v).adcs = s.adcs := rfl
@[simp] theorem setRess_fbs (s : State) (v : Tab ResSt) : (s.setRess v).fbs = s.fbs := rfl
@[simp] theorem setRess_ress (s : State) (v : Tab ResSt) : (s.setRess v).ress = v := rfl
@[simp] theorem setRess_emus (s : State) (v : Tab ResSt) : (s.setRess v).emus = s.emus := rfl
@[simp] theorem setRess_amu (s : State) (v : Tab ResSt) : (s.setRess v).amu = s.amu := rfl
@[simp] theorem setRess_cans (s : State) (v : Tab ResSt) : (s.setRess v).cans = s.cans := rfl
@[simp] theorem setRess_hpm (s : State) (v : Tab ResSt) : (s.setRess v).hpm = s.hpm := rfl
@[simp] theorem setRess_rosem (s : State) (v : Tab ResSt) : (s.setRess v).rosem = s.rosem := rfl
@[simp] theorem setRess_bist (s : State) (v : Tab ResSt) : (s.setRess v).bist = s.bist := rfl
@[simp] theorem setRess_pending (s : State) (v : Tab ResSt) : (s.setRess v).pending = s.pending := rfl

@[simp] theorem setEmus_now (s : State) (v : Tab EmuSt) : (s.setEmus v).now = s.now := rfl
@[simp] theorem setEmus_free (s : State) (v : Tab EmuSt) : (s.setEmus v).free = s.free := rfl
@[simp] theorem setEmus_regs (s : State) (v : Tab EmuSt) : (s.setEmus v).regs = s.regs := rfl
@[simp] theorem setEmus_bnd (s : State) (v : Tab EmuSt) : (s.setEmus v).bnd = s.bnd := rfl
@[simp] theorem setEmus_cmt (s : State) (v : Tab EmuSt) : (s.setEmus v).cmt = s.cmt := rfl
@[simp] theorem setEmus_tmr (s : State) (v : Tab EmuSt) : (s.setEmus v).tmr = s.tmr := rfl
@[simp] theorem setEmus_crcRun (s : State) (v : Tab EmuSt) : (s.setEmus v).crcRun = s.crcRun := rfl
@[simp] theorem setEmus_mem (s : State) (v : Tab EmuSt) : (s.setEmus v).mem = s.mem := rfl
@[simp] theorem setEmus_bus (s : State) (v : Tab EmuSt) : (s.setEmus v).bus = s.bus := rfl
@[simp] theorem setEmus_wardens (s : State) (v : Tab EmuSt) : (s.setEmus v).wardens = s.wardens := rfl
@[simp] theorem setEmus_links (s : State) (v : Tab EmuSt) : (s.setEmus v).links = s.links := rfl
@[simp] theorem setEmus_ctxs (s : State) (v : Tab EmuSt) : (s.setEmus v).ctxs = s.ctxs := rfl
@[simp] theorem setEmus_stages (s : State) (v : Tab EmuSt) : (s.setEmus v).stages = s.stages := rfl
@[simp] theorem setEmus_lanes (s : State) (v : Tab EmuSt) : (s.setEmus v).lanes = s.lanes := rfl
@[simp] theorem setEmus_basil (s : State) (v : Tab EmuSt) : (s.setEmus v).basil = s.basil := rfl
@[simp] theorem setEmus_giu (s : State) (v : Tab EmuSt) : (s.setEmus v).giu = s.giu := rfl
@[simp] theorem setEmus_slewAcc (s : State) (v : Tab EmuSt) : (s.setEmus v).slewAcc = s.slewAcc := rfl
@[simp] theorem setEmus_frames (s : State) (v : Tab EmuSt) : (s.setEmus v).frames = s.frames := rfl
@[simp] theorem setEmus_tbgs (s : State) (v : Tab EmuSt) : (s.setEmus v).tbgs = s.tbgs := rfl
@[simp] theorem setEmus_legs (s : State) (v : Tab EmuSt) : (s.setEmus v).legs = s.legs := rfl
@[simp] theorem setEmus_mgs (s : State) (v : Tab EmuSt) : (s.setEmus v).mgs = s.mgs := rfl
@[simp] theorem setEmus_trgs (s : State) (v : Tab EmuSt) : (s.setEmus v).trgs = s.trgs := rfl
@[simp] theorem setEmus_ports (s : State) (v : Tab EmuSt) : (s.setEmus v).ports = s.ports := rfl
@[simp] theorem setEmus_sats (s : State) (v : Tab EmuSt) : (s.setEmus v).sats = s.sats := rfl
@[simp] theorem setEmus_sage (s : State) (v : Tab EmuSt) : (s.setEmus v).sage = s.sage := rfl
@[simp] theorem setEmus_wdgs (s : State) (v : Tab EmuSt) : (s.setEmus v).wdgs = s.wdgs := rfl
@[simp] theorem setEmus_tms (s : State) (v : Tab EmuSt) : (s.setEmus v).tms = s.tms := rfl
@[simp] theorem setEmus_diss (s : State) (v : Tab EmuSt) : (s.setEmus v).diss = s.diss := rfl
@[simp] theorem setEmus_livs (s : State) (v : Tab EmuSt) : (s.setEmus v).livs = s.livs := rfl
@[simp] theorem setEmus_apcs (s : State) (v : Tab EmuSt) : (s.setEmus v).apcs = s.apcs := rfl
@[simp] theorem setEmus_pair (s : State) (v : Tab EmuSt) : (s.setEmus v).pair = s.pair := rfl
@[simp] theorem setEmus_msio (s : State) (v : Tab EmuSt) : (s.setEmus v).msio = s.msio := rfl
@[simp] theorem setEmus_adcs (s : State) (v : Tab EmuSt) : (s.setEmus v).adcs = s.adcs := rfl
@[simp] theorem setEmus_fbs (s : State) (v : Tab EmuSt) : (s.setEmus v).fbs = s.fbs := rfl
@[simp] theorem setEmus_ress (s : State) (v : Tab EmuSt) : (s.setEmus v).ress = s.ress := rfl
@[simp] theorem setEmus_emus (s : State) (v : Tab EmuSt) : (s.setEmus v).emus = v := rfl
@[simp] theorem setEmus_amu (s : State) (v : Tab EmuSt) : (s.setEmus v).amu = s.amu := rfl
@[simp] theorem setEmus_cans (s : State) (v : Tab EmuSt) : (s.setEmus v).cans = s.cans := rfl
@[simp] theorem setEmus_hpm (s : State) (v : Tab EmuSt) : (s.setEmus v).hpm = s.hpm := rfl
@[simp] theorem setEmus_rosem (s : State) (v : Tab EmuSt) : (s.setEmus v).rosem = s.rosem := rfl
@[simp] theorem setEmus_bist (s : State) (v : Tab EmuSt) : (s.setEmus v).bist = s.bist := rfl
@[simp] theorem setEmus_pending (s : State) (v : Tab EmuSt) : (s.setEmus v).pending = s.pending := rfl

@[simp] theorem setAmu_now (s : State) (v : Amu) : (s.setAmu v).now = s.now := rfl
@[simp] theorem setAmu_free (s : State) (v : Amu) : (s.setAmu v).free = s.free := rfl
@[simp] theorem setAmu_regs (s : State) (v : Amu) : (s.setAmu v).regs = s.regs := rfl
@[simp] theorem setAmu_bnd (s : State) (v : Amu) : (s.setAmu v).bnd = s.bnd := rfl
@[simp] theorem setAmu_cmt (s : State) (v : Amu) : (s.setAmu v).cmt = s.cmt := rfl
@[simp] theorem setAmu_tmr (s : State) (v : Amu) : (s.setAmu v).tmr = s.tmr := rfl
@[simp] theorem setAmu_crcRun (s : State) (v : Amu) : (s.setAmu v).crcRun = s.crcRun := rfl
@[simp] theorem setAmu_mem (s : State) (v : Amu) : (s.setAmu v).mem = s.mem := rfl
@[simp] theorem setAmu_bus (s : State) (v : Amu) : (s.setAmu v).bus = s.bus := rfl
@[simp] theorem setAmu_wardens (s : State) (v : Amu) : (s.setAmu v).wardens = s.wardens := rfl
@[simp] theorem setAmu_links (s : State) (v : Amu) : (s.setAmu v).links = s.links := rfl
@[simp] theorem setAmu_ctxs (s : State) (v : Amu) : (s.setAmu v).ctxs = s.ctxs := rfl
@[simp] theorem setAmu_stages (s : State) (v : Amu) : (s.setAmu v).stages = s.stages := rfl
@[simp] theorem setAmu_lanes (s : State) (v : Amu) : (s.setAmu v).lanes = s.lanes := rfl
@[simp] theorem setAmu_basil (s : State) (v : Amu) : (s.setAmu v).basil = s.basil := rfl
@[simp] theorem setAmu_giu (s : State) (v : Amu) : (s.setAmu v).giu = s.giu := rfl
@[simp] theorem setAmu_slewAcc (s : State) (v : Amu) : (s.setAmu v).slewAcc = s.slewAcc := rfl
@[simp] theorem setAmu_frames (s : State) (v : Amu) : (s.setAmu v).frames = s.frames := rfl
@[simp] theorem setAmu_tbgs (s : State) (v : Amu) : (s.setAmu v).tbgs = s.tbgs := rfl
@[simp] theorem setAmu_legs (s : State) (v : Amu) : (s.setAmu v).legs = s.legs := rfl
@[simp] theorem setAmu_mgs (s : State) (v : Amu) : (s.setAmu v).mgs = s.mgs := rfl
@[simp] theorem setAmu_trgs (s : State) (v : Amu) : (s.setAmu v).trgs = s.trgs := rfl
@[simp] theorem setAmu_ports (s : State) (v : Amu) : (s.setAmu v).ports = s.ports := rfl
@[simp] theorem setAmu_sats (s : State) (v : Amu) : (s.setAmu v).sats = s.sats := rfl
@[simp] theorem setAmu_sage (s : State) (v : Amu) : (s.setAmu v).sage = s.sage := rfl
@[simp] theorem setAmu_wdgs (s : State) (v : Amu) : (s.setAmu v).wdgs = s.wdgs := rfl
@[simp] theorem setAmu_tms (s : State) (v : Amu) : (s.setAmu v).tms = s.tms := rfl
@[simp] theorem setAmu_diss (s : State) (v : Amu) : (s.setAmu v).diss = s.diss := rfl
@[simp] theorem setAmu_livs (s : State) (v : Amu) : (s.setAmu v).livs = s.livs := rfl
@[simp] theorem setAmu_apcs (s : State) (v : Amu) : (s.setAmu v).apcs = s.apcs := rfl
@[simp] theorem setAmu_pair (s : State) (v : Amu) : (s.setAmu v).pair = s.pair := rfl
@[simp] theorem setAmu_msio (s : State) (v : Amu) : (s.setAmu v).msio = s.msio := rfl
@[simp] theorem setAmu_adcs (s : State) (v : Amu) : (s.setAmu v).adcs = s.adcs := rfl
@[simp] theorem setAmu_fbs (s : State) (v : Amu) : (s.setAmu v).fbs = s.fbs := rfl
@[simp] theorem setAmu_ress (s : State) (v : Amu) : (s.setAmu v).ress = s.ress := rfl
@[simp] theorem setAmu_emus (s : State) (v : Amu) : (s.setAmu v).emus = s.emus := rfl
@[simp] theorem setAmu_amu (s : State) (v : Amu) : (s.setAmu v).amu = v := rfl
@[simp] theorem setAmu_cans (s : State) (v : Amu) : (s.setAmu v).cans = s.cans := rfl
@[simp] theorem setAmu_hpm (s : State) (v : Amu) : (s.setAmu v).hpm = s.hpm := rfl
@[simp] theorem setAmu_rosem (s : State) (v : Amu) : (s.setAmu v).rosem = s.rosem := rfl
@[simp] theorem setAmu_bist (s : State) (v : Amu) : (s.setAmu v).bist = s.bist := rfl
@[simp] theorem setAmu_pending (s : State) (v : Amu) : (s.setAmu v).pending = s.pending := rfl

@[simp] theorem setCans_now (s : State) (v : Tab CanSt) : (s.setCans v).now = s.now := rfl
@[simp] theorem setCans_free (s : State) (v : Tab CanSt) : (s.setCans v).free = s.free := rfl
@[simp] theorem setCans_regs (s : State) (v : Tab CanSt) : (s.setCans v).regs = s.regs := rfl
@[simp] theorem setCans_bnd (s : State) (v : Tab CanSt) : (s.setCans v).bnd = s.bnd := rfl
@[simp] theorem setCans_cmt (s : State) (v : Tab CanSt) : (s.setCans v).cmt = s.cmt := rfl
@[simp] theorem setCans_tmr (s : State) (v : Tab CanSt) : (s.setCans v).tmr = s.tmr := rfl
@[simp] theorem setCans_crcRun (s : State) (v : Tab CanSt) : (s.setCans v).crcRun = s.crcRun := rfl
@[simp] theorem setCans_mem (s : State) (v : Tab CanSt) : (s.setCans v).mem = s.mem := rfl
@[simp] theorem setCans_bus (s : State) (v : Tab CanSt) : (s.setCans v).bus = s.bus := rfl
@[simp] theorem setCans_wardens (s : State) (v : Tab CanSt) : (s.setCans v).wardens = s.wardens := rfl
@[simp] theorem setCans_links (s : State) (v : Tab CanSt) : (s.setCans v).links = s.links := rfl
@[simp] theorem setCans_ctxs (s : State) (v : Tab CanSt) : (s.setCans v).ctxs = s.ctxs := rfl
@[simp] theorem setCans_stages (s : State) (v : Tab CanSt) : (s.setCans v).stages = s.stages := rfl
@[simp] theorem setCans_lanes (s : State) (v : Tab CanSt) : (s.setCans v).lanes = s.lanes := rfl
@[simp] theorem setCans_basil (s : State) (v : Tab CanSt) : (s.setCans v).basil = s.basil := rfl
@[simp] theorem setCans_giu (s : State) (v : Tab CanSt) : (s.setCans v).giu = s.giu := rfl
@[simp] theorem setCans_slewAcc (s : State) (v : Tab CanSt) : (s.setCans v).slewAcc = s.slewAcc := rfl
@[simp] theorem setCans_frames (s : State) (v : Tab CanSt) : (s.setCans v).frames = s.frames := rfl
@[simp] theorem setCans_tbgs (s : State) (v : Tab CanSt) : (s.setCans v).tbgs = s.tbgs := rfl
@[simp] theorem setCans_legs (s : State) (v : Tab CanSt) : (s.setCans v).legs = s.legs := rfl
@[simp] theorem setCans_mgs (s : State) (v : Tab CanSt) : (s.setCans v).mgs = s.mgs := rfl
@[simp] theorem setCans_trgs (s : State) (v : Tab CanSt) : (s.setCans v).trgs = s.trgs := rfl
@[simp] theorem setCans_ports (s : State) (v : Tab CanSt) : (s.setCans v).ports = s.ports := rfl
@[simp] theorem setCans_sats (s : State) (v : Tab CanSt) : (s.setCans v).sats = s.sats := rfl
@[simp] theorem setCans_sage (s : State) (v : Tab CanSt) : (s.setCans v).sage = s.sage := rfl
@[simp] theorem setCans_wdgs (s : State) (v : Tab CanSt) : (s.setCans v).wdgs = s.wdgs := rfl
@[simp] theorem setCans_tms (s : State) (v : Tab CanSt) : (s.setCans v).tms = s.tms := rfl
@[simp] theorem setCans_diss (s : State) (v : Tab CanSt) : (s.setCans v).diss = s.diss := rfl
@[simp] theorem setCans_livs (s : State) (v : Tab CanSt) : (s.setCans v).livs = s.livs := rfl
@[simp] theorem setCans_apcs (s : State) (v : Tab CanSt) : (s.setCans v).apcs = s.apcs := rfl
@[simp] theorem setCans_pair (s : State) (v : Tab CanSt) : (s.setCans v).pair = s.pair := rfl
@[simp] theorem setCans_msio (s : State) (v : Tab CanSt) : (s.setCans v).msio = s.msio := rfl
@[simp] theorem setCans_adcs (s : State) (v : Tab CanSt) : (s.setCans v).adcs = s.adcs := rfl
@[simp] theorem setCans_fbs (s : State) (v : Tab CanSt) : (s.setCans v).fbs = s.fbs := rfl
@[simp] theorem setCans_ress (s : State) (v : Tab CanSt) : (s.setCans v).ress = s.ress := rfl
@[simp] theorem setCans_emus (s : State) (v : Tab CanSt) : (s.setCans v).emus = s.emus := rfl
@[simp] theorem setCans_amu (s : State) (v : Tab CanSt) : (s.setCans v).amu = s.amu := rfl
@[simp] theorem setCans_cans (s : State) (v : Tab CanSt) : (s.setCans v).cans = v := rfl
@[simp] theorem setCans_hpm (s : State) (v : Tab CanSt) : (s.setCans v).hpm = s.hpm := rfl
@[simp] theorem setCans_rosem (s : State) (v : Tab CanSt) : (s.setCans v).rosem = s.rosem := rfl
@[simp] theorem setCans_bist (s : State) (v : Tab CanSt) : (s.setCans v).bist = s.bist := rfl
@[simp] theorem setCans_pending (s : State) (v : Tab CanSt) : (s.setCans v).pending = s.pending := rfl

@[simp] theorem setHpm_now (s : State) (v : Hpm) : (s.setHpm v).now = s.now := rfl
@[simp] theorem setHpm_free (s : State) (v : Hpm) : (s.setHpm v).free = s.free := rfl
@[simp] theorem setHpm_regs (s : State) (v : Hpm) : (s.setHpm v).regs = s.regs := rfl
@[simp] theorem setHpm_bnd (s : State) (v : Hpm) : (s.setHpm v).bnd = s.bnd := rfl
@[simp] theorem setHpm_cmt (s : State) (v : Hpm) : (s.setHpm v).cmt = s.cmt := rfl
@[simp] theorem setHpm_tmr (s : State) (v : Hpm) : (s.setHpm v).tmr = s.tmr := rfl
@[simp] theorem setHpm_crcRun (s : State) (v : Hpm) : (s.setHpm v).crcRun = s.crcRun := rfl
@[simp] theorem setHpm_mem (s : State) (v : Hpm) : (s.setHpm v).mem = s.mem := rfl
@[simp] theorem setHpm_bus (s : State) (v : Hpm) : (s.setHpm v).bus = s.bus := rfl
@[simp] theorem setHpm_wardens (s : State) (v : Hpm) : (s.setHpm v).wardens = s.wardens := rfl
@[simp] theorem setHpm_links (s : State) (v : Hpm) : (s.setHpm v).links = s.links := rfl
@[simp] theorem setHpm_ctxs (s : State) (v : Hpm) : (s.setHpm v).ctxs = s.ctxs := rfl
@[simp] theorem setHpm_stages (s : State) (v : Hpm) : (s.setHpm v).stages = s.stages := rfl
@[simp] theorem setHpm_lanes (s : State) (v : Hpm) : (s.setHpm v).lanes = s.lanes := rfl
@[simp] theorem setHpm_basil (s : State) (v : Hpm) : (s.setHpm v).basil = s.basil := rfl
@[simp] theorem setHpm_giu (s : State) (v : Hpm) : (s.setHpm v).giu = s.giu := rfl
@[simp] theorem setHpm_slewAcc (s : State) (v : Hpm) : (s.setHpm v).slewAcc = s.slewAcc := rfl
@[simp] theorem setHpm_frames (s : State) (v : Hpm) : (s.setHpm v).frames = s.frames := rfl
@[simp] theorem setHpm_tbgs (s : State) (v : Hpm) : (s.setHpm v).tbgs = s.tbgs := rfl
@[simp] theorem setHpm_legs (s : State) (v : Hpm) : (s.setHpm v).legs = s.legs := rfl
@[simp] theorem setHpm_mgs (s : State) (v : Hpm) : (s.setHpm v).mgs = s.mgs := rfl
@[simp] theorem setHpm_trgs (s : State) (v : Hpm) : (s.setHpm v).trgs = s.trgs := rfl
@[simp] theorem setHpm_ports (s : State) (v : Hpm) : (s.setHpm v).ports = s.ports := rfl
@[simp] theorem setHpm_sats (s : State) (v : Hpm) : (s.setHpm v).sats = s.sats := rfl
@[simp] theorem setHpm_sage (s : State) (v : Hpm) : (s.setHpm v).sage = s.sage := rfl
@[simp] theorem setHpm_wdgs (s : State) (v : Hpm) : (s.setHpm v).wdgs = s.wdgs := rfl
@[simp] theorem setHpm_tms (s : State) (v : Hpm) : (s.setHpm v).tms = s.tms := rfl
@[simp] theorem setHpm_diss (s : State) (v : Hpm) : (s.setHpm v).diss = s.diss := rfl
@[simp] theorem setHpm_livs (s : State) (v : Hpm) : (s.setHpm v).livs = s.livs := rfl
@[simp] theorem setHpm_apcs (s : State) (v : Hpm) : (s.setHpm v).apcs = s.apcs := rfl
@[simp] theorem setHpm_pair (s : State) (v : Hpm) : (s.setHpm v).pair = s.pair := rfl
@[simp] theorem setHpm_msio (s : State) (v : Hpm) : (s.setHpm v).msio = s.msio := rfl
@[simp] theorem setHpm_adcs (s : State) (v : Hpm) : (s.setHpm v).adcs = s.adcs := rfl
@[simp] theorem setHpm_fbs (s : State) (v : Hpm) : (s.setHpm v).fbs = s.fbs := rfl
@[simp] theorem setHpm_ress (s : State) (v : Hpm) : (s.setHpm v).ress = s.ress := rfl
@[simp] theorem setHpm_emus (s : State) (v : Hpm) : (s.setHpm v).emus = s.emus := rfl
@[simp] theorem setHpm_amu (s : State) (v : Hpm) : (s.setHpm v).amu = s.amu := rfl
@[simp] theorem setHpm_cans (s : State) (v : Hpm) : (s.setHpm v).cans = s.cans := rfl
@[simp] theorem setHpm_hpm (s : State) (v : Hpm) : (s.setHpm v).hpm = v := rfl
@[simp] theorem setHpm_rosem (s : State) (v : Hpm) : (s.setHpm v).rosem = s.rosem := rfl
@[simp] theorem setHpm_bist (s : State) (v : Hpm) : (s.setHpm v).bist = s.bist := rfl
@[simp] theorem setHpm_pending (s : State) (v : Hpm) : (s.setHpm v).pending = s.pending := rfl

@[simp] theorem setRosem_now (s : State) (v : RecSt) : (s.setRosem v).now = s.now := rfl
@[simp] theorem setRosem_free (s : State) (v : RecSt) : (s.setRosem v).free = s.free := rfl
@[simp] theorem setRosem_regs (s : State) (v : RecSt) : (s.setRosem v).regs = s.regs := rfl
@[simp] theorem setRosem_bnd (s : State) (v : RecSt) : (s.setRosem v).bnd = s.bnd := rfl
@[simp] theorem setRosem_cmt (s : State) (v : RecSt) : (s.setRosem v).cmt = s.cmt := rfl
@[simp] theorem setRosem_tmr (s : State) (v : RecSt) : (s.setRosem v).tmr = s.tmr := rfl
@[simp] theorem setRosem_crcRun (s : State) (v : RecSt) : (s.setRosem v).crcRun = s.crcRun := rfl
@[simp] theorem setRosem_mem (s : State) (v : RecSt) : (s.setRosem v).mem = s.mem := rfl
@[simp] theorem setRosem_bus (s : State) (v : RecSt) : (s.setRosem v).bus = s.bus := rfl
@[simp] theorem setRosem_wardens (s : State) (v : RecSt) : (s.setRosem v).wardens = s.wardens := rfl
@[simp] theorem setRosem_links (s : State) (v : RecSt) : (s.setRosem v).links = s.links := rfl
@[simp] theorem setRosem_ctxs (s : State) (v : RecSt) : (s.setRosem v).ctxs = s.ctxs := rfl
@[simp] theorem setRosem_stages (s : State) (v : RecSt) : (s.setRosem v).stages = s.stages := rfl
@[simp] theorem setRosem_lanes (s : State) (v : RecSt) : (s.setRosem v).lanes = s.lanes := rfl
@[simp] theorem setRosem_basil (s : State) (v : RecSt) : (s.setRosem v).basil = s.basil := rfl
@[simp] theorem setRosem_giu (s : State) (v : RecSt) : (s.setRosem v).giu = s.giu := rfl
@[simp] theorem setRosem_slewAcc (s : State) (v : RecSt) : (s.setRosem v).slewAcc = s.slewAcc := rfl
@[simp] theorem setRosem_frames (s : State) (v : RecSt) : (s.setRosem v).frames = s.frames := rfl
@[simp] theorem setRosem_tbgs (s : State) (v : RecSt) : (s.setRosem v).tbgs = s.tbgs := rfl
@[simp] theorem setRosem_legs (s : State) (v : RecSt) : (s.setRosem v).legs = s.legs := rfl
@[simp] theorem setRosem_mgs (s : State) (v : RecSt) : (s.setRosem v).mgs = s.mgs := rfl
@[simp] theorem setRosem_trgs (s : State) (v : RecSt) : (s.setRosem v).trgs = s.trgs := rfl
@[simp] theorem setRosem_ports (s : State) (v : RecSt) : (s.setRosem v).ports = s.ports := rfl
@[simp] theorem setRosem_sats (s : State) (v : RecSt) : (s.setRosem v).sats = s.sats := rfl
@[simp] theorem setRosem_sage (s : State) (v : RecSt) : (s.setRosem v).sage = s.sage := rfl
@[simp] theorem setRosem_wdgs (s : State) (v : RecSt) : (s.setRosem v).wdgs = s.wdgs := rfl
@[simp] theorem setRosem_tms (s : State) (v : RecSt) : (s.setRosem v).tms = s.tms := rfl
@[simp] theorem setRosem_diss (s : State) (v : RecSt) : (s.setRosem v).diss = s.diss := rfl
@[simp] theorem setRosem_livs (s : State) (v : RecSt) : (s.setRosem v).livs = s.livs := rfl
@[simp] theorem setRosem_apcs (s : State) (v : RecSt) : (s.setRosem v).apcs = s.apcs := rfl
@[simp] theorem setRosem_pair (s : State) (v : RecSt) : (s.setRosem v).pair = s.pair := rfl
@[simp] theorem setRosem_msio (s : State) (v : RecSt) : (s.setRosem v).msio = s.msio := rfl
@[simp] theorem setRosem_adcs (s : State) (v : RecSt) : (s.setRosem v).adcs = s.adcs := rfl
@[simp] theorem setRosem_fbs (s : State) (v : RecSt) : (s.setRosem v).fbs = s.fbs := rfl
@[simp] theorem setRosem_ress (s : State) (v : RecSt) : (s.setRosem v).ress = s.ress := rfl
@[simp] theorem setRosem_emus (s : State) (v : RecSt) : (s.setRosem v).emus = s.emus := rfl
@[simp] theorem setRosem_amu (s : State) (v : RecSt) : (s.setRosem v).amu = s.amu := rfl
@[simp] theorem setRosem_cans (s : State) (v : RecSt) : (s.setRosem v).cans = s.cans := rfl
@[simp] theorem setRosem_hpm (s : State) (v : RecSt) : (s.setRosem v).hpm = s.hpm := rfl
@[simp] theorem setRosem_rosem (s : State) (v : RecSt) : (s.setRosem v).rosem = v := rfl
@[simp] theorem setRosem_bist (s : State) (v : RecSt) : (s.setRosem v).bist = s.bist := rfl
@[simp] theorem setRosem_pending (s : State) (v : RecSt) : (s.setRosem v).pending = s.pending := rfl

@[simp] theorem setBist_now (s : State) (v : BistSt) : (s.setBist v).now = s.now := rfl
@[simp] theorem setBist_free (s : State) (v : BistSt) : (s.setBist v).free = s.free := rfl
@[simp] theorem setBist_regs (s : State) (v : BistSt) : (s.setBist v).regs = s.regs := rfl
@[simp] theorem setBist_bnd (s : State) (v : BistSt) : (s.setBist v).bnd = s.bnd := rfl
@[simp] theorem setBist_cmt (s : State) (v : BistSt) : (s.setBist v).cmt = s.cmt := rfl
@[simp] theorem setBist_tmr (s : State) (v : BistSt) : (s.setBist v).tmr = s.tmr := rfl
@[simp] theorem setBist_crcRun (s : State) (v : BistSt) : (s.setBist v).crcRun = s.crcRun := rfl
@[simp] theorem setBist_mem (s : State) (v : BistSt) : (s.setBist v).mem = s.mem := rfl
@[simp] theorem setBist_bus (s : State) (v : BistSt) : (s.setBist v).bus = s.bus := rfl
@[simp] theorem setBist_wardens (s : State) (v : BistSt) : (s.setBist v).wardens = s.wardens := rfl
@[simp] theorem setBist_links (s : State) (v : BistSt) : (s.setBist v).links = s.links := rfl
@[simp] theorem setBist_ctxs (s : State) (v : BistSt) : (s.setBist v).ctxs = s.ctxs := rfl
@[simp] theorem setBist_stages (s : State) (v : BistSt) : (s.setBist v).stages = s.stages := rfl
@[simp] theorem setBist_lanes (s : State) (v : BistSt) : (s.setBist v).lanes = s.lanes := rfl
@[simp] theorem setBist_basil (s : State) (v : BistSt) : (s.setBist v).basil = s.basil := rfl
@[simp] theorem setBist_giu (s : State) (v : BistSt) : (s.setBist v).giu = s.giu := rfl
@[simp] theorem setBist_slewAcc (s : State) (v : BistSt) : (s.setBist v).slewAcc = s.slewAcc := rfl
@[simp] theorem setBist_frames (s : State) (v : BistSt) : (s.setBist v).frames = s.frames := rfl
@[simp] theorem setBist_tbgs (s : State) (v : BistSt) : (s.setBist v).tbgs = s.tbgs := rfl
@[simp] theorem setBist_legs (s : State) (v : BistSt) : (s.setBist v).legs = s.legs := rfl
@[simp] theorem setBist_mgs (s : State) (v : BistSt) : (s.setBist v).mgs = s.mgs := rfl
@[simp] theorem setBist_trgs (s : State) (v : BistSt) : (s.setBist v).trgs = s.trgs := rfl
@[simp] theorem setBist_ports (s : State) (v : BistSt) : (s.setBist v).ports = s.ports := rfl
@[simp] theorem setBist_sats (s : State) (v : BistSt) : (s.setBist v).sats = s.sats := rfl
@[simp] theorem setBist_sage (s : State) (v : BistSt) : (s.setBist v).sage = s.sage := rfl
@[simp] theorem setBist_wdgs (s : State) (v : BistSt) : (s.setBist v).wdgs = s.wdgs := rfl
@[simp] theorem setBist_tms (s : State) (v : BistSt) : (s.setBist v).tms = s.tms := rfl
@[simp] theorem setBist_diss (s : State) (v : BistSt) : (s.setBist v).diss = s.diss := rfl
@[simp] theorem setBist_livs (s : State) (v : BistSt) : (s.setBist v).livs = s.livs := rfl
@[simp] theorem setBist_apcs (s : State) (v : BistSt) : (s.setBist v).apcs = s.apcs := rfl
@[simp] theorem setBist_pair (s : State) (v : BistSt) : (s.setBist v).pair = s.pair := rfl
@[simp] theorem setBist_msio (s : State) (v : BistSt) : (s.setBist v).msio = s.msio := rfl
@[simp] theorem setBist_adcs (s : State) (v : BistSt) : (s.setBist v).adcs = s.adcs := rfl
@[simp] theorem setBist_fbs (s : State) (v : BistSt) : (s.setBist v).fbs = s.fbs := rfl
@[simp] theorem setBist_ress (s : State) (v : BistSt) : (s.setBist v).ress = s.ress := rfl
@[simp] theorem setBist_emus (s : State) (v : BistSt) : (s.setBist v).emus = s.emus := rfl
@[simp] theorem setBist_amu (s : State) (v : BistSt) : (s.setBist v).amu = s.amu := rfl
@[simp] theorem setBist_cans (s : State) (v : BistSt) : (s.setBist v).cans = s.cans := rfl
@[simp] theorem setBist_hpm (s : State) (v : BistSt) : (s.setBist v).hpm = s.hpm := rfl
@[simp] theorem setBist_rosem (s : State) (v : BistSt) : (s.setBist v).rosem = s.rosem := rfl
@[simp] theorem setBist_bist (s : State) (v : BistSt) : (s.setBist v).bist = v := rfl
@[simp] theorem setBist_pending (s : State) (v : BistSt) : (s.setBist v).pending = s.pending := rfl

@[simp] theorem setPending_now (s : State) (v : List Instr) : (s.setPending v).now = s.now := rfl
@[simp] theorem setPending_free (s : State) (v : List Instr) : (s.setPending v).free = s.free := rfl
@[simp] theorem setPending_regs (s : State) (v : List Instr) : (s.setPending v).regs = s.regs := rfl
@[simp] theorem setPending_bnd (s : State) (v : List Instr) : (s.setPending v).bnd = s.bnd := rfl
@[simp] theorem setPending_cmt (s : State) (v : List Instr) : (s.setPending v).cmt = s.cmt := rfl
@[simp] theorem setPending_tmr (s : State) (v : List Instr) : (s.setPending v).tmr = s.tmr := rfl
@[simp] theorem setPending_crcRun (s : State) (v : List Instr) : (s.setPending v).crcRun = s.crcRun := rfl
@[simp] theorem setPending_mem (s : State) (v : List Instr) : (s.setPending v).mem = s.mem := rfl
@[simp] theorem setPending_bus (s : State) (v : List Instr) : (s.setPending v).bus = s.bus := rfl
@[simp] theorem setPending_wardens (s : State) (v : List Instr) : (s.setPending v).wardens = s.wardens := rfl
@[simp] theorem setPending_links (s : State) (v : List Instr) : (s.setPending v).links = s.links := rfl
@[simp] theorem setPending_ctxs (s : State) (v : List Instr) : (s.setPending v).ctxs = s.ctxs := rfl
@[simp] theorem setPending_stages (s : State) (v : List Instr) : (s.setPending v).stages = s.stages := rfl
@[simp] theorem setPending_lanes (s : State) (v : List Instr) : (s.setPending v).lanes = s.lanes := rfl
@[simp] theorem setPending_basil (s : State) (v : List Instr) : (s.setPending v).basil = s.basil := rfl
@[simp] theorem setPending_giu (s : State) (v : List Instr) : (s.setPending v).giu = s.giu := rfl
@[simp] theorem setPending_slewAcc (s : State) (v : List Instr) : (s.setPending v).slewAcc = s.slewAcc := rfl
@[simp] theorem setPending_frames (s : State) (v : List Instr) : (s.setPending v).frames = s.frames := rfl
@[simp] theorem setPending_tbgs (s : State) (v : List Instr) : (s.setPending v).tbgs = s.tbgs := rfl
@[simp] theorem setPending_legs (s : State) (v : List Instr) : (s.setPending v).legs = s.legs := rfl
@[simp] theorem setPending_mgs (s : State) (v : List Instr) : (s.setPending v).mgs = s.mgs := rfl
@[simp] theorem setPending_trgs (s : State) (v : List Instr) : (s.setPending v).trgs = s.trgs := rfl
@[simp] theorem setPending_ports (s : State) (v : List Instr) : (s.setPending v).ports = s.ports := rfl
@[simp] theorem setPending_sats (s : State) (v : List Instr) : (s.setPending v).sats = s.sats := rfl
@[simp] theorem setPending_sage (s : State) (v : List Instr) : (s.setPending v).sage = s.sage := rfl
@[simp] theorem setPending_wdgs (s : State) (v : List Instr) : (s.setPending v).wdgs = s.wdgs := rfl
@[simp] theorem setPending_tms (s : State) (v : List Instr) : (s.setPending v).tms = s.tms := rfl
@[simp] theorem setPending_diss (s : State) (v : List Instr) : (s.setPending v).diss = s.diss := rfl
@[simp] theorem setPending_livs (s : State) (v : List Instr) : (s.setPending v).livs = s.livs := rfl
@[simp] theorem setPending_apcs (s : State) (v : List Instr) : (s.setPending v).apcs = s.apcs := rfl
@[simp] theorem setPending_pair (s : State) (v : List Instr) : (s.setPending v).pair = s.pair := rfl
@[simp] theorem setPending_msio (s : State) (v : List Instr) : (s.setPending v).msio = s.msio := rfl
@[simp] theorem setPending_adcs (s : State) (v : List Instr) : (s.setPending v).adcs = s.adcs := rfl
@[simp] theorem setPending_fbs (s : State) (v : List Instr) : (s.setPending v).fbs = s.fbs := rfl
@[simp] theorem setPending_ress (s : State) (v : List Instr) : (s.setPending v).ress = s.ress := rfl
@[simp] theorem setPending_emus (s : State) (v : List Instr) : (s.setPending v).emus = s.emus := rfl
@[simp] theorem setPending_amu (s : State) (v : List Instr) : (s.setPending v).amu = s.amu := rfl
@[simp] theorem setPending_cans (s : State) (v : List Instr) : (s.setPending v).cans = s.cans := rfl
@[simp] theorem setPending_hpm (s : State) (v : List Instr) : (s.setPending v).hpm = s.hpm := rfl
@[simp] theorem setPending_rosem (s : State) (v : List Instr) : (s.setPending v).rosem = s.rosem := rfl
@[simp] theorem setPending_bist (s : State) (v : List Instr) : (s.setPending v).bist = s.bist := rfl
@[simp] theorem setPending_pending (s : State) (v : List Instr) : (s.setPending v).pending = v := rfl

end Sys2Proof.Laws
end

