-- ==== Sys2Proof/Tests/Slice0.lean ====
section
/-! SUPPORT. Tests: ill-formed commands are refused, values of the spec's own tables and examples, and states that meet the hypotheses of the
statements. -/
namespace Sys2Proof.Tests
open Sys2Proof Sys2Proof.Machine
set_option Elab.async false
set_option maxRecDepth 20000

/-- The state after reset with some fields at given values. -/
def setup (l : List (Fld × Nat)) : State := l.foldl (fun s x => s.put x.1 x.2) State.reset

/-- Words of a context area. -/
def area (k : Nat) (l : List (Nat × Word)) (s : State) : State := l.foldl (fun s x => s.putCw k x.1 x.2) s

/-- Context 0 admitted for kernel K_PI with a timer, in a given working state. -/
def kpi (c : Ctx) : State :=
  (area 0 [(0, 0x07000000), (8, 0x14300401), (12, 8000), (0x40, 0x30000000)]
    (setup [(fENG_KS_STAT_state, 0), (fENG_CFG_sched_en, 1)])).putCtx 0 c

/-! Ill-formed commands, one for each length WellFormed checks (01_register_pages.md R37 and the rules Instr.wf cites). -/

theorem test_wf_hrp_write : (Instr.hrpWrite 0 [] 0).wf = false := by decide
theorem test_wf_hrp_read : (Instr.hrpRead 0 65 0).wf = false := by decide
theorem test_wf_safe_copy (c : Fin 16) (b : Bool) : (Instr.safeCopy c b (List.replicate 65 0)).wf = false := by
  simp [Instr.wf]
theorem test_wf_dbg : (Instr.dbgResp []).wf = false := by decide
theorem test_wf_thermal_read : (Instr.thermalRead [0]).wf = false := by decide
theorem test_wf_thermal_hold : (Instr.thermalHold [0]).wf = false := by decide

theorem test_wf_can_frame : (Instr.frameReceived 0 ⟨0, 15, true, false, false, List.replicate 65 0⟩ 0).wf = false := by decide +kernel
theorem test_wf_rec_event : (Instr.recEvent 1 0 0 0 (List.replicate 41 0)).wf = false := by decide +kernel
theorem test_wf_mirror : (Instr.mirror ⟨0, true⟩ 0 0 true [] []).wf = false := by decide +kernel
theorem test_wf_bulk : (Instr.bulk ⟨0, true⟩ 0 0 true (List.replicate 32 0) [1]).wf = false := by decide +kernel
theorem test_wf_heart : (Instr.heart ⟨0, true⟩ [0, 1]).wf = false := by decide +kernel
theorem test_wf_set : (Instr.setRec ⟨0, true⟩ 0 0 0 0 3 3 []).wf = false := by decide +kernel
theorem test_wf_sample_take : (Instr.sampleTake 0 .a [1] [0, 0, 0, 0] [0, 0, 0, 0]).wf = false := by decide +kernel
theorem test_wf_good : (Instr.hrpWrite 0x40000040 [1, 2] 0).wf = true := by decide

/-! What meets the hypotheses of the statements. -/

/-- The state after reset while the kernel store is verified, with a reference. -/
def verifying (v : Word) : State := (State.reset.setBasil { ksRun := true }).wr aENG_KS_CRC v

theorem verifying_mem (v : Word) (a n : Nat) : (verifying v).memRead a n = State.reset.memRead a n := rfl
theorem verifying_ref (v : Word) : (verifying v).rd aENG_KS_CRC = v := Laws.rd_wr_same _ _ _

theorem test_KernelStore_4 : ∃ (s : State), s.basil.ksRun = true ∧ crc32c (s.memRead 0x30040000 0x20000) = s.rd aENG_KS_CRC :=
  ⟨verifying (crc32c (State.reset.memRead 0x30040000 0x20000)), rfl, by rw [verifying_mem, verifying_ref]⟩

theorem word_succ_ne (x : Word) : x ≠ x + 1 := by bv_omega

theorem test_KernelStore_5 : ∃ (s : State), s.basil.ksRun = true ∧ crc32c (s.memRead 0x30040000 0x20000) ≠ s.rd aENG_KS_CRC :=
  ⟨verifying (crc32c (State.reset.memRead 0x30040000 0x20000) + 1), rfl, by
    rw [verifying_mem, verifying_ref]; exact word_succ_ne _⟩

theorem test_HeaderControl_1 : ∃ (r : Req) (b : Block) (s : State), s.grants r (hdr b + 8) true = true :=
  ⟨.apc0, .ndl, setup [], by decide +kernel⟩

theorem test_HeaderControl_2 : ∃ (r : Req) (b : Block) (s : State), s.grants r (hdr b + 8) true = true ∧ capCrc b = true ∧ s.on (hCtrl (hdr b) 2) = false :=
  ⟨.apc1, .ndl, setup [], by decide +kernel⟩

theorem test_HeaderControl_3 : ∃ (r : Req) (b : Block) (s : State), s.grants r (hdr b + 8) true = true ∧ capCrc b = true ∧ s.on (hCtrl (hdr b) 2) = true :=
  ⟨.apc0, .adc 3, setup [(hCtrl (hdr (.adc 3)) 2, 1)], by decide +kernel⟩

theorem test_HeaderControl_4 : ∃ (b : Block) (s : State), s.on (hCtrl (hdr b) 2) = true ∧ s.isRun (blockIsland b) = true ∧ Tab.get 0 s.crcRun (hdr b) ≠ 1 :=
  ⟨.giu, setup [(hCtrl (hdr .giu) 2, 1)], by decide +kernel⟩

theorem test_HeaderControl_5 : ∃ (b : Block) (s : State), s.on (hCtrl (hdr b) 2) = true ∧ s.isRun (blockIsland b) = true ∧ Tab.get 0 s.crcRun (hdr b) = 1 :=
  ⟨.giu, (setup [(hCtrl (hdr .giu) 2, 1)]).setCrcRun [(hdr .giu, 1)], by decide +kernel⟩

theorem test_CommitAndAbort_1 : ∃ (r : Req) (b : Block) (gen : Fin 256) (s : State), s.grants r (hdr b + 0x20) true = true ∧ capCmt b = true ∧ s.on (hCmtPend (hdr b)) = false ∧ gen.val = (s.get (hGenApplied (hdr b)) + 1) % 256 ∧ s.frameDue b = none ∧ commitRefusal b (s.granted r b) = none ∧ s.on (hCtrl (hdr b) 0) = true :=
  ⟨.apc0, .giu, 1, setup [], by decide +kernel⟩

theorem test_CommitAndAbort_2 : ∃ (r : Req) (b : Block) (s : State), s.grants r (hdr b + 0x20) true = true ∧ capCmt b = true ∧ s.frameDue b = none :=
  ⟨.apc0, .giu, (setup []).setCmt [(hdr .giu + 0x100, {m := 1, v := 1}), (hdr .ndl + 0x100, {m := 1, v := 1})], by decide +kernel⟩

theorem test_RefusedCommit_1 : ∃ (r : Req) (b : Block) (gen : Fin 256) (s : State), s.grants r (hdr b + 0x20) true = true ∧ capCmt b = true ∧ s.tmr = [] ∧ s.frameDue b = none ∧ ((s.on (hCmtPend (hdr b)) = true ∨ gen.val ≠ (s.get (hGenApplied (hdr b)) + 1) % 256)) :=
  ⟨.apc0, .giu, 2, setup [], by decide +kernel⟩

theorem test_RefusedCommit_2 : ∃ (r : Req) (b : Block) (d : Word) (s : State), s.grants r (hdr b + 0x20) true = true ∧ capCmt b = true ∧ s.tmr = [] ∧ s.frameDue b = none ∧ d.fld 8 2 = 3 :=
  ⟨.apc1, .fbi, 0x304, setup [], by decide +kernel⟩

theorem test_RegisterWrite_1 : ∃ (r : Req) (a : Nat) (s : State), ((r = .apc0 ∨ r = .apc1)) ∧ 0x20000000 ≤ a ∧ a + 3 < 0x20400000 ∧ s.isRun 1 = true :=
  ⟨.apc1, 0x20000001, setup [], by decide +kernel⟩

theorem test_RegisterWrite_2 : ∃ (r : Req) (b : Block) (s : State), s.grants r (hdr b + 0x14) true = true ∧ s.tmr = [] ∧ s.frameDue b = none :=
  ⟨.apc0, .can 2, setup [(⟨0x400A2014, 0, 16⟩, 0xFFFF)], by decide +kernel⟩

theorem test_RegisterWrite_3 : ∃ (r : Req) (n : Fin 4) (a : Nat) (g : RegSpec) (s : State), s.grants r a true = true ∧ s.tmr = [] ∧ s.frameDue (.adc n) = none ∧ blockAt a = some (.adc n) ∧ a % 0x1000 ≠ 0x08 ∧ a % 0x1000 ≠ 0x20 ∧ a ≠ aADC_SWTRIG n.val ∧ specAt a = some g ∧ ((∀ f ∈ g.fields, (f.acc = .rw ∨ f.acc = .rwt) ∧ (f.eff = .cmt ∨ f.eff = .imm))) ∧ s.on (hCmtPend (hdr (.adc n))) = false :=
  ⟨.apc0, 1, aADC_CFG 1, (specAt (aADC_CFG 1)).get (by decide +kernel), setup [], by decide +kernel⟩

theorem test_RegisterWrite_4 : ∃ (r : Req) (b : Block) (a : Nat) (s : State), blockAt a = some b ∧ ((s.verdict r b a true = .denied ∨ s.verdict r b a true = .undefined)) :=
  ⟨.apc0, .sage, hdr .sage + 0x14, setup [], by decide +kernel⟩

theorem test_RegisterWrite_5 : ∃ (r : Req) (b : Block) (a : Nat) (s : State), blockAt a = some b ∧ s.verdict r b a true = .absent :=
  ⟨.apc0, .ndl, hdr .ndl + 8, (setup []).putWarden 7 { st := .absent }, by decide +kernel⟩

theorem test_RegisterWrite_6 : ∃ (b : Block) (a : Nat) (sz : AccSize) (s : State), blockAt a = some b ∧ sz ≠ .word ∧ s.isRun (blockIsland b) = true :=
  ⟨.thy, hdr .thy + 0x14, .half, setup [], by decide +kernel⟩

theorem test_RegisterWrite_7 : ∃ (r : Req) (b : Block) (g : RegSpec) (s : State), s.grants r (hdr b + 0x10) true = true ∧ s.tmr = [] ∧ s.frameDue b = none ∧ specAt (hdr b + 0x10) = some g :=
  ⟨.apc0, .giu, (specAt (hdr .giu + 0x10)).get (by decide +kernel), setup [(⟨hdr .giu + 0x10, 0, 3⟩, 5)], by decide +kernel⟩

theorem test_RegisterRead_1 : ∃ (r : Req) (s : State), s.grants r aENG_LOAD_PEAK false = true ∧ s.tmr = [] :=
  ⟨.apc0, setup [(fENG_LOAD_PEAK_peak, 7)], by decide +kernel⟩

theorem test_RegisterRead_2 : ∃ (r : Req) (a : Nat) (s : State), ((r = .apc0 ∨ r = .apc1)) ∧ 0x20000000 ≤ a ∧ a + 3 < 0x20400000 ∧ s.isRun 1 = true :=
  ⟨.apc0, 0x20000011, (setup []).memPut 0x20000010 0x12345678, by decide +kernel⟩

theorem test_RegisterRead_3 : ∃ (r : Req) (s : State), s.grants r aTHY_NOW_LO false = true :=
  ⟨.sage, (setup []).setNow 0x123456789ABCDEF, by decide +kernel⟩

theorem test_HostPort_1 : ∃ (a : Word) (len : Nat) (crc : BitVec 16) (s : State), 0 < len ∧ len ≤ 64 ∧ s.hrpOn = true ∧ crc.toNat ≠ hrpCrc (hrpFrame 0x0B len a []) :=
  ⟨0x40000000, 3, 0x1234, setup [(fHRP_CFG_hrp_en, 1)], by decide +kernel⟩

theorem test_HostPort_2 : ∃ (a : Word) (len : Nat) (s : State), 0 < len ∧ len ≤ 64 ∧ s.hrpOn = true ∧ a.toNat % 4 ≠ 0 :=
  ⟨0x40000002, 3, setup [(fHRP_CFG_hrp_en, 1)], by decide +kernel⟩

theorem test_HostPort_3 : ∃ (b : Block) (s : State), b ≠ .hrp ∧ s.hrpOn = true ∧ s.grants .hrp (hdr b + 0x14) false = true ∧ s.tmr = [] :=
  ⟨.can 1, setup [(fHRP_CFG_hrp_en, 1), (⟨0x400A1014, 0, 16⟩, 0x55)], by decide +kernel⟩

theorem test_HostPort_4 : ∃ (b : Block) (s : State), b ≠ .hrp ∧ s.hrpOn = true ∧ s.grants .hrp (hdr b + 0x14) true = true ∧ s.tmr = [] ∧ s.frameDue b = none :=
  ⟨.giu, setup [(fHRP_CFG_hrp_en, 1), (⟨aHRP_WR_EN_LO, 0, 32⟩, 0xFFFFFFFF)], by decide +kernel⟩

theorem test_HostPort_5 : ∃ (a : Word) (b : Block) (s : State), s.hrpOn = true ∧ a.toNat % 4 = 0 ∧ blockAt a.toNat = some b ∧ s.verdict .hrp b a.toNat true = .denied :=
  ⟨0x400F0014, .sage, setup [(fHRP_CFG_hrp_en, 1)], by decide +kernel⟩

theorem test_HostPort_7 : ∃ (cmd : Fin 256) (s : State), s.hrpOn = true ∧ cmd.val ≠ 0x0B ∧ cmd.val ≠ 0x02 :=
  ⟨9, setup [(fHRP_CFG_hrp_en, 1)], by decide +kernel⟩

theorem test_ScrubAndBoundary_1 : ∃ (s : State), ((∀ x ∈ s.tmr, (specAt x.1).isSome = true ∧ (blockAt x.1).isSome = true)) :=
  ⟨(setup []).setTmr [(hdr .fab + 0x14, (1, 0))], by decide +kernel⟩

theorem test_ScrubAndBoundary_2 : ∃ (a : Nat) (p : Word × Word) (g : RegSpec) (b : Block) (s : State), s.tmr = [(a, p)] ∧ specAt a = some g ∧ blockAt a = some b ∧ legAt a = none ∧ a ∉ [hdr b + 0x30, hdr b + 0x1C, hdr b + 0x10] :=
  ⟨aFAB_LINK_SEL, (0, 1), (specAt aFAB_LINK_SEL).get (by decide +kernel), .fab, (setup []).setTmr [(aFAB_LINK_SEL, (0, 1))], by decide +kernel⟩

theorem test_ScrubAndBoundary_3 : ∃ (b : Block) (s : State), (∀ c, b ≠ .can c) ∧ framePeriod b ≠ 0 ∧ s.on (hCtrl (hdr b) 0) = true ∧ s.isRun (blockIsland b) = true :=
  ⟨.ndl, (setup []).setBnd [(aNDL_LEAD 0, { m := 1, v := 1 })], by decide +kernel⟩

theorem test_ScrubAndBoundary_4 : ∃ (b : Block) (s : State), (∀ c, b ≠ .can c) ∧ framePeriod b ≠ 0 ∧ s.on (hCtrl (hdr b) 0) = true ∧ s.isRun (blockIsland b) = true ∧ s.on (hCmtPend (hdr b)) = true ∧ s.tmr = [] :=
  ⟨.giu, (setup [(hCmtPend (hdr .giu), 1), (hGenPending (hdr .giu), 1)]).setCmt [(aGIU_LOG_CFG, { m := 2, v := 2 })], by decide +kernel⟩

theorem test_ScrubAndBoundary_5 : ∃ (b : Block) (s : State), b ∈ [Block.fbi, .amu, .msio, .pair, .bist, .sage, .eng] ∧ s.on (hCtrl (hdr b) 0) = true ∧ s.isRun (blockIsland b) = true ∧ s.on (hCmtPend (hdr b)) = false ∧ s.bnd = [] :=
  ⟨.fbi, setup [], by decide +kernel⟩

theorem test_FabricLinks_1 : ∃ (q : Fin 17) (i : Fin 17) (urg : Bool) (s : State), (s.link q.val i.val urg.toNat).slots < linkDepth q.val i.val urg.toNat ∧ (s.link q.val i.val urg.toNat).held ≠ 0 ∧ s.isRun i.val = true :=
  ⟨2, 6, false, setup [], by decide +kernel⟩

theorem test_FabricLinks_2 : ∃ (q : Fin 17) (i : Fin 17) (urg : Bool) (s : State), (s.link q.val i.val urg.toNat).slots < linkDepth q.val i.val urg.toNat ∧ (s.link q.val i.val urg.toNat).held ≠ 0 ∧ s.isRun i.val = false ∧ i.val ≠ 14 :=
  ⟨2, 6, false, (setup []).putWarden 6 { st := .absent }, by decide +kernel⟩

theorem test_FabricLinks_3 : ∃ (q : Fin 17) (i : Fin 17) (urg : Bool) (tag : Nat) (ep : Nat) (a : Nat) (s : State), (s.link q.val i.val urg.toNat).outst.contains (tag, ep) = true ∧ ep = (s.warden q.val).epoch ∧ (s.warden q.val).st = .run ∧ q ≠ i ∧ (s.warden i.val).accepted.find? (fun r => r.src == q.val && r.urg == urg) = some { src := q.val, urg := urg, tag := tag, ep := ep, a := a } :=
  ⟨2, 6, false, 3, 0, 0, ((setup []).putLink 2 6 0 { held := 3, buf := 1, slots := 1, outst := [(3, 0)] }).putWarden 6 { accepted := [{ src := 2, urg := false, tag := 3, ep := 0 }] }, by decide +kernel⟩

theorem test_FabricLinks_4 : ∃ (q : Fin 17) (i : Fin 17) (urg : Bool) (ep : Nat) (s : State), ep ≠ (s.warden q.val).epoch ∧ (s.warden i.val).accepted.find? (fun r => r.src == q.val && r.urg == urg) = none :=
  ⟨2, 6, false, 1, (setup []).putLink 2 6 0 { held := 3, buf := 1, slots := 1, outst := [(3, 1)] }, by decide +kernel⟩

theorem test_FabricLinks_5 : ∃ (q : Fin 17) (i : Fin 17) (urg : Bool) (tag : Nat) (ep : Nat) (s : State), (s.link q.val i.val urg.toNat).outst.contains (tag, ep) = false ∧ ep = (s.warden q.val).epoch ∧ (s.warden q.val).st = .run ∧ (s.warden i.val).accepted.find? (fun r => r.src == q.val && r.urg == urg) = none ∧ s.tmr = [] :=
  ⟨2, 6, false, 3, 0, setup [], by decide +kernel⟩

theorem test_WardenSequence_1 : ∃ (r : Req) (b : Block) (s : State), s.grants r (hdr b + 8) true = true ∧ b ∉ [Block.sys, .hpm, .fab, .apc, .sage, .msio, .hrp] ∧ (blockIsland b ∈ [5, 6, 7] → s.allHeld = true) :=
  ⟨.apc0, .giu, setup [], by decide +kernel⟩

theorem test_WardenSequence_2 : ∃ (r : Req) (b : Block) (s : State), s.grants r (hdr b + 8) true = true ∧ blockIsland b ∈ [5, 6, 7] ∧ s.allHeld = false :=
  ⟨.apc0, .ndl, setup [(fLEG_CFG_en 3, 1), (fMG_CFG_type 0, 1), (fTBG_CFG_mode 0, 1)], by decide +kernel⟩

theorem test_WardenSequence_3 : ∃ (i : Fin 17) (s : State), (s.warden i.val).st = .run ∧ (s.warden i.val).accepted = [] ∧ i.val ∉ [0, 4, 16] :=
  ⟨8, setup [], by decide +kernel⟩

theorem test_WardenSequence_4 : ∃ (i : Fin 17) (s : State), (s.warden i.val).st = .drain ∧ (s.warden i.val).accepted = [] :=
  ⟨8, (setup []).putWarden 8 { st := .drain }, by decide +kernel⟩

theorem test_WardenSequence_5 : ∃ (i : Fin 17) (s : State), (s.warden i.val).st = .drain :=
  ⟨8, ((setup []).setNow 5000).putWarden 8 { st := .drain, limit := 20, since := 100, accepted := [{ src := 2, urg := false, tag := 3, ep := 0 }] }, by decide +kernel⟩

theorem test_WardenSequence_6 : ∃ (i : Fin 17) (s : State), (s.warden i.val).st = .retire ∧ (s.warden i.val).purpose ≠ .powerDown ∧ s.tmr = [] :=
  ⟨10, (setup []).putWarden 10 { st := .retire, purpose := .reset, accepted := [{ src := 2, urg := false, tag := 3, ep := 0 }] }, by decide +kernel⟩

theorem test_WardenSequence_7 : ∃ (i : Fin 17) (s : State), (s.warden i.val).st = .retire ∧ s.tmr = [] :=
  ⟨10, (setup []).putWarden 10 { st := .retire }, by decide +kernel⟩

theorem test_WardenSequence_8 : ∃ (i : Fin 17) (s : State), (s.warden i.val).st = .absent ∧ (s.warden i.val).purpose = .reset :=
  ⟨10, (setup []).putWarden 10 { st := .absent, purpose := .reset, since := 7 }, by decide +kernel⟩

theorem test_CreditAudit_1 : ∃ (s : State), (∀ x ∈ allLinks, linkBalanced (linkDepth x.1 x.2.1 x.2.2) (s.link x.1 x.2.1 x.2.2) = true) :=
  ⟨setup [], by decide +kernel⟩

theorem test_CreditAudit_2 : ∃ (q : Nat) (i : Nat) (c : Nat) (s : State), (q, i, c) ∈ allLinks ∧ linkBalanced (linkDepth q i c) (s.link q i c) = false ∧ s.tmr = [] :=
  ⟨2, 6, 0, (setup []).putLink 2 6 0 { held := 3, buf := 0, slots := 1, outst := [(3, 0)] }, by decide +kernel⟩

theorem test_ContextCommands_1 : ∃ (r : Req) (k : Nat) (s : State), s.grants r aCTX_W_CMD true = true ∧ s.wsel r = k ∧ (s.ctx k).st = .off ∧ s.admitCode k = 0 :=
  ⟨.apc0, 0, kpi {}, by decide +kernel⟩

theorem test_ContextCommands_2 : ∃ (r : Req) (k : Nat) (s : State), s.grants r aCTX_W_CMD true = true ∧ s.wsel r = k ∧ (s.ctx k).st = .off ∧ s.admitCode k ≠ 0 :=
  ⟨.apc0, 0, setup [], by decide +kernel⟩

theorem test_ContextCommands_3 : ∃ (r : Req) (k : Nat) (s : State), s.grants r aCTX_W_CMD true = true ∧ s.wsel r = k ∧ (s.ctx k).st ≠ .off :=
  ⟨.apc0, 0, kpi { st := .run }, by decide +kernel⟩

theorem test_ContextCommands_4 : ∃ (r : Req) (k : Nat) (s : State), s.grants r aCTX_W_CMD true = true ∧ s.wsel r = k ∧ (s.ctx k).st = .admitted ∧ s.mayStart k = true ∧ (s.ctx k).cmtGen = none ∧ Tab.find s.bnd (inst k aCTX_W_SRC) = none ∧ Tab.find s.bnd (inst k aCTX_W_SETP) = none ∧ Tab.find s.bnd (inst k aCTX_W_ILIM) = none :=
  ⟨.apc0, 0, kpi { st := .admitted, stepNo := 7 }, by decide +kernel⟩

theorem test_ContextCommands_5 : ∃ (r : Req) (k : Nat) (s : State), s.grants r aCTX_W_CMD true = true ∧ s.wsel r = k ∧ (s.ctx k).st = .admitted ∧ s.mayStart k = false :=
  ⟨.apc0, 0, (kpi { st := .admitted }).put fENG_CFG_sched_en 0, by decide +kernel⟩

theorem test_ContextCommands_6 : ∃ (r : Req) (k : Nat) (s : State), s.grants r aCTX_W_CMD true = true ∧ s.wsel r = k ∧ (s.ctx k).st = .run ∧ s.cTbg k = none ∧ (((s.ctx k).ph = .idle ∨ (s.ctx k).ph = .waiting)) ∧ (s.ctx k).older = [] :=
  ⟨.apc0, 0, kpi { st := .run, ph := .waiting }, by decide +kernel⟩

theorem test_ContextCommands_7 : ∃ (r : Req) (k : Nat) (s : State), s.grants r aCTX_W_CMD true = true ∧ s.wsel r = k ∧ (s.ctx k).st = .run ∧ s.cTbg k = none ∧ (s.ctx k).ph = .running :=
  ⟨.apc0, 0, kpi { st := .run, ph := .running }, by decide +kernel⟩

theorem test_ContextCommands_8 : ∃ (r : Req) (k : Nat) (s : State), s.grants r aCTX_W_CMD true = true ∧ s.wsel r = k ∧ (((s.ctx k).st = .admitted ∨ (s.ctx k).st = .halt)) :=
  ⟨.apc0, 0, kpi { st := .halt, stepNo := 9 }, by decide +kernel⟩

theorem test_ContextCommands_9 : ∃ (r : Req) (k : Nat) (s : State), s.grants r aCTX_W_CMD true = true ∧ s.wsel r = k ∧ (s.ctx k).st = .halt ∧ s.mgUnsafe k = false :=
  ⟨.apc0, 0, kpi { st := .halt }, by decide +kernel⟩

theorem test_ContextCommands_10 : ∃ (r : Req) (k : Nat) (s : State), s.grants r aCTX_W_CMD true = true ∧ s.wsel r = k ∧ (s.ctx k).st ≠ .halt :=
  ⟨.apc0, 0, kpi { st := .admitted }, by decide +kernel⟩

theorem test_ContextParameters_1 : ∃ (r : Req) (k : Nat) (s : State), s.grants r aCTX_W_PDATA true = true ∧ s.wsel r = k ∧ s.stage r = {} ∧ (s.ctx k).cmtGen = none ∧ 0x40 ≤ s.get ⟨bank r aCTX_W_PADDR, 2, 8⟩ ∧ s.get ⟨bank r aCTX_W_PADDR, 2, 8⟩ < 0xD8 :=
  ⟨.apc1, 0, (setup []).put ⟨bank .apc1 aCTX_W_PADDR, 2, 8⟩ 0x50, by decide +kernel⟩

theorem test_ContextParameters_2 : ∃ (r : Req) (k : Nat) (gen : Fin 256) (s : State), s.grants r aCTX_W_PCMT true = true ∧ (s.stage r).ctx = k ∧ (s.stage r).words ≠ [] ∧ (s.ctx k).st = .run ∧ (s.ctx k).cmtGen = none ∧ gen.val = (s.get (cf k fCTX_W_PGEN_applied) + 1) % 256 :=
  ⟨.apc0, 0, 1, (kpi { st := .run }).setStages [(0, { ctx := 0, words := [(0x110, 7)] })], by decide +kernel⟩

theorem test_ContextParameters_3 : ∃ (r : Req) (k : Nat) (gen : Fin 256) (ofs : Nat) (d : Word) (s : State), s.grants r aCTX_W_PCMT true = true ∧ k < 128 ∧ s.stage r = { ctx := k, words := [(ofs, d)] } ∧ (s.ctx k).st ≠ .run ∧ (s.ctx k).cmtGen = none ∧ gen.val = (s.get (cf k fCTX_W_PGEN_applied) + 1) % 256 ∧ 0x100 ≤ ofs ∧ ofs < 0x300 :=
  ⟨.apc0, 0, 1, 0x110, 7, (kpi { st := .admitted }).setStages [(0, { ctx := 0, words := [(0x110, 7)] })], by decide +kernel⟩

theorem test_ContextParameters_4 : ∃ (r : Req) (k : Nat) (gen : Fin 256) (s : State), s.grants r aCTX_W_PCMT true = true ∧ (s.stage r).ctx = k ∧ (s.stage r).words ≠ [] ∧ (s.ctx k).st = .run ∧ gen.val ≠ (s.get (cf k fCTX_W_PGEN_applied) + 1) % 256 :=
  ⟨.apc0, 0, 5, (kpi { st := .run }).setStages [(0, { ctx := 0, words := [(0x110, 7)] })], by decide +kernel⟩

theorem test_ContextParameters_5 : ∃ (r : Req) (k : Nat) (s : State), s.grants r aCTX_W_PCMT true = true ∧ s.wsel r = k :=
  ⟨.apc0, 0, (kpi { st := .run, cmtGen := some 1 }).setStages [(0, { ctx := 0, words := [(0x110, 7)] })], by decide +kernel⟩

theorem test_ContextParameters_6 : ∃ (r : Req) (k : Nat) (s : State), s.grants r aCTX_W_ITEG true = true ∧ s.wsel r = k ∧ (s.ctx k).st = .run :=
  ⟨.sage, 0, kpi { st := .run }, by decide +kernel⟩

theorem test_ContextParameters_7 : ∃ (r : Req) (k : Fin 128) (s : State), s.grants r aENG_WSEL true = true ∧ (s.stage r).words ≠ [] ∧ (s.stage r).ctx ≠ k.val :=
  ⟨.hrp, 5, ((setup []).put ⟨aHRP_WR_EN_LO, 0, 32⟩ 0xFFFFFFFF).setStages [(3, { ctx := 0, words := [(0x110, 7)] })], by decide +kernel⟩

theorem test_KernelStore_1 : ∃ (r : Req) (s : State), s.grants r aENG_KS_CTRL true = true ∧ (∀ k : Fin 128, (s.ctx k.val).st ≠ .run) ∧ s.isRun 16 = true :=
  ⟨.apc0, setup [], by decide +kernel⟩

theorem test_KernelStore_2 : ∃ (r : Req) (s : State), s.grants r aENG_KS_CTRL true = true ∧ (∃ k : Fin 128, (s.ctx k.val).st = .run) ∧ s.tmr = [] :=
  ⟨.apc0, kpi { st := .run }, by decide +kernel⟩

theorem test_KernelStore_3 : ∃ (r : Req) (s : State), s.grants r aENG_KS_CTRL true = true ∧ s.get fENG_KS_STAT_state = 1 :=
  ⟨.apc1, setup [(fENG_KS_STAT_state, 1)], by decide +kernel⟩

theorem test_KernelStore_6 : ∃ (k : Fin 128) (s : State), (((s.ctx k.val).st = .admitted ∨ (s.ctx k.val).st = .run)) ∧ s.cw k.val 0x310 ≠ 0 ∧ s.ctxCrc k.val ≠ s.cw k.val 0x310 :=
  ⟨0, (kpi { st := .run }).putCw 0 0x310 1, by decide +kernel⟩

theorem test_KernelStore_7 : ∃ (k : Fin 128) (s : State), (((s.ctx k.val).st = .off ∨ s.cw k.val 0x310 = 0)) :=
  ⟨1, kpi {}, by decide +kernel⟩

theorem test_StepsBegin_1 : ∃ (r : Req) (k : Nat) (s : State), s.grants r aCTX_W_CMD true = true ∧ s.wsel r = k ∧ (s.ctx k).st = .run ∧ s.mayTrig k = true ∧ (s.ctx k).ph = .idle ∧ (s.ctx k).startPend = false ∧ (s.ctx k).stopPend = false ∧ (s.ctx k).itegPend = none ∧ (s.ctx k).cmtGen = none ∧ s.bnd = [] ∧ (s.cw k 0xC0).fld 12 2 ≠ 1 :=
  ⟨.apc0, 0, (kpi { st := .run, stepNo := 5 }).putCw 0 8 0x14300402, by decide +kernel⟩

theorem test_StepsBegin_2 : ∃ (r : Req) (k : Nat) (s : State), s.grants r aCTX_W_CMD true = true ∧ s.wsel r = k ∧ (((s.ctx k).st ≠ .run ∨ s.mayTrig k = false)) :=
  ⟨.apc0, 0, kpi { st := .run }, by decide +kernel⟩

theorem test_StepsBegin_3 : ∃ (k : Fin 128) (s : State), (s.ctx k.val).st = .run ∧ s.cSrc k.val = 1 ∧ (s.ctx k.val).ph = .idle ∧ (s.ctx k.val).startPend = false ∧ (s.ctx k.val).stopPend = false ∧ (s.ctx k.val).itegPend = none ∧ (s.ctx k.val).cmtGen = none ∧ s.bnd = [] ∧ (s.cw k.val 0xC0).fld 12 2 ≠ 1 :=
  ⟨0, kpi { st := .run, nextAt := 700 }, by decide +kernel⟩

theorem test_StepsBegin_4 : ∃ (k : Fin 128) (s : State), (s.ctx k.val).st = .run ∧ s.cSrc k.val = 1 ∧ (((s.ctx k.val).ph = .waiting ∨ (s.ctx k.val).ph = .released ∨ (s.ctx k.val).ph = .running)) ∧ (s.ctx k.val).stopPend = false ∧ (s.ctx k.val).ovrRun + 1 < s.cOvrLim k.val :=
  ⟨0, kpi { st := .run, nextAt := 700, ph := .running }, by decide +kernel⟩

theorem test_StepsBegin_5 : ∃ (src : InSrc) (inst : Nat) (sel : Nat) (k : Fin 128) (j : Fin 16) (s : State), src ≠ .pair ∧ s.basil.rx = [] ∧ s.isRun 5 = true ∧ (s.ctx k.val).st = .run ∧ s.slotType k.val j.val = srcNo src ∧ s.slotInst k.val j.val = inst ∧ selOf (srcNo src) (s.slotSel k.val j.val) = selOf (srcNo src) sel ∧ s.forNext k.val j.val = false :=
  ⟨.fbi, 0, 0, 0, 0, kpi { st := .run, ph := .waiting }, by decide +kernel⟩

theorem test_StepsBegin_7 : ∃ (k : Fin 128) (s : State), (s.ctx k.val).ph = .waiting ∧ s.missing k.val = [] ∧ s.now ≤ (s.ctx k.val).latest ∧ s.schedOn = true :=
  ⟨0, kpi { st := .run, ph := .waiting, fresh := 1, latest := 100, inVal := [(0, 7)] }, by decide +kernel⟩

theorem test_StepsBegin_8 : ∃ (k : Fin 128) (s : State), (((s.ctx k.val).ph ≠ .waiting ∨ s.missing k.val ≠ [] ∨ s.schedOn = false)) :=
  ⟨0, (kpi { st := .run, ph := .waiting, latest := 100 }).putCw 0 0x40 0x38000000, by decide +kernel⟩

theorem test_StepsBegin_9 : ∃ (k : Fin 128) (j : Nat) (s : State), (s.ctx k.val).ph = .waiting ∧ s.missing k.val = [j] ∧ Tab.get 0 (s.ctx k.val).staleRun j < 3 ∧ (Tab.find (s.ctx k.val).used j).isSome = true ∧ s.schedOn = true :=
  ⟨0, 0, (kpi { st := .run, ph := .waiting, latest := 100, used := [(0, 7)] }).putCw 0 0x40 0x38000000, by decide +kernel⟩

theorem test_StepsBegin_10 : ∃ (k : Fin 128) (s : State), (s.ctx k.val).ph = .released ∧ (s.ctx k.val).stopPend = false ∧ (s.ctx k.val).retry = none ∧ (s.ctx k.val).ovrRun + 1 < s.cOvrLim k.val :=
  ⟨0, kpi { st := .run, ph := .released, latest := 100 }, by decide +kernel⟩

theorem test_StepsRun_1 : ∃ (k : Nat) (ls : List Nat) (held : Option Nat) (s : State), s.pick none s.released = (some (k, ls), held) :=
  ⟨0, [0], none, kpi { st := .run, ph := .released, latest := 100 }, by decide +kernel⟩

theorem test_StepsRun_2 : ∃ (held : Option Nat) (s : State), s.pick none s.released = (none, held) :=
  ⟨none, setup [], by decide +kernel⟩

theorem test_StepsRun_3 : ∃ (l : Fin 4) (k : Nat) (x : Lane) (s : State), s.lane l.val = x ∧ x.ctx = some k ∧ x.dead = false ∧ x.endAt ≤ (s.ctx k).deadline ∧ ((freeLanes k (s.reach x.endAt)).kernel k).finite = true ∧ ((freeLanes k (s.reach x.endAt)).supervise k ((freeLanes k (s.reach x.endAt)).kernel k)).2 = false ∧ s.cMg k = none ∧ (s.ctx k).stopPend = false :=
  ⟨2, 0, { ctx := some 0, endAt := 50 }, ((kpi { st := .run, ph := .running, deadline := 100, cost := 1, stepIn := [(0, 0)] }).setLanes [(2, { ctx := some 0, endAt := 50 })]), by decide +kernel⟩

theorem test_StepsRun_4 : ∃ (l : Fin 4) (k : Nat) (x : Lane) (s : State), s.lane l.val = x ∧ x.ctx = some k ∧ x.dead = false ∧ x.endAt ≤ (s.ctx k).deadline ∧ ((freeLanes k (s.reach x.endAt)).kernel k).finite = false ∧ (s.ctx k).st = .run :=
  ⟨2, 0, { ctx := some 0, endAt := 50 }, ((kpi { st := .run, ph := .running, deadline := 100, cost := 1, stepIn := [(0, 0x7F800000)] }).setLanes [(2, { ctx := some 0, endAt := 50 })]), by decide +kernel⟩

theorem test_StepsRun_5 : ∃ (l : Fin 4) (k : Nat) (x : Lane) (s : State), s.lane l.val = x ∧ x.ctx = some k ∧ x.dead = false ∧ x.endAt ≤ (s.ctx k).deadline ∧ x.priv = true ∧ (s.ctx k).retry = none ∧ (∀ i : Fin 4, i.val ≠ l.val → (s.lane i.val).ctx = none) ∧ max s.now x.endAt + 32 * (s.ctx k).cost ≤ (s.ctx k).deadline :=
  ⟨2, 0, { ctx := some 0, endAt := 50, priv := true }, ((kpi { st := .run, ph := .running, deadline := 100, cost := 1 }).setLanes [(2, { ctx := some 0, endAt := 50, priv := true })]), by decide +kernel⟩

theorem test_StepsRun_6 : ∃ (l : Fin 4) (k : Nat) (x : Lane) (s : State), s.lane l.val = x ∧ x.ctx = some k ∧ x.dead = false ∧ (s.ctx k).deadline < x.endAt ∧ (s.ctx k).stopPend = false ∧ (s.ctx k).ovrRun + 1 < s.cOvrLim k :=
  ⟨2, 0, { ctx := some 0, endAt := 150 }, ((kpi { st := .run, ph := .running, deadline := 100, cost := 10 }).setLanes [(2, { ctx := some 0, endAt := 150 })]), by decide +kernel⟩

theorem test_StepsRun_7 : ∃ (l : Fin 4) (s : State), (s.lane l.val).ctx = none :=
  ⟨3, setup [], by decide +kernel⟩

theorem test_StepsRun_8 : ∃ (k : Fin 128) (s : State), (((s.ctx k.val).ph = .waiting ∨ (s.ctx k.val).ph = .released ∨ (s.ctx k.val).ph = .running)) ∧ (s.ctx k.val).stopPend = false ∧ (s.ctx k.val).ovrRun + 1 < s.cOvrLim k.val :=
  ⟨0, kpi { st := .run, ph := .waiting, deadline := 300 }, by decide +kernel⟩

theorem test_StepsRun_9 : ∃ (k : Fin 128) (s : State), (((s.ctx k.val).ph = .idle ∨ (s.ctx k.val).ph = .prov)) :=
  ⟨0, kpi { st := .run, ph := .prov, deadline := 300 }, by decide +kernel⟩

theorem test_GridUnits_1 : ∃ (n : Fin 8) (s : State), s.on (fGIU_PLL_CFG_en n.val) = true ∧ s.get (fGIU_PLL_STAT_state n.val) ≠ 0 ∧ s.giu.adc = [] :=
  ⟨3, setup [(fGIU_PLL_CFG_en 3, 1), (fGIU_PLL_STAT_state 3, 2)], by decide +kernel⟩

theorem test_GridUnits_2 : ∃ (n : Fin 8) (a : Option Word) (b : Option Word) (c : Option Word) (s : State), s.on (fGIU_PLL_CFG_en n.val) = true ∧ s.giu.adc = [] ∧ ((s.get (fGIU_PLL_STAT_state n.val) = 1 ∨ s.get (fGIU_PLL_STAT_state n.val) = 2)) ∧ (s.gu n.val).pll.miss = 3 ∧ ((a = none ∨ b = none ∨ c = none)) :=
  ⟨3, none, some 2, some 3, ((setup [(fGIU_PLL_CFG_en 3, 1), (fGIU_PLL_STAT_state 3, 2)]).putGu 3 { pll := { miss := 3 } }), by decide +kernel⟩

theorem test_GridUnits_3 : ∃ (n : Fin 8) (s : State), s.get (fGIU_PLL_STAT_state n.val) = 0 ∧ s.giu.adc = [] :=
  ⟨3, setup [], by decide +kernel⟩

theorem test_GridUnits_4 : ∃ (s : State), s.isRun 8 = true :=
  ⟨setup [], by decide +kernel⟩

theorem test_GridUnits_5 : ∃ (r : Req) (n : Fin 8) (s : State), s.grants r (aGIU_RT_CMD n.val) true = true ∧ s.on (fGIU_RT_CFG_en n.val) = true ∧ s.on (fGIU_RT_CFG_trip_latch n.val) = true ∧ ((s.get (fGIU_RT_STAT_state n.val) = 5 ∨ s.get (fGIU_RT_STAT_state n.val) = 6)) :=
  ⟨.apc0, 2, setup [(fGIU_RT_CFG_en 2, 1), (fGIU_RT_CFG_trip_latch 2, 1), (fGIU_RT_STAT_state 2, 5)], by decide +kernel⟩

theorem test_GridUnits_6 : ∃ (r : Req) (n : Fin 8) (s : State), s.grants r (aGIU_RT_CMD n.val) true = true ∧ s.on (fGIU_RT_CFG_trip_latch n.val) = false :=
  ⟨.apc0, 2, setup [(fGIU_RT_STAT_state 2, 5)], by decide +kernel⟩

theorem test_Trackers_1 : ∃ (t : Fin 16) (s : State), s.get (fGIU_TRK_STAT_state t.val) = 1 ∧ (s.trk t.val).n ≠ 0 :=
  ⟨2, (setup [(fGIU_TRK_STAT_state 2, 1)]).putTrk 2 { sv := 0x40000000, si := 0x3F800000, n := 1 }, by decide +kernel⟩

theorem test_Trackers_2 : ∃ (t : Fin 16) (s : State), s.get (fGIU_TRK_STAT_state t.val) ≠ 1 :=
  ⟨2, setup [(fGIU_TRK_STAT_state 2, 3)], by decide +kernel⟩

theorem test_Trackers_3 : ∃ (t : Fin 16) (s : State), s.get (fGIU_TRK_STAT_state t.val) = 1 ∧ s.isRun 8 = true ∧ Tab.find s.giu.items t.val = none :=
  ⟨2, setup [(fGIU_TRK_STAT_state 2, 1)], by decide +kernel⟩

theorem test_Trackers_4 : ∃ (t : Fin 16) (olim : Bool) (safe : Bool) (run : Bool) (s : State), s.get (fGIU_TRK_STAT_state t.val) = 1 ∧ s.isRun 8 = true ∧ Tab.find s.giu.items t.val = none ∧ ((olim = true ∨ safe = true ∨ run = false)) :=
  ⟨2, true, false, true, setup [(fGIU_TRK_STAT_state 2, 1)], by decide +kernel⟩

theorem test_Trackers_5 : ∃ (t : Fin 16) (s : State), s.on (fGIU_TRK_CFG_scan_en t.val) = true ∧ s.get (fGIU_TRK_STAT_state t.val) = 1 :=
  ⟨2, (setup [(fGIU_TRK_STAT_state 2, 1), (fGIU_TRK_CFG_scan_en 2, 1)]).putTrk 2 { due := 77 }, by decide +kernel⟩

theorem test_Trackers_6 : ∃ (r : Req) (t : Fin 16) (s : State), s.grants r (aGIU_TRK_CMD t.val) true = true ∧ s.get (fGIU_TRK_STAT_state t.val) = 1 :=
  ⟨.apc1, 2, setup [(fGIU_TRK_STAT_state 2, 1)], by decide +kernel⟩

theorem test_Trackers_7 : ∃ (r : Req) (t : Fin 16) (s : State), s.grants r (aGIU_TRK_CMD t.val) true = true ∧ 2 ≤ s.get (fGIU_TRK_STAT_state t.val) :=
  ⟨.apc1, 2, setup [(fGIU_TRK_STAT_state 2, 3)], by decide +kernel⟩

theorem test_Trackers_8 : ∃ (t : Fin 16) (s : State), s.get (fGIU_TRK_STAT_state t.val) = 2 ∧ (s.trk t.val).k + 1 < s.trkPts t.val :=
  ⟨2, (setup [(fGIU_TRK_STAT_state 2, 2)]).putTrk 2 { k := 1 }, by decide +kernel⟩

theorem test_Trackers_9 : ∃ (t : Fin 16) (s : State), s.get (fGIU_TRK_STAT_state t.val) = 2 ∧ s.trkPts t.val ≤ (s.trk t.val).k + 1 ∧ (s.trk t.val).req = false :=
  ⟨2, (setup [(fGIU_TRK_STAT_state 2, 2)]).putTrk 2 { k := 100 }, by decide +kernel⟩

theorem test_TimebaseGroups_1 : ∃ (r : Req) (g : Fin 32) (s : State), s.grants r (aTBG_CMD g.val) true = true ∧ s.tbgRun g.val = false ∧ s.get (fTBG_CFG_mode g.val) ≠ 0 ∧ s.now + 32 * (s.hofs g.val + 400) ≤ 32 * (s.get (fTBG_T0_LO_lo g.val) + 2 ^ 32 * s.get (fTBG_T0_HI_hi g.val)) :=
  ⟨.apc0, 3, setup [(fTBG_CFG_mode 3, 2), (fTBG_T0_LO_lo 3, 1000)], by decide +kernel⟩

theorem test_TimebaseGroups_2 : ∃ (r : Req) (g : Fin 32) (s : State), s.grants r (aTBG_CMD g.val) true = true ∧ ((s.tbgRun g.val = true ∨ s.get (fTBG_CFG_mode g.val) = 0 ∨ 32 * (s.get (fTBG_T0_LO_lo g.val) + 2 ^ 32 * s.get (fTBG_T0_HI_hi g.val)) < s.now + 32 * (s.hofs g.val + 400))) :=
  ⟨.apc0, 3, setup [], by decide +kernel⟩

theorem test_TimebaseGroups_3 : ∃ (r : Req) (g : Fin 32) (s : State), s.grants r (aTBG_CMD g.val) true = true ∧ s.tbgRun g.val = true ∧ (∀ n ∈ s.groupLegs g.val, s.mgState (s.legMg n) ≠ 0) :=
  ⟨.apc0, 3, setup [(fTBG_STAT_run 3, 1)], by decide +kernel⟩

theorem test_TimebaseGroups_4 : ∃ (r : Req) (g : Fin 32) (n : Nat) (s : State), s.grants r (aTBG_CMD g.val) true = true ∧ n ∈ s.groupLegs g.val ∧ s.mgState (s.legMg n) = 0 :=
  ⟨.apc0, 3, 6, setup [(fTBG_STAT_run 3, 1), (fLEG_CFG_en 6, 1), (fLEG_CFG_tbg 6, 3), (fMG_CFG_type 0, 1)], by decide +kernel⟩

theorem test_TimebaseGroups_5 : ∃ (g : Fin 32) (h : Nat) (s : State), s.tbgRun g.val = true ∧ (s.tbg g.val).handAt = some h ∧ (s.tbg g.val).taken = [] ∧ (s.tbg g.val).hMid = false ∧ (s.tbg g.val).stopPend = false ∧ s.halfMode g.val = false ∧ s.kern g.val = false ∧ s.bnd = [] ∧ s.on (fTBG_STAT_cmt_pend g.val) = false :=
  ⟨3, 900, (setup [(fTBG_STAT_run 3, 1), (fTBG_CFG_mode 3, 1), (fTBG_PERIOD_t 3, 4000), (fLEG_CFG_en 6, 1), (fLEG_CFG_tbg 6, 3), (fLEG_CMP_ON_on 6, 100), (fLEG_CMP_OFF_off 6, 2000)]).putTbg 3 { hB := 100000, handAt := some 900 }, by decide +kernel⟩

theorem test_TimebaseGroups_6 : ∃ (g : Fin 32) (k : Taken) (s : State), s.tbgRun g.val = true ∧ (s.tbg g.val).taken = [k] ∧ k.vals = [] ∧ k.kset = none ∧ k.gen = none ∧ k.newPer = false ∧ k.stop = false ∧ k.mid = false :=
  ⟨3, { b := 200000, w := 200000, e := 328000, p := 128000, mid := false, kern := false, vals := [], kset := none, gen := none, newPer := false, stop := false, skip := [] }, (setup [(fTBG_STAT_run 3, 1), (fTBG_CFG_mode 3, 1), (fTBG_PERIOD_t 3, 4000), (fLEG_CFG_en 6, 1), (fLEG_CFG_tbg 6, 3)]).putTbg 3 { nextB := 200000, hB := 328000, taken := [{ b := 200000, w := 200000, e := 328000, p := 128000, mid := false, kern := false, vals := [], kset := none, gen := none, newPer := false, stop := false, skip := [] }] }, by decide +kernel⟩

theorem test_TimebaseGroups_7 : ∃ (g : Fin 32) (x : KSet) (l : List KSet) (s : State), (s.tbg g.val).wire = x :: l ∧ s.isRun 6 = true :=
  ⟨2, { ctx := 0, step := 1, target := 5, marked := false, cmps := [], smp := [], trg0 := none, trg1 := none, dark := false }, [], (setup []).putTbg 2 { wire := [{ ctx := 0, step := 1, target := 5, marked := false, cmps := [], smp := [], trg0 := none, trg1 := none, dark := false }] }, by decide +kernel⟩

theorem test_TimebaseGroups_9 : ∃ (s : State), s.tmr = [] :=
  ⟨setup [], by decide +kernel⟩

theorem test_GroupCommits_1 : ∃ (r : Req) (g : Fin 32) (gen : Fin 256) (s : State), s.grants r (aTBG_COMMIT g.val) true = true ∧ s.handDue g.val = false ∧ s.tbgRun g.val = true ∧ s.on (fTBG_STAT_cmt_pend g.val) = false ∧ gen.val = (s.get (fTBG_GEN_applied g.val) + 1) % 256 ∧ s.newPeriod g.val = false :=
  ⟨.apc0, 3, 1, setup [(fTBG_STAT_run 3, 1)], by decide +kernel⟩

theorem test_GroupCommits_2 : ∃ (r : Req) (g : Fin 32) (gen : Fin 256) (s : State), s.grants r (aTBG_COMMIT g.val) true = true ∧ s.handDue g.val = false ∧ ((s.on (fTBG_STAT_cmt_pend g.val) = true ∨ gen.val ≠ (s.get (fTBG_GEN_applied g.val) + 1) % 256)) :=
  ⟨.apc0, 3, 2, setup [(fTBG_STAT_run 3, 1)], by decide +kernel⟩

theorem test_GroupCommits_3 : ∃ (r : Req) (g : Fin 32) (gen : Fin 256) (p : Pend) (s : State), s.grants r (aTBG_COMMIT g.val) true = true ∧ s.handDue g.val = false ∧ s.tbgRun g.val = false ∧ s.on (fTBG_STAT_cmt_pend g.val) = false ∧ gen.val = (s.get (fTBG_GEN_applied g.val) + 1) % 256 ∧ s.newPeriod g.val = false ∧ (s.coherent g.val && !(s.incomplete g.val gen.val []).isEmpty) = false ∧ s.cmt.filter (fun x => s.ofGroup g.val x.1) = [(aTBG_SMP g.val, p)] :=
  ⟨.apc0, 3, 1, { m := 0xFF, v := 0x12 }, (setup []).setCmt [(aTBG_SMP 3, { m := 0xFF, v := 0x12 }), (aTBG_SMP 4, { m := 0xFF, v := 0x12 })], by decide +kernel⟩

theorem test_GroupCommits_4 : ∃ (r : Req) (g : Fin 32) (s : State), s.grants r (aTBG_COMMIT g.val) true = true ∧ s.handDue g.val = false ∧ s.inFlight g.val = false :=
  ⟨.apc0, 3, (setup [(fTBG_STAT_run 3, 1), (fTBG_STAT_cmt_pend 3, 1)]).setCmt [(aTBG_SMP 3, { m := 0xFF, v := 0x12 }), (aTBG_SMP 4, { m := 0xFF, v := 0x12 })], by decide +kernel⟩

theorem test_GroupCommits_5 : ∃ (r : Req) (g : Fin 32) (s : State), s.grants r (aTBG_COMMIT g.val) true = true ∧ s.handDue g.val = false ∧ s.inFlight g.val = true :=
  ⟨.apc0, 3, (setup [(fTBG_STAT_run 3, 1), (fTBG_STAT_cmt_pend 3, 1)]).putTbg 3 { taken := [{ b := 200000, w := 200000, e := 328000, p := 128000, mid := false, kern := false, vals := [], kset := none, gen := some 1, newPer := false, stop := false, skip := [] }] }, by decide +kernel⟩

theorem test_GroupCommits_6 : ∃ (r : Req) (n : Fin 128) (w : CmpReg) (s : State), s.grants r (cmpAddr n.val w) true = true ∧ s.handDue (s.legHome n.val) = false ∧ s.coherent (s.legHome n.val) = true :=
  ⟨.apc1, 9, .off, setup [], by decide +kernel⟩

theorem test_GroupCommits_7 : ∃ (r : Req) (n : Fin 128) (w : CmpReg) (s : State), s.grants r (cmpAddr n.val w) true = true ∧ s.handDue (s.legHome n.val) = false ∧ s.kern (s.legHome n.val) = false ∧ s.coherent (s.legHome n.val) = false ∧ s.tbgRun (s.legHome n.val) = false :=
  ⟨.apc1, 9, .loff, setup [(fTBG_CFG_direct 0, 1)], by decide +kernel⟩

theorem test_GroupCommits_8 : ∃ (r : Req) (n : Fin 128) (w : CmpReg) (s : State), s.grants r (cmpAddr n.val w) true = true ∧ s.handDue (s.legHome n.val) = false ∧ s.kern (s.legHome n.val) = false ∧ s.coherent (s.legHome n.val) = false ∧ s.tbgRun (s.legHome n.val) = true :=
  ⟨.apc1, 9, .on, setup [(fTBG_CFG_direct 0, 1), (fTBG_STAT_run 0, 1)], by decide +kernel⟩

theorem test_GroupCommits_9 : ∃ (r : Req) (n : Fin 128) (w : CmpReg) (s : State), s.grants r (cmpAddr n.val w) true = true ∧ s.handDue (s.legHome n.val) = false ∧ s.kern (s.legHome n.val) = true :=
  ⟨.apc1, 9, .on, (area 0 [(0, 0x02000100)] (setup [])).putCtx 0 { st := .run }, by decide +kernel⟩

theorem test_GroupCommits_10 : ∃ (r : Req) (n : Fin 128) (s : State), s.grants r (aLEG_CMP_GEN n.val) true = true ∧ s.handDue (s.legHome n.val) = false ∧ s.coherent (s.legHome n.val) = true :=
  ⟨.apc1, 9, setup [], by decide +kernel⟩

theorem test_TripSources_1 : ∃ (i : Fin 96) (n : Fin 128) (s : State), s.routedOn i.val = false ∧ s.srcPresent i.val = true ∧ s.on (fTHY_TRIP_SRC_en i.val) = true ∧ s.get (fTHY_TRIP_SRC_act i.val) = 2 ∧ s.on (fTHY_TRIP_SRC_scope i.val) = false ∧ s.get (fTHY_TRIP_SRC_tgt i.val) = n.val ∧ s.on (fTHY_TRIP_SRC_blank i.val) = false ∧ s.legEn n.val = true ∧ s.tbgRun (s.legTbg n.val) = false ∧ s.mgState (s.legMg n.val) = 0 ∧ s.decided (s.legMg n.val) = false ∧ (s.leg n.val).latchSrc = [] ∧ s.tmr = [] :=
  ⟨5, 6, setup [(fTHY_TRIP_SRC_en 5, 1), (fTHY_TRIP_SRC_act 5, 2), (fTHY_TRIP_SRC_tgt 5, 6), (fLEG_CFG_en 6, 1), (fLEG_CFG_mg 6, 2), (fMG_CFG_type 2, 1), (fMG_CFG_react 2, 1)], by decide +kernel⟩

theorem test_TripSources_2 : ∃ (i : Fin 96) (s : State), s.routedOn i.val = false ∧ s.srcPresent i.val = true ∧ s.on (fTHY_TRIP_SRC_en i.val) = true ∧ s.on (fTHY_TRIP_SRC_scope i.val) = false ∧ s.legEn (s.get (fTHY_TRIP_SRC_tgt i.val)) = false :=
  ⟨5, setup [(fTHY_TRIP_SRC_en 5, 1), (fTHY_TRIP_SRC_act 5, 2), (fTHY_TRIP_SRC_tgt 5, 6)], by decide +kernel⟩

theorem test_TripSources_3 : ∃ (i : Fin 96) (n : Fin 128) (s : State), s.routedOn i.val = false ∧ s.srcPresent i.val = true ∧ s.on (fTHY_TRIP_SRC_en i.val) = true ∧ s.get (fTHY_TRIP_SRC_act i.val) = 0 ∧ s.on (fTHY_TRIP_SRC_scope i.val) = false ∧ s.get (fTHY_TRIP_SRC_tgt i.val) = n.val ∧ s.on (fTHY_TRIP_SRC_blank i.val) = false ∧ s.legEn n.val = true :=
  ⟨5, 6, setup [(fTHY_TRIP_SRC_en 5, 1), (fTHY_TRIP_SRC_act 5, 0), (fTHY_TRIP_SRC_tgt 5, 6), (fLEG_CFG_en 6, 1)], by decide +kernel⟩

theorem test_TripSources_4 : ∃ (i : Fin 96) (s : State), s.routedOn i.val = true :=
  ⟨5, (setup []).putBit (aTHY_TRIP_LVL 0) 5 true, by decide +kernel⟩

theorem test_TripSources_5 : ∃ (n : Fin 128) (s : State), s.legEn n.val = true ∧ (s.leg n.val).satSrc = 0 ∧ s.get (fLEG_TRIP_CFG_ot_act n.val) = 2 ∧ s.tbgRun (s.legTbg n.val) = false :=
  ⟨6, setup [(fLEG_CFG_en 6, 1), (fLEG_TRIP_CFG_desat_act 6, 2), (fLEG_CFG_mg 6, 2), (fMG_CFG_type 2, 1)], by decide +kernel⟩

theorem test_TripSources_6 : ∃ (i : Fin 96) (n : Fin 128) (s : State), s.routedOn i.val = false ∧ s.srcPresent i.val = true ∧ s.on (fTHY_TRIP_SRC_en i.val) = true ∧ s.get (fTHY_TRIP_SRC_act i.val) = 1 ∧ s.on (fTHY_TRIP_SRC_scope i.val) = false ∧ s.get (fTHY_TRIP_SRC_tgt i.val) = n.val ∧ s.on (fTHY_TRIP_SRC_blank i.val) = false ∧ s.legEn n.val = true ∧ s.tbgRun (s.legTbg n.val) = true ∧ (s.leg n.val).held = 0 ∧ s.get (fLEG_TRIP_CFG_cbc_n n.val) = 0 ∧ s.tmr = [] :=
  ⟨5, 6, (setup [(fTHY_TRIP_SRC_en 5, 1), (fTHY_TRIP_SRC_act 5, 1), (fTHY_TRIP_SRC_tgt 5, 6), (fLEG_CFG_en 6, 1), (fLEG_TRIP_CFG_cbc_n 6, 0), (fLEG_CFG_tbg 6, 3), (fTBG_STAT_run 3, 1), (fTBG_PERIOD_t 3, 4000)]).putTbg 3 { nextB := 200000 }, by decide +kernel⟩

theorem test_TripReleases_1 : ∃ (s : State), (∀ j ∈ allLegs, s.on (fLEG_TRIP_STAT_armed j) = false) :=
  ⟨(setup []).putBit (aTHY_TRIP_LVL 0) 5 true, by decide +kernel⟩

theorem test_TripReleases_2 : ∃ (s : State), (∀ j ∈ allLegs, s.on (fLEG_TRIP_STAT_armed j) = false) :=
  ⟨(setup []).putLeg 7 { satSrc := 31 }, by decide +kernel⟩

theorem test_TripReleases_3 : ∃ (n : Fin 128) (s : State), s.blankUntil n.val = none ∧ (s.leg n.val).blankWait = false :=
  ⟨7, setup [], by decide +kernel⟩

theorem test_TripReleases_4 : ∃ (n : Fin 128) (i : Fin 96) (s : State), (s.leg n.val).blankWait = true ∧ (s.leg n.val).pend = [] ∧ s.legEn n.val = true ∧ (∀ j ∈ List.range 96, s.routedOn j = true → j = i.val) ∧ s.routedOn i.val = true ∧ s.on (fTHY_TRIP_SRC_en i.val) = true ∧ s.on (fTHY_TRIP_SRC_scope i.val) = false ∧ s.get (fTHY_TRIP_SRC_tgt i.val) = n.val ∧ s.on (fTHY_TRIP_SRC_blank i.val) = true ∧ s.get (fTHY_TRIP_SRC_act i.val) = 0 :=
  ⟨7, 5, ((setup [(fTHY_TRIP_SRC_en 5, 1), (fTHY_TRIP_SRC_act 5, 0), (fTHY_TRIP_SRC_tgt 5, 7), (fTHY_TRIP_SRC_blank 5, 1), (fLEG_CFG_en 7, 1)]).putBit (aTHY_TRIP_LVL 0) 5 true).putLeg 7 { blankWait := true }, by decide +kernel⟩

theorem test_TripReleases_5 : ∃ (r : Req) (n : Fin 128) (s : State), s.grants r (aLEG_TRIP_CLR n.val) true = true ∧ s.tbgRun (s.legTbg n.val) = true :=
  ⟨.apc1, 7, setup [(fTBG_STAT_run 0, 1)], by decide +kernel⟩

theorem test_TripReleases_6 : ∃ (r : Req) (n : Fin 128) (s : State), s.grants r (aLEG_TRIP_CLR n.val) true = true ∧ s.tbgRun (s.legTbg n.val) = false ∧ s.legAsserted n.val = false ∧ s.tmr = [] :=
  ⟨.apc1, 7, setup [(fLEG_TRIP_STAT_src 7, 0x21), (fLEG_TRIP_STAT_latched 7, 1), (fLEG_CFG_en 7, 1)], by decide +kernel⟩

theorem test_TripReleases_7 : ∃ (r : Req) (m : Fin 32) (s : State), s.grants r (aMG_TRIP_CLR m.val) true = true :=
  ⟨.sage, 3, setup [], by decide +kernel⟩

theorem test_TripReleases_8 : ∃ (n : Fin 128) (s : State), s.on (fLEG_TRIP_STAT_armed n.val) = true ∧ s.legAsserted n.val = false ∧ s.tmr = [] :=
  ⟨7, setup [(fLEG_TRIP_STAT_armed 7, 1), (fTBG_STAT_run 0, 1), (fLEG_TRIP_STAT_src 7, 1)], by decide +kernel⟩

theorem test_TripReleases_9 : ∃ (n : Fin 128) (s : State), s.on (fLEG_TRIP_STAT_armed n.val) = false :=
  ⟨7, setup [], by decide +kernel⟩

theorem test_TripReleases_10 : ∃ (m : Fin 32) (s : State), s.on (fMG_TRIP_STAT_armed m.val) = true ∧ s.mgAsserted m.val = false ∧ s.tmr = [] :=
  ⟨3, setup [(fMG_TRIP_STAT_armed 3, 1), (fMG_TRIP_STAT_routed 3, 1)], by decide +kernel⟩

theorem test_ClearRule_1 : ∃ (r : Req) (n : Fin 128) (s : State), s.grants r (aLEG_TRIP_CLR n.val) true = true ∧ s.legAsserted n.val = false :=
  ⟨.apc0, 7, setup [(fLEG_TRIP_STAT_src 7, 0x21), (fLEG_TRIP_STAT_latched 7, 1), (fLEG_CFG_en 7, 1)], by decide +kernel⟩

theorem test_ClearRule_2 : ∃ (r : Req) (n : Fin 128) (s : State), s.grants r (aLEG_TRIP_CLR n.val) true = true ∧ s.legAsserted n.val = true :=
  ⟨.apc0, 7, (setup [(fLEG_TRIP_STAT_src 7, 0x20), (fLEG_TRIP_STAT_latched 7, 1)]).putLeg 7 { satSrc := 16 }, by decide +kernel⟩

theorem test_ClearRule_3 : ∃ (r : Req) (m : Fin 32) (s : State), s.grants r (aMG_TRIP_CLR m.val) true = true ∧ s.mgAsserted m.val = false :=
  ⟨.sage, 3, setup [(fMG_TRIP_STAT_routed 3, 1), (fMG_TRIP_STAT_sage_hold 3, 1), (fMG_TRIP_STAT_kern 3, 1)], by decide +kernel⟩

theorem test_ClearRule_4 : ∃ (r : Req) (m : Fin 32) (s : State), s.grants r (aMG_TRIP_CLR m.val) true = true ∧ s.mgAsserted m.val = true :=
  ⟨.sage, 3, ((setup [(fMG_TRIP_STAT_routed 3, 1)]).putMg 3 { latchSrc := [9] }).putBit (aTHY_TRIP_LVL 0) 9 true, by decide +kernel⟩

theorem test_SafeCommands_1 : ∃ (r : Req) (m : Fin 32) (s : State), s.grants r (aMG_SAFE_CMD m.val) true = true ∧ s.mgState m.val = 0 ∧ s.decided m.val = false ∧ s.tmr = [] :=
  ⟨.apc0, 2, setup [(fLEG_CFG_en 6, 1), (fLEG_CFG_mg 6, 2), (fMG_CFG_type 2, 1)], by decide +kernel⟩

theorem test_SafeCommands_2 : ∃ (r : Req) (m : Fin 32) (s : State), s.grants r (aMG_SAFE_CMD m.val) true = true ∧ s.mgState m.val = 3 ∧ (s.mg m.val).releasing = false :=
  ⟨.apc0, 2, setup [(fMG_STAT_state 2, 3)], by decide +kernel⟩

theorem test_SafeCommands_3 : ∃ (r : Req) (m : Fin 32) (s : State), s.grants r (aMG_SAFE_CMD m.val) true = true ∧ s.mgType m.val ≠ 2 ∧ s.mgState m.val = 0 ∧ s.decided m.val = false ∧ s.tmr = [] :=
  ⟨.apc0, 2, setup [(fLEG_CFG_en 6, 1), (fLEG_CFG_mg 6, 2), (fMG_CFG_type 2, 1), (fMG_SAFE_CFG_side 2, 1)], by decide +kernel⟩

theorem test_SafeCommands_4 : ∃ (r : Req) (m : Fin 32) (s : State), s.grants r (aMG_SAFE_CMD m.val) true = true ∧ s.mgType m.val = 2 :=
  ⟨.apc0, 2, setup [(fMG_CFG_type 2, 2)], by decide +kernel⟩

theorem test_SafeCommands_5 : ∃ (r : Req) (m : Fin 32) (s : State), s.grants r (aMG_SAFE_CMD m.val) true = true ∧ inHold (s.mgState m.val) = true ∧ (s.mg m.val).tripTick = none ∧ s.decided m.val = false ∧ s.disRefused m.val 2 = false ∧ s.tmr = [] :=
  ⟨.apc0, 2, (setup [(fMG_STAT_state 2, 1), (fMG_CFG_type 2, 1), (fSAGE_DIS_CFG_en 2, 1), (fSAGE_DIS_CFG_b_ok 2, 1), (fSAGE_DIS_CFG_bleed 2, 24), (fLEG_CFG_en 24, 1), (fLEG_CFG_mg 24, 2), (fLEG_CFG_mode 24, 1), (fNDL_STAT_state 0, 4)]).putLeg 24 { bootRep := true, held := 1 }, by decide +kernel⟩

theorem test_SafeCommands_6 : ∃ (r : Req) (m : Fin 32) (s : State), s.grants r (aMG_SAFE_CMD m.val) true = true ∧ ((inHold (s.mgState m.val) = false ∨ s.disRefused m.val 2 = true)) :=
  ⟨.apc0, 2, setup [(fMG_STAT_state 2, 1)], by decide +kernel⟩

theorem test_SafeCommands_7 : ∃ (r : Req) (m : Fin 32) (s : State), s.grants r (aMG_SAFE_CMD m.val) true = true ∧ inHold (s.mgState m.val) = true ∧ (s.mg m.val).tripTick = none ∧ s.decided m.val = false ∧ s.disRefused m.val 1 = false ∧ s.tmr = [] :=
  ⟨.apc0, 2, (area 0 [(0, 0x01014000)] (setup [(fMG_STAT_state 2, 3), (fMG_CFG_type 2, 1), (fSAGE_DIS_CFG_en 2, 1), (fSAGE_DIS_CFG_w_ok 2, 1), (fNDL_STAT_state 0, 4)])).putCtx 0 { st := .run }, by decide +kernel⟩

theorem test_SafeCommands_8 : ∃ (r : Req) (m : Fin 32) (s : State), s.grants r (aMG_SAFE_CMD m.val) true = true ∧ ((inHold (s.mgState m.val) = false ∨ s.disRefused m.val 1 = true)) :=
  ⟨.apc0, 2, setup [(fMG_STAT_state 2, 1)], by decide +kernel⟩

theorem test_SafeCommands_9 : ∃ (r : Req) (m : Fin 32) (s : State), s.grants r (aMG_SAFE_CMD m.val) true = true ∧ inHold (s.mgState m.val) = true ∧ s.on (fMG_TRIP_STAT_sage_hold m.val) = false ∧ s.anyLatched m.val = false ∧ (∀ n ∈ s.members m.val, s.tbgRun (s.legTbg n) = false) ∧ s.tmr = [] :=
  ⟨.apc0, 2, setup [(fMG_STAT_state 2, 1), (fLEG_CFG_en 24, 1), (fLEG_CFG_mg 24, 2)], by decide +kernel⟩

theorem test_SafeCommands_10 : ∃ (r : Req) (m : Fin 32) (s : State), s.grants r (aMG_SAFE_CMD m.val) true = true ∧ ((inHold (s.mgState m.val) = false ∨ s.on (fMG_TRIP_STAT_sage_hold m.val) = true ∨ s.anyLatched m.val = true)) :=
  ⟨.apc0, 2, setup [(fMG_STAT_state 2, 1), (fMG_TRIP_STAT_sage_hold 2, 1)], by decide +kernel⟩

theorem test_HubPorts_1 : ∃ (r : Req) (p : Fin 32) (s : State), s.grants r (aNDL_CTRL p.val) true = true ∧ ((p.val < 16 ∨ s.on fNDLH_STAT_pd1 = true)) ∧ ((s.portState p.val = pOff ∨ s.portState p.val = pLoss)) :=
  ⟨.apc0, 3, setup [], by decide +kernel⟩

theorem test_HubPorts_2 : ∃ (r : Req) (p : Fin 32) (s : State), s.grants r (aNDL_CTRL p.val) true = true ∧ 16 ≤ p.val ∧ s.on fNDLH_STAT_pd1 = false :=
  ⟨.apc0, 19, setup [(fNDLH_STAT_pd1, 0)], by decide +kernel⟩

theorem test_HubPorts_3 : ∃ (r : Req) (p : Fin 32) (s : State), s.grants r (aNDL_CTRL p.val) true = true ∧ s.portState p.val ≠ pOff ∧ s.tmr = [] :=
  ⟨.apc0, 3, setup [(fNDL_STAT_state 3, 4), (fNDL_CTRL_en 3, 1)], by decide +kernel⟩

theorem test_HubPorts_4 : ∃ (p : Fin 32) (s : State), s.portState p.val = pTrain ∧ 16 ≤ (s.port p.val).fills ∧ s.hpm.rcalBad.contains (p.val / 16) = false ∧ s.tmr = [] :=
  ⟨3, (setup [(fNDL_STAT_state 3, 1)]).putPort 3 { fills := 16 }, by decide +kernel⟩

theorem test_HubPorts_5 : ∃ (p : Fin 32) (s : State), s.portState p.val = pCaps ∧ (s.port p.val).capsGot = 15 ∧ s.tmr = [] :=
  ⟨3, (setup [(fNDL_STAT_state 3, 2)]).putPort 3 { capsGot := 15 }, by decide +kernel⟩

theorem test_HubPorts_6 : ∃ (p : Fin 32) (s : State), ((s.portState p.val = pTrain ∨ s.portState p.val = pCaps ∨ s.portState p.val = pTset)) ∧ s.tmr = [] :=
  ⟨3, setup [(fNDL_STAT_state 3, 1)], by decide +kernel⟩

theorem test_HubPorts_7 : ∃ (p : Fin 32) (s : State), s.portState p.val = pLoss ∧ s.on (fNDL_CTRL_auto p.val) = true :=
  ⟨3, setup [(fNDL_STAT_state 3, 5), (fNDL_CTRL_auto 3, 1)], by decide +kernel⟩

theorem test_HubPorts_8 : ∃ (p : Fin 32) (s : State), ((s.portState p.val ≠ pLoss ∨ s.on (fNDL_CTRL_auto p.val) = false)) :=
  ⟨3, setup [(fNDL_STAT_state 3, 5), (fNDL_CTRL_auto 3, 0)], by decide +kernel⟩

theorem test_HubPorts_9 : ∃ (p : Fin 32) (s : State), ((s.portState p.val = pCaps ∨ s.portState p.val = pTset ∨ s.portState p.val = pUp)) ∧ s.tmr = [] :=
  ⟨3, setup [(fNDL_STAT_state 3, 4), (fLEG_CFG_en 12, 1), (fMG_CFG_type 0, 1)], by decide +kernel⟩

theorem test_HubPorts_10 : ∃ (p : Fin 32) (s : State), ((s.portState p.val = pOff ∨ s.portState p.val = pLoss)) :=
  ⟨3, setup [], by decide +kernel⟩

theorem test_HubPorts_11 : ∃ (p : Fin 32) (s : State), (((s.port p.val).fills < 16 ∨ s.hpm.rcalBad.contains (p.val / 16) = true)) :=
  ⟨3, (setup [(fNDL_STAT_state 3, 1)]).putPort 3 { fills := 15 }, by decide +kernel⟩

theorem test_HubPorts_12 : ∃ (p : Fin 32) (s : State), (s.port p.val).capsGot ≠ 15 :=
  ⟨3, setup [(fNDL_STAT_state 3, 2)], by decide +kernel⟩

theorem test_LinkCells_1 : ∃ (p : Fin 32) (s : State), ((s.portState p.val = pCaps ∨ s.portState p.val = pTset ∨ s.portState p.val = pUp)) ∧ (s.port p.val).lk.ready = [] ∧ (s.port p.val).lk.resend = [] :=
  ⟨3, setup [(fNDL_STAT_state 3, 4)], by decide +kernel⟩

theorem test_LinkCells_2 : ∃ (p : Fin 32) (n : Fin 128) (e : Edge) (s : State), s.portState p.val = pUp ∧ s.mirrorPort p.val = false ∧ (s.port p.val).lk.ready = [{ cell := .edge n.val e }] ∧ (s.port p.val).lk.resend = [] ∧ (s.port p.val).lk.unack = [] ∧ (s.port p.val).lk.sinceFill < 30 ∧ (s.port p.val).credTaken = true ∧ s.get (fNDL_STAT_cred p.val) ≠ 0 ∧ (s.port p.val).tokKnown = false ∧ s.tmr = [] :=
  ⟨3, 13, { t := 400000, ls := false, on := true }, (setup [(fNDL_STAT_state 3, 4), (fNDL_STAT_cred 3, 32)]).putPort 3 { credTaken := true, lk := { ready := [{ cell := .edge 13 { t := 400000, ls := false, on := true } }] } }, by decide +kernel⟩

theorem test_LinkCells_3 : ∃ (p : Fin 32) (y : SatPort) (s : State), ((s.satNow p.val).link (satB y)).lk.ready = [{ cell := .status }] ∧ ((s.satNow p.val).link (satB y)).lk.resend = [] ∧ ((s.satNow p.val).link (satB y)).lk.unack = [] ∧ ((s.satNow p.val).link (satB y)).lk.sinceFill < 30 :=
  ⟨3, .a, (setup []).putSat 3 { a := { lk := { ready := [{ cell := .status }] } } }, by decide +kernel⟩

theorem test_LinkCells_4 : ∃ (p : Fin 32) (c : SCell) (l : List SCell) (s : State), (s.port p.val).lk.unack = c :: l ∧ c.n < 5 :=
  ⟨3, { seq := 2, cell := .cfgRd 4 }, [], (setup []).putPort 3 { lk := { unack := [{ seq := 2, cell := .cfgRd 4 }] } }, by decide +kernel⟩

theorem test_LinkCells_5 : ∃ (p : Fin 32) (c : SCell) (l : List SCell) (s : State), (s.port p.val).lk.unack = c :: l ∧ 5 ≤ c.n ∧ s.tmr = [] :=
  ⟨3, { seq := 2, cell := .cfgRd 4, n := 5 }, [], (setup [(fNDL_STAT_state 3, 4)]).putPort 3 { lk := { unack := [{ seq := 2, cell := .cfgRd 4, n := 5 }] } }, by decide +kernel⟩

theorem test_LinkCells_6 : ∃ (p : Fin 32) (y : SatPort) (c : SCell) (l : List SCell) (s : State), ((s.sat p.val).link (satB y)).lk.unack = c :: l ∧ c.n < 5 :=
  ⟨3, .b, { seq := 2, cell := .status }, [], (setup []).putSat 3 { b := { lk := { unack := [{ seq := 2, cell := .status }] } } }, by decide +kernel⟩

theorem test_LinkCells_7 : ∃ (p : Fin 32) (cs : List Chr) (s : State), s.portState p.val ≠ pOff ∧ slotValid cs = false :=
  ⟨3, [], setup [(fNDL_STAT_state 3, 1)], by decide +kernel⟩

theorem test_LinkCells_8 : ∃ (cs : List Chr), slotValid cs = false :=
  ⟨List.replicate 10 (.data 7), by decide +kernel⟩

theorem test_LinkCells_9 : ∃ (p : Fin 32) (s : State), s.portState p.val ≠ pOff :=
  ⟨3, setup [(fNDL_STAT_state 3, 1)], by decide +kernel⟩

theorem test_LinkCells_11 : ∃ (seq : Fin 16) (nak : Bool), seq.val ≠ 15 ∧ nak = false :=
  ⟨2, false, by decide +kernel⟩

theorem test_LinkCells_12 : ∃ (p : Fin 32) (nak : Bool) (tok : Bool) (s : State), s.portState p.val = pTrain ∧ nak = false ∧ s.on fPAIR_CFG_en = false ∧ s.get fPAIR_STATE_role = 3 ∧ (s.port p.val).tokKnown = true ∧ s.on (fNDL_STAT_tok p.val) = tok ∧ s.tmr = [] :=
  ⟨3, false, false, (setup [(fNDL_STAT_state 3, 1)]).putPort 3 { tokKnown := true }, by decide +kernel⟩

theorem test_LinkCells_13 : ∃ (p : Fin 32) (tok : Bool) (t : Nat) (s : State), s.portState p.val = pTrain ∧ s.on fPAIR_CFG_en = false ∧ s.get fPAIR_STATE_role = 3 ∧ (s.port p.val).tokKnown = true ∧ s.on (fNDL_STAT_tok p.val) = tok ∧ s.tmr = [] ∧ (s.port p.val).fillAt = some t ∧ t + us ≤ s.now :=
  ⟨3, false, 5, ((setup [(fNDL_STAT_state 3, 1)]).putPort 3 { tokKnown := true, fillAt := some 5 }).setNow 13000, by decide +kernel⟩

theorem test_SlotCoding_1 : ∃ (p : Fin 32) (s : State), s.portState p.val ≠ pOff ∧ s.portState p.val ≠ pLoss :=
  ⟨3, (setup [(fNDL_STAT_state 3, 4)]).putPort 3 { lk := { ready := [{ cell := .cfgWr 0x10 0x12345678 }] } }, by decide +kernel⟩

theorem test_SlotCoding_2 : ∃ (p : Fin 32) (s : State), s.portState p.val = pTrain :=
  ⟨3, setup [(fNDL_STAT_state 3, 1)], by decide +kernel⟩

theorem test_SlotCoding_3 : ∃ (cs : List Chr), slotValid cs = true :=
  ⟨cellChars false 0x8000000123456789, by decide +kernel⟩

theorem test_SatelliteEdges_1 : ∃ (p : Fin 32) (y : SatPort) (h : CellHdr) (t : Nat) (s : State), inOrder h ((s.satNow p.val).link (satB y)).lk = true ∧ (s.satNow p.val).tokB = satB y ∧ (s.satNow p.val).local s.now + ns20 < nearest37 ((s.satNow p.val).local s.now) t :=
  ⟨3, .a, ⟨0, 0, false, false, false⟩, 400000, setup [], by decide +kernel⟩

theorem test_SatelliteEdges_2 : ∃ (p : Fin 32) (y : SatPort) (h : CellHdr) (s : State), inOrder h ((s.satNow p.val).link (satB y)).lk = true ∧ (s.satNow p.val).tokB ≠ satB y :=
  ⟨3, .b, ⟨0, 0, false, false, false⟩, setup [], by decide +kernel⟩

theorem test_SatelliteEdges_3 : ∃ (p : Fin 32) (y : SatPort) (h : CellHdr) (t : Nat) (s : State), inOrder h ((s.satNow p.val).link (satB y)).lk = true ∧ (s.satNow p.val).tokB = satB y ∧ nearest37 ((s.satNow p.val).local s.now) t ≤ (s.satNow p.val).local s.now + ns20 :=
  ⟨3, .a, ⟨0, 0, false, false, false⟩, 256, setup [], by decide +kernel⟩

theorem test_SatelliteEdges_4 : ∃ (p : Fin 32) (y : SatPort) (h : CellHdr) (i : Fin 4) (ls : Bool) (on : Bool) (q : QEnt) (s : State), inOrder h ((s.satNow p.val).link (satB y)).lk = true ∧ (s.satNow p.val).tokB = satB y ∧ ((s.satNow p.val).link (satB y)).queue = [q] ∧ q.slot = i.val ∧ q.e.ls = ls ∧ q.e.on = on ∧ (s.satNow p.val).local s.now + ns20 < q.e.t :=
  ⟨3, .a, ⟨0, 0, false, false, false⟩, 1, true, true, { slot := 1, e := { t := 400000, ls := true, on := true, prof := 2 } }, (setup []).putSat 3 { a := { queue := [{ slot := 1, e := { t := 400000, ls := true, on := true, prof := 2 } }] } }, by decide +kernel⟩

theorem test_SatelliteEdges_5 : ∃ (p : Fin 32) (y : SatPort) (h : CellHdr) (s : State), inOrder h ((s.satNow p.val).link (satB y)).lk = true ∧ (s.satNow p.val).tokB = satB y ∧ ((s.satNow p.val).link (satB y)).queue = [] ∧ ((s.satNow p.val).link (satB y)).done = [] ∧ ((s.satNow p.val).link (satB y)).lateSeen = [] :=
  ⟨3, .a, ⟨0, 0, false, false, false⟩, setup [], by decide +kernel⟩

theorem test_SatelliteEdges_6 : ∃ (p : Fin 32) (y : SatPort) (h : CellHdr) (mask : Fin 16) (i : Fin 4) (s : State), h.nak = false ∧ (s.satNow p.val).tokB = satB y ∧ mask.val / 2 ^ i.val % 2 = 1 ∧ ((s.satNow p.val).link (satB y)).lastForce = none ∧ (s.satNow p.val).slots.length = 4 :=
  ⟨3, .a, ⟨0, 0, false, false, false⟩, 15, 0, setup [], by decide +kernel⟩

theorem test_SatelliteEdges_7 : ∃ (p : Fin 32) (y : SatPort) (h : CellHdr) (s : State), h.nak = false ∧ (s.satNow p.val).tokB ≠ satB y :=
  ⟨3, .b, ⟨0, 0, false, false, false⟩, setup [], by decide +kernel⟩

theorem test_SatelliteEdges_8 : ∃ (p : Fin 32) (y : SatPort) (h : CellHdr) (t : Nat) (s : State), inOrder h ((s.satNow p.val).link (satB y)).lk = true ∧ (s.satNow p.val).local s.now + ns20 < nearest32 ((s.satNow p.val).local s.now) (t / 32) :=
  ⟨3, .b, ⟨0, 0, false, false, false⟩, 400000, setup [], by decide +kernel⟩

theorem test_SatelliteControl_3 : ∃ (p : Fin 32) (s : State), s.portState p.val = pTset ∧ (s.satNow p.val).a.queue = [] ∧ (s.satNow p.val).b.queue = [] :=
  ⟨3, setup [(fNDL_STAT_state 3, 3)], by decide +kernel⟩

theorem test_SatelliteControl_4 : ∃ (p : Fin 32) (s : State), s.portState p.val ≠ pTset :=
  ⟨3, setup [(fNDL_STAT_state 3, 4)], by decide +kernel⟩

theorem test_SatelliteControl_5 : ∃ (p : Fin 32) (y : SatPort) (h : CellHdr) (s : State), inOrder h ((s.satNow p.val).link (satB y)).lk = true ∧ (s.satNow p.val).tokB = satB y ∧ (s.satNow p.val).slots.length = 4 :=
  ⟨3, .a, ⟨0, 0, false, false, false⟩, setup [], by decide +kernel⟩

theorem test_SatelliteControl_6 : ∃ (p : Fin 32) (y : SatPort) (h : CellHdr) (s : State), inOrder h ((s.satNow p.val).link (satB y)).lk = true ∧ (s.satNow p.val).tokB = satB y ∧ (s.satNow p.val).slots.length = 4 :=
  ⟨3, .a, ⟨0, 0, false, false, false⟩, setup [], by decide +kernel⟩

theorem test_SatelliteControl_7 : ∃ (p : Fin 32) (y : SatPort) (h : CellHdr) (s : State), inOrder h ((s.satNow p.val).link (satB y)).lk = true :=
  ⟨3, .b, ⟨0, 0, false, false, false⟩, setup [], by decide +kernel⟩

theorem test_SatelliteControl_8 : ∃ (p : Fin 32) (y : SatPort) (h : CellHdr) (s : State), inOrder h ((s.satNow p.val).link (satB y)).lk = true :=
  ⟨3, .b, ⟨0, 0, false, false, false⟩, setup [], by decide +kernel⟩

theorem test_SatelliteControl_9 : ∃ (p : Fin 32) (y : SatPort) (h : CellHdr) (s : State), inOrder h ((s.satNow p.val).link (satB y)).lk = true ∧ (s.satNow p.val).tokB ≠ satB y ∧ ((s.satNow p.val).link (!satB y)).loss = true :=
  ⟨3, .b, ⟨0, 0, false, false, false⟩, setup [], by decide +kernel⟩

theorem test_SatelliteControl_10 : ∃ (p : Fin 32) (y : SatPort) (h : CellHdr) (s : State), inOrder h ((s.satNow p.val).link (satB y)).lk = true ∧ (s.satNow p.val).tokB ≠ satB y ∧ ((s.satNow p.val).link (!satB y)).loss = false :=
  ⟨3, .b, ⟨0, 0, false, false, false⟩, (setup []).putSat 3 { a := { loss := false } }, by decide +kernel⟩

theorem test_SatelliteControl_11 : ∃ (p : Fin 32) (y : SatPort) (h : CellHdr) (s : State), inOrder h ((s.satNow p.val).link (satB y)).lk = true ∧ (s.satNow p.val).tokB = satB y ∧ ((s.satNow p.val).link (!satB y)).loss = false :=
  ⟨3, .a, ⟨0, 0, false, false, false⟩, (setup []).putSat 3 { b := { loss := false } }, by decide +kernel⟩

theorem test_SatelliteControl_12 : ∃ (p : Fin 32) (y : SatPort) (h : CellHdr) (s : State), inOrder h ((s.satNow p.val).link (satB y)).lk = true :=
  ⟨3, .a, ⟨0, 0, false, false, false⟩, setup [], by decide +kernel⟩

theorem test_HubAnswers_1 : ∃ (p : Fin 32) (h : CellHdr) (i : Fin 4) (e : Edge) (s : State), inOrder h (s.port p.val).lk = true ∧ s.sameBits p.val h = true ∧ s.portState p.val = pUp ∧ s.delta = 0 ∧ (s.port p.val).edges = [(4 * p.val + i.val, e)] :=
  ⟨3, ⟨0, 0, false, false, false⟩, 1, { t := 400000, ls := true, on := true }, (setup [(fNDL_STAT_state 3, 4)]).putPort 3 { tokKnown := true, edges := [(13, { t := 400000, ls := true, on := true })] }, by decide +kernel⟩

theorem test_HubAnswers_2 : ∃ (p : Fin 32) (h : CellHdr) (s : State), inOrder h (s.port p.val).lk = true ∧ s.sameBits p.val h = true ∧ s.portState p.val = pUp ∧ s.tmr = [] :=
  ⟨3, ⟨0, 0, false, false, false⟩, (setup [(fNDL_STAT_state 3, 4)]).putPort 3 { tokKnown := true }, by decide +kernel⟩

theorem test_HubAnswers_3 : ∃ (p : Fin 32) (h : CellHdr) (s : State), inOrder h (s.port p.val).lk = true ∧ s.sameBits p.val h = true ∧ s.portState p.val = pUp ∧ (s.port p.val).credTaken = false ∧ (s.port p.val).acct = false ∧ (s.port p.val).force = [] ∧ s.tmr = [] :=
  ⟨3, ⟨0, 0, false, false, false⟩, (setup [(fNDL_STAT_state 3, 4)]).putPort 3 { tokKnown := true }, by decide +kernel⟩

theorem test_HubAnswers_4 : ∃ (p : Fin 32) (h : CellHdr) (cred : Fin 33) (qent : Fin 33) (s : State), inOrder h (s.port p.val).lk = true ∧ s.sameBits p.val h = true ∧ s.portState p.val = pUp ∧ (s.port p.val).credTaken = true ∧ (s.port p.val).acct = false ∧ (s.port p.val).resulted = 0 ∧ (s.port p.val).lk.unack = [] ∧ s.get (fNDL_STAT_cred p.val) + cred.val + qent.val = 32 ∧ s.tmr = [] :=
  ⟨3, ⟨0, 0, false, false, false⟩, 2, 1, (setup [(fNDL_STAT_state 3, 4), (fNDL_STAT_cred 3, 29)]).putPort 3 { tokKnown := true, credTaken := true, edges := [(12, { t := 1, ls := true, on := true }), (13, { t := 2, ls := true, on := true }), (13, { t := 3, ls := true, on := false })] }, by decide +kernel⟩

theorem test_HubAnswers_5 : ∃ (p : Fin 32) (h : CellHdr) (i : Fin 4) (s : State), inOrder h (s.port p.val).lk = true ∧ s.sameBits p.val h = true ∧ s.portState p.val = pUp ∧ s.legEn (4 * p.val + i.val) = false ∧ s.on (fNDL_TELEM_valid p.val i.val) = false ∧ s.on (fLEG_TRIP_STAT_armed (4 * p.val + i.val)) = false :=
  ⟨3, ⟨0, 0, false, false, false⟩, 2, (setup [(fNDL_STAT_state 3, 4)]).putPort 3 { tokKnown := true }, by decide +kernel⟩

theorem test_HubAnswers_6 : ∃ (p : Fin 32) (h : CellHdr) (id : Nat) (a2 : Nat) (turn : Nat) (t4 : Nat) (s : State), h.nak = false ∧ s.sameBits p.val h = true ∧ s.portState p.val = pUp ∧ s.delta = 0 ∧ t4 ≤ s.now ∧ (s.port p.val).probe = some (id % 16, 0) ∧ s.get (fNDL_SYNC_asym p.val) = 0 ∧ (s.port p.val).asym = 0 ∧ turn < 4096 ∧ turn ≤ t4 ∧ t4 - turn < 65536 ∧ (t4 - turn) / 2 = a2 ∧ s.pairLink = 0 ∧ s.tmr = [] :=
  ⟨3, ⟨0, 0, false, false, false⟩, 5, 100, 40, 240, ((setup [(fNDL_STAT_state 3, 4)]).putPort 3 { tokKnown := true, probe := some (5, 0) }).setNow 1000, by decide +kernel⟩

theorem test_HubAnswers_7 : ∃ (p : Fin 32) (h : CellHdr) (s : State), inOrder h (s.port p.val).lk = true ∧ s.sameBits p.val h = true ∧ s.portState p.val = pCaps :=
  ⟨3, ⟨0, 0, false, false, false⟩, (setup [(fNDL_STAT_state 3, 2)]).putPort 3 { tokKnown := true }, by decide +kernel⟩

theorem test_HubAnswers_8 : ∃ (p : Fin 32) (h : CellHdr) (s : State), inOrder h (s.port p.val).lk = true ∧ s.sameBits p.val h = true ∧ s.portState p.val = pCaps :=
  ⟨3, ⟨0, 0, false, false, false⟩, (setup [(fNDL_STAT_state 3, 2)]).putPort 3 { tokKnown := true }, by decide +kernel⟩

theorem test_HubAnswers_9 : ∃ (p : Fin 32) (h : CellHdr) (s : State), inOrder h (s.port p.val).lk = true ∧ s.sameBits p.val h = true ∧ s.portState p.val = pUp :=
  ⟨3, ⟨0, 0, false, false, false⟩, (setup [(fNDL_STAT_state 3, 4), (fNDL_STAT_side 3, 0), (fNDL_STAT_tok 3, 0)]).putPort 3 { tokKnown := true }, by decide +kernel⟩

theorem test_HubAnswers_10 : ∃ (p : Fin 32) (h : CellHdr) (s : State), inOrder h (s.port p.val).lk = true ∧ s.sameBits p.val h = true ∧ s.portState p.val = pUp ∧ s.basil.rx = [] :=
  ⟨3, ⟨0, 0, false, false, false⟩, (setup [(fNDL_STAT_state 3, 4)]).putPort 3 { tokKnown := true }, by decide +kernel⟩

theorem test_HubAnswers_11 : ∃ (p : Fin 32) (h : CellHdr) (i : Fin 4) (t : Nat) (s : State), inOrder h (s.port p.val).lk = true ∧ s.sameBits p.val h = true ∧ s.portState p.val = pUp ∧ (s.port p.val).smpReq = [(t, 2 ^ i.val, true)] ∧ s.diss = [] ∧ s.legEn (4 * p.val + i.val) = true ∧ s.mirrorGroup (s.legMg (4 * p.val + i.val)) = false ∧ s.on (fSAGE_TM_CFG_en (s.legMg (4 * p.val + i.val))) = true ∧ 4 * p.val + i.val ∈ s.tmLegs (s.legMg (4 * p.val + i.val)) ∧ (s.tm (s.legMg (4 * p.val + i.val))).cnts = [] :=
  ⟨3, ⟨0, 0, false, false, false⟩, 1, 9, (((setup [(fNDL_STAT_state 3, 4), (fLEG_CFG_en 13, 1), (fLEG_CFG_mg 13, 2), (fSAGE_TM_CFG_en 2, 1), (fMG_CFG_type 2, 1), (fSAGE_TM_CFG_first 2, 13)])).putPort 3 { tokKnown := true, smpReq := [(9, 2, true)] }), by decide +kernel⟩

theorem test_HubTimers_1 : ∃ (p : Fin 32) (s : State), s.portState p.val = pUp ∧ (s.port p.val).lastProbe.isSome = true :=
  ⟨3, (setup [(fNDL_STAT_state 3, 4)]).putPort 3 { lastProbe := some 7 }, by decide +kernel⟩

theorem test_HubTimers_2 : ∃ (p : Fin 32) (s : State), s.portState p.val ≠ pUp :=
  ⟨3, setup [], by decide +kernel⟩

theorem test_HubTimers_3 : ∃ (p : Fin 32) (s : State), s.portState p.val = pUp ∧ s.mirrorPort p.val = false :=
  ⟨3, setup [(fNDL_STAT_state 3, 4)], by decide +kernel⟩

theorem test_HubTimers_4 : ∃ (p : Fin 32) (s : State), s.portState p.val ≠ pUp :=
  ⟨3, setup [], by decide +kernel⟩

theorem test_HubTimers_5 : ∃ (p : Fin 32) (f : FPend) (s : State), (s.port p.val).force = [f] :=
  ⟨3, { id := 4, mask := 3, pat := 0, indef := true, dly := 9, fin := 0, last := 77 }, (setup []).putPort 3 { force := [{ id := 4, mask := 3, pat := 0, indef := true, dly := 9, fin := 0, last := 77 }] }, by decide +kernel⟩

theorem test_HubTimers_6 : ∃ (p : Fin 32) (s : State), (s.port p.val).force = [] :=
  ⟨3, setup [], by decide +kernel⟩

theorem test_HubTimers_7 : ∃ (r : Req) (p : Fin 32) (s : State), s.grants r (aNDL_TOKEN p.val) true = true ∧ s.on (fNDL_TOK_STAT_busy p.val) = false ∧ ((s.portState p.val = pCaps ∨ s.portState p.val = pTset ∨ s.portState p.val = pUp)) :=
  ⟨.apc0, 3, setup [(fNDL_STAT_state 3, 4)], by decide +kernel⟩

theorem test_HubTimers_8 : ∃ (r : Req) (p : Fin 32) (s : State), s.grants r (aNDL_TOKEN p.val) true = true ∧ s.on (fNDL_TOK_STAT_busy p.val) = false ∧ ((s.portState p.val = pCaps ∨ s.portState p.val = pTset ∨ s.portState p.val = pUp)) :=
  ⟨.apc0, 3, setup [(fNDL_STAT_state 3, 4)], by decide +kernel⟩

theorem test_HubTimers_9 : ∃ (r : Req) (p : Fin 32) (s : State), s.grants r (aNDL_TOKEN p.val) true = true ∧ s.on (fNDL_TOK_STAT_busy p.val) = false ∧ ((s.portState p.val = pCaps ∨ s.portState p.val = pTset ∨ s.portState p.val = pUp)) :=
  ⟨.apc0, 3, setup [(fNDL_STAT_state 3, 4)], by decide +kernel⟩

theorem test_HubTimers_10 : ∃ (r : Req) (p : Fin 32) (s : State), s.grants r (aNDL_TOKEN p.val) true = true ∧ ((s.on (fNDL_TOK_STAT_busy p.val) = true ∨ s.portState p.val = pOff)) :=
  ⟨.apc0, 3, setup [(fNDL_TOK_STAT_busy 3, 1), (fNDL_STAT_state 3, 4)], by decide +kernel⟩

theorem test_SatelliteTimers_1 : ∃ (p : Fin 32) (y : SatPort) (q : QEnt) (s : State), ((s.sat p.val).link (satB y)).queue = [q] ∧ q.passed = false ∧ q.slot < 4 ∧ q.e.on = false ∧ q.kill = false ∧ (s.sat p.val).slots.length = 4 ∧ (∀ v ∈ (s.sat p.val).slots, v.onDue = none) ∧ ((s.sat p.val).slot q.slot).inReact = false ∧ ((s.sat p.val).slot q.slot).hold = none :=
  ⟨3, .a, { slot := 1, e := { t := 400000, ls := false, on := false } }, (setup []).putSat 3 { a := { queue := [{ slot := 1, e := { t := 400000, ls := false, on := false } }] }, slots := [{}, { inReact := false, hs := true }, {}, {}] }, by decide +kernel⟩

theorem test_SatelliteTimers_2 : ∃ (p : Fin 32) (y : SatPort) (s : State), ((s.sat p.val).link (satB y)).queue = [] :=
  ⟨3, .a, setup [], by decide +kernel⟩

theorem test_SatelliteTimers_3 : ∃ (p : Fin 32) (y : SatPort) (a : List Int) (b : List Int) (c : List Int) (t : Nat) (s : State), a.length = 4 ∧ b.length = 4 ∧ c.length = 4 ∧ ((s.sat p.val).link (satB y)).smp = [(t, 1, 5, false)] ∧ 1 ≤ (s.sat p.val).nSlots ∧ (∀ v ∈ (s.sat p.val).slots, v.onDue = none) :=
  ⟨3, .a, [1, 2, 3, 4], [0, 0, 0, 0], [5, 6, 7, -8], 400000, (setup []).putSat 3 { a := { smp := [(400000, 1, 5, false)] } }, by decide +kernel⟩

theorem test_SatelliteTimers_4 : ∃ (p : Fin 32) (i : Fin 4) (e : Nat) (s : State), ((s.sat p.val).slot i.val).hold.bind (·.fin) = some e ∧ (s.sat p.val).slots.length = 4 ∧ (∀ v ∈ (s.sat p.val).slots, v.onDue = none) :=
  ⟨3, 2, 400000, (setup []).putSat 3 { slots := [{}, {}, { hold := some { pat := 3, fin := some 400000 } }, {}] }, by decide +kernel⟩

theorem test_SatelliteTimers_5 : ∃ (p : Fin 32) (i : Fin 4) (s : State), ((s.sat p.val).slot i.val).hold = none :=
  ⟨3, 2, setup [], by decide +kernel⟩

theorem test_SatelliteTimers_6 : ∃ (p : Fin 32) (y : SatPort) (q : QEnt) (s : State), ((s.sat p.val).link (satB y)).queue = [q] ∧ q.passed = true ∧ q.old = false ∧ (∀ v ∈ (s.sat p.val).slots, v.onDue = none) :=
  ⟨3, .a, { slot := 1, e := { t := 400000, ls := false, on := false }, passed := true }, (setup []).putSat 3 { a := { queue := [{ slot := 1, e := { t := 400000, ls := false, on := false }, passed := true }] } }, by decide +kernel⟩

theorem test_SatelliteTimers_7 : ∃ (p : Fin 32) (y : SatPort) (s : State), (∀ v ∈ (s.sat p.val).slots, v.onDue = none) ∧ ((s.sat p.val).link (satB y)).lk.ready = [] :=
  ⟨3, .b, setup [], by decide +kernel⟩

theorem test_SatelliteTimers_8 : ∃ (p : Fin 32) (s : State), (∀ v ∈ (s.sat p.val).slots, v.onDue = none) :=
  ⟨3, setup [], by decide +kernel⟩

theorem test_SatelliteTimers_9 : ∃ (p : Fin 32) (y : SatPort) (t : Nat) (s : State), ((s.sat p.val).link (satB y)).bankAt = some t ∧ (∀ v ∈ (s.sat p.val).slots, v.onDue = none) :=
  ⟨3, .a, 400000, (setup []).putSat 3 { a := { bankAt := some 400000, profOther := [1, 2] } }, by decide +kernel⟩

theorem test_SatelliteFaults_1 : ∃ (p : Fin 32) (s : State), (s.satNow p.val).slots.length = 4 :=
  ⟨3, (setup []).putSat 3 { slots := [{}, {}, { ls := true }, {}] }, by decide +kernel⟩

theorem test_SatelliteFaults_2 : ∃ (p : Fin 32) (s : State), (s.satNow p.val).slots.length = 4 :=
  ⟨3, (setup []).putSat 3 { slots := [{}, {}, { hs := true }, {}] }, by decide +kernel⟩

theorem test_SatelliteFaults_3 : ∃ (p : Fin 32) (y : SatPort) (s : State), ((s.sat p.val).link (satB y)).loss = false ∧ (s.sat p.val).tokB ≠ satB y ∧ (∀ v ∈ (s.sat p.val).slots, v.onDue = none) :=
  ⟨3, .b, (setup []).putSat 3 { b := { loss := false, lastValid := 9, lexec := 4 } }, by decide +kernel⟩

theorem test_SatelliteFaults_4 : ∃ (p : Fin 32) (y : SatPort) (s : State), ((s.sat p.val).link (satB y)).loss = true ∧ (∀ v ∈ (s.sat p.val).slots, v.onDue = none) :=
  ⟨3, .a, setup [], by decide +kernel⟩

theorem test_SatelliteFaults_5 : ∃ (p : Fin 32) (i : Fin 4) (t : Nat) (s : State), ((s.sat p.val).slot i.val).phLim = some t ∧ (s.sat p.val).slots.length = 4 ∧ ((s.sat p.val).slot i.val).react = 0 ∧ (∀ v ∈ (s.sat p.val).slots, v.onDue = none) :=
  ⟨3, 1, 400000, (setup []).putSat 3 { slots := [{}, { phLim := some 400000, hs := true, inReact := false }, {}, {}] }, by decide +kernel⟩

theorem test_SatelliteFaults_6 : ∃ (p : Fin 32) (i : Fin 4) (s : State), ((s.sat p.val).slot i.val).phLim = none :=
  ⟨3, 1, setup [], by decide +kernel⟩

theorem test_SatelliteFaults_7 : ∃ (p : Fin 32) (i : Fin 4) (e : Edge) (s : State), ((s.sat p.val).slot i.val).reps = [e] ∧ e.on = false ∧ (s.sat p.val).slots.length = 4 ∧ ((s.sat p.val).slot i.val).hold = none ∧ ((s.sat p.val).slot i.val).period = none ∧ ((s.sat p.val).slot i.val).phEnd = none ∧ (∀ v ∈ (s.sat p.val).slots, v.onDue = none) :=
  ⟨3, 1, { t := 400000, ls := false, on := false }, (setup []).putSat 3 { slots := [{}, { reps := [{ t := 400000, ls := false, on := false }], hs := true, inReact := false, phLim := some 9000000 }, {}, {}] }, by decide +kernel⟩

theorem test_SatelliteFaults_9 : ∃ (p : Fin 32) (i : Fin 4) (s : State), (s.satNow p.val).slots.length = 4 ∧ ((s.satNow p.val).slot i.val).flags = 0 :=
  ⟨3, 1, setup [], by decide +kernel⟩

theorem test_SageHealth_1 : ∃ (n : Nat), 3840 ≤ n ∧ n ≤ 4160 :=
  ⟨4010, by decide +kernel⟩

theorem test_SageHealth_2 : ∃ (n : Nat) (s : State), n < 100 ∧ s.on fSAGE_HEALTH_clk_ok = true :=
  ⟨90, setup [(fSAGE_HEALTH_clk_ok, 1)], by decide +kernel⟩

theorem test_SageHealth_3 : ∃ (n : Nat) (b : Bool), 1920 ≤ n ∧ n ≤ 2080 ∧ b = false :=
  ⟨2000, false, by decide +kernel⟩

theorem test_SageHealth_4 : ∃ (b : Bool) (s : State), b = true ∧ s.sage.lost = false :=
  ⟨true, setup [], by decide +kernel⟩

theorem test_SageHealth_5 : ∃ (core : Bool) (s : State), s.on fSAGE_HEALTH_sup_ok = true ∧ core = true :=
  ⟨true, setup [(fSAGE_HEALTH_sup_ok, 1)], by decide +kernel⟩

theorem test_SageHealth_6 : ∃ (s : State), s.sage.lost = false :=
  ⟨setup [(fSAGE_HEALTH_sup_ok, 1)], by decide +kernel⟩

theorem test_SageHealth_7 : ∃ (s : State), s.sage.running = true ∧ s.sage.aliveSusp = false ∧ s.sage.lost = false :=
  ⟨(setup []).setSage { running := true }, by decide +kernel⟩

theorem test_SageHealth_8 : ∃ (s : State), s.sage.running = false :=
  ⟨setup [], by decide +kernel⟩

theorem test_SageHealth_9 : ∃ (r : Req) (s : State), s.grants r 0x400F0008 true = true ∧ s.allHeld = true ∧ s.isRun 4 = true :=
  ⟨.sage, setup [], by decide +kernel⟩

theorem test_SageHealth_10 : ∃ (r : Req) (n : Fin 128) (s : State), s.grants r 0x400F0008 true = true ∧ s.legEn n.val = true ∧ inHold (s.mgState (s.legMg n.val)) = false ∧ s.tmr = [] :=
  ⟨.sage, 6, setup [(fLEG_CFG_en 6, 1)], by decide +kernel⟩

theorem test_SageHealth_11 : ∃ (t : Nat) (s : State), s.sage.resetAt = some t ∧ s.sage.lost = false :=
  ⟨77, (setup []).setSage { resetAt := some 77 }, by decide +kernel⟩

theorem test_SageHealth_12 : ∃ (i : Fin 2) (s : State), s.on (fAPC_LS_STAT_broken i.val) = false ∧ (s.apcPair i.val).halted = false ∧ s.tmr = [] :=
  ⟨1, setup [], by decide +kernel⟩

theorem test_SageHealth_13 : ∃ (s : State), s.sage.lost = false :=
  ⟨setup [], by decide +kernel⟩

theorem test_SageHealth_14 : ∃ (r : Req) (i : Fin 2) (s : State), s.grants r aAPC_LS_INJ true = true ∧ s.on (fAPC_LS_STAT_broken i.val) = false :=
  ⟨.apc0, 1, setup [], by decide +kernel⟩

theorem test_SageHealth_15 : ∃ (r : Req) (s : State), s.grants r aSAGE_LS_INJ true = true :=
  ⟨.sage, setup [], by decide +kernel⟩

theorem test_SageHealth_16 : ∃ (s : State), s.on (fAPC_LS_STAT_dbg_allow 0) = true :=
  ⟨setup [(fAPC_LS_STAT_dbg_allow 0, 1)], by decide +kernel⟩

theorem test_SageHealth_17 : ∃ (s : State), s.on (fAPC_LS_STAT_dbg_allow 0) = false :=
  ⟨setup [], by decide +kernel⟩

theorem test_SageHealth_18 : ∃ (s : State), s.sage.dbgHalt = true :=
  ⟨(setup []).setSage { dbgHalt := true }, by decide +kernel⟩

theorem test_SageCommands_1 : ∃ (e : Fin 64), e.val ≠ 14 ∧ e.val ≠ 15 :=
  ⟨20, by decide +kernel⟩

theorem test_SageCommands_2 : ∃ (r : Req) (m : Fin 32) (s : State), s.grants r aSAGE_MG_CMD true = true ∧ s.rd aSAGE_MG_SEL = BitVec.ofNat 32 (2 ^ m.val) ∧ s.mgType m.val ≠ 0 ∧ s.members m.val ≠ [] ∧ s.mgState m.val = 0 ∧ s.decided m.val = false ∧ s.tmr = [] :=
  ⟨.sage, 2, (setup [(fLEG_CFG_en 6, 1), (fLEG_CFG_mg 6, 2), (fMG_CFG_type 2, 1)]).wr aSAGE_MG_SEL 4, by decide +kernel⟩

theorem test_SageCommands_3 : ∃ (r : Req) (m : Fin 32) (s : State), s.grants r aSAGE_MG_CMD true = true ∧ s.rd aSAGE_MG_SEL = BitVec.ofNat 32 (2 ^ m.val) ∧ s.mgType m.val ≠ 0 ∧ s.members m.val ≠ [] ∧ s.mgState m.val = 0 ∧ s.decided m.val = false ∧ s.tmr = [] :=
  ⟨.sage, 2, (setup [(fLEG_CFG_en 6, 1), (fLEG_CFG_mg 6, 2), (fMG_CFG_type 2, 1)]).wr aSAGE_MG_SEL 4, by decide +kernel⟩

theorem test_SageCommands_4 : ∃ (r : Req) (m : Fin 32) (s : State), s.grants r aSAGE_MG_CMD true = true ∧ s.rd aSAGE_MG_SEL = BitVec.ofNat 32 (2 ^ m.val) ∧ s.mgType m.val ≠ 0 ∧ s.members m.val ≠ [] ∧ s.mgState m.val = 0 ∧ s.decided m.val = false ∧ s.tmr = [] :=
  ⟨.sage, 2, (setup [(fLEG_CFG_en 6, 1), (fLEG_CFG_mg 6, 2), (fMG_CFG_type 2, 2)]).wr aSAGE_MG_SEL 4, by decide +kernel⟩

theorem test_SageCommands_5 : ∃ (r : Req) (m : Fin 32) (s : State), s.grants r aSAGE_MG_CMD true = true ∧ s.rd aSAGE_MG_SEL = BitVec.ofNat 32 (2 ^ m.val) ∧ inHold (s.mgState m.val) = true ∧ s.disRefused m.val 1 = false ∧ s.tmr = [] :=
  ⟨.sage, 2, (((area 0 [(0, 0x01014000)] (setup [(fMG_STAT_state 2, 3), (fMG_CFG_type 2, 1), (fSAGE_DIS_CFG_en 2, 1), (fSAGE_DIS_CFG_w_ok 2, 1), (fNDL_STAT_state 0, 4)])).putCtx 0 { st := .run })).wr aSAGE_MG_SEL 4, by decide +kernel⟩

theorem test_SageCommands_6 : ∃ (r : Req) (m : Fin 32) (s : State), s.grants r aSAGE_MG_CMD true = true ∧ s.rd aSAGE_MG_SEL = BitVec.ofNat 32 (2 ^ m.val) ∧ inHold (s.mgState m.val) = true ∧ s.disRefused m.val 2 = false ∧ s.tmr = [] :=
  ⟨.sage, 2, ((setup [(fMG_STAT_state 2, 1), (fMG_CFG_type 2, 1), (fSAGE_DIS_CFG_en 2, 1), (fSAGE_DIS_CFG_b_ok 2, 1), (fSAGE_DIS_CFG_bleed 2, 24), (fLEG_CFG_en 24, 1), (fLEG_CFG_mg 24, 2), (fLEG_CFG_mode 24, 1), (fNDL_STAT_state 0, 4)]).putLeg 24 { bootRep := true, held := 1 }).wr aSAGE_MG_SEL 4, by decide +kernel⟩

theorem test_SageCommands_7 : ∃ (r : Req) (m : Fin 32) (s : State), s.grants r aSAGE_MG_CMD true = true ∧ s.rd aSAGE_MG_SEL = BitVec.ofNat 32 (2 ^ m.val) ∧ inHold (s.mgState m.val) = false ∧ s.tmr = [] :=
  ⟨.sage, 2, (setup []).wr aSAGE_MG_SEL 4, by decide +kernel⟩

theorem test_SageCommands_8 : ∃ (r : Req) (m : Fin 32) (s : State), s.grants r aSAGE_MG_CMD true = true ∧ s.rd aSAGE_MG_SEL = BitVec.ofNat 32 (2 ^ m.val) ∧ s.decided m.val = false ∧ s.pendingEvents = [] ∧ s.sage.lost = false ∧ s.tmr = [] :=
  ⟨.sage, 2, (setup [(fMG_TRIP_STAT_sage_hold 2, 1)]).wr aSAGE_MG_SEL 4, by decide +kernel⟩

theorem test_SageCommands_9 : ∃ (r : Req) (s : State), s.grants r aSAGE_NS_CMD true = true :=
  ⟨.sage, setup [], by decide +kernel⟩

theorem test_SageCommands_10 : ∃ (r : Req) (s : State), s.grants r aSAGE_NS_CMD true = true ∧ s.pendingEvents = [] ∧ s.get fSAGE_HEALTH_ns_cause % 8 = 0 ∧ s.on fSAGE_HEALTH_not_safe = true :=
  ⟨.sage, setup [(fSAGE_HEALTH_ns_cause, 16), (fSAGE_HEALTH_not_safe, 1), (fSAGE_EVT_CFG_ns 37, 0), (fSAGE_EVT_CFG_ns 2, 0), (fSAGE_EVT_CFG_ns 0, 0), (fSAGE_HEALTH_clk_ok, 1), (fSAGE_HEALTH_sup_ok, 1)], by decide +kernel⟩

theorem test_SageCommands_11 : ∃ (r : Req) (s : State), s.grants r aSAGE_PIN_CMD true = true :=
  ⟨.sage, setup [(fSAGE_PIN_STAT_asserted, 2)], by decide +kernel⟩

theorem test_SageCommands_12 : ∃ (r : Req) (s : State), s.grants r aSAGE_PIN_CMD true = true ∧ s.pendingEvents = [] ∧ s.sage.lost = false :=
  ⟨.sage, setup [(fSAGE_PIN_STAT_asserted, 15), (fSAGE_HEALTH_clk_ok, 1), (fSAGE_HEALTH_sup_ok, 1)], by decide +kernel⟩

theorem test_Supervision_1 : ∃ (m : Fin 32) (n : Nat) (y : ChkItem) (s : State), s.on (fSAGE_TM_CFG_en m.val) = true ∧ s.get (fSAGE_TM_CFG_mode m.val) = 3 ∧ s.tmLegs m.val = [n] ∧ (s.tm m.val).items = [y] ∧ y.leg = n :=
  ⟨2, 13, { leg := 13, t := 9, i := -5, vdc := 6, cnt := 7 }, (setup [(fLEG_CFG_en 13, 1), (fLEG_CFG_mg 13, 2), (fSAGE_TM_CFG_en 2, 1), (fSAGE_TM_CFG_mode 2, 3), (fSAGE_TM_CFG_first 2, 13), (fMG_CFG_type 2, 1)]).putTm 2 { items := [{ leg := 13, t := 9, i := -5, vdc := 6, cnt := 7 }] }, by decide +kernel⟩

theorem test_Supervision_2 : ∃ (m : Fin 32) (s : State), s.on (fSAGE_TM_CFG_en m.val) = false :=
  ⟨2, setup [], by decide +kernel⟩

theorem test_Supervision_3 : ∃ (k : Fin 128) (s : State), s.livLimit k.val ≠ 0 ∧ (s.ctx k.val).st = .run ∧ s.bitAt (aSAGE_LIV_VIOL 0) k.val = false :=
  ⟨5, (setup [(fSAGE_LIV_T_lim_odd 2, 3)]).putCtx 5 { st := .run }, by decide +kernel⟩

theorem test_Supervision_4 : ∃ (k : Fin 128) (s : State), ((s.livLimit k.val = 0 ∨ (s.ctx k.val).st ≠ .run)) :=
  ⟨5, setup [], by decide +kernel⟩

theorem test_Supervision_5 : ∃ (k : Fin 128) (s : State), s.livLimit k.val ≠ 0 ∧ (s.ctx k.val).st ≠ .off ∧ 1 ≤ s.cKid k.val ∧ s.cKid k.val ≤ 3 ∧ (s.cw k.val 0x7A0).fld 2 1 = 1 ∧ (Tab.get ({} : Liv) s.livs k.val).kb = false :=
  ⟨5, (((area 5 [(0, 0x01014000), (0x7A0, 4)] (setup [(fSAGE_LIV_T_lim_odd 2, 3)])).putCtx 5 { st := .run })), by decide +kernel⟩

theorem test_Supervision_6 : ∃ (s : State), (∀ k ∈ allCtx, s.livLimit k = 0) :=
  ⟨setup [], by decide +kernel⟩

theorem test_Supervision_7 : ∃ (m : Fin 32) (t : Nat) (s : State), (s.mg m.val).dis ≠ 0 ∧ (s.dis m.val).below = some t ∧ s.tmr = [] :=
  ⟨2, 77, (((setup [(fMG_STAT_state 2, 4), (fLEG_CFG_en 13, 1), (fLEG_CFG_mg 13, 2), (fMG_CFG_type 2, 1)]).putMg 2 { dis := 1 }).setDiss [(2, { mode := 1, start := 5, lastV := 5, below := some 77 })]), by decide +kernel⟩

theorem test_Supervision_8 : ∃ (m : Fin 32) (s : State), (s.mg m.val).dis ≠ 0 ∧ s.tmr = [] :=
  ⟨2, (((setup [(fMG_STAT_state 2, 4), (fMG_CFG_type 2, 1)]).putMg 2 { dis := 1 }).setDiss [(2, { mode := 1, start := 5, lastV := 5 })]), by decide +kernel⟩

theorem test_Supervision_9 : ∃ (m : Fin 32) (s : State), (s.mg m.val).dis ≠ 0 ∧ (s.dis m.val).vcw = none :=
  ⟨2, (((setup [(fMG_STAT_state 2, 4), (fMG_CFG_type 2, 1)]).putMg 2 { dis := 1 }).setDiss [(2, { mode := 1, start := 5, lastV := 5 })]), by decide +kernel⟩

theorem test_Supervision_10 : ∃ (m : Fin 32) (c : Word) (s : State), (s.mg m.val).dis ≠ 0 ∧ (s.dis m.val).vcw = some c ∧ F32.lt (F32.ofInt (s.get (fSAGE_DIS_LIM_v_safe m.val))) (s.dis m.val).vw = true ∧ F32.lt (F32.mul (F32.dec 97 100) c) (s.dis m.val).vw = true ∧ s.tmr = [] :=
  ⟨2, 0x43FA0000, (((setup [(fMG_STAT_state 2, 4), (fMG_CFG_type 2, 1)]).putMg 2 { dis := 1 }).setDiss [(2, { mode := 1, start := 5, lastV := 5, vw := 0x43F90000, vcw := some 0x43FA0000 })]), by decide +kernel⟩

theorem test_Supervision_11 : ∃ (m : Fin 32) (s : State), (s.mg m.val).dis ≠ 0 ∧ s.tmr = [] :=
  ⟨2, (((setup [(fMG_STAT_state 2, 4), (fMG_CFG_type 2, 1)]).putMg 2 { dis := 2 }).setDiss [(2, { mode := 2, start := 5, lastV := 6 })]), by decide +kernel⟩

theorem test_Supervision_12 : ∃ (m : Fin 32) (s : State), (s.mg m.val).dis = 0 :=
  ⟨2, setup [], by decide +kernel⟩

theorem test_Watchdogs_1 : ∃ (r : Req) (s : State), s.grants r aSAGE_WDG_SVC true = true ∧ s.sage.running = true ∧ s.sage.lost = false ∧ (s.wdg 0).first = false :=
  ⟨.sage, (setup []).setSage { running := true }, by decide +kernel⟩

theorem test_Watchdogs_2 : ∃ (r : Req) (s : State), s.grants r aSAGE_WDG_SVC true = true ∧ s.sage.running = true ∧ s.sage.lost = false ∧ (s.wdg 0).first = true ∧ ((s.wdg 0).served = true → 10 * us * (s.wdg 0).wmin ≤ s.now - (s.wdg 0).last) ∧ s.now - (s.wdg 0).last ≤ 10 * us * (s.wdg 0).wmax :=
  ⟨.sage, ((setup []).setSage { running := true }).putWdg 0 { first := true, wmax := 5 }, by decide +kernel⟩

theorem test_Watchdogs_3 : ∃ (r : Req) (key : Fin 256) (s : State), s.grants r aSAGE_WDG_SVC true = true ∧ s.sage.running = true ∧ s.sage.lost = false ∧ key.val ≠ 0x5A ∧ key.val ≠ 0xA5 :=
  ⟨.sage, 0x11, (setup []).setSage { running := true }, by decide +kernel⟩

theorem test_Watchdogs_4 : ∃ (s : State), s.sage.running = true ∧ s.sage.lost = false :=
  ⟨(setup []).setSage { running := true }, by decide +kernel⟩

theorem test_Watchdogs_5 : ∃ (r : Req) (i : Fin 2) (s : State), s.grants r (aAPC_WDG_SVC i.val) true = true ∧ (s.wdg (i.val + 1)).wmax ≠ 0 ∧ s.on (fAPC_WDG_STAT_expired i.val) = false ∧ (s.wdg (i.val + 1)).first = true ∧ (s.wdg (i.val + 1)).served = false ∧ s.now - (s.wdg (i.val + 1)).last ≤ 10 * us * (s.wdg (i.val + 1)).wmax :=
  ⟨.apc0, 1, ((setup []).putWdg 2 { first := true, wmax := 5 }), by decide +kernel⟩

theorem test_Watchdogs_6 : ∃ (r : Req) (i : Fin 2) (key : Fin 256) (s : State), s.grants r (aAPC_WDG_SVC i.val) true = true ∧ (s.wdg (i.val + 1)).wmax ≠ 0 ∧ s.on (fAPC_WDG_STAT_expired i.val) = false ∧ key.val ≠ 0x5A ∧ key.val ≠ 0xA5 :=
  ⟨.apc0, 1, 0x11, ((setup []).putWdg 2 { first := true, wmax := 5 }), by decide +kernel⟩

theorem test_Watchdogs_7 : ∃ (i : Fin 2) (s : State), (s.wdg (i.val + 1)).wmax ≠ 0 ∧ s.on (fAPC_WDG_STAT_expired i.val) = false :=
  ⟨1, ((setup []).putWdg 2 { wmax := 5 }), by decide +kernel⟩

theorem test_Watchdogs_8 : ∃ (i : Fin 2) (s : State), (s.wdg (i.val + 1)).wmax = 0 :=
  ⟨1, setup [], by decide +kernel⟩

theorem test_Watchdogs_9 : ∃ (s : State), s.sage.running = true ∧ (s.wdg 0).served = true :=
  ⟨((setup []).setSage { running := true }).putWdg 0 { served := true, wmin := 4 }, by decide +kernel⟩

theorem test_Watchdogs_10 : ∃ (i : Fin 2) (s : State), (s.wdg (i.val + 1)).wmax ≠ 0 ∧ (s.wdg (i.val + 1)).served = true :=
  ⟨1, ((setup []).putWdg 2 { wmax := 5, served := true }), by decide +kernel⟩

theorem test_PairCommands_1 : ∃ (r : Req) (s : State), s.grants r aPAIR_CMD true = true ∧ s.joinOk = true ∧ s.pairLink = 4 :=
  ⟨.apc0, setup [(fPAIR_STATE_link, 4), (fPAIR_CFG_en, 1), (fPAIR_STATE_cmd_ref, 1)], by decide +kernel⟩

theorem test_PairCommands_2 : ∃ (r : Req) (s : State), s.grants r aPAIR_CMD true = true ∧ s.pairLink = 3 :=
  ⟨.apc0, setup [(fPAIR_STATE_link, 3), (fPAIR_CFG_en, 1)], by decide +kernel⟩

theorem test_PairCommands_3 : ∃ (r : Req) (p : Fin 32) (s : State), s.grants r aPAIR_CMD true = true ∧ s.role = 1 ∧ s.pairLink = 3 ∧ s.pairedPorts = [p.val] ∧ s.on (fNDL_TOK_STAT_busy p.val) = false :=
  ⟨.apc0, 3, setup [(fPAIR_STATE_link, 3), (fPAIR_CFG_en, 1), (fPAIR_PORTS_ports, 8), (fNDL_STAT_state 3, 4), (fNDL_STAT_tok 3, 1)], by decide +kernel⟩

theorem test_PairCommands_4 : ∃ (r : Req) (p : Fin 32) (s : State), s.grants r aPAIR_CMD true = true ∧ s.role = 1 ∧ s.pairLink = 3 ∧ s.pairedPorts = [p.val] ∧ s.on (fNDL_TOK_STAT_busy p.val) = false :=
  ⟨.apc0, 3, setup [(fPAIR_STATE_link, 3), (fPAIR_CFG_en, 1), (fPAIR_PORTS_ports, 8), (fNDL_STAT_state 3, 4), (fNDL_STAT_tok 3, 1)], by decide +kernel⟩

theorem test_PairCommands_5 : ∃ (r : Req) (p : Fin 32) (s : State), s.grants r aPAIR_CMD true = true ∧ s.on fPAIR_CFG_en = true ∧ s.yieldPorts = [p.val] ∧ s.on (fNDL_TOK_STAT_busy p.val) = false ∧ ((s.portState p.val = pCaps ∨ s.portState p.val = pTset ∨ s.portState p.val = pUp)) :=
  ⟨.apc0, 3, setup [(fPAIR_CFG_en, 1), (fPAIR_PORTS_ports, 8), (fNDL_STAT_state 3, 4), (fNDL_STAT_tok 3, 1)], by decide +kernel⟩

theorem test_PairCommands_6 : ∃ (r : Req) (p : Fin 32) (s : State), s.grants r aPAIR_CMD true = true ∧ s.on fPAIR_CFG_en = true ∧ s.pairedPorts = [p.val] ∧ s.on (fNDL_TOK_STAT_busy p.val) = false ∧ ((s.portState p.val = pCaps ∨ s.portState p.val = pTset ∨ s.portState p.val = pUp)) :=
  ⟨.apc0, 3, setup [(fPAIR_CFG_en, 1), (fPAIR_PORTS_ports, 8), (fNDL_STAT_state 3, 2)], by decide +kernel⟩

theorem test_PairCommands_7 : ∃ (s : State), s.role = 1 ∧ s.on fPAIR_STAT_link_up = true :=
  ⟨setup [(fPAIR_STATE_link, 3), (fPAIR_STAT_link_up, 1), (fPAIR_CFG_en, 1), (fPAIR_PORTS_ports, 8), (fNDL_STAT_state 3, 4), (fNDL_STAT_tok 3, 1)], by decide +kernel⟩

theorem test_PairCommands_8 : ∃ (s : State), s.role = 0 ∧ s.pairLink = 3 :=
  ⟨setup [(fPAIR_STATE_link, 3), (fPAIR_CFG_en, 1)], by decide +kernel⟩

theorem test_PairCommands_9 : ∃ (s : State), s.pairLink = 1 ∧ s.pair.joinReq = false ∧ s.hpm.rcalBad.contains 2 = false :=
  ⟨setup [(fPAIR_STATE_link, 1), (fPAIR_CFG_en, 1)], by decide +kernel⟩

theorem test_PairCommands_10 : ∃ (s : State), s.on fPAIR_STAT_link_up = true ∧ s.tmr = [] :=
  ⟨setup [(fPAIR_STAT_link_up, 1)], by decide +kernel⟩

theorem test_PairCommands_11 : ∃ (s : State), s.on fPAIR_STAT_link_up = true ∧ s.pairLink = 2 ∧ s.role = 0 ∧ s.tmr = [] :=
  ⟨setup [(fPAIR_STATE_link, 2), (fPAIR_STAT_link_up, 1), (fPAIR_CFG_en, 1)], by decide +kernel⟩

theorem test_PairCommands_12 : ∃ (s : State), s.on fPAIR_STAT_link_up = true ∧ s.pairLink = 3 ∧ s.role = 0 ∧ s.on fPAIR_CFG_tko_en = true ∧ s.tmr = [] :=
  ⟨(setup [(fPAIR_STATE_link, 3), (fPAIR_STAT_link_up, 1), (fPAIR_CFG_en, 1), (fPAIR_CFG_tko_en, 1)]), by decide +kernel⟩

theorem test_PairCommands_13 : ∃ (p : Fin 32) (x : Tko) (s : State), s.pair.tko = some x ∧ s.on fPAIR_STATE_tko = true ∧ s.pairedPorts = [p.val] ∧ s.tokHere p.val = false ∧ ((x.quit = true ∨ x.denied / 2 ^ p.val % 2 = 1)) ∧ s.on (fNDL_TOK_STAT_busy p.val) = false ∧ ((s.portState p.val = pCaps ∨ s.portState p.val = pTset ∨ s.portState p.val = pUp)) :=
  ⟨3, { start := 0, quit := true, lastClaim := 5 }, (setup [(fPAIR_STATE_tko, 1), (fPAIR_CFG_en, 1), (fPAIR_PORTS_ports, 8), (fNDL_STAT_state 3, 4)]).setPair { tko := some { start := 0, quit := true, lastClaim := 5 } }, by decide +kernel⟩

theorem test_PairCommands_14 : ∃ (x : Tko) (s : State), s.pair.tko = some x ∧ s.on fPAIR_STATE_tko = true ∧ (∀ m : Fin 32, s.members m.val = []) ∧ s.tmr = [] :=
  ⟨{ start := 0, quit := true, granted := 8 }, (setup [(fPAIR_STATE_tko, 1), (fPAIR_STATE_link, 3), (fPAIR_CFG_en, 1), (fPAIR_PORTS_ports, 8)]).setPair { tko := some { start := 0, quit := true, granted := 8 } }, by decide +kernel⟩

theorem test_PairCommands_15 : ∃ (s : State), s.pairLink = 4 :=
  ⟨setup [(fPAIR_STATE_link, 4), (fPAIR_CFG_en, 1)], by decide +kernel⟩

theorem test_PairCommands_16 : ∃ (s : State), s.pairLink = 2 ∧ s.tmr = [] :=
  ⟨setup [(fPAIR_STATE_link, 2), (fPAIR_CFG_en, 1)], by decide +kernel⟩

theorem test_PairRecords_1 : ∃ (h : RecHdr) (groups : List Nat) (s : State), s.on fPAIR_STAT_link_up = true ∧ s.pair.seqRx = none ∧ h.prime = true ∧ groups.length = 32 :=
  ⟨⟨7, true⟩, List.replicate 32 2, setup [(fPAIR_STAT_link_up, 1)], by decide +kernel⟩

theorem test_PairRecords_2 : ∃ (groups : List Nat) (s : State), s.on fPAIR_STAT_link_up = false ∧ groups.length = 32 :=
  ⟨List.replicate 32 2, setup [], by decide +kernel⟩

theorem test_PairRecords_3 : ∃ (s : State), s.on fPAIR_STAT_link_up = true ∧ s.pair.seqRx = none ∧ s.role = 1 ∧ s.pairLink = 3 :=
  ⟨setup [(fPAIR_STAT_link_up, 1), (fPAIR_STATE_link, 3), (fPAIR_CFG_en, 1), (fPAIR_PORTS_ports, 8), (fNDL_STAT_state 3, 4), (fNDL_STAT_tok 3, 1)], by decide +kernel⟩

theorem test_PairRecords_4 : ∃ (t1 : Nat) (s : State), s.on fPAIR_STAT_link_up = true ∧ s.pair.seqRx = none ∧ s.role = 0 ∧ s.pairLink = 2 ∧ s.pair.timeDone = false ∧ s.pair.probe = some t1 :=
  ⟨100, (setup [(fPAIR_STAT_link_up, 1), (fPAIR_STATE_link, 2), (fPAIR_CFG_en, 1)]).setPair { join := .time, probe := some 100 }, by decide +kernel⟩

theorem test_PairRecords_5 : ∃ (a2 : Nat) (turn : Fin 65536) (t4 : Nat) (t1 : Nat) (s : State), s.on fPAIR_STAT_link_up = true ∧ s.pair.seqRx = none ∧ s.role = 0 ∧ s.pairLink = 3 ∧ s.pair.probe = some t1 ∧ 3 ≤ s.pair.good ∧ s.get fPAIR_ASYM_asym = 0 ∧ t1 + turn.val ≤ t4 ∧ t4 < 65536 ∧ t1 + (t4 - t1 - turn.val) / 2 = a2 :=
  ⟨200, 40, 340, 100, (setup [(fPAIR_STAT_link_up, 1), (fPAIR_STATE_link, 3), (fPAIR_CFG_en, 1)]).setPair { probe := some 100, good := 3 }, by decide +kernel⟩

theorem test_PairRecords_6 : ∃ (k : Fin 128) (img : List Word) (outs : List Word) (s : State), s.on fPAIR_STAT_link_up = true ∧ s.pair.seqRx = none ∧ s.role = 0 ∧ s.pairLink = 3 ∧ s.mirCtx k.val = true ∧ Tab.find s.pair.tent k.val = none ∧ img.length = 32 ∧ outs.length = 8 :=
  ⟨5, List.replicate 32 1, List.replicate 8 2, setup [(fPAIR_STAT_link_up, 1), (fPAIR_STATE_link, 3), (fPAIR_CFG_en, 1), (fPAIR_CTX_EN_en 0, 32)], by decide +kernel⟩

theorem test_PairRecords_7 : ∃ (k : Fin 128) (x : Tent) (s : State), s.on fPAIR_STAT_link_up = true ∧ s.pair.seqRx = none ∧ s.role = 0 ∧ s.pairLink = 3 ∧ Tab.find s.pair.tent k.val = some x ∧ x.img.length = 32 ∧ x.outs.length = 8 ∧ s.isRun 5 = true :=
  ⟨5, { step := 9, img := List.replicate 32 1, outs := List.replicate 8 2 }, (setup [(fPAIR_STAT_link_up, 1), (fPAIR_STATE_link, 3), (fPAIR_CFG_en, 1)]).setPair { tent := [(5, { step := 9, img := List.replicate 32 1, outs := List.replicate 8 2 })] }, by decide +kernel⟩

theorem test_PairRecords_8 : ∃ (k : Fin 128) (x : Tent) (s : State), s.on fPAIR_STAT_link_up = true ∧ s.pair.seqRx = none ∧ s.role = 0 ∧ s.pairLink = 3 ∧ Tab.find s.pair.tent k.val = some x :=
  ⟨5, { step := 9, img := [], outs := [] }, (setup [(fPAIR_STAT_link_up, 1), (fPAIR_STATE_link, 3), (fPAIR_CFG_en, 1)]).setPair { tent := [(5, { step := 9, img := [], outs := [] })] }, by decide +kernel⟩

theorem test_PairRecords_9 : ∃ (g : Fin 32) (part : Nat) (parts : Nat) (legs : List LegSet) (s : State), s.on fPAIR_STAT_link_up = true ∧ s.pair.seqRx = none ∧ s.role = 0 ∧ s.pairLink = 3 ∧ s.bitAt aPAIR_TBG_EN g.val = true ∧ Tab.find s.pair.sets g.val = none ∧ part < parts ∧ 2 ≤ parts ∧ parts ≤ 16 ∧ legs.length ≤ 29 :=
  ⟨4, 0, 2, [⟨3, 5, 6, 0, 0⟩], setup [(fPAIR_STAT_link_up, 1), (fPAIR_STATE_link, 3), (fPAIR_CFG_en, 1), (fPAIR_TBG_EN_en, 16)], by decide +kernel⟩

theorem test_PairRecords_10 : ∃ (g : Fin 32) (per : Word) (e : LegSet) (s : State), s.on fPAIR_STAT_link_up = true ∧ s.pair.seqRx = none ∧ s.role = 0 ∧ s.pairLink = 3 ∧ s.bitAt aPAIR_TBG_EN g.val = true ∧ Tab.find s.pair.sets g.val = none ∧ per.fld 0 24 = s.get (fTBG_PERIOD_t g.val) ∧ s.legMode e.leg.val ≠ 4 :=
  ⟨4, 20000, ⟨3, 5, 6, 0, 0⟩, setup [(fPAIR_STAT_link_up, 1), (fPAIR_STATE_link, 3), (fPAIR_CFG_en, 1), (fPAIR_TBG_EN_en, 16), (fTBG_PERIOD_t 4, 20000)], by decide +kernel⟩

theorem test_PairRecords_11 : ∃ (s : State), s.on fPAIR_STAT_link_up = true ∧ s.pair.seqRx = none ∧ s.role = 1 ∧ s.pairLink = 1 ∧ s.joinOk = true ∧ s.checkVals.2 = true :=
  ⟨setup [(fPAIR_STAT_link_up, 1), (fPAIR_STATE_link, 1), (fPAIR_CFG_en, 1), (fPAIR_PORTS_ports, 8), (fNDL_STAT_state 3, 4), (fNDL_STAT_tok 3, 1), (fPAIR_TIMING_t_pl, 10), (fNDL_TIMING_t_loss 3, 20), (fNDL_TIMING_t_hold 3, 100), (hStat 0x40050000 3, 1), (hStat 0x40020000 3, 1), (hStat 0x40040000 3, 1), (hStat 0x40060000 3, 1), (hStat 0x400F0000 3, 1)], by decide +kernel⟩

theorem test_PairRecords_12 : ∃ (v : List Word) (s : State), s.on fPAIR_STAT_link_up = true ∧ s.pair.seqRx = none ∧ s.role = 1 ∧ s.pairLink = 1 ∧ v ≠ s.checkVals.1 ∧ s.tmr = [] :=
  ⟨[], setup [(fPAIR_STAT_link_up, 1), (fPAIR_STATE_link, 1), (fPAIR_CFG_en, 1), (fPAIR_PORTS_ports, 8), (fNDL_STAT_state 3, 4), (fNDL_STAT_tok 3, 1)], by decide +kernel⟩

theorem test_PairRecords_13 : ∃ (s : State), s.on fPAIR_STAT_link_up = true ∧ s.pair.seqRx = none ∧ s.role = 0 ∧ s.pairLink = 2 ∧ s.pair.join = .check :=
  ⟨(setup [(fPAIR_STAT_link_up, 1), (fPAIR_STATE_link, 2), (fPAIR_CFG_en, 1)]).setPair { join := .check }, by decide +kernel⟩

theorem test_PairRecords_14 : ∃ (s : State), s.on fPAIR_STAT_link_up = true ∧ s.pair.seqRx = none ∧ s.pairLink = 2 ∧ s.tmr = [] :=
  ⟨(setup [(fPAIR_STAT_link_up, 1), (fPAIR_STATE_link, 2), (fPAIR_CFG_en, 1)]).setPair { join := .check }, by decide +kernel⟩

theorem test_PairRecords_15 : ∃ (s : State), s.on fPAIR_STAT_link_up = true ∧ s.pair.seqRx = none ∧ s.pairLink = 2 ∧ s.pair.join ≠ .check :=
  ⟨(setup [(fPAIR_STAT_link_up, 1), (fPAIR_STATE_link, 2), (fPAIR_CFG_en, 1)]).setPair { join := .copy }, by decide +kernel⟩

theorem test_PairRecords_16 : ∃ (s : State), s.on fPAIR_STAT_link_up = true ∧ s.pair.seqRx = none ∧ s.role = 0 ∧ s.pairLink = 3 ∧ s.on fPAIR_CFG_tko_en = false :=
  ⟨setup [(fPAIR_STAT_link_up, 1), (fPAIR_STATE_link, 3), (fPAIR_CFG_en, 1)], by decide +kernel⟩

theorem test_PairRecords_17 : ∃ (k : Fin 128) (img : List Word) (outs : List Word) (s : State), s.on fPAIR_STAT_link_up = true ∧ s.pair.seqRx = none ∧ s.role = 0 ∧ s.pairLink = 2 ∧ s.pair.join = .copy ∧ s.mirCtx k.val = true ∧ s.pair.copied.contains k.val = false ∧ img.length = 32 ∧ outs.length = 8 ∧ s.isRun 5 = true :=
  ⟨5, List.replicate 32 1, List.replicate 8 2, (setup [(fPAIR_STAT_link_up, 1), (fPAIR_STATE_link, 2), (fPAIR_CFG_en, 1), (fPAIR_CTX_EN_en 0, 32)]).setPair { join := .copy }, by decide +kernel⟩

theorem test_SafetyPins_1 : ∃ (s : State), s.isRun 4 = true ∧ (∀ k : Fin 8, s.evType k.val = 0) :=
  ⟨(setup [(fMSIO_SI_CFG_en 5, 1)]).putSi 5 { holdEnd := 7 }, by decide +kernel⟩

theorem test_SafetyPins_2 : ∃ (i : Fin 24) (lvl : Bool) (k : Fin 8) (s : State), s.isRun 4 = true ∧ (∀ j : Fin 8, j ≠ k → s.evType j.val = 0) ∧ s.evType k.val = 1 ∧ s.evState k.val = 3 ∧ (s.use (aMSIO_EV_SRC k.val)).fld 0 8 = i.val ∧ lvl = s.on (fMSIO_SI_CFG_pol i.val) ∧ s.tmr = [] :=
  ⟨5, false, 2, ((((setup [(fMSIO_SI_CFG_en 5, 1), (fMSIO_SI_FILT_filt, 96), (fMSIO_EV_CFG_type 2, 1), (fMSIO_EV_SRC_src_a 2, 5), (fMSIO_EV_SRC_src_b 2, 6), (fMSIO_EV_STAT_state 2, 3), (fMSIO_EV_CFG_rst_src 2, 0xFE)])).putSi 5 { lvl := true })), by decide +kernel⟩

theorem test_SafetyPins_3 : ∃ (j : Fin 16) (s : State), (s.so j.val).on = true ∧ s.soWanted j.val = true ∧ ((s.on (fMSIO_SO_CFG_tp_en (s.soCfg j.val)) = true ∨ s.on (fMSIO_SO_CFG_mode (s.soCfg j.val)) = true)) :=
  ⟨4, (setup [(fMSIO_SO_CFG_en 4, 1), (fMSIO_SO_CFG_mode 4, 1)]).putSo 4 { on := true, nextPulse := 9 }, by decide +kernel⟩

theorem test_SafetyPins_4 : ∃ (j : Fin 16) (s : State), (s.so j.val).on = false :=
  ⟨4, setup [], by decide +kernel⟩

theorem test_SafetyPins_5 : ∃ (i : Fin 24) (j : Fin 16) (t : Nat) (s : State), s.isRun 4 = true ∧ s.siFed i.val j.val = true ∧ (s.so j.val).pulseAt = some t :=
  ⟨5, 4, 77, (setup [(fMSIO_SI_CFG_en 5, 1), (fMSIO_SI_CFG_src 5, 4)]).putSo 4 { pulseAt := some 77 }, by decide +kernel⟩

theorem test_SafetyPins_6 : ∃ (i : Fin 24) (j : Fin 16) (t : Nat) (s : State), s.isRun 4 = true ∧ s.siFed i.val j.val = true ∧ (s.so j.val).pulseAt = some t ∧ (∀ k : Fin 8, s.evType k.val = 0) :=
  ⟨5, 4, 77, (setup [(fMSIO_SI_CFG_en 5, 1), (fMSIO_SI_CFG_src 5, 4)]).putSo 4 { pulseAt := some 77 }, by decide +kernel⟩

theorem test_SafetyPins_7 : ∃ (r : Req) (i : Fin 24) (s : State), s.grants r aMSIO_SI_FAULT true = true ∧ s.bitAt aMSIO_SI_FAULT i.val = true ∧ (s.si i.val).passed = true ∧ (∀ k : Fin 8, s.evType k.val = 0) :=
  ⟨.sage, 5, (setup [(bitFld aMSIO_SI_FAULT 5, 1), (fMSIO_SI_CFG_en 5, 1)]).putSi 5 { passed := true, lvl := true }, by decide +kernel⟩

theorem test_SafetyPins_8 : ∃ (r : Req) (i : Fin 24) (s : State), s.grants r aMSIO_SI_FAULT true = true ∧ s.bitAt aMSIO_SI_FAULT i.val = true ∧ (s.si i.val).passed = false ∧ (∀ k : Fin 8, s.evType k.val = 0) ∧ s.tmr = [] :=
  ⟨.sage, 5, (setup [(bitFld aMSIO_SI_FAULT 5, 1), (fMSIO_SI_CFG_en 5, 1)]), by decide +kernel⟩

theorem test_SafetyPins_9 : ∃ (j : Fin 16) (on : Bool) (s : State), s.isRun 4 = true ∧ (∀ k : Fin 8, s.evType k.val = 0) ∧ s.faultShows j.val on = true :=
  ⟨4, true, setup [], by decide +kernel⟩

theorem test_SafetyPins_10 : ∃ (r : Req) (j : Fin 16) (mask : Word) (s : State), s.grants r aMSIO_SO_STAT true = true ∧ mask.fld 16 16 = 2 ^ j.val ∧ s.soFault j.val = true ∧ (s.rd aMSIO_SO_FCAUSE).fld (2 * j.val) 1 = 0 :=
  ⟨.sage, 4, 0x00100000, setup [(bitFld aMSIO_SO_STAT 20, 1), (⟨aMSIO_SO_FCAUSE, 9, 1⟩, 1)], by decide +kernel⟩

theorem test_SafetyLogic_1 : ∃ (k : Fin 8) (t : Nat) (s : State), s.isRun 4 = true ∧ s.evType k.val ≠ 0 ∧ s.evState k.val = 3 ∧ (s.ev k.val).disc = some t :=
  ⟨2, 100, (setup [(fMSIO_EV_CFG_type 2, 1), (fMSIO_EV_STAT_state 2, 3)]).putEv 2 { discAt := some 100 }, by decide +kernel⟩

theorem test_SafetyLogic_2 : ∃ (k : Fin 8) (t : Nat) (s : State), s.isRun 4 = true ∧ s.evType k.val = 3 ∧ s.evState k.val = 1 ∧ (s.ev k.val).bothRel = true ∧ (s.ev k.val).first = some t :=
  ⟨2, 100, (setup [(fMSIO_EV_CFG_type 2, 3), (fMSIO_EV_STAT_state 2, 1)]).putEv 2 { first := some 100, bothRel := true }, by decide +kernel⟩

theorem test_SafetyLogic_3 : ∃ (r : Req) (k : Fin 8) (mask : Fin 256) (s : State), s.grants r aMSIO_EV_CMD true = true ∧ mask.val = 2 ^ k.val ∧ (∀ j : Fin 8, j ≠ k → s.evType j.val = 0) ∧ s.evType k.val = 1 ∧ s.evState k.val = 2 ∧ s.evChans k.val = [true, true] ∧ s.get (fMSIO_EV_CFG_rst_src k.val) = 0xFE ∧ (s.ev k.val).rst = false :=
  ⟨.sage, 2, 4, setup [(fMSIO_EV_CFG_type 2, 1), (fMSIO_EV_STAT_state 2, 2), (fMSIO_EV_CFG_rst_src 2, 0xFE), (fMSIO_EV_SRC_src_a 2, 5), (fMSIO_EV_SRC_src_b 2, 6), (fMSIO_SI_FILT_filt, 96)], by decide +kernel⟩

theorem test_SafetyLogic_4 : ∃ (r : Req) (k : Fin 8) (mask : Fin 256) (s : State), s.grants r aMSIO_EV_CMD true = true ∧ mask.val = 2 ^ k.val ∧ (∀ j : Fin 8, j ≠ k → s.evType j.val = 0) ∧ s.evType k.val = 1 ∧ s.evState k.val = 4 ∧ s.evChans k.val = [false, false] ∧ s.evClean k.val = true ∧ s.get (fMSIO_EV_CFG_rst_src k.val) = 0xFE ∧ (s.ev k.val).rst = false :=
  ⟨.sage, 2, 4, setup [(fMSIO_EV_CFG_type 2, 1), (fMSIO_EV_STAT_state 2, 4), (fMSIO_EV_CFG_rst_src 2, 0xFE), (fMSIO_EV_SRC_src_a 2, 5), (fMSIO_EV_SRC_src_b 2, 6)], by decide +kernel⟩

theorem test_SafetyLogic_5 : ∃ (r : Req) (k : Fin 8) (mask : Fin 256) (s : State), s.grants r aMSIO_EV_CMD true = true ∧ mask.val = 2 ^ k.val ∧ (∀ j : Fin 8, j ≠ k → s.evType j.val = 0) ∧ s.evType k.val = 1 ∧ s.evState k.val = 1 ∧ s.evChans k.val = [false, false] ∧ s.get (fMSIO_EV_CFG_rst_src k.val) = 0xFE ∧ (s.ev k.val).rst = false ∧ s.tmr = [] :=
  ⟨.sage, 2, 4, setup [(fMSIO_EV_CFG_type 2, 1), (fMSIO_EV_STAT_state 2, 1), (fMSIO_EV_CFG_rst_src 2, 0xFE), (fMSIO_EV_SRC_src_a 2, 5), (fMSIO_EV_SRC_src_b 2, 6)], by decide +kernel⟩

theorem test_SafetyLogic_6 : ∃ (c : Fin 16) (netB : Bool) (bs : List Byte) (s : State), s.isRun 4 = true ∧ (s.sm c.val).rx = [] ∧ s.on (fMSIO_SM_CFG_en c.val) = true ∧ s.on (fMSIO_SM_CFG_dir c.val) = false ∧ s.smState c.val = 1 ∧ bs.length = s.smLen c.val ∧ s.smCrc c.val netB (bs.take (s.smLen c.val - 2)) = (bs.getD (s.smLen c.val - 2) 0).toNat * 256 + (bs.getD (s.smLen c.val - 1) 0).toNat ∧ (s.sm c.val).hasAcc = false ∧ (s.sm c.val).win = none :=
  ⟨3, false, [0, 0, 0, 0, 0, 0, 0, 0], setup [(fMSIO_SM_CFG_en 3, 1), (fMSIO_SM_STAT_state 3, 1), (fMSIO_SM_CFG_seed 3, 0)], by decide +kernel⟩

theorem test_SafetyLogic_7 : ∃ (c : Fin 16) (netB : Bool) (bs : List Byte) (w : SmWin) (s : State), s.isRun 4 = true ∧ (s.sm c.val).rx = [] ∧ s.on (fMSIO_SM_CFG_en c.val) = true ∧ s.on (fMSIO_SM_CFG_dir c.val) = false ∧ s.smState c.val = 1 ∧ bs.length = s.smLen c.val ∧ s.smCrc c.val netB (bs.take (s.smLen c.val - 2)) = (bs.getD (s.smLen c.val - 2) 0).toNat * 256 + (bs.getD (s.smLen c.val - 1) 0).toNat ∧ (s.sm c.val).hasAcc = false ∧ (s.sm c.val).win = some w ∧ w.netB = !netB ∧ w.seq = (bs.getD (s.smLen c.val - 3) 0).toNat ∧ w.data = bs.take (s.smLen c.val - 3) ∧ s.now ≤ w.at_ ∧ (∀ k : Fin 8, s.evType k.val = 0) :=
  ⟨3, true, [0, 0, 0, 0, 0, 0, 0, 0], { at_ := 0, seq := 0, data := [0, 0, 0, 0, 0], netB := false }, (setup [(fMSIO_SM_CFG_en 3, 1), (fMSIO_SM_STAT_state 3, 1), (fMSIO_SM_CFG_seed 3, 0xFFFF)]).putSm 3 { win := some { at_ := 0, seq := 0, data := [0, 0, 0, 0, 0], netB := false } }, by decide +kernel⟩

theorem test_SafetyLogic_8 : ∃ (c : Fin 16) (netB : Bool) (bs : List Byte) (s : State), s.isRun 4 = true ∧ (s.sm c.val).rx = [] ∧ s.on (fMSIO_SM_CFG_en c.val) = true ∧ s.on (fMSIO_SM_CFG_dir c.val) = false ∧ ((s.smState c.val = 1 ∨ s.smState c.val = 2)) ∧ bs.length = s.smLen c.val ∧ s.smCrc c.val netB (bs.take (s.smLen c.val - 2)) ≠ (bs.getD (s.smLen c.val - 2) 0).toNat * 256 + (bs.getD (s.smLen c.val - 1) 0).toNat :=
  ⟨3, false, [0, 0, 0, 0, 0, 0, 0, 1], setup [(fMSIO_SM_CFG_en 3, 1), (fMSIO_SM_STAT_state 3, 1)], by decide +kernel⟩

theorem test_SafetyLogic_9 : ∃ (c : Fin 16) (w : SmWin) (s : State), s.isRun 4 = true ∧ (s.sm c.val).win = some w ∧ s.tmr = [] ∧ s.get (fMSIO_SM_STAT_miss_run c.val) < s.get (fMSIO_SM_CFG_n_miss c.val) :=
  ⟨3, { at_ := 5, seq := 0, data := [0, 0, 0, 0, 0], netB := false }, (setup [(fMSIO_SM_STAT_state 3, 1), (fMSIO_SM_CFG_n_miss 3, 3)]).putSm 3 { win := some { at_ := 5, seq := 0, data := [0, 0, 0, 0, 0], netB := false } }, by decide +kernel⟩

theorem test_SafetyLogic_10 : ∃ (c : Fin 16) (s : State), s.isRun 4 = true ∧ s.smState c.val = 2 ∧ s.on (fMSIO_SM_CFG_dir c.val) = false ∧ s.tmr = [] ∧ (∀ k : Fin 8, s.evType k.val = 0) :=
  ⟨3, (setup [(fMSIO_SM_STAT_state 3, 2)]).putSm 3 { lastAcc := 9 }, by decide +kernel⟩

theorem test_SafetyLogic_11 : ∃ (c : Fin 16) (p : Nat) (s : State), s.isRun 4 = true ∧ s.sage.lost = false ∧ s.on (fMSIO_SM_CFG_en c.val) = true ∧ s.on (fMSIO_SM_CFG_dir c.val) = true ∧ ((s.smState c.val = 1 ∨ s.smState c.val = 2)) ∧ (s.sm c.val).txLast = none ∧ s.on (fMSIO_SM_CFG_auto c.val) = false ∧ s.get (fMSIO_SM_CFG_pair c.val) = p ∧ s.mbPend (2 * p) (48 + c.val) = false ∧ s.on (fCAN_MB_CFG_en (2 * p) (48 + c.val)) = true ∧ s.on (fCAN_MB_CFG_dir (2 * p) (48 + c.val)) = true ∧ (s.can (2 * p)).cur = none ∧ s.mbPend (2 * p + 1) (48 + c.val) = false ∧ s.on (fCAN_MB_CFG_en (2 * p + 1) (48 + c.val)) = true ∧ s.on (fCAN_MB_CFG_dir (2 * p + 1) (48 + c.val)) = true ∧ (s.can (2 * p + 1)).cur = none :=
  ⟨3, 0, setup [(fMSIO_SM_CFG_en 3, 1), (fMSIO_SM_CFG_dir 3, 1), (fMSIO_SM_STAT_state 3, 2), (fCAN_MB_CFG_en 0 51, 1), (fCAN_MB_CFG_dir 0 51, 1), (fCAN_MB_CFG_en 1 51, 1), (fCAN_MB_CFG_dir 1 51, 1), (⟨aMSIO_SM_BUF 3 0, 0, 32⟩, 0x12345678)], by decide +kernel⟩

theorem test_SafetyLogic_12 : ∃ (r : Req) (c : Fin 16) (s : State), s.grants r (aMSIO_SM_CMD c.val) true = true ∧ s.smState c.val = 3 :=
  ⟨.sage, 3, setup [(fMSIO_SM_STAT_state 3, 3), (fMSIO_SM_STAT_miss_run 3, 2)], by decide +kernel⟩

theorem test_SafetyLogic_13 : ∃ (r : Req) (c : Fin 16) (s : State), s.grants r (aMSIO_SM_CMD c.val) true = true ∧ s.smState c.val ≠ 3 :=
  ⟨.sage, 3, setup [(fMSIO_SM_STAT_state 3, 1)], by decide +kernel⟩

theorem test_Acquisition_1 : ∃ (n : Fin 4) (j : Fin 20) (s : State), s.isRun 9 = true ∧ s.interleaved n.val = false ∧ (j.val % 2 = 1 → s.ainDiff n.val (j.val - 1) = false) ∧ (∀ i : Fin 8, (s.run n.val i.val).heldAt = none) ∧ (s.adc n.val).normQ.length < 16 ∧ (s.warden 8).st = .run ∧ s.onLink 8 9 < linkDepth 8 9 0 :=
  ⟨1, 5, setup [], by decide +kernel⟩

theorem test_Acquisition_2 : ∃ (n : Fin 4) (j : Fin 20) (s : State), s.isRun 9 = true ∧ s.interleaved n.val = false ∧ (j.val % 2 = 1 → s.ainDiff n.val (j.val - 1) = false) ∧ (∀ i : Fin 8, (s.run n.val i.val).heldAt = none) ∧ 16 ≤ (s.adc n.val).normQ.length ∧ s.get (fADC_AIN_CFG_avg_k n.val j.val) = 0 ∧ s.on (fADC_AIN_CFG_eng n.val j.val) = false ∧ (s.warden 8).st = .run ∧ s.onLink 8 9 < linkDepth 8 9 0 :=
  ⟨1, 5, (setup []).putAdc 1 { normQ := List.replicate 16 { j := 0 } }, by decide +kernel⟩

theorem test_Acquisition_3 : ∃ (s : State), s.isRun 9 = false ∧ (s.warden 8).st = .run ∧ s.onLink 8 9 < linkDepth 8 9 0 :=
  ⟨(setup []).setWardens [(8, { st := .run }), (9, { st := .absent })], by decide +kernel⟩

theorem test_Acquisition_4 : ∃ (s : State), linkDepth 8 9 0 ≤ s.onLink 8 9 :=
  ⟨(setup []).putAdc 1 { normQ := List.replicate 16 { j := 0, src := 1 } }, by decide +kernel⟩

theorem test_Acquisition_5 : ∃ (n : Fin 4) (q : Fin 8) (e : Nat) (t : Nat) (s : State), s.isRun 9 = true ∧ s.interleaved n.val = false ∧ s.on (fADC_SEQ_CFG_en n.val q.val) = true ∧ s.get (fADC_SEQ_CFG_trg n.val q.val) = 1 ∧ s.on (fADC_SEQ_CFG_urg n.val q.val) = false ∧ s.seqEntries n.val q.val = [e] ∧ e < 20 ∧ s.ainDiff n.val (e - 1) = false ∧ (∀ i : Fin 8, (s.run n.val i.val).heldAt = none) ∧ (s.run n.val q.val).left = [] ∧ (s.run n.val q.val).nextTim = t ∧ (s.run n.val q.val).startAt.any (fun a => a / adcClk == max s.now t / adcClk) = false ∧ (s.adc n.val).normQ.length < 16 :=
  ⟨1, 2, 7, 100, (setup [(fADC_SEQ_CFG_en 1 2, 1), (fADC_SEQ_CFG_trg 1 2, 1), (fADC_SEQ_CFG_n 1 2, 1), (fADC_SEQ_ENT0_ent0 1 2, 7)]).putAdc 1 { runs := [(2, { nextTim := 100 })] }, by decide +kernel⟩

theorem test_Acquisition_6 : ∃ (r : Req) (n : Fin 4) (q : Fin 8) (mask : Fin 256) (e : Nat) (s : State), s.grants r (aADC_SWTRIG n.val) true = true ∧ mask.val = 2 ^ q.val ∧ s.isRun 9 = true ∧ s.interleaved n.val = false ∧ s.on (fADC_SEQ_CFG_en n.val q.val) = true ∧ s.on (fADC_SEQ_CFG_urg n.val q.val) = false ∧ s.seqEntries n.val q.val = [e] ∧ e < 20 ∧ s.ainDiff n.val (e - 1) = false ∧ (∀ i : Fin 8, (s.run n.val i.val).heldAt = none) ∧ (s.run n.val q.val).left = [] ∧ (s.adc n.val).normQ.length < 16 ∧ (s.run n.val q.val).startAt.any (fun a => a / adcClk == s.now / adcClk) = false :=
  ⟨.apc0, 1, 2, 4, 7, setup [(fADC_SEQ_CFG_en 1 2, 1), (fADC_SEQ_CFG_n 1 2, 1), (fADC_SEQ_ENT0_ent0 1 2, 7)], by decide +kernel⟩

theorem test_Acquisition_7 : ∃ (r : Req) (n : Fin 4) (q : Fin 8) (mask : Fin 256) (s : State), s.grants r (aADC_SWTRIG n.val) true = true ∧ mask.val = 2 ^ q.val ∧ s.isRun 9 = true ∧ s.on (fADC_SEQ_CFG_en n.val q.val) = true ∧ (∀ i : Fin 8, (s.run n.val i.val).heldAt = none) ∧ (s.run n.val q.val).left ≠ [] ∧ s.tmr = [] :=
  ⟨.apc0, 1, 2, 4, (setup [(fADC_SEQ_CFG_en 1 2, 1)]).putAdc 1 { runs := [(2, { left := [3] })] }, by decide +kernel⟩

theorem test_Acquisition_8 : ∃ (n : Fin 4) (q : Fin 8) (e : Nat) (s : State), s.isRun 9 = true ∧ s.interleaved n.val = false ∧ s.on (fADC_SEQ_CFG_en n.val q.val) = true ∧ 0x80 ≤ s.get (fADC_SEQ_CFG_trg n.val q.val) ∧ s.get (fADC_SEQ_CFG_trg n.val q.val) < 0xA0 ∧ (s.run n.val q.val).spI + 1 < 2 ^ min 8 (s.get (fADC_SEQ_CFG_k_sp n.val q.val)) ∧ s.on (fADC_SEQ_CFG_urg n.val q.val) = false ∧ s.seqEntries n.val q.val = [e] ∧ e < 20 ∧ s.ainDiff n.val (e - 1) = false ∧ (∀ i : Fin 8, (s.run n.val i.val).heldAt = none) ∧ (s.run n.val q.val).left = [] ∧ (s.adc n.val).normQ.length < 16 ∧ (s.run n.val q.val).startAt.any (fun a => a / adcClk == max s.now (s.spreadTime n.val q.val ((s.run n.val q.val).spI + 1)) / adcClk) = false :=
  ⟨1, 2, 7, (setup [(fADC_SEQ_CFG_en 1 2, 1), (fADC_SEQ_CFG_trg 1 2, 0x83), (fADC_SEQ_CFG_k_sp 1 2, 2), (fADC_SEQ_CFG_n 1 2, 1), (fADC_SEQ_ENT0_ent0 1 2, 7), (fTBG_PERIOD_t 3, 8000)]), by decide +kernel⟩

theorem test_Acquisition_9 : ∃ (n : Fin 4) (q : AdcReq) (s : State), s.isRun 9 = true ∧ (∀ i : Fin 8, (s.run n.val i.val).heldAt = none) ∧ (s.adc n.val).urgQ = [] ∧ (s.adc n.val).normQ = [q] ∧ (s.adc n.val).slices = [] ∧ q.src = 1 ∧ q.urg = false ∧ q.pre = false :=
  ⟨1, { j := 5, src := 1 }, (setup []).putAdc 1 { normQ := [{ j := 5, src := 1 }] }, by decide +kernel⟩

theorem test_Acquisition_10 : ∃ (n : Fin 4) (s : State), (∀ i : Fin 8, (s.run n.val i.val).heldAt = none) ∧ (s.adc n.val).urgQ = [] ∧ (s.adc n.val).normQ = [] ∧ (s.adc n.val).slices = [] :=
  ⟨1, setup [], by decide +kernel⟩

theorem test_Acquisition_11 : ∃ (n : Fin 4) (sl : Fin 4) (c : AdcConv) (s : State), s.isRun 9 = true ∧ (∀ i : Fin 8, (s.run n.val i.val).heldAt = none) ∧ s.slice n.val sl.val = [c] ∧ c.req.src = 1 ∧ c.req.j < 20 ∧ c.req.avgOnly = false ∧ c.req.pre = false ∧ s.on (fADC_AIN_CFG_eng n.val c.req.j) = false ∧ s.get (fADC_AIN_CFG_avg_k n.val c.req.j) = 0 ∧ (∀ w : Fin 16, s.on (fADC_WC_CFG_en n.val w.val) = false) ∧ s.takesReply 8 c.req.ep = true :=
  ⟨1, 2, { req := { j := 5, src := 1 }, hold := 400 }, (setup [(fADC_QSTAT_inflight 1, 1)]).putAdc 1 { slices := [(2, [{ req := { j := 5, src := 1 }, hold := 400 }])] }, by decide +kernel⟩

theorem test_Acquisition_12 : ∃ (n : Fin 4) (q : AdcReq) (s : State), s.isRun 9 = true ∧ (∀ i : Fin 8, (s.run n.val i.val).heldAt = none) ∧ (s.adc n.val).urgQ = [q] ∧ (s.adc n.val).normQ = [] ∧ q.urg = true ∧ q.src = 1 ∧ q.j < 20 ∧ q.avgOnly = false ∧ s.on (fADC_AIN_CFG_eng n.val q.j) = false ∧ s.get (fADC_AIN_CFG_avg_k n.val q.j) = 0 ∧ s.takesReply 8 q.ep = true :=
  ⟨1, { j := 5, src := 1, urg := true }, (setup [(fADC_QSTAT_inflight 1, 1)]).putAdc 1 { urgQ := [{ j := 5, src := 1, urg := true }] }, by decide +kernel⟩

theorem test_Acquisition_13 : ∃ (n : Fin 4) (s : State), (s.adc n.val).urgQ = [] ∧ (s.adc n.val).normQ = [] :=
  ⟨1, setup [], by decide +kernel⟩

theorem test_Acquisition_14 : ∃ (n : Fin 4) (s : State), s.isRun 9 = true ∧ s.interleaved n.val = true ∧ s.get (fADC_CFG_s_in n.val) < 20 ∧ s.now < (s.adc n.val).ilAt + 10 * ms ∧ s.on (fADC_AIN_CFG_eng n.val (s.get (fADC_CFG_s_in n.val))) = false ∧ (∀ w : Fin 16, s.on (fADC_WC_CFG_en n.val w.val) = false) :=
  ⟨1, setup [(fADC_CFG_il 1, 1), (fADC_CFG_s_in 1, 6)], by decide +kernel⟩

theorem test_Acquisition_15 : ∃ (n : Fin 4) (s : State), s.interleaved n.val = false :=
  ⟨1, setup [], by decide +kernel⟩

theorem test_Acquisition_16 : ∃ (n : Fin 4) (x : AdcRec) (s : State), s.isRun 9 = true ∧ (s.adc n.val).recs = [x] ∧ s.basil.rx = [] :=
  ⟨1, ⟨5, false, 77, false, some 9⟩, (setup []).putAdc 1 { recs := [⟨5, false, 77, false, some 9⟩] }, by decide +kernel⟩

theorem test_Acquisition_17 : ∃ (n : Fin 4) (ch : Fin 2) (s : State), s.isRun 9 = true ∧ s.on (fADC_RES_CFG_en n.val ch.val) = true ∧ s.interleaved n.val = false ∧ s.get (fADC_RES_CFG_j_s n.val ch.val) < 20 ∧ s.get (fADC_RES_CFG_j_c n.val ch.val) < 20 ∧ s.ainDiff n.val (s.get (fADC_RES_CFG_j_s n.val ch.val) - 1) = false ∧ s.ainDiff n.val (s.get (fADC_RES_CFG_j_c n.val ch.val) - 1) = false ∧ (∀ i : Fin 8, (s.run n.val i.val).heldAt = none) ∧ (s.adc n.val).urgQ = [] :=
  ⟨1, 0, setup [(fADC_RES_CFG_en 1 0, 1), (fADC_RES_CFG_j_s 1 0, 3), (fADC_RES_CFG_j_c 1 0, 4)], by decide +kernel⟩

theorem test_Feedback_1 : ∃ (c : Fin 16) (a : Bool) (b : Bool) (z : Bool) (s : State), s.isRun 10 = true ∧ s.get (fFB_CFG_mode c.val) = 1 ∧ (s.fb c.val).prevEdge = none ∧ a ≠ (s.fb c.val).a ∧ b = (s.fb c.val).b ∧ z = (s.fb c.val).z ∧ (∀ e : Fin 4, s.get (fFB_EMU_CFG_src e.val) ≠ c.val) :=
  ⟨3, true, false, false, setup [(fFB_CFG_mode 3, 1), (fFB_EMU_CFG_src 0, 9), (fFB_EMU_CFG_src 1, 9), (fFB_EMU_CFG_src 2, 9), (fFB_EMU_CFG_src 3, 9)], by decide +kernel⟩

theorem test_Feedback_2 : ∃ (c : Fin 16) (a : Bool) (b : Bool) (z : Bool) (s : State), s.isRun 10 = true ∧ s.get (fFB_CFG_mode c.val) = 1 ∧ a ≠ (s.fb c.val).a ∧ b ≠ (s.fb c.val).b ∧ z = (s.fb c.val).z ∧ s.tmr = [] :=
  ⟨3, true, true, false, setup [(fFB_CFG_mode 3, 1)], by decide +kernel⟩

theorem test_Feedback_3 : ∃ (c : Fin 16) (a : Bool) (b : Bool) (z : Bool) (p : Nat) (s : State), s.isRun 10 = true ∧ s.get (fFB_CFG_mode c.val) = 3 ∧ (s.fb c.val).prevEdge = none ∧ hallPlace (hallCode (s.fb c.val).a (s.fb c.val).b (s.fb c.val).z) = some p ∧ hallPlace (hallCode a b z) = some ((p + 1) % 6) ∧ (∀ e : Fin 4, s.get (fFB_EMU_CFG_src e.val) ≠ c.val) :=
  ⟨3, true, true, false, 0, (setup [(fFB_CFG_mode 3, 3), (fFB_EMU_CFG_src 0, 9), (fFB_EMU_CFG_src 1, 9), (fFB_EMU_CFG_src 2, 9), (fFB_EMU_CFG_src 3, 9)]).putFb 3 { a := true }, by decide +kernel⟩

theorem test_Feedback_4 : ∃ (c : Fin 16) (s : State), s.isRun 10 = true ∧ s.get (fFB_CFG_mode c.val) = 1 ∧ s.get (fFB_CFG_idx_mode c.val) = 1 ∧ (∀ e : Fin 4, s.get (fFB_EMU_CFG_src e.val) ≠ c.val) :=
  ⟨3, setup [(fFB_CFG_mode 3, 1), (fFB_CFG_idx_mode 3, 1), (fFB_IDX_VAL_val 3, 77), (fFB_POS_pos 3, 5), (fFB_EMU_CFG_src 0, 9), (fFB_EMU_CFG_src 1, 9), (fFB_EMU_CFG_src 2, 9), (fFB_EMU_CFG_src 3, 9)], by decide +kernel⟩

theorem test_Feedback_5 : ∃ (c : Fin 16) (s : State), s.get (fFB_CFG_mode c.val) = 0 :=
  ⟨3, setup [(fFB_CFG_mode 3, 0)], by decide +kernel⟩

theorem test_Feedback_6 : ∃ (r : Req) (c : Fin 16) (s : State), s.grants r (aFB_CMD c.val) true = true :=
  ⟨.apc0, 3, setup [], by decide +kernel⟩

theorem test_Feedback_7 : ∃ (r : Req) (c : Fin 16) (s : State), s.grants r (aFB_CMD c.val) true = true :=
  ⟨.apc0, 3, setup [(fFB_STAT_qerr 3, 1)], by decide +kernel⟩

theorem test_Feedback_8 : ∃ (r : Req) (c : Fin 16) (s : State), s.grants r (aFB_CMD c.val) true = true ∧ (∀ e : Fin 4, s.get (fFB_EMU_CFG_src e.val) ≠ c.val) :=
  ⟨.apc0, 3, setup [(fFB_IDX_VAL_val 3, 77), (fFB_EMU_CFG_src 0, 9), (fFB_EMU_CFG_src 1, 9), (fFB_EMU_CFG_src 2, 9), (fFB_EMU_CFG_src 3, 9)], by decide +kernel⟩

theorem test_Feedback_9 : ∃ (n : Fin 8) (s : State), s.isRun 10 = true ∧ (s.res n.val).rx = none ∧ s.on (fFB_RES_CFG_en n.val) = true ∧ s.on (fFB_RES_STAT_los n.val) = false ∧ s.tmr = [] :=
  ⟨3, setup [(fFB_RES_CFG_en 3, 1), (fFB_RES_STAT_stale 3, 1)], by decide +kernel⟩

theorem test_Feedback_10 : ∃ (n : Fin 8) (s : State), s.isRun 10 = true ∧ (s.res n.val).rx = none ∧ s.on (fFB_RES_CFG_en n.val) = true ∧ (s.res n.val).started = false ∧ s.on (fFB_RES_CFG_swap n.val) = false ∧ (∀ e : Fin 4, s.get (fFB_EMU_CFG_src e.val) ≠ 16 + n.val) :=
  ⟨3, setup [(fFB_RES_CFG_en 3, 1)], by decide +kernel⟩

theorem test_Feedback_11 : ∃ (n : Fin 8) (t : Nat) (s : State), s.isRun 10 = true ∧ s.on (fFB_RES_CFG_en n.val) = true ∧ (s.res n.val).arrAt = some t :=
  ⟨3, 90, (setup [(fFB_RES_CFG_en 3, 1)]).putRes 3 { arrAt := some 90 }, by decide +kernel⟩

theorem test_Feedback_12 : ∃ (n : Fin 8) (s : State), s.on (fFB_RES_CFG_en n.val) = false :=
  ⟨3, setup [], by decide +kernel⟩

theorem test_Feedback_13 : ∃ (e : Fin 4) (s : State), s.on (fFB_EMU_CFG_en e.val) = true ∧ 0 < sext 16 (s.get (fFB_EMU_BACKLOG_bl e.val)) ∧ (s.emu e.val).lastEdge = none ∧ s.on (fFB_EMU_CFG_swap e.val) = false :=
  ⟨2, setup [(fFB_EMU_CFG_en 2, 1), (fFB_EMU_BACKLOG_bl 2, 5)], by decide +kernel⟩

theorem test_Feedback_14 : ∃ (e : Fin 4) (s : State), s.get (fFB_EMU_BACKLOG_bl e.val) = 0 :=
  ⟨2, setup [(fFB_EMU_CFG_en 2, 1)], by decide +kernel⟩

theorem test_AxisCommands_1 : ∃ (r : Req) (k : Fin 8) (s : State), s.grants r (aAX_CMD k.val) true = true ∧ s.axReady k.val = false :=
  ⟨.apc0, 3, setup [], by decide +kernel⟩

theorem test_AxisCommands_2 : ∃ (r : Req) (k : Fin 8) (n : Nat) (s : State), s.grants r (aAX_CMD k.val) true = true ∧ s.axReady k.val = true ∧ s.get (fAX_CFG_mode k.val) = 1 ∧ s.on (fAX_STAT_limp k.val) = false ∧ (s.rd (aAX_TARGET k.val)).toInt = s.axPos k.val + n ∧ 0 < n ∧ s.tmr = [] :=
  ⟨.apc0, 3, 500, setup [(fAX_CFG_mode 3, 1), (fAX_VSTART_v 3, 0x42C80000), (fAX_VBREAK_v 3, 0x43480000), (fAX_VMAX_v 3, 0x43960000), (fAX_VSTOP_v 3, 0x42C80000), (fAX_A1_a 3, 0x43000000), (fAX_A2_a 3, 0x43000000), (fAX_D1_d 3, 0x43000000), (fAX_D2_d 3, 0x43000000), (fAX_TARGET_pos 3, 500)], by decide +kernel⟩

theorem test_AxisCommands_3 : ∃ (r : Req) (k : Fin 8) (s : State), s.grants r (aAX_CMD k.val) true = true ∧ s.axReady k.val = true ∧ s.get (fAX_CFG_mode k.val) = 1 ∧ (s.rd (aAX_TARGET k.val)).toInt = s.axPos k.val ∧ s.tmr = [] :=
  ⟨.apc0, 3, setup [(fAX_CFG_mode 3, 1), (fAX_VSTART_v 3, 0x42C80000), (fAX_VBREAK_v 3, 0x43480000), (fAX_VMAX_v 3, 0x43960000), (fAX_VSTOP_v 3, 0x42C80000), (fAX_A1_a 3, 0x43000000), (fAX_A2_a 3, 0x43000000), (fAX_D1_d 3, 0x43000000), (fAX_D2_d 3, 0x43000000), (fAX_TARGET_pos 3, 0)], by decide +kernel⟩

theorem test_AxisCommands_4 : ∃ (r : Req) (k : Fin 8) (s : State), s.grants r (aAX_CMD k.val) true = true ∧ s.axReady k.val = true ∧ s.get (fAX_CFG_mode k.val) = 1 ∧ s.on (fAX_STAT_limp k.val) = false ∧ s.tmr = [] :=
  ⟨.apc0, 3, setup [(fAX_CFG_mode 3, 1), (fAX_VSTART_v 3, 0x42C80000), (fAX_VBREAK_v 3, 0x43480000), (fAX_VMAX_v 3, 0x43960000), (fAX_VSTOP_v 3, 0x42C80000), (fAX_A1_a 3, 0x43000000), (fAX_A2_a 3, 0x43000000), (fAX_D1_d 3, 0x43000000), (fAX_D2_d 3, 0x43000000)], by decide +kernel⟩

theorem test_AxisCommands_5 : ∃ (r : Req) (k : Fin 8) (s : State), s.grants r (aAX_CMD k.val) true = true ∧ s.axReady k.val = true ∧ s.get (fAX_CFG_mode k.val) = 1 ∧ s.on (fAX_STAT_limn k.val) = false ∧ s.tmr = [] :=
  ⟨.apc0, 3, setup [(fAX_CFG_mode 3, 1), (fAX_VSTART_v 3, 0x42C80000), (fAX_VBREAK_v 3, 0x43480000), (fAX_VMAX_v 3, 0x43960000), (fAX_VSTOP_v 3, 0x42C80000), (fAX_A1_a 3, 0x43000000), (fAX_A2_a 3, 0x43000000), (fAX_D1_d 3, 0x43000000), (fAX_D2_d 3, 0x43000000)], by decide +kernel⟩

theorem test_AxisCommands_6 : ∃ (r : Req) (k : Fin 8) (s : State), s.grants r (aAX_CMD k.val) true = true ∧ s.on (fAX_STAT_limp k.val) = true :=
  ⟨.apc0, 3, setup [(fAX_STAT_limp 3, 1)], by decide +kernel⟩

theorem test_AxisCommands_7 : ∃ (r : Req) (k : Fin 8) (s : State), s.grants r (aAX_CMD k.val) true = true ∧ s.axReady k.val = true ∧ s.get (fAX_CFG_mode k.val) = 1 ∧ s.on (fAX_STAT_limp k.val) = false ∧ s.tmr = [] :=
  ⟨.apc0, 3, setup [(fAX_CFG_mode 3, 1), (fAX_VSTART_v 3, 0x42C80000), (fAX_VBREAK_v 3, 0x43480000), (fAX_VMAX_v 3, 0x43960000), (fAX_VSTOP_v 3, 0x42C80000), (fAX_A1_a 3, 0x43000000), (fAX_A2_a 3, 0x43000000), (fAX_D1_d 3, 0x43000000), (fAX_D2_d 3, 0x43000000), (fAX_VHOME_v 3, 0x42C80000)], by decide +kernel⟩

theorem test_AxisCommands_8 : ∃ (r : Req) (k : Fin 8) (s : State), s.grants r (aAX_CMD k.val) true = true ∧ s.axReady k.val = true ∧ s.get (fAX_CFG_mode k.val) = 1 ∧ s.on (fAX_STAT_limn k.val) = false ∧ s.tmr = [] :=
  ⟨.apc0, 3, setup [(fAX_CFG_mode 3, 1), (fAX_VSTART_v 3, 0x42C80000), (fAX_VBREAK_v 3, 0x43480000), (fAX_VMAX_v 3, 0x43960000), (fAX_VSTOP_v 3, 0x42C80000), (fAX_A1_a 3, 0x43000000), (fAX_A2_a 3, 0x43000000), (fAX_D1_d 3, 0x43000000), (fAX_D2_d 3, 0x43000000), (fAX_VHOME_v 3, 0x42C80000)], by decide +kernel⟩

theorem test_AxisCommands_9 : ∃ (r : Req) (k : Fin 8) (s : State), s.grants r (aAX_CMD k.val) true = true ∧ s.axMoves k.val = true ∧ s.get (fAX_STAT_kind k.val) = 2 ∧ F32.le (s.ax k.val).v2 (Machine.sq (s.rd (aAX_VSTOP k.val))) = true ∧ (s.ax k.val).homed = false ∧ s.tmr = [] :=
  ⟨.apc0, 3, (setup [(fAX_CFG_mode 3, 1), (fAX_STAT_seg 3, 3), (fAX_STAT_kind 3, 2), (fAX_VSTOP_v 3, 0x42C80000)]).putAx 3 { v2 := 0x43480000 }, by decide +kernel⟩

theorem test_AxisCommands_10 : ∃ (r : Req) (k : Fin 8) (s : State), s.grants r (aAX_CMD k.val) true = true ∧ s.axMoves k.val = true ∧ s.get (fAX_STAT_kind k.val) = 2 ∧ F32.le (s.ax k.val).v2 (Machine.sq (s.rd (aAX_VSTOP k.val))) = false ∧ s.tmr = [] :=
  ⟨.apc0, 3, (setup [(fAX_CFG_mode 3, 1), (fAX_STAT_seg 3, 3), (fAX_STAT_kind 3, 2)]).putAx 3 { v2 := 0x43480000 }, by decide +kernel⟩

theorem test_AxisCommands_11 : ∃ (r : Req) (k : Fin 8) (s : State), s.grants r (aAX_CMD k.val) true = true ∧ s.axMoves k.val = false :=
  ⟨.apc0, 3, setup [], by decide +kernel⟩

theorem test_AxisCommands_12 : ∃ (r : Req) (k : Fin 8) (s : State), s.grants r (aAX_CMD k.val) true = true ∧ s.axMoves k.val = true ∧ (s.ax k.val).homed = false ∧ s.tmr = [] :=
  ⟨.apc0, 3, setup [(fAX_STAT_seg 3, 3), (fAX_STAT_kind 3, 2)], by decide +kernel⟩

theorem test_AxisCommands_13 : ∃ (r : Req) (k : Fin 8) (s : State), s.grants r (aAX_CMD k.val) true = true ∧ s.get (fAX_CFG_mode k.val) = 1 :=
  ⟨.apc0, 3, setup [(fAX_CFG_mode 3, 1), (fAX_STAT_chop_fault 3, 1)], by decide +kernel⟩

theorem test_AxisCommands_14 : ∃ (r : Req) (k : Fin 8) (w : RampReg) (s : State), s.grants r (rampReg k.val w) true = true ∧ s.axMoves k.val = false :=
  ⟨.apc0, 3, .d1, setup [], by decide +kernel⟩

theorem test_AxisCommands_15 : ∃ (r : Req) (k : Fin 8) (w : RampReg) (s : State), s.grants r (rampReg k.val w) true = true ∧ s.axMoves k.val = true ∧ (s.ax k.val).stopping = true :=
  ⟨.apc0, 3, .d1, (setup [(fAX_STAT_seg 3, 4), (fAX_STAT_kind 3, 2)]).putAx 3 { stopping := true }, by decide +kernel⟩

theorem test_AxisEvents_1 : ∃ (k : Fin 8) (s : State), s.axMoves k.val = true ∧ s.get (fAX_CFG_mode k.val) = 1 ∧ s.get (fAX_STAT_kind k.val) = 2 ∧ (s.ax k.val).stopping = false :=
  ⟨3, (setup [(fAX_CFG_mode 3, 1), (fAX_STAT_seg 3, 3), (fAX_STAT_kind 3, 2)]).putAx 3 { v2 := 0x43480000, nextAt := 400 }, by decide +kernel⟩

theorem test_AxisEvents_2 : ∃ (k : Fin 8) (s : State), s.axMoves k.val = true ∧ s.get (fAX_CFG_mode k.val) = 1 ∧ s.get (fAX_STAT_kind k.val) = 1 ∧ s.get (fAX_LEFT_n k.val) = 1 ∧ (s.ax k.val).homed = false ∧ s.tmr = [] :=
  ⟨3, (setup [(fAX_CFG_mode 3, 1), (fAX_STAT_seg 3, 5), (fAX_STAT_kind 3, 1), (fAX_LEFT_n 3, 1)]).putAx 3 { nextAt := 400 }, by decide +kernel⟩

theorem test_AxisEvents_3 : ∃ (k : Fin 8) (s : State), s.axMoves k.val = false :=
  ⟨3, setup [], by decide +kernel⟩

theorem test_AxisEvents_4 : ∃ (k : Fin 8) (s : State), s.isRun 11 = true ∧ s.axMoves k.val = true ∧ s.get (fAX_STAT_kind k.val) = 2 ∧ s.on (fAX_STAT_dir k.val) = false ∧ (s.ax k.val).homed = false ∧ s.on (fAX_CFG_lim_mode k.val) = false ∧ s.tmr = [] :=
  ⟨3, setup [(fAX_STAT_seg 3, 3), (fAX_STAT_kind 3, 2)], by decide +kernel⟩

theorem test_AxisEvents_5 : ∃ (k : Fin 8) (lvl : Bool) (s : State), s.isRun 11 = true ∧ s.axMoves k.val = false ∧ lvl ≠ s.on (fAX_CFG_lim_pol k.val) :=
  ⟨3, true, setup [(fAX_CFG_lim_pol 3, 0)], by decide +kernel⟩

theorem test_AxisEvents_6 : ∃ (k : Fin 8) (lvl : Bool) (s : State), s.isRun 11 = true ∧ s.axMoves k.val = true ∧ s.get (fAX_STAT_kind k.val) = 3 ∧ lvl ≠ s.on (fAX_CFG_home_pol k.val) ∧ s.on (fAX_STAT_home k.val) = false ∧ (s.ax k.val).homed = false ∧ (s.ax k.val).byLim = false ∧ F32.le (s.ax k.val).v2 (Machine.sq (s.rd (aAX_VSTOP k.val))) = false ∧ s.tmr = [] :=
  ⟨3, true, (setup [(fAX_STAT_seg 3, 3), (fAX_STAT_kind 3, 3)]).putAx 3 { v2 := 0x43480000 }, by decide +kernel⟩

theorem test_AxisEvents_7 : ∃ (k : Fin 8) (s : State), s.isRun 11 = true ∧ s.axMoves k.val = false :=
  ⟨3, setup [], by decide +kernel⟩

theorem test_AxisEvents_8 : ∃ (k : Fin 8) (b : Bool) (s : State), s.chopOn k.val = true ∧ (s.axPh k.val b).sgn ≠ 0 ∧ (s.axPh k.val b).drive = true ∧ s.get (fAX_CHOP_TIM_t_blank k.val) * ns10 ≤ s.now - (s.axPh k.val b).since :=
  ⟨3, false, (setup [(fAX_CFG_mode 3, 2), (fAX_CHOP_TIM_t_blank 3, 0)]).putAx 3 { phA := { drive := true, sgn := 1 } }, by decide +kernel⟩

theorem test_AxisEvents_9 : ∃ (k : Fin 8) (b : Bool) (s : State), s.chopOn k.val = true ∧ (s.axPh k.val b).sgn ≠ 0 ∧ (s.axPh k.val b).drive = false ∧ s.on (fAX_CHOP_CFG_adapt k.val) = false ∧ s.get (fAX_CHOP_TIM_t_blank k.val) * ns10 ≤ s.now - (s.axPh k.val b).since :=
  ⟨3, false, (setup [(fAX_CFG_mode 3, 2), (fAX_CHOP_TIM_t_blank 3, 0)]).putAx 3 { phA := { sgn := 1 } }, by decide +kernel⟩

theorem test_AxisEvents_10 : ∃ (k : Fin 8) (s : State), s.chopOn k.val = false :=
  ⟨3, setup [], by decide +kernel⟩

theorem test_AxisEvents_11 : ∃ (k : Fin 8) (t : Nat) (s : State), s.chopOn k.val = true ∧ s.longDrive k.val = some t ∧ s.tmr = [] :=
  ⟨3, 9, (setup [(fAX_CFG_mode 3, 2)]).putAx 3 { phA := { drive := true, sgn := 1, since := 9 } }, by decide +kernel⟩

theorem test_AxisEvents_12 : ∃ (k : Fin 8) (s : State), s.chopOn k.val = false :=
  ⟨3, setup [], by decide +kernel⟩

theorem test_AxisEvents_13 : ∃ (k : Fin 8) (s : State), s.get (fAX_CFG_mode k.val) = 2 ∧ s.axMoves k.val = false ∧ s.get (fAX_CHOP_TIM_t_hold_cur k.val) ≠ 0 ∧ (s.ax k.val).hold = false :=
  ⟨3, (setup [(fAX_CFG_mode 3, 2), (fAX_CHOP_TIM_t_hold_cur 3, 7)]).putAx 3 { idleSince := 5 }, by decide +kernel⟩

theorem test_AxisEvents_14 : ∃ (k : Fin 8) (s : State), s.get (fAX_CFG_mode k.val) ≠ 2 :=
  ⟨3, setup [], by decide +kernel⟩

theorem test_CanController_1 : ∃ (c : Fin 4) (f : CanFrame) (b : Fin 64) (s : State), s.canHears c.val = true ∧ s.canMode c.val = 1 ∧ s.canE c.val = 0 ∧ (s.can c.val).tec = 0 ∧ (s.can c.val).rxe = 0 ∧ f.fdf = false ∧ Word.fld f.id 30 1 = 0 ∧ f.dlc.val ≤ 8 ∧ f.data.length = f.dlc.val ∧ s.mbMatches c.val f.id = [b.val] ∧ s.mbNew c.val b.val = false ∧ s.mbOwned c.val b.val = false :=
  ⟨1, ⟨0x00040000, 2, false, false, false, [7, 9]⟩, 5, setup [(fCAN_PSTAT_mode 1, 1), (fCAN_PSTAT_estate 1, 0), (fCAN_MB_CFG_en 1 5, 1), (⟨aCAN_MB_ID 1 5, 18, 11⟩, 1), (⟨aCAN_MB_MASK 1 5, 0, 29⟩, 0x1FFFFFFF)], by decide +kernel⟩

theorem test_CanController_2 : ∃ (c : Fin 4) (f : CanFrame) (s : State), s.canHears c.val = true ∧ s.canMode c.val = 1 ∧ s.canE c.val = 0 ∧ (s.can c.val).tec = 0 ∧ (s.can c.val).rxe = 0 ∧ f.fdf = false ∧ Word.fld f.id 30 1 = 0 ∧ f.dlc.val ≤ 8 ∧ f.data.length = f.dlc.val ∧ s.mbMatches c.val f.id = [] ∧ idMatch f.id (s.rd (aCAN_FIFO_FID c.val)) (s.rd (aCAN_FIFO_FMASK c.val)) = true ∧ (s.can c.val).fifo.length < 32 :=
  ⟨1, ⟨0x00040000, 2, false, false, false, [7, 9]⟩, setup [(fCAN_PSTAT_mode 1, 1), (fCAN_PSTAT_estate 1, 0)], by decide +kernel⟩

theorem test_CanController_3 : ∃ (c : Fin 4) (f : CanFrame) (s : State), s.canHears c.val = false ∧ f.data.length ≤ 64 :=
  ⟨1, ⟨0x00040000, 2, false, false, false, [7, 9]⟩, setup [(fCAN_PSTAT_mode 1, 0)], by decide +kernel⟩

theorem test_CanController_4 : ∃ (c : Fin 4) (b : Fin 64) (s : State), (s.can c.val).cur = some b.val ∧ s.canMode c.val = 1 ∧ s.canE c.val = 0 ∧ (s.can c.val).tec ≤ 1 ∧ (s.can c.val).rxe = 0 ∧ s.on (fCAN_TDC_en c.val) = false ∧ s.tmr = [] :=
  ⟨1, 5, (setup [(fCAN_PSTAT_mode 1, 1), (fCAN_PSTAT_estate 1, 0), (bitFld (aCAN_TXPEND 1 0) 5, 1)]).putCan 1 { cur := some 5 }, by decide +kernel⟩

theorem test_CanController_5 : ∃ (c : Fin 4) (s : State), s.onBus c.val = none :=
  ⟨1, setup [], by decide +kernel⟩

theorem test_CanController_6 : ∃ (c : Fin 4) (s : State), s.canHears c.val = true ∧ s.canMode c.val = 1 ∧ s.canE c.val = 0 ∧ (s.can c.val).tec < 128 ∧ (s.can c.val).rxe < 127 :=
  ⟨1, setup [(fCAN_PSTAT_mode 1, 1), (fCAN_PSTAT_estate 1, 0)], by decide +kernel⟩

theorem test_CanController_7 : ∃ (c : Fin 4) (b : Fin 64) (s : State), (s.can c.val).cur = some b.val ∧ s.canE c.val = 0 ∧ (s.can c.val).tec < 120 ∧ (s.can c.val).rxe < 128 ∧ (s.can c.val).abortReq = [] ∧ s.on (fCAN_MB_CFG_oneshot c.val b.val) = false ∧ s.tmr = [] :=
  ⟨1, 5, (setup [(fCAN_PSTAT_mode 1, 1), (fCAN_PSTAT_estate 1, 0), (bitFld (aCAN_TXPEND 1 0) 5, 1)]).putCan 1 { cur := some 5 }, by decide +kernel⟩

theorem test_CanController_8 : ∃ (c : Fin 4) (s : State), s.canMode c.val ≠ 0 ∧ s.canE c.val = 3 ∧ (s.can c.val).recov = false ∧ (s.can c.val).tec = 0 ∧ (s.can c.val).rxe = 0 ∧ s.mbPending c.val = [] ∧ s.tmr = [] :=
  ⟨1, setup [(fCAN_PSTAT_mode 1, 1), (fCAN_PSTAT_estate 1, 3)], by decide +kernel⟩

theorem test_CanController_9 : ∃ (c : Fin 4) (s : State), s.canE c.val ≠ 3 :=
  ⟨1, setup [(fCAN_PSTAT_mode 1, 1), (fCAN_PSTAT_estate 1, 1)], by decide +kernel⟩

theorem test_CanController_10 : ∃ (c : Fin 4) (s : State), (s.can c.val).recov = true ∧ s.mbPending c.val = [] :=
  ⟨1, (setup [(fCAN_PSTAT_mode 1, 1), (fCAN_PSTAT_estate 1, 3)]).putCan 1 { recov := true, tec := 256 }, by decide +kernel⟩

theorem test_CanController_11 : ∃ (c : Fin 4) (s : State), (s.can c.val).recov = false :=
  ⟨1, setup [], by decide +kernel⟩

theorem test_CanController_12 : ∃ (r : Req) (c : Fin 4) (b : Fin 64) (s : State), s.grants r (aCAN_MB_CMD c.val) true = true ∧ s.mbOwned c.val b.val = false ∧ s.mbPend c.val b.val = false ∧ s.on (fCAN_MB_CFG_en c.val b.val) = true ∧ s.on (fCAN_MB_CFG_dir c.val b.val) = true ∧ (s.can c.val).busy = true :=
  ⟨.apc0, 1, 5, (setup [(fCAN_MB_CFG_en 1 5, 1), (fCAN_MB_CFG_dir 1 5, 1)]).putCan 1 { busy := true }, by decide +kernel⟩

theorem test_CanController_13 : ∃ (r : Req) (c : Fin 4) (b : Fin 64) (s : State), s.grants r (aCAN_MB_CMD c.val) true = true ∧ s.mbOwned c.val b.val = false ∧ s.mbPending c.val = [] ∧ s.on (fCAN_MB_CFG_en c.val b.val) = true ∧ s.on (fCAN_MB_CFG_dir c.val b.val) = true ∧ (s.can c.val).busy = false ∧ (s.can c.val).cur = none ∧ s.canSends c.val = true :=
  ⟨.apc0, 1, 5, (setup [(fCAN_MB_CFG_en 1 5, 1), (fCAN_MB_CFG_dir 1 5, 1), (fCAN_PSTAT_mode 1, 1), (fCAN_PSTAT_estate 1, 0)]), by decide +kernel⟩

theorem test_CanController_14 : ∃ (r : Req) (c : Fin 4) (b : Fin 64) (s : State), s.grants r (aCAN_MB_CMD c.val) true = true ∧ s.mbOwned c.val b.val = false ∧ s.mbPend c.val b.val = true ∧ s.tmr = [] :=
  ⟨.apc0, 1, 5, setup [(bitFld (aCAN_TXPEND 1 0) 5, 1)], by decide +kernel⟩

theorem test_CanController_15 : ∃ (r : Req) (c : Fin 4) (b : Fin 64) (s : State), s.grants r (aCAN_MB_CMD c.val) true = true ∧ s.mbOwned c.val b.val = false ∧ s.mbPend c.val b.val = true ∧ (s.can c.val).cur ≠ some b.val :=
  ⟨.apc0, 1, 5, setup [(bitFld (aCAN_TXPEND 1 0) 5, 1)], by decide +kernel⟩

theorem test_CanController_16 : ∃ (r : Req) (c : Fin 4) (b : Fin 64) (s : State), s.grants r (aCAN_MB_CMD c.val) true = true ∧ s.mbOwned c.val b.val = false ∧ s.mbPend c.val b.val = true ∧ (s.can c.val).cur = some b.val :=
  ⟨.apc0, 1, 5, (setup [(bitFld (aCAN_TXPEND 1 0) 5, 1)]).putCan 1 { cur := some 5 }, by decide +kernel⟩

theorem test_CanController_17 : ∃ (r : Req) (c : Fin 4) (s : State), s.grants r (aCAN_CMD c.val) true = true ∧ s.canE c.val = 2 ∧ Tab.find s.bnd (aCAN_MODE c.val) = none ∧ (s.rd (aCAN_MODE c.val)).fld 0 3 ≠ 0 :=
  ⟨.apc0, 1, setup [(fCAN_PSTAT_estate 1, 2), (fCAN_MODE_mode 1, 1)], by decide +kernel⟩

theorem test_CanController_18 : ∃ (r : Req) (c : Fin 4) (s : State), s.grants r (aCAN_CMD c.val) true = true ∧ s.canE c.val ≠ 2 ∧ s.tmr = [] :=
  ⟨.apc0, 1, setup [(fCAN_PSTAT_estate 1, 1)], by decide +kernel⟩

theorem test_CanController_19 : ∃ (r : Req) (c : Fin 4) (s : State), s.grants r (aCAN_CMD c.val) true = true ∧ (s.can c.val).fifo.length ≤ 32 :=
  ⟨.apc0, 1, (setup []).putCan 1 { fifo := [{}, { id := 4 }] }, by decide +kernel⟩

theorem test_CanController_20 : ∃ (c : Fin 4) (b : Fin 64) (s : State), (s.can c.val).cur = some b.val ∧ (s.can c.val).abortReq = [] ∧ s.on (fCAN_MB_CFG_oneshot c.val b.val) = false :=
  ⟨1, 5, (setup [(bitFld (aCAN_TXPEND 1 0) 5, 1)]).putCan 1 { cur := some 5 }, by decide +kernel⟩

theorem test_DeviceResets_4 : ∃ (r : Req) (s : State), s.grants r aSYS_RST_CMD true = true ∧ ((r = .sage ∨ s.allSafe = true)) :=
  ⟨.apc0, setup [], by decide +kernel⟩

theorem test_DeviceResets_5 : ∃ (r : Req) (key : Nat) (s : State), s.grants r aSYS_RST_CMD true = true ∧ key ≠ 0xC3A5 ∧ s.tmr = [] :=
  ⟨.apc0, 7, setup [], by decide +kernel⟩

theorem test_DeviceResets_6 : ∃ (r : Req) (i : Fin 2) (s : State), s.grants r aSYS_RST_CMD true = true ∧ s.isRun (2 + i.val) = true :=
  ⟨.apc0, 1, setup [], by decide +kernel⟩

theorem test_DeviceResets_7 : ∃ (r : Req) (key : Nat) (s : State), s.grants r aSYS_RST_CMD true = true ∧ key ≠ 0xC3A5 ∧ s.tmr = [] :=
  ⟨.apc0, 7, setup [], by decide +kernel⟩

theorem test_DeviceResets_8 : ∃ (s : State), s.on fSYS_DBG_STAT_unlocked = true :=
  ⟨setup [(fSYS_DBG_STAT_unlocked, 1)], by decide +kernel⟩

theorem test_DeviceResets_9 : ∃ (s : State), s.on fSYS_DBG_STAT_unlocked = false :=
  ⟨setup [], by decide +kernel⟩

theorem test_DeviceResets_10 : ∃ (t : Nat) (s : State), s.hpm.clkLost = some t :=
  ⟨55, (setup []).setHpm { clkLost := some 55 }, by decide +kernel⟩

theorem test_DeviceResets_11 : ∃ (s : State), s.hpm.clkLost = none :=
  ⟨setup [], by decide +kernel⟩

theorem test_PowerControl_1 : ∃ (rail : Fin 7) (mv : Nat) (s : State), rail.val < 6 ∧ mv < 65536 ∧ s.on fHPM_SUP_STAT_epi = false ∧ s.hpm.starts = [] ∧ s.bist.run = [] ∧ s.tmr = [] :=
  ⟨2, 850, setup [], by decide +kernel⟩

theorem test_PowerControl_2 : ∃ (rail : Fin 7) (mv : Nat) (s : State), rail.val < 6 ∧ mv < 65536 ∧ s.on fHPM_SUP_STAT_epi = true ∧ s.hpm.epiRail = rail.val ∧ s.tmr = [] :=
  ⟨2, 850, (setup [(fHPM_SUP_STAT_epi, 1)]).setHpm { epiRail := 2, epiMin := 900 }, by decide +kernel⟩

theorem test_PowerControl_3 : ∃ (s : State), s.on fHPM_SUP_STAT_epi = true ∧ s.get fHPM_PSTATE_state = 0 ∧ s.get fHPM_LTR_ltr = 0 ∧ s.hpm.epiRail < 7 ∧ s.hpm.epiMin < 8192 ∧ s.tmr = [] :=
  ⟨(setup [(fHPM_SUP_STAT_epi, 1)]).setHpm { epiRail := 2, epiMin := 900, epiStart := 7 }, by decide +kernel⟩

theorem test_PowerControl_4 : ∃ (s : State), s.on fHPM_SUP_STAT_epi = false :=
  ⟨setup [], by decide +kernel⟩

theorem test_PowerControl_5 : ∃ (r : Req) (s : State), s.grants r aHPM_SUP_STAT true = true ∧ s.recent.length < 8 :=
  ⟨.apc0, setup [(fHPM_SUP_STAT_unstable, 1)], by decide +kernel⟩

theorem test_PowerControl_6 : ∃ (r : Req) (s : State), s.grants r aHPM_SUP_STAT true = true ∧ 8 ≤ s.recent.length :=
  ⟨.apc0, (setup [(fHPM_SUP_STAT_unstable, 1)]).setHpm { starts := [0, 0, 0, 0, 0, 0, 0, 0] }, by decide +kernel⟩

theorem test_PowerControl_7 : ∃ (s : State), s.on fHPM_SUP_STAT_epi = false :=
  ⟨setup [], by decide +kernel⟩

theorem test_PowerControl_8 : ∃ (s : State), s.on fHPM_CLK_STAT_rc = false ∧ s.tmr = [] :=
  ⟨setup [(fHPM_CLK_STAT_xin_ok, 1)], by decide +kernel⟩

theorem test_PowerControl_9 : ∃ (s : State), s.on fHPM_CLK_STAT_pll_lock = true ∧ s.tmr = [] :=
  ⟨setup [(fHPM_CLK_STAT_pll_lock, 1)], by decide +kernel⟩

theorem test_PowerControl_10 : ∃ (s : State), s.hpm.clkLost.isSome = true ∧ s.on fHPM_CLK_STAT_xin_ok = false ∧ s.on fHPM_CLK_STAT_pll_lock = true ∧ s.tmr = [] :=
  ⟨(setup [(fHPM_CLK_STAT_xin_ok, 0), (fHPM_CLK_STAT_rc, 1), (fHPM_CLK_STAT_pll_lock, 1)]).setHpm { clkLost := some 5 }, by decide +kernel⟩

theorem test_PowerControl_11 : ∃ (s : State), s.hpm.clkLost = none :=
  ⟨setup [], by decide +kernel⟩

theorem test_PowerControl_12 : ∃ (r : Req) (s : State), s.grants r aHPM_PD_CTRL true = true ∧ s.on ⟨aHPM_PD_CTRL, 8, 1⟩ = true ∧ s.canQuiet = true ∧ s.on fHPM_SUP_STAT_epi = false ∧ s.isRun 12 = true ∧ (s.warden 12).purpose = .none ∧ (s.warden 12).pdown = false ∧ s.bist.run = [] ∧ s.tmr = [] :=
  ⟨.apc0, setup [(fHPM_PD_CTRL_on, 0xFFF), (fHPM_SUP_STAT_epi, 0)], by decide +kernel⟩

theorem test_PowerControl_13 : ∃ (r : Req) (d : Fin 12) (s : State), s.grants r aHPM_PD_CTRL true = true ∧ ((d.val = 0 ∨ d.val = 2 ∨ d.val = 11)) ∧ s.on ⟨aHPM_PD_CTRL, d.val, 1⟩ = true ∧ s.tmr = [] :=
  ⟨.apc0, 0, setup [(fHPM_PD_CTRL_on, 0xFFF)], by decide +kernel⟩

theorem test_PowerControl_14 : ∃ (r : Req) (s : State), s.grants r aHPM_PD_CTRL true = true ∧ s.on ⟨aHPM_PD_CTRL, 8, 1⟩ = false ∧ s.on fHPM_SUP_STAT_epi = false ∧ s.get fHPM_PSTATE_state = 0 ∧ (s.warden 12).pdown = true ∧ s.tmr = [] :=
  ⟨.apc0, (setup [(fHPM_PD_CTRL_on, 0xEFF)]).setWardens [(12, { st := .absent, pdown := true })], by decide +kernel⟩

theorem test_PowerControl_15 : ∃ (r : Req) (ltr : Word) (s : State), s.grants r aHPM_LTR true = true ∧ r ≠ .sage ∧ ltr = 0 ∧ s.on fHPM_SUP_STAT_epi = false ∧ s.get fHPM_PSTATE_state = 0 ∧ s.tmr = [] :=
  ⟨.apc0, 0, setup [], by decide +kernel⟩

theorem test_PowerControl_16 : ∃ (s : State), s.on fHPM_SUP_STAT_epi = false ∧ s.get fHPM_PSTATE_state = 0 ∧ s.get fHPM_LTR_ltr = 1 ∧ (s.apcPair 0).running = false ∧ (s.apcPair 1).running = false ∧ (s.warden 3).st = .run ∧ s.tmr = [] :=
  ⟨setup [(fHPM_LTR_ltr, 1)], by decide +kernel⟩

theorem test_PowerControl_17 : ∃ (s : State), s.on fHPM_SUP_STAT_epi = true :=
  ⟨setup [(fHPM_SUP_STAT_epi, 1)], by decide +kernel⟩

theorem test_PowerControl_18 : ∃ (src : Fin 8) (s : State), src.val < 6 ∧ s.get fHPM_PSTATE_state = 1 ∧ s.get fHPM_WAKE_EN_en / 2 ^ src.val % 2 = 1 ∧ s.tmr = [] :=
  ⟨3, setup [(fHPM_PSTATE_state, 1), (fHPM_WAKE_EN_en, 8)], by decide +kernel⟩

theorem test_PowerControl_19 : ∃ (src : Fin 8) (s : State), ((s.get fHPM_PSTATE_state = 0 ∨ s.get fHPM_WAKE_EN_en / 2 ^ src.val % 2 = 0)) :=
  ⟨3, setup [(fHPM_WAKE_EN_en, 8)], by decide +kernel⟩

theorem test_PowerControl_20 : ∃ (s : State), s.get fHPM_WAKE_TMR_t ≠ 0 ∧ s.get fHPM_PSTATE_state = 1 ∧ s.get fHPM_WAKE_EN_en / 32 % 2 = 1 ∧ s.tmr = [] :=
  ⟨setup [(fHPM_PSTATE_state, 1), (fHPM_WAKE_EN_en, 32), (fHPM_WAKE_TMR_t, 9)], by decide +kernel⟩

theorem test_BootAndHousekeeping_1 : ∃ (s : State), s.get fSYS_BOOT_STAT_state = 0 ∧ s.hpm.held = false ∧ s.hpm.shut = false ∧ s.hw (slotBase false) 0 ≠ 0x314E524D ∧ s.hw (slotBase true) 0 ≠ 0x314E524D ∧ s.tmr = [] :=
  ⟨setup [], by decide +kernel⟩

theorem test_BootAndHousekeeping_2 : ∃ (s : State), ((s.get fSYS_BOOT_STAT_state ≠ 0 ∨ s.hpm.held = true ∨ s.hpm.shut = true)) :=
  ⟨setup [(fSYS_BOOT_STAT_state, 1)], by decide +kernel⟩

theorem test_BootAndHousekeeping_3 : ∃ (r : Req) (s : State), s.grants r aSYS_MP_CMD true = true ∧ s.hpm.mp = none ∧ 0x780000 ≤ s.get fSYS_MP_ADDR_row * 32 ∧ s.get fSYS_MP_ADDR_row * 32 < 0x7C0000 ∧ s.tmr = [] :=
  ⟨.sage, setup [(fSYS_MP_ADDR_row, 0x3C010)], by decide +kernel⟩

theorem test_BootAndHousekeeping_4 : ∃ (r : Req) (key : Nat) (s : State), s.grants r aSYS_MP_CMD true = true ∧ key ≠ 0x3C96 ∧ s.tmr = [] :=
  ⟨.sage, 7, setup [], by decide +kernel⟩

theorem test_BootAndHousekeeping_5 : ∃ (r : Req) (s : State), s.grants r aSYS_MP_CMD true = true ∧ s.hpm.mp = none ∧ s.tmr = [] :=
  ⟨.sage, setup [(fSYS_IMG_VER_ver, 7)], by decide +kernel⟩

theorem test_BootAndHousekeeping_6 : ∃ (a : Nat) (ws : List Word) (s : State), s.on fSYS_MP_STAT_susp = false ∧ s.hpm.mp = some (.row a ws) ∧ ws.length = 8 ∧ s.tmr = [] :=
  ⟨0x100, [1, 2, 3, 4, 5, 6, 7, 8], (setup []).setHpm { mp := some (.row 0x100 [1, 2, 3, 4, 5, 6, 7, 8]) }, by decide +kernel⟩

theorem test_BootAndHousekeeping_7 : ∃ (v : Word) (s : State), s.on fSYS_MP_STAT_susp = false ∧ s.hpm.mp = some (.minVer v) ∧ s.tmr = [] :=
  ⟨9, (setup []).setHpm { mp := some (.minVer 9) }, by decide +kernel⟩

theorem test_BootAndHousekeeping_8 : ∃ (s : State), s.hpm.mp = none :=
  ⟨setup [], by decide +kernel⟩

theorem test_BootAndHousekeeping_9 : ∃ (s : State), s.on fSYS_MP_STAT_susp = true :=
  ⟨setup [(fSYS_MP_STAT_susp, 1)], by decide +kernel⟩

theorem test_BootAndHousekeeping_13 : ∃ (s : State), s.on fSYS_DBG_STAT_unlocked = true ∧ s.allSafe = true :=
  ⟨setup [(fSYS_DBG_STAT_unlocked, 1)], by decide +kernel⟩

theorem test_BootAndHousekeeping_14 : ∃ (s : State), s.on fSYS_DBG_STAT_unlocked = false :=
  ⟨setup [], by decide +kernel⟩

theorem test_BootAndHousekeeping_16 : ∃ (bs : List (BitVec 8)) (s : State), bs.length = 128 ∧ s.hpm.chal = none ∧ s.get fSYS_DBG_STAT_fails < 3 ∧ s.tmr = [] :=
  ⟨List.replicate 128 3, setup [], by decide +kernel⟩

theorem test_BootAndHousekeeping_17 : ∃ (bs : List (BitVec 8)) (s : State), bs.length = 128 ∧ s.get fSYS_DBG_STAT_fails = 3 :=
  ⟨List.replicate 128 3, setup [(fSYS_DBG_STAT_fails, 3)], by decide +kernel⟩

theorem test_BootAndHousekeeping_18 : ∃ (t : Int) (s : State), 1400 ≤ t ∧ t < 1500 ∧ s.hpm.held = false ∧ s.hpm.shut = false ∧ s.hpm.invalid = 0 ∧ s.get fHPM_THERM_STAT_state = 0 ∧ s.tmr = [] :=
  ⟨1420, setup [], by decide +kernel⟩

theorem test_BootAndHousekeeping_19 : ∃ (t : Int) (s : State), 1650 ≤ t ∧ s.hpm.held = false ∧ s.hpm.shut = false ∧ s.hpm.invalid = 0 :=
  ⟨1700, setup [], by decide +kernel⟩

theorem test_BootAndHousekeeping_20 : ∃ (ts : List Int) (s : State), ts.length = 8 ∧ ((s.hpm.held = true ∨ s.hpm.shut = true)) :=
  ⟨List.replicate 8 300, (setup []).setHpm { held := true }, by decide +kernel⟩

theorem test_BootAndHousekeeping_21 : ∃ (ts : List Int) (s : State), ts.length = 8 ∧ s.hpm.held = true ∧ s.hpm.shut = false ∧ s.hpm.invalid = 0 ∧ (∀ x ∈ ts, x < 1550) :=
  ⟨List.replicate 8 300, (setup []).setHpm { held := true }, by decide +kernel⟩

theorem test_BootAndHousekeeping_22 : ∃ (ts : List Int) (s : State), ts.length = 8 ∧ s.hpm.invalid = 0 ∧ (∃ x ∈ ts, 1550 ≤ x) :=
  ⟨List.replicate 8 1600, (setup []).setHpm { held := true }, by decide +kernel⟩

theorem test_BootAndHousekeeping_23 : ∃ (r : Req) (d : Word) (s : State), s.grants r aHPM_I2C_CMD true = true ∧ d.fld 31 1 = 1 ∧ s.hpm.i2c = none ∧ s.tmr = [] :=
  ⟨.apc0, 0xC0371200, setup [], by decide +kernel⟩

theorem test_BootAndHousekeeping_24 : ∃ (r : Req) (s : State), s.grants r aHPM_I2C_CMD true = true ∧ s.hpm.i2c.isSome = true :=
  ⟨.apc0, (setup []).setHpm { i2c := some (true, 55, 18, 0) }, by decide +kernel⟩

theorem test_BootAndHousekeeping_25 : ∃ (x : Nat) (y : Nat) (z : Nat) (s : State), s.hpm.i2c = some (true, x, y, z) ∧ s.tmr = [] :=
  ⟨55, 18, 0, (setup []).setHpm { i2c := some (true, 55, 18, 0) }, by decide +kernel⟩

theorem test_BootAndHousekeeping_26 : ∃ (rd : Bool) (x : Nat) (y : Nat) (z : Nat) (s : State), s.hpm.i2c = some (rd, x, y, z) ∧ s.tmr = [] :=
  ⟨true, 55, 18, 0, (setup []).setHpm { i2c := some (true, 55, 18, 0) }, by decide +kernel⟩

theorem test_BootAndHousekeeping_27 : ∃ (s : State), s.hpm.i2c = none :=
  ⟨setup [], by decide +kernel⟩

theorem test_Rosemary_1 : ∃ (s : State), s.isRun 14 = true ∧ s.on fREC_RSTAT_scan = true ∧ s.mem = [] ∧ s.rosem.postLeft = none ∧ s.tmr = [] :=
  ⟨(setup [(fREC_RSTAT_scan, 1)]), by decide +kernel⟩

theorem test_Rosemary_2 : ∃ (s : State), s.on fREC_RSTAT_scan = false :=
  ⟨setup [(fREC_RSTAT_scan, 0)], by decide +kernel⟩

theorem test_Rosemary_3 : ∃ (pay : List (BitVec 8)) (s : State), pay.length ≤ 40 ∧ s.isRun 14 = true ∧ s.rosem.queue.length < 255 ∧ s.rosem.dFull + s.rosem.dAbs = 0 ∧ s.tmr = [] :=
  ⟨[1, 2], setup [], by decide +kernel⟩

theorem test_Rosemary_4 : ∃ (pay : List (BitVec 8)) (s : State), pay.length ≤ 40 ∧ s.isRun 14 = true ∧ 255 ≤ s.rosem.events ∧ s.rosem.queue.any (fun i => i.own) = false ∧ s.rosem.dFull + s.rosem.dAbs = 0 ∧ s.tmr = [] :=
  ⟨[1, 2], (setup []).setRosem { queue := List.replicate 255 {} }, by decide +kernel⟩

theorem test_Rosemary_5 : ∃ (pay : List (BitVec 8)) (s : State), pay.length ≤ 40 ∧ s.isRun 14 = false ∧ s.tmr = [] :=
  ⟨[1, 2], (setup []).setWardens [(14, { st := .drain })], by decide +kernel⟩

theorem test_Rosemary_6 : ∃ (i : RItem) (q : List RItem) (s : State), s.recMayWrite = true ∧ s.rosem.queue = i :: q ∧ i.own = false ∧ s.rosem.postLeft = none ∧ s.on fREC_CFG_trig_en = false ∧ q.length < 512 ∧ s.tmr = [] :=
  ⟨{ code := 7, pay := [1, 2] }, [], (setup [(fREC_RSTAT_scan, 0), (fREC_SEQ_seq, 9)]).setRosem { queue := [{ code := 7, pay := [1, 2] }] }, by decide +kernel⟩

theorem test_Rosemary_7 : ∃ (i : RItem) (q : List RItem) (s : State), s.recMayWrite = true ∧ s.rosem.queue = i :: q ∧ i.own = false ∧ s.rosem.postLeft = none ∧ s.on fREC_CFG_trig_en = true ∧ i.code = s.get fREC_CFG_trig_code ∧ s.get fREC_CFG_post = 0 ∧ s.tmr = [] :=
  ⟨{ code := 7 }, [], (setup [(fREC_RSTAT_scan, 0), (fREC_CFG_trig_en, 1), (fREC_CFG_trig_code, 7), (fREC_CFG_post, 0)]).setRosem { queue := [{ code := 7 }] }, by decide +kernel⟩

theorem test_Rosemary_8 : ∃ (s : State), s.recMayWrite = false :=
  ⟨setup [(fREC_RSTAT_frozen, 1)], by decide +kernel⟩

theorem test_Rosemary_9 : ∃ (r : Req) (code : Fin 256) (s : State), s.grants r aREC_SW_CMD true = true ∧ 0xC0 ≤ code.val ∧ s.isRun 14 = true ∧ s.rosem.queue.length < 255 ∧ s.rosem.dFull + s.rosem.dAbs = 0 ∧ s.tmr = [] :=
  ⟨.apc0, 0xC1, setup [], by decide +kernel⟩

theorem test_Rosemary_10 : ∃ (r : Req) (code : Fin 256) (s : State), s.grants r aREC_SW_CMD true = true ∧ code.val < 0xC0 ∧ s.tmr = [] :=
  ⟨.apc0, 0x20, setup [], by decide +kernel⟩

theorem test_Rosemary_11 : ∃ (r : Req) (s : State), s.grants r aREC_CMD true = true ∧ s.on fREC_RSTAT_frozen = false ∧ s.tmr = [] :=
  ⟨.apc0, setup [], by decide +kernel⟩

theorem test_Rosemary_12 : ∃ (r : Req) (s : State), s.grants r aREC_CMD true = true ∧ s.on fREC_RSTAT_frozen = true :=
  ⟨.apc0, setup [(fREC_RSTAT_frozen, 1)], by decide +kernel⟩

theorem test_Rosemary_13 : ∃ (r : Req) (s : State), s.grants r aREC_CMD true = true ∧ s.tmr = [] :=
  ⟨.apc0, setup [(fREC_RSTAT_frozen, 1)], by decide +kernel⟩

theorem test_Rosemary_14 : ∃ (r : Req) (s : State), s.grants r aREC_CUR_IDX true = true :=
  ⟨.apc1, setup [], by decide +kernel⟩

theorem test_Rosemary_15 : ∃ (r : Req) (s : State), s.grants r aREC_CUR_CMD true = true :=
  ⟨.apc1, setup [], by decide +kernel⟩

theorem test_Rosemary_16 : ∃ (r : Req) (s : State), s.grants r aREC_CUR_CMD true = true :=
  ⟨.apc1, setup [], by decide +kernel⟩

theorem test_Rosemary_17 : ∃ (r : Req) (s : State), s.grants r aREC_CUR_CMD true = true :=
  ⟨.apc1, setup [], by decide +kernel⟩

theorem test_SelfTest_1 : ∃ (r : Req) (i : Fin 32) (k : Fin 8) (s : State), s.grants r aBIST_CMD true = true ∧ k.val ≠ 0 ∧ bistHas i.val k.val = true ∧ (∀ q ∈ s.bist.queue ++ s.bist.run, q.idx ≠ i.val) ∧ s.bist.queue.length < 8 :=
  ⟨.apc0, 14, 3, setup [], by decide +kernel⟩

theorem test_SelfTest_2 : ∃ (r : Req) (i : Fin 32) (k : Fin 8) (s : State), s.grants r aBIST_CMD true = true ∧ ((k.val = 0 ∨ bistHas i.val k.val = false ∨ ∃ q ∈ s.bist.queue ++ s.bist.run, q.idx = i.val)) ∧ s.tmr = [] :=
  ⟨.apc0, 14, 4, setup [], by decide +kernel⟩

theorem test_SelfTest_3 : ∃ (r : Req) (i : Fin 32) (k : Fin 8) (s : State), s.grants r aBIST_CMD true = true ∧ k.val ≠ 0 ∧ bistHas i.val k.val = true ∧ (∀ q ∈ s.bist.queue ++ s.bist.run, q.idx ≠ i.val) ∧ 8 ≤ s.bist.queue.length ∧ s.tmr = [] :=
  ⟨.apc0, 14, 3, (setup []).setBist { queue := List.replicate 8 { idx := 9, kinds := 1 } }, by decide +kernel⟩

theorem test_SelfTest_4 : ∃ (r : Req) (i : Fin 32) (s : State), s.grants r aBIST_CMD true = true ∧ i.val < 17 ∧ s.bitAt aBIST_HELD i.val = true ∧ s.tmr = [] :=
  ⟨.apc0, 14, (setup [(⟨aBIST_HELD, 14, 1⟩, 1)]).setWardens [(14, { st := .absent })], by decide +kernel⟩

theorem test_SelfTest_5 : ∃ (r : Req) (i : Fin 32) (s : State), s.grants r aBIST_CMD true = true ∧ ((17 ≤ i.val ∨ s.bitAt aBIST_HELD i.val = false)) ∧ s.tmr = [] :=
  ⟨.apc0, 14, setup [], by decide +kernel⟩

theorem test_SelfTest_6 : ∃ (q : BReq) (s : State), s.bistGated = false ∧ s.isRun 15 = true ∧ s.bist.queue = [q] ∧ s.bist.run = [] ∧ s.bist.lastStart = none ∧ q.idx = 14 ∧ s.isRun 14 = true ∧ q.mw ≤ s.get fBIST_CFG_budget ∧ s.tmr = [] :=
  ⟨{ idx := 14, kinds := 3 }, (setup []).setBist { queue := [{ idx := 14, kinds := 3 }] }, by decide +kernel⟩

theorem test_SelfTest_7 : ∃ (q : BReq) (s : State), s.bistGated = false ∧ s.isRun 15 = true ∧ s.bist.queue = [q] ∧ s.bist.run = [] ∧ s.bist.lastStart = none ∧ ((q.idx = 9 ∨ q.idx = 10)) ∧ s.isRun q.idx = true ∧ s.allSafe = false ∧ q.mw ≤ s.get fBIST_CFG_budget ∧ s.tmr = [] :=
  ⟨{ idx := 9, kinds := 1 }, (setup [(fLEG_CFG_en 3, 1)]).setBist { queue := [{ idx := 9, kinds := 1 }] }, by decide +kernel⟩

theorem test_SelfTest_8 : ∃ (s : State), s.bistGated = true :=
  ⟨setup [(fHPM_SUP_STAT_epi, 1)], by decide +kernel⟩

theorem test_SelfTest_9 : ∃ (i : Fin 17) (res : Nat) (s : State), s.bist.run = [{ idx := i.val, kinds := 2 }] ∧ (s.warden i.val).st = .absent ∧ (s.warden i.val).purpose = .test ∧ res ≠ 3 ∧ s.tmr = [] :=
  ⟨14, 0, ((setup []).setBist { run := [{ idx := 14, kinds := 2 }] }).setWardens [(14, { st := .absent, purpose := .test })], by decide +kernel⟩

theorem test_SelfTest_10 : ∃ (i : Fin 16) (s : State), s.bist.run = [{ idx := i.val, kinds := 2 }] ∧ (s.warden i.val).st = .absent ∧ (s.warden i.val).purpose = .test ∧ s.tmr = [] :=
  ⟨14, ((setup []).setBist { run := [{ idx := 14, kinds := 2 }] }).setWardens [(14, { st := .absent, purpose := .test })], by decide +kernel⟩

theorem test_SelfTest_11 : ∃ (i : Fin 17) (s : State), s.bist.run = [{ idx := i.val, kinds := 1 }] ∧ (s.warden i.val).st = .absent ∧ (s.warden i.val).purpose = .test ∧ s.tmr = [] :=
  ⟨14, ((setup []).setBist { run := [{ idx := 14, kinds := 1 }] }).setWardens [(14, { st := .absent, purpose := .test })], by decide +kernel⟩

theorem test_SelfTest_12 : ∃ (i : Fin 32) (s : State), (∀ q ∈ s.bist.run, q.idx ≠ i.val) :=
  ⟨14, setup [], by decide +kernel⟩

end Sys2Proof.Tests
end

section
/-! PROOFS. Bits of words: masks, merged words, and fields compared bit by bit. -/
namespace Sys2Proof.Proofs
open Sys2Proof Sys2Proof.Machine Sys2Proof.Laws

theorem getLsbD_mask (lo w i : Nat) : (Word.mask lo w).getLsbD i = decide (lo ≤ i ∧ i < lo + w ∧ i < 32) := by
  unfold Word.mask
  rw [BitVec.getLsbD_ofNat, Nat.testBit_mul_two_pow, Nat.testBit_two_pow_sub_one, Bool.eq_iff_iff]
  simp only [Bool.and_eq_true, decide_eq_true_eq]
  omega

/-- A merged word has the new word's bits where the mask has ones, and the old one's elsewhere. -/
theorem getLsbD_merge (m o n : Word) (i : Nat) :
    (Word.merge m o n).getLsbD i = if m.getLsbD i then n.getLsbD i else o.getLsbD i := by
  unfold Word.merge
  simp only [BitVec.getLsbD_or, BitVec.getLsbD_and, BitVec.getLsbD_not]
  by_cases hi : i < 32
  · cases m.getLsbD i <;> simp [hi]
  · simp [BitVec.getLsbD_of_ge _ i (Nat.not_lt.mp hi)]

@[simp] theorem merge_zero (o n : Word) : Word.merge 0 o n = o :=
  BitVec.eq_of_getLsbD_eq fun i _ => by simp [getLsbD_merge]

/-- A field is determined by its bits. -/
theorem fld_congr {x y : Word} {lo w : Nat} (h : ∀ i, lo ≤ i → i < lo + w → x.getLsbD i = y.getLsbD i) :
    x.fld lo w = y.fld lo w := by
  refine Nat.eq_of_testBit_eq fun i => ?_
  rw [fld_testBit, fld_testBit]
  by_cases hi : i < w
  · rw [h _ (by omega) (by omega)]
  · simp [hi]

theorem fld_lt (x : Word) (lo w : Nat) : x.fld lo w < 2 ^ w := Nat.mod_lt _ (Nat.two_pow_pos w)

/-- A field of one bit is that bit. -/
theorem fld_one (x : Word) (i : Nat) : x.fld i 1 = (x.getLsbD i).toNat := by
  unfold Word.fld BitVec.getLsbD
  rw [Nat.testBit_eq_decide_div_mod_eq, pow_one]
  rcases Nat.mod_two_eq_zero_or_one (x.toNat / 2 ^ i) with h | h <;> simp [h]

/-- The bits of the field in [31:16] that selects the bits of a masked write. -/
theorem getLsbD_selected (d : Word) {i : Nat} (h : i < 16) :
    (BitVec.ofNat 32 (d.fld 16 16)).getLsbD i = d.getLsbD (16 + i) := by
  rw [BitVec.getLsbD_ofNat, fld_testBit]
  simp [h, show i < 32 by omega]

/-- A mask of fields has a one where some field that satisfies the condition has a bit. -/
theorem getLsbD_fieldMask (c : FieldSpec → Bool) (l : List FieldSpec) (i : Nat) :
    (fieldMask c l).getLsbD i = l.any (fun f => c f && (Word.mask f.lo (f.hi - f.lo + 1)).getLsbD i) := by
  have key : ∀ (l : List FieldSpec) (m : Word),
      (l.foldl (fun m f => if c f then m ||| Word.mask f.lo (f.hi - f.lo + 1) else m) m).getLsbD i =
        (m.getLsbD i || l.any (fun f => c f && (Word.mask f.lo (f.hi - f.lo + 1)).getLsbD i)) := by
    intro l
    induction l with
    | nil => simp
    | cons f r ih =>
      intro m
      rw [List.foldl_cons, ih, List.any_cons]
      cases c f <;> simp [Bool.or_assoc]
  unfold fieldMask
  rw [key]
  simp

theorem fieldMask_eq_zero {c : FieldSpec → Bool} {l : List FieldSpec} (h : ∀ f ∈ l, c f = false) : fieldMask c l = 0 := by
  refine BitVec.eq_of_getLsbD_eq fun i _ => ?_
  rw [getLsbD_fieldMask, show (0 : Word).getLsbD i = false from BitVec.getLsbD_zero, List.any_eq_false]
  intro f hf
  simp [h f hf]

/-- A field that satisfies the condition has all its bits in the mask. -/
theorem getLsbD_fieldMask_of_mem {c : FieldSpec → Bool} {l : List FieldSpec} {f : FieldSpec} (hf : f ∈ l) (hc : c f = true)
    {i : Nat} (hlo : f.lo ≤ i) (hhi : i ≤ f.hi) (h32 : i < 32) : (fieldMask c l).getLsbD i = true := by
  rw [getLsbD_fieldMask, List.any_eq_true]
  refine ⟨f, hf, ?_⟩
  rw [hc, getLsbD_mask, Bool.true_and, decide_eq_true_eq]
  omega

end Sys2Proof.Proofs
end

section
/-! PROOFS. Memory: what a byte reads as after bytes were stored (01_register_pages.md R13). -/
namespace Sys2Proof.Proofs
open Sys2Proof Sys2Proof.Machine Sys2Proof.Laws

theorem read_write (m : List Host.Cell) (a x : Nat) (v : Byte) :
    Memory.read (Memory.write m a v) x = if a = x then v else Memory.read m x := by
  unfold Memory.read Memory.write
  by_cases hx : a = x
  · subst hx
    split
    · rename_i hv; simp [find_del_same, hv]
    · simp [find_ins_same]
  · rw [if_neg hx]
    split
    · rw [find_del_ne _ hx]
    · rw [find_ins_ne _ _ hx]

/-- A list of bytes stored from an address on: its bytes are read there, and elsewhere memory is as before. -/
theorem read_memBytes (s : State) (a : Nat) (bs : List Byte) (x : Nat) :
    Memory.read (s.memBytes a bs).mem x =
      if a ≤ x ∧ x < a + bs.length then bs.getD (x - a) 0 else Memory.read s.mem x := by
  show Memory.read ((bs.zipIdx a).foldl (fun m (v, i) => Memory.write m i v) s.mem) x = _
  generalize s.mem = m
  induction bs generalizing a m with
  | nil => rw [if_neg (by simp only [List.length_nil]; omega)]; rfl
  | cons v r ih =>
    rw [List.zipIdx_cons, List.foldl_cons, ih, List.length_cons]
    by_cases hx : a = x
    · subst hx
      rw [if_neg (by omega), if_pos (by omega), read_write, if_pos rfl, Nat.sub_self]
      rfl
    · rw [read_write, if_neg hx]
      by_cases hin : a + 1 ≤ x ∧ x < a + 1 + r.length
      · rw [if_pos hin, if_pos (by omega), show x - a = (x - (a + 1)) + 1 by omega]
        rfl
      · rw [if_neg hin, if_neg (by omega)]

/-- A word is stored as its four bytes. -/
theorem memPut_eq_memBytes (s : State) (a : Nat) (v : Word) : s.memPut a v = s.memBytes a (wordBytes v) := by
  simp [State.memPut, State.memBytes, wordBytes]

@[simp] theorem memBytes_rd (s : State) (a : Nat) (bs : List Byte) (x : Nat) : (s.memBytes a bs).rd x = s.rd x := rfl

end Sys2Proof.Proofs
end

section
/-! PROOFS. What an access leaves as it was: the fabric's part of it, the answer to the requester, the error event of a refused one
(01_register_pages.md R15, R16, R18; 02_islands_and_credits.md R47, R68). -/
namespace Sys2Proof.Proofs
open Sys2Proof Sys2Proof.Machine Sys2Proof.Laws

/-- A request changes the links and the wardens of the fabric, nothing else. -/
theorem fabUse_eq (q i c : Nat) (s : State) : ∃ l w, fabUse q i c s = (s.setLinks l).setWardens w := by
  unfold fabUse
  by_cases h : linkDepth q i c = 0
  · simp only [h, if_true]; exact ⟨s.links, _, rfl⟩
  · simp only [h, if_false]; exact ⟨_, _, rfl⟩

@[simp] theorem fabUse_rd (q i c : Nat) (s : State) (a : Nat) : (fabUse q i c s).rd a = s.rd a := by
  obtain ⟨l, w, h⟩ := fabUse_eq q i c s; rw [h]; rfl
@[simp] theorem fabUse_mem (q i c : Nat) (s : State) : (fabUse q i c s).mem = s.mem := by
  obtain ⟨l, w, h⟩ := fabUse_eq q i c s; rw [h]; rfl
@[simp] theorem fabUse_bnd (q i c : Nat) (s : State) : (fabUse q i c s).bnd = s.bnd := by
  obtain ⟨l, w, h⟩ := fabUse_eq q i c s; rw [h]; rfl
@[simp] theorem fabUse_cmt (q i c : Nat) (s : State) : (fabUse q i c s).cmt = s.cmt := by
  obtain ⟨l, w, h⟩ := fabUse_eq q i c s; rw [h]; rfl
@[simp] theorem fabUse_tmr (q i c : Nat) (s : State) : (fabUse q i c s).tmr = s.tmr := by
  obtain ⟨l, w, h⟩ := fabUse_eq q i c s; rw [h]; rfl
@[simp] theorem fabUse_now (q i c : Nat) (s : State) : (fabUse q i c s).now = s.now := by
  obtain ⟨l, w, h⟩ := fabUse_eq q i c s; rw [h]; rfl
@[simp] theorem fabUse_frames (q i c : Nat) (s : State) : (fabUse q i c s).frames = s.frames := by
  obtain ⟨l, w, h⟩ := fabUse_eq q i c s; rw [h]; rfl
@[simp] theorem fabUse_on (q i c : Nat) (s : State) (f : Fld) : (fabUse q i c s).on f = s.on f := by
  obtain ⟨l, w, h⟩ := fabUse_eq q i c s; rw [h]; rfl

/-- A request leaves every warden in its state. -/
@[simp] theorem fabUse_isRun (q i c : Nat) (s : State) (j : Nat) : (fabUse q i c s).isRun j = s.isRun j := by
  have key : ∀ (t : State) (g : Bool) (n : Nat),
      (t.putWarden i { t.warden i with gated := g, idle := n }).isRun j = t.isRun j := by
    intro t g n
    show decide ((Tab.get {} (Tab.set {} t.wardens i _) j).st = .run) = decide ((Tab.get {} t.wardens j).st = .run)
    rw [get_set]
    split
    · rename_i h; subst h; rfl
    · rfl
  unfold fabUse
  rw [key]
  split <;> rfl

@[simp] theorem granted_rd (s : State) (r : Req) (b : Block) (a : Nat) : (s.granted r b).rd a = s.rd a := by simp [State.granted]
@[simp] theorem granted_mem (s : State) (r : Req) (b : Block) : (s.granted r b).mem = s.mem := by simp [State.granted]
@[simp] theorem granted_bnd (s : State) (r : Req) (b : Block) : (s.granted r b).bnd = s.bnd := by simp [State.granted]
@[simp] theorem granted_cmt (s : State) (r : Req) (b : Block) : (s.granted r b).cmt = s.cmt := by simp [State.granted]
@[simp] theorem granted_tmr (s : State) (r : Req) (b : Block) : (s.granted r b).tmr = s.tmr := by simp [State.granted]
@[simp] theorem granted_now (s : State) (r : Req) (b : Block) : (s.granted r b).now = s.now := by simp [State.granted]
@[simp] theorem granted_frames (s : State) (r : Req) (b : Block) : (s.granted r b).frames = s.frames := by simp [State.granted]
@[simp] theorem granted_on (s : State) (r : Req) (b : Block) (f : Fld) : (s.granted r b).on f = s.on f := by simp [State.granted]
@[simp] theorem granted_shows (s : State) (r : Req) (b : Block) (f : Fld) : (s.granted r b).shows f = s.shows f := by
  simp [State.shows]
@[simp] theorem granted_isRun (s : State) (r : Req) (b : Block) (j : Nat) : (s.granted r b).isRun j = s.isRun j :=
  fabUse_isRun _ _ _ s j

/-- A request moves no frame of a block. -/
@[simp] theorem granted_frameDue (s : State) (r : Req) (b c : Block) : (s.granted r b).frameDue c = s.frameDue c := by
  simp [State.frameDue, State.framed]

/-- A granted access to an address of a block runs on the state the fabric has granted it. -/
theorem access_of_grants_at {s : State} {r : Req} {a : Nat} {wr : Bool} {b : Block} (h : s.grants r a wr = true)
    (hb : blockAt a = some b) (k : State → State) : access r a wr k s = k (s.granted r b) := by
  obtain ⟨c, hc, he⟩ := access_of_grants h k
  rw [hb] at hc
  cases hc
  exact he

@[simp] theorem busOk_kind (r : Req) (d : Word) (s : State) : (busOk r d s).bus.kind = .ok := rfl
@[simp] theorem busOk_data (r : Req) (d : Word) (s : State) : (busOk r d s).bus.data = d := rfl
@[simp] theorem busOk_who (r : Req) (d : Word) (s : State) : (busOk r d s).bus.who = r := rfl

@[simp] theorem busFault_kind (r : Req) (a : Nat) (k : ReplyKind) (s : State) : (busFault r a k s).bus.kind = k := by
  cases r <;> rfl

/-- Memory and the shadows hold what they held, and so does every register but those of a list: what a refused access keeps. -/
structure KeepsBut (l : List Nat) (s t : State) : Prop where
  mem : t.mem = s.mem
  cmt : t.cmt = s.cmt
  bnd : t.bnd = s.bnd
  regs : OnlyRegs l s t

theorem KeepsBut.refl (l : List Nat) (s : State) : KeepsBut l s s := ⟨rfl, rfl, rfl, OnlyRegs.refl l s⟩

theorem KeepsBut.wr {l : List Nat} {s t : State} (h : KeepsBut l s t) {a : Nat} (ha : a ∈ l) (v : Word) :
    KeepsBut l s (t.wr a v) := ⟨h.mem, h.cmt, h.bnd, onlyRegs_wr v ha h.regs⟩

theorem KeepsBut.fabUse {l : List Nat} {s t : State} (h : KeepsBut l s t) (q i c : Nat) : KeepsBut l s (fabUse q i c t) := by
  obtain ⟨x, w, e⟩ := fabUse_eq q i c t
  rw [e]
  exact ⟨h.mem, h.cmt, h.bnd, h.regs⟩

/-- An error event changes ERR and IRQ_RAW of its block, and Sage's inbox (R17, R29). -/
theorem KeepsBut.errEvent {l : List Nat} {s t : State} (h : KeepsBut l s t) (b : Block) (i : Nat) (he : hdr b + 0x1C ∈ l)
    (hr : hdr b + 0x10 ∈ l) : KeepsBut l s (errEvent b i t) := by
  have key : KeepsBut l s (t.errSet (hdr b) i) := by
    unfold State.errSet
    split
    · exact h
    · exact (h.wr he _).wr hr _
  exact ⟨key.mem, key.cmt, key.bnd, key.regs⟩

theorem KeepsBut.busFault {l : List Nat} {s t : State} (h : KeepsBut l s t) (r : Req) (a : Nat) (k : ReplyKind) :
    KeepsBut l s (busFault r a k t) := ⟨h.mem, h.cmt, h.bnd, h.regs⟩

theorem KeepsBut.fabAbsent {l : List Nat} {s t : State} (h : KeepsBut l s t) {i : Nat} (hi : aFAB_ABSENT_CNT i ∈ l) :
    KeepsBut l s (fabAbsent i t) := h.wr hi _

/-- ERR and IRQ_RAW of a block: the registers a refused access may change. -/
def errRegs (b : Block) : List Nat := [hdr b + 0x1C, hdr b + 0x10]

/-- What the island of a block refuses as an undefined access is refused with the error event of the block (R15). -/
theorem keepsBut_refusal (r : Req) (b : Block) (a i : Nat) (s : State) :
    KeepsBut (errRegs b) s (busFault r a .refused (errEvent b i (fabUse (reqIsland r) (blockIsland b) 0 s))) :=
  (((KeepsBut.refl _ s).fabUse _ _ _).errEvent b i (by simp [errRegs]) (by simp [errRegs])).busFault r a .refused

theorem keepsBut_absence (r : Req) (b : Block) (a : Nat) (s : State) :
    KeepsBut [aFAB_ABSENT_CNT (blockIsland b)] s (busFault r a .absent (fabAbsent (blockIsland b) s)) :=
  ((KeepsBut.refl _ s).fabAbsent (by simp)).busFault r a .absent

/-- A register access that is refused answers a fault and changes nothing but the error flags of the block. -/
theorem access_refused {s : State} {r : Req} {b : Block} {a : Nat} {wr : Bool} (hb : blockAt a = some b)
    (h : s.verdict r b a wr = .denied ∨ s.verdict r b a wr = .undefined) (k : State → State) :
    (access r a wr k s).bus.kind = .refused ∧ KeepsBut (errRegs b) s (access r a wr k s) := by
  unfold access
  rw [hb]
  obtain h | h := h
  · simp only [h]
    refine ⟨busFault_kind _ _ _ _, ?_⟩
    split
    · exact keepsBut_refusal r b a 4 s
    · exact ((KeepsBut.refl _ s).fabUse _ _ _).busFault r a .refused
  · simp only [h]
    exact ⟨busFault_kind _ _ _ _, keepsBut_refusal r b a 4 s⟩

/-- An access to a block whose island is not in RUN is answered ABSENT, and that is counted. -/
theorem access_absent {s : State} {r : Req} {b : Block} {a : Nat} {wr : Bool} (hb : blockAt a = some b)
    (h : s.verdict r b a wr = .absent) (k : State → State) :
    access r a wr k s = busFault r a .absent (fabAbsent (blockIsland b) s) := by
  unfold access
  rw [hb]
  simp only [h]

/-- An island in RUN does not answer ABSENT. -/
theorem verdict_ne_absent {s : State} {b : Block} (h : s.isRun (blockIsland b) = true) (r : Req) (a : Nat) (wr : Bool) :
    s.verdict r b a wr ≠ .absent := by
  unfold State.verdict
  rw [h]
  simp only [Bool.not_true, Bool.false_and, Bool.false_eq_true, if_false]
  split_ifs <;> simp

end Sys2Proof.Proofs
end

section
/-! PROOFS. Stores: what a write leaves in the register and in the shadow of the commit (01_register_pages.md R9, R10, R20 to R23, R27). -/
namespace Sys2Proof.Proofs
open Sys2Proof Sys2Proof.Machine Sys2Proof.Laws

/-- A register holds a value; every other register, memory, the shadows and the copies are as they were. -/
structure SetsReg (k : Nat) (v : Word) (s t : State) : Prop where
  rd : t.rd k = v
  regs : OnlyRegs [k] s t
  mem : t.mem = s.mem
  bnd : t.bnd = s.bnd
  cmt : t.cmt = s.cmt
  tmr : t.tmr = s.tmr

theorem SetsReg.refl (k : Nat) (s : State) : SetsReg k (s.rd k) s s := ⟨rfl, OnlyRegs.refl _ s, rfl, rfl, rfl, rfl⟩

theorem SetsReg.wr (k : Nat) (v : Word) (s : State) : SetsReg k v s (s.wr k v) :=
  ⟨rd_wr_same s k v, onlyRegs_wr v (by simp) (OnlyRegs.refl _ s), rfl, rfl, rfl, rfl⟩

theorem SetsReg.trans {k : Nat} {v w : Word} {s t u : State} (h : SetsReg k v s t) (g : SetsReg k w t u) : SetsReg k w s u :=
  ⟨g.rd, fun a ha => (g.regs a ha).trans (h.regs a ha), g.mem.trans h.mem, g.bnd.trans h.bnd, g.cmt.trans h.cmt, g.tmr.trans h.tmr⟩

/-- A write that spoils the pass of a running CRC changes no register by that (R31). -/
theorem SetsReg.crcTouch (k a : Nat) (s : State) : SetsReg k (s.rd k) s (crcTouch a s) := by
  have drop : SetsReg k (s.rd k) s (crcDrop a s) := by
    unfold crcDrop
    split
    · split
      · exact ⟨rfl, OnlyRegs.refl _ s, rfl, rfl, rfl, rfl⟩
      · exact .refl k s
    · exact .refl k s
  unfold Machine.crcTouch
  split
  · split
    · exact drop
    · exact .refl k s
  · exact .refl k s

/-- Where no copies differ, a poke is a write of the register. -/
theorem SetsReg.poke {s : State} (h : s.tmr = []) (k : Nat) (m v : Word) :
    SetsReg k (Word.merge m (s.rd k) v) s (Machine.poke k m v s) := by
  have e : Machine.poke k m v s = s.wr k (Word.merge m (s.rd k) v) := by
    unfold Machine.poke
    simp [h, Tab.find]
  rw [e]
  exact .wr k _ s

/-- A field of the register that was set shows its part of the value. -/
theorem SetsReg.shows {k : Nat} {v : Word} {s t : State} (h : SetsReg k v s t) (lo w : Nat) : t.shows ⟨k, lo, w⟩ = v.fld lo w := by
  unfold State.shows
  rw [h.rd]

/-- Where no copies differ, another register's fields are what they were for the device too. -/
theorem SetsReg.on_of_ne {k : Nat} {v : Word} {s t : State} (h : SetsReg k v s t) {f : Fld} (hf : f.addr ≠ k) : t.on f = s.on f := by
  unfold State.on State.get State.use
  rw [h.tmr, h.regs f.addr (by simpa using hf)]

/-- The bits of the fields that are cleared by writing 1. -/
def w1cMask (g : RegSpec) : Word := fieldMask (fun f => decide (f.acc = .w1c)) g.fields

/-- The bits a write changes of the fields that take effect in a given way. -/
def effMask (e : Effect) (g : RegSpec) (d : Word) : Word :=
  fieldMask (fun f => f.acc.writable && decide (f.eff = e)) g.fields &&& selMask g d

/-- A register holds this once a word was stored: the bits of immediate fields are the word's, W1C bits written 1 are 0. -/
def stored (g : RegSpec) (a : Nat) (d cur : Word) : Word :=
  Word.merge (effMask .imm g d) (cur &&& ~~~(d &&& w1cMask g)) (dataWord g a d cur)

/-- A store to a register that has no boundary field: the register takes what is immediate, and what commits goes to the shadow, or is
refused while a commit waits. -/
theorem storeAt_of_noBnd {s : State} {a : Nat} {g : RegSpec} (key : Nat) (d : Word) (hg : specAt a = some g) (hs : s.tmr = [])
    (hb : effMask .bnd g d = 0) :
    ∃ t, SetsReg key (stored g a d (s.rd key)) s t ∧ storeAt key a d s =
      if effMask .cmt g d = 0 then t
      else if t.cmtWaits a then (match blockAt a with | some b => errEvent b 5 t | none => t)
      else t.setCmt (Tab.set {} t.cmt key ((Tab.get {} t.cmt key).put (effMask .cmt g d) (dataWord g a d (s.rd key)))) := by
  have clear : SetsReg key (s.rd key &&& ~~~(d &&& w1cMask g)) s
      (if w1cMask g = 0 then s else s.wr key (s.rd key &&& ~~~(d &&& w1cMask g))) := by
    split
    · rename_i h
      have e : s.rd key &&& ~~~(d &&& w1cMask g) = s.rd key := by
        rw [h, show d &&& (0 : Word) = 0#32 from BitVec.and_zero, BitVec.not_zero, BitVec.and_allOnes]
      rw [e]
      exact .refl key s
    · exact .wr key _ s
  generalize hs1 : (if w1cMask g = 0 then s else s.wr key (s.rd key &&& ~~~(d &&& w1cMask g))) = s1 at clear
  have imm : SetsReg key (stored g a d (s.rd key)) s1
      (if effMask .imm g d = 0 then s1 else crcTouch a (poke key (effMask .imm g d) (dataWord g a d (s.rd key)) s1)) := by
    unfold stored
    rw [← clear.rd]
    split
    · rename_i h
      rw [h, merge_zero]
      exact .refl key s1
    · have p := SetsReg.poke (clear.tmr.trans hs) key (effMask .imm g d) (dataWord g a d (s.rd key))
      have c := SetsReg.crcTouch key a (poke key (effMask .imm g d) (dataWord g a d (s.rd key)) s1)
      rw [p.rd] at c
      exact p.trans c
  refine ⟨_, clear.trans imm, ?_⟩
  rw [← hs1]
  unfold storeAt
  rw [hg]
  unfold effMask at hb
  simp only [hb, if_true]
  rfl

/-- A store to a register all of whose writable fields are immediate. -/
theorem setsReg_storeAt {s : State} {a : Nat} {g : RegSpec} (key : Nat) (d : Word) (hg : specAt a = some g) (hs : s.tmr = [])
    (hi : ∀ f ∈ g.fields, f.acc.writable = true → f.eff = .imm) :
    SetsReg key (stored g a d (s.rd key)) s (storeAt key a d s) := by
  have none_ : ∀ e, e ≠ .imm → effMask e g d = 0 := by
    intro e he
    have z : fieldMask (fun f => f.acc.writable && decide (f.eff = e)) g.fields = 0 := by
      refine fieldMask_eq_zero fun f hf => ?_
      cases hw : f.acc.writable with
      | false => rfl
      | true => simp [hi f hf hw, he.symm]
    unfold effMask
    rw [z]
    exact BitVec.zero_and
  obtain ⟨t, ht, e⟩ := storeAt_of_noBnd key d hg hs (none_ .bnd (by decide))
  rw [e, if_pos (none_ .cmt (by decide))]
  exact ht

/-- What the bits of W1C fields that hardware sets in the cycle of a write come to (R27). -/
theorem setsReg_keepSet {s : State} {a : Nat} {g : RegSpec} (r : Req) (hw : Word) (hg : specAt a = some g)
    (ha : ¬(0x40051000 ≤ a ∧ a < 0x40052000)) :
    SetsReg a (s.rd a ||| (hw &&& w1cMask g)) s (keepSet r a hw s) := by
  have hk : s.keyAt r a = a := by
    unfold State.keyAt
    rw [if_neg (by simpa using ha)]
  unfold keepSet
  rw [hg]
  show SetsReg a _ s (if hw &&& w1cMask g = 0 then s else s.wr (s.keyAt r a) (s.rd (s.keyAt r a) ||| (hw &&& w1cMask g)))
  rw [hk]
  split
  · rename_i h
    rw [h]
    simpa using SetsReg.refl a s
  · exact .wr a _ s

/-- Without a W1C field, nothing stays set. -/
theorem keepSet_of_noW1c {a : Nat} {g : RegSpec} (r : Req) (hw : Word) (s : State) (hg : specAt a = some g)
    (h : ∀ f ∈ g.fields, f.acc ≠ .w1c) : keepSet r a hw s = s := by
  have z : fieldMask (fun f => decide (f.acc = .w1c)) g.fields = 0 := fieldMask_eq_zero fun f hf => by simpa using h f hf
  unfold keepSet
  rw [hg]
  simp only [z]
  rw [if_pos (show hw &&& (0 : Word) = 0 from BitVec.and_zero)]

theorem voteReg_of_agree {s : State} (h : s.tmr = []) (a : Nat) : voteReg a s = s := by
  unfold voteReg
  rw [h]
  rfl

/-- A write outside the pages of groups and legs, in a tick without a frame of its block, reaches its register at once. -/
theorem regArrive_eq {s : State} {b : Block} {a : Nat} (r : Req) (d hw : Word) (hf : s.frameDue b = none) (ht : tbgAt a = none)
    (hl : legAt a = none) : regArrive r b a d hw s = keepSet r a hw (regWrite r b a d s) := by
  unfold regArrive frameFirst handFirst
  rw [hf, ht, hl]

end Sys2Proof.Proofs
end

section
/-! PROOFS. O14: reads of registers and of SRAM. -/
namespace Sys2Proof.Proofs
open Sys2Proof Sys2Proof.Machine Sys2Proof.Laws

theorem runs_readClear {r : Req} {a : Nat} {sz : AccSize} {ev : Option Word} {s : State} {P : State → Prop}
    (h : P (readAt r a sz ev s)) : Runs (.readClear r ⟨a, sz⟩ ev) s P := ⟨_, rfl, h⟩

/-- SRAM lies below the peripheral pages. -/
theorem blockAt_sram {a : Nat} (hi : a < 0x20400000) : blockAt a = none := by
  unfold blockAt
  rw [if_pos (by omega)]

theorem regionAt_sram {a : Nat} (lo : 0x20000000 ≤ a) (hi : a < 0x20400000) : regionAt a = .sram := by
  unfold regionAt
  simp only [Bool.and_eq_true, decide_eq_true_eq]
  repeat rw [if_neg (by omega)]
  rw [if_pos ⟨lo, hi⟩]

theorem islandAt_sram {a : Nat} (lo : 0x20000000 ≤ a) (hi : a < 0x20400000) : islandAt a = 1 := by
  unfold islandAt
  rw [blockAt_sram hi]
  simp only [Bool.and_eq_true, decide_eq_true_eq]
  rw [if_neg (by omega), if_neg (by omega)]

theorem accBytes_bounds (sz : AccSize) : 1 ≤ accBytes sz ∧ accBytes sz ≤ 4 := by cases sz <;> decide

theorem regionAt_sram_end {a : Nat} (sz : AccSize) (lo : 0x20000000 ≤ a) (hi : a + 3 < 0x20400000) :
    regionAt (a + accBytes sz - 1) = .sram := by
  obtain ⟨h1, h4⟩ := accBytes_bounds sz
  exact regionAt_sram (by omega) (by omega)

theorem apc_mayRead_sram {r : Req} (h : r = .apc0 ∨ r = .apc1) : mayRead r .sram = true := by
  obtain rfl | rfl := h <;> rfl

/-- A read of SRAM by an APC pair answers the bytes that stand there (R13). -/
theorem readAt_sram {r : Req} {a : Nat} {s : State} (sz : AccSize) (ev : Option Word) (hr : r = .apc0 ∨ r = .apc1)
    (lo : 0x20000000 ≤ a) (hi : a + 3 < 0x20400000) (run : s.isRun 1 = true) :
    readAt r a sz ev s =
      busOk r (BitVec.ofNat 32 ((s.mem32 a).toNat % 2 ^ (8 * accBytes sz))) (fabUse (reqIsland r) 1 0 s) := by
  unfold readAt readMem
  simp [blockAt_sram (show a < 0x20400000 by omega), regionAt_sram lo (by omega), regionAt_sram_end sz lo hi,
    islandAt_sram lo (by omega), apc_mayRead_sram hr, run]

/-- Where no copies differ, the device uses what the register holds. -/
theorem use_of_agree {s : State} (h : s.tmr = []) (a : Nat) : s.use a = s.rd a := by
  unfold State.use
  rw [h]
  rfl

/-- ENG_LOAD_PEAK shows what it holds: no other state stands behind it (03_basil_control_engine.md R112). -/
theorem view_loadPeak {s : State} (h : s.tmr = []) (r : Req) : s.view r .eng aENG_LOAD_PEAK = s.rd aENG_LOAD_PEAK := by
  rw [← use_of_agree h]
  rfl

/-- A read of ENG_LOAD_PEAK answers its value, and leaves the value of an event of the same cycle, or 0 (R27). -/
theorem readReg_loadPeak {s : State} (h : s.tmr = []) (r : Req) (ev : Option Word) :
    readReg r .eng aENG_LOAD_PEAK ev s = (busOk r (s.rd aENG_LOAD_PEAK) s).put fENG_LOAD_PEAK_peak
      (match ev with | some v => v.fld 0 24 | none => 0) := by
  unfold readReg
  rw [voteReg_of_agree h]
  conv_rhs => rw [← view_loadPeak h r]
  rfl

theorem shows_put_loadPeak (s : State) {x : Nat} (h : x < 2 ^ 24) :
    (s.put fENG_LOAD_PEAK_peak x).shows fENG_LOAD_PEAK_peak = x := by
  have e : (s.put fENG_LOAD_PEAK_peak x).shows fENG_LOAD_PEAK_peak = x % 2 ^ 24 := shows_put _ _ _ (by decide)
  rw [e, Nat.mod_eq_of_lt h]

/-- The peak an event brings, or 0, fits its field. -/
theorem peak_lt (ev : Option Word) : (match ev with | some v => v.fld 0 24 | none => 0) < 2 ^ 24 := by
  cases ev with
  | none => exact Nat.two_pow_pos 24
  | some v => exact fld_lt v 0 24

/-- Latching the time answers its low word, and changes the requester's own copies of the high word and of the fine ticks alone
(06_thyme_and_pwm.md R201). -/
theorem latchNow_spec (r : Req) (s : State) :
    (latchNow r s).bus.data = BitVec.ofNat 32 (s.now / 32) ∧
      (latchNow r s).rd (bank r aTHY_NOW_HI) = BitVec.ofNat 32 (s.now / 32 / 2 ^ 32) ∧
      (latchNow r s).rd (bank r aTHY_NOW_FINE) = BitVec.ofNat 32 (s.now % 32) ∧
      OnlyRegs [bank r aTHY_NOW_HI, bank r aTHY_NOW_FINE] s (latchNow r s) := by
  have ne : bank r aTHY_NOW_FINE ≠ bank r aTHY_NOW_HI := by simp [bank, aTHY_NOW_FINE, aTHY_NOW_HI]
  unfold latchNow
  refine ⟨rfl, ?_, ?_, ?_⟩
  · rw [busOk_rd, rd_wr_ne _ _ ne, rd_wr_same]
  · rw [busOk_rd, rd_wr_same]
  · intro a ha
    rw [busOk_rd]
    exact onlyRegs_wr _ (by simp) (onlyRegs_wr _ (by simp) (OnlyRegs.refl _ s)) a ha

/-- Settles O14: the value is answered before the read clears its field, a read of SRAM writes nothing, and a read of the low word of Thyme
is the latch of the requester's copies. -/
theorem registerRead : Obligations.RegisterRead := by
  unfold Obligations.RegisterRead
  refine ⟨?loadPeak, ?sram, ?thyme⟩
  case loadPeak =>
    intro r ev s hg hs
    refine runs_readClear ?_
    have e : readAt r aENG_LOAD_PEAK .word ev s = readReg r .eng aENG_LOAD_PEAK ev (s.granted r .eng) :=
      access_of_grants_at hg rfl _
    rw [e, readReg_loadPeak (by simpa using hs), granted_rd]
    refine ⟨busOk_who _ _ _, busOk_kind _ _ _, busOk_data _ _ _, shows_put_loadPeak _ (peak_lt ev), ?_⟩
    exact onlyRegs_put _ (by simp) fun a _ => by simp
  case sram =>
    intro r a sz ev s hr lo hi run
    refine runs_readClear ?_
    rw [readAt_sram sz ev hr lo hi run]
    exact ⟨busOk_kind _ _ _, busOk_data _ _ _, by simp, fun x _ => by simp⟩
  case thyme =>
    intro r s hg
    refine ⟨latchNow r (s.granted r .thy), ?_, ?_⟩
    · show done _ = _
      rw [access_of_grants_at hg rfl]
      rfl
    · obtain ⟨hd, hh, hf, ho⟩ := latchNow_spec r (s.granted r .thy)
      rw [granted_now] at hd hh hf
      exact ⟨hd, hh, hf, fun a ha => (ho a ha).trans (granted_rd s r .thy a)⟩

end Sys2Proof.Proofs
end

section
/-! PROOFS. What the register map says of the header registers IRQ_RAW and IRQ_EN, and of the registers of the ADC (01_register_pages.md
R14, R17; 12_analog_acquisition.md). -/
namespace Sys2Proof.Proofs
open Sys2Proof Sys2Proof.Machine Sys2Proof.Laws

/-- The registers of a header page belong to its block. -/
theorem blockAt_hdr (b : Block) {o : Nat} (ho : o < 0x1000) : blockAt (hdr b + o) = some b := by
  generalize ha : hdr b + o = a
  unfold blockAt
  cases b with
  | adc u =>
    dsimp only [hdr] at ha
    have hu : (a - 0x40070000) / 0x1000 = u.val := by omega
    repeat rw [if_neg (by omega)]
    rw [if_pos (by omega)]
    simp [hu]
  | can c =>
    dsimp only [hdr] at ha
    have hc : (a - 0x400A0000) / 0x1000 = c.val := by omega
    repeat rw [if_neg (by omega)]
    rw [if_pos (by omega)]
    simp [hc]
  | _ =>
    dsimp only [hdr] at ha
    repeat rw [if_neg (by omega)]
    rw [if_pos (by omega)]

/-- No header page lies among the pages of groups and legs, or in a context window. -/
theorem hdr_apart (b : Block) {o : Nat} (ho : o < 0x1000) :
    tbgAt (hdr b + o) = none ∧ legAt (hdr b + o) = none ∧ ¬(0x40051000 ≤ hdr b + o ∧ hdr b + o < 0x40052000) := by
  unfold tbgAt legAt
  simp only [Bool.and_eq_true, decide_eq_true_eq]
  cases b <;> dsimp only [hdr] <;> refine ⟨if_neg (by omega), if_neg (by omega), by omega⟩

/-- IRQ_EN is a masked write of sixteen bits in every block (R17). -/
theorem specAt_irqEn (b : Block) : ∃ g, specAt (hdr b + 0x14) = some g ∧ g.fields = [⟨15, 0, .mw, .imm, 0⟩] := by
  refine Option.map_eq_some_iff.mp (?_ : (specAt (hdr b + 0x14)).map RegSpec.fields = some [⟨15, 0, .mw, .imm, 0⟩])
  cases b with
  | adc u => revert u; decide
  | can c => revert c; decide
  | _ => rfl

/-- IRQ_RAW has W1C fields only, in every block (R17). -/
theorem irqRaw_w1c {b : Block} {g : RegSpec} (hg : specAt (hdr b + 0x10) = some g) : ∀ f ∈ g.fields, f.acc = .w1c := by
  have key : (specAt (hdr b + 0x10)).all (fun g => g.fields.all (fun f => decide (f.acc = .w1c))) = true := by
    clear hg
    cases b with
    | adc u => revert u; decide
    | can c => revert c; decide
    | _ => rfl
  rw [hg] at key
  simpa using key

/-- No rule limits the values of IRQ_EN. -/
theorem storedWord_irqEn (b : Block) (d : Word) : storedWord (hdr b + 0x14) d = d := by
  cases b with
  | adc u => fin_cases u <;> rfl
  | can c => fin_cases c <;> rfl
  | _ => rfl

/-- A write in the header page of a CAN controller is a store. -/
theorem canPageWrite_header (r : Req) (c : Fin 4) {o : Nat} (ho : o < 0x40) (d : Word) (s : State) :
    canPageWrite r c.val (hdr (.can c) + o) d s = storeAt (hdr (.can c) + o) (hdr (.can c) + o) d s := by
  generalize ha : hdr (.can c) + o = a
  dsimp only [hdr] at ha
  have hi : idxAt (aCAN_MB_DATA c.val 0) 4 16 a = none := by
    unfold idxAt aCAN_MB_DATA
    rw [if_neg]
    simp only [Bool.and_eq_true, decide_eq_true_eq]
    omega
  have hk : a - canHdr c.val = o := by unfold canHdr; omega
  unfold canPageWrite aCAN_CMD aCAN_MB_CMD aCAN_MB_SEL
  rw [if_neg (by omega), if_neg (by omega), if_neg (by omega), hi]
  unfold canWrite
  simp only [hk, Bool.and_eq_true, decide_eq_true_eq]
  rw [if_neg (by omega), if_neg (by omega), if_neg (by omega), if_neg (by omega), if_neg (by omega)]

/-- A write to IRQ_RAW or IRQ_EN is a store: no block gives it another meaning. -/
theorem regWrite_irq {s : State} (hs : s.tmr = []) (r : Req) (b : Block) {o : Nat} (ho : o = 0x10 ∨ o = 0x14) (d : Word) :
    regWrite r b (hdr b + o) d s = storeAt (hdr b + o) (hdr b + o) d s := by
  unfold regWrite
  rw [voteReg_of_agree hs, if_neg (by omega), if_neg (by omega)]
  cases b with
  | can c => exact canPageWrite_header r c (by omega) d s
  | adc u => exact if_neg (by dsimp only [hdr, aADC_SWTRIG]; omega)
  | _ => obtain rfl | rfl := ho <;> rfl

/-- Every field of the register lies in its word, and two of them share no bit. -/
def FieldsApart (g : RegSpec) : Prop :=
  ∀ f ∈ g.fields, f.lo ≤ f.hi ∧ f.hi < 32 ∧ ∀ h ∈ g.fields, f = h ∨ f.hi < h.lo ∨ h.hi < f.lo

theorem adc_fieldsApart : ∀ g ∈ regsAdc, FieldsApart g := by
  unfold FieldsApart
  decide

/-- STAT of an ADC has fields a write does not change (R17). -/
theorem adc_stat_ro (n : Fin 4) : ∃ g, specAt (hdr (.adc n) + 0x0C) = some g ∧ ∃ f ∈ g.fields, f.acc = .ro := by
  have key : (specAt (hdr (.adc n) + 0x0C)).any (fun g => g.fields.any (fun f => decide (f.acc = .ro))) = true := by
    revert n; decide
  obtain ⟨g, hg, hf⟩ := Option.any_eq_true _ _ |>.mp key
  exact ⟨g, hg, by simpa using hf⟩

theorem mem_of_specIn {l : List RegSpec} {a : Nat} {g : RegSpec} (h : specIn l a = some g) : g ∈ l := by
  induction l with
  | nil => cases h
  | cons x r ih =>
    unfold specIn at h
    split at h
    · cases h; exact List.mem_cons_self
    · exact List.mem_cons_of_mem _ (ih h)

/-- The addresses at which an ADC answers. -/
theorem adc_span {a : Nat} {n : Fin 4} (h : blockAt a = some (.adc n)) : 0x40070000 ≤ a ∧ a < 0x40080000 := by
  unfold blockAt at h
  iterate 8 (obtain ⟨_, h⟩ | ⟨_, h⟩ := peel h; · cases h)
  obtain ⟨_, h⟩ | ⟨_, h⟩ := peel h
  · omega
  iterate 10 (obtain ⟨_, h⟩ | ⟨_, h⟩ := peel h; · cases h)
  cases h

/-- No page of an ADC lies among those of groups and legs. -/
theorem adc_apart {a : Nat} {n : Fin 4} (h : blockAt a = some (.adc n)) : tbgAt a = none ∧ legAt a = none := by
  obtain ⟨lo, hi⟩ := adc_span h
  unfold tbgAt legAt
  simp only [Bool.and_eq_true, decide_eq_true_eq]
  exact ⟨if_neg (by omega), if_neg (by omega)⟩

theorem mem_regsAdc {a : Nat} {n : Fin 4} {g : RegSpec} (hb : blockAt a = some (.adc n)) (hg : specAt a = some g) : g ∈ regsAdc := by
  obtain ⟨lo, hi⟩ := adc_span hb
  refine mem_of_specIn (a := a) ?_
  rw [← hg]
  unfold specAt spanRegs
  repeat rw [if_neg (by omega)]
  rw [if_pos (by omega)]

end Sys2Proof.Proofs
end

section
/-! PROOFS. What a store leaves in IRQ_RAW, in IRQ_EN, and in a register of plain fields: read-write ones that take effect at once or at a
commit (01_register_pages.md R9, R10, R17, R21). -/
namespace Sys2Proof.Proofs
open Sys2Proof Sys2Proof.Machine Sys2Proof.Laws

/-- Every field is read-write and takes effect at once or at a commit. -/
def PlainFields (g : RegSpec) : Prop :=
  ∀ f ∈ g.fields, (f.acc = .rw ∨ f.acc = .rwt) ∧ (f.eff = .cmt ∨ f.eff = .imm)

variable {g : RegSpec}

theorem PlainFields.writable (hp : PlainFields g) {f : FieldSpec} (hf : f ∈ g.fields) : f.acc.writable = true := by
  obtain ⟨h | h, -⟩ := hp f hf <;> rw [h] <;> rfl

theorem PlainFields.not_w1c (hp : PlainFields g) : ∀ f ∈ g.fields, f.acc ≠ .w1c := by
  intro f hf
  obtain ⟨h | h, -⟩ := hp f hf <;> rw [h] <;> decide

theorem PlainFields.no_mw (hp : PlainFields g) : g.fields.any (fun f => decide (f.acc = .mw)) = false := by
  rw [List.any_eq_false]
  intro f hf
  obtain ⟨h | h, -⟩ := hp f hf <;> rw [h] <;> decide

theorem w1cMask_eq_zero (h : ∀ f ∈ g.fields, f.acc ≠ .w1c) : w1cMask g = 0 :=
  fieldMask_eq_zero fun f hf => by simpa using h f hf

/-- A register without a W1C field keeps no bit back from a store. -/
theorem stored_of_noW1c (h : ∀ f ∈ g.fields, f.acc ≠ .w1c) (a : Nat) (d cur : Word) :
    stored g a d cur = Word.merge (effMask .imm g d) cur (dataWord g a d cur) := by
  unfold stored
  rw [w1cMask_eq_zero h, show d &&& (0 : Word) = 0#32 from BitVec.and_zero, BitVec.not_zero, BitVec.and_allOnes]

theorem PlainFields.dataWord_eq (hp : PlainFields g) (a : Nat) (d cur : Word) : dataWord g a d cur = storedWord a d := by
  unfold dataWord
  rw [hp.no_mw]
  exact if_neg Bool.false_ne_true

/-- The bits a write of a register of plain fields changes, by the way they take effect. -/
theorem PlainFields.getLsbD_effMask (hp : PlainFields g) (e : Effect) (d : Word) (i : Nat) :
    (effMask e g d).getLsbD i = (fieldMask (fun f => f.acc.writable && decide (f.eff = e)) g.fields).getLsbD i := by
  have sel : selMask g d = BitVec.allOnes 32 := by
    unfold selMask
    rw [hp.no_mw]
    rfl
  unfold effMask
  rw [sel, BitVec.and_allOnes]

theorem PlainFields.effMask_bnd (hp : PlainFields g) (d : Word) : effMask .bnd g d = 0 := by
  refine BitVec.eq_of_getLsbD_eq fun i _ => ?_
  rw [hp.getLsbD_effMask, fieldMask_eq_zero]
  intro f hf
  obtain ⟨-, h | h⟩ := hp f hf <;> simp [h]

/-- The bits of a field are among those of its effect. -/
theorem PlainFields.effMask_of_mem (hp : PlainFields g) (ha : FieldsApart g) (d : Word) {f : FieldSpec} (hf : f ∈ g.fields)
    {i : Nat} (hlo : f.lo ≤ i) (hhi : i ≤ f.hi) : (effMask f.eff g d).getLsbD i = true := by
  obtain ⟨-, h32, -⟩ := ha f hf
  rw [hp.getLsbD_effMask]
  exact getLsbD_fieldMask_of_mem hf (by simp [hp.writable hf]) hlo hhi (by omega)

/-- The bits of a field are not among those of another effect. -/
theorem PlainFields.effMask_of_ne (hp : PlainFields g) (ha : FieldsApart g) (d : Word) {f : FieldSpec} (hf : f ∈ g.fields)
    {e : Effect} (he : f.eff ≠ e) {i : Nat} (hlo : f.lo ≤ i) (hhi : i ≤ f.hi) : (effMask e g d).getLsbD i = false := by
  rw [hp.getLsbD_effMask, getLsbD_fieldMask, List.any_eq_false]
  intro h hh
  obtain ⟨-, -, apart⟩ := ha f hf
  have hne : h.eff = e → ¬(h.lo ≤ i ∧ i < h.lo + (h.hi - h.lo + 1)) := by
    intro heq
    obtain ⟨hle, -, -⟩ := ha h hh
    rcases apart h hh with rfl | hd | hd
    · exact absurd heq he
    · omega
    · omega
  simp only [getLsbD_mask, Bool.and_eq_true, decide_eq_true_eq, not_and]
  intro ⟨_, heq⟩ hl hw
  exact absurd ⟨hl, hw⟩ (hne heq)

/-- A field that takes effect at once holds the written word's part. -/
theorem PlainFields.fld_imm (hp : PlainFields g) (ha : FieldsApart g) (d cur v : Word) {f : FieldSpec} (hf : f ∈ g.fields)
    (he : f.eff = .imm) : (Word.merge (effMask .imm g d) cur v).fld f.lo (f.hi - f.lo + 1) = v.fld f.lo (f.hi - f.lo + 1) := by
  refine fld_congr fun i hlo hw => ?_
  obtain ⟨hle, -, -⟩ := ha f hf
  have hm := hp.effMask_of_mem ha d hf hlo (by omega)
  rw [he] at hm
  rw [getLsbD_merge, hm, if_pos rfl]

/-- A field that waits for a commit keeps its value. -/
theorem PlainFields.fld_keep (hp : PlainFields g) (ha : FieldsApart g) (d cur v : Word) {f : FieldSpec} (hf : f ∈ g.fields)
    (he : f.eff = .cmt) : (Word.merge (effMask .imm g d) cur v).fld f.lo (f.hi - f.lo + 1) = cur.fld f.lo (f.hi - f.lo + 1) := by
  refine fld_congr fun i hlo hw => ?_
  obtain ⟨hle, -, -⟩ := ha f hf
  rw [getLsbD_merge, hp.effMask_of_ne ha d hf (by rw [he]; decide) hlo (by omega)]
  rfl

/-- Its shadow gives the written word's part, whatever it collected before. -/
theorem PlainFields.fld_shadow (hp : PlainFields g) (ha : FieldsApart g) (d w v : Word) (p : Pend) {f : FieldSpec} (hf : f ∈ g.fields)
    (he : f.eff = .cmt) : ((p.put (effMask .cmt g d) v).on w).fld f.lo (f.hi - f.lo + 1) = v.fld f.lo (f.hi - f.lo + 1) := by
  refine fld_congr fun i hlo hw => ?_
  obtain ⟨hle, -, -⟩ := ha f hf
  have hm := hp.effMask_of_mem ha d hf hlo (by omega)
  rw [he] at hm
  simp [Pend.on, Pend.put, getLsbD_merge, hm]

theorem PlainFields.effMask_cmt_ne_zero (hp : PlainFields g) (ha : FieldsApart g) (d : Word) {f : FieldSpec} (hf : f ∈ g.fields)
    (he : f.eff = .cmt) : effMask .cmt g d ≠ 0 := by
  intro hz
  obtain ⟨hle, -, -⟩ := ha f hf
  have hm := hp.effMask_of_mem ha d hf le_rfl hle
  rw [he, hz, show (0 : Word).getLsbD f.lo = false from BitVec.getLsbD_zero] at hm
  cases hm

/-- A store to IRQ_RAW clears the bits written 1 (R17). -/
theorem stored_of_w1c (h : ∀ f ∈ g.fields, f.acc = .w1c) (a : Nat) (d cur : Word) :
    stored g a d cur = cur &&& ~~~(d &&& w1cMask g) := by
  have z : effMask .imm g d = 0 := by
    unfold effMask
    rw [fieldMask_eq_zero fun f hf => by rw [h f hf]; rfl]
    exact BitVec.zero_and
  unfold stored
  rw [z, merge_zero]

/-- A bit of a W1C field after a write of `d`, while hardware sets the bits of `hw` (R27). -/
theorem w1c_bit {f : FieldSpec} (hf : f ∈ g.fields) (hc : f.acc = .w1c) (cur d hw : Word) {i : Nat} (hlo : f.lo ≤ i) (hhi : i ≤ f.hi)
    (h32 : i < 32) : ((cur &&& ~~~(d &&& w1cMask g)) ||| (hw &&& w1cMask g)).fld i 1 =
      if hw.fld i 1 = 1 then 1 else if d.fld i 1 = 1 then 0 else cur.fld i 1 := by
  have hm : (w1cMask g).getLsbD i = true := getLsbD_fieldMask_of_mem hf (by simp [hc]) hlo hhi h32
  simp only [fld_one, BitVec.getLsbD_or, BitVec.getLsbD_and, BitVec.getLsbD_not, hm, h32, decide_true, Bool.and_true, Bool.true_and]
  cases hw.getLsbD i <;> cases d.getLsbD i <;> simp

/-- A bit of IRQ_EN takes the written one where the mask of the write selects it (R9, R17). -/
theorem irqEn_bit {b : Block} (hf : g.fields = [⟨15, 0, .mw, .imm, 0⟩]) (d cur : Word) (i : Fin 16) :
    (stored g (hdr b + 0x14) d cur).fld i.val 1 = if d.fld (16 + i.val) 1 = 1 then d.fld i.val 1 else cur.fld i.val 1 := by
  have hi := i.isLt
  have mw : g.fields.any (fun f => decide (f.acc = .mw)) = true := by rw [hf]; rfl
  have sel : (selMask g d).getLsbD i.val = d.getLsbD (16 + i.val) := by
    unfold selMask
    rw [mw, if_pos rfl, getLsbD_selected d hi]
  have eff : (effMask .imm g d).getLsbD i.val = d.getLsbD (16 + i.val) := by
    unfold effMask
    rw [BitVec.getLsbD_and, sel, getLsbD_fieldMask, hf]
    simp [Access.writable, getLsbD_mask, show i.val < 32 by omega]
  have data : dataWord g (hdr b + 0x14) d cur = Word.merge (selMask g d) cur d := by
    unfold dataWord
    rw [mw, if_pos rfl, storedWord_irqEn b]
  rw [stored_of_noW1c (by rw [hf]; simp), data, fld_one, fld_one, fld_one, fld_one, getLsbD_merge, getLsbD_merge, sel, eff]
  cases d.getLsbD (16 + i.val) <;> simp

end Sys2Proof.Proofs
end

section
/-! PROOFS. O13: writes to SRAM and to registers. -/
namespace Sys2Proof.Proofs
open Sys2Proof Sys2Proof.Machine Sys2Proof.Laws

theorem runs_registerWrite {r : Req} {a : Nat} {sz : AccSize} {d hw : Word} {s : State} {P : State → Prop}
    (h : P (writeAt r a sz d hw s)) : Runs (.registerWrite r ⟨a, sz⟩ ⟨d, hw⟩) s P := ⟨_, rfl, h⟩

/-- A store to SRAM is a store of the low bytes of the word. -/
theorem memStore_sram {a : Nat} (lo : 0x20000000 ≤ a) (hi : a < 0x20400000) (sz : AccSize) (d : Word) (s : State) :
    memStore sz a d s = s.memBytes a ((wordBytes d).take (accBytes sz)) := by
  unfold memStore
  rw [regionAt_sram lo hi]
  cases sz with
  | word => exact memPut_eq_memBytes s a d
  | _ => rfl

/-- A write to SRAM by an APC pair stores as many bytes as the access is wide (R13). -/
theorem writeAt_sram {r : Req} {a : Nat} {s : State} (sz : AccSize) (d hw : Word) (hr : r = .apc0 ∨ r = .apc1)
    (lo : 0x20000000 ≤ a) (hi : a + 3 < 0x20400000) (run : s.isRun 1 = true) :
    writeAt r a sz d hw s =
      busOk r 0 ((fabUse (reqIsland r) 1 0 s).memBytes a ((wordBytes d).take (accBytes sz))) := by
  have reg : regionAt a = .sram := regionAt_sram lo (by omega)
  have ok : (fabUse (reqIsland r) 1 0 s).memOk r a (accBytes sz) = true := by
    unfold State.memOk
    rw [regionAt_sram_end sz lo hi, reg]
    obtain rfl | rfl := hr <;> rfl
  have hrp : r ≠ .hrp := by obtain rfl | rfl := hr <;> decide
  unfold writeAt writeMem
  simp [blockAt_sram (show a < 0x20400000 by omega), islandAt_sram lo (by omega), reg, hrp, run, ok, memStore_sram lo (by omega)]

theorem length_stored_bytes (d : Word) (sz : AccSize) : ((wordBytes d).take (accBytes sz)).length = accBytes sz := by
  cases sz <;> rfl

/-- The bytes stored are the low bytes of the word. -/
theorem stored_bytes_getD (d : Word) (sz : AccSize) {i : Nat} (hi : i < accBytes sz) :
    ((wordBytes d).take (accBytes sz)).getD i 0 = (wordBytes d).getD i 0 := by
  simp [List.getD_eq_getElem?_getD, hi]

theorem writeAt_word {a : Nat} {b : Block} (hb : blockAt a = some b) (r : Req) (d hw : Word) (s : State) :
    writeAt r a .word d hw s = access r a true (regArrive r b a d hw) s := by
  unfold writeAt
  rw [hb]
  rfl

theorem writeAt_of_narrow {a : Nat} {b : Block} (hb : blockAt a = some b) {sz : AccSize} (hsz : sz ≠ .word) (r : Req) (d hw : Word)
    (s : State) : writeAt r a sz d hw s = accessNarrow r b a true s := by
  unfold writeAt
  rw [hb]
  exact if_neg hsz

/-- A granted write of a word reaches its block. -/
theorem writeAt_granted {s : State} {r : Req} {b : Block} {a : Nat} (d hw : Word) (hg : s.grants r a true = true)
    (hb : blockAt a = some b) : writeAt r a .word d hw s = regArrive r b a d hw (s.granted r b) := by
  rw [writeAt_word hb, access_of_grants_at hg hb]

/-- A write of any width to an island that is not in RUN is answered ABSENT (R18). -/
theorem writeAt_absent {s : State} {r : Req} {b : Block} {a : Nat} (sz : AccSize) (d hw : Word) (hb : blockAt a = some b)
    (hv : s.verdict r b a true = .absent) :
    writeAt r a sz d hw s = busFault r a .absent (fabAbsent (blockIsland b) s) := by
  by_cases hsz : sz = .word
  · rw [hsz, writeAt_word hb, access_absent hb hv]
  · rw [writeAt_of_narrow hb hsz]
    exact if_pos hv

/-- A write that is no whole word is refused as an undefined one where the island is in RUN (R15). -/
theorem writeAt_refused_narrow {s : State} {b : Block} {a : Nat} {sz : AccSize} (r : Req) (d hw : Word) (hb : blockAt a = some b)
    (hsz : sz ≠ .word) (run : s.isRun (blockIsland b) = true) :
    writeAt r a sz d hw s = busFault r a .refused (errEvent b 4 (fabUse (reqIsland r) (blockIsland b) 0 s)) := by
  rw [writeAt_of_narrow hb hsz]
  exact if_neg (verdict_ne_absent run r a true)

/-- Granting the access changes no register, so a set register is the only change since before it. -/
theorem SetsReg.onlyRegs_granted {k : Nat} {v : Word} {s t : State} {r : Req} {b : Block} (h : SetsReg k v (s.granted r b) t) :
    OnlyRegs [k] s t := fun a ha => (h.regs a ha).trans (granted_rd s r b a)

/-- What a write of IRQ_EN comes to. -/
theorem write_irqEn {s : State} {r : Req} {b : Block} (d hw : Word) (hg : s.grants r (hdr b + 0x14) true = true) (hs : s.tmr = [])
    (hf : s.frameDue b = none) : ∃ g : RegSpec, g.fields = [⟨15, 0, .mw, .imm, 0⟩] ∧
      SetsReg (hdr b + 0x14) (stored g (hdr b + 0x14) d (s.rd (hdr b + 0x14))) (s.granted r b)
        (writeAt r (hdr b + 0x14) .word d hw s) := by
  obtain ⟨g, spec, fields⟩ := specAt_irqEn b
  obtain ⟨ht, hl, -⟩ := hdr_apart b (show 0x14 < 0x1000 by decide)
  have hs' : (s.granted r b).tmr = [] := by simpa using hs
  refine ⟨g, fields, ?_⟩
  rw [writeAt_granted d hw hg (blockAt_hdr b (by decide)), regArrive_eq r d hw (by simpa using hf) ht hl,
    keepSet_of_noW1c r hw _ spec (by rw [fields]; simp), regWrite_irq hs' r b (.inr rfl), ← granted_rd s r b]
  exact setsReg_storeAt _ d spec hs' (by rw [fields]; simp)

/-- What a write of IRQ_RAW comes to. -/
theorem write_irqRaw {s : State} {r : Req} {b : Block} {g : RegSpec} (d hw : Word) (hg : s.grants r (hdr b + 0x10) true = true)
    (hs : s.tmr = []) (hf : s.frameDue b = none) (spec : specAt (hdr b + 0x10) = some g) :
    SetsReg (hdr b + 0x10) ((s.rd (hdr b + 0x10) &&& ~~~(d &&& w1cMask g)) ||| (hw &&& w1cMask g)) (s.granted r b)
      (writeAt r (hdr b + 0x10) .word d hw s) := by
  obtain ⟨ht, hl, window⟩ := hdr_apart b (show 0x10 < 0x1000 by decide)
  have w1c := irqRaw_w1c spec
  have hs' : (s.granted r b).tmr = [] := by simpa using hs
  have store := setsReg_storeAt (hdr b + 0x10) d spec hs' fun f hf hw => by rw [w1c f hf] at hw; cases hw
  rw [stored_of_w1c w1c, granted_rd] at store
  have keep := setsReg_keepSet (s := storeAt (hdr b + 0x10) (hdr b + 0x10) d (s.granted r b)) r hw spec window
  rw [store.rd] at keep
  rw [writeAt_granted d hw hg (blockAt_hdr b (by decide)), regArrive_eq r d hw (by simpa using hf) ht hl,
    regWrite_irq hs' r b (.inl rfl)]
  exact store.trans keep

/-- A write to a register of an ADC other than CTRL, COMMIT and SWTRIG is a store. -/
theorem regWrite_adc {s : State} (hs : s.tmr = []) (r : Req) (n : Fin 4) {a : Nat} (h8 : a % 0x1000 ≠ 0x08) (h20 : a % 0x1000 ≠ 0x20)
    (hsw : a ≠ aADC_SWTRIG n.val) (d : Word) : regWrite r (.adc n) a d s = storeAt a a d s := by
  have hh : hdr (.adc n) % 0x1000 = 0 := by dsimp only [hdr]; omega
  unfold regWrite
  rw [voteReg_of_agree hs, if_neg (by omega), if_neg (by omega)]
  exact if_neg hsw

/-- No commit of an ADC waits after a write of a register of plain fields, if none waited before: STAT is not such a register. -/
theorem adc_cmtWaits {s t : State} {n : Fin 4} {a : Nat} {g : RegSpec} {v : Word} (hb : blockAt a = some (.adc n))
    (spec : specAt a = some g) (hp : PlainFields g) (hc : s.on (hCmtPend (hdr (.adc n))) = false) (h : SetsReg a v s t) :
    t.cmtWaits a = false := by
  obtain ⟨ht, hl⟩ := adc_apart hb
  have ne : hdr (.adc n) + 0x0C ≠ a := by
    rintro rfl
    obtain ⟨g', spec', f, hf, ro⟩ := adc_stat_ro n
    rw [spec] at spec'
    cases spec'
    obtain ⟨h | h, -⟩ := hp f hf <;> rw [ro] at h <;> cases h
  unfold State.cmtWaits
  rw [ht, hl, hb]
  exact (h.on_of_ne ne).trans hc

/-- What a write of a register of plain fields of an ADC comes to: the immediate fields, then the shadow of those that commit. -/
theorem write_adc {s : State} {r : Req} {n : Fin 4} {a : Nat} {g : RegSpec} (d hw : Word) (hg : s.grants r a true = true)
    (hs : s.tmr = []) (hf : s.frameDue (.adc n) = none) (hb : blockAt a = some (.adc n)) (h8 : a % 0x1000 ≠ 0x08)
    (h20 : a % 0x1000 ≠ 0x20) (hsw : a ≠ aADC_SWTRIG n.val) (spec : specAt a = some g) (hp : PlainFields g)
    (hc : s.on (hCmtPend (hdr (.adc n))) = false) :
    ∃ t, SetsReg a (Word.merge (effMask .imm g d) (s.rd a) (storedWord a d)) (s.granted r (.adc n)) t ∧
      writeAt r a .word d hw s = if effMask .cmt g d = 0 then t
        else t.setCmt (Tab.set {} t.cmt a ((Tab.get {} t.cmt a).put (effMask .cmt g d) (storedWord a d))) := by
  obtain ⟨ht, hl⟩ := adc_apart hb
  have hs' : (s.granted r (.adc n)).tmr = [] := by simpa using hs
  obtain ⟨t, set, e⟩ := storeAt_of_noBnd a d spec hs' (hp.effMask_bnd d)
  rw [stored_of_noW1c hp.not_w1c, hp.dataWord_eq, granted_rd] at set
  refine ⟨t, set, ?_⟩
  rw [writeAt_granted d hw hg hb, regArrive_eq r d hw (by simpa using hf) ht hl, keepSet_of_noW1c r hw _ spec hp.not_w1c,
    regWrite_adc hs' r n h8 h20 hsw, e, adc_cmtWaits hb spec hp (by simpa using hc) set, hp.dataWord_eq]
  rfl

/-- After such a write, a field that commits waits in the shadow and shows what it showed; an immediate one shows the written word's part. -/
theorem plain_field_written {s t u : State} {a : Nat} {g : RegSpec} {d : Word} {r : Req} {b : Block} (hp : PlainFields g) (ha : FieldsApart g)
    (set : SetsReg a (Word.merge (effMask .imm g d) (s.rd a) (storedWord a d)) (s.granted r b) t)
    (e : u = if effMask .cmt g d = 0 then t
      else t.setCmt (Tab.set {} t.cmt a ((Tab.get {} t.cmt a).put (effMask .cmt g d) (storedWord a d))))
    {f : FieldSpec} (hf : f ∈ g.fields) :
    if f.eff = .cmt
      then (u.cmtVal a).fld f.lo (f.hi - f.lo + 1) = (storedWord a d).fld f.lo (f.hi - f.lo + 1) ∧
        u.shows ⟨a, f.lo, f.hi - f.lo + 1⟩ = s.shows ⟨a, f.lo, f.hi - f.lo + 1⟩
      else u.shows ⟨a, f.lo, f.hi - f.lo + 1⟩ = (storedWord a d).fld f.lo (f.hi - f.lo + 1) := by
  have shows_ : ∀ lo w, u.shows ⟨a, lo, w⟩ = (Word.merge (effMask .imm g d) (s.rd a) (storedWord a d)).fld lo w := by
    intro lo w
    rw [← set.shows, e]
    split <;> rfl
  by_cases he : f.eff = .cmt
  · rw [if_pos he]
    refine ⟨?_, (shows_ _ _).trans (hp.fld_keep ha d _ _ hf he)⟩
    rw [e, if_neg (hp.effMask_cmt_ne_zero ha d hf he)]
    unfold State.cmtVal
    rw [setCmt_cmt, get_set_same]
    exact hp.fld_shadow ha d _ _ _ hf he
  · rw [if_neg he]
    obtain ⟨-, eff⟩ := hp f hf
    exact (shows_ _ _).trans (hp.fld_imm ha d _ _ hf (eff.resolve_left he))

/-- Settles O13: SRAM takes the low bytes of the word, a header or ADC register is a store that the fabric has granted, and a refused, narrow
or absent access reaches no register but those that report it. -/
theorem registerWrite : Obligations.RegisterWrite := by
  unfold Obligations.RegisterWrite
  refine ⟨?sram, ?irqEn, ?adc, ?refused, ?absent, ?narrow, ?irqRaw⟩
  case sram =>
    intro r a sz d hw s hr lo hi run
    refine runs_registerWrite ?_
    rw [writeAt_sram sz d hw hr lo hi run]
    have len := length_stored_bytes d sz
    refine ⟨fun i hi => ?_, fun x hx => ?_, rfl, fun x _ => by simp⟩
    · rw [busOk_mem, read_memBytes, len, if_pos (by omega), Nat.add_sub_cancel_left, stored_bytes_getD d sz hi]
    · rw [busOk_mem, read_memBytes, len, if_neg (by omega), fabUse_mem]
  case irqEn =>
    intro r b d hw s hg hs hf
    refine runs_registerWrite ?_
    obtain ⟨g, fields, set⟩ := write_irqEn d hw hg hs hf
    refine ⟨fun i => ?_, set.onlyRegs_granted, set.mem.trans (granted_mem s r b)⟩
    rw [set.shows]
    exact irqEn_bit fields d _ i
  case adc =>
    intro r n a g d hw s hg hs hf hb h8 h20 hsw spec hp hc
    refine runs_registerWrite ?_
    obtain ⟨t, set, e⟩ := write_adc d hw hg hs hf hb h8 h20 hsw spec hp hc
    refine ⟨?_, ?_, fun f => plain_field_written hp (adc_fieldsApart g (mem_regsAdc hb spec)) set e⟩
    · rw [e]
      split <;> exact set.onlyRegs_granted
    · rw [e]
      split <;> exact set.bnd.trans (granted_bnd s r _)
  case refused =>
    intro r b a d hw s hb hv
    refine runs_registerWrite ?_
    rw [writeAt_word hb]
    obtain ⟨kind, keep⟩ := access_refused hb hv (regArrive r b a d hw)
    exact ⟨kind, keep.mem, keep.cmt, keep.bnd, keep.regs⟩
  case absent =>
    intro r b a sz d hw s hb hv
    refine runs_registerWrite ?_
    rw [writeAt_absent sz d hw hb hv]
    have keep := keepsBut_absence r b a s
    exact ⟨busFault_kind _ _ _ _, keep.mem, keep.cmt, keep.bnd, keep.regs⟩
  case narrow =>
    intro r b a sz d hw s hb hsz run
    refine runs_registerWrite ?_
    rw [writeAt_refused_narrow r d hw hb hsz run]
    have keep := keepsBut_refusal r b a 4 s
    exact ⟨busFault_kind _ _ _ _, keep.mem, keep.cmt, keep.bnd, keep.regs⟩
  case irqRaw =>
    intro r b g d hw s hg hs hf spec
    refine runs_registerWrite ?_
    have set := write_irqRaw d hw hg hs hf spec
    refine ⟨set.onlyRegs_granted, fun f hfm hc i hlo hhi => ?_⟩
    rw [set.shows]
    exact w1c_bit hfm hc _ d hw hlo hhi i.isLt

end Sys2Proof.Proofs
end

section
/-! PROOFS. O3, O4: the canonical form of memory and registers, at reset and after every step (01_register_pages.md R13, R17). -/
namespace Sys2Proof.Proofs
open Sys2Proof Sys2Proof.Machine Sys2Proof.Laws

/-- Every command's outcome is one in which Sage has handled what the command caused, and the command changed the parts of some mask:
one case for each command, with the law of its meaning. -/
theorem exec_out (c : Instr) (s : State) : ∃ m, Out m s (exec c s) := by
  cases c with
  | registerWrite => exact ⟨_, out_execRegisterWrite _ _ _ _⟩
  | readClear => exact ⟨_, out_execReadClear _ _ _ _⟩
  | thyNowRead => exact ⟨_, out_execThyNowRead _ _⟩
  | ctrlSrst => exact ⟨_, out_execCtrlSrst _ _ _⟩
  | tmrClr => exact ⟨_, out_execTmrClr _ _ _⟩
  | crcEn => exact ⟨_, out_execCrcEn _ _ _ _⟩
  | commit => exact ⟨_, out_execCommit _ _ _ _⟩
  | commitAbort => exact ⟨_, out_execCommitAbort _ _ _⟩
  | blockBoundary => exact ⟨_, out_execBlockBoundary _ _⟩
  | tmrScrub => exact ⟨_, out_execTmrScrub _⟩
  | crcPass => exact ⟨_, out_execCrcPass _ _⟩
  | hrpRead => exact ⟨_, out_execHrpRead _ _ _ _⟩
  | hrpWrite => exact ⟨_, out_execHrpWrite _ _ _ _⟩
  | hrpCsAbort => exact ⟨_, out_execHrpCsAbort _ _⟩
  | requestArrival => exact ⟨_, out_execRequestArrival _ _ _ _ _ _ _⟩
  | reply => exact ⟨_, out_execReply _ _ _ _ _ _⟩
  | clockGate => exact ⟨_, out_execClockGate _ _⟩
  | drainComplete => exact ⟨_, out_execDrainComplete _ _⟩
  | drainTimeout => exact ⟨_, out_execDrainTimeout _ _⟩
  | retireComplete => exact ⟨_, out_execRetireComplete _ _⟩
  | retireOvertime => exact ⟨_, out_execRetireOvertime _ _⟩
  | resetRelease => exact ⟨_, out_execResetRelease _ _⟩
  | creditAudit => exact ⟨_, out_execCreditAudit _⟩
  | admitCtx => exact ⟨_, out_execAdmitCtx _ _⟩
  | startCtx => exact ⟨_, out_execStartCtx _ _⟩
  | stopCtx => exact ⟨_, out_execStopCtx _ _⟩
  | releaseCtx => exact ⟨_, out_execReleaseCtx _ _⟩
  | clearCtx => exact ⟨_, out_execClearCtx _ _⟩
  | trig => exact ⟨_, out_execTrig _ _⟩
  | sampleInstant => exact ⟨_, out_execSampleInstant _ _⟩
  | basilInput => exact ⟨_, out_execBasilInput _ _ _ _ _ _⟩
  | stepRelease => exact ⟨_, out_execStepRelease _ _⟩
  | latestStart => exact ⟨_, out_execLatestStart _ _⟩
  | stepStart => exact ⟨_, out_execStepStart _⟩
  | stepComplete => exact ⟨_, out_execStepComplete _ _ _⟩
  | stepDeadline => exact ⟨_, out_execStepDeadline _ _⟩
  | stageWord => exact ⟨_, out_execStageWord _ _ _⟩
  | paramCommit => exact ⟨_, out_execParamCommit _ _ _⟩
  | paramAbort => exact ⟨_, out_execParamAbort _ _⟩
  | integratorSet => exact ⟨_, out_execIntegratorSet _ _ _⟩
  | wselWrite => exact ⟨_, out_execWselWrite _ _ _⟩
  | ksReloadReq => exact ⟨_, out_execKsReloadReq _ _⟩
  | ksDone => exact ⟨_, out_execKsDone _ _⟩
  | ksVerify => exact ⟨_, out_execKsVerify _⟩
  | ctxCrcCheck => exact ⟨_, out_execCtxCrcCheck _ _⟩
  | pllStep => exact ⟨_, out_execPllStep _ _ _ _ _⟩
  | giuReference => exact ⟨_, out_execGiuReference _ _ _ _⟩
  | rtAck => exact ⟨_, out_execRtAck _ _ _⟩
  | mpptStep => exact ⟨_, out_execMpptStep _ _⟩
  | trackerItem => exact ⟨_, out_execTrackerItem _ _ _ _ _ _ _⟩
  | scanStart => exact ⟨_, out_execScanStart _ _⟩
  | trkScan => exact ⟨_, out_execTrkScan _ _ _⟩
  | scanDwell => exact ⟨_, out_execScanDwell _ _⟩
  | tbgStart => exact ⟨_, out_execTbgStart _ _ _⟩
  | tbgStop => exact ⟨_, out_execTbgStop _ _ _⟩
  | tbgBoundary => exact ⟨_, out_execTbgBoundary _ _⟩
  | handOff => exact ⟨_, out_execHandOff _ _⟩
  | tbgCommit => exact ⟨_, out_execTbgCommit _ _ _ _⟩
  | tbgCommitAbort => exact ⟨_, out_execTbgCommitAbort _ _ _⟩
  | compareWrite => exact ⟨_, out_execCompareWrite _ _ _ _ _⟩
  | cmpGenWrite => exact ⟨_, out_execCmpGenWrite _ _ _ _⟩
  | compareSet => exact ⟨_, out_execCompareSet _ _⟩
  | fineCalibration => exact ⟨_, out_execFineCalibration _ _ _⟩
  | tripSourceAssert => exact ⟨_, out_execTripSourceAssert _ _⟩
  | blankingEnd => exact ⟨_, out_execBlankingEnd _ _⟩
  | tripClear => exact ⟨_, out_execTripClear _ _ _⟩
  | tripClearArm => exact ⟨_, out_execTripClearArm _ _ _⟩
  | mgTripClear => exact ⟨_, out_execMgTripClear _ _ _⟩
  | mgTripClearArm => exact ⟨_, out_execMgTripClearArm _ _ _⟩
  | deferredClear => exact ⟨_, out_execDeferredClear _ _⟩
  | pulseOff => exact ⟨_, out_execPulseOff _ _ _⟩
  | asc => exact ⟨_, out_execAsc _ _ _⟩
  | dischargeWinding => exact ⟨_, out_execDischargeWinding _ _ _⟩
  | dischargeBleed => exact ⟨_, out_execDischargeBleed _ _ _⟩
  | mgRelease => exact ⟨_, out_execMgRelease _ _ _⟩
  | portEnable => exact ⟨_, out_execPortEnable _ _ _⟩
  | portDisable => exact ⟨_, out_execPortDisable _ _ _⟩
  | trainComplete => exact ⟨_, out_execTrainComplete _ _⟩
  | capsComplete => exact ⟨_, out_execCapsComplete _ _⟩
  | trainTimeout => exact ⟨_, out_execTrainTimeout _ _⟩
  | lossRetrain => exact ⟨_, out_execLossRetrain _ _⟩
  | linkLoss => exact ⟨_, out_execLinkLoss _ _⟩
  | resendTimeout => exact ⟨_, out_execResendTimeout _ _⟩
  | cellSend => exact ⟨_, out_execCellSend _ _⟩
  | edge => exact ⟨_, out_execEdge _ _ _ _ _ _ _ _ _⟩
  | retract => exact ⟨_, out_execRetract _ _ _ _ _ _ _ _⟩
  | force => exact ⟨_, out_execForce _ _ _ _ _ _ _ _ _ _⟩
  | sampleReq => exact ⟨_, out_execSampleReq _ _ _ _ _ _ _ _⟩
  | probe => exact ⟨_, out_execProbe _ _ _ _⟩
  | adjust => exact ⟨_, out_execAdjust _ _ _ _ _⟩
  | syncSet => exact ⟨_, out_execSyncSet _ _ _ _⟩
  | hintReact => exact ⟨_, out_execHintReact _ _ _ _ _ _⟩
  | hintPeriod => exact ⟨_, out_execHintPeriod _ _ _ _ _ _⟩
  | cfgWr => exact ⟨_, out_execCfgWr _ _ _ _ _ _⟩
  | cfgRd => exact ⟨_, out_execCfgRd _ _ _ _ _⟩
  | claim => exact ⟨_, out_execClaim _ _ _ _⟩
  | give => exact ⟨_, out_execGive _ _ _ _⟩
  | query => exact ⟨_, out_execQuery _ _ _ _⟩
  | fillCell => exact ⟨_, out_execFillCell _ _ _ _ _ _⟩
  | result => exact ⟨_, out_execResult _ _ _ _ _ _ _ _⟩
  | status => exact ⟨_, out_execStatus _ _ _ _ _ _ _ _ _ _⟩
  | telem p h slot flags vboot temp vdrv dsat => exact ⟨_, out_execTelem p h slot flags vboot temp vdrv dsat s⟩
  | syncRsp => exact ⟨_, out_execSyncRsp _ _ _ _ _ _ _⟩
  | cfgRsp => exact ⟨_, out_execCfgRsp _ _ _ _ _⟩
  | tokenRsp => exact ⟨_, out_execTokenRsp _ _ _ _ _⟩
  | sampleCell => exact ⟨_, out_execSampleCell _ _ _ _ _ _ _⟩
  | checkCell => exact ⟨_, out_execCheckCell _ _ _ _ _ _ _⟩
  | probePeriod => exact ⟨_, out_execProbePeriod _ _⟩
  | hintRefresh => exact ⟨_, out_execHintRefresh _ _⟩
  | forceResend => exact ⟨_, out_execForceResend _ _⟩
  | edgeExecute => exact ⟨_, out_execEdgeExecute _ _ _⟩
  | sampleTake => exact ⟨_, out_execSampleTake _ _ _ _ _ _⟩
  | forceHoldEnd => exact ⟨_, out_execForceHoldEnd _ _ _⟩
  | suppressed => exact ⟨_, out_execSuppressed _ _ _⟩
  | statusPeriodic => exact ⟨_, out_execStatusPeriodic _ _ _⟩
  | telemPeriodic => exact ⟨_, out_execTelemPeriodic _ _ _ _⟩
  | desaturation => exact ⟨_, out_execDesaturation _ _ _ _⟩
  | undervoltage => exact ⟨_, out_execUndervoltage _ _ _ _⟩
  | satPortLoss => exact ⟨_, out_execSatPortLoss _ _ _⟩
  | patternHoldExpiry => exact ⟨_, out_execPatternHoldExpiry _ _ _⟩
  | satPowerUp => exact ⟨_, out_execSatPowerUp _ _⟩
  | bankActivation => exact ⟨_, out_execBankActivation _ _ _⟩
  | ndlTokenClaim => exact ⟨_, out_execNdlTokenClaim _ _ _⟩
  | ndlTokenGive => exact ⟨_, out_execNdlTokenGive _ _ _⟩
  | ndlTokenQuery => exact ⟨_, out_execNdlTokenQuery _ _ _⟩
  | mainClockCheck => exact ⟨_, out_execMainClockCheck _ _⟩
  | sageClockCheck => exact ⟨_, out_execSageClockCheck _ _ _⟩
  | sageSupplyCheck => exact ⟨_, out_execSageSupplyCheck _ _ _⟩
  | aliveLoss => exact ⟨_, out_execAliveLoss _⟩
  | sageReset => exact ⟨_, out_execSageReset _ _⟩
  | aliveResumeTimeout => exact ⟨_, out_execAliveResumeTimeout _⟩
  | lockstepMismatch => exact ⟨_, out_execLockstepMismatch _ _ _⟩
  | lockstepInject => exact ⟨_, out_execLockstepInject _ _ _⟩
  | sageLsInject => exact ⟨_, out_execSageLsInject _ _⟩
  | debugHalt => exact ⟨_, out_execDebugHalt _ _⟩
  | sageEvent => exact ⟨_, out_execSageEvent _ _ _ _⟩
  | torqueEvaluation => exact ⟨_, out_execTorqueEvaluation _ _⟩
  | liveness => exact ⟨_, out_execLiveness _ _⟩
  | kbSupervision => exact ⟨_, out_execKbSupervision _⟩
  | sagePulseOff => exact ⟨_, out_execSagePulseOff _ _⟩
  | sageAsc => exact ⟨_, out_execSageAsc _ _⟩
  | sageDefault => exact ⟨_, out_execSageDefault _ _⟩
  | sageDischargeWinding => exact ⟨_, out_execSageDischargeWinding _ _⟩
  | sageDischargeBleed => exact ⟨_, out_execSageDischargeBleed _ _⟩
  | sageRelease => exact ⟨_, out_execSageRelease _ _⟩
  | dischargeDone => exact ⟨_, out_execDischargeDone _ _⟩
  | dischargeTimeout => exact ⟨_, out_execDischargeTimeout _ _⟩
  | dischargeStall => exact ⟨_, out_execDischargeStall _ _⟩
  | dischargeNodata => exact ⟨_, out_execDischargeNodata _ _⟩
  | nsSet => exact ⟨_, out_execNsSet _ _⟩
  | nsClear => exact ⟨_, out_execNsClear _ _⟩
  | pinAssert => exact ⟨_, out_execPinAssert _ _ _⟩
  | pinRelease => exact ⟨_, out_execPinRelease _ _ _⟩
  | wdgService => exact ⟨_, out_execWdgService _ _ _⟩
  | wdgExpiry => exact ⟨_, out_execWdgExpiry _⟩
  | apcWdgService => exact ⟨_, out_execApcWdgService _ _ _ _⟩
  | apcWdgExpiry => exact ⟨_, out_execApcWdgExpiry _ _⟩
  | pairJoin => exact ⟨_, out_execPairJoin _ _⟩
  | pairLeave => exact ⟨_, out_execPairLeave _ _⟩
  | handover => exact ⟨_, out_execHandover _ _⟩
  | yield => exact ⟨_, out_execYield _ _⟩
  | pairClaim => exact ⟨_, out_execPairClaim _ _⟩
  | heartSend => exact ⟨_, out_execHeartSend _⟩
  | heart => exact ⟨_, out_execHeart _ _ _⟩
  | timeProbeSend => exact ⟨_, out_execTimeProbeSend _⟩
  | timeProbe => exact ⟨_, out_execTimeProbe _ _⟩
  | timeResp => exact ⟨_, out_execTimeResp _ _ _ _ _⟩
  | mirror h k step run img outs => exact ⟨_, out_execMirror h k step run img outs s⟩
  | sealRecord => exact ⟨_, out_execSealRecord _ _ _ _ _⟩
  | cancelRecord => exact ⟨_, out_execCancelRecord _ _ _ _⟩
  | setRec => exact ⟨_, out_execSetRec _ _ _ _ _ _ _ _ _⟩
  | ctrlCheck => exact ⟨_, out_execCtrlCheck _ _ _⟩
  | checkOk => exact ⟨_, out_execCheckOk _ _⟩
  | checkFail => exact ⟨_, out_execCheckFail _ _⟩
  | quit => exact ⟨_, out_execQuit _ _⟩
  | synced => exact ⟨_, out_execSynced _ _⟩
  | bulk => exact ⟨_, out_execBulk _ _ _ _ _ _ _⟩
  | pairLoss => exact ⟨_, out_execPairLoss _⟩
  | claimRepeat => exact ⟨_, out_execClaimRepeat _⟩
  | takeoverWindowEnd => exact ⟨_, out_execTakeoverWindowEnd _⟩
  | pairRetrain => exact ⟨_, out_execPairRetrain _⟩
  | joinTimeout => exact ⟨_, out_execJoinTimeout _⟩
  | siChange => exact ⟨_, out_execSiChange _ _ _⟩
  | offPulse => exact ⟨_, out_execOffPulse _ _⟩
  | inputTest => exact ⟨_, out_execInputTest _ _ _⟩
  | siFaultClear => exact ⟨_, out_execSiFaultClear _ _ _⟩
  | discrepancy => exact ⟨_, out_execDiscrepancy _ _⟩
  | syncFail => exact ⟨_, out_execSyncFail _ _⟩
  | evReset => exact ⟨_, out_execEvReset _ _ _⟩
  | evFaultClear => exact ⟨_, out_execEvFaultClear _ _ _⟩
  | readbackFault => exact ⟨_, out_execReadbackFault _ _ _⟩
  | soFaultClear => exact ⟨_, out_execSoFaultClear _ _ _⟩
  | safeCopy => exact ⟨_, out_execSafeCopy _ _ _ _⟩
  | pairWindow => exact ⟨_, out_execPairWindow _ _⟩
  | smTimeout => exact ⟨_, out_execSmTimeout _ _⟩
  | safeSend => exact ⟨_, out_execSafeSend _ _⟩
  | rearm => exact ⟨_, out_execRearm _ _ _⟩
  | adcRequest => exact ⟨_, out_execAdcRequest _ _ _⟩
  | sequenceTrigger => exact ⟨_, out_execSequenceTrigger _ _ _⟩
  | swtrig => exact ⟨_, out_execSwtrig _ _ _ _⟩
  | spreadRun => exact ⟨_, out_execSpreadRun _ _ _ _⟩
  | conversionStart => exact ⟨_, out_execConversionStart _ _⟩
  | conversionComplete => exact ⟨_, out_execConversionComplete _ _ _ _⟩
  | lateAbort => exact ⟨_, out_execLateAbort _ _⟩
  | streamAverage => exact ⟨_, out_execStreamAverage _ _ _⟩
  | adcRecordSend => exact ⟨_, out_execAdcRecordSend _ _⟩
  | resolverSample => exact ⟨_, out_execResolverSample _ _ _ _⟩
  | encoderEdge => exact ⟨_, out_execEncoderEdge _ _ _ _ _ _⟩
  | indexEvent => exact ⟨_, out_execIndexEvent _ _⟩
  | fbArm => exact ⟨_, out_execFbArm _ _ _⟩
  | fbClr => exact ⟨_, out_execFbClr _ _ _⟩
  | fbPreset => exact ⟨_, out_execFbPreset _ _ _⟩
  | resolverEnvelope => exact ⟨_, out_execResolverEnvelope _ _ _ _ _ _⟩
  | resolverStale => exact ⟨_, out_execResolverStale _ _⟩
  | emulationEdge => exact ⟨_, out_execEmulationEdge _ _⟩
  | moveAxis => exact ⟨_, out_execMoveAxis _ _ _⟩
  | runForward => exact ⟨_, out_execRunForward _ _ _⟩
  | runBackward => exact ⟨_, out_execRunBackward _ _ _⟩
  | axisStop => exact ⟨_, out_execAxisStop _ _ _⟩
  | axisHalt => exact ⟨_, out_execAxisHalt _ _ _⟩
  | homeForward => exact ⟨_, out_execHomeForward _ _ _⟩
  | homeBackward => exact ⟨_, out_execHomeBackward _ _ _⟩
  | chopFaultClear => exact ⟨_, out_execChopFaultClear _ _ _⟩
  | stepTimer => exact ⟨_, out_execStepTimer _ _⟩
  | rampWrite => exact ⟨_, out_execRampWrite _ _ _ _ _⟩
  | limit => exact ⟨_, out_execLimit _ _ _ _⟩
  | homeEdge => exact ⟨_, out_execHomeEdge _ _ _⟩
  | chopComparator => exact ⟨_, out_execChopComparator _ _ _ _⟩
  | chopFault => exact ⟨_, out_execChopFault _ _⟩
  | holdCurrent => exact ⟨_, out_execHoldCurrent _ _⟩
  | frameReceived => exact ⟨_, out_execFrameReceived _ _ _ _⟩
  | frameTransmitted => exact ⟨_, out_execFrameTransmitted _ _ _⟩
  | busError => exact ⟨_, out_execBusError _ _ _ _ _⟩
  | integration => exact ⟨_, out_execIntegration _ _⟩
  | busOffRecovery => exact ⟨_, out_execBusOffRecovery _ _⟩
  | txRequest => exact ⟨_, out_execTxRequest _ _ _ _⟩
  | txAbort => exact ⟨_, out_execTxAbort _ _ _ _⟩
  | recover => exact ⟨_, out_execRecover _ _ _⟩
  | pop => exact ⟨_, out_execPop _ _ _⟩
  | episodeStart => exact ⟨_, out_execEpisodeStart _ _ _⟩
  | episodeEnd => exact ⟨_, out_execEpisodeEnd _⟩
  | supplyReset => exact ⟨_, out_execSupplyReset _⟩
  | unstableClear => exact ⟨_, out_execUnstableClear _ _⟩
  | opsecPersist => exact ⟨_, out_execOpsecPersist _⟩
  | powerDown => exact ⟨_, out_execPowerDown _ _ _⟩
  | powerUp => exact ⟨_, out_execPowerUp _ _ _⟩
  | ltrWrite => exact ⟨_, out_execLtrWrite _ _ _⟩
  | powerStateSelect => exact ⟨_, out_execPowerStateSelect _⟩
  | wake => exact ⟨_, out_execWake _ _⟩
  | wakeTimer => exact ⟨_, out_execWakeTimer _⟩
  | xinLoss => exact ⟨_, out_execXinLoss _⟩
  | pllUnlock => exact ⟨_, out_execPllUnlock _⟩
  | clockReset => exact ⟨_, out_execClockReset _⟩
  | powerOnReset => exact ⟨_, out_execPowerOnReset _⟩
  | pinReset => exact ⟨_, out_execPinReset _⟩
  | softwareReset => exact ⟨_, out_execSoftwareReset _ _ _⟩
  | apcPairReset => exact ⟨_, out_execApcPairReset _ _ _ _⟩
  | debugReset => exact ⟨_, out_execDebugReset _⟩
  | boot => exact ⟨_, out_execBoot _ _⟩
  | thermalHold => exact ⟨_, out_execThermalHold _ _⟩
  | programRow => exact ⟨_, out_execProgramRow _ _ _⟩
  | raiseMinVer => exact ⟨_, out_execRaiseMinVer _ _ _⟩
  | rowComplete => exact ⟨_, out_execRowComplete _⟩
  | idcode => exact ⟨_, out_execIdcode _⟩
  | bypass => exact ⟨_, out_execBypass _⟩
  | samplePreload => exact ⟨_, out_execSamplePreload _⟩
  | extest => exact ⟨_, out_execExtest _⟩
  | dbgChal => exact ⟨_, out_execDbgChal _⟩
  | dbgResp => exact ⟨_, out_execDbgResp _ _⟩
  | thermalRead => exact ⟨_, out_execThermalRead _ _⟩
  | i2cTransfer => exact ⟨_, out_execI2cTransfer _ _ _⟩
  | i2cDone => exact ⟨_, out_execI2cDone _ _ _⟩
  | ringSearch => exact ⟨_, out_execRingSearch _⟩
  | recEvent => exact ⟨_, out_execRecEvent _ _ _ _ _ _⟩
  | recordWrite => exact ⟨_, out_execRecordWrite _⟩
  | softwareRecord => exact ⟨_, out_execSoftwareRecord _ _ _⟩
  | freeze => exact ⟨_, out_execFreeze _ _⟩
  | unfreeze => exact ⟨_, out_execUnfreeze _ _⟩
  | cursorSelect => exact ⟨_, out_execCursorSelect _ _ _⟩
  | cursorNewer => exact ⟨_, out_execCursorNewer _ _⟩
  | cursorOlder => exact ⟨_, out_execCursorOlder _ _⟩
  | cursorCopy => exact ⟨_, out_execCursorCopy _ _⟩
  | bistRequest => exact ⟨_, out_execBistRequest _ _ _ _⟩
  | bistRelease => exact ⟨_, out_execBistRelease _ _ _⟩
  | bistStart => exact ⟨_, out_execBistStart _⟩
  | bistComplete => exact ⟨_, out_execBistComplete _ _ _ _ _⟩
  | uplinkFill => exact ⟨_, out_execUplinkFill _ _ _ _ _ _⟩
  | invalidSlot => exact ⟨_, out_execInvalidSlot _ _⟩
  | slotRealign => exact ⟨_, out_execSlotRealign _ _⟩
  | pairLaneAlign => exact ⟨_, out_execPairLaneAlign _⟩
  | pairRecordDiscard => exact ⟨_, out_execPairRecordDiscard _⟩
  | telemFlagChange => exact ⟨_, out_execTelemFlagChange _ _ _ _⟩
  | tripSourceRelease => exact ⟨_, out_execTripSourceRelease _ _⟩
  | wdgWindowOpen => exact ⟨_, out_execWdgWindowOpen _ _⟩
  | loadWindow => exact ⟨_, out_execLoadWindow _⟩
  | arbitrationLoss => exact ⟨_, out_execArbitrationLoss _ _⟩
  | clockReturn => exact ⟨_, out_execClockReturn _⟩
  | debugResume => exact ⟨_, out_execDebugResume _ _⟩
  | patternHoldRepeat => exact ⟨_, out_execPatternHoldRepeat _ _ _⟩
  | hrpUnknownCmd => exact ⟨_, out_execHrpUnknownCmd _ _⟩

/-- What changes at most the parts of a mask keeps the canonical forms; so does Sage's handling after it. -/
theorem keeps_forms_of_out {m : Nat} {s t : State} {o : Host.Outcome State Fault Refusal} (h : Out m s o) (ht : o = .next t)
    (hm : Memory.wf s.mem = true) (hr : Registers.wf s.regs = true) : Memory.wf t.mem = true ∧ Registers.wf t.regs = true := by
  obtain ⟨u, rfl, -, mem, regs, -⟩ := h t ht
  obtain ⟨-, mem', regs', -⟩ := touch_settle (Sub.refl _) u (Touch.rfl' _ u)
  exact ⟨mem' (mem hm), regs' (regs hr)⟩

/-- A tick changes the time, the slew and, where a sample is due, what MSIO touches. -/
theorem touch_idle (s : State) : Touch 0x1020200080800 s (idle s) := by
  have tick : Touch 0x1020200080800 s ((s.setSlewAcc s.slewStep.2).setNow (s.now + s.slewStep.1)) :=
    touch_setNow ((Sub.refl _).up rfl) _ _ (touch_setSlewAcc ((Sub.refl _).up rfl) _ _ (Touch.rfl' _ s))
  exact Touch.ite_ tick (touch_msioSample ((Sub.refl _).up rfl) _ tick)

/-- Settles O4: a command's step by the law of the command and of Sage's handling, an idle step by that of the tick. -/
theorem stepKeepsForms : Obligations.StepKeepsForms := by
  unfold Obligations.StepKeepsForms
  intro s t hm hr h
  unfold step at h
  split at h
  · cases h
    obtain ⟨-, mem, regs, -⟩ := touch_idle s
    exact ⟨mem hm, regs hr⟩
  · next c rest _ =>
    obtain ⟨m, out⟩ := exec_out c (s.setPending rest)
    exact keeps_forms_of_out out h hm hr

/-- Settles O3: the tables of the reset state are empty, so every register reads as its reset value. -/
theorem resetForms : Obligations.ResetForms := by
  unfold Obligations.ResetForms
  exact ⟨rfl, rfl, rfl, rfl, fun _ => rfl⟩

end Sys2Proof.Proofs
end

section
/-! PROOFS. O5: which commands answer a next state. -/
namespace Sys2Proof.Proofs
open Sys2Proof Sys2Proof.Machine Sys2Proof.Laws

/-- A check for what is malformed, turned into one for what is well formed. -/
theorem ite_malformed {p q : Prop} [Decidable p] [Decidable q] (h : p ↔ ¬q) (o : Host.Outcome State Fault Refusal) :
    (if p then .fault .malformed else o) = if q then o else .fault .malformed := by
  by_cases hq : q <;> simp [h, hq]

/-- A command answers a next state where its lists have lengths a sender can send, and is malformed where not: one case for each command
that carries a list, and one for all others. -/
theorem exec_answers (c : Instr) (s : State) : ∃ t, exec c s = if c.wf then .next t else .fault .malformed := by
  cases c with
  | hrpRead a n crc => exact ⟨_, ite_malformed (by simp [Instr.wf]; omega) _⟩
  | hrpWrite a ws crc => exact ⟨_, ite_malformed (by simp [Instr.wf, ← List.length_eq_zero_iff]; omega) _⟩
  | frameReceived c f sof => exact ⟨_, ite_malformed (by simp [Instr.wf]) _⟩
  | safeCopy c net bs => exact ⟨_, ite_malformed (by simp [Instr.wf]) _⟩
  | recEvent code block inst time pay => exact ⟨_, ite_malformed (by simp [Instr.wf]) _⟩
  | thermalRead ts => exact ⟨_, ite_malformed (by simp [Instr.wf]) _⟩
  | thermalHold ts => exact ⟨_, ite_malformed (by simp [Instr.wf]) _⟩
  | dbgResp bs => exact ⟨_, ite_malformed (by simp [Instr.wf]) _⟩
  | heart h groups => exact ⟨_, if_congr (by simp [Instr.wf]) rfl rfl⟩
  | mirror h k step run img outs => exact ⟨_, rfl⟩
  | bulk h k step run img outs => exact ⟨_, rfl⟩
  | setRec h g gen t per part parts legs => exact ⟨_, rfl⟩
  | sampleTake p x i v vdc => exact ⟨_, rfl⟩
  | uplinkFill p ack nak tok react =>
    show ∃ t, execUplinkFill p ack nak tok react s = .next t
    unfold execUplinkFill
    dsimp only
    split <;> exact ⟨_, rfl⟩
  | _ => exact ⟨_, rfl⟩

/-- Settles O5: both directions are the two branches of what a command answers. -/
theorem onlyMalformedStops : Obligations.OnlyMalformedStops := by
  unfold Obligations.OnlyMalformedStops
  refine ⟨fun c s hw => ?_, fun c s hw => ?_⟩ <;> obtain ⟨t, e⟩ := exec_answers c s
  · rw [e, hw]
    rfl
  · rw [e, if_pos hw]
    exact ⟨t, rfl⟩

end Sys2Proof.Proofs
end

section
/-! PROOFS. O9: words in memory (01_register_pages.md R13; 00_scope.md, Notation). -/
namespace Sys2Proof.Proofs
open Sys2Proof Sys2Proof.Machine Sys2Proof.Laws

/-- The bytes of a word, least significant first. -/
theorem wordBytes_getD (v : Word) {i : Nat} (hi : i < 4) : (wordBytes v).getD i 0 = BitVec.ofNat 8 (v.toNat / 2 ^ (8 * i)) := by
  match i, hi with
  | 0, _ => simp [wordBytes]
  | 1, _ => rfl
  | 2, _ => rfl
  | 3, _ => rfl

/-- A byte of a word just stored. -/
theorem read_memPut (s : State) (a : Nat) (v : Word) {i : Nat} (hi : i < 4) :
    Memory.read (s.memPut a v).mem (a + i) = BitVec.ofNat 8 (v.toNat / 2 ^ (8 * i)) := by
  have len : (wordBytes v).length = 4 := rfl
  rw [memPut_eq_memBytes, read_memBytes, if_pos (by omega), Nat.add_sub_cancel_left, wordBytes_getD v hi]

/-- Every byte outside the word reads as before. -/
theorem onlyMem_memPut (s : State) (a : Nat) (v : Word) : OnlyMem a 4 s (s.memPut a v) := by
  intro x hx
  have len : (wordBytes v).length = 4 := rfl
  rw [memPut_eq_memBytes, read_memBytes, if_neg (by omega)]

/-- Settles O9: the word read back is put together from the bytes stored. -/
theorem memoryWords : Obligations.MemoryWords := by
  unfold Obligations.MemoryWords
  intro a v s
  refine ⟨?_, onlyMem_memPut s a v, fun i hi => read_memPut s a v hi⟩
  have b0 := read_memPut s a v (i := 0) (by decide)
  have b1 := read_memPut s a v (i := 1) (by decide)
  have b2 := read_memPut s a v (i := 2) (by decide)
  have b3 := read_memPut s a v (i := 3) (by decide)
  rw [Nat.add_zero] at b0
  unfold State.mem32
  rw [b0, b1, b2, b3]
  refine BitVec.eq_of_toNat_eq ?_
  have hv := v.isLt
  simp only [BitVec.toNat_ofNat]
  omega

end Sys2Proof.Proofs
end

section
/-! PROOFS. Commands at a header page, and the fields of the header they set (01_register_pages.md R17, R29). -/
namespace Sys2Proof.Proofs
open Sys2Proof Sys2Proof.Machine Sys2Proof.Laws

/-- A granted command at a header page runs on the state the fabric has granted it. -/
theorem runs_header {c : Instr} {s u : State} {r : Req} {b : Block} {o : Nat} {k : State → State} {P : State → Prop}
    (e : exec c s = cmdAt r (hdr b + o) k s) (ho : o < 0x1000) (hg : s.grants r (hdr b + o) true = true)
    (hu : k (s.granted r b) = u) (h : P u) : Runs c s P := by
  refine ⟨u, ?_, h⟩
  rw [e]
  unfold cmdAt
  rw [access_of_grants_at hg (blockAt_hdr b ho), hu]
  rfl

theorem onlyRegs_granted (l : List Nat) (s : State) (r : Req) (b : Block) : OnlyRegs l s (s.granted r b) :=
  fun a _ => granted_rd s r b a

@[simp] theorem granted_get (s : State) (r : Req) (b : Block) (f : Fld) : (s.granted r b).get f = s.get f := by
  simp [State.get, State.use]

@[simp] theorem granted_inbox (s : State) (r : Req) (b : Block) : (s.granted r b).sage.inbox = s.sage.inbox := by
  obtain ⟨l, w, h⟩ := fabUse_eq (reqIsland r) (blockIsland b) 0 s
  unfold State.granted
  rw [h]
  rfl

@[simp] theorem put_sage (s : State) (f : Fld) (v : Nat) : (s.put f v).sage = s.sage := rfl

/-- A field of one bit shows the bit put. -/
theorem shows_put_bit (s : State) (f : Fld) {v : Nat} (hv : v < 2) (h : f.lo < 32) (hw : f.w = 1) : (s.put f v).shows f = v := by
  rw [shows_put s f v (by omega), hw, pow_one, Nat.mod_eq_of_lt hv]

/-- A field of one bit that the device takes as 1 shows 1, where no copies differ. -/
theorem shows_of_on {s : State} {f : Fld} (hs : s.tmr = []) (hw : f.w = 1) (h : s.on f = true) : s.shows f = 1 := by
  have lt : s.shows f < 2 ^ f.w := fld_lt _ _ _
  have ne : s.get f ≠ 0 := by simpa [State.on] using h
  rw [get_eq_shows' s f hs] at ne
  rw [hw] at lt
  omega

/-- The event of an error bit joins those that wait at Sage (R29, R34). -/
theorem errEvent_inbox (b : Block) (i : Nat) (s : State) :
    (errEvent b i s).sage.inbox = s.sage.inbox ++
      [⟨if i = 0 then 39 else if i = 1 then 1 else if i = 2 then 40 else 42, nOther (blockCode b), false⟩] := by
  unfold errEvent State.errSet
  split <;> rfl

/-- Only the error event is told to Sage: the registers are those after the error bit was set. -/
theorem errEvent_rd (b : Block) (i : Nat) (s : State) (a : Nat) : (errEvent b i s).rd a = (s.errSet (hdr b) i).rd a := rfl

theorem errEvent_shows (b : Block) (i : Nat) (s : State) (f : Fld) : (errEvent b i s).shows f = (s.errSet (hdr b) i).shows f := rfl

/-- An error bit that was 0 for the device shows 1 once it is set. -/
theorem errSet_shows {s : State} {h i : Nat} (hi : i < 32) (e : s.on (hErr h i) = false) : (s.errSet h i).shows (hErr h i) = 1 := by
  unfold State.errSet
  rw [if_neg (by simp [e])]
  exact (shows_put_ne _ _ (by simp)).trans (shows_put_bit s _ (by decide) hi rfl)

/-- Setting an error bit changes ERR and IRQ_RAW of the header alone. -/
theorem onlyRegs_errSet {l : List Nat} {s t : State} {h : Nat} (i : Nat) (he : h + 0x1C ∈ l) (hr : h + 0x10 ∈ l)
    (k : OnlyRegs l s t) : OnlyRegs l s (t.errSet h i) := by
  unfold State.errSet
  split
  · exact k
  · exact onlyRegs_put _ hr (onlyRegs_put _ he k)

/-- A field of a register other than ERR and IRQ_RAW of the header shows what it showed. -/
theorem errSet_shows_ne {s : State} {h i : Nat} {f : Fld} (he : f.addr ≠ h + 0x1C) (hr : f.addr ≠ h + 0x10) :
    (s.errSet h i).shows f = s.shows f := by
  have k := onlyRegs_errSet (l := [h + 0x1C, h + 0x10]) (h := h) i (by simp) (by simp) (OnlyRegs.refl _ s)
  unfold State.shows
  rw [k f.addr (by simp [he, hr])]

end Sys2Proof.Proofs
end

section
/-! PROOFS. O10: TMR_CLR, CRC_EN and the passes of the running CRC (01_register_pages.md R17, R30, R31). -/
namespace Sys2Proof.Proofs
open Sys2Proof Sys2Proof.Machine Sys2Proof.Laws

/-- A change of CRC_EN is stored and ends the pass that ran; a run that begins has no completed pass. -/
theorem crcEn_eq {b : Block} {on : Bool} {s : State} (hc : capCrc b = true) (h : s.on (hCtrl (hdr b) 2) = !on) :
    crcEn b on s =
      if on then ((s.putB (hCtrl (hdr b) 2) on).setCrcRun (Tab.del s.crcRun (hdr b))).lower (hStat (hdr b) 3)
      else (s.putB (hCtrl (hdr b) 2) on).setCrcRun (Tab.del s.crcRun (hdr b)) := by
  unfold crcEn
  rw [if_neg (by cases on <;> simp [hc, h])]

/-- A run that begins: CTRL.crc_en is 1, STAT.crc_valid 0, and no pass is spoilt. -/
theorem crcEn_begins {b : Block} {s : State} (hc : capCrc b = true) (h : s.on (hCtrl (hdr b) 2) = false) :
    (crcEn b true s).shows (hCtrl (hdr b) 2) = 1 ∧ (crcEn b true s).shows (hStat (hdr b) 3) = 0 ∧
      Tab.find (crcEn b true s).crcRun (hdr b) = none ∧ OnlyRegs [hdr b + 8, hdr b + 0x0C] s (crcEn b true s) := by
  rw [crcEn_eq hc h, if_pos rfl]
  refine ⟨(shows_put_ne _ _ (by simp)).trans (shows_put_bit s _ (by decide) (by simp) rfl),
    shows_put_bit _ _ (by decide) (by simp) rfl, find_del_same _ _, ?_⟩
  exact onlyRegs_put _ (by simp) (onlyRegs_put (s := s) (u := s) _ (by simp) (OnlyRegs.refl _ s))

/-- A run that ends changes CTRL alone. -/
theorem crcEn_ends {b : Block} {s : State} (hc : capCrc b = true) (h : s.on (hCtrl (hdr b) 2) = true) :
    (crcEn b false s).shows (hCtrl (hdr b) 2) = 0 ∧ OnlyRegs [hdr b + 8] s (crcEn b false s) := by
  rw [crcEn_eq hc h, if_neg (by simp)]
  exact ⟨shows_put_bit s _ (by decide) (by simp) rfl, onlyRegs_put (s := s) (u := s) _ (by simp) (OnlyRegs.refl _ s)⟩

/-- A pass in which a covered value changed is discarded. -/
theorem crcPass_discarded {b : Block} {s : State} (hon : s.on (hCtrl (hdr b) 2) = true) (run : s.isRun (blockIsland b) = true)
    (h : Tab.get 0 s.crcRun (hdr b) = 1) : crcPass b s = s.setCrcRun (Tab.del s.crcRun (hdr b)) := by
  unfold crcPass
  rw [if_neg (by simp [hon, run]), if_pos h]

/-- The state once a pass has written its CRC and set crc_valid. -/
def crcStored (b : Block) (s : State) : State := (s.wr (hdr b + 0x2C) (s.crcOf b)).raise (hStat (hdr b) 3)

/-- A completed pass stores its CRC and compares it with CRC_REF. -/
theorem crcPass_completed {b : Block} {s : State} (hon : s.on (hCtrl (hdr b) 2) = true) (run : s.isRun (blockIsland b) = true)
    (h : Tab.get 0 s.crcRun (hdr b) ≠ 1) :
    crcPass b s = if s.crcOf b = s.rd (hdr b + 0x28) then (crcStored b s).lower (hStat (hdr b) 2)
      else errEvent b errCrcMis ((crcStored b s).raise (hStat (hdr b) 2)) := by
  have ref : (crcStored b s).rd (hdr b + 0x28) = s.rd (hdr b + 0x28) := by
    unfold crcStored State.raise State.put
    rw [rd_wr_ne _ _ (by simp), rd_wr_ne _ _ (by simp)]
  unfold crcPass
  rw [if_neg (by simp [hon, run]), if_neg h, ← ref]
  rfl

theorem crcStored_put_rd (b : Block) (s : State) (v : Nat) :
    ((crcStored b s).put (hStat (hdr b) 2) v).rd (hdr b + 0x2C) = s.crcOf b := by
  unfold crcStored State.raise State.put
  rw [rd_wr_ne _ _ (by simp), rd_wr_ne _ _ (by simp), rd_wr_same]

theorem crcStored_put_valid (b : Block) (s : State) (v : Nat) :
    ((crcStored b s).put (hStat (hdr b) 2) v).shows (hStat (hdr b) 3) = 1 :=
  (shows_put_disj _ _ (by simp)).trans (shows_put_bit _ _ (by decide) (by simp) rfl)

theorem onlyRegs_crcStored_put {l : List Nat} (b : Block) (s : State) (v : Nat) (hn : hdr b + 0x2C ∈ l) (hs : hdr b + 0x0C ∈ l) :
    OnlyRegs l s ((crcStored b s).put (hStat (hdr b) 2) v) :=
  onlyRegs_put _ hs (onlyRegs_put _ hs (onlyRegs_wr _ hn (OnlyRegs.refl l s)))

/-- Storing the CRC changes no field of ERR. -/
theorem crcStored_put_on_err (b : Block) (s : State) (v i : Nat) :
    ((crcStored b s).put (hStat (hdr b) 2) v).on (hErr (hdr b) i) = s.on (hErr (hdr b) i) := by
  rw [on_put_ne _ _ (by simp)]
  exact (on_put_ne _ _ (by simp)).trans (on_wr_ne _ _ (by simp))

/-- A pass whose CRC is CRC_REF's. -/
theorem crcPass_agrees {b : Block} {s : State} (hon : s.on (hCtrl (hdr b) 2) = true) (run : s.isRun (blockIsland b) = true)
    (h : Tab.get 0 s.crcRun (hdr b) ≠ 1) (e : s.crcOf b = s.rd (hdr b + 0x28)) :
    (crcPass b s).rd (hdr b + 0x2C) = s.crcOf b ∧ (crcPass b s).shows (hStat (hdr b) 3) = 1 ∧
      (crcPass b s).shows (hStat (hdr b) 2) = 0 ∧ OnlyRegs [hdr b + 0x2C, hdr b + 0x0C] s (crcPass b s) := by
  rw [crcPass_completed hon run h, if_pos e]
  exact ⟨crcStored_put_rd b s 0, crcStored_put_valid b s 0, shows_put_bit _ _ (by decide) (by simp) rfl,
    onlyRegs_crcStored_put b s 0 (by simp) (by simp)⟩

/-- A pass whose CRC is not CRC_REF's: crc_mis in STAT and in ERR, and an event at Sage. -/
theorem crcPass_differs {b : Block} {s : State} (hon : s.on (hCtrl (hdr b) 2) = true) (run : s.isRun (blockIsland b) = true)
    (h : Tab.get 0 s.crcRun (hdr b) ≠ 1) (e : s.crcOf b ≠ s.rd (hdr b + 0x28)) :
    (crcPass b s).rd (hdr b + 0x2C) = s.crcOf b ∧ (crcPass b s).shows (hStat (hdr b) 3) = 1 ∧
      (crcPass b s).shows (hStat (hdr b) 2) = 1 ∧ (crcPass b s).sage.inbox = s.sage.inbox ++ [⟨40, nOther (blockCode b), false⟩] ∧
      (s.on (hErr (hdr b) 2) = false → (crcPass b s).shows (hErr (hdr b) 2) = 1) ∧
      OnlyRegs [hdr b + 0x2C, hdr b + 0x0C, hdr b + 0x1C, hdr b + 0x10] s (crcPass b s) := by
  rw [crcPass_completed hon run h, if_neg e]
  refine ⟨?now, ?valid, ?mis, errEvent_inbox b errCrcMis _, ?err, ?regs⟩
  case now =>
    rw [errEvent_rd, onlyRegs_errSet (l := [hdr b + 0x1C, hdr b + 0x10]) _ (by simp) (by simp) (OnlyRegs.refl _ _) _ (by simp)]
    exact crcStored_put_rd b s 1
  case valid =>
    rw [errEvent_shows, errSet_shows_ne (by simp) (by simp)]
    exact crcStored_put_valid b s 1
  case mis =>
    rw [errEvent_shows, errSet_shows_ne (by simp) (by simp)]
    exact shows_put_bit _ _ (by decide) (by simp) rfl
  case err =>
    intro he
    rw [errEvent_shows]
    exact errSet_shows (by decide) ((crcStored_put_on_err b s 1 2).trans he)
  case regs =>
    intro a ha
    rw [errEvent_rd]
    exact onlyRegs_errSet _ (by simp) (by simp) (onlyRegs_crcStored_put b s 1 (by simp) (by simp)) a ha

/-- Settles O10: the control bits act on the granted state, and a pass is discarded, agrees with CRC_REF or differs from it. -/
theorem headerControl : Obligations.HeaderControl := by
  unfold Obligations.HeaderControl
  refine ⟨?clear, ?begins, ?ends, ?completed, ?discarded⟩
  case clear =>
    intro r b s hg
    refine runs_header rfl (by decide) hg rfl ⟨rd_wr_same _ _ _, ?_⟩
    exact onlyRegs_wr _ (by simp) (onlyRegs_granted _ s r b)
  case begins =>
    intro r b s hg hc hon
    refine runs_header rfl (by decide) hg rfl ?_
    obtain ⟨ctrl, valid, pass, regs⟩ := crcEn_begins (s := s.granted r b) hc (by simpa using hon)
    exact ⟨ctrl, valid, pass, fun a ha => (regs a ha).trans (granted_rd s r b a)⟩
  case ends =>
    intro r b s hg hc hon
    refine runs_header rfl (by decide) hg rfl ?_
    obtain ⟨ctrl, regs⟩ := crcEn_ends (s := s.granted r b) hc (by simpa using hon)
    exact ⟨ctrl, fun a ha => (regs a ha).trans (granted_rd s r b a)⟩
  case completed =>
    intro b s hon run h
    refine ⟨_, rfl, ?_⟩
    by_cases e : s.crcOf b = s.rd (hdr b + 0x28)
    · obtain ⟨now, valid, mis, regs⟩ := crcPass_agrees hon run h e
      exact ⟨now, valid, fun _ => ⟨mis, regs⟩, fun ne => absurd e ne⟩
    · obtain ⟨now, valid, rest⟩ := crcPass_differs hon run h e
      exact ⟨now, valid, fun eq => absurd eq e, fun _ => rest⟩
  case discarded =>
    intro b s hon run h
    refine ⟨_, rfl, ?_⟩
    rw [crcPass_discarded hon run h]
    exact ⟨find_del_same _ _, OnlyRegs.refl _ s⟩

end Sys2Proof.Proofs
end

section
/-! PROOFS. O11, O12: commits of a block's shadows, their aborts and their refusals (01_register_pages.md R21 to R23). -/
namespace Sys2Proof.Proofs
open Sys2Proof Sys2Proof.Machine Sys2Proof.Laws

/-- Without a frame of the block in the present tick, a command meets the state as it is (R24). -/
theorem frameFirst_of_none {b : Block} {s : State} (h : s.frameDue b = none) : frameFirst b s = s := by
  unfold frameFirst
  rw [h]

/-- A COMMIT of the next generation, in a block that is on, waits for its boundary (R21). -/
theorem commitGo_pending {b : Block} {gen : Nat} {s : State} (hc : capCmt b = true) (hp : s.on (hCmtPend (hdr b)) = false)
    (hgen : gen = (s.get (hGenApplied (hdr b)) + 1) % 256) (hr : commitRefusal b s = none) (hon : s.on (hCtrl (hdr b) 0) = true) :
    commitGo b gen s = (s.put (hGenPending (hdr b)) gen).raise (hCmtPend (hdr b)) := by
  have on' : (s.put (hGenPending (hdr b)) gen).on (hCtrl (hdr b) 0) = true := (on_put_ne _ _ (by simp)).trans hon
  unfold commitGo
  rw [if_neg (by simp [hc]), if_neg (by simp [hp, hgen]), hr]
  exact if_pos on'

/-- A COMMIT during a pending one, or of another generation than the next, is refused (R22). -/
theorem commitGo_refused {b : Block} {gen : Nat} {s : State} (hc : capCmt b = true)
    (h : s.on (hCmtPend (hdr b)) = true ∨ gen ≠ (s.get (hGenApplied (hdr b)) + 1) % 256) : commitGo b gen s = cmtRefused b s := by
  unfold commitGo
  rw [if_neg (by simp [hc]), if_pos (by simpa using h)]

/-- Dropping commit shadows changes no register and no boundary shadow. -/
theorem dropCmt_rd (c : Nat → Bool) (s : State) (a : Nat) : (dropCmt c s).rd a = s.rd a := rfl
theorem dropCmt_shows (c : Nat → Bool) (s : State) (f : Fld) : (dropCmt c s).shows f = s.shows f := rfl
theorem dropCmt_bnd (c : Nat → Bool) (s : State) : (dropCmt c s).bnd = s.bnd := rfl
theorem dropCmt_cmt (c : Nat → Bool) (s : State) : (dropCmt c s).cmt = s.cmt.filter (fun x => !c x.1) := rfl

/-- An abort lowers cmt_pend and drops the block's commit shadows (R23). -/
theorem commitAbort_eq {b : Block} (hc : capCmt b = true) (s : State) :
    commitAbort b s = dropCmt (ownReg b) (s.lower (hCmtPend (hdr b))) := by
  unfold commitAbort
  exact if_neg (by simp [hc])

/-- A word with go = abort = 1 is refused (R22). -/
theorem commitWrite_both {b : Block} {d : Word} {s : State} (hc : capCmt b = true) (h : d.fld 8 2 = 3) :
    commitWrite b d s = cmtRefused b s := by
  have go : d.fld 8 1 = 1 ∧ d.fld 9 1 = 1 := by
    unfold Word.fld at h ⊢
    omega
  unfold commitWrite
  rw [if_neg (by simp [hc]), if_pos (by simp [go])]

/-- A refused commit sets cmt_gen in ERR and cmt_ref in IRQ_RAW, tells Sage, and leaves memory, the shadows and every other register. -/
structure RefusesCommit (b : Block) (s t : State) : Prop where
  keeps : KeepsBut (errRegs b) s t
  err : t.shows (hErr (hdr b) 3) = 1
  raw : t.shows (hRaw (hdr b) 2) = 1
  inbox : t.sage.inbox = s.sage.inbox ++ [⟨42, nOther (blockCode b), false⟩]

theorem refusesCommit_cmtRefused (b : Block) {s : State} (hs : s.tmr = []) : RefusesCommit b s (cmtRefused b s) where
  keeps := ((KeepsBut.refl _ s).errEvent b errCmtGen (by simp [errRegs]) (by simp [errRegs])).wr (by simp [errRegs]) _
  err := by
    refine (shows_put_ne _ _ (by simp)).trans ?_
    rw [errEvent_shows]
    cases e : s.on (hErr (hdr b) 3) with
    | false => exact errSet_shows (by decide) e
    | true =>
      unfold State.errSet
      rw [errCmtGen, if_pos e]
      exact shows_of_on hs rfl e
  raw := shows_put_bit _ _ (by decide) (by simp) rfl
  inbox := errEvent_inbox b errCmtGen s

/-- The fabric's grant is no part of what a refused commit leaves. -/
theorem RefusesCommit.of_granted {s t : State} {r : Req} {b : Block} (h : RefusesCommit b (s.granted r b) t) : RefusesCommit b s t where
  keeps := ⟨h.keeps.mem.trans (granted_mem s r b), h.keeps.cmt.trans (granted_cmt s r b), h.keeps.bnd.trans (granted_bnd s r b),
    fun a ha => (h.keeps.regs a ha).trans (granted_rd s r b a)⟩
  err := h.err
  raw := h.raw
  inbox := by rw [h.inbox, granted_inbox]

/-- COMMIT has no field that is cleared by writing 1, in every block that commits (R17). -/
theorem commit_no_w1c {b : Block} (hc : capCmt b = true) :
    ∃ g, specAt (hdr b + 0x20) = some g ∧ ∀ f ∈ g.fields, f.acc ≠ .w1c := by
  have key : (specAt (hdr b + 0x20)).any (fun g => g.fields.all (fun f => decide (f.acc ≠ .w1c))) = true := by
    cases b with
    | adc u => revert u; decide
    | fab | sys | hpm | recorder | bist | can c | apc | hrp => cases hc
    | _ => rfl
  obtain ⟨g, hg, hf⟩ := Option.any_eq_true _ _ |>.mp key
  exact ⟨g, hg, by simpa using hf⟩

/-- A granted write of COMMIT, without a frame in the present tick, is a command to the block's shadows. -/
theorem writeAt_commit {s : State} {r : Req} {b : Block} (d hw : Word) (hg : s.grants r (hdr b + 0x20) true = true)
    (hc : capCmt b = true) (hs : s.tmr = []) (hf : s.frameDue b = none) :
    writeAt r (hdr b + 0x20) .word d hw s = commitWrite b d (s.granted r b) := by
  obtain ⟨ht, hl, -⟩ := hdr_apart b (show 0x20 < 0x1000 by decide)
  obtain ⟨g, spec, w1c⟩ := commit_no_w1c hc
  rw [writeAt_granted d hw hg (blockAt_hdr b (by decide)), regArrive_eq r d hw (by simpa using hf) ht hl, keepSet_of_noW1c r hw _ spec w1c]
  unfold regWrite
  rw [voteReg_of_agree (by simpa using hs), if_neg (by omega), if_pos rfl]

/-- Settles O11: a commit of the next generation writes GEN and STAT alone; an abort filters the commit shadows. -/
theorem commitAndAbort : Obligations.CommitAndAbort := by
  unfold Obligations.CommitAndAbort
  refine ⟨?commit, ?abort⟩
  case commit =>
    intro r b gen s hg hc hp hgen hf hr hon
    have first := frameFirst_of_none (b := b) (s := s.granted r b) (by simpa using hf)
    have pending := commitGo_pending (s := s.granted r b) hc (by simpa using hp) (by simpa using hgen) hr (by simpa using hon)
    refine runs_header rfl (by decide) hg ((congrArg (commitGo b gen.val) first).trans pending) ?_
    refine ⟨?_, shows_put_bit _ _ (by decide) (by simp) rfl, granted_cmt s r b, granted_bnd s r b, ?_⟩
    · refine (shows_put_ne _ _ (by simp)).trans ?_
      rw [shows_put _ _ _ (by simp)]
      exact Nat.mod_eq_of_lt gen.isLt
    · exact onlyRegs_put _ (by simp) (onlyRegs_put _ (by simp) (onlyRegs_granted _ s r b))
  case abort =>
    intro r b s hg hc hf
    have first := frameFirst_of_none (b := b) (s := s.granted r b) (by simpa using hf)
    refine runs_header rfl (by decide) hg ((congrArg (commitAbort b) first).trans (commitAbort_eq hc _)) ⟨?_, ?_, ?_, ?_⟩
    · rw [dropCmt_shows]
      exact shows_put_bit _ _ (by decide) (by simp) rfl
    · intro a ha
      rw [dropCmt_rd]
      exact onlyRegs_put _ (by simp) (onlyRegs_granted _ s r b) a ha
    · rw [dropCmt_bnd]
      exact granted_bnd s r b
    · rw [dropCmt_cmt]
      exact congrArg _ (granted_cmt s r b)

/-- Settles O12: each of the refused words comes to the same refusal on the granted state. -/
theorem refusedCommit : Obligations.RefusedCommit := by
  unfold Obligations.RefusedCommit
  refine ⟨?command, ?word⟩
  case command =>
    intro r b gen s hg hc hs hf h
    have first := frameFirst_of_none (b := b) (s := s.granted r b) (by simpa using hf)
    refine runs_header rfl (by decide) hg
      ((congrArg (commitGo b gen.val) first).trans (commitGo_refused hc (by simpa using h))) ?_
    obtain ⟨keeps, err, raw, inbox⟩ := (refusesCommit_cmtRefused b (s := s.granted r b) (by simpa using hs)).of_granted
    exact ⟨keeps.cmt, keeps.bnd, keeps.mem, err, raw, inbox, keeps.regs⟩
  case word =>
    intro r b d hw s hg hc hs hf hd
    refine runs_registerWrite ?_
    rw [writeAt_commit d hw hg hc hs hf, commitWrite_both hc hd]
    obtain ⟨keeps, err, raw, -⟩ := (refusesCommit_cmtRefused b (s := s.granted r b) (by simpa using hs)).of_granted
    exact ⟨keeps.cmt, keeps.bnd, keeps.mem, err, raw, keeps.regs⟩

end Sys2Proof.Proofs
end

section
/-! PROOFS. O15 fails: the reply of the host port carries the value the device uses of HRP_LAST, which a statement without a
hypothesis on the copies of that register does not fix (01_register_pages.md R28, R37, R39). -/
namespace Sys2Proof.Proofs
open Sys2Proof Sys2Proof.Machine Sys2Proof.Laws

/-- Sage's handling of events sends nothing on a bus. -/
theorem settle_bus (s : State) : (settle s).bus = s.bus := by
  obtain ⟨-, -, -, same⟩ := touch_settle (Sub.refl _) s (Touch.rfl' _ s)
  exact same .bus (by decide)

/-- The second byte of a reply is its status code (R37). -/
theorem hrpReply_code (code index : Nat) (ws : List Word) : (hrpReply code index ws)[1]? = some (BitVec.ofNat 8 code) := rfl

/-- What an unknown CMD comes to while the port answers (R39). -/
theorem exec_hrpUnknownCmd {cmd : Fin 256} {s : State} (on : s.hrpOn = true) (h1 : cmd.val ≠ 0x0B) (h2 : cmd.val ≠ 0x02) :
    exec (.hrpUnknownCmd cmd) s = .next (settle (hrpSend (hrpEnd cmd.val 2 0 (s.setBus { s.bus with hrpData := [] })))) := by
  show done _ = _
  rw [if_neg (by simp [on, h1, h2])]
  rfl

/-- A state after reset with the port on, in which two copies of HRP_LAST differ from the third in bit 0: the vote over the copies turns
that bit of whatever copy A holds. -/
def hrpCopiesDiffer : State := (State.reset.raise fHRP_CFG_hrp_en).setTmr [(aHRP_LAST, (1, 1))]

/-- The port sends code 3 for an unknown CMD in that state, though HRP_LAST holds code 2. -/
theorem hrpCopiesDiffer_code :
    (hrpSend (hrpEnd 0 2 0 (hrpCopiesDiffer.setBus { hrpCopiesDiffer.bus with hrpData := [] }))).bus.hrpOut[1]? = some 3 := by
  rfl

/-- Refutes O15: with differing copies of HRP_LAST, the reply to an unknown CMD carries the code the vote gives, 3, and not 2. -/
theorem not_hostPort : ¬ Obligations.HostPort := by
  unfold Obligations.HostPort
  rintro ⟨-, -, -, -, -, -, unknown⟩
  have on : hrpCopiesDiffer.hrpOn = true := rfl
  obtain ⟨u, run, -, out, -⟩ := unknown 0 hrpCopiesDiffer on (by decide) (by decide)
  rw [exec_hrpUnknownCmd on (by decide) (by decide), Host.Outcome.next.injEq] at run
  have bus := congrArg State.bus run
  rw [settle_bus, settle_bus] at bus
  have sent := hrpCopiesDiffer_code
  have said := hrpReply_code 2 0 []
  rw [← out, ← bus] at said
  exact absurd (sent.symm.trans said) (by decide)

end Sys2Proof.Proofs
end

section
/-! PROOFS. The traffic of the fabric: what the requests and the events that blocks send of their own leave of the wardens and of FAB's
registers (02_islands_and_credits.md R48, R53, R54). -/
namespace Sys2Proof.Proofs
open Sys2Proof Sys2Proof.Machine Sys2Proof.Laws

/-- A warden without the state of its clock (R53): what its sequence, its epoch and its accepted requests are. -/
def sequence (w : Warden) : Warden := { w with gated := false, idle := 0 }

/-- Two wardens at the same place of their sequence. -/
theorem st_of_sequence {v w : Warden} (h : sequence v = sequence w) : v.st = w.st := (congrArg Warden.st h :)
theorem epoch_of_sequence {v w : Warden} (h : sequence v = sequence w) : v.epoch = w.epoch := (congrArg Warden.epoch h :)
theorem purpose_of_sequence {v w : Warden} (h : sequence v = sequence w) : v.purpose = w.purpose := (congrArg Warden.purpose h :)
theorem accepted_of_sequence {v w : Warden} (h : sequence v = sequence w) : v.accepted = w.accepted := (congrArg Warden.accepted h :)

/-- The addresses of FAB's page that no traffic writes: those that are no ABSENT counter, and not in a list. -/
def FabQuiet (l : List Nat) (a : Nat) : Prop := pageOf a = 1 ∧ (∀ i, a ≠ aFAB_ABSENT_CNT i) ∧ a ∉ l

/-- Traffic went over the fabric, and what it counts: every warden is where it was in its sequence, and of FAB's registers at most the
ABSENT counters and those of a list changed. -/
structure FabTraffic (l : List Nat) (s t : State) : Prop where
  warden : ∀ j, sequence (t.warden j) = sequence (s.warden j)
  regs : ∀ a, FabQuiet l a → t.rd a = s.rd a

variable {l : List Nat} {x s t u : State}

theorem FabTraffic.refl (l : List Nat) (s : State) : FabTraffic l s s := ⟨fun _ => rfl, fun _ _ => rfl⟩

theorem FabTraffic.trans (h : FabTraffic l s t) (k : FabTraffic l t u) : FabTraffic l s u :=
  ⟨fun j => (k.warden j).trans (h.warden j), fun a ha => (k.regs a ha).trans (h.regs a ha)⟩

/-- What changes no warden and no register of FAB is no traffic. -/
theorem FabTraffic.touch {m : Nat} (h : FabTraffic l x s) (k : Touch m s s → Touch m s u)
    (hm : (has m 26 || has m 1) = false) : FabTraffic l x u := by
  obtain ⟨-, -, -, same⟩ := k (Touch.rfl' m s)
  obtain ⟨hw, hp⟩ := Bool.or_eq_false_iff.mp hm
  have wardens : u.wardens = s.wardens := same .wardens hw
  refine h.trans ⟨fun j => ?_, fun a ha => same (.regs 1) hp a ha.1⟩
  unfold State.warden
  rw [wardens]

/-- A register written outside FAB's page. -/
theorem FabTraffic.wr {a k : Nat} (h : FabTraffic l x s) (e : pageOf a = k) (hk : (k == 1) = false) (v : Word) :
    FabTraffic l x (s.wr a v) := by
  refine h.trans ⟨fun _ => rfl, fun b hb => rd_wr_ne s v ?_⟩
  rintro rfl
  exact beq_eq_false_iff_ne.mp hk (e.symm.trans hb.1)

theorem FabTraffic.put {f : Fld} {k : Nat} (h : FabTraffic l x s) (e : pageOf f.addr = k) (hk : (k == 1) = false) (v : Nat) :
    FabTraffic l x (s.put f v) := h.wr e hk _

theorem FabTraffic.raise {f : Fld} {k : Nat} (h : FabTraffic l x s) (e : pageOf f.addr = k) (hk : (k == 1) = false) :
    FabTraffic l x (s.raise f) := h.wr e hk _

theorem FabTraffic.incr {f : Fld} {k : Nat} (h : FabTraffic l x s) (e : pageOf f.addr = k) (hk : (k == 1) = false) :
    FabTraffic l x (s.incr f) := h.wr e hk _

theorem FabTraffic.incrSat {f : Fld} {k : Nat} (h : FabTraffic l x s) (e : pageOf f.addr = k) (hk : (k == 1) = false) :
    FabTraffic l x (s.incrSat f) := h.wr e hk _

/-- A counter of FAB that the list names. -/
theorem FabTraffic.count {f : Fld} (h : FabTraffic l x s) (hf : f.addr ∈ l) (v : Nat) : FabTraffic l x (s.put f v) := by
  refine h.trans ⟨fun _ => rfl, fun b hb => rd_wr_ne s _ ?_⟩
  rintro rfl
  exact hb.2.2 hf

theorem FabTraffic.ite {c : Prop} [Decidable c] (h : FabTraffic l x s) (k : FabTraffic l x t) : FabTraffic l x (if c then s else t) := by
  split <;> assumption

/-- A step that is taken or left out. -/
theorem FabTraffic.maybe {c : Prop} [Decidable c] (h : FabTraffic l x s) (k : FabTraffic l x s → FabTraffic l x t) :
    FabTraffic l x (if c then t else s) := .ite (k h) h

theorem FabTraffic.when {c : Bool} {f : State → State} (h : FabTraffic l x s) (k : FabTraffic l x s → FabTraffic l x (f s)) :
    FabTraffic l x (s.when c f) := by
  unfold State.when
  split
  · exact k h
  · exact h

theorem FabTraffic.each {α : Type} {as : List α} {f : α → State → State} (h : FabTraffic l x s)
    (k : ∀ a y, FabTraffic l x y → FabTraffic l x (f a y)) : FabTraffic l x (s.each as f) := by
  unfold State.each
  induction as generalizing s with
  | nil => exact h
  | cons a r ih => exact ih (k a s h)

/-- A warden whose sequence stays. -/
theorem FabTraffic.putWarden {i : Nat} {w : Warden} (h : FabTraffic l x s) (hw : sequence w = sequence (s.warden i)) :
    FabTraffic l x (s.putWarden i w) := by
  refine h.trans ⟨fun j => ?_, fun _ _ => rfl⟩
  show sequence (Tab.get {} (Tab.set {} s.wardens i w) j) = _
  rw [get_set]
  split
  · rename_i e; rw [hw, e]
  · rfl

theorem FabTraffic.fabUse (h : FabTraffic l x s) (q i c : Nat) : FabTraffic l x (fabUse q i c s) :=
  FabTraffic.putWarden (.ite h (h.touch (touch_putLink (Sub.refl _) _ _ _ _ _) rfl)) (by split <;> rfl)

theorem FabTraffic.fabAbsent (h : FabTraffic l x s) (i : Nat) : FabTraffic l x (fabAbsent i s) := by
  refine h.trans ⟨fun _ => rfl, fun a ha => rd_wr_ne s _ ?_⟩
  exact fun e => ha.2.1 i e.symm

theorem FabTraffic.fabSend (h : FabTraffic l x s) (q i c : Nat) {k : State → State}
    (hk : ∀ y, FabTraffic l x y → FabTraffic l x (k y)) : FabTraffic l x (fabSend q i c k s) :=
  .ite (hk _ (h.fabUse q i c)) (h.fabAbsent i)

theorem FabTraffic.recDefer (h : FabTraffic l x s) (full : Bool) (t : Nat) : FabTraffic l x (recDefer full t s) :=
  h.touch (touch_recDefer (Sub.refl _) _ _ _) rfl

/-- An event on its way to REC (R50). -/
theorem FabTraffic.recEvent (h : FabTraffic l x s) (code block inst time : Nat) (pay : List Byte) :
    FabTraffic l x (recEvent code block inst time pay s) := by
  unfold Machine.recEvent
  refine .ite (((h.incr (f := fREC_DEF_ABS_cnt) (k := 13) rfl rfl).fabAbsent 14).recDefer _ _) ?_
  have sent : FabTraffic l x (match eventLink block inst with | some (q, c) => Machine.fabUse q 14 c s | none => s) := by
    split
    · exact h.fabUse _ _ _
    · exact h
  have counted := sent.incr (f := fREC_EVT_IN_cnt) (k := 13) rfl rfl
  refine .ite ((counted.incr (f := fREC_DEF_FULL_cnt) (k := 13) rfl rfl).recDefer _ _) ?_
  have placed := counted.touch (touch_placeDeferred (Sub.refl _) _) rfl
  exact (placed.touch (touch_setRosem (Sub.refl _) _ _) rfl).touch (touch_recFill (Sub.refl _) _) rfl

theorem FabTraffic.record (h : FabTraffic l x s) (code : Nat) (b : Block) (pay : List Byte) : FabTraffic l x (s.record code b pay) :=
  h.recEvent _ _ _ _ _

theorem FabTraffic.sageEvt (h : FabTraffic l x s) (e : Nat) (n : SageName) : FabTraffic l x (s.sageEvt e n) :=
  h.touch (touch_sageEvt (Sub.refl _) _ _ _) rfl

end Sys2Proof.Proofs
end

section
/-! PROOFS. What the fabric's operations leave in its links and wardens, and a fabric fault (02_islands_and_credits.md R47, R49, R64). -/
namespace Sys2Proof.Proofs
open Sys2Proof Sys2Proof.Machine Sys2Proof.Laws

variable {m : Nat} {x : State}

@[simp] theorem link_putLink (s : State) (q i c : Nat) (v : Link) : (s.putLink q i c v).link q i c = v := get_set_same _ _ _ _
@[simp] theorem link_putWarden (s : State) (j q i c : Nat) (w : Warden) : (s.putWarden j w).link q i c = s.link q i c := rfl
@[simp] theorem warden_putLink (s : State) (q i c j : Nat) (v : Link) : (s.putLink q i c v).warden j = s.warden j := rfl
@[simp] theorem putLink_wardens (s : State) (q i c : Nat) (v : Link) : (s.putLink q i c v).wardens = s.wardens := rfl
@[simp] theorem put_wardens (s : State) (f : Fld) (v : Nat) : (s.put f v).wardens = s.wardens := rfl
@[simp] theorem put_links (s : State) (f : Fld) (v : Nat) : (s.put f v).links = s.links := rfl

theorem warden_putWarden_ne (s : State) {i j : Nat} (w : Warden) (h : i ≠ j) : (s.putWarden i w).warden j = s.warden j :=
  get_set_ne _ _ _ h

/-- The links of different requesters, targets or classes have different numbers (R50). -/
theorem linkKey_injective {q i c q' i' c' : Nat} (hq : q < 32) (hi : i < 32) (hq' : q' < 32) (hi' : i' < 32)
    (h : linkKey q i c = linkKey q' i' c') : q = q' ∧ i = i' ∧ c = c' := by
  unfold linkKey at h
  omega

/-- Thyme at the moment of an event: it lies ahead, or it has passed (log entry 7). -/
theorem reach_eq (s : State) (t : Nat) : s.reach t = s.setNow (max s.now t) := by
  unfold State.reach
  split
  · rw [Nat.max_eq_right (by omega)]
  · rw [Nat.max_eq_left (by omega)]; rfl

/-- An error bit is a matter of registers. -/
theorem touch_errSet_fab (hm : Sub 0x2 m) (i : Nat) (s : State) (hs : Touch m x s) : Touch m x (s.errSet 0x40010000 i) :=
  touch_errSet (hm.pg (page_err (h := 0x40010000) (k := 1) rfl) rfl) (hm.pg (page_raw (h := 0x40010000) (k := 1) rfl) rfl) s hs

/-- An event of a block without an event link takes no link and wakes no island (R50). -/
theorem touch_recEvent_unlinked (hm : Sub 0x100000000002002 m) {block inst : Nat} (h : eventLink block inst = none)
    (code time : Nat) (pay : List Byte) (s : State) (hs : Touch m x s) : Touch m x (recEvent code block inst time pay s) := by
  unfold recEvent
  rw [h]
  have counts {f : Fld} (hf : pageOf f.addr = 13) (y : State) (hy : Touch m x y) : Touch m x (y.incr f) :=
    touch_incr (hm.pg hf rfl) y hy
  have defer (full : Bool) (t : Nat) (y : State) (hy : Touch m x y) : Touch m x (recDefer full t y) :=
    touch_recDefer (hm.up rfl) full t y hy
  refine .ite_ (defer _ _ _ (touch_fabAbsent (hm.up rfl) _ _ (counts (f := fREC_DEF_ABS_cnt) rfl s hs))) ?_
  have counted := counts (f := fREC_EVT_IN_cnt) rfl s hs
  refine .ite_ (defer _ _ _ (counts (f := fREC_DEF_FULL_cnt) rfl _ counted)) ?_
  exact touch_recFill (hm.up rfl) _ (touch_setRosem (hm.up rfl) _ _ (touch_placeDeferred (hm.up rfl) _ counted))

/-- ERR, IRQ_RAW and FAB_AUDIT_FAIL of a fabric fault (R64): the first fault is named, the later ones count. -/
def faultShown (q i cls : Nat) (s : State) : State :=
  let s := (s.errSet 0x40010000 16).irq 0x40010000 4
  if s.on fFAB_AUDIT_FAIL_valid then s.incrSat fFAB_AUDIT_FAIL_cnt
  else ((((s.raise fFAB_AUDIT_FAIL_valid).put fFAB_AUDIT_FAIL_cls cls).put fFAB_AUDIT_FAIL_req q).put
    fFAB_AUDIT_FAIL_tgt i).put fFAB_AUDIT_FAIL_cnt 1

theorem touch_faultShown (hm : Sub 0x2 m) (q i cls : Nat) (s : State) (hs : Touch m x s) : Touch m x (faultShown q i cls s) := by
  have page : pageOf aFAB_AUDIT_FAIL = 1 := rfl
  have fail (lo w v : Nat) (y : State) (hy : Touch m x y) : Touch m x (y.put ⟨aFAB_AUDIT_FAIL, lo, w⟩ v) :=
    touch_put (f := ⟨aFAB_AUDIT_FAIL, lo, w⟩) (hm.pg page rfl) y v hy
  have err : Touch m x ((s.errSet 0x40010000 16).irq 0x40010000 4) :=
    touch_irq (hm.pg (page_raw (h := 0x40010000) (k := 1) rfl) rfl) _ (touch_errSet_fab hm 16 s hs)
  exact .ite_ (fail _ _ _ _ err) (fail _ _ _ _ (fail _ _ _ _ (fail _ _ _ _ (fail _ _ _ _ (fail _ _ _ _ err)))))

theorem faultShown_raw (q i cls : Nat) (s : State) : (faultShown q i cls s).shows (hRaw 0x40010000 4) = 1 := by
  have raised : ((s.errSet 0x40010000 16).irq 0x40010000 4).shows (hRaw 0x40010000 4) = 1 :=
    shows_put_bit _ _ (by decide) (by decide) rfl
  unfold faultShown
  dsimp only
  split
  · exact (shows_put_ne _ _ (by decide)).trans raised
  · unfold State.raise
    rwa [shows_put_ne _ _ (by decide), shows_put_ne _ _ (by decide), shows_put_ne _ _ (by decide), shows_put_ne _ _ (by decide),
      shows_put_ne _ _ (by decide)]

theorem faultShown_valid (q i cls : Nat) {s : State} (hs : s.tmr = []) : (faultShown q i cls s).shows fFAB_AUDIT_FAIL_valid = 1 := by
  have agree : ((s.errSet 0x40010000 16).irq 0x40010000 4).tmr = [] := by
    unfold State.errSet
    split <;> exact hs
  unfold faultShown
  dsimp only
  split
  · rename_i on
    exact (shows_put_disj _ _ (by decide)).trans (shows_of_on agree rfl on)
  · rw [shows_put_disj _ _ (by decide), shows_put_disj _ _ (by decide), shows_put_disj _ _ (by decide), shows_put_disj _ _ (by decide)]
    exact shows_put_bit _ _ (by decide) (by decide) rfl

/-- A fabric fault is shown, recorded and told to Sage (R64); FAB has no event link, so its record takes none. -/
theorem fabricFault_eq (kind q i cls : Nat) (s : State) : ∃ t, Touch 0x100000000002002 (faultShown q i cls s) t ∧
    FabTraffic [] (faultShown q i cls s) t ∧ fabricFault kind q i cls s = t.sageEvt 0 (nOther (q * 256 + i)) :=
  ⟨_, touch_recEvent_unlinked (Sub.refl _) (by decide) _ _ _ _ (Touch.rfl' _ _), (FabTraffic.refl _ _).record 0x10 .fab _, rfl⟩

/-- A fabric fault leaves links, wardens and the copies of registers. -/
theorem fabricFault_keeps (kind q i cls : Nat) (s : State) : (fabricFault kind q i cls s).links = s.links ∧
    (fabricFault kind q i cls s).wardens = s.wardens ∧ (fabricFault kind q i cls s).tmr = s.tmr := by
  obtain ⟨t, touched, -, e⟩ := fabricFault_eq kind q i cls s
  obtain ⟨-, -, -, same⟩ := (touch_faultShown (Sub.up (Sub.refl _) rfl) q i cls s (Touch.rfl' _ s)).trans touched
  rw [e]
  exact ⟨same .links rfl, same .wardens rfl, same .tmr rfl⟩

theorem fabricFault_inbox (kind q i cls : Nat) (s : State) :
    (fabricFault kind q i cls s).sage.inbox = s.sage.inbox ++ [⟨0, nOther (q * 256 + i), false⟩] := by
  obtain ⟨t, touched, -, e⟩ := fabricFault_eq kind q i cls s
  obtain ⟨-, -, -, same⟩ := (touch_faultShown (Sub.up (Sub.refl _) rfl) q i cls s (Touch.rfl' _ s)).trans touched
  have sage : t.sage = s.sage := same .sage rfl
  rw [e, ← sage]
  rfl

/-- No ABSENT counter is a register of a fault. -/
theorem fabQuiet_nil {a : Nat} (hp : pageOf a = 1) (ha : a < 0x400100E0 ∨ 0x40010124 ≤ a) : FabQuiet [] a := by
  refine ⟨hp, fun i => ?_, List.not_mem_nil⟩
  unfold aFAB_ABSENT_CNT
  omega

theorem fabricFault_shows {kind q i cls : Nat} {s : State} {f : Fld} (hf : FabQuiet [] f.addr) :
    (fabricFault kind q i cls s).shows f = (faultShown q i cls s).shows f := by
  obtain ⟨t, -, traffic, e⟩ := fabricFault_eq kind q i cls s
  have same : (fabricFault kind q i cls s).rd f.addr = (faultShown q i cls s).rd f.addr := by
    rw [e]; exact traffic.regs _ hf
  unfold State.shows
  rw [same]

theorem fabricFault_raw (kind q i cls : Nat) (s : State) : (fabricFault kind q i cls s).shows (hRaw 0x40010000 4) = 1 :=
  (fabricFault_shows (f := hRaw 0x40010000 4) (fabQuiet_nil rfl (by decide))).trans (faultShown_raw q i cls s)

theorem fabricFault_valid (kind q i cls : Nat) {s : State} (hs : s.tmr = []) :
    (fabricFault kind q i cls s).shows fFAB_AUDIT_FAIL_valid = 1 :=
  (fabricFault_shows (f := fFAB_AUDIT_FAIL_valid) (fabQuiet_nil rfl (by decide))).trans (faultShown_valid q i cls hs)

/-- A counter of 32 bits that wraps shows the next count. -/
theorem shows_incr32 (s : State) (a : Nat) : (s.incr ⟨a, 0, 32⟩).shows ⟨a, 0, 32⟩ = (s.get ⟨a, 0, 32⟩ + 1) % 2 ^ 32 :=
  (shows_put s ⟨a, 0, 32⟩ _ (Nat.le_refl 32)).trans (Nat.mod_mod _ _)

end Sys2Proof.Proofs
end

section
/-! PROOFS. O17: a request and its reply (02_islands_and_credits.md R47, R49, R52, R54, R57). -/
namespace Sys2Proof.Proofs
open Sys2Proof Sys2Proof.Machine Sys2Proof.Laws

/-- The class of a request: urgent ones have links of their own (R49). -/
theorem class_eq_toNat (urg : Bool) : (if urg then 1 else 0) = urg.toNat := by cases urg <;> rfl

theorem urg_of_class (urg : Bool) : (urg.toNat == 1) = urg := by cases urg <;> rfl

/-- Does the requester of a link hold a credit and a free reply slot (R49)? -/
def maySend (s : State) (q i c : Nat) : Prop := (s.link q i c).slots < linkDepth q i c ∧ (s.link q i c).held ≠ 0

/-- A link in use: one request more is in the target's buffer. -/
def sentOn (l : Link) (tag ep : Nat) : Link :=
  { l with held := l.held - 1, buf := l.buf + 1, slots := l.slots + 1, outst := l.outst ++ [(tag, ep)], reqs := l.reqs + 1 }

/-- A warden in RUN accepts the request. -/
theorem fabArrival_accepted {s : State} {q i c : Nat} (send : maySend s q i c) (run : s.isRun i = true) (tag ep : Nat) (idw : Bool)
    (a : Nat) : fabArrival q i c tag ep idw a s = (s.putLink q i c (sentOn (s.link q i c) tag ep)).putWarden i
      { s.warden i with accepted := (s.warden i).accepted ++ [{ src := q, urg := c == 1, tag := tag, ep := ep, a := a }],
                        gated := false, idle := s.now } := by
  obtain ⟨slot, credit⟩ := send
  have st : (s.warden i).st = .run := of_decide_eq_true run
  unfold fabArrival
  rw [if_neg (by simp only [Bool.or_eq_true, decide_eq_true_eq]; omega)]
  simp only [st]
  rfl

/-- A warden that is not in RUN answers the request ABSENT. -/
theorem fabArrival_absent {s : State} {q i c : Nat} (send : maySend s q i c) (down : s.isRun i = false) (rec : i ≠ 14)
    (tag ep a : Nat) : fabArrival q i c tag ep false a s = fabAbsent i s := by
  obtain ⟨slot, credit⟩ := send
  have st : (s.warden i).st ≠ .run := of_decide_eq_false down
  unfold fabArrival
  rw [if_neg (by simp only [Bool.or_eq_true, decide_eq_true_eq]; omega)]
  simp only [rec, decide_false, Bool.false_and, Bool.false_eq_true, if_false]

theorem accOn_head (s : State) (q i : Nat) (urg : Bool) :
    (s.accOn q i urg.toNat).head? = (s.warden i).accepted.find? (fun r => r.src == q && r.urg == urg) := by
  unfold State.accOn
  rw [List.head?_filter, urg_of_class]

/-- The reply of the request that is the oldest of its link is delivered. -/
theorem fabReply_oldest {s : State} {q i c tag ep : Nat} {r : FabReq} (h : (s.accOn q i c).head? = some r) (ht : r.tag = tag)
    (he : r.ep = ep) : fabReply q i c tag ep s = fabDeliver q i c tag ep s := by
  unfold fabReply
  rw [if_neg (by simp [List.head?_map, h, ht, he])]

/-- Where the target holds no request of the link, any reply is delivered as it comes. -/
theorem fabReply_none {s : State} {q i c : Nat} (h : (s.accOn q i c).head? = none) (tag ep : Nat) :
    fabReply q i c tag ep s = fabDeliver q i c tag ep s := by
  unfold fabReply
  rw [if_neg (by simp [List.head?_eq_none_iff.mp h])]

/-- The target answers: its buffer slot and its credit come back. -/
theorem fabAnswer_oldest {s : State} {q i c : Nat} {r : FabReq} (h : (s.accOn q i c).head? = some r) :
    fabAnswer q i c r.tag r.ep s = (s.putLink q i c { s.link q i c with held := (s.link q i c).held + 1, buf := (s.link q i c).buf - 1 }).putWarden i
      { s.warden i with accepted := (s.warden i).accepted.erase r, idle := s.now } := by
  unfold fabAnswer
  simp only [h, decide_true, Bool.and_self, if_true]
  rfl

theorem fabAnswer_none {s : State} {q i c : Nat} (h : (s.accOn q i c).head? = none) (tag ep : Nat) : fabAnswer q i c tag ep s = s := by
  unfold fabAnswer
  simp only [h]

/-- The reply slot of a request comes back. -/
def freed (l : Link) (tag ep : Nat) : Link :=
  { l with slots := l.slots - 1, outst := l.outst.erase (tag, ep), lastDone := some (tag, ep) }

/-- A reply of the present epoch with its tag frees its slot (R49, R57). -/
theorem fabDeliver_taken {s t : State} {q i c tag ep : Nat} (answered : fabAnswer q i c tag ep s = t) (hep : ep = (t.warden q).epoch)
    (run : (t.warden q).st = .run) (out : (t.link q i c).outst.contains (tag, ep) = true) :
    fabDeliver q i c tag ep s = t.putLink q i c (freed (t.link q i c) tag ep) := by
  unfold fabDeliver
  simp only [answered, out, if_true]
  rw [if_neg (by simp [hep, run])]
  rfl

/-- A reply of an earlier epoch is counted; its slot comes back where it is still held (R57). -/
theorem fabDeliver_discarded {s t : State} {q i c tag ep : Nat} (answered : fabAnswer q i c tag ep s = t)
    (hep : ep ≠ (t.warden q).epoch) : ∃ L, fabDeliver q i c tag ep s = (t.incr (fFAB_DISCARD_CNT_cnt q)).setLinks L := by
  unfold fabDeliver
  simp only [answered]
  rw [if_pos (by simp [hep])]
  split
  · exact ⟨_, rfl⟩
  · exact ⟨t.links, rfl⟩

/-- A reply of the present epoch without its tag is a fabric fault (R57). -/
theorem fabDeliver_fault {s t : State} {q i c tag ep : Nat} (answered : fabAnswer q i c tag ep s = t) (hep : ep = (t.warden q).epoch)
    (run : (t.warden q).st = .run) (out : (t.link q i c).outst.contains (tag, ep) = false) :
    ∃ kind, fabDeliver q i c tag ep s = fabricFault kind q i c t := by
  unfold fabDeliver
  simp only [answered, out, Bool.false_eq_true, if_false]
  rw [if_neg (by simp [hep, run])]
  exact ⟨_, rfl⟩

theorem runs_requestArrival {q i : Fin 17} {urg : Bool} {tag ep : Nat} {adr : FabAddr} {s : State} {P : State → Prop}
    (h : P (fabArrival q.val i.val urg.toNat tag ep adr.idw adr.a s)) : Runs (.requestArrival q i urg tag ep adr) s P :=
  ⟨_, rfl, by rwa [class_eq_toNat]⟩

theorem runs_reply {q i : Fin 17} {urg : Bool} {tag ep : Nat} {s : State} {P : State → Prop}
    (h : P (fabReply q.val i.val urg.toNat tag ep s)) : Runs (.reply q i urg tag ep) s P :=
  ⟨_, rfl, by rwa [class_eq_toNat]⟩

/-- Settles O17: what a request and a reply come to by the states of the two wardens. -/
theorem fabricLinks : Obligations.FabricLinks := by
  unfold Obligations.FabricLinks
  refine ⟨?accepted, ?absent, ?answered, ?discarded, ?fault⟩
  case accepted =>
    intro q i urg tag ep idw a s slot credit run
    refine runs_requestArrival ?_
    rw [fabArrival_accepted ⟨slot, credit⟩ run, urg_of_class]
    simp only [link_putWarden, link_putLink, warden_putWarden, sentOn, true_and]
    exact fun _ _ => rfl
  case absent =>
    intro q i urg tag ep a s slot credit down rec
    refine runs_requestArrival ?_
    rw [fabArrival_absent ⟨slot, credit⟩ down rec]
    exact ⟨rfl, rfl, shows_incr32 s _, onlyRegs_put (s := s) (u := s) _ (by simp) (OnlyRegs.refl _ s)⟩
  case answered =>
    intro q i urg tag ep a s out hep run hqi oldest
    have hne : i.val ≠ q.val := fun e => hqi (Fin.ext e.symm)
    rw [← accOn_head] at oldest
    refine runs_reply ?_
    rw [fabReply_oldest oldest rfl rfl, fabDeliver_taken (fabAnswer_oldest oldest) (by rwa [warden_putWarden_ne _ _ hne])
      (by rwa [warden_putWarden_ne _ _ hne]) (by simpa using out)]
    simp only [link_putWarden, link_putLink, warden_putLink, warden_putWarden, freed, true_and]
    exact fun _ _ => rfl
  case discarded =>
    intro q i urg tag ep s hep none
    rw [← accOn_head] at none
    refine runs_reply ?_
    obtain ⟨L, e⟩ := fabDeliver_discarded (fabAnswer_none none tag ep) hep
    rw [fabReply_none none, e]
    exact ⟨shows_incr32 s _, rfl, onlyRegs_put (s := s) (u := s) _ (by simp) (OnlyRegs.refl _ s)⟩
  case fault =>
    intro q i urg tag ep s out hep run none agree
    rw [← accOn_head] at none
    refine runs_reply ?_
    obtain ⟨kind, e⟩ := fabDeliver_fault (fabAnswer_none none tag ep) hep run out
    rw [fabReply_none none, e]
    obtain ⟨links, -, -⟩ := fabricFault_keeps kind q.val i.val urg.toNat s
    exact ⟨fabricFault_valid _ _ _ _ agree, fabricFault_raw _ _ _ _ s, links, fabricFault_inbox _ _ _ _ s⟩

end Sys2Proof.Proofs
end

section
/-! PROOFS. O19: the credit audit (02_islands_and_credits.md R63). -/
namespace Sys2Proof.Proofs
open Sys2Proof Sys2Proof.Machine Sys2Proof.Laws

/-- A link named by requester, target and class. -/
def linkAt (s : State) (y : Nat × Nat × Nat) : Link := s.link y.1 y.2.1 y.2.2

/-- The items of blocks that an audit counts on a link (R63). -/
def itemsOn (s : State) (y : Nat × Nat × Nat) : Nat := if y.2.2 = 0 then min (linkAt s y).held (s.onLink y.1 y.2.1) else 0

/-- A link with the figures of an audit that counts `n` items of blocks on it. -/
def withFigures (n : Nat) (k : Link) : Link :=
  { k with aCred := k.held - n, aBuf := k.buf, aSlots := k.slots + n, aOutst := k.outst.length + n }

/-- A link as an audit leaves it: the figures are those of this moment. -/
def audited (s : State) (y : Nat × Nat × Nat) : Link := withFigures (itemsOn s y) (linkAt s y)

/-- A link without the figures of the last audit. -/
def account (l : Link) : Link := { l with aCred := 0, aBuf := 0, aSlots := 0, aOutst := 0 }

def balanced (s : State) (y : Nat × Nat × Nat) : Bool := linkBalanced (linkDepth y.1 y.2.1 y.2.2) (linkAt s y)

/-- The audit of one link (R63). -/
def auditLink (y : Nat × Nat × Nat) (s : State) : State :=
  if balanced s y then s.putLink y.1 y.2.1 y.2.2 (audited s y)
  else fabricFault 1 y.1 y.2.1 y.2.2 (s.putLink y.1 y.2.1 y.2.2 (audited s y))

theorem creditAudit_eq (s : State) : creditAudit s = (s.each allLinks auditLink).incr fFAB_AUDIT_PASS_cnt := rfl

theorem bounds_of_mem_allLinks {q i c : Nat} (h : (q, i, c) ∈ allLinks) : q < 16 ∧ i < 17 ∧ c < 2 := by
  unfold allLinks at h
  simp only [List.mem_flatMap, List.mem_range, List.mem_map, List.mem_filter, Prod.mk.injEq] at h
  obtain ⟨q', hq, i', hi, c', ⟨hc, -⟩, rfl, rfl, rfl⟩ := h
  simp only [List.mem_cons, List.not_mem_nil, or_false] at hc
  omega

theorem linkAt_of_links {s t : State} (h : t.links = s.links) (y : Nat × Nat × Nat) : linkAt t y = linkAt s y := by
  unfold linkAt State.link
  rw [h]

theorem linkAt_putLink_ne {y z : Nat × Nat × Nat} (hy : y ∈ allLinks) (hz : z ∈ allLinks) (h : y ≠ z) (s : State) (v : Link) :
    linkAt (s.putLink y.1 y.2.1 y.2.2 v) z = linkAt s z := by
  obtain ⟨q, i, c⟩ := y
  obtain ⟨q', i', c'⟩ := z
  obtain ⟨hq, hi, -⟩ := bounds_of_mem_allLinks hy
  obtain ⟨hq', hi', -⟩ := bounds_of_mem_allLinks hz
  have key : linkKey q i c ≠ linkKey q' i' c' := by
    intro e
    obtain ⟨rfl, rfl, rfl⟩ := linkKey_injective (by omega) (by omega) (by omega) (by omega) e
    exact h rfl
  show Tab.get _ (Tab.set _ s.links _ v) _ = _
  unfold Tab.get Tab.set
  split
  · rw [find_del_ne _ key]; rfl
  · rw [find_ins_ne _ _ key]; rfl

/-- The requester, target and class an audit of other links leaves as they were: the accounts, the items of blocks, the copies. -/
structure Audits (s t : State) : Prop where
  accounts : ∀ y ∈ allLinks, account (linkAt t y) = account (linkAt s y)
  items : ∀ q i, t.onLink q i = s.onLink q i
  tmr : t.tmr = s.tmr

theorem Audits.refl (s : State) : Audits s s := ⟨fun _ _ => rfl, fun _ _ => rfl, rfl⟩

theorem Audits.trans {s t u : State} (h : Audits s t) (k : Audits t u) : Audits s u :=
  ⟨fun y hy => (k.accounts y hy).trans (h.accounts y hy), fun q i => (k.items q i).trans (h.items q i), k.tmr.trans h.tmr⟩

/-- The figures of an audit are taken from the accounts and the items of blocks. -/
theorem Audits.audited_eq {s t : State} (h : Audits s t) {y : Nat × Nat × Nat} (hy : y ∈ allLinks) : audited t y = audited s y := by
  show withFigures (if y.2.2 = 0 then min (account (linkAt t y)).held (t.onLink y.1 y.2.1) else 0) (account (linkAt t y)) =
    withFigures (if y.2.2 = 0 then min (account (linkAt s y)).held (s.onLink y.1 y.2.1) else 0) (account (linkAt s y))
  rw [h.accounts y hy, h.items]

theorem Audits.balanced_eq {s t : State} (h : Audits s t) {y : Nat × Nat × Nat} (hy : y ∈ allLinks) : balanced t y = balanced s y := by
  show linkBalanced _ (account (linkAt t y)) = linkBalanced _ (account (linkAt s y))
  rw [h.accounts y hy]

theorem audits_putLink {y : Nat × Nat × Nat} (hy : y ∈ allLinks) (s : State) :
    Audits s (s.putLink y.1 y.2.1 y.2.2 (audited s y)) := by
  refine ⟨fun z hz => ?_, fun _ _ => rfl, rfl⟩
  by_cases e : y = z
  · subst e
    unfold linkAt
    rw [link_putLink]
    rfl
  · rw [linkAt_putLink_ne hy hz e]

theorem audits_fabricFault (kind q i c : Nat) (s : State) : Audits s (fabricFault kind q i c s) := by
  obtain ⟨-, -, -, same⟩ := touch_fabricFault (Sub.refl _) kind q i c s (Touch.rfl' _ s)
  obtain ⟨links, -, tmr⟩ := fabricFault_keeps kind q i c s
  refine ⟨fun y _ => by rw [linkAt_of_links links], fun _ _ => ?_, tmr⟩
  · unfold State.onLink
    rw [same .tbgs rfl, same .basil rfl, same .adcs rfl, same .msio rfl]

theorem audits_auditLink {y : Nat × Nat × Nat} (hy : y ∈ allLinks) (s : State) : Audits s (auditLink y s) := by
  unfold auditLink
  split
  · exact audits_putLink hy s
  · exact (audits_putLink hy s).trans (audits_fabricFault 1 _ _ _ _)

/-- The audit of a link takes its figures. -/
theorem linkAt_auditLink (y : Nat × Nat × Nat) (s : State) : linkAt (auditLink y s) y = audited s y := by
  have put : linkAt (s.putLink y.1 y.2.1 y.2.2 (audited s y)) y = audited s y := link_putLink _ _ _ _ _
  unfold auditLink
  split
  · exact put
  · obtain ⟨links, -, -⟩ := fabricFault_keeps 1 y.1 y.2.1 y.2.2 (s.putLink y.1 y.2.1 y.2.2 (audited s y))
    rw [linkAt_of_links links, put]

theorem linkAt_auditLink_ne {y z : Nat × Nat × Nat} (hy : y ∈ allLinks) (hz : z ∈ allLinks) (h : y ≠ z) (s : State) :
    linkAt (auditLink y s) z = linkAt s z := by
  unfold auditLink
  split
  · exact linkAt_putLink_ne hy hz h _ _
  · obtain ⟨links, -, -⟩ := fabricFault_keeps 1 y.1 y.2.1 y.2.2 (s.putLink y.1 y.2.1 y.2.2 (audited s y))
    rw [linkAt_of_links links, linkAt_putLink_ne hy hz h]

section
variable {α : Type} {I P : State → Prop} {f : α → State → State} {as : List α} {s : State}

/-- What every round of a loop keeps, the loop keeps. -/
theorem each_keeps (keeps : ∀ a ∈ as, ∀ t, P t → P (f a t)) (h : P s) : P (s.each as f) := by
  induction as generalizing s with
  | nil => exact h
  | cons a r ih => exact ih (fun b hb => keeps b (by simp [hb])) (keeps a (by simp) s h)

/-- What one round of a loop brings about and every round keeps, holds after the loop. -/
theorem each_sets {b : α} (hb : b ∈ as) (inv : ∀ a ∈ as, ∀ t, I t → I (f a t)) (sets : ∀ t, I t → P (f b t))
    (keeps : ∀ a ∈ as, ∀ t, I t → P t → P (f a t)) (h : I s) : P (s.each as f) := by
  induction as generalizing s with
  | nil => cases hb
  | cons a r ih =>
    have inv' : ∀ c ∈ r, ∀ t, I t → I (f c t) := fun c hc => inv c (by simp [hc])
    have keeps' : ∀ c ∈ r, ∀ t, I t → P t → P (f c t) := fun c hc => keeps c (by simp [hc])
    have here : I (f a s) := inv a (by simp) s h
    by_cases hr : b ∈ r
    · exact ih hr inv' keeps' here
    · obtain rfl : b = a := by simpa [hr] using hb
      have both := each_keeps (P := fun t => I t ∧ P t) (fun c hc t ht => ⟨inv' c hc t ht.1, keeps' c hc t ht.1 ht.2⟩)
        ⟨here, sets s h⟩
      exact both.2

end

/-- An audit of every link keeps the accounts. -/
theorem audits_each (s : State) : Audits s (s.each allLinks auditLink) :=
  each_keeps (P := Audits s) (fun _ hz t ht => ht.trans (audits_auditLink hz t)) (Audits.refl s)

/-- After an audit of every link the figures of each are those of this moment. -/
theorem linkAt_each {y : Nat × Nat × Nat} (hy : y ∈ allLinks) (s : State) : linkAt (s.each allLinks auditLink) y = audited s y := by
  refine each_sets (I := Audits s) (P := fun t => linkAt t y = audited s y) hy
    (fun z hz t ht => ht.trans (audits_auditLink hz t)) ?sets ?keeps (Audits.refl s)
  case sets =>
    intro t ht
    rw [linkAt_auditLink, ht.audited_eq hy]
  case keeps =>
    intro z hz t ht h
    by_cases e : z = y
    · rw [e, linkAt_auditLink, ht.audited_eq hy]
    · rw [linkAt_auditLink_ne hz hy e, h]

/-- Where every link balances, an audit changes links alone. -/
theorem each_of_balanced {s : State} (h : ∀ y ∈ allLinks, balanced s y = true) : ∃ L, s.each allLinks auditLink = s.setLinks L := by
  have key := each_keeps (P := fun t => Audits s t ∧ ∃ L, t = s.setLinks L) (f := auditLink) (as := allLinks) (s := s) ?_
    ⟨Audits.refl s, s.links, rfl⟩
  · exact key.2
  · rintro y hy t ⟨ht, L, rfl⟩
    refine ⟨ht.trans (audits_auditLink hy _), ?_⟩
    unfold auditLink
    rw [if_pos (by rw [ht.balanced_eq hy, h y hy])]
    exact ⟨_, rfl⟩

/-- A link that does not balance is a fabric fault (R63, R64): FAB_AUDIT_FAIL is valid, and Sage hears of the link. -/
theorem each_of_unbalanced {s : State} {y : Nat × Nat × Nat} (hy : y ∈ allLinks) (h : balanced s y = false) (agree : s.tmr = []) :
    (s.each allLinks auditLink).shows fFAB_AUDIT_FAIL_valid = 1 ∧
      ⟨0, nOther (y.1 * 256 + y.2.1), false⟩ ∈ (s.each allLinks auditLink).sage.inbox := by
  refine each_sets (I := Audits s)
    (P := fun t => t.shows fFAB_AUDIT_FAIL_valid = 1 ∧ ⟨0, nOther (y.1 * 256 + y.2.1), false⟩ ∈ t.sage.inbox) hy
    (fun z hz t ht => ht.trans (audits_auditLink hz t)) ?sets ?keeps (Audits.refl s)
  case sets =>
    intro t ht
    unfold auditLink
    rw [if_neg (by rw [ht.balanced_eq hy, h]; decide), fabricFault_inbox]
    exact ⟨fabricFault_valid _ _ _ _ (ht.tmr.trans agree), by simp⟩
  case keeps =>
    rintro z hz t ht ⟨valid, told⟩
    unfold auditLink
    split
    · exact ⟨valid, told⟩
    · rw [fabricFault_inbox]
      exact ⟨fabricFault_valid _ _ _ _ (ht.tmr.trans agree), List.mem_append_left _ told⟩

/-- The audit runs on the state at the end of its period (R68). -/
theorem exec_creditAudit (s : State) :
    ∃ n f, exec .creditAudit s = done (creditAudit ((s.setNow n).setFrames f)) := by
  show ∃ n f, execCreditAudit s = _
  unfold execCreditAudit
  simp only [reach_eq]
  exact ⟨_, _, rfl⟩

/-- Settles O19: the audit of balanced links, and of one that does not balance. -/
theorem creditAudit : Obligations.CreditAudit := by
  unfold Obligations.CreditAudit
  refine ⟨?balanced, ?unbalanced⟩
  case balanced =>
    intro s h
    obtain ⟨n, f, run⟩ := exec_creditAudit s
    refine ⟨_, run, ?_⟩
    rw [creditAudit_eq]
    generalize hb : (s.setNow n).setFrames f = b
    have taken : ∀ y ∈ allLinks, linkAt (b.each allLinks auditLink) y = audited b y := fun y hy => linkAt_each hy b
    obtain ⟨L, e⟩ := each_of_balanced (s := b) (by subst hb; exact h)
    rw [e] at taken ⊢
    subst hb
    refine ⟨shows_incr32 _ _, onlyRegs_put (s := s) _ (by simp) (fun _ _ => rfl), rfl, fun y hy => ?_⟩
    have figures : linkAt (((s.setNow n).setFrames f).setLinks L) y = audited s y := taken y hy
    exact ⟨(congrArg Link.aCred figures :), (congrArg Link.held figures :)⟩
  case unbalanced =>
    intro q i c s hy h agree
    obtain ⟨n, f, run⟩ := exec_creditAudit s
    refine ⟨_, run, ?_⟩
    rw [creditAudit_eq]
    obtain ⟨valid, told⟩ := each_of_unbalanced (s := (s.setNow n).setFrames f) hy h agree
    have kept (t : State) : (t.incr fFAB_AUDIT_PASS_cnt).shows fFAB_AUDIT_FAIL_valid = t.shows fFAB_AUDIT_FAIL_valid :=
      shows_put_ne _ _ (by decide)
    refine ⟨(kept _).trans valid, ?_⟩
    unfold State.incr
    rw [put_sage]
    exact told

end Sys2Proof.Proofs
end

section
/-! PROOFS. The traffic of steps, groups and ports: a seal or a cancellation that goes to PAIR, the records of safe states, and what they
leave of the fabric (02_islands_and_credits.md R48, R50; 03_basil_control_engine.md R91, R93; 07_trips_and_leg_protection.md R251). -/
namespace Sys2Proof.Proofs
open Sys2Proof Sys2Proof.Machine Sys2Proof.Laws

variable {l : List Nat} {x s : State}

/-! Steps of Basil. -/

theorem FabTraffic.putCtx (h : FabTraffic l x s) (k : Nat) (c : Ctx) : FabTraffic l x (s.putCtx k c) :=
  h.touch (touch_putCtx (Sub.refl _) _ _ _) rfl

theorem FabTraffic.putMg (h : FabTraffic l x s) (m : Nat) (g : Mg) : FabTraffic l x (s.putMg m g) :=
  h.touch (touch_putMg (Sub.refl _) _ _ _) rfl

theorem FabTraffic.memPutWords (h : FabTraffic l x s) (a : Nat) (ws : List Word) : FabTraffic l x (s.memPutWords a ws) :=
  h.touch (touch_memPutWords (Sub.refl _) _ _ _) rfl

theorem FabTraffic.predEntry (h : FabTraffic l x s) (step : Nat) (p : PredV) : FabTraffic l x (predEntry step p s) :=
  h.touch (touch_predEntry (Sub.refl _) _ _ _) rfl

theorem FabTraffic.trkHold (h : FabTraffic l x s) (k : Nat) (lost : Bool) : FabTraffic l x (trkHold k lost s) :=
  h.touch (touch_trkHold (Sub.refl _) _ _ _) rfl

theorem FabTraffic.traceEntry (h : FabTraffic l x s) (k cause : Nat) (step : Word) (t cyc : Nat) (outs : List Word) :
    FabTraffic l x (traceEntry k cause step t cyc outs s) :=
  h.touch (touch_traceEntry (Sub.refl _) _ _ _ _ _ _ _) rfl

theorem FabTraffic.engToPair (h : FabTraffic l x s) (r : PRec) : FabTraffic l x (engToPair r s) :=
  h.fabSend 5 13 0 fun _ hy => hy.touch (touch_pairTx (Sub.refl _) _ _) rfl

theorem FabTraffic.leaveRun (h : FabTraffic l x s) (k : Nat) : FabTraffic l x (leaveRun k s) := h.maybe (·.engToPair _)

theorem FabTraffic.stopDue (h : FabTraffic l x s) (k : Nat) : FabTraffic l x (stopDue k s) :=
  h.maybe fun h => ((h.putCtx _ _).leaveRun k).trkHold k true

theorem FabTraffic.sealOne (h : FabTraffic l x s) (k : Nat) (o : Older) : FabTraffic l x (sealOne k o s) := by
  unfold Machine.sealOne
  have copied := (((h.memPutWords (cArea k + 0x380) o.words).memPutWords (cArea k + 0x780) o.outs).memPutWords
    (cArea k + 0x7A0) o.stat).memPutWords (cArea k + 0x360) o.pgw
  have counted := copied.touch (touch_sealCounts (Sub.refl _) k o.cost _) rfl
  have sealed (w : Work) := (counted.touch (touch_sealFlags (Sub.refl _) k o w _) rfl).touch (touch_liveSeal (Sub.refl _) k _) rfl
  have predicted (w : Work) := (sealed w).each (as := o.cons) (f := Machine.predEntry o.step) fun p _ hy => hy.predEntry o.step p
  refine .traceEntry (.touch (.maybe ?_ (·.engToPair _)) (touch_sealGiu (Sub.refl _) k o _) rfl) _ _ _ _ _ _
  exact (predicted _).putCtx k _

theorem FabTraffic.sealStep (h : FabTraffic l x s) (k : Nat) : FabTraffic l x (sealStep k s) :=
  .ite h (((h.putCtx _ _).sealOne k _).stopDue k)

theorem FabTraffic.sealSet (h : FabTraffic l x s) (k step : Nat) : FabTraffic l x (sealSet k step s) := by
  unfold Machine.sealSet
  refine .ite (h.sealStep k) ?_
  split
  · exact ((h.putCtx _ _).sealOne k _).stopDue k
  · exact h

theorem FabTraffic.sealFirst (h : FabTraffic l x s) (k : Nat) : FabTraffic l x (sealFirst k s) :=
  (h.each fun o _ hy => hy.sealSet k o.step).maybe (·.sealStep k)

theorem FabTraffic.cancelOne (h : FabTraffic l x s) (k : Nat) (o : Older) : FabTraffic l x (cancelOne k o s) := by
  unfold Machine.cancelOne
  refine .traceEntry (.touch ?_ (touch_ctxIrq (Sub.refl _) k 4 _) rfl) _ _ _ _ _ _
  refine .touch (.incr (f := fENG_CANCEL_CNT_cnt) (k := 5) (.each (.maybe ?_ (·.engToPair _)) fun p _ hy => hy.predEntry _ _) rfl rfl)
    (touch_cntEvt (Sub.refl _) k 8 _) rfl
  split
  · exact h.touch (touch_putTbg (Sub.refl _) _ _ _) rfl
  · exact h

theorem FabTraffic.cancelStep (h : FabTraffic l x s) (k : Nat) : FabTraffic l x (cancelStep k s) :=
  ((h.sealFirst k).putCtx k _).each fun o _ hy => hy.cancelOne k o

theorem FabTraffic.stopCtxAt (h : FabTraffic l x s) (k : Nat) : FabTraffic l x (stopCtxAt k s) := by
  unfold Machine.stopCtxAt
  refine .ite ?_ (.touch ?_ (touch_applyInstant (Sub.refl _) k _) rfl)
  all_goals exact ((h.putCtx k _).maybe (·.sealStep k)).stopDue k

/-! Safe states of machine groups. -/

/-- The registers of a discharge that ends, before its record. -/
theorem FabTraffic.disEnd (h : FabTraffic l x s) (m res : Nat) : FabTraffic l x (disEnd m res s) := by
  unfold Machine.disEnd
  refine .ite h (.maybe (.record (.raise (f := fAPC_SAGE_EVT_dis) (.raise (f := fSAGE_IRQ_RAW_dis) ?_ rfl rfl) rfl rfl) _ _ _) (·.sageEvt _ _))
  refine .ite (.incrSat (f := fSAGE_DIS_CNT_done m) ?_ (page_aSAGE_DIS_CNT m) rfl)
    (.incrSat (f := fSAGE_DIS_CNT_fail m) ?_ (page_aSAGE_DIS_CNT m) rfl)
  all_goals
    refine .put (f := fSAGE_DIS_TIME_t m) (.put (f := fSAGE_DIS_STAT_v_last m) (.put (f := fSAGE_DIS_STAT_state m) ?_
      (page_aSAGE_DIS_STAT m) rfl _) (page_aSAGE_DIS_STAT m) rfl _) (page_aSAGE_DIS_TIME m) rfl _
    exact (h.putMg m _).touch (touch_setDiss (Sub.refl _) _ _) rfl

theorem FabTraffic.entryMarks (h : FabTraffic l x s) (m st fb req code evt : Nat) :
    FabTraffic l x (entryMarks m st fb req code evt s) := by
  unfold Machine.entryMarks
  refine .sageEvt (.record (.put (f := fMG_TRIP_STAT_last m) (.raise (f := fMG_IRQ_RAW_safe_in m) (.incrSat (f := fMG_SAFE_CNT_in_cnt m)
    (.wr ?_ (page_aMG_SAFE_TIME m) rfl _) (page_aMG_SAFE_CNT m) rfl) (page_aMG_IRQ_RAW m) rfl) (page_aMG_TRIP_STAT m) rfl _) _ _ _) _ _
  have sel := page_aMG_SAFE_SEL m
  exact (((h.put (f := fMG_STAT_state m) (page_aMG_STAT m) rfl st).put (f := fMG_SAFE_SEL_fb m) sel rfl fb).put (f := fMG_SAFE_SEL_sel m)
    sel rfl st).put (f := fMG_SAFE_SEL_req m) sel rfl req

theorem FabTraffic.ctxEnters (h : FabTraffic l x s) (k : Nat) : FabTraffic l x (ctxEnters k s) :=
  ((h.cancelStep k).when fun h => h.touch (touch_putCw (Sub.refl _) _ _ _ _) rfl).trkHold k false

theorem FabTraffic.enterState (h : FabTraffic l x s) (m st fb req code evt : Nat) :
    FabTraffic l x (enterState m st fb req code evt s) := by
  unfold Machine.enterState
  refine .touch (.each (.maybe (.entryMarks ?_ m st fb req code evt) fun h => ?fallback) fun k _ hy => hy.ctxEnters k)
    (touch_hintChange (Sub.refl _) _ _) rfl
  case fallback =>
    exact ((h.incrSat (f := fMG_SAFE_CNT_fb_cnt m) (page_aMG_SAFE_CNT m) rfl).raise (f := fMG_IRQ_RAW_fallback m)
      (page_aMG_IRQ_RAW m) rfl).sageEvt 27 (nOther m)
  refine .touch (.each (.touch ((h.disEnd m 7).putMg m _) (touch_holdLegs (Sub.refl _) m st _ _) rfl) fun n _ hy => ?_)
    (touch_forceLegs (Sub.refl _) _ _ _ _ _ _) rfl
  exact (hy.touch (touch_retractLeg (Sub.refl _) n none _) rfl).touch (touch_skipLeg (Sub.refl _) n _) rfl

theorem FabTraffic.takeState (h : FabTraffic l x s) (m req code evt : Nat) : FabTraffic l x (takeState m req code evt s) :=
  .ite h (h.enterState m _ _ req code evt)

theorem FabTraffic.applyRequest (h : FabTraffic l x s) (m req code evt : Nat) : FabTraffic l x (applyRequest m req code evt s) :=
  .ite h ((h.touch (touch_noteRequest (Sub.refl _) m req code evt _) rfl).takeState m req code evt)

theorem FabTraffic.leaveSide (h : FabTraffic l x s) (m code evt : Nat) : FabTraffic l x (leaveSide m code evt s) :=
  h.maybe (·.takeState m 1 code evt)

theorem FabTraffic.latchRequest (h : FabTraffic l x s) (m req code evt : Nat) : FabTraffic l x (latchRequest m req code evt s) := by
  have noted := h.putMg m { s.mg m with tripTick := some (s.now / 32) }
  exact .ite (.ite noted (noted.enterState m 3 0 req code evt)) ((noted.maybe (·.applyRequest m req code evt)).leaveSide m code evt)

theorem FabTraffic.latchGroup (h : FabTraffic l x s) (m : Nat) {fl : Fld} {k : Nat} (e : pageOf fl.addr = k)
    (hk : (k == 1) = false) (code : Nat) (was : Bool) : FabTraffic l x (latchGroup m fl code was s) := by
  have shown := (h.raise e hk).touch (touch_refreshSum (Sub.refl _) m _) rfl
  exact .ite shown (((shown.raise (f := fMG_IRQ_RAW_latch m) (page_aMG_IRQ_RAW m) rfl).record 0x21 .thy _).sageEvt 25 (nOther m))

theorem FabTraffic.linkScan (h : FabTraffic l x s) : FabTraffic l x (linkScan s) := by
  refine h.each fun m y hy => ?_
  have split (b : Bool) : FabTraffic l x (y.putBit aPAIR_SPLIT m b) := hy.put (page_bit_aPAIR_SPLIT m) rfl _
  refine .maybe ?_ fun h => (h.latchGroup m (fl := fMG_TRIP_STAT_link m) (page_aMG_TRIP_STAT m) rfl 0x87 false).latchRequest m _ 0x87 0xFF
  exact .ite ((split true).raise (f := fPAIR_IRQ_RAW_split) (k := 12) rfl rfl) (.ite (split false) hy)

theorem FabTraffic.membersChanged (h : FabTraffic l x s) : FabTraffic l x (membersChanged s) :=
  (FabTraffic.linkScan (h.each fun m _ hy => hy.touch (touch_refreshSum (Sub.refl _) m _) rfl)).touch
    (touch_hintChange (Sub.refl _) _ _) rfl

/-! Ports of the hub, and the reset of Basil. -/

theorem FabTraffic.roleScan (h : FabTraffic l x s) : FabTraffic l x (roleScan s) := by
  have role := h.put (f := fPAIR_STATE_role) (k := 12) rfl rfl s.role
  exact .ite h (.ite (role.put (f := fTHY_SLEW_slew) (k := 2) rfl rfl 0) (role.each fun k _ hy => hy.stopCtxAt k))

theorem FabTraffic.enterOff (h : FabTraffic l x s) (p : Nat) : FabTraffic l x (enterOff p s) := by
  have off := (h.touch (touch_quitPort (Sub.refl _) p s) rfl).touch (touch_setPortState (Sub.refl _) p pOff _) rfl
  exact (off.touch (touch_putPort (Sub.refl _) _ p _) rfl).linkScan.roleScan

theorem FabTraffic.setMem (h : FabTraffic l x s) (m : List Host.Cell) : FabTraffic l x (s.setMem m) := ⟨h.warden, h.regs⟩

theorem FabTraffic.engReset (h : FabTraffic l x s) : FabTraffic l x (engReset s) := by
  have left : FabTraffic l x (s.each allCtx fun k s =>
      if (s.ctx k).st = .run then Machine.trkHold k true (Machine.leaveRun k s) else s) :=
    h.each fun k _ hy => hy.maybe fun h => (h.leaveRun k).trkHold k true
  unfold Machine.engReset
  exact .setMem (.touch (.touch (.touch (.touch left (touch_setCtxs (Sub.refl _) _ _) rfl)
    (touch_setStages (Sub.refl _) _ _) rfl) (touch_setLanes (Sub.refl _) _ _) rfl) (touch_setBasil (Sub.refl _) _ _) rfl) _

end Sys2Proof.Proofs
end

section
/-! PROOFS. A warden's sequence from RUN to RETIRE (02_islands_and_credits.md R53, R55, R62). -/
namespace Sys2Proof.Proofs
open Sys2Proof Sys2Proof.Machine Sys2Proof.Laws

variable {l : List Nat} {x s t : State} {i : Nat}

/-! What a warden's transition shows (R55). -/

/-- The flags of a transition are registers alone. -/
theorem wardenFlags_same (i : Nat) (s : State) {p : Part} (hp : has 0x3FFFF (partNo p) = false) : Part.same s (wardenFlags i s) p := by
  obtain ⟨-, -, -, same⟩ := touch_wardenFlags (Sub.refl _) i s (Touch.rfl' _ s)
  exact same p hp

@[simp] theorem wardenFlags_wardens (i : Nat) (s : State) : (wardenFlags i s).wardens = s.wardens :=
  wardenFlags_same i s (p := .wardens) rfl
@[simp] theorem wardenFlags_bnd (i : Nat) (s : State) : (wardenFlags i s).bnd = s.bnd := wardenFlags_same i s (p := .bnd) rfl
@[simp] theorem wardenFlags_cmt (i : Nat) (s : State) : (wardenFlags i s).cmt = s.cmt := wardenFlags_same i s (p := .cmt) rfl
@[simp] theorem wardenFlags_now (i : Nat) (s : State) : (wardenFlags i s).now = s.now := wardenFlags_same i s (p := .now) rfl

@[simp] theorem wardenFlags_warden (i : Nat) (s : State) (j : Nat) : (wardenFlags i s).warden j = s.warden j := by
  unfold State.warden
  rw [wardenFlags_wardens]

/-- A field of another register than IRQ_RAW, or of other bits than 3 and 7 of it, shows what it showed. -/
theorem wardenFlags_shows {f : Fld} (h : (∀ b, f.addr ≠ hdr b + 0x10) ∨ (4 ≤ f.lo ∧ f.lo + f.w ≤ 7)) (i : Nat) (s : State) :
    (wardenFlags i s).shows f = s.shows f := by
  have irq (b : Block) (n : Nat) (hn : n = 3 ∨ n = 7) (t : State) : (t.irq (hdr b) n).shows f = t.shows f := by
    obtain h | h := h
    · exact shows_put_ne _ _ (Ne.symm (h b))
    · exact shows_put_disj (f := hRaw (hdr b) n) _ _ (by dsimp only; omega)
  have pages : (s.each (pagesOf i) (fun b s => s.irq (hdr b) 3)).shows f = s.shows f :=
    each_keeps (P := fun t => t.shows f = s.shows f) (fun b _ t ht => (irq b 3 (.inl rfl) t).trans ht) rfl
  exact (irq .fab 7 (.inr rfl) _).trans pages

/-! The shadows of an island (01_register_pages.md R25). -/

/-- A group's registers belong to the island of Thyme. -/
theorem islandAt_of_ofGroup {g a : Nat} (h : s.ofGroup g a = true) : islandAt (a % 2 ^ 32) = 6 := by
  have thy : 0x40020000 ≤ a ∧ a < 0x40040000 := by
    unfold State.ofGroup tbgAt legAt at h
    simp only [Bool.or_eq_true, Bool.and_eq_true, beq_iff_eq, decide_eq_true_eq] at h
    obtain h | ⟨-, h⟩ := h
    · split at h
      · omega
      · cases h
    · split at h
      · omega
      · cases h
  have block : blockAt a = some .thy := by
    unfold blockAt
    iterate 4 rw [if_neg (by omega)]
    rw [if_pos (by omega)]
  rw [Nat.mod_eq_of_lt (by omega)]
  unfold islandAt
  rw [block]
  rfl

/-- The shadows of an island's registers. -/
def ownShadow (i : Nat) (y : Nat × Pend) : Bool := islandAt (y.1 % 2 ^ 32) == i

/-- The commit of a group that is dropped has shadows of Thyme's island alone. -/
theorem dropTbgCommit_cmt (g : Nat) (s : State) :
    (dropTbgCommit g s).cmt.filter (!ownShadow 6 ·) = s.cmt.filter (!ownShadow 6 ·) := by
  have dropped : (dropTbgCommit g s).cmt = s.cmt.filter (fun y => !s.ofGroup g y.1) :=
    each_keeps (P := fun t => t.cmt = s.cmt.filter (fun y => !s.ofGroup g y.1)) (fun _ _ _ ht => ht) rfl
  rw [dropped, List.filter_filter]
  refine List.filter_congr fun y _ => ?_
  cases h : s.ofGroup g y.1 with
  | true =>
    have own : ownShadow 6 y = true := beq_iff_eq.mpr (islandAt_of_ofGroup h)
    rw [own]
    rfl
  | false => simp

theorem dropTbgCommit_bnd (g : Nat) (s : State) : (dropTbgCommit g s).bnd = s.bnd := by
  obtain ⟨-, -, -, same⟩ := touch_dropTbgCommit (Sub.refl _) g s (Touch.rfl' _ s)
  exact same .bnd rfl

/-- The commits of the timebase groups, which a reset of Thyme's island drops. -/
def dropGroups (i : Nat) (s : State) : State := if i = 6 then s.each (List.range 32) dropTbgCommit else s

theorem dropGroups_shadows (i : Nat) (s : State) : (dropGroups i s).bnd = s.bnd ∧
    (dropGroups i s).cmt.filter (!ownShadow i ·) = s.cmt.filter (!ownShadow i ·) := by
  unfold dropGroups
  split
  · rename_i h
    subst h
    refine each_keeps (P := fun t => t.bnd = s.bnd ∧ t.cmt.filter (!ownShadow 6 ·) = s.cmt.filter (!ownShadow 6 ·))
      (fun g _ t ht => ?_) ⟨rfl, rfl⟩
    exact ⟨(dropTbgCommit_bnd g t).trans ht.1, (dropTbgCommit_cmt g t).trans ht.2⟩
  · exact ⟨rfl, rfl⟩

/-- The shadows of an island's pages are discarded, those of the others wait on. -/
theorem dropShadows_shadows (i : Nat) (s : State) : (dropShadows i s).bnd = s.bnd.filter (!ownShadow i ·) ∧
    (dropShadows i s).cmt = s.cmt.filter (!ownShadow i ·) := by
  obtain ⟨bnd, cmt⟩ := dropGroups_shadows i s
  rw [← bnd, ← cmt]
  exact each_keeps (P := fun t => t.bnd = (dropGroups i s).bnd.filter (!ownShadow i ·) ∧
    t.cmt = (dropGroups i s).cmt.filter (!ownShadow i ·)) (fun _ _ _ ht => ht) ⟨rfl, rfl⟩

theorem dropShadows_wardens (i : Nat) (s : State) : (dropShadows i s).wardens = s.wardens := by
  obtain ⟨-, -, -, same⟩ := touch_dropShadows (Sub.refl _) i s (Touch.rfl' _ s)
  exact same .wardens rfl

/-! The begin of the sequence (R55, R62). -/

/-- What stops at the begin of a sequence: Basil's completed steps, the motions of the axes. -/
def stopsAtBegin (i : Nat) (s : State) : State := if i = 5 then engBegins s else if i = 11 then amuBegins s else s

theorem FabTraffic.stopsAtBegin (h : FabTraffic l x s) (i : Nat) : FabTraffic l x (stopsAtBegin i s) :=
  .ite (h.each fun k _ hy => hy.cancelStep k) (.ite (h.touch (touch_amuBegins (Sub.refl _) s) rfl) h)

/-- What stops there leaves the shadows. -/
theorem stopsAtBegin_shadows (i : Nat) (s : State) : (stopsAtBegin i s).bnd = s.bnd ∧ (stopsAtBegin i s).cmt = s.cmt := by
  have eng := touch_engBegins (m := 0x20A0091C049262) (Sub.up (Sub.refl _) rfl) s (Touch.rfl' _ s)
  have amu := touch_amuBegins (m := 0x20A0091C049262) (Sub.up (Sub.refl _) rfl) s (Touch.rfl' _ s)
  obtain ⟨-, -, -, same⟩ := Touch.ite_ (c := i = 5) eng (Touch.ite_ (c := i = 11) amu (Touch.rfl' _ s))
  exact ⟨same .bnd rfl, same .cmt rfl⟩

/-- The requests of a running island go on to DRAIN. -/
theorem islandStart_run (run : s.isRun i = true) (p : Purpose) : islandStart i p s = wardenStart i p (stopsAtBegin i (dropShadows i s)) := by
  unfold islandStart
  rw [run]
  rfl

/-- A request that reaches a warden in RUN puts it into DRAIN; its epoch stays. -/
theorem wardenStart_run (run : (s.warden i).st = .run) (p : Purpose) : ∃ w, wardenStart i p s = wardenFlags i (s.putWarden i w) ∧
    w.st = .drain ∧ w.purpose = p ∧ w.epoch = (s.warden i).epoch := by
  unfold wardenStart
  simp only [run]
  exact ⟨_, rfl, rfl, rfl, rfl⟩

/-- The begin of a running island's sequence: DRAIN in the same epoch, and its shadows are gone. -/
theorem islandStart_drains (run : s.isRun i = true) (p : Purpose) : ((islandStart i p s).warden i).st = .drain ∧
    ((islandStart i p s).warden i).purpose = p ∧ ((islandStart i p s).warden i).epoch = (s.warden i).epoch ∧
    (islandStart i p s).bnd = s.bnd.filter (!ownShadow i ·) ∧ (islandStart i p s).cmt = s.cmt.filter (!ownShadow i ·) := by
  have stopped : FabTraffic [] (dropShadows i s) (stopsAtBegin i (dropShadows i s)) := (FabTraffic.refl _ _).stopsAtBegin i
  have seq : sequence ((stopsAtBegin i (dropShadows i s)).warden i) = sequence (s.warden i) := by
    refine (stopped.warden i).trans ?_
    unfold State.warden
    rw [dropShadows_wardens]
  obtain ⟨bnd, cmt⟩ := stopsAtBegin_shadows i (dropShadows i s)
  obtain ⟨bnd', cmt'⟩ := dropShadows_shadows i s
  have st : (s.warden i).st = .run := of_decide_eq_true run
  obtain ⟨w, e, drain, purpose, epoch⟩ := wardenStart_run ((st_of_sequence seq).trans st) p
  rw [islandStart_run run, e]
  simp only [wardenFlags_warden, warden_putWarden, wardenFlags_bnd, wardenFlags_cmt]
  exact ⟨drain, purpose, epoch.trans (epoch_of_sequence seq), bnd.trans bnd', cmt.trans cmt'⟩

/-! CTRL.srst (R62). -/

/-- A write that is granted finds the island of its block in RUN (R54). -/
theorem isRun_of_grants {r : Req} {b : Block} {o : Nat} (ho : o < 0x1000) (hg : s.grants r (hdr b + o) true = true) :
    s.isRun (blockIsland b) = true := by
  unfold State.grants at hg
  rw [blockAt_hdr b ho] at hg
  by_contra down
  have absent : s.verdict r b (hdr b + o) true = .absent := by
    unfold State.verdict
    exact if_pos (by simp [down])
  simp only [absent] at hg
  exact absurd hg (by decide)

@[simp] theorem granted_allHeld (s : State) (r : Req) (b : Block) : (s.granted r b).allHeld = s.allHeld := by
  simp [State.allHeld, State.legEn, State.mgState, State.legMg]

/-- The blocks of the islands that a reset of a driven machine spares. -/
theorem block_of_guarded {b : Block} (h : blockIsland b ∈ [5, 6, 7]) : b = .eng ∨ b = .thy ∨ b = .ndl := by
  cases b <;> simp_all [blockIsland]

/-- The islands of Basil, Thyme and the drive link are not reset while a machine could be driven: the request is counted. -/
theorem ctrlSrst_refused (r : Req) {b : Block} (hb : blockIsland b ∈ [5, 6, 7]) (held : s.allHeld = false) :
    ctrlSrst r b s = ((s.errSet 0x40010000 18).irq 0x40010000 6).incrSat fFAB_SRST_REF_cnt := by
  obtain rfl | rfl | rfl := block_of_guarded hb
  all_goals exact if_pos (by rw [held]; rfl)

theorem ctrlSrst_starts (r : Req) {b : Block} (hb : b ∉ [Block.sys, .hpm, .fab, .apc, .sage, .msio, .hrp])
    (held : blockIsland b ∈ [5, 6, 7] → s.allHeld = true) : ctrlSrst r b s = islandStart (blockIsland b) .reset s := by
  cases b with
  | sys | hpm | fab | apc | sage | msio | hrp => exact absurd (by decide) hb
  | eng | thy | ndl => exact if_neg (by rw [held (by decide)]; simp)
  | _ => rfl

end Sys2Proof.Proofs
end

section
/-! PROOFS. A warden's sequence from RETIRE to ABSENT and back (02_islands_and_credits.md R55, R56). -/
namespace Sys2Proof.Proofs
open Sys2Proof Sys2Proof.Machine Sys2Proof.Laws

variable {l : List Nat} {x s t : State} {i : Nat}

/-! The begin of RETIRE (R55). -/

/-- The counters of FAB that open conversions of the ADC count in (R57; 12_analog_acquisition.md R428). -/
def retireCounts : List Nat := [aFAB_DISCARD_CNT 8, aFAB_RETIRED_CNT 9]

/-- An averager that a conversion without a value reaches delivers a record for Basil, no value for the comparators. -/
theorem FabTraffic.avgTake_none (h : FabTraffic l x s) (u j : Nat) (rst : Bool) (due : Option Nat) :
    FabTraffic l x (avgTake u j none rst due s) := by
  have avg := h.touch (touch_putAvg (Sub.refl _) s u j {}) rfl
  have shown := (avg.put (f := fADC_AVG_kind u j) (page_aADC_AVG u j) rfl 3).put (f := fADC_AVG_value u j)
    (page_aADC_AVG u j) rfl (lowBits 24 0)
  exact .ite h (shown.touch (touch_toBasil (Sub.refl _) u _ _) rfl)

theorem FabTraffic.adcToGiu (h : FabTraffic retireCounts x s) (u : Nat) (q : AdcReq) (v : Option Word) :
    FabTraffic retireCounts x (adcToGiu u q v s) :=
  .ite (h.touch (touch_setGiu (Sub.refl _) _ _) rfl) (h.count (f := fFAB_DISCARD_CNT_cnt 8) (by simp [retireCounts]) _)

/-- A request that a reset ends. -/
theorem FabTraffic.adcAbort (h : FabTraffic retireCounts x s) (u : Nat) (q : AdcReq) :
    FabTraffic retireCounts x (adcAbort u q 4 s) := by
  unfold Machine.adcAbort
  have less := (h.incr (f := fADC_ABT_CNT_cnt u) (page_aADC_ABT_CNT u) rfl).touch (touch_flightLess (Sub.refl _) u _) rfl
  have counted := (less.incrSat (f := fADC_ABT_CAUSE_reset u) (page_aADC_ABT_CAUSE u) rfl).touch (touch_adcIrq (Sub.refl _) u 5 _) rfl
  have held := counted.touch (touch_runHeld (Sub.refl _) u q s.now _) rfl
  have replied (y : State) (hy : FabTraffic retireCounts x y) : FabTraffic retireCounts x
      (if q.src = 1 then Machine.adcToGiu u q none y else if q.src = 2 then resTake u q none y else y) :=
    .ite (hy.adcToGiu u q none) (hy.maybe (·.touch (touch_resTake (Sub.refl _) u q none _) rfl))
  refine replied _ (.avgTake_none (.ite held ?_) u q.j false q.avgDue)
  exact (held.wr (page_aADC_RES u q.j) rfl _).touch (touch_toBasil (Sub.refl _) u _ _) rfl

theorem FabTraffic.adcRetire (h : FabTraffic retireCounts x s) : FabTraffic retireCounts x (adcRetire s) := by
  refine h.each fun u y hy => .each ((hy.touch (touch_putAdc (Sub.refl _) _ u _) rfl).touch (touch_qShow (Sub.refl _) u _) rfl) fun q z hz => ?_
  refine .ite (.adcToGiu ?_ u q none) (hz.adcAbort u q)
  exact (hz.count (f := fFAB_RETIRED_CNT_cnt 9) (by simp [retireCounts]) _).touch (touch_flightLess (Sub.refl _) u _) rfl

theorem FabTraffic.canRetire (h : FabTraffic l x s) : FabTraffic l x (canRetire s) := by
  refine h.each fun c y hy => .record (.touch (.each hy fun b z hz => ?_) (touch_canIdle (Sub.refl _) c _) rfl) _ _ _
  exact hz.touch (touch_txAbort (Sub.refl _) c b _) rfl

/-- What the chapters end at the begin of RETIRE, after the warden's transition. -/
theorem retireBegins_traffic (i : Nat) (s : State) : FabTraffic retireCounts (enterRetire i s) (retireBegins i s) := by
  have h := FabTraffic.refl retireCounts (enterRetire i s)
  refine .ite h.adcRetire (.ite h.canRetire (.maybe h fun h => ?_))
  refine .each (h.touch (touch_setRosem (Sub.refl _) _ _) rfl) fun y z hz => ?_
  exact (hz.incr (f := fREC_DEF_ABS_cnt) (k := 13) rfl rfl).recDefer _ _

/-- DRAIN ends in RETIRE, and the epoch counts (R55, R56). -/
theorem retireBegins_warden (i : Nat) (s : State) : ((retireBegins i s).warden i).st = .retire ∧
    ((retireBegins i s).warden i).epoch = ((s.warden i).epoch + 1) % 65536 ∧
    ((retireBegins i s).warden i).purpose = (s.warden i).purpose := by
  have seq := (retireBegins_traffic i s).warden i
  have begun : (enterRetire i s).warden i = { s.warden i with st := .retire, epoch := ((s.warden i).epoch + 1) % 65536, since := s.now } := by
    unfold enterRetire
    rw [wardenFlags_warden, warden_putWarden]
  rw [begun] at seq
  exact ⟨st_of_sequence seq, epoch_of_sequence seq, (purpose_of_sequence seq :)⟩

theorem retireBegins_now (i : Nat) (s : State) : (retireBegins i s).now = s.now := by
  obtain ⟨-, -, -, same⟩ := touch_retireBegins (Sub.refl _) i s (Touch.rfl' _ s)
  exact same .now rfl

/-- The drain-timeout flag of FAB stays as RETIRE begins. -/
theorem retireBegins_raw (i : Nat) (s : State) :
    (retireBegins i s).shows (hRaw 0x40010000 5) = s.shows (hRaw 0x40010000 5) := by
  have quiet : FabQuiet retireCounts (hRaw 0x40010000 5).addr := by
    refine ⟨rfl, fun j => ?_, by decide⟩
    unfold aFAB_ABSENT_CNT
    dsimp only
    omega
  have same := (retireBegins_traffic i s).regs _ quiet
  have shown : (enterRetire i s).shows (hRaw 0x40010000 5) = s.shows (hRaw 0x40010000 5) :=
    wardenFlags_shows (.inr (by decide)) i _
  rw [← shown]
  unfold State.shows
  rw [same]

/-! RETIRE's replies (R56, R57). -/

/-- What follows a RETIRED reply of warden `i`: the requester sees or discards it (R57), REC counts an event as deferred. -/
def retiredHeard (i : Nat) (r : FabReq) (s : State) : State :=
  let s := if !s.takesReply r.src r.ep then s.incr (fFAB_DISCARD_CNT_cnt r.src)
    else if r.urg then s else retiredSeen r.src r.a s
  if i = 14 && (r.urg || linkDepth r.src 14 0 == 8) then recDefer false (s.stamp) (s.incr fREC_DEF_ABS_cnt) else s

/-- The link of a request that is answered RETIRED: credit, buffer and reply slot come back. -/
def retiredLink (k : Link) (r : FabReq) : Link :=
  { k with held := k.held + 1, buf := k.buf - 1, slots := k.slots - 1, outst := k.outst.erase (r.tag, r.ep), lastDone := some (r.tag, r.ep) }

/-- The RETIRED reply to an accepted request. -/
def retiredReply (i : Nat) (r : FabReq) (s : State) : State :=
  let cls := if r.urg then 1 else 0
  retiredHeard i r ((s.putLink r.src i cls (retiredLink (s.link r.src i cls) r)).incr (fFAB_RETIRED_CNT_cnt i))

theorem retireReplies_eq (i : Nat) (s : State) : retireReplies i s =
    (s.each (s.warden i).accepted (retiredReply i)).putWarden i { s.warden i with accepted := [] } := rfl

theorem touch_retiredHeard {m : Nat} (hm : Sub 0x100000002022002 m) (i : Nat) (r : FabReq) (s : State) (hs : Touch m x s) :
    Touch m x (retiredHeard i r s) := by
  have deferred (y : State) (hy : Touch m x y) : Touch m x
      (if i = 14 && (r.urg || linkDepth r.src 14 0 == 8) then recDefer false y.stamp (y.incr fREC_DEF_ABS_cnt) else y) :=
    .ite_ (touch_recDefer (hm.up rfl) _ _ _ (touch_incr (f := fREC_DEF_ABS_cnt) (hm.pg (k := 13) rfl rfl) y hy)) hy
  refine deferred _ (.ite_ (touch_incr (f := fFAB_DISCARD_CNT_cnt r.src) (hm.pg (page_aFAB_DISCARD_CNT r.src) rfl) s hs) (.ite_ hs ?_))
  exact touch_retiredSeen (hm.up rfl) r.src r.a s hs

theorem FabTraffic.retiredHeard {r : FabReq} (hl : aFAB_DISCARD_CNT r.src ∈ l) (h : FabTraffic l x s) (i : Nat) :
    FabTraffic l x (retiredHeard i r s) := by
  unfold Proofs.retiredHeard
  refine .maybe (.ite (h.count (f := fFAB_DISCARD_CNT_cnt r.src) hl _) (.ite h ?_)) fun h =>
    (h.incr (f := fREC_DEF_ABS_cnt) (k := 13) rfl rfl).recDefer _ _
  exact h.touch (touch_retiredSeen (Sub.refl _) r.src r.a s) rfl

/-- A RETIRED reply is a matter of the link, FAB's counters, the requester's bus and REC. -/
theorem retiredReply_same (i : Nat) (r : FabReq) (s : State) {p : Part} (hp : has 0x10000000A022002 (partNo p) = false) :
    Part.same s (retiredReply i r s) p := by
  have linked := touch_putLink (m := 0x10000000A022002) (Sub.up (Sub.refl _) rfl) s r.src i (if r.urg then 1 else 0)
    (retiredLink (s.link r.src i (if r.urg then 1 else 0)) r) (Touch.rfl' _ s)
  have counted := touch_incr (f := fFAB_RETIRED_CNT_cnt i) ((Sub.refl _).pg (page_aFAB_RETIRED_CNT i) rfl) _ linked
  obtain ⟨-, -, -, same⟩ := touch_retiredHeard (Sub.up (Sub.refl _) rfl) i r _ counted
  exact same p hp

/-- No RETIRED counter is an ABSENT or a DISCARD counter, or STAT of FAB. -/
theorem fabQuiet_retired (i j : Nat) : FabQuiet [aFAB_DISCARD_CNT j, 0x4001000C] (aFAB_RETIRED_CNT i) := by
  refine ⟨page_aFAB_RETIRED_CNT i, fun k => ?_, ?_⟩
  · unfold aFAB_RETIRED_CNT aFAB_ABSENT_CNT
    omega
  · unfold aFAB_RETIRED_CNT aFAB_DISCARD_CNT
    simp only [List.mem_cons, List.not_mem_nil, or_false]
    omega

/-- Each reply counts once. -/
theorem retiredReply_counts {s : State} (agree : s.tmr = []) (i : Nat) (r : FabReq) :
    (retiredReply i r s).shows (fFAB_RETIRED_CNT_cnt i) = (s.shows (fFAB_RETIRED_CNT_cnt i) + 1) % 2 ^ 32 := by
  unfold retiredReply
  dsimp only
  generalize hy : (s.putLink _ _ _ _).incr (fFAB_RETIRED_CNT_cnt i) = y
  have heard : FabTraffic [aFAB_DISCARD_CNT r.src, 0x4001000C] y (retiredHeard i r y) := (FabTraffic.refl _ y).retiredHeard (by simp) i
  have same : (retiredHeard i r y).shows (fFAB_RETIRED_CNT_cnt i) = y.shows (fFAB_RETIRED_CNT_cnt i) := by
    unfold State.shows
    rw [heard.regs _ (fabQuiet_retired i r.src)]
  rw [same, ← hy, shows_incr32, get_eq_shows' _ _ (by exact agree)]
  rfl

theorem each_retiredReply {s : State} (agree : s.tmr = []) (i : Nat) (rs : List FabReq) :
    (s.each rs (retiredReply i)).wardens = s.wardens ∧
      (s.each rs (retiredReply i)).shows (fFAB_RETIRED_CNT_cnt i) = (s.shows (fFAB_RETIRED_CNT_cnt i) + rs.length) % 2 ^ 32 := by
  induction rs generalizing s with
  | nil => exact ⟨rfl, (Nat.mod_eq_of_lt (fld_lt _ _ _)).symm⟩
  | cons r rs ih =>
    have tmr : (retiredReply i r s).tmr = s.tmr := retiredReply_same i r s (p := .tmr) rfl
    obtain ⟨wardens, counted⟩ := ih (tmr.trans agree)
    refine ⟨wardens.trans (retiredReply_same i r s (p := .wardens) rfl), counted.trans ?_⟩
    rw [retiredReply_counts agree, Nat.mod_add_mod, List.length_cons]
    congr 1
    omega

/-! The reset of an island (R55). -/

/-- What a table answers at a key that a map leaves alone. -/
theorem find_filterMap {α : Type} {g : Nat × α → Option (Nat × α)} (hk : ∀ y z, g y = some z → z.1 = y.1) {a : Nat}
    (ha : ∀ v, g (a, v) = some (a, v)) (t : Tab α) : Tab.find (t.filterMap g) a = Tab.find t a := by
  induction t with
  | nil => rfl
  | cons y r ih =>
    obtain ⟨j, v⟩ := y
    rw [List.filterMap_cons]
    by_cases e : j = a
    · subst e
      simp [ha, Tab.find]
    · cases h : g (j, v) with
      | none => simp [Tab.find, e, ih]
      | some z =>
        obtain ⟨k, w⟩ := z
        have key : k = j := hk _ _ h
        simp [Tab.find, key, e, ih]

/-- No island reset returns a register of FAB to its reset value (R43). -/
theorem resetBy_fab {a : Nat} (h : pageOf a = 1) : resetBy (a % 2 ^ 32) = none := by
  unfold pageOf at h
  have block : blockAt (a % 2 ^ 32) = some .fab := by
    unfold blockAt
    iterate 3 rw [if_neg (by omega)]
    rw [if_pos (by omega)]
  unfold resetBy
  rw [block]
  exact ite_self _

/-- The registers of an island are none of FAB's. -/
theorem FabTraffic.clearRegs (h : FabTraffic l x s) (i : Nat) : FabTraffic l x (clearRegs i s) := by
  refine h.trans ⟨fun _ => rfl, fun a ha => ?_⟩
  unfold Machine.clearRegs State.rd
  refine congrArg (Option.getD · _) (find_filterMap ?_ ?_ s.regs)
  · rintro ⟨k, v⟩ z hz
    dsimp only at hz
    split at hz
    · cases hz; rfl
    · split at hz
      · cases hz
      · cases hz; rfl
  · intro v
    exact if_pos (by dsimp only; rw [resetBy_fab ha.1]; rfl)

/-- STAT.cmt_pend of an island's pages falls: of FAB's page that is STAT. -/
theorem FabTraffic.dropShadows (hl : 0x4001000C ∈ l) (h : FabTraffic l x s) (i : Nat) : FabTraffic l x (dropShadows i s) := by
  have pend (b : Block) (y : State) (hy : FabTraffic l x y) : FabTraffic l x (y.lower (hCmtPend (hdr b))) := by
    cases b with
    | fab => exact hy.count hl _
    | _ => exact hy.put (f := hCmtPend (hdr _)) rfl (beq_eq_false_iff_ne.mpr (by dsimp only [pageOf, hdr]; omega)) 0
  refine .each (.trans (.maybe h fun h => h.each fun g _ hy => hy.touch (touch_dropTbgCommit (Sub.refl _) g _) rfl)
    ⟨fun _ => rfl, fun _ _ => rfl⟩)
    fun b y hy => pend b y hy

/-- What an island's block ends before its registers are cleared: ports, steps, the pair link. -/
def endsAtReset (i : Nat) (s : State) : State :=
  let s := if i = 7 then s.each (List.range 32) enterOff else s
  let s := if i = 13 then pairReset s else s
  let s := if i = 5 then engReset s else s
  if i = 6 then s.each ((List.range 32).filter s.tbgRun) (fun g s =>
      match s.kernCtx g with | some k => cancelStep k s | none => s) else s

theorem FabTraffic.endsAtReset (h : FabTraffic l x s) (i : Nat) : FabTraffic l x (endsAtReset i s) := by
  refine .maybe (.maybe (.maybe (.maybe h fun h => h.each fun p _ hy => hy.enterOff p) fun h => h.touch (touch_pairReset (Sub.refl _) _) rfl)
    fun h => h.engReset) fun h => h.each fun g y hy => ?_
  split
  · exact hy.cancelStep _
  · exact hy

/-- The registers, copies and shadows of the island, cleared. -/
def cleared (i : Nat) (s : State) : State := clearRegs i (dropCopies i (dropShadows i (endsAtReset i s)))

theorem FabTraffic.cleared (hl : 0x4001000C ∈ l) (h : FabTraffic l x s) (i : Nat) : FabTraffic l x (cleared i s) :=
  (((h.endsAtReset i).dropShadows hl i).touch (touch_dropCopies (Sub.refl _) i _) rfl).clearRegs i

/-- The reset of an island changes no warden's place in its sequence, and of FAB's registers STAT and the ABSENT counters alone. -/
theorem FabTraffic.islandReset (hl : 0x4001000C ∈ l) (h : FabTraffic l x s) (i : Nat) : FabTraffic l x (islandReset i s) := by
  have c := h.cleared hl i
  unfold Machine.islandReset
  dsimp only
  split
  · exact (c.touch (touch_putApc (Sub.refl _) _ _ _) rfl).touch (touch_putWdg (Sub.refl _) _ _ _) rfl
  · exact (c.touch (touch_putApc (Sub.refl _) _ _ _) rfl).touch (touch_putWdg (Sub.refl _) _ _ _) rfl
  · exact c.touch (touch_sageReset (Sub.refl _) _ _) rfl
  · exact c.put (f := ⟨aENG_STAT, 8, 1⟩) (k := 5) rfl rfl _
  · refine (FabTraffic.wr (a := aSAGE_MG_HOLD) ?_ rfl rfl 0).membersChanged
    exact .touch (.touch (.touch (.touch c (touch_setTbgs (Sub.refl _) _ _) rfl) (touch_setLegs (Sub.refl _) _ _) rfl)
      (touch_setMgs (Sub.refl _) _ _) rfl) (touch_setTrgs (Sub.refl _) _ _) rfl
  · exact c.each fun p _ hy => hy.touch (touch_putPort (Sub.refl _) _ p _) rfl
  · exact c.touch (touch_setGiu (Sub.refl _) _ _) rfl
  · exact (c.touch (touch_adcReset (Sub.refl _) _) rfl).touch (touch_adcSourcesOff (Sub.refl _) _ _) rfl
  · exact c.touch (touch_fbiReset (Sub.refl _) _) rfl
  · exact c.touch (touch_amuReset (Sub.refl _) _) rfl
  · exact c.touch (touch_canReset (Sub.refl _) _) rfl
  · exact c.touch (touch_setRosem (Sub.refl _) _ _) rfl
  · exact c.touch (touch_setBist (Sub.refl _) _ _) rfl
  · exact c

end Sys2Proof.Proofs
end

section
/-! PROOFS. O18: the sequence of a warden (02_islands_and_credits.md R53, R55, R56, R61, R62, R64). -/
namespace Sys2Proof.Proofs
open Sys2Proof Sys2Proof.Machine Sys2Proof.Laws

variable {s t : State} {r : Req} {b : Block} {i : Nat} {P : State → Prop}

/-! CTRL.srst (R62). -/

/-- A request goes over the fabric, and leaves every warden in its place. -/
theorem granted_warden (s : State) (r : Req) (b : Block) (j : Nat) : sequence ((s.granted r b).warden j) = sequence (s.warden j) :=
  ((FabTraffic.refl [] s).fabUse (reqIsland r) (blockIsland b) 0).warden j

theorem runs_ctrlSrst (hg : s.grants r (hdr b + 8) true = true) (h : P (ctrlSrst r b (s.granted r b))) : Runs (.ctrlSrst r b) s P :=
  runs_header rfl (by decide) hg rfl h

/-- A refused reset, counted (R62). -/
def resetRefused (s : State) : State := ((s.errSet 0x40010000 18).irq 0x40010000 6).incrSat fFAB_SRST_REF_cnt

theorem errSet_wardens (s : State) (h i : Nat) : (s.errSet h i).wardens = s.wardens := by
  unfold State.errSet
  split <;> rfl

theorem errSet_get_ne {h i : Nat} {f : Fld} (he : h + 0x1C ≠ f.addr) (hr : h + 0x10 ≠ f.addr) : (s.errSet h i).get f = s.get f := by
  unfold State.errSet
  split
  · rfl
  · exact (get_put_ne (f := hRaw h 0) _ 1 hr).trans (get_put_ne (f := hErr h i) s 1 he)

/-- A saturating counter of 32 bits shows the next count. -/
theorem shows_incrSat32 (s : State) (a : Nat) : (s.incrSat ⟨a, 0, 32⟩).shows ⟨a, 0, 32⟩ = min (s.get ⟨a, 0, 32⟩ + 1) (2 ^ 32 - 1) :=
  (shows_put s ⟨a, 0, 32⟩ _ (Nat.le_refl 32)).trans (Nat.mod_eq_of_lt (by dsimp only; omega))

theorem resetRefused_counts (s : State) : (resetRefused s).shows fFAB_SRST_REF_cnt = min (s.get fFAB_SRST_REF_cnt + 1) (2 ^ 32 - 1) := by
  have before : ((s.errSet 0x40010000 18).irq 0x40010000 6).get fFAB_SRST_REF_cnt = s.get fFAB_SRST_REF_cnt :=
    (get_put_ne (f := hRaw 0x40010000 6) _ 1 (by decide)).trans (errSet_get_ne (by decide) (by decide))
  rw [← before]
  exact shows_incrSat32 _ _

theorem resetRefused_regs {l : List Nat} (he : 0x4001001C ∈ l) (hr : 0x40010010 ∈ l) (hc : aFAB_SRST_REF ∈ l) (h : OnlyRegs l s t) :
    OnlyRegs l s (resetRefused t) :=
  onlyRegs_put (f := fFAB_SRST_REF_cnt) _ hc (onlyRegs_put (f := hRaw 0x40010000 6) _ hr (onlyRegs_errSet 18 he hr h))

/-! ABSENT (R55, R56). -/

/-- What RETIRE resets as it ends: the island, or Basil's loads of configuration for its shadow warden (R112). -/
def resetAtEnd (i : Nat) (s : State) : State :=
  if i = 16 then
    (if (s.warden i).purpose = .reload then
      (((dropShadows 5 s).wr (hdr .eng + 0x24) 0).put fENG_KS_STAT_state 1).lower ⟨aENG_STAT, 8, 1⟩ else s)
  else islandReset i s

theorem FabTraffic.resetAtEnd {l : List Nat} {x : State} (hl : 0x4001000C ∈ l) (h : FabTraffic l x s) (i : Nat) :
    FabTraffic l x (resetAtEnd i s) := by
  refine .ite (.maybe h fun h => ?_) (h.islandReset hl i)
  have staged := (h.dropShadows hl 5).wr (a := hdr .eng + 0x24) (k := 5) (by dsimp only [pageOf, hdr]; omega) rfl 0
  have loaded := staged.put (f := fENG_KS_STAT_state) (k := 5) rfl rfl 1
  exact loaded.put (f := ⟨aENG_STAT, 8, 1⟩) (k := 5) rfl rfl 0

/-- A warden in ABSENT. -/
def absentNow (i : Nat) (s : State) : State :=
  wardenFlags i (s.putWarden i { s.warden i with st := .absent, since := s.now, pdown := false })

theorem retireEnds_eq (up : ((retireReplies i s).warden i).purpose ≠ .powerDown) :
    retireEnds i s = absentNow i (resetAtEnd i (retireReplies i s)) := by
  have pdown : (((retireReplies i s).warden i).purpose == .powerDown) = false := beq_eq_false_iff_ne.mpr up
  unfold retireEnds
  simp only [up, pdown, decide_false, Bool.and_false, Bool.false_eq_true, if_false]
  rfl

theorem absentNow_warden (i : Nat) (s : State) : (absentNow i s).warden i = { s.warden i with st := .absent, since := s.now, pdown := false } := by
  unfold absentNow
  rw [wardenFlags_warden, warden_putWarden]

/-- The RETIRED counters are no interrupt registers. -/
theorem retiredCnt_ne_raw (i : Nat) (b : Block) : aFAB_RETIRED_CNT i ≠ hdr b + 0x10 := by
  unfold aFAB_RETIRED_CNT
  cases b <;> simp only [hdr] <;> omega

/-- The replies of RETIRE: every accepted request is answered and counted, the warden keeps its place. -/
theorem retireReplies_warden (agree : s.tmr = []) (i : Nat) : (retireReplies i s).warden i = { s.warden i with accepted := [] } ∧
    (retireReplies i s).shows (fFAB_RETIRED_CNT_cnt i) =
      (s.shows (fFAB_RETIRED_CNT_cnt i) + (s.warden i).accepted.length) % 2 ^ 32 := by
  rw [retireReplies_eq]
  exact ⟨warden_putWarden _ _ _, (each_retiredReply agree i _).2⟩

/-- RETIRE ends in ABSENT, in the same epoch, with every request answered (R56). -/
theorem retireEnds_absent (agree : s.tmr = []) (i : Nat) (up : (s.warden i).purpose ≠ .powerDown) :
    ((retireEnds i s).warden i).st = .absent ∧ ((retireEnds i s).warden i).accepted = [] ∧
    ((retireEnds i s).warden i).epoch = (s.warden i).epoch ∧ ((retireEnds i s).warden i).pdown = false ∧
    (retireEnds i s).shows (fFAB_RETIRED_CNT_cnt i) =
      (s.shows (fFAB_RETIRED_CNT_cnt i) + (s.warden i).accepted.length) % 2 ^ 32 := by
  obtain ⟨replied, counted⟩ := retireReplies_warden agree i
  have reset : FabTraffic [aFAB_DISCARD_CNT 0, 0x4001000C] (retireReplies i s) (resetAtEnd i (retireReplies i s)) :=
    (FabTraffic.refl _ _).resetAtEnd (by simp) i
  have seq := reset.warden i
  have shown : (resetAtEnd i (retireReplies i s)).shows (fFAB_RETIRED_CNT_cnt i) = (retireReplies i s).shows (fFAB_RETIRED_CNT_cnt i) := by
    unfold State.shows
    rw [reset.regs _ (fabQuiet_retired i 0)]
  rw [retireEnds_eq (by rwa [replied]), absentNow_warden]
  rw [replied] at seq
  refine ⟨rfl, accepted_of_sequence seq, (epoch_of_sequence seq :), rfl, ?_⟩
  exact (wardenFlags_shows (.inl (retiredCnt_ne_raw i)) i _).trans (shown.trans counted)

/-! RUN again (R55). -/

/-- A warden that goes back to RUN keeps its epoch and its time. -/
theorem wardenRun_warden (i : Nat) (s : State) : ((wardenRun i s).warden i).st = .run ∧
    ((wardenRun i s).warden i).epoch = (s.warden i).epoch ∧ (wardenRun i s).now = s.now := by
  unfold wardenRun
  rw [wardenFlags_warden, warden_putWarden, wardenFlags_now]
  exact ⟨rfl, rfl, rfl⟩

/-- What an island's blocks start with at its release from a reset is no matter of wardens or time. -/
theorem islandRelease_reset (h : (s.warden i).purpose = .reset) : (islandRelease i s).wardens = (wardenRun i s).wardens ∧
    (islandRelease i s).now = (wardenRun i s).now := by
  have up : ((s.warden i).purpose == .powerUp) = false := by rw [h]; rfl
  unfold islandRelease
  simp only [up, Bool.false_eq_true, if_false]
  split <;> exact ⟨rfl, rfl⟩

theorem refreshPower_same (s : State) : (refreshPower s).wardens = s.wardens ∧ (refreshPower s).now = s.now := by
  obtain ⟨-, -, -, same⟩ := touch_refreshPower (Sub.refl _) s (Touch.rfl' _ s)
  exact ⟨same .wardens rfl, same .now rfl⟩

theorem released_run (h : (s.warden i).purpose = .reset) : ((refreshPower (islandRelease i s)).warden i).st = .run ∧
    ((refreshPower (islandRelease i s)).warden i).epoch = (s.warden i).epoch ∧ (refreshPower (islandRelease i s)).now = s.now := by
  obtain ⟨powered, powered'⟩ := refreshPower_same (islandRelease i s)
  obtain ⟨released, released'⟩ := islandRelease_reset h
  have warden : (refreshPower (islandRelease i s)).warden i = (wardenRun i s).warden i := by
    unfold State.warden
    rw [powered, released]
  obtain ⟨st, epoch, now⟩ := wardenRun_warden i s
  rw [warden, powered', released']
  exact ⟨st, epoch, now⟩

/-! The commands of a warden, each in the state it acts in. -/

theorem runs_clockGate {i : Fin 17} (run : (s.warden i.val).st = .run) (idle : (s.warden i.val).accepted = [])
    (gates : i.val ∉ [0, 4, 16]) (h : P ((s.reach ((s.warden i.val).idle + us)).putWarden i.val
      { (s.reach ((s.warden i.val).idle + us)).warden i.val with gated := true })) : Runs (.clockGate i) s P := by
  simp only [List.mem_cons, List.not_mem_nil, or_false, not_or] at gates
  exact ⟨_, congrArg done (if_pos (by simp [run, idle, gates])), h⟩

theorem runs_drainComplete {i : Fin 17} (drain : (s.warden i.val).st = .drain) (idle : (s.warden i.val).accepted = [])
    (h : P (retireBegins i.val s)) : Runs (.drainComplete i) s P :=
  ⟨_, congrArg done (if_pos (by simp [drain, idle])), h⟩

/-- The end of DRAIN's time, shown in ERR and IRQ_RAW (R55). -/
def drainShown (s : State) : State := (s.errSet 0x40010000 17).irq 0x40010000 5

theorem runs_drainTimeout {i : Fin 17} (drain : (s.warden i.val).st = .drain)
    (h : P (retireBegins i.val (drainShown (s.reach ((s.warden i.val).since + (s.warden i.val).limit * us))))) :
    Runs (.drainTimeout i) s P :=
  ⟨_, congrArg done (if_pos drain), h⟩

theorem drainShown_same (s : State) : (drainShown s).wardens = s.wardens ∧ (drainShown s).now = s.now := by
  unfold drainShown State.errSet
  split <;> exact ⟨rfl, rfl⟩

theorem drainShown_raw (s : State) : (drainShown s).shows (hRaw 0x40010000 5) = 1 := shows_put_bit _ _ (by decide) (by decide) rfl

theorem runs_retireComplete {i : Fin 17} (retire : (s.warden i.val).st = .retire)
    (up : ((retireEnds i.val s).warden i.val).pdown = false) (h : P (retireEnds i.val s)) : Runs (.retireComplete i) s P := by
  refine ⟨_, congrArg done ((if_pos retire).trans ?_), h⟩
  exact if_neg (by simp [up])

theorem runs_retireOvertime {i : Fin 17} (retire : (s.warden i.val).st = .retire)
    (h : P (fabricFault 4 i.val i.val 0 (s.reach ((s.warden i.val).since + 2 * us + 1)))) : Runs (.retireOvertime i) s P :=
  ⟨_, congrArg done (if_pos retire), h⟩

theorem runs_resetRelease {i : Fin 17} (absent : (s.warden i.val).st = .absent) (reset : (s.warden i.val).purpose = .reset)
    (h : P (refreshPower (islandRelease i.val (s.reach ((s.warden i.val).since + 64 * islandPeriod i.val))))) :
    Runs (.resetRelease i) s P :=
  ⟨_, congrArg done (if_pos (by simp [absent, reset])), h⟩

/-- Settles O18: the sequence of a warden, transition by transition. -/
theorem wardenSequence : Obligations.WardenSequence := by
  unfold Obligations.WardenSequence
  refine ⟨?starts, ?refused, ?gated, ?drained, ?timeout, ?absent, ?overtime, ?released⟩
  case starts =>
    intro r b s grants hb held
    have run : (s.granted r b).isRun (blockIsland b) = true :=
      (granted_isRun s r b _).trans (isRun_of_grants (by decide) grants)
    obtain ⟨drain, purpose, epoch, bnd, cmt⟩ := islandStart_drains run .reset
    refine runs_ctrlSrst grants ?_
    rw [ctrlSrst_starts r hb (by simpa using held)]
    rw [granted_bnd] at bnd
    rw [granted_cmt] at cmt
    exact ⟨drain, purpose, epoch.trans (epoch_of_sequence (granted_warden s r b _)), bnd, cmt⟩
  case refused =>
    intro r b s grants hb held
    refine runs_ctrlSrst grants ?_
    rw [ctrlSrst_refused r hb (by simpa using held)]
    refine ⟨fun j => ?_, ?_, resetRefused_regs (by simp) (by simp) (by simp) (onlyRegs_granted _ s r b)⟩
    · have wardens : (resetRefused (s.granted r b)).wardens = (s.granted r b).wardens := errSet_wardens _ _ _
      refine Eq.trans ?_ (st_of_sequence (granted_warden s r b j.val))
      exact congrArg (fun w => (Tab.get {} w j.val).st) wardens
    · rw [← granted_get s r b]
      exact resetRefused_counts _
  case gated =>
    intro i s run idle gates
    refine runs_clockGate run idle gates ?_
    rw [reach_eq, warden_putWarden]
    exact ⟨rfl, rfl, fun _ _ => rfl⟩
  case drained =>
    intro i s drain idle
    exact runs_drainComplete drain idle (retireBegins_warden i.val s)
  case timeout =>
    intro i s drain
    refine runs_drainTimeout drain ?_
    rw [reach_eq]
    generalize ht : s.setNow _ = t
    obtain ⟨wardens, now⟩ := drainShown_same t
    obtain ⟨st, epoch, -⟩ := retireBegins_warden i.val (drainShown t)
    have warden : (drainShown t).warden i.val = s.warden i.val := by
      unfold State.warden
      rw [wardens, ← ht]
      rfl
    refine ⟨st, by rw [epoch, warden], (retireBegins_raw _ _).trans (drainShown_raw t), ?_⟩
    rw [retireBegins_now, now, ← ht]
    rfl
  case absent =>
    intro i s retire up agree
    obtain ⟨st, accepted, epoch, pdown, counted⟩ := retireEnds_absent agree i.val up
    exact runs_retireComplete retire pdown ⟨st, accepted, epoch, counted⟩
  case overtime =>
    intro i s retire agree
    refine runs_retireOvertime retire ?_
    rw [reach_eq]
    obtain ⟨-, wardens, -⟩ := fabricFault_keeps 4 i.val i.val 0 (s.setNow (max s.now ((s.warden i.val).since + 2 * us + 1)))
    exact ⟨fabricFault_valid 4 i.val i.val 0 agree, wardens, fabricFault_inbox 4 i.val i.val 0 _⟩
  case released =>
    intro i s absent reset
    refine runs_resetRelease absent reset ?_
    rw [reach_eq]
    exact released_run reset

end Sys2Proof.Proofs
end

section
/-! PROOFS. What cancellations, safe states and the handling of events leave of Basil's page: the load, the count of overruns, the
flags that were raised, and the events that wait at Sage (03_basil_control_engine.md R84, R93, R105, R112; 09_sage_and_safe_states.md R336). -/
namespace Sys2Proof.Proofs
open Sys2Proof Sys2Proof.Machine Sys2Proof.Laws

/-- Basil's figures stand: ENG_LOAD and ENG_OVR_CNT hold what they held, the overrun flag is not lost, and every event that waited at
Sage still waits. -/
structure EngStands (s t : State) : Prop where
  load : t.rd aENG_LOAD = s.rd aENG_LOAD
  count : t.rd aENG_OVR_CNT = s.rd aENG_OVR_CNT
  raised : s.shows fENG_IRQ_RAW_ovr = 1 → t.shows fENG_IRQ_RAW_ovr = 1
  told : ∀ e ∈ s.sage.inbox, e ∈ t.sage.inbox

variable {x s t u : State}

theorem EngStands.refl (s : State) : EngStands s s := ⟨rfl, rfl, id, fun _ => id⟩

theorem EngStands.trans (h : EngStands s t) (k : EngStands t u) : EngStands s u :=
  ⟨k.load.trans h.load, k.count.trans h.count, fun r => k.raised (h.raised r), fun e he => k.told e (h.told e he)⟩

/-- What changes no register of Basil's page and no event at Sage. -/
theorem EngStands.touch {m : Nat} (h : EngStands x s) (k : Touch m s s → Touch m s u) (hm : (has m 5 || has m 41) = false) :
    EngStands x u := by
  obtain ⟨-, -, -, same⟩ := k (Touch.rfl' m s)
  obtain ⟨hp, hs⟩ := Bool.or_eq_false_iff.mp hm
  have page {a : Nat} (ha : pageOf a = 5) : u.rd a = s.rd a := same (.regs 5) hp a ha
  have raw : u.rd aENG_IRQ_RAW = s.rd aENG_IRQ_RAW := page rfl
  have sage : u.sage = s.sage := same .sage hs
  refine h.trans ⟨page rfl, page rfl, fun r => ?_, fun e he => sage ▸ he⟩
  unfold State.shows
  rw [raw]
  exact r

/-- A register written that is none of those that stand. -/
theorem EngStands.wr_ne {a : Nat} (h : EngStands x s) (ha : a ∉ [aENG_LOAD, aENG_OVR_CNT, aENG_IRQ_RAW]) (v : Word) :
    EngStands x (s.wr a v) := by
  simp only [List.mem_cons, List.not_mem_nil, or_false, not_or] at ha
  obtain ⟨load, count, raw⟩ := ha
  refine h.trans ⟨rd_wr_ne s v load, rd_wr_ne s v count, fun r => ?_, fun _ => id⟩
  rw [shows_wr_ne (g := fENG_IRQ_RAW_ovr) s v raw]
  exact r

theorem EngStands.wr {a k : Nat} (h : EngStands x s) (e : pageOf a = k) (hk : (k == 5) = false) (v : Word) :
    EngStands x (s.wr a v) := by
  refine h.wr_ne (fun ha => ?_) v
  have page : pageOf a = 5 := by
    simp only [List.mem_cons, List.not_mem_nil, or_false] at ha
    obtain rfl | rfl | rfl := ha <;> rfl
  exact beq_eq_false_iff_ne.mp hk (e.symm.trans page)

theorem EngStands.put {f : Fld} {k : Nat} (h : EngStands x s) (e : pageOf f.addr = k) (hk : (k == 5) = false) (v : Nat) :
    EngStands x (s.put f v) := h.wr e hk _

theorem EngStands.raise {f : Fld} {k : Nat} (h : EngStands x s) (e : pageOf f.addr = k) (hk : (k == 5) = false) :
    EngStands x (s.raise f) := h.wr e hk _

theorem EngStands.incrSat {f : Fld} {k : Nat} (h : EngStands x s) (e : pageOf f.addr = k) (hk : (k == 5) = false) :
    EngStands x (s.incrSat f) := h.wr e hk _

/-- A register of a context's window. -/
theorem EngStands.putInst {f : Fld} (h : EngStands x s) (k a : Nat) (hf : f.addr = inst k a) (v : Nat) : EngStands x (s.put f v) := by
  refine h.wr_ne (fun ha => ?_) _
  rw [hf] at ha
  simp only [List.mem_cons, List.not_mem_nil, or_false, inst, aENG_LOAD, aENG_OVR_CNT, aENG_IRQ_RAW] at ha
  omega

/-- A flag of Basil's header is raised. -/
theorem EngStands.irq (h : EngStands x s) (i : Nat) : EngStands x (s.irq 0x40050000 i) := by
  have ne {a : Nat} (ha : 0x40050010 ≠ a) : (s.irq 0x40050000 i).rd a = s.rd a := rd_wr_ne s _ ha
  refine h.trans ⟨ne (by decide), ne (by decide), fun r => ?_, fun _ => id⟩
  by_cases hi : i = 5
  · subst hi
    exact shows_put_bit s fENG_IRQ_RAW_ovr (by decide) (by decide) rfl
  · refine (shows_put_disj (f := hRaw 0x40050000 i) s 1 ?_).trans r
    dsimp only
    omega

theorem EngStands.sageEvt (h : EngStands x s) (e : Nat) (n : SageName) : EngStands x (s.sageEvt e n) :=
  h.trans ⟨rfl, rfl, id, fun _ he => List.mem_append_left _ he⟩

theorem EngStands.ite {c : Prop} [Decidable c] (h : EngStands x s) (k : EngStands x t) : EngStands x (if c then s else t) := by
  split <;> assumption

/-- A step that is taken or left out. -/
theorem EngStands.maybe {c : Prop} [Decidable c] (h : EngStands x s) (k : EngStands x s → EngStands x t) :
    EngStands x (if c then t else s) := .ite (k h) h

theorem EngStands.when {c : Bool} {f : State → State} (h : EngStands x s) (k : EngStands x s → EngStands x (f s)) :
    EngStands x (s.when c f) := by
  unfold State.when
  exact h.maybe k

theorem EngStands.each {α : Type} {as : List α} {f : α → State → State} (h : EngStands x s)
    (k : ∀ a y, EngStands x y → EngStands x (f a y)) : EngStands x (s.each as f) :=
  each_keeps (fun a _ t ht => k a t ht) h

/-! Steps that seal or are cancelled (R91, R93). -/

theorem EngStands.putCtx (h : EngStands x s) (k : Nat) (c : Ctx) : EngStands x (s.putCtx k c) :=
  h.touch (touch_putCtx (Sub.refl _) _ _ _) rfl

theorem EngStands.cntEvt (h : EngStands x s) (k lo : Nat) : EngStands x (cntEvt k lo s) :=
  h.touch (touch_cntEvt (Sub.refl _) k lo _) rfl

theorem EngStands.ctxIrq (h : EngStands x s) (k i : Nat) : EngStands x (ctxIrq k i s) := h.putInst k aCTX_W_IRQ_RAW rfl 1

theorem EngStands.predEntry (h : EngStands x s) (step : Nat) (p : PredV) : EngStands x (predEntry step p s) :=
  h.touch (touch_predEntry (Sub.refl _) _ _ _) rfl

theorem EngStands.engToPair (h : EngStands x s) (r : PRec) : EngStands x (engToPair r s) :=
  h.touch (touch_engToPair (Sub.refl _) r _) rfl

theorem EngStands.trkHold (h : EngStands x s) (k : Nat) (lost : Bool) : EngStands x (trkHold k lost s) :=
  h.touch (touch_trkHold (Sub.refl _) _ _ _) rfl

theorem EngStands.stopDue (h : EngStands x s) (k : Nat) : EngStands x (stopDue k s) :=
  h.touch (touch_stopDue (Sub.refl _) k _) rfl

theorem EngStands.traceEntry (h : EngStands x s) (k cause : Nat) (step : Word) (t cyc : Nat) (outs : List Word) :
    EngStands x (traceEntry k cause step t cyc outs s) := by
  unfold Machine.traceEntry
  exact .ite h ((h.touch (touch_memPutWords (Sub.refl _) _ _ _) rfl).wr_ne (a := aENG_TRACE_WP) (by decide) _)

theorem EngStands.sealFlags (h : EngStands x s) (k : Nat) (o : Older) (w : Work) : EngStands x (sealFlags k o w s) := by
  unfold Machine.sealFlags
  have stat {y : State} {lo w v : Nat} (hy : EngStands x y) : EngStands x (y.put ⟨inst k aCTX_W_STAT, lo, w⟩ v) :=
    hy.putInst k aCTX_W_STAT rfl v
  refine .when (.putInst (.when (.when ?shown (·.ctxIrq k 1)) (·.ctxIrq k 2)) k aCTX_W_PG_STAT rfl _) (·.ctxIrq k 5)
  exact stat (stat (stat (stat (stat (stat h)))))

theorem EngStands.sealOne (h : EngStands x s) (k : Nat) (o : Older) : EngStands x (sealOne k o s) := by
  unfold Machine.sealOne
  have stored {y : State} (hy : EngStands x y) (a : Nat) (ws : List Word) : EngStands x (y.memPutWords a ws) :=
    hy.touch (touch_memPutWords (Sub.refl _) _ _ _) rfl
  have copied := stored (stored (stored (stored h (cArea k + 0x380) o.words) (cArea k + 0x780) o.outs) (cArea k + 0x7A0) o.stat)
    (cArea k + 0x360) o.pgw
  have counted := copied.touch (touch_sealCounts (Sub.refl _) k o.cost _) rfl
  refine .traceEntry (.touch (.maybe (.putCtx (.each ?live fun p _ hy => hy.predEntry o.step p) k _) (·.engToPair _))
    (touch_sealGiu (Sub.refl _) k o _) rfl) _ _ _ _ _ _
  exact .touch (counted.sealFlags k o _) (touch_liveSeal (Sub.refl _) k _) rfl

theorem EngStands.sealStep (h : EngStands x s) (k : Nat) : EngStands x (sealStep k s) :=
  .ite h (((h.putCtx _ _).sealOne k _).stopDue k)

theorem EngStands.sealSet (h : EngStands x s) (k step : Nat) : EngStands x (sealSet k step s) := by
  unfold Machine.sealSet
  refine .ite (h.sealStep k) ?_
  split
  · exact ((h.putCtx _ _).sealOne k _).stopDue k
  · exact h

theorem EngStands.cancelOne (h : EngStands x s) (k : Nat) (o : Older) : EngStands x (cancelOne k o s) := by
  unfold Machine.cancelOne
  refine .traceEntry (.ctxIrq (.cntEvt (.wr_ne (a := aENG_CANCEL_CNT) (.each (.maybe ?withdrawn (·.engToPair _))
    fun p _ hy => hy.predEntry _ _) (by decide) _) k 8) k 4) _ _ _ _ _ _
  split
  · exact h.touch (touch_putTbg (Sub.refl _) _ _ _) rfl
  · exact h

theorem EngStands.cancelStep (h : EngStands x s) (k : Nat) : EngStands x (cancelStep k s) := by
  have first : EngStands x (sealFirst k s) := (h.each fun o _ hy => hy.sealSet k o.step).maybe (·.sealStep k)
  exact (first.putCtx k _).each fun o _ hy => hy.cancelOne k o

/-! Safe states of machine groups (07_trips_and_leg_protection.md R251 to R255). -/

theorem EngStands.record (h : EngStands x s) (code : Nat) (b : Block) (pay : List Byte) : EngStands x (s.record code b pay) :=
  h.touch (touch_record (Sub.refl _) _ code b pay) rfl

theorem EngStands.putMg (h : EngStands x s) (m : Nat) (g : Mg) : EngStands x (s.putMg m g) :=
  h.touch (touch_putMg (Sub.refl _) _ _ _) rfl

/-- A discharge that ends writes Sage's registers, a record and an event. -/
theorem EngStands.disEnd (h : EngStands x s) (m res : Nat) : EngStands x (disEnd m res s) := by
  unfold Machine.disEnd
  refine .ite h (.maybe (.record (.raise (f := fAPC_SAGE_EVT_dis) (.raise (f := fSAGE_IRQ_RAW_dis) ?_ rfl rfl) rfl rfl) _ _ _) (·.sageEvt _ _))
  refine .ite (.incrSat (f := fSAGE_DIS_CNT_done m) ?_ (page_aSAGE_DIS_CNT m) rfl)
    (.incrSat (f := fSAGE_DIS_CNT_fail m) ?_ (page_aSAGE_DIS_CNT m) rfl)
  all_goals
    refine .put (f := fSAGE_DIS_TIME_t m) (.put (f := fSAGE_DIS_STAT_v_last m) (.put (f := fSAGE_DIS_STAT_state m) ?_
      (page_aSAGE_DIS_STAT m) rfl _) (page_aSAGE_DIS_STAT m) rfl _) (page_aSAGE_DIS_TIME m) rfl _
    exact (h.putMg m _).touch (touch_setDiss (Sub.refl _) _ _) rfl

theorem EngStands.entryMarks (h : EngStands x s) (m st fb req code evt : Nat) : EngStands x (entryMarks m st fb req code evt s) := by
  unfold Machine.entryMarks
  refine .sageEvt (.record (.put (f := fMG_TRIP_STAT_last m) (.raise (f := fMG_IRQ_RAW_safe_in m) (.incrSat (f := fMG_SAFE_CNT_in_cnt m)
    (.wr ?_ (page_aMG_SAFE_TIME m) rfl _) (page_aMG_SAFE_CNT m) rfl) (page_aMG_IRQ_RAW m) rfl) (page_aMG_TRIP_STAT m) rfl _) _ _ _) _ _
  have sel := page_aMG_SAFE_SEL m
  exact (((h.put (f := fMG_STAT_state m) (page_aMG_STAT m) rfl st).put (f := fMG_SAFE_SEL_fb m) sel rfl fb).put (f := fMG_SAFE_SEL_sel m)
    sel rfl st).put (f := fMG_SAFE_SEL_req m) sel rfl req

theorem EngStands.ctxEnters (h : EngStands x s) (k : Nat) : EngStands x (ctxEnters k s) :=
  ((h.cancelStep k).when fun h => h.touch (touch_putCw (Sub.refl _) _ _ _ _) rfl).trkHold k false

theorem EngStands.enterState (h : EngStands x s) (m st fb req code evt : Nat) : EngStands x (enterState m st fb req code evt s) := by
  unfold Machine.enterState
  refine .touch (.each (.maybe (.entryMarks ?_ m st fb req code evt) fun h => ?fallback) fun k _ hy => hy.ctxEnters k)
    (touch_hintChange (Sub.refl _) _ _) rfl
  case fallback =>
    exact ((h.incrSat (f := fMG_SAFE_CNT_fb_cnt m) (page_aMG_SAFE_CNT m) rfl).raise (f := fMG_IRQ_RAW_fallback m)
      (page_aMG_IRQ_RAW m) rfl).sageEvt 27 (nOther m)
  refine .touch (.each (.touch ((h.disEnd m 7).putMg m _) (touch_holdLegs (Sub.refl _) m st _ _) rfl) fun n _ hy => ?_)
    (touch_forceLegs (Sub.refl _) _ _ _ _ _ _) rfl
  exact (hy.touch (touch_retractLeg (Sub.refl _) n none _) rfl).touch (touch_skipLeg (Sub.refl _) n _) rfl

theorem EngStands.takeState (h : EngStands x s) (m req code evt : Nat) : EngStands x (takeState m req code evt s) :=
  .ite h (h.enterState m _ _ req code evt)

theorem EngStands.applyRequest (h : EngStands x s) (m req code evt : Nat) : EngStands x (applyRequest m req code evt s) :=
  .ite h ((h.touch (touch_noteRequest (Sub.refl _) m req code evt _) rfl).takeState m req code evt)

theorem EngStands.leaveSide (h : EngStands x s) (m code evt : Nat) : EngStands x (leaveSide m code evt s) :=
  h.maybe (·.takeState m 1 code evt)

theorem EngStands.latchRequest (h : EngStands x s) (m req code evt : Nat) : EngStands x (latchRequest m req code evt s) := by
  have noted := h.putMg m { s.mg m with tripTick := some (s.now / 32) }
  exact .ite (.ite noted (noted.enterState m 3 0 req code evt)) ((noted.maybe (·.applyRequest m req code evt)).leaveSide m code evt)

theorem EngStands.latchGroup (h : EngStands x s) (m : Nat) {fl : Fld} {k : Nat} (e : pageOf fl.addr = k)
    (hk : (k == 5) = false) (code : Nat) (was : Bool) : EngStands x (latchGroup m fl code was s) := by
  have shown := (h.raise e hk).touch (touch_refreshSum (Sub.refl _) m _) rfl
  exact .ite shown (((shown.raise (f := fMG_IRQ_RAW_latch m) (page_aMG_IRQ_RAW m) rfl).record 0x21 .thy _).sageEvt 25 (nOther m))

theorem EngStands.kernRequest (h : EngStands x s) (m reason req : Nat) : EngStands x (kernRequest m reason req s) := by
  have named := h.put (f := fMG_TRIP_STAT_kreason m) (page_aMG_TRIP_STAT m) rfl reason
  have latched := named.latchGroup m (fl := fMG_TRIP_STAT_kern m) (page_aMG_TRIP_STAT m) rfl 0x88 (s.on (fMG_TRIP_STAT_kern m))
  exact latched.ite (latched.latchRequest m req 0x88 0xFF)

theorem EngStands.sageCommand (h : EngStands x s) (m req evt : Nat) : EngStands x (sageCommand m req evt s) := by
  have latched := h.latchGroup m (fl := fMG_TRIP_STAT_sage_hold m) (page_aMG_TRIP_STAT m) rfl 0x89 (s.on (fMG_TRIP_STAT_sage_hold m))
  exact .ite h ((latched.put (page_bit_aSAGE_MG_HOLD m) rfl _).applyRequest m req 0x89 evt)

/-! Contexts that enter HALT, and overruns (03_basil_control_engine.md R84, R105). -/

theorem EngStands.haltCtx (h : EngStands x s) (k cause : Nat) : EngStands x (haltCtx k cause s) := by
  have requested (w : State) (hw : EngStands x w) :
      EngStands x (match w.cMg k with | some m => Machine.kernRequest m 7 (w.dfltReq m) w | none => w) := by
    split
    · exact hw.kernRequest _ 7 _
    · exact hw
  have left := ((h.cancelStep k).touch (touch_leaveRun (Sub.refl _) k _) rfl).touch (touch_haltLanes (Sub.refl _) k _) rfl
  refine .ite h (requested _ (.sageEvt (.irq ?_ 7) 30 (nCtx k)))
  exact .ctxIrq (.cntEvt (.putInst ((left.trkHold k true).putCtx k _) k aCTX_W_STAT rfl cause) k 24) k 0

/-! The handling of events (09_sage_and_safe_states.md R336). -/

theorem EngStands.handleEvent (h : EngStands x s) (e : SEvt) (gone : List Nat) : EngStands x (handleEvent e gone s).1 := by
  have counted : EngStands x (s.when (decide (e.e < 43)) (fun s => s.incrSat (fSAGE_EVT_CNT_cnt e.e))) :=
    h.when fun h => h.incrSat (page_aSAGE_EVT_CNT e.e) rfl
  have noted : EngStands x (noteRecent e (s.when (decide (e.e < 43)) (fun s => s.incrSat (fSAGE_EVT_CNT_cnt e.e)))) :=
    counted.when fun h => h.trans ⟨rfl, rfl, id, fun _ => id⟩
  unfold Machine.handleEvent
  dsimp only
  split
  · exact noted
  · refine .when (.when (.when (noted.each fun m _ hy => hy.sageCommand m _ e.e) fun h => ?effects) fun h => ?record) fun h => ?last
    case effects => exact h.touch (touch_eventEffects (Sub.refl _) e.e _) rfl
    case record => exact h.touch (touch_eventRecord (Sub.refl _) e _ _) rfl
    case last => exact h.touch (touch_eventLast (Sub.refl _) e _ _) rfl

/-- Sage's handling of events leaves the load of Basil's lanes as it was. -/
theorem settle_load (s : State) : (settle s).rd aENG_LOAD = s.rd aENG_LOAD := by
  have events (l : List SEvt) (p : State × List Nat) :
      (l.foldl (fun p e => handleEvent e p.2 p.1) p).1.rd aENG_LOAD = p.1.rd aENG_LOAD := by
    induction l generalizing p with
    | nil => rfl
    | cons e r ih => exact (ih _).trans ((EngStands.refl p.1).handleEvent e p.2).load
  have rounds (n : Nat) (s : State) : (drain n s).rd aENG_LOAD = s.rd aENG_LOAD := by
    induction n generalizing s with
    | zero => rfl
    | succ n ih =>
      unfold drain
      split
      · rfl
      · exact (ih _).trans (events _ _)
  exact rounds 8 s

end Sys2Proof.Proofs
end

section
/-! PROOFS. O22 fails: the load of a window counts the lane-cycles of the steps that still run at its end, which the statement leaves out
(03_basil_control_engine.md R112). -/
namespace Sys2Proof.Proofs
open Sys2Proof Sys2Proof.Machine Sys2Proof.Laws

/-- Context 0 in RUN with a step of 400 lane-cycles on lane 0 that began with the window, at 0; nothing is booked yet. -/
def stepOnLane : State :=
  (State.reset.putCtx 0 { st := .run, ph := .running, deadline := 32 * 400, cost := 400 }).setLanes
    [(0, { ctx := some 0, endAt := 32 * 400 })]

/-- At the end of the window its 400 lane-cycles are a load of 40 units of 10. -/
theorem stepOnLane_load : (loadWindow stepOnLane).shows fENG_LOAD_load = 40 := by decide +kernel

/-- Refutes O22: with a step on a lane, LOAD_WINDOW books its lane-cycles before it shows the load, 40 and not 0. -/
theorem not_kernelStore : ¬ Obligations.KernelStore := by
  unfold Obligations.KernelStore
  rintro ⟨-, -, -, -, -, -, -, window⟩
  obtain ⟨u, run, load, -⟩ := window stepOnLane
  have settled : settle (loadWindow stepOnLane) = settle u := Host.Outcome.next.inj run
  have held : (loadWindow stepOnLane).rd aENG_LOAD = u.rd aENG_LOAD := by rw [← settle_load, settled, settle_load]
  have shown : u.shows fENG_LOAD_load = 40 := by
    rw [← stepOnLane_load]
    unfold State.shows
    rw [held]
  have unbooked : min (stepOnLane.basil.cycles / 10) (2 ^ 24 - 1) = 0 := rfl
  rw [unbooked, shown] at load
  exact absurd load (by decide)

end Sys2Proof.Proofs
end

section
/-! PROOFS. What the configuration of a context says: the accessors of the context areas and of the registers answer by memory, the
registers and their copies alone (03_basil_control_engine.md R75, R77, R81, R87, R113). -/
namespace Sys2Proof.Proofs
open Sys2Proof Sys2Proof.Machine Sys2Proof.Laws

/-- Two states with the same memory, the same registers and the same copies. -/
structure SameConf (s t : State) : Prop where
  mem : t.mem = s.mem
  regs : t.regs = s.regs
  tmr : t.tmr = s.tmr

variable {s t : State}

theorem SameConf.granted (s : State) (r : Req) (b : Block) : SameConf s (s.granted r b) := by
  obtain ⟨l, w, h⟩ := fabUse_eq (reqIsland r) (blockIsland b) 0 s
  unfold State.granted
  rw [h]
  exact ⟨rfl, rfl, rfl⟩

theorem SameConf.rd (h : SameConf s t) : t.rd = s.rd := by
  funext a
  unfold State.rd
  rw [h.regs]

theorem SameConf.get (h : SameConf s t) : t.get = s.get := by
  funext f
  unfold State.get State.use
  rw [h.rd, h.tmr]

theorem SameConf.on (h : SameConf s t) : t.on = s.on := by
  funext f
  unfold State.on
  rw [h.get]

theorem SameConf.cw (h : SameConf s t) : t.cw = s.cw := by
  funext k o
  unfold State.cw State.mem32
  rw [h.mem]

/-! The descriptor of a context (R75). -/

theorem SameConf.cKid (h : SameConf s t) : t.cKid = s.cKid := by funext k; simp only [State.cKid, h.cw]
theorem SameConf.cSets (h : SameConf s t) : t.cSets = s.cSets := by funext k; simp only [State.cSets, h.cw]
theorem SameConf.cPriv (h : SameConf s t) : t.cPriv = s.cPriv := by funext k; simp only [State.cPriv, h.cw]
theorem SameConf.cPg (h : SameConf s t) : t.cPg = s.cPg := by funext k; simp only [State.cPg, h.cw]
theorem SameConf.cMg (h : SameConf s t) : t.cMg = s.cMg := by funext k; simp only [State.cMg, h.cw]
theorem SameConf.cTbg (h : SameConf s t) : t.cTbg = s.cTbg := by funext k; simp only [State.cTbg, h.cw]
theorem SameConf.cLegs (h : SameConf s t) : t.cLegs = s.cLegs := by funext k; simp only [State.cLegs, h.cw]
theorem SameConf.cDecim (h : SameConf s t) : t.cDecim = s.cDecim := by funext k; simp only [State.cDecim, h.cw]
theorem SameConf.cPts (h : SameConf s t) : t.cPts = s.cPts := by funext k; simp only [State.cPts, h.cw]
theorem SameConf.cTrigTbg (h : SameConf s t) : t.cTrigTbg = s.cTrigTbg := by funext k; simp only [State.cTrigTbg, h.cw]
theorem SameConf.cSrc (h : SameConf s t) : t.cSrc = s.cSrc := by funext k; simp only [State.cSrc, h.cw]
theorem SameConf.cTimer (h : SameConf s t) : t.cTimer = s.cTimer := by funext k; simp only [State.cTimer, h.cw]
theorem SameConf.cTin (h : SameConf s t) : t.cTin = s.cTin := by funext k; simp only [State.cTin, h.cw]
theorem SameConf.cIlim (h : SameConf s t) : t.cIlim = s.cIlim := by funext k; simp only [State.cIlim, h.cw]
theorem SameConf.pm (h : SameConf s t) : t.pm = s.pm := by funext k o; simp only [State.pm, h.cw, h.cIlim]
theorem SameConf.pmOn (h : SameConf s t) : t.pmOn = s.pmOn := by funext k o; simp only [State.pmOn, h.cw]

/-! Binding slots (R77). -/

theorem SameConf.slotType (h : SameConf s t) : t.slotType = s.slotType := by
  funext k j; simp only [State.slotType, State.slotW, h.cw]
theorem SameConf.slotInst (h : SameConf s t) : t.slotInst = s.slotInst := by
  funext k j; simp only [State.slotInst, State.slotW, h.cw]
theorem SameConf.slotSel (h : SameConf s t) : t.slotSel = s.slotSel := by
  funext k j; simp only [State.slotSel, State.slotW, h.cw]
theorem SameConf.slotBound (h : SameConf s t) : t.slotBound = s.slotBound := by
  funext k j; simp only [State.slotBound, h.slotType]
theorem SameConf.giuSlot (h : SameConf s t) : t.giuSlot = s.giuSlot := by
  funext k j q; simp only [State.giuSlot, h.slotType, h.slotSel]
theorem SameConf.needSlots (h : SameConf s t) : t.needSlots = s.needSlots := by
  funext k; simp only [State.needSlots, h.cKid, h.cw]
theorem SameConf.srcExists (h : SameConf s t) : t.srcExists = s.srcExists := by
  funext k j; simp only [State.srcExists, h.slotType, h.slotInst, h.slotSel, h.on]

/-! Legs, groups and rates (R78, R81, R82). -/

theorem SameConf.legEn (h : SameConf s t) : t.legEn = s.legEn := by funext n; simp only [State.legEn, h.on]
theorem SameConf.legTbg (h : SameConf s t) : t.legTbg = s.legTbg := by funext n; simp only [State.legTbg, h.get]
theorem SameConf.legMg (h : SameConf s t) : t.legMg = s.legMg := by funext n; simp only [State.legMg, h.get]
theorem SameConf.mgType (h : SameConf s t) : t.mgType = s.mgType := by funext m; simp only [State.mgType, h.get]
theorem SameConf.mgState (h : SameConf s t) : t.mgState = s.mgState := by funext m; simp only [State.mgState, h.get]
theorem SameConf.plan (h : SameConf s t) : t.plan = s.plan := by simp only [State.plan, h.get]
theorem SameConf.cPoints (h : SameConf s t) : t.cPoints = s.cPoints := by
  funext k; simp only [State.cPoints, State.cOffs, h.cPts, h.cTrigTbg, h.get]
theorem SameConf.cRate (h : SameConf s t) : t.cRate = s.cRate := by
  funext p k; simp only [State.cRate, h.cSrc, h.cPoints, h.cTrigTbg, h.cDecim, h.cTimer]
theorem SameConf.cPeriod (h : SameConf s t) : t.cPeriod = s.cPeriod := by
  delta State.cPeriod; rw [h.cRate, h.plan]
theorem SameConf.cCost (h : SameConf s t) : t.cCost = s.cCost := by
  funext k; simp only [State.cCost, h.cKid, h.cSets, h.cPg]
theorem SameConf.cLoad (h : SameConf s t) : t.cLoad = s.cLoad := by
  delta State.cLoad; rw [h.cRate, h.cCost, h.cPriv]
theorem SameConf.lMax (h : SameConf s t) : t.lMax = s.lMax := by
  funext p g; simp only [State.lMax, State.tbgPorts, State.groupLegs, h.legEn, h.legTbg]
theorem SameConf.cDense (h : SameConf s t) : t.cDense = s.cDense := by
  have window : t.cWindow = s.cWindow := by delta State.cWindow; rw [h.cTin, h.cTbg, h.lMax, h.cRate]
  delta State.cDense; rw [h.cCost, window]
theorem SameConf.rateOk (h : SameConf s t) : t.rateOk = s.rateOk := by
  delta State.rateOk; rw [h.cRate, h.plan]
theorem SameConf.kernelBinds (h : SameConf s t) : t.kernelBinds = s.kernelBinds := by
  delta State.kernelBinds
  rw [h.cKid, h.cLegs, h.cMg, h.cTbg, h.cSrc, h.cPts, h.cDecim, h.cSets, h.mgType, h.slotType, h.slotSel, h.slotInst, h.giuSlot, h.get]

/-! Admission, with the contexts that are not OFF (R87). -/

theorem ctx_of_ctxs (hc : t.ctxs = s.ctxs) : t.ctx = s.ctx := by
  funext k
  unfold State.ctx
  rw [hc]

theorem liveCtx_of_ctxs (hc : t.ctxs = s.ctxs) : t.liveCtx = s.liveCtx := by
  unfold State.liveCtx
  rw [ctx_of_ctxs hc]

theorem SameConf.bindsOk (h : SameConf s t) (hc : t.ctxs = s.ctxs) : t.bindsOk = s.bindsOk := by
  funext k
  have alone : t.giuAlone k = s.giuAlone k := by
    simp only [State.giuAlone, liveCtx_of_ctxs hc, h.giuSlot, h.slotInst, h.cKid]
  simp only [State.bindsOk, alone, h.cKid, h.cw, h.cSrc, h.srcExists, h.needSlots, h.slotBound, h.cTbg, h.cMg, h.cLegs, h.legEn,
    h.legTbg, h.legMg, h.cPg, h.kernelBinds]

theorem SameConf.admitCode (h : SameConf s t) (hc : t.ctxs = s.ctxs) : t.admitCode = s.admitCode := by
  funext k
  simp only [State.admitCode, h.cKid, h.get, h.cPriv, h.cSrc, h.rateOk, h.bindsOk hc, liveCtx_of_ctxs hc, h.cLegs, h.cDense, h.plan,
    h.cLoad]

/-- A refusal's code fits its field (R87). -/
theorem admitCode_lt (s : State) (k : Nat) : s.admitCode k < 8 := by
  unfold State.admitCode
  dsimp only
  split_ifs <;> decide

end Sys2Proof.Proofs
end

section
/-! PROOFS. Words of a context area after words were stored, and the load a context states (03_basil_control_engine.md R75, R87, R113). -/
namespace Sys2Proof.Proofs
open Sys2Proof Sys2Proof.Machine Sys2Proof.Laws

variable {k p : Nat} {s t u : State}

/-- A word outside the bytes stored reads as before. -/
theorem mem32_memPut_ne (s : State) {a b : Nat} (v : Word) (h : b + 4 ≤ a ∨ a + 4 ≤ b) : (s.memPut a v).mem32 b = s.mem32 b := by
  have byte (i : Nat) (hi : i < 4) : Memory.read (s.memPut a v).mem (b + i) = Memory.read s.mem (b + i) :=
    onlyMem_memPut s a v (b + i) (by omega)
  have first := byte 0 (by decide)
  rw [Nat.add_zero] at first
  unfold State.mem32
  rw [byte 1 (by decide), byte 2 (by decide), byte 3 (by decide), first]

@[simp] theorem cw_putCw (s : State) (k o : Nat) (v : Word) : (s.putCw k o v).cw k o = v := (memoryWords _ v s).1

/-- Another word of the same area. -/
theorem cw_putCw_ne (s : State) (k : Nat) {o q : Nat} (v : Word) (h : o + 4 ≤ q ∨ q + 4 ≤ o) : (s.putCw k q v).cw k o = s.cw k o :=
  mem32_memPut_ne s v (by omega)

/-- A word of another area. -/
theorem cw_putCw_other (s : State) {j k o q : Nat} (v : Word) (hj : j ≠ k) (ho : o + 4 ≤ 0x800) (hq : q + 4 ≤ 0x800) :
    (s.putCw j q v).cw k o = s.cw k o :=
  mem32_memPut_ne s v (by unfold cArea; omega)

/-- Only memory changed, and of area `k` nothing below offset `p`. -/
structure AreaKept (k p : Nat) (s t : State) : Prop where
  only : ∃ m, t = s.setMem m
  below : ∀ o, o + 4 ≤ p → t.cw k o = s.cw k o

theorem AreaKept.refl (k p : Nat) (s : State) : AreaKept k p s s := ⟨⟨s.mem, rfl⟩, fun _ _ => rfl⟩

theorem AreaKept.trans (h : AreaKept k p s t) (g : AreaKept k p t u) : AreaKept k p s u := by
  obtain ⟨m, rfl⟩ := h.only
  obtain ⟨n, rfl⟩ := g.only
  exact ⟨⟨n, rfl⟩, fun o ho => (g.below o ho).trans (h.below o ho)⟩

/-- A word stored above the offset, or in another area. -/
theorem AreaKept.putCw (h : AreaKept k p s t) {j q : Nat} (hq : p ≤ q ∧ (j = k ∨ q + 4 ≤ 0x800)) (v : Word) (hp : p ≤ 0x800) :
    AreaKept k p s (t.putCw j q v) := by
  refine h.trans ⟨⟨_, rfl⟩, fun o ho => ?_⟩
  by_cases hj : j = k
  · subst hj
    exact cw_putCw_ne t j v (.inl (by omega))
  · exact cw_putCw_other t v hj (by omega) (hq.2.resolve_left hj)

theorem AreaKept.each {α : Type} {as : List α} {f : α → State → State} (h : AreaKept k p s t)
    (g : ∀ a y, AreaKept k p s y → AreaKept k p s (f a y)) : AreaKept k p s (t.each as f) :=
  each_keeps (fun a _ y hy => g a y hy) h

theorem AreaKept.ite {c : Prop} [Decidable c] (h : AreaKept k p s t) (g : AreaKept k p s u) : AreaKept k p s (if c then t else u) := by
  split <;> assumption

theorem AreaKept.get (h : AreaKept k p s t) (f : Fld) : t.get f = s.get f := by
  obtain ⟨m, rfl⟩ := h.only
  rfl

theorem AreaKept.cSrc (h : AreaKept k p s t) (hp : 12 ≤ p) : t.cSrc k = s.cSrc k := by
  unfold State.cSrc
  rw [h.below 8 (by omega)]

theorem AreaKept.cTbg (h : AreaKept k p s t) (hp : 4 ≤ p) : t.cTbg k = s.cTbg k := by
  unfold State.cTbg
  rw [h.below 0 (by omega)]

/-- The word a context's load stands in shows it: the load in units of 10,000 lane-cycles a second (R87). -/
def loadWord (s : State) (k : Nat) : Word := BitVec.ofNat 32 (s.cLoad s.plan k)

/-- The load follows from the rate, the cost of a step and the privilege. -/
theorem cLoad_congr {a b : Plan} (rate : t.cRate a k = s.cRate b k) (cost : t.cCost k = s.cCost k) (priv : t.cPriv k = s.cPriv k) :
    t.cLoad a k = s.cLoad b k := by
  generalize body : State.cLoad = f
  delta State.cLoad at body
  subst body
  beta_reduce
  rw [rate, cost, priv]

/-- The load of a context follows from the first four words of its area, and the period and mode of its group. -/
theorem loadWord_congr (head : ∀ o, o + 4 ≤ 0x10 → t.cw k o = s.cw k o)
    (per : ∀ g, t.get (fTBG_PERIOD_t g) = s.get (fTBG_PERIOD_t g))
    (mode : ∀ g, t.get (fTBG_CFG_mode g) = s.get (fTBG_CFG_mode g)) : loadWord t k = loadWord s k := by
  have w0 := head 0 (by decide)
  have w8 := head 8 (by decide)
  have w12 := head 12 (by decide)
  have cost : t.cCost k = s.cCost k := by unfold State.cCost State.cKid State.cSets State.cPg; rw [w0]
  have priv : t.cPriv k = s.cPriv k := by unfold State.cPriv; rw [w0]
  have points : t.cPoints k = s.cPoints k := by unfold State.cPoints State.cOffs State.cPts State.cTrigTbg; rw [w8, mode]
  have rate : t.cRate t.plan k = s.cRate s.plan k := by
    unfold State.cRate State.plan State.cSrc State.cTrigTbg State.cDecim State.cTimer
    dsimp only
    rw [w8, w12, points, per]
  exact congrArg (BitVec.ofNat 32) (cLoad_congr rate cost priv)

theorem AreaKept.loadWord (h : AreaKept k 0x10 s t) : loadWord t k = loadWord s k :=
  loadWord_congr h.below (fun _ => h.get _) fun _ => h.get _

/-! The loads of the contexts that are not OFF, in their descriptors (R87, R89). -/

/-- The words that a context's load and window stand in are written. -/
def putLoad (j : Nat) (s : State) : State :=
  (s.putCw j 0x10 (BitVec.ofNat 32 (s.cLoad s.plan j))).putCw j 0x14 (BitVec.ofNat 32 (s.cWindow s.plan j / 128))

theorem AreaKept.putLoad (h : AreaKept k 0x10 s t) (j : Nat) : AreaKept k 0x10 s (putLoad j t) :=
  (h.putCw ⟨by decide, .inr (by decide)⟩ _ (by decide)).putCw ⟨by decide, .inr (by decide)⟩ _ (by decide)

theorem putLoad_cw (k : Nat) (s : State) : (putLoad k s).cw k 0x10 = Proofs.loadWord s k :=
  (cw_putCw_ne _ _ _ (.inl (by decide))).trans (cw_putCw _ _ _ _)

theorem putLoad_cw_ne {j : Nat} (hj : j ≠ k) (s : State) : (putLoad j s).cw k 0x10 = s.cw k 0x10 :=
  (cw_putCw_other _ _ hj (by decide) (by decide)).trans (cw_putCw_other _ _ hj (by decide) (by decide))

/-- After the loads are written, a context that is not OFF states its load. -/
theorem each_putLoad {l : List Nat} (hk : k ∈ l) (s : State) : (s.each l putLoad).cw k 0x10 = Proofs.loadWord s k := by
  refine each_sets (I := AreaKept k 0x10 s) (P := fun t => t.cw k 0x10 = Proofs.loadWord s k) hk (fun j _ t ht => ht.putLoad j) ?sets
    ?keeps (.refl k 0x10 s)
  case sets => exact fun t ht => (putLoad_cw k t).trans ht.loadWord
  case keeps =>
    intro j _ t ht same
    by_cases hj : j = k
    · subst hj
      exact (putLoad_cw j t).trans ht.loadWord
    · exact (putLoad_cw_ne hj t).trans same

/-- The sum of the loads and its flag. -/
def showSum (l : List Nat) (s : State) : State :=
  (s.put fENG_ADM_SUM_sum (l.foldl (fun x k => x + (s.cw k 0x10).toNat) 0 % 2 ^ 24)).putB fENG_STAT_adm_full
    (decide (129200 ≤ l.foldl (fun x k => x + (s.cw k 0x10).toNat) 0))

/-- The loads are memory; their sum stands in ENG_ADM_SUM and the flag of ENG_STAT. -/
theorem refreshLoads_eq : refreshLoads = fun s => showSum s.liveCtx (s.each s.liveCtx putLoad) := by
  delta refreshLoads
  rfl

end Sys2Proof.Proofs
end

section
/-! PROOFS. O20: the commands of a context (03_basil_control_engine.md R73, R74, R87, R88, R113). -/
namespace Sys2Proof.Proofs
open Sys2Proof Sys2Proof.Machine Sys2Proof.Laws

variable {k : Nat} {s t u : State}

/-! What the access to the page leaves of the contexts. -/

@[simp] theorem granted_ctxs (s : State) (r : Req) (b : Block) : (s.granted r b).ctxs = s.ctxs := by
  obtain ⟨l, w, h⟩ := fabUse_eq (reqIsland r) (blockIsland b) 0 s
  unfold State.granted
  rw [h]
  rfl

@[simp] theorem granted_ctx (s : State) (r : Req) (b : Block) : (s.granted r b).ctx = s.ctx := ctx_of_ctxs (granted_ctxs s r b)

theorem SameConf.mayStart (h : SameConf s t) : t.mayStart = s.mayStart := by
  have use : t.use = s.use := by funext a; unfold State.use; rw [h.rd, h.tmr]
  have port : t.portUp = s.portUp := by delta State.portUp State.portState; rw [h.get]
  have tok : t.tokHere = s.tokHere := by funext p; simp only [State.tokHere, port, h.on]
  have role : t.role = s.role := by unfold State.role State.pairedPorts; rw [tok, h.on, use]
  have mir : t.mirCtx = s.mirCtx := by funext k; simp only [State.mirCtx, State.bitAt, h.rd]
  delta State.mayStart
  rw [h.get, h.on, role, mir]

theorem SameConf.mgUnsafe (h : SameConf s t) : t.mgUnsafe = s.mgUnsafe := by
  delta State.mgUnsafe
  rw [h.cMg, h.mgState]

theorem OnlyRegs.of_granted {l : List Nat} {r : Req} {b : Block} (h : OnlyRegs l (s.granted r b) u) : OnlyRegs l s u :=
  fun a ha => (h a ha).trans (granted_rd s r b a)

theorem OnlyRegs.trans {l : List Nat} (h : OnlyRegs l s t) (g : OnlyRegs l t u) : OnlyRegs l s u :=
  fun a ha => (g a ha).trans (h a ha)

theorem OnlyRegs.mono {l m : List Nat} (h : OnlyRegs l s t) (sub : ∀ a ∈ l, a ∈ m) : OnlyRegs m s t :=
  fun a ha => h a fun hl => ha (sub a hl)

theorem wsel_lt (s : State) (r : Req) : s.wsel r < 128 := fld_lt _ 0 7

/-- A write of CTX_W_CMD that is granted is the command on the selected context. -/
theorem ctxCmdAt_of_grants {r : Req} (code : Nat) (h : s.grants r aCTX_W_CMD true = true) :
    ctxCmdAt r code s = ctxCmd (s.wsel r) code (s.granted r .eng) := by
  unfold ctxCmdAt
  rw [access_of_grants_at h rfl]
  unfold State.wsel
  rw [granted_rd]

theorem runs_ctxCmd {c : Instr} {r : Req} {code : Nat} {P : State → Prop} (e : exec c s = done (ctxCmdAt r code s))
    (h : s.grants r aCTX_W_CMD true = true) (p : P (ctxCmd (s.wsel r) code (s.granted r .eng))) : Runs c s P :=
  ⟨_, e.trans (congrArg done (ctxCmdAt_of_grants code h)), p⟩

/-! A command accepted or refused (R113). -/

theorem cmdRef_lt : (cf k fCTX_W_STAT_cmd_ref).lo < 32 := show 22 < 32 by decide

@[simp] theorem shows_lower_cmdRef (k : Nat) (s : State) :
    (s.lower (cf k fCTX_W_STAT_cmd_ref)).shows (cf k fCTX_W_STAT_cmd_ref) = 0 :=
  shows_put_bit s (cf k fCTX_W_STAT_cmd_ref) Nat.zero_lt_two cmdRef_lt rfl

theorem onlyRegs_lower_cmdRef {l : List Nat} (h : OnlyRegs l s t) (hl : inst k aCTX_W_STAT ∈ l) :
    OnlyRegs l s (t.lower (cf k fCTX_W_STAT_cmd_ref)) := onlyRegs_put (f := cf k fCTX_W_STAT_cmd_ref) 0 hl h

theorem irqRaw_ne_stat (k : Nat) : inst k aCTX_W_IRQ_RAW ≠ inst k aCTX_W_STAT := by
  unfold inst
  rw [Ne, Nat.add_right_cancel_iff]
  decide

/-- What a refused command leaves: its flag and its interrupt, and all else as it was. -/
structure Refused (k : Nat) (s u : State) : Prop where
  ctxs : u.ctxs = s.ctxs
  mem : u.mem = s.mem
  flag : u.shows (cf k fCTX_W_STAT_cmd_ref) = 1
  irq : u.shows ⟨inst k aCTX_W_IRQ_RAW, 6, 1⟩ = 1
  aref : u.shows (cf k fCTX_W_STAT_aref) = s.shows (cf k fCTX_W_STAT_aref)
  regs : OnlyRegs [inst k aCTX_W_STAT, inst k aCTX_W_IRQ_RAW] s u

theorem refused_judged (k : Nat) (f : State → State) (s : State) : Refused k s (judged k false f s) := by
  have e : judged k false f s = ctxIrq k 6 (s.raise (cf k fCTX_W_STAT_cmd_ref)) := if_neg Bool.false_ne_true
  have above {g : Fld} (h : g.addr = inst k aCTX_W_STAT) (x : State) : (ctxIrq k 6 x).shows g = x.shows g :=
    shows_put_ne x 1 (h ▸ irqRaw_ne_stat k)
  rw [e]
  exact {
    ctxs := (wr_ctxs _ _ _).trans (wr_ctxs _ _ _)
    mem := (wr_mem _ _ _).trans (wr_mem _ _ _)
    flag := (above rfl _).trans (shows_put_bit s (cf k fCTX_W_STAT_cmd_ref) Nat.one_lt_two cmdRef_lt rfl)
    irq := shows_put_bit _ ⟨inst k aCTX_W_IRQ_RAW, 6, 1⟩ Nat.one_lt_two (show 6 < 32 by decide) rfl
    aref := (above rfl _).trans (shows_put_disj (f := cf k fCTX_W_STAT_cmd_ref) s 1 (.inl (show 12 + 4 ≤ 22 by decide)))
    regs := onlyRegs_put (f := ⟨inst k aCTX_W_IRQ_RAW, 6, 1⟩) 1 (by simp)
      (onlyRegs_put (f := cf k fCTX_W_STAT_cmd_ref) 1 (by simp) (OnlyRegs.refl _ s)) }

theorem Refused.of_granted {r : Req} {b : Block} (h : Refused k (s.granted r b) u) : Refused k s u where
  ctxs := h.ctxs.trans (granted_ctxs s r b)
  mem := h.mem.trans (granted_mem s r b)
  flag := h.flag
  irq := h.irq
  aref := h.aref.trans (granted_shows s r b _)
  regs := OnlyRegs.of_granted h.regs

/-! The commands by their codes, each in its own state and in another one (R73). A condition gets a name before the command is unfolded,
and the context is taken apart: the kernel then evaluates the choice of the code alone. -/

theorem ctxCmd_admit (h : (s.ctx k).st = .off) : ctxCmd k 1 s =
    judged k (s.admitCode k == 0) (admitCtx k) (s.put (cf k fCTX_W_STAT_aref) (s.admitCode k)) := by
  obtain ⟨v, hv⟩ : ∃ v, s.admitCode k = v := ⟨_, rfl⟩
  unfold ctxCmd
  rw [hv]
  generalize s.ctx k = c at h
  cases c
  cases h
  rfl

theorem ctxCmd_start (h : (s.ctx k).st = .admitted) : ctxCmd k 2 s =
    judged k (s.mayStart k) (fun s => startCtxAt k (applyInstant k s)) s := by
  unfold ctxCmd
  generalize s.ctx k = c at h
  cases c
  cases h
  rfl

theorem ctxCmd_stop (h : (s.ctx k).st = .run) : ctxCmd k 3 s =
    judged k (!(s.cWrites k && s.mgUnsafe k)) (stopCtxAt k) s := by
  obtain ⟨v, hv⟩ : ∃ v, (s.cWrites k && s.mgUnsafe k) = v := ⟨_, rfl⟩
  unfold ctxCmd
  rw [hv]
  generalize s.ctx k = c at h
  cases c
  cases h
  rfl

theorem ctxCmd_release (h : (s.ctx k).st = .admitted ∨ (s.ctx k).st = .halt) :
    ctxCmd k 4 s = judged k true (ctxRelease k) s := by
  unfold ctxCmd
  generalize s.ctx k = c at h
  cases c
  obtain h | h := h
  all_goals
    cases h
    rfl

theorem ctxCmd_clear (h : (s.ctx k).st = .halt) : ctxCmd k 5 s =
    judged k (!s.mgUnsafe k) (fun t => t.putCtx k { s.ctx k with st := .admitted }) s := by
  obtain ⟨v, hv⟩ : ∃ v, s.mgUnsafe k = v := ⟨_, rfl⟩
  unfold ctxCmd
  rw [hv]
  generalize s.ctx k = c at h
  cases c
  cases h
  rfl

theorem ctxCmd_admit_elsewhere (h : (s.ctx k).st ≠ .off) : ctxCmd k 1 s = judged k false id s := by
  unfold ctxCmd
  generalize s.ctx k = c at h
  obtain ⟨st⟩ := c
  cases st with
  | off => exact absurd rfl h
  | admitted | run | halt => rfl

theorem ctxCmd_clear_elsewhere (h : (s.ctx k).st ≠ .halt) : ctxCmd k 5 s = judged k false id s := by
  unfold ctxCmd
  generalize s.ctx k = c at h
  obtain ⟨st⟩ := c
  cases st with
  | halt => exact absurd rfl h
  | off | admitted | run => rfl

/-! Loads that follow the plan (R87, R89). -/

theorem refreshLoads_same (s : State) : (refreshLoads s).ctxs = s.ctxs ∧ (refreshLoads s).tmr = s.tmr := by
  obtain ⟨-, -, -, same⟩ := touch_refreshLoads (Sub.refl _) s (Touch.rfl' _ s)
  exact ⟨same .ctxs rfl, same .tmr rfl⟩

theorem each_putLoad_mem (l : List Nat) (s : State) : ∃ m, s.each l putLoad = s.setMem m :=
  ((AreaKept.refl 0 0x10 s).each fun j _ h => h.putLoad j).only

theorem refreshLoads_regs (s : State) : OnlyRegs [aENG_ADM_SUM, aENG_STAT] s (refreshLoads s) := by
  rw [refreshLoads_eq]
  obtain ⟨m, hm⟩ := each_putLoad_mem s.liveCtx s
  beta_reduce
  rw [hm]
  exact onlyRegs_put (f := fENG_STAT_adm_full) _ (by simp) (onlyRegs_put (f := fENG_ADM_SUM_sum) _ (by simp) fun _ _ => rfl)

/-- A context that is not OFF has its load written. -/
theorem refreshLoads_cw (hk : k ∈ s.liveCtx) : (refreshLoads s).cw k 0x10 = loadWord s k := by
  rw [refreshLoads_eq]
  exact each_putLoad hk s

/-! ADMIT (R87, R88). -/

/-- The commit of the context's group that waits is dropped, and the group's last commit forgotten. -/
def withoutCommit (g : Nat) (s : State) : State :=
  (if s.on (fTBG_STAT_cmt_pend g) then tbgCommitAbort g s else s).putTbg g
    { (if s.on (fTBG_STAT_cmt_pend g) then tbgCommitAbort g s else s).tbg g with last := none }

/-- The words of the area that ADMIT writes besides the loads. -/
def admitWords (k : Nat) (s : State) : State :=
  lockWord k (gridCopies k (s.putCtx k { st := .admitted, stepNo := (s.ctx k).stepNo }))

/-- ADMIT by the group of the context. -/
theorem admitCtx_cases {P : State → Prop} {k : Nat} {s : State}
    (none : (admitWords k s).cTbg k = none → P (refreshLoads (admitWords k s)))
    (some : ∀ g, (admitWords k s).cTbg k = some g → P (refreshLoads (withoutCommit g (admitWords k s)))) : P (admitCtx k s) := by
  generalize words : admitWords k s = w at none some
  generalize body : admitCtx = f
  delta admitCtx at body
  subst body
  delta admitWords at words
  beta_reduce at words ⊢
  rw [words]
  show P (refreshLoads _)
  generalize group : w.cTbg k = o at none some
  cases o with
  | none => exact none rfl
  | some g => exact some g rfl

theorem admitWords_kept (k : Nat) (s : State) :
    AreaKept k 0x10 (s.putCtx k { st := .admitted, stepNo := (s.ctx k).stepNo }) (admitWords k s) := by
  have above {q : Nat} (hq : 0x10 ≤ q) : 0x10 ≤ q ∧ (k = k ∨ q + 4 ≤ 0x800) := ⟨hq, .inl rfl⟩
  have grid {x t : State} (h : AreaKept k 0x10 x t) : AreaKept k 0x10 x (gridCopies k t) :=
    .ite h ((h.putCw (above (by decide)) _ (by decide)).putCw (above (by decide)) _ (by decide))
  have lock {x t : State} (h : AreaKept k 0x10 x t) : AreaKept k 0x10 x (lockWord k t) :=
    .ite (.ite (h.putCw (above (by decide)) _ (by decide)) h) h
  exact lock (grid (.refl k 0x10 _))

/-- What a dropped commit leaves: no context and no memory changes, no register of Basil's, and no period and mode of a group. -/
structure RateKept (s t : State) : Prop where
  mem : t.mem = s.mem
  ctxs : t.ctxs = s.ctxs
  tmr : t.tmr = s.tmr
  eng : ∀ a, pageOf a = 5 → t.rd a = s.rd a
  per : ∀ g, t.rd (aTBG_PERIOD g) = s.rd (aTBG_PERIOD g)
  cfg : ∀ g, t.rd (aTBG_CFG g) = s.rd (aTBG_CFG g)

/-- No register of Basil's, no period and no configuration of a group. -/
def NoRate (a : Nat) : Prop := pageOf a ≠ 5 ∧ ∀ g, a ≠ aTBG_PERIOD g ∧ a ≠ aTBG_CFG g

theorem noRate_stat (g : Nat) : NoRate (aTBG_STAT g) := by
  unfold NoRate pageOf aTBG_STAT aTBG_PERIOD aTBG_CFG
  exact ⟨by omega, fun _ => by omega⟩

theorem noRate_irq (g : Nat) : NoRate (aTBG_IRQ_RAW g) := by
  unfold NoRate pageOf aTBG_IRQ_RAW aTBG_PERIOD aTBG_CFG
  exact ⟨by omega, fun _ => by omega⟩

theorem noRate_leg (n : Nat) : NoRate (aLEG_CMP_GEN n) := by
  unfold NoRate pageOf aLEG_CMP_GEN aTBG_PERIOD aTBG_CFG
  exact ⟨by omega, fun _ => by omega⟩

theorem noRate_thy {a : Nat} (h : a = 0x4002001C ∨ a = 0x40020010) : NoRate a := by
  unfold NoRate pageOf aTBG_PERIOD aTBG_CFG
  exact ⟨by omega, fun _ => by omega⟩

theorem RateKept.refl (s : State) : RateKept s s := ⟨rfl, rfl, rfl, fun _ _ => rfl, fun _ => rfl, fun _ => rfl⟩

theorem RateKept.put (h : RateKept s t) {f : Fld} (hf : NoRate f.addr) (v : Nat) : RateKept s (t.put f v) where
  mem := (wr_mem _ _ _).trans h.mem
  ctxs := (wr_ctxs _ _ _).trans h.ctxs
  tmr := (wr_tmr _ _ _).trans h.tmr
  eng a ha := (rd_wr_ne _ _ fun e : f.addr = a => hf.1 (e ▸ ha)).trans (h.eng a ha)
  per g := (rd_wr_ne _ _ (hf.2 g).1).trans (h.per g)
  cfg g := (rd_wr_ne _ _ (hf.2 g).2).trans (h.cfg g)

theorem RateKept.putTbg (h : RateKept s t) (g : Nat) (x : Tbg) : RateKept s (t.putTbg g x) := { h with }
theorem RateKept.dropCmt (h : RateKept s t) (c : Nat → Bool) : RateKept s (dropCmt c t) := { h with }
theorem RateKept.sageEvt (h : RateKept s t) (e : Nat) (n : SageName) : RateKept s (t.sageEvt e n) := { h with }

theorem RateKept.ite {c : Prop} [Decidable c] (h : RateKept s t) (g : RateKept s u) : RateKept s (if c then t else u) := by
  split <;> assumption

theorem RateKept.each {α : Type} {as : List α} {f : α → State → State} (h : RateKept s t)
    (g : ∀ a y, RateKept s y → RateKept s (f a y)) : RateKept s (t.each as f) :=
  each_keeps (fun a _ y hy => g a y hy) h

theorem RateKept.errEvent (h : RateKept s t) (i : Nat) : RateKept s (errEvent .thy i t) := by
  refine .sageEvt (.ite h (.put (.put h (f := hErr (hdr .thy) i) (noRate_thy (.inl rfl)) 1) (f := hRaw (hdr .thy) 0)
    (noRate_thy (.inr rfl)) 1)) _ _

theorem RateKept.dropTbgCommit (h : RateKept s t) (g : Nat) : RateKept s (dropTbgCommit g t) := by
  have stat {y : State} (hy : RateKept s y) (lo w : Nat) : RateKept s (y.put ⟨aTBG_STAT g, lo, w⟩ 0) :=
    hy.put (f := ⟨aTBG_STAT g, lo, w⟩) (noRate_stat g) 0
  have gen {y : State} (hy : RateKept s y) (n lo w : Nat) : RateKept s (y.put ⟨aLEG_CMP_GEN n, lo, w⟩ 0) :=
    hy.put (f := ⟨aLEG_CMP_GEN n, lo, w⟩) (noRate_leg n) 0
  unfold Machine.dropTbgCommit
  exact .putTbg (.each (stat (stat (stat (h.dropCmt _) 3 1) 4 1) 7 1) fun n y hy => gen (gen hy n 9 1) n 8 1) _ _

theorem RateKept.tbgCommitAbort (h : RateKept s t) (g : Nat) : RateKept s (tbgCommitAbort g t) :=
  .ite (.put (f := ⟨aTBG_IRQ_RAW g, 2, 1⟩) (h.errEvent 3) (noRate_irq g) 1) (h.dropTbgCommit g)

theorem RateKept.withoutCommit (h : RateKept s t) (g : Nat) : RateKept s (withoutCommit g t) :=
  .putTbg (.ite (h.tbgCommitAbort g) h) _ _

theorem get_of_rd {f : Fld} (hr : t.rd f.addr = s.rd f.addr) (ht : t.tmr = s.tmr) : t.get f = s.get f := by
  unfold State.get State.use
  rw [hr, ht]

theorem RateKept.cw (h : RateKept s t) : t.cw = s.cw := by
  funext k o
  unfold State.cw State.mem32
  rw [h.mem]

theorem RateKept.loadWord (h : RateKept s t) (k : Nat) : loadWord t k = loadWord s k :=
  loadWord_congr (fun o _ => by rw [h.cw]) (fun g => get_of_rd (h.per g) h.tmr) fun g => get_of_rd (h.cfg g) h.tmr

theorem RateKept.shows (h : RateKept s t) {f : Fld} (hf : pageOf f.addr = 5) : t.shows f = s.shows f := by
  unfold State.shows
  rw [h.eng _ hf]

/-- What ADMIT leaves where all checks pass (R87). -/
structure Admitted (k : Nat) (s u : State) : Prop where
  st : (u.ctx k).st = .admitted
  stepNo : (u.ctx k).stepNo = (s.ctx k).stepNo
  load : u.cw k 0x10 = loadWord s k
  aref : u.shows (cf k fCTX_W_STAT_aref) = s.shows (cf k fCTX_W_STAT_aref)

theorem mem_liveCtx (hk : k < 128) (h : (s.ctx k).st ≠ .off) : k ∈ s.liveCtx :=
  List.mem_filter.mpr ⟨List.mem_range.mpr hk, bne_iff_ne.mpr h⟩

/-- The new context and its load, after the words of the area and the group's commit. -/
theorem admitted_of_rateKept (hk : k < 128) (h : RateKept (admitWords k s) t) : Admitted k s (refreshLoads t) := by
  have area := admitWords_kept k s
  obtain ⟨m, hm⟩ := area.only
  have ctx : t.ctx k = { st := .admitted, stepNo := (s.ctx k).stepNo } := by
    rw [ctx_of_ctxs h.ctxs, hm]
    exact (congrFun (ctx_of_ctxs (setMem_ctxs _ m)) k).trans (ctx_putCtx s k _)
  have live : k ∈ t.liveCtx := mem_liveCtx hk (by rw [ctx]; exact CState.noConfusion)
  have new : (refreshLoads t).ctx k = { st := .admitted, stepNo := (s.ctx k).stepNo } :=
    (congrFun (ctx_of_ctxs (refreshLoads_same t).1) k).trans ctx
  have before : loadWord (s.putCtx k { st := .admitted, stepNo := (s.ctx k).stepNo }) k = loadWord s k :=
    loadWord_congr (fun _ _ => rfl) (fun _ => rfl) fun _ => rfl
  exact {
    st := by rw [new]
    stepNo := by rw [new]
    load := (refreshLoads_cw live).trans ((h.loadWord k).trans (area.loadWord.trans before))
    aref := by
      have page : pageOf (inst k aCTX_W_STAT) = 5 := page_inst k aCTX_W_STAT
      have regs := refreshLoads_regs t (inst k aCTX_W_STAT) (by unfold inst aENG_ADM_SUM aENG_STAT; simp; omega)
      have words : (admitWords k s).rd (inst k aCTX_W_STAT) = s.rd (inst k aCTX_W_STAT) := by rw [hm]; rfl
      unfold State.shows
      rw [regs, h.eng _ page, words] }

end Sys2Proof.Proofs
end

section
/-! PROOFS. O20: sample instants, START, STOP and RELEASE, and the statement (03_basil_control_engine.md R73, R74, R100, R109,
R113). -/
namespace Sys2Proof.Proofs
open Sys2Proof Sys2Proof.Machine Sys2Proof.Laws

variable {k : Nat} {s t u : State}

theorem applyParams_none (h : (s.ctx k).cmtGen = none) : applyParams k s = s := by
  unfold applyParams
  dsimp only
  rw [h]

theorem applyCtxBnd_none (h : ∀ a o, (a, o) ∈ ctxHomes → Tab.find s.bnd (inst k a) = none) : applyCtxBnd k s = s := by
  refine each_keeps (P := (· = s)) ?_ rfl
  rintro ⟨a, o⟩ mem t rfl
  dsimp only
  rw [h a o mem]

/-- An integrator is a word of the area and of the unsealed steps. -/
theorem setInteg_eq (k i : Nat) (v : Word) (s : State) :
    ∃ t, AreaKept k 0x380 s t ∧ setInteg k i v s = t.putCtx k ((t.ctx k).withInteg i (s.integValue k i v)) := by
  have above {x y : State} (h : AreaKept k 0x380 x y) (q : Nat) (hq : 0x380 ≤ q) (v : Word) : AreaKept k 0x380 x (y.putCw k q v) :=
    h.putCw ⟨hq, .inl rfl⟩ v (by decide)
  refine ⟨_, ?_, rfl⟩
  unfold State.when
  exact .ite (above (above (.refl _ _ s) _ (by omega) _) _ (by omega) _) (above (.refl _ _ s) _ (by omega) _)

/-- What the instant finds waiting is an integrator alone: registers and the descriptor stay. -/
theorem applyInstant_kept (hc : (s.ctx k).cmtGen = none) (hb : ∀ a o, (a, o) ∈ ctxHomes → Tab.find s.bnd (inst k a) = none) :
    (applyInstant k s).rd = s.rd ∧ (applyInstant k s).cSrc k = s.cSrc k := by
  unfold applyInstant
  rw [applyCtxBnd_none hb, applyParams_none hc]
  dsimp only
  split
  next i v hv =>
    obtain ⟨t, area, eq⟩ := setInteg_eq k i v (s.putCtx k { s.ctx k with itegPend := none })
    obtain ⟨m, hm⟩ := area.only
    rw [eq]
    refine ⟨?_, ?_⟩
    · rw [hm]; rfl
    · exact (area.cSrc (by decide) : t.cSrc k = s.cSrc k)
  next => exact ⟨rfl, rfl⟩

/-! START (R73, R74). -/

/-- What START leaves before a context of software triggers enters RUN. -/
structure Started (k : Nat) (s t : State) : Prop where
  st : (t.ctx k).st = .admitted
  startPend : (t.ctx k).startPend = true
  inVal : (t.ctx k).inVal = []
  used : (t.ctx k).used = []
  stepNo : (t.ctx k).stepNo = (s.ctx k).stepNo
  src : t.cSrc k = s.cSrc k
  regs : OnlyRegs [inst k aCTX_W_STAT] s t

theorem AreaKept.ctx {p : Nat} (h : AreaKept k p s t) : t.ctx = s.ctx := by
  obtain ⟨m, rfl⟩ := h.only
  exact ctx_of_ctxs (setMem_ctxs s m)

/-- The context that START leaves but for its first phase: inputs, overruns and measurements are forgotten. -/
def startedCtx (c : Ctx) (w : Work) (now next : Nat) : Ctx :=
  { c with
    startPend := true, stopPend := false, ph := .idle, tPrev := now, nextAt := next, lastTrig := none,
    inVal := [], inNext := [], used := [], staleRun := [], ovrRun := 0, preds := [], cons := [], rampAt := none, w := w, wk := w,
    seen := 0, old := 0, measT := 0, meas := [], measP := (0, []) }

theorem startedCtx_st (c : Ctx) (w : Work) (now next : Nat) : (startedCtx c w now next).st = c.st := rfl
theorem startedCtx_stepNo (c : Ctx) (w : Work) (now next : Nat) : (startedCtx c w now next).stepNo = c.stepNo := rfl

theorem Started.begun {w : Work} {now next : Nat} (h : AreaKept k 0x3A0 s t) (admitted : (s.ctx k).st = .admitted) :
    Started k s (t.putCtx k (startedCtx (t.ctx k) w now next)) := by
  rw [congrFun h.ctx k]
  have new := ctx_putCtx t k (startedCtx (s.ctx k) w now next)
  have regs : t.rd = s.rd := by
    obtain ⟨m, rfl⟩ := h.only
    rfl
  exact ⟨by rw [new, startedCtx_st, admitted], by rw [new]; rfl, by rw [new]; rfl, by rw [new]; rfl, by rw [new, startedCtx_stepNo],
    h.cSrc (by decide), fun a _ => congrFun regs a⟩

/-- The first phase is a field of the work of the context. -/
theorem Started.putWork {w wk : Work} (h : Started k s t) : Started k s (t.putCtx k { t.ctx k with w := w, wk := wk }) := by
  have ctx := ctx_putCtx t k { t.ctx k with w := w, wk := wk }
  obtain ⟨st, pend, val, used, no, src, regs⟩ := h
  exact ⟨by rw [ctx, st], by rw [ctx, pend], by rw [ctx, val], by rw [ctx, used], by rw [ctx, no], src, regs⟩

theorem Started.ite {c : Prop} [Decidable c] (h : Started k s t) (g : Started k s u) : Started k s (if c then t else u) := by
  split <;> assumption

theorem Started.putPhase (h : Started k s t) (v : Nat) : Started k s (t.put (cf k fCTX_W_STAT_phase) v) := by
  have ctx : (t.put (cf k fCTX_W_STAT_phase) v).ctx = t.ctx := ctx_of_ctxs (wr_ctxs _ _ _)
  have src : (t.put (cf k fCTX_W_STAT_phase) v).cSrc k = t.cSrc k := by
    unfold State.cSrc State.cw State.mem32 State.put
    rw [wr_mem]
  exact ⟨by rw [ctx, h.st], by rw [ctx, h.startPend], by rw [ctx, h.inVal], by rw [ctx, h.used], by rw [ctx, h.stepNo],
    src.trans h.src, onlyRegs_put (f := cf k fCTX_W_STAT_phase) v (by simp) h.regs⟩

theorem startCtxAt_eq (h : (s.ctx k).st = .admitted) :
    ∃ t, Started k s t ∧ startCtxAt k s = if t.cSrc k = 2 then enterRun k t else t := by
  refine ⟨_, ?_, rfl⟩
  have observer {c : Prop} [Decidable c] :
      AreaKept k 0x3A0 s (if c then s.each (List.range 29) (fun i s => s.putCw k (0x3A0 + 4 * i) 0) else s) :=
    .ite (.each (.refl k _ s) fun i y hy => hy.putCw ⟨by omega, .inl rfl⟩ _ (by decide)) (.refl k _ s)
  refine .putPhase (.ite (.putWork ?_) ?_) _
  all_goals exact .begun observer h

/-- START of an ADMITTED context (R73, R74). -/
theorem startCtxAt_ctx (h : (s.ctx k).st = .admitted) :
    ((startCtxAt k s).ctx k).inVal = [] ∧ ((startCtxAt k s).ctx k).used = [] ∧ ((startCtxAt k s).ctx k).stepNo = (s.ctx k).stepNo ∧
    (s.cSrc k = 2 → ((startCtxAt k s).ctx k).st = .run) ∧
    (s.cSrc k ≠ 2 → ((startCtxAt k s).ctx k).st = .admitted ∧ ((startCtxAt k s).ctx k).startPend = true) ∧
    OnlyRegs [inst k aCTX_W_STAT] s (startCtxAt k s) := by
  obtain ⟨t, ⟨st, pend, val, used, no, src, regs⟩, eq⟩ := startCtxAt_eq h
  rw [eq, src]
  split
  next hs =>
    have ctx : (enterRun k t).ctx k = { t.ctx k with st := .run, startPend := false } :=
      (congrFun (ctx_of_ctxs (setLivs_ctxs _ _)) k).trans (ctx_putCtx t k _)
    exact ⟨by rw [ctx, val], by rw [ctx, used], by rw [ctx, no], fun _ => by rw [ctx], fun ne => absurd hs ne, regs⟩
  next hs => exact ⟨val, used, no, fun e => absurd e hs, fun _ => ⟨st, pend⟩, regs⟩

/-! STOP (R74). -/

theorem stopDue_eq (h : (s.ctx k).stopPend = true) (st : (s.ctx k).st = .run) (ph : (s.ctx k).ph = .idle) (older : (s.ctx k).older = []) :
    stopDue k s = trkHold k true (leaveRun k (s.putCtx k { s.ctx k with st := .admitted, stopPend := false })) :=
  if_pos (by rw [h, st, ph, older]; rfl)

theorem stopDue_none (h : (s.ctx k).stopPend = false ∨ (s.ctx k).ph ≠ .idle) : stopDue k s = s := by
  refine if_neg ?_
  obtain h | h := h <;> simp [h]

theorem leaveRun_elsewhere (h : (s.ctx k).st ≠ .run) : leaveRun k s = s := if_neg (by simp [h])

theorem trkHold_ctxs (k : Nat) (lost : Bool) (s : State) : (trkHold k lost s).ctxs = s.ctxs := by
  obtain ⟨-, -, -, same⟩ := touch_trkHold (Sub.refl _) k lost s (Touch.rfl' _ s)
  exact same .ctxs rfl

/-- Where a context is: its state, the phase and number of its step, and a STOP that waits. -/
def placeOf (c : Ctx) : CState × SPhase × Bool × Nat := (c.st, c.ph, c.stopPend, c.stepNo)

/-- A sample instant's effects leave the context where it is. -/
theorem applyInstant_place (k : Nat) (s : State) : placeOf ((applyInstant k s).ctx k) = placeOf (s.ctx k) := by
  have bound : (applyCtxBnd k s).ctxs = s.ctxs := by
    obtain ⟨-, -, -, same⟩ := touch_applyCtxBnd (Sub.refl _) k s (Touch.rfl' _ s)
    exact same .ctxs rfl
  have params (y : State) : placeOf ((applyParams k y).ctx k) = placeOf (y.ctx k) := by
    unfold applyParams
    dsimp only
    split
    next => rfl
    next g _ =>
      have words (ws : List (Nat × Word)) (y : State) : (y.each ws (fun (o, v) s => putParam k o v s)).ctxs = y.ctxs :=
        each_keeps (P := fun t => t.ctxs = y.ctxs) (fun w _ t ht => by
          obtain ⟨-, -, -, same⟩ := touch_putParam (Sub.refl _) k w.1 w.2 t (Touch.rfl' _ t)
          exact Eq.trans (same .ctxs rfl) ht) rfl
      have lock (y : State) : (lockWord k y).ctxs = y.ctxs := by
        obtain ⟨-, -, -, same⟩ := touch_lockWord (Sub.refl _) k y (Touch.rfl' _ y)
        exact same .ctxs rfl
      have shown {y : State} : ((y.put (cf k fCTX_W_PGEN_applied) g).irq 0x40050000 1).ctxs = y.ctxs :=
        (wr_ctxs _ _ _).trans (wr_ctxs _ _ _)
      rw [ctx_of_ctxs (shown.trans ((lock _).trans (words _ _))), ctx_putCtx]
      rfl
  have integ (y : State) (i : Nat) (v : Word) : placeOf ((setInteg k i v y).ctx k) = placeOf (y.ctx k) := by
    obtain ⟨t, area, eq⟩ := setInteg_eq k i v y
    rw [eq, ctx_putCtx, area.ctx]
    rfl
  have applied : placeOf ((applyParams k (applyCtxBnd k s)).ctx k) = placeOf (s.ctx k) := by rw [params, ctx_of_ctxs bound]
  unfold applyInstant
  dsimp only
  split
  next i v _ =>
    rw [integ, ctx_putCtx]
    exact applied
  next => exact applied

/-- A context with a STOP that waits; a step that is not released yet is dropped. -/
def stopped (c : Ctx) : Ctx := { c with stopPend := true, ph := if c.ph = .waiting then .idle else c.ph }

theorem stopped_idle {c : Ctx} (h : c.ph = .idle ∨ c.ph = .waiting) : (stopped c).ph = .idle := by
  unfold stopped
  obtain h | h := h
  · simp [h]
  · simp [h]

theorem stopped_running {c : Ctx} (h : c.ph = .running) : stopped c = { c with stopPend := true } := by
  cases c
  cases h
  rfl

/-- STOP, but for a step that has completed without a set (R74). -/
theorem stopCtxAt_eq (ph : (s.ctx k).ph ≠ .prov) :
    stopCtxAt k s = if ((stopDue k (s.putCtx k (stopped (s.ctx k)))).ctx k).st = .run then stopDue k (s.putCtx k (stopped (s.ctx k)))
      else applyInstant k (stopDue k (s.putCtx k (stopped (s.ctx k)))) := by
  have lane : ¬(decide ((s.ctx k).ph = .prov) && (s.ctx k).noSet) = true := by simp [ph]
  unfold stopCtxAt
  dsimp only
  rw [if_neg lane]
  rfl

/-- STOP with no step on a lane and none that waits for its boundary ends RUN at once (R74). -/
theorem stopCtxAt_ends (st : (s.ctx k).st = .run) (ph : (s.ctx k).ph = .idle ∨ (s.ctx k).ph = .waiting) (older : (s.ctx k).older = []) :
    placeOf ((stopCtxAt k s).ctx k) = (.admitted, .idle, false, (s.ctx k).stepNo) := by
  have noSet : (s.ctx k).ph ≠ .prov := by
    obtain ph | ph := ph <;> simp [ph]
  obtain ⟨x, hx⟩ : ∃ x, x = s.putCtx k (stopped (s.ctx k)) := ⟨_, rfl⟩
  have cx : x.ctx k = stopped (s.ctx k) := by rw [hx, ctx_putCtx]
  have idle : (x.ctx k).ph = .idle := by rw [cx, stopped_idle ph]
  have due := stopDue_eq (s := x) (k := k) (by rw [cx]; rfl) (by rw [cx]; exact st) idle (by rw [cx]; exact older)
  have out : placeOf ((stopDue k x).ctx k) = (.admitted, .idle, false, (s.ctx k).stepNo) := by
    rw [due, leaveRun_elsewhere (by rw [ctx_putCtx]; nofun), ctx_of_ctxs (trkHold_ctxs _ _ _), ctx_putCtx]
    unfold placeOf
    dsimp only
    rw [idle, cx]
    rfl
  have left : ((stopDue k x).ctx k).st = .admitted := congrArg Prod.fst out
  rw [stopCtxAt_eq noSet, ← hx, if_neg (by rw [left]; nofun)]
  exact (applyInstant_place k _).trans out

/-- STOP while a step runs waits for its end (R74). -/
theorem stopCtxAt_waits (st : (s.ctx k).st = .run) (ph : (s.ctx k).ph = .running) :
    stopCtxAt k s = s.putCtx k { s.ctx k with stopPend := true } := by
  have cx := ctx_putCtx s k (stopped (s.ctx k))
  have lane : (stopped (s.ctx k)).ph ≠ .idle := by
    rw [stopped_running ph]
    dsimp only
    rw [ph]
    nofun
  have stays : stopDue k (s.putCtx k (stopped (s.ctx k))) = s.putCtx k (stopped (s.ctx k)) := stopDue_none (.inr (by rw [cx]; exact lane))
  rw [stopCtxAt_eq (by rw [ph]; nofun), stays, if_pos (by rw [cx]; exact st), stopped_running ph]

/-- RELEASE (R73). -/
theorem ctxRelease_ctx (k : Nat) (s : State) :
    (ctxRelease k s).ctx k = { stepNo := (s.ctx k).stepNo } ∧ OnlyRegs [aENG_ADM_SUM, aENG_STAT] s (ctxRelease k s) := by
  obtain ⟨x, hx, eq⟩ : ∃ x, AreaKept k 0x7A0 s x ∧ ctxRelease k s = refreshLoads (x.putCtx k { stepNo := (x.ctx k).stepNo }) := by
    refine ⟨_, ?_, rfl⟩
    exact .ite (AreaKept.putCw (.refl k _ s) ⟨le_refl _, .inl rfl⟩ _ (by decide)) (.refl k _ s)
  obtain ⟨m, hm⟩ := hx.only
  rw [eq]
  refine ⟨?_, fun a ha => (refreshLoads_regs _ a ha).trans (by rw [hm]; rfl)⟩
  rw [ctx_of_ctxs (refreshLoads_same _).1, ctx_putCtx, hx.ctx]

/-- ADMIT where all checks pass; without a group, no register changes but Basil's. -/
theorem admitCtx_admitted (hk : k < 128) (s : State) :
    Admitted k s (admitCtx k s) ∧ (s.cTbg k = none → OnlyRegs [aENG_ADM_SUM, aENG_STAT] s (admitCtx k s)) := by
  have area := admitWords_kept k s
  have conf : SameConf s (s.putCtx k { st := .admitted, stepNo := (s.ctx k).stepNo }) := ⟨rfl, rfl, rfl⟩
  have group : (admitWords k s).cTbg k = s.cTbg k := (area.cTbg (by decide)).trans (congrFun conf.cTbg k)
  have regs : (admitWords k s).rd = s.rd := by
    obtain ⟨m, hm⟩ := area.only
    rw [hm]
    exact conf.rd
  refine admitCtx_cases (P := fun u => Admitted k s u ∧ (s.cTbg k = none → OnlyRegs [aENG_ADM_SUM, aENG_STAT] s u)) ?none ?some
  case none =>
    exact fun _ => ⟨admitted_of_rateKept hk (.refl _), fun _ a ha => (refreshLoads_regs _ a ha).trans (congrFun regs a)⟩
  case some =>
    exact fun g hg => ⟨admitted_of_rateKept hk ((RateKept.refl _).withoutCommit g), fun none =>
      absurd (group.symm.trans hg) (by simp [none])⟩

theorem judged_true (k : Nat) (f : State → State) (s : State) : judged k true f s = (f s).lower (cf k fCTX_W_STAT_cmd_ref) := if_pos rfl

theorem cw_put (s : State) (f : Fld) (v k o : Nat) : (s.put f v).cw k o = s.cw k o := by
  unfold State.cw State.mem32 State.put
  rw [wr_mem]

theorem ctx_put (s : State) (f : Fld) (v : Nat) : (s.put f v).ctx = s.ctx := ctx_of_ctxs (wr_ctxs _ _ _)

theorem ctx_lower (s : State) (f : Fld) : (s.lower f).ctx = s.ctx := ctx_put s f 0

theorem cw_lower (s : State) (f : Fld) (k o : Nat) : (s.lower f).cw k o = s.cw k o := cw_put s f 0 k o

theorem shows_lower_aref (k : Nat) (s : State) :
    (s.lower (cf k fCTX_W_STAT_cmd_ref)).shows (cf k fCTX_W_STAT_aref) = s.shows (cf k fCTX_W_STAT_aref) :=
  shows_put_disj (f := cf k fCTX_W_STAT_cmd_ref) s 0 (.inl (show 12 + 4 ≤ 22 by decide))

theorem shows_put_aref (k : Nat) (s : State) {v : Nat} (hv : v < 16) :
    (s.put (cf k fCTX_W_STAT_aref) v).shows (cf k fCTX_W_STAT_aref) = v :=
  (shows_put s (cf k fCTX_W_STAT_aref) v (show 12 + 4 ≤ 32 by decide)).trans (Nat.mod_eq_of_lt hv)

theorem SameConf.loadWord (h : SameConf s t) (k : Nat) : loadWord t k = loadWord s k :=
  loadWord_congr (fun o _ => by rw [h.cw]) (fun g => by rw [h.get]) fun g => by rw [h.get]

/-- A register of a context's window is none that a load follows from. -/
theorem loadWord_putInst (s : State) (k a lo w v : Nat) : loadWord (s.put ⟨inst k a, lo, w⟩ v) k = loadWord s k := by
  refine loadWord_congr (fun o _ => cw_put _ _ _ _ _) (fun g => get_put_ne s v ?_) fun g => get_put_ne s v ?_
  all_goals
    unfold inst
    dsimp only [aTBG_PERIOD, aTBG_CFG]
    omega

theorem granted_cWrites (r : Req) (b : Block) (h : s.cTbg k = none) : (s.granted r b).cWrites k = false := by
  unfold State.cWrites
  rw [(SameConf.granted s r b).cTbg, h]
  exact Bool.and_false _

/-- ADMIT with all checks passed (R87). -/
theorem admit_passes {r : Req} (hg : s.grants r aCTX_W_CMD true = true) (st : (s.ctx (s.wsel r)).st = .off)
    (code : s.admitCode (s.wsel r) = 0) :
    Runs (.admitCtx r) s (fun u => (u.ctx (s.wsel r)).st = .admitted ∧ (u.ctx (s.wsel r)).stepNo = (s.ctx (s.wsel r)).stepNo ∧
      u.cw (s.wsel r) 0x10 = BitVec.ofNat 32 (s.cLoad s.plan (s.wsel r)) ∧ u.shows (cf (s.wsel r) fCTX_W_STAT_aref) = 0 ∧
      u.shows (cf (s.wsel r) fCTX_W_STAT_cmd_ref) = 0 ∧
      (s.cTbg (s.wsel r) = none → OnlyRegs [inst (s.wsel r) aCTX_W_STAT, aENG_ADM_SUM, aENG_STAT] s u)) := by
  refine runs_ctxCmd rfl hg ?_
  have same := SameConf.granted s r .eng
  have pass : (s.granted r .eng).admitCode (s.wsel r) = 0 := (congrFun (same.admitCode (granted_ctxs s r .eng)) _).trans code
  have put : OnlyRegs [inst (s.wsel r) aCTX_W_STAT, aENG_ADM_SUM, aENG_STAT] s
      ((s.granted r .eng).put (cf (s.wsel r) fCTX_W_STAT_aref) 0) :=
    onlyRegs_put (f := cf (s.wsel r) fCTX_W_STAT_aref) 0 (by simp) (onlyRegs_granted _ s r _)
  have was : ((s.granted r .eng).put (cf (s.wsel r) fCTX_W_STAT_aref) 0).ctx = s.ctx := (ctx_put _ _ _).trans (granted_ctx s r .eng)
  have group : ((s.granted r .eng).put (cf (s.wsel r) fCTX_W_STAT_aref) 0).cTbg (s.wsel r) = s.cTbg (s.wsel r) := by
    unfold State.cTbg
    rw [cw_put, same.cw]
  obtain ⟨⟨new, no, load, aref⟩, regs⟩ := admitCtx_admitted (wsel_lt s r)
    ((s.granted r .eng).put (cf (s.wsel r) fCTX_W_STAT_aref) 0)
  rw [ctxCmd_admit (by rw [granted_ctx]; exact st), pass, show ((0 : Nat) == 0) = true from rfl, judged_true]
  refine ⟨?_, ?_, ?_, ?_, shows_lower_cmdRef _ _, fun none => ?_⟩
  · rw [ctx_lower, new]
  · rw [ctx_lower, no, was]
  · rw [cw_lower, load, loadWord_putInst, same.loadWord]
    rfl
  · rw [shows_lower_aref, aref, shows_put_aref _ _ (by decide)]
  · exact onlyRegs_lower_cmdRef (OnlyRegs.trans put (OnlyRegs.mono (regs (group.trans none)) (List.subset_cons_self _ _))) (by simp)

/-- ADMIT with a failing check shows its code (R87). -/
theorem admit_fails {r : Req} (hg : s.grants r aCTX_W_CMD true = true) (st : (s.ctx (s.wsel r)).st = .off)
    (code : s.admitCode (s.wsel r) ≠ 0) :
    Runs (.admitCtx r) s (fun u => u.ctxs = s.ctxs ∧ u.mem = s.mem ∧
      u.shows (cf (s.wsel r) fCTX_W_STAT_aref) = s.admitCode (s.wsel r) ∧
      u.shows (cf (s.wsel r) fCTX_W_STAT_cmd_ref) = 1 ∧ OnlyRegs [inst (s.wsel r) aCTX_W_STAT, inst (s.wsel r) aCTX_W_IRQ_RAW] s u) := by
  refine runs_ctxCmd rfl hg ?_
  have same := SameConf.granted s r .eng
  have fails : (s.granted r .eng).admitCode (s.wsel r) = s.admitCode (s.wsel r) := congrFun (same.admitCode (granted_ctxs s r .eng)) _
  rw [ctxCmd_admit (by rw [granted_ctx]; exact st), fails, beq_false_of_ne code]
  obtain ⟨ctxs, mem, flag, -, aref, regs⟩ := refused_judged (s.wsel r) (admitCtx (s.wsel r))
    ((s.granted r .eng).put (cf (s.wsel r) fCTX_W_STAT_aref) (s.admitCode (s.wsel r)))
  have put : OnlyRegs [inst (s.wsel r) aCTX_W_STAT, inst (s.wsel r) aCTX_W_IRQ_RAW] (s.granted r .eng)
      ((s.granted r .eng).put (cf (s.wsel r) fCTX_W_STAT_aref) (s.admitCode (s.wsel r))) :=
    onlyRegs_put (f := cf (s.wsel r) fCTX_W_STAT_aref) _ (by simp) (OnlyRegs.refl _ _)
  exact ⟨(ctxs.trans (wr_ctxs _ _ _)).trans (granted_ctxs s r _), (mem.trans (wr_mem _ _ _)).trans (granted_mem s r _),
    aref.trans (shows_put_aref _ _ ((admitCode_lt s _).trans (by decide))), flag, OnlyRegs.of_granted (OnlyRegs.trans put regs)⟩

/-- START of an ADMITTED context (R73, R74). -/
theorem start_starts {r : Req} (hg : s.grants r aCTX_W_CMD true = true) (st : (s.ctx (s.wsel r)).st = .admitted)
    (may : s.mayStart (s.wsel r) = true) (cmt : (s.ctx (s.wsel r)).cmtGen = none)
    (src : Tab.find s.bnd (inst (s.wsel r) aCTX_W_SRC) = none) (setp : Tab.find s.bnd (inst (s.wsel r) aCTX_W_SETP) = none)
    (ilim : Tab.find s.bnd (inst (s.wsel r) aCTX_W_ILIM) = none) :
    Runs (.startCtx r) s (fun u => (u.ctx (s.wsel r)).inVal = [] ∧ (u.ctx (s.wsel r)).used = [] ∧
      (u.ctx (s.wsel r)).stepNo = (s.ctx (s.wsel r)).stepNo ∧ (s.cSrc (s.wsel r) = 2 → (u.ctx (s.wsel r)).st = .run) ∧
      (s.cSrc (s.wsel r) ≠ 2 → (u.ctx (s.wsel r)).st = .admitted ∧ (u.ctx (s.wsel r)).startPend = true) ∧
      u.shows (cf (s.wsel r) fCTX_W_STAT_cmd_ref) = 0 ∧ OnlyRegs [inst (s.wsel r) aCTX_W_STAT] s u) := by
  refine runs_ctxCmd rfl hg ?_
  have same := SameConf.granted s r .eng
  have ok : (s.granted r .eng).mayStart (s.wsel r) = true := (congrFun same.mayStart _).trans may
  have free : ∀ a o, (a, o) ∈ ctxHomes → Tab.find (s.granted r .eng).bnd (inst (s.wsel r) a) = none := by
    rw [granted_bnd]
    simp only [ctxHomes, List.mem_cons, List.not_mem_nil, or_false, Prod.mk.injEq]
    rintro a o (⟨rfl, -⟩ | ⟨rfl, -⟩ | ⟨rfl, -⟩)
    · exact src
    · exact setp
    · exact ilim
  have none : ((s.granted r .eng).ctx (s.wsel r)).cmtGen = none := by rw [granted_ctx]; exact cmt
  obtain ⟨rd, cSrc⟩ := applyInstant_kept none free
  have source : (applyInstant (s.wsel r) (s.granted r .eng)).cSrc (s.wsel r) = s.cSrc (s.wsel r) := cSrc.trans (congrFun same.cSrc _)
  have place := applyInstant_place (s.wsel r) (s.granted r .eng)
  rw [granted_ctx] at place
  simp only [placeOf, Prod.mk.injEq] at place
  obtain ⟨admitted, -, -, kept⟩ := place
  rw [st] at admitted
  obtain ⟨val, used, no, run, wait, regs⟩ := startCtxAt_ctx admitted
  rw [source] at run wait
  rw [ctxCmd_start (by rw [granted_ctx]; exact st), ok, judged_true]
  refine ⟨?_, ?_, ?_, ?_, ?_, shows_lower_cmdRef _ _, onlyRegs_lower_cmdRef (fun a ha => ?_) (List.mem_singleton_self _)⟩
  · rw [ctx_lower, val]
  · rw [ctx_lower, used]
  · rw [ctx_lower, no, kept]
  · rw [ctx_lower]; exact run
  · rw [ctx_lower]; exact wait
  · rw [regs a ha, rd, granted_rd]

/-- Settles O20, by the rules above, one for each command in its own state and one for a refusal. -/
theorem contextCommands : Obligations.ContextCommands := by
  unfold Obligations.ContextCommands
  have stat (k : Nat) : inst k aCTX_W_STAT ∈ [inst k aCTX_W_STAT] := List.mem_singleton_self _
  refine ⟨?admits, ?checks, ?elsewhere, ?start, ?noStart, ?stop, ?later, ?release, ?clear, ?noClear⟩
  case admits =>
    rintro r _ s hg rfl st code
    exact admit_passes hg st code
  case checks =>
    rintro r _ s hg rfl st code
    exact admit_fails hg st code
  case elsewhere =>
    rintro r _ s hg rfl st
    refine runs_ctxCmd rfl hg ?_
    rw [ctxCmd_admit_elsewhere (by rw [granted_ctx]; exact st)]
    obtain ⟨ctxs, mem, flag, irq, -, regs⟩ := (refused_judged (s.wsel r) id _).of_granted
    exact ⟨ctxs, mem, flag, irq, regs⟩
  case start =>
    rintro r _ s hg rfl st may cmt src setp ilim
    exact start_starts hg st may cmt src setp ilim
  case noStart =>
    rintro r _ s hg rfl st may
    refine runs_ctxCmd rfl hg ?_
    have no : (s.granted r .eng).mayStart (s.wsel r) = false := (congrFun (SameConf.granted s r .eng).mayStart _).trans may
    rw [ctxCmd_start (by rw [granted_ctx]; exact st), no]
    obtain ⟨ctxs, -, flag, -, -, regs⟩ := (refused_judged (s.wsel r) _ _).of_granted
    exact ⟨ctxs, flag, regs⟩
  case stop =>
    rintro r _ s hg rfl st group ph older
    refine runs_ctxCmd rfl hg ?_
    have sets := granted_cWrites r .eng group
    have out := stopCtxAt_ends (s := s.granted r .eng) (k := s.wsel r) (by rw [granted_ctx]; exact st) (by rw [granted_ctx]; exact ph)
      (by rw [granted_ctx]; exact older)
    rw [ctxCmd_stop (by rw [granted_ctx]; exact st), sets, Bool.false_and, Bool.not_false, judged_true]
    rw [ctx_lower]
    simp only [placeOf, Prod.mk.injEq] at out
    obtain ⟨left, idle, done, -⟩ := out
    exact ⟨left, idle, done, shows_lower_cmdRef _ _⟩
  case later =>
    rintro r _ s hg rfl st group ph
    refine runs_ctxCmd rfl hg ?_
    have sets := granted_cWrites r .eng group
    rw [ctxCmd_stop (by rw [granted_ctx]; exact st), sets, Bool.false_and, Bool.not_false, judged_true,
      stopCtxAt_waits (by rw [granted_ctx]; exact st) (by rw [granted_ctx]; exact ph), granted_ctx]
    exact ⟨by rw [ctx_lower, ctx_putCtx], onlyRegs_lower_cmdRef (onlyRegs_granted _ s r .eng) (stat _)⟩
  case release =>
    rintro r _ s hg rfl st
    refine runs_ctxCmd rfl hg ?_
    obtain ⟨new, regs⟩ := ctxRelease_ctx (s.wsel r) (s.granted r .eng)
    rw [granted_ctx] at new
    rw [ctxCmd_release (by rw [granted_ctx]; exact st), judged_true]
    exact ⟨by rw [ctx_lower, new], shows_lower_cmdRef _ _,
      onlyRegs_lower_cmdRef (OnlyRegs.mono (OnlyRegs.of_granted regs) (List.subset_cons_self _ _)) (by simp)⟩
  case clear =>
    rintro r _ s hg rfl st mg
    refine runs_ctxCmd rfl hg ?_
    have calm : (s.granted r .eng).mgUnsafe (s.wsel r) = false := (congrFun (SameConf.granted s r .eng).mgUnsafe _).trans mg
    rw [ctxCmd_clear (by rw [granted_ctx]; exact st), calm, Bool.not_false, judged_true, granted_ctx]
    exact ⟨by rw [ctx_lower, ctx_putCtx], (wr_mem _ _ _).trans (granted_mem s r _), shows_lower_cmdRef _ _,
      onlyRegs_lower_cmdRef (onlyRegs_granted _ s r .eng) (stat _)⟩
  case noClear =>
    rintro r _ s hg rfl st
    refine runs_ctxCmd rfl hg ?_
    rw [ctxCmd_clear_elsewhere (by rw [granted_ctx]; exact st)]
    obtain ⟨ctxs, mem, flag, irq, -, regs⟩ := (refused_judged (s.wsel r) id _).of_granted
    exact ⟨ctxs, mem, flag, regs⟩

end Sys2Proof.Proofs
end

section
/-! PROOFS. O23: a sample instant begins a step (03_basil_control_engine.md R74, R81, R82, R102). -/
namespace Sys2Proof.Proofs
open Sys2Proof Sys2Proof.Machine Sys2Proof.Laws

variable {k : Nat} {s t u : State}

/-- A context whose sample instant begins a step and nothing else: it runs, and nothing waits for the instant. -/
structure Begins (k : Nat) (s : State) : Prop where
  st : (s.ctx k).st = .run
  ph : (s.ctx k).ph = .idle
  startPend : (s.ctx k).startPend = false
  stopPend : (s.ctx k).stopPend = false
  iteg : (s.ctx k).itegPend = none
  cmt : (s.ctx k).cmtGen = none
  bnd : s.bnd = []
  loc : (s.cw k 0xC0).fld 12 2 ≠ 1

theorem applyInstant_none (cmt : (s.ctx k).cmtGen = none) (iteg : (s.ctx k).itegPend = none) (bnd : s.bnd = []) : applyInstant k s = s := by
  have free : ∀ a o, (a, o) ∈ ctxHomes → Tab.find s.bnd (inst k a) = none := fun a _ _ => by rw [bnd]; rfl
  unfold applyInstant
  rw [applyCtxBnd_none free, applyParams_none cmt]
  dsimp only
  rw [iteg]

theorem settleStep_idle (h : (s.ctx k).ph = .idle) : settleStep k s = s := by
  unfold settleStep
  dsimp only
  rw [h]

/-- A set-point of the context's own (R102). -/
theorem setpoint_own (tm : Nat) (h : (s.cw k 0xC0).fld 12 2 ≠ 1) :
    s.setpoint k tm = some (s.cw k 0xC4, { s.ctx k with rampAt := none }) := if_pos h

theorem instantAt_begins {tm : Nat} {sp : Word} {d : Ctx} (h : Begins k s) (hsp : s.setpoint k tm = some (sp, d)) :
    instantAt k tm s = beginStep k tm sp (s.putCtx k d) := by
  have goes : ¬(decide ((s.ctx k).st ≠ .run) || (s.ctx k).stopPend) = true := by simp [h.st, h.stopPend]
  have starts : ¬(s.ctx k).startPend = true := by simp [h.startPend]
  unfold instantAt
  dsimp only
  rw [settleStep_idle h.ph, stopDue_none (.inl h.stopPend), if_neg starts, applyInstant_none h.cmt h.iteg h.bnd, if_neg goes, hsp]

theorem begun_ph (s : State) (k tm : Nat) (sp : Word) : (s.begun k tm sp).ph = .waiting := rfl
theorem begun_tS (s : State) (k tm : Nat) (sp : Word) : (s.begun k tm sp).tS = tm := rfl
theorem begun_stepNo (s : State) (k tm : Nat) (sp : Word) : (s.begun k tm sp).stepNo = ((s.ctx k).stepNo + 1) % 2 ^ 32 := rfl
theorem begun_setp (s : State) (k tm : Nat) (sp : Word) : (s.begun k tm sp).setp = sp := rfl
theorem begun_lastTrig (s : State) (k tm : Nat) (sp : Word) : (s.begun k tm sp).lastTrig = (s.ctx k).lastTrig := rfl
theorem begun_nextAt (s : State) (k tm : Nat) (sp : Word) : (s.begun k tm sp).nextAt = tm + 32 * s.cTimer k := rfl

/-- The step that an instant at `tm` begins. -/
structure StepBegun (k tm : Nat) (s u : State) : Prop where
  ph : (u.ctx k).ph = .waiting
  tS : (u.ctx k).tS = tm
  stepNo : (u.ctx k).stepNo = ((s.ctx k).stepNo + 1) % 2 ^ 32
  setp : (u.ctx k).setp = s.cw k 0xC4
  lastTrig : (u.ctx k).lastTrig = (s.ctx k).lastTrig
  nextAt : (u.ctx k).nextAt = tm + 32 * s.cTimer k
  mem : u.mem = s.mem
  now : u.now = s.now

theorem stepBegun_instantAt (tm : Nat) (h : Begins k s) : StepBegun k tm s (instantAt k tm s) := by
  obtain ⟨d, hd⟩ : ∃ d, d = { s.ctx k with rampAt := none } := ⟨_, rfl⟩
  have own : s.setpoint k tm = some (s.cw k 0xC4, d) := hd ▸ setpoint_own tm h.loc
  have kept : (s.putCtx k d).ctx k = d := ctx_putCtx s k d
  have conf : SameConf s (s.putCtx k d) := ⟨rfl, rfl, rfl⟩
  obtain ⟨b, hb⟩ : ∃ b, b = (s.putCtx k d).begun k tm (s.cw k 0xC4) := ⟨_, rfl⟩
  have new : (instantAt k tm s).ctx k = b := by
    rw [instantAt_begins h own, hb]
    exact ctx_putCtx _ k _
  have rest : ∃ c, instantAt k tm s = s.setCtxs c := by
    rw [instantAt_begins h own]
    exact ⟨_, rfl⟩
  obtain ⟨c, hc⟩ := rest
  exact {
    ph := by rw [new, hb, begun_ph]
    tS := by rw [new, hb, begun_tS]
    stepNo := by rw [new, hb, begun_stepNo, kept, hd]
    setp := by rw [new, hb, begun_setp]
    lastTrig := by rw [new, hb, begun_lastTrig, kept, hd]
    nextAt := by rw [new, hb, begun_nextAt, conf.cTimer]
    mem := by rw [hc, setCtxs_mem]
    now := by rw [hc, setCtxs_now] }

/-- The records of GIU and FBI for a step leave contexts, memory and time as they are. -/
theorem StepBegun.records {tm : Nat} (h : StepBegun k tm s u) (j x : Nat) : StepBegun k tm s (instantRecords j x u) := by
  obtain ⟨-, -, -, same⟩ := touch_instantRecords (Sub.refl _) j x u (Touch.rfl' _ u)
  have ctx := ctx_of_ctxs (same .ctxs rfl)
  obtain ⟨ph, tS, stepNo, setp, lastTrig, nextAt, mem, now⟩ := h
  exact ⟨by rw [ctx, ph], by rw [ctx, tS], by rw [ctx, stepNo], by rw [ctx, setp], by rw [ctx, lastTrig], by rw [ctx, nextAt],
    Eq.trans (same .mem rfl) mem, Eq.trans (same .now rfl) now⟩

theorem StepBegun.lower {tm : Nat} (h : StepBegun k tm s u) (f : Fld) : StepBegun k tm s (u.lower f) := by
  have ctx := ctx_lower u f
  obtain ⟨ph, tS, stepNo, setp, lastTrig, nextAt, mem, now⟩ := h
  exact ⟨by rw [ctx, ph], by rw [ctx, tS], by rw [ctx, stepNo], by rw [ctx, setp], by rw [ctx, lastTrig], by rw [ctx, nextAt],
    (wr_mem _ _ _).trans mem, (wr_now _ _ _).trans now⟩

/-! TRIG (R73, R81). -/

theorem ctxCmd_trig (h : (s.ctx k).st = .run) : ctxCmd k 6 s =
    judged k (s.mayTrig k) (fun t => instantAt k t.now (t.putCtx k { s.ctx k with lastTrig := some t.now })) s := by
  obtain ⟨v, hv⟩ : ∃ v, s.mayTrig k = v := ⟨_, rfl⟩
  unfold ctxCmd
  rw [hv]
  generalize s.ctx k = c at h
  cases c
  cases h
  rfl

theorem ctxCmd_trig_elsewhere (h : (s.ctx k).st ≠ .run) : ctxCmd k 6 s = judged k false id s := by
  unfold ctxCmd
  generalize s.ctx k = c at h
  obtain ⟨st⟩ := c
  cases st with
  | run => exact absurd rfl h
  | off | admitted | halt => rfl

theorem SameConf.mayTrig (h : SameConf s t) (hc : t.ctxs = s.ctxs) (hn : t.now = s.now) : t.mayTrig = s.mayTrig := by
  delta State.mayTrig
  rw [ctx_of_ctxs hc, hn, h.cTimer, h.cSrc]

/-- A write of CTX_W_CMD with TRIG that is granted. -/
theorem runs_trig {r : Req} {P : State → Prop} (h : s.grants r aCTX_W_CMD true = true) (p : P (trigCtx (s.wsel r) (s.granted r .eng))) :
    Runs (.trig r) s P := by
  refine ⟨access r aCTX_W_CMD true (fun s => trigCtx (s.wsel r) s) s, rfl, ?_⟩
  rw [access_of_grants_at h rfl]
  have sel : (s.granted r .eng).wsel r = s.wsel r := by
    unfold State.wsel
    rw [granted_rd]
  rw [sel]
  exact p

/-- Where no step begins, no records are sent. -/
theorem instantRecords_none {tm : Nat} (h : ¬((s.ctx k).tS = tm ∧ (s.ctx k).ph = .waiting)) : instantRecords k tm s = s := by
  refine if_neg fun e => h ?_
  simp only [Bool.and_eq_true, decide_eq_true_eq] at e
  exact ⟨e.2, e.1.2⟩

end Sys2Proof.Proofs
end

section
/-! PROOFS. O23: TRIG and SAMPLE_INSTANT (03_basil_control_engine.md R73, R81, R102). -/
namespace Sys2Proof.Proofs
open Sys2Proof Sys2Proof.Machine Sys2Proof.Laws

variable {k : Nat} {s t u : State}

/-- A TRIG that is accepted begins a step now. -/
theorem trigCtx_begins (h : Begins k s) (may : s.mayTrig k = true) :
    ∃ x, x = s.putCtx k { s.ctx k with lastTrig := some s.now } ∧ StepBegun k s.now x (trigCtx k s) := by
  refine ⟨_, rfl, ?_⟩
  have ctx := ctx_putCtx s k { s.ctx k with lastTrig := some s.now }
  have conf : SameConf s (s.putCtx k { s.ctx k with lastTrig := some s.now }) := ⟨rfl, rfl, rfl⟩
  have begins : Begins k (s.putCtx k { s.ctx k with lastTrig := some s.now }) := by
    obtain ⟨st, ph, startPend, stopPend, iteg, cmt, bnd, loc⟩ := h
    exact ⟨by rw [ctx, st], by rw [ctx, ph], by rw [ctx, startPend], by rw [ctx, stopPend], by rw [ctx, iteg], by rw [ctx, cmt], bnd,
      by rw [conf.cw]; exact loc⟩
  have begun := (stepBegun_instantAt s.now begins).lower (cf k fCTX_W_STAT_cmd_ref)
  unfold trigCtx
  dsimp only
  rw [ctxCmd_trig h.st, may, judged_true]
  split
  · exact begun
  · exact begun.records k s.now

/-- A TRIG in another state, or too early, is refused. -/
theorem trigCtx_refused (h : (s.ctx k).st ≠ .run ∨ s.mayTrig k = false) : Refused k s (trigCtx k s) := by
  have refused : Refused k s (ctxCmd k 6 s) := by
    by_cases st : (s.ctx k).st = .run
    · rw [ctxCmd_trig st, h.resolve_left (not_not.mpr st)]
      exact refused_judged k _ s
    · rw [ctxCmd_trig_elsewhere st]
      exact refused_judged k id s
  unfold trigCtx
  dsimp only
  split
  next => exact refused
  next had =>
    rw [instantRecords_none]
    · exact refused
    · rw [ctx_of_ctxs refused.ctxs]
      simpa using had

/-- An instant of a context of source TIMER (R81). -/
theorem nextInstant_timer (h : s.cSrc k = 1) : s.nextInstant k = some (s.ctx k).nextAt := if_pos h

theorem execSampleInstant_timer {k : Fin 128} (st : (s.ctx k.val).st = .run) (src : s.cSrc k.val = 1) :
    execSampleInstant k s = done (instantRecords k.val (s.reach (s.ctx k.val).nextAt).now
      (instantAt k.val (s.reach (s.ctx k.val).nextAt).now (s.reach (s.ctx k.val).nextAt))) := by
  have runs : (decide ((s.ctx k.val).st = .run) || (s.ctx k.val).startPend) = true := by simp [st]
  refine congrArg done ((if_pos runs).trans ?_)
  rw [nextInstant_timer src]

end Sys2Proof.Proofs
end

section
/-! PROOFS. O23: what an overrun leaves (03_basil_control_engine.md R84, R112). -/
namespace Sys2Proof.Proofs
open Sys2Proof Sys2Proof.Machine Sys2Proof.Laws

variable {k : Nat} {s t u : State}

theorem freeLanes_same (k : Nat) (s : State) :
    (freeLanes k s).ctxs = s.ctxs ∧ (freeLanes k s).mem = s.mem ∧ (freeLanes k s).sage = s.sage ∧ (freeLanes k s).tmr = s.tmr ∧
    ∀ a, pageOf a = 5 → (freeLanes k s).rd a = s.rd a := by
  obtain ⟨-, -, -, same⟩ := touch_freeLanes (Sub.refl _) k s (Touch.rfl' _ s)
  exact ⟨same .ctxs rfl, same .mem rfl, same .sage rfl, same .tmr rfl, same (.regs 5) rfl⟩

/-! The count (R84, R112). -/

/-- The trace ring lies past the areas of the contexts (R75, R108). -/
theorem traceEntry_cw (hk : k < 128) (j cause : Nat) (step : Word) (tm cyc : Nat) (outs : List Word) (s : State) {o : Nat}
    (ho : o + 4 ≤ 0x800) :
    (traceEntry j cause step tm cyc outs s).cw k o = s.cw k o := by
  have words (ws : List Word) (i : Nat) (y : State) : (y.memPutWords (0x30060000 + 32 * i) ws).cw k o = y.cw k o :=
    each_keeps (P := fun z => z.cw k o = y.cw k o)
      (fun w _ z hz => (mem32_memPut_ne z w.1 (.inl (by unfold cArea; omega))).trans hz) rfl
  unfold traceEntry
  dsimp only
  split
  · rfl
  · rw [cw_put, words]

/-- An overrun is counted: ENG_OVR_CNT, the flag, and the event 31 at Sage. -/
structure Counted (k : Nat) (s u : State) : Prop where
  count : u.shows fENG_OVR_CNT_cnt = min (s.get fENG_OVR_CNT_cnt + 1) (2 ^ 32 - 1)
  raised : u.shows fENG_IRQ_RAW_ovr = 1
  told : u.sage.inbox = s.sage.inbox ++ [⟨31, nCtx k, false⟩]
  ctxs : u.ctxs = s.ctxs

/-- The overrun as it is counted, before the trace. -/
def countedOverrun (k : Nat) (s : State) : State :=
  (((ctxIrq k 3 (cntEvt k 0 s)).incrSat fENG_OVR_CNT_cnt).raise fENG_IRQ_RAW_ovr).sageEvt 31 (nCtx k)

theorem countOverrun_eq (k used : Nat) (s : State) : countOverrun k used s =
    traceEntry k 2 (BitVec.ofNat 32 (s.ctx k).stepNo) (s.ctx k).tS used (s.ctx k).outs (countedOverrun k s) := rfl

theorem sageEvt_shows (s : State) (e : Nat) (n : SageName) (f : Fld) : (s.sageEvt e n).shows f = s.shows f := rfl
theorem sageEvt_inbox (s : State) (e : Nat) (n : SageName) : (s.sageEvt e n).sage.inbox = s.sage.inbox ++ [⟨e, n, false⟩] := rfl
theorem sageEvt_ctxs (s : State) (e : Nat) (n : SageName) : (s.sageEvt e n).ctxs = s.ctxs := rfl
theorem putCw_sage (s : State) (k o : Nat) (v : Word) : (s.putCw k o v).sage = s.sage := rfl

theorem countedOverrun_counts (k : Nat) (s : State) : Counted k s (countedOverrun k s) := by
  obtain ⟨y, hy⟩ : ∃ y, y = ctxIrq k 3 (cntEvt k 0 s) := ⟨_, rfl⟩
  have before : y.get fENG_OVR_CNT_cnt = s.get fENG_OVR_CNT_cnt := by
    rw [hy]
    refine (get_put_ne (f := ⟨inst k aCTX_W_IRQ_RAW, 3, 1⟩) _ 1 ?_).trans (get_setMem _ _ _)
    unfold inst
    dsimp only [aENG_OVR_CNT, aCTX_W_IRQ_RAW]
    omega
  have sage : y.sage = s.sage := by
    rw [hy]
    exact (put_sage _ _ _).trans (putCw_sage _ _ _ _)
  have ctxs : y.ctxs = s.ctxs := by
    rw [hy]
    exact (wr_ctxs _ _ _).trans (setMem_ctxs _ _)
  unfold countedOverrun
  rw [← hy]
  exact {
    count := by
      rw [sageEvt_shows, ← before]
      exact (shows_put_ne (f := fENG_IRQ_RAW_ovr) _ 1 (by decide)).trans (shows_incrSat32 y aENG_OVR_CNT)
    raised := by
      rw [sageEvt_shows]
      exact shows_put_bit _ fENG_IRQ_RAW_ovr (by decide) (by decide) rfl
    told := by
      rw [sageEvt_inbox, ← sage]
      rfl
    ctxs := (sageEvt_ctxs _ _ _).trans ((wr_ctxs _ _ _).trans ((wr_ctxs _ _ _).trans ctxs)) }

theorem countOverrun_counts (k used : Nat) (s : State) : Counted k s (countOverrun k used s) := by
  obtain ⟨count, raised, told, ctxs⟩ := countedOverrun_counts k s
  rw [countOverrun_eq]
  have stands := (EngStands.refl (countedOverrun k s)).traceEntry k 2 (BitVec.ofNat 32 (s.ctx k).stepNo) (s.ctx k).tS used (s.ctx k).outs
  obtain ⟨-, -, -, same⟩ := touch_traceEntry (Sub.refl _) k 2 (BitVec.ofNat 32 (s.ctx k).stepNo) (s.ctx k).tS used (s.ctx k).outs
    (countedOverrun k s) (Touch.rfl' _ _)
  have shown : ∀ {y z : State}, z.rd aENG_OVR_CNT = y.rd aENG_OVR_CNT → z.shows fENG_OVR_CNT_cnt = y.shows fENG_OVR_CNT_cnt :=
    fun h => by unfold State.shows; rw [h]
  exact ⟨(shown stands.count).trans count, stands.raised raised, (congrArg (fun x => x.inbox) (same .sage rfl)).trans told,
    Eq.trans (same .ctxs rfl) ctxs⟩

end Sys2Proof.Proofs
end

section
/-! PROOFS. O23: an overrun below the limit, and the instant that finds one (03_basil_control_engine.md R74, R84). -/
namespace Sys2Proof.Proofs
open Sys2Proof Sys2Proof.Machine Sys2Proof.Laws

variable {k : Nat} {x s t u : State}

/-- The context after an overrun: its step ends without a result. -/
def overran (c : Ctx) : Ctx := { c with ph := .idle, ovrRun := c.ovrRun + 1, preds := [], cons := [], wk := c.w, retry := none }

/-- A step that overran, below the limit (R84). -/
structure Overran (k : Nat) (s u : State) : Prop where
  ctx : u.ctx k = overran (s.ctx k)
  count : u.shows fENG_OVR_CNT_cnt = min (s.get fENG_OVR_CNT_cnt + 1) (2 ^ 32 - 1)
  raised : u.shows fENG_IRQ_RAW_ovr = 1
  told : u.sage.inbox = s.sage.inbox ++ [⟨31, nCtx k, false⟩]

theorem sageEvt_mem (s : State) (e : Nat) (n : SageName) : (s.sageEvt e n).mem = s.mem := rfl

theorem countedOverrun_cw (k : Nat) {o : Nat} (ho : o + 4 ≤ 0x7C4) : (countedOverrun k s).cw k o = s.cw k o := by
  have shown (y : State) : (((y.incrSat fENG_OVR_CNT_cnt).raise fENG_IRQ_RAW_ovr).sageEvt 31 (nCtx k)).cw k o = y.cw k o := by
    unfold State.cw State.mem32
    rw [sageEvt_mem]
    rfl
  exact (shown _).trans ((cw_put _ _ _ _ _).trans (cw_putCw_ne s k _ (.inl ho)))

/-- Below the limit an overrun is counted, and the context goes on. -/
theorem overrun_below (hk : k < 128) (stop : (s.ctx k).stopPend = false) (lim : (s.ctx k).ovrRun + 1 < s.cOvrLim k) :
    Overran k s (overrun k s) := by
  obtain ⟨ctxs, mem, sage, tmr, regs⟩ := freeLanes_same k s
  have free : (freeLanes k s).ctx k = s.ctx k := congrFun (ctx_of_ctxs ctxs) k
  obtain ⟨y, hy⟩ : ∃ y, y = (freeLanes k s).putCtx k (overran (s.ctx k)) := ⟨_, rfl⟩
  have cy : y.ctx k = overran (s.ctx k) := by rw [hy, ctx_putCtx]
  have gy : y.get fENG_OVR_CNT_cnt = s.get fENG_OVR_CNT_cnt := by
    rw [hy]
    exact (get_setCtxs _ _ _).trans (get_of_rd (regs aENG_OVR_CNT rfl) tmr)
  have sy : y.sage = s.sage := by
    rw [hy]
    exact (setCtxs_sage _ _).trans sage
  have wy : y.cw k 8 = s.cw k 8 := by
    have my : y.mem = s.mem := by
      rw [hy]
      exact (setCtxs_mem _ _).trans mem
    unfold State.cw State.mem32
    rw [my]
  obtain ⟨z, hz⟩ : ∃ z, z = countOverrun k (s.laneUsed k) y := ⟨_, rfl⟩
  have counted : Counted k y z := hz ▸ countOverrun_counts k _ y
  have cz : z.ctx k = overran (s.ctx k) := (congrFun (ctx_of_ctxs counted.ctxs) k).trans cy
  have wz : z.cw k 8 = s.cw k 8 := by
    rw [hz, countOverrun_eq, traceEntry_cw hk _ _ _ _ _ _ _ (by decide), countedOverrun_cw _ (by decide), wy]
  have ends : overrun k s = z := by
    have below : ¬(max 1 ((z.cw k 8).fld 20 4) ≤ (s.ctx k).ovrRun + 1) := by
      rw [wz]
      exact Nat.not_le.mpr lim
    have stays : stopDue k z = z := stopDue_none (.inl (by rw [cz]; exact stop))
    have shape : overrun k s = if max 1 ((z.cw k 8).fld 20 4) ≤ ((freeLanes k s).ctx k).ovrRun + 1 then haltCtx k 1 z
        else stopDue k z := by
      rw [hz, hy, ← free]
      rfl
    rw [shape, free, if_neg below, stays]
  obtain ⟨count, raised, told, -⟩ := counted
  rw [ends]
  exact ⟨cz, by rw [count, gy], raised, by rw [told, sy]⟩

end Sys2Proof.Proofs
end

section
/-! PROOFS. O23: the instant that finds an overrun, and the latest start of a released step (03_basil_control_engine.md R74, R84, R97). -/
namespace Sys2Proof.Proofs
open Sys2Proof Sys2Proof.Machine Sys2Proof.Laws

variable {k : Nat} {x s t u : State}

theorem EngStands.enterRun (h : EngStands x s) (k : Nat) : EngStands x (enterRun k s) :=
  h.touch (touch_enterRun (Sub.refl _) k _) rfl

theorem EngStands.ctxWrErr (h : EngStands x s) : EngStands x (ctxWrErr s) :=
  .ite h ((h.wr_ne (a := 0x4005001C) (by decide) _).irq 0)

theorem EngStands.putParam (h : EngStands x s) (k o : Nat) (v : Word) : EngStands x (putParam k o v s) :=
  .ite h.ctxWrErr (.ite h.ctxWrErr (.ite h (h.touch (touch_putCw (Sub.refl _) _ _ _ _) rfl)))

theorem EngStands.applyParams (h : EngStands x s) (k : Nat) : EngStands x (applyParams k s) := by
  unfold Machine.applyParams
  dsimp only
  split
  next => exact h
  next g _ =>
    refine .irq (.putInst (.touch (.each (h.putCtx k _) fun w y hy => hy.putParam k w.1 w.2) (touch_lockWord (Sub.refl _) k _) rfl)
      k aCTX_W_PGEN rfl g) 1

/-- What an instant makes effective leaves the count, the flag and the events (R109). -/
theorem EngStands.applyInstant (h : EngStands x s) (k : Nat) : EngStands x (applyInstant k s) := by
  have params := (h.touch (touch_applyCtxBnd (Sub.refl _) k _) rfl).applyParams k
  unfold Machine.applyInstant
  dsimp only
  split
  next => exact (params.putCtx k _).touch (touch_setInteg (Sub.refl _) k _ _ _) rfl
  next => exact params

theorem EngStands.beginStep (h : EngStands x s) (k tm : Nat) (sp : Word) : EngStands x (beginStep k tm sp s) := h.putCtx k _

theorem EngStands.instantRecords (h : EngStands x s) (k tm : Nat) : EngStands x (instantRecords k tm s) :=
  h.touch (touch_instantRecords (Sub.refl _) k tm _) rfl

/-- The rest of a sample instant, after the previous step is settled, takes back no count, no flag and no event. -/
theorem engStands_instantAt (k tm : Nat) (s : State) : EngStands (settleStep k s) (instantAt k tm s) := by
  have applied := (((EngStands.refl (settleStep k s)).stopDue k).maybe (c := ((stopDue k (settleStep k s)).ctx k).startPend = true)
    (·.enterRun k)).applyInstant k
  unfold instantAt
  refine .ite applied ?_
  split
  next => exact applied.haltCtx k 8
  next => exact (applied.putCtx k _).beginStep k tm _

/-- A step that has not completed at the next instant is an overrun (R84). -/
theorem settleStep_overrun (h : (s.ctx k).ph = .waiting ∨ (s.ctx k).ph = .released ∨ (s.ctx k).ph = .running) :
    settleStep k s = overrun k s := by
  obtain ⟨v, hv⟩ : ∃ v, overrun k s = v := ⟨_, rfl⟩
  unfold settleStep
  rw [hv]
  generalize s.ctx k = c at h
  cases c
  obtain h | h | h := h
  all_goals
    cases h
    rfl

/-- A released step that has not started by its latest start is an overrun (R84). -/
theorem latestStart_overrun (ph : (s.ctx k).ph = .released) (retry : (s.ctx k).retry = none) :
    latestStart k s = overrun k (s.reach (s.ctx k).latest) := by
  obtain ⟨f, hf⟩ : ∃ f, overrun k = f := ⟨_, rfl⟩
  unfold latestStart
  rw [hf]
  generalize s.ctx k = c at ph retry
  cases c
  cases ph
  cases retry
  rfl

end Sys2Proof.Proofs
end

section
/-! PROOFS. O23: an item reaches the inputs that bind its source (03_basil_control_engine.md R77, R83). -/
namespace Sys2Proof.Proofs
open Sys2Proof Sys2Proof.Machine Sys2Proof.Laws

variable {k j : Nat} {s t u : State}

theorem hasBit_eq_testBit (m i : Nat) : hasBit m i = m.testBit i := by
  unfold hasBit
  rw [Nat.testBit_eq_decide_div_mod_eq]
  rfl

theorem hasBit_or_same (m i : Nat) : hasBit (m ||| 2 ^ i) i = true := by
  rw [hasBit_eq_testBit, Nat.testBit_or, Nat.testBit_two_pow_self, Bool.or_true]

theorem hasBit_or (m n : Nat) {i : Nat} (h : hasBit m i = true) : hasBit (m ||| n) i = true := by
  rw [hasBit_eq_testBit] at h ⊢
  rw [Nat.testBit_or, h, Bool.true_or]

theorem ctx_putCtx_ne (s : State) {i k : Nat} (c : Ctx) (h : k ≠ i) : (s.putCtx k c).ctx i = s.ctx i := get_set_ne _ _ _ h

/-- Only contexts changed, and none its sample instant. -/
structure Inputs (s t : State) : Prop where
  only : ∃ c, t = s.setCtxs c
  tS : ∀ i, (t.ctx i).tS = (s.ctx i).tS

theorem Inputs.refl (s : State) : Inputs s s := ⟨⟨s.ctxs, rfl⟩, fun _ => rfl⟩

theorem Inputs.conf (h : Inputs s t) : SameConf s t := by
  obtain ⟨c, hc⟩ := h.only
  exact ⟨by rw [hc, setCtxs_mem], by rw [hc]; rfl, by rw [hc, setCtxs_tmr]⟩

theorem Inputs.putCtx {c : Ctx} (h : Inputs s t) (hc : c.tS = (t.ctx k).tS) : Inputs s (t.putCtx k c) := by
  obtain ⟨⟨d, rfl⟩, tS⟩ := h
  refine ⟨⟨_, rfl⟩, fun i => ?_⟩
  by_cases hi : k = i
  · subst hi
    rw [ctx_putCtx, hc, tS]
  · rw [ctx_putCtx_ne _ c hi, tS]

theorem Inputs.putInput (h : Inputs s t) (k j : Nat) (v : Word) (pred : Bool) (w : Attr) : Inputs s (putInput k j v pred w t) := by
  unfold Machine.putInput
  dsimp only
  split
  · exact h.putCtx rfl
  · exact h.putCtx rfl

theorem forNext_congr (conf : SameConf s t) (tS : (t.ctx k).tS = (s.ctx k).tS) (now : t.now = s.now) : t.forNext k j = s.forNext k j := by
  unfold State.forNext
  rw [conf.cPeriod, conf.cKid, conf.cLegs, now]
  dsimp only
  rw [tS]

theorem Inputs.forNext (h : Inputs s t) (k j : Nat) : t.forNext k j = s.forNext k j := by
  have now : t.now = s.now := by
    obtain ⟨c, hc⟩ := h.only
    rw [hc, setCtxs_now]
  exact forNext_congr h.conf (h.tS k) now

/-- An input of a context holds a value of its sample instant. -/
def Holds (k j : Nat) (v : Word) (s : State) : Prop := Tab.find (s.ctx k).inVal j = some v ∧ hasBit (s.ctx k).fresh j = true

/-- A value for the present instant enters. -/
theorem putInput_holds {v : Word} {pred : Bool} (h : s.forNext k j = false) : Holds k j v (putInput k j v pred .operand s) := by
  have now : ¬s.forLater k j .operand = true := fun e => Bool.false_ne_true (h.symm.trans e)
  unfold putInput
  dsimp only
  rw [if_neg now]
  unfold Holds
  rw [ctx_putCtx]
  exact ⟨find_ins_same _ _ _, hasBit_or_same _ _⟩

/-- A value that enters another input, or the same value again, leaves it. -/
theorem Holds.putInput {v x : Word} (h : Holds k j v s) {i l : Nat} (pred : Bool) (w : Attr) (hx : i = k → l = j → x = v) :
    Holds k j v (putInput i l x pred w s) := by
  obtain ⟨val, fresh⟩ := h
  by_cases hi : i = k
  · subst hi
    unfold Machine.putInput
    dsimp only
    split
    · unfold Holds
      rw [ctx_putCtx]
      exact ⟨val, fresh⟩
    · unfold Holds
      rw [ctx_putCtx]
      refine ⟨?_, hasBit_or _ _ fresh⟩
      by_cases hl : l = j
      · subst hl
        rw [hx rfl rfl]
        exact find_ins_same _ _ _
      · exact (find_ins_ne _ _ hl).trans val
  · unfold Machine.putInput
    dsimp only
    split
    · unfold Holds
      rw [ctx_putCtx_ne _ _ hi]
      exact ⟨val, fresh⟩
    · unfold Holds
      rw [ctx_putCtx_ne _ _ hi]
      exact ⟨val, fresh⟩

end Sys2Proof.Proofs
end

section
/-! PROOFS. O23: BASIL_INPUT (03_basil_control_engine.md R77, R83). -/
namespace Sys2Proof.Proofs
open Sys2Proof Sys2Proof.Machine Sys2Proof.Laws

variable {k j : Nat} {s t u : State}

/-- An item for the slots of a context enters the bound one. -/
def slotInput (ty sel : Nat) (raw : Word) (pred : Bool) (k j : Nat) (s : State) : State :=
  putInput k j (slotVal ty sel raw (s.cw k (0x44 + 8 * j))) pred .operand s

/-- A leg's measurement enters the inputs of its own leg. -/
def legInput (sel : Nat) (raw : Word) (pred : Bool) (k : Nat) (p : Nat × Nat) (s : State) : State :=
  if sel / 4 = 0 then putInput k (16 + p.2) (BitVec.ofInt 32 (sext 16 raw.toNat)) pred .operand s
  else if sel / 4 = 1 then putInput k (32 + p.2) (BitVec.ofNat 32 (raw.toNat % 65536)) pred .operand s
  else s

/-- The slots of a context that bind the source of an item. -/
def boundSlots (ty inst sel k : Nat) (s : State) : List Nat :=
  (List.range 16).filter (fun j => s.slotType k j == ty && s.slotInst k j == inst && selOf ty (s.slotSel k j) == sel)

/-- An item at one context. -/
def ctxInput (ty inst sel : Nat) (raw : Word) (pred : Bool) (k : Nat) (s : State) : State :=
  if ty = 1 && readsLegs ((s.each (boundSlots ty inst sel k s) (slotInput ty sel raw pred k)).cKid k) then
    (s.each (boundSlots ty inst sel k s) (slotInput ty sel raw pred k)).each
      (((s.each (boundSlots ty inst sel k s) (slotInput ty sel raw pred k)).cLegs k).zipIdx.filter (fun (n, _) => n == 4 * inst + sel % 4))
      (legInput sel raw pred k)
  else s.each (boundSlots ty inst sel k s) (slotInput ty sel raw pred k)

theorem arrive_eq (ty inst sel : Nat) (raw : Word) (pred : Bool) : arrive ty inst sel raw pred none .operand = fun s =>
    s.each ((allCtx.filter (fun k => (s.ctx k).st == .run)).filter (fun k => (none : Option Nat).isNone || none == some k))
      (ctxInput ty inst (selOf ty sel) raw pred) := by
  delta arrive
  rfl

variable {ty inst sel : Nat} {raw : Word} {pred : Bool}

theorem Inputs.slots (h : Inputs s t) (l : List Nat) : Inputs s (t.each l (slotInput ty sel raw pred k)) :=
  each_keeps (fun j _ _ hy => hy.putInput k j _ pred .operand) h

theorem Inputs.leg (h : Inputs s t) (p : Nat × Nat) : Inputs s (legInput sel raw pred k p t) := by
  unfold legInput
  split
  · exact h.putInput k _ _ pred .operand
  · split
    · exact h.putInput k _ _ pred .operand
    · exact h

theorem Inputs.ctxInput (h : Inputs s t) (k : Nat) : Inputs s (ctxInput ty inst sel raw pred k t) := by
  unfold Proofs.ctxInput
  split
  · exact each_keeps (fun p _ _ hy => hy.leg p) (h.slots _)
  · exact h.slots _

/-- The value the item gives the slot. -/
def itemVal (ty sel : Nat) (raw : Word) (k j : Nat) (s : State) : Word := slotVal ty sel raw (s.cw k (0x44 + 8 * j))

theorem Holds.slot (hi : Inputs s t) (h : Holds k j (itemVal ty sel raw k j s) t) (i l : Nat) :
    Holds k j (itemVal ty sel raw k j s) (slotInput ty sel raw pred i l t) := by
  refine h.putInput pred .operand ?_
  rintro rfl rfl
  unfold itemVal
  rw [hi.conf.cw]

/-- Keys of leg measurements are no slots. -/
theorem Holds.leg {v : Word} (hj : j < 16) (h : Holds k j v t) (i : Nat) (p : Nat × Nat) : Holds k j v (legInput sel raw pred i p t) := by
  unfold legInput
  split
  · exact h.putInput pred .operand fun _ e => by omega
  · split
    · exact h.putInput pred .operand fun _ e => by omega
    · exact h

theorem Holds.slots (hi : Inputs s t) (h : Holds k j (itemVal ty sel raw k j s) t) (i : Nat) (l : List Nat) :
    Holds k j (itemVal ty sel raw k j s) (t.each l (slotInput ty sel raw pred i)) := by
  have both : Inputs s (t.each l (slotInput ty sel raw pred i)) ∧
      Holds k j (itemVal ty sel raw k j s) (t.each l (slotInput ty sel raw pred i)) :=
    each_keeps (P := fun y => Inputs s y ∧ Holds k j (itemVal ty sel raw k j s) y)
      (fun a _ y hy => ⟨hy.1.putInput i a _ pred .operand, hy.2.slot hy.1 i a⟩) ⟨hi, h⟩
  exact both.2

theorem Holds.legs {v : Word} (hj : j < 16) (h : Holds k j v t) (i : Nat) (l : List (Nat × Nat)) :
    Holds k j v (t.each l (legInput sel raw pred i)) :=
  each_keeps (fun p _ _ hy => hy.leg hj i p) h

theorem Holds.ctxInput (hj : j < 16) (hi : Inputs s t) (h : Holds k j (itemVal ty sel raw k j s) t) (i : Nat) :
    Holds k j (itemVal ty sel raw k j s) (ctxInput ty inst sel raw pred i t) := by
  unfold Proofs.ctxInput
  split
  · exact (h.slots hi i _).legs hj i _
  · exact h.slots hi i _

/-- The item fills the slot that binds its source. -/
theorem ctxInput_holds (hj : j < 16) (hi : Inputs s t) (type : s.slotType k j = ty) (bound : s.slotInst k j = inst)
    (same : selOf ty (s.slotSel k j) = sel) (now : s.forNext k j = false) :
    Holds k j (itemVal ty sel raw k j s) (ctxInput ty inst sel raw pred k t) := by
  have mem : j ∈ boundSlots ty inst sel k t := by
    unfold boundSlots
    rw [hi.conf.slotType, hi.conf.slotInst, hi.conf.slotSel]
    simp [hj, type, bound, same]
  have filled : Holds k j (itemVal ty sel raw k j s) (t.each (boundSlots ty inst sel k t) (slotInput ty sel raw pred k)) := by
    refine each_sets (I := Inputs s) mem (fun a _ y hy => hy.putInput k a _ pred .operand) (fun y hy => ?_)
      (fun a _ y hy held => held.slot hy k a) hi
    have value : itemVal ty sel raw k j s = slotVal ty sel raw (y.cw k (0x44 + 8 * j)) := by
      unfold itemVal
      rw [hy.conf.cw]
    rw [value]
    exact putInput_holds ((hy.forNext k j).trans now)
  unfold Proofs.ctxInput
  split
  · exact filled.legs hj k _
  · exact filled

/-- The item reaches every context in RUN. -/
theorem arrive_holds (hk : k < 128) (st : (s.ctx k).st = .run) (hj : j < 16) (type : s.slotType k j = ty) (bound : s.slotInst k j = inst)
    (same : selOf ty (s.slotSel k j) = selOf ty sel) (now : s.forNext k j = false) :
    Inputs s (arrive ty inst sel raw pred none .operand s) ∧
    Holds k j (itemVal ty (selOf ty sel) raw k j s) (arrive ty inst sel raw pred none .operand s) := by
  rw [arrive_eq]
  have mem : k ∈ (allCtx.filter (fun k => (s.ctx k).st == .run)).filter (fun k => (none : Option Nat).isNone || none == some k) := by
    simp [allCtx, hk, st]
  exact ⟨each_keeps (fun a _ y hy => hy.ctxInput a) (.refl s),
    each_sets (I := Inputs s) mem (fun a _ y hy => hy.ctxInput a) (fun y hy => ctxInput_holds hj hy type bound same now)
      (fun a _ y hy held => held.ctxInput hj hy a) (.refl s)⟩

/-- Where no record waits on the link, the item of the command arrives. -/
theorem basilInput_operand {src : InSrc} (hs : src ≠ .pair) (rx : s.basil.rx = []) (run : s.isRun 5 = true) :
    basilInput src inst sel raw pred s = arrive (srcNo src) inst sel raw pred none .operand (fabUse (srcIsland src) 5 0 s) := by
  have no : ¬srcNo src = 0 := by
    cases src with
    | pair => exact absurd rfl hs
    | ndl | adc | fbi | giu => decide
  unfold basilInput
  dsimp only
  rw [if_neg no, rx]
  exact if_pos run

end Sys2Proof.Proofs
end

section
/-! PROOFS. O23: a step is released (03_basil_control_engine.md R83). -/
namespace Sys2Proof.Proofs
open Sys2Proof Sys2Proof.Machine Sys2Proof.Laws

variable {k j : Nat} {s t u : State}

/-- A context but for its misses in a row. -/
def unstale (c : Ctx) : Ctx := { c with staleRun := [] }

/-- What the inputs of a step follow from: the configuration, the machine groups, and the contexts but for their misses in a row. -/
structure SameInputs (s t : State) : Prop where
  conf : SameConf s t
  mgs : t.mgs = s.mgs
  ctx : ∀ i, unstale (t.ctx i) = unstale (s.ctx i)

theorem SameInputs.setNow (s : State) (n : Nat) : SameInputs s (s.setNow n) := ⟨⟨rfl, rfl, rfl⟩, rfl, fun _ => rfl⟩

theorem SameInputs.putCtx {c : Ctx} (hc : unstale c = unstale (s.ctx k)) : SameInputs s (s.putCtx k c) := by
  refine ⟨⟨rfl, rfl, rfl⟩, rfl, fun i => ?_⟩
  by_cases hi : k = i
  · subst hi
    rw [ctx_putCtx, hc]
  · rw [ctx_putCtx_ne _ c hi]

section
variable (h : SameInputs s t)
include h

theorem SameInputs.st (i : Nat) : (t.ctx i).st = (s.ctx i).st := (congrArg Ctx.st (h.ctx i) :)
theorem SameInputs.fresh (i : Nat) : (t.ctx i).fresh = (s.ctx i).fresh := (congrArg Ctx.fresh (h.ctx i) :)
theorem SameInputs.inVal (i : Nat) : (t.ctx i).inVal = (s.ctx i).inVal := (congrArg Ctx.inVal (h.ctx i) :)
theorem SameInputs.used (i : Nat) : (t.ctx i).used = (s.ctx i).used := (congrArg Ctx.used (h.ctx i) :)
theorem SameInputs.work (i : Nat) : (t.ctx i).w = (s.ctx i).w := (congrArg Ctx.w (h.ctx i) :)
theorem SameInputs.planned (i n : Nat) : (t.ctx i).planned n = (s.ctx i).planned n := by
  have preds : (t.ctx i).preds = (s.ctx i).preds := (congrArg Ctx.preds (h.ctx i) :)
  have tS : (t.ctx i).tS = (s.ctx i).tS := (congrArg Ctx.tS (h.ctx i) :)
  unfold Ctx.planned
  rw [preds, tS]

theorem SameInputs.mg : t.mg = s.mg := by
  funext m
  unfold State.mg
  rw [h.mgs]

theorem SameInputs.setLive : t.setLive = s.setLive := by
  have safe : t.mgSafe = s.mgSafe := by delta State.mgSafe; rw [h.conf.cMg, h.conf.mgState]
  delta State.setLive
  rw [safe, h.conf.cMg, h.conf.mgState, h.mg]

theorem SameInputs.entryPhase : t.entryPhase = s.entryPhase := by
  have lock : t.obsLock = s.obsLock := by delta State.obsLock; rw [h.conf.pm]
  delta State.entryPhase
  rw [h.conf.pm, h.conf.cKid, h.conf.pmOn, lock]

theorem SameInputs.nextPhase : t.nextPhase = s.nextPhase := by
  have enters : t.enters = s.enters := by delta State.enters; rw [h.setLive]
  have short : t.shortSafe = s.shortSafe := by delta State.shortSafe; rw [h.conf.cMg, h.mg]
  funext k
  unfold State.nextPhase
  rw [enters, short, h.entryPhase, h.conf.cw, h.work]

/-- The inputs a step waits for (R83). -/
theorem SameInputs.reqKeys : t.reqKeys = s.reqKeys := by
  have word : t.slotW = s.slotW := by delta State.slotW; rw [h.conf.cw]
  delta State.reqKeys
  rw [h.conf.cKid, h.conf.needSlots, h.conf.slotBound, word, h.conf.cLegs, h.nextPhase]

theorem SameInputs.missing (k : Nat) : t.missing k = s.missing k := by
  have present (j : Nat) : t.present k j = s.present k j := by
    unfold State.present
    dsimp only
    rw [h.conf.slotType, h.conf.slotInst, h.st, h.fresh, h.conf.cLegs, h.planned]
  unfold State.missing
  rw [h.reqKeys, funext present]

theorem SameInputs.slotNow (k j : Nat) : t.slotNow k j = s.slotNow k j := by
  unfold State.slotNow
  dsimp only
  rw [h.conf.slotType, h.conf.slotInst, h.conf.slotSel, h.conf.cw, h.st, h.fresh, h.inVal, h.used, h.reqKeys]

/-- The inputs as they stand (R83). -/
theorem SameInputs.inputsNow (k : Nat) : t.inputsNow k = s.inputsNow k := by
  unfold State.inputsNow
  dsimp only
  rw [h.conf.slotBound, funext (h.slotNow k), h.conf.cLegs, h.fresh, h.inVal, h.used]

end

end Sys2Proof.Proofs
end

section
/-! PROOFS. O23: STEP_RELEASE and LATEST_START of a step that waits (03_basil_control_engine.md R83). -/
namespace Sys2Proof.Proofs
open Sys2Proof Sys2Proof.Machine Sys2Proof.Laws

variable {k : Nat} {s t u : State}

/-- A context with the misses in a row of its inputs. -/
def staled (miss : List Nat) (c : Ctx) : Ctx := { c with staleRun := miss.map (fun j => (j, Tab.get 0 c.staleRun j + 1)) }

/-- A context whose step is released. -/
def releasedCtx (c : Ctx) (stale : Bool) (ins : Tab Word) (old : Nat) (marked : Bool) : Ctx :=
  { c with ph := .released, stale := stale, stepIn := ins, old := old, marked := marked }

/-- The misses are noted. -/
def missed (k : Nat) (miss : List Nat) (s : State) : State :=
  if miss.isEmpty then s.putCtx k (staled miss (s.ctx k)) else ctxIrq k 7 (cntEvt k 16 (s.putCtx k (staled miss (s.ctx k))))

/-- A release that neither the fourth miss nor a missing first value ends. -/
theorem releaseStep_goes {miss : List Nat} (run : ¬(staled miss (s.ctx k)).staleRun.any (fun x => 4 ≤ x.2) = true)
    (used : ¬miss.any (fun j => (Tab.find (s.ctx k).used j).isNone) = true) :
    ∃ old marked, releaseStep k miss s = noteMeas k ((missed k miss s).putCtx k
      (releasedCtx (staled miss (s.ctx k)) (!miss.isEmpty) ((missed k miss s).inputsNow k) old marked)) :=
  ⟨_, _, (if_neg run).trans ((if_neg used).trans rfl)⟩

/-- What a release leaves of the context, and that it changes contexts alone. -/
structure Released (k : Nat) (miss : List Nat) (s u : State) : Prop where
  ph : (u.ctx k).ph = .released
  stepIn : (u.ctx k).stepIn = (missed k miss s).inputsNow k
  stale : (u.ctx k).stale = !miss.isEmpty
  staleRun : (u.ctx k).staleRun = miss.map (fun j => (j, Tab.get 0 (s.ctx k).staleRun j + 1))
  only : ∃ c, u = (missed k miss s).setCtxs c

theorem releaseStep_released {miss : List Nat} (run : ¬(staled miss (s.ctx k)).staleRun.any (fun x => 4 ≤ x.2) = true)
    (used : ¬miss.any (fun j => (Tab.find (s.ctx k).used j).isNone) = true) : Released k miss s (releaseStep k miss s) := by
  obtain ⟨old, marked, eq⟩ := releaseStep_goes run used
  obtain ⟨y, hy⟩ : ∃ y, y = missed k miss s := ⟨_, rfl⟩
  obtain ⟨d, hd⟩ : ∃ d, d = releasedCtx (staled miss (s.ctx k)) (!miss.isEmpty) (y.inputsNow k) old marked := ⟨_, rfl⟩
  have measured (z : State) : ∃ a b c, noteMeas k z = z.putCtx k { z.ctx k with measT := a, meas := b, measP := c } := ⟨_, _, _, rfl⟩
  obtain ⟨a, b, c, hn⟩ := measured (y.putCtx k d)
  rw [ctx_putCtx] at hn
  rw [← hy, ← hd, hn] at eq
  have new : (releaseStep k miss s).ctx k = { d with measT := a, meas := b, measP := c } := by rw [eq, ctx_putCtx]
  refine ⟨by rw [new, hd]; rfl, by rw [new, hd, ← hy]; rfl, by rw [new, hd]; rfl, by rw [new, hd]; rfl, ?_⟩
  rw [eq, ← hy]
  exact ⟨_, rfl⟩

/-- STEP_RELEASE with every required input present. -/
theorem releaseStep_present (k : Nat) (s : State) :
    ((releaseStep k [] s).ctx k).ph = .released ∧ ((releaseStep k [] s).ctx k).stepIn = s.inputsNow k ∧
    ((releaseStep k [] s).ctx k).stale = false ∧ (releaseStep k [] s).mem = s.mem ∧ OnlyRegs [] s (releaseStep k [] s) := by
  obtain ⟨ph, ins, stale, -, c, only⟩ := releaseStep_released (miss := []) (k := k) (s := s) (by simp [staled]) (by simp)
  have noted : missed k [] s = s.putCtx k (staled [] (s.ctx k)) := if_pos rfl
  have same : SameInputs s (missed k [] s) := by
    rw [noted]
    exact .putCtx rfl
  refine ⟨ph, ins.trans (same.inputsNow k), stale, ?_, fun a _ => ?_⟩
  · rw [only, setCtxs_mem, same.conf.mem]
  · rw [only, rd_setCtxs, same.conf.rd]

/-- LATEST_START with one input missing that has a value of an earlier step. -/
theorem releaseStep_missing {j : Nat} (run : Tab.get 0 (s.ctx k).staleRun j < 3) (used : (Tab.find (s.ctx k).used j).isSome = true) :
    ((releaseStep k [j] s).ctx k).ph = .released ∧ ((releaseStep k [j] s).ctx k).stale = true ∧
    Tab.get 0 ((releaseStep k [j] s).ctx k).staleRun j = Tab.get 0 (s.ctx k).staleRun j + 1 ∧
    (releaseStep k [j] s).shows ⟨inst k aCTX_W_IRQ_RAW, 7, 1⟩ = 1 ∧ (releaseStep k [j] s).now = s.now ∧
    OnlyRegs [inst k aCTX_W_IRQ_RAW] s (releaseStep k [j] s) := by
  have third : ¬(staled [j] (s.ctx k)).staleRun.any (fun x => 4 ≤ x.2) = true := by
    unfold staled
    simp
    omega
  have value : ¬[j].any (fun j => (Tab.find (s.ctx k).used j).isNone) = true := by
    simp [Option.isSome_iff_ne_none.mp used]
  obtain ⟨ph, -, stale, runs, c, only⟩ := releaseStep_released third value
  have noted : missed k [j] s = ctxIrq k 7 (cntEvt k 16 (s.putCtx k (staled [j] (s.ctx k)))) := if_neg Bool.false_ne_true
  have regs (a : Nat) : (cntEvt k 16 (s.putCtx k (staled [j] (s.ctx k)))).rd a = s.rd a := (rd_setMem _ _ _).trans (rd_setCtxs _ _ _)
  refine ⟨ph, stale, ?_, ?_, ?_, fun a ha => ?_⟩
  · rw [runs]
    simp [Tab.get, Tab.find]
  · rw [only, shows_setCtxs, noted]
    exact shows_put_bit _ ⟨inst k aCTX_W_IRQ_RAW, 7, 1⟩ (by decide) (show 7 < 32 by decide) rfl
  · rw [only, setCtxs_now, noted]
    exact (wr_now _ _ _).trans ((setMem_now _ _).trans (setCtxs_now _ _))
  · rw [only, rd_setCtxs, noted]
    exact (rd_wr_ne _ _ (List.ne_of_not_mem_cons ha).symm).trans (regs a)

theorem execStepRelease_waits {k : Fin 128} (h : (s.ctx k.val).ph ≠ .waiting ∨ s.missing k.val ≠ [] ∨ s.schedOn = false) :
    execStepRelease k s = done s := by
  refine congrArg done (if_neg ?_)
  obtain h | h | h := h
  · simp [h]
  · simp [h]
  · simp [h]

theorem execStepRelease_releases {k : Fin 128} (ph : (s.ctx k.val).ph = .waiting) (miss : s.missing k.val = [])
    (time : s.now ≤ (s.ctx k.val).latest) (on : s.schedOn = true) : execStepRelease k s = done (releaseStep k.val [] s) :=
  congrArg done (if_pos (by simp [ph, miss, time, on]))

end Sys2Proof.Proofs
end

section
/-! PROOFS. O23: sample instants, inputs and release (03_basil_control_engine.md R77, R81 to R84). -/
namespace Sys2Proof.Proofs
open Sys2Proof Sys2Proof.Machine Sys2Proof.Laws

variable {k : Nat} {s t u : State}

theorem ctx_setNow (s : State) (n : Nat) : (s.setNow n).ctx = s.ctx := ctx_of_ctxs (setNow_ctxs s n)

theorem SameConf.setNow (s : State) (n : Nat) : SameConf s (s.setNow n) := ⟨rfl, rfl, rfl⟩

theorem cOvrLim_setNow (s : State) (n k : Nat) : (s.setNow n).cOvrLim k = s.cOvrLim k := by
  unfold State.cOvrLim
  rw [(SameConf.setNow s n).cw]

/-- LATEST_START of a step that waits, while the scheduler is on (R83). -/
theorem latestStart_waiting (ph : (s.ctx k).ph = .waiting) (on : s.schedOn = true) :
    latestStart k s = releaseStep k (s.missing k) (s.setNow (max s.now (s.ctx k).latest)) := by
  have goes (n : Nat) : (s.reach n).schedOn = true := by
    rw [reach_eq]
    exact (on_setNow _ _ _).trans on
  have miss (n : Nat) : (s.reach n).missing k = s.missing k := by
    rw [reach_eq]
    exact (SameInputs.setNow s _).missing k
  obtain ⟨f, hf⟩ : ∃ f, releaseStep k = f := ⟨_, rfl⟩
  obtain ⟨g, hg⟩ : ∃ g, overrun k = g := ⟨_, rfl⟩
  rw [← reach_eq, ← miss (s.ctx k).latest, hf]
  unfold latestStart
  rw [hf, hg]
  generalize s.ctx k = c at ph
  cases c
  cases ph
  exact if_pos (goes _)

/-- A timed instant of a context whose step has not completed: the overrun that it counts stays counted. -/
theorem sampleInstant_overrun {k : Fin 128} (src : s.cSrc k.val = 1) (st : (s.ctx k.val).st = .run)
    (ph : (s.ctx k.val).ph = .waiting ∨ (s.ctx k.val).ph = .released ∨ (s.ctx k.val).ph = .running)
    (stop : (s.ctx k.val).stopPend = false)
    (lim : (s.ctx k.val).ovrRun + 1 < s.cOvrLim k.val) :
    ∃ z u, execSampleInstant k s = done u ∧ Overran k.val (s.setNow (max s.now (s.ctx k.val).nextAt)) z ∧ EngStands z u := by
  obtain ⟨y, hy⟩ : ∃ y, y = s.setNow (max s.now (s.ctx k.val).nextAt) := ⟨_, rfl⟩
  have ctx : y.ctx = s.ctx := by rw [hy, ctx_setNow]
  have word : y.cOvrLim k.val = s.cOvrLim k.val := by rw [hy, cOvrLim_setNow]
  have counted : Overran k.val y (overrun k.val y) := overrun_below k.isLt (by rw [ctx]; exact stop) (by rw [ctx, word]; exact lim)
  have settled : settleStep k.val y = overrun k.val y := settleStep_overrun (by rw [ctx]; exact ph)
  refine ⟨overrun k.val y, _, execSampleInstant_timer st src, hy ▸ counted, ?_⟩
  rw [reach_eq, ← hy, ← settled]
  exact (engStands_instantAt k.val y.now y).instantRecords k.val y.now

/-- TRIG begins the next step now (R81). -/
theorem trig_begins {r : Req} (hg : s.grants r aCTX_W_CMD true = true) (st : (s.ctx (s.wsel r)).st = .run)
    (may : s.mayTrig (s.wsel r) = true) (ph : (s.ctx (s.wsel r)).ph = .idle) (startPend : (s.ctx (s.wsel r)).startPend = false)
    (stopPend : (s.ctx (s.wsel r)).stopPend = false) (iteg : (s.ctx (s.wsel r)).itegPend = none) (cmt : (s.ctx (s.wsel r)).cmtGen = none)
    (bnd : s.bnd = []) (loc : (s.cw (s.wsel r) 0xC0).fld 12 2 ≠ 1) :
    Runs (.trig r) s (fun u => (u.ctx (s.wsel r)).ph = .waiting ∧ (u.ctx (s.wsel r)).tS = s.now ∧
      (u.ctx (s.wsel r)).stepNo = ((s.ctx (s.wsel r)).stepNo + 1) % 2 ^ 32 ∧ (u.ctx (s.wsel r)).setp = s.cw (s.wsel r) 0xC4 ∧
      (u.ctx (s.wsel r)).lastTrig = some s.now ∧ u.mem = s.mem) := by
  refine runs_trig hg ?_
  have same := SameConf.granted s r .eng
  have may' : (s.granted r .eng).mayTrig (s.wsel r) = true :=
    (congrFun (same.mayTrig (granted_ctxs s r _) (granted_now s r _)) _).trans may
  have begins : Begins (s.wsel r) (s.granted r .eng) := by
    constructor
    case bnd => rw [granted_bnd, bnd]
    case loc => rw [same.cw]; exact loc
    all_goals
      rw [granted_ctx]
      assumption
  obtain ⟨x, hx, begun, tS, no, setp, trig, -, mem, -⟩ := trigCtx_begins begins may'
  have kept : x.ctx (s.wsel r) = { s.ctx (s.wsel r) with lastTrig := some s.now } := by rw [hx, ctx_putCtx, granted_ctx, granted_now]
  have words : x.cw = s.cw := by
    rw [← same.cw]
    exact (SameConf.cw (s := s.granted r .eng) (hx ▸ ⟨rfl, rfl, rfl⟩))
  refine ⟨begun, by rw [tS, granted_now], by rw [no, kept], by rw [setp, words], by rw [trig, kept], ?_⟩
  rw [mem, hx]
  exact (setCtxs_mem _ _).trans (granted_mem s r _)

/-- SAMPLE_INSTANT of source TIMER begins the next step (R81). -/
theorem sampleInstant_begins {k : Fin 128} (st : (s.ctx k.val).st = .run) (src : s.cSrc k.val = 1)
    (ph : (s.ctx k.val).ph = .idle) (startPend : (s.ctx k.val).startPend = false) (stopPend : (s.ctx k.val).stopPend = false)
    (iteg : (s.ctx k.val).itegPend = none) (cmt : (s.ctx k.val).cmtGen = none) (bnd : s.bnd = []) (loc : (s.cw k.val 0xC0).fld 12 2 ≠ 1) :
    Runs (.sampleInstant k) s (fun u => u.now = max s.now (s.ctx k.val).nextAt ∧ (u.ctx k.val).ph = .waiting ∧
      (u.ctx k.val).tS = u.now ∧ (u.ctx k.val).stepNo = ((s.ctx k.val).stepNo + 1) % 2 ^ 32 ∧ (u.ctx k.val).setp = s.cw k.val 0xC4 ∧
      (u.ctx k.val).nextAt = u.now + 32 * s.cTimer k.val ∧ u.mem = s.mem) := by
  refine ⟨_, execSampleInstant_timer st src, ?_⟩
  rw [reach_eq]
  obtain ⟨y, hy⟩ : ∃ y, y = s.setNow (max s.now (s.ctx k.val).nextAt) := ⟨_, rfl⟩
  have ctx : y.ctx = s.ctx := by rw [hy, ctx_setNow]
  have conf : SameConf s y := hy ▸ SameConf.setNow s _
  have begins : Begins k.val y := by
    constructor
    case bnd => rw [hy, setNow_bnd, bnd]
    case loc => rw [conf.cw]; exact loc
    all_goals
      rw [ctx]
      assumption
  have time : y.now = max s.now (s.ctx k.val).nextAt := by rw [hy, setNow_now]
  obtain ⟨begun, tS, no, setp, -, next, mem, now⟩ := (stepBegun_instantAt y.now begins).records k.val y.now
  rw [← hy]
  exact ⟨now.trans time, begun, by rw [tS, now], by rw [no, ctx], by rw [setp, conf.cw], by rw [next, now, conf.cTimer],
    by rw [mem, hy, setNow_mem]⟩

/-- BASIL_INPUT fills the slot that binds its source (R77, R83). -/
theorem basilInput_fills {src : InSrc} {inst sel : Nat} {raw : Word} {pred : Bool} {k : Fin 128} {j : Fin 16} (hs : src ≠ .pair)
    (rx : s.basil.rx = []) (run : s.isRun 5 = true) (st : (s.ctx k.val).st = .run) (type : s.slotType k.val j.val = srcNo src)
    (bound : s.slotInst k.val j.val = inst) (same : selOf (srcNo src) (s.slotSel k.val j.val) = selOf (srcNo src) sel)
    (now : s.forNext k.val j.val = false) :
    Runs (.basilInput src inst sel raw pred) s (fun u =>
      Tab.find (u.ctx k.val).inVal j.val = some (slotVal (srcNo src) (selOf (srcNo src) sel) raw (s.cw k.val (0x44 + 8 * j.val))) ∧
      hasBit (u.ctx k.val).fresh j.val = true ∧ OnlyRegs [] s u ∧ u.mem = s.mem) := by
  refine ⟨basilInput src inst sel raw pred s, rfl, ?_⟩
  rw [basilInput_operand hs rx run]
  obtain ⟨l, w, link⟩ := fabUse_eq (srcIsland src) 5 0 s
  obtain ⟨y, hy⟩ : ∃ y, y = fabUse (srcIsland src) 5 0 s := ⟨_, rfl⟩
  have conf : SameConf s y := by
    rw [hy, link]
    exact ⟨rfl, rfl, rfl⟩
  have ctx : y.ctx = s.ctx := by
    rw [hy, link]
    exact ctx_of_ctxs ((setWardens_ctxs _ _).trans (setLinks_ctxs _ _))
  have time : y.now = s.now := by
    rw [hy, link, setWardens_now, setLinks_now]
  obtain ⟨inputs, val, fresh⟩ := arrive_holds (s := y) (ty := srcNo src) (inst := inst) (sel := sel) (raw := raw) (pred := pred) k.isLt
    (by rw [ctx]; exact st) j.isLt
    (by rw [conf.slotType]; exact type) (by rw [conf.slotInst]; exact bound) (by rw [conf.slotSel]; exact same)
    ((forNext_congr conf (by rw [ctx]) time).trans now)
  unfold itemVal at val
  rw [conf.cw] at val
  rw [← hy]
  exact ⟨val, fresh, fun a _ => congrFun (inputs.conf.rd.trans conf.rd) a, inputs.conf.mem.trans conf.mem⟩

/-- Settles O23, by the rules above. -/
theorem stepsBegin : Obligations.StepsBegin := by
  unfold Obligations.StepsBegin
  refine ⟨?trig, ?noTrig, ?sample, ?late, ?input, ?pair, ?release, ?wait, ?latest, ?overran⟩
  case trig =>
    rintro r _ s hg rfl st may ph startPend stopPend iteg cmt bnd loc
    exact trig_begins hg st may ph startPend stopPend iteg cmt bnd loc
  case noTrig =>
    rintro r _ s hg rfl no
    refine runs_trig hg ?_
    have same := SameConf.granted s r .eng
    obtain ⟨ctxs, -, flag, -, -, regs⟩ := (trigCtx_refused (k := s.wsel r) (s := s.granted r .eng) (by
      rw [granted_ctx, same.mayTrig (granted_ctxs s r _) (granted_now s r _)]
      exact no)).of_granted
    exact ⟨ctxs, flag, regs⟩
  case sample =>
    intro k s st src ph startPend stopPend iteg cmt bnd loc
    exact sampleInstant_begins st src ph startPend stopPend iteg cmt bnd loc
  case late =>
    intro k s st src ph stop lim
    obtain ⟨z, u, run, ⟨-, count, raised, told⟩, stands⟩ := sampleInstant_overrun src st ph stop lim
    refine ⟨u, run, ?_, stands.raised raised, stands.told _ (by rw [told]; simp)⟩
    have shown : u.shows fENG_OVR_CNT_cnt = z.shows fENG_OVR_CNT_cnt := by
      unfold State.shows
      rw [stands.count]
    rw [shown, count, get_setNow]
  case input =>
    intro src inst sel raw pred k j s hs rx run st type bound same now
    exact basilInput_fills hs rx run st type bound same now
  case pair => exact fun inst sel raw pred s => ⟨s, rfl, rfl⟩
  case release =>
    intro k s ph miss time on
    exact ⟨_, execStepRelease_releases ph miss time on, releaseStep_present k.val s⟩
  case wait => exact fun k s h => ⟨s, execStepRelease_waits h, rfl⟩
  case latest =>
    intro k j s ph miss run used on
    refine ⟨latestStart k.val s, rfl, ?_⟩
    rw [latestStart_waiting ph on, miss]
    obtain ⟨rel, stale, runs, irq, now, regs⟩ := releaseStep_missing (k := k.val) (j := j)
      (s := s.setNow (max s.now (s.ctx k.val).latest))
      (by rw [ctx_setNow]; exact run) (by rw [ctx_setNow]; exact used)
    rw [ctx_setNow] at runs
    exact ⟨rel, stale, runs, irq, now.trans (setNow_now _ _), fun a ha => (regs a ha).trans (rd_setNow _ _ _)⟩
  case overran =>
    intro k s ph stop retry lim
    refine ⟨latestStart k.val s, rfl, ?_⟩
    rw [latestStart_overrun ph retry, reach_eq]
    obtain ⟨new, count, -, told⟩ := overrun_below (s := s.setNow (max s.now (s.ctx k.val).latest)) k.isLt
      (by rw [ctx_setNow]; exact stop) (by rw [ctx_setNow, cOvrLim_setNow]; exact lim)
    rw [ctx_setNow] at new
    exact ⟨by rw [new]; rfl, by rw [new]; rfl, by rw [count, get_setNow], by rw [told, setNow_sage]⟩

end Sys2Proof.Proofs
end

section
/-! PROOFS. What a unit of the grid interface keeps while the sequencer, the detector set and the log act on what a step of its PLL found
(05_grid_and_pv.md R172 to R181). -/
namespace Sys2Proof.Proofs
open Sys2Proof Sys2Proof.Machine Sys2Proof.Laws

/-- The registers that show the state, the frequency and the missing conversions of the PLL of unit `n`. -/
def pllRegs (n : Nat) : List Nat := [aGIU_PLL_STAT n, aGIU_PLL_FREQ n, aGIU_PLL_MISS n]

/-- The PLL of unit `n` stands: Thyme, the copies, the PLL's state and its registers but those of `m` are the same, and every event that
waited at Sage still waits. -/
structure PllStands (n : Nat) (m : List Nat) (s t : State) : Prop where
  now : t.now = s.now
  tmr : t.tmr = s.tmr
  pll : (t.gu n).pll = (s.gu n).pll
  regs : ∀ a ∈ pllRegs n, a ∉ m → t.rd a = s.rd a
  told : ∀ e ∈ s.sage.inbox, e ∈ t.sage.inbox

variable {n : Nat} {m : List Nat} {x s t u : State}

theorem pllRegs_page {a : Nat} (h : a ∈ pllRegs n) : pageOf a = 6 := by
  simp only [pllRegs, List.mem_cons, List.not_mem_nil, or_false] at h
  obtain rfl | rfl | rfl := h
  · exact page_aGIU_PLL_STAT n
  · exact page_aGIU_PLL_FREQ n
  · exact page_aGIU_PLL_MISS n

/-! Registers that are none of these. -/

theorem pllRegs_bounds {a : Nat} (h : a ∈ pllRegs n) : 0x4006101C + n % 8 * 0x200 ≤ a ∧ a ≤ 0x40061038 + n % 8 * 0x200 := by
  simp only [pllRegs, aGIU_PLL_STAT, aGIU_PLL_FREQ, aGIU_PLL_MISS, List.mem_cons, List.not_mem_nil, or_false] at h
  omega

/-- The registers of the ride-through sequencer and of the detector set of the unit. -/
theorem notPll_unit {o : Nat} (ho : 0x4006103C ≤ o) : o + n % 8 * 0x200 ∉ pllRegs n := fun h => by
  have := pllRegs_bounds h
  omega

/-- The header of the page, and the registers of the log. -/
theorem notPll_low {a : Nat} (ha : a < 0x4006101C) : a ∉ pllRegs n := fun h => by
  have := pllRegs_bounds h
  omega

theorem notPll_log (wp i : Nat) : logAt wp i ∉ pllRegs n := fun h => by
  have := pllRegs_bounds h
  unfold logAt at this
  omega

/-! Operations on the state. -/

theorem PllStands.refl (n : Nat) (m : List Nat) (s : State) : PllStands n m s s := ⟨rfl, rfl, rfl, fun _ _ _ => rfl, fun _ => id⟩

theorem PllStands.trans (h : PllStands n m s t) (k : PllStands n m t u) : PllStands n m s u :=
  ⟨k.now.trans h.now, k.tmr.trans h.tmr, k.pll.trans h.pll, fun a ha hm => (k.regs a ha hm).trans (h.regs a ha hm),
    fun e he => k.told e (h.told e he)⟩

theorem PllStands.mono {l : List Nat} (h : PllStands n l s t) (hm : l ⊆ m) : PllStands n m s t :=
  ⟨h.now, h.tmr, h.pll, fun a ha no => h.regs a ha fun hl => no (hm hl), h.told⟩

theorem PllStands.get {f : Fld} (h : PllStands n m s t) (hf : f.addr ∈ pllRegs n) (hm : f.addr ∉ m) : t.get f = s.get f :=
  get_of_rd (h.regs _ hf hm) h.tmr

theorem PllStands.shows {f : Fld} (h : PllStands n m s t) (hf : f.addr ∈ pllRegs n) (hm : f.addr ∉ m) : t.shows f = s.shows f := by
  unfold State.shows
  rw [h.regs _ hf hm]

/-- What changes no register of the unit's page, no unit, no time and no event at Sage. -/
theorem PllStands.touch {p : Nat} (h : PllStands n m x s) (k : Touch p s s → Touch p s u)
    (hp : has p 6 = false ∧ has p 19 = false ∧ has p 23 = false ∧ has p 32 = false ∧ has p 41 = false) : PllStands n m x u := by
  obtain ⟨-, -, -, same⟩ := k (Touch.rfl' p s)
  obtain ⟨page, now, tmr, giu, sage⟩ := hp
  have units : u.giu = s.giu := same .giu giu
  have inbox : u.sage = s.sage := same .sage sage
  exact h.trans ⟨same .now now, same .tmr tmr, by unfold State.gu; rw [units], fun a ha _ => same (.regs 6) page a (pllRegs_page ha),
    fun e he => inbox ▸ he⟩

/-- A register written that does not show the PLL, or is one of those left out. -/
theorem PllStands.wr {a : Nat} (h : PllStands n m x s) (ha : a ∉ pllRegs n ∨ a ∈ m) (v : Word) : PllStands n m x (s.wr a v) := by
  refine h.trans ⟨rfl, rfl, rfl, fun b hb hm => rd_wr_ne s v ?_, fun _ => id⟩
  rintro rfl
  exact ha.elim (· hb) hm

theorem PllStands.put {f : Fld} (h : PllStands n m x s) (hf : f.addr ∉ pllRegs n) (v : Nat) : PllStands n m x (s.put f v) :=
  h.wr (.inl hf) _

theorem PllStands.incrSat {f : Fld} (h : PllStands n m x s) (hf : f.addr ∉ pllRegs n) : PllStands n m x (s.incrSat f) := h.put hf _

theorem PllStands.setGiu {v : Giu} (h : PllStands n m x s) (hv : v.units = s.giu.units) : PllStands n m x (s.setGiu v) :=
  h.trans ⟨rfl, rfl, by unfold State.gu; rw [setGiu_giu, hv], fun _ _ _ => rfl, fun _ => id⟩

@[simp] theorem gu_putGu (s : State) (n : Nat) (g : GUnit) : (s.putGu n g).gu n = g := get_set_same _ _ _ _

theorem PllStands.putGu {g : GUnit} (h : PllStands n m x s) (hg : g.pll = (s.gu n).pll) : PllStands n m x (s.putGu n g) :=
  h.trans ⟨rfl, rfl, by rw [gu_putGu, hg], fun _ _ _ => rfl, fun _ => id⟩

theorem PllStands.sageEvt (h : PllStands n m x s) (e : Nat) (w : SageName) : PllStands n m x (s.sageEvt e w) :=
  h.trans ⟨rfl, rfl, rfl, fun _ _ _ => rfl, fun _ he => List.mem_append_left _ he⟩

theorem PllStands.ite {c : Prop} [Decidable c] (h : PllStands n m x s) (k : PllStands n m x t) :
    PllStands n m x (if c then s else t) := by
  split <;> assumption

/-- A step that is taken or left out. -/
theorem PllStands.maybe {c : Prop} [Decidable c] (h : PllStands n m x s) (k : PllStands n m x s → PllStands n m x t) :
    PllStands n m x (if c then t else s) := .ite (k h) h

theorem PllStands.giuIrq (h : PllStands n m x s) (i : Nat) : PllStands n m x (giuIrq i s) := 
  h.put (f := hRaw 0x40060000 i) (notPll_low (a := 0x40060010) (by decide)) 1

theorem PllStands.giuErr (h : PllStands n m x s) (i : Nat) : PllStands n m x (giuErr i s) :=
  PllStands.ite h (PllStands.giuIrq (h.put (f := hErr 0x40060000 i) (notPll_low (a := 0x4006001C) (by decide)) 1) 0)

theorem PllStands.record (h : PllStands n m x s) (code : Nat) (b : Block) (pay : List Byte) : PllStands n m x (s.record code b pay) :=
  h.touch (touch_record (Sub.refl _) _ code b pay) (by decide)

/-! The sequencer, the detector set and the log (R172 to R181). -/

theorem PllStands.seqState (h : PllStands n m x s) (st pt : Nat) : PllStands n m x (seqState n st pt s) := by
  unfold Machine.seqState
  extract_lets was s1 s2 g _ rt rt' s3 s4 s5
  refine h.ite ?_
  have h2 : PllStands n m x s2 := (h.put (notPll_unit (by decide)) _).put (notPll_unit (by decide)) _
  have h4 : PllStands n m x s4 := ((h2.putGu (by rfl)).giuIrq 4).record _ _ _
  clear_value s4
  have h5 : PllStands n m x s5 := .ite (h4.incrSat (notPll_unit (by decide))) (.ite ((h4.incrSat (notPll_unit (by decide))).giuIrq 5)
    (h4.maybe (·.incrSat (notPll_unit (by decide)))))
  exact h5.maybe (·.sageEvt 33 _)

theorem PllStands.seqStep (h : PllStands n m x s) (d : Nat) (o : PllOut) (isl : Bool) : PllStands n m x (seqStep n d o isl s) := by
  unfold Machine.seqStep
  split
  · exact h
  extract_lets g mags nosig ts acc st _ s1 pt g1 tRc _ s2 trip cease ride s3
  have timed : PllStands n m x s1 := h.putGu (by rfl)
  clear_value s1 st
  split
  · exact PllStands.maybe (timed.putGu (by rfl)) (·.seqState 2 32)
  · exact .ite timed (timed.seqState 1 32)
  · exact .ite timed (timed.seqState 1 32)
  · have counted : PllStands n m x s3 := timed.maybe (·.incrSat (notPll_unit (by decide)))
    exact .ite (counted.seqState 5 _) (.ite (timed.seqState 6 32) (.ite (timed.seqState 4 _)
      (.ite (timed.seqState 3 _) (timed.seqState 2 32))))

theorem PllStands.islCycle (h : PllStands n m x s) (f : Word) : PllStands n m x (islCycle n f s) := by
  unfold Machine.islCycle
  extract_lets g y k fn th0 sgn af late s1
  have cycled : PllStands n m x s1 := h.putGu (by rfl)
  exact cycled.maybe fun h => (h.giuErr 17).sageEvt 35 .none

theorem PllStands.islStep (h : PllStands n m x s) (d : Nat) : PllStands n m x (islStep n d s).1 := by
  have stat {y : State} (lo w v : Nat) (hy : PllStands n m x y) : PllStands n m x (y.put ⟨aGIU_ISL_STAT n, lo, w⟩ v) :=
    hy.put (notPll_unit (by decide)) v
  unfold Machine.islStep
  extract_lets v okV g _ s1 s2 st t0 s3 s4
  have found : PllStands n m x s2 := stat _ _ _ (stat _ _ _ (h.putGu (by rfl)))
  clear_value s2
  have tripped : PllStands n m x s4 := (found.wr (.inl (notPll_unit (by decide))) _).wr (.inl (notPll_unit (by decide))) _
  split
  · exact stat _ _ _ tripped
  · exact found

theorem PllStands.giuLogTrip (h : PllStands n m x s) (was : Nat) : PllStands n m x (giuLogTrip n was s) :=
  h.maybe (·.setGiu (by rfl))

theorem PllStands.giuLog (h : PllStands n m x s) (pos : Word) : PllStands n m x (giuLog n pos s) := by
  have word {y : State} (wp i : Nat) (v : Word) (hy : PllStands n m x y) : PllStands n m x (y.wr (logAt wp i) v) :=
    hy.wr (.inl (notPll_log wp i)) v
  have place {y : State} (lo w v : Nat) (hy : PllStands n m x y) : PllStands n m x (y.put ⟨aGIU_LOG_WP, lo, w⟩ v) :=
    hy.put (notPll_low (show 0x40060044 < 0x4006101C by decide)) v
  unfold Machine.giuLog
  split
  · exact h
  extract_lets g wp half ovf s1 cr af q s2 s3 s4 s5 s6 _ s7
  have h1 : PllStands n m x s1 := h.maybe (·.giuErr 19)
  clear_value s1
  have h4 : PllStands n m x s4 := word _ _ _ (word _ _ _ (word _ _ _ (word _ _ _ h1)))
  clear_value s4
  have h6 : PllStands n m x s6 := (place _ _ _ h4).maybe (place _ _ _)
  clear_value s6
  have h7 : PllStands n m x s7 := h6.setGiu (by rfl)
  clear_value s7
  split
  · exact PllStands.maybe (h7.setGiu (by rfl)) (·.giuIrq 8)
  · exact h7

end Sys2Proof.Proofs
end

section
/-! PROOFS. O25: PLL_STEP (05_grid_and_pv.md R157 to R159). -/
namespace Sys2Proof.Proofs
open Sys2Proof Sys2Proof.Machine Sys2Proof.Laws

variable {n : Nat} {s : State}

/-! A step in its stages: its instant, the count of a missing conversion, the figures it shows, and what acts on them. -/

/-- The unit at its next step instant (R157). -/
def pllBegun (n : Nat) (s : State) : State :=
  (s.reach (s.pllNextAt n)).putGu n
    { s.gu n with pll := { (s.gu n).pll with at_ := s.pllNextAt n, asked := 0 } }

/-- A missing conversion is counted and reported (R159). -/
def missNoted (n : Nat) (gone : Bool) (s : State) : State :=
  if gone then giuErr 16 (s.incrSat (fGIU_PLL_MISS_cnt n)) else s

/-- The registers that show the frequency and the voltages (R158). -/
def pllFigures (n : Nat) (f : Word) (o : PllOut) (s : State) : State :=
  let s := ((s.wr (aGIU_PLL_FREQ n) f).wr (aGIU_PLL_VPOS n) o.pos).wr (aGIU_PLL_VNEG n) o.ratio
  s.each (s.rtMags n o).zipIdx (fun (v, i) s => s.wr (aGIU_PLL_VPH n i) v)

/-- The detector set, the sequencer and the log act on a step of length `d` (R172 to R181). -/
def pllFollowed (n d : Nat) (f : Word) (o : PllOut) (s : State) : State :=
  let s := if o.wrap then islCycle n f s else s
  let r := islStep n d s
  let s := giuLogTrip n (r.1.get (fGIU_RT_STAT_state n)) (seqStep n d o r.2 r.1)
  if o.wrap then giuLog n o.pos s else s

/-- A step that finds the state `r.1` of the unit and of its PLL, and the output `o`. -/
def pllTaken (n d : Nat) (gone : Bool) (r : Nat × Pll) (o : PllOut) (s : State) : State :=
  let found := s.putGu n { s.gu n with pll := r.2 }
  let noted := missNoted n gone found
  let shown := pllFigures n r.2.f o noted
  let entered := pllState n r.1 shown
  pllFollowed n d r.2.f o entered

/-- The PLL after the step that takes the inputs `ins` as volts, with its state, and what the step computes besides (R158, R159). -/
def pllFound (n st d : Nat) (gone : Bool) (ins : List Word) (s : State) : (Nat × Pll) × PllOut :=
  let r := s.pllStep n (st = 3) ins (s.gu n).pll
  (pllNext st d r.2 gone r.1, r.2)

/-- A unit that is enabled and not OFF takes its step. -/
theorem pllRun_takes (on : s.on (fGIU_PLL_CFG_en n) = true) (st : s.get (fGIU_PLL_STAT_state n) ≠ 0) (raw : List (Option Word)) :
    ∃ ins, let r := pllFound n (s.get (fGIU_PLL_STAT_state n)) (s.pllH n) (raw.any (·.isNone)) ins (pllBegun n s)
      pllRun n raw s = pllTaken n (s.pllH n) (raw.any (·.isNone)) r.1 r.2 (pllBegun n s) := by
  unfold pllRun
  rw [if_neg (by simp [on, st])]
  extract_lets d g t s1 _ s2 g2 ll ains sig ins gone
  refine ⟨ins, ?_⟩
  unfold pllFound
  rw [show pllBegun n s = s2 from rfl]
  clear_value ins s2
  generalize s2.pllStep n _ ins (s2.gu n).pll = r
  generalize pllNext _ _ r.2 _ r.1 = q
  rfl

/-- A unit that is OFF takes none. -/
theorem pllRun_off (st : s.get (fGIU_PLL_STAT_state n) = 0) (raw : List (Option Word)) : pllRun n raw s = s :=
  if_pos (by simp [st])

/-- Where no reply of the ADC waits, the operands are the conversions. -/
theorem execPllStep_operands {u : Fin 8} {a b c : Option Word} (h : s.giu.adc = []) :
    execPllStep u a b c s = done (pllRun u.val [a, b, c] s) := by
  have replies : s.pllReplies u.val [a, b, c] = [a, b, c] := by
    simp [State.pllReplies, h, Tab.find, List.zipIdx]
  have taken (p : Nat × Option Word → Bool) : s.setGiu { s.giu with adc := s.giu.adc.filter p } = s := by
    rw [h, List.filter_nil, ← h]
    rfl
  unfold execPllStep
  dsimp only
  rw [replies, taken]

/-! What each stage leaves. -/

theorem pllFollowed_stands (n d : Nat) (f : Word) (o : PllOut) (s : State) : PllStands n [] s (pllFollowed n d f o s) := by
  unfold pllFollowed
  extract_lets s1 r s2
  have watched : PllStands n [] s r.1 := (PllStands.maybe (.refl n [] s) (·.islCycle f)).islStep d
  have acted : PllStands n [] s s2 := (watched.seqStep d o r.2).giuLogTrip _
  exact acted.maybe (·.giuLog _)

theorem pllState_stands (n st : Nat) (s : State) : PllStands n [aGIU_PLL_STAT n] s (pllState n st s) := by
  have shown : PllStands n [aGIU_PLL_STAT n] s (giuIrq 6 (s.put (fGIU_PLL_STAT_state n) st)) :=
    ((PllStands.refl n _ s).wr (.inr List.mem_cons_self) _).giuIrq 6
  exact .ite (.refl n _ s) (shown.maybe (·.sageEvt 34 _))

/-- A unit that enters NOSIG shows it and tells Sage. -/
theorem pllState_nosig (h : s.get (fGIU_PLL_STAT_state n) ≠ 3) :
    (pllState n 3 s).shows (fGIU_PLL_STAT_state n) = 3 ∧ (⟨34, nUnit n, false⟩ : SEvt) ∈ (pllState n 3 s).sage.inbox := by
  unfold pllState
  rw [if_neg h, if_pos rfl]
  refine ⟨?_, by rw [sageEvt_inbox]; simp⟩
  rw [sageEvt_shows]
  refine (shows_put_ne _ (f := hRaw 0x40060000 6) _ ?_).trans (shows_put s _ 3 (show 0 + 2 ≤ 32 by decide))
  dsimp only [aGIU_PLL_STAT]
  omega

theorem pllFigures_stands (n : Nat) (f : Word) (o : PllOut) (s : State) : PllStands n [aGIU_PLL_FREQ n] s (pllFigures n f o s) := by
  have volts {y : State} {a : Nat} (v : Word) (hy : PllStands n [aGIU_PLL_FREQ n] s y)
      (ha : 0x40061024 + n % 8 * 0x200 ≤ a ∧ a < 0x40061038 + n % 8 * 0x200) : PllStands n [aGIU_PLL_FREQ n] s (y.wr a v) := by
    refine hy.wr (.inl fun h => ?_) v
    simp only [pllRegs, aGIU_PLL_STAT, aGIU_PLL_FREQ, aGIU_PLL_MISS, List.mem_cons, List.not_mem_nil, or_false] at h
    omega
  have freq : PllStands n [aGIU_PLL_FREQ n] s (s.wr (aGIU_PLL_FREQ n) f) := (PllStands.refl n _ s).wr (.inr List.mem_cons_self) f
  refine each_keeps (fun p _ y hy => volts _ hy ?_) (volts _ (volts _ freq ?_) ?_)
  · unfold aGIU_PLL_VPH; omega
  · unfold aGIU_PLL_VPOS; omega
  · unfold aGIU_PLL_VNEG; omega

theorem pllFigures_freq (n : Nat) (f : Word) (o : PllOut) (s : State) : (pllFigures n f o s).rd (aGIU_PLL_FREQ n) = f := by
  refine each_keeps (P := fun y => y.rd (aGIU_PLL_FREQ n) = f) (fun p _ y hy => ?_) ?_
  · exact (rd_wr_ne y _ (by unfold aGIU_PLL_VPH aGIU_PLL_FREQ; omega)).trans hy
  · rw [rd_wr_ne _ _ (by unfold aGIU_PLL_VNEG aGIU_PLL_FREQ; omega), rd_wr_ne _ _ (by unfold aGIU_PLL_VPOS aGIU_PLL_FREQ; omega),
      rd_wr_same]

theorem missNoted_stands (n : Nat) (gone : Bool) (s : State) : PllStands n [aGIU_PLL_MISS n] s (missNoted n gone s) :=
  (PllStands.refl n _ s).maybe fun h => (h.wr (.inr List.mem_cons_self) _).giuErr 16

theorem missNoted_counts (n : Nat) (s : State) :
    (missNoted n true s).shows (fGIU_PLL_MISS_cnt n) = min (s.get (fGIU_PLL_MISS_cnt n) + 1) (2 ^ 32 - 1) := by
  have away {o : Nat} (ho : o < 0x40061038) : (fGIU_PLL_MISS_cnt n).addr ≠ o := by
    dsimp only [aGIU_PLL_MISS]
    omega
  exact (errSet_shows_ne (away (by decide)) (away (by decide))).trans (shows_incrSat32 s (aGIU_PLL_MISS n))

/-- A step keeps its instant, and counts the steps in a row with a missing conversion (R159). -/
structure MissCounted (gone : Bool) (p : Pll) (r : Nat × Pll) : Prop where
  at_ : r.2.at_ = p.at_
  miss : r.2.miss = if gone then p.miss + 1 else 0

theorem MissCounted.ite {gone : Bool} {p : Pll} {a b : Nat × Pll} {c : Prop} [Decidable c] (h : MissCounted gone p a)
    (k : MissCounted gone p b) : MissCounted gone p (if c then a else b) := by
  split <;> assumption

theorem pllNext_counts (st d : Nat) (o : PllOut) (gone : Bool) (p : Pll) : MissCounted gone p (pllNext st d o gone p) := by
  unfold pllNext
  extract_lets low miss q
  refine .ite ⟨rfl, rfl⟩ ?_
  split
  · exact .ite ⟨rfl, rfl⟩ ⟨rfl, rfl⟩
  · exact .ite ⟨rfl, rfl⟩ ⟨rfl, rfl⟩
  · exact .ite ⟨rfl, rfl⟩ ⟨rfl, rfl⟩
  · exact ⟨rfl, rfl⟩

/-- The fourth step in a row with a missing conversion ends ACQ and LOCKED (R159). -/
theorem pllNext_fourth {st : Nat} (act : st = 1 ∨ st = 2) (d : Nat) (o : PllOut) {p : Pll} (miss : p.miss = 3) :
    (pllNext st d o true p).1 = 3 := by
  unfold pllNext
  dsimp only
  rw [if_pos (by obtain rfl | rfl := act <;> simp [miss])]

theorem pllFound_counts (n st d : Nat) (gone : Bool) (ins : List Word) (s : State) :
    MissCounted gone (s.gu n).pll (pllFound n st d gone ins s).1 := by
  obtain ⟨at_, miss⟩ := pllNext_counts st d (s.pllStep n (st = 3) ins (s.gu n).pll).2 gone (s.pllStep n (st = 3) ins (s.gu n).pll).1
  exact ⟨at_, miss⟩

/-! The whole step. -/

theorem pllBegun_now (n : Nat) (s : State) : (pllBegun n s).now = max s.now (s.pllNextAt n) := by
  unfold pllBegun
  rw [reach_eq]
  rfl

theorem pllBegun_pll (n : Nat) (s : State) : ((pllBegun n s).gu n).pll = { (s.gu n).pll with at_ := s.pllNextAt n, asked := 0 } := by
  unfold pllBegun
  rw [gu_putGu]

theorem pllBegun_rd (n : Nat) (s : State) (a : Nat) : (pllBegun n s).rd a = s.rd a := by
  unfold pllBegun
  rw [reach_eq]
  rfl

theorem pllBegun_get (n : Nat) (s : State) (f : Fld) : (pllBegun n s).get f = s.get f := by
  unfold pllBegun
  rw [reach_eq]
  rfl

/-- What a step shows: it takes no time, leaves the PLL as found, shows its frequency, and counts a missing conversion alone. -/
structure StepShown (n : Nat) (gone : Bool) (r : Nat × Pll) (s t : State) : Prop where
  now : t.now = s.now
  pll : (t.gu n).pll = r.2
  freq : t.rd (aGIU_PLL_FREQ n) = r.2.f
  complete : gone = false → t.rd (aGIU_PLL_MISS n) = s.rd (aGIU_PLL_MISS n)
  counted : gone = true → t.shows (fGIU_PLL_MISS_cnt n) = min (s.get (fGIU_PLL_MISS_cnt n) + 1) (2 ^ 32 - 1)
  lost : r.1 = 3 → s.get (fGIU_PLL_STAT_state n) ≠ 3 →
    t.shows (fGIU_PLL_STAT_state n) = 3 ∧ (⟨34, nUnit n, false⟩ : SEvt) ∈ t.sage.inbox

theorem stepShown_pllTaken (n d : Nat) (gone : Bool) (r : Nat × Pll) (o : PllOut) (s : State) :
    StepShown n gone r s (pllTaken n d gone r o s) := by
  have stat : aGIU_PLL_STAT n ∈ pllRegs n ∧ aGIU_PLL_STAT n ∉ [aGIU_PLL_MISS n, aGIU_PLL_FREQ n] := by
    simp [pllRegs, aGIU_PLL_STAT, aGIU_PLL_MISS, aGIU_PLL_FREQ]
  have freq : aGIU_PLL_FREQ n ∈ pllRegs n ∧ aGIU_PLL_FREQ n ∉ [aGIU_PLL_STAT n] := by
    simp [pllRegs, aGIU_PLL_STAT, aGIU_PLL_FREQ]
  have miss : aGIU_PLL_MISS n ∈ pllRegs n ∧ aGIU_PLL_MISS n ∉ [aGIU_PLL_FREQ n, aGIU_PLL_STAT n] := by
    simp [pllRegs, aGIU_PLL_STAT, aGIU_PLL_MISS, aGIU_PLL_FREQ]
  unfold pllTaken
  extract_lets _ found noted shown entered
  have following := pllFollowed_stands n d r.2.f o entered
  have entering : PllStands n [aGIU_PLL_STAT n] shown entered := pllState_stands n r.1 shown
  have fromShown := entering.trans (following.mono (List.nil_subset _))
  have figures := pllFigures_stands n r.2.f o noted
  have fromNoted := (figures.mono (m := [aGIU_PLL_FREQ n, aGIU_PLL_STAT n]) (by simp)).trans (fromShown.mono (by simp))
  have whole := ((missNoted_stands n gone found).mono (m := pllRegs n) (by simp [pllRegs])).trans (fromNoted.mono (by simp [pllRegs]))
  refine ⟨whole.now, whole.pll.trans (by rw [gu_putGu]), ?freq, ?complete, ?counted, ?lost⟩
  case freq => exact (fromShown.regs _ freq.1 freq.2).trans (pllFigures_freq n r.2.f o noted)
  case complete =>
    rintro rfl
    exact fromNoted.regs _ miss.1 miss.2
  case counted =>
    rintro rfl
    exact (fromNoted.shows (f := fGIU_PLL_MISS_cnt n) miss.1 miss.2).trans (missNoted_counts n found)
  case lost =>
    intro nosig before
    have kept : shown.get (fGIU_PLL_STAT_state n) = s.get (fGIU_PLL_STAT_state n) :=
      (((missNoted_stands n gone found).mono (m := [aGIU_PLL_MISS n, aGIU_PLL_FREQ n]) (by simp)).trans
        (figures.mono (by simp))).get (f := fGIU_PLL_STAT_state n) stat.1 stat.2
    obtain ⟨state, told⟩ := pllState_nosig (n := n) (s := shown) (by rw [kept]; exact before)
    rw [← nosig] at state told
    exact ⟨(following.shows (f := fGIU_PLL_STAT_state n) stat.1 List.not_mem_nil).trans (state.trans nosig), following.told _ told⟩

/-! The command. -/

/-- The step of a unit that is enabled and not OFF, at its instant (R157, R159). -/
theorem pllRun_steps (on : s.on (fGIU_PLL_CFG_en n) = true) (st : s.get (fGIU_PLL_STAT_state n) ≠ 0) (raw : List (Option Word)) :
    ∃ r : Nat × Pll, MissCounted (raw.any (·.isNone)) ((pllBegun n s).gu n).pll r ∧
      (s.get (fGIU_PLL_STAT_state n) = 1 ∨ s.get (fGIU_PLL_STAT_state n) = 2 → raw.any (·.isNone) = true →
        ((pllBegun n s).gu n).pll.miss = 3 → r.1 = 3) ∧
      StepShown n (raw.any (·.isNone)) r (pllBegun n s) (pllRun n raw s) := by
  obtain ⟨ins, run⟩ := pllRun_takes on st raw
  refine ⟨_, pllFound_counts n _ (s.pllH n) _ ins _, fun act gone miss => ?_, run ▸ stepShown_pllTaken n _ _ _ _ _⟩
  rw [gone]
  exact pllNext_fourth act _ _ miss

/-- A step with every conversion takes place at the next instant of the grid and shows the filtered frequency (R157 to R159). -/
theorem pllRun_complete (on : s.on (fGIU_PLL_CFG_en n) = true) (st : s.get (fGIU_PLL_STAT_state n) ≠ 0) {raw : List (Option Word)}
    (all : raw.any (·.isNone) = false) : (pllRun n raw s).now = max s.now (s.pllNextAt n) ∧
      ((pllRun n raw s).gu n).pll.at_ = s.pllNextAt n ∧ (pllRun n raw s).rd (aGIU_PLL_FREQ n) = ((pllRun n raw s).gu n).pll.f ∧
      (pllRun n raw s).rd (aGIU_PLL_MISS n) = s.rd (aGIU_PLL_MISS n) ∧ ((pllRun n raw s).gu n).pll.miss = 0 := by
  obtain ⟨r, ⟨instant, count⟩, -, shown⟩ := pllRun_steps on st raw
  rw [all] at count
  rw [shown.now, shown.pll, shown.freq, shown.complete all, instant, count, pllBegun_now, pllBegun_pll, pllBegun_rd]
  exact ⟨rfl, rfl, rfl, rfl, rfl⟩

/-- The fourth step in a row with a missing conversion is counted, ends ACQ or LOCKED in NOSIG, and reaches Sage (R159). -/
theorem pllRun_fourth (on : s.on (fGIU_PLL_CFG_en n) = true)
    (act : s.get (fGIU_PLL_STAT_state n) = 1 ∨ s.get (fGIU_PLL_STAT_state n) = 2) (miss : (s.gu n).pll.miss = 3)
    {raw : List (Option Word)} (gone : raw.any (·.isNone) = true) :
    (pllRun n raw s).shows (fGIU_PLL_STAT_state n) = 3 ∧
      (pllRun n raw s).shows (fGIU_PLL_MISS_cnt n) = min (s.get (fGIU_PLL_MISS_cnt n) + 1) (2 ^ 32 - 1) ∧
      (⟨34, nUnit n, false⟩ : SEvt) ∈ (pllRun n raw s).sage.inbox := by
  obtain ⟨r, -, fourth, shown⟩ := pllRun_steps on (by omega) raw
  obtain ⟨state, told⟩ := shown.lost (fourth act gone (by rw [pllBegun_pll]; exact miss)) (by rw [pllBegun_get]; omega)
  exact ⟨state, by rw [shown.counted gone, pllBegun_get], told⟩

end Sys2Proof.Proofs
end

section
/-! PROOFS. O25: references, acknowledgements, and the statement (05_grid_and_pv.md R157 to R159, R173, R178). -/
namespace Sys2Proof.Proofs
open Sys2Proof Sys2Proof.Machine Sys2Proof.Laws

variable {n : Nat} {s : State}

/-! GIU_REFERENCE (R178). -/

theorem giuReference_keeps (n : Nat) (id iq : Word) (s : State) :
    ((giuReference n id iq s).gu n).isl.ref = mag2 (id, iq) ∧ ((giuReference n id iq s).gu n).isl.cur = true ∧
      ((giuReference n id iq s).gu n).pll = (s.gu n).pll := by
  unfold giuReference
  rw [gu_putGu]
  exact ⟨rfl, rfl, rfl⟩

@[simp] theorem fabUse_giu (q i c : Nat) (s : State) : (fabUse q i c s).giu = s.giu := by
  obtain ⟨l, w, h⟩ := fabUse_eq q i c s
  rw [h]
  rfl

/-- The reference that arrives: the sealed one that waits on the link, or the operands. -/
theorem runs_giuReference {u : Fin 8} {id iq : Word} {P : State → Prop} (run : s.isRun 8 = true)
    (h : P (giuReference u.val ((Tab.find s.giu.refs u.val).getD (id, iq)).1 ((Tab.find s.giu.refs u.val).getD (id, iq)).2
      (fabUse 5 8 0 (s.setGiu { s.giu with refs := Tab.del s.giu.refs u.val })))) : Runs (.giuReference u id iq) s P :=
  ⟨_, congrArg done (if_pos run), h⟩

/-! RT_ACK (R173). -/

@[simp] theorem granted_giu (s : State) (r : Req) (b : Block) : (s.granted r b).giu = s.giu := fabUse_giu _ _ _ s

theorem runs_rtAck {r : Req} {u : Fin 8} {P : State → Prop} (hg : s.grants r (aGIU_RT_CMD u.val) true = true)
    (h : ∀ b, P (rtAck u.val (s.granted r b))) : Runs (.rtAck r u) s P := by
  obtain ⟨b, -, run⟩ := access_of_grants hg (rtAck u.val)
  exact ⟨_, rfl, run ▸ h b⟩

/-- Without the latch, or in another state than TRIP and ISLAND, nothing happens. -/
theorem rtAck_unlatched (h : s.on (fGIU_RT_CFG_trip_latch n) = false) : rtAck n s = s := if_neg (by simp [h])

/-- A latched TRIP or ISLAND is released. -/
theorem rtAck_latched (en : s.on (fGIU_RT_CFG_en n) = true) (latch : s.on (fGIU_RT_CFG_trip_latch n) = true)
    (st : s.get (fGIU_RT_STAT_state n) = 5 ∨ s.get (fGIU_RT_STAT_state n) = 6) : rtAck n s = seqState n 1 32 s := by
  unfold rtAck
  extract_lets was
  exact if_pos (by obtain st | st := st <;> simp [en, latch, was, st])

/-- What a record leaves of the registers of the grid page, of the units and of Sage's inbox. -/
theorem record_giu (s : State) (code : Nat) (b : Block) (pay : List Byte) : (∀ a, pageOf a = 6 → (s.record code b pay).rd a = s.rd a) ∧
    (s.record code b pay).giu = s.giu ∧ (s.record code b pay).sage = s.sage := by
  obtain ⟨-, -, -, same⟩ := touch_record (Sub.refl _) s code b pay (Touch.rfl' _ s)
  exact ⟨same (.regs 6) (by decide), same .giu (by decide), same .sage (by decide)⟩

theorem giuIrq_shows_ne (i : Nat) {f : Fld} (h : f.addr ≠ 0x40060010) (s : State) : (giuIrq i s).shows f = s.shows f :=
  shows_put_ne s 1 h.symm

theorem giuIrq_shows {i : Nat} (h : i < 32) (s : State) : (giuIrq i s).shows (hRaw 0x40060000 i) = 1 :=
  shows_put_bit s _ (by decide) h rfl

theorem giuIrq_gu (i n : Nat) (s : State) : (giuIrq i s).gu n = s.gu n := by
  unfold State.gu
  rw [show (giuIrq i s).giu = s.giu from wr_giu _ _ _]

theorem putGu_shows (s : State) (n : Nat) (g : GUnit) (f : Fld) : (s.putGu n g).shows f = s.shows f := rfl

/-- A sequencer that enters WAIT shows it, clears its timers, raises its interrupt and tells Sage nothing (R173, R174). -/
theorem seqState_wait (h : s.get (fGIU_RT_STAT_state n) ≠ 1) (pt : Nat) :
    (seqState n 1 pt s).shows (fGIU_RT_STAT_state n) = 1 ∧ ((seqState n 1 pt s).gu n).rt.acc = [] ∧
      (seqState n 1 pt s).shows (hRaw 0x40060000 4) = 1 ∧ (seqState n 1 pt s).sage.inbox = s.sage.inbox := by
  unfold seqState
  extract_lets was s1 s2 g _ rt rt' s3 s4 s5
  rw [if_neg h, if_neg (by decide)]
  have state : s2.shows (fGIU_RT_STAT_state n) = 1 := by
    have entered : s1.shows (fGIU_RT_STAT_state n) = 1 := shows_put s (fGIU_RT_STAT_state n) 1 (show 0 + 3 ≤ 32 by decide)
    rw [← entered]
    exact shows_put_disj (f := fGIU_RT_STAT_pt n) (g := fGIU_RT_STAT_state n) s1 _ (.inl (show 0 + 3 ≤ 11 by decide))
  have inbox : s2.sage.inbox = s.sage.inbox := rfl
  clear_value s2
  have kept : s3.shows (fGIU_RT_STAT_state n) = 1 := by
    rw [giuIrq_shows_ne 4 (by dsimp only [aGIU_RT_STAT]; omega), putGu_shows]
    exact state
  have timers : (s3.gu n).rt.acc = [] := by
    rw [giuIrq_gu, gu_putGu]
    rfl
  have flag : s3.shows (hRaw 0x40060000 4) = 1 := giuIrq_shows (by decide) _
  have told : s3.sage.inbox = s.sage.inbox := inbox
  clear_value s3
  obtain ⟨regs, giu, sage⟩ := record_giu s3 0x50 .giu ([n, was, 1, if pt < 32 then pt else 0xFF].map (BitVec.ofNat 8))
  refine ⟨?_, ?_, ?_, ?_⟩
  · exact (congrArg (Word.fld · 0 3) (regs _ (page_aGIU_RT_STAT n))).trans kept
  · exact (congrArg (fun x => (Tab.get {} x.units n).rt.acc) giu).trans timers
  · exact (congrArg (Word.fld · 4 1) (regs _ (by decide))).trans flag
  · exact (congrArg Sage.inbox sage).trans told

/-- Settles O25: a step in its stages, each of which leaves the figures of those before it; a reference and an acknowledgement act on
the state the access has left. -/
theorem gridUnits : Obligations.GridUnits := by
  unfold Obligations.GridUnits
  refine ⟨?step, ?fourth, ?off, ?reference, ?latched, ?unlatched⟩
  case step =>
    intro n a b c s on st adc
    exact ⟨_, execPllStep_operands adc, pllRun_complete on st rfl⟩
  case fourth =>
    intro n a b c s on adc act miss gone
    refine ⟨_, execPllStep_operands adc, pllRun_fourth on act miss ?_⟩
    obtain rfl | rfl | rfl := gone <;> simp
  case off => exact fun n a b c s st adc => ⟨s, (execPllStep_operands adc).trans (congrArg done (pllRun_off st _)), rfl⟩
  case reference =>
    intro n id iq s run
    refine runs_giuReference run ?_
    obtain ⟨ref, cur, pll⟩ := giuReference_keeps n.val ((Tab.find s.giu.refs n.val).getD (id, iq)).1
      ((Tab.find s.giu.refs n.val).getD (id, iq)).2 (fabUse 5 8 0 (s.setGiu { s.giu with refs := Tab.del s.giu.refs n.val }))
    refine ⟨ref, cur, pll.trans ?_, fun a _ => fabUse_rd 5 8 0 _ a⟩
    unfold State.gu
    rw [fabUse_giu]
    rfl
  case latched =>
    intro r n s hg en latch st
    refine runs_rtAck hg fun b => ?_
    rw [rtAck_latched (by rw [granted_on]; exact en) (by rw [granted_on]; exact latch) (by rw [granted_get]; exact st)]
    obtain ⟨state, timers, flag, inbox⟩ := seqState_wait (n := n.val) (s := s.granted r b) (by rw [granted_get]; omega) 32
    exact ⟨state, timers, flag, inbox.trans (granted_inbox s r b)⟩
  case unlatched =>
    intro r n s hg latch
    refine runs_rtAck hg fun b => ?_
    rw [rtAck_unlatched (by rw [granted_on]; exact latch)]
    exact ⟨granted_giu s r b, fun a _ => granted_rd s r b a⟩

end Sys2Proof.Proofs
end

section
/-! PROOFS. O2: a tick of Thyme on an empty queue (06_thyme_and_pwm.md R197, R201; 11_machine_safety_io.md R393). -/
namespace Sys2Proof.Proofs
open Sys2Proof Sys2Proof.Machine Sys2Proof.Laws

variable {s t : State}

theorem step_of_idle (h : s.pending = []) : step s = .next (idle s) := by
  unfold step
  rw [h]

/-- A tick is 32 fine ticks, and one more or one less where the slew has summed up to one (R197). -/
theorem slewStep_bounds (s : State) : 31 ≤ s.slewStep.1 ∧ s.slewStep.1 ≤ 33 := by
  unfold State.slewStep
  dsimp only
  split
  · simp
  · split <;> simp

/-- Without slew the sum stays 0 and the tick is 32 fine ticks. -/
theorem slewStep_of_noSlew (slew : s.get fTHY_SLEW_slew = 0) (acc : s.slewAcc = 0) : s.slewStep = (32, 0) := by
  unfold State.slewStep
  rw [slew, acc]
  rfl

theorem msioSample_now (s : State) : (msioSample s).now = s.now := by
  obtain ⟨-, -, -, same⟩ := touch_msioSample (Sub.refl _) s (Touch.rfl' _ s)
  exact same .now rfl

/-- MSIO's sample, where it is due, takes no time. -/
theorem idle_now (s : State) : (idle s).now = s.now + s.slewStep.1 := by
  unfold idle
  dsimp only
  split
  · rfl
  · exact msioSample_now _

/-- A tick without slew that crosses no microsecond only moves Thyme. -/
theorem idle_within_us (slew : s.get fTHY_SLEW_slew = 0) (acc : s.slewAcc = 0) (within : (s.now + 32) / us = s.now / us) :
    idle s = s.setNow (s.now + 32) := by
  have same : s.setSlewAcc 0 = s := by
    rw [← acc]
    rfl
  unfold idle
  rw [slewStep_of_noSlew slew acc]
  dsimp only
  rw [same]
  exact if_pos within

/-- Settles O2: the tick's length is bounded by the slew's step, and without slew and sample nothing but Thyme is written. -/
theorem idleTick : Obligations.IdleTick := by
  unfold Obligations.IdleTick
  refine ⟨?length, ?still⟩
  case length =>
    intro s t empty h
    rw [step_of_idle empty] at h
    cases h
    have := slewStep_bounds s
    rw [idle_now]
    omega
  case still =>
    intro s empty slew acc within
    rw [step_of_idle empty, idle_within_us slew acc within]

end Sys2Proof.Proofs
end

section
/-! PROOFS. What trips, safe states and the edges of legs leave of the timebase groups: Thyme, the groups' registers, and their places in
time (06_thyme_and_pwm.md R211 to R213; 07_trips_and_leg_protection.md R241 to R258; 03_basil_control_engine.md R93). -/
namespace Sys2Proof.Proofs
open Sys2Proof Sys2Proof.Machine Sys2Proof.Laws

/-- A group's place in time: all of it but the sets that come for it, the sample instants that wait and the legs that its windows leave
out. -/
def groupPlace (t : Tbg) : Tbg :=
  { t with taken := t.taken.map ({ · with skip := [] }), sets := [], wire := [], smp := [] }

/-- The timebase groups stand: Thyme, the copies of registers, the groups' registers and the place of each group are the same. -/
structure GroupsStand (s t : State) : Prop where
  now : t.now = s.now
  tmr : t.tmr = s.tmr
  regs : ∀ a, (tbgAt a).isSome = true → t.rd a = s.rd a
  place : ∀ g, groupPlace (t.tbg g) = groupPlace (s.tbg g)

variable {x s t u : State}

/-! Registers that are no group's. -/

theorem tbgAt_of_lt {a : Nat} (h : a < 0x40021000) : tbgAt a = none := by
  unfold tbgAt
  rw [if_neg (by simp only [Bool.and_eq_true, decide_eq_true_eq]; omega)]

theorem tbgAt_of_page {a k : Nat} (e : pageOf a = k) (hk : (k == 2) = false) : tbgAt a = none := by
  have page : pageOf a ≠ 2 := e ▸ beq_eq_false_iff_ne.mp hk
  unfold pageOf at page
  unfold tbgAt
  rw [if_neg (by simp only [Bool.and_eq_true, decide_eq_true_eq]; omega)]

/-! Operations on the state. -/

theorem GroupsStand.refl (s : State) : GroupsStand s s := ⟨rfl, rfl, fun _ _ => rfl, fun _ => rfl⟩

theorem GroupsStand.trans (h : GroupsStand s t) (k : GroupsStand t u) : GroupsStand s u :=
  ⟨k.now.trans h.now, k.tmr.trans h.tmr, fun a ha => (k.regs a ha).trans (h.regs a ha), fun g => (k.place g).trans (h.place g)⟩

/-- What changes neither Thyme's page, nor a group, nor the time, nor a copy. -/
theorem GroupsStand.touch {p : Nat} (h : GroupsStand x s) (k : Touch p s s → Touch p s u)
    (hp : has p 2 = false ∧ has p 19 = false ∧ has p 23 = false ∧ has p 35 = false) : GroupsStand x u := by
  obtain ⟨-, -, -, same⟩ := k (Touch.rfl' p s)
  obtain ⟨page, now, tmr, tbgs⟩ := hp
  have groups : u.tbgs = s.tbgs := same .tbgs tbgs
  refine h.trans ⟨same .now now, same .tmr tmr, fun a ha => same (.regs 2) page a ?_, fun g => by unfold State.tbg; rw [groups]⟩
  by_contra other
  rw [tbgAt_of_page rfl (beq_eq_false_iff_ne.mpr other)] at ha
  cases ha

theorem GroupsStand.wr {a : Nat} (h : GroupsStand x s) (ha : tbgAt a = none) (v : Word) : GroupsStand x (s.wr a v) := by
  refine h.trans ⟨rfl, rfl, fun b hb => rd_wr_ne s v ?_, fun _ => rfl⟩
  rintro rfl
  rw [ha] at hb
  cases hb

theorem GroupsStand.put {f : Fld} (h : GroupsStand x s) (hf : tbgAt f.addr = none) (v : Nat) : GroupsStand x (s.put f v) := h.wr hf _

theorem GroupsStand.incr {f : Fld} (h : GroupsStand x s) (hf : tbgAt f.addr = none) : GroupsStand x (s.incr f) := h.wr hf _
theorem GroupsStand.incrSat {f : Fld} (h : GroupsStand x s) (hf : tbgAt f.addr = none) : GroupsStand x (s.incrSat f) := h.wr hf _

/-- A register of a page other than Thyme's. -/
theorem GroupsStand.putPage {f : Fld} {k : Nat} (h : GroupsStand x s) (e : pageOf f.addr = k) (hk : (k == 2) = false) (v : Nat) :
    GroupsStand x (s.put f v) := h.put (tbgAt_of_page e hk) v

/-- A register of Thyme's page below those of the groups. -/
theorem GroupsStand.putLow {f : Fld} (h : GroupsStand x s) (e : f.addr < 0x40021000) (v : Nat) : GroupsStand x (s.put f v) :=
  h.put (tbgAt_of_lt e) v

theorem GroupsStand.sageEvt (h : GroupsStand x s) (e : Nat) (w : SageName) : GroupsStand x (s.sageEvt e w) :=
  h.trans ⟨rfl, rfl, fun _ _ => rfl, fun _ => rfl⟩

theorem GroupsStand.putTbg {g : Nat} {y : Tbg} (h : GroupsStand x s) (hy : groupPlace y = groupPlace (s.tbg g)) :
    GroupsStand x (s.putTbg g y) := by
  refine h.trans ⟨rfl, rfl, fun _ _ => rfl, fun j => ?_⟩
  show groupPlace (Tab.get {} (Tab.set {} s.tbgs g y) j) = _
  rw [get_set]
  split
  · rename_i e; rw [hy, e]
  · rfl

theorem GroupsStand.putLeg (h : GroupsStand x s) (n : Nat) (l : Leg) : GroupsStand x (s.putLeg n l) :=
  h.touch (touch_putLeg (Sub.refl _) s n l) (by decide)

theorem GroupsStand.putMg (h : GroupsStand x s) (m : Nat) (g : Mg) : GroupsStand x (s.putMg m g) :=
  h.touch (touch_putMg (Sub.refl _) s m g) (by decide)

theorem GroupsStand.record (h : GroupsStand x s) (code : Nat) (b : Block) (pay : List Byte) : GroupsStand x (s.record code b pay) :=
  h.touch (touch_record (Sub.refl _) s code b pay) (by decide)

theorem GroupsStand.ite {c : Prop} [Decidable c] (h : GroupsStand x s) (k : GroupsStand x t) :
    GroupsStand x (if c then s else t) := by
  split <;> assumption

/-- A step that is taken or left out. -/
theorem GroupsStand.maybe {c : Prop} [Decidable c] (h : GroupsStand x s) (k : GroupsStand x s → GroupsStand x t) :
    GroupsStand x (if c then t else s) := .ite (k h) h

theorem GroupsStand.when {c : Bool} {f : State → State} (h : GroupsStand x s) (k : GroupsStand x s → GroupsStand x (f s)) :
    GroupsStand x (s.when c f) := by
  unfold State.when
  exact h.maybe k

theorem GroupsStand.each {α : Type} {as : List α} {f : α → State → State} (h : GroupsStand x s)
    (k : ∀ a y, GroupsStand x y → GroupsStand x (f a y)) : GroupsStand x (s.each as f) :=
  each_keeps (fun a _ t ht => k a t ht) h

/-! Safe states of machine groups (07_trips_and_leg_protection.md R251 to R255). -/

/-- A leg that a window leaves out takes the window no time. -/
theorem GroupsStand.skipLeg (h : GroupsStand x s) (n : Nat) : GroupsStand x (skipLeg n s) := by
  refine h.putTbg ?_
  unfold groupPlace
  simp only [List.map_map]
  congr 1
  refine List.map_congr_left fun k _ => ?_
  dsimp only [Function.comp_apply]
  split <;> rfl

theorem GroupsStand.cancelOne (h : GroupsStand x s) (k : Nat) (o : Older) : GroupsStand x (cancelOne k o s) := by
  unfold Machine.cancelOne
  refine .touch (.touch (.touch (.incr (.each (.maybe ?withdrawn fun h => ?mirror) fun p y hy => ?sample)
    (tbgAt_of_page (k := 5) (by decide) rfl)) (touch_cntEvt (Sub.refl _) k 8 _) (by decide)) (touch_ctxIrq (Sub.refl _) k 4 _)
    (by decide)) (touch_traceEntry (Sub.refl _) k 1 _ _ _ _ _) (by decide)
  case withdrawn =>
    split
    · exact h.putTbg rfl
    · exact h
  case mirror => exact h.touch (touch_engToPair (Sub.refl _) _ _) (by decide)
  case sample => exact hy.touch (touch_predEntry (Sub.refl _) _ _ _) (by decide)

theorem GroupsStand.cancelStep (h : GroupsStand x s) (k : Nat) : GroupsStand x (cancelStep k s) :=
  ((h.touch (touch_sealFirst (Sub.refl _) k s) (by decide)).touch (touch_putCtx (Sub.refl _) _ k _) (by decide)).each
    fun o _ hy => hy.cancelOne k o

theorem GroupsStand.ctxEnters (h : GroupsStand x s) (k : Nat) : GroupsStand x (ctxEnters k s) :=
  ((h.cancelStep k).when fun h => h.touch (touch_putCw (Sub.refl _) _ k _ _) (by decide)).touch
    (touch_trkHold (Sub.refl _) k false _) (by decide)

theorem GroupsStand.retractLeg (h : GroupsStand x s) (n : Nat) (lim : Option Nat) : GroupsStand x (retractLeg n lim s) :=
  h.touch (touch_retractLeg (Sub.refl _) n lim s) (by decide)

theorem GroupsStand.holdLegs (h : GroupsStand x s) (m st : Nat) (ls : List Nat) : GroupsStand x (holdLegs m st ls s) :=
  h.each fun n _ hy => (((((hy.retractLeg n none).skipLeg n).putLeg n _).putPage (f := fLEG_STAT_hs n) (page_aLEG_STAT n) rfl _).putPage
    (f := fLEG_STAT_ls n) (page_aLEG_STAT n) rfl _).putPage (f := fLEG_TRIP_STAT_cbc_active n) (page_aLEG_TRIP_STAT n) rfl _

theorem GroupsStand.enterState (h : GroupsStand x s) (m st fb req code evt : Nat) : GroupsStand x (enterState m st fb req code evt s) := by
  have ended := h.touch (touch_disEnd (Sub.refl _) m 7 s) (by decide)
  unfold Machine.enterState
  refine .touch (.each (.maybe (.touch (.touch (.each ((ended.putMg m _).holdLegs m st _) fun n _ hy => ?incoming)
    (touch_forceLegs (Sub.refl _) _ _ _ _ _ _) (by decide)) (touch_entryMarks (Sub.refl _) m st fb req code evt _) (by decide))
    fun h => ?fallback) fun k _ hy => hy.ctxEnters k) (touch_hintChange (Sub.refl _) _ _) (by decide)
  case fallback =>
    exact ((h.incrSat (f := fMG_SAFE_CNT_fb_cnt m) (tbgAt_of_page (page_aMG_SAFE_CNT m) rfl)).putPage (f := fMG_IRQ_RAW_fallback m)
      (page_aMG_IRQ_RAW m) rfl 1).sageEvt 27 (nOther m)
  case incoming => exact (hy.retractLeg n none).skipLeg n

theorem GroupsStand.takeState (h : GroupsStand x s) (m req code evt : Nat) : GroupsStand x (takeState m req code evt s) :=
  .ite h (h.enterState m _ _ req code evt)

theorem GroupsStand.applyRequest (h : GroupsStand x s) (m req code evt : Nat) : GroupsStand x (applyRequest m req code evt s) :=
  .ite h ((h.putMg m _).takeState m req code evt)

theorem GroupsStand.leaveSide (h : GroupsStand x s) (m code evt : Nat) : GroupsStand x (leaveSide m code evt s) :=
  h.maybe (·.takeState m 1 code evt)

theorem GroupsStand.latchRequest (h : GroupsStand x s) (m req code evt : Nat) : GroupsStand x (latchRequest m req code evt s) := by
  have noted := h.putMg m { s.mg m with tripTick := some (s.now / 32) }
  exact .ite (.ite noted (noted.enterState m 3 0 req code evt)) ((noted.maybe (·.applyRequest m req code evt)).leaveSide m code evt)

/-! Latches (07_trips_and_leg_protection.md R241, R248, R264). -/

theorem GroupsStand.refreshSum (h : GroupsStand x s) (m : Nat) : GroupsStand x (refreshSum m s) :=
  (h.putPage (f := fMG_TRIP_STAT_leg m) (page_aMG_TRIP_STAT m) rfl _).putLow (f := bitFld aTHY_TRIP_SUM m)
    (by dsimp only [bitFld, aTHY_TRIP_SUM]; omega) _

theorem GroupsStand.latchGroup (h : GroupsStand x s) (m : Nat) {fl : Fld} (hf : pageOf fl.addr = 3) (code : Nat) (was : Bool) :
    GroupsStand x (latchGroup m fl code was s) := by
  have shown := (h.putPage hf rfl 1).refreshSum m
  exact .ite shown (((shown.putPage (f := fMG_IRQ_RAW_latch m) (page_aMG_IRQ_RAW m) rfl 1).record 0x21 .thy _).sageEvt 25 (nOther m))

theorem GroupsStand.latchLeg (h : GroupsStand x s) (n i code : Nat) (was : Bool) : GroupsStand x (latchLeg n i code was s) := by
  have bits := (h.putPage (page_bit_aLEG_TRIP_STAT n i) rfl 1).putPage (f := fLEG_TRIP_STAT_latched n) (page_aLEG_TRIP_STAT n) rfl 1
  have timed {c : Bool} {v : Word} := (bits.ite (c := c = true) (bits.wr (tbgAt_of_page (page_aLEG_TRIP_TIME n) rfl) v)).refreshSum (s.legMg n)
  exact .ite timed (((timed.putPage (f := fMG_IRQ_RAW_latch (s.legMg n)) (page_aMG_IRQ_RAW _) rfl 1).record 0x21 .thy _).sageEvt 25 (nLeg n))

theorem GroupsStand.latchAgain (h : GroupsStand x s) (m req code : Nat) (was : Bool) : GroupsStand x (latchAgain m req code was s) :=
  .ite h (h.latchRequest m req code 0xFF)

/-! Actions of sources (R241 to R246, R262). -/

theorem GroupsStand.notifyLeg (h : GroupsStand x s) (n : Nat) : GroupsStand x (notifyLeg n s) :=
  h.touch (touch_notifyLeg (Sub.refl _) n s) (by decide)

theorem GroupsStand.cbcLimit (h : GroupsStand x s) (n code : Nat) : GroupsStand x (cbcLimit n code s) := by
  have told := ((h.record 0x22 .thy [BitVec.ofNat 8 n, BitVec.ofNat 8 code]).sageEvt 26 (nLeg n)).putPage (f := fLEG_TRIP_EVT_last n)
    (page_aLEG_TRIP_EVT n) rfl 0x86
  exact (told.latchLeg n 7 0x86 _).latchRequest _ _ 0x86 0xFF

theorem GroupsStand.countCbc (h : GroupsStand x s) (n code : Nat) : GroupsStand x (countCbc n code s) := by
  have counted := (h.incrSat (f := fLEG_CBC_TOT_cnt n) (tbgAt_of_page (page_aLEG_CBC_TOT n) rfl)).putPage
    (f := fMG_IRQ_RAW_cbc (s.legMg n)) (page_aMG_IRQ_RAW _) rfl 1
  have stat {y : State} (hy : GroupsStand x y) (v : Nat) : GroupsStand x (y.put (fLEG_TRIP_STAT_cbc_cnt n) v) :=
    hy.putPage (f := fLEG_TRIP_STAT_cbc_cnt n) (page_aLEG_TRIP_STAT n) rfl v
  unfold Machine.countCbc
  exact .ite (counted.putLeg n _) (.ite ((stat (counted.putLeg n _) 0).cbcLimit n code) (stat (counted.putLeg n _) _))

/-- The count of a trip in a dead time. -/
theorem GroupsStand.deadCount (h : GroupsStand x s) (n : Nat) : GroupsStand x (s.incrSat (fLEG_TRIP_EVT_dt_cnt n)) :=
  h.incrSat (tbgAt_of_page (page_aLEG_TRIP_EVT n) rfl)

theorem GroupsStand.cbcLeg (h : GroupsStand x s) (n code : Nat) : GroupsStand x (cbcLeg n code s) := by
  refine .ite (h.notifyLeg n) (.ite (.ite (h.countCbc n code) (h.notifyLeg n)) (.countCbc (.touch (.when h fun h => ?dead)
    (touch_cbcHold (Sub.refl _) n _ _) (by decide)) n code))
  exact h.deadCount n

theorem GroupsStand.latchAct (h : GroupsStand x s) (n i code : Nat) (r : Option Nat) : GroupsStand x (latchAct n i code r s) := by
  have latched {c was : Bool} := (h.when (c := c) (f := fun s => Machine.countCbc n code (s.incrSat (fLEG_TRIP_EVT_dt_cnt n))) fun h =>
    (h.deadCount n).countCbc n code).latchLeg n i code was
  unfold Machine.latchAct
  cases r with
  | none => exact latched.latchAgain _ _ code _
  | some r => exact (latched.ite (latched.putLeg n _)).latchAgain _ _ code _

theorem GroupsStand.actLeg (h : GroupsStand x s) (n i code act : Nat) (r : Option Nat) : GroupsStand x (actLeg n i code act r s) := by
  have named := h.putPage (f := fLEG_TRIP_EVT_last n) (page_aLEG_TRIP_EVT n) rfl code
  exact .ite h (.ite (named.notifyLeg n) (.ite (named.cbcLeg n code) (named.latchAct n i code r)))

theorem GroupsStand.actSat (h : GroupsStand x s) (n i : Nat) : GroupsStand x (actSat n i s) := h.actLeg n (i + 1) (0x80 + i) _ none

/-- The count of a routed source. -/
theorem GroupsStand.tripCount (h : GroupsStand x s) (r : Nat) : GroupsStand x (s.incrSat (fTHY_TRIP_CNT_cnt r)) :=
  h.incrSat (tbgAt_of_lt (by dsimp only [aTHY_TRIP_CNT]; omega))

theorem GroupsStand.actRouted (h : GroupsStand x s) (r : Nat) : GroupsStand x (actRouted r s) := by
  have counted := h.tripCount r
  unfold Machine.actRouted
  refine .ite h (.ite (.ite counted (.ite (h.putLeg _ _) (counted.actLeg _ 0 _ _ (some r)))) (.ite counted ?_))
  have named {ls : List Nat} := counted.each (as := ls) (f := fun n s => s.put (fLEG_TRIP_EVT_last n) (routedCode r)) fun n _ hy =>
    hy.putPage (f := fLEG_TRIP_EVT_last n) (page_aLEG_TRIP_EVT n) rfl _
  refine .ite (named.putPage (f := fMG_IRQ_RAW_notify _) (page_aMG_IRQ_RAW _) rfl 1) (.ite (named.each fun n _ hy =>
    hy.actLeg n 0 _ 1 (some r)) ?_)
  have dead {ls : List Nat} {was : Bool} {m : Nat} := (named (ls := ls)).each (as := ls) (f := fun n s =>
      s.when ((s.leg n).held == 0 && s.tbgRun (s.legTbg n) && s.inDead n) fun s =>
        Machine.countCbc n (routedCode r) (s.incrSat (fLEG_TRIP_EVT_dt_cnt n))) (fun n _ hy => hy.when fun h =>
      (h.deadCount n).countCbc n _) |>.latchGroup m
      (fl := fMG_TRIP_STAT_routed m) (page_aMG_TRIP_STAT m) (routedCode r) was
  exact (dead.ite (dead.putMg _ _)).latchAgain _ _ _ _

theorem GroupsStand.reAct (h : GroupsStand x s) (n : Nat) (blankedOnly : Bool) : GroupsStand x (reAct n blankedOnly s) := by
  have routed {l : List Nat} := h.each (as := l) (f := fun r s =>
      if s.on (fTHY_TRIP_SRC_scope r) then Machine.actLeg n 0 (routedCode r) 1 (some r) (s.incrSat (fTHY_TRIP_CNT_cnt r))
      else Machine.actRouted r s) fun r _ hy => .ite ((hy.tripCount r).actLeg n 0 _ 1 (some r)) (hy.actRouted r)
  exact .ite routed (routed.each fun i _ hy => hy.actSat n i)

theorem GroupsStand.newlyActing (h : GroupsStand x s) (n : Nat) (o : State) : GroupsStand x (newlyActing n o s) :=
  .ite h (h.each fun i _ hy => hy.actSat n i)

theorem GroupsStand.endCbc (h : GroupsStand x s) (b n : Nat) : GroupsStand x (endCbc b n s) := by
  unfold Machine.endCbc
  dsimp only
  split
  · exact .ite (((h.putLeg n _).putPage (f := fLEG_TRIP_STAT_cbc_active n) (page_aLEG_TRIP_STAT n) rfl 0).reAct n false) h
  · exact h

theorem GroupsStand.shootTrips (h : GroupsStand x s) (n c : Nat) : GroupsStand x (shootTrips n c s) := by
  induction c generalizing s with
  | zero => exact h
  | succ c ih => exact ih ((h.sageEvt 23 (nLeg n)).actLeg n 6 0x85 _ none)

end Sys2Proof.Proofs
end

section
/-! PROOFS. O27: the hand-off of a window without shadows (06_thyme_and_pwm.md R211, R212). -/
namespace Sys2Proof.Proofs
open Sys2Proof Sys2Proof.Machine Sys2Proof.Laws

variable {x s t u : State} {g : Nat}

theorem SameConf.hofs (h : SameConf s t) : t.hofs = s.hofs := by
  funext g
  simp only [State.hofs, h.lMax, h.plan]

/-! The edges, sample instants and triggers of a window (R207, R224, R225). -/

theorem GroupsStand.hubEdges (h : GroupsStand x s) (n : Nat) (es : List Edge) : GroupsStand x (s.each es (hubEdge n)) :=
  h.each fun e _ hy => hy.touch (touch_hubEdge (Sub.refl _) n e _) (by decide)

/-- A step that is left out or taken. -/
theorem GroupsStand.unless {c : Prop} [Decidable c] (h : GroupsStand x s) (k : GroupsStand x s → GroupsStand x t) :
    GroupsStand x (if c then s else t) := .ite h (k h)

theorem GroupsStand.addSat {f : Fld} (h : GroupsStand x s) (hf : tbgAt f.addr = none) (n : Nat) : GroupsStand x (s.addSat f n) := h.wr hf _

theorem GroupsStand.emitLeg (h : GroupsStand x s) (k : Taken) (vals : Vals) (n : Nat) : GroupsStand x (emitLeg k vals n s).1 := by
  have stat : tbgAt (aLEG_STAT n) = none := tbgAt_of_page (page_aLEG_STAT n) rfl
  have boot : tbgAt (aLEG_BOOT n) = none := tbgAt_of_page (page_aLEG_BOOT n) rfl
  have low {a : Nat} (ha : a < 0x40021000) : tbgAt a = none := tbgAt_of_lt ha
  unfold Machine.emitLeg
  refine .hubEdges (.unless (.unless (.ite ?half ?whole) fun h => ?clamped) fun h => ?shot) n _
  case half =>
    exact .put (f := fLEG_BOOT_ins n) (.put (f := fLEG_STAT_ls n) (.put (f := fLEG_STAT_hs n) (h.putLeg n _) stat _) stat _) boot 0
  case whole =>
    refine .maybe (.put (f := fLEG_BOOT_ins n) (.put (f := fLEG_BOOT_req n) (.put (f := fLEG_STAT_ls n) (.put (f := fLEG_STAT_hs n)
      (h.putLeg n _) stat _) stat _) boot _) boot _) fun h => h.incrSat (f := fLEG_BOOT_ins_cnt n) boot
  case clamped =>
    exact ((h.put (f := fLEG_STAT_clamp n) stat 1).addSat (f := fLEG_STAT_clamp_cnt n) stat _).put (f := fTHY_IRQ_RAW_clamp)
      (low (by decide)) 1
  case shot =>
    exact (((h.put (f := fLEG_STAT_shoot_req n) stat 1).addSat (f := fLEG_STAT_shoot_cnt n) stat _).addSat (f := fTHY_SHOOT_CNT_cnt)
      (low (by decide)) _).put (f := fTHY_IRQ_RAW_shoot) (low (by decide)) 1

theorem GroupsStand.emitSamples (h : GroupsStand x s) (g : Nat) (k : Taken) (vals : Vals) : GroupsStand x (emitSamples g k vals s) := by
  have sampled {y : State} (hy : GroupsStand x y) (p t mask : Nat) : GroupsStand x (hubSample p t mask y) :=
    hy.touch (touch_hubSample (Sub.refl _) p t mask _) (by decide)
  exact .each (.each (h.putTbg rfl) fun t _ hy => hy.each fun p _ hz => sampled hz p t _) fun y _ hz => sampled hz _ _ _

theorem GroupsStand.emitTriggers (h : GroupsStand x s) (g : Nat) (k : Taken) (vals : Vals) : GroupsStand x (emitTriggers g k vals s) :=
  h.touch (touch_emitTriggers (Sub.refl _) g k vals s) (by decide)

/-! The hand-off. -/

/-- A group that no context drives, whose commit does not wait, without shadows and without windows handed over, hands off whole
periods (R212, R217). -/
structure PlainGroup (g : Nat) (s : State) : Prop where
  taken : (s.tbg g).taken = []
  hMid : (s.tbg g).hMid = false
  stopPend : (s.tbg g).stopPend = false
  half : s.halfMode g = false
  kern : s.kern g = false
  bnd : s.bnd = []
  pend : s.on (fTBG_STAT_cmt_pend g) = false

/-- The window of one period from the boundary that comes next at the hand-off. -/
def periodWindow (g : Nat) (s : State) : Taken :=
  { b := (s.tbg g).hB, w := (s.tbg g).hB, e := (s.tbg g).hB + s.periodF g, p := s.periodF g }

/-- The group with that window handed over. -/
def handedOver (g : Nat) (s : State) : Tbg :=
  { s.tbg g with
    taken := [periodWindow g s], hB := (s.tbg g).hB + s.periodF g, hMid := false, hBase := (s.tbg g).hB,
    stopPend := false, handAt := some (max s.now ((s.tbg g).hB + s.periodF g - 32 * s.hofs g)) }

theorem handOverruns_of_software (kern : s.kern g = false) : handOverruns g s = s := by
  unfold handOverruns
  rw [Option.isSome_eq_false_iff.mp kern |> Option.isNone_iff_eq_none.mp]

theorem pickSet_of_software (kern : s.kern g = false) : pickSet g s = (none, s) := by
  unfold pickSet
  simp [kern]

theorem judgeCommit_of_none (pend : s.on (fTBG_STAT_cmt_pend g) = false) (ks : Option KSet) (vals : Vals) :
    judgeCommit g ks vals s = (false, s) := by
  unfold judgeCommit
  simp [pend]

/-- Legs emit one after another; what they report beside that does not matter to the groups. -/
theorem GroupsStand.foldlFst {α β : Type} {l : List α} {f : State × β → α → State × β} {p : State × β} (h : GroupsStand x p.1)
    (k : ∀ a p, GroupsStand x p.1 → GroupsStand x (f p a).1) : GroupsStand x (l.foldl f p).1 := by
  induction l generalizing p with
  | nil => exact h
  | cons a r ih => exact ih (k a p h)

/-- The boundaries of a software-driven group are those of whole periods under the values in force too. -/
theorem half_tk_of_software (half : s.halfMode g = false) (kern : s.kern g = false) :
    (s.tk [] (fTBG_CFG_mode g) == 2 && s.tk [] (fTBG_CFG_upd g) == 1) = false := by
  unfold State.halfMode State.on at half
  rw [kern, Bool.not_false, Bool.and_true] at half
  show (s.get (fTBG_CFG_mode g) == 2 && s.get (fTBG_CFG_upd g) == 1) = false
  by_cases upd : s.get (fTBG_CFG_upd g) = 1
  · simpa [upd] using half
  · simp [upd]

theorem setBnd_nil (bnd : s.bnd = []) : s.setBnd [] = s := by
  rw [← bnd]
  rfl

theorem handOff_plain (h : PlainGroup g s) : GroupsStand (s.putTbg g (handedOver g s)) (handOff g s) := by
  obtain ⟨taken, hMid, stopPend, half, kern, bnd, pend⟩ := h
  have vals : s.bndVals g [] = [] := by
    unfold State.bndVals
    rw [bnd]
    rfl
  have base : takenVals [] = [] := rfl
  unfold handOff
  rw [handOverruns_of_software kern]
  simp only [pickSet_of_software kern, judgeCommit_of_none pend, taken, base, vals, bnd, setBnd_nil bnd, half_tk_of_software half kern, hMid, stopPend,
    kern, Bool.false_eq_true, if_false, Bool.not_false, Bool.and_true, Bool.false_and, Bool.or_false, List.filter_nil, List.append_nil, List.nil_append]
  refine .each (.emitTriggers (.emitSamples ?edges g _ _) g _ _) fun p y hy => ?shot
  case edges =>
    refine .foldlFst ?placed fun n p hp => hp.emitLeg _ _ n
    exact .refl (s.putTbg g (handedOver g s))
  case shot => exact hy.shootTrips p.1 p.2

/-! HAND_OFF. -/

theorem handOffAt_eq {h : Nat} (run : s.tbgRun g = true) (due : (s.tbg g).handAt = some h) :
    handOffAt g s = handOff g (s.setNow (max s.now h)) := by
  unfold handOffAt
  rw [if_pos run, due]
  exact congrArg (handOff g) (reach_eq s h)

theorem PlainGroup.setNow (h : PlainGroup g s) (n : Nat) : PlainGroup g (s.setNow n) :=
  ⟨h.taken, h.hMid, h.stopPend, h.half, h.kern, h.bnd, h.pend⟩

theorem handedOver_setNow (g : Nat) (s : State) (n : Nat) : handedOver g (s.setNow n) =
    { handedOver g s with handAt := some (max n ((s.tbg g).hB + s.periodF g - 32 * s.hofs g)) } := by
  have tbg : (s.setNow n).tbg g = s.tbg g := rfl
  have window : periodWindow g (s.setNow n) = periodWindow g s := rfl
  have period : (s.setNow n).periodF g = s.periodF g := rfl
  unfold handedOver
  rw [tbg, window, period, (SameConf.setNow s n).hofs, setNow_now]

/-- The starts and ends of the windows handed over belong to a group's place. -/
theorem windows_of_place {a b : Tbg} (h : groupPlace a = groupPlace b) :
    a.taken.map (fun k => (k.w, k.e)) = b.taken.map (fun k => (k.w, k.e)) := by
  have skipless (t : Tbg) : (groupPlace t).taken.map (fun k => (k.w, k.e)) = t.taken.map (fun k => (k.w, k.e)) := by
    unfold groupPlace
    rw [List.map_map]
    rfl
  rw [← skipless a, h, skipless b]

theorem hB_of_place {a b : Tbg} (h : groupPlace a = groupPlace b) : a.hB = b.hB := (congrArg Tbg.hB h :)
theorem handAt_of_place {a b : Tbg} (h : groupPlace a = groupPlace b) : a.handAt = b.handAt := (congrArg Tbg.handAt h :)

theorem runs_handOff {g : Fin 32} {h : Nat} (run : s.tbgRun g.val = true) (due : (s.tbg g.val).handAt = some h)
    (plain : PlainGroup g.val s) : Runs (.handOff g) s (fun u => u.now = max s.now h ∧
      (u.tbg g.val).taken.map (fun k => (k.w, k.e)) = [((s.tbg g.val).hB, (s.tbg g.val).hB + s.periodF g.val)] ∧
      (u.tbg g.val).hB = (s.tbg g.val).hB + s.periodF g.val ∧
      (u.tbg g.val).handAt = some (max u.now ((u.tbg g.val).hB - 32 * s.hofs g.val))) := by
  refine ⟨handOffAt g.val s, rfl, ?_⟩
  rw [handOffAt_eq run due]
  have stand := handOff_plain (plain.setNow (max s.now h))
  generalize handOff g.val (s.setNow (max s.now h)) = u at stand
  have now : u.now = max s.now h := stand.now
  have place := stand.place g.val
  rw [tbg_putTbg, handedOver_setNow] at place
  refine ⟨now, windows_of_place place, hB_of_place place, ?_⟩
  rw [hB_of_place place, now]
  exact handAt_of_place place

end Sys2Proof.Proofs
end

section
/-! PROOFS. O27: the boundary of a window without shadows (06_thyme_and_pwm.md R213). -/
namespace Sys2Proof.Proofs
open Sys2Proof Sys2Proof.Machine Sys2Proof.Laws

variable {x s t u : State} {g : Nat} {k : Taken}

/-- A window that carries no value, no set and no commit, and begins a whole period (R213). -/
structure BareWindow (k : Taken) : Prop where
  vals : k.vals = []
  kset : k.kset = none
  gen : k.gen = none
  newPer : k.newPer = false
  stop : k.stop = false
  mid : k.mid = false

/-- The group in a window that carries no set. -/
def begun (g : Nat) (k : Taken) (s : State) : Tbg :=
  { s.tbg g with taken := [], b := k.b, nextB := k.e, mid := k.e < k.b + k.p }

/-- What a boundary shows: the running flag, its event, the period count and the next boundary (R213, R235). -/
def showBegun (g : Nat) (s : State) : State :=
  showNext g (tbgIrq g 0 (((s.raise (fTBG_STAT_run g)).lower (fTBG_STAT_start_pend g)).incr (fTBG_PCNT_cnt g)))

theorem applyTaken_bare (vals : k.vals = []) (kset : k.kset = none) : applyTaken k s = s := by
  unfold applyTaken
  rw [vals, kset]
  rfl

theorem applied_bare (kset : k.kset = none) : k.applied = false := by
  unfold Taken.applied
  rw [kset]

theorem boundary_bare (taken : (s.tbg g).taken = [k]) (bare : BareWindow k) :
    ∃ y, GroupsStand (s.putTbg g (begun g k s)) y ∧ GroupsStand (showBegun g y) (boundary g s) := by
  obtain ⟨vals, kset, gen, newPer, stop, mid⟩ := bare
  unfold boundary
  rw [taken]
  simp only [vals, kset, gen, newPer, stop, mid, applied_bare kset, applyTaken_bare vals kset, List.any_nil, Bool.or_false,
    Bool.false_eq_true, if_false]
  refine ⟨_, ?before, .each (.each (.each (.refl _) ?released) ?again) ?ended⟩
  case before =>
    refine .each (.maybe (.refl _) fun h => .each (.each h ?period) ?points) fun n y hy => hy.newlyActing n _
    case period => exact fun n _ hy => hy.touch (touch_legPeriod (Sub.refl _) _ _ n _) (by decide)
    case points => exact fun j _ hy => hy.touch (touch_countPoints (Sub.refl _) j _ _ _) (by decide)
  case released => exact fun n _ hy => hy.touch (touch_releaseLeg (Sub.refl _) _ n _) (by decide)
  case again => exact fun n _ hy => hy.reAct n false
  case ended => exact fun n _ hy => hy.endCbc _ n

/-! What the boundary shows. -/

/-- A register of a group's registers (R235). -/
theorem tbgAt_isSome {a : Nat} (low : 0x40021000 ≤ a) (high : a < 0x40022000) : (tbgAt a).isSome = true := by
  unfold tbgAt
  rw [if_pos (by simp [low, high])]
  rfl

theorem GroupsStand.shows {f : Fld} (h : GroupsStand s t) (hf : (tbgAt f.addr).isSome = true) : t.shows f = s.shows f := by
  unfold State.shows
  rw [h.regs _ hf]

theorem GroupsStand.get {f : Fld} (h : GroupsStand s t) (hf : (tbgAt f.addr).isSome = true) : t.get f = s.get f :=
  get_of_rd (h.regs _ hf) h.tmr

theorem b_of_place {a b : Tbg} (h : groupPlace a = groupPlace b) : a.b = b.b := (congrArg Tbg.b h :)
theorem nextB_of_place {a b : Tbg} (h : groupPlace a = groupPlace b) : a.nextB = b.nextB := (congrArg Tbg.nextB h :)

/-- A bit raised shows 1, a bit lowered shows 0. -/
theorem shows_raise (s : State) (a : Nat) {i : Nat} (hi : i < 32) : (s.raise ⟨a, i, 1⟩).shows ⟨a, i, 1⟩ = 1 :=
  shows_put_bit s ⟨a, i, 1⟩ Nat.one_lt_two hi rfl

theorem shows_lower (s : State) (a : Nat) {i : Nat} (hi : i < 32) : (s.lower ⟨a, i, 1⟩).shows ⟨a, i, 1⟩ = 0 :=
  shows_put_bit s ⟨a, i, 1⟩ Nat.zero_lt_two hi rfl

theorem shows_showNext (s : State) {f : Fld} (lo : aTBG_NEXT_LO g ≠ f.addr) (hi : aTBG_NEXT_HI g ≠ f.addr) :
    (showNext g s).shows f = s.shows f := (shows_wr_ne _ _ hi).trans (shows_wr_ne _ _ lo)

theorem nextHi_ne_lo (g : Nat) : aTBG_NEXT_HI g ≠ aTBG_NEXT_LO g := by simp [aTBG_NEXT_HI, aTBG_NEXT_LO]

theorem showNext_lo (s : State) : (showNext g s).rd (aTBG_NEXT_LO g) = BitVec.ofNat 32 ((s.tbg g).nextB / 32) :=
  (rd_wr_ne _ _ (nextHi_ne_lo g)).trans (rd_wr_same _ _ _)

/-- What a boundary shows changes registers alone. -/
theorem showBegun_keeps (g : Nat) (s : State) : (showBegun g s).now = s.now ∧ (showBegun g s).tbg = s.tbg := by
  have counted (y : State) : (y.incr (fTBG_PCNT_cnt g)).now = y.now ∧ (y.incr (fTBG_PCNT_cnt g)).tbg = y.tbg := ⟨rfl, rfl⟩
  have shown (y : State) : (showNext g (tbgIrq g 0 y)).now = y.now ∧ (showNext g (tbgIrq g 0 y)).tbg = y.tbg := ⟨rfl, rfl⟩
  obtain ⟨now, tbg⟩ := counted ((s.raise (fTBG_STAT_run g)).lower (fTBG_STAT_start_pend g))
  exact ⟨(shown _).1.trans now, (shown _).2.trans tbg⟩

/-- What a boundary shows of a group. -/
theorem showBegun_shows (g : Nat) (s : State) :
    (showBegun g s).shows (fTBG_STAT_run g) = 1 ∧ (showBegun g s).shows (fTBG_STAT_start_pend g) = 0 ∧
      (showBegun g s).shows (fTBG_PCNT_cnt g) = (s.get (fTBG_PCNT_cnt g) + 1) % 2 ^ 32 ∧
      (showBegun g s).rd (aTBG_NEXT_LO g) = BitVec.ofNat 32 ((s.tbg g).nextB / 32) ∧
      (showBegun g s).shows ⟨aTBG_IRQ_RAW g, 0, 1⟩ = 1 := by
  have stat {y : State} {i w : Nat} : (showNext g (tbgIrq g 0 (y.incr (fTBG_PCNT_cnt g)))).shows ⟨aTBG_STAT g, i, w⟩ = y.shows ⟨aTBG_STAT g, i, w⟩ :=
    (shows_showNext _ (by simp [aTBG_NEXT_LO, aTBG_STAT]) (by simp [aTBG_NEXT_HI, aTBG_STAT])).trans
      ((shows_put_ne _ _ (by simp [aTBG_IRQ_RAW, aTBG_STAT])).trans (shows_put_ne _ _ (by simp [aTBG_PCNT, aTBG_STAT])))
  have count : ((s.raise (fTBG_STAT_run g)).lower (fTBG_STAT_start_pend g)).get (fTBG_PCNT_cnt g) = s.get (fTBG_PCNT_cnt g) :=
    (get_put_ne _ _ (by simp [aTBG_PCNT, aTBG_STAT])).trans (get_put_ne _ _ (by simp [aTBG_PCNT, aTBG_STAT]))
  refine ⟨stat.trans ((shows_put_disj _ 0 (by simp)).trans (shows_raise s _ (by decide))),
    stat.trans (shows_lower _ _ (by decide)), ?_, showNext_lo _, ?_⟩
  · refine (shows_showNext _ (by simp [aTBG_NEXT_LO, aTBG_PCNT]) (by simp [aTBG_NEXT_HI, aTBG_PCNT])).trans
      ((shows_put_ne _ _ (by simp [aTBG_IRQ_RAW, aTBG_PCNT])).trans ((shows_incr32 _ (aTBG_PCNT g)).trans ?_))
    rw [count]
  · exact (shows_showNext _ (by simp [aTBG_NEXT_LO, aTBG_IRQ_RAW]) (by simp [aTBG_NEXT_HI, aTBG_IRQ_RAW])).trans
      (shows_raise _ _ (by decide))

/-! TBG_BOUNDARY. -/

/-- What hangs on a period start leaves the groups. -/
theorem groupBoundary_stands (g : Nat) (s : State) : GroupsStand (boundaryAt g s) (groupBoundary g s) :=
  .maybe (.refl _) fun h => .touch (.touch h (touch_fbiPeriod (Sub.refl _) g _ _) (by decide)) (touch_sendSet (Sub.refl _) g _) (by decide)

theorem boundaryAt_eq (run : s.tbgRun g = true) (taken : (s.tbg g).taken = [k]) :
    boundaryAt g s = boundary g (s.setNow (max s.now (s.tbg g).nextB)) := by
  have handed : ((s.setNow (max s.now (s.tbg g).nextB)).tbg g).taken.isEmpty = false := congrArg List.isEmpty taken
  unfold boundaryAt
  rw [if_pos run, reach_eq]
  dsimp only
  rw [if_neg (by rw [handed]; decide)]

theorem runs_tbgBoundary {g : Fin 32} (run : s.tbgRun g.val = true) (taken : (s.tbg g.val).taken = [k]) (bare : BareWindow k) :
    Runs (.tbgBoundary g) s (fun u => u.now = max s.now (s.tbg g.val).nextB ∧ u.shows (fTBG_STAT_run g.val) = 1 ∧
      u.shows (fTBG_STAT_start_pend g.val) = 0 ∧ u.shows (fTBG_PCNT_cnt g.val) = (s.get (fTBG_PCNT_cnt g.val) + 1) % 2 ^ 32 ∧
      (u.tbg g.val).b = k.b ∧ (u.tbg g.val).nextB = k.e ∧ u.rd (aTBG_NEXT_LO g.val) = BitVec.ofNat 32 (k.e / 32) ∧
      u.shows ⟨aTBG_IRQ_RAW g.val, 0, 1⟩ = 1) := by
  obtain ⟨g, lt⟩ := g
  have stat : (tbgAt (aTBG_STAT g)).isSome = true := tbgAt_isSome (by unfold aTBG_STAT; omega) (by unfold aTBG_STAT; omega)
  have pcnt : (tbgAt (aTBG_PCNT g)).isSome = true := tbgAt_isSome (by unfold aTBG_PCNT; omega) (by unfold aTBG_PCNT; omega)
  have raw : (tbgAt (aTBG_IRQ_RAW g)).isSome = true := tbgAt_isSome (by unfold aTBG_IRQ_RAW; omega) (by unfold aTBG_IRQ_RAW; omega)
  have lo : (tbgAt (aTBG_NEXT_LO g)).isSome = true := tbgAt_isSome (by unfold aTBG_NEXT_LO; omega) (by unfold aTBG_NEXT_LO; omega)
  refine ⟨groupBoundary g s, rfl, ?_⟩
  have stands := groupBoundary_stands g s
  rw [boundaryAt_eq run taken] at stands
  dsimp only at run taken stands ⊢
  obtain ⟨y, before, after⟩ := boundary_bare (s := s.setNow (max s.now (s.tbg g).nextB)) taken bare
  obtain ⟨now, tbg⟩ := showBegun_keeps g y
  obtain ⟨shownRun, shownPend, count, next, irq⟩ := showBegun_shows g y
  have place : groupPlace (y.tbg g) = groupPlace (begun g k (s.setNow (max s.now (s.tbg g).nextB))) :=
    (before.place g).trans (congrArg groupPlace (tbg_putTbg _ _ _))
  have cnt : y.get (fTBG_PCNT_cnt g) = s.get (fTBG_PCNT_cnt g) := before.get (f := fTBG_PCNT_cnt g) pcnt
  rw [← tbg] at place
  replace after := after.trans stands
  generalize groupBoundary g s = u at after
  rw [cnt] at count
  rw [← tbg, nextB_of_place place] at next
  replace place := (after.place g).trans place
  exact ⟨after.now.trans (now.trans before.now), (after.shows (f := fTBG_STAT_run g) stat).trans shownRun,
    (after.shows (f := fTBG_STAT_start_pend g) stat).trans shownPend, (after.shows (f := fTBG_PCNT_cnt g) pcnt).trans count,
    b_of_place place, nextB_of_place place, (after.regs _ lo).trans next,
    (after.shows (f := ⟨aTBG_IRQ_RAW g, 0, 1⟩) raw).trans irq⟩

end Sys2Proof.Proofs
end

section
/-! PROOFS. O27: the start and the stop of a timebase group, the sets that come for it and the calibration of the fine ticks
(06_thyme_and_pwm.md R198, R203, R204, R217, R235). -/
namespace Sys2Proof.Proofs
open Sys2Proof Sys2Proof.Machine Sys2Proof.Laws

variable {s t u : State} {g : Nat}

/-- A granted command at a group's or a leg's register runs on the state the fabric has granted it, which differs from the one before
in the fabric and the answer alone. -/
theorem runs_thyme {c : Instr} {r : Req} {a : Nat} {k : State → State} {P : State → Prop} (e : exec c s = cmdAt r a k s)
    (hb : blockAt a = some .thy) (hg : s.grants r a true = true)
    (h : ∀ l w b, P (k (((s.setLinks l).setWardens w).setBus b))) : Runs c s P := by
  refine ⟨k (s.granted r .thy), ?_, ?_⟩
  · rw [e]
    unfold cmdAt
    rw [access_of_grants_at hg hb]
    rfl
  · obtain ⟨l, w, fab⟩ := fabUse_eq (reqIsland r) (blockIsland .thy) 0 s
    unfold State.granted
    rw [fab]
    exact h l w _

/-! Refusals (R203, R204). -/

theorem tbgRefuse_shows (g : Nat) (s : State) : (tbgRefuse g s).shows ⟨aTBG_IRQ_RAW g, 7, 1⟩ = 1 := shows_raise _ _ (by decide)

theorem onlyRegs_tbgRefuse (g : Nat) (s : State) : OnlyRegs [aTBG_IRQ_RAW g, 0x4002001C, 0x40020010] s (tbgRefuse g s) :=
  onlyRegs_put (f := ⟨aTBG_IRQ_RAW g, 7, 1⟩) 1 (by simp) (onlyRegs_errSet 19 (by simp) (by simp) (OnlyRegs.refl _ s))

theorem errSet_tbgs (s : State) (h i : Nat) : (s.errSet h i).tbgs = s.tbgs := by
  unfold State.errSet
  split <;> rfl

theorem tbgRefuse_tbgs (g : Nat) (s : State) : (tbgRefuse g s).tbgs = s.tbgs := errSet_tbgs s 0x40020000 19

/-! TBG_START. -/

/-- The start a group is given, in fine ticks. -/
def startAt (g : Nat) (s : State) : Nat := 32 * (s.get (fTBG_T0_LO_lo g) + 2 ^ 32 * s.get (fTBG_T0_HI_hi g))

/-- The group that waits for its start. -/
def startTbg (g : Nat) (s : State) : Tbg :=
  { s.tbg g with b := startAt g s, nextB := startAt g s, mid := false, hB := startAt g s, hMid := false, hBase := startAt g s,
                 handAt := some (startAt g s - 32 * s.hofs g), stopPend := false, taken := [], smp := [] }

theorem startGroup_accepted (run : s.tbgRun g = false) (mode : s.get (fTBG_CFG_mode g) ≠ 0)
    (far : s.now + 32 * (s.hofs g + 400) ≤ startAt g s) :
    startGroup g s = showNext g ((s.putTbg g (startTbg g s)).raise (fTBG_STAT_start_pend g)) := by
  have taken : ¬ (s.tbgRun g || decide (s.get (fTBG_CFG_mode g) = 0) || decide (startAt g s < s.now + 32 * (s.hofs g + 400))) = true := by
    simp [run, mode, far]
  unfold startGroup
  exact if_neg taken

theorem startGroup_refused (no : s.tbgRun g = true ∨ s.get (fTBG_CFG_mode g) = 0 ∨ startAt g s < s.now + 32 * (s.hofs g + 400)) :
    startGroup g s = tbgRefuse g s := by
  have refused : (s.tbgRun g || decide (s.get (fTBG_CFG_mode g) = 0) || decide (startAt g s < s.now + 32 * (s.hofs g + 400))) = true := by
    simpa [or_assoc] using no
  unfold startGroup
  exact if_pos refused

theorem onlyRegs_showNext {l : List Nat} (h : OnlyRegs l s t) (lo : aTBG_NEXT_LO g ∈ l) (hi : aTBG_NEXT_HI g ∈ l) :
    OnlyRegs l s (showNext g t) := onlyRegs_wr _ hi (onlyRegs_wr _ lo h)

/-- A start that is accepted. -/
structure GroupStarted (g : Nat) (s u : State) : Prop where
  pend : u.shows (fTBG_STAT_start_pend g) = 1
  group : u.tbg g = startTbg g s
  next : u.rd (aTBG_NEXT_LO g) = BitVec.ofNat 32 (startAt g s / 32)
  regs : OnlyRegs [aTBG_STAT g, aTBG_NEXT_LO g, aTBG_NEXT_HI g] s u

theorem startGroup_started (run : s.tbgRun g = false) (mode : s.get (fTBG_CFG_mode g) ≠ 0)
    (far : s.now + 32 * (s.hofs g + 400) ≤ startAt g s) : GroupStarted g s (startGroup g s) := by
  have group : ((s.putTbg g (startTbg g s)).raise (fTBG_STAT_start_pend g)).tbg g = startTbg g s := tbg_putTbg s g _
  rw [startGroup_accepted run mode far]
  refine ⟨?pend, group, ?next, onlyRegs_showNext (onlyRegs_put (f := fTBG_STAT_start_pend g) 1 (by simp) fun _ _ => rfl)
    (by simp) (by simp)⟩
  case pend =>
    exact (shows_showNext _ (by simp [aTBG_NEXT_LO, aTBG_STAT]) (by simp [aTBG_NEXT_HI, aTBG_STAT])).trans (shows_raise _ _ (by decide))
  case next =>
    rw [showNext_lo, group]
    rfl

theorem blockAt_thy {a : Nat} (low : 0x40020000 ≤ a) (high : a < 0x40040000) : blockAt a = some .thy := by
  unfold blockAt
  rw [if_neg (by omega), if_neg (by omega), if_neg (by omega), if_neg (by omega), if_pos high]

theorem blockAt_tbgCmd (g : Nat) : blockAt (aTBG_CMD g) = some .thy :=
  blockAt_thy (by unfold aTBG_CMD; omega) (by unfold aTBG_CMD; omega)

theorem runs_tbgStart {r : Req} {g : Fin 32} (hg : s.grants r (aTBG_CMD g.val) true = true) (run : s.tbgRun g.val = false)
    (mode : s.get (fTBG_CFG_mode g.val) ≠ 0) (far : s.now + 32 * (s.hofs g.val + 400) ≤ startAt g.val s) :
    Runs (.tbgStart r g) s (GroupStarted g.val s) := by
  refine runs_thyme rfl (blockAt_tbgCmd g.val) hg fun l w b => ?_
  have started := startGroup_started (s := ((s.setLinks l).setWardens w).setBus b) run mode far
  exact ⟨started.pend, started.group, started.next, started.regs⟩

theorem runs_tbgStart_refused {r : Req} {g : Fin 32} (hg : s.grants r (aTBG_CMD g.val) true = true)
    (no : s.tbgRun g.val = true ∨ s.get (fTBG_CFG_mode g.val) = 0 ∨ startAt g.val s < s.now + 32 * (s.hofs g.val + 400)) :
    Runs (.tbgStart r g) s (fun u => u.tbgs = s.tbgs ∧ u.shows ⟨aTBG_IRQ_RAW g.val, 7, 1⟩ = 1 ∧
      OnlyRegs [aTBG_IRQ_RAW g.val, 0x4002001C, 0x40020010] s u) := by
  refine runs_thyme rfl (blockAt_tbgCmd g.val) hg fun l w b => ?_
  rw [startGroup_refused (s := ((s.setLinks l).setWardens w).setBus b) no]
  exact ⟨tbgRefuse_tbgs _ _, tbgRefuse_shows _ _, onlyRegs_tbgRefuse _ _⟩

/-! TBG_STOP. -/

theorem stopGroup_accepted (run : s.tbgRun g = true) (safe : ∀ n ∈ s.groupLegs g, s.mgState (s.legMg n) ≠ 0) :
    stopGroup g s = s.putTbg g { s.tbg g with stopPend := true } := by
  unfold stopGroup
  rw [if_neg (by simpa using safe), if_pos run]

theorem stopGroup_refused {n : Nat} (leg : n ∈ s.groupLegs g) (runs : s.mgState (s.legMg n) = 0) : stopGroup g s = tbgRefuse g s := by
  unfold stopGroup
  rw [if_pos (by simpa using ⟨n, leg, runs⟩)]

theorem runs_tbgStop {r : Req} {g : Fin 32} (hg : s.grants r (aTBG_CMD g.val) true = true) (run : s.tbgRun g.val = true)
    (safe : ∀ n ∈ s.groupLegs g.val, s.mgState (s.legMg n) ≠ 0) :
    Runs (.tbgStop r g) s (fun u => u.tbg g.val = { s.tbg g.val with stopPend := true } ∧ OnlyRegs [] s u) := by
  refine runs_thyme rfl (blockAt_tbgCmd g.val) hg fun l w b => ?_
  rw [stopGroup_accepted (s := ((s.setLinks l).setWardens w).setBus b) run safe]
  exact ⟨tbg_putTbg _ _ _, fun _ _ => rfl⟩

theorem runs_tbgStop_refused {r : Req} {g : Fin 32} {n : Nat} (hg : s.grants r (aTBG_CMD g.val) true = true)
    (leg : n ∈ s.groupLegs g.val) (runs : s.mgState (s.legMg n) = 0) :
    Runs (.tbgStop r g) s (fun u => u.tbgs = s.tbgs ∧ u.shows ⟨aTBG_IRQ_RAW g.val, 7, 1⟩ = 1 ∧
      OnlyRegs [aTBG_IRQ_RAW g.val, 0x4002001C, 0x40020010] s u) := by
  refine runs_thyme rfl (blockAt_tbgCmd g.val) hg fun l w b => ?_
  rw [stopGroup_refused (s := ((s.setLinks l).setWardens w).setBus b) leg runs]
  exact ⟨tbgRefuse_tbgs _ _, tbgRefuse_shows _ _, onlyRegs_tbgRefuse _ _⟩

/-! COMPARE_SET (R217). -/

/-- The oldest set is taken off the link. -/
def setTaken (g : Nat) (l : List KSet) (s : State) : State := s.putTbg g { s.tbg g with wire := l }

/-- A set that arrives joins those the group holds. -/
def setArrives (g : Nat) (x : KSet) (l : List KSet) (s : State) : State := s.putTbg g { s.tbg g with sets := l ++ [x] }

@[simp] theorem fabUse_tbg (q i c : Nat) (s : State) : (fabUse q i c s).tbg = s.tbg := by
  obtain ⟨l, w, h⟩ := fabUse_eq q i c s
  rw [h]
  rfl

theorem execCompareSet_eq {g : Fin 32} {x : KSet} {l : List KSet} (wire : (s.tbg g.val).wire = x :: l) (run : s.isRun 6 = true) :
    execCompareSet g s = done (setArrives g.val x (s.tbg g.val).sets (fabUse 5 6 0 (setTaken g.val l s))) := by
  unfold execCompareSet
  dsimp only
  rw [wire]
  exact congrArg done (if_pos run)

theorem runs_compareSet {g : Fin 32} {x : KSet} {l : List KSet} (wire : (s.tbg g.val).wire = x :: l) (run : s.isRun 6 = true) :
    Runs (.compareSet g) s (fun u => (u.tbg g.val).wire = l ∧ (u.tbg g.val).sets = (s.tbg g.val).sets ++ [x] ∧ OnlyRegs [] s u) := by
  have group : (setArrives g.val x (s.tbg g.val).sets (fabUse 5 6 0 (setTaken g.val l s))).tbg g.val =
      { s.tbg g.val with wire := l, sets := (s.tbg g.val).sets ++ [x] } := by
    simp only [setArrives, setTaken, tbg_putTbg, fabUse_tbg]
  exact ⟨_, execCompareSet_eq wire run, congrArg Tbg.wire group, congrArg Tbg.sets group, fun a _ => fabUse_rd 5 6 0 (setTaken g.val l s) a⟩

/-! FINE_CALIBRATION (R198, R234). -/

/-- The taps and the flags of a calibration. -/
def calibrated (taps : Nat) (ok : Bool) (s : State) : State :=
  (((s.put fTHY_FCAL_taps taps).putB fTHY_FCAL_ok ok).putB (hStat 0x40020000 8) ok).lower (hStat 0x40020000 9)

theorem onlyRegs_calibrated (taps : Nat) (ok : Bool) (s : State) : OnlyRegs [aTHY_FCAL, 0x4002000C] s (calibrated taps ok s) :=
  onlyRegs_put (f := hStat 0x40020000 9) _ (by simp) (onlyRegs_put (f := hStat 0x40020000 8) _ (by simp)
    (onlyRegs_put (f := fTHY_FCAL_ok) _ (by simp) (onlyRegs_put (f := fTHY_FCAL_taps) _ (by simp) (OnlyRegs.refl _ s))))

theorem calibrated_shows (taps : Fin 128) (ok : Bool) (s : State) : (calibrated taps.val ok s).shows fTHY_FCAL_taps = taps.val ∧
    (calibrated taps.val ok s).shows fTHY_FCAL_ok = if ok then 1 else 0 := by
  have fcal {y : State} {f : Fld} (hf : f.addr = aTHY_FCAL) : ((y.putB (hStat 0x40020000 8) ok).lower (hStat 0x40020000 9)).shows f = y.shows f := by
    have ne : (0x4002000C : Nat) ≠ f.addr := by rw [hf]; decide
    exact (shows_put_ne (f := hStat 0x40020000 9) _ _ ne).trans (shows_put_ne (f := hStat 0x40020000 8) _ _ ne)
  refine ⟨(fcal rfl).trans ((shows_put_disj _ _ (by decide)).trans ((shows_put s _ _ (by decide)).trans (Nat.mod_eq_of_lt taps.isLt))),
    (fcal rfl).trans (shows_put_bit _ _ ?_ (by decide) rfl)⟩
  split <;> decide

/-- An error bit shows 1 once it is set, where no copies differ. -/
theorem errSet_shown {h i : Nat} (hi : i < 32) (hs : s.tmr = []) : (s.errSet h i).shows (hErr h i) = 1 := by
  by_cases e : s.on (hErr h i) = true
  · unfold State.errSet
    rw [if_pos e]
    exact shows_of_on hs rfl e
  · exact errSet_shows hi (by simpa using e)

theorem runs_fineCalibration (taps : Fin 128) : Runs (.fineCalibration taps true) s (fun u => u.shows fTHY_FCAL_taps = taps.val ∧
    u.shows fTHY_FCAL_ok = 1 ∧ u.sage.inbox = s.sage.inbox ∧ OnlyRegs [aTHY_FCAL, 0x4002000C] s u) := by
  obtain ⟨shown, ok⟩ := calibrated_shows taps true s
  exact ⟨calibrated taps.val true s, rfl, shown, ok, rfl, onlyRegs_calibrated _ _ _⟩

theorem runs_fineCalibration_failed (taps : Fin 128) (hs : s.tmr = []) : Runs (.fineCalibration taps false) s (fun u =>
    u.shows fTHY_FCAL_taps = taps.val ∧ u.shows fTHY_FCAL_ok = 0 ∧ u.shows ⟨0x4002001C, 18, 1⟩ = 1 ∧
      u.sage.inbox = s.sage.inbox ++ [⟨41, .none, false⟩] ∧ OnlyRegs [aTHY_FCAL, 0x4002000C, 0x4002001C, 0x40020010] s u) := by
  obtain ⟨shown, ok⟩ := calibrated_shows taps false s
  have fcal {f : Fld} (hf : f.addr = aTHY_FCAL) : ((calibrated taps.val false s).errSet 0x40020000 18).shows f =
      (calibrated taps.val false s).shows f := errSet_shows_ne (by rw [hf]; decide) (by rw [hf]; decide)
  have regs := OnlyRegs.mono (onlyRegs_calibrated taps.val false s) (m := [aTHY_FCAL, 0x4002000C, 0x4002001C, 0x40020010]) (by simp)
  refine ⟨((calibrated taps.val false s).errSet 0x40020000 18).sageEvt 41 .none, rfl, (fcal rfl).trans shown, (fcal rfl).trans ok,
    errSet_shown (s := calibrated taps.val false s) (by decide) hs, ?inbox, onlyRegs_errSet 18 (by simp) (by simp) regs⟩
  case inbox =>
    unfold State.errSet
    split <;> rfl

/-- Settles O27: starts and stops from what each accepts or refuses; the hand-off and the boundary of a window without shadows leave the
groups' places in time as the window says, whatever the legs, the samples and the trips do meanwhile. -/
theorem timebaseGroups : Obligations.TimebaseGroups := by
  unfold Obligations.TimebaseGroups
  refine ⟨?start, ?startRefused, ?stop, ?stopRefused, ?handOff, ?boundary, ?compareSet, ?calibration, ?failed⟩
  case start =>
    intro r g s hg run mode far
    obtain ⟨u, runs, pend, group, next, regs⟩ := runs_tbgStart hg run mode far
    refine ⟨u, runs, pend, ?_⟩
    rw [group]
    exact ⟨rfl, rfl, rfl, next, regs⟩
  case startRefused => exact fun r g s hg no => runs_tbgStart_refused hg no
  case stop => exact fun r g s hg run safe => runs_tbgStop hg run safe
  case stopRefused => exact fun r g n s hg leg runs => runs_tbgStop_refused hg leg runs
  case handOff =>
    exact fun g h s run due taken hMid stopPend half kern bnd pend => runs_handOff run due ⟨taken, hMid, stopPend, half, kern, bnd, pend⟩
  case boundary =>
    exact fun g k s run taken vals kset gen newPer stop mid => runs_tbgBoundary run taken ⟨vals, kset, gen, newPer, stop, mid⟩
  case compareSet => exact fun g x l s wire run => runs_compareSet wire run
  case calibration => exact fun taps s => runs_fineCalibration taps
  case failed => exact fun taps s hs => runs_fineCalibration_failed taps hs

end Sys2Proof.Proofs
end

section
/-! PROOFS. O28: bits of a register that take their values, with all its copies (01_register_pages.md R28), and the writes of a leg's
compare registers (06_thyme_and_pwm.md R217, R219, R220, R222). -/
namespace Sys2Proof.Proofs
open Sys2Proof Sys2Proof.Machine Sys2Proof.Laws

variable {s t u : State} {a g n : Nat}

theorem find_set_ne {α : Type} [DecidableEq α] (d : α) (t : Tab α) {k j : Nat} (v : α) (h : k ≠ j) :
    Tab.find (Tab.set d t k v) j = Tab.find t j := by
  unfold Tab.set
  split
  · exact find_del_ne t h
  · exact find_ins_ne t v h

/-- The register takes the bits, and its own copies follow. -/
theorem poke_eq (k : Nat) (m v : Word) (s : State) : ∃ c, poke k m v s = (s.wr k (Word.merge m (s.rd k) v)).setTmr c ∧
    ∀ j, k ≠ j → Tab.find c j = Tab.find s.tmr j := by
  unfold poke
  dsimp only
  split
  · exact ⟨s.tmr, rfl, fun _ _ => rfl⟩
  · exact ⟨_, rfl, fun j h => find_set_ne _ _ _ h⟩

theorem poke_rd (k : Nat) (m v : Word) (s : State) : (poke k m v s).rd k = Word.merge m (s.rd k) v := by
  obtain ⟨c, e, -⟩ := poke_eq k m v s
  rw [e]
  exact rd_wr_same s k _

theorem poke_rd_ne {k b : Nat} (m v : Word) (s : State) (h : k ≠ b) : (poke k m v s).rd b = s.rd b := by
  obtain ⟨c, e, -⟩ := poke_eq k m v s
  rw [e]
  exact rd_wr_ne s _ h

theorem onlyRegs_poke {l : List Nat} {k : Nat} (m v : Word) (hk : k ∈ l) (h : OnlyRegs l s t) : OnlyRegs l s (poke k m v t) :=
  fun b hb => (poke_rd_ne m v t (ne_of_mem_of_not_mem hk hb)).trans (h b hb)

@[simp] theorem poke_cmt (k : Nat) (m v : Word) (s : State) : (poke k m v s).cmt = s.cmt := by
  obtain ⟨c, e, -⟩ := poke_eq k m v s
  rw [e]
  rfl

@[simp] theorem poke_bnd (k : Nat) (m v : Word) (s : State) : (poke k m v s).bnd = s.bnd := by
  obtain ⟨c, e, -⟩ := poke_eq k m v s
  rw [e]
  rfl

/-- No other register changes for the device. -/
theorem poke_on_ne {k : Nat} {f : Fld} (m v : Word) (s : State) (h : k ≠ f.addr) : (poke k m v s).on f = s.on f := by
  obtain ⟨c, e, copies⟩ := poke_eq k m v s
  have same := rd_wr_ne s (Word.merge m (s.rd k) v) h
  unfold State.on State.get State.use
  rw [e]
  simp only [rd_setTmr, setTmr_tmr, copies _ h, same]

@[simp] theorem poke_kern (k : Nat) (m v : Word) (s : State) : (poke k m v s).kern = s.kern := by
  obtain ⟨c, e, -⟩ := poke_eq k m v s
  rw [e]
  rfl

/-! The addresses of a leg's compare registers. -/

theorem cmpAddr_eq (n : Nat) (w : CmpReg) : ∃ o, (o = 4 ∨ o = 8 ∨ o = 0x10 ∨ o = 0x14) ∧ cmpAddr n w = 0x40030000 + o + n % 128 * 0x40 := by
  cases w with
  | on => exact ⟨4, by simp, rfl⟩
  | off => exact ⟨8, by simp, rfl⟩
  | lon => exact ⟨0x10, by simp, rfl⟩
  | loff => exact ⟨0x14, by simp, rfl⟩

theorem cmpAddr_ne_gen (n : Nat) (w : CmpReg) : cmpAddr n w ≠ aLEG_CMP_GEN n := by
  obtain ⟨o, ho, e⟩ := cmpAddr_eq n w
  unfold aLEG_CMP_GEN
  omega

/-- A register of a leg (R226). -/
structure LegReg (n a : Nat) : Prop where
  low : 0x40030000 + n * 0x40 ≤ a
  high : a < 0x40030040 + n * 0x40
  leg : n < 128

theorem legReg_cmpAddr (n : Fin 128) (w : CmpReg) : LegReg n.val (cmpAddr n.val w) := by
  obtain ⟨o, ho, e⟩ := cmpAddr_eq n.val w
  exact ⟨by omega, by omega, n.isLt⟩

theorem legReg_cmpGen (n : Fin 128) : LegReg n.val (aLEG_CMP_GEN n.val) := by
  unfold aLEG_CMP_GEN
  exact ⟨by omega, by omega, n.isLt⟩

theorem LegReg.blockAt (h : LegReg n a) : blockAt a = some .thy := by
  obtain ⟨low, high, leg⟩ := h
  exact blockAt_thy (by omega) (by omega)

theorem LegReg.tbgAt (h : LegReg n a) : tbgAt a = none := by
  obtain ⟨low, high, leg⟩ := h
  unfold Machine.tbgAt
  rw [if_neg (by simp only [Bool.and_eq_true, decide_eq_true_eq]; omega)]

theorem LegReg.legAt (h : LegReg n a) : legAt a = some n := by
  obtain ⟨low, high, leg⟩ := h
  unfold Machine.legAt
  rw [if_pos (by simp only [Bool.and_eq_true, decide_eq_true_eq]; omega)]
  exact congrArg some (by omega)

/-- A leg's registers are none of a group's. -/
theorem LegReg.ne_tbg (h : LegReg n a) {b : Nat} (hb : b < 0x40022000) : a ≠ b := by
  have low := h.low
  omega

theorem aTBG_lt {o : Nat} (ho : o < 0x80) (g : Nat) : 0x40021000 + o + g % 32 * 0x80 < 0x40022000 := by omega

theorem LegReg.poke_coherent (h : LegReg n a) (m v : Word) (s : State) : (poke a m v s).coherent = s.coherent := by
  funext g
  unfold State.coherent
  rw [poke_kern, poke_on_ne m v s (h.ne_tbg (aTBG_lt (o := 0) (by decide) g))]

theorem LegReg.poke_tbgRun (h : LegReg n a) (m v : Word) (s : State) : (poke a m v s).tbgRun = s.tbgRun := by
  funext g
  have stat := h.ne_tbg (aTBG_lt (o := 0x20) (by decide) g)
  unfold State.tbgRun
  rw [poke_on_ne m v s stat, poke_on_ne m v s stat]

/-! The hand-off that is not due (R211, R229). -/

theorem LegReg.handFirst (h : LegReg n a) (no : s.handDue (s.legHome n) = false) : handFirst a s = s := by
  unfold Machine.handFirst
  rw [h.tbgAt, h.legAt]
  dsimp only
  rw [no]
  rfl

theorem handFirst_tbg (e : tbgAt a = some g) (no : s.handDue g = false) : handFirst a s = s := by
  unfold handFirst
  rw [e]
  dsimp only
  rw [no]
  rfl

/-! The bits of a compare register that its shadows hold: [28:0] (R222). -/

/-- The compare value of a word. -/
def cmpMask : Word := 0x1FFFFFFF

theorem getLsbD_cmpMask {i : Nat} (h : i < 29) : cmpMask.getLsbD i = true := by
  have mask : cmpMask = Word.mask 0 29 := by decide
  rw [mask, getLsbD_mask]
  exact decide_eq_true (by omega)

/-- The other bits of a register take theirs at once; the compare value stays. -/
theorem merge_others_fld (x v : Word) : (Word.merge (~~~cmpMask) x v).fld 0 29 = x.fld 0 29 := by
  refine fld_congr fun i _ hi => ?_
  rw [getLsbD_merge, BitVec.getLsbD_not, getLsbD_cmpMask (by omega)]
  simp

/-- Both halves of a word written are the word. -/
theorem merge_both (m x v : Word) : Word.merge m (Word.merge (~~~m) x v) v = v := by
  refine BitVec.eq_of_getLsbD_eq fun i hi => ?_
  rw [getLsbD_merge, getLsbD_merge, BitVec.getLsbD_not]
  cases m.getLsbD i <;> simp [hi]

/-- The shadow that takes a compare value gives it. -/
theorem put_on_fld (p : Pend) (v x : Word) : ((p.put cmpMask v).on x).fld 0 29 = v.fld 0 29 := by
  refine fld_congr fun i _ hi => ?_
  have bit := getLsbD_cmpMask (i := i) (by omega)
  unfold Pend.put Pend.on
  rw [getLsbD_merge, BitVec.getLsbD_or, bit, Bool.or_true, if_pos rfl, getLsbD_merge, bit, if_pos rfl]

/-! COMPARE_WRITE. -/

/-- The bits of a write beside the compare value. -/
def othersWritten (a : Nat) (v : Word) (s : State) : State := poke a (~~~cmpMask) v s

theorem othersWritten_shows (a : Nat) (v : Word) (s : State) : (othersWritten a v s).shows ⟨a, 0, 29⟩ = s.shows ⟨a, 0, 29⟩ := by
  unfold State.shows othersWritten
  rw [poke_rd]
  exact merge_others_fld _ v

theorem onlyRegs_othersWritten (a : Nat) (v : Word) (s : State) : OnlyRegs [a] s (othersWritten a v s) :=
  onlyRegs_poke _ v (by simp) (OnlyRegs.refl _ s)

/-- The leg's compare values are not CLEAN (R220). -/
def dirtied (n : Nat) (s : State) : State := (s.raise (fLEG_CMP_GEN_dirty n)).lower (fLEG_CMP_GEN_tagged n)

theorem dirtied_shows (n : Nat) (s : State) : (dirtied n s).shows (fLEG_CMP_GEN_dirty n) = 1 :=
  (shows_put_disj _ 0 (by simp)).trans (shows_raise s _ (by decide))

theorem onlyRegs_dirtied {l : List Nat} (h : OnlyRegs l s t) (gen : aLEG_CMP_GEN n ∈ l) : OnlyRegs l s (dirtied n t) :=
  onlyRegs_put (f := fLEG_CMP_GEN_tagged n) 0 gen (onlyRegs_put (f := fLEG_CMP_GEN_dirty n) 1 gen h)

/-- What a rewritten leg is marked with is no register and no shadow. -/
@[simp] theorem markRewritten_rd (n : Nat) (s : State) (b : Nat) : (markRewritten n s).rd b = s.rd b := by
  unfold markRewritten
  split <;> rfl

@[simp] theorem markRewritten_shows (n : Nat) (s : State) (f : Fld) : (markRewritten n s).shows f = s.shows f := by
  unfold State.shows
  rw [markRewritten_rd]

@[simp] theorem markRewritten_cmt (n : Nat) (s : State) : (markRewritten n s).cmt = s.cmt := by
  unfold markRewritten
  split <;> rfl

theorem onlyRegs_markRewritten {l : List Nat} (n : Nat) (h : OnlyRegs l s t) : OnlyRegs l s (markRewritten n t) :=
  fun b hb => (markRewritten_rd n t b).trans (h b hb)

theorem kern_of_coherent (h : s.coherent g = true) : s.kern g = false := by
  unfold State.coherent at h
  simpa using (Bool.and_eq_true_iff.mp h).1

theorem cmpWrite_coherent (h : LegReg n a) (v : Word) (coherent : s.coherent (s.legHome n) = true) :
    cmpWrite n a v s = markRewritten n (dirtied n
      ((othersWritten a v s).setCmt (Tab.set {} (othersWritten a v s).cmt a ((Tab.get {} (othersWritten a v s).cmt a).put cmpMask v)))) := by
  have still : (othersWritten a v s).coherent (s.legHome n) = true := (congrFun (h.poke_coherent _ v s) _).trans coherent
  have no : ¬ s.kern (s.legHome n) = true := by simp [kern_of_coherent coherent]
  exact (if_neg no).trans (if_pos still)

theorem cmpWrite_running (h : LegReg n a) (v : Word) (kern : s.kern (s.legHome n) = false) (direct : s.coherent (s.legHome n) = false)
    (run : s.tbgRun (s.legHome n) = true) : cmpWrite n a v s =
      (othersWritten a v s).setBnd (Tab.set {} (othersWritten a v s).bnd a ((Tab.get {} (othersWritten a v s).bnd a).put cmpMask v)) := by
  have still : ¬ (othersWritten a v s).coherent (s.legHome n) = true := by
    rw [show (othersWritten a v s).coherent = s.coherent from h.poke_coherent _ v s, direct]
    decide
  have runs : (othersWritten a v s).tbgRun (s.legHome n) = true := (congrFun (h.poke_tbgRun _ v s) _).trans run
  have no : ¬ s.kern (s.legHome n) = true := by simp [kern]
  exact (if_neg no).trans ((if_neg still).trans (if_pos runs))

theorem cmpWrite_stopped (h : LegReg n a) (v : Word) (kern : s.kern (s.legHome n) = false) (direct : s.coherent (s.legHome n) = false)
    (run : s.tbgRun (s.legHome n) = false) : cmpWrite n a v s = byKern a false (poke a cmpMask v (othersWritten a v s)) := by
  have still : ¬ (othersWritten a v s).coherent (s.legHome n) = true := by
    rw [show (othersWritten a v s).coherent = s.coherent from h.poke_coherent _ v s, direct]
    decide
  have stands : ¬ (othersWritten a v s).tbgRun (s.legHome n) = true := by
    rw [show (othersWritten a v s).tbgRun = s.tbgRun from h.poke_tbgRun _ v s, run]
    decide
  have no : ¬ s.kern (s.legHome n) = true := by simp [kern]
  exact (if_neg no).trans ((if_neg still).trans (if_neg stands))

theorem cmpWrite_kernel (a : Nat) (v : Word) (kern : s.kern (s.legHome n) = true) : cmpWrite n a v s = krnWrite n s := if_pos kern

end Sys2Proof.Proofs
end

section
/-! PROOFS. O28: COMPARE_WRITE and CMP_GEN_WRITE in each mode of the group (06_thyme_and_pwm.md R217, R219, R220, R222). -/
namespace Sys2Proof.Proofs
open Sys2Proof Sys2Proof.Machine Sys2Proof.Laws

variable {s t u : State} {a g : Nat} {n : Fin 128} {w : CmpReg} {r : Req}

theorem runs_legWrite {c : Instr} {k : State → State} {P : State → Prop} (h : LegReg n.val a)
    (e : exec c s = cmdAt r a (fun s => k (handFirst a s)) s) (hg : s.grants r a true = true) (no : s.handDue (s.legHome n.val) = false)
    (p : ∀ l w b, P (k (((s.setLinks l).setWardens w).setBus b))) : Runs c s P := by
  refine runs_thyme e h.blockAt hg fun l w b => ?_
  have first : handFirst a (((s.setLinks l).setWardens w).setBus b) = ((s.setLinks l).setWardens w).setBus b := h.handFirst no
  rw [first]
  exact p l w b

/-- A write in COHERENT mode: the commit's shadow has the value, the register keeps its own, and the leg is dirty. -/
structure CmpWaits (n a : Nat) (v : Word) (s u : State) : Prop where
  shadow : (u.cmtVal a).fld 0 29 = v.fld 0 29
  register : u.shows ⟨a, 0, 29⟩ = s.shows ⟨a, 0, 29⟩
  dirty : u.shows (fLEG_CMP_GEN_dirty n) = 1
  regs : OnlyRegs [a, aLEG_CMP_GEN n] s u

theorem cmpWrite_waits {n : Nat} (h : LegReg n a) (ne : a ≠ aLEG_CMP_GEN n) (v : Word) (coherent : s.coherent (s.legHome n) = true) :
    CmpWaits n a v s (cmpWrite n a v s) := by
  rw [cmpWrite_coherent h v coherent]
  generalize hy : (othersWritten a v s).setCmt
    (Tab.set {} (othersWritten a v s).cmt a ((Tab.get {} (othersWritten a v s).cmt a).put cmpMask v)) = y
  have regs : OnlyRegs [a] s y := hy ▸ onlyRegs_othersWritten a v s
  have shown : y.shows ⟨a, 0, 29⟩ = s.shows ⟨a, 0, 29⟩ := hy ▸ othersWritten_shows a v s
  have shadow : Tab.get {} y.cmt a = (Tab.get {} (othersWritten a v s).cmt a).put cmpMask v := by
    subst hy
    exact get_set_same _ _ _ _
  have cmt : (markRewritten n (dirtied n y)).cmt = y.cmt := (markRewritten_cmt n _).trans rfl
  refine ⟨?_, ?_, (markRewritten_shows n _ _).trans (dirtied_shows n y),
    onlyRegs_markRewritten n (onlyRegs_dirtied (OnlyRegs.mono regs (by simp)) (by simp))⟩
  · unfold State.cmtVal
    rw [cmt, shadow]
    exact put_on_fld _ v _
  · exact (markRewritten_shows n _ _).trans ((shows_put_ne (f := fLEG_CMP_GEN_tagged n) _ 0 ne.symm).trans
      ((shows_put_ne (f := fLEG_CMP_GEN_dirty n) _ 1 ne.symm).trans shown))

theorem runs_compareWrite_coherent (v : Word) (hg : s.grants r (cmpAddr n.val w) true = true)
    (no : s.handDue (s.legHome n.val) = false) (coherent : s.coherent (s.legHome n.val) = true) :
    Runs (.compareWrite r n w v) s (CmpWaits n.val (cmpAddr n.val w) v s) := by
  refine runs_legWrite (k := cmpWrite n.val (cmpAddr n.val w) v) (legReg_cmpAddr n w) rfl hg no fun l k b => ?_
  have waits := cmpWrite_waits (s := ((s.setLinks l).setWardens k).setBus b) (legReg_cmpAddr n w) (cmpAddr_ne_gen n.val w) v coherent
  exact ⟨waits.shadow, waits.register, waits.dirty, waits.regs⟩

/-- A compare register that takes its value of software is no other register and no shadow. -/
theorem byKern_eq (a : Nat) (b : Bool) (s : State) : ∃ l, byKern a b s = s.setLegs l := by
  unfold byKern
  split
  · split
    · exact ⟨_, rfl⟩
    · exact ⟨s.legs, rfl⟩
  · exact ⟨s.legs, rfl⟩

theorem cmpWrite_acts {n : Nat} (h : LegReg n a) (v : Word) (kern : s.kern (s.legHome n) = false)
    (direct : s.coherent (s.legHome n) = false) (run : s.tbgRun (s.legHome n) = false) :
    (cmpWrite n a v s).rd a = v ∧ (cmpWrite n a v s).cmt = s.cmt ∧ (cmpWrite n a v s).bnd = s.bnd ∧ OnlyRegs [a] s (cmpWrite n a v s) := by
  rw [cmpWrite_stopped h v kern direct run]
  obtain ⟨l, e⟩ := byKern_eq a false (poke a cmpMask v (othersWritten a v s))
  rw [e]
  refine ⟨?_, ?_, ?_, onlyRegs_poke cmpMask v (by simp) (onlyRegs_othersWritten a v s)⟩
  · show (poke a cmpMask v (othersWritten a v s)).rd a = v
    rw [poke_rd, othersWritten, poke_rd]
    exact merge_both cmpMask _ v
  · exact (poke_cmt a cmpMask v _).trans (poke_cmt a _ v s)
  · exact (poke_bnd a cmpMask v _).trans (poke_bnd a _ v s)

theorem runs_compareWrite_stopped (v : Word) (hg : s.grants r (cmpAddr n.val w) true = true)
    (no : s.handDue (s.legHome n.val) = false) (kern : s.kern (s.legHome n.val) = false)
    (direct : s.coherent (s.legHome n.val) = false) (run : s.tbgRun (s.legHome n.val) = false) :
    Runs (.compareWrite r n w v) s (fun u => u.rd (cmpAddr n.val w) = v ∧ u.cmt = s.cmt ∧ u.bnd = s.bnd ∧
      OnlyRegs [cmpAddr n.val w] s u) :=
  runs_legWrite (k := cmpWrite n.val (cmpAddr n.val w) v) (legReg_cmpAddr n w) rfl hg no fun l k b =>
    cmpWrite_acts (s := ((s.setLinks l).setWardens k).setBus b) (legReg_cmpAddr n w) v kern direct run

/-- A write in DIRECT mode that waits for the boundary. -/
structure CmpBound (a : Nat) (v : Word) (s u : State) : Prop where
  shadow : ((Tab.get {} u.bnd a).on (u.rd a)).fld 0 29 = v.fld 0 29
  register : u.shows ⟨a, 0, 29⟩ = s.shows ⟨a, 0, 29⟩
  cmt : u.cmt = s.cmt
  regs : OnlyRegs [a] s u

theorem cmpWrite_bound {n : Nat} (h : LegReg n a) (v : Word) (kern : s.kern (s.legHome n) = false)
    (direct : s.coherent (s.legHome n) = false) (run : s.tbgRun (s.legHome n) = true) : CmpBound a v s (cmpWrite n a v s) := by
  rw [cmpWrite_running h v kern direct run]
  refine ⟨?_, othersWritten_shows a v s, poke_cmt a _ v s, onlyRegs_othersWritten a v s⟩
  have shadow := get_set_same {} (othersWritten a v s).bnd a ((Tab.get {} (othersWritten a v s).bnd a).put cmpMask v)
  generalize Tab.set {} (othersWritten a v s).bnd a _ = bnd at shadow
  show ((Tab.get {} bnd a).on _).fld 0 29 = _
  rw [shadow]
  exact put_on_fld _ v _

theorem runs_compareWrite_running (v : Word) (hg : s.grants r (cmpAddr n.val w) true = true)
    (no : s.handDue (s.legHome n.val) = false) (kern : s.kern (s.legHome n.val) = false)
    (direct : s.coherent (s.legHome n.val) = false) (run : s.tbgRun (s.legHome n.val) = true) :
    Runs (.compareWrite r n w v) s (CmpBound (cmpAddr n.val w) v s) := by
  refine runs_legWrite (k := cmpWrite n.val (cmpAddr n.val w) v) (legReg_cmpAddr n w) rfl hg no fun l k b => ?_
  have bound := cmpWrite_bound (s := ((s.setLinks l).setWardens k).setBus b) (legReg_cmpAddr n w) v kern direct run
  exact ⟨bound.shadow, bound.register, bound.cmt, bound.regs⟩

/-! A kernel-driven group. -/

theorem errSet_shadows (s : State) (h i : Nat) : (s.errSet h i).cmt = s.cmt ∧ (s.errSet h i).bnd = s.bnd := by
  unfold State.errSet
  split <;> exact ⟨rfl, rfl⟩

theorem krnWrite_refuses (n : Nat) (s : State) : (krnWrite n s).cmt = s.cmt ∧ (krnWrite n s).bnd = s.bnd ∧
    (krnWrite n s).shows (fLEG_STAT_krn_wr n) = 1 ∧ OnlyRegs [aLEG_STAT n, 0x4002001C, 0x40020010] s (krnWrite n s) := by
  obtain ⟨cmt, bnd⟩ := errSet_shadows (s.raise (fLEG_STAT_krn_wr n)) 0x40020000 17
  have apart {b : Nat} (hb : b < 0x40030000) : aLEG_STAT n ≠ b := by unfold aLEG_STAT; omega
  refine ⟨cmt, bnd, ?_, onlyRegs_errSet 17 (by simp) (by simp) (onlyRegs_put (f := fLEG_STAT_krn_wr n) 1 (by simp) (OnlyRegs.refl _ s))⟩
  exact (errSet_shows_ne (f := fLEG_STAT_krn_wr n) (apart (by decide)) (apart (by decide))).trans (shows_raise s _ (by decide))

theorem runs_compareWrite_kernel (v : Word) (hg : s.grants r (cmpAddr n.val w) true = true)
    (no : s.handDue (s.legHome n.val) = false) (kern : s.kern (s.legHome n.val) = true) :
    Runs (.compareWrite r n w v) s (fun u => u.cmt = s.cmt ∧ u.bnd = s.bnd ∧ u.shows (fLEG_STAT_krn_wr n.val) = 1 ∧
      OnlyRegs [aLEG_STAT n.val, 0x4002001C, 0x40020010] s u) := by
  refine runs_legWrite (k := cmpWrite n.val (cmpAddr n.val w) v) (legReg_cmpAddr n w) rfl hg no fun l k b => ?_
  rw [cmpWrite_kernel (s := ((s.setLinks l).setWardens k).setBus b) (cmpAddr n.val w) v kern]
  exact krnWrite_refuses _ _

/-! CMP_GEN_WRITE. -/

/-- The leg's values are tagged with a generation (R220). -/
def tagged (n gen : Nat) (s : State) : State :=
  ((s.put (fLEG_CMP_GEN_gen n) gen).raise (fLEG_CMP_GEN_tagged n)).lower (fLEG_CMP_GEN_dirty n)

theorem tagged_shows (n : Nat) (gen : Fin 256) (s : State) : (tagged n gen.val s).shows (fLEG_CMP_GEN_gen n) = gen.val ∧
    (tagged n gen.val s).shows (fLEG_CMP_GEN_tagged n) = 1 ∧ (tagged n gen.val s).shows (fLEG_CMP_GEN_dirty n) = 0 := by
  refine ⟨?_, (shows_put_disj _ 0 (by simp)).trans (shows_raise _ _ (by decide)), shows_lower _ _ (by decide)⟩
  exact (shows_put_disj _ 0 (by simp)).trans ((shows_put_disj _ 1 (by simp)).trans
    ((shows_put s _ _ (by simp)).trans (Nat.mod_eq_of_lt gen.isLt)))

theorem onlyRegs_tagged (n gen : Nat) (s : State) : OnlyRegs [aLEG_CMP_GEN n] s (tagged n gen s) :=
  onlyRegs_put (f := fLEG_CMP_GEN_dirty n) 0 (by simp) (onlyRegs_put (f := fLEG_CMP_GEN_tagged n) 1 (by simp)
    (onlyRegs_put (f := fLEG_CMP_GEN_gen n) gen (by simp) (OnlyRegs.refl _ s)))

theorem cmpGen_coherent {n : Nat} (gen : Nat) (coherent : s.coherent (s.legHome n) = true) :
    cmpGen n gen s = markRewritten n (tagged n gen s) := by
  have no : ¬ s.kern (s.legHome n) = true := by simp [kern_of_coherent coherent]
  exact (if_neg no).trans (if_pos coherent)

theorem cmpGen_tags {n : Nat} (gen : Fin 256) (coherent : s.coherent (s.legHome n) = true) :
    (cmpGen n gen.val s).shows (fLEG_CMP_GEN_gen n) = gen.val ∧ (cmpGen n gen.val s).shows (fLEG_CMP_GEN_tagged n) = 1 ∧
      (cmpGen n gen.val s).shows (fLEG_CMP_GEN_dirty n) = 0 ∧ OnlyRegs [aLEG_CMP_GEN n] s (cmpGen n gen.val s) := by
  rw [cmpGen_coherent gen.val coherent]
  obtain ⟨generation, isTagged, clean⟩ := tagged_shows n gen s
  exact ⟨(markRewritten_shows n _ _).trans generation, (markRewritten_shows n _ _).trans isTagged,
    (markRewritten_shows n _ _).trans clean, onlyRegs_markRewritten n (onlyRegs_tagged n gen.val s)⟩

theorem runs_cmpGenWrite (gen : Fin 256) (hg : s.grants r (aLEG_CMP_GEN n.val) true = true)
    (no : s.handDue (s.legHome n.val) = false) (coherent : s.coherent (s.legHome n.val) = true) :
    Runs (.cmpGenWrite r n gen) s (fun u => u.shows (fLEG_CMP_GEN_gen n.val) = gen.val ∧ u.shows (fLEG_CMP_GEN_tagged n.val) = 1 ∧
      u.shows (fLEG_CMP_GEN_dirty n.val) = 0 ∧ OnlyRegs [aLEG_CMP_GEN n.val] s u) :=
  runs_legWrite (k := cmpGen n.val gen.val) (legReg_cmpGen n) rfl hg no fun l k b =>
    cmpGen_tags (s := ((s.setLinks l).setWardens k).setBus b) gen coherent

end Sys2Proof.Proofs
end

section
/-! PROOFS. O28: TBG_COMMIT and its abort (06_thyme_and_pwm.md R218, R221, R223, R586, R587). -/
namespace Sys2Proof.Proofs
open Sys2Proof Sys2Proof.Machine Sys2Proof.Laws

variable {s t u : State} {a gen : Nat} {g : Nat} {r : Req}

theorem tbgAt_commit (g : Fin 32) : tbgAt (aTBG_COMMIT g.val) = some g.val := by
  unfold tbgAt aTBG_COMMIT
  rw [if_pos (by simp only [Bool.and_eq_true, decide_eq_true_eq]; omega)]
  exact congrArg some (by omega)

theorem blockAt_commit (g : Nat) : blockAt (aTBG_COMMIT g) = some .thy :=
  blockAt_thy (by unfold aTBG_COMMIT; omega) (by unfold aTBG_COMMIT; omega)

theorem runs_commit {g : Fin 32} {c : Instr} {k : State → State} {P : State → Prop}
    (e : exec c s = cmdAt r (aTBG_COMMIT g.val) (fun s => k (handFirst (aTBG_COMMIT g.val) s)) s)
    (hg : s.grants r (aTBG_COMMIT g.val) true = true) (no : s.handDue g.val = false)
    (p : ∀ l w b, P (k (((s.setLinks l).setWardens w).setBus b))) : Runs c s P := by
  refine runs_thyme e (blockAt_commit g.val) hg fun l w b => ?_
  have first : handFirst (aTBG_COMMIT g.val) (((s.setLinks l).setWardens w).setBus b) = ((s.setLinks l).setWardens w).setBus b :=
    handFirst_tbg (tbgAt_commit g) no
  rw [first]
  exact p l w b

/-! Refusals (R22, R89, R223, R587). -/

/-- A commit, or its abort, is refused. -/
def commitRefused (g : Nat) (s : State) : State := tbgIrq g 2 (errEvent .thy 3 s)

/-- A refusal tells Sage and the group's interrupt, and changes no group and no shadow (R22, R29). -/
structure CommitRefused (g : Nat) (s u : State) : Prop where
  cmt : u.cmt = s.cmt
  tbgs : u.tbgs = s.tbgs
  raised : u.shows ⟨aTBG_IRQ_RAW g, 2, 1⟩ = 1
  inbox : u.sage.inbox = s.sage.inbox ++ [⟨42, nOther 4, false⟩]
  regs : OnlyRegs [aTBG_IRQ_RAW g, 0x4002001C, 0x40020010] s u

theorem onlyRegs_errEvent (s : State) : OnlyRegs [aTBG_IRQ_RAW g, 0x4002001C, 0x40020010] s (errEvent .thy 3 s) :=
  fun b hb => (errEvent_rd .thy 3 s b).trans (onlyRegs_errSet (h := 0x40020000) 3 (by simp) (by simp) (OnlyRegs.refl _ s) b hb)

theorem commitRefused_shown (g : Nat) (s : State) : CommitRefused g s (commitRefused g s) :=
  ⟨(errSet_shadows s 0x40020000 3).1, errSet_tbgs s 0x40020000 3, shows_raise _ _ (by decide), errEvent_inbox .thy 3 s,
    onlyRegs_put (f := ⟨aTBG_IRQ_RAW g, 2, 1⟩) 1 (by simp) (onlyRegs_errEvent s)⟩

theorem tbgCommitGo_refused (no : s.on (fTBG_STAT_cmt_pend g) = true ∨ gen ≠ (s.get (fTBG_GEN_applied g) + 1) % 256) :
    tbgCommitGo g gen s = commitRefused g s := by
  have refused : (s.on (fTBG_STAT_cmt_pend g) || decide (gen ≠ (s.get (fTBG_GEN_applied g) + 1) % 256)) = true := by simpa using no
  unfold tbgCommitGo
  exact if_pos refused

theorem runs_tbgCommit_refused {g : Fin 32} {gen : Fin 256} (hg : s.grants r (aTBG_COMMIT g.val) true = true)
    (no : s.handDue g.val = false)
    (wrong : s.on (fTBG_STAT_cmt_pend g.val) = true ∨ gen.val ≠ (s.get (fTBG_GEN_applied g.val) + 1) % 256) :
    Runs (.tbgCommit r g gen) s (CommitRefused g.val s) := by
  refine runs_commit (k := tbgCommitGo g.val gen.val) rfl hg no fun l w b => ?_
  rw [tbgCommitGo_refused (s := ((s.setLinks l).setWardens w).setBus b) wrong]
  have refused := commitRefused_shown g.val (((s.setLinks l).setWardens w).setBus b)
  exact ⟨refused.cmt, refused.tbgs, refused.raised, refused.inbox, refused.regs⟩

theorem runs_tbgCommitAbort_refused {g : Fin 32} (hg : s.grants r (aTBG_COMMIT g.val) true = true)
    (no : s.handDue g.val = false) (flight : s.inFlight g.val = true) :
    Runs (.tbgCommitAbort r g) s (CommitRefused g.val s) := by
  refine runs_commit (k := tbgCommitAbort g.val) rfl hg no fun l w b => ?_
  have refused : tbgCommitAbort g.val (((s.setLinks l).setWardens w).setBus b) = commitRefused g.val (((s.setLinks l).setWardens w).setBus b) :=
    if_pos flight
  rw [refused]
  have shown := commitRefused_shown g.val (((s.setLinks l).setWardens w).setBus b)
  exact ⟨shown.cmt, shown.tbgs, shown.raised, shown.inbox, shown.regs⟩

/-! A commit that is accepted (R221, R223, R586). -/

/-- The generation is noted, and no commit was refused (R221, R223). -/
def commitNoted (g gen : Nat) (s : State) : State := (s.lower (fTBG_STAT_adm_ref g)).put (fTBG_GEN_pending g) gen

theorem onlyRegs_lower {l : List Nat} {f : Fld} (hf : f.addr ∈ l) (h : OnlyRegs l s t) : OnlyRegs l s (t.lower f) := onlyRegs_put 0 hf h

theorem onlyRegs_commitNoted (g gen : Nat) (s : State) : OnlyRegs [aTBG_STAT g, aTBG_GEN g] s (commitNoted g gen s) :=
  onlyRegs_put (f := fTBG_GEN_pending g) gen (by simp) (onlyRegs_lower (f := fTBG_STAT_adm_ref g) (by simp) (OnlyRegs.refl _ s))

theorem commitNoted_cmt (g gen : Nat) (s : State) : (commitNoted g gen s).cmt = s.cmt := rfl

/-- The commit of a running group waits for the boundary. -/
def commitWaits (g gen : Nat) (s : State) : State := (commitNoted g gen s).raise (fTBG_STAT_cmt_pend g)

theorem commitWaits_shows (g : Nat) (gen : Fin 256) (s : State) : (commitWaits g gen.val s).shows (fTBG_STAT_cmt_pend g) = 1 ∧
    (commitWaits g gen.val s).shows (fTBG_GEN_pending g) = gen.val := by
  refine ⟨shows_raise _ _ (by decide), (shows_put_ne _ 1 (by simp [aTBG_STAT, aTBG_GEN])).trans ?_⟩
  exact (shows_put _ (fTBG_GEN_pending g) _ (by simp)).trans (Nat.mod_eq_of_lt gen.isLt)

theorem onlyRegs_commitWaits (g gen : Nat) (s : State) : OnlyRegs [aTBG_STAT g, aTBG_GEN g] s (commitWaits g gen s) :=
  onlyRegs_put (f := fTBG_STAT_cmt_pend g) 1 (by simp) (onlyRegs_commitNoted g gen s)

theorem commitWaits_cmt (g gen : Nat) (s : State) : (commitWaits g gen s).cmt = s.cmt := rfl

/-- The next generation of a commit that changes no period passes the checks. -/
theorem tbgCommitGo_accepted (idle : s.on (fTBG_STAT_cmt_pend g) = false) (next : gen = (s.get (fTBG_GEN_applied g) + 1) % 256)
    (same : s.newPeriod g = false) : tbgCommitGo g gen s =
      if !s.tbgRun g then
        if s.coherent g && !(s.incomplete g gen []).isEmpty then commitRefused g s
        else applyStopped g gen (commitNoted g gen s)
      else
        (commitWaits g gen s).putTbg g { (commitWaits g gen s).tbg g with hand := 0 } := by
  have accepted : ¬ (s.on (fTBG_STAT_cmt_pend g) || decide (gen ≠ (s.get (fTBG_GEN_applied g) + 1) % 256)) = true := by simp [idle, next]
  unfold tbgCommitGo
  rw [if_neg accepted]
  simp only [same, Bool.false_and, Bool.false_eq_true, if_false]
  rfl

/-! A group's own record is no register and no shadow. -/

theorem putTbg_shows (g : Nat) (y : Tbg) (s : State) (f : Fld) : (s.putTbg g y).shows f = s.shows f := rfl
theorem putTbg_cmt (g : Nat) (y : Tbg) (s : State) : (s.putTbg g y).cmt = s.cmt := rfl
theorem onlyRegs_putTbg {l : List Nat} (y : Tbg) (h : OnlyRegs l s t) : OnlyRegs l s (t.putTbg g y) := h

theorem tbgCommitGo_waits (gen : Fin 256) (run : s.tbgRun g = true) (idle : s.on (fTBG_STAT_cmt_pend g) = false)
    (next : gen.val = (s.get (fTBG_GEN_applied g) + 1) % 256) (same : s.newPeriod g = false) :
    (tbgCommitGo g gen.val s).shows (fTBG_STAT_cmt_pend g) = 1 ∧ (tbgCommitGo g gen.val s).shows (fTBG_GEN_pending g) = gen.val ∧
      (tbgCommitGo g gen.val s).cmt = s.cmt ∧ OnlyRegs [aTBG_STAT g, aTBG_GEN g] s (tbgCommitGo g gen.val s) := by
  rw [tbgCommitGo_accepted idle next same, if_neg (by simp [run])]
  obtain ⟨pend, pending⟩ := commitWaits_shows g gen s
  exact ⟨(putTbg_shows _ _ _ _).trans pend, (putTbg_shows _ _ _ _).trans pending,
    (putTbg_cmt _ _ _).trans (commitWaits_cmt g gen.val s), onlyRegs_putTbg _ (onlyRegs_commitWaits g gen.val s)⟩

theorem runs_tbgCommit_waits {g : Fin 32} {gen : Fin 256} (hg : s.grants r (aTBG_COMMIT g.val) true = true)
    (no : s.handDue g.val = false) (run : s.tbgRun g.val = true) (idle : s.on (fTBG_STAT_cmt_pend g.val) = false)
    (next : gen.val = (s.get (fTBG_GEN_applied g.val) + 1) % 256) (same : s.newPeriod g.val = false) :
    Runs (.tbgCommit r g gen) s (fun u => u.shows (fTBG_STAT_cmt_pend g.val) = 1 ∧ u.shows (fTBG_GEN_pending g.val) = gen.val ∧
      u.cmt = s.cmt ∧ OnlyRegs [aTBG_STAT g.val, aTBG_GEN g.val] s u) :=
  runs_commit (k := tbgCommitGo g.val gen.val) rfl hg no fun l w b =>
    tbgCommitGo_waits (s := ((s.setLinks l).setWardens w).setBus b) gen run idle next same

/-! The commit of a stopped group applies at once (R586). -/

/-- The commit's shadows and Thyme's registers beside the legs' stand. -/
structure ThyStands (s t : State) : Prop where
  cmt : t.cmt = s.cmt
  regs : ∀ a, pageOf a = 2 → t.rd a = s.rd a

theorem ThyStands.of_touch {p : Nat} (k : Touch p s s → Touch p s t) (hp : has p 2 = false ∧ has p 22 = false) : ThyStands s t := by
  obtain ⟨-, -, -, same⟩ := k (Touch.rfl' p s)
  exact ⟨same .cmt hp.2, fun a ha => same (.regs 2) hp.1 a ha⟩

theorem ThyStands.trans (h : ThyStands s t) (k : ThyStands t u) : ThyStands s u :=
  ⟨k.cmt.trans h.cmt, fun a ha => (k.regs a ha).trans (h.regs a ha)⟩

theorem ThyStands.shows (h : ThyStands s t) {f : Fld} (hf : pageOf f.addr = 2) : t.shows f = s.shows f := by
  unfold State.shows
  rw [h.regs _ hf]

theorem cleanLegs_stands (g : Nat) (s : State) : ThyStands s (cleanLegs g s) := .of_touch (touch_cleanLegs (Sub.refl _) g s) (by decide)

theorem hintPeriods_stands (g : Nat) (s : State) : ThyStands s (hintPeriods g (refreshLoads s)) :=
  (ThyStands.of_touch (touch_refreshLoads (Sub.refl _) s) (by decide)).trans (.of_touch (touch_hintPeriods (Sub.refl _) g _) (by decide))

theorem applyStopped_stands (g gen : Nat) (s : State) :
    ThyStands (commitDone g gen (applyCmt (s.ofGroup g) s)) (applyStopped g gen s) := by
  have clean := cleanLegs_stands g (commitDone g gen (applyCmt (s.ofGroup g) s))
  unfold applyStopped
  dsimp only
  split
  · exact clean.trans (hintPeriods_stands g _)
  · exact clean

/-! A source of TBG[g]_IRQ_RAW. -/

theorem tbgIrq_shows (g : Nat) {i : Nat} (hi : i < 32) (s : State) : (tbgIrq g i s).shows ⟨aTBG_IRQ_RAW g, i, 1⟩ = 1 := shows_raise s _ hi

theorem tbgIrq_shows_ne (i : Nat) (s : State) {f : Fld} (h : aTBG_IRQ_RAW g ≠ f.addr) : (tbgIrq g i s).shows f = s.shows f :=
  shows_put_ne (f := ⟨aTBG_IRQ_RAW g, i, 1⟩) s 1 h

theorem onlyRegs_tbgIrq {l : List Nat} (i : Nat) (h : OnlyRegs l s t) (raw : aTBG_IRQ_RAW g ∈ l) : OnlyRegs l s (tbgIrq g i t) :=
  onlyRegs_put (f := ⟨aTBG_IRQ_RAW g, i, 1⟩) 1 raw h

theorem shows_of_rd {f : Fld} (h : t.rd f.addr = s.rd f.addr) : t.shows f = s.shows f := by
  unfold State.shows
  rw [h]

/-- Another flag of TBG[g]_STAT is lowered. -/
theorem lower_cmtPend {i : Nat} (hi : 4 ≤ i) (h : s.shows (fTBG_STAT_cmt_pend g) = 0) :
    (s.lower ⟨aTBG_STAT g, i, 1⟩).shows (fTBG_STAT_cmt_pend g) = 0 :=
  (shows_put_disj (f := ⟨aTBG_STAT g, i, 1⟩) (g := fTBG_STAT_cmt_pend g) s 0 (.inl hi)).trans h

/-- The commit no longer waits. -/
def commitEnds (g : Nat) (s : State) : State :=
  (((s.lower (fTBG_STAT_cmt_pend g)).lower (fTBG_STAT_hold g)).lower (fTBG_STAT_torn g)).lower (fTBG_STAT_pper g)

theorem commitEnds_shows (g : Nat) (s : State) : (commitEnds g s).shows (fTBG_STAT_cmt_pend g) = 0 :=
  lower_cmtPend (i := 7) (by decide) (lower_cmtPend (i := 5) (by decide) (lower_cmtPend (i := 4) (by decide) (shows_lower s _ (by decide))))

theorem onlyRegs_commitEnds {l : List Nat} (h : OnlyRegs l s t) (stat : aTBG_STAT g ∈ l) : OnlyRegs l s (commitEnds g t) :=
  onlyRegs_lower stat (onlyRegs_lower stat (onlyRegs_lower stat (onlyRegs_lower stat h)))

theorem commitDone_eq (g gen : Nat) (s : State) : ∃ y, commitDone g gen s = (tbgIrq g 1 (commitEnds g (s.put (fTBG_GEN_applied g) gen))).putTbg g y :=
  ⟨_, rfl⟩

/-- What a commit's application shows (R221). -/
theorem commitDone_shows (g : Nat) (gen : Fin 256) (s : State) : (commitDone g gen.val s).shows (fTBG_GEN_applied g) = gen.val ∧
    (commitDone g gen.val s).shows (fTBG_STAT_cmt_pend g) = 0 ∧ (commitDone g gen.val s).shows ⟨aTBG_IRQ_RAW g, 1, 1⟩ = 1 := by
  obtain ⟨y, e⟩ := commitDone_eq g gen.val s
  rw [e]
  refine ⟨(putTbg_shows _ _ _ _).trans ?generation, (putTbg_shows _ _ _ _).trans ?pend,
    (putTbg_shows _ _ _ _).trans (tbgIrq_shows g (by decide) _)⟩
  case generation =>
    have kept := onlyRegs_tbgIrq (g := g) 1 (onlyRegs_commitEnds (g := g) (l := [aTBG_STAT g, aTBG_IRQ_RAW g])
      (OnlyRegs.refl _ (s.put (fTBG_GEN_applied g) gen.val)) (by simp)) (by simp)
    have gens := kept (aTBG_GEN g) (by simp [aTBG_STAT, aTBG_IRQ_RAW, aTBG_GEN])
    exact (shows_of_rd (f := fTBG_GEN_applied g) gens).trans ((shows_put s (fTBG_GEN_applied g) _ (by simp)).trans (Nat.mod_eq_of_lt gen.isLt))
  case pend =>
    exact (tbgIrq_shows_ne 1 _ (by simp [aTBG_IRQ_RAW, aTBG_STAT])).trans (commitEnds_shows g _)

theorem onlyRegs_commitDone (g gen : Nat) (s : State) : OnlyRegs [aTBG_GEN g, aTBG_STAT g, aTBG_IRQ_RAW g] s (commitDone g gen s) := by
  obtain ⟨y, e⟩ := commitDone_eq g gen s
  rw [e]
  exact onlyRegs_putTbg y (onlyRegs_tbgIrq 1 (onlyRegs_commitEnds (onlyRegs_put (f := fTBG_GEN_applied g) gen (by simp)
    (OnlyRegs.refl _ s)) (by simp)) (by simp))

theorem commitDone_cmt (g gen : Nat) (s : State) : (commitDone g gen s).cmt = s.cmt := by
  obtain ⟨-, -, -, same⟩ := touch_commitDone (Sub.refl _) g gen s (Touch.rfl' _ s)
  exact same .cmt rfl

/-! The one shadow that applies. -/

theorem crcDrop_rd (a : Nat) (s : State) (b : Nat) : (crcDrop a s).rd b = s.rd b := by
  unfold crcDrop
  split
  · split <;> rfl
  · rfl

theorem crcDrop_cmt (a : Nat) (s : State) : (crcDrop a s).cmt = s.cmt := by
  obtain ⟨-, -, -, same⟩ := touch_crcDrop (Sub.refl _) a s (Touch.rfl' _ s)
  exact same .cmt rfl

/-- The shadows that apply leave the table; the one that does gives its register its bits. -/
theorem applyCmt_one {c : Nat → Bool} {p : Pend} (one : s.cmt.filter (fun x => c x.1) = [(a, p)]) (leg : legAt a = none) :
    (applyCmt c s).rd a = p.on (s.rd a) ∧ (applyCmt c s).cmt = s.cmt.filter (fun x => !c x.1) := by
  have taken {y : State} : byKern a false y = y := by
    unfold byKern
    rw [leg]
  have only : applyCmt c s = crcDrop a (poke a p.m p.v (s.setCmt (s.cmt.filter (fun x => !c x.1)))) := by
    unfold applyCmt applyTab
    dsimp only
    rw [one]
    exact taken
  rw [only]
  refine ⟨(crcDrop_rd a _ a).trans (poke_rd a p.m p.v _), (crcDrop_cmt a _).trans (poke_cmt a p.m p.v _)⟩

/-! TBG_COMMIT. -/

theorem legHome_wr (s : State) {b : Nat} (v : Word) (h : ∀ n, b ≠ aLEG_CFG n) : (s.wr b v).legHome = s.legHome := by
  funext n
  have comes : (s.wr b v).comes (aLEG_CFG n) = s.comes (aLEG_CFG n) := by
    unfold State.comes
    rw [use_wr_ne s v (h n)]
    rfl
  unfold State.legHome
  rw [comes]
  rfl

theorem ofGroup_put (s : State) {f : Fld} (v : Nat) (h : f.addr < 0x40030000) : (s.put f v).ofGroup = s.ofGroup := by
  have home : (s.put f v).legHome = s.legHome := legHome_wr s _ fun n => by unfold aLEG_CFG; omega
  delta State.ofGroup
  rw [home]

theorem commitNoted_ofGroup (g gen : Nat) (s : State) : (commitNoted g gen s).ofGroup = s.ofGroup :=
  (ofGroup_put _ (f := fTBG_GEN_pending g) gen (Nat.lt_trans (aTBG_lt (o := 0x1C) (by decide) g) (by decide))).trans
    (ofGroup_put s (f := fTBG_STAT_adm_ref g) 0 (Nat.lt_trans (aTBG_lt (o := 0x20) (by decide) g) (by decide)))

/-- A commit applied: the sample register has the shadow's bits, and nothing of the group waits. -/
structure CommitApplied (g gen : Nat) (p : Pend) (s u : State) : Prop where
  sample : u.rd (aTBG_SMP g) = p.on (s.rd (aTBG_SMP g))
  cmt : u.cmt = s.cmt.filter (fun x => !s.ofGroup g x.1)
  generation : u.shows (fTBG_GEN_applied g) = gen
  pend : u.shows (fTBG_STAT_cmt_pend g) = 0
  raised : u.shows ⟨aTBG_IRQ_RAW g, 1, 1⟩ = 1

theorem applyStopped_applied {p : Pend} (gen : Fin 256) (one : s.cmt.filter (fun x => s.ofGroup g x.1) = [(aTBG_SMP g, p)]) :
    CommitApplied g gen.val p s (applyStopped g gen.val (commitNoted g gen.val s)) := by
  have leg : legAt (aTBG_SMP g) = none := by
    unfold legAt aTBG_SMP
    rw [if_neg (by simp only [Bool.and_eq_true, decide_eq_true_eq]; omega)]
  have noted : (commitNoted g gen.val s).rd (aTBG_SMP g) = s.rd (aTBG_SMP g) :=
    onlyRegs_commitNoted g gen.val s _ (by simp [aTBG_SMP, aTBG_STAT, aTBG_GEN])
  have stands := applyStopped_stands g gen.val (commitNoted g gen.val s)
  rw [commitNoted_ofGroup] at stands
  obtain ⟨sample, cmt⟩ := applyCmt_one (s := commitNoted g gen.val s) (c := s.ofGroup g) (p := p) (one := one) leg
  obtain ⟨generation, pend, raised⟩ := commitDone_shows g gen (applyCmt (s.ofGroup g) (commitNoted g gen.val s))
  have kept := onlyRegs_commitDone g gen.val (applyCmt (s.ofGroup g) (commitNoted g gen.val s)) (aTBG_SMP g)
    (by simp [aTBG_SMP, aTBG_GEN, aTBG_STAT, aTBG_IRQ_RAW])
  rw [noted] at sample
  rw [commitNoted_cmt] at cmt
  exact ⟨(stands.regs _ (page_aTBG_SMP g)).trans (kept.trans sample), stands.cmt.trans ((commitDone_cmt g _ _).trans cmt),
    (stands.shows (f := fTBG_GEN_applied g) (page_aTBG_GEN g)).trans generation,
    (stands.shows (f := fTBG_STAT_cmt_pend g) (page_aTBG_STAT g)).trans pend,
    (stands.shows (f := ⟨aTBG_IRQ_RAW g, 1, 1⟩) (page_aTBG_IRQ_RAW g)).trans raised⟩

theorem tbgCommitGo_applied {p : Pend} (gen : Fin 256) (run : s.tbgRun g = false) (idle : s.on (fTBG_STAT_cmt_pend g) = false)
    (next : gen.val = (s.get (fTBG_GEN_applied g) + 1) % 256) (same : s.newPeriod g = false)
    (complete : (s.coherent g && !(s.incomplete g gen.val []).isEmpty) = false)
    (one : s.cmt.filter (fun x => s.ofGroup g x.1) = [(aTBG_SMP g, p)]) : CommitApplied g gen.val p s (tbgCommitGo g gen.val s) := by
  rw [tbgCommitGo_accepted idle next same, if_pos (by simp [run]), if_neg (by rw [complete]; decide)]
  exact applyStopped_applied gen one

theorem runs_tbgCommit_applied {g : Fin 32} {gen : Fin 256} {p : Pend} (hg : s.grants r (aTBG_COMMIT g.val) true = true)
    (no : s.handDue g.val = false) (run : s.tbgRun g.val = false) (idle : s.on (fTBG_STAT_cmt_pend g.val) = false)
    (next : gen.val = (s.get (fTBG_GEN_applied g.val) + 1) % 256) (same : s.newPeriod g.val = false)
    (complete : (s.coherent g.val && !(s.incomplete g.val gen.val []).isEmpty) = false)
    (one : s.cmt.filter (fun x => s.ofGroup g.val x.1) = [(aTBG_SMP g.val, p)]) :
    Runs (.tbgCommit r g gen) s (CommitApplied g.val gen.val p s) := by
  refine runs_commit (k := tbgCommitGo g.val gen.val) rfl hg no fun l w b => ?_
  have applied := tbgCommitGo_applied (s := ((s.setLinks l).setWardens w).setBus b) gen run idle next same complete one
  exact ⟨applied.sample, applied.cmt, applied.generation, applied.pend, applied.raised⟩

/-! TBG_COMMIT_ABORT (R218). -/

/-- The shadows of the group go, nothing waits, and its generation stands. -/
structure CommitDropped (g : Nat) (s u : State) : Prop where
  cmt : u.cmt = s.cmt.filter (fun x => !s.ofGroup g x.1)
  bnd : u.bnd = s.bnd
  pend : u.shows (fTBG_STAT_cmt_pend g) = 0
  generation : u.rd (aTBG_GEN g) = s.rd (aTBG_GEN g)

/-- A leg's compare values become CLEAN. -/
def cleaned (n : Nat) (s : State) : State := (s.lower (fLEG_CMP_GEN_dirty n)).lower (fLEG_CMP_GEN_tagged n)

theorem onlyRegs_cleaned (n : Nat) (s : State) : OnlyRegs [aLEG_CMP_GEN n] s (cleaned n s) :=
  onlyRegs_lower (f := fLEG_CMP_GEN_tagged n) (by simp) (onlyRegs_lower (f := fLEG_CMP_GEN_dirty n) (by simp) (OnlyRegs.refl _ s))

/-- The flags of a commit that is dropped. -/
def flagsDropped (g : Nat) (s : State) : State :=
  ((s.lower (fTBG_STAT_cmt_pend g)).lower (fTBG_STAT_hold g)).lower (fTBG_STAT_pper g)

theorem dropTbgCommit_eq (g : Nat) (s : State) : ∃ l y,
    dropTbgCommit g s = ((flagsDropped g (dropCmt (s.ofGroup g) s)).each l cleaned).putTbg g y := ⟨_, _, rfl⟩

theorem dropTbgCommit_dropped (g : Nat) (s : State) : CommitDropped g s (dropTbgCommit g s) := by
  obtain ⟨l, y, e⟩ := dropTbgCommit_eq g s
  have cleans {x : State} : ThyStands x (x.each l cleaned) := by
    refine each_keeps (P := ThyStands x) (fun n _ t ht => ht.trans ⟨rfl, fun a ha => onlyRegs_cleaned n t a ?_⟩) ⟨rfl, fun _ _ => rfl⟩
    rw [List.mem_singleton]
    rintro rfl
    rw [page_aLEG_CMP_GEN] at ha
    exact absurd ha (by decide)
  have flags : (flagsDropped g (dropCmt (s.ofGroup g) s)).shows (fTBG_STAT_cmt_pend g) = 0 :=
    lower_cmtPend (i := 7) (by decide) (lower_cmtPend (i := 4) (by decide) (shows_lower _ _ (by decide)))
  have kept : OnlyRegs [aTBG_STAT g] s (flagsDropped g (dropCmt (s.ofGroup g) s)) :=
    onlyRegs_lower (by simp) (onlyRegs_lower (by simp) (onlyRegs_lower (by simp) fun b _ => dropCmt_rd _ s b))
  refine ⟨?_, dropTbgCommit_bnd g s, ?_, ?_⟩
  all_goals rw [e]
  · exact (putTbg_cmt _ _ _).trans (cleans.cmt.trans (dropCmt_cmt _ s))
  · exact (putTbg_shows _ _ _ _).trans ((cleans.shows (f := fTBG_STAT_cmt_pend g) (page_aTBG_STAT g)).trans flags)
  · exact (cleans.regs _ (page_aTBG_GEN g)).trans (kept _ (by simp [aTBG_GEN, aTBG_STAT]))

theorem runs_tbgCommitAbort {g : Fin 32} (hg : s.grants r (aTBG_COMMIT g.val) true = true) (no : s.handDue g.val = false)
    (flight : s.inFlight g.val = false) : Runs (.tbgCommitAbort r g) s (CommitDropped g.val s) := by
  refine runs_commit (k := tbgCommitAbort g.val) rfl hg no fun l w b => ?_
  have dropped := dropTbgCommit_dropped g.val (((s.setLinks l).setWardens w).setBus b)
  have goes : ¬ (((s.setLinks l).setWardens w).setBus b).inFlight g.val = true := ne_true_of_eq_false flight
  have drops : tbgCommitAbort g.val (((s.setLinks l).setWardens w).setBus b) = dropTbgCommit g.val (((s.setLinks l).setWardens w).setBus b) :=
    if_neg goes
  rw [drops]
  exact ⟨dropped.cmt, dropped.bnd, dropped.pend, dropped.generation⟩

/-- Settles O28: a commit is refused, waits or applies by what its group shows; the abort drops the shadows of the group; a compare value
goes to the shadow or to the register that the group's mode names. -/
theorem groupCommits : Obligations.GroupCommits := by
  unfold Obligations.GroupCommits
  refine ⟨?waits, ?refused, ?applied, ?aborted, ?abortRefused, ?coherent, ?stopped, ?running, ?kernel, ?tagged⟩
  case waits => exact fun r g gen s hg no run idle next same => runs_tbgCommit_waits hg no run idle next same
  case refused =>
    intro r g gen s hg no wrong
    obtain ⟨u, runs, shown⟩ := runs_tbgCommit_refused hg no wrong
    exact ⟨u, runs, shown.cmt, shown.tbgs, shown.raised, shown.inbox, shown.regs⟩
  case applied =>
    intro r g gen p s hg no run idle next same complete one
    obtain ⟨u, runs, shown⟩ := runs_tbgCommit_applied hg no run idle next same complete one
    exact ⟨u, runs, shown.sample, shown.cmt, shown.generation, shown.pend, shown.raised⟩
  case aborted =>
    intro r g s hg no flight
    obtain ⟨u, runs, shown⟩ := runs_tbgCommitAbort hg no flight
    exact ⟨u, runs, shown.cmt, shown.bnd, shown.pend, shown.generation⟩
  case abortRefused =>
    intro r g s hg no flight
    obtain ⟨u, runs, shown⟩ := runs_tbgCommitAbort_refused hg no flight
    exact ⟨u, runs, shown.cmt, shown.tbgs, shown.raised, shown.regs⟩
  case coherent =>
    intro r n w v s hg no coherent
    obtain ⟨u, runs, shown⟩ := runs_compareWrite_coherent v hg no coherent
    exact ⟨u, runs, shown.shadow, shown.register, shown.dirty, shown.regs⟩
  case stopped => exact fun r n w v s hg no kern direct run => runs_compareWrite_stopped v hg no kern direct run
  case running =>
    intro r n w v s hg no kern direct run
    obtain ⟨u, runs, shown⟩ := runs_compareWrite_running v hg no kern direct run
    exact ⟨u, runs, shown.shadow, shown.register, shown.cmt, shown.regs⟩
  case kernel => exact fun r n w v s hg no kern => runs_compareWrite_kernel v hg no kern
  case tagged => exact fun r n gen s hg no coherent => runs_cmpGenWrite gen hg no coherent

end Sys2Proof.Proofs
end

section
/-! PROOFS. What an operation that spares a page of the register map, a table or the inbox of Sage leaves there, and the accessors of legs
and groups that read no more than that. -/
namespace Sys2Proof.Proofs
open Sys2Proof Sys2Proof.Machine Sys2Proof.Laws

variable {m a k : Nat} {f : Fld} {s t : State}

theorem rd_of_touch (h : Touch m s t) (e : pageOf a = k) (spared : has m k = false) (lt : k < 18 := by decide) : t.rd a = s.rd a := by
  obtain ⟨-, -, -, same⟩ := h
  exact same (.regs ⟨k, lt⟩) spared a e

theorem shows_of_touch (h : Touch m s t) (e : pageOf f.addr = k) (spared : has m k = false) (lt : k < 18 := by decide) :
    t.shows f = s.shows f := shows_of_rd (rd_of_touch h e spared lt)

theorem tmr_of_touch (h : Touch m s t) (spared : has m 23 = false) : t.tmr = s.tmr := by
  obtain ⟨-, -, -, same⟩ := h
  exact same .tmr spared

theorem leg_of_touch (h : Touch m s t) (spared : has m 36 = false) : t.leg = s.leg := by
  obtain ⟨-, -, -, same⟩ := h
  funext n
  unfold State.leg
  rw [same .legs spared]

theorem mg_of_touch (h : Touch m s t) (spared : has m 37 = false) : t.mg = s.mg := by
  obtain ⟨-, -, -, same⟩ := h
  funext n
  unfold State.mg
  rw [same .mgs spared]

theorem inbox_of_touch (h : Touch m s t) (spared : has m 41 = false) : t.sage.inbox = s.sage.inbox := by
  obtain ⟨-, -, -, same⟩ := h
  rw [same .sage spared]

/-- Where no copies differ, one bit is taken as 1 when it shows 1. -/
theorem on_of_shows (hs : s.tmr = []) (h : s.shows f = 1) : s.on f = true := by
  unfold State.on
  rw [get_eq_shows' s f hs, h]
  rfl

/-- A bit is what its field of one bit shows. -/
theorem bitAt_eq_shows (s : State) (a i : Nat) : s.bitAt a i = (s.shows (bitFld a i) != 0) := rfl

theorem bitFld_leg {a i : Nat} (hi : i < 32) : bitFld a i = ⟨a, i, 1⟩ := by
  unfold bitFld
  rw [Nat.div_eq_of_lt hi, Nat.mod_eq_of_lt hi]
  rfl

/-- The enabled member legs of a group are named by the configuration of the legs. -/
theorem members_congr (cfg : ∀ n, t.rd (aLEG_CFG n) = s.rd (aLEG_CFG n)) (copies : t.tmr = s.tmr) : t.members = s.members := by
  funext m
  unfold State.members State.legEn State.legMg State.on
  simp only [fun n => get_of_rd (f := fLEG_CFG_en n) (cfg n) copies, fun n => get_of_rd (f := fLEG_CFG_mg n) (cfg n) copies]

theorem rd_putMg (s : State) (m : Nat) (g : Mg) (a : Nat) : (s.putMg m g).rd a = s.rd a := rfl

end Sys2Proof.Proofs
end

section
/-! PROOFS. O31: clears of latched sources, and their refusals (07_trips_and_leg_protection.md R248, R249, R264). -/
namespace Sys2Proof.Proofs
open Sys2Proof Sys2Proof.Machine Sys2Proof.Laws

variable {s t u : State} {n m : Nat}

theorem mgTripStat_ne_leg (n m : Nat) : aMG_TRIP_STAT m ≠ aLEG_TRIP_STAT n := by unfold aMG_TRIP_STAT aLEG_TRIP_STAT; omega

theorem mgStat_ne_leg (n m : Nat) : aMG_STAT m ≠ aLEG_TRIP_STAT n := by unfold aMG_STAT aLEG_TRIP_STAT; omega

theorem mgStat_ne_trip (k m : Nat) : aMG_STAT k ≠ aMG_TRIP_STAT m := by unfold aMG_STAT aMG_TRIP_STAT; omega

/-- The summary of a group is one bit of MG[m]_TRIP_STAT and one of THY_TRIP_SUM (R264). -/
theorem refreshSum_rd (m : Nat) (s : State) {a : Nat} (page : pageOf a = 3) (ne : a ≠ aMG_TRIP_STAT m) : (refreshSum m s).rd a = s.rd a := by
  have sum : (bitFld aTHY_TRIP_SUM m).addr ≠ a := fun e => by
    have := page_bit_aTHY_TRIP_SUM m
    rw [e, page] at this
    cases this
  exact (rd_wr_ne _ _ sum).trans (rd_wr_ne _ _ ne.symm)

theorem refreshSum_shows (m : Nat) (s : State) {f : Fld} (page : pageOf f.addr = 3)
    (other : f.addr ≠ aMG_TRIP_STAT m ∨ f.lo + f.w ≤ 3 ∨ 4 ≤ f.lo) : (refreshSum m s).shows f = s.shows f := by
  obtain ne | apart := other
  · exact shows_of_rd (refreshSum_rd m s page ne)
  · have sum : (bitFld aTHY_TRIP_SUM m).addr ≠ f.addr := fun e => by
      have := page_bit_aTHY_TRIP_SUM m
      rw [e, page] at this
      cases this
    exact (shows_put_ne _ _ sum).trans (shows_put_disj (f := fMG_TRIP_STAT_leg m) s _ apart)

/-! Legs. -/

/-- No source of the leg is latched, its armed clear is as it was, and every group keeps its state (R249). -/
structure LegCleared (n : Nat) (s u : State) : Prop where
  src : u.shows (fLEG_TRIP_STAT_src n) = 0
  latched : u.shows (fLEG_TRIP_STAT_latched n) = 0
  armed : u.shows (fLEG_TRIP_STAT_armed n) = s.shows (fLEG_TRIP_STAT_armed n)
  sources : (u.leg n).latchSrc = []
  group : ∀ m, u.mgState m = s.mgState m

theorem latchesLowered_shows (n : Nat) (s : State) :
    ((s.put (fLEG_TRIP_STAT_src n) 0).lower (fLEG_TRIP_STAT_latched n)).shows (fLEG_TRIP_STAT_src n) = 0 ∧
    ((s.put (fLEG_TRIP_STAT_src n) 0).lower (fLEG_TRIP_STAT_latched n)).shows (fLEG_TRIP_STAT_latched n) = 0 ∧
    ((s.put (fLEG_TRIP_STAT_src n) 0).lower (fLEG_TRIP_STAT_latched n)).shows (fLEG_TRIP_STAT_armed n) =
      s.shows (fLEG_TRIP_STAT_armed n) := by
  refine ⟨?_, shows_lower _ _ (by decide), ?_⟩
  · exact (shows_put_disj (f := fLEG_TRIP_STAT_latched n) (g := fLEG_TRIP_STAT_src n) _ 0 (by simp)).trans (shows_put _ _ _ (by simp))
  · exact (shows_put_disj (f := fLEG_TRIP_STAT_latched n) (g := fLEG_TRIP_STAT_armed n) _ 0 (by simp)).trans
      (shows_put_disj (f := fLEG_TRIP_STAT_src n) s 0 (by simp))

/-- A leg of group `m` without latched sources, and the summary of the group after it. -/
def sourceless (n m : Nat) (s : State) : State := refreshSum m (s.putLeg n { s.leg n with latchSrc := [] })

theorem clearLeg_eq (n : Nat) (s : State) : ∃ t, t = (s.put (fLEG_TRIP_STAT_src n) 0).lower (fLEG_TRIP_STAT_latched n) ∧
    clearLeg n s = hintChange ((sourceless n (s.legMg n) t).members (s.legMg n)) (sourceless n (s.legMg n) t) := ⟨_, rfl, rfl⟩

theorem sourceless_rd (n m : Nat) (s : State) {a : Nat} (page : pageOf a = 3) (ne : a ≠ aMG_TRIP_STAT m) :
    (sourceless n m s).rd a = s.rd a := refreshSum_rd _ _ page ne

theorem sourceless_leg (n m : Nat) (s : State) : ((sourceless n m s).leg n).latchSrc = [] := by
  unfold sourceless
  rw [leg_of_touch (touch_refreshSum (Sub.refl _) _ _ (Touch.rfl' 0xC _)) rfl, leg_putLeg]

theorem legCleared_clearLeg (n : Nat) (s : State) : LegCleared n s (clearLeg n s) := by
  have copies : (clearLeg n s).tmr = s.tmr := tmr_of_touch (touch_clearLeg (Sub.refl _) n s (Touch.rfl' _ s)) rfl
  obtain ⟨t, lowered, cleared⟩ := clearLeg_eq n s
  obtain ⟨src, latched, armed⟩ := lowered ▸ latchesLowered_shows n s
  have hint := touch_hintChange (Sub.refl _) ((sourceless n (s.legMg n) t).members (s.legMg n)) _ (Touch.rfl' _ (sourceless n (s.legMg n) t))
  rw [← cleared] at hint
  have stat : (clearLeg n s).rd (aLEG_TRIP_STAT n) = t.rd (aLEG_TRIP_STAT n) := by
    rw [rd_of_touch hint (page_aLEG_TRIP_STAT n) rfl, sourceless_rd n _ t (page_aLEG_TRIP_STAT n) (mgTripStat_ne_leg n _).symm]
  refine ⟨(shows_of_rd stat).trans src, (shows_of_rd stat).trans latched, (shows_of_rd stat).trans armed, ?_, fun m => ?_⟩
  · rw [leg_of_touch hint rfl, sourceless_leg]
  · refine get_of_rd (f := fMG_STAT_state m) ?_ copies
    have apart : aLEG_TRIP_STAT n ≠ aMG_STAT m := (mgStat_ne_leg n m).symm
    rw [rd_of_touch hint (page_aMG_STAT m) rfl, sourceless_rd n _ t (page_aMG_STAT m) (mgStat_ne_trip m _), lowered]
    exact (rd_wr_ne _ _ apart).trans (rd_wr_ne _ _ apart)

/-- A clear that is refused counts and is flagged (R249). -/
structure LegClearRefused (n : Nat) (s u : State) : Prop where
  src : u.shows (fLEG_TRIP_STAT_src n) = s.shows (fLEG_TRIP_STAT_src n)
  legs : u.legs = s.legs
  count : u.shows (fLEG_TRIP_STAT_clr_refused n) = min (s.get (fLEG_TRIP_STAT_clr_refused n) + 1) 255
  flag : u.shows (fMG_IRQ_RAW_clr_ref (s.legMg n)) = 1
  regs : OnlyRegs [aLEG_TRIP_STAT n, aMG_IRQ_RAW (s.legMg n)] s u

theorem mgRaw_ne_leg (n m : Nat) : aMG_IRQ_RAW m ≠ aLEG_TRIP_STAT n := by unfold aMG_IRQ_RAW aLEG_TRIP_STAT; omega

/-- A counter of `w` bits shows the count, held at its highest value. -/
theorem shows_incrSat (s : State) (f : Fld) (h : f.lo + f.w ≤ 32) : (s.incrSat f).shows f = min (s.get f + 1) (2 ^ f.w - 1) := by
  unfold State.incrSat
  rw [shows_put _ _ _ h, Nat.mod_eq_of_lt (by have := Nat.two_pow_pos f.w; omega)]

theorem clrLeg_refused (h : s.legAsserted n = true) : LegClearRefused n s (clrLeg n s) := by
  unfold clrLeg
  rw [if_pos h]
  have raw : (fMG_IRQ_RAW_clr_ref (s.legMg n)).addr ≠ aLEG_TRIP_STAT n := mgRaw_ne_leg n _
  refine ⟨?src, rfl, ?count, shows_raise _ _ (by decide), ?regs⟩
  case src =>
    exact (shows_put_ne (g := fLEG_TRIP_STAT_src n) _ _ raw).trans
      (shows_put_disj (f := fLEG_TRIP_STAT_clr_refused n) s _ (by simp))
  case count => exact (shows_put_ne (g := fLEG_TRIP_STAT_clr_refused n) _ _ raw).trans (shows_incrSat _ _ (by simp))
  case regs => exact onlyRegs_put _ (by simp) (onlyRegs_put _ (by simp) (OnlyRegs.refl _ s))

theorem clrLeg_clears (h : s.legAsserted n = false) : LegCleared n s (clrLeg n s) := by
  unfold clrLeg
  rw [if_neg (by simp [h])]
  exact legCleared_clearLeg n s

/-! Groups. -/

/-- No group-level source but SAGE is latched; the hold of Sage, the armed clear and the state are as they were (R249). -/
structure MgCleared (m : Nat) (s u : State) : Prop where
  routed : u.shows (fMG_TRIP_STAT_routed m) = 0
  kern : u.shows (fMG_TRIP_STAT_kern m) = 0
  link : u.shows (fMG_TRIP_STAT_link m) = 0
  hold : u.shows (fMG_TRIP_STAT_sage_hold m) = s.shows (fMG_TRIP_STAT_sage_hold m)
  armed : u.shows (fMG_TRIP_STAT_armed m) = s.shows (fMG_TRIP_STAT_armed m)
  sources : (u.mg m).latchSrc = []
  state : u.mgState m = s.mgState m

/-- The bits of the latched sources of a group but SAGE, lowered. -/
def groupLowered (m : Nat) (s : State) : State :=
  ((s.lower (fMG_TRIP_STAT_link m)).lower (fMG_TRIP_STAT_kern m)).lower (fMG_TRIP_STAT_routed m)

theorem groupLowered_shows (m : Nat) (s : State) {f : Fld} (high : 4 ≤ f.lo) : (groupLowered m s).shows f = s.shows f := by
  have above {y : State} {i : Nat} (hi : i < 3) : (y.lower ⟨aMG_TRIP_STAT m, i, 1⟩).shows f = y.shows f :=
    shows_put_disj (f := ⟨aMG_TRIP_STAT m, i, 1⟩) y 0 (.inr (by dsimp only; omega))
  exact (above (by decide)).trans ((above (by decide)).trans (above (by decide)))

theorem groupLowered_rd (m : Nat) (s : State) {a : Nat} (apart : aMG_TRIP_STAT m ≠ a) : (groupLowered m s).rd a = s.rd a :=
  (rd_wr_ne _ _ apart).trans ((rd_wr_ne _ _ apart).trans (rd_wr_ne _ _ apart))

theorem groupLowered_lowers (m : Nat) (s : State) : (groupLowered m s).shows (fMG_TRIP_STAT_routed m) = 0 ∧
    (groupLowered m s).shows (fMG_TRIP_STAT_kern m) = 0 ∧ (groupLowered m s).shows (fMG_TRIP_STAT_link m) = 0 := by
  have keeps {y : State} {i j : Nat} (ne : i ≠ j) : (y.lower ⟨aMG_TRIP_STAT m, i, 1⟩).shows ⟨aMG_TRIP_STAT m, j, 1⟩ =
      y.shows ⟨aMG_TRIP_STAT m, j, 1⟩ := shows_put_disj (f := ⟨aMG_TRIP_STAT m, i, 1⟩) y 0 (by dsimp only; omega)
  refine ⟨shows_lower _ _ (by decide), ?_, ?_⟩
  · exact (keeps (by decide)).trans (shows_lower _ _ (by decide))
  · exact (keeps (by decide)).trans ((keeps (by decide)).trans (shows_lower _ _ (by decide)))

theorem clearMg_eq (m : Nat) (s : State) :
    ∃ t, clearMg m s = refreshSum m (t.putMg m { t.mg m with latchSrc := [] }) ∧ t = groupLowered m s := ⟨_, rfl, rfl⟩

theorem mgCleared_clearMg (m : Nat) (s : State) : MgCleared m s (clearMg m s) := by
  have page := page_aMG_TRIP_STAT m
  have copies : (clearMg m s).tmr = s.tmr := tmr_of_touch (touch_clearMg (Sub.refl _) m s (Touch.rfl' _ s)) rfl
  obtain ⟨t, cleared, lowered⟩ := clearMg_eq m s
  have shown {i : Nat} (other : i + 1 ≤ 3 ∨ 4 ≤ i) : (clearMg m s).shows ⟨aMG_TRIP_STAT m, i, 1⟩ = t.shows ⟨aMG_TRIP_STAT m, i, 1⟩ := by
    rw [cleared]
    exact (refreshSum_shows m _ (f := ⟨aMG_TRIP_STAT m, i, 1⟩) page (.inr other)).trans (shows_of_rd (rd_putMg t m _ _))
  obtain ⟨routed, kern, link⟩ := lowered ▸ groupLowered_lowers m s
  have high {i : Nat} (h : 4 ≤ i) := (lowered ▸ groupLowered_shows m s (f := ⟨aMG_TRIP_STAT m, i, 1⟩) h :)
  refine ⟨(shown (by decide)).trans routed, (shown (by decide)).trans kern, (shown (by decide)).trans link, ?_, ?_, ?_, ?_⟩
  · exact (shown (by decide)).trans (high (by decide))
  · exact (shown (by decide)).trans (high (by decide))
  · rw [cleared, mg_of_touch (touch_refreshSum (Sub.refl _) _ _ (Touch.rfl' 0xC _)) rfl, mg_putMg]
  · refine get_of_rd (f := fMG_STAT_state m) ?_ copies
    have apart : aMG_TRIP_STAT m ≠ aMG_STAT m := (mgStat_ne_trip m m).symm
    rw [cleared, refreshSum_rd m _ (page_aMG_STAT m) apart.symm, rd_putMg, lowered]
    exact groupLowered_rd m s apart

/-- A clear of a group's own sources that is refused counts and is flagged (R249). -/
structure MgClearRefused (m : Nat) (s u : State) : Prop where
  mgs : u.mgs = s.mgs
  routed : u.shows (fMG_TRIP_STAT_routed m) = s.shows (fMG_TRIP_STAT_routed m)
  count : u.shows (fMG_TRIP_STAT_clr_refused m) = min (s.get (fMG_TRIP_STAT_clr_refused m) + 1) 255
  flag : u.shows (fMG_IRQ_RAW_clr_ref m) = 1
  regs : OnlyRegs [aMG_TRIP_STAT m, aMG_IRQ_RAW m] s u

theorem mgRaw_ne_trip (k m : Nat) : aMG_IRQ_RAW k ≠ aMG_TRIP_STAT m := by unfold aMG_IRQ_RAW aMG_TRIP_STAT; omega

theorem clrMg_refused (h : s.mgAsserted m = true) : MgClearRefused m s (clrMg m s) := by
  unfold clrMg
  rw [if_pos h]
  have raw : (fMG_IRQ_RAW_clr_ref m).addr ≠ aMG_TRIP_STAT m := mgRaw_ne_trip m m
  refine ⟨rfl, ?routed, ?count, shows_raise _ _ (by decide), ?regs⟩
  case routed =>
    exact (shows_put_ne (g := fMG_TRIP_STAT_routed m) _ _ raw).trans
      (shows_put_disj (f := fMG_TRIP_STAT_clr_refused m) s _ (by simp))
  case count => exact (shows_put_ne (g := fMG_TRIP_STAT_clr_refused m) _ _ raw).trans (shows_incrSat _ _ (by simp))
  case regs => exact onlyRegs_put _ (by simp) (onlyRegs_put _ (by simp) (OnlyRegs.refl _ s))

theorem clrMg_clears (h : s.mgAsserted m = false) : MgCleared m s (clrMg m s) := by
  unfold clrMg
  rw [if_neg (by simp [h])]
  exact mgCleared_clearMg m s

/-! The commands. -/

theorem blockAt_legTripClr (n : Nat) : blockAt (aLEG_TRIP_CLR n) = some .thy :=
  blockAt_thy (by unfold aLEG_TRIP_CLR; omega) (by unfold aLEG_TRIP_CLR; omega)

theorem blockAt_mgTripClr (m : Nat) : blockAt (aMG_TRIP_CLR m) = some .thy :=
  blockAt_thy (by unfold aMG_TRIP_CLR; omega) (by unfold aMG_TRIP_CLR; omega)

/-- Settles O31: a clear lowers every latched source where none is asserted, and is refused as a whole where one is. -/
theorem clearRule : Obligations.ClearRule := by
  unfold Obligations.ClearRule
  refine ⟨?leg, ?legRefused, ?group, ?groupRefused⟩
  case leg =>
    intro r n s hg quiet
    refine runs_thyme rfl (blockAt_legTripClr n.val) hg fun l w b => ?_
    have cleared := clrLeg_clears (s := ((s.setLinks l).setWardens w).setBus b) quiet
    exact ⟨cleared.src, cleared.latched, cleared.sources, cleared.group _⟩
  case legRefused =>
    intro r n s hg asserted
    refine runs_thyme rfl (blockAt_legTripClr n.val) hg fun l w b => ?_
    have refused := clrLeg_refused (s := ((s.setLinks l).setWardens w).setBus b) asserted
    exact ⟨refused.src, refused.legs, refused.count, refused.flag, refused.regs⟩
  case group =>
    intro r m s hg quiet
    refine runs_thyme rfl (blockAt_mgTripClr m.val) hg fun l w b => ?_
    have cleared := clrMg_clears (s := ((s.setLinks l).setWardens w).setBus b) quiet
    exact ⟨cleared.routed, cleared.kern, cleared.link, cleared.hold, cleared.sources, cleared.state⟩
  case groupRefused =>
    intro r m s hg asserted
    refine runs_thyme rfl (blockAt_mgTripClr m.val) hg fun l w b => ?_
    have refused := clrMg_refused (s := ((s.setLinks l).setWardens w).setBus b) asserted
    exact ⟨refused.mgs, refused.routed, refused.count, refused.flag, refused.regs⟩

end Sys2Proof.Proofs
end

section
/-! PROOFS. O30: releases of sources, the end of a blanking window, and armed clears (07_trips_and_leg_protection.md R243, R248, R250). -/
namespace Sys2Proof.Proofs
open Sys2Proof Sys2Proof.Machine Sys2Proof.Laws

variable {s t u : State} {n m : Nat}

/-! What the vote over the copies of a register says of one field (01_register_pages.md R28). -/

theorem fld_xor_congr {x y : Word} (d : Word) {lo w : Nat} (h : x.fld lo w = y.fld lo w) : (x ^^^ d).fld lo w = (y ^^^ d).fld lo w := by
  refine fld_congr fun i low high => ?_
  have bit := congrArg (·.testBit (i - lo)) h
  simp only [fld_testBit, show i - lo < w by omega, show lo + (i - lo) = i by omega, decide_true, Bool.true_and] at bit
  rw [BitVec.getLsbD_xor, BitVec.getLsbD_xor, bit]

/-- The vote over a field rests on that field of the copies alone, where every field of the register is that one or apart from it. -/
theorem voteFields_congr {a b c a' b' c' r : Word} {lo w : Nat} (ha : a.fld lo w = a'.fld lo w) (hb : b.fld lo w = b'.fld lo w)
    (hc : c.fld lo w = c'.fld lo w) : ∀ fs : List FieldSpec,
    (∀ f ∈ fs, (f.lo = lo ∧ f.hi - f.lo + 1 = w) ∨ lo + w ≤ f.lo ∨ f.lo + (f.hi - f.lo + 1) ≤ lo) → lo + w ≤ 32 →
    (voteFields a b c r fs).fld lo w = (voteFields a' b' c' r fs).fld lo w
  | [], _, _ => ha
  | f :: fs, fits, le => by
    have rest := voteFields_congr (r := r) ha hb hc fs (fun g hg => fits g (by simp [hg])) le
    unfold voteFields
    obtain ⟨rfl, rfl⟩ | apart := fits f (by simp)
    · rw [fld_ins_same _ _ le, fld_ins_same _ _ le, ha, hb, hc]
    · rw [fld_ins_disj _ _ apart, fld_ins_disj _ _ apart, rest]

/-- The fields of the register at an address are the given one or apart from it. -/
def Fits (f : Fld) : Prop := ∀ x ∈ ((specAt f.addr).map (·.fields)).getD [],
  (x.lo = f.lo ∧ x.hi - x.lo + 1 = f.w) ∨ f.lo + f.w ≤ x.lo ∨ x.lo + (x.hi - x.lo + 1) ≤ f.lo

/-- A field that a write of its register leaves as it was has the value it had, whatever the copies are. -/
theorem get_put_disj (s : State) {f g : Fld} (v : Nat) (fits : Fits g) (le : g.lo + g.w ≤ 32)
    (apart : g.lo + g.w ≤ f.lo ∨ f.lo + f.w ≤ g.lo) : (s.put f v).get g = s.get g := by
  have shown : ((s.put f v).rd g.addr).fld g.lo g.w = (s.rd g.addr).fld g.lo g.w := shows_put_disj s v apart
  unfold State.get State.use
  rw [show (s.put f v).tmr = s.tmr from rfl]
  cases Tab.find s.tmr g.addr with
  | none => exact shown
  | some d => exact voteFields_congr shown (fld_xor_congr _ shown) (fld_xor_congr _ shown) _ fits le

/-- The fields of LEG[n]_TRIP_EVT do not overlap the count of notifications (07_trips_and_leg_protection.md R248). -/
theorem fits_notify_cnt : ∀ n : Fin 128, Fits (fLEG_TRIP_EVT_notify_cnt n.val) := by
  unfold Fits
  decide +kernel

/-! What holds while a clear is armed or disarmed. -/

/-- Whether a latched source of a leg is asserted rests on its sources and on the shown bits alone. -/
theorem legAsserted_congr (legs : t.leg n = s.leg n) (level : ∀ x, t.routedOn x = s.routedOn x)
    (latched : ∀ i < 10, t.legLatched n i = s.legLatched n i) : t.legAsserted n = s.legAsserted n := by
  have own : ∀ i ∈ [1, 2, 3, 4, 5], t.legLatched n i = s.legLatched n i := fun i hi => latched i (by simp at hi; omega)
  simp only [List.forall_mem_cons] at own
  obtain ⟨h1, h2, h3, h4, h5, -⟩ := own
  unfold State.legAsserted
  simp only [legs, funext level, List.any_cons, h1, h2, h3, h4, h5, List.any_nil]

theorem routedOn_put {f : Fld} (s : State) (v : Nat) (page : pageOf f.addr = 3) (x : Nat) : (s.put f v).routedOn x = s.routedOn x := by
  have apart : f.addr ≠ (bitFld (aTHY_TRIP_LVL 0) x).addr := fun e => by
    have level := page_bit_aTHY_TRIP_LVL 0 x
    rw [← e, page] at level
    cases level
  unfold State.routedOn State.bitAt State.put
  rw [rd_wr_ne _ _ apart]

theorem legLatched_put_armed (s : State) (v i : Nat) (hi : i < 10) :
    (s.put (fLEG_TRIP_STAT_armed n) v).legLatched n i = s.legLatched n i := by
  unfold State.legLatched
  rw [bitAt_eq_shows, bitAt_eq_shows, bitFld_leg (by omega),
    shows_put_disj (f := fLEG_TRIP_STAT_armed n) (g := ⟨aLEG_TRIP_STAT n, i, 1⟩) s v (.inl (by dsimp only; omega))]

theorem legAsserted_put_armed (s : State) (n v : Nat) : (s.put (fLEG_TRIP_STAT_armed n) v).legAsserted n = s.legAsserted n :=
  legAsserted_congr rfl (routedOn_put s v (page_aLEG_TRIP_STAT n)) fun i hi => legLatched_put_armed s v i hi

/-! Armed clears of legs. -/

/-- The armed clear of a leg took effect. -/
structure LegReleased (n : Nat) (u : State) : Prop where
  armed : u.shows (fLEG_TRIP_STAT_armed n) = 0
  src : u.shows (fLEG_TRIP_STAT_src n) = 0
  latched : u.shows (fLEG_TRIP_STAT_latched n) = 0

theorem armedLeg_clears (armed : s.on (fLEG_TRIP_STAT_armed n) = true) (quiet : s.legAsserted n = false) : LegReleased n (armedLeg n s) := by
  have cleared := legCleared_clearLeg n (s.lower (fLEG_TRIP_STAT_armed n))
  unfold armedLeg
  rw [armed, quiet, Bool.not_false, Bool.and_self, if_pos rfl]
  exact ⟨cleared.armed.trans (shows_lower s _ (by decide)), cleared.src, cleared.latched⟩

theorem armedStopped_of_none (none : ∀ j ∈ allLegs, s.on (fLEG_TRIP_STAT_armed j) = false) : armedStopped s = s := by
  have idle : allLegs.filter (fun n => s.on (fLEG_TRIP_STAT_armed n) && !s.tbgRun (s.legTbg n)) = [] :=
    List.filter_eq_nil_iff.mpr fun j hj => by simp [none j hj]
  unfold armedStopped
  rw [idle]
  rfl

theorem tbgRun_raise_armed (s : State) (n : Nat) :
    (s.raise (fLEG_TRIP_STAT_armed n)).tbgRun ((s.raise (fLEG_TRIP_STAT_armed n)).legTbg n) = s.tbgRun (s.legTbg n) := by
  have cfg : aLEG_TRIP_STAT n ≠ aLEG_CFG n := by unfold aLEG_TRIP_STAT aLEG_CFG; omega
  have stat (g : Nat) : aLEG_TRIP_STAT n ≠ aTBG_STAT g := by unfold aLEG_TRIP_STAT aTBG_STAT; omega
  unfold State.tbgRun State.legTbg State.raise
  rw [get_put_ne (f := fLEG_TRIP_STAT_armed n) (g := fLEG_CFG_tbg n) s 1 cfg,
    on_put_ne (f := fLEG_TRIP_STAT_armed n) (g := fTBG_STAT_run _) s 1 (stat _),
    on_put_ne (f := fLEG_TRIP_STAT_armed n) (g := fTBG_STAT_start_pend _) s 1 (stat _)]

theorem armLeg_eq (n : Nat) (s : State) : armLeg n s =
    if (s.raise (fLEG_TRIP_STAT_armed n)).tbgRun ((s.raise (fLEG_TRIP_STAT_armed n)).legTbg n) = true then s.raise (fLEG_TRIP_STAT_armed n)
    else armedLeg n (s.raise (fLEG_TRIP_STAT_armed n)) := rfl

theorem armLeg_running (run : s.tbgRun (s.legTbg n) = true) : armLeg n s = s.raise (fLEG_TRIP_STAT_armed n) := by
  rw [armLeg_eq]
  exact if_pos ((tbgRun_raise_armed s n).trans run)

theorem armLeg_stopped (stopped : s.tbgRun (s.legTbg n) = false) (quiet : s.legAsserted n = false) (copies : s.tmr = []) :
    LegReleased n (armLeg n s) := by
  have run := (tbgRun_raise_armed s n).trans stopped
  rw [armLeg_eq, run, if_neg Bool.false_ne_true]
  exact armedLeg_clears (on_of_shows copies (shows_raise s _ (by decide))) ((legAsserted_put_armed s n 1).trans quiet)

/-! Armed clears of groups. -/

/-- The armed clear of a group took effect. -/
structure MgReleased (m : Nat) (s u : State) : Prop where
  armed : u.shows (fMG_TRIP_STAT_armed m) = 0
  routed : u.shows (fMG_TRIP_STAT_routed m) = 0
  kern : u.shows (fMG_TRIP_STAT_kern m) = 0
  now : u.now = s.now

theorem armedMg_clears (armed : s.on (fMG_TRIP_STAT_armed m) = true) (quiet : s.mgAsserted m = false) : MgReleased m s (armedMg m s) := by
  have cleared := mgCleared_clearMg m (s.lower (fMG_TRIP_STAT_armed m))
  obtain ⟨-, -, -, same⟩ := touch_clearMg (Sub.refl _) m _ (Touch.rfl' _ (s.lower (fMG_TRIP_STAT_armed m)))
  unfold armedMg
  rw [armed, quiet, Bool.not_false, Bool.and_self, if_pos rfl]
  exact ⟨cleared.armed.trans (shows_lower s _ (by decide)), cleared.routed, cleared.kern, same .now rfl⟩

/-! A source released, and a blanking window ended. -/

theorem routedOn_lowered (s : State) (i : Nat) : (s.putBit (aTHY_TRIP_LVL 0) i false).routedOn i = false := by
  unfold State.routedOn
  rw [bitAt_eq_shows]
  have low : (s.putBit (aTHY_TRIP_LVL 0) i false).shows (bitFld (aTHY_TRIP_LVL 0) i) = 0 :=
    shows_put_bit s _ (by decide) (Nat.mod_lt i (by decide)) rfl
  rw [low]
  rfl

theorem on_armed_putBit (s : State) (i : Nat) (b : Bool) (j : Nat) :
    (s.putBit (aTHY_TRIP_LVL 0) i b).on (fLEG_TRIP_STAT_armed j) = s.on (fLEG_TRIP_STAT_armed j) := by
  refine on_put_ne s _ fun e => ?_
  have level := page_bit_aTHY_TRIP_LVL 0 i
  rw [e, page_aLEG_TRIP_STAT] at level
  cases level

theorem blankUntil_of_pend_nil (pend : (s.leg n).pend = []) : s.blankUntil n = none := by
  unfold State.blankUntil
  rw [pend]
  rfl

/-- A routed source that waits for the end of a blanking window of a leg, asserted still, and the only source asserted. -/
structure WaitsAlone (s : State) (n i : Nat) : Prop where
  lt : i < 96
  only : ∀ j ∈ List.range 96, s.routedOn j = true → j = i
  level : s.routedOn i = true
  en : s.on (fTHY_TRIP_SRC_en i) = true
  scope : s.on (fTHY_TRIP_SRC_scope i) = false
  target : s.get (fTHY_TRIP_SRC_tgt i) = n
  blank : s.on (fTHY_TRIP_SRC_blank i) = true

theorem reAct_of_alone {i : Nat} (alone : WaitsAlone s n i) : reAct n true s = actRouted i s := by
  obtain ⟨lt, only, level, en, scope, target, blank⟩ := alone
  unfold reAct
  have mine : (List.range 96).filter (fun x => s.routedOn x && s.on (fTHY_TRIP_SRC_en x) &&
      (if s.on (fTHY_TRIP_SRC_scope x) then
        !true && s.get (fTHY_TRIP_SRC_tgt x) % 32 == s.legMg n && s.get (fTHY_TRIP_SRC_act x) == 1
       else s.get (fTHY_TRIP_SRC_tgt x) == n && (!true || s.on (fTHY_TRIP_SRC_blank x)))) = [i] := by
    rw [List.filter_congr (q := fun x => x == i) fun x hx => ?_]
    · rw [List.filter_beq, List.count_eq_one_of_mem List.nodup_range (List.mem_range.mpr lt)]
      rfl
    · by_cases e : x = i
      · subst e
        simp [level, en, scope, target, blank]
      · have off : s.routedOn x = false := by
          by_contra on
          exact e (only x hx (by simpa using on))
        simp [off, e]
  have single : s.on (fTHY_TRIP_SRC_scope i) ≠ true := by simp [scope]
  simp only [mine]
  exact if_neg single

/-- A notification of a routed source on a leg whose window is closed. -/
theorem actRouted_notify {i : Nat} (alone : WaitsAlone s n i) (act : s.get (fTHY_TRIP_SRC_act i) = 0) (legEn : s.legEn n = true)
    (closed : s.blankUntil n = none) :
    actRouted i s = notifyLeg n ((s.incrSat (fTHY_TRIP_CNT_cnt i)).put (fLEG_TRIP_EVT_last n) (routedCode i)) := by
  obtain ⟨-, -, -, en, scope, target, -⟩ := alone
  have apart : aTHY_TRIP_CNT i ≠ aLEG_CFG n := by unfold aTHY_TRIP_CNT aLEG_CFG; omega
  have stays : (s.incrSat (fTHY_TRIP_CNT_cnt i)).legEn n = true := (on_put_ne (g := fLEG_CFG_en n) s _ apart).trans legEn
  unfold actRouted actLeg
  simp only [en, scope, target, legEn, closed, act, stays, Bool.not_true, Bool.not_false, Bool.false_eq_true, if_false, if_true,
    Option.isSome_none, Bool.and_false]

theorem notify_counts (i : Nat) (n : Fin 128) (s : State) (code : Nat) :
    (notifyLeg n.val ((s.incrSat (fTHY_TRIP_CNT_cnt i)).put (fLEG_TRIP_EVT_last n.val) code)).shows (fLEG_TRIP_EVT_notify_cnt n.val) =
      min (s.get (fLEG_TRIP_EVT_notify_cnt n.val) + 1) 255 ∧
    (notifyLeg n.val ((s.incrSat (fTHY_TRIP_CNT_cnt i)).put (fLEG_TRIP_EVT_last n.val) code)).shows (fTHY_TRIP_CNT_cnt i) =
      min (s.get (fTHY_TRIP_CNT_cnt i) + 1) (2 ^ 32 - 1) := by
  have raw (m : Nat) : aMG_IRQ_RAW m ≠ aLEG_TRIP_EVT n.val := by unfold aMG_IRQ_RAW aLEG_TRIP_EVT; omega
  have cnt : aTHY_TRIP_CNT i ≠ aLEG_TRIP_EVT n.val := by unfold aTHY_TRIP_CNT aLEG_TRIP_EVT; omega
  have cntRaw (m : Nat) : aMG_IRQ_RAW m ≠ aTHY_TRIP_CNT i := by unfold aMG_IRQ_RAW aTHY_TRIP_CNT; omega
  unfold notifyLeg
  constructor
  · refine (shows_put_ne (g := fLEG_TRIP_EVT_notify_cnt n.val) _ _ (raw _)).trans ((shows_incrSat _ _ (by simp)).trans ?_)
    rw [get_put_disj _ _ (fits_notify_cnt n) (by simp) (.inr (by simp))]
    unfold State.incrSat
    rw [get_put_ne (g := fLEG_TRIP_EVT_notify_cnt n.val) s _ cnt]
    rfl
  · exact (shows_put_ne (g := fTHY_TRIP_CNT_cnt i) _ _ (cntRaw _)).trans ((shows_put_ne (g := fTHY_TRIP_CNT_cnt i) _ _ cnt.symm).trans
      ((shows_put_ne (g := fTHY_TRIP_CNT_cnt i) _ _ cnt.symm).trans (shows_incrSat32 s _)))

/-- What the end of a blanking window leaves of a source that waited, takes the action NOTIFY and is asserted alone. -/
theorem blankingEnd_notifies (n : Fin 128) {i : Nat} (alone : WaitsAlone s n.val i) (act : s.get (fTHY_TRIP_SRC_act i) = 0)
    (legEn : s.legEn n.val = true) (pend : (s.leg n.val).pend = []) (idle : (s.leg n.val).blankWait = false) :
    ((reAct n.val true s).leg n.val).blankWait = false ∧
    (reAct n.val true s).shows (fLEG_TRIP_EVT_notify_cnt n.val) = min (s.get (fLEG_TRIP_EVT_notify_cnt n.val) + 1) 255 ∧
    (reAct n.val true s).shows (fTHY_TRIP_CNT_cnt i) = min (s.get (fTHY_TRIP_CNT_cnt i) + 1) (2 ^ 32 - 1) := by
  rw [reAct_of_alone alone, actRouted_notify alone act legEn (blankUntil_of_pend_nil pend)]
  exact ⟨idle, notify_counts i n s _⟩

theorem runs_blankingEnd_notify (n : Fin 128) (i : Fin 96) (wait : (s.leg n.val).blankWait = true) (pend : (s.leg n.val).pend = [])
    (legEn : s.legEn n.val = true) (alone : WaitsAlone s n.val i.val) (act : s.get (fTHY_TRIP_SRC_act i.val) = 0) :
    Runs (.blankingEnd n) s (fun u => (u.leg n.val).blankWait = false ∧
      u.shows (fLEG_TRIP_EVT_notify_cnt n.val) = min (s.get (fLEG_TRIP_EVT_notify_cnt n.val) + 1) 255 ∧
      u.shows (fTHY_TRIP_CNT_cnt i.val) = min (s.get (fTHY_TRIP_CNT_cnt i.val) + 1) (2 ^ 32 - 1)) := by
  obtain ⟨lt, only, level, en, scope, target, blank⟩ := alone
  have closed := leg_putLeg s n.val { s.leg n.val with blankWait := false }
  refine ⟨reAct n.val true (s.putLeg n.val { s.leg n.val with blankWait := false }), ?_, ?_⟩
  · show execBlankingEnd n s = _
    unfold execBlankingEnd
    simp only [blankUntil_of_pend_nil pend, wait, if_true]
    rfl
  · exact blankingEnd_notifies (s := s.putLeg n.val { s.leg n.val with blankWait := false }) n ⟨lt, only, level, en, scope, target, blank⟩
      act legEn ((congrArg Leg.pend closed).trans pend) (congrArg Leg.blankWait closed)

/-- Settles O30: the level of a released source is low, the end of a blanking window lets the source that waits act, and an armed clear
takes effect at its moment, or at once on a leg whose group is stopped. -/
theorem tripReleases : Obligations.TripReleases := by
  unfold Obligations.TripReleases
  refine ⟨?routed, ?own, ?idle, ?waits, ?arm, ?armStopped, ?armGroup, ?leg, ?unarmed, ?group⟩
  case routed =>
    intro i s none
    refine ⟨s.putBit (aTHY_TRIP_LVL 0) i.val false, ?_, routedOn_lowered s i.val, rfl, rfl, ?_⟩
    · show done (armedStopped (s.putBit (aTHY_TRIP_LVL 0) i.val false)) = _
      rw [armedStopped_of_none fun j hj => (on_armed_putBit s i.val false j).trans (none j hj)]
      rfl
    · exact onlyRegs_put _ (by simp) (OnlyRegs.refl _ s)
  case own =>
    intro n s none
    refine ⟨s.putLeg n.val { s.leg n.val with satSrc := withBit (s.leg n.val).satSrc 1 false }, ?_, leg_putLeg _ _ _, OnlyRegs.refl _ s⟩
    show done (armedStopped (s.putLeg n.val { s.leg n.val with satSrc := withBit (s.leg n.val).satSrc 1 false })) = _
    rw [armedStopped_of_none (s := s.putLeg n.val _) none]
    rfl
  case idle =>
    intro n s closed idle
    refine ⟨s, ?_, rfl⟩
    show execBlankingEnd n s = _
    unfold execBlankingEnd
    simp only [closed, idle, Bool.false_eq_true, if_false]
    rfl
  case waits =>
    exact fun n i s wait pend legEn only level en scope target blank act =>
      runs_blankingEnd_notify n i wait pend legEn ⟨i.isLt, only, level, en, scope, target, blank⟩ act
  case arm =>
    intro r n s hg run
    refine runs_thyme rfl (blockAt_legTripClr n.val) hg fun l w b => ?_
    rw [armLeg_running (s := ((s.setLinks l).setWardens w).setBus b) run]
    exact ⟨shows_raise _ _ (by decide), rfl, onlyRegs_put _ (by simp) (OnlyRegs.refl _ _)⟩
  case armStopped =>
    intro r n s hg stopped quiet copies
    refine runs_thyme rfl (blockAt_legTripClr n.val) hg fun l w b => ?_
    have released := armLeg_stopped (s := ((s.setLinks l).setWardens w).setBus b) stopped quiet copies
    exact ⟨released.armed, released.src, released.latched⟩
  case armGroup =>
    intro r m s hg
    refine runs_thyme rfl (blockAt_mgTripClr m.val) hg fun l w b => ?_
    exact ⟨shows_raise _ _ (by decide), rfl, onlyRegs_put _ (by simp) (OnlyRegs.refl _ _)⟩
  case leg =>
    intro n s armed quiet _
    refine ⟨armedLeg n.val (if s.on (fTBG_STAT_run (s.legTbg n.val)) && s.now / 32 ≠ (s.tbg (s.legTbg n.val)).b / 32 then
      s.reach (s.tbg (s.legTbg n.val)).nextB else s), ?_, ?_⟩
    · show execDeferredClear (.leg n) s = _
      unfold execDeferredClear
      simp only [armed, Bool.not_true, Bool.false_eq_true, if_false]
      rfl
    · split
      · have there := armedLeg_clears (s := s.setNow (max s.now (s.tbg (s.legTbg n.val)).nextB)) armed quiet
        rw [reach_eq]
        exact ⟨there.armed, there.src, there.latched⟩
      · have here := armedLeg_clears armed quiet
        exact ⟨here.armed, here.src, here.latched⟩
  case unarmed =>
    intro n s unarmed
    refine ⟨s, ?_, rfl⟩
    show execDeferredClear (.leg n) s = _
    unfold execDeferredClear
    simp only [unarmed, Bool.not_false, if_true]
    rfl
  case group =>
    intro m s armed quiet _
    refine ⟨armedMg m.val (s.reach ((s.now + frame10 - 1) / frame10 * frame10)), ?_, ?_⟩
    · show execDeferredClear (.group m) s = _
      unfold execDeferredClear
      simp only [armed, Bool.not_true, Bool.false_eq_true, if_false]
      rfl
    · have released := armedMg_clears (s := s.setNow (max s.now ((s.now + frame10 - 1) / frame10 * frame10))) armed quiet
      rw [reach_eq]
      exact ⟨released.armed, released.routed, released.kern, released.now⟩

end Sys2Proof.Proofs
end

section
/-! PROOFS. O32: entries into a safe state (07_trips_and_leg_protection.md R251, R252, R253). -/
namespace Sys2Proof.Proofs
open Sys2Proof Sys2Proof.Machine Sys2Proof.Laws

/-- The registers of the machine groups, the configuration of the legs, the time and the copies of registers stand. -/
structure SafeStands (s t : State) : Prop where
  now : t.now = s.now
  tmr : t.tmr = s.tmr
  hpm : t.hpm = s.hpm
  regs : ∀ a, pageOf a = 3 → 0x40032000 ≤ a → t.rd a = s.rd a
  cfg : ∀ n, t.rd (aLEG_CFG n) = s.rd (aLEG_CFG n)

variable {x s t u : State} {m n k : Nat}

theorem SafeStands.refl (s : State) : SafeStands s s := ⟨rfl, rfl, rfl, fun _ _ _ => rfl, fun _ => rfl⟩

theorem SafeStands.trans (h : SafeStands s t) (k : SafeStands t u) : SafeStands s u :=
  ⟨k.now.trans h.now, k.tmr.trans h.tmr, k.hpm.trans h.hpm, fun a page high => (k.regs a page high).trans (h.regs a page high),
    fun n => (k.cfg n).trans (h.cfg n)⟩

/-- What spares the page of legs and groups, the time, the copies and the power states. -/
theorem SafeStands.touch {p : Nat} (h : SafeStands x s) (k : Touch p s s → Touch p s u)
    (hp : has p 3 = false ∧ has p 19 = false ∧ has p 23 = false ∧ has p 55 = false) : SafeStands x u := by
  obtain ⟨-, -, -, same⟩ := k (Touch.rfl' p s)
  obtain ⟨page, now, tmr, hpm⟩ := hp
  exact h.trans ⟨same .now now, same .tmr tmr, same .hpm hpm, fun a e _ => same (.regs 3) page a e,
    fun n => same (.regs 3) page _ (page_aLEG_CFG n)⟩

theorem SafeStands.put {f : Fld} (h : SafeStands x s) (low : f.addr < 0x40032000) (apart : ∀ n, f.addr ≠ aLEG_CFG n) (v : Nat) :
    SafeStands x (s.put f v) :=
  h.trans ⟨rfl, rfl, rfl, fun a _ high => rd_wr_ne s _ (by omega), fun n => rd_wr_ne s _ (apart n)⟩

theorem SafeStands.putStat {f : Fld} (h : SafeStands x s) (e : f.addr = aLEG_STAT n) (v : Nat) : SafeStands x (s.put f v) :=
  h.put (by rw [e]; unfold aLEG_STAT; omega) (fun k => by rw [e]; unfold aLEG_STAT aLEG_CFG; omega) v

theorem SafeStands.putTripStat {f : Fld} (h : SafeStands x s) (e : f.addr = aLEG_TRIP_STAT n) (v : Nat) : SafeStands x (s.put f v) :=
  h.put (by rw [e]; unfold aLEG_TRIP_STAT; omega) (fun k => by rw [e]; unfold aLEG_TRIP_STAT aLEG_CFG; omega) v

theorem SafeStands.putLeg (h : SafeStands x s) (n : Nat) (l : Leg) : SafeStands x (s.putLeg n l) :=
  h.touch (touch_putLeg (Sub.refl _) s n l) (by decide)

theorem SafeStands.putMg (h : SafeStands x s) (m : Nat) (g : Mg) : SafeStands x (s.putMg m g) :=
  h.touch (touch_putMg (Sub.refl _) s m g) (by decide)

theorem SafeStands.each {α : Type} {as : List α} {f : α → State → State} (h : SafeStands x s)
    (k : ∀ a y, SafeStands x y → SafeStands x (f a y)) : SafeStands x (s.each as f) := each_keeps (fun a _ y hy => k a y hy) h

theorem SafeStands.skipLeg (h : SafeStands x s) (n : Nat) : SafeStands x (skipLeg n s) :=
  h.touch (touch_skipLeg (Sub.refl _) n s) (by decide)

theorem SafeStands.retractLeg (h : SafeStands x s) (n : Nat) (lim : Option Nat) : SafeStands x (retractLeg n lim s) :=
  h.touch (touch_retractLeg (Sub.refl _) n lim s) (by decide)

theorem SafeStands.forceLegs (h : SafeStands x s) (ls : List Nat) (v : Nat) (indef : Bool) (dly : Nat) (fin : Nat → Nat) :
    SafeStands x (forceLegs ls v indef dly fin s) := h.touch (touch_forceLegs (Sub.refl _) ls v indef dly fin s) (by decide)

theorem SafeStands.holdLegs (h : SafeStands x s) (m st : Nat) (ls : List Nat) : SafeStands x (holdLegs m st ls s) :=
  h.each fun n _ hy => (((((hy.retractLeg n none).skipLeg n).putLeg n _).putStat (f := fLEG_STAT_hs n) rfl _).putStat
    (f := fLEG_STAT_ls n) rfl _).putTripStat (f := fLEG_TRIP_STAT_cbc_active n) rfl _

/-! What stands with the registers of the groups. -/

theorem SafeStands.shows {f : Fld} (h : SafeStands s t) (page : pageOf f.addr = 3) (high : 0x40032000 ≤ f.addr) : t.shows f = s.shows f :=
  shows_of_rd (h.regs _ page high)

theorem SafeStands.get {f : Fld} (h : SafeStands s t) (page : pageOf f.addr = 3) (high : 0x40032000 ≤ f.addr) : t.get f = s.get f :=
  get_of_rd (h.regs _ page high) h.tmr

theorem SafeStands.stamp (h : SafeStands s t) : t.stamp = s.stamp := by
  unfold State.stamp State.busTime
  rw [h.hpm, h.now]

theorem SafeStands.members (h : SafeStands s t) : t.members = s.members := members_congr h.cfg h.tmr

/-! The hold of legs. -/

/-- What leaves every leg's hold as it was. -/
def HoldStands (s t : State) : Prop := ∀ n, (t.leg n).held = (s.leg n).held

theorem HoldStands.touch {p : Nat} (h : HoldStands x s) (k : Touch p s s → Touch p s u) (legs : has p 36 = false) : HoldStands x u :=
  fun n => by rw [leg_of_touch (k (Touch.rfl' p s)) legs, h n]

theorem leg_putLeg_of_ne (s : State) (l : Leg) (h : k ≠ n) : (s.putLeg k l).leg n = s.leg n := get_set_ne _ _ _ h

/-- Edges that are retracted change what a leg has pending and nothing else. -/
theorem retractLeg_leg (n : Nat) (lim : Option Nat) (s : State) (k : Nat) : ∃ p, (retractLeg n lim s).leg k = { s.leg k with pend := p } := by
  unfold Machine.retractLeg
  rw [leg_of_touch (Touch.each_ (Touch.rfl' 0x8000000010 _) fun e y hy => touch_hubRetract (Sub.refl _) n e y hy) rfl]
  by_cases e : n = k
  · subst e
    exact ⟨_, leg_putLeg _ _ _⟩
  · exact ⟨(s.leg k).pend, leg_putLeg_of_ne _ _ e⟩

theorem holdStands_retractLeg (n : Nat) (lim : Option Nat) (s : State) : HoldStands s (retractLeg n lim s) := by
  intro k
  obtain ⟨p, e⟩ := retractLeg_leg n lim s k
  rw [e]

theorem held_skipRetract (n k : Nat) (s : State) : ((skipLeg n (retractLeg n none s)).leg k).held = (s.leg k).held := by
  rw [leg_of_touch (touch_skipLeg (Sub.refl _) n _ (Touch.rfl' 0x800000000 _)) rfl]
  exact holdStands_retractLeg n none s k

theorem leg_put (s : State) (f : Fld) (v n : Nat) : (s.put f v).leg n = s.leg n := rfl

/-- A leg that takes the state is held in it, and no other leg's hold changes. -/
theorem held_putLeg {l : Leg} {st : Nat} (h : l.held = st) (s : State) (a k : Nat) :
    ((s.putLeg a l).leg k).held = if a = k then st else (s.leg k).held := by
  split
  · next e => rw [← e, leg_putLeg, h]
  · next e => rw [leg_putLeg_of_ne _ _ e]

theorem held_holdLegs (m st : Nat) {ls : List Nat} (s : State) (hk : k ∈ ls) : ((holdLegs m st ls s).leg k).held = st := by
  unfold holdLegs
  refine each_sets (I := fun _ => True) (P := fun t => (t.leg k).held = st) hk (fun _ _ _ _ => trivial) ?sets ?keeps trivial
  case sets =>
    intro t _
    dsimp only [State.lower]
    rw [leg_put, leg_put, leg_put, held_putLeg (st := st) rfl, if_pos rfl]
  case keeps =>
    intro a _ t _ ht
    dsimp only [State.lower]
    rw [leg_put, leg_put, leg_put, held_putLeg (st := st) rfl]
    split
    · rfl
    · exact (held_skipRetract a k t).trans ht

/-! The marks of an entry (R251 step 3). -/

/-- The registers of one group lie apart. -/
theorem mg_ne {a b : Nat} (m : Nat) (h : a ≠ b) : a + m % 32 * 0x40 ≠ b + m % 32 * 0x40 := fun e => h (Nat.add_right_cancel e)

theorem mg_high {a : Nat} (m : Nat) (h : 0x40032000 ≤ a) : 0x40032000 ≤ a + m % 32 * 0x40 := Nat.le_add_right_of_le h

/-- What an entry into a state shows: the selection, the count, the time, the flag, and the event Sage hears. -/
structure Marked (m st fb req : Nat) (s u : State) : Prop where
  state : u.shows (fMG_STAT_state m) = st
  sel : u.shows (fMG_SAFE_SEL_sel m) = st
  fb : u.shows (fMG_SAFE_SEL_fb m) = fb
  req : u.shows (fMG_SAFE_SEL_req m) = req
  count : u.shows (fMG_SAFE_CNT_in_cnt m) = min (s.get (fMG_SAFE_CNT_in_cnt m) + 1) 65535
  fallbacks : u.shows (fMG_SAFE_CNT_fb_cnt m) = s.shows (fMG_SAFE_CNT_fb_cnt m)
  time : u.rd (aMG_SAFE_TIME m) = BitVec.ofNat 32 s.stamp
  flag : u.shows (fMG_IRQ_RAW_safe_in m) = 1
  refused : u.shows (fMG_TRIP_STAT_cmd_ref m) = s.shows (fMG_TRIP_STAT_cmd_ref m)
  told : u.sage.inbox = s.sage.inbox ++ [⟨28, nOther m, false⟩]
  copies : u.tmr = s.tmr

/-- The registers of an entry, written. -/
def entryRegs (m st fb req code : Nat) (s : State) : State :=
  let s := s.put (fMG_STAT_state m) st
  let s := ((s.put (fMG_SAFE_SEL_fb m) fb).put (fMG_SAFE_SEL_sel m) st).put (fMG_SAFE_SEL_req m) req
  let s := (s.wr (aMG_SAFE_TIME m) (BitVec.ofNat 32 s.stamp)).incrSat (fMG_SAFE_CNT_in_cnt m)
  (s.raise (fMG_IRQ_RAW_safe_in m)).put (fMG_TRIP_STAT_last m) code

theorem entryMarks_eq (m st fb req code evt : Nat) (s : State) : ∃ pay,
    entryMarks m st fb req code evt s = ((entryRegs m st fb req code s).record 0x20 .thy pay).sageEvt 28 (nOther m) := ⟨_, rfl⟩

theorem shows_wr_ne (s : State) {a : Nat} (v : Word) {f : Fld} (h : a ≠ f.addr) : (s.wr a v).shows f = s.shows f :=
  shows_of_rd (rd_wr_ne s v h)

/-- The last marks lie in registers of their own. -/
theorem entryLast_shows (m code : Nat) (s : State) {f : Fld} (trip : aMG_TRIP_STAT m ≠ f.addr) (raw : aMG_IRQ_RAW m ≠ f.addr)
    (cnt : aMG_SAFE_CNT m ≠ f.addr) (time : aMG_SAFE_TIME m ≠ f.addr) (v : Word) :
    ((((s.wr (aMG_SAFE_TIME m) v).incrSat (fMG_SAFE_CNT_in_cnt m)).raise (fMG_IRQ_RAW_safe_in m)).put (fMG_TRIP_STAT_last m) code).shows f =
      s.shows f :=
  (shows_put_ne _ _ trip).trans ((shows_put_ne _ _ raw).trans ((shows_put_ne _ _ cnt).trans (shows_wr_ne _ _ time)))

theorem entryRegs_selection (m fb req code : Nat) {st : Nat} (s : State) (hst : st < 8) (hfb : fb < 8) (hreq : req < 8) :
    (entryRegs m st fb req code s).shows (fMG_STAT_state m) = st ∧ (entryRegs m st fb req code s).shows (fMG_SAFE_SEL_sel m) = st ∧
    (entryRegs m st fb req code s).shows (fMG_SAFE_SEL_fb m) = fb ∧ (entryRegs m st fb req code s).shows (fMG_SAFE_SEL_req m) = req := by
  have sel {y : State} {f : Fld} (v : Nat) (e : f.addr = aMG_SAFE_SEL m) :
      (y.put f v).shows (fMG_STAT_state m) = y.shows (fMG_STAT_state m) := shows_put_ne y v (e ▸ mg_ne m (by decide))
  have last {y : State} {f : Fld} (e : f.addr = aMG_SAFE_SEL m) (v : Word) := entryLast_shows m code y (f := f)
    (e ▸ mg_ne m (by decide)) (e ▸ mg_ne m (by decide)) (e ▸ mg_ne m (by decide)) (e ▸ mg_ne m (by decide)) v
  have shown {y : State} {f : Fld} {v : Nat} (le : f.lo + f.w ≤ 32) (lt : v < 2 ^ f.w) : (y.put f v).shows f = v :=
    (shows_put y f v le).trans (Nat.mod_eq_of_lt lt)
  unfold entryRegs
  refine ⟨?_, ?_, ?_, ?_⟩
  · refine (entryLast_shows m code _ (mg_ne m (by decide)) (mg_ne m (by decide)) (mg_ne m (by decide)) (mg_ne m (by decide)) _).trans ?_
    exact (sel req rfl).trans ((sel st rfl).trans ((sel fb rfl).trans (shown (by simp) (by simpa using hst))))
  · refine (last rfl _).trans ((shows_put_disj (f := fMG_SAFE_SEL_req m) _ _ (by simp)).trans ?_)
    exact shown (by simp) (by simpa using hst)
  · refine (last rfl _).trans ((shows_put_disj (f := fMG_SAFE_SEL_req m) _ _ (by simp)).trans ?_)
    exact (shows_put_disj (f := fMG_SAFE_SEL_sel m) _ _ (by simp)).trans (shown (by simp) (by simpa using hfb))
  · exact (last rfl _).trans (shown (by simp) (by simpa using hreq))

/-- The state and the selection lie apart from the registers of the count, the flag and the sources. -/
theorem entryFirst_rd (m st fb req : Nat) (s : State) {a : Nat} (stat : aMG_STAT m ≠ a) (sel : aMG_SAFE_SEL m ≠ a) :
    ((((s.put (fMG_STAT_state m) st).put (fMG_SAFE_SEL_fb m) fb).put (fMG_SAFE_SEL_sel m) st).put (fMG_SAFE_SEL_req m) req).rd a = s.rd a :=
  (rd_wr_ne _ _ sel).trans ((rd_wr_ne _ _ sel).trans ((rd_wr_ne _ _ sel).trans (rd_wr_ne _ _ stat)))

theorem entryFirst_cnt (m st fb req : Nat) (s : State) {w : Word} :
    (((((s.put (fMG_STAT_state m) st).put (fMG_SAFE_SEL_fb m) fb).put (fMG_SAFE_SEL_sel m) st).put (fMG_SAFE_SEL_req m) req).wr
      (aMG_SAFE_TIME m) w).rd (aMG_SAFE_CNT m) = s.rd (aMG_SAFE_CNT m) :=
  (rd_wr_ne _ _ (mg_ne m (by decide))).trans (entryFirst_rd m st fb req s (mg_ne m (by decide)) (mg_ne m (by decide)))

theorem entryRegs_counts (m st fb req code : Nat) (s : State) :
    (entryRegs m st fb req code s).shows (fMG_SAFE_CNT_in_cnt m) = min (s.get (fMG_SAFE_CNT_in_cnt m) + 1) 65535 ∧
    (entryRegs m st fb req code s).shows (fMG_SAFE_CNT_fb_cnt m) = s.shows (fMG_SAFE_CNT_fb_cnt m) := by
  have later {y : State} {f : Fld} (e : f.addr = aMG_SAFE_CNT m) :
      ((y.raise (fMG_IRQ_RAW_safe_in m)).put (fMG_TRIP_STAT_last m) code).shows f = y.shows f :=
    (shows_put_ne _ _ (e ▸ mg_ne m (by decide))).trans (shows_put_ne _ _ (e ▸ mg_ne m (by decide)))
  have before (w : Word) := entryFirst_cnt m st fb req s (w := w)
  unfold entryRegs
  constructor
  · refine (later rfl).trans ((shows_incrSat _ _ (by simp)).trans ?_)
    rw [get_of_rd (f := fMG_SAFE_CNT_in_cnt m) (before _) rfl]
    rfl
  · exact (later rfl).trans ((shows_put_disj (f := fMG_SAFE_CNT_in_cnt m) (g := fMG_SAFE_CNT_fb_cnt m) _ _ (.inl (by simp))).trans
      (shows_of_rd (before _)))

theorem entryRegs_time (m st fb req code : Nat) (s : State) : (entryRegs m st fb req code s).rd (aMG_SAFE_TIME m) = BitVec.ofNat 32 s.stamp := by
  unfold entryRegs
  exact (rd_wr_ne _ _ (mg_ne m (by decide))).trans ((rd_wr_ne _ _ (mg_ne m (by decide))).trans ((rd_wr_ne _ _ (mg_ne m (by decide))).trans
    (rd_wr_same _ _ _)))

theorem entryRegs_flag (m st fb req code : Nat) (s : State) : (entryRegs m st fb req code s).shows (fMG_IRQ_RAW_safe_in m) = 1 := by
  unfold entryRegs
  exact (shows_put_ne _ _ (mg_ne m (by decide))).trans (shows_raise _ _ (by decide))

theorem entryRegs_refused (m st fb req code : Nat) (s : State) :
    (entryRegs m st fb req code s).shows (fMG_TRIP_STAT_cmd_ref m) = s.shows (fMG_TRIP_STAT_cmd_ref m) := by
  unfold entryRegs
  refine (shows_put_disj (f := fMG_TRIP_STAT_last m) (g := fMG_TRIP_STAT_cmd_ref m) _ _ (.inl (by simp))).trans ?_
  refine (shows_put_ne _ _ (mg_ne m (by decide))).trans ((shows_put_ne _ _ (mg_ne m (by decide))).trans ?_)
  exact (shows_wr_ne _ _ (mg_ne m (by decide))).trans (shows_of_rd (entryFirst_rd m st fb req s (mg_ne m (by decide)) (mg_ne m (by decide))))

theorem entryRegs_sage (m st fb req code : Nat) (s : State) : (entryRegs m st fb req code s).sage = s.sage := by
  unfold entryRegs State.incrSat State.raise
  simp only [put_sage, wr_sage]

theorem entryRegs_tmr (m st fb req code : Nat) (s : State) : (entryRegs m st fb req code s).tmr = s.tmr := by
  unfold entryRegs State.incrSat State.raise State.put
  simp only [wr_tmr]

theorem marked_entryMarks (m fb req code evt : Nat) {st : Nat} (s : State) (hst : st < 8) (hfb : fb < 8) (hreq : req < 8) :
    Marked m st fb req s (entryMarks m st fb req code evt s) := by
  obtain ⟨pay, marks⟩ := entryMarks_eq m st fb req code evt s
  have recorded := touch_record (Sub.refl _) (entryRegs m st fb req code s) 0x20 .thy pay (Touch.rfl' _ _)
  rw [marks]
  have shown {f : Fld} (page : pageOf f.addr = 3) : (((entryRegs m st fb req code s).record 0x20 .thy pay).sageEvt 28 (nOther m)).shows f =
      (entryRegs m st fb req code s).shows f := (sageEvt_shows _ _ _ _).trans (shows_of_touch recorded page rfl)
  obtain ⟨state, sel, fallback, request⟩ := entryRegs_selection m fb req code s hst hfb hreq
  obtain ⟨count, fallbacks⟩ := entryRegs_counts m st fb req code s
  exact {
    state := (shown (f := fMG_STAT_state m) (page_aMG_STAT m)).trans state
    sel := (shown (f := fMG_SAFE_SEL_sel m) (page_aMG_SAFE_SEL m)).trans sel
    fb := (shown (f := fMG_SAFE_SEL_fb m) (page_aMG_SAFE_SEL m)).trans fallback
    req := (shown (f := fMG_SAFE_SEL_req m) (page_aMG_SAFE_SEL m)).trans request
    count := (shown (f := fMG_SAFE_CNT_in_cnt m) (page_aMG_SAFE_CNT m)).trans count
    fallbacks := (shown (f := fMG_SAFE_CNT_fb_cnt m) (page_aMG_SAFE_CNT m)).trans fallbacks
    time := (rd_of_touch recorded (page_aMG_SAFE_TIME m) rfl).trans (entryRegs_time m st fb req code s)
    flag := (shown (f := fMG_IRQ_RAW_safe_in m) (page_aMG_IRQ_RAW m)).trans (entryRegs_flag m st fb req code s)
    refused := (shown (f := fMG_TRIP_STAT_cmd_ref m) (page_aMG_TRIP_STAT m)).trans (entryRegs_refused m st fb req code s)
    told := by rw [sageEvt_inbox, inbox_of_touch recorded rfl, entryRegs_sage]
    copies := (tmr_of_touch recorded rfl).trans (entryRegs_tmr m st fb req code s) }

end Sys2Proof.Proofs
end

section
/-! PROOFS. O32: PULSE-OFF and ASC by software (07_trips_and_leg_protection.md R251, R252, R253, R257). -/
namespace Sys2Proof.Proofs
open Sys2Proof Sys2Proof.Machine Sys2Proof.Laws

variable {x s t u : State} {m n k : Nat}

/-! An entry. -/

/-- The marks of a selection that is not the first choice (R252). -/
def fallbackMarks (m fb : Nat) (s : State) : State :=
  if fb = 1 || fb = 2 || fb = 4 then ((s.incrSat (fMG_SAFE_CNT_fb_cnt m)).raise (fMG_IRQ_RAW_fallback m)).sageEvt 27 (nOther m) else s

/-- The edges of legs that a window brings into a group are taken back. -/
def retractIncoming (m : Nat) (s : State) : State := s.each (s.incoming m) (fun n s => skipLeg n (retractLeg n none s))

theorem enterState_eq (m st fb req code evt : Nat) (s : State) : ∃ g, ∃ fin : Nat → Nat, ∃ t y z,
    t = (disEnd m 7 s).putMg m g ∧
    y = forceLegs ((disEnd m 7 s).members m) (patOf st) true ((retractIncoming m (holdLegs m st ((disEnd m 7 s).members m) t)).dtSafe m) fin
      (retractIncoming m (holdLegs m st ((disEnd m 7 s).members m) t)) ∧
    z = fallbackMarks m fb (entryMarks m st fb req code evt y) ∧
    enterState m st fb req code evt s = hintChange ((disEnd m 7 s).members m) (z.each (z.ctxOfMg m) ctxEnters) :=
  ⟨_, _, _, _, _, rfl, rfl, rfl, rfl⟩

theorem safeStands_disEnd (m res : Nat) (s : State) : SafeStands s (disEnd m res s) :=
  (SafeStands.refl s).touch (touch_disEnd (Sub.refl _) m res s) (by decide)

theorem safeStands_retractIncoming (h : SafeStands x s) (m : Nat) : SafeStands x (retractIncoming m s) :=
  h.each fun n _ hy => (hy.retractLeg n none).skipLeg n

theorem held_retractIncoming (m : Nat) (s : State) : HoldStands s (retractIncoming m s) :=
  each_keeps (P := fun t => HoldStands s t) (fun a _ t ht k => (held_skipRetract a k t).trans (ht k)) fun _ => rfl

/-- The mask of the parts that the end of an entry may change: contexts, trackers and ports, but no leg, no group and no event of Sage. -/
theorem touch_entryEnd (ls : List Nat) (m : Nat) (z : State) :
    Touch 0xA0891C049072 z (hintChange ls (z.each (z.ctxOfMg m) ctxEnters)) :=
  touch_hintChange ((Sub.refl _).up (by decide)) ls _ ((Touch.rfl' _ z).each_ fun k y hy => touch_ctxEnters ((Sub.refl _).up (by decide)) k y hy)

/-! The marks of a fallback. -/

theorem sageEvt_rd (s : State) (e : Nat) (n : SageName) (a : Nat) : (s.sageEvt e n).rd a = s.rd a := rfl

theorem fallbackMarks_rd (m fb : Nat) (s : State) {a : Nat} (cnt : aMG_SAFE_CNT m ≠ a) (raw : aMG_IRQ_RAW m ≠ a) :
    (fallbackMarks m fb s).rd a = s.rd a := by
  unfold fallbackMarks
  split
  · exact (sageEvt_rd _ _ _ _).trans ((rd_wr_ne _ _ raw).trans (rd_wr_ne _ _ cnt))
  · rfl

theorem fallbackMarks_flag (m fb : Nat) (s : State) :
    (fallbackMarks m fb s).shows (fMG_IRQ_RAW_safe_in m) = s.shows (fMG_IRQ_RAW_safe_in m) := by
  unfold fallbackMarks
  split
  · exact (sageEvt_shows _ _ _ _).trans ((shows_put_disj (f := fMG_IRQ_RAW_fallback m) _ _ (by simp)).trans
      (shows_put_ne _ _ (mg_ne m (by decide))))
  · rfl

theorem fallbackMarks_count (m fb : Nat) (s : State) :
    (fallbackMarks m fb s).shows (fMG_SAFE_CNT_in_cnt m) = s.shows (fMG_SAFE_CNT_in_cnt m) := by
  unfold fallbackMarks
  split
  · exact (sageEvt_shows _ _ _ _).trans ((shows_put_ne _ _ (mg_ne m (by decide))).trans
      (shows_put_disj (f := fMG_SAFE_CNT_fb_cnt m) _ _ (by simp)))
  · rfl

theorem fallbackMarks_fallbacks (m : Nat) {fb : Nat} (s : State) (copies : s.tmr = []) (hfb : fb ∈ [0, 1, 2, 4]) :
    (fallbackMarks m fb s).shows (fMG_SAFE_CNT_fb_cnt m) =
      if fb = 0 then s.shows (fMG_SAFE_CNT_fb_cnt m) else min (s.shows (fMG_SAFE_CNT_fb_cnt m) + 1) 65535 := by
  have counts (y : State) (hy : y.tmr = []) :
      (((y.incrSat (fMG_SAFE_CNT_fb_cnt m)).raise (fMG_IRQ_RAW_fallback m)).sageEvt 27 (nOther m)).shows (fMG_SAFE_CNT_fb_cnt m) =
        min (y.shows (fMG_SAFE_CNT_fb_cnt m) + 1) 65535 := by
    refine (sageEvt_shows _ _ _ _).trans ((shows_put_ne _ _ (mg_ne m (by decide))).trans ((shows_incrSat _ _ (by simp)).trans ?_))
    rw [get_eq_shows' _ _ hy]
    rfl
  unfold fallbackMarks
  simp only [List.mem_cons, List.not_mem_nil, or_false] at hfb
  obtain rfl | rfl | rfl | rfl := hfb
  · rfl
  all_goals exact counts s copies

theorem fallbackMarks_legs (m fb : Nat) (s : State) : (fallbackMarks m fb s).legs = s.legs := by
  unfold fallbackMarks
  split
  · rfl
  · rfl

theorem fallbackMarks_inbox (m fb : Nat) {e : SEvt} (s : State) (h : e ∈ s.sage.inbox) : e ∈ (fallbackMarks m fb s).sage.inbox := by
  unfold fallbackMarks
  split
  · rw [sageEvt_inbox]
    exact List.mem_append_left _ h
  · exact h

/-- What an entry into a state leaves (R251): the legs held, the selection, the counts, the time, the flag, and the event Sage hears. -/
structure Entered (m st fb req : Nat) (s u : State) : Prop where
  state : u.shows (fMG_STAT_state m) = st
  sel : u.shows (fMG_SAFE_SEL_sel m) = st
  fallback : u.shows (fMG_SAFE_SEL_fb m) = fb
  request : u.shows (fMG_SAFE_SEL_req m) = req
  count : u.shows (fMG_SAFE_CNT_in_cnt m) = min (s.get (fMG_SAFE_CNT_in_cnt m) + 1) 65535
  fallbacks : u.shows (fMG_SAFE_CNT_fb_cnt m) =
    if fb = 0 then s.get (fMG_SAFE_CNT_fb_cnt m) else min (s.get (fMG_SAFE_CNT_fb_cnt m) + 1) 65535
  time : u.rd (aMG_SAFE_TIME m) = BitVec.ofNat 32 s.stamp
  flag : u.shows (fMG_IRQ_RAW_safe_in m) = 1
  held : ∀ n ∈ s.members m, (u.leg n).held = st
  told : ⟨28, nOther m, false⟩ ∈ u.sage.inbox

/-- The legs are held before the marks are set, and the registers of the group stand till then. -/
theorem enterState_parts (m st fb req code evt : Nat) (s : State) : ∃ y, SafeStands s y ∧ (∀ n ∈ s.members m, (y.leg n).held = st) ∧
    Touch 0xA0891C049072 (fallbackMarks m fb (entryMarks m st fb req code evt y)) (enterState m st fb req code evt s) := by
  obtain ⟨g, fin, t, y, z, et, ey, ez, e⟩ := enterState_eq m st fb req code evt s
  have ended := safeStands_disEnd m 7 s
  have before : SafeStands s t := et ▸ ended.putMg m g
  refine ⟨y, ?_, fun n hn => ?_, ?_⟩
  · rw [ey]
    exact (safeStands_retractIncoming (before.holdLegs m st _) m).forceLegs _ _ _ _ _
  · rw [ey, leg_of_touch (touch_forceLegs (Sub.refl _) _ _ _ _ _ _ (Touch.rfl' 0x8000000000 _)) rfl, held_retractIncoming,
      held_holdLegs m st t (by rw [ended.members]; exact hn)]
  · rw [e, ← ez]
    exact touch_entryEnd _ m z

theorem entered_enterState (m code evt : Nat) {st fb req : Nat} (s : State) (hst : st < 8) (hfb : fb ∈ [0, 1, 2, 4]) (hreq : req < 8)
    (copies : s.tmr = []) : Entered m st fb req s (enterState m st fb req code evt s) := by
  obtain ⟨y, stands, held, rest⟩ := enterState_parts m st fb req code evt s
  have fits : fb < 8 := by
    simp only [List.mem_cons, List.not_mem_nil, or_false] at hfb
    omega
  have marked := marked_entryMarks m fb req code evt y hst fits hreq
  obtain ⟨v, ev⟩ : ∃ v, v = entryMarks m st fb req code evt y := ⟨_, rfl⟩
  have legs : v.leg = y.leg := by rw [ev, leg_of_touch (touch_entryMarks (Sub.refl _) m st fb req code evt y (Touch.rfl' _ y)) rfl]
  rw [← ev] at rest marked
  have clean : y.tmr = [] := stands.tmr.trans copies
  have shown {f : Fld} (page : pageOf f.addr = 3) := shows_of_touch (f := f) rest page rfl
  have apart {f : Fld} (cnt : aMG_SAFE_CNT m ≠ f.addr) (raw : aMG_IRQ_RAW m ≠ f.addr) :=
    shows_of_rd (f := f) (fallbackMarks_rd m fb v cnt raw)
  exact {
    state := (shown (f := fMG_STAT_state m) (page_aMG_STAT m)).trans
      ((apart (f := fMG_STAT_state m) (mg_ne m (by decide)) (mg_ne m (by decide))).trans marked.state)
    sel := (shown (f := fMG_SAFE_SEL_sel m) (page_aMG_SAFE_SEL m)).trans
      ((apart (f := fMG_SAFE_SEL_sel m) (mg_ne m (by decide)) (mg_ne m (by decide))).trans marked.sel)
    fallback := (shown (f := fMG_SAFE_SEL_fb m) (page_aMG_SAFE_SEL m)).trans
      ((apart (f := fMG_SAFE_SEL_fb m) (mg_ne m (by decide)) (mg_ne m (by decide))).trans marked.fb)
    request := (shown (f := fMG_SAFE_SEL_req m) (page_aMG_SAFE_SEL m)).trans
      ((apart (f := fMG_SAFE_SEL_req m) (mg_ne m (by decide)) (mg_ne m (by decide))).trans marked.req)
    count := by
      rw [shown (f := fMG_SAFE_CNT_in_cnt m) (page_aMG_SAFE_CNT m), fallbackMarks_count, marked.count,
        stands.get (f := fMG_SAFE_CNT_in_cnt m) (page_aMG_SAFE_CNT m) (mg_high m (by decide))]
    fallbacks := by
      rw [shown (f := fMG_SAFE_CNT_fb_cnt m) (page_aMG_SAFE_CNT m), fallbackMarks_fallbacks m v (marked.copies.trans clean) hfb,
        marked.fallbacks, stands.shows (f := fMG_SAFE_CNT_fb_cnt m) (page_aMG_SAFE_CNT m) (mg_high m (by decide)),
        get_eq_shows' s _ copies]
    time := by
      rw [rd_of_touch rest (page_aMG_SAFE_TIME m) rfl, fallbackMarks_rd m fb v (a := aMG_SAFE_TIME m) (mg_ne m (by decide)) (mg_ne m (by decide)),
        marked.time, stands.stamp]
    flag := (shown (f := fMG_IRQ_RAW_safe_in m) (page_aMG_IRQ_RAW m)).trans ((fallbackMarks_flag m fb v).trans marked.flag)
    held := fun n hn => by
      have legs' : (fallbackMarks m fb v).leg n = v.leg n := by
        unfold State.leg
        rw [fallbackMarks_legs]
      rw [leg_of_touch rest rfl, legs', legs, held n hn]
    told := by
      rw [inbox_of_touch rest rfl]
      exact fallbackMarks_inbox m fb v (by rw [marked.told]; exact List.mem_append_right _ (List.mem_singleton_self _)) }

theorem enterState_refused (m fb code evt : Nat) {st req : Nat} (s : State) (hst : st < 8) (hfb : fb < 8) (hreq : req < 8) :
    (enterState m st fb req code evt s).shows (fMG_TRIP_STAT_cmd_ref m) = s.shows (fMG_TRIP_STAT_cmd_ref m) := by
  obtain ⟨y, stands, -, rest⟩ := enterState_parts m st fb req code evt s
  rw [shows_of_touch (f := fMG_TRIP_STAT_cmd_ref m) rest (page_aMG_TRIP_STAT m) rfl,
    shows_of_rd (f := fMG_TRIP_STAT_cmd_ref m) (fallbackMarks_rd m fb _ (a := aMG_TRIP_STAT m) (mg_ne m (by decide)) (mg_ne m (by decide))),
    (marked_entryMarks m fb req code evt y hst hfb hreq).refused,
    stands.shows (f := fMG_TRIP_STAT_cmd_ref m) (page_aMG_TRIP_STAT m) (mg_high m (by decide))]

/-! The selection (R252). -/

theorem select_pulseOff (m : Nat) (s : State) : s.select m 3 = (3, 0) := rfl

/-- ASC selects a side that is allowed, the configured one first, or PULSE-OFF. -/
theorem select_asc (s : State) (type : s.mgType m ≠ 2) : s.select m 1 ∈ [(1, 0), (2, 0), (1, 1), (2, 2), (3, 4)] := by
  unfold State.select
  rw [if_neg (by decide), if_neg type]
  have chosen : ∀ high first second : Bool, (if first = true then (if high = true then 2 else 1, 0)
      else if second = true then (if high = true then 1 else 2, if high = true then 1 else 2) else (3, 4)) ∈
      [(1, 0), (2, 0), (1, 1), (2, 2), (3, 4)] := by decide
  exact chosen (s.on (fMG_SAFE_CFG_side m)) (s.sideOk m (s.on (fMG_SAFE_CFG_side m))) (s.sideOk m (!s.on (fMG_SAFE_CFG_side m)))

/-- What is selected is one of the three states, and outside grid groups a fallback that is counted. -/
theorem select_mem (m : Nat) {req : Nat} (s : State) (h : req = 3 ∨ (req = 1 ∧ s.mgType m ≠ 2)) :
    (s.select m req).1 ∈ [1, 2, 3] ∧ (s.select m req).2 ∈ [0, 1, 2, 4] := by
  obtain rfl | ⟨rfl, type⟩ := h
  · rw [select_pulseOff]
    exact ⟨by decide, by decide⟩
  · have all : ∀ p ∈ [(1, 0), (2, 0), (1, 1), (2, 2), (3, 4)], p.1 ∈ [1, 2, 3] ∧ p.2 ∈ [0, 1, 2, 4] := by decide
    exact all _ (select_asc s type)

/-- Only the group's sources and no leg, no copy and no time: what an accepted command leaves as it was. -/
structure CommandStands (m : Nat) (s t : State) : Prop where
  now : t.now = s.now
  tmr : t.tmr = s.tmr
  hpm : t.hpm = s.hpm
  legs : t.legs = s.legs
  regs : ∀ a, a ≠ aMG_TRIP_STAT m → t.rd a = s.rd a

theorem commandStands_accept (m : Nat) (s : State) : CommandStands m s (safeAccept m s) :=
  ⟨rfl, rfl, rfl, rfl, fun _ ne => rd_wr_ne s _ ne.symm⟩

/-- The fabric's part in a command. -/
theorem commandStands_granted (m : Nat) (s : State) (l : Tab Link) (w : Tab Warden) (b : Bus) :
    CommandStands m s (((s.setLinks l).setWardens w).setBus b) := ⟨rfl, rfl, rfl, rfl, fun _ _ => rfl⟩

theorem CommandStands.putMg (h : CommandStands m x s) (k : Nat) (g : Mg) : CommandStands m x (s.putMg k g) :=
  ⟨h.now, h.tmr, h.hpm, h.legs, fun a ne => h.regs a ne⟩

theorem CommandStands.get {f : Fld} (h : CommandStands m s t) (ne : f.addr ≠ aMG_TRIP_STAT m) : t.get f = s.get f :=
  get_of_rd (h.regs _ ne) h.tmr

theorem CommandStands.on {f : Fld} (h : CommandStands m s t) (ne : f.addr ≠ aMG_TRIP_STAT m) : t.on f = s.on f := by
  unfold State.on
  rw [h.get ne]

theorem CommandStands.leg (h : CommandStands m s t) : t.leg = s.leg := by
  funext n
  unfold State.leg
  rw [h.legs]

theorem legCfg_ne (n m : Nat) : aLEG_CFG n ≠ aMG_TRIP_STAT m := by unfold aLEG_CFG aMG_TRIP_STAT; omega

theorem mgCfg_ne_trip (k m : Nat) : aMG_CFG k ≠ aMG_TRIP_STAT m := by unfold aMG_CFG aMG_TRIP_STAT; omega

theorem mgSafeCfg_ne_trip (k m : Nat) : aMG_SAFE_CFG k ≠ aMG_TRIP_STAT m := by unfold aMG_SAFE_CFG aMG_TRIP_STAT; omega

theorem CommandStands.members (h : CommandStands m s t) : t.members = s.members :=
  members_congr (fun n => h.regs _ (legCfg_ne n m)) h.tmr

theorem CommandStands.mgState (h : CommandStands m s t) (k : Nat) : t.mgState k = s.mgState k :=
  h.get (f := fMG_STAT_state k) (mgStat_ne_trip k m)

theorem CommandStands.stamp (h : CommandStands m s t) : t.stamp = s.stamp := by
  unfold State.stamp State.busTime
  rw [h.hpm, h.now]

theorem CommandStands.legLatched (h : CommandStands m s t) (n i : Nat) (hi : i < 32) : t.legLatched n i = s.legLatched n i := by
  unfold State.legLatched
  rw [bitAt_eq_shows, bitAt_eq_shows, bitFld_leg hi,
    shows_of_rd (f := ⟨aLEG_TRIP_STAT n, i, 1⟩) (h.regs (aLEG_TRIP_STAT n) (mgTripStat_ne_leg n m).symm)]

theorem CommandStands.sideOk (h : CommandStands m s t) (k : Nat) (high : Bool) : t.sideOk k high = s.sideOk k high := by
  have port (p : Nat) : t.portUp p = s.portUp p := by
    have ne : aNDL_STAT p ≠ aMG_TRIP_STAT m := by unfold aNDL_STAT aMG_TRIP_STAT; omega
    unfold State.portUp State.portState
    rw [h.get (f := fNDL_STAT_state p) ne]
  unfold State.sideOk State.judges State.bootOk
  simp only [h.members, port, h.leg, h.legLatched _ 1 (by decide), h.legLatched _ 2 (by decide), h.legLatched _ 3 (by decide),
    h.legLatched _ 4 (by decide)]

theorem CommandStands.select (h : CommandStands m s t) (k req : Nat) : t.select k req = s.select k req := by
  have type : t.mgType k = s.mgType k := h.get (f := fMG_CFG_type k) (mgCfg_ne_trip k m)
  have side : t.on (fMG_SAFE_CFG_side k) = s.on (fMG_SAFE_CFG_side k) :=
    h.on (f := fMG_SAFE_CFG_side k) (mgSafeCfg_ne_trip k m)
  unfold State.select
  simp only [type, side, h.sideOk]

theorem mgSafeCnt_ne_trip (k m : Nat) : aMG_SAFE_CNT k ≠ aMG_TRIP_STAT m := by unfold aMG_SAFE_CNT aMG_TRIP_STAT; omega

/-- An entry after an accepted command counts and dates from the state before the command. -/
theorem Entered.of_command {st fb req : Nat} (h : CommandStands m s t) (e : Entered m st fb req t u) : Entered m st fb req s u := by
  have count := h.get (f := fMG_SAFE_CNT_in_cnt m) (mgSafeCnt_ne_trip m m)
  have fallbacks := h.get (f := fMG_SAFE_CNT_fb_cnt m) (mgSafeCnt_ne_trip m m)
  exact { e with
    count := by rw [e.count, count]
    fallbacks := by rw [e.fallbacks, fallbacks]
    time := by rw [e.time, h.stamp]
    held := fun n hn => e.held n (by rw [h.members]; exact hn) }

/-! Requests by software. -/

theorem commandStands_note (m req code evt : Nat) (s : State) : CommandStands m s (noteRequest m req code evt (safeAccept m s)) :=
  (commandStands_accept m s).putMg m _

theorem takeState_eq (m req code evt : Nat) (s : State) : takeState m req code evt s =
    if (decide (s.mgState m = (s.select m req).1) && !(s.mg m).releasing) = true then s
    else enterState m (s.select m req).1 (s.select m req).2 req code evt s := rfl

/-- A request that is the first of its tick is taken, where it does not lead to the state the group is in. -/
theorem applyRequest_enters {req : Nat} (code evt : Nat) (free : s.decided m = false)
    (other : (noteRequest m req code evt s).mgState m ≠ ((noteRequest m req code evt s).select m req).1) :
    applyRequest m req code evt s = enterState m ((noteRequest m req code evt s).select m req).1
      ((noteRequest m req code evt s).select m req).2 req code evt (noteRequest m req code evt s) := by
  have wins : s.loses m req code evt = false := by
    unfold State.loses
    rw [free, Bool.false_and]
  unfold applyRequest
  rw [wins, if_neg Bool.false_ne_true, takeState_eq, decide_eq_false other, Bool.false_and, if_neg Bool.false_ne_true]

theorem accept_shows (m : Nat) (s : State) : (safeAccept m s).shows (fMG_TRIP_STAT_cmd_ref m) = 0 := shows_lower _ _ (by decide)

/-- A request by software to a group in RUN or OFF enters the selected state (R252, R257). -/
theorem entered_request {req : Nat} (run : s.mgState m = 0) (free : s.decided m = false) (copies : s.tmr = [])
    (h : req = 3 ∨ (req = 1 ∧ s.mgType m ≠ 2)) :
    Entered m (s.select m req).1 (s.select m req).2 req s (applyRequest m req 0 0xFF (safeAccept m s)) ∧
    (applyRequest m req 0 0xFF (safeAccept m s)).shows (fMG_TRIP_STAT_cmd_ref m) = 0 := by
  have stands := commandStands_note m req 0 0xFF s
  obtain ⟨state, fallback⟩ := select_mem m s h
  have requested : req < 8 := by
    obtain rfl | ⟨rfl, -⟩ := h
    · decide
    · decide
  have small : (s.select m req).1 ≠ 0 ∧ (s.select m req).1 < 8 := by
    simp only [List.mem_cons, List.not_mem_nil, or_false] at state
    omega
  have other : (noteRequest m req 0 0xFF (safeAccept m s)).mgState m ≠ ((noteRequest m req 0 0xFF (safeAccept m s)).select m req).1 := by
    rw [stands.mgState, stands.select, run]
    exact small.1.symm
  have fits : (s.select m req).2 < 8 := by
    simp only [List.mem_cons, List.not_mem_nil, or_false] at fallback
    omega
  rw [applyRequest_enters (s := safeAccept m s) 0 0xFF free other, stands.select]
  refine ⟨.of_command stands ?_, ?_⟩
  · exact entered_enterState m 0 0xFF _ small.2 fallback requested (stands.tmr.trans copies)
  · exact (enterState_refused m _ 0 0xFF _ small.2 fits requested).trans (accept_shows m s)

theorem noteRequest_releasing (m req code evt : Nat) (s : State) :
    ((noteRequest m req code evt s).mg m).releasing = (s.mg m).releasing := by
  unfold noteRequest
  rw [mg_putMg]

/-- A request to the state the group is in, or one that loses, writes no register and changes no leg. -/
theorem applyRequest_stays {req : Nat} (code evt : Nat)
    (same : (noteRequest m req code evt s).mgState m = ((noteRequest m req code evt s).select m req).1)
    (stays : (s.mg m).releasing = false) :
    (applyRequest m req code evt s).legs = s.legs ∧ ∀ a, (applyRequest m req code evt s).rd a = s.rd a := by
  unfold applyRequest
  split
  · exact ⟨rfl, fun _ => rfl⟩
  · have kept : takeState m req code evt (noteRequest m req code evt s) = noteRequest m req code evt s := by
      rw [takeState_eq, decide_eq_true same, noteRequest_releasing, stays, Bool.not_false, Bool.and_self, if_pos rfl]
    rw [kept]
    exact ⟨rfl, fun _ => rfl⟩

theorem blockAt_mgSafeCmd (m : Nat) : blockAt (aMG_SAFE_CMD m) = some .thy :=
  blockAt_thy (by unfold aMG_SAFE_CMD; omega) (by unfold aMG_SAFE_CMD; omega)

theorem runs_pulseOff {r : Req} {m : Fin 32} (hg : s.grants r (aMG_SAFE_CMD m.val) true = true) (run : s.mgState m.val = 0)
    (free : s.decided m.val = false) (copies : s.tmr = []) :
    Runs (.pulseOff r m) s fun u => Entered m.val 3 0 3 s u ∧ u.shows (fMG_TRIP_STAT_cmd_ref m.val) = 0 := by
  refine runs_thyme rfl (blockAt_mgSafeCmd m.val) hg fun l w b => ?_
  obtain ⟨entered, accepted⟩ := entered_request (s := ((s.setLinks l).setWardens w).setBus b) run free copies (.inl rfl)
  exact ⟨.of_command (commandStands_granted m.val s l w b) entered, accepted⟩

theorem runs_asc {r : Req} {m : Fin 32} (hg : s.grants r (aMG_SAFE_CMD m.val) true = true) (type : s.mgType m.val ≠ 2)
    (run : s.mgState m.val = 0) (free : s.decided m.val = false) (copies : s.tmr = []) :
    Runs (.asc r m) s (Entered m.val (s.select m.val 1).1 (s.select m.val 1).2 1 s) := by
  refine runs_thyme rfl (blockAt_mgSafeCmd m.val) hg fun l w b => ?_
  obtain ⟨entered, -⟩ := entered_request (s := ((s.setLinks l).setWardens w).setBus b) run free copies (.inr ⟨rfl, type⟩)
  have asked : softAsc m.val (((s.setLinks l).setWardens w).setBus b) =
      applyRequest m.val 1 0 0xFF (safeAccept m.val (((s.setLinks l).setWardens w).setBus b)) := if_neg type
  have stands := commandStands_granted m.val s l w b
  rw [stands.select] at entered
  rw [asked]
  exact .of_command stands entered

/-! A command that changes no state. -/

/-- A refused command sets its bit and its flag (R257). -/
structure SafeRefused (m : Nat) (s u : State) : Prop where
  bit : u.shows (fMG_TRIP_STAT_cmd_ref m) = 1
  flag : u.shows (fMG_IRQ_RAW_cmd_ref m) = 1
  regs : OnlyRegs [aMG_TRIP_STAT m, aMG_IRQ_RAW m] s u
  mgs : u.mgs = s.mgs
  legs : u.legs = s.legs
  diss : u.diss = s.diss
  inbox : u.sage.inbox = s.sage.inbox

theorem safeRefused_safeRefuse (m : Nat) (s : State) : SafeRefused m s (safeRefuse m s) :=
  ⟨(shows_put_ne (g := fMG_TRIP_STAT_cmd_ref m) _ _ (mgRaw_ne_trip m m)).trans (shows_raise _ _ (by decide)), shows_raise _ _ (by decide),
    onlyRegs_put _ (by simp) (onlyRegs_put _ (by simp) (OnlyRegs.refl _ s)), rfl, rfl, rfl, rfl⟩

theorem runs_pulseOff_stays {r : Req} {m : Fin 32} (hg : s.grants r (aMG_SAFE_CMD m.val) true = true) (off : s.mgState m.val = 3)
    (stays : (s.mg m.val).releasing = false) :
    Runs (.pulseOff r m) s (fun u => u.shows (fMG_TRIP_STAT_cmd_ref m.val) = 0 ∧ u.legs = s.legs ∧ OnlyRegs [aMG_TRIP_STAT m.val] s u) := by
  refine runs_thyme rfl (blockAt_mgSafeCmd m.val) hg fun l w b => ?_
  have stands := commandStands_note m.val 3 0 0xFF (((s.setLinks l).setWardens w).setBus b)
  obtain ⟨legs, regs⟩ := applyRequest_stays (s := safeAccept m.val (((s.setLinks l).setWardens w).setBus b)) (req := 3) 0 0xFF
    ((stands.mgState m.val).trans off) stays
  have accepted := accept_shows m.val (((s.setLinks l).setWardens w).setBus b)
  refine ⟨(shows_of_rd (f := fMG_TRIP_STAT_cmd_ref m.val) (regs _)).trans accepted, legs, fun a ha => (regs a).trans ?_⟩
  have other : a ≠ aMG_TRIP_STAT m.val := by simpa using ha
  have kept := (commandStands_accept m.val (((s.setLinks l).setWardens w).setBus b)).regs a other
  exact kept

theorem runs_asc_refused {r : Req} {m : Fin 32} (hg : s.grants r (aMG_SAFE_CMD m.val) true = true) (grid : s.mgType m.val = 2) :
    Runs (.asc r m) s (fun u => u.shows (fMG_TRIP_STAT_cmd_ref m.val) = 1 ∧ u.shows (fMG_IRQ_RAW_cmd_ref m.val) = 1 ∧ u.mgs = s.mgs ∧
      OnlyRegs [aMG_TRIP_STAT m.val, aMG_IRQ_RAW m.val] s u) := by
  refine runs_thyme rfl (blockAt_mgSafeCmd m.val) hg fun l w b => ?_
  have refused := safeRefused_safeRefuse m.val (((s.setLinks l).setWardens w).setBus b)
  have asked : softAsc m.val (((s.setLinks l).setWardens w).setBus b) = safeRefuse m.val (((s.setLinks l).setWardens w).setBus b) :=
    if_pos grid
  rw [asked]
  exact ⟨refused.bit, refused.flag, refused.mgs, refused.regs⟩

end Sys2Proof.Proofs
end

section
/-! PROOFS. O32: active discharge by software (07_trips_and_leg_protection.md R255, R257, R265; 09_sage_and_safe_states.md R346, R347). -/
namespace Sys2Proof.Proofs
open Sys2Proof Sys2Proof.Machine Sys2Proof.Laws

variable {x s t u : State} {m n k : Nat}

theorem SafeStands.releaseAt (h : SafeStands x s) (ls : List (Nat × Nat)) (dly : Nat) : SafeStands x (releaseAt ls dly s) :=
  h.touch (touch_releaseAt (Sub.refl _) ls dly s) (by decide)

/-- The group as DISCHARGE begins. -/
def dischargeBegun (m mode : Nat) (s : State) : State := s.putMg m { s.mg m with dis := mode, releasing := false }

/-- The start of a discharge: the legs that do not carry it are held, the entry is marked, the steps are cancelled, and Sage keeps the
moment. -/
theorem startDischarge_eq (m mode code : Nat) (s : State) : ∃ off d rest at_ d' ks y z,
    y = releaseAt at_ d' (holdLegs m 3 rest (forceLegs off 0 true d (fun _ => 0) (dischargeBegun m mode s))) ∧
    z = (entryMarks m 4 0 4 code 0xFF y).each ks cancelStep ∧
    startDischarge m mode code s = hintChange (s.members m)
      ((z.setDiss (Tab.ins z.diss m { mode := mode, start := z.now, lastV := z.now })).put (fSAGE_DIS_STAT_state m) mode) :=
  ⟨_, _, _, _, _, _, _, _, rfl, rfl, rfl⟩

/-- What a discharge that begins leaves. -/
structure Discharging (m mode : Nat) (s u : State) : Prop where
  state : u.shows (fMG_STAT_state m) = 4
  dis : (u.mg m).dis = mode
  start : (Tab.get ({} : Dis) u.diss m).start = s.now
  stat : u.shows (fSAGE_DIS_STAT_state m) = mode
  refused : u.shows (fMG_TRIP_STAT_cmd_ref m) = s.shows (fMG_TRIP_STAT_cmd_ref m)
  told : u.sage.inbox = s.sage.inbox ++ [⟨28, nOther m, false⟩]

/-- What Sage keeps of a discharge that begins. -/
def sageBegins (m mode : Nat) (z : State) : State :=
  (z.setDiss (Tab.ins z.diss m { mode := mode, start := z.now, lastV := z.now })).put (fSAGE_DIS_STAT_state m) mode

theorem touch_sageBegins (m mode : Nat) (z : State) : Touch 0x100000008000 z (sageBegins m mode z) := by
  have page : PageIn 0x100000008000 (aSAGE_DIS_STAT m) := .inl (by rw [page_aSAGE_DIS_STAT]; rfl)
  exact touch_put (f := fSAGE_DIS_STAT_state m) page _ mode (touch_setDiss ((Sub.refl _).up (by decide)) z _ (Touch.rfl' _ z))

theorem sageBegins_diss (m mode : Nat) (z : State) : (Tab.get ({} : Dis) (sageBegins m mode z).diss m).start = z.now :=
  congrArg Dis.start (get_ins_same ({} : Dis) z.diss m { mode := mode, start := z.now, lastV := z.now })

theorem discharging_startDischarge (m code : Nat) {mode : Nat} (s : State) (hm : mode < 8) :
    Discharging m mode s (startDischarge m mode code s) := by
  obtain ⟨off, d, rest, at_, d', ks, y, z, ey, ez, e⟩ := startDischarge_eq m mode code s
  have early : Touch 0x9800000018 (dischargeBegun m mode s) y := ey ▸ touch_releaseAt ((Sub.refl _).up (by decide)) at_ d' _
    (touch_holdLegs (Sub.refl _) m 3 rest _ (touch_forceLegs ((Sub.refl _).up (by decide)) off 0 true d _ _ (Touch.rfl' _ _)))
  have stands : SafeStands s y := ey ▸ ((((SafeStands.refl s).putMg m _).forceLegs off 0 true d _).holdLegs m 3 rest).releaseAt at_ d'
  have marked := marked_entryMarks m 0 4 code 0xFF (st := 4) y (by decide) (by decide) (by decide)
  have marks := touch_entryMarks (Sub.refl _) m 4 0 4 code 0xFF y (Touch.rfl' _ y)
  generalize entryMarks m 4 0 4 code 0xFF y = v at ez marked marks
  have cancelled : Touch 0xA0091C049062 v z := ez ▸ (Touch.rfl' _ v).each_ fun k w hw => touch_cancelStep (Sub.refl _) k w hw
  have kept := touch_sageBegins m mode z
  have hint := touch_hintChange (Sub.refl _) (s.members m) (sageBegins m mode z) (Touch.rfl' _ _)
  have begun : startDischarge m mode code s = hintChange (s.members m) (sageBegins m mode z) := e
  rw [← begun] at hint
  have shown {f : Fld} (page : pageOf f.addr = 3) : (startDischarge m mode code s).shows f = v.shows f :=
    (shows_of_touch hint page rfl).trans ((shows_of_touch kept page rfl).trans (shows_of_touch cancelled page rfl))
  have now : z.now = s.now := by
    obtain ⟨-, -, -, same⟩ := cancelled
    obtain ⟨-, -, -, same'⟩ := marks
    exact (same .now rfl).trans ((same' .now rfl).trans stands.now)
  have diss : (startDischarge m mode code s).diss = (sageBegins m mode z).diss := by
    obtain ⟨-, -, -, same⟩ := hint
    exact same .diss rfl
  exact {
    state := (shown (f := fMG_STAT_state m) (page_aMG_STAT m)).trans marked.state
    dis := by
      rw [mg_of_touch hint rfl, mg_of_touch kept rfl, mg_of_touch cancelled rfl, mg_of_touch marks rfl, mg_of_touch early rfl]
      exact congrArg Mg.dis (mg_putMg s m _)
    start := by rw [diss, sageBegins_diss, now]
    stat := (shows_of_touch (f := fSAGE_DIS_STAT_state m) hint (page_aSAGE_DIS_STAT m) rfl).trans
      ((shows_put _ (fSAGE_DIS_STAT_state m) mode (by simp)).trans (Nat.mod_eq_of_lt (by simpa using hm)))
    refused := (shown (f := fMG_TRIP_STAT_cmd_ref m) (page_aMG_TRIP_STAT m)).trans (marked.refused.trans
      (stands.shows (f := fMG_TRIP_STAT_cmd_ref m) (page_aMG_TRIP_STAT m) (mg_high m (by decide))))
    told := by
      rw [inbox_of_touch hint rfl, inbox_of_touch kept rfl, inbox_of_touch cancelled rfl, marked.told, inbox_of_touch early rfl]
      rfl }

/-- A discharge begins in a hold where no request of the same tick comes first and nothing refuses it. -/
theorem softDischarge_begins {mode : Nat} (hold : inHold (s.mgState m) = true) (trip : (s.mg m).tripTick = none)
    (free : s.decided m = false) (allowed : s.disRefused m mode = false) :
    softDischarge m mode s = startDischarge m mode 0 (safeAccept m s) := by
  unfold softDischarge
  rw [hold, trip, free, allowed]
  rfl

theorem softDischarge_refused {mode : Nat} (h : inHold (s.mgState m) = false ∨ s.disRefused m mode = true) :
    softDischarge m mode s = safeRefuse m s := by
  unfold softDischarge
  obtain hold | no := h
  · rw [hold]
    rfl
  · simp only [no, Bool.or_true, if_true]

/-- What the two DISCHARGE commands do where they are accepted. -/
structure Discharged (m mode : Nat) (s u : State) : Prop where
  state : u.shows (fMG_STAT_state m) = 4
  dis : (u.mg m).dis = mode
  start : (Tab.get ({} : Dis) u.diss m).start = s.now
  stat : u.shows (fSAGE_DIS_STAT_state m) = mode
  accepted : u.shows (fMG_TRIP_STAT_cmd_ref m) = 0
  told : u.sage.inbox = s.sage.inbox ++ [⟨28, nOther m, false⟩]

theorem discharged_softDischarge {mode : Nat} (hm : mode < 8) (hold : inHold (s.mgState m) = true) (trip : (s.mg m).tripTick = none)
    (free : s.decided m = false) (allowed : s.disRefused m mode = false) : Discharged m mode s (softDischarge m mode s) := by
  have begun := discharging_startDischarge m 0 (safeAccept m s) hm
  rw [softDischarge_begins hold trip free allowed]
  exact ⟨begun.state, begun.dis, begun.start, begun.stat, begun.refused.trans (accept_shows m s), begun.told⟩

/-! RELEASE (R257, R258). -/

theorem softRelease_refused (h : inHold (s.mgState m) = false ∨ s.on (fMG_TRIP_STAT_sage_hold m) = true ∨ s.anyLatched m = true) :
    softRelease m s = (safeRefuse m s).sageEvt 28 (nOther m) := by
  unfold softRelease
  refine if_pos ?_
  obtain hold | sage | latched := h
  · rw [hold]
    rfl
  · rw [sage, Bool.or_true, Bool.true_or]
  · rw [latched, Bool.or_true]

/-- The hold of a group begins to end. -/
def releaseBegun (m : Nat) (s : State) : State := (safeAccept m s).putMg m { (safeAccept m s).mg m with releasing := true }

theorem commandStands_releaseBegun (m : Nat) (s : State) : CommandStands m s (releaseBegun m s) := (commandStands_accept m s).putMg m _

theorem CommandStands.tbgRun (h : CommandStands m s t) (g : Nat) : t.tbgRun g = s.tbgRun g := by
  have ne : aTBG_STAT g ≠ aMG_TRIP_STAT m := by unfold aTBG_STAT aMG_TRIP_STAT; omega
  unfold State.tbgRun
  rw [h.on (f := fTBG_STAT_run g) ne, h.on (f := fTBG_STAT_start_pend g) ne]

theorem CommandStands.legTbg (h : CommandStands m s t) (n : Nat) : t.legTbg n = s.legTbg n := h.get (f := fLEG_CFG_tbg n) (legCfg_ne n m)

/-- The boundaries at which the running legs of a group leave its hold. -/
def leavingAt (m : Nat) (y : State) : List (Nat × Nat) :=
  (y.members m).filterMap (fun n => (y.boundaryAfter (y.legTbg n)).map (fun b => (n, b)))

/-- A hold that begins to end: its running legs wait for a boundary, the others leave at once. -/
theorem softRelease_accepted (hold : inHold (s.mgState m) = true) (sage : s.on (fMG_TRIP_STAT_sage_hold m) = false)
    (latched : s.anyLatched m = false) : ∃ d z, z = releaseAt (leavingAt m (releaseBegun m s)) d (releaseBegun m s) ∧
    softRelease m s = leaveSafe m (z.each (((releaseBegun m s).members m).filter (fun n => !z.tbgRun (z.legTbg n))) releaseStopped) := by
  refine ⟨(releaseBegun m s).dtSafe m, _, rfl, ?_⟩
  unfold softRelease
  rw [hold, sage, latched]
  exact if_neg (by decide)

/-- A group whose legs' timebases are stopped has no boundary to wait for: every member leg leaves the hold at once. -/
theorem softRelease_stopped (hold : inHold (s.mgState m) = true) (sage : s.on (fMG_TRIP_STAT_sage_hold m) = false)
    (latched : s.anyLatched m = false) (stopped : ∀ n ∈ s.members m, s.tbgRun (s.legTbg n) = false) :
    softRelease m s = leaveSafe m ((releaseBegun m s).each (s.members m) releaseStopped) := by
  have stands := commandStands_releaseBegun m s
  have run (n : Nat) : (releaseBegun m s).tbgRun ((releaseBegun m s).legTbg n) = s.tbgRun (s.legTbg n) := by
    rw [stands.legTbg, stands.tbgRun]
  have waits : leavingAt m (releaseBegun m s) = [] := by
    unfold leavingAt
    rw [List.filterMap_eq_nil_iff, stands.members]
    intro n hn
    unfold State.boundaryAfter
    rw [run, stopped n hn]
    rfl
  have all : ((releaseBegun m s).members m).filter (fun n => !(releaseBegun m s).tbgRun ((releaseBegun m s).legTbg n)) = s.members m := by
    rw [stands.members, List.filter_eq_self]
    intro n hn
    rw [run, stopped n hn]
    rfl
  obtain ⟨d, z, ez, e⟩ := softRelease_accepted hold sage latched
  rw [waits] at ez
  have same : z = releaseBegun m s := ez
  rw [e, same, all]

/-! The legs leave the hold. -/

theorem SafeStands.releaseStopped (h : SafeStands x s) (n : Nat) : SafeStands x (releaseStopped n s) :=
  (((h.putLeg n _).putStat (f := fLEG_STAT_hs n) rfl 0).putStat (f := fLEG_STAT_ls n) rfl 0).forceLegs _ _ _ _ _

theorem held_releaseStopped (a k : Nat) (s : State) : ((releaseStopped a s).leg k).held = if a = k then 0 else (s.leg k).held := by
  unfold Machine.releaseStopped
  rw [leg_of_touch (touch_forceLegs (Sub.refl _) _ _ _ _ _ _ (Touch.rfl' 0x8000000000 _)) rfl]
  dsimp only [State.lower]
  rw [leg_put, leg_put, held_putLeg (st := 0) rfl]

theorem held_allReleased {ls : List Nat} (s : State) (hk : k ∈ ls) : ((s.each ls releaseStopped).leg k).held = 0 := by
  refine each_sets (I := fun _ => True) (P := fun t => (t.leg k).held = 0) hk (fun _ _ _ _ => trivial) ?sets ?keeps trivial
  case sets =>
    intro t _
    rw [held_releaseStopped, if_pos rfl]
  case keeps =>
    intro a _ t _ ht
    rw [held_releaseStopped]
    split
    · rfl
    · exact ht

/-- A hold that has ended. -/
structure GroupLeft (m : Nat) (s u : State) : Prop where
  state : u.shows (fMG_STAT_state m) = 0
  flag : u.shows (fMG_IRQ_RAW_safe_out m) = 1
  bit : u.shows (fMG_TRIP_STAT_cmd_ref m) = s.shows (fMG_TRIP_STAT_cmd_ref m)
  legs : u.leg = s.leg
  told : u.sage.inbox = s.sage.inbox ++ [⟨28, nOther m, false⟩]

theorem groupLeft_leaveSafe (releasing : (s.mg m).releasing = true) (free : ∀ n ∈ s.members m, (s.leg n).held = 0) :
    GroupLeft m s (leaveSafe m s) := by
  have all : (s.members m).all (fun n => (s.leg n).held == 0) = true := List.all_eq_true.mpr fun n hn => by simp [free n hn]
  have leaves : ∃ g ls y, y = (((s.putMg m g).put (fMG_STAT_state m) 0).raise (fMG_IRQ_RAW_safe_out m)).sageEvt 28 (nOther m) ∧
      leaveSafe m s = hintChange ls y := by
    unfold leaveSafe
    rw [releasing, all]
    exact ⟨_, _, _, rfl, rfl⟩
  obtain ⟨g, ls, y, ey, e⟩ := leaves
  have hint := touch_hintChange (Sub.refl _) ls y (Touch.rfl' _ y)
  rw [← e] at hint
  have stat : y.shows (fMG_STAT_state m) = 0 := by
    rw [ey, sageEvt_shows]
    exact (shows_put_ne _ _ (mg_ne m (by decide))).trans (shows_put _ _ _ (by simp))
  have out : y.shows (fMG_IRQ_RAW_safe_out m) = 1 := by
    rw [ey, sageEvt_shows]
    exact shows_raise _ _ (by decide)
  have bit : y.shows (fMG_TRIP_STAT_cmd_ref m) = s.shows (fMG_TRIP_STAT_cmd_ref m) := by
    rw [ey, sageEvt_shows]
    exact (shows_put_ne _ _ (mg_ne m (by decide))).trans (shows_put_ne _ _ (mg_ne m (by decide)))
  have told : y.sage.inbox = s.sage.inbox ++ [⟨28, nOther m, false⟩] := by
    rw [ey, sageEvt_inbox]
    rfl
  have legs : y.leg = s.leg := by
    rw [ey]
    rfl
  exact {
    state := (shows_of_touch (f := fMG_STAT_state m) hint (page_aMG_STAT m) rfl).trans stat
    flag := (shows_of_touch (f := fMG_IRQ_RAW_safe_out m) hint (page_aMG_IRQ_RAW m) rfl).trans out
    bit := (shows_of_touch (f := fMG_TRIP_STAT_cmd_ref m) hint (page_aMG_TRIP_STAT m) rfl).trans bit
    legs := by rw [leg_of_touch hint rfl, legs]
    told := by rw [inbox_of_touch hint rfl, told] }

/-- What MG_RELEASE does where it is accepted and no leg's timebase runs. -/
structure HoldEnded (m : Nat) (s u : State) : Prop where
  state : u.shows (fMG_STAT_state m) = 0
  flag : u.shows (fMG_IRQ_RAW_safe_out m) = 1
  accepted : u.shows (fMG_TRIP_STAT_cmd_ref m) = 0
  held : ∀ n ∈ s.members m, (u.leg n).held = 0
  told : u.sage.inbox = s.sage.inbox ++ [⟨28, nOther m, false⟩]

theorem holdEnded_softRelease (hold : inHold (s.mgState m) = true) (sage : s.on (fMG_TRIP_STAT_sage_hold m) = false)
    (latched : s.anyLatched m = false) (stopped : ∀ n ∈ s.members m, s.tbgRun (s.legTbg n) = false) :
    HoldEnded m s (softRelease m s) := by
  rw [softRelease_stopped hold sage latched stopped]
  obtain ⟨y, ey⟩ : ∃ y, y = (releaseBegun m s).each (s.members m) releaseStopped := ⟨_, rfl⟩
  have stands : SafeStands (releaseBegun m s) y := ey ▸ (SafeStands.refl _).each fun n _ hy => hy.releaseStopped n
  have kept : Touch 0x9000000008 (releaseBegun m s) y :=
    ey ▸ (Touch.rfl' _ _).each_ fun n w hw => touch_releaseStopped (Sub.refl _) n w hw
  have free : ∀ n ∈ s.members m, (y.leg n).held = 0 := fun n hn => by rw [ey, held_allReleased _ hn]
  have members : y.members = s.members := stands.members.trans (commandStands_releaseBegun m s).members
  have releasing : (y.mg m).releasing = true := by
    rw [mg_of_touch kept rfl]
    exact congrArg Mg.releasing (mg_putMg (safeAccept m s) m _)
  have left := groupLeft_leaveSafe releasing (by rw [members]; exact free)
  rw [← ey]
  exact {
    state := left.state
    flag := left.flag
    accepted := left.bit.trans ((stands.shows (f := fMG_TRIP_STAT_cmd_ref m) (page_aMG_TRIP_STAT m) (mg_high m (by decide))).trans
      (accept_shows m s))
    held := fun n hn => by rw [left.legs, free n hn]
    told := by
      rw [left.told, inbox_of_touch kept rfl]
      rfl }

/-! The commands. -/

theorem safeRefused_softDischarge {mode : Nat} (h : inHold (s.mgState m) = false ∨ s.disRefused m mode = true) :
    SafeRefused m s (softDischarge m mode s) := by
  rw [softDischarge_refused h]
  exact safeRefused_safeRefuse m s

/-- A command that both discharges share runs on a state the fabric granted. -/
theorem runs_discharge {c : Instr} {r : Req} {m : Fin 32} {mode : Nat} (run : exec c s = cmdAt r (aMG_SAFE_CMD m.val) (softDischarge m.val mode) s)
    (hm : mode < 8) (hg : s.grants r (aMG_SAFE_CMD m.val) true = true) (hold : inHold (s.mgState m.val) = true)
    (trip : (s.mg m.val).tripTick = none) (free : s.decided m.val = false) (allowed : s.disRefused m.val mode = false) :
    Runs c s (Discharged m.val mode s) := by
  refine runs_thyme run (blockAt_mgSafeCmd m.val) hg fun l w b => ?_
  have begun := discharged_softDischarge (s := ((s.setLinks l).setWardens w).setBus b) hm hold trip free allowed
  exact ⟨begun.state, begun.dis, begun.start, begun.stat, begun.accepted, begun.told⟩

theorem runs_discharge_refused {c : Instr} {r : Req} {m : Fin 32} {mode : Nat}
    (run : exec c s = cmdAt r (aMG_SAFE_CMD m.val) (softDischarge m.val mode) s) (hg : s.grants r (aMG_SAFE_CMD m.val) true = true)
    (h : inHold (s.mgState m.val) = false ∨ s.disRefused m.val mode = true) : Runs c s (SafeRefused m.val s) := by
  refine runs_thyme run (blockAt_mgSafeCmd m.val) hg fun l w b => ?_
  have refused := safeRefused_softDischarge (s := ((s.setLinks l).setWardens w).setBus b) (m := m.val) (mode := mode) h
  exact ⟨refused.bit, refused.flag, refused.regs, refused.mgs, refused.legs, refused.diss, refused.inbox⟩

theorem runs_mgRelease {r : Req} {m : Fin 32} (hg : s.grants r (aMG_SAFE_CMD m.val) true = true) (hold : inHold (s.mgState m.val) = true)
    (sage : s.on (fMG_TRIP_STAT_sage_hold m.val) = false) (latched : s.anyLatched m.val = false)
    (stopped : ∀ n ∈ s.members m.val, s.tbgRun (s.legTbg n) = false) : Runs (.mgRelease r m) s (HoldEnded m.val s) := by
  refine runs_thyme rfl (blockAt_mgSafeCmd m.val) hg fun l w b => ?_
  have ended := holdEnded_softRelease (s := ((s.setLinks l).setWardens w).setBus b) hold sage latched stopped
  exact ⟨ended.state, ended.flag, ended.accepted, ended.held, ended.told⟩

/-- What a refused RELEASE does: Sage hears of it (R265). -/
structure ReleaseRefused (m : Nat) (s u : State) : Prop where
  mgs : u.mgs = s.mgs
  legs : u.legs = s.legs
  bit : u.shows (fMG_TRIP_STAT_cmd_ref m) = 1
  flag : u.shows (fMG_IRQ_RAW_cmd_ref m) = 1
  told : u.sage.inbox = s.sage.inbox ++ [⟨28, nOther m, false⟩]
  regs : OnlyRegs [aMG_TRIP_STAT m, aMG_IRQ_RAW m] s u

theorem sageEvt_mgs (s : State) (e : Nat) (n : SageName) : (s.sageEvt e n).mgs = s.mgs := rfl
theorem sageEvt_legs (s : State) (e : Nat) (n : SageName) : (s.sageEvt e n).legs = s.legs := rfl

theorem releaseRefused_softRelease (h : inHold (s.mgState m) = false ∨ s.on (fMG_TRIP_STAT_sage_hold m) = true ∨ s.anyLatched m = true) :
    ReleaseRefused m s (softRelease m s) := by
  have refused := safeRefused_safeRefuse m s
  rw [softRelease_refused h]
  refine ⟨(sageEvt_mgs _ _ _).trans refused.mgs, (sageEvt_legs _ _ _).trans refused.legs, ?bit, ?flag, ?told,
    fun a ha => (sageEvt_rd _ _ _ a).trans (refused.regs a ha)⟩
  case bit => exact (sageEvt_shows _ _ _ _).trans refused.bit
  case flag => exact (sageEvt_shows _ _ _ _).trans refused.flag
  case told => rw [sageEvt_inbox, refused.inbox]

theorem runs_mgRelease_refused {r : Req} {m : Fin 32} (hg : s.grants r (aMG_SAFE_CMD m.val) true = true)
    (h : inHold (s.mgState m.val) = false ∨ s.on (fMG_TRIP_STAT_sage_hold m.val) = true ∨ s.anyLatched m.val = true) :
    Runs (.mgRelease r m) s (ReleaseRefused m.val s) := by
  refine runs_thyme rfl (blockAt_mgSafeCmd m.val) hg fun l w b => ?_
  have refused := releaseRefused_softRelease (s := ((s.setLinks l).setWardens w).setBus b) h
  exact ⟨refused.mgs, refused.legs, refused.bit, refused.flag, refused.told, refused.regs⟩

/-- Settles O32: a safe-state command of software is refused, or changes nothing where the group is in the state, or enters the state,
begins the discharge or ends the hold. -/
theorem safeCommands : Obligations.SafeCommands := by
  unfold Obligations.SafeCommands
  refine ⟨?pulseOff, ?stays, ?asc, ?grid, ?bleed, ?noBleed, ?winding, ?noWinding, ?release, ?noRelease⟩
  case pulseOff =>
    intro r m s hg run free copies
    obtain ⟨u, e, entered, accepted⟩ := runs_pulseOff hg run free copies
    exact ⟨u, e, entered.state, entered.sel, entered.fallback, entered.count, entered.time, entered.flag, accepted, entered.held, entered.told⟩
  case stays => exact fun r m s hg off stays => runs_pulseOff_stays hg off stays
  case asc =>
    intro r m s hg type run free copies
    obtain ⟨u, e, entered⟩ := runs_asc hg type run free copies
    exact ⟨u, e, entered.state, entered.fallback, entered.request, entered.count, entered.fallbacks⟩
  case grid => exact fun r m s hg grid => runs_asc_refused hg grid
  case bleed =>
    intro r m s hg hold trip free allowed _
    obtain ⟨u, e, begun⟩ := runs_discharge (c := .dischargeBleed r m) rfl (by decide) hg hold trip free allowed
    exact ⟨u, e, begun.state, begun.dis, begun.start, begun.stat, begun.accepted, begun.told⟩
  case noBleed =>
    intro r m s hg h
    obtain ⟨u, e, refused⟩ := runs_discharge_refused (c := .dischargeBleed r m) rfl hg h
    exact ⟨u, e, refused.bit, refused.mgs, refused.diss, refused.regs⟩
  case winding =>
    intro r m s hg hold trip free allowed _
    obtain ⟨u, e, begun⟩ := runs_discharge (c := .dischargeWinding r m) rfl (by decide) hg hold trip free allowed
    exact ⟨u, e, begun.state, begun.dis, begun.start, begun.stat, begun.accepted, begun.told⟩
  case noWinding =>
    intro r m s hg h
    obtain ⟨u, e, refused⟩ := runs_discharge_refused (c := .dischargeWinding r m) rfl hg h
    exact ⟨u, e, refused.bit, refused.mgs, refused.diss, refused.regs⟩
  case release =>
    intro r m s hg hold sage latched stopped _
    obtain ⟨u, e, ended⟩ := runs_mgRelease hg hold sage latched stopped
    exact ⟨u, e, ended.state, ended.flag, ended.accepted, ended.held, ended.told⟩
  case noRelease =>
    intro r m s hg h
    obtain ⟨u, e, refused⟩ := runs_mgRelease_refused hg h
    exact ⟨u, e, refused.mgs, refused.legs, refused.bit, refused.flag, refused.told, refused.regs⟩

end Sys2Proof.Proofs
end

section
/-! PROOFS. O29 fails: a CBC action on a leg whose next window is handed over re-emits that window (07_trips_and_leg_protection.md R242
step 5), and the level the leg is left with is the one at its end. -/
namespace Sys2Proof.Proofs
open Sys2Proof Sys2Proof.Machine Sys2Proof.Laws

variable {x s t u : State} {n m : Nat}

/-! What the handling of events leaves of a leg that no safe state holds. -/

/-- A leg that is not held after it was not held before, and its high side is commanded as it was. -/
def UnheldStands (n : Nat) (s t : State) : Prop := (t.leg n).held = 0 → (s.leg n).held = 0 ∧ (t.leg n).hsOn = (s.leg n).hsOn

theorem UnheldStands.refl (n : Nat) (s : State) : UnheldStands n s s := fun h => ⟨h, rfl⟩

theorem UnheldStands.trans (h : UnheldStands n s t) (k : UnheldStands n t u) : UnheldStands n s u := fun free => by
  obtain ⟨free', level⟩ := k free
  obtain ⟨first, level'⟩ := h free'
  exact ⟨first, level.trans level'⟩

theorem UnheldStands.legs (h : UnheldStands n x s) (same : u.leg n = s.leg n) : UnheldStands n x u :=
  h.trans fun free => by rw [same] at free ⊢; exact ⟨free, rfl⟩

theorem UnheldStands.touch {p : Nat} (h : UnheldStands n x s) (k : Touch p s s → Touch p s u) (legs : has p 36 = false) :
    UnheldStands n x u := h.legs (congrFun (leg_of_touch (k (Touch.rfl' p s)) legs) n)

theorem UnheldStands.ite {c : Prop} [Decidable c] (h : UnheldStands n x s) (k : UnheldStands n x t) :
    UnheldStands n x (if c then s else t) := by
  split
  · exact h
  · exact k

theorem UnheldStands.when {c : Bool} {f : State → State} (h : UnheldStands n x s) (k : UnheldStands n x s → UnheldStands n x (f s)) :
    UnheldStands n x (s.when c f) := by
  unfold State.when
  exact .ite (k h) h

theorem UnheldStands.each {α : Type} {as : List α} {f : α → State → State} (h : UnheldStands n x s)
    (k : ∀ a y, UnheldStands n x y → UnheldStands n x (f a y)) : UnheldStands n x (s.each as f) :=
  each_keeps (fun a _ y hy => k a y hy) h

theorem UnheldStands.retractLeg (h : UnheldStands n x s) (a : Nat) (lim : Option Nat) : UnheldStands n x (retractLeg a lim s) := by
  obtain ⟨p, e⟩ := retractLeg_leg a lim s n
  refine h.trans fun free => ?_
  rw [e] at free ⊢
  exact ⟨free, rfl⟩

theorem UnheldStands.skipLeg (h : UnheldStands n x s) (a : Nat) : UnheldStands n x (skipLeg a s) :=
  h.touch (touch_skipLeg (Sub.refl _) a s) rfl

/-- A leg that takes a state is held. -/
theorem UnheldStands.putHeld {l : Leg} (h : UnheldStands n x s) (a : Nat) (held : l.held ≠ 0) : UnheldStands n x (s.putLeg a l) := by
  by_cases e : a = n
  · intro free
    rw [e, leg_putLeg] at free
    exact absurd free held
  · exact h.legs (leg_putLeg_of_ne _ _ e)

theorem UnheldStands.holdLegs {st : Nat} (h : UnheldStands n x s) (m : Nat) (ls : List Nat) (hst : st ≠ 0) :
    UnheldStands n x (holdLegs m st ls s) :=
  h.each fun a _ hy => ((((hy.retractLeg a none).skipLeg a).putHeld a (by exact hst)).legs rfl)

theorem UnheldStands.enterState {st : Nat} (h : UnheldStands n x s) (m fb req code evt : Nat) (hst : st ≠ 0) :
    UnheldStands n x (enterState m st fb req code evt s) := by
  obtain ⟨g, fin, t, y, z, et, ey, ez, e⟩ := enterState_eq m st fb req code evt s
  have ended : UnheldStands n x t := et ▸ (h.touch (touch_disEnd (Sub.refl _) m 7 s) rfl).touch (touch_putMg (Sub.refl _) _ m g) rfl
  have held : UnheldStands n x y := ey ▸ ((ended.holdLegs m _ hst).each fun a _ hy => (hy.retractLeg a none).skipLeg a).touch
    (touch_forceLegs (Sub.refl _) _ _ _ _ _ _) rfl
  have marked := held.touch (touch_entryMarks (Sub.refl _) m st fb req code evt y) rfl
  have fallen : UnheldStands n x z := ez ▸ marked.legs (by unfold State.leg; rw [fallbackMarks_legs])
  rw [e]
  exact fallen.touch (fun _ => touch_entryEnd _ m z) rfl

theorem select_ne_zero (m req : Nat) (s : State) : (s.select m req).1 ≠ 0 := by
  by_cases asc : req = 1
  · subst asc
    by_cases type : s.mgType m = 2
    · unfold State.select
      rw [if_neg (by decide), if_pos type]
      decide
    · have all : ∀ p ∈ [(1, 0), (2, 0), (1, 1), (2, 2), (3, 4)], p.1 ≠ 0 := by decide
      exact all _ (select_asc s type)
  · unfold State.select
    rw [if_pos asc]
    decide

theorem UnheldStands.takeState (h : UnheldStands n x s) (m req code evt : Nat) : UnheldStands n x (takeState m req code evt s) := by
  rw [takeState_eq]
  exact .ite h (h.enterState m _ req code evt (select_ne_zero m req s))

theorem UnheldStands.applyRequest (h : UnheldStands n x s) (m req code evt : Nat) : UnheldStands n x (applyRequest m req code evt s) :=
  .ite h ((h.touch (touch_noteRequest (Sub.refl _) m req code evt s) rfl).takeState m req code evt)

theorem UnheldStands.sageCommand (h : UnheldStands n x s) (m req evt : Nat) : UnheldStands n x (sageCommand m req evt s) := by
  have page : PageIn 0x10002000C00200E (aMG_TRIP_STAT m) := .inl (by rw [page_aMG_TRIP_STAT]; rfl)
  have latched := h.touch (touch_latchGroup (Sub.refl _) (fl := fMG_TRIP_STAT_sage_hold m) page m 0x89
    (s.on (fMG_TRIP_STAT_sage_hold m)) s) rfl
  have shown := latched.legs (leg_put _ (bitFld aSAGE_MG_HOLD m) 1 n)
  exact .ite h (shown.applyRequest m req 0x89 evt)

theorem UnheldStands.handleEvent (h : UnheldStands n x s) (e : SEvt) (gone : List Nat) : UnheldStands n x (handleEvent e gone s).1 := by
  have counted : UnheldStands n x (s.when (decide (e.e < 43)) (fun s => s.incrSat (fSAGE_EVT_CNT_cnt e.e))) := h.when fun h => h.legs rfl
  have noted := counted.touch (touch_noteRecent (Sub.refl _) e _) rfl
  unfold Machine.handleEvent
  dsimp only
  split
  · exact noted
  · refine .when (.when (.when (noted.each fun m _ hy => hy.sageCommand m _ e.e) fun h => ?effects) fun h => ?record) fun h => ?last
    case effects => exact h.touch (touch_eventEffects (Sub.refl _) e.e _) rfl
    case record => exact h.touch (touch_eventRecord (Sub.refl _) e _ _) rfl
    case last => exact h.touch (touch_eventLast (Sub.refl _) e _ _) rfl

theorem unheldStands_settle (n : Nat) (s : State) : UnheldStands n s (settle s) := by
  have events (l : List SEvt) (p : State × List Nat) : UnheldStands n p.1 (l.foldl (fun p e => handleEvent e p.2 p.1) p).1 := by
    induction l generalizing p with
    | nil => exact .refl n _
    | cons e r ih => exact ((UnheldStands.refl n p.1).handleEvent e p.2).trans (ih _)
  have rounds (k : Nat) (s : State) : UnheldStands n s (drain k s) := by
    induction k generalizing s with
    | zero => exact .refl n s
    | succ k ih =>
      unfold drain
      split
      · exact .refl n s
      · have emptied : UnheldStands n s (s.setSage { s.sage with inbox := [] }) := (UnheldStands.refl n s).legs rfl
        exact (emptied.trans (events _ _)).trans (ih _)
  exact rounds 8 s

/-! The counterexample. -/

/-- Leg 0, enabled and complementary, with a CBC source of its own and no limit on the count. -/
def cbcLegSet : State :=
  (((((((State.reset.raise (fLEG_CFG_en 0)).put (fLEG_CFG_mode 0) 2).put (fLEG_CMP_ON_on 0) 64000).put (fLEG_CMP_OFF_off 0)
    128000).put (fLEG_TRIP_CFG_cbc_n 0) 0).raise (fTHY_TRIP_SRC_en 0)).put (fTHY_TRIP_SRC_act 0) 1)

/-- Its group runs, 28000 fine ticks before the boundary at 128000, and the window behind that boundary is handed over. -/
def behindHandOff : State :=
  ((((cbcLegSet.raise (fTBG_STAT_run 0)).putTbg 0
    { nextB := 128000, hB := 256000, taken := [{ b := 128000, w := 128000, e := 256000, p := 128000 }] }).putLeg 0
    { hsOn := true, hEnd := true, pend := [⟨128000, false, false, 0⟩, ⟨192000, false, true, 0⟩] }).setNow 100000)

/-- The window behind the boundary is emitted anew, and its level at the end stands in the leg. -/
theorem behindHandOff_level : ((settle (sourceOn (.routed 0) behindHandOff)).leg 0).held = 0 ∧
    ((settle (sourceOn (.routed 0) behindHandOff)).leg 0).hsOn = true := by decide +kernel

/-- Refutes O29: behind a hand-off, a CBC action does not leave the high side commanded off, for the window handed over is emitted anew. -/
theorem not_tripSources : ¬ Obligations.TripSources := by
  unfold Obligations.TripSources
  rintro ⟨-, -, -, -, -, cbc⟩
  obtain ⟨u, run, -, off, -⟩ := cbc 0 0 behindHandOff (by decide +kernel) (by decide +kernel) (by decide +kernel) (by decide +kernel)
    (by decide +kernel) (by decide +kernel) (by decide +kernel) (by decide +kernel) (by decide +kernel) (by decide +kernel)
    (by decide +kernel) (by decide +kernel)
  have settled : settle (sourceOn (.routed 0) behindHandOff) = settle u := Host.Outcome.next.inj run
  obtain ⟨free, on⟩ := behindHandOff_level
  rw [settled] at free on
  obtain ⟨-, level⟩ := unheldStands_settle 0 u free
  rw [on] at level
  exact absurd (level.trans off) (by decide)

end Sys2Proof.Proofs
end

section
/-! PROOFS. Satellites: the links, slots and local time of a satellite after its updates (08_ndotar_drive_link.md R281, R286, R313). -/
namespace Sys2Proof.Proofs
open Sys2Proof Sys2Proof.Machine Sys2Proof.Laws

variable {x : Sat} {b : Bool} {i j : Nat}

/-! Links. -/

@[simp] theorem satLink_putLink (x : Sat) (b : Bool) (l : SLink) : (x.putLink b l).link b = l := by cases b <;> rfl
@[simp] theorem satLink_putLink_not (x : Sat) (b : Bool) (l : SLink) : (x.putLink b l).link (!b) = x.link (!b) := by cases b <;> rfl
@[simp] theorem putLink_putLink (x : Sat) (b : Bool) (k l : SLink) : (x.putLink b k).putLink b l = x.putLink b l := by cases b <;> rfl
@[simp] theorem putLink_link (x : Sat) (b : Bool) : x.putLink b (x.link b) = x := by cases b <;> rfl
@[simp] theorem putLink_slots (x : Sat) (b : Bool) (l : SLink) : (x.putLink b l).slots = x.slots := by cases b <;> rfl
@[simp] theorem putLink_slot (x : Sat) (b : Bool) (l : SLink) (i : Nat) : (x.putLink b l).slot i = x.slot i := by cases b <;> rfl
@[simp] theorem putLink_tokB (x : Sat) (b : Bool) (l : SLink) : (x.putLink b l).tokB = x.tokB := by cases b <;> rfl
@[simp] theorem putLink_ofs (x : Sat) (b : Bool) (l : SLink) : (x.putLink b l).ofs = x.ofs := by cases b <;> rfl
@[simp] theorem putLink_corr (x : Sat) (b : Bool) (l : SLink) : (x.putLink b l).corr = x.corr := by cases b <;> rfl
@[simp] theorem putLink_slewAt (x : Sat) (b : Bool) (l : SLink) : (x.putLink b l).slewAt = x.slewAt := by cases b <;> rfl
@[simp] theorem putLink_local (x : Sat) (b : Bool) (l : SLink) (t : Nat) : (x.putLink b l).local t = x.local t := by cases b <;> rfl
@[simp] theorem putLink_nSlots (x : Sat) (b : Bool) (l : SLink) : (x.putLink b l).nSlots = x.nSlots := by cases b <;> rfl

/-! Slots. -/

@[simp] theorem putSlot_link (x : Sat) (i : Nat) (v : Slot) (b : Bool) : (x.putSlot i v).link b = x.link b := rfl
@[simp] theorem putSlot_tokB (x : Sat) (i : Nat) (v : Slot) : (x.putSlot i v).tokB = x.tokB := rfl

@[simp] theorem length_setAt {α : Type} (l : List α) (i : Nat) (v : α) : (setAt l i v).length = l.length := by
  induction l generalizing i with
  | nil => rfl
  | cons a r ih => cases i <;> simp [setAt, ih]

theorem getD_setAt {α : Type} {l : List α} {i : Nat} (h : i < l.length) (v d : α) (j : Nat) :
    (setAt l i v).getD j d = if i = j then v else l.getD j d := by
  induction l generalizing i j with
  | nil => cases h
  | cons a r ih =>
    cases i with
    | zero => cases j <;> simp [setAt]
    | succ i => cases j with
      | zero => simp [setAt]
      | succ j => simpa [setAt] using ih (by simpa using h) j

@[simp] theorem putSlot_slots_length (x : Sat) (i : Nat) (v : Slot) : (x.putSlot i v).slots.length = x.slots.length :=
  length_setAt _ _ _

theorem slot_putSlot (h : i < x.slots.length) (v : Slot) (j : Nat) : (x.putSlot i v).slot j = if i = j then v else x.slot j :=
  getD_setAt h v {} j

theorem slot_putSlot_same (h : i < x.slots.length) (v : Slot) : (x.putSlot i v).slot i = v := by
  rw [slot_putSlot h, if_pos rfl]

theorem slot_putSlot_ne (h : i < x.slots.length) (v : Slot) (ne : i ≠ j) : (x.putSlot i v).slot j = x.slot j := by
  rw [slot_putSlot h, if_neg ne]

theorem fin_lt_slots (four : x.slots.length = 4) (i : Fin 4) : i.val < x.slots.length := by rw [four]; exact i.isLt

/-! Cells that become ready, and credits that fall due (R286, R291). -/

/-- A link on which cells became ready. -/
def withReady (l : SLink) (r : List RCell) : SLink := { l with lk := { l.lk with ready := l.lk.ready ++ r } }

@[simp] theorem withReady_nil (l : SLink) : withReady l [] = l := by
  unfold withReady
  rw [List.append_nil]

theorem send_eq (x : Sat) (b : Bool) (c : Cell) : x.send b c = x.putLink b (withReady (x.link b) [{ cell := c }]) := rfl

theorem status_eq (x : Sat) (b : Bool) : ∃ r, x.status b = x.putLink b (withReady (x.link b) r) := by
  unfold Sat.status
  split
  · exact ⟨[], by simp⟩
  · exact ⟨_, send_eq x b _⟩

theorem status_link (x : Sat) (b : Bool) : ∃ r, (x.status b).link b = withReady (x.link b) r := by
  obtain ⟨r, e⟩ := status_eq x b
  exact ⟨r, by rw [e, satLink_putLink]⟩

@[simp] theorem status_slot (x : Sat) (b : Bool) (i : Nat) : (x.status b).slot i = x.slot i := by
  obtain ⟨r, e⟩ := status_eq x b
  rw [e, putLink_slot]

theorem credit_eq (x : Sat) (b : Bool) (n : Nat) :
    ∃ r, x.credit b n = x.putLink b (withReady { x.link b with due := (x.link b).due + n } r) := by
  unfold Sat.credit
  split
  · next h =>
    subst h
    exact ⟨[], by rw [withReady_nil]; exact (putLink_link x b).symm⟩
  · obtain ⟨r, e⟩ := status_eq (x.putLink b { x.link b with due := (x.link b).due + n }) b
    exact ⟨r, by rw [e]; simp⟩

theorem result_eq (x : Sat) (b : Bool) (i : Nat) (e : Edge) (o : EdgeOut) :
    x.result b i e o = x.putLink b (withReady (x.link b) [{ cell := .result e.t i e.ls e.on o }]) := rfl

/-- A RESULT whose credit falls due with it. -/
theorem result_credit (x : Sat) (b : Bool) (i : Nat) (e : Edge) (o : EdgeOut) :
    ∃ r, (x.result b i e o).credit b 1 =
      x.putLink b (withReady { x.link b with due := (x.link b).due + 1 } ({ cell := .result e.t i e.ls e.on o } :: r)) := by
  obtain ⟨r, h⟩ := credit_eq (x.result b i e o) b 1
  exact ⟨r, by rw [h, result_eq]; simp [withReady]⟩

/-! The end of the queue starts the repeats of a slot (R307). -/

theorem repeatFrom_eq (x : Sat) (now i : Nat) : ∃ f r, x.repeatFrom now i = x ∨
    x.repeatFrom now i = x.putSlot i { x.slot i with phBase := f, reps := r } := by
  unfold Sat.repeatFrom
  dsimp only
  split
  · exact ⟨none, [], .inl rfl⟩
  · exact ⟨_, _, .inr rfl⟩

@[simp] theorem repeatFrom_link (x : Sat) (now i : Nat) (b : Bool) : (x.repeatFrom now i).link b = x.link b := by
  obtain ⟨f, r, h | h⟩ := repeatFrom_eq x now i <;> rw [h]
  rfl

@[simp] theorem repeatFrom_tokB (x : Sat) (now i : Nat) : (x.repeatFrom now i).tokB = x.tokB := by
  obtain ⟨f, r, h | h⟩ := repeatFrom_eq x now i <;> rw [h]
  rfl

/-- An entry leaves the queue. -/
theorem leave_link (x : Sat) (b : Bool) (q : QEnt) (now : Nat) : ∃ r, (x.leave b q now).link b =
    withReady { x.link b with queue := (x.link b).queue.erase q, due := (x.link b).due + 1 } r := by
  obtain ⟨r, h⟩ := credit_eq (x.putLink b { x.link b with queue := (x.link b).queue.erase q }) b 1
  exact ⟨r, by unfold Sat.leave; rw [repeatFrom_link, h]; simp⟩

/-! The switches of a slot. -/

@[simp] theorem turnOff_ls (v : Slot) (t : Nat) (d : Drive) : (v.turnOff true t d).ls = false := rfl
@[simp] theorem turnOff_hs (v : Slot) (t : Nat) (d : Drive) : (v.turnOff false t d).hs = false := rfl

end Sys2Proof.Proofs
end

section
/-! PROOFS. Cells that reach a satellite, and the edges it queues, refuses and retracts (08_ndotar_drive_link.md R272, R273, R284 to R293). -/
namespace Sys2Proof.Proofs
open Sys2Proof Sys2Proof.Machine Sys2Proof.Laws

variable {x : Sat} {b : Bool} {i now : Nat} {e : Edge} {h : CellHdr}

/-! A command of a satellite. -/

theorem runs_of_done {c : Instr} {s v : State} {P : State → Prop} (e : exec c s = done v) (p : P v) : Runs c s P := ⟨v, e, p⟩

/-- A command of a satellite changes nothing but the satellite. -/
theorem runs_satDo {c : Instr} {s : State} {p : Nat} {k : Sat → Sat} {P : State → Prop} (e : exec c s = done (satDo p k s))
    (h : ∀ u : State, u.sat p = k (s.satNow p) → P u) : Runs c s (fun u => u = s.putSat p (u.sat p) ∧ P u) := by
  have got : (satDo p k s).sat p = k (s.satNow p) := sat_putSat _ _ _
  exact runs_of_done e ⟨by rw [got]; rfl, h _ got⟩

/-! Cells that arrive (R272, R273, R305). -/

/-- A link port that took a valid cell. -/
def hearing (l : SLink) (ack now : Nat) : SLink := { l with lastValid := now, loss := false, lk := l.lk.acked ack }

/-- A link port that took the next cell in order. -/
def heard (l : SLink) (h : CellHdr) (now : Nat) : SLink :=
  { hearing l h.ack.val now with lk := { l.lk.acked h.ack.val with rxSeq := (l.lk.rxSeq + 1) % 16, nak := false } }

theorem hears_calm (x : Sat) (b : Bool) (ack now : Nat) : x.hears b ack false now = x.putLink b (hearing (x.link b) ack now) := rfl

theorem sequenced_inOrder (next : inOrder h (x.link b).lk = true) (k : Sat → Sat) :
    x.sequenced b h now k = k (x.putLink b (heard (x.link b) h now)) := by
  unfold inOrder at next
  simp only [Bool.and_eq_true, beq_iff_eq, Bool.not_eq_true'] at next
  obtain ⟨seq, calm⟩ := next
  have got : (hearing (x.link b) h.ack.val now).lk.receive h.seq.val = ((heard (x.link b) h now).lk, true) := if_pos seq
  unfold Sat.sequenced
  rw [calm, hears_calm]
  dsimp only
  rw [satLink_putLink, got, putLink_putLink]
  rfl

/-- A sequenced cell that is the next in order has its effect on the satellite that took it. -/
theorem runs_sequenced {c : Instr} {s : State} {p : Nat} {k : Sat → Sat} {P : State → Prop}
    (e : exec c s = done (satDo p (fun x => x.sequenced b h s.now k) s)) (next : inOrder h ((s.satNow p).link b).lk = true)
    (done : ∀ u : State, u.sat p = k ((s.satNow p).putLink b (heard ((s.satNow p).link b) h s.now)) → P u) :
    Runs c s (fun u => u = s.putSat p (u.sat p) ∧ P u) :=
  runs_satDo e fun u got => done u (got.trans (sequenced_inOrder next k))

/-! EDGE (R284, R286, R288, R311). -/

theorem takeEdge_notOwner (other : x.tokB ≠ b) : x.takeEdge b now i e = (x.result b i e .notOwner).credit b 1 := by
  unfold Sat.takeEdge
  exact if_pos (Ne.symm other)

/-- The edge with its time, the moment nearest to local time. -/
def timed (x : Sat) (now : Nat) (e : Edge) : Edge := { e with t := nearest37 (x.local now) e.t }

theorem takeEdge_queues (mine : x.tokB = b) (ahead : x.local now + ns20 < nearest37 (x.local now) e.t) :
    x.takeEdge b now i e = (x.putLink b { x.link b with queue := (x.link b).queue ++
      [{ slot := i, e := timed x now e, arr := x.local now }] }).putSlot i ((x.slot i).entryEnds (timed x now e).t) := by
  unfold Sat.takeEdge
  dsimp only
  rw [if_neg (by simp [mine]), if_pos ahead]
  rfl

/-- What a satellite answers to an edge that comes late. -/
def lateOut (e : Edge) : EdgeOut := if e.on then .lateOn else .lateOff

theorem takeEdge_late (mine : x.tokB = b) (late : nearest37 (x.local now) e.t ≤ x.local now + ns20) : ∃ l r,
    (x.takeEdge b now i e).link b = withReady { x.link b with lateSeen := l, due := (x.link b).due + 1 }
      ({ cell := .result (nearest37 (x.local now) e.t) i e.ls e.on (lateOut e) } :: r) := by
  unfold Sat.takeEdge
  dsimp only
  rw [if_neg (by simp [mine]), if_neg (by omega)]
  have answered (y : Sat) (same : y.link b = x.link b) (l : List (QEnt × EdgeOut)) : ∃ r,
      (((y.putLink b { y.link b with lateSeen := l }).result b i (timed x now e) (lateOut e)).credit b 1).link b =
        withReady { x.link b with lateSeen := l, due := (x.link b).due + 1 }
          ({ cell := .result (nearest37 (x.local now) e.t) i e.ls e.on (lateOut e) } :: r) := by
    obtain ⟨r, answer⟩ := result_credit (y.putLink b { y.link b with lateSeen := l }) b i (timed x now e) (lateOut e)
    refine ⟨r, ?_⟩
    rw [answer, satLink_putLink, satLink_putLink, same]
    rfl
  split
  · exact ⟨_, answered (x.putSlot i ((x.slot i).turnOff e.ls (x.local now) (x.drive e.prof true (x.local now)))) rfl _⟩
  · exact ⟨_, answered x rfl _⟩

/-! RETRACT (R290, R293, R311). -/

theorem takeRetract_ahead {q : QEnt} (mine : x.tokB = b) (queued : (x.link b).queue = [q]) (slot : q.slot = i) (same : e.sameCell q.e = true)
    (ahead : x.local now + ns20 < q.e.t) : x.takeRetract b now i e = (x.result b i e .retracted).leave b q now := by
  unfold Sat.takeRetract
  dsimp only
  rw [if_neg (by simp [mine]), queued]
  simp [slot, same, ahead]

theorem takeRetract_unknown (mine : x.tokB = b) (queued : (x.link b).queue = []) (done : (x.link b).done = [])
    (late : (x.link b).lateSeen = []) : x.takeRetract b now i e = x.result b i e .unknown := by
  unfold Sat.takeRetract
  dsimp only
  rw [if_neg (by simp [mine]), queued, done, late]
  rfl

/-! FORCE (R294, R295, R311). -/

/-- A slot that a FORCE holds off without end: both switches off, the hold begun at a local time. -/
def ForcedOff (t i : Nat) (x : Sat) : Prop :=
  (x.slot i).hs = false ∧ (x.slot i).ls = false ∧ (x.slot i).hold = some { pat := 0, fin := none, start := t }

@[simp] theorem forceSlot_link (x : Sat) (now i pat mode dly fin : Nat) (b : Bool) :
    (x.forceSlot now i pat mode dly fin).link b = x.link b := by
  unfold Sat.forceSlot
  dsimp only
  split <;> rfl

@[simp] theorem forceSlot_local (x : Sat) (now i pat mode dly fin t : Nat) :
    (x.forceSlot now i pat mode dly fin).local t = x.local t := by
  unfold Sat.forceSlot
  dsimp only
  split <;> rfl

@[simp] theorem forceSlot_slots_length (x : Sat) (now i pat mode dly fin : Nat) :
    (x.forceSlot now i pat mode dly fin).slots.length = x.slots.length := by
  unfold Sat.forceSlot
  dsimp only
  split <;> exact putSlot_slots_length _ _ _

theorem forceSlot_slot_ne {j pat mode dly fin : Nat} (lt : j < x.slots.length) (ne : j ≠ i) :
    (x.forceSlot now j pat mode dly fin).slot i = x.slot i := by
  unfold Sat.forceSlot
  dsimp only
  split <;> exact slot_putSlot_ne lt _ ne

theorem forcedOff_forceSlot {dly fin : Nat} (lt : i < x.slots.length) : ForcedOff (x.local now) i (x.forceSlot now i 0 1 dly fin) := by
  unfold ForcedOff Sat.forceSlot
  dsimp only
  rw [if_neg (by decide), slot_putSlot_same lt]
  exact ⟨rfl, rfl, rfl⟩

theorem ForcedOff.forceSlot {j dly fin : Nat} (h : ForcedOff (x.local now) i x) (lt : j < x.slots.length) :
    ForcedOff (x.local now) i (x.forceSlot now j 0 1 dly fin) := by
  by_cases e : j = i
  · subst e
    exact forcedOff_forceSlot lt
  · unfold ForcedOff
    rw [forceSlot_slot_ne lt e]
    exact h

/-- The slots of a list are forced off one after the other. -/
theorem forcedOff_foldl {dly fin : Nat} {l : List Nat} (hl : ∀ j ∈ l, j < x.slots.length) (hi : i ∈ l) :
    ForcedOff (x.local now) i (l.foldl (fun x j => x.forceSlot now j 0 1 dly fin) x) := by
  have same (l : List Nat) : (l.foldl (fun x j => x.forceSlot now j 0 1 dly fin) x).slots.length = x.slots.length ∧
      (l.foldl (fun x j => x.forceSlot now j 0 1 dly fin) x).local now = x.local now :=
    List.foldlRecOn l _ (motive := fun y => y.slots.length = x.slots.length ∧ y.local now = x.local now) ⟨rfl, rfl⟩ fun y hy j _ =>
      ⟨(forceSlot_slots_length y now j 0 1 dly fin).trans hy.1, (forceSlot_local y now j 0 1 dly fin now).trans hy.2⟩
  obtain ⟨before, after, rfl⟩ := List.append_of_mem hi
  rw [List.foldl_append, List.foldl_cons]
  obtain ⟨len, time⟩ := same before
  generalize before.foldl (fun x j => x.forceSlot now j 0 1 dly fin) x = y at len time
  have off := List.foldlRecOn after (fun x j => x.forceSlot now j 0 1 dly fin)
    (motive := fun z => (z.slots.length = x.slots.length ∧ z.local now = x.local now) ∧ ForcedOff (z.local now) i z)
    (b := y.forceSlot now i 0 1 dly fin) ⟨by simp [len, time], by simpa using forcedOff_forceSlot (now := now) (len ▸ hl i hi)⟩
    fun z hz j hj => ⟨by simp [hz.1.1, hz.1.2], by simpa using hz.2.forceSlot (hz.1.1 ▸ hl j (by simp [hj]))⟩
  exact off.1.2 ▸ off.2

theorem foldl_forceSlot_link (x : Sat) (now dly fin : Nat) (l : List Nat) (b : Bool) :
    (l.foldl (fun x j => x.forceSlot now j 0 1 dly fin) x).link b = x.link b :=
  List.foldlRecOn l _ (motive := fun y => y.link b = x.link b) rfl fun y hy j _ => (forceSlot_link y now j 0 1 dly fin b).trans hy

theorem mem_bitsOf {n m i : Nat} : i ∈ bitsOf n m ↔ i < n ∧ m / 2 ^ i % 2 = 1 := by
  simp [bitsOf]

theorem takeForce_notOwner (other : x.tokB ≠ b) (id mask pat mode dly fin : Nat) :
    x.takeForce b now id mask pat mode dly fin = x := if_pos (Ne.symm other)

/-- A FORCE without end that no copy came before turns the switches of its slots off and holds them. -/
theorem takeForce_holds {mask : Nat} (mine : x.tokB = b) (none : (x.link b).lastForce = none) (four : x.slots.length = 4)
    (here : i ∈ bitsOf 4 mask) (id dly fin : Nat) : ∃ r,
      ForcedOff (x.local now) i (x.takeForce b now id mask 0 1 dly fin) ∧
      (x.takeForce b now id mask 0 1 dly fin).link b = withReady { x.link b with
        fid := some (id % 16), lastForce := some (.force (id % 16) mask 0 true dly (fin % 2 ^ 26)) } r := by
  have forced : ForcedOff (x.local now) i ((bitsOf 4 mask).foldl (fun x j => x.forceSlot now j 0 1 dly fin) x) :=
    forcedOff_foldl (fun j hj => by have := mem_bitsOf.mp hj; omega) here
  have same := foldl_forceSlot_link x now dly fin (bitsOf 4 mask) b
  unfold Sat.takeForce
  dsimp only
  rw [if_neg (by simp [mine]), if_neg (by simp [none])]
  simp only [Nat.zero_div, Nat.zero_mod, Nat.reduceMod, beq_self_eq_true]
  generalize (bitsOf 4 mask).foldl (fun x j => x.forceSlot now j 0 1 dly fin) x = y at forced same ⊢
  obtain ⟨r, e⟩ := status_link (y.putLink b { y.link b with
    fid := some (id % 16), lastForce := some (.force (id % 16) mask 0 true dly (fin % 2 ^ 26)) }) b
  refine ⟨r, ?held, ?link⟩
  case held =>
    unfold ForcedOff
    simp only [status_slot, putLink_slot]
    exact forced
  case link =>
    refine e.trans ?_
    rw [satLink_putLink, same]

end Sys2Proof.Proofs
end

section
/-! PROOFS. O36: edges, retractions and FORCE cells at a satellite (08_ndotar_drive_link.md R273, R284 to R297, R311). -/
namespace Sys2Proof.Proofs
open Sys2Proof Sys2Proof.Machine Sys2Proof.Laws

/-- Settles O36: a cell in order is taken, then an edge is queued, refused or late, a retraction finds its edge or none, and a FORCE holds
each slot of its mask. -/
theorem satelliteEdges : Obligations.SatelliteEdges := by
  unfold Obligations.SatelliteEdges
  refine ⟨?queued, ?notOwner, ?late, ?retracted, ?unknown, ?force, ?noForce, ?sample⟩
  case queued =>
    intro p y h t i ls on prof s next mine ahead
    refine runs_sequenced rfl next fun u got => ?_
    rw [takeEdge_queues (by simpa using mine) (by simpa using ahead)] at got
    rw [got]
    simp [timed, heard, hearing]
  case notOwner =>
    intro p y h t i ls on prof s next other
    refine runs_sequenced rfl next fun u got => ?_
    rw [takeEdge_notOwner (by simpa using other)] at got
    obtain ⟨r, e⟩ := result_credit ((s.satNow p.val).putLink (satB y) (heard ((s.satNow p.val).link (satB y)) h s.now)) (satB y) i.val
      { t := t, ls := ls, on := on, prof := prof.val } .notOwner
    rw [got, e]
    simp [withReady, heard, hearing]
  case late =>
    intro p y h t i ls on prof s next mine late
    refine runs_sequenced rfl next fun u got => ?_
    obtain ⟨l, r, e⟩ := takeEdge_late (x := (s.satNow p.val).putLink (satB y) (heard ((s.satNow p.val).link (satB y)) h s.now))
      (now := s.now) (i := i.val) (e := { t := t, ls := ls, on := on, prof := prof.val }) (by simpa using mine) (by simpa using late)
    rw [got, e]
    simp [withReady, heard, hearing, lateOut]
  case retracted =>
    intro p y h i ls on q s next mine queued slot side level ahead
    refine runs_sequenced rfl next fun u got => ?_
    rw [takeRetract_ahead (q := q) (by simpa using mine) (by simpa [heard, hearing] using queued) slot (by simp [Edge.sameCell, side, level])
      (by simpa using ahead)] at got
    obtain ⟨r, e⟩ := leave_link (((s.satNow p.val).putLink (satB y) (heard ((s.satNow p.val).link (satB y)) h s.now)).result (satB y) i.val
      { t := q.e.t, ls := ls, on := on } .retracted) (satB y) q s.now
    rw [got, e]
    simp [result_eq, withReady, heard, hearing, queued]
  case unknown =>
    intro p y h t i ls on s next mine queued done late
    refine runs_sequenced rfl next fun u got => ?_
    rw [takeRetract_unknown (by simpa using mine) (by simpa [heard, hearing] using queued) (by simpa [heard, hearing] using done)
      (by simpa [heard, hearing] using late), result_eq] at got
    rw [got]
    simp [withReady, heard, hearing, LinkSt.acked]
  case force =>
    intro p y h id mask i dly fin s calm mine here none four
    refine runs_satDo rfl fun u got => ?_
    rw [calm, hears_calm] at got
    obtain ⟨r, off, e⟩ := takeForce_holds (x := (s.satNow p.val).putLink (satB y) (hearing ((s.satNow p.val).link (satB y)) h.ack.val s.now))
      (now := s.now) (b := satB y) (i := i.val) (by simpa using mine) (by simpa [hearing] using none) (by simpa using four)
      (mem_bitsOf.mpr ⟨i.isLt, here⟩) id (dly % 512) fin
    obtain ⟨hs, ls, hold⟩ := off
    rw [putLink_local] at hold
    rw [got]
    exact ⟨hs, ls, hold, by rw [e]; rfl, by rw [e]; simp [withReady, hearing]⟩
  case noForce =>
    intro p y h id mask pat mode dly fin s calm other
    refine runs_satDo rfl fun u got => ?_
    rw [calm, hears_calm, takeForce_notOwner (by simpa using other)] at got
    rw [got, putLink_slots]
  case sample =>
    intro p y h t sm qm chk s next ahead
    refine runs_sequenced rfl next fun u got => ?_
    rw [got]
    simp [heard, hearing, Nat.not_le.mpr ahead]

end Sys2Proof.Proofs
end

section
/-! PROOFS. Time transfer, hints, registers and the token at a satellite (08_ndotar_drive_link.md R281, R283, R306, R307, R310 to R313). -/
namespace Sys2Proof.Proofs
open Sys2Proof Sys2Proof.Machine Sys2Proof.Laws

variable {x : Sat} {b : Bool} {i now : Nat}

/-! Local time (R283). -/

theorem local_of_set (x : Sat) (t now : Nat) : Sat.local { x with ofs := (t : Int) - now, corr := 0, slewAt := now } now = t := by
  simp [Sat.local, Sat.offset, clampI]

/-! Slots that each take a value of their own. -/

theorem foldl_putSlot_slot_of_notMem {f : Nat → Slot → Slot} {l : List Nat} (hl : ∀ j ∈ l, j < x.slots.length) (hi : i ∉ l) :
    (l.foldl (fun x j => x.putSlot j (f j (x.slot j))) x).slot i = x.slot i := by
  induction l generalizing x with
  | nil => rfl
  | cons j r ih =>
    simp only [List.mem_cons, not_or] at hi
    refine (ih (fun k hk => ?_) hi.2).trans (slot_putSlot_ne (hl j (by simp)) _ (Ne.symm hi.1))
    rw [putSlot_slots_length]
    exact hl k (by simp [hk])

theorem foldl_putSlot_slot {f : Nat → Slot → Slot} {l : List Nat} (nodup : l.Nodup) (hl : ∀ j ∈ l, j < x.slots.length) (hi : i ∈ l) :
    (l.foldl (fun x j => x.putSlot j (f j (x.slot j))) x).slot i = f i (x.slot i) := by
  induction l generalizing x with
  | nil => cases hi
  | cons j r ih =>
    obtain ⟨fresh, nodup⟩ := List.nodup_cons.mp nodup
    have lt : j < x.slots.length := hl j (by simp)
    have rest : ∀ k ∈ r, k < (x.putSlot j (f j (x.slot j))).slots.length := fun k hk => by
      rw [putSlot_slots_length]
      exact hl k (by simp [hk])
    by_cases e : i = j
    · subst e
      exact (foldl_putSlot_slot_of_notMem rest fresh).trans (slot_putSlot_same lt _)
    · refine (ih nodup rest (by simpa [e] using hi)).trans ?_
      rw [slot_putSlot_ne lt _ (Ne.symm e)]

/-! Registers (R313). -/

/-- What a read answers does not depend on the cells of the link. -/
theorem cfgRead_heard (x : Sat) (b : Bool) (h : CellHdr) (now a : Nat) :
    (x.putLink b (heard (x.link b) h now)).cfgRead b a = x.cfgRead b a := by
  cases b <;> rfl

/-! The pattern hold leaves the links and the token (R307). -/

theorem patternSlot_link (x : Sat) (now i : Nat) (b : Bool) : (x.patternSlot now i).link b = x.link b := by
  unfold Sat.patternSlot
  dsimp only
  split
  · rfl
  · split
    · rfl
    · rw [repeatFrom_link, putSlot_link]

theorem patternSlot_tokB (x : Sat) (now i : Nat) : (x.patternSlot now i).tokB = x.tokB := by
  unfold Sat.patternSlot
  dsimp only
  split
  · rfl
  · split
    · rfl
    · rw [repeatFrom_tokB, putSlot_tokB]

@[simp] theorem pattern_link (x : Sat) (now : Nat) (b : Bool) : (x.pattern now).link b = x.link b :=
  List.foldlRecOn [0, 1, 2, 3] _ (motive := fun y => y.link b = x.link b) rfl fun y hy i _ => (patternSlot_link y now i b).trans hy

@[simp] theorem pattern_tokB (x : Sat) (now : Nat) : (x.pattern now).tokB = x.tokB :=
  List.foldlRecOn [0, 1, 2, 3] _ (motive := fun y => y.tokB = x.tokB) rfl fun y hy i _ => (patternSlot_tokB y now i).trans hy

/-! The token (R310, R311). -/

theorem foldl_result_eq (x : Sat) (b : Bool) (l : List QEnt) :
    ∃ r, l.foldl (fun x e => x.result b e.slot e.e .notOwner) x = x.putLink b (withReady (x.link b) r) := by
  induction l generalizing x with
  | nil => exact ⟨[], by simp⟩
  | cons q t ih =>
    obtain ⟨r, e⟩ := ih (x.result b q.slot q.e .notOwner)
    exact ⟨_, e.trans (by rw [result_eq, satLink_putLink, putLink_putLink]; simp only [withReady, List.append_assoc]; rfl)⟩

/-- The port that gives the token away answers its entries and empties its queue. -/
theorem transfer_eq (x : Sat) (now : Nat) : ∃ n r, x.transfer now =
    Sat.pattern { x.putLink x.tokB (withReady { x.link x.tokB with queue := [], due := n } r) with tokB := !x.tokB } now := by
  obtain ⟨r, answered⟩ := foldl_result_eq x x.tokB (x.link x.tokB).queue
  unfold Sat.transfer
  dsimp only
  rw [answered]
  obtain ⟨r', credited⟩ := credit_eq ((x.putLink x.tokB (withReady (x.link x.tokB) r)).putLink x.tokB
    { (x.putLink x.tokB (withReady (x.link x.tokB) r)).link x.tokB with queue := [] }) x.tokB (x.link x.tokB).queue.length
  rw [credited]
  simp only [satLink_putLink, putLink_putLink]
  exact ⟨_, r ++ r', by simp only [withReady, List.append_assoc]; rfl⟩

@[simp] theorem transfer_tokB (x : Sat) (now : Nat) : (x.transfer now).tokB = !x.tokB := by
  obtain ⟨n, r, e⟩ := transfer_eq x now
  rw [e, pattern_tokB]

theorem transfer_queue (x : Sat) (now : Nat) : ((x.transfer now).link x.tokB).queue = [] := by
  obtain ⟨n, r, e⟩ := transfer_eq x now
  rw [e, pattern_link]
  exact congrArg SLink.queue (satLink_putLink x x.tokB _)

theorem token_moves {op : Nat} (h : op = 1 ∧ x.tokB ≠ b ∧ x.holder.loss = true ∨ op = 2 ∧ x.tokB = b ∧ (x.link (!b)).loss = false) :
    x.token b op now = (x.transfer now).send b (.tokenRsp 1 (!x.tokB)) := by
  unfold Sat.token
  dsimp only
  obtain ⟨rfl, other, lost⟩ | ⟨rfl, mine, live⟩ := h
  · simp [other, lost]
  · simp [mine, live]

theorem token_denied (live : x.holder.loss = false) : x.token b 1 now = x.send b (.tokenRsp 2 x.tokB) := by
  unfold Sat.token
  simp [live]

theorem token_query (x : Sat) (b : Bool) (now : Nat) : x.token b 3 now = x.send b (.tokenRsp 3 x.tokB) := rfl

end Sys2Proof.Proofs
end

section
/-! PROOFS. O37: time transfer, hints, register accesses and tokens at a satellite (08_ndotar_drive_link.md R281, R283, R301, R306, R310 to R313). -/
namespace Sys2Proof.Proofs
open Sys2Proof Sys2Proof.Machine Sys2Proof.Laws

/-- A hint for four slots gives the slot of each its own reaction and hold (R306). -/
def hinted (react hold i : Nat) (v : Slot) : Slot :=
  { v with react := if react / 4 ^ i % 4 = 3 then 0 else react / 4 ^ i % 4, holdEn := hold / 2 ^ i % 2 == 1 }

theorem hinted_slot {x : Sat} (four : x.slots.length = 4) (react hold : Nat) (i : Fin 4) :
    ([0, 1, 2, 3].foldl (fun u j => u.putSlot j (hinted react hold j (u.slot j))) x).slot i.val = hinted react hold i.val (x.slot i.val) :=
  foldl_putSlot_slot (by decide) (fun j hj => by have : j ∈ List.range 4 := hj; rw [four]; exact List.mem_range.mp this)
    (List.mem_range.mpr i.isLt : i.val ∈ List.range 4)

/-- The answer of a CLAIM or GIVE that moved the token is among the cells of the port that asked. -/
theorem mem_ready_send (x : Sat) (b : Bool) (c : Cell) : ({ cell := c } : RCell) ∈ ((x.send b c).link b).lk.ready := by
  rw [send_eq, satLink_putLink]
  simp [withReady]

/-- Settles O37: time, hints and registers are read off the cell's own effect, and the token moves where R311 lets it and stays elsewhere. -/
theorem satelliteControl : Obligations.SatelliteControl := by
  unfold Obligations.SatelliteControl
  refine ⟨?probe, ?adjust, ?set, ?noSet, ?react, ?period, ?write, ?read, ?claim, ?denied, ?give, ?query⟩
  case probe =>
    intro p y id s
    refine runs_satDo rfl fun u got => ?_
    rw [got, send_eq]
    simp [withReady]
  case adjust =>
    intro p y corr rate s
    refine runs_satDo rfl fun u got => ?_
    rw [got]
    simp [Sat.settleTime]
  case set =>
    intro p y t s tset noneA noneB
    refine runs_satDo rfl fun u got => ?_
    rw [if_pos (by cases satB y <;> simp [tset, Sat.putLink, Sat.link, noneA, noneB])] at got
    rw [got, local_of_set]
  case noSet =>
    intro p y t s other
    refine runs_satDo rfl fun u got => ?_
    rw [if_neg (by simp [other])] at got
    rw [got]
    simp
  case react =>
    intro p y h react hold i s next mine four
    refine runs_sequenced rfl next fun u got => ?_
    rw [if_neg (by simp [mine])] at got
    have slot : (u.sat p.val).slot i.val = hinted react hold.val i.val ((s.satNow p.val).slot i.val) := by
      rw [got]
      exact (hinted_slot (by simpa using four) react hold.val i).trans (by rw [putLink_slot])
    rw [slot]
    exact ⟨rfl, rfl, rfl, rfl⟩
  case period =>
    intro p y h i per s next mine four
    refine runs_sequenced rfl next fun u got => ?_
    rw [if_neg (by simp [mine])] at got
    rw [got, slot_putSlot_same (fin_lt_slots (by simpa using four) i), putLink_slot]
  case write =>
    intro p y h d s next
    refine runs_sequenced rfl next fun u got => ?_
    rw [got]
    simp [Sat.cfgWrite]
  case read =>
    intro p y h a s next
    refine runs_sequenced rfl next fun u got => ?_
    rw [got, Nat.mod_eq_of_lt a.isLt, cfgRead_heard, send_eq]
    simp [withReady, heard, hearing, LinkSt.acked]
  case claim =>
    intro p y h s next other lost
    refine runs_sequenced rfl next fun u got => ?_
    have holds : (s.satNow p.val).tokB = !satB y := Bool.eq_not_of_ne other
    rw [token_moves (.inl ⟨rfl, by simpa using other, by simpa [Sat.holder, holds] using lost⟩)] at got
    rw [got]
    refine ⟨by simp [send_eq, holds], ?_, ?_⟩
    · rw [send_eq, satLink_putLink_not]
      simpa [holds] using transfer_queue ((s.satNow p.val).putLink (satB y) (heard ((s.satNow p.val).link (satB y)) h s.now)) s.now
    · simpa [holds] using mem_ready_send _ (satB y) _
  case denied =>
    intro p y h s next other live
    refine runs_sequenced rfl next fun u got => ?_
    have holds : (s.satNow p.val).tokB = !satB y := Bool.eq_not_of_ne other
    rw [token_denied (by simpa [Sat.holder, holds] using live), send_eq] at got
    rw [got]
    simp [withReady, heard, hearing, LinkSt.acked, holds]
  case give =>
    intro p y h s next mine live
    refine runs_sequenced rfl next fun u got => ?_
    rw [token_moves (.inr ⟨rfl, by simpa using mine, by simpa using live⟩)] at got
    rw [got]
    refine ⟨by simp [send_eq, mine], ?_, ?_⟩
    · rw [send_eq, satLink_putLink]
      simpa [mine, withReady] using transfer_queue ((s.satNow p.val).putLink (satB y) (heard ((s.satNow p.val).link (satB y)) h s.now)) s.now
    · simpa [mine] using mem_ready_send _ (satB y) _
  case query =>
    intro p y h s next
    refine runs_sequenced rfl next fun u got => ?_
    rw [token_query, send_eq] at got
    rw [got]
    simp [withReady, heard, hearing, LinkSt.acked]

end Sys2Proof.Proofs
end

section
/-! PROOFS. O40: a satellite's timers: edges that are due, sample requests, holds that end (08_ndotar_drive_link.md R286, R288, R295 to R303). -/
namespace Sys2Proof.Proofs
open Sys2Proof Sys2Proof.Machine Sys2Proof.Laws

variable {x : Sat} {b : Bool} {i j now : Nat} {q : QEnt}

/-! Commands whose moment comes. -/

/-- No on side of a FORCE or a loss reaction is due. -/
def Idle (x : Sat) : Prop := ∀ v ∈ x.slots, v.onDue = none

theorem Idle.slot (idle : Idle x) (i : Nat) : (x.slot i).onDue = none := by
  unfold Sat.slot
  rw [List.getD_eq_getElem?_getD]
  cases h : x.slots[i]? with
  | none => rfl
  | some v => exact idle v (List.mem_of_getElem? h)

theorem Idle.settle (idle : Idle x) (now : Nat) : x.settle now = x :=
  List.foldlRecOn [0, 1, 2, 3] _ (motive := fun y => y = x) rfl fun y hy i _ => by
    subst hy
    unfold Sat.settleSlot
    rw [idle.slot i]

/-- A command of an idle satellite that waits for its moment changes nothing but the time and the satellite. -/
theorem runs_timed {c : Instr} {s : State} {p t : Nat} {k : Sat → Sat} {P : State → Prop} (idle : Idle (s.sat p))
    (e : exec c s = done (satDo p k (s.reach t)))
    (h : ∀ u : State, u.now = max s.now t → u.free = s.free → OnlyRegs [] s u → u.sat p = k (s.sat p) → P u) : Runs c s P := by
  rw [reach_eq] at e
  refine runs_of_done e (h _ rfl rfl (fun _ _ => rfl) ?_)
  exact (sat_putSat _ _ _).trans (congrArg k (idle.settle _))

/-! The slot of an entry that left the queue. -/

theorem repeatFrom_slot (lt : i < x.slots.length) (now : Nat) : ∃ f r, (x.repeatFrom now i).slot i = { x.slot i with phBase := f, reps := r } := by
  obtain ⟨f, r, h | h⟩ := repeatFrom_eq x now i
  · exact ⟨(x.slot i).phBase, (x.slot i).reps, by rw [h]⟩
  · exact ⟨f, r, by rw [h, slot_putSlot_same lt]⟩

theorem leave_slot (lt : q.slot < x.slots.length) (b : Bool) (now : Nat) : ∃ f r,
    (x.leave b q now).slot q.slot = { x.slot q.slot with phBase := f, reps := r } := by
  obtain ⟨c, credited⟩ := credit_eq (x.putLink b { x.link b with queue := (x.link b).queue.erase q }) b 1
  have left : ∃ l, x.leave b q now = (x.putLink b l).repeatFrom now q.slot :=
    ⟨_, congrArg (Sat.repeatFrom · now q.slot) (credited.trans (putLink_putLink _ _ _ _))⟩
  obtain ⟨l, left⟩ := left
  rw [left, ← putLink_slot x b l q.slot]
  exact repeatFrom_slot (by simpa using lt) now

/-! EDGE_EXECUTE of a turn-off (R288, R300). -/

/-- The slot of a turn-off entry after its switch went off. -/
def turnedOff (x : Sat) (q : QEnt) : Slot := (x.slot q.slot).turnOff q.e.ls q.e.t (x.drive q.e.prof true q.e.t)

theorem execEntry_off (off : q.e.on = false) (kill : q.kill = false) (lt : q.slot < x.slots.length) : ∃ d n l, x.execEntry b q now =
    ((x.putSlot q.slot (turnedOff x q)).putSlot q.slot { turnedOff x q with done := d }
      |>.putLink b { x.link b with lexec := n, done := l ++ [q] }).leave b q now := by
  unfold Sat.execEntry Sat.act
  simp only [off, kill, Bool.false_and, Bool.false_eq_true, if_false, slot_putSlot_same lt, putSlot_link]
  exact ⟨_, _, _, rfl⟩

/-- What the execution of a turn-off leaves of its slot and of its port. -/
theorem due1_off (off : q.e.on = false) (kill : q.kill = false) (lt : q.slot < x.slots.length) (calm : (x.slot q.slot).inReact = false)
    (free : (x.slot q.slot).hold = none) : ∃ d f r l n c,
      (x.due1 b q now).slot q.slot = { turnedOff x q with done := d, phBase := f, reps := r } ∧
      (x.due1 b q now).link b = withReady { x.link b with
        lexec := n, done := l ++ [q], queue := (x.link b).queue.erase q, due := (x.link b).due + 1 } c := by
  obtain ⟨d, n, l, e⟩ := execEntry_off (b := b) (now := now) off kill lt
  have run : x.due1 b q now = x.execEntry b q now := by
    unfold Sat.due1
    simp [calm, Slot.inHold, free]
  rw [run, e]
  obtain ⟨f, r, slot⟩ := leave_slot (q := q)
    (x := ((x.putSlot q.slot (turnedOff x q)).putSlot q.slot { turnedOff x q with done := d }).putLink b { x.link b with lexec := n, done := l ++ [q] })
    (by simpa using lt) b now
  obtain ⟨c, link⟩ := leave_link
    (((x.putSlot q.slot (turnedOff x q)).putSlot q.slot { turnedOff x q with done := d }).putLink b { x.link b with lexec := n, done := l ++ [q] }) b q now
  refine ⟨d, f, r, l, n, c, ?_, ?_⟩
  · rw [slot, putLink_slot, slot_putSlot_same (by simpa using lt)]
  · rw [link, satLink_putLink]

theorem nextEntry_single (queued : (x.link b).queue = [q]) (waits : q.passed = false) : x.nextEntry b = some q := by
  unfold Sat.nextEntry
  rw [queued]
  simp [waits]

/-! SAMPLE_TAKE (R298). -/

theorem bitsOf_one {n : Nat} (pos : 1 ≤ n) : bitsOf n 1 = [0] := by
  obtain ⟨m, rfl⟩ := Nat.exists_eq_add_of_le' pos
  unfold bitsOf
  rw [List.range_succ_eq_map, List.filter_cons_of_pos (by decide), List.filter_eq_nil_iff.mpr]
  intro k hk
  obtain ⟨j, _, rfl⟩ := List.mem_map.mp hk
  simp [Nat.div_eq_of_lt (Nat.one_lt_two_pow j.succ_ne_zero)]

theorem answer_first (one : 1 ≤ x.nSlots) (a v c : List Int) (f : Nat → Nat) :
    x.answer b 1 5 false a v c f = x.send b (.sample 0 (lowBits 16 (a.getD 0 0)) 0 (lowBits 16 (c.getD 0 0))) := by
  unfold Sat.answer
  rw [bitsOf_one (by omega)]
  rfl

/-- Settles O40: at its moment each timer has its one effect on an idle satellite, and without something to do it has none. -/
theorem satelliteTimers : Obligations.SatelliteTimers := by
  unfold Obligations.SatelliteTimers
  refine ⟨?execute, ?noEntry, ?sample, ?holdEnd, ?noHold, ?suppressed, ?status, ?telem, ?bank⟩
  case execute =>
    intro p y q s queued waits lt off kill four idle calm free
    refine runs_timed (k := fun u => u.due1 (satB y) q (s.reach ((s.sat p.val).moment s.now q.e.t)).now) idle
      (by show done _ = _; rw [nextEntry_single queued waits]) fun u at_ _ regs got => ?_
    obtain ⟨d, f, r, l, n, c, slot, link⟩ := due1_off (b := satB y) (now := (s.reach ((s.sat p.val).moment s.now q.e.t)).now)
      off kill (by rw [four]; exact lt) calm free
    rw [← got] at slot link
    refine ⟨at_, ?switch, ?gate, by rw [link]; simp [withReady, queued], by rw [link]; rfl, by rw [link]; simp [withReady], regs⟩
    case switch => rw [slot]; cases e : q.e.ls <;> simp [turnedOff, e]
    case gate => rw [slot]; cases e : q.e.ls <;> simp +contextual [turnedOff, Slot.turnOff, e]
  case noEntry =>
    intro p y s queued
    refine runs_of_done (v := s) ?_ rfl
    show done _ = _
    rw [show (s.sat p.val).nextEntry (satB y) = none by simp [Sat.nextEntry, queued]]
  case sample =>
    intro p y a b c t s la lb lc asked one idle
    refine runs_timed (t := (s.sat p.val).moment s.now t)
      (k := fun u => (u.putLink (satB y) { u.link (satB y) with smp := [] }).answer (satB y) 1 5 false a b c _) idle
      (by show execSampleTake p y a b c s = _; unfold execSampleTake; simp only [la, lb, lc, asked]; rfl) fun u at_ free regs got => ?_
    rw [answer_first (by simpa using one), send_eq] at got
    exact ⟨at_, by rw [got]; simp [withReady], by rw [got]; simp [withReady], free, regs⟩
  case holdEnd =>
    intro p i e s ends four idle
    obtain ⟨h, held, fin⟩ := Option.bind_eq_some_iff.mp ends
    obtain ⟨pat, _, start⟩ := h
    subst fin
    refine runs_timed (k := fun u => u.putSlot i.val { u.slot i.val with hold := none }) idle
      (by show execForceHoldEnd p i s = _; unfold execForceHoldEnd; rw [held]) fun u at_ _ regs got => ?_
    exact ⟨at_, by rw [got, slot_putSlot_same (fin_lt_slots four i)], regs⟩
  case noHold =>
    intro p i s free
    exact runs_of_done (v := s) (by show execForceHoldEnd p i s = _; unfold execForceHoldEnd; rw [free]) rfl
  case suppressed =>
    intro p y q s queued passed _ idle
    refine runs_timed (k := fun u => u.suppress (satB y) q _) idle
      (by show execSuppressed p y s = _; unfold execSuppressed; rw [queued, List.find?_cons_of_pos passed]) fun u at_ _ regs got => ?_
    obtain ⟨r, link⟩ := leave_link (((s.sat p.val).putLink (satB y) { (s.sat p.val).link (satB y) with ldisc := if q.old then
      (((s.sat p.val).link (satB y)).ldisc + 1) % 2 ^ 32 else ((s.sat p.val).link (satB y)).ldisc }).result (satB y) q.slot q.e .suppressed)
      (satB y) q (s.reach ((s.sat p.val).moment s.now (q.e.t + us5))).now
    refine ⟨at_, ?queue, ?answer, regs⟩
    all_goals
      rw [got]
      unfold Sat.suppress
      rw [link]
      simp [result_eq, withReady, queued]
  case status =>
    intro p y s idle none
    refine runs_timed (k := fun u => u.status (satB y)) idle rfl fun u at_ _ regs got => ?_
    refine ⟨at_, ?_, regs⟩
    rw [got]
    unfold Sat.status
    rw [none, if_neg (by simp), send_eq]
    simp [withReady, none]
  case telem =>
    intro p y i s idle
    refine runs_timed (k := fun u => u.send (satB y) (.telem i.val (u.slot i.val).flags false)) idle rfl fun u at_ _ regs got => ?_
    exact ⟨at_, by rw [got, send_eq]; simp [withReady], regs⟩
  case bank =>
    intro p y t s waits idle
    refine runs_timed (k := fun u => u.putLink (satB y) { u.link (satB y) with
      profBank := (u.link (satB y)).profOther, profOther := (u.link (satB y)).profBank, bankAt := none }) idle
      (by show execBankActivation p y s = _; unfold execBankActivation; rw [waits]) fun u at_ _ regs got => ?_
    rw [got]
    exact ⟨at_, by simp, by simp, by simp, regs⟩

end Sys2Proof.Proofs
end

section
/-! PROOFS. O41: a satellite's faults, lost links, pattern hold and power (08_ndotar_drive_link.md R302 to R308, R313). -/
namespace Sys2Proof.Proofs
open Sys2Proof Sys2Proof.Machine Sys2Proof.Laws

variable {x : Sat} {i now : Nat}

/-! A bit of a number that takes a value. -/

theorem withBit_div (m i : Nat) (b : Bool) : withBit m i b / 2 ^ i = 2 * (m / 2 ^ i / 2) + b.toNat := by
  have pos := Nat.two_pow_pos i
  have up := Nat.add_div_right m pos
  have down := Nat.sub_mul_div m (2 ^ i) 1
  rw [Nat.mul_one] at down
  unfold withBit
  cases b <;> split <;> next h => simp only [beq_iff_eq] at h; simp; omega

theorem withBit_mod (m i : Nat) (b : Bool) : withBit m i b % 2 ^ i = m % 2 ^ i := by
  unfold withBit
  split
  · next h =>
    simp only [beq_iff_eq] at h
    have le : 2 ^ i ≤ m := by
      by_contra lt
      rw [Nat.div_eq_of_lt (by omega)] at h
      omega
    split
    · rfl
    · exact (Nat.mod_eq_sub_mod le).symm
  · split <;> simp

theorem testBit_withBit (m i : Nat) (b : Bool) (j : Nat) : (withBit m i b).testBit j = if j = i then b else m.testBit j := by
  have high (n k : Nat) : n.testBit (k + i) = (n / 2 ^ i).testBit k := (Nat.testBit_div_two_pow n k).symm
  have low (n : Nat) (lt : j < i) : n.testBit j = (n % 2 ^ i).testBit j := by simp [Nat.testBit_mod_two_pow, lt]
  obtain lt | ge := Nat.lt_or_ge j i
  · rw [low _ lt, withBit_mod, ← low _ lt, if_neg (by omega)]
  · obtain ⟨k, rfl⟩ := Nat.exists_eq_add_of_le' ge
    rw [high, high, withBit_div]
    cases k with
    | zero => cases b <;> simp [Nat.testBit_zero]
    | succ k => rw [if_neg (by omega), Nat.testBit_succ, Nat.testBit_succ]; congr 1; cases b <;> simp; omega

theorem flag_eq (v : Slot) (i : Nat) : v.flag i = v.flags.testBit i := by
  unfold Slot.flag
  rw [Nat.testBit_eq_decide_div_mod_eq]
  rfl

/-! Reports (R303). -/

@[simp] theorem telemNow_slot (x : Sat) (i j : Nat) : (x.telemNow i).slot j = x.slot j := rfl

theorem mem_ready_telemNow (x : Sat) (i : Nat) (b : Bool) :
    ({ cell := .telem i (x.slot i).flags true } : RCell) ∈ ((x.telemNow i).link b).lk.ready := by
  cases b
  · exact mem_ready_send x false _
  · exact mem_ready_send (x.send false (.telem i (x.slot i).flags true)) true _

theorem setFlags_slot (lt : i < x.slots.length) (f : Nat) : (x.setFlags i f).slot i = { x.slot i with flags := f } := by
  unfold Sat.setFlags
  dsimp only
  split
  · next same => rw [← same]
  · rw [telemNow_slot, slot_putSlot_same lt]

/-! DESATURATION and UNDERVOLTAGE (R303). -/

/-- The flag of a driver fault: undervoltage or desaturation of the low or the high side. -/
def faultBit (ls uv : Bool) : Nat := if uv then (if ls then 6 else 7) else (if ls then 4 else 5)

/-- The slot of a driver fault: its switch is off and blocked, and the flag stands. -/
def faulted (v : Slot) (ls uv : Bool) (t : Nat) (d : Drive) : Slot :=
  { v.turnOff ls t d with
    dsat := if uv then (v.turnOff ls t d).dsat else ((v.turnOff ls t d).dsat + 1) % 256,
    flags := withBit (withBit (v.turnOff ls t d).flags (faultBit ls uv) true) (if ls then 0 else 1) true }

/-- A slot takes a value and flags, and its report goes out even where the flags stand already. -/
theorem putSlot_reports (lt : i < x.slots.length) (v : Slot) (f : Nat) : ∃ y : Sat,
    (if v.flags = f then (x.putSlot i v).telemNow i else (x.putSlot i v).setFlags i f) = y.telemNow i ∧ y.slot i = { v with flags := f } := by
  split
  · next same =>
    subst same
    exact ⟨_, rfl, slot_putSlot_same lt v⟩
  · next other =>
    unfold Sat.setFlags
    dsimp only
    rw [slot_putSlot_same lt, if_neg other]
    exact ⟨_, rfl, slot_putSlot_same (by simpa using lt) _⟩

theorem driverFault_reports (lt : i < x.slots.length) (ls uv : Bool) (prof now : Nat) : ∃ y : Sat,
    x.driverFault i ls uv prof now = y.telemNow i ∧
    y.slot i = faulted (x.slot i) ls uv (x.local now) (x.drive prof true (x.local now)) := putSlot_reports lt _ _

theorem faulted_flags (v : Slot) (ls uv : Bool) (t : Nat) (d : Drive) :
    (faulted v ls uv t d).flag (faultBit ls uv) = true ∧ (faulted v ls uv t d).flag (if ls then 0 else 1) = true := by
  simp only [flag_eq, faulted, testBit_withBit, if_true, ite_self, and_self]

/-- What a driver fault leaves of its slot, and the report on each port. -/
theorem driverFault_slot (lt : i < x.slots.length) (ls uv : Bool) (prof now : Nat) :
    (x.driverFault i ls uv prof now).slot i = faulted (x.slot i) ls uv (x.local now) (x.drive prof true (x.local now)) ∧
    ∀ b, ({ cell := .telem i ((x.driverFault i ls uv prof now).slot i).flags true } : RCell) ∈
      ((x.driverFault i ls uv prof now).link b).lk.ready := by
  obtain ⟨y, reports, slot⟩ := driverFault_reports lt ls uv prof now
  rw [reports]
  exact ⟨slot, mem_ready_telemNow y i⟩

/-! Loss of a port and the loss reaction (R305, R307, R308). -/

theorem portLost_shown {b : Bool} (live : (x.link b).loss = false) (other : x.tokB ≠ b) (now : Nat) : x.portLost b now = x.putLink b { x.link b with
    loss := true, lexec := 0, ldisc := 0, queue := (x.link b).queue.map (fun q => { q with old := true }) } := by
  unfold Sat.portLost
  simp [live, other]

theorem portLost_again {b : Bool} (lost : (x.link b).loss = true) (now : Nat) : x.portLost b now = x := if_pos lost

/-- Without a hinted reaction both switches of a slot go off, and its pattern hold is over. -/
theorem reactSlot_off (lt : i < x.slots.length) (off : (x.slot i).react = 0) (now : Nat) :
    ((x.reactSlot now i).slot i).inReact = true ∧ ((x.reactSlot now i).slot i).hs = false ∧ ((x.reactSlot now i).slot i).ls = false ∧
      ((x.reactSlot now i).slot i).phLim = none := by
  unfold Sat.reactSlot
  dsimp only
  rw [slot_putSlot_same lt]
  simp [off, Slot.turnOff]

/-- A satellite after its power-up. -/
def poweredUp (x : Sat) (ofs : Int) (now : Nat) : Sat where
  id := x.id
  caps := x.caps
  asymW := x.asymW
  ser := x.ser
  boots := x.boots + 1
  ofs := ofs
  slewAt := now
  slots := [0, 1, 2, 3].map (fun i => { flags := if x.caps.fld (4 + i) 1 = 1 then 512 else 0 })

/-! TELEM_FLAG_CHANGE (R303). -/

/-- Flags in which the sensors gave their bits. -/
def sensed (flags f : Nat) : Nat :=
  [7, 6].foldl (fun g i => if flags / 2 ^ i % 2 == 1 then g else withBit g i false)
    ([9, 8, 3, 2].foldl (fun f i => withBit f i (flags / 2 ^ i % 2 == 1)) f)

theorem testBit_sensed (flags f : Nat) {j : Nat} (given : j = 9 ∨ j = 8 ∨ j = 3 ∨ j = 2) :
    (sensed flags f).testBit j = (flags / 2 ^ j % 2 == 1) := by
  have keeps (g i : Nat) (ne : j ≠ i) : (if flags / 2 ^ i % 2 == 1 then g else withBit g i false).testBit j = g.testBit j := by
    split
    · rfl
    · rw [testBit_withBit, if_neg ne]
  unfold sensed
  simp only [List.foldl_cons, List.foldl_nil]
  rw [keeps _ 6 (by omega), keeps _ 7 (by omega)]
  obtain rfl | rfl | rfl | rfl := given <;> simp [testBit_withBit]

/-- Settles O41: a driver fault turns its switch off and is reported, a port is lost once, and a slot without a hint ends with both switches off. -/
theorem satelliteFaults : Obligations.SatelliteFaults := by
  unfold Obligations.SatelliteFaults
  refine ⟨?desat, ?under, ?loss, ?lost, ?expiry, ?noHold, ?repeated, ?power, ?flags⟩
  case desat =>
    intro p i ls s four
    refine runs_satDo rfl fun u got => ?_
    obtain ⟨slot, report⟩ := driverFault_slot (fin_lt_slots four i) ls false 7 s.now
    rw [← got] at slot report
    obtain ⟨flag, block⟩ := faulted_flags ((s.satNow p.val).slot i.val) ls false ((s.satNow p.val).local s.now)
      ((s.satNow p.val).drive 7 true ((s.satNow p.val).local s.now))
    refine ⟨?_, slot ▸ flag, slot ▸ block, ?_, report false⟩ <;> rw [slot] <;> cases ls <;> rfl
  case under =>
    intro p i ls s four
    have got := sat_putSat s p.val ((s.satNow p.val).driverFault i.val ls true (Config.freeNat s.free) s.now)
    obtain ⟨slot, report⟩ := driverFault_slot (fin_lt_slots four i) ls true (Config.freeNat s.free) s.now
    rw [← got] at slot report
    obtain ⟨flag, block⟩ := faulted_flags ((s.satNow p.val).slot i.val) ls true ((s.satNow p.val).local s.now)
      ((s.satNow p.val).drive (Config.freeNat s.free) true ((s.satNow p.val).local s.now))
    refine runs_of_done (v := (s.putSat p.val ((s.satNow p.val).driverFault i.val ls true (Config.freeNat s.free) s.now)).setFree (s.free + 1)) rfl
      ⟨congrArg (fun y => (s.putSat p.val y).setFree (s.free + 1)) got.symm, ?_, slot ▸ flag, slot ▸ block, report true⟩
    refine slot ▸ ?_
    cases ls <;> rfl
  case loss =>
    intro p y s live other idle
    refine runs_timed (k := fun u => u.portLost (satB y) _) idle
      (by show execSatPortLoss p y s = _; unfold execSatPortLoss; dsimp only; rw [live]; rfl) fun u at_ _ regs got => ?_
    rw [portLost_shown live other] at got
    rw [got]
    exact ⟨at_, by simp, by simp, by simp, by simp, regs⟩
  case lost =>
    intro p y s lost idle
    refine runs_timed (t := 0) (k := fun u => u.portLost (satB y) _) idle
      (by show execSatPortLoss p y s = _; unfold execSatPortLoss; dsimp only; rw [lost]; rfl) fun u _ _ regs got => ?_
    rw [portLost_again lost] at got
    exact ⟨got, regs⟩
  case expiry =>
    intro p i t s limit four off idle
    refine runs_timed (k := fun u => u.reactSlot _ i.val) idle
      (by show execPatternHoldExpiry p i s = _; unfold execPatternHoldExpiry; rw [limit]) fun u at_ _ regs got => ?_
    obtain ⟨react, hs, ls, ended⟩ := reactSlot_off (fin_lt_slots four i) off (s.reach ((s.sat p.val).moment s.now t)).now
    rw [got]
    exact ⟨at_, react, hs, ls, ended, regs⟩
  case noHold =>
    intro p i s none
    exact runs_of_done (v := s) (by show execPatternHoldExpiry p i s = _; unfold execPatternHoldExpiry; rw [none]) rfl
  case repeated =>
    intro p i e s reps off four free period fin idle
    have lt := fin_lt_slots four i
    refine runs_timed (t := (s.sat p.val).moment s.now e.t) (k := fun u => _) idle
      (by show execPatternHoldRepeat p i s = _; unfold execPatternHoldRepeat; rw [reps]; rfl) fun u at_ _ regs got => ?_
    simp only [Slot.inHold, free, fin, period, reps, Sat.act, off, Bool.false_eq_true, if_false, List.foldl_nil] at got
    rw [slot_putSlot_same lt] at got
    refine ⟨at_, ?switch, ?reps, regs⟩
    all_goals rw [got, slot_putSlot_same (by simpa using lt)]
    case switch => cases e.ls <;> rfl
    case reps => cases e.ls <;> simp [Slot.turnOff]
  case power =>
    intro p s
    have got := sat_putSat s p.val (poweredUp (s.sat p.val) ((Config.freeNat s.free : Int) - s.now) s.now)
    refine runs_of_done (v := (s.putSat p.val (poweredUp (s.sat p.val) ((Config.freeNat s.free : Int) - s.now) s.now)).setFree (s.free + 1)) rfl ?_
    show (((s.putSat p.val _).sat p.val).id = _) ∧ ((s.putSat p.val _).sat p.val).caps = _ ∧ ((s.putSat p.val _).sat p.val).boots = _ ∧
      (∀ v ∈ ((s.putSat p.val _).sat p.val).slots, _) ∧ ((s.putSat p.val _).sat p.val).a.queue = [] ∧
      ((s.putSat p.val _).sat p.val).b.queue = [] ∧ ((s.putSat p.val _).sat p.val).tokB = false ∧ _
    rw [got]
    exact ⟨rfl, rfl, rfl, by simp [poweredUp], rfl, rfl, rfl, fun _ _ => rfl⟩
  case flags =>
    intro p i flags s four zero
    refine runs_satDo rfl fun u got => ?_
    have slot : (u.sat p.val).slot i.val = { (s.satNow p.val).slot i.val with flags := sensed flags ((s.satNow p.val).slot i.val).flags } :=
      got ▸ setFlags_slot (fin_lt_slots four i) _
    rw [slot]
    refine ⟨?_, ?_, ?_, ?_, rfl⟩ <;> exact (flag_eq _ _).trans (testBit_sensed flags _ (by decide))

end Sys2Proof.Proofs
end

section
/-! PROOFS. Cells that reach the hub: what a valid cell leaves of its port, and the effect of an answer (08_ndotar_drive_link.md R272, R273, R287, R291). -/
namespace Sys2Proof.Proofs
open Sys2Proof Sys2Proof.Machine Sys2Proof.Laws

variable {s : State} {p : Nat} {h : CellHdr}

/-! Cells that arrive in order (R272, R273). -/

/-- The port trains no longer and is neither off nor lost. -/
def Linked (s : State) (p : Nat) : Prop := s.portState p ≠ pOff ∧ s.portState p ≠ pLoss ∧ s.portState p ≠ pTrain

theorem linked_up (up : s.portState p = pUp) : Linked s p := by
  unfold Linked
  rw [up]
  decide

theorem linked_caps (caps : s.portState p = pCaps) : Linked s p := by
  unfold Linked
  rw [caps]
  decide

theorem hubBits_same (same : s.sameBits p h = true) : hubBits p h.tok h.react s = s := by
  unfold State.sameBits at same
  simp only [Bool.and_eq_true, beq_iff_eq] at same
  obtain ⟨⟨⟨known, tok⟩, react⟩, calm⟩ := same
  unfold hubBits
  simp [known, tok, react, calm, State.when]

/-- A port that took a valid cell. -/
def hearingPort (s : State) (p ack : Nat) : Port := { s.port p with lastValid := s.now, lk := (s.port p).lk.acked ack }

theorem hubHears_calm (linked : Linked s p) (ack : Nat) : hubHears p ack false s = s.putPort p (hearingPort s p ack) := by
  unfold hubHears
  dsimp only
  rw [if_neg (by simp [linked.1, linked.2.1])]
  rfl

/-- A port that took the next cell in order. -/
def heardPort (s : State) (p : Nat) (h : CellHdr) : Port :=
  { hearingPort s p h.ack.val with lk := { (s.port p).lk.acked h.ack.val with rxSeq := ((s.port p).lk.rxSeq + 1) % 16, nak := false } }

/-- The hub when a port took the next cell in order. -/
def received (s : State) (p : Nat) (h : CellHdr) : State := (s.putPort p (hearingPort s p h.ack.val)).putPort p (heardPort s p h)

@[simp] theorem received_port (s : State) (p : Nat) (h : CellHdr) : (received s p h).port p = heardPort s p h := port_putPort _ _ _
@[simp] theorem received_get (s : State) (p : Nat) (h : CellHdr) (f : Fld) : (received s p h).get f = s.get f := rfl
theorem onlyRegs_received (s : State) (p : Nat) (h : CellHdr) (l : List Nat) : OnlyRegs l s (received s p h) := fun _ _ => rfl

theorem hubSequenced_inOrder (next : inOrder h (s.port p).lk = true) (linked : Linked s p) (k : State → State) :
    hubSequenced p h k s = k (received s p h) := by
  unfold inOrder at next
  simp only [Bool.and_eq_true, beq_iff_eq, Bool.not_eq_true'] at next
  obtain ⟨seq, calm⟩ := next
  have got : (hearingPort s p h.ack.val).lk.receive h.seq.val = ((heardPort s p h).lk, true) := if_pos seq
  unfold hubSequenced
  rw [calm, hubHears_calm linked]
  have state : (s.putPort p (hearingPort s p h.ack.val)).portState p = s.portState p := rfl
  dsimp only
  rw [state, port_putPort, got, if_neg (by simp [linked.1, linked.2.1]), if_pos (by simp [linked.2.2]), if_neg linked.2.2]
  rfl

/-- A sequenced cell whose header bits are known and which is the next in order has its effect on the hub that took it. -/
theorem runs_hubCell {c : Instr} {k : State → State} {P : State → Prop} (e : exec c s = done (hubCell p h k s))
    (next : inOrder h (s.port p).lk = true) (same : s.sameBits p h = true) (linked : Linked s p) (done : P (k (received s p h))) : Runs c s P := by
  refine runs_of_done e ?_
  unfold hubCell
  rw [hubBits_same same, hubSequenced_inOrder next linked]
  exact done

/-! RESULT (R291). -/

theorem lowBits_mod (w n : Nat) : lowBits w (n : Int) % 2 ^ w = n % 2 ^ w := by
  unfold lowBits
  rw [← Int.natCast_mod, Int.toNat_natCast, Nat.mod_mod]

theorem takeResult_retracted {n : Nat} {e f : Edge} (one : (s.port p).edges = [(n, f)]) (same : e.sameCell f = true) :
    takeResult p n e .retracted s =
      (s.putPort p { s.port p with edges := [], resulted := (s.port p).resulted + 1 }).incr (fNDL_RETRACT_CNT_cnt p) := by
  unfold takeResult
  simp [one, same, countRetracted]

/-- The registers after a protocol fault: the error bit and the two interrupt requests. -/
theorem protFault_rd (p : Nat) (s : State) (a : Nat) :
    (protFault p s).rd a = (((s.errSet 0x40040000 17).irq 0x40040000 6).raise ⟨aNDL_IRQ_RAW p, 9, 1⟩).rd a := by
  unfold protFault conservationEvent State.sageEvt toSage portIrq
  rw [rd_setSage]

theorem protFault_shows (calm : s.tmr = []) (p : Nat) : (protFault p s).shows (hErr 0x40040000 17) = 1 := by
  have other : aNDL_IRQ_RAW p ≠ 0x40040000 + 0x1C := by unfold aNDL_IRQ_RAW; omega
  calc (protFault p s).shows (hErr 0x40040000 17)
    _ = (((s.errSet 0x40040000 17).irq 0x40040000 6).raise ⟨aNDL_IRQ_RAW p, 9, 1⟩).shows (hErr 0x40040000 17) := by
        unfold State.shows
        rw [protFault_rd]
    _ = ((s.errSet 0x40040000 17).irq 0x40040000 6).shows (hErr 0x40040000 17) := shows_put_ne _ _ other
    _ = (s.errSet 0x40040000 17).shows (hErr 0x40040000 17) := shows_put_ne _ _ (by simp)
    _ = 1 := errSet_shown (by decide) calm

theorem errSet_ports (s : State) (h i : Nat) : (s.errSet h i).ports = s.ports ∧ (s.errSet h i).sage = s.sage := by
  unfold State.errSet
  split
  · exact ⟨rfl, rfl⟩
  · exact ⟨rfl, rfl⟩

theorem protFault_port (p : Nat) (s : State) (q : Nat) : (protFault p s).port q = s.port q :=
  congrArg (fun ports => Tab.get ({} : Port) ports q) (errSet_ports s 0x40040000 17).1

theorem protFault_inbox (p : Nat) (s : State) : (protFault p s).sage.inbox.length = s.sage.inbox.length + 1 := by
  have told : (protFault p s).sage.inbox = (s.errSet 0x40040000 17).sage.inbox ++ [⟨0, nOther (blockCode .ndl), false⟩] := rfl
  rw [told, (errSet_ports s 0x40040000 17).2]
  simp

/-! STATUS (R286, R287). -/

theorem closeAccount_none (none : (s.port p).acct = false) : closeAccount p s = s := by
  unfold closeAccount
  simp [none]

/-! TELEM of a leg that is not enabled (R256, R303). -/

/-- Sources of a leg that is not enabled are taken without effect. -/
theorem setSatSrc_disabled {n : Nat} (off : s.legEn n = false) (i : Nat) (on act : Bool) :
    ∃ x, setSatSrc n i on act s = s.putLeg n { s.leg n with satSrc := x } := by
  unfold setSatSrc
  dsimp only
  split
  · have still : (s.putLeg n { s.leg n with satSrc := withBit (s.leg n).satSrc i on }).legEn n = false := off
    exact ⟨_, if_pos (by rw [still]; rfl)⟩
  · exact ⟨_, rfl⟩

/-! SAMPLE and CHECK (R298). -/

theorem sampleMatch_first {t m : Nat} {c : Bool} {r : List (Nat × Nat × Bool)} (asked : (s.port p).smpReq = (t, m, c) :: r) (i : Nat) (chk : Bool) :
    ∃ x, sampleMatch p i chk s = (some t, s.putPort p x) := by
  unfold sampleMatch
  dsimp only
  rw [asked]
  dsimp only
  rw [← apply_ite (s.putPort p)]
  exact ⟨_, rfl⟩

theorem sampleMatch_eq (p i : Nat) (chk : Bool) (s : State) : ∃ t x, sampleMatch p i chk s = (t, s) ∨ sampleMatch p i chk s = (t, s.putPort p x) := by
  cases asked : (s.port p).smpReq with
  | nil => exact ⟨none, {}, .inl (by unfold sampleMatch; dsimp only; rw [asked])⟩
  | cons first r =>
    obtain ⟨x, e⟩ := sampleMatch_first asked i chk
    exact ⟨_, x, .inr e⟩

end Sys2Proof.Proofs
end

section
/-! PROOFS. The reports, accounts and time answers of a satellite as the hub takes them (08_ndotar_drive_link.md R277, R281, R282, R286, R287, R302). -/
namespace Sys2Proof.Proofs
open Sys2Proof Sys2Proof.Machine Sys2Proof.Laws

variable {s : State} {p : Nat}

/-! Ports beside registers. -/

@[simp] theorem shows_putPort (s : State) (p : Nat) (x : Port) (f : Fld) : (s.putPort p x).shows f = s.shows f := rfl
@[simp] theorem get_putPort (s : State) (p : Nat) (x : Port) (f : Fld) : (s.putPort p x).get f = s.get f := rfl
@[simp] theorem port_put (s : State) (f : Fld) (v : Nat) (p : Nat) : (s.put f v).port p = s.port p := rfl
@[simp] theorem shows_put_putPort (s : State) (p : Nat) (x : Port) (g f : Fld) (v : Nat) :
    ((s.putPort p x).put g v).shows f = (s.put g v).shows f := rfl
/-! The port's status after a STATUS (R286, R287). -/

/-- NDL[p]_STAT with the fields a STATUS gives. -/
def statused (s : State) (p q : Nat) (peer : Bool) (c : Nat) : State :=
  ((s.put (fNDL_STAT_qent p) q).putB (fNDL_STAT_peer p) peer).put (fNDL_STAT_cred p) c

theorem statused_port (s : State) (p q c : Nat) (peer : Bool) : (statused s p q peer c).port p = s.port p := rfl
theorem statused_tmr (s : State) (p q c : Nat) (peer : Bool) : (statused s p q peer c).tmr = s.tmr := rfl

theorem statused_cred {c : Nat} (lt : c < 64) (s : State) (p q : Nat) (peer : Bool) : (statused s p q peer c).shows (fNDL_STAT_cred p) = c :=
  (shows_put _ _ _ (by simp)).trans (Nat.mod_eq_of_lt lt)

theorem statused_qent {q : Nat} (lt : q < 256) (s : State) (p c : Nat) (peer : Bool) : (statused s p q peer c).shows (fNDL_STAT_qent p) = q :=
  (shows_put_disj _ _ (by simp)).trans ((shows_put_disj _ _ (by simp)).trans ((shows_put _ _ _ (by simp)).trans (Nat.mod_eq_of_lt lt)))

theorem statused_peer (s : State) (p q c : Nat) (peer : Bool) : (statused s p q peer c).shows (fNDL_STAT_peer p) = if peer then 1 else 0 :=
  (shows_put_disj _ _ (by simp)).trans (shows_put_bit _ _ (by split <;> decide) (by simp) rfl)

theorem crcErr_ne_stat (p : Nat) : (fNDL_CRC_ERR_dl p).addr ≠ aNDL_STAT p := by
  show aNDL_CRC_ERR p ≠ aNDL_STAT p
  unfold aNDL_CRC_ERR aNDL_STAT
  omega

/-- A FORCE the satellite names is repeated no longer. -/
def confirmed (p fid : Nat) (fidV : Bool) (s : State) : State :=
  if fidV then s.putPort p { s.port p with force := (s.port p).force.filter (fun f => f.id ≠ fid) } else s

/-- The invalid slots a satellite saw are counted. -/
def dlCounted (p dl : Nat) (s : State) : State :=
  (s.addSat (fNDL_CRC_ERR_dl p) ((dl + 256 - (s.port p).dlLast) % 256)).putPort p { s.port p with dlLast := dl % 256 }

theorem confirmed_shows (p fid : Nat) (fidV : Bool) (s : State) (f : Fld) : (confirmed p fid fidV s).shows f = s.shows f := by
  unfold confirmed
  cases fidV <;> rfl

theorem confirmed_sage (p fid : Nat) (fidV : Bool) (s : State) : (confirmed p fid fidV s).sage = s.sage := by
  unfold confirmed
  cases fidV <;> rfl

theorem confirmed_port (p fid : Nat) (fidV : Bool) (s : State) :
    ∃ l, (confirmed p fid fidV s).port p = { s.port p with force := l } := by
  unfold confirmed
  cases fidV
  · exact ⟨(s.port p).force, rfl⟩
  · exact ⟨_, port_putPort _ _ _⟩

theorem dlCounted_port (p dl : Nat) (s : State) : (dlCounted p dl s).port p = { s.port p with dlLast := dl % 256 } := port_putPort _ _ _

theorem dlCounted_shows (p dl : Nat) (s : State) {f : Fld} (stat : f.addr = aNDL_STAT p) : (dlCounted p dl s).shows f = s.shows f := by
  have apart : (fNDL_CRC_ERR_dl p).addr ≠ f.addr := stat.symm ▸ crcErr_ne_stat p
  unfold dlCounted
  rw [shows_putPort]
  exact shows_put_ne _ _ apart

theorem dlCounted_sage (p dl : Nat) (s : State) : (dlCounted p dl s).sage = s.sage := rfl

/-- A STATUS of a port without an open account, once its credits are taken and hold. -/
theorem takeStatus_eq {t : State} {first : Bool} (now : (!(s.port p).credTaken) = first) {q : Nat} {peer : Bool} {cred : Nat}
    (taken : (if first then (((s.put (fNDL_STAT_qent p) q).putB (fNDL_STAT_peer p) peer).putPort p
        { s.port p with credTaken := true, q0 := q }).put (fNDL_STAT_cred p) (32 - q)
      else takeCredits p cred (((s.put (fNDL_STAT_qent p) q).putB (fNDL_STAT_peer p) peer).put (fNDL_STAT_cred p)
        (((s.put (fNDL_STAT_qent p) q).putB (fNDL_STAT_peer p) peer).get (fNDL_STAT_cred p) + cred))) = t)
    (holds : (!first && !t.creditsHold p q) = false) (none : (t.port p).acct = false) (fid dl : Nat) (fidV : Bool) :
    takeStatus p cred fid fidV peer q false dl s = dlCounted p dl (confirmed p fid fidV t) := by
  have closed : closeAccount p (dlCounted p dl (confirmed p fid fidV t)) = dlCounted p dl (confirmed p fid fidV t) :=
    by
    obtain ⟨l, port⟩ := confirmed_port p fid fidV t
    refine closeAccount_none ?_
    rw [dlCounted_port]
    show ((confirmed p fid fidV t).port p).acct = false
    rw [port]
    exact none
  subst now
  unfold takeStatus
  extract_lets y first s1 s2 s3 y' s4 d s5 s6 s7
  have e2 : s2 = t := taken
  have e3 : s3 = t := by
    unfold s3
    rw [e2]
    exact if_neg (Bool.eq_false_iff.mp holds)
  have e4 : s4 = confirmed p fid fidV t := by
    unfold s4 y' confirmed
    rw [e3]
  have e6 : s6 = dlCounted p dl (confirmed p fid fidV t) := by
    unfold s6 s5 d dlCounted
    rw [e4]
  have e7 : s7 = s6 := if_neg (by decide)
  rw [e7, e6, closed]

/-- The first STATUS after CAPS gives the credits that the satellite's queue leaves. -/
theorem takeStatus_first (new : (s.port p).credTaken = false) (none : (s.port p).acct = false) {q : Nat} (fits : q ≤ 32)
    (cred fid dl : Nat) (peer fidV : Bool) :
    ((takeStatus p cred fid fidV peer q false dl s).port p).credTaken = true ∧
    ((takeStatus p cred fid fidV peer q false dl s).port p).edges = (s.port p).edges ∧
    (takeStatus p cred fid fidV peer q false dl s).shows (fNDL_STAT_cred p) = 32 - q ∧
    (takeStatus p cred fid fidV peer q false dl s).shows (fNDL_STAT_qent p) = q ∧
    (takeStatus p cred fid fidV peer q false dl s).shows (fNDL_STAT_peer p) = if peer then 1 else 0 := by
  have port : ((((s.put (fNDL_STAT_qent p) q).putB (fNDL_STAT_peer p) peer).putPort p { s.port p with credTaken := true, q0 := q }).put
      (fNDL_STAT_cred p) (32 - q)).port p = { s.port p with credTaken := true, q0 := q } :=
    (port_put _ _ _ _).trans (port_putPort _ _ _)
  have run := takeStatus_eq (s := s) (p := p) (first := true) (q := q) (peer := peer) (cred := cred) (by rw [new]; rfl) (if_pos rfl) rfl
    (by rw [port]; exact none) fid dl fidV
  obtain ⟨l, kept⟩ := confirmed_port p fid fidV ((((s.put (fNDL_STAT_qent p) q).putB (fNDL_STAT_peer p) peer).putPort p
    { s.port p with credTaken := true, q0 := q }).put (fNDL_STAT_cred p) (32 - q))
  have shown {f : Fld} (stat : f.addr = aNDL_STAT p) : (takeStatus p cred fid fidV peer q false dl s).shows f = (statused s p q peer (32 - q)).shows f := by
    rw [run, dlCounted_shows p dl _ stat, confirmed_shows, shows_put_putPort, statused]
  refine ⟨?_, ?_, ?_, ?_, ?_⟩
  · rw [run, dlCounted_port, kept, port]
  · rw [run, dlCounted_port, kept, port]
  · exact (shown rfl).trans (statused_cred (by omega) _ _ _ _)
  · exact (shown rfl).trans (statused_qent (by omega) _ _ _ _)
  · exact (shown rfl).trans (statused_peer _ _ _ _ _)

theorem takeCredits_executed (done : (s.port p).resulted = 0) (cred : Nat) :
    takeCredits p cred s = s.putPort p { s.port p with resulted := 0, edges := (s.port p).edges.drop cred } := by
  unfold takeCredits
  simp [done]

/-- A later STATUS returns credits, where the sum with the entries and the edges under way is right. -/
theorem takeStatus_later (old : (s.port p).credTaken = true) (none : (s.port p).acct = false) (done : (s.port p).resulted = 0)
    (acked : (s.port p).lk.unack = []) (calm : s.tmr = []) {cred q : Nat} (sum : s.get (fNDL_STAT_cred p) + cred + q = 32)
    (fid dl : Nat) (peer fidV : Bool) :
    (takeStatus p cred fid fidV peer q false dl s).shows (fNDL_STAT_cred p) = s.get (fNDL_STAT_cred p) + cred ∧
    ((takeStatus p cred fid fidV peer q false dl s).port p).edges = (s.port p).edges.drop cred ∧
    (takeStatus p cred fid fidV peer q false dl s).sage = s.sage := by
  have kept : ((s.put (fNDL_STAT_qent p) q).putB (fNDL_STAT_peer p) peer).get (fNDL_STAT_cred p) = s.get (fNDL_STAT_cred p) := by
    have calm' : ((s.put (fNDL_STAT_qent p) q).putB (fNDL_STAT_peer p) peer).tmr = [] := calm
    rw [get_eq_shows' _ _ calm', get_eq_shows' _ _ calm]
    exact (shows_put_disj _ _ (by simp)).trans (shows_put_disj _ _ (by simp))
  have taken : takeCredits p cred (statused s p q peer (s.get (fNDL_STAT_cred p) + cred)) =
      (statused s p q peer (s.get (fNDL_STAT_cred p) + cred)).putPort p { s.port p with resulted := 0, edges := (s.port p).edges.drop cred } := by
    rw [takeCredits_executed (by rw [statused_port]; exact done), statused_port]
  have holds : ((statused s p q peer (s.get (fNDL_STAT_cred p) + cred)).putPort p
      { s.port p with resulted := 0, edges := (s.port p).edges.drop cred }).creditsHold p q = true := by
    unfold State.creditsHold
    rw [get_putPort, get_eq_shows' _ _ ((statused_tmr _ _ _ _ _).trans calm), statused_cred (by omega), port_putPort]
    simp only [acked, List.filter_nil, List.length_nil, beq_iff_eq]
    omega
  have run := takeStatus_eq (s := s) (p := p) (first := false) (q := q) (peer := peer) (cred := cred) (by rw [old]; rfl)
    ((if_neg (by decide)).trans ((congrArg (fun c => takeCredits p cred (((s.put (fNDL_STAT_qent p) q).putB (fNDL_STAT_peer p) peer).put
      (fNDL_STAT_cred p) (c + cred))) kept).trans taken))
    (by rw [holds]; rfl) (by rw [port_putPort]; exact none) fid dl fidV
  obtain ⟨l, port⟩ := confirmed_port p fid fidV ((statused s p q peer (s.get (fNDL_STAT_cred p) + cred)).putPort p
    { s.port p with resulted := 0, edges := (s.port p).edges.drop cred })
  refine ⟨?_, ?_, ?_⟩
  · rw [run, dlCounted_shows p dl _ rfl, confirmed_shows, shows_putPort, statused_cred (by omega)]
  · rw [run, dlCounted_port, port, port_putPort]
  · rw [run, dlCounted_sage, confirmed_sage]
    rfl

end Sys2Proof.Proofs
end

section
/-! PROOFS. TELEM and SYNC_RSP at the hub (08_ndotar_drive_link.md R281, R282, R302, R303). -/
namespace Sys2Proof.Proofs
open Sys2Proof Sys2Proof.Machine Sys2Proof.Laws

variable {s t : State} {p i n : Nat}

/-! TELEM of a leg that is not enabled (R256, R302, R303). -/

/-- The registers in which a TELEM is shown. -/
def telemed (p i flags vboot temp : Nat) (s : State) : State :=
  ((((s.put (fNDL_TELEM_vboot p i) vboot).put (fNDL_TELEM_temp p i) temp).put (fNDL_TELEM_flags p i) flags).raise (fNDL_TELEM_valid p i)).putB
    (fLEG_BOOT_pump (4 * p + i)) (flags / 2 ^ 9 % 2 == 1)

theorem boot_ne_telem (n p i : Nat) : aLEG_BOOT n ≠ aNDL_TELEM p i := by
  unfold aLEG_BOOT aNDL_TELEM
  omega

/-- The registers a TELEM is shown in lie in the page of the ports, and the leg's report beside its other registers (01_register_pages.md R14). -/
theorem telem_ne_leg (n p i : Nat) : aNDL_TELEM p i ≠ aLEG_CFG n ∧ aNDL_TELEM p i ≠ aLEG_TRIP_STAT n ∧
    aLEG_BOOT n ≠ aLEG_CFG n ∧ aLEG_BOOT n ≠ aLEG_TRIP_STAT n := by
  unfold aNDL_TELEM aLEG_CFG aLEG_TRIP_STAT aLEG_BOOT
  omega

theorem telemed_shows {flags vboot temp : Nat} (hf : flags < 2 ^ 10) (hv : vboot < 2 ^ 12) (ht : temp < 2 ^ 8) (p i : Nat) (s : State) :
    (telemed p i flags vboot temp s).shows (fNDL_TELEM_flags p i) = flags ∧
    (telemed p i flags vboot temp s).shows (fNDL_TELEM_vboot p i) = vboot ∧
    (telemed p i flags vboot temp s).shows (fNDL_TELEM_temp p i) = temp ∧
    (telemed p i flags vboot temp s).shows (fNDL_TELEM_valid p i) = 1 := by
  have boot := boot_ne_telem (4 * p + i) p i
  unfold telemed State.raise State.putB
  refine ⟨?_, ?_, ?_, ?_⟩ <;> rw [shows_put_ne _ _ boot]
  · rw [shows_put_disj _ _ (by simp), shows_put _ _ _ (by simp), Nat.mod_eq_of_lt hf]
  · rw [shows_put_disj _ _ (by simp), shows_put_disj _ _ (by simp), shows_put_disj _ _ (by simp), shows_put _ _ _ (by simp), Nat.mod_eq_of_lt hv]
  · rw [shows_put_disj _ _ (by simp), shows_put_disj _ _ (by simp), shows_put _ _ _ (by simp), Nat.mod_eq_of_lt ht]
  · exact shows_put_bit _ _ (by decide) (by simp) rfl

theorem onlyRegs_telemed (p i flags vboot temp : Nat) (s : State) :
    OnlyRegs [aNDL_TELEM p i, aLEG_BOOT (4 * p + i)] s (telemed p i flags vboot temp s) :=
  onlyRegs_put _ (by simp) (onlyRegs_put _ (by simp) (onlyRegs_put _ (by simp) (onlyRegs_put _ (by simp) (onlyRegs_put _ (by simp) (OnlyRegs.refl _ s)))))

/-- A TELEM shows nothing of a leg's other registers. -/
theorem telemed_on {f : Fld} (telem : aNDL_TELEM p i ≠ f.addr) (boot : aLEG_BOOT (4 * p + i) ≠ f.addr) (flags vboot temp : Nat) :
    (telemed p i flags vboot temp s).on f = s.on f := by
  unfold telemed State.raise State.putB
  rw [on_put_ne _ _ boot, on_put_ne _ _ telem, on_put_ne _ _ telem, on_put_ne _ _ telem, on_put_ne _ _ telem]

/-- A state with the registers of another, in which a leg has reported. -/
def Reported (n : Nat) (s t : State) : Prop := (t.leg n).bootRep = true ∧ t.tmr = s.tmr ∧ ∀ a, t.rd a = s.rd a

theorem Reported.on (r : Reported n s t) (f : Fld) : t.on f = s.on f := by
  obtain ⟨_, tmr, rd⟩ := r
  unfold State.on
  rw [get_of_rd (rd _) tmr]

theorem Reported.setSatSrc (r : Reported n s t) (off : s.legEn n = false) (i : Nat) (on act : Bool) : Reported n s (setSatSrc n i on act t) := by
  obtain ⟨x, e⟩ := setSatSrc_disabled ((r.on _).trans off) i on act
  obtain ⟨rep, tmr, rd⟩ := r
  rw [e]
  exact ⟨by rw [leg_putLeg]; exact rep, tmr, rd⟩

theorem takeTelem_disabled (off : s.legEn (4 * p + i) = false) (stale : s.on (fNDL_TELEM_valid p i) = false)
    (calm : s.on (fLEG_TRIP_STAT_armed (4 * p + i)) = false) (flags vboot temp : Nat) :
    Reported (4 * p + i) (telemed p i flags vboot temp s) (takeTelem p i flags vboot temp s) := by
  obtain ⟨telemCfg, telemTrip, bootCfg, bootTrip⟩ := telem_ne_leg (4 * p + i) p i
  have off' : (telemed p i flags vboot temp s).legEn (4 * p + i) = false :=
    (telemed_on telemCfg bootCfg flags vboot temp).trans off
  have calm' : (telemed p i flags vboot temp s).on (fLEG_TRIP_STAT_armed (4 * p + i)) = false :=
    (telemed_on telemTrip bootTrip flags vboot temp).trans calm
  unfold takeTelem
  extract_lets n was valid s1 s2 s3 b s4 l s5 s6 s7
  have e3 : s3 = s2 := if_neg (by simp [valid, stale])
  have e4 : s4 = telemed p i flags vboot temp s := by
    unfold s4
    rw [e3]
    rfl
  have r5 : Reported n s4 s5 := ⟨by unfold s5; rw [leg_putLeg], rfl, fun _ => rfl⟩
  rw [e4] at r5
  have r6 : Reported n (telemed p i flags vboot temp s) s6 :=
    List.foldlRecOn [(0, 5), (1, 4), (2, 7), (3, 6), (4, 3)] _ (motive := Reported n (telemed p i flags vboot temp s)) r5
      fun t r j _ => r.setSatSrc off' j.1 (b j.2) false
  have e7 : s7 = s6 := if_neg (by rw [show s6.legEn n = false from (r6.on _).trans off']; decide)
  rw [e7]
  split
  · exact r6
  · unfold armedLeg
    rw [show s6.on (fLEG_TRIP_STAT_armed n) = false from (r6.on _).trans calm']
    exact r6

/-! SYNC_RSP of a port that is UP (R282). -/

/-- The probe of a port has its answer. -/
def answered (x : Port) : Port := { x with probe := none }

/-- A port sent an ADJUST. -/
def adjusted (l : LinkSt) (r : Int) (x : Port) : Port := { x with lk := l, rate := r }

/-- A port found its satellite's time in order. -/
def judged (now : Nat) (x : Port) : Port := { x with bad := 0, lastProbe := some now }

/-- A cell the hub may hand over joins those that are ready. -/
theorem hubReady_eq (p : Nat) (c : Cell) (due : Option Nat) (s : State) :
    hubReady p c due s = s ∨ ∃ l, hubReady p c due s = s.putPort p { s.port p with lk := l } := by
  unfold hubReady
  split
  · exact .inr ⟨_, rfl⟩
  · exact .inl rfl

/-- An ADJUST changes only what the port sends and the rate. -/
theorem sendAdjust_eq (p : Nat) (e : Int) (s : State) : ∃ v l r, sendAdjust p e s = s.setPorts v ∧
    (sendAdjust p e s).port p = adjusted l r (s.port p) := by
  unfold sendAdjust
  extract_lets x dt r
  obtain sent | ⟨l, sent⟩ := hubReady_eq p (.adjust (-e) r) none (s.putPort p { x with rate := r })
  · rw [sent]
    exact ⟨_, (s.port p).lk, r, rfl, port_putPort _ _ _⟩
  · rw [sent]
    exact ⟨_, l, r, rfl, by rw [port_putPort, port_putPort]; rfl⟩

/-- The offset of a satellite whose time agrees is 0 (R281). -/
theorem sync_agrees {a turn t4 : Nat} (le : turn ≤ t4) (half : (t4 - turn) / 2 = a) :
    (t4 : Int) - (0 : Nat) - turn = (t4 - turn : Nat) ∧ sext 32 (lowBits 32 ((a : Int) - ((0 : Nat) + ((t4 - turn : Nat) + 0) / 2))) = 0 := by
  refine ⟨by omega, ?_⟩
  rw [show ((a : Int) - ((0 : Nat) + (((t4 - turn : Nat) : Int) + 0) / 2)) = 0 by omega]
  rfl

/-- NDL[p]_OFS and sync_ok after an answer without error. -/
def synced (p rtt : Nat) (s : State) : State := ((s.put (fNDL_OFS_rtt p) rtt).put (fNDL_OFS_e p) 0).raise (fNDL_STAT_sync_ok p)

theorem clampI_short {n : Nat} (short : n < 65536) : (clampI 0 65535 (n : Int)).toNat = n := by
  unfold clampI
  rw [if_neg (by omega), if_neg (by omega), Int.toNat_natCast]

theorem ofs_ne_stat (p : Nat) : aNDL_OFS p ≠ aNDL_STAT p := by
  unfold aNDL_OFS aNDL_STAT
  omega

theorem portState_putPort (s : State) (q : Nat) (x : Port) (p : Nat) : (s.putPort q x).portState p = s.portState p := rfl

theorem portState_put_ne {f : Fld} (ne : f.addr ≠ aNDL_STAT p) (v : Nat) : (s.put f v).portState p = s.portState p := get_put_ne _ _ ne

theorem wr_setPorts (s : State) (v : Tab Port) (a : Nat) (w : Word) : (s.setPorts v).wr a w = (s.wr a w).setPorts v := rfl

theorem put_setPorts (s : State) (v : Tab Port) (f : Fld) (n : Nat) : (s.setPorts v).put f n = (s.put f n).setPorts v := wr_setPorts s v _ _

theorem setPorts_raise_putPort (s : State) (p : Nat) (y z : Port) (v : Tab Port) (f : Fld) :
    (((s.putPort p y).setPorts v).raise f).putPort p z = (s.raise f).setPorts (Tab.set {} v p z) := by
  have first : (s.putPort p y).setPorts v = s.setPorts v := rfl
  unfold State.raise
  rw [first, put_setPorts]
  rfl

theorem takeSync_agrees {a turn t4 : Nat} (up : s.portState p = pUp) (asym : s.get (fNDL_SYNC_asym p) = 0) (own : (s.port p).asym = 0)
    (delta : s.delta = 0) (le : turn ≤ t4) (short : t4 - turn < 65536) (half : (t4 - turn) / 2 = a) : ∃ v l r,
      takeSync p a turn 0 t4 s = (synced p (t4 - turn) s).setPorts v ∧
      (takeSync p a turn 0 t4 s).port p = judged s.now (adjusted l r (answered (s.port p))) := by
  obtain ⟨rttEq, eEq⟩ := sync_agrees le half
  unfold takeSync
  extract_lets x rtt asym' d e s1 s2 _ _ s3 _ _ _ s4 b y5 s5
  have hr : rtt = (t4 - turn : Nat) := rttEq
  have ha : asym' = 0 := by
    unfold asym' x
    rw [asym, own]
    rfl
  have he : e = 0 := by
    have zero : s.toPair 0 = 0 := by
      unfold State.toPair
      rw [delta]
      rfl
    unfold e d
    rw [zero, hr, ha]
    exact eEq
  have h1 : s1 = (s.put (fNDL_OFS_rtt p) (t4 - turn)).put (fNDL_OFS_e p) 0 := by
    unfold s1
    rw [hr, clampI_short short, he]
    rfl
  have live : s2.portState p ≠ pTset := by
    have same : s2.portState p = s.portState p := by
      unfold s2
      rw [h1, portState_putPort, portState_put_ne (ofs_ne_stat p), portState_put_ne (ofs_ne_stat p)]
    rw [same, up]
    decide
  rw [if_neg live]
  obtain ⟨v, l, r, ports, port⟩ := sendAdjust_eq p e s2
  have h4 : s4 = (s2.setPorts v).raise (fNDL_STAT_sync_ok p) := by
    unfold s4 s3
    rw [if_neg (by rw [he]; decide), ports]
  have hb : b = 0 := by
    unfold b
    rw [he]
    rfl
  have port4 : s4.port p = adjusted l r (answered (s.port p)) := by
    rw [h4, ← ports]
    exact (port_put _ _ _ _).trans (port.trans (congrArg (adjusted l r) (port_putPort _ _ _)))
  have h5 : s5 = s4.putPort p (judged s4.now (s4.port p)) := by
    unfold s5 y5
    rw [hb]
    rfl
  have now4 : s4.now = s.now := by
    rw [h4]
    unfold s2
    rw [h1]
    rfl
  rw [if_neg (by rw [hb]; decide), h5, now4, port4, port_putPort]
  refine ⟨Tab.set {} v p (judged s.now (adjusted l r (answered (s.port p)))), l, r, ?_, rfl⟩
  generalize judged s.now (adjusted l r (answered (s.port p))) = z
  rw [h4]
  unfold s2 synced
  rw [h1, setPorts_raise_putPort]

end Sys2Proof.Proofs
end

section
/-! PROOFS. O38: answers, reports and samples of a satellite at the hub (08_ndotar_drive_link.md R272 to R303, R319). -/
namespace Sys2Proof.Proofs
open Sys2Proof Sys2Proof.Machine Sys2Proof.Laws

variable {s : State} {p i : Nat}

/-! SYNC_RSP (R282). -/

/-- The answer to the probe that waits is taken on a port that is UP. -/
theorem execSyncRsp_up {p : Fin 32} {h : CellHdr} {id a turn t4 t1 : Nat} (calm : h.nak = false) (same : s.sameBits p.val h = true)
    (up : s.portState p.val = pUp) (delta : s.delta = 0) (past : t4 ≤ s.now) (waits : (s.port p.val).probe = some (id % 16, t1)) :
    exec (.syncRsp p h id a turn t4) s =
      done (joinAdvance 5 (takeSync p.val a (turn % 4096) t1 t4 (s.putPort p.val (hearingPort s p.val h.ack.val)))) := by
  have pair (t : State) (e : t.delta = 0) : t.ofPair t4 = t4 := by
    unfold State.ofPair
    rw [e]
    simp
  have here : s.reach (s.ofPair t4) = s := by
    rw [pair s delta]
    exact if_neg (by omega)
  show execSyncRsp p h id a turn t4 s = _
  unfold execSyncRsp
  rw [here, hubBits_same same, calm, hubHears_calm (linked_up up)]
  dsimp only
  have probe : (hearingPort s p.val h.ack.val).probe = some (id % 16, t1) := waits
  rw [port_putPort, probe]
  dsimp only
  have live : (s.putPort p.val (hearingPort s p.val h.ack.val)).portUp p.val = true := by
    show (s.portState p.val == pUp) = true
    rw [up]
    rfl
  rw [live, pair (s.putPort p.val (hearingPort s p.val h.ack.val)) delta, if_pos (by simp)]

theorem joinAdvance_idle (apart : s.pairLink ≠ 2) (n : Nat) : joinAdvance n s = s := by
  cases n with
  | zero => rfl
  | succ n => exact if_pos (by simp [apart])

theorem synced_shows {rtt : Nat} (short : rtt < 2 ^ 16) (p : Nat) (s : State) :
    (synced p rtt s).shows (fNDL_OFS_rtt p) = rtt ∧ (synced p rtt s).shows (fNDL_OFS_e p) = 0 ∧
    (synced p rtt s).shows (fNDL_STAT_sync_ok p) = 1 ∧ (synced p rtt s).shows (fNDL_STAT_state p) = s.shows (fNDL_STAT_state p) := by
  have apart := ofs_ne_stat p
  unfold synced State.raise
  refine ⟨?_, ?_, ?_, ?_⟩
  · rw [shows_put_ne _ _ apart.symm, shows_put_disj _ _ (by simp), shows_put _ _ _ (by simp), Nat.mod_eq_of_lt short]
  · rw [shows_put_ne _ _ apart.symm, shows_put _ _ _ (by simp), Nat.zero_mod]
  · exact shows_put_bit _ _ (by decide) (by simp) rfl
  · rw [shows_put_disj _ _ (by simp), shows_put_ne _ _ apart, shows_put_ne _ _ apart]

theorem synced_pairLink (p rtt : Nat) (s : State) : (synced p rtt s).pairLink = s.pairLink := by
  have ofs : aNDL_OFS p ≠ aPAIR_STATE := by unfold aNDL_OFS aPAIR_STATE; omega
  have stat : aNDL_STAT p ≠ aPAIR_STATE := by unfold aNDL_STAT aPAIR_STATE; omega
  unfold State.pairLink synced State.raise
  rw [get_put_ne _ _ stat, get_put_ne _ _ ofs, get_put_ne _ _ ofs]

/-- An answer that agrees with the hub's time ends the probe, and shows the round trip and a port in order. -/
theorem syncRsp_agrees {a turn t4 : Nat} (up : s.portState p = pUp) (asym : s.get (fNDL_SYNC_asym p) = 0) (own : (s.port p).asym = 0)
    (delta : s.delta = 0) (le : turn ≤ t4) (short : t4 - turn < 65536) (half : (t4 - turn) / 2 = a) (idle : s.pairLink = 0) : ∃ l r v,
      joinAdvance 5 (takeSync p a turn 0 t4 s) = (synced p (t4 - turn) s).setPorts v ∧
      (joinAdvance 5 (takeSync p a turn 0 t4 s)).port p = judged s.now (adjusted l r (answered (s.port p))) := by
  obtain ⟨v, l, r, regs, port⟩ := takeSync_agrees up asym own delta le short half
  have apart : (takeSync p a turn 0 t4 s).pairLink ≠ 2 := by
    have link : (takeSync p a turn 0 t4 s).pairLink = (synced p (t4 - turn) s).pairLink := by
      unfold State.pairLink
      rw [regs, get_setPorts]
    rw [link, synced_pairLink, idle]
    decide
  rw [joinAdvance_idle apart]
  exact ⟨l, r, v, regs, port⟩

theorem onlyRegs_putPort {l : List Nat} {t : State} (x : Port) (h : OnlyRegs l s t) : OnlyRegs l s (t.putPort p x) := h

/-! CFG_RSP (R277). -/

theorem takeCfg_id (p : Nat) (d : Word) (s : State) : ∃ x, takeCfg p 0 d s = (s.putPort p x).wr (aNDL_SAT_ID p) d := ⟨_, rfl⟩

/-- Identity of the satellite's capabilities as the hub shows them. -/
def capable (p : Nat) (d : Word) (s : State) : State :=
  ((s.wr (aNDL_SAT_CAPS p) d).put (fNDL_STAT_legs p) (d.fld 0 3)).put (fNDL_STAT_pump p) (d.fld 4 4)

theorem takeCfg_caps (p : Nat) (d : Word) (s : State) : ∃ x, takeCfg p 4 d s = capable p d (s.putPort p x) := ⟨_, rfl⟩

theorem capable_shows (p : Nat) (d : Word) (s : State) : (capable p d s).rd (aNDL_SAT_CAPS p) = d ∧
    (capable p d s).shows (fNDL_STAT_legs p) = d.fld 0 3 ∧ (capable p d s).shows (fNDL_STAT_pump p) = d.fld 4 4 := by
  have apart : aNDL_STAT p ≠ aNDL_SAT_CAPS p := by unfold aNDL_STAT aNDL_SAT_CAPS; omega
  unfold capable
  refine ⟨?_, ?_, ?_⟩
  · exact (rd_wr_ne _ _ apart).trans ((rd_wr_ne _ _ apart).trans (rd_wr_same _ _ _))
  · rw [shows_put_disj _ _ (by simp), shows_put _ _ _ (by simp), Nat.mod_eq_of_lt (fld_lt _ 0 3)]
  · rw [shows_put _ _ _ (by simp), Nat.mod_eq_of_lt (fld_lt _ 4 4)]

theorem onlyRegs_capable (p : Nat) (d : Word) (s : State) : OnlyRegs [aNDL_SAT_CAPS p, aNDL_STAT p] s (capable p d s) :=
  onlyRegs_put _ (by simp) (onlyRegs_put _ (by simp) (onlyRegs_wr _ (by simp) (OnlyRegs.refl _ s)))

/-! TOKEN_RSP (R310, R319). -/

/-- NDL[p]_TOK_STAT after an answer about the token. -/
def tokenShown (p res : Nat) (holder : Bool) (s : State) : State :=
  ((s.put (fNDL_TOK_STAT_result p) res).putB (fNDL_TOK_STAT_holder p) holder).lower (fNDL_TOK_STAT_busy p)

theorem takeTokenRsp_rd (p res : Nat) (holder : Bool) (s : State) (a : Nat) :
    (takeTokenRsp p res holder s).rd a = (tokenShown p res holder s).rd a := by
  unfold takeTokenRsp tokenShown
  dsimp only
  split
  · split
    · rw [rd_setPair]
    · rfl
  · rfl

theorem tokenShown_shows {res : Nat} (lt : res < 2 ^ 2) (p : Nat) (holder : Bool) (s : State) :
    (tokenShown p res holder s).shows (fNDL_TOK_STAT_result p) = res ∧
    (tokenShown p res holder s).shows (fNDL_TOK_STAT_holder p) = (if holder then 1 else 0) ∧
    (tokenShown p res holder s).shows (fNDL_TOK_STAT_busy p) = 0 := by
  unfold tokenShown State.lower State.putB
  refine ⟨?_, ?_, ?_⟩
  · rw [shows_put_disj _ _ (by simp), shows_put_disj _ _ (by simp), shows_put _ _ _ (by simp), Nat.mod_eq_of_lt lt]
  · rw [shows_put_disj _ _ (by simp), shows_put_bit _ _ (by split <;> decide) (by simp) rfl]
  · exact shows_put_bit _ _ (by decide) (by simp) rfl

/-! SAMPLE and CHECK (R298). -/

theorem sendEng_three (none : s.basil.rx = []) (p i : Nat) (a b c : Int) (o : Option Nat) :
    (s.each [(0, a), (1, b), (2, c)] (fun (q, x) s =>
      sendEng { src := 0, inst := p, sel := i + 4 * q, raw := BitVec.ofInt 32 x, at_ := o } s)).basil.rx.map
        (fun x => (x.src, x.inst, x.sel, x.raw)) =
      [(0, p, i, BitVec.ofInt 32 a), (0, p, i + 4, BitVec.ofInt 32 b), (0, p, i + 8, BitVec.ofInt 32 c)] := by
  simp [State.each, sendEng, none]

theorem sendEng_three_rd (s : State) (p i : Nat) (a b c : Int) (o : Option Nat) (r : Nat) :
    (s.each [(0, a), (1, b), (2, c)] (fun (q, x) s =>
      sendEng { src := 0, inst := p, sel := i + 4 * q, raw := BitVec.ofInt 32 x, at_ := o } s)).rd r = s.rd r := by
  simp [State.each, sendEng]

theorem tm_putTm (s : State) (m : Nat) (x : TMon) : (s.putTm m x).tm m = x := get_set_same _ _ _ _

theorem setPorts_setPorts (s : State) (v w : Tab Port) : (s.setPorts v).setPorts w = s.setPorts w := rfl

theorem received_setPorts (s : State) (p : Nat) (h : CellHdr) : ∃ v, received s p h = s.setPorts v := ⟨_, rfl⟩

/-- Matching an answer to its request changes the port at most. -/
theorem sampleMatch_setPorts (p i : Nat) (chk : Bool) (s : State) : ∃ t v, sampleMatch p i chk s = (t, s.setPorts v) := by
  obtain ⟨t, x, e | e⟩ := sampleMatch_eq p i chk s
  · exact ⟨t, s.ports, e⟩
  · exact ⟨t, _, e⟩

theorem disValue_none (none : s.diss = []) (p i v : Nat) : disValue p i v s = s := by
  unfold disValue
  rw [none]
  rfl

theorem tmItem_first {n t vdc cnt : Nat} {a : Int} (mine : s.mirrorGroup (s.legMg n) = false) (en : s.legEn n = true)
    (on : s.on (fSAGE_TM_CFG_en (s.legMg n)) = true) (watched : n ∈ s.tmLegs (s.legMg n)) (fresh : (s.tm (s.legMg n)).cnts = []) :
    tmItem n t a vdc cnt s = s.putTm (s.legMg n) { s.tm (s.legMg n) with
      items := (s.tm (s.legMg n)).items ++ [{ leg := n, t := t, i := a, vdc := vdc, cnt := cnt }],
      cnts := Tab.ins [] n (cnt % 256) } := by
  unfold tmItem
  simp [mine, en, on, watched, fresh, Tab.find]

/-- Settles O38: the next cell in order keeps the registers, and each answer then shows what it carries. -/
theorem hubAnswers : Obligations.HubAnswers := by
  unfold Obligations.HubAnswers
  refine ⟨?retracted, ?unknown, ?first, ?later, ?telem, ?sync, ?ident, ?caps, ?token, ?sample, ?check⟩
  case retracted =>
    intro p h i e s next same up delta one
    refine runs_hubCell rfl next same (linked_up up) ?_
    have same : ({ t := lowBits 37 ((e.t : Int) - s.delta), ls := e.ls, on := e.on } : Edge).sameCell e = true := by
      rw [delta, Int.sub_zero]
      simpa [Edge.sameCell] using lowBits_mod 37 e.t
    rw [takeResult_retracted (f := e) (by rw [received_port]; exact one) same]
    have port : (((received s p.val h).putPort p.val { (received s p.val h).port p.val with
        edges := [], resulted := ((received s p.val h).port p.val).resulted + 1 }).incr (fNDL_RETRACT_CNT_cnt p.val)).port p.val =
        { heardPort s p.val h with edges := [], resulted := (heardPort s p.val h).resulted + 1 } := by
      unfold State.incr
      rw [port_put, port_putPort, received_port]
    exact ⟨congrArg Port.edges port, congrArg Port.resulted port,
      (shows_incr32 _ _).trans (by rw [get_putPort, received_get]), congrArg (·.lk.rxSeq) port, congrArg Port.lastValid port,
      onlyRegs_put _ (by simp) (onlyRegs_received s p.val h _)⟩
  case unknown =>
    intro p h i t ls on s next same up calm
    refine runs_hubCell rfl next same (linked_up up) ?_
    have fault (e : Edge) (n : Nat) (u : State) : takeResult p.val n e .unknown u = protFault p.val u := by simp [takeResult]
    rw [fault]
    refine ⟨protFault_shows (s := received s p.val h) calm p.val, ?_, ?_⟩
    · rw [protFault_port, received_port]
      rfl
    · rw [protFault_inbox]
      exact Nat.lt_succ_self _
  case first =>
    intro p h cred fid peer q s next same up new none _ _
    refine runs_hubCell rfl next same (linked_up up) ?_
    rw [Nat.mod_eq_of_lt (by omega : q.val < 64)]
    obtain ⟨taken, edges, credits, entries, other⟩ := takeStatus_first (s := received s p.val h) (p := p.val)
      (by rw [received_port]; exact new) (by rw [received_port]; exact none) (by omega : q.val ≤ 32) (cred % 64) (fid % 16) (s.port p.val).dlLast peer true
    exact ⟨taken, credits, entries, other, by rw [edges, received_port]; rfl⟩
  case later =>
    intro p h cred fid peer q s next same up old none done acked sum calm
    refine runs_hubCell rfl next same (linked_up up) ?_
    rw [Nat.mod_eq_of_lt (by omega : q.val < 64), Nat.mod_eq_of_lt (by omega : cred.val < 64)]
    obtain ⟨credits, edges, sage⟩ := takeStatus_later (s := received s p.val h) (p := p.val) (by rw [received_port]; exact old)
      (by rw [received_port]; exact none) (by rw [received_port]; exact done)
      (by rw [received_port]; simp [heardPort, LinkSt.acked, acked]) calm sum (fid % 16) (s.port p.val).dlLast peer false
    exact ⟨credits, by rw [edges, received_port]; rfl, by rw [sage]; rfl⟩
  case telem =>
    intro p h i flags vboot temp vdrv dsat s next same up off stale calm
    refine runs_hubCell rfl next same (linked_up up) ?_
    rw [Nat.mod_eq_of_lt flags.isLt]
    obtain ⟨rep, _, rd⟩ := takeTelem_disabled (s := received s p.val h) off stale calm flags.val vboot.val temp.val
    obtain ⟨hf, hv, ht, valid⟩ := telemed_shows (show flags.val < 2 ^ 10 from flags.isLt) (show vboot.val < 2 ^ 12 from vboot.isLt)
      (show temp.val < 2 ^ 8 from temp.isLt) p.val i.val (received s p.val h)
    exact ⟨(shows_of_rd (rd _)).trans hf, (shows_of_rd (rd _)).trans hv, (shows_of_rd (rd _)).trans ht, (shows_of_rd (rd _)).trans valid, rep,
      fun a ha => (rd a).trans (onlyRegs_telemed _ _ _ _ _ (received s p.val h) a ha)⟩
  case sync =>
    intro p h id a turn t4 s calm same up delta past waits asym own lt le short half idle tmr
    refine runs_of_done (execSyncRsp_up calm same up delta past waits) ?_
    rw [Nat.mod_eq_of_lt lt]
    obtain ⟨l, r, v, regs, port⟩ := syncRsp_agrees (s := s.putPort p.val (hearingPort s p.val h.ack.val)) (p := p.val)
      ((portState_putPort _ _ _ _).trans up) ((get_putPort _ _ _ _).trans asym) (by rw [port_putPort]; exact own) delta le short half
      ((get_putPort _ _ _ _).trans idle)
    obtain ⟨rtt, e, ok, state⟩ := synced_shows short p.val (s.putPort p.val (hearingPort s p.val h.ack.val))
    have shown (f : Fld) : (joinAdvance 5 (takeSync p.val a turn 0 t4 (s.putPort p.val (hearingPort s p.val h.ack.val)))).shows f =
        (synced p.val (t4 - turn) (s.putPort p.val (hearingPort s p.val h.ack.val))).shows f := by rw [regs, shows_setPorts]
    rw [shows_putPort, ← get_eq_shows' s _ tmr] at state
    refine ⟨?_, (shown _).trans rtt, (shown _).trans e, (shown _).trans ok, (shown _).trans (state.trans up), ?_, ?_⟩
    all_goals
      rw [port]
      rfl
  case ident =>
    intro p h d s next same caps
    refine runs_hubCell rfl next same (linked_caps caps) ?_
    obtain ⟨x, e⟩ := takeCfg_id p.val d (received s p.val h)
    show (takeCfg p.val 0 d (received s p.val h)).rd _ = d ∧ OnlyRegs _ s (takeCfg p.val 0 d (received s p.val h))
    rw [e]
    exact ⟨rd_wr_same _ _ _, onlyRegs_wr _ (by simp) (onlyRegs_received s p.val h _)⟩
  case caps =>
    intro p h d s next same caps
    refine runs_hubCell rfl next same (linked_caps caps) ?_
    obtain ⟨x, e⟩ := takeCfg_caps p.val d (received s p.val h)
    show (takeCfg p.val 4 d (received s p.val h)).rd _ = d ∧ (takeCfg p.val 4 d (received s p.val h)).shows _ = _ ∧
      (takeCfg p.val 4 d (received s p.val h)).shows _ = _ ∧ OnlyRegs _ s (takeCfg p.val 4 d (received s p.val h))
    rw [e]
    obtain ⟨word, legs, pump⟩ := capable_shows p.val d ((received s p.val h).putPort p.val x)
    exact ⟨word, legs, pump, OnlyRegs.trans (onlyRegs_putPort x (onlyRegs_received s p.val h _)) (onlyRegs_capable p.val d _)⟩
  case token =>
    intro p h res holder s next same up
    refine runs_hubCell rfl next same (linked_up up) ?_
    obtain ⟨result, at_, busy⟩ := tokenShown_shows (show res.val < 2 ^ 2 from res.isLt) p.val holder (received s p.val h)
    have rd := takeTokenRsp_rd p.val res.val holder (received s p.val h) (aNDL_TOK_STAT p.val)
    exact ⟨(shows_of_rd rd).trans result, (shows_of_rd rd).trans at_, (shows_of_rd rd).trans busy⟩
  case sample =>
    intro p h i a b c s next same up none
    refine runs_hubCell rfl next same (linked_up up) ?_
    obtain ⟨t, v, e⟩ := sampleMatch_setPorts p.val i.val false (received s p.val h)
    obtain ⟨w, taken⟩ := received_setPorts s p.val h
    rw [e, taken, setPorts_setPorts]
    exact ⟨sendEng_three (s := s.setPorts v) none p.val i.val a b c _, fun r _ => sendEng_three_rd (s.setPorts v) p.val i.val a b c _ r⟩
  case check =>
    intro p h i a v cnt t s next same up asked quiet en mine on watched fresh
    refine runs_hubCell rfl next same (linked_up up) ?_
    obtain ⟨x, e⟩ := sampleMatch_first (s := received s p.val h) (p := p.val) (by rw [received_port]; exact asked) i.val true
    obtain ⟨w, taken⟩ := received_setPorts s p.val h
    rw [e, taken]
    obtain ⟨y, matched⟩ : ∃ y, (s.setPorts w).putPort p.val x = s.setPorts y := ⟨_, rfl⟩
    dsimp only
    rw [matched, disValue_none (s := s.setPorts y) quiet, tmItem_first (s := s.setPorts y) mine en on watched fresh]
    exact ⟨congrArg TMon.items (tm_putTm (s.setPorts y) _ _), fun _ _ => rfl⟩

end Sys2Proof.Proofs
end

section
/-! PROOFS. O33 fails: a port of the second half whose domain is off sets an error bit that two differing copies of NDL_ERR show already, and copy A
then keeps its 0 (01_register_pages.md R28, R29; 17_balls_and_electrical.md R575). -/
namespace Sys2Proof.Proofs
open Sys2Proof Sys2Proof.Machine Sys2Proof.Laws

variable {x s t : State}

/-! What Sage's handling of events leaves where no leg is enabled. -/

/-- No leg is enabled. -/
def NoLegs (s : State) : Prop := ∀ n ∈ allLegs, s.legEn n = false

theorem NoLegs.members (none : NoLegs s) (m : Nat) : s.members m = [] := by
  unfold State.members
  refine List.filter_eq_nil_iff.mpr fun n hn => ?_
  rw [none n hn]
  exact Bool.false_ne_true

/-- What the counting, the record and the notes of events touch: the pages FAB, REC, SAGE and APC and parts of their own. -/
def eventParts : Nat := 0x10002000C01A002

theorem NoLegs.of_touch (none : NoLegs s) (h : Touch eventParts s t) : NoLegs t := by
  intro n hn
  have same : t.get (fLEG_CFG_en n) = s.get (fLEG_CFG_en n) :=
    get_of_rd (rd_of_touch h (page_aLEG_CFG n) (by decide)) (tmr_of_touch h (by decide))
  have off := none n hn
  unfold State.legEn State.on at off ⊢
  rw [same, off]

/-- Without enabled legs no group is commanded. -/
theorem touch_handleEvent_noLegs (none : NoLegs x) (e : SEvt) (gone : List Nat) (h : Touch eventParts x s) : Touch eventParts x (handleEvent e gone s).1 := by
  have counted : Touch eventParts x (noteRecent e (s.when (decide (e.e < 43)) (fun s => s.incrSat (fSAGE_EVT_CNT_cnt e.e)))) :=
    touch_noteRecent ((Sub.refl eventParts).up rfl) e _ (h.when_ fun y hy => touch_incrSat (.inl (by rw [page_aSAGE_EVT_CNT]; rfl)) _ hy)
  have empty := (none.of_touch counted).members
  unfold handleEvent
  dsimp only
  split
  · exact counted
  · refine Touch.when_ (.when_ (.when_ (each_keeps (fun m hm y hy => ?none) counted) fun y hy => ?effects) fun y hy => ?record) fun y hy => ?last
    case none =>
      have covered := List.mem_of_mem_filter hm
      split at covered
      · have members := (List.mem_filter.mp covered).2
        rw [empty m] at members
        simp at members
      · cases covered
    case effects => exact touch_eventEffects ((Sub.refl eventParts).up rfl) _ _ hy
    case record => exact touch_eventRecord ((Sub.refl eventParts).up rfl) _ _ _ hy
    case last => exact touch_eventLast ((Sub.refl eventParts).up rfl) _ _ _ hy

theorem touch_settle_noLegs (none : NoLegs s) : Touch eventParts s (settle s) := by
  have rounds (n : Nat) (t : State) (h : Touch eventParts s t) : Touch eventParts s (drain n t) := by
    induction n generalizing t with
    | zero => exact h
    | succ n ih =>
      unfold drain
      split
      · exact h
      · exact ih _ (Touch.foldl_fst (touch_setSage ((Sub.refl eventParts).up rfl) _ _ h) fun e p hp => touch_handleEvent_noLegs none e p.2 hp)
  exact rounds 8 s (Touch.rfl' eventParts s)

/-! The counterexample. -/

/-- A state after reset whose second power domain is off, in which two copies of NDL_ERR hold bit 18, and copy A does not. -/
def errorVotedUp : State :=
  (State.reset.lower fNDLH_STAT_pd1).setTmr [(0x4004001C, (BitVec.ofNat 32 (2 ^ 18), BitVec.ofNat 32 (2 ^ 18)))]

theorem noLegs_errorVotedUp : NoLegs errorVotedUp := by
  unfold NoLegs
  decide +kernel

/-- What PORT_ENABLE of port 16 comes to in that state: nothing, since the device takes the error bit as set. -/
def portRefused : State := settle (portEn 16 (errorVotedUp.granted .apc0 .ndl))

theorem portRefused_shows : portRefused.shows ⟨0x4004001C, 18, 1⟩ = 0 := by decide +kernel

theorem portRefused_tmr : portRefused.tmr = errorVotedUp.tmr := by decide +kernel

/-- Refutes O33: with two copies of NDL_ERR that show the error already, PORT_ENABLE of a port whose domain is off does not make copy A show it. -/
theorem not_hubPorts : ¬ Obligations.HubPorts := by
  unfold Obligations.HubPorts
  rintro ⟨-, refused, -⟩
  have grants : errorVotedUp.grants .apc0 (aNDL_CTRL 16) true = true := by decide +kernel
  obtain ⟨u, run, -, shown, regs⟩ := refused .apc0 16 errorVotedUp grants (by decide) (by decide +kernel)
  have settled : portRefused = settle u := by
    refine Host.Outcome.next.inj (Eq.trans ?_ run)
    exact (congrArg done (access_of_grants_at grants rfl (portEn 16))).symm
  have tmr : u.tmr = errorVotedUp.tmr := by
    have same := tmr_of_touch (touch_settle (Sub.refl _) u (Touch.rfl' _ u)) (by decide)
    rw [← same, ← settled, portRefused_tmr]
  have noLegs : NoLegs u := by
    intro n hn
    have apart : (fLEG_CFG_en n).addr ∉ [0x4004001C, 0x40040010] := by
      show aLEG_CFG n ∉ _
      unfold aLEG_CFG
      simp only [List.mem_cons, List.not_mem_nil, or_false]
      omega
    have off := noLegs_errorVotedUp n hn
    unfold State.legEn State.on at off ⊢
    rw [get_of_rd (regs _ apart) tmr, off]
  have kept : (settle u).shows ⟨0x4004001C, 18, 1⟩ = u.shows ⟨0x4004001C, 18, 1⟩ :=
    shows_of_touch (k := 4) (touch_settle_noLegs noLegs) (by decide) (by decide)
  rw [← settled, portRefused_shows, shown] at kept
  exact absurd kept (by decide)

end Sys2Proof.Proofs
end
